-- ==== Sys2Proof/Word.lean ====
section
/-! DEFINITION. The word types of the QZ9640 model: registers are 32 bits wide (spec/00 R6), ordered
sets and frames carry bytes. Quantities that the manual never masks are `Nat` or `Int`. -/

set_option Elab.async false

namespace Sys2Proof

/-- A register word (R6). -/
abbrev Word := BitVec 32

/-- A byte of a frame or of the non-volatile memory. -/
abbrev Byte := BitVec 8

end Sys2Proof
end

