-- ==== Sys2Proof/Types.lean ====
section
/-! DEFINITION. The fixed sets of names of the manual and the records that travel on its links, shared by
the commands (Syntax) and by the state (Machine/State). Fields the manual gives an invalid code (R4) are
`Option`: `none` stands for "no value". -/

set_option Elab.async false

namespace Sys2Proof

/-- The two parts of the family (Table 00.1). -/
inductive Part | qz9640 | qz9641
deriving DecidableEq, Repr

/-- The four requesters of register operations, in the order of R367. -/
inductive Requester | spline | service | lbus | jtag
deriving DecidableEq, Repr

/-- The operation classes of R351, in the order of the table. -/
inductive OpClass | read | operate | configure | commit | clear | test | identity
deriving DecidableEq, Repr

/-- Run condition of the device between resets (R331, R336, R337, R61). -/
inductive Phase
  | held        -- power-on reset held, or a cold reset in progress
  | booting     -- released: SE verifies the image slots
  | starting    -- an image is booted and the ring start runs
  | ready       -- ring-ready reached
  | noImage     -- neither slot passed (R61)
  | warm        -- warm reset in progress
  | glueRestart -- structural glue-up restart in progress (Table 03.9)
  | hibernating -- every domain but PLINTH stopped (R337)
deriving DecidableEq, Repr

/-- State of one engine, coded as in PWR_ENGINE_STATE. -/
inductive EngRun | off | running | restarting | halted
deriving DecidableEq, Repr

/-- The eight engines, in the order of PWR_ENGINE_STATE. -/
inductive EngineId | me | cea | ceb | ee | pe | fe | he | se
deriving DecidableEq, Repr

/-- A memory in which a read finds an error (R32, R34, R35). -/
inductive EccMem | sram | tcm | nvm
deriving DecidableEq, Repr

/-- What the scrubber or a read finds in one word. -/
inductive EccRead | clean | single | double
deriving DecidableEq, Repr

/-- The battery chains. -/
inductive ChainId | a | b
deriving DecidableEq, Repr

/-- The two legs of the main bridge. -/
inductive Leg | a | b
deriving DecidableEq, Repr

/-- The two ring ports. -/
inductive RPort | e | w
deriving DecidableEq, Repr

/-- Published cell states (Table 01.3). -/
inductive CellSt | off | ready | blocked | running | degradedHb | bypassed
deriving DecidableEq, Repr

/-- Arm modes (Table 04.8, MODE); invalid codes are BLOCK (R83). -/
inductive ArmMode | energise | block | run | bypassAll | dcFaultRide
deriving DecidableEq, Repr

/-- Leg states (GLK_LEG_STATE). -/
inductive LegSt | running | hiZ | parked
deriving DecidableEq, Repr

/-- Gate-link words, coded as in GLK_OUT. -/
inductive GlWord | silent | off | on | hold | test | track
deriving DecidableEq, Repr

/-- Module states (Table 07.1). -/
inductive ModSt | insert | bypass | block | parked
deriving DecidableEq, Repr

/-- Chain states (Table 07.3). -/
inductive ChainSt | absent | block | connecting | run | zeroing | opening
deriving DecidableEq, Repr

/-- Steps of the connection (Table 07.5) and opening (Table 07.6) sequences. -/
inductive SeqStep
  | none
  | conDiag      -- terminal diagnostics before the connection (R209)
  | conNeg       -- K_NEG coil on, settling
  | conPre       -- K_PRE coil on, settling
  | conCharge    -- pre-charging towards the target
  | conPos       -- K_POS coil on, settling
  | conPreOff    -- K_PRE coil off, settling
  | abortPre     -- pre-charge ended: K_PRE off, K_NEG still on (R168)
  | openPos      -- K_POS coil off, settling
  | openTest1    -- test 1 running
  | openNeg      -- K_NEG coil off, settling
  | openPreOn    -- K_PRE coil on, settling
  | openTest2    -- test 2 running
  | openPreOff   -- K_PRE coil off, settling
  | openShort1   -- low V_CAP: K_POS off, tests skipped (R171)
  | openShort2   -- low V_CAP: K_NEG off, settling
  | forcePos     -- forced opening: K_POS off (R172)
  | forceNeg     -- forced opening: K_NEG off, settling
deriving DecidableEq, Repr

/-- Stages of a sentinel chain (SNA_STATE.STAGE). -/
inductive SenStage | asleep | waking | enumerating | enumerated | mismatch
deriving DecidableEq, Repr

/-- Staging state (IMG_STATUS.STAGING). -/
inductive Staging | empty | erasing | receiving | complete | dryfit
deriving DecidableEq, Repr

/-- Glue-up state (IMG_STATUS.GLUE). -/
inductive Glue | idle | announced | ready | confirmed | restarting | silent
deriving DecidableEq, Repr

/-- Urgent latch (SPL_STATUS.URG_LATCH). -/
inductive UrgLatch | none | armBlock | bypassAll
deriving DecidableEq, Repr

/-- Standing of the off-state diagnostics since the last block (R394). -/
inductive DiagSt | none | pending | running | passed | failed
deriving DecidableEq, Repr

/-- Dovetail state (DVT_STATUS.STATE). -/
inductive DvtSt | simplex | linkDown | tracking | owning | handing | clash
deriving DecidableEq, Repr

/-- Heater states (THM_HEAT). -/
inductive HeatSt | off | auto | forcedOn | forcedOff
deriving DecidableEq, Repr

/-- Local bus controller states (LBUS_STATUS.STATE). -/
inductive LbusSt | stopped | integrating | active | passive | busOff | monitoring
deriving DecidableEq, Repr

/-- JTAG instructions (Table 15.9). -/
inductive JtagInstr | extest | idcode | sample | regacc | debug | bypass
deriving DecidableEq, Repr

/-- Maintenance activities (Table 15.10). -/
inductive ActCode | learn | sentUpdate | gateTest | jig | precharge | contTest | heaterTest | recordExport
deriving DecidableEq, Repr

/-- Kinds of estimation record (Table 09.4). -/
inductive RecKind | state | count
deriving DecidableEq, Repr

/-- Causes of a port going down (R63). -/
inductive PortCause | lockLoss | syncErrors | queueBand | shimRange
deriving DecidableEq, Repr

/-- Causes of holdover (R82, event 0xA106). -/
inductive HoldCause | missingFrame | offset
deriving DecidableEq, Repr

/-- Why a transmission attempt ended (R309, R307): arbitration lost, no acknowledge, another error, or a frame
with BRS set whose measured loop delay is out of range. -/
inductive TxFail | arbitration | noAck | error | loopDelay (ns : Nat)
deriving DecidableEq, Repr

/-- A CAN frame as the controller sends or receives it. -/
structure CanFrame where
  /-- identifier -/
  id : BitVec 29
  /-- extended identifier -/
  xtd : Bool
  /-- CAN FD frame -/
  fdf : Bool
  /-- bit rate switched -/
  brs : Bool
  /-- ESI received -/
  esi : Bool
  /-- remote frame -/
  rtr : Bool
  /-- data length code -/
  dlc : BitVec 4
  /-- data bytes -/
  data : List Byte
  /-- low 32 bits of the Spline time of the start-of-frame sample point -/
  stamp : Word
deriving DecidableEq, Repr

/-- One register operation (Table 04.11). `op`: 0 padding, 1 read, 2 write, others malformed. -/
structure RegOp where
  dest : BitVec 16
  tag : BitVec 16
  op : BitVec 8
  addr : Word
  data : Word
deriving DecidableEq, Repr

/-- One result of a register operation (Table 04.12). -/
structure RegRsp where
  tag : BitVec 16
  status : Byte
  addr : Word
  data : Word
deriving DecidableEq, Repr

/-- An ordered set (R66, Table 04.3): set code D1, arguments D2 and D3, extension and check. -/
structure OrdSet where
  d1 : Byte
  d2 : Byte
  d3 : Byte
  ext : BitVec 24
  check : BitVec 4
deriving DecidableEq, Repr

/-- The fields of an ARM_CYCLE copy (Table 04.8), with the header fields the device uses. -/
structure ArmCycle where
  /-- sent by the west gateway -/
  fromWest : Bool
  /-- Spline time of the cycle boundary in µs, modulo 2^32 -/
  cycle : Nat
  hops : Nat
  txTime : Nat
  /-- accumulated correction, 1/16 ns -/
  corr : Nat
  ring : Nat
  ringSize : Nat
  mode : Nat
  applyTime : Nat
  vRef : Int
  vSlope : Int
  iArm : Option Int
  nActive : Nat
  eAvg : Nat
  socAvg : Option Nat
  pReq : Option Int
  ringTag : BitVec 64
  gluePhase : Nat
  glueTag : BitVec 64
  tG : Nat
  urgCode : Nat
  urgSeq : Nat
deriving DecidableEq, Repr

/-- The content of a CELL_STATUS (Table 04.9). -/
structure CellStatus where
  state : CellSt
  member : Bool
  owner : Bool
  board : BitVec 2
  legA : LegSt
  legB : LegSt
  mode : ArmMode
  urgent : Bool
  flags : BitVec 16
  vCap : Option Nat
  iTerm : Option Int
  eCap : Option Nat
  soc : Option Nat
  iChA : Option Int
  iChB : Option Int
  vChA : Option Nat
  vChB : Option Nat
  pBatt : Option Int
  pLimDis : Option Int
  pLimChg : Option Int
  tMax : Option Int
  tMin : Option Int
  activeMask : BitVec 32
  evtCount : Nat
  evtCode : Nat
  tagActive : BitVec 64
  tagStaged : BitVec 64
  dryfit : Byte
  glue : Byte
  shimE : Option Nat
  shimW : Option Nat
  police : BitVec 16
deriving DecidableEq, Repr

/-- What an ARM_SUMMARY says of a position: bytes 16, 81, 80 and 18 of its CELL_STATUS (Table 04.10). -/
structure PosEntry where
  state : Byte
  glue : Byte
  dryfit : Byte
  flags : Byte
deriving DecidableEq, Repr

/-- The fields of an ARM_SUMMARY (Table 04.10). -/
structure ArmSummary where
  cycle : Nat
  sumCycle : Nat
  rxMask : BitVec 32
  activeMask : BitVec 32
  break1 : Byte
  break2 : Byte
  pos : List PosEntry
deriving DecidableEq, Repr

/-- What a dovetail heartbeat carries (R281). `member` is the ROLE_SEL that the partner reports (R16). -/
structure Heartbeat where
  healthy : Bool
  owner : Bool
  give : Bool
  gen : Nat
  member : Bool
deriving DecidableEq, Repr

/-- A module set (R152, R186): state, trim phase and on-time in 10 ns units. -/
structure ModSet where
  st : ModSt
  phase : Nat
  w : Nat
deriving DecidableEq, Repr

/-- A set as it was sent to a module (R186, R189): its counter, the Spline time of its sending and that of the trim period
boundary from which it applies. -/
structure SentSet where
  cnt : BitVec 8
  set : ModSet
  time : Nat
  apply : Nat
deriving DecidableEq, Repr

/-- A SAMPLE payload (Table 08.4) with its echo (CNT). -/
structure SampleFrame where
  sseq : Nat
  echo : BitVec 8
  status : BitVec 16
  vmod : Option Nat
  cells : List (Option Nat)
  temps : List (Option Int)
  applied : List (BitVec 4)
  thOpen : BitVec 8
  owOpen : BitVec 33
  owNew : Bool
deriving DecidableEq, Repr

/-- What the integrator delivers for one trim period (R216), in µAs. -/
structure PeriodCharge where
  dQ : Int
  dN : Int
  dG1 : Int
  dG2 : Int
deriving DecidableEq, Repr

/-- The integrator snapshot of one strobe (R216): the Spline time of the strobe, the accumulator, the integrator epoch, and
the per-period values of the millisecond. -/
structure Snapshot where
  ts : Nat
  acc : Int
  epoch : Nat
  periods : List PeriodCharge
deriving DecidableEq, Repr

/-- A general analog input as converted at a scan step (R250): the temperature, 0.1 °C, and the resistance, Ω. -/
structure GenReading where
  temp : Option Int
  ohms : Nat
deriving DecidableEq, Repr

/-- What a scan step converts (R251): the general inputs and the die sensors, 0.1 °C. -/
structure ScanInputs where
  gen : List GenReading
  dieCtrl : Int
  dieMeas : Int
  diePower : Int
deriving DecidableEq, Repr

/-- A frame of the service port (Table 15.8) that the device answers with. -/
inductive SvcFrame
  | regRsp (results : List RegRsp)
  | ack (status : Byte) (expected : Word)
  | nak (seq : Nat)
deriving DecidableEq, Repr

/-- One coherent edge set of a pulse unit (R121, R122). `committedAt` is the model's clock of its commit. -/
structure PwmSet where
  period : Nat
  rise : Nat
  fall : Nat
  apply : Nat
  committedAt : Nat
deriving DecidableEq, Repr

/-- What one NVM write carries (R330, R371). -/
inductive NvmKind | state | count | till | event
deriving DecidableEq, Repr

/-- Chain engine state carried by the state mirror (R175). -/
structure ChainMirror where
  st : ChainSt
  order : List (Fin 32)
  nIns : Nat
  trim1 : Option (Fin 32)
  trim2 : Option (Fin 32)
  w1 : Nat
  w2 : Nat
  integ : Int
deriving DecidableEq, Repr

/-- What the mirror shows of one load channel (R302). -/
structure ChanMirror where
  isOn : Bool
  econ : Bool
  latched : Bool
  paused : Bool
  attempts : Nat
deriving DecidableEq, Repr

/-- The content of a STATE_MIRROR frame (R281). `fired` lists the partner's reaction firings since its
previous mirror, as entry indices. -/
structure Mirror where
  legA : LegSt
  legB : LegSt
  causeA : Nat
  causeB : Nat
  bInvert : Bool
  setA : Option PwmSet
  setB : Option PwmSet
  fired : List Nat
  latched : BitVec 64
  chA : ChainMirror
  chB : ChainMirror
  /-- command counters of the sentinels of each chain (R212) -/
  cntA : List (BitVec 8)
  cntB : List (BitVec 8)
  /-- the sets that passed the partner's end since its previous mirror, by module, oldest first (R212) -/
  setsA : List (Fin 32 × SentSet)
  setsB : List (Fin 32 × SentSet)
  /-- HOP of the ENUM that arrived at the partner's end of each chain (R195) -/
  hopA : Option Nat
  hopB : Option Nat
  load : List ChanMirror
  /-- the partner holds a valid reference (R276) -/
  refOk : Bool
  /-- a station bypass request passed on (R288) -/
  bypassReq : Bool
  /-- the partner's MNT_ACT_0 to MNT_ACT_3 (R359) -/
  acts : List Word
deriving DecidableEq, Repr

/-- Everything the device sends, newest first in `State.outbox`. -/
inductive Out
  /-- answer to a register operation that a command of its own row makes -/
  | status (p : Requester) (code : Nat)
  /-- answer to a register read that a command of its own row makes -/
  | value (p : Requester) (code : Nat) (data : Word)
  /-- bytes of a frame, or of its part, that passes out of a port (R68) -/
  | forwarded (port : RPort) (bytes : List Byte)
  /-- an ordered set of the device, or an urgent set that it passes on (R66, R77) -/
  | ordered (port : RPort) (x : OrdSet)
  /-- blocks of an own frame (R70) -/
  | ownFrame (port : RPort) (bytes : List Byte)
  /-- a BULK chunk of an export towards the service port, with its FLAGS (Table 04.13) -/
  | bulk (stream offset : Nat) (last : Bool) (data : List Byte)
  /-- an ordered set of O0 = 0xD on the dovetail link (R281) -/
  | heartbeat (x : OrdSet)
  | mirror (m : Mirror)
  | tokenGive (gen tH : Nat)
  | tokenAck (gen : Nat)
  /-- a frame from an end of a sentinel chain, HEAD or TAIL: the bytes between SOF and EOF (R183) -/
  | senFrame (c : ChainId) (tail : Bool) (bytes : List Byte)
  /-- two K23.7 characters from an end (R182) -/
  | blockAll (c : ChainId) (tail : Bool)
  /-- K28.1 and its data byte from an end (R198) -/
  | strobe (c : ChainId) (tail : Bool) (res : Nat)
  /-- idle pairs from an end of a sleeping chain (R193) -/
  | wakeTone (c : ChainId) (tail : Bool)
  | can (f : CanFrame)
  | canErrorFrame
  | canAck
  | service (f : SvcFrame)
deriving DecidableEq, Repr

end Sys2Proof
end

