-- ==== Sys2Proof/Image.lean ====
section
/-! DEFINITION. A carcass image as the device holds it once it has parsed it (spec/03, R41 to R46): the
values of the header, STRUCTURE, REACTION, INLAY, ESCUTCHEON and the parameter records that set behaviour. -/

set_option Elab.async false

namespace Sys2Proof

/-- A comparator record (Table 11.1). -/
structure CmpRec where
  input : Nat := 0
  mode : Nat := 0
  deglitch : Nat := 0
  hyst : Nat := 0
  threshold : Nat := 0
deriving DecidableEq, Repr, Inhabited

/-- A reaction entry (Table 11.4). -/
structure Reaction where
  source : Nat := 0
  states : BitVec 8 := 0
  immediate : BitVec 8 := 0
  escalate : Nat := 0
  count : Nat := 1
  recover : Nat := 0
  window : Nat := 1
  release : Nat := 0
  tag : Nat := 0
deriving DecidableEq, Repr

/-- A slot of the inlay table: start in ns from the boundary, owner (0 to 31, 0xE0, 0xE1), class, length. -/
structure InlaySlot where
  start : Nat := 0
  owner : Nat := 0
  cls : Nat := 1
  len : Nat := 64
deriving DecidableEq, Repr

/-- The inlay table (slot schedule): cycle length in ns and the slots. -/
structure Inlay where
  cycle : Nat := 25000
  slots : List InlaySlot := []
deriving DecidableEq, Repr

/-- A parameter record (Table 03.4, R46): function, level (0 BASIC, 1 EXPERT), number, value. -/
structure ParamRec where
  fn : Nat := 0
  level : Nat := 0
  num : Nat := 0
  value : Nat := 0
deriving DecidableEq, Repr

/-- The STRUCTURE section (Table 03.6). `lsw` holds the class bytes of Table 12.1, `genFn` the functions of
Table 10.1. A `minModules` or module count belongs to every declared chain. -/
structure Structure where
  board : Nat := 0
  engineMask : BitVec 8 := 0
  nChains : Nat := 0
  modules : Nat := 1
  cells : Nat := 16
  minModules : Nat := 1
  trims : Nat := 1
  kerfA : Nat := 0
  kerfB : Nat := 0
  lsw : Vector (BitVec 8) 12 := Vector.replicate 12 0
  senseSrc : Bool := false
  genFn : Vector Nat 8 := Vector.replicate 8 0
  cmps : Vector CmpRec 8 := Vector.replicate 8 {}
  /-- SRAM partition (base, size) per engine -/
  sram : List (Nat × Nat) := []
  /-- the bytes of the section that the manual gives no layout for agree with Table 03.6 (check 6) -/
  limitsOk : Bool := true
  /-- no pin carries two functions (check 5, code 0x21) -/
  pinsOk : Bool := true
deriving DecidableEq, Repr, Inhabited

/-- A parsed image. `tag` is the schedule tag, `structDigest` the STRUCTURE_DIGEST of the header. -/
structure Image where
  version : Word := 0
  secVersion : Nat := 0
  target : Nat := 0x9641
  targetRing : Nat := 0xFF
  expert : Word := 0
  schedDigest : BitVec 256 := 0
  structDigest : BitVec 256 := 0
  str : Structure := {}
  reactions : List Reaction := []
  inlay : Inlay := {}
  /-- escutcheon masks: 8 bytes per port 0 to 4 (Table 15.7 layout of the section) -/
  esc : List (BitVec 8) := []
  params : List ParamRec := []
  boardCal : List (BitVec 8) := []
deriving DecidableEq, Repr

/-- What stands for the image before one is booted: every value at its reset or default. -/
def Image.empty : Image := {}

/-- The schedule tag: the first eight bytes of SCHEDULE_DIGEST, byte 0 in bits 7:0. -/
def Image.tag (im : Image) : BitVec 64 := im.schedDigest.truncate 64

/-- Function n is at the EXPERT level (R46). -/
def Image.isExpert (im : Image) (fn : Nat) : Bool := im.expert.getLsbD fn

end Sys2Proof
end

