-- ==== Sys2Proof/Syntax.lean ====
section
/-! DEFINITION. The commands of the block: one constructor for every row of spec/opcode_table.json, in the
order of the table, with the values the row acts on. `p` is the port that makes a register operation, `c`
the battery chain, `m` the module. Quantities carry the encodings of spec/00 R3. -/

set_option Elab.async false

namespace Sys2Proof

/-- A command to the block. -/
inductive Instr
  /-- POWER_ON_RESET_RELEASE (R324) -/
  | powerOnResetRelease (vsys vbak : Nat) (roleSel senseSrc bypClosed : Bool)
  /-- BOOT_SLOT_VERIFY_COMPLETE (R60) -/
  | bootSlotVerifyComplete
  /-- RING_READY (R15) -/
  | ringReady
  /-- MEMBER_B_TOKEN_WAIT_EXPIRY (R15) -/
  | memberBTokenWaitExpiry
  /-- VSYS_PLINTH_SAMPLE (R327) -/
  | vsysPlinthSample (vsys : Nat)
  /-- STAGE4_HANDOFF_TIMEOUT (R329) -/
  | stage4HandoffTimeout
  /-- STAGE_RESTORE (R328) -/
  | stageRestore
  /-- STAGE1_CHANNEL_RESTORE (R299) -/
  | stage1ChannelRestore
  /-- RESET_COMPARATOR_TRIP (R331) -/
  | resetComparatorTrip
  /-- VBAK_OUT_OF_RANGE (R325) -/
  | vbakOutOfRange (vbak : Nat)
  /-- VAUX_LOW_DETECT (R326) -/
  | vauxLowDetect (vaux : Nat)
  /-- VAUX_LOW_CLEAR (R326) -/
  | vauxLowClear (vaux : Nat)
  /-- RESET_N_LOW (R331) -/
  | resetNLow
  /-- PWR_CMD_RUN (R328) -/
  | pwrCmdRun (p : Requester)
  /-- PWR_CMD_WARM (R335) -/
  | pwrCmdWarm (p : Requester)
  /-- PWR_CMD_COLD (R335) -/
  | pwrCmdCold (p : Requester)
  /-- PWR_CMD_HIBERNATE (R337) -/
  | pwrCmdHibernate (p : Requester)
  /-- HIBERNATE_ENTER (R337) -/
  | hibernateEnter
  /-- PWR_CMD_CLEAR_VBAK (R325) -/
  | pwrCmdClearVbak (p : Requester)
  /-- HIB_WAKE_TIMER_EXPIRY (R339) -/
  | hibWakeTimerExpiry
  /-- HIB_CCI_WAKE (R339) -/
  | hibCciWake (c : ChainId)
  /-- LBUS_WAKE (R321) -/
  | lbusWake (frame : Option CanFrame)
  /-- ENGINE_WATCHDOG_EXPIRY (R28) -/
  | engineWatchdogExpiry (e : EngineId) (stray : Option Word)
  /-- ENGINE_RESTART_COMPLETE (R30) -/
  | engineRestartComplete (e : EngineId)
  /-- WARM_RESET_RESUME (R334) -/
  | warmResetResume
  /-- CLAMP_HOLD_TIMEOUT (R298) -/
  | clampHoldTimeout
  /-- CLAMP_HOLD_STAGE3_END (R333) -/
  | clampHoldStage3End
  /-- LOCKSTEP_MISMATCH (R31) -/
  | lockstepMismatch (se : Bool)
  /-- ECC_UNCORRECTABLE (R32) -/
  | eccUncorrectable (mem : EccMem) (addr : Word) (reader : EngineId) (corrected : Nat)
  /-- SRAM_SCRUB_STEP (R33) -/
  | sramScrubStep (r : EccRead)
  /-- PLINTH_FREQ_MEASURE (R37) -/
  | plinthFreqMeasure (hz : Nat)
  /-- IMG_CMD_STAGE_BEGIN (R48) -/
  | imgCmdStageBegin (p : Requester) (len : Nat)
  /-- IMG_CMD_STAGE_END (R48) -/
  | imgCmdStageEnd (p : Requester)
  /-- IMG_CMD_DRYFIT (R50) -/
  | imgCmdDryfit (p : Requester)
  /-- IMG_CMD_ABORT (R55) -/
  | imgCmdAbort (p : Requester)
  /-- STAGING_CHUNK (R89) -/
  | stagingChunk (port : RPort) (b : List Byte)
  /-- DRYFIT_COMPLETE (R50) -/
  | dryfitComplete
  /-- GLUE_UP_SWITCH (R55) -/
  | glueUpSwitch
  /-- GLUE_RESTART_COMPLETE (R56) -/
  | glueRestartComplete
  /-- SPL_BLOCK_LOCK (R63) -/
  | splBlockLock (port : RPort) (locked : Bool)
  /-- SPL_PORT_UP (R63) -/
  | splPortUp (port : RPort)
  /-- SPL_PORT_DOWN (R63) -/
  | splPortDown (port : RPort) (cause : PortCause)
  /-- HELLO_RX (R66) -/
  | helloRx (port : RPort) (x : OrdSet)
  /-- SHIM_PING_TIMER (R79) -/
  | shimPingTimer
  /-- SHIM_PING_RX (R79) -/
  | shimPingRx (port : RPort) (x : OrdSet) (turnaround : Nat)
  /-- SHIM_ECHO_RX (R79) -/
  | shimEchoRx (port : RPort) (x : OrdSet) (roundTrip : Nat)
  /-- URGENT_ARM_BLOCK (R78) -/
  | urgentArmBlock (port : RPort) (x : OrdSet)
  /-- URGENT_BYPASS_ALL (R78) -/
  | urgentBypassAll (port : RPort) (x : OrdSet)
  /-- URGENT_RESUME (R78) -/
  | urgentResume (port : RPort) (x : OrdSet)
  /-- FRAME_FORWARD (R68) -/
  | frameForward (port : RPort) (b : List Byte) (residence : Nat) (cut : Option Nat)
  /-- PORT_READMIT (R91) -/
  | portReadmit (port : RPort)
  /-- ARM_CYCLE_RX (R93) -/
  | armCycleRx (port : RPort) (b : List Byte)
  /-- CELL_STATUS_RX (R84) -/
  | cellStatusRx (port : RPort) (b : List Byte)
  /-- ARM_SUMMARY_RX (R85) -/
  | armSummaryRx (port : RPort) (b : List Byte)
  /-- REG_REQ_RX (R86) -/
  | regReqRx (port : RPort) (b : List Byte)
  /-- REG_OP_EXECUTE (R87) -/
  | regOpExecute
  /-- OWN_FRAME_FREEZE (R71) -/
  | ownFrameFreeze (slot cycle : Nat) (complete : Bool)
  /-- OWN_FRAME_LAUNCH (R70) -/
  | ownFrameLaunch (port : RPort)
  /-- HOLDOVER_ENTRY (R82) -/
  | holdoverEntry (cause : HoldCause)
  /-- HOLDOVER_EXPIRY (R82) -/
  | holdoverExpiry
  /-- REF_FRAME_COMMIT (R25) -/
  | refFrameCommit
  /-- CYCLE_BOUNDARY (R17) -/
  | cycleBoundary
  /-- PWM_COMMIT (R123) -/
  | pwmCommit (leg : Leg)
  /-- PWM_REPLACE_COMMIT (R126) -/
  | pwmReplaceCommit (leg : Leg)
  /-- PULSE_UNIT_START (R125) -/
  | pulseUnitStart (leg : Leg)
  /-- PULSE_RELOAD (R122) -/
  | pulseReload (leg : Leg)
  /-- GL_STATUS_FRAME_RX (R135) -/
  | glStatusFrameRx (link : Fin 4) (bits : BitVec 16) (check : BitVec 4)
  /-- GL_STATUS_LOST (R136) -/
  | glStatusLost (link : Fin 4)
  /-- PE_ASSESSMENT (R270) -/
  | peAssessment (vCap : Option Nat) (iTerm : Option Int)
  /-- FIRE_DELAY_EXPIRY (R275) -/
  | fireDelayExpiry
  /-- BYP_STAT_CLOSED (R144) -/
  | bypStatClosed
  /-- BYP_CLOSE_TIMEOUT (R144) -/
  | bypCloseTimeout
  /-- OFF_STATE_DIAG_START (R141) -/
  | offStateDiagStart
  /-- OFF_STATE_DIAG_COMPLETE (R141) -/
  | offStateDiagComplete
  /-- LEG_RETEST_COMPLETE (R271) -/
  | legRetestComplete
  /-- TAKE_HOLD_TIMEOUT (R142) -/
  | takeHoldTimeout
  /-- GLK_JIG_GO (R145) -/
  | glkJigGo (p : Requester) (sw : Nat)
  /-- JIG_PULSE_END (R145) -/
  | jigPulseEnd
  /-- COMPARATOR_CROSSING (R270) -/
  | comparatorCrossing (n : Fin 8) (input : BitVec 16) (lasted : Nat)
  /-- COMPARATOR_RETURN (R396) -/
  | comparatorReturn (n : Fin 8) (input : BitVec 16)
  /-- TRIP_IN_ASSERT (R278) -/
  | tripInAssert
  /-- TRIP_IN_COUNT_WAIT_EXPIRY (R280) -/
  | tripInCountWaitExpiry
  /-- TRIP_OUT_RELEASE (R278) -/
  | tripOutRelease
  /-- REACTION_AUTO_RELEASE (R271) -/
  | reactionAutoRelease (e : Fin 64)
  /-- MEAS_LOST_OPEN_EXPIRY (R273) -/
  | measLostOpenExpiry (c : ChainId)
  /-- PRT_CLEAR_ENTRY (R272) -/
  | prtClearEntry (p : Requester) (e : Fin 64)
  /-- PRT_CLEAR_ALL (R272) -/
  | prtClearAll (p : Requester)
  /-- PRT_BYPASS_REQ (R288) -/
  | prtBypassReq (p : Requester) (value : Word)
  /-- HEARTBEAT_SEND (R281) -/
  | heartbeatSend
  /-- HEARTBEAT_RX (R283) -/
  | heartbeatRx (x : OrdSet)
  /-- HEARTBEAT_TIMEOUT (R283) -/
  | heartbeatTimeout
  /-- STATE_MIRROR_SEND (R281) -/
  | stateMirrorSend
  /-- STATE_MIRROR_RX (R281) -/
  | stateMirrorRx (m : Option Mirror)
  /-- DVT_CMD_HANDOVER (R284) -/
  | dvtCmdHandover (p : Requester)
  /-- TOKEN_GIVE_RX (R284) -/
  | tokenGiveRx (gen tH : Nat)
  /-- TOKEN_ACK_RX (R284) -/
  | tokenAckRx (gen : Nat)
  /-- HANDOVER_SWITCH (R284) -/
  | handoverSwitch
  /-- HANDOVER_ACK_TIMEOUT (R284) -/
  | handoverAckTimeout
  /-- DVT_LINK_DOWN (R285) -/
  | dvtLinkDown
  /-- DVT_LINK_UP (R281) -/
  | dvtLinkUp
  /-- CURRENT_LOOP_TICK (R157) -/
  | currentLoopTick (c : ChainId) (i : Option Int) (vCap vCh : Option Nat)
  /-- TRIM_PERIOD_STAIRCASE (R153) -/
  | trimPeriodStaircase (c : ChainId)
  /-- SAMPLE_STROBE (R197) -/
  | sampleStrobe (c : ChainId) (i : Option Int) (vCap vCh : Option Nat) (run hib : Int) (shunt : List (Nat × Int))
  /-- OVER_BUDGET_TICK (R156) -/
  | overBudgetTick (c : ChainId) (mean : Int)
  /-- CHA_CMD_CONNECT (R167) -/
  | chaCmdConnect (p : Requester) (c : ChainId)
  /-- CHA_CMD_RUN (R165) -/
  | chaCmdRun (p : Requester) (c : ChainId)
  /-- CHA_CMD_BLOCK (R170) -/
  | chaCmdBlock (p : Requester) (c : ChainId)
  /-- CHA_CMD_DISCONNECT (R165) -/
  | chaCmdDisconnect (p : Requester) (c : ChainId)
  /-- CONNECT_STEP_TIMER (R167) -/
  | connectStepTimer (c : ChainId)
  /-- PRECHARGE_TARGET_REACHED (R167) -/
  | prechargeTargetReached (c : ChainId)
  /-- PRECHARGE_TIMEOUT (R168) -/
  | prechargeTimeout (c : ChainId)
  /-- PRECHARGE_COOLDOWN_END (R168) -/
  | prechargeCooldownEnd (c : ChainId)
  /-- ZEROING_COMPLETE (R170) -/
  | zeroingComplete (c : ChainId)
  /-- PROTECTIVE_ZERO_BLOCK (R170) -/
  | protectiveZeroBlock (c : ChainId)
  /-- OPENING_STEP_TIMER (R171) -/
  | openingStepTimer (c : ChainId)
  /-- FORCED_OPEN (R172) -/
  | forcedOpen (c : ChainId)
  /-- CHA_PARK_GO (R163) -/
  | chaParkGo (p : Requester) (c : ChainId) (m : Fin 32)
  /-- PARK_EXECUTE (R163) -/
  | parkExecute (c : ChainId) (m : Fin 32)
  /-- CHA_CLEAR_UNPARK (R164) -/
  | chaClearUnpark (p : Requester) (c : ChainId) (m : Fin 32)
  /-- CHA_CLEAR_WELD (R173) -/
  | chaClearWeld (p : Requester) (c : ChainId)
  /-- LEARN_HALF_PERIOD (R176) -/
  | learnHalfPeriod (c : ChainId)
  /-- SNA_CMD_WAKE (R193) -/
  | snaCmdWake (p : Requester) (c : ChainId)
  /-- SNA_CMD_SLEEP (R211) -/
  | snaCmdSleep (p : Requester) (c : ChainId)
  /-- ENUM_START (R193) -/
  | enumStart (c : ChainId)
  /-- ENUM_RETURN (R195) -/
  | enumReturn (c : ChainId) (b : List Byte)
  /-- ENUMERATION_COMPLETE (R195) -/
  | enumerationComplete (c : ChainId)
  /-- STROBE_LAUNCH (R198) -/
  | strobeLaunch (c : ChainId) (res : Nat)
  /-- SAMPLE_RX (R190) -/
  | sampleRx (c : ChainId) (b : List Byte)
  /-- SRS_RX (R191) -/
  | srsRx (c : ChainId) (b : List Byte)
  /-- PONG_RX (R199) -/
  | pongRx (c : ChainId) (b : List Byte) (roundTrip : Nat)
  /-- PING_TIMER (R199) -/
  | pingTimer (c : ChainId)
  /-- SAMPLE_SET_COMPLETE (R206) -/
  | sampleSetComplete (c : ChainId)
  /-- OW_TEST_TIMER (R205) -/
  | owTestTimer (c : ChainId)
  /-- SENTINEL_SILENT (R210) -/
  | sentinelSilent (c : ChainId) (m : Fin 32)
  /-- LOST_MODULE_POLL (R210) -/
  | lostModulePoll (c : ChainId) (m : Fin 32)
  /-- BSW_TEST_ISSUE (R208) -/
  | bswTestIssue (c : ChainId) (m : Fin 32) (cell : Option (Fin 32))
  /-- EE_MILLISECOND_COUNT (R214) -/
  | eeMillisecondCount (c : ChainId)
  /-- ANCHOR_TIMER_EXPIRY (R226) -/
  | anchorTimerExpiry (c : ChainId) (m : Fin 32) (k : Fin 32) (full : Bool)
  /-- LIMITS_PUBLISH (R233) -/
  | limitsPublish
  /-- LIMITS_STALE (R233) -/
  | limitsStale (c : ChainId)
  /-- BALANCE_TICK (R234) -/
  | balanceTick (c : ChainId)
  /-- OCV_REST_EXPIRY (R246) -/
  | ocvRestExpiry (c : ChainId) (m : Fin 32) (k : Fin 32)
  /-- CHECKPOINT_TIMER (R239) -/
  | checkpointTimer
  /-- COUNT_PERIOD_TIMER (R238) -/
  | countPeriodTimer
  /-- RECORD_WRITE_START (R238) -/
  | recordWriteStart (kind : RecKind)
  /-- EST_CMD_CHECKPOINT (R239) -/
  | estCmdCheckpoint (p : Requester)
  /-- EST_CMD_RESET_MODULE (R245) -/
  | estCmdResetModule (p : Requester) (c : ChainId) (m : Fin 32)
  /-- VNR_CTRL_PRESET (R223) -/
  | vnrCtrlPreset (p : Requester) (c : ChainId)
  /-- SCAN_STEP (R251) -/
  | scanStep (inputs : ScanInputs)
  /-- SENSOR_RETURN (R256) -/
  | sensorReturn (c : ChainId) (m : Fin 32) (t : Fin 8)
  /-- COLD_SHUTDOWN_END (R262) -/
  | coldShutdownEnd (c : ChainId)
  /-- HOT_RELEASE_READY (R262) -/
  | hotReleaseReady (c : ChainId)
  /-- HEATER_STAGGER (R259) -/
  | heaterStagger
  /-- THM_HEAT_CMD (R260) -/
  | thmHeatCmd (p : Requester) (ch : Nat) (action : Nat)
  /-- HEAT_OVERRIDE_EXPIRY (R260) -/
  | heatOverrideExpiry (ch : Fin 12)
  /-- THM_CLEAR_RELEASE (R262) -/
  | thmClearRelease (p : Requester) (c : ChainId)
  /-- THM_CLEAR_ERASE (R263) -/
  | thmClearErase (p : Requester)
  /-- TILL_RECORD_WRITE (R263) -/
  | tillRecordWrite
  /-- LSW_CMD (R290) -/
  | lswCmd (p : Requester) (ch : Nat) (action : Nat)
  /-- LSW_CLEAR (R294) -/
  | lswClear (p : Requester) (mask : BitVec 12)
  /-- LSW_SENSE_SELECT (R301) -/
  | lswSenseSelect (p : Requester) (code : BitVec 4)
  /-- CURRENT_LIMIT_REACHED (R292) -/
  | currentLimitReached (ch : Fin 12) (current : Int)
  /-- LIMIT_TIME_EXPIRY (R292) -/
  | limitTimeExpiry (ch : Fin 12)
  /-- JUNCTION_OVERTEMP (R292) -/
  | junctionOvertemp (ch : Fin 12) (tj : Int)
  /-- INRUSH_WINDOW_END (R293) -/
  | inrushWindowEnd (ch : Fin 12)
  /-- RETRY_PAUSE_END (R294) -/
  | retryPauseEnd (ch : Fin 12)
  /-- RETRY_COUNT_RESET (R294) -/
  | retryCountReset (ch : Fin 12)
  /-- CLUSTER_SENSOR_SAMPLE (R296) -/
  | clusterSensorSample (cl : Fin 3) (temp : Int) (tjs : List Int) (is : List Int)
  /-- COIL_SHED_DELAY_EXPIRY (R296) -/
  | coilShedDelayExpiry (ch : Fin 12)
  /-- CLUSTER_RESTORE_STAGGER (R296) -/
  | clusterRestoreStagger (cl : Fin 3)
  /-- ECON_PULL_END (R297) -/
  | econPullEnd (ch : Fin 12)
  /-- OPEN_LOAD_ON_DETECT (R300) -/
  | openLoadOnDetect (ch : Fin 12)
  /-- OFF_STATE_LOAD_TEST (R300) -/
  | offStateLoadTest (ch : Fin 12) (vout : Nat)
  /-- LBUS_TX_GO (R308) -/
  | lbusTxGo (p : Requester) (b : Fin 16)
  /-- LBUS_TX_CANCEL (R310) -/
  | lbusTxCancel (p : Requester) (mask : BitVec 16)
  /-- CAN_TX_COMPLETE (R309) -/
  | canTxComplete (b : Fin 16) (delay : Nat)
  /-- CAN_TX_ATTEMPT_FAIL (R309) -/
  | canTxAttemptFail (b : Fin 16) (why : TxFail)
  /-- CAN_FRAME_RX (R311) -/
  | canFrameRx (f : CanFrame)
  /-- LBUS_SERVICE_REQUEST (R315) -/
  | lbusServiceRequest
  /-- LBUS_RX_ACK (R312) -/
  | lbusRxAck (p : Requester) (e : Fin 64)
  /-- LBUS_STATUS_PERIOD (R316) -/
  | lbusStatusPeriod
  /-- LBUS_BUS_OFF (R318) -/
  | lbusBusOff
  /-- BUSOFF_HOLD_EXPIRY (R318) -/
  | busoffHoldExpiry
  /-- BUS_OFF_RECOVERED (R318) -/
  | busOffRecovered
  /-- LBUS_CMD_RECOVER (R318) -/
  | lbusCmdRecover (p : Requester)
  /-- SEC_CMD_ATTEST (R348) -/
  | secCmdAttest (p : Requester)
  /-- ATTEST_SIGNED (R348) -/
  | attestSigned
  /-- SEC_CMD_STEP_FIELD (R342) -/
  | secCmdStepField (p : Requester)
  /-- SEC_COUNTER_WRITE (R347) -/
  | secCounterWrite
  /-- ENROLMENT_OBJECT (R345) -/
  | enrolmentObject (object : List Byte)
  /-- SVC_REG_REQ (R353) -/
  | svcRegReq (seq : Nat) (ops : List RegOp)
  /-- SVC_BULK (R353) -/
  | svcBulk (seq stream off : Nat) (data : List Byte)
  /-- SVC_FRAME_GAP_TIMEOUT (R353) -/
  | svcFrameGapTimeout
  /-- SVC_FRAME_CRC_FAIL (R353) -/
  | svcFrameCrcFail (seq : Nat)
  /-- JTAG_TAP_RESET (R354) -/
  | jtagTapReset
  /-- JTAG_INSTRUCTION (R354) -/
  | jtagInstruction (i : JtagInstr)
  /-- MNT_START_LEARN (R176) -/
  | mntStartLearn (p : Requester) (c : ChainId) (m : Fin 32)
  /-- MNT_START_SENT_UPDATE (R355) -/
  | mntStartSentUpdate (p : Requester) (c : ChainId) (m : Fin 32)
  /-- MNT_START_GATE_TEST (R355) -/
  | mntStartGateTest (p : Requester) (c : ChainId) (m : Fin 32)
  /-- MNT_START_JIG (R145) -/
  | mntStartJig (p : Requester) (c : ChainId) (m : Fin 32)
  /-- MNT_START_PRECHARGE (R355) -/
  | mntStartPrecharge (p : Requester) (c : ChainId) (m : Fin 32)
  /-- MNT_START_CONT_TEST (R355) -/
  | mntStartContTest (p : Requester) (c : ChainId) (m : Fin 32)
  /-- MNT_START_HEATER_TEST (R355) -/
  | mntStartHeaterTest (p : Requester) (c : ChainId) (m : Fin 32)
  /-- MNT_START_RECORD_EXPORT (R373) -/
  | mntStartRecordExport (p : Requester) (c : ChainId) (m : Fin 32)
  /-- MNT_STOP (R357) -/
  | mntStop (p : Requester) (slot : Fin 4)
  /-- ACT_TIMEOUT_EXPIRY (R357) -/
  | actTimeoutExpiry (slot : Fin 4)
  /-- ACTIVITY_COMPLETE (R357) -/
  | activityComplete (slot : Fin 4)
  /-- EVENT_LOG_COPY (R371) -/
  | eventLogCopy
  /-- EVT_SEL_WRITE (R373) -/
  | evtSelWrite (p : Requester) (seq : BitVec 24)
  /-- READ_LOW_WORD_LATCH (R7) -/
  | readLowWordLatch (p : Requester) (addr : Word)
  /-- RC_READ (R8) -/
  | rcRead (p : Requester) (addr : Word)
  /-- REGISTER_WRITE (R362) -/
  | registerWrite (p : Requester) (addr value : Word)
  /-- TRIP_IN_RELEASE (R396) -/
  | tripInRelease
  /-- PULSE_COMPARE_EDGE (R121) -/
  | pulseCompareEdge (leg : Leg)
  /-- KERF_TURN_ON (R127) -/
  | kerfTurnOn (leg : Leg)
  /-- TEST_WINDOW_EXPIRY (R141) -/
  | testWindowExpiry
  /-- NVM_WRITE_COMPLETE (R238) -/
  | nvmWriteComplete
  /-- STAGE_ERASE_COMPLETE (R48) -/
  | stageEraseComplete
  /-- LBUS_RX_ERROR (R318) -/
  | lbusRxError (dominant : Bool)
  /-- LBUS_BUS_IDLE (R319) -/
  | lbusBusIdle
  /-- HEATER_TEST_CHANNEL_END (R355) -/
  | heaterTestChannelEnd
  /-- SENSE_SEL_PIN_CHANGE (R301) -/
  | senseSelPinChange (code : BitVec 4)
deriving DecidableEq, Repr

end Sys2Proof
end

