-- ==== Sys2Proof/Decode.lean ====
section
/-! DEFINITION. The command that a word spells. spec/opcode_table.json gives none of its rows any bits: the
block takes commands from its ports, pins and links and fetches no words. -/

set_option Elab.async false

namespace Sys2Proof

/-- The command spelled by a word of the table's bits: no row has bits, so none. -/
def decodeTableWord (_nbits _w : Nat) : Option Instr := none

end Sys2Proof
end

