-- ==== Sys2Proof/Config.lean ====
section
/-! DEFINITION. Values that the manual leaves open, as opaque constants: nothing can be proved about the value
of one. A free value is applied to the counter `State.free`, which the step advances, so that two uses are
independent of each other. The functions of byte strings stand for the algorithms and byte layouts that the
manual names without giving them. -/

set_option Elab.async false

namespace Sys2Proof

/-- A free integer (log entry 5). -/
opaque Config.freeInt : Nat → Int

/-- A free natural number (log entry 5). -/
opaque Config.freeNat : Nat → Nat

/-- Shim of a link that nobody has published, 1/16 ns (spec/04 R70; log entry 44). -/
opaque Config.linkShim : Nat → Nat

/-- Residence time of a position as this device knows it, 1/16 ns, by position and westward direction (spec/04 R70; log
entry 44). -/
opaque Config.residence : Nat → Bool → Nat

/-- Shunt resistance of a chain in nΩ as BOARD_CAL gives it, whose layout the manual does not give (R216; log entry 49). -/
opaque Config.shuntNano : List (BitVec 8) → Nat → Nat

/-- A mailbox of engine n covers an SRAM offset (R26; log entry 42). -/
opaque Config.mailbox : Nat → Nat → Bool

/-- SM3 of a byte string, byte 0 of the digest in bits 7:0 (log entry 6). -/
opaque Config.sm3 : List (BitVec 8) → BitVec 256

/-- The SM2 signature of a message by a signer with an identifier verifies under the key of a certificate (R44; log
entry 6): message, identifier, signature, certificate. -/
opaque Config.sm2Verify : List (BitVec 8) → List (BitVec 8) → List (BitVec 8) → List (BitVec 8) → Bool

/-- A certificate chains to a root (log entry 6). -/
opaque Config.certChains : List (BitVec 8) → List (BitVec 8) → Bool

/-- A certificate has expired at a Spline time (log entry 6). -/
opaque Config.certExpired : List (BitVec 8) → Nat → Bool

/-- A FIRMWARE section carries a valid signature of its own under the firmware root (R43; log entry 6). -/
opaque Config.firmwareSigned : List (BitVec 8) → List (BitVec 8) → Bool

/-- The STRUCTURE section, whose groups the manual lists without their offsets (Table 03.6; log entry 6). -/
opaque Config.parseStructure : List (BitVec 8) → Structure

/-- Item 0 to 2 of the identity area (Table 15.2) of the device as shipped (log entry 6). -/
opaque Config.shippedItem : Nat → List (BitVec 8)

/-- A certificate is DER-encoded X.509 v3 with an SM2 key (R44, R345; log entry 6). -/
opaque Config.certForm : List (BitVec 8) → Bool

/-- A certificate is self-signed with basicConstraints cA set (R345; log entry 6). -/
opaque Config.rootForm : List (BitVec 8) → Bool

/-- Serial number of a certificate (Table 15.4; log entry 6). -/
opaque Config.certSerial : List (BitVec 8) → Nat

/-- The signature bytes of a report under the device key, which is not readable (log entry 6). -/
opaque Config.signReport : List (BitVec 8) → List (BitVec 8)

/-- The bytes of BULK stream 3, whose content and layout the manual does not give (log entry 6). -/
opaque Config.recordStream : Nat → List (BitVec 8)

end Sys2Proof
end

