-- ==== Sys2Proof/Machine/Params.lean ====
section
/-! DEFINITION. The parameters of a carcass image (spec/03 R46): each value by its record at the level in
force, its default, or what the BASIC set gives, and the range that dry-fit checks. Tables 05.3, 06.8, 07.8,
08.12, 09.6, 09.7, 10.4, 11.11, 12.6, 13.3, 14.8 and 15.12. -/

set_option Elab.async false

namespace Sys2Proof

/-- The value of the first record of a function, level and number: where several have the same three, the first one in
the section takes effect. DESIGN CHOICE, log entry 43. -/
def Image.rec? (im : Image) (fn level num : Nat) : Option Nat :=
  (im.params.find? fun r => r.fn == fn && r.level == level && r.num == num).map (·.value)

/-- A parameter defined at both levels (R46): the record at the level in force, else the default. -/
def Image.both (im : Image) (fn num dflt : Nat) : Nat :=
  (im.rec? fn (if im.isExpert fn then 1 else 0) num).getD dflt

/-- An EXPERT parameter (R46): its record or default at the EXPERT level, else what the BASIC set gives. -/
def Image.expertOnly (im : Image) (fn num dflt fromBasic : Nat) : Nat :=
  if im.isExpert fn then (im.rec? fn 1 num).getD dflt else fromBasic

/-- A value in the s32 encoding. -/
def s32 (v : Nat) : Int := (BitVec.ofNat 32 v).toInt

/-- As `Image.both` for an s32 parameter. -/
def Image.bothS (im : Image) (fn num : Nat) (dflt : Int) : Int :=
  ((im.rec? fn (if im.isExpert fn then 1 else 0) num).map s32).getD dflt

/-- As `Image.expertOnly` for an s32 parameter. -/
def Image.expertOnlyS (im : Image) (fn num : Nat) (dflt fromBasic : Int) : Int :=
  if im.isExpert fn then ((im.rec? fn 1 num).map s32).getD dflt else fromBasic

/-- Rounding of a ratio to the nearest unit, halves away from zero, for natural numbers. -/
def roundDiv (a b : Nat) : Nat := (2 * a + b) / (2 * b)

/-- K_P of the BASIC level: 2π × LOOP_BW × L_CHAIN in mV/A (R157), with π to 15 decimals. -/
def kpBasic (bw l : Nat) : Nat := roundDiv (2 * 3141592653589793 * bw * l) (10 ^ 15 * 1000)

/-- K_I of the BASIC level from the unrounded K_P (R157), in mV/(A·ms). -/
def kiBasic (bw l : Nat) : Nat := roundDiv (4 * 9869604401089359 * bw * bw * l) (10 ^ 15 * 5000000)

/-- The function number of a chain's parameters (Table 03.4). -/
def ChainId.fn : ChainId → Nat
  | .a => 2
  | .b => 3

/-- The function number of a sentinel chain's parameters (Table 03.4). -/
def ChainId.senFn : ChainId → Nat
  | .a => 4
  | .b => 5

/-- F_CARRIER, Hz. -/
def Image.fCarrier (im : Image) : Nat := im.both 0 0 200

/-- C_CELL, µF; 0 stands for an image without a record, which dry-fit refuses. -/
def Image.cCell (im : Image) : Nat := im.both 0 1 0

/-- ARM_RINGS. -/
def Image.armRings (im : Image) : Nat := im.both 0 2 1

/-- K_BAL, 1/1000. -/
def Image.kBal (im : Image) : Nat := im.both 0 3 500

/-- K_SOC, 1/100. -/
def Image.kSoc (im : Image) : Nat := im.both 0 4 200

/-- V_ENERGISE, mV. -/
def Image.vEnergise (im : Image) : Nat := im.both 0 5 2000000

/-- V_READY_MIN, mV. -/
def Image.vReadyMin (im : Image) : Nat := im.both 0 6 1000000

/-- D_MAX, Q16. -/
def Image.dMax (im : Image) : Nat := im.expertOnly 0 16 65536 65536

/-- D_BAL_MAX, Q16. -/
def Image.dBalMax (im : Image) : Nat := im.expertOnly 0 17 3277 3277

/-- I_DEADBAND, 0.1 A. -/
def Image.iDeadband (im : Image) : Nat := im.expertOnly 0 18 200 200

/-- K_SOC_DIS, 1/100. -/
def Image.kSocDis (im : Image) : Nat := im.expertOnly 0 19 200 im.kSoc

/-- K_SOC_CHG, 1/100. -/
def Image.kSocChg (im : Image) : Nat := im.expertOnly 0 20 200 im.kSoc

/-- W_MAX, 1/100. -/
def Image.wMax (im : Image) : Nat := im.expertOnly 0 21 200 200

/-- HOLD_CYCLES. -/
def Image.holdCycles (im : Image) : Nat := im.expertOnly 0 22 4 4

/-- MEMBER_STALE, cycles. -/
def Image.memberStale (im : Image) : Nat := im.expertOnly 0 23 1 1

/-- RING_INTERLEAVE. -/
def Image.ringInterleave (im : Image) : Nat := im.expertOnly 0 24 1 1

/-- PARK_ENABLE. -/
def Image.parkEnable (im : Image) : Nat := im.both 1 0 1

/-- BYP_CLOSE_TIMEOUT, ms. -/
def Image.bypCloseTimeout (im : Image) : Nat := im.both 1 1 200

/-- TEST_VMIN, mV. -/
def Image.testVmin (im : Image) : Nat := im.both 1 2 200000

/-- MIN_PULSE, ns. -/
def Image.minPulse (im : Image) : Nat := im.expertOnly 1 16 (10 * max im.str.kerfA im.str.kerfB + 2000) (10 * max im.str.kerfA im.str.kerfB + 2000)

/-- TAKE_HOLD_MAX, ns. -/
def Image.takeHoldMax (im : Image) : Nat := im.expertOnly 1 17 5000 5000

/-- TEST_WINDOW, µs. -/
def Image.testWindow (im : Image) : Nat := im.expertOnly 1 18 400 400

/-- FIRE_DELAY of function 1, ns. -/
def Image.fireDelayNs (im : Image) : Nat := im.expertOnly 1 19 2000 2000

/-- CHECKPOINT, min. -/
def Image.checkpoint (im : Image) : Nat := im.both 6 0 30

/-- VENEER, mask. -/
def Image.veneer (im : Image) : Nat := im.both 6 1 0

/-- LEARN_ENABLE. -/
def Image.learnEnable (im : Image) : Nat := im.both 6 2 1

/-- T_FULL, s. -/
def Image.tFull (im : Image) : Nat := im.expertOnly 6 16 300 300

/-- T_EMPTY, s. -/
def Image.tEmpty (im : Image) : Nat := im.expertOnly 6 17 10 10

/-- CHG_KNEE, mV. -/
def Image.chgKnee (im : Image) : Nat := im.expertOnly 6 18 100 100

/-- CHG_MAX_OFS, mV. -/
def Image.chgMaxOfs (im : Image) : Nat := im.expertOnly 6 19 100 100

/-- DIS_KNEE, mV. -/
def Image.disKnee (im : Image) : Nat := im.expertOnly 6 20 200 200

/-- DIS_FLOOR_OFS, mV. -/
def Image.disFloorOfs (im : Image) : Nat := im.expertOnly 6 21 300 300

/-- CONFLICT_DV, mV. -/
def Image.conflictDv (im : Image) : Nat := im.expertOnly 6 22 50 50

/-- I_SENTINEL, mA. -/
def Image.iSentinel (im : Image) : Nat := im.expertOnly 6 23 12 12

/-- LEARN_GAIN, 1/100. -/
def Image.learnGain (im : Image) : Nat := im.expertOnly 6 24 30 30

/-- LEARN_BAND, 0.1 %. -/
def Image.learnBand (im : Image) : Nat := im.expertOnly 6 25 100 100

/-- BAL_BAND, 0.01 %. -/
def Image.balBand (im : Image) : Nat := im.expertOnly 6 26 20 20

/-- OCV_REST, min. -/
def Image.ocvRest (im : Image) : Nat := im.expertOnly 6 27 30 30

/-- COUNT_PERIOD, s. -/
def Image.countPeriod (im : Image) : Nat := im.expertOnly 6 28 60 60

/-- tChgMin, 0.1 °C. -/
def Image.tChgMin (im : Image) : Int := im.bothS 7 0 0

/-- tChgMax, 0.1 °C. -/
def Image.tChgMax (im : Image) : Int := im.bothS 7 1 450

/-- tDisMin, 0.1 °C. -/
def Image.tDisMin (im : Image) : Int := im.bothS 7 2 (-200)

/-- tDisMax, 0.1 °C. -/
def Image.tDisMax (im : Image) : Int := im.bothS 7 3 600

/-- chgThrStart, 0.1 °C. -/
def Image.chgThrStart (im : Image) : Int := im.bothS 7 4 400

/-- disThrStart, 0.1 °C. -/
def Image.disThrStart (im : Image) : Int := im.bothS 7 5 450

/-- disThrZero, 0.1 °C. -/
def Image.disThrZero (im : Image) : Int := im.bothS 7 6 580

/-- heatOn, 0.1 °C. -/
def Image.heatOn (im : Image) : Int := im.bothS 7 7 50

/-- heatOff, 0.1 °C. -/
def Image.heatOff (im : Image) : Int := im.bothS 7 8 100

/-- hotShut, 0.1 °C. -/
def Image.hotShut (im : Image) : Int := im.bothS 7 9 620

/-- hotRelease, 0.1 °C. -/
def Image.hotRelease (im : Image) : Int := im.bothS 7 10 550

/-- coldShut, 0.1 °C. -/
def Image.coldShut (im : Image) : Int := im.bothS 7 11 (-250)

/-- RELEASE_TIME, min. -/
def Image.releaseTime (im : Image) : Nat := im.both 7 12 10

/-- coldRelease, 0.1 °C. -/
def Image.coldRelease (im : Image) : Int := im.expertOnlyS 7 16 (-150) (-150)

/-- plausDk, 0.1 °C. -/
def Image.plausDk (im : Image) : Int := im.expertOnlyS 7 17 100 (100)

/-- rateMax, 0.1 °C. -/
def Image.rateMax (im : Image) : Int := im.expertOnlyS 7 19 50 (50)

/-- heatMax, 0.1 °C. -/
def Image.heatMax (im : Image) : Int := im.expertOnlyS 7 20 300 (300)

/-- lThrStart, 0.1 °C. -/
def Image.lThrStart (im : Image) : Int := im.expertOnlyS 7 21 1000 (1000)

/-- lThrZero, 0.1 °C. -/
def Image.lThrZero (im : Image) : Int := im.expertOnlyS 7 22 1200 (1200)

/-- lShut, 0.1 °C. -/
def Image.lShut (im : Image) : Int := im.expertOnlyS 7 23 1250 (1250)

/-- dieWarn, 0.1 °C. -/
def Image.dieWarn (im : Image) : Int := im.expertOnlyS 7 24 1150 (1150)

/-- dieShut, 0.1 °C. -/
def Image.dieShut (im : Image) : Int := im.expertOnlyS 7 25 1250 (1250)

/-- PLAUS_TIME, s. -/
def Image.plausTime (im : Image) : Nat := im.expertOnly 7 18 10 10

/-- HEAT_OVERRIDE, s. -/
def Image.heatOverride (im : Image) : Nat := im.expertOnly 7 26 600 600

/-- FIRE_DELAY of function 8, µs. -/
def Image.fireDelayUs (im : Image) : Nat := im.both 8 0 10

/-- VCAP_OV_BYP, mV. -/
def Image.vcapOvByp (im : Image) : Nat := im.both 8 1 2700000

/-- CELL_OV_OFS, mV. -/
def Image.cellOvOfs (im : Image) : Nat := im.both 8 2 250

/-- CELL_UV_OFS, mV. -/
def Image.cellUvOfs (im : Image) : Nat := im.both 8 3 800

/-- DIAG_RETRIES. -/
def Image.diagRetries (im : Image) : Nat := im.both 8 4 3

/-- MEAS_LOST_OPEN, ms. -/
def Image.measLostOpen (im : Image) : Nat := im.expertOnly 8 16 1000 1000

/-- HANDOVER_LEAD, µs. -/
def Image.handoverLead (im : Image) : Nat := im.expertOnly 8 17 100 100

/-- DEFAULT_ON. -/
def Image.defaultOn (im : Image) : Nat := im.both 9 48 0

/-- LIMIT_TIME, µs. -/
def Image.limitTime (im : Image) : Nat := im.expertOnly 9 80 1000 1000

/-- ECON_PULL, ms. -/
def Image.econPull (im : Image) : Nat := im.expertOnly 9 81 200 200

/-- ECON_DUTY, %. -/
def Image.econDuty (im : Image) : Nat := im.expertOnly 9 82 40 40

/-- OPEN_MIN, mA. -/
def Image.openMin (im : Image) : Nat := im.expertOnly 9 83 50 50

/-- OFFTEST_PERIOD, ms. -/
def Image.offtestPeriod (im : Image) : Nat := im.expertOnly 9 86 1000 1000

/-- CLUSTER_SHED, 0.1 °C. -/
def Image.clusterShed (im : Image) : Nat := im.expertOnly 9 84 1450 1450

/-- CLUSTER_RESTART, 0.1 °C. -/
def Image.clusterRestart (im : Image) : Nat := im.expertOnly 9 85 1250 1250

/-- NOMINAL_RATE, kbit/s. -/
def Image.nominalRate (im : Image) : Nat := im.both 10 0 500

/-- DATA_RATE, kbit/s. -/
def Image.dataRate (im : Image) : Nat := im.both 10 1 0

/-- SVC_BASE. -/
def Image.svcBase (im : Image) : Nat := im.both 10 2 2016

/-- STATUS_PERIOD, ms. -/
def Image.statusPeriod (im : Image) : Nat := im.both 10 3 1000

/-- WAKE_MODE. -/
def Image.wakeMode (im : Image) : Nat := im.both 10 4 0

/-- NBRP. -/
def Image.nbrp (im : Image) : Nat := im.expertOnly 10 16 (1000 / im.nominalRate) (1000 / im.nominalRate)

/-- NTSEG1. -/
def Image.ntseg1 (im : Image) : Nat := im.expertOnly 10 17 63 63

/-- NTSEG2. -/
def Image.ntseg2 (im : Image) : Nat := im.expertOnly 10 18 16 16

/-- NSJW. -/
def Image.nsjw (im : Image) : Nat := im.expertOnly 10 19 16 16

/-- DBRP. -/
def Image.dbrp (im : Image) : Nat := im.expertOnly 10 20 1 1

/-- DTSEG1. -/
def Image.dtseg1 (im : Image) : Nat := im.expertOnly 10 21 29 (if im.dataRate = 4000 then 14 else if im.dataRate = 5000 then 11 else 29)

/-- DTSEG2. -/
def Image.dtseg2 (im : Image) : Nat := im.expertOnly 10 22 10 (if im.dataRate = 4000 then 5 else if im.dataRate = 5000 then 4 else 10)

/-- DSJW. -/
def Image.dsjw (im : Image) : Nat := im.expertOnly 10 23 10 (if im.dataRate = 4000 then 5 else if im.dataRate = 5000 then 4 else 10)

/-- TDC_OFFSET, clocks. -/
def Image.tdcOffset (im : Image) : Nat := im.expertOnly 10 24 30 ((1 + im.dtseg1) * im.dbrp)

/-- TRIPLE. -/
def Image.triple (im : Image) : Nat := im.expertOnly 10 25 0 0

/-- AUTO_RECOVER. -/
def Image.autoRecover (im : Image) : Nat := im.expertOnly 10 26 1 1

/-- BUSOFF_HOLD, ms. -/
def Image.busoffHold (im : Image) : Nat := im.expertOnly 10 27 100 100

/-- BUSOFF_MAX. -/
def Image.busoffMax (im : Image) : Nat := im.expertOnly 10 28 5 5

/-- HIB_WAKE_INTERVAL, s. -/
def Image.hibWakeInterval (im : Image) : Nat := im.both 11 0 86400

/-- HIB_CCI_WAKE, mA. -/
def Image.hibCciWake (im : Image) : Nat := im.both 11 1 2000

/-- VAUX_MIN, mV. -/
def Image.vauxMin (im : Image) : Nat := im.expertOnly 11 16 17000 17000

/-- ACT_TIMEOUT, s. -/
def Image.actTimeout (im : Image) : Nat := im.both 13 0 900

/-- HEATER_TEST_ON, s. -/
def Image.heaterTestOn (im : Image) : Nat := im.both 13 1 2

/-- F_MOD, kHz of chain c. -/
def Image.fMod (im : Image) (c : ChainId) : Nat := im.both (c.fn) 0 20

/-- L_CHAIN, µH of chain c. -/
def Image.lChain (im : Image) (c : ChainId) : Nat := im.both (c.fn) 1 2000

/-- LOOP_BW, Hz of chain c. -/
def Image.loopBw (im : Image) (c : ChainId) : Nat := im.both (c.fn) 2 500

/-- I_SLEW, A/s of chain c. -/
def Image.iSlew (im : Image) (c : ChainId) : Nat := im.both (c.fn) 3 2000

/-- I_PRE, mA of chain c. -/
def Image.iPre (im : Image) (c : ChainId) : Nat := im.both (c.fn) 4 2000

/-- R_PRE, Ω of chain c. -/
def Image.rPre (im : Image) (c : ChainId) : Nat := im.both (c.fn) 5 200

/-- CONNECT_DV, mV of chain c. -/
def Image.connectDv (im : Image) (c : ChainId) : Nat := im.both (c.fn) 6 20000

/-- CONT_SETTLE, ms of chain c. -/
def Image.contSettle (im : Image) (c : ChainId) : Nat := im.both (c.fn) 7 50

/-- PRE_TIMEOUT, s of chain c. -/
def Image.preTimeout (im : Image) (c : ChainId) : Nat := im.both (c.fn) 8 30

/-- K_TEMP, 0.01 % per K of chain c. -/
def Image.kTemp (im : Image) (c : ChainId) : Nat := im.both (c.fn) 9 100

/-- LEARN_AMP, A of chain c. -/
def Image.learnAmp (im : Image) (c : ChainId) : Nat := im.both (c.fn) 10 20

/-- K_P, mV/A of chain c. -/
def Image.kP (im : Image) (c : ChainId) : Nat := im.expertOnly (c.fn) 16 (kpBasic (im.loopBw c) (im.lChain c)) (kpBasic (im.loopBw c) (im.lChain c))

/-- K_I, mV/(A·ms) of chain c. -/
def Image.kI (im : Image) (c : ChainId) : Nat := im.expertOnly (c.fn) 17 (kiBasic (im.loopBw c) (im.lChain c)) (kiBasic (im.loopBw c) (im.lChain c))

/-- K_FF, Q16 of chain c. -/
def Image.kFf (im : Image) (c : ChainId) : Nat := im.expertOnly (c.fn) 18 65536 65536

/-- U_INT_MAX, mV of chain c. -/
def Image.uIntMax (im : Image) (c : ChainId) : Nat := im.expertOnly (c.fn) 19 100000 100000

/-- ACT_DAMP, mΩ of chain c. -/
def Image.actDamp (im : Image) (c : ChainId) : Nat := im.expertOnly (c.fn) 20 0 0

/-- HYST, 0.01 % of chain c. -/
def Image.hyst (im : Image) (c : ChainId) : Nat := im.expertOnly (c.fn) 21 50 50

/-- MOD_MIN_PULSE, ns of chain c. -/
def Image.modMinPulse (im : Image) (c : ChainId) : Nat := im.expertOnly (c.fn) 22 1000 1000

/-- I_ZERO, mA of chain c. -/
def Image.iZero (im : Image) (c : ChainId) : Nat := im.expertOnly (c.fn) 23 1000 1000

/-- V_RESERVE, mV of chain c. -/
def Image.vReserve (im : Image) (c : ChainId) : Nat := im.expertOnly (c.fn) 24 50000 50000

/-- CMD_LEAD, ns of chain c. -/
def Image.cmdLead (im : Image) (c : ChainId) : Nat := im.expertOnly (c.fn) 25 25000 25000

/-- WELD_DV, mV of chain c. -/
def Image.weldDv (im : Image) (c : ChainId) : Nat := im.expertOnly (c.fn) 26 200000 200000

/-- LEARN_PERIOD, ms of chain c. -/
def Image.learnPeriod (im : Image) (c : ChainId) : Nat := im.expertOnly (c.fn) 27 10 10

/-- FILTER of chain c. -/
def Image.filter (im : Image) (c : ChainId) : Nat := im.both (c.senFn) 0 2

/-- BREAK_DV, mV of chain c. -/
def Image.breakDv (im : Image) (c : ChainId) : Nat := im.both (c.senFn) 1 50

/-- BLEED_TIMEOUT, s of chain c. -/
def Image.bleedTimeout (im : Image) (c : ChainId) : Nat := im.both (c.senFn) 2 10

/-- STROBE_LEAD, µs of chain c. -/
def Image.strobeLead (im : Image) (c : ChainId) : Nat := im.expertOnly (c.senFn) 16 5 5

/-- SILENT_SAMPLES of chain c. -/
def Image.silentSamples (im : Image) (c : ChainId) : Nat := im.expertOnly (c.senFn) 17 3 3

/-- SUM_TOL, mV of chain c. -/
def Image.sumTol (im : Image) (c : ChainId) : Nat := im.expertOnly (c.senFn) 18 200 200

/-- OW_DV, mV of chain c. -/
def Image.owDv (im : Image) (c : ChainId) : Nat := im.expertOnly (c.senFn) 19 200 200

/-- BSW_INTERVAL, h of chain c. -/
def Image.bswInterval (im : Image) (c : ChainId) : Nat := im.expertOnly (c.senFn) 20 168 168

/-- DLY_STEP, ns of chain c. -/
def Image.dlyStep (im : Image) (c : ChainId) : Nat := im.expertOnly (c.senFn) 21 3 3

/-- Class nameplate value i of class c (Table 09.7); a class other than 1 to 8 has no nameplate, and reads the
defaults with a capacity of 0. -/
def Image.plate (im : Image) (c i : Nat) : Nat :=
  let d := [0, 28, 60000, 60000, 3550, 2800, 300, 0].getD i 0
  if 1 ≤ c ∧ c ≤ 8 then im.both 6 (64 + 8 * (c - 1) + i) d else d

/-- LIMIT of LSW_OUT_n in mA, n from 0 (Table 12.6). -/
def Image.lswLimit (im : Image) (n : Nat) : Nat := im.both 9 (n + 1) 1000

/-- INRUSH of LSW_OUT_n in ms, n from 0. -/
def Image.lswInrush (im : Image) (n : Nat) : Nat := im.both 9 (17 + n) 10

/-- RETRY_N of LSW_OUT_n, n from 0. -/
def Image.lswRetryN (im : Image) (n : Nat) : Nat := im.both 9 (33 + n) 5

/-- INRUSH_MULT of LSW_OUT_n in tenths, n from 0. -/
def Image.lswInrushMult (im : Image) (n : Nat) : Nat := im.expertOnly 9 (65 + n) 30 30

/-- VALUE of local-bus filter n (Table 13.3). -/
def Image.filterValue (im : Image) (n : Nat) : Nat := im.both 10 (32 + 2 * n) 0

/-- MASK of local-bus filter n. -/
def Image.filterMask (im : Image) (n : Nat) : Nat := im.both 10 (33 + 2 * n) 0

/-- Module mask of heater channel n, n from 0, for a chain (R265). -/
def Image.heatGroup (im : Image) (c : ChainId) (n : Nat) : BitVec 32 :=
  BitVec.ofNat 32 (im.both 7 ((match c with | .a => 33 | .b => 49) + n) 0)

/-- What dry-fit knows of one parameter number (R46): whether the BASIC level has no record of it, and
whether a value is in its range. -/
structure ParamSpec where
  onlyExpert : Bool
  ok : Bool

/-- lo ≤ v ≤ hi for an unsigned value. -/
def inRange (v lo hi : Nat) : Bool := decide (lo ≤ v ∧ v ≤ hi)

/-- lo ≤ v ≤ hi for an s32 value. -/
def inRangeS (v : Nat) (lo hi : Int) : Bool := decide (lo ≤ s32 v ∧ s32 v ≤ hi)

/-- Parameters of function 0 (R46). -/
def spec0 (_im : Image) (num v : Nat) : Option ParamSpec :=
  match num with
  | 0 => some ⟨false, inRange v 50 2000⟩
  | 1 => some ⟨false, inRange v 100 100000⟩
  | 2 => some ⟨false, inRange v 1 64⟩
  | 3 => some ⟨false, inRange v 0 2000⟩
  | 4 => some ⟨false, inRange v 0 500⟩
  | 5 => some ⟨false, inRange v 500000 3000000⟩
  | 6 => some ⟨false, inRange v 100000 3000000⟩
  | 16 => some ⟨true, inRange v 32768 65536⟩
  | 17 => some ⟨true, inRange v 0 13107⟩
  | 18 => some ⟨true, inRange v 0 1000⟩
  | 19 => some ⟨true, inRange v 0 500⟩
  | 20 => some ⟨true, inRange v 0 500⟩
  | 21 => some ⟨true, inRange v 100 400⟩
  | 22 => some ⟨true, inRange v 1 4⟩
  | 23 => some ⟨true, inRange v 0 2⟩
  | 24 => some ⟨true, inRange v 0 1⟩
  | _ => none

/-- Parameters of function 1 (R46). -/
def spec1 (im : Image) (num v : Nat) : Option ParamSpec :=
  match num with
  | 0 => some ⟨false, inRange v 0 1⟩
  | 1 => some ⟨false, inRange v 20 1000⟩
  | 2 => some ⟨false, inRange v 0 500000⟩
  | 16 => some ⟨true, inRange v (10 * max im.str.kerfA im.str.kerfB + 500) 50000⟩
  | 17 => some ⟨true, inRange v 1000 10000⟩
  | 18 => some ⟨true, inRange v 100 800⟩
  | 19 => some ⟨true, inRange v 500 20000⟩
  | _ => none

/-- Parameters of function 6 (R46). -/
def spec6 (_im : Image) (num v : Nat) : Option ParamSpec :=
  match num with
  | 0 => some ⟨false, inRange v 10 120⟩
  | 1 => some ⟨false, inRange v 0 3⟩
  | 2 => some ⟨false, inRange v 0 1⟩
  | 16 => some ⟨true, inRange v 60 1800⟩
  | 17 => some ⟨true, inRange v 2 120⟩
  | 18 => some ⟨true, inRange v 20 300⟩
  | 19 => some ⟨true, inRange v 20 300⟩
  | 20 => some ⟨true, inRange v 50 500⟩
  | 21 => some ⟨true, inRange v 100 800⟩
  | 22 => some ⟨true, inRange v 10 200⟩
  | 23 => some ⟨true, inRange v 0 50⟩
  | 24 => some ⟨true, inRange v 10 100⟩
  | 25 => some ⟨true, inRange v 20 300⟩
  | 26 => some ⟨true, inRange v 5 500⟩
  | 27 => some ⟨true, inRange v 10 240⟩
  | 28 => some ⟨true, inRange v 60 600⟩
  | _ =>
    if 64 ≤ num ∧ num ≤ 127 then
      some ⟨false, match (num - 64) % 8 with
        | 0 => v == 0 || inRange v 3600000 1800000000
        | 1 => inRange v 16 32
        | 2 => inRange v 1000 150000
        | 3 => inRange v 1000 150000
        | 4 => inRange v 3000 4300
        | 5 => inRange v 2000 3400
        | 6 => inRange v 0 1000
        | _ => inRange v 0 1⟩
    else none

/-- Parameters of function 7 (R46). -/
def spec7 (_im : Image) (num v : Nat) : Option ParamSpec :=
  match num with
  | 0 => some ⟨false, inRangeS v (-300) (200)⟩
  | 1 => some ⟨false, inRangeS v (200) (700)⟩
  | 2 => some ⟨false, inRangeS v (-400) (0)⟩
  | 3 => some ⟨false, inRangeS v (300) (800)⟩
  | 4 => some ⟨false, inRangeS v (100) (650)⟩
  | 5 => some ⟨false, inRangeS v (200) (750)⟩
  | 6 => some ⟨false, inRangeS v (250) (800)⟩
  | 7 => some ⟨false, inRangeS v (-200) (300)⟩
  | 8 => some ⟨false, inRangeS v (-150) (350)⟩
  | 9 => some ⟨false, inRangeS v (400) (900)⟩
  | 10 => some ⟨false, inRangeS v (300) (850)⟩
  | 11 => some ⟨false, inRangeS v (-500) (-50)⟩
  | 12 => some ⟨false, inRange v 1 120⟩
  | 16 => some ⟨true, inRangeS v (-450) (0)⟩
  | 17 => some ⟨true, inRangeS v (30) (300)⟩
  | 19 => some ⟨true, inRangeS v (5) (200)⟩
  | 20 => some ⟨true, inRangeS v (150) (450)⟩
  | 21 => some ⟨true, inRangeS v (600) (1400)⟩
  | 22 => some ⟨true, inRangeS v (700) (1500)⟩
  | 23 => some ⟨true, inRangeS v (800) (1600)⟩
  | 24 => some ⟨true, inRangeS v (900) (1250)⟩
  | 25 => some ⟨true, inRangeS v (1000) (1350)⟩
  | 18 => some ⟨true, inRange v 2 120⟩
  | 26 => some ⟨true, inRange v 10 3600⟩
  | _ =>
    if (33 ≤ num ∧ num ≤ 44) ∨ (49 ≤ num ∧ num ≤ 60) then some ⟨false, true⟩ else none

/-- Parameters of function 8 (R46). -/
def spec8 (_im : Image) (num v : Nat) : Option ParamSpec :=
  match num with
  | 0 => some ⟨false, inRange v 2 50⟩
  | 1 => some ⟨false, inRange v 500000 3200000⟩
  | 2 => some ⟨false, inRange v 100 500⟩
  | 3 => some ⟨false, inRange v 300 1500⟩
  | 4 => some ⟨false, inRange v 1 10⟩
  | 16 => some ⟨true, inRange v 100 10000⟩
  | 17 => some ⟨true, inRange v 50 1000⟩
  | _ => none

/-- Parameters of function 9 (R46). -/
def spec9 (_im : Image) (num v : Nat) : Option ParamSpec :=
  match num with
  | 48 => some ⟨false, inRange v 0 4095⟩
  | 80 => some ⟨true, inRange v 100 10000⟩
  | 81 => some ⟨true, inRange v 50 1000⟩
  | 82 => some ⟨true, inRange v 20 100⟩
  | 83 => some ⟨true, inRange v 10 500⟩
  | 86 => some ⟨true, inRange v 100 10000⟩
  | 84 => some ⟨true, inRange v 1200 1500⟩
  | 85 => some ⟨true, inRange v 1000 1400⟩
  | _ =>
    if 1 ≤ num ∧ num ≤ 12 then some ⟨false, inRange v 500 8000⟩
    else if 17 ≤ num ∧ num ≤ 28 then some ⟨false, inRange v 0 100⟩
    else if 33 ≤ num ∧ num ≤ 44 then some ⟨false, inRange v 1 15⟩
    else if 65 ≤ num ∧ num ≤ 76 then some ⟨true, inRange v 10 30⟩
    else none

/-- Parameters of function 10 (R46). -/
def spec10 (_im : Image) (num v : Nat) : Option ParamSpec :=
  match num with
  | 0 => some ⟨false, [125, 250, 500, 1000].contains v⟩
  | 1 => some ⟨false, [0, 2000, 4000, 5000].contains v⟩
  | 2 => some ⟨false, inRange v 0 0x7FC && v % 4 == 0⟩
  | 3 => some ⟨false, (v == 0 || inRange v 10 10000)⟩
  | 4 => some ⟨false, inRange v 0 2⟩
  | 16 => some ⟨true, inRange v 1 32⟩
  | 17 => some ⟨true, inRange v 2 256⟩
  | 18 => some ⟨true, inRange v 1 128⟩
  | 19 => some ⟨true, inRange v 1 128⟩
  | 20 => some ⟨true, inRange v 1 32⟩
  | 21 => some ⟨true, inRange v 1 32⟩
  | 22 => some ⟨true, inRange v 1 16⟩
  | 23 => some ⟨true, inRange v 1 16⟩
  | 24 => some ⟨true, inRange v 1 127⟩
  | 25 => some ⟨true, inRange v 0 1⟩
  | 26 => some ⟨true, inRange v 0 1⟩
  | 27 => some ⟨true, inRange v 0 10000⟩
  | 28 => some ⟨true, inRange v 1 255⟩
  | _ => if 32 ≤ num ∧ num ≤ 95 then some ⟨false, true⟩ else none

/-- Parameters of function 11 (R46). -/
def spec11 (_im : Image) (num v : Nat) : Option ParamSpec :=
  match num with
  | 0 => some ⟨false, (v == 0 || inRange v 60 2592000)⟩
  | 1 => some ⟨false, (v == 0 || inRange v 500 10000)⟩
  | 16 => some ⟨true, inRange v 15000 18000⟩
  | _ => none

/-- Parameters of function 13 (R46). -/
def spec13 (_im : Image) (num v : Nat) : Option ParamSpec :=
  match num with
  | 0 => some ⟨false, inRange v 60 7200⟩
  | 1 => some ⟨false, inRange v 1 60⟩
  | _ => none

/-- Parameters of functions 2 and 3 (R46). -/
def specChain (num v : Nat) : Option ParamSpec :=
  match num with
  | 0 => some ⟨false, [5, 8, 10, 16, 20, 25, 32, 40].contains v⟩
  | 1 => some ⟨false, inRange v 200 20000⟩
  | 2 => some ⟨false, inRange v 50 2000⟩
  | 3 => some ⟨false, inRange v 10 100000⟩
  | 4 => some ⟨false, inRange v 100 10000⟩
  | 5 => some ⟨false, inRange v 10 10000⟩
  | 6 => some ⟨false, inRange v 5000 100000⟩
  | 7 => some ⟨false, inRange v 20 500⟩
  | 8 => some ⟨false, inRange v 5 300⟩
  | 9 => some ⟨false, inRange v 0 1000⟩
  | 10 => some ⟨false, inRange v 5 60⟩
  | 16 => some ⟨true, inRange v 100 100000⟩
  | 17 => some ⟨true, inRange v 0 200000⟩
  | 18 => some ⟨true, inRange v 0 65536⟩
  | 19 => some ⟨true, inRange v 0 500000⟩
  | 20 => some ⟨true, inRange v 0 100000⟩
  | 21 => some ⟨true, inRange v 0 500⟩
  | 22 => some ⟨true, inRange v 500 5000⟩
  | 23 => some ⟨true, inRange v 200 5000⟩
  | 24 => some ⟨true, inRange v 10000 300000⟩
  | 25 => some ⟨true, inRange v 10000 50000⟩
  | 26 => some ⟨true, inRange v 50000 500000⟩
  | 27 => some ⟨true, inRange v 2 100⟩
  | _ => none

/-- Parameters of functions 4 and 5 (R46). -/
def specSen (num v : Nat) : Option ParamSpec :=
  match num with
  | 0 => some ⟨false, inRange v 0 3⟩
  | 1 => some ⟨false, inRange v 20 500⟩
  | 2 => some ⟨false, inRange v 1 600⟩
  | 16 => some ⟨true, inRange v 3 10⟩
  | 17 => some ⟨true, inRange v 2 10⟩
  | 18 => some ⟨true, inRange v 50 1000⟩
  | 19 => some ⟨true, inRange v 100 1000⟩
  | 20 => some ⟨true, inRange v 24 2160⟩
  | 21 => some ⟨true, inRange v 1 10⟩
  | _ => none

/-- What R46 knows of a parameter number of a function; none where the function does not define it.
Function 12 defines none. -/
def paramSpec (im : Image) (fn num v : Nat) : Option ParamSpec :=
  match fn with
  | 0 => spec0 im num v
  | 1 => spec1 im num v
  | 2 => specChain num v
  | 3 => specChain num v
  | 4 => specSen num v
  | 5 => specSen num v
  | 6 => spec6 im num v
  | 7 => spec7 im num v
  | 8 => spec8 im num v
  | 9 => spec9 im num v
  | 10 => spec10 im num v
  | 11 => spec11 im num v
  | 13 => spec13 im num v
  | _ => none

end Sys2Proof
end

