-- ==== Sys2Proof/Machine/State.lean ====
section
/-! DEFINITION. The state of the QZ9640 as plain data: one structure per register block, every field at its
reset value by default, and `State.reset`. INVENTORY.md, heading State, names the rule and the reset value
of every field. -/

set_option Elab.async false

namespace Sys2Proof.Machine

/-- Reasons for which a step can stop the machine. No command of this model raises one: the manual gives
every command an effect, and its refusals are answers with a status. The type stays for the host's
interface. -/
inductive Fault
  /-- raised by no command; a reader of an address that the non-volatile memory does not have would raise
  it (safe: the run stops) -/
  | noSuchAddress
deriving DecidableEq, Repr

/-- Reasons for which a command has no meaning in the model. -/
inductive Refusal
  /-- raised by the dispatcher for a command whose meaning is not written yet (safe: the run stops) -/
  | notModelled (mnemonic : String)
deriving DecidableEq, Repr

/-- One Spline ring port. -/
structure RingPort where
  /-- clause-49 block lock (04 SPL_PORT.E_LOCK) -/
  lock : Bool := false
  /-- clock at which lock was last gained (04 R63) -/
  lockAt : Nat := 0
  /-- a HELLO has arrived since lock (04 R63) -/
  hello : Bool := false
  /-- port up (04 R63 SPL_PORT.E_UP) -/
  isUp : Bool := false
  /-- neighbour is a gateway (04 R66 SPL_PORT.E_NEIGHBOUR) -/
  gw : Bool := false
  /-- ring number of the neighbour's HELLO (04 R66) -/
  nbRing : Nat := 0
  /-- position of the neighbour's HELLO (04 R66) -/
  nbPos : Nat := 0
  /-- isolated by the policing rule (04 R91 SPL_PORT.E_ISOLATED) -/
  isolated : Bool := false
  /-- clock of the last isolation or violation while isolated (04 R91) -/
  isolatedAt : Nat := 0
  /-- clocks of the violations of the last millisecond (04 R91) -/
  viols : List Nat := []
  /-- violation seen (04 SPL_POLICE.E_VIOL) -/
  violSeen : Bool := false
  /-- clock of the last violation seen (00 R8) -/
  violAt : Option Nat := none
  /-- violations since reset, saturating (04 SPL_POLICE.E_COUNT) -/
  violCount : Nat := 0
  /-- the newest shim results, newest first, at most 16 (04 R79 SPL_SHIM) -/
  shims : List Int := []
  /-- sequence of the last SHIM_PING (04 R79) -/
  pingSeq : Nat := 0
  /-- an answer to that ping is awaited (04 R79) -/
  pingOpen : Bool := false
deriving DecidableEq, Repr

/-- One urgent set forwarded or acted on. -/
structure UrgFwd where
  /-- port it left through (04 R77) -/
  toWest : Bool := false
  /-- urgent code (04 R77) -/
  code : Nat := 0
  /-- its sequence (04 R77) -/
  seq : Nat := 0
  /-- clock of the forwarding (04 R77) -/
  when : Nat := 0
deriving DecidableEq, Repr

/-- One register operation held for execution. -/
structure HeldOp where
  /-- the operation (04 R87) -/
  op : RegOp := { dest := 0, tag := 0, op := 0, addr := 0, data := 0 }
deriving DecidableEq, Repr

/-- One publication received. -/
structure PubRec where
  /-- ring position of the sender (04 R84) -/
  position : Nat := 0
  /-- cycle in which it was published (04 R84) -/
  cycle : Nat := 0
  /-- its content (04 T04.9) -/
  body : Option CellStatus := none
deriving DecidableEq, Repr

/-- What identifies a frame and its copies. -/
structure CopyKey where
  /-- TYPE (04 R69) -/
  type : Nat := 0
  /-- SRC, but for ARM_SUMMARY (04 R69) -/
  src : Nat := 0
  /-- SLOT, but for ARM_SUMMARY (04 R69) -/
  slot : Nat := 0
  /-- CYCLE (04 R69) -/
  cycle : Nat := 0
deriving DecidableEq, Repr

/-- One own frame frozen for launch. -/
structure OwnFrame where
  /-- slot index (04 R71) -/
  slot : Nat := 0
  /-- its class (04 T04.4) -/
  cls : Nat := 1
  /-- its length (04 T04.4) -/
  len : Nat := 128
  /-- its start, ns (04 R70) -/
  start : Nat := 0
  /-- frame type (04 R71) -/
  type : Nat := 0
  /-- CYCLE (04 R71) -/
  cycle : Nat := 0
  /-- content of a CELL_STATUS (04 T04.9) -/
  status : Option CellStatus := none
  /-- content of a REG_RSP (04 T04.12) -/
  results : List RegRsp := []
  /-- stream, offset, last-chunk flag and bytes of a BULK (04 T04.13) -/
  bulk : Option (Nat × Nat × Bool × List Byte) := none
  /-- launched east (04 R70) -/
  outE : Bool := false
  /-- launched west (04 R70) -/
  outW : Bool := false
deriving DecidableEq, Repr

/-- Reference frame used by ME. -/
structure RefFrame where
  /-- Spline time of its origin b(k+1), ns (05 R93, R100) -/
  origin : Nat := 0
  /-- V_REF (04 T04.8) -/
  vRef : Int := 0
  /-- V_SLOPE (04 T04.8) -/
  vSlope : Int := 0
  /-- I_ARM, 0.1 A (04 T04.8) -/
  iArm : Option Int := none
  /-- N_ACTIVE (04 T04.8) -/
  nActive : Nat := 0
  /-- E_AVG, J (04 T04.8) -/
  eAvg : Nat := 0
  /-- SOC_AVG (04 T04.8) -/
  socAvg : Option Nat := none
  /-- P_REQ, W (04 T04.8) -/
  pReq : Option Int := none
  /-- P_cell computed from it, W (05 R113) -/
  share : Int := 0
deriving DecidableEq, Repr

/-- Mode carried by one frame. -/
structure ModeFrame where
  /-- MODE (05 R96) -/
  mode : ArmMode := .block
  /-- APPLY_TIME, ns (05 R96) -/
  apply : Nat := 0
  /-- boundary b_k of the frame, ns (05 R96) -/
  bound : Nat := 0
deriving DecidableEq, Repr

/-- Pulse unit of one leg. -/
structure PulseUnit where
  /-- shadow PERIOD (06 PWM_A_PERIOD) -/
  shPeriod : Nat := 0
  /-- shadow RISE (06 PWM_A_RISE) -/
  shRise : Nat := 0
  /-- shadow FALL (06 PWM_A_FALL) -/
  shFall : Nat := 0
  /-- shadow APPLY (06 PWM_A_APPLY) -/
  shApply : Nat := 0
  /-- PERIOD written since the last COMMIT and RISE or FALL not written after it (06 R123) -/
  stale : Bool := false
  /-- low word of the first reload time (06 PWM_A_START_LO) -/
  startLo : BitVec 32 := 0
  /-- high word of the first reload time (06 PWM_A_START_HI) -/
  startHi : BitVec 32 := 0
  /-- START written and its instant not yet passed (06 R125) -/
  startArmed : Bool := false
  /-- sets waiting, newest first (06 R122 A_QUEUE) -/
  queue : List PwmSet := []
  /-- set in force (06 R121) -/
  cur : Option PwmSet := none
  /-- pulse unit running (06 R125 A_RUN) -/
  running : Bool := false
  /-- Spline time of the present period start (06 R121) -/
  t0 : Nat := 0
  /-- leg output in its active interval (06 R121) -/
  active : Bool := false
  /-- Spline time at which the kerf ends, and whether the upper switch then turns on (06 R127) -/
  kerfUntil : Option (Nat × Bool) := none
  /-- last rejection cause (06 A_CAUSE) -/
  cause : Nat := 0
  /-- set rejected (06 A_REJECT) -/
  reject : Bool := false
  /-- unit did not start (06 A_NOSTART) -/
  nostart : Bool := false
  /-- commits in the reload clock (06 PWM_LATE_COMMIT) -/
  lateCommit : Nat := 0
  /-- clock of the last reload (06 R122) -/
  reloadClk : Option Nat := none
  /-- clock of the last rejection (00 R8) -/
  rejectAt : Option Nat := none
  /-- clock at which the unit last did not start (00 R8) -/
  nostartAt : Option Nat := none
  /-- adjustments of R124 (06 PWM_CNT.MINPULSE) -/
  minPulse : Nat := 0
deriving DecidableEq, Repr

/-- One leg of the main bridge. -/
structure LegRec where
  /-- leg state (06 GLK_LEG_STATE.STATE) -/
  st : LegSt := .hiZ
  /-- cause of HIGH_Z (06 GLK_LEG_STATE.CAUSE) -/
  cause : Nat := 0
  /-- park mark of the leg (05 R109; 06 R139) -/
  parkMark : Bool := false
  /-- parked with the upper switch on (06 R139) -/
  parkUpper : Bool := false
  /-- released, awaiting its two-switch test (06 R138) -/
  wait : Bool := false
  /-- switches of the leg that failed: bit 0 upper, bit 1 lower (06 R137) -/
  faultSw : Nat := 0
deriving DecidableEq, Repr

/-- Bits of W1C fields that hardware set in one clock: a write of the same clock leaves them set (00 R8). -/
structure Fresh where
  /-- the clock (00 R8) -/
  clk : Option Nat := none
  /-- the bits (00 R8) -/
  bits : BitVec 32 := 0
deriving DecidableEq, Repr

/-- Hardware sets bits at a clock. -/
def Fresh.add (f : Fresh) (now : Nat) (b : BitVec 32) : Fresh :=
  { clk := some now, bits := if f.clk == some now then f.bits ||| b else b }

/-- What a write of 1s clears at a clock: every bit but those that hardware set in it. -/
def Fresh.clears (f : Fresh) (now : Nat) (v : BitVec 32) : BitVec 32 := if f.clk == some now then v &&& ~~~f.bits else v

/-- One gate link. -/
structure LinkRec where
  /-- word being sent (06 GLK_OUT.WORD) -/
  word : GlWord := .silent
  /-- clock of the last valid frame (06 GLK_STATUS.AGE) -/
  age : Option Nat := none
  /-- data bits of the last valid frame (06 GLK_STATUS.FRAME) -/
  frame : BitVec 16 := 0xFFFF#16
  /-- flags of the link (06 GLK_FLAGS) -/
  flags : BitVec 8 := 0
  /-- test result of its switch (06 GLK_TEST) -/
  test : BitVec 8 := 0
  /-- frames that failed their check (06 GLK_CNT.CHECK) -/
  cnt : Nat := 0
  /-- the last ON or OFF word of the link was ON (06 R135) -/
  heldOn : Bool := false
  /-- clock since which the word has been sent (06 R137) -/
  wordAt : Nat := 0
  /-- status lost (06 R136) -/
  lost : Bool := false
  /-- flags set in the newest clock, bits 7:0 (00 R8) -/
  fresh : Fresh := {}
deriving DecidableEq, Repr

/-- Jig pulse in progress. -/
structure JigRun where
  /-- switch 1 to 4 (06 R145) -/
  sw : Nat := 1
  /-- clock at which the first pulse begins (after the kerf) (06 R145) -/
  start : Nat := 0
  /-- first width, us (06 R145) -/
  w1 : Nat := 0
  /-- gap, us (06 R145) -/
  gap : Nat := 0
  /-- second width, us (06 R145) -/
  w2 : Nat := 0
deriving DecidableEq, Repr

/-- One module as the chain engine sees it. -/
structure ModRec where
  /-- module state (07 CHA_MOD_n.STATE) -/
  st : ModSt := .block
  /-- key of the last re-sort (07 R158 KEY) -/
  key : Int := 0
  /-- park cause (07 R163 CAUSE) -/
  cause : Nat := 0
  /-- module lost (07 R162 LOST) -/
  lost : Bool := false
  /-- trim module in the newest period (07 TRIM) -/
  trim : Bool := false
  /-- eligible for charge (07 R160 EL_CHG) -/
  elChg : Bool := false
  /-- eligible for discharge (07 R160 EL_DIS) -/
  elDis : Bool := false
  /-- cause of a pending park, 0 none (07 R163) -/
  pend : Nat := 0
  /-- set last sent (07 R152) -/
  cmd : ModSet := { st := .block, phase := 0, w := 0 }
  /-- unparked, to leave PARKED at the next trim period boundary (07 R150, R164) -/
  leave : Bool := false
  /-- its pending park has been refused for the count of modules (07 R163) -/
  barred : Bool := false
deriving DecidableEq, Repr

/-- Learning cycle of one chain. -/
structure LearnRec where
  /-- 0 none, 1 FILL, 2 DRAIN, 3 RETURN (07 R176 PHASE) -/
  phase : Nat := 0
  /-- target module (PHASE 0 reads MODULE 0xFF) (07 R176 MODULE) -/
  target : Fin 32 := 0
  /-- amplitude in force, 10 mA (07 R176 AMP) -/
  amp : Nat := 0
  /-- taper amplitude in force (07 R176 TAPER) -/
  taper : Bool := false
  /-- present half of the square wave is the discharge half (07 R176) -/
  pos : Bool := false
  /-- clock at which the present half ends (07 R176) -/
  halfDue : Option Nat := none
  /-- SoC of the target at the start (07 R176) -/
  startSoc : Option Nat := none
deriving DecidableEq, Repr

/-- Record of one sentinel (module m). -/
structure SenRec where
  /-- SSEQ of the newest SAMPLE (08 SNA_STAT_m.SSEQ) -/
  sseq : Nat := 0
  /-- its echo (08 SNA_STAT_m.ECHO) -/
  echo : BitVec 8 := 0
  /-- status of T08.5 (08 SNA_STAT_m.STATUS) -/
  status : BitVec 16 := 0
  /-- module voltage, 2 mV (08 SNA_VMOD_m.VMOD) -/
  vmod : Option Nat := none
  /-- sum of cells minus VMOD, 2 mV (08 SNA_VMOD_m.DSUM) -/
  dsum : Option Int := none
  /-- cell codes (08 SNA_CELLS_m_j) -/
  cells : Vector (Option Nat) 32 := Vector.replicate 32 none
  /-- thermistors, 0.1 C (08 SNA_TEMPS_m_j) -/
  temps : Vector (Option Int) 8 := Vector.replicate 8 none
  /-- open wires of the last test (08 SNA_OW_m; SNA_FLAGS_m.OPEN_32) -/
  ow : BitVec 33 := 0
  /-- an open-wire result is held (08 SNA_FLAGS_m.OW_VALID) -/
  owValid : Bool := false
  /-- open thermistors (08 SNA_FLAGS_m.TH_OPEN) -/
  thOpen : BitVec 8 := 0
  /-- all thermistors open (08 SNA_FLAGS_m.ABSENT) -/
  absent : Bool := false
  /-- declared lost (08 R210 SNA_FLAGS_m.LOST) -/
  lost : Bool := false
  /-- suspected or confirmed wire (08 SNA_FLAGS_m.WIRE) -/
  wire : Option Nat := none
  /-- break confirmed (08 R207 BREAK_CONF) -/
  brkConf : Bool := false
  /-- break suspected (08 R206 BREAK_SUSP) -/
  brkSusp : Bool := false
  /-- consecutive sample sets in which the pair at wire k deviates (08 R206) -/
  pairRuns : Vector Nat 33 := Vector.replicate 33 0
  /-- consecutive sample sets in which a cell is faulty (08 R206) -/
  cellRuns : Vector Nat 32 := Vector.replicate 32 0
  /-- consecutive sample sets in which a cell is beyond its hard limits (11 T11.5 0x21) -/
  hardRuns : Vector Nat 32 := Vector.replicate 32 0
  /-- cells marked unmeasured (08 R206-R207) -/
  unmeasured : BitVec 32 := 0
  /-- sentinel serial (08 SNA_ID_m) -/
  serial : BitVec 64 := 0
  /-- hardware revision (08 SNA_IDCLS_m.HW_REV) -/
  hwRev : Nat := 0
  /-- cells configured (08 SNA_IDCLS_m.CELLS) -/
  nCells : Nat := 0
  /-- identity class (08 SNA_IDCLS_m.CLASS) -/
  cls : Nat := 0
  /-- identity read since enumeration (08 R196) -/
  idRead : Bool := false
  /-- DLY_HEAD written, ns (08 SNA_DLY_m.HEAD) -/
  dlyHead : Option Nat := none
  /-- DLY_TAIL written, ns (08 SNA_DLY_m.TAIL) -/
  dlyTail : Option Nat := none
  /-- newest one-way delays from HEAD, newest first (08 R199) -/
  rtHead : List Nat := []
  /-- newest one-way delays from TAIL, newest first (08 R199) -/
  rtTail : List Nat := []
  /-- clock of the last PING from HEAD (08 R199) -/
  pingHead : Nat := 0
  /-- clock of the last PING from TAIL (08 R199) -/
  pingTail : Nat := 0
  /-- PING_ID of the PING from HEAD whose PONG is due (08 T08.2) -/
  idHead : Option Nat := none
  /-- PING_ID of the PING from TAIL whose PONG is due (08 T08.2) -/
  idTail : Option Nat := none
  /-- bleed mask last sent (08 R203 SNA_BLEED_m) -/
  bleed : BitVec 32 := 0
  /-- cells that failed the balance-switch test (08 R208 SNA_BSW_m) -/
  bsw : BitVec 32 := 0
  /-- cell whose balance-switch test is running, 0xFF for all cells (08 R208) -/
  bswCell : Option Nat := none
  /-- consecutive SAMPLEs missing (08 R210) -/
  misses : Nat := 0
  /-- a SAMPLE of the present SSEQ has arrived (08 R190) -/
  got : Bool := false
  /-- t_s of the newest SAMPLE, Spline time (08 R190; 09 R215) -/
  sampleTs : Option Nat := none
  /-- lowest and highest cell voltage of the sample set that was complete at the last strobe, mV (09 R231, R233) -/
  setRange : Option (Int × Int) := none
  /-- VMOD of that sample set, 2 mV (09 R232, R233) -/
  setVmod : Option Nat := none
  /-- APPLIED nibbles of the newest SAMPLE (08 T08.4 APPLIED) -/
  applied : List (BitVec 4) := []
  /-- reachable from HEAD (08 R195) -/
  reachHead : Bool := false
  /-- reachable from TAIL (08 R195) -/
  reachTail : Bool := false
  /-- counter of the last command sent to it (08 R187) -/
  cnt : BitVec 8 := 0
  /-- that counter at the last strobe (08 R188) -/
  cntMark : BitVec 8 := 0
  /-- its set in force is to be sent again (08 R188) -/
  resend : Bool := false
  /-- the newest sets sent, newest first (08 R189) -/
  sent : List SentSet := []
  /-- clock of the last BLEED request (08 R204) -/
  bleedAt : Nat := 0
  /-- clock of the last balance-switch test (08 R208) -/
  bswAt : Option Nat := none
  /-- clock of the last READ_ID poll of a lost module (08 R210) -/
  pollAt : Nat := 0
  /-- steps of a renewed enumeration: 0 polling, 1 CONFIG written, 2 TERM_DIAG passed (08 R210) -/
  back : Nat := 0
  /-- consecutive SAMPLEs of a renewed enumeration (08 R210) -/
  backRuns : Nat := 0
  /-- terminal diagnostics answered since enumeration (08 R209) -/
  termDone : Bool := false
deriving DecidableEq, Repr

/-- Account of one battery cell. -/
structure CellAcc where
  /-- SoC as published, 0.01 % (09 EST_CELL_SOC.SOC) -/
  soc : Option Nat := none
  /-- CAP_k, mAs (09 EST_CELL_CAP) -/
  cap : Nat := 0
  /-- Q_k, uAs (09 EST_CELL_Q) -/
  q : Int := 0
  /-- C_REF_k, uAs (09 R219) -/
  cRef : Int := 0
  /-- Q_REF_k, uAs (09 R219) -/
  qRef : Int := 0
  /-- U_k in 1/200,000 mAs (0.5 % of 1 uAs), shown in mAs (09 R225) -/
  unc : Option Nat := none
  /-- capacity candidate, mAs (09 R236) -/
  cand : Option Nat := none
  /-- Q_k at the open of the learning cycle (09 R235) -/
  openQ : Option Int := none
  /-- the cycle opened at a full anchor (09 R235) -/
  openFull : Bool := false
  /-- capacity suspect (09 SUSPECT) -/
  suspect : Bool := false
  /-- full-side conflict (09 R228) -/
  confFull : Bool := false
  /-- empty-side conflict (09 R228) -/
  confEmpty : Bool := false
  /-- requested for bleeding (09 R234 BLEED) -/
  bleedReq : Bool := false
  /-- bleed current, uA (09 R219) -/
  bleedUa : Nat := 200000
  /-- clock since which samples qualify for a full anchor (09 R226) -/
  fullSince : Option Nat := none
  /-- clock since which samples qualify for an empty anchor (09 R226) -/
  emptySince : Option Nat := none
  /-- clock since which the cell rests (09 R246) -/
  restSince : Option Nat := none
  /-- lowest disqualification cause since the cycle opened, 0 none (09 T09.3) -/
  disq : Nat := 0
  /-- sum of |q_m| over the non-rest milliseconds of the cycle, uAs (09 T09.3) -/
  sumAbs : Nat := 0
  /-- non-rest milliseconds of the cycle (09 T09.3) -/
  nMs : Nat := 0
  /-- consecutive sample sets at or below the discharge floor (09 R229) -/
  floorRuns : Nat := 0
  /-- consecutive sample sets at or above the charge maximum (09 R229) -/
  maxRuns : Nat := 0
  /-- holds the module's discharge at 0 until its SoC reaches 2 % (09 R227) -/
  hold : Bool := false
  /-- anchored under R226 since its module was reset (09 R245) -/
  anchored : Bool := false
  /-- content has reached 0 (1) or CAP_k (2), its voltage not yet judged (09 R228) -/
  crossed : Nat := 0
deriving DecidableEq, Repr

/-- Account of one module. -/
structure EstMod where
  /-- Q_m, uAs (09 EST_MOD_Q) -/
  q : Int := 0
  /-- module discharge limit, 10 mA (09 EST_MOD_LIMIT.DIS) -/
  limDis : Int := 0
  /-- module charge limit, 10 mA (09 EST_MOD_LIMIT.CHG) -/
  limChg : Int := 0
  /-- accepted learning cycles (09 ACCEPTED) -/
  accepted : Nat := 0
  /-- last disqualification cause (09 DISQ_CAUSE) -/
  disq : Nat := 0
  /-- none, full, empty (09 LAST_ANCHOR) -/
  lastAnchor : Nat := 0
  /-- record held for an absent module (09 R247 ABSENT_HELD) -/
  absentHeld : Bool := false
  /-- reset and not yet anchored (09 R245 SWAPPED) -/
  swapped : Bool := false
  /-- re-anchored at the charge maximum (09 R229 OVERMAX) -/
  overmax : Bool := false
  /-- re-anchored at the discharge floor (09 R229 FLOOR) -/
  floor : Bool := false
  /-- discharge held at 0 (09 R227 EMPTY_HOLD) -/
  emptyHold : Bool := false
  /-- serial the account belongs to (record) (09 R237) -/
  serial : BitVec 64 := 0
  /-- class the account belongs to (record) (09 R237) -/
  cls : Nat := 0
  /-- cells the account covers (record) (09 R237) -/
  nCells : Nat := 0
  /-- clock at which the module became absent (09 R247) -/
  absentAt : Option Nat := none
  /-- q_m of the millisecond counted last, uAs (09 R228) -/
  qMs : Int := 0
  /-- the battery cells (09 EST_CELL_m_k) -/
  cells : Vector CellAcc 32 := Vector.replicate 32 {}
deriving DecidableEq, Repr

/-- Chain-wide part of an estimation record. -/
structure ChainHead where
  /-- A, uAs (09 T09.4) -/
  acc : Int := 0
  /-- integrator epoch (09 T09.4) -/
  epoch : Nat := 0
  /-- veneer preset (09 T09.4) -/
  preset : Int := 0
  /-- A_preset (09 T09.4) -/
  aPreset : Int := 0
  /-- VNR_CAP (09 T09.4) -/
  vnrCap : Nat := 0
  /-- VNR_STATUS.GAP (09 R223) -/
  vnrGap : Bool := false
deriving DecidableEq, Repr

/-- One STATE record. -/
structure StateRec where
  /-- its position in the ring of positions (09 R238) -/
  pos : Nat := 0
  /-- sequence (09 R237) -/
  seq : Nat := 0
  /-- its digest passes (09 R241) -/
  valid : Bool := false
  /-- Spline time (09 R237) -/
  time : Nat := 0
  /-- the position is one of 104 KiB, for an image of two chains (09 T09.4) -/
  two : Bool := false
  /-- chain A accounts (09 T09.4) -/
  modsA : Vector EstMod 32 := Vector.replicate 32 {}
  /-- chain B accounts (09 T09.4) -/
  modsB : Vector EstMod 32 := Vector.replicate 32 {}
  /-- chain A (09 T09.4) -/
  headA : ChainHead := {}
  /-- chain B (09 T09.4) -/
  headB : ChainHead := {}
deriving DecidableEq, Repr

/-- One COUNT record. -/
structure CountRec where
  /-- its position in the ring of positions (09 R238) -/
  pos : Nat := 0
  /-- sequence (09 R237) -/
  seq : Nat := 0
  /-- its digest passes (09 R241) -/
  valid : Bool := false
  /-- Spline time (09 R237) -/
  time : Nat := 0
  /-- Q_m of chain A (09 T09.4) -/
  qA : Vector Int 32 := Vector.replicate 32 0
  /-- Q_m of chain B (09 T09.4) -/
  qB : Vector Int 32 := Vector.replicate 32 0
  /-- A and epoch of chain A (09 T09.4) -/
  accA : Int × Nat := (0, 0)
  /-- A and epoch of chain B (09 T09.4) -/
  accB : Int × Nat := (0, 0)
deriving DecidableEq, Repr

/-- One general analog input. -/
structure GenIn where
  /-- temperature, 0.1 C (10 THM_GEN.T) -/
  temp : Option Int := none
  /-- above 1 Mohm (10 THM_GEN.OPEN) -/
  isOpen : Bool := false
  /-- below 100 ohm (10 THM_GEN.SHORT) -/
  isShort : Bool := false
  /-- excluded (10 R256) -/
  excl : Bool := false
deriving DecidableEq, Repr

/-- Thermal view of one module. -/
structure ThmMod where
  /-- thermistors excluded (10 THM_MOD_F.EXCL) -/
  excl : BitVec 8 := 0
  /-- of these, excluded as implausible (10 R256) -/
  implaus : BitVec 8 := 0
  /-- clock since which each excluded sensor reads valid or plausible (10 R256) -/
  retAt : Vector (Option Nat) 8 := Vector.replicate 8 none
  /-- widened by neighbours (10 R257 SUBST) -/
  subst : Bool := false
  /-- discharge factor (10 R254 F_DIS) -/
  fDis : Nat := 0
  /-- charge factor (10 R254 F_CHG) -/
  fChg : Nat := 0
  /-- T_max (10 R253 T_MAX) -/
  tMax : Option Int := none
  /-- T_min (10 R253 T_MIN) -/
  tMin : Option Int := none
  /-- readings of earlier scan steps with their clocks, newest first, down to the reference step of the rate test (10 R256) -/
  hist : List (Nat × List (Option Int)) := []
  /-- clock since which each sensor has failed the median test (10 R256) -/
  devAt : Vector (Option Nat) 8 := Vector.replicate 8 none
deriving DecidableEq, Repr

/-- One till record. -/
structure TillRec where
  /-- sequence (10 R263) -/
  seq : Nat := 0
  /-- 1 shutdown, 2 release (10 R263) -/
  kind : Nat := 0
  /-- cause (10 R263) -/
  cause : Nat := 0
  /-- chain (10 R263) -/
  chain : Nat := 0
  /-- causing sensor (10 R263) -/
  sensor : Nat := 0
  /-- its temperature (10 R263) -/
  temp : Int := 0
  /-- Spline time (10 R263) -/
  time : Nat := 0
  /-- record place i, copies at positions 2i and 2i + 1 (10 R263) -/
  pos : Nat := 0
  /-- causing module (10 R263) -/
  mod : Nat := 0
  /-- T_max at that instant (10 R263) -/
  tMax : Option Int := none
  /-- T_min at that instant (10 R263) -/
  tMin : Option Int := none
  /-- V_CAP code at that instant (10 R263) -/
  vCap : Option Nat := none
  /-- chain current at that instant (10 R263) -/
  i : Option Int := none
  /-- sequence of the shutdown that a release record releases (10 R263) -/
  ref : Nat := 0
  /-- copies whose digest fails (10 R263) -/
  bad : BitVec 2 := 0
deriving DecidableEq, Repr

/-- Standing of one reaction entry. -/
structure EntryRec where
  /-- fired since last cleared (11 PRT_FIRED) -/
  fired : Bool := false
  /-- reaction in force (11 PRT_LATCHED) -/
  latched : Bool := false
  /-- clocks of the firings counted in the window (11 R272) -/
  times : List Nat := []
  /-- clock of the last firing (11 R280) -/
  firedAt : Option Nat := none
  /-- clock since which its source is inactive (11 R271) -/
  inactSince : Option Nat := none
  /-- an escalation is due (11 R272) -/
  esc : Bool := false
  /-- the table's entry as it was when it last fired (03 R58; 11 R270) -/
  act : Reaction := {}
deriving DecidableEq, Repr

/-- One load channel. -/
structure LswCh where
  /-- switched on (12 LSW_CH.ON) -/
  isOn : Bool := false
  /-- commanded on (12 R290) -/
  want : Bool := false
  /-- clamp hold in force (12 R298 CLAMP) -/
  clamp : Bool := false
  /-- on by hot shutdown (12 FORCED) -/
  forced : Bool := false
  /-- off by shedding stage 1 (12 SHED) -/
  shed : Bool := false
  /-- shed by cluster temperature (12 R296 THERMAL_OFF) -/
  thermalOff : Bool := false
  /-- latched off (12 R294 LATCHED) -/
  latched : Bool := false
  /-- limiting now (12 R292 LIMITING) -/
  limiting : Bool := false
  /-- clock at which limiting began (12 R292) -/
  limAt : Nat := 0
  /-- clock at which the inrush window ends, none closed (12 R293 INRUSH) -/
  inrushDue : Option Nat := none
  /-- economiser duty in force (12 R297 ECON) -/
  econ : Bool := false
  /-- clock at which ECON_PULL ends (12 R297) -/
  econDue : Option Nat := none
  /-- clock at which the retry pause ends (12 R294 PAUSE) -/
  pauseDue : Option Nat := none
  /-- next retry pause, ms (12 R294) -/
  pause : Nat := 10
  /-- failed attempts counted (12 R294 ATTEMPTS) -/
  attempts : Nat := 0
  /-- clock of the last switch-on (12 R294) -/
  onSince : Nat := 0
  /-- channel current, 10 mA (12 LSW_CH.I) -/
  i : Option Int := none
  /-- junction temperature, 0.1 C (12 LSW_CH_TJ) -/
  tj : Option Int := none
  /-- diagnosis code (12 R300 LSW_DIAG) -/
  diag : Nat := 0
  /-- clock since which the current is below OPEN_MIN while on (12 R300) -/
  lowSince : Option Nat := none
  /-- clock at which a shed contactor coil turns off (12 R296) -/
  coilDue : Option Nat := none
  /-- command that waits for the restart of HE to end (02 R30) -/
  wantDue : Option Bool := none
deriving DecidableEq, Repr

/-- One cluster of load channels. -/
structure ClusterRec where
  /-- cluster current, 10 mA (12 LSW_CLUSTER.I) -/
  i : Option Int := none
  /-- restoring shed channels (12 R296 RESTORING) -/
  restoring : Bool := false
  /-- sensor at or above CLUSTER_SHED (12 R296 SHEDDING) -/
  shedding : Bool := false
  /-- channels shed now, last shed first (12 R296 SHED_COUNT) -/
  shedList : List (Fin 12) := []
  /-- channel shed last, 0 none (12 LAST) -/
  last : Nat := 0
  /-- clock at which the next shed channel may be restored (12 R296) -/
  nextDue : Option Nat := none
  /-- clock of the last shed (12 R296) -/
  lastShedAt : Nat := 0
deriving DecidableEq, Repr

/-- Staging window of one requester. -/
structure TxWin where
  /-- identifier (13 LBUS_TX_ID) -/
  id : BitVec 29 := 0
  /-- BRS, FDF, XTD, DLC (13 LBUS_TX_CTRL) -/
  ctrl : BitVec 7 := 0
  /-- data words (13 LBUS_TX_DATA) -/
  data : Vector (BitVec 32) 16 := Vector.replicate 16 0
deriving DecidableEq, Repr

/-- One transmit buffer. -/
structure TxBuf where
  /-- 0 free, 1 pending, 2 transmitting (13 LBUS_TX_STATE) -/
  st : Nat := 0
  /-- its frame (13 R308) -/
  frame : Option CanFrame := none
  /-- order of loading (13 R309) -/
  seq : Nat := 0
  /-- cancelled while it is transmitted (13 R310) -/
  cancel : Bool := false
deriving DecidableEq, Repr

/-- One receive queue entry. -/
structure RxEntry where
  /-- the frame (13 R311) -/
  frame : CanFrame := { id := 0, xtd := false, fdf := false, brs := false, esi := false, rtr := false, dlc := 0, data := [], stamp := 0 }
  /-- accepting filter (13 LBUS_RX_CTRL.FILTER) -/
  filter : Nat := 0
  /-- frame that woke the device (13 WAKE) -/
  wake : Bool := false
  /-- delivery sequence (13 SEQ) -/
  seq : Nat := 0
  /-- delivery number (13 R311) -/
  order : Nat := 0
  /-- owned by software (13 OWNED) -/
  owned : Bool := false
deriving DecidableEq, Repr

/-- One local-bus service request held. -/
structure SvcReq where
  /-- tag (13 R315) -/
  tag : BitVec 16 := 0
  /-- operation (13 R315) -/
  op : BitVec 8 := 0
  /-- address (13 R315) -/
  addr : BitVec 32 := 0
  /-- data (13 R315) -/
  data : BitVec 32 := 0
  /-- it found 4 held and is answered with status 0x06 (13 R315) -/
  refused : Bool := false
deriving DecidableEq, Repr

/-- One maintenance activity. -/
structure Activity where
  /-- activity (15 MNT_ACT.CODE) -/
  code : ActCode := .learn
  /-- starting port (15 MNT_ACT.PORT) -/
  port : Requester := .spline
  /-- chain (15 MNT_ACT.CHAIN) -/
  chain : ChainId := .a
  /-- target module (15 MNT_ACT.MODULE) -/
  mod : Fin 32 := 0
  /-- resources held (15 MNT_ACT.RESOURCES) -/
  res : BitVec 10 := 0
  /-- clock of the start (15 R357) -/
  startedAt : Nat := 0
  /-- clock at which ACT_TIMEOUT ends (15 R357) -/
  timeout : Option Nat := none
  /-- module mask argument at the start (15 T15.10) -/
  mask : BitVec 32 := 0
  /-- sentinels that have answered a SENT_UPDATE (15 T15.10) -/
  answered : BitVec 32 := 0
  /-- value argument at the start (15 T15.10) -/
  value : BitVec 32 := 0
deriving DecidableEq, Repr

/-- One event log entry. -/
structure Event where
  /-- sequence (16 R370) -/
  seq : Nat := 0
  /-- TIME (16 T16.20) -/
  time : BitVec 64 := 0
  /-- CODE (16 T16.20) -/
  code : Nat := 0
  /-- detail item 1 (16 T16.20) -/
  d1 : Nat := 0
  /-- detail item 2 (16 T16.20) -/
  d2 : Nat := 0
  /-- detail item 3 (16 T16.20) -/
  d3 : Nat := 0
  /-- clock at which it was logged (16 R371) -/
  at_ : Nat := 0
deriving DecidableEq, Repr

/-- One NVM write in progress. -/
structure NvmWrite where
  /-- kind of write (14 R330) -/
  kind : NvmKind := .event
  /-- clock at which it began (14 R330) -/
  began : Nat := 0
  /-- entries of an event-log write, newest first (16 R371) -/
  entries : List Event := []
  /-- record of a till-record write (10 R263) -/
  till : Option TillRec := none
deriving DecidableEq, Repr

/-- Part, straps and input pins of the device. -/
structure Dev where
  /-- which of the two parts this is (00 R1; 16 ID_PART) -/
  part : Part := .qz9640
  /-- level of the ROLE_SEL pin (01 R13) -/
  roleSelPin : Bool := false
  /-- ROLE_SEL as last sampled: false member A, true member B (01 R13; ARM_CELL_STATE.MEMBER) -/
  member : Bool := false
  /-- SENSE_SRC strap: false ground, true VBAK (12 R301; ID_STRAPS.SENSE_SRC) -/
  senseSrcPin : Bool := false
  /-- debounced BYP_STAT pin low, i.e. vacuum switch closed (06 R144) -/
  bypStatLow : Bool := false
  /-- TRIP_IN_N reads low after its filter (11 R278; PRT_STATUS.TRIP_IN) -/
  tripInLow : Bool := false
  /-- run condition of the device between reset and ring-ready (14 R331, R336; 03 R61) -/
  phase : Phase := .held
  /-- clock value at the release of power-on reset (14 R324) -/
  vsysValidAt : Nat := 0
  /-- manufacturing serial held in the identity area (16 R368 ID_SERIAL) -/
  serial : BitVec 64 := 0
  /-- the loaded registers have taken their stored values (16 R364) -/
  serialLoaded : Bool := false
  /-- a ring-ready has occurred since power-on (EXTEST in PROVISIONED) (15 T15.9) -/
  extestSeen : Bool := false
deriving DecidableEq, Repr

/-- Engines, ECC and dual-clock queues (PWR_ENGINE_, PWR_ECC_, PWR_DCQ_). -/
structure Eng where
  /-- run state of ME CEA CEB EE PE FE HE SE (02 R24 PWR_ENGINE_STATE.STATE) -/
  state : Vector EngRun 8 := Vector.replicate 8 .off
  /-- PE lock-step reaction since power-on or cold reset (02 R31 PE_LS) -/
  peLs : Bool := false
  /-- SE lock-step reaction since power-on or cold reset (02 R31 SE_LS) -/
  seLs : Bool := false
  /-- watchdog expiries per engine, saturating at 15 (02 PWR_ENGINE_RESTARTS) -/
  restarts : Vector Nat 8 := Vector.replicate 8 0
  /-- clock of each engine's last single-engine restart (02 R29) -/
  lastRestart : Vector (Option Nat) 8 := Vector.replicate 8 none
  /-- clock of the last watchdog-caused warm reset (02 R29) -/
  lastWarmWd : Option Nat := none
  /-- uncorrectable NVM error seen (02 PWR_ECC_STATUS) -/
  nvmUe : Bool := false
  /-- uncorrectable TCM error seen (02 PWR_ECC_STATUS) -/
  tcmUe : Bool := false
  /-- uncorrectable SRAM error seen (02 PWR_ECC_STATUS) -/
  sramUe : Bool := false
  /-- NVM lines corrected (02 PWR_ECC_STATUS) -/
  nvmCe : Nat := 0
  /-- TCM words corrected (02 PWR_ECC_STATUS) -/
  tcmCe : Nat := 0
  /-- SRAM words corrected (02 PWR_ECC_STATUS) -/
  sramCe : Nat := 0
  /-- lines of the non-volatile memory that wait for write-permit to be rewritten (02 R34) -/
  rewriteDue : List Nat := []
  /-- address of the last uncorrectable error (02 PWR_ECC_ADDR) -/
  eccAddr : BitVec 32 := 0xFFFFFFFF#32
  /-- one flag per dual-clock queue but EVT_HW, whose flag stands in `evt.hwFull` (02 R38 PWR_DCQ_FLAGS) -/
  dcqFlags : BitVec 26 := 0
  /-- flags of PWR_DCQ_FLAGS set in the newest clock (00 R8) -/
  dcqFresh : Fresh := {}
  /-- error bits of PWR_ECC_STATUS set in the newest clock (00 R8) -/
  ueFresh : Fresh := {}
  /-- entries dropped from PLINTH_EV (02 PWR_DCQ_LOST) -/
  lostPlinth : Nat := 0
  /-- next SRAM word of the scrubber, 0 to 786,431 (02 R33) -/
  scrubPtr : Nat := 0
  /-- PLINTH frequency last measured by HE, Hz (02 R37) -/
  plinthHz : Option Nat := none
  /-- clock of the watchdog expiry of a single-engine restart that is in progress (02 R28) -/
  restartDue : Vector (Option Nat) 8 := Vector.replicate 8 none
deriving DecidableEq, Repr

/-- Carcass images, staging, dry-fit and glue-up (IMG_). -/
structure Img where
  /-- slot marked active: false A, true B (03 R60 IMG_STATUS.ACTIVE_SLOT) -/
  activeSlot : Bool := false
  /-- booted from the non-active slot (03 R60 FALLBACK) -/
  fallback : Bool := false
  /-- empty, erasing, receiving, complete, dry-fit running (03 IMG_STATUS.STAGING) -/
  staging : Staging := .empty
  /-- inactive slot locked (03 R49 LOCKED) -/
  locked : Bool := false
  /-- class of the staged image once dry-fit passed (03 R52 CLASS) -/
  structural : Bool := false
  /-- idle, announced, ready, confirmed, restarting, silent (03 IMG_STATUS.GLUE) -/
  glue : Glue := .idle
  /-- reason that READY is not set (03 R54 GLUE_BLOCK) -/
  glueBlock : Nat := 0
  /-- dry-fit result code (03 IMG_DRYFIT_RESULT.CODE) -/
  dfCode : BitVec 8 := 0
  /-- failing section type (03 IMG_DRYFIT_RESULT.SECTION) -/
  dfSection : BitVec 8 := 0
  /-- failing record index (03 IMG_DRYFIT_RESULT.RECORD) -/
  dfRecord : BitVec 12 := 0
  /-- records ignored (03 R46 WARN_IGNORED) -/
  dfWarn : Bool := false
  /-- version of the staged image once STAGING = 3 (03 IMG_STAGED_VERSION) -/
  stagedVersion : BitVec 32 := 0
  /-- security-version floor (stored in the identity area) (03 R47 IMG_FLOOR) -/
  floor : Nat := 0
  /-- bytes written since STAGE_BEGIN (03 IMG_STAGE_COUNT) -/
  stageCount : Nat := 0
  /-- LENGTH of the last STAGE_BEGIN in 64-byte units (03 R48) -/
  stageLen : Nat := 0
  /-- port that opened staging (03 R48) -/
  stagePort : Option Requester := none
  /-- announced T_G in Spline time (03 IMG_GLUE_TIME) -/
  glueTime : Nat := 0
  /-- announced schedule tag (03 R54) -/
  glueTag : BitVec 64 := 0
  /-- staged schedule tag (03 IMG_TAG_STAGED) -/
  tagStaged : BitVec 64 := 0
  /-- the image in force, none before boot (03 R60) -/
  active : Option Image := none
  /-- the staged image as parsed by dry-fit (03 R50) -/
  staged : Option Image := none
  /-- NVM image slot A, canonical list of bytes (02 T02.5) -/
  slotA : List Host.Cell := []
  /-- NVM image slot B, canonical list of bytes (02 T02.5) -/
  slotB : List Host.Cell := []
  /-- slot A holds an uncorrectable NVM error (02 R35) -/
  slotAErr : Bool := false
  /-- slot B holds an uncorrectable NVM error (02 R35) -/
  slotBErr : Bool := false
  /-- arm cycles begun in the ring-agreement window (03 R51) -/
  winCycles : Nat := 0
  /-- positions that published the staged tag in the window (03 R51) -/
  winAgree : BitVec 32 := 0
  /-- a checked member published a different staged tag (03 R51) -/
  winDiffer : Bool := false
  /-- an ARM_CYCLE arrived in the window (03 T03.7) -/
  winArm : Bool := false
  /-- clock at which the glue-up restart began (03 T03.9) -/
  restartAt : Nat := 0
  /-- staged image to be adopted at the next boundary (03 R57) -/
  adoptDue : Bool := false
  /-- the staged image failed to load at T_G: silent until another one is in force (03 R59) -/
  loadFail : Bool := false
  /-- clock at which dry-fit started (03 R50) -/
  dfAt : Nat := 0
  /-- chunks that wait for a record write to end, newest first: offset and bytes (03 R48) -/
  waiting : List (Nat × List (BitVec 8)) := []
deriving DecidableEq, Repr

/-- Spline ring, positions, ordered sets, frames (SPL_). -/
structure Spl where
  /-- ring number (04 R64 SPL_STATUS.RING) -/
  ring : Nat := 0
  /-- ring position (04 R64 POSITION) -/
  position : Nat := 0
  /-- ring size N (04 R64 SIZE_M1) -/
  size : Nat := 1
  /-- position established (04 R64 POS_VALID) -/
  posValid : Bool := false
  /-- silent for a position conflict (04 R65 POS_CONFLICT) -/
  posConflict : Bool := false
  /-- own slots in use (04 T04.2 RING_READY) -/
  ringReady : Bool := false
  /-- own-frame path cut (04 R90 GUARD_CUT) -/
  guardCut : Bool := false
  /-- clocks of guardian replacements of the last second (04 R90) -/
  guardHits : List Nat := []
  /-- port SPL_E (04 R62-R63 SPL_PORT) -/
  portE : RingPort := {}
  /-- port SPL_W (04 R62-R63 SPL_PORT) -/
  portW : RingPort := {}
  /-- ring bound B of the active schedule (04 R75 SPL_RING_BOUND) -/
  boundB : Nat := 0
  /-- D_line of the active schedule (04 R72 SPL_LINE_DELAY) -/
  dLine : Nat := 0
  /-- B of the staged schedule (04 R75 SPL_STAGED_BOUND) -/
  stagedBound : Nat := 0
  /-- D_line of the staged schedule (04 R75 SPL_STAGED_LINE) -/
  stagedLine : Nat := 0
  /-- residence times east to west, 1/16 ns: their sum and number, shown as the mean (04 SPL_RESIDENCE.E_TO_W) -/
  resE2W : Nat × Nat := (0, 0)
  /-- residence times west to east, 1/16 ns: their sum and number, shown as the mean (04 SPL_RESIDENCE.W_TO_E) -/
  resW2E : Nat × Nat := (0, 0)
  /-- bad frames and failed set checks (04 SPL_CNT.LOST) -/
  cntLost : Nat := 0
  /-- own frames withdrawn (04 R71 SPL_CNT.WITHDRAWN) -/
  cntWithdrawn : Nat := 0
  /-- refusals (04 R74 SPL_CNT.REFUSED) -/
  cntRefused : Nat := 0
  /-- guardian replacements (04 R90 SPL_CNT.GUARD) -/
  cntGuard : Nat := 0
  /-- urgent latch (04 R78 URG_LATCH) -/
  urgLatch : UrgLatch := .none
  /-- code of the last urgent set acted on, 0 none (04 R78 SPL_URGENT.CODE) -/
  urgCode : Nat := 0
  /-- its sequence (04 R78 SPL_URGENT.SEQ) -/
  urgSeq : Nat := 0
  /-- urgent sets forwarded in the last 100 us, per port (04 R77) -/
  urgFwd : List UrgFwd := []
  /-- the last ARM_CYCLE accepted (04 R69, R83) -/
  lastArm : Option ArmCycle := none
  /-- common bytes of the ARM_CYCLE frames accepted, by CYCLE, newest first, at most 8 (04 R69) -/
  armSeen : List (Nat × List (BitVec 8)) := []
  /-- frames accepted of the last 16 cycles, for later copies (04 R69) -/
  copies : List CopyKey := []
  /-- clock since which the copies agree while in conflict (04 R65) -/
  conflictAt : Nat := 0
  /-- ring, size and position that those copies imply (04 R65) -/
  conflictCand : Option (Nat × Nat × Nat) := none
  /-- register operations held, at most 6, oldest first (04 R87) -/
  regQueue : List HeldOp := []
  /-- answers with status 0x06 waiting (04 R88) -/
  ansRefused : List RegRsp := []
  /-- newest BULK report waiting (04 R88) -/
  ansBulk : Option RegRsp := none
  /-- operation results waiting, in order of completion (04 R88) -/
  ansResults : List RegRsp := []
  /-- CYCLE of each refusal of the last 16 cycles (04 R87) -/
  refusals : List Nat := []
  /-- operations of the last 16 cycles as carried by each gateway (true: west) (04 R86) -/
  reqSeen : List (Nat × Bool × RegOp) := []
  /-- publications received, by position and cycle (04 R84; 05 R107) -/
  pubs : List PubRec := []
  /-- last ARM_SUMMARY accepted (04 R85) -/
  summary : Option ArmSummary := none
  /-- own frames frozen and awaiting a launch, oldest first (04 R71) -/
  frozen : List OwnFrame := []
  /-- slot instances taken: slot and boundary (04 R74) -/
  taken : List (Nat × Nat) := []
  /-- T_G of the last switch and the schedule before it (04 R73) -/
  oldInlay : Option (Nat × Inlay) := none
  /-- transmitting in no slot because the ring tag differs (03 R57) -/
  silent : Bool := false
deriving DecidableEq, Repr

/-- Spline time discipline (TIM_). -/
structure Tim where
  /-- Spline time, ns (04 R80 TIM_NOW) -/
  time : Nat := 0
  /-- stepped at least once since reset (04 TIM_STATUS.ACQUIRED) -/
  acquired : Bool := false
  /-- aligned (04 R80 TIME_VALID) -/
  timeValid : Bool := false
  /-- in holdover (04 R82 HOLDOVER) -/
  holdover : Bool := false
  /-- valid for modulation (04 R82 VALID_MOD) -/
  validMod : Bool := false
  /-- copy followed: false east, true west (04 TIM_STATUS.SOURCE) -/
  sourceWest : Bool := false
  /-- cycles since the last applied offset (04 TIM_STATUS.MISSED) -/
  missed : Nat := 0
  /-- last offset e, 1/16 ns (04 R80 TIM_OFFSET) -/
  offset : Option Int := none
  /-- west minus east offset, 1/16 ns (04 R80 TIM_GW_SKEW) -/
  skew : Option Int := none
  /-- consecutive offsets within 10 ns since the step (04 R80) -/
  good : Nat := 0
  /-- consecutive offsets beyond 100 ns (04 R80) -/
  bad : Nat := 0
  /-- clock of the last applied offset (04 R82) -/
  lastApplied : Nat := 0
  /-- clock of the last valid ARM_CYCLE copy (04 R82) -/
  lastCopy : Nat := 0
  /-- CYCLE whose copies are held below (04 R80) -/
  copyCycle : Nat := 0
  /-- offset of the east copy of that cycle (04 R80) -/
  copyEast : Option Int := none
  /-- offset of the west copy of that cycle (04 R80) -/
  copyWest : Option Int := none
  /-- a copy of that cycle has been followed (04 R80) -/
  copyUsed : Bool := true
  /-- the next offset is applied as a step (04 R80, R82) -/
  needStep : Bool := true
deriving DecidableEq, Repr

/-- Newest converter samples of the analog inputs (02 ADC queue). -/
structure Meas where
  /-- capacitor voltage, 50 mV code (05 R101; 00 R3) -/
  vCap : Option Nat := none
  /-- capacitor voltage at the last strobe, 50 mV code (09 R233) -/
  vCapSet : Option Nat := none
  /-- terminal current, 0.1 A (04 T04.9 I_TERM) -/
  iTerm : Option Int := none
  /-- chain A voltage, 50 mV code (07 R148) -/
  vChA : Option Nat := none
  /-- chain B voltage, 50 mV code (07 R148) -/
  vChB : Option Nat := none
deriving DecidableEq, Repr

/-- Arm modulation (ARM_). -/
structure Arm where
  /-- mode in force (05 R96 ARM_STATUS.MODE) -/
  mode : ArmMode := .block
  /-- received frames' modes not yet superseded, newest first (05 R96 PENDING, PEND_MODE, ARM_PEND_TIME) -/
  modes : List ModeFrame := []
  /-- newest mode with its APPLY_TIME, in force or pending (05 R96) -/
  nextMode : Option (ArmMode × Nat) := none
  /-- blocked for loss of reference (05 R105 LOST_REF) -/
  lostRef : Bool := false
  /-- clamp acted in the newest period (05 R101 SAT) -/
  sat : Bool := false
  /-- reference held without a new frame (05 R100 HOLD) -/
  hold : Bool := false
  /-- consecutive cycles without a reference frame (05 R100 MISSED) -/
  missed : Nat := 0
  /-- reference frame in force with its origin (05 R93, R100) -/
  ref : Option RefFrame := none
  /-- reference frames committed for coming cycles, newest first (05 R93) -/
  refQ : List RefFrame := []
  /-- published cell state (01 R17 ARM_CELL_STATE.STATE) -/
  cell : CellSt := .off
  /-- published state changes, wrapping (01 ARM_CELL_STATE.CHANGES) -/
  changes : Nat := 0
  /-- ownership token held (01 R15 OWNER) -/
  owner : Bool := false
  /-- role clash holds the cell (01 R16) -/
  roleClash : Bool := false
  /-- a block of a floor (sources 0x18, 0x19) holds the cell (01 R394) -/
  protBlock : Bool := false
  /-- the diagnostics begun at a block have not passed since (01 R394) -/
  blk : Bool := false
  /-- the last publication was held by the mode or by an urgent latch (05 R107 c, R109) -/
  heldOff : Bool := false
  /-- the arm asked the cell to insert at the last boundary (01 R22; 05 R118) -/
  ranLast : Bool := false
  /-- VALID_MOD has fallen since the last boundary (05 R105) -/
  modFell : Bool := false
  /-- phase offset that the running carrier follows, ns (05 R111) -/
  grid : Option Nat := none
  /-- period start for which the last sets were computed, and its length (05 R103-R104) -/
  planned : Option (Nat × Nat) := none
  /-- own membership of the newest cycles by boundary (05 R112) -/
  maskLog : List (Nat × BitVec 32) := []
  /-- blocked after a warm reset or restart until its diagnostics pass (14 R334) -/
  resetBlock : Bool := false
  /-- bypass decided, or switch found closed at start-up (11 R274; 01 R21) -/
  bypassed : Bool := false
  /-- standing of the off-state diagnostics since the last block (01 R394; 06 R141) -/
  diag : DiagSt := .none
  /-- leg A passed the last diagnostics (06 R141) -/
  diagA : Bool := false
  /-- leg B passed the last diagnostics (06 R141) -/
  diagB : Bool := false
  /-- consecutive runs in which both legs failed (11 T11.5 0x11) -/
  diagFails : Nat := 0
  /-- pairing error (05 R106) -/
  pairErr : Bool := false
  /-- own key active in the current cycle (05 ARM_MEMBER.IN) -/
  inNow : Bool := false
  /-- active keys n (05 ARM_MEMBER.N_RING) -/
  nRing : Nat := 0
  /-- rank k (05 ARM_MEMBER.RANK) -/
  rank : Nat := 0
  /-- positions counted for the current cycle (05 R107 ARM_ACTIVE_MASK) -/
  mask : BitVec 32 := 0
  /-- ring index j (05 ARM_MEMBER.RING_INDEX) -/
  ringIdx : Nat := 0
  /-- own key (05 R106 ARM_MEMBER.KEY) -/
  key : Nat := 0
  /-- phase offset o, ns (05 R110 ARM_PHASE) -/
  phase : Nat := 0
  /-- membership computed for the next cycle (05 R107) -/
  maskNext : BitVec 32 := 0
  /-- own key active in the next cycle (05 R107) -/
  inNext : Bool := false
  /-- n of the next cycle (05 R110) -/
  nNext : Nat := 0
  /-- k of the next cycle (05 R110) -/
  rankNext : Nat := 0
  /-- o of the next cycle (05 R110) -/
  phaseNext : Nat := 0
  /-- lengths of the transition periods still to run (05 R111) -/
  trans : List Nat := []
  /-- d of the newest period, Q16 (05 R101 ARM_DUTY) -/
  duty : Option Int := none
  /-- d0 of the newest period (05 R101 ARM_DUTY0) -/
  duty0 : Option Int := none
  /-- db of the newest period (05 R101 ARM_BALANCE) -/
  balance : Int := 0
  /-- P_cell handed to the chain engines, W (05 R113 ARM_P_SHARE) -/
  pShare : Int := 0
  /-- cycles without a reference frame (05 ARM_CNT.MISSED) -/
  cntMissed : Nat := 0
  /-- late frames (05 ARM_CNT.LATE) -/
  cntLate : Nat := 0
  /-- substituted publications (05 ARM_CNT.SUBST) -/
  cntSubst : Nat := 0
  /-- ACTIVE_MASK differences (05 ARM_CNT.MISMATCH) -/
  cntMismatch : Nat := 0
  /-- Spline time of the last arm cycle boundary (05 R93) -/
  boundary : Nat := 0
deriving DecidableEq, Repr

/-- Pulse units (PWM_). -/
structure Pwm where
  /-- leg A pulse unit and its shadow registers (06 R121-R126) -/
  a : PulseUnit := {}
  /-- leg B pulse unit and its shadow registers (06 R121-R126) -/
  b : PulseUnit := {}
  /-- sets rejected (06 PWM_CNT.REJECT) -/
  cntReject : Nat := 0
  /-- periods repeated (06 PWM_CNT.REPEAT) -/
  cntRepeat : Nat := 0
deriving DecidableEq, Repr

/-- Gate links, legs, bypass outputs and jig mode (GLK_). -/
structure Glk where
  /-- leg A state, cause and marks (06 GLK_LEG_STATE) -/
  legA : LegRec := {}
  /-- leg B state, cause and marks (06 GLK_LEG_STATE) -/
  legB : LegRec := {}
  /-- leg B active interval drives its upper switch (06 R140 B_INVERT) -/
  bInvert : Bool := false
  /-- the four gate links (06 GLK_OUT, GLK_STATUS, GLK_FLAGS, GLK_TEST, GLK_CNT) -/
  links : Vector LinkRec 4 := Vector.replicate 4 {}
  /-- BYP_FIRE firing (06 R143 GLK_BYPASS.FIRING) -/
  firing : Bool := false
  /-- firing requested by BYPASS_ALL in force (06 R143) -/
  fireAll : Bool := false
  /-- firing requested until BYP_STAT reads closed (06 R143) -/
  fireHold : Bool := false
  /-- clock at which FIRE_DELAY ends (11 R275) -/
  fireDue : Option Nat := none
  /-- clock at which the last of the four links began its OFF word, none while not all send OFF (11 R275) -/
  offSince : Option Nat := none
  /-- BYP_CLOSE asserted (06 R144 CLOSE_ASSERTED) -/
  closeAsserted : Bool := false
  /-- clock at which BYP_CLOSE_TIMEOUT ends (06 R144) -/
  closeDue : Option Nat := none
  /-- BYP_STAT reads closed after debounce (06 R144 STAT_CLOSED) -/
  statClosed : Bool := false
  /-- clock at which TEST_WINDOW ends (06 R141) -/
  testUntil : Option Nat := none
  /-- legs under test: bit 0 leg A, bit 1 leg B (06 R141; 11 R271) -/
  testLegs : Nat := 0
  /-- the test is that of a released leg alone (11 R271) -/
  testRetest : Bool := false
  /-- the test is that of a BLOCK-to-RUN transition, which alone clears park marks (01 R19; 05 R109) -/
  testB2R : Bool := false
  /-- clock at which the TEST words ended (06 R141) -/
  testOver : Option Nat := none
  /-- jig pulse in progress (06 R145) -/
  jig : Option JigRun := none
  /-- jig widths (06 GLK_JIG_TIME) -/
  jigTime : BitVec 32 := 0
  /-- clock at which TAKE_HOLD_MAX ends (06 R142) -/
  takeUntil : Option Nat := none
  /-- leg A still sends HOLD after a takeover (06 R142) -/
  holdA : Bool := false
  /-- leg B still sends HOLD after a takeover (06 R142) -/
  holdB : Bool := false
deriving DecidableEq, Repr

/-- One battery chain converter (CHA_, CHB_). -/
structure Chain where
  /-- chain state (07 R165 CHA_STATE.STATE) -/
  st : ChainSt := .absent
  /-- K_POS coil commanded on (07 K_POS) -/
  kPos : Bool := false
  /-- K_NEG coil commanded on (07 K_NEG) -/
  kNeg : Bool := false
  /-- K_PRE coil commanded on (07 K_PRE) -/
  kPre : Bool := false
  /-- clock since which K_POS and K_NEG have both been commanded on (07 R157) -/
  kClosedSince : Option Nat := none
  /-- K_POS welded (retained) (07 R171 WELD_POS) -/
  weldPos : Bool := false
  /-- K_NEG welded (retained) (07 R171 WELD_NEG) -/
  weldNeg : Bool := false
  /-- K_PRE welded (retained) (07 R171 WELD_PRE) -/
  weldPre : Bool := false
  /-- last opening made under current (07 R172 FORCED) -/
  forced : Bool := false
  /-- limits halved (07 R163 DERATE) -/
  derate : Bool := false
  /-- learning cycle running (07 R176 LEARN) -/
  learnOn : Bool := false
  /-- charge disabled for span (07 R161 CHG_SPAN) -/
  chgSpan : Bool := false
  /-- discharge disabled for span (07 R161 DIS_SPAN) -/
  disSpan : Bool := false
  /-- direction of the last re-sort: 0 none, 1 discharge, 2 charge (07 R158 DIR) -/
  dir : Nat := 0
  /-- newest loop sample of i, 10 mA (07 CHA_CURRENT.I_MEAS) -/
  iMeas : Option Int := none
  /-- I_REF in force times 20,000, so 1/20,000 of 10 mA (the fraction of R155) (07 CHA_CURRENT.I_REF) -/
  iRef : Option Int := none
  /-- discharge limit in force, 10 mA (07 R155 CHA_LIMITS.DIS) -/
  limDis : Int := 0
  /-- charge limit in force, 10 mA, at most 0 (07 R155 CHA_LIMITS.CHG) -/
  limChg : Int := 0
  /-- loop output, mV (07 R157 CHA_U) -/
  u : Nat := 0
  /-- newest loop outputs with the Spline time of the trim period boundary at which each takes effect (07 R157) -/
  uPend : List (Nat × Nat) := []
  /-- loop integral, mV (07 R157 CHA_INTEG) -/
  integ : Int := 0
  /-- trim module (07 R153 CHA_STAIR.TRIM1) -/
  trim1 : Option (Fin 32) := none
  /-- second trim module (07 R154 CHA_STAIR.TRIM2) -/
  trim2 : Option (Fin 32) := none
  /-- modules inserted whole (07 R153 CHA_STAIR.N_INS) -/
  nIns : Nat := 0
  /-- whole list inserted (07 R153 CHA_STAIR.SAT) -/
  sat : Bool := false
  /-- W of the trim module, 10 ns (07 R151 CHA_TRIM_W.W1) -/
  w1 : Nat := 0
  /-- W of the second trim module, 10 ns (07 R154 CHA_TRIM_W.W2) -/
  w2 : Nat := 0
  /-- 150 A budget used, 0 to 60,000 (07 R156 CHA_OVER) -/
  overMs : Nat := 0
  /-- milliseconds at or below 120 A since the last fall of CHA_OVER (07 R156) -/
  overIdle : Nat := 0
  /-- selection list, first place first (07 R159 CHA_ORDER) -/
  order : List (Fin 32) := []
  /-- the modules (07 CHA_MOD_n) -/
  mods : Vector ModRec 32 := Vector.replicate 32 {}
  /-- learning cycle in progress (07 R176 CHA_LEARN) -/
  learn : LearnRec := {}
  /-- late sets (07 CHA_CNT.LATE) -/
  cntLate : Nat := 0
  /-- rejected sets (07 CHA_CNT.REJECT) -/
  cntReject : Nat := 0
  /-- modules lost (07 CHA_CNT.LOST) -/
  cntLost : Nat := 0
  /-- commands refused (07 CHA_CNT.REFUSED) -/
  cntRefused : Nat := 0
  /-- openings under current since manufacture (retained) (07 R172 CHA_CONT_OPS.FORCED) -/
  opsForced : Nat := 0
  /-- connection sequences completed since manufacture (retained) (07 CHA_CONT_OPS.CYCLES) -/
  opsCycles : Nat := 0
  /-- step of the connection or opening sequence in progress (07 T07.5, T07.6) -/
  seq : SeqStep := .none
  /-- clock at which that step's time ends (07 T07.5, T07.6) -/
  seqDue : Option Nat := none
  /-- clock at which the sequence began (07 T07.5) -/
  seqStart : Nat := 0
  /-- pre-charge target, mV (07 R167) -/
  target : Nat := 0
  /-- clock at which PRE_TIMEOUT ends (07 R168) -/
  preDue : Option Nat := none
  /-- clock at which the further PRE_TIMEOUT ends (07 R168) -/
  coolDue : Option Nat := none
  /-- v_ch code at t0 + 160 ms of test 2 (07 T07.6) -/
  weldBase : Option Nat := none
  /-- zeroing ends in OPENING, for a DISCONNECT or a rank-1 request (07 R165) -/
  openAfter : Bool := false
  /-- clock of the protective zeroing request (07 R170) -/
  protReq : Option Nat := none
  /-- clock since which |i| has stayed within I_ZERO (07 R170) -/
  zeroSince : Option Nat := none
  /-- a chain-open request of rank 1 holds the chain (07 T07.4 rank 1) -/
  openReq : Bool := false
  /-- clock of the block made by the rank-1 request (07 R172) -/
  openReqAt : Option Nat := none
  /-- a chain-block request of rank 2 holds the chain (07 T07.4 rank 2) -/
  blockReq : Bool := false
  /-- blocked by BYPASS_ALL; returns to RUN without a command (07 R174) -/
  byAllHeld : Bool := false
  /-- contactors dropped by a released clamp hold (12 R298) -/
  clampLost : Bool := false
  /-- clock since which |i| exceeds I_ZERO while every module is BLOCK (11 T11.5 0x25) -/
  blockedOver : Option Nat := none
  /-- clock of the newest EE limits (09 R233) -/
  limAt : Option Nat := none
  /-- clock since which |i| has stayed within I_ZERO (08 R208) -/
  quietSince : Option Nat := none
  /-- the connection in progress belongs to a PRECHARGE activity and ends in an opening (15 T15.10 code 5) -/
  preOnly : Bool := false
  /-- duration of the last pre-charge, ms (07 T07.9 0x2002) -/
  preMs : Nat := 0
  /-- F_MOD that the sentinels hold, kHz (0 none) (08 R192) -/
  fMod : Nat := 0
deriving DecidableEq, Repr

/-- One sentinel chain as the device sees it (SNA_, SNB_). -/
structure Sen where
  /-- asleep, waking, enumerating, enumerated, mismatch (08 SNA_STATE.STAGE) -/
  stage : SenStage := .asleep
  /-- broken link index (08 R195 SNA_STATE.BREAK) -/
  brk : Option Nat := none
  /-- sentinels reachable from TAIL (08 SNA_STATE.COUNT_TAIL) -/
  cntTail : Nat := 0
  /-- sentinels reachable from HEAD (08 SNA_STATE.COUNT_HEAD) -/
  cntHead : Nat := 0
  /-- filter corner in force (08 SNA_STATE.FILTER) -/
  filter : Nat := 0
  /-- corner and the SSEQ from which it applies (08 R201) -/
  filterNext : Option (Nat × Nat) := none
  /-- commanding end: false HEAD, true TAIL (08 CMD_END) -/
  cmdTail : Bool := false
  /-- every sentinel reachable from both ends (08 LOOP_INTACT) -/
  intact : Bool := false
  /-- an address conflict was found (08 R194) -/
  conflict : Bool := false
  /-- clock at which the 9 ms after wake end (08 R193) -/
  wakeDue : Option Nat := none
  /-- frames failing CRC (08 SNA_CNT.CRC) -/
  cntCrc : Nat := 0
  /-- lost commands (08 SNA_CNT.LOST_CMD) -/
  cntLostCmd : Nat := 0
  /-- duplicates reported (08 SNA_CNT.DUP) -/
  cntDup : Nat := 0
  /-- SAMPLEs missing (08 SNA_CNT.MISSED) -/
  cntMissed : Nat := 0
  /-- SSEQ of the last strobe (08 SNA_STROBE.SSEQ) -/
  sseq : Nat := 0
  /-- RES of the last strobe (08 SNA_STROBE.RES) -/
  res : Nat := 0
  /-- a strobe was sent or seen for the next t_s (08 R202) -/
  strobed : Bool := false
  /-- SAMPLEs of the last strobe are due (08 R210) -/
  awaited : Bool := false
  /-- filtered chain current (08 R202 SNA_I_FILT.I_FILT) -/
  iFilt : Option Int := none
  /-- raw chain current at the last strobe (08 SNA_I_FILT.I_RAW) -/
  iRaw : Option Int := none
  /-- filter state s, code in 1/65,536 (08 R201) -/
  iState : Option Int := none
  /-- the module records (08 record of module m) -/
  recs : Vector SenRec 32 := Vector.replicate 32 {}
  /-- clock of the next OW_TEST (08 R205) -/
  owDue : Option Nat := none
  /-- HOP with which the ENUM from HEAD arrived at the other end (08 R195) -/
  hopUp : Option Nat := none
  /-- HOP with which the ENUM from TAIL arrived at the other end (08 R195) -/
  hopDown : Option Nat := none
  /-- more sentinels answered than are declared (08 R195) -/
  extra : Bool := false
  /-- module of the next refresh entry (08 R186) -/
  refresh : Nat := 0
  /-- service requests that wait for a command window, first out first: module, operation, argument (08 R185) -/
  srqQ : List (Fin 32 × Nat × List Byte) := []
  /-- a strobe has been sent or seen since enumeration (08 R185) -/
  struck : Bool := false
  /-- the last t_s, Spline time (08 R189, R197) -/
  strobeAt : Nat := 0
  /-- the sets sent since the last state mirror (08 R212) -/
  newSets : List (Fin 32 × SentSet) := []
  /-- PING_ID of the last PING (08 T08.2) -/
  pingId : Nat := 0
deriving DecidableEq, Repr

/-- Estimation of one chain (EST_, VNR_). -/
structure EstCh where
  /-- chain SoC, 0.01 % (09 R224 EST_SOC) -/
  soc : Option Nat := none
  /-- chain discharge limit, 10 mA (09 R232 EST_LIMITS.DIS) -/
  limDis : Int := 0
  /-- chain charge limit, 10 mA, at most 0 (09 R232 EST_LIMITS.CHG) -/
  limChg : Int := 0
  /-- this chain's part of P_LIM_DIS, W (09 R232) -/
  pDis : Int := 0
  /-- this chain's part of P_LIM_CHG, W (09 R232) -/
  pChg : Int := 0
  /-- integrator accumulator A at the last strobe, uAs (09 R216 EST_CCI) -/
  acc : Int := 0
  /-- integrator accumulator now, uAs (plinth domain) (09 R216) -/
  accLive : Int := 0
  /-- A at the last counted millisecond, uAs (09 R218) -/
  accSeen : Int := 0
  /-- fraction of a uAs that the integrator carries, in nV ns (09 R216) -/
  accRem : Int := 0
  /-- the CCI queue, oldest snapshot first (09 R216; 02 T02.7) -/
  cci : List Snapshot := []
  /-- strobe of the last counted millisecond, Spline time (09 R218) -/
  seenAt : Nat := 0
  /-- charge of the counting gap already attributed at start-up, uAs (09 R220) -/
  gapQ : Int := 0
  /-- clock at which a counting gap began (09 R220) -/
  gapAt : Option Nat := none
  /-- sets last applied before a warm reset, by module; empty after a power-on or cold reset (09 R220) -/
  gapSets : List ModSet := []
  /-- Spline time of the record from which time-based drain is to be charged (09 R242) -/
  drainFrom : Option Nat := none
  /-- milliseconds of sleeping drain not yet charged, 0 to 19 (09 R219) -/
  sleepMs : Nat := 0
  /-- integrator epoch (09 R242 EST_CCI_EPOCH) -/
  epoch : Nat := 0
  /-- per-module and per-cell accounts (09 EST_MOD_m, EST_CELL_m_k) -/
  mods : Vector EstMod 32 := Vector.replicate 32 {}
  /-- veneer count, As (09 R222 VNR_COUNT) -/
  vnrCount : Int := 0
  /-- preset value, As (09 R223 VNR_PRESET) -/
  vnrPreset : Int := 0
  /-- PRESET loaded at the last PRESET, As (09 R222) -/
  vnrLoaded : Int := 0
  /-- A at the last PRESET, uAs (09 R223 A_preset) -/
  vnrA : Int := 0
  /-- chain capacity for VNR_SOC, As (09 VNR_CAP) -/
  vnrCap : Nat := 0
  /-- epoch changed since the last PRESET (09 R223 VNR_STATUS.GAP) -/
  vnrGap : Bool := false
  /-- mean chain current of the last millisecond, native sign, 10 mA (09 VNR_CURRENT) -/
  vnrCurrent : Option Int := none
  /-- clock of the last PRESET (09 VNR_AGE) -/
  vnrAt : Nat := 0
deriving DecidableEq, Repr

/-- Estimation, common part and records (EST_). -/
structure Est where
  /-- limits older than 15 ms (09 R233 EST_STATUS.STALE) -/
  stale : Bool := false
  /-- integrator epoch changed since the record (09 R242 EPOCH) -/
  epochChg : Bool := false
  /-- a record kind had no valid slot (09 R241 NONE) -/
  noneSlot : Bool := false
  /-- older slot used at start-up (09 R241 FALLBACK) -/
  fallback : Bool := false
  /-- milliseconds counted under R218 (09 EST_CNT.APPROX) -/
  cntApprox : Nat := 0
  /-- counting gaps (09 EST_CNT.GAPS) -/
  cntGaps : Nat := 0
  /-- learning cycles disqualified (09 EST_CNT.DISQ) -/
  cntDisq : Nat := 0
  /-- learning cycles accepted (09 EST_CNT.ACCEPTED) -/
  cntAccepted : Nat := 0
  /-- a STATE write is due (09 R238-R239) -/
  stateDue : Bool := false
  /-- that write is one of stage 1 or hibernation (09 R239) -/
  stateUrgent : Bool := false
  /-- a COUNT write is due (09 R238) -/
  countDue : Bool := false
  /-- clock at which the last STATE write began (09 R239) -/
  lastStateAt : Option Nat := none
  /-- clock of the last periodic STATE write that fell due (09 T09.4 CHECKPOINT) -/
  checkAt : Nat := 0
  /-- clock of the last periodic COUNT write that fell due (09 T09.4 COUNT_PERIOD) -/
  countAt : Nat := 0
  /-- NVM write in progress (14 R330) -/
  writing : Option NvmWrite := none
  /-- the target position of the next record write is erased (09 R238) -/
  erased : Bool := true
  /-- STATE positions held, newest first (09 R237 T09.4) -/
  recState : List StateRec := []
  /-- COUNT positions held, newest first (09 R237 T09.4) -/
  recCount : List CountRec := []
  /-- park causes kept in the records, per module of chain A then B (module cause, pending cause) (07 R163) -/
  park : Vector (Nat × Nat) 64 := Vector.replicate 64 (0, 0)
deriving DecidableEq, Repr

/-- Temperatures and thermal management (THM_). -/
structure Thm where
  /-- scan interval: 0 1 s, 1 100 ms, 2 10 ms (10 R252 THM_STATUS.SCAN) -/
  scan : Nat := 0
  /-- scan held at 1 s (10 R252 HELD) -/
  held : Bool := false
  /-- chain A hot shutdown (10 R261 CHA_SD) -/
  sdHotA : Bool := false
  /-- chain A cold shutdown (10 R261 CHA_SD) -/
  sdColdA : Bool := false
  /-- chain B hot shutdown (10 R261 CHB_SD) -/
  sdHotB : Bool := false
  /-- chain B cold shutdown (10 R261 CHB_SD) -/
  sdColdB : Bool := false
  /-- chain A hot release ready (10 R262 CHA_READY) -/
  readyA : Bool := false
  /-- chain B hot release ready (10 R262 CHB_READY) -/
  readyB : Bool := false
  /-- plinth-domain latch, chain A hot (10 R264) -/
  latHotA : Bool := false
  /-- plinth-domain latch, chain A cold (10 R264) -/
  latColdA : Bool := false
  /-- plinth-domain latch, chain B hot (10 R264) -/
  latHotB : Bool := false
  /-- plinth-domain latch, chain B cold (10 R264) -/
  latColdB : Bool := false
  /-- causes of chain A's hot shutdown (1 module, 3 inductor, 4 die) (10 R262) -/
  causeA : List Nat := []
  /-- causes of chain B's hot shutdown (10 R262) -/
  causeB : List Nat := []
  /-- consecutive scan steps of module, inductor and die heat, chain A (10 R261) -/
  hotRunA : Nat × Nat × Nat := (0, 0, 0)
  /-- the same of chain B (10 R261) -/
  hotRunB : Nat × Nat × Nat := (0, 0, 0)
  /-- consecutive scan steps of cold, chain A (10 R261) -/
  coldRunA : Nat := 0
  /-- consecutive scan steps of cold, chain B (10 R261) -/
  coldRunB : Nat := 0
  /-- clock since which chain A's causing sensors are below release (10 R262) -/
  relHotA : Option Nat := none
  /-- the same of chain B (10 R262) -/
  relHotB : Option Nat := none
  /-- clock since which chain A is at or above COLD_RELEASE (10 R262) -/
  relColdA : Option Nat := none
  /-- the same of chain B (10 R262) -/
  relColdB : Option Nat := none
  /-- general analog inputs (10 THM_GEN_n) -/
  gen : Vector GenIn 8 := Vector.replicate 8 {}
  /-- controller die, 0.1 C (10 THM_DIE_0.CTRL) -/
  dieCtrl : Option Int := none
  /-- measurement die (10 THM_DIE_0.MEAS) -/
  dieMeas : Option Int := none
  /-- power die (10 THM_DIE_1.POWER) -/
  diePower : Option Int := none
  /-- cluster sensors, 0.1 C (10 THM_CLUSTER) -/
  cluster : Vector (Option Int) 3 := Vector.replicate 3 none
  /-- heater states (10 THM_HEAT) -/
  heat : Vector HeatSt 12 := Vector.replicate 12 .off
  /-- automatic control wants the heater on (10 R259) -/
  heatAuto : Vector Bool 12 := Vector.replicate 12 false
  /-- heaters waiting for their stagger, channel order (10 R259) -/
  heatDue : List (Fin 12) := []
  /-- forced state and the clock at which it ends (10 R260) -/
  heatForce : Vector (Option (Bool × Nat)) 12 := Vector.replicate 12 none
  /-- clock at which a heater was last switched on (10 R259) -/
  heatLast : Option Nat := none
  /-- dies at or above DIE_WARN at the last scan step: controller, measurement, power (10 R261) -/
  dieWarn : BitVec 3 := 0
  /-- chain A modules (10 THM_MOD_m) -/
  modsA : Vector ThmMod 32 := Vector.replicate 32 {}
  /-- chain B modules (10 THM_MOD_m) -/
  modsB : Vector ThmMod 32 := Vector.replicate 32 {}
  /-- inductor factor of chain A (10 R255) -/
  indA : Nat := 1000
  /-- inductor factor of chain B (10 R255) -/
  indB : Nat := 1000
  /-- till records held, oldest first (NVM) (10 R263) -/
  tills : List TillRec := []
  /-- till records waiting for write-permit (10 R263) -/
  tillDue : List TillRec := []
  /-- sequence of the newest till record (10 R263) -/
  tillSeq : Nat := 0
  /-- till area full (10 R263 FULL) -/
  full : Bool := false
  /-- cause of the newest shutdown record (10 THM_TILL.LAST_CAUSE) -/
  lastCause : Nat := 0
  /-- implausible exclusions (10 THM_CNT.IMPLAUS) -/
  cntImplaus : Nat := 0
  /-- invalid exclusions (10 THM_CNT.INVALID) -/
  cntInvalid : Nat := 0
  /-- modules widened (10 THM_CNT.SUBST) -/
  cntSubst : Nat := 0
  /-- heater switchings (10 THM_CNT.HEAT) -/
  cntHeat : Nat := 0
deriving DecidableEq, Repr

/-- Protection (PRT_). -/
structure Prt where
  /-- the reaction table before a glue-up, for triggers up to that Spline time (03 R58) -/
  oldTable : Option (Nat × List Reaction) := none
  /-- entry that fired last (11 PRT_STATUS.LAST_ENTRY) -/
  last : Nat := 0
  /-- TRIP_OUT_N asserted (11 R278 TRIP_OUT) -/
  tripOut : Bool := false
  /-- clock at which TRIP_OUT_N was asserted (11 R278) -/
  tripOutAt : Nat := 0
  /-- entries that have asserted TRIP_OUT_N since it was last released (11 R278) -/
  tripBy : List Nat := []
  /-- a loss of reference awaits PE; the cell was inserting (11 R276) -/
  refLoss : Option Bool := none
  /-- an escalation is due (11 ESC_PENDING) -/
  escPend : Bool := false
  /-- comparators crossed (11 R396 CMP) -/
  cmp : BitVec 8 := 0
  /-- standing of each reaction entry (11 R270-R272 PRT_FIRED, PRT_LATCHED) -/
  entries : Vector EntryRec 64 := Vector.replicate 64 {}
  /-- escalating entry (11 PRT_BYPASS.ENTRY) -/
  bypEntry : Nat := 0
  /-- bypass by a table escalation (11 PRT_BYPASS.TABLE) -/
  bypTable : Bool := false
  /-- source that decided the bypass (11 PRT_BYPASS.SOURCE) -/
  bypSource : Nat := 0
  /-- firings of sources 0x00 to 0x08 (11 PRT_CNT.HW) -/
  cntHw : Nat := 0
  /-- firings of other sources (11 PRT_CNT.PE) -/
  cntPe : Nat := 0
  /-- escalations (11 PRT_CNT.ESC) -/
  cntEsc : Nat := 0
  /-- TRIP_IN_N assertions (11 PRT_CNT.TRIP_IN) -/
  cntTripIn : Nat := 0
  /-- sources other than comparators and 0x08 that are active (11 R396) -/
  active : List Nat := []
  /-- event sources raised since the last assessment (11 R396) -/
  pulsed : List Nat := []
  /-- consecutive assessments with V_CAP invalid (11 T11.5 0x19) -/
  vInvalid : Nat := 0
  /-- consecutive assessments with V_CAP at or above VCAP_OV_BYP (11 T11.5 0x1A) -/
  vOver : Nat := 0
  /-- clock at which the 20 us wait of a source 0x08 firing ends (11 R280) -/
  tripCountDue : Option Nat := none
  /-- clock of chain A's measurement-loss block (11 T11.5 0x23) -/
  measLostA : Option Nat := none
  /-- clock of chain B's measurement-loss block (11 T11.5 0x23) -/
  measLostB : Option Nat := none
  /-- clock at which leg A went to HIGH_Z for a fault, awaiting PE (06 R139) -/
  parkDueA : Option Nat := none
  /-- clock at which leg B went to HIGH_Z for a fault, awaiting PE (06 R139) -/
  parkDueB : Option Nat := none
  /-- bypass request to pass in the next state mirror (11 R288) -/
  bypReqFwd : Bool := false
  /-- entries fired and their clocks, for the next state mirror (11 R280) -/
  firedOut : List (Nat × Nat) := []
deriving DecidableEq, Repr

/-- Dovetail link and ownership token (DVT_). -/
structure Dvt where
  /-- simplex, link down, tracking, owning, handing over, role clash (11 DVT_STATUS.STATE) -/
  st : DvtSt := .simplex
  /-- token generation (11 GENERATION) -/
  gen : Nat := 0
  /-- token yielded (11 R285 YIELDED) -/
  yielded : Bool := false
  /-- last heartbeat showed HEALTHY (11 PARTNER_HEALTHY) -/
  partnerHealthy : Bool := false
  /-- last heartbeat showed OWNER (11 R281) -/
  partnerOwner : Bool := false
  /-- generation of the last heartbeat (11 R281) -/
  partnerGen : Nat := 0
  /-- last heartbeat showed GIVE (11 R281) -/
  partnerGive : Bool := false
  /-- clock of the last valid heartbeat (11 R283 HEARTBEAT) -/
  lastBeat : Option Nat := none
  /-- dovetail link up (11 LINK_UP) -/
  up : Bool := false
  /-- HEALTHY flag of the next heartbeat (11 R282) -/
  healthy : Bool := false
  /-- heartbeats are sent (11 R281; 02 T02.3) -/
  beating : Bool := false
  /-- clock at which stage 4 cleared HEALTHY while owning (14 R329) -/
  unhealthyAt : Option Nat := none
  /-- clock at which member B's 200 ms end (01 R15) -/
  waitTake : Option Nat := none
  /-- T_H of the hand-over in progress, Spline time (11 R284) -/
  giveAt : Option Nat := none
  /-- generation of that hand-over (11 R284) -/
  giveGen : Nat := 0
  /-- TOKEN_ACK received (11 R284) -/
  acked : Bool := false
  /-- TOKEN_GIVE received, TOKEN_ACK not yet sent (11 R284) -/
  ackOwed : Bool := false
  /-- partner's last valid state mirror (11 R281) -/
  mirror : Option Mirror := none
  /-- tokens taken under R283 (11 DVT_CNT.TAKEOVERS) -/
  cntTake : Nat := 0
  /-- hand-overs completed (11 DVT_CNT.HANDOVERS) -/
  cntHand : Nat := 0
  /-- heartbeat gaps longer than 2 us (11 DVT_CNT.GAPS) -/
  cntGaps : Nat := 0
  /-- mirror frames failing CRC (11 DVT_CNT.CRC) -/
  cntCrc : Nat := 0
  /-- Spline time of the last token move (11 DVT_MOVE) -/
  moveTime : Nat := 0
  /-- a role clash found before a cold reset still stands (01 R16) -/
  clashHeld : Bool := false
deriving DecidableEq, Repr

/-- Load channels (LSW_). -/
structure Lsw where
  /-- the channels LSW_OUT_1 to LSW_OUT_12 (12 LSW_CH_n) -/
  ch : Vector LswCh 12 := Vector.replicate 12 {}
  /-- select code in register mode (12 R301 LSW_SENSE.SEL) -/
  sel : Nat := 0
  /-- code on SENSE_SEL_3..0 (12 R301 LSW_SENSE.PINS) -/
  pins : Nat := 0
  /-- the clusters (12 R296 LSW_CLUSTER) -/
  clusters : Vector ClusterRec 3 := Vector.replicate 3 {}
  /-- failed attempts (12 LSW_CNT.FAILED) -/
  cntFailed : Nat := 0
  /-- channels latched (12 LSW_CNT.LATCHES) -/
  cntLatches : Nat := 0
  /-- cluster sheds (12 LSW_CNT.SHEDS) -/
  cntSheds : Nat := 0
  /-- clamp holds begun (12 LSW_CNT.CLAMPS) -/
  cntClamps : Nat := 0
  /-- clamp hold in force (plinth domain) (12 R298) -/
  clamp : Bool := false
  /-- clock at which the warm reset of the clamp hold began (12 R298) -/
  clampAt : Nat := 0
  /-- channels released without resume, to be logged when HE resumes (12 R298) -/
  clampLost : Option (BitVec 12) := none
  /-- estimated switch dissipation, mW (12 LSW_TOTAL.P_DISS) -/
  pDiss : Nat := 0
  /-- clock at which the next channel shed at stage 1 is restored (12 R299) -/
  restoreDue : Option Nat := none
  /-- channels shed at stage 1 still to be restored (12 R299) -/
  restoreQ : List (Fin 12) := []
deriving DecidableEq, Repr

/-- Local bus controller (LBUS_). -/
structure Lbus where
  /-- stopped, integrating, active, passive, bus-off, monitoring (13 LBUS_STATUS.STATE) -/
  st : LbusSt := .stopped
  /-- receive error counter (13 REC) -/
  rxErr : Nat := 0
  /-- transmit error counter (reads saturated at 255) (13 TEC) -/
  txErr : Nat := 0
  /-- bus-off held (13 RECOVERY_HELD) -/
  held : Bool := false
  /-- loop delay beyond 1,000 ns (13 R307 TDC_RANGE) -/
  tdcRange : Bool := false
  /-- staging window of each requester (13 R308; 16 R366) -/
  win : Vector TxWin 4 := Vector.replicate 4 {}
  /-- transmit buffers (13 R308 LBUS_TX_STATE) -/
  bufs : Vector TxBuf 16 := Vector.replicate 16 {}
  /-- buffers freed unsent (13 LBUS_TX_DONE.ENDED) -/
  ended : BitVec 16 := 0
  /-- buffers sent (13 LBUS_TX_DONE.SENT) -/
  sent : BitVec 16 := 0
  /-- bits of LBUS_TX_DONE set in the newest clock (00 R8) -/
  doneFresh : Fresh := {}
  /-- clock of the last discard (00 R8) -/
  overrunAt : Option Nat := none
  /-- receive queue entries (13 R311) -/
  rx : Vector (Option RxEntry) 64 := Vector.replicate 64 none
  /-- next delivery sequence (13 R311) -/
  rxSeq : Nat := 0
  /-- deliveries so far, for the order of entries (13 R311) -/
  rxN : Nat := 0
  /-- a frame was discarded (13 R313 OVERRUN) -/
  rxOverrun : Bool := false
  /-- frames discarded in the present run (13 R313) -/
  discRun : Nat := 0
  /-- entry shown to each requester (13 LBUS_RX_SEL) -/
  rxSel : Vector Nat 4 := Vector.replicate 4 0
  /-- frames discarded (13 LBUS_CNT.OVERRUN) -/
  cntOverrun : Nat := 0
  /-- bus-off entries (13 LBUS_CNT.BUSOFF) -/
  cntBusoff : Nat := 0
  /-- error-passive entries (13 LBUS_CNT.PASSIVE) -/
  cntPassive : Nat := 0
  /-- frames discarded on reserved identifiers (13 LBUS_CNT.RESERVED) -/
  cntReserved : Nat := 0
  /-- service requests held, at most 4 (13 R315) -/
  svcQ : List SvcReq := []
  /-- clocks of the bus-offs of the last 60 s (13 R318) -/
  offTimes : List Nat := []
  /-- clock at which BUSOFF_HOLD ends (13 R318) -/
  offDue : Option Nat := none
  /-- recovery sequence running (13 R318) -/
  recovering : Bool := false
  /-- bus shed at stage 2 or stopped in reset (13 R319) -/
  shed : Bool := false
  /-- enters normal mode at the next bus idle (13 R320) -/
  toNormal : Bool := false
  /-- frame that woke the device, first to be delivered (13 R321) -/
  wakeFrame : Option CanFrame := none
  /-- the controller stopped receiving: whether it acknowledged, and the Spline time; the frame in reception is finished (13 R305, R319) -/
  lastRx : Option (Bool × BitVec 32) := none
  /-- entries freed in the newest clock of an acknowledge, and that clock (13 R312) -/
  rxFreed : Nat × List (Fin 64) := (0, [])
deriving DecidableEq, Repr

/-- Supplies, shedding, resets and hibernation (PWR_). -/
structure Pwr where
  /-- plinth domain reset by VBAK loss (14 R325 VBAK_LOST) -/
  vbakLost : Bool := false
  /-- VAUX below VAUX_MIN (14 R326 VAUX_LOW) -/
  vauxLow : Bool := false
  /-- warning in force (14 T14.2 WARN) -/
  warn : Bool := false
  /-- stage 1 in force (14 T14.2 STAGE) -/
  s1 : Bool := false
  /-- stage 2 in force (14 T14.2 STAGE) -/
  s2 : Bool := false
  /-- stage 3 in force, latched (14 T14.2 LATCH_3) -/
  s3 : Bool := false
  /-- stage 4 in force, latched (14 T14.2 LATCH_4) -/
  s4 : Bool := false
  /-- VAUX, mV (14 PWR_VSYS.VAUX) -/
  vaux : Option Nat := none
  /-- VSYS at the last PLINTH sample, mV (14 PWR_VSYS.VSYS) -/
  vsys : Option Nat := none
  /-- VBAK, mV (14 PWR_VBAK) -/
  vbak : Option Nat := none
  /-- clock since which VSYS stays above each restore level (warning, stages 1 to 4) (14 T14.2) -/
  above : Vector (Option Nat) 5 := Vector.replicate 5 none
  /-- resets since manufacture (retained) (14 PWR_RESET.COUNT) -/
  rstCount : Nat := 0
  /-- cause of the last reset (14 PWR_RESET.CAUSE) -/
  rstCause : Nat := 0
  /-- kind of the last reset (14 PWR_RESET.KIND) -/
  rstKind : Nat := 0
  /-- event 0x8005 has been logged for it (14 R331) -/
  rstLogged : Bool := true
  /-- stage 1 entries (14 PWR_STAGE_CNT.STAGE_1) -/
  cnt1 : Nat := 0
  /-- stage 2 entries (14 PWR_STAGE_CNT.STAGE_2) -/
  cnt2 : Nat := 0
  /-- stage 3 entries (14 PWR_STAGE_CNT.STAGE_3) -/
  cnt3 : Nat := 0
  /-- stage 4 entries (14 PWR_STAGE_CNT.STAGE_4) -/
  cnt4 : Nat := 0
  /-- cause of the last wake (14 PWR_WAKE) -/
  wake : BitVec 5 := 0
  /-- duration of the last hibernation, s (14 PWR_HIB_LAST) -/
  hibLast : Nat := 0
  /-- clock at which hibernation began (14 R337) -/
  hibAt : Option Nat := none
  /-- PLINTH frequency measured last before the hibernation began, Hz (02 R37) -/
  hibHz : Nat := 32768
  /-- VSYS has fallen below 9.2 V during hibernation (14 R339) -/
  hibVsysLost : Bool := false
  /-- event 0x8009 is to be logged at the next start-up (14 R325) -/
  vbakLog : Bool := false
  /-- HIBERNATE accepted, writes awaited (14 R337) -/
  hibPending : Bool := false
  /-- clock of the last reset (16 T16.20) -/
  resetAt : Nat := 0
deriving DecidableEq, Repr

/-- Identity, security and port authority (SEC_, ESC_). -/
structure Sec where
  /-- lifecycle state (identity area) (15 R341 LIFECYCLE) -/
  life : Nat := 1
  /-- Glausk device certificate (15 T15.2 item 0) -/
  devCert : List (BitVec 8) := Config.shippedItem 0
  /-- Glausk device CA certificate (15 T15.2 item 1) -/
  caCert : List (BitVec 8) := Config.shippedItem 1
  /-- Glausk firmware root (15 T15.2 item 2) -/
  fwRoot : List (BitVec 8) := Config.shippedItem 2
  /-- operator certificate, empty when not enrolled (15 T15.2 item 3) -/
  opCert : List (BitVec 8) := []
  /-- image-signing root, empty when not enrolled (15 T15.2 item 4) -/
  root : List (BitVec 8) := []
  /-- the device private key is present (15 R343-R344) -/
  devKey : Bool := true
  /-- result of the last enrolment (15 ENROL_RESULT) -/
  enrol : Nat := 0
  /-- boots (15 R347 SEC_CNT_BOOT) -/
  cntBoot : Nat := 0
  /-- glue-ups (15 R347 SEC_CNT_GLUE) -/
  cntGlue : Nat := 0
  /-- reports signed (15 R347 SEC_CNT_ATTEST) -/
  cntAttest : Nat := 0
  /-- roll and decommission objects accepted (15 R347 SEC_CNT_ROLL) -/
  cntRoll : Nat := 0
  /-- BOOT, GLUE, ATTEST and ROLL as stored in the identity area (15 R347) -/
  stored : Nat × Nat × Nat × Nat := (0, 0, 0, 0)
  /-- a counter write is pending (15 R347) -/
  cntDue : Bool := false
  /-- item selected by each requester (15 SEC_CERT_SEL) -/
  certSel : Vector Nat 4 := Vector.replicate 4 0
  /-- nonce as written (15 SEC_NONCE) -/
  nonce : Vector (BitVec 32) 8 := Vector.replicate 8 0
  /-- none, signing, report ready (15 SEC_ATTEST_STATUS.STATE) -/
  attest : Nat := 0
  /-- clock at which signing began (15 R348) -/
  attestAt : Nat := 0
  /-- microseconds of the last signing (15 SEC_ATTEST_STATUS.ELAPSED) -/
  elapsed : Nat := 0
  /-- the last report, empty reads 0 (15 T15.4 SEC_REPORT) -/
  report : List (BitVec 8) := []
  /-- image digest measured at boot (15 R346) -/
  imgDigest : BitVec 256 := 0
  /-- firmware digests measured at boot (15 R346) -/
  fwDigests : Vector (BitVec 256) 8 := Vector.replicate 8 0
  /-- operations refused for rights (15 ESC_DENIED.COUNT) -/
  denied : Nat := 0
  /-- port of the last refusal (15 ESC_DENIED.PORT) -/
  deniedPort : Nat := 0
  /-- class lacking (15 ESC_DENIED.CLASS) -/
  deniedClass : Nat := 0
  /-- address of the last refused operation (15 ESC_DENIED_ADDR) -/
  deniedAddr : BitVec 32 := 0xFFFFFFFF#32
  /-- clock of the last event 0x9004 per port (15 R350) -/
  deniedLog : Vector (Option Nat) 5 := Vector.replicate 5 none
  /-- SEQ and content of the previous service request (15 R353) -/
  svcSeq : Option (Nat × List (BitVec 8)) := none
  /-- the answer given to it (15 R353) -/
  svcAns : Option SvcFrame := none
  /-- service frames that failed their CRC (15 R353) -/
  svcBad : Nat := 0
  /-- JTAG instruction in force (15 R354) -/
  jtag : JtagInstr := .idcode
  /-- event 0x9006 logged since the last TAP reset (15 R354) -/
  jtagLogged : Bool := false
  /-- lifecycle state in force for JTAG since the last TAP reset (15 R342) -/
  jtagLife : Nat := 1
deriving DecidableEq, Repr

/-- Maintenance activities (MNT_). -/
structure Mnt where
  /-- module mask argument of each requester (15 MNT_ARG_MASK) -/
  argMask : Vector (BitVec 32) 4 := Vector.replicate 4 0
  /-- value argument of each requester (15 MNT_ARG_VALUE) -/
  argValue : Vector (BitVec 32) 4 := Vector.replicate 4 0
  /-- the four activity slots (15 MNT_ACT_0..3) -/
  acts : Vector (Option Activity) 4 := Vector.replicate 4 none
  /-- last refusal for each requester (15 MNT_REFUSED) -/
  refused : Vector (BitVec 32) 4 := Vector.replicate 4 0
  /-- heater channel under test and the clock at which its time ends (15 T15.10 code 7) -/
  heatTest : Option (Fin 12 × Nat) := none
  /-- runs of the export still to be sent: stream, offset of the next byte, bytes (15 T15.10 code 8) -/
  exportQ : List (Nat × Nat × List Byte) := []
  /-- first sequence of the export in progress (15 T15.10 code 8) -/
  exported : Nat := 0
  /-- the partner's MNT_ACT registers as mirrored while tracking (15 R359) -/
  mirrored : List (BitVec 32) := []
deriving DecidableEq, Repr

/-- Event log (EVT_). -/
structure Evt where
  /-- sequence of the newest entry (16 EVT_NEWEST) -/
  newest : Nat := 0
  /-- entries of the SRAM buffer, newest first (16 R370) -/
  sram : List Event := []
  /-- entries not yet copied (16 R371 EVT_STATUS.PENDING) -/
  pending : Nat := 0
  /-- every pending entry is due at once (16 R371) -/
  pendDue : Bool := false
  /-- NVM event log, newest first (16 R371) -/
  nvm : List Event := []
  /-- the NVM log has erased entries (16 EVT_STATUS.WRAPPED) -/
  wrapped : Bool := false
  /-- next position of the NVM log (16 R371) -/
  nvmPos : Nat := 0
  /-- events dropped (16 EVT_CNT.LOST) -/
  lost : Nat := 0
  /-- selected sequence of each requester (16 EVT_SEL.SEQ) -/
  sel : Vector Nat 4 := Vector.replicate 4 0
  /-- code of the newest event (16 R370) -/
  lastCode : Nat := 0
  /-- EVT_HW: events of hardware blocks that wait for a restarting engine, newest first (02 R30, R38) -/
  hwQ : List Event := []
  /-- EVT_HW met its full behaviour (02 R38 PWR_DCQ_FLAGS bit 25) -/
  hwFull : Bool := false
  /-- clock at which EVT_HW last dropped an entry (00 R8) -/
  hwFullAt : Option Nat := none
  /-- entries dropped from EVT_HW (02 PWR_DCQ_LOST) -/
  hwLost : Nat := 0
deriving DecidableEq, Repr

/-- Per-requester high-word shadows. -/
structure Req where
  /-- addresses of high words with the words latched, per requester (00 R7; 16 R366) -/
  shadow : Vector (List (BitVec 32 × BitVec 32)) 4 := Vector.replicate 4 []
deriving DecidableEq, Repr

/-- The whole device, and the model's own clock, free-value counter, outbox and queue. -/
structure State where
  /-- part, straps and input pins of the device -/
  dev : Dev := {}
  /-- engines, ECC and dual-clock queues (PWR_ENGINE_, PWR_ECC_, PWR_DCQ_) -/
  eng : Eng := {}
  /-- carcass images, staging, dry-fit and glue-up (IMG_) -/
  img : Img := {}
  /-- Spline ring, positions, ordered sets, frames (SPL_) -/
  spl : Spl := {}
  /-- Spline time discipline (TIM_) -/
  tim : Tim := {}
  /-- newest converter samples of the analog inputs (02 ADC queue) -/
  meas : Meas := {}
  /-- arm modulation (ARM_) -/
  arm : Arm := {}
  /-- pulse units (PWM_) -/
  pwm : Pwm := {}
  /-- gate links, legs, bypass outputs and jig mode (GLK_) -/
  glk : Glk := {}
  /-- one battery chain converter (CHA_, CHB_) -/
  chA : Chain := {}
  /-- one battery chain converter (CHA_, CHB_) -/
  chB : Chain := {}
  /-- one sentinel chain as the device sees it (SNA_, SNB_) -/
  snA : Sen := {}
  /-- one sentinel chain as the device sees it (SNA_, SNB_) -/
  snB : Sen := {}
  /-- estimation of one chain (EST_, VNR_) -/
  esA : EstCh := {}
  /-- estimation of one chain (EST_, VNR_) -/
  esB : EstCh := {}
  /-- estimation, common part and records (EST_) -/
  est : Est := {}
  /-- temperatures and thermal management (THM_) -/
  thm : Thm := {}
  /-- protection (PRT_) -/
  prt : Prt := {}
  /-- dovetail link and ownership token (DVT_) -/
  dvt : Dvt := {}
  /-- load channels (LSW_) -/
  lsw : Lsw := {}
  /-- local bus controller (LBUS_) -/
  lbus : Lbus := {}
  /-- supplies, shedding, resets and hibernation (PWR_) -/
  pwr : Pwr := {}
  /-- identity, security and port authority (SEC_, ESC_) -/
  sec : Sec := {}
  /-- maintenance activities (MNT_) -/
  mnt : Mnt := {}
  /-- event log (EVT_) -/
  evt : Evt := {}
  /-- per-requester high-word shadows -/
  req : Req := {}
  /-- nanoseconds of the model's own time, advanced by a step on an empty queue -/
  clock : Nat := 0
  /-- counter applied to the opaque free values -/
  free : Nat := 0
  /-- everything the device has sent, newest first -/
  outbox : List Out := []
  /-- commands waiting, first in first out -/
  pending : List Instr := []
deriving DecidableEq, Repr

/-- The machine at power-on reset held, before the first release: every field at the value INVENTORY.md
gives for reset, and no command waiting. -/
def State.reset : State := {}

/-- Update of the block `dev` alone. -/
def State.onDev (s : State) (f : Dev → Dev) : State := { s with dev := f s.dev }

/-- Update of the block `eng` alone. -/
def State.onEng (s : State) (f : Eng → Eng) : State := { s with eng := f s.eng }

/-- Update of the block `img` alone. -/
def State.onImg (s : State) (f : Img → Img) : State := { s with img := f s.img }

/-- Update of the block `spl` alone. -/
def State.onSpl (s : State) (f : Spl → Spl) : State := { s with spl := f s.spl }

/-- Update of the block `tim` alone. -/
def State.onTim (s : State) (f : Tim → Tim) : State := { s with tim := f s.tim }

/-- Update of the block `meas` alone. -/
def State.onMeas (s : State) (f : Meas → Meas) : State := { s with meas := f s.meas }

/-- Update of the block `arm` alone. -/
def State.onArm (s : State) (f : Arm → Arm) : State := { s with arm := f s.arm }

/-- Update of the block `pwm` alone. -/
def State.onPwm (s : State) (f : Pwm → Pwm) : State := { s with pwm := f s.pwm }

/-- Update of the block `glk` alone. -/
def State.onGlk (s : State) (f : Glk → Glk) : State := { s with glk := f s.glk }

/-- Update of the block `chA` alone. -/
def State.onChA (s : State) (f : Chain → Chain) : State := { s with chA := f s.chA }

/-- Update of the block `chB` alone. -/
def State.onChB (s : State) (f : Chain → Chain) : State := { s with chB := f s.chB }

/-- Update of the block `snA` alone. -/
def State.onSnA (s : State) (f : Sen → Sen) : State := { s with snA := f s.snA }

/-- Update of the block `snB` alone. -/
def State.onSnB (s : State) (f : Sen → Sen) : State := { s with snB := f s.snB }

/-- Update of the block `esA` alone. -/
def State.onEsA (s : State) (f : EstCh → EstCh) : State := { s with esA := f s.esA }

/-- Update of the block `esB` alone. -/
def State.onEsB (s : State) (f : EstCh → EstCh) : State := { s with esB := f s.esB }

/-- Update of the block `est` alone. -/
def State.onEst (s : State) (f : Est → Est) : State := { s with est := f s.est }

/-- Update of the block `thm` alone. -/
def State.onThm (s : State) (f : Thm → Thm) : State := { s with thm := f s.thm }

/-- Update of the block `prt` alone. -/
def State.onPrt (s : State) (f : Prt → Prt) : State := { s with prt := f s.prt }

/-- Update of the block `dvt` alone. -/
def State.onDvt (s : State) (f : Dvt → Dvt) : State := { s with dvt := f s.dvt }

/-- Update of the block `lsw` alone. -/
def State.onLsw (s : State) (f : Lsw → Lsw) : State := { s with lsw := f s.lsw }

/-- Update of the block `lbus` alone. -/
def State.onLbus (s : State) (f : Lbus → Lbus) : State := { s with lbus := f s.lbus }

/-- Update of the block `pwr` alone. -/
def State.onPwr (s : State) (f : Pwr → Pwr) : State := { s with pwr := f s.pwr }

/-- Update of the block `sec` alone. -/
def State.onSec (s : State) (f : Sec → Sec) : State := { s with sec := f s.sec }

/-- Update of the block `mnt` alone. -/
def State.onMnt (s : State) (f : Mnt → Mnt) : State := { s with mnt := f s.mnt }

/-- Update of the block `evt` alone. -/
def State.onEvt (s : State) (f : Evt → Evt) : State := { s with evt := f s.evt }

/-- Update of the block `req` alone. -/
def State.onReq (s : State) (f : Req → Req) : State := { s with req := f s.req }

/-- Replacement of `clock` alone. -/
def State.withClock (s : State) (v : Nat) : State := { s with clock := v }

/-- Replacement of `free` alone. -/
def State.withFree (s : State) (v : Nat) : State := { s with free := v }

/-- Replacement of `outbox` alone. -/
def State.withOutbox (s : State) (v : List Out) : State := { s with outbox := v }

/-- Replacement of `pending` alone. -/
def State.withPending (s : State) (v : List Instr) : State := { s with pending := v }

end Sys2Proof.Machine
end

