-- ==== Sys2Proof/Machine/Operands.lean ====
section
/-! DEFINITION. What a command's operand names (a chain, a leg, a port, a link, a load channel), and the
value encodings of spec/00 R3 and R4. -/

set_option Elab.async false

namespace Sys2Proof

/-- Number of the chain in events and registers. -/
def ChainId.num : ChainId → Nat
  | .a => 0
  | .b => 1

/-- The other leg. -/
def Leg.other : Leg → Leg
  | .a => .b
  | .b => .a

/-- Leg number in events: A 0, B 1. -/
def Leg.num : Leg → Nat
  | .a => 0
  | .b => 1

/-- Links 1 to 4 (indices 0 to 3): A upper, A lower, B upper, B lower (Table 06.2). -/
def Leg.upper : Leg → Fin 4
  | .a => 0
  | .b => 2

/-- Link of the lower switch of a leg. -/
def Leg.lower : Leg → Fin 4
  | .a => 1
  | .b => 3

/-- The link of the parking switch of a leg: lower of leg A, upper of leg B (R139). -/
def Leg.parkLink : Leg → Fin 4
  | .a => 1
  | .b => 2

/-- The port on the other side. -/
def RPort.other : RPort → RPort
  | .e => .w
  | .w => .e

/-- Port number in events: east 0, west 1. -/
def RPort.num : RPort → Nat
  | .e => 0
  | .w => 1

/-- Index of a requester in the copies of R366. -/
def Requester.idx : Requester → Fin 4
  | .spline => 0
  | .service => 1
  | .lbus => 2
  | .jtag => 3

/-- Port number of R351. -/
def Requester.num : Requester → Nat
  | .spline => 0
  | .service => 3
  | .lbus => 2
  | .jtag => 4

/-- Class number of R351. -/
def OpClass.num : OpClass → Nat
  | .read => 0
  | .operate => 1
  | .configure => 2
  | .commit => 3
  | .clear => 4
  | .test => 5
  | .identity => 6

/-- Index of an engine in PWR_ENGINE_STATE. -/
def EngineId.idx : EngineId → Fin 8
  | .me => 0
  | .cea => 1
  | .ceb => 2
  | .ee => 3
  | .pe => 4
  | .fe => 5
  | .he => 6
  | .se => 7

/-- Code of a published cell state (Table 01.3). -/
def CellSt.code : CellSt → Nat
  | .off => 0
  | .ready => 1
  | .blocked => 2
  | .running => 3
  | .degradedHb => 4
  | .bypassed => 5

/-- Code of an arm mode (Table 04.8). -/
def ArmMode.code : ArmMode → Nat
  | .energise => 0
  | .block => 1
  | .run => 2
  | .bypassAll => 3
  | .dcFaultRide => 4

/-- Arm mode of a code; 5 to 7 are BLOCK (R83). -/
def ArmMode.ofCode : Nat → ArmMode
  | 0 => .energise
  | 2 => .run
  | 3 => .bypassAll
  | 4 => .dcFaultRide
  | _ => .block

/-- The mode inserts (RUN or DC_FAULT_RIDE, Table 05.2). -/
def ArmMode.inserts : ArmMode → Bool
  | .run => true
  | .dcFaultRide => true
  | _ => false

end Sys2Proof

namespace Sys2Proof.Machine

/-- Nanoseconds of a microsecond, a millisecond and a second. -/
def usNs : Nat := 1000
/-- Nanoseconds of a millisecond. -/
def msNs : Nat := 1000000
/-- Nanoseconds of a second. -/
def secNs : Nat := 1000000000

/-- A counter of w bits that saturates (R370 and the counter registers). -/
def sat (w n : Nat) : Nat := min n (2 ^ w - 1)

/-- One more on a saturating counter of w bits. -/
def bump (w n : Nat) : Nat := sat w (n + 1)

/-- An integer as its low 16 bits, for event details and register fields. -/
def lo16 (i : Int) : Nat := (i % 65536).toNat

/-- An integer as its low 32 bits. -/
def lo32 (i : Int) : Nat := (i % 4294967296).toNat

/-- Clamp of an integer to lo..hi. -/
def clampI (x lo hi : Int) : Int := max lo (min hi x)

/-- Division truncated towards zero (the arithmetic of R101, R113, R157, R158). -/
def tdiv (a b : Int) : Int := Int.tdiv a b

/-- A code in 50 mV units as mV (Table 00.5). -/
def codeMv (c : Nat) : Nat := 50 * c

/-- The image in force, or the empty image while none is booted. -/
def State.im (s : State) : Image := s.img.active.getD Image.empty

/-- The block of chain c. -/
def State.chain (s : State) (c : ChainId) : Chain :=
  match c with
  | .a => s.chA
  | .b => s.chB

/-- Update of the block of chain c. -/
def State.onChain (s : State) (c : ChainId) (f : Chain → Chain) : State :=
  match c with
  | .a => s.onChA f
  | .b => s.onChB f

/-- The sentinel block of chain c. -/
def State.sen (s : State) (c : ChainId) : Sen :=
  match c with
  | .a => s.snA
  | .b => s.snB

/-- Update of the sentinel block of chain c. -/
def State.onSen (s : State) (c : ChainId) (f : Sen → Sen) : State :=
  match c with
  | .a => s.onSnA f
  | .b => s.onSnB f

/-- The estimation block of chain c. -/
def State.es (s : State) (c : ChainId) : EstCh :=
  match c with
  | .a => s.esA
  | .b => s.esB

/-- Update of the estimation block of chain c. -/
def State.onEs (s : State) (c : ChainId) (f : EstCh → EstCh) : State :=
  match c with
  | .a => s.onEsA f
  | .b => s.onEsB f

/-- Update of one module of chain c as the chain engine sees it. -/
def State.onMod (s : State) (c : ChainId) (m : Fin 32) (f : ModRec → ModRec) : State :=
  s.onChain c fun ch => { ch with mods := ch.mods.set m (f ch.mods[m]) }

/-- Update of the sentinel record of one module. -/
def State.onRec (s : State) (c : ChainId) (m : Fin 32) (f : SenRec → SenRec) : State :=
  s.onSen c fun sn => { sn with recs := sn.recs.set m (f sn.recs[m]) }

/-- Update of the account of one module. -/
def State.onAcc (s : State) (c : ChainId) (m : Fin 32) (f : EstMod → EstMod) : State :=
  s.onEs c fun e => { e with mods := e.mods.set m (f e.mods[m]) }

/-- Update of the account of one battery cell. -/
def State.onCell (s : State) (c : ChainId) (m k : Fin 32) (f : CellAcc → CellAcc) : State :=
  s.onAcc c m fun a => { a with cells := a.cells.set k (f a.cells[k]) }

/-- The chain exists: declared by the image, and chain B bonded (R1, R365). -/
def State.declared (s : State) (c : ChainId) : Bool :=
  match c with
  | .a => decide (1 ≤ s.im.str.nChains)
  | .b => decide (2 ≤ s.im.str.nChains) && s.dev.part == .qz9640

/-- The chains that exist. -/
def State.chains (s : State) : List ChainId := [.a, .b].filter s.declared

/-- Apply f to every chain that exists, chain A first. -/
def State.forChains (s : State) (f : State → ChainId → State) : State := s.chains.foldl f s

/-- Modules declared per chain (Table 03.6), at most 32. -/
def State.nMods (s : State) : Nat := min s.im.str.modules 32

/-- The declared module indices. -/
def State.modIdx (s : State) : List (Fin 32) := (List.finRange 32).filter fun m => decide (m.val < s.nMods)

/-- Battery cells per module (Table 03.6). -/
def State.nCells (s : State) : Nat := min s.im.str.cells 32

/-- The leg record of a leg. -/
def State.leg (s : State) (l : Leg) : LegRec :=
  match l with
  | .a => s.glk.legA
  | .b => s.glk.legB

/-- Update of the leg record of a leg. -/
def State.onLeg (s : State) (l : Leg) (f : LegRec → LegRec) : State :=
  match l with
  | .a => s.onGlk fun g => { g with legA := f g.legA }
  | .b => s.onGlk fun g => { g with legB := f g.legB }

/-- The pulse unit of a leg. -/
def State.unit (s : State) (l : Leg) : PulseUnit :=
  match l with
  | .a => s.pwm.a
  | .b => s.pwm.b

/-- Update of the pulse unit of a leg. -/
def State.onUnit (s : State) (l : Leg) (f : PulseUnit → PulseUnit) : State :=
  match l with
  | .a => s.onPwm fun p => { p with a := f p.a }
  | .b => s.onPwm fun p => { p with b := f p.b }

/-- The leg of a link. -/
def linkLeg (i : Fin 4) : Leg := if i.val < 2 then .a else .b

/-- The link drives an upper switch. -/
def linkUpper (i : Fin 4) : Bool := i.val % 2 == 0

/-- Kerf of a leg in ns (R127). -/
def State.kerf (s : State) (l : Leg) : Nat :=
  10 * (match l with
    | .a => s.im.str.kerfA
    | .b => s.im.str.kerfB)

/-- Update of one gate link. -/
def State.onLink (s : State) (i : Fin 4) (f : LinkRec → LinkRec) : State :=
  s.onGlk fun g => { g with links := g.links.set i (f g.links[i]) }

/-- The ring port record of a port. -/
def State.port (s : State) (p : RPort) : RingPort :=
  match p with
  | .e => s.spl.portE
  | .w => s.spl.portW

/-- Update of the ring port record of a port. -/
def State.onPort (s : State) (p : RPort) (f : RingPort → RingPort) : State :=
  match p with
  | .e => s.onSpl fun x => { x with portE := f x.portE }
  | .w => s.onSpl fun x => { x with portW := f x.portW }

/-- Update of one load channel. -/
def State.onCh (s : State) (n : Fin 12) (f : LswCh → LswCh) : State :=
  s.onLsw fun l => { l with ch := l.ch.set n (f l.ch[n]) }

/-- Update of one cluster. -/
def State.onCluster (s : State) (n : Fin 3) (f : ClusterRec → ClusterRec) : State :=
  s.onLsw fun l => { l with clusters := l.clusters.set n (f l.clusters[n]) }

/-- Cluster of a load channel: channels 1–4, 5–8, 9–12. -/
def clusterOf (n : Fin 12) : Fin 3 := ⟨n.val / 4, by omega⟩

/-- CLASS of a load channel (Table 12.1). -/
def State.lswClass (s : State) (n : Fin 12) : Nat := (s.im.str.lsw[n] &&& 0x0F).toNat

/-- ROLE of a contactor channel (Table 12.1): 0 K_POS, 1 K_NEG, 2 K_PRE. -/
def State.lswRole (s : State) (n : Fin 12) : Nat := ((s.im.str.lsw[n] >>> 4) &&& 3).toNat

/-- CHAIN of a contactor channel. -/
def State.lswChain (s : State) (n : Fin 12) : ChainId :=
  if s.im.str.lsw[n].getLsbD 6 then .b else .a

/-- The contactor channels of a chain and role. -/
def State.coilCh (s : State) (c : ChainId) (role : Nat) : List (Fin 12) :=
  (List.finRange 12).filter fun n => s.lswClass n == 1 && s.lswRole n == role && s.lswChain n == c

/-- A deadline has been set and has passed. -/
def due (now : Nat) (d : Option Nat) : Bool :=
  match d with
  | none => false
  | some t => decide (t ≤ now)

/-- Median of R395: the mean of the two middle values, truncated towards zero, for an even count. -/
def insertSorted (x : Int) : List Int → List Int
  | [] => [x]
  | y :: ys => if x ≤ y then x :: y :: ys else y :: insertSorted x ys

/-- Insertion sort, ascending. -/
def sortAsc : List Int → List Int
  | [] => []
  | x :: xs => insertSorted x (sortAsc xs)

/-- Median of a set of values (R395); none for the empty set. -/
def median (xs : List Int) : Option Int :=
  let ys := sortAsc xs
  match xs.length with
  | 0 => none
  | n => if n % 2 = 1 then some (ys.getD (n / 2) 0)
         else some (tdiv (ys.getD (n / 2 - 1) 0 + ys.getD (n / 2) 0) 2)

end Sys2Proof.Machine
end

