-- ==== Sys2Proof/Machine/Flags.lean ====
section
/-! DEFINITION. The conditions and status bits that the manual computes from the state: supplies (spec/14),
the conditions and priority of the published cell state (spec/01 R18, R394), the reaction table in force
(spec/11), and what a chain's registers show (spec/07). -/

set_option Elab.async false

namespace Sys2Proof

/-- The cell inserts as published (Table 01.3). -/
def CellSt.inserting : CellSt → Bool
  | .running | .degradedHb => true
  | .off | .ready | .blocked | .bypassed => false

end Sys2Proof

namespace Sys2Proof.Machine

/-- One device alone (R14). -/
def State.simplex (s : State) : Bool := s.im.str.board == 0

/-- Chain pair of a four-device board (R14). -/
def State.chainPair (s : State) : Bool := s.im.str.board == 3

/-- Out of reset and not in hibernation. -/
def State.outOfReset (s : State) : Bool :=
  match s.dev.phase with
  | .held | .warm | .hibernating => false
  | .booting | .starting | .ready | .noImage | .glueRestart => true

/-- The slot the device runs from (R60): the one marked active, or the other after a fallback. -/
def State.runSlot (s : State) : Bool := s.img.activeSlot != s.img.fallback

/-- Highest shedding stage in force (PWR_STATUS.STAGE). -/
def State.stage (s : State) : Nat :=
  if s.pwr.s4 then 4 else if s.pwr.s3 then 3 else if s.pwr.s2 then 2 else if s.pwr.s1 then 1 else 0

/-- NVM write-permit (R330). -/
def State.writePermit (s : State) : Bool := s.outOfReset && !s.pwr.s2

/-- A release record names the shutdown of a till record (R263); one whose copies both fail is ignored. -/
def State.tillReleased (s : State) (r : TillRec) : Bool :=
  (s.thm.tills ++ s.thm.tillDue).any fun x => x.kind == 2 && x.ref == r.seq && x.bad != 3

/-- PGOOD released (R332, Table 14.6 step 7). -/
def State.pgood (s : State) : Bool :=
  (s.dev.phase == .ready || s.dev.phase == .glueRestart) && !s.pwr.s3 && !s.pwr.s4

/-- V_CAP as mV, none while invalid. -/
def State.vCapMv (s : State) : Option Nat := s.meas.vCap.map codeMv

/-- Capacitor condition of R394. -/
def State.capOk (s : State) : Bool :=
  match s.vCapMv with
  | none => false
  | some v => decide (s.im.vReadyMin ≤ v)

/-- One chain meets the chain condition of R394. -/
def State.chainOk1 (s : State) (c : ChainId) : Bool :=
  match (s.chain c).st with
  | .connecting | .zeroing | .opening => false
  | .run => true
  | .absent | .block => s.arm.mode != .energise

/-- Chain condition of R394. -/
def State.chainOk (s : State) : Bool := s.chains.all s.chainOk1

/-- The reaction table that a trigger meets now: up to the clock of a glue-up, the one before it (R58). -/
def State.table (s : State) : List Reaction :=
  match s.prt.oldTable with
  | none => s.im.reactions
  | some x => if s.tim.time ≤ x.1 then x.2 else s.im.reactions

/-- An entry of that table, the empty entry beyond its end. -/
def State.tableEntry (s : State) (e : Fin 64) : Reaction := s.table.getD e.val {}

/-- An entry as it stands: while it is in force, or its escalation due, as it was when it fired. -/
def State.reaction (s : State) (e : Fin 64) : Reaction :=
  if s.prt.entries[e].latched || s.prt.entries[e].esc then s.prt.entries[e].act else s.tableEntry e

/-- The reaction table has entry e, or one that it had is still in force. -/
def State.hasEntry (s : State) (e : Fin 64) : Bool := decide (e.val < s.table.length) || s.prt.entries[e].latched

/-- IMMEDIATE actions in force (PRT_STATUS.IMMEDIATE). -/
def State.immediate (s : State) : BitVec 8 :=
  (List.finRange 64).foldl
    (fun a e => if s.prt.entries[e].latched then a ||| (s.reaction e).immediate else a) 0

/-- A protection reaction blocks the cell: a latched cell block, or the block of a floor (R394 rule 1). -/
def State.reactionBlocks (s : State) : Bool := s.arm.protBlock || s.immediate.getLsbD 0

/-- Mode BLOCK or BYPASS_ALL, or an urgent latch, holds the cell (R394 rule 2). -/
def State.heldByMode (s : State) : Bool :=
  s.arm.mode == .block || s.arm.mode == .bypassAll || s.spl.urgLatch != .none

/-- The arm asks the cell to insert: a modulating mode and no urgent latch (R98, R99). -/
def State.modeRuns (s : State) : Bool := s.arm.mode.inserts && s.spl.urgLatch == .none

/-- A test of the off-state diagnostics is in progress. -/
def State.testBusy (s : State) : Bool := s.glk.testUntil.isSome || s.glk.testOver.isSome

/-- After a block has ended, the diagnostics begun at it have failed or have not yet passed (R394 rule 1). -/
def State.diagHolds (s : State) : Bool := s.arm.blk && s.arm.diag != .passed && !s.heldByMode

/-- The partner's state mirror shows it with a valid reference (R276). -/
def State.partnerHasRef (s : State) : Bool :=
  !s.simplex && s.dvt.up && (match s.dvt.mirror with
    | none => false
    | some m => m.refOk)

/-- Rule 1 of R394. A tracking member whose partner has the reference only logs its own loss (R276). -/
def State.rule1 (s : State) : Bool :=
  s.reactionBlocks || s.arm.roleClash || s.arm.pairErr
    || (s.arm.lostRef && (s.arm.owner || !s.partnerHasRef)) || s.arm.resetBlock || s.diagHolds

/-- Rule 2 of R394. -/
def State.rule2 (s : State) : Bool := s.heldByMode && s.capOk && s.chainOk

/-- The state that R394 gives a cell that is neither BYPASSED nor inserting. -/
def State.r394 (s : State) : CellSt :=
  if s.rule1 || s.rule2 then .blocked
  else if s.capOk && s.chainOk && s.arm.diag == .passed then .ready
  else .off

/-- Modules of a chain that are neither PARKED nor lost (CHA_STATE.AVAIL). -/
def State.avail (s : State) (c : ChainId) : Nat :=
  (s.modIdx.filter fun m => (s.chain c).mods[m].st != .parked && !(s.chain c).mods[m].lost).length

/-- Contactors closed: K_POS and K_NEG commanded on. -/
def Chain.closed (ch : Chain) : Bool := ch.kPos && ch.kNeg

/-- Every contactor open. -/
def Chain.opened (ch : Chain) : Bool := !ch.kPos && !ch.kNeg && !ch.kPre

/-- A pending park holds DERATE (R163, R164). -/
def State.anyPend (s : State) (c : ChainId) : Bool := s.modIdx.any fun m => (s.chain c).mods[m].pend != 0

/-- |i| is within I_ZERO (R170). -/
def State.withinZero (s : State) (c : ChainId) (i : Option Int) : Bool :=
  match i with
  | none => false
  | some x => decide (10 * x.natAbs ≤ s.im.iZero c)

/-- BYPASS_ALL in force, by mode or by urgent latch (R20, R143). -/
def State.bypassAll (s : State) : Bool := s.arm.mode == .bypassAll || s.spl.urgLatch == .bypassAll

/-- A heater, fan or lamp channel (shed at stage 1, Table 12.2). -/
def shedClass (cls : Nat) : Bool := cls == 3 || cls == 4 || cls == 5

/-- Any chain is in hot shutdown (row 8 of Table 12.3). -/
def State.anyHot (s : State) : Bool := s.thm.sdHotA || s.thm.sdHotB

/-- Chain c is in hot shutdown. -/
def State.hot (s : State) : ChainId → Bool
  | .a => s.thm.sdHotA
  | .b => s.thm.sdHotB

/-- Chain c is in cold shutdown. -/
def State.cold (s : State) : ChainId → Bool
  | .a => s.thm.sdColdA
  | .b => s.thm.sdColdB

/-- A heater of a chain in hot shutdown: one whose group names a module of that chain (R265). -/
def State.hotHeater (s : State) (n : Fin 12) : Bool :=
  (s.thm.sdHotA && s.im.heatGroup .a n.val != 0) || (s.thm.sdHotB && s.im.heatGroup .b n.val != 0)

/-- Table 12.3: the channel is on. -/
def State.chState (s : State) (n : Fin 12) : Bool :=
  let c := s.lsw.ch[n]
  let cls := s.lswClass n
  if s.dev.phase == .held || s.dev.phase == .hibernating || cls == 0 then false
  else if s.lsw.clamp && c.clamp && cls == 1 then true
  else if s.dev.phase == .warm || s.dev.phase == .glueRestart then false
  else if !s.arm.owner || s.img.active.isNone || s.arm.roleClash then false
  else if c.latched then false
  else if c.thermalOff then false
  else if c.pauseDue.isSome then false
  else if c.shed && shedClass cls then false
  else if s.anyHot && (cls == 2 || cls == 4) then true
  else if cls == 3 && s.hotHeater n then false
  else c.want

/-- The reference is valid for the partner's decision of R276. -/
def State.refOk (s : State) : Bool := !s.arm.lostRef && s.tim.validMod

/-- Chain B reads 0 and ignores writes: on a QZ9641 (R1), or under an image that declares no chain B (R365). -/
def State.noB (s : State) : Bool := s.dev.part == .qz9641 || (s.img.active.isSome && !s.declared .b)

/-- The resources of Table 15.11 that running activities hold. -/
def State.locks (s : State) : BitVec 10 :=
  s.mnt.acts.toList.foldl (fun a x => match x with
    | none => a
    | some v => a ||| v.res) 0

end Sys2Proof.Machine
end

