-- ==== Sys2Proof/Machine/Bytes.lean ====
section
/-! DEFINITION. Numbers in the bytes of frames, least significant byte first, with the invalid codes of spec/00 R4. -/

set_option Elab.async false

namespace Sys2Proof.Machine

/-- The number that bytes hold, least significant first. -/
def leVal : List Byte → Nat
  | [] => 0
  | b :: r => b.toNat + 256 * leVal r

/-- A number in n bytes, least significant first. -/
def leBytes : Nat → Nat → List Byte
  | 0, _ => []
  | n + 1, v => BitVec.ofNat 8 v :: leBytes n (v / 256)

/-- The number in n bytes at an offset. -/
def field (b : List Byte) (off n : Nat) : Nat := leVal ((b.drop off).take n)

/-- The signed number in n bytes at an offset. -/
def fieldInt (b : List Byte) (off n : Nat) : Int :=
  let v := field b off n
  if v < 2 ^ (8 * n - 1) then v else (v : Int) - 2 ^ (8 * n)

/-- A value of n bytes, none for the invalid code of an unsigned field (R4). -/
def fieldU (b : List Byte) (off n : Nat) : Option Nat :=
  let v := field b off n
  if v = 2 ^ (8 * n) - 1 then none else some v

/-- A value of n bytes, none for the invalid code of a signed field (R4). -/
def fieldS (b : List Byte) (off n : Nat) : Option Int :=
  let v := fieldInt b off n
  if v = -(2 ^ (8 * n - 1)) then none else some v

/-- A signed number in n bytes. -/
def leInt (n : Nat) (v : Int) : List Byte := leBytes n (v % 2 ^ (8 * n)).toNat

/-- An unsigned value in n bytes, or its invalid code (R4). -/
def leU (n : Nat) (v : Option Nat) : List Byte := leBytes n (v.getD (2 ^ (8 * n) - 1))

/-- A signed value in n bytes, or its invalid code (R4). -/
def leS (n : Nat) (v : Option Int) : List Byte := leInt n (v.getD (-(2 ^ (8 * n - 1))))

end Sys2Proof.Machine
end

