-- ==== Sys2Proof/Machine/SenWire.lean ====
section
/-! DEFINITION. The bytes of sentinel chain frames between SOF and EOF (spec/08 R183, R184, Tables 08.2 to 08.7): the
CRC-16, the frames that the device sends and the ones that it reads. -/

set_option Elab.async false

namespace Sys2Proof

/-- Codes of Table 07.1. -/
def ModSt.code : ModSt → Nat
  | .insert => 0
  | .bypass => 1
  | .block => 2
  | .parked => 3

end Sys2Proof

namespace Sys2Proof.Machine

/-! ### CRC-16 and the frame (R183, R184) -/

/-- One bit of the CRC of R183, most significant bit first. -/
def crc16Bit (c : Nat) : Nat := if 0x8000 ≤ c then (2 * c % 65536) ^^^ 0x1021 else 2 * c

/-- One byte of the CRC. -/
def crc16Byte (c : Nat) (b : Byte) : Nat :=
  crc16Bit (crc16Bit (crc16Bit (crc16Bit (crc16Bit (crc16Bit (crc16Bit (crc16Bit (c ^^^ (256 * b.toNat)))))))))

/-- The CRC-16 of bytes: polynomial 0x1021, initial value 0xFFFF. -/
def crc16 (bs : List Byte) : Nat := bs.foldl crc16Byte 0xFFFF

/-- A frame: TYPE, ADDR, CNT, LEN, the payload, and the CRC with its high byte first. -/
def senSeal (type addr cnt : Nat) (payload : List Byte) : List Byte :=
  let x := [BitVec.ofNat 8 type, BitVec.ofNat 8 addr, BitVec.ofNat 8 cnt, BitVec.ofNat 8 payload.length] ++ payload
  x ++ [BitVec.ofNat 8 (crc16 x / 256), BitVec.ofNat 8 (crc16 x)]

/-- The CRC of a received frame is right. -/
def senCrcOk (b : List Byte) : Bool :=
  decide (6 ≤ b.length) && crc16 (b.take (b.length - 2)) == 256 * field b (b.length - 2) 1 + field b (b.length - 1) 1

/-- The header of a received frame (R184). -/
structure SenHead where
  type : Nat
  /-- module index, 0x3F for every module -/
  mod : Nat
  /-- ADDR[6]: the end of origin TAIL, or the up lane's opposite -/
  bit6 : Bool
  /-- ADDR[7]: a sentinel's frame -/
  sentinel : Bool
  cnt : Nat
  len : Nat
deriving DecidableEq, Repr

/-- The header of a frame. -/
def senHead (b : List Byte) : SenHead :=
  { type := field b 0 1
    mod := field b 1 1 % 64
    bit6 := field b 1 1 / 64 % 2 == 1
    sentinel := field b 1 1 / 128 == 1
    cnt := field b 2 1
    len := field b 3 1 }

/-- The payload of a frame, of the length that its LEN gives. -/
def senPayload (b : List Byte) : Option (List Byte) :=
  if b.length == (senHead b).len + 6 then some ((b.drop 4).take (senHead b).len) else none

/-- A sentinel's frame of a type: its module, the end at which it arrived (the up lane ends at TAIL, R179), and its
payload. -/
def fromSentinel (type : Nat) (b : List Byte) : Option (Fin 32 × Bool × List Byte) :=
  let h := senHead b
  if hm : h.mod < 32 then
    if h.type == type && h.sentinel then (senPayload b).map fun p => (⟨h.mod, hm⟩, !h.bit6, p) else none
  else none

/-! ### Frames that the device receives -/

/-- SAMPLE (Table 08.4). -/
def sampleOf (b : List Byte) : Option (Fin 32 × SampleFrame) :=
  match fromSentinel 2 b with
  | none => none
  | some (m, _, p) =>
    if p.length = 111 then
      some (m,
        { sseq := field p 0 1
          echo := BitVec.ofNat 8 (senHead b).cnt
          status := BitVec.ofNat 16 (field p 1 2)
          vmod := fieldU p 3 2
          cells := (List.range 32).map fun k => fieldU p (5 + 2 * k) 2
          temps := (List.range 8).map fun t => fieldS p (69 + 2 * t) 2
          applied := (List.range 40).map fun k => BitVec.ofNat 4 (field p (85 + k / 2) 1 / 16 ^ (k % 2))
          thOpen := BitVec.ofNat 8 (field p 105 1)
          owOpen := BitVec.ofNat 33 (field p 106 5)
          owNew := (BitVec.ofNat 40 (field p 106 5)).getLsbD 39 })
    else none

/-- A service answer (R191). -/
structure SrsFrame where
  mod : Fin 32
  /-- it arrived at TAIL -/
  tail : Bool
  op : Nat
  result : Nat
  /-- DATA, low byte first -/
  data : BitVec 96
deriving DecidableEq, Repr

/-- SRS (Table 08.2). -/
def srsOf (b : List Byte) : Option SrsFrame :=
  match fromSentinel 4 b with
  | none => none
  | some (m, tail, p) =>
    if 2 ≤ p.length ∧ p.length ≤ 14 then
      some { mod := m, tail := tail, op := field p 0 1, result := field p 1 1, data := BitVec.ofNat 96 (leVal (p.drop 2)) }
    else none

/-- PONG (Table 08.2): module, end, PING_ID and TA in 10 ns. -/
def pongOf (b : List Byte) : Option (Fin 32 × Bool × Nat × Nat) :=
  match fromSentinel 6 b with
  | none => none
  | some (m, tail, p) => if p.length = 3 then some (m, tail, field p 0 1, field p 1 2) else none

/-- An ENUM that arrives at the end opposite to its origin: it came from TAIL, and its HOP and N (R194). -/
def enumOf (b : List Byte) : Option (Bool × Nat × Nat) :=
  let h := senHead b
  if h.type == 7 && !h.sentinel && h.mod == 0x3F then
    match senPayload b with
    | none => none
    | some p => if p.length = 2 then some (h.bit6, field p 0 1, field p 1 1) else none
  else none

/-! ### Frames that the device sends -/

/-- ADDR of a controller frame: the module or 0x3F, and the end of origin. -/
def ctlAddr (tail : Bool) (m : Nat) : Nat := m + (if tail then 64 else 0)

/-- One entry of an MSF (R186). -/
def msfEntry (m : Fin 32) (x : SentSet) : List Byte :=
  leBytes 1 m.val ++ leBytes 1 x.cnt.toNat ++ leBytes 3 (x.set.st.code * 2 ^ 22 + x.set.phase % 4 * 2 ^ 20 + x.set.w % 2 ^ 15)

/-- A module set frame (R186). -/
def msfFrame (tail : Bool) (fMod sseq pidx : Nat) (es : List (Fin 32 × SentSet)) : List Byte :=
  senSeal 1 (ctlAddr tail 0x3F) 0
    (leBytes 1 fMod ++ leBytes 1 sseq ++ leBytes 1 pidx ++ leBytes 1 es.length ++ (es.map fun e => msfEntry e.1 e.2).flatten)

/-- A service request (R191). -/
def srqFrame (tail : Bool) (m : Fin 32) (cnt : BitVec 8) (op : Nat) (arg : List Byte) : List Byte :=
  senSeal 3 (ctlAddr tail m.val) cnt.toNat (BitVec.ofNat 8 op :: arg)

/-- A PING (R199). -/
def pingFrame (tail : Bool) (m : Fin 32) (id : Nat) : List Byte := senSeal 5 (ctlAddr tail m.val) 0 (leBytes 1 id)

/-- An ENUM as the device sends it: HOP 0, and the declared module count (R194). -/
def enumFrame (tail : Bool) (n : Nat) : List Byte := senSeal 7 (ctlAddr tail 0x3F) 0 (leBytes 1 0 ++ leBytes 1 n)

/-- SLEEP. -/
def sleepFrame (tail : Bool) : List Byte := senSeal 8 (ctlAddr tail 0x3F) 0 []

end Sys2Proof.Machine
end

