-- ==== Sys2Proof/Machine/Wire.lean ====
section
/-! DEFINITION. The bytes of Spline frames (spec/04 R67, Tables 04.4 and 04.8 to 04.13) and the check of ordered sets
(R66): reading a received frame, forming an own one, and what a forwarder changes. -/

set_option Elab.async false

namespace Sys2Proof.Machine

/-! ### Ordered sets (R66) -/

/-- The XOR of the n nibbles of a number. -/
def nibbles : Nat → Nat → Nat
  | 0, _ => 0
  | n + 1, v => (v % 16) ^^^ nibbles n (v / 16)

/-- The check of an ordered set: the XOR of the nibbles of D1, D2, D3 and the extension. -/
def setCheck (d1 d2 d3 : Byte) (ext : BitVec 24) : BitVec 4 :=
  BitVec.ofNat 4 (nibbles 2 d1.toNat ^^^ nibbles 2 d2.toNat ^^^ nibbles 2 d3.toNat ^^^ nibbles 6 ext.toNat)

/-- An ordered set as the device sends it. -/
def orderedSet (d1 d2 d3 : Byte) (ext : BitVec 24) : OrdSet := ⟨d1, d2, d3, ext, setCheck d1 d2 d3 ext⟩

/-- The check of a received set passes. -/
def setOk (x : OrdSet) : Bool := x.check == setCheck x.d1 x.d2 x.d3 x.ext

/-- A heartbeat as an ordered set (R281): the flags in D1, the generation in D2 and D3. DESIGN CHOICE, log entry 14:
bits 0 to 3 of D1 are HEALTHY, OWNER, GIVE and the member's ROLE_SEL, and D2 is the low byte. -/
def beatSet (h : Heartbeat) : OrdSet :=
  orderedSet (BitVec.ofNat 8 (h.healthy.toNat + 2 * h.owner.toNat + 4 * h.give.toNat + 8 * h.member.toNat))
    (BitVec.ofNat 8 h.gen) (BitVec.ofNat 8 (h.gen / 256)) 0

/-- What a received heartbeat carries; none when its check fails. -/
def beatOf (x : OrdSet) : Option Heartbeat :=
  if setOk x then
    some ⟨x.d1.getLsbD 0, x.d1.getLsbD 1, x.d1.getLsbD 2, x.d2.toNat + 256 * x.d3.toNat, x.d1.getLsbD 3⟩
  else none

/-! ### CRC-32 and the frame (R67) -/

/-- One bit of the IEEE 802.3 CRC-32, least significant bit first. -/
def crcBit (c : Nat) : Nat := if c % 2 = 1 then (c / 2) ^^^ 0xEDB88320 else c / 2

/-- One byte of the CRC. -/
def crcByte (c : Nat) (b : Byte) : Nat :=
  crcBit (crcBit (crcBit (crcBit (crcBit (crcBit (crcBit (crcBit (c ^^^ b.toNat))))))))

/-- The CRC-32 of bytes. -/
def crc32 (bs : List Byte) : Nat := bs.foldl crcByte 0xFFFFFFFF ^^^ 0xFFFFFFFF

/-- The bytes but the last four, and zeros up to L − 4, with the CRC over bytes 1 to L − 5 after them. -/
def sealFrame (len : Nat) (body : List Byte) : List Byte :=
  let x := body ++ List.replicate (len - 4 - body.length) 0
  x ++ leBytes 4 (crc32 (x.drop 1))

/-- The CRC of a received frame is right. -/
def crcOk (b : List Byte) : Bool :=
  decide (20 ≤ b.length) && leVal (b.drop (b.length - 4)) == crc32 ((b.take (b.length - 4)).drop 1)

/-- What forwarding, policing and delivery read of the header (Table 04.4). -/
structure FrameHead where
  type : Nat
  src : BitVec 16
  /-- inlay entry -/
  slot : Nat
  len : Nat
  /-- µs of the owning cycle's boundary -/
  cycle : Nat
  hops : Nat
  relayed : Bool
deriving DecidableEq, Repr

/-- The header of a frame. -/
def headOf (b : List Byte) : FrameHead :=
  { type := field b 1 1
    src := BitVec.ofNat 16 (field b 2 2)
    slot := field b 4 2 % 512
    len := field b 6 2
    cycle := field b 8 4
    hops := field b 12 1
    relayed := field b 13 1 % 2 == 1 }

/-- The header of an own frame. -/
def headBytes (type src slot cls len cycle : Nat) : List Byte :=
  [0x78#8, BitVec.ofNat 8 type] ++ leBytes 2 src ++ leBytes 2 (slot % 512 + 512 * (cls % 4)) ++ leBytes 2 len ++ leBytes 4 cycle
    ++ [0, 0, 0, 0]

/-- A whole frame of a type: start block, right CRC. -/
def isFrame (type : Nat) (b : List Byte) : Bool := field b 0 1 == 0x78 && field b 1 1 == type && crcOk b

/-! ### Frames that the device receives -/

/-- ARM_CYCLE (Table 04.8). -/
def armOf (b : List Byte) : Option ArmCycle :=
  if isFrame 1 b && b.length == 128 && (headOf b).src.getLsbD 15 then
    some
      { fromWest := (headOf b).src.getLsbD 0
        cycle := field b 8 4
        hops := field b 12 1
        txTime := field b 16 8
        corr := field b 24 4
        ring := field b 28 1
        ringSize := field b 29 1
        mode := field b 30 1 % 8
        applyTime := field b 32 8
        vRef := fieldInt b 40 4
        vSlope := fieldInt b 44 4
        iArm := fieldS b 48 2
        nActive := field b 50 2
        eAvg := field b 52 4
        socAvg := fieldU b 56 2
        pReq := fieldS b 60 4
        ringTag := BitVec.ofNat 64 (field b 64 8)
        gluePhase := field b 72 1
        glueTag := BitVec.ofNat 64 (field b 80 8)
        tG := field b 88 8
        urgCode := field b 96 1
        urgSeq := field b 97 3 }
  else none

/-- The bytes that two ARM_CYCLE copies of one CYCLE share: all but SRC, SLOT, HOPS, TX_TIME, CORR and CRC (R69). -/
def armCommon (b : List Byte) : List Byte :=
  b.take 2 ++ (b.drop 6).take 6 ++ (b.drop 13).take 3 ++ (b.drop 28).take 96

/-- The published cell state of a code; none for a code of no state. -/
def cellOfCode : Nat → Option CellSt
  | 0 => some .off
  | 1 => some .ready
  | 2 => some .blocked
  | 3 => some .running
  | 4 => some .degradedHb
  | 5 => some .bypassed
  | _ => none

/-- The leg state of a code; none for a code of no state. -/
def legOfCode : Nat → Option LegSt
  | 0 => some .running
  | 1 => some .hiZ
  | 2 => some .parked
  | _ => none

/-- Code of a leg state (Table 04.9). -/
def legCode : LegSt → Nat
  | .running => 0
  | .hiZ => 1
  | .parked => 2

/-- CELL_STATUS with its header (Table 04.9). A frame with a code of no cell state or leg state is not accepted: DESIGN
CHOICE, log entry 44. -/
def statusOf (b : List Byte) : Option (FrameHead × CellStatus) :=
  let legs := field b 17 1
  match cellOfCode (field b 16 1 % 8), legOfCode (legs % 4), legOfCode (legs / 4 % 4) with
  | some st, some la, some lb =>
    if isFrame 2 b && b.length == 128 then
      some (headOf b,
        { state := st
          member := field b 16 1 / 8 % 2 == 1
          owner := field b 16 1 / 16 % 2 == 1
          board := BitVec.ofNat 2 (field b 16 1 / 32)
          legA := la
          legB := lb
          mode := ArmMode.ofCode (legs / 16 % 8)
          urgent := decide (128 ≤ legs)
          flags := BitVec.ofNat 16 (field b 18 2)
          vCap := fieldU b 20 2
          iTerm := fieldS b 22 2
          eCap := fieldU b 24 4
          soc := fieldU b 28 2
          iChA := fieldS b 30 2
          iChB := fieldS b 32 2
          vChA := fieldU b 34 2
          vChB := fieldU b 36 2
          pBatt := fieldS b 40 4
          pLimDis := fieldS b 44 4
          pLimChg := fieldS b 48 4
          tMax := fieldS b 52 2
          tMin := fieldS b 54 2
          activeMask := BitVec.ofNat 32 (field b 56 4)
          evtCount := field b 62 2
          evtCode := field b 60 2
          tagActive := BitVec.ofNat 64 (field b 64 8)
          tagStaged := BitVec.ofNat 64 (field b 72 8)
          dryfit := BitVec.ofNat 8 (field b 80 1)
          glue := BitVec.ofNat 8 (field b 81 1)
          shimE := fieldU b 82 2
          shimW := fieldU b 84 2
          police := BitVec.ofNat 16 (field b 86 2) })
    else none
  | _, _, _ => none

/-- ARM_SUMMARY (Table 04.10). -/
def summaryOf (b : List Byte) : Option ArmSummary :=
  if isFrame 3 b && b.length == 256 then
    some
      { cycle := field b 8 4
        sumCycle := field b 16 4
        rxMask := BitVec.ofNat 32 (field b 20 4)
        activeMask := BitVec.ofNat 32 (field b 24 4)
        break1 := BitVec.ofNat 8 (field b 28 1)
        break2 := BitVec.ofNat 8 (field b 29 1)
        pos := (List.range 32).map fun p =>
          { state := BitVec.ofNat 8 (field b (32 + 4 * p) 1)
            glue := BitVec.ofNat 8 (field b (33 + 4 * p) 1)
            dryfit := BitVec.ofNat 8 (field b (34 + 4 * p) 1)
            flags := BitVec.ofNat 8 (field b (35 + 4 * p) 1) } }
  else none

/-- One register operation (Table 04.11). -/
def regOpAt (b : List Byte) (i : Nat) : RegOp :=
  let o := 16 + 16 * i
  { dest := BitVec.ofNat 16 (field b o 2)
    tag := BitVec.ofNat 16 (field b (o + 2) 2)
    op := BitVec.ofNat 8 (field b (o + 4) 1)
    addr := BitVec.ofNat 32 (field b (o + 8) 4)
    data := BitVec.ofNat 32 (field b (o + 12) 4) }

/-- REG_REQ of a gateway: its header and its (L − 20) / 16 operations (R86). -/
def regReqOf (b : List Byte) : Option (FrameHead × List RegOp) :=
  if isFrame 4 b && (headOf b).src.getLsbD 15 then
    some (headOf b, (List.range ((b.length - 20) / 16)).map (regOpAt b))
  else none

/-- A BULK frame (Table 04.13). -/
structure BulkFrame where
  head : FrameHead
  dest : BitVec 16
  stream : Nat
  /-- last chunk -/
  last : Bool
  off : Nat
  /-- L − 28 bytes -/
  data : List Byte
deriving DecidableEq, Repr

/-- BULK. -/
def bulkOf (b : List Byte) : Option BulkFrame :=
  if isFrame 6 b && decide (28 ≤ b.length) then
    some
      { head := headOf b
        dest := BitVec.ofNat 16 (field b 16 2)
        stream := field b 18 1
        last := field b 19 1 % 2 == 1
        off := field b 20 4
        data := (b.drop 24).take (b.length - 28) }
  else none

/-! ### Frames that the device sends -/

/-- The content of a CELL_STATUS from offset 16 on (Table 04.9). -/
def statusBytes (x : CellStatus) : List Byte :=
  let bit (c : Bool) (n : Nat) : Nat := if c then 2 ^ n else 0
  leBytes 1 (x.state.code + bit x.member 3 + bit x.owner 4 + 32 * x.board.toNat)
    ++ leBytes 1 (legCode x.legA + 4 * legCode x.legB + 16 * x.mode.code + bit x.urgent 7)
    ++ leBytes 2 x.flags.toNat ++ leU 2 x.vCap ++ leS 2 x.iTerm ++ leU 4 x.eCap ++ leU 2 x.soc ++ leS 2 x.iChA ++ leS 2 x.iChB
    ++ leU 2 x.vChA ++ leU 2 x.vChB ++ leBytes 2 0 ++ leS 4 x.pBatt ++ leS 4 x.pLimDis ++ leS 4 x.pLimChg ++ leS 2 x.tMax
    ++ leS 2 x.tMin ++ leBytes 4 x.activeMask.toNat ++ leBytes 2 x.evtCode ++ leBytes 2 x.evtCount ++ leBytes 8 x.tagActive.toNat
    ++ leBytes 8 x.tagStaged.toNat ++ [x.dryfit, x.glue] ++ leU 2 x.shimE ++ leU 2 x.shimW ++ leBytes 2 x.police.toNat

/-- One result (Table 04.12). -/
def resultBytes (r : RegRsp) : List Byte :=
  leBytes 2 r.tag.toNat ++ [r.status, 0] ++ leBytes 4 r.addr.toNat ++ leBytes 4 r.data.toNat

/-- What follows the header of an own frame: a CELL_STATUS, the results of a REG_RSP, or an export chunk sent towards
the station, whose DEST is 0. -/
def OwnFrame.content (f : OwnFrame) : List Byte :=
  match f.status, f.bulk with
  | some x, _ => statusBytes x
  | none, some x => leBytes 2 0 ++ leBytes 1 x.1 ++ leBytes 1 (if x.2.2.1 then 1 else 0) ++ leBytes 4 x.2.1 ++ x.2.2.2
  | none, none => (f.results.map resultBytes).flatten

/-- An own frame as it is sent by a device. -/
def OwnFrame.bytes (f : OwnFrame) (deviceId : Nat) : List Byte :=
  sealFrame f.len (headBytes f.type deviceId f.slot f.cls f.len f.cycle ++ f.content)

/-! ### Frames that pass (R68, R91) -/

/-- The frame as it leaves: HOPS + 1, `add` more in the CORR of an ARM_CYCLE, and the CRC of that, inverted when the
received one was wrong. -/
def forwardBytes (ok : Bool) (add : Nat) (b : List Byte) : List Byte :=
  let x := (b.take (b.length - 4)).take 12 ++ leBytes 1 (field b 12 1 + 1) ++ (b.take (b.length - 4)).drop 13
  let y := if field b 1 1 = 1 then x.take 24 ++ leBytes 4 (field b 24 4 + add) ++ x.drop 28 else x
  y ++ leBytes 4 (if ok then crc32 (y.drop 1) else 0xFFFFFFFF - crc32 (y.drop 1))

/-- The forwarded part of a frame that fails in its first block, where SRC, SLOT, LEN and the start instant stand: that
block, ended with an inverted CRC (R91). -/
def failedPart (b : List Byte) : List Byte :=
  b.take 8 ++ leBytes 4 (0xFFFFFFFF - crc32 ((b.take 8).drop 1))

end Sys2Proof.Machine
end

