-- ==== Sys2Proof/Machine/Ops.lean ====
section
/-! DEFINITION. The shared operations: what the device sends and answers, the event log, rights, the words
of the gate links, the bypass outputs, the load channels, chain requests, the ownership token and the reset
kinds. Every meaning is written over these. -/

set_option Elab.async false

namespace Sys2Proof

/-- Index of a port in the record of refusals. -/
def Requester.denyIdx : Requester → Fin 5
  | .spline => 0
  | .service => 3
  | .lbus => 2
  | .jtag => 4

/-- The cell was connected to the arm's current when a block began (R394): READY or inserting. -/
def CellSt.blockBegins : CellSt → Bool
  | .ready | .running | .degradedHb => true
  | .off | .blocked | .bypassed => false

end Sys2Proof

namespace Sys2Proof.Machine

/-- What a step answers. -/
abbrev Res := Host.Outcome State Fault Refusal

/-! ### Sending, answering, free values -/

/-- Something leaves the device. -/
def send (s : State) (o : Out) : State := s.withOutbox (o :: s.outbox)

/-- Answer to a register operation of port p (Table 04.12). -/
def answer (s : State) (p : Requester) (code : Nat) : State := send s (.status p code)

/-- One nanosecond passes: the model's clock, and Spline time while the device runs. Nothing else happens at
a tick; the commands that name an expiry act when their deadline has come. DESIGN CHOICE. -/
def tick (s : State) : State :=
  (s.withClock (s.clock + 1)).onTim fun t => { t with time := (t.time + 1) % (2 ^ 64 - 1) }

/-- Use free values: the counter advances, so that the next use is independent. -/
def nextFree (s : State) : State := s.withFree (s.free + 1)

/-- The k-th free natural number of the present counter; uses with different k are independent (log entry 5). -/
def State.freeN (s : State) (k : Nat) : Nat := Config.freeNat (128 * s.free + k)

/-- The k-th free integer of the present counter (log entry 5). -/
def State.freeI (s : State) (k : Nat) : Int := Config.freeInt (128 * s.free + k)

/-! ### Event log (spec/16 R369 to R374) -/

/-- TIME of an event entry (Table 16.20). -/
def eventTime (s : State) : BitVec 64 :=
  if s.tim.acquired then BitVec.ofNat 64 s.tim.time
  else BitVec.ofNat 64 (2 ^ 63 + (s.clock - s.pwr.resetAt) % 2 ^ 63)

/-- CORE accepts an entry (R370): it takes the next sequence number, unless all 1,024 entries are uncopied. -/
def Evt.log (e : Evt) (x : Event) : Evt :=
  if e.pending ≥ 1024 then { e with lost := bump 16 e.lost }
  else
    { e with
      newest := (e.newest + 1) % 2 ^ 32
      sram := ({ x with seq := (e.newest + 1) % 2 ^ 32 } :: e.sram).take 1024
      pending := e.pending + 1
      lastCode := x.code }

/-- An entry of a hardware block waits in EVT_HW: 32 entries, and the newest is dropped when it is full (02 R38). -/
def Evt.wait (e : Evt) (x : Event) : Evt :=
  if e.hwQ.length < 32 then { e with hwQ := x :: e.hwQ }
  else { e with hwFull := true, hwFullAt := some x.at_, hwLost := bump 16 e.hwLost }

/-- An entry is raised: it waits, or CORE accepts it. -/
def Evt.raise (e : Evt) (waits : Bool) (x : Event) : Evt := bif waits then e.wait x else e.log x

/-- Events of the protection plane, the slot guardian and the pulse units, which reach CORE through EVT_HW
(Table 02.7 bit 25); DEDUCED, log entry 42. -/
def hwEvent (code : Nat) : Bool :=
  [0x1010, 0x1012, 0x1201, 0x1202, 0x1203, 0x1204, 0x1205, 0x1301, 0x1302, 0xA109, 0xA10A].contains code

/-- EE or HE restarts on its own: events of hardware blocks wait (02 R30). -/
def State.evtWaits (s : State) : Bool :=
  s.eng.state[EngineId.ee.idx] == .restarting || s.eng.state[EngineId.he.idx] == .restarting

/-- Raise one event: CORE accepts it at once (R370), except that events of hardware blocks wait in EVT_HW while EE
or HE restarts (02 R30). The entry carries the time of raising (02 R40). -/
def logEvent (s : State) (code : Nat) (d1 d2 d3 : Nat := 0) : State :=
  let x : Event := ⟨0, eventTime s, code, d1 % 65536, d2 % 65536, d3 % 65536, s.clock⟩
  let waits := hwEvent code && s.evtWaits
  s.onEvt fun e => e.raise waits x

/-- CORE takes one entry that waited: it keeps its time (02 R40) and is logged now. -/
def takeHwEvent (s : State) (x : Event) : State :=
  let now := s.clock
  s.onEvt fun e => e.log { x with at_ := now }

/-- CORE takes the entries that wait in EVT_HW, oldest first (02 R30). -/
def takeHwEvents (s : State) : State :=
  (s.evt.hwQ.reverse.foldl takeHwEvent s).onEvt fun e => { e with hwQ := [] }

/-- Log an event whose detail is one quantity wider than 16 bits (R369). -/
def logWide (s : State) (code v : Nat) : State :=
  let w := min v (2 ^ 32 - 1)
  logEvent s code (w % 65536) (w / 65536)

/-- As `logWide` for a signed quantity, saturated to 32 bits. -/
def logWideS (s : State) (code : Nat) (v : Int) : State :=
  let w := lo32 (clampI v (-(2 ^ 31)) (2 ^ 31 - 1))
  logEvent s code (w % 65536) (w / 65536)

/-- Dual-clock queue n met its full behaviour (spec/02 R38). -/
def dcqFull (s : State) (n : Nat) : State :=
  let now := s.clock
  let b := BitVec.ofNat 26 (2 ^ n)
  s.onEng fun e => { e with dcqFlags := e.dcqFlags ||| b, dcqFresh := e.dcqFresh.add now (b.setWidth 32) }

/-! ### Rights (spec/15 R350 to R352) -/

/-- Register group of an address (Table 15.6). -/
def regGroup (addr : Word) : Nat :=
  match (addr >>> 16).toNat with
  | 0x02 | 0x13 => 1
  | 0x03 | 0x04 | 0x05 | 0x0C => 2
  | 0x06 | 0x07 => 3
  | 0x08 | 0x09 => 4
  | 0x0A => 5
  | 0x0B | 0x0D => 6
  | 0x0E | 0x0F | 0x12 => 7
  | _ => 0

/-- THM_HEAT_CMD, or LSW_CMD naming a lamp channel: what R317 lets the local bus operate. -/
def lbusOperable (addr : Word) (lamp : Bool) : Bool :=
  addr == 0x000B0074 || (addr == 0x000D0008 && lamp)

/-- The default rights of Table 15.7. `lamp`: the operation is an LSW_CMD that names a lamp channel. -/
def defaultRight (life : Nat) (p : Requester) (c : OpClass) (addr : Word) (lamp : Bool) : Bool :=
  match p with
  | .spline =>
    match life with
    | 0 | 1 => c != .identity
    | 2 => c == .read || c == .operate || c == .configure || c == .commit
    | _ => c == .read
  | .service =>
    match life with
    | 0 => true
    | 1 => c == .read || c == .configure || c == .clear || c == .test || c == .identity
    | 2 => c == .read || c == .configure || c == .clear || c == .test
    | _ => c == .read && ((addr >>> 16) == 0 || ((addr >>> 16) == 0x10 && addr < 0x00108000) || (addr >>> 16) == 0x12)
  | .lbus => c == .read || (c == .operate && lbusOperable addr lamp)
  | .jtag => life == 0

/-- The image's grant (R351); without an image the defaults alone count. -/
def imageRight (s : State) (p : Requester) (c : OpClass) (addr : Word) : Bool :=
  match s.img.active with
  | none => p != .lbus
  | some im => (im.esc.getD (8 * p.num + c.num) 0).getLsbD (regGroup addr)

/-- SE is halted by its lock-step reaction (Table 02.3). -/
def State.seHalted (s : State) : Bool := s.eng.seLs

/-- The right in force (R352). -/
def State.right (s : State) (p : Requester) (c : OpClass) (addr : Word) (lamp : Bool := false) : Bool :=
  (c == .read || !s.seHalted) && defaultRight s.sec.life p c addr lamp && imageRight s p c addr

/-- An operation is refused for want of a right (R350). -/
def deny (s : State) (p : Requester) (c : OpClass) (addr : Word) : State :=
  let now := s.clock
  let quiet : Bool := match s.sec.deniedLog[p.denyIdx] with
    | none => false
    | some t => decide (now < t + secNs)
  let s1 := s.onSec fun x =>
    { x with
      denied := bump 16 x.denied
      deniedPort := p.num
      deniedClass := c.num
      deniedAddr := addr
      deniedLog := bif quiet then x.deniedLog else x.deniedLog.set p.denyIdx (some now) }
  bif quiet then s1 else logEvent s1 0x9004 p.num c.num

/-- What an operation answers: the state it leaves and its status. -/
abbrev RegRes := State × Nat

/-- Check 3 of R362, then the operation. -/
def withRight (s : State) (p : Requester) (c : OpClass) (addr : Word) (op : State → RegRes)
    (lamp : Bool := false) : RegRes :=
  if s.right p c addr lamp then op s else (deny s p c addr, 0x02)

/-- The port takes register operations now: outside resets, the service port outside stage 1 (Table 14.2),
the local bus while it runs (R319), JTAG under REGACC (Table 15.9). -/
def State.portOpen (s : State) : Requester → Bool
  | .spline => s.outOfReset && s.dev.phase != .noImage
  | .service => s.outOfReset && !s.pwr.s1
  | .lbus => s.outOfReset && s.img.active.isSome && !s.lbus.shed
  | .jtag => s.outOfReset && s.sec.jtag == .regacc

/-- A register operation of a port, with its answer. A port that takes no operations ignores it. An operation that
resets the device leaves no answer (DEDUCED, log entry 22). -/
def regCmd (s : State) (p : Requester) (op : State → RegRes) : State :=
  if s.portOpen p then
    let r := op s
    if r.1.dev.phase == s.dev.phase then answer r.1 p r.2 else r.1
  else s

/-! ### Words of the gate links (spec/06 Tables 06.3, 06.6; spec/11 R282) -/

/-- The links carry words: from ring-ready, and during a structural glue-up restart (Table 03.9). The chain
pair's outputs stay idle (spec/01). -/
def State.glActive (s : State) : Bool :=
  (s.dev.phase == .ready || s.dev.phase == .glueRestart) && !s.chainPair

/-- ON, HOLD and TEST words pass only from a healthy token holder (R282). -/
def State.mayDrive (s : State) : Bool := s.arm.owner && (s.simplex || s.dvt.healthy)

/-- The hardware gate of R282. -/
def gateWord (s : State) (w : GlWord) : GlWord :=
  if !s.glActive then .silent
  else match w with
    | .on | .hold | .test => if s.mayDrive then w else .track
    | .off | .track | .silent => w

/-- A protective OFF that no test passes over holds the links of leg l, whichever member this is. -/
def State.hardOff (s : State) (l : Leg) : Bool :=
  s.arm.bypassed || s.arm.roleClash || s.arm.protBlock
    || s.immediate.getLsbD 0 || (s.immediate.getLsbD (1 + l.num) && (s.leg l).st != .parked)
    || s.glk.fireHold

/-- A protective OFF holds the links of leg l, whichever member this is: the arm's urgent latch and BYPASS_ALL too, under
which the diagnostics of R118 run all the same. -/
def State.offReason (s : State) (l : Leg) : Bool :=
  s.hardOff l || s.spl.urgLatch != .none || s.glk.fireAll

/-- The links of leg l carry TEST words (R141). -/
def State.testOn (s : State) (l : Leg) : Bool :=
  s.glk.testUntil.isSome && (BitVec.ofNat 2 s.glk.testLegs).getLsbD l.num

/-- The pulse unit of leg l holds its lower switch on: its output, inverted for B_INVERT (R120, R140). -/
def State.lowerOn (s : State) (l : Leg) : Bool :=
  (s.unit l).active != (l == .b && s.glk.bInvert)

/-- The jig pulse has the switch of link i on now (R145). -/
def State.jigOn (s : State) (i : Fin 4) : Bool :=
  match s.glk.jig with
  | none => false
  | some j =>
    j.sw == i.val + 1 &&
      (decide (j.start ≤ s.clock ∧ s.clock < j.start + usNs * j.w1) ||
       decide (j.start + usNs * (j.w1 + j.gap) ≤ s.clock ∧
               s.clock < j.start + usNs * (j.w1 + j.gap + j.w2)))

/-- The word of link i by its leg's state on the token holder (Table 06.6). -/
def State.legWord (s : State) (i : Fin 4) : GlWord :=
  let l := linkLeg i
  let r := s.leg l
  if s.testOn l then .test
  else match r.st with
    | .running =>
      if (match l with | .a => s.glk.holdA | .b => s.glk.holdB) then .hold
      else if (s.unit l).kerfUntil.isSome then .off
      else if s.lowerOn l == linkUpper i then .off else .on
    | .hiZ => if s.jigOn i then .on else .off
    | .parked => if i == l.parkLink then .on else .off

/-- The word that link i should carry, before the gate. -/
def State.wantWord (s : State) (i : Fin 4) : GlWord :=
  if s.hardOff (linkLeg i) then .off
  else if s.offReason (linkLeg i) && !(s.arm.owner && s.testOn (linkLeg i)) then .off
  else if !s.arm.owner then .track
  else if s.dev.phase == .glueRestart then .off
  else s.legWord i

/-- The word of link i. -/
def State.word (s : State) (i : Fin 4) : GlWord := gateWord s (s.wantWord i)

/-- Take the words that the state gives into the link records, with the instant at which each changed. -/
def refreshWords (s : State) : State :=
  let now := s.clock
  let upd (i : Fin 4) (r : LinkRec) : LinkRec :=
    if s.word i == r.word then r
    else { r with
      word := s.word i
      wordAt := now
      heldOn := match s.word i with
        | .on => true
        | .off => false
        | .silent | .hold | .test | .track => r.heldOn }
  let allOff := (List.finRange 4).all fun i => s.word i == .off
  s.onGlk fun g =>
    { g with
      links := Vector.ofFn fun i => upd i g.links[i]
      offSince := if allOff then some (g.offSince.getD now) else none }

/-! ### Bypass outputs (spec/06 R143, R144; spec/11 R274, R275) -/

/-- FIRE_DELAY in ns. Functions 1 and 8 both have a parameter of that name (Tables 06.8 and 11.11); the
firing waits for the longer. DEDUCED. -/
def State.fireDelay (s : State) : Nat := max s.im.fireDelayNs (usNs * s.im.fireDelayUs)

/-- BYP_FIRE follows its requests: it starts once all four links have sent OFF for FIRE_DELAY, and stops
with the last request. A delay that runs when the links fall silent runs on: the protection plane paces it (R143). -/
def refreshFire (s : State) : State :=
  let now := s.clock
  let d := s.fireDelay
  let cause := s.prt.bypSource
  if !(s.glk.fireAll || s.glk.fireHold) || s.chainPair then
    s.onGlk fun g => { g with firing := false, fireDue := none }
  else if s.glk.firing then s
  else
    match s.glk.offSince with
    | none => if s.glActive then s.onGlk fun g => { g with fireDue := none } else s
    | some t =>
      if t + d ≤ now then logEvent (s.onGlk fun g => { g with firing := true, fireDue := none }) 0x1208 cause
      else s.onGlk fun g => { g with fireDue := some (t + d) }

/-- Words and firing after any change of leg, token, latch or reaction. -/
def refreshBridge (s : State) : State := refreshFire (refreshWords s)

/-- A leg goes to HIGH_Z with a cause (R137). -/
def setHiZ (s : State) (l : Leg) (cause : Nat) : State :=
  s.onLeg l fun r => { r with st := .hiZ, cause := cause }

/-- Both legs go to HIGH_Z. A parked leg keeps its park mark when asked (R109). -/
def bothHiZ (s : State) (cause : Nat) (keepMark : Bool) : State :=
  let f (r : LegRec) : LegRec :=
    { r with
      st := .hiZ
      cause := cause
      parkMark := keepMark && (r.parkMark || r.st == .parked) }
  s.onGlk fun g => { g with legA := f g.legA, legB := f g.legB, holdA := false, holdB := false }

/-- BYP_CLOSE is asserted (R144). -/
def assertClose (s : State) (cause : Nat) : State :=
  if s.glk.closeAsserted || s.chainPair then s
  else
    let t := s.clock + msNs * s.im.bypCloseTimeout
    logEvent (s.onGlk fun g => { g with closeAsserted := true, closeDue := some t }) 0x1208 cause

/-! ### Load channels (spec/12) -/

/-- A channel switches on: a new inrush window, and the economiser's pull for a contactor (R293, R297). -/
def chOn (s : State) (n : Fin 12) : State :=
  let now := s.clock
  let inr := now + msNs * s.im.lswInrush n.val
  let pull := if s.lswClass n == 1 then some (now + msNs * s.im.econPull) else none
  s.onCh n fun c =>
    { c with
      isOn := true
      limiting := false
      inrushDue := some inr
      econ := false
      econDue := pull
      onSince := now
      lowSince := none
      coilDue := none }

/-- A channel switches off. -/
def chOff (s : State) (n : Fin 12) : State :=
  s.onCh n fun c =>
    { c with
      isOn := false
      limiting := false
      inrushDue := none
      econ := false
      econDue := none
      lowSince := none
      coilDue := none }

/-- The channel follows Table 12.3. Nothing switches on while VAUX is low (R324) or onto a short (R300). -/
def refreshCh (s : State) (n : Fin 12) : State :=
  let want := s.chState n
  let cur := s.lsw.ch[n].isOn
  let s1 := s.onCh n fun c =>
    { c with forced := s.anyHot && (s.lswClass n == 2 || s.lswClass n == 4) && want }
  if want == cur then s1
  else if want then
    if s.pwr.vauxLow || s.lsw.ch[n].diag == 2 then s1 else chOn s1 n
  else chOff s1 n

/-- Every channel follows Table 12.3. -/
def refreshLoads (s : State) : State := (List.finRange 12).foldl refreshCh s

/-- The owner's command of a channel (row 9 of Table 12.3). A command off also resets count and pause
(R294). -/
def setWant (s : State) (n : Fin 12) (on : Bool) : State :=
  refreshCh (s.onCh n fun c =>
    if on then { c with want := true }
    else { c with want := false, attempts := 0, pause := 10, pauseDue := none }) n

/-- LSW_CMD to a channel: while HE restarts the channel holds its state, and the command waits (R30). -/
def commandCh (s : State) (n : Fin 12) (on : Bool) : State :=
  if s.eng.state[EngineId.he.idx] == .restarting then s.onCh n fun c => { c with wantDue := some on } else setWant s n on

/-- HE resumes: the commands that waited take effect. -/
def resumeLoads (s : State) : State :=
  (List.finRange 12).foldl (fun t n => match t.lsw.ch[n].wantDue with
    | none => t
    | some on => setWant (t.onCh n fun c => { c with wantDue := none }) n on) s

/-- The heater is on. -/
def heatOnSt : HeatSt → Bool
  | .auto | .forcedOn => true
  | .off | .forcedOff => false

/-- Put a heater into a state: the channel follows, event 0x5006 when it switches. -/
def setHeater (s : State) (n : Fin 12) (st : HeatSt) : State :=
  let was := heatOnSt s.thm.heat[n]
  let s1 := setWant (s.onThm fun t => { t with heat := t.heat.set n st }) n (heatOnSt st)
  if heatOnSt st == was then s1
  else logEvent (s1.onThm fun t => { t with cntHeat := bump 8 t.cntHeat }) 0x5006 (n.val + 1) (if heatOnSt st then 0 else 1)

/-! ### Chain converter (spec/07) -/

/-- A chain after a command to one of its contactor coils: 0 K_POS, 1 K_NEG, 2 K_PRE. -/
def Chain.coil (ch : Chain) (role : Nat) (on : Bool) (now : Nat) : Chain :=
  match role with
  | 0 => { ch with kPos := on, kClosedSince := if on && ch.kNeg then some now else none }
  | 1 => { ch with kNeg := on, kClosedSince := if on && ch.kPos then some now else none }
  | _ => { ch with kPre := on }

/-- A contactor coil is commanded on or off: its load channel, and the flag of CHA_STATE. Only the token
holder drives coils (R175); the flag shows the command. -/
def setCoil (s : State) (c : ChainId) (role : Nat) (on : Bool) : State :=
  let now := s.clock
  let s1 := s.onChain c fun ch => ch.coil role on now
  (s.coilCh c role).foldl (fun t n => setWant t n on) s1

/-- Every coil of a chain drops out without the sequence of R171. -/
def dropCoils (s : State) (c : ChainId) : State :=
  setCoil (setCoil (setCoil s c 0 false) c 1 false) c 2 false

/-- The end that this device holds: in simplex it holds both, and HEAD commands (R180; log entry 47). -/
def State.ownEnd (s : State) : Bool := !s.simplex && s.dev.member

/-- The loop of a simplex chain is broken, so that both ends command (R195). -/
def State.bothEnds (s : State) (c : ChainId) : Bool :=
  s.simplex && (s.sen c).stage == .enumerated && (s.sen c).brk.isSome

/-- The ends from which the owner commands a chain (R180, R195). -/
def State.cmdEnds (s : State) (c : ChainId) : List Bool := if s.bothEnds c then [false, true] else [s.ownEnd]

/-- The ends from which a command for one sentinel leaves: in a broken loop the end that reaches it. While a simplex chain
is enumerated and no ENUM has crossed the loop yet, both (R195; log entry 47). -/
def State.endsOf (s : State) (c : ChainId) (m : Fin 32) : List Bool :=
  let x := s.sen c
  if s.bothEnds c then [!x.recs[m].reachHead]
  else if s.simplex && x.stage == .enumerating && x.hopUp.isNone && x.hopDown.isNone then [false, true]
  else [s.ownEnd]

/-- The same from each of several ends. -/
def sendEnds (s : State) (ends : List Bool) (f : Bool → Out) : State := ends.foldl (fun t e => send t (f e)) s

/-- What the commanding end alone sends on a chain (R180): STROBE, BLOCK_ALL, SLEEP. -/
def sendChain (s : State) (c : ChainId) (f : Bool → Out) : State := if s.arm.owner then sendEnds s (s.cmdEnds c) f else s

/-- A service request to one sentinel waits for a command window that allows it (R185, R191). -/
def sendSrq (s : State) (c : ChainId) (m : Fin 32) (op : Nat) (arg : List Byte) : State :=
  if s.arm.owner then s.onSen c fun x => { x with srqQ := x.srqQ ++ [(m, op, arg)] } else s

/-- One item of a CONFIG request (Table 08.7): item and value, low byte first. -/
def cfgItem (item value : Nat) : List Byte :=
  [BitVec.ofNat 8 item, BitVec.ofNat 8 value, BitVec.ofNat 8 (value / 256)]

/-- BLOCK_ALL on a chain (R182): the sentinels block at once, whatever the trim period. In the record of sets it stands under
the counter of the last command, which the sentinels go on to report (R189). -/
def blockAll (s : State) (c : ChainId) : State :=
  let blocked : ModSet := { st := .block, phase := 0, w := 0 }
  let t := s.tim.time
  sendChain ((s.onChain c fun ch =>
    { ch with
      mods := ch.mods.map fun m => if m.st == .parked then m else { m with st := .block, trim := false, cmd := blocked }
      trim1 := none
      trim2 := none
      nIns := 0 }).onSen c fun x =>
    { x with
      recs := x.recs.map fun r => { r with sent := (⟨r.cnt, blocked, t, t⟩ :: r.sent).take 256 }
      newSets := x.newSets ++ (s.modIdx.map fun m => (m, ⟨x.recs[m].cnt, blocked, t, t⟩)) }) c (.blockAll c)

/-- A chain in BLOCK takes a new F_MOD to its sentinels (R192). -/
def writeFMod (s : State) (c : ChainId) : State :=
  let f := s.im.fMod c
  if (s.chain c).fMod == f then s
  else
    (s.modIdx.filter fun m => !(s.chain c).mods[m].lost).foldl (fun t m => sendSrq t c m 2 (cfgItem 2 f))
      (s.onChain c fun ch => { ch with fMod := f })

/-- A learning cycle of the chain engine ends (R176): completed, or not. -/
def endLearnCycle (s : State) (c : ChainId) (completed : Bool := false) : State :=
  if (s.chain c).learnOn then
    logEvent (s.onChain c fun ch => { ch with learnOn := false, learn := {} }) 0x200F
      (s.chain c).learn.target.val (if completed then 0 else 1)
  else s

/-- An activity ends (R357): its slot and locks are free at once. Cause 0 completion, 1 stop, 2 timeout,
3 precondition, 4 reset, 5 token. Jig mode, a heater test, an export and a learning cycle end with it. -/
def endAct (s : State) (cause : Nat) (slot : Fin 4) : State :=
  match s.mnt.acts[slot] with
  | none => s
  | some v =>
    let s1 := logEvent (s.onMnt fun m => { m with acts := m.acts.set slot none }) 0xC003 slot.val cause
    match v.code with
    | .learn => endLearnCycle s1 v.chain
    | .jig => s1.onGlk fun g => { g with jig := none }
    | .heaterTest =>
      match s1.mnt.heatTest with
      | none => s1
      | some h => setHeater (s1.onMnt fun m => { m with heatTest := none }) h.1 .off
    | .recordExport => s1.onMnt fun m => { m with exportQ := [] }
    | .sentUpdate | .gateTest | .precharge | .contTest => s1

/-- The slot holds the learning activity of chain c. -/
def isLearn (c : ChainId) (a : Option Activity) : Bool :=
  match a with
  | none => false
  | some v => v.code == .learn && v.chain == c

/-- The chain leaves RUN or the cycle is over: the cycle ends, and its activity with it (R176, R357). -/
def endLearn (s : State) (c : ChainId) (cause : Nat := 3) : State :=
  (List.finRange 4).foldl (fun t i => if isLearn c t.mnt.acts[i] then endAct t cause i else t)
    (endLearnCycle s c)

/-- What Table 15.10 asks of an activity for as long as it runs. -/
def State.actHolds (s : State) (v : Activity) : Bool :=
  let ch := s.chain v.chain
  match v.code with
  | .learn => ch.st == .run && ch.mods[v.mod].st != .parked && !ch.mods[v.mod].lost
  | .sentUpdate => (s.sen v.chain).stage == .enumerated
  | .gateTest =>
    (s.arm.cell == .off || s.arm.cell == .ready || s.arm.cell == .blocked)
      && s.arm.mode != .run && s.arm.mode != .dcFaultRide
  | .jig => s.arm.mode == .block && s.spl.urgLatch == .none
  | .precharge => s.arm.mode == .block
  | .heaterTest => !(s.thm.sdHotA || s.thm.sdHotB || s.thm.sdColdA || s.thm.sdColdB) && !s.pwr.s1
  | .contTest | .recordExport => true

/-- An activity whose preconditions are lost ends (R357, R358). -/
def watchActs (s : State) : State :=
  (List.finRange 4).foldl (fun t i =>
    match t.mnt.acts[i] with
    | none => t
    | some v => if t.actHolds v then t else endAct t 3 i) s

/-- The chain enters BLOCK with its contactors as they are. Its modules block at the next trim period boundary (R150),
where a protective block has not already sent BLOCK_ALL. -/
def enterBlock (s : State) (c : ChainId) : State :=
  writeFMod ((endLearn s c).onChain c fun ch =>
    { ch with
      st := .block
      seq := .none
      seqDue := none
      preDue := none
      openAfter := false
      blockReq := false
      protReq := none
      zeroSince := none
      iRef := some 0
      integ := 0
      u := 0
      uPend := [] }) c

/-- V_CAP is below WELD_DV + 100 V, or has no value: the weld tests are skipped (R171). -/
def State.lowCap (s : State) (c : ChainId) : Bool :=
  match s.vCapMv with
  | none => true
  | some v => decide (v < s.im.weldDv c + 100000)

/-- The opening of Table 07.6 starts: the chain is in BLOCK at zero current. -/
def startOpening (s : State) (c : ChainId) : State :=
  let due := s.clock + msNs * s.im.contSettle c
  let low := s.lowCap c
  setCoil ((enterBlock s c).onChain c fun ch =>
    { ch with
      st := .opening
      forced := false
      seq := if low then .openShort1 else .openPos
      seqDue := some due
      seqStart := s.clock }) c 0 false

/-- A connection sequence ends before its end (R165, R168): K_PRE and K_POS go off, then K_NEG. -/
def abortConnect (s : State) (c : ChainId) : State :=
  let due := s.clock + msNs * s.im.contSettle c
  setCoil (setCoil ((enterBlock s c).onChain c fun ch =>
    { ch with
      st := .opening
      seq := .abortPre
      seqDue := some due
      preOnly := false }) c 2 false) c 0 false

/-- Protective zeroing (R170): I_REF to 0 at once. -/
def protectiveZero (s : State) (c : ChainId) (opens : Bool) : State :=
  let now := s.clock
  (endLearn s c).onChain c fun ch =>
    { ch with
      st := .zeroing
      iRef := some 0
      openAfter := opens || ch.openAfter
      protReq := some (ch.protReq.getD now)
      zeroSince := none }

/-- |i| of the newest loop sample is within I_ZERO. -/
def State.quiet (s : State) (c : ChainId) : Bool := s.withinZero c (s.chain c).iMeas

/-- A chain-open request of rank 1 (Table 07.4). A chain already blocked opens at once at zero current;
otherwise it waits for it, at most 20 ms (R172). -/
def requestOpen (s : State) (c : ChainId) : State :=
  if !s.declared c then s
  else
    let now := s.clock
    let s1 := s.onChain c fun ch => { ch with openReq := true }
    match (s.chain c).st with
    | .absent => s
    | .block =>
      if (s.chain c).opened then s
      else if s.quiet c then startOpening s1 c
      else s1.onChain c fun ch => { ch with openReqAt := some (ch.openReqAt.getD now) }
    | .connecting => abortConnect s1 c
    | .run => protectiveZero s1 c true
    | .zeroing => protectiveZero s1 c true
    | .opening => s1

/-- A chain-block request of rank 2 (Table 07.4). -/
def requestBlock (s : State) (c : ChainId) : State :=
  if !s.declared c then s
  else
    let s1 := s.onChain c fun ch => { ch with blockReq := true }
    match (s.chain c).st with
    | .absent | .block | .opening => s
    | .connecting => abortConnect s1 c
    | .run => protectiveZero s1 c false
    | .zeroing => protectiveZero s1 c false

/-- The protective zeroing of BYPASS_ALL (rank 3, R174). -/
def bypassAllZero (s : State) (c : ChainId) : State :=
  match (s.chain c).st with
  | .run => (protectiveZero s c false).onChain c fun ch => { ch with byAllHeld := true }
  | .zeroing => (protectiveZero s c false).onChain c fun ch => { ch with byAllHeld := true }
  | .connecting => abortConnect s c
  | .absent | .block | .opening => s

/-- Drives every chain to zero current and blocks it (Table 03.9, R57): a rank-2 request each. -/
def blockChains (s : State) : State := s.forChains requestBlock

/-! ### Cell block and bypass -/

/-- Any reaction ends the jig pulse and jig mode (R145). -/
def endJig (s : State) : State :=
  (List.finRange 4).foldl (fun t i =>
    match t.mnt.acts[i] with
    | none => t
    | some v => if v.code == .jig then endAct t 3 i else t) s

/-- A test of R141 or R271 that is in progress ends without a result. -/
def cancelTest (s : State) : State :=
  s.onGlk fun g => { g with testUntil := none, testOver := none, testLegs := 0, testRetest := false }

/-- Both legs HIGH_Z for a cell block. A block that begins needs the diagnostics of R141 before the cell
inserts again, from a run that begins after it (R118, R394). -/
def blockCell (s : State) (cause : Nat) : State :=
  if s.arm.bypassed then s
  else
    let s1 := bothHiZ s cause true
    refreshBridge ((if s.arm.cell.blockBegins && !s.arm.blk then cancelTest s1 else s1).onArm fun a =>
      { a with
        diag := if a.cell.blockBegins && !a.blk then .pending else a.diag
        blk := a.blk || a.cell.blockBegins })

/-- A bypass decision (R274): protective OFF on every link, BYP_CLOSE, BYP_FIRE, and every chain opens. -/
def decideBypass (s : State) (source : Nat) (entry : Option Nat) : State :=
  if s.arm.bypassed then s
  else
    let s1 := (bothHiZ (cancelTest (endJig s)) 7 false).onArm fun a => { a with bypassed := true }
    let s2 := (s1.onGlk fun g => { g with bInvert := false, fireHold := !g.statClosed, jig := none }).onPrt
      fun p => { p with
        bypEntry := entry.getD 0
        bypTable := entry.isSome
        bypSource := source
        escPend := false }
    let s3 := logEvent s2 0x1013 source (entry.getD 0)
    let s4 := assertClose s3 source
    refreshBridge (s4.forChains requestOpen)

/-! ### Local bus (spec/13 R319, R320) -/

/-- Pending station buffers (0 to 13) become free with ENDED set. -/
def freePending (s : State) : State :=
  let now := s.clock
  let m : BitVec 16 := (List.finRange 16).foldl
    (fun a i => if i.val < 14 && s.lbus.bufs[i].st == 1 then a ||| BitVec.ofNat 16 (2 ^ i.val) else a) 0
  s.onLbus fun b =>
    { b with
      bufs := Vector.ofFn fun (i : Fin 16) =>
        if i.val < 14 && b.bufs[i].st == 1 then {} else b.bufs[i]
      ended := b.ended ||| m
      doneFresh := b.doneFresh.add now (m.setWidth 32 <<< 16) }

/-- The controller takes part on the bus: it sends and acknowledges. -/
def State.busNormal (s : State) : Bool := s.lbus.st == .active || s.lbus.st == .passive

/-- The frame that the controller may be receiving when it leaves the bus is finished (R305, R319): whether it
acknowledges it, and the Spline time after which none begins. -/
def State.rxTail (s : State) : Option (Bool × BitVec 32) :=
  if s.busNormal || s.lbus.st == .monitoring then some (s.busNormal, BitVec.ofNat 32 s.tim.time) else none

/-- The bus stops at shedding stage 2, once the frame in progress is finished (R319). -/
def shedBus (s : State) : State :=
  let last := s.rxTail
  logEvent ((freePending s).onLbus fun b => { b with shed := true, st := .stopped, lastRx := last }) 0x7006 2

/-- The bit timing of an image (R305, R307). -/
def busTiming (im : Image) : List Nat :=
  [im.nbrp, im.ntseg1, im.ntseg2, im.nsjw, im.dbrp, im.dtseg1, im.dtseg2, im.dsjw, im.dataRate, im.tdcOffset, im.triple]

/-- A parameter-only glue-up that changes the bit timing (R305): the frame in progress is finished, then the controller
waits for 11 recessive bits. Buffers and receive entries are kept. -/
def retimeBus (s : State) (im : Image) : State :=
  let last := s.rxTail
  if busTiming im != busTiming s.im && last.isSome && !s.img.structural then
    s.onLbus fun b => { b with st := .integrating, lastRx := last }
  else s

/-- The controller starts or resumes: it integrates, with its error counters at 0 (R319). -/
def startBus (s : State) : State :=
  s.onLbus fun b =>
    { b with shed := false, st := .integrating, rxErr := 0, txErr := 0, recovering := false, offDue := none, lastRx := none }

/-- A member that takes the token enters normal mode at the next bus idle (R320). -/
def busToNormal (s : State) : State := s.onLbus fun b => { b with toNormal := true }

/-- A member that gives the token up frees its station buffers and only monitors (R320). -/
def busToMonitor (s : State) : State :=
  if s.lbus.shed || s.lbus.st == .stopped then s
  else
    let mask := (List.range 14).foldl (fun a i => if (s.lbus.bufs.toList.getD i {}).st = 1 then a + 2 ^ i else a) 0
    logEvent ((freePending s).onLbus fun b => { b with st := .monitoring, toNormal := false }) 0x7007 mask

/-! ### The ownership token (spec/01 R15; spec/11 R283 to R285) -/

/-- The commanding end of every chain, as CMD_END shows it: the end that the token holder has (R180). -/
def commandFrom (s : State) (tail : Bool) : State := s.forChains fun t c => t.onSen c fun sn => { sn with cmdTail := tail }

/-- The device takes the token at start (R15). -/
def takeFirst (s0 : State) : State :=
  let t := s0.tim.time
  let s := commandFrom s0 s0.ownEnd
  refreshLoads (refreshBridge ((s.onArm fun a => { a with owner := true }).onDvt fun d =>
    { d with st := if s.simplex then .simplex else .owning, waitTake := none, moveTime := t, yielded := false }))

/-- Legs of the cell, as the partner's mirror shows them (spec/06). -/
def legsFromMirror (s : State) (m : Mirror) : State :=
  s.onGlk fun g =>
    { g with
      legA := { g.legA with st := m.legA, cause := m.causeA }
      legB := { g.legB with st := m.legB, cause := m.causeB }
      bInvert := m.bInvert }

/-- Load channels that the partner's last mirror shows (R302). -/
def loadsFromMirror (s : State) (m : Mirror) : State :=
  let f (t : State) (n : Fin 12) : State :=
    match m.load[n.val]? with
    | none => t
    | some v =>
      let t1 := t.onCh n fun c =>
        { c with want := v.isOn || c.want, latched := v.latched, attempts := v.attempts }
      let t2 := refreshCh t1 n
      if v.econ && t2.lsw.ch[n].isOn then t2.onCh n fun c => { c with econ := true, econDue := none } else t2
  (List.finRange 12).foldl f s

/-- R142: HOLD on the links of every RUNNING leg until its echoes agree or TAKE_HOLD_MAX passes. -/
def beginHold (s : State) : State :=
  let t := s.clock + s.im.takeHoldMax
  s.onGlk fun g =>
    { g with
      takeUntil := some t
      holdA := g.legA.st == .running
      holdB := g.legB.st == .running }

/-- Every running activity ends. -/
def endAllActs (s : State) (cause : Nat) : State :=
  (List.finRange 4).foldl (fun t i => endAct t cause i) s

/-- The token comes to this member with a generation (R283, R284): HOLD words, the mirror's legs and channels, and
the chains. -/
def assumeToken (s : State) (gen : Nat) : State :=
  let t := s.tim.time
  let s1 := match s.dvt.mirror with
    | none => s
    | some m => legsFromMirror s m
  let s2 := (s1.onArm fun a => { a with owner := true }).onDvt fun d =>
    { d with
      st := .owning
      gen := gen % 65536
      moveTime := t
      yielded := false
      waitTake := none
      giveAt := none
      acked := false
      ackOwed := false }
  let s3 := commandFrom (endAllActs (beginHold s2) 5) s.ownEnd
  let s4 := match s.dvt.mirror with
    | none => refreshLoads s3
    | some m => refreshLoads (loadsFromMirror s3 m)
  busToNormal (refreshBridge s4)

/-- A takeover (R283): generation + 1; cause 0 silence, 1 unhealthy. -/
def takeOver (s : State) (cause : Nat) : State :=
  logEvent ((assumeToken s (s.dvt.gen + 1)).onDvt fun d => { d with cntTake := bump 8 d.cntTake }) 0xD002 cause

/-- What waits to go to the sentinels is dropped. -/
def dropRequests (s : State) : State := s.forChains fun t c => t.onSen c fun x => { x with srqQ := [], newSets := [] }

/-- The token is given up: TRACK from the next word, load channels off (R142, R302), and idle pairs on the chains, whose
other end commands (R212). Requests to sentinels that wait are dropped. -/
def dropToken (s0 : State) (st : DvtSt) : State :=
  let t := s0.tim.time
  let s := dropRequests (commandFrom (busToMonitor (endAllActs s0 5)) (!s0.ownEnd))
  refreshLoads (refreshBridge ((s.onArm fun a => { a with owner := false }).onDvt fun d =>
    { d with st := st, moveTime := t, giveAt := none, acked := false }))

/-! ### Reaction sources (spec/11 R270, R396) -/

/-- The entry applies in the published state and mode (STATES of Table 11.4). -/
def State.entryApplies (s : State) (r : Reaction) : Bool :=
  r.states.getLsbD s.arm.cell.code && !(r.states.getLsbD 6 && s.arm.mode == .dcFaultRide)

/-- Put the IMMEDIATE actions of one firing in force (R271). -/
def immediateActions (s : State) (imm : BitVec 8) (e : Fin 64) : State :=
  let s1 := if imm.getLsbD 0 then blockCell s 6 else s
  let s2 := if imm.getLsbD 1 && (s1.leg .a).st != .hiZ then setHiZ s1 .a 6 else s1
  let s3 := if imm.getLsbD 2 && (s2.leg .b).st != .hiZ then setHiZ s2 .b 6 else s2
  let s4 := if imm.getLsbD 3 && s3.declared .a then blockAll (requestBlock s3 .a) .a else s3
  let s5 := if imm.getLsbD 4 && s4.declared .b then blockAll (requestBlock s4 .b) .b else s4
  let now := s.clock
  let s6 := if imm.getLsbD 5 then
      s5.onPrt fun p => { p with
        tripOut := true
        tripOutAt := now
        tripBy := e.val :: (if p.tripOut then p.tripBy.filter (· != e.val) else []) }
    else s5
  refreshBridge s6

/-- Firings of an entry that lie within its WINDOW, newest first. -/
def inWindow (r : Reaction) (now : Nat) (ts : List Nat) : List Nat :=
  (ts.filter fun t => decide (now ≤ t + msNs * r.window)).take 256

/-- Count one firing of an entry; the COUNT-th within the window makes its escalation due (R270). Only the
token holder's PE escalates (R280). -/
def countFiring (s : State) (e : Fin 64) : State :=
  let r := s.reaction e
  let now := s.clock
  let ts := now :: inWindow r now s.prt.entries[e].times
  let esc := s.arm.owner && r.escalate != 0 && decide (r.count ≤ ts.length)
  s.onPrt fun p =>
    { p with
      entries := p.entries.set e { p.entries[e] with times := ts, esc := p.entries[e].esc || esc }
      escPend := p.escPend || esc }

/-- One entry fires (R270). `counted` is false where R280 leaves the counting to later or to the partner. -/
def fireEntry (counted : Bool) (s : State) (e : Fin 64) : State :=
  let r := s.tableEntry e
  let now := s.clock
  let s1 := s.onPrt fun p =>
    { p with
      last := e.val
      entries := p.entries.set e { p.entries[e] with
        fired := true
        latched := p.entries[e].latched || r.immediate != 0
        firedAt := some now
        act := if p.entries[e].latched then { r with immediate := r.immediate ||| p.entries[e].act.immediate } else r
        inactSince := none }
      firedOut := (e.val, now) :: p.firedOut
      cntHw := if r.source ≤ 8 then bump 8 p.cntHw else p.cntHw
      cntPe := if r.source ≤ 8 then p.cntPe else bump 8 p.cntPe }
  let s2 := endJig (immediateActions s1 r.immediate e)
  let s3 := logEvent s2 0x1010 e.val r.tag
  if counted then countFiring s3 e else s3

/-- The entries of a source that apply now. -/
def State.entriesOf (s : State) (src : Nat) : List (Fin 64) :=
  (List.finRange 64).filter fun e =>
    decide (e.val < s.table.length) && (s.tableEntry e).source == src && s.entryApplies (s.tableEntry e)

/-- A source becomes active: event 0x1012, and all matching entries fire together (R270, R273). -/
def sourceUp (s : State) (src : Nat) (counted : Bool := true) : State :=
  let s1 := logEvent s 0x1012 src
  (s1.entriesOf src).foldl (fireEntry counted) s1

/-- A source becomes inactive: RELEASE of its entries starts to count (R271). -/
def sourceDown (s : State) (src : Nat) : State :=
  let now := s.clock
  s.onPrt fun p =>
    { p with entries := Vector.ofFn fun (e : Fin 64) =>
        if (s.reaction e).source == src && p.entries[e].latched && p.entries[e].inactSince.isNone then
          { p.entries[e] with inactSince := some now }
        else p.entries[e] }

/-- A source whose activity the state holds (R396): raise it when it was inactive. -/
def raiseHeld (s : State) (src : Nat) : State :=
  if s.prt.active.contains src then s
  else sourceUp (s.onPrt fun p => { p with active := src :: p.active }) src

/-- A held source ends. -/
def endHeld (s : State) (src : Nat) : State :=
  if s.prt.active.contains src then
    sourceDown (s.onPrt fun p => { p with active := p.active.filter (· != src) }) src
  else s

/-- An event source is raised: active for one PE assessment (R396). -/
def raiseEvent (s : State) (src : Nat) : State :=
  sourceUp (s.onPrt fun p => { p with pulsed := src :: p.pulsed }) src

/-- The source of an entry is active now (R396). -/
def State.sourceActive (s : State) (src : Nat) : Bool :=
  if src < 8 then s.prt.cmp.getLsbD src
  else if src = 8 then s.dev.tripInLow
  else s.prt.active.contains src || s.prt.pulsed.contains src

/-! ### Watchdogs and resets (spec/02, spec/14) -/

/-- Entries of an event-log write that is in progress: it completes through any reset (R330). -/
def State.writingEntries (s : State) : List Event :=
  match s.est.writing with
  | none => []
  | some w => w.entries

/-- Records, identity area and plinth domain across a cold or power-on reset: what Table 14.3 keeps. -/
def keptAcross (s : State) (bypassHold closeKept : Bool) : State :=
  let chainKept (ch : Chain) : Chain :=
    { ({} : Chain) with
      weldPos := ch.weldPos
      weldNeg := ch.weldNeg
      weldPre := ch.weldPre
      opsForced := ch.opsForced
      opsCycles := ch.opsCycles }
  let gapFrom := s.pwr.hibAt.getD s.clock
  let estKept (e : EstCh) : EstCh :=
    { ({} : EstCh) with
      accLive := e.accLive
      accRem := e.accRem
      epoch := e.epoch
      gapAt := some (e.gapAt.getD gapFrom) }
  { s with
    dev := { s.dev with serialLoaded := false }
    eng := {}
    img := { ({} : Img) with
      activeSlot := s.img.activeSlot
      floor := s.img.floor
      slotA := s.img.slotA
      slotB := s.img.slotB
      slotAErr := s.img.slotAErr
      slotBErr := s.img.slotBErr }
    spl := {}
    tim := {}
    meas := {}
    arm := {}
    pwm := {}
    glk := { ({} : Glk) with
      fireHold := bypassHold
      firing := bypassHold && s.glk.firing
      fireDue := if bypassHold then s.glk.fireDue else none
      closeAsserted := closeKept && s.glk.closeAsserted
      closeDue := if closeKept then s.glk.closeDue else none
      statClosed := s.glk.statClosed }
    chA := chainKept s.chA
    chB := chainKept s.chB
    snA := {}
    snB := {}
    esA := estKept s.esA
    esB := estKept s.esB
    est := { ({} : Est) with
      checkAt := s.clock
      countAt := s.clock
      writing := s.est.writing
      erased := s.est.erased
      recState := s.est.recState
      recCount := s.est.recCount
      park := s.est.park }
    thm := { ({} : Thm) with
      latHotA := s.thm.latHotA
      latColdA := s.thm.latColdA
      latHotB := s.thm.latHotB
      latColdB := s.thm.latColdB
      tills := s.thm.tills
      tillSeq := s.thm.tillSeq
      full := s.thm.full
      lastCause := s.thm.lastCause }
    prt := {}
    dvt := { ({} : Dvt) with clashHeld := s.arm.roleClash || s.dvt.clashHeld }
    lsw := {}
    lbus := {}
    pwr := { ({} : Pwr) with
      vbakLost := s.pwr.vbakLost
      rstCount := bump 16 s.pwr.rstCount
      rstLogged := false
      hibAt := s.pwr.hibAt
      hibHz := s.pwr.hibHz
      hibLast := s.pwr.hibLast
      wake := s.pwr.wake
      s1 := s.pwr.s1
      s2 := s.pwr.s2
      s3 := s.pwr.s3
      s4 := s.pwr.s4
      warn := s.pwr.warn
      above := s.pwr.above
      vsys := s.pwr.vsys
      vaux := s.pwr.vaux
      vbak := s.pwr.vbak
      resetAt := s.clock }
    sec := { ({} : Sec) with
      life := s.sec.life
      devCert := s.sec.devCert
      caCert := s.sec.caCert
      fwRoot := s.sec.fwRoot
      opCert := s.sec.opCert
      root := s.sec.root
      devKey := s.sec.devKey
      stored := s.sec.stored
      jtag := s.sec.jtag
      jtagLogged := s.sec.jtagLogged
      jtagLife := s.sec.jtagLife }
    mnt := {}
    evt := { ({} : Evt) with
      nvm := s.evt.nvm
      wrapped := s.evt.wrapped
      nvmPos := s.evt.nvmPos
      newest := match s.writingEntries ++ s.evt.nvm with
        | [] => 0
        | e :: _ => e.seq + 1024 }
    req := {} }

/-- A cold reset (Table 14.3). The plinth domain, the bypass outputs of Table 14.4 and the non-volatile
memory stay; start-up follows with the verification of the image slots (R60). -/
def coldReset (s : State) (cause : Nat) (fire : Bool := false) : State :=
  let s1 := keptAcross s ((fire || (s.eng.peLs && s.glk.fireHold)) && !s.glk.statClosed) true
  let s2 := if s.dvt.beating then send s1 (.heartbeat (beatSet ⟨false, false, false, s.dvt.gen, s.dev.member⟩)) else s1
  (s2.onDev fun d => { d with phase := .booting }).onPwr fun p => { p with rstCause := cause, rstKind := 1 }

/-- A power-on reset is asserted: everything but the plinth domain and the non-volatile memory clears, and
the device is held until its release (R324, R331). A role clash ends with it (R16). -/
def powerReset (s : State) (cause : Nat) : State :=
  let s1 := (keptAcross s false true).onDvt fun d => { d with clashHeld := false }
  let s2 := if s.dvt.beating then send s1 (.heartbeat (beatSet ⟨false, false, false, s.dvt.gen, s.dev.member⟩)) else s1
  (s2.onDev fun d => { d with phase := .held, extestSeen := false }).onPwr fun p =>
    { p with rstCause := cause, rstKind := 0, s1 := false, s2 := false, s3 := false, s4 := false, warn := false }

/-- Begin a clamp hold (R298): contactor channels that are on are held at 100 %, the other classes go off. -/
def beginClamp (s : State) : State :=
  let held (n : Fin 12) : Bool := s.lsw.ch[n].isOn && s.lswClass n == 1
  let mask := (List.finRange 12).foldl (fun a n => if held n then a + 2 ^ n.val else a) 0
  let now := s.clock
  let s1 := s.onLsw fun l =>
    { l with
      clamp := decide (mask ≠ 0)
      clampAt := now
      cntClamps := if mask = 0 then l.cntClamps else bump 8 l.cntClamps
      ch := Vector.ofFn fun n =>
        if held n then { l.ch[n] with clamp := true, econ := false, econDue := none } else l.ch[n] }
  let s2 := (List.finRange 12).foldl (fun t n => if held n then t else chOff t n) s1
  if mask = 0 then s2 else logEvent s2 0x6009 mask

/-- Engines of the image take a run state. SE stays halted after its lock-step reaction (R31). -/
def setEngines (s : State) (r : EngRun) : State :=
  let mask := s.im.str.engineMask
  let ceb := s.declared .b
  s.onEng fun e => { e with
    state := Vector.ofFn fun (i : Fin 8) =>
      if mask.getLsbD i.val && (i.val != 2 || ceb) then
        (if r == .running && e.seLs && i == EngineId.se.idx then .halted else r)
      else .off
    restartDue := Vector.replicate 8 none }

/-- What a warm reset leaves of HE's thermal state (Table 14.3): the shutdowns, which the plinth latches and the till
records hold, and the records. Readings, exclusions, forces and counts are at their reset values again (R364). -/
def thmWarm (t : Thm) : Thm :=
  { ({} : Thm) with
    held := t.held
    sdHotA := t.sdHotA
    sdColdA := t.sdColdA
    sdHotB := t.sdHotB
    sdColdB := t.sdColdB
    latHotA := t.latHotA
    latColdA := t.latColdA
    latHotB := t.latHotB
    latColdB := t.latColdB
    causeA := t.causeA
    causeB := t.causeB
    tills := t.tills
    tillDue := t.tillDue
    tillSeq := t.tillSeq
    full := t.full
    lastCause := t.lastCause }

/-- What a warm reset leaves of SE: the identity area with its counters, the measurements of the boot (R346) and the TAP.
The report, the nonce and the registers of each port are at their reset values again (R364, R366). -/
def secWarm (x : Sec) : Sec :=
  { x with
    enrol := 0
    certSel := Vector.replicate 4 0
    nonce := Vector.replicate 8 0
    attest := 0
    elapsed := 0
    report := []
    denied := 0
    deniedPort := 0
    deniedClass := 0
    deniedAddr := 0xFFFFFFFF#32
    svcSeq := none
    svcAns := none
    svcBad := 0 }

/-- The load channels without the heaters' commands, which HE gives anew at its next scan step, and with the select code
at its reset value (R364). -/
def heatersDropped (s : State) : Lsw :=
  let l := s.lsw
  { l with
    ch := Vector.ofFn fun n => if s.lswClass n = 3 then { l.ch[n] with want := false, wantDue := none } else l.ch[n]
    sel := 0
    pins := if s.dev.senseSrcPin then l.pins else 0 }

/-- A warm reset (Table 14.3, Table 14.4): engines and pulse units stop, words fall silent, contactors go
into the clamp hold, the chains idle; time, forwarding, the urgent latch, the event buffer, latches of load
channels and the integrators stay. -/
def warmReset (s : State) (cause : Nat) : State :=
  let s1 := beginClamp (takeHwEvents s)
  let s2 := endAllActs s1 4
  let chainKept (ch : Chain) : Chain :=
    { ({} : Chain) with
      st := if ch.st == .absent then .absent else .block
      kPos := ch.kPos
      kNeg := ch.kNeg
      kPre := ch.kPre
      kClosedSince := ch.kClosedSince
      derate := ch.derate
      weldPos := ch.weldPos
      weldNeg := ch.weldNeg
      weldPre := ch.weldPre
      opsForced := ch.opsForced
      opsCycles := ch.opsCycles
      mods := ch.mods.map fun m =>
        { m with st := if m.st == .parked && !m.leave then .parked else .block, trim := false, leave := false } }
  let gapBegins (e : EstCh) (ch : Chain) : EstCh :=
    if e.gapAt.isSome then { e with cci := [] }
    else { e with gapAt := some s.clock, gapSets := ch.mods.toList.map (·.cmd), cci := [] }
  let s3 := { s2 with
    arm := { ({} : Arm) with
      owner := false
      cell := s2.arm.cell
      changes := s2.arm.changes
      bypassed := s2.arm.bypassed
      mode := s2.arm.mode
      nextMode := s2.arm.nextMode
      modes := s2.arm.modes
      roleClash := s2.arm.roleClash
      boundary := s2.arm.boundary
      resetBlock := true
      diag := .pending }
    pwm := {}
    glk := { (bothHiZ s2 (if s2.arm.roleClash then 8 else 0) false).glk with
      fireHold := s2.glk.fireHold && s2.glk.firing
      fireAll := s2.glk.fireAll && s2.glk.firing
      fireDue := none
      jig := none
      testUntil := none
      testOver := none
      takeUntil := none
      bInvert := false }
    chA := chainKept s2.chA
    chB := chainKept s2.chB
    snA := { s2.snA with srqQ := [], newSets := [] }
    snB := { s2.snB with srqQ := [], newSets := [] }
    meas := {}
    thm := thmWarm s2.thm
    sec := secWarm s2.sec
    evt := { s2.evt with sel := Vector.replicate 4 0 }
    lsw := heatersDropped s2
    esA := gapBegins s2.esA s2.chA
    esB := gapBegins s2.esB s2.chB
    mnt := {}
    spl := { s2.spl with
      frozen := []
      regQueue := []
      ansRefused := []
      ansBulk := none
      ansResults := [] }
    dvt := { s2.dvt with healthy := false, giveAt := none, acked := false, ackOwed := false }
    req := {}
    lbus := { ({} : Lbus) with shed := s2.lbus.shed }
    img := { s2.img with
      glue := .idle
      locked := false
      glueBlock := 0
      staging := .empty
      structural := false
      dfCode := 0
      dfSection := 0
      dfRecord := 0
      dfWarn := false
      stagedVersion := 0
      stageCount := 0
      stageLen := 0
      stagePort := none
      tagStaged := 0
      staged := none
      winCycles := 0
      adoptDue := false } }
  let s4 := s3.onPwr fun p =>
    { p with
      rstCause := cause
      rstKind := 2
      rstCount := bump 16 p.rstCount
      rstLogged := false
      hibPending := false }
  let s5 := setEngines (s4.onDev fun d => { d with phase := .warm }) .off
  refreshBridge s5

/-- A watchdog-caused warm reset (causes 6 and 9), or the cold reset that R29 makes of the second one within
60 s. -/
def warmOrCold (s : State) (cause : Nat) : State :=
  let now := s.clock
  match s.eng.lastWarmWd with
  | some t => if now < t + 60 * secNs then coldReset s 3 else
      (warmReset s cause).onEng fun e => { e with lastWarmWd := some now }
  | none => (warmReset s cause).onEng fun e => { e with lastWarmWd := some now }

end Sys2Proof.Machine
end

