-- ==== Sys2Proof/Machine/Power.lean ====
section
/-! DEFINITION. Supplies, shedding, resets, hibernation (spec/14) and the engines' watchdogs, lock-step and
memories (spec/02): the meanings of rows 0 and 4 to 30 of the table. -/

set_option Elab.async false

namespace Sys2Proof.Machine

/-! ### Shared by this family -/

/-- Length for which a supply must stay above its restore level (Table 14.2). -/
def restoreHold : Nat := 20 * msNs

/-- Restore levels of the warning and of stages 1 to 4, mV (Table 14.2). -/
def restoreLevel (i : Fin 5) : Nat := [11200, 11000, 10600, 10200, 9900].getD i.val 0

/-- VSYS has stayed above restore level i for 20 ms. -/
def State.restored (s : State) (i : Fin 5) : Bool :=
  match s.pwr.above[i] with
  | none => false
  | some t => decide (t + restoreHold ≤ s.clock)

/-- The partner's heartbeats arrive (R283: none missing for more than 5 µs). -/
def State.partnerBeats (s : State) : Bool :=
  match s.dvt.lastBeat with
  | none => false
  | some t => decide (s.clock ≤ t + 5 * usNs)

/-- Heaters, fan and lamps are shed (stage 1). -/
def shedLoads (s : State) : State :=
  refreshLoads (s.onLsw fun l =>
    { l with
      restoreDue := none
      restoreQ := []
      ch := Vector.ofFn fun n => if shedClass (s.lswClass n) then { l.ch[n] with shed := true } else l.ch[n] })

/-- The warning of Table 14.2. -/
def enterWarn (s : State) : State :=
  logEvent (s.onPwr fun p => { p with warn := true }) 0x8001 (s.pwr.vsys.getD 0 / 10)

/-- Stage 1: loads and service port off, a STATE write due first, event copies due (R239, R371). -/
def enterStage1 (s : State) : State :=
  let s1 := s.onPwr fun p => { p with s1 := true, cnt1 := bump 8 p.cnt1 }
  let s2 := logEvent (shedLoads s1) 0x8002 1
  watchActs ((s2.onEst fun e => { e with stateDue := true, stateUrgent := true }).onEvt fun e =>
    { e with pendDue := decide (e.pending ≠ 0) })

/-- Stage 2: local bus off, scan held at 1 s; learning freezes and write-permit goes with the flag. -/
def enterStage2 (s : State) : State :=
  let s1 := s.onPwr fun p => { p with s2 := true, cnt2 := bump 8 p.cnt2 }
  let s2 := shedBus (logEvent s1 0x8002 2)
  (if s.thm.scan = 0 then s2 else logEvent s2 0x5001 0).onThm fun t => { t with held := true, scan := 0 }

/-- Stage 3: a chain-open request of rank 1 for every chain (R174). -/
def enterStage3 (s : State) : State :=
  let s1 := s.onPwr fun p => { p with s3 := true, cnt3 := bump 8 p.cnt3 }
  (logEvent s1 0x8002 3).forChains requestOpen

/-- Stage 4 (R329): HEALTHY clears; a healthy partner takes the token, otherwise the cell is bypassed. -/
def enterStage4 (s : State) : State :=
  let s1 := s.onPwr fun p => { p with s4 := true, cnt4 := bump 8 p.cnt4 }
  let s2 := (logEvent s1 0x8002 4).onDvt fun d => { d with healthy := false }
  let s3 := raiseHeld s2 0x29
  if s.chainPair then refreshBridge s3
  else if s.simplex then decideBypass s3 0x29 none
  else if s.partnerBeats && s.dvt.partnerHealthy then
    let now := s.clock
    refreshBridge (if s.arm.owner then s3.onDvt fun d => { d with unhealthyAt := some now } else s3)
  else decideBypass s3 0x29 none

/-- The next channel shed at stage 1 switches on again (R299). -/
def restoreNext (s : State) : State :=
  match s.lsw.restoreQ with
  | [] => s.onLsw fun l => { l with restoreDue := none }
  | n :: rest =>
    let t := s.clock + 100 * msNs
    refreshCh ((s.onCh n fun c => { c with shed := false }).onLsw fun l =>
      { l with restoreQ := rest, restoreDue := if rest.isEmpty then none else some t }) n

/-- Stage 1 restores: its channels come back in channel order (R299, R328). -/
def restoreStage1 (s : State) : State :=
  let q := (List.finRange 12).filter fun n => s.lsw.ch[n].shed
  let s1 := logEvent (s.onPwr fun p => { p with s1 := false }) 0x8003 1
  restoreNext (s1.onLsw fun l => { l with restoreQ := q })

/-- Stage 2 restores: the local bus resumes, the scan follows R252 again, and with write-permit the lines of the
non-volatile memory that wait are rewritten (R34). -/
def restoreStage2 (s : State) : State :=
  let s1 := (logEvent (s.onPwr fun p => { p with s2 := false }) 0x8003 2).onEng fun e => { e with rewriteDue := [] }
  logEvent ((startBus s1).onThm fun t => { t with held := false }) 0x7006 s1.stage

/-- Release of the channels of a clamp hold (R298, R333): the coils drop. -/
def releaseClamp (s : State) (report : Bool) : State :=
  let mask := (List.finRange 12).foldl
    (fun (a : BitVec 12) n => if s.lsw.ch[n].clamp then a ||| BitVec.ofNat 12 (2 ^ n.val) else a) 0
  let s1 := s.onLsw fun l =>
    { l with
      clamp := false
      clampLost := if report && mask != 0 then some mask else l.clampLost
      ch := l.ch.map fun c => if c.clamp then
        { c with clamp := false, isOn := false, want := false, econ := false, econDue := none, inrushDue := none } else c }
  let f (ch : Chain) : Chain :=
    if ch.kPos || ch.kNeg || ch.kPre then
      { ch with kPos := false, kNeg := false, kPre := false, kClosedSince := none, clampLost := true }
    else ch
  (s1.onChA f).onChB f

/-- HE takes each held contactor channel back into its economiser (R298). -/
def resumeClamp (s : State) : State :=
  let s1 := s.onLsw fun l =>
    { l with
      clamp := false
      clampLost := none
      ch := l.ch.map fun c => if c.clamp then
        { c with clamp := false, econ := true, econDue := none, want := true } else c }
  match s.lsw.clampLost with
  | none => s1
  | some m => logEvent s1 0x600A m.toNat

/-- R15: what a member does about the token when it reaches ring-ready or resumes. -/
def claimToken (s : State) : State :=
  let now := s.clock
  if s.arm.roleClash then s
  else if s.simplex then takeFirst s
  else if s.partnerBeats && s.dvt.partnerOwner then
    refreshLoads (refreshBridge (s.onDvt fun d => { d with st := .tracking }))
  else if !s.dev.member then takeFirst s
  else refreshBridge (s.onDvt fun d =>
    { d with st := if d.up then .tracking else .linkDown, waitTake := some (now + 200 * msNs) })

/-- A wake from hibernation: a power-on reset of cause 7 (R339). BYP_CLOSE ends with it, and BYP_STAT is read again
(R144, R21). -/
def wakeUp (s : State) (bit : Nat) : State :=
  let secs := match s.pwr.hibAt with
    | none => 0
    | some t => min ((s.clock - t) / secNs) (2 ^ 32 - 1)
  let s1 := powerReset s 7
  let s2 := (s1.onPwr fun p =>
    { p with wake := BitVec.ofNat 5 (2 ^ bit), hibLast := secs, hibAt := none, hibVsysLost := false }).onDev
    fun d => { d with phase := .booting, vsysValidAt := s.clock }
  logEvent (s2.onGlk fun g => { g with closeAsserted := false, closeDue := none, statClosed := s.dev.bypStatLow }) 0x8008 (2 ^ bit)

/-- PE lock-step reaction (Table 02.3). -/
def lockstepPe (s : State) : State :=
  let duplex := !s.simplex && s.partnerBeats
  let s1 := logEvent (raiseEvent s 0x27) 0x1101 (if s.simplex then 0 else 1)
  let s2 := if duplex then coldReset (s1.onDvt fun d => { d with beating := false }) 4
    else
      let t1 := (bothHiZ s1 7 false).onGlk fun g => { g with fireHold := !g.statClosed, bInvert := false }
      let t2 := assertClose (refreshBridge t1) 0x27
      let t3 := t2.forChains fun t c => dropCoils (blockAll t c) c
      coldReset t3 4 true
  s2.onEng fun e => { e with peLs := true }

/-- SE lock-step reaction (Table 02.3): SE is halted and the cell keeps running. -/
def lockstepSe (s : State) : State :=
  logEvent ((raiseEvent s 0x27).onEng fun e =>
    { e with seLs := true, state := e.state.set EngineId.se.idx .halted }) 0x9101

/-- The response to an expired watchdog (Table 02.2, R29). -/
def watchdogResponse (s : State) (e : EngineId) : State :=
  let now := s.clock
  match e with
  | .me | .cea | .ceb | .fe => warmOrCold s 6
  | .ee | .he =>
    let again := match s.eng.lastRestart[e.idx] with
      | none => false
      | some t => decide (now < t + 60 * secNs)
    bif again then warmOrCold (logEvent s 0x8105 e.idx.val) 9
    else s.onEng fun x => { x with
      state := x.state.set e.idx .restarting
      lastRestart := x.lastRestart.set e.idx (some now)
      restartDue := x.restartDue.set e.idx (some now) }
  | .pe => lockstepPe s
  | .se => lockstepSe s

/-- A watchdog expiry (R28): event 0x8101, the count, HEALTHY cleared (R282), then the response. HEALTHY comes back with
ENGINE_RESTART_COMPLETE, WARM_RESET_RESUME, a boot, or RUN of stage 4, and with nothing else: after an expiry of SE, which
stays halted, it stays clear until one of these. DESIGN CHOICE, log entry 42. -/
def watchdogExpiry (s : State) (e : EngineId) : State :=
  let s1 := logEvent (s.onEng fun x =>
    { x with restarts := x.restarts.set e.idx (bump 4 x.restarts[e.idx]) }) 0x8101 e.idx.val
  watchdogResponse (refreshBridge (s1.onDvt fun d => { d with healthy := false })) e

/-! ### Meanings -/

/-- POWER_ON_RESET_RELEASE (R324): VBAK in range and VSYS at or above 10.4 V; ROLE_SEL is sampled, stages 1
and 2 stand in force between 10.4 V and 10.6 V (R330). A device in hibernation whose VSYS has failed wakes
(R339). -/
def execPowerOnResetRelease (vsys vbak : Nat) (roleSel senseSrc bypClosed : Bool) (s : State) : Res :=
  if vbak < 3000 || 3600 < vbak || vsys < 10400 then .next s
  else
    match s.dev.phase with
    | .hibernating =>
      if s.pwr.hibVsysLost then .next (wakeUp (s.onDev fun d => { d with bypStatLow := bypClosed }) 3) else .next s
    | .held =>
      let low := decide (vsys ≤ 10600)
      let s1 := s.onDev fun d =>
        { d with
          phase := .booting
          member := roleSel
          roleSelPin := roleSel
          senseSrcPin := senseSrc
          bypStatLow := bypClosed
          vsysValidAt := s.clock }
      let s2 := s1.onGlk fun g => { g with
        statClosed := bypClosed
        closeAsserted := false
        closeDue := none
        fireHold := false
        firing := false
        fireDue := none }
      .next (s2.onPwr fun p =>
        { p with s1 := low, s2 := low, warn := decide (vsys ≤ 10800), vsys := some vsys, vbak := some vbak })
    | .booting | .starting | .ready | .noImage | .warm | .glueRestart => .next s

/-- VSYS_PLINTH_SAMPLE (R327): every stage crossed is entered in ascending order. -/
def execVsysPlinthSample (vsys : Nat) (s : State) : Res :=
  let now := s.clock
  let s0 := s.onPwr fun p =>
    { p with
      vsys := some vsys
      above := Vector.ofFn fun i =>
        if restoreLevel i < vsys then some (p.above[i].getD now) else none }
  if s.outOfReset || s.dev.phase == .warm then
    let t1 := if vsys ≤ 10800 && !s.pwr.warn then enterWarn s0 else s0
    let t2 := if vsys ≤ 10600 && !s.pwr.s1 then enterStage1 t1 else t1
    let t3 := if vsys ≤ 10200 && !s.pwr.s2 then enterStage2 t2 else t2
    let t4 := if vsys ≤ 9800 && !s.pwr.s3 then enterStage3 t3 else t3
    .next (if vsys ≤ 9500 && !s.pwr.s4 then enterStage4 t4 else t4)
  else .next s0

/-- STAGE4_HANDOFF_TIMEOUT (R329): 10 µs after HEALTHY was cleared without a newer owner. -/
def execStage4HandoffTimeout (s : State) : Res :=
  match s.dvt.unhealthyAt with
  | none => .next s
  | some t =>
    if s.clock < t + 10 * usNs then .next s
    else
      let s1 := s.onDvt fun d => { d with unhealthyAt := none }
      if s.arm.owner then .next (decideBypass s1 0x29 none) else .next s1

/-- STAGE_RESTORE (R328): the warning, then stage 2 before stage 1, one stage at a time. -/
def execStageRestore (s : State) : Res :=
  let s1 := if s.pwr.warn && s.restored 0 then
      logEvent (s.onPwr fun p => { p with warn := false }) 0x8001 (s.pwr.vsys.getD 0 / 10) else s
  if s.pwr.s2 && s.restored 2 then .next (restoreStage2 s1)
  else if s.pwr.s1 && !s.pwr.s2 && s.restored 1 then .next (restoreStage1 s1)
  else .next s1

/-- STAGE1_CHANNEL_RESTORE (R299). -/
def execStage1ChannelRestore (s : State) : Res :=
  if due s.clock s.lsw.restoreDue && !s.pwr.s1 then .next (restoreNext s) else .next s

/-- RESET_COMPARATOR_TRIP (R331, cause 1): power-on reset directly; a hibernating device only notes that
VSYS has fallen (R339). -/
def execResetComparatorTrip (s : State) : Res :=
  match s.dev.phase with
  | .held => .next s
  | .hibernating => .next (s.onPwr fun p => { p with hibVsysLost := true })
  | .booting | .starting | .ready | .noImage | .warm | .glueRestart => .next (powerReset s 1)

/-- VBAK_OUT_OF_RANGE (R325, cause 8): the plinth domain resets. -/
def execVbakOutOfRange (vbak : Nat) (s : State) : Res :=
  if 3000 ≤ vbak ∧ vbak ≤ 3600 then .next (s.onPwr fun p => { p with vbak := some vbak })
  else
    let s1 := powerReset s 8
    let lose (e : EstCh) : EstCh := { e with accLive := 0, accRem := 0, epoch := (e.epoch + 1) % 65536 }
    let s2 := (s1.onEsA lose).onEsB lose
    let s3 := s2.onThm fun t => { t with latHotA := false, latColdA := false, latHotB := false, latColdB := false }
    .next (s3.onPwr fun p =>
      { p with vbakLost := true, vbakLog := true, vbak := some vbak, wake := 0, hibAt := none, hibVsysLost := false })

/-- VAUX_LOW_DETECT (R326). -/
def execVauxLowDetect (vaux : Nat) (s : State) : Res :=
  let s0 := s.onPwr fun p => { p with vaux := some vaux }
  if s.pwr.vauxLow || !s.outOfReset || s.im.vauxMin ≤ vaux then .next s0
  else
    let s1 := logEvent (s0.onPwr fun p => { p with vauxLow := true }) 0x800A (vaux / 100)
    .next (s1.forChains requestBlock)

/-- VAUX_LOW_CLEAR (R326): the chains stay in BLOCK until a station RUN. -/
def execVauxLowClear (vaux : Nat) (s : State) : Res :=
  let s0 := s.onPwr fun p => { p with vaux := some vaux }
  if s.pwr.vauxLow && decide (s.im.vauxMin + 1000 ≤ vaux) then
    .next (refreshLoads (logEvent (s0.onPwr fun p => { p with vauxLow := false }) 0x800A (vaux / 100)))
  else .next s0

/-- RESET_N_LOW (R331, cause 2): a cold reset, or a wake from hibernation (R339). -/
def execResetNLow (s : State) : Res :=
  match s.dev.phase with
  | .held => .next s
  | .hibernating => .next (wakeUp s 2)
  | .booting | .starting | .ready | .noImage | .warm | .glueRestart => .next (coldReset s 2)

/-- Stage n = 3 or 4 is restored by RUN (R328). -/
def opPwrRun (s : State) : RegRes :=
  let r4 := s.pwr.s4 && s.restored 4
  let r3 := s.pwr.s3 && s.restored 3
  if !r4 && !r3 then (s, 0x04)
  else
    let s1 := if r4 then
        let t := (s.onPwr fun p => { p with s4 := false }).onDvt fun d => { d with healthy := d.beating, unhealthyAt := none }
        logEvent (endHeld t 0x29) 0x8004 4
      else s
    let s2 := if r3 then logEvent (s1.onPwr fun p => { p with s3 := false }) 0x8004 3 else s1
    (refreshBridge s2, 0x00)

/-- The token holder's cell inserts: WARM and COLD are refused (R335). -/
def State.resetRefused (s : State) : Bool := s.arm.owner && s.arm.cell.inserting

/-- PWR_CMD WARM (R335, cause 10). -/
def opPwrWarm (s : State) : RegRes :=
  if s.resetRefused then (s, 0x04) else (warmReset s 10, 0x00)

/-- PWR_CMD COLD (R335, cause 5). -/
def opPwrCold (s : State) : RegRes :=
  if s.resetRefused then (s, 0x04) else (coldReset s 5, 0x00)

/-- The first condition of R337 that fails: 1 cell, 2 chain, 3 stage, 4 activity; 0 none. -/
def State.hibBlock (s : State) : Nat :=
  if s.arm.cell != .off && s.arm.cell != .bypassed then 1
  else if s.chains.any fun c => !((s.chain c).st == .absent || ((s.chain c).st == .block && (s.chain c).opened)) then 2
  else if 2 ≤ s.stage then 3
  else if s.mnt.acts.toList.any (·.isSome) then 4
  else 0

/-- PWR_CMD HIBERNATE (R337). -/
def opPwrHibernate (s : State) : RegRes :=
  if s.hibBlock ≠ 0 then (logEvent s 0x800B s.hibBlock, 0x04)
  else
    (((s.onPwr fun p => { p with hibPending := true }).onEst fun e =>
        { e with stateDue := true, stateUrgent := true, countDue := true }).onEvt fun e =>
        { e with pendDue := decide (e.pending ≠ 0) }, 0x00)

/-- PWR_CMD CLEAR_VBAK (R325). -/
def opPwrClearVbak (s : State) : RegRes := (s.onPwr fun p => { p with vbakLost := false }, 0x00)

/-- PWR_CMD RUN. -/
def execPwrCmdRun (p : Requester) (s : State) : Res :=
  .next (regCmd s p fun s => withRight s p .operate 0x000F0010 opPwrRun)

/-- PWR_CMD WARM. -/
def execPwrCmdWarm (p : Requester) (s : State) : Res :=
  .next (regCmd s p fun s => withRight s p .operate 0x000F0010 opPwrWarm)

/-- PWR_CMD COLD. -/
def execPwrCmdCold (p : Requester) (s : State) : Res :=
  .next (regCmd s p fun s => withRight s p .operate 0x000F0010 opPwrCold)

/-- PWR_CMD HIBERNATE. -/
def execPwrCmdHibernate (p : Requester) (s : State) : Res :=
  .next (regCmd s p fun s => withRight s p .operate 0x000F0010 opPwrHibernate)

/-- The bypass and trip outputs of hibernation (Table 14.4): BYP_FIRE high impedance, TRIP_OUT_N released. -/
def idleOutputs (s : State) : State :=
  (s.onGlk fun g => { g with fireHold := false, fireAll := false }).onPrt fun p => { p with tripOut := false, tripBy := [] }

/-- HIBERNATE_ENTER (R337): once the writes are made, SLEEP on every chain, outputs off, every domain but
PLINTH stops. -/
def execHibernateEnter (s : State) : Res :=
  if s.pwr.hibPending && !s.est.stateDue && !s.est.countDue && s.thm.tillDue.isEmpty && s.est.writing.isNone then
    let s1 := s.forChains fun t c =>
      ((sendChain t c fun e => .senFrame c e (sleepFrame e)).onSen c fun n =>
        { n with stage := .asleep }).onChain c fun ch => { ch with st := .absent }
    let now := s.clock
    let s2 := logEvent s1 0x8007
    let s3 := (s2.onPwr fun p =>
      { p with hibPending := false, hibAt := some now, hibVsysLost := false, hibHz := s.eng.plinthHz.getD p.hibHz }).onDev
      fun d => { d with phase := .hibernating }
    let s4 := ((setEngines s3 .off).onDvt fun d => { d with beating := false, healthy := false }).onLbus fun b =>
      { b with st := if s.im.wakeMode == 2 then .monitoring else .stopped }
    .next (refreshLoads (refreshBridge (idleOutputs s4)))
  else .next s

/-- PWR_CMD CLEAR_VBAK. -/
def execPwrCmdClearVbak (p : Requester) (s : State) : Res :=
  .next (regCmd s p fun s => withRight s p .clear 0x000F0010 opPwrClearVbak)

/-- HIB_WAKE_TIMER_EXPIRY (R339). -/
def execHibWakeTimerExpiry (s : State) : Res :=
  match s.pwr.hibAt with
  | none => .next s
  | some t =>
    if s.dev.phase == .hibernating && s.im.hibWakeInterval != 0 &&
        decide (t + secNs * s.im.hibWakeInterval ≤ s.clock) then .next (wakeUp s 0)
    else .next s

/-- HIB_CCI_WAKE (R339): current through an open chain. -/
def execHibCciWake (c : ChainId) (s : State) : Res :=
  if s.dev.phase == .hibernating && s.im.hibCciWake != 0 && s.declared c then .next (wakeUp s 4) else .next s

/-- Filter n is enabled and matches a frame (R314). -/
def State.filterHits (s : State) (f : CanFrame) (n : Nat) : Bool :=
  let v := BitVec.ofNat 32 (s.im.filterValue n)
  let m := BitVec.ofNat 32 (s.im.filterMask n)
  v.getLsbD 31 && v.getLsbD 30 == f.xtd && ((f.id ^^^ v.truncate 29) &&& m.truncate 29) == 0

/-- The filter that accepts a frame: the first enabled filter that matches decides (R314). -/
def State.acceptFilter (s : State) (f : CanFrame) : Option Nat :=
  match (List.range 32).find? (s.filterHits f) with
  | none => none
  | some n => if (BitVec.ofNat 32 (s.im.filterValue n)).getLsbD 29 then some n else none

/-- An accepting filter with its WAKE bit set admits the frame (R321). -/
def State.wakeFilter (s : State) (f : CanFrame) : Bool :=
  match s.acceptFilter f with
  | none => false
  | some n => (BitVec.ofNat 32 (s.im.filterMask n)).getLsbD 31

/-- LBUS_WAKE (R321): the wake pin in mode 1, an admitted frame in mode 2. -/
def execLbusWake (frame : Option CanFrame) (s : State) : Res :=
  if s.dev.phase != .hibernating then .next s
  else
    match frame with
    | none => if s.im.wakeMode == 1 then .next (logEvent (wakeUp s 1) 0x7008 1) else .next s
    | some f =>
      if s.im.wakeMode == 2 && s.wakeFilter f then
        .next (logEvent ((wakeUp s 1).onLbus fun b => { b with wakeFrame := some f }) 0x7008 2)
      else .next s

/-- Engine e may write SRAM at offset a (R26): in its own partition, or in a mailbox it shares with another engine. Where
the mailboxes lie, the manual does not say: a free value, log entry 42. -/
def State.mayWrite (s : State) (e : EngineId) (a : Nat) : Bool :=
  (match s.im.str.sram[e.idx.val]? with
    | none => false
    | some p => decide (p.1 ≤ a ∧ a < p.1 + p.2)) || Config.mailbox e.idx.val a

/-- ENGINE_WATCHDOG_EXPIRY (R28, R26): only a running engine has a watchdog to expire. `stray` is the SRAM offset of a
write of the engine; one outside its partition and its mailboxes is blocked and treated as an expiry, and one inside them
is none. -/
def execEngineWatchdogExpiry (e : EngineId) (stray : Option Word) (s : State) : Res :=
  let ok := match stray with
    | none => false
    | some a => s.mayWrite e a.toNat
  if s.eng.state[e.idx] == .running && !ok then .next (watchdogExpiry s e) else .next s

/-- ENGINE_RESTART_COMPLETE (R30): the engine resumes; HEALTHY returns with it. -/
def execEngineRestartComplete (e : EngineId) (s : State) : Res :=
  if s.eng.state[e.idx] == .restarting then
    let took := match s.eng.restartDue[e.idx] with
      | none => 0
      | some t => (s.clock - t) / usNs
    let s1 := s.onEng fun x =>
      { x with state := x.state.set e.idx .running, restartDue := x.restartDue.set e.idx none }
    let s2 := logEvent (if s1.evtWaits then s1 else takeHwEvents s1) 0x8102 e.idx.val (min took 65535)
    let s3 := refreshBridge (s2.onDvt fun d => { d with healthy := d.beating && !s.pwr.s4 })
    .next (if e == .he then resumeLoads s3 else s3)
  else .next s

/-- WARM_RESET_RESUME (R334): the cell is BLOCKED with both legs HIGH_Z until its diagnostics pass, chains
stay in BLOCK, the clamp hold ends, the token is claimed under R15. -/
def execWarmResetResume (s : State) : Res :=
  match s.dev.phase with
  | .warm =>
    let s1 := (setEngines s .running).onDev fun d =>
      { d with phase := if s.spl.ringReady then .ready else .starting }
    let s2 := logEvent (s1.onPwr fun p => { p with rstLogged := true }) 0x8005 s.pwr.rstKind s.pwr.rstCause
    let s3 := s2.onDvt fun d => { d with healthy := !s.pwr.s4, beating := true }
    let s4 := if s.spl.ringReady then claimToken s3 else s3
    let s5 := if s4.arm.owner then resumeClamp s4 else (releaseClamp s4 false).onLsw fun l => { l with clampLost := none }
    let s6 := if s.pwr.s2 then s5 else startBus s5
    .next (refreshLoads (refreshBridge s6))
  | .held | .booting | .starting | .ready | .noImage | .glueRestart | .hibernating => .next s

/-- CLAMP_HOLD_TIMEOUT (R298): 50 ms after the reset began. -/
def execClampHoldTimeout (s : State) : Res :=
  if s.lsw.clamp && decide (s.lsw.clampAt + 50 * msNs ≤ s.clock) then .next (releaseClamp s true) else .next s

/-- CLAMP_HOLD_STAGE3_END (R333): 3 ms after the warm reset began, when stage 3 is entered. -/
def execClampHoldStage3End (s : State) : Res :=
  if s.lsw.clamp && s.pwr.s3 && decide (s.lsw.clampAt + 3 * msNs ≤ s.clock) then .next (releaseClamp s false)
  else .next s

/-- LOCKSTEP_MISMATCH (R31): of PE, or of SE. -/
def execLockstepMismatch (se : Bool) (s : State) : Res :=
  if !s.outOfReset then .next s
  else if se then .next (if s.eng.seLs then s else lockstepSe s)
  else .next (refreshBridge (lockstepPe (s.onDvt fun d => { d with healthy := false })))

/-- Area of Table 02.5 that an address of the non-volatile memory lies in: 0 slot A, 1 slot B, 2 records,
3 identity. -/
def nvmArea (addr : Word) : Nat :=
  if addr.toNat < 0x600000 then 0 else if addr.toNat < 0xC00000 then 1 else if addr.toNat < 0xE00000 then 2 else 3

/-- Bytes of one STATE position (Table 09.4). -/
def stateSize (two : Bool) : Nat := if two then 104 * 1024 else 52 * 1024

/-- A record position with an uncorrectable error fails its digest (R35). -/
def spoilRecord (s : State) (addr : Word) : State :=
  let a := addr.toNat
  let place := (a - 0xDE0000) / 256
  let s1 := s.onThm fun t =>
    { t with tills := t.tills.map fun r =>
        if 0xDE0000 ≤ a && r.pos == place / 2 then
          { r with bad := r.bad ||| BitVec.ofNat 2 (if place % 2 = 0 then 1 else 2) } else r }
  s1.onEst fun e =>
    { e with
      recState := e.recState.map fun r =>
        if 0xC00000 + r.pos * stateSize r.two ≤ a && a < 0xC00000 + (r.pos + 1) * stateSize r.two then
          { r with valid := false } else r
      recCount := e.recCount.map fun r =>
        if 0xD60000 + r.pos * 1024 ≤ a && a < 0xD60000 + (r.pos + 1) * 1024 then { r with valid := false } else r }

/-- An uncorrectable error sets its bit of PWR_ECC_STATUS. -/
def setUe (s : State) (mem : EccMem) : State :=
  let now := s.clock
  s.onEng fun e => match mem with
    | .sram => { e with sramUe := true, ueFresh := e.ueFresh.add now (BitVec.ofNat 32 (2 ^ 24)) }
    | .tcm => { e with tcmUe := true, ueFresh := e.ueFresh.add now (BitVec.ofNat 32 (2 ^ 25)) }
    | .nvm => { e with nvmUe := true, ueFresh := e.ueFresh.add now (BitVec.ofNat 32 (2 ^ 26)) }

/-- A read that the code corrects (R32, R34): counted, and the word or line stands corrected. A line of the records or
identity area that needed 3 or 4 corrections is rewritten, once write-permit is present. -/
def correctRead (s : State) (mem : EccMem) (addr : Word) (n : Nat) : State :=
  let late := 3 ≤ n && 2 ≤ nvmArea addr && !s.writePermit
  s.onEng fun e => match mem with
    | .sram => { e with sramCe := bump 8 e.sramCe }
    | .tcm => { e with tcmCe := bump 8 e.tcmCe }
    | .nvm => { e with nvmCe := bump 8 e.nvmCe, rewriteDue := if late then addr.toNat / 64 :: e.rewriteDue else e.rewriteDue }

/-- ECC_UNCORRECTABLE (R32, R34, R35): `corrected` is the number of bits that the read needed corrected, 0 for an
uncorrectable error. -/
def execEccUncorrectable (mem : EccMem) (addr : Word) (reader : EngineId) (corrected : Nat) (s : State) : Res :=
  if !s.outOfReset then .next s
  else if corrected ≠ 0 then .next (correctRead s mem addr corrected)
  else
    let s0 := setUe (s.onEng fun e => { e with eccAddr := addr }) mem
    match mem with
    | .sram | .tcm => .next (watchdogExpiry (logEvent s0 0x8103 reader.idx.val) reader)
    | .nvm =>
      let s1 := logEvent s0 0x8104 (nvmArea addr)
      match nvmArea addr with
      | 0 => .next (s1.onImg fun i => { i with slotAErr := true })
      | 1 => .next (s1.onImg fun i => { i with slotBErr := true })
      | 2 => .next (spoilRecord s1 addr)
      | _ => .next s1

/-- SRAM_SCRUB_STEP (R33): one word of the 786,432. The manual gives no base of SRAM: PWR_ECC_ADDR takes the word's byte
offset in it, 8 times its index from 0. DESIGN CHOICE, log entry 42. -/
def execSramScrubStep (r : EccRead) (s : State) : Res :=
  if !s.outOfReset then .next s
  else
    let next (t : State) : State := t.onEng fun e => { e with scrubPtr := (e.scrubPtr + 1) % 786432 }
    let addr := BitVec.ofNat 32 (8 * s.eng.scrubPtr)
    match r with
    | .clean => .next (next s)
    | .single => .next (next (correctRead s .sram addr 1))
    | .double => .next (next (setUe (s.onEng fun e => { e with eccAddr := addr }) .sram))

/-- PLINTH_FREQ_MEASURE (R37): by HE, while it runs. -/
def execPlinthFreqMeasure (hz : Nat) (s : State) : Res :=
  if s.eng.state[EngineId.he.idx] == .running then .next (s.onEng fun e => { e with plinthHz := some hz })
  else .next s

end Sys2Proof.Machine
end

