-- ==== Sys2Proof/Machine/Bridge.lean ====
section
/-! DEFINITION. The main bridge (spec/06): pulse units, kerf, gate-link status, leg states, off-state
diagnostics, takeover hold, bypass outputs and jig mode. Rows 62 to 67, 69 to 77 and 213 to 215. -/

set_option Elab.async false

namespace Sys2Proof.Machine

/-! ### Pulse units -/

/-- The RISE code of an output that is active for the whole period (R121). -/
def riseAll : Nat := 0xFFFFFFFF

/-- Cause for which a set is incoherent (R123), 0 for a coherent one. -/
def setCause (u : PulseUnit) : Nat :=
  if u.shPeriod < 10000 || 20000000 < u.shPeriod then 1
  else if u.shPeriod ≤ u.shRise && u.shRise != riseAll then 2
  else if u.shPeriod ≤ u.shFall then 3
  else if u.shFall < u.shRise && u.shRise != riseAll then 4
  else if u.stale then 5
  else 0

/-- The shadow set as it is committed now. -/
def shadowSet (u : PulseUnit) (now : Nat) : PwmSet := ⟨u.shPeriod, u.shRise, u.shFall, u.shApply, now⟩

/-- Output of a set at offset x (R121). -/
def setActive (p : PwmSet) (x : Nat) : Bool := p.rise == riseAll || (decide (p.rise ≤ x) && decide (x < p.fall))

/-- R124: an interval shorter than MIN_PULSE is not produced; the special codes are never adjusted. -/
def minPulseSet (minP : Nat) (p : PwmSet) : PwmSet :=
  if p.rise == riseAll || p.rise == p.fall then p
  else if p.fall - p.rise < minP then { p with fall := p.rise }
  else if p.period - (p.fall - p.rise) < minP then { p with rise := riseAll, fall := 0 }
  else p

/-- Apply time at or before the instant, in 32-bit serial arithmetic (R122). -/
def serialLe (apply t : Nat) : Bool := decide ((t + 2 ^ 32 - apply % 2 ^ 32) % 2 ^ 32 < 2 ^ 31)

/-- A waiting set is eligible at a reload at Spline time t: its apply time has come and it was committed in
an earlier clock (R122). -/
def eligible (t now : Nat) (p : PwmSet) : Bool := serialLe p.apply t && decide (p.committedAt < now)

/-- Rejection of a set (R123, R126). -/
def rejectSet (s : State) (l : Leg) (cause : Nat) : State :=
  let now := s.clock
  let s1 := s.onUnit l fun u => { u with reject := true, cause := cause, stale := false, rejectAt := some now }
  logEvent (s1.onPwm fun p => { p with cntReject := bump 8 p.cntReject }) 0x1301 l.num cause

/-- COMMIT of the shadow set of a leg: it waits in the queue of two, where a newer set takes the place of
the older waiting one (R122, R123). A commit in the clock of a reload counts as late. -/
def commitSet (s : State) (l : Leg) : State :=
  let u := s.unit l
  let now := s.clock
  if setCause u ≠ 0 then rejectSet s l (setCause u)
  else
    let s1 := if 2 ≤ u.queue.length then dcqFull s (8 + l.num) else s
    s1.onUnit l fun u =>
      { u with
        stale := false
        queue := shadowSet u now :: u.queue.take 1
        lateCommit := if u.reloadClk == some now then bump 16 u.lateCommit else u.lateCommit }

/-- A reload of a unit in the present clock: the sets committed in this clock are late (R122). -/
def noteReload (s : State) (l : Leg) : State :=
  let now := s.clock
  s.onUnit l fun u =>
    { u with
      reloadClk := some now
      lateCommit := if u.queue.any fun p => p.committedAt == now then bump 16 u.lateCommit else u.lateCommit }

/-- The output of a leg moves to a state at Spline time t: a change starts a kerf, and cancels one that
runs (R127). -/
def moveOutput (kerf t : Nat) (act : Bool) (u : PulseUnit) : PulseUnit :=
  if act == u.active then u else { u with active := act, kerfUntil := some (t + kerf, !act) }

/-- REPLACE commit (R126): the set takes the place of the one in force for the rest of the period. -/
def replaceSet (s : State) (l : Leg) : State :=
  let u := s.unit l
  let now := s.clock
  let t := s.tim.time
  match u.cur with
  | none => rejectSet s l 6
  | some c =>
    if setCause u ≠ 0 then rejectSet s l (setCause u)
    else if u.shPeriod ≠ c.period then rejectSet s l 6
    else
      let p := minPulseSet s.im.minPulse (shadowSet u now)
      s.onUnit l fun u =>
        { moveOutput (s.kerf l) t (setActive p (t - u.t0)) u with
          cur := some p
          stale := false
          minPulse := if p == shadowSet u now then u.minPulse else bump 8 u.minPulse }

/-- A leg that waits for its unit leaves HIGH_Z at this reload, on the switch its set gives, without kerf
(R125, R138, R271). -/
def legLeaves (s : State) (l : Leg) : State :=
  if (s.leg l).wait then
    (s.onLeg l fun r => { r with wait := false, st := .running, cause := 0, faultSw := 0 }).onUnit l
      fun u => { u with kerfUntil := none }
  else s

/-- A set takes effect at a period start at Spline time t. -/
def takeSet (s : State) (l : Leg) (t : Nat) (p : PwmSet) (rest : List PwmSet) : State :=
  let q := minPulseSet s.im.minPulse p
  s.onUnit l fun u =>
    { moveOutput (s.kerf l) t (setActive q 0) u with
      cur := some q
      queue := rest
      t0 := t
      running := true
      minPulse := if q == p then u.minPulse else bump 8 u.minPulse }

/-- The newest eligible set and the sets newer than it, which keep waiting. -/
def pickSet (t now : Nat) : List PwmSet → Option (PwmSet × List PwmSet)
  | [] => none
  | p :: ps =>
    if eligible t now p then some (p, [])
    else match pickSet t now ps with
      | none => none
      | some (q, rest) => some (q, p :: rest)

/-- PWM_COMMIT (R123): by ME, while it runs. -/
def execPwmCommit (leg : Leg) (s : State) : Res :=
  if s.eng.state[EngineId.me.idx] == .running then .next (commitSet s leg) else .next s

/-- PWM_REPLACE_COMMIT (R126). -/
def execPwmReplaceCommit (leg : Leg) (s : State) : Res :=
  if s.eng.state[EngineId.me.idx] == .running then .next (refreshBridge (replaceSet s leg)) else .next s

/-- First reload time of a leg (PWM_x_START). -/
def startTime (u : PulseUnit) : Nat := u.startHi.toNat * 2 ^ 32 + u.startLo.toNat

/-- PULSE_UNIT_START (R125): from rest, at the instant that START names. -/
def execPulseUnitStart (leg : Leg) (s : State) : Res :=
  let u := s.unit leg
  let t := startTime u
  if u.running || !u.startArmed || s.tim.time < t then .next s
  else
    let s0 := noteReload s leg
    match pickSet t s.clock u.queue with
    | none =>
      let now := s.clock
      .next (logEvent (s0.onUnit leg fun u => { u with nostart := true, startArmed := false, nostartAt := some now }) 0x1302
        leg.num)
    | some (p, rest) =>
      let s1 := takeSet (s0.onUnit leg fun u => { u with startArmed := false, active := false, kerfUntil := none }) leg t p rest
      let s2 := s1.onUnit leg fun u => { u with kerfUntil := none }
      .next (refreshBridge (legLeaves s2 leg))

/-- PULSE_RELOAD (R122): at the end of the period in force. -/
def execPulseReload (leg : Leg) (s : State) : Res :=
  let u := s.unit leg
  match u.cur with
  | none => .next s
  | some c =>
    let t := u.t0 + c.period
    if !u.running || s.tim.time < t then .next s
    else
      let s0 := noteReload s leg
      let s1 := match pickSet t s.clock u.queue with
        | some (p, rest) => takeSet s0 leg t p rest
        | none =>
          let r := s0.onUnit leg fun u => { moveOutput (s.kerf leg) t (setActive c 0) u with t0 := t }
          r.onPwm fun p => { p with cntRepeat := bump 8 p.cntRepeat }
      .next (refreshBridge (legLeaves s1 leg))

/-- PULSE_COMPARE_EDGE (R121, R127): the output takes the state of the present offset; a change turns the on
switch off and starts the kerf. -/
def execPulseCompareEdge (leg : Leg) (s : State) : Res :=
  let u := s.unit leg
  match u.cur with
  | none => .next s
  | some c =>
    if !u.running then .next s
    else
      let t := s.tim.time
      .next (refreshWords (s.onUnit leg fun u => moveOutput (s.kerf leg) t (setActive c (t - u.t0)) u))

/-- KERF_TURN_ON (R127): the kerf is over, and the complementary switch turns on. -/
def execKerfTurnOn (leg : Leg) (s : State) : Res :=
  match (s.unit leg).kerfUntil with
  | none => .next s
  | some (t, _) =>
    if t ≤ s.tim.time then .next (refreshWords (s.onUnit leg fun u => { u with kerfUntil := none })) else .next s

/-! ### From a level to edges (spec/05 R103) -/

/-- RISE and FALL of a leg at level a, in Q16, for a period of length len (R103). -/
def edges (len : Nat) (a : Int) : Nat × Nat :=
  if a ≤ 0 then (len / 2, len / 2)
  else if 65536 ≤ a then (riseAll, 0)
  else ((len * (65536 - a.toNat)) / 2 ^ 17, (len * (65536 + a.toNat)) / 2 ^ 17)

/-- ME writes the shadow set of a leg: PERIOD, then both compares, then the apply time. -/
def writeShadow (s : State) (l : Leg) (period rise fall apply : Nat) : State :=
  s.onUnit l fun u =>
    { u with shPeriod := period, shRise := rise, shFall := fall, shApply := apply % 2 ^ 32, stale := false }

/-! ### Faults of gate links and legs -/

/-- Park the leg of a fault, or bypass the cell, on the token holder (R139). `linkOk`: the parking switch's
flags and last loop result allow it. -/
def parkAllowed (s : State) (l : Leg) : Bool :=
  let k := s.glk.links[l.parkLink]
  s.im.parkEnable == 1
    && (s.leg l.other).st == .running && (s.leg l.other).faultSw == 0
    && s.arm.cell != .degradedHb
    && !(BitVec.ofNat 2 (s.leg l).faultSw).getLsbD (if linkUpper l.parkLink then 0 else 1)
    && !k.lost && !k.frame.getLsbD 11 && !k.frame.getLsbD 10 && !k.frame.getLsbD 9
    && (k.test &&& 3) == 0

/-- Level of the running leg of a half-bridge: d clamped to 0..D_MAX (R140). -/
def State.halfLevel (s : State) : Int := clampI (s.arm.duty.getD 0) 0 s.im.dMax

/-- The switches of leg l have moved from one state to another in this clock, or have not: a move runs its kerf, and
without one the kerf that ran before goes on (R127). -/
def kerfAfter (s0 s : State) (l : Leg) : State :=
  let t := s.tim.time + s.kerf l
  let k := if s.lowerOn l == s0.lowerOn l then (s0.unit l).kerfUntil else some (t, !(s.unit l).active)
  s.onUnit l fun u => { u with kerfUntil := k }

/-- Leg l is parked on its parking switch, and the other leg takes the whole insertion by a set that replaces the one in
force (R139, R140, R126). -/
def parkLeg (s : State) (l : Leg) : State :=
  let o := l.other
  let s1 := (s.onLeg l fun r => { r with st := .parked, parkMark := true, parkUpper := linkUpper l.parkLink }).onGlk
    fun g => { g with bInvert := o == .b }
  let s2 := logEvent s1 0x1206 l.num (l.parkLink.val + 1)
  match (s.unit o).cur with
  | none => s2
  | some c =>
    let e := edges c.period s.halfLevel
    kerfAfter s (replaceSet (writeShadow s2 o c.period e.1 e.2 c.apply) o) o

/-- The clock since which PE's decision on a leg is due, if one is (R139). -/
def State.parkDue (s : State) : Leg → Option Nat
  | .a => s.prt.parkDueA
  | .b => s.prt.parkDueB

/-- PE's decision on a leg is due since a clock, or no longer. -/
def setParkDue (s : State) (l : Leg) (t : Option Nat) : State :=
  match l with
  | .a => s.onPrt fun p => { p with parkDueA := t }
  | .b => s.onPrt fun p => { p with parkDueB := t }

/-- PE's decision on a leg that is in HIGH_Z since a clock (R139): a bypass at once, a parking not before one kerf has
passed, until when the decision stays due. -/
def parkOrBypass (s : State) (l : Leg) (since : Nat) (src : Nat := 0x10) (entry : Option Nat := none) : State :=
  let s1 := setParkDue s l none
  if !s.arm.owner || s.arm.bypassed || (s.leg l).st != .hiZ then s1
  else if parkAllowed s l then
    if since + s.kerf l ≤ s.clock then refreshBridge (parkLeg s1 l) else setParkDue s l (some since)
  else decideBypass s1 src entry

/-- R137: the leg of a faulty switch goes to HIGH_Z at once; PE decides within 50 µs (R139). -/
def legFault (s : State) (i : Fin 4) (cause : Nat) : State :=
  let l := linkLeg i
  let now := s.clock
  let s1 := (setHiZ s l cause).onLeg l fun r =>
    { r with faultSw := (BitVec.ofNat 2 r.faultSw ||| (if linkUpper i then 1#2 else 2#2)).toNat }
  refreshBridge (raiseHeld (logEvent (setParkDue s1 l (some now)) 0x1205 l.num cause) 0x10)

/-- R137 and R140: whether a cause on a link is acted on, by the state of its leg. `echoOn`: the cause is an
echo of 1. -/
def State.actsOn (s : State) (i : Fin 4) (echoOn : Bool) : Bool :=
  let l := linkLeg i
  s.arm.owner && (match (s.leg l).st with
    | .running => true
    | .hiZ => false
    | .parked => i == l.parkLink || echoOn)

/-- CRC-4 of x^4 + x + 1 over the 16 data bits of a status frame, most significant bit first (R134). -/
def crc4Step (r : BitVec 4) (b : Bool) : BitVec 4 :=
  let top := r.getLsbD 3 != b
  if top then (r <<< 1) ^^^ 3#4 else r <<< 1

/-- The check of a status frame (R134). -/
def crc4 (bits : BitVec 16) : BitVec 4 :=
  (List.range 16).foldl (fun r k => crc4Step r (bits.getLsbD (15 - k))) 0#4

/-- ECHO of a status frame. -/
def echoOf (bits : BitVec 16) : Nat := (bits >>> 13).toNat

/-- The echo that R135 expects for the word being sent; for HOLD, the state that was held. -/
def echoOk (r : LinkRec) (echo : Nat) : Bool :=
  match r.word with
  | .on => echo == 1
  | .off => echo == 0 || echo == 3 || echo == 4 || echo == 5
  | .test => echo == 2
  | .hold => if r.heldOn then echo == 1 else echo == 0 || echo == 3 || echo == 4 || echo == 5
  | .silent | .track => true

/-- Flags of a link are set (GLK_FLAGS). -/
def setFlags (now : Nat) (b : BitVec 8) (r : LinkRec) : LinkRec :=
  { r with flags := r.flags ||| b, fresh := r.fresh.add now (b.setWidth 32) }

/-- What a valid frame records in the link (R134 to R136, R141): flags, the state of a switch that this member does not
command, which a takeover then holds, and the loop result of the first frame that begins 2 µs after the TEST words. That
frame is a result whatever its LOOP_VALID says: DESIGN CHOICE, log entry 45. -/
def recordFrame (s : State) (i : Fin 4) (bits : BitVec 16) : State :=
  let now := s.clock
  let afterTest := match s.glk.testOver with
    | none => false
    | some t => decide (t + 2 * usNs + 880 ≤ now)
  let fl : BitVec 8 :=
    (if bits.getLsbD 11 then 1#8 else 0#8) ||| (if bits.getLsbD 10 then 2#8 else 0#8)
      ||| (if bits.getLsbD 9 then 4#8 else 0#8) ||| (if bits.getLsbD 4 then 0x40#8 else 0#8)
  let res : BitVec 8 := ((bits >>> 6) &&& 3#16).truncate 8 ||| (if bits.getLsbD 8 then 4#8 else 0#8)
    ||| 8#8 ||| (if bits.getLsbD 5 && (bits >>> 6) &&& 3#16 == 0 then 0x10#8 else 0#8)
  s.onLink i fun r =>
    { setFlags now fl r with
      frame := bits
      age := some now
      lost := false
      heldOn := if r.word == .track || (r.word == .hold && decide (now < r.wordAt + 2000)) then echoOf bits == 1 else r.heldOn
      test := if afterTest && !r.test.getLsbD 3 then res else r.test }

/-- End of the HOLD words of a leg (R142): where its own state differs from the held one, the held-on switch
goes off first and the other comes on one kerf later; after an echo match nothing differs. Reason 0 echo match,
1 timeout. -/
def endHold (s : State) (l : Leg) (reason : Nat) : State :=
  let held := match l with
    | .a => s.glk.holdA
    | .b => s.glk.holdB
  if !held then s
  else
    let t := s.tim.time + s.kerf l
    let differs := reason != 0 &&
      (s.glk.links[l.lower].heldOn != s.lowerOn l || s.glk.links[l.upper].heldOn == s.lowerOn l)
    let s1 := s.onGlk fun g => match l with
      | .a => { g with holdA := false }
      | .b => { g with holdB := false }
    let s2 := if differs then s1.onUnit l fun u => { u with kerfUntil := some (t, !u.active) } else s1
    logEvent s2 0x120A (l.upper.val + 1) reason

/-- Valid frames on both links of leg l show the states its own pulse unit gives (R142). -/
def State.holdMatches (s : State) (l : Leg) : Bool :=
  let ok (i : Fin 4) (on : Bool) : Bool :=
    !s.glk.links[i].lost && s.glk.links[i].age.isSome && (echoOf s.glk.links[i].frame == 1) == on
  (s.unit l).kerfUntil.isNone && ok l.lower (s.lowerOn l) && ok l.upper (!s.lowerOn l)

/-- While the dovetail link is down: the owner yields once two or more links follow the partner's input, the
tracking member takes the token once two or more report off after loss (R285). -/
def watchLinks (s : State) : State :=
  if s.simplex || s.dvt.up || s.chainPair then s
  else
    let valid (i : Fin 4) : Bool := s.glk.links[i].age.isSome && !s.glk.links[i].lost
    let partner := ((List.finRange 4).filter fun i => valid i && s.glk.links[i].frame.getLsbD 12 != s.dev.member).length
    let lostN := ((List.finRange 4).filter fun i => valid i && echoOf s.glk.links[i].frame == 3).length
    if s.arm.owner && 2 ≤ partner then
      logEvent ((dropToken s .linkDown).onDvt fun d => { d with yielded := true }) 0xD006 partner
    else if !s.arm.owner && s.dvt.st == .linkDown && !s.arm.roleClash && s.dvt.healthy && 2 ≤ lostN then
      let s1 := bothHiZ s 0 false
      let s2 := takeOver (s1.onDvt fun d => { d with mirror := none }) 0
      s2.onArm fun a => { a with diag := .pending, resetBlock := true }
    else s

/-- The causes of R137 that a valid frame shows, in the order in which one of them becomes the leg's cause: GLK_LEG_STATE
cause, event of Table 06.10 and its detail. `was` is the frame before it, whose causes are not new. -/
def frameCauses (bits was : BitVec 16) (mism : Bool) (link : Fin 4) : List (Nat × Nat × Nat × Nat) :=
  let rise (k : Nat) : Bool := bits.getLsbD k && !was.getLsbD k
  (if rise 11 then [(1, 0x1203, link.val + 1, 0)] else []) ++ (if rise 10 then [(1, 0x1203, link.val + 1, 1)] else [])
    ++ (if rise 9 then [(4, 0x1204, link.val + 1, 0)] else [])
    ++ (if mism then [(2, 0x1201, link.val + 1, echoOf bits)] else [])

/-- The events of causes. -/
def logCauses (s : State) (cs : List (Nat × Nat × Nat × Nat)) : State :=
  cs.foldl (fun t c => logEvent t c.2.1 c.2.2.1 c.2.2.2) s

/-- A cause of R137 on a leg that is in HIGH_Z already: its switch and, where there is none yet, its cause are recorded,
and a jig pulse on the leg ends with its mode (R145). -/
def faultAtRest (s : State) (i : Fin 4) (cs : List (Nat × Nat × Nat × Nat)) : State :=
  match cs with
  | [] => s
  | c :: _ =>
    let l := linkLeg i
    let s1 := (logCauses s cs).onLeg l fun r =>
      { r with
        cause := if r.cause = 0 then c.1 else r.cause
        faultSw := (BitVec.ofNat 2 r.faultSw ||| (if linkUpper i then 1#2 else 2#2)).toNat }
    match s.glk.jig with
    | none => s1
    | some j => if (if j.sw ≤ 2 then Leg.a else .b) == l then endJig s1 else s1

/-- GL_STATUS_FRAME_RX (R134 to R137): a frame that fails its check is counted and discarded. -/
def execGlStatusFrameRx (link : Fin 4) (bits : BitVec 16) (check : BitVec 4) (s : State) : Res :=
  if !s.outOfReset then .next s
  else if check != crc4 bits then
    let now := s.clock
    .next (s.onLink link fun r => { setFlags now 0x20 r with cnt := bump 8 r.cnt })
  else
    let r := s.glk.links[link]
    let echo := echoOf bits
    let s1 := recordFrame s link bits
    let compared := s.arm.owner && decide (r.wordAt + 2000 ≤ s.clock)
    let mism := compared && !echoOk r echo
    let now := s.clock
    let s2 := if mism then s1.onLink link (setFlags now 8) else s1
    let l := linkLeg link
    let was : BitVec 16 := if (s.leg l).st == .hiZ && r.age.isSome then r.frame else 0
    let isNew := mism && !((s.leg l).st == .hiZ && r.flags.getLsbD 3)
    let all := frameCauses bits was isNew link
    let cs := if (s.leg l).st == .parked && link != l.parkLink then all.filter (·.1 == 2) else all
    let s3 :=
      if s.actsOn link (mism && echo == 1) then
        match cs with
        | [] => s2
        | c :: _ => legFault (logCauses s2 cs) link c.1
      else if s.arm.owner && (s.leg l).st == .hiZ then faultAtRest s2 link cs
      else s2
    let s4 := if s3.holdMatches l then endHold s3 l 0 else s3
    .next (refreshBridge (watchLinks s4))

/-- GL_STATUS_LOST (R136): no valid frame for 3 µs. -/
def execGlStatusLost (link : Fin 4) (s : State) : Res :=
  let r := s.glk.links[link]
  let silent := match r.age with
    | none => true
    | some t => decide (t + 3 * usNs ≤ s.clock)
  if !s.glActive || r.lost || !silent then .next s
  else
    let now := s.clock
    let s1 := logEvent (s.onLink link fun r => { setFlags now 0x10 r with lost := true }) 0x1202 (link.val + 1)
    if s.actsOn link false then .next (legFault s1 link 3)
    else if s.arm.owner && (s.leg (linkLeg link)).st == .hiZ then
      .next (refreshBridge (faultAtRest s1 link [(3, 0x1202, link.val + 1, 0)]))
    else .next (refreshBridge s1)

/-! ### Bypass outputs -/

/-- The positive line of BYP_FIRE: none at high impedance; while it fires, high in the first 500 ns of each microsecond of
Spline time (R143, 17 R381). -/
def State.firePin (s : State) : Option Bool :=
  if s.glk.firing then some (decide (s.tim.time % usNs < 500)) else none

/-- FIRE_DELAY_EXPIRY (R275). -/
def execFireDelayExpiry (s : State) : Res :=
  if due s.clock s.glk.fireDue && (s.glk.fireAll || s.glk.fireHold) then
    .next (logEvent (s.onGlk fun g => { g with firing := true, fireDue := none }) 0x1208 s.prt.bypSource)
  else .next s

/-- BYP_STAT_CLOSED (R143, R144): the firing that waits for the switch ends. -/
def execBypStatClosed (s : State) : Res :=
  .next (refreshBridge ((s.onDev fun d => { d with bypStatLow := true }).onGlk fun g =>
    { g with statClosed := true, fireHold := false, closeDue := none }))

/-- BYP_CLOSE_TIMEOUT (R144): the fault is logged and raised as source 0x12; firing goes on. -/
def execBypCloseTimeout (s : State) : Res :=
  if due s.clock s.glk.closeDue && !s.glk.statClosed then
    let s1 := s.onGlk fun g => { g with closeDue := none, fireHold := true }
    .next (refreshBridge (raiseEvent (logEvent s1 0x1209 s.im.bypCloseTimeout) 0x12))
  else .next s

/-! ### Off-state diagnostics (R141, R19, R271) -/

/-- The longer kerf of the two legs, ns. -/
def State.kerfMax (s : State) : Nat := max (s.kerf .a) (s.kerf .b)

/-- A run of the diagnostics is called for: after a block, at first readiness, or before a RUN. -/
def State.diagDue (s : State) : Bool :=
  s.arm.diag == .pending || s.arm.diag == .failed
    || (s.arm.diag == .none && s.capOk && s.chainOk)
    || (!s.arm.mode.inserts && (s.arm.nextMode.map fun x => x.1.inserts).getD false)

/-- A run is called for, or asked for by GATE_TEST. -/
def State.diagWanted (s : State) : Bool :=
  s.diagDue || s.mnt.acts.toList.any fun a => match a with
    | none => false
    | some v => v.code == .gateTest && v.answered == 0

/-- OFF_STATE_DIAG_START (R141): once both legs have been HIGH_Z, their links at OFF (or TRACK), for one
kerf; not while a reaction, a bypass or a role clash holds them (R16, R271). The run of a cell that a block holds is that
of its BLOCK-to-RUN transition (R118). -/
def execOffStateDiagStart (s : State) : Res :=
  let quiet := (List.finRange 4).all fun i =>
    (s.glk.links[i].word == .off || s.glk.links[i].word == .track) && decide (s.glk.links[i].wordAt + s.kerfMax ≤ s.clock)
  if s.dev.phase == .ready && !s.chainPair && !s.arm.bypassed && s.glk.testUntil.isNone && s.glk.testOver.isNone
      && (s.leg .a).st == .hiZ && (s.leg .b).st == .hiZ && quiet && !s.hardOff .a && !s.hardOff .b && s.diagWanted then
    let t := s.clock + usNs * s.im.testWindow
    let b2r := s.diagDue && (s.arm.blk || s.arm.cell == .blocked)
    let s1 := s.onArm fun a => { a with diag := if a.diag == .passed then .passed else .running }
    .next (refreshBridge (s1.onGlk fun g =>
      { g with
        testUntil := some t
        testLegs := 3
        testRetest := false
        testB2R := b2r
        links := g.links.map fun r => { r with test := 0 } }))
  else .next s

/-- TEST_WINDOW_EXPIRY (R141): OFF words follow the TEST words. -/
def execTestWindowExpiry (s : State) : Res :=
  if due s.clock s.glk.testUntil then
    let now := s.clock
    .next (refreshBridge (s.onGlk fun g => { g with testUntil := none, testOver := some now }))
  else .next s

/-- A leg passes R141: both switches pass and, while V_CAP is at least TEST_VMIN, one of them blocks. -/
def State.legPasses (s : State) (l : Leg) : Bool :=
  let u := s.glk.links[l.upper].test
  let d := s.glk.links[l.lower].test
  let charged := match s.vCapMv with
    | none => false
    | some v => s.im.testVmin != 0 && decide (s.im.testVmin ≤ v)
  u.getLsbD 4 && d.getLsbD 4 && (!charged || u.getLsbD 2 || d.getLsbD 2)

/-- Event 0x1207 for a leg that fails: its first failing switch, the lower one where both pass and neither blocks, with
LOOP in bits 1:0 and BLOCKING in bit 2. DESIGN CHOICE: Table 06.10 gives no packing; log entry 45. -/
def logLegFail (s : State) (l : Leg) : State :=
  let i := if s.glk.links[l.upper].test.getLsbD 4 then l.lower else l.upper
  logEvent s 0x1207 (i.val + 1) (s.glk.links[i].test &&& 7#8).toNat

/-- The results of a test in GLK_TEST: switch passed and leg passed. -/
def markTest (s : State) (l : Leg) (pass : Bool) : State :=
  let f (r : LinkRec) : LinkRec := { r with test := if pass then r.test ||| 0x20#8 else r.test }
  (s.onLink l.upper f).onLink l.lower f

/-- A leg that failed may be parked again at the next RUN (R19, R139), with the other as running leg. -/
def State.parkAgain (s : State) (l : Leg) (otherPass : Bool) : Bool :=
  let k := s.glk.links[l.parkLink]
  s.im.parkEnable == 1 && otherPass && k.test.getLsbD 4
    && !(BitVec.ofNat 2 (s.leg l).faultSw).getLsbD (if linkUpper l.parkLink then 0 else 1)
    && !k.lost && !k.frame.getLsbD 11 && !k.frame.getLsbD 10 && !k.frame.getLsbD 9

/-- A floor that bypasses acts on the token holder alone (R280). -/
def floorBypass (s : State) (src : Nat) : State := if s.arm.owner then decideBypass s src none else s

/-- The results that a GATE_TEST activity waits for are in GLK_TEST. -/
def answerGateTest (s : State) : State :=
  s.onMnt fun t => { t with acts := t.acts.map fun a => match a with
    | none => none
    | some v => if v.code == .gateTest then some { v with answered := 1 } else some v }

/-- The results of a test are there: a frame of every link under test has been read, or the 1 ms within which the whole
test ends has passed. -/
def State.testRead (s : State) : Bool :=
  match s.glk.testOver with
  | none => false
  | some t => decide (t + msNs ≤ s.clock + usNs * s.im.testWindow)
    || (decide (t + 2 * usNs ≤ s.clock) && (List.finRange 4).all fun i =>
      !(BitVec.ofNat 2 s.glk.testLegs).getLsbD (linkLeg i).num || s.glk.links[i].test.getLsbD 3)

/-- A leg counts as passed: it passes R141, or it carries the park mark in a run that is not a BLOCK-to-RUN one (R394,
R109). -/
def State.legCounts (s : State) (l : Leg) : Bool := s.legPasses l || (!s.glk.testB2R && (s.leg l).parkMark)

/-- OFF_STATE_DIAG_COMPLETE (R141, R19, Table 11.5 source 0x11). -/
def execOffStateDiagComplete (s : State) : Res :=
  if !s.testRead || s.glk.testRetest then .next s
  else
    let pa := s.legCounts .a
    let pb := s.legCounts .b
    let s0 := answerGateTest (s.onGlk fun g => { g with testOver := none, testLegs := 0 })
    let s1 := markTest (markTest s0 .a pa) .b pb
    let s2 := if pa then s1 else logLegFail s1 .a
    let s3 := if pb then s2 else logLegFail s2 .b
    let s4 := s3.onArm fun a => { a with diagA := pa, diagB := pb }
    let clear (r : LegRec) : LegRec :=
      if s.glk.testB2R || !r.parkMark then { r with parkMark := false, cause := 0, faultSw := 0 } else r
    let good (t : State) : State := t.onArm fun a => { a with diag := .passed, diagFails := 0, resetBlock := false, blk := false }
    if pa && pb then
      .next (refreshBridge (good ((s4.onLeg .a clear).onLeg .b clear)))
    else if pa || pb then
      let l : Leg := if pa then .b else .a
      let s5 := raiseEvent ((s4.onLeg l fun r => { r with cause := 5 }).onLeg l.other clear) 0x11
      if s4.parkAgain l true then
        .next (refreshBridge (good (s5.onLeg l fun r => { r with parkMark := true, parkUpper := linkUpper l.parkLink })))
      else .next (refreshBridge (floorBypass (s5.onArm fun a => { a with diag := .failed }) 0x11))
    else
      let s5 := raiseEvent ((s4.onLeg .a fun r => { r with cause := 5 }).onLeg .b fun r => { r with cause := 5 }) 0x11
      let s6 := s5.onArm fun a =>
        { a with diag := .failed, diagFails := sat 4 (a.diagFails + 1), blk := a.blk || a.cell == .blocked }
      .next (refreshBridge (if s.im.diagRetries ≤ s6.arm.diagFails then floorBypass s6 0x11 else s6))

/-- The two-switch test of a released leg starts (R271). -/
def startRetest (s : State) (l : Leg) : State :=
  let t := s.clock + usNs * s.im.testWindow
  let f (r : LinkRec) : LinkRec := { r with test := 0 }
  refreshBridge (((s.onLink l.upper f).onLink l.lower f).onGlk fun g =>
    { g with testUntil := some t, testOver := none, testLegs := 2 ^ l.num, testRetest := true })

/-- LEG_RETEST_COMPLETE (R271): the leg returns at its unit's next reload, or stays HIGH_Z and PE decides. -/
def execLegRetestComplete (s : State) : Res :=
  if !s.testRead || !s.glk.testRetest then .next s
  else
    let l : Leg := if s.glk.testLegs == 1 then .a else .b
    let pass := s.legPasses l
    let s0 := s.onGlk fun g => { g with testOver := none, testLegs := 0, testRetest := false }
    let s1 := markTest s0 l pass
    if pass then .next (refreshBridge (s1.onLeg l fun r => { r with wait := true, cause := 0, faultSw := 0 }))
    else
      let s2 := logLegFail (s1.onLeg l fun r => { r with cause := 5 }) l
      .next (refreshBridge (parkOrBypass s2 l 0))

/-! ### Release of a reaction (R271) -/

/-- The diagnostics run for a cell that a reaction has held (R271): BLOCKED until they pass. -/
def diagAfterRelease (s : State) : State :=
  if s.arm.bypassed then s else s.onArm fun a => { a with diag := .pending, blk := true }

/-- The HIGH_Z of leg l by a reaction ends (R271): a test of that leg while the other runs, else the off-state
diagnostics. -/
def releaseLeg (s : State) (l : Leg) : State :=
  if (s.leg l).st != .hiZ || s.arm.bypassed then s
  else if (s.leg l.other).st == .running then startRetest s l
  else diagAfterRelease s

/-- Entry e releases (R271): its actions end unless another latched entry holds them; event 0x1014. -/
def releaseEntry (s : State) (e : Fin 64) : State :=
  if !s.prt.entries[e].latched then s
  else
    let old := s.immediate
    let s1 := logEvent (s.onPrt fun p =>
      { p with entries := p.entries.set e { p.entries[e] with latched := false, inactSince := none } }) 0x1014 e.val
    let ended (k : Nat) : Bool := old.getLsbD k && !s1.immediate.getLsbD k
    let s2 := refreshBridge s1
    let s3 := if ended 0 then diagAfterRelease s2 else s2
    let s4 := if ended 1 && !s1.immediate.getLsbD 0 then releaseLeg s3 .a else s3
    refreshBridge (if ended 2 && !s1.immediate.getLsbD 0 then releaseLeg s4 .b else s4)

/-- Entries with RECOVER 2 release at a BLOCK-to-RUN transition, once their source is inactive. -/
def releaseAtRun (s : State) : State :=
  (List.finRange 64).foldl (fun t e =>
    if (t.reaction e).recover = 2 && !t.sourceActive (t.reaction e).source then releaseEntry t e else t) s

/-! ### Takeover hold and jig mode -/

/-- TAKE_HOLD_TIMEOUT (R142). -/
def execTakeHoldTimeout (s : State) : Res :=
  if due s.clock s.glk.takeUntil then
    .next (refreshBridge ((endHold (endHold s .a 1) .b 1).onGlk fun g => { g with takeUntil := none }))
  else .next s

/-- A jig activity is admitted (R145). -/
def State.jigActive (s : State) : Bool :=
  s.mnt.acts.toList.any fun a => match a with
    | none => false
    | some v => v.code == .jig

/-- GLK_JIG_CTRL with GO = 1 (R145). -/
def opJigGo (sw : Nat) (s : State) : RegRes :=
  if !s.jigActive || s.arm.mode != .block || s.spl.urgLatch != .none then (s, 0x04)
  else if s.glk.jig.isSome || sw = 0 || 4 < sw then (s, 0x00)
  else
    let l : Leg := if sw ≤ 2 then .a else .b
    let w := s.glk.jigTime
    let j : JigRun :=
      { sw := sw
        start := s.clock + s.kerf l
        w1 := (w >>> 22).toNat
        gap := ((w >>> 12) &&& 0x3FF).toNat
        w2 := ((w >>> 2) &&& 0x3FF).toNat }
    (refreshWords (logEvent (s.onGlk fun g => { g with jig := some j }) 0x120B sw j.w1), 0x00)

/-- GLK_JIG_GO. -/
def execGlkJigGo (p : Requester) (sw : Nat) (s : State) : Res :=
  .next (regCmd s p fun s => withRight s p .configure 0x00050040 (opJigGo sw))

/-- JIG_PULSE_END (R145): at each edge of the pulse the words follow it, and at its last one it is over. -/
def execJigPulseEnd (s : State) : Res :=
  match s.glk.jig with
  | none => .next s
  | some j =>
    let len := if j.w2 = 0 then j.w1 else j.w1 + j.gap + j.w2
    if j.start + usNs * len ≤ s.clock then .next (refreshWords (s.onGlk fun g => { g with jig := none }))
    else .next (refreshWords s)

end Sys2Proof.Machine
end

