-- ==== Sys2Proof/Machine/Chain.lean ====
section
/-! DEFINITION. The cascaded battery chain (spec/07): the current loop, staircase and trim, selection of
modules, parking, chain states and commands, connection, opening and learning. Rows 100 to 120. -/

set_option Elab.async false

namespace Sys2Proof.Machine

/-! ### Measurements and limits -/

/-- The thermal view of module m of chain c. -/
def State.tm (s : State) (c : ChainId) (m : Fin 32) : ThmMod :=
  match c with
  | .a => s.thm.modsA[m]
  | .b => s.thm.modsB[m]

/-- The chain voltage code of the newest sample. -/
def State.vCh (s : State) : ChainId → Option Nat
  | .a => s.meas.vChA
  | .b => s.meas.vChB

/-- Take a chain voltage sample. -/
def setVCh (s : State) (c : ChainId) (v : Option Nat) : State :=
  s.onMeas fun x => match c with
    | .a => { x with vChA := v }
    | .b => { x with vChB := v }

/-- VMOD of a module in mV. A module without a value has a free one. -/
def State.vmod (s : State) (c : ChainId) (m : Fin 32) : Nat :=
  2 * ((s.sen c).recs[m].vmod.getD (s.freeN m.val))

/-- The measured battery cells of a module (R224). -/
def State.measured (s : State) (c : ChainId) (m : Fin 32) : List (Fin 32) :=
  (List.finRange 32).filter fun k => decide (k.val < s.nCells) && !(s.sen c).recs[m].unmeasured.getLsbD k.val

/-- Sum of the voltages of the measured cells of a module, 100 µV; none when one has no value. -/
def State.measuredSum (s : State) (c : ChainId) (m : Fin 32) : Option Nat :=
  (s.measured c m).foldl
    (fun a x => match a, (s.sen c).recs[m].cells[x] with
      | some p, some q => some (p + q)
      | _, _ => none) (some 0)

/-- Configured cells of a module that are marked unmeasured. -/
def State.unmeasuredCount (s : State) (c : ChainId) (m : Fin 32) : Nat := s.nCells - (s.measured c m).length

/-- The voltage judged for a cell, 100 µV (R206, R230): its own, or for an unmeasured cell its part of the supervised sum VMOD
less the measured cells: half of it for a pair, all of it for the one cell of an end wire, equal parts where more wires are
suspected (log entry 48). -/
def State.cellV (s : State) (c : ChainId) (m k : Fin 32) : Option Int :=
  let r := (s.sen c).recs[m]
  if r.unmeasured.getLsbD k.val then
    match r.vmod, s.measuredSum c m with
    | some v, some o => some (tdiv ((20 * v : Int) - o) (max 1 (s.unmeasuredCount c m)))
    | _, _ => none
  else r.cells[k].map Int.ofNat

/-- Lowest and highest voltage judged for the cells of a module, mV; none when a cell has no value (R231). -/
def State.vRange (s : State) (c : ChainId) (m : Fin 32) : Option (Int × Int) :=
  let vs := ((List.finRange 32).filter fun k => decide (k.val < s.nCells)).map fun k => s.cellV c m k
  if vs.any Option.isNone then none
  else (vs.filterMap id).foldl (fun a x =>
    let v := tdiv x 10
    match a with
    | none => some (v, v)
    | some (l, h) => some (min l v, max h v)) none

/-- SOC_DIS_m, the lowest SoC of the measured cells (R224). -/
def State.socDis (s : State) (c : ChainId) (m : Fin 32) : Option Nat :=
  ((s.measured c m).map fun k => (s.es c).mods[m].cells[k].soc).foldl
    (fun a x => match a, x with
      | some p, some q => some (min p q)
      | none, q => q
      | p, none => p) none

/-- SOC_CHG_m, the highest SoC of the measured cells (R224). -/
def State.socChg (s : State) (c : ChainId) (m : Fin 32) : Option Nat :=
  ((s.measured c m).map fun k => (s.es c).mods[m].cells[k].soc).foldl
    (fun a x => match a, x with
      | some p, some q => some (max p q)
      | none, q => q
      | p, none => p) none

/-! ### Requests in force (R166, Table 07.4) -/

/-- Key under which a chain's own condition for a source stands in `prt.active`. -/
def chainKey (src : Nat) (c : ChainId) : Nat := src + 256 * (1 + c.num)

/-- A contactor coil of the chain is latched off or shed by its cluster (R294, R296). -/
def State.coilLost (s : State) (c : ChainId) : Bool :=
  (List.finRange 12).any fun n =>
    s.lswClass n == 1 && s.lswChain n == c && (s.lsw.ch[n].latched || s.lsw.ch[n].thermalOff)

/-- A request of rank 1 holds the chain (Table 07.4). -/
def State.rank1 (s : State) (c : ChainId) : Bool :=
  let a := s.prt.active
  s.pwr.s3 || s.arm.bypassed || s.hot c || s.cold c || s.coilLost c || (s.chain c).openReq
    || a.contains (chainKey 0x21 c) || a.contains (chainKey 0x24 c) || a.contains (chainKey 0x25 c)

/-- A chain block of the reaction table is in force on the chain. -/
def State.immBlock (s : State) (c : ChainId) : Bool :=
  match c with
  | .a => s.immediate.getLsbD 3
  | .b => s.immediate.getLsbD 4

/-- A structural glue-up holds the chains (Table 03.9). -/
def State.glueHolds (s : State) : Bool :=
  (s.img.structural && (s.img.glue == .confirmed || s.img.glue == .restarting)) || (s.spl.silent && !s.img.loadFail)

/-- A request of rank 2 holds the chain. -/
def State.rank2 (s : State) (c : ChainId) : Bool :=
  (s.chain c).blockReq || s.pwr.vauxLow || s.immBlock c || s.glueHolds || s.prt.active.contains (chainKey 0x23 c)

/-- A request of rank 1 to 3 holds the chain. -/
def State.ranked (s : State) (c : ChainId) : Bool := s.rank1 c || s.rank2 c || s.bypassAll

/-- Learning is paused: shedding stage 2 freezes it (R176), and a higher rank of Table 07.4 holds the chain, arm mode BLOCK
among them (R166). -/
def State.learnPaused (s : State) (c : ChainId) : Bool := s.pwr.s2 || s.ranked c || s.arm.mode == .block

/-- The learning cycle's square wave now, 10 mA: none while it is paused (R176). -/
def State.learnWave (s : State) (c : ChainId) : Int :=
  let ch := s.chain c
  if ch.learnOn && ch.st == .run && !s.learnPaused c then (if ch.learn.pos then (ch.learn.amp : Int) else -(ch.learn.amp : Int))
  else 0

/-- I_REF in force with the wave of a learning cycle (R176), in 10 mA / 20,000. -/
def State.refNow (s : State) (c : ChainId) : Int := (s.chain c).iRef.getD 0 + 20000 * s.learnWave c

/-! ### Limits and the reference (R155, R169, R397) -/

/-- The inductor factor of a chain (R255). -/
def State.indFactor (s : State) : ChainId → Nat
  | .a => s.thm.indA
  | .b => s.thm.indB

/-- The tightest of the limits of R155, before the halving of DERATE: the discharge limit, at least 0, and the
charge limit, at most 0. The inductor factor of R255 multiplies both. Without limits of EE, or with stale ones, both are 0 (R233). -/
def State.fullLimits (s : State) (c : ChainId) : Int × Int :=
  let ch := s.chain c
  let base : Int := if ch.overMs < 60000 then 15000 else 12000
  let anyLost := s.modIdx.any fun m => ch.mods[m].lost
  let d0 := max 0 (min (s.es c).limDis base)
  let c0 := min 0 (max (s.es c).limChg (-base))
  let f : Int := s.indFactor c
  let d1 := if ch.disSpan then 0 else tdiv (d0 * f) 1000
  let c1 := if ch.chgSpan || anyLost then 0 else tdiv (c0 * f) 1000
  if ch.limAt.isNone then (0, 0) else (d1, c1)

/-- The limits in force (R155): halved under DERATE, and clamped to ±A/2 during a learning cycle (R176). -/
def State.limits (s : State) (c : ChainId) : Int × Int :=
  let ch := s.chain c
  let l := s.fullLimits c
  let h := if ch.derate then (tdiv l.1 2, tdiv l.2 2) else l
  let half : Int := ch.learn.amp / 2
  if ch.learnOn then (min h.1 half, max h.2 (-half)) else h

/-- The target current I_T, 10 mA (R155, R169), clamped to the limits in force. A V_CAP code of 0 gives no
quotient: a free value, clamped like any other. -/
def State.target (s : State) (c : ChainId) : Int :=
  let l := s.limits c
  match s.meas.vCap with
  | none => 0
  | some v =>
    if s.arm.mode.inserts then
      clampI (if v = 0 then s.freeI 0 else tdiv (s.arm.pShare * 2000) v) l.2 l.1
    else if s.arm.mode == .energise then
      clampI (clampI (tdiv ((s.im.vEnergise : Int) - 50 * v) 100) (-1000) 1000) l.2 l.1
    else 0

/-- A step of I_REF towards a target by at most I_SLEW × 50 µs, in units of 10 mA / 20,000 (R155). -/
def slewTo (cur goal step : Int) : Int := clampI goal (cur - step) (cur + step)

/-- The limit of a drive of v_ch in progress, 10 mA (R397): I_PRE while connecting, 2 A in a weld test. -/
def State.driveLimit (s : State) (c : ChainId) : Option Nat :=
  match (s.chain c).seq with
  | .conNeg | .conPre | .conCharge | .conPos | .conPreOff => some (s.im.iPre c / 10)
  | .openTest1 => some 200
  | .none | .conDiag | .abortPre | .openPos | .openNeg | .openPreOn | .openTest2 | .openPreOff | .openShort1 | .openShort2
  | .forcePos | .forceNeg => none

/-- The v_ch to which the chain drives, mV (Table 07.5, test 1 of Table 07.6). -/
def State.driveTarget (s : State) (c : ChainId) : Option Int :=
  match s.vCapMv with
  | none => none
  | some v =>
    match (s.chain c).seq with
    | .conNeg | .conPre | .conPos | .conPreOff => some (v : Int)
    | .conCharge =>
      if (s.chain c).target ≤ v + s.im.connectDv c then some (v : Int)
      else some ((v : Int) + s.im.iPre c * s.im.rPre c)
    | .openTest1 => some ((v : Int) - s.im.weldDv c)
    | .none | .conDiag | .abortPre | .openPos | .openNeg | .openPreOn | .openTest2 | .openPreOff | .openShort1 | .openShort2
    | .forcePos | .forceNeg => none

/-- I_REF of this loop period, in units of 10 mA / 20,000. The control law of a drive is not specified: a free
value within the bounds of R397. -/
def State.nextRef (s : State) (c : ChainId) : Int :=
  let ch := s.chain c
  let cur := ch.iRef.getD 0
  let step := 100 * (s.im.iSlew c : Int)
  let l := s.limits c
  match s.driveLimit c with
  | some lim =>
    clampI (s.freeI 1) (20000 * max (-(lim : Int)) l.2) (20000 * min (lim : Int) l.1)
  | none =>
    match ch.st with
    | .run => slewTo cur (20000 * s.target c) step
    | .zeroing => if ch.protReq.isSome then 0 else slewTo cur 0 step
    | .absent | .block | .connecting | .opening => 0

/-! ### Selection (R158 to R161) -/

/-- Eligible for discharge (R160). -/
def State.elDis (s : State) (c : ChainId) (m : Fin 32) : Bool :=
  let r := (s.chain c).mods[m]
  let t := s.tm c m
  r.st != .parked && !r.lost && decide (0 < t.fDis)
    && ((t.tMin.map fun x => decide (s.im.tDisMin ≤ x)).getD false)
    && ((t.tMax.map fun x => decide (x ≤ s.im.tDisMax)).getD false)

/-- Eligible for charge (R160). -/
def State.elChg (s : State) (c : ChainId) (m : Fin 32) : Bool :=
  let r := (s.chain c).mods[m]
  let t := s.tm c m
  r.st != .parked && !r.lost && decide (0 < t.fChg)
    && ((t.tMin.map fun x => decide (s.im.tChgMin ≤ x)).getD false)
    && ((t.tMax.map fun x => decide (x ≤ s.im.tChgMax)).getD false)

/-- |I_REF| is within I_ZERO. -/
def State.refQuiet (s : State) (c : ChainId) : Bool := decide (10 * (s.refNow c).natAbs ≤ 20000 * s.im.iZero c)

/-- The direction of I_REF; within I_ZERO that of the previous re-sort, discharge before the first (R158):
1 discharge, 2 charge. -/
def State.direction (s : State) (c : ChainId) : Nat :=
  let ch := s.chain c
  if s.refQuiet c then (if ch.dir = 2 then 2 else 1)
  else if 0 < s.refNow c then 1 else 2

/-- The module is the target of the learning cycle in progress. -/
def Chain.isTarget (ch : Chain) (m : Fin 32) : Bool := ch.learnOn && ch.learn.target == m

/-- The module may stand in the list (R159, R160, R176). -/
def State.listable (s : State) (c : ChainId) (m : Fin 32) : Bool :=
  let ch := s.chain c
  !ch.isTarget m &&
    (if s.refQuiet c && s.quiet c then ch.mods[m].st != .parked && !ch.mods[m].lost
     else if s.direction c = 1 then s.elDis c m else s.elChg c m)

/-- The list of R153: the order of R159 restricted to the modules eligible now. -/
def State.list (s : State) (c : ChainId) : List (Fin 32) := (s.chain c).order.filter (s.listable c)

/-- Key of a module (R158). A module whose SoC has no value yet has a free one. -/
def State.keyOf (s : State) (c : ChainId) (m : Fin 32) : Int :=
  let dis := decide (s.direction c = 1)
  let free := s.freeN (32 + m.val) % 10001
  let soc : Int := if dis then ((s.socDis c m).getD free : Nat) else 10000 - ((s.socChg c m).getD free : Nat)
  let t := s.tm c m
  let hot := tdiv (s.im.kTemp c * max 0 ((t.tMax.getD 0) - 350)) 10
  let f := if dis then t.fDis else t.fChg
  soc - hot - (if f < 1000 then 10000 else 0)

/-- One insertion of R159 into a list held in reverse: x moves past the entries whose key it exceeds by more
than HYST. -/
def overtake (key : Fin 32 → Int) (hyst : Int) (x : Fin 32) : List (Fin 32) → List (Fin 32)
  | [] => [x]
  | y :: ys => if key x > key y + hyst then y :: overtake key hyst x ys else x :: y :: ys

/-- The re-sort of R159 on the list in place order. -/
def resort (key : Fin 32 → Int) (hyst : Int) (l : List (Fin 32)) : List (Fin 32) :=
  (l.foldl (fun acc x => overtake key hyst x acc) []).reverse

/-- Members of the list after a re-sort: those that stay, then those that join, in module index order. -/
def State.newList (s : State) (c : ChainId) : List (Fin 32) :=
  let stay := s.list c
  stay ++ (s.modIdx.filter fun m => s.listable c m && !stay.contains m)

/-- Sum of the voltages of the modules eligible for a direction, mV (R161). -/
def State.spanSum (s : State) (c : ChainId) (el : Fin 32 → Bool) : Nat :=
  ((s.modIdx.filter el).map (s.vmod c)).foldl (· + ·) 0

/-- The span flag of a direction after a check against V_CAP + V_RESERVE (R161). -/
def State.spanFlag (s : State) (c : ChainId) (sum : Nat) (cur : Bool) : Bool :=
  match s.vCapMv with
  | none => cur
  | some v =>
    if sum < v + s.im.vReserve c then true
    else if v + s.im.vReserve c + 20000 ≤ sum then false else cur

/-- Eligibility flags and the span test (R160, R161). -/
def refreshSpan (s : State) (c : ChainId) : State :=
  let sd := s.spanSum c (s.elDis c)
  let sc := s.spanSum c (s.elChg c)
  let fd := s.spanFlag c sd (s.chain c).disSpan
  let fc := s.spanFlag c sc (s.chain c).chgSpan
  let s1 := s.onChain c fun ch =>
    { ch with
      disSpan := fd
      chgSpan := fc
      mods := Vector.ofFn fun m => { ch.mods[m] with elDis := s.elDis c m, elChg := s.elChg c m } }
  let s2 := if fd == (s.chain c).disSpan then s1 else logEvent s1 0x200B 0 (sd / 1000)
  if fc == (s.chain c).chgSpan then s2 else logEvent s2 0x200B 1 (sc / 1000)

/-! ### Staircase and trim (R150 to R154) -/

/-- Trim period, ns (R150). -/
def State.tM (s : State) (c : ChainId) : Nat :=
  1000000 / (if (s.chain c).fMod = 0 then s.im.fMod c else (s.chain c).fMod)

/-- What a staircase gives for one trim period. -/
structure Stair where
  nIns : Nat := 0
  sat : Bool := false
  trim1 : Option (Fin 32) := none
  trim2 : Option (Fin 32) := none
  w : Nat := 0
  inserted : List (Fin 32) := []
deriving DecidableEq, Repr

/-- Modules inserted whole from the head of the list while their sum stays within u: those, their sum, and the
rest of the list (R153). -/
def fill (v : Fin 32 → Nat) (u sum : Nat) : List (Fin 32) → List (Fin 32) × Nat × List (Fin 32)
  | [] => ([], sum, [])
  | m :: ms =>
    if sum + v m ≤ u then
      let r := fill v u (sum + v m) ms
      (m :: r.1, r.2.1, r.2.2)
    else ([], sum, m :: ms)

/-- The on-time W, ns, of a remainder of u over a divisor (R153). -/
def trimW (rest tM div minP : Nat) : Nat :=
  let w := 10 * ((rest * tM / div + 5) / 10)
  if w < minP then (if minP ≤ 2 * w then minP else 0)
  else if tM - w < minP then (if minP ≤ 2 * (tM - w) then tM - minP else tM)
  else w

/-- The staircase of a loop output u (R153, R154). -/
def State.stair (s : State) (c : ChainId) (u : Nat) : Stair :=
  let r := fill (s.vmod c) u 0 (s.list c)
  match r.2.2 with
  | [] => { nIns := r.1.length, sat := true, inserted := r.1 }
  | m :: ms =>
    match ms with
    | m2 :: _ =>
      if s.im.str.trims = 2 then
        { nIns := r.1.length, inserted := r.1, trim1 := some m, trim2 := some m2
          w := trimW (u - r.2.1) (s.tM c) (s.vmod c m + s.vmod c m2) (s.im.modMinPulse c) }
      else
        { nIns := r.1.length, inserted := r.1, trim1 := some m
          w := trimW (u - r.2.1) (s.tM c) (s.vmod c m) (s.im.modMinPulse c) }
    | [] =>
      { nIns := r.1.length, inserted := r.1, trim1 := some m
        w := trimW (u - r.2.1) (s.tM c) (s.vmod c m) (s.im.modMinPulse c) }

/-- The string works now: staircase and trim run (Table 07.3; test 1 of Table 07.6). During the terminal diagnostics before a
connection the modules stay in BLOCK (R209). -/
def State.stringOn (s : State) (c : ChainId) : Bool :=
  match (s.chain c).st with
  | .run | .zeroing => true
  | .connecting => (s.chain c).seq != .conDiag
  | .opening => (s.chain c).seq == .openTest1
  | .absent | .block => false

/-- The half of the learning wave matches the phase of the target (R176, Table 07.7). -/
def LearnRec.inserts (l : LearnRec) : Bool :=
  if l.phase = 2 then l.pos else !l.pos

/-- State of a module for the next trim period. -/
def State.modState (s : State) (c : ChainId) (t : Stair) (m : Fin 32) : ModSt :=
  let ch := s.chain c
  if ch.mods[m].st == .parked && !ch.mods[m].leave then .parked
  else if !s.stringOn c || ch.mods[m].lost then .block
  else if ch.isTarget m then (if !s.learnPaused c && ch.learn.inserts then .insert else .bypass)
  else if t.inserted.contains m then .insert
  else .bypass

/-- The set of a module for the next trim period (R152, R186), W in 10 ns units. A whole-period trim is sent
as its pulse. -/
def State.modSet (s : State) (c : ChainId) (t : Stair) (m : Fin 32) : ModSet :=
  let st := s.modState c t m
  if st == .bypass && t.trim1 == some m then { st := .bypass, phase := 1, w := t.w / 10 }
  else if st == .bypass && t.trim2 == some m then { st := .bypass, phase := 2, w := t.w / 10 }
  else { st := st, phase := 0, w := 0 }

/-- The loop output in force at a Spline time: the newest one whose boundary has come (R157). -/
def State.uAt (s : State) (c : ChainId) (t : Nat) : Nat :=
  match (s.chain c).uPend.find? fun x => decide (x.2 ≤ t) with
  | some x => x.1
  | none => (s.chain c).u

/-- The staircase for the period that begins at a Spline time, or none while the string is blocked. -/
def State.stairAt (s : State) (c : ChainId) (t : Nat) : Stair := if s.stringOn c then s.stair c (s.uAt c t) else {}

/-- The first trim period boundary at least CMD_LEAD after a loop instant, as a Spline time: 1 ms is a whole number of trim
periods, and every strobe instant a boundary (R150, R157, R186). -/
def State.applyAt (s : State) (c : ChainId) (t : Nat) : Nat := (t + s.im.cmdLead c + s.tM c - 1) / s.tM c * s.tM c

/-! ### Module set frames (R186 to R188) -/

/-- Pair the modules that leave INSERT with those that enter it (R186). -/
def pairUp : List (Fin 32) → List (Fin 32) → List (Fin 32)
  | x :: xs, y :: ys => x :: y :: pairUp xs ys
  | _, _ => []

/-- The modules whose set must be sent, pairs first when more than 12 wait (R186). -/
def State.changed (s : State) (c : ChainId) (t : Stair) : List (Fin 32) :=
  let ch := s.chain c
  let ms := s.modIdx.filter fun m => s.modSet c t m != ch.mods[m].cmd || (s.sen c).recs[m].resend
  if ms.length ≤ 12 then ms
  else
    let o := ch.order.filter ms.contains
    let p := pairUp (o.filter fun m => ch.mods[m].cmd.st == .insert && s.modState c t m != .insert)
      (o.filter fun m => ch.mods[m].cmd.st != .insert && s.modState c t m == .insert)
    p ++ ms.filter fun m => !p.contains m

/-- The entries of this period's frame from an end: changed modules, then one refresh entry for each of the next two
modules, at most 12, of the sentinels commanded from there. -/
def State.msfMods (s : State) (c : ChainId) (t : Stair) (tail : Bool) : List (Fin 32) :=
  let n := s.nMods
  let ch := s.changed c t
  let r := (s.sen c).refresh
  let nxt := s.modIdx.filter fun m => (m.val == r % max n 1 || m.val == (r + 1) % max n 1) && !ch.contains m
  ((ch ++ nxt).filter fun m => (s.endsOf c m).contains tail).take 12

/-- Send one entry for a boundary: the sentinel's counter advances by 1 (R187), and the record of sets grows (R189). -/
def sendEntry (c : ChainId) (t : Stair) (b : Nat) (s : State) (m : Fin 32) : State :=
  let x : SentSet := { cnt := (s.sen c).recs[m].cnt + 1, set := s.modSet c t m, time := s.tim.time, apply := b }
  (((s.onRec c m fun r => { r with cnt := x.cnt, resend := false, sent := (x :: r.sent).take 256 }).onSen c fun y =>
    { y with newSets := y.newSets ++ [(m, x)] }).onMod c m) fun y => { y with cmd := x.set }

/-- F_MOD that the sentinels hold, the image's before the first enumeration. -/
def State.fModNow (s : State) (c : ChainId) : Nat := if (s.chain c).fMod = 0 then s.im.fMod c else (s.chain c).fMod

/-- The frame of this loop period from an end (R186): its head names the boundary at which the sets apply. -/
def sendMsfFrom (c : ChainId) (t : Stair) (b : Nat) (s : State) (tail : Bool) : State :=
  let ms := s.msfMods c t tail
  let s1 := ms.foldl (sendEntry c t b) s
  let es := ms.filterMap fun m => (s1.sen c).recs[m].sent.head?.map fun x => (m, x)
  send s1 (.senFrame c tail (msfFrame tail (s.fModNow c) (b / 1000000 % 256) (b % 1000000 / s.tM c) es))

/-- The frames of this loop period (R175, R180, R186, R195). -/
def sendMsf (s : State) (c : ChainId) : State :=
  if !s.arm.owner || (s.sen c).stage != .enumerated then s
  else
    let b := s.applyAt c s.tim.time
    let t := s.stairAt c b
    let n := max s.nMods 1
    ((s.cmdEnds c).foldl (sendMsfFrom c t b) s).onSen c fun x => { x with refresh := (x.refresh + 2) % n }

/-- Period of the chain cycle in which a Spline time lies (R185). -/
def cyclePeriod (t : Nat) : Nat := t % 1000000 / 50000

/-- A service request with an argument of n bytes ends by +18.0 µs after an MSF of k entries that is launched at +10 µs
(R185; log entry 47). -/
def srqFits (k n : Nat) : Bool := decide (100 + 12 + 5 * k + 9 + n ≤ 180)

/-- The service request of this command window, if one waits (R185): in periods 0 to 5 after the MSF, and in every period
before the first strobe after enumeration. -/
def sendWaiting (s : State) (c : ChainId) (entries : Nat) : State :=
  let x := s.sen c
  match x.srqQ with
  | [] => s
  | (m, op, arg) :: rest =>
    if s.arm.owner && (!x.struck || decide (cyclePeriod s.tim.time ≤ 5)) && srqFits entries arg.length then
      let n := x.recs[m].cnt + 1
      sendEnds ((s.onSen c fun y => { y with srqQ := rest }).onRec c m fun r => { r with cnt := n }) (s.endsOf c m) fun e =>
        .senFrame c e (srqFrame e m n op arg)
    else s

/-- Entries of the longest frame of this period. -/
def State.msfLength (s : State) (c : ChainId) : Nat :=
  let t := s.stairAt c (s.applyAt c s.tim.time)
  (s.cmdEnds c).foldl (fun a e => max a (s.msfMods c t e).length) 0

/-- The command window of a loop period: the MSF, then a service request (Table 08.3). -/
def commandWindow (s : State) (c : ChainId) : State :=
  sendWaiting (sendMsf s c) c (if (s.sen c).stage == .enumerated then s.msfLength c else 0)

/-- The BLEED request of a mask that stands is sent again in time for every half BLEED_TIMEOUT, 50 ms ahead for its wait in
the queue (R204; log entry 47). -/
def refreshBleed (s : State) (c : ChainId) : State :=
  let now := s.clock
  (s.modIdx.filter fun m =>
    (s.sen c).recs[m].bleed != 0 && decide ((s.sen c).recs[m].bleedAt + secNs * s.im.bleedTimeout c / 2 ≤ now + 50 * msNs)).foldl
    (fun t m =>
      let x := (s.sen c).recs[m].bleed
      sendSrq (t.onRec c m fun r => { r with bleedAt := now }) c m 3
        [x.truncate 8, (x >>> 8).truncate 8, (x >>> 16).truncate 8, (x >>> 24).truncate 8]) s

/-! ### The current loop (R157) -/

/-- The voltage that the feedforward follows: V_CAP once K_POS and K_NEG have both been on for CONT_SETTLE, v_ch
otherwise. An invalid code gives a free value. -/
def State.ffCode (s : State) (c : ChainId) : Int :=
  let settled := match (s.chain c).kClosedSince with
    | none => false
    | some t => decide (t + msNs * s.im.contSettle c ≤ s.clock)
  match (if settled then s.meas.vCap else s.vCh c) with
  | some v => v
  | none => s.freeI 2

/-- The damping of ACT_DAMP while the contactors are open, mV (R157): the manual names its inputs and gives no formula, so
its amount is a free value. -/
def State.damping (s : State) (c : ChainId) : Int :=
  if s.im.actDamp c = 0 || (s.chain c).closed then 0 else s.freeI 3

/-- The loop of R157: u and the integral for an error in 10 mA. -/
def loopStep (s : State) (c : ChainId) (err : Int) : Int × Int :=
  let ch := s.chain c
  let top : Int := (((s.list c).map (s.vmod c)).foldl (· + ·) 0 : Nat)
  let uff := (s.ffCode c * 50 * s.im.kFf c) / 65536
  let raw := uff + tdiv (s.im.kP c * err) 100 + ch.integ + s.damping c
  let u := clampI raw 0 top
  let m : Int := s.im.uIntMax c
  let integ := if u == raw || Int.sign err != Int.sign (raw - u)
    then clampI (ch.integ + tdiv (s.im.kI c * err) 2000) (-m) m else ch.integ
  (u, integ)

/-- The chain engine of chain c runs. -/
def State.chainRuns (s : State) (c : ChainId) : Bool :=
  s.declared c && s.eng.state[(match c with | .a => EngineId.cea | .b => EngineId.ceb).idx] == .running

/-- CURRENT_LOOP_TICK (R155, R157, R169, R176, R185): samples, limits, I_REF, u with the boundary at which it takes effect,
and the period's command window. A rank-1 request that waits for zero current opens the chain once it is reached. -/
def execCurrentLoopTick (c : ChainId) (i : Option Int) (vCap vCh : Option Nat) (s : State) : Res :=
  if !s.chainRuns c then .next s
  else
    let now := s.clock
    let s0 := setVCh (s.onMeas fun x => { x with vCap := vCap }) c vCh
    let s1 := s0.onChain c fun ch => { ch with iMeas := i }
    let q := s1.quiet c
    let s2 := s1.onChain c fun ch =>
      { ch with
        quietSince := if q then some (ch.quietSince.getD now) else none
        zeroSince := if q then some (ch.zeroSince.getD now) else none
        limDis := (s1.limits c).1
        limChg := (s1.limits c).2 }
    let ref := s2.nextRef c
    let s3 := nextFree (s2.onChain c fun ch => { ch with iRef := some ref })
    let meas := match i with
      | some x => x
      | none => s3.freeI 4
    let out := loopStep s3 c (tdiv ref 20000 + s3.learnWave c - meas)
    let b := s3.applyAt c s3.tim.time
    let s4 := nextFree (if s3.stringOn c then
        s3.onChain c fun ch => { ch with u := out.1.toNat, integ := out.2, uPend := ((out.1.toNat, b) :: ch.uPend).take 8 }
      else s3.onChain c fun ch => { ch with u := 0, integ := 0, uPend := [] })
    let s5 := commandWindow (refreshBleed s4 c) c
    let ch := s5.chain c
    if ch.st == .block && ch.openReq && !ch.opened && q then .next (startOpening s5 c) else .next s5

/-- TRIM_PERIOD_STAIRCASE (R150, R153, R154): the states of the trim period that begins. A module that was unparked leaves
PARKED here. -/
def execTrimPeriodStaircase (c : ChainId) (s : State) : Res :=
  if !s.chainRuns c then .next s
  else
    let t := s.stairAt c s.tim.time
    .next (nextFree s |>.onChain c fun ch =>
      { ch with
        nIns := t.nIns
        sat := t.sat
        trim1 := t.trim1
        trim2 := t.trim2
        w1 := if t.trim1.isSome then t.w / 10 else 0
        w2 := if t.trim2.isSome then t.w / 10 else 0
        mods := Vector.ofFn fun m =>
          { ch.mods[m] with
            st := if m.val < s.nMods then s.modState c t m else ch.mods[m].st
            trim := t.trim1 == some m || t.trim2 == some m
            leave := false } })

/-! ### The strobe (R158, R159, R197, R202, R216) -/

/-- Coefficient of the filter corner (R201). -/
def filterCoef : Nat → Int
  | 1 => 9527
  | 2 => 30573
  | 3 => 60227
  | _ => 0

/-- The recursion of R201 on the device's own current sample: state and filtered code. After an invalid sample it starts
again. -/
def filterStep (corner : Nat) (st : Option Int) (x : Option Int) : Option Int × Option Int :=
  match x with
  | none => (none, none)
  | some v =>
    if corner = 0 then (none, some v)
    else
      let s1 := match st with
        | none => v * 65536
        | some p => p + ((v * 65536 - p) * filterCoef corner) / 65536
      (some s1, some ((s1 + 32768) / 65536))

/-- A re-sort: keys, direction and order (R158, R159). -/
def resortChain (s : State) (c : ChainId) : State :=
  let dir := s.direction c
  let order := resort (s.keyOf c) (s.im.hyst c) (s.newList c)
  nextFree (s.onChain c fun ch =>
    { ch with
      dir := dir
      order := order
      mods := Vector.ofFn fun m =>
        if m.val < s.nMods then { ch.mods[m] with key := s.keyOf c m } else ch.mods[m] })

/-- The veneer window of chain c is enabled (R222). -/
def State.veneerOn (s : State) (c : ChainId) : Bool := s.im.veneer.testBit c.num && s.img.active.isSome

/-- VNR_COUNT from the full-precision difference (R222), saturated to s32. -/
def refreshVeneer (s : State) (c : ChainId) : State :=
  if s.veneerOn c then
    s.onEs c fun e =>
      { e with vnrCount := clampI (e.vnrLoaded - tdiv (e.acc - e.vnrA) 1000000) (-(2 ^ 31)) (2 ^ 31 - 1) }
  else s

/-- A SAMPLE of the previous strobe that has not come by the next one is missing (R210). -/
def countMissing (s : State) (c : ChainId) : State :=
  if (s.sen c).stage != .enumerated || !(s.sen c).awaited then s
  else
    let n := (s.modIdx.filter fun m => !(s.sen c).recs[m].got && !(s.sen c).recs[m].lost).length
    s.onSen c fun x =>
      { x with
        cntMissed := sat 8 (x.cntMissed + n)
        recs := Vector.ofFn fun m =>
          let r := x.recs[m]
          if m.val < s.nMods then
            { r with
              misses := if r.got then 0 else bump 8 r.misses
              backRuns := if r.got then r.backRuns else 0
              back := if !r.got && r.back = 2 then 0 else r.back
              got := false }
          else r }

/-! ### The charge integrator (R216) -/

/-- The integral of a function of the shunt voltage from a to b, nV ns, over a waveform of constant pieces (duration in ns,
voltage in nV) that begins at a given instant. -/
def integral (f : Int → Int) (a b : Nat) : Nat → List (Nat × Int) → Int
  | _, [] => 0
  | t, (d, v) :: r => ((min b (t + d) - max a t : Nat) : Int) * f v + integral f a b (t + d) r

/-- nV ns of one µAs under the shunt resistance of BOARD_CAL. -/
def State.shuntUnit (s : State) (c : ChainId) : Int := 1000 * (max 1 (Config.shuntNano s.im.boardCal c.num) : Nat)

/-- The set that the chain PHY sent to a module for the trim period that begins at a Spline time; BLOCK before any. -/
def State.gatedSet (s : State) (c : ChainId) (m : Fin 32) (p : Nat) : ModSet :=
  match (s.sen c).recs[m].sent.find? fun x => decide (x.apply ≤ p) with
  | some x => x.set
  | none => { st := .block, phase := 0, w := 0 }

/-- On-time of the trim module of a phase in that period, ns; 0 without one. -/
def State.gateW (s : State) (c : ChainId) (p phase : Nat) : Nat :=
  match s.modIdx.find? fun m => (s.gatedSet c m p).st == .bypass && (s.gatedSet c m p).phase == phase with
  | some m => 10 * (s.gatedSet c m p).w
  | none => 0

/-- The values of one trim period at offset a of the millisecond that begins at Spline time t0, with the windows of R151. The
accumulator carries the fraction of ΔQ; the other values are rounded to the nearest µAs (log entry 49). -/
def State.periodCharge (s : State) (c : ChainId) (t0 a : Nat) (rem : Int) (shunt : List (Nat × Int)) : PeriodCharge × Int :=
  let tM := s.tM c
  let d := s.shuntUnit c
  let near (x : Int) : Int := (2 * x + d) / (2 * d)
  let span (x y : Nat) : Int := integral id (a + x) (a + y) 0 shunt
  let w1 := s.gateW c (t0 + a) 1
  let w2 := s.gateW c (t0 + a) 2
  let start := 10 * ((tM - w1) / 20)
  let e := 10 * (w2 / 20)
  let q := rem + span 0 tM
  ({ dQ := q / d
     dN := near (integral (min · 0) a (a + tM) 0 shunt)
     dG1 := near (span start (start + w1))
     dG2 := near (span 0 e + span (tM - (w2 - e)) tM) }, q % d)

/-- The per-period values of the millisecond that ends at strobe ts, and the fraction that the accumulator keeps. -/
def State.msCharges (s : State) (c : ChainId) (ts : Nat) (rem : Int) (shunt : List (Nat × Int)) : List PeriodCharge × Int :=
  (List.range (1000000 / s.tM c)).foldl (fun x j =>
    let r := s.periodCharge c (ts - 1000000) (j * s.tM c) x.2 shunt
    (x.1 ++ [r.1], r.2)) ([], rem)

/-- A snapshot joins the CCI queue of four; the oldest of a full queue is overwritten (Table 02.7). -/
def pushSnapshot (s : State) (c : ChainId) (x : Snapshot) : State :=
  let q := (s.es c).cci ++ [x]
  if q.length ≤ 4 then s.onEs c fun e => { e with cci := q }
  else dcqFull (s.onEs c fun e => { e with cci := q.drop 1 }) 21

/-- The integrator at strobe ts (R216, R37): what it has integrated since the last strobe before this millisecond, in
operation and, scaled by the PLINTH frequency, in hibernation, then the millisecond. -/
def integrate (s : State) (c : ChainId) (ts : Nat) (run hib : Int) (shunt : List (Nat × Int)) : State :=
  let e := s.es c
  let d := s.shuntUnit c
  let raw := e.accRem + run + hib * 1000000000 / (max 1 s.pwr.hibHz : Nat)
  let ms := s.msCharges c ts (raw % d) shunt
  let a := e.accLive + raw / d + (ms.1.map (·.dQ)).foldl (· + ·) 0
  pushSnapshot (s.onEs c fun x => { x with acc := a, accLive := a, accRem := ms.2 }) c
    { ts := ts, acc := a, epoch := e.epoch, periods := ms.1 }

/-- The sample set that is complete at the strobe, for the limits of this millisecond (R233). -/
def latchSets (s : State) (c : ChainId) : State :=
  s.onSen c fun x =>
    { x with recs := Vector.ofFn fun m => { x.recs[m] with setRange := s.vRange c m, setVmod := x.recs[m].vmod } }

/-- One update of the device's own filter, for a strobe that was sent or seen (R202). -/
def filterStrobe (s : State) (c : ChainId) (i : Option Int) : State :=
  let sn := s.sen c
  let corner := match sn.filterNext with
    | some (k, q) => if (sn.sseq + 256 - q) % 256 < 128 then k else sn.filter
    | none => sn.filter
  let f := filterStep corner sn.iState i
  let s1 := s.onSen c fun x =>
    { x with
      iRaw := i
      iFilt := f.2
      iState := f.1
      filter := corner
      filterNext := if corner == x.filter then x.filterNext else none
      recs := x.recs.map fun r => { r with cntMark := r.cnt } }
  if corner != sn.filter then logEvent s1 0x3013 corner sn.sseq else s1

/-- SAMPLE_STROBE (R197): the converters sample, the filter of R202 takes one update when the strobe was sent or
seen, the integrator hands its snapshot over, and the list is re-sorted. `run` and `hib`: the integral of the shunt voltage
since the last strobe up to this millisecond, in operation (nV ns) and in hibernation (nV PLINTH periods); `shunt`: its waveform in
the millisecond. -/
def execSampleStrobe (c : ChainId) (i : Option Int) (vCap vCh : Option Nat) (run hib : Int) (shunt : List (Nat × Int))
    (s : State) : Res :=
  if !s.chainRuns c then .next s
  else
    let ts := s.tim.time / 1000000 * 1000000
    let s0 := setVCh ((countMissing (latchSets s c) c).onMeas fun x => { x with vCap := vCap, vCapSet := vCap }) c vCh
    let s1 := if (s0.sen c).strobed then filterStrobe s0 c i else s0
    let s2 := ((integrate s1 c ts run hib shunt).onChain c fun ch => { ch with iMeas := i }).onSen c
      fun x => { x with awaited := x.strobed, strobed := false, strobeAt := ts }
    .next (resortChain (refreshSpan (refreshVeneer s2 c) c) c)

/-- OVER_BUDGET_TICK (R156): the mean of |i| over the millisecond, 10 mA. -/
def execOverBudgetTick (c : ChainId) (mean : Int) (s : State) : Res :=
  if !s.chainRuns c then .next s
  else
    let ch := s.chain c
    if 12000 < mean then
      let n := min 60000 (ch.overMs + 1)
      let s1 := s.onChain c fun x => { x with overMs := n, overIdle := 0 }
      .next (if n = 60000 && ch.overMs < 60000 then logEvent s1 0x2010 else s1)
    else if ch.overIdle = 4 then .next (s.onChain c fun x => { x with overMs := x.overMs - 1, overIdle := 0 })
    else .next (s.onChain c fun x => { x with overIdle := x.overIdle + 1 })

/-! ### Requests and commands (R165, R166) -/

/-- A maintenance lock holds the chain's bridges or contactors. -/
def State.chainLocked (s : State) (c : ChainId) : Bool := s.locks.getLsbD c.num || s.locks.getLsbD (2 + c.num)

/-- A chain command is refused (R166): counted and logged. -/
def refuseChain (s : State) (c : ChainId) (code status : Nat) : RegRes :=
  (logEvent (s.onChain c fun ch => { ch with cntRefused := bump 8 ch.cntRefused }) 0x2011 code status, status)

/-- CONNECT can start (R167). -/
def State.canConnect (s : State) (c : ChainId) : Bool :=
  let ch := s.chain c
  ch.st == .block && ch.opened && !ch.weldPos && !ch.weldNeg && !ch.weldPre && !s.pwr.s3
    && (s.sen c).stage == .enumerated && decide (s.im.str.minModules ≤ s.avail c) && !s.ranked c
    && ch.coolDue.isNone && !s.pwr.vauxLow

/-- The target of a pre-charge now, mV. -/
def State.preTarget (s : State) : Nat :=
  if s.arm.mode == .energise then s.im.vEnergise else s.vCapMv.getD (s.freeN 64)

/-- The modules whose terminal diagnostics a connection waits for: those that stand in BLOCK (R209). -/
def State.diagMods (s : State) (c : ChainId) : List (Fin 32) :=
  s.modIdx.filter fun m => !(s.chain c).mods[m].lost && (s.chain c).mods[m].st != .parked

/-- TERM_DIAG to every module that has not answered it yet. -/
def requestDiags (s : State) (c : ChainId) : State :=
  ((s.diagMods c).filter fun m => !(s.sen c).recs[m].termDone).foldl (fun t m => sendSrq t c m 6 []) s

/-- A connection begins with the terminal diagnostics of every module in BLOCK, before t1 of Table 07.5 (R209; log entry
47). -/
def startConnect (s : State) (c : ChainId) (preOnly : Bool) : State :=
  let again := s.clock + 20 * msNs
  let s1 := s.onChain c fun ch =>
    { ch with
      st := .connecting
      seq := .conDiag
      seqDue := some again
      preOnly := preOnly
      clampLost := false
      integ := 0
      iRef := some 0
      uPend := [] }
  requestDiags ((s.diagMods c).foldl (fun t m => t.onRec c m fun r => { r with termDone := false }) s1) c

/-- t1 of Table 07.5: K_NEG on, event 0x2001. A chain that the diagnostics leave with too few modules opens again. -/
def beginConnect (s : State) (c : ChainId) : State :=
  let now := s.clock
  let due := now + msNs * s.im.contSettle c
  if s.avail c < s.im.str.minModules then abortConnect s c
  else
    logEvent (setCoil (s.onChain c fun ch => { ch with seq := .conNeg, seqDue := some due, seqStart := now }) c 1 true) 0x2001
      (s.preTarget / 1000)

/-- CHA_CMD CONNECT. -/
def opChaConnect (c : ChainId) (s : State) : RegRes :=
  if !s.declared c then (s, 0x00)
  else if !s.arm.owner then refuseChain s c 1 0x04
  else if s.chainLocked c then refuseChain s c 1 0x05
  else if s.canConnect c then (startConnect s c false, 0x00)
  else refuseChain s c 1 0x04

/-- The chain returns to RUN with its contactors closed. -/
def enterRun (s : State) (c : ChainId) : State :=
  s.onChain c fun ch =>
    { ch with
      st := .run
      seq := .none
      seqDue := none
      preDue := none
      preOnly := false
      byAllHeld := false
      openAfter := false
      protReq := none
      integ := 0
      iRef := some 0 }

/-- CHA_CMD RUN: in BLOCK with contactors closed, and not under arm mode BLOCK (R166, R174). -/
def opChaRun (c : ChainId) (s : State) : RegRes :=
  if !s.declared c then (s, 0x00)
  else if !s.arm.owner then refuseChain s c 2 0x04
  else if s.chainLocked c then refuseChain s c 2 0x05
  else if (s.chain c).st == .block && (s.chain c).closed && !s.ranked c && s.arm.mode != .block then
    (enterRun s c, 0x00)
  else refuseChain s c 2 0x04

/-- The ramp to zero of a station BLOCK or DISCONNECT (R170). -/
def stationZero (s : State) (c : ChainId) (opens : Bool) : State :=
  (endLearn s c).onChain c fun ch => { ch with st := .zeroing, openAfter := opens, protReq := none, zeroSince := none }

/-- CHA_CMD BLOCK. A connection in progress ends for the higher request (Table 07.3). -/
def opChaBlock (c : ChainId) (s : State) : RegRes :=
  if !s.declared c then (s, 0x00)
  else if !s.arm.owner then refuseChain s c 3 0x04
  else if s.chainLocked c then refuseChain s c 3 0x05
  else if s.ranked c then refuseChain s c 3 0x04
  else match (s.chain c).st with
    | .run => (stationZero s c false, 0x00)
    | .connecting => (abortConnect s c, 0x00)
    | .absent | .block | .zeroing | .opening => refuseChain s c 3 0x04

/-- CHA_CMD DISCONNECT. In ABSENT, or in BLOCK with contactors open, it changes nothing (R165). -/
def opChaDisconnect (c : ChainId) (s : State) : RegRes :=
  let ch := s.chain c
  if !s.declared c then (s, 0x00)
  else if !s.arm.owner then refuseChain s c 4 0x04
  else if s.chainLocked c then refuseChain s c 4 0x05
  else if ch.st == .absent || (ch.st == .block && ch.opened) then (s, 0x00)
  else if s.ranked c then refuseChain s c 4 0x04
  else match ch.st with
    | .block => (startOpening s c, 0x00)
    | .run => (stationZero s c true, 0x00)
    | .zeroing => (s.onChain c fun ch => { ch with openAfter := true }, 0x00)
    | .connecting => (abortConnect s c, 0x00)
    | .absent | .opening => refuseChain s c 4 0x04

/-- Address of a register of a chain's block. -/
def chaAddr (c : ChainId) (off : Nat) : Word := BitVec.ofNat 32 (0x60000 + 0x10000 * c.num + off)

/-- CHA_CMD_CONNECT (R167). -/
def execChaCmdConnect (p : Requester) (c : ChainId) (s : State) : Res :=
  .next (regCmd s p fun s => withRight s p .operate (chaAddr c 4) (opChaConnect c))

/-- CHA_CMD_RUN (R165). -/
def execChaCmdRun (p : Requester) (c : ChainId) (s : State) : Res :=
  .next (regCmd s p fun s => withRight s p .operate (chaAddr c 4) (opChaRun c))

/-- CHA_CMD_BLOCK (R170). -/
def execChaCmdBlock (p : Requester) (c : ChainId) (s : State) : Res :=
  .next (regCmd s p fun s => withRight s p .operate (chaAddr c 4) (opChaBlock c))

/-- CHA_CMD_DISCONNECT (R165). -/
def execChaCmdDisconnect (p : Requester) (c : ChainId) (s : State) : Res :=
  .next (regCmd s p fun s => withRight s p .operate (chaAddr c 4) (opChaDisconnect c))

/-! ### Connection (Table 07.5, R168) -/

/-- V_CAP has reached the target less CONNECT_DV. -/
def State.targetMet (s : State) (c : ChainId) : Bool :=
  match s.vCapMv with
  | none => false
  | some v => decide ((s.chain c).target ≤ v + s.im.connectDv c)

/-- The sequence is complete: RUN, or for a PRECHARGE activity the opening. -/
def connected (s : State) (c : ChainId) : State :=
  let pre := (s.chain c).preOnly
  let s1 := (enterRun s c).onChain c fun ch => { ch with opsCycles := sat 16 (ch.opsCycles + 1) }
  let s2 := logWide s1 0x2002 (s.chain c).preMs
  if pre then startOpening s2 c else s2

/-- Every terminal diagnostic that the connection waits for has answered. -/
def State.diagsDone (s : State) (c : ChainId) : Bool := (s.diagMods c).all fun m => (s.sen c).recs[m].termDone

/-- CONNECT_STEP_TIMER: the next step of Table 07.5 whose settling time has passed. Before them the terminal diagnostics: once
all have answered t1 has come, and TERM_DIAG that stays without answer for 20 ms is sent again. -/
def execConnectStepTimer (c : ChainId) (s : State) : Res :=
  let ch := s.chain c
  let next := s.clock + msNs * s.im.contSettle c
  let again := s.clock + 20 * msNs
  if ch.st == .connecting && ch.seq == .conDiag && s.diagsDone c then .next (beginConnect s c)
  else if ch.st != .connecting || !due s.clock ch.seqDue then .next s
  else match ch.seq with
    | .conDiag => .next (requestDiags (s.onChain c fun x => { x with seqDue := some again }) c)
    | .conNeg =>
      .next (setCoil (s.onChain c fun x => { x with seq := .conPre, seqDue := some next }) c 2 true)
    | .conPre =>
      let t := s.preTarget
      let e := s.clock + secNs * s.im.preTimeout c
      .next (nextFree (s.onChain c fun x =>
        { x with seq := .conCharge, seqDue := none, target := t, preDue := some e }))
    | .conPos =>
      .next (setCoil (s.onChain c fun x => { x with seq := .conPreOff, seqDue := some next }) c 2 false)
    | .conPreOff => .next (connected s c)
    | .none | .conCharge | .abortPre | .openPos | .openTest1 | .openNeg | .openPreOn | .openTest2 | .openPreOff
    | .openShort1 | .openShort2 | .forcePos | .forceNeg => .next s

/-- |v_ch − V_CAP| is within a band, mV. -/
def State.chNear (s : State) (c : ChainId) (band : Nat) : Bool :=
  match s.vCapMv, s.vCh c with
  | some v, some w => decide (((codeMv w : Int) - v).natAbs ≤ band)
  | _, _ => false

/-- PRECHARGE_TARGET_REACHED: once V_CAP has come within CONNECT_DV of the target and v_ch within CONNECT_DV of
V_CAP, K_POS closes. -/
def execPrechargeTargetReached (c : ChainId) (s : State) : Res :=
  let ch := s.chain c
  let next := s.clock + msNs * s.im.contSettle c
  if ch.st == .connecting && ch.seq == .conCharge && s.targetMet c && s.chNear c (s.im.connectDv c) then
    let ms := match ch.preDue with
      | none => 0
      | some e => (s.clock + secNs * s.im.preTimeout c - e) / msNs
    .next (setCoil (s.onChain c fun x =>
      { x with seq := .conPos, seqDue := some next, preDue := none, preMs := ms }) c 0 true)
  else .next s

/-- PRECHARGE_TIMEOUT (R168): the pre-charge ends, event 0x2003, and the resistor cools for PRE_TIMEOUT. -/
def execPrechargeTimeout (c : ChainId) (s : State) : Res :=
  let ch := s.chain c
  if ch.st == .connecting && ch.seq == .conCharge && due s.clock ch.preDue && !s.targetMet c then
    let cool := s.clock + secNs * s.im.preTimeout c
    .next (logEvent ((abortConnect s c).onChain c fun x => { x with coolDue := some cool }) 0x2003
      (match s.vCapMv with
        | some v => v / 1000
        | none => 0xFFFF))
  else .next s

/-- PRECHARGE_COOLDOWN_END (R168): ENERGISE in force starts the sequence again. -/
def execPrechargeCooldownEnd (c : ChainId) (s : State) : Res :=
  if !due s.clock (s.chain c).coolDue then .next s
  else
    let s1 := s.onChain c fun x => { x with coolDue := none }
    .next (if s.arm.mode == .energise && s.arm.owner && s1.canConnect c then startConnect s1 c false else s1)

/-! ### Zeroing and opening (R170 to R173) -/

/-- ZEROING_COMPLETE (R170): |i| has stayed within I_ZERO for 1 ms. -/
def execZeroingComplete (c : ChainId) (s : State) : Res :=
  let ch := s.chain c
  let done := match ch.zeroSince with
    | none => false
    | some t => decide (t + msNs ≤ s.clock)
  if ch.st == .zeroing && ch.protReq.isNone && done then
    .next (if ch.openAfter then startOpening s c else enterBlock s c)
  else .next s

/-- PROTECTIVE_ZERO_BLOCK (R170): every module blocks when |i| first falls within I_ZERO, or 1 ms after the
request. A rank-1 request then opens the chain at zero current. -/
def execProtectiveZeroBlock (c : ChainId) (s : State) : Res :=
  let ch := s.chain c
  match ch.protReq with
  | none => .next s
  | some t =>
    if ch.st == .zeroing && (s.quiet c || decide (t + msNs ≤ s.clock)) then
      let s1 := blockAll s c
      let now := s.clock
      if ch.openAfter && s.quiet c then .next (startOpening s1 c)
      else .next ((enterBlock s1 c).onChain c fun x =>
        { x with
          openReq := ch.openReq || ch.openAfter
          openReqAt := if ch.openAfter then some now else none })
    else .next s

/-- The chain is open: BLOCK (Table 07.6). -/
def finishOpen (s : State) (c : ChainId) (forced : Bool) : State :=
  let s1 := s.onChain c fun ch =>
    { ch with
      st := .block
      seq := .none
      seqDue := none
      openReq := false
      openReqAt := none
      openAfter := false
      preOnly := false
      weldBase := none
      byAllHeld := false }
  let ch := s1.chain c
  let w := (if ch.weldPos then 1 else 0) + (if ch.weldNeg then 2 else 0) + (if ch.weldPre then 4 else 0)
  if forced then s1 else logEvent s1 0x2004 w

/-- A weld found (R173): kept, reported to PE as source 0x20, whose floor is the bypass. Contactors are coded
K_POS 0, K_NEG 1, K_PRE 2. -/
def weldFound (s : State) (c : ChainId) (k : Nat) : State :=
  let s1 := logEvent (s.onChain c fun ch => match k with
    | 0 => { ch with weldPos := true }
    | 1 => { ch with weldNeg := true }
    | _ => { ch with weldPre := true }) 0x2006 k
  floorBypass (raiseEvent s1 0x20) 0x20

/-- Judgement of test 1 (Table 07.6): K_POS when v_ch still lies within 20 V of V_CAP; K_PRE when v_ch reached
its target but |i| stays above 0.5 A. -/
def judgeTest1 (s : State) (c : ChainId) : State :=
  match s.vCapMv, s.vCh c with
  | some v, some w =>
    let d := ((codeMv w : Int) - v).natAbs
    let e := ((codeMv w : Int) - ((v : Int) - s.im.weldDv c)).natAbs
    let big := match (s.chain c).iMeas with
      | some i => decide (50 < i.natAbs)
      | none => false
    if d ≤ 20000 then weldFound s c 0
    else if e ≤ 20000 && big then weldFound s c 2 else s
  | _, _ => s

/-- Judgement of test 2: a rise of v_ch by more than 50 V means that K_NEG is welded. -/
def judgeTest2 (s : State) (c : ChainId) : State :=
  match (s.chain c).weldBase, s.vCh c with
  | some b, some w => if codeMv b + 50000 < codeMv w then weldFound s c 1 else s
  | _, _ => s

/-- OPENING_STEP_TIMER (R171, R168, R172): the next step of the opening whose time has passed. -/
def execOpeningStepTimer (c : ChainId) (s : State) : Res :=
  let ch := s.chain c
  let settle := s.clock + msNs * s.im.contSettle c
  let test := s.clock + 10 * msNs
  let go (t : State) (q : SeqStep) (d : Nat) : State := t.onChain c fun x => { x with seq := q, seqDue := some d }
  if ch.st != .opening || !due s.clock ch.seqDue then .next s
  else match ch.seq with
    | .openPos => .next (go s .openTest1 test)
    | .openTest1 =>
      let s1 := s.onChain c fun x => { x with iRef := some 0, u := 0, integ := 0, uPend := [] }
      .next (setCoil (go (judgeTest1 s1 c) .openNeg settle) c 1 false)
    | .openNeg => .next (setCoil (go s .openPreOn settle) c 2 true)
    | .openPreOn =>
      let v := s.vCh c
      .next ((go s .openTest2 test).onChain c fun x => { x with weldBase := v })
    | .openTest2 => .next (setCoil (go (judgeTest2 s c) .openPreOff settle) c 2 false)
    | .openPreOff => .next (finishOpen s c false)
    | .openShort1 => .next (setCoil (go s .openShort2 settle) c 1 false)
    | .openShort2 => .next (finishOpen s c false)
    | .abortPre => .next (finishOpen (setCoil s c 1 false) c ch.coolDue.isSome)
    | .forcePos => .next (setCoil (go s .forceNeg settle) c 1 false)
    | .forceNeg => .next (finishOpen s c true)
    | .none | .conDiag | .conNeg | .conPre | .conCharge | .conPos | .conPreOff => .next s

/-- FORCED_OPEN (R172): 20 ms after its block a rank-1 opening still finds |i| above I_ZERO. -/
def execForcedOpen (c : ChainId) (s : State) : Res :=
  let ch := s.chain c
  match ch.openReqAt with
  | none => .next s
  | some t =>
    if ch.st == .block && ch.openReq && !ch.opened && !s.quiet c && decide (t + 20 * msNs ≤ s.clock) then
      let settle := s.clock + msNs * s.im.contSettle c
      let i := match ch.iMeas with
        | some x => lo16 (tdiv x 10)
        | none => 0x8000
      .next (logEvent (setCoil (s.onChain c fun x =>
        { x with
          st := .opening
          seq := .forcePos
          seqDue := some settle
          forced := true
          openReqAt := none
          opsForced := sat 16 (x.opsForced + 1) }) c 0 false) 0x2005 i)
    else .next s

/-! ### Parking (R163, R164) -/

/-- Position of a module in the park records. -/
def parkIdx (c : ChainId) (m : Fin 32) : Fin 64 := ⟨32 * c.num + m.val, by cases c <;> simp [ChainId.num] <;> omega⟩

/-- Keep a module's park and pending causes in the records (R163). -/
def keepPark (s : State) (c : ChainId) (m : Fin 32) : State :=
  let r := (s.chain c).mods[m]
  s.onEst fun e => { e with park := e.park.set (parkIdx c m) (if r.st == .parked then r.cause else 0, r.pend) }

/-- The module stays PARKED: no unpark waits for the next trim period boundary. -/
def ModRec.held (r : ModRec) : Bool := r.st == .parked && !r.leave

/-- The chain keeps its minimum of available modules without module m. -/
def State.canPark (s : State) (c : ChainId) (m : Fin 32) : Bool :=
  let r := (s.chain c).mods[m]
  let n := if r.st != .parked && !r.lost then s.avail c - 1 else s.avail c
  decide (s.im.str.minModules ≤ n)

/-- DERATE clears with the last pending park request (R164). -/
def settleDerate (s : State) (c : ChainId) : State :=
  if s.anyPend c then s else s.onChain c fun ch => { ch with derate := false }

/-- The count of available modules bars a pending park request (R163): DERATE, and event 0x2008 once for the request. -/
def barPark (s : State) (c : ChainId) (m : Fin 32) : State :=
  let s1 := s.onChain c fun ch => { ch with derate := true }
  if (s.chain c).mods[m].barred then s1
  else logEvent (s1.onMod c m fun x => { x with barred := true }) 0x2008 m.val (s.avail c)

/-- A park request (R163): pending until carried out; barred by the count, it derates the chain. -/
def requestPark (s : State) (c : ChainId) (m : Fin 32) (cause : Nat) : State :=
  let r := (s.chain c).mods[m]
  if r.held || r.pend == cause then s
  else
    let s1 := keepPark (s.onMod c m fun x => { x with pend := if x.pend = 0 then cause else x.pend }) c m
    if s.canPark c m then s1 else barPark s1 c m

/-- Drop a module's pending request (R163). -/
def dropPend (s : State) (c : ChainId) (m : Fin 32) : State :=
  settleDerate (keepPark (s.onMod c m fun x => { x with pend := 0, barred := false }) c m) c

/-- CHA_PARK with GO (R163). -/
def opChaPark (c : ChainId) (m : Fin 32) (s : State) : RegRes :=
  if !s.declared c then (s, 0x00)
  else if s.nMods ≤ m.val then (s, 0x07)
  else if !s.arm.owner then (s, 0x04)
  else if s.chainLocked c then (s, 0x05)
  else (requestPark s c m 2, 0x00)

/-- CHA_PARK_GO (R163). -/
def execChaParkGo (p : Requester) (c : ChainId) (m : Fin 32) (s : State) : Res :=
  .next (regCmd s p fun s => withRight s p .configure (chaAddr c 0x60) (opChaPark c m))

/-- PARK_EXECUTE (R163): at a trim period boundary at which the module is not the trim module. A request that the count of
modules bars by now stays pending. -/
def execParkExecute (c : ChainId) (m : Fin 32) (s : State) : Res :=
  let r := (s.chain c).mods[m]
  if s.chainRuns c && r.pend != 0 && r.st != .parked && !r.trim then
    if s.canPark c m then
      let s1 := s.onMod c m fun x => { x with st := .parked, cause := r.pend, pend := 0, barred := false, trim := false }
      let s2 := s1.onChain c fun ch => { ch with order := ch.order.filter (· != m) }
      .next (watchActs (logEvent (settleDerate (keepPark s2 c m) c) 0x2007 m.val r.pend))
    else .next (barPark s c m)
  else .next s

/-- The class has a nameplate for modules of this many cells (R244, R249). -/
def State.hasPlate (s : State) (cls cells : Nat) : Bool :=
  decide (1 ≤ cls ∧ cls ≤ 8) && s.im.plate cls 0 != 0 && s.im.plate cls 1 == cells

/-- The cause of a park is still present (R164): an open wire or no passing open-wire test; a fault flag of the
sentinel, a failed balance switch, a deviating cell, a class without nameplate. A station request has no
lasting cause. -/
def State.parkCauseStands (s : State) (c : ChainId) (m : Fin 32) (cause : Nat) : Bool :=
  let r := (s.sen c).recs[m]
  match cause with
  | 1 => !r.owValid || r.ow != 0
  | 3 => r.status.getLsbD 10 || r.status.getLsbD 11 || r.bsw != 0 || r.cellRuns.toList.any (3 ≤ ·)
      || (r.idRead && !s.hasPlate r.cls r.nCells)
  | _ => false

/-- CHA_CLEAR.UNPARK (R163, R164): the module leaves PARKED at the next trim period boundary (R150). -/
def opUnpark (c : ChainId) (m : Fin 32) (s : State) : RegRes :=
  let r := (s.chain c).mods[m]
  if !s.declared c then (s, 0x00)
  else if s.nMods ≤ m.val then (s, 0x07)
  else if !s.arm.owner then (s, 0x04)
  else if s.chainLocked c then (s, 0x05)
  else if r.held then
    if s.parkCauseStands c m r.cause then (s, 0x04)
    else
      let s1 := s.onMod c m fun x => { x with leave := true, cause := 0 }
      (logEvent (settleDerate (keepPark s1 c m) c) 0x2009 m.val, 0x00)
  else if r.pend = 0 then (s, 0x00)
  else if r.pend = 2 then (dropPend s c m, 0x00)
  else (s, 0x04)

/-- CHA_CLEAR_UNPARK (R164). -/
def execChaClearUnpark (p : Requester) (c : ChainId) (m : Fin 32) (s : State) : Res :=
  .next (regCmd s p fun s => withRight s p .clear (chaAddr c 0x64) (opUnpark c m))

/-- CHA_CLEAR.WELD (R173). -/
def opClearWeld (c : ChainId) (s : State) : RegRes :=
  if !s.declared c then (s, 0x00)
  else if !s.arm.owner then (s, 0x04)
  else (s.onChain c fun ch => { ch with weldPos := false, weldNeg := false, weldPre := false }, 0x00)

/-- CHA_CLEAR_WELD (R173). -/
def execChaClearWeld (p : Requester) (c : ChainId) (s : State) : Res :=
  .next (regCmd s p fun s => withRight s p .clear (chaAddr c 0x64) (opClearWeld c))

/-! ### Learning (R176) -/

/-- One-hour current of a module's nameplate, 10 mA (spec/09). -/
def State.oneHour (s : State) (c : ChainId) (m : Fin 32) : Nat :=
  s.im.plate (s.es c).mods[m].cls 0 / 36000

/-- Highest and lowest voltage of the measured cells of a module, 100 µV. -/
def State.cellSpan (s : State) (c : ChainId) (m : Fin 32) : Option (Nat × Nat) :=
  ((s.measured c m).filterMap fun k => (s.sen c).recs[m].cells[k]).foldl
    (fun a v => match a with
      | none => some (v, v)
      | some (h, l) => some (max h v, min l v)) none

/-- The taper of a phase is reached (Table 07.7). -/
def State.taperDue (s : State) (c : ChainId) (l : LearnRec) : Bool :=
  match s.cellSpan c l.target with
  | none => false
  | some (h, lo) => (l.phase == 1 && decide (35000 ≤ h)) || (l.phase == 2 && decide (lo ≤ 29000))

/-- Amplitude of a phase, 10 mA (Table 07.7). -/
def State.learnAmp (s : State) (c : ChainId) (l : LearnRec) (taper : Bool) : Nat :=
  if !taper then 100 * s.im.learnAmp c
  else if l.phase = 1 then s.oneHour c l.target / 40
  else if l.phase = 2 then s.oneHour c l.target / 8
  else 100 * s.im.learnAmp c

/-- A phase of the cycle begins: event 0x200E. -/
def learnPhase (s : State) (c : ChainId) (phase : Nat) : State :=
  let l := (s.chain c).learn
  let amp := 100 * s.im.learnAmp c
  logEvent (s.onChain c fun ch => { ch with learn := { l with phase := phase, taper := false, amp := amp } })
    0x200E l.target.val phase

/-- Mean of the modules' SoC (Table 07.7, RETURN): the chain SoC of R224. -/
def State.returned (s : State) (c : ChainId) (m : Fin 32) : Bool :=
  match s.socDis c m, (s.es c).soc with
  | some x, some y => decide (((x : Int) - y).natAbs ≤ 200)
  | _, _ => false

/-- The cycle is complete (R176): its activity ends with it. -/
def completeLearn (s : State) (c : ChainId) : State :=
  (List.finRange 4).foldl (fun t i => if isLearn c t.mnt.acts[i] then endAct t 0 i else t) (endLearnCycle s c true)

/-- LEARN_HALF_PERIOD (R176): the wave changes sign, a taper reached takes its amplitude, and a RETURN that has
come within 2 % of the chain ends the cycle. Nothing happens while the cycle is paused. -/
def execLearnHalfPeriod (c : ChainId) (s : State) : Res :=
  let ch := s.chain c
  let l := ch.learn
  if !ch.learnOn || !due s.clock l.halfDue || s.learnPaused c then .next s
  else if ch.st != .run then .next (endLearn s c)
  else if l.phase = 3 && s.returned c l.target then .next (completeLearn s c)
  else
    let half := s.clock + msNs * s.im.learnPeriod c / 2
    let taper := l.taper || s.taperDue c l
    let amp := s.learnAmp c l taper
    .next (s.onChain c fun x =>
      { x with learn := { l with pos := !l.pos, halfDue := some half, taper := taper, amp := amp } })

end Sys2Proof.Machine
end

