-- ==== Sys2Proof/Machine/Accounts.lean ====
section
/-! DEFINITION. The charge accounts (spec/09): content and state of charge, anchors, learning cycles, module
resets, and the attribution of gaps. Shared by the sentinel chain, the estimation engine and start-up. -/

set_option Elab.async false

namespace Sys2Proof.Machine

/-- Value i of the nameplate of a module's class (Table 09.7). -/
def State.plateOf (s : State) (c : ChainId) (m : Fin 32) (i : Nat) : Nat := s.im.plate (s.es c).mods[m].cls i

/-- A STATE record write is due (R239). -/
def stateWriteDue (s : State) : State := s.onEst fun e => { e with stateDue := true }

/-- Content of a cell, µAs (R224). -/
def CellAcc.content (a : CellAcc) : Int := a.cRef - (a.q - a.qRef)

/-- SoC of a cell, 0.01 %, with the floor and ceiling of R228; none while it has no capacity (R224). -/
def CellAcc.socNow (a : CellAcc) : Option Nat :=
  if a.cap = 0 then none
  else
    let x := (clampI (tdiv (a.content * 10) a.cap) 0 10000).toNat
    let y := if a.confEmpty then max x 100 else x
    some (if a.confFull then min y 9900 else y)

/-- The SoC follows the account. -/
def CellAcc.settle (a : CellAcc) : CellAcc := { a with soc := a.socNow }

/-- U_k above n/100 of CAP_k (R225, R234). -/
def CellAcc.uncertain (a : CellAcc) (pct : Nat) : Bool :=
  match a.unc with
  | none => false
  | some u => decide (a.cap * pct * 2000 < u)

/-- U_k in µAs-based units of 1/200,000 mAs for n hundredths of the capacity. -/
def CellAcc.uncOf (a : CellAcc) (perMille : Nat) : Nat := a.cap * perMille * 200

/-- U_k rises by an amount of 1/200,000 mAs. -/
def CellAcc.raiseUnc (a : CellAcc) (n : Nat) : CellAcc := { a with unc := a.unc.map (· + n) }

/-! ### Learning cycles (R235, R236) -/

/-- A learning cycle of a cell is disqualified (R235). The chain engine's cycle on that module ends with it
(R176). -/
def disqualify (s : State) (c : ChainId) (m k : Fin 32) (cause : Nat) : State :=
  let s1 := s.onAcc c m fun a => { a with disq := cause }
  let s2 := s1.onEst fun e => { e with cntDisq := bump 8 e.cntDisq }
  let s3 := logEvent s2 0x4008 m.val k.val cause
  if (s.chain c).isTarget m then endLearn s3 c else s3

/-- Close an open cycle of a cell as disqualified. -/
def closeDisqualified (s : State) (c : ChainId) (m k : Fin 32) (cause : Nat) : State :=
  if (s.es c).mods[m].cells[k].openQ.isSome && s.im.learnEnable == 1 then
    disqualify (s.onCell c m k fun a => { a with openQ := none }) c m k cause
  else s.onCell c m k fun a => { a with openQ := none }

/-- Close every open cycle of a module as disqualified. -/
def closeModule (s : State) (c : ChainId) (cause : Nat) (m : Fin 32) : State :=
  ((List.finRange 32).filter fun k => decide (k.val < s.nCells)).foldl (fun t k => closeDisqualified t c m k cause) s

/-- Close every open cycle of every chain as disqualified. -/
def closeAll (s : State) (cause : Nat) : State :=
  s.forChains fun t c => t.modIdx.foldl (fun u m => closeModule u c cause m) t

/-- A cause of Table 09.3 occurs while the cycle is open: the lowest stays. -/
def CellAcc.mark (a : CellAcc) (cause : Nat) : CellAcc :=
  if a.openQ.isSome && (a.disq = 0 || cause < a.disq) then { a with disq := cause } else a

/-- The cycle of a cell opens at an anchor (R235). -/
def CellAcc.openCycle (a : CellAcc) (full : Bool) : CellAcc :=
  { a with openQ := some a.q, openFull := full, disq := 0, sumAbs := 0, nMs := 0 }

/-- |x − y| ≤ LEARN_BAND × y (R236). -/
def State.inBand (s : State) (x y : Nat) : Bool :=
  decide (1000 * ((x : Int) - y).natAbs ≤ s.im.learnBand * y)

/-- CAP_k after an accepted value M (R236). -/
def learnUpdate (s : State) (c : ChainId) (m k : Fin 32) (v : Nat) : State :=
  let a := (s.es c).mods[m].cells[k]
  let g := s.im.learnGain
  let change (n : Nat) : Nat := lo16 (tdiv (((n : Int) - a.cap) * 1000) a.cap)
  let counted (n : Nat) (t : State) : State :=
    let t1 := (t.onAcc c m fun x => { x with accepted := bump 8 x.accepted }).onEst fun e =>
      { e with cntAccepted := bump 8 e.cntAccepted }
    logEvent t1 0x4007 m.val k.val (change n)
  let take (n : Nat) : State :=
    counted n (stateWriteDue (s.onCell c m k fun x => { x with cap := n, cand := none, suspect := false }))
  if s.inBand v a.cap then take ((a.cap * (100 - g) + v * g) / 100)
  else
    match a.cand with
    | some d =>
      if s.inBand v d then take ((d + v) / 2)
      else logEvent (counted a.cap (stateWriteDue (s.onCell c m k fun x => { x with cand := some v }))) 0x4009 m.val k.val
    | none => logEvent (counted a.cap (stateWriteDue (s.onCell c m k fun x => { x with cand := some v }))) 0x4009 m.val k.val

/-- M of the cycle that closes now, mAs (R235). -/
def CellAcc.learned (a : CellAcc) (q0 : Int) : Nat := (a.q - q0).natAbs / 1000

/-- The cause for which a closing cycle is disqualified, 0 for an accepted one (Table 09.3). -/
def State.closeCause (s : State) (c : ChainId) (m : Fin 32) (a : CellAcc) (v : Nat) (conflict : Bool) : Nat :=
  let name := s.plateOf c m 0
  let rate := a.nMs != 0 && decide (name * a.nMs < 3600 * a.sumAbs)
  let seen := if rate && (a.disq = 0 || 2 < a.disq) then 2 else a.disq
  if seen != 0 then seen
  else if conflict then 6
  else if s.pwr.s2 then 8
  else if 2 * v < name || 120 * name < 100 * v then 11
  else 0

/-- Close the cell's cycle if this anchor is of the opposite kind; `conflict`: the anchor ends a conflict. The
answer says whether a cycle was disqualified. -/
def closeCycle (s : State) (c : ChainId) (m k : Fin 32) (full conflict : Bool) : State × Bool :=
  let a := (s.es c).mods[m].cells[k]
  match a.openQ with
  | none => (s, false)
  | some q0 =>
    if a.openFull == full || s.im.learnEnable != 1 then (s, false)
    else
      let v := a.learned q0
      let cause := s.closeCause c m a v conflict
      if cause = 0 then (learnUpdate s c m k v, false) else (disqualify s c m k cause, true)

/-! ### Anchors (R226 to R229) -/

/-- The account of a cell is tied to full or empty (R226, R229). -/
def CellAcc.anchor (a : CellAcc) (full : Bool) : CellAcc :=
  { a with
    cRef := if full then a.cap * 1000 else 0
    qRef := a.q
    unc := some (a.uncOf 5)
    confFull := if full then false else a.confFull
    confEmpty := if full then a.confEmpty else false
    crossed := 0
    fullSince := none
    emptySince := none }

/-- Every measured cell of the module has been anchored since its reset: SWAPPED clears (R245). -/
def State.allAnchored (s : State) (c : ChainId) (m : Fin 32) : Bool :=
  (s.measured c m).all fun k => (s.es c).mods[m].cells[k].anchored

/-- An anchor of a cell (R226): its cycle closes and opens anew, the account is tied, an empty anchor holds the
module's discharge (R227). The answer says whether a cycle was disqualified. -/
def anchorCell (s : State) (c : ChainId) (m k : Fin 32) (full : Bool) : State × Bool :=
  let a := (s.es c).mods[m].cells[k]
  let conflict := if full then a.confFull else a.confEmpty
  let r := closeCycle s c m k full conflict
  let s1 := r.1.onCell c m k fun x =>
    { ((x.anchor full).openCycle full).settle with hold := !full || x.hold, anchored := true }
  let s2 := s1.onAcc c m fun x =>
    { x with
      lastAnchor := if full then 1 else 2
      emptyHold := x.emptyHold || !full
      overmax := false
      floor := false }
  let s3 := if s2.allAnchored c m then s2.onAcc c m fun x => { x with swapped := false } else s2
  (logEvent (stateWriteDue s3) (if full then 0x4001 else 0x4002) m.val k.val, r.2)

/-- A re-anchoring at a voltage limit (R229): its cycle is disqualified with cause 7. -/
def reanchor (s : State) (c : ChainId) (m k : Fin 32) (full : Bool) : State :=
  let s1 := closeDisqualified s c m k 7
  let s2 := s1.onCell c m k fun x => { ((x.anchor full).openCycle full).settle with hold := !full || x.hold }
  let s3 := s2.onAcc c m fun x =>
    if full then { x with overmax := true } else { x with floor := true, emptyHold := true }
  logEvent (stateWriteDue s3) (if full then 0x4006 else 0x4005) m.val k.val

/-! ### Module resets (R244, R245) -/

/-- A cell of a module reset (R245). -/
def CellAcc.reset (a : CellAcc) (cap : Nat) : CellAcc :=
  let b : CellAcc :=
    { a with
      cap := cap
      cand := none
      openQ := none
      disq := 0
      suspect := false
      confFull := false
      confEmpty := false
      cRef := cap * 500
      qRef := a.q
      hold := false
      anchored := false
      crossed := 0
      fullSince := none
      emptySince := none
      restSince := none }
  { b with unc := some (b.uncOf 500) }.settle

/-- A module reset (R245): cause 0 serial, 1 class, 2 command. -/
def resetModule (s : State) (c : ChainId) (m : Fin 32) (why : Nat) : State :=
  let s1 := closeModule s c 10 m
  let r := (s.sen c).recs[m]
  let s2 := s1.onAcc c m fun a =>
    if why = 2 then a else { a with serial := r.serial, cls := r.cls, nCells := r.nCells }
  let cap := s2.plateOf c m 0
  let n := s.nCells
  let s3 := s2.onAcc c m fun a =>
    { a with
      swapped := true
      accepted := 0
      lastAnchor := 0
      emptyHold := false
      overmax := false
      floor := false
      absentHeld := false
      absentAt := none
      cells := Vector.ofFn fun k => if k.val < n then a.cells[k].reset cap else a.cells[k] }
  logEvent (stateWriteDue s3) 0x400F m.val why

/-- The identity of an enumerated module against the records (R244): a module whose serial or class differs is
reset; one without a nameplate is to be parked with cause 3. -/
def checkIdentity (s : State) (c : ChainId) (m : Fin 32) : State :=
  let r := (s.sen c).recs[m]
  let a := (s.es c).mods[m]
  if !r.idRead then s
  else
    let s1 :=
      if r.serial != a.serial || r.cls != a.cls then
        resetModule (logEvent s 0x3008 m.val r.cls) c m (if r.serial != a.serial then 0 else 1)
      else s
    if s.hasPlate r.cls r.nCells then s1
    else logEvent (requestPark s1 c m 3) 0x4011 m.val r.cls

/-! ### Time-based drain and gaps (R220, R240, R242, R247, R248) -/

/-- Self-discharge of a cell over a time, mAs: SELF_DIS × CAP × t, a month being 30 days. -/
def selfDis (rate cap ms : Nat) : Nat := rate * cap * ms / (10000 * 30 * 86400 * 1000)

/-- The drain of a sleeping sentinel and the self-discharge of a time, on one cell: U_k rises by a part of the self-discharge
in hundredths, half of it after hibernation (R248), all of it after an absence (R247). -/
def CellAcc.drain (a : CellAcc) (rate ms part : Nat) : CellAcc :=
  let sd := selfDis rate a.cap ms
  ({ a with q := a.q + ms / 20 + 1000 * sd }.raiseUnc (2000 * part * sd)).settle

/-- The time-based drain of every cell of a module. -/
def drainModule (s : State) (c : ChainId) (ms part : Nat) (m : Fin 32) : State :=
  let rate := s.plateOf c m 6
  let n := s.nCells
  s.onAcc c m fun a =>
    { a with cells := Vector.ofFn fun k => if k.val < n then a.cells[k].drain rate ms part else a.cells[k] }

/-- The modules whose counters run: those that are not absent (R247). -/
def State.present (s : State) (c : ChainId) : List (Fin 32) := s.modIdx.filter fun m => (s.es c).mods[m].absentAt.isNone

/-- The time-based drain of a chain over a hibernation, or a time without power to the integrator (R242, R248). -/
def drainChain (s : State) (c : ChainId) (ms : Nat) : State := (s.present c).foldl (fun t m => drainModule t c ms 50 m) s

/-- An absent module has returned (R247): its counters resume, after the drain of its absence. -/
def endAbsence (s : State) (c : ChainId) (m : Fin 32) : State :=
  match (s.es c).mods[m].absentAt with
  | none => s
  | some t =>
    (drainModule s c ((s.clock - t) / msNs) 100 m).onAcc c m fun a => { a with absentAt := none, absentHeld := false }

/-- A charge over a time without counting on one module: every cell's uncertainty rises by |q| of the chain (R220). -/
def gapModule (s : State) (c : ChainId) (share qGap : Int) (m : Fin 32) : State :=
  let n := s.nCells
  s.onAcc c m fun a =>
    { a with
      q := a.q + share
      cells := Vector.ofFn fun k =>
        if k.val < n then
          ({ a.cells[k] with q := a.cells[k].q + share }.raiseUnc (200 * qGap.natAbs)).settle
        else a.cells[k] }

/-- The charge of a gap on every module that is counted, by its share (R220). -/
def chargeGap (s : State) (c : ChainId) (qGap : Int) (share : Fin 32 → Int) : State :=
  (s.present c).foldl (fun t m => gapModule t c (share m) qGap m) s

end Sys2Proof.Machine
end

