-- ==== Sys2Proof/Machine/Nvm.lean ====
section
/-! DEFINITION. The bytes of an image slot in the non-volatile memory (spec/02 Table 02.5, spec/03): a list of
(offset, byte) pairs with rising offsets, in which no listed byte equals what an unlisted one reads as. -/

set_option Elab.async false

namespace Sys2Proof.Machine

/-- What an erased byte reads as. DESIGN CHOICE: all ones (log entry 7). -/
def erasedByte : Byte := 0xFF#8

/-- Bytes of an image slot (6 MiB). -/
def slotSize : Nat := 0x600000

/-- The byte at an offset. -/
def nvmRead : List Host.Cell → Nat → Byte
  | [], _ => erasedByte
  | (k, v) :: r, a => if k = a then v else nvmRead r a

/-- One byte written. -/
def nvmPut : List Host.Cell → Nat → Byte → List Host.Cell
  | [], a, b => if b = erasedByte then [] else [(a, b)]
  | (k, v) :: r, a, b =>
    if a < k then (if b = erasedByte then (k, v) :: r else (a, b) :: (k, v) :: r)
    else if a = k then (if b = erasedByte then r else (a, b) :: r)
    else (k, v) :: nvmPut r a b

/-- A run of bytes written from an offset on. -/
def nvmWrite : List Host.Cell → Nat → List Byte → List Host.Cell
  | m, _, [] => m
  | m, a, b :: bs => nvmWrite (nvmPut m a b) (a + 1) bs

/-- Every listed offset lies above a bound, offsets rise, and no listed byte is an erased one. -/
def nvmWfFrom : Nat → List Host.Cell → Bool
  | _, [] => true
  | lo, (k, v) :: r => decide (lo ≤ k) && v != erasedByte && nvmWfFrom (k + 1) r

/-- The canonical form. -/
def Memory.wf (m : List Host.Cell) : Bool := nvmWfFrom 0 m

/-! ### The two slots (spec/03) -/

/-- The slot that takes staged data: the one the device does not run from; the one not marked active when it runs
none. -/
def State.stagingSlot (s : State) : Bool := !s.runSlot

/-- What the non-volatile memory holds of a slot. -/
def State.slotHeld (s : State) (b : Bool) : List Host.Cell := if b then s.img.slotB else s.img.slotA

/-- Cells of a slot: those of the staging slot with the chunks that wait for a record write to end (R48). -/
def State.slotCells (s : State) (b : Bool) : List Host.Cell :=
  if b == s.stagingSlot then s.img.waiting.foldr (fun x m => nvmWrite m x.1 x.2) (s.slotHeld b) else s.slotHeld b

/-- A slot holds an uncorrectable error (R35). -/
def State.slotErr (s : State) (b : Bool) : Bool := if b then s.img.slotBErr else s.img.slotAErr

/-- A slot's cells replaced. -/
def putSlot (i : Img) (b : Bool) (m : List Host.Cell) : Img := if b then { i with slotB := m } else { i with slotA := m }

/-- The staging chunks that waited for a record write are written (R48). -/
def flushStaging (s : State) : State :=
  if s.img.waiting.isEmpty then s
  else
    let m := s.slotCells s.stagingSlot
    s.onImg fun i => { putSlot i s.stagingSlot m with waiting := [] }

end Sys2Proof.Machine
end

