-- ==== Sys2Proof/Machine/Sentinel.lean ====
section
/-! DEFINITION. The module sentinel chain as the device sees it (spec/08): wake and enumeration, strobes,
samples, sense wires, module diagnostics, silence and loss. Rows 121 to 135. -/

set_option Elab.async false

namespace Sys2Proof.Machine

/-- Address of a register of a sentinel chain's block. -/
def snaAddr (c : ChainId) (off : Nat) : Word := BitVec.ofNat 32 (0x80000 + 0x10000 * c.num + off)

/-! ### Wake, enumeration, sleep -/

/-- The chain may sleep (R211): ABSENT, or BLOCK with contactors open. -/
def State.maySleep (s : State) (c : ChainId) : Bool :=
  (s.chain c).st == .absent || ((s.chain c).st == .block && (s.chain c).opened)

/-- The ends that this device drives (R180). -/
def State.ownEnds (s : State) : List Bool := if s.simplex then [false, true] else [s.dev.member]

/-- SNA_CMD = WAKE (R193): both ends send idle. Event 0x3011: 0 asleep, 1 woken, 2 refused. -/
def opSnaWake (c : ChainId) (s : State) : RegRes :=
  if !s.declared c then (s, 0x00)
  else if !s.arm.owner || !s.maySleep c then (logEvent s 0x3011 2, 0x04)
  else
    let t := s.clock + 9 * msNs
    (watchActs (logEvent (sendEnds (s.onSen c fun x =>
      { x with stage := .waking, wakeDue := some t, strobed := false, awaited := false, srqQ := [] }) s.ownEnds (.wakeTone c))
      0x3011 1), 0x00)

/-- The sentinels of a chain sleep: it is ABSENT. -/
def putToSleep (s : State) (c : ChainId) : State :=
  (s.onSen c fun x => { x with stage := .asleep, wakeDue := none, strobed := false, awaited := false, srqQ := [] }).onChain c
    fun ch => { ch with st := .absent, fMod := 0 }

/-- SNA_CMD = SLEEP (R211): the chain is ABSENT once its sentinels sleep. -/
def opSnaSleep (c : ChainId) (s : State) : RegRes :=
  if !s.declared c then (s, 0x00)
  else if !s.arm.owner || !s.maySleep c then (logEvent s 0x3011 2, 0x04)
  else
    (watchActs (logEvent (putToSleep (sendChain s c fun e => .senFrame c e (sleepFrame e)) c) 0x3011 0), 0x00)

/-- SNA_CMD_WAKE. -/
def execSnaCmdWake (p : Requester) (c : ChainId) (s : State) : Res :=
  .next (regCmd s p fun s => withRight s p .operate (snaAddr c 4) (opSnaWake c))

/-- SNA_CMD_SLEEP. -/
def execSnaCmdSleep (p : Requester) (c : ChainId) (s : State) : Res :=
  .next (regCmd s p fun s => withRight s p .operate (snaAddr c 4) (opSnaSleep c))

/-- The records at the start of an enumeration: counters at 0, nothing reached yet (R187, R195). -/
def beginEnum (x : Sen) : Sen :=
  { x with
    stage := .enumerating
    wakeDue := none
    hopUp := none
    hopDown := none
    extra := false
    conflict := false
    brk := none
    intact := false
    cntHead := 0
    cntTail := 0
    iState := none
    srqQ := []
    struck := false
    recs := x.recs.map fun r =>
      { r with
        cnt := 0
        cntMark := 0
        resend := false
        sent := []
        idRead := false
        reachHead := false
        reachTail := false
        termDone := false
        back := 0
        backRuns := 0
        misses := 0
        got := false
        dlyHead := none
        dlyTail := none
        rtHead := []
        rtTail := []
        idHead := none
        idTail := none } }

/-- ENUM_START (R193, R194): ENUM leaves the ends that enumerate, HEAD first, and then every address is read with
READ_ID. -/
def execEnumStart (c : ChainId) (s : State) : Res :=
  if s.declared c && s.arm.owner && (s.sen c).stage == .waking then
    .next ((List.finRange 32).foldl (fun t m => sendSrq t c m 1 [])
      (sendEnds (s.onSen c beginEnum) s.ownEnds fun e => .senFrame c e (enumFrame e s.nMods)))
  else .next s

/-- A frame that fails its CRC (R183). -/
def badFrame (s : State) (c : ChainId) : State := s.onSen c fun x => { x with cntCrc := bump 8 x.cntCrc }

/-- ENUM_RETURN (R195): an ENUM sent from one end arrives at the other with its HOP. A member that tracks sees
the enumeration of its partner here. -/
def execEnumReturn (c : ChainId) (b : List Byte) (s : State) : Res :=
  let st := (s.sen c).stage
  if !s.declared c then .next s
  else if !senCrcOk b then .next (badFrame s c)
  else
    match enumOf b with
    | none => .next s
    | some (fromTail, hop, _) =>
      if s.arm.owner && st != .enumerating then .next s
      else
        let s1 := if st == .enumerating then s else s.onSen c beginEnum
        .next (s1.onSen c fun x =>
          let y := if fromTail then { x with hopDown := some hop } else { x with hopUp := some hop }
          { y with conflict := y.conflict || decide (32 < hop), extra := y.extra || decide (s.nMods < hop) })

/-- SSEQ of the strobe after a number of further loop periods. -/
def State.sseqAfter (s : State) (periods : Nat) : Nat := ((s.tim.time + 50000 * periods) / 1000000 + 1) % 256

/-- Loop periods that the requests of the enumeration still take, at one request each (R185): those that wait, and two
CONFIG, TERM_DIAG and READ_TEST for every module that has not answered READ_ID. -/
def State.enumRest (s : State) (c : ChainId) : Nat :=
  (s.sen c).srqQ.length + 4 * (s.modIdx.filter fun m => !(s.sen c).recs[m].idRead).length

/-- The configuration that the device writes to a sentinel, in two requests (R194, R210). FILTER names the first strobe after
the enumeration, as far as the requests that it still takes tell (log entry 47), or for a module enumerated again the next one.
FMOD is the image's at an enumeration and the chain's own at any other time (R192). -/
def configure (s : State) (c : ChainId) (m : Fin 32) : State :=
  let enum := (s.sen c).stage == .enumerating
  let next := s.sseqAfter (if enum then s.enumRest c + 4 else 0)
  let r := (s.sen c).recs[m]
  let s1 := sendSrq s c m 2 (cfgItem 1 s.nCells ++ cfgItem 2 (if enum then s.im.fMod c else s.fModNow c)
    ++ cfgItem 3 (s.im.filter c + 256 * next))
  sendSrq s1 c m 2 (cfgItem 4 (r.dlyHead.getD 0) ++ cfgItem 5 (r.dlyTail.getD 0) ++ cfgItem 6 (s.im.bleedTimeout c))

/-- A module is lost (R162): BLOCK, out of the list, event 0x200A. -/
def declareLost (s : State) (c : ChainId) (m : Fin 32) : State :=
  if (s.chain c).mods[m].lost then s
  else
    let s1 := s.onRec c m fun r => { r with lost := true, back := 0, backRuns := 0 }
    let s2 := s1.onMod c m fun x => { x with lost := true, st := if x.st == .parked then x.st else .block }
    watchActs (logEvent (s2.onChain c fun ch =>
      { ch with cntLost := bump 8 ch.cntLost, order := ch.order.filter (· != m) }) 0x200A m.val)

/-- A lost module has been enumerated again (R162, R210). -/
def unlose (s : State) (c : ChainId) (m : Fin 32) : State :=
  (s.onRec c m fun r => { r with lost := false, absent := false, back := 0, backRuns := 0, misses := 0 }).onMod c m
    fun x => { x with lost := false }

/-- The end from which this device reaches a module, if any (R195): either end in simplex, its own in duplex. -/
def State.reached (s : State) (c : ChainId) (m : Fin 32) : Bool :=
  let r := (s.sen c).recs[m]
  if s.simplex then r.reachHead || r.reachTail else if s.dev.member then r.reachTail else r.reachHead

/-- HOP with which an ENUM crossed the whole loop: in duplex as the partner reports it. -/
def State.loopHop (s : State) (c : ChainId) : Option Nat :=
  let x := s.sen c
  if s.simplex || !s.arm.owner then (match x.hopUp with | some h => some h | none => x.hopDown)
  else match s.dvt.mirror with
    | none => none
    | some m => match c with
      | .a => m.hopA
      | .b => m.hopB

/-- Modules reached from an end. -/
def State.reachedFrom (s : State) (c : ChainId) (tail : Bool) : List (Fin 32) :=
  s.modIdx.filter fun m => if tail then (s.sen c).recs[m].reachTail else (s.sen c).recs[m].reachHead

/-- The enumeration shows another number of modules than the image declares, or an address twice (R195). -/
def State.enumBad (s : State) (c : ChainId) : Bool :=
  (s.sen c).extra || (s.sen c).conflict || (s.loopHop c).any (· != s.nMods)

/-- The link of a broken loop, behind the last module that HEAD reaches (R195): only simplex sees both ends. -/
def State.brokenLink (s : State) (c : ChainId) : Option Nat :=
  let r := (s.sen c).recs
  if s.simplex && (s.loopHop c).isNone && s.modIdx.any fun m => r[m].reachHead != r[m].reachTail then
    some ((s.reachedFrom c false).foldl (fun a m => max a (m.val + 1)) 0)
  else none

/-- Modules reached are present, and their identities are checked (R244); those not reached are lost (R162). -/
def settleModules (s : State) (c : ChainId) : State :=
  let s1 := (s.modIdx.filter (s.reached c)).foldl (fun t m => checkIdentity (unlose t c m) c m) s
  (s.modIdx.filter fun m => !s.reached c m).foldl (fun t m => declareLost t c m) s1

/-- ENUMERATION_COMPLETE (R195): enumerated, broken or mismatched; modules not reached are lost; identities are
checked (R244). -/
def execEnumerationComplete (c : ChainId) (s : State) : Res :=
  if !s.declared c || (s.sen c).stage != .enumerating then .next s
  else
    let nh := (s.reachedFrom c false).length
    let nt := (s.reachedFrom c true).length
    let link := s.brokenLink c
    let intact := (s.loopHop c).isSome
    let now := s.clock
    let corner := s.im.filter c
    let next := s.sseqAfter 0
    let f := s.im.fMod c
    if s.enumBad c then
      .next (logEvent (s.onSen c fun y => { y with cntHead := nh, cntTail := nt, stage := .mismatch }) 0x3002 nh nt)
    else
      let s1 := s.onSen c fun y =>
        { y with
          cntHead := nh
          cntTail := nt
          stage := .enumerated
          brk := link
          intact := intact
          filterNext := some (corner, next)
          owDue := some now }
      let s2 := (settleModules s1 c).onChain c fun ch => { ch with st := if ch.st == .absent then .block else ch.st, fMod := f }
      let s3 := if link.isSome then logEvent s2 0x3003 (link.getD 0) else s2
      .next (logEvent s3 0x3001 (s.modIdx.filter (s.reached c)).length (link.getD 0x3F))

/-! ### Strobes and delays -/

/-- SSEQ of the next strobe instant (R197). -/
def State.nextSseq (s : State) : Nat := (s.tim.time / 1000000 + 1) % 256

/-- t_L, the next strobe instant less STROBE_LEAD (R198). -/
def State.launchTime (s : State) (c : ChainId) : Nat := (s.tim.time / 1000000 + 1) * 1000000 - 1000 * s.im.strobeLead c

/-- A strobe was sent or seen for the next t_s. -/
def markStrobe (s : State) (c : ChainId) (res : Nat) : State :=
  s.onSen c fun x => { x with sseq := s.nextSseq, res := res, strobed := true, struck := true }

/-- STROBE_LAUNCH (R198): the owner launches at t_c, the last character boundary at or before t_L, with RES = t_L − t_c; in
a broken loop from both ends (R195). A tracking member sees the partner's STROBE on its lane, with the RES that it carries
(R202). -/
def execStrobeLaunch (c : ChainId) (seen : Nat) (s : State) : Res :=
  if !s.declared c || (s.sen c).stage != .enumerated then .next s
  else if s.arm.owner then
    let tL := s.launchTime c
    if s.tim.time ≤ tL ∧ tL < s.tim.time + 100 then
      .next (sendChain (markStrobe s c (tL - s.tim.time)) c fun e => .strobe c e (tL - s.tim.time))
    else .next s
  else if seen < 100 then .next (markStrobe s c seen)
  else .next s

/-- The end from which this period's PING leaves: HEAD on even SSEQ, TAIL on odd (Table 08.3). -/
def State.pingTail (s : State) (c : ChainId) : Bool := (s.sen c).sseq % 2 == 1

/-- The module pinged longest ago from an end among those reachable from it. -/
def State.pingNext (s : State) (c : ChainId) (tail : Bool) : Option (Fin 32) :=
  let r := (s.sen c).recs
  let last (m : Fin 32) : Nat := if tail then r[m].pingTail else r[m].pingHead
  (s.modIdx.filter fun m => if tail then r[m].reachTail else r[m].reachHead).foldl
    (fun a m => match a with
      | none => some m
      | some b => if last m < last b then some m else some b) none

/-- A PING from an end, whose PING_ID its PONG must carry. -/
def pingFrom (c : ChainId) (s : State) (tail : Bool) : State :=
  match s.pingNext c tail with
  | none => s
  | some m =>
    let now := s.clock
    let id := ((s.sen c).pingId + 1) % 256
    send ((s.onSen c fun x => { x with pingId := id }).onRec c m fun r =>
      if tail then { r with pingTail := now, idTail := some id } else { r with pingHead := now, idHead := some id })
      (.senFrame c tail (pingFrame tail m id))

/-- PING_TIMER (R199): one PING in the ping window, from the end whose turn it is. Before the first strobe after enumeration
every end that the device holds sends one (R185, Table 08.8). -/
def execPingTimer (c : ChainId) (s : State) : Res :=
  let x := s.sen c
  if !s.declared c || !(x.stage == .enumerated || x.stage == .enumerating) then .next s
  else .next ((s.ownEnds.filter fun e => !x.struck || e == s.pingTail c).foldl (pingFrom c) s)

/-- Write a new delay for an end when the median has moved (R199). Only the commanding end can send the CONFIG. -/
def writeDelay (s : State) (c : ChainId) (m : Fin 32) (tail : Bool) : State :=
  let r := (s.sen c).recs[m]
  let xs := if tail then r.rtTail else r.rtHead
  let old := if tail then r.dlyTail else r.dlyHead
  match median (xs.map Int.ofNat) with
  | none => s
  | some v =>
    let n := v.toNat
    let moved (d : Nat) : Bool := match old with
      | none => true
      | some o => decide (d < ((n : Int) - o).natAbs)
    if s.arm.owner && moved (s.im.dlyStep c) then
      let s1 := sendSrq (s.onRec c m fun x => if tail then { x with dlyTail := some n } else { x with dlyHead := some n })
        c m 2 (cfgItem (if tail then 5 else 4) n)
      if old.isSome && moved 20 then logEvent s1 0x3012 m.val (if tail then 1 else 0) else s1
    else s

/-- PONG_RX (R199): the one-way delay of the PING that it answers, median of the last 8. TA is in 10 ns units. -/
def execPongRx (c : ChainId) (b : List Byte) (roundTrip : Nat) (s : State) : Res :=
  if !s.declared c then .next s
  else if !senCrcOk b then .next (badFrame s c)
  else
    match pongOf b with
    | none => .next s
    | some (m, tail, id, ta) =>
      let r := (s.sen c).recs[m]
      if (if tail then r.idTail else r.idHead) != some id then .next s
      else
        let d := (roundTrip - 10 * ta) / 2
        let s1 := s.onRec c m fun x =>
          if tail then { x with rtTail := (d :: x.rtTail).take 8, idTail := none }
          else { x with rtHead := (d :: x.rtHead).take 8, idHead := none }
        .next (writeDelay s1 c m tail)

/-! ### Service answers (R191, R194, R196, R208, R209, R210) -/

/-- READ_ID has answered. -/
def takeId (s : State) (c : ChainId) (m : Fin 32) (tail : Bool) (data : BitVec 96) : State :=
  let r := (s.sen c).recs[m]
  let serial : BitVec 64 := data.truncate 64
  let cls := ((data >>> 64).truncate 8).toNat % 16
  let cells := ((data >>> 72).truncate 8 : BitVec 8).toNat
  let rev := ((data >>> 80).truncate 8 : BitVec 8).toNat
  let enum := (s.sen c).stage == .enumerating
  if s.nMods ≤ m.val then (if enum then s.onSen c fun x => { x with extra := true } else s)
  else if enum && r.idRead && r.serial != serial then s.onSen c fun x => { x with conflict := true }
  else
    let s1 := s.onRec c m fun x =>
      { x with
        serial := serial
        cls := cls
        nCells := cells
        hwRev := rev
        idRead := true
        reachHead := x.reachHead || (enum && !tail)
        reachTail := x.reachTail || (enum && tail) }
    let a := (s.es c).mods[m]
    if enum then (if r.idRead then s1 else sendSrq (configure s1 c m) c m 6 [])
    else if r.lost && r.back != 2 && a.serial == serial && a.cls == cls then
      sendSrq (configure (s1.onRec c m fun x => { x with back := 1 }) c m) c m 6 []
    else s1

/-- The bleed current that the test of cell k has measured, µA: READ_TEST does not carry it, so a free value, within 180 to
220 mA where the cell has passed (R208, R219; log entry 48). -/
def State.measuredUa (s : State) (failed : Bool) (k : Nat) : Nat :=
  if failed then s.freeN (96 + k) else 180000 + s.freeN (96 + k) % 40001

/-- A balance-switch test has ended (R208): the failed cells, the currents of the tested ones, and a switch stuck on, which
bleeds without a request. -/
def endBsw (s : State) (c : ChainId) (m : Fin 32) (cell : Nat) (mask : BitVec 32) : State :=
  let r := (s.sen c).recs[m]
  let tested (k : Fin 32) : Bool := decide (k.val < s.nCells) && (cell == 0xFF || cell == k.val)
  let s1 := s.onRec c m fun x => { x with bsw := mask, bswCell := none }
  let s2 := nextFree (s1.onAcc c m fun a =>
    { a with
      cells := Vector.ofFn fun k =>
        if tested k then { a.cells[k] with bleedUa := s.measuredUa (mask.getLsbD k.val) k.val } else a.cells[k] })
  let s3 := ((List.finRange 32).filter fun k => mask.getLsbD k.val).foldl (fun v k => logEvent v 0x300E m.val k.val) s2
  if mask != 0 && r.status.getLsbD 8 && r.bleed == 0 then requestPark s3 c m 3 else s3

/-- READ_TEST has answered: balance-switch result, then terminal diagnostics (0 pass). -/
def takeTest (s : State) (c : ChainId) (m : Fin 32) (data : BitVec 96) : State :=
  let mask : BitVec 32 := data.truncate 32
  let done := (data >>> 32).truncate 8 == 1#8
  let term := ((data >>> 40).truncate 8 : BitVec 8).toNat
  let s1 := match (if done then (s.sen c).recs[m].bswCell else none) with
    | none => s
    | some k => endBsw s c m k mask
  let s2 := s1.onRec c m fun x => { x with termDone := true, back := if x.lost && x.back = 1 && term = 0 then 2 else x.back }
  if term = 0 then s2 else requestPark (logEvent s2 0x300F m.val term) c m 3

/-- A sentinel has answered a CONFIG of a SENT_UPDATE activity. -/
def takeConfig (s : State) (c : ChainId) (m : Fin 32) : State :=
  s.onMnt fun t => { t with acts := t.acts.map fun a => match a with
    | none => none
    | some v => if v.code == .sentUpdate && v.chain == c then
        some { v with answered := v.answered ||| BitVec.ofNat 32 (2 ^ m.val) } else some v }

/-- What an answer does, by its operation (Table 08.6). RESULT 0 is done, the others are refusals. -/
def takeAnswer (s : State) (c : ChainId) (x : SrsFrame) : State :=
  match x.op with
  | 1 => if x.result = 0 then takeId s c x.mod x.tail x.data else s
  | 2 => if x.result = 0 then takeConfig s c x.mod else s
  | 5 => if x.result = 0 then s else s.onRec c x.mod fun r => { r with bswCell := none }
  | 6 => if x.result = 0 then sendSrq s c x.mod 8 [] else s
  | 8 => if x.result = 0 then takeTest s c x.mod x.data else s
  | _ => s

/-- SRS_RX (R191). -/
def execSrsRx (c : ChainId) (b : List Byte) (s : State) : Res :=
  if !s.declared c then .next s
  else if !senCrcOk b then .next (badFrame s c)
  else
    match srsOf b with
    | none => .next s
    | some x => .next (takeAnswer s c x)

/-! ### Samples (R188 to R190, R207, R210) -/

/-- Sum of the configured cells less VMOD, 2 mV (R206). -/
def dsumOf (n : Nat) (f : SampleFrame) : Option Int :=
  let sum := (f.cells.take n).foldl (fun a v => match a, v with
    | some p, some q => some (p + q)
    | _, _ => none) (some 0)
  match sum, f.vmod with
  | some x, some v => some (tdiv ((x : Int) - 20 * v) 20)
  | _, _ => none

/-- The record of a module takes a SAMPLE. -/
def storeSample (n ts : Nat) (f : SampleFrame) (r : SenRec) : SenRec :=
  { r with
    sseq := f.sseq
    echo := f.echo
    status := f.status
    vmod := f.vmod
    dsum := dsumOf n f
    cells := Vector.ofFn fun k => if k.val < n then f.cells.getD k.val none else none
    temps := Vector.ofFn fun t => f.temps.getD t.val none
    applied := f.applied
    thOpen := f.thOpen
    sampleTs := some ts
    got := true
    misses := 0 }

/-- The echo is behind the last command before the strobe (R188): the set is sent again. -/
def checkEcho (s : State) (c : ChainId) (m : Fin 32) : State :=
  let r := (s.sen c).recs[m]
  let d := (r.cntMark - r.echo).toNat
  if d = 0 || 128 ≤ d then s
  else
    logEvent ((s.onRec c m fun x => { x with resend := true }).onSen c fun x =>
      { x with cntLostCmd := bump 8 x.cntLostCmd }) 0x3005 m.val r.echo.toNat

/-- The STATUS bits of a SAMPLE (Table 08.5). `old`: the status of the previous one. -/
def takeStatus (s : State) (c : ChainId) (m : Fin 32) (old : BitVec 16) : State :=
  let st := (s.sen c).recs[m].status
  let s1 := if st.getLsbD 3 then logEvent s 0x3010 m.val else s
  let s2 := if st.getLsbD 4 then
      logEvent (s1.onSen c fun x => { x with cntDup := bump 8 x.cntDup }) 0x3006 m.val else s1
  let s3 := if st.getLsbD 6 then
      logEvent (s2.onChain c fun x => { x with cntLate := bump 8 x.cntLate }) 0x200D m.val else s2
  let s4 := if st.getLsbD 7 then
      logEvent (s3.onChain c fun x => { x with cntReject := bump 8 x.cntReject }) 0x200C m.val else s3
  let s5 := if st.getLsbD 10 || st.getLsbD 11 then requestPark s4 c m 3 else s4
  if old.getLsbD 9 && !st.getLsbD 9 && (s.sen c).recs[m].bswCell.isSome then sendSrq s5 c m 8 [] else s5

/-- The lowest open wire. -/
def lowestBit (x : BitVec 33) : Nat := ((List.range 33).find? x.getLsbD).getD 0x3F

/-- A new open-wire result (R207): an open wire confirms a break and asks for parking with cause 1; a pass ends
a suspicion, and drops a pending request of that cause. -/
def takeOpenWire (s : State) (c : ChainId) (m : Fin 32) (ow : BitVec 33) : State :=
  let r := (s.sen c).recs[m]
  let s1 := s.onRec c m fun x => { x with ow := ow, owValid := true }
  if ow != 0 then
    let w := lowestBit ow
    let s2 := s1.onRec c m fun x => { x with brkConf := true, wire := some w }
    requestPark (if r.brkConf && r.wire == some w then s2 else logEvent s2 0x300B m.val w) c m 1
  else
    let s2 := s1.onRec c m fun x => { x with brkConf := false, brkSusp := false, wire := none, unmeasured := 0 }
    let s3 := if r.brkSusp then logEvent s2 0x300C m.val else s2
    if (s.chain c).mods[m].pend = 1 then dropPend s3 c m else s3

/-- All thermistors of a module read open (R210, R247): absent, and lost. -/
def takeAbsence (s : State) (c : ChainId) (m : Fin 32) : State :=
  let r := (s.sen c).recs[m]
  let now := s.clock
  if r.thOpen == 0xFF#8 && !r.absent then
    let s1 := (s.onRec c m fun x => { x with absent := true }).onAcc c m fun a =>
      { a with absentHeld := true, absentAt := some (a.absentAt.getD now) }
    declareLost (closeModule (logEvent s1 0x3009 m.val) c 4 m) c m
  else s

/-- The SAMPLEs that end a renewed enumeration (R210): three in a row with TH_OPEN not 0xFF. -/
def takeReturn (s : State) (c : ChainId) (m : Fin 32) : State :=
  let r := (s.sen c).recs[m]
  if r.lost && r.back = 2 then
    if r.thOpen == 0xFF#8 then s.onRec c m fun x => { x with backRuns := 0 }
    else if 2 ≤ r.backRuns then endAbsence (unlose s c m) c m
    else s.onRec c m fun x => { x with backRuns := x.backRuns + 1 }
  else s

/-- A module that the records hold as absent, and that was never lost since, shows its thermistors again (R247). -/
def takePresence (s : State) (c : ChainId) (m : Fin 32) : State :=
  let r := (s.sen c).recs[m]
  if r.lost || r.thOpen == 0xFF#8 then s else endAbsence s c m

/-- A pending request of cause 3 is dropped once its cause is gone (R163). -/
def dropGone (s : State) (c : ChainId) (m : Fin 32) : State :=
  if (s.chain c).mods[m].pend = 3 && !s.parkCauseStands c m 3 then dropPend s c m else s

/-- What the first copy of a SAMPLE does (R188 to R190, R207, R210). -/
def takeSample (s : State) (c : ChainId) (m : Fin 32) (f : SampleFrame) : State :=
  let s1 := s.onRec c m (storeSample s.nCells (s.sen c).strobeAt f)
  let s2 := takeStatus (checkEcho s1 c m) c m (s.sen c).recs[m].status
  let s3 := if f.owNew then takeOpenWire s2 c m f.owOpen else s2
  dropGone (takePresence (takeReturn (takeAbsence s3 c m) c m) c m) c m

/-- SAMPLE_RX (R190): the copies on the two lanes carry one sample, of which the first counts. -/
def execSampleRx (c : ChainId) (b : List Byte) (s : State) : Res :=
  if !s.declared c then .next s
  else if !senCrcOk b then .next (badFrame s c)
  else
    match sampleOf b with
    | none => .next s
    | some (m, f) =>
      if s.nMods ≤ m.val || (s.sen c).stage != .enumerated || f.sseq != (s.sen c).sseq || (s.sen c).recs[m].got then .next s
      else .next (takeSample s c m f)

/-! ### Judging a sample set (R206; spec/11 sources 0x21, 0x22) -/

/-- Deviation of a measured cell from the median of the measured cells, 100 µV. -/
def State.cellDev (s : State) (c : ChainId) (m : Fin 32) (k : Nat) : Option Int :=
  let r := (s.sen c).recs[m]
  if h : k < 32 then
    match r.cells[k], median ((s.measured c m).filterMap fun j => r.cells[j].map Int.ofNat) with
    | some v, some md => if r.unmeasured.getLsbD k || s.nCells ≤ k then none else some ((v : Int) - md)
    | _, _ => none
  else none

/-- |dev| beyond BREAK_DV. -/
def State.devBig (s : State) (c : ChainId) (m : Fin 32) (k : Nat) : Bool :=
  match s.cellDev c m k with
  | none => false
  | some d => decide (10 * s.im.breakDv c < d.natAbs)

/-- |DSUM| is within SUM_TOL; none without a sum. -/
def State.sumOk (s : State) (c : ChainId) (m : Fin 32) : Option Bool :=
  (s.sen c).recs[m].dsum.map fun d => decide (2 * d.natAbs ≤ s.im.sumTol c)

/-- The complementary pattern of a break between cells k and k + 1. -/
def State.pairPattern (s : State) (c : ChainId) (m : Fin 32) (k : Nat) : Bool :=
  let b : Int := 10 * s.im.breakDv c
  match s.cellDev c m k, s.cellDev c m (k + 1) with
  | some x, some y =>
    ((decide (x ≤ -b) && decide (b ≤ y)) || (decide (b ≤ x) && decide (y ≤ -b)))
      && decide (2 * (x + y).natAbs ≤ b.toNat) && s.sumOk c m == some true
  | _, _ => false

/-- The pattern of a break of wire w in this sample (R206). -/
def State.wirePattern (s : State) (c : ChainId) (m : Fin 32) (w : Nat) : Bool :=
  let n := s.nCells
  let only (k : Nat) : Bool := s.sumOk c m == some false &&
    (List.range n).all fun j => s.devBig c m j == (j == k)
  if w = 0 then only 0
  else if w = n then only (n - 1)
  else if w < n then s.pairPattern c m (w - 1) else false

/-- A deviation without a complementary neighbour in this sample (R206). -/
def State.lonePattern (s : State) (c : ChainId) (m : Fin 32) (k : Nat) : Bool :=
  s.devBig c m k && s.sumOk c m == some true && !s.pairPattern c m k && (k == 0 || !s.pairPattern c m (k - 1))

/-- A cell beyond the hard limits of source 0x21 in this sample, with the pair rule of R206. -/
def State.hardPattern (s : State) (c : ChainId) (m k : Fin 32) : Bool :=
  match s.cellV c m k with
  | none => false
  | some v =>
    decide (k.val < s.nCells) &&
      (decide ((10 * (s.plateOf c m 4 + s.im.cellOvOfs) : Int) ≤ v)
        || decide (v ≤ 10 * ((s.plateOf c m 5 : Int) - s.im.cellUvOfs)))

/-- Cells that a suspected wire leaves unmeasured. -/
def wireCells (n w : Nat) : BitVec 32 :=
  (if 0 < w then BitVec.ofNat 32 (2 ^ (w - 1)) else 0) ||| (if w < n then BitVec.ofNat 32 (2 ^ w) else 0)

/-- A break is suspected at wire w (R206). WIRE shows a confirmed wire before a suspected one, and the newest suspicion. -/
def suspectWire (c : ChainId) (m : Fin 32) (s : State) (w : Nat) : State :=
  let n := s.nCells
  sendSrq (logEvent (s.onRec c m fun x =>
    { x with
      brkSusp := true
      wire := if x.brkConf then x.wire else some w
      unmeasured := x.unmeasured ||| wireCells n w }) 0x300A m.val w) c m 4 []

/-- A battery cell fault is suspected (R206, source 0x22): its floor asks for parking with cause 3. -/
def suspectCell (s : State) (c : ChainId) (m : Fin 32) (k : Nat) : State :=
  requestPark (raiseEvent (logEvent s 0x300D m.val k) 0x22) c m 3

/-- One module of a complete sample set. -/
def judgeModule (c : ChainId) (s : State) (m : Fin 32) : State :=
  let r := (s.sen c).recs[m]
  if !r.got then s
  else
    let run (old : Nat) (hit : Bool) : Nat := if hit then min 3 (old + 1) else 0
    let pairs : Vector Nat 33 := Vector.ofFn fun w => run r.pairRuns[w] (s.wirePattern c m w.val)
    let lone : Vector Nat 32 := Vector.ofFn fun k => run r.cellRuns[k] (s.lonePattern c m k.val)
    let hard : Vector Nat 32 := Vector.ofFn fun k => run r.hardRuns[k] (s.hardPattern c m k)
    let s1 := s.onRec c m fun x => { x with pairRuns := pairs, cellRuns := lone, hardRuns := hard }
    let s2 := (((List.finRange 33).filter fun w => pairs[w] = 3 && r.pairRuns[w] = 2).map (·.val)).foldl (suspectWire c m) s1
    ((List.finRange 32).filter fun k => lone[k] = 3 && r.cellRuns[k] = 2).foldl (fun t k => suspectCell t c m k.val) s2

/-- SAMPLE_SET_COMPLETE (R206). -/
def execSampleSetComplete (c : ChainId) (s : State) : Res :=
  if s.declared c && (s.sen c).stage == .enumerated then .next (s.modIdx.foldl (judgeModule c) s) else .next s

/-- OW_TEST_TIMER (R205): OW_TEST to every sentinel once a second. -/
def execOwTestTimer (c : ChainId) (s : State) : Res :=
  if s.declared c && (s.sen c).stage == .enumerated && due s.clock (s.sen c).owDue then
    let t := s.clock + secNs
    .next (s.modIdx.foldl (fun u m => sendSrq u c m 4 []) (s.onSen c fun x => { x with owDue := some t }))
  else .next s

/-! ### Silence and tests -/

/-- SENTINEL_SILENT (R210): SILENT_SAMPLES SAMPLEs in a row are missing. -/
def execSentinelSilent (c : ChainId) (m : Fin 32) (s : State) : Res :=
  let r := (s.sen c).recs[m]
  if s.declared c && decide (m.val < s.nMods) && !r.lost && decide (s.im.silentSamples c ≤ r.misses) then
    .next (declareLost (logEvent s 0x3007 m.val) c m)
  else .next s

/-- LOST_MODULE_POLL (R210): READ_ID to a lost module's address every 100 ms. -/
def execLostModulePoll (c : ChainId) (m : Fin 32) (s : State) : Res :=
  let r := (s.sen c).recs[m]
  let now := s.clock
  if s.declared c && r.lost && s.arm.owner && decide (r.pollAt + 100 * msNs ≤ now) then
    .next (sendSrq (s.onRec c m fun x => { x with pollAt := now }) c m 1 [])
  else .next s

/-- PE may issue a balance-switch test of a module (R208): of one cell, or of all in turn. -/
def State.bswAllowed (s : State) (c : ChainId) (m : Fin 32) (cell : Option (Fin 32)) : Bool :=
  let x := (s.chain c).mods[m]
  let r := (s.sen c).recs[m]
  let quiet := match (s.chain c).quietSince with
    | none => false
    | some t => decide (t + 10 * msNs ≤ s.clock)
  let old := match r.bswAt with
    | none => true
    | some t => decide (t + 3600 * secNs * s.im.bswInterval c ≤ s.clock)
  let fast := (List.finRange 32).any fun k =>
    decide (k.val < s.nCells) && cell.all (· == k) && (s.es c).mods[m].cells[k].suspect
  ((x.cmd.st == .bypass && x.cmd.w == 0) || x.cmd.st == .parked) && quiet && (old || fast)

/-- BSW_TEST_ISSUE (R208): ARG 0xFF tests all cells in turn. -/
def execBswTestIssue (c : ChainId) (m : Fin 32) (cell : Option (Fin 32)) (s : State) : Res :=
  if s.declared c && s.arm.owner && decide (m.val < s.nMods) && s.bswAllowed c m cell then
    let now := s.clock
    let k := match cell with
      | none => 0xFF
      | some x => x.val
    .next (sendSrq (s.onRec c m fun r => { r with bswCell := some k, bswAt := some now }) c m 5 [BitVec.ofNat 8 k])
  else .next s

end Sys2Proof.Machine
end

