-- ==== Sys2Proof/Machine/Estimation.lean ====
section
/-! DEFINITION. The estimation engine (spec/09): counting, state of charge, anchors, limits, balancing, capacity
learning, records and the veneer window. Rows 136 to 147. -/

set_option Elab.async false

namespace Sys2Proof.Machine

/-- The estimation engine runs. -/
def State.eeRuns (s : State) : Bool := s.eng.state[EngineId.ee.idx] == .running

/-! ### Counting (R214 to R225) -/

/-- The set that a sentinel reports as applied in a period (R189): the newest one with those counter bits that was sent before
the Spline time at which the period began; a sentinel that has had none since enumeration blocks. -/
def SenRec.appliedSet (r : SenRec) (nib : BitVec 4) (began : Nat) : ModSet :=
  match r.sent.find? fun e => e.cnt.truncate 4 == nib && decide (e.time < began) with
  | some e => e.set
  | none => { st := .block, phase := 0, w := 0 }

/-- The SAMPLE of strobe ts of a module has come and is its newest. -/
def State.sampledAt (s : State) (c : ChainId) (m : Fin 32) (ts : Nat) : Bool := (s.sen c).recs[m].sampleTs == some ts

/-- The sets applied in the periods of the millisecond that ended at strobe ts: as reported, or as commanded while there is no
SAMPLE of that strobe (R30, R152, R217). -/
def State.appliedSets (s : State) (c : ChainId) (ts : Nat) (m : Fin 32) : List ModSet :=
  let r := (s.sen c).recs[m]
  let began (j : Nat) : Nat := ts - 1000000 + j * s.tM c
  (List.range (1000000 / s.tM c)).map fun j =>
    if s.sampledAt c m ts then r.appliedSet (r.applied.getD j 0) (began j) else s.gatedSet c m (began j)

/-- The sets for which the integrator gated those periods (R216). -/
def State.gatedSets (s : State) (c : ChainId) (ts : Nat) (m : Fin 32) : List ModSet :=
  (List.range (1000000 / s.tM c)).map fun j => s.gatedSet c m (ts - 1000000 + j * s.tM c)

/-- Inserted time of a set in one period, ns. -/
def setOnTime (p : ModSet) (tM : Nat) : Nat :=
  match p.st with
  | .insert => tM
  | .bypass => if p.phase = 1 || p.phase = 2 then 10 * p.w else 0
  | .block | .parked => 0

/-- Module charge of one period by Table 09.1. -/
def gatedCharge (p : ModSet) (q : PeriodCharge) : Int :=
  match p.st with
  | .insert => q.dQ
  | .bypass => if p.w = 0 then 0 else if p.phase = 1 then q.dG1 else if p.phase = 2 then q.dG2 else 0
  | .parked => 0
  | .block => q.dN

/-- Module charge of one period by the W/T_M rule (R218): only a trim differs from Table 09.1. -/
def approxCharge (tM : Nat) (p : ModSet) (q : PeriodCharge) : Int :=
  match p.st with
  | .bypass => tdiv (q.dQ * setOnTime p tM) tM
  | .insert | .parked | .block => gatedCharge p q

/-- Nanoseconds of the millisecond in which the module was in BLOCK. -/
def blockTime (tM : Nat) (ps : List ModSet) : Nat :=
  tM * (ps.filter fun p => p.st == .block).length

/-- Inserted time in the millisecond, ns. -/
def insertTime (tM : Nat) (ps : List ModSet) : Nat := (ps.map fun p => setOnTime p tM).foldl (· + ·) 0

/-- q_m of the millisecond, µAs (R217, R218): a period whose applied set is not the one that the integrator gated takes the
W/T_M rule. -/
def State.moduleCharge (s : State) (c : ChainId) (x : Snapshot) (m : Fin 32) : Int :=
  let tM := s.tM c
  let one (p g : ModSet) (q : PeriodCharge) : Int := if p == g then gatedCharge p q else approxCharge tM p q
  ((((s.appliedSets c x.ts m).zip (s.gatedSets c x.ts m)).zip x.periods).map fun y => one y.1.1 y.1.2 y.2).foldl (· + ·) 0

/-- A period of the millisecond needs the W/T_M rule for a module (R218). -/
def State.setDiffers (s : State) (c : ChainId) (ts : Nat) (m : Fin 32) : Bool := s.appliedSets c ts m != s.gatedSets c ts m

/-- Bleed time of cell k in the millisecond before strobe ts, µs (R203). -/
def State.bleedUs (s : State) (c : ChainId) (ts : Nat) (m k : Fin 32) : Nat :=
  let r := (s.sen c).recs[m]
  let lonely := !r.bleed.getLsbD (k.val + 1) && (k.val == 0 || !r.bleed.getLsbD (k.val - 1))
  let phase := (ts / 1000000 + 255) % 256 / 10 % 2
  if r.bleed.getLsbD k.val && r.status.getLsbD 8 && r.bswCell.isNone && (lonely || k.val % 2 == phase) then 585 else 0

/-- Content reaches 0 or CAP_k (R228); one that leaves them again before its voltage was judged is no conflict. -/
def CellAcc.cross (a : CellAcc) (before : Int) : CellAcc :=
  let top := (a.cap : Int) * 1000
  if a.cap = 0 then a
  else if a.content ≤ 0 then { a with crossed := if 0 < before then 1 else a.crossed }
  else if top ≤ a.content then { a with crossed := if before < top then 2 else a.crossed }
  else { a with crossed := 0 }

/-- Charge of the millisecond on one cell (R214, R219, R225). -/
def CellAcc.count (a : CellAcc) (qm bleed drain : Int) : CellAcc :=
  ({ a with q := a.q + qm + bleed + drain }.raiseUnc (qm + bleed).natAbs).cross a.content

/-- Rest, average rate and the causes of Table 09.3 that one millisecond can bring (R235, R246). `name` is the
nameplate capacity; `hot`: a thermistor lies outside 15.0 to 35.0 °C; `peak`: |i| above 2C while inserted. -/
def CellAcc.watch (a : CellAcc) (name now : Nat) (qm : Int) (hot peak : Bool) : CellAcc :=
  let rest := decide (360000 * qm.natAbs ≤ name)
  let since := a.restSince.getD now
  let b := if rest then { a with restSince := some since }
    else { a with restSince := none, sumAbs := a.sumAbs + qm.natAbs, nMs := a.nMs + 1 }
  let b1 := if hot then b.mark 1 else b
  let b2 := if peak then b1.mark 3 else b1
  if rest && decide (since + 7200 * secNs < now) then b2.mark 5 else b2

/-- The anchor timers of R226 after a sample set. An unmeasured cell takes no anchor (R230). -/
def State.anchorTimers (s : State) (c : ChainId) (ts : Nat) (m k : Fin 32) (qm : Int) (a : CellAcc) : CellAcc :=
  let r := (s.sen c).recs[m]
  let name := s.plateOf c m 0
  let now := s.clock
  if !s.sampledAt c m ts then a
  else
    let v := if r.unmeasured.getLsbD k.val then none else r.cells[k]
    let full := match v with
      | none => false
      | some x => decide (10 * s.plateOf c m 4 ≤ x ∧ 72000 * qm.natAbs < name)
    let empty := match v with
      | none => false
      | some x => decide (x ≤ 10 * s.plateOf c m 5 ∧ 18000 * qm.natAbs ≤ name)
    { a with
      fullSince := if full then some (a.fullSince.getD now) else none
      emptySince := if empty then some (a.emptySince.getD now) else none }

/-- Consecutive sample sets beyond the voltage limits of R229. -/
def State.limitRuns (s : State) (c : ChainId) (ts : Nat) (m k : Fin 32) (a : CellAcc) : CellAcc :=
  if !s.sampledAt c m ts then a
  else
    let v := s.cellV c m k
    let low := match v with
      | none => false
      | some x => decide (x ≤ 10 * ((s.plateOf c m 5 : Int) - s.im.disFloorOfs))
    let high := match v with
      | none => false
      | some x => decide (10 * ((s.plateOf c m 4 : Int) + s.im.chgMaxOfs) ≤ x)
    { a with
      floorRuns := if low then min 4 (a.floorRuns + 1) else 0
      maxRuns := if high then min 4 (a.maxRuns + 1) else 0 }

/-- A thermistor of the module lies outside 15.0 to 35.0 °C in this sample set. -/
def State.outsideBand (s : State) (c : ChainId) (ts : Nat) (m : Fin 32) : Bool :=
  let r := (s.sen c).recs[m]
  s.sampledAt c m ts && r.temps.toList.any fun t => match t with
    | some x => decide (x < 150 ∨ 350 < x)
    | none => false

/-- Count one millisecond on one module. `total`: ΣΔQ of the chain. -/
def countModule (c : ChainId) (x : Snapshot) (total drain : Int) (s : State) (m : Fin 32) : State :=
  let q := s.moduleCharge c x m
  let name := s.plateOf c m 0
  let hot := s.outsideBand c x.ts m
  let ins := decide (0 < insertTime (s.tM c) (s.appliedSets c x.ts m))
  let peak := ins && decide (2 * name < 3600 * total.natAbs)
  let now := s.clock
  let n := s.nCells
  s.onAcc c m fun a =>
    { a with
      q := a.q + q
      qMs := q
      cells := Vector.ofFn fun k =>
        let y := a.cells[k]
        if k.val < n then
          let b := (y.count q (y.bleedUa * s.bleedUs c x.ts m k / 1000000 : Nat) drain).watch name now q hot peak
          (s.limitRuns c x.ts m k (s.anchorTimers c x.ts m k q b)).settle
        else y }

/-- A cell whose content has reached 0 or CAP_k is judged by its loaded voltage, in the first sample set in which the module
discharges or is charged (R228). -/
def conflictCell (c : ChainId) (m : Fin 32) (s : State) (k : Fin 32) : State :=
  let a := (s.es c).mods[m].cells[k]
  let q := (s.es c).mods[m].qMs
  let low := 10 * ((s.plateOf c m 5 : Int) + s.im.conflictDv)
  let high := 10 * ((s.plateOf c m 4 : Int) - s.im.conflictDv)
  match s.cellV c m k with
  | none => s
  | some v =>
    let s1 := s.onCell c m k fun x => { x with crossed := 0 }
    if a.crossed = 1 && decide (0 < q) then
      if decide (low < v) && !a.confEmpty then
        logEvent (s1.onCell c m k fun x => { x with confEmpty := true, suspect := true }.settle) 0x4003 m.val k.val
      else s1
    else if a.crossed = 2 && decide (q < 0) then
      if decide (v < high) && !a.confFull then
        logEvent (s1.onCell c m k fun x => { x with confFull := true, suspect := true }.settle) 0x4004 m.val k.val
      else s1
    else s

/-- A cell that has reached a voltage limit in three consecutive sample sets (R229). -/
def limitCell (c : ChainId) (m : Fin 32) (s : State) (k : Fin 32) : State :=
  let a := (s.es c).mods[m].cells[k]
  let s1 := if a.floorRuns = 3 then reanchor s c m k false else s
  if a.maxRuns = 3 then reanchor s1 c m k true else s1

/-- The hold of R227 ends on a cell whose SoC has risen to 2.00 %. -/
def releaseHold (s : State) (c : ChainId) (m : Fin 32) : State :=
  s.onAcc c m fun a =>
    let cells := a.cells.map fun x =>
      match x.soc with
      | some v => if 200 ≤ v then { x with hold := false } else x
      | none => x
    { a with cells := cells, emptyHold := a.emptyHold && cells.toList.any (·.hold) }

/-- What follows the count on one module: conflicts, voltage limits and the hold of R227. -/
def judgeAccount (c : ChainId) (ts : Nat) (s : State) (m : Fin 32) : State :=
  if !s.sampledAt c m ts then s
  else
    let ks := (List.finRange 32).filter fun k => decide (k.val < s.nCells)
    releaseHold (ks.foldl (limitCell c m) (ks.foldl (conflictCell c m) s)) c m

/-- CAP_m, the lowest capacity of the configured cells (R224). -/
def State.capM (s : State) (c : ChainId) (m : Fin 32) : Nat :=
  (((List.finRange 32).filter fun k => decide (k.val < s.nCells)).map fun k => (s.es c).mods[m].cells[k].cap).foldl
    (fun a x => match a with
      | none => some x
      | some y => some (min x y)) none |>.getD 0

/-- Weighted sum and weight of the chain SoC (R224). -/
def State.socSums (s : State) (c : ChainId) : Nat × Nat :=
  (s.modIdx.filter fun m => (s.chain c).mods[m].st != .parked && !(s.chain c).mods[m].lost).foldl
    (fun a m => match s.socDis c m with
      | some x => (a.1 + x * s.capM c m, a.2 + s.capM c m)
      | none => a) (0, 0)

/-- The chain SoC (R224). -/
def refreshSoc (s : State) (c : ChainId) : State :=
  let r := s.socSums c
  s.onEs c fun e => { e with soc := if r.2 = 0 then none else some (r.1 / r.2) }

/-- Drain of one millisecond on each cell and the milliseconds of sleep still to be charged (R219). -/
def State.drainOf (s : State) (c : ChainId) : Int × Nat :=
  if (s.sen c).stage == .asleep then
    let n := (s.es c).sleepMs + 1
    if n = 20 then (1, 0) else (0, n)
  else (s.im.iSentinel, (s.es c).sleepMs)

/-- The share of a gap that a module takes (R220). Before a warm reset by its last set; otherwise all of a negative
charge for a module that is not PARKED. -/
def State.gapShare (s : State) (c : ChainId) (qGap : Int) (m : Fin 32) : Int :=
  match (s.es c).gapSets[m.val]? with
  | some p => tdiv (qGap * setOnTime p (s.tM c)) (s.tM c)
  | none => if (s.chain c).mods[m].st == .parked then 0 else min qGap 0

/-- A counting gap ends with the first count (R220): what the accumulator gained before this millisecond is the gap's. It
counts in GAPS, event 0x400D when it was longer than 100 ms, which restarts the anchor timers (R226); open cycles are marked
with cause 4 in either case (R235). -/
def settleGap (s : State) (c : ChainId) (x : Snapshot) : State :=
  match (s.es c).gapAt with
  | none => s
  | some t =>
    let base := x.acc - (x.periods.map (·.dQ)).foldl (· + ·) 0
    let q := base - (s.es c).accSeen
    let ms := (s.clock - t) / msNs
    let long := decide (100 < ms)
    let total := (s.es c).gapQ + q
    let s1 := (chargeGap s c q (s.gapShare c q)).onEst fun e => { e with cntGaps := bump 8 e.cntGaps }
    let s2 := if long then logEvent s1 0x400D (min ms 65535) (lo16 (tdiv total 1000000)) else s1
    let restart (y : CellAcc) : CellAcc := if long then { y with fullSince := none, emptySince := none } else y
    (s2.modIdx.foldl (fun u m => u.onAcc c m fun a => { a with cells := a.cells.map fun y => restart (y.mark 4) }) s2).onEs c
      fun e => { e with gapAt := none, gapSets := [], gapQ := 0, accSeen := base, seenAt := x.ts - 1000000 }

/-- Milliseconds whose snapshots were overwritten between the last count and this snapshot (R218). -/
def State.lostMs (s : State) (c : ChainId) (x : Snapshot) : Nat := (x.ts - (s.es c).seenAt) / 1000000 - 1

/-- The charge of overwritten milliseconds on one module (R218, R30), by the sets commanded in them; a module in BLOCK takes
charge current only. -/
def lostModule (c : ChainId) (x : Snapshot) (n : Nat) (dA : Int) (s : State) (m : Fin 32) : State :=
  let ps := (List.range n).flatMap fun i => s.gatedSets c (x.ts - 1000000 * (i + 1)) m
  let q := tdiv (dA * insertTime (s.tM c) ps) (1000000 * n) + tdiv (min dA 0 * blockTime (s.tM c) ps) (1000000 * n)
  let cells := s.nCells
  s.onAcc c m fun a =>
    { a with
      q := a.q + q
      cells := Vector.ofFn fun k => if k.val < cells then (a.cells[k].count q 0 0).settle else a.cells[k] }

/-- The overwritten milliseconds before a snapshot: the total is what A gained between its neighbours (R218). -/
def countLost (s : State) (c : ChainId) (x : Snapshot) : State :=
  let n := s.lostMs c x
  if n = 0 then s
  else
    let dA := x.acc - (x.periods.map (·.dQ)).foldl (· + ·) 0 - (s.es c).accSeen
    ((s.present c).foldl (lostModule c x n dA) s).onEst fun e => { e with cntApprox := min 255 (e.cntApprox + n) }

/-- Count one snapshot (R214 to R219, R222, R224, R225, R228, R229, R235). -/
def countSnapshot (s0 : State) (c : ChainId) (x : Snapshot) : State :=
  let s := countLost (settleGap s0 c x) c x
  let total := (x.periods.map (·.dQ)).foldl (· + ·) 0
  let d := s.drainOf c
  let ms := s.present c
  let approx := ms.any fun m => s.setDiffers c x.ts m
  let s1 := ms.foldl (countModule c x total d.1) s
  let s2 := (s1.onEs c fun e =>
    { e with
      accSeen := x.acc
      seenAt := x.ts
      sleepMs := d.2
      vnrCurrent := some (tdiv total 10) }).onEst fun e =>
    { e with cntApprox := if approx then bump 8 e.cntApprox else e.cntApprox }
  refreshVeneer (refreshSoc (ms.foldl (judgeAccount c x.ts) s2) c) c

/-- EE_MILLISECOND_COUNT (R214 to R220): EE takes the oldest snapshot of the CCI queue. -/
def execEeMillisecondCount (c : ChainId) (s : State) : Res :=
  if !s.eeRuns || !s.declared c then .next s
  else
    match (s.es c).cci with
    | [] => .next s
    | x :: r => .next (countSnapshot (s.onEs c fun e => { e with cci := r }) c x)

/-! ### Anchors and estimates -/

/-- The learning cycle of the chain engine follows an anchor of its target (Table 07.7). -/
def followAnchor (s : State) (c : ChainId) (m : Fin 32) (full : Bool) : State :=
  let ch := s.chain c
  if ch.isTarget m && ch.learn.phase = 1 && full then learnPhase s c 2
  else if ch.isTarget m && ch.learn.phase = 2 && !full then learnPhase s c 3 else s

/-- ANCHOR_TIMER_EXPIRY (R226): every sample set of T_FULL or T_EMPTY has qualified. -/
def execAnchorTimerExpiry (c : ChainId) (m k : Fin 32) (full : Bool) (s : State) : Res :=
  let a := (s.es c).mods[m].cells[k]
  let since := if full then a.fullSince else a.emptySince
  let span := secNs * (if full then s.im.tFull else s.im.tEmpty)
  let ready := match since with
    | none => false
    | some t => decide (t + span ≤ s.clock)
  if s.eeRuns && s.declared c && (s.measured c m).contains k && decide (m.val < s.nMods) && ready then
    .next (followAnchor (anchorCell s c m k full).1 c m full)
  else .next s

/-- Content that the built-in table gives for a rested voltage in 100 µV, as µAs (Table 09.5); none where the
table gives no estimate. -/
def ocvContent (cap v : Nat) : Option Nat :=
  let seg (v0 s0 v1 s1 : Nat) : Nat := cap * (s0 * (v1 - v0) + (s1 - s0) * (v - v0)) / (10 * (v1 - v0))
  if v ≤ 30000 then some 0
  else if v ≤ 31500 then some (seg 30000 0 31500 300)
  else if v ≤ 32000 then some (seg 31500 300 32000 800)
  else if v ≤ 32300 then some (seg 32000 800 32300 1200)
  else if v < 33400 then none
  else if v ≤ 33800 then some (seg 33400 9700 33800 9900)
  else if v ≤ 34300 then some (seg 33800 9900 34300 10000)
  else some (cap * 1000)

/-- The module's thermistors lie in the range of the built-in table, 10 to 35 °C. -/
def State.ocvTemps (s : State) (c : ChainId) (m : Fin 32) : Bool :=
  (s.sen c).recs[m].temps.toList.all fun t => match t with
    | some x => decide (100 ≤ x ∧ x ≤ 350)
    | none => true

/-- OCV_REST_EXPIRY (R246). -/
def execOcvRestExpiry (c : ChainId) (m k : Fin 32) (s : State) : Res :=
  let a := (s.es c).mods[m].cells[k]
  let rested := match a.restSince with
    | none => false
    | some t => decide (t + 60 * secNs * s.im.ocvRest ≤ s.clock)
  let v := if s.plateOf c m 7 = 1 && s.ocvTemps c m && (s.measured c m).contains k then (s.sen c).recs[m].cells[k] else none
  match v.bind (ocvContent a.cap) with
  | none => .next s
  | some q =>
    if s.eeRuns && s.declared c && decide (m.val < s.nMods) && rested && a.uncertain 5 then
      .next (logEvent (s.onCell c m k fun x =>
        { x with cRef := q, qRef := x.q, unc := some (x.uncOf 50) }.settle) 0x4010 m.val k.val)
    else .next s

/-! ### Limits (R231 to R233) -/

/-- Discharge and charge limit of a module in mA, both as magnitudes (R231). -/
def State.moduleLimits (s : State) (c : ChainId) (m : Fin 32) : Int × Int :=
  let p (i : Nat) : Int := s.plateOf c m i
  let im := s.im
  match (s.sen c).recs[m].setRange with
  | none => (0, 0)
  | some (lo, hi) =>
    let c5 := tdiv (p 0) 18000
    let c40 := tdiv (p 0) 144000
    let dis :=
      if (s.es c).mods[m].emptyHold then 0
      else if p 5 + im.disKnee ≤ lo then p 2
      else if p 5 < lo then c5 + tdiv ((p 2 - c5) * (lo - p 5)) im.disKnee
      else if p 5 - im.disFloorOfs < lo then c5
      else 0
    let chg :=
      if hi ≤ p 4 - im.chgKnee then p 3
      else if hi < p 4 then c40 + tdiv ((p 3 - c40) * (p 4 - hi)) im.chgKnee
      else if hi < p 4 + im.chgMaxOfs then c40
      else 0
    (tdiv (dis * (s.tm c m).fDis) 1000, tdiv (chg * (s.tm c m).fChg) 1000)

/-- Insert by limit, largest first. -/
def insertByLimit (x : Int × Nat) : List (Int × Nat) → List (Int × Nat)
  | [] => [x]
  | y :: ys => if y.1 < x.1 then x :: y :: ys else y :: insertByLimit x ys

/-- The limit at which the voltages of the modules, largest limit first, span what is needed (R232). -/
def spanLimit (need : Nat) : Nat → List (Int × Nat) → Int
  | _, [] => 0
  | sum, x :: xs => if need ≤ sum + x.2 then x.1 else spanLimit need (sum + x.2) xs

/-- The chain limit of a direction in mA (R232). -/
def State.chainLimit (s : State) (c : ChainId) (vCap : Nat) (el : Fin 32 → Bool) (lim : Fin 32 → Int) : Int :=
  let v (m : Fin 32) : Nat := 2 * ((s.sen c).recs[m].setVmod.getD (s.freeN m.val))
  let xs := ((s.modIdx.filter el).map fun m => (lim m, v m)).foldl (fun a x => insertByLimit x a) []
  spanLimit (vCap + s.im.vReserve c) 0 xs

/-- The limits of one chain, from the sample set that was complete at the strobe and V_CAP sampled at it (R233). -/
def publishChain (s : State) (c : ChainId) : State :=
  let now := s.clock
  let lim (m : Fin 32) := s.moduleLimits c m
  let r : Int × Int := match s.meas.vCapSet.map codeMv with
    | none => (0, 0)
    | some v => (tdiv (s.chainLimit c v (s.elDis c) fun m => (lim m).1) 10,
        -(tdiv (s.chainLimit c v (s.elChg c) fun m => (lim m).2) 10))
  let code : Int := (s.meas.vCapSet.getD 0 : Nat)
  let n := s.nMods
  let s1 := s.onEs c fun e =>
    { e with
      limDis := r.1
      limChg := r.2
      pDis := tdiv (r.1 * code) 2000
      pChg := tdiv (r.2 * code) 2000
      mods := Vector.ofFn fun m =>
        if m.val < n then { e.mods[m] with limDis := tdiv (lim m).1 10, limChg := -(tdiv (lim m).2 10) } else e.mods[m] }
  nextFree (refreshSpan (s1.onChain c fun ch => { ch with limAt := some now }) c)

/-- LIMITS_PUBLISH (R161, R231 to R233). -/
def execLimitsPublish (s : State) : Res :=
  if s.eeRuns then .next ((s.forChains publishChain).onEst fun e => { e with stale := false }) else .next s

/-- LIMITS_STALE (R233): the chain engine has no limits until EE publishes again. -/
def execLimitsStale (c : ChainId) (s : State) : Res :=
  match (s.chain c).limAt with
  | none => .next s
  | some t =>
    if t + 15 * msNs < s.clock then
      .next (logEvent ((s.onChain c fun ch => { ch with limAt := none, limDis := 0, limChg := 0 }).onEst fun e =>
        { e with stale := true }) 0x4012 c.num)
    else .next s

/-! ### Balancing (R234) -/

/-- Room to full of a cell, µAs. -/
def CellAcc.room (a : CellAcc) : Int := (a.cap : Int) * 1000 - a.content

/-- The cell of the largest room among the measured cells of a module. -/
def State.roomiest (s : State) (c : ChainId) (m : Fin 32) : Option CellAcc :=
  ((s.measured c m).map fun k => (s.es c).mods[m].cells[k]).foldl
    (fun a x => match a with
      | none => some x
      | some y => if y.room < x.room then some x else some y) none

/-- A cell is requested for bleeding. -/
def State.wantsBleed (s : State) (c : ChainId) (m k : Fin 32) : Bool :=
  let a := (s.es c).mods[m].cells[k]
  let ch := s.chain c
  let band : Int := (s.im.balBand * a.cap : Nat)
  let small (x : CellAcc) : Bool := match x.unc with
    | none => false
    | some u => decide (u < x.cap * 2 * 2000)
  if !(s.measured c m).contains k || (ch.mods[m].st == .parked && (s.sen c).recs[m].bswCell.isSome)
      || (ch.st == .zeroing && ch.protReq.isSome) then false
  else match s.roomiest c m with
    | none => false
    | some r =>
      let diff := 10 * (r.room - a.room)
      if a.bleedReq then decide (band ≤ 2 * diff) else decide (band < diff) && small a && small r

/-- Choose and send the mask of one module. -/
def balanceModule (c : ChainId) (s : State) (m : Fin 32) : State :=
  let mask : BitVec 32 := (List.finRange 32).foldl
    (fun a k => if s.wantsBleed c m k then a ||| BitVec.ofNat 32 (2 ^ k.val) else a) 0
  let old := (s.sen c).recs[m].bleed
  let now := s.clock
  let s1 := s.onAcc c m fun a =>
    { a with cells := Vector.ofFn fun k => { a.cells[k] with bleedReq := mask.getLsbD k.val } }
  let s2 := s1.onRec c m fun r => { r with bleed := mask, bleedAt := now }
  if mask == 0 && old == 0 then s2
  else sendSrq s2 c m 3 [mask.truncate 8, (mask >>> 8).truncate 8, (mask >>> 16).truncate 8, (mask >>> 24).truncate 8]

/-- BALANCE_TICK (R234, R204): EE chooses the masks and sends them. -/
def execBalanceTick (c : ChainId) (s : State) : Res :=
  if s.eeRuns && s.declared c && (s.sen c).stage == .enumerated then .next (s.modIdx.foldl (balanceModule c) s) else .next s

/-! ### Records (R237 to R239) -/

/-- CHECKPOINT_TIMER (Table 09.4): a STATE write falls due every CHECKPOINT. -/
def execCheckpointTimer (s : State) : Res :=
  let now := s.clock
  if s.eeRuns && decide (s.est.checkAt + 60 * secNs * s.im.checkpoint ≤ now) then
    .next (stateWriteDue (s.onEst fun e => { e with checkAt := now }))
  else .next s

/-- COUNT_PERIOD_TIMER (Table 09.4): a COUNT write falls due every COUNT_PERIOD. -/
def execCountPeriodTimer (s : State) : Res :=
  let now := s.clock
  if s.eeRuns && decide (s.est.countAt + secNs * s.im.countPeriod ≤ now) then
    .next (s.onEst fun e => { e with countDue := true, countAt := now })
  else .next s

/-- The newer slot of STATE. -/
def Est.newState (e : Est) : Option StateRec :=
  (e.recState.filter (·.valid)).foldl (fun a r => match a with
    | none => some r
    | some x => if x.seq < r.seq then some r else some x) none

/-- The older slot of STATE. -/
def Est.oldState (e : Est) : Option StateRec :=
  match e.newState with
  | none => none
  | some n => (e.recState.filter fun r => r.valid && r.seq < n.seq).foldl (fun a r => match a with
    | none => some r
    | some x => if x.seq < r.seq then some r else some x) none

/-- The newer slot of COUNT. -/
def Est.newCount (e : Est) : Option CountRec :=
  (e.recCount.filter (·.valid)).foldl (fun a r => match a with
    | none => some r
    | some x => if x.seq < r.seq then some r else some x) none

/-- Positions of STATE (Table 09.4). -/
def statePositions (two : Bool) : Nat := if two then 13 else 27

/-- A position of the present size overlaps a record. -/
def overlaps (two : Bool) (pos : Nat) (r : StateRec) : Bool :=
  decide (pos * stateSize two < (r.pos + 1) * stateSize r.two) && decide (r.pos * stateSize r.two < (pos + 1) * stateSize two)

/-- The position of the next STATE write (R237, R238): after the newer slot, or the first one of a new size that
overlaps neither slot. -/
def Est.statePos (e : Est) (two : Bool) : Nat :=
  match e.newState with
  | none => 0
  | some r =>
    if r.two == two then (r.pos + 1) % statePositions two
    else ((List.range (statePositions two)).find? fun p => !overlaps two p r && !(match e.oldState with
      | none => false
      | some o => overlaps two p o)).getD 0

/-- The position of the next COUNT write. -/
def Est.countPos (e : Est) : Nat :=
  match e.newCount with
  | none => 0
  | some r => (r.pos + 1) % 256

/-- Chain-wide part of a record. -/
def EstCh.head (e : EstCh) : ChainHead :=
  { acc := e.acc, epoch := e.epoch, preset := e.vnrLoaded, aPreset := e.vnrA, vnrCap := e.vnrCap, vnrGap := e.vnrGap }

/-- What a STATE record holds of a cell (Table 09.4); the flags are those of the learning cycle, of the conflicts and of the
anchors. -/
def CellAcc.payload (a : CellAcc) : CellAcc :=
  { cap := a.cap
    cand := a.cand
    cRef := a.cRef
    qRef := a.qRef
    q := a.q
    unc := a.unc
    openQ := a.openQ
    openFull := a.openFull
    disq := a.disq
    suspect := a.suspect
    confFull := a.confFull
    confEmpty := a.confEmpty
    hold := a.hold
    anchored := a.anchored
    bleedUa := a.bleedUa }

/-- What it holds of a module: serial, class, cells, Q_m, and as flags what EST_MOD_m_STATE shows. The absence of a module is
kept with the instant at which it began (log entry 49). -/
def EstMod.payload (a : EstMod) : EstMod :=
  { q := a.q
    serial := a.serial
    cls := a.cls
    nCells := a.nCells
    accepted := a.accepted
    disq := a.disq
    lastAnchor := a.lastAnchor
    absentHeld := a.absentHeld
    absentAt := a.absentAt
    swapped := a.swapped
    overmax := a.overmax
    floor := a.floor
    emptyHold := a.emptyHold
    cells := a.cells.map CellAcc.payload }

/-- A STATE write may begin now: 60 s after the last one, unless it is one of stage 1 or hibernation (R239). -/
def State.stateSpaced (s : State) : Bool :=
  s.est.stateUrgent || (match s.est.lastStateAt with
    | none => true
    | some t => decide (t + 60 * secNs ≤ s.clock))

/-- A STATE write begins: the counters of this instant go to their position. -/
def startState (s : State) : State :=
  let two := decide (2 ≤ s.im.str.nChains)
  let r : StateRec :=
    { pos := s.est.statePos two
      seq := (match s.est.newState with | none => 0 | some x => x.seq) + 1
      valid := false
      time := s.tim.time
      two := two
      modsA := s.esA.mods.map EstMod.payload
      modsB := s.esB.mods.map EstMod.payload
      headA := s.esA.head
      headB := s.esB.head }
  let now := s.clock
  s.onEst fun e =>
    { e with
      stateDue := false
      stateUrgent := false
      lastStateAt := some now
      erased := false
      writing := some { kind := .state, began := now }
      recState := r :: e.recState.filter fun x => !overlaps two r.pos x }

/-- A COUNT write begins. -/
def startCount (s : State) : State :=
  let r : CountRec :=
    { pos := s.est.countPos
      seq := (match s.est.newCount with | none => 0 | some x => x.seq) + 1
      valid := false
      time := s.tim.time
      qA := s.esA.mods.map (·.q)
      qB := s.esB.mods.map (·.q)
      accA := (s.esA.acc, s.esA.epoch)
      accB := (s.esB.acc, s.esB.epoch) }
  let now := s.clock
  s.onEst fun e =>
    { e with
      countDue := false
      erased := false
      writing := some { kind := .count, began := now }
      recCount := r :: e.recCount.filter fun x => x.pos != r.pos }

/-- No write is in progress and write-permit is present (R238, R330). -/
def State.nvmFree (s : State) : Bool := s.writePermit && s.est.writing.isNone

/-- RECORD_WRITE_START (R238, R239). A STATE write that may begin goes before a COUNT write. -/
def execRecordWriteStart (kind : RecKind) (s : State) : Res :=
  let ready := s.eeRuns && s.nvmFree && s.est.erased
  match kind with
  | .state => if ready && s.est.stateDue && s.stateSpaced then .next (startState s) else .next s
  | .count =>
    if ready && s.est.countDue && !(s.est.stateDue && s.stateSpaced) then .next (startCount s) else .next s

/-- EST_CMD CHECKPOINT. -/
def opEstCheckpoint (s : State) : RegRes := (stateWriteDue s, 0x00)

/-- EST_CMD_CHECKPOINT (R239). -/
def execEstCmdCheckpoint (p : Requester) (s : State) : Res :=
  .next (regCmd s p fun s => withRight s p .operate 0x000A0038 opEstCheckpoint)

/-- EST_CMD RESET_MODULE. -/
def opEstReset (c : ChainId) (m : Fin 32) (s : State) : RegRes :=
  if !s.declared c then (s, 0x00)
  else if s.nMods ≤ m.val then (s, 0x07)
  else (resetModule s c m 2, 0x00)

/-- EST_CMD_RESET_MODULE (R245). -/
def execEstCmdResetModule (p : Requester) (c : ChainId) (m : Fin 32) (s : State) : Res :=
  .next (regCmd s p fun s => withRight s p .clear 0x000A0038 (opEstReset c m))

/-- Address of a register of a veneer window. -/
def vnrAddr (c : ChainId) (off : Nat) : Word := BitVec.ofNat 32 (0xAC000 + 0x100 * c.num + off)

/-- VNR_CTRL.PRESET (R223). The counting of the window is a view, so a disabled window takes it too. -/
def opVnrPreset (c : ChainId) (s : State) : RegRes :=
  if c == .b && s.noB then (s, 0x00)
  else
    let now := s.clock
    (logEvent (s.onEs c fun e =>
      { e with
        vnrLoaded := e.vnrPreset
        vnrCount := e.vnrPreset
        vnrA := e.accLive
        vnrGap := false
        vnrAt := now }) 0x4013 c.num, 0x00)

/-- VNR_CTRL_PRESET (R223). -/
def execVnrCtrlPreset (p : Requester) (c : ChainId) (s : State) : Res :=
  .next (regCmd s p fun s => withRight s p .configure (vnrAddr c 8) (opVnrPreset c))

end Sys2Proof.Machine
end

