-- ==== Sys2Proof/Machine/Thermal.lean ====
section
/-! DEFINITION. Temperature and thermal management (spec/10): the scan, belief in sensors, throttle factors,
shutdowns, heaters and till records. Rows 148 to 157. -/

set_option Elab.async false

namespace Sys2Proof.Machine

/-- Update of the thermal view of one module. -/
def onTm (s : State) (c : ChainId) (m : Fin 32) (f : ThmMod → ThmMod) : State :=
  s.onThm fun t => match c with
    | .a => { t with modsA := t.modsA.set m (f t.modsA[m]) }
    | .b => { t with modsB := t.modsB.set m (f t.modsB[m]) }

/-- The housekeeping engine runs. -/
def State.heRuns (s : State) : Bool := s.eng.state[EngineId.he.idx] == .running

/-- Readings of a module's thermistors in the newest sample set. -/
def State.readings (s : State) (c : ChainId) (m : Fin 32) : Vector (Option Int) 8 := (s.sen c).recs[m].temps

/-- A module whose temperatures HE judges: its chain is enumerated and it is not absent (R257, R210). -/
def State.judged (s : State) (c : ChainId) (m : Fin 32) : Bool :=
  (s.sen c).stage == .enumerated && !(s.sen c).recs[m].absent && (s.sen c).recs[m].thOpen != 0xFF#8

/-- Valid readings of the other thermistors. -/
def otherTemps (x : Vector (Option Int) 8) (t : Fin 8) : List Int :=
  (List.finRange 8).filterMap fun j => if j = t then none else x[j]

/-- Highest less lowest of a list. -/
def spread : List Int → Int
  | [] => 0
  | x :: xs => xs.foldl max x - xs.foldl min x

/-- The median test of R256 in one step: farther than PLAUS_DK from the median of the others, which agree. -/
def medianFails (dk : Int) (x : Vector (Option Int) 8) (t : Fin 8) : Bool :=
  match x[t], median (otherTemps x t) with
  | some v, some md => decide (spread (otherTemps x t) ≤ dk) && decide (dk < ((v - md).natAbs : Int))
  | _, _ => false

/-- The reading of a sensor at the reference step and that step's clock: the latest earlier step at least 1 s
before (R256). -/
def refStep (now : Nat) (h : List (Nat × List (Option Int))) : Option (Nat × List (Option Int)) :=
  h.find? fun e => decide (e.1 + secNs ≤ now)

/-- The rate test of R256 fails. -/
def rateFails (rate : Int) (now : Nat) (x : Vector (Option Int) 8) (h : List (Nat × List (Option Int))) (t : Fin 8) : Bool :=
  match refStep now h with
  | none => false
  | some (t0, ys) =>
    let old (j : Fin 8) : Option Int := ys.getD j.val none
    let calm := (List.finRange 8).all fun j => j = t || (match x[j], old j with
      | some a, some b => decide ((a - b).natAbs ≤ 10)
      | _, _ => true)
    match x[t], old t with
    | some a, some b => calm && decide (rate * ((now - t0 : Nat) : Int) < (a - b).natAbs * (secNs : Int))
    | _, _ => false

/-- What a step finds of one sensor: whether to exclude it, as invalid or as implausible. -/
def sensorFault (s : State) (x : Vector (Option Int) 8) (h : ThmMod) (t : Fin 8) : Option Bool :=
  let now := s.clock
  let late := match h.devAt[t] with
    | none => false
    | some d => medianFails s.im.plausDk x t && decide (d + secNs * s.im.plausTime ≤ now)
  if h.excl.getLsbD t.val then none
  else if x[t].isNone then some false
  else if late || rateFails s.im.rateMax now x h.hist t then some true
  else none

/-- An excluded sensor meets its condition of return in this step (R256). -/
def returning (s : State) (x : Vector (Option Int) 8) (h : ThmMod) (t : Fin 8) : Bool :=
  match x[t] with
  | none => false
  | some v =>
    if h.implaus.getLsbD t.val then
      match median (otherTemps x t) with
      | some md => decide (2 * ((v - md).natAbs : Int) ≤ s.im.plausDk)
      | none => !rateFails s.im.rateMax s.clock x h.hist t
    else true

/-- Exclude one sensor (R256). -/
def excludeSensor (c : ChainId) (m : Fin 32) (implaus : Bool) (s : State) (t : Fin 8) : State :=
  let bit : BitVec 8 := BitVec.ofNat 8 (2 ^ t.val)
  let s1 := onTm s c m fun h =>
    { h with
      excl := h.excl ||| bit
      implaus := if implaus then h.implaus ||| bit else h.implaus &&& ~~~bit
      retAt := h.retAt.set t none }
  let s2 := s1.onThm fun x =>
    if implaus then { x with cntImplaus := bump 8 x.cntImplaus } else { x with cntInvalid := bump 8 x.cntInvalid }
  logEvent s2 (if implaus then 0x5003 else 0x5002) m.val t.val

/-- History of readings: the new step, and the earlier ones down to the reference step of a later step. -/
def keepHist (now : Nat) (x : List (Option Int)) (h : List (Nat × List (Option Int))) : List (Nat × List (Option Int)) :=
  (now, x) :: (h.takeWhile fun e => decide (now < e.1 + secNs)) ++ (h.dropWhile fun e => decide (now < e.1 + secNs)).take 1

/-- Validity and plausibility of one module's sensors. -/
def judgeSensors (c : ChainId) (s : State) (m : Fin 32) : State :=
  if !s.judged c m then s
  else
    let x := s.readings c m
    let h := s.tm c m
    let now := s.clock
    let s1 := (List.finRange 8).foldl (fun t i => match sensorFault s x h i with
      | none => t
      | some b => excludeSensor c m b t i) s
    onTm s1 c m fun y =>
      { y with
        retAt := Vector.ofFn fun i =>
          if y.excl.getLsbD i.val && h.excl.getLsbD i.val && returning s x h i then some (h.retAt[i].getD now) else none
        devAt := Vector.ofFn fun i => if medianFails s.im.plausDk x i then some (h.devAt[i].getD now) else none
        hist := keepHist now x.toList h.hist }

/-- SENSOR_RETURN (R256): the sensor's time has passed. -/
def execSensorReturn (c : ChainId) (m : Fin 32) (t : Fin 8) (s : State) : Res :=
  let h := s.tm c m
  let span := if h.implaus.getLsbD t.val then secNs * s.im.plausTime else 10 * secNs
  let ready := match h.retAt[t] with
    | none => false
    | some x => decide (x + span ≤ s.clock)
  if s.heRuns && s.declared c && h.excl.getLsbD t.val && ready then
    let bit : BitVec 8 := BitVec.ofNat 8 (2 ^ t.val)
    .next (logEvent (onTm s c m fun y =>
      { y with
        excl := y.excl &&& ~~~bit
        implaus := y.implaus &&& ~~~bit
        retAt := y.retAt.set t none
        devAt := y.devAt.set t none }) 0x5004 m.val t.val)
  else .next s

/-! ### Substitution and factors (R253 to R257) -/

/-- Number of excluded sensors. -/
def exclCount (x : BitVec 8) : Nat := ((List.range 8).filter fun i => x.getLsbD i).length

/-- Row of Table 10.3. -/
def exclRow (e : Nat) : Nat := if e ≤ 1 then 0 else if e ≤ 4 then 1 else if e ≤ 7 then 2 else 3

/-- Highest and lowest of a module's own sensors in use. -/
def State.ownRange (s : State) (c : ChainId) (m : Fin 32) : Option (Int × Int) :=
  if !s.judged c m then none
  else
    ((List.finRange 8).filterMap fun t => if (s.tm c m).excl.getLsbD t.val then none else (s.readings c m)[t]).foldl
      (fun a x => match a with
        | none => some (x, x)
        | some (h, l) => some (max h x, min l x)) none

/-- A neighbour that may widen (R257): in use, with at most 4 excluded sensors. -/
def State.neighbour (s : State) (c : ChainId) (m : Nat) : Option (Int × Int) :=
  if h : m < 32 then
    let x : Fin 32 := ⟨m, h⟩
    let r := (s.chain c).mods[x]
    if m < s.nMods && r.st != .parked && !r.lost && decide (exclCount (s.tm c x).excl ≤ 4) then s.ownRange c x else none
  else none

/-- The neighbours of a module. -/
def State.neighbours (s : State) (c : ChainId) (m : Fin 32) : List (Int × Int) :=
  ((if m.val = 0 then [] else [m.val - 1]) ++ [m.val + 1]).filterMap (s.neighbour c)

/-- T_max and T_min of a module by Table 10.3, and whether neighbours widen them. -/
def State.moduleRange (s : State) (c : ChainId) (m : Fin 32) : Option (Int × Int) × Bool :=
  match s.ownRange c m with
  | none => (none, false)
  | some own =>
    let nb := s.neighbours c m
    if exclRow (exclCount (s.tm c m).excl) = 2 && !nb.isEmpty then
      (some (nb.foldl (fun a x => (max a.1 x.1, min a.2 x.2)) own), true)
    else (some own, false)

/-- Factor cap of Table 10.3. -/
def factorCap (e : Nat) : Nat := [1000, 500, 250, 0].getD (exclRow e) 0

/-- The ramp of R254. -/
def ramp (t start zero : Int) : Nat :=
  if t ≤ start then 1000
  else if zero ≤ t then 0
  else (tdiv (1000 * (zero - t)) (zero - start)).toNat

/-- Throttle factors of a module, discharge and charge (R254); both 0 in a shutdown of its chain (R261). -/
def State.factors (s : State) (c : ChainId) (r : Option (Int × Int)) (e : Nat) : Nat × Nat :=
  match r with
  | none => (0, 0)
  | some (hi, lo) =>
    let im := s.im
    let d := if im.tDisMin ≤ lo ∧ hi ≤ im.tDisMax then ramp hi im.disThrStart im.disThrZero else 0
    let g := if im.tChgMin ≤ lo ∧ hi ≤ im.tChgMax then ramp hi im.chgThrStart im.tChgMax else 0
    if s.hot c || s.cold c then (0, 0) else (min d (factorCap e), min g (factorCap e))

/-- Substitution of one module: its values, and the event of a changed treatment. `before`: the sensors excluded
before this step. -/
def substitute (c : ChainId) (before : State) (s : State) (m : Fin 32) : State :=
  let r := s.moduleRange c m
  let e := exclCount (s.tm c m).excl
  let old := exclRow (exclCount (before.tm c m).excl)
  let was := (before.tm c m).subst
  let s1 := onTm s c m fun h => { h with subst := r.2, tMax := r.1.map (·.1), tMin := r.1.map (·.2) }
  let s2 := if r.2 && !was then s1.onThm fun t => { t with cntSubst := bump 8 t.cntSubst } else s1
  if exclRow e != old && exclRow e != 0 && s.judged c m then logEvent s2 0x5005 m.val e else s2

/-- Factors of one module. -/
def setFactors (c : ChainId) (s : State) (m : Fin 32) : State :=
  let h := s.tm c m
  let r := match h.tMax, h.tMin with
    | some a, some b => some (a, b)
    | _, _ => none
  let f := s.factors c r (exclCount h.excl)
  onTm s c m fun h => { h with fDis := f.1, fChg := f.2 }

/-- The general input of a chain's inductor, if the image assigns one (R255). -/
def State.indInput (s : State) (c : ChainId) : Option (Fin 8) :=
  (List.finRange 8).find? fun i => s.im.str.genFn[i] == 1 + c.num

/-- The inductor temperature of a chain: none without a sensor, `some none` for an invalid one. -/
def State.indTemp (s : State) (c : ChainId) : Option (Option Int) := (s.indInput c).map fun i => s.thm.gen[i].temp

/-- The inductor factor of a chain (R255): event 0x5010 when it leaves 1,000 and when it returns. -/
def setInductor (s : State) (c : ChainId) : State :=
  let f := match s.indTemp c with
    | none => 1000
    | some none => 500
    | some (some t) => ramp t s.im.lThrStart s.im.lThrZero
  let old := s.indFactor c
  let s1 := s.onThm fun t => match c with
    | .a => { t with indA := f }
    | .b => { t with indB := f }
  if (f == 1000) != (old == 1000) then logEvent s1 0x5010 c.num f else s1

/-! ### Shutdown (R258, R261 to R264) -/

/-- The hottest valid module sensor of a chain, with module and thermistor. -/
def State.hottest (s : State) (c : ChainId) : Option (Int × Fin 32 × Fin 8) :=
  (s.modIdx.filter (s.judged c)).foldl (fun a m => (List.finRange 8).foldl (fun b t =>
    match (s.readings c m)[t], b with
    | none, _ => b
    | some v, none => some (v, m, t)
    | some v, some w => if w.1 < v then some (v, m, t) else b) a) none

/-- The coldest module sensor in use of a chain, with module and thermistor. -/
def State.coldest (s : State) (c : ChainId) : Option (Int × Fin 32 × Fin 8) :=
  (s.modIdx.filter (s.judged c)).foldl (fun a m => (List.finRange 8).foldl (fun b t =>
    if (s.tm c m).excl.getLsbD t.val then b
    else match (s.readings c m)[t], b with
      | none, _ => b
      | some v, none => some (v, m, t)
      | some v, some w => if v < w.1 then some (v, m, t) else b) a) none

/-- The hottest die and its number: 0 controller, 1 measurement, 2 power. -/
def State.hotDie (s : State) : Option (Int × Nat) :=
  [(s.thm.dieCtrl, 0), (s.thm.dieMeas, 1), (s.thm.diePower, 2)].foldl (fun a x =>
    match x.1, a with
    | none, _ => a
    | some v, none => some (v, x.2)
    | some v, some w => if w.1 < v then some (v, x.2) else a) none

/-- A temperature is at or above a limit. -/
def atLeast (lim : Int) : Option Int → Bool
  | none => false
  | some t => decide (lim ≤ t)

/-- The causes of hot shutdown in this step: module, inductor, die (R261). -/
def State.hotNow (s : State) (c : ChainId) : Bool × Bool × Bool :=
  (atLeast s.im.hotShut ((s.hottest c).map (·.1)), atLeast s.im.lShut ((s.indTemp c).join),
    atLeast s.im.dieShut (s.hotDie.map (·.1)))

/-- Consecutive scan steps of each hot cause. -/
def State.hotRun (s : State) : ChainId → Nat × Nat × Nat
  | .a => s.thm.hotRunA
  | .b => s.thm.hotRunB

/-- Consecutive scan steps of cold. -/
def State.coldRun (s : State) : ChainId → Nat
  | .a => s.thm.coldRunA
  | .b => s.thm.coldRunB

/-- Causes of the hot shutdown in force. -/
def State.hotCauses (s : State) : ChainId → List Nat
  | .a => s.thm.causeA
  | .b => s.thm.causeB

/-- A place of the till area that no record holds. -/
def freePlace (rs : List TillRec) : Nat := ((List.range 32).find? fun p => !rs.any (·.pos == p)).getD 0

/-- T_max and T_min of a till record: of the causing module, and over the chain's modules where no module caused the
shutdown. DESIGN CHOICE, log entry 20. -/
def State.recordedRange (s : State) (c : ChainId) (m : Nat) : Option (Int × Int) :=
  (s.modIdx.filter fun k => decide (k.val = m) || decide (32 ≤ m)).foldl (fun a k =>
    match (s.tm c k).tMax, (s.tm c k).tMin, a with
    | some h, some l, none => some (h, l)
    | some h, some l, some x => some (max h x.1, min l x.2)
    | _, _, _ => a) none

/-- A till record becomes due (R263), or the area is full. -/
def tillRecord (s : State) (c : ChainId) (kind cause : Nat) (m sensor : Nat) (temp : Int) (ref : Nat) : State :=
  if 32 ≤ s.thm.tills.length + s.thm.tillDue.length then
    logEvent (s.onThm fun t => { t with full := true }) 0x500D
  else
    let range := s.recordedRange c m
    let r : TillRec :=
      { seq := (s.thm.tillSeq + 1) % 2 ^ 32
        kind := kind
        cause := cause
        chain := c.num
        sensor := sensor
        temp := temp
        time := s.tim.time
        mod := m
        tMax := range.map (·.1)
        tMin := range.map (·.2)
        vCap := s.meas.vCap
        i := (s.chain c).iMeas
        ref := ref
        pos := freePlace (s.thm.tills ++ s.thm.tillDue) }
    s.onThm fun t => { t with tillSeq := (t.tillSeq + 1) % 2 ^ 32, tillDue := t.tillDue ++ [r] }

/-- What both kinds of shutdown do to the chain: open it, zero its factors, let the loads follow (R261). -/
def shutChain (s : State) (c : ChainId) : State :=
  refreshLoads (s.modIdx.foldl (setFactors c) (requestOpen (raiseHeld s 0x26) c))

/-- A hot shutdown begins, with cause 1 module, 3 inductor or 4 die. -/
def beginHot (s : State) (c : ChainId) (cause : Nat) : State :=
  let src : Int × Nat × Nat := match cause with
    | 1 => (match s.hottest c with
      | some (v, m, t) => (v, m.val, t.val)
      | none => (0, 0xFF, 0))
    | 3 => (((s.indTemp c).join).getD 0, 0xFF, ((s.indInput c).map (·.val)).getD 0)
    | _ => ((s.hotDie.map (·.1)).getD 0, 0xFF, (s.hotDie.map (·.2)).getD 0)
  let s1 := s.onThm fun t => match c with
    | .a => { t with sdHotA := true, latHotA := true, readyA := false, relHotA := none }
    | .b => { t with sdHotB := true, latHotB := true, readyB := false, relHotB := none }
  watchActs (logEvent (tillRecord (shutChain s1 c) c 1 cause src.2.1 src.2.2 src.1 0) 0x5007 c.num cause)

/-- A cold shutdown begins. -/
def beginCold (s : State) (c : ChainId) : State :=
  let src : Int × Nat × Nat := match s.coldest c with
    | some (v, m, t) => (v, m.val, t.val)
    | none => (0, 0xFF, 0)
  let s1 := s.onThm fun t => match c with
    | .a => { t with sdColdA := true, latColdA := true, relColdA := none }
    | .b => { t with sdColdB := true, latColdB := true, relColdB := none }
  watchActs (logEvent (tillRecord (shutChain s1 c) c 1 2 src.2.1 src.2.2 src.1 0) 0x5008 c.num src.2.1)

/-- Every valid sensor of the kinds that caused the hot shutdown is below its release level (R262). -/
def State.hotBelow (s : State) (c : ChainId) : Bool :=
  (s.hotCauses c).all fun k => match k with
    | 1 => !atLeast s.im.hotRelease ((s.hottest c).map (·.1))
    | 3 => !atLeast s.im.lThrStart ((s.indTemp c).join)
    | _ => !atLeast s.im.dieWarn (s.hotDie.map (·.1))

/-- Every module sensor in use is at or above COLD_RELEASE. -/
def State.coldAbove (s : State) (c : ChainId) : Bool :=
  match s.coldest c with
  | none => true
  | some (v, _) => decide (s.im.coldRelease ≤ v)

/-- The runs of a step. -/
def countRuns (s : State) (c : ChainId) : State :=
  let run (n : Nat) (b : Bool) : Nat := if b then min 3 (n + 1) else 0
  let h := s.hotNow c
  let r := s.hotRun c
  let hr := (run r.1 h.1, run r.2.1 h.2.1, run r.2.2 h.2.2)
  let cr := run (s.coldRun c) (match s.coldest c with
    | none => false
    | some (v, _) => decide (v ≤ s.im.coldShut))
  let causes := (if hr.1 = 3 then [1] else []) ++ (if hr.2.1 = 3 then [3] else []) ++ (if hr.2.2 = 3 then [4] else [])
  s.onThm fun t => match c with
    | .a => { t with hotRunA := hr, coldRunA := cr, causeA := if t.sdHotA then (t.causeA ++ causes).eraseDups else causes }
    | .b => { t with hotRunB := hr, coldRunB := cr, causeB := if t.sdHotB then (t.causeB ++ causes).eraseDups else causes }

/-- The times since which a shutdown in force could be released. -/
def releaseTimes (s : State) (c : ChainId) : State :=
  let now := s.clock
  let hot := s.hot c && s.hotBelow c
  let cold := s.cold c && s.coldAbove c
  let keep (b : Bool) (o : Option Nat) : Option Nat := if b then some (o.getD now) else none
  s.onThm fun t => match c with
    | .a => { t with relHotA := keep hot t.relHotA, relColdA := keep cold t.relColdA }
    | .b => { t with relHotB := keep hot t.relHotB, relColdB := keep cold t.relColdB }

/-- Shutdown checks of one chain. -/
def checkShutdown (s : State) (c : ChainId) : State :=
  let s1 := countRuns s c
  let s2 := match s1.hotCauses c with
    | [] => s1
    | k :: _ => if s1.hot c then s1 else beginHot s1 c k
  let s3 := if s2.coldRun c = 3 && !s2.cold c then beginCold s2 c else s2
  releaseTimes s3 c

/-- A shutdown of a kind ends: event 0x5009 (kind 1 hot, 2 cold), a release record, and the plinth latch of that
kind. The chain stays in BLOCK until a CONNECT (R262). The record names the sequence 0 when the area held none of that
shutdown (DESIGN CHOICE, log entry 20). -/
def endShutdown (s : State) (c : ChainId) (hot : Bool) : State :=
  let s1 := s.onThm fun t => match c, hot with
    | .a, true => { t with sdHotA := false, latHotA := false, readyA := false, relHotA := none, causeA := [] }
    | .b, true => { t with sdHotB := false, latHotB := false, readyB := false, relHotB := none, causeB := [] }
    | .a, false => { t with sdColdA := false, latColdA := false, relColdA := none }
    | .b, false => { t with sdColdB := false, latColdB := false, relColdB := none }
  let mine (r : TillRec) : Bool := r.kind == 1 && r.chain == c.num && !s.tillReleased r && (r.cause == 2) != hot
  let s2 := match (s1.thm.tills ++ s1.thm.tillDue).find? mine with
    | none => tillRecord s1 c 2 (if hot then (s.hotCauses c).headD 1 else 2) 0xFF 0 0 0
    | some r => tillRecord s1 c 2 r.cause r.mod r.sensor r.temp r.seq
  let s3 := if s2.anyHot || s2.thm.sdColdA || s2.thm.sdColdB then s2 else endHeld s2 0x26
  refreshLoads (logEvent s3 0x5009 c.num (if hot then 1 else 2))

/-- A release time has run RELEASE_TIME. -/
def State.releaseDue (s : State) (since : Option Nat) : Bool :=
  match since with
  | none => false
  | some t => decide (t + 60 * secNs * s.im.releaseTime ≤ s.clock)

/-- COLD_SHUTDOWN_END (R262). -/
def execColdShutdownEnd (c : ChainId) (s : State) : Res :=
  let since := match c with
    | .a => s.thm.relColdA
    | .b => s.thm.relColdB
  if s.heRuns && s.cold c && s.releaseDue since then .next (endShutdown s c false) else .next s

/-- HOT_RELEASE_READY (R262). -/
def execHotReleaseReady (c : ChainId) (s : State) : Res :=
  let since := match c with
    | .a => s.thm.relHotA
    | .b => s.thm.relHotB
  if s.heRuns && s.hot c && s.releaseDue since then
    .next (s.onThm fun t => match c with
      | .a => { t with readyA := true }
      | .b => { t with readyB := true })
  else .next s

/-! ### Heaters (R259, R260) -/

/-- T_max and T_min over the modules of a heater's group that have a value. -/
def State.groupRange (s : State) (n : Fin 12) : Option (Int × Int) :=
  s.chains.foldl (fun a c => s.modIdx.foldl (fun b m =>
    if (s.im.heatGroup c n.val).getLsbD m.val then
      match (s.tm c m).tMax, (s.tm c m).tMin, b with
      | some h, some l, none => some (h, l)
      | some h, some l, some (h1, l1) => some (max h h1, min l l1)
      | _, _, _ => b
    else b) a) none

/-- What automatic control wants of a heater. -/
def State.autoHeat (s : State) (n : Fin 12) : Bool :=
  match s.groupRange n with
  | none => false
  | some (hi, lo) =>
    if s.im.heatMax ≤ hi || s.im.heatOff < lo then false
    else if lo < s.im.heatOn then true
    else s.thm.heatAuto[n]

/-- A heater must be off whatever is forced (R260). -/
def State.heatBlocked (s : State) (n : Fin 12) : Bool :=
  (match s.groupRange n with
    | none => false
    | some (hi, _) => decide (s.im.heatMax ≤ hi)) || s.hotHeater n || s.pwr.s1

/-- The state that a heater should show, stagger apart. -/
def State.heatGoal (s : State) (n : Fin 12) : HeatSt :=
  match s.thm.heatForce[n] with
  | some (true, _) => if s.heatBlocked n then .off else .forcedOn
  | some (false, _) => .forcedOff
  | none => if s.thm.heatAuto[n] && !s.heatBlocked n then .auto else .off

/-- Heater channels of the image. -/
def State.heaters (s : State) : List (Fin 12) := (List.finRange 12).filter fun n => s.lswClass n == 3

/-- Heaters that are to be on and are not, in channel order. -/
def State.heatersDue (s : State) : List (Fin 12) :=
  s.heaters.filter fun n => heatOnSt (s.heatGoal n) && !heatOnSt s.thm.heat[n]

/-- Switch the first due heater on, if 100 ms have passed since the one before; the others wait. -/
def staggerHeater (s : State) : State :=
  let free := match s.thm.heatLast with
    | none => true
    | some t => decide (t + 100 * msNs ≤ s.clock)
  let now := s.clock
  match s.heatersDue with
  | [] => s.onThm fun t => { t with heatDue := [] }
  | n :: ns =>
    if free then (setHeater s n (s.heatGoal n)).onThm fun t => { t with heatDue := ns, heatLast := some now }
    else s.onThm fun t => { t with heatDue := n :: ns }

/-- Every heater whose state does not wait for the stagger follows its goal. -/
def settleHeater (s : State) (n : Fin 12) : State :=
  let g := s.heatGoal n
  if g == s.thm.heat[n] || (heatOnSt g && !heatOnSt s.thm.heat[n]) then s else setHeater s n g

/-- Heater control of a scan step. A heater test keeps the channels to itself (R355). -/
def controlHeaters (s : State) : State :=
  let s1 := s.heaters.foldl (fun t n => t.onThm fun x => { x with heatAuto := x.heatAuto.set n (s.autoHeat n) }) s
  if s.mnt.heatTest.isSome then s1 else staggerHeater (s1.heaters.foldl settleHeater s1)

/-- HEATER_STAGGER (R259). -/
def execHeaterStagger (s : State) : Res :=
  if s.heRuns && !s.thm.heatDue.isEmpty && s.mnt.heatTest.isNone then .next (staggerHeater s) else .next s

/-- THM_HEAT_CMD (R260). While HE restarts, heater states stay as they are and the command waits for the scan (R30). -/
def opThmHeat (ch action : Nat) (s : State) : RegRes :=
  if h : 1 ≤ ch ∧ ch ≤ 12 then
    let n : Fin 12 := ⟨ch - 1, by omega⟩
    if s.lswClass n != 3 || 3 ≤ action then (s, 0x07)
    else if s.locks.getLsbD 6 then (s, 0x05)
    else
      let t := s.clock + secNs * s.im.heatOverride
      let f : Option (Bool × Nat) := match action with
        | 0 => none
        | 1 => some (true, t)
        | _ => some (false, t)
      let s1 := s.onThm fun x => { x with heatForce := x.heatForce.set n f }
      (if s.heRuns then staggerHeater (settleHeater s1 n) else s1, 0x00)
  else (s, 0x07)

/-- THM_HEAT_CMD (R260). -/
def execThmHeatCmd (p : Requester) (ch action : Nat) (s : State) : Res :=
  .next (regCmd s p fun s => withRight s p .operate 0x000B0074 (opThmHeat ch action))

/-- HEAT_OVERRIDE_EXPIRY (R260), which HE notices (R30). -/
def execHeatOverrideExpiry (ch : Fin 12) (s : State) : Res :=
  match s.thm.heatForce[ch] with
  | none => .next s
  | some (_, t) =>
    if s.heRuns && decide (t ≤ s.clock) then
      let s1 := s.onThm fun x => { x with heatForce := x.heatForce.set ch none }
      .next (if s.mnt.heatTest.isSome then s1 else staggerHeater (settleHeater s1 ch))
    else .next s

/-! ### The scan (R251, R252) -/

/-- Distances of valid sensors to the limits of their kind, 0.1 K. -/
def distances (vs lims : List Int) : List Nat := vs.flatMap fun v => lims.map fun l => (v - l).natAbs

/-- Every distance of R252. -/
def State.scanDistances (s : State) : List Nat :=
  let im := s.im
  let mods := s.chains.flatMap fun c => (s.modIdx.filter (s.judged c)).flatMap fun m => (s.readings c m).toList.filterMap id
  let inds := s.chains.filterMap fun c => (s.indTemp c).join
  distances mods [im.tChgMin, im.tChgMax, im.tDisMin, im.tDisMax, im.chgThrStart, im.disThrStart, im.hotShut, im.coldShut]
    ++ distances inds [im.lThrStart, im.lShut]
    ++ distances ([s.thm.dieCtrl, s.thm.dieMeas, s.thm.diePower].filterMap id) [im.dieWarn, im.dieShut]

/-- The next interval (R252): 2 for 10 ms, 1 for 100 ms, 0 for 1 s. -/
def State.nextScan (s : State) : Nat :=
  if s.pwr.s2 then 0
  else if s.scanDistances.any (· ≤ 20) then 2
  else if s.scanDistances.any (· ≤ 50) then 1
  else 0

/-- Take the general inputs and the die sensors; a spare input is not read (Table 10.1). A thermistor above 1 MΩ reads
open and one below 100 Ω shorted, and either has no temperature (R250). -/
def takeInputs (s : State) (x : ScanInputs) : State :=
  s.onThm fun t =>
    { t with
      gen := Vector.ofFn fun (i : Fin 8) =>
        let r := x.gen.getD i.val { temp := none, ohms := 10000 }
        let up := decide (1000000 < r.ohms)
        let down := decide (r.ohms < 100)
        if s.im.str.genFn[i] = 0 then {}
        else { temp := if up || down then none else r.temp, isOpen := up, isShort := down }
      dieCtrl := some x.dieCtrl
      dieMeas := some x.dieMeas
      diePower := some x.diePower }

/-- Event 0x500F for each die that reaches DIE_WARN. -/
def dieWarnings (s : State) : State :=
  let ds := [(s.thm.dieCtrl, 0), (s.thm.dieMeas, 1), (s.thm.diePower, 2)]
  let hot (d : Option Int × Nat) : Bool := atLeast s.im.dieWarn d.1
  let s1 := (ds.filter fun d => hot d && !s.thm.dieWarn.getLsbD d.2).foldl
    (fun t d => logEvent t 0x500F d.2 (lo16 (tdiv (d.1.getD 0) 10))) s
  s1.onThm fun t =>
    { t with dieWarn := ds.foldl (fun a d => if hot d then a ||| BitVec.ofNat 3 (2 ^ d.2) else a) 0 }

/-- The steps of a scan on one chain: sensors and substitution. -/
def scanSensors (s : State) (c : ChainId) : State :=
  s.modIdx.foldl (substitute c s) (s.modIdx.foldl (judgeSensors c) s)

/-- The steps of a scan on one chain: factors. -/
def scanFactors (s : State) (c : ChainId) : State := setInductor (s.modIdx.foldl (setFactors c) s) c

/-- SCAN_STEP (R251): validity and plausibility, substitution, shutdown checks, throttle factors, heaters, and the
next interval. -/
def execScanStep (x : ScanInputs) (s : State) : Res :=
  if !s.heRuns then .next s
  else
    let s1 := dieWarnings ((takeInputs s x).forChains scanSensors)
    let s2 := (s1.forChains checkShutdown).forChains scanFactors
    let s3 := controlHeaters s2
    let n := s3.nextScan
    let s4 := s3.onThm fun t => { t with scan := n, held := s3.pwr.s2 }
    .next (if n = s.thm.scan then s4 else logEvent s4 0x5001 n)

/-! ### Till records -/

/-- THM_CLEAR.RELEASE (R262). -/
def opThmRelease (c : ChainId) (s : State) : RegRes :=
  let ready := match c with
    | .a => s.thm.readyA
    | .b => s.thm.readyB
  if s.hot c && ready then (endShutdown s c true, 0x00) else (logEvent s 0x500A c.num, 0x04)

/-- The shutdown of a record is still in force (R263). -/
def State.tillInForce (s : State) (r : TillRec) : Bool :=
  r.kind == 1 && !s.tillReleased r && (match r.chain, r.cause with
    | 0, 2 => s.thm.sdColdA
    | 0, _ => s.thm.sdHotA
    | _, 2 => s.thm.sdColdB
    | _, _ => s.thm.sdHotB)

/-- THM_CLEAR.ERASE (R263): records of released shutdowns. -/
def opThmErase (s : State) : RegRes :=
  let gone (r : TillRec) : Bool := !s.tillInForce r
  let n := (s.thm.tills.filter gone).length
  let left := (s.thm.tills.length - n) + s.thm.tillDue.length
  (logEvent (s.onThm fun t =>
    { t with tills := t.tills.filter fun r => !gone r, full := t.full && decide (32 ≤ left) }) 0x500C n, 0x00)

/-- THM_CLEAR is taken on the service port alone (R262). -/
def serviceOnly (s : State) (p : Requester) (addr : Word) (op : State → RegRes) : RegRes :=
  if p == .service then withRight s p .clear addr op else (deny s p .clear addr, 0x02)

/-- THM_CLEAR_RELEASE (R262). -/
def execThmClearRelease (p : Requester) (c : ChainId) (s : State) : Res :=
  .next (regCmd s p fun s => serviceOnly s p 0x000B0078 (opThmRelease c))

/-- THM_CLEAR_ERASE (R263). -/
def execThmClearErase (p : Requester) (s : State) : Res :=
  .next (regCmd s p fun s => serviceOnly s p 0x000B0078 opThmErase)

/-- TILL_RECORD_WRITE (R263): the oldest due record begins to be written. -/
def execTillRecordWrite (s : State) : Res :=
  match s.thm.tillDue with
  | [] => .next s
  | r :: _ =>
    if s.nvmFree then
      let now := s.clock
      .next (s.onEst fun e => { e with writing := some { kind := .till, began := now, till := some r } })
    else .next s

end Sys2Proof.Machine
end

