-- ==== Sys2Proof/Machine/Publish.lean ====
section
/-! DEFINITION. What the device publishes of itself: the values of CELL_STATUS and of the local bus status frame
(spec/04 Table 04.9; spec/13 Table 13.2). -/

set_option Elab.async false

namespace Sys2Proof.Machine

/-- STATE byte of CELL_STATUS (Table 04.9). -/
def State.stateByte (s : State) : BitVec 8 :=
  BitVec.ofNat 8 (s.arm.cell.code + (if s.dev.member then 8 else 0) + (if s.arm.owner then 16 else 0)
    + 32 * (s.im.str.board % 4))

/-- Highest T_max and lowest T_min of all modules with a value (R257). -/
def State.tempSummary (s : State) : Option (Int × Int) :=
  s.chains.foldl (fun a c => s.modIdx.foldl (fun b m =>
    match (s.tm c m).tMax, (s.tm c m).tMin, b with
    | some h, some l, none => some (h, l)
    | some h, some l, some (h1, l1) => some (max h h1, min l l1)
    | _, _, _ => b) a) none

/-- The SOC of CELL_STATUS (R224): chain A's, or with two chains the mean weighted by the capacities. -/
def State.publishedSoc (s : State) : Option Nat :=
  let r := s.chains.foldl (fun (a : Nat × Nat) c => match (s.es c).soc with
    | some x => (a.1 + x * (s.socSums c).2, a.2 + (s.socSums c).2)
    | none => a) (0, 0)
  if 2 ≤ s.chains.length then (if r.2 = 0 then none else some (r.1 / r.2)) else s.esA.soc

/-- Two bytes of an optional signed value, low byte first; the invalid code is 0x8000. -/
def le16s (v : Option Int) : List (BitVec 8) :=
  let n := match v with
    | some x => lo16 x
    | none => 0x8000
  [BitVec.ofNat 8 n, BitVec.ofNat 8 (n / 256)]

/-- Two bytes of an optional unsigned value, low byte first; the invalid code is 0xFFFF. -/
def le16u (v : Option Nat) : List (BitVec 8) :=
  let n := v.getD 0xFFFF
  [BitVec.ofNat 8 n, BitVec.ofNat 8 (n / 256)]

/-- Shutdown code of a chain: 0 none, 1 hot, 2 cold, 3 both (THM_STATUS). -/
def State.sdCode (s : State) (c : ChainId) : Nat := (if s.hot c then 1 else 0) + (if s.cold c then 2 else 0)

end Sys2Proof.Machine
end

