-- ==== Sys2Proof/Machine/Glue.lean ====
section
/-! DEFINITION. Glue-up (spec/03 R52 to R59): readiness, announcement, confirmation, cancelling, the switch at
T_G, the structural restart, the silence of a device whose tag differs from the ring's, and adoption. Shared by
the ARM_CYCLE reception, the arm cycle boundary and the image commands. -/

set_option Elab.async false

namespace Sys2Proof.Machine

/-- Arm cycle length of the schedule in force, ns. -/
def State.cycleNs (s : State) : Nat := s.im.inlay.cycle

/-- The active schedule tag. -/
def State.activeTag (s : State) : BitVec 64 := s.im.tag

/-- The staged image has a passed dry-fit. -/
def State.dryfitPassed (s : State) : Bool := s.img.dfCode == 1#8 && s.img.staged.isSome

/-- The condition of R53 on the cell. -/
def State.bypassCondition (s : State) : Bool :=
  s.arm.cell == .off || s.arm.cell == .bypassed || s.arm.mode == .bypassAll

/-- A maintenance activity holds the main bridge, a chain's bridges or the chain contactors (R53). -/
def State.glueLocked (s : State) : Bool := (s.locks &&& 0x1F#10) != 0

/-- GLUE_BLOCK for an announced tag (R54): 0 for READY. With SE halted no glue-up is accepted (R31): DESIGN CHOICE, it
shows as reason 1 (log entry 43). -/
def State.glueReason (s : State) (tag : BitVec 64) : Nat :=
  if !s.dryfitPassed || s.seHalted then 1
  else if s.img.tagStaged != tag then 2
  else if s.img.structural && !s.bypassCondition then 3
  else if s.img.structural && s.glueLocked then 4
  else 0

/-- A glue-up that has not seen CONFIRM is cancelled (R55): cause 0 ABORT, 1 a new ANNOUNCE, 2 IMG_CMD ABORT,
3 a lost condition of R53. So is one whose READY fell with the silence of R57, which has kept the slot locked (R49). -/
def cancelGlue (s : State) (cause : Nat) : State :=
  match s.img.glue with
  | .confirmed | .restarting => s
  | .announced | .ready =>
    logEvent (s.onImg fun i => { i with glue := .idle, locked := false, glueBlock := 0 }) 0xB009 cause
  | .idle | .silent =>
    if s.img.locked then logEvent (s.onImg fun i => { i with locked := false, glueBlock := 0 }) 0xB009 cause else s

/-- ANNOUNCE of a tag and T_G (R54, R55), by a silent device too. -/
def glueAnnounce (s : State) (tag : BitVec 64) (tG : Nat) : State :=
  match s.img.glue with
  | .confirmed | .restarting => s
  | .idle | .announced | .ready | .silent =>
    let fresh := s.img.glue == .idle || s.img.glue == .silent
    let other := s.img.glueTag != tag || s.img.glueTime != tG
    let s1 := if (!fresh || s.img.locked) && other then cancelGlue s 1 else s
    let begins := fresh || other
    let r := s1.glueReason tag
    if s1.img.glue == .ready && r ≠ 0 then cancelGlue s1 3
    else if !begins && s1.img.glueBlock = r then s1
    else
      logEvent (s1.onImg fun i =>
        { i with
          glue := if r = 0 then .ready else .announced
          locked := decide (r = 0)
          glueBlock := r
          glueTag := tag
          glueTime := tG }) 0xB005 r

/-- CONFIRM of the announced glue-up (R55): the device commits itself; in a structural glue-up its chains are
driven to zero current and blocked. A condition of R53 lost since READY cancels it instead. -/
def glueConfirm (s : State) (tag : BitVec 64) (tG : Nat) : State :=
  if s.img.glue == .ready && s.img.glueTag == tag && s.img.glueTime == tG then
    let s1 := logEvent (s.onImg fun i => { i with glue := .confirmed }) 0xB006 (tG / 1000)
    if s.glueReason tag ≠ 0 then cancelGlue s 3 else if s.img.structural then blockChains s1 else s1
  else s

/-- The glue-up fields of an ARM_CYCLE: 1 ANNOUNCE, 2 CONFIRM, 3 ABORT. -/
def gluePhase (s : State) (phase : Nat) (tag : BitVec 64) (tG : Nat) : State :=
  match phase with
  | 1 => glueAnnounce s tag tG
  | 2 => glueConfirm s tag tG
  | 3 => cancelGlue s 0
  | _ => s

/-- READY whose condition of R53 is lost is cancelled (R55). -/
def watchReady (s : State) : State :=
  if s.img.glue == .ready && s.glueReason s.img.glueTag ≠ 0 then cancelGlue s 3 else s

/-- The staged image becomes the active one (R47, R55, R75): slot, floor, bounds of its schedule; the boundaries of
a new cycle length begin at the Spline time t. A trigger up to t still meets the old reaction table (R58). The slot stays
locked until a structural glue-up completes (R49). -/
def installStaged (s : State) (im : Image) (t : Nat) : State :=
  let s1 := (flushStaging (retimeBus s im)).onImg fun i =>
    { i with
      activeSlot := !s.runSlot
      fallback := false
      active := some im
      staged := none
      staging := .empty
      tagStaged := 0
      stagedVersion := 0
      structural := false
      dfCode := 0
      dfSection := 0
      dfRecord := 0
      dfWarn := false
      floor := max i.floor im.secVersion
      locked := i.locked && i.structural
      glue := .idle
      glueBlock := 0
      adoptDue := false
      loadFail := false }
  let old := s.im.reactions
  let inlay := s.im.inlay
  let s2 := (s1.onPrt fun p => { p with oldTable := some (t, old) }).onSpl fun x =>
    { x with oldInlay := some (t, inlay), boundB := x.stagedBound, dLine := x.stagedLine, silent := false }
  let s3 := s2.onSec fun x => { x with cntGlue := (x.cntGlue + 1) % 2 ^ 32, cntDue := true }
  s3.onArm fun a => { a with boundary := if a.boundary < t then t - im.inlay.cycle else a.boundary }

/-- A structural restart begins (Table 03.9 step 4b): engines stop, contactor channels go into the clamp hold,
the cell's legs are off, forwarding and time go on. -/
def beginGlueRestart (s : State) : State :=
  let now := s.clock
  let s1 := setEngines (beginClamp (endAllActs (takeHwEvents s) 4)) .off
  let s2 := (bothHiZ s1 0 false).onArm fun a =>
    { ({} : Arm) with
      owner := a.owner
      cell := a.cell
      changes := a.changes
      mode := a.mode
      nextMode := a.nextMode
      modes := a.modes
      bypassed := a.bypassed
      roleClash := a.roleClash
      boundary := a.boundary }
  let s3 := (s2.onImg fun i => { i with glue := .restarting, restartAt := now }).onDev fun d => { d with phase := .glueRestart }
  let s4 := (s3.onSpl fun x => { x with frozen := [], regQueue := [], ansRefused := [], ansBulk := none, ansResults := [] }).onGlk
    fun g => { g with testUntil := none, testOver := none, takeUntil := none, jig := none, bInvert := false }
  refreshBridge s4

/-- The inactive slot holds an uncorrectable error (R59). -/
def State.stagedSlotErr (s : State) : Bool := if s.runSlot then s.img.slotAErr else s.img.slotBErr

/-- The switch to the staged image at Spline time t (R55, R57, R59). `adopt`: under R57. -/
def switchImage (s : State) (t : Nat) (adopt : Bool) : State :=
  match s.img.staged with
  | none => s.onImg fun i => { i with glue := .idle, locked := false, adoptDue := false }
  | some im =>
    if s.stagedSlotErr then
      logEvent ((s.onImg fun i => { i with glue := .idle, locked := false, adoptDue := false, loadFail := true }).onSpl
        fun x => { x with silent := true }) 0xB00C 1
    else
      let structural := s.img.structural
      let s1 := if adopt then logEvent s 0xB00A (if structural then 1 else 0) else s
      let s2 := installStaged s1 im t
      bif structural then beginGlueRestart s2 else (bif adopt then s2 else logEvent s2 0xB007)

/-- The device is silent under R57. -/
def State.ringSilent (s : State) : Bool := s.spl.silent && !s.img.loadFail

/-- The ring tag differs from the active tag (R57): no own slot is used, a running cell and its chains block; a
passed staged image with the ring's tag is adopted at the next boundary. A READY falls, its slot stays locked; a confirmed
glue-up goes on to T_G. The ring tag equal again ends the silence, but not that of R59. -/
def ringTag (s : State) (tag : BitVec 64) : State :=
  if s.img.active.isNone then s
  else if tag == s.activeTag then
    if s.ringSilent then
      (s.onImg fun i => { i with glue := if i.glue == .silent then .idle else i.glue, adoptDue := false }).onSpl
        fun x => { x with silent := false }
    else s
  else
    let adopt := s.dryfitPassed && s.img.tagStaged == tag
    let s1 := if s.ringSilent then s
      else
        let t0 := logEvent s 0xB00D (tag.toNat % 65536)
        let t1 := (t0.onImg fun i =>
          { i with
            glue := if i.glue == .confirmed then .confirmed else .silent
            glueBlock := 0
            loadFail := false }).onSpl fun x => { x with silent := true }
        blockChains (if s.arm.cell.inserting then blockCell t1 0 else t1)
    s1.onImg fun i => { i with adoptDue := adopt }

end Sys2Proof.Machine
end

