-- ==== Sys2Proof/Machine/Arm.lean ====
section
/-! DEFINITION. Arm modulation (spec/05; spec/01 R17 to R22, R394): reference frames, mode in force, insertion and
edges, membership and carrier phase, the battery power share, and the arm cycle boundary. Rows 60 and 61. -/

set_option Elab.async false

namespace Sys2Proof.Machine

/-! ### Time of the arm cycle -/

/-- The boundary in ns that a CYCLE value names: the one nearest to Spline time t with these low 32 bits of
microseconds. -/
def unwrapUs (t c : Nat) : Nat :=
  let us := t / 1000
  let d := (c % 2 ^ 32 + 2 ^ 32 - us % 2 ^ 32) % 2 ^ 32
  1000 * (if d < 2 ^ 31 then us + d else us + d - 2 ^ 32)

/-- The next arm cycle boundary. -/
def State.nextBound (s : State) : Nat := s.arm.boundary + s.cycleNs

/-- The boundary that a CYCLE value names: the one of the cycles' grid that lies in that microsecond, or its start. -/
def State.boundOf (s : State) (c : Nat) : Nat :=
  let b := unwrapUs s.tim.time c
  let r := (((s.arm.boundary : Int) - b) % s.cycleNs).toNat
  if r < 1000 then b + r else b

/-- The next boundary has come: Spline time has been acquired and has reached it. -/
def State.boundDue (s : State) : Bool :=
  s.tim.acquired && decide (0 < s.cycleNs) && decide (s.nextBound ≤ s.tim.time)

/-- The newest boundary at or before the present time. -/
def State.newestBound (s : State) : Nat :=
  s.arm.boundary + (s.tim.time - s.arm.boundary) / s.cycleNs * s.cycleNs

/-! ### Mode in force (R96) -/

/-- The frames' modes with the boundary b reached: the newest with k ≤ m − 1 and APPLY_TIME ≤ b, where b = b_m. -/
def effective (b : Nat) (fs : List ModeFrame) : Option ModeFrame :=
  fs.find? fun f => decide (f.bound < b) && decide (f.apply ≤ b)

/-- The mode in force in the cycle that begins at boundary b (R96). -/
def State.modeAt (s : State) (b : Nat) : ArmMode :=
  match effective b s.arm.modes with
  | some f => f.mode
  | none => s.arm.mode

/-- The first boundary at or after Spline time t (R96). -/
def State.boundFrom (s : State) (t : Nat) : Nat :=
  s.arm.boundary + (t - s.arm.boundary + s.cycleNs - 1) / s.cycleNs * s.cycleNs

/-- The newest pending mode with its boundary (ARM_STATUS.PENDING, ARM_PEND_TIME). -/
def State.pendMode (s : State) : Option (ArmMode × Nat) :=
  (s.arm.modes.find? fun f => decide (s.arm.boundary < f.apply)).map fun f => (f.mode, s.boundFrom f.apply)

/-- The frames that still matter once f is in force: the newer ones, and f itself. -/
def dropOld (f : ModeFrame) : List ModeFrame → List ModeFrame
  | [] => []
  | g :: gs => if g = f then [g] else g :: dropOld f gs

/-- The mode of the cycle at b comes into force (events 0xA120, 0xA127). -/
def takeMode (s : State) (b : Nat) : State :=
  match effective b s.arm.modes with
  | none => s
  | some f =>
    let s1 := s.onArm fun a => { a with mode := f.mode, modes := dropOld f a.modes }
    if f.mode == s.arm.mode then s1
    else
      let s2 := logEvent s1 0xA120 s.arm.mode.code f.mode.code
      if f.apply < b then logEvent s2 0xA127 ((b - f.apply) / s.cycleNs) else s2

/-! ### Insertion (R100 to R103) -/

/-- One bit of the integer square root. -/
def isqrtStep (x r k : Nat) : Nat := if (r + 2 ^ k) * (r + 2 ^ k) ≤ x then r + 2 ^ k else r

/-- Integer square root of a number below 2^80, bit by bit. -/
def isqrt (x : Nat) : Nat := (List.range 40).foldl (fun r k => isqrtStep x r (39 - k)) 0

/-- v_avg, mV (R101). -/
def State.vAvg (s : State) (r : RefFrame) : Nat := isqrt (2 * r.eAvg * 1000000000000 / s.im.cCell)

/-- The arm reference at Spline time t, mV (R100). -/
def vRefAt (r : RefFrame) (t : Nat) : Int := r.vRef + tdiv (r.vSlope * ((t : Int) - r.origin)) 1000

/-- d0 (R101). -/
def State.duty0 (s : State) (r : RefFrame) (t : Nat) : Int :=
  tdiv (vRefAt r t * 65536) ((r.nActive : Int) * s.vAvg r)

/-- Energy of the own capacitor for a voltage code, J (R101). -/
def State.eOwn (s : State) (v : Nat) : Nat := s.im.cCell * v * v / 800000000

/-- db (R101): 0 without a value of I_ARM or V_CAP, or within the deadband. -/
def State.dutyBal (s : State) (r : RefFrame) : Int :=
  match r.iArm, s.meas.vCap with
  | some i, some v =>
    if i.natAbs < s.im.iDeadband then 0
    else
      let x := tdiv (s.im.kBal * ((r.eAvg : Int) - s.eOwn v) * 65536) (1000 * r.eAvg)
      let y := clampI x (-(s.im.dBalMax : Int)) s.im.dBalMax
      if i < 0 then -y else y
  | _, _ => 0

/-- A leg of the cell is parked, or is to be parked again when the cell inserts (R109, R140). -/
def State.halfBridge (s : State) : Bool :=
  s.glk.legA.st == .parked || s.glk.legB.st == .parked || s.glk.legA.parkMark || s.glk.legB.parkMark

/-- d_low (R101, R117). -/
def State.dutyLow (s : State) (mode : ArmMode) : Int :=
  if mode == .dcFaultRide && !s.halfBridge then -(s.im.dMax : Int) else 0

/-- What the arithmetic of R101 gives for a period that starts at t: d0, db, d and whether the clamp acts. -/
def State.insertion (s : State) (r : RefFrame) (mode : ArmMode) (t : Nat) : Int × Int × Int × Bool :=
  let d0 := s.duty0 r t
  let db := s.dutyBal r
  let d := clampI (d0 + db) (s.dutyLow mode) s.im.dMax
  (d0, db, d, d != d0 + db)

/-- Level of a leg for insertion d (R103), or for the running leg of a half-bridge (R140), Q16. -/
def State.legLevel (s : State) (l : Leg) (d : Int) : Int :=
  let running := (s.leg l).st != .parked && !(s.leg l).parkMark
  if s.halfBridge && running then clampI d 0 s.im.dMax
  else match l with
    | .a => (65536 + d) / 2
    | .b => (65536 - d) / 2

/-- T_C, ns (R110). -/
def State.tC (s : State) : Nat := roundDiv 1000000000 s.im.fCarrier

/-- Spline time of the next reload of a leg's unit, none at rest without START (R104, R125). -/
def State.nextReload (s : State) (l : Leg) : Option Nat :=
  let u := s.unit l
  if u.running then u.cur.map fun c => u.t0 + c.period
  else if u.startArmed then some (startTime u) else none

/-- Δ wrapped into −T_C/2 ≤ Δ < T_C/2 (R111). -/
def wrapDelta (tC : Nat) (d : Int) : Int := (d + tC / 2) % tC - tC / 2

/-- The length of a new period under phase offset o: the length, the transition periods that remain and the offset
then followed (R111). -/
def State.newLen (s : State) (o : Nat) : Nat × List Nat × Nat :=
  let g := s.arm.grid.getD o
  match s.arm.trans with
  | l :: ls => (l, ls, g)
  | [] =>
    let len := (s.tC + wrapDelta s.tC ((o : Int) - g)).toNat
    if 20000000 < len then (len / 2, [len - len / 2], o) else (len, [], o)

/-- The length of the period that starts at t (R103, R111); a second computation for the same start keeps the
first one's. -/
def State.periodLen (s : State) (o : Nat) (t : Nat) : Nat × List Nat × Nat :=
  match s.arm.planned with
  | some (t1, l1) => if t1 = t then (l1, s.arm.trans, s.arm.grid.getD o) else s.newLen o
  | none => s.newLen o

/-- ME writes and commits the set of one leg for the reload at t (R103). -/
def commitLevel (s : State) (l : Leg) (len t : Nat) (d : Int) : State :=
  let e := edges len (s.legLevel l d)
  commitSet (writeShadow s l len e.1 e.2 t) l

/-- ME's computation for the cycle that begins at b, from reference frame r (R104): the sets for the reloads that
fall in it. `o` is the phase offset of that cycle. -/
def computeSets (s : State) (r : RefFrame) (o b : Nat) : State :=
  let inCycle (l : Leg) : Bool := match s.nextReload l with
    | none => false
    | some t => decide (b ≤ t) && decide (t < b + s.cycleNs)
  let legs := [Leg.a, Leg.b].filter inCycle
  match legs with
  | [] => s
  | l0 :: _ =>
    let t := (s.nextReload l0).getD b
    let p := s.periodLen o t
    let i := s.insertion r (s.modeAt b) t
    let s1 := s.onArm fun a =>
      { a with
        duty0 := some i.1
        balance := i.2.1
        duty := some i.2.2.1
        sat := i.2.2.2
        trans := p.2.1
        grid := some p.2.2
        planned := some (t, p.1) }
    legs.foldl (fun u l => commitLevel u l p.1 t i.2.2.1) s1

/-! ### Publications and membership (R106 to R112) -/

/-- The publication of position p for the cycle that begins at c. -/
def State.pubOf (s : State) (p c : Nat) : Option CellStatus :=
  (s.spl.pubs.find? fun x => x.position = p && x.cycle = c).bind (·.body)

/-- The newest cycle in which position p published. -/
def State.newestPub (s : State) (p : Nat) : Option Nat :=
  ((s.spl.pubs.filter fun x => x.position = p).map (·.cycle)).foldl
    (fun a c => match a with
      | none => some c
      | some d => some (max c d)) none

/-- The publication that counts for position p and source cycle c: that of c, or the newest one not older than
MEMBER_STALE cycles more (R108). -/
def State.counting (s : State) (p c : Nat) : Option CellStatus :=
  match s.pubOf p c with
  | some x => some x
  | none =>
    match s.newestPub p with
    | none => none
    | some n => if c ≤ n + s.im.memberStale * s.cycleNs then s.pubOf p n else none

/-- A publication makes its position count in a cycle with or without a modulating mode (R107). -/
def countsActive (x : CellStatus) (run : Bool) : Bool :=
  x.board != 3#2 &&
    (x.state == .running || x.state == .degradedHb || (x.state == .ready && run)
      || (x.state == .blocked && run && (x.urgent || x.mode == .block || x.mode == .bypassAll)))

/-- The own key (R106): the position less the MEMBER bit. -/
def State.ownKey (s : State) : Nat := s.spl.position - (if s.dev.member then 1 else 0)

/-- The positions of the ring. -/
def State.positions (s : State) : List Nat := List.range (min s.spl.size 32)

/-- Position p is counted in the cycle whose source cycle is c (R107, R108). -/
def State.counted (s : State) (c : Nat) (run : Bool) (p : Nat) : Bool :=
  match s.counting p c with
  | none => false
  | some x => countsActive x run

/-- The key of a counted position. -/
def State.keyAt (s : State) (c p : Nat) : Nat :=
  match s.counting p c with
  | none => p
  | some x => p - (if x.member then 1 else 0)

/-- Membership of the cycle that begins at b, computed one cycle earlier (R107): the counted positions. A device
with a pairing error never counts its own key (R106). -/
def State.members (s : State) (b : Nat) : List Nat :=
  let c := b - 3 * s.cycleNs
  let run := (s.modeAt b).inserts
  s.positions.filter fun p => s.counted c run p && !(s.arm.pairErr && s.keyAt c p == s.ownKey)

/-- The active keys of a membership, each once, ascending. -/
def State.activeKeys (s : State) (b : Nat) : List Nat :=
  let ks := (s.members b).map (s.keyAt (b - 3 * s.cycleNs))
  (List.range 32).filter ks.contains

/-- A bit mask of positions. -/
def maskOf (ps : List Nat) : BitVec 32 := ps.foldl (fun a p => a ||| BitVec.ofNat 32 (2 ^ p)) 0

/-- j (R110). -/
def State.ringJ (s : State) : Nat := if s.im.ringInterleave = 0 then 0 else s.spl.ring % s.im.armRings

/-- The phase offset o of rank k among n keys (R110), ns. -/
def State.phaseOf (s : State) (k n : Nat) : Nat :=
  (k * s.im.armRings + s.ringJ) * s.tC / (2 * n * s.im.armRings)

/-- Substitutions of R108 for source cycle c: each counts and logs event 0xA122; so does a publication too old to
stand in. -/
def noteSubst (c : Nat) (s : State) (p : Nat) : State :=
  match s.pubOf p c, s.newestPub p with
  | none, some n =>
    let age := (c + s.cycleNs - 1 - n) / s.cycleNs
    let s1 := if c ≤ n + s.im.memberStale * s.cycleNs then s.onArm fun a => { a with cntSubst := bump 8 a.cntSubst } else s
    logEvent s1 0xA122 p age
  | _, _ => s

/-- A carrier instant of offset o at or after t (R110, R125). -/
def carrierAt (tC o t : Nat) : Nat := t + ((o + tC - t % tC) % tC)

/-- ME writes START for a unit at rest: the first carrier instant at or after b (R125). -/
def armStart (s : State) (l : Leg) (o b : Nat) : State :=
  let u := s.unit l
  if u.running || u.startArmed then s
  else
    let t := carrierAt s.tC o b
    (s.onUnit l fun u =>
      { u with startLo := BitVec.ofNat 32 t, startHi := BitVec.ofNat 32 (t / 2 ^ 32), startArmed := true }).onArm
      fun a => { a with grid := some o, trans := [] }

/-- Membership, rank and phase of the cycle that begins at b, computed at the boundary before it (R107 to R110).
Without the own key the phase stays as it was. A unit at rest of a cell that is to insert is started (R125). -/
def computeMembership (s : State) (b : Nat) : State :=
  let c := b - 3 * s.cycleNs
  let s1 := if s.spl.posValid then s.positions.foldl (noteSubst c) s else s
  let keys := s.activeKeys b
  let own := s.ownKey
  let isIn := s.spl.posValid && keys.contains own && !s.chainPair
  let k := (keys.filter (· < own)).length
  let n := keys.length
  let mask := maskOf (s.members b)
  let o := if isIn then s.phaseOf k n else s.arm.phase
  let s2 := s1.onArm fun a =>
    { a with
      maskNext := mask
      maskLog := ((b, mask) :: a.maskLog).take 4
      inNext := isIn
      nNext := n
      rankNext := if isIn then k else 0
      phaseNext := o
      key := own
      ringIdx := s.ringJ }
  if isIn && s.eng.state[EngineId.me.idx] == .running && !s.arm.bypassed then
    armStart (armStart s2 .a o b) .b o b
  else s2

/-- The membership computed at the last boundary takes effect. -/
def takeMembership (s : State) : State :=
  s.onArm fun a =>
    { a with
      mask := a.maskNext
      inNow := a.inNext
      nRing := a.nNext
      rank := a.rankNext
      phase := a.phaseNext }

/-- A pairing error (R106): the own position and the MEMBER bit of position p − 1. -/
def pairingError (s : State) (member : Nat) : State :=
  if s.arm.pairErr then s
  else logEvent (s.onArm fun a => { a with pairErr := true }) 0xA126 s.spl.position member

/-! ### Battery power share (R113 to R115) -/

/-- SOC of a pair of positions q (member A) and q + 1 in source cycle c (R114): of the one owner, else member
A's; the other's when the chosen publication is missing. -/
def State.pairSoc (s : State) (q c : Nat) : Option Nat :=
  let a := s.pubOf q c
  let b := (s.pubOf (q + 1) c).filter (·.member)
  let ownA := (a.map (·.owner)).getD false
  let ownB := (b.map (·.owner)).getD false
  match (if ownB && !ownA then b else a), (if ownB && !ownA then a else b) with
  | some x, _ => x.soc
  | none, some y => y.soc
  | none, none => none

/-- The publication whose limits count for a pair: chosen as for R114. A limit that holds no value counts 0, as do the
limits of a pair without a publication: DESIGN CHOICE, log entry 46. -/
def State.pairLimits (s : State) (q c : Nat) : Int × Int :=
  let a := s.pubOf q c
  let b := (s.pubOf (q + 1) c).filter (·.member)
  let ownA := (a.map (·.owner)).getD false
  let ownB := (b.map (·.owner)).getD false
  match (if ownB && !ownA then b else a), (if ownB && !ownA then a else b) with
  | some x, _ => (x.pLimDis.getD 0, x.pLimChg.getD 0)
  | none, some y => (y.pLimDis.getD 0, y.pLimChg.getD 0)
  | none, none => (0, 0)

/-- The mean of two SoC values, excluding an invalid one (R115). -/
def meanSoc : Option Nat → Option Nat → Option Nat
  | some x, some y => some ((x + y) / 2)
  | some x, none => some x
  | none, y => y

/-- The weight w, 1/10,000 (R113). -/
def State.shareWeight (s : State) (p : Int) (soc avg : Option Nat) : Int :=
  match soc, avg with
  | some x, some y =>
    let k : Int := if 0 ≤ p then s.im.kSocDis else s.im.kSocChg
    let d : Int := if 0 ≤ p then (x : Int) - y else (y : Int) - x
    clampI (10000 + tdiv (k * d) 100) 0 (s.im.wMax * 100)
  | _, _ => 10000

/-- Power limits of the own cell as EE last computed them, W (R113). -/
def State.ownLimits (s : State) : Int × Int :=
  s.chains.foldl (fun a c => (a.1 + (s.es c).pDis, a.2 + (s.es c).pChg)) (0, 0)

/-- P_cell from reference frame r for the cycle that begins at b (R113), with R115 on a four-device board. -/
def State.shareOf (s : State) (r : RefFrame) (b : Nat) : Int :=
  let c := b - 3 * s.cycleNs
  let own := s.ownLimits
  match r.pReq with
  | none => 0
  | some p =>
    if s.im.str.board = 2 || s.im.str.board = 3 then
      let qm := if s.chainPair then s.ownKey - 2 else s.ownKey
      let soc := meanSoc (s.pairSoc qm c) (s.pairSoc (qm + 2) c)
      let lm := s.pairLimits qm c
      let lc := s.pairLimits (qm + 2) c
      let w := s.shareWeight p soc r.socAvg
      let cell := clampI (tdiv (p * w) (10000 * r.nActive)) (lm.2 + lc.2) (lm.1 + lc.1)
      let wm := if 0 ≤ cell then lm.1 else -lm.2
      let wc := if 0 ≤ cell then lc.1 else -lc.2
      let main := if wm + wc = 0 then 0 else tdiv (cell * wm) (wm + wc)
      let mine := if wm + wc = 0 then 0 else if s.chainPair then cell - main else main
      clampI mine own.2 own.1
    else
      let w := s.shareWeight p (s.pairSoc s.ownKey c) r.socAvg
      clampI (tdiv (p * w) (10000 * r.nActive)) own.2 own.1

/-! ### Reference frames (R93, R95, R100, R105) -/

/-- The frame is a reference frame (R95). -/
def isReference (f : ArmCycle) : Bool :=
  f.vRef != -(2 ^ 31) && f.vSlope != -(2 ^ 31) && f.nActive != 0 && f.nActive != 0xFFFF
    && f.eAvg != 0 && f.eAvg != 0xFFFFFFFF

/-- The reference that a frame defines, with its origin b(k+1). -/
def State.refOf (s : State) (f : ArmCycle) : RefFrame :=
  { origin := s.boundOf f.cycle + s.cycleNs
    vRef := f.vRef
    vSlope := f.vSlope
    iArm := f.iArm
    nActive := f.nActive
    eAvg := f.eAvg
    socAvg := f.socAvg
    pReq := f.pReq }

/-- Event 0xA125 of a commit that completes after b(k+1) (R93). -/
def noteLate (s : State) (origin : Nat) : State :=
  if origin < s.tim.time then
    logWide (s.onArm fun a => { a with cntLate := bump 8 a.cntLate }) 0xA125 (s.tim.time - origin)
  else s

/-- The engine that computes for reference frames runs: ME, or chain engine A on a chain pair (R115). -/
def State.refRuns (s : State) : Bool :=
  s.eng.state[(if s.chainPair then EngineId.cea else EngineId.me).idx] == .running

/-- REF_FRAME_COMMIT (R25, R93, R101 to R104, R113): ME computes with the last frame received and commits. A late
frame serves the first cycle that begins after its commit. -/
def execRefFrameCommit (s : State) : Res :=
  match s.spl.lastArm with
  | none => .next s
  | some f =>
    if !isReference f || !s.refRuns then .next s
    else
      let r0 := s.refOf f
      if s.arm.refQ.any (fun x => x.origin = r0.origin) || (s.arm.ref.map (·.origin)) == some r0.origin then .next s
      else
        let s1 := noteLate s r0.origin
        let b := max r0.origin s.nextBound
        let r := { r0 with share := s.shareOf r0 b }
        let s2 := s1.onArm fun a => { a with refQ := (r :: a.refQ).take 3 }
        if b = s.nextBound then .next (computeSets s2 r s.arm.phaseNext b) else .next s2

/-- The reference of the cycle that begins at b: the newest committed frame whose origin has come. -/
def State.refAt (s : State) (b : Nat) : Option RefFrame := s.arm.refQ.find? fun r => decide (r.origin ≤ b)

/-- Loss of reference (R105, R276): cause 0 frames, 1 VALID_MOD. A tracking member whose partner has the reference
only logs the fault; otherwise the cell blocks, and PE decides. -/
def loseRef (s : State) (cause : Nat) : State :=
  if s.arm.lostRef then s
  else
    let s1 := logEvent (s.onArm fun a => { a with lostRef := true }) 0xA124 cause
    if s.partnerHasRef && !s.arm.owner then
      logEvent (s1.onPrt fun p => { p with active := 0x18 :: p.active.filter (· != 0x18), refLoss := some false }) 0x1012 0x18
    else
      raiseHeld ((blockCell s1 0).onPrt fun p => { p with refLoss := some s.arm.cell.inserting }) 0x18

/-- The reference of the new cycle at boundary b, or the hold of the last one (R93, R100, R104, R105). -/
def takeReference (s : State) (b : Nat) : State :=
  match s.refAt b with
  | some r =>
    s.onArm fun a =>
      { a with
        ref := some r
        hold := false
        missed := 0
        refQ := a.refQ.filter fun x => decide (b < x.origin) }
  | none =>
    match s.arm.ref with
    | none => s
    | some r =>
      let n := s.arm.missed + 1
      let s1 := s.onArm fun a => { a with hold := true, missed := n, cntMissed := bump 8 a.cntMissed }
      let s2 := logEvent s1 0xA123 n
      let s3 := computeSets s2 r s.arm.phaseNext b
      if s.im.holdCycles < n then loseRef s3 0 else s3

/-- VALID_MOD has fallen since the last boundary (R105). -/
def watchValidMod (s : State) : State :=
  let s1 := s.onArm fun a => { a with modFell := false }
  if s.arm.modFell then loseRef s1 1 else s1

/-! ### The published cell state (R17 to R22, R394, R109, R116) -/

/-- The state of a cell that inserts, by its legs. -/
def State.insertState (s : State) : CellSt := if s.halfBridge then .degradedHb else .running

/-- The cell can begin to insert at this boundary (R109): READY, or BLOCKED by mode or latch alone, in the
membership, with the conditions of R394 and passed diagnostics. -/
def State.mayStart (s : State) : Bool :=
  s.modeRuns && s.arm.inNow && s.capOk && s.chainOk && s.arm.diag == .passed && !s.testBusy && !s.chainPair
    && (s.arm.cell == .ready || (s.arm.cell == .blocked && s.arm.heldOff))

/-- R22, R118: a cell whose diagnostics have not passed by the RUN apply time, or by RESUME, publishes BLOCKED, until
they pass. -/
def State.notReady (s : State) : Bool :=
  s.modeRuns && s.capOk && s.chainOk && !s.chainPair && (s.arm.diag != .passed || s.testBusy)
    && (!s.arm.ranLast || s.arm.cell == .ready || s.arm.cell == .blocked)

/-- The state published from this boundary (R18). -/
def State.boundaryState (s : State) : CellSt :=
  if s.arm.bypassed then .bypassed
  else if s.rule1 then .blocked
  else if s.arm.cell.inserting then
    (if s.modeRuns && s.arm.inNow then s.insertState else s.r394)
  else if s.mayStart then s.insertState
  else if s.notReady then .blocked
  else s.r394

/-- A leg of a cell that begins to insert (R109, R138): parked again on its park mark, else RUNNING at once, or
waiting for its unit's first reload. -/
def startLeg (s : State) (l : Leg) : State :=
  if (s.leg l).parkMark then
    (s.onLeg l fun r => { r with st := .parked, parkUpper := linkUpper l.parkLink, wait := false }).onGlk fun g =>
      { g with bInvert := l.other == .b }
  else if (s.unit l).running then
    (s.onLeg l fun r => { r with st := .running, cause := 0, wait := false }).onUnit l fun u => { u with kerfUntil := none }
  else s.onLeg l fun r => { r with wait := true }

/-- Leaving the insertion: both legs HIGH_Z, park marks kept (R109, R116, R19). A leg already in HIGH_Z keeps its
cause. -/
def stopLegs (s : State) : State :=
  let f (r : LegRec) : LegRec :=
    if r.st == .hiZ then { r with wait := false }
    else { r with st := .hiZ, cause := 0, parkMark := r.parkMark || r.st == .parked, wait := false }
  s.onGlk fun g => { g with legA := f g.legA, legB := f g.legB, holdA := false, holdB := false, bInvert := false }

/-- The published state moves to n: legs follow; a block that begins calls for diagnostics, and a test that began before
it counts for nothing (R118, R394). -/
def publishState (s : State) (n : CellSt) : State :=
  let old := s.arm.cell
  let s1 :=
    if old.inserting && !n.inserting then stopLegs s
    else if !old.inserting && n.inserting then startLeg (startLeg s .a) .b
    else s
  let begins := old.blockBegins && n == .blocked && !s.arm.blk
  (if begins then cancelTest s1 else s1).onArm fun a =>
    { a with
      cell := n
      ranLast := s.modeRuns
      changes := if n == old then a.changes else (a.changes + 1) % 65536
      heldOff := s.heldByMode
      diag := if begins then .pending else a.diag
      blk := a.blk || begins }

/-- BYPASS_ALL in force drives each chain to zero current and blocks it; the chain returns to RUN without a command
at the first boundary with a modulating mode and no latch (R174, R20). -/
def chainAtBoundary (s : State) (c : ChainId) : State :=
  if s.bypassAll then bypassAllZero s c
  else if (s.chain c).byAllHeld && s.modeRuns && (s.chain c).st == .block && (s.chain c).closed && !s.ranked c then
    enterRun s c
  else s

/-- ENERGISE starts the connection of a chain in BLOCK with open contactors while the cell publishes OFF (R116,
R167). Only the token holder drives contactors (R175). -/
def energiseChain (s : State) (c : ChainId) : State :=
  if s.arm.mode == .energise && s.arm.cell == .off && s.arm.owner && s.canConnect c then startConnect s c false else s

/-- Publications older than 8 cycles no longer matter. -/
def prunePubs (s : State) (b : Nat) : State :=
  s.onSpl fun x => { x with pubs := x.pubs.filter fun p => decide (b ≤ p.cycle + 8 * s.cycleNs) }

/-- The 8 arm cycles of the ring-agreement window of dry-fit run (R51). -/
def State.inAgreement (s : State) : Bool :=
  s.img.staging == .dryfit && decide (1 ≤ s.img.winCycles ∧ s.img.winCycles ≤ 8)

/-- Watching of the ring-agreement window of dry-fit (R51): one more arm cycle has begun. -/
def countWindow (s : State) : State :=
  if s.img.staging == .dryfit then s.onImg fun i => { i with winCycles := i.winCycles + 1 } else s

/-- What takes effect at boundary b while ME and FE run. -/
def boundaryWork (s : State) (b : Nat) : State :=
  let s0 := (countWindow (prunePubs s b)).onTim fun t => { t with missed := bump 8 t.missed }
  let s1 := s0.onArm fun a => { a with boundary := b }
  let s2 := takeMode s1 b
  let s2 := if s.arm.heldOff && s2.modeRuns then releaseAtRun s2 else s2
  let s3 := watchValidMod (takeReference s2 b)
  let s4 := takeMembership s3
  let p := if s4.arm.mode.inserts then (s4.arm.ref.map (·.share)).getD 0 else 0
  let s5 := s4.onArm fun a => { a with pShare := p }
  let s5 := if s5.dev.member && s5.spl.posValid && s5.spl.position = 0 then pairingError s5 0 else s5
  let s6 := publishState s5 s5.boundaryState
  let s7 := s6.onGlk fun g => { g with fireAll := s6.bypassAll }
  let s8 := (s7.forChains chainAtBoundary).forChains energiseChain
  let s9 := computeMembership s8 (b + s8.cycleNs)
  let s10 := match s9.arm.refQ.find? fun r => decide (r.origin = b + s9.cycleNs) with
    | none => s9
    | some r => computeSets s9 r s9.arm.phaseNext (b + s9.cycleNs)
  watchActs (refreshBridge (watchReady s10))

/-- CYCLE_BOUNDARY (R17, R96, R100, R105, R107, R109, R113): the newest boundary that has come. An image that is to
be adopted is adopted at it (R57): before its work, which then follows the new parameters, or after it, where a restart
follows. -/
def execCycleBoundary (s : State) : Res :=
  if !s.boundDue || !s.outOfReset then .next s
  else
    let b := s.newestBound
    match s.dev.phase with
    | .ready | .starting =>
      if !s.img.adoptDue then .next (boundaryWork s b)
      else if s.img.structural then .next (switchImage (boundaryWork s b) b true)
      else .next (boundaryWork (switchImage (s.onArm fun a => { a with boundary := b }) b true) b)
    | .held | .booting | .noImage | .warm | .glueRestart | .hibernating =>
      .next (s.onArm fun a => { a with boundary := b })

end Sys2Proof.Machine
end

