-- ==== Sys2Proof/Machine/Carcass.lean ====
section
/-! DEFINITION. The carcass image byte by byte (spec/03 R41 to R44, Tables 03.1 to 03.5): header, section
directory, signature block, and the sections whose bytes the manual lays out. A slot is read through a function
from offsets to bytes. -/

set_option Elab.async false

namespace Sys2Proof.Machine

/-- A slot as the parser reads it. -/
abbrev Bytes := Nat → Byte

/-- n bytes from an offset on. -/
def bytesAt (f : Bytes) (o n : Nat) : List Byte := (List.range n).map fun i => f (o + i)

/-- A little-endian number of n bytes. -/
def leAt (f : Bytes) (o n : Nat) : Nat := (List.range n).foldr (fun i a => (f (o + i)).toNat + 256 * a) 0

/-- n bytes from an offset on are 0. -/
def zeroAt (f : Bytes) (o n : Nat) : Bool := (List.range n).all fun i => f (o + i) == 0#8

/-- A digest, byte 0 in bits 7:0. -/
def digestAt (f : Bytes) (o : Nat) : BitVec 256 := BitVec.ofNat 256 (leAt f o 32)

/-! ### Header and directory -/

/-- IMAGE_LEN. -/
def imageLen (f : Bytes) : Nat := leAt f 0x008 4

/-- SIGBLOCK_OFFSET. -/
def sigOffset (f : Bytes) : Nat := leAt f 0x068 4

/-- SECTION_COUNT. -/
def sectionCount (f : Bytes) : Nat := leAt f 0x060 2

/-- IMAGE_NAME is ASCII, padded with 0x00. -/
def nameOk (xs : List Byte) : Bool := (xs.all fun b => b &&& 0x80#8 == 0#8) && (xs.dropWhile (· != 0#8)).all (· == 0#8)

/-- The header matches Table 03.1 (R41). -/
def headerOk (f : Bytes) : Bool :=
  leAt f 0 4 == 0x49435A51 && leAt f 4 2 == 1 && leAt f 6 2 == 256 && decide (imageLen f ≤ 6291456)
    && (leAt f 0x00C 2 == 0x9640 || leAt f 0x00C 2 == 0x9641) && zeroAt f 0x00E 2
    && decide (7 ≤ sectionCount f) && decide (sectionCount f ≤ 24) && zeroAt f 0x062 2
    && leAt f 0x064 4 == 0x100 && sigOffset f % 64 == 0 && zeroAt f 0x071 15 && nameOk (bytesAt f 0x080 64)
    && zeroAt f 0x0C0 64

/-- A directory entry (Table 03.2). -/
structure Section where
  /-- section type (Table 03.3) -/
  type : Nat
  /-- FLAGS and the reserved word are 0 -/
  clean : Bool
  /-- start -/
  off : Nat
  /-- length in bytes -/
  len : Nat
  /-- SM3 of its bytes -/
  digest : BitVec 256
deriving DecidableEq, Repr

/-- The entry at an offset. -/
def sectionAt (f : Bytes) (o : Nat) : Section :=
  { type := leAt f o 2
    clean := zeroAt f (o + 2) 2 && zeroAt f (o + 12) 4
    off := leAt f (o + 4) 4
    len := leAt f (o + 8) 4
    digest := digestAt f (o + 16) }

/-- The directory. -/
def sectionsOf (f : Bytes) : List Section := (List.range (sectionCount f)).map fun i => sectionAt f (0x100 + 48 * i)

/-- Length limit of a section type; none for a type outside Table 03.3. -/
def sectionLimit (type : Nat) : Option Nat :=
  match type with
  | 1 => some 4096
  | 2 => some 1024
  | 3 => some 4112
  | 4 => some 64
  | 5 => some 8192
  | 6 => some 32768
  | 7 => some 1024
  | _ => if 0x10 ≤ type ∧ type ≤ 0x17 then some 131072 else none

/-- One entry is within its bounds (R42): lo is the first offset that the sections before it leave free. -/
def sectionOk (sig lo : Nat) (x : Section) : Bool :=
  x.clean && x.off % 64 == 0 && decide (lo ≤ x.off) && decide (x.off + x.len ≤ sig) && (match sectionLimit x.type with
    | none => false
    | some n => decide (x.len ≤ n))

/-- Index of the first entry out of bounds, with its type. -/
def badSection (sig : Nat) : Nat → Nat → List Section → Option (Nat × Nat)
  | _, _, [] => none
  | i, lo, x :: xs => if sectionOk sig lo x then badSection sig (i + 1) (x.off + x.len) xs else some (x.type, i)

/-- The section of a type. -/
def findSection (xs : List Section) (type : Nat) : Option Section := xs.find? fun x => x.type == type

/-- The bytes of a section of a type, none listed when it is absent. -/
def sectionBytes (f : Bytes) (xs : List Section) (type : Nat) : List Byte :=
  match findSection xs type with
  | none => []
  | some x => bytesAt f x.off x.len

/-! ### Section content -/

/-- A reaction entry (Table 11.4). -/
def reactionAt (f : Bytes) (o : Nat) : Reaction :=
  { source := leAt f o 1
    states := f (o + 1)
    immediate := f (o + 2)
    escalate := leAt f (o + 3) 1
    count := leAt f (o + 4) 1
    recover := leAt f (o + 5) 1
    window := leAt f (o + 6) 2
    release := leAt f (o + 8) 2
    tag := leAt f (o + 10) 2 }

/-- An inlay entry (8 bytes). -/
def inlaySlotAt (f : Bytes) (o : Nat) : InlaySlot :=
  { start := leAt f o 4, owner := leAt f (o + 4) 1, cls := leAt f (o + 5) 1, len := leAt f (o + 6) 2 }

/-- A parameter record (8 bytes). -/
def paramAt (f : Bytes) (o : Nat) : ParamRec :=
  { fn := leAt f o 1, level := leAt f (o + 1) 1, num := leAt f (o + 2) 2, value := leAt f (o + 4) 4 }

/-- Fixed-size records of a section. -/
def recordsOf {α : Type} (f : Bytes) (xs : List Section) (type size : Nat) (g : Bytes → Nat → α) : List α :=
  match findSection xs type with
  | none => []
  | some x => (List.range (x.len / size)).map fun i => g f (x.off + size * i)

/-- The inlay table: head and entries. -/
def inlayOf (f : Bytes) (xs : List Section) : Inlay :=
  match findSection xs 3 with
  | none => {}
  | some x =>
    { cycle := leAt f x.off 4, slots := (List.range (leAt f (x.off + 4) 2)).map fun i => inlaySlotAt f (x.off + 16 + 8 * i) }

/-- The image that the bytes of a slot spell. -/
def imageOf (f : Bytes) : Image :=
  let xs := sectionsOf f
  { version := BitVec.ofNat 32 (leAt f 0x010 4)
    secVersion := leAt f 0x014 4
    target := leAt f 0x00C 2
    targetRing := leAt f 0x070 1
    expert := BitVec.ofNat 32 (leAt f 0x06C 4)
    schedDigest := digestAt f 0x020
    structDigest := digestAt f 0x040
    str := Config.parseStructure (sectionBytes f xs 1)
    reactions := recordsOf f xs 2 16 reactionAt
    inlay := inlayOf f xs
    esc := sectionBytes f xs 4
    params := recordsOf f xs 5 8 paramAt ++ recordsOf f xs 6 8 paramAt
    boardCal := sectionBytes f xs 7 }

/-! ### Signature block (R44) -/

/-- CERT_LEN. -/
def certLen (f : Bytes) : Nat := leAt f (sigOffset f + 24) 4

/-- The signer certificate. -/
def certOf (f : Bytes) : List Byte := bytesAt f (sigOffset f + 96) (certLen f)

/-- The signature block matches Table 03.5. -/
def sigBlockOk (f : Bytes) : Bool :=
  let o := sigOffset f
  let n := leAt f (o + 6) 2
  leAt f o 4 == 0x47535A51 && leAt f (o + 4) 2 == 1 && decide (1 ≤ n) && decide (n ≤ 16) && zeroAt f (o + 8 + n) (16 - n)
    && decide (1 ≤ certLen f) && decide (certLen f ≤ 2048) && zeroAt f (o + 28) 4 && imageLen f == o + 96 + certLen f

/-- The image signature verifies under the signer certificate, which is X.509 v3 with an SM2 key. -/
def imageSigned (f : Bytes) : Bool :=
  let o := sigOffset f
  sigBlockOk f && Config.certForm (certOf f) && Config.sm2Verify (bytesAt f 0 o) (bytesAt f (o + 8) (leAt f (o + 6) 2)) (bytesAt f (o + 32) 64) (certOf f)

end Sys2Proof.Machine
end

