-- ==== Sys2Proof/Machine/Spline.lean ====
section
/-! DEFINITION. The Spline ring and its time (spec/04): ports, shims, urgent sets, forwarding and policing, the
reception of ARM_CYCLE, CELL_STATUS, ARM_SUMMARY and REG_REQ, own frames, time discipline and holdover. Rows 39 to
59, but for the execution of a register operation. -/

set_option Elab.async false

namespace Sys2Proof

/-- Code of a cause of R63 in event details, in the order of the rule. -/
def PortCause.num : PortCause → Nat
  | .lockLoss => 0
  | .syncErrors => 1
  | .queueBand => 2
  | .shimRange => 3

end Sys2Proof

namespace Sys2Proof.Machine

/-! ### Ports (R63, R66) -/

/-- The ring hardware runs: from the acceptance of an image on, and through warm resets and glue-up restarts
(Tables 04.2, 14.3, 03.9). -/
def State.ringRuns (s : State) : Bool :=
  match s.dev.phase with
  | .starting | .ready | .warm | .glueRestart => true
  | .held | .booting | .noImage | .hibernating => false

/-- FE runs and handles frames. -/
def State.feRuns (s : State) : Bool := s.dev.phase == .starting || s.dev.phase == .ready

/-- A port goes down (R63): event 0xA102. Its shims stay (R79). -/
def portDown (s : State) (p : RPort) (cause : PortCause) : State :=
  if (s.port p).isUp then
    let now := s.clock
    logEvent (s.onPort p fun r => { r with isUp := false, hello := false, lockAt := now, pingOpen := false })
      0xA102 p.num cause.num
  else s

/-- The device's HELLO (Table 04.3): its ring and position, 0xFF while it has none. -/
def State.hello (s : State) : OrdSet :=
  let known (n : Nat) : Nat := if s.spl.posValid then n % 256 else 0xFF
  orderedSet 0x20 0 (BitVec.ofNat 8 (known s.spl.position)) (BitVec.ofNat 24 (known s.spl.ring * 65536))

/-- SPL_BLOCK_LOCK (R63). The gain of lock sends a HELLO back, which the neighbour's port needs (DESIGN CHOICE, log entry
44). -/
def execSplBlockLock (port : RPort) (locked : Bool) (s : State) : Res :=
  if !s.ringRuns then .next s
  else if locked then
    let now := s.clock
    let s1 := s.onPort port fun r => { r with lock := true, lockAt := if r.lock then r.lockAt else now }
    .next (if (s.port port).lock then s1 else send s1 (.ordered port s.hello))
  else .next ((portDown s port .lockLoss).onPort port fun r => { r with lock := false, hello := false })

/-- SPL_PORT_UP (R63): lock, a HELLO, and 1 ms without an error since. -/
def execSplPortUp (port : RPort) (s : State) : Res :=
  let r := s.port port
  if s.ringRuns && r.lock && r.hello && !r.isUp && decide (r.lockAt + msNs ≤ s.clock) then
    .next (logEvent (s.onPort port fun r => { r with isUp := true }) 0xA103 port.num)
  else .next s

/-- SPL_PORT_DOWN (R63). A forward queue outside its band also sets its flag and logs event 0xA101 (R38). Errors on a
port that is not yet up begin its millisecond again. -/
def execSplPortDown (port : RPort) (cause : PortCause) (s : State) : Res :=
  if !s.ringRuns then .next s
  else if !(s.port port).isUp then
    let now := s.clock
    .next (if cause == .syncErrors then s.onPort port fun r => { r with lockAt := now } else s)
  else
    let s1 := if cause == .queueBand then logEvent (dcqFull s port.num) 0xA101 port.num else s
    let s2 := portDown s1 port cause
    .next (if cause == .lockLoss then s2.onPort port fun r => { r with lock := false } else s2)

/-- An ordered set whose check fails is discarded and counted (R66). -/
def badSet (s : State) : State := s.onSpl fun x => { x with cntLost := bump 8 x.cntLost }

/-- What a received ordered set does on a port that has lock: nothing but the count when its check fails. -/
def takeOrdered (s : State) (port : RPort) (x : OrdSet) (f : State → State) : State :=
  if !s.ringRuns || !(s.port port).lock then s else if setOk x then f s else badSet s

/-- HELLO_RX (R63, R66). -/
def execHelloRx (port : RPort) (x : OrdSet) (s : State) : Res :=
  .next (takeOrdered s port x fun s => s.onPort port fun r =>
    { r with hello := true, gw := x.d2 == 1, nbRing := x.ext.toNat / 65536, nbPos := x.d3.toNat })

/-! ### Shims (R79) -/

/-- The shim of a port's link, 1/16 ns: the median of 16 results, none before. -/
def State.shim (s : State) (p : RPort) : Option Int :=
  if (s.port p).shims.length = 16 then median (s.port p).shims else none

/-- The shim of a port as published. -/
def State.shimCode (s : State) (p : RPort) : Option Nat := (s.shim p).map Int.toNat

/-- Send one ping. -/
def sendPing (s : State) (p : RPort) : State :=
  let n := ((s.port p).pingSeq + 1) % 256
  send (s.onPort p fun r => { r with pingSeq := n, pingOpen := true }) (.ordered p (orderedSet 0x10 0 (BitVec.ofNat 8 n) 0))

/-- SHIM_PING_TIMER (R79). -/
def execShimPingTimer (s : State) : Res :=
  if s.ringRuns then .next (sendPing (sendPing s .e) .w) else .next s

/-- SHIM_PING_RX (R79): answered on the same port with the turnaround. A port that is down receives nothing. -/
def execShimPingRx (port : RPort) (x : OrdSet) (turnaround : Nat) (s : State) : Res :=
  .next (takeOrdered s port x fun s =>
    if (s.port port).isUp then send s (.ordered port (orderedSet 0x11 0 x.d3 (BitVec.ofNat 24 turnaround))) else s)

/-- One more result of a port's shim (R79, R62): a shim outside 0 to 1,500 ns takes the port down. -/
def takeEcho (s : State) (port : RPort) (x : OrdSet) (roundTrip : Nat) : State :=
  let r := s.port port
  if !r.isUp || !r.pingOpen || r.pingSeq ≠ x.d3.toNat then s
  else
    let y := tdiv ((roundTrip : Int) - x.ext.toNat) 2
    let s1 := s.onPort port fun r => { r with pingOpen := false, shims := (y :: r.shims).take 16 }
    match s1.shim port with
    | none => s1
    | some m =>
      if m < 0 ∨ 24000 < m then portDown (logEvent s1 0xA111 port.num (lo16 (tdiv m 16))) port .shimRange else s1

/-- SHIM_ECHO_RX (R79). -/
def execShimEchoRx (port : RPort) (x : OrdSet) (roundTrip : Nat) (s : State) : Res :=
  .next (takeOrdered s port x fun s => takeEcho s port x roundTrip)

/-! ### Urgent sets (R77, R78) -/

/-- A sequence is newer than the last one acted on (R78). -/
def State.urgNewer (s : State) (seq : Nat) : Bool :=
  s.spl.urgCode == 0 ||
    (let d := (seq + 2 ^ 24 - s.spl.urgSeq % 2 ^ 24) % 2 ^ 24
     decide (1 ≤ d ∧ d < 2 ^ 23))

/-- ARM_BLOCK: OFF words at once, and a block begins (Table 04.6, R118). -/
def urgBlock (s : State) : State := refreshBridge (blockCell s 0)

/-- BYPASS_ALL: OFF words, BYP_FIRE, and the chains to zero current (Table 04.6, R143, R174). -/
def urgBypass (s : State) : State :=
  refreshBridge (((blockCell s 0).onGlk fun g => { g with fireAll := true }).forChains bypassAllZero)

/-- RESUME: the latch is released; firing goes on only while the mode asks for it (Table 04.6). -/
def urgResume (s : State) : State :=
  refreshBridge (s.onGlk fun g => { g with fireAll := s.bypassAll })

/-- Act on a newer urgent set once ring-ready (R78): 1 ARM_BLOCK, 2 BYPASS_ALL, 3 RESUME. -/
def actUrgent (s : State) (code seq : Nat) : State :=
  if !s.spl.ringReady || !s.urgNewer seq then s
  else
    let take (l : UrgLatch) : State :=
      logEvent (s.onSpl fun x => { x with urgLatch := l, urgCode := code, urgSeq := seq % 2 ^ 24 }) 0xA10F code (seq % 256)
    match code with
    | 1 => watchActs (urgBlock (take .armBlock))
    | 2 => watchActs (urgBypass (take .bypassAll))
    | 3 => urgResume (take .none)
    | _ => s

/-- Forward an urgent set of the own ring out of the opposite port, unless it has sent it in the last 100 µs (R77). A
port that is down keeps sending (R63). -/
def forwardUrgent (s : State) (port : RPort) (x : OrdSet) : State :=
  let now := s.clock
  let west := port.other == .w
  let code := x.d1.toNat
  let seq := x.ext.toNat
  let recent := s.spl.urgFwd.filter fun u => decide (now < u.when + 100 * usNs)
  let done := recent.any fun u => u.toWest == west && u.code == code && u.seq == seq
  if done then s.onSpl fun x => { x with urgFwd := recent }
  else send (s.onSpl fun x => { x with urgFwd := { toWest := west, code := code, seq := seq, when := now } :: recent })
    (.ordered port.other x)

/-- An urgent set arrives (R77, R78). -/
def urgentRx (s : State) (port : RPort) (x : OrdSet) : State :=
  takeOrdered s port x fun s =>
    if !(s.port port).isUp || !s.spl.posValid || x.d2.toNat ≠ s.spl.ring then s
    else actUrgent (forwardUrgent s port x) x.d1.toNat x.ext.toNat

/-- URGENT_ARM_BLOCK (R77, R78). -/
def execUrgentArmBlock (port : RPort) (x : OrdSet) (s : State) : Res := .next (urgentRx s port x)

/-- URGENT_BYPASS_ALL (R77, R78). -/
def execUrgentBypassAll (port : RPort) (x : OrdSet) (s : State) : Res := .next (urgentRx s port x)

/-- URGENT_RESUME (R77, R78). -/
def execUrgentResume (port : RPort) (x : OrdSet) (s : State) : Res := .next (urgentRx s port x)

/-! ### Delays along the ring (R70) -/

/-- Shim of link i, 1/16 ns: the own one, else as the neighbours publish it (R70, R72). -/
def State.linkShim (s : State) (i : Nat) : Option Nat :=
  let p := s.spl.position
  let pub (q : Nat) : Option CellStatus := ((s.spl.pubs.find? fun x => x.position = q).map (·.body)).join
  let own := if p = i then s.shimCode .e else if p + 1 = i then s.shimCode .w else none
  match own, (pub i).bind (·.shimE) with
  | some v, _ => some v
  | none, some v => some v
  | none, none => if i = 0 then none else (pub (i - 1)).bind (·.shimW)

/-- Residence time of position q, 1/16 ns: the own mean where one has been measured. How a device learns another's is
not stated: a free value (log entry 44). -/
def State.residence (s : State) (q : Nat) (toWest : Bool) : Nat :=
  let own := if toWest then s.spl.resE2W else s.spl.resW2E
  if q = s.spl.position ∧ own.2 ≠ 0 then own.1 / own.2 else Config.residence q toWest

/-- D_E or D_W (R70), 1/16 ns: from the own transmitter of a port to the gateway's receiver beyond it. The shim of a link
that nobody has published is a free value (log entry 44). -/
def State.delay (s : State) (port : RPort) : Nat :=
  let p := s.spl.position
  let shims (is : List Nat) : Nat := (is.map fun i => (s.linkShim i).getD (Config.linkShim i)).foldl (· + ·) 0
  match port with
  | .e => shims (List.range (p + 1)) + ((List.range p).map fun q => s.residence q false).foldl (· + ·) 0
  | .w =>
    let n := s.spl.size - 1 - p
    shims ((List.range (n + 1)).map (· + (p + 1))) + (((List.range n).map (· + (p + 1))).map fun q => s.residence q true).foldl (· + ·) 0

/-- The schedule of the cycle that begins at b (R73): from T_G on the new one, before it the old one. -/
def State.inlayFor (s : State) (b : Nat) : Inlay :=
  match s.img.glue, s.img.staged, s.spl.oldInlay with
  | .confirmed, some im, _ => if s.img.glueTime ≤ b then im.inlay else s.im.inlay
  | _, _, some x => if b < x.1 then x.2 else s.im.inlay
  | _, _, none => s.im.inlay

/-- The instant at which the instance of a slot with start st in the cycle at b leaves a port (R70), 1/16 ns. -/
def State.launchAt (s : State) (port : RPort) (b st : Nat) : Int := 16 * ((b : Int) + st) - s.delay port

/-- The instant that R70 implies for a frame of that instance to arrive on a port, 1/16 ns; a relayed copy comes one cycle
later. -/
def State.dueAt (s : State) (port : RPort) (b st : Nat) (relayed : Bool) : Int :=
  s.launchAt port.other (b + (if relayed then (s.inlayFor b).cycle else 0)) st - s.residence s.spl.position (port == .e)

/-! ### Forwarding and policing (R68, R91) -/

/-- DEVICE_ID (R64). -/
def State.deviceId (s : State) : Nat := s.spl.ring % 256 * 32 + s.spl.position % 32

/-- Owner code of a frame's SRC on this ring (Table 04.4), as the inlay table writes owners; none for a foreign
ring. -/
def State.srcOwner (s : State) (src : BitVec 16) : Option Nat :=
  let ring := (src.toNat / 32) % 256
  if ring ≠ s.spl.ring then none
  else if src.getLsbD 15 then some (if src.getLsbD 0 then 0xE1 else 0xE0)
  else some (src.toNat % 32)

/-- The checks of R91 against the slot that a frame names, as its start block arrives now. -/
def State.policed (s : State) (port : RPort) (b : List Byte) : Bool :=
  let h := headOf b
  let c := s.boundOf h.cycle
  match (s.inlayFor c).slots[h.slot]? with
  | none => false
  | some sl =>
    let late := 16 * (s.tim.time : Int) - s.dueAt port c sl.start h.relayed
    decide (-256 ≤ late ∧ late ≤ 768) && s.srcOwner h.src == some sl.owner && h.len == sl.len && b.length == sl.len

/-- FE takes a frame from a port (R63, R91). -/
def State.delivers (s : State) (port : RPort) (b : List Byte) : Bool :=
  s.feRuns && (s.port port).isUp && (!s.tim.timeValid || s.policed port b)

/-- One violation on a port (R91): the third within 1 ms isolates it. -/
def violation (s : State) (p : RPort) (slot : Nat) : State :=
  let now := s.clock
  let vs := now :: (s.port p).viols.filter fun t => decide (now < t + msNs)
  let s1 := s.onPort p fun r =>
    { r with
      viols := vs.take 16
      violSeen := true
      violAt := some now
      violCount := bump 8 r.violCount
      isolatedAt := if r.isolated then now else r.isolatedAt }
  let s2 := logEvent s1 0xA10B p.num slot
  if 3 ≤ vs.length && !(s.port p).isolated then
    logEvent (s2.onPort p fun r => { r with isolated := true, isolatedAt := now }) 0xA10C p.num
  else s2

/-- The residence of a passing frame enters the mean of its direction. -/
def noteResidence (s : State) (p : RPort) (n : Nat) : State :=
  s.onSpl fun x => match p with
    | .e => { x with resE2W := (x.resE2W.1 + n, x.resE2W.2 + 1) }
    | .w => { x with resW2E := (x.resW2E.1 + n, x.resW2E.2 + 1) }

/-- What a forwarder adds to CORR (Table 04.8): the residence and the shim of the receiving link, which counts 0 before it
is valid: DESIGN CHOICE, log entry 44. -/
def State.corrGrowth (s : State) (p : RPort) (residence : Nat) : Nat := residence + (s.shimCode p).getD 0

/-- Frames of a port pass on: not from an isolated port, not into a port that is down, and not a relayed frame of the
device itself (R68, R91). -/
def State.passes (s : State) (port : RPort) (b : List Byte) : Bool :=
  let h := headOf b
  !(s.port port).isolated && (s.port port.other).isUp
    && !(h.relayed && s.spl.posValid && h.src == BitVec.ofNat 16 s.deviceId)

/-- Bytes leave the opposite port where frames pass. -/
def passOn (s : State) (port : RPort) (b out : List Byte) : State :=
  if s.passes port b then send s (.forwarded port.other out) else s

/-- FRAME_FORWARD (R68, R91, R38). `residence`: as measured, 1/16 ns; `cut`: the bytes that had passed when the forward
queue left its band. -/
def execFrameForward (port : RPort) (b : List Byte) (residence : Nat) (cut : Option Nat) (s : State) : Res :=
  if !s.ringRuns || !(s.port port).isUp then .next s
  else
    let out := forwardBytes (crcOk b) (s.corrGrowth port residence) b
    match cut with
    | some k => .next (portDown (logEvent (dcqFull (passOn s port b (out.take k)) port.num) 0xA101 port.num) port .queueBand)
    | none =>
      let s0 := if crcOk b then s else s.onSpl fun x => { x with cntLost := bump 8 x.cntLost }
      if s.tim.timeValid && !s.policed port b then
        .next (violation (passOn s0 port b (failedPart b)) port (headOf b).slot)
      else .next (passOn (if s.passes port b then noteResidence s0 port residence else s0) port b out)

/-- PORT_READMIT (R91): 100 ms without a violation. -/
def execPortReadmit (port : RPort) (s : State) : Res :=
  let r := s.port port
  if r.isolated && decide (r.isolatedAt + 100 * msNs ≤ s.clock) then
    .next (logEvent (s.onPort port fun r => { r with isolated := false, viols := [] }) 0xA10D port.num)
  else .next s

/-! ### Position (R64, R65) -/

/-- Ring, size and position that a copy implies; none for a copy that no position fits. -/
def implied (f : ArmCycle) : Option (Nat × Nat × Nat) :=
  if f.ringSize = 0 ∨ 32 < f.ringSize ∨ f.ringSize ≤ f.hops then none
  else some (f.ring, f.ringSize, if f.fromWest then f.ringSize - 1 - f.hops else f.hops)

/-- Position p owns a class 1 slot of an inlay table. -/
def ownsClass1 (inl : Inlay) (p : Nat) : Bool := inl.slots.any fun x => x.owner == p && x.cls == 1

/-- A conflict begins (event 0xA104 with the positions in force and implied). -/
def enterConflict (s : State) (p : Nat) : State :=
  if s.spl.posConflict then s
  else logEvent (s.onSpl fun x => { x with posConflict := true, conflictCand := none }) 0xA104 s.spl.position p

/-- What the copies imply while in conflict (R65): the run of agreeing copies begins again at one that implies anything
else, or after a cycle without a copy. -/
def countAgreement (s : State) (v : Option (Nat × Nat × Nat)) : State :=
  let now := s.clock
  let lapsed := decide (s.tim.lastCopy + s.cycleNs + 2000 < now)
  s.onSpl fun x =>
    { x with
      conflictAt := if x.conflictCand != v || lapsed then now else x.conflictAt
      conflictCand := v }

/-- A valid copy against the position in force (R64, R65). A conflict ends at a copy that agrees with all those of the 8
arm cycles before it. -/
def judgePosition (s : State) (f : ArmCycle) : State :=
  let v := implied f
  if s.spl.posConflict then
    let t := countAgreement s v
    match v with
    | none => t
    | some w =>
      if t.spl.conflictAt + 8 * s.cycleNs ≤ t.clock && ownsClass1 s.im.inlay w.2.2 then
        t.onSpl fun x => { x with ring := w.1, size := w.2.1, position := w.2.2, posConflict := false, conflictCand := none }
      else t
  else
    match v with
    | none => if s.spl.posValid then countAgreement (enterConflict s 0xFFFF) v else s
    | some w =>
      let s0 := if s.spl.posValid then s
        else s.onSpl fun x => { x with ring := w.1, size := w.2.1, position := w.2.2, posValid := true }
      if w ≠ (s0.spl.ring, s0.spl.size, s0.spl.position) || !ownsClass1 s.im.inlay s0.spl.position then
        countAgreement (enterConflict s0 w.2.2) v
      else s0

/-! ### Time discipline (R80, R82) -/

/-- The offset of a copy that starts to arrive on port p now, 1/16 ns (R80). -/
def State.offsetOf (s : State) (p : RPort) (f : ArmCycle) : Option Int :=
  (s.shim p).map fun sh => 16 * ((f.txTime : Int) - s.tim.time) + f.corr + sh

/-- TIME_VALID is set after 8 consecutive offsets within 10 ns (R80); VALID_MOD comes with it, HOLDOVER clears. -/
def countGood (s : State) (e : Int) : State :=
  let n := if e.natAbs ≤ 160 then s.tim.good + 1 else 0
  let s1 := s.onTim fun t => { t with good := n }
  if 8 ≤ n && !s.tim.timeValid then
    logEvent (s1.onTim fun t => { t with timeValid := true, validMod := true, holdover := false }) 0xA108 (lo16 e)
  else s1

/-- The boundaries follow the CYCLE of a frame after a step. -/
def anchorBoundary (s : State) (cycle : Nat) : State :=
  let b := unwrapUs s.tim.time cycle
  s.onArm fun a => { a with boundary := if b ≤ s.tim.time then b else b - s.cycleNs }

/-- Step TIME by e (R80): event 0xA105 with the step in ns. -/
def stepTime (s : State) (e : Int) (cycle : Nat) : State :=
  let ns := tdiv e 16
  let now := s.clock
  let s1 := s.onTim fun t =>
    { t with
      time := (((t.time : Int) + ns) % (2 ^ 64 - 1)).toNat
      acquired := true
      needStep := false
      good := 0
      bad := 0
      missed := 0
      lastApplied := now }
  anchorBoundary (logWideS s1 0xA105 ns) cycle

/-- Slew TIME by at most 2 ns (R80). An offset applied before VALID_MOD falls ends a holdover (R82). -/
def slewTime (s : State) (e : Int) : State :=
  let now := s.clock
  s.onTim fun t =>
    { t with
      time := (((t.time : Int) + clampI (tdiv e 16) (-2) 2) % (2 ^ 64 - 1)).toNat
      bad := 0
      missed := 0
      lastApplied := now
      holdover := t.holdover && !t.validMod }

/-- The offset of the followed copy (R80, R82): a step while TIME_VALID is 0, a slew within 100 ns, otherwise a count
towards the loss of the discipline. Before TIME_VALID an offset within 10 ns counts without another step. -/
def discipline (s : State) (west : Bool) (e : Int) (cycle : Nat) : State :=
  let s1 := s.onTim fun t => { t with offset := some e, sourceWest := west, copyUsed := true }
  if s.tim.timeValid then
    if e.natAbs ≤ 1600 then slewTime s1 e
    else s1.onTim fun t => { t with bad := t.bad + 1 }
  else if s.tim.needStep || 160 < e.natAbs then
    if s.tim.holdover && s.arm.cell.inserting then s1 else stepTime s1 e cycle
  else countGood (slewTime s1 e) e

/-- A copy of a new CYCLE begins: when the copy with the smaller HOPS of the cycle before has not come, the other
one is followed now; the skew shows a cycle in which both came. -/
def newCopyCycle (s : State) (cycle : Nat) : State :=
  if s.tim.copyCycle = cycle && (s.tim.copyEast.isSome || s.tim.copyWest.isSome) then s
  else
    let old := s.tim.copyCycle
    let s1 := match s.tim.copyUsed, s.tim.copyEast, s.tim.copyWest with
      | false, some e, _ => discipline s false e old
      | false, none, some e => discipline s true e old
      | _, _, _ => s
    s1.onTim fun t =>
      { t with
        skew := if t.copyEast.isSome && t.copyWest.isSome then t.skew else none
        copyCycle := cycle
        copyEast := none
        copyWest := none
        copyUsed := false }

/-- The skew of the two copies of one CYCLE; beyond 20 ns it logs event 0xA10D. -/
def noteSkew (s : State) : State :=
  match s.tim.copyEast, s.tim.copyWest with
  | some e, some w =>
    let s1 := s.onTim fun t => { t with skew := some (w - e) }
    if 320 < (w - e).natAbs then logEvent s1 0xA10D (lo16 (tdiv (w - e) 16)) else s1
  | _, _ => s

/-- One valid copy and the time (R80): a step takes the first copy, a slew the copy with the smaller HOPS, or the
east one when they are equal. -/
def timeCopy (s0 : State) (port : RPort) (f : ArmCycle) : State :=
  let now := s0.clock
  let s := (newCopyCycle s0 f.cycle).onTim fun t => { t with lastCopy := now }
  match s.offsetOf port f with
  | none => s
  | some e =>
    let other := f.ringSize - 1 - f.hops
    let prefer := decide (f.hops < other) || (f.hops == other && !f.fromWest)
    let s1 := noteSkew (s.onTim fun t =>
      if f.fromWest then { t with copyWest := some e } else { t with copyEast := some e })
    if s1.tim.copyUsed then s1
    else if prefer || (!s1.tim.timeValid && s1.tim.needStep) then discipline s1 f.fromWest e f.cycle else s1

/-- HOLDOVER_ENTRY (R82). -/
def execHoldoverEntry (cause : HoldCause) (s : State) : Res :=
  let holds := match cause with
    | .missingFrame => decide (s.tim.lastCopy + s.cycleNs + 2000 ≤ s.clock)
    | .offset => decide (3 ≤ s.tim.bad)
  if s.ringRuns && s.tim.acquired && !s.tim.holdover && holds then
    .next (logEvent (s.onTim fun t => { t with holdover := true, bad := 0 }) 0xA106
      (match cause with
        | .missingFrame => 0
        | .offset => 1))
  else .next s

/-- HOLDOVER_EXPIRY (R82): 200 µs after the last applied offset. -/
def execHoldoverExpiry (s : State) : Res :=
  if s.tim.holdover && s.tim.validMod && decide (s.tim.lastApplied + 200 * usNs ≤ s.clock) then
    .next (logEvent ((s.onTim fun t =>
      { t with validMod := false, timeValid := false, needStep := true, good := 0 }).onArm fun a =>
      { a with modFell := true }) 0xA107)
  else .next s

/-! ### ARM_CYCLE (R25, R69, R83, R93, R96, R105) -/

/-- A newer frame in the list of those that may still count: it takes the place of every older one whose APPLY_TIME does
not come before its own, once its cycle has begun. -/
def addMode (boundary : Nat) (x : ModeFrame) (xs : List ModeFrame) : List ModeFrame :=
  x :: (if x.bound ≤ boundary then xs.filter fun y => decide (y.apply < x.apply) else xs)

/-- MODE and APPLY_TIME of an accepted frame (R96). -/
def takeModeFrame (s : State) (f : ArmCycle) : State :=
  let m := ArmMode.ofCode f.mode
  let b := s.boundOf f.cycle
  s.onArm fun a =>
    { a with
      nextMode := some (m, f.applyTime)
      modes := match a.modes with
        | y :: ys => if y.mode == m && y.apply = f.applyTime then y :: ys
            else addMode a.boundary { mode := m, apply := f.applyTime, bound := b } (y :: ys)
        | [] => [{ mode := m, apply := f.applyTime, bound := b }] }

/-- LOST_REF clears at the first reference frame (R105). -/
def regainRef (s : State) (f : ArmCycle) : State :=
  if s.arm.lostRef && isReference f then endHeld (s.onArm fun a => { a with lostRef := false }) 0x18 else s

/-- The first copy of an ARM_CYCLE is delivered: to ME, and its glue-up, tag and urgent fields. The common bytes of the
newest 8 are kept for the copies to come. -/
def deliverArm (s : State) (f : ArmCycle) (b : List Byte) : State :=
  let s1 := s.onSpl fun x => { x with lastArm := some f, armSeen := ((f.cycle, armCommon b) :: x.armSeen).take 8 }
  let s2 := if s1.inAgreement then s1.onImg fun i => { i with winArm := true } else s1
  let s3 := ringTag s2 f.ringTag
  let s4 := gluePhase s3 f.gluePhase f.glueTag f.tG
  let s5 := if s4.tim.acquired then regainRef (takeModeFrame s4 f) f else s4
  if 1 ≤ f.urgCode ∧ f.urgCode ≤ 3 then actUrgent s5 f.urgCode f.urgSeq else s5

/-- ARM_CYCLE_RX: a valid copy on a port that is up sets position and time; the first copy of a CYCLE is delivered. A
copy that fails its CRC counts for nothing. While the engines restart, only the hardware's part is done. -/
def execArmCycleRx (port : RPort) (b : List Byte) (s : State) : Res :=
  match armOf b with
  | none => .next s
  | some f =>
    if !s.ringRuns || !(s.port port).isUp then .next s
    else
      let s1 := timeCopy (judgePosition s f) port f
      if !s.delivers port b then .next s1
      else
        match s.spl.armSeen.find? fun x => x.1 = f.cycle with
        | none => .next (deliverArm s1 f b)
        | some g => .next (if g.2 == armCommon b then s1 else logEvent s1 0xA110 (f.cycle % 65536))

/-! ### CELL_STATUS and ARM_SUMMARY (R84, R85, R106, R112) -/

/-- The ring-agreement window of dry-fit reads a publication (R51). -/
def windowPub (s : State) (p : Nat) (b : CellStatus) : State :=
  match s.img.staged with
  | none => s
  | some im =>
    if s.img.staging == .dryfit && s.inAgreement && ownsClass1 im.inlay p && ownsClass1 s.im.inlay p then
      s.onImg fun i =>
        { i with
          winAgree := if b.tagActive == im.tag || b.tagStaged == im.tag then i.winAgree ||| BitVec.ofNat 32 (2 ^ p) else i.winAgree
          winDiffer := i.winDiffer || (b.tagStaged != 0 && b.tagStaged != im.tag) }
    else s

/-- Comparison of a publication's ACTIVE_MASK with the own membership of that cycle (R112). Event 0xA121 carries the low 8
bits of the boundary counted in arm cycles: DESIGN CHOICE, log entry 46. -/
def compareMask (s : State) (p c : Nat) (b : CellStatus) : State :=
  match s.arm.maskLog.find? fun x => x.1 = c with
  | none => s
  | some x =>
    if x.2 == b.activeMask then s
    else logEvent (s.onArm fun a => { a with cntMismatch := bump 8 a.cntMismatch }) 0xA121 p (c / s.cycleNs % 256)

/-- Record a publication of position p in the cycle that begins at c. -/
def recordPub (s : State) (p c : Nat) (b : CellStatus) : State :=
  s.onSpl fun x => { x with pubs := { position := p, cycle := c, body := some b } :: x.pubs }

/-- CELL_STATUS_RX (R84, R69, R106, R112): the first valid copy of a publication of this ring. -/
def execCellStatusRx (port : RPort) (b : List Byte) (s : State) : Res :=
  match statusOf b with
  | none => .next s
  | some (h, x) =>
    let p := h.src.toNat % 32
    let c := s.boundOf h.cycle
    if !s.delivers port b || !s.spl.posValid || h.src.getLsbD 15 || s.srcOwner h.src != some p || s.spl.size ≤ p
        || (s.pubOf p c).isSome then .next s
    else
      let s1 := if s.dev.member && p + 1 = s.spl.position && x.member then pairingError s 1 else s
      .next (compareMask (windowPub (recordPub s1 p c x) p x) p c x)

/-! ### Copies (R69) -/

/-- A frame that names a CYCLE of the last 16 arm cycles, or a later one. -/
def State.recent (s : State) (cycle : Nat) : Bool := decide (s.tim.time ≤ unwrapUs s.tim.time cycle + 16 * s.cycleNs)

/-- A copy of the frame has been accepted. -/
def State.seenCopy (s : State) (k : CopyKey) : Bool := s.spl.copies.contains k

/-- A first copy is remembered. -/
def noteCopy (s : State) (k : CopyKey) : State :=
  s.onSpl fun x => { x with copies := k :: x.copies.filter fun y => s.recent y.cycle }

/-- The key of a frame that SRC, SLOT and CYCLE identify. -/
def copyKey (h : FrameHead) : CopyKey := { type := h.type, src := h.src.toNat, slot := h.slot, cycle := h.cycle }

/-- ARM_SUMMARY_RX (R85, R69): the first valid copy of a CYCLE. -/
def execArmSummaryRx (port : RPort) (b : List Byte) (s : State) : Res :=
  match summaryOf b with
  | none => .next s
  | some f =>
    let k : CopyKey := { type := 3, cycle := f.cycle }
    if !s.delivers port b || s.seenCopy k then .next s
    else .next ((noteCopy s k).onSpl fun x => { x with summary := some f })

/-! ### Register operations over Spline (R86, R87) -/

/-- Operations held: queued, or executed with a result that is not yet sent (R87, R88). -/
def State.heldOps (s : State) : Nat :=
  s.spl.regQueue.length + s.spl.ansResults.length
    + (s.spl.frozen.map fun f => (f.results.filter fun r => r.tag != 0xFFFF#16 && r.status != 6#8).length).foldl (· + ·) 0

/-- An operation of a CYCLE enters the queue, or is refused with status 0x06; beyond 3 refusals in a cycle it is counted
and not answered (R87). -/
def takeRegOp (cycle : Nat) (s : State) (o : RegOp) : State :=
  if s.heldOps < 6 then s.onSpl fun x => { x with regQueue := x.regQueue ++ [{ op := o }] }
  else
    let n := (s.spl.refusals.filter fun c => c == cycle).length
    let s1 := s.onSpl fun x => { x with refusals := cycle :: x.refusals.filter s.recent }
    if n < 3 then
      s1.onSpl fun x => { x with ansRefused := x.ansRefused ++ [{ tag := o.tag, status := 6#8, addr := o.addr, data := 0 }] }
    else s1.onSpl fun x => { x with cntRefused := bump 8 x.cntRefused }

/-- One operation of a REG_REQ (R86): padding is skipped, and so is an operation that the other gateway has already
carried in this CYCLE. -/
def regReqOp (cycle : Nat) (gw : Bool) (s : State) (o : RegOp) : State :=
  if o.op == 0#8 || o.dest.toNat % 8192 ≠ s.deviceId then s
  else
    let n := (s.spl.reqSeen.filter fun x => x == (cycle, gw, o)).length + 1
    let m := (s.spl.reqSeen.filter fun x => x == (cycle, !gw, o)).length
    let s1 := s.onSpl fun x => { x with reqSeen := (cycle, gw, o) :: x.reqSeen.filter fun y => s.recent y.1 }
    if n ≤ m then s1 else takeRegOp cycle s1 o

/-- REG_REQ_RX (R86, R87): the first copy of a gateway's frame. -/
def execRegReqRx (port : RPort) (b : List Byte) (s : State) : Res :=
  match regReqOf b with
  | none => .next s
  | some (h, ops) =>
    if !s.delivers port b || !s.spl.posValid || s.seenCopy (copyKey h) then .next s
    else .next (ops.foldl (regReqOp h.cycle (h.src.getLsbD 0)) (noteCopy s (copyKey h)))

/-! ### Own frames (R70, R71, R74, R88, R90) -/

/-- Battery power: the sum of the chains' products of voltage and current, W; none while a sample is invalid. -/
def State.pBatt (s : State) : Option Int :=
  s.chains.foldl (fun a c => match a, s.vCh c, (s.chain c).iMeas with
    | some x, some v, some i => some (x + tdiv ((v : Int) * i) 2000)
    | _, _, _ => none) (some 0)

/-- FLAGS of CELL_STATUS (Table 04.9). -/
def State.statusFlags (s : State) : BitVec 16 :=
  let b (x : Bool) (n : Nat) : Nat := if x then 2 ^ n else 0
  BitVec.ofNat 16 (b s.tim.timeValid 0 + b s.tim.holdover 1 + b s.spl.portE.isUp 2 + b s.spl.portW.isUp 3
    + b s.spl.portE.isolated 4 + b s.spl.portW.isolated 5 + b s.tim.sourceWest 6)

/-- Code of IMG_STATUS.GLUE. -/
def glueCode : Glue → Nat
  | .idle => 0
  | .announced => 1
  | .ready => 2
  | .confirmed => 3
  | .restarting => 4
  | .silent => 5

/-- IMG_STATUS.GLUE: silence under R57 shows before what a glue-up has come to. -/
def State.glueShown (s : State) : Nat := if s.spl.silent then 5 else glueCode s.img.glue

/-- GLUE byte of CELL_STATUS (Table 04.9). READY stays set once CONFIRM has come. -/
def State.glueByte (s : State) : BitVec 8 :=
  BitVec.ofNat 8 (s.glueShown + (if s.img.glue == .ready || s.img.glue == .confirmed then 8 else 0)
    + 16 * s.img.glueBlock + (if s.img.structural then 128 else 0))

/-- The staged schedule tag as published and shown: 0 until staging is complete. -/
def State.stagedTag (s : State) : BitVec 64 :=
  match s.img.staging with
  | .complete | .dryfit => s.img.tagStaged
  | .empty | .erasing | .receiving => 0

/-- The CELL_STATUS of the cycle that begins at b, as it is at its freeze (R84). -/
def State.ownStatus (s : State) (b : Nat) : CellStatus :=
  let lim := s.ownLimits
  { state := s.arm.cell
    member := s.dev.member
    owner := s.arm.owner
    board := BitVec.ofNat 2 s.im.str.board
    legA := s.glk.legA.st
    legB := s.glk.legB.st
    mode := s.arm.mode
    urgent := s.spl.urgLatch != .none
    flags := s.statusFlags
    vCap := s.meas.vCap
    iTerm := s.meas.iTerm
    eCap := s.meas.vCap.map s.eOwn
    soc := s.publishedSoc
    iChA := if s.declared .a then s.chA.iMeas else none
    iChB := if s.declared .b then s.chB.iMeas else none
    vChA := if s.declared .a then s.meas.vChA else none
    vChB := if s.declared .b then s.meas.vChB else none
    pBatt := s.pBatt
    pLimDis := some lim.1
    pLimChg := some lim.2
    tMax := s.tempSummary.map (·.1)
    tMin := s.tempSummary.map (·.2)
    activeMask := if b = s.arm.boundary then s.arm.mask else s.arm.maskNext
    evtCount := s.evt.newest % 65536
    evtCode := s.evt.lastCode
    tagActive := s.activeTag
    tagStaged := s.stagedTag
    dryfit := s.img.dfCode
    glue := s.glueByte
    shimE := s.shimCode .e
    shimW := s.shimCode .w
    police := BitVec.ofNat 16 (s.spl.portE.violCount + 256 * s.spl.portW.violCount) }

/-- The device transmits in its own slots (R15, R57, R65). -/
def State.transmits (s : State) : Bool :=
  s.dev.phase == .ready && s.spl.ringReady && !s.spl.silent && !s.spl.posConflict

/-- A cycle begins at b: by the schedule in force, or from T_G on by the one to come. -/
def State.isBound (s : State) (b : Nat) : Bool :=
  let from_ := if s.img.glue == .confirmed && decide (s.img.glueTime ≤ b) then s.img.glueTime else s.arm.boundary
  decide (((b : Int) - from_) % (s.inlayFor b).cycle = 0)

/-- The freeze of an instance: 1 µs before its earlier launch (R71), 1/16 ns. -/
def State.freezeAt (s : State) (b st : Nat) : Int := min (s.launchAt .e b st) (s.launchAt .w b st) - 16000

/-- Answers that fit a REG_RSP of L bytes, from the answer queue in the order of R88: those sent, and the state
without them. -/
def takeAnswers (s : State) (len : Nat) : List RegRsp × State :=
  let room := (len - 20) / 12
  let a := s.spl.ansRefused.take room
  let room1 := room - a.length
  let b := if 0 < room1 then s.spl.ansBulk.toList else []
  let c := s.spl.ansResults.take (room1 - b.length)
  (a ++ b ++ c, s.onSpl fun x =>
    { x with
      ansRefused := x.ansRefused.drop a.length
      ansBulk := if b.isEmpty then x.ansBulk else none
      ansResults := x.ansResults.drop c.length })

/-- A frame is refused admission (R74). -/
def refuseFrame (s : State) : State := s.onSpl fun x => { x with cntRefused := bump 8 x.cntRefused }

/-- Add a frozen frame. -/
def pushFrozen (s : State) (f : OwnFrame) : State := s.onSpl fun x => { x with frozen := x.frozen ++ [f] }

/-- Payload bytes of an export chunk in a slot of len bytes (Table 04.13): whole 16-byte units. -/
def chunkLen (len : Nat) : Nat := (len - 28) / 16 * 16

/-- The next chunk of an export, at most n bytes of its first run, and what remains. The chunk that empties the last
run of its stream is the last one (FLAGS of Table 04.13). -/
def takeChunk (n : Nat) (q : List (Nat × Nat × List Byte)) :
    Option ((Nat × Nat × Bool × List Byte) × List (Nat × Nat × List Byte)) :=
  match q with
  | [] => none
  | (st, off, bytes) :: rest =>
    if bytes.length ≤ n then some ((st, off, rest.all fun x => x.1 != st, bytes), rest)
    else some ((st, off, false, bytes.take n), (st, off + n, bytes.drop n) :: rest)

/-- An instance is taken, by a frame or by one that was withdrawn; instances of earlier cycles are forgotten. -/
def takeInstance (s : State) (slot b : Nat) : State :=
  s.onSpl fun x => { x with taken := (slot, b) :: x.taken.filter fun y => decide (s.arm.boundary ≤ y.2) }

/-- The frame that the source of an instance's class offers at its freeze (R71, R84, R88); none without an export. -/
def freezeFrame (s : State) (f : OwnFrame) (b : Nat) : State :=
  match f.cls with
  | 1 => pushFrozen s { f with type := 2, status := some (s.ownStatus b) }
  | 2 =>
    let r := takeAnswers s f.len
    pushFrozen r.2 { f with type := 5, results := r.1 }
  | _ =>
    match takeChunk (chunkLen f.len) s.mnt.exportQ with
    | none => s
    | some (x, rest) => pushFrozen (s.onMnt fun m => { m with exportQ := rest }) { f with type := 6, bulk := some x }

/-- OWN_FRAME_FREEZE (R71, R74): the frame of inlay entry `slot` in the cycle named by `cycle`; one that is not complete is
withdrawn. An instance that the device does not own, that is taken or whose freeze has passed is refused. -/
def execOwnFrameFreeze (slot cycle : Nat) (complete : Bool) (s : State) : Res :=
  if !s.transmits then .next s
  else
    let b := s.boundOf cycle
    match (s.inlayFor b).slots[slot]? with
    | none => .next (refuseFrame s)
    | some sl =>
      let t := 16 * (s.tim.time : Int)
      if sl.owner ≠ s.spl.position || !s.isBound b || s.spl.taken.contains (slot, b) || s.freezeAt b sl.start + 16 ≤ t then
        .next (refuseFrame s)
      else if t < s.freezeAt b sl.start then .next s
      else if !complete then
        .next (logEvent ((takeInstance s slot b).onSpl fun x => { x with cntWithdrawn := bump 8 x.cntWithdrawn }) 0xA112 slot)
      else
        .next (freezeFrame (takeInstance s slot b) { slot := slot, cls := sl.cls, len := sl.len, start := sl.start, cycle := cycle } b)

/-- The frame still has to leave through a port. -/
def OwnFrame.awaits (f : OwnFrame) : RPort → Bool
  | .e => !f.outE
  | .w => !f.outW

/-- Mark the oldest frame that awaits a port as launched there, and drop it once both copies are out. -/
def markOut (port : RPort) : List OwnFrame → List OwnFrame
  | [] => []
  | f :: fs =>
    if f.awaits port then
      let g := match port with
        | .e => { f with outE := true }
        | .w => { f with outW := true }
      if g.outE && g.outW then fs else g :: fs
    else f :: markOut port fs

/-- The guardian replaces an own block (R90): the third within 1 s cuts the own-frame path. -/
def guardHit (s : State) (port : RPort) : State :=
  let now := s.clock
  let hs := now :: s.spl.guardHits.filter fun t => decide (now < t + secNs)
  let s1 := logEvent (s.onSpl fun x => { x with cntGuard := bump 8 x.cntGuard, guardHits := hs.take 8 }) 0xA109 port.num
  if 3 ≤ hs.length && !s.spl.guardCut then logEvent (s1.onSpl fun x => { x with guardCut := true }) 0xA10A else s1

/-- The device's own publication, as others receive it (R108): once one copy has left. -/
def recordOwn (s : State) (f : OwnFrame) : State :=
  match f.status with
  | none => s
  | some b =>
    let c := s.boundOf f.cycle
    if (s.pubOf s.spl.position c).isSome then s else recordPub s s.spl.position c b

/-- Block k of n lies in the guardian's window (R90), which opens 8 ns before the launch instant and closes 8 ns after the
frame's air time; `late`: TIME now less the launch instant, 1/16 ns, and a block takes 10.56 ns. -/
def blockIn (late : Int) (n k : Nat) : Bool :=
  decide (-3200 ≤ 25 * late + 4224 * k ∧ 25 * late + 4224 * (k + 1) ≤ 4224 * n + 3200)

/-- How late an own frame is at a port, 1/16 ns. -/
def State.lateness (s : State) (port : RPort) (f : OwnFrame) : Int :=
  16 * (s.tim.time : Int) - s.launchAt port (s.boundOf f.cycle) f.start

/-- The blocks of an own frame that fall outside the window when its first one is offered now. -/
def State.blocksOut (s : State) (port : RPort) (f : OwnFrame) : Nat :=
  ((List.range (f.len / 8)).filter fun k => !blockIn (s.lateness port f) (f.len / 8) k).length

/-- The blocks that reach the transmitter. -/
def State.blocksSent (s : State) (port : RPort) (f : OwnFrame) : List Byte :=
  (((List.range (f.len / 8)).filter (blockIn (s.lateness port f) (f.len / 8))).map fun k =>
    ((f.bytes s.deviceId).drop (8 * k)).take 8).flatten

/-- n blocks are replaced, until the path is cut. -/
def replaceBlocks (s : State) (port : RPort) : Nat → State
  | 0 => s
  | n + 1 => let t := replaceBlocks s port n; if t.spl.guardCut then t else guardHit t port

/-- OWN_FRAME_LAUNCH (R70, R90): a block outside the window is replaced and counted. A frame that comes too early loses
its first blocks, and the rest too once they have cut the path. -/
def execOwnFrameLaunch (port : RPort) (s : State) : Res :=
  match s.spl.frozen.find? fun f => f.awaits port with
  | none => .next s
  | some f =>
    let s1 := s.onSpl fun x => { x with frozen := markOut port x.frozen }
    if !s.transmits || s.spl.guardCut then .next s1
    else
      match s.blocksOut port f with
      | 0 => .next (recordOwn (send s1 (.ownFrame port (f.bytes s.deviceId))) f)
      | n + 1 =>
        let s2 := replaceBlocks s1 port (n + 1)
        if s.lateness port f < 0 && s2.spl.guardCut then .next s2
        else .next (send s2 (.ownFrame port (s.blocksSent port f)))

end Sys2Proof.Machine
end

