-- ==== Sys2Proof/Machine/Dovetail.lean ====
section
/-! DEFINITION. The dovetail link (spec/11 R281 to R285, spec/01 R15 and R16): heartbeats, the state mirror, the
hand-over of the ownership token and its takeover. Rows 88 to 99. -/

set_option Elab.async false

namespace Sys2Proof

/-- Activity code (Table 15.10). -/
def ActCode.num : ActCode → Nat
  | .learn => 1
  | .sentUpdate => 2
  | .gateTest => 3
  | .jig => 4
  | .precharge => 5
  | .contTest => 6
  | .heaterTest => 7
  | .recordExport => 8

end Sys2Proof

namespace Sys2Proof.Machine

/-! ### Heartbeats -/

/-- GIVE of the heartbeat: a hand-over by this member is in progress. -/
def State.giving (s : State) : Bool := s.arm.owner && s.dvt.giveAt.isSome

/-- HEARTBEAT_SEND (R281): every microsecond while the heartbeat runs. -/
def execHeartbeatSend (s : State) : Res :=
  if s.dvt.beating && !s.simplex then
    .next (send s (.heartbeat (beatSet ⟨s.dvt.healthy, s.arm.owner, s.giving, s.dvt.gen, s.dev.member⟩)))
  else .next s

/-- Role clash (R16): neither member holds the token, both legs HIGH_Z with cause 8, loads off, event 0xD001. -/
def enterClash (s : State) : State :=
  let s1 := if s.arm.owner then dropToken s .clash else s
  let s2 := (bothHiZ (cancelTest s1) 8 false).onArm fun a => { a with roleClash := true, owner := false }
  let s3 := s2.onDvt fun d => { d with st := .clash, waitTake := none, giveAt := none, acked := false, ackOwed := false }
  logEvent (refreshLoads (refreshBridge s3)) 0xD001 (if s.dev.member then 1 else 0)

/-- What a heartbeat records. A member that is no owner takes over the generation of an owner. -/
def recordBeat (s : State) (h : Heartbeat) : State :=
  let now := s.clock
  let late := match s.dvt.lastBeat with
    | none => false
    | some t => decide (t + 2 * usNs < now)
  let own := s.arm.owner
  (if h.owner && !own then commandFrom s (!s.ownEnd) else s).onDvt fun d =>
    { d with
      lastBeat := some now
      cntGaps := if late then bump 8 d.cntGaps else d.cntGaps
      partnerHealthy := h.healthy
      partnerOwner := h.owner
      partnerGen := h.gen
      partnerGive := h.give
      waitTake := if s.dev.member && !h.member then none else d.waitTake
      gen := if h.owner && !own then h.gen else d.gen }

/-- This member keeps the token against a partner that claims it too (R285). -/
def State.keepsToken (s : State) (h : Heartbeat) : Bool :=
  decide (h.gen < s.dvt.gen) || (h.gen == s.dvt.gen && !s.dev.member)

/-- A tracking member may take the token (R283): its own HEALTHY stands, it has reached ring-ready, and it neither
waits under R15 nor stands in a role clash. -/
def State.mayTake (s : State) : Bool :=
  !s.simplex && !s.arm.owner && s.dvt.healthy && !s.arm.roleClash && s.dev.phase == .ready && s.dvt.st == .tracking
    && s.dvt.waitTake.isNone

/-- A valid heartbeat of the partner (R16, R283 case (b), R285). -/
def takeBeat (s : State) (h : Heartbeat) : State :=
  let s1 := recordBeat s h
  if h.member == s.dev.member then enterClash s1
  else if s.arm.owner && h.owner then
    if s.keepsToken h then if s.dvt.partnerOwner then s1 else logEvent s1 0xD007 s.dvt.gen h.gen
    else
      logEvent ((dropToken s1 .tracking).onDvt fun d => { d with gen := h.gen, unhealthyAt := none }) 0xD007
        s.dvt.gen h.gen
  else if !h.healthy && h.owner && s1.mayTake then takeOver s1 1
  else s1

/-- HEARTBEAT_RX (R281, R283): a set whose check fails is discarded (R66). -/
def execHeartbeatRx (x : OrdSet) (s : State) : Res :=
  if s.simplex || !s.dvt.up || s.arm.roleClash || s.img.active.isNone then .next s
  else match beatOf x with
    | none => .next s
    | some h => .next (takeBeat s h)

/-- A structural restart of the pair silences the heartbeat for up to 20 ms without a takeover (R56). -/
def State.restartSilence (s : State) : Bool :=
  s.dev.phase == .glueRestart || (decide (s.img.restartAt ≠ 0) && decide (s.clock < s.img.restartAt + 20 * msNs))

/-- HEARTBEAT_TIMEOUT (R283 case (a), R285): more than 5 µs of silence. With the link down, a member that may not
take the token now takes it only under R285. -/
def execHeartbeatTimeout (s : State) : Res :=
  let silent := match s.dvt.lastBeat with
    | none => false
    | some t => decide (t + 5 * usNs < s.clock)
  if s.simplex || s.arm.owner || !silent || s.restartSilence || s.dvt.st != .tracking then .next s
  else if s.mayTake then .next (takeOver s 0)
  else if !s.dvt.up then .next (s.onDvt fun d => { d with st := .linkDown })
  else .next s

/-! ### The state mirror -/

/-- MNT_ACT of a slot. -/
def actWord : Option Activity → Word
  | none => 0
  | some a => BitVec.ofNat 32 (a.code.num + a.port.num * 2 ^ 8 + a.mod.val * 2 ^ 16 + a.chain.num * 2 ^ 21 + a.res.toNat * 2 ^ 22)

/-- The chain engine state of the mirror (R175). -/
def chainMirror (ch : Chain) : ChainMirror :=
  { st := ch.st, order := ch.order, nIns := ch.nIns, trim1 := ch.trim1, trim2 := ch.trim2, w1 := ch.w1, w2 := ch.w2,
    integ := ch.integ }

/-- A load channel in the mirror (R302). -/
def chanMirror (c : LswCh) : ChanMirror :=
  { isOn := c.isOn, econ := c.econ, latched := c.latched, paused := c.pauseDue.isSome, attempts := c.attempts }

/-- Everything that the mirror carries (R281). -/
def State.mirrorNow (s : State) : Mirror :=
  let hop (x : Sen) : Option Nat := if s.dev.member then x.hopUp else x.hopDown
  { legA := s.glk.legA.st
    legB := s.glk.legB.st
    causeA := s.glk.legA.cause
    causeB := s.glk.legB.cause
    bInvert := s.glk.bInvert
    setA := s.pwm.a.cur
    setB := s.pwm.b.cur
    fired := s.prt.firedOut.reverse.map (·.1)
    latched := (List.finRange 64).foldl (fun a e => if s.prt.entries[e].latched then a ||| BitVec.ofNat 64 (2 ^ e.val) else a) 0
    chA := chainMirror s.chA
    chB := chainMirror s.chB
    cntA := s.snA.recs.toList.map (·.cnt)
    cntB := s.snB.recs.toList.map (·.cnt)
    setsA := s.snA.newSets
    setsB := s.snB.newSets
    hopA := hop s.snA
    hopB := hop s.snB
    load := s.lsw.ch.toList.map chanMirror
    refOk := s.refOk
    bypassReq := s.prt.bypReqFwd
    acts := s.mnt.acts.toList.map actWord }

/-- STATE_MIRROR_SEND (R281): the firings, the bypass request and the sets it carries are reported once. -/
def execStateMirrorSend (s : State) : Res :=
  if s.dvt.beating && !s.simplex && s.dvt.up then
    let s1 := s.forChains fun t c => t.onSen c fun x => { x with newSets := [] }
    .next (send (s1.onPrt fun p => { p with firedOut := [], bypReqFwd := false }) (.mirror s.mirrorNow))
  else .next s

/-- A set that passed the end of a tracking member joins its records (R212). What the member reads of the frames that pass
its end comes here with the mirror (log entry 47). -/
def seenSet (c : ChainId) (s : State) (x : Fin 32 × SentSet) : State :=
  (s.onRec c x.1 fun r => { r with sent := (x.2 :: r.sent).take 256 }).onMod c x.1 fun y => { y with cmd := x.2.set }

/-- A chain of the tracking member follows the mirror (R175, R212). -/
def chainFromMirror (s : State) (c : ChainId) (m : Mirror) : State :=
  if !s.declared c then s
  else
    let x := match c with
      | .a => m.chA
      | .b => m.chB
    let cnts := match c with
      | .a => m.cntA
      | .b => m.cntB
    let on (role : Nat) : Bool := match s.coilCh c role with
      | [] => false
      | l => l.all fun n => (m.load[n.val]?.map (·.isOn)).getD false
    let sets := match c with
      | .a => m.setsA
      | .b => m.setsB
    let now := s.clock
    let s1 := s.onChain c fun ch =>
      { ch with
        st := x.st
        order := x.order
        nIns := x.nIns
        trim1 := x.trim1
        trim2 := x.trim2
        w1 := x.w1
        w2 := x.w2
        integ := x.integ
        kPos := on 0
        kNeg := on 1
        kPre := on 2
        kClosedSince := if on 0 && on 1 then some (ch.kClosedSince.getD now) else none }
    (sets.foldl (seenSet c) s1).onSen c fun sn => { sn with recs := Vector.ofFn fun i => { sn.recs[i] with cnt := cnts.getD i.val sn.recs[i].cnt } }

/-- The partner's firing of entry e is counted by the token holder, unless its own entry fired for the same source
within the preceding 10 µs (R280). -/
def countPartner (s : State) (e : Nat) : State :=
  if h : e < 64 then
    let i : Fin 64 := ⟨e, h⟩
    let src := (s.reaction i).source
    let own := (List.finRange 64).any fun k => (s.reaction k).source == src && (match s.prt.entries[k].firedAt with
      | none => false
      | some t => decide (s.clock ≤ t + 10 * usNs))
    if !s.hasEntry i || own then s else countFiring s i
  else s

/-- The firings that the partner reports (R280). Any of them takes the place of the owner's own firing of source
0x08 that waits to be counted. -/
def countPartners (s : State) (fired : List Nat) : State :=
  if fired.isEmpty || !s.arm.owner then s
  else (fired.foldl countPartner s).onPrt fun p => { p with tripCountDue := none }

/-- R284: the partner holds the leg states, causes and B_INVERT of the owner's mirror, and runs the pulse unit of
every leg that it shows RUNNING or PARKED. -/
def State.agrees (s : State) (m : Mirror) : Bool :=
  let unitOk (st : LegSt) (l : Leg) : Bool := st == .hiZ || ((s.unit l).running && (s.unit l).cur.isSome)
  s.glk.legA.st == m.legA && s.glk.legB.st == m.legB && s.glk.legA.cause == m.causeA && s.glk.legB.cause == m.causeB
    && s.glk.bInvert == m.bInvert && unitOk m.legA .a && unitOk m.legB .b

/-- TOKEN_ACK once the conditions of R284 hold. -/
def tryAck (s : State) : State :=
  match s.dvt.mirror with
  | none => s
  | some m =>
    if s.dvt.ackOwed && !s.arm.owner && s.dvt.healthy && s.dvt.up && s.agrees m then
      send (s.onDvt fun d => { d with ackOwed := false }) (.tokenAck s.dvt.giveGen)
    else s

/-- A tracking member follows the owner's bypass (R17, R23): both legs in HIGH_Z with cause 7. Its BYP_CLOSE stays as it
is: the owner asserts its own (R144). -/
def followBypass (s : State) (m : Mirror) : State :=
  if m.legA == .hiZ && m.causeA == 7 && m.legB == .hiZ && m.causeB == 7 then
    (cancelTest s).onArm fun a => { a with bypassed := true }
  else s

/-- STATE_MIRROR_RX (R142, R175, R212, R280, R281, R284, R288, R359); a mirror that fails its CRC is counted. -/
def execStateMirrorRx (m : Option Mirror) (s : State) : Res :=
  if s.simplex || !s.dvt.up || !s.feRuns then .next s
  else
    match m with
    | none => .next (s.onDvt fun d => { d with cntCrc := bump 8 d.cntCrc })
    | some x =>
      let s1 := s.onDvt fun d => { d with mirror := some x }
      if s.arm.owner then
        let s2 := countPartners s1 x.fired
        .next (if x.bypassReq then decideBypass (raiseEvent s2 0x28) 0x28 none else s2)
      else if s.arm.roleClash then .next s1
      else
        let s2 := (if s.arm.bypassed then s1 else followBypass (legsFromMirror s1 x) x).onMnt fun t => { t with mirrored := x.acts }
        .next (tryAck (refreshBridge (chainFromMirror (chainFromMirror s2 .a x) .b x)))

/-! ### The hand-over (R284) -/

/-- The conditions of a hand-over. -/
def State.canHandOver (s : State) : Bool :=
  !s.simplex && s.arm.owner && s.dvt.up && s.partnerBeats && s.dvt.partnerHealthy && !s.dvt.partnerOwner
    && !s.locks.getLsbD 4

/-- TOKEN_GIVE leaves, with T_H and the generation that the partner will hold. -/
def startHandover (s : State) : State :=
  let t := s.tim.time + usNs * s.im.handoverLead
  let g := (s.dvt.gen + 1) % 65536
  send (s.onDvt fun d => { d with st := .handing, giveAt := some t, giveGen := g, acked := false }) (.tokenGive g t)

/-- DVT_CMD = HANDOVER. -/
def opHandover (s : State) : RegRes := if s.canHandOver then (startHandover s, 0x00) else (s, 0x04)

/-- Address of DVT_CMD. -/
def dvtCmdAddr : Word := 0x00130004

/-- DVT_CMD_HANDOVER. -/
def execDvtCmdHandover (p : Requester) (s : State) : Res :=
  .next (regCmd s p fun s => withRight s p .operate dvtCmdAddr opHandover)

/-- TOKEN_GIVE_RX: the partner answers once it agrees. -/
def execTokenGiveRx (gen tH : Nat) (s : State) : Res :=
  if s.simplex || !s.dvt.up || s.arm.owner || s.arm.roleClash || s.dev.phase != .ready then .next s
  else .next (tryAck (s.onDvt fun d => { d with giveAt := some tH, giveGen := gen, ackOwed := true, acked := false }))

/-- TOKEN_ACK_RX: for the hand-over in progress. -/
def execTokenAckRx (gen : Nat) (s : State) : Res :=
  if s.giving && s.dvt.up && gen == s.dvt.giveGen then .next (s.onDvt fun d => { d with acked := true }) else .next s

/-- The hand-over is cancelled: event 0xD004. -/
def cancelHandover (s : State) : State :=
  logEvent (s.onDvt fun d => { d with st := .owning, giveAt := none, acked := false }) 0xD004

/-- HANDOVER_SWITCH: at T_H the owner sends TRACK and the partner begins under R142. -/
def execHandoverSwitch (s : State) : Res :=
  match s.dvt.giveAt with
  | none => .next s
  | some t =>
    if s.tim.time < t then .next s
    else
      let g := s.dvt.giveGen
      let count (x : State) : State := logEvent (x.onDvt fun d => { d with gen := g, cntHand := bump 8 d.cntHand }) 0xD003 g
      if s.arm.owner then
        .next (if s.dvt.acked then count (dropToken s .tracking) else cancelHandover s)
      else if s.dvt.ackOwed then .next (s.onDvt fun d => { d with giveAt := none, ackOwed := false })
      else .next (count (assumeToken s g))

/-- HANDOVER_ACK_TIMEOUT: no TOKEN_ACK by T_H − 20 µs. -/
def execHandoverAckTimeout (s : State) : Res :=
  match s.dvt.giveAt with
  | none => .next s
  | some t =>
    if s.arm.owner && !s.dvt.acked && decide (t ≤ s.tim.time + 20 * usNs) then .next (cancelHandover s) else .next s

/-! ### The link -/

/-- DVT_LINK_DOWN (R285): event 0xD005. The tracking member takes the token at the timeout that follows; the owner
keeps sending until its gate units follow the partner. -/
def execDvtLinkDown (s : State) : Res :=
  if s.simplex || !s.dvt.up then .next s
  else .next (logEvent (s.onDvt fun d => { d with up := false, partnerOwner := false }) 0xD005 0)

/-- DVT_LINK_UP (R281): event 0xD005. -/
def execDvtLinkUp (s : State) : Res :=
  if s.simplex || s.dvt.up || !s.ringRuns || s.img.active.isNone then .next s
  else
    .next (logEvent (s.onDvt fun d => { d with up := true, st := if d.st == .linkDown then .tracking else d.st }) 0xD005 1)

end Sys2Proof.Machine
end

