-- ==== Sys2Proof/Machine/Dryfit.lean ====
section
/-! DEFINITION. Dry-fit (spec/03 R45, R46, R50, R51, Table 03.7, and the image rules of the other chapters): the
checks in their order, each with its code, the failing section and the failing record. -/

set_option Elab.async false

namespace Sys2Proof.Machine

/-- What a failing check reports: code, section type, record. -/
structure Verdict where
  code : Nat
  sec : Nat := 0
  record : Nat := 0
deriving DecidableEq, Repr

/-- The first failure. -/
def firstFail : List (Option Verdict) → Option Verdict
  | [] => none
  | some v :: _ => some v
  | none :: r => firstFail r

/-- A failure where a condition does not hold. -/
def need (ok : Bool) (code : Nat) (sec : Nat := 0) (record : Nat := 0) : Option Verdict :=
  if ok then none else some ⟨code, sec, record⟩

/-- Index of the first element that a check refuses. -/
def firstBad {α : Type} (ok : α → Bool) : Nat → List α → Option Nat
  | _, [] => none
  | i, x :: xs => if ok x then firstBad ok (i + 1) xs else some i

/-- A failure at the first record that a check refuses. -/
def needAll {α : Type} (xs : List α) (ok : α → Bool) (code sec : Nat) : Option Verdict :=
  (firstBad ok 0 xs).map fun i => ⟨code, sec, i⟩

/-! ### Checks 1 to 4 -/

/-- The sections that an image needs (R42). -/
def requiredTypes (im : Image) : List Nat :=
  [1, 2, 3, 4, 5, 7] ++ ((List.range 8).filter fun n => im.str.engineMask.getLsbD n).map fun n => 0x10 + n

/-- Check 1 without the staging count and the ring: layout of header and directory. -/
def checkLayout (f : Bytes) (im : Image) : Option Verdict :=
  let xs := sectionsOf f
  firstFail
    [ need (headerOk f) 0x10,
      (badSection (sigOffset f) 0 (0x100 + 48 * sectionCount f) xs).map fun b => ⟨0x10, b.1, b.2⟩,
      need (decide ((xs.map (·.type)).Nodup)) 0x10,
      ((requiredTypes im).find? fun t => (findSection xs t).isNone).map fun t => ⟨0x10, t, 0⟩ ]

/-- Check 2: signature, signer, rollback. `now`: the Spline time, none where expiry is not judged. -/
def checkSignature (f : Bytes) (im : Image) (root : List Byte) (floor : Nat) (now : Option Nat) : Option Verdict :=
  firstFail
    [ need (imageSigned f) 0x11,
      need (!root.isEmpty && Config.certChains (certOf f) root && (match now with
        | none => true
        | some t => !Config.certExpired (certOf f) t)) 0x12,
      need (decide (floor ≤ im.secVersion)) 0x13 ]

/-- The bytes that STRUCTURE_DIGEST covers. -/
def structBytes (f : Bytes) (xs : List Section) : List Byte :=
  ((xs.filter fun x => x.type == 1 || x.type == 2 || decide (0x10 ≤ x.type)).map fun x => bytesAt f x.off x.len).flatten

/-- Check 3: digests. -/
def checkDigests (f : Bytes) (im : Image) : Option Verdict :=
  let xs := sectionsOf f
  firstFail
    [ (xs.find? fun x => Config.sm3 (bytesAt f x.off x.len) != x.digest).map fun x => ⟨0x14, x.type, 0⟩,
      need (im.schedDigest == Config.sm3 (sectionBytes f xs 3)) 0x14 3,
      need (im.structDigest == Config.sm3 (structBytes f xs)) 0x14 1 ]

/-- Check 4: the signature of each FIRMWARE section (R43). -/
def checkFirmware (f : Bytes) (fwRoot : List Byte) : Option Verdict :=
  ((sectionsOf f).find? fun x => decide (0x10 ≤ x.type) && !Config.firmwareSigned (bytesAt f x.off x.len) fwRoot).map
    fun x => ⟨0x15, x.type, 0⟩

/-! ### Check 5 -/

/-- Chain c is declared by an image. -/
def hasChain (im : Image) (c : ChainId) : Bool := decide (c.num < im.str.nChains)

/-- Modules enumerated on a chain that is awake. -/
def State.enumerated (s : State) (c : ChainId) : Option Nat :=
  match (s.sen c).stage with
  | .enumerated => some s.nMods
  | .mismatch => some (max (s.sen c).cntHead (s.sen c).cntTail)
  | .asleep | .waking | .enumerating => none

/-- The awake chains agree with the image's module count. -/
def State.countsAgree (s : State) (im : Image) : Bool :=
  [ChainId.a, ChainId.b].all fun c => !hasChain im c || (match s.enumerated c with
    | none => true
    | some n => n == im.str.modules)

/-- Channels that carry a contactor role of a chain (R289). -/
def roleCount (im : Image) (c : ChainId) (role : Nat) : Nat :=
  (im.str.lsw.toList.filter fun (b : Byte) =>
    b &&& 0x0F == 1 && ((b >>> 4) &&& 3).toNat == role && b.getLsbD 6 == (c == .b)).length

/-- Every declared chain has each contactor role once, and no undeclared chain has one (R289). -/
def rolesOk (im : Image) : Bool :=
  [ChainId.a, ChainId.b].all fun c => [0, 1, 2].all fun r => roleCount im c r == (if hasChain im c then 1 else 0)

/-- Every engine that the structure needs is in the mask. -/
def enginesOk (im : Image) : Bool :=
  let m := im.str.engineMask
  (m.getLsbD 0 || im.str.board == 3) && m.getLsbD 3 && m.getLsbD 4 && m.getLsbD 5 && m.getLsbD 6 && m.getLsbD 7
    && (m.getLsbD 1 || !hasChain im .a) && (m.getLsbD 2 || !hasChain im .b)

/-- Check 5: the structure against the device (R1, R14), pins and engines. -/
def checkBoard (s : State) (im : Image) : Option Verdict :=
  let plain := s.dev.part == .qz9641
  firstFail
    [ need (im.str.board != 0 || !s.dev.member) 0x20 1,
      need (!plain || (im.target != 0x9640 && !hasChain im .b)) 0x20 1,
      need (im.str.senseSrc == s.dev.senseSrcPin) 0x20 1,
      need (s.countsAgree im) 0x20 1,
      need im.str.pinsOk 0x21 1,
      need (enginesOk im) 0x21 1,
      need (rolesOk im) 0x21 1 ]

/-! ### Check 6 -/

/-- Code of a value out of range of a function, by its level. -/
def levelCode (im : Image) (fn : Nat) : Nat := if im.isExpert fn then 0x31 else 0x30

/-- A comparator record is within its ranges (R266). -/
def cmpOk (c : CmpRec) : Bool :=
  (decide (c.input ≤ 5) || (decide (8 ≤ c.input) && decide (c.input ≤ 15))) && decide (c.mode ≤ 3)
    && decide (c.deglitch ≤ 100) && decide (c.hyst ≤ 7)

/-- The sources of Table 11.5. -/
def sourceKnown (n : Nat) : Bool :=
  decide (n ≤ 8) || [0x10, 0x11, 0x12, 0x18, 0x19, 0x1A].contains n || (decide (0x20 ≤ n) && decide (n ≤ 0x29))

/-- A reaction entry is allowed (R269). -/
def reactionOk (r : Reaction) : Bool :=
  sourceKnown r.source && decide (r.escalate ≤ 5) && decide (r.recover ≤ 2) && !(r.immediate.getLsbD 5 && r.source == 8)

/-- A comparator that a test admits has a reaction entry with an IMMEDIATE bit. -/
def watched (im : Image) (test : CmpRec → Bool) (bit : Nat) : Bool :=
  (List.finRange 8).any fun i => test im.str.cmps[i]
    && im.reactions.any fun r => r.source == i.val && r.immediate.getLsbD bit

/-- The trips that every image has (R268). -/
def tripsOk (im : Image) : Bool :=
  watched im (fun c => c.input == 0 && c.mode == 1) 0
    && [ChainId.a, ChainId.b].all fun c => !hasChain im c ||
      watched im (fun x => x.input == 2 + c.num && x.mode == 3 && decide (x.threshold ≤ 25000)) (3 + c.num)

/-- Partitions lie inside 6 MiB and do not overlap. -/
def partitionsOk (xs : List (Nat × Nat)) : Bool :=
  (xs.all fun x => decide (x.1 + x.2 ≤ slotSize))
    && decide (xs.Pairwise fun x y => x.2 = 0 ∨ y.2 = 0 ∨ x.1 + x.2 ≤ y.1 ∨ y.1 + y.2 ≤ x.1)

/-- The limits of Table 03.6. -/
def structureOk (im : Image) : Bool :=
  let t := im.str
  decide (t.board ≤ 3) && decide (t.nChains ≤ 2) && inRange t.modules 1 32 && inRange t.cells 16 32
    && inRange t.minModules 1 t.modules && inRange t.trims 1 2 && inRange t.kerfA 50 2000 && inRange t.kerfB 50 2000
    && (t.lsw.toList.all fun b => decide ((b &&& 0x0F).toNat ≤ 5))
    && decide ((t.genFn.toList.filter (· != 0)).Nodup) && partitionsOk t.sram && t.limitsOk

/-- A trim count of 2 needs the EXPERT level (R154). -/
def trimsOk (im : Image) : Bool :=
  im.str.trims != 2 || [ChainId.a, ChainId.b].all fun c => !hasChain im c || im.isExpert c.fn

/-- Sum of LIMIT over the channels of a cluster that are not off, mA. -/
def clusterSum (im : Image) (cl : Nat) : Nat :=
  ((List.finRange 12).filter fun n => n.val / 4 == cl && im.str.lsw[n] &&& 0x0F != 0).foldl (fun a n => a + im.lswLimit n.val) 0

/-- The sums of R295. -/
def limitsOk (im : Image) : Bool :=
  ([0, 1, 2].all fun c => decide (clusterSum im c ≤ 16000))
    && decide (clusterSum im 0 + clusterSum im 1 + clusterSum im 2 ≤ 40000)

/-- C_CELL has a record at the level in force (R119). -/
def cellRecord (im : Image) : Bool := (im.rec? 0 (if im.isExpert 0 then 1 else 0) 1).isSome

/-- The order of temperatures of R265. -/
def thermalOk (im : Image) : Bool :=
  decide (im.coldShut < im.tDisMin) && decide (im.tDisMin ≤ im.tChgMin) && decide (im.tChgMin < im.heatOn)
    && decide (im.heatOn < im.heatOff) && decide (im.heatOff < im.chgThrStart) && decide (im.chgThrStart < im.tChgMax)
    && decide (im.tChgMax ≤ im.disThrStart) && decide (im.disThrStart < im.disThrZero) && decide (im.disThrZero ≤ im.tDisMax)
    && decide (im.tDisMax < im.hotShut) && decide (im.hotRelease < im.hotShut) && decide (im.coldShut < im.coldRelease)
    && decide (im.lThrStart < im.lThrZero) && decide (im.lThrZero < im.lShut) && decide (im.dieWarn < im.dieShut)

/-- Only heater channels have module masks (R265). -/
def masksOk (im : Image) : Bool :=
  (List.finRange 12).all fun n => im.str.lsw[n] &&& 0x0F == 3
    || (im.heatGroup .a n.val == 0 && im.heatGroup .b n.val == 0)

/-- The bit timing of R305; rates in kbit/s are exact at 80 MHz. -/
def timingOk (im : Image) : Bool :=
  let n := im.nominalRate
  let d := im.dataRate
  inRange im.nbrp 1 32 && inRange im.ntseg1 2 256 && inRange im.ntseg2 1 128 && inRange im.nsjw 1 im.ntseg2
    && inRange im.dbrp 1 32 && inRange im.dtseg1 1 32 && inRange im.dtseg2 1 16 && inRange im.dsjw 1 im.dtseg2
    && inRange n 125 1000 && n * im.nbrp * (1 + im.ntseg1 + im.ntseg2) == 80000
    && (d == 0 || (decide (n < d) && decide (d ≤ 5000) && d * im.dbrp * (1 + im.dtseg1 + im.dtseg2) == 80000))

/-- TRIPLE only at 125 kbit/s or less (R306). -/
def tripleOk (im : Image) : Bool := im.triple == 0 || decide (im.nominalRate ≤ 125)

/-- A record takes effect (R46). -/
def inEffect (im : Image) (r : ParamRec) : Bool := decide (r.fn < 14) && (r.level == 1) == im.isExpert r.fn

/-- The code of a parameter record (R46), none for a record that passes. A function number of 32 or more, which R46 does
not name, fails as 14 to 31 do: DESIGN CHOICE, log entry 43. -/
def paramCode (im : Image) (r : ParamRec) : Option Nat :=
  if 14 ≤ r.fn then some 0x32
  else if 1 < r.level then some 0x30
  else
    match paramSpec im r.fn r.num r.value with
    | none => some (if r.level = 0 then 0x30 else 0x31)
    | some p =>
      if r.level = 0 && p.onlyExpert then some 0x30
      else if inEffect im r && !p.ok then some (if r.level = 0 then 0x30 else 0x31)
      else none

/-- The first record of a parameter section with a code. -/
def paramFail (im : Image) (sec : Nat) (xs : List ParamRec) (code : Nat) : Option Verdict :=
  needAll xs (fun r => paramCode im r != some code) code sec

/-- Check 6: what fails with 0x30 goes before what fails with 0x31, and that before 0x32. -/
def checkValues (im : Image) (basic expert : List ParamRec) : Option Verdict :=
  let low (code : Nat) : List (Option Verdict) :=
    let at_ (fn : Nat) (ok : Bool) : Option Verdict := if levelCode im fn == code then need ok code 5 else none
    [ paramFail im 5 basic code, paramFail im 6 expert code,
      at_ 0 (cellRecord im), at_ 0 (decide (im.vReadyMin ≤ im.vEnergise)), at_ 7 (thermalOk im), at_ 10 (timingOk im) ]
  firstFail
    ([ need (structureOk im) 0x30 1, needAll im.str.cmps.toList cmpOk 0x30 1, needAll im.reactions reactionOk 0x30 2,
       need (tripsOk im) 0x30 2, need (trimsOk im) 0x30 1, need (limitsOk im) 0x30 5, need (masksOk im) 0x30 5 ]
      ++ low 0x30 ++ low 0x31
      ++ [ need (tripleOk im) 0x31 6, paramFail im 5 basic 0x32, paramFail im 6 expert 0x32,
           need (im.expert >>> 14 == 0) 0x32 ])

/-- Records are ignored (R46). -/
def ignoresRecords (im : Image) : Bool := im.params.any fun r => !inEffect im r

/-! ### Check 7 -/

/-- D_line of the staged schedule, 1/16 ns (R72): each link's shim and 5 ns, or 1,500 ns, and 180 ns a device. -/
def State.lineDelay (s : State) : Nat :=
  let n := s.spl.size
  (List.range (n + 1)).foldl (fun a i => a + (match s.linkShim i with
    | none => 24000
    | some v => v + 80)) (2880 * n)

/-- D_line as SPL_STAGED_LINE shows it, ns. The sum is rounded up: DESIGN CHOICE, log entry 44. -/
def State.lineShown (s : State) : Nat := (s.lineDelay + 15) / 16

/-- Air time of a slot, in hundredths of a nanosecond (R72). -/
def airTime (len : Nat) : Nat := 132 * len

/-- Consecutive slots are sorted and 64 ns apart. -/
def gapsOk : List InlaySlot → Bool
  | [] => true
  | [_] => true
  | x :: y :: r => decide (100 * x.start + airTime x.len + 6400 ≤ 100 * y.start) && gapsOk (y :: r)

/-- Slots of an owner and class. -/
def slotsOf (t : Inlay) (owner cls : Nat) : List InlaySlot := t.slots.filter fun x => x.owner == owner && x.cls == cls

/-- The slots of a gateway (Table 04.5). -/
def gatewayOk (t : Inlay) (owner : Nat) : Bool :=
  (slotsOf t owner 1).map (·.len) == [128, 256] && !(slotsOf t owner 2).isEmpty

/-- The slots of a position: none of class 1, or exactly one of 128 bytes and at least one of class 2. -/
def memberOk (t : Inlay) (owner : Nat) : Bool :=
  (slotsOf t owner 1).isEmpty || ((slotsOf t owner 1).map (·.len) == [128] && !(slotsOf t owner 2).isEmpty)

/-- Check 7 (R72), with the section length and D_line in 1/16 ns. -/
def inlayOk (t : Inlay) (len dLine : Nat) : Bool :=
  let n := t.slots.length
  let last := match t.slots.getLast?, t.slots.head? with
    | some x, some y => decide (100 * x.start + airTime x.len + 6400 ≤ 100 * (y.start + t.cycle))
    | _, _ => false
  inRange t.cycle 10000 100000 && inRange n 1 512 && len == 16 + 8 * n
    && (t.slots.all fun x => x.len % 8 == 0 && inRange x.len 64 512 && inRange x.cls 1 3
      && (decide (x.owner ≤ 31) || x.owner == 0xE0 || x.owner == 0xE1))
    && gapsOk t.slots && last && gatewayOk t 0xE0 && gatewayOk t 0xE1 && ((List.range 32).all (memberOk t))
    && decide (25 * dLine + 4 * airTime (t.slots.foldl (fun a x => max a x.len) 0) + 2000000 ≤ 400 * t.cycle)

/-! ### Check 8 -/

/-- Default byte of a port and class (Table 15.7). -/
def defaultByte (life p c : Nat) : BitVec 8 :=
  let all (b : Bool) : BitVec 8 := if b then 0xFF#8 else 0#8
  match p with
  | 0 => match life with
    | 0 | 1 => all (decide (c ≤ 5))
    | 2 => all (decide (c ≤ 3))
    | _ => all (c == 0)
  | 2 => match c with
    | 0 => 0xFF#8
    | 1 => 0x40#8
    | _ => 0#8
  | 3 => match life with
    | 0 => all (decide (c ≤ 6))
    | 1 => all ([0, 2, 4, 5, 6].contains c)
    | 2 => all ([0, 2, 4, 5].contains c)
    | _ => if c = 0 then 0x81#8 else 0#8
  | 4 => all (life == 0 && decide (c ≤ 6))
  | _ => 0#8

/-- Bytes of ports 0 to 4 that grant beyond the defaults (R45). -/
def escBad (life : Nat) (esc : List Byte) : Option Nat :=
  (List.range 40).find? fun i => i % 8 < 7 && esc.getD i 0 &&& ~~~(defaultByte life (i / 8) (i % 8)) != 0

/-! ### All of it -/

/-- A slot as the parser reads it. -/
def State.slotBytes (s : State) (b : Bool) : Bytes := fun o => nvmRead (s.slotCells b) o

/-- Checks 1 to 8 of Table 03.7 on the staged image. -/
def localChecks (s : State) : Option Verdict :=
  let f := s.slotBytes s.stagingSlot
  let im := imageOf f
  let xs := sectionsOf f
  let inlayLen := (findSection xs 3).elim 0 (·.len)
  let ringOk := im.targetRing == 0xFF || !s.spl.posValid || im.targetRing == s.spl.ring
  firstFail
    [ checkLayout f im,
      need (ringOk && imageLen f == s.img.stageCount) 0x10,
      need (!s.slotErr s.stagingSlot) 0x11,
      checkSignature f im s.sec.root s.img.floor (some s.tim.time),
      checkDigests f im,
      checkFirmware f s.sec.fwRoot,
      checkBoard s im,
      checkValues im (recordsOf f xs 5 8 paramAt) (recordsOf f xs 6 8 paramAt),
      need (inlayOk im.inlay inlayLen s.lineDelay) 0x40 3,
      (escBad s.sec.life im.esc).map fun i => ⟨0x50, 4, i⟩ ]

/-- The other positions that own a class 1 slot in both schedules (R51). -/
def State.checkedMembers (s : State) (im : Image) : List Nat :=
  (List.range 32).filter fun p => p != s.spl.position && ownsClass1 im.inlay p && ownsClass1 s.im.inlay p

/-- Check 9 (R51). -/
def ringCheck (s : State) (im : Image) : Option Verdict :=
  firstFail
    [ need (s.img.winArm && s.img.active.isSome) 0x61,
      need (!s.img.winDiffer && (s.checkedMembers im).all fun p => s.img.winAgree.getLsbD p) 0x60 ]

/-- The verification of a slot at start-up (R43, R44, R47); an uncorrectable error fails its signature check (R35). -/
def bootCheck (s : State) (b : Bool) : Option Verdict :=
  let f := s.slotBytes b
  let im := imageOf f
  firstFail
    [ checkLayout f im, need (!s.slotErr b) 0x11, checkSignature f im s.sec.root s.img.floor none,
      checkFirmware f s.sec.fwRoot ]

end Sys2Proof.Machine
end

