-- ==== Sys2Proof/Machine/Events.lean ====
section
/-! DEFINITION. The non-volatile records (spec/09 R238, spec/10 R263) and the event log (spec/16 R370 to R373): rows
207, 208 and 216. -/

set_option Elab.async false

namespace Sys2Proof.Machine

/-! ### Event log -/

/-- Clock at which the oldest pending entry was logged. -/
def Evt.oldestPend (e : Evt) : Option Nat :=
  if e.pending = 0 then none else e.sram[e.pending - 1]?.map (·.at_)

/-- A copy of the log is due (R371): 64 entries pending, 10 s since the oldest, or made due at once. -/
def State.copyDue (s : State) : Bool :=
  s.evt.pending != 0 && (decide (64 ≤ s.evt.pending) || s.evt.pendDue || (match s.evt.oldestPend with
    | none => false
    | some t => decide (t + 10 * secNs ≤ s.clock)))

/-- The n oldest pending entries, newest first. -/
def Evt.oldestPending (e : Evt) (n : Nat) : List Event := (e.sram.take e.pending).drop (e.pending - n)

/-- EVENT_LOG_COPY (R371): a write of up to 64 entries begins, after the record writes that are due first. -/
def execEventLogCopy (s : State) : Res :=
  if s.heRuns && s.nvmFree && s.copyDue && !(s.est.stateDue && s.stateSpaced) then
    let now := s.clock
    let xs := s.evt.oldestPending 64
    .next (s.onEst fun e => { e with writing := some { kind := .event, began := now, entries := xs } })
  else .next s

/-- Entries that the NVM log keeps before a sector is entered: that sector and the one erased after it hold none
(R371). -/
def logKept : Nat := 62 * 256

/-- Of the entries of a write, those that the buffer still holds: a cold or power-on reset during the write has
emptied it (R372). -/
def Evt.stillHeld (e : Evt) (new : List Event) : Nat := (new.filter fun x => e.sram.any fun y => y.seq == x.seq).length

/-- Entries are appended to the NVM log and count as copied (R371). -/
def appendLog (e : Evt) (new : List Event) : Evt :=
  let k := new.length
  let h := e.stillHeld new
  let before := (256 - e.nvmPos % 256) % 256
  { e with
    nvm := if before < k then new.take (k - before) ++ (new.drop (k - before) ++ e.nvm).take logKept else new ++ e.nvm
    wrapped := e.wrapped || (before < k && decide (logKept < before + e.nvm.length))
    nvmPos := (e.nvmPos + k) % 16384
    pending := e.pending - h
    pendDue := e.pendDue && decide (h < e.pending) }

/-- The newest entry held. -/
def Evt.newestHeld (e : Evt) : Option Event :=
  match e.sram with
  | x :: _ => some x
  | [] => e.nvm.head?

/-- The oldest entry held in NVM or SRAM. -/
def Evt.oldestHeld (e : Evt) : Option Event :=
  match e.nvm.getLast? with
  | some x => some x
  | none => e.sram.getLast?

/-- The held entry that a selection shows, with its place: 1 SRAM, 2 NVM (R373). The lists run from the newest on, so
the first match lies nearest to EVT_NEWEST. -/
def Evt.selected (e : Evt) (sel : Nat) : Option (Nat × Event) :=
  match e.sram.find? fun x => x.seq % 2 ^ 24 == sel with
  | some x => some (1, x)
  | none => (e.nvm.find? fun x => x.seq % 2 ^ 24 == sel).map fun x => (2, x)

/-- A number in n bytes, low byte first. -/
def natBytes : Nat → Nat → List Byte
  | 0, _ => []
  | n + 1, v => BitVec.ofNat 8 v :: natBytes n (v / 256)

/-- The 16 bytes of an entry (Table 16.20). -/
def Event.bytes (x : Event) : List Byte :=
  natBytes 8 x.time.toNat ++ natBytes 2 x.code ++ natBytes 2 x.d1 ++ natBytes 2 x.d2 ++ natBytes 2 x.d3

/-- Write of EVT_SEL. -/
def opEvtSel (p : Requester) (seq : Nat) (s : State) : RegRes :=
  (s.onEvt fun e => { e with sel := e.sel.set p.idx (seq % 2 ^ 24) }, 0x00)

/-- EVT_SEL. -/
def evtSelAddr : Word := 0x00120010

/-- EVT_SEL_WRITE (R373). -/
def execEvtSelWrite (p : Requester) (seq : BitVec 24) (s : State) : Res :=
  .next (regCmd s p fun s => withRight s p .configure evtSelAddr (opEvtSel p seq.toNat))

/-! ### Completion of writes -/

/-- The STATE record in writing is valid; the position after it is erased (R238). -/
def stateWritten (e : Est) : Est :=
  match e.recState with
  | [] => e
  | r :: rs =>
    let e1 := { e with recState := { r with valid := true } :: rs }
    let next := e1.statePos r.two
    { e1 with recState := { r with valid := true } :: rs.filter fun x => !overlaps r.two next x, erased := true }

/-- The COUNT record in writing is valid; the sector that its successor begins is erased (R238). -/
def countWritten (e : Est) : Est :=
  match e.recCount with
  | [] => e
  | r :: rs =>
    let next := (r.pos + 1) % 256
    { e with
      recCount := { r with valid := true } :: (if next % 4 = 0 then rs.filter fun x => x.pos / 4 != next / 4 else rs)
      erased := true }

/-- The till record in writing is held (R263). -/
def tillWritten (s : State) (r : TillRec) : State :=
  logWide (s.onThm fun t =>
    { t with
      tills := t.tills ++ [(t.tillDue.find? fun x => x.seq == r.seq).getD r]
      tillDue := t.tillDue.filter fun x => x.seq != r.seq
      lastCause := if r.kind = 1 then r.cause else t.lastCause }) 0x500B r.seq

/-- What a write carries is in the non-volatile memory. -/
def finishWrite (s : State) : State :=
  match s.est.writing with
  | none => s
  | some w =>
    let s1 := flushStaging (s.onEst fun e => { e with writing := none })
    match w.kind with
    | .state => s1.onEst stateWritten
    | .count => s1.onEst countWritten
    | .till => (match w.till with
      | none => s1
      | some r => tillWritten s1 r)
    | .event => s1.onEvt fun e => appendLog e w.entries

/-- NVM_WRITE_COMPLETE (R238, R330): also of a write during which a reset began. -/
def execNvmWriteComplete (s : State) : Res := .next (finishWrite s)

end Sys2Proof.Machine
end

