-- ==== Sys2Proof/Machine/LoadChannels.lean ====
section
/-! DEFINITION. Protected load channels (spec/12): commands, limiting, inrush, retry, cluster temperature,
economiser, diagnostics and current sense. Rows 158 to 172 and 221. -/

set_option Elab.async false

namespace Sys2Proof.Machine

/-! ### Commands -/

/-- A command that a channel refuses (R290). -/
def refuseCh (s : State) (ch status : Nat) : RegRes := (logEvent s 0x600B ch status, status)

/-- The class of the channel that an LSW_CMD names; none for channel 0 or 13 to 15. -/
def State.namedCh (s : State) (ch : Nat) : Option (Fin 12 × Nat) :=
  if h : 1 ≤ ch ∧ ch ≤ 12 then some (⟨ch - 1, by omega⟩, s.lswClass ⟨ch - 1, by omega⟩) else none

/-- LSW_CMD (R290). -/
def opLswCmd (ch action : Nat) (s : State) : RegRes :=
  match s.namedCh ch with
  | none => (s, 0x07)
  | some (n, cls) =>
    if cls = 1 || cls = 3 then refuseCh s ch 0x01
    else if cls = 0 then refuseCh s ch 0x07
    else if 2 ≤ action then (s, 0x07)
    else (commandCh s n (action == 1), 0x00)

/-- The command names a lamp channel (R317). -/
def State.namesLamp (s : State) (ch : Nat) : Bool :=
  match s.namedCh ch with
  | none => false
  | some (_, cls) => cls == 5

/-- LSW_CMD (R290). -/
def execLswCmd (p : Requester) (ch action : Nat) (s : State) : Res :=
  .next (regCmd s p fun s => withRight s p .operate 0x000D0008 (opLswCmd ch action) (s.namesLamp ch))

/-- The channels of a mask. -/
def maskChs (mask : BitVec 12) : List (Fin 12) := (List.finRange 12).filter fun n => mask.getLsbD n.val

/-- Clear one latch: count and pause start anew. -/
def clearLatch (s : State) (n : Fin 12) : State :=
  if s.lsw.ch[n].latched then
    refreshCh (s.onCh n fun c => { c with latched := false, attempts := 0, pause := 10, pauseDue := none }) n
  else s

/-- LSW_CLEAR (R294). -/
def opLswClear (mask : BitVec 12) (s : State) : RegRes :=
  ((maskChs mask).foldl clearLatch (logEvent s 0x6003 mask.toNat), 0x00)

/-- LSW_CLEAR (R294). -/
def execLswClear (p : Requester) (mask : BitVec 12) (s : State) : Res :=
  .next (regCmd s p fun s => withRight s p .clear 0x000D000C (opLswClear mask))

/-- A write of LSW_SENSE.SEL: ignored in pin mode (R301). -/
def opLswSense (code : BitVec 4) (s : State) : RegRes :=
  if s.dev.senseSrcPin then (s, 0x00)
  else (s.onLsw fun l => { l with sel := code.toNat, pins := code.toNat }, 0x00)

/-- LSW_SENSE_SELECT (R301). -/
def execLswSenseSelect (p : Requester) (code : BitVec 4) (s : State) : Res :=
  .next (regCmd s p fun s => withRight s p .configure 0x000D0010 (opLswSense code))

/-- SENSE_SEL_PIN_CHANGE (R301): in pin mode the pins select. -/
def execSenseSelPinChange (code : BitVec 4) (s : State) : Res :=
  if s.dev.senseSrcPin then .next (s.onLsw fun l => { l with pins := code.toNat }) else .next s

/-- The current that ISENSE sources, µA (R301, R302): that of the channel that the select code names over 2,000, as last
measured, or the calibration current of 2 mA; none while the pin is at high impedance (Table 14.4). -/
def State.isense (s : State) : Option Int :=
  if !s.outOfReset || !s.arm.owner then none
  else if s.lsw.pins = 13 then some 2000
  else if h : 1 ≤ s.lsw.pins ∧ s.lsw.pins ≤ 12 then
    (s.lsw.ch[s.lsw.pins - 1]'(by omega)).i.map fun i => 5 * i
  else some 0

/-! ### Limiting, inrush and retry (R292 to R294) -/

/-- The limit in force, mA (R292, R293). -/
def State.chLimit (s : State) (n : Fin 12) : Nat :=
  if s.lsw.ch[n].inrushDue.isSome then min (s.im.lswLimit n.val * s.im.lswInrushMult n.val / 10) 16000
  else s.im.lswLimit n.val

/-- CURRENT_LIMIT_REACHED (R292): the channel's current, 10 mA, against the limit in force. -/
def execCurrentLimitReached (ch : Fin 12) (i : Int) (s : State) : Res :=
  let now := s.clock
  if s.lsw.ch[ch].isOn && !s.lsw.ch[ch].limiting && decide ((s.chLimit ch : Int) ≤ 10 * i) then
    .next (s.onCh ch fun c => { c with limiting := true, limAt := now })
  else .next s

/-- A failed attempt (R292, R294): off, counted, and a retry pause or the latch. A contactor coil lost opens its
chain. -/
def failedAttempt (s : State) (n : Fin 12) : State :=
  let a := s.lsw.ch[n].attempts + 1
  let s1 := (chOff s n).onLsw fun l => { l with cntFailed := bump 8 l.cntFailed }
  let s2 := logEvent s1 0x6001 (n.val + 1) a
  if s.im.lswRetryN n.val ≤ a then
    let s3 := s2.onCh n fun c => { c with attempts := min a 15, latched := true, pauseDue := none }
    let s4 := logEvent (s3.onLsw fun l => { l with cntLatches := bump 8 l.cntLatches }) 0x6002 (n.val + 1)
    if s.lswClass n = 1 then requestOpen s4 (s.lswChain n) else s4
  else
    let t := s.clock + msNs * s.lsw.ch[n].pause
    s2.onCh n fun c => { c with attempts := a, pauseDue := some t, pause := min 1280 (2 * c.pause) }

/-- LIMIT_TIME_EXPIRY (R292): LIMIT_TIME of continuous limiting outside an inrush window. -/
def execLimitTimeExpiry (ch : Fin 12) (s : State) : Res :=
  let c := s.lsw.ch[ch]
  if c.isOn && c.limiting && c.inrushDue.isNone && decide (c.limAt + usNs * s.im.limitTime ≤ s.clock) then
    .next (failedAttempt s ch)
  else .next s

/-- JUNCTION_OVERTEMP (R292): a junction temperature, 0.1 °C, of 175 °C turns the channel off at once. -/
def execJunctionOvertemp (ch : Fin 12) (tj : Int) (s : State) : Res :=
  if s.lsw.ch[ch].isOn && decide (1750 ≤ tj) then .next (failedAttempt (logEvent s 0x600C (ch.val + 1)) ch) else .next s

/-- INRUSH_WINDOW_END (R293): limiting that continues runs LIMIT_TIME from here. -/
def execInrushWindowEnd (ch : Fin 12) (s : State) : Res :=
  let now := s.clock
  if due now s.lsw.ch[ch].inrushDue then
    .next (s.onCh ch fun c => { c with inrushDue := none, limAt := if c.limiting then now else c.limAt })
  else .next s

/-- RETRY_PAUSE_END (R294). -/
def execRetryPauseEnd (ch : Fin 12) (s : State) : Res :=
  if due s.clock s.lsw.ch[ch].pauseDue then .next (refreshCh (s.onCh ch fun c => { c with pauseDue := none }) ch)
  else .next s

/-- RETRY_COUNT_RESET (R294): 2.56 s on without a failed attempt. -/
def execRetryCountReset (ch : Fin 12) (s : State) : Res :=
  let c := s.lsw.ch[ch]
  if c.isOn && decide (c.onSince + 2560 * msNs ≤ s.clock) then
    .next (s.onCh ch fun c => { c with attempts := 0, pause := 10 })
  else .next s

/-! ### Cluster temperature (R296) -/

/-- The channels of a cluster. -/
def clusterChs (cl : Fin 3) : List (Fin 12) := (List.finRange 12).filter fun n => clusterOf n = cl

/-- The hottest of some channels by junction temperature. -/
def State.hottestCh (s : State) (ns : List (Fin 12)) : Option (Fin 12) :=
  ns.foldl (fun a n => match a with
    | none => some n
    | some b => if s.lsw.ch[b].tj.getD (-32768) < s.lsw.ch[n].tj.getD (-32768) then some n else some b) none

/-- Turn one channel off for cluster temperature. -/
def shedChannel (s : State) (cl : Fin 3) (n : Fin 12) : State :=
  let now := s.clock
  let s1 := (chOff s n).onCh n fun c => { c with thermalOff := true, coilDue := none }
  let s2 := s1.onCluster cl fun k =>
    { k with shedList := n :: k.shedList, last := n.val + 1, lastShedAt := now, restoring := false, nextDue := none }
  logEvent (s2.onLsw fun l => { l with cntSheds := bump 8 l.cntSheds }) 0x6007 (cl.val + 1) (n.val + 1)

/-- Shed the next channel: the hottest that is on, contactors last, and those only after their chain has been
asked to block. -/
def shedNext (s : State) (cl : Fin 3) : State :=
  let on := (clusterChs cl).filter fun n => s.lsw.ch[n].isOn
  match s.hottestCh (on.filter fun n => s.lswClass n != 1) with
  | some n => shedChannel s cl n
  | none =>
    match s.hottestCh (on.filter fun n => s.lsw.ch[n].coilDue.isNone) with
    | none => s
    | some n =>
      let t := s.clock + 2 * msNs
      (requestBlock s (s.lswChain n)).onCh n fun c => { c with coilDue := some t }

/-- Restore the next shed channel, in channel order. -/
def restoreShed (s : State) (cl : Fin 3) : State :=
  let k := s.lsw.clusters[cl]
  match (clusterChs cl).find? k.shedList.contains with
  | none => s.onCluster cl fun k => { k with restoring := false, nextDue := none }
  | some n =>
    let rest := k.shedList.filter (· != n)
    let t := s.clock + 100 * msNs
    let s1 := (s.onCh n fun c => { c with thermalOff := false }).onCluster cl fun k =>
      { k with
        shedList := rest
        restoring := !rest.isEmpty
        nextDue := if rest.isEmpty then none else some t }
    logEvent (refreshCh s1 n) 0x6008 (cl.val + 1) (n.val + 1)

/-- Take a channel's current and junction temperature: limiting ends below the limit in force, and a low current
while on at 100 % begins the time of R300. -/
def takeCh (tj i : Int) (s : State) (n : Fin 12) : State :=
  let now := s.clock
  let lim := s.chLimit n
  let low := s.im.openMin
  s.onCh n fun c =>
    { c with
      tj := some tj
      i := some i
      limiting := c.limiting && decide ((lim : Int) ≤ 10 * i)
      lowSince := if c.isOn && !c.econ && decide (10 * i < (low : Int)) then some (c.lowSince.getD now) else none }

/-- CLUSTER_SENSOR_SAMPLE (R296): each millisecond the hardware reads the cluster's sensor, its junctions and its
currents (10 mA). The dissipation that LSW_TOTAL estimates has no stated formula: a free value. -/
def execClusterSensorSample (cl : Fin 3) (temp : Int) (tjs is : List Int) (s : State) : Res :=
  let s1 := s.onThm fun t => { t with cluster := t.cluster.set cl (some temp) }
  let s2 := (clusterChs cl).foldl (fun t n => takeCh (tjs.getD (n.val % 4) 0) (is.getD (n.val % 4) 0) t n) s1
  let sum := (clusterChs cl).foldl (fun (a : Int) n => a + is.getD (n.val % 4) 0) 0
  let p := s.freeN 65 % 65536
  let top : Int := s.im.clusterShed
  let shed := decide (top ≤ temp) || (s.lsw.clusters[cl].shedding && decide (top - 50 ≤ temp))
  let s3 := nextFree ((s2.onCluster cl fun k => { k with i := some sum, shedding := shed }).onLsw fun l => { l with pDiss := p })
  let k := s3.lsw.clusters[cl]
  if shed then .next (shedNext s3 cl)
  else if decide (temp < (s.im.clusterRestart : Int)) && !k.shedList.isEmpty && !k.restoring then .next (restoreShed s3 cl)
  else .next s3

/-- COIL_SHED_DELAY_EXPIRY (R296): 2 ms after the chain-block request the coil turns off, and its chain is opened
(Table 11.6). -/
def execCoilShedDelayExpiry (ch : Fin 12) (s : State) : Res :=
  if due s.clock s.lsw.ch[ch].coilDue && s.lsw.ch[ch].isOn then
    .next (requestOpen (shedChannel s (clusterOf ch) ch) (s.lswChain ch))
  else .next s

/-- CLUSTER_RESTORE_STAGGER (R296). -/
def execClusterRestoreStagger (cl : Fin 3) (s : State) : Res :=
  let k := s.lsw.clusters[cl]
  if k.restoring && due s.clock k.nextDue then .next (restoreShed s cl) else .next s

/-! ### Economiser and diagnostics -/

/-- ECON_PULL_END (R297). -/
def execEconPullEnd (ch : Fin 12) (s : State) : Res :=
  if s.lsw.ch[ch].isOn && due s.clock s.lsw.ch[ch].econDue then
    .next (s.onCh ch fun c => { c with econ := true, econDue := none, lowSince := none })
  else .next s

/-- OPEN_LOAD_ON_DETECT (R300): below OPEN_MIN for 100 ms; the channel stays on. -/
def execOpenLoadOnDetect (ch : Fin 12) (s : State) : Res :=
  let c := s.lsw.ch[ch]
  let low := match c.lowSince with
    | none => false
    | some t => decide (t + 100 * msNs ≤ s.clock)
  if c.isOn && !c.econ && low && c.diag != 3 then
    .next (logEvent (s.onCh ch fun c => { c with diag := 3 }) 0x6006 (ch.val + 1))
  else .next s

/-- The off-state test may run on a channel (R300). -/
def State.offTestable (s : State) (n : Fin 12) : Bool :=
  let c := s.lsw.ch[n]
  s.arm.owner && !c.isOn && !c.latched && !c.thermalOff && !c.clamp && !(c.shed && shedClass (s.lswClass n))

/-- Result of the off-state test: 0 OK, 1 open load, 2 short to VAUX. -/
def offTest (vout vaux : Nat) : Nat :=
  if vaux - 1000 ≤ vout then 2 else if 4000 < vout then 1 else 0

/-- OFF_STATE_LOAD_TEST (R300): output voltage in mV. Each result logs its event; a channel that is no longer
shorted follows its command. -/
def execOffStateLoadTest (ch : Fin 12) (vout : Nat) (s : State) : Res :=
  match s.pwr.vaux with
  | none => .next s
  | some v =>
    if s.offTestable ch then
      let r := offTest vout v
      let s1 := s.onCh ch fun c => { c with diag := r }
      let s2 := if r = 1 then logEvent s1 0x6004 (ch.val + 1) else if r = 2 then logEvent s1 0x6005 (ch.val + 1) else s1
      .next (refreshCh s2 ch)
    else .next s

end Sys2Proof.Machine
end

