-- ==== Sys2Proof/Machine/LocalBus.lean ====
section
/-! DEFINITION. The local bus controller (spec/13): transmit buffers, receive queue, reserved identifiers, error
states and bus-off. The error counting is that of ISO 11898-1:2015, which R318 names. Rows 173 to 184, 218 and
219, but for the service request. -/

set_option Elab.async false

namespace Sys2Proof.Machine

/-! ### Frames -/

/-- Data bytes of a data length code (ISO 11898-1). -/
def dlcLen (fdf : Bool) (dlc : Nat) : Nat :=
  if dlc ≤ 8 then dlc else if fdf then [12, 16, 20, 24, 32, 48, 64].getD (dlc - 9) 64 else 8

/-- Bytes of data words, low byte first. -/
def wordBytes (ws : List Word) : List Byte :=
  ws.flatMap fun w =>
    [BitVec.truncate 8 w, BitVec.truncate 8 (w >>> 8), BitVec.truncate 8 (w >>> 16), BitVec.truncate 8 (w >>> 24)]

/-- The frame of a staging window (LBUS_TX_ID, LBUS_TX_CTRL, LBUS_TX_DATA). -/
def windowFrame (w : TxWin) : CanFrame :=
  let xtd := w.ctrl.getLsbD 4
  let fdf := w.ctrl.getLsbD 5
  let dlc : BitVec 4 := w.ctrl.truncate 4
  { id := if xtd then w.id else w.id &&& 0x7FF#29
    xtd := xtd
    fdf := fdf
    brs := w.ctrl.getLsbD 6
    esi := false
    rtr := false
    dlc := dlc
    data := (wordBytes w.data.toList).take (dlcLen fdf dlc.toNat)
    stamp := 0 }

/-- A base identifier reserved for the device (R315). -/
def State.reservedId (s : State) (xtd : Bool) (id : Nat) : Bool :=
  !xtd && decide (s.im.svcBase ≤ id ∧ id ≤ s.im.svcBase + 3)

/-- The staged frame is incoherent (R308). -/
def State.incoherent (s : State) (f : CanFrame) : Bool :=
  s.reservedId f.xtd f.id.toNat || (f.brs && (!f.fdf || s.im.dataRate == 0)) || (decide (8 < f.dlc.toNat) && !f.fdf)

/-- Rank of an identifier in arbitration: the lower wins, a base frame against an extended one with the same
first 11 bits. -/
def arbKey (f : CanFrame) : Nat :=
  if f.xtd then (f.id.toNat / 2 ^ 18) * 2 ^ 19 + 2 ^ 18 + f.id.toNat % 2 ^ 18 else f.id.toNat * 2 ^ 19

/-- The pending buffer that the controller offers at a start of frame (R309). -/
def State.winner (s : State) : Option (Fin 16) :=
  ((List.finRange 16).filter fun b => s.lbus.bufs[b].st = 1).foldl (fun a b => match a with
    | none => some b
    | some x => match s.lbus.bufs[x].frame, s.lbus.bufs[b].frame with
      | some f, some g => if arbKey g < arbKey f then some b else some x
      | _, _ => some x) none

/-- Update of one buffer. -/
def onBuf (s : State) (b : Fin 16) (f : TxBuf → TxBuf) : State :=
  s.onLbus fun x => { x with bufs := x.bufs.set b (f x.bufs[b]) }

/-- A buffer becomes free unsent, with ENDED set. -/
def endBuf (s : State) (b : Fin 16) : State :=
  let now := s.clock
  let m := BitVec.ofNat 32 (2 ^ (16 + b.val))
  s.onLbus fun x =>
    { x with
      bufs := x.bufs.set b {}
      ended := x.ended ||| BitVec.ofNat 16 (2 ^ b.val)
      doneFresh := x.doneFresh.add now m }

/-- A buffer takes a frame and becomes pending. -/
def loadBuf (s : State) (b : Fin 16) (f : CanFrame) : State :=
  let n := s.lbus.bufs.toList.foldl (fun a x => max a x.seq) 0 + 1
  onBuf s b fun _ => { st := 1, frame := some f, seq := n }

/-! ### Commands -/

/-- LBUS_TX_GO (R308). -/
def opLbusGo (p : Requester) (b : Fin 16) (s : State) : RegRes :=
  let f := windowFrame s.lbus.win[p.idx]
  let full := s.lbus.bufs.toList.all (·.st != 0)
  if 14 ≤ b.val then (s, 0x01)
  else if full then (dcqFull s 22, 0x04)
  else if s.lbus.bufs[b].st != 0 || !s.arm.owner || s.lbus.shed || (f.brs && s.lbus.tdcRange) then
    (s, 0x04)
  else if s.incoherent f then (s, 0x07)
  else (loadBuf s b f, 0x00)

/-- LBUS_TX_GO (R308). -/
def execLbusTxGo (p : Requester) (b : Fin 16) (s : State) : Res :=
  .next (regCmd s p fun s => withRight s p .operate 0x000E0018 (opLbusGo p b))

/-- Cancel of one buffer (R310). -/
def cancelBuf (s : State) (b : Fin 16) : State :=
  match s.lbus.bufs[b].st with
  | 1 => endBuf s b
  | 2 => onBuf s b fun x => { x with cancel := true }
  | _ => s

/-- LBUS_TX_CANCEL (R310). -/
def opLbusCancel (mask : BitVec 16) (s : State) : RegRes :=
  (((List.finRange 16).filter fun b => decide (b.val < 14) && mask.getLsbD b.val).foldl cancelBuf s, 0x00)

/-- LBUS_TX_CANCEL (R310). -/
def execLbusTxCancel (p : Requester) (mask : BitVec 16) (s : State) : Res :=
  .next (regCmd s p fun s => withRight s p .operate 0x000E001C (opLbusCancel mask))

/-- LBUS_RX_ACK (R312): the entry takes no frame whose end falls in the clock of the acknowledge. -/
def opLbusAck (e : Fin 64) (s : State) : RegRes :=
  let now := s.clock
  match s.lbus.rx[e] with
  | none => (s, 0x07)
  | some x =>
    if x.owned then
      (s.onLbus fun b =>
        { b with rx := b.rx.set e none, rxFreed := (now, if b.rxFreed.1 = now then e :: b.rxFreed.2 else [e]) }, 0x00)
    else (s, 0x07)

/-- LBUS_RX_ACK (R312). -/
def execLbusRxAck (p : Requester) (e : Fin 64) (s : State) : Res :=
  .next (regCmd s p fun s => withRight s p .operate 0x000E0044 (opLbusAck e))

/-- LBUS_CMD RECOVER (R318). -/
def opLbusRecover (s : State) : RegRes :=
  if s.lbus.st == .busOff then
    (s.onLbus fun b => { b with recovering := true, held := false, offDue := none }, 0x00)
  else (s, 0x00)

/-- LBUS_CMD_RECOVER (R318). -/
def execLbusCmdRecover (p : Requester) (s : State) : Res :=
  .next (regCmd s p fun s => withRight s p .operate 0x000E0004 opLbusRecover)

/-! ### Error states (R318) -/

/-- Error active or passive by the counters; a change is event 0x7001. -/
def settleErr (s : State) : State :=
  let passive := decide (127 < s.lbus.txErr ∨ 127 < s.lbus.rxErr)
  if s.lbus.st == .active && passive then
    logEvent (s.onLbus fun b => { b with st := .passive, cntPassive := bump 8 b.cntPassive }) 0x7001
      (min s.lbus.txErr 255) (min s.lbus.rxErr 255)
  else if s.lbus.st == .passive && !passive then
    logEvent (s.onLbus fun b => { b with st := .active }) 0x7001 (min s.lbus.txErr 255) (min s.lbus.rxErr 255)
  else s

/-- A loop delay beyond 1,000 ns (R307): BRS frames end and are refused until the next reset. -/
def loopDelayBad (s : State) (ns : Nat) : State :=
  let brs (b : Fin 16) : Bool := match s.lbus.bufs[b].frame with
    | some f => s.lbus.bufs[b].st = 1 && f.brs
    | none => false
  let s1 := ((List.finRange 16).filter brs).foldl endBuf (s.onLbus fun b => { b with tdcRange := true })
  logWide s1 0x700A ns

/-- The buffer's frame may be under way: it is being transmitted, or it is the one offered (R309). -/
def State.underWay (s : State) (b : Fin 16) : Bool :=
  s.lbus.bufs[b].st = 2 || (s.busNormal && s.lbus.bufs[b].st = 1 && s.winner == some b
    && s.lbus.bufs.toList.all fun x => x.st != 2)

/-- The loop delay of a frame is measured, and it is out of range (R307): above 1 Mbit/s, in CAN FD frames. -/
def State.delayBad (s : State) (f : CanFrame) (ns : Nat) : Bool := decide (1000 < s.im.dataRate) && f.fdf && decide (1000 < ns)

/-- CAN_TX_COMPLETE (R309): end of frame without error. `delay`: the loop delay that the frame showed, in ns. A frame
with BRS set whose delay is out of range has ended unsent before (R307). -/
def execCanTxComplete (b : Fin 16) (delay : Nat) (s : State) : Res :=
  match s.lbus.bufs[b].frame with
  | none => .next s
  | some f =>
    if s.underWay b then
      if s.delayBad f delay && f.brs then .next (loopDelayBad (endBuf s b) delay) else
      let out := { f with esi := s.lbus.st == .passive }
      let now := s.clock
      let s1 := (send s (.can out)).onLbus fun x =>
        { x with
          bufs := x.bufs.set b {}
          sent := x.sent ||| BitVec.ofNat 16 (2 ^ b.val)
          doneFresh := x.doneFresh.add now (BitVec.ofNat 32 (2 ^ b.val))
          txErr := x.txErr - 1 }
      .next (settleErr (if s.delayBad f delay then loopDelayBad s1 delay else s1))
    else .next s

/-- A failed attempt is retried, unless the buffer was cancelled or the bus is shed (R309, R310, R319). -/
def retryBuf (s : State) (b : Fin 16) : State :=
  if s.lbus.bufs[b].cancel || s.lbus.shed then endBuf s b else onBuf s b fun x => { x with st := 1 }

/-- CAN_TX_ATTEMPT_FAIL (R309, R307): arbitration lost, an error, or a loop delay out of range. A missing
acknowledge does not count while error passive. -/
def execCanTxAttemptFail (b : Fin 16) (why : TxFail) (s : State) : Res :=
  if !s.underWay b then .next s
  else match why with
    | .arbitration => .next (retryBuf s b)
    | .error =>
      .next (settleErr (retryBuf ((send s .canErrorFrame).onLbus fun x => { x with txErr := x.txErr + 8 }) b))
    | .noAck =>
      let n := if s.lbus.st == .passive then 0 else 8
      .next (settleErr (retryBuf ((send s .canErrorFrame).onLbus fun x => { x with txErr := x.txErr + n }) b))
    | .loopDelay ns => match s.lbus.bufs[b].frame with
      | none => .next s
      | some f =>
        if s.delayBad f ns then .next (loopDelayBad (bif f.brs then endBuf s b else retryBuf s b) ns)
        else .next (retryBuf s b)

/-- LBUS_RX_ERROR (R318): an error while receiving counts 1, and 8 when a dominant bit follows the error flag. -/
def execLbusRxError (dominant : Bool) (s : State) : Res :=
  if s.busNormal then
    .next (settleErr ((send s .canErrorFrame).onLbus fun x =>
      { x with rxErr := min 255 (x.rxErr + if dominant then 8 else 1) }))
  else .next s

/-- LBUS_BUS_OFF (R318). -/
def execLbusBusOff (s : State) : Res :=
  if s.busNormal && decide (256 ≤ s.lbus.txErr) then
    let now := s.clock
    let ts := now :: s.lbus.offTimes.filter fun t => decide (now < t + 60 * secNs)
    let hold := decide (s.im.busoffMax ≤ ts.length)
    let t := now + msNs * s.im.busoffHold
    let auto := s.im.autoRecover = 1
    let s1 := s.onLbus fun x =>
      { x with
        st := .busOff
        cntBusoff := bump 8 x.cntBusoff
        offTimes := ts
        held := hold
        recovering := false
        offDue := if hold || !auto then none else some t
        bufs := x.bufs.map fun y => if y.st = 2 then { y with st := 1 } else y }
    let s2 := logEvent s1 0x7002 (min s.lbus.txErr 255)
    .next (if hold then logEvent s2 0x7009 else s2)
  else .next s

/-- BUSOFF_HOLD_EXPIRY (R318). -/
def execBusoffHoldExpiry (s : State) : Res :=
  if s.lbus.st == .busOff && due s.clock s.lbus.offDue then
    .next (s.onLbus fun b => { b with recovering := true, offDue := none })
  else .next s

/-- BUS_OFF_RECOVERED (R318): 128 occurrences of 11 recessive bits; pending buffers resume. -/
def execBusOffRecovered (s : State) : Res :=
  if s.lbus.st == .busOff && s.lbus.recovering then
    let now := s.clock
    let n := (s.lbus.offTimes.filter fun t => decide (now < t + 60 * secNs)).length
    .next (logEvent (s.onLbus fun b =>
      { b with st := .active, rxErr := 0, txErr := 0, recovering := false, held := false }) 0x7003 n)
  else .next s

/-! ### Reception (R311 to R315) -/

/-- The entry was freed in this clock (R312). -/
def State.justFreed (s : State) (e : Fin 64) : Bool := s.lbus.rxFreed.1 == s.clock && s.lbus.rxFreed.2.contains e

/-- A free receive entry. -/
def State.freeEntry (s : State) : Option (Fin 64) :=
  (List.finRange 64).find? fun e => s.lbus.rx[e].isNone && !s.justFreed e

/-- Deliver a frame, or discard it while all 64 entries are owned (R311, R313). Event 0x7004 closes a run of
discards with their number. -/
def deliver (s : State) (f : CanFrame) (filter : Nat) (wake : Bool) : State :=
  match s.freeEntry with
  | none =>
    let now := s.clock
    (dcqFull s 23).onLbus fun b =>
      { b with rxOverrun := true, overrunAt := some now, cntOverrun := bump 8 b.cntOverrun, discRun := b.discRun + 1 }
  | some e =>
    let s1 := if s.lbus.discRun = 0 then s
      else logWide (s.onLbus fun b => { b with discRun := 0 }) 0x7004 s.lbus.discRun
    s1.onLbus fun b =>
      { b with
        rx := b.rx.set e (some
          { frame := f, filter := filter, wake := wake, seq := b.rxSeq, order := b.rxN, owned := true })
        rxSeq := (b.rxSeq + 1) % 256
        rxN := b.rxN + 1 }

/-- A service request that the device takes (R315): a CAN FD frame of 12 data bytes on SVC_BASE. -/
def State.isRequest (s : State) (f : CanFrame) : Bool :=
  f.id.toNat == s.im.svcBase && f.fdf && !f.rtr && f.data.length == 12

/-- The request that a frame carries (Table 13.2). -/
def requestOf (f : CanFrame) (refused : Bool) : SvcReq :=
  { tag := BitVec.ofNat 16 (leVal (f.data.take 2))
    op := BitVec.ofNat 8 (leVal ((f.data.drop 2).take 1))
    addr := BitVec.ofNat 32 (leVal ((f.data.drop 4).take 4))
    data := BitVec.ofNat 32 (leVal ((f.data.drop 8).take 4))
    refused := refused }

/-- A frame on a reserved identifier (R315). The tracking member answers no request (R320). -/
def takeReserved (s : State) (f : CanFrame) : State :=
  if s.isRequest f then
    if s.busNormal then
      let full := decide (4 ≤ (s.lbus.svcQ.filter fun r => !r.refused).length)
      s.onLbus fun b => { b with svcQ := b.svcQ ++ [requestOf f full] }
    else s
  else logWide (s.onLbus fun b => { b with cntReserved := bump 8 b.cntReserved }) 0x7005 f.id.toNat

/-- The receive error counter after a frame without error (ISO 11898-1): from above 127 to a value between 119 and
127, which that standard leaves open. -/
def rxGood (n free : Nat) : Nat := if 127 < n then 119 + free % 9 else n - 1

/-- The controller receives a frame, and acknowledges it or not: on the bus, and the one frame in progress when it left
the bus (R305, R319). -/
def State.receives (s : State) (f : CanFrame) : Option Bool :=
  if s.busNormal then some true
  else if s.lbus.st == .monitoring then some false
  else match s.lbus.lastRx with
    | none => none
    | some (ack, t) => if (t - f.stamp).toNat < 2 ^ 31 then some ack else none

/-- CAN_FRAME_RX (R311, R313 to R315): a frame received without error. -/
def execCanFrameRx (f : CanFrame) (s : State) : Res :=
  match s.receives f with
  | none => .next s
  | some answers =>
    let n := rxGood s.lbus.rxErr (s.freeN 66)
    let s0 := s.onLbus fun b => { b with lastRx := none }
    let s1 := bif answers then settleErr (nextFree ((send s0 .canAck).onLbus fun b => { b with rxErr := n })) else s0
    if s.reservedId f.xtd f.id.toNat then .next (takeReserved s1 f)
    else match s.acceptFilter f with
      | some k => .next (deliver s1 f k false)
      | none => .next s1

/-- LBUS_BUS_IDLE (R319, R320, R309): the controller ends integrating, a new token holder enters normal mode, or the
offered frame starts. The frame that woke the device is the first to be delivered (R321). -/
def execLbusBusIdle (s : State) : Res :=
  match s.lbus.st with
  | .integrating =>
    let st : LbusSt :=
      if !s.arm.owner then .monitoring else if 127 < s.lbus.txErr ∨ 127 < s.lbus.rxErr then .passive else .active
    let s1 := s.onLbus fun b => { b with st := st, toNormal := false, wakeFrame := none, lastRx := none }
    match s.lbus.wakeFrame with
    | none => .next s1
    | some f => .next (deliver s1 f ((s.acceptFilter f).getD 0) true)
  | .monitoring =>
    if s.lbus.toNormal then .next (s.onLbus fun b => { b with st := .active, toNormal := false }) else .next s
  | .active | .passive =>
    match s.winner with
    | some b => if s.lbus.bufs.toList.all fun x => x.st != 2 then .next (onBuf s b fun x => { x with st := 2 }) else .next s
    | none => .next s
  | .stopped | .busOff => .next s

/-! ### Status frame (R316) -/

/-- The status frame of Table 13.2. -/
def State.statusFrame (s : State) : CanFrame :=
  let t := s.tempSummary
  { id := BitVec.ofNat 29 (s.im.svcBase + 2)
    xtd := false
    fdf := false
    brs := false
    esi := false
    rtr := false
    dlc := 8
    data := [s.stateByte, BitVec.ofNat 8 (s.sdCode .a + 4 * s.stage)] ++ le16s (t.map (·.1)) ++ le16s (t.map (·.2))
      ++ le16u s.publishedSoc
    stamp := 0 }

/-- LBUS_STATUS_PERIOD (R316): the active member loads buffer 15, or renews its pending content. -/
def execLbusStatusPeriod (s : State) : Res :=
  if s.arm.owner && s.im.statusPeriod != 0 && s.img.active.isSome && !s.lbus.shed && s.lbus.st != .stopped
      && s.lbus.bufs[15].st != 2 then
    .next (loadBuf s 15 s.statusFrame)
  else .next s

end Sys2Proof.Machine
end

