-- ==== Sys2Proof/Machine/Staging.lean ====
section
/-! DEFINITION. Staging, dry-fit and the glue-up switch (spec/03 R48 to R57, Table 03.9; spec/04 R89): rows 31 to 38
and 217. -/

set_option Elab.async false

namespace Sys2Proof.Machine

/-- IMG_CMD. -/
def imgCmdAddr : Word := 0x00010004

/-- Address that ESC_DENIED_ADDR shows for an operation that is no register access. -/
def noAddr : Word := 0xFFFFFFFF

/-- Nothing of a dry-fit is held (R48, R50). -/
def clearDryfit (i : Img) : Img :=
  { i with
    structural := false
    dfCode := 0
    dfSection := 0
    dfRecord := 0
    dfWarn := false
    staged := none
    winCycles := 0
    winAgree := 0
    winDiffer := false
    winArm := false }

/-- STAGE_BEGIN (R48, R49): the inactive slot is erased, whatever error it held with it. -/
def opStageBegin (p : Requester) (len : Nat) (s : State) : RegRes :=
  if s.img.locked then (s, 0x05)
  else
    let b := s.stagingSlot
    let s1 := s.onImg fun i =>
      let j := putSlot (clearDryfit i) b []
      { j with
        slotAErr := j.slotAErr && b
        slotBErr := j.slotBErr && !b
        staging := .erasing
        stagePort := some p
        stageLen := len
        stageCount := 0
        waiting := []
        tagStaged := 0
        stagedVersion := 0 }
    (logEvent s1 0xB001 p.num, 0x00)

/-- IMG_CMD STAGE_BEGIN. -/
def execImgCmdStageBegin (p : Requester) (len : Nat) (s : State) : Res :=
  .next (regCmd s p fun s => withRight s p .configure imgCmdAddr (opStageBegin p len))

/-- STAGE_ERASE_COMPLETE (R48): an erase goes on only with write-permit (R330). -/
def execStageEraseComplete (s : State) : Res :=
  match s.img.staging with
  | .erasing => if s.writePermit then .next (s.onImg fun i => { i with staging := .receiving }) else .next s
  | .empty | .receiving | .complete | .dryfit => .next s

/-- STAGE_END (R48): the byte count must lie in the last of LENGTH units. -/
def opStageEnd (s : State) : RegRes :=
  match s.img.staging with
  | .receiving =>
    let n := s.img.stageCount
    if 64 * s.img.stageLen < n + 64 ∧ n ≤ 64 * s.img.stageLen then
      let im := imageOf (s.slotBytes s.stagingSlot)
      (logWide (s.onImg fun i => { i with staging := .complete, tagStaged := im.tag, stagedVersion := im.version }) 0xB002 n, 0x00)
    else (s, 0x04)
  | .empty | .erasing | .complete | .dryfit => (s, 0x04)

/-- IMG_CMD STAGE_END. -/
def execImgCmdStageEnd (p : Requester) (s : State) : Res :=
  .next (regCmd s p fun s => withRight s p .configure imgCmdAddr opStageEnd)

/-- DRYFIT (R50): the checks start on a complete staged image. DESIGN CHOICE: 0x04 without one, 0x05 while the slot
is locked (log entry 31). -/
def opDryfit (s : State) : RegRes :=
  if s.img.locked then (s, 0x05)
  else
    match s.img.staging with
    | .complete =>
      let im := imageOf (s.slotBytes s.stagingSlot)
      let now := s.clock
      (s.onImg fun i => { clearDryfit i with staging := .dryfit, staged := some im, dfAt := now }, 0x00)
    | .empty | .erasing | .receiving | .dryfit => (s, 0x04)

/-- IMG_CMD DRYFIT. -/
def execImgCmdDryfit (p : Requester) (s : State) : Res :=
  .next (regCmd s p fun s => withRight s p .configure imgCmdAddr opDryfit)

/-- IMG_CMD ABORT (R55). -/
def execImgCmdAbort (p : Requester) (s : State) : Res :=
  .next (regCmd s p fun s => withRight s p .commit imgCmdAddr fun s => (cancelGlue s 2, 0x00))

/-- A staging chunk on the port that staging is open on: its status (R48, R89, R350). While a record write is in progress
the chunk waits for it to end. -/
def opChunk (p : Requester) (off : Nat) (data : List Byte) (s : State) : RegRes :=
  if !s.right p .configure noAddr then (deny s p .configure noAddr, 0x02)
  else if !s.writePermit || s.img.staging == .erasing then (s, 0x04)
  else if off ≠ s.img.stageCount ∨ 64 * s.img.stageLen < off + data.length ∨ slotSize < off + data.length then (s, 0x07)
  else
    let b := s.stagingSlot
    let cells := nvmWrite (s.slotHeld b) off data
    if s.est.writing.isSome then
      (s.onImg fun i => { i with waiting := (off, data) :: i.waiting, stageCount := off + data.length }, 0x00)
    else (s.onImg fun i => { putSlot i b cells with stageCount := off + data.length }, 0x00)

/-- Staging is open on a port. -/
def State.stagingOn (s : State) (p : Requester) : Bool :=
  (s.img.staging == .receiving || s.img.staging == .erasing) && s.img.stagePort == some p

/-- A chunk of the service port: processed and answered with ACK, whose expected offset is the count (Table 15.8). -/
def serviceChunk (off : Nat) (data : List Byte) (s : State) : State × SvcFrame :=
  let r := if s.stagingOn .service then opChunk .service off data s else (s, 0x04)
  (r.1, .ack (BitVec.ofNat 8 r.2) (BitVec.ofNat 32 r.1.img.stageCount))

/-- A BULK names this device (Table 04.13). -/
def State.addressed (s : State) (dest : BitVec 16) : Bool :=
  dest.getLsbD 15 || (s.spl.posValid && dest.toNat % 8192 == s.deviceId)

/-- The payload of a staging chunk: the L − 28 bytes, of which the last chunk uses those up to IMAGE_LEN, as the header
staged with it gives it. DESIGN CHOICE: log entry 44. -/
def State.chunkData (s : State) (x : BulkFrame) : List Byte :=
  let n := imageLen fun o => nvmRead (nvmWrite (s.slotCells s.stagingSlot) x.off x.data) o
  if x.last && decide (x.off ≤ n) then x.data.take (n - x.off) else x.data

/-- STAGING_CHUNK (R48, R69, R89): a stream 1 BULK over Spline; a refusal waits as a BULK report. -/
def execStagingChunk (port : RPort) (b : List Byte) (s : State) : Res :=
  match bulkOf b with
  | none => .next s
  | some x =>
    let k := copyKey x.head
    if !s.delivers port b || s.seenCopy k then .next s
    else
      let s1 := noteCopy s k
      if x.stream ≠ 1 || !s.addressed x.dest || !s.stagingOn .spline then .next s1
      else
        let r := opChunk .spline x.off (s.chunkData x) s1
        if r.2 = 0 then .next r.1
        else
          let rsp : RegRsp :=
            { tag := 0xFFFF#16, status := BitVec.ofNat 8 r.2, addr := BitVec.ofNat 32 r.1.img.stageCount, data := 0 }
          .next (r.1.onSpl fun x => { x with ansBulk := some rsp })

/-- Dry-fit passed (R50, R52, R75). The bounds of the staged schedule are shown from here on, and stay through a failed
dry-fit and a new STAGE_BEGIN: DESIGN CHOICE, log entry 43. -/
def dryfitPass (s : State) (im : Image) : State :=
  let structural := match s.img.active with
    | none => true
    | some a => im.structDigest != a.structDigest || im.schedDigest != a.schedDigest || im.expert != a.expert
  let line := s.lineShown
  logEvent ((s.onImg fun i => { i with staging := .complete, dfCode := 1, structural := structural, dfWarn := ignoresRecords im }).onSpl
    fun x => { x with stagedBound := im.inlay.cycle + 14, stagedLine := line }) 0xB003 (im.tag.toNat % 65536)

/-- Dry-fit failed (R50). WARN_IGNORED comes from the records whatever check failed: DESIGN CHOICE, log entry 43. -/
def dryfitFail (s : State) (im : Image) (v : Verdict) : State :=
  logEvent (s.onImg fun i =>
    { i with
      staging := .complete
      staged := none
      dfCode := BitVec.ofNat 8 v.code
      dfSection := BitVec.ofNat 8 v.sec
      dfRecord := BitVec.ofNat 12 v.record
      dfWarn := ignoresRecords im }) 0xB004 v.code (v.sec % 256)

/-- The ring-agreement window is over: 8 arm cycles after its first boundary, or after the 9 cycles within which it would
have ended where the device has no ring time to see a boundary by. -/
def State.windowOver (s : State) : Bool :=
  decide (9 ≤ s.img.winCycles) || (!s.tim.acquired && decide (s.img.dfAt + 9 * s.cycleNs ≤ s.clock))

/-- DRYFIT_COMPLETE (R50, R51): a failure of checks 1 to 8 ends it at once; the ring-agreement window ends 8 arm
cycles after its first boundary. A device that runs no image has no ring to watch. -/
def execDryfitComplete (s : State) : Res :=
  match s.img.staging, s.img.staged with
  | .dryfit, some im =>
    match localChecks s with
    | some v => .next (dryfitFail s im v)
    | none =>
      if s.img.active.isNone then .next (dryfitFail s im ⟨0x61, 0, 0⟩)
      else if !s.windowOver then .next s
      else
        match ringCheck s im with
        | some v => .next (dryfitFail s im v)
        | none => .next (dryfitPass s im)
  | _, _ => .next s

/-- GLUE_UP_SWITCH (R55, Table 03.9 steps 3 and 4): once T_G has come. -/
def execGlueUpSwitch (s : State) : Res :=
  if s.feRuns && s.img.glue == .confirmed && decide (s.img.glueTime ≤ s.tim.time) then
    .next (switchImage s s.img.glueTime false)
  else .next s

/-- GLUE_RESTART_COMPLETE (Table 03.9 step 5): engines run, coils are taken back, publication resumes. -/
def execGlueRestartComplete (s : State) : Res :=
  match s.dev.phase with
  | .glueRestart =>
    let us := (s.clock - s.img.restartAt) / usNs
    let s1 := ((setEngines s .running).onDev fun d =>
      { d with phase := if s.spl.ringReady then .ready else .starting }).onImg fun i => { i with glue := .idle, locked := false }
    .next (refreshLoads (refreshBridge (logWide (resumeClamp s1) 0xB008 us)))
  | .held | .booting | .starting | .ready | .noImage | .warm | .hibernating => .next s

end Sys2Proof.Machine
end

