-- ==== Sys2Proof/Machine/Start.lean ====
section
/-! DEFINITION. Start-up (spec/14 Table 14.6, spec/03 R60 and R61, spec/01 R15 and R21): the slots, the records of EE
and HE, ring-ready and the token. Rows 1 to 3. -/

set_option Elab.async false

namespace Sys2Proof.Machine

/-! ### EE restores its records (R240 to R242, R248) -/

/-- What a STATE record gives one chain. -/
def chainFrom (s : State) (c : ChainId) (ms : Vector EstMod 32) (h : ChainHead) : State :=
  s.onEs c fun e =>
    { e with
      mods := ms.map fun a => { a with cells := a.cells.map CellAcc.settle }
      vnrPreset := h.preset
      vnrLoaded := h.preset
      vnrA := h.aPreset
      vnrCap := h.vnrCap
      vnrGap := h.vnrGap }

/-- A newer COUNT record (R240): each Q_m, with the rise on every cell, and 200 mA × 585 µs per ms of uncertainty. -/
def countOver (s : State) (c : ChainId) (qs : Vector Int 32) (ms : Nat) : State :=
  s.onEs c fun e =>
    { e with mods := Vector.ofFn fun m =>
        let a := e.mods[m]
        let rise := qs[m] - a.q
        { a with q := qs[m], cells := a.cells.map fun x => ({ x with q := x.q + rise }.raiseUnc (23400 * ms)).settle } }

/-- The records whose digest fails and that are newer than the newer slot: kind 0 STATE, 1 COUNT. -/
def Est.spoiled (e : Est) : List (Nat × Nat) :=
  let st := match e.newState with
    | none => []
    | some n => (e.recState.filter fun r => !r.valid && decide (n.seq < r.seq)).map fun r => (0, r.seq)
  let ct := match e.newCount with
    | none => []
    | some n => (e.recCount.filter fun r => !r.valid && decide (n.seq < r.seq)).map fun r => (1, r.seq)
  st ++ ct

/-- A kind without a valid slot (R241): event 0x400C. -/
def noSlot (s : State) (kind : Nat) : State := logEvent (s.onEst fun e => { e with noneSlot := true }) 0x400C kind

/-- Integrator standing in the newer of the two records: A, epoch and the record's Spline time. -/
def Est.headOf (e : Est) (c : ChainId) : Option (Int × Nat × Nat) :=
  let st := e.newState.map fun r => match c with
    | .a => (r.headA.acc, r.headA.epoch, r.time)
    | .b => (r.headB.acc, r.headB.epoch, r.time)
  let ct := e.newCount.map fun r => match c with
    | .a => (r.accA.1, r.accA.2, r.time)
    | .b => (r.accB.1, r.accB.2, r.time)
  match st, ct with
  | some x, some y => some (if x.2.2 < y.2.2 then y else x)
  | some x, none => some x
  | none, y => y

/-- The charge since the records (R240, R242), as part of the counting gap that the first count ends (R220). With a changed
epoch it is unknown, so 0, and the drain waits for the Spline time; without a record nothing is attributed. -/
def sinceRecord (s : State) (c : ChainId) : State :=
  let live := (s.es c).accLive
  let base (t : State) (q : Int) : State := t.onEs c fun e => { e with acc := live, accSeen := live, gapQ := q, gapSets := [] }
  match s.est.headOf c with
  | none => base s 0
  | some (acc, epoch, time) =>
    if epoch = (s.es c).epoch then base (chargeGap s c (live - acc) (s.gapShare c (live - acc))) (live - acc)
    else
      base (logEvent ((s.onEst fun e => { e with epochChg := true }).onEs c fun e =>
        { e with vnrGap := true, drainFrom := some time }) 0x400E c.num) 0

/-- The parked modules and the pending park requests that the records keep (R163). -/
def restoreParks (s : State) (c : ChainId) : State :=
  let s1 := s.onChain c fun ch =>
    { ch with mods := Vector.ofFn fun m =>
        let p := s.est.park[parkIdx c m]
        { ch.mods[m] with st := if p.1 = 0 then ch.mods[m].st else .parked, cause := p.1, pend := p.2 } }
  if s1.anyPend c then s1.onChain c fun ch => { ch with derate := true } else s1

/-- EE restores (R240 to R242, R248). -/
def restoreRecords (s : State) : State :=
  let lost := s.est.spoiled
  let s1 := lost.foldl (fun t x => logEvent (t.onEst fun e => { e with fallback := true }) 0x400B x.1 (x.2 % 65536)) s
  let s2 := match s.est.newState with
    | none => s1.forChains fun t c => t.modIdx.foldl (fun u m => resetModule u c m 0) t
    | some r => chainFrom (chainFrom s1 .a r.modsA r.headA) .b r.modsB r.headB
  let s3 := if s.est.newState.isNone then noSlot s2 0 else s2
  let s4 := if s.est.newCount.isNone then noSlot s3 1 else s3
  let s5 := match s.est.newState, s.est.newCount with
    | some r, some n =>
      if r.time < n.time then
        let ms := (n.time - r.time) / msNs
        countOver (countOver s4 .a n.qA ms) .b n.qB ms
      else s4
    | _, _ => s4
  let s6 := s5.forChains restoreParks
  let s7 := closeAll (if lost.isEmpty then s6 else closeAll s6 9) 4
  let s8 := s7.forChains sinceRecord
  let s9 := if s.pwr.rstCause = 7 then
      s8.forChains fun t c => drainChain t c (1000 * s.pwr.hibLast)
    else s8
  s9.forChains fun t c => refreshVeneer (refreshSoc t c) c

/-- The drain that an epoch change has left to the Spline time (R242). -/
def lateDrain (s : State) (c : ChainId) : State :=
  match (s.es c).drainFrom with
  | none => s
  | some t =>
    let ms := (s.tim.time - t) / msNs
    refreshSoc ((drainChain s c ms).onEs c fun e => { e with drainFrom := none }) c

/-! ### HE restores the shutdowns (R264) -/

/-- A shutdown record of a chain that no release has ended; a record whose copies both fail is ignored (R263). -/
def State.openTill (s : State) (c : ChainId) (r : TillRec) : Bool :=
  r.kind == 1 && r.chain == c.num && !s.tillReleased r && r.bad != 3

/-- Events 0x500E for the copies whose digest fails. -/
def badCopies (s : State) : State :=
  s.thm.tills.foldl (fun t r =>
    let t1 := if r.bad.getLsbD 0 then logEvent t 0x500E (2 * r.pos) else t
    if r.bad.getLsbD 1 then logEvent t1 0x500E (2 * r.pos + 1) else t1) s

/-- A chain starts in the shutdowns that a latch or a record gives it. A latch without a record leaves every kind of
sensor to judge the release. -/
def restoreShutdown (s : State) (c : ChainId) : State :=
  let mine := s.thm.tills.filter (s.openTill c)
  let hotRecs := (mine.filter fun r => r.cause != 2).map (·.cause)
  let hot := !hotRecs.isEmpty || (match c with
    | .a => s.thm.latHotA
    | .b => s.thm.latHotB)
  let cold := (mine.any fun r => r.cause == 2) || (match c with
    | .a => s.thm.latColdA
    | .b => s.thm.latColdB)
  let causes := if hot then (if hotRecs.isEmpty then [1, 3, 4] else hotRecs.eraseDups) else []
  let s1 := s.onThm fun t => match c with
    | .a => { t with sdHotA := hot, sdColdA := cold, latHotA := hot, latColdA := cold, causeA := causes }
    | .b => { t with sdHotB := hot, sdColdB := cold, latHotB := hot, latColdB := cold, causeB := causes }
  if hot || cold then shutChain s1 c else s1

/-! ### Boot -/

/-- Loads and scan follow the stages in force at the release (R330, R333). -/
def applyStages (s : State) : State :=
  let s1 := if s.pwr.s1 then shedLoads s else s
  if s.pwr.s2 then s1.onThm fun t => { t with held := true } else startBus s1

/-- Measurement and counters of a start-up (R346, R347): the digests of a booted slot, none without one. -/
def measureBoot (s : State) (slot : Option Bool) : State :=
  let f := match slot with
    | none => fun _ => 0#8
    | some b => s.slotBytes b
  let fw (xs : List Section) (n : Nat) : BitVec 256 := match findSection xs (0x10 + n) with
    | none => 0
    | some x => x.digest
  s.onSec fun x =>
    { x with
      cntBoot := (x.stored.1 + 1) % 2 ^ 32
      cntGlue := x.stored.2.1
      cntAttest := x.stored.2.2.1
      cntRoll := x.stored.2.2.2
      cntDue := true
      imgDigest := if slot.isSome then Config.sm3 (bytesAt f 0 (sigOffset f)) else 0
      fwDigests := if slot.isSome then Vector.ofFn fun n => fw (sectionsOf f) n.val else Vector.replicate 8 0 }

/-- What every start-up logs: the reset, and a loss of the plinth domain (R331, R325). -/
def logStart (s : State) : State :=
  let s1 := if s.pwr.rstLogged then s
    else logEvent (s.onPwr fun p => { p with rstLogged := true }) 0x8005 s.pwr.rstKind s.pwr.rstCause
  if s.pwr.vbakLog then logEvent (s1.onPwr fun p => { p with vbakLog := false }) 0x8009 else s1

/-- A role clash that a cold reset has found stands again (R16): both legs with cause 8, no token. -/
def restoreClash (s : State) : State :=
  if s.dvt.clashHeld && !s.simplex then
    ((s.onArm fun a => { a with roleClash := true }).onDvt fun d => { d with st := .clash }).onGlk fun g =>
      { g with legA := { g.legA with cause := 8 }, legB := { g.legB with cause := 8 } }
  else s

/-- Boot of a slot: its image is in force, the engines run with their restored records, the ring start begins. -/
def bootSlot (s : State) (b : Bool) : State :=
  let im := imageOf (s.slotBytes b)
  let s1 := (s.onImg fun i => { i with active := some im, fallback := b != i.activeSlot }).onDev fun d =>
    { d with phase := .starting, serialLoaded := true }
  let line := s1.lineShown
  let s2 := (setEngines s1 .running).onSpl fun x => { x with boundB := im.inlay.cycle + 14, dLine := line }
  let s3 := (logStart (measureBoot s2 (some b))).onDvt fun d =>
    { d with
      st := if s2.simplex then .simplex else if d.up then .tracking else .linkDown
      beating := !s2.simplex
      healthy := !s2.simplex && !s2.pwr.s4 }
  let s4 := send (send s3 (.ordered .e s3.hello)) (.ordered .w s3.hello)
  applyStages ((badCopies (restoreRecords (restoreClash s4))).forChains restoreShutdown)

/-- No slot passes (R61). -/
def bootNone (s : State) : State :=
  logEvent (logStart (measureBoot (s.onDev fun d => { d with phase := .noImage, serialLoaded := true }) none)) 0xB00C 0

/-- BOOT_SLOT_VERIFY_COMPLETE (R60, R61): the slot marked active, then the other one. A write that a reset found in
progress has ended by now (R330). -/
def execBootSlotVerifyComplete (s0 : State) : Res :=
  match s0.dev.phase with
  | .booting =>
    let s := finishWrite s0
    let b := s.img.activeSlot
    match bootCheck s b with
    | none => .next (bootSlot s b)
    | some v =>
      let s1 := logEvent s 0xB00B v.code
      if (bootCheck s (!b)).isNone then .next (bootSlot s1 (!b)) else .next (bootNone s1)
  | .held | .starting | .ready | .noImage | .warm | .glueRestart | .hibernating => .next s0

/-! ### Ring-ready -/

/-- The ring start of Table 04.2 is complete: position, time, and the ring's tag equal to the active one. -/
def State.ringStarted (s : State) : Bool :=
  s.dev.phase == .starting && s.spl.posValid && !s.spl.posConflict && s.tim.timeValid && !s.spl.silent
    && (match s.spl.lastArm with
      | none => false
      | some f => f.ringTag == s.activeTag)

/-- Channels that DEFAULT_ON switches on: valves and fans (Table 12.2). -/
def State.defaultChannels (s : State) : List (Fin 12) :=
  (List.finRange 12).filter fun n =>
    (s.lswClass n == 2 || s.lswClass n == 4) && (BitVec.ofNat 12 s.im.defaultOn).getLsbD n.val

/-- BYP_STAT is read at every start-up (R21): a vacuum bypass switch found closed keeps the cell BYPASSED and BYP_CLOSE
asserted. Found open, BYP_CLOSE stays as it was: only a power-on reset has cleared it (R144). -/
def readBypass (s : State) : State :=
  let s1 := s.onGlk fun g => { g with statClosed := s.dev.bypStatLow }
  if s.dev.bypStatLow && !s.chainPair then
    publishState ((s1.onArm fun a => { a with bypassed := true }).onGlk fun g =>
      { g with closeAsserted := true, closeDue := none, fireHold := false }) .bypassed
  else s1

/-- The sentinels of the declared chains are woken by the start-up sequence (R193). -/
def wakeChains (s : State) : State :=
  s.forChains fun t c => if t.arm.owner && (t.sen c).stage == .asleep then (opSnaWake c t).1 else t

/-- RING_READY (R15, R21, Tables 04.2 and 14.6): event 0x8006 with the time since the release. -/
def execRingReady (s : State) : Res :=
  if s.ringStarted then
    let t0 := max s.dev.vsysValidAt s.pwr.resetAt
    let s1 := (s.onDev fun d => { d with phase := .ready, extestSeen := true }).onSpl fun x => { x with ringReady := true }
    let s2 := claimToken ((readBypass s1).forChains lateDrain)
    let s3 := s2.defaultChannels.foldl (fun t n => setWant t n true) s2
    let s4 := logWide s3 0x8006 ((s.clock - t0) / msNs)
    .next (refreshLoads (refreshBridge (wakeChains s4)))
  else .next s

/-- MEMBER_B_TOKEN_WAIT_EXPIRY (R15): no heartbeat of member A in 200 ms. -/
def execMemberBTokenWaitExpiry (s : State) : Res :=
  if due s.clock s.dvt.waitTake && s.dev.member && s.dev.phase == .ready && !s.arm.owner then .next (wakeChains (takeFirst s))
  else .next s

end Sys2Proof.Machine
end

