-- ==== Sys2Proof/Machine/Security.lean ====
section
/-! DEFINITION. Identity, attestation, enrolment, the service port's frames and JTAG (spec/15): rows 185 to 189 and 191
to 195. -/

set_option Elab.async false

namespace Sys2Proof

/-- Instruction code (Table 15.9). -/
def JtagInstr.code : JtagInstr → Nat
  | .extest => 0x00
  | .idcode => 0x01
  | .sample => 0x02
  | .regacc => 0x10
  | .debug => 0x11
  | .bypass => 0x3F

end Sys2Proof

namespace Sys2Proof.Machine

/-- SEC_CMD. -/
def secCmdAddr : Word := 0x00100004

/-! ### Attestation (R347, R348) -/

/-- The active image grants rights beyond the lifecycle defaults (R342). -/
def State.escExcess (s : State) : Bool :=
  match s.img.active with
  | none => false
  | some im => (escBad s.sec.life im.esc).isSome

/-- SEC_CMD ATTEST (R348): refused while SE signs, while a counter write is pending, without write-permit, in
MANUFACTURE and DECOMMISSIONED and while SE is halted. -/
def opAttest (s : State) : RegRes :=
  if s.sec.attest = 1 || s.sec.cntDue || !s.writePermit || s.sec.life = 0 || s.sec.life = 3 || s.seHalted then (s, 0x04)
  else
    let now := s.clock
    (s.onSec fun x => { x with attest := 1, attestAt := now, report := [] }, 0x00)

/-- SEC_CMD_ATTEST. -/
def execSecCmdAttest (p : Requester) (s : State) : Res :=
  .next (regCmd s p fun s => withRight s p .read secCmdAddr opAttest)

/-- A number in n bytes, high byte first. -/
def bigBytes (n v : Nat) : List Byte := (natBytes n v).reverse

/-- FLAGS of the report. -/
def State.reportFlags (s : State) : Nat :=
  let b (x : Bool) (n : Nat) : Nat := if x then 2 ^ n else 0
  b s.img.activeSlot 0 + b s.img.fallback 1 + b s.eng.peLs 2 + b s.escExcess 3 + b s.dev.member 4

/-- Bytes 0 to 415 of the report of Table 15.4, with n as the ATTEST counter. -/
def State.reportBody (s : State) (n : Nat) : List Byte :=
  let zero (k : Nat) : List Byte := List.replicate k 0#8
  [0x51#8, 0x5A#8, 0x41#8, 0x54#8] ++ natBytes 2 1 ++ natBytes 2 480
    ++ (s.sec.nonce.toList.map fun w => natBytes 4 w.toNat).flatten
    ++ natBytes 2 (if s.spl.posValid then s.deviceId else 0x1FFF) ++ natBytes 1 s.sec.life ++ natBytes 1 s.reportFlags
    ++ zero 4 ++ bigBytes 20 (Config.certSerial s.sec.devCert) ++ zero 12
    ++ natBytes 32 s.sec.imgDigest.toNat
    ++ (s.sec.fwDigests.toList.map fun d => natBytes 32 d.toNat).flatten
    ++ natBytes 4 s.sec.cntBoot ++ natBytes 4 s.sec.cntGlue ++ natBytes 4 n ++ natBytes 4 s.sec.cntRoll
    ++ natBytes 4 s.img.floor ++ zero 4 ++ natBytes 8 s.tim.time ++ zero 16

/-- The signature in its 64 bytes. -/
def signature (body : List Byte) : List Byte := (List.range 64).map fun i => (Config.signReport body).getD i 0#8

/-- ATTEST_SIGNED (R348): the report is readable, its counter rises, event 0x9005. No report is signed while a counter
write is pending. -/
def execAttestSigned (s : State) : Res :=
  if s.sec.attest = 1 && !s.sec.cntDue && !s.seHalted then
    let n := (s.sec.cntAttest + 1) % 2 ^ 32
    let body := s.reportBody n
    let us := min ((s.clock - s.sec.attestAt) / usNs) 65535
    .next (logEvent (s.onSec fun x =>
      { x with attest := 2, elapsed := us, report := body ++ signature body, cntAttest := n, cntDue := true }) 0x9005
      (n % 65536))
  else .next s

/-- SEC_COUNTER_WRITE (R347). -/
def execSecCounterWrite (s : State) : Res :=
  if s.sec.cntDue && s.writePermit && !s.seHalted then
    .next (s.onSec fun x => { x with stored := (x.cntBoot, x.cntGlue, x.cntAttest, x.cntRoll), cntDue := false })
  else .next s

/-! ### Lifecycle and enrolment (R342 to R345) -/

/-- STEP_FIELD (R342): event 0x9001 with the new state, or 0x9003 with the result that a refusal stands for. -/
def opStepField (s : State) : RegRes :=
  if s.sec.life ≠ 1 || s.sec.opCert.isEmpty || s.sec.root.isEmpty then (logEvent s 0x9003 0 5, 0x04)
  else if !s.writePermit then (logEvent s 0x9003 0 6, 0x04)
  else (logEvent (s.onSec fun x => { x with life := 2 }) 0x9001 2, 0x00)

/-- SEC_CMD_STEP_FIELD: on the service port alone. -/
def execSecCmdStepField (p : Requester) (s : State) : Res :=
  .next (regCmd s p fun s =>
    if p == .service then withRight s p .identity secCmdAddr opStepField else (deny s p .identity secCmdAddr, 0x02))

/-- Bytes of an object as the parser of Table 15.3 reads them. -/
def objBytes (o : List Byte) : Bytes := fun i => o.getD i 0#8

/-- CERT of an object. -/
def objCert (o : List Byte) : List Byte := (o.drop 44).take (leAt (objBytes o) 40 2)

/-- The object is laid out as in Table 15.3, with certificates of the kinds that R345 asks for. -/
def objForm (o : List Byte) : Bool :=
  let f := objBytes o
  let kind := leAt f 0 1
  let n := leAt f 40 2
  let rolls := decide (3 ≤ kind)
  let cert := objCert o
  decide (1 ≤ kind ∧ kind ≤ 5) && zeroAt f 1 3 && zeroAt f 42 2
    && o.length == 44 + n + (if rolls then 64 else 0)
    && (if kind = 5 then n == 0 else decide (1 ≤ n ∧ n ≤ 2048) && Config.certForm cert)
    && (!(kind == 2 || kind == 4) || Config.rootForm cert)
    && (rolls || zeroAt f 4 36)

/-- The cell and its chains allow a decommission (R343). -/
def State.mayRetire (s : State) : Bool :=
  (s.arm.cell == .off || s.arm.cell == .bypassed)
    && s.chains.all fun c => (s.chain c).st == .absent || ((s.chain c).st == .block && (s.chain c).opened)

/-- The ENROL_RESULT of an object: 1 when SE accepts it (R345). -/
def State.enrolResult (s : State) (o : List Byte) : Nat :=
  let f := objBytes o
  let kind := leAt f 0 1
  let n := leAt f 40 2
  if !objForm o then 2
  else if kind ≤ 2 then
    if s.sec.life ≠ 1 then 5 else if !s.writePermit then 6 else 1
  else if s.sec.life ≠ 2 || (kind == 5 && !s.mayRetire) then 5
  else if digestAt f 8 != Config.sm3 s.sec.devCert || leAt f 4 4 ≠ s.sec.cntRoll + 1 then 4
  else if !Config.sm2Verify (o.take (44 + n)) ([0x51#8, 0x5A#8, 0x2D#8, 0x45#8, 0x4E#8, 0x52#8, 0x4F#8, 0x4C#8])
      ((o.drop (44 + n)).take 64) s.sec.opCert then 3
  else if !s.writePermit then 6
  else 1

/-- What an accepted object writes (R343, R345). A decommission's count is stored before its reset. -/
def enrol (s : State) (o : List Byte) : State :=
  let kind := leAt (objBytes o) 0 1
  let cert := objCert o
  let s1 := s.onSec fun x =>
    let y := { x with enrol := 1 }
    let z := if kind < 3 then y else { y with cntRoll := y.cntRoll + 1, cntDue := true }
    match kind with
    | 1 | 3 => { z with opCert := cert }
    | 2 | 4 => { z with root := cert }
    | _ => { z with
        devKey := false
        opCert := []
        root := []
        life := 3
        stored := (z.stored.1, z.stored.2.1, z.stored.2.2.1, z.cntRoll) }
  let s2 := logEvent s1 0x9002 kind
  if kind = 5 then logEvent (s2.onImg fun i => { i with slotA := [], slotB := [] }) 0x9001 3 else s2

/-- ACK of the service port (Table 15.8). -/
def ack (s : State) (status : Nat) : State := send s (.service (.ack (BitVec.ofNat 8 status) 0))

/-- ENROLMENT_OBJECT (R345, R343): answered with ACK; kinds 1 and 2 need the IDENTITY right. DESIGN CHOICE: 0x07 for
the format, 0x04 for every other refusal; the cold reset of a decommission has the cause of PWR_CMD COLD (log entry
33). The previous request that R353 repeats an answer of is then this object. -/
def execEnrolmentObject (object : List Byte) (s : State) : Res :=
  let kind := leAt (objBytes object) 0 1
  let s0 := s.onSec fun x => { x with svcSeq := none, svcAns := none }
  if !s.portOpen .service then .next s
  else if s.seHalted then .next (ack s0 0x04)
  else if (kind = 1 || kind = 2) && !s.right .service .identity noAddr then
    .next (ack (deny s0 .service .identity noAddr) 0x02)
  else
    let r := s.enrolResult object
    if r = 1 then
      let t := ack (enrol s0 object) 0x00
      .next (if kind = 5 then coldReset t 5 else t)
    else
      .next (ack (logEvent (s0.onSec fun x => { x with enrol := r }) 0x9003 kind r) (if r = 2 then 0x07 else 0x04))

/-! ### Service frames (R353) -/

/-- A request of the service port with its SEQ and content: one that repeats the previous request gets the previous
answer again and is not executed twice. -/
def serviceRequest (s : State) (seq : Nat) (content : List Byte) (run : State → State × SvcFrame) : State :=
  if !s.portOpen .service then s
  else
    let r := run s
    let fresh :=
      if r.1.dev.phase == s.dev.phase then
        send (r.1.onSec fun x => { x with svcSeq := some (seq, content), svcAns := some r.2 }) (.service r.2)
      else r.1
    match s.sec.svcAns with
    | some a => if s.sec.svcSeq == some (seq, content) then send s (.service a) else fresh
    | none => fresh

/-- SVC_BULK (R353, R48): a staging chunk; the other streams flow from the device only. -/
def execSvcBulk (seq stream off : Nat) (data : List Byte) (s : State) : Res :=
  .next (serviceRequest s seq (3#8 :: natBytes 1 stream ++ natBytes 4 off ++ data) fun s =>
    if stream = 1 then serviceChunk off data s else (s, .ack 7#8 0))

/-- SVC_FRAME_GAP_TIMEOUT (R353): the frame is discarded; event 0x9007 with cause 1. -/
def execSvcFrameGapTimeout (s : State) : Res :=
  if s.portOpen .service then .next (logEvent s 0x9007 1) else .next s

/-- SVC_FRAME_CRC_FAIL (R353): NAK, a count, and event 0x9007 with cause 0. -/
def execSvcFrameCrcFail (seq : Nat) (s : State) : Res :=
  if s.portOpen .service then
    .next (logEvent (send (s.onSec fun x => { x with svcBad := bump 16 x.svcBad }) (.service (.nak seq))) 0x9007 0)
  else .next s

/-! ### JTAG (R354) -/

/-- The TAP has power. -/
def State.tapRuns (s : State) : Bool := s.dev.phase != .held && s.dev.phase != .hibernating

/-- JTAG_TAP_RESET (R354, R342): IDCODE; the lifecycle state takes effect for JTAG. -/
def execJtagTapReset (s : State) : Res :=
  if s.tapRuns then .next (s.onSec fun x => { x with jtag := .idcode, jtagLogged := false, jtagLife := x.life }) else .next s

/-- Table 15.9. -/
def State.jtagPermits (s : State) : JtagInstr → Bool
  | .idcode | .sample | .bypass => true
  | .extest => s.sec.jtagLife == 0 || (s.sec.jtagLife == 1 && !s.dev.extestSeen)
  | .regacc | .debug => s.sec.jtagLife == 0

/-- JTAG_INSTRUCTION (R354): one that the state does not permit executes as BYPASS, with event 0x9006 once per TAP
reset. -/
def execJtagInstruction (i : JtagInstr) (s : State) : Res :=
  if !s.tapRuns then .next s
  else if s.jtagPermits i then .next (s.onSec fun x => { x with jtag := i })
  else
    let s1 := s.onSec fun x => { x with jtag := .bypass, jtagLogged := true }
    .next (if s.sec.jtagLogged then s1 else logEvent s1 0x9006 i.code)

end Sys2Proof.Machine
end

