-- ==== Sys2Proof/Machine/Maintenance.lean ====
section
/-! DEFINITION. Maintenance activities and their locks (spec/15 R355 to R359): rows 196 to 206 and 220. -/

set_option Elab.async false

namespace Sys2Proof

/-- Right that starts an activity (Table 15.10). -/
def ActCode.right : ActCode → OpClass
  | .learn | .heaterTest => .operate
  | .sentUpdate => .configure
  | .gateTest | .jig | .precharge | .contTest => .test
  | .recordExport => .read

/-- Resources that an activity locks (Tables 15.10, 15.11). -/
def ActCode.res (code : ActCode) (c : ChainId) : BitVec 10 :=
  match code with
  | .learn | .sentUpdate => BitVec.ofNat 10 (2 ^ (8 + c.num))
  | .gateTest | .jig => 0x30#10
  | .precharge => BitVec.ofNat 10 (2 ^ c.num + 2 ^ (2 + c.num) + 2 ^ 5)
  | .contTest => BitVec.ofNat 10 (2 ^ c.num + 2 ^ (2 + c.num))
  | .heaterTest => 0x40#10
  | .recordExport => 0x80#10

/-- ACT_TIMEOUT ends the activity (R357). -/
def ActCode.timed : ActCode → Bool
  | .gateTest | .jig | .precharge | .contTest | .heaterTest => true
  | .learn | .sentUpdate | .recordExport => false

end Sys2Proof

namespace Sys2Proof.Machine

/-- MNT_START. -/
def mntStartAddr : Word := 0x00110008

/-- MNT_STOP. -/
def mntStopAddr : Word := 0x0011000C

/-! ### Starting (R356) -/

/-- Modules whose sentinel configuration an activity locks. -/
def State.actMask (s : State) (p : Requester) : ActCode → Word
  | .learn => s.modIdx.foldl (fun a m => a ||| BitVec.ofNat 32 (2 ^ m.val)) 0
  | .sentUpdate => s.mnt.argMask[p.idx]
  | .gateTest | .jig | .precharge | .contTest | .heaterTest | .recordExport => 0

/-- The slot's activity holds resource r; of a sentinel configuration, for a common module. -/
def Activity.holds (v : Activity) (r : Nat) (mask : Word) : Bool :=
  v.res.getLsbD r && (decide (r < 8) || (v.mask &&& mask) != 0)

/-- The first resource in conflict, with its holder's slot and activity. -/
def State.holder (s : State) (res : BitVec 10) (mask : Word) : Option (Nat × Fin 4 × Activity) :=
  (List.range 10).findSome? fun r =>
    if !res.getLsbD r then none
    else (List.finRange 4).findSome? fun i => match s.mnt.acts[i] with
      | none => none
      | some v => if v.holds r mask then some (r, i, v) else none

/-- A start is refused for a lock: MNT_REFUSED of the port, event 0xC002, status 0x05. -/
def refuseLocked (s : State) (p : Requester) (code : ActCode) (h : Nat × Fin 4 × Activity) : RegRes :=
  let v := h.2.2
  let w : Word := BitVec.ofNat 32
    (code.num * 2 ^ 24 + h.1 * 2 ^ 20 + h.2.1.val * 2 ^ 16 + v.port.num * 2 ^ 8 + v.code.num)
  (logEvent (s.onMnt fun m => { m with refused := m.refused.set p.idx w }) 0xC002 code.num h.2.1.val
    (v.code.num + v.port.num * 2 ^ 8), 0x05)

/-- The lowest free slot. -/
def State.freeSlot (s : State) : Option (Fin 4) := (List.finRange 4).find? fun i => s.mnt.acts[i].isNone

/-- A start request behind its right: refused for a lock, for want of a slot or of its preconditions, or by the
tracking member; otherwise admitted with event 0xC001. A lock of R53 ends the READY of a structural glue-up at once
(R55). -/
def admitAct (s : State) (p : Requester) (code : ActCode) (c : ChainId) (m : Fin 32) (pre : Bool)
    (begins : State → State) : RegRes :=
  let mask := s.actMask p code
  match s.holder (code.res c) mask with
  | some h => refuseLocked s p code h
  | none =>
    match s.freeSlot with
    | none => (s, 0x04)
    | some i =>
      if !s.arm.owner || !pre then (s, 0x04)
      else
        let v : Activity :=
          { code := code
            port := p
            chain := c
            mod := m
            res := code.res c
            startedAt := s.clock
            timeout := if code.timed then some (s.clock + secNs * s.im.actTimeout) else none
            mask := mask
            answered := 0
            value := s.mnt.argValue[p.idx] }
        (begins (watchReady (logEvent (s.onMnt fun t => { t with acts := t.acts.set i (some v) }) 0xC001 code.num p.num i.val)),
          0x00)

/-- LEARN (R176): the cycle begins with FILL, in the first half of the wave. -/
def opMntLearn (p : Requester) (c : ChainId) (m : Fin 32) (s : State) : RegRes :=
  let r := (s.chain c).mods[m]
  let pre := s.declared c && (s.chain c).st == .run && r.st != .parked && !r.lost
  if s.declared c && decide (s.nMods ≤ m.val) then (s, 0x07)
  else admitAct s p .learn c m pre fun s =>
    let half := s.clock + msNs * s.im.learnPeriod c / 2
    let soc := s.socDis c m
    learnPhase (s.onChain c fun ch =>
      { ch with
        learnOn := true
        order := ch.order.filter (· != m)
        learn := { ({} : LearnRec) with target := m, pos := true, halfDue := some half, startSoc := soc } }) c 1

/-- MNT_START_LEARN. -/
def execMntStartLearn (p : Requester) (c : ChainId) (m : Fin 32) (s : State) : Res :=
  .next (regCmd s p fun s => withRight s p .operate mntStartAddr (opMntLearn p c m))

/-- The declared modules that a mask names. -/
def State.named (s : State) (mask : Word) : List (Fin 32) := s.modIdx.filter fun m => mask.getLsbD m.val

/-- SENT_UPDATE: one CONFIG item to the named modules; F_MOD in ABSENT and BLOCK alone (R192). -/
def opMntSentUpdate (p : Requester) (c : ChainId) (m : Fin 32) (s : State) : RegRes :=
  let arg := s.mnt.argValue[p.idx].toNat
  let item := arg / 65536 % 256
  let value := arg % 65536
  let blocked := (s.chain c).st == .absent || (s.chain c).st == .block
  let pre := s.declared c && (s.sen c).stage == .enumerated && (item == 3 || item == 6 || (item == 2 && blocked))
  admitAct s p .sentUpdate c m pre fun s =>
    let s1 := match item with
      | 2 => s.onChain c fun ch => { ch with fMod := value }
      | 3 => s.onSen c fun x => { x with filterNext := some (value % 4, value / 256) }
      | _ => s
    (s.named s.mnt.argMask[p.idx]).foldl (fun t m => sendSrq t c m 2 (cfgItem item value)) s1

/-- MNT_START_SENT_UPDATE. -/
def execMntStartSentUpdate (p : Requester) (c : ChainId) (m : Fin 32) (s : State) : Res :=
  .next (regCmd s p fun s => withRight s p .configure mntStartAddr (opMntSentUpdate p c m))

/-- The cell and its mode allow a GATE_TEST. -/
def State.gateTestMay (s : State) : Bool :=
  (s.arm.cell == .off || s.arm.cell == .ready || s.arm.cell == .blocked)
    && s.arm.mode != .run && s.arm.mode != .dcFaultRide

/-- GATE_TEST: R141 runs once its own start conditions hold. -/
def opMntGateTest (p : Requester) (c : ChainId) (m : Fin 32) (s : State) : RegRes :=
  admitAct s p .gateTest c m s.gateTestMay id

/-- MNT_START_GATE_TEST. -/
def execMntStartGateTest (p : Requester) (c : ChainId) (m : Fin 32) (s : State) : Res :=
  .next (regCmd s p fun s => withRight s p .test mntStartAddr (opMntGateTest p c m))

/-- JIG (R145). -/
def opMntJig (p : Requester) (c : ChainId) (m : Fin 32) (s : State) : RegRes :=
  admitAct s p .jig c m (s.arm.mode == .block && s.spl.urgLatch == .none) id

/-- MNT_START_JIG. -/
def execMntStartJig (p : Requester) (c : ChainId) (m : Fin 32) (s : State) : Res :=
  .next (regCmd s p fun s => withRight s p .test mntStartAddr (opMntJig p c m))

/-- PRECHARGE: a connection that ends in an opening. -/
def opMntPrecharge (p : Requester) (c : ChainId) (m : Fin 32) (s : State) : RegRes :=
  admitAct s p .precharge c m (s.declared c && s.canConnect c && s.arm.mode == .block) fun s => startConnect s c true

/-- MNT_START_PRECHARGE. -/
def execMntStartPrecharge (p : Requester) (c : ChainId) (m : Fin 32) (s : State) : Res :=
  .next (regCmd s p fun s => withRight s p .test mntStartAddr (opMntPrecharge p c m))

/-- CONT_TEST: an opening with its weld tests, so V_CAP has to reach WELD_DV + 100 V. -/
def opMntContTest (p : Requester) (c : ChainId) (m : Fin 32) (s : State) : RegRes :=
  let ch := s.chain c
  admitAct s p .contTest c m (s.declared c && ch.st == .block && s.quiet c && ch.closed && !s.lowCap c)
    fun s => startOpening s c

/-- MNT_START_CONT_TEST. -/
def execMntStartContTest (p : Requester) (c : ChainId) (m : Fin 32) (s : State) : Res :=
  .next (regCmd s p fun s => withRight s p .test mntStartAddr (opMntContTest p c m))

/-- No heater is under test before the first one of a list is switched on alone, for HEATER_TEST_ON. -/
def testHeater (s : State) : List (Fin 12) → State
  | [] => s.onMnt fun m => { m with heatTest := none }
  | n :: _ =>
    let t := s.clock + secNs * s.im.heaterTestOn
    setHeater (s.onMnt fun m => { m with heatTest := some (n, t) }) n .forcedOn

/-- HEATER_TEST: all heaters off, then each alone in channel order. -/
def opMntHeaterTest (p : Requester) (c : ChainId) (m : Fin 32) (s : State) : RegRes :=
  let shut := s.thm.sdHotA || s.thm.sdHotB || s.thm.sdColdA || s.thm.sdColdB
  admitAct s p .heaterTest c m (!shut && !s.pwr.s1) fun s =>
    let s1 := s.heaters.foldl (fun t n => if heatOnSt t.thm.heat[n] then setHeater t n .off else t) s
    testHeater (s1.onThm fun t => { t with heatDue := [] }) s.heaters

/-- MNT_START_HEATER_TEST. -/
def execMntStartHeaterTest (p : Requester) (c : ChainId) (m : Fin 32) (s : State) : Res :=
  .next (regCmd s p fun s => withRight s p .operate mntStartAddr (opMntHeaterTest p c m))

/-! ### Export (R373) -/

/-- Every entry held, oldest first: the NVM log, then what is not copied yet. -/
def Evt.held (e : Evt) : List Event :=
  if e.nvm.isEmpty then e.sram.reverse else e.nvm.reverse ++ (e.sram.take e.pending).reverse

/-- Stream 2 as runs of consecutive entries, each at 16 × (its first sequence − the starting sequence). -/
def eventRuns (start : Nat) : List Event → List (Nat × Nat × List Byte)
  | [] => []
  | x :: xs =>
    let off := 16 * ((x.seq + 2 ^ 32 - start) % 2 ^ 32)
    match eventRuns start xs with
    | [] => [(2, off, x.bytes)]
    | (st, o, bytes) :: rest =>
      if o = off + 16 then (2, off, x.bytes ++ bytes) :: rest else (2, off, x.bytes) :: (st, o, bytes) :: rest

/-- Send the runs of an export whole, in chunks of n bytes: towards the service port, which has no slots. -/
def sendRuns (n fuel : Nat) (q : List (Nat × Nat × List Byte)) (s : State) : State :=
  match fuel with
  | 0 => s
  | k + 1 =>
    match takeChunk n q with
    | none => s
    | some (x, rest) => sendRuns n k rest (send s (.bulk x.1 x.2.1 x.2.2.1 x.2.2.2))

/-- RECORD_EXPORT: towards the Spline, chunk by chunk in the own BULK slots; towards the service port at once. -/
def opMntRecordExport (p : Requester) (c : ChainId) (m : Fin 32) (s : State) : RegRes :=
  admitAct s p .recordExport c m (p == .spline || p == .service) fun s =>
    let xs := s.evt.held
    let runs := eventRuns ((xs.head?.map (·.seq)).getD 0) xs ++ [(3, 0, Config.recordStream s.free)]
    let s1 := (nextFree s).onMnt fun t => { t with exported := (xs.head?.map (·.seq)).getD 0 }
    if p == .service then
      sendRuns 4080 ((runs.foldl (fun a x => a + x.2.2.length) 0) + runs.length) runs s1
    else s1.onMnt fun t => { t with exportQ := runs }

/-- MNT_START_RECORD_EXPORT. -/
def execMntStartRecordExport (p : Requester) (c : ChainId) (m : Fin 32) (s : State) : Res :=
  .next (regCmd s p fun s => withRight s p .read mntStartAddr (opMntRecordExport p c m))

/-! ### Ending (R357) -/

/-- MNT_STOP: the starting port with its start right, or the service port with CLEAR. A free slot has nothing to end
(DESIGN CHOICE, log entry 34). -/
def opMntStop (p : Requester) (slot : Fin 4) (s : State) : RegRes :=
  match s.mnt.acts[slot] with
  | none => (s, 0x00)
  | some v =>
    if v.port == p && s.right p v.code.right mntStopAddr then (endAct s 1 slot, 0x00)
    else if p == .service then withRight s p .clear mntStopAddr fun s => (endAct s 1 slot, 0x00)
    else if v.port == p then (deny s p v.code.right mntStopAddr, 0x02)
    else (s, 0x01)

/-- MNT_STOP. -/
def execMntStop (p : Requester) (slot : Fin 4) (s : State) : Res := .next (regCmd s p (opMntStop p slot))

/-- ACT_TIMEOUT_EXPIRY (R357): of codes 3 to 7. -/
def execActTimeoutExpiry (slot : Fin 4) (s : State) : Res :=
  match s.mnt.acts[slot] with
  | none => .next s
  | some v => if due s.clock v.timeout then .next (endAct s 2 slot) else .next s

/-- What Table 15.10 calls the completion of an activity. -/
def State.actDone (s : State) (v : Activity) : Bool :=
  let ch := s.chain v.chain
  match v.code with
  | .learn => !ch.learnOn
  | .sentUpdate => (s.named v.mask).all fun m => v.answered.getLsbD m.val
  | .gateTest => v.answered != 0
  | .jig => false
  | .precharge | .contTest => ch.st == .block && ch.opened
  | .heaterTest => s.mnt.heatTest.isNone
  | .recordExport => s.mnt.exportQ.isEmpty && !s.spl.frozen.any fun f => f.bulk.isSome

/-- ACTIVITY_COMPLETE (R357). -/
def execActivityComplete (slot : Fin 4) (s : State) : Res :=
  match s.mnt.acts[slot] with
  | none => .next s
  | some v => if s.actDone v then .next (endAct s 0 slot) else .next s

/-- HEATER_TEST_CHANNEL_END (R355): the channel goes off, the next one is switched on alone. -/
def execHeaterTestChannelEnd (s : State) : Res :=
  match s.mnt.heatTest with
  | none => .next s
  | some (n, t) =>
    if t ≤ s.clock then .next (testHeater (setHeater s n .off) (s.heaters.filter fun k => decide (n.val < k.val)))
    else .next s

end Sys2Proof.Machine
end

