-- ==== Sys2Proof/Machine/Protection.lean ====
section
/-! DEFINITION. Protection (spec/11 R266 to R280, R288, R396): the protection engine's assessment, comparators,
trip pins, release and clearing of reactions, and the station's bypass request. Rows 68, 78 to 87 and 212. -/

set_option Elab.async false

namespace Sys2Proof.Machine

/-- PE runs. -/
def State.peRuns (s : State) : Bool := s.eng.state[EngineId.pe.idx] == .running

/-- The protection plane acts: with an image, outside cold and power-on resets and hibernation (Table 02.4, Table
14.4). -/
def State.planeRuns (s : State) : Bool := (s.outOfReset || s.dev.phase == .warm) && s.img.active.isSome

/-! ### Sources that PE assesses (Table 11.5) -/

/-- Source 0x21 on a chain: a cell beyond its hard limits in 3 consecutive sample sets. -/
def State.cond21 (s : State) (c : ChainId) : Bool :=
  s.modIdx.any fun m => (s.sen c).recs[m].hardRuns.toList.any fun n => decide (3 ≤ n)

/-- Source 0x23 on a chain: more than half its modules have missed SILENT_SAMPLES strobes. -/
def State.cond23 (s : State) (c : ChainId) : Bool :=
  (s.sen c).stage == .enumerated
    && decide (s.nMods < 2 * (s.modIdx.filter fun m => decide (s.im.silentSamples c ≤ (s.sen c).recs[m].misses)).length)

/-- Sum of VMOD over modules neither PARKED nor lost, mV. -/
def State.vmodSum (s : State) (c : ChainId) : Nat :=
  (s.modIdx.filter fun m => (s.chain c).mods[m].st != .parked && !(s.chain c).mods[m].lost).foldl
    (fun a m => a + 2 * ((s.sen c).recs[m].vmod.getD 0)) 0

/-- Source 0x24 on a chain: its blocking margin is lost. -/
def State.cond24 (s : State) (c : ChainId) : Bool :=
  (s.chain c).closed && (s.sen c).stage == .enumerated && (match s.vCapMv with
    | none => false
    | some v => decide (s.vmodSum c < v))

/-- Every module that is not PARKED is commanded BLOCK. -/
def State.allBlocked (s : State) (c : ChainId) : Bool :=
  s.modIdx.all fun m => (s.chain c).mods[m].st == .block || (s.chain c).mods[m].st == .parked

/-- Current flows in a blocked chain. -/
def State.blockedCurrent (s : State) (c : ChainId) : Bool :=
  s.allBlocked c && (match (s.chain c).iMeas with
    | none => false
    | some i => decide (s.im.iZero c < 10 * i.natAbs))

/-- Source 0x25 on a chain: such a current for 20 ms. -/
def State.cond25 (s : State) (c : ChainId) : Bool :=
  match (s.chain c).blockedOver with
  | none => false
  | some t => decide (t + 20 * msNs ≤ s.clock)

/-- A source of one chain follows its condition. The source itself is active while any chain's is. -/
def followChain (src : Nat) (s : State) (c : ChainId) (cond : Bool) : State :=
  let k := chainKey src c
  if cond then
    let s1 := raiseHeld s src
    if s1.prt.active.contains k then s1 else s1.onPrt fun p => { p with active := k :: p.active }
  else if s.prt.active.contains k then
    let s1 := s.onPrt fun p => { p with active := p.active.filter (· != k) }
    if s1.prt.active.contains (chainKey src .a) || s1.prt.active.contains (chainKey src .b) then s1 else endHeld s1 src
  else s

/-- The floor that opens a chain (rank 1): when the chain is not opening already. -/
def floorOpen (s : State) (c : ChainId) : State :=
  let ch := s.chain c
  let act := match ch.st with
    | .run | .connecting => true
    | .zeroing => !ch.openAfter
    | .block => !ch.opened && ch.openReqAt.isNone
    | .absent | .opening => false
  if s.arm.owner && act then requestOpen s c else s

/-- The floor of source 0x23: block at its rise, and the wait for MEAS_LOST_OPEN. -/
def floorMeasLost (s : State) (c : ChainId) : State :=
  let now := s.clock
  let since := match c with
    | .a => s.prt.measLostA
    | .b => s.prt.measLostB
  let on := s.prt.active.contains (chainKey 0x23 c)
  let next := if on then (if since.isSome then since else some now) else none
  let s1 := s.onPrt fun p => match c with
    | .a => { p with measLostA := next }
    | .b => { p with measLostB := next }
  if on && since.isNone && s.arm.owner then requestBlock s1 c else s1

/-- PE's look at one chain. -/
def assessChain (s : State) (c : ChainId) : State :=
  let now := s.clock
  let overNow := s.blockedCurrent c
  let s0 := s.onChain c fun ch => { ch with blockedOver := if overNow then some (ch.blockedOver.getD now) else none }
  let s1 := followChain 0x21 s0 c (s0.cond21 c)
  let s2 := floorMeasLost (followChain 0x23 s1 c (s1.cond23 c)) c
  let s3 := followChain 0x24 s2 c (s2.cond24 c)
  let s4 := followChain 0x25 s3 c (s3.cond25 c)
  let a := s4.prt.active
  if a.contains (chainKey 0x21 c) || a.contains (chainKey 0x24 c) || a.contains (chainKey 0x25 c) then floorOpen s4 c else s4

/-- A source held by its own condition, with its rise. -/
def followSource (src : Nat) (s : State) (cond : Bool) : State := if cond then raiseHeld s src else endHeld s src

/-- Sources 0x19 and 0x1A with their floors: the block of 0x19 stands while the source does. -/
def assessCap (s : State) : State :=
  let v := s.vCapMv
  let high := match v with
    | none => false
    | some x => decide (s.im.vcapOvByp ≤ x)
  let s1 := s.onPrt fun p =>
    { p with vInvalid := if v.isNone then min 3 (p.vInvalid + 1) else 0, vOver := if high then min 3 (p.vOver + 1) else 0 }
  let bad := s1.prt.vInvalid = 3
  let rise := decide bad && !s1.prt.active.contains 0x19
  let was := s.arm.cell.inserting
  let s2 := if rise then blockCell s1 6 else s1
  let s3 := followSource 0x19 (s2.onArm fun a => { a with protBlock := decide bad }) (decide bad)
  let s4 := if rise && was then floorBypass s3 0x19 else s3
  let s5 := followSource 0x1A s4 (decide (s4.prt.vOver = 3))
  if s5.prt.vOver = 3 then floorBypass s5 0x1A else s5

/-- PE's decision on a loss of reference (R276): while the partner has a valid reference the token holder hands the
token now and a tracking member does nothing more; otherwise a cell that was inserting is bypassed. -/
def assessRef (s : State) : State :=
  match s.prt.refLoss with
  | none => s
  | some was =>
    if !s.arm.lostRef then s.onPrt fun p => { p with refLoss := none }
    else if s.partnerHasRef then (if s.canHandOver && !s.giving then startHandover s else s)
    else
      let s1 := blockCell (s.onPrt fun p => { p with refLoss := none }) 0
      if was then floorBypass s1 0x18 else s1

/-- A status that raised source 0x10 still stands on a switch (R396). -/
def State.switchFault (s : State) : Bool :=
  s.glk.links.toList.any fun r => r.lost || (r.age.isSome && (r.frame.getLsbD 11 || r.frame.getLsbD 10 || r.frame.getLsbD 9))

/-- The decisions that are due for legs in HIGH_Z for a fault (R139). -/
def assessLegs (s : State) : State :=
  let f (t : State) (l : Leg) : State := match t.parkDue l with
    | none => t
    | some since => parkOrBypass t l since
  f (f s .a) .b

/-! ### Escalation (R270) -/

/-- Rank of an ESCALATE code: 4 bypass, 3 both chains, 2 one chain, 1 park or bypass, 0 none. -/
def escRank (code : Nat) : Nat :=
  match code with
  | 1 => 1
  | 2 => 4
  | 3 | 4 => 2
  | 5 => 3
  | _ => 0

/-- Entries whose escalation is due. -/
def State.escDue (s : State) : List (Fin 64) := (List.finRange 64).filter fun e => s.prt.entries[e].esc

/-- One escalation: event 0x1011 and its effect. -/
def escalate (s : State) (e : Fin 64) : State :=
  let r := s.reaction e
  let s1 := logEvent (s.onPrt fun p => { p with cntEsc := bump 8 p.cntEsc }) 0x1011 e.val r.escalate
  match r.escalate with
  | 1 =>
    let since := s.prt.entries[e].firedAt.getD 0
    let s2 := if r.immediate.getLsbD 1 then parkOrBypass s1 .a since r.source (some e.val) else s1
    if r.immediate.getLsbD 2 then parkOrBypass s2 .b since r.source (some e.val) else s2
  | 2 => decideBypass s1 r.source (some e.val)
  | 3 => requestOpen s1 .a
  | 4 => requestOpen s1 .b
  | 5 => s1.forChains requestOpen
  | _ => s1

/-- The due escalations of the most severe rank are carried out; the others lapse. Only the token holder escalates
(R280). -/
def carryOut (s : State) : State :=
  let dueE := s.escDue
  if dueE.isEmpty then s
  else
    let top := dueE.foldl (fun a e => max a (escRank (s.reaction e).escalate)) 0
    let s1 := s.onPrt fun p => { p with escPend := false, entries := p.entries.map fun x => { x with esc := false } }
    if !s.arm.owner then s1
    else (dueE.filter fun e => escRank (s.reaction e).escalate == top).foldl escalate s1

/-- Event sources were active for one assessment: they end with the next one (R396). -/
def endPulses (s : State) : State :=
  s.prt.pulsed.eraseDups.foldl sourceDown (s.onPrt fun p => { p with pulsed := [] })

/-- PE_ASSESSMENT (R270, R273, R396): every 10 µs, with the newest samples of V_CAP and of the terminal current. -/
def execPeAssessment (vCap : Option Nat) (iTerm : Option Int) (s : State) : Res :=
  if !s.peRuns || !s.outOfReset then .next s
  else
    let s0 := endPulses (s.onMeas fun m => { m with vCap := vCap, iTerm := iTerm })
    let s1 := if s0.prt.active.contains 0x10 && !s0.switchFault then endHeld s0 0x10 else s0
    if s1.dev.phase != .ready then .next (carryOut s1)
    else
      let s2 := assessRef (assessCap (s1.forChains assessChain))
      .next (refreshBridge (carryOut (assessLegs s2)))

/-! ### Comparators and trip pins -/

/-- A 16-bit code of a comparator's input or threshold as a number (Table 11.2): the currents are signed. -/
def cmpValue (c : CmpRec) (x : BitVec 16) : Int := if 1 ≤ c.input ∧ c.input ≤ 3 then x.toInt else x.toNat

/-- What mode "magnitude" compares is the absolute value of the input; the other modes compare the input itself. -/
def cmpLevel (c : CmpRec) (x : BitVec 16) : Int := if c.mode = 3 then (cmpValue c x).natAbs else cmpValue c x

/-- The input is past the threshold (R266). -/
def cmpCrossed (c : CmpRec) (x : BitVec 16) : Bool :=
  let t := cmpValue c (BitVec.ofNat 16 c.threshold)
  match c.mode with
  | 0 => false
  | 2 => decide (cmpLevel c x < t)
  | _ => decide (t < cmpLevel c x)

/-- The input is back past the hysteresis (R266): HYST × 64 codes. -/
def cmpReturned (c : CmpRec) (x : BitVec 16) : Bool :=
  let t := cmpValue c (BitVec.ofNat 16 c.threshold)
  match c.mode with
  | 0 => true
  | 2 => decide (t + 64 * c.hyst < cmpLevel c x)
  | _ => decide (cmpLevel c x < t - 64 * c.hyst)

/-- COMPARATOR_CROSSING (R266, R270): the input, in the encoding of its threshold, and for how many ns it has stood. A
crossing counts once it has lasted for DEGLITCH. -/
def execComparatorCrossing (n : Fin 8) (input : BitVec 16) (lasted : Nat) (s : State) : Res :=
  let c := s.im.str.cmps[n]
  if !s.planeRuns || s.prt.cmp.getLsbD n.val || !cmpCrossed c input || lasted < 10 * c.deglitch then .next s
  else .next (sourceUp (s.onPrt fun p => { p with cmp := p.cmp ||| BitVec.ofNat 8 (2 ^ n.val) }) n.val)

/-- COMPARATOR_RETURN (R396): the input, in the encoding of its threshold. -/
def execComparatorReturn (n : Fin 8) (input : BitVec 16) (s : State) : Res :=
  if s.prt.cmp.getLsbD n.val && cmpReturned s.im.str.cmps[n] input then
    .next (sourceDown (s.onPrt fun p => { p with cmp := p.cmp &&& ~~~(BitVec.ofNat 8 (2 ^ n.val)) }) n.val)
  else .next s

/-- TRIP_IN_ASSERT (R278, R280): the IMMEDIATE actions act at once; counting waits 20 µs, and never follows for a trip
of the device's own making. -/
def execTripInAssert (s : State) : Res :=
  if s.dev.tripInLow then .next s
  else
    let s1 := s.onDev fun d => { d with tripInLow := true }
    if !s.planeRuns then .next s1
    else
      let own := s.prt.tripOut
      let t := s.clock + 20 * usNs
      let s2 := s1.onPrt fun p =>
        { p with cntTripIn := bump 8 p.cntTripIn, tripCountDue := if own then p.tripCountDue else some t }
      .next (sourceUp s2 8 false)

/-- TRIP_IN_RELEASE (R396). -/
def execTripInRelease (s : State) : Res :=
  if s.dev.tripInLow then .next (sourceDown (s.onDev fun d => { d with tripInLow := false }) 8) else .next s

/-- TRIP_IN_COUNT_WAIT_EXPIRY (R280): no partner firing was reported, so the owner counts its own firings of source
0x08 and logs event 0x1016. -/
def execTripInCountWaitExpiry (s : State) : Res :=
  match s.prt.tripCountDue with
  | none => .next s
  | some t =>
    if s.clock < t then .next s
    else
      let s1 := s.onPrt fun p => { p with tripCountDue := none }
      let es := (List.finRange 64).filter fun e =>
        s.hasEntry e && (s.reaction e).source == 8 && (match s.prt.entries[e].firedAt with
          | none => false
          | some f => f + 20 * usNs == t)
      if !s.arm.owner || es.isEmpty then .next s1 else .next (es.foldl countFiring (logEvent s1 0x1016))

/-- An entry that asserted TRIP_OUT_N still has its source active. -/
def State.tripHeld (s : State) : Bool :=
  (List.finRange 64).any fun e => s.prt.tripBy.contains e.val && s.sourceActive (s.reaction e).source

/-- TRIP_OUT_RELEASE (R278). -/
def execTripOutRelease (s : State) : Res :=
  if s.prt.tripOut && decide (s.prt.tripOutAt + 10 * usNs ≤ s.clock) && !s.tripHeld then
    .next (s.onPrt fun p => { p with tripOut := false, tripBy := [] })
  else .next s

/-! ### Release and clearing (R271, R272) -/

/-- REACTION_AUTO_RELEASE: RECOVER 1, the source inactive for RELEASE. -/
def execReactionAutoRelease (e : Fin 64) (s : State) : Res :=
  let r := s.reaction e
  match s.prt.entries[e].inactSince with
  | none => .next s
  | some t =>
    if s.hasEntry e && r.recover == 1 && s.prt.entries[e].latched && !s.sourceActive r.source
        && decide (t + msNs * r.release ≤ s.clock) then .next (releaseEntry s e)
    else .next s

/-- MEAS_LOST_OPEN_EXPIRY (Table 11.5, source 0x23). -/
def execMeasLostOpenExpiry (c : ChainId) (s : State) : Res :=
  let since := match c with
    | .a => s.prt.measLostA
    | .b => s.prt.measLostB
  match since with
  | none => .next s
  | some t =>
    if s.arm.owner && s.prt.active.contains (chainKey 0x23 c) && decide (t + msNs * s.im.measLostOpen ≤ s.clock)
        && !(s.chain c).openReq then .next (requestOpen s c)
    else .next s

/-- Entry e is cleared: released, its count reset. -/
def clearEntry (s : State) (e : Fin 64) : State :=
  (releaseEntry s e).onPrt fun p => { p with entries := p.entries.set e { p.entries[e] with times := [] } }

/-- PRT_CLEAR with GO. -/
def opPrtClearEntry (e : Fin 64) (s : State) : RegRes :=
  if s.hasEntry e && s.sourceActive (s.reaction e).source then (logEvent s 0x1015 e.val, 0x04) else (clearEntry s e, 0x00)

/-- PRT_CLEAR with ALL: every entry whose source is active is kept. -/
def opPrtClearAll (s : State) : RegRes :=
  let held (e : Fin 64) : Bool := s.hasEntry e && s.sourceActive (s.reaction e).source
  let f (t : State) (e : Fin 64) : State := if held e then logEvent t 0x1015 e.val else clearEntry t e
  ((List.finRange 64).foldl f s, if (List.finRange 64).any held then 0x04 else 0x00)

/-- Address of PRT_CLEAR. -/
def prtClearAddr : Word := 0x000C0014

/-- PRT_CLEAR_ENTRY. -/
def execPrtClearEntry (p : Requester) (e : Fin 64) (s : State) : Res :=
  .next (regCmd s p fun s => withRight s p .clear prtClearAddr (opPrtClearEntry e))

/-- PRT_CLEAR_ALL. -/
def execPrtClearAll (p : Requester) (s : State) : Res :=
  .next (regCmd s p fun s => withRight s p .clear prtClearAddr opPrtClearAll)

/-! ### The station's bypass request (R288) -/

/-- A write of PRT_BYPASS_REQ. -/
def opBypassReq (p : Requester) (value : Word) (s : State) : RegRes :=
  if !value.getLsbD 0 || (value >>> 8) &&& 0xFF != 0xB5 then (s, 0x07)
  else if s.arm.bypassed then (s, 0x00)
  else
    let s1 := raiseEvent (logEvent s 0x1017 p.num) 0x28
    (if s.arm.owner then decideBypass s1 0x28 none else s1.onPrt fun x => { x with bypReqFwd := true }, 0x00)

/-- PRT_BYPASS_REQ. -/
def execPrtBypassReq (p : Requester) (value : Word) (s : State) : Res :=
  .next (regCmd s p fun s => withRight s p .operate 0x000C0020 (opBypassReq p value))

end Sys2Proof.Machine
end

