-- ==== Sys2Proof/Machine/RegRead.lean ====
section
/-! DEFINITION. What every register reads (spec/16 Tables 16.2 to 16.19, with the fields of the chapters that define
them): one function per block, from the offset in the block to the value, none where no register is listed (R361). -/

set_option Elab.async false

namespace Sys2Proof

/-- Codes of LEG_STATE. -/
def LegSt.code : LegSt → Nat
  | .running => 0
  | .hiZ => 1
  | .parked => 2

/-- Codes of GLK_OUT. -/
def GlWord.code : GlWord → Nat
  | .silent => 0
  | .off => 1
  | .on => 2
  | .hold => 3
  | .test => 4
  | .track => 5

/-- Codes of Table 07.3. -/
def ChainSt.code : ChainSt → Nat
  | .absent => 0
  | .block => 1
  | .connecting => 2
  | .run => 3
  | .zeroing => 4
  | .opening => 5

/-- Codes of SNA_STATE.STAGE. -/
def SenStage.code : SenStage → Nat
  | .asleep => 0
  | .waking => 1
  | .enumerating => 2
  | .enumerated => 3
  | .mismatch => 4

/-- Codes of IMG_STATUS.STAGING. -/
def Staging.code : Staging → Nat
  | .empty => 0
  | .erasing => 1
  | .receiving => 2
  | .complete => 3
  | .dryfit => 4

/-- Codes of SPL_STATUS.URG_LATCH. -/
def UrgLatch.code : UrgLatch → Nat
  | .none => 0
  | .armBlock => 1
  | .bypassAll => 2

/-- Codes of THM_HEAT. -/
def HeatSt.code : HeatSt → Nat
  | .off => 0
  | .auto => 1
  | .forcedOn => 2
  | .forcedOff => 3

/-- Codes of LBUS_STATUS.STATE. -/
def LbusSt.code : LbusSt → Nat
  | .stopped => 0
  | .integrating => 1
  | .active => 2
  | .passive => 3
  | .busOff => 4
  | .monitoring => 5

/-- Codes of PWR_ENGINE_STATE. -/
def EngRun.code : EngRun → Nat
  | .off => 0
  | .running => 1
  | .restarting => 2
  | .halted => 3

end Sys2Proof

namespace Sys2Proof.Machine

/-! ### Encodings -/

/-- Fields at their shifts. -/
def pk (fs : List (Nat × Nat)) : Nat := fs.foldl (fun a f => a + f.2 * 2 ^ f.1) 0

/-- One value per index, each of w bits. -/
def pkAll (w : Nat) (vs : List Nat) : Nat := vs.reverse.foldl (fun a v => a * 2 ^ w + v) 0

/-- A flag. -/
def b1 (b : Bool) : Nat := if b then 1 else 0

/-- u16 with its invalid code (R4). -/
def u16 : Option Nat → Nat
  | none => 0xFFFF
  | some v => min v 0xFFFE

/-- s16 with its invalid code (R4). -/
def s16 : Option Int → Nat
  | none => 0x8000
  | some v => lo16 (clampI v (-32767) 32767)

/-- s32 with its invalid code (R4). -/
def s32o : Option Int → Nat
  | none => 0x80000000
  | some v => lo32 (clampI v (-2147483647) 2147483647)

/-- s32 of a value that is present, saturating short of the invalid code (R3). -/
def s32w (v : Int) : Nat := lo32 (clampI v (-2147483647) 2147483647)

/-- u32, saturating. -/
def u32 (v : Nat) : Nat := min v 0xFFFFFFFF

/-- A capacity that is present, saturating short of the invalid code (R3). -/
def capShown (v : Nat) : Nat := min v 0xFFFFFFFE

/-- Low (hi = false) or high word of a 64-bit value. -/
def half (hi : Bool) (v : Nat) : Nat := if hi then v / 2 ^ 32 % 2 ^ 32 else v % 2 ^ 32

/-- A charge counter as a s64, saturating short of the invalid code (R3). -/
def s64 (v : Int) : Nat := (clampI v (-9223372036854775807) 9223372036854775807 % 18446744073709551616).toNat

/-- Index of an offset in n registers from base on, stride apart. -/
def regIdx (base stride n o : Nat) : Option Nat :=
  if base ≤ o && (o - base) % stride = 0 && decide ((o - base) / stride < n) then some ((o - base) / stride) else none

/-- Four bytes of a list from byte 4j on, low byte first. -/
def word4 (d : Byte) (xs : List Byte) (j : Nat) : Nat :=
  pkAll 8 ((List.range 4).map fun i => (xs.getD (4 * j + i) d).toNat)

/-- A value that the image sets: 0 before one is active. -/
def State.byImage (s : State) (f : Image → Nat) : Nat :=
  match s.img.active with
  | none => 0
  | some im => f im

/-- A register loaded before ring-ready (R364). -/
def State.loaded (s : State) (v : Nat) : Nat := if s.dev.serialLoaded then v else 0

/-- A register that its owner first sets when the device is released: its reset value, 0, until then (R364). -/
def State.afterHeld (s : State) (v : Nat) : Nat := if s.outOfReset then v else 0

/-! ### ID_, IMG_ -/

/-- The part number of ID_PART. -/
def partNum : Part → Nat
  | .qz9640 => 0x9640
  | .qz9641 => 0x9641

/-- ID_ block (R368). -/
def readId (s : State) (o : Nat) : Option Nat :=
  match o with
  | 0x00 => some (pk [(16, partNum s.dev.part), (8, 0x42), (0, 0x01)])
  | 0x04 => some (pk [(13, b1 s.spl.posValid), (0, if s.spl.posValid then s.deviceId else 0x1FFF)])
  | 0x08 => some (s.loaded (half false s.dev.serial.toNat))
  | 0x0C => some (s.loaded (half true s.dev.serial.toNat))
  | 0x10 => some (s.afterHeld (pk [(2, b1 s.dev.senseSrcPin), (1, b1 (s.dev.part == .qz9640)), (0, b1 s.dev.member)]))
  | _ => none

/-- IMG_ block. -/
def readImg (s : State) (o : Nat) : Option Nat :=
  let g := s.img
  match o with
  | 0x00 => some (pk
      [(16, g.glueBlock), (13, s.glueShown), (12, b1 g.structural), (11, b1 g.locked), (8, g.staging.code),
       (1, b1 g.fallback), (0, b1 g.activeSlot)])
  | 0x04 => some 0
  | 0x08 => some (pk [(31, b1 g.dfWarn), (16, g.dfRecord.toNat), (8, g.dfSection.toNat), (0, g.dfCode.toNat)])
  | 0x0C => some (s.byImage fun im => im.version.toNat)
  | 0x10 => some (match g.staging with
      | .complete | .dryfit => g.stagedVersion.toNat
      | .empty | .erasing | .receiving => 0)
  | 0x14 => some (s.loaded (u32 g.floor))
  | 0x18 => some (s.byImage fun im => im.expert.toNat)
  | 0x1C => some (u32 g.stageCount)
  | 0x20 => some (half false g.glueTime)
  | 0x24 => some (half true g.glueTime)
  | 0x28 => some (half false (s.byImage fun im => im.tag.toNat))
  | 0x2C => some (half true (s.byImage fun im => im.tag.toNat))
  | 0x30 => some (half false s.stagedTag.toNat)
  | 0x34 => some (half true s.stagedTag.toNat)
  | _ => none

/-! ### SPL_, TIM_, DVT_ -/

/-- Flags of one port in SPL_PORT. -/
def RingPort.flags (r : RingPort) : Nat :=
  pk [(4, b1 r.gw), (3, b1 r.isolated), (2, b1 (r.shims.length == 16)), (1, b1 r.isUp), (0, b1 r.lock)]

/-- Mean residence of a direction, 1/16 ns. -/
def meanRes (x : Nat × Nat) : Nat := if x.2 = 0 then 0 else min (x.1 / x.2) 0xFFFF

/-- SPL_ and TIM_ blocks. -/
def readSpl (s : State) (o : Nat) : Option Nat :=
  let x := s.spl
  let t := s.tim
  match o with
  | 0x00 => some (pk
      [(24, x.ring), (19, x.position), (14, x.size - 1), (13, b1 x.posValid), (12, b1 x.posConflict),
       (11, b1 x.ringReady), (10, b1 x.guardCut), (8, x.urgLatch.code)])
  | 0x04 => some (pk [(8, x.portW.flags), (0, x.portE.flags)])
  | 0x08 => some (pk [(16, u16 (s.shimCode .w)), (0, u16 (s.shimCode .e))])
  | 0x0C => some (u32 x.boundB)
  | 0x10 => some (u32 x.dLine)
  | 0x14 => some (u32 x.stagedBound)
  | 0x18 => some (u32 x.stagedLine)
  | 0x1C => some (pk [(16, meanRes x.resW2E), (0, meanRes x.resE2W)])
  | 0x20 => some (pk [(24, x.cntLost), (16, x.cntWithdrawn), (8, x.cntRefused), (0, x.cntGuard)])
  | 0x24 => some (pk
      [(17, b1 x.portW.violSeen), (16, b1 x.portE.violSeen), (8, x.portW.violCount), (0, x.portE.violCount)])
  | 0x28 => some (pk [(24, x.urgCode), (0, x.urgSeq % 2 ^ 24)])
  | 0x8000 => some (half false t.time)
  | 0x8004 => some (half true t.time)
  | 0x8008 => some (pk
      [(8, t.missed), (4, b1 t.sourceWest), (3, b1 t.validMod), (2, b1 t.holdover), (1, b1 t.timeValid),
       (0, b1 t.acquired)])
  | 0x800C => some (s32o t.offset)
  | 0x8010 => some (s32o t.skew)
  | _ => none

/-- STATE of DVT_STATUS. -/
def State.dvtCode (s : State) : Nat :=
  if s.arm.roleClash || s.dvt.st == .clash then 5
  else if s.simplex then 0
  else if !s.dvt.up then 1
  else match s.dvt.st with
    | .simplex => 0
    | .linkDown => 1
    | .tracking => 2
    | .owning => 3
    | .handing => 4
    | .clash => 5

/-- DVT_ block. -/
def readDvt (s : State) (o : Nat) : Option Nat :=
  let d := s.dvt
  let beat : Bool := match d.lastBeat with
    | none => false
    | some t => decide (s.clock ≤ t + 5 * usNs)
  match o with
  | 0x00 => some (pk
      [(16, d.gen % 65536), (12, b1 d.yielded), (11, b1 d.partnerHealthy), (10, b1 beat), (9, b1 d.up),
       (8, b1 s.arm.owner), (0, s.dvtCode)])
  | 0x04 => some 0
  | 0x08 => some (pk [(24, d.cntTake), (16, d.cntHand), (8, d.cntGaps), (0, d.cntCrc)])
  | 0x0C => some (half false d.moveTime)
  | 0x10 => some (half true d.moveTime)
  | _ => none

/-! ### ARM_, PWM_, GLK_, PRT_ -/

/-- ARM_ block. -/
def readArm (s : State) (o : Nat) : Option Nat :=
  let a := s.arm
  match o with
  | 0x00 => some (pk
      [(15, b1 a.lostRef), (14, b1 a.sat), (13, b1 a.hold), (12, b1 s.pendMode.isSome), (8, min a.missed 15),
       (3, (s.pendMode.map fun x => x.1.code).getD 0), (0, a.mode.code)])
  | 0x08 => some (pk
      [(16, a.changes % 65536), (6, s.byImage fun im => im.str.board % 4), (5, b1 s.dev.member), (4, b1 a.owner),
       (0, a.cell.code)])
  | 0x0C => some (pk
      [(31, b1 a.inNow), (22, s.byImage fun im => (im.armRings - 1) % 64), (16, a.ringIdx % 64), (11, a.key % 32),
       (5, a.nRing), (0, a.rank % 32)])
  | 0x10 => some a.mask.toNat
  | 0x14 => some (u32 a.phase)
  | 0x18 => some (s32o a.duty)
  | 0x1C => some (s32o a.duty0)
  | 0x20 => some (half false ((s.pendMode.map (·.2)).getD 0))
  | 0x24 => some (half true ((s.pendMode.map (·.2)).getD 0))
  | 0x28 => some (s32w a.balance)
  | 0x2C => some (s32w a.pShare)
  | 0x30 => some (pk [(24, a.cntMissed), (16, a.cntLate), (8, a.cntSubst), (0, a.cntMismatch)])
  | _ => none

/-- The registers of one leg's pulse unit, from its offset on. -/
def readUnit (s : State) (u : PulseUnit) (o : Nat) : Option Nat :=
  match o with
  | 0x00 => some (u32 u.shPeriod)
  | 0x04 => some (u32 u.shRise)
  | 0x08 => some (u32 u.shFall)
  | 0x0C => some (u32 u.shApply)
  | 0x10 => some 0
  | 0x14 => some u.startLo.toNat
  | 0x18 => some u.startHi.toNat
  | 0x1C => some (if u.running then u32 (s.tim.time - u.t0) else 0xFFFFFFFF)
  | _ => none

/-- PWM_ block. -/
def readPwm (s : State) (o : Nat) : Option Nat :=
  let w := s.pwm
  match o with
  | 0x00 => some (pk
      [(19, b1 w.b.reject), (18, b1 w.a.reject), (17, b1 w.b.nostart), (16, b1 w.a.nostart),
       (14, w.b.queue.length % 4), (12, w.a.queue.length % 4), (9, b1 w.b.running), (8, b1 w.a.running),
       (4, w.b.cause), (0, w.a.cause)])
  | 0x04 => some (s.byImage fun im => pk [(16, im.str.kerfB), (0, im.str.kerfA)])
  | 0x08 => some (s.byImage fun im => u32 im.minPulse)
  | 0x50 => some (pk [(16, w.b.lateCommit), (0, w.a.lateCommit)])
  | 0x54 => some (pk [(24, w.cntReject), (16, w.cntRepeat), (8, w.b.minPulse), (0, w.a.minPulse)])
  | _ =>
    if o < 0x10 then none
    else if o < 0x30 then readUnit s w.a (o - 0x10)
    else readUnit s w.b (o - 0x30)

/-- AGE and FRAME of a link. -/
def State.linkStatus (s : State) (i : Fin 4) : Nat :=
  let r := s.glk.links[i]
  pk [(24, match r.age with
      | none => 255
      | some t => min ((s.clock - t) / usNs) 255), (0, r.frame.toNat)]

/-- GLK_ block. -/
def readGlk (s : State) (o : Nat) : Option Nat :=
  let g := s.glk
  let ls := g.links.toList
  match o with
  | 0x00 => some (pk
      [(12, g.legB.cause), (11, b1 g.bInvert), (8, g.legB.st.code), (4, g.legA.cause), (0, g.legA.st.code)])
  | 0x04 => some (pk
      [(16, b1 (s.arm.owner && ls.all fun r => r.word != .silent && r.word != .track)),
       (0, pkAll 4 (ls.map fun r => r.word.code))])
  | 0x10 => some (s.linkStatus 0)
  | 0x14 => some (s.linkStatus 1)
  | 0x18 => some (s.linkStatus 2)
  | 0x1C => some (s.linkStatus 3)
  | 0x20 => some (pkAll 8 (ls.map fun r => r.flags.toNat))
  | 0x24 => some (pkAll 8 (ls.map fun r => r.test.toNat))
  | 0x30 => some (pk [(2, b1 g.statClosed), (1, b1 g.closeAsserted), (0, b1 g.firing)])
  | 0x40 => some 0
  | 0x44 => some g.jigTime.toNat
  | 0x48 => some (pkAll 8 (ls.map fun r => r.cnt))
  | _ => none

/-- A bit per reaction entry, of the entries from base on. -/
def State.entryBits (s : State) (base : Nat) (f : EntryRec → Bool) : Nat :=
  pkAll 1 (((s.prt.entries.toList.drop base).take 32).map fun e => b1 (f e))

/-- A comparator record as PRT_CMP_n shows it. -/
def cmpWord (r : CmpRec) : Nat :=
  pk [(16, r.threshold), (12, r.input), (10, r.mode), (3, r.deglitch), (0, r.hyst)]

/-- PRT_ block. -/
def readPrt (s : State) (o : Nat) : Option Nat :=
  let p := s.prt
  match o with
  | 0x00 => some (pk
      [(20, p.last), (19, b1 s.dev.tripInLow), (18, b1 p.tripOut), (17, b1 s.arm.bypassed), (16, b1 p.escPend),
       (8, p.cmp.toNat), (0, s.immediate.toNat % 32)])
  | 0x04 => some (s.entryBits 0 (·.fired))
  | 0x08 => some (s.entryBits 32 (·.fired))
  | 0x0C => some (s.entryBits 0 (·.latched))
  | 0x10 => some (s.entryBits 32 (·.latched))
  | 0x14 => some 0
  | 0x18 => some (pk [(16, p.bypEntry), (8, b1 p.bypTable), (0, p.bypSource % 256)])
  | 0x1C => some (pk [(24, p.cntHw), (16, p.cntPe), (8, p.cntEsc), (0, p.cntTripIn)])
  | 0x20 => some 0
  | _ => (regIdx 0x40 4 8 o).map fun n => s.byImage fun im => cmpWord (im.str.cmps.toList.getD n {})

/-! ### CHA_, SNA_ -/

/-- Modules neither parked nor lost, of a declared chain. -/
def State.availShown (s : State) (c : ChainId) : Nat :=
  if s.img.active.isSome && s.declared c then s.avail c else 0

/-- CHA_CURRENT.I_REF. -/
def State.iRefShown (s : State) (c : ChainId) : Option Int :=
  (s.chain c).iRef.map fun _ => tdiv (s.refNow c) 20000

/-- One entry of CHA_ORDER. -/
def Chain.orderByte (ch : Chain) (i : Nat) : Nat := (ch.order[i]?.map (·.val)).getD 0xFF

/-- CHA_MOD_n. -/
def ModRec.word (r : ModRec) : Nat :=
  pk [(16, lo16 r.key), (12, r.cause), (11, b1 r.lost), (10, b1 r.trim), (9, b1 r.elChg), (8, b1 r.elDis),
      (0, r.st.code)]

/-- CHA_ or CHB_ block. -/
def readCha (s : State) (c : ChainId) (o : Nat) : Option Nat :=
  let h := s.chain c
  match o with
  | 0x00 => some (pk
      [(20, s.availShown c), (19, b1 h.derate), (18, b1 h.learnOn), (17, b1 h.chgSpan), (16, b1 h.disSpan),
       (15, b1 h.weldPre), (14, b1 h.weldNeg), (13, b1 h.weldPos), (12, b1 h.forced), (10, b1 h.kPre),
       (9, b1 h.kNeg), (8, b1 h.kPos), (6, h.dir), (0, h.st.code)])
  | 0x04 => some 0
  | 0x08 => some (pk [(16, s16 h.iMeas), (0, s16 (s.iRefShown c))])
  | 0x0C => some (pk [(16, s16 (some h.limChg)), (0, s16 (some h.limDis))])
  | 0x10 => some (u32 h.u)
  | 0x14 => some (s32w h.integ)
  | 0x18 => some (pk
      [(24, (h.trim2.map (·.val)).getD 0xFF), (16, (h.trim1.map (·.val)).getD 0xFF), (8, h.nIns), (0, b1 h.sat)])
  | 0x1C => some (pk [(16, min h.w2 0xFFFF), (0, min h.w1 0xFFFF)])
  | 0x20 => some (u32 h.overMs)
  | 0x60 => some 0
  | 0x64 => some 0
  | 0x70 =>
    let l := h.learn
    some (pk [(16, min l.amp 0xFFFF), (11, b1 l.taper), (8, l.phase), (0, if l.phase = 0 then 0xFF else l.target.val)])
  | 0x80 => some (pk [(24, h.cntLate), (16, h.cntReject), (8, h.cntLost), (0, h.cntRefused)])
  | 0x84 => some (s.loaded (pk [(16, h.opsForced), (0, h.opsCycles)]))
  | _ =>
    match regIdx 0x40 4 8 o with
    | some i => some (pkAll 8 ((List.range 4).map fun k => h.orderByte (4 * i + k)))
    | none => (regIdx 0x100 4 32 o).map fun n => (h.mods.toList.getD n {}).word

/-- The record of one module (Table 16.9). -/
def SenRec.read (r : SenRec) (o : Nat) : Option Nat :=
  let cell (k : Nat) : Nat := u16 (if r.unmeasured.getLsbD k then none else r.cells.toList.getD k none)
  let temp (k : Nat) : Nat := s16 (r.temps.toList.getD k none)
  match o with
  | 0x00 => some (pk [(24, r.sseq), (16, r.echo.toNat), (0, r.status.toNat)])
  | 0x04 => some (pk [(16, s16 r.dsum), (0, u16 r.vmod)])
  | 0x58 => some (r.ow.toNat % 2 ^ 32)
  | 0x5C => some (pk
      [(16, r.thOpen.toNat), (11, b1 r.absent), (10, b1 r.lost), (4, r.wire.getD 0x3F), (3, b1 r.brkConf),
       (2, b1 r.brkSusp), (1, b1 r.owValid), (0, b1 (r.ow.getLsbD 32))])
  | 0x60 => some (half false r.serial.toNat)
  | 0x64 => some (half true r.serial.toNat)
  | 0x68 => some (pk [(16, r.hwRev % 256), (8, r.nCells % 256), (0, r.cls % 16)])
  | 0x6C => some (pk [(16, u16 r.dlyTail), (0, u16 r.dlyHead)])
  | 0x70 => some r.bleed.toNat
  | 0x74 => some r.bsw.toNat
  | _ =>
    match regIdx 0x08 4 16 o with
    | some j => some (pk [(16, cell (2 * j + 1)), (0, cell (2 * j))])
    | none => (regIdx 0x48 4 4 o).map fun j => pk [(16, temp (2 * j + 1)), (0, temp (2 * j))]

/-- SNA_ or SNB_ block. -/
def readSna (s : State) (c : ChainId) (o : Nat) : Option Nat :=
  let x := s.sen c
  match o with
  | 0x00 => some (pk
      [(20, x.brk.getD 0x3F), (14, x.cntTail), (8, x.cntHead), (6, x.filter), (5, b1 x.cmdTail), (4, b1 x.intact),
       (0, x.stage.code)])
  | 0x04 => some 0
  | 0x08 => some (pk [(24, x.cntCrc), (16, x.cntLostCmd), (8, x.cntDup), (0, x.cntMissed)])
  | 0x0C => some (pk [(24, x.sseq % 256), (0, x.res % 256)])
  | 0x10 => some (pk [(16, s16 x.iFilt), (0, s16 x.iRaw)])
  | _ =>
    if o < 0x1000 then none
    else if h : (o - 0x1000) / 0x80 < 32 then (x.recs[(o - 0x1000) / 0x80]).read ((o - 0x1000) % 0x80)
    else none

/-! ### EST_, VNR_ -/

/-- The cells that the image configures in a module. -/
def State.cellIdx (s : State) : List (Fin 32) := (List.finRange 32).filter fun k => decide (k.val < s.nCells)

/-- A cell's largest uncertainty in mAs, or all ones. -/
def uncShown (a : List CellAcc) : Nat :=
  match (a.filterMap (·.unc)) with
  | [] => 0xFFFFFFFF
  | x :: xs => capShown ((xs.foldl max x) / 200000)

/-- The registers of a module account (Table 16.10). -/
def readEstMod (s : State) (c : ChainId) (m : Fin 32) (o : Nat) : Option Nat :=
  let e := (s.es c).mods[m]
  let used : Bool := s.declared c && decide (m.val < s.nMods)
  let cells : List CellAcc := if used then s.cellIdx.map fun k => e.cells[k] else []
  match o with
  | 0x00 => some (pk
      [(16, e.accepted), (12, e.disq), (10, e.lastAnchor), (9, b1 (cells.any (·.cand.isSome))), (8, b1 e.absentHeld),
       (7, b1 e.swapped), (6, b1 e.overmax), (5, b1 e.floor), (4, b1 e.emptyHold), (3, b1 (cells.any (·.confFull))),
       (2, b1 (cells.any (·.confEmpty))), (1, b1 (cells.any (·.suspect))), (0, b1 (cells.any (·.uncertain 5)))])
  | 0x04 => some (pk [(16, u16 (if used then s.socChg c m else none)), (0, u16 (if used then s.socDis c m else none))])
  | 0x08 => some (pk [(16, s16 (some e.limChg)), (0, s16 (some e.limDis))])
  | 0x0C => some (half false (s64 e.q))
  | 0x10 => some (half true (s64 e.q))
  | 0x14 => some (if used then capShown (s.capM c m) else 0)
  | 0x18 => some (uncShown cells)
  | _ => none

/-- The registers of a cell account. -/
def readEstCell (s : State) (c : ChainId) (m k : Fin 32) (o : Nat) : Option Nat :=
  let a := (s.es c).mods[m].cells[k]
  let used : Bool := s.img.active.isNone || decide (k.val < s.nCells)
  match o with
  | 0x0 => some (pk
      [(21, b1 a.bleedReq), (20, b1 a.openQ.isSome), (19, b1 (a.confFull || a.confEmpty)), (18, b1 a.suspect),
       (17, b1 (a.uncertain 5)), (16, b1 ((s.sen c).recs[m].unmeasured.getLsbD k.val)), (0, u16 (if used then a.soc else none))])
  | 0x4 => some (if used then capShown a.cap else 0xFFFFFFFF)
  | 0x8 => some (half false (if used then s64 a.q else 2 ^ 63))
  | 0xC => some (half true (if used then s64 a.q else 2 ^ 63))
  | _ => none

/-- SOC of a veneer window (R222). -/
def EstCh.vnrSoc (e : EstCh) : Nat :=
  if e.vnrCap = 0 then 0xFFFF else (clampI (tdiv (e.vnrCount * 10000) e.vnrCap) 0 10000).toNat

/-- A veneer window (R222); a disabled one reads 0. -/
def readVnr (s : State) (c : ChainId) (o : Nat) : Option Nat :=
  let e := s.es c
  let v (n : Nat) : Option Nat := some (if s.veneerOn c then n else 0)
  match o with
  | 0x00 => v 0x42480203
  | 0x04 => v (pk [(2, b1 (e.vnrCap == 0)), (1, b1 e.vnrGap), (0, 1)])
  | 0x08 => v 0
  | 0x0C => v (s32w e.vnrCount)
  | 0x10 => v (s32w e.vnrPreset)
  | 0x14 => v (capShown e.vnrCap)
  | 0x18 => v e.vnrSoc
  | 0x1C => v (s16 (e.vnrCurrent.map fun i => -i))
  | 0x20 => v (u32 ((s.clock - e.vnrAt) / secNs))
  | _ => none

/-- The indexed part of the EST_ block: modules from mb on and cells from cb on. -/
def readEstAt (s : State) (c : ChainId) (mb cb o : Nat) : Option Nat :=
  if mb ≤ o && decide (o < mb + 0x800) then
    if h : (o - mb) / 0x40 < 32 then readEstMod s c ⟨(o - mb) / 0x40, h⟩ ((o - mb) % 0x40) else none
  else if cb ≤ o then
    if h : (o - cb) / 0x200 < 32 then
      readEstCell s c ⟨(o - cb) / 0x200, h⟩ ⟨(o - cb) % 0x200 / 0x10, by omega⟩ ((o - cb) % 0x10)
    else none
  else none

/-- The registers of the EST_ block that belong to chain B (R365). -/
def estIsB (o : Nat) : Bool :=
  o == 0x0C || o == 0x2C || o == 0x30 || decide (0x2000 ≤ o ∧ o < 0x2800) || decide (0x8000 ≤ o ∧ o < 0xC000)
    || decide (0xC100 ≤ o)

/-- EST_ and VNR_ blocks. -/
def readEst (s : State) (o : Nat) : Option Nat :=
  let e := s.est
  let lims (x : EstCh) : Nat := pk [(16, s16 (some x.limChg)), (0, s16 (some x.limDis))]
  match o with
  | 0x00 => some (pk
      [(7, b1 e.stale), (6, b1 e.epochChg), (5, b1 e.noneSlot), (4, b1 e.fallback), (3, b1 (e.stateDue || e.countDue)),
       (2, b1 s.pwr.s2), (0, s.byImage fun im => im.veneer % 4)])
  | 0x04 => some (pk [(16, u16 s.esB.soc), (0, u16 s.esA.soc)])
  | 0x08 => some (lims s.esA)
  | 0x0C => some (lims s.esB)
  | 0x10 => some (s32w s.ownLimits.1)
  | 0x14 => some (s32w s.ownLimits.2)
  | 0x18 => some (pk [(24, e.cntApprox), (16, e.cntGaps), (8, e.cntDisq), (0, e.cntAccepted)])
  | 0x1C => some (u32 ((e.newState.map (·.seq)).getD 0))
  | 0x20 => some (u32 ((e.newCount.map (·.seq)).getD 0))
  | 0x24 => some (half false (s64 s.esA.acc))
  | 0x28 => some (half true (s64 s.esA.acc))
  | 0x2C => some (half false (s64 s.esB.acc))
  | 0x30 => some (half true (s64 s.esB.acc))
  | 0x34 => some (pk [(16, s.esB.epoch % 65536), (0, s.esA.epoch % 65536)])
  | 0x38 => some 0
  | _ =>
    if 0xC100 ≤ o then readVnr s .b (o - 0xC100)
    else if 0xC000 ≤ o then readVnr s .a (o - 0xC000)
    else if 0x8000 ≤ o || decide (0x2000 ≤ o ∧ o < 0x2800) then readEstAt s .b 0x2000 0x8000 o
    else readEstAt s .a 0x1000 0x4000 o

/-! ### THM_, LSW_ -/

/-- THM_MOD_m_F and THM_MOD_m_T. -/
def ThmMod.read (t : ThmMod) (o : Nat) : Nat :=
  if o = 0 then pk [(24, t.excl.toNat), (23, b1 t.subst), (10, t.fChg), (0, t.fDis)]
  else pk [(16, s16 t.tMax), (0, s16 t.tMin)]

/-- The registers of the THM_ block that belong to chain B (R365). -/
def thmIsB (o : Nat) : Bool := decide (0x200 ≤ o)

/-- THM_ block. -/
def readThm (s : State) (o : Nat) : Option Nat :=
  let t := s.thm
  match o with
  | 0x00 => some (pk
      [(15, b1 t.full), (14, b1 (!t.tillDue.isEmpty)), (13, b1 t.readyB), (12, b1 t.readyA), (10, s.sdCode .b),
       (8, s.sdCode .a), (2, b1 t.held), (0, t.scan)])
  | 0x04 => some (pk [(16, s16 (s.tempSummary.map (·.1))), (0, s16 (s.tempSummary.map (·.2)))])
  | 0x60 => some (pk [(16, s16 t.dieMeas), (0, s16 t.dieCtrl)])
  | 0x64 => some (s16 t.diePower)
  | 0x68 => some (pk [(16, s16 t.cluster[1]), (0, s16 t.cluster[0])])
  | 0x6C => some (s16 t.cluster[2])
  | 0x70 => some (pkAll 2 (t.heat.toList.map fun h => h.code))
  | 0x74 => some 0
  | 0x78 => some 0
  | 0x80 => some (pk
      [(16, min (t.tills.filter fun r => r.kind == 1 && !s.tillReleased r).length 255), (8, min t.tills.length 255),
       (0, t.lastCause)])
  | 0x84 => some (pk [(24, t.cntImplaus), (16, t.cntInvalid), (8, t.cntSubst), (0, t.cntHeat)])
  | _ =>
    match regIdx 0x40 4 8 o with
    | some n =>
      let g := t.gen.toList.getD n {}
      some (pk
        [(24, s.byImage fun im => (im.str.genFn.toList.getD n 0) % 256), (17, b1 g.isShort), (16, b1 g.isOpen),
         (0, s16 g.temp)])
    | none =>
      match regIdx 0x100 4 64 o with
      | some i => some ((t.modsA.toList.getD (i / 2) {}).read (i % 2))
      | none => (regIdx 0x200 4 64 o).map fun i => (t.modsB.toList.getD (i / 2) {}).read (i % 2)

/-- A bit per channel. -/
def State.chBits (s : State) (f : LswCh → Bool) : Nat := pkAll 1 (s.lsw.ch.toList.map fun c => b1 (f c))

/-- Sum of the channel currents that have a value; invalid while none has. -/
def State.chSum (s : State) : Option Int :=
  match s.lsw.ch.toList.filterMap (·.i) with
  | [] => none
  | x :: xs => some (xs.foldl (· + ·) x)

/-- LSW_CH_n_STATE. -/
def LswCh.word (c : LswCh) : Nat :=
  pk [(16, s16 c.i), (12, min c.attempts 15), (9, b1 c.pauseDue.isSome), (8, b1 c.econ), (7, b1 c.inrushDue.isSome),
      (6, b1 c.limiting), (5, b1 c.latched), (4, b1 c.thermalOff), (3, b1 c.shed), (2, b1 c.forced), (1, b1 c.clamp),
      (0, b1 c.isOn)]

/-- LSW_CLUSTER_n, n = 0 for cluster 1. -/
def State.clusterWord (s : State) (n : Fin 3) : Nat :=
  let c := s.lsw.clusters[n]
  let hot : Bool := match s.thm.cluster[n] with
    | none => false
    | some t => s.img.active.isSome && decide ((s.im.clusterShed : Int) ≤ t)
  pk [(16, s16 c.i), (9, b1 c.restoring), (8, b1 hot), (4, c.shedList.length), (0, c.last)]

/-- LSW_ block. -/
def readLsw (s : State) (o : Nat) : Option Nat :=
  let l := s.lsw
  match o with
  | 0x00 => some (pk [(16, s.chBits (·.want)), (0, s.chBits (·.isOn))])
  | 0x04 => some (pk [(16, s.chBits (·.limiting)), (0, s.chBits (·.latched))])
  | 0x08 => some 0
  | 0x0C => some 0
  | 0x10 => some (pk [(8, b1 s.dev.senseSrcPin), (4, l.pins % 16), (0, l.sel % 16)])
  | 0x14 => some (pk [(16, min l.pDiss 0xFFFF), (0, s16 s.chSum)])
  | 0x18 => some (pkAll 2 (l.ch.toList.map (·.diag)))
  | 0x20 => some (s.clusterWord 0)
  | 0x24 => some (s.clusterWord 1)
  | 0x28 => some (s.clusterWord 2)
  | 0x30 => some (pk [(24, l.cntFailed), (16, l.cntLatches), (8, l.cntSheds), (0, l.cntClamps)])
  | _ =>
    match regIdx 0x100 0x10 12 o with
    | some n => some (l.ch.toList.getD n {}).word
    | none =>
      match regIdx 0x104 0x10 12 o with
      | some n => some (s.byImage fun im => pk
          [(16, im.lswLimit n % 65536), (8, im.lswInrush n % 256), (4, im.lswRetryN n % 16),
           (0, (im.str.lsw.toList.getD n 0).toNat % 16)])
      | none => (regIdx 0x108 0x10 12 o).map fun n => s16 (l.ch.toList.getD n {}).tj

/-! ### LBUS_ -/

/-- The receive entry that a requester has selected. -/
def State.rxShown (s : State) (p : Requester) : Option RxEntry := (s.lbus.rx.toList.getD s.lbus.rxSel[p.idx] none)

/-- LBUS_RX_CTRL of an entry. -/
def RxEntry.ctrl (e : RxEntry) : Nat :=
  let f := e.frame
  pk [(24, e.seq % 256), (16, e.filter % 32), (15, b1 e.wake), (14, b1 f.rtr), (13, b1 f.esi), (12, b1 f.brs),
      (11, b1 f.fdf), (10, b1 f.xtd), (7, b1 e.owned), (0, f.dlc.toNat)]

/-- The owned entries, with their indices. -/
def State.owned (s : State) : List (Nat × RxEntry) :=
  (List.range 64).filterMap fun i => match s.lbus.rx.toList.getD i none with
    | some e => if e.owned then some (i, e) else none
    | none => none

/-- Index of the oldest owned entry, 0xFF for none. -/
def State.oldestOwned (s : State) : Nat :=
  match s.owned with
  | [] => 0xFF
  | x :: xs => (xs.foldl (fun a y => if y.2.order < a.2.order then y else a) x).1

/-- LBUS_ block; windows and selections are those of requester p (R366). -/
def readLbus (s : State) (p : Requester) (o : Nat) : Option Nat :=
  let l := s.lbus
  let w := l.win[p.idx]
  let e := s.rxShown p
  match o with
  | 0x00 => some (pk
      [(24, min l.rxErr 255), (16, min l.txErr 255), (5, b1 l.held), (4, b1 l.tdcRange), (0, l.st.code)])
  | 0x04 => some 0
  | 0x10 => some w.id.toNat
  | 0x14 => some w.ctrl.toNat
  | 0x18 => some 0
  | 0x1C => some 0
  | 0x20 => some (pkAll 2 (l.bufs.toList.map (·.st)))
  | 0x24 => some (pk [(16, l.ended.toNat), (0, l.sent.toNat)])
  | 0x30 => some (pk [(16, b1 l.rxOverrun), (8, s.owned.length), (0, s.oldestOwned)])
  | 0x34 => some (l.rxSel[p.idx] % 64)
  | 0x38 => some ((e.map fun x => x.frame.id.toNat).getD 0)
  | 0x3C => some ((e.map (·.ctrl)).getD 0)
  | 0x40 => some ((e.map fun x => x.frame.stamp.toNat).getD 0)
  | 0x44 => some 0
  | 0x48 => some (pk [(24, l.cntOverrun), (16, l.cntBusoff), (8, l.cntPassive), (0, l.cntReserved)])
  | _ =>
    match regIdx 0x80 4 16 o with
    | some j => some (w.data.toList.getD j 0).toNat
    | none =>
      match regIdx 0xC0 4 16 o with
      | some j => some (word4 0#8 ((e.map fun x => x.frame.data).getD []) j)
      | none => (regIdx 0x100 4 64 o).map fun i =>
          s.byImage fun im => u32 (if i % 2 = 0 then im.filterValue (i / 2) else im.filterMask (i / 2))

/-! ### PWR_ -/

/-- PWR_ block. -/
def readPwr (s : State) (o : Nat) : Option Nat :=
  let p := s.pwr
  let e := s.eng
  match o with
  | 0x000 => some (pk
      [(9, b1 p.vbakLost), (8, b1 p.vauxLow), (7, b1 s.pgood), (6, b1 s.writePermit), (5, b1 p.s4), (4, b1 p.s3),
       (3, b1 p.warn), (0, s.stage)])
  | 0x004 => some (pk [(16, u16 p.vaux), (0, u16 p.vsys)])
  | 0x008 => some (u16 p.vbak)
  | 0x00C => some (pk [(16, s.loaded p.rstCount), (8, p.rstCause), (0, p.rstKind)])
  | 0x010 => some 0
  | 0x014 => some (pk [(24, p.cnt4), (16, p.cnt3), (8, p.cnt2), (0, p.cnt1)])
  | 0x018 => some p.wake.toNat
  | 0x01C => some (u32 p.hibLast)
  | 0x100 => some (pk [(17, b1 e.seLs), (16, b1 e.peLs), (0, pkAll 2 (e.state.toList.map (·.code)))])
  | 0x104 => some (pkAll 4 e.restarts.toList)
  | 0x110 => some (pk
      [(26, b1 e.nvmUe), (25, b1 e.tcmUe), (24, b1 e.sramUe), (16, e.nvmCe), (8, e.tcmCe), (0, e.sramCe)])
  | 0x114 => some e.eccAddr.toNat
  | 0x120 => some (pk [(25, b1 s.evt.hwFull), (0, (e.dcqFlags.truncate 25).toNat)])
  | 0x124 => some (pk [(16, s.evt.hwLost), (0, e.lostPlinth)])
  | _ => none

/-! ### SEC_, ESC_, MNT_, EVT_ -/

/-- An item of Table 15.2. -/
def State.certItem (s : State) : Nat → List Byte
  | 0 => s.sec.devCert
  | 1 => s.sec.caCert
  | 2 => s.sec.fwRoot
  | 3 => s.sec.opCert
  | 4 => s.sec.root
  | _ => []

/-- The rights in force of a port for a class (R352), one bit per register group. -/
def State.grantByte (s : State) (port cls : Nat) : Nat :=
  let img : Nat := match s.img.active with
    | none => if port = 2 then 0 else 0xFF
    | some im => (im.esc.getD (8 * port + cls) 0).toNat
  if cls != 0 && s.seHalted then 0 else Nat.land (defaultByte s.sec.life port cls).toNat img

/-- SEC_ and ESC_ blocks. -/
def readSec (s : State) (p : Requester) (o : Nat) : Option Nat :=
  let x := s.sec
  let item := s.certItem x.certSel[p.idx]
  match o with
  | 0x00 => some (s.afterHeld <| pk
      [(8, x.enrol), (7, b1 s.escExcess), (6, b1 s.seHalted), (5, b1 (!x.root.isEmpty)), (4, b1 (!x.opCert.isEmpty)),
       (3, b1 (!x.devCert.isEmpty)), (0, s.loaded x.life)])
  | 0x04 => some 0
  | 0x10 => some (s.loaded (u32 x.cntBoot))
  | 0x14 => some (s.loaded (u32 x.cntGlue))
  | 0x18 => some (s.loaded (u32 x.cntAttest))
  | 0x1C => some (s.loaded (u32 x.cntRoll))
  | 0x20 => some (match s.dev.part with
      | .qz9640 => 0x196409CB
      | .qz9641 => 0x196419CB)
  | 0x30 => some (x.certSel[p.idx] % 8)
  | 0x34 => some (s.afterHeld (min item.length 0xFFF))
  | 0x60 => some (pk [(16, x.elapsed % 65536), (0, x.attest)])
  | 0x8040 => some (pk [(16, x.denied), (8, x.deniedPort), (0, x.deniedClass)])
  | 0x8044 => some x.deniedAddr.toNat
  | _ =>
    match regIdx 0x40 4 8 o with
    | some _ => some 0
    | none =>
      match regIdx 0x400 4 120 o with
      | some j => some (word4 0#8 x.report j)
      | none =>
        match regIdx 0x1000 4 512 o with
        | some j => some (s.afterHeld (word4 0#8 item j))
        | none => (regIdx 0x8000 4 10 o).map fun i =>
            s.afterHeld <| pkAll 8 ((List.range 4).map fun c => s.grantByte (i / 2) (4 * (i % 2) + c))

/-- MNT_ACT of the four slots; a tracking member shows its partner's (R359). -/
def State.actWords (s : State) : List Nat :=
  if !s.arm.owner && !s.mnt.mirrored.isEmpty then s.mnt.mirrored.map (·.toNat)
  else s.mnt.acts.toList.map fun a => (actWord a).toNat

/-- The slot that holds resource r, 0 where none does. -/
def State.holderOf (s : State) (r : Nat) : Nat :=
  ((List.range 4).find? fun i => Nat.testBit (s.actWords.getD i 0) (22 + r)).getD 0

/-- Modules of a chain whose sentinel configuration is locked. -/
def State.sentLock (s : State) (c : ChainId) : Word :=
  s.mnt.acts.toList.foldl (fun a x => match x with
    | none => a
    | some v => if v.res.getLsbD (8 + c.num) then a ||| v.mask else a) 0

/-- MNT_ block. -/
def readMnt (s : State) (p : Requester) (o : Nat) : Option Nat :=
  let x := s.mnt
  match o with
  | 0x00 => some x.argMask[p.idx].toNat
  | 0x04 => some x.argValue[p.idx].toNat
  | 0x08 => some 0
  | 0x0C => some 0
  | 0x10 => some (pkAll 2 ((List.range 10).map s.holderOf))
  | 0x30 => some x.refused[p.idx].toNat
  | 0x34 => some (s.sentLock .a).toNat
  | 0x38 => some (s.sentLock .b).toNat
  | _ => (regIdx 0x20 4 4 o).map fun i => s.actWords.getD i 0

/-- EVT_ block. -/
def readEvt (s : State) (p : Requester) (o : Nat) : Option Nat :=
  let e := s.evt
  let sel := e.selected e.sel[p.idx]
  match o with
  | 0x00 => some (s.loaded ((e.newestHeld.map (·.seq)).getD 0))
  | 0x04 => some (s.loaded ((e.oldestHeld.map (·.seq)).getD 0))
  | 0x08 => some (pk [(16, e.pending), (1, b1 e.wrapped), (0, b1 (s.copyDue && !s.writePermit))])
  | 0x0C => some e.lost
  | 0x10 => some (pk [(30, (sel.map (·.1)).getD 0), (0, e.sel[p.idx] % 2 ^ 24)])
  | _ => (regIdx 0x20 4 4 o).map fun j => word4 0xFF#8 ((sel.map fun x => x.2.bytes).getD []) j

/-! ### The map -/

/-- What a register reads for requester p, none where no register is listed (R361). Chain B reads 0 under R1 and
R365. -/
def readReg (s : State) (p : Requester) (addr : Word) : Option Word :=
  let o := addr.toNat % 65536
  let z (isB : Bool) (v : Option Nat) : Option Nat := v.map fun n => if isB && s.noB then 0 else n
  let v : Option Nat := match addr.toNat / 65536 with
    | 0x00 => readId s o
    | 0x01 => readImg s o
    | 0x02 => readSpl s o
    | 0x03 => readArm s o
    | 0x04 => readPwm s o
    | 0x05 => readGlk s o
    | 0x06 => readCha s .a o
    | 0x07 => z true (readCha s .b o)
    | 0x08 => readSna s .a o
    | 0x09 => z true (readSna s .b o)
    | 0x0A => z (estIsB o) (readEst s o)
    | 0x0B => z (thmIsB o) (readThm s o)
    | 0x0C => readPrt s o
    | 0x0D => readLsw s o
    | 0x0E => readLbus s p o
    | 0x0F => readPwr s o
    | 0x10 => readSec s p o
    | 0x11 => readMnt s p o
    | 0x12 => readEvt s p o
    | 0x13 => readDvt s o
    | _ => none
  v.map (BitVec.ofNat 32)

end Sys2Proof.Machine
end

