-- ==== Sys2Proof/Machine/RegMap.lean ====
section
/-! DEFINITION. Register operations over the whole map: the checks of R362, reads with the shadows of R7 and the
clearing of R8, writes with what each register does. Rows 209 to 211. -/

set_option Elab.async false

namespace Sys2Proof.Machine

/-! ### Reads -/

/-- The register is the low word of a 64-bit value (R7). -/
def isLowWord (addr : Word) : Bool :=
  let o := addr.toNat % 65536
  match addr.toNat / 65536 with
  | 0x00 => o == 0x08
  | 0x01 => o == 0x20 || o == 0x28 || o == 0x30
  | 0x02 => o == 0x8000
  | 0x03 => o == 0x20
  | 0x04 => o == 0x24 || o == 0x44
  | 0x08 | 0x09 => decide (0x1000 ≤ o ∧ o % 0x80 = 0x60)
  | 0x0A => o == 0x24 || o == 0x2C || decide (0x1000 ≤ o ∧ o < 0x4000 ∧ o % 0x40 = 0x0C)
      || decide (0x4000 ≤ o ∧ o < 0xC000 ∧ o % 0x10 = 0x08)
  | 0x13 => o == 0x0C
  | _ => false

/-- What a read clears in a chain's block. -/
def clearCha (s : State) (c : ChainId) (o : Nat) : State :=
  if o = 0x80 then s.onChain c fun h => { h with cntLate := 0, cntReject := 0, cntLost := 0, cntRefused := 0 } else s

/-- What a read clears in a sentinel block. -/
def clearSna (s : State) (c : ChainId) (o : Nat) : State :=
  if o = 0x08 then s.onSen c fun x => { x with cntCrc := 0, cntLostCmd := 0, cntDup := 0, cntMissed := 0 } else s

/-- The RC fields of a register are 0 after its read (R8). -/
def clearRead (s : State) (addr : Word) : State :=
  let o := addr.toNat % 65536
  match addr.toNat / 65536 with
  | 0x02 => if o = 0x20 then
      s.onSpl fun x => { x with cntLost := 0, cntWithdrawn := 0, cntRefused := 0, cntGuard := 0 } else s
  | 0x03 => if o = 0x30 then
      s.onArm fun a => { a with cntMissed := 0, cntLate := 0, cntSubst := 0, cntMismatch := 0 } else s
  | 0x04 => if o = 0x50 then
        s.onPwm fun w => { w with a := { w.a with lateCommit := 0 }, b := { w.b with lateCommit := 0 } }
      else if o = 0x54 then s.onPwm fun w =>
        { w with a := { w.a with minPulse := 0 }, b := { w.b with minPulse := 0 }, cntReject := 0, cntRepeat := 0 }
      else s
  | 0x05 => if o = 0x48 then s.onGlk fun g => { g with links := g.links.map fun r => { r with cnt := 0 } } else s
  | 0x06 => clearCha s .a o
  | 0x07 => clearCha s .b o
  | 0x08 => clearSna s .a o
  | 0x09 => clearSna s .b o
  | 0x0A => if o = 0x18 then
      s.onEst fun e => { e with cntApprox := 0, cntGaps := 0, cntDisq := 0, cntAccepted := 0 } else s
  | 0x0B => if o = 0x84 then
      s.onThm fun t => { t with cntImplaus := 0, cntInvalid := 0, cntSubst := 0, cntHeat := 0 } else s
  | 0x0C => if o = 0x1C then s.onPrt fun p => { p with cntHw := 0, cntPe := 0, cntEsc := 0, cntTripIn := 0 } else s
  | 0x0D => if o = 0x30 then
      s.onLsw fun l => { l with cntFailed := 0, cntLatches := 0, cntSheds := 0, cntClamps := 0 } else s
  | 0x0E => if o = 0x48 then
      s.onLbus fun l => { l with cntOverrun := 0, cntBusoff := 0, cntPassive := 0, cntReserved := 0 } else s
  | 0x0F => if o = 0x014 then s.onPwr fun p => { p with cnt1 := 0, cnt2 := 0, cnt3 := 0, cnt4 := 0 }
      else if o = 0x104 then s.onEng fun e => { e with restarts := Vector.replicate 8 0 }
      else if o = 0x110 then s.onEng fun e => { e with nvmCe := 0, tcmCe := 0, sramCe := 0 }
      else if o = 0x124 then (s.onEng fun e => { e with lostPlinth := 0 }).onEvt fun e => { e with hwLost := 0 }
      else s
  | 0x10 => if o = 0x8040 then s.onSec fun x => { x with denied := 0 } else s
  | 0x12 => if o = 0x0C then s.onEvt fun e => { e with lost := 0 } else s
  | 0x13 => if o = 0x08 then s.onDvt fun d => { d with cntTake := 0, cntHand := 0, cntGaps := 0, cntCrc := 0 } else s
  | _ => s

/-- Set the shadow of a requester for one high word (R7): the word latched, or none. -/
def setShadow (s : State) (p : Requester) (addr : Word) (v : Option Word) : State :=
  let rest := s.req.shadow[p.idx].filter fun x => x.1 != addr
  s.onReq fun r => { r with shadow := r.shadow.set p.idx (match v with
    | none => rest
    | some h => (addr, h) :: rest) }

/-- The high word that a requester has latched at an address. -/
def State.latched (s : State) (p : Requester) (addr : Word) : Option Word :=
  (s.req.shadow[p.idx].find? fun x => x.1 == addr).map (·.2)

/-- A read that has passed the checks. The low word of a 64-bit value latches its high word; the next read of that
high word by the same requester returns it, whatever other values it has read between. -/
def readValue (s : State) (p : Requester) (addr v : Word) : State × Word :=
  if isLowWord addr then (setShadow s p (addr + 4) (readReg s p (addr + 4)), v)
  else
    match s.latched p addr with
    | some h => (setShadow s p addr none, h)
    | none => (clearRead s addr, v)

/-- A register read with its status and data (R362). -/
def regRead (s : State) (p : Requester) (addr : Word) : State × Nat × Word :=
  if addr.toNat % 4 ≠ 0 then (s, 0x07, 0)
  else
    match readReg s p addr with
    | none => (s, 0x03, 0)
    | some v =>
      if s.right p .read addr then
        let r := readValue s p addr v
        (r.1, 0x00, r.2)
      else (deny s p .read addr, 0x02, 0)

/-! ### Writes -/

/-- A write whose register has no class of its own (R350). -/
def conf (s : State) (p : Requester) (addr : Word) (op : State → RegRes) : RegRes := withRight s p .configure addr op

/-- A write that changes nothing (R363). -/
def noField (s : State) (p : Requester) (addr : Word) : RegRes := conf s p addr fun s => (s, 0x00)

/-- A write of plain fields. -/
def plain (s : State) (p : Requester) (addr : Word) (f : State → State) : RegRes := conf s p addr fun s => (f s, 0x00)

/-- Refused as malformed, behind a right. -/
def badCode (s : State) (p : Requester) (c : OpClass) (addr : Word) : RegRes := withRight s p c addr fun s => (s, 0x07)

/-- Two effects of one write: the second acts once the first has been answered with 0x00. -/
def both (f g : State → RegRes) (s : State) : RegRes :=
  let r := f s
  if r.2 = 0 then g r.1 else r

/-- An effect that its bit asks for. -/
def asked (b : Bool) (f : State → RegRes) (s : State) : RegRes := if b then f s else (s, 0x00)

/-- IMG_CMD: other codes are ignored. -/
def writeImg (s : State) (p : Requester) (addr v : Word) : RegRes :=
  if addr ≠ imgCmdAddr then noField s p addr
  else match v.toNat % 256 with
    | 1 => withRight s p .configure addr (opStageBegin p (v.toNat / 256))
    | 2 => withRight s p .configure addr opStageEnd
    | 3 => withRight s p .configure addr opDryfit
    | 4 => withRight s p .commit addr fun s => (cancelGlue s 2, 0x00)
    | _ => noField s p addr

/-- SPL_POLICE. -/
def writeSpl (s : State) (p : Requester) (addr v : Word) : RegRes :=
  if addr.toNat % 65536 ≠ 0x24 then noField s p addr
  else plain s p addr fun s =>
    let now := s.clock
    let f (q : RingPort) (k : Nat) : RingPort := { q with violSeen := q.violSeen && (!v.getLsbD k || q.violAt == some now) }
    s.onSpl fun x => { x with portE := f x.portE 16, portW := f x.portW 17 }

/-- DVT_CMD. -/
def writeDvt (s : State) (p : Requester) (addr v : Word) : RegRes :=
  if addr ≠ dvtCmdAddr then noField s p addr
  else if v.toNat % 256 = 1 then withRight s p .operate addr opHandover
  else badCode s p .operate addr

/-- The shadow, apply, start and commit registers are ME's alone (R147). -/
def isMeOnly (o : Nat) : Bool := decide (0x10 ≤ o ∧ o < 0x50) && o != 0x2C && o != 0x4C

/-- PWM_STATUS and the registers of ME. -/
def writePwm (s : State) (p : Requester) (addr v : Word) : RegRes :=
  let o := addr.toNat % 65536
  if isMeOnly o then conf s p addr fun s => (s, 0x01)
  else if o ≠ 0 then noField s p addr
  else plain s p addr fun s =>
    let now := s.clock
    let f (u : PulseUnit) (k : Nat) : PulseUnit :=
      { u with
        nostart := u.nostart && (!v.getLsbD k || u.nostartAt == some now)
        reject := u.reject && (!v.getLsbD (k + 2) || u.rejectAt == some now) }
    s.onPwm fun w => { w with a := f w.a 16, b := f w.b 17 }

/-- GLK_FLAGS, GLK_JIG_CTRL and GLK_JIG_TIME. -/
def writeGlk (s : State) (p : Requester) (addr v : Word) : RegRes :=
  match addr.toNat % 65536 with
  | 0x20 => plain s p addr fun s =>
      let now := s.clock
      s.onGlk fun g =>
        { g with links := Vector.ofFn fun i : Fin 4 =>
            let r := g.links[i]
            { r with flags := r.flags &&& ~~~((r.fresh.clears now (v >>> (8 * i.val))).truncate 8) } }
  | 0x40 => conf s p addr (asked (v.getLsbD 3) (opJigGo (v.toNat % 8)))
  | 0x44 => plain s p addr fun s => s.onGlk fun g => { g with jigTime := v &&& 0xFFFFFFFC }
  | _ => noField s p addr

/-- Clear the fired flags of the entries from base on that a mask names, but for those that fired in this clock (R8). -/
def clearFired (s : State) (base : Nat) (v : Word) : State :=
  let hit (e : Fin 64) : Bool := decide (base ≤ e.val ∧ e.val < base + 32) && v.getLsbD (e.val - base)
    && s.prt.entries[e].firedAt != some s.clock
  let cleared : Vector EntryRec 64 := Vector.ofFn fun e =>
    bif hit e then { s.prt.entries[e] with fired := false } else s.prt.entries[e]
  s.onPrt fun x => { x with entries := cleared }

/-- An entry index from six bits. -/
def entryOf (v : Word) : Fin 64 := ⟨v.toNat % 64, Nat.mod_lt _ (by decide)⟩

/-- PRT_FIRED, PRT_CLEAR and PRT_BYPASS_REQ. -/
def writePrt (s : State) (p : Requester) (addr v : Word) : RegRes :=
  match addr.toNat % 65536 with
  | 0x04 => plain s p addr fun s => clearFired s 0 v
  | 0x08 => plain s p addr fun s => clearFired s 32 v
  | 0x14 => withRight s p .clear addr fun s =>
      if v.getLsbD 31 then opPrtClearAll s else asked (v.getLsbD 8) (opPrtClearEntry (entryOf v)) s
  | 0x20 => withRight s p .operate addr (opBypassReq p v)
  | _ => noField s p addr

/-- A module index from five bits of a word. -/
def modOf (n : Nat) : Fin 32 := ⟨n % 32, Nat.mod_lt _ (by decide)⟩

/-- CHA_CMD, CHA_PARK and CHA_CLEAR. -/
def writeCha (s : State) (p : Requester) (c : ChainId) (addr v : Word) : RegRes :=
  let m := modOf v.toNat
  match addr.toNat % 65536 with
  | 0x04 => match v.toNat % 256 with
    | 1 => withRight s p .operate addr (opChaConnect c)
    | 2 => withRight s p .operate addr (opChaRun c)
    | 3 => withRight s p .operate addr (opChaBlock c)
    | 4 => withRight s p .operate addr (opChaDisconnect c)
    | _ => withRight s p .operate addr fun s => (s, if c == .b && s.noB then 0x00 else 0x07)
  | 0x60 => conf s p addr (asked (v.getLsbD 8) (opChaPark c m))
  | 0x64 => withRight s p .clear addr (both (asked (v.getLsbD 9) (opClearWeld c)) (asked (v.getLsbD 8) (opUnpark c m)))
  | _ => noField s p addr

/-- SNA_CMD. -/
def writeSna (s : State) (p : Requester) (c : ChainId) (addr v : Word) : RegRes :=
  if addr.toNat % 65536 ≠ 0x04 then noField s p addr
  else match v.toNat % 256 with
    | 1 => withRight s p .operate addr (opSnaWake c)
    | 2 => withRight s p .operate addr (opSnaSleep c)
    | _ => withRight s p .operate addr fun s => (s, if c == .b && s.noB then 0x00 else 0x07)

/-- The registers of a veneer window. -/
def writeVnr (s : State) (p : Requester) (c : ChainId) (addr v : Word) (o : Nat) : RegRes :=
  match o with
  | 0x08 => conf s p addr (asked (v.getLsbD 0) (opVnrPreset c))
  | 0x10 => plain s p addr fun s => if c == .b && s.noB then s else s.onEs c fun e => { e with vnrPreset := v.toInt }
  | 0x14 => plain s p addr fun s => if c == .b && s.noB then s else s.onEs c fun e => { e with vnrCap := v.toNat }
  | _ => noField s p addr

/-- EST_CMD and the veneer windows. -/
def writeEst (s : State) (p : Requester) (addr v : Word) : RegRes :=
  let o := addr.toNat % 65536
  let c : ChainId := if v.getLsbD 13 then .b else .a
  if o = 0x38 then
    match v.toNat % 256 with
    | 1 => withRight s p .operate addr opEstCheckpoint
    | 2 => withRight s p .clear addr (opEstReset c (modOf (v.toNat / 256)))
    | _ => badCode s p .configure addr
  else if 0xC100 ≤ o then writeVnr s p .b addr v (o - 0xC100)
  else if 0xC000 ≤ o then writeVnr s p .a addr v (o - 0xC000)
  else noField s p addr

/-- THM_HEAT_CMD and THM_CLEAR. -/
def writeThm (s : State) (p : Requester) (addr v : Word) : RegRes :=
  match addr.toNat % 65536 with
  | 0x74 => withRight s p .operate addr (opThmHeat (v.toNat / 256 % 16) (v.toNat % 4))
  | 0x78 =>
    let c : ChainId := if v.getLsbD 4 then .b else .a
    serviceOnly s p addr (both (asked (v.getLsbD 0) (opThmRelease c)) (asked (v.getLsbD 1) opThmErase))
  | _ => noField s p addr

/-- LSW_CMD, LSW_CLEAR and LSW_SENSE. -/
def writeLsw (s : State) (p : Requester) (addr v : Word) : RegRes :=
  match addr.toNat % 65536 with
  | 0x08 => withRight s p .operate addr (opLswCmd (v.toNat % 16) (v.toNat / 256 % 4)) (s.namesLamp (v.toNat % 16))
  | 0x0C => withRight s p .clear addr (opLswClear (v.truncate 12))
  | 0x10 => conf s p addr (opLswSense (v.truncate 4))
  | _ => noField s p addr

/-- Update of the staging window of a port. -/
def onWin (s : State) (p : Requester) (f : TxWin → TxWin) : State :=
  s.onLbus fun l => { l with win := l.win.set p.idx (f l.win[p.idx]) }

/-- LBUS_ block. -/
def writeLbus (s : State) (p : Requester) (addr v : Word) : RegRes :=
  match addr.toNat % 65536 with
  | 0x04 => if v.toNat % 256 = 1 then withRight s p .operate addr opLbusRecover else badCode s p .operate addr
  | 0x10 => plain s p addr fun s => onWin s p fun w => { w with id := v.truncate 29 }
  | 0x14 => plain s p addr fun s => onWin s p fun w => { w with ctrl := v.truncate 7 }
  | 0x18 => withRight s p .operate addr (opLbusGo p ⟨v.toNat % 16, Nat.mod_lt _ (by decide)⟩)
  | 0x1C => withRight s p .operate addr (opLbusCancel (v.truncate 16))
  | 0x24 => plain s p addr fun s =>
      let w := s.lbus.doneFresh.clears s.clock v
      s.onLbus fun l => { l with ended := l.ended &&& ~~~((w >>> 16).truncate 16), sent := l.sent &&& ~~~(w.truncate 16) }
  | 0x30 => plain s p addr fun s =>
      let now := s.clock
      s.onLbus fun l => { l with rxOverrun := l.rxOverrun && (!v.getLsbD 16 || l.overrunAt == some now) }
  | 0x34 => plain s p addr fun s => s.onLbus fun l => { l with rxSel := l.rxSel.set p.idx (v.toNat % 64) }
  | 0x44 => withRight s p .operate addr (opLbusAck (entryOf v))
  | o => match regIdx 0x80 4 16 o with
    | some j => plain s p addr fun s => onWin s p fun w =>
        { w with data := if h : j < 16 then w.data.set j v else w.data }
    | none => noField s p addr

/-- PWR_CMD, PWR_ECC_STATUS and PWR_DCQ_FLAGS. -/
def writePwr (s : State) (p : Requester) (addr v : Word) : RegRes :=
  match addr.toNat % 65536 with
  | 0x010 => match v.toNat % 256 with
    | 1 => withRight s p .operate addr opPwrRun
    | 2 => withRight s p .operate addr opPwrWarm
    | 3 => withRight s p .operate addr opPwrCold
    | 4 => withRight s p .operate addr opPwrHibernate
    | 5 => withRight s p .clear addr opPwrClearVbak
    | _ => badCode s p .operate addr
  | 0x110 => plain s p addr fun s =>
      let w := s.eng.ueFresh.clears s.clock v
      s.onEng fun e =>
        { e with
          nvmUe := e.nvmUe && !w.getLsbD 26
          tcmUe := e.tcmUe && !w.getLsbD 25
          sramUe := e.sramUe && !w.getLsbD 24 }
  | 0x120 => plain s p addr fun s =>
      let w := s.eng.dcqFresh.clears s.clock v
      let now := s.clock
      (s.onEng fun e => { e with dcqFlags := e.dcqFlags &&& ~~~(w.truncate 26) }).onEvt fun e =>
        { e with hwFull := e.hwFull && !(v.getLsbD 25 && e.hwFullAt != some now) }
  | _ => noField s p addr

/-- SEC_CMD, SEC_CERT_SEL and SEC_NONCE. -/
def writeSec (s : State) (p : Requester) (addr v : Word) : RegRes :=
  match addr.toNat % 65536 with
  | 0x04 => match v.toNat % 256 with
    | 1 => withRight s p .read addr opAttest
    | 2 => if p == .service then withRight s p .identity addr opStepField else (deny s p .identity addr, 0x02)
    | _ => badCode s p .configure addr
  | 0x30 => plain s p addr fun s => s.onSec fun x => { x with certSel := x.certSel.set p.idx (v.toNat % 8) }
  | o => match regIdx 0x40 4 8 o with
    | some j => plain s p addr fun s => s.onSec fun x =>
        { x with nonce := if h : j < 8 then x.nonce.set j v else x.nonce }
    | none => noField s p addr

/-- MNT_START: the activity that a code names. -/
def startCode (s : State) (p : Requester) (addr v : Word) : RegRes :=
  let c : ChainId := if v.getLsbD 13 then .b else .a
  let m := modOf (v.toNat / 256)
  match v.toNat % 256 with
  | 1 => withRight s p .operate addr (opMntLearn p c m)
  | 2 => withRight s p .configure addr (opMntSentUpdate p c m)
  | 3 => withRight s p .test addr (opMntGateTest p c m)
  | 4 => withRight s p .test addr (opMntJig p c m)
  | 5 => withRight s p .test addr (opMntPrecharge p c m)
  | 6 => withRight s p .test addr (opMntContTest p c m)
  | 7 => withRight s p .operate addr (opMntHeaterTest p c m)
  | 8 => withRight s p .read addr (opMntRecordExport p c m)
  | _ => badCode s p .configure addr

/-- MNT_ block. -/
def writeMnt (s : State) (p : Requester) (addr v : Word) : RegRes :=
  match addr.toNat % 65536 with
  | 0x00 => plain s p addr fun s => s.onMnt fun x => { x with argMask := x.argMask.set p.idx v }
  | 0x04 => plain s p addr fun s => s.onMnt fun x => { x with argValue := x.argValue.set p.idx v }
  | 0x08 => startCode s p addr v
  | 0x0C => opMntStop p ⟨v.toNat % 4, Nat.mod_lt _ (by decide)⟩ s
  | _ => noField s p addr

/-- EVT_SEL. -/
def writeEvt (s : State) (p : Requester) (addr v : Word) : RegRes :=
  if addr = evtSelAddr then conf s p addr (opEvtSel p (v.toNat % 2 ^ 24)) else noField s p addr

/-- A register write with its status (R362, R363). -/
def regWrite (s : State) (p : Requester) (addr v : Word) : RegRes :=
  if addr.toNat % 4 ≠ 0 then (s, 0x07)
  else if (readReg s p addr).isNone then (s, 0x03)
  else match addr.toNat / 65536 with
    | 0x01 => writeImg s p addr v
    | 0x02 => writeSpl s p addr v
    | 0x04 => writePwm s p addr v
    | 0x05 => writeGlk s p addr v
    | 0x06 => writeCha s p .a addr v
    | 0x07 => writeCha s p .b addr v
    | 0x08 => writeSna s p .a addr v
    | 0x09 => writeSna s p .b addr v
    | 0x0A => writeEst s p addr v
    | 0x0B => writeThm s p addr v
    | 0x0C => writePrt s p addr v
    | 0x0D => writeLsw s p addr v
    | 0x0E => writeLbus s p addr v
    | 0x0F => writePwr s p addr v
    | 0x10 => writeSec s p addr v
    | 0x11 => writeMnt s p addr v
    | 0x12 => writeEvt s p addr v
    | 0x13 => writeDvt s p addr v
    | _ => noField s p addr

/-- A register operation of Table 04.11: 1 read, 2 write, others malformed. -/
def regOperate (s : State) (p : Requester) (op : Nat) (addr v : Word) : State × Nat × Word :=
  match op with
  | 1 => regRead s p addr
  | 2 =>
    let r := regWrite s p addr v
    (r.1, r.2, 0)
  | _ => (s, 0x07, 0)

/-! ### The rows -/

/-- A read of a port with its answer. -/
def readCmd (s : State) (p : Requester) (addr : Word) : State :=
  if s.portOpen p then
    let r := regRead s p addr
    send r.1 (.value p r.2.1 r.2.2)
  else s

/-- READ_LOW_WORD_LATCH (R7). -/
def execReadLowWordLatch (p : Requester) (addr : Word) (s : State) : Res := .next (readCmd s p addr)

/-- RC_READ (R8). -/
def execRcRead (p : Requester) (addr : Word) (s : State) : Res := .next (readCmd s p addr)

/-- REGISTER_WRITE (R362). -/
def execRegisterWrite (p : Requester) (addr value : Word) (s : State) : Res :=
  .next (regCmd s p fun s => regWrite s p addr value)

end Sys2Proof.Machine
end

