-- ==== Sys2Proof/Machine/Requests.lean ====
section
/-! DEFINITION. Register operations as the ports bring them: queued on the Spline (spec/04 R87), in service frames
(spec/15 R353) and in requests of the local bus (spec/13 R315). Rows 55, 178 and 190. -/

set_option Elab.async false

namespace Sys2Proof.Machine

/-- The result of an operation (Table 04.12). -/
def resultOf (o : RegOp) (r : State × Nat × Word) : RegRsp :=
  { tag := o.tag, status := BitVec.ofNat 8 r.2.1, addr := o.addr, data := r.2.2 }

/-- REG_OP_EXECUTE (R87): the oldest operation held. An operation that resets the device gives no answer. -/
def execRegOpExecute (s : State) : Res :=
  match s.spl.regQueue with
  | [] => .next s
  | h :: rest =>
    if !s.portOpen .spline then .next s
    else
      let r := regOperate (s.onSpl fun x => { x with regQueue := rest }) .spline h.op.op.toNat h.op.addr h.op.data
      if r.1.dev.phase == s.dev.phase then
        .next (r.1.onSpl fun x => { x with ansResults := x.ansResults ++ [resultOf h.op r] })
      else .next r.1

/-- The operations of one service frame, in order, up to one that resets the device. -/
def runOps (s : State) : List RegOp → State × List RegRsp
  | [] => (s, [])
  | o :: os =>
    let r := regOperate s .service o.op.toNat o.addr o.data
    if r.1.dev.phase == s.dev.phase then
      let t := runOps r.1 os
      (t.1, resultOf o r :: t.2)
    else (r.1, [])

/-- The 16 bytes of an operation (Table 04.11). -/
def opBytes (o : RegOp) : List Byte :=
  natBytes 2 o.dest.toNat ++ natBytes 2 o.tag.toNat ++ natBytes 1 o.op.toNat ++ natBytes 3 0
    ++ natBytes 4 o.addr.toNat ++ natBytes 4 o.data.toNat

/-- SVC_REG_REQ (R353, Table 15.8): 1 to 16 operations, answered with one result each. A frame with another number of
operations is no REG_REQ of Table 15.8 and gets ACK with 0x07 (DESIGN CHOICE, log entry 34). -/
def execSvcRegReq (seq : Nat) (ops : List RegOp) (s : State) : Res :=
  .next (serviceRequest s seq (1#8 :: ops.flatMap opBytes) fun s =>
    if ops.length = 0 || 16 < ops.length then (s, .ack 7#8 0)
    else
      let r := runOps s ops
      (r.1, .regRsp r.2))

/-- The answer frame of a local-bus request (Table 13.1): TAG, STATUS, 0, ADDR, DATA. -/
def answerFrame (s : State) (q : SvcReq) (r : State × Nat × Word) : CanFrame :=
  { id := BitVec.ofNat 29 (s.im.svcBase + 1)
    xtd := false
    fdf := true
    brs := false
    esi := false
    rtr := false
    dlc := 9
    data := natBytes 2 q.tag.toNat ++ natBytes 1 r.2.1 ++ natBytes 1 0 ++ natBytes 4 q.addr.toNat ++ natBytes 4 r.2.2.toNat
    stamp := 0 }

/-- LBUS_SERVICE_REQUEST (R315): the oldest request is executed and answered in buffer 14, when that is free. One that
found 4 held is answered with 0x06 alone. -/
def execLbusServiceRequest (s : State) : Res :=
  match s.lbus.svcQ with
  | [] => .next s
  | q :: rest =>
    if !s.portOpen .lbus || s.lbus.bufs[14].st ≠ 0 then .next s
    else
      let s1 := s.onLbus fun b => { b with svcQ := rest }
      let r := if q.refused then (s1, 0x06, 0) else regOperate s1 .lbus q.op.toNat q.addr q.data
      if r.1.dev.phase == s.dev.phase then .next (loadBuf r.1 14 (answerFrame s q r)) else .next r.1

end Sys2Proof.Machine
end

