-- ==== Sys2Proof/Machine/Dispatch.lean ====
section
/-! DEFINITION. The dispatcher: one arm per command, each a direct call of its meaning. -/

namespace Sys2Proof.Machine

/-- The effect of a command on everything but the queue. -/
def exec (i : Instr) (s : State) : Host.Outcome State Fault Refusal :=
  match i with
  | .powerOnResetRelease vsys vbak roleSel senseSrc bypClosed => Sys2Proof.Machine.execPowerOnResetRelease vsys vbak roleSel senseSrc bypClosed s
  | .bootSlotVerifyComplete => Sys2Proof.Machine.execBootSlotVerifyComplete s
  | .ringReady => Sys2Proof.Machine.execRingReady s
  | .memberBTokenWaitExpiry => Sys2Proof.Machine.execMemberBTokenWaitExpiry s
  | .vsysPlinthSample vsys => Sys2Proof.Machine.execVsysPlinthSample vsys s
  | .stage4HandoffTimeout => Sys2Proof.Machine.execStage4HandoffTimeout s
  | .stageRestore => Sys2Proof.Machine.execStageRestore s
  | .stage1ChannelRestore => Sys2Proof.Machine.execStage1ChannelRestore s
  | .resetComparatorTrip => Sys2Proof.Machine.execResetComparatorTrip s
  | .vbakOutOfRange vbak => Sys2Proof.Machine.execVbakOutOfRange vbak s
  | .vauxLowDetect vaux => Sys2Proof.Machine.execVauxLowDetect vaux s
  | .vauxLowClear vaux => Sys2Proof.Machine.execVauxLowClear vaux s
  | .resetNLow => Sys2Proof.Machine.execResetNLow s
  | .pwrCmdRun p => Sys2Proof.Machine.execPwrCmdRun p s
  | .pwrCmdWarm p => Sys2Proof.Machine.execPwrCmdWarm p s
  | .pwrCmdCold p => Sys2Proof.Machine.execPwrCmdCold p s
  | .pwrCmdHibernate p => Sys2Proof.Machine.execPwrCmdHibernate p s
  | .hibernateEnter => Sys2Proof.Machine.execHibernateEnter s
  | .pwrCmdClearVbak p => Sys2Proof.Machine.execPwrCmdClearVbak p s
  | .hibWakeTimerExpiry => Sys2Proof.Machine.execHibWakeTimerExpiry s
  | .hibCciWake c => Sys2Proof.Machine.execHibCciWake c s
  | .lbusWake frame => Sys2Proof.Machine.execLbusWake frame s
  | .engineWatchdogExpiry e stray => Sys2Proof.Machine.execEngineWatchdogExpiry e stray s
  | .engineRestartComplete e => Sys2Proof.Machine.execEngineRestartComplete e s
  | .warmResetResume => Sys2Proof.Machine.execWarmResetResume s
  | .clampHoldTimeout => Sys2Proof.Machine.execClampHoldTimeout s
  | .clampHoldStage3End => Sys2Proof.Machine.execClampHoldStage3End s
  | .lockstepMismatch se => Sys2Proof.Machine.execLockstepMismatch se s
  | .eccUncorrectable mem addr reader n => Sys2Proof.Machine.execEccUncorrectable mem addr reader n s
  | .sramScrubStep r => Sys2Proof.Machine.execSramScrubStep r s
  | .plinthFreqMeasure hz => Sys2Proof.Machine.execPlinthFreqMeasure hz s
  | .imgCmdStageBegin p len => Sys2Proof.Machine.execImgCmdStageBegin p len s
  | .imgCmdStageEnd p => Sys2Proof.Machine.execImgCmdStageEnd p s
  | .imgCmdDryfit p => Sys2Proof.Machine.execImgCmdDryfit p s
  | .imgCmdAbort p => Sys2Proof.Machine.execImgCmdAbort p s
  | .stagingChunk port b => Sys2Proof.Machine.execStagingChunk port b s
  | .dryfitComplete => Sys2Proof.Machine.execDryfitComplete s
  | .glueUpSwitch => Sys2Proof.Machine.execGlueUpSwitch s
  | .glueRestartComplete => Sys2Proof.Machine.execGlueRestartComplete s
  | .splBlockLock port locked => Sys2Proof.Machine.execSplBlockLock port locked s
  | .splPortUp port => Sys2Proof.Machine.execSplPortUp port s
  | .splPortDown port cause => Sys2Proof.Machine.execSplPortDown port cause s
  | .helloRx port x => Sys2Proof.Machine.execHelloRx port x s
  | .shimPingTimer => Sys2Proof.Machine.execShimPingTimer s
  | .shimPingRx port x turnaround => Sys2Proof.Machine.execShimPingRx port x turnaround s
  | .shimEchoRx port x roundTrip => Sys2Proof.Machine.execShimEchoRx port x roundTrip s
  | .urgentArmBlock port x => Sys2Proof.Machine.execUrgentArmBlock port x s
  | .urgentBypassAll port x => Sys2Proof.Machine.execUrgentBypassAll port x s
  | .urgentResume port x => Sys2Proof.Machine.execUrgentResume port x s
  | .frameForward port b residence cut => Sys2Proof.Machine.execFrameForward port b residence cut s
  | .portReadmit port => Sys2Proof.Machine.execPortReadmit port s
  | .armCycleRx port b => Sys2Proof.Machine.execArmCycleRx port b s
  | .cellStatusRx port b => Sys2Proof.Machine.execCellStatusRx port b s
  | .armSummaryRx port b => Sys2Proof.Machine.execArmSummaryRx port b s
  | .regReqRx port b => Sys2Proof.Machine.execRegReqRx port b s
  | .regOpExecute => Sys2Proof.Machine.execRegOpExecute s
  | .ownFrameFreeze slot cycle complete => Sys2Proof.Machine.execOwnFrameFreeze slot cycle complete s
  | .ownFrameLaunch port => Sys2Proof.Machine.execOwnFrameLaunch port s
  | .holdoverEntry cause => Sys2Proof.Machine.execHoldoverEntry cause s
  | .holdoverExpiry => Sys2Proof.Machine.execHoldoverExpiry s
  | .refFrameCommit => Sys2Proof.Machine.execRefFrameCommit s
  | .cycleBoundary => Sys2Proof.Machine.execCycleBoundary s
  | .pwmCommit leg => Sys2Proof.Machine.execPwmCommit leg s
  | .pwmReplaceCommit leg => Sys2Proof.Machine.execPwmReplaceCommit leg s
  | .pulseUnitStart leg => Sys2Proof.Machine.execPulseUnitStart leg s
  | .pulseReload leg => Sys2Proof.Machine.execPulseReload leg s
  | .glStatusFrameRx link bits check => Sys2Proof.Machine.execGlStatusFrameRx link bits check s
  | .glStatusLost link => Sys2Proof.Machine.execGlStatusLost link s
  | .peAssessment vCap iTerm => Sys2Proof.Machine.execPeAssessment vCap iTerm s
  | .fireDelayExpiry => Sys2Proof.Machine.execFireDelayExpiry s
  | .bypStatClosed => Sys2Proof.Machine.execBypStatClosed s
  | .bypCloseTimeout => Sys2Proof.Machine.execBypCloseTimeout s
  | .offStateDiagStart => Sys2Proof.Machine.execOffStateDiagStart s
  | .offStateDiagComplete => Sys2Proof.Machine.execOffStateDiagComplete s
  | .legRetestComplete => Sys2Proof.Machine.execLegRetestComplete s
  | .takeHoldTimeout => Sys2Proof.Machine.execTakeHoldTimeout s
  | .glkJigGo p sw => Sys2Proof.Machine.execGlkJigGo p sw s
  | .jigPulseEnd => Sys2Proof.Machine.execJigPulseEnd s
  | .comparatorCrossing n input lasted => Sys2Proof.Machine.execComparatorCrossing n input lasted s
  | .comparatorReturn n input => Sys2Proof.Machine.execComparatorReturn n input s
  | .tripInAssert => Sys2Proof.Machine.execTripInAssert s
  | .tripInCountWaitExpiry => Sys2Proof.Machine.execTripInCountWaitExpiry s
  | .tripOutRelease => Sys2Proof.Machine.execTripOutRelease s
  | .reactionAutoRelease e => Sys2Proof.Machine.execReactionAutoRelease e s
  | .measLostOpenExpiry c => Sys2Proof.Machine.execMeasLostOpenExpiry c s
  | .prtClearEntry p e => Sys2Proof.Machine.execPrtClearEntry p e s
  | .prtClearAll p => Sys2Proof.Machine.execPrtClearAll p s
  | .prtBypassReq p value => Sys2Proof.Machine.execPrtBypassReq p value s
  | .heartbeatSend => Sys2Proof.Machine.execHeartbeatSend s
  | .heartbeatRx x => Sys2Proof.Machine.execHeartbeatRx x s
  | .heartbeatTimeout => Sys2Proof.Machine.execHeartbeatTimeout s
  | .stateMirrorSend => Sys2Proof.Machine.execStateMirrorSend s
  | .stateMirrorRx m => Sys2Proof.Machine.execStateMirrorRx m s
  | .dvtCmdHandover p => Sys2Proof.Machine.execDvtCmdHandover p s
  | .tokenGiveRx gen tH => Sys2Proof.Machine.execTokenGiveRx gen tH s
  | .tokenAckRx gen => Sys2Proof.Machine.execTokenAckRx gen s
  | .handoverSwitch => Sys2Proof.Machine.execHandoverSwitch s
  | .handoverAckTimeout => Sys2Proof.Machine.execHandoverAckTimeout s
  | .dvtLinkDown => Sys2Proof.Machine.execDvtLinkDown s
  | .dvtLinkUp => Sys2Proof.Machine.execDvtLinkUp s
  | .currentLoopTick c iv vCap vCh => Sys2Proof.Machine.execCurrentLoopTick c iv vCap vCh s
  | .trimPeriodStaircase c => Sys2Proof.Machine.execTrimPeriodStaircase c s
  | .sampleStrobe c iv vCap vCh run hib shunt => Sys2Proof.Machine.execSampleStrobe c iv vCap vCh run hib shunt s
  | .overBudgetTick c mean => Sys2Proof.Machine.execOverBudgetTick c mean s
  | .chaCmdConnect p c => Sys2Proof.Machine.execChaCmdConnect p c s
  | .chaCmdRun p c => Sys2Proof.Machine.execChaCmdRun p c s
  | .chaCmdBlock p c => Sys2Proof.Machine.execChaCmdBlock p c s
  | .chaCmdDisconnect p c => Sys2Proof.Machine.execChaCmdDisconnect p c s
  | .connectStepTimer c => Sys2Proof.Machine.execConnectStepTimer c s
  | .prechargeTargetReached c => Sys2Proof.Machine.execPrechargeTargetReached c s
  | .prechargeTimeout c => Sys2Proof.Machine.execPrechargeTimeout c s
  | .prechargeCooldownEnd c => Sys2Proof.Machine.execPrechargeCooldownEnd c s
  | .zeroingComplete c => Sys2Proof.Machine.execZeroingComplete c s
  | .protectiveZeroBlock c => Sys2Proof.Machine.execProtectiveZeroBlock c s
  | .openingStepTimer c => Sys2Proof.Machine.execOpeningStepTimer c s
  | .forcedOpen c => Sys2Proof.Machine.execForcedOpen c s
  | .chaParkGo p c m => Sys2Proof.Machine.execChaParkGo p c m s
  | .parkExecute c m => Sys2Proof.Machine.execParkExecute c m s
  | .chaClearUnpark p c m => Sys2Proof.Machine.execChaClearUnpark p c m s
  | .chaClearWeld p c => Sys2Proof.Machine.execChaClearWeld p c s
  | .learnHalfPeriod c => Sys2Proof.Machine.execLearnHalfPeriod c s
  | .snaCmdWake p c => Sys2Proof.Machine.execSnaCmdWake p c s
  | .snaCmdSleep p c => Sys2Proof.Machine.execSnaCmdSleep p c s
  | .enumStart c => Sys2Proof.Machine.execEnumStart c s
  | .enumReturn c b => Sys2Proof.Machine.execEnumReturn c b s
  | .enumerationComplete c => Sys2Proof.Machine.execEnumerationComplete c s
  | .strobeLaunch c res => Sys2Proof.Machine.execStrobeLaunch c res s
  | .sampleRx c b => Sys2Proof.Machine.execSampleRx c b s
  | .srsRx c b => Sys2Proof.Machine.execSrsRx c b s
  | .pongRx c b roundTrip => Sys2Proof.Machine.execPongRx c b roundTrip s
  | .pingTimer c => Sys2Proof.Machine.execPingTimer c s
  | .sampleSetComplete c => Sys2Proof.Machine.execSampleSetComplete c s
  | .owTestTimer c => Sys2Proof.Machine.execOwTestTimer c s
  | .sentinelSilent c m => Sys2Proof.Machine.execSentinelSilent c m s
  | .lostModulePoll c m => Sys2Proof.Machine.execLostModulePoll c m s
  | .bswTestIssue c m cell => Sys2Proof.Machine.execBswTestIssue c m cell s
  | .eeMillisecondCount c => Sys2Proof.Machine.execEeMillisecondCount c s
  | .anchorTimerExpiry c m k full => Sys2Proof.Machine.execAnchorTimerExpiry c m k full s
  | .limitsPublish => Sys2Proof.Machine.execLimitsPublish s
  | .limitsStale c => Sys2Proof.Machine.execLimitsStale c s
  | .balanceTick c => Sys2Proof.Machine.execBalanceTick c s
  | .ocvRestExpiry c m k => Sys2Proof.Machine.execOcvRestExpiry c m k s
  | .checkpointTimer => Sys2Proof.Machine.execCheckpointTimer s
  | .countPeriodTimer => Sys2Proof.Machine.execCountPeriodTimer s
  | .recordWriteStart kind => Sys2Proof.Machine.execRecordWriteStart kind s
  | .estCmdCheckpoint p => Sys2Proof.Machine.execEstCmdCheckpoint p s
  | .estCmdResetModule p c m => Sys2Proof.Machine.execEstCmdResetModule p c m s
  | .vnrCtrlPreset p c => Sys2Proof.Machine.execVnrCtrlPreset p c s
  | .scanStep inputs => Sys2Proof.Machine.execScanStep inputs s
  | .sensorReturn c m t => Sys2Proof.Machine.execSensorReturn c m t s
  | .coldShutdownEnd c => Sys2Proof.Machine.execColdShutdownEnd c s
  | .hotReleaseReady c => Sys2Proof.Machine.execHotReleaseReady c s
  | .heaterStagger => Sys2Proof.Machine.execHeaterStagger s
  | .thmHeatCmd p ch action => Sys2Proof.Machine.execThmHeatCmd p ch action s
  | .heatOverrideExpiry ch => Sys2Proof.Machine.execHeatOverrideExpiry ch s
  | .thmClearRelease p c => Sys2Proof.Machine.execThmClearRelease p c s
  | .thmClearErase p => Sys2Proof.Machine.execThmClearErase p s
  | .tillRecordWrite => Sys2Proof.Machine.execTillRecordWrite s
  | .lswCmd p ch action => Sys2Proof.Machine.execLswCmd p ch action s
  | .lswClear p mask => Sys2Proof.Machine.execLswClear p mask s
  | .lswSenseSelect p code => Sys2Proof.Machine.execLswSenseSelect p code s
  | .currentLimitReached ch current => Sys2Proof.Machine.execCurrentLimitReached ch current s
  | .limitTimeExpiry ch => Sys2Proof.Machine.execLimitTimeExpiry ch s
  | .junctionOvertemp ch tj => Sys2Proof.Machine.execJunctionOvertemp ch tj s
  | .inrushWindowEnd ch => Sys2Proof.Machine.execInrushWindowEnd ch s
  | .retryPauseEnd ch => Sys2Proof.Machine.execRetryPauseEnd ch s
  | .retryCountReset ch => Sys2Proof.Machine.execRetryCountReset ch s
  | .clusterSensorSample cl temp tjs is => Sys2Proof.Machine.execClusterSensorSample cl temp tjs is s
  | .coilShedDelayExpiry ch => Sys2Proof.Machine.execCoilShedDelayExpiry ch s
  | .clusterRestoreStagger cl => Sys2Proof.Machine.execClusterRestoreStagger cl s
  | .econPullEnd ch => Sys2Proof.Machine.execEconPullEnd ch s
  | .openLoadOnDetect ch => Sys2Proof.Machine.execOpenLoadOnDetect ch s
  | .offStateLoadTest ch vout => Sys2Proof.Machine.execOffStateLoadTest ch vout s
  | .lbusTxGo p b => Sys2Proof.Machine.execLbusTxGo p b s
  | .lbusTxCancel p mask => Sys2Proof.Machine.execLbusTxCancel p mask s
  | .canTxComplete b delay => Sys2Proof.Machine.execCanTxComplete b delay s
  | .canTxAttemptFail b why => Sys2Proof.Machine.execCanTxAttemptFail b why s
  | .canFrameRx f => Sys2Proof.Machine.execCanFrameRx f s
  | .lbusServiceRequest => Sys2Proof.Machine.execLbusServiceRequest s
  | .lbusRxAck p e => Sys2Proof.Machine.execLbusRxAck p e s
  | .lbusStatusPeriod => Sys2Proof.Machine.execLbusStatusPeriod s
  | .lbusBusOff => Sys2Proof.Machine.execLbusBusOff s
  | .busoffHoldExpiry => Sys2Proof.Machine.execBusoffHoldExpiry s
  | .busOffRecovered => Sys2Proof.Machine.execBusOffRecovered s
  | .lbusCmdRecover p => Sys2Proof.Machine.execLbusCmdRecover p s
  | .secCmdAttest p => Sys2Proof.Machine.execSecCmdAttest p s
  | .attestSigned => Sys2Proof.Machine.execAttestSigned s
  | .secCmdStepField p => Sys2Proof.Machine.execSecCmdStepField p s
  | .secCounterWrite => Sys2Proof.Machine.execSecCounterWrite s
  | .enrolmentObject object => Sys2Proof.Machine.execEnrolmentObject object s
  | .svcRegReq seq ops => Sys2Proof.Machine.execSvcRegReq seq ops s
  | .svcBulk seq stream off data => Sys2Proof.Machine.execSvcBulk seq stream off data s
  | .svcFrameGapTimeout => Sys2Proof.Machine.execSvcFrameGapTimeout s
  | .svcFrameCrcFail seq => Sys2Proof.Machine.execSvcFrameCrcFail seq s
  | .jtagTapReset => Sys2Proof.Machine.execJtagTapReset s
  | .jtagInstruction iv => Sys2Proof.Machine.execJtagInstruction iv s
  | .mntStartLearn p c m => Sys2Proof.Machine.execMntStartLearn p c m s
  | .mntStartSentUpdate p c m => Sys2Proof.Machine.execMntStartSentUpdate p c m s
  | .mntStartGateTest p c m => Sys2Proof.Machine.execMntStartGateTest p c m s
  | .mntStartJig p c m => Sys2Proof.Machine.execMntStartJig p c m s
  | .mntStartPrecharge p c m => Sys2Proof.Machine.execMntStartPrecharge p c m s
  | .mntStartContTest p c m => Sys2Proof.Machine.execMntStartContTest p c m s
  | .mntStartHeaterTest p c m => Sys2Proof.Machine.execMntStartHeaterTest p c m s
  | .mntStartRecordExport p c m => Sys2Proof.Machine.execMntStartRecordExport p c m s
  | .mntStop p slot => Sys2Proof.Machine.execMntStop p slot s
  | .actTimeoutExpiry slot => Sys2Proof.Machine.execActTimeoutExpiry slot s
  | .activityComplete slot => Sys2Proof.Machine.execActivityComplete slot s
  | .eventLogCopy => Sys2Proof.Machine.execEventLogCopy s
  | .evtSelWrite p seq => Sys2Proof.Machine.execEvtSelWrite p seq s
  | .readLowWordLatch p addr => Sys2Proof.Machine.execReadLowWordLatch p addr s
  | .rcRead p addr => Sys2Proof.Machine.execRcRead p addr s
  | .registerWrite p addr value => Sys2Proof.Machine.execRegisterWrite p addr value s
  | .tripInRelease => Sys2Proof.Machine.execTripInRelease s
  | .pulseCompareEdge leg => Sys2Proof.Machine.execPulseCompareEdge leg s
  | .kerfTurnOn leg => Sys2Proof.Machine.execKerfTurnOn leg s
  | .testWindowExpiry => Sys2Proof.Machine.execTestWindowExpiry s
  | .nvmWriteComplete => Sys2Proof.Machine.execNvmWriteComplete s
  | .stageEraseComplete => Sys2Proof.Machine.execStageEraseComplete s
  | .lbusRxError dominant => Sys2Proof.Machine.execLbusRxError dominant s
  | .lbusBusIdle => Sys2Proof.Machine.execLbusBusIdle s
  | .heaterTestChannelEnd => Sys2Proof.Machine.execHeaterTestChannelEnd s
  | .senseSelPinChange code => Sys2Proof.Machine.execSenseSelPinChange code s

end Sys2Proof.Machine
end

