-- ==== Sys2Proof/Safety.lean ====
section
/-! DEFINITION. The terms that the statements use: which parts of the state a command may change, and the facts
about the event log and the non-volatile memory that every step keeps. -/

set_option Elab.async false

namespace Sys2Proof.Machine

/-- The parts of the state that a frame names: the register blocks; apart from the rest of their blocks, the part
number (`part`) and start-up phase (`phase`) of the device, the image slots of the non-volatile memory (`slots`) and
the image in force (`image`), the published cell state and its count (`cell`), the ownership token (`token`) and the
bypass mark (`bypass`) of the arm, the shedding stages (`stages`), the lifecycle state (`life`), the leg records (`legs`),
the sources that are active (`raised`), the copied part of the event log (`log`), the requests and the read-back of the
bypass outputs (`switch`) and the thermal shutdowns (`shutdown`); and the model's own fields. A list that names a block, but not such a part of it, says that the part keeps its value. -/
inductive Block
  | part | phase | dev | eng | slots | image | img | spl | tim | meas | cell | token | bypass | arm
  | pwm | glk | chA | chB | snA | snB | esA | esB | est | thm | prt | dvt | lsw | lbus | stages | pwr
  | life | sec | mnt | evt | req | clock | free | outbox | pending | legs | raised | log | switch
  | shutdown
deriving DecidableEq, Repr

/-- The part is the same in two states. -/
def Block.same : Block → State → State → Prop
  | .part, s, t => t.dev.part = s.dev.part
  | .phase, s, t => t.dev.phase = s.dev.phase
  | .dev, s, t => t.dev = s.dev
  | .eng, s, t => t.eng = s.eng
  | .slots, s, t => t.img.slotA = s.img.slotA ∧ t.img.slotB = s.img.slotB
  | .image, s, t => t.img.active = s.img.active
  | .img, s, t => t.img = s.img
  | .spl, s, t => t.spl = s.spl
  | .tim, s, t => t.tim = s.tim
  | .meas, s, t => t.meas = s.meas
  | .cell, s, t => t.arm.cell = s.arm.cell ∧ t.arm.changes = s.arm.changes
  | .token, s, t => t.arm.owner = s.arm.owner
  | .bypass, s, t => t.arm.bypassed = s.arm.bypassed
  | .arm, s, t => t.arm = s.arm
  | .pwm, s, t => t.pwm = s.pwm
  | .glk, s, t => t.glk = s.glk
  | .chA, s, t => t.chA = s.chA
  | .chB, s, t => t.chB = s.chB
  | .snA, s, t => t.snA = s.snA
  | .snB, s, t => t.snB = s.snB
  | .esA, s, t => t.esA = s.esA
  | .esB, s, t => t.esB = s.esB
  | .est, s, t => t.est = s.est
  | .thm, s, t => t.thm = s.thm
  | .prt, s, t => t.prt = s.prt
  | .dvt, s, t => t.dvt = s.dvt
  | .lsw, s, t => t.lsw = s.lsw
  | .lbus, s, t => t.lbus = s.lbus
  | .stages, s, t => t.pwr.s1 = s.pwr.s1 ∧ t.pwr.s2 = s.pwr.s2 ∧ t.pwr.s3 = s.pwr.s3 ∧ t.pwr.s4 = s.pwr.s4
  | .pwr, s, t => t.pwr = s.pwr
  | .life, s, t => t.sec.life = s.sec.life
  | .sec, s, t => t.sec = s.sec
  | .mnt, s, t => t.mnt = s.mnt
  | .evt, s, t => t.evt = s.evt
  | .req, s, t => t.req = s.req
  | .clock, s, t => t.clock = s.clock
  | .free, s, t => t.free = s.free
  | .outbox, s, t => t.outbox = s.outbox
  | .pending, s, t => t.pending = s.pending
  | .legs, s, t => t.glk.legA = s.glk.legA ∧ t.glk.legB = s.glk.legB
  | .raised, s, t => t.prt.active = s.prt.active ∧ t.prt.pulsed = s.prt.pulsed
  | .log, s, t => t.evt.nvm = s.evt.nvm ∧ t.evt.nvmPos = s.evt.nvmPos ∧ t.evt.wrapped = s.evt.wrapped
  | .switch, s, t => t.glk.fireHold = s.glk.fireHold ∧ t.glk.fireAll = s.glk.fireAll ∧ t.glk.closeAsserted = s.glk.closeAsserted ∧ t.glk.closeDue = s.glk.closeDue ∧ t.glk.statClosed = s.glk.statClosed
  | .shutdown, s, t => t.thm.sdHotA = s.thm.sdHotA ∧ t.thm.sdHotB = s.thm.sdHotB ∧ t.thm.sdColdA = s.thm.sdColdA ∧ t.thm.sdColdB = s.thm.sdColdB

/-- Nothing outside the listed parts changes between two states. -/
def Frame (bs : List Block) (s t : State) : Prop := ∀ b, b ∉ bs → b.same s t

/-- The command completes: it answers a next state of which `post` holds, and nothing changes outside the parts `bs`. -/
def Completes (c : Instr) (s : State) (bs : List Block) (post : State → Prop) : Prop :=
  ∃ t, exec c s = .next t ∧ post t ∧ Frame bs s t

/-- The port takes register operations now and has the right that the operation needs (spec/15 R350 to R352). -/
def Granted (s : State) (p : Requester) (cls : OpClass) (addr : Word) (lamp : Bool := false) : Prop :=
  s.portOpen p = true ∧ s.right p cls addr lamp = true

/-- The event log of t is that of s with one more event (spec/16 R369, R370). -/
def Logged (s t : State) (code : Nat) (d1 d2 d3 : Nat := 0) : Prop := t.evt = (logEvent s code d1 d2 d3).evt

/-- What the device has sent from s to t is the answer to port p alone. -/
def Answered (s t : State) (p : Requester) (code : Nat) : Prop := t.outbox = .status p code :: s.outbox

/-- Reaction entry e, of reaction r, has fired at clock `now` (spec/11 R270): it is latched where it has IMMEDIATE
actions, its legs are in HIGH_Z and TRIP_OUT_N is asserted where it asks for it. -/
def Fired (r : Reaction) (now : Nat) (e : Fin 64) (t : State) : Prop :=
  t.prt.entries[e].fired = true ∧ (r.immediate ≠ 0 → t.prt.entries[e].latched = true) ∧
  t.prt.entries[e].firedAt = some now ∧ (r.immediate.getLsbD 1 = true → (t.leg .a).st = .hiZ) ∧
  (r.immediate.getLsbD 2 = true → (t.leg .b).st = .hiZ) ∧ (r.immediate.getLsbD 5 = true → t.prt.tripOut = true)

/-- Sequence numbers of a list of entries, newest first, fall by one from a first value. -/
def seqFrom : Nat → List Event → Prop
  | _, [] => True
  | n, e :: r => e.seq = n ∧ seqFrom ((n + 2 ^ 32 - 1) % 2 ^ 32) r

/-- The event buffer (spec/16 R370): at most 1,024 entries, with consecutive sequence numbers of 32 bits up to the newest,
and the uncopied ones all still held. -/
def State.logOk (s : State) : Prop :=
  s.evt.newest < 2 ^ 32 ∧ s.evt.sram.length ≤ 1024 ∧ s.evt.pending ≤ s.evt.sram.length ∧ seqFrom s.evt.newest s.evt.sram

/-- The bytes of both image slots are in their canonical form. -/
def State.memOk (s : State) : Prop := Memory.wf s.img.slotA = true ∧ Memory.wf s.img.slotB = true

end Sys2Proof.Machine
end

