-- ==== Sys2Proof/Certificates/Slice0/Obligations.lean ====
section
/-! DEFINITION. The statements about the machine, one proposition each; OBLIGATIONS.json lists them with the rules of
spec/ that they rest on. Most are conjunctions of completions: under hypotheses on the state and the operands alone,
the command answers a next state with the effect named (`Completes`), and nothing outside the listed parts changes. -/

set_option Elab.async false

section
open Sys2Proof Sys2Proof.Machine

/-- A step runs the command at the front of the queue on the state with the rest of the queue. From INDEX.md, R367
of spec/. -/
def Obligations.StepRunsTheFrontCommand : Prop :=
  ∀ (s : State) (c : Instr) (rest : List Instr), s.pending = c :: rest →
    step s = exec c { s with pending := rest }

/-- With no command waiting, a step lets one nanosecond pass (the model's choice, log entry 1). From 04 R80 of
spec/. Model choices and readings: log entry 1. -/
def Obligations.IdleStepPassesOneNanosecond : Prop :=
  ∀ (s : State), s.pending = [] → ∃ t, step s = .next t ∧ t.clock = s.clock + 1 ∧
    t.tim = { s.tim with time := (s.tim.time + 1) % (2 ^ 64 - 1) } ∧ Frame [.tim, .clock] s t

/-- No word spells a command, and placing a word leaves the state as it is (the model's choice, log entry 2). From
INDEX.md of spec/. Model choices and readings: log entry 2. -/
def Obligations.NoWordSpellsACommand : Prop :=
  ∀ (nbits w : Nat), (∀ c : Instr, decodeTableWord nbits w ≠ some c) ∧ ∀ s : State, s.withFetchWord nbits w = s

/-- At reset the registers of every block read the reset values that Tables 16.2 to 16.19 list. From R364, R361,
Tables 16.2 to 16.19 of spec/. -/
def Obligations.RegistersAtReset : Prop :=
  ∀ p : Requester, ∀ x ∈ (
    [(0x4, 0x1FFF), (0x20008, 0xFFFFFFFF), (0x2800C, 0x80000000), (0x28010, 0x80000000), (0x30000, 0x1),
    (0x30018, 0x80000000), (0x3001C, 0x80000000), (0x4002C, 0xFFFFFFFF), (0x50000, 0x101), (0x60008,
    0x80008000), (0x60018, 0xFFFF0000), (0x60070, 0xFF), (0x80000, 0x3F00000), (0x80010, 0x80008000), (0xA0004,
    0xFFFFFFFF), (0xB0004, 0x80008000), (0xB0060, 0x80008000), (0xB0064, 0x8000)] ++
    [(0xB0068, 0x80008000), (0xB006C, 0x8000), (0xD0014, 0x8000), (0xE0030, 0xFF), (0xF0004, 0xFFFFFFFF),
    (0xF0008, 0xFFFF), (0xF0114, 0xFFFFFFFF), (0x108044, 0xFFFFFFFF), (0x0, 0x96404201), (0x100020, 0x196409CB),
    (0x50010, 0xFF00FFFF), (0x5001C, 0xFF00FFFF), (0x60100, 0x2), (0x6017C, 0x2), (0xB0104, 0x80008000),
    (0xB0040, 0x8000), (0xD0020, 0x80000000), (0xD0100, 0x80000000)] ++
    [(0xD01B8, 0x8000), (0x120020, 0xFFFFFFFF), (0x70008, 0x80008000), (0x70018, 0xFFFF0000), (0x90000,
    0x3F00000), (0x60040, 0xFFFFFFFF), (0x30008, 0x0), (0x10000, 0x0), (0x20000, 0x0), (0x40000, 0x0), (0x60000,
    0x0), (0xC0000, 0x0), (0xE0000, 0x0), (0xF0000, 0x0), (0x100000, 0x0), (0x110010, 0x0), (0x120000, 0x0),
    (0x130000, 0x0)] : List (Nat × Nat)),
    readReg State.reset p (BitVec.ofNat 32 x.1) = some (BitVec.ofNat 32 x.2)

/-- At reset the image slots and the event log are in their canonical form, the queue is empty, and every slot byte
reads 0xFF. From R364, R370 of spec/. Model choices and readings: log entry 7. -/
def Obligations.ResetMemoryAndLogAreCanonical : Prop :=
  State.reset.memOk ∧ State.reset.logOk ∧ State.reset.pending = [] ∧
    (∀ b a, State.reset.slotBytes b a = 0xFF#8)

/-- Every command answers a next state in every state, and keeps the part number, the clock and the queue. From R1,
INDEX.md of spec/. -/
def Obligations.EveryCommandCompletes : Prop :=
  ∀ (c : Instr) (s : State), ∃ t, exec c s = .next t ∧
    t.dev.part = s.dev.part ∧ t.clock = s.clock ∧ t.pending = s.pending

/-- Only the named commands change the published cell state, the bypass mark and the ownership token. From R17, R21,
R15, R284 of spec/. -/
def Obligations.WhoChangesTheCell : Prop :=
  (∀ (c : Instr) (s t : State), exec c s = .next t → match c with
    | .powerOnResetRelease _ _ _ _ _ | .ringReady | .resetComparatorTrip | .vbakOutOfRange _ | .resetNLow
    | .pwrCmdCold _ | .hibWakeTimerExpiry | .hibCciWake _ | .lbusWake _ | .engineWatchdogExpiry _ _
    | .lockstepMismatch _ | .eccUncorrectable _ _ _ _ | .glueUpSwitch | .regOpExecute | .cycleBoundary
    | .lbusServiceRequest | .enrolmentObject _ | .svcRegReq _ _ | .registerWrite _ _ _ => True
    | _ => Block.same .cell s t) ∧
  (∀ (c : Instr) (s t : State), exec c s = .next t → match c with
    | .powerOnResetRelease _ _ _ _ _ | .ringReady | .vsysPlinthSample _ | .stage4HandoffTimeout
    | .resetComparatorTrip | .vbakOutOfRange _ | .resetNLow | .pwrCmdCold _ | .hibWakeTimerExpiry
    | .hibCciWake _ | .lbusWake _ | .engineWatchdogExpiry _ _ | .lockstepMismatch _ | .eccUncorrectable _ _ _ _
    | .glueUpSwitch | .regOpExecute | .cycleBoundary | .peAssessment _ _ | .offStateDiagComplete
    | .legRetestComplete | .prtBypassReq _ _ | .stateMirrorRx _ | .openingStepTimer _ | .lbusServiceRequest
    | .enrolmentObject _ | .svcRegReq _ _ | .registerWrite _ _ _ => True
    | _ => Block.same .bypass s t) ∧
  (∀ (c : Instr) (s t : State), exec c s = .next t → match c with
    | .powerOnResetRelease _ _ _ _ _ | .ringReady | .memberBTokenWaitExpiry | .resetComparatorTrip
    | .vbakOutOfRange _ | .resetNLow | .pwrCmdWarm _ | .pwrCmdCold _ | .hibWakeTimerExpiry | .hibCciWake _
    | .lbusWake _ | .engineWatchdogExpiry _ _ | .warmResetResume | .lockstepMismatch _
    | .eccUncorrectable _ _ _ _ | .glueUpSwitch | .regOpExecute | .cycleBoundary | .glStatusFrameRx _ _ _
    | .heartbeatRx _ | .heartbeatTimeout | .handoverSwitch | .lbusServiceRequest | .enrolmentObject _
    | .svcRegReq _ _ | .registerWrite _ _ _ => True
    | _ => Block.same .token s t)

/-- Only the named commands change the image slots, the image in force and the lifecycle state. From R48, R55, R341,
R345 of spec/. -/
def Obligations.WhoChangesTheImage : Prop :=
  (∀ (c : Instr) (s t : State), exec c s = .next t → match c with
    | .bootSlotVerifyComplete | .imgCmdStageBegin _ _ | .stagingChunk _ _ | .glueUpSwitch | .regOpExecute
    | .cycleBoundary | .lbusServiceRequest | .enrolmentObject _ | .svcRegReq _ _ | .svcBulk _ _ _ _
    | .registerWrite _ _ _ | .nvmWriteComplete => True
    | _ => Block.same .slots s t) ∧
  (∀ (c : Instr) (s t : State), exec c s = .next t → match c with
    | .powerOnResetRelease _ _ _ _ _ | .bootSlotVerifyComplete | .resetComparatorTrip | .vbakOutOfRange _
    | .resetNLow | .pwrCmdCold _ | .hibWakeTimerExpiry | .hibCciWake _ | .lbusWake _
    | .engineWatchdogExpiry _ _ | .lockstepMismatch _ | .eccUncorrectable _ _ _ _ | .glueUpSwitch
    | .regOpExecute | .cycleBoundary | .lbusServiceRequest | .enrolmentObject _ | .svcRegReq _ _
    | .registerWrite _ _ _ => True
    | _ => Block.same .image s t) ∧
  (∀ (c : Instr) (s t : State), exec c s = .next t → match c with
    | .regOpExecute | .lbusServiceRequest | .secCmdStepField _ | .enrolmentObject _ | .svcRegReq _ _
    | .registerWrite _ _ _ => True
    | _ => Block.same .life s t)

/-- Only the named commands change the start-up phase, the shedding stages and the thermal shutdowns. From R331,
R328, R262 of spec/. -/
def Obligations.WhoChangesTheStages : Prop :=
  (∀ (c : Instr) (s t : State), exec c s = .next t → match c with
    | .powerOnResetRelease _ _ _ _ _ | .bootSlotVerifyComplete | .ringReady | .resetComparatorTrip
    | .vbakOutOfRange _ | .resetNLow | .pwrCmdWarm _ | .pwrCmdCold _ | .hibernateEnter | .hibWakeTimerExpiry
    | .hibCciWake _ | .lbusWake _ | .engineWatchdogExpiry _ _ | .warmResetResume | .lockstepMismatch _
    | .eccUncorrectable _ _ _ _ | .glueUpSwitch | .glueRestartComplete | .regOpExecute | .cycleBoundary
    | .lbusServiceRequest | .enrolmentObject _ | .svcRegReq _ _ | .registerWrite _ _ _ => True
    | _ => Block.same .phase s t) ∧
  (∀ (c : Instr) (s t : State), exec c s = .next t → match c with
    | .powerOnResetRelease _ _ _ _ _ | .vsysPlinthSample _ | .stageRestore | .resetComparatorTrip
    | .vbakOutOfRange _ | .resetNLow | .pwrCmdRun _ | .hibWakeTimerExpiry | .hibCciWake _ | .lbusWake _
    | .regOpExecute | .lbusServiceRequest | .svcRegReq _ _ | .registerWrite _ _ _ => True
    | _ => Block.same .stages s t) ∧
  (∀ (c : Instr) (s t : State), exec c s = .next t → match c with
    | .powerOnResetRelease _ _ _ _ _ | .bootSlotVerifyComplete | .resetComparatorTrip | .vbakOutOfRange _
    | .resetNLow | .pwrCmdCold _ | .hibWakeTimerExpiry | .hibCciWake _ | .lbusWake _
    | .engineWatchdogExpiry _ _ | .lockstepMismatch _ | .eccUncorrectable _ _ _ _ | .regOpExecute | .scanStep _
    | .coldShutdownEnd _ | .thmClearRelease _ _ | .lbusServiceRequest | .enrolmentObject _ | .svcRegReq _ _
    | .registerWrite _ _ _ => True
    | _ => Block.same .shutdown s t)

/-- Every step keeps both image slots in their canonical form. From R34, R48, R89, R343 of spec/. -/
def Obligations.ImageSlotsStayCanonical : Prop :=
  ∀ s t : State, s.memOk → step s = .next t → t.memOk

/-- No step undoes a lifecycle step: the state stays, or moves from 1 to 2 or from 2 to 3, and SEC_STATUS shows it.
From R341 of spec/. -/
def Obligations.LifecycleIsOneWay : Prop :=
  (∀ s t : State, step s = .next t →
    t.sec.life = s.sec.life ∨ (s.sec.life = 1 ∧ t.sec.life = 2) ∨ (s.sec.life = 2 ∧ t.sec.life = 3)) ∧
  (∀ (s : State) (p : Requester), s.outOfReset = true → s.dev.serialLoaded = true → s.sec.life ≤ 3 →
    ∃ v, readReg s p 0x00100000 = some v ∧ v.toNat % 8 = s.sec.life)

/-- Logging keeps the event buffer in order, numbers the entry, never overwrites an uncopied entry, and holds events
of hardware blocks while EE or HE restarts. From R369, R370, R30, R38 of spec/. Model choices and readings: log
entry 42. -/
def Obligations.LoggedEventsAreNumbered : Prop :=
  ∀ (s : State) (code d1 d2 d3 : Nat), s.logOk → (logEvent s code d1 d2 d3).logOk ∧
    ((hwEvent code && s.evtWaits) = false →
      (s.evt.pending < 1024 → (logEvent s code d1 d2 d3).evt = { s.evt with
        newest := (s.evt.newest + 1) % 2 ^ 32
        sram := (⟨(s.evt.newest + 1) % 2 ^ 32, eventTime s, code, d1 % 65536, d2 % 65536, d3 % 65536, s.clock⟩ :: s.evt.sram).take 1024
        pending := s.evt.pending + 1
        lastCode := code }) ∧
      (1024 ≤ s.evt.pending → (logEvent s code d1 d2 d3).evt = { s.evt with lost := bump 16 s.evt.lost })) ∧
    ((hwEvent code && s.evtWaits) = true →
      (s.evt.hwQ.length < 32 → (logEvent s code d1 d2 d3).evt = { s.evt with
        hwQ := ⟨0, eventTime s, code, d1 % 65536, d2 % 65536, d3 % 65536, s.clock⟩ :: s.evt.hwQ }) ∧
      (32 ≤ s.evt.hwQ.length → (logEvent s code d1 d2 d3).evt = { s.evt with
        hwFull := true, hwFullAt := some s.clock, hwLost := bump 16 s.evt.hwLost })) ∧
    (∀ x ∈ s.evt.sram.take s.evt.pending, x ∈ (logEvent s code d1 d2 d3).evt.sram) ∧
    (takeHwEvents s).logOk ∧ (takeHwEvents s).evt.hwQ = [] ∧
    (s.evt.pending + s.evt.hwQ.length ≤ 1024 →
      (takeHwEvents s).evt.pending = s.evt.pending + s.evt.hwQ.length ∧
      (takeHwEvents s).evt.sram.map (fun x => (x.time, x.code, x.d1, x.d2, x.d3)) =
        ((s.evt.hwQ ++ s.evt.sram).take 1024).map (fun x => (x.time, x.code, x.d1, x.d2, x.d3)))

/-- Reference frames are kept for their apply time and the cycle boundary publishes the mode and cell state. From
R93, R95, R96, R101, R103, R113, R17, R18, R105 of spec/. Model choices and readings: log entry 15. -/
def Obligations.ArmCycleModulation : Prop :=
  -- REF_FRAME_COMMIT
  (∀ (s : State) (f : ArmCycle), s.spl.lastArm = some f → isReference f = true → s.refRuns = true →
      (∀ x ∈ s.arm.refQ, x.origin ≠ (s.refOf f).origin) →
      (∀ x, s.arm.ref = some x → x.origin ≠ (s.refOf f).origin) → s.tim.time ≤ (s.refOf f).origin →
      s.nextBound < (s.refOf f).origin →
      Completes .refFrameCommit s [.arm] fun t =>
        t.arm = { s.arm with
            refQ := ({ s.refOf f with share := s.shareOf (s.refOf f) (s.refOf f).origin } :: s.arm.refQ).take 3
              }) ∧
  (∀ (s : State) (f : ArmCycle) (r : Nat), s.spl.lastArm = some f → isReference f = true → s.refRuns = true →
      (∀ x ∈ s.arm.refQ, x.origin ≠ (s.refOf f).origin) →
      (∀ x, s.arm.ref = some x → x.origin ≠ (s.refOf f).origin) → s.tim.time ≤ (s.refOf f).origin →
      (s.refOf f).origin ≤ s.nextBound → s.nextReload .a = some r → s.nextBound ≤ r →
      r < s.nextBound + s.cycleNs →
      Completes .refFrameCommit s [.eng, .arm, .pwm, .evt] fun t =>
        ∃ d, t.arm.duty = some d ∧
        d = clampI (s.duty0 (s.refOf f) r + s.dutyBal (s.refOf f)) (s.dutyLow (s.modeAt s.nextBound)) s.im.dMax
          ∧
        -(s.im.dMax : Int) ≤ d ∧
        d ≤ s.im.dMax) ∧
  (∀ (s : State) (f : ArmCycle), s.spl.lastArm = some f → isReference f = false →
      Completes .refFrameCommit s [] fun t =>
        t = s) ∧
  -- CYCLE_BOUNDARY
  (∀ (s : State), s.boundDue = true → s.dev.phase = .glueRestart →
      Completes .cycleBoundary s [.arm] fun t =>
        t.arm = { s.arm with boundary := s.newestBound }) ∧
  (∀ (s : State), s.boundDue = true → (s.dev.phase = .ready ∨ s.dev.phase = .starting) →
      s.img.adoptDue = false →
      Completes .cycleBoundary s [.phase, .dev, .eng, .slots, .image, .img, .spl, .tim, .cell, .token, .bypass,
        .arm, .pwm, .glk, .chA, .chB, .snA, .snB, .thm, .prt, .lsw, .lbus, .sec, .mnt, .evt, .outbox, .legs,
        .raised, .switch] fun t =>
        t.arm.boundary = s.newestBound ∧
        t.arm.mode = s.modeAt s.newestBound ∧
        (s.arm.bypassed = true → t.arm.cell = .bypassed))

/-- A coherent shadow set is queued or replaces the set in force; starts, reloads, compares and kerfs follow the
sets. From R121, R122, R123, R125, R126, R127 of spec/. Model choices and readings: log entry 17. -/
def Obligations.PulseSetsAndPeriods : Prop :=
  -- PWM_COMMIT
  (∀ (s : State) (leg : Leg), s.eng.state[EngineId.me.idx] = .running → setCause (s.unit leg) = 0 →
      Completes (.pwmCommit leg) s [.eng, .pwm] fun t =>
        t.unit leg = { s.unit leg with
            stale := false,
            queue := shadowSet (s.unit leg) s.clock :: (s.unit leg).queue.take 1,
            lateCommit := (if (s.unit leg).reloadClk == some s.clock then bump 16 (s.unit leg).lateCommit else
              (s.unit leg).lateCommit) } ∧
        t.unit leg.other = s.unit leg.other) ∧
  (∀ (s : State) (leg : Leg), s.eng.state[EngineId.me.idx] = .running → setCause (s.unit leg) ≠ 0 →
      Completes (.pwmCommit leg) s [.pwm, .evt] fun t =>
        t.unit leg = { s.unit leg with
            reject := true,
            cause := setCause (s.unit leg),
            stale := false,
            rejectAt := some s.clock } ∧
        t.unit leg.other = s.unit leg.other ∧
        t.pwm.cntReject = bump 8 s.pwm.cntReject ∧
        Logged s t 0x1301 leg.num (setCause (s.unit leg))) ∧
  -- PWM_REPLACE_COMMIT
  (∀ (s : State) (leg : Leg) (c : PwmSet), s.eng.state[EngineId.me.idx] = .running → (s.unit leg).cur = some c →
      setCause (s.unit leg) = 0 → (s.unit leg).shPeriod = c.period →
      Completes (.pwmReplaceCommit leg) s [.pwm, .glk, .evt] fun t =>
        (t.unit leg).cur = some (minPulseSet s.im.minPulse (shadowSet (s.unit leg) s.clock)) ∧
        (t.unit leg).queue = (s.unit leg).queue ∧
        (t.unit leg).t0 = (s.unit leg).t0 ∧
        (t.unit leg).active = setActive (minPulseSet s.im.minPulse (shadowSet (s.unit leg) s.clock))
          (s.tim.time - (s.unit leg).t0) ∧
        t.unit leg.other = s.unit leg.other ∧
        ∀ i : Fin 4, t.glk.links[i].word = t.word i) ∧
  (∀ (s : State) (leg : Leg), s.eng.state[EngineId.me.idx] = .running →
      (∀ c, (s.unit leg).cur = some c → (s.unit leg).shPeriod ≠ c.period) → setCause (s.unit leg) = 0 →
      Completes (.pwmReplaceCommit leg) s [.pwm, .glk, .evt] fun t =>
        t.unit leg = { s.unit leg with reject := true, cause := 6, stale := false, rejectAt := some s.clock } ∧
        t.unit leg.other = s.unit leg.other ∧
        t.pwm.cntReject = bump 8 s.pwm.cntReject) ∧
  -- PULSE_UNIT_START
  (∀ (s : State) (leg : Leg) (p : PwmSet) (rest : List PwmSet), (s.unit leg).running = false →
      (s.unit leg).startArmed = true → startTime (s.unit leg) ≤ s.tim.time →
      pickSet (startTime (s.unit leg)) s.clock (s.unit leg).queue = some (p, rest) →
      Completes (.pulseUnitStart leg) s [.pwm, .legs, .glk, .evt] fun t =>
        (t.unit leg).running = true ∧
        (t.unit leg).startArmed = false ∧
        (t.unit leg).cur = some (minPulseSet s.im.minPulse p) ∧
        (t.unit leg).queue = rest ∧
        (t.unit leg).t0 = startTime (s.unit leg) ∧
        (t.unit leg).kerfUntil = none ∧
        (t.unit leg).active = setActive (minPulseSet s.im.minPulse p) 0 ∧
        t.unit leg.other = s.unit leg.other ∧
        ∀ i : Fin 4, t.glk.links[i].word = t.word i) ∧
  (∀ (s : State) (leg : Leg), (s.unit leg).running = false → (s.unit leg).startArmed = true →
      startTime (s.unit leg) ≤ s.tim.time → pickSet (startTime (s.unit leg)) s.clock (s.unit leg).queue = none →
      Completes (.pulseUnitStart leg) s [.pwm, .evt] fun t =>
        t.unit leg = { s.unit leg with
            nostart := true,
            startArmed := false,
            nostartAt := some s.clock,
            reloadClk := some s.clock,
            lateCommit := (if (s.unit leg).queue.any fun p => p.committedAt == s.clock then bump 16
              (s.unit leg).lateCommit else (s.unit leg).lateCommit) } ∧
        t.unit leg.other = s.unit leg.other ∧
        Logged s t 0x1302 leg.num) ∧
  -- PULSE_RELOAD
  (∀ (s : State) (leg : Leg) (c p : PwmSet) (rest : List PwmSet), (s.unit leg).running = true →
      (s.unit leg).cur = some c → (s.unit leg).t0 + c.period ≤ s.tim.time →
      pickSet ((s.unit leg).t0 + c.period) s.clock (s.unit leg).queue = some (p, rest) →
      Completes (.pulseReload leg) s [.pwm, .legs, .glk, .evt] fun t =>
        (t.unit leg).cur = some (minPulseSet s.im.minPulse p) ∧
        (t.unit leg).queue = rest ∧
        (t.unit leg).t0 = (s.unit leg).t0 + c.period ∧
        (t.unit leg).running = true ∧
        (t.unit leg).active = setActive (minPulseSet s.im.minPulse p) 0 ∧
        ((s.leg leg).wait = true → (t.leg leg).st = .running ∧ (t.leg leg).wait = false) ∧
        t.unit leg.other = s.unit leg.other ∧
        ∀ i : Fin 4, t.glk.links[i].word = t.word i) ∧
  (∀ (s : State) (leg : Leg) (c : PwmSet), (s.unit leg).running = true → (s.unit leg).cur = some c →
      (s.unit leg).t0 + c.period ≤ s.tim.time →
      pickSet ((s.unit leg).t0 + c.period) s.clock (s.unit leg).queue = none →
      Completes (.pulseReload leg) s [.pwm, .legs, .glk, .evt] fun t =>
        (t.unit leg).cur = some c ∧
        (t.unit leg).t0 = (s.unit leg).t0 + c.period ∧
        (t.unit leg).queue = (s.unit leg).queue ∧
        t.pwm.cntRepeat = bump 8 s.pwm.cntRepeat ∧
        t.unit leg.other = s.unit leg.other) ∧
  -- PULSE_COMPARE_EDGE
  (∀ (s : State) (leg : Leg) (c : PwmSet), (s.unit leg).running = true → (s.unit leg).cur = some c →
      Completes (.pulseCompareEdge leg) s [.pwm, .glk] fun t =>
        t.unit leg = (if setActive c (s.tim.time - (s.unit leg).t0) = (s.unit leg).active then s.unit leg else { s.unit leg with
            active := setActive c (s.tim.time - (s.unit leg).t0),
            kerfUntil := some (s.tim.time + s.kerf leg, !setActive c (s.tim.time - (s.unit leg).t0)) }) ∧
        t.unit leg.other = s.unit leg.other) ∧
  -- KERF_TURN_ON
  (∀ (s : State) (leg : Leg) (t0 : Nat) (b : Bool), (s.unit leg).kerfUntil = some (t0, b) → t0 ≤ s.tim.time →
      Completes (.kerfTurnOn leg) s [.pwm, .glk] fun t =>
        t.unit leg = { s.unit leg with kerfUntil := none } ∧
        t.unit leg.other = s.unit leg.other)

/-- Status frames, lost links and the bypass outputs: what the gate links record and what a fault does to the leg.
From R134, R135, R136, R137, R143, R144, R275 of spec/. Model choices and readings: log entry 8. -/
def Obligations.GateLinksAndBypassOutputs : Prop :=
  -- GL_STATUS_FRAME_RX
  (∀ (s : State) (i : Fin 4) (bits : BitVec 16) (check : BitVec 4), s.outOfReset = true → check ≠ crc4 bits →
      Completes (.glStatusFrameRx i bits check) s [.glk] fun t =>
        t.glk = { s.glk with
            links := s.glk.links.set i { s.glk.links[i] with
                cnt := bump 8 s.glk.links[i].cnt,
                flags := s.glk.links[i].flags ||| 0x20#8,
                fresh := s.glk.links[i].fresh.add s.clock 0x20#32 } }) ∧
  (∀ (s : State) (i : Fin 4) (bits : BitVec 16), s.outOfReset = true → s.arm.owner = false →
      (s.simplex = true ∨ s.dvt.up = true) → s.glk.holdA = false → s.glk.holdB = false →
      Completes (.glStatusFrameRx i bits (crc4 bits)) s [.glk, .evt] fun t =>
        t.glk.links[i].frame = bits ∧
        t.glk.links[i].age = some s.clock ∧
        t.glk.links[i].lost = false ∧
        (∀ j : Fin 4, j ≠ i → t.glk.links[j].frame = s.glk.links[j].frame ∧ t.glk.links[j].flags =
          s.glk.links[j].flags) ∧
        ∀ i : Fin 4, t.glk.links[i].word = t.word i) ∧
  (∀ (s : State) (i : Fin 4) (bits : BitVec 16), s.outOfReset = true → s.arm.owner = true → s.dvt.up = true →
      (s.leg (linkLeg i)).st = .running →
      (bits.getLsbD 11 = true ∨ bits.getLsbD 10 = true ∨ bits.getLsbD 9 = true) →
      Completes (.glStatusFrameRx i bits (crc4 bits)) s [.token, .arm, .pwm, .glk, .chA, .chB, .snA, .snB, .thm,
        .prt, .dvt, .lsw, .lbus, .mnt, .evt, .outbox, .legs, .raised] fun t =>
        (t.leg (linkLeg i)).st = .hiZ ∧
        t.prt.active.contains 0x10 = true ∧
        ∀ i : Fin 4, t.glk.links[i].word = t.word i) ∧
  -- GL_STATUS_LOST
  (∀ (s : State) (i : Fin 4) (t0 : Nat), s.glActive = true → s.glk.links[i].lost = false →
      s.glk.links[i].age = some t0 → t0 + 3 * usNs ≤ s.clock → s.arm.owner = true →
      (s.leg (linkLeg i)).st = .running →
      Completes (.glStatusLost i) s [.arm, .glk, .chA, .chB, .snA, .snB, .thm, .prt, .lsw, .mnt, .evt, .outbox,
        .legs, .raised] fun t =>
        (t.leg (linkLeg i)).st = .hiZ ∧
        t.prt.active.contains 0x10 = true) ∧
  (∀ (s : State) (i : Fin 4) (t0 : Nat), s.glActive = true → s.glk.links[i].lost = false →
      s.glk.links[i].age = some t0 → t0 + 3 * usNs ≤ s.clock → s.arm.owner = false →
      Completes (.glStatusLost i) s [.glk, .evt] fun t =>
        t.glk.links[i].lost = true ∧
        t.glk.links[i].flags = s.glk.links[i].flags ||| 0x10#8 ∧
        ∀ i : Fin 4, t.glk.links[i].word = t.word i) ∧
  (∀ (s : State) (i : Fin 4) (t0 : Nat), s.glActive = true → s.glk.links[i].lost = false →
      s.glk.links[i].age = some t0 → t0 + 3 * usNs ≤ s.clock → s.arm.owner = true →
      (s.leg (linkLeg i)).st = .hiZ → s.glk.jig = none →
      Completes (.glStatusLost i) s [.legs, .glk, .evt] fun t =>
        t.leg (linkLeg i) = { s.leg (linkLeg i) with
            cause := (if (s.leg (linkLeg i)).cause = 0 then 3 else (s.leg (linkLeg i)).cause),
            faultSw := (BitVec.ofNat 2 (s.leg (linkLeg i)).faultSw ||| (if linkUpper i then 1#2 else 2#2)).toNat
              } ∧
        t.glk.links[i].lost = true ∧
        ∀ i : Fin 4, t.glk.links[i].word = t.word i) ∧
  -- FIRE_DELAY_EXPIRY
  (∀ (s : State) (t0 : Nat), s.glk.fireDue = some t0 → t0 ≤ s.clock →
      (s.glk.fireAll = true ∨ s.glk.fireHold = true) →
      Completes .fireDelayExpiry s [.glk, .evt] fun t =>
        t.glk = { s.glk with firing := true, fireDue := none } ∧
        Logged s t 0x1208 s.prt.bypSource) ∧
  -- BYP_STAT_CLOSED
  (∀ (s : State),
      Completes .bypStatClosed s [.dev, .switch, .glk, .evt] fun t =>
        t.dev = { s.dev with bypStatLow := true } ∧
        t.glk.statClosed = true ∧
        t.glk.fireHold = false ∧
        t.glk.closeDue = none ∧
        (s.glk.fireAll = false → t.glk.firing = false) ∧
        ∀ i : Fin 4, t.glk.links[i].word = t.word i) ∧
  -- BYP_CLOSE_TIMEOUT
  (∀ (s : State) (t0 : Nat), s.glk.closeDue = some t0 → t0 ≤ s.clock → s.glk.statClosed = false →
      Completes .bypCloseTimeout s [.arm, .glk, .chA, .chB, .snA, .snB, .thm, .prt, .lsw, .mnt, .evt, .outbox,
        .legs, .raised, .switch] fun t =>
        t.glk.closeDue = none ∧
        t.glk.fireHold = true ∧
        t.prt.pulsed = 0x12 :: s.prt.pulsed ∧
        ∀ i : Fin 4, t.glk.links[i].word = t.word i)

/-- Off-state diagnostics, single-leg tests, takeover holds and the production jig of the main bridge. From R141,
R142, R145, R19, R271 of spec/. Model choices and readings: log entries 15, 17. -/
def Obligations.BridgeDiagnostics : Prop :=
  -- OFF_STATE_DIAG_START
  (∀ (s : State), s.dev.phase = .ready → s.chainPair = false → s.arm.bypassed = false → s.glk.testUntil = none →
      s.glk.testOver = none → (s.leg .a).st = .hiZ → (s.leg .b).st = .hiZ → s.hardOff .a = false →
      s.hardOff .b = false → s.diagWanted = true →
      (∀ i : Fin 4, (s.glk.links[i].word = .off ∨ s.glk.links[i].word = .track) ∧ s.glk.links[i].wordAt +
      s.kerfMax ≤ s.clock) →
      Completes .offStateDiagStart s [.arm, .glk, .evt] fun t =>
        t.glk.testUntil = some (s.clock + usNs * s.im.testWindow) ∧
        t.glk.testLegs = 3 ∧
        t.glk.testRetest = false ∧
        t.glk.testB2R = (s.diagDue && (s.arm.blk || s.arm.cell == .blocked)) ∧
        t.arm = { s.arm with diag := if s.arm.diag = .passed then .passed else .running } ∧
        (∀ i : Fin 4, t.glk.links[i].test = 0) ∧
        ∀ i : Fin 4, t.glk.links[i].word = t.word i) ∧
  -- TEST_WINDOW_EXPIRY
  (∀ (s : State) (t0 : Nat), s.glk.testUntil = some t0 → t0 ≤ s.clock →
      Completes .testWindowExpiry s [.glk, .evt] fun t =>
        t.glk.testUntil = none ∧
        t.glk.testOver = some s.clock ∧
        ∀ i : Fin 4, t.glk.links[i].word = t.word i) ∧
  -- OFF_STATE_DIAG_COMPLETE
  (∀ (s : State), s.testRead = true → s.glk.testRetest = false → s.legCounts .a = true → s.legCounts .b = true →
      Completes .offStateDiagComplete s [.arm, .legs, .glk, .mnt, .evt] fun t =>
        t.glk.testOver = none ∧
        t.arm = { s.arm with
            diag := .passed,
            diagFails := 0,
            resetBlock := false,
            blk := false,
            diagA := true,
            diagB := true } ∧
        (∀ l : Leg, t.leg l = (if (s.glk.testB2R || !(s.leg l).parkMark) = true then
          { s.leg l with parkMark := false, cause := 0, faultSw := 0 } else s.leg l)) ∧
        ∀ i : Fin 4, t.glk.links[i].word = t.word i) ∧
  (∀ (s : State), s.testRead = true → s.glk.testRetest = false →
      (s.legCounts .a = false ∨ s.legCounts .b = false) →
      Completes .offStateDiagComplete s [.bypass, .arm, .glk, .chA, .chB, .snA, .snB, .thm, .prt, .lsw, .mnt,
        .evt, .outbox, .legs, .raised, .switch] fun t =>
        t.prt.pulsed = 0x11 :: s.prt.pulsed ∧
        ∀ i : Fin 4, t.glk.links[i].word = t.word i) ∧
  -- LEG_RETEST_COMPLETE
  (∀ (s : State), s.testRead = true → s.glk.testRetest = true → s.glk.testLegs = 1 → s.legPasses .a = true →
      Completes .legRetestComplete s [.legs, .glk, .evt] fun t =>
        t.glk.testOver = none ∧
        t.glk.testLegs = 0 ∧
        t.glk.testRetest = false ∧
        t.leg .a = { s.leg .a with wait := true, cause := 0, faultSw := 0 } ∧
        t.leg .b = s.leg .b ∧
        ∀ i : Fin 4, t.glk.links[i].word = t.word i) ∧
  (∀ (s : State), s.testRead = true → s.glk.testRetest = true → s.glk.testLegs = 2 → s.legPasses .b = false →
      s.arm.owner = true → s.arm.bypassed = false → s.im.parkEnable = 0 → (s.leg .b).st = .hiZ →
      Completes .legRetestComplete s [.bypass, .arm, .pwm, .glk, .chA, .chB, .snA, .snB, .thm, .prt, .lsw, .mnt,
        .evt, .legs, .switch] fun t =>
        t.arm.bypassed = true ∧
        ∀ i : Fin 4, t.glk.links[i].word = t.word i) ∧
  -- TAKE_HOLD_TIMEOUT
  (∀ (s : State) (t0 : Nat), s.glk.takeUntil = some t0 → t0 ≤ s.clock →
      Completes .takeHoldTimeout s [.pwm, .glk, .evt] fun t =>
        t.glk.takeUntil = none ∧
        t.glk.holdA = false ∧
        t.glk.holdB = false ∧
        ∀ i : Fin 4, t.glk.links[i].word = t.word i) ∧
  -- GLK_JIG_GO
  (∀ (s : State) (p : Requester) (sw : Nat), Granted s p .configure 0x00050040 → s.jigActive = true →
      s.arm.mode = .block → s.spl.urgLatch = .none → s.glk.jig = none → 0 < sw → sw ≤ 4 →
      Completes (.glkJigGo p sw) s [.glk, .evt, .outbox] fun t =>
        t.glk.jig = some {
            sw := sw,
            start := s.clock + s.kerf (if sw ≤ 2 then .a else .b),
            w1 := (s.glk.jigTime >>> 22).toNat,
            gap := ((s.glk.jigTime >>> 12) &&& 0x3FF).toNat,
            w2 := ((s.glk.jigTime >>> 2) &&& 0x3FF).toNat } ∧
        Logged s t 0x120B sw (s.glk.jigTime >>> 22).toNat ∧
        Answered s t p 0) ∧
  -- JIG_PULSE_END
  (∀ (s : State) (j : JigRun), s.glk.jig = some j →
      j.start + usNs * (if j.w2 = 0 then j.w1 else j.w1 + j.gap + j.w2) ≤ s.clock →
      Completes .jigPulseEnd s [.glk] fun t =>
        t.glk.jig = none)

/-- Local-bus transmit buffers are loaded, cancelled, sent, retried and ended as the rules say; the status frame
uses buffer 15. From R307, R308, R309, R310, R316 of spec/. Model choices and readings: log entries 1, 21. -/
def Obligations.LocalBusTransmission : Prop :=
  -- LBUS_TX_GO
  (∀ (s : State) (p : Requester) (b : Fin 16), Granted s p .operate 0x000E0018 → b.val < 14 →
      s.lbus.bufs[b].st = 0 → s.arm.owner = true → s.lbus.shed = false →
      ((windowFrame s.lbus.win[p.idx]).brs && s.lbus.tdcRange) = false →
      s.incoherent (windowFrame s.lbus.win[p.idx]) = false →
      Completes (.lbusTxGo p b) s [.lbus, .outbox] fun t =>
        Answered s t p 0 ∧
        t.lbus = { s.lbus with
            bufs := s.lbus.bufs.set b {
                st := 1,
                frame := some (windowFrame s.lbus.win[p.idx]),
                seq := s.lbus.bufs.toList.foldl (fun a x => max a x.seq) 0 + 1 } }) ∧
  (∀ (s : State) (p : Requester) (b : Fin 16), Granted s p .operate 0x000E0018 → 14 ≤ b.val →
      Completes (.lbusTxGo p b) s [.outbox] fun t =>
        Answered s t p 1) ∧
  (∀ (s : State) (p : Requester) (b : Fin 16), Granted s p .operate 0x000E0018 → b.val < 14 →
      s.lbus.bufs[b].st = 0 → s.arm.owner = true → s.lbus.shed = false →
      ((windowFrame s.lbus.win[p.idx]).brs && s.lbus.tdcRange) = false →
      s.incoherent (windowFrame s.lbus.win[p.idx]) = true →
      Completes (.lbusTxGo p b) s [.outbox] fun t =>
        Answered s t p 7) ∧
  -- LBUS_TX_CANCEL
  (∀ (s : State) (p : Requester) (mask : BitVec 16), Granted s p .operate 0x000E001C →
      Completes (.lbusTxCancel p mask) s [.lbus, .outbox] fun t =>
        t.outbox.head? = some (.status p 0) ∧
        ∀ b : Fin 16, ((14 ≤ b.val ∨ mask.getLsbD b.val = false ∨ s.lbus.bufs[b].st = 0) → t.lbus.bufs[b] =
          s.lbus.bufs[b]) ∧
        (b.val < 14 → mask.getLsbD b.val = true → s.lbus.bufs[b].st = 1 → t.lbus.bufs[b].st = 0) ∧
        (b.val < 14 → mask.getLsbD b.val = true → s.lbus.bufs[b].st = 2 → t.lbus.bufs[b] =
          { s.lbus.bufs[b] with cancel := true })) ∧
  -- CAN_TX_COMPLETE
  (∀ (s : State) (b : Fin 16) (f : CanFrame) (delay : Nat), s.lbus.bufs[b].frame = some f →
      s.lbus.bufs[b].st = 2 → delay ≤ 1000 → s.lbus.st = .active → s.lbus.txErr ≤ 128 → s.lbus.rxErr ≤ 127 →
      Completes (.canTxComplete b delay) s [.lbus, .outbox] fun t =>
        t.outbox = .can { f with esi := false } :: s.outbox ∧
        t.lbus = { s.lbus with
            bufs := s.lbus.bufs.set b {},
            sent := s.lbus.sent ||| BitVec.ofNat 16 (2 ^ b.val),
            doneFresh := s.lbus.doneFresh.add s.clock (BitVec.ofNat 32 (2 ^ b.val)),
            txErr := s.lbus.txErr - 1 }) ∧
  (∀ (s : State) (b : Fin 16) (f : CanFrame) (delay : Nat), s.lbus.bufs[b].frame = some f →
      s.lbus.bufs[b].st = 2 → f.fdf = true → f.brs = true → 1000 < s.im.dataRate → 1000 < delay →
      Completes (.canTxComplete b delay) s [.lbus, .evt, .outbox] fun t =>
        t.lbus.tdcRange = true ∧
        t.lbus.bufs[b] = {} ∧
        t.lbus.sent = s.lbus.sent ∧
        t.outbox = s.outbox) ∧
  -- CAN_TX_ATTEMPT_FAIL
  (∀ (s : State) (b : Fin 16), s.lbus.bufs[b].st = 2 → s.lbus.bufs[b].cancel = false → s.lbus.shed = false →
      Completes (.canTxAttemptFail b .arbitration) s [.lbus] fun t =>
        t.lbus = { s.lbus with bufs := s.lbus.bufs.set b { s.lbus.bufs[b] with st := 1 } }) ∧
  (∀ (s : State) (b : Fin 16), s.lbus.bufs[b].st = 2 → (s.lbus.bufs[b].cancel = true ∨ s.lbus.shed = true) →
      Completes (.canTxAttemptFail b .arbitration) s [.lbus] fun t =>
        t.lbus = { s.lbus with
            bufs := s.lbus.bufs.set b {},
            ended := s.lbus.ended ||| BitVec.ofNat 16 (2 ^ b.val),
            doneFresh := s.lbus.doneFresh.add s.clock (BitVec.ofNat 32 (2 ^ (16 + b.val))) }) ∧
  (∀ (s : State) (b : Fin 16), s.lbus.bufs[b].st = 2 → s.lbus.bufs[b].cancel = false → s.lbus.shed = false →
      s.lbus.st = .active → s.lbus.txErr + 8 ≤ 127 → s.lbus.rxErr ≤ 127 →
      Completes (.canTxAttemptFail b .error) s [.lbus, .outbox] fun t =>
        t.outbox = .canErrorFrame :: s.outbox ∧
        t.lbus =
          { s.lbus with bufs := s.lbus.bufs.set b { s.lbus.bufs[b] with st := 1 }, txErr := s.lbus.txErr + 8 }) ∧
  -- LBUS_STATUS_PERIOD
  (∀ (s : State), s.arm.owner = true → s.im.statusPeriod ≠ 0 → s.img.active.isSome = true →
      s.lbus.shed = false → s.lbus.st ≠ .stopped → s.lbus.bufs[15].st ≠ 2 →
      Completes .lbusStatusPeriod s [.lbus] fun t =>
        t.lbus = { s.lbus with
            bufs := s.lbus.bufs.set 15 {
                st := 1,
                frame := some s.statusFrame,
                seq := s.lbus.bufs.toList.foldl (fun a x => max a x.seq) 0 + 1 } })

/-- Local-bus reception, acknowledge, bus idle, error counting, bus-off and recovery. From R309, R311, R312, R313,
R318, R319, R320 of spec/. Model choices and readings: log entry 21. -/
def Obligations.LocalBusReceptionAndErrors : Prop :=
  -- LBUS_RX_ACK
  (∀ (s : State) (p : Requester) (e : Fin 64) (x : RxEntry), Granted s p .operate 0x000E0044 →
      s.lbus.rx[e] = some x → x.owned = true →
      Completes (.lbusRxAck p e) s [.lbus, .outbox] fun t =>
        Answered s t p 0 ∧
        t.lbus = { s.lbus with
            rx := s.lbus.rx.set e none,
            rxFreed := (s.clock, if s.lbus.rxFreed.1 = s.clock then e :: s.lbus.rxFreed.2 else [e]) }) ∧
  (∀ (s : State) (p : Requester) (e : Fin 64), Granted s p .operate 0x000E0044 → s.lbus.rx[e] = none →
      Completes (.lbusRxAck p e) s [.outbox] fun t =>
        Answered s t p 7) ∧
  -- CAN_FRAME_RX
  (∀ (s : State) (f : CanFrame) (n : Fin 64) (k : Nat), s.lbus.st = .monitoring →
      s.reservedId f.xtd f.id.toNat = false → s.acceptFilter f = some k → s.freeEntry = some n →
      s.lbus.discRun = 0 →
      Completes (.canFrameRx f) s [.lbus] fun t =>
        t.lbus = { s.lbus with
            rx := s.lbus.rx.set n (some {
                frame := f,
                filter := k,
                wake := false,
                seq := s.lbus.rxSeq,
                order := s.lbus.rxN,
                owned := true }),
            rxSeq := (s.lbus.rxSeq + 1) % 256,
            rxN := s.lbus.rxN + 1,
            lastRx := none }) ∧
  (∀ (s : State) (f : CanFrame) (k : Nat), s.lbus.st = .monitoring → s.reservedId f.xtd f.id.toNat = false →
      s.acceptFilter f = some k → s.freeEntry = none →
      Completes (.canFrameRx f) s [.eng, .lbus, .evt, .free, .outbox] fun t =>
        t.lbus = { s.lbus with
            rxOverrun := true,
            overrunAt := some s.clock,
            cntOverrun := bump 8 s.lbus.cntOverrun,
            discRun := s.lbus.discRun + 1,
            lastRx := none }) ∧
  (∀ (s : State) (f : CanFrame), s.lbus.st = .active → s.reservedId f.xtd f.id.toNat = false →
      s.acceptFilter f = none → s.lbus.txErr ≤ 127 → s.lbus.rxErr ≤ 127 →
      Completes (.canFrameRx f) s [.lbus, .free, .outbox] fun t =>
        t.lbus = { s.lbus with rxErr := s.lbus.rxErr - 1, lastRx := none } ∧
        t.outbox = .canAck :: s.outbox) ∧
  (∀ (s : State) (f : CanFrame) (n : Fin 64) (k : Nat) (t0 : Word), s.lbus.st = .stopped →
      s.lbus.lastRx = some (false, t0) → (t0 - f.stamp).toNat < 2 ^ 31 → s.reservedId f.xtd f.id.toNat = false →
      s.acceptFilter f = some k → s.freeEntry = some n → s.lbus.discRun = 0 →
      Completes (.canFrameRx f) s [.lbus] fun t =>
        t.lbus = { s.lbus with
            rx := s.lbus.rx.set n (some {
                frame := f,
                filter := k,
                wake := false,
                seq := s.lbus.rxSeq,
                order := s.lbus.rxN,
                owned := true }),
            rxSeq := (s.lbus.rxSeq + 1) % 256,
            rxN := s.lbus.rxN + 1,
            lastRx := none }) ∧
  (∀ (s : State) (f : CanFrame), s.lbus.st = .stopped → s.lbus.lastRx = none →
      Completes (.canFrameRx f) s [] fun t =>
        t = s) ∧
  -- LBUS_BUS_IDLE
  (∀ (s : State), s.lbus.st = .integrating → s.lbus.wakeFrame = none →
      Completes .lbusBusIdle s [.lbus] fun t =>
        t.lbus = { s.lbus with
            st := if !s.arm.owner then .monitoring else if 127 < s.lbus.txErr ∨ 127 < s.lbus.rxErr then .passive
              else .active,
            toNormal := false,
            wakeFrame := none,
            lastRx := none }) ∧
  (∀ (s : State), s.lbus.st = .monitoring → s.lbus.toNormal = true →
      Completes .lbusBusIdle s [.lbus] fun t =>
        t.lbus = { s.lbus with st := .active, toNormal := false }) ∧
  (∀ (s : State) (b : Fin 16), s.lbus.st = .active → s.winner = some b → (∀ k : Fin 16, s.lbus.bufs[k].st ≠ 2) →
      Completes .lbusBusIdle s [.lbus] fun t =>
        t.lbus = { s.lbus with bufs := s.lbus.bufs.set b { s.lbus.bufs[b] with st := 2 } }) ∧
  -- LBUS_RX_ERROR
  (∀ (s : State) (d : Bool), s.lbus.st = .active → s.lbus.txErr ≤ 127 →
      s.lbus.rxErr + (if d then 8 else 1) ≤ 127 →
      Completes (.lbusRxError d) s [.lbus, .outbox] fun t =>
        t.outbox = .canErrorFrame :: s.outbox ∧
        t.lbus = { s.lbus with rxErr := s.lbus.rxErr + if d then 8 else 1 }) ∧
  (∀ (s : State) (d : Bool), s.lbus.st = .active → 127 < s.lbus.rxErr + (if d then 8 else 1) →
      Completes (.lbusRxError d) s [.lbus, .evt, .outbox] fun t =>
        t.outbox = .canErrorFrame :: s.outbox ∧
        t.lbus = { s.lbus with
            st := .passive,
            rxErr := min 255 (s.lbus.rxErr + if d then 8 else 1),
            cntPassive := bump 8 s.lbus.cntPassive } ∧
        Logged s t 0x7001 (min s.lbus.txErr 255) (min (min 255 (s.lbus.rxErr + if d then 8 else 1)) 255)) ∧
  -- LBUS_BUS_OFF
  (∀ (s : State), (s.lbus.st = .active ∨ s.lbus.st = .passive) → 256 ≤ s.lbus.txErr → s.im.autoRecover = 1 →
      ((s.lbus.offTimes.filter fun u => decide (s.clock < u + 60 * secNs)).length + 1 < s.im.busoffMax) →
      Completes .lbusBusOff s [.lbus, .evt] fun t =>
        t.lbus = { s.lbus with
            st := .busOff,
            cntBusoff := bump 8 s.lbus.cntBusoff,
            offTimes := s.clock :: s.lbus.offTimes.filter fun u => decide (s.clock < u + 60 * secNs),
            held := false,
            recovering := false,
            offDue := some (s.clock + msNs * s.im.busoffHold),
            bufs := s.lbus.bufs.map fun y => if y.st = 2 then { y with st := 1 } else y } ∧
        Logged s t 0x7002 (min s.lbus.txErr 255)) ∧
  -- BUSOFF_HOLD_EXPIRY
  (∀ (s : State) (t0 : Nat), s.lbus.st = .busOff → s.lbus.offDue = some t0 → t0 ≤ s.clock →
      Completes .busoffHoldExpiry s [.lbus] fun t =>
        t.lbus = { s.lbus with recovering := true, offDue := none }) ∧
  -- BUS_OFF_RECOVERED
  (∀ (s : State), s.lbus.st = .busOff → s.lbus.recovering = true →
      Completes .busOffRecovered s [.lbus, .evt] fun t =>
        t.lbus = { s.lbus with st := .active, rxErr := 0, txErr := 0, recovering := false, held := false } ∧
        Logged s t 0x7003 (s.lbus.offTimes.filter fun u => decide (s.clock < u + 60 * secNs)).length) ∧
  -- LBUS_CMD_RECOVER
  (∀ (s : State) (p : Requester), Granted s p .operate 0x000E0004 → s.lbus.st = .busOff →
      Completes (.lbusCmdRecover p) s [.lbus, .outbox] fun t =>
        Answered s t p 0 ∧
        t.lbus = { s.lbus with recovering := true, held := false, offDue := none })

/-- CHA_CMD is refused with 0x04 without the token and with 0x05 under a lock, counted and logged. From R165, R359,
R356 of spec/. -/
def Obligations.ChainCommandRefusals : Prop :=
  -- CHA_CMD_CONNECT
  (∀ (s : State) (p : Requester) (c : ChainId), Granted s p .operate (chaAddr c 4) → s.declared c = true →
      s.arm.owner = false →
      Completes (.chaCmdConnect p c) s [.chA, .chB, .evt, .outbox] fun t =>
        t.chain c = { s.chain c with cntRefused := bump 8 (s.chain c).cntRefused } ∧
        Logged s t 0x2011 1 4 ∧
        Answered s t p 4) ∧
  (∀ (s : State) (p : Requester) (c : ChainId), Granted s p .operate (chaAddr c 4) → s.declared c = true →
      s.arm.owner = true → s.chainLocked c = true →
      Completes (.chaCmdConnect p c) s [.chA, .chB, .evt, .outbox] fun t =>
        t.chain c = { s.chain c with cntRefused := bump 8 (s.chain c).cntRefused } ∧
        Logged s t 0x2011 1 5 ∧
        Answered s t p 5) ∧
  -- CHA_CMD_RUN
  (∀ (s : State) (p : Requester) (c : ChainId), Granted s p .operate (chaAddr c 4) → s.declared c = true →
      s.arm.owner = false →
      Completes (.chaCmdRun p c) s [.chA, .chB, .evt, .outbox] fun t =>
        t.chain c = { s.chain c with cntRefused := bump 8 (s.chain c).cntRefused } ∧
        Logged s t 0x2011 2 4 ∧
        Answered s t p 4) ∧
  (∀ (s : State) (p : Requester) (c : ChainId), Granted s p .operate (chaAddr c 4) → s.declared c = true →
      s.arm.owner = true → s.chainLocked c = true →
      Completes (.chaCmdRun p c) s [.chA, .chB, .evt, .outbox] fun t =>
        t.chain c = { s.chain c with cntRefused := bump 8 (s.chain c).cntRefused } ∧
        Logged s t 0x2011 2 5 ∧
        Answered s t p 5) ∧
  -- CHA_CMD_BLOCK
  (∀ (s : State) (p : Requester) (c : ChainId), Granted s p .operate (chaAddr c 4) → s.declared c = true →
      s.arm.owner = false →
      Completes (.chaCmdBlock p c) s [.chA, .chB, .evt, .outbox] fun t =>
        t.chain c = { s.chain c with cntRefused := bump 8 (s.chain c).cntRefused } ∧
        Logged s t 0x2011 3 4 ∧
        Answered s t p 4) ∧
  (∀ (s : State) (p : Requester) (c : ChainId), Granted s p .operate (chaAddr c 4) → s.declared c = true →
      s.arm.owner = true → s.chainLocked c = true →
      Completes (.chaCmdBlock p c) s [.chA, .chB, .evt, .outbox] fun t =>
        t.chain c = { s.chain c with cntRefused := bump 8 (s.chain c).cntRefused } ∧
        Logged s t 0x2011 3 5 ∧
        Answered s t p 5) ∧
  -- CHA_CMD_DISCONNECT
  (∀ (s : State) (p : Requester) (c : ChainId), Granted s p .operate (chaAddr c 4) → s.declared c = true →
      s.arm.owner = false →
      Completes (.chaCmdDisconnect p c) s [.chA, .chB, .evt, .outbox] fun t =>
        t.chain c = { s.chain c with cntRefused := bump 8 (s.chain c).cntRefused } ∧
        Logged s t 0x2011 4 4 ∧
        Answered s t p 4) ∧
  (∀ (s : State) (p : Requester) (c : ChainId), Granted s p .operate (chaAddr c 4) → s.declared c = true →
      s.arm.owner = true → s.chainLocked c = true →
      Completes (.chaCmdDisconnect p c) s [.chA, .chB, .evt, .outbox] fun t =>
        t.chain c = { s.chain c with cntRefused := bump 8 (s.chain c).cntRefused } ∧
        Logged s t 0x2011 4 5 ∧
        Answered s t p 5)

/-- CONNECT, RUN, BLOCK and DISCONNECT do what Table 07.3 says in the states that accept them. From R165, R166,
R167, R168, R170, R171 of spec/. -/
def Obligations.ChainCommandsAct : Prop :=
  -- CHA_CMD_CONNECT
  (∀ (s : State) (p : Requester) (c : ChainId), Granted s p .operate (chaAddr c 4) → s.declared c = true →
      s.arm.owner = true → s.chainLocked c = false → s.canConnect c = true →
      Completes (.chaCmdConnect p c) s [.chA, .chB, .snA, .snB, .sec, .evt, .outbox] fun t =>
        t.chain c = { s.chain c with
            st := .connecting,
            seq := .conDiag,
            seqDue := some (s.clock + 20 * msNs),
            preOnly := false,
            clampLost := false,
            integ := 0,
            iRef := some 0,
            uPend := [] } ∧
        (∀ k, k ≠ c → t.chain k = s.chain k) ∧
        t.outbox.head? = some (.status p 0)) ∧
  -- CHA_CMD_RUN
  (∀ (s : State) (p : Requester) (c : ChainId), Granted s p .operate (chaAddr c 4) → s.declared c = true →
      s.arm.owner = true → s.chainLocked c = false → (s.chain c).st = .block → (s.chain c).closed = true →
      s.ranked c = false → s.arm.mode ≠ .block →
      Completes (.chaCmdRun p c) s [.chA, .chB, .outbox] fun t =>
        t.chain c = { s.chain c with
            st := .run,
            seq := .none,
            seqDue := none,
            preDue := none,
            preOnly := false,
            byAllHeld := false,
            openAfter := false,
            protReq := none,
            integ := 0,
            iRef := some 0 } ∧
        (∀ k, k ≠ c → t.chain k = s.chain k) ∧
        Answered s t p 0) ∧
  -- CHA_CMD_BLOCK
  (∀ (s : State) (p : Requester) (c : ChainId), Granted s p .operate (chaAddr c 4) → s.declared c = true →
      s.arm.owner = true → s.chainLocked c = false → s.ranked c = false → (s.chain c).st = .run →
      Completes (.chaCmdBlock p c) s [.glk, .chA, .chB, .snA, .snB, .thm, .lsw, .sec, .mnt, .evt, .outbox] fun t
        =>
        (t.chain c).st = .zeroing ∧
        (t.chain c).openAfter = false ∧
        (t.chain c).protReq = none ∧
        (t.chain c).zeroSince = none ∧
        (t.chain c).iRef = (s.chain c).iRef ∧
        t.outbox.head? = some (.status p 0)) ∧
  (∀ (s : State) (p : Requester) (c : ChainId), Granted s p .operate (chaAddr c 4) → s.declared c = true →
      s.arm.owner = true → s.chainLocked c = false → s.ranked c = false → (s.chain c).st = .connecting →
      Completes (.chaCmdBlock p c) s [.glk, .chA, .chB, .snA, .snB, .thm, .lsw, .sec, .mnt, .evt, .outbox] fun t
        =>
        (t.chain c).st = .opening ∧
        (t.chain c).seq = .abortPre ∧
        (t.chain c).seqDue = some (s.clock + msNs * s.im.contSettle c) ∧
        (t.chain c).kPos = false ∧
        (t.chain c).kPre = false ∧
        (t.chain c).kNeg = (s.chain c).kNeg ∧
        t.outbox.head? = some (.status p 0)) ∧
  -- CHA_CMD_DISCONNECT
  (∀ (s : State) (p : Requester) (c : ChainId), Granted s p .operate (chaAddr c 4) → s.declared c = true →
      s.arm.owner = true → s.chainLocked c = false →
      ((s.chain c).st = .absent ∨ (s.chain c).st = .block ∧ (s.chain c).opened = true) →
      Completes (.chaCmdDisconnect p c) s [.outbox] fun t =>
        Answered s t p 0) ∧
  (∀ (s : State) (p : Requester) (c : ChainId), Granted s p .operate (chaAddr c 4) → s.declared c = true →
      s.arm.owner = true → s.chainLocked c = false → s.ranked c = false → (s.chain c).st = .block →
      (s.chain c).opened = false →
      Completes (.chaCmdDisconnect p c) s [.glk, .chA, .chB, .snA, .snB, .thm, .lsw, .sec, .mnt, .evt, .outbox]
        fun t =>
        (t.chain c).st = .opening ∧
        (t.chain c).seq = (if s.lowCap c then .openShort1 else .openPos) ∧
        (t.chain c).seqDue = some (s.clock + msNs * s.im.contSettle c) ∧
        (t.chain c).kPos = false ∧
        (t.chain c).kNeg = (s.chain c).kNeg ∧
        (t.chain c).kPre = (s.chain c).kPre ∧
        t.outbox.head? = some (.status p 0)) ∧
  (∀ (s : State) (p : Requester) (c : ChainId), Granted s p .operate (chaAddr c 4) → s.declared c = true →
      s.arm.owner = true → s.chainLocked c = false → s.ranked c = false → (s.chain c).st = .run →
      Completes (.chaCmdDisconnect p c) s [.glk, .chA, .chB, .snA, .snB, .thm, .lsw, .sec, .mnt, .evt, .outbox]
        fun t =>
        (t.chain c).st = .zeroing ∧
        (t.chain c).openAfter = true ∧
        (t.chain c).protReq = none ∧
        (t.chain c).zeroSince = none ∧
        (t.chain c).iRef = (s.chain c).iRef ∧
        t.outbox.head? = some (.status p 0)) ∧
  (∀ (s : State) (p : Requester) (c : ChainId), Granted s p .operate (chaAddr c 4) → s.declared c = true →
      s.arm.owner = true → s.chainLocked c = false → s.ranked c = false → (s.chain c).st = .zeroing →
      Completes (.chaCmdDisconnect p c) s [.chA, .chB, .outbox] fun t =>
        t.chain c = { s.chain c with openAfter := true } ∧
        (∀ k, k ≠ c → t.chain k = s.chain k) ∧
        Answered s t p 0)

/-- The connection sequence closes the contactors in order, times out, aborts and cools down. From R168, R177, R209
of spec/. Model choices and readings: log entries 5, 47. -/
def Obligations.ChainConnectionSequence : Prop :=
  -- CONNECT_STEP_TIMER
  (∀ (s : State) (c : ChainId), (s.chain c).st = .connecting → (s.chain c).seq = .conDiag →
      s.diagsDone c = true → s.im.str.minModules ≤ s.avail c →
      Completes (.connectStepTimer c) s [.chA, .chB, .lsw, .evt, .free] fun t =>
        t.chain c = ({ s.chain c with
            seq := .conNeg,
            seqDue := some (s.clock + msNs * s.im.contSettle c),
            seqStart := s.clock } : Chain).coil 1 true s.clock ∧
        (t.chain c).kNeg = true ∧
        ∀ k, k ≠ c → t.chain k = s.chain k) ∧
  (∀ (s : State) (c : ChainId), (s.chain c).st = .connecting → (s.chain c).seq = .conDiag →
      s.diagsDone c = true → s.avail c < s.im.str.minModules →
      Completes (.connectStepTimer c) s [.glk, .chA, .chB, .snA, .snB, .thm, .lsw, .mnt, .evt, .free] fun t =>
        (t.chain c).st = .opening ∧
        (t.chain c).seq = .abortPre ∧
        (t.chain c).seqDue = some (s.clock + msNs * s.im.contSettle c) ∧
        (t.chain c).kPos = false ∧
        (t.chain c).kPre = false) ∧
  (∀ (s : State) (c : ChainId), (s.chain c).st = .connecting → due s.clock (s.chain c).seqDue = true →
      (s.chain c).seq = .conDiag → s.diagsDone c = false →
      Completes (.connectStepTimer c) s [.chA, .chB, .snA, .snB] fun t =>
        t.chain c = { s.chain c with seqDue := some (s.clock + 20 * msNs) } ∧
        ∀ k, k ≠ c → t.chain k = s.chain k) ∧
  (∀ (s : State) (c : ChainId), (s.chain c).st = .connecting → due s.clock (s.chain c).seqDue = true →
      (s.chain c).seq = .conNeg →
      Completes (.connectStepTimer c) s [.chA, .chB, .lsw] fun t =>
        t.chain c =
          { s.chain c with seq := .conPre, seqDue := some (s.clock + msNs * s.im.contSettle c), kPre := true } ∧
        ∀ k, k ≠ c → t.chain k = s.chain k) ∧
  (∀ (s : State) (c : ChainId), (s.chain c).st = .connecting → due s.clock (s.chain c).seqDue = true →
      (s.chain c).seq = .conPre →
      Completes (.connectStepTimer c) s [.chA, .chB, .free] fun t =>
        t.chain c = { s.chain c with
            seq := .conCharge,
            seqDue := none,
            target := s.preTarget,
            preDue := some (s.clock + secNs * s.im.preTimeout c) } ∧
        ∀ k, k ≠ c → t.chain k = s.chain k) ∧
  (∀ (s : State) (c : ChainId), (s.chain c).st = .connecting → due s.clock (s.chain c).seqDue = true →
      (s.chain c).seq = .conPos →
      Completes (.connectStepTimer c) s [.chA, .chB, .lsw] fun t =>
        t.chain c = { s.chain c with
            seq := .conPreOff,
            seqDue := some (s.clock + msNs * s.im.contSettle c),
            kPre := false } ∧
        ∀ k, k ≠ c → t.chain k = s.chain k) ∧
  (∀ (s : State) (c : ChainId), (s.chain c).st = .connecting → due s.clock (s.chain c).seqDue = true →
      (s.chain c).seq = .conPreOff → (s.chain c).preOnly = false →
      Completes (.connectStepTimer c) s [.chA, .chB, .evt] fun t =>
        t.chain c = { s.chain c with
            st := .run,
            seq := .none,
            seqDue := none,
            preDue := none,
            preOnly := false,
            byAllHeld := false,
            openAfter := false,
            protReq := none,
            integ := 0,
            iRef := some 0,
            opsCycles := sat 16 ((s.chain c).opsCycles + 1) } ∧
        ∀ k, k ≠ c → t.chain k = s.chain k) ∧
  -- PRECHARGE_TARGET_REACHED
  (∀ (s : State) (c : ChainId), (s.chain c).st = .connecting → (s.chain c).seq = .conCharge →
      s.targetMet c = true → s.chNear c (s.im.connectDv c) = true →
      Completes (.prechargeTargetReached c) s [.chA, .chB, .lsw] fun t =>
        (t.chain c).seq = .conPos ∧
        (t.chain c).seqDue = some (s.clock + msNs * s.im.contSettle c) ∧
        (t.chain c).preDue = none ∧
        (t.chain c).kPos = true ∧
        (t.chain c).kNeg = (s.chain c).kNeg ∧
        (t.chain c).kPre = (s.chain c).kPre ∧
        (t.chain c).st = .connecting ∧
        ∀ k, k ≠ c → t.chain k = s.chain k) ∧
  -- PRECHARGE_TIMEOUT
  (∀ (s : State) (c : ChainId), (s.chain c).st = .connecting → (s.chain c).seq = .conCharge →
      due s.clock (s.chain c).preDue = true → s.targetMet c = false →
      Completes (.prechargeTimeout c) s [.glk, .chA, .chB, .snA, .snB, .thm, .lsw, .mnt, .evt] fun t =>
        (t.chain c).st = .opening ∧
        (t.chain c).seq = .abortPre ∧
        (t.chain c).seqDue = some (s.clock + msNs * s.im.contSettle c) ∧
        (t.chain c).kPos = false ∧
        (t.chain c).kPre = false ∧
        (t.chain c).coolDue = some (s.clock + secNs * s.im.preTimeout c)) ∧
  -- PRECHARGE_COOLDOWN_END
  (∀ (s : State) (c : ChainId), due s.clock (s.chain c).coolDue = true → s.arm.mode ≠ .energise →
      Completes (.prechargeCooldownEnd c) s [.chA, .chB] fun t =>
        t.chain c = { s.chain c with coolDue := none } ∧
        ∀ k, k ≠ c → t.chain k = s.chain k)

/-- The opening sequences, the drive to zero current and the forced opening. From R170, R171, R172 of spec/. Model
choices and readings: log entry 18. -/
def Obligations.ChainOpeningSequence : Prop :=
  -- OPENING_STEP_TIMER
  (∀ (s : State) (c : ChainId), (s.chain c).st = .opening → due s.clock (s.chain c).seqDue = true →
      (s.chain c).seq = .openPos →
      Completes (.openingStepTimer c) s [.chA, .chB] fun t =>
        t.chain c = { s.chain c with seq := .openTest1, seqDue := some (s.clock + 10 * msNs) } ∧
        ∀ k, k ≠ c → t.chain k = s.chain k) ∧
  (∀ (s : State) (c : ChainId), (s.chain c).st = .opening → due s.clock (s.chain c).seqDue = true →
      (s.chain c).seq = .openNeg →
      Completes (.openingStepTimer c) s [.chA, .chB, .lsw] fun t =>
        t.chain c = { s.chain c with
            seq := .openPreOn,
            seqDue := some (s.clock + msNs * s.im.contSettle c),
            kPre := true } ∧
        ∀ k, k ≠ c → t.chain k = s.chain k) ∧
  (∀ (s : State) (c : ChainId), (s.chain c).st = .opening → due s.clock (s.chain c).seqDue = true →
      (s.chain c).seq = .openShort1 →
      Completes (.openingStepTimer c) s [.chA, .chB, .lsw] fun t =>
        t.chain c = { s.chain c with
            seq := .openShort2,
            seqDue := some (s.clock + msNs * s.im.contSettle c),
            kNeg := false,
            kClosedSince := none } ∧
        ∀ k, k ≠ c → t.chain k = s.chain k) ∧
  (∀ (s : State) (c : ChainId), (s.chain c).st = .opening → due s.clock (s.chain c).seqDue = true →
      (s.chain c).seq = .forcePos →
      Completes (.openingStepTimer c) s [.chA, .chB, .lsw] fun t =>
        t.chain c = { s.chain c with
            seq := .forceNeg,
            seqDue := some (s.clock + msNs * s.im.contSettle c),
            kNeg := false,
            kClosedSince := none } ∧
        ∀ k, k ≠ c → t.chain k = s.chain k) ∧
  (∀ (s : State) (c : ChainId), (s.chain c).st = .opening → due s.clock (s.chain c).seqDue = true →
      (s.chain c).seq = .openPreOn →
      Completes (.openingStepTimer c) s [.chA, .chB] fun t =>
        t.chain c =
          { s.chain c with seq := .openTest2, seqDue := some (s.clock + 10 * msNs), weldBase := s.vCh c } ∧
        ∀ k, k ≠ c → t.chain k = s.chain k) ∧
  (∀ (s : State) (c : ChainId), (s.chain c).st = .opening → due s.clock (s.chain c).seqDue = true →
      ((s.chain c).seq = .openPreOff) →
      Completes (.openingStepTimer c) s [.chA, .chB, .evt] fun t =>
        t.chain c = { s.chain c with
            st := .block,
            seq := .none,
            seqDue := none,
            openReq := false,
            openReqAt := none,
            openAfter := false,
            preOnly := false,
            weldBase := none,
            byAllHeld := false }) ∧
  (∀ (s : State) (c : ChainId), (s.chain c).st = .opening → due s.clock (s.chain c).seqDue = true →
      ((s.chain c).seq = .openShort2) →
      Completes (.openingStepTimer c) s [.chA, .chB, .evt] fun t =>
        t.chain c = { s.chain c with
            st := .block,
            seq := .none,
            seqDue := none,
            openReq := false,
            openReqAt := none,
            openAfter := false,
            preOnly := false,
            weldBase := none,
            byAllHeld := false }) ∧
  (∀ (s : State) (c : ChainId), (s.chain c).st = .opening → due s.clock (s.chain c).seqDue = true →
      ((s.chain c).seq = .forceNeg) →
      Completes (.openingStepTimer c) s [.chA, .chB, .evt] fun t =>
        t.chain c = { s.chain c with
            st := .block,
            seq := .none,
            seqDue := none,
            openReq := false,
            openReqAt := none,
            openAfter := false,
            preOnly := false,
            weldBase := none,
            byAllHeld := false }) ∧
  (∀ (s : State) (c : ChainId), (s.chain c).st = .opening → due s.clock (s.chain c).seqDue = true →
      (s.chain c).seq = .abortPre →
      Completes (.openingStepTimer c) s [.chA, .chB, .lsw, .evt] fun t =>
        (t.chain c).st = .block ∧
        (t.chain c).seq = .none ∧
        (t.chain c).kNeg = false ∧
        (t.chain c).kPos = (s.chain c).kPos ∧
        (t.chain c).kPre = (s.chain c).kPre ∧
        (t.chain c).openReq = false) ∧
  -- ZEROING_COMPLETE
  (∀ (s : State) (c : ChainId) (t0 : Nat), (s.chain c).st = .zeroing → (s.chain c).protReq = none →
      (s.chain c).zeroSince = some t0 → t0 + msNs ≤ s.clock →
      Completes (.zeroingComplete c) s [.glk, .chA, .chB, .snA, .snB, .thm, .lsw, .mnt, .evt] fun t =>
        (t.chain c).st = (if (s.chain c).openAfter then .opening else .block) ∧
        (t.chain c).iRef = some 0 ∧
        ((s.chain c).openAfter = true → (t.chain c).kPos = false ∧ (t.chain c).seqDue = some
          (s.clock + msNs * s.im.contSettle c)) ∧
        ((s.chain c).openAfter = false → (t.chain c).kPos = (s.chain c).kPos ∧ (t.chain c).kNeg =
          (s.chain c).kNeg ∧ (t.chain c).kPre = (s.chain c).kPre)) ∧
  -- PROTECTIVE_ZERO_BLOCK
  (∀ (s : State) (c : ChainId) (t0 : Nat), (s.chain c).st = .zeroing → (s.chain c).protReq = some t0 →
      (s.chain c).openAfter = false → (s.quiet c = true ∨ t0 + msNs ≤ s.clock) →
      Completes (.protectiveZeroBlock c) s [.glk, .chA, .chB, .snA, .snB, .thm, .lsw, .mnt, .evt, .outbox] fun t
        =>
        (t.chain c).st = .block ∧
        (t.chain c).seq = .none ∧
        (t.chain c).protReq = none ∧
        (t.chain c).iRef = some 0 ∧
        (t.chain c).openReq = (s.chain c).openReq ∧
        (t.chain c).openReqAt = none ∧
        (t.chain c).kPos = (s.chain c).kPos ∧
        (t.chain c).kNeg = (s.chain c).kNeg ∧
        (t.chain c).kPre = (s.chain c).kPre) ∧
  (∀ (s : State) (c : ChainId) (t0 : Nat), (s.chain c).st = .zeroing → (s.chain c).protReq = some t0 →
      (s.chain c).openAfter = true → s.quiet c = true →
      Completes (.protectiveZeroBlock c) s [.glk, .chA, .chB, .snA, .snB, .thm, .lsw, .mnt, .evt, .outbox] fun t
        =>
        (t.chain c).st = .opening ∧
        (t.chain c).kPos = false ∧
        (t.chain c).kNeg = (s.chain c).kNeg ∧
        (t.chain c).kPre = (s.chain c).kPre ∧
        (t.chain c).iRef = some 0) ∧
  -- FORCED_OPEN
  (∀ (s : State) (c : ChainId) (t0 : Nat), (s.chain c).openReqAt = some t0 → (s.chain c).st = .block →
      (s.chain c).openReq = true → (s.chain c).opened = false → s.quiet c = false → t0 + 20 * msNs ≤ s.clock →
      Completes (.forcedOpen c) s [.chA, .chB, .lsw, .evt] fun t =>
        t.chain c = { s.chain c with
            st := .opening,
            seq := .forcePos,
            seqDue := some (s.clock + msNs * s.im.contSettle c),
            forced := true,
            openReqAt := none,
            opsForced := sat 16 ((s.chain c).opsForced + 1),
            kPos := false,
            kClosedSince := none } ∧
        ∀ k, k ≠ c → t.chain k = s.chain k)

/-- Parking, unparking and the weld clear act on the named module or chain alone. From R163, R164, R173 of spec/.
Model choices and readings: log entry 18. -/
def Obligations.ModuleParking : Prop :=
  -- CHA_PARK_GO
  (∀ (s : State) (p : Requester) (c : ChainId) (m : Fin 32), Granted s p .configure (chaAddr c 0x60) →
      s.declared c = true → m.val < s.nMods → s.arm.owner = true → s.chainLocked c = false →
      (s.chain c).mods[m].held = false → (s.chain c).mods[m].pend = 0 → s.canPark c m = true →
      Completes (.chaParkGo p c m) s [.chA, .chB, .est, .outbox] fun t =>
        (t.chain c).mods[m] = { (s.chain c).mods[m] with pend := 2 } ∧
        (∀ j : Fin 32, j ≠ m → (t.chain c).mods[j] = (s.chain c).mods[j]) ∧
        Answered s t p 0) ∧
  (∀ (s : State) (p : Requester) (c : ChainId) (m : Fin 32), Granted s p .configure (chaAddr c 0x60) →
      s.declared c = true → s.nMods ≤ m.val →
      Completes (.chaParkGo p c m) s [.outbox] fun t =>
        Answered s t p 7) ∧
  -- PARK_EXECUTE
  (∀ (s : State) (c : ChainId) (m : Fin 32), s.chainRuns c = true → (s.chain c).mods[m].pend ≠ 0 →
      (s.chain c).mods[m].st ≠ .parked → (s.chain c).mods[m].trim = false → s.canPark c m = true →
      Completes (.parkExecute c m) s [.glk, .chA, .chB, .est, .thm, .lsw, .mnt, .evt] fun t =>
        (t.chain c).mods[m] = { (s.chain c).mods[m] with
            st := .parked,
            cause := (s.chain c).mods[m].pend,
            pend := 0,
            barred := false,
            trim := false } ∧
        (∀ j : Fin 32, j ≠ m → (t.chain c).mods[j] = (s.chain c).mods[j]) ∧
        (t.chain c).order = (s.chain c).order.filter (· != m)) ∧
  -- CHA_CLEAR_UNPARK
  (∀ (s : State) (p : Requester) (c : ChainId) (m : Fin 32), Granted s p .clear (chaAddr c 0x64) →
      s.declared c = true → m.val < s.nMods → s.arm.owner = true → s.chainLocked c = false →
      (s.chain c).mods[m].held = true → s.parkCauseStands c m (s.chain c).mods[m].cause = false →
      Completes (.chaClearUnpark p c m) s [.chA, .chB, .est, .evt, .outbox] fun t =>
        (t.chain c).mods[m] = { (s.chain c).mods[m] with leave := true, cause := 0 } ∧
        (∀ j : Fin 32, j ≠ m → (t.chain c).mods[j] = (s.chain c).mods[j]) ∧
        t.outbox.head? = some (.status p 0)) ∧
  (∀ (s : State) (p : Requester) (c : ChainId) (m : Fin 32), Granted s p .clear (chaAddr c 0x64) →
      s.declared c = true → m.val < s.nMods → s.arm.owner = true → s.chainLocked c = false →
      (s.chain c).mods[m].held = true → s.parkCauseStands c m (s.chain c).mods[m].cause = true →
      Completes (.chaClearUnpark p c m) s [.outbox] fun t =>
        Answered s t p 4) ∧
  -- CHA_CLEAR_WELD
  (∀ (s : State) (p : Requester) (c : ChainId), Granted s p .clear (chaAddr c 0x64) → s.declared c = true →
      s.arm.owner = true →
      Completes (.chaClearWeld p c) s [.chA, .chB, .outbox] fun t =>
        t.chain c = { s.chain c with weldPos := false, weldNeg := false, weldPre := false } ∧
        (∀ k, k ≠ c → t.chain k = s.chain k) ∧
        Answered s t p 0)

/-- The current loop, the staircase, the strobe, the over-budget count and the learning wave. From R153, R154, R155,
R156, R157, R176, R197, R202 of spec/. Model choices and readings: log entries 1, 5, 18, 49. -/
def Obligations.ChainControlTicks : Prop :=
  -- CURRENT_LOOP_TICK
  (∀ (s : State) (c : ChainId) (i : Option Int) (vCap vCh : Option Nat), s.chainRuns c = true →
      (s.chain c).st = .run → (s.chain c).seq = .none →
      Completes (.currentLoopTick c i vCap vCh) s [.meas, .glk, .chA, .chB, .snA, .snB, .thm, .lsw, .mnt, .evt,
        .free, .outbox] fun t =>
        (t.chain c).st = .run ∧
        (t.chain c).iMeas = i ∧
        0 ≤ (t.chain c).limDis ∧
        (t.chain c).limChg ≤ 0 ∧
        ∃ r, (t.chain c).iRef = some r ∧
        ((s.chain c).iRef.getD 0) - 100 * s.im.iSlew c ≤ r ∧
        r ≤ ((s.chain c).iRef.getD 0) + 100 * s.im.iSlew c) ∧
  -- TRIM_PERIOD_STAIRCASE
  (∀ (s : State) (c : ChainId), s.chainRuns c = true →
      Completes (.trimPeriodStaircase c) s [.chA, .chB, .free] fun t =>
        let z := s.stairAt c s.tim.time; (t.chain c).nIns = z.nIns ∧
        (t.chain c).sat = z.sat ∧
        (t.chain c).trim1 = z.trim1 ∧
        (t.chain c).trim2 = z.trim2 ∧
        (∀ m : Fin 32, (t.chain c).mods[m].leave = false) ∧
        (∀ m : Fin 32, m.val < s.nMods → (s.chain c).mods[m].held = true → (t.chain c).mods[m].st = .parked) ∧
        (∀ m : Fin 32, m.val < s.nMods → (s.chain c).mods[m].held = false →
          (s.stringOn c = false ∨ (s.chain c).mods[m].lost = true) → (t.chain c).mods[m].st = .block) ∧
        (∀ m : Fin 32, m.val < s.nMods → (s.chain c).mods[m].held = false → s.stringOn c = true →
          (s.chain c).mods[m].lost = false → (s.chain c).isTarget m = false → (t.chain c).mods[m].st = if
          z.inserted.contains m then .insert else .bypass) ∧
        (∀ m : Fin 32, m.val < s.nMods → (s.chain c).mods[m].held = false → s.stringOn c = true →
          (s.chain c).mods[m].lost = false → (s.chain c).isTarget m = true → (t.chain c).mods[m].st = if
          !s.learnPaused c && (s.chain c).learn.inserts then .insert else .bypass)) ∧
  -- SAMPLE_STROBE
  (∀ (s : State) (c : ChainId) (i : Option Int) (vCap vCh : Option Nat) (run hib : Int)
      (shunt : List (Nat × Int)), s.chainRuns c = true →
      Completes (.sampleStrobe c i vCap vCh run hib shunt) s [.eng, .meas, .chA, .chB, .snA, .snB, .esA, .esB,
        .evt, .free] fun t =>
        let raw : Int := (s.es c).accRem + run + hib * 1000000000 / (max 1 s.pwr.hibHz : Nat); (t.es c).accLive
          = (t.es c).acc ∧
        (∃ x : Snapshot, (t.es c).cci.getLast? = some x ∧ x.ts = s.tim.time / 1000000 * 1000000 ∧ x.acc =
          (t.es c).acc ∧ x.epoch = (s.es c).epoch ∧ (t.es c).acc = (s.es c).accLive + raw / s.shuntUnit c +
          (x.periods.map (·.dQ)).foldl (· + ·) 0) ∧
        (shunt = [] → (t.es c).acc = (s.es c).accLive + raw / s.shuntUnit c) ∧
        (t.chain c).iMeas = i ∧
        (t.sen c).strobed = false ∧
        (t.sen c).strobeAt = s.tim.time / 1000000 * 1000000 ∧
        ((s.sen c).strobed = true → (t.sen c).iRaw = i ∧ (t.sen c).awaited = true ∧ ∀ m : Fin 32,
          (t.sen c).recs[m].cntMark = (t.sen c).recs[m].cnt)) ∧
  -- OVER_BUDGET_TICK
  (∀ (s : State) (c : ChainId) (mean : Int), s.chainRuns c = true → 12000 < mean → (s.chain c).overMs < 59999 →
      Completes (.overBudgetTick c mean) s [.chA, .chB] fun t =>
        t.chain c = { s.chain c with overMs := (s.chain c).overMs + 1, overIdle := 0 } ∧
        ∀ k, k ≠ c → t.chain k = s.chain k) ∧
  (∀ (s : State) (c : ChainId) (mean : Int), s.chainRuns c = true → 12000 < mean → (s.chain c).overMs = 59999 →
      Completes (.overBudgetTick c mean) s [.chA, .chB, .evt] fun t =>
        t.chain c = { s.chain c with overMs := 60000, overIdle := 0 } ∧
        ∀ k, k ≠ c → t.chain k = s.chain k) ∧
  (∀ (s : State) (c : ChainId) (mean : Int), s.chainRuns c = true → mean ≤ 12000 → (s.chain c).overIdle = 4 →
      Completes (.overBudgetTick c mean) s [.chA, .chB] fun t =>
        t.chain c = { s.chain c with overMs := (s.chain c).overMs - 1, overIdle := 0 } ∧
        ∀ k, k ≠ c → t.chain k = s.chain k) ∧
  (∀ (s : State) (c : ChainId) (mean : Int), s.chainRuns c = true → mean ≤ 12000 → (s.chain c).overIdle ≠ 4 →
      Completes (.overBudgetTick c mean) s [.chA, .chB] fun t =>
        t.chain c = { s.chain c with overIdle := (s.chain c).overIdle + 1 } ∧
        ∀ k, k ≠ c → t.chain k = s.chain k) ∧
  -- LEARN_HALF_PERIOD
  (∀ (s : State) (c : ChainId), (s.chain c).learnOn = true → due s.clock (s.chain c).learn.halfDue = true →
      s.learnPaused c = false → (s.chain c).st = .run → (s.chain c).learn.phase ≠ 3 →
      Completes (.learnHalfPeriod c) s [.chA, .chB] fun t =>
        t.chain c = { s.chain c with
            learn := { (s.chain c).learn with
                pos := !(s.chain c).learn.pos,
                halfDue := some (s.clock + msNs * s.im.learnPeriod c / 2),
                taper := (s.chain c).learn.taper || s.taperDue c (s.chain c).learn,
                amp := s.learnAmp c (s.chain c).learn
                  ((s.chain c).learn.taper || s.taperDue c (s.chain c).learn) } } ∧
        ∀ k, k ≠ c → t.chain k = s.chain k)

/-- Heartbeats, role clash, dual ownership, takeover, the dovetail link and the state mirror. From R16, R142, R280,
R281, R283, R284, R285, R288, R359 of spec/. Model choices and readings: log entry 14. -/
def Obligations.HeartbeatsAndMirror : Prop :=
  -- HEARTBEAT_SEND
  (∀ (s : State), s.dvt.beating = true → s.simplex = false →
      Completes .heartbeatSend s [.outbox] fun t =>
        t.outbox = .heartbeat (beatSet ⟨s.dvt.healthy, s.arm.owner, s.arm.owner && s.dvt.giveAt.isSome,
          s.dvt.gen, s.dev.member⟩) :: s.outbox) ∧
  -- HEARTBEAT_RX
  (∀ (s : State) (x : OrdSet) (h : Heartbeat), beatOf x = some h → s.simplex = false → s.dvt.up = true →
      s.arm.roleClash = false → s.img.active.isSome = true → h.member ≠ s.dev.member → s.arm.owner = false →
      (h.healthy = true ∨ h.owner = false) →
      Completes (.heartbeatRx x) s [.snA, .snB, .dvt] fun t =>
        t.dvt = { s.dvt with
            lastBeat := some s.clock,
            cntGaps := if
              (match s.dvt.lastBeat with | none => false | some t0 => decide (t0 + 2 * usNs < s.clock)) then
              bump 8 s.dvt.cntGaps else s.dvt.cntGaps,
            partnerHealthy := h.healthy,
            partnerOwner := h.owner,
            partnerGen := h.gen,
            partnerGive := h.give,
            waitTake := if s.dev.member && !h.member then none else s.dvt.waitTake,
            gen := if h.owner && !s.arm.owner then h.gen else s.dvt.gen } ∧
        (h.owner = true → ∀ c ∈ s.chains, (t.sen c).cmdTail = !s.ownEnd) ∧
        (h.owner = false → ∀ c, t.sen c = s.sen c)) ∧
  (∀ (s : State) (x : OrdSet) (h : Heartbeat), beatOf x = some h → s.simplex = false → s.dvt.up = true →
      s.arm.roleClash = false → s.img.active.isSome = true → h.member = s.dev.member →
      Completes (.heartbeatRx x) s [.token, .arm, .glk, .chA, .chB, .snA, .snB, .thm, .dvt, .lsw, .lbus, .mnt,
        .evt, .legs] fun t =>
        t.arm.roleClash = true ∧
        t.arm.owner = false ∧
        t.dvt.st = .clash ∧
        (∀ l : Leg, (t.leg l).st = .hiZ ∧ (t.leg l).cause = 8) ∧
        ∀ i : Fin 4, t.glk.links[i].word = t.word i) ∧
  (∀ (s : State) (x : OrdSet) (h : Heartbeat), beatOf x = some h → s.simplex = false → s.dvt.up = true →
      s.arm.roleClash = false → s.img.active.isSome = true → h.member ≠ s.dev.member → s.arm.owner = true →
      h.owner = true → (s.dvt.gen < h.gen ∨ (h.gen = s.dvt.gen ∧ s.dev.member = true)) →
      Completes (.heartbeatRx x) s [.token, .arm, .glk, .chA, .chB, .snA, .snB, .thm, .dvt, .lsw, .lbus, .mnt,
        .evt, .legs] fun t =>
        t.arm = { s.arm with owner := false } ∧
        t.dvt.st = .tracking ∧
        t.dvt.gen = h.gen ∧
        t.dvt.giveAt = none ∧
        ∀ i : Fin 4, t.glk.links[i].word = t.word i) ∧
  (∀ (s : State) (x : OrdSet) (h : Heartbeat), beatOf x = some h → s.simplex = false → s.dvt.up = true →
      s.arm.roleClash = false → s.img.active.isSome = true → h.member ≠ s.dev.member → s.arm.owner = true →
      h.owner = true → s.dvt.partnerOwner = false →
      (h.gen < s.dvt.gen ∨ (h.gen = s.dvt.gen ∧ s.dev.member = false)) →
      Completes (.heartbeatRx x) s [.snA, .snB, .dvt, .evt] fun t =>
        t.dvt.st = s.dvt.st ∧
        t.dvt.gen = s.dvt.gen ∧
        t.dvt.partnerGen = h.gen ∧
        Logged s t 0xD007 s.dvt.gen h.gen) ∧
  (∀ (h : Heartbeat), h.gen < 65536 → beatOf (beatSet h) = some h) ∧
  (∀ (s : State) (x : OrdSet), beatOf x = none →
      Completes (.heartbeatRx x) s [] fun t =>
        t = s) ∧
  -- HEARTBEAT_TIMEOUT
  (∀ (s : State) (t0 : Nat), s.simplex = false → s.arm.owner = false → s.dvt.lastBeat = some t0 →
      t0 + 5 * usNs < s.clock → s.restartSilence = false → s.dvt.st = .tracking → s.dvt.healthy = true →
      s.arm.roleClash = false → s.dev.phase = .ready → s.dvt.waitTake = none →
      Completes .heartbeatTimeout s [.token, .arm, .glk, .chA, .chB, .snA, .snB, .thm, .dvt, .lsw, .lbus, .mnt,
        .evt, .legs] fun t =>
        t.arm = { s.arm with owner := true } ∧
        t.dvt.st = .owning ∧
        t.dvt.gen = (s.dvt.gen + 1) % 65536 ∧
        t.dvt.cntTake = bump 8 s.dvt.cntTake ∧
        ∀ i : Fin 4, t.glk.links[i].word = t.word i) ∧
  -- DVT_LINK_DOWN
  (∀ (s : State), s.simplex = false → s.dvt.up = true →
      Completes .dvtLinkDown s [.dvt, .evt] fun t =>
        t.dvt = { s.dvt with up := false, partnerOwner := false } ∧
        Logged s t 0xD005 0) ∧
  -- DVT_LINK_UP
  (∀ (s : State), s.simplex = false → s.dvt.up = false → s.ringRuns = true → s.img.active.isSome = true →
      Completes .dvtLinkUp s [.dvt, .evt] fun t =>
        t.dvt = { s.dvt with up := true, st := if s.dvt.st = .linkDown then .tracking else s.dvt.st } ∧
        Logged s t 0xD005 1) ∧
  -- STATE_MIRROR_SEND
  (∀ (s : State), s.dvt.beating = true → s.simplex = false → s.dvt.up = true →
      Completes .stateMirrorSend s [.snA, .snB, .prt, .outbox] fun t =>
        t.prt = { s.prt with firedOut := [], bypReqFwd := false } ∧
        t.outbox = .mirror s.mirrorNow :: s.outbox ∧
        ∀ c ∈ s.chains, (t.sen c).newSets = []) ∧
  -- STATE_MIRROR_RX
  (∀ (s : State), s.simplex = false → s.dvt.up = true → s.feRuns = true →
      Completes (.stateMirrorRx none) s [.dvt] fun t =>
        t.dvt = { s.dvt with cntCrc := bump 8 s.dvt.cntCrc }) ∧
  (∀ (s : State) (m : Mirror), s.simplex = false → s.dvt.up = true → s.feRuns = true → s.arm.owner = false →
      s.arm.roleClash = false → s.arm.bypassed = false →
      Completes (.stateMirrorRx (some m)) s [.bypass, .arm, .glk, .chA, .chB, .snA, .snB, .thm, .prt, .dvt,
        .lsw, .mnt, .evt, .outbox, .legs, .raised, .switch] fun t =>
        t.leg .a = { s.leg .a with st := m.legA, cause := m.causeA } ∧
        t.leg .b = { s.leg .b with st := m.legB, cause := m.causeB } ∧
        t.glk.bInvert = m.bInvert ∧
        t.mnt = { s.mnt with mirrored := m.acts } ∧
        t.dvt.mirror = some m) ∧
  (∀ (s : State) (m : Mirror), s.simplex = false → s.dvt.up = true → s.feRuns = true → s.arm.owner = true →
      m.bypassReq = true →
      Completes (.stateMirrorRx (some m)) s [.bypass, .arm, .glk, .chA, .chB, .snA, .snB, .thm, .prt, .dvt,
        .lsw, .mnt, .evt, .outbox, .legs, .raised, .switch] fun t =>
        t.arm.bypassed = true)

/-- The token hand-over: command, give, acknowledge, switch and time-out. From R284, R142 of spec/. Model choices
and readings: log entry 14. -/
def Obligations.TokenHandOver : Prop :=
  -- DVT_CMD_HANDOVER
  (∀ (s : State) (p : Requester), Granted s p .operate 0x00130004 → s.canHandOver = true →
      Completes (.dvtCmdHandover p) s [.dvt, .outbox] fun t =>
        t.dvt = { s.dvt with
            st := .handing,
            giveAt := some (s.tim.time + usNs * s.im.handoverLead),
            giveGen := (s.dvt.gen + 1) % 65536,
            acked := false } ∧
        t.outbox = .status p 0 :: .tokenGive ((s.dvt.gen + 1) % 65536) (s.tim.time + usNs * s.im.handoverLead)
          :: s.outbox) ∧
  (∀ (s : State) (p : Requester), Granted s p .operate 0x00130004 → s.canHandOver = false →
      Completes (.dvtCmdHandover p) s [.outbox] fun t =>
        Answered s t p 4) ∧
  -- TOKEN_GIVE_RX
  (∀ (s : State) (g tH : Nat), s.simplex = false → s.dvt.up = true → s.arm.owner = false →
      s.arm.roleClash = false → s.dev.phase = .ready → s.dvt.mirror = none →
      Completes (.tokenGiveRx g tH) s [.dvt] fun t =>
        t.dvt = { s.dvt with giveAt := some tH, giveGen := g, ackOwed := true, acked := false }) ∧
  (∀ (s : State) (g tH : Nat) (m : Mirror), s.simplex = false → s.dvt.up = true → s.arm.owner = false →
      s.arm.roleClash = false → s.dev.phase = .ready → s.dvt.mirror = some m → s.dvt.healthy = true →
      s.agrees m = true →
      Completes (.tokenGiveRx g tH) s [.dvt, .outbox] fun t =>
        t.dvt = { s.dvt with giveAt := some tH, giveGen := g, ackOwed := false, acked := false } ∧
        t.outbox = .tokenAck g :: s.outbox) ∧
  -- TOKEN_ACK_RX
  (∀ (s : State) (g t0 : Nat), s.arm.owner = true → s.dvt.giveAt = some t0 → s.dvt.up = true →
      g = s.dvt.giveGen →
      Completes (.tokenAckRx g) s [.dvt] fun t =>
        t.dvt = { s.dvt with acked := true }) ∧
  -- HANDOVER_SWITCH
  (∀ (s : State) (t0 : Nat), s.dvt.giveAt = some t0 → t0 ≤ s.tim.time → s.arm.owner = true →
      s.dvt.acked = true →
      Completes .handoverSwitch s [.token, .arm, .glk, .chA, .chB, .snA, .snB, .thm, .dvt, .lsw, .lbus, .mnt,
        .evt, .legs] fun t =>
        t.arm = { s.arm with owner := false } ∧
        t.dvt.st = .tracking ∧
        t.dvt.gen = s.dvt.giveGen ∧
        t.dvt.cntHand = bump 8 s.dvt.cntHand ∧
        t.dvt.giveAt = none) ∧
  (∀ (s : State) (t0 : Nat), s.dvt.giveAt = some t0 → t0 ≤ s.tim.time → s.arm.owner = false →
      s.dvt.ackOwed = false →
      Completes .handoverSwitch s [.token, .arm, .glk, .chA, .chB, .snA, .snB, .thm, .dvt, .lsw, .lbus, .mnt,
        .evt, .legs] fun t =>
        t.arm = { s.arm with owner := true } ∧
        t.dvt.st = .owning ∧
        t.dvt.gen = s.dvt.giveGen ∧
        t.dvt.cntHand = bump 8 s.dvt.cntHand ∧
        t.dvt.giveAt = none) ∧
  -- HANDOVER_ACK_TIMEOUT
  (∀ (s : State) (t0 : Nat), s.dvt.giveAt = some t0 → s.arm.owner = true → s.dvt.acked = false →
      t0 ≤ s.tim.time + 20 * usNs →
      Completes .handoverAckTimeout s [.dvt, .evt] fun t =>
        t.dvt = { s.dvt with st := .owning, giveAt := none, acked := false } ∧
        Logged s t 0xD004)

/-- VAUX low, engine watchdogs, lock-step, ECC errors, the scrubber and the PLINTH measurement. From R26, R28, R30,
R31, R32, R33, R35, R37, R326 of spec/. Model choices and readings: log entries 9, 42. -/
def Obligations.EnginesMemoriesAndVaux : Prop :=
  -- VAUX_LOW_DETECT
  (∀ (s : State) (v : Nat), s.pwr.vauxLow = false → s.outOfReset = true → v < s.im.vauxMin →
      Completes (.vauxLowDetect v) s [.glk, .chA, .chB, .snA, .snB, .thm, .lsw, .pwr, .mnt, .evt] fun t =>
        t.pwr = { s.pwr with vauxLow := true, vaux := some v }) ∧
  -- VAUX_LOW_CLEAR
  (∀ (s : State) (v : Nat), s.pwr.vauxLow = true → s.im.vauxMin + 1000 ≤ v →
      Completes (.vauxLowClear v) s [.lsw, .pwr, .evt] fun t =>
        t.pwr = { s.pwr with vauxLow := false, vaux := some v } ∧
        Logged s t 0x800A (v / 100)) ∧
  -- VAUX_LOW_DETECT
  (∀ (s : State) (v : Nat), s.pwr.vauxLow = true ∨ s.im.vauxMin ≤ v →
      Completes (.vauxLowDetect v) s [.pwr] fun t =>
        t.pwr = { s.pwr with vaux := some v }) ∧
  -- ENGINE_WATCHDOG_EXPIRY
  (∀ (s : State) (e : EngineId) (stray : Option Word), (∀ a, stray = some a → s.mayWrite e a.toNat = false) →
      (e = .ee ∨ e = .he) → s.eng.state[e.idx] = .running → s.eng.lastRestart[e.idx] = none →
      Completes (.engineWatchdogExpiry e stray) s [.eng, .glk, .dvt, .evt] fun t =>
        t.eng.state[e.idx] = .restarting ∧
        t.eng.restartDue[e.idx] = some s.clock ∧
        t.eng.lastRestart[e.idx] = some s.clock ∧
        t.eng.restarts[e.idx] = bump 4 s.eng.restarts[e.idx] ∧
        t.dvt = { s.dvt with healthy := false }) ∧
  (∀ (s : State) (e : EngineId) (stray : Option Word), (∀ a, stray = some a → s.mayWrite e a.toNat = false) →
      (e = .me ∨ e = .cea ∨ e = .ceb ∨ e = .fe) → s.eng.state[e.idx] = .running → s.eng.lastWarmWd = none →
      Completes (.engineWatchdogExpiry e stray) s [.phase, .dev, .eng, .image, .img, .spl, .tim, .meas, .cell,
        .token, .bypass, .arm, .pwm, .glk, .chA, .chB, .snA, .snB, .esA, .esB, .est, .thm, .prt, .dvt, .lsw,
        .lbus, .pwr, .sec, .mnt, .evt, .req, .outbox, .legs, .raised, .log, .switch, .shutdown] fun t =>
        t.dev.phase = .warm ∧
        t.pwr.rstCause = 6 ∧
        t.eng.lastWarmWd = some s.clock) ∧
  (∀ (s : State) (e : EngineId) (stray : Option Word) (t0 : Nat),
      (∀ a, stray = some a → s.mayWrite e a.toNat = false) → (e = .me ∨ e = .cea ∨ e = .ceb ∨ e = .fe) →
      s.eng.state[e.idx] = .running → s.eng.lastWarmWd = some t0 → s.clock < t0 + 60 * secNs →
      Completes (.engineWatchdogExpiry e stray) s [.phase, .dev, .eng, .image, .img, .spl, .tim, .meas, .cell,
        .token, .bypass, .arm, .pwm, .glk, .chA, .chB, .snA, .snB, .esA, .esB, .est, .thm, .prt, .dvt, .lsw,
        .lbus, .pwr, .sec, .mnt, .evt, .req, .outbox, .legs, .raised, .log, .switch, .shutdown] fun t =>
        t.dev.phase = .booting ∧
        t.pwr.rstCause = 3 ∧
        t.pwr.rstKind = 1) ∧
  (∀ (s : State) (e : EngineId) (a : Word), s.mayWrite e a.toNat = true →
      Completes (.engineWatchdogExpiry e (some a)) s [] fun t =>
        t = s) ∧
  -- ENGINE_RESTART_COMPLETE
  (∀ (s : State) (e : EngineId), s.eng.state[e.idx] = .restarting →
      Completes (.engineRestartComplete e) s [.eng, .glk, .dvt, .lsw, .evt] fun t =>
        t.eng =
          { s.eng with state := s.eng.state.set e.idx .running, restartDue := s.eng.restartDue.set e.idx none }
          ∧
        t.dvt = { s.dvt with healthy := s.dvt.beating && !s.pwr.s4 } ∧
        (e ≠ .he → t.lsw = s.lsw) ∧
        (e ≠ .he → (s.eng.state.set e.idx .running)[3] ≠ .restarting → (s.eng.state.set e.idx .running)[6] ≠
          .restarting → t.evt.hwQ = [])) ∧
  -- LOCKSTEP_MISMATCH
  (∀ (s : State), s.outOfReset = true → s.eng.seLs = false →
      Completes (.lockstepMismatch true) s [.eng, .arm, .glk, .chA, .chB, .snA, .snB, .thm, .prt, .lsw, .mnt,
        .evt, .outbox, .legs, .raised] fun t =>
        t.eng.seLs = true ∧
        t.eng.state[7] = .halted) ∧
  (∀ (s : State), s.outOfReset = true →
      Completes (.lockstepMismatch false) s [.phase, .dev, .eng, .image, .img, .spl, .tim, .meas, .cell, .token,
        .bypass, .arm, .pwm, .glk, .chA, .chB, .snA, .snB, .esA, .esB, .est, .thm, .prt, .dvt, .lsw, .lbus,
        .pwr, .sec, .mnt, .evt, .req, .outbox, .legs, .raised, .log, .switch, .shutdown] fun t =>
        t.eng.peLs = true ∧
        t.dev.phase = .booting ∧
        t.pwr.rstCause = 4) ∧
  -- ECC_UNCORRECTABLE
  (∀ (s : State) (a : Word) (e : EngineId), s.outOfReset = true → a.toNat < 0xC00000 →
      Completes (.eccUncorrectable .nvm a e 0) s [.eng, .img, .evt] fun t =>
        t.eng = { s.eng with
            eccAddr := a,
            nvmUe := true,
            ueFresh := s.eng.ueFresh.add s.clock (BitVec.ofNat 32 (2 ^ 26)) } ∧
        t.img = (if a.toNat < 0x600000 then { s.img with slotAErr := true } else
          { s.img with slotBErr := true }) ∧
        Logged s t 0x8104 (if a.toNat < 0x600000 then 0 else 1)) ∧
  (∀ (s : State) (a : Word) (e : EngineId), s.outOfReset = true →
      Completes (.eccUncorrectable .sram a e 0) s [.phase, .dev, .eng, .image, .img, .spl, .tim, .meas, .cell,
        .token, .bypass, .arm, .pwm, .glk, .chA, .chB, .snA, .snB, .esA, .esB, .est, .thm, .prt, .dvt, .lsw,
        .lbus, .pwr, .sec, .mnt, .evt, .req, .outbox, .legs, .raised, .log, .switch, .shutdown] (fun t => t =
        watchdogExpiry (logEvent ((s.onEng fun x =>
        { x with eccAddr := a }).onEng fun x =>
          { x with sramUe := true, ueFresh := x.ueFresh.add s.clock (BitVec.ofNat 32 (2 ^ 24)) }) 0x8103
          e.idx.val) e) ∧ Completes (.eccUncorrectable .tcm a e 0) s [.phase, .dev, .eng, .image, .img, .spl,
          .tim, .meas, .cell, .token, .bypass, .arm, .pwm, .glk, .chA, .chB, .snA, .snB, .esA, .esB, .est, .thm,
          .prt, .dvt, .lsw, .lbus, .pwr, .sec, .mnt, .evt, .req, .outbox, .legs, .raised, .log, .switch,
          .shutdown] (fun t => t = watchdogExpiry (logEvent ((s.onEng fun x => { x with eccAddr := a }).onEng
          fun x => { x with tcmUe := true, ueFresh := x.ueFresh.add s.clock (BitVec.ofNat 32 (2 ^ 25)) }) 0x8103
          e.idx.val) e)) ∧
  -- SRAM_SCRUB_STEP
  (∀ (s : State), s.outOfReset = true → Completes (.sramScrubStep .clean) s [.eng] (fun t => t.eng =
      { s.eng with scrubPtr := (s.eng.scrubPtr + 1) % 786432 }) ∧ Completes (.sramScrubStep .single) s [.eng]
      (fun t => t.eng = { s.eng with scrubPtr := (s.eng.scrubPtr + 1) % 786432, sramCe := bump 8 s.eng.sramCe })
      ∧ Completes (.sramScrubStep .double) s [.eng] (fun t => t.eng = { s.eng with
        scrubPtr := (s.eng.scrubPtr + 1) % 786432,
        sramUe := true,
        ueFresh := s.eng.ueFresh.add s.clock (BitVec.ofNat 32 (2 ^ 24)),
        eccAddr := BitVec.ofNat 32 (8 * s.eng.scrubPtr) })) ∧
  -- ECC_UNCORRECTABLE
  (∀ (s : State) (a : Word) (e : EngineId) (n : Nat), s.outOfReset = true → n ≠ 0 → Completes
      (.eccUncorrectable .sram a e n) s [.eng] (fun t => t.eng = { s.eng with sramCe := bump 8 s.eng.sramCe }) ∧
      Completes (.eccUncorrectable .tcm a e n) s [.eng]
      (fun t => t.eng = { s.eng with tcmCe := bump 8 s.eng.tcmCe }) ∧ Completes (.eccUncorrectable .nvm a e n) s
      [.eng] (fun t => t.eng = { s.eng with
        nvmCe := bump 8 s.eng.nvmCe,
        rewriteDue := (if (decide (3 ≤ n) && decide (2 ≤ nvmArea a) && !s.writePermit) = true then a.toNat / 64
          :: s.eng.rewriteDue else s.eng.rewriteDue) })) ∧
  -- PLINTH_FREQ_MEASURE
  (∀ (s : State) (hz : Nat), s.eng.state[6] = .running →
      Completes (.plinthFreqMeasure hz) s [.eng] fun t =>
        t.eng = { s.eng with plinthHz := some hz })

/-- Millisecond counting, anchors, rest anchors, module resets, published limits and balancing. From R214, R217,
R222, R226, R231, R234, R245, R246, R204 of spec/. Model choices and readings: log entries 10, 18, 49. -/
def Obligations.EstimationOfModules : Prop :=
  -- EE_MILLISECOND_COUNT
  (∀ (s : State) (c : ChainId) (x : Snapshot) (r : List Snapshot), s.eeRuns = true → s.declared c = true →
      (s.es c).gapAt = none → (s.es c).cci = x :: r → s.lostMs c x = 0 →
      Completes (.eeMillisecondCount c) s [.glk, .chA, .chB, .esA, .esB, .est, .thm, .lsw, .mnt, .evt] fun t =>
        (t.es c).cci = r ∧
        (t.es c).accSeen = x.acc ∧
        (t.es c).seenAt = x.ts ∧
        (t.es c).sleepMs = (s.drainOf c).2 ∧
        (t.es c).vnrCurrent = some (tdiv ((x.periods.map (·.dQ)).foldl (· + ·) 0) 10) ∧
        ∀ m : Fin 32, m.val < s.nMods → (t.es c).mods[m].q = (s.es c).mods[m].q + if
          (s.es c).mods[m].absentAt.isSome then 0 else s.moduleCharge c x m) ∧
  -- ANCHOR_TIMER_EXPIRY
  (∀ (s : State) (c : ChainId) (m k : Fin 32) (full : Bool) (t0 : Nat), s.eeRuns = true → s.declared c = true →
      m.val < s.nMods → (s.measured c m).contains k = true →
      (if full then (s.es c).mods[m].cells[k].fullSince else (s.es c).mods[m].cells[k].emptySince) = some t0 →
      t0 + secNs * (if full then s.im.tFull else s.im.tEmpty) ≤ s.clock →
      Completes (.anchorTimerExpiry c m k full) s [.glk, .chA, .chB, .esA, .esB, .est, .thm, .lsw, .mnt, .evt]
        fun t =>
        (let x := (t.es c).mods[m].cells[k]; x.content = (if full then x.cap * 1000 else 0 : Nat) ∧ x.unc = some
          (x.uncOf 5) ∧ x.openQ = some x.q ∧ x.openFull = full ∧ x.fullSince = none ∧ x.emptySince = none ∧
          (full = false → x.hold = true)) ∧
        (t.es c).mods[m].lastAnchor = (if full then 1 else 2) ∧
        (full = false → (t.es c).mods[m].emptyHold = true) ∧
        t.est.stateDue = true) ∧
  -- OCV_REST_EXPIRY
  (∀ (s : State) (c : ChainId) (m k : Fin 32) (v q t0 : Nat), s.eeRuns = true → s.declared c = true →
      m.val < s.nMods → (s.es c).mods[m].cells[k].restSince = some t0 →
      t0 + 60 * secNs * s.im.ocvRest ≤ s.clock → s.plateOf c m 7 = 1 → s.ocvTemps c m = true →
      (s.measured c m).contains k = true → (s.sen c).recs[m].cells[k] = some v →
      ocvContent (s.es c).mods[m].cells[k].cap v = some q → (s.es c).mods[m].cells[k].uncertain 5 = true →
      Completes (.ocvRestExpiry c m k) s [.esA, .esB, .evt] fun t =>
        (t.es c).mods[m].cells[k].content = q ∧
        (t.es c).mods[m].cells[k].unc = some ((s.es c).mods[m].cells[k].uncOf 50) ∧
        Logged s t 0x4010 m.val k.val) ∧
  -- EST_CMD_RESET_MODULE
  (∀ (s : State) (p : Requester) (c : ChainId) (m : Fin 32), Granted s p .clear 0x000A0038 →
      s.declared c = true → m.val < s.nMods →
      Completes (.estCmdResetModule p c m) s [.glk, .chA, .chB, .esA, .esB, .est, .thm, .lsw, .sec, .mnt, .evt,
        .outbox] fun t =>
        (t.es c).mods[m].swapped = true ∧
        (t.es c).mods[m].accepted = 0 ∧
        (t.es c).mods[m].lastAnchor = 0 ∧
        (t.es c).mods[m].absentAt = none ∧
        (∀ k : Fin 32, k.val < t.nCells → (t.es c).mods[m].cells[k].cap = t.plateOf c m 0 ∧
          (t.es c).mods[m].cells[k].content = t.plateOf c m 0 * 500 ∧ (t.es c).mods[m].cells[k].openQ = none ∧
          (t.es c).mods[m].cells[k].unc = some (t.plateOf c m 0 * 100000)) ∧
        t.est.stateDue = true ∧
        t.outbox.head? = some (.status p 0)) ∧
  (∀ (s : State) (p : Requester) (c : ChainId) (m : Fin 32), Granted s p .clear 0x000A0038 →
      s.declared c = true → s.nMods ≤ m.val →
      Completes (.estCmdResetModule p c m) s [.outbox] fun t =>
        Answered s t p 7) ∧
  -- LIMITS_PUBLISH
  (∀ (s : State), s.eeRuns = true →
      Completes .limitsPublish s [.chA, .chB, .esA, .esB, .est, .evt, .free] fun t =>
        t.est = { s.est with stale := false } ∧
        ∀ c ∈ s.chains, (t.chain c).limAt = some s.clock) ∧
  -- LIMITS_STALE
  (∀ (s : State) (c : ChainId) (t0 : Nat), (s.chain c).limAt = some t0 → t0 + 15 * msNs < s.clock →
      Completes (.limitsStale c) s [.chA, .chB, .est, .evt] fun t =>
        t.chain c = { s.chain c with limAt := none, limDis := 0, limChg := 0 } ∧
        t.est = { s.est with stale := true } ∧
        Logged s t 0x4012 c.num) ∧
  -- BALANCE_TICK
  (∀ (s : State) (c : ChainId), s.eeRuns = true → s.declared c = true → (s.sen c).stage = .enumerated →
      Completes (.balanceTick c) s [.snA, .snB, .esA, .esB, .outbox] fun t =>
        ∀ m : Fin 32, m.val < s.nMods → (t.sen c).recs[m].bleedAt = s.clock ∧
        ∀ k : Fin 32, (t.sen c).recs[m].bleed.getLsbD k.val = s.wantsBleed c m k ∧
        (t.es c).mods[m].cells[k].bleedReq = s.wantsBleed c m k)

/-- When STATE and COUNT records become due, what a write takes, and the veneer preset. From R223, R238, R239 of
spec/. Model choices and readings: log entries 10, 22. -/
def Obligations.RecordsAndVeneer : Prop :=
  -- CHECKPOINT_TIMER
  (∀ (s : State), s.eeRuns = true → s.est.checkAt + 60 * secNs * s.im.checkpoint ≤ s.clock →
      Completes .checkpointTimer s [.est] fun t =>
        t.est = { s.est with checkAt := s.clock, stateDue := true }) ∧
  -- COUNT_PERIOD_TIMER
  (∀ (s : State), s.eeRuns = true → s.est.countAt + secNs * s.im.countPeriod ≤ s.clock →
      Completes .countPeriodTimer s [.est] fun t =>
        t.est = { s.est with countDue := true, countAt := s.clock }) ∧
  -- RECORD_WRITE_START
  (∀ (s : State), s.eeRuns = true → s.nvmFree = true → s.est.erased = true → s.est.stateDue = true →
      s.stateSpaced = true →
      Completes (.recordWriteStart .state) s [.est] fun t =>
        t.est.stateDue = false ∧
        t.est.stateUrgent = false ∧
        t.est.lastStateAt = some s.clock ∧
        t.est.erased = false ∧
        t.est.writing = some { kind := .state, began := s.clock } ∧
        ∃ r, t.est.recState.head? = some r ∧
        r.valid = false ∧
        r.modsA = s.esA.mods.map EstMod.payload ∧
        r.modsB = s.esB.mods.map EstMod.payload ∧
        r.time = s.tim.time ∧
        (∀ n, s.est.newState = some n → r.seq = n.seq + 1)) ∧
  (∀ (s : State), s.eeRuns = true → s.nvmFree = true → s.est.erased = true → s.est.countDue = true →
      (s.est.stateDue && s.stateSpaced) = false →
      Completes (.recordWriteStart .count) s [.est] fun t =>
        t.est.countDue = false ∧
        t.est.erased = false ∧
        t.est.writing = some { kind := .count, began := s.clock } ∧
        ∃ r, t.est.recCount.head? = some r ∧
        r.valid = false ∧
        r.time = s.tim.time ∧
        (∀ m : Fin 32, r.qA[m] = s.esA.mods[m].q ∧ r.qB[m] = s.esB.mods[m].q) ∧
        (∀ n, s.est.newCount = some n → r.seq = n.seq + 1)) ∧
  -- EST_CMD_CHECKPOINT
  (∀ (s : State) (p : Requester), Granted s p .operate 0x000A0038 →
      Completes (.estCmdCheckpoint p) s [.est, .outbox] fun t =>
        t.est = { s.est with stateDue := true } ∧
        Answered s t p 0) ∧
  -- VNR_CTRL_PRESET
  (∀ (s : State) (p : Requester) (c : ChainId),
      Granted s p .configure (BitVec.ofNat 32 (0xAC008 + 0x100 * c.num)) → (c == .b && s.noB) = false →
      Completes (.vnrCtrlPreset p c) s [.esA, .esB, .evt, .outbox] fun t =>
        t.es c = { s.es c with
            vnrLoaded := (s.es c).vnrPreset,
            vnrCount := (s.es c).vnrPreset,
            vnrA := (s.es c).accLive,
            vnrGap := false,
            vnrAt := s.clock } ∧
        Logged s t 0x4013 c.num ∧
        Answered s t p 0)

/-- Staging: erase, chunks byte for byte, and the end of a transfer. From R48, R49, R89, R34, R330 of spec/. Model
choices and readings: log entries 31, 44. -/
def Obligations.ImageStaging : Prop :=
  -- IMG_CMD_STAGE_BEGIN
  (∀ (s : State) (p : Requester) (len : Nat), Granted s p .configure 0x00010004 → s.img.locked = false →
      Completes (.imgCmdStageBegin p len) s [.slots, .img, .evt, .outbox] fun t =>
        t.img.staging = .erasing ∧
        t.img.stagePort = some p ∧
        t.img.stageLen = len ∧
        t.img.stageCount = 0 ∧
        t.img.dfCode = 0 ∧
        t.img.staged = none ∧
        t.img.tagStaged = 0 ∧
        t.img.stagedVersion = 0 ∧
        t.img.waiting = [] ∧
        (∀ a, t.slotBytes s.stagingSlot a = 0xFF#8) ∧
        t.slotCells (!s.stagingSlot) = s.slotCells (!s.stagingSlot) ∧
        Logged s t 0xB001 p.num ∧
        Answered s t p 0) ∧
  (∀ (s : State) (p : Requester) (len : Nat), Granted s p .configure 0x00010004 → s.img.locked = true →
      Completes (.imgCmdStageBegin p len) s [.outbox] fun t =>
        Answered s t p 5) ∧
  -- STAGE_ERASE_COMPLETE
  (∀ (s : State), s.img.staging = .erasing → s.writePermit = true →
      Completes .stageEraseComplete s [.img] fun t =>
        t.img = { s.img with staging := .receiving }) ∧
  -- STAGING_CHUNK
  (∀ (s : State) (port : RPort) (b : List Byte) (x : BulkFrame), s.memOk → bulkOf b = some x →
      s.delivers port b = true → s.seenCopy (copyKey x.head) = false → x.stream = 1 →
      s.addressed x.dest = true → s.img.staging = .receiving → s.img.stagePort = some .spline →
      s.right .spline .configure 0xFFFFFFFF = true → s.writePermit = true → x.off = s.img.stageCount →
      x.off + (s.chunkData x).length ≤ 64 * s.img.stageLen → x.off + (s.chunkData x).length ≤ 0x600000 →
      (s.est.writing = none → s.img.waiting = []) →
      Completes (.stagingChunk port b) s [.slots, .img, .spl] fun t =>
        t.spl = (noteCopy s (copyKey x.head)).spl ∧
        t.img.stageCount = x.off + (s.chunkData x).length ∧
        t.img.staging = .receiving ∧
        t.slotCells (!s.stagingSlot) = s.slotCells (!s.stagingSlot) ∧
        ∀ a, t.slotBytes s.stagingSlot a = if h : x.off ≤ a ∧
        a < x.off + (s.chunkData x).length then (s.chunkData x)[a - x.off]'(by omega) else s.slotBytes
          s.stagingSlot a) ∧
  -- SVC_BULK
  (∀ (s : State) (seq off : Nat) (data : List Byte), s.memOk → s.portOpen .service = true →
      (s.sec.svcAns = none ∨ s.sec.svcSeq ≠ some (seq, 3#8 :: natBytes 1 1 ++ natBytes 4 off ++ data)) →
      s.img.staging = .receiving → s.img.stagePort = some .service →
      s.right .service .configure 0xFFFFFFFF = true → s.writePermit = true → off = s.img.stageCount →
      off + data.length ≤ 64 * s.img.stageLen → off + data.length ≤ 0x600000 →
      (s.est.writing = none → s.img.waiting = []) →
      Completes (.svcBulk seq 1 off data) s [.slots, .img, .sec, .outbox] fun t =>
        t.outbox = .service (.ack 0 (BitVec.ofNat 32 (off + data.length))) :: s.outbox ∧
        t.sec = { s.sec with
            svcSeq := some (seq, 3#8 :: natBytes 1 1 ++ natBytes 4 off ++ data),
            svcAns := some (.ack 0 (BitVec.ofNat 32 (off + data.length))) } ∧
        t.img.stageCount = off + data.length ∧
        t.img.staging = .receiving ∧
        t.slotCells (!s.stagingSlot) = s.slotCells (!s.stagingSlot) ∧
        ∀ a, t.slotBytes s.stagingSlot a = if h : off ≤ a ∧
        a < off + data.length then data[a - off]'(by omega) else s.slotBytes s.stagingSlot a) ∧
  -- STAGING_CHUNK
  (∀ (s : State) (port : RPort) (b : List Byte) (x : BulkFrame), bulkOf b = some x → s.delivers port b = true →
      s.seenCopy (copyKey x.head) = false → x.stream = 1 → s.addressed x.dest = true →
      s.img.staging = .receiving → s.img.stagePort = some .spline →
      s.right .spline .configure 0xFFFFFFFF = true → s.writePermit = true → x.off ≠ s.img.stageCount →
      Completes (.stagingChunk port b) s [.spl] fun t =>
        t.spl = { (noteCopy s (copyKey x.head)).spl with
            ansBulk := some
              { tag := 0xFFFF#16, status := 7#8, addr := BitVec.ofNat 32 s.img.stageCount, data := 0 } }) ∧
  (∀ (s : State) (port : RPort) (b : List Byte) (x : BulkFrame), bulkOf b = some x →
      s.seenCopy (copyKey x.head) = true →
      Completes (.stagingChunk port b) s [] fun t =>
        t = s) ∧
  -- IMG_CMD_STAGE_END
  (∀ (s : State) (p : Requester), Granted s p .configure 0x00010004 → s.img.staging = .receiving →
      64 * s.img.stageLen < s.img.stageCount + 64 → s.img.stageCount ≤ 64 * s.img.stageLen →
      Completes (.imgCmdStageEnd p) s [.img, .evt, .outbox] fun t =>
        t.img = { s.img with
            staging := .complete,
            tagStaged := (imageOf (s.slotBytes s.stagingSlot)).tag,
            stagedVersion := (imageOf (s.slotBytes s.stagingSlot)).version } ∧
        Answered s t p 0) ∧
  (∀ (s : State) (p : Requester), Granted s p .configure 0x00010004 →
      (s.img.staging ≠ .receiving ∨ s.img.stageCount + 64 ≤ 64 * s.img.stageLen) →
      Completes (.imgCmdStageEnd p) s [.outbox] fun t =>
        Answered s t p 4)

/-- Dry-fit verdicts, the cancelled glue-up, the parameter-only and the structural switch. From R47, R50, R51, R52,
R55, R56 of spec/. Model choices and readings: log entries 23, 31, 43. -/
def Obligations.DryFitAndGlueUp : Prop :=
  -- IMG_CMD_DRYFIT
  (∀ (s : State) (p : Requester), Granted s p .configure 0x00010004 → s.img.locked = false →
      s.img.staging = .complete →
      Completes (.imgCmdDryfit p) s [.img, .outbox] fun t =>
        t.img.staging = .dryfit ∧
        t.img.staged = some (imageOf (s.slotBytes s.stagingSlot)) ∧
        t.img.dfCode = 0 ∧
        t.img.winCycles = 0 ∧
        t.img.winAgree = 0 ∧
        t.img.dfAt = s.clock ∧
        Answered s t p 0) ∧
  (∀ (s : State) (p : Requester), Granted s p .configure 0x00010004 → s.img.locked = false →
      s.img.staging ≠ .complete →
      Completes (.imgCmdDryfit p) s [.outbox] fun t =>
        Answered s t p 4) ∧
  -- DRYFIT_COMPLETE
  (∀ (s : State) (im a : Image), s.img.staging = .dryfit → s.img.staged = some im → s.img.active = some a →
      s.windowOver = true →
      Completes .dryfitComplete s [.img, .spl, .evt] fun t =>
        t.img.staging = .complete ∧
        (∀ v, localChecks s = some v ∨ (localChecks s = none ∧ ringCheck s im = some v) → t.img.staged = none ∧
          t.img.dfCode = BitVec.ofNat 8 v.code ∧ t.img.dfSection = BitVec.ofNat 8 v.sec ∧ t.img.dfRecord =
          BitVec.ofNat 12 v.record ∧ Logged s t 0xB004 v.code (v.sec % 256)) ∧
        (localChecks s = none → ringCheck s im = none → t.img.staged = some im ∧ t.img.dfCode = 1 ∧
          t.img.structural = (im.structDigest != a.structDigest || im.schedDigest != a.schedDigest || im.expert
          != a.expert) ∧ t.spl.stagedBound = im.inlay.cycle + 14 ∧ Logged s t 0xB003 (im.tag.toNat % 65536))) ∧
  (∀ (s : State) (im : Image) (v : Verdict), s.img.staging = .dryfit → s.img.staged = some im →
      localChecks s = some v →
      Completes .dryfitComplete s [.img, .evt] fun t =>
        t.img.staging = .complete ∧
        t.img.staged = none ∧
        t.img.dfCode = BitVec.ofNat 8 v.code) ∧
  -- IMG_CMD_ABORT
  (∀ (s : State) (p : Requester), Granted s p .commit 0x00010004 →
      (s.img.glue = .announced ∨ s.img.glue = .ready) →
      Completes (.imgCmdAbort p) s [.img, .evt, .outbox] fun t =>
        t.img = { s.img with glue := .idle, locked := false, glueBlock := 0 } ∧
        Logged s t 0xB009 2 ∧
        Answered s t p 0) ∧
  (∀ (s : State) (p : Requester), Granted s p .commit 0x00010004 → s.img.glue ≠ .announced →
      s.img.glue ≠ .ready → (s.img.locked = false ∨ s.img.glue = .confirmed ∨ s.img.glue = .restarting) →
      Completes (.imgCmdAbort p) s [.outbox] fun t =>
        Answered s t p 0) ∧
  (∀ (s : State) (p : Requester), Granted s p .commit 0x00010004 → (s.img.glue = .idle ∨ s.img.glue = .silent) →
      s.img.locked = true →
      Completes (.imgCmdAbort p) s [.img, .evt, .outbox] fun t =>
        t.img = { s.img with locked := false, glueBlock := 0 } ∧
        Logged s t 0xB009 2 ∧
        Answered s t p 0) ∧
  -- GLUE_UP_SWITCH
  (∀ (s : State) (im : Image), s.feRuns = true → s.img.glue = .confirmed → s.img.glueTime ≤ s.tim.time →
      s.img.staged = some im → s.stagedSlotErr = false → s.img.structural = false →
      Completes .glueUpSwitch s [.slots, .image, .img, .spl, .arm, .prt, .lbus, .sec, .evt] fun t =>
        t.lbus = (if busTiming im != busTiming s.im && s.rxTail.isSome then
          { s.lbus with st := .integrating, lastRx := s.rxTail } else s.lbus) ∧
        t.img.active = some im ∧
        t.img.activeSlot = (!s.runSlot) ∧
        t.img.glue = .idle ∧
        t.img.staging = .empty ∧
        t.img.floor = max s.img.floor im.secVersion ∧
        t.img.locked = false ∧
        (∀ b, t.slotHeld b = s.slotCells b) ∧
        t.prt = { s.prt with oldTable := some (s.img.glueTime, s.im.reactions) } ∧
        t.spl.oldInlay = some (s.img.glueTime, s.im.inlay) ∧
        t.sec = { s.sec with cntGlue := (s.sec.cntGlue + 1) % 2 ^ 32, cntDue := true } ∧
        Logged s t 0xB007) ∧
  (∀ (s : State) (im : Image), s.feRuns = true → s.img.glue = .confirmed → s.img.glueTime ≤ s.tim.time →
      s.img.staged = some im → s.stagedSlotErr = false → s.img.structural = true →
      Completes .glueUpSwitch s [.phase, .dev, .eng, .slots, .image, .img, .spl, .cell, .token, .bypass, .arm,
        .glk, .chA, .chB, .thm, .prt, .lsw, .lbus, .sec, .mnt, .evt, .legs] fun t =>
        t.img.active = some im ∧
        t.img.glue = .restarting ∧
        t.dev.phase = .glueRestart ∧
        t.arm.cell = s.arm.cell ∧
        t.arm.changes = s.arm.changes ∧
        t.arm.owner = s.arm.owner ∧
        t.img.restartAt = s.clock ∧
        ∀ i : Fin 8, t.eng.state[i] = .off) ∧
  -- GLUE_RESTART_COMPLETE
  (∀ (s : State), s.dev.phase = .glueRestart →
      Completes .glueRestartComplete s [.phase, .dev, .eng, .img, .glk, .lsw, .evt] fun t =>
        t.dev.phase = (if s.spl.ringReady then .ready else .starting) ∧
        t.img = { s.img with glue := .idle, locked := false } ∧
        (∀ i : Fin 8, t.eng.state[i] = if s.im.str.engineMask.getLsbD i.val && (i.val != 2 || s.declared .b)
          then (if s.eng.seLs && i == EngineId.se.idx then .halted else .running) else .off) ∧
        t.lsw.clamp = false ∧
        ∀ n : Fin 12, t.lsw.ch[n].clamp = false)

/-- Load-channel commands, clears, the sense select, and the on-state and off-state diagnostics. From R290, R291,
R294, R297, R300, R301 of spec/. Model choices and readings: log entry 20. -/
def Obligations.ChannelCommandsAndDiagnostics : Prop :=
  -- LSW_CMD
  (∀ (s : State) (p : Requester) (ch action cls : Nat) (n : Fin 12),
      Granted s p .operate 0x000D0008 (s.namesLamp ch) → s.namedCh ch = some (n, cls) →
      (cls = 1 ∨ cls = 3) = False → cls ≠ 0 → action < 2 → s.eng.state[EngineId.he.idx] ≠ .restarting →
      Completes (.lswCmd p ch action) s [.lsw, .outbox] fun t =>
        t.lsw.ch[n].want = (action == 1) ∧
        (action = 0 → t.lsw.ch[n].attempts = 0 ∧ t.lsw.ch[n].pause = 10 ∧ t.lsw.ch[n].pauseDue = none) ∧
        ((t.chState n = false → t.lsw.ch[n].isOn = false) ∧ (t.chState n = true → t.pwr.vauxLow = false →
          t.lsw.ch[n].diag ≠ 2 → t.lsw.ch[n].isOn = true)) ∧
        (∀ k : Fin 12, k ≠ n → t.lsw.ch[k] = s.lsw.ch[k]) ∧
        Answered s t p 0) ∧
  (∀ (s : State) (p : Requester) (ch action cls : Nat) (n : Fin 12),
      Granted s p .operate 0x000D0008 (s.namesLamp ch) → s.namedCh ch = some (n, cls) →
      (cls = 1 ∨ cls = 3) = False → cls ≠ 0 → action < 2 → s.eng.state[EngineId.he.idx] = .restarting →
      Completes (.lswCmd p ch action) s [.lsw, .outbox] fun t =>
        t.lsw.ch[n] = { s.lsw.ch[n] with wantDue := some (action == 1) } ∧
        (∀ k : Fin 12, k ≠ n → t.lsw.ch[k] = s.lsw.ch[k]) ∧
        Answered s t p 0) ∧
  (∀ (s : State) (p : Requester) (ch action cls : Nat) (n : Fin 12),
      Granted s p .operate 0x000D0008 (s.namesLamp ch) → s.namedCh ch = some (n, cls) → (cls = 1 ∨ cls = 3) →
      Completes (.lswCmd p ch action) s [.evt, .outbox] fun t =>
        Logged s t 0x600B ch 1 ∧
        Answered s t p 1) ∧
  (∀ (s : State) (p : Requester) (ch action : Nat) (n : Fin 12),
      Granted s p .operate 0x000D0008 (s.namesLamp ch) → s.namedCh ch = some (n, 0) →
      Completes (.lswCmd p ch action) s [.evt, .outbox] fun t =>
        Logged s t 0x600B ch 7 ∧
        Answered s t p 7) ∧
  (∀ (s : State) (p : Requester) (ch action : Nat), Granted s p .operate 0x000D0008 (s.namesLamp ch) →
      s.namedCh ch = none →
      Completes (.lswCmd p ch action) s [.outbox] fun t =>
        Answered s t p 7) ∧
  -- LSW_CLEAR
  (∀ (s : State) (p : Requester) (mask : BitVec 12), Granted s p .clear 0x000D000C →
      Completes (.lswClear p mask) s [.lsw, .evt, .outbox] fun t =>
        Answered s t p 0 ∧
        Logged s t 0x6003 mask.toNat ∧
        ∀ n : Fin 12, (mask.getLsbD n.val = false ∨ s.lsw.ch[n].latched = false → t.lsw.ch[n] = s.lsw.ch[n]) ∧
        (mask.getLsbD n.val = true → t.lsw.ch[n].latched = false ∧ (s.lsw.ch[n].latched = true →
          t.lsw.ch[n].attempts = 0 ∧ t.lsw.ch[n].pause = 10 ∧ t.lsw.ch[n].pauseDue = none))) ∧
  -- LSW_SENSE_SELECT
  (∀ (s : State) (p : Requester) (code : BitVec 4), Granted s p .configure 0x000D0010 →
      Completes (.lswSenseSelect p code) s [.lsw, .outbox] fun t =>
        Answered s t p 0 ∧
        t.lsw = if s.dev.senseSrcPin then s.lsw else { s.lsw with sel := code.toNat, pins := code.toNat }) ∧
  -- SENSE_SEL_PIN_CHANGE
  (∀ (s : State) (code : BitVec 4), s.dev.senseSrcPin = true →
      Completes (.senseSelPinChange code) s [.lsw] fun t =>
        t.lsw = { s.lsw with pins := code.toNat }) ∧
  -- ECON_PULL_END
  (∀ (s : State) (n : Fin 12) (t0 : Nat), s.lsw.ch[n].isOn = true → s.lsw.ch[n].econDue = some t0 →
      t0 ≤ s.clock →
      Completes (.econPullEnd n) s [.lsw] fun t =>
        t.lsw.ch[n] = { s.lsw.ch[n] with econ := true, econDue := none, lowSince := none } ∧
        (∀ k : Fin 12, k ≠ n → t.lsw.ch[k] = s.lsw.ch[k])) ∧
  -- OPEN_LOAD_ON_DETECT
  (∀ (s : State) (n : Fin 12) (t0 : Nat), s.lsw.ch[n].isOn = true → s.lsw.ch[n].econ = false →
      s.lsw.ch[n].lowSince = some t0 → t0 + 100 * msNs ≤ s.clock → s.lsw.ch[n].diag ≠ 3 →
      Completes (.openLoadOnDetect n) s [.lsw, .evt] fun t =>
        t.lsw.ch[n] = { s.lsw.ch[n] with diag := 3 } ∧
        (∀ k : Fin 12, k ≠ n → t.lsw.ch[k] = s.lsw.ch[k]) ∧
        Logged s t 0x6006 (n.val + 1)) ∧
  -- OFF_STATE_LOAD_TEST
  (∀ (s : State) (n : Fin 12) (vout v : Nat), s.pwr.vaux = some v → s.offTestable n = true →
      Completes (.offStateLoadTest n vout) s [.lsw, .evt] fun t =>
        t.lsw.ch[n].diag = (if v - 1000 ≤ vout then 2 else if 4000 < vout then 1 else 0) ∧
        ((t.chState n = false → t.lsw.ch[n].isOn = false) ∧ (t.chState n = true → t.pwr.vauxLow = false →
          t.lsw.ch[n].diag ≠ 2 → t.lsw.ch[n].isOn = true)) ∧
        (∀ k : Fin 12, k ≠ n → t.lsw.ch[k] = s.lsw.ch[k]) ∧
        (4000 < vout → vout < v - 1000 → Logged s t 0x6004 (n.val + 1)) ∧
        (v - 1000 ≤ vout → Logged s t 0x6005 (n.val + 1)))

/-- Current limit, overtemperature, retries, latches and the retry reset of a load channel. From R292, R293, R294 of
spec/. -/
def Obligations.ChannelLimitsAndRetries : Prop :=
  -- CURRENT_LIMIT_REACHED
  (∀ (s : State) (n : Fin 12) (i : Int), s.lsw.ch[n].isOn = true → s.lsw.ch[n].limiting = false →
      (s.chLimit n : Int) ≤ 10 * i →
      Completes (.currentLimitReached n i) s [.lsw] fun t =>
        t.lsw.ch[n] = { s.lsw.ch[n] with limiting := true, limAt := s.clock } ∧
        (∀ k : Fin 12, k ≠ n → t.lsw.ch[k] = s.lsw.ch[k])) ∧
  -- LIMIT_TIME_EXPIRY
  (∀ (s : State) (n : Fin 12), s.lsw.ch[n].isOn = true → s.lsw.ch[n].limiting = true →
      s.lsw.ch[n].inrushDue = none → s.lsw.ch[n].limAt + usNs * s.im.limitTime ≤ s.clock →
      s.im.lswRetryN n.val ≤ s.lsw.ch[n].attempts + 1 → s.lswClass n ≠ 1 →
      Completes (.limitTimeExpiry n) s [.lsw, .evt] fun t =>
        t.lsw.ch[n].isOn = false ∧
        t.lsw.cntFailed = bump 8 s.lsw.cntFailed ∧
        t.lsw.ch[n].latched = true ∧
        t.lsw.ch[n].attempts = min (s.lsw.ch[n].attempts + 1) 15 ∧
        t.lsw.ch[n].pauseDue = none ∧
        t.lsw.cntLatches = bump 8 s.lsw.cntLatches ∧
        (∀ k : Fin 12, k ≠ n → t.lsw.ch[k] = s.lsw.ch[k])) ∧
  -- JUNCTION_OVERTEMP
  (∀ (s : State) (n : Fin 12) (tj : Int), s.lsw.ch[n].isOn = true → 1750 ≤ tj →
      s.im.lswRetryN n.val ≤ s.lsw.ch[n].attempts + 1 → s.lswClass n ≠ 1 →
      Completes (.junctionOvertemp n tj) s [.lsw, .evt] fun t =>
        t.lsw.ch[n].isOn = false ∧
        t.lsw.cntFailed = bump 8 s.lsw.cntFailed ∧
        t.lsw.ch[n].latched = true ∧
        t.lsw.ch[n].attempts = min (s.lsw.ch[n].attempts + 1) 15 ∧
        t.lsw.ch[n].pauseDue = none ∧
        t.lsw.cntLatches = bump 8 s.lsw.cntLatches ∧
        (∀ k : Fin 12, k ≠ n → t.lsw.ch[k] = s.lsw.ch[k])) ∧
  -- LIMIT_TIME_EXPIRY
  (∀ (s : State) (n : Fin 12), s.lsw.ch[n].isOn = true → s.lsw.ch[n].limiting = true →
      s.lsw.ch[n].inrushDue = none → s.lsw.ch[n].limAt + usNs * s.im.limitTime ≤ s.clock →
      s.lsw.ch[n].attempts + 1 < s.im.lswRetryN n.val →
      Completes (.limitTimeExpiry n) s [.lsw, .evt] fun t =>
        t.lsw.ch[n].isOn = false ∧
        t.lsw.cntFailed = bump 8 s.lsw.cntFailed ∧
        t.lsw.ch[n].latched = s.lsw.ch[n].latched ∧
        t.lsw.ch[n].attempts = s.lsw.ch[n].attempts + 1 ∧
        t.lsw.ch[n].pauseDue = some (s.clock + msNs * s.lsw.ch[n].pause) ∧
        t.lsw.ch[n].pause = min 1280 (2 * s.lsw.ch[n].pause) ∧
        (∀ k : Fin 12, k ≠ n → t.lsw.ch[k] = s.lsw.ch[k])) ∧
  -- JUNCTION_OVERTEMP
  (∀ (s : State) (n : Fin 12) (tj : Int), s.lsw.ch[n].isOn = true → 1750 ≤ tj →
      s.lsw.ch[n].attempts + 1 < s.im.lswRetryN n.val →
      Completes (.junctionOvertemp n tj) s [.lsw, .evt] fun t =>
        t.lsw.ch[n].isOn = false ∧
        t.lsw.cntFailed = bump 8 s.lsw.cntFailed ∧
        t.lsw.ch[n].latched = s.lsw.ch[n].latched ∧
        t.lsw.ch[n].attempts = s.lsw.ch[n].attempts + 1 ∧
        t.lsw.ch[n].pauseDue = some (s.clock + msNs * s.lsw.ch[n].pause) ∧
        t.lsw.ch[n].pause = min 1280 (2 * s.lsw.ch[n].pause) ∧
        (∀ k : Fin 12, k ≠ n → t.lsw.ch[k] = s.lsw.ch[k])) ∧
  -- INRUSH_WINDOW_END
  (∀ (s : State) (n : Fin 12) (t0 : Nat), s.lsw.ch[n].inrushDue = some t0 → t0 ≤ s.clock →
      Completes (.inrushWindowEnd n) s [.lsw] fun t =>
        t.lsw.ch[n] = { s.lsw.ch[n] with
            inrushDue := none,
            limAt := if s.lsw.ch[n].limiting then s.clock else s.lsw.ch[n].limAt } ∧
        (∀ k : Fin 12, k ≠ n → t.lsw.ch[k] = s.lsw.ch[k])) ∧
  -- RETRY_PAUSE_END
  (∀ (s : State) (n : Fin 12) (t0 : Nat), s.lsw.ch[n].pauseDue = some t0 → t0 ≤ s.clock →
      Completes (.retryPauseEnd n) s [.lsw] fun t =>
        t.lsw.ch[n].pauseDue = none ∧
        t.lsw.ch[n].attempts = s.lsw.ch[n].attempts ∧
        ((t.chState n = false → t.lsw.ch[n].isOn = false) ∧ (t.chState n = true → t.pwr.vauxLow = false →
          t.lsw.ch[n].diag ≠ 2 → t.lsw.ch[n].isOn = true)) ∧
        (∀ k : Fin 12, k ≠ n → t.lsw.ch[k] = s.lsw.ch[k])) ∧
  -- RETRY_COUNT_RESET
  (∀ (s : State) (n : Fin 12), s.lsw.ch[n].isOn = true → s.lsw.ch[n].onSince + 2560 * msNs ≤ s.clock →
      Completes (.retryCountReset n) s [.lsw] fun t =>
        t.lsw.ch[n] = { s.lsw.ch[n] with attempts := 0, pause := 10 } ∧
        (∀ k : Fin 12, k ≠ n → t.lsw.ch[k] = s.lsw.ch[k]))

/-- Cluster samples, the shedding of a channel, the delayed coil shed and the staggered restore. From R295, R296 of
spec/. Model choices and readings: log entry 5. -/
def Obligations.ClusterTemperature : Prop :=
  -- CLUSTER_SENSOR_SAMPLE
  (∀ (s : State) (cl : Fin 3) (temp : Int) (tjs is : List Int), temp < (s.im.clusterShed : Int) →
      s.lsw.clusters[cl].shedding = false → s.lsw.clusters[cl].shedList = [] →
      Completes (.clusterSensorSample cl temp tjs is) s [.thm, .lsw, .free] fun t =>
        t.thm = { s.thm with cluster := s.thm.cluster.set cl (some temp) } ∧
        t.lsw.clusters[cl] = { s.lsw.clusters[cl] with
            i := some ((clusterChs cl).foldl (fun (a : Int) n => a + is.getD (n.val % 4) 0) 0),
            shedding := false } ∧
        (∀ n : Fin 12, clusterOf n = cl → t.lsw.ch[n].tj = some (tjs.getD (n.val % 4) 0) ∧ t.lsw.ch[n].i = some
          (is.getD (n.val % 4) 0) ∧ t.lsw.ch[n].isOn = s.lsw.ch[n].isOn) ∧
        t.free = s.free + 1) ∧
  (∀ (s : State) (cl : Fin 3) (temp : Int) (tjs is : List Int) (n : Fin 12), (s.im.clusterShed : Int) ≤ temp →
      clusterOf n = cl → s.lswClass n ≠ 1 →
      (∀ k : Fin 12, clusterOf k = cl → (s.lsw.ch[k].isOn = true ↔ k = n)) →
      Completes (.clusterSensorSample cl temp tjs is) s [.thm, .lsw, .evt, .free] fun t =>
        t.lsw.ch[n].isOn = false ∧
        t.lsw.ch[n].thermalOff = true ∧
        t.lsw.clusters[cl].shedding = true ∧
        t.lsw.clusters[cl].shedList = n :: s.lsw.clusters[cl].shedList ∧
        t.lsw.clusters[cl].last = n.val + 1 ∧
        t.lsw.clusters[cl].lastShedAt = s.clock ∧
        t.lsw.cntSheds = bump 8 s.lsw.cntSheds ∧
        Logged s t 0x6007 (cl.val + 1) (n.val + 1)) ∧
  -- COIL_SHED_DELAY_EXPIRY
  (∀ (s : State) (n : Fin 12) (t0 : Nat), s.lsw.ch[n].coilDue = some t0 → t0 ≤ s.clock →
      s.lsw.ch[n].isOn = true →
      Completes (.coilShedDelayExpiry n) s [.glk, .chA, .chB, .snA, .snB, .thm, .lsw, .mnt, .evt] fun t =>
        ∃ x : State, t = requestOpen x (s.lswChain n) ∧
        x.lsw.ch[n].isOn = false ∧
        x.lsw.ch[n].thermalOff = true ∧
        x.lsw.ch[n].coilDue = none ∧
        x.lsw.clusters[clusterOf n] = { s.lsw.clusters[clusterOf n] with
            shedList := n :: s.lsw.clusters[clusterOf n].shedList,
            last := n.val + 1,
            lastShedAt := s.clock,
            restoring := false,
            nextDue := none } ∧
        x.lsw.cntSheds = bump 8 s.lsw.cntSheds ∧
        Logged s x 0x6007 ((clusterOf n).val + 1) (n.val + 1) ∧
        (∀ k : Fin 12, k ≠ n → x.lsw.ch[k] = s.lsw.ch[k]) ∧
        x.chA = s.chA ∧
        x.chB = s.chB) ∧
  -- CLUSTER_RESTORE_STAGGER
  (∀ (s : State) (cl : Fin 3) (n : Fin 12) (t0 : Nat), s.lsw.clusters[cl].restoring = true →
      s.lsw.clusters[cl].nextDue = some t0 → t0 ≤ s.clock → clusterOf n = cl →
      s.lsw.clusters[cl].shedList = [n] →
      Completes (.clusterRestoreStagger cl) s [.lsw, .evt] fun t =>
        t.lsw.ch[n].thermalOff = false ∧
        ((t.chState n = false → t.lsw.ch[n].isOn = false) ∧ (t.chState n = true → t.pwr.vauxLow = false →
          t.lsw.ch[n].diag ≠ 2 → t.lsw.ch[n].isOn = true)) ∧
        (∀ k : Fin 12, k ≠ n → t.lsw.ch[k] = s.lsw.ch[k]) ∧
        t.lsw.clusters[cl] = { s.lsw.clusters[cl] with shedList := [], restoring := false, nextDue := none } ∧
        Logged s t 0x6008 (cl.val + 1) (n.val + 1))

/-- Each maintenance activity starts in a free slot with its lock, and does its first action. From R355, R356, R359,
R357 of spec/. Model choices and readings: log entries 18, 19, 20, 25. -/
def Obligations.ActivitiesStart : Prop :=
  -- MNT_START_GATE_TEST
  (∀ (s : State) (p : Requester) (c : ChainId) (m : Fin 32) (i : Fin 4), Granted s p .test mntStartAddr →
      s.holder (ActCode.res .gateTest c) (s.actMask p .gateTest) = none → s.freeSlot = some i →
      s.arm.owner = true → s.gateTestMay = true →
      Completes (.mntStartGateTest p c m) s [.img, .sec, .mnt, .evt, .outbox] fun t =>
        t.mnt.acts[i] = some {
            code := .gateTest,
            port := p,
            chain := c,
            mod := m,
            res := ActCode.res .gateTest c,
            startedAt := s.clock,
            timeout := some (s.clock + secNs * s.im.actTimeout),
            mask := s.actMask p .gateTest,
            answered := 0,
            value := s.mnt.argValue[p.idx] } ∧
        (∀ j, j ≠ i → t.mnt.acts[j] = s.mnt.acts[j]) ∧
        t.outbox.head? = some (.status p 0)) ∧
  -- MNT_START_JIG
  (∀ (s : State) (p : Requester) (c : ChainId) (m : Fin 32) (i : Fin 4), Granted s p .test mntStartAddr →
      s.holder (ActCode.res .jig c) (s.actMask p .jig) = none → s.freeSlot = some i → s.arm.owner = true →
      s.arm.mode = .block → s.spl.urgLatch = .none →
      Completes (.mntStartJig p c m) s [.img, .sec, .mnt, .evt, .outbox] fun t =>
        t.mnt.acts[i] = some {
            code := .jig,
            port := p,
            chain := c,
            mod := m,
            res := ActCode.res .jig c,
            startedAt := s.clock,
            timeout := some (s.clock + secNs * s.im.actTimeout),
            mask := s.actMask p .jig,
            answered := 0,
            value := s.mnt.argValue[p.idx] } ∧
        (∀ j, j ≠ i → t.mnt.acts[j] = s.mnt.acts[j]) ∧
        t.outbox.head? = some (.status p 0)) ∧
  -- MNT_START_LEARN
  (∀ (s : State) (p : Requester) (c : ChainId) (m : Fin 32) (i : Fin 4), Granted s p .operate mntStartAddr →
      s.holder (ActCode.res .learn c) (s.actMask p .learn) = none → s.freeSlot = some i → s.arm.owner = true →
      s.declared c = true → m.val < s.nMods → (s.chain c).st = .run → (s.chain c).mods[m].st ≠ .parked →
      (s.chain c).mods[m].lost = false →
      Completes (.mntStartLearn p c m) s [.img, .chA, .chB, .sec, .mnt, .evt, .outbox] fun t =>
        t.mnt.acts[i] = some {
            code := .learn,
            port := p,
            chain := c,
            mod := m,
            res := ActCode.res .learn c,
            startedAt := s.clock,
            timeout := none,
            mask := s.actMask p .learn,
            answered := 0,
            value := s.mnt.argValue[p.idx] } ∧
        (∀ j, j ≠ i → t.mnt.acts[j] = s.mnt.acts[j]) ∧
        t.outbox.head? = some (.status p 0) ∧
        (t.chain c).learnOn = true ∧
        (t.chain c).learn.target = m ∧
        (t.chain c).learn.phase = 1 ∧
        (t.chain c).learn.pos = true ∧
        (t.chain c).learn.halfDue = some (s.clock + msNs * s.im.learnPeriod c / 2) ∧
        (t.chain c).learn.amp = 100 * s.im.learnAmp c ∧
        (t.chain c).order = (s.chain c).order.filter (· != m)) ∧
  -- MNT_START_PRECHARGE
  (∀ (s : State) (p : Requester) (c : ChainId) (m : Fin 32) (i : Fin 4), Granted s p .test mntStartAddr →
      s.holder (ActCode.res .precharge c) (s.actMask p .precharge) = none → s.freeSlot = some i →
      s.arm.owner = true → s.declared c = true → s.canConnect c = true → s.arm.mode = .block →
      Completes (.mntStartPrecharge p c m) s [.img, .chA, .chB, .snA, .snB, .sec, .mnt, .evt, .outbox] fun t =>
        t.mnt.acts[i] = some {
            code := .precharge,
            port := p,
            chain := c,
            mod := m,
            res := ActCode.res .precharge c,
            startedAt := s.clock,
            timeout := some (s.clock + secNs * s.im.actTimeout),
            mask := s.actMask p .precharge,
            answered := 0,
            value := s.mnt.argValue[p.idx] } ∧
        (∀ j, j ≠ i → t.mnt.acts[j] = s.mnt.acts[j]) ∧
        t.outbox.head? = some (.status p 0) ∧
        (t.chain c).st = .connecting ∧
        (t.chain c).seq = .conDiag ∧
        (t.chain c).preOnly = true ∧
        (t.chain c).seqDue = some (s.clock + 20 * msNs)) ∧
  -- MNT_START_CONT_TEST
  (∀ (s : State) (p : Requester) (c : ChainId) (m : Fin 32) (i : Fin 4), Granted s p .test mntStartAddr →
      s.holder (ActCode.res .contTest c) (s.actMask p .contTest) = none → s.freeSlot = some i →
      s.arm.owner = true → s.declared c = true → (s.chain c).st = .block → s.quiet c = true →
      (s.chain c).closed = true → s.lowCap c = false →
      Completes (.mntStartContTest p c m) s [.img, .glk, .chA, .chB, .snA, .snB, .thm, .lsw, .sec, .mnt, .evt,
        .outbox] fun t =>
        t.mnt.acts[i] = some {
            code := .contTest,
            port := p,
            chain := c,
            mod := m,
            res := ActCode.res .contTest c,
            startedAt := s.clock,
            timeout := some (s.clock + secNs * s.im.actTimeout),
            mask := s.actMask p .contTest,
            answered := 0,
            value := s.mnt.argValue[p.idx] } ∧
        t.outbox.head? = some (.status p 0) ∧
        (t.chain c).st = .opening ∧
        (t.chain c).kPos = false) ∧
  -- MNT_START_SENT_UPDATE
  (∀ (s : State) (p : Requester) (c : ChainId) (m : Fin 32) (i : Fin 4), Granted s p .configure mntStartAddr →
      s.holder (ActCode.res .sentUpdate c) (s.actMask p .sentUpdate) = none → s.freeSlot = some i →
      s.arm.owner = true → s.declared c = true → (s.sen c).stage = .enumerated →
      s.mnt.argValue[p.idx].toNat / 65536 % 256 = 6 →
      Completes (.mntStartSentUpdate p c m) s [.img, .chA, .chB, .snA, .snB, .sec, .mnt, .evt, .outbox] fun t =>
        t.mnt.acts[i] = some {
            code := .sentUpdate,
            port := p,
            chain := c,
            mod := m,
            res := ActCode.res .sentUpdate c,
            startedAt := s.clock,
            timeout := none,
            mask := s.actMask p .sentUpdate,
            answered := 0,
            value := s.mnt.argValue[p.idx] } ∧
        (∀ j, j ≠ i → t.mnt.acts[j] = s.mnt.acts[j]) ∧
        t.outbox.head? = some (.status p 0) ∧
        (t.sen c).srqQ = (s.sen c).srqQ ++ (s.named s.mnt.argMask[p.idx]).map fun m =>
          (m, 2, cfgItem 6 (s.mnt.argValue[p.idx].toNat % 65536))) ∧
  -- MNT_START_HEATER_TEST
  (∀ (s : State) (p : Requester) (c : ChainId) (m : Fin 32) (i : Fin 4), Granted s p .operate mntStartAddr →
      s.holder (ActCode.res .heaterTest c) (s.actMask p .heaterTest) = none → s.freeSlot = some i →
      s.arm.owner = true → (!(s.thm.sdHotA || s.thm.sdHotB || s.thm.sdColdA || s.thm.sdColdB)) = true →
      s.pwr.s1 = false → ∀ n ns, s.heaters = n :: ns →
      Completes (.mntStartHeaterTest p c m) s [.img, .thm, .lsw, .sec, .mnt, .evt, .outbox] fun t =>
        t.mnt.acts[i] = some {
            code := .heaterTest,
            port := p,
            chain := c,
            mod := m,
            res := ActCode.res .heaterTest c,
            startedAt := s.clock,
            timeout := some (s.clock + secNs * s.im.actTimeout),
            mask := s.actMask p .heaterTest,
            answered := 0,
            value := s.mnt.argValue[p.idx] } ∧
        (∀ j, j ≠ i → t.mnt.acts[j] = s.mnt.acts[j]) ∧
        t.outbox.head? = some (.status p 0) ∧
        t.mnt.heatTest = some (n, s.clock + secNs * s.im.heaterTestOn) ∧
        t.thm.heat[n] = .forcedOn ∧
        t.lsw.ch[n].want = true ∧
        t.thm.heatDue = []) ∧
  -- MNT_START_RECORD_EXPORT
  (∀ (s : State) (p : Requester) (c : ChainId) (m : Fin 32) (i : Fin 4), Granted s p .read mntStartAddr →
      s.holder (ActCode.res .recordExport c) (s.actMask p .recordExport) = none → s.freeSlot = some i →
      s.arm.owner = true → p = .spline →
      Completes (.mntStartRecordExport p c m) s [.img, .sec, .mnt, .evt, .free, .outbox] fun t =>
        t.mnt.acts[i] = some {
            code := .recordExport,
            port := p,
            chain := c,
            mod := m,
            res := ActCode.res .recordExport c,
            startedAt := s.clock,
            timeout := none,
            mask := s.actMask p .recordExport,
            answered := 0,
            value := s.mnt.argValue[p.idx] } ∧
        (∀ j, j ≠ i → t.mnt.acts[j] = s.mnt.acts[j]) ∧
        t.outbox.head? = some (.status p 0) ∧
        t.mnt.exportQ ≠ [])

/-- A start on a held resource is refused with 0x05 and its holder shown; without a slot or the token with 0x04.
From R355, R356, R359 of spec/. Model choices and readings: log entry 12. -/
def Obligations.ActivitiesAreRefused : Prop :=
  -- MNT_START_LEARN
  (∀ (s : State) (p : Requester) (c : ChainId) (m : Fin 32) (r : Nat) (j : Fin 4) (v : Activity),
      Granted s p .operate mntStartAddr → m.val < s.nMods →
      s.holder (ActCode.res .learn c) (s.actMask p .learn) = some (r, j, v) →
      Completes (.mntStartLearn p c m) s [.mnt, .evt, .outbox] fun t =>
        t.mnt = { s.mnt with
            refused := s.mnt.refused.set p.idx (BitVec.ofNat 32 (1 * 2 ^ 24 + r * 2 ^ 20 + j.val * 2 ^ 16 +
              v.port.num * 2 ^ 8 + v.code.num)) } ∧
        Logged s t 0xC002 1 j.val (v.code.num + v.port.num * 2 ^ 8) ∧
        Answered s t p 5) ∧
  (∀ (s : State) (p : Requester) (c : ChainId) (m : Fin 32), Granted s p .operate mntStartAddr →
      m.val < s.nMods → s.holder (ActCode.res .learn c) (s.actMask p .learn) = none →
      (s.freeSlot = none ∨ s.arm.owner = false) →
      Completes (.mntStartLearn p c m) s [.outbox] fun t =>
        Answered s t p 4) ∧
  -- MNT_START_SENT_UPDATE
  (∀ (s : State) (p : Requester) (c : ChainId) (m : Fin 32) (r : Nat) (j : Fin 4) (v : Activity),
      Granted s p .configure mntStartAddr →
      s.holder (ActCode.res .sentUpdate c) (s.actMask p .sentUpdate) = some (r, j, v) →
      Completes (.mntStartSentUpdate p c m) s [.mnt, .evt, .outbox] fun t =>
        t.mnt = { s.mnt with
            refused := s.mnt.refused.set p.idx (BitVec.ofNat 32 (2 * 2 ^ 24 + r * 2 ^ 20 + j.val * 2 ^ 16 +
              v.port.num * 2 ^ 8 + v.code.num)) } ∧
        Logged s t 0xC002 2 j.val (v.code.num + v.port.num * 2 ^ 8) ∧
        Answered s t p 5) ∧
  (∀ (s : State) (p : Requester) (c : ChainId) (m : Fin 32), Granted s p .configure mntStartAddr →
      s.holder (ActCode.res .sentUpdate c) (s.actMask p .sentUpdate) = none →
      (s.freeSlot = none ∨ s.arm.owner = false) →
      Completes (.mntStartSentUpdate p c m) s [.outbox] fun t =>
        Answered s t p 4) ∧
  -- MNT_START_GATE_TEST
  (∀ (s : State) (p : Requester) (c : ChainId) (m : Fin 32) (r : Nat) (j : Fin 4) (v : Activity),
      Granted s p .test mntStartAddr →
      s.holder (ActCode.res .gateTest c) (s.actMask p .gateTest) = some (r, j, v) →
      Completes (.mntStartGateTest p c m) s [.mnt, .evt, .outbox] fun t =>
        t.mnt = { s.mnt with
            refused := s.mnt.refused.set p.idx (BitVec.ofNat 32 (3 * 2 ^ 24 + r * 2 ^ 20 + j.val * 2 ^ 16 +
              v.port.num * 2 ^ 8 + v.code.num)) } ∧
        Logged s t 0xC002 3 j.val (v.code.num + v.port.num * 2 ^ 8) ∧
        Answered s t p 5) ∧
  (∀ (s : State) (p : Requester) (c : ChainId) (m : Fin 32), Granted s p .test mntStartAddr →
      s.holder (ActCode.res .gateTest c) (s.actMask p .gateTest) = none →
      (s.freeSlot = none ∨ s.arm.owner = false) →
      Completes (.mntStartGateTest p c m) s [.outbox] fun t =>
        Answered s t p 4) ∧
  -- MNT_START_JIG
  (∀ (s : State) (p : Requester) (c : ChainId) (m : Fin 32) (r : Nat) (j : Fin 4) (v : Activity),
      Granted s p .test mntStartAddr → s.holder (ActCode.res .jig c) (s.actMask p .jig) = some (r, j, v) →
      Completes (.mntStartJig p c m) s [.mnt, .evt, .outbox] fun t =>
        t.mnt = { s.mnt with
            refused := s.mnt.refused.set p.idx (BitVec.ofNat 32 (4 * 2 ^ 24 + r * 2 ^ 20 + j.val * 2 ^ 16 +
              v.port.num * 2 ^ 8 + v.code.num)) } ∧
        Logged s t 0xC002 4 j.val (v.code.num + v.port.num * 2 ^ 8) ∧
        Answered s t p 5) ∧
  (∀ (s : State) (p : Requester) (c : ChainId) (m : Fin 32), Granted s p .test mntStartAddr →
      s.holder (ActCode.res .jig c) (s.actMask p .jig) = none → (s.freeSlot = none ∨ s.arm.owner = false) →
      Completes (.mntStartJig p c m) s [.outbox] fun t =>
        Answered s t p 4) ∧
  -- MNT_START_PRECHARGE
  (∀ (s : State) (p : Requester) (c : ChainId) (m : Fin 32) (r : Nat) (j : Fin 4) (v : Activity),
      Granted s p .test mntStartAddr →
      s.holder (ActCode.res .precharge c) (s.actMask p .precharge) = some (r, j, v) →
      Completes (.mntStartPrecharge p c m) s [.mnt, .evt, .outbox] fun t =>
        t.mnt = { s.mnt with
            refused := s.mnt.refused.set p.idx (BitVec.ofNat 32 (5 * 2 ^ 24 + r * 2 ^ 20 + j.val * 2 ^ 16 +
              v.port.num * 2 ^ 8 + v.code.num)) } ∧
        Logged s t 0xC002 5 j.val (v.code.num + v.port.num * 2 ^ 8) ∧
        Answered s t p 5) ∧
  (∀ (s : State) (p : Requester) (c : ChainId) (m : Fin 32), Granted s p .test mntStartAddr →
      s.holder (ActCode.res .precharge c) (s.actMask p .precharge) = none →
      (s.freeSlot = none ∨ s.arm.owner = false) →
      Completes (.mntStartPrecharge p c m) s [.outbox] fun t =>
        Answered s t p 4) ∧
  -- MNT_START_CONT_TEST
  (∀ (s : State) (p : Requester) (c : ChainId) (m : Fin 32) (r : Nat) (j : Fin 4) (v : Activity),
      Granted s p .test mntStartAddr →
      s.holder (ActCode.res .contTest c) (s.actMask p .contTest) = some (r, j, v) →
      Completes (.mntStartContTest p c m) s [.mnt, .evt, .outbox] fun t =>
        t.mnt = { s.mnt with
            refused := s.mnt.refused.set p.idx (BitVec.ofNat 32 (6 * 2 ^ 24 + r * 2 ^ 20 + j.val * 2 ^ 16 +
              v.port.num * 2 ^ 8 + v.code.num)) } ∧
        Logged s t 0xC002 6 j.val (v.code.num + v.port.num * 2 ^ 8) ∧
        Answered s t p 5) ∧
  (∀ (s : State) (p : Requester) (c : ChainId) (m : Fin 32), Granted s p .test mntStartAddr →
      s.holder (ActCode.res .contTest c) (s.actMask p .contTest) = none →
      (s.freeSlot = none ∨ s.arm.owner = false) →
      Completes (.mntStartContTest p c m) s [.outbox] fun t =>
        Answered s t p 4) ∧
  -- MNT_START_HEATER_TEST
  (∀ (s : State) (p : Requester) (c : ChainId) (m : Fin 32) (r : Nat) (j : Fin 4) (v : Activity),
      Granted s p .operate mntStartAddr →
      s.holder (ActCode.res .heaterTest c) (s.actMask p .heaterTest) = some (r, j, v) →
      Completes (.mntStartHeaterTest p c m) s [.mnt, .evt, .outbox] fun t =>
        t.mnt = { s.mnt with
            refused := s.mnt.refused.set p.idx (BitVec.ofNat 32 (7 * 2 ^ 24 + r * 2 ^ 20 + j.val * 2 ^ 16 +
              v.port.num * 2 ^ 8 + v.code.num)) } ∧
        Logged s t 0xC002 7 j.val (v.code.num + v.port.num * 2 ^ 8) ∧
        Answered s t p 5) ∧
  (∀ (s : State) (p : Requester) (c : ChainId) (m : Fin 32), Granted s p .operate mntStartAddr →
      s.holder (ActCode.res .heaterTest c) (s.actMask p .heaterTest) = none →
      (s.freeSlot = none ∨ s.arm.owner = false) →
      Completes (.mntStartHeaterTest p c m) s [.outbox] fun t =>
        Answered s t p 4) ∧
  -- MNT_START_RECORD_EXPORT
  (∀ (s : State) (p : Requester) (c : ChainId) (m : Fin 32) (r : Nat) (j : Fin 4) (v : Activity),
      Granted s p .read mntStartAddr →
      s.holder (ActCode.res .recordExport c) (s.actMask p .recordExport) = some (r, j, v) →
      Completes (.mntStartRecordExport p c m) s [.mnt, .evt, .outbox] fun t =>
        t.mnt = { s.mnt with
            refused := s.mnt.refused.set p.idx (BitVec.ofNat 32 (8 * 2 ^ 24 + r * 2 ^ 20 + j.val * 2 ^ 16 +
              v.port.num * 2 ^ 8 + v.code.num)) } ∧
        Logged s t 0xC002 8 j.val (v.code.num + v.port.num * 2 ^ 8) ∧
        Answered s t p 5) ∧
  (∀ (s : State) (p : Requester) (c : ChainId) (m : Fin 32), Granted s p .read mntStartAddr →
      s.holder (ActCode.res .recordExport c) (s.actMask p .recordExport) = none →
      (s.freeSlot = none ∨ s.arm.owner = false) →
      Completes (.mntStartRecordExport p c m) s [.outbox] fun t =>
        Answered s t p 4)

/-- A stop, a time-out and a completed activity free the slot; the heater test moves from heater to heater. From
R355, R357 of spec/. Model choices and readings: log entry 34. -/
def Obligations.ActivitiesEnd : Prop :=
  -- MNT_STOP
  (∀ (s : State) (p : Requester) (slot : Fin 4) (v : Activity), s.portOpen p = true →
      s.mnt.acts[slot] = some v → v.port = p → s.right p v.code.right mntStopAddr = true →
      Completes (.mntStop p slot) s [.glk, .chA, .chB, .thm, .lsw, .sec, .mnt, .evt, .outbox] fun t =>
        t.mnt.acts[slot] = none ∧
        (∀ j, j ≠ slot → t.mnt.acts[j] = s.mnt.acts[j]) ∧
        t.outbox.head? = some (.status p 0)) ∧
  (∀ (s : State) (p : Requester) (slot : Fin 4), s.portOpen p = true → s.mnt.acts[slot] = none →
      Completes (.mntStop p slot) s [.outbox] fun t =>
        Answered s t p 0) ∧
  (∀ (s : State) (p : Requester) (slot : Fin 4) (v : Activity), s.portOpen p = true →
      s.mnt.acts[slot] = some v → v.port ≠ p → p ≠ .service →
      Completes (.mntStop p slot) s [.outbox] fun t =>
        Answered s t p 1) ∧
  -- ACT_TIMEOUT_EXPIRY
  (∀ (s : State) (slot : Fin 4) (v : Activity), s.mnt.acts[slot] = some v → due s.clock v.timeout = true →
      Completes (.actTimeoutExpiry slot) s [.glk, .chA, .chB, .thm, .lsw, .mnt, .evt] fun t =>
        t.mnt.acts[slot] = none ∧
        (∀ j, j ≠ slot → t.mnt.acts[j] = s.mnt.acts[j])) ∧
  -- ACTIVITY_COMPLETE
  (∀ (s : State) (slot : Fin 4) (v : Activity), s.mnt.acts[slot] = some v → s.actDone v = true →
      Completes (.activityComplete slot) s [.glk, .chA, .chB, .thm, .lsw, .mnt, .evt] fun t =>
        t.mnt.acts[slot] = none ∧
        (∀ j, j ≠ slot → t.mnt.acts[j] = s.mnt.acts[j])) ∧
  -- HEATER_TEST_CHANNEL_END
  (∀ (s : State) (n : Fin 12) (t0 : Nat), s.mnt.heatTest = some (n, t0) → t0 ≤ s.clock →
      Completes .heaterTestChannelEnd s [.thm, .lsw, .mnt, .evt] fun t =>
        (∀ k ks, (s.heaters.filter fun k => decide (n.val < k.val)) = k :: ks → t.mnt.heatTest = some
          (k, s.clock + secNs * s.im.heaterTestOn) ∧ t.thm.heat[k] = .forcedOn ∧ t.lsw.ch[k].want = true) ∧
        ((s.heaters.filter fun k => decide (n.val < k.val)) = [] → t.mnt.heatTest = none ∧ t.thm.heat =
          s.thm.heat.set n .off ∧ t.lsw.ch[n].want = false))

/-- Comparators, the trip pins and a bypass request: entries fire when a source rises, and timing begins when it
falls. From R266, R268, R270, R271, R278, R280, R288, R396 of spec/. Model choices and readings: log entry 13. -/
def Obligations.ProtectionSources : Prop :=
  -- COMPARATOR_CROSSING
  (∀ (s : State) (n : Fin 8) (input : BitVec 16) (lasted : Nat), s.planeRuns = true →
      cmpCrossed s.im.str.cmps[n] input = true → 10 * s.im.str.cmps[n].deglitch ≤ lasted →
      s.prt.cmp.getLsbD n.val = false →
      Completes (.comparatorCrossing n input lasted) s [.arm, .glk, .chA, .chB, .snA, .snB, .thm, .prt, .lsw,
        .mnt, .evt, .outbox, .legs] fun t =>
        t.prt.cmp = s.prt.cmp ||| BitVec.ofNat 8 (2 ^ n.val) ∧
        ∀ e ∈ s.entriesOf n.val, Fired (s.tableEntry e) s.clock e t) ∧
  -- TRIP_IN_ASSERT
  (∀ (s : State), s.dev.tripInLow = false → s.planeRuns = true →
      Completes .tripInAssert s [.dev, .arm, .glk, .chA, .chB, .snA, .snB, .thm, .prt, .lsw, .mnt, .evt,
        .outbox, .legs] fun t =>
        t.dev = { s.dev with tripInLow := true } ∧
        ∀ e ∈ s.entriesOf 8, Fired (s.tableEntry e) s.clock e t) ∧
  -- PRT_BYPASS_REQ
  (∀ (s : State) (p : Requester), Granted s p .operate 0x000C0020 → s.arm.bypassed = false →
      s.arm.owner = true →
      Completes (.prtBypassReq p 0x0000B501) s [.bypass, .arm, .glk, .chA, .chB, .snA, .snB, .thm, .prt, .lsw,
        .sec, .mnt, .evt, .outbox, .legs, .raised, .switch] fun t =>
        t.arm.bypassed = true ∧
        t.outbox.head? = some (.status p 0)) ∧
  (∀ (s : State) (p : Requester), Granted s p .operate 0x000C0020 → s.arm.bypassed = false →
      s.arm.owner = false →
      Completes (.prtBypassReq p 0x0000B501) s [.bypass, .arm, .glk, .chA, .chB, .snA, .snB, .thm, .prt, .lsw,
        .sec, .mnt, .evt, .outbox, .legs, .raised, .switch] fun t =>
        t.prt.bypReqFwd = true ∧
        t.outbox.head? = some (.status p 0)) ∧
  (∀ (s : State) (p : Requester) (v : Word), Granted s p .operate 0x000C0020 → v.getLsbD 0 = false →
      Completes (.prtBypassReq p v) s [.outbox] fun t =>
        Answered s t p 7) ∧
  -- COMPARATOR_RETURN
  (∀ (s : State) (n : Fin 8) (input : BitVec 16), s.prt.cmp.getLsbD n.val = true →
      cmpReturned s.im.str.cmps[n] input = true →
      Completes (.comparatorReturn n input) s [.prt] fun t =>
        t.prt.cmp = s.prt.cmp &&& ~~~(BitVec.ofNat 8 (2 ^ n.val)) ∧
        ∀ e : Fin 64, t.prt.entries[e] = if (s.reaction e).source == n.val && s.prt.entries[e].latched &&
          s.prt.entries[e].inactSince.isNone then { s.prt.entries[e] with inactSince := some s.clock } else
          s.prt.entries[e]) ∧
  -- TRIP_IN_RELEASE
  (∀ (s : State), s.dev.tripInLow = true →
      Completes .tripInRelease s [.dev, .prt] fun t =>
        t.dev = { s.dev with tripInLow := false } ∧
        ∀ e : Fin 64, t.prt.entries[e] = if (s.reaction e).source == 8 && s.prt.entries[e].latched &&
          s.prt.entries[e].inactSince.isNone then { s.prt.entries[e] with inactSince := some s.clock } else
          s.prt.entries[e]) ∧
  -- TRIP_IN_COUNT_WAIT_EXPIRY
  (∀ (s : State) (t0 : Nat), s.prt.tripCountDue = some t0 → t0 ≤ s.clock → s.arm.owner = false →
      Completes .tripInCountWaitExpiry s [.prt] fun t =>
        t.prt = { s.prt with tripCountDue := none }) ∧
  (∀ (s : State) (t0 : Nat) (e : Fin 64), s.prt.tripCountDue = some t0 → t0 ≤ s.clock → s.arm.owner = true →
      s.hasEntry e = true → (s.reaction e).source = 8 → s.prt.entries[e].firedAt = some (t0 - 20 * usNs) →
      20 * usNs ≤ t0 → (∀ k : Fin 64, k ≠ e → s.prt.entries[k].firedAt = none) →
      Completes .tripInCountWaitExpiry s [.prt, .evt] fun t =>
        t.prt.tripCountDue = none ∧
        t.prt.entries[e].times = s.clock :: inWindow (s.reaction e) s.clock s.prt.entries[e].times ∧
        Logged s t 0x1016) ∧
  -- TRIP_OUT_RELEASE
  (∀ (s : State), s.prt.tripOut = true → s.prt.tripOutAt + 10 * usNs ≤ s.clock → s.tripHeld = false →
      Completes .tripOutRelease s [.prt] fun t =>
        t.prt = { s.prt with tripOut := false, tripBy := [] })

/-- How reactions are released, what an assessment records, and the opening after a lost measurement. From R270,
R272, R273, R396 of spec/. Model choices and readings: log entry 13. -/
def Obligations.ReactionsAndMeasurements : Prop :=
  -- REACTION_AUTO_RELEASE
  (∀ (s : State) (e : Fin 64) (t0 : Nat), s.prt.entries[e].inactSince = some t0 → s.hasEntry e = true →
      (s.reaction e).recover = 1 → s.prt.entries[e].latched = true →
      s.sourceActive (s.reaction e).source = false → t0 + msNs * (s.reaction e).release ≤ s.clock →
      Completes (.reactionAutoRelease e) s [.arm, .glk, .prt, .evt] fun t =>
        t.prt.entries[e].latched = false ∧
        t.prt.entries[e].inactSince = none ∧
        ∀ k : Fin 64, k ≠ e → t.prt.entries[k] = s.prt.entries[k]) ∧
  -- PRT_CLEAR_ENTRY
  (∀ (s : State) (p : Requester) (n : Fin 64), Granted s p .clear 0x000C0014 → s.hasEntry n = true →
      s.sourceActive (s.reaction n).source = true →
      Completes (.prtClearEntry p n) s [.evt, .outbox] fun t =>
        Logged s t 0x1015 n.val ∧
        Answered s t p 4) ∧
  (∀ (s : State) (p : Requester) (n : Fin 64), Granted s p .clear 0x000C0014 →
      (s.hasEntry n && s.sourceActive (s.reaction n).source) = false →
      Completes (.prtClearEntry p n) s [.arm, .glk, .prt, .sec, .evt, .outbox] fun t =>
        t.prt.entries[n].latched = false ∧
        t.prt.entries[n].times = [] ∧
        t.outbox.head? = some (.status p 0) ∧
        ∀ k : Fin 64, k ≠ n → t.prt.entries[k] = s.prt.entries[k]) ∧
  -- PRT_CLEAR_ALL
  (∀ (s : State) (p : Requester), Granted s p .clear 0x000C0014 →
      (∀ n : Fin 64, (s.hasEntry n && s.sourceActive (s.reaction n).source) = false) →
      Completes (.prtClearAll p) s [.arm, .glk, .prt, .sec, .evt, .outbox] fun t =>
        (∀ n : Fin 64, t.prt.entries[n].latched = false ∧ t.prt.entries[n].times = []) ∧
        t.outbox.head? = some (.status p 0)) ∧
  (∀ (s : State) (p : Requester), Granted s p .clear 0x000C0014 →
      (∀ n : Fin 64, (s.hasEntry n && s.sourceActive (s.reaction n).source) = true) →
      Completes (.prtClearAll p) s [.evt, .outbox] fun t =>
        t.outbox.head? = some (.status p 4)) ∧
  -- PE_ASSESSMENT
  (∀ (s : State) (v : Option Nat) (i : Option Int), s.peRuns = true → s.outOfReset = true →
      Completes (.peAssessment v i) s [.meas, .bypass, .arm, .pwm, .glk, .chA, .chB, .snA, .snB, .thm, .prt,
        .dvt, .lsw, .mnt, .evt, .outbox, .legs, .raised, .switch] fun t =>
        t.meas = { s.meas with vCap := v, iTerm := i } ∧
        t.prt.pulsed = [] ∧
        (s.dev.phase = .ready → ∀ i : Fin 4, t.glk.links[i].word = t.word i)) ∧
  -- MEAS_LOST_OPEN_EXPIRY
  (∀ (s : State) (t0 : Nat), s.prt.measLostA = some t0 → s.arm.owner = true →
      s.prt.active.contains 0x123 = true → t0 + msNs * s.im.measLostOpen ≤ s.clock →
      (s.chain .a).openReq = false → s.declared .a = true → (s.chain .a).st = .run →
      Completes (.measLostOpenExpiry .a) s [.glk, .chA, .chB, .snA, .snB, .thm, .lsw, .mnt, .evt] fun t =>
        (t.chain .a).st = .zeroing ∧
        (t.chain .a).iRef = some 0 ∧
        (t.chain .a).openAfter = true) ∧
  (∀ (s : State) (t0 : Nat), s.prt.measLostB = some t0 → s.arm.owner = true →
      s.prt.active.contains 0x223 = true → t0 + msNs * s.im.measLostOpen ≤ s.clock →
      (s.chain .b).openReq = false → s.declared .b = true → (s.chain .b).st = .run →
      Completes (.measLostOpenExpiry .b) s [.glk, .chA, .chB, .snA, .snB, .thm, .lsw, .mnt, .evt] fun t =>
        (t.chain .b).st = .zeroing ∧
        (t.chain .b).iRef = some 0 ∧
        (t.chain .b).openAfter = true)

/-- Release, VSYS samples, shedding stages, their restore, and the channels restored one by one. From R324, R327,
R328, R329, R330, R299 of spec/. Model choices and readings: log entry 9. -/
def Obligations.PowerSuppliesAndStages : Prop :=
  -- POWER_ON_RESET_RELEASE
  (∀ (s : State) (vsys vbak : Nat) (r se b : Bool), s.dev.phase = .held → 3000 ≤ vbak → vbak ≤ 3600 →
      10400 ≤ vsys →
      Completes (.powerOnResetRelease vsys vbak r se b) s [.phase, .dev, .switch, .glk, .stages, .pwr] fun t =>
        t.dev = { s.dev with
            phase := .booting,
            member := r,
            roleSelPin := r,
            senseSrcPin := se,
            bypStatLow := b,
            vsysValidAt := s.clock } ∧
        t.glk = { s.glk with
            statClosed := b,
            closeAsserted := false,
            closeDue := none,
            fireHold := false,
            firing := false,
            fireDue := none } ∧
        t.pwr = { s.pwr with
            s1 := decide (vsys ≤ 10600),
            s2 := decide (vsys ≤ 10600),
            warn := decide (vsys ≤ 10800),
            vsys := some vsys,
            vbak := some vbak }) ∧
  -- VSYS_PLINTH_SAMPLE
  (∀ (s : State) (vsys : Nat), s.outOfReset = true → 10800 < vsys →
      Completes (.vsysPlinthSample vsys) s [.pwr] fun t =>
        t.pwr = { s.pwr with
            vsys := some vsys,
            above := Vector.ofFn fun i => (if restoreLevel i < vsys then some (s.pwr.above[i].getD s.clock) else
              none) }) ∧
  (∀ (s : State) (vsys : Nat), s.outOfReset = true →
      Completes (.vsysPlinthSample vsys) s [.bypass, .arm, .glk, .chA, .chB, .snA, .snB, .est, .thm, .prt, .dvt,
        .lsw, .lbus, .stages, .pwr, .mnt, .evt, .outbox, .legs, .raised, .switch] fun t =>
        t.pwr.vsys = some vsys ∧
        t.pwr.s1 = (s.pwr.s1 || decide (vsys ≤ 10600)) ∧
        t.pwr.s2 = (s.pwr.s2 || decide (vsys ≤ 10200)) ∧
        t.pwr.s3 = (s.pwr.s3 || decide (vsys ≤ 9800)) ∧
        t.pwr.s4 = (s.pwr.s4 || decide (vsys ≤ 9500))) ∧
  -- STAGE4_HANDOFF_TIMEOUT
  (∀ (s : State) (t0 : Nat), s.dvt.unhealthyAt = some t0 → t0 + 10 * usNs ≤ s.clock → s.arm.owner = true →
      Completes .stage4HandoffTimeout s [.bypass, .arm, .glk, .chA, .chB, .snA, .snB, .thm, .prt, .dvt, .lsw,
        .mnt, .evt, .legs, .switch] fun t =>
        t.arm.bypassed = true ∧
        t.dvt = { s.dvt with unhealthyAt := none }) ∧
  (∀ (s : State) (t0 : Nat), s.dvt.unhealthyAt = some t0 → t0 + 10 * usNs ≤ s.clock → s.arm.owner = false →
      Completes .stage4HandoffTimeout s [.dvt] fun t =>
        t.dvt = { s.dvt with unhealthyAt := none }) ∧
  -- STAGE_RESTORE
  (∀ (s : State), s.pwr.warn = true → s.restored 0 = true → s.pwr.s1 = false → s.pwr.s2 = false →
      Completes .stageRestore s [.pwr, .evt] fun t =>
        t.pwr = { s.pwr with warn := false } ∧
        Logged s t 0x8001 (s.pwr.vsys.getD 0 / 10)) ∧
  (∀ (s : State), s.pwr.warn = false → s.pwr.s2 = true → s.restored 2 = true →
      Completes .stageRestore s [.eng, .thm, .lbus, .stages, .pwr, .evt] fun t =>
        t.pwr = { s.pwr with s2 := false } ∧
        t.eng = { s.eng with rewriteDue := [] } ∧
        t.thm = { s.thm with held := false } ∧
        t.lbus = { s.lbus with
            shed := false,
            st := .integrating,
            lastRx := none,
            rxErr := 0,
            txErr := 0,
            recovering := false,
            offDue := none }) ∧
  (∀ (s : State), s.pwr.warn = false → s.pwr.s2 = false → s.pwr.s1 = true → s.restored 1 = true →
      Completes .stageRestore s [.lsw, .stages, .pwr, .evt] fun t =>
        t.pwr = { s.pwr with s1 := false } ∧
        Logged s t 0x8003 1) ∧
  -- STAGE1_CHANNEL_RESTORE
  (∀ (s : State) (n : Fin 12) (rest : List (Fin 12)), due s.clock s.lsw.restoreDue = true → s.pwr.s1 = false →
      s.lsw.restoreQ = n :: rest →
      Completes .stage1ChannelRestore s [.lsw] fun t =>
        t.lsw.restoreQ = rest ∧
        t.lsw.ch[n].shed = false ∧
        t.lsw.restoreDue = if rest.isEmpty then none else some (s.clock + 100 * msNs)) ∧
  -- PWR_CMD_RUN
  (∀ (s : State) (p : Requester), Granted s p .operate 0x000F0010 → s.pwr.s4 = true → s.restored 4 = true →
      s.pwr.s3 = false →
      Completes (.pwrCmdRun p) s [.glk, .raised, .prt, .dvt, .stages, .pwr, .evt, .outbox] fun t =>
        t.pwr = { s.pwr with s4 := false } ∧
        t.dvt = { s.dvt with healthy := s.dvt.beating, unhealthyAt := none } ∧
        Answered s t p 0) ∧
  (∀ (s : State) (p : Requester), Granted s p .operate 0x000F0010 → s.pwr.s4 = false → s.pwr.s3 = true →
      s.restored 3 = true →
      Completes (.pwrCmdRun p) s [.glk, .stages, .pwr, .evt, .outbox] fun t =>
        t.pwr = { s.pwr with s3 := false } ∧
        Answered s t p 0)

/-- Power-on and cold resets by the comparator, RESET_N and VBAK: what each leaves. From R325, R331, R339, R372,
R242 of spec/. Model choices and readings: log entry 9. -/
def Obligations.ResetSources : Prop :=
  -- RESET_COMPARATOR_TRIP
  (∀ (s : State),
      (s.dev.phase = .booting ∨ s.dev.phase = .starting ∨ s.dev.phase = .ready ∨ s.dev.phase = .noImage ∨
      s.dev.phase = .warm ∨ s.dev.phase = .glueRestart) →
      Completes .resetComparatorTrip s [.phase, .dev, .eng, .image, .img, .spl, .tim, .meas, .cell, .token,
        .bypass, .arm, .pwm, .glk, .chA, .chB, .snA, .snB, .esA, .esB, .est, .thm, .prt, .dvt, .lsw, .lbus,
        .stages, .pwr, .sec, .mnt, .evt, .req, .outbox, .legs, .raised, .log, .switch, .shutdown] fun t =>
        t.dev.phase = .held ∧
        t.pwr.rstCause = 1 ∧
        t.pwr.rstKind = 0 ∧
        t.pwr.rstCount = bump 16 s.pwr.rstCount ∧
        t.pwr.resetAt = s.clock ∧
        (t.pwr.s1 = false ∧ t.pwr.s2 = false ∧ t.pwr.s3 = false ∧ t.pwr.s4 = false) ∧
        t.arm = {} ∧
        t.spl = {} ∧
        t.mnt = {} ∧
        t.lsw = {} ∧
        t.prt = {} ∧
        t.evt.sram = [] ∧
        t.evt.nvm = s.evt.nvm) ∧
  (∀ (s : State), s.dev.phase = .hibernating →
      Completes .resetComparatorTrip s [.pwr] fun t =>
        t.pwr = { s.pwr with hibVsysLost := true }) ∧
  -- RESET_N_LOW
  (∀ (s : State),
      (s.dev.phase = .booting ∨ s.dev.phase = .starting ∨ s.dev.phase = .ready ∨ s.dev.phase = .noImage ∨
      s.dev.phase = .warm ∨ s.dev.phase = .glueRestart) →
      Completes .resetNLow s [.phase, .dev, .eng, .image, .img, .spl, .tim, .meas, .cell, .token, .bypass, .arm,
        .pwm, .glk, .chA, .chB, .snA, .snB, .esA, .esB, .est, .thm, .prt, .dvt, .lsw, .lbus, .stages, .pwr,
        .sec, .mnt, .evt, .req, .outbox, .legs, .raised, .log, .switch, .shutdown] fun t =>
        t.dev.phase = .booting ∧
        t.pwr.rstCause = 2 ∧
        t.pwr.rstKind = 1 ∧
        t.pwr.rstCount = bump 16 s.pwr.rstCount ∧
        t.pwr.resetAt = s.clock ∧
        t.arm = {} ∧
        t.spl = {} ∧
        t.mnt = {} ∧
        t.lsw = {} ∧
        t.prt = {} ∧
        t.evt.sram = [] ∧
        t.evt.nvm = s.evt.nvm) ∧
  (∀ (s : State), s.dev.phase = .hibernating →
      Completes .resetNLow s [.phase, .dev, .eng, .image, .img, .spl, .tim, .meas, .cell, .token, .bypass, .arm,
        .pwm, .glk, .chA, .chB, .snA, .snB, .esA, .esB, .est, .thm, .prt, .dvt, .lsw, .lbus, .stages, .pwr,
        .sec, .mnt, .evt, .req, .outbox, .legs, .raised, .log, .switch, .shutdown] fun t =>
        t.dev.phase = .booting ∧
        t.pwr.rstCause = 7 ∧
        t.pwr.wake = 4 ∧
        t.pwr.hibAt = none ∧
        t.dev.vsysValidAt = s.clock) ∧
  -- VBAK_OUT_OF_RANGE
  (∀ (s : State) (v : Nat), v < 3000 ∨ 3600 < v →
      Completes (.vbakOutOfRange v) s [.phase, .dev, .eng, .image, .img, .spl, .tim, .meas, .cell, .token,
        .bypass, .arm, .pwm, .glk, .chA, .chB, .snA, .snB, .esA, .esB, .est, .thm, .prt, .dvt, .lsw, .lbus,
        .stages, .pwr, .sec, .mnt, .evt, .req, .outbox, .legs, .raised, .log, .switch, .shutdown] fun t =>
        t.dev.phase = .held ∧
        t.pwr.rstCause = 8 ∧
        t.pwr.vbakLost = true ∧
        t.pwr.vbakLog = true ∧
        t.pwr.wake = 0 ∧
        t.pwr.hibAt = none ∧
        t.esA.accLive = 0 ∧
        t.esB.accLive = 0 ∧
        t.esA.epoch = (s.esA.epoch + 1) % 65536 ∧
        t.esB.epoch = (s.esB.epoch + 1) % 65536 ∧
        t.thm.latHotA = false ∧
        t.thm.latColdA = false ∧
        t.thm.latHotB = false ∧
        t.thm.latColdB = false) ∧
  (∀ (s : State) (v : Nat), 3000 ≤ v → v ≤ 3600 →
      Completes (.vbakOutOfRange v) s [.pwr] fun t =>
        t.pwr = { s.pwr with vbak := some v })

/-- Hibernation: command, entry, wakes; the clamp hold and the resume after a warm reset. From R298, R321, R333,
R334, R337, R339 of spec/. Model choices and readings: log entry 9. -/
def Obligations.HibernationAndClampHold : Prop :=
  -- PWR_CMD_HIBERNATE
  (∀ (s : State) (p : Requester), Granted s p .operate 0x000F0010 → s.hibBlock = 0 →
      Completes (.pwrCmdHibernate p) s [.est, .pwr, .evt, .outbox] fun t =>
        t.pwr = { s.pwr with hibPending := true } ∧
        t.est = { s.est with stateDue := true, stateUrgent := true, countDue := true } ∧
        t.evt = { s.evt with pendDue := decide (s.evt.pending ≠ 0) } ∧
        Answered s t p 0) ∧
  (∀ (s : State) (p : Requester), Granted s p .operate 0x000F0010 → s.hibBlock ≠ 0 →
      Completes (.pwrCmdHibernate p) s [.evt, .outbox] fun t =>
        Logged s t 0x800B s.hibBlock ∧
        Answered s t p 4) ∧
  -- HIBERNATE_ENTER
  (∀ (s : State), s.pwr.hibPending = true → s.est.stateDue = false → s.est.countDue = false →
      s.thm.tillDue = [] → s.est.writing = none →
      Completes .hibernateEnter s [.phase, .dev, .eng, .glk, .chA, .chB, .snA, .snB, .prt, .dvt, .lsw, .lbus,
        .pwr, .evt, .outbox, .switch] fun t =>
        t.dev.phase = .hibernating ∧
        t.pwr = { s.pwr with
            hibPending := false,
            hibAt := some s.clock,
            hibVsysLost := false,
            hibHz := s.eng.plinthHz.getD s.pwr.hibHz } ∧
        t.dvt = { s.dvt with beating := false, healthy := false } ∧
        t.prt.tripOut = false ∧
        (∀ i : Fin 8, t.eng.state[i] = .off)) ∧
  -- PWR_CMD_CLEAR_VBAK
  (∀ (s : State) (p : Requester), Granted s p .clear 0x000F0010 →
      Completes (.pwrCmdClearVbak p) s [.pwr, .outbox] fun t =>
        t.pwr = { s.pwr with vbakLost := false } ∧
        Answered s t p 0) ∧
  -- HIB_WAKE_TIMER_EXPIRY
  (∀ (s : State) (t0 : Nat), s.dev.phase = .hibernating → s.pwr.hibAt = some t0 → s.im.hibWakeInterval ≠ 0 →
      t0 + secNs * s.im.hibWakeInterval ≤ s.clock →
      Completes .hibWakeTimerExpiry s [.phase, .dev, .eng, .image, .img, .spl, .tim, .meas, .cell, .token,
        .bypass, .arm, .pwm, .glk, .chA, .chB, .snA, .snB, .esA, .esB, .est, .thm, .prt, .dvt, .lsw, .lbus,
        .stages, .pwr, .sec, .mnt, .evt, .req, .outbox, .legs, .raised, .log, .switch, .shutdown] fun t =>
        t.dev.phase = .booting ∧
        t.pwr.rstCause = 7 ∧
        t.pwr.wake = 1 ∧
        t.pwr.hibAt = none ∧
        t.dev.vsysValidAt = s.clock) ∧
  -- HIB_CCI_WAKE
  (∀ (s : State) (c : ChainId), s.dev.phase = .hibernating → s.im.hibCciWake ≠ 0 → s.declared c = true →
      Completes (.hibCciWake c) s [.phase, .dev, .eng, .image, .img, .spl, .tim, .meas, .cell, .token, .bypass,
        .arm, .pwm, .glk, .chA, .chB, .snA, .snB, .esA, .esB, .est, .thm, .prt, .dvt, .lsw, .lbus, .stages,
        .pwr, .sec, .mnt, .evt, .req, .outbox, .legs, .raised, .log, .switch, .shutdown] fun t =>
        t.dev.phase = .booting ∧
        t.pwr.rstCause = 7 ∧
        t.pwr.wake = 16 ∧
        t.pwr.hibAt = none ∧
        t.dev.vsysValidAt = s.clock) ∧
  -- LBUS_WAKE
  (∀ (s : State), s.dev.phase = .hibernating → s.im.wakeMode = 1 →
      Completes (.lbusWake none) s [.phase, .dev, .eng, .image, .img, .spl, .tim, .meas, .cell, .token, .bypass,
        .arm, .pwm, .glk, .chA, .chB, .snA, .snB, .esA, .esB, .est, .thm, .prt, .dvt, .lsw, .lbus, .stages,
        .pwr, .sec, .mnt, .evt, .req, .outbox, .legs, .raised, .log, .switch, .shutdown] fun t =>
        t.dev.phase = .booting ∧
        t.pwr.rstCause = 7 ∧
        t.pwr.wake = 2 ∧
        t.pwr.hibAt = none ∧
        t.dev.vsysValidAt = s.clock) ∧
  (∀ (s : State) (f : CanFrame), s.dev.phase = .hibernating → s.im.wakeMode = 2 → s.wakeFilter f = true →
      Completes (.lbusWake (some f)) s [.phase, .dev, .eng, .image, .img, .spl, .tim, .meas, .cell, .token,
        .bypass, .arm, .pwm, .glk, .chA, .chB, .snA, .snB, .esA, .esB, .est, .thm, .prt, .dvt, .lsw, .lbus,
        .stages, .pwr, .sec, .mnt, .evt, .req, .outbox, .legs, .raised, .log, .switch, .shutdown] fun t =>
        t.lbus.wakeFrame = some f ∧
        t.dev.phase = .booting ∧
        t.pwr.rstCause = 7 ∧
        t.pwr.wake = 2 ∧
        t.pwr.hibAt = none ∧
        t.dev.vsysValidAt = s.clock) ∧
  -- CLAMP_HOLD_TIMEOUT
  (∀ (s : State), s.lsw.clamp = true → s.lsw.clampAt + 50 * msNs ≤ s.clock →
      Completes .clampHoldTimeout s [.chA, .chB, .lsw] fun t =>
        t.lsw.clamp = false ∧
        ∀ n : Fin 12, s.lsw.ch[n].clamp = true → t.lsw.ch[n].isOn = false ∧
        t.lsw.ch[n].clamp = false) ∧
  -- CLAMP_HOLD_STAGE3_END
  (∀ (s : State), s.lsw.clamp = true → s.pwr.s3 = true → s.lsw.clampAt + 3 * msNs ≤ s.clock →
      Completes .clampHoldStage3End s [.chA, .chB, .lsw] fun t =>
        t.lsw.clamp = false ∧
        ∀ n : Fin 12, s.lsw.ch[n].clamp = true → t.lsw.ch[n].isOn = false ∧
        t.lsw.ch[n].clamp = false) ∧
  -- WARM_RESET_RESUME
  (∀ (s : State), s.dev.phase = .warm →
      Completes .warmResetResume s [.phase, .dev, .eng, .token, .arm, .glk, .chA, .chB, .snA, .snB, .dvt, .lsw,
        .lbus, .pwr, .evt] fun t =>
        t.dev.phase = (if s.spl.ringReady then .ready else .starting) ∧
        t.pwr = { s.pwr with rstLogged := true } ∧
        t.dvt.beating = true ∧
        t.dvt.healthy = !s.pwr.s4)

/-- PWR_CMD WARM and COLD need OPERATE, and are refused with 0x04 for the owner of an inserting cell. From R335 of
spec/. -/
def Obligations.PowerResetRights : Prop :=
  -- PWR_CMD_WARM
  (∀ (s : State) (p : Requester), s.portOpen p = true → s.right p .operate 0x000F0010 = false →
      Completes (.pwrCmdWarm p) s [.sec, .evt, .outbox] fun t =>
        t.sec.denied = bump 16 s.sec.denied ∧
        t.sec.deniedAddr = 0x000F0010 ∧
        t.outbox.head? = some (.status p 2)) ∧
  -- PWR_CMD_COLD
  (∀ (s : State) (p : Requester), s.portOpen p = true → s.right p .operate 0x000F0010 = false →
      Completes (.pwrCmdCold p) s [.sec, .evt, .outbox] fun t =>
        t.sec.denied = bump 16 s.sec.denied ∧
        t.sec.deniedAddr = 0x000F0010 ∧
        t.outbox.head? = some (.status p 2)) ∧
  -- PWR_CMD_WARM
  (∀ (s : State) (p : Requester), Granted s p .operate 0x000F0010 → s.arm.owner = true →
      (s.arm.cell = .running ∨ s.arm.cell = .degradedHb) →
      Completes (.pwrCmdWarm p) s [.outbox] fun t =>
        Answered s t p 4) ∧
  -- PWR_CMD_COLD
  (∀ (s : State) (p : Requester), Granted s p .operate 0x000F0010 → s.arm.owner = true →
      (s.arm.cell = .running ∨ s.arm.cell = .degradedHb) →
      Completes (.pwrCmdCold p) s [.outbox] fun t =>
        Answered s t p 4) ∧
  -- PWR_CMD_WARM
  (∀ (s : State) (p : Requester), Granted s p .operate 0x000F0010 →
      (s.arm.owner = false ∨ s.arm.cell ≠ .running ∧ s.arm.cell ≠ .degradedHb) →
      Completes (.pwrCmdWarm p) s [.phase, .dev, .eng, .img, .spl, .meas, .token, .arm, .pwm, .glk, .chA, .chB,
        .snA, .snB, .esA, .esB, .thm, .dvt, .lsw, .lbus, .pwr, .sec, .mnt, .evt, .req, .legs, .switch] fun t =>
        t.dev.phase = .warm ∧
        t.pwr.rstCause = 10 ∧
        t.pwr.rstKind = 2 ∧
        t.pwr.rstCount = bump 16 s.pwr.rstCount ∧
        t.arm.owner = false ∧
        t.arm.bypassed = s.arm.bypassed ∧
        t.mnt = {} ∧
        t.pwm = {} ∧
        (∀ i : Fin 8, t.eng.state[i] = .off)) ∧
  -- PWR_CMD_COLD
  (∀ (s : State) (p : Requester), Granted s p .operate 0x000F0010 →
      (s.arm.owner = false ∨ s.arm.cell ≠ .running ∧ s.arm.cell ≠ .degradedHb) →
      Completes (.pwrCmdCold p) s [.phase, .dev, .eng, .image, .img, .spl, .tim, .meas, .cell, .token, .bypass,
        .arm, .pwm, .glk, .chA, .chB, .snA, .snB, .esA, .esB, .est, .thm, .prt, .dvt, .lsw, .lbus, .pwr, .sec,
        .mnt, .evt, .req, .outbox, .legs, .raised, .log, .switch, .shutdown] fun t =>
        t.dev.phase = .booting ∧
        t.pwr.rstCause = 5 ∧
        t.pwr.rstKind = 1 ∧
        t.pwr.rstCount = bump 16 s.pwr.rstCount ∧
        t.pwr.resetAt = s.clock ∧
        t.arm = {} ∧
        t.spl = {} ∧
        t.mnt = {} ∧
        t.lsw = {} ∧
        t.prt = {} ∧
        t.evt.sram = [] ∧
        t.evt.nvm = s.evt.nvm)

/-- A read is refused for alignment, for no register and for want of a right, in that order; RC fields clear. From
R8, R350, R362 of spec/. -/
def Obligations.RegisterReadsAndClears : Prop :=
  -- READ_LOW_WORD_LATCH
  (∀ (s : State) (p : Requester) (addr : Word), s.portOpen p = true → addr.toNat % 4 ≠ 0 →
      Completes (.readLowWordLatch p addr) s [.outbox] fun t =>
        t.outbox = .value p 7 0 :: s.outbox) ∧
  (∀ (s : State) (p : Requester) (addr : Word), s.portOpen p = true → addr.toNat % 4 = 0 →
      readReg s p addr = none →
      Completes (.readLowWordLatch p addr) s [.outbox] fun t =>
        t.outbox = .value p 3 0 :: s.outbox) ∧
  (∀ (s : State) (p : Requester) (addr : Word) (v : Word), s.portOpen p = true → addr.toNat % 4 = 0 →
      readReg s p addr = some v → s.right p .read addr = false →
      Completes (.readLowWordLatch p addr) s [.sec, .evt, .outbox] fun t =>
        t.sec.denied = bump 16 s.sec.denied ∧
        t.sec.deniedAddr = addr ∧
        t.outbox.head? = some (.value p 2 0)) ∧
  -- RC_READ
  (∀ (s : State) (p : Requester) (addr : Word), s.portOpen p = true → addr.toNat % 4 ≠ 0 →
      Completes (.rcRead p addr) s [.outbox] fun t =>
        t.outbox = .value p 7 0 :: s.outbox) ∧
  (∀ (s : State) (p : Requester) (addr : Word), s.portOpen p = true → addr.toNat % 4 = 0 →
      readReg s p addr = none →
      Completes (.rcRead p addr) s [.outbox] fun t =>
        t.outbox = .value p 3 0 :: s.outbox) ∧
  (∀ (s : State) (p : Requester) (addr : Word) (v : Word), s.portOpen p = true → addr.toNat % 4 = 0 →
      readReg s p addr = some v → s.right p .read addr = false →
      Completes (.rcRead p addr) s [.sec, .evt, .outbox] fun t =>
        t.sec.denied = bump 16 s.sec.denied ∧
        t.sec.deniedAddr = addr ∧
        t.outbox.head? = some (.value p 2 0)) ∧
  (∀ (s : State) (p : Requester) (v : Word), s.portOpen p = true → s.right p .read 0x00030030 = true →
      readReg s p 0x00030030 = some v → s.latched p 0x00030030 = none →
      Completes (.rcRead p 0x00030030) s [.arm, .outbox] fun t =>
        t.arm = { s.arm with cntMissed := 0, cntLate := 0, cntSubst := 0, cntMismatch := 0 } ∧
        t.outbox = .value p 0 v :: s.outbox) ∧
  (∀ (s : State) (p : Requester) (v : Word), s.portOpen p = true → s.right p .read 0x00060080 = true →
      readReg s p 0x00060080 = some v → s.latched p 0x00060080 = none →
      Completes (.rcRead p 0x00060080) s [.chA, .outbox] fun t =>
        t.chA = { s.chA with cntLate := 0, cntReject := 0, cntLost := 0, cntRefused := 0 } ∧
        t.outbox = .value p 0 v :: s.outbox) ∧
  (∀ (s : State) (p : Requester) (v : Word), s.portOpen p = true → s.right p .read 0x00090008 = true →
      readReg s p 0x00090008 = some v → s.latched p 0x00090008 = none →
      Completes (.rcRead p 0x00090008) s [.snB, .outbox] fun t =>
        t.snB = { s.snB with cntCrc := 0, cntLostCmd := 0, cntDup := 0, cntMissed := 0 } ∧
        t.outbox = .value p 0 v :: s.outbox) ∧
  (∀ (s : State) (p : Requester) (v : Word), s.portOpen p = true → s.right p .read 0x000C001C = true →
      readReg s p 0x000C001C = some v → s.latched p 0x000C001C = none →
      Completes (.rcRead p 0x000C001C) s [.prt, .outbox] fun t =>
        t.prt = { s.prt with cntHw := 0, cntPe := 0, cntEsc := 0, cntTripIn := 0 } ∧
        t.outbox = .value p 0 v :: s.outbox) ∧
  (∀ (s : State) (p : Requester) (v : Word), s.portOpen p = true → s.right p .read 0x000D0030 = true →
      readReg s p 0x000D0030 = some v → s.latched p 0x000D0030 = none →
      Completes (.rcRead p 0x000D0030) s [.lsw, .outbox] fun t =>
        t.lsw = { s.lsw with cntFailed := 0, cntLatches := 0, cntSheds := 0, cntClamps := 0 } ∧
        t.outbox = .value p 0 v :: s.outbox)

/-- A read of a low word latches the high word for its requester, and the next read of that high word returns it.
From R7 of spec/. -/
def Obligations.SixtyFourBitReads : Prop :=
  -- READ_LOW_WORD_LATCH
  (∀ (s : State) (p : Requester) (addr : Word) (v : Word), s.portOpen p = true → s.right p .read addr = true →
      addr.toNat % 4 = 0 → readReg s p addr = some v → isLowWord addr = true →
      Completes (.readLowWordLatch p addr) s [.req, .outbox] fun t =>
        t.outbox = .value p 0 v :: s.outbox ∧
        t.latched p (addr + 4) = readReg s p (addr + 4) ∧
        (∀ a, a ≠ addr + 4 → t.latched p a = s.latched p a) ∧
        ∀ q : Requester, q ≠ p → ∀ a, t.latched q a = s.latched q a) ∧
  (∀ (s : State) (p : Requester) (addr : Word) (v : Word), s.portOpen p = true → s.right p .read addr = true →
      addr.toNat % 4 = 0 → readReg s p addr = some v → isLowWord addr = false → ∀ h, s.latched p addr = some h →
      Completes (.readLowWordLatch p addr) s [.req, .outbox] fun t =>
        t.outbox = .value p 0 h :: s.outbox ∧
        t.latched p addr = none ∧
        (∀ a, a ≠ addr → t.latched p a = s.latched p a) ∧
        ∀ q : Requester, q ≠ p → ∀ a, t.latched q a = s.latched q a) ∧
  (∀ (s : State) (p : Requester) (addr : Word) (v : Word), s.portOpen p = true → s.right p .read addr = true →
      addr.toNat % 4 = 0 → readReg s p addr = some v → isLowWord addr = false → s.latched p addr = none →
      Completes (.readLowWordLatch p addr) s [.eng, .spl, .arm, .pwm, .glk, .chA, .chB, .snA, .snB, .est, .thm,
        .prt, .dvt, .lsw, .lbus, .pwr, .sec, .evt, .req, .outbox] fun t =>
        t.outbox = .value p 0 v :: s.outbox ∧
        t.req.shadow = s.req.shadow)

/-- Register writes and the operations that the Spline, the service port and the local bus carry. From R87, R315,
R353, R362, R363, R366 of spec/. Model choices and readings: log entries 22, 34. -/
def Obligations.RegisterWritesAndPorts : Prop :=
  -- REGISTER_WRITE
  (∀ (s : State) (p : Requester) (addr v : Word), s.portOpen p = true → addr.toNat % 4 ≠ 0 →
      Completes (.registerWrite p addr v) s [.outbox] fun t =>
        Answered s t p 7) ∧
  (∀ (s : State) (p : Requester) (addr v : Word), s.portOpen p = true → addr.toNat % 4 = 0 →
      readReg s p addr = none →
      Completes (.registerWrite p addr v) s [.outbox] fun t =>
        Answered s t p 3) ∧
  (∀ (s : State) (p : Requester) (v : Word), s.portOpen p = true → s.right p .configure 0x00110000 = true →
      (readReg s p 0x00110000).isSome = true →
      Completes (.registerWrite p 0x00110000 v) s [.mnt, .outbox] fun t =>
        t.mnt = { s.mnt with argMask := s.mnt.argMask.set p.idx v } ∧
        Answered s t p 0) ∧
  (∀ (s : State) (p : Requester) (v : Word), s.portOpen p = true → s.right p .configure 0x000E0034 = true →
      (readReg s p 0x000E0034).isSome = true →
      Completes (.registerWrite p 0x000E0034 v) s [.lbus, .outbox] fun t =>
        t.lbus = { s.lbus with rxSel := s.lbus.rxSel.set p.idx (v.toNat % 64) } ∧
        Answered s t p 0) ∧
  (∀ (s : State) (p : Requester) (v : Word), s.portOpen p = true → s.right p .configure 0x000F0120 = true →
      (readReg s p 0x000F0120).isSome = true →
      Completes (.registerWrite p 0x000F0120 v) s [.eng, .evt, .outbox] fun t =>
        t.eng = { s.eng with dcqFlags := s.eng.dcqFlags &&& ~~~((s.eng.dcqFresh.clears s.clock v).truncate 26) }
          ∧
        t.evt.hwFull = (s.evt.hwFull && !(v.getLsbD 25 && s.evt.hwFullAt != some s.clock)) ∧
        t.evt.hwQ = s.evt.hwQ ∧
        t.evt.hwLost = s.evt.hwLost ∧
        t.evt.sram = s.evt.sram ∧
        t.evt.newest = s.evt.newest ∧
        t.evt.nvm = s.evt.nvm ∧
        Answered s t p 0) ∧
  (∀ (s : State) (p : Requester) (v : Word), s.portOpen p = true → s.right p .configure 0x000E0030 = true →
      (readReg s p 0x000E0030).isSome = true →
      Completes (.registerWrite p 0x000E0030 v) s [.lbus, .outbox] fun t =>
        t.lbus =
          { s.lbus with rxOverrun := s.lbus.rxOverrun && (!v.getLsbD 16 || s.lbus.overrunAt == some s.clock) } ∧
        Answered s t p 0) ∧
  (∀ (s : State) (p : Requester) (v : Word), s.portOpen p = true → s.right p .configure 0x00030030 = true →
      (readReg s p 0x00030030).isSome = true →
      Completes (.registerWrite p 0x00030030 v) s [.outbox] fun t =>
        Answered s t p 0) ∧
  -- REG_OP_EXECUTE
  (∀ (s : State) (h : HeldOp) (rest : List HeldOp), s.spl.regQueue = h :: rest → s.portOpen .spline = true →
      h.op.op ≠ 1#8 → h.op.op ≠ 2#8 →
      Completes .regOpExecute s [.spl] fun t =>
        t.spl = { s.spl with
            regQueue := rest,
            ansResults := s.spl.ansResults ++ [{ tag := h.op.tag, status := 7#8, addr := h.op.addr, data := 0 }]
              }) ∧
  (∀ (s : State) (h : HeldOp) (rest : List HeldOp) (v : Word), s.spl.regQueue = h :: rest →
      s.portOpen .spline = true → h.op.op = 1#8 → h.op.addr.toNat % 4 = 0 →
      readReg (s.onSpl fun x => { x with regQueue := rest }) .spline h.op.addr = some v →
      s.right .spline .read h.op.addr = true → isLowWord h.op.addr = true →
      Completes .regOpExecute s [.spl, .req] fun t =>
        t.spl = { s.spl with
            regQueue := rest,
            ansResults := s.spl.ansResults ++ [{ tag := h.op.tag, status := 0#8, addr := h.op.addr, data := v }]
              } ∧
        t.latched .spline (h.op.addr + 4) = readReg (s.onSpl fun x => { x with regQueue := rest }) .spline
          (h.op.addr + 4)) ∧
  -- SVC_REG_REQ
  (∀ (s : State) (seq : Nat), s.portOpen .service = true → s.sec.svcAns = none →
      Completes (.svcRegReq seq []) s [.sec, .outbox] fun t =>
        t.outbox = .service (.ack 7#8 0) :: s.outbox ∧
        t.sec = { s.sec with svcSeq := some (seq, [1#8]), svcAns := some (.ack 7#8 0) }) ∧
  (∀ (s : State) (seq : Nat) (o : RegOp), s.portOpen .service = true → s.sec.svcAns = none → o.op ≠ 1#8 →
      o.op ≠ 2#8 →
      Completes (.svcRegReq seq [o]) s [.sec, .outbox] fun t =>
        t.outbox = .service (.regRsp [{ tag := o.tag, status := 7#8, addr := o.addr, data := 0 }]) :: s.outbox ∧
        t.sec.svcSeq = some (seq, 1#8 :: [o].flatMap opBytes) ∧
        t.sec.svcAns = some (.regRsp [{ tag := o.tag, status := 7#8, addr := o.addr, data := 0 }])) ∧
  -- LBUS_SERVICE_REQUEST
  (∀ (s : State) (q : SvcReq) (rest : List SvcReq), s.lbus.svcQ = q :: rest → s.portOpen .lbus = true →
      s.lbus.bufs[(14 : Fin 16)].st = 0 → q.refused = true →
      Completes .lbusServiceRequest s [.lbus] fun t =>
        t.lbus.svcQ = rest ∧
        t.lbus.bufs[(14 : Fin 16)].st = 1 ∧
        t.lbus.bufs[(14 : Fin 16)].frame.map (·.data) = some (natBytes 2 q.tag.toNat ++ natBytes 1 6 ++ natBytes
          1 0 ++ natBytes 4 q.addr.toNat ++ natBytes 4 0) ∧
        t.lbus.bufs[(14 : Fin 16)].frame.map (·.id) = some (BitVec.ofNat 29 (s.im.svcBase + 1)) ∧
        ∀ b : Fin 16, b ≠ 14 → t.lbus.bufs[b] = s.lbus.bufs[b]) ∧
  (∀ (s : State) (q : SvcReq) (rest : List SvcReq) (v : Word), s.lbus.svcQ = q :: rest →
      s.portOpen .lbus = true → s.lbus.bufs[(14 : Fin 16)].st = 0 → q.refused = false → q.op = 1#8 →
      q.addr.toNat % 4 = 0 → readReg (s.onLbus fun b => { b with svcQ := rest }) .lbus q.addr = some v →
      s.right .lbus .read q.addr = true → (isLowWord q.addr = true ∨ s.latched .lbus q.addr = none) →
      Completes .lbusServiceRequest s [.phase, .dev, .eng, .slots, .image, .img, .spl, .tim, .meas, .cell,
        .token, .bypass, .arm, .pwm, .glk, .chA, .chB, .snA, .snB, .esA, .esB, .est, .thm, .prt, .dvt, .lsw,
        .lbus, .stages, .pwr, .life, .sec, .mnt, .evt, .req, .free, .outbox, .legs, .raised, .log, .switch,
        .shutdown] fun t =>
        t.lbus.svcQ = rest ∧
        t.lbus.bufs[(14 : Fin 16)].st = 1 ∧
        t.lbus.bufs[(14 : Fin 16)].frame.map (·.data) = some (natBytes 2 q.tag.toNat ++ natBytes 1 0 ++ natBytes
          1 0 ++ natBytes 4 q.addr.toNat ++ natBytes 4 v.toNat) ∧
        t.lbus.bufs[(14 : Fin 16)].frame.map (·.id) = some (BitVec.ofNat 29 (s.im.svcBase + 1))) ∧
  (∀ (s : State) (q : SvcReq) (rest : List SvcReq) (n : Fin 12) (action : Nat), s.lbus.svcQ = q :: rest →
      s.portOpen .lbus = true → s.lbus.bufs[(14 : Fin 16)].st = 0 → q.refused = false → q.op = 2#8 →
      q.addr = 0x000B0074 → q.data.toNat / 256 % 16 = n.val + 1 → q.data.toNat % 4 = action → action < 3 →
      (readReg s .lbus 0x000B0074).isSome = true → s.right .lbus .operate 0x000B0074 = true → s.lswClass n = 3 →
      s.locks.getLsbD 6 = false →
      Completes .lbusServiceRequest s [.lbus, .thm, .lsw, .evt] fun t =>
        t.lbus.svcQ = rest ∧
        t.lbus.bufs[(14 : Fin 16)].st = 1 ∧
        t.thm.heatForce = s.thm.heatForce.set n (if action = 0 then none else some
          (action == 1, s.clock + secNs * s.im.heatOverride)) ∧
        t.lbus.bufs[(14 : Fin 16)].frame.map (·.data) = some (natBytes 2 q.tag.toNat ++ natBytes 1 0 ++ natBytes
          1 0 ++ natBytes 4 q.addr.toNat ++ natBytes 4 0) ∧
        ∀ b : Fin 16, b ≠ 14 → t.lbus.bufs[b] = s.lbus.bufs[b]) ∧
  -- SVC_REG_REQ
  (∀ (s : State) (seq : Nat) (ops : List RegOp), s.portOpen .service = true → 1 ≤ ops.length → ops.length ≤ 16 →
      (s.sec.svcAns = none ∨ s.sec.svcSeq ≠ some (seq, 1#8 :: ops.flatMap opBytes)) →
      (runOps s ops).1.dev.phase = s.dev.phase →
      Completes (.svcRegReq seq ops) s [.phase, .dev, .eng, .slots, .image, .img, .spl, .tim, .meas, .cell,
        .token, .bypass, .arm, .pwm, .glk, .chA, .chB, .snA, .snB, .esA, .esB, .est, .thm, .prt, .dvt, .lsw,
        .lbus, .stages, .pwr, .life, .sec, .mnt, .evt, .req, .free, .outbox, .legs, .raised, .log, .switch,
        .shutdown] fun t =>
        t.outbox = .service (.regRsp (runOps s ops).2) :: (runOps s ops).1.outbox ∧
        t.sec = { (runOps s ops).1.sec with
            svcSeq := some (seq, 1#8 :: ops.flatMap opBytes),
            svcAns := some (.regRsp (runOps s ops).2) }) ∧
  (∀ (s : State) (seq : Nat) (o : RegOp) (v : Word), s.portOpen .service = true → s.sec.svcAns = none →
      o.op = 1#8 → o.addr.toNat % 4 = 0 → readReg s .service o.addr = some v →
      s.right .service .read o.addr = true → (isLowWord o.addr = true ∨ s.latched .service o.addr = none) →
      Completes (.svcRegReq seq [o]) s [.phase, .dev, .eng, .slots, .image, .img, .spl, .tim, .meas, .cell,
        .token, .bypass, .arm, .pwm, .glk, .chA, .chB, .snA, .snB, .esA, .esB, .est, .thm, .prt, .dvt, .lsw,
        .lbus, .stages, .pwr, .life, .sec, .mnt, .evt, .req, .free, .outbox, .legs, .raised, .log, .switch,
        .shutdown] fun t =>
        t.outbox = .service (.regRsp [{ tag := o.tag, status := 0#8, addr := o.addr, data := v }]) :: s.outbox) ∧
  (∀ (s : State) (seq : Nat) (o : RegOp), s.portOpen .service = true → s.sec.svcAns = none → o.op = 2#8 →
      o.addr = 0x00110000 → (readReg s .service 0x00110000).isSome = true →
      s.right .service .configure 0x00110000 = true →
      Completes (.svcRegReq seq [o]) s [.sec, .mnt, .outbox] fun t =>
        t.mnt = { s.mnt with argMask := s.mnt.argMask.set Requester.service.idx o.data } ∧
        t.outbox = .service (.regRsp [{ tag := o.tag, status := 0#8, addr := o.addr, data := 0 }]) :: s.outbox)

/-- A write to the PWM shadow, apply, start and commit registers from any port is refused with "not owner". From
R147 of spec/. -/
def Obligations.PwmRegistersOfMe : Prop :=
  -- REGISTER_WRITE
  (∀ (s : State) (p : Requester) (addr v : Word), s.portOpen p = true → addr.toNat % 4 = 0 →
      0x40010 ≤ addr.toNat → addr.toNat < 0x40050 → addr ≠ 0x0004002C → addr ≠ 0x0004004C →
      s.right p .configure addr = true →
      Completes (.registerWrite p addr v) s [.outbox] fun t =>
        Answered s t p 1) ∧
  (∀ (s : State) (p : Requester) (addr v : Word), s.portOpen p = true → addr.toNat % 4 = 0 →
      0x40010 ≤ addr.toNat → addr.toNat < 0x40050 → addr ≠ 0x0004002C → addr ≠ 0x0004004C →
      s.right p .configure addr = false →
      Completes (.registerWrite p addr v) s [.sec, .evt, .outbox] fun t =>
        t.sec.denied = bump 16 s.sec.denied ∧
        t.sec.deniedAddr = addr ∧
        t.outbox.head? = some (.status p 2))

/-- Attestation, the stored counters, the step to FIELD and the enrolment of certificates. From R342, R343, R345,
R347, R348 of spec/. Model choices and readings: log entries 6, 24, 33. -/
def Obligations.AttestationAndLifecycle : Prop :=
  -- SEC_CMD_ATTEST
  (∀ (s : State) (p : Requester), Granted s p .read secCmdAddr → s.sec.attest ≠ 1 → s.sec.cntDue = false →
      s.writePermit = true → s.sec.life ≠ 0 → s.sec.life ≠ 3 → s.seHalted = false →
      Completes (.secCmdAttest p) s [.sec, .outbox] fun t =>
        t.sec = { s.sec with attest := 1, attestAt := s.clock, report := [] } ∧
        Answered s t p 0) ∧
  (∀ (s : State) (p : Requester), Granted s p .read secCmdAddr →
      (s.sec.attest = 1 ∨ s.sec.cntDue = true ∨ s.writePermit = false ∨ s.sec.life = 0 ∨ s.sec.life = 3 ∨
      s.seHalted = true) →
      Completes (.secCmdAttest p) s [.outbox] fun t =>
        Answered s t p 4) ∧
  -- ATTEST_SIGNED
  (∀ (s : State), s.sec.attest = 1 → s.sec.cntDue = false → s.seHalted = false →
      Completes .attestSigned s [.sec, .evt] fun t =>
        t.sec.attest = 2 ∧
        t.sec.cntAttest = (s.sec.cntAttest + 1) % 2 ^ 32 ∧
        t.sec.cntDue = true ∧
        t.sec.elapsed = min ((s.clock - s.sec.attestAt) / usNs) 65535 ∧
        t.sec.report = s.reportBody ((s.sec.cntAttest + 1) % 2 ^ 32) ++ signature
          (s.reportBody ((s.sec.cntAttest + 1) % 2 ^ 32)) ∧
        t.sec.report.length = (s.reportBody ((s.sec.cntAttest + 1) % 2 ^ 32)).length + 64 ∧
        Logged s t 0x9005 ((s.sec.cntAttest + 1) % 2 ^ 32 % 65536)) ∧
  -- SEC_COUNTER_WRITE
  (∀ (s : State), s.sec.cntDue = true → s.writePermit = true → s.seHalted = false →
      Completes .secCounterWrite s [.sec] fun t =>
        t.sec = { s.sec with
            stored := (s.sec.cntBoot, s.sec.cntGlue, s.sec.cntAttest, s.sec.cntRoll),
            cntDue := false }) ∧
  -- SEC_CMD_STEP_FIELD
  (∀ (s : State), Granted s .service .identity secCmdAddr → s.sec.life = 1 → s.sec.opCert ≠ [] →
      s.sec.root ≠ [] → s.writePermit = true →
      Completes (.secCmdStepField .service) s [.sec, .life, .evt, .outbox] fun t =>
        t.sec = { s.sec with life := 2 } ∧
        Logged s t 0x9001 2 ∧
        Answered s t .service 0) ∧
  (∀ (s : State), Granted s .service .identity secCmdAddr →
      (s.sec.life ≠ 1 ∨ s.sec.opCert = [] ∨ s.sec.root = []) →
      Completes (.secCmdStepField .service) s [.evt, .outbox] fun t =>
        Logged s t 0x9003 0 5 ∧
        Answered s t .service 4) ∧
  (∀ (s : State) (p : Requester), s.portOpen p = true → p ≠ .service →
      Completes (.secCmdStepField p) s [.sec, .evt, .outbox] fun t =>
        t.sec.denied = bump 16 s.sec.denied ∧
        t.sec.deniedAddr = 0x00100004 ∧
        t.sec.life = s.sec.life ∧
        t.outbox.head? = some (.status p 2)) ∧
  -- ENROLMENT_OBJECT
  (∀ (s : State) (o : List Byte), s.portOpen .service = true → s.seHalted = false → 3 ≤ leAt (objBytes o) 0 1 →
      s.enrolResult o ≠ 1 →
      Completes (.enrolmentObject o) s [.sec, .evt, .outbox] fun t =>
        t.sec.enrol = s.enrolResult o ∧
        t.sec.opCert = s.sec.opCert ∧
        t.sec.root = s.sec.root ∧
        t.sec.life = s.sec.life ∧
        t.outbox = .service (.ack (BitVec.ofNat 8 (if s.enrolResult o = 2 then 7 else 4)) 0) :: s.outbox) ∧
  (∀ (s : State) (o : List Byte), s.portOpen .service = true → s.seHalted = false → leAt (objBytes o) 0 1 = 3 →
      Completes (.enrolmentObject o) s [.sec, .evt, .outbox] fun t =>
        t.sec.enrol = s.enrolResult o ∧
        t.sec.root = s.sec.root ∧
        t.sec.life = s.sec.life ∧
        (s.enrolResult o = 1 → t.sec.opCert = objCert o ∧ t.sec.cntRoll = s.sec.cntRoll + 1 ∧ t.sec.cntDue =
          true ∧ Logged s t 0x9002 3 ∧ t.outbox = .service (.ack 0 0) :: s.outbox) ∧
        (s.enrolResult o ≠ 1 → t.sec.opCert = s.sec.opCert ∧ t.sec.cntRoll = s.sec.cntRoll ∧ t.outbox = .service
          (.ack (BitVec.ofNat 8 (if s.enrolResult o = 2 then 7 else 4)) 0) :: s.outbox))

/-- Service-port frames: repeats, bad frames, time-outs; the JTAG instructions by lifecycle state. From R342, R353,
R354 of spec/. Model choices and readings: log entries 24, 31. -/
def Obligations.ServiceFramesAndJtag : Prop :=
  -- SVC_BULK
  (∀ (s : State) (seq stream off : Nat) (data : List Byte), s.portOpen .service = true → stream ≠ 1 →
      s.sec.svcAns = none →
      Completes (.svcBulk seq stream off data) s [.sec, .outbox] fun t =>
        t.outbox = .service (.ack 7#8 0) :: s.outbox ∧
        t.sec = { s.sec with
            svcSeq := some (seq, 3#8 :: natBytes 1 stream ++ natBytes 4 off ++ data),
            svcAns := some (.ack 7#8 0) }) ∧
  (∀ (s : State) (seq stream off : Nat) (data : List Byte) (a : SvcFrame), s.portOpen .service = true →
      s.sec.svcAns = some a → s.sec.svcSeq = some (seq, 3#8 :: natBytes 1 stream ++ natBytes 4 off ++ data) →
      Completes (.svcBulk seq stream off data) s [.outbox] fun t =>
        t.outbox = .service a :: s.outbox) ∧
  -- SVC_REG_REQ
  (∀ (s : State) (seq : Nat) (ops : List RegOp) (a : SvcFrame), s.portOpen .service = true →
      s.sec.svcAns = some a → s.sec.svcSeq = some (seq, 1#8 :: ops.flatMap opBytes) →
      Completes (.svcRegReq seq ops) s [.outbox] fun t =>
        t.outbox = .service a :: s.outbox) ∧
  -- SVC_FRAME_GAP_TIMEOUT
  (∀ (s : State), s.portOpen .service = true →
      Completes .svcFrameGapTimeout s [.evt] fun t =>
        Logged s t 0x9007 1) ∧
  -- SVC_FRAME_CRC_FAIL
  (∀ (s : State) (seq : Nat), s.portOpen .service = true →
      Completes (.svcFrameCrcFail seq) s [.sec, .evt, .outbox] fun t =>
        t.sec = { s.sec with svcBad := bump 16 s.sec.svcBad } ∧
        t.outbox = .service (.nak seq) :: s.outbox ∧
        Logged s t 0x9007 0) ∧
  -- JTAG_TAP_RESET
  (∀ (s : State), s.tapRuns = true →
      Completes .jtagTapReset s [.sec] fun t =>
        t.sec = { s.sec with jtag := .idcode, jtagLogged := false, jtagLife := s.sec.life }) ∧
  -- JTAG_INSTRUCTION
  (∀ (s : State) (i : JtagInstr), s.tapRuns = true →
      (i = .idcode ∨ i = .sample ∨ i = .bypass ∨ s.sec.jtagLife = 0 ∨ i = .extest ∧ s.sec.jtagLife = 1 ∧
      s.dev.extestSeen = false) →
      Completes (.jtagInstruction i) s [.sec] fun t =>
        t.sec = { s.sec with jtag := i }) ∧
  (∀ (s : State) (i : JtagInstr), s.tapRuns = true → (i = .regacc ∨ i = .debug) → s.sec.jtagLife ≠ 0 →
      Completes (.jtagInstruction i) s [.sec, .evt] fun t =>
        t.sec = { s.sec with jtag := .bypass, jtagLogged := true } ∧
        (s.sec.jtagLogged = false → Logged s t 0x9006 i.code) ∧
        (s.sec.jtagLogged = true → t.evt = s.evt))

/-- Sentinel wake, sleep and enumeration. From R192, R193, R194, R195 of spec/. Model choices and readings: log
entries 19, 47. -/
def Obligations.SentinelWakeAndEnumeration : Prop :=
  -- SNA_CMD_WAKE
  (∀ (s : State) (p : Requester) (c : ChainId), Granted s p .operate (snaAddr c 4) → s.declared c = true →
      s.arm.owner = true → s.maySleep c = true →
      Completes (.snaCmdWake p c) s [.glk, .chA, .chB, .snA, .snB, .thm, .lsw, .sec, .mnt, .evt, .outbox] fun t
        =>
        t.sen c = { s.sen c with
            stage := .waking,
            wakeDue := some (s.clock + 9 * msNs),
            strobed := false,
            awaited := false,
            srqQ := [] } ∧
        (∀ k, k ≠ c → t.sen k = s.sen k) ∧
        t.outbox = .status p 0 :: ((s.ownEnds.map (Out.wakeTone c)).reverse ++ s.outbox)) ∧
  -- SNA_CMD_SLEEP
  (∀ (s : State) (p : Requester) (c : ChainId), Granted s p .operate (snaAddr c 4) → s.declared c = true →
      s.arm.owner = true → s.maySleep c = true →
      Completes (.snaCmdSleep p c) s [.glk, .chA, .chB, .snA, .snB, .thm, .lsw, .sec, .mnt, .evt, .outbox] fun t
        =>
        t.sen c =
          { s.sen c with stage := .asleep, wakeDue := none, strobed := false, awaited := false, srqQ := [] } ∧
        (∀ k, k ≠ c → t.sen k = s.sen k) ∧
        (t.chain c).st = .absent ∧
        (t.chain c).fMod = 0 ∧
        t.outbox = .status p 0 :: (((s.cmdEnds c).map fun e => Out.senFrame c e (sleepFrame e)).reverse ++
          s.outbox)) ∧
  -- SNA_CMD_WAKE
  (∀ (s : State) (p : Requester) (c : ChainId), Granted s p .operate (snaAddr c 4) → s.declared c = true →
      (s.arm.owner = false ∨ s.maySleep c = false) →
      Completes (.snaCmdWake p c) s [.evt, .outbox] fun t =>
        Logged s t 0x3011 2 ∧
        Answered s t p 4) ∧
  -- SNA_CMD_SLEEP
  (∀ (s : State) (p : Requester) (c : ChainId), Granted s p .operate (snaAddr c 4) → s.declared c = true →
      (s.arm.owner = false ∨ s.maySleep c = false) →
      Completes (.snaCmdSleep p c) s [.evt, .outbox] fun t =>
        Logged s t 0x3011 2 ∧
        Answered s t p 4) ∧
  -- ENUM_START
  (∀ (s : State) (c : ChainId), s.declared c = true → s.arm.owner = true → (s.sen c).stage = .waking →
      Completes (.enumStart c) s [.snA, .snB, .outbox] fun t =>
        t.sen c = { beginEnum (s.sen c) with srqQ := (List.finRange 32).map fun m => (m, 1, []) } ∧
        (∀ k, k ≠ c → t.sen k = s.sen k) ∧
        t.outbox = (s.ownEnds.map fun e => Out.senFrame c e (enumFrame e s.nMods)).reverse ++ s.outbox) ∧
  -- ENUM_RETURN
  (∀ (s : State) (c : ChainId) (b : List Byte), s.declared c = true → senCrcOk b = false →
      Completes (.enumReturn c b) s [.snA, .snB] fun t =>
        t.sen c = { s.sen c with cntCrc := bump 8 (s.sen c).cntCrc } ∧
        ∀ k, k ≠ c → t.sen k = s.sen k) ∧
  (∀ (s : State) (c : ChainId) (b : List Byte) (tail : Bool) (hop n : Nat), s.declared c = true →
      senCrcOk b = true → enumOf b = some (tail, hop, n) → (s.sen c).stage = .enumerating →
      Completes (.enumReturn c b) s [.snA, .snB] fun t =>
        (t.sen c).hopDown = (if tail then some hop else (s.sen c).hopDown) ∧
        (t.sen c).hopUp = (if tail then (s.sen c).hopUp else some hop) ∧
        (t.sen c).conflict = ((s.sen c).conflict || decide (32 < hop)) ∧
        (t.sen c).extra = ((s.sen c).extra || decide (s.nMods < hop)) ∧
        (t.sen c).recs = (s.sen c).recs ∧
        ∀ k, k ≠ c → t.sen k = s.sen k) ∧
  (∀ (s : State) (c : ChainId) (b : List Byte) (tail : Bool) (hop n : Nat), s.declared c = true →
      senCrcOk b = true → enumOf b = some (tail, hop, n) → (s.sen c).stage ≠ .enumerating →
      s.arm.owner = false →
      Completes (.enumReturn c b) s [.snA, .snB] fun t =>
        t.sen c = { beginEnum (s.sen c) with
            hopDown := (if tail then some hop else none),
            hopUp := (if tail then none else some hop),
            conflict := decide (32 < hop),
            extra := decide (s.nMods < hop) } ∧
        ∀ k, k ≠ c → t.sen k = s.sen k) ∧
  -- ENUMERATION_COMPLETE
  (∀ (s : State) (c : ChainId), s.declared c = true → (s.sen c).stage = .enumerating →
      ((s.sen c).extra = true ∨ (s.sen c).conflict = true ∨ ∃ h, s.loopHop c = some h ∧ h ≠ s.nMods) →
      Completes (.enumerationComplete c) s [.snA, .snB, .evt] fun t =>
        (t.sen c).stage = .mismatch ∧
        (∀ k, k ≠ c → t.sen k = s.sen k) ∧
        (t.sen c).recs = (s.sen c).recs ∧
        Logged s t 0x3002 (s.modIdx.filter fun m => (s.sen c).recs[m].reachHead).length
          (s.modIdx.filter fun m => (s.sen c).recs[m].reachTail).length) ∧
  (∀ (s : State) (c : ChainId), s.declared c = true → (s.sen c).stage = .enumerating → (s.sen c).extra = false →
      (s.sen c).conflict = false → (∀ h, s.loopHop c = some h → h = s.nMods) →
      Completes (.enumerationComplete c) s [.glk, .chA, .chB, .snA, .snB, .esA, .esB, .est, .thm, .lsw, .mnt,
        .evt] fun t =>
        (t.sen c).stage = .enumerated ∧
        (t.sen c).intact = (s.loopHop c).isSome ∧
        (t.sen c).cntHead = (s.modIdx.filter fun m => (s.sen c).recs[m].reachHead).length ∧
        (t.sen c).cntTail = (s.modIdx.filter fun m => (s.sen c).recs[m].reachTail).length ∧
        (t.sen c).brk = (if s.simplex = true ∧ s.loopHop c = none ∧ ∃ m ∈ s.modIdx, (s.sen c).recs[m].reachHead
          ≠ (s.sen c).recs[m].reachTail then some ((s.modIdx.filter fun m => (s.sen c).recs[m].reachHead).foldl
          (fun a m => max a (m.val + 1)) 0) else none) ∧
        (∀ m ∈ s.modIdx, s.reached c m = true → (t.sen c).recs[m].lost = false ∧ (t.sen c).recs[m].misses = 0) ∧
        (∀ m ∈ s.modIdx, s.reached c m = false → (t.chain c).mods[m].lost = true) ∧
        (t.chain c).st ≠ .absent ∧
        (t.chain c).fMod = s.im.fMod c)

/-- Strobes, pings, pongs, samples and the judging of a complete sample set. From R190, R197, R198, R199, R202, R206
of spec/. Model choices and readings: log entries 16, 19, 47. -/
def Obligations.SentinelTimingAndSamples : Prop :=
  -- STROBE_LAUNCH
  (∀ (s : State) (c : ChainId) (seen : Nat), s.declared c = true → (s.sen c).stage = .enumerated →
      s.arm.owner = true → s.tim.time ≤ s.launchTime c → s.launchTime c < s.tim.time + 100 →
      Completes (.strobeLaunch c seen) s [.snA, .snB, .outbox] fun t =>
        t.sen c = { s.sen c with
            sseq := (s.tim.time / 1000000 + 1) % 256,
            res := s.launchTime c - s.tim.time,
            strobed := true,
            struck := true } ∧
        (∀ k, k ≠ c → t.sen k = s.sen k) ∧
        t.outbox = ((s.cmdEnds c).map fun e => Out.strobe c e (s.launchTime c - s.tim.time)).reverse ++
          s.outbox) ∧
  (∀ (s : State) (c : ChainId) (seen : Nat), s.declared c = true → (s.sen c).stage = .enumerated →
      s.arm.owner = false → seen < 100 →
      Completes (.strobeLaunch c seen) s [.snA, .snB] fun t =>
        t.sen c = { s.sen c with
            sseq := (s.tim.time / 1000000 + 1) % 256,
            res := seen,
            strobed := true,
            struck := true } ∧
        ∀ k, k ≠ c → t.sen k = s.sen k) ∧
  -- PING_TIMER
  (∀ (s : State) (c : ChainId) (tail : Bool) (m : Fin 32), s.declared c = true → (s.sen c).stage = .enumerated →
      s.ownEnds.filter (fun e => !(s.sen c).struck || e == s.pingTail c) = [tail] → s.pingNext c tail = some m →
      Completes (.pingTimer c) s [.snA, .snB, .outbox] fun t =>
        (t.sen c).pingId = ((s.sen c).pingId + 1) % 256 ∧
        (t.sen c).recs[m] = (if tail then
          { (s.sen c).recs[m] with pingTail := s.clock, idTail := some (((s.sen c).pingId + 1) % 256) } else
          { (s.sen c).recs[m] with pingHead := s.clock, idHead := some (((s.sen c).pingId + 1) % 256) }) ∧
        (∀ j : Fin 32, j ≠ m → (t.sen c).recs[j] = (s.sen c).recs[j]) ∧
        (∀ k, k ≠ c → t.sen k = s.sen k) ∧
        t.outbox = .senFrame c tail (pingFrame tail m (((s.sen c).pingId + 1) % 256)) :: s.outbox) ∧
  -- PONG_RX
  (∀ (s : State) (c : ChainId) (b : List Byte) (rt : Nat), s.declared c = true → senCrcOk b = false →
      Completes (.pongRx c b rt) s [.snA, .snB] fun t =>
        t.sen c = { s.sen c with cntCrc := bump 8 (s.sen c).cntCrc } ∧
        ∀ k, k ≠ c → t.sen k = s.sen k) ∧
  (∀ (s : State) (c : ChainId) (b : List Byte) (m : Fin 32) (id rt ta : Nat) (v : Int), s.declared c = true →
      senCrcOk b = true → pongOf b = some (m, false, id, ta) → (s.sen c).recs[m].idHead = some id →
      s.arm.owner = true → (s.sen c).recs[m].dlyHead = none →
      median ((((rt - 10 * ta) / 2) :: (s.sen c).recs[m].rtHead).take 8 |>.map Int.ofNat) = some v →
      Completes (.pongRx c b rt) s [.snA, .snB] fun t =>
        (t.sen c).recs[m] = { (s.sen c).recs[m] with
            rtHead := (((rt - 10 * ta) / 2) :: (s.sen c).recs[m].rtHead).take 8,
            idHead := none,
            dlyHead := some v.toNat } ∧
        (t.sen c).srqQ = (s.sen c).srqQ ++ [(m, 2, cfgItem 4 v.toNat)] ∧
        ∀ j : Fin 32, j ≠ m → (t.sen c).recs[j] = (s.sen c).recs[j]) ∧
  -- SAMPLE_RX
  (∀ (s : State) (c : ChainId) (b : List Byte), s.declared c = true → senCrcOk b = false →
      Completes (.sampleRx c b) s [.snA, .snB] fun t =>
        t.sen c = { s.sen c with cntCrc := bump 8 (s.sen c).cntCrc } ∧
        ∀ k, k ≠ c → t.sen k = s.sen k) ∧
  (∀ (s : State) (c : ChainId) (b : List Byte) (m : Fin 32) (f : SampleFrame), s.declared c = true →
      senCrcOk b = true → sampleOf b = some (m, f) → m.val < s.nMods → (s.sen c).stage = .enumerated →
      f.sseq = (s.sen c).sseq → (s.sen c).recs[m].got = false → f.echo = (s.sen c).recs[m].cntMark →
      f.status = 0 → f.owNew = false → f.thOpen ≠ 0xFF#8 → (s.sen c).recs[m].lost = false →
      (s.sen c).recs[m].bswCell = none → (s.chain c).mods[m].pend ≠ 3 → (s.es c).mods[m].absentAt = none →
      Completes (.sampleRx c b) s [.snA, .snB] fun t =>
        (∀ k : Fin 32, (t.sen c).recs[m].cells[k] = if k.val < s.nCells then f.cells.getD k.val none else none)
          ∧
        (∀ n : Fin 8, (t.sen c).recs[m].temps[n] = f.temps.getD n.val none) ∧
        (t.sen c).recs[m].vmod = f.vmod ∧
        (t.sen c).recs[m].sseq = f.sseq ∧
        (t.sen c).recs[m].echo = f.echo ∧
        (t.sen c).recs[m].status = f.status ∧
        (t.sen c).recs[m].thOpen = f.thOpen ∧
        (t.sen c).recs[m].got = true ∧
        (t.sen c).recs[m].misses = 0 ∧
        (t.sen c).recs[m].applied = f.applied ∧
        (t.sen c).recs[m].sampleTs = some (s.sen c).strobeAt ∧
        (∀ j : Fin 32, j ≠ m → (t.sen c).recs[j] = (s.sen c).recs[j]) ∧
        ∀ k, k ≠ c → t.sen k = s.sen k) ∧
  -- SAMPLE_SET_COMPLETE
  (∀ (s : State) (c : ChainId), s.declared c = true → (s.sen c).stage = .enumerated →
      Completes (.sampleSetComplete c) s [.arm, .glk, .chA, .chB, .snA, .snB, .est, .thm, .prt, .lsw, .mnt,
        .evt, .outbox, .legs, .raised] fun t =>
        ∀ m : Fin 32, m.val < s.nMods → (s.sen c).recs[m].got = true → (∀ w : Fin 33,
          (t.sen c).recs[m].pairRuns[w] = if s.wirePattern c m w.val then min 3
          ((s.sen c).recs[m].pairRuns[w] + 1) else 0) ∧
        (∀ k : Fin 32, (t.sen c).recs[m].cellRuns[k] = if s.lonePattern c m k.val then min 3
          ((s.sen c).recs[m].cellRuns[k] + 1) else 0) ∧
        (∀ k : Fin 32, (t.sen c).recs[m].hardRuns[k] = if s.hardPattern c m k then min 3
          ((s.sen c).recs[m].hardRuns[k] + 1) else 0))

/-- Answers of sentinels, open-wire tests, silence, polls and balance-switch tests. From R191, R205, R208, R210 of
spec/. Model choices and readings: log entries 19, 47, 48. -/
def Obligations.SentinelServiceFrames : Prop :=
  -- SRS_RX
  (∀ (s : State) (c : ChainId) (b : List Byte), s.declared c = true → senCrcOk b = false →
      Completes (.srsRx c b) s [.snA, .snB] fun t =>
        t.sen c = { s.sen c with cntCrc := bump 8 (s.sen c).cntCrc } ∧
        ∀ k, k ≠ c → t.sen k = s.sen k) ∧
  (∀ (s : State) (c : ChainId) (b : List Byte) (x : SrsFrame), s.declared c = true → senCrcOk b = true →
      srsOf b = some x → x.op = 1 → x.result = 0 → x.mod.val < s.nMods → (s.sen c).stage = .enumerating →
      (s.sen c).recs[x.mod].idRead = false →
      Completes (.srsRx c b) s [.snA, .snB] fun t =>
        (t.sen c).recs[x.mod] = { (s.sen c).recs[x.mod] with
            serial := x.data.truncate 64,
            cls := ((x.data >>> 64).truncate 8 : BitVec 8).toNat % 16,
            nCells := ((x.data >>> 72).truncate 8 : BitVec 8).toNat,
            hwRev := ((x.data >>> 80).truncate 8 : BitVec 8).toNat,
            idRead := true,
            reachHead := (s.sen c).recs[x.mod].reachHead || !x.tail,
            reachTail := (s.sen c).recs[x.mod].reachTail || x.tail } ∧
        (∀ j : Fin 32, j ≠ x.mod → (t.sen c).recs[j] = (s.sen c).recs[j]) ∧
        ∃ first second, (t.sen c).srqQ = if s.arm.owner then (s.sen c).srqQ ++ [(x.mod, 2, first),
          (x.mod, 2, second), (x.mod, 6, [])] else (s.sen c).srqQ) ∧
  (∀ (s : State) (c : ChainId) (b : List Byte) (x : SrsFrame), s.declared c = true → senCrcOk b = true →
      srsOf b = some x → x.op = 5 → x.result ≠ 0 →
      Completes (.srsRx c b) s [.snA, .snB] fun t =>
        (t.sen c).recs[x.mod] = { (s.sen c).recs[x.mod] with bswCell := none } ∧
        ∀ j : Fin 32, j ≠ x.mod → (t.sen c).recs[j] = (s.sen c).recs[j]) ∧
  (∀ (s : State) (c : ChainId) (b : List Byte) (x : SrsFrame), s.declared c = true → senCrcOk b = true →
      srsOf b = some x → x.op = 6 → x.result = 0 → s.arm.owner = true →
      Completes (.srsRx c b) s [.snA, .snB] fun t =>
        t.sen c = { s.sen c with srqQ := (s.sen c).srqQ ++ [(x.mod, 8, [])] } ∧
        ∀ k, k ≠ c → t.sen k = s.sen k) ∧
  -- OW_TEST_TIMER
  (∀ (s : State) (c : ChainId), s.declared c = true → s.arm.owner = true → (s.sen c).stage = .enumerated →
      due s.clock (s.sen c).owDue = true →
      Completes (.owTestTimer c) s [.snA, .snB] fun t =>
        t.sen c = { s.sen c with
            owDue := some (s.clock + secNs),
            srqQ := (s.sen c).srqQ ++ s.modIdx.map fun m => (m, 4, []) }) ∧
  -- SENTINEL_SILENT
  (∀ (s : State) (c : ChainId) (m : Fin 32), s.declared c = true → m.val < s.nMods →
      (s.sen c).recs[m].lost = false → s.im.silentSamples c ≤ (s.sen c).recs[m].misses →
      (s.chain c).mods[m].lost = false →
      Completes (.sentinelSilent c m) s [.glk, .chA, .chB, .snA, .snB, .thm, .lsw, .mnt, .evt] fun t =>
        (t.sen c).recs[m].lost = true ∧
        (t.chain c).mods[m].lost = true ∧
        (t.chain c).order = (s.chain c).order.filter (· != m) ∧
        (t.chain c).cntLost = bump 8 (s.chain c).cntLost) ∧
  -- LOST_MODULE_POLL
  (∀ (s : State) (c : ChainId) (m : Fin 32), s.declared c = true → s.arm.owner = true →
      (s.sen c).recs[m].lost = true → (s.sen c).recs[m].pollAt + 100 * msNs ≤ s.clock →
      Completes (.lostModulePoll c m) s [.snA, .snB] fun t =>
        (t.sen c).recs[m] = { (s.sen c).recs[m] with pollAt := s.clock } ∧
        (t.sen c).srqQ = (s.sen c).srqQ ++ [(m, 1, [])]) ∧
  -- BSW_TEST_ISSUE
  (∀ (s : State) (c : ChainId) (m : Fin 32) (cell : Option (Fin 32)), s.declared c = true → s.arm.owner = true →
      m.val < s.nMods → s.bswAllowed c m cell = true →
      Completes (.bswTestIssue c m cell) s [.snA, .snB] fun t =>
        (t.sen c).recs[m] =
          { (s.sen c).recs[m] with bswCell := some ((cell.map Fin.val).getD 0xFF), bswAt := some s.clock } ∧
        (t.sen c).srqQ = (s.sen c).srqQ ++ [(m, 5, [BitVec.ofNat 8 ((cell.map Fin.val).getD 0xFF)])])

/-- Ring ports: block lock, port up and down, HELLO, readmission and shim pings. From R38, R63, R66, R79, R91 of
spec/. Model choices and readings: log entries 16, 44. -/
def Obligations.RingPortsAndPings : Prop :=
  -- SPL_BLOCK_LOCK
  (∀ (s : State) (port : RPort), s.ringRuns = true → (s.port port).lock = true →
      Completes (.splBlockLock port true) s [.spl] fun t =>
        t.port port = s.port port ∧
        (∀ q, q ≠ port → t.port q = s.port q)) ∧
  (∀ (s : State) (port : RPort), s.ringRuns = true → (s.port port).lock = false →
      Completes (.splBlockLock port true) s [.spl, .outbox] fun t =>
        t.port port = { s.port port with lock := true, lockAt := s.clock } ∧
        (∀ q, q ≠ port → t.port q = s.port q) ∧
        t.outbox = .ordered port s.hello :: s.outbox) ∧
  (∀ (s : State) (port : RPort), s.ringRuns = true → (s.port port).isUp = true →
      Completes (.splBlockLock port false) s [.spl, .evt] fun t =>
        t.port port = { s.port port with
            isUp := false,
            hello := false,
            lockAt := s.clock,
            pingOpen := false,
            lock := false } ∧
        (∀ q, q ≠ port → t.port q = s.port q) ∧
        Logged s t 0xA102 port.num 0) ∧
  -- SPL_PORT_UP
  (∀ (s : State) (port : RPort), s.ringRuns = true → (s.port port).lock = true → (s.port port).hello = true →
      (s.port port).isUp = false → (s.port port).lockAt + msNs ≤ s.clock →
      Completes (.splPortUp port) s [.spl, .evt] fun t =>
        t.port port = { s.port port with isUp := true } ∧
        (∀ q, q ≠ port → t.port q = s.port q) ∧
        Logged s t 0xA103 port.num) ∧
  -- SPL_PORT_DOWN
  (∀ (s : State) (port : RPort) (cause : PortCause), s.ringRuns = true → (s.port port).isUp = true →
      cause ≠ .lockLoss → cause ≠ .queueBand →
      Completes (.splPortDown port cause) s [.spl, .evt] fun t =>
        t.port port = { s.port port with isUp := false, hello := false, lockAt := s.clock, pingOpen := false } ∧
        (∀ q, q ≠ port → t.port q = s.port q) ∧
        Logged s t 0xA102 port.num cause.num) ∧
  (∀ (s : State) (port : RPort), s.ringRuns = true → (s.port port).isUp = true →
      Completes (.splPortDown port .queueBand) s [.eng, .spl, .evt] fun t =>
        t.eng.dcqFlags = s.eng.dcqFlags ||| BitVec.ofNat 26 (2 ^ port.num) ∧
        t.port port = { s.port port with isUp := false, hello := false, lockAt := s.clock, pingOpen := false } ∧
        (∀ q, q ≠ port → t.port q = s.port q)) ∧
  (∀ (s : State) (port : RPort), s.ringRuns = true → (s.port port).isUp = false →
      Completes (.splPortDown port .syncErrors) s [.spl] fun t =>
        t.port port = { s.port port with lockAt := s.clock } ∧
        (∀ q, q ≠ port → t.port q = s.port q)) ∧
  -- HELLO_RX
  (∀ (s : State) (port : RPort) (x : OrdSet), s.ringRuns = true → (s.port port).lock = true → setOk x = true →
      Completes (.helloRx port x) s [.spl] fun t =>
        t.port port = { s.port port with
            hello := true,
            gw := x.d2 == 1,
            nbRing := x.ext.toNat / 65536,
            nbPos := x.d3.toNat } ∧
        (∀ q, q ≠ port → t.port q = s.port q)) ∧
  (∀ (s : State) (port : RPort) (x : OrdSet) (turn : Nat), s.ringRuns = true → (s.port port).lock = true →
      setOk x = false →
      ∀ i ∈ [.helloRx port x, .shimPingRx port x turn, .shimEchoRx port x turn, .urgentArmBlock port x,
      .urgentBypassAll port x, .urgentResume port x],
      Completes i s [.spl] fun t =>
        t.spl = { s.spl with cntLost := bump 8 s.spl.cntLost }) ∧
  -- PORT_READMIT
  (∀ (s : State) (port : RPort), (s.port port).isolated = true →
      (s.port port).isolatedAt + 100 * msNs ≤ s.clock →
      Completes (.portReadmit port) s [.spl, .evt] fun t =>
        t.port port = { s.port port with isolated := false, viols := [] } ∧
        (∀ q, q ≠ port → t.port q = s.port q) ∧
        Logged s t 0xA10D port.num) ∧
  -- SHIM_PING_TIMER
  (∀ (s : State), s.ringRuns = true →
      Completes .shimPingTimer s [.spl, .outbox] fun t =>
        (∀ p, t.port p = { s.port p with pingSeq := ((s.port p).pingSeq + 1) % 256, pingOpen := true }) ∧
        t.outbox = .ordered .w (orderedSet 0x10 0 (BitVec.ofNat 8 (((s.port .w).pingSeq + 1) % 256)) 0) ::
          .ordered .e (orderedSet 0x10 0 (BitVec.ofNat 8 (((s.port .e).pingSeq + 1) % 256)) 0) :: s.outbox) ∧
  -- SHIM_PING_RX
  (∀ (s : State) (port : RPort) (x : OrdSet) (ta : Nat), s.ringRuns = true → (s.port port).lock = true →
      setOk x = true → (s.port port).isUp = true →
      Completes (.shimPingRx port x ta) s [.outbox] fun t =>
        t.outbox = .ordered port (orderedSet 0x11 0 x.d3 (BitVec.ofNat 24 ta)) :: s.outbox) ∧
  -- SHIM_ECHO_RX
  (∀ (s : State) (port : RPort) (x : OrdSet) (rt : Nat), s.ringRuns = true → (s.port port).lock = true →
      setOk x = true → (s.port port).isUp = true → (s.port port).pingOpen = true →
      (s.port port).pingSeq = x.d3.toNat → (s.port port).shims.length < 15 →
      Completes (.shimEchoRx port x rt) s [.spl] fun t =>
        t.port port = { s.port port with
            pingOpen := false,
            shims := tdiv ((rt : Int) - x.ext.toNat) 2 :: (s.port port).shims } ∧
        (∀ q, q ≠ port → t.port q = s.port q)) ∧
  (∀ (s : State) (port : RPort) (x : OrdSet) (rt : Nat) (m : Int), s.ringRuns = true →
      (s.port port).lock = true → setOk x = true → (s.port port).isUp = true → (s.port port).pingOpen = true →
      (s.port port).pingSeq = x.d3.toNat → 15 ≤ (s.port port).shims.length →
      median ((tdiv ((rt : Int) - x.ext.toNat) 2 :: (s.port port).shims).take 16) = some m →
      (m < 0 ∨ 24000 < m) →
      Completes (.shimEchoRx port x rt) s [.spl, .evt] fun t =>
        (t.port port).isUp = false ∧
        (t.port port).hello = false ∧
        (t.port port).shims = (tdiv ((rt : Int) - x.ext.toNat) 2 :: (s.port port).shims).take 16 ∧
        (∀ q, q ≠ port → t.port q = s.port q) ∧
        t.evt = (logEvent (logEvent s 0xA111 port.num (lo16 (tdiv m 16))) 0xA102 port.num 3).evt)

/-- Urgent sets, forwarding and policing, and the device's own frames. From R68, R70, R71, R74, R77, R78, R91 of
spec/. Model choices and readings: log entries 16, 44. -/
def Obligations.RingFramesSent : Prop :=
  -- URGENT_ARM_BLOCK
  (∀ (s : State) (port : RPort) (x : OrdSet), s.ringRuns = true → (s.port port).lock = true → setOk x = true →
      (s.port port).isUp = true → s.spl.posValid = true → x.d2.toNat = s.spl.ring → x.d1.toNat = 1 →
      s.spl.ringReady = true → s.urgNewer x.ext.toNat = true → s.arm.bypassed = false →
      Completes (.urgentArmBlock port x) s [.spl, .arm, .glk, .chA, .chB, .snA, .snB, .thm, .lsw, .mnt, .evt,
        .outbox, .legs, .switch] fun t =>
        t.spl.urgLatch = .armBlock ∧
        t.spl.urgCode = 1 ∧
        t.spl.urgSeq = x.ext.toNat % 2 ^ 24 ∧
        ∀ l, (t.leg l).st = .hiZ) ∧
  (∀ (s : State) (port : RPort) (x : OrdSet), s.ringRuns = true → (s.port port).lock = true → setOk x = true →
      (s.port port).isUp = true → s.spl.posValid = true → x.d2.toNat = s.spl.ring →
      (s.spl.ringReady = false ∨ s.urgNewer x.ext.toNat = false) →
      (∀ u ∈ s.spl.urgFwd, u.toWest = (port.other == .w) → u.code = x.d1.toNat → u.seq = x.ext.toNat → u.when +
      100 * usNs ≤ s.clock) →
      Completes (.urgentArmBlock port x) s [.spl, .outbox] fun t =>
        t.outbox = .ordered port.other x :: s.outbox ∧
        t.spl.urgLatch = s.spl.urgLatch ∧
        t.spl.urgCode = s.spl.urgCode ∧
        t.spl.urgSeq = s.spl.urgSeq) ∧
  -- URGENT_BYPASS_ALL
  (∀ (s : State) (port : RPort) (x : OrdSet), s.ringRuns = true → (s.port port).lock = true → setOk x = true →
      (s.port port).isUp = true → s.spl.posValid = true → x.d2.toNat = s.spl.ring → x.d1.toNat = 2 →
      s.spl.ringReady = true → s.urgNewer x.ext.toNat = true → s.arm.bypassed = false →
      Completes (.urgentBypassAll port x) s [.spl, .arm, .glk, .chA, .chB, .snA, .snB, .thm, .lsw, .mnt, .evt,
        .outbox, .legs, .switch] fun t =>
        t.spl.urgLatch = .bypassAll ∧
        t.spl.urgCode = 2 ∧
        t.spl.urgSeq = x.ext.toNat % 2 ^ 24) ∧
  (∀ (s : State) (port : RPort) (x : OrdSet), s.ringRuns = true → (s.port port).lock = true → setOk x = true →
      (s.port port).isUp = true → s.spl.posValid = true → x.d2.toNat = s.spl.ring →
      (s.spl.ringReady = false ∨ s.urgNewer x.ext.toNat = false) →
      (∀ u ∈ s.spl.urgFwd, u.toWest = (port.other == .w) → u.code = x.d1.toNat → u.seq = x.ext.toNat → u.when +
      100 * usNs ≤ s.clock) →
      Completes (.urgentBypassAll port x) s [.spl, .outbox] fun t =>
        t.outbox = .ordered port.other x :: s.outbox ∧
        t.spl.urgLatch = s.spl.urgLatch ∧
        t.spl.urgCode = s.spl.urgCode ∧
        t.spl.urgSeq = s.spl.urgSeq) ∧
  -- URGENT_RESUME
  (∀ (s : State) (port : RPort) (x : OrdSet), s.ringRuns = true → (s.port port).lock = true → setOk x = true →
      (s.port port).isUp = true → s.spl.posValid = true → x.d2.toNat = s.spl.ring → x.d1.toNat = 3 →
      s.spl.ringReady = true → s.urgNewer x.ext.toNat = true →
      Completes (.urgentResume port x) s [.spl, .arm, .glk, .chA, .chB, .snA, .snB, .thm, .lsw, .mnt, .evt,
        .outbox, .legs, .switch] fun t =>
        t.spl.urgLatch = .none ∧
        t.spl.urgCode = 3 ∧
        t.spl.urgSeq = x.ext.toNat % 2 ^ 24) ∧
  (∀ (s : State) (port : RPort) (x : OrdSet), s.ringRuns = true → (s.port port).lock = true → setOk x = true →
      (s.port port).isUp = true → s.spl.posValid = true → x.d2.toNat = s.spl.ring →
      (s.spl.ringReady = false ∨ s.urgNewer x.ext.toNat = false) →
      (∀ u ∈ s.spl.urgFwd, u.toWest = (port.other == .w) → u.code = x.d1.toNat → u.seq = x.ext.toNat → u.when +
      100 * usNs ≤ s.clock) →
      Completes (.urgentResume port x) s [.spl, .outbox] fun t =>
        t.outbox = .ordered port.other x :: s.outbox ∧
        t.spl.urgLatch = s.spl.urgLatch ∧
        t.spl.urgCode = s.spl.urgCode ∧
        t.spl.urgSeq = s.spl.urgSeq) ∧
  -- FRAME_FORWARD
  (∀ (s : State) (port : RPort) (b : List Byte) (res : Nat), s.ringRuns = true → (s.port port).isUp = true →
      crcOk b = true → (s.tim.timeValid = true → s.policed port b = true) → s.passes port b = true →
      Completes (.frameForward port b res none) s [.spl, .outbox] fun t =>
        t.outbox = .forwarded port.other (forwardBytes true (res + (s.shimCode port).getD 0) b) :: s.outbox ∧
        t.spl.cntLost = s.spl.cntLost ∧
        (match port with | .e => t.spl.resE2W = (s.spl.resE2W.1 + res, s.spl.resE2W.2 + 1) | .w => t.spl.resW2E = (s.spl.resW2E.1 + res, s.spl.resW2E.2 + 1))) ∧
  (∀ (s : State) (port : RPort) (b : List Byte) (res : Nat), s.ringRuns = true → (s.port port).isUp = true →
      crcOk b = false → (s.tim.timeValid = true → s.policed port b = true) → s.passes port b = true →
      Completes (.frameForward port b res none) s [.spl, .outbox] fun t =>
        t.outbox = .forwarded port.other (forwardBytes false (res + (s.shimCode port).getD 0) b) :: s.outbox ∧
        t.spl.cntLost = bump 8 s.spl.cntLost) ∧
  (∀ (s : State) (port : RPort) (b : List Byte) (res : Nat), s.ringRuns = true → (s.port port).isUp = true →
      s.passes port b = false → (s.tim.timeValid = true → s.policed port b = true) →
      Completes (.frameForward port b res none) s [.spl] fun t =>
        t.spl.cntLost = (if crcOk b then s.spl.cntLost else bump 8 s.spl.cntLost)) ∧
  (∀ (s : State) (port : RPort) (b : List Byte) (res : Nat), s.ringRuns = true → (s.port port).isUp = true →
      s.tim.timeValid = true → s.policed port b = false →
      Completes (.frameForward port b res none) s [.spl, .evt, .outbox] fun t =>
        (t.port port).violSeen = true ∧
        (t.port port).violCount = bump 8 (s.port port).violCount ∧
        (t.port port).isolated = ((s.port port).isolated || decide (3 ≤ (s.clock :: (s.port port).viols.filter
          fun v => decide (s.clock < v + msNs)).length)) ∧
        (∀ q, q ≠ port → t.port q = s.port q) ∧
        t.outbox = (if s.passes port b then .forwarded port.other (failedPart b) :: s.outbox else s.outbox)) ∧
  (∀ (s : State) (port : RPort) (b : List Byte) (res k : Nat), s.ringRuns = true → (s.port port).isUp = true →
      Completes (.frameForward port b res (some k)) s [.eng, .spl, .evt, .outbox] fun t =>
        t.eng.dcqFlags = s.eng.dcqFlags ||| BitVec.ofNat 26 (2 ^ port.num) ∧
        t.port port = { s.port port with isUp := false, hello := false, lockAt := s.clock, pingOpen := false } ∧
        (∀ q, q ≠ port → t.port q = s.port q) ∧
        t.outbox = (if s.passes port b then .forwarded port.other
          ((forwardBytes (crcOk b) (res + (s.shimCode port).getD 0) b).take k) :: s.outbox else s.outbox)) ∧
  -- OWN_FRAME_FREEZE
  (∀ (s : State) (slot cycle : Nat) (sl : InlaySlot), s.transmits = true →
      (s.inlayFor (s.boundOf cycle)).slots[slot]? = some sl → sl.owner = s.spl.position →
      s.isBound (s.boundOf cycle) = true → s.spl.taken.contains (slot, s.boundOf cycle) = false →
      s.freezeAt (s.boundOf cycle) sl.start ≤ 16 * (s.tim.time : Int) →
      16 * (s.tim.time : Int) < s.freezeAt (s.boundOf cycle) sl.start + 16 → sl.cls = 1 →
      Completes (.ownFrameFreeze slot cycle true) s [.spl] fun t =>
        t.spl.frozen = s.spl.frozen ++ [{
            slot := slot,
            cls := 1,
            len := sl.len,
            start := sl.start,
            cycle := cycle,
            type := 2,
            status := some (s.ownStatus (s.boundOf cycle)) }] ∧
        t.spl.taken.contains (slot, s.boundOf cycle) = true) ∧
  (∀ (s : State) (slot cycle : Nat) (sl : InlaySlot), s.transmits = true →
      (s.inlayFor (s.boundOf cycle)).slots[slot]? = some sl → sl.owner = s.spl.position →
      s.isBound (s.boundOf cycle) = true → s.spl.taken.contains (slot, s.boundOf cycle) = false →
      s.freezeAt (s.boundOf cycle) sl.start ≤ 16 * (s.tim.time : Int) →
      16 * (s.tim.time : Int) < s.freezeAt (s.boundOf cycle) sl.start + 16 → sl.cls = 2 →
      Completes (.ownFrameFreeze slot cycle true) s [.spl] fun t =>
        t.spl.frozen = s.spl.frozen ++ [{
            slot := slot,
            cls := 2,
            len := sl.len,
            start := sl.start,
            cycle := cycle,
            type := 5,
            results := (takeAnswers s sl.len).1 }] ∧
        t.spl.ansRefused = s.spl.ansRefused.drop ((sl.len - 20) / 12)) ∧
  (∀ (s : State) (slot cycle : Nat) (sl : InlaySlot) (st off : Nat) (bytes : List Byte)
      (rest : List (Nat × Nat × List Byte)), s.transmits = true →
      (s.inlayFor (s.boundOf cycle)).slots[slot]? = some sl → sl.owner = s.spl.position →
      s.isBound (s.boundOf cycle) = true → s.spl.taken.contains (slot, s.boundOf cycle) = false →
      s.freezeAt (s.boundOf cycle) sl.start ≤ 16 * (s.tim.time : Int) →
      16 * (s.tim.time : Int) < s.freezeAt (s.boundOf cycle) sl.start + 16 → sl.cls = 3 →
      s.mnt.exportQ = (st, off, bytes) :: rest → chunkLen sl.len < bytes.length →
      Completes (.ownFrameFreeze slot cycle true) s [.spl, .mnt] fun t =>
        t.mnt = { s.mnt with exportQ := (st, off + chunkLen sl.len, bytes.drop (chunkLen sl.len)) :: rest } ∧
        t.spl.frozen = s.spl.frozen ++ [{
            slot := slot,
            cls := 3,
            len := sl.len,
            start := sl.start,
            cycle := cycle,
            type := 6,
            bulk := some (st, off, false, bytes.take (chunkLen sl.len)) }]) ∧
  (∀ (s : State) (slot cycle : Nat) (sl : InlaySlot), s.transmits = true →
      (s.inlayFor (s.boundOf cycle)).slots[slot]? = some sl → sl.owner = s.spl.position →
      s.isBound (s.boundOf cycle) = true → s.spl.taken.contains (slot, s.boundOf cycle) = false →
      s.freezeAt (s.boundOf cycle) sl.start ≤ 16 * (s.tim.time : Int) →
      16 * (s.tim.time : Int) < s.freezeAt (s.boundOf cycle) sl.start + 16 →
      Completes (.ownFrameFreeze slot cycle false) s [.spl, .evt] fun t =>
        t.spl.cntWithdrawn = bump 8 s.spl.cntWithdrawn ∧
        t.spl.frozen = s.spl.frozen ∧
        t.spl.taken.contains (slot, s.boundOf cycle) = true ∧
        Logged s t 0xA112 slot) ∧
  (∀ (s : State) (slot cycle : Nat) (complete : Bool) (sl : InlaySlot), s.transmits = true →
      (s.inlayFor (s.boundOf cycle)).slots[slot]? = some sl →
      (sl.owner ≠ s.spl.position ∨ s.isBound (s.boundOf cycle) = false ∨ s.spl.taken.contains
      (slot, s.boundOf cycle) = true ∨ s.freezeAt (s.boundOf cycle) sl.start + 16 ≤ 16 * (s.tim.time : Int)) →
      Completes (.ownFrameFreeze slot cycle complete) s [.spl] fun t =>
        t.spl = { s.spl with cntRefused := bump 8 s.spl.cntRefused }) ∧
  -- OWN_FRAME_LAUNCH
  (∀ (s : State) (port : RPort) (f : OwnFrame), (s.spl.frozen.find? fun x => x.awaits port) = some f →
      s.transmits = true → s.spl.guardCut = false → s.blocksOut port f = 0 →
      Completes (.ownFrameLaunch port) s [.spl, .outbox] fun t =>
        t.outbox = .ownFrame port (f.bytes s.deviceId) :: s.outbox ∧
        t.spl.frozen = markOut port s.spl.frozen) ∧
  (∀ (s : State) (port : RPort) (f : OwnFrame), (s.spl.frozen.find? fun x => x.awaits port) = some f →
      s.transmits = true → s.spl.guardCut = false → s.blocksOut port f = 1 → 0 ≤ s.lateness port f →
      Completes (.ownFrameLaunch port) s [.spl, .evt, .outbox] fun t =>
        t.spl.frozen = markOut port s.spl.frozen ∧
        t.spl.cntGuard = bump 8 s.spl.cntGuard ∧
        t.spl.guardCut = decide (3 ≤ (s.clock :: s.spl.guardHits.filter fun x => decide
          (s.clock < x + secNs)).length) ∧
        t.outbox = .ownFrame port (s.blocksSent port f) :: s.outbox) ∧
  (∀ (s : State) (port : RPort) (f : OwnFrame), (s.spl.frozen.find? fun x => x.awaits port) = some f →
      (s.transmits = false ∨ s.spl.guardCut = true) →
      Completes (.ownFrameLaunch port) s [.spl] fun t =>
        t.spl = { s.spl with frozen := markOut port s.spl.frozen })

/-- ARM_CYCLE, CELL_STATUS, ARM_SUMMARY and REG_REQ received, and the holdover of Spline time. From R64, R69, R82,
R84, R85, R86, R87, R106 of spec/. Model choices and readings: log entries 16, 44. -/
def Obligations.RingFramesReceived : Prop :=
  -- ARM_CYCLE_RX
  (∀ (s : State) (port : RPort) (b : List Byte) (f : ArmCycle), armOf b = some f → s.ringRuns = true →
      (s.port port).isUp = true → s.delivers port b = true →
      s.spl.armSeen.find? (fun x => x.1 = f.cycle) = none →
      Completes (.armCycleRx port b) s [.img, .spl, .tim, .arm, .glk, .chA, .chB, .snA, .snB, .thm, .prt, .lsw,
        .mnt, .evt, .legs, .raised, .switch] fun t =>
        t.spl.lastArm = some f) ∧
  (∀ (s : State) (port : RPort) (b : List Byte) (f : ArmCycle), armOf b = some f → s.ringRuns = true →
      (s.port port).isUp = true →
      (s.delivers port b = false ∨ ∃ g, s.spl.armSeen.find? (fun x => x.1 = f.cycle) = some g ∧ g.2 = armCommon
      b) →
      Completes (.armCycleRx port b) s [.img, .spl, .tim, .arm, .glk, .chA, .chB, .snA, .snB, .thm, .prt, .lsw,
        .mnt, .evt, .legs, .raised, .switch] fun t =>
        t.spl.lastArm = s.spl.lastArm ∧
        t.img = s.img ∧
        t.arm.modes = s.arm.modes ∧
        t.spl.urgLatch = s.spl.urgLatch) ∧
  (∀ (s : State) (port : RPort) (b : List Byte) (f : ArmCycle), armOf b = some f → s.ringRuns = true →
      (s.port port).isUp = true → s.delivers port b = true →
      s.spl.armSeen.find? (fun x => x.1 = f.cycle) = none → s.spl.posValid = false → s.spl.posConflict = false →
      f.ringSize ≠ 0 → f.ringSize ≤ 32 → f.hops < f.ringSize →
      ownsClass1 s.im.inlay (if f.fromWest then f.ringSize - 1 - f.hops else f.hops) = true →
      Completes (.armCycleRx port b) s [.img, .spl, .tim, .arm, .glk, .chA, .chB, .snA, .snB, .thm, .prt, .lsw,
        .mnt, .evt, .legs, .raised, .switch] fun t =>
        t.spl.posValid = true ∧
        t.spl.ring = f.ring ∧
        t.spl.size = f.ringSize ∧
        t.spl.position = (if f.fromWest then f.ringSize - 1 - f.hops else f.hops) ∧
        t.spl.lastArm = some f) ∧
  -- CELL_STATUS_RX
  (∀ (s : State) (port : RPort) (b : List Byte) (h : FrameHead) (x : CellStatus), statusOf b = some (h, x) →
      s.delivers port b = true → s.spl.posValid = true → h.src.getLsbD 15 = false →
      s.srcOwner h.src = some (h.src.toNat % 32) → h.src.toNat % 32 < s.spl.size →
      s.pubOf (h.src.toNat % 32) (s.boundOf h.cycle) = none →
      (s.dev.member = false ∨ h.src.toNat % 32 + 1 ≠ s.spl.position ∨ x.member = false) →
      Completes (.cellStatusRx port b) s [.img, .spl, .arm, .evt] fun t =>
        t.spl.pubs = { position := h.src.toNat % 32, cycle := s.boundOf h.cycle, body := some x } :: s.spl.pubs) ∧
  -- ARM_SUMMARY_RX
  (∀ (s : State) (port : RPort) (b : List Byte) (f : ArmSummary), summaryOf b = some f →
      s.delivers port b = true → s.seenCopy { type := 3, cycle := f.cycle } = false →
      Completes (.armSummaryRx port b) s [.spl] fun t =>
        t.spl.summary = some f ∧
        t.spl.copies = { type := 3, cycle := f.cycle } :: s.spl.copies.filter fun y => s.recent y.cycle) ∧
  (∀ (s : State) (port : RPort) (b : List Byte), s.delivers port b = false →
      ∀ i ∈ [.cellStatusRx port b, .armSummaryRx port b, .regReqRx port b],
      Completes i s [] fun t =>
        t = s) ∧
  -- REG_REQ_RX
  (∀ (s : State) (port : RPort) (b : List Byte) (h : FrameHead) (o : RegOp), regReqOf b = some (h, [o]) →
      s.delivers port b = true → s.spl.posValid = true → s.seenCopy (copyKey h) = false →
      (∀ e ∈ s.spl.reqSeen, e.1 ≠ h.cycle) → o.op ≠ 0#8 → o.dest.toNat % 8192 = s.deviceId → s.heldOps < 6 →
      Completes (.regReqRx port b) s [.spl] fun t =>
        t.spl.regQueue = s.spl.regQueue ++ [{ op := o }] ∧
        t.spl.ansRefused = s.spl.ansRefused) ∧
  (∀ (s : State) (port : RPort) (b : List Byte) (h : FrameHead) (o : RegOp), regReqOf b = some (h, [o]) →
      s.delivers port b = true → s.spl.posValid = true → s.seenCopy (copyKey h) = false →
      (∀ e ∈ s.spl.reqSeen, e.1 ≠ h.cycle) → o.op ≠ 0#8 → o.dest.toNat % 8192 = s.deviceId → 6 ≤ s.heldOps →
      Completes (.regReqRx port b) s [.spl] fun t =>
        t.spl.regQueue = s.spl.regQueue ∧
        (if (s.spl.refusals.filter fun c => c == h.cycle).length < 3 then t.spl.ansRefused = s.spl.ansRefused ++
          [{ tag := o.tag, status := 6#8, addr := o.addr, data := 0 }] ∧ t.spl.cntRefused = s.spl.cntRefused
          else t.spl.ansRefused = s.spl.ansRefused ∧ t.spl.cntRefused = bump 8 s.spl.cntRefused)) ∧
  -- HOLDOVER_ENTRY
  (∀ (s : State) (cause : HoldCause), s.ringRuns = true → s.tim.acquired = true → s.tim.holdover = false →
      (cause = .missingFrame → s.tim.lastCopy + s.cycleNs + 2000 ≤ s.clock) →
      (cause = .offset → 3 ≤ s.tim.bad) →
      Completes (.holdoverEntry cause) s [.tim, .evt] fun t =>
        t.tim = { s.tim with holdover := true, bad := 0 } ∧
        Logged s t 0xA106 (if cause = .missingFrame then 0 else 1)) ∧
  -- HOLDOVER_EXPIRY
  (∀ (s : State), s.tim.holdover = true → s.tim.validMod = true → s.tim.lastApplied + 200 * usNs ≤ s.clock →
      Completes .holdoverExpiry s [.tim, .arm, .evt] fun t =>
        t.tim = { s.tim with validMod := false, timeValid := false, needStep := true, good := 0 } ∧
        t.arm = { s.arm with modFell := true } ∧
        Logged s t 0xA107)

/-- Boot by the slot checks, ring-ready in simplex or bypassed, and the token wait of member B. From R15, R21, R60,
R61, R336 of spec/. Model choices and readings: log entries 6, 9, 10. -/
def Obligations.StartUpAndToken : Prop :=
  -- BOOT_SLOT_VERIFY_COMPLETE
  (∀ (s : State), s.dev.phase = .booting → s.est.writing = none →
      Completes .bootSlotVerifyComplete s [.phase, .dev, .eng, .slots, .image, .img, .spl, .arm, .glk, .chA,
        .chB, .snA, .snB, .esA, .esB, .est, .thm, .prt, .dvt, .lsw, .lbus, .pwr, .sec, .mnt, .evt, .outbox,
        .legs, .raised, .log, .shutdown] fun t =>
        t.sec.cntBoot = (s.sec.stored.1 + 1) % 2 ^ 32 ∧
        (bootCheck s s.img.activeSlot = none → t.dev.phase = .starting ∧ t.img =
          { s.img with active := some (imageOf (s.slotBytes s.img.activeSlot)), fallback := false } ∧ (∀ i : Fin
          8, t.eng.state[i] = if t.im.str.engineMask.getLsbD i.val && (i.val != 2 || t.declared .b) then (if
          s.eng.seLs && i == EngineId.se.idx then .halted else .running) else .off)) ∧
        (bootCheck s s.img.activeSlot ≠ none → bootCheck s (!s.img.activeSlot) = none → t.dev.phase = .starting
          ∧ t.img = { s.img with active := some (imageOf (s.slotBytes (!s.img.activeSlot))), fallback := true }
          ∧ (∀ i : Fin 8, t.eng.state[i] = if t.im.str.engineMask.getLsbD i.val && (i.val != 2 || t.declared .b)
          then (if s.eng.seLs && i == EngineId.se.idx then .halted else .running) else .off)) ∧
        (bootCheck s s.img.activeSlot ≠ none → bootCheck s (!s.img.activeSlot) ≠ none → t.dev.phase = .noImage ∧
          t.img = s.img ∧ t.sec.imgDigest = 0 ∧ t.sec.fwDigests = Vector.replicate 8 0)) ∧
  -- RING_READY
  (∀ (s : State), s.ringStarted = true → s.dev.bypStatLow = false → s.arm.roleClash = false → s.simplex = true →
      Completes .ringReady s [.phase, .dev, .spl, .cell, .token, .bypass, .arm, .pwm, .glk, .chA, .chB, .snA,
        .snB, .esA, .esB, .thm, .dvt, .lsw, .mnt, .evt, .outbox, .legs, .switch] fun t =>
        t.dev.phase = .ready ∧
        t.spl.ringReady = true ∧
        t.arm.owner = true ∧
        t.arm.bypassed = s.arm.bypassed) ∧
  (∀ (s : State), s.ringStarted = true → s.dev.bypStatLow = true → s.chainPair = false →
      Completes .ringReady s [.phase, .dev, .spl, .cell, .token, .bypass, .arm, .pwm, .glk, .chA, .chB, .snA,
        .snB, .esA, .esB, .thm, .dvt, .lsw, .mnt, .evt, .outbox, .legs, .switch] fun t =>
        t.dev.phase = .ready ∧
        t.arm.bypassed = true ∧
        t.arm.cell = .bypassed) ∧
  -- MEMBER_B_TOKEN_WAIT_EXPIRY
  (∀ (s : State) (t0 : Nat), s.dvt.waitTake = some t0 → t0 ≤ s.clock → s.dev.member = true →
      s.dev.phase = .ready → s.arm.owner = false →
      Completes .memberBTokenWaitExpiry s [.token, .arm, .glk, .chA, .chB, .snA, .snB, .thm, .dvt, .lsw, .mnt,
        .evt, .outbox] fun t =>
        t.arm.owner = true ∧
        t.dvt = { s.dvt with
            st := (if s.simplex then .simplex else .owning),
            waitTake := none,
            moveTime := s.tim.time,
            yielded := false })

/-- Copies of the event log, the end of each NVM write, and the event select. From R238, R263, R371, R373 of spec/.
Model choices and readings: log entry 10. -/
def Obligations.EventLogAndRecordWrites : Prop :=
  -- EVENT_LOG_COPY
  (∀ (s : State), s.heRuns = true → s.nvmFree = true → s.copyDue = true → s.est.stateDue = false →
      Completes .eventLogCopy s [.est] fun t =>
        t.est = { s.est with
            writing := some { kind := .event, began := s.clock, entries := s.evt.oldestPending 64 } }) ∧
  -- NVM_WRITE_COMPLETE
  (∀ (s : State) (w : NvmWrite), s.est.writing = some w → w.kind = .event → w.entries.length ≤ 64 →
      Completes .nvmWriteComplete s [.slots, .img, .est, .log, .evt] fun t =>
        t.est = { s.est with writing := none } ∧
        t.evt.sram = s.evt.sram ∧
        t.evt.pending = s.evt.pending - s.evt.stillHeld w.entries ∧
        t.evt.nvmPos = (s.evt.nvmPos + w.entries.length) % 16384 ∧
        w.entries <+: t.evt.nvm ∧
        (∀ b, t.slotHeld b = s.slotCells b) ∧
        t.img.waiting = []) ∧
  (∀ (s : State) (w : NvmWrite) (r : StateRec) (rs : List StateRec), s.est.writing = some w → w.kind = .state →
      s.est.recState = r :: rs →
      Completes .nvmWriteComplete s [.slots, .img, .est] fun t =>
        t.est.writing = none ∧
        t.est.recState.head? = some { r with valid := true } ∧
        t.est.erased = true ∧
        (∀ x, x ∈ t.est.recState → x = { r with valid := true } ∨ x ∈ rs) ∧
        (∀ b, t.slotHeld b = s.slotCells b) ∧
        t.img.waiting = []) ∧
  (∀ (s : State) (w : NvmWrite) (r : CountRec) (rs : List CountRec), s.est.writing = some w → w.kind = .count →
      s.est.recCount = r :: rs →
      Completes .nvmWriteComplete s [.slots, .img, .est] fun t =>
        t.est.writing = none ∧
        t.est.recCount.head? = some { r with valid := true } ∧
        (∀ x, x ∈ t.est.recCount → x = { r with valid := true } ∨ x ∈ rs) ∧
        (∀ b, t.slotHeld b = s.slotCells b) ∧
        t.img.waiting = []) ∧
  (∀ (s : State) (w : NvmWrite) (r : TillRec), s.est.writing = some w → w.kind = .till → w.till = some r →
      Completes .nvmWriteComplete s [.slots, .img, .est, .thm, .evt] fun t =>
        t.est = { s.est with writing := none } ∧
        t.thm.tills = s.thm.tills ++ [(s.thm.tillDue.find? fun x => x.seq == r.seq).getD r] ∧
        t.thm.tillDue = (s.thm.tillDue.filter fun x => x.seq != r.seq) ∧
        (∀ b, t.slotHeld b = s.slotCells b) ∧
        t.img.waiting = []) ∧
  -- EVT_SEL_WRITE
  (∀ (s : State) (p : Requester) (seq : BitVec 24), Granted s p .configure 0x00120010 →
      Completes (.evtSelWrite p seq) s [.evt, .outbox] fun t =>
        t.evt = { s.evt with sel := s.evt.sel.set p.idx seq.toNat } ∧
        Answered s t p 0)

/-- Scan steps, returning sensors, the end of shutdowns and the till records. From R251, R256, R262, R263 of spec/.
Model choices and readings: log entry 20. -/
def Obligations.ThermalScanAndShutdowns : Prop :=
  -- SCAN_STEP
  (∀ (s : State) (x : ScanInputs), s.heRuns = true →
      Completes (.scanStep x) s [.arm, .glk, .chA, .chB, .snA, .snB, .thm, .prt, .lsw, .mnt, .evt, .outbox,
        .legs, .raised, .shutdown] fun t =>
        t.thm.scan = t.nextScan ∧
        t.thm.held = t.pwr.s2) ∧
  -- SENSOR_RETURN
  (∀ (s : State) (c : ChainId) (m : Fin 32) (n : Fin 8) (t0 : Nat), s.heRuns = true → s.declared c = true →
      (s.tm c m).excl.getLsbD n.val = true → (s.tm c m).retAt[n] = some t0 →
      t0 + (if (s.tm c m).implaus.getLsbD n.val then secNs * s.im.plausTime else 10 * secNs) ≤ s.clock →
      Completes (.sensorReturn c m n) s [.thm, .evt] fun t =>
        t.tm c m = { s.tm c m with
            excl := (s.tm c m).excl &&& ~~~(BitVec.ofNat 8 (2 ^ n.val)),
            implaus := (s.tm c m).implaus &&& ~~~(BitVec.ofNat 8 (2 ^ n.val)),
            retAt := (s.tm c m).retAt.set n none,
            devAt := (s.tm c m).devAt.set n none } ∧
        (∀ k j, (k, j) ≠ (c, m) → t.tm k j = s.tm k j) ∧
        Logged s t 0x5004 m.val n.val) ∧
  -- COLD_SHUTDOWN_END
  (∀ (s : State) (c : ChainId) (t0 : Nat), s.heRuns = true → s.cold c = true →
      (c = .a → s.thm.relColdA = some t0) → (c = .b → s.thm.relColdB = some t0) →
      t0 + 60 * secNs * s.im.releaseTime ≤ s.clock →
      Completes (.coldShutdownEnd c) s [.thm, .prt, .lsw, .evt, .raised, .shutdown] fun t =>
        ∀ k, t.cold k = (s.cold k && !(k == c)) ∧
        t.hot k = s.hot k) ∧
  -- HOT_RELEASE_READY
  (∀ (s : State) (c : ChainId) (t0 : Nat), s.heRuns = true → s.hot c = true →
      (c = .a → s.thm.relHotA = some t0) → (c = .b → s.thm.relHotB = some t0) →
      t0 + 60 * secNs * s.im.releaseTime ≤ s.clock →
      Completes (.hotReleaseReady c) s [.thm] fun t =>
        t.thm = match c with | .a => { s.thm with readyA := true } | .b => { s.thm with readyB := true }) ∧
  -- THM_CLEAR_RELEASE
  (∀ (s : State) (c : ChainId), Granted s .service .clear 0x000B0078 → s.hot c = true →
      (c = .a → s.thm.readyA = true) → (c = .b → s.thm.readyB = true) →
      Completes (.thmClearRelease .service c) s [.thm, .prt, .lsw, .sec, .evt, .outbox, .raised, .shutdown] fun
        t =>
        (∀ k, t.hot k = (s.hot k && !(k == c)) ∧ t.cold k = s.cold k) ∧
        t.outbox.head? = some (.status .service 0)) ∧
  (∀ (s : State) (c : ChainId), Granted s .service .clear 0x000B0078 → s.hot c = false →
      Completes (.thmClearRelease .service c) s [.evt, .outbox] fun t =>
        Logged s t 0x500A c.num ∧
        Answered s t .service 4) ∧
  (∀ (s : State) (p : Requester) (c : ChainId), s.portOpen p = true → p ≠ .service →
      Completes (.thmClearRelease p c) s [.sec, .evt, .outbox] fun t =>
        t.sec.denied = bump 16 s.sec.denied ∧
        t.sec.deniedAddr = 0x000B0078 ∧
        t.outbox.head? = some (.status p 2)) ∧
  -- THM_CLEAR_ERASE
  (∀ (s : State), Granted s .service .clear 0x000B0078 →
      Completes (.thmClearErase .service) s [.thm, .evt, .outbox] fun t =>
        Answered s t .service 0 ∧
        (∀ r : TillRec, r ∈ t.thm.tills ↔ r ∈ s.thm.tills ∧ s.tillInForce r = true) ∧
        Logged s t 0x500C (s.thm.tills.filter fun r => !s.tillInForce r).length) ∧
  -- TILL_RECORD_WRITE
  (∀ (s : State) (r : TillRec) (rs : List TillRec), s.thm.tillDue = r :: rs → s.nvmFree = true →
      Completes .tillRecordWrite s [.est] fun t =>
        t.est = { s.est with writing := some { kind := .till, began := s.clock, till := some r } })

/-- Heaters switch on 100 ms apart, and are forced and released by command. From R259, R260 of spec/. Model choices
and readings: log entry 20. -/
def Obligations.HeaterControl : Prop :=
  -- HEATER_STAGGER
  (∀ (s : State) (n : Fin 12) (ns : List (Fin 12)), s.heRuns = true → s.thm.heatDue ≠ [] →
      s.mnt.heatTest = none → s.heatersDue = n :: ns →
      (∀ t0, s.thm.heatLast = some t0 → t0 + 100 * msNs ≤ s.clock) →
      Completes .heaterStagger s [.thm, .lsw, .evt] fun t =>
        t.thm.heat = s.thm.heat.set n (s.heatGoal n) ∧
        t.thm.heatDue = ns ∧
        t.thm.heatLast = some s.clock ∧
        t.lsw.ch[n].want = true) ∧
  (∀ (s : State) (n : Fin 12) (ns : List (Fin 12)) (t0 : Nat), s.heRuns = true → s.thm.heatDue ≠ [] →
      s.mnt.heatTest = none → s.heatersDue = n :: ns → s.thm.heatLast = some t0 → s.clock < t0 + 100 * msNs →
      Completes .heaterStagger s [.thm] fun t =>
        t.thm = { s.thm with heatDue := n :: ns }) ∧
  -- THM_HEAT_CMD
  (∀ (s : State) (p : Requester) (n : Fin 12) (action : Nat), Granted s p .operate 0x000B0074 →
      s.lswClass n = 3 → action < 3 → s.locks.getLsbD 6 = false →
      Completes (.thmHeatCmd p (n.val + 1) action) s [.thm, .lsw, .evt, .outbox] fun t =>
        t.thm.heatForce = s.thm.heatForce.set n (if action = 0 then none else some
          (action == 1, s.clock + secNs * s.im.heatOverride)) ∧
        t.outbox.head? = some (.status p 0)) ∧
  (∀ (s : State) (p : Requester) (n : Fin 12) (action : Nat), Granted s p .operate 0x000B0074 →
      s.lswClass n = 3 → action < 3 → s.locks.getLsbD 6 = false → s.heRuns = false →
      Completes (.thmHeatCmd p (n.val + 1) action) s [.thm, .outbox] fun t =>
        Answered s t p 0 ∧
        t.thm = { s.thm with
            heatForce := s.thm.heatForce.set n (if action = 0 then none else some
              (action == 1, s.clock + secNs * s.im.heatOverride)) }) ∧
  (∀ (s : State) (p : Requester) (ch action : Nat), Granted s p .operate 0x000B0074 → (ch = 0 ∨ 12 < ch) →
      Completes (.thmHeatCmd p ch action) s [.outbox] fun t =>
        Answered s t p 7) ∧
  -- HEAT_OVERRIDE_EXPIRY
  (∀ (s : State) (n : Fin 12) (f : Bool) (t0 : Nat), s.heRuns = true → s.thm.heatForce[n] = some (f, t0) →
      t0 ≤ s.clock →
      Completes (.heatOverrideExpiry n) s [.thm, .lsw, .evt] fun t =>
        t.thm.heatForce = s.thm.heatForce.set n none)

end
end

