-- ==== Sys2Proof/Laws/State.lean ====
section
/-! SUPPORT. One lemma per field per update of the state, each true by unfolding. -/

set_option Elab.async false

namespace Sys2Proof.Machine

variable (s : State)

@[simp] theorem State.onDev_dev (f : Dev → Dev) : (s.onDev f).dev = f s.dev := rfl
@[simp] theorem State.onDev_eng (f : Dev → Dev) : (s.onDev f).eng = s.eng := rfl
@[simp] theorem State.onDev_img (f : Dev → Dev) : (s.onDev f).img = s.img := rfl
@[simp] theorem State.onDev_spl (f : Dev → Dev) : (s.onDev f).spl = s.spl := rfl
@[simp] theorem State.onDev_tim (f : Dev → Dev) : (s.onDev f).tim = s.tim := rfl
@[simp] theorem State.onDev_meas (f : Dev → Dev) : (s.onDev f).meas = s.meas := rfl
@[simp] theorem State.onDev_arm (f : Dev → Dev) : (s.onDev f).arm = s.arm := rfl
@[simp] theorem State.onDev_pwm (f : Dev → Dev) : (s.onDev f).pwm = s.pwm := rfl
@[simp] theorem State.onDev_glk (f : Dev → Dev) : (s.onDev f).glk = s.glk := rfl
@[simp] theorem State.onDev_chA (f : Dev → Dev) : (s.onDev f).chA = s.chA := rfl
@[simp] theorem State.onDev_chB (f : Dev → Dev) : (s.onDev f).chB = s.chB := rfl
@[simp] theorem State.onDev_snA (f : Dev → Dev) : (s.onDev f).snA = s.snA := rfl
@[simp] theorem State.onDev_snB (f : Dev → Dev) : (s.onDev f).snB = s.snB := rfl
@[simp] theorem State.onDev_esA (f : Dev → Dev) : (s.onDev f).esA = s.esA := rfl
@[simp] theorem State.onDev_esB (f : Dev → Dev) : (s.onDev f).esB = s.esB := rfl
@[simp] theorem State.onDev_est (f : Dev → Dev) : (s.onDev f).est = s.est := rfl
@[simp] theorem State.onDev_thm (f : Dev → Dev) : (s.onDev f).thm = s.thm := rfl
@[simp] theorem State.onDev_prt (f : Dev → Dev) : (s.onDev f).prt = s.prt := rfl
@[simp] theorem State.onDev_dvt (f : Dev → Dev) : (s.onDev f).dvt = s.dvt := rfl
@[simp] theorem State.onDev_lsw (f : Dev → Dev) : (s.onDev f).lsw = s.lsw := rfl
@[simp] theorem State.onDev_lbus (f : Dev → Dev) : (s.onDev f).lbus = s.lbus := rfl
@[simp] theorem State.onDev_pwr (f : Dev → Dev) : (s.onDev f).pwr = s.pwr := rfl
@[simp] theorem State.onDev_sec (f : Dev → Dev) : (s.onDev f).sec = s.sec := rfl
@[simp] theorem State.onDev_mnt (f : Dev → Dev) : (s.onDev f).mnt = s.mnt := rfl
@[simp] theorem State.onDev_evt (f : Dev → Dev) : (s.onDev f).evt = s.evt := rfl
@[simp] theorem State.onDev_req (f : Dev → Dev) : (s.onDev f).req = s.req := rfl
@[simp] theorem State.onDev_clock (f : Dev → Dev) : (s.onDev f).clock = s.clock := rfl
@[simp] theorem State.onDev_free (f : Dev → Dev) : (s.onDev f).free = s.free := rfl
@[simp] theorem State.onDev_outbox (f : Dev → Dev) : (s.onDev f).outbox = s.outbox := rfl
@[simp] theorem State.onDev_pending (f : Dev → Dev) : (s.onDev f).pending = s.pending := rfl
@[simp] theorem State.onEng_dev (f : Eng → Eng) : (s.onEng f).dev = s.dev := rfl
@[simp] theorem State.onEng_eng (f : Eng → Eng) : (s.onEng f).eng = f s.eng := rfl
@[simp] theorem State.onEng_img (f : Eng → Eng) : (s.onEng f).img = s.img := rfl
@[simp] theorem State.onEng_spl (f : Eng → Eng) : (s.onEng f).spl = s.spl := rfl
@[simp] theorem State.onEng_tim (f : Eng → Eng) : (s.onEng f).tim = s.tim := rfl
@[simp] theorem State.onEng_meas (f : Eng → Eng) : (s.onEng f).meas = s.meas := rfl
@[simp] theorem State.onEng_arm (f : Eng → Eng) : (s.onEng f).arm = s.arm := rfl
@[simp] theorem State.onEng_pwm (f : Eng → Eng) : (s.onEng f).pwm = s.pwm := rfl
@[simp] theorem State.onEng_glk (f : Eng → Eng) : (s.onEng f).glk = s.glk := rfl
@[simp] theorem State.onEng_chA (f : Eng → Eng) : (s.onEng f).chA = s.chA := rfl
@[simp] theorem State.onEng_chB (f : Eng → Eng) : (s.onEng f).chB = s.chB := rfl
@[simp] theorem State.onEng_snA (f : Eng → Eng) : (s.onEng f).snA = s.snA := rfl
@[simp] theorem State.onEng_snB (f : Eng → Eng) : (s.onEng f).snB = s.snB := rfl
@[simp] theorem State.onEng_esA (f : Eng → Eng) : (s.onEng f).esA = s.esA := rfl
@[simp] theorem State.onEng_esB (f : Eng → Eng) : (s.onEng f).esB = s.esB := rfl
@[simp] theorem State.onEng_est (f : Eng → Eng) : (s.onEng f).est = s.est := rfl
@[simp] theorem State.onEng_thm (f : Eng → Eng) : (s.onEng f).thm = s.thm := rfl
@[simp] theorem State.onEng_prt (f : Eng → Eng) : (s.onEng f).prt = s.prt := rfl
@[simp] theorem State.onEng_dvt (f : Eng → Eng) : (s.onEng f).dvt = s.dvt := rfl
@[simp] theorem State.onEng_lsw (f : Eng → Eng) : (s.onEng f).lsw = s.lsw := rfl
@[simp] theorem State.onEng_lbus (f : Eng → Eng) : (s.onEng f).lbus = s.lbus := rfl
@[simp] theorem State.onEng_pwr (f : Eng → Eng) : (s.onEng f).pwr = s.pwr := rfl
@[simp] theorem State.onEng_sec (f : Eng → Eng) : (s.onEng f).sec = s.sec := rfl
@[simp] theorem State.onEng_mnt (f : Eng → Eng) : (s.onEng f).mnt = s.mnt := rfl
@[simp] theorem State.onEng_evt (f : Eng → Eng) : (s.onEng f).evt = s.evt := rfl
@[simp] theorem State.onEng_req (f : Eng → Eng) : (s.onEng f).req = s.req := rfl
@[simp] theorem State.onEng_clock (f : Eng → Eng) : (s.onEng f).clock = s.clock := rfl
@[simp] theorem State.onEng_free (f : Eng → Eng) : (s.onEng f).free = s.free := rfl
@[simp] theorem State.onEng_outbox (f : Eng → Eng) : (s.onEng f).outbox = s.outbox := rfl
@[simp] theorem State.onEng_pending (f : Eng → Eng) : (s.onEng f).pending = s.pending := rfl
@[simp] theorem State.onImg_dev (f : Img → Img) : (s.onImg f).dev = s.dev := rfl
@[simp] theorem State.onImg_eng (f : Img → Img) : (s.onImg f).eng = s.eng := rfl
@[simp] theorem State.onImg_img (f : Img → Img) : (s.onImg f).img = f s.img := rfl
@[simp] theorem State.onImg_spl (f : Img → Img) : (s.onImg f).spl = s.spl := rfl
@[simp] theorem State.onImg_tim (f : Img → Img) : (s.onImg f).tim = s.tim := rfl
@[simp] theorem State.onImg_meas (f : Img → Img) : (s.onImg f).meas = s.meas := rfl
@[simp] theorem State.onImg_arm (f : Img → Img) : (s.onImg f).arm = s.arm := rfl
@[simp] theorem State.onImg_pwm (f : Img → Img) : (s.onImg f).pwm = s.pwm := rfl
@[simp] theorem State.onImg_glk (f : Img → Img) : (s.onImg f).glk = s.glk := rfl
@[simp] theorem State.onImg_chA (f : Img → Img) : (s.onImg f).chA = s.chA := rfl
@[simp] theorem State.onImg_chB (f : Img → Img) : (s.onImg f).chB = s.chB := rfl
@[simp] theorem State.onImg_snA (f : Img → Img) : (s.onImg f).snA = s.snA := rfl
@[simp] theorem State.onImg_snB (f : Img → Img) : (s.onImg f).snB = s.snB := rfl
@[simp] theorem State.onImg_esA (f : Img → Img) : (s.onImg f).esA = s.esA := rfl
@[simp] theorem State.onImg_esB (f : Img → Img) : (s.onImg f).esB = s.esB := rfl
@[simp] theorem State.onImg_est (f : Img → Img) : (s.onImg f).est = s.est := rfl
@[simp] theorem State.onImg_thm (f : Img → Img) : (s.onImg f).thm = s.thm := rfl
@[simp] theorem State.onImg_prt (f : Img → Img) : (s.onImg f).prt = s.prt := rfl
@[simp] theorem State.onImg_dvt (f : Img → Img) : (s.onImg f).dvt = s.dvt := rfl
@[simp] theorem State.onImg_lsw (f : Img → Img) : (s.onImg f).lsw = s.lsw := rfl
@[simp] theorem State.onImg_lbus (f : Img → Img) : (s.onImg f).lbus = s.lbus := rfl
@[simp] theorem State.onImg_pwr (f : Img → Img) : (s.onImg f).pwr = s.pwr := rfl
@[simp] theorem State.onImg_sec (f : Img → Img) : (s.onImg f).sec = s.sec := rfl
@[simp] theorem State.onImg_mnt (f : Img → Img) : (s.onImg f).mnt = s.mnt := rfl
@[simp] theorem State.onImg_evt (f : Img → Img) : (s.onImg f).evt = s.evt := rfl
@[simp] theorem State.onImg_req (f : Img → Img) : (s.onImg f).req = s.req := rfl
@[simp] theorem State.onImg_clock (f : Img → Img) : (s.onImg f).clock = s.clock := rfl
@[simp] theorem State.onImg_free (f : Img → Img) : (s.onImg f).free = s.free := rfl
@[simp] theorem State.onImg_outbox (f : Img → Img) : (s.onImg f).outbox = s.outbox := rfl
@[simp] theorem State.onImg_pending (f : Img → Img) : (s.onImg f).pending = s.pending := rfl
@[simp] theorem State.onSpl_dev (f : Spl → Spl) : (s.onSpl f).dev = s.dev := rfl
@[simp] theorem State.onSpl_eng (f : Spl → Spl) : (s.onSpl f).eng = s.eng := rfl
@[simp] theorem State.onSpl_img (f : Spl → Spl) : (s.onSpl f).img = s.img := rfl
@[simp] theorem State.onSpl_spl (f : Spl → Spl) : (s.onSpl f).spl = f s.spl := rfl
@[simp] theorem State.onSpl_tim (f : Spl → Spl) : (s.onSpl f).tim = s.tim := rfl
@[simp] theorem State.onSpl_meas (f : Spl → Spl) : (s.onSpl f).meas = s.meas := rfl
@[simp] theorem State.onSpl_arm (f : Spl → Spl) : (s.onSpl f).arm = s.arm := rfl
@[simp] theorem State.onSpl_pwm (f : Spl → Spl) : (s.onSpl f).pwm = s.pwm := rfl
@[simp] theorem State.onSpl_glk (f : Spl → Spl) : (s.onSpl f).glk = s.glk := rfl
@[simp] theorem State.onSpl_chA (f : Spl → Spl) : (s.onSpl f).chA = s.chA := rfl
@[simp] theorem State.onSpl_chB (f : Spl → Spl) : (s.onSpl f).chB = s.chB := rfl
@[simp] theorem State.onSpl_snA (f : Spl → Spl) : (s.onSpl f).snA = s.snA := rfl
@[simp] theorem State.onSpl_snB (f : Spl → Spl) : (s.onSpl f).snB = s.snB := rfl
@[simp] theorem State.onSpl_esA (f : Spl → Spl) : (s.onSpl f).esA = s.esA := rfl
@[simp] theorem State.onSpl_esB (f : Spl → Spl) : (s.onSpl f).esB = s.esB := rfl
@[simp] theorem State.onSpl_est (f : Spl → Spl) : (s.onSpl f).est = s.est := rfl
@[simp] theorem State.onSpl_thm (f : Spl → Spl) : (s.onSpl f).thm = s.thm := rfl
@[simp] theorem State.onSpl_prt (f : Spl → Spl) : (s.onSpl f).prt = s.prt := rfl
@[simp] theorem State.onSpl_dvt (f : Spl → Spl) : (s.onSpl f).dvt = s.dvt := rfl
@[simp] theorem State.onSpl_lsw (f : Spl → Spl) : (s.onSpl f).lsw = s.lsw := rfl
@[simp] theorem State.onSpl_lbus (f : Spl → Spl) : (s.onSpl f).lbus = s.lbus := rfl
@[simp] theorem State.onSpl_pwr (f : Spl → Spl) : (s.onSpl f).pwr = s.pwr := rfl
@[simp] theorem State.onSpl_sec (f : Spl → Spl) : (s.onSpl f).sec = s.sec := rfl
@[simp] theorem State.onSpl_mnt (f : Spl → Spl) : (s.onSpl f).mnt = s.mnt := rfl
@[simp] theorem State.onSpl_evt (f : Spl → Spl) : (s.onSpl f).evt = s.evt := rfl
@[simp] theorem State.onSpl_req (f : Spl → Spl) : (s.onSpl f).req = s.req := rfl
@[simp] theorem State.onSpl_clock (f : Spl → Spl) : (s.onSpl f).clock = s.clock := rfl
@[simp] theorem State.onSpl_free (f : Spl → Spl) : (s.onSpl f).free = s.free := rfl
@[simp] theorem State.onSpl_outbox (f : Spl → Spl) : (s.onSpl f).outbox = s.outbox := rfl
@[simp] theorem State.onSpl_pending (f : Spl → Spl) : (s.onSpl f).pending = s.pending := rfl
@[simp] theorem State.onTim_dev (f : Tim → Tim) : (s.onTim f).dev = s.dev := rfl
@[simp] theorem State.onTim_eng (f : Tim → Tim) : (s.onTim f).eng = s.eng := rfl
@[simp] theorem State.onTim_img (f : Tim → Tim) : (s.onTim f).img = s.img := rfl
@[simp] theorem State.onTim_spl (f : Tim → Tim) : (s.onTim f).spl = s.spl := rfl
@[simp] theorem State.onTim_tim (f : Tim → Tim) : (s.onTim f).tim = f s.tim := rfl
@[simp] theorem State.onTim_meas (f : Tim → Tim) : (s.onTim f).meas = s.meas := rfl
@[simp] theorem State.onTim_arm (f : Tim → Tim) : (s.onTim f).arm = s.arm := rfl
@[simp] theorem State.onTim_pwm (f : Tim → Tim) : (s.onTim f).pwm = s.pwm := rfl
@[simp] theorem State.onTim_glk (f : Tim → Tim) : (s.onTim f).glk = s.glk := rfl
@[simp] theorem State.onTim_chA (f : Tim → Tim) : (s.onTim f).chA = s.chA := rfl
@[simp] theorem State.onTim_chB (f : Tim → Tim) : (s.onTim f).chB = s.chB := rfl
@[simp] theorem State.onTim_snA (f : Tim → Tim) : (s.onTim f).snA = s.snA := rfl
@[simp] theorem State.onTim_snB (f : Tim → Tim) : (s.onTim f).snB = s.snB := rfl
@[simp] theorem State.onTim_esA (f : Tim → Tim) : (s.onTim f).esA = s.esA := rfl
@[simp] theorem State.onTim_esB (f : Tim → Tim) : (s.onTim f).esB = s.esB := rfl
@[simp] theorem State.onTim_est (f : Tim → Tim) : (s.onTim f).est = s.est := rfl
@[simp] theorem State.onTim_thm (f : Tim → Tim) : (s.onTim f).thm = s.thm := rfl
@[simp] theorem State.onTim_prt (f : Tim → Tim) : (s.onTim f).prt = s.prt := rfl
@[simp] theorem State.onTim_dvt (f : Tim → Tim) : (s.onTim f).dvt = s.dvt := rfl
@[simp] theorem State.onTim_lsw (f : Tim → Tim) : (s.onTim f).lsw = s.lsw := rfl
@[simp] theorem State.onTim_lbus (f : Tim → Tim) : (s.onTim f).lbus = s.lbus := rfl
@[simp] theorem State.onTim_pwr (f : Tim → Tim) : (s.onTim f).pwr = s.pwr := rfl
@[simp] theorem State.onTim_sec (f : Tim → Tim) : (s.onTim f).sec = s.sec := rfl
@[simp] theorem State.onTim_mnt (f : Tim → Tim) : (s.onTim f).mnt = s.mnt := rfl
@[simp] theorem State.onTim_evt (f : Tim → Tim) : (s.onTim f).evt = s.evt := rfl
@[simp] theorem State.onTim_req (f : Tim → Tim) : (s.onTim f).req = s.req := rfl
@[simp] theorem State.onTim_clock (f : Tim → Tim) : (s.onTim f).clock = s.clock := rfl
@[simp] theorem State.onTim_free (f : Tim → Tim) : (s.onTim f).free = s.free := rfl
@[simp] theorem State.onTim_outbox (f : Tim → Tim) : (s.onTim f).outbox = s.outbox := rfl
@[simp] theorem State.onTim_pending (f : Tim → Tim) : (s.onTim f).pending = s.pending := rfl
@[simp] theorem State.onMeas_dev (f : Meas → Meas) : (s.onMeas f).dev = s.dev := rfl
@[simp] theorem State.onMeas_eng (f : Meas → Meas) : (s.onMeas f).eng = s.eng := rfl
@[simp] theorem State.onMeas_img (f : Meas → Meas) : (s.onMeas f).img = s.img := rfl
@[simp] theorem State.onMeas_spl (f : Meas → Meas) : (s.onMeas f).spl = s.spl := rfl
@[simp] theorem State.onMeas_tim (f : Meas → Meas) : (s.onMeas f).tim = s.tim := rfl
@[simp] theorem State.onMeas_meas (f : Meas → Meas) : (s.onMeas f).meas = f s.meas := rfl
@[simp] theorem State.onMeas_arm (f : Meas → Meas) : (s.onMeas f).arm = s.arm := rfl
@[simp] theorem State.onMeas_pwm (f : Meas → Meas) : (s.onMeas f).pwm = s.pwm := rfl
@[simp] theorem State.onMeas_glk (f : Meas → Meas) : (s.onMeas f).glk = s.glk := rfl
@[simp] theorem State.onMeas_chA (f : Meas → Meas) : (s.onMeas f).chA = s.chA := rfl
@[simp] theorem State.onMeas_chB (f : Meas → Meas) : (s.onMeas f).chB = s.chB := rfl
@[simp] theorem State.onMeas_snA (f : Meas → Meas) : (s.onMeas f).snA = s.snA := rfl
@[simp] theorem State.onMeas_snB (f : Meas → Meas) : (s.onMeas f).snB = s.snB := rfl
@[simp] theorem State.onMeas_esA (f : Meas → Meas) : (s.onMeas f).esA = s.esA := rfl
@[simp] theorem State.onMeas_esB (f : Meas → Meas) : (s.onMeas f).esB = s.esB := rfl
@[simp] theorem State.onMeas_est (f : Meas → Meas) : (s.onMeas f).est = s.est := rfl
@[simp] theorem State.onMeas_thm (f : Meas → Meas) : (s.onMeas f).thm = s.thm := rfl
@[simp] theorem State.onMeas_prt (f : Meas → Meas) : (s.onMeas f).prt = s.prt := rfl
@[simp] theorem State.onMeas_dvt (f : Meas → Meas) : (s.onMeas f).dvt = s.dvt := rfl
@[simp] theorem State.onMeas_lsw (f : Meas → Meas) : (s.onMeas f).lsw = s.lsw := rfl
@[simp] theorem State.onMeas_lbus (f : Meas → Meas) : (s.onMeas f).lbus = s.lbus := rfl
@[simp] theorem State.onMeas_pwr (f : Meas → Meas) : (s.onMeas f).pwr = s.pwr := rfl
@[simp] theorem State.onMeas_sec (f : Meas → Meas) : (s.onMeas f).sec = s.sec := rfl
@[simp] theorem State.onMeas_mnt (f : Meas → Meas) : (s.onMeas f).mnt = s.mnt := rfl
@[simp] theorem State.onMeas_evt (f : Meas → Meas) : (s.onMeas f).evt = s.evt := rfl
@[simp] theorem State.onMeas_req (f : Meas → Meas) : (s.onMeas f).req = s.req := rfl
@[simp] theorem State.onMeas_clock (f : Meas → Meas) : (s.onMeas f).clock = s.clock := rfl
@[simp] theorem State.onMeas_free (f : Meas → Meas) : (s.onMeas f).free = s.free := rfl
@[simp] theorem State.onMeas_outbox (f : Meas → Meas) : (s.onMeas f).outbox = s.outbox := rfl
@[simp] theorem State.onMeas_pending (f : Meas → Meas) : (s.onMeas f).pending = s.pending := rfl
@[simp] theorem State.onArm_dev (f : Arm → Arm) : (s.onArm f).dev = s.dev := rfl
@[simp] theorem State.onArm_eng (f : Arm → Arm) : (s.onArm f).eng = s.eng := rfl
@[simp] theorem State.onArm_img (f : Arm → Arm) : (s.onArm f).img = s.img := rfl
@[simp] theorem State.onArm_spl (f : Arm → Arm) : (s.onArm f).spl = s.spl := rfl
@[simp] theorem State.onArm_tim (f : Arm → Arm) : (s.onArm f).tim = s.tim := rfl
@[simp] theorem State.onArm_meas (f : Arm → Arm) : (s.onArm f).meas = s.meas := rfl
@[simp] theorem State.onArm_arm (f : Arm → Arm) : (s.onArm f).arm = f s.arm := rfl
@[simp] theorem State.onArm_pwm (f : Arm → Arm) : (s.onArm f).pwm = s.pwm := rfl
@[simp] theorem State.onArm_glk (f : Arm → Arm) : (s.onArm f).glk = s.glk := rfl
@[simp] theorem State.onArm_chA (f : Arm → Arm) : (s.onArm f).chA = s.chA := rfl
@[simp] theorem State.onArm_chB (f : Arm → Arm) : (s.onArm f).chB = s.chB := rfl
@[simp] theorem State.onArm_snA (f : Arm → Arm) : (s.onArm f).snA = s.snA := rfl
@[simp] theorem State.onArm_snB (f : Arm → Arm) : (s.onArm f).snB = s.snB := rfl
@[simp] theorem State.onArm_esA (f : Arm → Arm) : (s.onArm f).esA = s.esA := rfl
@[simp] theorem State.onArm_esB (f : Arm → Arm) : (s.onArm f).esB = s.esB := rfl
@[simp] theorem State.onArm_est (f : Arm → Arm) : (s.onArm f).est = s.est := rfl
@[simp] theorem State.onArm_thm (f : Arm → Arm) : (s.onArm f).thm = s.thm := rfl
@[simp] theorem State.onArm_prt (f : Arm → Arm) : (s.onArm f).prt = s.prt := rfl
@[simp] theorem State.onArm_dvt (f : Arm → Arm) : (s.onArm f).dvt = s.dvt := rfl
@[simp] theorem State.onArm_lsw (f : Arm → Arm) : (s.onArm f).lsw = s.lsw := rfl
@[simp] theorem State.onArm_lbus (f : Arm → Arm) : (s.onArm f).lbus = s.lbus := rfl
@[simp] theorem State.onArm_pwr (f : Arm → Arm) : (s.onArm f).pwr = s.pwr := rfl
@[simp] theorem State.onArm_sec (f : Arm → Arm) : (s.onArm f).sec = s.sec := rfl
@[simp] theorem State.onArm_mnt (f : Arm → Arm) : (s.onArm f).mnt = s.mnt := rfl
@[simp] theorem State.onArm_evt (f : Arm → Arm) : (s.onArm f).evt = s.evt := rfl
@[simp] theorem State.onArm_req (f : Arm → Arm) : (s.onArm f).req = s.req := rfl
@[simp] theorem State.onArm_clock (f : Arm → Arm) : (s.onArm f).clock = s.clock := rfl
@[simp] theorem State.onArm_free (f : Arm → Arm) : (s.onArm f).free = s.free := rfl
@[simp] theorem State.onArm_outbox (f : Arm → Arm) : (s.onArm f).outbox = s.outbox := rfl
@[simp] theorem State.onArm_pending (f : Arm → Arm) : (s.onArm f).pending = s.pending := rfl
@[simp] theorem State.onPwm_dev (f : Pwm → Pwm) : (s.onPwm f).dev = s.dev := rfl
@[simp] theorem State.onPwm_eng (f : Pwm → Pwm) : (s.onPwm f).eng = s.eng := rfl
@[simp] theorem State.onPwm_img (f : Pwm → Pwm) : (s.onPwm f).img = s.img := rfl
@[simp] theorem State.onPwm_spl (f : Pwm → Pwm) : (s.onPwm f).spl = s.spl := rfl
@[simp] theorem State.onPwm_tim (f : Pwm → Pwm) : (s.onPwm f).tim = s.tim := rfl
@[simp] theorem State.onPwm_meas (f : Pwm → Pwm) : (s.onPwm f).meas = s.meas := rfl
@[simp] theorem State.onPwm_arm (f : Pwm → Pwm) : (s.onPwm f).arm = s.arm := rfl
@[simp] theorem State.onPwm_pwm (f : Pwm → Pwm) : (s.onPwm f).pwm = f s.pwm := rfl
@[simp] theorem State.onPwm_glk (f : Pwm → Pwm) : (s.onPwm f).glk = s.glk := rfl
@[simp] theorem State.onPwm_chA (f : Pwm → Pwm) : (s.onPwm f).chA = s.chA := rfl
@[simp] theorem State.onPwm_chB (f : Pwm → Pwm) : (s.onPwm f).chB = s.chB := rfl
@[simp] theorem State.onPwm_snA (f : Pwm → Pwm) : (s.onPwm f).snA = s.snA := rfl
@[simp] theorem State.onPwm_snB (f : Pwm → Pwm) : (s.onPwm f).snB = s.snB := rfl
@[simp] theorem State.onPwm_esA (f : Pwm → Pwm) : (s.onPwm f).esA = s.esA := rfl
@[simp] theorem State.onPwm_esB (f : Pwm → Pwm) : (s.onPwm f).esB = s.esB := rfl
@[simp] theorem State.onPwm_est (f : Pwm → Pwm) : (s.onPwm f).est = s.est := rfl
@[simp] theorem State.onPwm_thm (f : Pwm → Pwm) : (s.onPwm f).thm = s.thm := rfl
@[simp] theorem State.onPwm_prt (f : Pwm → Pwm) : (s.onPwm f).prt = s.prt := rfl
@[simp] theorem State.onPwm_dvt (f : Pwm → Pwm) : (s.onPwm f).dvt = s.dvt := rfl
@[simp] theorem State.onPwm_lsw (f : Pwm → Pwm) : (s.onPwm f).lsw = s.lsw := rfl
@[simp] theorem State.onPwm_lbus (f : Pwm → Pwm) : (s.onPwm f).lbus = s.lbus := rfl
@[simp] theorem State.onPwm_pwr (f : Pwm → Pwm) : (s.onPwm f).pwr = s.pwr := rfl
@[simp] theorem State.onPwm_sec (f : Pwm → Pwm) : (s.onPwm f).sec = s.sec := rfl
@[simp] theorem State.onPwm_mnt (f : Pwm → Pwm) : (s.onPwm f).mnt = s.mnt := rfl
@[simp] theorem State.onPwm_evt (f : Pwm → Pwm) : (s.onPwm f).evt = s.evt := rfl
@[simp] theorem State.onPwm_req (f : Pwm → Pwm) : (s.onPwm f).req = s.req := rfl
@[simp] theorem State.onPwm_clock (f : Pwm → Pwm) : (s.onPwm f).clock = s.clock := rfl
@[simp] theorem State.onPwm_free (f : Pwm → Pwm) : (s.onPwm f).free = s.free := rfl
@[simp] theorem State.onPwm_outbox (f : Pwm → Pwm) : (s.onPwm f).outbox = s.outbox := rfl
@[simp] theorem State.onPwm_pending (f : Pwm → Pwm) : (s.onPwm f).pending = s.pending := rfl
@[simp] theorem State.onGlk_dev (f : Glk → Glk) : (s.onGlk f).dev = s.dev := rfl
@[simp] theorem State.onGlk_eng (f : Glk → Glk) : (s.onGlk f).eng = s.eng := rfl
@[simp] theorem State.onGlk_img (f : Glk → Glk) : (s.onGlk f).img = s.img := rfl
@[simp] theorem State.onGlk_spl (f : Glk → Glk) : (s.onGlk f).spl = s.spl := rfl
@[simp] theorem State.onGlk_tim (f : Glk → Glk) : (s.onGlk f).tim = s.tim := rfl
@[simp] theorem State.onGlk_meas (f : Glk → Glk) : (s.onGlk f).meas = s.meas := rfl
@[simp] theorem State.onGlk_arm (f : Glk → Glk) : (s.onGlk f).arm = s.arm := rfl
@[simp] theorem State.onGlk_pwm (f : Glk → Glk) : (s.onGlk f).pwm = s.pwm := rfl
@[simp] theorem State.onGlk_glk (f : Glk → Glk) : (s.onGlk f).glk = f s.glk := rfl
@[simp] theorem State.onGlk_chA (f : Glk → Glk) : (s.onGlk f).chA = s.chA := rfl
@[simp] theorem State.onGlk_chB (f : Glk → Glk) : (s.onGlk f).chB = s.chB := rfl
@[simp] theorem State.onGlk_snA (f : Glk → Glk) : (s.onGlk f).snA = s.snA := rfl
@[simp] theorem State.onGlk_snB (f : Glk → Glk) : (s.onGlk f).snB = s.snB := rfl
@[simp] theorem State.onGlk_esA (f : Glk → Glk) : (s.onGlk f).esA = s.esA := rfl
@[simp] theorem State.onGlk_esB (f : Glk → Glk) : (s.onGlk f).esB = s.esB := rfl
@[simp] theorem State.onGlk_est (f : Glk → Glk) : (s.onGlk f).est = s.est := rfl
@[simp] theorem State.onGlk_thm (f : Glk → Glk) : (s.onGlk f).thm = s.thm := rfl
@[simp] theorem State.onGlk_prt (f : Glk → Glk) : (s.onGlk f).prt = s.prt := rfl
@[simp] theorem State.onGlk_dvt (f : Glk → Glk) : (s.onGlk f).dvt = s.dvt := rfl
@[simp] theorem State.onGlk_lsw (f : Glk → Glk) : (s.onGlk f).lsw = s.lsw := rfl
@[simp] theorem State.onGlk_lbus (f : Glk → Glk) : (s.onGlk f).lbus = s.lbus := rfl
@[simp] theorem State.onGlk_pwr (f : Glk → Glk) : (s.onGlk f).pwr = s.pwr := rfl
@[simp] theorem State.onGlk_sec (f : Glk → Glk) : (s.onGlk f).sec = s.sec := rfl
@[simp] theorem State.onGlk_mnt (f : Glk → Glk) : (s.onGlk f).mnt = s.mnt := rfl
@[simp] theorem State.onGlk_evt (f : Glk → Glk) : (s.onGlk f).evt = s.evt := rfl
@[simp] theorem State.onGlk_req (f : Glk → Glk) : (s.onGlk f).req = s.req := rfl
@[simp] theorem State.onGlk_clock (f : Glk → Glk) : (s.onGlk f).clock = s.clock := rfl
@[simp] theorem State.onGlk_free (f : Glk → Glk) : (s.onGlk f).free = s.free := rfl
@[simp] theorem State.onGlk_outbox (f : Glk → Glk) : (s.onGlk f).outbox = s.outbox := rfl
@[simp] theorem State.onGlk_pending (f : Glk → Glk) : (s.onGlk f).pending = s.pending := rfl
@[simp] theorem State.onChA_dev (f : Chain → Chain) : (s.onChA f).dev = s.dev := rfl
@[simp] theorem State.onChA_eng (f : Chain → Chain) : (s.onChA f).eng = s.eng := rfl
@[simp] theorem State.onChA_img (f : Chain → Chain) : (s.onChA f).img = s.img := rfl
@[simp] theorem State.onChA_spl (f : Chain → Chain) : (s.onChA f).spl = s.spl := rfl
@[simp] theorem State.onChA_tim (f : Chain → Chain) : (s.onChA f).tim = s.tim := rfl
@[simp] theorem State.onChA_meas (f : Chain → Chain) : (s.onChA f).meas = s.meas := rfl
@[simp] theorem State.onChA_arm (f : Chain → Chain) : (s.onChA f).arm = s.arm := rfl
@[simp] theorem State.onChA_pwm (f : Chain → Chain) : (s.onChA f).pwm = s.pwm := rfl
@[simp] theorem State.onChA_glk (f : Chain → Chain) : (s.onChA f).glk = s.glk := rfl
@[simp] theorem State.onChA_chA (f : Chain → Chain) : (s.onChA f).chA = f s.chA := rfl
@[simp] theorem State.onChA_chB (f : Chain → Chain) : (s.onChA f).chB = s.chB := rfl
@[simp] theorem State.onChA_snA (f : Chain → Chain) : (s.onChA f).snA = s.snA := rfl
@[simp] theorem State.onChA_snB (f : Chain → Chain) : (s.onChA f).snB = s.snB := rfl
@[simp] theorem State.onChA_esA (f : Chain → Chain) : (s.onChA f).esA = s.esA := rfl
@[simp] theorem State.onChA_esB (f : Chain → Chain) : (s.onChA f).esB = s.esB := rfl
@[simp] theorem State.onChA_est (f : Chain → Chain) : (s.onChA f).est = s.est := rfl
@[simp] theorem State.onChA_thm (f : Chain → Chain) : (s.onChA f).thm = s.thm := rfl
@[simp] theorem State.onChA_prt (f : Chain → Chain) : (s.onChA f).prt = s.prt := rfl
@[simp] theorem State.onChA_dvt (f : Chain → Chain) : (s.onChA f).dvt = s.dvt := rfl
@[simp] theorem State.onChA_lsw (f : Chain → Chain) : (s.onChA f).lsw = s.lsw := rfl
@[simp] theorem State.onChA_lbus (f : Chain → Chain) : (s.onChA f).lbus = s.lbus := rfl
@[simp] theorem State.onChA_pwr (f : Chain → Chain) : (s.onChA f).pwr = s.pwr := rfl
@[simp] theorem State.onChA_sec (f : Chain → Chain) : (s.onChA f).sec = s.sec := rfl
@[simp] theorem State.onChA_mnt (f : Chain → Chain) : (s.onChA f).mnt = s.mnt := rfl
@[simp] theorem State.onChA_evt (f : Chain → Chain) : (s.onChA f).evt = s.evt := rfl
@[simp] theorem State.onChA_req (f : Chain → Chain) : (s.onChA f).req = s.req := rfl
@[simp] theorem State.onChA_clock (f : Chain → Chain) : (s.onChA f).clock = s.clock := rfl
@[simp] theorem State.onChA_free (f : Chain → Chain) : (s.onChA f).free = s.free := rfl
@[simp] theorem State.onChA_outbox (f : Chain → Chain) : (s.onChA f).outbox = s.outbox := rfl
@[simp] theorem State.onChA_pending (f : Chain → Chain) : (s.onChA f).pending = s.pending := rfl
@[simp] theorem State.onChB_dev (f : Chain → Chain) : (s.onChB f).dev = s.dev := rfl
@[simp] theorem State.onChB_eng (f : Chain → Chain) : (s.onChB f).eng = s.eng := rfl
@[simp] theorem State.onChB_img (f : Chain → Chain) : (s.onChB f).img = s.img := rfl
@[simp] theorem State.onChB_spl (f : Chain → Chain) : (s.onChB f).spl = s.spl := rfl
@[simp] theorem State.onChB_tim (f : Chain → Chain) : (s.onChB f).tim = s.tim := rfl
@[simp] theorem State.onChB_meas (f : Chain → Chain) : (s.onChB f).meas = s.meas := rfl
@[simp] theorem State.onChB_arm (f : Chain → Chain) : (s.onChB f).arm = s.arm := rfl
@[simp] theorem State.onChB_pwm (f : Chain → Chain) : (s.onChB f).pwm = s.pwm := rfl
@[simp] theorem State.onChB_glk (f : Chain → Chain) : (s.onChB f).glk = s.glk := rfl
@[simp] theorem State.onChB_chA (f : Chain → Chain) : (s.onChB f).chA = s.chA := rfl
@[simp] theorem State.onChB_chB (f : Chain → Chain) : (s.onChB f).chB = f s.chB := rfl
@[simp] theorem State.onChB_snA (f : Chain → Chain) : (s.onChB f).snA = s.snA := rfl
@[simp] theorem State.onChB_snB (f : Chain → Chain) : (s.onChB f).snB = s.snB := rfl
@[simp] theorem State.onChB_esA (f : Chain → Chain) : (s.onChB f).esA = s.esA := rfl
@[simp] theorem State.onChB_esB (f : Chain → Chain) : (s.onChB f).esB = s.esB := rfl
@[simp] theorem State.onChB_est (f : Chain → Chain) : (s.onChB f).est = s.est := rfl
@[simp] theorem State.onChB_thm (f : Chain → Chain) : (s.onChB f).thm = s.thm := rfl
@[simp] theorem State.onChB_prt (f : Chain → Chain) : (s.onChB f).prt = s.prt := rfl
@[simp] theorem State.onChB_dvt (f : Chain → Chain) : (s.onChB f).dvt = s.dvt := rfl
@[simp] theorem State.onChB_lsw (f : Chain → Chain) : (s.onChB f).lsw = s.lsw := rfl
@[simp] theorem State.onChB_lbus (f : Chain → Chain) : (s.onChB f).lbus = s.lbus := rfl
@[simp] theorem State.onChB_pwr (f : Chain → Chain) : (s.onChB f).pwr = s.pwr := rfl
@[simp] theorem State.onChB_sec (f : Chain → Chain) : (s.onChB f).sec = s.sec := rfl
@[simp] theorem State.onChB_mnt (f : Chain → Chain) : (s.onChB f).mnt = s.mnt := rfl
@[simp] theorem State.onChB_evt (f : Chain → Chain) : (s.onChB f).evt = s.evt := rfl
@[simp] theorem State.onChB_req (f : Chain → Chain) : (s.onChB f).req = s.req := rfl
@[simp] theorem State.onChB_clock (f : Chain → Chain) : (s.onChB f).clock = s.clock := rfl
@[simp] theorem State.onChB_free (f : Chain → Chain) : (s.onChB f).free = s.free := rfl
@[simp] theorem State.onChB_outbox (f : Chain → Chain) : (s.onChB f).outbox = s.outbox := rfl
@[simp] theorem State.onChB_pending (f : Chain → Chain) : (s.onChB f).pending = s.pending := rfl
@[simp] theorem State.onSnA_dev (f : Sen → Sen) : (s.onSnA f).dev = s.dev := rfl
@[simp] theorem State.onSnA_eng (f : Sen → Sen) : (s.onSnA f).eng = s.eng := rfl
@[simp] theorem State.onSnA_img (f : Sen → Sen) : (s.onSnA f).img = s.img := rfl
@[simp] theorem State.onSnA_spl (f : Sen → Sen) : (s.onSnA f).spl = s.spl := rfl
@[simp] theorem State.onSnA_tim (f : Sen → Sen) : (s.onSnA f).tim = s.tim := rfl
@[simp] theorem State.onSnA_meas (f : Sen → Sen) : (s.onSnA f).meas = s.meas := rfl
@[simp] theorem State.onSnA_arm (f : Sen → Sen) : (s.onSnA f).arm = s.arm := rfl
@[simp] theorem State.onSnA_pwm (f : Sen → Sen) : (s.onSnA f).pwm = s.pwm := rfl
@[simp] theorem State.onSnA_glk (f : Sen → Sen) : (s.onSnA f).glk = s.glk := rfl
@[simp] theorem State.onSnA_chA (f : Sen → Sen) : (s.onSnA f).chA = s.chA := rfl
@[simp] theorem State.onSnA_chB (f : Sen → Sen) : (s.onSnA f).chB = s.chB := rfl
@[simp] theorem State.onSnA_snA (f : Sen → Sen) : (s.onSnA f).snA = f s.snA := rfl
@[simp] theorem State.onSnA_snB (f : Sen → Sen) : (s.onSnA f).snB = s.snB := rfl
@[simp] theorem State.onSnA_esA (f : Sen → Sen) : (s.onSnA f).esA = s.esA := rfl
@[simp] theorem State.onSnA_esB (f : Sen → Sen) : (s.onSnA f).esB = s.esB := rfl
@[simp] theorem State.onSnA_est (f : Sen → Sen) : (s.onSnA f).est = s.est := rfl
@[simp] theorem State.onSnA_thm (f : Sen → Sen) : (s.onSnA f).thm = s.thm := rfl
@[simp] theorem State.onSnA_prt (f : Sen → Sen) : (s.onSnA f).prt = s.prt := rfl
@[simp] theorem State.onSnA_dvt (f : Sen → Sen) : (s.onSnA f).dvt = s.dvt := rfl
@[simp] theorem State.onSnA_lsw (f : Sen → Sen) : (s.onSnA f).lsw = s.lsw := rfl
@[simp] theorem State.onSnA_lbus (f : Sen → Sen) : (s.onSnA f).lbus = s.lbus := rfl
@[simp] theorem State.onSnA_pwr (f : Sen → Sen) : (s.onSnA f).pwr = s.pwr := rfl
@[simp] theorem State.onSnA_sec (f : Sen → Sen) : (s.onSnA f).sec = s.sec := rfl
@[simp] theorem State.onSnA_mnt (f : Sen → Sen) : (s.onSnA f).mnt = s.mnt := rfl
@[simp] theorem State.onSnA_evt (f : Sen → Sen) : (s.onSnA f).evt = s.evt := rfl
@[simp] theorem State.onSnA_req (f : Sen → Sen) : (s.onSnA f).req = s.req := rfl
@[simp] theorem State.onSnA_clock (f : Sen → Sen) : (s.onSnA f).clock = s.clock := rfl
@[simp] theorem State.onSnA_free (f : Sen → Sen) : (s.onSnA f).free = s.free := rfl
@[simp] theorem State.onSnA_outbox (f : Sen → Sen) : (s.onSnA f).outbox = s.outbox := rfl
@[simp] theorem State.onSnA_pending (f : Sen → Sen) : (s.onSnA f).pending = s.pending := rfl
@[simp] theorem State.onSnB_dev (f : Sen → Sen) : (s.onSnB f).dev = s.dev := rfl
@[simp] theorem State.onSnB_eng (f : Sen → Sen) : (s.onSnB f).eng = s.eng := rfl
@[simp] theorem State.onSnB_img (f : Sen → Sen) : (s.onSnB f).img = s.img := rfl
@[simp] theorem State.onSnB_spl (f : Sen → Sen) : (s.onSnB f).spl = s.spl := rfl
@[simp] theorem State.onSnB_tim (f : Sen → Sen) : (s.onSnB f).tim = s.tim := rfl
@[simp] theorem State.onSnB_meas (f : Sen → Sen) : (s.onSnB f).meas = s.meas := rfl
@[simp] theorem State.onSnB_arm (f : Sen → Sen) : (s.onSnB f).arm = s.arm := rfl
@[simp] theorem State.onSnB_pwm (f : Sen → Sen) : (s.onSnB f).pwm = s.pwm := rfl
@[simp] theorem State.onSnB_glk (f : Sen → Sen) : (s.onSnB f).glk = s.glk := rfl
@[simp] theorem State.onSnB_chA (f : Sen → Sen) : (s.onSnB f).chA = s.chA := rfl
@[simp] theorem State.onSnB_chB (f : Sen → Sen) : (s.onSnB f).chB = s.chB := rfl
@[simp] theorem State.onSnB_snA (f : Sen → Sen) : (s.onSnB f).snA = s.snA := rfl
@[simp] theorem State.onSnB_snB (f : Sen → Sen) : (s.onSnB f).snB = f s.snB := rfl
@[simp] theorem State.onSnB_esA (f : Sen → Sen) : (s.onSnB f).esA = s.esA := rfl
@[simp] theorem State.onSnB_esB (f : Sen → Sen) : (s.onSnB f).esB = s.esB := rfl
@[simp] theorem State.onSnB_est (f : Sen → Sen) : (s.onSnB f).est = s.est := rfl
@[simp] theorem State.onSnB_thm (f : Sen → Sen) : (s.onSnB f).thm = s.thm := rfl
@[simp] theorem State.onSnB_prt (f : Sen → Sen) : (s.onSnB f).prt = s.prt := rfl
@[simp] theorem State.onSnB_dvt (f : Sen → Sen) : (s.onSnB f).dvt = s.dvt := rfl
@[simp] theorem State.onSnB_lsw (f : Sen → Sen) : (s.onSnB f).lsw = s.lsw := rfl
@[simp] theorem State.onSnB_lbus (f : Sen → Sen) : (s.onSnB f).lbus = s.lbus := rfl
@[simp] theorem State.onSnB_pwr (f : Sen → Sen) : (s.onSnB f).pwr = s.pwr := rfl
@[simp] theorem State.onSnB_sec (f : Sen → Sen) : (s.onSnB f).sec = s.sec := rfl
@[simp] theorem State.onSnB_mnt (f : Sen → Sen) : (s.onSnB f).mnt = s.mnt := rfl
@[simp] theorem State.onSnB_evt (f : Sen → Sen) : (s.onSnB f).evt = s.evt := rfl
@[simp] theorem State.onSnB_req (f : Sen → Sen) : (s.onSnB f).req = s.req := rfl
@[simp] theorem State.onSnB_clock (f : Sen → Sen) : (s.onSnB f).clock = s.clock := rfl
@[simp] theorem State.onSnB_free (f : Sen → Sen) : (s.onSnB f).free = s.free := rfl
@[simp] theorem State.onSnB_outbox (f : Sen → Sen) : (s.onSnB f).outbox = s.outbox := rfl
@[simp] theorem State.onSnB_pending (f : Sen → Sen) : (s.onSnB f).pending = s.pending := rfl
@[simp] theorem State.onEsA_dev (f : EstCh → EstCh) : (s.onEsA f).dev = s.dev := rfl
@[simp] theorem State.onEsA_eng (f : EstCh → EstCh) : (s.onEsA f).eng = s.eng := rfl
@[simp] theorem State.onEsA_img (f : EstCh → EstCh) : (s.onEsA f).img = s.img := rfl
@[simp] theorem State.onEsA_spl (f : EstCh → EstCh) : (s.onEsA f).spl = s.spl := rfl
@[simp] theorem State.onEsA_tim (f : EstCh → EstCh) : (s.onEsA f).tim = s.tim := rfl
@[simp] theorem State.onEsA_meas (f : EstCh → EstCh) : (s.onEsA f).meas = s.meas := rfl
@[simp] theorem State.onEsA_arm (f : EstCh → EstCh) : (s.onEsA f).arm = s.arm := rfl
@[simp] theorem State.onEsA_pwm (f : EstCh → EstCh) : (s.onEsA f).pwm = s.pwm := rfl
@[simp] theorem State.onEsA_glk (f : EstCh → EstCh) : (s.onEsA f).glk = s.glk := rfl
@[simp] theorem State.onEsA_chA (f : EstCh → EstCh) : (s.onEsA f).chA = s.chA := rfl
@[simp] theorem State.onEsA_chB (f : EstCh → EstCh) : (s.onEsA f).chB = s.chB := rfl
@[simp] theorem State.onEsA_snA (f : EstCh → EstCh) : (s.onEsA f).snA = s.snA := rfl
@[simp] theorem State.onEsA_snB (f : EstCh → EstCh) : (s.onEsA f).snB = s.snB := rfl
@[simp] theorem State.onEsA_esA (f : EstCh → EstCh) : (s.onEsA f).esA = f s.esA := rfl
@[simp] theorem State.onEsA_esB (f : EstCh → EstCh) : (s.onEsA f).esB = s.esB := rfl
@[simp] theorem State.onEsA_est (f : EstCh → EstCh) : (s.onEsA f).est = s.est := rfl
@[simp] theorem State.onEsA_thm (f : EstCh → EstCh) : (s.onEsA f).thm = s.thm := rfl
@[simp] theorem State.onEsA_prt (f : EstCh → EstCh) : (s.onEsA f).prt = s.prt := rfl
@[simp] theorem State.onEsA_dvt (f : EstCh → EstCh) : (s.onEsA f).dvt = s.dvt := rfl
@[simp] theorem State.onEsA_lsw (f : EstCh → EstCh) : (s.onEsA f).lsw = s.lsw := rfl
@[simp] theorem State.onEsA_lbus (f : EstCh → EstCh) : (s.onEsA f).lbus = s.lbus := rfl
@[simp] theorem State.onEsA_pwr (f : EstCh → EstCh) : (s.onEsA f).pwr = s.pwr := rfl
@[simp] theorem State.onEsA_sec (f : EstCh → EstCh) : (s.onEsA f).sec = s.sec := rfl
@[simp] theorem State.onEsA_mnt (f : EstCh → EstCh) : (s.onEsA f).mnt = s.mnt := rfl
@[simp] theorem State.onEsA_evt (f : EstCh → EstCh) : (s.onEsA f).evt = s.evt := rfl
@[simp] theorem State.onEsA_req (f : EstCh → EstCh) : (s.onEsA f).req = s.req := rfl
@[simp] theorem State.onEsA_clock (f : EstCh → EstCh) : (s.onEsA f).clock = s.clock := rfl
@[simp] theorem State.onEsA_free (f : EstCh → EstCh) : (s.onEsA f).free = s.free := rfl
@[simp] theorem State.onEsA_outbox (f : EstCh → EstCh) : (s.onEsA f).outbox = s.outbox := rfl
@[simp] theorem State.onEsA_pending (f : EstCh → EstCh) : (s.onEsA f).pending = s.pending := rfl
@[simp] theorem State.onEsB_dev (f : EstCh → EstCh) : (s.onEsB f).dev = s.dev := rfl
@[simp] theorem State.onEsB_eng (f : EstCh → EstCh) : (s.onEsB f).eng = s.eng := rfl
@[simp] theorem State.onEsB_img (f : EstCh → EstCh) : (s.onEsB f).img = s.img := rfl
@[simp] theorem State.onEsB_spl (f : EstCh → EstCh) : (s.onEsB f).spl = s.spl := rfl
@[simp] theorem State.onEsB_tim (f : EstCh → EstCh) : (s.onEsB f).tim = s.tim := rfl
@[simp] theorem State.onEsB_meas (f : EstCh → EstCh) : (s.onEsB f).meas = s.meas := rfl
@[simp] theorem State.onEsB_arm (f : EstCh → EstCh) : (s.onEsB f).arm = s.arm := rfl
@[simp] theorem State.onEsB_pwm (f : EstCh → EstCh) : (s.onEsB f).pwm = s.pwm := rfl
@[simp] theorem State.onEsB_glk (f : EstCh → EstCh) : (s.onEsB f).glk = s.glk := rfl
@[simp] theorem State.onEsB_chA (f : EstCh → EstCh) : (s.onEsB f).chA = s.chA := rfl
@[simp] theorem State.onEsB_chB (f : EstCh → EstCh) : (s.onEsB f).chB = s.chB := rfl
@[simp] theorem State.onEsB_snA (f : EstCh → EstCh) : (s.onEsB f).snA = s.snA := rfl
@[simp] theorem State.onEsB_snB (f : EstCh → EstCh) : (s.onEsB f).snB = s.snB := rfl
@[simp] theorem State.onEsB_esA (f : EstCh → EstCh) : (s.onEsB f).esA = s.esA := rfl
@[simp] theorem State.onEsB_esB (f : EstCh → EstCh) : (s.onEsB f).esB = f s.esB := rfl
@[simp] theorem State.onEsB_est (f : EstCh → EstCh) : (s.onEsB f).est = s.est := rfl
@[simp] theorem State.onEsB_thm (f : EstCh → EstCh) : (s.onEsB f).thm = s.thm := rfl
@[simp] theorem State.onEsB_prt (f : EstCh → EstCh) : (s.onEsB f).prt = s.prt := rfl
@[simp] theorem State.onEsB_dvt (f : EstCh → EstCh) : (s.onEsB f).dvt = s.dvt := rfl
@[simp] theorem State.onEsB_lsw (f : EstCh → EstCh) : (s.onEsB f).lsw = s.lsw := rfl
@[simp] theorem State.onEsB_lbus (f : EstCh → EstCh) : (s.onEsB f).lbus = s.lbus := rfl
@[simp] theorem State.onEsB_pwr (f : EstCh → EstCh) : (s.onEsB f).pwr = s.pwr := rfl
@[simp] theorem State.onEsB_sec (f : EstCh → EstCh) : (s.onEsB f).sec = s.sec := rfl
@[simp] theorem State.onEsB_mnt (f : EstCh → EstCh) : (s.onEsB f).mnt = s.mnt := rfl
@[simp] theorem State.onEsB_evt (f : EstCh → EstCh) : (s.onEsB f).evt = s.evt := rfl
@[simp] theorem State.onEsB_req (f : EstCh → EstCh) : (s.onEsB f).req = s.req := rfl
@[simp] theorem State.onEsB_clock (f : EstCh → EstCh) : (s.onEsB f).clock = s.clock := rfl
@[simp] theorem State.onEsB_free (f : EstCh → EstCh) : (s.onEsB f).free = s.free := rfl
@[simp] theorem State.onEsB_outbox (f : EstCh → EstCh) : (s.onEsB f).outbox = s.outbox := rfl
@[simp] theorem State.onEsB_pending (f : EstCh → EstCh) : (s.onEsB f).pending = s.pending := rfl
@[simp] theorem State.onEst_dev (f : Est → Est) : (s.onEst f).dev = s.dev := rfl
@[simp] theorem State.onEst_eng (f : Est → Est) : (s.onEst f).eng = s.eng := rfl
@[simp] theorem State.onEst_img (f : Est → Est) : (s.onEst f).img = s.img := rfl
@[simp] theorem State.onEst_spl (f : Est → Est) : (s.onEst f).spl = s.spl := rfl
@[simp] theorem State.onEst_tim (f : Est → Est) : (s.onEst f).tim = s.tim := rfl
@[simp] theorem State.onEst_meas (f : Est → Est) : (s.onEst f).meas = s.meas := rfl
@[simp] theorem State.onEst_arm (f : Est → Est) : (s.onEst f).arm = s.arm := rfl
@[simp] theorem State.onEst_pwm (f : Est → Est) : (s.onEst f).pwm = s.pwm := rfl
@[simp] theorem State.onEst_glk (f : Est → Est) : (s.onEst f).glk = s.glk := rfl
@[simp] theorem State.onEst_chA (f : Est → Est) : (s.onEst f).chA = s.chA := rfl
@[simp] theorem State.onEst_chB (f : Est → Est) : (s.onEst f).chB = s.chB := rfl
@[simp] theorem State.onEst_snA (f : Est → Est) : (s.onEst f).snA = s.snA := rfl
@[simp] theorem State.onEst_snB (f : Est → Est) : (s.onEst f).snB = s.snB := rfl
@[simp] theorem State.onEst_esA (f : Est → Est) : (s.onEst f).esA = s.esA := rfl
@[simp] theorem State.onEst_esB (f : Est → Est) : (s.onEst f).esB = s.esB := rfl
@[simp] theorem State.onEst_est (f : Est → Est) : (s.onEst f).est = f s.est := rfl
@[simp] theorem State.onEst_thm (f : Est → Est) : (s.onEst f).thm = s.thm := rfl
@[simp] theorem State.onEst_prt (f : Est → Est) : (s.onEst f).prt = s.prt := rfl
@[simp] theorem State.onEst_dvt (f : Est → Est) : (s.onEst f).dvt = s.dvt := rfl
@[simp] theorem State.onEst_lsw (f : Est → Est) : (s.onEst f).lsw = s.lsw := rfl
@[simp] theorem State.onEst_lbus (f : Est → Est) : (s.onEst f).lbus = s.lbus := rfl
@[simp] theorem State.onEst_pwr (f : Est → Est) : (s.onEst f).pwr = s.pwr := rfl
@[simp] theorem State.onEst_sec (f : Est → Est) : (s.onEst f).sec = s.sec := rfl
@[simp] theorem State.onEst_mnt (f : Est → Est) : (s.onEst f).mnt = s.mnt := rfl
@[simp] theorem State.onEst_evt (f : Est → Est) : (s.onEst f).evt = s.evt := rfl
@[simp] theorem State.onEst_req (f : Est → Est) : (s.onEst f).req = s.req := rfl
@[simp] theorem State.onEst_clock (f : Est → Est) : (s.onEst f).clock = s.clock := rfl
@[simp] theorem State.onEst_free (f : Est → Est) : (s.onEst f).free = s.free := rfl
@[simp] theorem State.onEst_outbox (f : Est → Est) : (s.onEst f).outbox = s.outbox := rfl
@[simp] theorem State.onEst_pending (f : Est → Est) : (s.onEst f).pending = s.pending := rfl
@[simp] theorem State.onThm_dev (f : Thm → Thm) : (s.onThm f).dev = s.dev := rfl
@[simp] theorem State.onThm_eng (f : Thm → Thm) : (s.onThm f).eng = s.eng := rfl
@[simp] theorem State.onThm_img (f : Thm → Thm) : (s.onThm f).img = s.img := rfl
@[simp] theorem State.onThm_spl (f : Thm → Thm) : (s.onThm f).spl = s.spl := rfl
@[simp] theorem State.onThm_tim (f : Thm → Thm) : (s.onThm f).tim = s.tim := rfl
@[simp] theorem State.onThm_meas (f : Thm → Thm) : (s.onThm f).meas = s.meas := rfl
@[simp] theorem State.onThm_arm (f : Thm → Thm) : (s.onThm f).arm = s.arm := rfl
@[simp] theorem State.onThm_pwm (f : Thm → Thm) : (s.onThm f).pwm = s.pwm := rfl
@[simp] theorem State.onThm_glk (f : Thm → Thm) : (s.onThm f).glk = s.glk := rfl
@[simp] theorem State.onThm_chA (f : Thm → Thm) : (s.onThm f).chA = s.chA := rfl
@[simp] theorem State.onThm_chB (f : Thm → Thm) : (s.onThm f).chB = s.chB := rfl
@[simp] theorem State.onThm_snA (f : Thm → Thm) : (s.onThm f).snA = s.snA := rfl
@[simp] theorem State.onThm_snB (f : Thm → Thm) : (s.onThm f).snB = s.snB := rfl
@[simp] theorem State.onThm_esA (f : Thm → Thm) : (s.onThm f).esA = s.esA := rfl
@[simp] theorem State.onThm_esB (f : Thm → Thm) : (s.onThm f).esB = s.esB := rfl
@[simp] theorem State.onThm_est (f : Thm → Thm) : (s.onThm f).est = s.est := rfl
@[simp] theorem State.onThm_thm (f : Thm → Thm) : (s.onThm f).thm = f s.thm := rfl
@[simp] theorem State.onThm_prt (f : Thm → Thm) : (s.onThm f).prt = s.prt := rfl
@[simp] theorem State.onThm_dvt (f : Thm → Thm) : (s.onThm f).dvt = s.dvt := rfl
@[simp] theorem State.onThm_lsw (f : Thm → Thm) : (s.onThm f).lsw = s.lsw := rfl
@[simp] theorem State.onThm_lbus (f : Thm → Thm) : (s.onThm f).lbus = s.lbus := rfl
@[simp] theorem State.onThm_pwr (f : Thm → Thm) : (s.onThm f).pwr = s.pwr := rfl
@[simp] theorem State.onThm_sec (f : Thm → Thm) : (s.onThm f).sec = s.sec := rfl
@[simp] theorem State.onThm_mnt (f : Thm → Thm) : (s.onThm f).mnt = s.mnt := rfl
@[simp] theorem State.onThm_evt (f : Thm → Thm) : (s.onThm f).evt = s.evt := rfl
@[simp] theorem State.onThm_req (f : Thm → Thm) : (s.onThm f).req = s.req := rfl
@[simp] theorem State.onThm_clock (f : Thm → Thm) : (s.onThm f).clock = s.clock := rfl
@[simp] theorem State.onThm_free (f : Thm → Thm) : (s.onThm f).free = s.free := rfl
@[simp] theorem State.onThm_outbox (f : Thm → Thm) : (s.onThm f).outbox = s.outbox := rfl
@[simp] theorem State.onThm_pending (f : Thm → Thm) : (s.onThm f).pending = s.pending := rfl
@[simp] theorem State.onPrt_dev (f : Prt → Prt) : (s.onPrt f).dev = s.dev := rfl
@[simp] theorem State.onPrt_eng (f : Prt → Prt) : (s.onPrt f).eng = s.eng := rfl
@[simp] theorem State.onPrt_img (f : Prt → Prt) : (s.onPrt f).img = s.img := rfl
@[simp] theorem State.onPrt_spl (f : Prt → Prt) : (s.onPrt f).spl = s.spl := rfl
@[simp] theorem State.onPrt_tim (f : Prt → Prt) : (s.onPrt f).tim = s.tim := rfl
@[simp] theorem State.onPrt_meas (f : Prt → Prt) : (s.onPrt f).meas = s.meas := rfl
@[simp] theorem State.onPrt_arm (f : Prt → Prt) : (s.onPrt f).arm = s.arm := rfl
@[simp] theorem State.onPrt_pwm (f : Prt → Prt) : (s.onPrt f).pwm = s.pwm := rfl
@[simp] theorem State.onPrt_glk (f : Prt → Prt) : (s.onPrt f).glk = s.glk := rfl
@[simp] theorem State.onPrt_chA (f : Prt → Prt) : (s.onPrt f).chA = s.chA := rfl
@[simp] theorem State.onPrt_chB (f : Prt → Prt) : (s.onPrt f).chB = s.chB := rfl
@[simp] theorem State.onPrt_snA (f : Prt → Prt) : (s.onPrt f).snA = s.snA := rfl
@[simp] theorem State.onPrt_snB (f : Prt → Prt) : (s.onPrt f).snB = s.snB := rfl
@[simp] theorem State.onPrt_esA (f : Prt → Prt) : (s.onPrt f).esA = s.esA := rfl
@[simp] theorem State.onPrt_esB (f : Prt → Prt) : (s.onPrt f).esB = s.esB := rfl
@[simp] theorem State.onPrt_est (f : Prt → Prt) : (s.onPrt f).est = s.est := rfl
@[simp] theorem State.onPrt_thm (f : Prt → Prt) : (s.onPrt f).thm = s.thm := rfl
@[simp] theorem State.onPrt_prt (f : Prt → Prt) : (s.onPrt f).prt = f s.prt := rfl
@[simp] theorem State.onPrt_dvt (f : Prt → Prt) : (s.onPrt f).dvt = s.dvt := rfl
@[simp] theorem State.onPrt_lsw (f : Prt → Prt) : (s.onPrt f).lsw = s.lsw := rfl
@[simp] theorem State.onPrt_lbus (f : Prt → Prt) : (s.onPrt f).lbus = s.lbus := rfl
@[simp] theorem State.onPrt_pwr (f : Prt → Prt) : (s.onPrt f).pwr = s.pwr := rfl
@[simp] theorem State.onPrt_sec (f : Prt → Prt) : (s.onPrt f).sec = s.sec := rfl
@[simp] theorem State.onPrt_mnt (f : Prt → Prt) : (s.onPrt f).mnt = s.mnt := rfl
@[simp] theorem State.onPrt_evt (f : Prt → Prt) : (s.onPrt f).evt = s.evt := rfl
@[simp] theorem State.onPrt_req (f : Prt → Prt) : (s.onPrt f).req = s.req := rfl
@[simp] theorem State.onPrt_clock (f : Prt → Prt) : (s.onPrt f).clock = s.clock := rfl
@[simp] theorem State.onPrt_free (f : Prt → Prt) : (s.onPrt f).free = s.free := rfl
@[simp] theorem State.onPrt_outbox (f : Prt → Prt) : (s.onPrt f).outbox = s.outbox := rfl
@[simp] theorem State.onPrt_pending (f : Prt → Prt) : (s.onPrt f).pending = s.pending := rfl
@[simp] theorem State.onDvt_dev (f : Dvt → Dvt) : (s.onDvt f).dev = s.dev := rfl
@[simp] theorem State.onDvt_eng (f : Dvt → Dvt) : (s.onDvt f).eng = s.eng := rfl
@[simp] theorem State.onDvt_img (f : Dvt → Dvt) : (s.onDvt f).img = s.img := rfl
@[simp] theorem State.onDvt_spl (f : Dvt → Dvt) : (s.onDvt f).spl = s.spl := rfl
@[simp] theorem State.onDvt_tim (f : Dvt → Dvt) : (s.onDvt f).tim = s.tim := rfl
@[simp] theorem State.onDvt_meas (f : Dvt → Dvt) : (s.onDvt f).meas = s.meas := rfl
@[simp] theorem State.onDvt_arm (f : Dvt → Dvt) : (s.onDvt f).arm = s.arm := rfl
@[simp] theorem State.onDvt_pwm (f : Dvt → Dvt) : (s.onDvt f).pwm = s.pwm := rfl
@[simp] theorem State.onDvt_glk (f : Dvt → Dvt) : (s.onDvt f).glk = s.glk := rfl
@[simp] theorem State.onDvt_chA (f : Dvt → Dvt) : (s.onDvt f).chA = s.chA := rfl
@[simp] theorem State.onDvt_chB (f : Dvt → Dvt) : (s.onDvt f).chB = s.chB := rfl
@[simp] theorem State.onDvt_snA (f : Dvt → Dvt) : (s.onDvt f).snA = s.snA := rfl
@[simp] theorem State.onDvt_snB (f : Dvt → Dvt) : (s.onDvt f).snB = s.snB := rfl
@[simp] theorem State.onDvt_esA (f : Dvt → Dvt) : (s.onDvt f).esA = s.esA := rfl
@[simp] theorem State.onDvt_esB (f : Dvt → Dvt) : (s.onDvt f).esB = s.esB := rfl
@[simp] theorem State.onDvt_est (f : Dvt → Dvt) : (s.onDvt f).est = s.est := rfl
@[simp] theorem State.onDvt_thm (f : Dvt → Dvt) : (s.onDvt f).thm = s.thm := rfl
@[simp] theorem State.onDvt_prt (f : Dvt → Dvt) : (s.onDvt f).prt = s.prt := rfl
@[simp] theorem State.onDvt_dvt (f : Dvt → Dvt) : (s.onDvt f).dvt = f s.dvt := rfl
@[simp] theorem State.onDvt_lsw (f : Dvt → Dvt) : (s.onDvt f).lsw = s.lsw := rfl
@[simp] theorem State.onDvt_lbus (f : Dvt → Dvt) : (s.onDvt f).lbus = s.lbus := rfl
@[simp] theorem State.onDvt_pwr (f : Dvt → Dvt) : (s.onDvt f).pwr = s.pwr := rfl
@[simp] theorem State.onDvt_sec (f : Dvt → Dvt) : (s.onDvt f).sec = s.sec := rfl
@[simp] theorem State.onDvt_mnt (f : Dvt → Dvt) : (s.onDvt f).mnt = s.mnt := rfl
@[simp] theorem State.onDvt_evt (f : Dvt → Dvt) : (s.onDvt f).evt = s.evt := rfl
@[simp] theorem State.onDvt_req (f : Dvt → Dvt) : (s.onDvt f).req = s.req := rfl
@[simp] theorem State.onDvt_clock (f : Dvt → Dvt) : (s.onDvt f).clock = s.clock := rfl
@[simp] theorem State.onDvt_free (f : Dvt → Dvt) : (s.onDvt f).free = s.free := rfl
@[simp] theorem State.onDvt_outbox (f : Dvt → Dvt) : (s.onDvt f).outbox = s.outbox := rfl
@[simp] theorem State.onDvt_pending (f : Dvt → Dvt) : (s.onDvt f).pending = s.pending := rfl
@[simp] theorem State.onLsw_dev (f : Lsw → Lsw) : (s.onLsw f).dev = s.dev := rfl
@[simp] theorem State.onLsw_eng (f : Lsw → Lsw) : (s.onLsw f).eng = s.eng := rfl
@[simp] theorem State.onLsw_img (f : Lsw → Lsw) : (s.onLsw f).img = s.img := rfl
@[simp] theorem State.onLsw_spl (f : Lsw → Lsw) : (s.onLsw f).spl = s.spl := rfl
@[simp] theorem State.onLsw_tim (f : Lsw → Lsw) : (s.onLsw f).tim = s.tim := rfl
@[simp] theorem State.onLsw_meas (f : Lsw → Lsw) : (s.onLsw f).meas = s.meas := rfl
@[simp] theorem State.onLsw_arm (f : Lsw → Lsw) : (s.onLsw f).arm = s.arm := rfl
@[simp] theorem State.onLsw_pwm (f : Lsw → Lsw) : (s.onLsw f).pwm = s.pwm := rfl
@[simp] theorem State.onLsw_glk (f : Lsw → Lsw) : (s.onLsw f).glk = s.glk := rfl
@[simp] theorem State.onLsw_chA (f : Lsw → Lsw) : (s.onLsw f).chA = s.chA := rfl
@[simp] theorem State.onLsw_chB (f : Lsw → Lsw) : (s.onLsw f).chB = s.chB := rfl
@[simp] theorem State.onLsw_snA (f : Lsw → Lsw) : (s.onLsw f).snA = s.snA := rfl
@[simp] theorem State.onLsw_snB (f : Lsw → Lsw) : (s.onLsw f).snB = s.snB := rfl
@[simp] theorem State.onLsw_esA (f : Lsw → Lsw) : (s.onLsw f).esA = s.esA := rfl
@[simp] theorem State.onLsw_esB (f : Lsw → Lsw) : (s.onLsw f).esB = s.esB := rfl
@[simp] theorem State.onLsw_est (f : Lsw → Lsw) : (s.onLsw f).est = s.est := rfl
@[simp] theorem State.onLsw_thm (f : Lsw → Lsw) : (s.onLsw f).thm = s.thm := rfl
@[simp] theorem State.onLsw_prt (f : Lsw → Lsw) : (s.onLsw f).prt = s.prt := rfl
@[simp] theorem State.onLsw_dvt (f : Lsw → Lsw) : (s.onLsw f).dvt = s.dvt := rfl
@[simp] theorem State.onLsw_lsw (f : Lsw → Lsw) : (s.onLsw f).lsw = f s.lsw := rfl
@[simp] theorem State.onLsw_lbus (f : Lsw → Lsw) : (s.onLsw f).lbus = s.lbus := rfl
@[simp] theorem State.onLsw_pwr (f : Lsw → Lsw) : (s.onLsw f).pwr = s.pwr := rfl
@[simp] theorem State.onLsw_sec (f : Lsw → Lsw) : (s.onLsw f).sec = s.sec := rfl
@[simp] theorem State.onLsw_mnt (f : Lsw → Lsw) : (s.onLsw f).mnt = s.mnt := rfl
@[simp] theorem State.onLsw_evt (f : Lsw → Lsw) : (s.onLsw f).evt = s.evt := rfl
@[simp] theorem State.onLsw_req (f : Lsw → Lsw) : (s.onLsw f).req = s.req := rfl
@[simp] theorem State.onLsw_clock (f : Lsw → Lsw) : (s.onLsw f).clock = s.clock := rfl
@[simp] theorem State.onLsw_free (f : Lsw → Lsw) : (s.onLsw f).free = s.free := rfl
@[simp] theorem State.onLsw_outbox (f : Lsw → Lsw) : (s.onLsw f).outbox = s.outbox := rfl
@[simp] theorem State.onLsw_pending (f : Lsw → Lsw) : (s.onLsw f).pending = s.pending := rfl
@[simp] theorem State.onLbus_dev (f : Lbus → Lbus) : (s.onLbus f).dev = s.dev := rfl
@[simp] theorem State.onLbus_eng (f : Lbus → Lbus) : (s.onLbus f).eng = s.eng := rfl
@[simp] theorem State.onLbus_img (f : Lbus → Lbus) : (s.onLbus f).img = s.img := rfl
@[simp] theorem State.onLbus_spl (f : Lbus → Lbus) : (s.onLbus f).spl = s.spl := rfl
@[simp] theorem State.onLbus_tim (f : Lbus → Lbus) : (s.onLbus f).tim = s.tim := rfl
@[simp] theorem State.onLbus_meas (f : Lbus → Lbus) : (s.onLbus f).meas = s.meas := rfl
@[simp] theorem State.onLbus_arm (f : Lbus → Lbus) : (s.onLbus f).arm = s.arm := rfl
@[simp] theorem State.onLbus_pwm (f : Lbus → Lbus) : (s.onLbus f).pwm = s.pwm := rfl
@[simp] theorem State.onLbus_glk (f : Lbus → Lbus) : (s.onLbus f).glk = s.glk := rfl
@[simp] theorem State.onLbus_chA (f : Lbus → Lbus) : (s.onLbus f).chA = s.chA := rfl
@[simp] theorem State.onLbus_chB (f : Lbus → Lbus) : (s.onLbus f).chB = s.chB := rfl
@[simp] theorem State.onLbus_snA (f : Lbus → Lbus) : (s.onLbus f).snA = s.snA := rfl
@[simp] theorem State.onLbus_snB (f : Lbus → Lbus) : (s.onLbus f).snB = s.snB := rfl
@[simp] theorem State.onLbus_esA (f : Lbus → Lbus) : (s.onLbus f).esA = s.esA := rfl
@[simp] theorem State.onLbus_esB (f : Lbus → Lbus) : (s.onLbus f).esB = s.esB := rfl
@[simp] theorem State.onLbus_est (f : Lbus → Lbus) : (s.onLbus f).est = s.est := rfl
@[simp] theorem State.onLbus_thm (f : Lbus → Lbus) : (s.onLbus f).thm = s.thm := rfl
@[simp] theorem State.onLbus_prt (f : Lbus → Lbus) : (s.onLbus f).prt = s.prt := rfl
@[simp] theorem State.onLbus_dvt (f : Lbus → Lbus) : (s.onLbus f).dvt = s.dvt := rfl
@[simp] theorem State.onLbus_lsw (f : Lbus → Lbus) : (s.onLbus f).lsw = s.lsw := rfl
@[simp] theorem State.onLbus_lbus (f : Lbus → Lbus) : (s.onLbus f).lbus = f s.lbus := rfl
@[simp] theorem State.onLbus_pwr (f : Lbus → Lbus) : (s.onLbus f).pwr = s.pwr := rfl
@[simp] theorem State.onLbus_sec (f : Lbus → Lbus) : (s.onLbus f).sec = s.sec := rfl
@[simp] theorem State.onLbus_mnt (f : Lbus → Lbus) : (s.onLbus f).mnt = s.mnt := rfl
@[simp] theorem State.onLbus_evt (f : Lbus → Lbus) : (s.onLbus f).evt = s.evt := rfl
@[simp] theorem State.onLbus_req (f : Lbus → Lbus) : (s.onLbus f).req = s.req := rfl
@[simp] theorem State.onLbus_clock (f : Lbus → Lbus) : (s.onLbus f).clock = s.clock := rfl
@[simp] theorem State.onLbus_free (f : Lbus → Lbus) : (s.onLbus f).free = s.free := rfl
@[simp] theorem State.onLbus_outbox (f : Lbus → Lbus) : (s.onLbus f).outbox = s.outbox := rfl
@[simp] theorem State.onLbus_pending (f : Lbus → Lbus) : (s.onLbus f).pending = s.pending := rfl
@[simp] theorem State.onPwr_dev (f : Pwr → Pwr) : (s.onPwr f).dev = s.dev := rfl
@[simp] theorem State.onPwr_eng (f : Pwr → Pwr) : (s.onPwr f).eng = s.eng := rfl
@[simp] theorem State.onPwr_img (f : Pwr → Pwr) : (s.onPwr f).img = s.img := rfl
@[simp] theorem State.onPwr_spl (f : Pwr → Pwr) : (s.onPwr f).spl = s.spl := rfl
@[simp] theorem State.onPwr_tim (f : Pwr → Pwr) : (s.onPwr f).tim = s.tim := rfl
@[simp] theorem State.onPwr_meas (f : Pwr → Pwr) : (s.onPwr f).meas = s.meas := rfl
@[simp] theorem State.onPwr_arm (f : Pwr → Pwr) : (s.onPwr f).arm = s.arm := rfl
@[simp] theorem State.onPwr_pwm (f : Pwr → Pwr) : (s.onPwr f).pwm = s.pwm := rfl
@[simp] theorem State.onPwr_glk (f : Pwr → Pwr) : (s.onPwr f).glk = s.glk := rfl
@[simp] theorem State.onPwr_chA (f : Pwr → Pwr) : (s.onPwr f).chA = s.chA := rfl
@[simp] theorem State.onPwr_chB (f : Pwr → Pwr) : (s.onPwr f).chB = s.chB := rfl
@[simp] theorem State.onPwr_snA (f : Pwr → Pwr) : (s.onPwr f).snA = s.snA := rfl
@[simp] theorem State.onPwr_snB (f : Pwr → Pwr) : (s.onPwr f).snB = s.snB := rfl
@[simp] theorem State.onPwr_esA (f : Pwr → Pwr) : (s.onPwr f).esA = s.esA := rfl
@[simp] theorem State.onPwr_esB (f : Pwr → Pwr) : (s.onPwr f).esB = s.esB := rfl
@[simp] theorem State.onPwr_est (f : Pwr → Pwr) : (s.onPwr f).est = s.est := rfl
@[simp] theorem State.onPwr_thm (f : Pwr → Pwr) : (s.onPwr f).thm = s.thm := rfl
@[simp] theorem State.onPwr_prt (f : Pwr → Pwr) : (s.onPwr f).prt = s.prt := rfl
@[simp] theorem State.onPwr_dvt (f : Pwr → Pwr) : (s.onPwr f).dvt = s.dvt := rfl
@[simp] theorem State.onPwr_lsw (f : Pwr → Pwr) : (s.onPwr f).lsw = s.lsw := rfl
@[simp] theorem State.onPwr_lbus (f : Pwr → Pwr) : (s.onPwr f).lbus = s.lbus := rfl
@[simp] theorem State.onPwr_pwr (f : Pwr → Pwr) : (s.onPwr f).pwr = f s.pwr := rfl
@[simp] theorem State.onPwr_sec (f : Pwr → Pwr) : (s.onPwr f).sec = s.sec := rfl
@[simp] theorem State.onPwr_mnt (f : Pwr → Pwr) : (s.onPwr f).mnt = s.mnt := rfl
@[simp] theorem State.onPwr_evt (f : Pwr → Pwr) : (s.onPwr f).evt = s.evt := rfl
@[simp] theorem State.onPwr_req (f : Pwr → Pwr) : (s.onPwr f).req = s.req := rfl
@[simp] theorem State.onPwr_clock (f : Pwr → Pwr) : (s.onPwr f).clock = s.clock := rfl
@[simp] theorem State.onPwr_free (f : Pwr → Pwr) : (s.onPwr f).free = s.free := rfl
@[simp] theorem State.onPwr_outbox (f : Pwr → Pwr) : (s.onPwr f).outbox = s.outbox := rfl
@[simp] theorem State.onPwr_pending (f : Pwr → Pwr) : (s.onPwr f).pending = s.pending := rfl
@[simp] theorem State.onSec_dev (f : Sec → Sec) : (s.onSec f).dev = s.dev := rfl
@[simp] theorem State.onSec_eng (f : Sec → Sec) : (s.onSec f).eng = s.eng := rfl
@[simp] theorem State.onSec_img (f : Sec → Sec) : (s.onSec f).img = s.img := rfl
@[simp] theorem State.onSec_spl (f : Sec → Sec) : (s.onSec f).spl = s.spl := rfl
@[simp] theorem State.onSec_tim (f : Sec → Sec) : (s.onSec f).tim = s.tim := rfl
@[simp] theorem State.onSec_meas (f : Sec → Sec) : (s.onSec f).meas = s.meas := rfl
@[simp] theorem State.onSec_arm (f : Sec → Sec) : (s.onSec f).arm = s.arm := rfl
@[simp] theorem State.onSec_pwm (f : Sec → Sec) : (s.onSec f).pwm = s.pwm := rfl
@[simp] theorem State.onSec_glk (f : Sec → Sec) : (s.onSec f).glk = s.glk := rfl
@[simp] theorem State.onSec_chA (f : Sec → Sec) : (s.onSec f).chA = s.chA := rfl
@[simp] theorem State.onSec_chB (f : Sec → Sec) : (s.onSec f).chB = s.chB := rfl
@[simp] theorem State.onSec_snA (f : Sec → Sec) : (s.onSec f).snA = s.snA := rfl
@[simp] theorem State.onSec_snB (f : Sec → Sec) : (s.onSec f).snB = s.snB := rfl
@[simp] theorem State.onSec_esA (f : Sec → Sec) : (s.onSec f).esA = s.esA := rfl
@[simp] theorem State.onSec_esB (f : Sec → Sec) : (s.onSec f).esB = s.esB := rfl
@[simp] theorem State.onSec_est (f : Sec → Sec) : (s.onSec f).est = s.est := rfl
@[simp] theorem State.onSec_thm (f : Sec → Sec) : (s.onSec f).thm = s.thm := rfl
@[simp] theorem State.onSec_prt (f : Sec → Sec) : (s.onSec f).prt = s.prt := rfl
@[simp] theorem State.onSec_dvt (f : Sec → Sec) : (s.onSec f).dvt = s.dvt := rfl
@[simp] theorem State.onSec_lsw (f : Sec → Sec) : (s.onSec f).lsw = s.lsw := rfl
@[simp] theorem State.onSec_lbus (f : Sec → Sec) : (s.onSec f).lbus = s.lbus := rfl
@[simp] theorem State.onSec_pwr (f : Sec → Sec) : (s.onSec f).pwr = s.pwr := rfl
@[simp] theorem State.onSec_sec (f : Sec → Sec) : (s.onSec f).sec = f s.sec := rfl
@[simp] theorem State.onSec_mnt (f : Sec → Sec) : (s.onSec f).mnt = s.mnt := rfl
@[simp] theorem State.onSec_evt (f : Sec → Sec) : (s.onSec f).evt = s.evt := rfl
@[simp] theorem State.onSec_req (f : Sec → Sec) : (s.onSec f).req = s.req := rfl
@[simp] theorem State.onSec_clock (f : Sec → Sec) : (s.onSec f).clock = s.clock := rfl
@[simp] theorem State.onSec_free (f : Sec → Sec) : (s.onSec f).free = s.free := rfl
@[simp] theorem State.onSec_outbox (f : Sec → Sec) : (s.onSec f).outbox = s.outbox := rfl
@[simp] theorem State.onSec_pending (f : Sec → Sec) : (s.onSec f).pending = s.pending := rfl
@[simp] theorem State.onMnt_dev (f : Mnt → Mnt) : (s.onMnt f).dev = s.dev := rfl
@[simp] theorem State.onMnt_eng (f : Mnt → Mnt) : (s.onMnt f).eng = s.eng := rfl
@[simp] theorem State.onMnt_img (f : Mnt → Mnt) : (s.onMnt f).img = s.img := rfl
@[simp] theorem State.onMnt_spl (f : Mnt → Mnt) : (s.onMnt f).spl = s.spl := rfl
@[simp] theorem State.onMnt_tim (f : Mnt → Mnt) : (s.onMnt f).tim = s.tim := rfl
@[simp] theorem State.onMnt_meas (f : Mnt → Mnt) : (s.onMnt f).meas = s.meas := rfl
@[simp] theorem State.onMnt_arm (f : Mnt → Mnt) : (s.onMnt f).arm = s.arm := rfl
@[simp] theorem State.onMnt_pwm (f : Mnt → Mnt) : (s.onMnt f).pwm = s.pwm := rfl
@[simp] theorem State.onMnt_glk (f : Mnt → Mnt) : (s.onMnt f).glk = s.glk := rfl
@[simp] theorem State.onMnt_chA (f : Mnt → Mnt) : (s.onMnt f).chA = s.chA := rfl
@[simp] theorem State.onMnt_chB (f : Mnt → Mnt) : (s.onMnt f).chB = s.chB := rfl
@[simp] theorem State.onMnt_snA (f : Mnt → Mnt) : (s.onMnt f).snA = s.snA := rfl
@[simp] theorem State.onMnt_snB (f : Mnt → Mnt) : (s.onMnt f).snB = s.snB := rfl
@[simp] theorem State.onMnt_esA (f : Mnt → Mnt) : (s.onMnt f).esA = s.esA := rfl
@[simp] theorem State.onMnt_esB (f : Mnt → Mnt) : (s.onMnt f).esB = s.esB := rfl
@[simp] theorem State.onMnt_est (f : Mnt → Mnt) : (s.onMnt f).est = s.est := rfl
@[simp] theorem State.onMnt_thm (f : Mnt → Mnt) : (s.onMnt f).thm = s.thm := rfl
@[simp] theorem State.onMnt_prt (f : Mnt → Mnt) : (s.onMnt f).prt = s.prt := rfl
@[simp] theorem State.onMnt_dvt (f : Mnt → Mnt) : (s.onMnt f).dvt = s.dvt := rfl
@[simp] theorem State.onMnt_lsw (f : Mnt → Mnt) : (s.onMnt f).lsw = s.lsw := rfl
@[simp] theorem State.onMnt_lbus (f : Mnt → Mnt) : (s.onMnt f).lbus = s.lbus := rfl
@[simp] theorem State.onMnt_pwr (f : Mnt → Mnt) : (s.onMnt f).pwr = s.pwr := rfl
@[simp] theorem State.onMnt_sec (f : Mnt → Mnt) : (s.onMnt f).sec = s.sec := rfl
@[simp] theorem State.onMnt_mnt (f : Mnt → Mnt) : (s.onMnt f).mnt = f s.mnt := rfl
@[simp] theorem State.onMnt_evt (f : Mnt → Mnt) : (s.onMnt f).evt = s.evt := rfl
@[simp] theorem State.onMnt_req (f : Mnt → Mnt) : (s.onMnt f).req = s.req := rfl
@[simp] theorem State.onMnt_clock (f : Mnt → Mnt) : (s.onMnt f).clock = s.clock := rfl
@[simp] theorem State.onMnt_free (f : Mnt → Mnt) : (s.onMnt f).free = s.free := rfl
@[simp] theorem State.onMnt_outbox (f : Mnt → Mnt) : (s.onMnt f).outbox = s.outbox := rfl
@[simp] theorem State.onMnt_pending (f : Mnt → Mnt) : (s.onMnt f).pending = s.pending := rfl
@[simp] theorem State.onEvt_dev (f : Evt → Evt) : (s.onEvt f).dev = s.dev := rfl
@[simp] theorem State.onEvt_eng (f : Evt → Evt) : (s.onEvt f).eng = s.eng := rfl
@[simp] theorem State.onEvt_img (f : Evt → Evt) : (s.onEvt f).img = s.img := rfl
@[simp] theorem State.onEvt_spl (f : Evt → Evt) : (s.onEvt f).spl = s.spl := rfl
@[simp] theorem State.onEvt_tim (f : Evt → Evt) : (s.onEvt f).tim = s.tim := rfl
@[simp] theorem State.onEvt_meas (f : Evt → Evt) : (s.onEvt f).meas = s.meas := rfl
@[simp] theorem State.onEvt_arm (f : Evt → Evt) : (s.onEvt f).arm = s.arm := rfl
@[simp] theorem State.onEvt_pwm (f : Evt → Evt) : (s.onEvt f).pwm = s.pwm := rfl
@[simp] theorem State.onEvt_glk (f : Evt → Evt) : (s.onEvt f).glk = s.glk := rfl
@[simp] theorem State.onEvt_chA (f : Evt → Evt) : (s.onEvt f).chA = s.chA := rfl
@[simp] theorem State.onEvt_chB (f : Evt → Evt) : (s.onEvt f).chB = s.chB := rfl
@[simp] theorem State.onEvt_snA (f : Evt → Evt) : (s.onEvt f).snA = s.snA := rfl
@[simp] theorem State.onEvt_snB (f : Evt → Evt) : (s.onEvt f).snB = s.snB := rfl
@[simp] theorem State.onEvt_esA (f : Evt → Evt) : (s.onEvt f).esA = s.esA := rfl
@[simp] theorem State.onEvt_esB (f : Evt → Evt) : (s.onEvt f).esB = s.esB := rfl
@[simp] theorem State.onEvt_est (f : Evt → Evt) : (s.onEvt f).est = s.est := rfl
@[simp] theorem State.onEvt_thm (f : Evt → Evt) : (s.onEvt f).thm = s.thm := rfl
@[simp] theorem State.onEvt_prt (f : Evt → Evt) : (s.onEvt f).prt = s.prt := rfl
@[simp] theorem State.onEvt_dvt (f : Evt → Evt) : (s.onEvt f).dvt = s.dvt := rfl
@[simp] theorem State.onEvt_lsw (f : Evt → Evt) : (s.onEvt f).lsw = s.lsw := rfl
@[simp] theorem State.onEvt_lbus (f : Evt → Evt) : (s.onEvt f).lbus = s.lbus := rfl
@[simp] theorem State.onEvt_pwr (f : Evt → Evt) : (s.onEvt f).pwr = s.pwr := rfl
@[simp] theorem State.onEvt_sec (f : Evt → Evt) : (s.onEvt f).sec = s.sec := rfl
@[simp] theorem State.onEvt_mnt (f : Evt → Evt) : (s.onEvt f).mnt = s.mnt := rfl
@[simp] theorem State.onEvt_evt (f : Evt → Evt) : (s.onEvt f).evt = f s.evt := rfl
@[simp] theorem State.onEvt_req (f : Evt → Evt) : (s.onEvt f).req = s.req := rfl
@[simp] theorem State.onEvt_clock (f : Evt → Evt) : (s.onEvt f).clock = s.clock := rfl
@[simp] theorem State.onEvt_free (f : Evt → Evt) : (s.onEvt f).free = s.free := rfl
@[simp] theorem State.onEvt_outbox (f : Evt → Evt) : (s.onEvt f).outbox = s.outbox := rfl
@[simp] theorem State.onEvt_pending (f : Evt → Evt) : (s.onEvt f).pending = s.pending := rfl
@[simp] theorem State.onReq_dev (f : Req → Req) : (s.onReq f).dev = s.dev := rfl
@[simp] theorem State.onReq_eng (f : Req → Req) : (s.onReq f).eng = s.eng := rfl
@[simp] theorem State.onReq_img (f : Req → Req) : (s.onReq f).img = s.img := rfl
@[simp] theorem State.onReq_spl (f : Req → Req) : (s.onReq f).spl = s.spl := rfl
@[simp] theorem State.onReq_tim (f : Req → Req) : (s.onReq f).tim = s.tim := rfl
@[simp] theorem State.onReq_meas (f : Req → Req) : (s.onReq f).meas = s.meas := rfl
@[simp] theorem State.onReq_arm (f : Req → Req) : (s.onReq f).arm = s.arm := rfl
@[simp] theorem State.onReq_pwm (f : Req → Req) : (s.onReq f).pwm = s.pwm := rfl
@[simp] theorem State.onReq_glk (f : Req → Req) : (s.onReq f).glk = s.glk := rfl
@[simp] theorem State.onReq_chA (f : Req → Req) : (s.onReq f).chA = s.chA := rfl
@[simp] theorem State.onReq_chB (f : Req → Req) : (s.onReq f).chB = s.chB := rfl
@[simp] theorem State.onReq_snA (f : Req → Req) : (s.onReq f).snA = s.snA := rfl
@[simp] theorem State.onReq_snB (f : Req → Req) : (s.onReq f).snB = s.snB := rfl
@[simp] theorem State.onReq_esA (f : Req → Req) : (s.onReq f).esA = s.esA := rfl
@[simp] theorem State.onReq_esB (f : Req → Req) : (s.onReq f).esB = s.esB := rfl
@[simp] theorem State.onReq_est (f : Req → Req) : (s.onReq f).est = s.est := rfl
@[simp] theorem State.onReq_thm (f : Req → Req) : (s.onReq f).thm = s.thm := rfl
@[simp] theorem State.onReq_prt (f : Req → Req) : (s.onReq f).prt = s.prt := rfl
@[simp] theorem State.onReq_dvt (f : Req → Req) : (s.onReq f).dvt = s.dvt := rfl
@[simp] theorem State.onReq_lsw (f : Req → Req) : (s.onReq f).lsw = s.lsw := rfl
@[simp] theorem State.onReq_lbus (f : Req → Req) : (s.onReq f).lbus = s.lbus := rfl
@[simp] theorem State.onReq_pwr (f : Req → Req) : (s.onReq f).pwr = s.pwr := rfl
@[simp] theorem State.onReq_sec (f : Req → Req) : (s.onReq f).sec = s.sec := rfl
@[simp] theorem State.onReq_mnt (f : Req → Req) : (s.onReq f).mnt = s.mnt := rfl
@[simp] theorem State.onReq_evt (f : Req → Req) : (s.onReq f).evt = s.evt := rfl
@[simp] theorem State.onReq_req (f : Req → Req) : (s.onReq f).req = f s.req := rfl
@[simp] theorem State.onReq_clock (f : Req → Req) : (s.onReq f).clock = s.clock := rfl
@[simp] theorem State.onReq_free (f : Req → Req) : (s.onReq f).free = s.free := rfl
@[simp] theorem State.onReq_outbox (f : Req → Req) : (s.onReq f).outbox = s.outbox := rfl
@[simp] theorem State.onReq_pending (f : Req → Req) : (s.onReq f).pending = s.pending := rfl
@[simp] theorem State.withClock_dev (v : Nat) : (s.withClock v).dev = s.dev := rfl
@[simp] theorem State.withClock_eng (v : Nat) : (s.withClock v).eng = s.eng := rfl
@[simp] theorem State.withClock_img (v : Nat) : (s.withClock v).img = s.img := rfl
@[simp] theorem State.withClock_spl (v : Nat) : (s.withClock v).spl = s.spl := rfl
@[simp] theorem State.withClock_tim (v : Nat) : (s.withClock v).tim = s.tim := rfl
@[simp] theorem State.withClock_meas (v : Nat) : (s.withClock v).meas = s.meas := rfl
@[simp] theorem State.withClock_arm (v : Nat) : (s.withClock v).arm = s.arm := rfl
@[simp] theorem State.withClock_pwm (v : Nat) : (s.withClock v).pwm = s.pwm := rfl
@[simp] theorem State.withClock_glk (v : Nat) : (s.withClock v).glk = s.glk := rfl
@[simp] theorem State.withClock_chA (v : Nat) : (s.withClock v).chA = s.chA := rfl
@[simp] theorem State.withClock_chB (v : Nat) : (s.withClock v).chB = s.chB := rfl
@[simp] theorem State.withClock_snA (v : Nat) : (s.withClock v).snA = s.snA := rfl
@[simp] theorem State.withClock_snB (v : Nat) : (s.withClock v).snB = s.snB := rfl
@[simp] theorem State.withClock_esA (v : Nat) : (s.withClock v).esA = s.esA := rfl
@[simp] theorem State.withClock_esB (v : Nat) : (s.withClock v).esB = s.esB := rfl
@[simp] theorem State.withClock_est (v : Nat) : (s.withClock v).est = s.est := rfl
@[simp] theorem State.withClock_thm (v : Nat) : (s.withClock v).thm = s.thm := rfl
@[simp] theorem State.withClock_prt (v : Nat) : (s.withClock v).prt = s.prt := rfl
@[simp] theorem State.withClock_dvt (v : Nat) : (s.withClock v).dvt = s.dvt := rfl
@[simp] theorem State.withClock_lsw (v : Nat) : (s.withClock v).lsw = s.lsw := rfl
@[simp] theorem State.withClock_lbus (v : Nat) : (s.withClock v).lbus = s.lbus := rfl
@[simp] theorem State.withClock_pwr (v : Nat) : (s.withClock v).pwr = s.pwr := rfl
@[simp] theorem State.withClock_sec (v : Nat) : (s.withClock v).sec = s.sec := rfl
@[simp] theorem State.withClock_mnt (v : Nat) : (s.withClock v).mnt = s.mnt := rfl
@[simp] theorem State.withClock_evt (v : Nat) : (s.withClock v).evt = s.evt := rfl
@[simp] theorem State.withClock_req (v : Nat) : (s.withClock v).req = s.req := rfl
@[simp] theorem State.withClock_clock (v : Nat) : (s.withClock v).clock = v := rfl
@[simp] theorem State.withClock_free (v : Nat) : (s.withClock v).free = s.free := rfl
@[simp] theorem State.withClock_outbox (v : Nat) : (s.withClock v).outbox = s.outbox := rfl
@[simp] theorem State.withClock_pending (v : Nat) : (s.withClock v).pending = s.pending := rfl
@[simp] theorem State.withFree_dev (v : Nat) : (s.withFree v).dev = s.dev := rfl
@[simp] theorem State.withFree_eng (v : Nat) : (s.withFree v).eng = s.eng := rfl
@[simp] theorem State.withFree_img (v : Nat) : (s.withFree v).img = s.img := rfl
@[simp] theorem State.withFree_spl (v : Nat) : (s.withFree v).spl = s.spl := rfl
@[simp] theorem State.withFree_tim (v : Nat) : (s.withFree v).tim = s.tim := rfl
@[simp] theorem State.withFree_meas (v : Nat) : (s.withFree v).meas = s.meas := rfl
@[simp] theorem State.withFree_arm (v : Nat) : (s.withFree v).arm = s.arm := rfl
@[simp] theorem State.withFree_pwm (v : Nat) : (s.withFree v).pwm = s.pwm := rfl
@[simp] theorem State.withFree_glk (v : Nat) : (s.withFree v).glk = s.glk := rfl
@[simp] theorem State.withFree_chA (v : Nat) : (s.withFree v).chA = s.chA := rfl
@[simp] theorem State.withFree_chB (v : Nat) : (s.withFree v).chB = s.chB := rfl
@[simp] theorem State.withFree_snA (v : Nat) : (s.withFree v).snA = s.snA := rfl
@[simp] theorem State.withFree_snB (v : Nat) : (s.withFree v).snB = s.snB := rfl
@[simp] theorem State.withFree_esA (v : Nat) : (s.withFree v).esA = s.esA := rfl
@[simp] theorem State.withFree_esB (v : Nat) : (s.withFree v).esB = s.esB := rfl
@[simp] theorem State.withFree_est (v : Nat) : (s.withFree v).est = s.est := rfl
@[simp] theorem State.withFree_thm (v : Nat) : (s.withFree v).thm = s.thm := rfl
@[simp] theorem State.withFree_prt (v : Nat) : (s.withFree v).prt = s.prt := rfl
@[simp] theorem State.withFree_dvt (v : Nat) : (s.withFree v).dvt = s.dvt := rfl
@[simp] theorem State.withFree_lsw (v : Nat) : (s.withFree v).lsw = s.lsw := rfl
@[simp] theorem State.withFree_lbus (v : Nat) : (s.withFree v).lbus = s.lbus := rfl
@[simp] theorem State.withFree_pwr (v : Nat) : (s.withFree v).pwr = s.pwr := rfl
@[simp] theorem State.withFree_sec (v : Nat) : (s.withFree v).sec = s.sec := rfl
@[simp] theorem State.withFree_mnt (v : Nat) : (s.withFree v).mnt = s.mnt := rfl
@[simp] theorem State.withFree_evt (v : Nat) : (s.withFree v).evt = s.evt := rfl
@[simp] theorem State.withFree_req (v : Nat) : (s.withFree v).req = s.req := rfl
@[simp] theorem State.withFree_clock (v : Nat) : (s.withFree v).clock = s.clock := rfl
@[simp] theorem State.withFree_free (v : Nat) : (s.withFree v).free = v := rfl
@[simp] theorem State.withFree_outbox (v : Nat) : (s.withFree v).outbox = s.outbox := rfl
@[simp] theorem State.withFree_pending (v : Nat) : (s.withFree v).pending = s.pending := rfl
@[simp] theorem State.withOutbox_dev (v : List Out) : (s.withOutbox v).dev = s.dev := rfl
@[simp] theorem State.withOutbox_eng (v : List Out) : (s.withOutbox v).eng = s.eng := rfl
@[simp] theorem State.withOutbox_img (v : List Out) : (s.withOutbox v).img = s.img := rfl
@[simp] theorem State.withOutbox_spl (v : List Out) : (s.withOutbox v).spl = s.spl := rfl
@[simp] theorem State.withOutbox_tim (v : List Out) : (s.withOutbox v).tim = s.tim := rfl
@[simp] theorem State.withOutbox_meas (v : List Out) : (s.withOutbox v).meas = s.meas := rfl
@[simp] theorem State.withOutbox_arm (v : List Out) : (s.withOutbox v).arm = s.arm := rfl
@[simp] theorem State.withOutbox_pwm (v : List Out) : (s.withOutbox v).pwm = s.pwm := rfl
@[simp] theorem State.withOutbox_glk (v : List Out) : (s.withOutbox v).glk = s.glk := rfl
@[simp] theorem State.withOutbox_chA (v : List Out) : (s.withOutbox v).chA = s.chA := rfl
@[simp] theorem State.withOutbox_chB (v : List Out) : (s.withOutbox v).chB = s.chB := rfl
@[simp] theorem State.withOutbox_snA (v : List Out) : (s.withOutbox v).snA = s.snA := rfl
@[simp] theorem State.withOutbox_snB (v : List Out) : (s.withOutbox v).snB = s.snB := rfl
@[simp] theorem State.withOutbox_esA (v : List Out) : (s.withOutbox v).esA = s.esA := rfl
@[simp] theorem State.withOutbox_esB (v : List Out) : (s.withOutbox v).esB = s.esB := rfl
@[simp] theorem State.withOutbox_est (v : List Out) : (s.withOutbox v).est = s.est := rfl
@[simp] theorem State.withOutbox_thm (v : List Out) : (s.withOutbox v).thm = s.thm := rfl
@[simp] theorem State.withOutbox_prt (v : List Out) : (s.withOutbox v).prt = s.prt := rfl
@[simp] theorem State.withOutbox_dvt (v : List Out) : (s.withOutbox v).dvt = s.dvt := rfl
@[simp] theorem State.withOutbox_lsw (v : List Out) : (s.withOutbox v).lsw = s.lsw := rfl
@[simp] theorem State.withOutbox_lbus (v : List Out) : (s.withOutbox v).lbus = s.lbus := rfl
@[simp] theorem State.withOutbox_pwr (v : List Out) : (s.withOutbox v).pwr = s.pwr := rfl
@[simp] theorem State.withOutbox_sec (v : List Out) : (s.withOutbox v).sec = s.sec := rfl
@[simp] theorem State.withOutbox_mnt (v : List Out) : (s.withOutbox v).mnt = s.mnt := rfl
@[simp] theorem State.withOutbox_evt (v : List Out) : (s.withOutbox v).evt = s.evt := rfl
@[simp] theorem State.withOutbox_req (v : List Out) : (s.withOutbox v).req = s.req := rfl
@[simp] theorem State.withOutbox_clock (v : List Out) : (s.withOutbox v).clock = s.clock := rfl
@[simp] theorem State.withOutbox_free (v : List Out) : (s.withOutbox v).free = s.free := rfl
@[simp] theorem State.withOutbox_outbox (v : List Out) : (s.withOutbox v).outbox = v := rfl
@[simp] theorem State.withOutbox_pending (v : List Out) : (s.withOutbox v).pending = s.pending := rfl
@[simp] theorem State.withPending_dev (v : List Instr) : (s.withPending v).dev = s.dev := rfl
@[simp] theorem State.withPending_eng (v : List Instr) : (s.withPending v).eng = s.eng := rfl
@[simp] theorem State.withPending_img (v : List Instr) : (s.withPending v).img = s.img := rfl
@[simp] theorem State.withPending_spl (v : List Instr) : (s.withPending v).spl = s.spl := rfl
@[simp] theorem State.withPending_tim (v : List Instr) : (s.withPending v).tim = s.tim := rfl
@[simp] theorem State.withPending_meas (v : List Instr) : (s.withPending v).meas = s.meas := rfl
@[simp] theorem State.withPending_arm (v : List Instr) : (s.withPending v).arm = s.arm := rfl
@[simp] theorem State.withPending_pwm (v : List Instr) : (s.withPending v).pwm = s.pwm := rfl
@[simp] theorem State.withPending_glk (v : List Instr) : (s.withPending v).glk = s.glk := rfl
@[simp] theorem State.withPending_chA (v : List Instr) : (s.withPending v).chA = s.chA := rfl
@[simp] theorem State.withPending_chB (v : List Instr) : (s.withPending v).chB = s.chB := rfl
@[simp] theorem State.withPending_snA (v : List Instr) : (s.withPending v).snA = s.snA := rfl
@[simp] theorem State.withPending_snB (v : List Instr) : (s.withPending v).snB = s.snB := rfl
@[simp] theorem State.withPending_esA (v : List Instr) : (s.withPending v).esA = s.esA := rfl
@[simp] theorem State.withPending_esB (v : List Instr) : (s.withPending v).esB = s.esB := rfl
@[simp] theorem State.withPending_est (v : List Instr) : (s.withPending v).est = s.est := rfl
@[simp] theorem State.withPending_thm (v : List Instr) : (s.withPending v).thm = s.thm := rfl
@[simp] theorem State.withPending_prt (v : List Instr) : (s.withPending v).prt = s.prt := rfl
@[simp] theorem State.withPending_dvt (v : List Instr) : (s.withPending v).dvt = s.dvt := rfl
@[simp] theorem State.withPending_lsw (v : List Instr) : (s.withPending v).lsw = s.lsw := rfl
@[simp] theorem State.withPending_lbus (v : List Instr) : (s.withPending v).lbus = s.lbus := rfl
@[simp] theorem State.withPending_pwr (v : List Instr) : (s.withPending v).pwr = s.pwr := rfl
@[simp] theorem State.withPending_sec (v : List Instr) : (s.withPending v).sec = s.sec := rfl
@[simp] theorem State.withPending_mnt (v : List Instr) : (s.withPending v).mnt = s.mnt := rfl
@[simp] theorem State.withPending_evt (v : List Instr) : (s.withPending v).evt = s.evt := rfl
@[simp] theorem State.withPending_req (v : List Instr) : (s.withPending v).req = s.req := rfl
@[simp] theorem State.withPending_clock (v : List Instr) : (s.withPending v).clock = s.clock := rfl
@[simp] theorem State.withPending_free (v : List Instr) : (s.withPending v).free = s.free := rfl
@[simp] theorem State.withPending_outbox (v : List Instr) : (s.withPending v).outbox = s.outbox := rfl
@[simp] theorem State.withPending_pending (v : List Instr) : (s.withPending v).pending = v := rfl

end Sys2Proof.Machine
end

