-- ==== Sys2Proof/Laws/Frame.lean ====
section
/-! SUPPORT. Frames as equations: `s.drop m` is the state without the parts that the mask `m` names, so that an
operation changes nothing outside `m` if and only if `drop m` does not see it. -/

set_option Elab.async false

namespace Sys2Proof.Machine

/-- The bit of a part in a mask. -/
def Block.idx : Block → Nat
  | .part => 0
  | .phase => 1
  | .dev => 2
  | .eng => 3
  | .slots => 4
  | .image => 5
  | .img => 6
  | .spl => 7
  | .tim => 8
  | .meas => 9
  | .cell => 10
  | .token => 11
  | .bypass => 12
  | .arm => 13
  | .pwm => 14
  | .glk => 15
  | .chA => 16
  | .chB => 17
  | .snA => 18
  | .snB => 19
  | .esA => 20
  | .esB => 21
  | .est => 22
  | .thm => 23
  | .prt => 24
  | .dvt => 25
  | .lsw => 26
  | .lbus => 27
  | .stages => 28
  | .pwr => 29
  | .life => 30
  | .sec => 31
  | .mnt => 32
  | .evt => 33
  | .req => 34
  | .clock => 35
  | .free => 36
  | .outbox => 37
  | .pending => 38
  | .legs => 39
  | .raised => 40
  | .log => 41
  | .switch => 42
  | .shutdown => 43

/-- The mask of a list of parts. -/
def blockMask (bs : List Block) : Nat := bs.foldr (fun b m => m ||| 2 ^ b.idx) 0

/-- The state without the parts that the mask names: each is put to its reset value. -/
def State.drop (m : Nat) (s : State) : State :=
  { dev := bif m.testBit 2 then { ({} : Dev) with 
        part := bif m.testBit 0 then ({} : Dev).part else s.dev.part
        phase := bif m.testBit 1 then ({} : Dev).phase else s.dev.phase } else s.dev
    eng := bif m.testBit 3 then {} else s.eng
    img := bif m.testBit 6 then { ({} : Img) with 
        slotA := bif m.testBit 4 then ({} : Img).slotA else s.img.slotA
        slotB := bif m.testBit 4 then ({} : Img).slotB else s.img.slotB
        active := bif m.testBit 5 then ({} : Img).active else s.img.active } else s.img
    spl := bif m.testBit 7 then {} else s.spl
    tim := bif m.testBit 8 then {} else s.tim
    meas := bif m.testBit 9 then {} else s.meas
    arm := bif m.testBit 13 then { ({} : Arm) with 
        cell := bif m.testBit 10 then ({} : Arm).cell else s.arm.cell
        changes := bif m.testBit 10 then ({} : Arm).changes else s.arm.changes
        owner := bif m.testBit 11 then ({} : Arm).owner else s.arm.owner
        bypassed := bif m.testBit 12 then ({} : Arm).bypassed else s.arm.bypassed } else s.arm
    pwm := bif m.testBit 14 then {} else s.pwm
    glk := bif m.testBit 15 then { ({} : Glk) with 
        legA := bif m.testBit 39 then ({} : Glk).legA else s.glk.legA
        legB := bif m.testBit 39 then ({} : Glk).legB else s.glk.legB
        fireHold := bif m.testBit 42 then ({} : Glk).fireHold else s.glk.fireHold
        fireAll := bif m.testBit 42 then ({} : Glk).fireAll else s.glk.fireAll
        closeAsserted := bif m.testBit 42 then ({} : Glk).closeAsserted else s.glk.closeAsserted
        closeDue := bif m.testBit 42 then ({} : Glk).closeDue else s.glk.closeDue
        statClosed := bif m.testBit 42 then ({} : Glk).statClosed else s.glk.statClosed } else s.glk
    chA := bif m.testBit 16 then {} else s.chA
    chB := bif m.testBit 17 then {} else s.chB
    snA := bif m.testBit 18 then {} else s.snA
    snB := bif m.testBit 19 then {} else s.snB
    esA := bif m.testBit 20 then {} else s.esA
    esB := bif m.testBit 21 then {} else s.esB
    est := bif m.testBit 22 then {} else s.est
    thm := bif m.testBit 23 then { ({} : Thm) with 
        sdHotA := bif m.testBit 43 then ({} : Thm).sdHotA else s.thm.sdHotA
        sdHotB := bif m.testBit 43 then ({} : Thm).sdHotB else s.thm.sdHotB
        sdColdA := bif m.testBit 43 then ({} : Thm).sdColdA else s.thm.sdColdA
        sdColdB := bif m.testBit 43 then ({} : Thm).sdColdB else s.thm.sdColdB } else s.thm
    prt := bif m.testBit 24 then { ({} : Prt) with 
        active := bif m.testBit 40 then ({} : Prt).active else s.prt.active
        pulsed := bif m.testBit 40 then ({} : Prt).pulsed else s.prt.pulsed } else s.prt
    dvt := bif m.testBit 25 then {} else s.dvt
    lsw := bif m.testBit 26 then {} else s.lsw
    lbus := bif m.testBit 27 then {} else s.lbus
    pwr := bif m.testBit 29 then { ({} : Pwr) with 
        s1 := bif m.testBit 28 then ({} : Pwr).s1 else s.pwr.s1
        s2 := bif m.testBit 28 then ({} : Pwr).s2 else s.pwr.s2
        s3 := bif m.testBit 28 then ({} : Pwr).s3 else s.pwr.s3
        s4 := bif m.testBit 28 then ({} : Pwr).s4 else s.pwr.s4 } else s.pwr
    sec := bif m.testBit 31 then { ({} : Sec) with 
        life := bif m.testBit 30 then ({} : Sec).life else s.sec.life } else s.sec
    mnt := bif m.testBit 32 then {} else s.mnt
    evt := bif m.testBit 33 then { ({} : Evt) with 
        nvm := bif m.testBit 41 then ({} : Evt).nvm else s.evt.nvm
        nvmPos := bif m.testBit 41 then ({} : Evt).nvmPos else s.evt.nvmPos
        wrapped := bif m.testBit 41 then ({} : Evt).wrapped else s.evt.wrapped } else s.evt
    req := bif m.testBit 34 then {} else s.req
    clock := bif m.testBit 35 then 0 else s.clock
    free := bif m.testBit 36 then 0 else s.free
    outbox := bif m.testBit 37 then [] else s.outbox
    pending := bif m.testBit 38 then [] else s.pending }

theorem bit_of_and {m : Nat} (i : Nat) (h : m &&& 2 ^ i = 2 ^ i) : m.testBit i = true := by
  have g : (m &&& 2 ^ i).testBit i = (2 ^ i).testBit i := by rw [h]
  simpa using g

theorem State.onDev_drop {m : Nat} {s : State} {f : Dev → Dev} (h : m &&& 4 = 4)
    (h00 : m &&& 1 = 1 ∨ ∀ x, (f x).part = x.part)
    (h10 : m &&& 2 = 2 ∨ ∀ x, (f x).phase = x.phase) :
    (s.onDev f).drop m = s.drop m := by
  have kh00 : (bif m.testBit 0 then ({} : Dev).part else (f s.dev).part) =
      bif m.testBit 0 then ({} : Dev).part else s.dev.part := by
    rcases h00 with g | g
    · simp only [bit_of_and 0 g, cond_true]
    · rw [g]
  have kh10 : (bif m.testBit 1 then ({} : Dev).phase else (f s.dev).phase) =
      bif m.testBit 1 then ({} : Dev).phase else s.dev.phase := by
    rcases h10 with g | g
    · simp only [bit_of_and 1 g, cond_true]
    · rw [g]
  simp only [State.drop, State.onDev, bit_of_and 2 h, cond_true, kh00, kh10]

theorem State.onEng_drop {m : Nat} {s : State} {f : Eng → Eng} (h : m &&& 8 = 8) :
    (s.onEng f).drop m = s.drop m := by
  simp only [State.drop, State.onEng, bit_of_and 3 h, cond_true]

theorem State.onImg_drop {m : Nat} {s : State} {f : Img → Img} (h : m &&& 64 = 64)
    (h00 : m &&& 16 = 16 ∨ ∀ x, (f x).slotA = x.slotA)
    (h01 : m &&& 16 = 16 ∨ ∀ x, (f x).slotB = x.slotB)
    (h10 : m &&& 32 = 32 ∨ ∀ x, (f x).active = x.active) :
    (s.onImg f).drop m = s.drop m := by
  have kh00 : (bif m.testBit 4 then ({} : Img).slotA else (f s.img).slotA) =
      bif m.testBit 4 then ({} : Img).slotA else s.img.slotA := by
    rcases h00 with g | g
    · simp only [bit_of_and 4 g, cond_true]
    · rw [g]
  have kh01 : (bif m.testBit 4 then ({} : Img).slotB else (f s.img).slotB) =
      bif m.testBit 4 then ({} : Img).slotB else s.img.slotB := by
    rcases h01 with g | g
    · simp only [bit_of_and 4 g, cond_true]
    · rw [g]
  have kh10 : (bif m.testBit 5 then ({} : Img).active else (f s.img).active) =
      bif m.testBit 5 then ({} : Img).active else s.img.active := by
    rcases h10 with g | g
    · simp only [bit_of_and 5 g, cond_true]
    · rw [g]
  simp only [State.drop, State.onImg, bit_of_and 6 h, cond_true, kh00, kh01, kh10]

theorem State.onSpl_drop {m : Nat} {s : State} {f : Spl → Spl} (h : m &&& 128 = 128) :
    (s.onSpl f).drop m = s.drop m := by
  simp only [State.drop, State.onSpl, bit_of_and 7 h, cond_true]

theorem State.onTim_drop {m : Nat} {s : State} {f : Tim → Tim} (h : m &&& 256 = 256) :
    (s.onTim f).drop m = s.drop m := by
  simp only [State.drop, State.onTim, bit_of_and 8 h, cond_true]

theorem State.onMeas_drop {m : Nat} {s : State} {f : Meas → Meas} (h : m &&& 512 = 512) :
    (s.onMeas f).drop m = s.drop m := by
  simp only [State.drop, State.onMeas, bit_of_and 9 h, cond_true]

theorem State.onArm_drop {m : Nat} {s : State} {f : Arm → Arm} (h : m &&& 8192 = 8192)
    (h00 : m &&& 1024 = 1024 ∨ ∀ x, (f x).cell = x.cell)
    (h01 : m &&& 1024 = 1024 ∨ ∀ x, (f x).changes = x.changes)
    (h10 : m &&& 2048 = 2048 ∨ ∀ x, (f x).owner = x.owner)
    (h20 : m &&& 4096 = 4096 ∨ ∀ x, (f x).bypassed = x.bypassed) :
    (s.onArm f).drop m = s.drop m := by
  have kh00 : (bif m.testBit 10 then ({} : Arm).cell else (f s.arm).cell) =
      bif m.testBit 10 then ({} : Arm).cell else s.arm.cell := by
    rcases h00 with g | g
    · simp only [bit_of_and 10 g, cond_true]
    · rw [g]
  have kh01 : (bif m.testBit 10 then ({} : Arm).changes else (f s.arm).changes) =
      bif m.testBit 10 then ({} : Arm).changes else s.arm.changes := by
    rcases h01 with g | g
    · simp only [bit_of_and 10 g, cond_true]
    · rw [g]
  have kh10 : (bif m.testBit 11 then ({} : Arm).owner else (f s.arm).owner) =
      bif m.testBit 11 then ({} : Arm).owner else s.arm.owner := by
    rcases h10 with g | g
    · simp only [bit_of_and 11 g, cond_true]
    · rw [g]
  have kh20 : (bif m.testBit 12 then ({} : Arm).bypassed else (f s.arm).bypassed) =
      bif m.testBit 12 then ({} : Arm).bypassed else s.arm.bypassed := by
    rcases h20 with g | g
    · simp only [bit_of_and 12 g, cond_true]
    · rw [g]
  simp only [State.drop, State.onArm, bit_of_and 13 h, cond_true, kh00, kh01, kh10, kh20]

theorem State.onPwm_drop {m : Nat} {s : State} {f : Pwm → Pwm} (h : m &&& 16384 = 16384) :
    (s.onPwm f).drop m = s.drop m := by
  simp only [State.drop, State.onPwm, bit_of_and 14 h, cond_true]

theorem State.onGlk_drop {m : Nat} {s : State} {f : Glk → Glk} (h : m &&& 32768 = 32768)
    (h00 : m &&& 549755813888 = 549755813888 ∨ ∀ x, (f x).legA = x.legA)
    (h01 : m &&& 549755813888 = 549755813888 ∨ ∀ x, (f x).legB = x.legB)
    (h10 : m &&& 4398046511104 = 4398046511104 ∨ ∀ x, (f x).fireHold = x.fireHold)
    (h11 : m &&& 4398046511104 = 4398046511104 ∨ ∀ x, (f x).fireAll = x.fireAll)
    (h12 : m &&& 4398046511104 = 4398046511104 ∨ ∀ x, (f x).closeAsserted = x.closeAsserted)
    (h13 : m &&& 4398046511104 = 4398046511104 ∨ ∀ x, (f x).closeDue = x.closeDue)
    (h14 : m &&& 4398046511104 = 4398046511104 ∨ ∀ x, (f x).statClosed = x.statClosed) :
    (s.onGlk f).drop m = s.drop m := by
  have kh00 : (bif m.testBit 39 then ({} : Glk).legA else (f s.glk).legA) =
      bif m.testBit 39 then ({} : Glk).legA else s.glk.legA := by
    rcases h00 with g | g
    · simp only [bit_of_and 39 g, cond_true]
    · rw [g]
  have kh01 : (bif m.testBit 39 then ({} : Glk).legB else (f s.glk).legB) =
      bif m.testBit 39 then ({} : Glk).legB else s.glk.legB := by
    rcases h01 with g | g
    · simp only [bit_of_and 39 g, cond_true]
    · rw [g]
  have kh10 : (bif m.testBit 42 then ({} : Glk).fireHold else (f s.glk).fireHold) =
      bif m.testBit 42 then ({} : Glk).fireHold else s.glk.fireHold := by
    rcases h10 with g | g
    · simp only [bit_of_and 42 g, cond_true]
    · rw [g]
  have kh11 : (bif m.testBit 42 then ({} : Glk).fireAll else (f s.glk).fireAll) =
      bif m.testBit 42 then ({} : Glk).fireAll else s.glk.fireAll := by
    rcases h11 with g | g
    · simp only [bit_of_and 42 g, cond_true]
    · rw [g]
  have kh12 : (bif m.testBit 42 then ({} : Glk).closeAsserted else (f s.glk).closeAsserted) =
      bif m.testBit 42 then ({} : Glk).closeAsserted else s.glk.closeAsserted := by
    rcases h12 with g | g
    · simp only [bit_of_and 42 g, cond_true]
    · rw [g]
  have kh13 : (bif m.testBit 42 then ({} : Glk).closeDue else (f s.glk).closeDue) =
      bif m.testBit 42 then ({} : Glk).closeDue else s.glk.closeDue := by
    rcases h13 with g | g
    · simp only [bit_of_and 42 g, cond_true]
    · rw [g]
  have kh14 : (bif m.testBit 42 then ({} : Glk).statClosed else (f s.glk).statClosed) =
      bif m.testBit 42 then ({} : Glk).statClosed else s.glk.statClosed := by
    rcases h14 with g | g
    · simp only [bit_of_and 42 g, cond_true]
    · rw [g]
  simp only [State.drop, State.onGlk, bit_of_and 15 h, cond_true, kh00, kh01, kh10, kh11, kh12, kh13, kh14]

theorem State.onChA_drop {m : Nat} {s : State} {f : Chain → Chain} (h : m &&& 65536 = 65536) :
    (s.onChA f).drop m = s.drop m := by
  simp only [State.drop, State.onChA, bit_of_and 16 h, cond_true]

theorem State.onChB_drop {m : Nat} {s : State} {f : Chain → Chain} (h : m &&& 131072 = 131072) :
    (s.onChB f).drop m = s.drop m := by
  simp only [State.drop, State.onChB, bit_of_and 17 h, cond_true]

theorem State.onSnA_drop {m : Nat} {s : State} {f : Sen → Sen} (h : m &&& 262144 = 262144) :
    (s.onSnA f).drop m = s.drop m := by
  simp only [State.drop, State.onSnA, bit_of_and 18 h, cond_true]

theorem State.onSnB_drop {m : Nat} {s : State} {f : Sen → Sen} (h : m &&& 524288 = 524288) :
    (s.onSnB f).drop m = s.drop m := by
  simp only [State.drop, State.onSnB, bit_of_and 19 h, cond_true]

theorem State.onEsA_drop {m : Nat} {s : State} {f : EstCh → EstCh} (h : m &&& 1048576 = 1048576) :
    (s.onEsA f).drop m = s.drop m := by
  simp only [State.drop, State.onEsA, bit_of_and 20 h, cond_true]

theorem State.onEsB_drop {m : Nat} {s : State} {f : EstCh → EstCh} (h : m &&& 2097152 = 2097152) :
    (s.onEsB f).drop m = s.drop m := by
  simp only [State.drop, State.onEsB, bit_of_and 21 h, cond_true]

theorem State.onEst_drop {m : Nat} {s : State} {f : Est → Est} (h : m &&& 4194304 = 4194304) :
    (s.onEst f).drop m = s.drop m := by
  simp only [State.drop, State.onEst, bit_of_and 22 h, cond_true]

theorem State.onThm_drop {m : Nat} {s : State} {f : Thm → Thm} (h : m &&& 8388608 = 8388608)
    (h00 : m &&& 8796093022208 = 8796093022208 ∨ ∀ x, (f x).sdHotA = x.sdHotA)
    (h01 : m &&& 8796093022208 = 8796093022208 ∨ ∀ x, (f x).sdHotB = x.sdHotB)
    (h02 : m &&& 8796093022208 = 8796093022208 ∨ ∀ x, (f x).sdColdA = x.sdColdA)
    (h03 : m &&& 8796093022208 = 8796093022208 ∨ ∀ x, (f x).sdColdB = x.sdColdB) :
    (s.onThm f).drop m = s.drop m := by
  have kh00 : (bif m.testBit 43 then ({} : Thm).sdHotA else (f s.thm).sdHotA) =
      bif m.testBit 43 then ({} : Thm).sdHotA else s.thm.sdHotA := by
    rcases h00 with g | g
    · simp only [bit_of_and 43 g, cond_true]
    · rw [g]
  have kh01 : (bif m.testBit 43 then ({} : Thm).sdHotB else (f s.thm).sdHotB) =
      bif m.testBit 43 then ({} : Thm).sdHotB else s.thm.sdHotB := by
    rcases h01 with g | g
    · simp only [bit_of_and 43 g, cond_true]
    · rw [g]
  have kh02 : (bif m.testBit 43 then ({} : Thm).sdColdA else (f s.thm).sdColdA) =
      bif m.testBit 43 then ({} : Thm).sdColdA else s.thm.sdColdA := by
    rcases h02 with g | g
    · simp only [bit_of_and 43 g, cond_true]
    · rw [g]
  have kh03 : (bif m.testBit 43 then ({} : Thm).sdColdB else (f s.thm).sdColdB) =
      bif m.testBit 43 then ({} : Thm).sdColdB else s.thm.sdColdB := by
    rcases h03 with g | g
    · simp only [bit_of_and 43 g, cond_true]
    · rw [g]
  simp only [State.drop, State.onThm, bit_of_and 23 h, cond_true, kh00, kh01, kh02, kh03]

theorem State.onPrt_drop {m : Nat} {s : State} {f : Prt → Prt} (h : m &&& 16777216 = 16777216)
    (h00 : m &&& 1099511627776 = 1099511627776 ∨ ∀ x, (f x).active = x.active)
    (h01 : m &&& 1099511627776 = 1099511627776 ∨ ∀ x, (f x).pulsed = x.pulsed) :
    (s.onPrt f).drop m = s.drop m := by
  have kh00 : (bif m.testBit 40 then ({} : Prt).active else (f s.prt).active) =
      bif m.testBit 40 then ({} : Prt).active else s.prt.active := by
    rcases h00 with g | g
    · simp only [bit_of_and 40 g, cond_true]
    · rw [g]
  have kh01 : (bif m.testBit 40 then ({} : Prt).pulsed else (f s.prt).pulsed) =
      bif m.testBit 40 then ({} : Prt).pulsed else s.prt.pulsed := by
    rcases h01 with g | g
    · simp only [bit_of_and 40 g, cond_true]
    · rw [g]
  simp only [State.drop, State.onPrt, bit_of_and 24 h, cond_true, kh00, kh01]

theorem State.onDvt_drop {m : Nat} {s : State} {f : Dvt → Dvt} (h : m &&& 33554432 = 33554432) :
    (s.onDvt f).drop m = s.drop m := by
  simp only [State.drop, State.onDvt, bit_of_and 25 h, cond_true]

theorem State.onLsw_drop {m : Nat} {s : State} {f : Lsw → Lsw} (h : m &&& 67108864 = 67108864) :
    (s.onLsw f).drop m = s.drop m := by
  simp only [State.drop, State.onLsw, bit_of_and 26 h, cond_true]

theorem State.onLbus_drop {m : Nat} {s : State} {f : Lbus → Lbus} (h : m &&& 134217728 = 134217728) :
    (s.onLbus f).drop m = s.drop m := by
  simp only [State.drop, State.onLbus, bit_of_and 27 h, cond_true]

theorem State.onPwr_drop {m : Nat} {s : State} {f : Pwr → Pwr} (h : m &&& 536870912 = 536870912)
    (h00 : m &&& 268435456 = 268435456 ∨ ∀ x, (f x).s1 = x.s1)
    (h01 : m &&& 268435456 = 268435456 ∨ ∀ x, (f x).s2 = x.s2)
    (h02 : m &&& 268435456 = 268435456 ∨ ∀ x, (f x).s3 = x.s3)
    (h03 : m &&& 268435456 = 268435456 ∨ ∀ x, (f x).s4 = x.s4) :
    (s.onPwr f).drop m = s.drop m := by
  have kh00 : (bif m.testBit 28 then ({} : Pwr).s1 else (f s.pwr).s1) =
      bif m.testBit 28 then ({} : Pwr).s1 else s.pwr.s1 := by
    rcases h00 with g | g
    · simp only [bit_of_and 28 g, cond_true]
    · rw [g]
  have kh01 : (bif m.testBit 28 then ({} : Pwr).s2 else (f s.pwr).s2) =
      bif m.testBit 28 then ({} : Pwr).s2 else s.pwr.s2 := by
    rcases h01 with g | g
    · simp only [bit_of_and 28 g, cond_true]
    · rw [g]
  have kh02 : (bif m.testBit 28 then ({} : Pwr).s3 else (f s.pwr).s3) =
      bif m.testBit 28 then ({} : Pwr).s3 else s.pwr.s3 := by
    rcases h02 with g | g
    · simp only [bit_of_and 28 g, cond_true]
    · rw [g]
  have kh03 : (bif m.testBit 28 then ({} : Pwr).s4 else (f s.pwr).s4) =
      bif m.testBit 28 then ({} : Pwr).s4 else s.pwr.s4 := by
    rcases h03 with g | g
    · simp only [bit_of_and 28 g, cond_true]
    · rw [g]
  simp only [State.drop, State.onPwr, bit_of_and 29 h, cond_true, kh00, kh01, kh02, kh03]

theorem State.onSec_drop {m : Nat} {s : State} {f : Sec → Sec} (h : m &&& 2147483648 = 2147483648)
    (h00 : m &&& 1073741824 = 1073741824 ∨ ∀ x, (f x).life = x.life) :
    (s.onSec f).drop m = s.drop m := by
  have kh00 : (bif m.testBit 30 then ({} : Sec).life else (f s.sec).life) =
      bif m.testBit 30 then ({} : Sec).life else s.sec.life := by
    rcases h00 with g | g
    · simp only [bit_of_and 30 g, cond_true]
    · rw [g]
  simp only [State.drop, State.onSec, bit_of_and 31 h, cond_true, kh00]

theorem State.onMnt_drop {m : Nat} {s : State} {f : Mnt → Mnt} (h : m &&& 4294967296 = 4294967296) :
    (s.onMnt f).drop m = s.drop m := by
  simp only [State.drop, State.onMnt, bit_of_and 32 h, cond_true]

/-! Raising an event leaves the stored log alone. -/

@[simp] theorem Evt.log_nvm (e : Evt) (x : Event) : (e.log x).nvm = e.nvm := by unfold Evt.log; split <;> rfl
@[simp] theorem Evt.wait_nvm (e : Evt) (x : Event) : (e.wait x).nvm = e.nvm := by unfold Evt.wait; split <;> rfl
@[simp] theorem Evt.raise_nvm (e : Evt) (w : Bool) (x : Event) : (e.raise w x).nvm = e.nvm := by
  cases w
  · exact e.log_nvm x
  · exact e.wait_nvm x
@[simp] theorem Evt.log_nvmPos (e : Evt) (x : Event) : (e.log x).nvmPos = e.nvmPos := by unfold Evt.log; split <;> rfl
@[simp] theorem Evt.wait_nvmPos (e : Evt) (x : Event) : (e.wait x).nvmPos = e.nvmPos := by unfold Evt.wait; split <;> rfl
@[simp] theorem Evt.raise_nvmPos (e : Evt) (w : Bool) (x : Event) : (e.raise w x).nvmPos = e.nvmPos := by
  cases w
  · exact e.log_nvmPos x
  · exact e.wait_nvmPos x
@[simp] theorem Evt.log_wrapped (e : Evt) (x : Event) : (e.log x).wrapped = e.wrapped := by unfold Evt.log; split <;> rfl
@[simp] theorem Evt.wait_wrapped (e : Evt) (x : Event) : (e.wait x).wrapped = e.wrapped := by unfold Evt.wait; split <;> rfl
@[simp] theorem Evt.raise_wrapped (e : Evt) (w : Bool) (x : Event) : (e.raise w x).wrapped = e.wrapped := by
  cases w
  · exact e.log_wrapped x
  · exact e.wait_wrapped x

theorem State.onEvt_drop {m : Nat} {s : State} {f : Evt → Evt} (h : m &&& 8589934592 = 8589934592)
    (h00 : m &&& 2199023255552 = 2199023255552 ∨ ∀ x, (f x).nvm = x.nvm)
    (h01 : m &&& 2199023255552 = 2199023255552 ∨ ∀ x, (f x).nvmPos = x.nvmPos)
    (h02 : m &&& 2199023255552 = 2199023255552 ∨ ∀ x, (f x).wrapped = x.wrapped) :
    (s.onEvt f).drop m = s.drop m := by
  have kh00 : (bif m.testBit 41 then ({} : Evt).nvm else (f s.evt).nvm) =
      bif m.testBit 41 then ({} : Evt).nvm else s.evt.nvm := by
    rcases h00 with g | g
    · simp only [bit_of_and 41 g, cond_true]
    · rw [g]
  have kh01 : (bif m.testBit 41 then ({} : Evt).nvmPos else (f s.evt).nvmPos) =
      bif m.testBit 41 then ({} : Evt).nvmPos else s.evt.nvmPos := by
    rcases h01 with g | g
    · simp only [bit_of_and 41 g, cond_true]
    · rw [g]
  have kh02 : (bif m.testBit 41 then ({} : Evt).wrapped else (f s.evt).wrapped) =
      bif m.testBit 41 then ({} : Evt).wrapped else s.evt.wrapped := by
    rcases h02 with g | g
    · simp only [bit_of_and 41 g, cond_true]
    · rw [g]
  simp only [State.drop, State.onEvt, bit_of_and 33 h, cond_true, kh00, kh01, kh02]

theorem State.onReq_drop {m : Nat} {s : State} {f : Req → Req} (h : m &&& 17179869184 = 17179869184) :
    (s.onReq f).drop m = s.drop m := by
  simp only [State.drop, State.onReq, bit_of_and 34 h, cond_true]

theorem State.withClock_drop {m : Nat} {s : State} {v : Nat} (h : m &&& 34359738368 = 34359738368) :
    (s.withClock v).drop m = s.drop m := by
  simp only [State.drop, State.withClock, bit_of_and 35 h, cond_true]

theorem State.withFree_drop {m : Nat} {s : State} {v : Nat} (h : m &&& 68719476736 = 68719476736) :
    (s.withFree v).drop m = s.drop m := by
  simp only [State.drop, State.withFree, bit_of_and 36 h, cond_true]

theorem State.withOutbox_drop {m : Nat} {s : State} {v : List Out} (h : m &&& 137438953472 = 137438953472) :
    (s.withOutbox v).drop m = s.drop m := by
  simp only [State.drop, State.withOutbox, bit_of_and 37 h, cond_true]

theorem State.withPending_drop {m : Nat} {s : State} {v : List Instr} (h : m &&& 274877906944 = 274877906944) :
    (s.withPending v).drop m = s.drop m := by
  simp only [State.drop, State.withPending, bit_of_and 38 h, cond_true]

/-- A part that the mask does not name is the same in two states that the mask makes equal. -/
theorem same_of_drop {m : Nat} {s t : State} (h : t.drop m = s.drop m) (b : Block) (hb : m.testBit b.idx = false) :
    b.same s t := by
  cases b <;> simp only [Block.idx] at hb <;> simp only [Block.same]
  · -- part
    have e := congrArg (fun x => x.dev) h
    cases hp : m.testBit 2
    · simp only [State.drop, hp, cond_false] at e; simp [e]
    · simp only [State.drop, hp, hb, cond_true, cond_false] at e
      simp only [Dev.mk.injEq] at e
      simp [e]
  · -- phase
    have e := congrArg (fun x => x.dev) h
    cases hp : m.testBit 2
    · simp only [State.drop, hp, cond_false] at e; simp [e]
    · simp only [State.drop, hp, hb, cond_true, cond_false] at e
      simp only [Dev.mk.injEq] at e
      simp [e]
  · -- dev
    have e := congrArg (fun x => x.dev) h; simpa only [State.drop, hb, cond_false] using e
  · -- eng
    have e := congrArg (fun x => x.eng) h; simpa only [State.drop, hb, cond_false] using e
  · -- slots
    have e := congrArg (fun x => x.img) h
    cases hp : m.testBit 6
    · simp only [State.drop, hp, cond_false] at e; simp [e]
    · simp only [State.drop, hp, hb, cond_true, cond_false] at e
      simp only [Img.mk.injEq] at e
      simp [e]
  · -- image
    have e := congrArg (fun x => x.img) h
    cases hp : m.testBit 6
    · simp only [State.drop, hp, cond_false] at e; simp [e]
    · simp only [State.drop, hp, hb, cond_true, cond_false] at e
      simp only [Img.mk.injEq] at e
      simp [e]
  · -- img
    have e := congrArg (fun x => x.img) h; simpa only [State.drop, hb, cond_false] using e
  · -- spl
    have e := congrArg (fun x => x.spl) h; simpa only [State.drop, hb, cond_false] using e
  · -- tim
    have e := congrArg (fun x => x.tim) h; simpa only [State.drop, hb, cond_false] using e
  · -- meas
    have e := congrArg (fun x => x.meas) h; simpa only [State.drop, hb, cond_false] using e
  · -- cell
    have e := congrArg (fun x => x.arm) h
    cases hp : m.testBit 13
    · simp only [State.drop, hp, cond_false] at e; simp [e]
    · simp only [State.drop, hp, hb, cond_true, cond_false] at e
      simp only [Arm.mk.injEq] at e
      simp [e]
  · -- token
    have e := congrArg (fun x => x.arm) h
    cases hp : m.testBit 13
    · simp only [State.drop, hp, cond_false] at e; simp [e]
    · simp only [State.drop, hp, hb, cond_true, cond_false] at e
      simp only [Arm.mk.injEq] at e
      simp [e]
  · -- bypass
    have e := congrArg (fun x => x.arm) h
    cases hp : m.testBit 13
    · simp only [State.drop, hp, cond_false] at e; simp [e]
    · simp only [State.drop, hp, hb, cond_true, cond_false] at e
      simp only [Arm.mk.injEq] at e
      simp [e]
  · -- arm
    have e := congrArg (fun x => x.arm) h; simpa only [State.drop, hb, cond_false] using e
  · -- pwm
    have e := congrArg (fun x => x.pwm) h; simpa only [State.drop, hb, cond_false] using e
  · -- glk
    have e := congrArg (fun x => x.glk) h; simpa only [State.drop, hb, cond_false] using e
  · -- chA
    have e := congrArg (fun x => x.chA) h; simpa only [State.drop, hb, cond_false] using e
  · -- chB
    have e := congrArg (fun x => x.chB) h; simpa only [State.drop, hb, cond_false] using e
  · -- snA
    have e := congrArg (fun x => x.snA) h; simpa only [State.drop, hb, cond_false] using e
  · -- snB
    have e := congrArg (fun x => x.snB) h; simpa only [State.drop, hb, cond_false] using e
  · -- esA
    have e := congrArg (fun x => x.esA) h; simpa only [State.drop, hb, cond_false] using e
  · -- esB
    have e := congrArg (fun x => x.esB) h; simpa only [State.drop, hb, cond_false] using e
  · -- est
    have e := congrArg (fun x => x.est) h; simpa only [State.drop, hb, cond_false] using e
  · -- thm
    have e := congrArg (fun x => x.thm) h; simpa only [State.drop, hb, cond_false] using e
  · -- prt
    have e := congrArg (fun x => x.prt) h; simpa only [State.drop, hb, cond_false] using e
  · -- dvt
    have e := congrArg (fun x => x.dvt) h; simpa only [State.drop, hb, cond_false] using e
  · -- lsw
    have e := congrArg (fun x => x.lsw) h; simpa only [State.drop, hb, cond_false] using e
  · -- lbus
    have e := congrArg (fun x => x.lbus) h; simpa only [State.drop, hb, cond_false] using e
  · -- stages
    have e := congrArg (fun x => x.pwr) h
    cases hp : m.testBit 29
    · simp only [State.drop, hp, cond_false] at e; simp [e]
    · simp only [State.drop, hp, hb, cond_true, cond_false] at e
      simp only [Pwr.mk.injEq] at e
      simp [e]
  · -- pwr
    have e := congrArg (fun x => x.pwr) h; simpa only [State.drop, hb, cond_false] using e
  · -- life
    have e := congrArg (fun x => x.sec) h
    cases hp : m.testBit 31
    · simp only [State.drop, hp, cond_false] at e; simp [e]
    · simp only [State.drop, hp, hb, cond_true, cond_false] at e
      simp only [Sec.mk.injEq] at e
      simp [e]
  · -- sec
    have e := congrArg (fun x => x.sec) h; simpa only [State.drop, hb, cond_false] using e
  · -- mnt
    have e := congrArg (fun x => x.mnt) h; simpa only [State.drop, hb, cond_false] using e
  · -- evt
    have e := congrArg (fun x => x.evt) h; simpa only [State.drop, hb, cond_false] using e
  · -- req
    have e := congrArg (fun x => x.req) h; simpa only [State.drop, hb, cond_false] using e
  · -- clock
    have e := congrArg (fun x => x.clock) h; simpa only [State.drop, hb, cond_false] using e
  · -- free
    have e := congrArg (fun x => x.free) h; simpa only [State.drop, hb, cond_false] using e
  · -- outbox
    have e := congrArg (fun x => x.outbox) h; simpa only [State.drop, hb, cond_false] using e
  · -- pending
    have e := congrArg (fun x => x.pending) h; simpa only [State.drop, hb, cond_false] using e
  · -- legs
    have e := congrArg (fun x => x.glk) h
    cases hp : m.testBit 15
    · simp only [State.drop, hp, cond_false] at e; simp [e]
    · simp only [State.drop, hp, hb, cond_true, cond_false] at e
      simp only [Glk.mk.injEq] at e
      simp [e]
  · -- raised
    have e := congrArg (fun x => x.prt) h
    cases hp : m.testBit 24
    · simp only [State.drop, hp, cond_false] at e; simp [e]
    · simp only [State.drop, hp, hb, cond_true, cond_false] at e
      simp only [Prt.mk.injEq] at e
      simp [e]
  · -- log
    have e := congrArg (fun x => x.evt) h
    cases hp : m.testBit 33
    · simp only [State.drop, hp, cond_false] at e; simp [e]
    · simp only [State.drop, hp, hb, cond_true, cond_false] at e
      simp only [Evt.mk.injEq] at e
      simp [e]
  · -- switch
    have e := congrArg (fun x => x.glk) h
    cases hp : m.testBit 15
    · simp only [State.drop, hp, cond_false] at e; simp [e]
    · simp only [State.drop, hp, hb, cond_true, cond_false] at e
      simp only [Glk.mk.injEq] at e
      simp [e]
  · -- shutdown
    have e := congrArg (fun x => x.thm) h
    cases hp : m.testBit 23
    · simp only [State.drop, hp, cond_false] at e; simp [e]
    · simp only [State.drop, hp, hb, cond_true, cond_false] at e
      simp only [Thm.mk.injEq] at e
      simp [e]

/-- States that agree on every part outside the mask are equal under it. -/
theorem drop_of_same {m : Nat} {s t : State} (h : ∀ b : Block, m.testBit b.idx = false → b.same s t) :
    t.drop m = s.drop m := by
  have h_dev_part : (bif m.testBit 0 then ({} : Dev).part else t.dev.part) =
      bif m.testBit 0 then ({} : Dev).part else s.dev.part := by
    cases e : m.testBit 0
    · have k := h .part e; simp only [Block.same] at k; simp only [cond_false, k]
    · rfl
  have h_dev_phase : (bif m.testBit 1 then ({} : Dev).phase else t.dev.phase) =
      bif m.testBit 1 then ({} : Dev).phase else s.dev.phase := by
    cases e : m.testBit 1
    · have k := h .phase e; simp only [Block.same] at k; simp only [cond_false, k]
    · rfl
  have h_img_slotA : (bif m.testBit 4 then ({} : Img).slotA else t.img.slotA) =
      bif m.testBit 4 then ({} : Img).slotA else s.img.slotA := by
    cases e : m.testBit 4
    · have k := h .slots e; simp only [Block.same] at k; simp only [cond_false, k]
    · rfl
  have h_img_slotB : (bif m.testBit 4 then ({} : Img).slotB else t.img.slotB) =
      bif m.testBit 4 then ({} : Img).slotB else s.img.slotB := by
    cases e : m.testBit 4
    · have k := h .slots e; simp only [Block.same] at k; simp only [cond_false, k]
    · rfl
  have h_img_active : (bif m.testBit 5 then ({} : Img).active else t.img.active) =
      bif m.testBit 5 then ({} : Img).active else s.img.active := by
    cases e : m.testBit 5
    · have k := h .image e; simp only [Block.same] at k; simp only [cond_false, k]
    · rfl
  have h_arm_cell : (bif m.testBit 10 then ({} : Arm).cell else t.arm.cell) =
      bif m.testBit 10 then ({} : Arm).cell else s.arm.cell := by
    cases e : m.testBit 10
    · have k := h .cell e; simp only [Block.same] at k; simp only [cond_false, k]
    · rfl
  have h_arm_changes : (bif m.testBit 10 then ({} : Arm).changes else t.arm.changes) =
      bif m.testBit 10 then ({} : Arm).changes else s.arm.changes := by
    cases e : m.testBit 10
    · have k := h .cell e; simp only [Block.same] at k; simp only [cond_false, k]
    · rfl
  have h_arm_owner : (bif m.testBit 11 then ({} : Arm).owner else t.arm.owner) =
      bif m.testBit 11 then ({} : Arm).owner else s.arm.owner := by
    cases e : m.testBit 11
    · have k := h .token e; simp only [Block.same] at k; simp only [cond_false, k]
    · rfl
  have h_arm_bypassed : (bif m.testBit 12 then ({} : Arm).bypassed else t.arm.bypassed) =
      bif m.testBit 12 then ({} : Arm).bypassed else s.arm.bypassed := by
    cases e : m.testBit 12
    · have k := h .bypass e; simp only [Block.same] at k; simp only [cond_false, k]
    · rfl
  have h_pwr_s1 : (bif m.testBit 28 then ({} : Pwr).s1 else t.pwr.s1) =
      bif m.testBit 28 then ({} : Pwr).s1 else s.pwr.s1 := by
    cases e : m.testBit 28
    · have k := h .stages e; simp only [Block.same] at k; simp only [cond_false, k]
    · rfl
  have h_pwr_s2 : (bif m.testBit 28 then ({} : Pwr).s2 else t.pwr.s2) =
      bif m.testBit 28 then ({} : Pwr).s2 else s.pwr.s2 := by
    cases e : m.testBit 28
    · have k := h .stages e; simp only [Block.same] at k; simp only [cond_false, k]
    · rfl
  have h_pwr_s3 : (bif m.testBit 28 then ({} : Pwr).s3 else t.pwr.s3) =
      bif m.testBit 28 then ({} : Pwr).s3 else s.pwr.s3 := by
    cases e : m.testBit 28
    · have k := h .stages e; simp only [Block.same] at k; simp only [cond_false, k]
    · rfl
  have h_pwr_s4 : (bif m.testBit 28 then ({} : Pwr).s4 else t.pwr.s4) =
      bif m.testBit 28 then ({} : Pwr).s4 else s.pwr.s4 := by
    cases e : m.testBit 28
    · have k := h .stages e; simp only [Block.same] at k; simp only [cond_false, k]
    · rfl
  have h_sec_life : (bif m.testBit 30 then ({} : Sec).life else t.sec.life) =
      bif m.testBit 30 then ({} : Sec).life else s.sec.life := by
    cases e : m.testBit 30
    · have k := h .life e; simp only [Block.same] at k; simp only [cond_false, k]
    · rfl
  have h_glk_legA : (bif m.testBit 39 then ({} : Glk).legA else t.glk.legA) =
      bif m.testBit 39 then ({} : Glk).legA else s.glk.legA := by
    cases e : m.testBit 39
    · have k := h .legs e; simp only [Block.same] at k; simp only [cond_false, k]
    · rfl
  have h_glk_legB : (bif m.testBit 39 then ({} : Glk).legB else t.glk.legB) =
      bif m.testBit 39 then ({} : Glk).legB else s.glk.legB := by
    cases e : m.testBit 39
    · have k := h .legs e; simp only [Block.same] at k; simp only [cond_false, k]
    · rfl
  have h_prt_active : (bif m.testBit 40 then ({} : Prt).active else t.prt.active) =
      bif m.testBit 40 then ({} : Prt).active else s.prt.active := by
    cases e : m.testBit 40
    · have k := h .raised e; simp only [Block.same] at k; simp only [cond_false, k]
    · rfl
  have h_prt_pulsed : (bif m.testBit 40 then ({} : Prt).pulsed else t.prt.pulsed) =
      bif m.testBit 40 then ({} : Prt).pulsed else s.prt.pulsed := by
    cases e : m.testBit 40
    · have k := h .raised e; simp only [Block.same] at k; simp only [cond_false, k]
    · rfl
  have h_evt_nvm : (bif m.testBit 41 then ({} : Evt).nvm else t.evt.nvm) =
      bif m.testBit 41 then ({} : Evt).nvm else s.evt.nvm := by
    cases e : m.testBit 41
    · have k := h .log e; simp only [Block.same] at k; simp only [cond_false, k]
    · rfl
  have h_evt_nvmPos : (bif m.testBit 41 then ({} : Evt).nvmPos else t.evt.nvmPos) =
      bif m.testBit 41 then ({} : Evt).nvmPos else s.evt.nvmPos := by
    cases e : m.testBit 41
    · have k := h .log e; simp only [Block.same] at k; simp only [cond_false, k]
    · rfl
  have h_evt_wrapped : (bif m.testBit 41 then ({} : Evt).wrapped else t.evt.wrapped) =
      bif m.testBit 41 then ({} : Evt).wrapped else s.evt.wrapped := by
    cases e : m.testBit 41
    · have k := h .log e; simp only [Block.same] at k; simp only [cond_false, k]
    · rfl
  have h_glk_fireHold : (bif m.testBit 42 then ({} : Glk).fireHold else t.glk.fireHold) =
      bif m.testBit 42 then ({} : Glk).fireHold else s.glk.fireHold := by
    cases e : m.testBit 42
    · have k := h .switch e; simp only [Block.same] at k; simp only [cond_false, k]
    · rfl
  have h_glk_fireAll : (bif m.testBit 42 then ({} : Glk).fireAll else t.glk.fireAll) =
      bif m.testBit 42 then ({} : Glk).fireAll else s.glk.fireAll := by
    cases e : m.testBit 42
    · have k := h .switch e; simp only [Block.same] at k; simp only [cond_false, k]
    · rfl
  have h_glk_closeAsserted : (bif m.testBit 42 then ({} : Glk).closeAsserted else t.glk.closeAsserted) =
      bif m.testBit 42 then ({} : Glk).closeAsserted else s.glk.closeAsserted := by
    cases e : m.testBit 42
    · have k := h .switch e; simp only [Block.same] at k; simp only [cond_false, k]
    · rfl
  have h_glk_closeDue : (bif m.testBit 42 then ({} : Glk).closeDue else t.glk.closeDue) =
      bif m.testBit 42 then ({} : Glk).closeDue else s.glk.closeDue := by
    cases e : m.testBit 42
    · have k := h .switch e; simp only [Block.same] at k; simp only [cond_false, k]
    · rfl
  have h_glk_statClosed : (bif m.testBit 42 then ({} : Glk).statClosed else t.glk.statClosed) =
      bif m.testBit 42 then ({} : Glk).statClosed else s.glk.statClosed := by
    cases e : m.testBit 42
    · have k := h .switch e; simp only [Block.same] at k; simp only [cond_false, k]
    · rfl
  have h_thm_sdHotA : (bif m.testBit 43 then ({} : Thm).sdHotA else t.thm.sdHotA) =
      bif m.testBit 43 then ({} : Thm).sdHotA else s.thm.sdHotA := by
    cases e : m.testBit 43
    · have k := h .shutdown e; simp only [Block.same] at k; simp only [cond_false, k]
    · rfl
  have h_thm_sdHotB : (bif m.testBit 43 then ({} : Thm).sdHotB else t.thm.sdHotB) =
      bif m.testBit 43 then ({} : Thm).sdHotB else s.thm.sdHotB := by
    cases e : m.testBit 43
    · have k := h .shutdown e; simp only [Block.same] at k; simp only [cond_false, k]
    · rfl
  have h_thm_sdColdA : (bif m.testBit 43 then ({} : Thm).sdColdA else t.thm.sdColdA) =
      bif m.testBit 43 then ({} : Thm).sdColdA else s.thm.sdColdA := by
    cases e : m.testBit 43
    · have k := h .shutdown e; simp only [Block.same] at k; simp only [cond_false, k]
    · rfl
  have h_thm_sdColdB : (bif m.testBit 43 then ({} : Thm).sdColdB else t.thm.sdColdB) =
      bif m.testBit 43 then ({} : Thm).sdColdB else s.thm.sdColdB := by
    cases e : m.testBit 43
    · have k := h .shutdown e; simp only [Block.same] at k; simp only [cond_false, k]
    · rfl
  have h_dev : (bif m.testBit 2 then { ({} : Dev) with part := bif m.testBit 0 then ({} : Dev).part else t.dev.part, phase := bif m.testBit 1 then ({} : Dev).phase else t.dev.phase } else t.dev) =
      bif m.testBit 2 then { ({} : Dev) with part := bif m.testBit 0 then ({} : Dev).part else s.dev.part, phase := bif m.testBit 1 then ({} : Dev).phase else s.dev.phase } else s.dev := by
    cases e : m.testBit 2
    · have k := h .dev e; simp only [Block.same] at k; simp only [cond_false, k]
    · simp only [cond_true, h_dev_part, h_dev_phase]
  have h_eng : (bif m.testBit 3 then ({} : Eng) else t.eng) =
      bif m.testBit 3 then ({} : Eng) else s.eng := by
    cases e : m.testBit 3
    · have k := h .eng e; simp only [Block.same] at k; simp only [cond_false, k]
    · simp only [cond_true]
  have h_img : (bif m.testBit 6 then { ({} : Img) with slotA := bif m.testBit 4 then ({} : Img).slotA else t.img.slotA, slotB := bif m.testBit 4 then ({} : Img).slotB else t.img.slotB, active := bif m.testBit 5 then ({} : Img).active else t.img.active } else t.img) =
      bif m.testBit 6 then { ({} : Img) with slotA := bif m.testBit 4 then ({} : Img).slotA else s.img.slotA, slotB := bif m.testBit 4 then ({} : Img).slotB else s.img.slotB, active := bif m.testBit 5 then ({} : Img).active else s.img.active } else s.img := by
    cases e : m.testBit 6
    · have k := h .img e; simp only [Block.same] at k; simp only [cond_false, k]
    · simp only [cond_true, h_img_slotA, h_img_slotB, h_img_active]
  have h_spl : (bif m.testBit 7 then ({} : Spl) else t.spl) =
      bif m.testBit 7 then ({} : Spl) else s.spl := by
    cases e : m.testBit 7
    · have k := h .spl e; simp only [Block.same] at k; simp only [cond_false, k]
    · simp only [cond_true]
  have h_tim : (bif m.testBit 8 then ({} : Tim) else t.tim) =
      bif m.testBit 8 then ({} : Tim) else s.tim := by
    cases e : m.testBit 8
    · have k := h .tim e; simp only [Block.same] at k; simp only [cond_false, k]
    · simp only [cond_true]
  have h_meas : (bif m.testBit 9 then ({} : Meas) else t.meas) =
      bif m.testBit 9 then ({} : Meas) else s.meas := by
    cases e : m.testBit 9
    · have k := h .meas e; simp only [Block.same] at k; simp only [cond_false, k]
    · simp only [cond_true]
  have h_arm : (bif m.testBit 13 then { ({} : Arm) with cell := bif m.testBit 10 then ({} : Arm).cell else t.arm.cell, changes := bif m.testBit 10 then ({} : Arm).changes else t.arm.changes, owner := bif m.testBit 11 then ({} : Arm).owner else t.arm.owner, bypassed := bif m.testBit 12 then ({} : Arm).bypassed else t.arm.bypassed } else t.arm) =
      bif m.testBit 13 then { ({} : Arm) with cell := bif m.testBit 10 then ({} : Arm).cell else s.arm.cell, changes := bif m.testBit 10 then ({} : Arm).changes else s.arm.changes, owner := bif m.testBit 11 then ({} : Arm).owner else s.arm.owner, bypassed := bif m.testBit 12 then ({} : Arm).bypassed else s.arm.bypassed } else s.arm := by
    cases e : m.testBit 13
    · have k := h .arm e; simp only [Block.same] at k; simp only [cond_false, k]
    · simp only [cond_true, h_arm_cell, h_arm_changes, h_arm_owner, h_arm_bypassed]
  have h_pwm : (bif m.testBit 14 then ({} : Pwm) else t.pwm) =
      bif m.testBit 14 then ({} : Pwm) else s.pwm := by
    cases e : m.testBit 14
    · have k := h .pwm e; simp only [Block.same] at k; simp only [cond_false, k]
    · simp only [cond_true]
  have h_glk : (bif m.testBit 15 then { ({} : Glk) with legA := bif m.testBit 39 then ({} : Glk).legA else t.glk.legA, legB := bif m.testBit 39 then ({} : Glk).legB else t.glk.legB, fireHold := bif m.testBit 42 then ({} : Glk).fireHold else t.glk.fireHold, fireAll := bif m.testBit 42 then ({} : Glk).fireAll else t.glk.fireAll, closeAsserted := bif m.testBit 42 then ({} : Glk).closeAsserted else t.glk.closeAsserted, closeDue := bif m.testBit 42 then ({} : Glk).closeDue else t.glk.closeDue, statClosed := bif m.testBit 42 then ({} : Glk).statClosed else t.glk.statClosed } else t.glk) =
      bif m.testBit 15 then { ({} : Glk) with legA := bif m.testBit 39 then ({} : Glk).legA else s.glk.legA, legB := bif m.testBit 39 then ({} : Glk).legB else s.glk.legB, fireHold := bif m.testBit 42 then ({} : Glk).fireHold else s.glk.fireHold, fireAll := bif m.testBit 42 then ({} : Glk).fireAll else s.glk.fireAll, closeAsserted := bif m.testBit 42 then ({} : Glk).closeAsserted else s.glk.closeAsserted, closeDue := bif m.testBit 42 then ({} : Glk).closeDue else s.glk.closeDue, statClosed := bif m.testBit 42 then ({} : Glk).statClosed else s.glk.statClosed } else s.glk := by
    cases e : m.testBit 15
    · have k := h .glk e; simp only [Block.same] at k; simp only [cond_false, k]
    · simp only [cond_true, h_glk_legA, h_glk_legB, h_glk_fireHold, h_glk_fireAll, h_glk_closeAsserted, h_glk_closeDue, h_glk_statClosed]
  have h_chA : (bif m.testBit 16 then ({} : Chain) else t.chA) =
      bif m.testBit 16 then ({} : Chain) else s.chA := by
    cases e : m.testBit 16
    · have k := h .chA e; simp only [Block.same] at k; simp only [cond_false, k]
    · simp only [cond_true]
  have h_chB : (bif m.testBit 17 then ({} : Chain) else t.chB) =
      bif m.testBit 17 then ({} : Chain) else s.chB := by
    cases e : m.testBit 17
    · have k := h .chB e; simp only [Block.same] at k; simp only [cond_false, k]
    · simp only [cond_true]
  have h_snA : (bif m.testBit 18 then ({} : Sen) else t.snA) =
      bif m.testBit 18 then ({} : Sen) else s.snA := by
    cases e : m.testBit 18
    · have k := h .snA e; simp only [Block.same] at k; simp only [cond_false, k]
    · simp only [cond_true]
  have h_snB : (bif m.testBit 19 then ({} : Sen) else t.snB) =
      bif m.testBit 19 then ({} : Sen) else s.snB := by
    cases e : m.testBit 19
    · have k := h .snB e; simp only [Block.same] at k; simp only [cond_false, k]
    · simp only [cond_true]
  have h_esA : (bif m.testBit 20 then ({} : EstCh) else t.esA) =
      bif m.testBit 20 then ({} : EstCh) else s.esA := by
    cases e : m.testBit 20
    · have k := h .esA e; simp only [Block.same] at k; simp only [cond_false, k]
    · simp only [cond_true]
  have h_esB : (bif m.testBit 21 then ({} : EstCh) else t.esB) =
      bif m.testBit 21 then ({} : EstCh) else s.esB := by
    cases e : m.testBit 21
    · have k := h .esB e; simp only [Block.same] at k; simp only [cond_false, k]
    · simp only [cond_true]
  have h_est : (bif m.testBit 22 then ({} : Est) else t.est) =
      bif m.testBit 22 then ({} : Est) else s.est := by
    cases e : m.testBit 22
    · have k := h .est e; simp only [Block.same] at k; simp only [cond_false, k]
    · simp only [cond_true]
  have h_thm : (bif m.testBit 23 then { ({} : Thm) with sdHotA := bif m.testBit 43 then ({} : Thm).sdHotA else t.thm.sdHotA, sdHotB := bif m.testBit 43 then ({} : Thm).sdHotB else t.thm.sdHotB, sdColdA := bif m.testBit 43 then ({} : Thm).sdColdA else t.thm.sdColdA, sdColdB := bif m.testBit 43 then ({} : Thm).sdColdB else t.thm.sdColdB } else t.thm) =
      bif m.testBit 23 then { ({} : Thm) with sdHotA := bif m.testBit 43 then ({} : Thm).sdHotA else s.thm.sdHotA, sdHotB := bif m.testBit 43 then ({} : Thm).sdHotB else s.thm.sdHotB, sdColdA := bif m.testBit 43 then ({} : Thm).sdColdA else s.thm.sdColdA, sdColdB := bif m.testBit 43 then ({} : Thm).sdColdB else s.thm.sdColdB } else s.thm := by
    cases e : m.testBit 23
    · have k := h .thm e; simp only [Block.same] at k; simp only [cond_false, k]
    · simp only [cond_true, h_thm_sdHotA, h_thm_sdHotB, h_thm_sdColdA, h_thm_sdColdB]
  have h_prt : (bif m.testBit 24 then { ({} : Prt) with active := bif m.testBit 40 then ({} : Prt).active else t.prt.active, pulsed := bif m.testBit 40 then ({} : Prt).pulsed else t.prt.pulsed } else t.prt) =
      bif m.testBit 24 then { ({} : Prt) with active := bif m.testBit 40 then ({} : Prt).active else s.prt.active, pulsed := bif m.testBit 40 then ({} : Prt).pulsed else s.prt.pulsed } else s.prt := by
    cases e : m.testBit 24
    · have k := h .prt e; simp only [Block.same] at k; simp only [cond_false, k]
    · simp only [cond_true, h_prt_active, h_prt_pulsed]
  have h_dvt : (bif m.testBit 25 then ({} : Dvt) else t.dvt) =
      bif m.testBit 25 then ({} : Dvt) else s.dvt := by
    cases e : m.testBit 25
    · have k := h .dvt e; simp only [Block.same] at k; simp only [cond_false, k]
    · simp only [cond_true]
  have h_lsw : (bif m.testBit 26 then ({} : Lsw) else t.lsw) =
      bif m.testBit 26 then ({} : Lsw) else s.lsw := by
    cases e : m.testBit 26
    · have k := h .lsw e; simp only [Block.same] at k; simp only [cond_false, k]
    · simp only [cond_true]
  have h_lbus : (bif m.testBit 27 then ({} : Lbus) else t.lbus) =
      bif m.testBit 27 then ({} : Lbus) else s.lbus := by
    cases e : m.testBit 27
    · have k := h .lbus e; simp only [Block.same] at k; simp only [cond_false, k]
    · simp only [cond_true]
  have h_pwr : (bif m.testBit 29 then { ({} : Pwr) with s1 := bif m.testBit 28 then ({} : Pwr).s1 else t.pwr.s1, s2 := bif m.testBit 28 then ({} : Pwr).s2 else t.pwr.s2, s3 := bif m.testBit 28 then ({} : Pwr).s3 else t.pwr.s3, s4 := bif m.testBit 28 then ({} : Pwr).s4 else t.pwr.s4 } else t.pwr) =
      bif m.testBit 29 then { ({} : Pwr) with s1 := bif m.testBit 28 then ({} : Pwr).s1 else s.pwr.s1, s2 := bif m.testBit 28 then ({} : Pwr).s2 else s.pwr.s2, s3 := bif m.testBit 28 then ({} : Pwr).s3 else s.pwr.s3, s4 := bif m.testBit 28 then ({} : Pwr).s4 else s.pwr.s4 } else s.pwr := by
    cases e : m.testBit 29
    · have k := h .pwr e; simp only [Block.same] at k; simp only [cond_false, k]
    · simp only [cond_true, h_pwr_s1, h_pwr_s2, h_pwr_s3, h_pwr_s4]
  have h_sec : (bif m.testBit 31 then { ({} : Sec) with life := bif m.testBit 30 then ({} : Sec).life else t.sec.life } else t.sec) =
      bif m.testBit 31 then { ({} : Sec) with life := bif m.testBit 30 then ({} : Sec).life else s.sec.life } else s.sec := by
    cases e : m.testBit 31
    · have k := h .sec e; simp only [Block.same] at k; simp only [cond_false, k]
    · simp only [cond_true, h_sec_life]
  have h_mnt : (bif m.testBit 32 then ({} : Mnt) else t.mnt) =
      bif m.testBit 32 then ({} : Mnt) else s.mnt := by
    cases e : m.testBit 32
    · have k := h .mnt e; simp only [Block.same] at k; simp only [cond_false, k]
    · simp only [cond_true]
  have h_evt : (bif m.testBit 33 then { ({} : Evt) with nvm := bif m.testBit 41 then ({} : Evt).nvm else t.evt.nvm, nvmPos := bif m.testBit 41 then ({} : Evt).nvmPos else t.evt.nvmPos, wrapped := bif m.testBit 41 then ({} : Evt).wrapped else t.evt.wrapped } else t.evt) =
      bif m.testBit 33 then { ({} : Evt) with nvm := bif m.testBit 41 then ({} : Evt).nvm else s.evt.nvm, nvmPos := bif m.testBit 41 then ({} : Evt).nvmPos else s.evt.nvmPos, wrapped := bif m.testBit 41 then ({} : Evt).wrapped else s.evt.wrapped } else s.evt := by
    cases e : m.testBit 33
    · have k := h .evt e; simp only [Block.same] at k; simp only [cond_false, k]
    · simp only [cond_true, h_evt_nvm, h_evt_nvmPos, h_evt_wrapped]
  have h_req : (bif m.testBit 34 then ({} : Req) else t.req) =
      bif m.testBit 34 then ({} : Req) else s.req := by
    cases e : m.testBit 34
    · have k := h .req e; simp only [Block.same] at k; simp only [cond_false, k]
    · simp only [cond_true]
  have h_clock : (bif m.testBit 35 then 0 else t.clock) =
      bif m.testBit 35 then 0 else s.clock := by
    cases e : m.testBit 35
    · have k := h .clock e; simp only [Block.same] at k; simp only [cond_false, k]
    · simp only [cond_true]
  have h_free : (bif m.testBit 36 then 0 else t.free) =
      bif m.testBit 36 then 0 else s.free := by
    cases e : m.testBit 36
    · have k := h .free e; simp only [Block.same] at k; simp only [cond_false, k]
    · simp only [cond_true]
  have h_outbox : (bif m.testBit 37 then [] else t.outbox) =
      bif m.testBit 37 then [] else s.outbox := by
    cases e : m.testBit 37
    · have k := h .outbox e; simp only [Block.same] at k; simp only [cond_false, k]
    · simp only [cond_true]
  have h_pending : (bif m.testBit 38 then [] else t.pending) =
      bif m.testBit 38 then [] else s.pending := by
    cases e : m.testBit 38
    · have k := h .pending e; simp only [Block.same] at k; simp only [cond_false, k]
    · simp only [cond_true]
  simp only [State.drop, h_dev, h_eng, h_img, h_spl, h_tim, h_meas, h_arm, h_pwm, h_glk, h_chA, h_chB, h_snA, h_snB, h_esA, h_esB, h_est, h_thm, h_prt, h_dvt, h_lsw, h_lbus, h_pwr, h_sec, h_mnt, h_evt, h_req, h_clock, h_free, h_outbox, h_pending]

theorem State.read_dev (t : State) : t.dev = (t.drop 17592186044408).dev := rfl
theorem State.read_eng (t : State) : t.eng = (t.drop 17592186044407).eng := rfl
theorem State.read_img (t : State) : t.img = (t.drop 17592186044303).img := rfl
theorem State.read_spl (t : State) : t.spl = (t.drop 17592186044287).spl := rfl
theorem State.read_tim (t : State) : t.tim = (t.drop 17592186044159).tim := rfl
theorem State.read_meas (t : State) : t.meas = (t.drop 17592186043903).meas := rfl
theorem State.read_arm (t : State) : t.arm = (t.drop 17592186029055).arm := rfl
theorem State.read_pwm (t : State) : t.pwm = (t.drop 17592186028031).pwm := rfl
theorem State.read_glk (t : State) : t.glk = (t.drop 12644383686655).glk := rfl
theorem State.read_chA (t : State) : t.chA = (t.drop 17592185978879).chA := rfl
theorem State.read_chB (t : State) : t.chB = (t.drop 17592185913343).chB := rfl
theorem State.read_snA (t : State) : t.snA = (t.drop 17592185782271).snA := rfl
theorem State.read_snB (t : State) : t.snB = (t.drop 17592185520127).snB := rfl
theorem State.read_esA (t : State) : t.esA = (t.drop 17592184995839).esA := rfl
theorem State.read_esB (t : State) : t.esB = (t.drop 17592183947263).esB := rfl
theorem State.read_est (t : State) : t.est = (t.drop 17592181850111).est := rfl
theorem State.read_thm (t : State) : t.thm = (t.drop 8796084633599).thm := rfl
theorem State.read_prt (t : State) : t.prt = (t.drop 16492657639423).prt := rfl
theorem State.read_dvt (t : State) : t.dvt = (t.drop 17592152489983).dvt := rfl
theorem State.read_lsw (t : State) : t.lsw = (t.drop 17592118935551).lsw := rfl
theorem State.read_lbus (t : State) : t.lbus = (t.drop 17592051826687).lbus := rfl
theorem State.read_pwr (t : State) : t.pwr = (t.drop 17591380738047).pwr := rfl
theorem State.read_sec (t : State) : t.sec = (t.drop 17588964818943).sec := rfl
theorem State.read_mnt (t : State) : t.mnt = (t.drop 17587891077119).mnt := rfl
theorem State.read_evt (t : State) : t.evt = (t.drop 15384572854271).evt := rfl
theorem State.read_req (t : State) : t.req = (t.drop 17575006175231).req := rfl
theorem State.read_clock (t : State) : t.clock = (t.drop 17557826306047).clock := rfl
theorem State.read_free (t : State) : t.free = (t.drop 17523466567679).free := rfl
theorem State.read_outbox (t : State) : t.outbox = (t.drop 17454747090943).outbox := rfl
theorem State.read_pending (t : State) : t.pending = (t.drop 17317308137471).pending := rfl
theorem State.read_dev_part (t : State) : t.dev.part = (t.drop 17592186044414).dev.part := rfl
theorem State.read_dev_phase (t : State) : t.dev.phase = (t.drop 17592186044413).dev.phase := rfl
theorem State.read_img_slotA (t : State) : t.img.slotA = (t.drop 17592186044399).img.slotA := rfl
theorem State.read_img_slotB (t : State) : t.img.slotB = (t.drop 17592186044399).img.slotB := rfl
theorem State.read_img_active (t : State) : t.img.active = (t.drop 17592186044383).img.active := rfl
theorem State.read_arm_cell (t : State) : t.arm.cell = (t.drop 17592186043391).arm.cell := rfl
theorem State.read_arm_changes (t : State) : t.arm.changes = (t.drop 17592186043391).arm.changes := rfl
theorem State.read_arm_owner (t : State) : t.arm.owner = (t.drop 17592186042367).arm.owner := rfl
theorem State.read_arm_bypassed (t : State) : t.arm.bypassed = (t.drop 17592186040319).arm.bypassed := rfl
theorem State.read_pwr_s1 (t : State) : t.pwr.s1 = (t.drop 17591917608959).pwr.s1 := rfl
theorem State.read_pwr_s2 (t : State) : t.pwr.s2 = (t.drop 17591917608959).pwr.s2 := rfl
theorem State.read_pwr_s3 (t : State) : t.pwr.s3 = (t.drop 17591917608959).pwr.s3 := rfl
theorem State.read_pwr_s4 (t : State) : t.pwr.s4 = (t.drop 17591917608959).pwr.s4 := rfl
theorem State.read_sec_life (t : State) : t.sec.life = (t.drop 17591112302591).sec.life := rfl
theorem State.read_glk_legA (t : State) : t.glk.legA = (t.drop 17042430230527).glk.legA := rfl
theorem State.read_glk_legB (t : State) : t.glk.legB = (t.drop 17042430230527).glk.legB := rfl
theorem State.read_prt_active (t : State) : t.prt.active = (t.drop 16492674416639).prt.active := rfl
theorem State.read_prt_pulsed (t : State) : t.prt.pulsed = (t.drop 16492674416639).prt.pulsed := rfl
theorem State.read_evt_nvm (t : State) : t.evt.nvm = (t.drop 15393162788863).evt.nvm := rfl
theorem State.read_evt_nvmPos (t : State) : t.evt.nvmPos = (t.drop 15393162788863).evt.nvmPos := rfl
theorem State.read_evt_wrapped (t : State) : t.evt.wrapped = (t.drop 15393162788863).evt.wrapped := rfl
theorem State.read_glk_fireHold (t : State) : t.glk.fireHold = (t.drop 13194139533311).glk.fireHold := rfl
theorem State.read_glk_fireAll (t : State) : t.glk.fireAll = (t.drop 13194139533311).glk.fireAll := rfl
theorem State.read_glk_closeAsserted (t : State) : t.glk.closeAsserted = (t.drop 13194139533311).glk.closeAsserted := rfl
theorem State.read_glk_closeDue (t : State) : t.glk.closeDue = (t.drop 13194139533311).glk.closeDue := rfl
theorem State.read_glk_statClosed (t : State) : t.glk.statClosed = (t.drop 13194139533311).glk.statClosed := rfl
theorem State.read_thm_sdHotA (t : State) : t.thm.sdHotA = (t.drop 8796093022207).thm.sdHotA := rfl
theorem State.read_thm_sdHotB (t : State) : t.thm.sdHotB = (t.drop 8796093022207).thm.sdHotB := rfl
theorem State.read_thm_sdColdA (t : State) : t.thm.sdColdA = (t.drop 8796093022207).thm.sdColdA := rfl
theorem State.read_thm_sdColdB (t : State) : t.thm.sdColdB = (t.drop 8796093022207).thm.sdColdB := rfl

/-- A larger mask does not see what a smaller one does not. -/
theorem drop_sub {m M : Nat} {s t : State} (h : m &&& M = M) (e : t.drop M = s.drop M) : t.drop m = s.drop m := by
  refine drop_of_same fun b hb => same_of_drop e b ?_
  have g : (m &&& M).testBit b.idx = M.testBit b.idx := by rw [h]
  rw [Nat.testBit_and, hb, Bool.false_and] at g
  exact g.symm

theorem and_part {m M K : Nat} (h : m &&& M = M) (k : M &&& K = K) : m &&& K = K := by
  rw [← k, ← Nat.and_assoc, h]

theorem drop_ite {m : Nat} {p : Prop} [Decidable p] {a b : State} :
    (if p then a else b).drop m = if p then a.drop m else b.drop m := apply_ite _ p a b

theorem drop_fst_ite {β : Type} {m : Nat} {p : Prop} [Decidable p] {a b : State × β} :
    (if p then a else b).1.drop m = if p then a.1.drop m else b.1.drop m := apply_ite (fun x => x.1.drop m) p a b

theorem cond_self {α : Type} {p : Bool} {a : α} : (bif p then a else a) = a := by cases p <;> rfl

theorem drop_cond {m : Nat} {p : Bool} {a b : State} :
    (bif p then a else b).drop m = bif p then a.drop m else b.drop m := by cases p <;> rfl

theorem foldl_drop {α : Type} {m : Nat} {f : State → α → State} (h : ∀ t x, (f t x).drop m = t.drop m) (l : List α)
    (s : State) : (l.foldl f s).drop m = s.drop m := by
  induction l generalizing s with
  | nil => rfl
  | cons x l ih => simp only [List.foldl_cons]; rw [ih, h]

theorem foldl_fst_drop {α β : Type} {m : Nat} {f : State × β → α → State × β}
    (h : ∀ t x, (f t x).1.drop m = t.1.drop m) (l : List α) (s : State × β) : (l.foldl f s).1.drop m = s.1.drop m := by
  induction l generalizing s with
  | nil => rfl
  | cons x l ih => simp only [List.foldl_cons]; rw [ih, h]

theorem State.forChains_drop {m : Nat} {f : State → ChainId → State} (h : ∀ t c, (f t c).drop m = t.drop m) (s : State) :
    (s.forChains f).drop m = s.drop m := foldl_drop h _ s

/-- The state that an outcome leaves; a stop leaves the state it found. -/
def resState (r : Res) (d : State) : State :=
  match r with
  | .next t => t
  | .fault _ => d
  | .refused _ => d

theorem resState_next {t d : State} : resState (.next t) d = t := rfl

theorem resState_ite {p : Prop} [Decidable p] {a b : Res} {d : State} :
    resState (if p then a else b) d = if p then resState a d else resState b d := apply_ite (resState · d) p a b

/-- A part outside the mask is the same before and after. -/
theorem frame_of_drop {m : Nat} {s t : State} {bs : List Block} (h : t.drop m = s.drop m)
    (hb : ∀ b, b ∉ bs → m.testBit b.idx = false) : Frame bs s t := fun b nb => same_of_drop h b (hb b nb)

theorem Block.idx_inj {a b : Block} (h : a.idx = b.idx) : a = b := by
  cases a <;> cases b <;> first | rfl | exact absurd h (by decide)

theorem blockMask_testBit (bs : List Block) (b : Block) : (blockMask bs).testBit b.idx = decide (b ∈ bs) := by
  induction bs with
  | nil => simp [blockMask]
  | cons a l ih =>
    have e : blockMask (a :: l) = blockMask l ||| 2 ^ a.idx := rfl
    rw [e, Nat.testBit_or, ih, Nat.testBit_two_pow]
    by_cases h : a = b
    · simp [h]
    · have n : a.idx ≠ b.idx := fun g => h (Block.idx_inj g)
      simp [n, Ne.symm h, eq_comm]

/-- A frame from a mask: the parts of the mask are among those listed. -/
theorem frame_of_mask {m : Nat} {s t : State} {bs : List Block} (h : t.drop m = s.drop m) (hb : m &&& blockMask bs = m) :
    Frame bs s t := by
  refine frame_of_drop h fun b nb => ?_
  have e := congrArg (Nat.testBit · b.idx) hb
  simp only [Nat.testBit_and, blockMask_testBit, nb, decide_false, Bool.and_false] at e
  exact e.symm

end Sys2Proof.Machine
end

