-- ==== Sys2Proof/Laws/FrameOps.lean ====
section
/-! SUPPORT. What the shared operations leave unchanged, one lemma for each. -/

set_option Elab.async false

set_option linter.unusedSimpArgs false

namespace Sys2Proof.Machine

theorem State.onChain_drop {fm : Nat} (s : State) (c : ChainId) (f : Chain → Chain) (hfm : fm &&& 196608 = 196608) :
    (State.onChain s c f).drop fm = s.drop fm := by
  refine drop_sub hfm ?_
  unfold State.onChain
  repeat' (first | simp only [↓State.onChA_drop, ↓State.onChB_drop, id_eq, Nat.reduceAnd, Nat.reduceEqDiff, ↓drop_ite, ↓drop_fst_ite, ↓drop_cond, ↓resState_ite, ↓resState_next, ite_self, cond_self, true_or, or_true, false_or, or_false, implies_true, ↓foldl_drop, ↓foldl_fst_drop] | split)

theorem State.onSen_drop {fm : Nat} (s : State) (c : ChainId) (f : Sen → Sen) (hfm : fm &&& 786432 = 786432) :
    (State.onSen s c f).drop fm = s.drop fm := by
  refine drop_sub hfm ?_
  unfold State.onSen
  repeat' (first | simp only [↓State.onSnA_drop, ↓State.onSnB_drop, id_eq, Nat.reduceAnd, Nat.reduceEqDiff, ↓drop_ite, ↓drop_fst_ite, ↓drop_cond, ↓resState_ite, ↓resState_next, ite_self, cond_self, true_or, or_true, false_or, or_false, implies_true, ↓foldl_drop, ↓foldl_fst_drop] | split)

theorem State.onEs_drop {fm : Nat} (s : State) (c : ChainId) (f : EstCh → EstCh) (hfm : fm &&& 3145728 = 3145728) :
    (State.onEs s c f).drop fm = s.drop fm := by
  refine drop_sub hfm ?_
  unfold State.onEs
  repeat' (first | simp only [↓State.onEsA_drop, ↓State.onEsB_drop, id_eq, Nat.reduceAnd, Nat.reduceEqDiff, ↓drop_ite, ↓drop_fst_ite, ↓drop_cond, ↓resState_ite, ↓resState_next, ite_self, cond_self, true_or, or_true, false_or, or_false, implies_true, ↓foldl_drop, ↓foldl_fst_drop] | split)

theorem State.onMod_drop {fm : Nat} (s : State) (c : ChainId) (m : Fin 32) (f : ModRec → ModRec) (hfm : fm &&& 196608 = 196608) :
    (State.onMod s c m f).drop fm = s.drop fm := by
  refine drop_sub hfm ?_
  unfold State.onMod
  repeat' (first | simp only [↓State.onChain_drop, id_eq, Nat.reduceAnd, Nat.reduceEqDiff, ↓drop_ite, ↓drop_fst_ite, ↓drop_cond, ↓resState_ite, ↓resState_next, ite_self, cond_self, true_or, or_true, false_or, or_false, implies_true, ↓foldl_drop, ↓foldl_fst_drop] | split)

theorem State.onRec_drop {fm : Nat} (s : State) (c : ChainId) (m : Fin 32) (f : SenRec → SenRec) (hfm : fm &&& 786432 = 786432) :
    (State.onRec s c m f).drop fm = s.drop fm := by
  refine drop_sub hfm ?_
  unfold State.onRec
  repeat' (first | simp only [↓State.onSen_drop, id_eq, Nat.reduceAnd, Nat.reduceEqDiff, ↓drop_ite, ↓drop_fst_ite, ↓drop_cond, ↓resState_ite, ↓resState_next, ite_self, cond_self, true_or, or_true, false_or, or_false, implies_true, ↓foldl_drop, ↓foldl_fst_drop] | split)

theorem State.onAcc_drop {fm : Nat} (s : State) (c : ChainId) (m : Fin 32) (f : EstMod → EstMod) (hfm : fm &&& 3145728 = 3145728) :
    (State.onAcc s c m f).drop fm = s.drop fm := by
  refine drop_sub hfm ?_
  unfold State.onAcc
  repeat' (first | simp only [↓State.onEs_drop, id_eq, Nat.reduceAnd, Nat.reduceEqDiff, ↓drop_ite, ↓drop_fst_ite, ↓drop_cond, ↓resState_ite, ↓resState_next, ite_self, cond_self, true_or, or_true, false_or, or_false, implies_true, ↓foldl_drop, ↓foldl_fst_drop] | split)

theorem State.onCell_drop {fm : Nat} (s : State) (c : ChainId) (m : Fin 32) (k : Fin 32) (f : CellAcc → CellAcc) (hfm : fm &&& 3145728 = 3145728) :
    (State.onCell s c m k f).drop fm = s.drop fm := by
  refine drop_sub hfm ?_
  unfold State.onCell
  repeat' (first | simp only [↓State.onAcc_drop, id_eq, Nat.reduceAnd, Nat.reduceEqDiff, ↓drop_ite, ↓drop_fst_ite, ↓drop_cond, ↓resState_ite, ↓resState_next, ite_self, cond_self, true_or, or_true, false_or, or_false, implies_true, ↓foldl_drop, ↓foldl_fst_drop] | split)

theorem State.onLeg_drop {fm : Nat} (s : State) (l : Leg) (f : LegRec → LegRec) (hfm : fm &&& 549755846656 = 549755846656) :
    (State.onLeg s l f).drop fm = s.drop fm := by
  refine drop_sub hfm ?_
  unfold State.onLeg
  repeat' (first | simp only [↓State.onGlk_drop, id_eq, Nat.reduceAnd, Nat.reduceEqDiff, ↓drop_ite, ↓drop_fst_ite, ↓drop_cond, ↓resState_ite, ↓resState_next, ite_self, cond_self, true_or, or_true, false_or, or_false, implies_true, ↓foldl_drop, ↓foldl_fst_drop] | (refine (State.onGlk_drop (by decide) ?_ ?_ ?_ ?_ ?_ ?_ ?_ ).trans ?_) | with_reducible rfl | exact Or.inl (by decide) | refine Or.inr fun _ => ?_ | (intro _; split <;> with_reducible rfl) | split)

theorem State.onUnit_drop {fm : Nat} (s : State) (l : Leg) (f : PulseUnit → PulseUnit) (hfm : fm &&& 16384 = 16384) :
    (State.onUnit s l f).drop fm = s.drop fm := by
  refine drop_sub hfm ?_
  unfold State.onUnit
  repeat' (first | simp only [↓State.onPwm_drop, id_eq, Nat.reduceAnd, Nat.reduceEqDiff, ↓drop_ite, ↓drop_fst_ite, ↓drop_cond, ↓resState_ite, ↓resState_next, ite_self, cond_self, true_or, or_true, false_or, or_false, implies_true, ↓foldl_drop, ↓foldl_fst_drop] | split)

theorem State.onLink_drop {fm : Nat} (s : State) (i : Fin 4) (f : LinkRec → LinkRec) (hfm : fm &&& 32768 = 32768) :
    (State.onLink s i f).drop fm = s.drop fm := by
  refine drop_sub hfm ?_
  unfold State.onLink
  repeat' (first | simp only [↓State.onGlk_drop, id_eq, Nat.reduceAnd, Nat.reduceEqDiff, ↓drop_ite, ↓drop_fst_ite, ↓drop_cond, ↓resState_ite, ↓resState_next, ite_self, cond_self, true_or, or_true, false_or, or_false, implies_true, ↓foldl_drop, ↓foldl_fst_drop] | (refine (State.onGlk_drop (by decide) ?_ ?_ ?_ ?_ ?_ ?_ ?_ ).trans ?_) | with_reducible rfl | exact Or.inl (by decide) | refine Or.inr fun _ => ?_ | (intro _; split <;> with_reducible rfl) | split)

theorem State.onPort_drop {fm : Nat} (s : State) (p : RPort) (f : RingPort → RingPort) (hfm : fm &&& 128 = 128) :
    (State.onPort s p f).drop fm = s.drop fm := by
  refine drop_sub hfm ?_
  unfold State.onPort
  repeat' (first | simp only [↓State.onSpl_drop, id_eq, Nat.reduceAnd, Nat.reduceEqDiff, ↓drop_ite, ↓drop_fst_ite, ↓drop_cond, ↓resState_ite, ↓resState_next, ite_self, cond_self, true_or, or_true, false_or, or_false, implies_true, ↓foldl_drop, ↓foldl_fst_drop] | split)

theorem State.onCh_drop {fm : Nat} (s : State) (n : Fin 12) (f : LswCh → LswCh) (hfm : fm &&& 67108864 = 67108864) :
    (State.onCh s n f).drop fm = s.drop fm := by
  refine drop_sub hfm ?_
  unfold State.onCh
  repeat' (first | simp only [↓State.onLsw_drop, id_eq, Nat.reduceAnd, Nat.reduceEqDiff, ↓drop_ite, ↓drop_fst_ite, ↓drop_cond, ↓resState_ite, ↓resState_next, ite_self, cond_self, true_or, or_true, false_or, or_false, implies_true, ↓foldl_drop, ↓foldl_fst_drop] | split)

theorem State.onCluster_drop {fm : Nat} (s : State) (n : Fin 3) (f : ClusterRec → ClusterRec) (hfm : fm &&& 67108864 = 67108864) :
    (State.onCluster s n f).drop fm = s.drop fm := by
  refine drop_sub hfm ?_
  unfold State.onCluster
  repeat' (first | simp only [↓State.onLsw_drop, id_eq, Nat.reduceAnd, Nat.reduceEqDiff, ↓drop_ite, ↓drop_fst_ite, ↓drop_cond, ↓resState_ite, ↓resState_next, ite_self, cond_self, true_or, or_true, false_or, or_false, implies_true, ↓foldl_drop, ↓foldl_fst_drop] | split)

theorem send_drop {fm : Nat} (s : State) (o : Out) (hfm : fm &&& 137438953472 = 137438953472) :
    (send s o).drop fm = s.drop fm := by
  refine drop_sub hfm ?_
  unfold send
  repeat' (first | simp only [↓State.withOutbox_drop, id_eq, Nat.reduceAnd, Nat.reduceEqDiff, ↓drop_ite, ↓drop_fst_ite, ↓drop_cond, ↓resState_ite, ↓resState_next, ite_self, cond_self, true_or, or_true, false_or, or_false, implies_true, ↓foldl_drop, ↓foldl_fst_drop] | split)

theorem answer_drop {fm : Nat} (s : State) (p : Requester) (code : Nat) (hfm : fm &&& 137438953472 = 137438953472) :
    (answer s p code).drop fm = s.drop fm := by
  refine drop_sub hfm ?_
  unfold answer
  repeat' (first | simp only [↓send_drop, id_eq, Nat.reduceAnd, Nat.reduceEqDiff, ↓drop_ite, ↓drop_fst_ite, ↓drop_cond, ↓resState_ite, ↓resState_next, ite_self, cond_self, true_or, or_true, false_or, or_false, implies_true, ↓foldl_drop, ↓foldl_fst_drop] | split)

theorem tick_drop {fm : Nat} (s : State) (hfm : fm &&& 34359738624 = 34359738624) :
    (tick s).drop fm = s.drop fm := by
  refine drop_sub hfm ?_
  unfold tick
  repeat' (first | simp only [↓State.withClock_drop, ↓State.onTim_drop, id_eq, Nat.reduceAnd, Nat.reduceEqDiff, ↓drop_ite, ↓drop_fst_ite, ↓drop_cond, ↓resState_ite, ↓resState_next, ite_self, cond_self, true_or, or_true, false_or, or_false, implies_true, ↓foldl_drop, ↓foldl_fst_drop] | split)

theorem nextFree_drop {fm : Nat} (s : State) (hfm : fm &&& 68719476736 = 68719476736) :
    (nextFree s).drop fm = s.drop fm := by
  refine drop_sub hfm ?_
  unfold nextFree
  repeat' (first | simp only [↓State.withFree_drop, id_eq, Nat.reduceAnd, Nat.reduceEqDiff, ↓drop_ite, ↓drop_fst_ite, ↓drop_cond, ↓resState_ite, ↓resState_next, ite_self, cond_self, true_or, or_true, false_or, or_false, implies_true, ↓foldl_drop, ↓foldl_fst_drop] | split)

theorem logEvent_drop {fm : Nat} (s : State) (code : Nat) (d1 : Nat) (d2 : Nat) (d3 : Nat) (hfm : fm &&& 8589934592 = 8589934592) :
    (logEvent s code d1 d2 d3).drop fm = s.drop fm := by
  refine drop_sub hfm ?_
  unfold logEvent
  repeat' (first | simp only [↓State.onEvt_drop, id_eq, Nat.reduceAnd, Nat.reduceEqDiff, ↓drop_ite, ↓drop_fst_ite, ↓drop_cond, ↓resState_ite, ↓resState_next, ite_self, cond_self, true_or, or_true, false_or, or_false, implies_true, ↓foldl_drop, ↓foldl_fst_drop] | (refine (State.onEvt_drop (by decide) ?_ ?_ ?_ ).trans ?_) | with_reducible rfl | exact Or.inl (by decide) | refine Or.inr fun _ => ?_ | (intro _; split <;> with_reducible rfl) | exact fun e => e.raise_nvm _ _ | exact fun e => e.raise_nvmPos _ _ | exact fun e => e.raise_wrapped _ _ | split)

theorem takeHwEvent_drop {fm : Nat} (s : State) (x : Event) (hfm : fm &&& 8589934592 = 8589934592) :
    (takeHwEvent s x).drop fm = s.drop fm := by
  refine drop_sub hfm ?_
  unfold takeHwEvent
  repeat' (first | simp only [↓State.onEvt_drop, id_eq, Nat.reduceAnd, Nat.reduceEqDiff, ↓drop_ite, ↓drop_fst_ite, ↓drop_cond, ↓resState_ite, ↓resState_next, ite_self, cond_self, true_or, or_true, false_or, or_false, implies_true, ↓foldl_drop, ↓foldl_fst_drop] | (refine (State.onEvt_drop (by decide) ?_ ?_ ?_ ).trans ?_) | with_reducible rfl | exact Or.inl (by decide) | refine Or.inr fun _ => ?_ | (intro _; split <;> with_reducible rfl) | exact fun e => e.log_nvm _ | exact fun e => e.log_nvmPos _ | exact fun e => e.log_wrapped _ | split)

theorem takeHwEvents_drop {fm : Nat} (s : State) (hfm : fm &&& 8589934592 = 8589934592) :
    (takeHwEvents s).drop fm = s.drop fm := by
  refine drop_sub hfm ?_
  unfold takeHwEvents
  repeat' (first | simp only [↓takeHwEvent_drop, ↓State.onEvt_drop, id_eq, Nat.reduceAnd, Nat.reduceEqDiff, ↓drop_ite, ↓drop_fst_ite, ↓drop_cond, ↓resState_ite, ↓resState_next, ite_self, cond_self, true_or, or_true, false_or, or_false, implies_true, ↓foldl_drop, ↓foldl_fst_drop] | (refine (foldl_drop (fun _ _ => ?_) _ _).trans ?_) | (refine (State.onEvt_drop (by decide) ?_ ?_ ?_ ).trans ?_) | with_reducible rfl | exact Or.inl (by decide) | refine Or.inr fun _ => ?_ | (intro _; split <;> with_reducible rfl) | split)

theorem logWide_drop {fm : Nat} (s : State) (code : Nat) (v : Nat) (hfm : fm &&& 8589934592 = 8589934592) :
    (logWide s code v).drop fm = s.drop fm := by
  refine drop_sub hfm ?_
  unfold logWide
  repeat' (first | simp only [↓logEvent_drop, id_eq, Nat.reduceAnd, Nat.reduceEqDiff, ↓drop_ite, ↓drop_fst_ite, ↓drop_cond, ↓resState_ite, ↓resState_next, ite_self, cond_self, true_or, or_true, false_or, or_false, implies_true, ↓foldl_drop, ↓foldl_fst_drop] | split)

theorem logWideS_drop {fm : Nat} (s : State) (code : Nat) (v : Int) (hfm : fm &&& 8589934592 = 8589934592) :
    (logWideS s code v).drop fm = s.drop fm := by
  refine drop_sub hfm ?_
  unfold logWideS
  repeat' (first | simp only [↓logEvent_drop, id_eq, Nat.reduceAnd, Nat.reduceEqDiff, ↓drop_ite, ↓drop_fst_ite, ↓drop_cond, ↓resState_ite, ↓resState_next, ite_self, cond_self, true_or, or_true, false_or, or_false, implies_true, ↓foldl_drop, ↓foldl_fst_drop] | split)

theorem dcqFull_drop {fm : Nat} (s : State) (n : Nat) (hfm : fm &&& 8 = 8) :
    (dcqFull s n).drop fm = s.drop fm := by
  refine drop_sub hfm ?_
  unfold dcqFull
  repeat' (first | simp only [↓State.onEng_drop, id_eq, Nat.reduceAnd, Nat.reduceEqDiff, ↓drop_ite, ↓drop_fst_ite, ↓drop_cond, ↓resState_ite, ↓resState_next, ite_self, cond_self, true_or, or_true, false_or, or_false, implies_true, ↓foldl_drop, ↓foldl_fst_drop] | split)

theorem deny_drop {fm : Nat} (s : State) (p : Requester) (c : OpClass) (addr : Word) (hfm : fm &&& 10737418240 = 10737418240) :
    (deny s p c addr).drop fm = s.drop fm := by
  refine drop_sub hfm ?_
  unfold deny
  repeat' (first | simp only [↓logEvent_drop, ↓State.onSec_drop, id_eq, Nat.reduceAnd, Nat.reduceEqDiff, ↓drop_ite, ↓drop_fst_ite, ↓drop_cond, ↓resState_ite, ↓resState_next, ite_self, cond_self, true_or, or_true, false_or, or_false, implies_true, ↓foldl_drop, ↓foldl_fst_drop] | (refine (State.onSec_drop (by decide) ?_ ).trans ?_) | with_reducible rfl | exact Or.inl (by decide) | refine Or.inr fun _ => ?_ | (intro _; split <;> with_reducible rfl) | split)

theorem withRight_drop {fm : Nat} {s : State} {p : Requester} {c : OpClass} {addr : Word} {op : State → RegRes}
    {lamp : Bool} (h : fm &&& 10737418240 = 10737418240) (g : ∀ t, (op t).1.drop fm = t.drop fm) :
    (withRight s p c addr op lamp).1.drop fm = s.drop fm := by
  unfold withRight
  split
  · exact g s
  · exact deny_drop s p c addr h

theorem regCmd_drop {fm : Nat} {s : State} {p : Requester} {op : State → RegRes} (h : fm &&& 137438953472 = 137438953472)
    (g : ∀ t, (op t).1.drop fm = t.drop fm) : (regCmd s p op).drop fm = s.drop fm := by
  unfold regCmd
  split
  · dsimp only
    split
    · exact (answer_drop _ _ _ h).trans (g s)
    · exact g s
  · rfl

theorem refreshWords_drop {fm : Nat} (s : State) (hfm : fm &&& 32768 = 32768) :
    (refreshWords s).drop fm = s.drop fm := by
  refine drop_sub hfm ?_
  unfold refreshWords
  repeat' (first | simp only [↓State.onGlk_drop, id_eq, Nat.reduceAnd, Nat.reduceEqDiff, ↓drop_ite, ↓drop_fst_ite, ↓drop_cond, ↓resState_ite, ↓resState_next, ite_self, cond_self, true_or, or_true, false_or, or_false, implies_true, ↓foldl_drop, ↓foldl_fst_drop] | (refine (State.onGlk_drop (by decide) ?_ ?_ ?_ ?_ ?_ ?_ ?_ ).trans ?_) | with_reducible rfl | exact Or.inl (by decide) | refine Or.inr fun _ => ?_ | (intro _; split <;> with_reducible rfl) | split)

theorem refreshFire_drop {fm : Nat} (s : State) (hfm : fm &&& 8589967360 = 8589967360) :
    (refreshFire s).drop fm = s.drop fm := by
  refine drop_sub hfm ?_
  unfold refreshFire
  repeat' (first | simp only [↓logEvent_drop, ↓State.onGlk_drop, id_eq, Nat.reduceAnd, Nat.reduceEqDiff, ↓drop_ite, ↓drop_fst_ite, ↓drop_cond, ↓resState_ite, ↓resState_next, ite_self, cond_self, true_or, or_true, false_or, or_false, implies_true, ↓foldl_drop, ↓foldl_fst_drop] | (refine (State.onGlk_drop (by decide) ?_ ?_ ?_ ?_ ?_ ?_ ?_ ).trans ?_) | with_reducible rfl | exact Or.inl (by decide) | refine Or.inr fun _ => ?_ | (intro _; split <;> with_reducible rfl) | split)

theorem refreshBridge_drop {fm : Nat} (s : State) (hfm : fm &&& 8589967360 = 8589967360) :
    (refreshBridge s).drop fm = s.drop fm := by
  refine drop_sub hfm ?_
  unfold refreshBridge
  repeat' (first | simp only [↓refreshFire_drop, ↓refreshWords_drop, id_eq, Nat.reduceAnd, Nat.reduceEqDiff, ↓drop_ite, ↓drop_fst_ite, ↓drop_cond, ↓resState_ite, ↓resState_next, ite_self, cond_self, true_or, or_true, false_or, or_false, implies_true, ↓foldl_drop, ↓foldl_fst_drop] | split)

theorem setHiZ_drop {fm : Nat} (s : State) (l : Leg) (cause : Nat) (hfm : fm &&& 549755846656 = 549755846656) :
    (setHiZ s l cause).drop fm = s.drop fm := by
  refine drop_sub hfm ?_
  unfold setHiZ
  repeat' (first | simp only [↓State.onLeg_drop, id_eq, Nat.reduceAnd, Nat.reduceEqDiff, ↓drop_ite, ↓drop_fst_ite, ↓drop_cond, ↓resState_ite, ↓resState_next, ite_self, cond_self, true_or, or_true, false_or, or_false, implies_true, ↓foldl_drop, ↓foldl_fst_drop] | split)

theorem bothHiZ_drop {fm : Nat} (s : State) (cause : Nat) (keepMark : Bool) (hfm : fm &&& 549755846656 = 549755846656) :
    (bothHiZ s cause keepMark).drop fm = s.drop fm := by
  refine drop_sub hfm ?_
  unfold bothHiZ
  repeat' (first | simp only [↓State.onGlk_drop, id_eq, Nat.reduceAnd, Nat.reduceEqDiff, ↓drop_ite, ↓drop_fst_ite, ↓drop_cond, ↓resState_ite, ↓resState_next, ite_self, cond_self, true_or, or_true, false_or, or_false, implies_true, ↓foldl_drop, ↓foldl_fst_drop] | (refine (State.onGlk_drop (by decide) ?_ ?_ ?_ ?_ ?_ ?_ ?_ ).trans ?_) | with_reducible rfl | exact Or.inl (by decide) | refine Or.inr fun _ => ?_ | (intro _; split <;> with_reducible rfl) | split)

theorem assertClose_drop {fm : Nat} (s : State) (cause : Nat) (hfm : fm &&& 4406636478464 = 4406636478464) :
    (assertClose s cause).drop fm = s.drop fm := by
  refine drop_sub hfm ?_
  unfold assertClose
  repeat' (first | simp only [↓logEvent_drop, ↓State.onGlk_drop, id_eq, Nat.reduceAnd, Nat.reduceEqDiff, ↓drop_ite, ↓drop_fst_ite, ↓drop_cond, ↓resState_ite, ↓resState_next, ite_self, cond_self, true_or, or_true, false_or, or_false, implies_true, ↓foldl_drop, ↓foldl_fst_drop] | (refine (State.onGlk_drop (by decide) ?_ ?_ ?_ ?_ ?_ ?_ ?_ ).trans ?_) | with_reducible rfl | exact Or.inl (by decide) | refine Or.inr fun _ => ?_ | (intro _; split <;> with_reducible rfl) | split)

theorem chOn_drop {fm : Nat} (s : State) (n : Fin 12) (hfm : fm &&& 67108864 = 67108864) :
    (chOn s n).drop fm = s.drop fm := by
  refine drop_sub hfm ?_
  unfold chOn
  repeat' (first | simp only [↓State.onCh_drop, id_eq, Nat.reduceAnd, Nat.reduceEqDiff, ↓drop_ite, ↓drop_fst_ite, ↓drop_cond, ↓resState_ite, ↓resState_next, ite_self, cond_self, true_or, or_true, false_or, or_false, implies_true, ↓foldl_drop, ↓foldl_fst_drop] | split)

theorem chOff_drop {fm : Nat} (s : State) (n : Fin 12) (hfm : fm &&& 67108864 = 67108864) :
    (chOff s n).drop fm = s.drop fm := by
  refine drop_sub hfm ?_
  unfold chOff
  repeat' (first | simp only [↓State.onCh_drop, id_eq, Nat.reduceAnd, Nat.reduceEqDiff, ↓drop_ite, ↓drop_fst_ite, ↓drop_cond, ↓resState_ite, ↓resState_next, ite_self, cond_self, true_or, or_true, false_or, or_false, implies_true, ↓foldl_drop, ↓foldl_fst_drop] | split)

theorem refreshCh_drop {fm : Nat} (s : State) (n : Fin 12) (hfm : fm &&& 67108864 = 67108864) :
    (refreshCh s n).drop fm = s.drop fm := by
  refine drop_sub hfm ?_
  unfold refreshCh
  repeat' (first | simp only [↓chOn_drop, ↓chOff_drop, ↓State.onCh_drop, id_eq, Nat.reduceAnd, Nat.reduceEqDiff, ↓drop_ite, ↓drop_fst_ite, ↓drop_cond, ↓resState_ite, ↓resState_next, ite_self, cond_self, true_or, or_true, false_or, or_false, implies_true, ↓foldl_drop, ↓foldl_fst_drop] | split)

theorem refreshLoads_drop {fm : Nat} (s : State) (hfm : fm &&& 67108864 = 67108864) :
    (refreshLoads s).drop fm = s.drop fm := by
  refine drop_sub hfm ?_
  unfold refreshLoads
  repeat' (first | simp only [↓refreshCh_drop, id_eq, Nat.reduceAnd, Nat.reduceEqDiff, ↓drop_ite, ↓drop_fst_ite, ↓drop_cond, ↓resState_ite, ↓resState_next, ite_self, cond_self, true_or, or_true, false_or, or_false, implies_true, ↓foldl_drop, ↓foldl_fst_drop] | (refine (foldl_drop (fun _ _ => ?_) _ _).trans ?_) | split)

theorem setWant_drop {fm : Nat} (s : State) (n : Fin 12) (on : Bool) (hfm : fm &&& 67108864 = 67108864) :
    (setWant s n on).drop fm = s.drop fm := by
  refine drop_sub hfm ?_
  unfold setWant
  repeat' (first | simp only [↓refreshCh_drop, ↓State.onCh_drop, id_eq, Nat.reduceAnd, Nat.reduceEqDiff, ↓drop_ite, ↓drop_fst_ite, ↓drop_cond, ↓resState_ite, ↓resState_next, ite_self, cond_self, true_or, or_true, false_or, or_false, implies_true, ↓foldl_drop, ↓foldl_fst_drop] | split)

theorem commandCh_drop {fm : Nat} (s : State) (n : Fin 12) (on : Bool) (hfm : fm &&& 67108864 = 67108864) :
    (commandCh s n on).drop fm = s.drop fm := by
  refine drop_sub hfm ?_
  unfold commandCh
  repeat' (first | simp only [↓setWant_drop, ↓State.onCh_drop, id_eq, Nat.reduceAnd, Nat.reduceEqDiff, ↓drop_ite, ↓drop_fst_ite, ↓drop_cond, ↓resState_ite, ↓resState_next, ite_self, cond_self, true_or, or_true, false_or, or_false, implies_true, ↓foldl_drop, ↓foldl_fst_drop] | split)

theorem resumeLoads_drop {fm : Nat} (s : State) (hfm : fm &&& 67108864 = 67108864) :
    (resumeLoads s).drop fm = s.drop fm := by
  refine drop_sub hfm ?_
  unfold resumeLoads
  repeat' (first | simp only [↓setWant_drop, ↓State.onCh_drop, id_eq, Nat.reduceAnd, Nat.reduceEqDiff, ↓drop_ite, ↓drop_fst_ite, ↓drop_cond, ↓resState_ite, ↓resState_next, ite_self, cond_self, true_or, or_true, false_or, or_false, implies_true, ↓foldl_drop, ↓foldl_fst_drop] | (refine (foldl_drop (fun _ _ => ?_) _ _).trans ?_) | split)

theorem setHeater_drop {fm : Nat} (s : State) (n : Fin 12) (st : HeatSt) (hfm : fm &&& 8665432064 = 8665432064) :
    (setHeater s n st).drop fm = s.drop fm := by
  refine drop_sub hfm ?_
  unfold setHeater
  repeat' (first | simp only [↓setWant_drop, ↓logEvent_drop, ↓State.onThm_drop, id_eq, Nat.reduceAnd, Nat.reduceEqDiff, ↓drop_ite, ↓drop_fst_ite, ↓drop_cond, ↓resState_ite, ↓resState_next, ite_self, cond_self, true_or, or_true, false_or, or_false, implies_true, ↓foldl_drop, ↓foldl_fst_drop] | (refine (State.onThm_drop (by decide) ?_ ?_ ?_ ?_ ).trans ?_) | with_reducible rfl | exact Or.inl (by decide) | refine Or.inr fun _ => ?_ | (intro _; split <;> with_reducible rfl) | split)

theorem setCoil_drop {fm : Nat} (s : State) (c : ChainId) (role : Nat) (on : Bool) (hfm : fm &&& 67305472 = 67305472) :
    (setCoil s c role on).drop fm = s.drop fm := by
  refine drop_sub hfm ?_
  unfold setCoil
  repeat' (first | simp only [↓setWant_drop, ↓State.onChain_drop, id_eq, Nat.reduceAnd, Nat.reduceEqDiff, ↓drop_ite, ↓drop_fst_ite, ↓drop_cond, ↓resState_ite, ↓resState_next, ite_self, cond_self, true_or, or_true, false_or, or_false, implies_true, ↓foldl_drop, ↓foldl_fst_drop] | (refine (foldl_drop (fun _ _ => ?_) _ _).trans ?_) | split)

theorem dropCoils_drop {fm : Nat} (s : State) (c : ChainId) (hfm : fm &&& 67305472 = 67305472) :
    (dropCoils s c).drop fm = s.drop fm := by
  refine drop_sub hfm ?_
  unfold dropCoils
  repeat' (first | simp only [↓setCoil_drop, id_eq, Nat.reduceAnd, Nat.reduceEqDiff, ↓drop_ite, ↓drop_fst_ite, ↓drop_cond, ↓resState_ite, ↓resState_next, ite_self, cond_self, true_or, or_true, false_or, or_false, implies_true, ↓foldl_drop, ↓foldl_fst_drop] | split)

theorem sendEnds_drop {fm : Nat} (s : State) (ends : List Bool) (f : Bool → Out) (hfm : fm &&& 137438953472 = 137438953472) :
    (sendEnds s ends f).drop fm = s.drop fm := by
  refine drop_sub hfm ?_
  unfold sendEnds
  repeat' (first | simp only [↓send_drop, id_eq, Nat.reduceAnd, Nat.reduceEqDiff, ↓drop_ite, ↓drop_fst_ite, ↓drop_cond, ↓resState_ite, ↓resState_next, ite_self, cond_self, true_or, or_true, false_or, or_false, implies_true, ↓foldl_drop, ↓foldl_fst_drop] | (refine (foldl_drop (fun _ _ => ?_) _ _).trans ?_) | split)

theorem sendChain_drop {fm : Nat} (s : State) (c : ChainId) (f : Bool → Out) (hfm : fm &&& 137438953472 = 137438953472) :
    (sendChain s c f).drop fm = s.drop fm := by
  refine drop_sub hfm ?_
  unfold sendChain
  repeat' (first | simp only [↓sendEnds_drop, id_eq, Nat.reduceAnd, Nat.reduceEqDiff, ↓drop_ite, ↓drop_fst_ite, ↓drop_cond, ↓resState_ite, ↓resState_next, ite_self, cond_self, true_or, or_true, false_or, or_false, implies_true, ↓foldl_drop, ↓foldl_fst_drop] | split)

theorem sendSrq_drop {fm : Nat} (s : State) (c : ChainId) (m : Fin 32) (op : Nat) (arg : List Byte) (hfm : fm &&& 786432 = 786432) :
    (sendSrq s c m op arg).drop fm = s.drop fm := by
  refine drop_sub hfm ?_
  unfold sendSrq
  repeat' (first | simp only [↓State.onSen_drop, id_eq, Nat.reduceAnd, Nat.reduceEqDiff, ↓drop_ite, ↓drop_fst_ite, ↓drop_cond, ↓resState_ite, ↓resState_next, ite_self, cond_self, true_or, or_true, false_or, or_false, implies_true, ↓foldl_drop, ↓foldl_fst_drop] | split)

theorem blockAll_drop {fm : Nat} (s : State) (c : ChainId) (hfm : fm &&& 137439936512 = 137439936512) :
    (blockAll s c).drop fm = s.drop fm := by
  refine drop_sub hfm ?_
  unfold blockAll
  repeat' (first | simp only [↓sendChain_drop, ↓State.onChain_drop, ↓State.onSen_drop, id_eq, Nat.reduceAnd, Nat.reduceEqDiff, ↓drop_ite, ↓drop_fst_ite, ↓drop_cond, ↓resState_ite, ↓resState_next, ite_self, cond_self, true_or, or_true, false_or, or_false, implies_true, ↓foldl_drop, ↓foldl_fst_drop] | split)

theorem writeFMod_drop {fm : Nat} (s : State) (c : ChainId) (hfm : fm &&& 983040 = 983040) :
    (writeFMod s c).drop fm = s.drop fm := by
  refine drop_sub hfm ?_
  unfold writeFMod
  repeat' (first | simp only [↓sendSrq_drop, ↓State.onChain_drop, id_eq, Nat.reduceAnd, Nat.reduceEqDiff, ↓drop_ite, ↓drop_fst_ite, ↓drop_cond, ↓resState_ite, ↓resState_next, ite_self, cond_self, true_or, or_true, false_or, or_false, implies_true, ↓foldl_drop, ↓foldl_fst_drop] | (refine (foldl_drop (fun _ _ => ?_) _ _).trans ?_) | split)

theorem endLearnCycle_drop {fm : Nat} (s : State) (c : ChainId) (completed : Bool) (hfm : fm &&& 8590131200 = 8590131200) :
    (endLearnCycle s c completed).drop fm = s.drop fm := by
  refine drop_sub hfm ?_
  unfold endLearnCycle
  repeat' (first | simp only [↓logEvent_drop, ↓State.onChain_drop, id_eq, Nat.reduceAnd, Nat.reduceEqDiff, ↓drop_ite, ↓drop_fst_ite, ↓drop_cond, ↓resState_ite, ↓resState_next, ite_self, cond_self, true_or, or_true, false_or, or_false, implies_true, ↓foldl_drop, ↓foldl_fst_drop] | split)

theorem endAct_drop {fm : Nat} (s : State) (cause : Nat) (slot : Fin 4) (hfm : fm &&& 12960628736 = 12960628736) :
    (endAct s cause slot).drop fm = s.drop fm := by
  refine drop_sub hfm ?_
  unfold endAct
  repeat' (first | simp only [↓logEvent_drop, ↓endLearnCycle_drop, ↓setHeater_drop, ↓State.onMnt_drop, ↓State.onGlk_drop, id_eq, Nat.reduceAnd, Nat.reduceEqDiff, ↓drop_ite, ↓drop_fst_ite, ↓drop_cond, ↓resState_ite, ↓resState_next, ite_self, cond_self, true_or, or_true, false_or, or_false, implies_true, ↓foldl_drop, ↓foldl_fst_drop] | (refine (State.onGlk_drop (by decide) ?_ ?_ ?_ ?_ ?_ ?_ ?_ ).trans ?_) | with_reducible rfl | exact Or.inl (by decide) | refine Or.inr fun _ => ?_ | (intro _; split <;> with_reducible rfl) | split)

theorem endLearn_drop {fm : Nat} (s : State) (c : ChainId) (cause : Nat) (hfm : fm &&& 12960628736 = 12960628736) :
    (endLearn s c cause).drop fm = s.drop fm := by
  refine drop_sub hfm ?_
  unfold endLearn
  repeat' (first | simp only [↓endAct_drop, ↓endLearnCycle_drop, id_eq, Nat.reduceAnd, Nat.reduceEqDiff, ↓drop_ite, ↓drop_fst_ite, ↓drop_cond, ↓resState_ite, ↓resState_next, ite_self, cond_self, true_or, or_true, false_or, or_false, implies_true, ↓foldl_drop, ↓foldl_fst_drop] | (refine (foldl_drop (fun _ _ => ?_) _ _).trans ?_) | split)

theorem watchActs_drop {fm : Nat} (s : State) (hfm : fm &&& 12960628736 = 12960628736) :
    (watchActs s).drop fm = s.drop fm := by
  refine drop_sub hfm ?_
  unfold watchActs
  repeat' (first | simp only [↓endAct_drop, id_eq, Nat.reduceAnd, Nat.reduceEqDiff, ↓drop_ite, ↓drop_fst_ite, ↓drop_cond, ↓resState_ite, ↓resState_next, ite_self, cond_self, true_or, or_true, false_or, or_false, implies_true, ↓foldl_drop, ↓foldl_fst_drop] | (refine (foldl_drop (fun _ _ => ?_) _ _).trans ?_) | split)

theorem enterBlock_drop {fm : Nat} (s : State) (c : ChainId) (hfm : fm &&& 12961415168 = 12961415168) :
    (enterBlock s c).drop fm = s.drop fm := by
  refine drop_sub hfm ?_
  unfold enterBlock
  repeat' (first | simp only [↓writeFMod_drop, ↓endLearn_drop, ↓State.onChain_drop, id_eq, Nat.reduceAnd, Nat.reduceEqDiff, ↓drop_ite, ↓drop_fst_ite, ↓drop_cond, ↓resState_ite, ↓resState_next, ite_self, cond_self, true_or, or_true, false_or, or_false, implies_true, ↓foldl_drop, ↓foldl_fst_drop] | split)

theorem startOpening_drop {fm : Nat} (s : State) (c : ChainId) (hfm : fm &&& 12961415168 = 12961415168) :
    (startOpening s c).drop fm = s.drop fm := by
  refine drop_sub hfm ?_
  unfold startOpening
  repeat' (first | simp only [↓setCoil_drop, ↓enterBlock_drop, ↓State.onChain_drop, id_eq, Nat.reduceAnd, Nat.reduceEqDiff, ↓drop_ite, ↓drop_fst_ite, ↓drop_cond, ↓resState_ite, ↓resState_next, ite_self, cond_self, true_or, or_true, false_or, or_false, implies_true, ↓foldl_drop, ↓foldl_fst_drop] | split)

theorem abortConnect_drop {fm : Nat} (s : State) (c : ChainId) (hfm : fm &&& 12961415168 = 12961415168) :
    (abortConnect s c).drop fm = s.drop fm := by
  refine drop_sub hfm ?_
  unfold abortConnect
  repeat' (first | simp only [↓setCoil_drop, ↓enterBlock_drop, ↓State.onChain_drop, id_eq, Nat.reduceAnd, Nat.reduceEqDiff, ↓drop_ite, ↓drop_fst_ite, ↓drop_cond, ↓resState_ite, ↓resState_next, ite_self, cond_self, true_or, or_true, false_or, or_false, implies_true, ↓foldl_drop, ↓foldl_fst_drop] | split)

theorem protectiveZero_drop {fm : Nat} (s : State) (c : ChainId) (opens : Bool) (hfm : fm &&& 12960628736 = 12960628736) :
    (protectiveZero s c opens).drop fm = s.drop fm := by
  refine drop_sub hfm ?_
  unfold protectiveZero
  repeat' (first | simp only [↓endLearn_drop, ↓State.onChain_drop, id_eq, Nat.reduceAnd, Nat.reduceEqDiff, ↓drop_ite, ↓drop_fst_ite, ↓drop_cond, ↓resState_ite, ↓resState_next, ite_self, cond_self, true_or, or_true, false_or, or_false, implies_true, ↓foldl_drop, ↓foldl_fst_drop] | split)

theorem requestOpen_drop {fm : Nat} (s : State) (c : ChainId) (hfm : fm &&& 12961415168 = 12961415168) :
    (requestOpen s c).drop fm = s.drop fm := by
  refine drop_sub hfm ?_
  unfold requestOpen
  repeat' (first | simp only [↓startOpening_drop, ↓abortConnect_drop, ↓protectiveZero_drop, ↓State.onChain_drop, id_eq, Nat.reduceAnd, Nat.reduceEqDiff, ↓drop_ite, ↓drop_fst_ite, ↓drop_cond, ↓resState_ite, ↓resState_next, ite_self, cond_self, true_or, or_true, false_or, or_false, implies_true, ↓foldl_drop, ↓foldl_fst_drop] | split)

theorem requestBlock_drop {fm : Nat} (s : State) (c : ChainId) (hfm : fm &&& 12961415168 = 12961415168) :
    (requestBlock s c).drop fm = s.drop fm := by
  refine drop_sub hfm ?_
  unfold requestBlock
  repeat' (first | simp only [↓abortConnect_drop, ↓protectiveZero_drop, ↓State.onChain_drop, id_eq, Nat.reduceAnd, Nat.reduceEqDiff, ↓drop_ite, ↓drop_fst_ite, ↓drop_cond, ↓resState_ite, ↓resState_next, ite_self, cond_self, true_or, or_true, false_or, or_false, implies_true, ↓foldl_drop, ↓foldl_fst_drop] | split)

theorem bypassAllZero_drop {fm : Nat} (s : State) (c : ChainId) (hfm : fm &&& 12961415168 = 12961415168) :
    (bypassAllZero s c).drop fm = s.drop fm := by
  refine drop_sub hfm ?_
  unfold bypassAllZero
  repeat' (first | simp only [↓protectiveZero_drop, ↓abortConnect_drop, ↓State.onChain_drop, id_eq, Nat.reduceAnd, Nat.reduceEqDiff, ↓drop_ite, ↓drop_fst_ite, ↓drop_cond, ↓resState_ite, ↓resState_next, ite_self, cond_self, true_or, or_true, false_or, or_false, implies_true, ↓foldl_drop, ↓foldl_fst_drop] | split)

theorem blockChains_drop {fm : Nat} (s : State) (hfm : fm &&& 12961415168 = 12961415168) :
    (blockChains s).drop fm = s.drop fm := by
  refine drop_sub hfm ?_
  unfold blockChains
  repeat' (first | simp only [↓requestBlock_drop, ↓State.forChains_drop, id_eq, Nat.reduceAnd, Nat.reduceEqDiff, ↓drop_ite, ↓drop_fst_ite, ↓drop_cond, ↓resState_ite, ↓resState_next, ite_self, cond_self, true_or, or_true, false_or, or_false, implies_true, ↓foldl_drop, ↓foldl_fst_drop] | (refine (State.forChains_drop (fun _ _ => ?_) _).trans ?_) | split)

theorem endJig_drop {fm : Nat} (s : State) (hfm : fm &&& 12960628736 = 12960628736) :
    (endJig s).drop fm = s.drop fm := by
  refine drop_sub hfm ?_
  unfold endJig
  repeat' (first | simp only [↓endAct_drop, id_eq, Nat.reduceAnd, Nat.reduceEqDiff, ↓drop_ite, ↓drop_fst_ite, ↓drop_cond, ↓resState_ite, ↓resState_next, ite_self, cond_self, true_or, or_true, false_or, or_false, implies_true, ↓foldl_drop, ↓foldl_fst_drop] | (refine (foldl_drop (fun _ _ => ?_) _ _).trans ?_) | split)

theorem cancelTest_drop {fm : Nat} (s : State) (hfm : fm &&& 32768 = 32768) :
    (cancelTest s).drop fm = s.drop fm := by
  refine drop_sub hfm ?_
  unfold cancelTest
  repeat' (first | simp only [↓State.onGlk_drop, id_eq, Nat.reduceAnd, Nat.reduceEqDiff, ↓drop_ite, ↓drop_fst_ite, ↓drop_cond, ↓resState_ite, ↓resState_next, ite_self, cond_self, true_or, or_true, false_or, or_false, implies_true, ↓foldl_drop, ↓foldl_fst_drop] | (refine (State.onGlk_drop (by decide) ?_ ?_ ?_ ?_ ?_ ?_ ?_ ).trans ?_) | with_reducible rfl | exact Or.inl (by decide) | refine Or.inr fun _ => ?_ | (intro _; split <;> with_reducible rfl) | split)

theorem blockCell_drop {fm : Nat} (s : State) (cause : Nat) (hfm : fm &&& 558345789440 = 558345789440) :
    (blockCell s cause).drop fm = s.drop fm := by
  refine drop_sub hfm ?_
  unfold blockCell
  repeat' (first | simp only [↓bothHiZ_drop, ↓refreshBridge_drop, ↓cancelTest_drop, ↓State.onArm_drop, id_eq, Nat.reduceAnd, Nat.reduceEqDiff, ↓drop_ite, ↓drop_fst_ite, ↓drop_cond, ↓resState_ite, ↓resState_next, ite_self, cond_self, true_or, or_true, false_or, or_false, implies_true, ↓foldl_drop, ↓foldl_fst_drop] | (refine (State.onArm_drop (by decide) ?_ ?_ ?_ ?_ ).trans ?_) | with_reducible rfl | exact Or.inl (by decide) | refine Or.inr fun _ => ?_ | (intro _; split <;> with_reducible rfl) | split)

theorem decideBypass_drop {fm : Nat} (s : State) (source : Nat) (entry : Option Nat) (hfm : fm &&& 4960780529664 = 4960780529664) :
    (decideBypass s source entry).drop fm = s.drop fm := by
  refine drop_sub hfm ?_
  unfold decideBypass
  repeat' (first | simp only [↓bothHiZ_drop, ↓cancelTest_drop, ↓endJig_drop, ↓logEvent_drop, ↓assertClose_drop, ↓refreshBridge_drop, ↓requestOpen_drop, ↓State.onArm_drop, ↓State.onGlk_drop, ↓State.onPrt_drop, ↓State.forChains_drop, id_eq, Nat.reduceAnd, Nat.reduceEqDiff, ↓drop_ite, ↓drop_fst_ite, ↓drop_cond, ↓resState_ite, ↓resState_next, ite_self, cond_self, true_or, or_true, false_or, or_false, implies_true, ↓foldl_drop, ↓foldl_fst_drop] | (refine (State.forChains_drop (fun _ _ => ?_) _).trans ?_) | (refine (State.onArm_drop (by decide) ?_ ?_ ?_ ?_ ).trans ?_) | (refine (State.onGlk_drop (by decide) ?_ ?_ ?_ ?_ ?_ ?_ ?_ ).trans ?_) | (refine (State.onPrt_drop (by decide) ?_ ?_ ).trans ?_) | with_reducible rfl | exact Or.inl (by decide) | refine Or.inr fun _ => ?_ | (intro _; split <;> with_reducible rfl) | split)

theorem freePending_drop {fm : Nat} (s : State) (hfm : fm &&& 134217728 = 134217728) :
    (freePending s).drop fm = s.drop fm := by
  refine drop_sub hfm ?_
  unfold freePending
  repeat' (first | simp only [↓State.onLbus_drop, id_eq, Nat.reduceAnd, Nat.reduceEqDiff, ↓drop_ite, ↓drop_fst_ite, ↓drop_cond, ↓resState_ite, ↓resState_next, ite_self, cond_self, true_or, or_true, false_or, or_false, implies_true, ↓foldl_drop, ↓foldl_fst_drop] | (refine (foldl_drop (fun _ _ => ?_) _ _).trans ?_) | split)

theorem shedBus_drop {fm : Nat} (s : State) (hfm : fm &&& 8724152320 = 8724152320) :
    (shedBus s).drop fm = s.drop fm := by
  refine drop_sub hfm ?_
  unfold shedBus
  repeat' (first | simp only [↓logEvent_drop, ↓freePending_drop, ↓State.onLbus_drop, id_eq, Nat.reduceAnd, Nat.reduceEqDiff, ↓drop_ite, ↓drop_fst_ite, ↓drop_cond, ↓resState_ite, ↓resState_next, ite_self, cond_self, true_or, or_true, false_or, or_false, implies_true, ↓foldl_drop, ↓foldl_fst_drop] | split)

theorem retimeBus_drop {fm : Nat} (s : State) (im : Image) (hfm : fm &&& 134217728 = 134217728) :
    (retimeBus s im).drop fm = s.drop fm := by
  refine drop_sub hfm ?_
  unfold retimeBus
  repeat' (first | simp only [↓State.onLbus_drop, id_eq, Nat.reduceAnd, Nat.reduceEqDiff, ↓drop_ite, ↓drop_fst_ite, ↓drop_cond, ↓resState_ite, ↓resState_next, ite_self, cond_self, true_or, or_true, false_or, or_false, implies_true, ↓foldl_drop, ↓foldl_fst_drop] | split)

theorem startBus_drop {fm : Nat} (s : State) (hfm : fm &&& 134217728 = 134217728) :
    (startBus s).drop fm = s.drop fm := by
  refine drop_sub hfm ?_
  unfold startBus
  repeat' (first | simp only [↓State.onLbus_drop, id_eq, Nat.reduceAnd, Nat.reduceEqDiff, ↓drop_ite, ↓drop_fst_ite, ↓drop_cond, ↓resState_ite, ↓resState_next, ite_self, cond_self, true_or, or_true, false_or, or_false, implies_true, ↓foldl_drop, ↓foldl_fst_drop] | split)

theorem busToNormal_drop {fm : Nat} (s : State) (hfm : fm &&& 134217728 = 134217728) :
    (busToNormal s).drop fm = s.drop fm := by
  refine drop_sub hfm ?_
  unfold busToNormal
  repeat' (first | simp only [↓State.onLbus_drop, id_eq, Nat.reduceAnd, Nat.reduceEqDiff, ↓drop_ite, ↓drop_fst_ite, ↓drop_cond, ↓resState_ite, ↓resState_next, ite_self, cond_self, true_or, or_true, false_or, or_false, implies_true, ↓foldl_drop, ↓foldl_fst_drop] | split)

theorem busToMonitor_drop {fm : Nat} (s : State) (hfm : fm &&& 8724152320 = 8724152320) :
    (busToMonitor s).drop fm = s.drop fm := by
  refine drop_sub hfm ?_
  unfold busToMonitor
  repeat' (first | simp only [↓logEvent_drop, ↓freePending_drop, ↓State.onLbus_drop, id_eq, Nat.reduceAnd, Nat.reduceEqDiff, ↓drop_ite, ↓drop_fst_ite, ↓drop_cond, ↓resState_ite, ↓resState_next, ite_self, cond_self, true_or, or_true, false_or, or_false, implies_true, ↓foldl_drop, ↓foldl_fst_drop] | (refine (foldl_drop (fun _ _ => ?_) _ _).trans ?_) | split)

theorem commandFrom_drop {fm : Nat} (s : State) (tail : Bool) (hfm : fm &&& 786432 = 786432) :
    (commandFrom s tail).drop fm = s.drop fm := by
  refine drop_sub hfm ?_
  unfold commandFrom
  repeat' (first | simp only [↓State.forChains_drop, ↓State.onSen_drop, id_eq, Nat.reduceAnd, Nat.reduceEqDiff, ↓drop_ite, ↓drop_fst_ite, ↓drop_cond, ↓resState_ite, ↓resState_next, ite_self, cond_self, true_or, or_true, false_or, or_false, implies_true, ↓foldl_drop, ↓foldl_fst_drop] | (refine (State.forChains_drop (fun _ _ => ?_) _).trans ?_) | split)

theorem takeFirst_drop {fm : Nat} (s0 : State) (hfm : fm &&& 8691427328 = 8691427328) :
    (takeFirst s0).drop fm = s0.drop fm := by
  refine drop_sub hfm ?_
  unfold takeFirst
  repeat' (first | simp only [↓commandFrom_drop, ↓refreshLoads_drop, ↓refreshBridge_drop, ↓State.onArm_drop, ↓State.onDvt_drop, id_eq, Nat.reduceAnd, Nat.reduceEqDiff, ↓drop_ite, ↓drop_fst_ite, ↓drop_cond, ↓resState_ite, ↓resState_next, ite_self, cond_self, true_or, or_true, false_or, or_false, implies_true, ↓foldl_drop, ↓foldl_fst_drop] | (refine (State.onArm_drop (by decide) ?_ ?_ ?_ ?_ ).trans ?_) | with_reducible rfl | exact Or.inl (by decide) | refine Or.inr fun _ => ?_ | (intro _; split <;> with_reducible rfl) | split)

theorem legsFromMirror_drop {fm : Nat} (s : State) (m : Mirror) (hfm : fm &&& 549755846656 = 549755846656) :
    (legsFromMirror s m).drop fm = s.drop fm := by
  refine drop_sub hfm ?_
  unfold legsFromMirror
  repeat' (first | simp only [↓State.onGlk_drop, id_eq, Nat.reduceAnd, Nat.reduceEqDiff, ↓drop_ite, ↓drop_fst_ite, ↓drop_cond, ↓resState_ite, ↓resState_next, ite_self, cond_self, true_or, or_true, false_or, or_false, implies_true, ↓foldl_drop, ↓foldl_fst_drop] | (refine (State.onGlk_drop (by decide) ?_ ?_ ?_ ?_ ?_ ?_ ?_ ).trans ?_) | with_reducible rfl | exact Or.inl (by decide) | refine Or.inr fun _ => ?_ | (intro _; split <;> with_reducible rfl) | split)

theorem loadsFromMirror_drop {fm : Nat} (s : State) (m : Mirror) (hfm : fm &&& 67108864 = 67108864) :
    (loadsFromMirror s m).drop fm = s.drop fm := by
  refine drop_sub hfm ?_
  unfold loadsFromMirror
  repeat' (first | simp only [↓refreshCh_drop, ↓State.onCh_drop, id_eq, Nat.reduceAnd, Nat.reduceEqDiff, ↓drop_ite, ↓drop_fst_ite, ↓drop_cond, ↓resState_ite, ↓resState_next, ite_self, cond_self, true_or, or_true, false_or, or_false, implies_true, ↓foldl_drop, ↓foldl_fst_drop] | (refine (foldl_drop (fun _ _ => ?_) _ _).trans ?_) | split)

theorem beginHold_drop {fm : Nat} (s : State) (hfm : fm &&& 32768 = 32768) :
    (beginHold s).drop fm = s.drop fm := by
  refine drop_sub hfm ?_
  unfold beginHold
  repeat' (first | simp only [↓State.onGlk_drop, id_eq, Nat.reduceAnd, Nat.reduceEqDiff, ↓drop_ite, ↓drop_fst_ite, ↓drop_cond, ↓resState_ite, ↓resState_next, ite_self, cond_self, true_or, or_true, false_or, or_false, implies_true, ↓foldl_drop, ↓foldl_fst_drop] | (refine (State.onGlk_drop (by decide) ?_ ?_ ?_ ?_ ?_ ?_ ?_ ).trans ?_) | with_reducible rfl | exact Or.inl (by decide) | refine Or.inr fun _ => ?_ | (intro _; split <;> with_reducible rfl) | split)

theorem endAllActs_drop {fm : Nat} (s : State) (cause : Nat) (hfm : fm &&& 12960628736 = 12960628736) :
    (endAllActs s cause).drop fm = s.drop fm := by
  refine drop_sub hfm ?_
  unfold endAllActs
  repeat' (first | simp only [↓endAct_drop, id_eq, Nat.reduceAnd, Nat.reduceEqDiff, ↓drop_ite, ↓drop_fst_ite, ↓drop_cond, ↓resState_ite, ↓resState_next, ite_self, cond_self, true_or, or_true, false_or, or_false, implies_true, ↓foldl_drop, ↓foldl_fst_drop] | (refine (foldl_drop (fun _ _ => ?_) _ _).trans ?_) | split)

theorem assumeToken_drop {fm : Nat} (s : State) (gen : Nat) (hfm : fm &&& 562885011456 = 562885011456) :
    (assumeToken s gen).drop fm = s.drop fm := by
  refine drop_sub hfm ?_
  unfold assumeToken
  repeat' (first | simp only [↓legsFromMirror_drop, ↓commandFrom_drop, ↓endAllActs_drop, ↓beginHold_drop, ↓refreshLoads_drop, ↓loadsFromMirror_drop, ↓busToNormal_drop, ↓refreshBridge_drop, ↓State.onArm_drop, ↓State.onDvt_drop, id_eq, Nat.reduceAnd, Nat.reduceEqDiff, ↓drop_ite, ↓drop_fst_ite, ↓drop_cond, ↓resState_ite, ↓resState_next, ite_self, cond_self, true_or, or_true, false_or, or_false, implies_true, ↓foldl_drop, ↓foldl_fst_drop] | (refine (State.onArm_drop (by decide) ?_ ?_ ?_ ?_ ).trans ?_) | with_reducible rfl | exact Or.inl (by decide) | refine Or.inr fun _ => ?_ | (intro _; split <;> with_reducible rfl) | split)

theorem takeOver_drop {fm : Nat} (s : State) (cause : Nat) (hfm : fm &&& 562885011456 = 562885011456) :
    (takeOver s cause).drop fm = s.drop fm := by
  refine drop_sub hfm ?_
  unfold takeOver
  repeat' (first | simp only [↓logEvent_drop, ↓assumeToken_drop, ↓State.onDvt_drop, id_eq, Nat.reduceAnd, Nat.reduceEqDiff, ↓drop_ite, ↓drop_fst_ite, ↓drop_cond, ↓resState_ite, ↓resState_next, ite_self, cond_self, true_or, or_true, false_or, or_false, implies_true, ↓foldl_drop, ↓foldl_fst_drop] | split)

theorem dropRequests_drop {fm : Nat} (s : State) (hfm : fm &&& 786432 = 786432) :
    (dropRequests s).drop fm = s.drop fm := by
  refine drop_sub hfm ?_
  unfold dropRequests
  repeat' (first | simp only [↓State.forChains_drop, ↓State.onSen_drop, id_eq, Nat.reduceAnd, Nat.reduceEqDiff, ↓drop_ite, ↓drop_fst_ite, ↓drop_cond, ↓resState_ite, ↓resState_next, ite_self, cond_self, true_or, or_true, false_or, or_false, implies_true, ↓foldl_drop, ↓foldl_fst_drop] | (refine (State.forChains_drop (fun _ _ => ?_) _).trans ?_) | split)

theorem dropToken_drop {fm : Nat} (s0 : State) (st : DvtSt) (hfm : fm &&& 13129197568 = 13129197568) :
    (dropToken s0 st).drop fm = s0.drop fm := by
  refine drop_sub hfm ?_
  unfold dropToken
  repeat' (first | simp only [↓dropRequests_drop, ↓commandFrom_drop, ↓busToMonitor_drop, ↓endAllActs_drop, ↓refreshLoads_drop, ↓refreshBridge_drop, ↓State.onArm_drop, ↓State.onDvt_drop, id_eq, Nat.reduceAnd, Nat.reduceEqDiff, ↓drop_ite, ↓drop_fst_ite, ↓drop_cond, ↓resState_ite, ↓resState_next, ite_self, cond_self, true_or, or_true, false_or, or_false, implies_true, ↓foldl_drop, ↓foldl_fst_drop] | (refine (State.onArm_drop (by decide) ?_ ?_ ?_ ?_ ).trans ?_) | with_reducible rfl | exact Or.inl (by decide) | refine Or.inr fun _ => ?_ | (intro _; split <;> with_reducible rfl) | split)

theorem immediateActions_drop {fm : Nat} (s : State) (imm : BitVec 8) (e : Fin 64) (hfm : fm &&& 700172967936 = 700172967936) :
    (immediateActions s imm e).drop fm = s.drop fm := by
  refine drop_sub hfm ?_
  unfold immediateActions
  repeat' (first | simp only [↓blockCell_drop, ↓setHiZ_drop, ↓blockAll_drop, ↓requestBlock_drop, ↓refreshBridge_drop, ↓State.onPrt_drop, id_eq, Nat.reduceAnd, Nat.reduceEqDiff, ↓drop_ite, ↓drop_fst_ite, ↓drop_cond, ↓resState_ite, ↓resState_next, ite_self, cond_self, true_or, or_true, false_or, or_false, implies_true, ↓foldl_drop, ↓foldl_fst_drop] | (refine (State.onPrt_drop (by decide) ?_ ?_ ).trans ?_) | with_reducible rfl | exact Or.inl (by decide) | refine Or.inr fun _ => ?_ | (intro _; split <;> with_reducible rfl) | split)

theorem countFiring_drop {fm : Nat} (s : State) (e : Fin 64) (hfm : fm &&& 16777216 = 16777216) :
    (countFiring s e).drop fm = s.drop fm := by
  refine drop_sub hfm ?_
  unfold countFiring
  repeat' (first | simp only [↓State.onPrt_drop, id_eq, Nat.reduceAnd, Nat.reduceEqDiff, ↓drop_ite, ↓drop_fst_ite, ↓drop_cond, ↓resState_ite, ↓resState_next, ite_self, cond_self, true_or, or_true, false_or, or_false, implies_true, ↓foldl_drop, ↓foldl_fst_drop] | (refine (State.onPrt_drop (by decide) ?_ ?_ ).trans ?_) | with_reducible rfl | exact Or.inl (by decide) | refine Or.inr fun _ => ?_ | (intro _; split <;> with_reducible rfl) | split)

theorem fireEntry_drop {fm : Nat} (counted : Bool) (s : State) (e : Fin 64) (hfm : fm &&& 700172967936 = 700172967936) :
    (fireEntry counted s e).drop fm = s.drop fm := by
  refine drop_sub hfm ?_
  unfold fireEntry
  repeat' (first | simp only [↓endJig_drop, ↓immediateActions_drop, ↓logEvent_drop, ↓countFiring_drop, ↓State.onPrt_drop, id_eq, Nat.reduceAnd, Nat.reduceEqDiff, ↓drop_ite, ↓drop_fst_ite, ↓drop_cond, ↓resState_ite, ↓resState_next, ite_self, cond_self, true_or, or_true, false_or, or_false, implies_true, ↓foldl_drop, ↓foldl_fst_drop] | (refine (State.onPrt_drop (by decide) ?_ ?_ ).trans ?_) | with_reducible rfl | exact Or.inl (by decide) | refine Or.inr fun _ => ?_ | (intro _; split <;> with_reducible rfl) | split)

theorem sourceUp_drop {fm : Nat} (s : State) (src : Nat) (counted : Bool) (hfm : fm &&& 700172967936 = 700172967936) :
    (sourceUp s src counted).drop fm = s.drop fm := by
  refine drop_sub hfm ?_
  unfold sourceUp
  repeat' (first | simp only [↓logEvent_drop, ↓fireEntry_drop, id_eq, Nat.reduceAnd, Nat.reduceEqDiff, ↓drop_ite, ↓drop_fst_ite, ↓drop_cond, ↓resState_ite, ↓resState_next, ite_self, cond_self, true_or, or_true, false_or, or_false, implies_true, ↓foldl_drop, ↓foldl_fst_drop] | (refine (foldl_drop (fun _ _ => ?_) _ _).trans ?_) | split)

theorem sourceDown_drop {fm : Nat} (s : State) (src : Nat) (hfm : fm &&& 16777216 = 16777216) :
    (sourceDown s src).drop fm = s.drop fm := by
  refine drop_sub hfm ?_
  unfold sourceDown
  repeat' (first | simp only [↓State.onPrt_drop, id_eq, Nat.reduceAnd, Nat.reduceEqDiff, ↓drop_ite, ↓drop_fst_ite, ↓drop_cond, ↓resState_ite, ↓resState_next, ite_self, cond_self, true_or, or_true, false_or, or_false, implies_true, ↓foldl_drop, ↓foldl_fst_drop] | (refine (State.onPrt_drop (by decide) ?_ ?_ ).trans ?_) | with_reducible rfl | exact Or.inl (by decide) | refine Or.inr fun _ => ?_ | (intro _; split <;> with_reducible rfl) | split)

theorem raiseHeld_drop {fm : Nat} (s : State) (src : Nat) (hfm : fm &&& 1799684595712 = 1799684595712) :
    (raiseHeld s src).drop fm = s.drop fm := by
  refine drop_sub hfm ?_
  unfold raiseHeld
  repeat' (first | simp only [↓sourceUp_drop, ↓State.onPrt_drop, id_eq, Nat.reduceAnd, Nat.reduceEqDiff, ↓drop_ite, ↓drop_fst_ite, ↓drop_cond, ↓resState_ite, ↓resState_next, ite_self, cond_self, true_or, or_true, false_or, or_false, implies_true, ↓foldl_drop, ↓foldl_fst_drop] | (refine (State.onPrt_drop (by decide) ?_ ?_ ).trans ?_) | with_reducible rfl | exact Or.inl (by decide) | refine Or.inr fun _ => ?_ | (intro _; split <;> with_reducible rfl) | split)

theorem endHeld_drop {fm : Nat} (s : State) (src : Nat) (hfm : fm &&& 1099528404992 = 1099528404992) :
    (endHeld s src).drop fm = s.drop fm := by
  refine drop_sub hfm ?_
  unfold endHeld
  repeat' (first | simp only [↓sourceDown_drop, ↓State.onPrt_drop, id_eq, Nat.reduceAnd, Nat.reduceEqDiff, ↓drop_ite, ↓drop_fst_ite, ↓drop_cond, ↓resState_ite, ↓resState_next, ite_self, cond_self, true_or, or_true, false_or, or_false, implies_true, ↓foldl_drop, ↓foldl_fst_drop] | (refine (State.onPrt_drop (by decide) ?_ ?_ ).trans ?_) | with_reducible rfl | exact Or.inl (by decide) | refine Or.inr fun _ => ?_ | (intro _; split <;> with_reducible rfl) | split)

theorem raiseEvent_drop {fm : Nat} (s : State) (src : Nat) (hfm : fm &&& 1799684595712 = 1799684595712) :
    (raiseEvent s src).drop fm = s.drop fm := by
  refine drop_sub hfm ?_
  unfold raiseEvent
  repeat' (first | simp only [↓sourceUp_drop, ↓State.onPrt_drop, id_eq, Nat.reduceAnd, Nat.reduceEqDiff, ↓drop_ite, ↓drop_fst_ite, ↓drop_cond, ↓resState_ite, ↓resState_next, ite_self, cond_self, true_or, or_true, false_or, or_false, implies_true, ↓foldl_drop, ↓foldl_fst_drop] | (refine (State.onPrt_drop (by decide) ?_ ?_ ).trans ?_) | with_reducible rfl | exact Or.inl (by decide) | refine Or.inr fun _ => ?_ | (intro _; split <;> with_reducible rfl) | split)

theorem keptAcross_drop {fm : Nat} (s : State) (bypassHold : Bool) (closeKept : Bool) (hfm : fm &&& 17075447791596 = 17075447791596) :
    (keptAcross s bypassHold closeKept).drop fm = s.drop fm := by
  refine drop_sub hfm (drop_of_same fun b hb => ?_)
  cases b <;> first
    | exact absurd hb (by decide)
    | rfl
    | exact ⟨rfl, rfl⟩
    | exact ⟨rfl, rfl, rfl⟩
    | exact ⟨rfl, rfl, rfl, rfl⟩
    | exact ⟨rfl, rfl, rfl, rfl, rfl⟩

theorem coldReset_drop {fm : Nat} (s : State) (cause : Nat) (fire : Bool) (hfm : fm &&& 17212886745070 = 17212886745070) :
    (coldReset s cause fire).drop fm = s.drop fm := by
  refine drop_sub hfm ?_
  unfold coldReset
  repeat' (first | simp only [↓keptAcross_drop, ↓send_drop, ↓State.onDev_drop, ↓State.onPwr_drop, id_eq, Nat.reduceAnd, Nat.reduceEqDiff, ↓drop_ite, ↓drop_fst_ite, ↓drop_cond, ↓resState_ite, ↓resState_next, ite_self, cond_self, true_or, or_true, false_or, or_false, implies_true, ↓foldl_drop, ↓foldl_fst_drop] | (refine (State.onDev_drop (by decide) ?_ ?_ ).trans ?_) | (refine (State.onPwr_drop (by decide) ?_ ?_ ?_ ?_ ).trans ?_) | with_reducible rfl | exact Or.inl (by decide) | refine Or.inr fun _ => ?_ | (intro _; split <;> with_reducible rfl) | split)

theorem powerReset_drop {fm : Nat} (s : State) (cause : Nat) (hfm : fm &&& 17213155180526 = 17213155180526) :
    (powerReset s cause).drop fm = s.drop fm := by
  refine drop_sub hfm ?_
  unfold powerReset
  repeat' (first | simp only [↓keptAcross_drop, ↓send_drop, ↓State.onDvt_drop, ↓State.onDev_drop, ↓State.onPwr_drop, id_eq, Nat.reduceAnd, Nat.reduceEqDiff, ↓drop_ite, ↓drop_fst_ite, ↓drop_cond, ↓resState_ite, ↓resState_next, ite_self, cond_self, true_or, or_true, false_or, or_false, implies_true, ↓foldl_drop, ↓foldl_fst_drop] | (refine (State.onDev_drop (by decide) ?_ ?_ ).trans ?_) | (refine (State.onPwr_drop (by decide) ?_ ?_ ?_ ?_ ).trans ?_) | with_reducible rfl | exact Or.inl (by decide) | refine Or.inr fun _ => ?_ | (intro _; split <;> with_reducible rfl) | split)

theorem beginClamp_drop {fm : Nat} (s : State) (hfm : fm &&& 8657043456 = 8657043456) :
    (beginClamp s).drop fm = s.drop fm := by
  refine drop_sub hfm ?_
  unfold beginClamp
  repeat' (first | simp only [↓chOff_drop, ↓logEvent_drop, ↓State.onLsw_drop, id_eq, Nat.reduceAnd, Nat.reduceEqDiff, ↓drop_ite, ↓drop_fst_ite, ↓drop_cond, ↓resState_ite, ↓resState_next, ite_self, cond_self, true_or, or_true, false_or, or_false, implies_true, ↓foldl_drop, ↓foldl_fst_drop] | (refine (foldl_drop (fun _ _ => ?_) _ _).trans ?_) | split)

theorem setEngines_drop {fm : Nat} (s : State) (r : EngRun) (hfm : fm &&& 8 = 8) :
    (setEngines s r).drop fm = s.drop fm := by
  refine drop_sub hfm ?_
  unfold setEngines
  repeat' (first | simp only [↓State.onEng_drop, id_eq, Nat.reduceAnd, Nat.reduceEqDiff, ↓drop_ite, ↓drop_fst_ite, ↓drop_cond, ↓resState_ite, ↓resState_next, ite_self, cond_self, true_or, or_true, false_or, or_false, implies_true, ↓foldl_drop, ↓foldl_fst_drop] | split)

theorem warmReset_drop {fm : Nat} (s : State) (cause : Nat) (hfm : fm &&& 4980798909134 = 4980798909134) :
    (warmReset s cause).drop fm = s.drop fm := by
  refine drop_sub hfm ?_
  unfold warmReset
  simp only [↓refreshBridge_drop, ↓setEngines_drop, ↓State.onDev_drop, ↓State.onPwr_drop, Nat.reduceAnd, true_or,
    or_true, implies_true]
  refine Eq.trans (b := (endAllActs (beginClamp (takeHwEvents s)) 4).drop 4980798909134) ?_ ?_
  · generalize endAllActs (beginClamp (takeHwEvents s)) 4 = x
    refine drop_of_same fun b hb => ?_
    cases b <;> first
      | exact absurd hb (by decide)
      | rfl
      | exact ⟨rfl, rfl⟩
      | exact ⟨rfl, rfl, rfl⟩
      | exact ⟨rfl, rfl, rfl, rfl⟩
      | exact ⟨rfl, rfl, rfl, rfl, rfl⟩
  · simp only [↓endAllActs_drop, ↓beginClamp_drop, ↓takeHwEvents_drop, Nat.reduceAnd]

theorem warmOrCold_drop {fm : Nat} (s : State) (cause : Nat) (hfm : fm &&& 17212886745070 = 17212886745070) :
    (warmOrCold s cause).drop fm = s.drop fm := by
  refine drop_sub hfm ?_
  unfold warmOrCold
  repeat' (first | simp only [↓coldReset_drop, ↓warmReset_drop, ↓State.onEng_drop, id_eq, Nat.reduceAnd, Nat.reduceEqDiff, ↓drop_ite, ↓drop_fst_ite, ↓drop_cond, ↓resState_ite, ↓resState_next, ite_self, cond_self, true_or, or_true, false_or, or_false, implies_true, ↓foldl_drop, ↓foldl_fst_drop] | split)

end Sys2Proof.Machine
end

