-- ==== Sys2Proof/Laws/Fields.lean ====
section
/-! SUPPORT. What the shared operations leave unchanged, block by block, for rewriting. -/

set_option Elab.async false

namespace Sys2Proof.Machine

@[simp] theorem takeHwEvents_dev (s : State) : (takeHwEvents s).dev = s.dev :=
  same_of_drop (m := 8589934592) (takeHwEvents_drop s rfl) .dev rfl
@[simp] theorem takeHwEvents_eng (s : State) : (takeHwEvents s).eng = s.eng :=
  same_of_drop (m := 8589934592) (takeHwEvents_drop s rfl) .eng rfl
@[simp] theorem takeHwEvents_img (s : State) : (takeHwEvents s).img = s.img :=
  same_of_drop (m := 8589934592) (takeHwEvents_drop s rfl) .img rfl
@[simp] theorem takeHwEvents_spl (s : State) : (takeHwEvents s).spl = s.spl :=
  same_of_drop (m := 8589934592) (takeHwEvents_drop s rfl) .spl rfl
@[simp] theorem takeHwEvents_tim (s : State) : (takeHwEvents s).tim = s.tim :=
  same_of_drop (m := 8589934592) (takeHwEvents_drop s rfl) .tim rfl
@[simp] theorem takeHwEvents_meas (s : State) : (takeHwEvents s).meas = s.meas :=
  same_of_drop (m := 8589934592) (takeHwEvents_drop s rfl) .meas rfl
@[simp] theorem takeHwEvents_arm (s : State) : (takeHwEvents s).arm = s.arm :=
  same_of_drop (m := 8589934592) (takeHwEvents_drop s rfl) .arm rfl
@[simp] theorem takeHwEvents_pwm (s : State) : (takeHwEvents s).pwm = s.pwm :=
  same_of_drop (m := 8589934592) (takeHwEvents_drop s rfl) .pwm rfl
@[simp] theorem takeHwEvents_glk (s : State) : (takeHwEvents s).glk = s.glk :=
  same_of_drop (m := 8589934592) (takeHwEvents_drop s rfl) .glk rfl
@[simp] theorem takeHwEvents_chA (s : State) : (takeHwEvents s).chA = s.chA :=
  same_of_drop (m := 8589934592) (takeHwEvents_drop s rfl) .chA rfl
@[simp] theorem takeHwEvents_chB (s : State) : (takeHwEvents s).chB = s.chB :=
  same_of_drop (m := 8589934592) (takeHwEvents_drop s rfl) .chB rfl
@[simp] theorem takeHwEvents_snA (s : State) : (takeHwEvents s).snA = s.snA :=
  same_of_drop (m := 8589934592) (takeHwEvents_drop s rfl) .snA rfl
@[simp] theorem takeHwEvents_snB (s : State) : (takeHwEvents s).snB = s.snB :=
  same_of_drop (m := 8589934592) (takeHwEvents_drop s rfl) .snB rfl
@[simp] theorem takeHwEvents_esA (s : State) : (takeHwEvents s).esA = s.esA :=
  same_of_drop (m := 8589934592) (takeHwEvents_drop s rfl) .esA rfl
@[simp] theorem takeHwEvents_esB (s : State) : (takeHwEvents s).esB = s.esB :=
  same_of_drop (m := 8589934592) (takeHwEvents_drop s rfl) .esB rfl
@[simp] theorem takeHwEvents_est (s : State) : (takeHwEvents s).est = s.est :=
  same_of_drop (m := 8589934592) (takeHwEvents_drop s rfl) .est rfl
@[simp] theorem takeHwEvents_thm (s : State) : (takeHwEvents s).thm = s.thm :=
  same_of_drop (m := 8589934592) (takeHwEvents_drop s rfl) .thm rfl
@[simp] theorem takeHwEvents_prt (s : State) : (takeHwEvents s).prt = s.prt :=
  same_of_drop (m := 8589934592) (takeHwEvents_drop s rfl) .prt rfl
@[simp] theorem takeHwEvents_dvt (s : State) : (takeHwEvents s).dvt = s.dvt :=
  same_of_drop (m := 8589934592) (takeHwEvents_drop s rfl) .dvt rfl
@[simp] theorem takeHwEvents_lsw (s : State) : (takeHwEvents s).lsw = s.lsw :=
  same_of_drop (m := 8589934592) (takeHwEvents_drop s rfl) .lsw rfl
@[simp] theorem takeHwEvents_lbus (s : State) : (takeHwEvents s).lbus = s.lbus :=
  same_of_drop (m := 8589934592) (takeHwEvents_drop s rfl) .lbus rfl
@[simp] theorem takeHwEvents_pwr (s : State) : (takeHwEvents s).pwr = s.pwr :=
  same_of_drop (m := 8589934592) (takeHwEvents_drop s rfl) .pwr rfl
@[simp] theorem takeHwEvents_sec (s : State) : (takeHwEvents s).sec = s.sec :=
  same_of_drop (m := 8589934592) (takeHwEvents_drop s rfl) .sec rfl
@[simp] theorem takeHwEvents_mnt (s : State) : (takeHwEvents s).mnt = s.mnt :=
  same_of_drop (m := 8589934592) (takeHwEvents_drop s rfl) .mnt rfl
@[simp] theorem takeHwEvents_req (s : State) : (takeHwEvents s).req = s.req :=
  same_of_drop (m := 8589934592) (takeHwEvents_drop s rfl) .req rfl
@[simp] theorem takeHwEvents_clock (s : State) : (takeHwEvents s).clock = s.clock :=
  same_of_drop (m := 8589934592) (takeHwEvents_drop s rfl) .clock rfl
@[simp] theorem takeHwEvents_free (s : State) : (takeHwEvents s).free = s.free :=
  same_of_drop (m := 8589934592) (takeHwEvents_drop s rfl) .free rfl
@[simp] theorem takeHwEvents_outbox (s : State) : (takeHwEvents s).outbox = s.outbox :=
  same_of_drop (m := 8589934592) (takeHwEvents_drop s rfl) .outbox rfl
@[simp] theorem takeHwEvents_pending (s : State) : (takeHwEvents s).pending = s.pending :=
  same_of_drop (m := 8589934592) (takeHwEvents_drop s rfl) .pending rfl
@[simp] theorem takeHwEvents_evt_nvm (s : State) : (takeHwEvents s).evt.nvm = s.evt.nvm := by
  have h := same_of_drop (m := 8589934592) (takeHwEvents_drop s rfl) .log rfl
  simp only [Block.same] at h; simp only [h]
@[simp] theorem takeHwEvents_evt_nvmPos (s : State) : (takeHwEvents s).evt.nvmPos = s.evt.nvmPos := by
  have h := same_of_drop (m := 8589934592) (takeHwEvents_drop s rfl) .log rfl
  simp only [Block.same] at h; simp only [h]
@[simp] theorem takeHwEvents_evt_wrapped (s : State) : (takeHwEvents s).evt.wrapped = s.evt.wrapped := by
  have h := same_of_drop (m := 8589934592) (takeHwEvents_drop s rfl) .log rfl
  simp only [Block.same] at h; simp only [h]
@[simp] theorem logEvent_dev (s : State) (code : Nat) (d1 : Nat) (d2 : Nat) (d3 : Nat) : (logEvent s code d1 d2 d3).dev = s.dev :=
  same_of_drop (m := 8589934592) (logEvent_drop s code d1 d2 d3 rfl) .dev rfl
@[simp] theorem logEvent_eng (s : State) (code : Nat) (d1 : Nat) (d2 : Nat) (d3 : Nat) : (logEvent s code d1 d2 d3).eng = s.eng :=
  same_of_drop (m := 8589934592) (logEvent_drop s code d1 d2 d3 rfl) .eng rfl
@[simp] theorem logEvent_img (s : State) (code : Nat) (d1 : Nat) (d2 : Nat) (d3 : Nat) : (logEvent s code d1 d2 d3).img = s.img :=
  same_of_drop (m := 8589934592) (logEvent_drop s code d1 d2 d3 rfl) .img rfl
@[simp] theorem logEvent_spl (s : State) (code : Nat) (d1 : Nat) (d2 : Nat) (d3 : Nat) : (logEvent s code d1 d2 d3).spl = s.spl :=
  same_of_drop (m := 8589934592) (logEvent_drop s code d1 d2 d3 rfl) .spl rfl
@[simp] theorem logEvent_tim (s : State) (code : Nat) (d1 : Nat) (d2 : Nat) (d3 : Nat) : (logEvent s code d1 d2 d3).tim = s.tim :=
  same_of_drop (m := 8589934592) (logEvent_drop s code d1 d2 d3 rfl) .tim rfl
@[simp] theorem logEvent_meas (s : State) (code : Nat) (d1 : Nat) (d2 : Nat) (d3 : Nat) : (logEvent s code d1 d2 d3).meas = s.meas :=
  same_of_drop (m := 8589934592) (logEvent_drop s code d1 d2 d3 rfl) .meas rfl
@[simp] theorem logEvent_arm (s : State) (code : Nat) (d1 : Nat) (d2 : Nat) (d3 : Nat) : (logEvent s code d1 d2 d3).arm = s.arm :=
  same_of_drop (m := 8589934592) (logEvent_drop s code d1 d2 d3 rfl) .arm rfl
@[simp] theorem logEvent_pwm (s : State) (code : Nat) (d1 : Nat) (d2 : Nat) (d3 : Nat) : (logEvent s code d1 d2 d3).pwm = s.pwm :=
  same_of_drop (m := 8589934592) (logEvent_drop s code d1 d2 d3 rfl) .pwm rfl
@[simp] theorem logEvent_glk (s : State) (code : Nat) (d1 : Nat) (d2 : Nat) (d3 : Nat) : (logEvent s code d1 d2 d3).glk = s.glk :=
  same_of_drop (m := 8589934592) (logEvent_drop s code d1 d2 d3 rfl) .glk rfl
@[simp] theorem logEvent_chA (s : State) (code : Nat) (d1 : Nat) (d2 : Nat) (d3 : Nat) : (logEvent s code d1 d2 d3).chA = s.chA :=
  same_of_drop (m := 8589934592) (logEvent_drop s code d1 d2 d3 rfl) .chA rfl
@[simp] theorem logEvent_chB (s : State) (code : Nat) (d1 : Nat) (d2 : Nat) (d3 : Nat) : (logEvent s code d1 d2 d3).chB = s.chB :=
  same_of_drop (m := 8589934592) (logEvent_drop s code d1 d2 d3 rfl) .chB rfl
@[simp] theorem logEvent_snA (s : State) (code : Nat) (d1 : Nat) (d2 : Nat) (d3 : Nat) : (logEvent s code d1 d2 d3).snA = s.snA :=
  same_of_drop (m := 8589934592) (logEvent_drop s code d1 d2 d3 rfl) .snA rfl
@[simp] theorem logEvent_snB (s : State) (code : Nat) (d1 : Nat) (d2 : Nat) (d3 : Nat) : (logEvent s code d1 d2 d3).snB = s.snB :=
  same_of_drop (m := 8589934592) (logEvent_drop s code d1 d2 d3 rfl) .snB rfl
@[simp] theorem logEvent_esA (s : State) (code : Nat) (d1 : Nat) (d2 : Nat) (d3 : Nat) : (logEvent s code d1 d2 d3).esA = s.esA :=
  same_of_drop (m := 8589934592) (logEvent_drop s code d1 d2 d3 rfl) .esA rfl
@[simp] theorem logEvent_esB (s : State) (code : Nat) (d1 : Nat) (d2 : Nat) (d3 : Nat) : (logEvent s code d1 d2 d3).esB = s.esB :=
  same_of_drop (m := 8589934592) (logEvent_drop s code d1 d2 d3 rfl) .esB rfl
@[simp] theorem logEvent_est (s : State) (code : Nat) (d1 : Nat) (d2 : Nat) (d3 : Nat) : (logEvent s code d1 d2 d3).est = s.est :=
  same_of_drop (m := 8589934592) (logEvent_drop s code d1 d2 d3 rfl) .est rfl
@[simp] theorem logEvent_thm (s : State) (code : Nat) (d1 : Nat) (d2 : Nat) (d3 : Nat) : (logEvent s code d1 d2 d3).thm = s.thm :=
  same_of_drop (m := 8589934592) (logEvent_drop s code d1 d2 d3 rfl) .thm rfl
@[simp] theorem logEvent_prt (s : State) (code : Nat) (d1 : Nat) (d2 : Nat) (d3 : Nat) : (logEvent s code d1 d2 d3).prt = s.prt :=
  same_of_drop (m := 8589934592) (logEvent_drop s code d1 d2 d3 rfl) .prt rfl
@[simp] theorem logEvent_dvt (s : State) (code : Nat) (d1 : Nat) (d2 : Nat) (d3 : Nat) : (logEvent s code d1 d2 d3).dvt = s.dvt :=
  same_of_drop (m := 8589934592) (logEvent_drop s code d1 d2 d3 rfl) .dvt rfl
@[simp] theorem logEvent_lsw (s : State) (code : Nat) (d1 : Nat) (d2 : Nat) (d3 : Nat) : (logEvent s code d1 d2 d3).lsw = s.lsw :=
  same_of_drop (m := 8589934592) (logEvent_drop s code d1 d2 d3 rfl) .lsw rfl
@[simp] theorem logEvent_lbus (s : State) (code : Nat) (d1 : Nat) (d2 : Nat) (d3 : Nat) : (logEvent s code d1 d2 d3).lbus = s.lbus :=
  same_of_drop (m := 8589934592) (logEvent_drop s code d1 d2 d3 rfl) .lbus rfl
@[simp] theorem logEvent_pwr (s : State) (code : Nat) (d1 : Nat) (d2 : Nat) (d3 : Nat) : (logEvent s code d1 d2 d3).pwr = s.pwr :=
  same_of_drop (m := 8589934592) (logEvent_drop s code d1 d2 d3 rfl) .pwr rfl
@[simp] theorem logEvent_sec (s : State) (code : Nat) (d1 : Nat) (d2 : Nat) (d3 : Nat) : (logEvent s code d1 d2 d3).sec = s.sec :=
  same_of_drop (m := 8589934592) (logEvent_drop s code d1 d2 d3 rfl) .sec rfl
@[simp] theorem logEvent_mnt (s : State) (code : Nat) (d1 : Nat) (d2 : Nat) (d3 : Nat) : (logEvent s code d1 d2 d3).mnt = s.mnt :=
  same_of_drop (m := 8589934592) (logEvent_drop s code d1 d2 d3 rfl) .mnt rfl
@[simp] theorem logEvent_req (s : State) (code : Nat) (d1 : Nat) (d2 : Nat) (d3 : Nat) : (logEvent s code d1 d2 d3).req = s.req :=
  same_of_drop (m := 8589934592) (logEvent_drop s code d1 d2 d3 rfl) .req rfl
@[simp] theorem logEvent_clock (s : State) (code : Nat) (d1 : Nat) (d2 : Nat) (d3 : Nat) : (logEvent s code d1 d2 d3).clock = s.clock :=
  same_of_drop (m := 8589934592) (logEvent_drop s code d1 d2 d3 rfl) .clock rfl
@[simp] theorem logEvent_free (s : State) (code : Nat) (d1 : Nat) (d2 : Nat) (d3 : Nat) : (logEvent s code d1 d2 d3).free = s.free :=
  same_of_drop (m := 8589934592) (logEvent_drop s code d1 d2 d3 rfl) .free rfl
@[simp] theorem logEvent_outbox (s : State) (code : Nat) (d1 : Nat) (d2 : Nat) (d3 : Nat) : (logEvent s code d1 d2 d3).outbox = s.outbox :=
  same_of_drop (m := 8589934592) (logEvent_drop s code d1 d2 d3 rfl) .outbox rfl
@[simp] theorem logEvent_pending (s : State) (code : Nat) (d1 : Nat) (d2 : Nat) (d3 : Nat) : (logEvent s code d1 d2 d3).pending = s.pending :=
  same_of_drop (m := 8589934592) (logEvent_drop s code d1 d2 d3 rfl) .pending rfl
@[simp] theorem logEvent_evt_nvm (s : State) (code : Nat) (d1 : Nat) (d2 : Nat) (d3 : Nat) : (logEvent s code d1 d2 d3).evt.nvm = s.evt.nvm := by
  have h := same_of_drop (m := 8589934592) (logEvent_drop s code d1 d2 d3 rfl) .log rfl
  simp only [Block.same] at h; simp only [h]
@[simp] theorem logEvent_evt_nvmPos (s : State) (code : Nat) (d1 : Nat) (d2 : Nat) (d3 : Nat) : (logEvent s code d1 d2 d3).evt.nvmPos = s.evt.nvmPos := by
  have h := same_of_drop (m := 8589934592) (logEvent_drop s code d1 d2 d3 rfl) .log rfl
  simp only [Block.same] at h; simp only [h]
@[simp] theorem logEvent_evt_wrapped (s : State) (code : Nat) (d1 : Nat) (d2 : Nat) (d3 : Nat) : (logEvent s code d1 d2 d3).evt.wrapped = s.evt.wrapped := by
  have h := same_of_drop (m := 8589934592) (logEvent_drop s code d1 d2 d3 rfl) .log rfl
  simp only [Block.same] at h; simp only [h]
@[simp] theorem logWide_dev (s : State) (code : Nat) (v : Nat) : (logWide s code v).dev = s.dev :=
  same_of_drop (m := 8589934592) (logWide_drop s code v rfl) .dev rfl
@[simp] theorem logWide_eng (s : State) (code : Nat) (v : Nat) : (logWide s code v).eng = s.eng :=
  same_of_drop (m := 8589934592) (logWide_drop s code v rfl) .eng rfl
@[simp] theorem logWide_img (s : State) (code : Nat) (v : Nat) : (logWide s code v).img = s.img :=
  same_of_drop (m := 8589934592) (logWide_drop s code v rfl) .img rfl
@[simp] theorem logWide_spl (s : State) (code : Nat) (v : Nat) : (logWide s code v).spl = s.spl :=
  same_of_drop (m := 8589934592) (logWide_drop s code v rfl) .spl rfl
@[simp] theorem logWide_tim (s : State) (code : Nat) (v : Nat) : (logWide s code v).tim = s.tim :=
  same_of_drop (m := 8589934592) (logWide_drop s code v rfl) .tim rfl
@[simp] theorem logWide_meas (s : State) (code : Nat) (v : Nat) : (logWide s code v).meas = s.meas :=
  same_of_drop (m := 8589934592) (logWide_drop s code v rfl) .meas rfl
@[simp] theorem logWide_arm (s : State) (code : Nat) (v : Nat) : (logWide s code v).arm = s.arm :=
  same_of_drop (m := 8589934592) (logWide_drop s code v rfl) .arm rfl
@[simp] theorem logWide_pwm (s : State) (code : Nat) (v : Nat) : (logWide s code v).pwm = s.pwm :=
  same_of_drop (m := 8589934592) (logWide_drop s code v rfl) .pwm rfl
@[simp] theorem logWide_glk (s : State) (code : Nat) (v : Nat) : (logWide s code v).glk = s.glk :=
  same_of_drop (m := 8589934592) (logWide_drop s code v rfl) .glk rfl
@[simp] theorem logWide_chA (s : State) (code : Nat) (v : Nat) : (logWide s code v).chA = s.chA :=
  same_of_drop (m := 8589934592) (logWide_drop s code v rfl) .chA rfl
@[simp] theorem logWide_chB (s : State) (code : Nat) (v : Nat) : (logWide s code v).chB = s.chB :=
  same_of_drop (m := 8589934592) (logWide_drop s code v rfl) .chB rfl
@[simp] theorem logWide_snA (s : State) (code : Nat) (v : Nat) : (logWide s code v).snA = s.snA :=
  same_of_drop (m := 8589934592) (logWide_drop s code v rfl) .snA rfl
@[simp] theorem logWide_snB (s : State) (code : Nat) (v : Nat) : (logWide s code v).snB = s.snB :=
  same_of_drop (m := 8589934592) (logWide_drop s code v rfl) .snB rfl
@[simp] theorem logWide_esA (s : State) (code : Nat) (v : Nat) : (logWide s code v).esA = s.esA :=
  same_of_drop (m := 8589934592) (logWide_drop s code v rfl) .esA rfl
@[simp] theorem logWide_esB (s : State) (code : Nat) (v : Nat) : (logWide s code v).esB = s.esB :=
  same_of_drop (m := 8589934592) (logWide_drop s code v rfl) .esB rfl
@[simp] theorem logWide_est (s : State) (code : Nat) (v : Nat) : (logWide s code v).est = s.est :=
  same_of_drop (m := 8589934592) (logWide_drop s code v rfl) .est rfl
@[simp] theorem logWide_thm (s : State) (code : Nat) (v : Nat) : (logWide s code v).thm = s.thm :=
  same_of_drop (m := 8589934592) (logWide_drop s code v rfl) .thm rfl
@[simp] theorem logWide_prt (s : State) (code : Nat) (v : Nat) : (logWide s code v).prt = s.prt :=
  same_of_drop (m := 8589934592) (logWide_drop s code v rfl) .prt rfl
@[simp] theorem logWide_dvt (s : State) (code : Nat) (v : Nat) : (logWide s code v).dvt = s.dvt :=
  same_of_drop (m := 8589934592) (logWide_drop s code v rfl) .dvt rfl
@[simp] theorem logWide_lsw (s : State) (code : Nat) (v : Nat) : (logWide s code v).lsw = s.lsw :=
  same_of_drop (m := 8589934592) (logWide_drop s code v rfl) .lsw rfl
@[simp] theorem logWide_lbus (s : State) (code : Nat) (v : Nat) : (logWide s code v).lbus = s.lbus :=
  same_of_drop (m := 8589934592) (logWide_drop s code v rfl) .lbus rfl
@[simp] theorem logWide_pwr (s : State) (code : Nat) (v : Nat) : (logWide s code v).pwr = s.pwr :=
  same_of_drop (m := 8589934592) (logWide_drop s code v rfl) .pwr rfl
@[simp] theorem logWide_sec (s : State) (code : Nat) (v : Nat) : (logWide s code v).sec = s.sec :=
  same_of_drop (m := 8589934592) (logWide_drop s code v rfl) .sec rfl
@[simp] theorem logWide_mnt (s : State) (code : Nat) (v : Nat) : (logWide s code v).mnt = s.mnt :=
  same_of_drop (m := 8589934592) (logWide_drop s code v rfl) .mnt rfl
@[simp] theorem logWide_req (s : State) (code : Nat) (v : Nat) : (logWide s code v).req = s.req :=
  same_of_drop (m := 8589934592) (logWide_drop s code v rfl) .req rfl
@[simp] theorem logWide_clock (s : State) (code : Nat) (v : Nat) : (logWide s code v).clock = s.clock :=
  same_of_drop (m := 8589934592) (logWide_drop s code v rfl) .clock rfl
@[simp] theorem logWide_free (s : State) (code : Nat) (v : Nat) : (logWide s code v).free = s.free :=
  same_of_drop (m := 8589934592) (logWide_drop s code v rfl) .free rfl
@[simp] theorem logWide_outbox (s : State) (code : Nat) (v : Nat) : (logWide s code v).outbox = s.outbox :=
  same_of_drop (m := 8589934592) (logWide_drop s code v rfl) .outbox rfl
@[simp] theorem logWide_pending (s : State) (code : Nat) (v : Nat) : (logWide s code v).pending = s.pending :=
  same_of_drop (m := 8589934592) (logWide_drop s code v rfl) .pending rfl
@[simp] theorem logWide_evt_nvm (s : State) (code : Nat) (v : Nat) : (logWide s code v).evt.nvm = s.evt.nvm := by
  have h := same_of_drop (m := 8589934592) (logWide_drop s code v rfl) .log rfl
  simp only [Block.same] at h; simp only [h]
@[simp] theorem logWide_evt_nvmPos (s : State) (code : Nat) (v : Nat) : (logWide s code v).evt.nvmPos = s.evt.nvmPos := by
  have h := same_of_drop (m := 8589934592) (logWide_drop s code v rfl) .log rfl
  simp only [Block.same] at h; simp only [h]
@[simp] theorem logWide_evt_wrapped (s : State) (code : Nat) (v : Nat) : (logWide s code v).evt.wrapped = s.evt.wrapped := by
  have h := same_of_drop (m := 8589934592) (logWide_drop s code v rfl) .log rfl
  simp only [Block.same] at h; simp only [h]
@[simp] theorem logWideS_dev (s : State) (code : Nat) (v : Int) : (logWideS s code v).dev = s.dev :=
  same_of_drop (m := 8589934592) (logWideS_drop s code v rfl) .dev rfl
@[simp] theorem logWideS_eng (s : State) (code : Nat) (v : Int) : (logWideS s code v).eng = s.eng :=
  same_of_drop (m := 8589934592) (logWideS_drop s code v rfl) .eng rfl
@[simp] theorem logWideS_img (s : State) (code : Nat) (v : Int) : (logWideS s code v).img = s.img :=
  same_of_drop (m := 8589934592) (logWideS_drop s code v rfl) .img rfl
@[simp] theorem logWideS_spl (s : State) (code : Nat) (v : Int) : (logWideS s code v).spl = s.spl :=
  same_of_drop (m := 8589934592) (logWideS_drop s code v rfl) .spl rfl
@[simp] theorem logWideS_tim (s : State) (code : Nat) (v : Int) : (logWideS s code v).tim = s.tim :=
  same_of_drop (m := 8589934592) (logWideS_drop s code v rfl) .tim rfl
@[simp] theorem logWideS_meas (s : State) (code : Nat) (v : Int) : (logWideS s code v).meas = s.meas :=
  same_of_drop (m := 8589934592) (logWideS_drop s code v rfl) .meas rfl
@[simp] theorem logWideS_arm (s : State) (code : Nat) (v : Int) : (logWideS s code v).arm = s.arm :=
  same_of_drop (m := 8589934592) (logWideS_drop s code v rfl) .arm rfl
@[simp] theorem logWideS_pwm (s : State) (code : Nat) (v : Int) : (logWideS s code v).pwm = s.pwm :=
  same_of_drop (m := 8589934592) (logWideS_drop s code v rfl) .pwm rfl
@[simp] theorem logWideS_glk (s : State) (code : Nat) (v : Int) : (logWideS s code v).glk = s.glk :=
  same_of_drop (m := 8589934592) (logWideS_drop s code v rfl) .glk rfl
@[simp] theorem logWideS_chA (s : State) (code : Nat) (v : Int) : (logWideS s code v).chA = s.chA :=
  same_of_drop (m := 8589934592) (logWideS_drop s code v rfl) .chA rfl
@[simp] theorem logWideS_chB (s : State) (code : Nat) (v : Int) : (logWideS s code v).chB = s.chB :=
  same_of_drop (m := 8589934592) (logWideS_drop s code v rfl) .chB rfl
@[simp] theorem logWideS_snA (s : State) (code : Nat) (v : Int) : (logWideS s code v).snA = s.snA :=
  same_of_drop (m := 8589934592) (logWideS_drop s code v rfl) .snA rfl
@[simp] theorem logWideS_snB (s : State) (code : Nat) (v : Int) : (logWideS s code v).snB = s.snB :=
  same_of_drop (m := 8589934592) (logWideS_drop s code v rfl) .snB rfl
@[simp] theorem logWideS_esA (s : State) (code : Nat) (v : Int) : (logWideS s code v).esA = s.esA :=
  same_of_drop (m := 8589934592) (logWideS_drop s code v rfl) .esA rfl
@[simp] theorem logWideS_esB (s : State) (code : Nat) (v : Int) : (logWideS s code v).esB = s.esB :=
  same_of_drop (m := 8589934592) (logWideS_drop s code v rfl) .esB rfl
@[simp] theorem logWideS_est (s : State) (code : Nat) (v : Int) : (logWideS s code v).est = s.est :=
  same_of_drop (m := 8589934592) (logWideS_drop s code v rfl) .est rfl
@[simp] theorem logWideS_thm (s : State) (code : Nat) (v : Int) : (logWideS s code v).thm = s.thm :=
  same_of_drop (m := 8589934592) (logWideS_drop s code v rfl) .thm rfl
@[simp] theorem logWideS_prt (s : State) (code : Nat) (v : Int) : (logWideS s code v).prt = s.prt :=
  same_of_drop (m := 8589934592) (logWideS_drop s code v rfl) .prt rfl
@[simp] theorem logWideS_dvt (s : State) (code : Nat) (v : Int) : (logWideS s code v).dvt = s.dvt :=
  same_of_drop (m := 8589934592) (logWideS_drop s code v rfl) .dvt rfl
@[simp] theorem logWideS_lsw (s : State) (code : Nat) (v : Int) : (logWideS s code v).lsw = s.lsw :=
  same_of_drop (m := 8589934592) (logWideS_drop s code v rfl) .lsw rfl
@[simp] theorem logWideS_lbus (s : State) (code : Nat) (v : Int) : (logWideS s code v).lbus = s.lbus :=
  same_of_drop (m := 8589934592) (logWideS_drop s code v rfl) .lbus rfl
@[simp] theorem logWideS_pwr (s : State) (code : Nat) (v : Int) : (logWideS s code v).pwr = s.pwr :=
  same_of_drop (m := 8589934592) (logWideS_drop s code v rfl) .pwr rfl
@[simp] theorem logWideS_sec (s : State) (code : Nat) (v : Int) : (logWideS s code v).sec = s.sec :=
  same_of_drop (m := 8589934592) (logWideS_drop s code v rfl) .sec rfl
@[simp] theorem logWideS_mnt (s : State) (code : Nat) (v : Int) : (logWideS s code v).mnt = s.mnt :=
  same_of_drop (m := 8589934592) (logWideS_drop s code v rfl) .mnt rfl
@[simp] theorem logWideS_req (s : State) (code : Nat) (v : Int) : (logWideS s code v).req = s.req :=
  same_of_drop (m := 8589934592) (logWideS_drop s code v rfl) .req rfl
@[simp] theorem logWideS_clock (s : State) (code : Nat) (v : Int) : (logWideS s code v).clock = s.clock :=
  same_of_drop (m := 8589934592) (logWideS_drop s code v rfl) .clock rfl
@[simp] theorem logWideS_free (s : State) (code : Nat) (v : Int) : (logWideS s code v).free = s.free :=
  same_of_drop (m := 8589934592) (logWideS_drop s code v rfl) .free rfl
@[simp] theorem logWideS_outbox (s : State) (code : Nat) (v : Int) : (logWideS s code v).outbox = s.outbox :=
  same_of_drop (m := 8589934592) (logWideS_drop s code v rfl) .outbox rfl
@[simp] theorem logWideS_pending (s : State) (code : Nat) (v : Int) : (logWideS s code v).pending = s.pending :=
  same_of_drop (m := 8589934592) (logWideS_drop s code v rfl) .pending rfl
@[simp] theorem logWideS_evt_nvm (s : State) (code : Nat) (v : Int) : (logWideS s code v).evt.nvm = s.evt.nvm := by
  have h := same_of_drop (m := 8589934592) (logWideS_drop s code v rfl) .log rfl
  simp only [Block.same] at h; simp only [h]
@[simp] theorem logWideS_evt_nvmPos (s : State) (code : Nat) (v : Int) : (logWideS s code v).evt.nvmPos = s.evt.nvmPos := by
  have h := same_of_drop (m := 8589934592) (logWideS_drop s code v rfl) .log rfl
  simp only [Block.same] at h; simp only [h]
@[simp] theorem logWideS_evt_wrapped (s : State) (code : Nat) (v : Int) : (logWideS s code v).evt.wrapped = s.evt.wrapped := by
  have h := same_of_drop (m := 8589934592) (logWideS_drop s code v rfl) .log rfl
  simp only [Block.same] at h; simp only [h]
@[simp] theorem send_dev (s : State) (o : Out) : (send s o).dev = s.dev :=
  same_of_drop (m := 137438953472) (send_drop s o rfl) .dev rfl
@[simp] theorem send_eng (s : State) (o : Out) : (send s o).eng = s.eng :=
  same_of_drop (m := 137438953472) (send_drop s o rfl) .eng rfl
@[simp] theorem send_img (s : State) (o : Out) : (send s o).img = s.img :=
  same_of_drop (m := 137438953472) (send_drop s o rfl) .img rfl
@[simp] theorem send_spl (s : State) (o : Out) : (send s o).spl = s.spl :=
  same_of_drop (m := 137438953472) (send_drop s o rfl) .spl rfl
@[simp] theorem send_tim (s : State) (o : Out) : (send s o).tim = s.tim :=
  same_of_drop (m := 137438953472) (send_drop s o rfl) .tim rfl
@[simp] theorem send_meas (s : State) (o : Out) : (send s o).meas = s.meas :=
  same_of_drop (m := 137438953472) (send_drop s o rfl) .meas rfl
@[simp] theorem send_arm (s : State) (o : Out) : (send s o).arm = s.arm :=
  same_of_drop (m := 137438953472) (send_drop s o rfl) .arm rfl
@[simp] theorem send_pwm (s : State) (o : Out) : (send s o).pwm = s.pwm :=
  same_of_drop (m := 137438953472) (send_drop s o rfl) .pwm rfl
@[simp] theorem send_glk (s : State) (o : Out) : (send s o).glk = s.glk :=
  same_of_drop (m := 137438953472) (send_drop s o rfl) .glk rfl
@[simp] theorem send_chA (s : State) (o : Out) : (send s o).chA = s.chA :=
  same_of_drop (m := 137438953472) (send_drop s o rfl) .chA rfl
@[simp] theorem send_chB (s : State) (o : Out) : (send s o).chB = s.chB :=
  same_of_drop (m := 137438953472) (send_drop s o rfl) .chB rfl
@[simp] theorem send_snA (s : State) (o : Out) : (send s o).snA = s.snA :=
  same_of_drop (m := 137438953472) (send_drop s o rfl) .snA rfl
@[simp] theorem send_snB (s : State) (o : Out) : (send s o).snB = s.snB :=
  same_of_drop (m := 137438953472) (send_drop s o rfl) .snB rfl
@[simp] theorem send_esA (s : State) (o : Out) : (send s o).esA = s.esA :=
  same_of_drop (m := 137438953472) (send_drop s o rfl) .esA rfl
@[simp] theorem send_esB (s : State) (o : Out) : (send s o).esB = s.esB :=
  same_of_drop (m := 137438953472) (send_drop s o rfl) .esB rfl
@[simp] theorem send_est (s : State) (o : Out) : (send s o).est = s.est :=
  same_of_drop (m := 137438953472) (send_drop s o rfl) .est rfl
@[simp] theorem send_thm (s : State) (o : Out) : (send s o).thm = s.thm :=
  same_of_drop (m := 137438953472) (send_drop s o rfl) .thm rfl
@[simp] theorem send_prt (s : State) (o : Out) : (send s o).prt = s.prt :=
  same_of_drop (m := 137438953472) (send_drop s o rfl) .prt rfl
@[simp] theorem send_dvt (s : State) (o : Out) : (send s o).dvt = s.dvt :=
  same_of_drop (m := 137438953472) (send_drop s o rfl) .dvt rfl
@[simp] theorem send_lsw (s : State) (o : Out) : (send s o).lsw = s.lsw :=
  same_of_drop (m := 137438953472) (send_drop s o rfl) .lsw rfl
@[simp] theorem send_lbus (s : State) (o : Out) : (send s o).lbus = s.lbus :=
  same_of_drop (m := 137438953472) (send_drop s o rfl) .lbus rfl
@[simp] theorem send_pwr (s : State) (o : Out) : (send s o).pwr = s.pwr :=
  same_of_drop (m := 137438953472) (send_drop s o rfl) .pwr rfl
@[simp] theorem send_sec (s : State) (o : Out) : (send s o).sec = s.sec :=
  same_of_drop (m := 137438953472) (send_drop s o rfl) .sec rfl
@[simp] theorem send_mnt (s : State) (o : Out) : (send s o).mnt = s.mnt :=
  same_of_drop (m := 137438953472) (send_drop s o rfl) .mnt rfl
@[simp] theorem send_evt (s : State) (o : Out) : (send s o).evt = s.evt :=
  same_of_drop (m := 137438953472) (send_drop s o rfl) .evt rfl
@[simp] theorem send_req (s : State) (o : Out) : (send s o).req = s.req :=
  same_of_drop (m := 137438953472) (send_drop s o rfl) .req rfl
@[simp] theorem send_clock (s : State) (o : Out) : (send s o).clock = s.clock :=
  same_of_drop (m := 137438953472) (send_drop s o rfl) .clock rfl
@[simp] theorem send_free (s : State) (o : Out) : (send s o).free = s.free :=
  same_of_drop (m := 137438953472) (send_drop s o rfl) .free rfl
@[simp] theorem send_pending (s : State) (o : Out) : (send s o).pending = s.pending :=
  same_of_drop (m := 137438953472) (send_drop s o rfl) .pending rfl
@[simp] theorem answer_dev (s : State) (p : Requester) (code : Nat) : (answer s p code).dev = s.dev :=
  same_of_drop (m := 137438953472) (answer_drop s p code rfl) .dev rfl
@[simp] theorem answer_eng (s : State) (p : Requester) (code : Nat) : (answer s p code).eng = s.eng :=
  same_of_drop (m := 137438953472) (answer_drop s p code rfl) .eng rfl
@[simp] theorem answer_img (s : State) (p : Requester) (code : Nat) : (answer s p code).img = s.img :=
  same_of_drop (m := 137438953472) (answer_drop s p code rfl) .img rfl
@[simp] theorem answer_spl (s : State) (p : Requester) (code : Nat) : (answer s p code).spl = s.spl :=
  same_of_drop (m := 137438953472) (answer_drop s p code rfl) .spl rfl
@[simp] theorem answer_tim (s : State) (p : Requester) (code : Nat) : (answer s p code).tim = s.tim :=
  same_of_drop (m := 137438953472) (answer_drop s p code rfl) .tim rfl
@[simp] theorem answer_meas (s : State) (p : Requester) (code : Nat) : (answer s p code).meas = s.meas :=
  same_of_drop (m := 137438953472) (answer_drop s p code rfl) .meas rfl
@[simp] theorem answer_arm (s : State) (p : Requester) (code : Nat) : (answer s p code).arm = s.arm :=
  same_of_drop (m := 137438953472) (answer_drop s p code rfl) .arm rfl
@[simp] theorem answer_pwm (s : State) (p : Requester) (code : Nat) : (answer s p code).pwm = s.pwm :=
  same_of_drop (m := 137438953472) (answer_drop s p code rfl) .pwm rfl
@[simp] theorem answer_glk (s : State) (p : Requester) (code : Nat) : (answer s p code).glk = s.glk :=
  same_of_drop (m := 137438953472) (answer_drop s p code rfl) .glk rfl
@[simp] theorem answer_chA (s : State) (p : Requester) (code : Nat) : (answer s p code).chA = s.chA :=
  same_of_drop (m := 137438953472) (answer_drop s p code rfl) .chA rfl
@[simp] theorem answer_chB (s : State) (p : Requester) (code : Nat) : (answer s p code).chB = s.chB :=
  same_of_drop (m := 137438953472) (answer_drop s p code rfl) .chB rfl
@[simp] theorem answer_snA (s : State) (p : Requester) (code : Nat) : (answer s p code).snA = s.snA :=
  same_of_drop (m := 137438953472) (answer_drop s p code rfl) .snA rfl
@[simp] theorem answer_snB (s : State) (p : Requester) (code : Nat) : (answer s p code).snB = s.snB :=
  same_of_drop (m := 137438953472) (answer_drop s p code rfl) .snB rfl
@[simp] theorem answer_esA (s : State) (p : Requester) (code : Nat) : (answer s p code).esA = s.esA :=
  same_of_drop (m := 137438953472) (answer_drop s p code rfl) .esA rfl
@[simp] theorem answer_esB (s : State) (p : Requester) (code : Nat) : (answer s p code).esB = s.esB :=
  same_of_drop (m := 137438953472) (answer_drop s p code rfl) .esB rfl
@[simp] theorem answer_est (s : State) (p : Requester) (code : Nat) : (answer s p code).est = s.est :=
  same_of_drop (m := 137438953472) (answer_drop s p code rfl) .est rfl
@[simp] theorem answer_thm (s : State) (p : Requester) (code : Nat) : (answer s p code).thm = s.thm :=
  same_of_drop (m := 137438953472) (answer_drop s p code rfl) .thm rfl
@[simp] theorem answer_prt (s : State) (p : Requester) (code : Nat) : (answer s p code).prt = s.prt :=
  same_of_drop (m := 137438953472) (answer_drop s p code rfl) .prt rfl
@[simp] theorem answer_dvt (s : State) (p : Requester) (code : Nat) : (answer s p code).dvt = s.dvt :=
  same_of_drop (m := 137438953472) (answer_drop s p code rfl) .dvt rfl
@[simp] theorem answer_lsw (s : State) (p : Requester) (code : Nat) : (answer s p code).lsw = s.lsw :=
  same_of_drop (m := 137438953472) (answer_drop s p code rfl) .lsw rfl
@[simp] theorem answer_lbus (s : State) (p : Requester) (code : Nat) : (answer s p code).lbus = s.lbus :=
  same_of_drop (m := 137438953472) (answer_drop s p code rfl) .lbus rfl
@[simp] theorem answer_pwr (s : State) (p : Requester) (code : Nat) : (answer s p code).pwr = s.pwr :=
  same_of_drop (m := 137438953472) (answer_drop s p code rfl) .pwr rfl
@[simp] theorem answer_sec (s : State) (p : Requester) (code : Nat) : (answer s p code).sec = s.sec :=
  same_of_drop (m := 137438953472) (answer_drop s p code rfl) .sec rfl
@[simp] theorem answer_mnt (s : State) (p : Requester) (code : Nat) : (answer s p code).mnt = s.mnt :=
  same_of_drop (m := 137438953472) (answer_drop s p code rfl) .mnt rfl
@[simp] theorem answer_evt (s : State) (p : Requester) (code : Nat) : (answer s p code).evt = s.evt :=
  same_of_drop (m := 137438953472) (answer_drop s p code rfl) .evt rfl
@[simp] theorem answer_req (s : State) (p : Requester) (code : Nat) : (answer s p code).req = s.req :=
  same_of_drop (m := 137438953472) (answer_drop s p code rfl) .req rfl
@[simp] theorem answer_clock (s : State) (p : Requester) (code : Nat) : (answer s p code).clock = s.clock :=
  same_of_drop (m := 137438953472) (answer_drop s p code rfl) .clock rfl
@[simp] theorem answer_free (s : State) (p : Requester) (code : Nat) : (answer s p code).free = s.free :=
  same_of_drop (m := 137438953472) (answer_drop s p code rfl) .free rfl
@[simp] theorem answer_pending (s : State) (p : Requester) (code : Nat) : (answer s p code).pending = s.pending :=
  same_of_drop (m := 137438953472) (answer_drop s p code rfl) .pending rfl
@[simp] theorem nextFree_dev (s : State) : (nextFree s).dev = s.dev :=
  same_of_drop (m := 68719476736) (nextFree_drop s rfl) .dev rfl
@[simp] theorem nextFree_eng (s : State) : (nextFree s).eng = s.eng :=
  same_of_drop (m := 68719476736) (nextFree_drop s rfl) .eng rfl
@[simp] theorem nextFree_img (s : State) : (nextFree s).img = s.img :=
  same_of_drop (m := 68719476736) (nextFree_drop s rfl) .img rfl
@[simp] theorem nextFree_spl (s : State) : (nextFree s).spl = s.spl :=
  same_of_drop (m := 68719476736) (nextFree_drop s rfl) .spl rfl
@[simp] theorem nextFree_tim (s : State) : (nextFree s).tim = s.tim :=
  same_of_drop (m := 68719476736) (nextFree_drop s rfl) .tim rfl
@[simp] theorem nextFree_meas (s : State) : (nextFree s).meas = s.meas :=
  same_of_drop (m := 68719476736) (nextFree_drop s rfl) .meas rfl
@[simp] theorem nextFree_arm (s : State) : (nextFree s).arm = s.arm :=
  same_of_drop (m := 68719476736) (nextFree_drop s rfl) .arm rfl
@[simp] theorem nextFree_pwm (s : State) : (nextFree s).pwm = s.pwm :=
  same_of_drop (m := 68719476736) (nextFree_drop s rfl) .pwm rfl
@[simp] theorem nextFree_glk (s : State) : (nextFree s).glk = s.glk :=
  same_of_drop (m := 68719476736) (nextFree_drop s rfl) .glk rfl
@[simp] theorem nextFree_chA (s : State) : (nextFree s).chA = s.chA :=
  same_of_drop (m := 68719476736) (nextFree_drop s rfl) .chA rfl
@[simp] theorem nextFree_chB (s : State) : (nextFree s).chB = s.chB :=
  same_of_drop (m := 68719476736) (nextFree_drop s rfl) .chB rfl
@[simp] theorem nextFree_snA (s : State) : (nextFree s).snA = s.snA :=
  same_of_drop (m := 68719476736) (nextFree_drop s rfl) .snA rfl
@[simp] theorem nextFree_snB (s : State) : (nextFree s).snB = s.snB :=
  same_of_drop (m := 68719476736) (nextFree_drop s rfl) .snB rfl
@[simp] theorem nextFree_esA (s : State) : (nextFree s).esA = s.esA :=
  same_of_drop (m := 68719476736) (nextFree_drop s rfl) .esA rfl
@[simp] theorem nextFree_esB (s : State) : (nextFree s).esB = s.esB :=
  same_of_drop (m := 68719476736) (nextFree_drop s rfl) .esB rfl
@[simp] theorem nextFree_est (s : State) : (nextFree s).est = s.est :=
  same_of_drop (m := 68719476736) (nextFree_drop s rfl) .est rfl
@[simp] theorem nextFree_thm (s : State) : (nextFree s).thm = s.thm :=
  same_of_drop (m := 68719476736) (nextFree_drop s rfl) .thm rfl
@[simp] theorem nextFree_prt (s : State) : (nextFree s).prt = s.prt :=
  same_of_drop (m := 68719476736) (nextFree_drop s rfl) .prt rfl
@[simp] theorem nextFree_dvt (s : State) : (nextFree s).dvt = s.dvt :=
  same_of_drop (m := 68719476736) (nextFree_drop s rfl) .dvt rfl
@[simp] theorem nextFree_lsw (s : State) : (nextFree s).lsw = s.lsw :=
  same_of_drop (m := 68719476736) (nextFree_drop s rfl) .lsw rfl
@[simp] theorem nextFree_lbus (s : State) : (nextFree s).lbus = s.lbus :=
  same_of_drop (m := 68719476736) (nextFree_drop s rfl) .lbus rfl
@[simp] theorem nextFree_pwr (s : State) : (nextFree s).pwr = s.pwr :=
  same_of_drop (m := 68719476736) (nextFree_drop s rfl) .pwr rfl
@[simp] theorem nextFree_sec (s : State) : (nextFree s).sec = s.sec :=
  same_of_drop (m := 68719476736) (nextFree_drop s rfl) .sec rfl
@[simp] theorem nextFree_mnt (s : State) : (nextFree s).mnt = s.mnt :=
  same_of_drop (m := 68719476736) (nextFree_drop s rfl) .mnt rfl
@[simp] theorem nextFree_evt (s : State) : (nextFree s).evt = s.evt :=
  same_of_drop (m := 68719476736) (nextFree_drop s rfl) .evt rfl
@[simp] theorem nextFree_req (s : State) : (nextFree s).req = s.req :=
  same_of_drop (m := 68719476736) (nextFree_drop s rfl) .req rfl
@[simp] theorem nextFree_clock (s : State) : (nextFree s).clock = s.clock :=
  same_of_drop (m := 68719476736) (nextFree_drop s rfl) .clock rfl
@[simp] theorem nextFree_outbox (s : State) : (nextFree s).outbox = s.outbox :=
  same_of_drop (m := 68719476736) (nextFree_drop s rfl) .outbox rfl
@[simp] theorem nextFree_pending (s : State) : (nextFree s).pending = s.pending :=
  same_of_drop (m := 68719476736) (nextFree_drop s rfl) .pending rfl
@[simp] theorem dcqFull_dev (s : State) (n : Nat) : (dcqFull s n).dev = s.dev :=
  same_of_drop (m := 8) (dcqFull_drop s n rfl) .dev rfl
@[simp] theorem dcqFull_img (s : State) (n : Nat) : (dcqFull s n).img = s.img :=
  same_of_drop (m := 8) (dcqFull_drop s n rfl) .img rfl
@[simp] theorem dcqFull_spl (s : State) (n : Nat) : (dcqFull s n).spl = s.spl :=
  same_of_drop (m := 8) (dcqFull_drop s n rfl) .spl rfl
@[simp] theorem dcqFull_tim (s : State) (n : Nat) : (dcqFull s n).tim = s.tim :=
  same_of_drop (m := 8) (dcqFull_drop s n rfl) .tim rfl
@[simp] theorem dcqFull_meas (s : State) (n : Nat) : (dcqFull s n).meas = s.meas :=
  same_of_drop (m := 8) (dcqFull_drop s n rfl) .meas rfl
@[simp] theorem dcqFull_arm (s : State) (n : Nat) : (dcqFull s n).arm = s.arm :=
  same_of_drop (m := 8) (dcqFull_drop s n rfl) .arm rfl
@[simp] theorem dcqFull_pwm (s : State) (n : Nat) : (dcqFull s n).pwm = s.pwm :=
  same_of_drop (m := 8) (dcqFull_drop s n rfl) .pwm rfl
@[simp] theorem dcqFull_glk (s : State) (n : Nat) : (dcqFull s n).glk = s.glk :=
  same_of_drop (m := 8) (dcqFull_drop s n rfl) .glk rfl
@[simp] theorem dcqFull_chA (s : State) (n : Nat) : (dcqFull s n).chA = s.chA :=
  same_of_drop (m := 8) (dcqFull_drop s n rfl) .chA rfl
@[simp] theorem dcqFull_chB (s : State) (n : Nat) : (dcqFull s n).chB = s.chB :=
  same_of_drop (m := 8) (dcqFull_drop s n rfl) .chB rfl
@[simp] theorem dcqFull_snA (s : State) (n : Nat) : (dcqFull s n).snA = s.snA :=
  same_of_drop (m := 8) (dcqFull_drop s n rfl) .snA rfl
@[simp] theorem dcqFull_snB (s : State) (n : Nat) : (dcqFull s n).snB = s.snB :=
  same_of_drop (m := 8) (dcqFull_drop s n rfl) .snB rfl
@[simp] theorem dcqFull_esA (s : State) (n : Nat) : (dcqFull s n).esA = s.esA :=
  same_of_drop (m := 8) (dcqFull_drop s n rfl) .esA rfl
@[simp] theorem dcqFull_esB (s : State) (n : Nat) : (dcqFull s n).esB = s.esB :=
  same_of_drop (m := 8) (dcqFull_drop s n rfl) .esB rfl
@[simp] theorem dcqFull_est (s : State) (n : Nat) : (dcqFull s n).est = s.est :=
  same_of_drop (m := 8) (dcqFull_drop s n rfl) .est rfl
@[simp] theorem dcqFull_thm (s : State) (n : Nat) : (dcqFull s n).thm = s.thm :=
  same_of_drop (m := 8) (dcqFull_drop s n rfl) .thm rfl
@[simp] theorem dcqFull_prt (s : State) (n : Nat) : (dcqFull s n).prt = s.prt :=
  same_of_drop (m := 8) (dcqFull_drop s n rfl) .prt rfl
@[simp] theorem dcqFull_dvt (s : State) (n : Nat) : (dcqFull s n).dvt = s.dvt :=
  same_of_drop (m := 8) (dcqFull_drop s n rfl) .dvt rfl
@[simp] theorem dcqFull_lsw (s : State) (n : Nat) : (dcqFull s n).lsw = s.lsw :=
  same_of_drop (m := 8) (dcqFull_drop s n rfl) .lsw rfl
@[simp] theorem dcqFull_lbus (s : State) (n : Nat) : (dcqFull s n).lbus = s.lbus :=
  same_of_drop (m := 8) (dcqFull_drop s n rfl) .lbus rfl
@[simp] theorem dcqFull_pwr (s : State) (n : Nat) : (dcqFull s n).pwr = s.pwr :=
  same_of_drop (m := 8) (dcqFull_drop s n rfl) .pwr rfl
@[simp] theorem dcqFull_sec (s : State) (n : Nat) : (dcqFull s n).sec = s.sec :=
  same_of_drop (m := 8) (dcqFull_drop s n rfl) .sec rfl
@[simp] theorem dcqFull_mnt (s : State) (n : Nat) : (dcqFull s n).mnt = s.mnt :=
  same_of_drop (m := 8) (dcqFull_drop s n rfl) .mnt rfl
@[simp] theorem dcqFull_evt (s : State) (n : Nat) : (dcqFull s n).evt = s.evt :=
  same_of_drop (m := 8) (dcqFull_drop s n rfl) .evt rfl
@[simp] theorem dcqFull_req (s : State) (n : Nat) : (dcqFull s n).req = s.req :=
  same_of_drop (m := 8) (dcqFull_drop s n rfl) .req rfl
@[simp] theorem dcqFull_clock (s : State) (n : Nat) : (dcqFull s n).clock = s.clock :=
  same_of_drop (m := 8) (dcqFull_drop s n rfl) .clock rfl
@[simp] theorem dcqFull_free (s : State) (n : Nat) : (dcqFull s n).free = s.free :=
  same_of_drop (m := 8) (dcqFull_drop s n rfl) .free rfl
@[simp] theorem dcqFull_outbox (s : State) (n : Nat) : (dcqFull s n).outbox = s.outbox :=
  same_of_drop (m := 8) (dcqFull_drop s n rfl) .outbox rfl
@[simp] theorem dcqFull_pending (s : State) (n : Nat) : (dcqFull s n).pending = s.pending :=
  same_of_drop (m := 8) (dcqFull_drop s n rfl) .pending rfl
@[simp] theorem refreshWords_dev (s : State) : (refreshWords s).dev = s.dev :=
  same_of_drop (m := 32768) (refreshWords_drop s rfl) .dev rfl
@[simp] theorem refreshWords_eng (s : State) : (refreshWords s).eng = s.eng :=
  same_of_drop (m := 32768) (refreshWords_drop s rfl) .eng rfl
@[simp] theorem refreshWords_img (s : State) : (refreshWords s).img = s.img :=
  same_of_drop (m := 32768) (refreshWords_drop s rfl) .img rfl
@[simp] theorem refreshWords_spl (s : State) : (refreshWords s).spl = s.spl :=
  same_of_drop (m := 32768) (refreshWords_drop s rfl) .spl rfl
@[simp] theorem refreshWords_tim (s : State) : (refreshWords s).tim = s.tim :=
  same_of_drop (m := 32768) (refreshWords_drop s rfl) .tim rfl
@[simp] theorem refreshWords_meas (s : State) : (refreshWords s).meas = s.meas :=
  same_of_drop (m := 32768) (refreshWords_drop s rfl) .meas rfl
@[simp] theorem refreshWords_arm (s : State) : (refreshWords s).arm = s.arm :=
  same_of_drop (m := 32768) (refreshWords_drop s rfl) .arm rfl
@[simp] theorem refreshWords_pwm (s : State) : (refreshWords s).pwm = s.pwm :=
  same_of_drop (m := 32768) (refreshWords_drop s rfl) .pwm rfl
@[simp] theorem refreshWords_chA (s : State) : (refreshWords s).chA = s.chA :=
  same_of_drop (m := 32768) (refreshWords_drop s rfl) .chA rfl
@[simp] theorem refreshWords_chB (s : State) : (refreshWords s).chB = s.chB :=
  same_of_drop (m := 32768) (refreshWords_drop s rfl) .chB rfl
@[simp] theorem refreshWords_snA (s : State) : (refreshWords s).snA = s.snA :=
  same_of_drop (m := 32768) (refreshWords_drop s rfl) .snA rfl
@[simp] theorem refreshWords_snB (s : State) : (refreshWords s).snB = s.snB :=
  same_of_drop (m := 32768) (refreshWords_drop s rfl) .snB rfl
@[simp] theorem refreshWords_esA (s : State) : (refreshWords s).esA = s.esA :=
  same_of_drop (m := 32768) (refreshWords_drop s rfl) .esA rfl
@[simp] theorem refreshWords_esB (s : State) : (refreshWords s).esB = s.esB :=
  same_of_drop (m := 32768) (refreshWords_drop s rfl) .esB rfl
@[simp] theorem refreshWords_est (s : State) : (refreshWords s).est = s.est :=
  same_of_drop (m := 32768) (refreshWords_drop s rfl) .est rfl
@[simp] theorem refreshWords_thm (s : State) : (refreshWords s).thm = s.thm :=
  same_of_drop (m := 32768) (refreshWords_drop s rfl) .thm rfl
@[simp] theorem refreshWords_prt (s : State) : (refreshWords s).prt = s.prt :=
  same_of_drop (m := 32768) (refreshWords_drop s rfl) .prt rfl
@[simp] theorem refreshWords_dvt (s : State) : (refreshWords s).dvt = s.dvt :=
  same_of_drop (m := 32768) (refreshWords_drop s rfl) .dvt rfl
@[simp] theorem refreshWords_lsw (s : State) : (refreshWords s).lsw = s.lsw :=
  same_of_drop (m := 32768) (refreshWords_drop s rfl) .lsw rfl
@[simp] theorem refreshWords_lbus (s : State) : (refreshWords s).lbus = s.lbus :=
  same_of_drop (m := 32768) (refreshWords_drop s rfl) .lbus rfl
@[simp] theorem refreshWords_pwr (s : State) : (refreshWords s).pwr = s.pwr :=
  same_of_drop (m := 32768) (refreshWords_drop s rfl) .pwr rfl
@[simp] theorem refreshWords_sec (s : State) : (refreshWords s).sec = s.sec :=
  same_of_drop (m := 32768) (refreshWords_drop s rfl) .sec rfl
@[simp] theorem refreshWords_mnt (s : State) : (refreshWords s).mnt = s.mnt :=
  same_of_drop (m := 32768) (refreshWords_drop s rfl) .mnt rfl
@[simp] theorem refreshWords_evt (s : State) : (refreshWords s).evt = s.evt :=
  same_of_drop (m := 32768) (refreshWords_drop s rfl) .evt rfl
@[simp] theorem refreshWords_req (s : State) : (refreshWords s).req = s.req :=
  same_of_drop (m := 32768) (refreshWords_drop s rfl) .req rfl
@[simp] theorem refreshWords_clock (s : State) : (refreshWords s).clock = s.clock :=
  same_of_drop (m := 32768) (refreshWords_drop s rfl) .clock rfl
@[simp] theorem refreshWords_free (s : State) : (refreshWords s).free = s.free :=
  same_of_drop (m := 32768) (refreshWords_drop s rfl) .free rfl
@[simp] theorem refreshWords_outbox (s : State) : (refreshWords s).outbox = s.outbox :=
  same_of_drop (m := 32768) (refreshWords_drop s rfl) .outbox rfl
@[simp] theorem refreshWords_pending (s : State) : (refreshWords s).pending = s.pending :=
  same_of_drop (m := 32768) (refreshWords_drop s rfl) .pending rfl
@[simp] theorem refreshWords_glk_legA (s : State) : (refreshWords s).glk.legA = s.glk.legA := by
  have h := same_of_drop (m := 32768) (refreshWords_drop s rfl) .legs rfl
  simp only [Block.same] at h; simp only [h]
@[simp] theorem refreshWords_glk_legB (s : State) : (refreshWords s).glk.legB = s.glk.legB := by
  have h := same_of_drop (m := 32768) (refreshWords_drop s rfl) .legs rfl
  simp only [Block.same] at h; simp only [h]
@[simp] theorem refreshWords_glk_fireHold (s : State) : (refreshWords s).glk.fireHold = s.glk.fireHold := by
  have h := same_of_drop (m := 32768) (refreshWords_drop s rfl) .switch rfl
  simp only [Block.same] at h; simp only [h]
@[simp] theorem refreshWords_glk_fireAll (s : State) : (refreshWords s).glk.fireAll = s.glk.fireAll := by
  have h := same_of_drop (m := 32768) (refreshWords_drop s rfl) .switch rfl
  simp only [Block.same] at h; simp only [h]
@[simp] theorem refreshWords_glk_closeAsserted (s : State) : (refreshWords s).glk.closeAsserted = s.glk.closeAsserted := by
  have h := same_of_drop (m := 32768) (refreshWords_drop s rfl) .switch rfl
  simp only [Block.same] at h; simp only [h]
@[simp] theorem refreshWords_glk_closeDue (s : State) : (refreshWords s).glk.closeDue = s.glk.closeDue := by
  have h := same_of_drop (m := 32768) (refreshWords_drop s rfl) .switch rfl
  simp only [Block.same] at h; simp only [h]
@[simp] theorem refreshWords_glk_statClosed (s : State) : (refreshWords s).glk.statClosed = s.glk.statClosed := by
  have h := same_of_drop (m := 32768) (refreshWords_drop s rfl) .switch rfl
  simp only [Block.same] at h; simp only [h]
@[simp] theorem refreshFire_dev (s : State) : (refreshFire s).dev = s.dev :=
  same_of_drop (m := 8589967360) (refreshFire_drop s rfl) .dev rfl
@[simp] theorem refreshFire_eng (s : State) : (refreshFire s).eng = s.eng :=
  same_of_drop (m := 8589967360) (refreshFire_drop s rfl) .eng rfl
@[simp] theorem refreshFire_img (s : State) : (refreshFire s).img = s.img :=
  same_of_drop (m := 8589967360) (refreshFire_drop s rfl) .img rfl
@[simp] theorem refreshFire_spl (s : State) : (refreshFire s).spl = s.spl :=
  same_of_drop (m := 8589967360) (refreshFire_drop s rfl) .spl rfl
@[simp] theorem refreshFire_tim (s : State) : (refreshFire s).tim = s.tim :=
  same_of_drop (m := 8589967360) (refreshFire_drop s rfl) .tim rfl
@[simp] theorem refreshFire_meas (s : State) : (refreshFire s).meas = s.meas :=
  same_of_drop (m := 8589967360) (refreshFire_drop s rfl) .meas rfl
@[simp] theorem refreshFire_arm (s : State) : (refreshFire s).arm = s.arm :=
  same_of_drop (m := 8589967360) (refreshFire_drop s rfl) .arm rfl
@[simp] theorem refreshFire_pwm (s : State) : (refreshFire s).pwm = s.pwm :=
  same_of_drop (m := 8589967360) (refreshFire_drop s rfl) .pwm rfl
@[simp] theorem refreshFire_chA (s : State) : (refreshFire s).chA = s.chA :=
  same_of_drop (m := 8589967360) (refreshFire_drop s rfl) .chA rfl
@[simp] theorem refreshFire_chB (s : State) : (refreshFire s).chB = s.chB :=
  same_of_drop (m := 8589967360) (refreshFire_drop s rfl) .chB rfl
@[simp] theorem refreshFire_snA (s : State) : (refreshFire s).snA = s.snA :=
  same_of_drop (m := 8589967360) (refreshFire_drop s rfl) .snA rfl
@[simp] theorem refreshFire_snB (s : State) : (refreshFire s).snB = s.snB :=
  same_of_drop (m := 8589967360) (refreshFire_drop s rfl) .snB rfl
@[simp] theorem refreshFire_esA (s : State) : (refreshFire s).esA = s.esA :=
  same_of_drop (m := 8589967360) (refreshFire_drop s rfl) .esA rfl
@[simp] theorem refreshFire_esB (s : State) : (refreshFire s).esB = s.esB :=
  same_of_drop (m := 8589967360) (refreshFire_drop s rfl) .esB rfl
@[simp] theorem refreshFire_est (s : State) : (refreshFire s).est = s.est :=
  same_of_drop (m := 8589967360) (refreshFire_drop s rfl) .est rfl
@[simp] theorem refreshFire_thm (s : State) : (refreshFire s).thm = s.thm :=
  same_of_drop (m := 8589967360) (refreshFire_drop s rfl) .thm rfl
@[simp] theorem refreshFire_prt (s : State) : (refreshFire s).prt = s.prt :=
  same_of_drop (m := 8589967360) (refreshFire_drop s rfl) .prt rfl
@[simp] theorem refreshFire_dvt (s : State) : (refreshFire s).dvt = s.dvt :=
  same_of_drop (m := 8589967360) (refreshFire_drop s rfl) .dvt rfl
@[simp] theorem refreshFire_lsw (s : State) : (refreshFire s).lsw = s.lsw :=
  same_of_drop (m := 8589967360) (refreshFire_drop s rfl) .lsw rfl
@[simp] theorem refreshFire_lbus (s : State) : (refreshFire s).lbus = s.lbus :=
  same_of_drop (m := 8589967360) (refreshFire_drop s rfl) .lbus rfl
@[simp] theorem refreshFire_pwr (s : State) : (refreshFire s).pwr = s.pwr :=
  same_of_drop (m := 8589967360) (refreshFire_drop s rfl) .pwr rfl
@[simp] theorem refreshFire_sec (s : State) : (refreshFire s).sec = s.sec :=
  same_of_drop (m := 8589967360) (refreshFire_drop s rfl) .sec rfl
@[simp] theorem refreshFire_mnt (s : State) : (refreshFire s).mnt = s.mnt :=
  same_of_drop (m := 8589967360) (refreshFire_drop s rfl) .mnt rfl
@[simp] theorem refreshFire_req (s : State) : (refreshFire s).req = s.req :=
  same_of_drop (m := 8589967360) (refreshFire_drop s rfl) .req rfl
@[simp] theorem refreshFire_clock (s : State) : (refreshFire s).clock = s.clock :=
  same_of_drop (m := 8589967360) (refreshFire_drop s rfl) .clock rfl
@[simp] theorem refreshFire_free (s : State) : (refreshFire s).free = s.free :=
  same_of_drop (m := 8589967360) (refreshFire_drop s rfl) .free rfl
@[simp] theorem refreshFire_outbox (s : State) : (refreshFire s).outbox = s.outbox :=
  same_of_drop (m := 8589967360) (refreshFire_drop s rfl) .outbox rfl
@[simp] theorem refreshFire_pending (s : State) : (refreshFire s).pending = s.pending :=
  same_of_drop (m := 8589967360) (refreshFire_drop s rfl) .pending rfl
@[simp] theorem refreshFire_glk_legA (s : State) : (refreshFire s).glk.legA = s.glk.legA := by
  have h := same_of_drop (m := 8589967360) (refreshFire_drop s rfl) .legs rfl
  simp only [Block.same] at h; simp only [h]
@[simp] theorem refreshFire_glk_legB (s : State) : (refreshFire s).glk.legB = s.glk.legB := by
  have h := same_of_drop (m := 8589967360) (refreshFire_drop s rfl) .legs rfl
  simp only [Block.same] at h; simp only [h]
@[simp] theorem refreshFire_evt_nvm (s : State) : (refreshFire s).evt.nvm = s.evt.nvm := by
  have h := same_of_drop (m := 8589967360) (refreshFire_drop s rfl) .log rfl
  simp only [Block.same] at h; simp only [h]
@[simp] theorem refreshFire_evt_nvmPos (s : State) : (refreshFire s).evt.nvmPos = s.evt.nvmPos := by
  have h := same_of_drop (m := 8589967360) (refreshFire_drop s rfl) .log rfl
  simp only [Block.same] at h; simp only [h]
@[simp] theorem refreshFire_evt_wrapped (s : State) : (refreshFire s).evt.wrapped = s.evt.wrapped := by
  have h := same_of_drop (m := 8589967360) (refreshFire_drop s rfl) .log rfl
  simp only [Block.same] at h; simp only [h]
@[simp] theorem refreshFire_glk_fireHold (s : State) : (refreshFire s).glk.fireHold = s.glk.fireHold := by
  have h := same_of_drop (m := 8589967360) (refreshFire_drop s rfl) .switch rfl
  simp only [Block.same] at h; simp only [h]
@[simp] theorem refreshFire_glk_fireAll (s : State) : (refreshFire s).glk.fireAll = s.glk.fireAll := by
  have h := same_of_drop (m := 8589967360) (refreshFire_drop s rfl) .switch rfl
  simp only [Block.same] at h; simp only [h]
@[simp] theorem refreshFire_glk_closeAsserted (s : State) : (refreshFire s).glk.closeAsserted = s.glk.closeAsserted := by
  have h := same_of_drop (m := 8589967360) (refreshFire_drop s rfl) .switch rfl
  simp only [Block.same] at h; simp only [h]
@[simp] theorem refreshFire_glk_closeDue (s : State) : (refreshFire s).glk.closeDue = s.glk.closeDue := by
  have h := same_of_drop (m := 8589967360) (refreshFire_drop s rfl) .switch rfl
  simp only [Block.same] at h; simp only [h]
@[simp] theorem refreshFire_glk_statClosed (s : State) : (refreshFire s).glk.statClosed = s.glk.statClosed := by
  have h := same_of_drop (m := 8589967360) (refreshFire_drop s rfl) .switch rfl
  simp only [Block.same] at h; simp only [h]
@[simp] theorem refreshBridge_dev (s : State) : (refreshBridge s).dev = s.dev :=
  same_of_drop (m := 8589967360) (refreshBridge_drop s rfl) .dev rfl
@[simp] theorem refreshBridge_eng (s : State) : (refreshBridge s).eng = s.eng :=
  same_of_drop (m := 8589967360) (refreshBridge_drop s rfl) .eng rfl
@[simp] theorem refreshBridge_img (s : State) : (refreshBridge s).img = s.img :=
  same_of_drop (m := 8589967360) (refreshBridge_drop s rfl) .img rfl
@[simp] theorem refreshBridge_spl (s : State) : (refreshBridge s).spl = s.spl :=
  same_of_drop (m := 8589967360) (refreshBridge_drop s rfl) .spl rfl
@[simp] theorem refreshBridge_tim (s : State) : (refreshBridge s).tim = s.tim :=
  same_of_drop (m := 8589967360) (refreshBridge_drop s rfl) .tim rfl
@[simp] theorem refreshBridge_meas (s : State) : (refreshBridge s).meas = s.meas :=
  same_of_drop (m := 8589967360) (refreshBridge_drop s rfl) .meas rfl
@[simp] theorem refreshBridge_arm (s : State) : (refreshBridge s).arm = s.arm :=
  same_of_drop (m := 8589967360) (refreshBridge_drop s rfl) .arm rfl
@[simp] theorem refreshBridge_pwm (s : State) : (refreshBridge s).pwm = s.pwm :=
  same_of_drop (m := 8589967360) (refreshBridge_drop s rfl) .pwm rfl
@[simp] theorem refreshBridge_chA (s : State) : (refreshBridge s).chA = s.chA :=
  same_of_drop (m := 8589967360) (refreshBridge_drop s rfl) .chA rfl
@[simp] theorem refreshBridge_chB (s : State) : (refreshBridge s).chB = s.chB :=
  same_of_drop (m := 8589967360) (refreshBridge_drop s rfl) .chB rfl
@[simp] theorem refreshBridge_snA (s : State) : (refreshBridge s).snA = s.snA :=
  same_of_drop (m := 8589967360) (refreshBridge_drop s rfl) .snA rfl
@[simp] theorem refreshBridge_snB (s : State) : (refreshBridge s).snB = s.snB :=
  same_of_drop (m := 8589967360) (refreshBridge_drop s rfl) .snB rfl
@[simp] theorem refreshBridge_esA (s : State) : (refreshBridge s).esA = s.esA :=
  same_of_drop (m := 8589967360) (refreshBridge_drop s rfl) .esA rfl
@[simp] theorem refreshBridge_esB (s : State) : (refreshBridge s).esB = s.esB :=
  same_of_drop (m := 8589967360) (refreshBridge_drop s rfl) .esB rfl
@[simp] theorem refreshBridge_est (s : State) : (refreshBridge s).est = s.est :=
  same_of_drop (m := 8589967360) (refreshBridge_drop s rfl) .est rfl
@[simp] theorem refreshBridge_thm (s : State) : (refreshBridge s).thm = s.thm :=
  same_of_drop (m := 8589967360) (refreshBridge_drop s rfl) .thm rfl
@[simp] theorem refreshBridge_prt (s : State) : (refreshBridge s).prt = s.prt :=
  same_of_drop (m := 8589967360) (refreshBridge_drop s rfl) .prt rfl
@[simp] theorem refreshBridge_dvt (s : State) : (refreshBridge s).dvt = s.dvt :=
  same_of_drop (m := 8589967360) (refreshBridge_drop s rfl) .dvt rfl
@[simp] theorem refreshBridge_lsw (s : State) : (refreshBridge s).lsw = s.lsw :=
  same_of_drop (m := 8589967360) (refreshBridge_drop s rfl) .lsw rfl
@[simp] theorem refreshBridge_lbus (s : State) : (refreshBridge s).lbus = s.lbus :=
  same_of_drop (m := 8589967360) (refreshBridge_drop s rfl) .lbus rfl
@[simp] theorem refreshBridge_pwr (s : State) : (refreshBridge s).pwr = s.pwr :=
  same_of_drop (m := 8589967360) (refreshBridge_drop s rfl) .pwr rfl
@[simp] theorem refreshBridge_sec (s : State) : (refreshBridge s).sec = s.sec :=
  same_of_drop (m := 8589967360) (refreshBridge_drop s rfl) .sec rfl
@[simp] theorem refreshBridge_mnt (s : State) : (refreshBridge s).mnt = s.mnt :=
  same_of_drop (m := 8589967360) (refreshBridge_drop s rfl) .mnt rfl
@[simp] theorem refreshBridge_req (s : State) : (refreshBridge s).req = s.req :=
  same_of_drop (m := 8589967360) (refreshBridge_drop s rfl) .req rfl
@[simp] theorem refreshBridge_clock (s : State) : (refreshBridge s).clock = s.clock :=
  same_of_drop (m := 8589967360) (refreshBridge_drop s rfl) .clock rfl
@[simp] theorem refreshBridge_free (s : State) : (refreshBridge s).free = s.free :=
  same_of_drop (m := 8589967360) (refreshBridge_drop s rfl) .free rfl
@[simp] theorem refreshBridge_outbox (s : State) : (refreshBridge s).outbox = s.outbox :=
  same_of_drop (m := 8589967360) (refreshBridge_drop s rfl) .outbox rfl
@[simp] theorem refreshBridge_pending (s : State) : (refreshBridge s).pending = s.pending :=
  same_of_drop (m := 8589967360) (refreshBridge_drop s rfl) .pending rfl
@[simp] theorem refreshBridge_glk_legA (s : State) : (refreshBridge s).glk.legA = s.glk.legA := by
  have h := same_of_drop (m := 8589967360) (refreshBridge_drop s rfl) .legs rfl
  simp only [Block.same] at h; simp only [h]
@[simp] theorem refreshBridge_glk_legB (s : State) : (refreshBridge s).glk.legB = s.glk.legB := by
  have h := same_of_drop (m := 8589967360) (refreshBridge_drop s rfl) .legs rfl
  simp only [Block.same] at h; simp only [h]
@[simp] theorem refreshBridge_evt_nvm (s : State) : (refreshBridge s).evt.nvm = s.evt.nvm := by
  have h := same_of_drop (m := 8589967360) (refreshBridge_drop s rfl) .log rfl
  simp only [Block.same] at h; simp only [h]
@[simp] theorem refreshBridge_evt_nvmPos (s : State) : (refreshBridge s).evt.nvmPos = s.evt.nvmPos := by
  have h := same_of_drop (m := 8589967360) (refreshBridge_drop s rfl) .log rfl
  simp only [Block.same] at h; simp only [h]
@[simp] theorem refreshBridge_evt_wrapped (s : State) : (refreshBridge s).evt.wrapped = s.evt.wrapped := by
  have h := same_of_drop (m := 8589967360) (refreshBridge_drop s rfl) .log rfl
  simp only [Block.same] at h; simp only [h]
@[simp] theorem refreshBridge_glk_fireHold (s : State) : (refreshBridge s).glk.fireHold = s.glk.fireHold := by
  have h := same_of_drop (m := 8589967360) (refreshBridge_drop s rfl) .switch rfl
  simp only [Block.same] at h; simp only [h]
@[simp] theorem refreshBridge_glk_fireAll (s : State) : (refreshBridge s).glk.fireAll = s.glk.fireAll := by
  have h := same_of_drop (m := 8589967360) (refreshBridge_drop s rfl) .switch rfl
  simp only [Block.same] at h; simp only [h]
@[simp] theorem refreshBridge_glk_closeAsserted (s : State) : (refreshBridge s).glk.closeAsserted = s.glk.closeAsserted := by
  have h := same_of_drop (m := 8589967360) (refreshBridge_drop s rfl) .switch rfl
  simp only [Block.same] at h; simp only [h]
@[simp] theorem refreshBridge_glk_closeDue (s : State) : (refreshBridge s).glk.closeDue = s.glk.closeDue := by
  have h := same_of_drop (m := 8589967360) (refreshBridge_drop s rfl) .switch rfl
  simp only [Block.same] at h; simp only [h]
@[simp] theorem refreshBridge_glk_statClosed (s : State) : (refreshBridge s).glk.statClosed = s.glk.statClosed := by
  have h := same_of_drop (m := 8589967360) (refreshBridge_drop s rfl) .switch rfl
  simp only [Block.same] at h; simp only [h]
@[simp] theorem setHiZ_dev (s : State) (l : Leg) (cause : Nat) : (setHiZ s l cause).dev = s.dev :=
  same_of_drop (m := 549755846656) (setHiZ_drop s l cause rfl) .dev rfl
@[simp] theorem setHiZ_eng (s : State) (l : Leg) (cause : Nat) : (setHiZ s l cause).eng = s.eng :=
  same_of_drop (m := 549755846656) (setHiZ_drop s l cause rfl) .eng rfl
@[simp] theorem setHiZ_img (s : State) (l : Leg) (cause : Nat) : (setHiZ s l cause).img = s.img :=
  same_of_drop (m := 549755846656) (setHiZ_drop s l cause rfl) .img rfl
@[simp] theorem setHiZ_spl (s : State) (l : Leg) (cause : Nat) : (setHiZ s l cause).spl = s.spl :=
  same_of_drop (m := 549755846656) (setHiZ_drop s l cause rfl) .spl rfl
@[simp] theorem setHiZ_tim (s : State) (l : Leg) (cause : Nat) : (setHiZ s l cause).tim = s.tim :=
  same_of_drop (m := 549755846656) (setHiZ_drop s l cause rfl) .tim rfl
@[simp] theorem setHiZ_meas (s : State) (l : Leg) (cause : Nat) : (setHiZ s l cause).meas = s.meas :=
  same_of_drop (m := 549755846656) (setHiZ_drop s l cause rfl) .meas rfl
@[simp] theorem setHiZ_arm (s : State) (l : Leg) (cause : Nat) : (setHiZ s l cause).arm = s.arm :=
  same_of_drop (m := 549755846656) (setHiZ_drop s l cause rfl) .arm rfl
@[simp] theorem setHiZ_pwm (s : State) (l : Leg) (cause : Nat) : (setHiZ s l cause).pwm = s.pwm :=
  same_of_drop (m := 549755846656) (setHiZ_drop s l cause rfl) .pwm rfl
@[simp] theorem setHiZ_chA (s : State) (l : Leg) (cause : Nat) : (setHiZ s l cause).chA = s.chA :=
  same_of_drop (m := 549755846656) (setHiZ_drop s l cause rfl) .chA rfl
@[simp] theorem setHiZ_chB (s : State) (l : Leg) (cause : Nat) : (setHiZ s l cause).chB = s.chB :=
  same_of_drop (m := 549755846656) (setHiZ_drop s l cause rfl) .chB rfl
@[simp] theorem setHiZ_snA (s : State) (l : Leg) (cause : Nat) : (setHiZ s l cause).snA = s.snA :=
  same_of_drop (m := 549755846656) (setHiZ_drop s l cause rfl) .snA rfl
@[simp] theorem setHiZ_snB (s : State) (l : Leg) (cause : Nat) : (setHiZ s l cause).snB = s.snB :=
  same_of_drop (m := 549755846656) (setHiZ_drop s l cause rfl) .snB rfl
@[simp] theorem setHiZ_esA (s : State) (l : Leg) (cause : Nat) : (setHiZ s l cause).esA = s.esA :=
  same_of_drop (m := 549755846656) (setHiZ_drop s l cause rfl) .esA rfl
@[simp] theorem setHiZ_esB (s : State) (l : Leg) (cause : Nat) : (setHiZ s l cause).esB = s.esB :=
  same_of_drop (m := 549755846656) (setHiZ_drop s l cause rfl) .esB rfl
@[simp] theorem setHiZ_est (s : State) (l : Leg) (cause : Nat) : (setHiZ s l cause).est = s.est :=
  same_of_drop (m := 549755846656) (setHiZ_drop s l cause rfl) .est rfl
@[simp] theorem setHiZ_thm (s : State) (l : Leg) (cause : Nat) : (setHiZ s l cause).thm = s.thm :=
  same_of_drop (m := 549755846656) (setHiZ_drop s l cause rfl) .thm rfl
@[simp] theorem setHiZ_prt (s : State) (l : Leg) (cause : Nat) : (setHiZ s l cause).prt = s.prt :=
  same_of_drop (m := 549755846656) (setHiZ_drop s l cause rfl) .prt rfl
@[simp] theorem setHiZ_dvt (s : State) (l : Leg) (cause : Nat) : (setHiZ s l cause).dvt = s.dvt :=
  same_of_drop (m := 549755846656) (setHiZ_drop s l cause rfl) .dvt rfl
@[simp] theorem setHiZ_lsw (s : State) (l : Leg) (cause : Nat) : (setHiZ s l cause).lsw = s.lsw :=
  same_of_drop (m := 549755846656) (setHiZ_drop s l cause rfl) .lsw rfl
@[simp] theorem setHiZ_lbus (s : State) (l : Leg) (cause : Nat) : (setHiZ s l cause).lbus = s.lbus :=
  same_of_drop (m := 549755846656) (setHiZ_drop s l cause rfl) .lbus rfl
@[simp] theorem setHiZ_pwr (s : State) (l : Leg) (cause : Nat) : (setHiZ s l cause).pwr = s.pwr :=
  same_of_drop (m := 549755846656) (setHiZ_drop s l cause rfl) .pwr rfl
@[simp] theorem setHiZ_sec (s : State) (l : Leg) (cause : Nat) : (setHiZ s l cause).sec = s.sec :=
  same_of_drop (m := 549755846656) (setHiZ_drop s l cause rfl) .sec rfl
@[simp] theorem setHiZ_mnt (s : State) (l : Leg) (cause : Nat) : (setHiZ s l cause).mnt = s.mnt :=
  same_of_drop (m := 549755846656) (setHiZ_drop s l cause rfl) .mnt rfl
@[simp] theorem setHiZ_evt (s : State) (l : Leg) (cause : Nat) : (setHiZ s l cause).evt = s.evt :=
  same_of_drop (m := 549755846656) (setHiZ_drop s l cause rfl) .evt rfl
@[simp] theorem setHiZ_req (s : State) (l : Leg) (cause : Nat) : (setHiZ s l cause).req = s.req :=
  same_of_drop (m := 549755846656) (setHiZ_drop s l cause rfl) .req rfl
@[simp] theorem setHiZ_clock (s : State) (l : Leg) (cause : Nat) : (setHiZ s l cause).clock = s.clock :=
  same_of_drop (m := 549755846656) (setHiZ_drop s l cause rfl) .clock rfl
@[simp] theorem setHiZ_free (s : State) (l : Leg) (cause : Nat) : (setHiZ s l cause).free = s.free :=
  same_of_drop (m := 549755846656) (setHiZ_drop s l cause rfl) .free rfl
@[simp] theorem setHiZ_outbox (s : State) (l : Leg) (cause : Nat) : (setHiZ s l cause).outbox = s.outbox :=
  same_of_drop (m := 549755846656) (setHiZ_drop s l cause rfl) .outbox rfl
@[simp] theorem setHiZ_pending (s : State) (l : Leg) (cause : Nat) : (setHiZ s l cause).pending = s.pending :=
  same_of_drop (m := 549755846656) (setHiZ_drop s l cause rfl) .pending rfl
@[simp] theorem setHiZ_glk_fireHold (s : State) (l : Leg) (cause : Nat) : (setHiZ s l cause).glk.fireHold = s.glk.fireHold := by
  have h := same_of_drop (m := 549755846656) (setHiZ_drop s l cause rfl) .switch rfl
  simp only [Block.same] at h; simp only [h]
@[simp] theorem setHiZ_glk_fireAll (s : State) (l : Leg) (cause : Nat) : (setHiZ s l cause).glk.fireAll = s.glk.fireAll := by
  have h := same_of_drop (m := 549755846656) (setHiZ_drop s l cause rfl) .switch rfl
  simp only [Block.same] at h; simp only [h]
@[simp] theorem setHiZ_glk_closeAsserted (s : State) (l : Leg) (cause : Nat) : (setHiZ s l cause).glk.closeAsserted = s.glk.closeAsserted := by
  have h := same_of_drop (m := 549755846656) (setHiZ_drop s l cause rfl) .switch rfl
  simp only [Block.same] at h; simp only [h]
@[simp] theorem setHiZ_glk_closeDue (s : State) (l : Leg) (cause : Nat) : (setHiZ s l cause).glk.closeDue = s.glk.closeDue := by
  have h := same_of_drop (m := 549755846656) (setHiZ_drop s l cause rfl) .switch rfl
  simp only [Block.same] at h; simp only [h]
@[simp] theorem setHiZ_glk_statClosed (s : State) (l : Leg) (cause : Nat) : (setHiZ s l cause).glk.statClosed = s.glk.statClosed := by
  have h := same_of_drop (m := 549755846656) (setHiZ_drop s l cause rfl) .switch rfl
  simp only [Block.same] at h; simp only [h]
@[simp] theorem bothHiZ_dev (s : State) (cause : Nat) (keepMark : Bool) : (bothHiZ s cause keepMark).dev = s.dev :=
  same_of_drop (m := 549755846656) (bothHiZ_drop s cause keepMark rfl) .dev rfl
@[simp] theorem bothHiZ_eng (s : State) (cause : Nat) (keepMark : Bool) : (bothHiZ s cause keepMark).eng = s.eng :=
  same_of_drop (m := 549755846656) (bothHiZ_drop s cause keepMark rfl) .eng rfl
@[simp] theorem bothHiZ_img (s : State) (cause : Nat) (keepMark : Bool) : (bothHiZ s cause keepMark).img = s.img :=
  same_of_drop (m := 549755846656) (bothHiZ_drop s cause keepMark rfl) .img rfl
@[simp] theorem bothHiZ_spl (s : State) (cause : Nat) (keepMark : Bool) : (bothHiZ s cause keepMark).spl = s.spl :=
  same_of_drop (m := 549755846656) (bothHiZ_drop s cause keepMark rfl) .spl rfl
@[simp] theorem bothHiZ_tim (s : State) (cause : Nat) (keepMark : Bool) : (bothHiZ s cause keepMark).tim = s.tim :=
  same_of_drop (m := 549755846656) (bothHiZ_drop s cause keepMark rfl) .tim rfl
@[simp] theorem bothHiZ_meas (s : State) (cause : Nat) (keepMark : Bool) : (bothHiZ s cause keepMark).meas = s.meas :=
  same_of_drop (m := 549755846656) (bothHiZ_drop s cause keepMark rfl) .meas rfl
@[simp] theorem bothHiZ_arm (s : State) (cause : Nat) (keepMark : Bool) : (bothHiZ s cause keepMark).arm = s.arm :=
  same_of_drop (m := 549755846656) (bothHiZ_drop s cause keepMark rfl) .arm rfl
@[simp] theorem bothHiZ_pwm (s : State) (cause : Nat) (keepMark : Bool) : (bothHiZ s cause keepMark).pwm = s.pwm :=
  same_of_drop (m := 549755846656) (bothHiZ_drop s cause keepMark rfl) .pwm rfl
@[simp] theorem bothHiZ_chA (s : State) (cause : Nat) (keepMark : Bool) : (bothHiZ s cause keepMark).chA = s.chA :=
  same_of_drop (m := 549755846656) (bothHiZ_drop s cause keepMark rfl) .chA rfl
@[simp] theorem bothHiZ_chB (s : State) (cause : Nat) (keepMark : Bool) : (bothHiZ s cause keepMark).chB = s.chB :=
  same_of_drop (m := 549755846656) (bothHiZ_drop s cause keepMark rfl) .chB rfl
@[simp] theorem bothHiZ_snA (s : State) (cause : Nat) (keepMark : Bool) : (bothHiZ s cause keepMark).snA = s.snA :=
  same_of_drop (m := 549755846656) (bothHiZ_drop s cause keepMark rfl) .snA rfl
@[simp] theorem bothHiZ_snB (s : State) (cause : Nat) (keepMark : Bool) : (bothHiZ s cause keepMark).snB = s.snB :=
  same_of_drop (m := 549755846656) (bothHiZ_drop s cause keepMark rfl) .snB rfl
@[simp] theorem bothHiZ_esA (s : State) (cause : Nat) (keepMark : Bool) : (bothHiZ s cause keepMark).esA = s.esA :=
  same_of_drop (m := 549755846656) (bothHiZ_drop s cause keepMark rfl) .esA rfl
@[simp] theorem bothHiZ_esB (s : State) (cause : Nat) (keepMark : Bool) : (bothHiZ s cause keepMark).esB = s.esB :=
  same_of_drop (m := 549755846656) (bothHiZ_drop s cause keepMark rfl) .esB rfl
@[simp] theorem bothHiZ_est (s : State) (cause : Nat) (keepMark : Bool) : (bothHiZ s cause keepMark).est = s.est :=
  same_of_drop (m := 549755846656) (bothHiZ_drop s cause keepMark rfl) .est rfl
@[simp] theorem bothHiZ_thm (s : State) (cause : Nat) (keepMark : Bool) : (bothHiZ s cause keepMark).thm = s.thm :=
  same_of_drop (m := 549755846656) (bothHiZ_drop s cause keepMark rfl) .thm rfl
@[simp] theorem bothHiZ_prt (s : State) (cause : Nat) (keepMark : Bool) : (bothHiZ s cause keepMark).prt = s.prt :=
  same_of_drop (m := 549755846656) (bothHiZ_drop s cause keepMark rfl) .prt rfl
@[simp] theorem bothHiZ_dvt (s : State) (cause : Nat) (keepMark : Bool) : (bothHiZ s cause keepMark).dvt = s.dvt :=
  same_of_drop (m := 549755846656) (bothHiZ_drop s cause keepMark rfl) .dvt rfl
@[simp] theorem bothHiZ_lsw (s : State) (cause : Nat) (keepMark : Bool) : (bothHiZ s cause keepMark).lsw = s.lsw :=
  same_of_drop (m := 549755846656) (bothHiZ_drop s cause keepMark rfl) .lsw rfl
@[simp] theorem bothHiZ_lbus (s : State) (cause : Nat) (keepMark : Bool) : (bothHiZ s cause keepMark).lbus = s.lbus :=
  same_of_drop (m := 549755846656) (bothHiZ_drop s cause keepMark rfl) .lbus rfl
@[simp] theorem bothHiZ_pwr (s : State) (cause : Nat) (keepMark : Bool) : (bothHiZ s cause keepMark).pwr = s.pwr :=
  same_of_drop (m := 549755846656) (bothHiZ_drop s cause keepMark rfl) .pwr rfl
@[simp] theorem bothHiZ_sec (s : State) (cause : Nat) (keepMark : Bool) : (bothHiZ s cause keepMark).sec = s.sec :=
  same_of_drop (m := 549755846656) (bothHiZ_drop s cause keepMark rfl) .sec rfl
@[simp] theorem bothHiZ_mnt (s : State) (cause : Nat) (keepMark : Bool) : (bothHiZ s cause keepMark).mnt = s.mnt :=
  same_of_drop (m := 549755846656) (bothHiZ_drop s cause keepMark rfl) .mnt rfl
@[simp] theorem bothHiZ_evt (s : State) (cause : Nat) (keepMark : Bool) : (bothHiZ s cause keepMark).evt = s.evt :=
  same_of_drop (m := 549755846656) (bothHiZ_drop s cause keepMark rfl) .evt rfl
@[simp] theorem bothHiZ_req (s : State) (cause : Nat) (keepMark : Bool) : (bothHiZ s cause keepMark).req = s.req :=
  same_of_drop (m := 549755846656) (bothHiZ_drop s cause keepMark rfl) .req rfl
@[simp] theorem bothHiZ_clock (s : State) (cause : Nat) (keepMark : Bool) : (bothHiZ s cause keepMark).clock = s.clock :=
  same_of_drop (m := 549755846656) (bothHiZ_drop s cause keepMark rfl) .clock rfl
@[simp] theorem bothHiZ_free (s : State) (cause : Nat) (keepMark : Bool) : (bothHiZ s cause keepMark).free = s.free :=
  same_of_drop (m := 549755846656) (bothHiZ_drop s cause keepMark rfl) .free rfl
@[simp] theorem bothHiZ_outbox (s : State) (cause : Nat) (keepMark : Bool) : (bothHiZ s cause keepMark).outbox = s.outbox :=
  same_of_drop (m := 549755846656) (bothHiZ_drop s cause keepMark rfl) .outbox rfl
@[simp] theorem bothHiZ_pending (s : State) (cause : Nat) (keepMark : Bool) : (bothHiZ s cause keepMark).pending = s.pending :=
  same_of_drop (m := 549755846656) (bothHiZ_drop s cause keepMark rfl) .pending rfl
@[simp] theorem bothHiZ_glk_fireHold (s : State) (cause : Nat) (keepMark : Bool) : (bothHiZ s cause keepMark).glk.fireHold = s.glk.fireHold := by
  have h := same_of_drop (m := 549755846656) (bothHiZ_drop s cause keepMark rfl) .switch rfl
  simp only [Block.same] at h; simp only [h]
@[simp] theorem bothHiZ_glk_fireAll (s : State) (cause : Nat) (keepMark : Bool) : (bothHiZ s cause keepMark).glk.fireAll = s.glk.fireAll := by
  have h := same_of_drop (m := 549755846656) (bothHiZ_drop s cause keepMark rfl) .switch rfl
  simp only [Block.same] at h; simp only [h]
@[simp] theorem bothHiZ_glk_closeAsserted (s : State) (cause : Nat) (keepMark : Bool) : (bothHiZ s cause keepMark).glk.closeAsserted = s.glk.closeAsserted := by
  have h := same_of_drop (m := 549755846656) (bothHiZ_drop s cause keepMark rfl) .switch rfl
  simp only [Block.same] at h; simp only [h]
@[simp] theorem bothHiZ_glk_closeDue (s : State) (cause : Nat) (keepMark : Bool) : (bothHiZ s cause keepMark).glk.closeDue = s.glk.closeDue := by
  have h := same_of_drop (m := 549755846656) (bothHiZ_drop s cause keepMark rfl) .switch rfl
  simp only [Block.same] at h; simp only [h]
@[simp] theorem bothHiZ_glk_statClosed (s : State) (cause : Nat) (keepMark : Bool) : (bothHiZ s cause keepMark).glk.statClosed = s.glk.statClosed := by
  have h := same_of_drop (m := 549755846656) (bothHiZ_drop s cause keepMark rfl) .switch rfl
  simp only [Block.same] at h; simp only [h]
@[simp] theorem assertClose_dev (s : State) (cause : Nat) : (assertClose s cause).dev = s.dev :=
  same_of_drop (m := 4406636478464) (assertClose_drop s cause rfl) .dev rfl
@[simp] theorem assertClose_eng (s : State) (cause : Nat) : (assertClose s cause).eng = s.eng :=
  same_of_drop (m := 4406636478464) (assertClose_drop s cause rfl) .eng rfl
@[simp] theorem assertClose_img (s : State) (cause : Nat) : (assertClose s cause).img = s.img :=
  same_of_drop (m := 4406636478464) (assertClose_drop s cause rfl) .img rfl
@[simp] theorem assertClose_spl (s : State) (cause : Nat) : (assertClose s cause).spl = s.spl :=
  same_of_drop (m := 4406636478464) (assertClose_drop s cause rfl) .spl rfl
@[simp] theorem assertClose_tim (s : State) (cause : Nat) : (assertClose s cause).tim = s.tim :=
  same_of_drop (m := 4406636478464) (assertClose_drop s cause rfl) .tim rfl
@[simp] theorem assertClose_meas (s : State) (cause : Nat) : (assertClose s cause).meas = s.meas :=
  same_of_drop (m := 4406636478464) (assertClose_drop s cause rfl) .meas rfl
@[simp] theorem assertClose_arm (s : State) (cause : Nat) : (assertClose s cause).arm = s.arm :=
  same_of_drop (m := 4406636478464) (assertClose_drop s cause rfl) .arm rfl
@[simp] theorem assertClose_pwm (s : State) (cause : Nat) : (assertClose s cause).pwm = s.pwm :=
  same_of_drop (m := 4406636478464) (assertClose_drop s cause rfl) .pwm rfl
@[simp] theorem assertClose_chA (s : State) (cause : Nat) : (assertClose s cause).chA = s.chA :=
  same_of_drop (m := 4406636478464) (assertClose_drop s cause rfl) .chA rfl
@[simp] theorem assertClose_chB (s : State) (cause : Nat) : (assertClose s cause).chB = s.chB :=
  same_of_drop (m := 4406636478464) (assertClose_drop s cause rfl) .chB rfl
@[simp] theorem assertClose_snA (s : State) (cause : Nat) : (assertClose s cause).snA = s.snA :=
  same_of_drop (m := 4406636478464) (assertClose_drop s cause rfl) .snA rfl
@[simp] theorem assertClose_snB (s : State) (cause : Nat) : (assertClose s cause).snB = s.snB :=
  same_of_drop (m := 4406636478464) (assertClose_drop s cause rfl) .snB rfl
@[simp] theorem assertClose_esA (s : State) (cause : Nat) : (assertClose s cause).esA = s.esA :=
  same_of_drop (m := 4406636478464) (assertClose_drop s cause rfl) .esA rfl
@[simp] theorem assertClose_esB (s : State) (cause : Nat) : (assertClose s cause).esB = s.esB :=
  same_of_drop (m := 4406636478464) (assertClose_drop s cause rfl) .esB rfl
@[simp] theorem assertClose_est (s : State) (cause : Nat) : (assertClose s cause).est = s.est :=
  same_of_drop (m := 4406636478464) (assertClose_drop s cause rfl) .est rfl
@[simp] theorem assertClose_thm (s : State) (cause : Nat) : (assertClose s cause).thm = s.thm :=
  same_of_drop (m := 4406636478464) (assertClose_drop s cause rfl) .thm rfl
@[simp] theorem assertClose_prt (s : State) (cause : Nat) : (assertClose s cause).prt = s.prt :=
  same_of_drop (m := 4406636478464) (assertClose_drop s cause rfl) .prt rfl
@[simp] theorem assertClose_dvt (s : State) (cause : Nat) : (assertClose s cause).dvt = s.dvt :=
  same_of_drop (m := 4406636478464) (assertClose_drop s cause rfl) .dvt rfl
@[simp] theorem assertClose_lsw (s : State) (cause : Nat) : (assertClose s cause).lsw = s.lsw :=
  same_of_drop (m := 4406636478464) (assertClose_drop s cause rfl) .lsw rfl
@[simp] theorem assertClose_lbus (s : State) (cause : Nat) : (assertClose s cause).lbus = s.lbus :=
  same_of_drop (m := 4406636478464) (assertClose_drop s cause rfl) .lbus rfl
@[simp] theorem assertClose_pwr (s : State) (cause : Nat) : (assertClose s cause).pwr = s.pwr :=
  same_of_drop (m := 4406636478464) (assertClose_drop s cause rfl) .pwr rfl
@[simp] theorem assertClose_sec (s : State) (cause : Nat) : (assertClose s cause).sec = s.sec :=
  same_of_drop (m := 4406636478464) (assertClose_drop s cause rfl) .sec rfl
@[simp] theorem assertClose_mnt (s : State) (cause : Nat) : (assertClose s cause).mnt = s.mnt :=
  same_of_drop (m := 4406636478464) (assertClose_drop s cause rfl) .mnt rfl
@[simp] theorem assertClose_req (s : State) (cause : Nat) : (assertClose s cause).req = s.req :=
  same_of_drop (m := 4406636478464) (assertClose_drop s cause rfl) .req rfl
@[simp] theorem assertClose_clock (s : State) (cause : Nat) : (assertClose s cause).clock = s.clock :=
  same_of_drop (m := 4406636478464) (assertClose_drop s cause rfl) .clock rfl
@[simp] theorem assertClose_free (s : State) (cause : Nat) : (assertClose s cause).free = s.free :=
  same_of_drop (m := 4406636478464) (assertClose_drop s cause rfl) .free rfl
@[simp] theorem assertClose_outbox (s : State) (cause : Nat) : (assertClose s cause).outbox = s.outbox :=
  same_of_drop (m := 4406636478464) (assertClose_drop s cause rfl) .outbox rfl
@[simp] theorem assertClose_pending (s : State) (cause : Nat) : (assertClose s cause).pending = s.pending :=
  same_of_drop (m := 4406636478464) (assertClose_drop s cause rfl) .pending rfl
@[simp] theorem assertClose_glk_legA (s : State) (cause : Nat) : (assertClose s cause).glk.legA = s.glk.legA := by
  have h := same_of_drop (m := 4406636478464) (assertClose_drop s cause rfl) .legs rfl
  simp only [Block.same] at h; simp only [h]
@[simp] theorem assertClose_glk_legB (s : State) (cause : Nat) : (assertClose s cause).glk.legB = s.glk.legB := by
  have h := same_of_drop (m := 4406636478464) (assertClose_drop s cause rfl) .legs rfl
  simp only [Block.same] at h; simp only [h]
@[simp] theorem assertClose_evt_nvm (s : State) (cause : Nat) : (assertClose s cause).evt.nvm = s.evt.nvm := by
  have h := same_of_drop (m := 4406636478464) (assertClose_drop s cause rfl) .log rfl
  simp only [Block.same] at h; simp only [h]
@[simp] theorem assertClose_evt_nvmPos (s : State) (cause : Nat) : (assertClose s cause).evt.nvmPos = s.evt.nvmPos := by
  have h := same_of_drop (m := 4406636478464) (assertClose_drop s cause rfl) .log rfl
  simp only [Block.same] at h; simp only [h]
@[simp] theorem assertClose_evt_wrapped (s : State) (cause : Nat) : (assertClose s cause).evt.wrapped = s.evt.wrapped := by
  have h := same_of_drop (m := 4406636478464) (assertClose_drop s cause rfl) .log rfl
  simp only [Block.same] at h; simp only [h]
@[simp] theorem chOn_dev (s : State) (n : Fin 12) : (chOn s n).dev = s.dev :=
  same_of_drop (m := 67108864) (chOn_drop s n rfl) .dev rfl
@[simp] theorem chOn_eng (s : State) (n : Fin 12) : (chOn s n).eng = s.eng :=
  same_of_drop (m := 67108864) (chOn_drop s n rfl) .eng rfl
@[simp] theorem chOn_img (s : State) (n : Fin 12) : (chOn s n).img = s.img :=
  same_of_drop (m := 67108864) (chOn_drop s n rfl) .img rfl
@[simp] theorem chOn_spl (s : State) (n : Fin 12) : (chOn s n).spl = s.spl :=
  same_of_drop (m := 67108864) (chOn_drop s n rfl) .spl rfl
@[simp] theorem chOn_tim (s : State) (n : Fin 12) : (chOn s n).tim = s.tim :=
  same_of_drop (m := 67108864) (chOn_drop s n rfl) .tim rfl
@[simp] theorem chOn_meas (s : State) (n : Fin 12) : (chOn s n).meas = s.meas :=
  same_of_drop (m := 67108864) (chOn_drop s n rfl) .meas rfl
@[simp] theorem chOn_arm (s : State) (n : Fin 12) : (chOn s n).arm = s.arm :=
  same_of_drop (m := 67108864) (chOn_drop s n rfl) .arm rfl
@[simp] theorem chOn_pwm (s : State) (n : Fin 12) : (chOn s n).pwm = s.pwm :=
  same_of_drop (m := 67108864) (chOn_drop s n rfl) .pwm rfl
@[simp] theorem chOn_glk (s : State) (n : Fin 12) : (chOn s n).glk = s.glk :=
  same_of_drop (m := 67108864) (chOn_drop s n rfl) .glk rfl
@[simp] theorem chOn_chA (s : State) (n : Fin 12) : (chOn s n).chA = s.chA :=
  same_of_drop (m := 67108864) (chOn_drop s n rfl) .chA rfl
@[simp] theorem chOn_chB (s : State) (n : Fin 12) : (chOn s n).chB = s.chB :=
  same_of_drop (m := 67108864) (chOn_drop s n rfl) .chB rfl
@[simp] theorem chOn_snA (s : State) (n : Fin 12) : (chOn s n).snA = s.snA :=
  same_of_drop (m := 67108864) (chOn_drop s n rfl) .snA rfl
@[simp] theorem chOn_snB (s : State) (n : Fin 12) : (chOn s n).snB = s.snB :=
  same_of_drop (m := 67108864) (chOn_drop s n rfl) .snB rfl
@[simp] theorem chOn_esA (s : State) (n : Fin 12) : (chOn s n).esA = s.esA :=
  same_of_drop (m := 67108864) (chOn_drop s n rfl) .esA rfl
@[simp] theorem chOn_esB (s : State) (n : Fin 12) : (chOn s n).esB = s.esB :=
  same_of_drop (m := 67108864) (chOn_drop s n rfl) .esB rfl
@[simp] theorem chOn_est (s : State) (n : Fin 12) : (chOn s n).est = s.est :=
  same_of_drop (m := 67108864) (chOn_drop s n rfl) .est rfl
@[simp] theorem chOn_thm (s : State) (n : Fin 12) : (chOn s n).thm = s.thm :=
  same_of_drop (m := 67108864) (chOn_drop s n rfl) .thm rfl
@[simp] theorem chOn_prt (s : State) (n : Fin 12) : (chOn s n).prt = s.prt :=
  same_of_drop (m := 67108864) (chOn_drop s n rfl) .prt rfl
@[simp] theorem chOn_dvt (s : State) (n : Fin 12) : (chOn s n).dvt = s.dvt :=
  same_of_drop (m := 67108864) (chOn_drop s n rfl) .dvt rfl
@[simp] theorem chOn_lbus (s : State) (n : Fin 12) : (chOn s n).lbus = s.lbus :=
  same_of_drop (m := 67108864) (chOn_drop s n rfl) .lbus rfl
@[simp] theorem chOn_pwr (s : State) (n : Fin 12) : (chOn s n).pwr = s.pwr :=
  same_of_drop (m := 67108864) (chOn_drop s n rfl) .pwr rfl
@[simp] theorem chOn_sec (s : State) (n : Fin 12) : (chOn s n).sec = s.sec :=
  same_of_drop (m := 67108864) (chOn_drop s n rfl) .sec rfl
@[simp] theorem chOn_mnt (s : State) (n : Fin 12) : (chOn s n).mnt = s.mnt :=
  same_of_drop (m := 67108864) (chOn_drop s n rfl) .mnt rfl
@[simp] theorem chOn_evt (s : State) (n : Fin 12) : (chOn s n).evt = s.evt :=
  same_of_drop (m := 67108864) (chOn_drop s n rfl) .evt rfl
@[simp] theorem chOn_req (s : State) (n : Fin 12) : (chOn s n).req = s.req :=
  same_of_drop (m := 67108864) (chOn_drop s n rfl) .req rfl
@[simp] theorem chOn_clock (s : State) (n : Fin 12) : (chOn s n).clock = s.clock :=
  same_of_drop (m := 67108864) (chOn_drop s n rfl) .clock rfl
@[simp] theorem chOn_free (s : State) (n : Fin 12) : (chOn s n).free = s.free :=
  same_of_drop (m := 67108864) (chOn_drop s n rfl) .free rfl
@[simp] theorem chOn_outbox (s : State) (n : Fin 12) : (chOn s n).outbox = s.outbox :=
  same_of_drop (m := 67108864) (chOn_drop s n rfl) .outbox rfl
@[simp] theorem chOn_pending (s : State) (n : Fin 12) : (chOn s n).pending = s.pending :=
  same_of_drop (m := 67108864) (chOn_drop s n rfl) .pending rfl
@[simp] theorem chOff_dev (s : State) (n : Fin 12) : (chOff s n).dev = s.dev :=
  same_of_drop (m := 67108864) (chOff_drop s n rfl) .dev rfl
@[simp] theorem chOff_eng (s : State) (n : Fin 12) : (chOff s n).eng = s.eng :=
  same_of_drop (m := 67108864) (chOff_drop s n rfl) .eng rfl
@[simp] theorem chOff_img (s : State) (n : Fin 12) : (chOff s n).img = s.img :=
  same_of_drop (m := 67108864) (chOff_drop s n rfl) .img rfl
@[simp] theorem chOff_spl (s : State) (n : Fin 12) : (chOff s n).spl = s.spl :=
  same_of_drop (m := 67108864) (chOff_drop s n rfl) .spl rfl
@[simp] theorem chOff_tim (s : State) (n : Fin 12) : (chOff s n).tim = s.tim :=
  same_of_drop (m := 67108864) (chOff_drop s n rfl) .tim rfl
@[simp] theorem chOff_meas (s : State) (n : Fin 12) : (chOff s n).meas = s.meas :=
  same_of_drop (m := 67108864) (chOff_drop s n rfl) .meas rfl
@[simp] theorem chOff_arm (s : State) (n : Fin 12) : (chOff s n).arm = s.arm :=
  same_of_drop (m := 67108864) (chOff_drop s n rfl) .arm rfl
@[simp] theorem chOff_pwm (s : State) (n : Fin 12) : (chOff s n).pwm = s.pwm :=
  same_of_drop (m := 67108864) (chOff_drop s n rfl) .pwm rfl
@[simp] theorem chOff_glk (s : State) (n : Fin 12) : (chOff s n).glk = s.glk :=
  same_of_drop (m := 67108864) (chOff_drop s n rfl) .glk rfl
@[simp] theorem chOff_chA (s : State) (n : Fin 12) : (chOff s n).chA = s.chA :=
  same_of_drop (m := 67108864) (chOff_drop s n rfl) .chA rfl
@[simp] theorem chOff_chB (s : State) (n : Fin 12) : (chOff s n).chB = s.chB :=
  same_of_drop (m := 67108864) (chOff_drop s n rfl) .chB rfl
@[simp] theorem chOff_snA (s : State) (n : Fin 12) : (chOff s n).snA = s.snA :=
  same_of_drop (m := 67108864) (chOff_drop s n rfl) .snA rfl
@[simp] theorem chOff_snB (s : State) (n : Fin 12) : (chOff s n).snB = s.snB :=
  same_of_drop (m := 67108864) (chOff_drop s n rfl) .snB rfl
@[simp] theorem chOff_esA (s : State) (n : Fin 12) : (chOff s n).esA = s.esA :=
  same_of_drop (m := 67108864) (chOff_drop s n rfl) .esA rfl
@[simp] theorem chOff_esB (s : State) (n : Fin 12) : (chOff s n).esB = s.esB :=
  same_of_drop (m := 67108864) (chOff_drop s n rfl) .esB rfl
@[simp] theorem chOff_est (s : State) (n : Fin 12) : (chOff s n).est = s.est :=
  same_of_drop (m := 67108864) (chOff_drop s n rfl) .est rfl
@[simp] theorem chOff_thm (s : State) (n : Fin 12) : (chOff s n).thm = s.thm :=
  same_of_drop (m := 67108864) (chOff_drop s n rfl) .thm rfl
@[simp] theorem chOff_prt (s : State) (n : Fin 12) : (chOff s n).prt = s.prt :=
  same_of_drop (m := 67108864) (chOff_drop s n rfl) .prt rfl
@[simp] theorem chOff_dvt (s : State) (n : Fin 12) : (chOff s n).dvt = s.dvt :=
  same_of_drop (m := 67108864) (chOff_drop s n rfl) .dvt rfl
@[simp] theorem chOff_lbus (s : State) (n : Fin 12) : (chOff s n).lbus = s.lbus :=
  same_of_drop (m := 67108864) (chOff_drop s n rfl) .lbus rfl
@[simp] theorem chOff_pwr (s : State) (n : Fin 12) : (chOff s n).pwr = s.pwr :=
  same_of_drop (m := 67108864) (chOff_drop s n rfl) .pwr rfl
@[simp] theorem chOff_sec (s : State) (n : Fin 12) : (chOff s n).sec = s.sec :=
  same_of_drop (m := 67108864) (chOff_drop s n rfl) .sec rfl
@[simp] theorem chOff_mnt (s : State) (n : Fin 12) : (chOff s n).mnt = s.mnt :=
  same_of_drop (m := 67108864) (chOff_drop s n rfl) .mnt rfl
@[simp] theorem chOff_evt (s : State) (n : Fin 12) : (chOff s n).evt = s.evt :=
  same_of_drop (m := 67108864) (chOff_drop s n rfl) .evt rfl
@[simp] theorem chOff_req (s : State) (n : Fin 12) : (chOff s n).req = s.req :=
  same_of_drop (m := 67108864) (chOff_drop s n rfl) .req rfl
@[simp] theorem chOff_clock (s : State) (n : Fin 12) : (chOff s n).clock = s.clock :=
  same_of_drop (m := 67108864) (chOff_drop s n rfl) .clock rfl
@[simp] theorem chOff_free (s : State) (n : Fin 12) : (chOff s n).free = s.free :=
  same_of_drop (m := 67108864) (chOff_drop s n rfl) .free rfl
@[simp] theorem chOff_outbox (s : State) (n : Fin 12) : (chOff s n).outbox = s.outbox :=
  same_of_drop (m := 67108864) (chOff_drop s n rfl) .outbox rfl
@[simp] theorem chOff_pending (s : State) (n : Fin 12) : (chOff s n).pending = s.pending :=
  same_of_drop (m := 67108864) (chOff_drop s n rfl) .pending rfl
@[simp] theorem refreshCh_dev (s : State) (n : Fin 12) : (refreshCh s n).dev = s.dev :=
  same_of_drop (m := 67108864) (refreshCh_drop s n rfl) .dev rfl
@[simp] theorem refreshCh_eng (s : State) (n : Fin 12) : (refreshCh s n).eng = s.eng :=
  same_of_drop (m := 67108864) (refreshCh_drop s n rfl) .eng rfl
@[simp] theorem refreshCh_img (s : State) (n : Fin 12) : (refreshCh s n).img = s.img :=
  same_of_drop (m := 67108864) (refreshCh_drop s n rfl) .img rfl
@[simp] theorem refreshCh_spl (s : State) (n : Fin 12) : (refreshCh s n).spl = s.spl :=
  same_of_drop (m := 67108864) (refreshCh_drop s n rfl) .spl rfl
@[simp] theorem refreshCh_tim (s : State) (n : Fin 12) : (refreshCh s n).tim = s.tim :=
  same_of_drop (m := 67108864) (refreshCh_drop s n rfl) .tim rfl
@[simp] theorem refreshCh_meas (s : State) (n : Fin 12) : (refreshCh s n).meas = s.meas :=
  same_of_drop (m := 67108864) (refreshCh_drop s n rfl) .meas rfl
@[simp] theorem refreshCh_arm (s : State) (n : Fin 12) : (refreshCh s n).arm = s.arm :=
  same_of_drop (m := 67108864) (refreshCh_drop s n rfl) .arm rfl
@[simp] theorem refreshCh_pwm (s : State) (n : Fin 12) : (refreshCh s n).pwm = s.pwm :=
  same_of_drop (m := 67108864) (refreshCh_drop s n rfl) .pwm rfl
@[simp] theorem refreshCh_glk (s : State) (n : Fin 12) : (refreshCh s n).glk = s.glk :=
  same_of_drop (m := 67108864) (refreshCh_drop s n rfl) .glk rfl
@[simp] theorem refreshCh_chA (s : State) (n : Fin 12) : (refreshCh s n).chA = s.chA :=
  same_of_drop (m := 67108864) (refreshCh_drop s n rfl) .chA rfl
@[simp] theorem refreshCh_chB (s : State) (n : Fin 12) : (refreshCh s n).chB = s.chB :=
  same_of_drop (m := 67108864) (refreshCh_drop s n rfl) .chB rfl
@[simp] theorem refreshCh_snA (s : State) (n : Fin 12) : (refreshCh s n).snA = s.snA :=
  same_of_drop (m := 67108864) (refreshCh_drop s n rfl) .snA rfl
@[simp] theorem refreshCh_snB (s : State) (n : Fin 12) : (refreshCh s n).snB = s.snB :=
  same_of_drop (m := 67108864) (refreshCh_drop s n rfl) .snB rfl
@[simp] theorem refreshCh_esA (s : State) (n : Fin 12) : (refreshCh s n).esA = s.esA :=
  same_of_drop (m := 67108864) (refreshCh_drop s n rfl) .esA rfl
@[simp] theorem refreshCh_esB (s : State) (n : Fin 12) : (refreshCh s n).esB = s.esB :=
  same_of_drop (m := 67108864) (refreshCh_drop s n rfl) .esB rfl
@[simp] theorem refreshCh_est (s : State) (n : Fin 12) : (refreshCh s n).est = s.est :=
  same_of_drop (m := 67108864) (refreshCh_drop s n rfl) .est rfl
@[simp] theorem refreshCh_thm (s : State) (n : Fin 12) : (refreshCh s n).thm = s.thm :=
  same_of_drop (m := 67108864) (refreshCh_drop s n rfl) .thm rfl
@[simp] theorem refreshCh_prt (s : State) (n : Fin 12) : (refreshCh s n).prt = s.prt :=
  same_of_drop (m := 67108864) (refreshCh_drop s n rfl) .prt rfl
@[simp] theorem refreshCh_dvt (s : State) (n : Fin 12) : (refreshCh s n).dvt = s.dvt :=
  same_of_drop (m := 67108864) (refreshCh_drop s n rfl) .dvt rfl
@[simp] theorem refreshCh_lbus (s : State) (n : Fin 12) : (refreshCh s n).lbus = s.lbus :=
  same_of_drop (m := 67108864) (refreshCh_drop s n rfl) .lbus rfl
@[simp] theorem refreshCh_pwr (s : State) (n : Fin 12) : (refreshCh s n).pwr = s.pwr :=
  same_of_drop (m := 67108864) (refreshCh_drop s n rfl) .pwr rfl
@[simp] theorem refreshCh_sec (s : State) (n : Fin 12) : (refreshCh s n).sec = s.sec :=
  same_of_drop (m := 67108864) (refreshCh_drop s n rfl) .sec rfl
@[simp] theorem refreshCh_mnt (s : State) (n : Fin 12) : (refreshCh s n).mnt = s.mnt :=
  same_of_drop (m := 67108864) (refreshCh_drop s n rfl) .mnt rfl
@[simp] theorem refreshCh_evt (s : State) (n : Fin 12) : (refreshCh s n).evt = s.evt :=
  same_of_drop (m := 67108864) (refreshCh_drop s n rfl) .evt rfl
@[simp] theorem refreshCh_req (s : State) (n : Fin 12) : (refreshCh s n).req = s.req :=
  same_of_drop (m := 67108864) (refreshCh_drop s n rfl) .req rfl
@[simp] theorem refreshCh_clock (s : State) (n : Fin 12) : (refreshCh s n).clock = s.clock :=
  same_of_drop (m := 67108864) (refreshCh_drop s n rfl) .clock rfl
@[simp] theorem refreshCh_free (s : State) (n : Fin 12) : (refreshCh s n).free = s.free :=
  same_of_drop (m := 67108864) (refreshCh_drop s n rfl) .free rfl
@[simp] theorem refreshCh_outbox (s : State) (n : Fin 12) : (refreshCh s n).outbox = s.outbox :=
  same_of_drop (m := 67108864) (refreshCh_drop s n rfl) .outbox rfl
@[simp] theorem refreshCh_pending (s : State) (n : Fin 12) : (refreshCh s n).pending = s.pending :=
  same_of_drop (m := 67108864) (refreshCh_drop s n rfl) .pending rfl
@[simp] theorem refreshLoads_dev (s : State) : (refreshLoads s).dev = s.dev :=
  same_of_drop (m := 67108864) (refreshLoads_drop s rfl) .dev rfl
@[simp] theorem refreshLoads_eng (s : State) : (refreshLoads s).eng = s.eng :=
  same_of_drop (m := 67108864) (refreshLoads_drop s rfl) .eng rfl
@[simp] theorem refreshLoads_img (s : State) : (refreshLoads s).img = s.img :=
  same_of_drop (m := 67108864) (refreshLoads_drop s rfl) .img rfl
@[simp] theorem refreshLoads_spl (s : State) : (refreshLoads s).spl = s.spl :=
  same_of_drop (m := 67108864) (refreshLoads_drop s rfl) .spl rfl
@[simp] theorem refreshLoads_tim (s : State) : (refreshLoads s).tim = s.tim :=
  same_of_drop (m := 67108864) (refreshLoads_drop s rfl) .tim rfl
@[simp] theorem refreshLoads_meas (s : State) : (refreshLoads s).meas = s.meas :=
  same_of_drop (m := 67108864) (refreshLoads_drop s rfl) .meas rfl
@[simp] theorem refreshLoads_arm (s : State) : (refreshLoads s).arm = s.arm :=
  same_of_drop (m := 67108864) (refreshLoads_drop s rfl) .arm rfl
@[simp] theorem refreshLoads_pwm (s : State) : (refreshLoads s).pwm = s.pwm :=
  same_of_drop (m := 67108864) (refreshLoads_drop s rfl) .pwm rfl
@[simp] theorem refreshLoads_glk (s : State) : (refreshLoads s).glk = s.glk :=
  same_of_drop (m := 67108864) (refreshLoads_drop s rfl) .glk rfl
@[simp] theorem refreshLoads_chA (s : State) : (refreshLoads s).chA = s.chA :=
  same_of_drop (m := 67108864) (refreshLoads_drop s rfl) .chA rfl
@[simp] theorem refreshLoads_chB (s : State) : (refreshLoads s).chB = s.chB :=
  same_of_drop (m := 67108864) (refreshLoads_drop s rfl) .chB rfl
@[simp] theorem refreshLoads_snA (s : State) : (refreshLoads s).snA = s.snA :=
  same_of_drop (m := 67108864) (refreshLoads_drop s rfl) .snA rfl
@[simp] theorem refreshLoads_snB (s : State) : (refreshLoads s).snB = s.snB :=
  same_of_drop (m := 67108864) (refreshLoads_drop s rfl) .snB rfl
@[simp] theorem refreshLoads_esA (s : State) : (refreshLoads s).esA = s.esA :=
  same_of_drop (m := 67108864) (refreshLoads_drop s rfl) .esA rfl
@[simp] theorem refreshLoads_esB (s : State) : (refreshLoads s).esB = s.esB :=
  same_of_drop (m := 67108864) (refreshLoads_drop s rfl) .esB rfl
@[simp] theorem refreshLoads_est (s : State) : (refreshLoads s).est = s.est :=
  same_of_drop (m := 67108864) (refreshLoads_drop s rfl) .est rfl
@[simp] theorem refreshLoads_thm (s : State) : (refreshLoads s).thm = s.thm :=
  same_of_drop (m := 67108864) (refreshLoads_drop s rfl) .thm rfl
@[simp] theorem refreshLoads_prt (s : State) : (refreshLoads s).prt = s.prt :=
  same_of_drop (m := 67108864) (refreshLoads_drop s rfl) .prt rfl
@[simp] theorem refreshLoads_dvt (s : State) : (refreshLoads s).dvt = s.dvt :=
  same_of_drop (m := 67108864) (refreshLoads_drop s rfl) .dvt rfl
@[simp] theorem refreshLoads_lbus (s : State) : (refreshLoads s).lbus = s.lbus :=
  same_of_drop (m := 67108864) (refreshLoads_drop s rfl) .lbus rfl
@[simp] theorem refreshLoads_pwr (s : State) : (refreshLoads s).pwr = s.pwr :=
  same_of_drop (m := 67108864) (refreshLoads_drop s rfl) .pwr rfl
@[simp] theorem refreshLoads_sec (s : State) : (refreshLoads s).sec = s.sec :=
  same_of_drop (m := 67108864) (refreshLoads_drop s rfl) .sec rfl
@[simp] theorem refreshLoads_mnt (s : State) : (refreshLoads s).mnt = s.mnt :=
  same_of_drop (m := 67108864) (refreshLoads_drop s rfl) .mnt rfl
@[simp] theorem refreshLoads_evt (s : State) : (refreshLoads s).evt = s.evt :=
  same_of_drop (m := 67108864) (refreshLoads_drop s rfl) .evt rfl
@[simp] theorem refreshLoads_req (s : State) : (refreshLoads s).req = s.req :=
  same_of_drop (m := 67108864) (refreshLoads_drop s rfl) .req rfl
@[simp] theorem refreshLoads_clock (s : State) : (refreshLoads s).clock = s.clock :=
  same_of_drop (m := 67108864) (refreshLoads_drop s rfl) .clock rfl
@[simp] theorem refreshLoads_free (s : State) : (refreshLoads s).free = s.free :=
  same_of_drop (m := 67108864) (refreshLoads_drop s rfl) .free rfl
@[simp] theorem refreshLoads_outbox (s : State) : (refreshLoads s).outbox = s.outbox :=
  same_of_drop (m := 67108864) (refreshLoads_drop s rfl) .outbox rfl
@[simp] theorem refreshLoads_pending (s : State) : (refreshLoads s).pending = s.pending :=
  same_of_drop (m := 67108864) (refreshLoads_drop s rfl) .pending rfl
@[simp] theorem setWant_dev (s : State) (n : Fin 12) (on : Bool) : (setWant s n on).dev = s.dev :=
  same_of_drop (m := 67108864) (setWant_drop s n on rfl) .dev rfl
@[simp] theorem setWant_eng (s : State) (n : Fin 12) (on : Bool) : (setWant s n on).eng = s.eng :=
  same_of_drop (m := 67108864) (setWant_drop s n on rfl) .eng rfl
@[simp] theorem setWant_img (s : State) (n : Fin 12) (on : Bool) : (setWant s n on).img = s.img :=
  same_of_drop (m := 67108864) (setWant_drop s n on rfl) .img rfl
@[simp] theorem setWant_spl (s : State) (n : Fin 12) (on : Bool) : (setWant s n on).spl = s.spl :=
  same_of_drop (m := 67108864) (setWant_drop s n on rfl) .spl rfl
@[simp] theorem setWant_tim (s : State) (n : Fin 12) (on : Bool) : (setWant s n on).tim = s.tim :=
  same_of_drop (m := 67108864) (setWant_drop s n on rfl) .tim rfl
@[simp] theorem setWant_meas (s : State) (n : Fin 12) (on : Bool) : (setWant s n on).meas = s.meas :=
  same_of_drop (m := 67108864) (setWant_drop s n on rfl) .meas rfl
@[simp] theorem setWant_arm (s : State) (n : Fin 12) (on : Bool) : (setWant s n on).arm = s.arm :=
  same_of_drop (m := 67108864) (setWant_drop s n on rfl) .arm rfl
@[simp] theorem setWant_pwm (s : State) (n : Fin 12) (on : Bool) : (setWant s n on).pwm = s.pwm :=
  same_of_drop (m := 67108864) (setWant_drop s n on rfl) .pwm rfl
@[simp] theorem setWant_glk (s : State) (n : Fin 12) (on : Bool) : (setWant s n on).glk = s.glk :=
  same_of_drop (m := 67108864) (setWant_drop s n on rfl) .glk rfl
@[simp] theorem setWant_chA (s : State) (n : Fin 12) (on : Bool) : (setWant s n on).chA = s.chA :=
  same_of_drop (m := 67108864) (setWant_drop s n on rfl) .chA rfl
@[simp] theorem setWant_chB (s : State) (n : Fin 12) (on : Bool) : (setWant s n on).chB = s.chB :=
  same_of_drop (m := 67108864) (setWant_drop s n on rfl) .chB rfl
@[simp] theorem setWant_snA (s : State) (n : Fin 12) (on : Bool) : (setWant s n on).snA = s.snA :=
  same_of_drop (m := 67108864) (setWant_drop s n on rfl) .snA rfl
@[simp] theorem setWant_snB (s : State) (n : Fin 12) (on : Bool) : (setWant s n on).snB = s.snB :=
  same_of_drop (m := 67108864) (setWant_drop s n on rfl) .snB rfl
@[simp] theorem setWant_esA (s : State) (n : Fin 12) (on : Bool) : (setWant s n on).esA = s.esA :=
  same_of_drop (m := 67108864) (setWant_drop s n on rfl) .esA rfl
@[simp] theorem setWant_esB (s : State) (n : Fin 12) (on : Bool) : (setWant s n on).esB = s.esB :=
  same_of_drop (m := 67108864) (setWant_drop s n on rfl) .esB rfl
@[simp] theorem setWant_est (s : State) (n : Fin 12) (on : Bool) : (setWant s n on).est = s.est :=
  same_of_drop (m := 67108864) (setWant_drop s n on rfl) .est rfl
@[simp] theorem setWant_thm (s : State) (n : Fin 12) (on : Bool) : (setWant s n on).thm = s.thm :=
  same_of_drop (m := 67108864) (setWant_drop s n on rfl) .thm rfl
@[simp] theorem setWant_prt (s : State) (n : Fin 12) (on : Bool) : (setWant s n on).prt = s.prt :=
  same_of_drop (m := 67108864) (setWant_drop s n on rfl) .prt rfl
@[simp] theorem setWant_dvt (s : State) (n : Fin 12) (on : Bool) : (setWant s n on).dvt = s.dvt :=
  same_of_drop (m := 67108864) (setWant_drop s n on rfl) .dvt rfl
@[simp] theorem setWant_lbus (s : State) (n : Fin 12) (on : Bool) : (setWant s n on).lbus = s.lbus :=
  same_of_drop (m := 67108864) (setWant_drop s n on rfl) .lbus rfl
@[simp] theorem setWant_pwr (s : State) (n : Fin 12) (on : Bool) : (setWant s n on).pwr = s.pwr :=
  same_of_drop (m := 67108864) (setWant_drop s n on rfl) .pwr rfl
@[simp] theorem setWant_sec (s : State) (n : Fin 12) (on : Bool) : (setWant s n on).sec = s.sec :=
  same_of_drop (m := 67108864) (setWant_drop s n on rfl) .sec rfl
@[simp] theorem setWant_mnt (s : State) (n : Fin 12) (on : Bool) : (setWant s n on).mnt = s.mnt :=
  same_of_drop (m := 67108864) (setWant_drop s n on rfl) .mnt rfl
@[simp] theorem setWant_evt (s : State) (n : Fin 12) (on : Bool) : (setWant s n on).evt = s.evt :=
  same_of_drop (m := 67108864) (setWant_drop s n on rfl) .evt rfl
@[simp] theorem setWant_req (s : State) (n : Fin 12) (on : Bool) : (setWant s n on).req = s.req :=
  same_of_drop (m := 67108864) (setWant_drop s n on rfl) .req rfl
@[simp] theorem setWant_clock (s : State) (n : Fin 12) (on : Bool) : (setWant s n on).clock = s.clock :=
  same_of_drop (m := 67108864) (setWant_drop s n on rfl) .clock rfl
@[simp] theorem setWant_free (s : State) (n : Fin 12) (on : Bool) : (setWant s n on).free = s.free :=
  same_of_drop (m := 67108864) (setWant_drop s n on rfl) .free rfl
@[simp] theorem setWant_outbox (s : State) (n : Fin 12) (on : Bool) : (setWant s n on).outbox = s.outbox :=
  same_of_drop (m := 67108864) (setWant_drop s n on rfl) .outbox rfl
@[simp] theorem setWant_pending (s : State) (n : Fin 12) (on : Bool) : (setWant s n on).pending = s.pending :=
  same_of_drop (m := 67108864) (setWant_drop s n on rfl) .pending rfl
@[simp] theorem setHeater_dev (s : State) (n : Fin 12) (st : HeatSt) : (setHeater s n st).dev = s.dev :=
  same_of_drop (m := 8665432064) (setHeater_drop s n st rfl) .dev rfl
@[simp] theorem setHeater_eng (s : State) (n : Fin 12) (st : HeatSt) : (setHeater s n st).eng = s.eng :=
  same_of_drop (m := 8665432064) (setHeater_drop s n st rfl) .eng rfl
@[simp] theorem setHeater_img (s : State) (n : Fin 12) (st : HeatSt) : (setHeater s n st).img = s.img :=
  same_of_drop (m := 8665432064) (setHeater_drop s n st rfl) .img rfl
@[simp] theorem setHeater_spl (s : State) (n : Fin 12) (st : HeatSt) : (setHeater s n st).spl = s.spl :=
  same_of_drop (m := 8665432064) (setHeater_drop s n st rfl) .spl rfl
@[simp] theorem setHeater_tim (s : State) (n : Fin 12) (st : HeatSt) : (setHeater s n st).tim = s.tim :=
  same_of_drop (m := 8665432064) (setHeater_drop s n st rfl) .tim rfl
@[simp] theorem setHeater_meas (s : State) (n : Fin 12) (st : HeatSt) : (setHeater s n st).meas = s.meas :=
  same_of_drop (m := 8665432064) (setHeater_drop s n st rfl) .meas rfl
@[simp] theorem setHeater_arm (s : State) (n : Fin 12) (st : HeatSt) : (setHeater s n st).arm = s.arm :=
  same_of_drop (m := 8665432064) (setHeater_drop s n st rfl) .arm rfl
@[simp] theorem setHeater_pwm (s : State) (n : Fin 12) (st : HeatSt) : (setHeater s n st).pwm = s.pwm :=
  same_of_drop (m := 8665432064) (setHeater_drop s n st rfl) .pwm rfl
@[simp] theorem setHeater_glk (s : State) (n : Fin 12) (st : HeatSt) : (setHeater s n st).glk = s.glk :=
  same_of_drop (m := 8665432064) (setHeater_drop s n st rfl) .glk rfl
@[simp] theorem setHeater_chA (s : State) (n : Fin 12) (st : HeatSt) : (setHeater s n st).chA = s.chA :=
  same_of_drop (m := 8665432064) (setHeater_drop s n st rfl) .chA rfl
@[simp] theorem setHeater_chB (s : State) (n : Fin 12) (st : HeatSt) : (setHeater s n st).chB = s.chB :=
  same_of_drop (m := 8665432064) (setHeater_drop s n st rfl) .chB rfl
@[simp] theorem setHeater_snA (s : State) (n : Fin 12) (st : HeatSt) : (setHeater s n st).snA = s.snA :=
  same_of_drop (m := 8665432064) (setHeater_drop s n st rfl) .snA rfl
@[simp] theorem setHeater_snB (s : State) (n : Fin 12) (st : HeatSt) : (setHeater s n st).snB = s.snB :=
  same_of_drop (m := 8665432064) (setHeater_drop s n st rfl) .snB rfl
@[simp] theorem setHeater_esA (s : State) (n : Fin 12) (st : HeatSt) : (setHeater s n st).esA = s.esA :=
  same_of_drop (m := 8665432064) (setHeater_drop s n st rfl) .esA rfl
@[simp] theorem setHeater_esB (s : State) (n : Fin 12) (st : HeatSt) : (setHeater s n st).esB = s.esB :=
  same_of_drop (m := 8665432064) (setHeater_drop s n st rfl) .esB rfl
@[simp] theorem setHeater_est (s : State) (n : Fin 12) (st : HeatSt) : (setHeater s n st).est = s.est :=
  same_of_drop (m := 8665432064) (setHeater_drop s n st rfl) .est rfl
@[simp] theorem setHeater_prt (s : State) (n : Fin 12) (st : HeatSt) : (setHeater s n st).prt = s.prt :=
  same_of_drop (m := 8665432064) (setHeater_drop s n st rfl) .prt rfl
@[simp] theorem setHeater_dvt (s : State) (n : Fin 12) (st : HeatSt) : (setHeater s n st).dvt = s.dvt :=
  same_of_drop (m := 8665432064) (setHeater_drop s n st rfl) .dvt rfl
@[simp] theorem setHeater_lbus (s : State) (n : Fin 12) (st : HeatSt) : (setHeater s n st).lbus = s.lbus :=
  same_of_drop (m := 8665432064) (setHeater_drop s n st rfl) .lbus rfl
@[simp] theorem setHeater_pwr (s : State) (n : Fin 12) (st : HeatSt) : (setHeater s n st).pwr = s.pwr :=
  same_of_drop (m := 8665432064) (setHeater_drop s n st rfl) .pwr rfl
@[simp] theorem setHeater_sec (s : State) (n : Fin 12) (st : HeatSt) : (setHeater s n st).sec = s.sec :=
  same_of_drop (m := 8665432064) (setHeater_drop s n st rfl) .sec rfl
@[simp] theorem setHeater_mnt (s : State) (n : Fin 12) (st : HeatSt) : (setHeater s n st).mnt = s.mnt :=
  same_of_drop (m := 8665432064) (setHeater_drop s n st rfl) .mnt rfl
@[simp] theorem setHeater_req (s : State) (n : Fin 12) (st : HeatSt) : (setHeater s n st).req = s.req :=
  same_of_drop (m := 8665432064) (setHeater_drop s n st rfl) .req rfl
@[simp] theorem setHeater_clock (s : State) (n : Fin 12) (st : HeatSt) : (setHeater s n st).clock = s.clock :=
  same_of_drop (m := 8665432064) (setHeater_drop s n st rfl) .clock rfl
@[simp] theorem setHeater_free (s : State) (n : Fin 12) (st : HeatSt) : (setHeater s n st).free = s.free :=
  same_of_drop (m := 8665432064) (setHeater_drop s n st rfl) .free rfl
@[simp] theorem setHeater_outbox (s : State) (n : Fin 12) (st : HeatSt) : (setHeater s n st).outbox = s.outbox :=
  same_of_drop (m := 8665432064) (setHeater_drop s n st rfl) .outbox rfl
@[simp] theorem setHeater_pending (s : State) (n : Fin 12) (st : HeatSt) : (setHeater s n st).pending = s.pending :=
  same_of_drop (m := 8665432064) (setHeater_drop s n st rfl) .pending rfl
@[simp] theorem setHeater_evt_nvm (s : State) (n : Fin 12) (st : HeatSt) : (setHeater s n st).evt.nvm = s.evt.nvm := by
  have h := same_of_drop (m := 8665432064) (setHeater_drop s n st rfl) .log rfl
  simp only [Block.same] at h; simp only [h]
@[simp] theorem setHeater_evt_nvmPos (s : State) (n : Fin 12) (st : HeatSt) : (setHeater s n st).evt.nvmPos = s.evt.nvmPos := by
  have h := same_of_drop (m := 8665432064) (setHeater_drop s n st rfl) .log rfl
  simp only [Block.same] at h; simp only [h]
@[simp] theorem setHeater_evt_wrapped (s : State) (n : Fin 12) (st : HeatSt) : (setHeater s n st).evt.wrapped = s.evt.wrapped := by
  have h := same_of_drop (m := 8665432064) (setHeater_drop s n st rfl) .log rfl
  simp only [Block.same] at h; simp only [h]
@[simp] theorem setHeater_thm_sdHotA (s : State) (n : Fin 12) (st : HeatSt) : (setHeater s n st).thm.sdHotA = s.thm.sdHotA := by
  have h := same_of_drop (m := 8665432064) (setHeater_drop s n st rfl) .shutdown rfl
  simp only [Block.same] at h; simp only [h]
@[simp] theorem setHeater_thm_sdHotB (s : State) (n : Fin 12) (st : HeatSt) : (setHeater s n st).thm.sdHotB = s.thm.sdHotB := by
  have h := same_of_drop (m := 8665432064) (setHeater_drop s n st rfl) .shutdown rfl
  simp only [Block.same] at h; simp only [h]
@[simp] theorem setHeater_thm_sdColdA (s : State) (n : Fin 12) (st : HeatSt) : (setHeater s n st).thm.sdColdA = s.thm.sdColdA := by
  have h := same_of_drop (m := 8665432064) (setHeater_drop s n st rfl) .shutdown rfl
  simp only [Block.same] at h; simp only [h]
@[simp] theorem setHeater_thm_sdColdB (s : State) (n : Fin 12) (st : HeatSt) : (setHeater s n st).thm.sdColdB = s.thm.sdColdB := by
  have h := same_of_drop (m := 8665432064) (setHeater_drop s n st rfl) .shutdown rfl
  simp only [Block.same] at h; simp only [h]
@[simp] theorem setCoil_dev (s : State) (c : ChainId) (role : Nat) (on : Bool) : (setCoil s c role on).dev = s.dev :=
  same_of_drop (m := 67305472) (setCoil_drop s c role on rfl) .dev rfl
@[simp] theorem setCoil_eng (s : State) (c : ChainId) (role : Nat) (on : Bool) : (setCoil s c role on).eng = s.eng :=
  same_of_drop (m := 67305472) (setCoil_drop s c role on rfl) .eng rfl
@[simp] theorem setCoil_img (s : State) (c : ChainId) (role : Nat) (on : Bool) : (setCoil s c role on).img = s.img :=
  same_of_drop (m := 67305472) (setCoil_drop s c role on rfl) .img rfl
@[simp] theorem setCoil_spl (s : State) (c : ChainId) (role : Nat) (on : Bool) : (setCoil s c role on).spl = s.spl :=
  same_of_drop (m := 67305472) (setCoil_drop s c role on rfl) .spl rfl
@[simp] theorem setCoil_tim (s : State) (c : ChainId) (role : Nat) (on : Bool) : (setCoil s c role on).tim = s.tim :=
  same_of_drop (m := 67305472) (setCoil_drop s c role on rfl) .tim rfl
@[simp] theorem setCoil_meas (s : State) (c : ChainId) (role : Nat) (on : Bool) : (setCoil s c role on).meas = s.meas :=
  same_of_drop (m := 67305472) (setCoil_drop s c role on rfl) .meas rfl
@[simp] theorem setCoil_arm (s : State) (c : ChainId) (role : Nat) (on : Bool) : (setCoil s c role on).arm = s.arm :=
  same_of_drop (m := 67305472) (setCoil_drop s c role on rfl) .arm rfl
@[simp] theorem setCoil_pwm (s : State) (c : ChainId) (role : Nat) (on : Bool) : (setCoil s c role on).pwm = s.pwm :=
  same_of_drop (m := 67305472) (setCoil_drop s c role on rfl) .pwm rfl
@[simp] theorem setCoil_glk (s : State) (c : ChainId) (role : Nat) (on : Bool) : (setCoil s c role on).glk = s.glk :=
  same_of_drop (m := 67305472) (setCoil_drop s c role on rfl) .glk rfl
@[simp] theorem setCoil_snA (s : State) (c : ChainId) (role : Nat) (on : Bool) : (setCoil s c role on).snA = s.snA :=
  same_of_drop (m := 67305472) (setCoil_drop s c role on rfl) .snA rfl
@[simp] theorem setCoil_snB (s : State) (c : ChainId) (role : Nat) (on : Bool) : (setCoil s c role on).snB = s.snB :=
  same_of_drop (m := 67305472) (setCoil_drop s c role on rfl) .snB rfl
@[simp] theorem setCoil_esA (s : State) (c : ChainId) (role : Nat) (on : Bool) : (setCoil s c role on).esA = s.esA :=
  same_of_drop (m := 67305472) (setCoil_drop s c role on rfl) .esA rfl
@[simp] theorem setCoil_esB (s : State) (c : ChainId) (role : Nat) (on : Bool) : (setCoil s c role on).esB = s.esB :=
  same_of_drop (m := 67305472) (setCoil_drop s c role on rfl) .esB rfl
@[simp] theorem setCoil_est (s : State) (c : ChainId) (role : Nat) (on : Bool) : (setCoil s c role on).est = s.est :=
  same_of_drop (m := 67305472) (setCoil_drop s c role on rfl) .est rfl
@[simp] theorem setCoil_thm (s : State) (c : ChainId) (role : Nat) (on : Bool) : (setCoil s c role on).thm = s.thm :=
  same_of_drop (m := 67305472) (setCoil_drop s c role on rfl) .thm rfl
@[simp] theorem setCoil_prt (s : State) (c : ChainId) (role : Nat) (on : Bool) : (setCoil s c role on).prt = s.prt :=
  same_of_drop (m := 67305472) (setCoil_drop s c role on rfl) .prt rfl
@[simp] theorem setCoil_dvt (s : State) (c : ChainId) (role : Nat) (on : Bool) : (setCoil s c role on).dvt = s.dvt :=
  same_of_drop (m := 67305472) (setCoil_drop s c role on rfl) .dvt rfl
@[simp] theorem setCoil_lbus (s : State) (c : ChainId) (role : Nat) (on : Bool) : (setCoil s c role on).lbus = s.lbus :=
  same_of_drop (m := 67305472) (setCoil_drop s c role on rfl) .lbus rfl
@[simp] theorem setCoil_pwr (s : State) (c : ChainId) (role : Nat) (on : Bool) : (setCoil s c role on).pwr = s.pwr :=
  same_of_drop (m := 67305472) (setCoil_drop s c role on rfl) .pwr rfl
@[simp] theorem setCoil_sec (s : State) (c : ChainId) (role : Nat) (on : Bool) : (setCoil s c role on).sec = s.sec :=
  same_of_drop (m := 67305472) (setCoil_drop s c role on rfl) .sec rfl
@[simp] theorem setCoil_mnt (s : State) (c : ChainId) (role : Nat) (on : Bool) : (setCoil s c role on).mnt = s.mnt :=
  same_of_drop (m := 67305472) (setCoil_drop s c role on rfl) .mnt rfl
@[simp] theorem setCoil_evt (s : State) (c : ChainId) (role : Nat) (on : Bool) : (setCoil s c role on).evt = s.evt :=
  same_of_drop (m := 67305472) (setCoil_drop s c role on rfl) .evt rfl
@[simp] theorem setCoil_req (s : State) (c : ChainId) (role : Nat) (on : Bool) : (setCoil s c role on).req = s.req :=
  same_of_drop (m := 67305472) (setCoil_drop s c role on rfl) .req rfl
@[simp] theorem setCoil_clock (s : State) (c : ChainId) (role : Nat) (on : Bool) : (setCoil s c role on).clock = s.clock :=
  same_of_drop (m := 67305472) (setCoil_drop s c role on rfl) .clock rfl
@[simp] theorem setCoil_free (s : State) (c : ChainId) (role : Nat) (on : Bool) : (setCoil s c role on).free = s.free :=
  same_of_drop (m := 67305472) (setCoil_drop s c role on rfl) .free rfl
@[simp] theorem setCoil_outbox (s : State) (c : ChainId) (role : Nat) (on : Bool) : (setCoil s c role on).outbox = s.outbox :=
  same_of_drop (m := 67305472) (setCoil_drop s c role on rfl) .outbox rfl
@[simp] theorem setCoil_pending (s : State) (c : ChainId) (role : Nat) (on : Bool) : (setCoil s c role on).pending = s.pending :=
  same_of_drop (m := 67305472) (setCoil_drop s c role on rfl) .pending rfl
@[simp] theorem sendChain_dev (s : State) (c : ChainId) (f : Bool → Out) : (sendChain s c f).dev = s.dev :=
  same_of_drop (m := 137438953472) (sendChain_drop s c f rfl) .dev rfl
@[simp] theorem sendChain_eng (s : State) (c : ChainId) (f : Bool → Out) : (sendChain s c f).eng = s.eng :=
  same_of_drop (m := 137438953472) (sendChain_drop s c f rfl) .eng rfl
@[simp] theorem sendChain_img (s : State) (c : ChainId) (f : Bool → Out) : (sendChain s c f).img = s.img :=
  same_of_drop (m := 137438953472) (sendChain_drop s c f rfl) .img rfl
@[simp] theorem sendChain_spl (s : State) (c : ChainId) (f : Bool → Out) : (sendChain s c f).spl = s.spl :=
  same_of_drop (m := 137438953472) (sendChain_drop s c f rfl) .spl rfl
@[simp] theorem sendChain_tim (s : State) (c : ChainId) (f : Bool → Out) : (sendChain s c f).tim = s.tim :=
  same_of_drop (m := 137438953472) (sendChain_drop s c f rfl) .tim rfl
@[simp] theorem sendChain_meas (s : State) (c : ChainId) (f : Bool → Out) : (sendChain s c f).meas = s.meas :=
  same_of_drop (m := 137438953472) (sendChain_drop s c f rfl) .meas rfl
@[simp] theorem sendChain_arm (s : State) (c : ChainId) (f : Bool → Out) : (sendChain s c f).arm = s.arm :=
  same_of_drop (m := 137438953472) (sendChain_drop s c f rfl) .arm rfl
@[simp] theorem sendChain_pwm (s : State) (c : ChainId) (f : Bool → Out) : (sendChain s c f).pwm = s.pwm :=
  same_of_drop (m := 137438953472) (sendChain_drop s c f rfl) .pwm rfl
@[simp] theorem sendChain_glk (s : State) (c : ChainId) (f : Bool → Out) : (sendChain s c f).glk = s.glk :=
  same_of_drop (m := 137438953472) (sendChain_drop s c f rfl) .glk rfl
@[simp] theorem sendChain_chA (s : State) (c : ChainId) (f : Bool → Out) : (sendChain s c f).chA = s.chA :=
  same_of_drop (m := 137438953472) (sendChain_drop s c f rfl) .chA rfl
@[simp] theorem sendChain_chB (s : State) (c : ChainId) (f : Bool → Out) : (sendChain s c f).chB = s.chB :=
  same_of_drop (m := 137438953472) (sendChain_drop s c f rfl) .chB rfl
@[simp] theorem sendChain_snA (s : State) (c : ChainId) (f : Bool → Out) : (sendChain s c f).snA = s.snA :=
  same_of_drop (m := 137438953472) (sendChain_drop s c f rfl) .snA rfl
@[simp] theorem sendChain_snB (s : State) (c : ChainId) (f : Bool → Out) : (sendChain s c f).snB = s.snB :=
  same_of_drop (m := 137438953472) (sendChain_drop s c f rfl) .snB rfl
@[simp] theorem sendChain_esA (s : State) (c : ChainId) (f : Bool → Out) : (sendChain s c f).esA = s.esA :=
  same_of_drop (m := 137438953472) (sendChain_drop s c f rfl) .esA rfl
@[simp] theorem sendChain_esB (s : State) (c : ChainId) (f : Bool → Out) : (sendChain s c f).esB = s.esB :=
  same_of_drop (m := 137438953472) (sendChain_drop s c f rfl) .esB rfl
@[simp] theorem sendChain_est (s : State) (c : ChainId) (f : Bool → Out) : (sendChain s c f).est = s.est :=
  same_of_drop (m := 137438953472) (sendChain_drop s c f rfl) .est rfl
@[simp] theorem sendChain_thm (s : State) (c : ChainId) (f : Bool → Out) : (sendChain s c f).thm = s.thm :=
  same_of_drop (m := 137438953472) (sendChain_drop s c f rfl) .thm rfl
@[simp] theorem sendChain_prt (s : State) (c : ChainId) (f : Bool → Out) : (sendChain s c f).prt = s.prt :=
  same_of_drop (m := 137438953472) (sendChain_drop s c f rfl) .prt rfl
@[simp] theorem sendChain_dvt (s : State) (c : ChainId) (f : Bool → Out) : (sendChain s c f).dvt = s.dvt :=
  same_of_drop (m := 137438953472) (sendChain_drop s c f rfl) .dvt rfl
@[simp] theorem sendChain_lsw (s : State) (c : ChainId) (f : Bool → Out) : (sendChain s c f).lsw = s.lsw :=
  same_of_drop (m := 137438953472) (sendChain_drop s c f rfl) .lsw rfl
@[simp] theorem sendChain_lbus (s : State) (c : ChainId) (f : Bool → Out) : (sendChain s c f).lbus = s.lbus :=
  same_of_drop (m := 137438953472) (sendChain_drop s c f rfl) .lbus rfl
@[simp] theorem sendChain_pwr (s : State) (c : ChainId) (f : Bool → Out) : (sendChain s c f).pwr = s.pwr :=
  same_of_drop (m := 137438953472) (sendChain_drop s c f rfl) .pwr rfl
@[simp] theorem sendChain_sec (s : State) (c : ChainId) (f : Bool → Out) : (sendChain s c f).sec = s.sec :=
  same_of_drop (m := 137438953472) (sendChain_drop s c f rfl) .sec rfl
@[simp] theorem sendChain_mnt (s : State) (c : ChainId) (f : Bool → Out) : (sendChain s c f).mnt = s.mnt :=
  same_of_drop (m := 137438953472) (sendChain_drop s c f rfl) .mnt rfl
@[simp] theorem sendChain_evt (s : State) (c : ChainId) (f : Bool → Out) : (sendChain s c f).evt = s.evt :=
  same_of_drop (m := 137438953472) (sendChain_drop s c f rfl) .evt rfl
@[simp] theorem sendChain_req (s : State) (c : ChainId) (f : Bool → Out) : (sendChain s c f).req = s.req :=
  same_of_drop (m := 137438953472) (sendChain_drop s c f rfl) .req rfl
@[simp] theorem sendChain_clock (s : State) (c : ChainId) (f : Bool → Out) : (sendChain s c f).clock = s.clock :=
  same_of_drop (m := 137438953472) (sendChain_drop s c f rfl) .clock rfl
@[simp] theorem sendChain_free (s : State) (c : ChainId) (f : Bool → Out) : (sendChain s c f).free = s.free :=
  same_of_drop (m := 137438953472) (sendChain_drop s c f rfl) .free rfl
@[simp] theorem sendChain_pending (s : State) (c : ChainId) (f : Bool → Out) : (sendChain s c f).pending = s.pending :=
  same_of_drop (m := 137438953472) (sendChain_drop s c f rfl) .pending rfl
@[simp] theorem sendSrq_dev (s : State) (c : ChainId) (m : Fin 32) (op : Nat) (arg : List Byte) : (sendSrq s c m op arg).dev = s.dev :=
  same_of_drop (m := 786432) (sendSrq_drop s c m op arg rfl) .dev rfl
@[simp] theorem sendSrq_eng (s : State) (c : ChainId) (m : Fin 32) (op : Nat) (arg : List Byte) : (sendSrq s c m op arg).eng = s.eng :=
  same_of_drop (m := 786432) (sendSrq_drop s c m op arg rfl) .eng rfl
@[simp] theorem sendSrq_img (s : State) (c : ChainId) (m : Fin 32) (op : Nat) (arg : List Byte) : (sendSrq s c m op arg).img = s.img :=
  same_of_drop (m := 786432) (sendSrq_drop s c m op arg rfl) .img rfl
@[simp] theorem sendSrq_spl (s : State) (c : ChainId) (m : Fin 32) (op : Nat) (arg : List Byte) : (sendSrq s c m op arg).spl = s.spl :=
  same_of_drop (m := 786432) (sendSrq_drop s c m op arg rfl) .spl rfl
@[simp] theorem sendSrq_tim (s : State) (c : ChainId) (m : Fin 32) (op : Nat) (arg : List Byte) : (sendSrq s c m op arg).tim = s.tim :=
  same_of_drop (m := 786432) (sendSrq_drop s c m op arg rfl) .tim rfl
@[simp] theorem sendSrq_meas (s : State) (c : ChainId) (m : Fin 32) (op : Nat) (arg : List Byte) : (sendSrq s c m op arg).meas = s.meas :=
  same_of_drop (m := 786432) (sendSrq_drop s c m op arg rfl) .meas rfl
@[simp] theorem sendSrq_arm (s : State) (c : ChainId) (m : Fin 32) (op : Nat) (arg : List Byte) : (sendSrq s c m op arg).arm = s.arm :=
  same_of_drop (m := 786432) (sendSrq_drop s c m op arg rfl) .arm rfl
@[simp] theorem sendSrq_pwm (s : State) (c : ChainId) (m : Fin 32) (op : Nat) (arg : List Byte) : (sendSrq s c m op arg).pwm = s.pwm :=
  same_of_drop (m := 786432) (sendSrq_drop s c m op arg rfl) .pwm rfl
@[simp] theorem sendSrq_glk (s : State) (c : ChainId) (m : Fin 32) (op : Nat) (arg : List Byte) : (sendSrq s c m op arg).glk = s.glk :=
  same_of_drop (m := 786432) (sendSrq_drop s c m op arg rfl) .glk rfl
@[simp] theorem sendSrq_chA (s : State) (c : ChainId) (m : Fin 32) (op : Nat) (arg : List Byte) : (sendSrq s c m op arg).chA = s.chA :=
  same_of_drop (m := 786432) (sendSrq_drop s c m op arg rfl) .chA rfl
@[simp] theorem sendSrq_chB (s : State) (c : ChainId) (m : Fin 32) (op : Nat) (arg : List Byte) : (sendSrq s c m op arg).chB = s.chB :=
  same_of_drop (m := 786432) (sendSrq_drop s c m op arg rfl) .chB rfl
@[simp] theorem sendSrq_esA (s : State) (c : ChainId) (m : Fin 32) (op : Nat) (arg : List Byte) : (sendSrq s c m op arg).esA = s.esA :=
  same_of_drop (m := 786432) (sendSrq_drop s c m op arg rfl) .esA rfl
@[simp] theorem sendSrq_esB (s : State) (c : ChainId) (m : Fin 32) (op : Nat) (arg : List Byte) : (sendSrq s c m op arg).esB = s.esB :=
  same_of_drop (m := 786432) (sendSrq_drop s c m op arg rfl) .esB rfl
@[simp] theorem sendSrq_est (s : State) (c : ChainId) (m : Fin 32) (op : Nat) (arg : List Byte) : (sendSrq s c m op arg).est = s.est :=
  same_of_drop (m := 786432) (sendSrq_drop s c m op arg rfl) .est rfl
@[simp] theorem sendSrq_thm (s : State) (c : ChainId) (m : Fin 32) (op : Nat) (arg : List Byte) : (sendSrq s c m op arg).thm = s.thm :=
  same_of_drop (m := 786432) (sendSrq_drop s c m op arg rfl) .thm rfl
@[simp] theorem sendSrq_prt (s : State) (c : ChainId) (m : Fin 32) (op : Nat) (arg : List Byte) : (sendSrq s c m op arg).prt = s.prt :=
  same_of_drop (m := 786432) (sendSrq_drop s c m op arg rfl) .prt rfl
@[simp] theorem sendSrq_dvt (s : State) (c : ChainId) (m : Fin 32) (op : Nat) (arg : List Byte) : (sendSrq s c m op arg).dvt = s.dvt :=
  same_of_drop (m := 786432) (sendSrq_drop s c m op arg rfl) .dvt rfl
@[simp] theorem sendSrq_lsw (s : State) (c : ChainId) (m : Fin 32) (op : Nat) (arg : List Byte) : (sendSrq s c m op arg).lsw = s.lsw :=
  same_of_drop (m := 786432) (sendSrq_drop s c m op arg rfl) .lsw rfl
@[simp] theorem sendSrq_lbus (s : State) (c : ChainId) (m : Fin 32) (op : Nat) (arg : List Byte) : (sendSrq s c m op arg).lbus = s.lbus :=
  same_of_drop (m := 786432) (sendSrq_drop s c m op arg rfl) .lbus rfl
@[simp] theorem sendSrq_pwr (s : State) (c : ChainId) (m : Fin 32) (op : Nat) (arg : List Byte) : (sendSrq s c m op arg).pwr = s.pwr :=
  same_of_drop (m := 786432) (sendSrq_drop s c m op arg rfl) .pwr rfl
@[simp] theorem sendSrq_sec (s : State) (c : ChainId) (m : Fin 32) (op : Nat) (arg : List Byte) : (sendSrq s c m op arg).sec = s.sec :=
  same_of_drop (m := 786432) (sendSrq_drop s c m op arg rfl) .sec rfl
@[simp] theorem sendSrq_mnt (s : State) (c : ChainId) (m : Fin 32) (op : Nat) (arg : List Byte) : (sendSrq s c m op arg).mnt = s.mnt :=
  same_of_drop (m := 786432) (sendSrq_drop s c m op arg rfl) .mnt rfl
@[simp] theorem sendSrq_evt (s : State) (c : ChainId) (m : Fin 32) (op : Nat) (arg : List Byte) : (sendSrq s c m op arg).evt = s.evt :=
  same_of_drop (m := 786432) (sendSrq_drop s c m op arg rfl) .evt rfl
@[simp] theorem sendSrq_req (s : State) (c : ChainId) (m : Fin 32) (op : Nat) (arg : List Byte) : (sendSrq s c m op arg).req = s.req :=
  same_of_drop (m := 786432) (sendSrq_drop s c m op arg rfl) .req rfl
@[simp] theorem sendSrq_clock (s : State) (c : ChainId) (m : Fin 32) (op : Nat) (arg : List Byte) : (sendSrq s c m op arg).clock = s.clock :=
  same_of_drop (m := 786432) (sendSrq_drop s c m op arg rfl) .clock rfl
@[simp] theorem sendSrq_free (s : State) (c : ChainId) (m : Fin 32) (op : Nat) (arg : List Byte) : (sendSrq s c m op arg).free = s.free :=
  same_of_drop (m := 786432) (sendSrq_drop s c m op arg rfl) .free rfl
@[simp] theorem sendSrq_outbox (s : State) (c : ChainId) (m : Fin 32) (op : Nat) (arg : List Byte) : (sendSrq s c m op arg).outbox = s.outbox :=
  same_of_drop (m := 786432) (sendSrq_drop s c m op arg rfl) .outbox rfl
@[simp] theorem sendSrq_pending (s : State) (c : ChainId) (m : Fin 32) (op : Nat) (arg : List Byte) : (sendSrq s c m op arg).pending = s.pending :=
  same_of_drop (m := 786432) (sendSrq_drop s c m op arg rfl) .pending rfl
@[simp] theorem blockAll_dev (s : State) (c : ChainId) : (blockAll s c).dev = s.dev :=
  same_of_drop (m := 137439936512) (blockAll_drop s c rfl) .dev rfl
@[simp] theorem blockAll_eng (s : State) (c : ChainId) : (blockAll s c).eng = s.eng :=
  same_of_drop (m := 137439936512) (blockAll_drop s c rfl) .eng rfl
@[simp] theorem blockAll_img (s : State) (c : ChainId) : (blockAll s c).img = s.img :=
  same_of_drop (m := 137439936512) (blockAll_drop s c rfl) .img rfl
@[simp] theorem blockAll_spl (s : State) (c : ChainId) : (blockAll s c).spl = s.spl :=
  same_of_drop (m := 137439936512) (blockAll_drop s c rfl) .spl rfl
@[simp] theorem blockAll_tim (s : State) (c : ChainId) : (blockAll s c).tim = s.tim :=
  same_of_drop (m := 137439936512) (blockAll_drop s c rfl) .tim rfl
@[simp] theorem blockAll_meas (s : State) (c : ChainId) : (blockAll s c).meas = s.meas :=
  same_of_drop (m := 137439936512) (blockAll_drop s c rfl) .meas rfl
@[simp] theorem blockAll_arm (s : State) (c : ChainId) : (blockAll s c).arm = s.arm :=
  same_of_drop (m := 137439936512) (blockAll_drop s c rfl) .arm rfl
@[simp] theorem blockAll_pwm (s : State) (c : ChainId) : (blockAll s c).pwm = s.pwm :=
  same_of_drop (m := 137439936512) (blockAll_drop s c rfl) .pwm rfl
@[simp] theorem blockAll_glk (s : State) (c : ChainId) : (blockAll s c).glk = s.glk :=
  same_of_drop (m := 137439936512) (blockAll_drop s c rfl) .glk rfl
@[simp] theorem blockAll_esA (s : State) (c : ChainId) : (blockAll s c).esA = s.esA :=
  same_of_drop (m := 137439936512) (blockAll_drop s c rfl) .esA rfl
@[simp] theorem blockAll_esB (s : State) (c : ChainId) : (blockAll s c).esB = s.esB :=
  same_of_drop (m := 137439936512) (blockAll_drop s c rfl) .esB rfl
@[simp] theorem blockAll_est (s : State) (c : ChainId) : (blockAll s c).est = s.est :=
  same_of_drop (m := 137439936512) (blockAll_drop s c rfl) .est rfl
@[simp] theorem blockAll_thm (s : State) (c : ChainId) : (blockAll s c).thm = s.thm :=
  same_of_drop (m := 137439936512) (blockAll_drop s c rfl) .thm rfl
@[simp] theorem blockAll_prt (s : State) (c : ChainId) : (blockAll s c).prt = s.prt :=
  same_of_drop (m := 137439936512) (blockAll_drop s c rfl) .prt rfl
@[simp] theorem blockAll_dvt (s : State) (c : ChainId) : (blockAll s c).dvt = s.dvt :=
  same_of_drop (m := 137439936512) (blockAll_drop s c rfl) .dvt rfl
@[simp] theorem blockAll_lsw (s : State) (c : ChainId) : (blockAll s c).lsw = s.lsw :=
  same_of_drop (m := 137439936512) (blockAll_drop s c rfl) .lsw rfl
@[simp] theorem blockAll_lbus (s : State) (c : ChainId) : (blockAll s c).lbus = s.lbus :=
  same_of_drop (m := 137439936512) (blockAll_drop s c rfl) .lbus rfl
@[simp] theorem blockAll_pwr (s : State) (c : ChainId) : (blockAll s c).pwr = s.pwr :=
  same_of_drop (m := 137439936512) (blockAll_drop s c rfl) .pwr rfl
@[simp] theorem blockAll_sec (s : State) (c : ChainId) : (blockAll s c).sec = s.sec :=
  same_of_drop (m := 137439936512) (blockAll_drop s c rfl) .sec rfl
@[simp] theorem blockAll_mnt (s : State) (c : ChainId) : (blockAll s c).mnt = s.mnt :=
  same_of_drop (m := 137439936512) (blockAll_drop s c rfl) .mnt rfl
@[simp] theorem blockAll_evt (s : State) (c : ChainId) : (blockAll s c).evt = s.evt :=
  same_of_drop (m := 137439936512) (blockAll_drop s c rfl) .evt rfl
@[simp] theorem blockAll_req (s : State) (c : ChainId) : (blockAll s c).req = s.req :=
  same_of_drop (m := 137439936512) (blockAll_drop s c rfl) .req rfl
@[simp] theorem blockAll_clock (s : State) (c : ChainId) : (blockAll s c).clock = s.clock :=
  same_of_drop (m := 137439936512) (blockAll_drop s c rfl) .clock rfl
@[simp] theorem blockAll_free (s : State) (c : ChainId) : (blockAll s c).free = s.free :=
  same_of_drop (m := 137439936512) (blockAll_drop s c rfl) .free rfl
@[simp] theorem blockAll_pending (s : State) (c : ChainId) : (blockAll s c).pending = s.pending :=
  same_of_drop (m := 137439936512) (blockAll_drop s c rfl) .pending rfl
@[simp] theorem writeFMod_dev (s : State) (c : ChainId) : (writeFMod s c).dev = s.dev :=
  same_of_drop (m := 983040) (writeFMod_drop s c rfl) .dev rfl
@[simp] theorem writeFMod_eng (s : State) (c : ChainId) : (writeFMod s c).eng = s.eng :=
  same_of_drop (m := 983040) (writeFMod_drop s c rfl) .eng rfl
@[simp] theorem writeFMod_img (s : State) (c : ChainId) : (writeFMod s c).img = s.img :=
  same_of_drop (m := 983040) (writeFMod_drop s c rfl) .img rfl
@[simp] theorem writeFMod_spl (s : State) (c : ChainId) : (writeFMod s c).spl = s.spl :=
  same_of_drop (m := 983040) (writeFMod_drop s c rfl) .spl rfl
@[simp] theorem writeFMod_tim (s : State) (c : ChainId) : (writeFMod s c).tim = s.tim :=
  same_of_drop (m := 983040) (writeFMod_drop s c rfl) .tim rfl
@[simp] theorem writeFMod_meas (s : State) (c : ChainId) : (writeFMod s c).meas = s.meas :=
  same_of_drop (m := 983040) (writeFMod_drop s c rfl) .meas rfl
@[simp] theorem writeFMod_arm (s : State) (c : ChainId) : (writeFMod s c).arm = s.arm :=
  same_of_drop (m := 983040) (writeFMod_drop s c rfl) .arm rfl
@[simp] theorem writeFMod_pwm (s : State) (c : ChainId) : (writeFMod s c).pwm = s.pwm :=
  same_of_drop (m := 983040) (writeFMod_drop s c rfl) .pwm rfl
@[simp] theorem writeFMod_glk (s : State) (c : ChainId) : (writeFMod s c).glk = s.glk :=
  same_of_drop (m := 983040) (writeFMod_drop s c rfl) .glk rfl
@[simp] theorem writeFMod_esA (s : State) (c : ChainId) : (writeFMod s c).esA = s.esA :=
  same_of_drop (m := 983040) (writeFMod_drop s c rfl) .esA rfl
@[simp] theorem writeFMod_esB (s : State) (c : ChainId) : (writeFMod s c).esB = s.esB :=
  same_of_drop (m := 983040) (writeFMod_drop s c rfl) .esB rfl
@[simp] theorem writeFMod_est (s : State) (c : ChainId) : (writeFMod s c).est = s.est :=
  same_of_drop (m := 983040) (writeFMod_drop s c rfl) .est rfl
@[simp] theorem writeFMod_thm (s : State) (c : ChainId) : (writeFMod s c).thm = s.thm :=
  same_of_drop (m := 983040) (writeFMod_drop s c rfl) .thm rfl
@[simp] theorem writeFMod_prt (s : State) (c : ChainId) : (writeFMod s c).prt = s.prt :=
  same_of_drop (m := 983040) (writeFMod_drop s c rfl) .prt rfl
@[simp] theorem writeFMod_dvt (s : State) (c : ChainId) : (writeFMod s c).dvt = s.dvt :=
  same_of_drop (m := 983040) (writeFMod_drop s c rfl) .dvt rfl
@[simp] theorem writeFMod_lsw (s : State) (c : ChainId) : (writeFMod s c).lsw = s.lsw :=
  same_of_drop (m := 983040) (writeFMod_drop s c rfl) .lsw rfl
@[simp] theorem writeFMod_lbus (s : State) (c : ChainId) : (writeFMod s c).lbus = s.lbus :=
  same_of_drop (m := 983040) (writeFMod_drop s c rfl) .lbus rfl
@[simp] theorem writeFMod_pwr (s : State) (c : ChainId) : (writeFMod s c).pwr = s.pwr :=
  same_of_drop (m := 983040) (writeFMod_drop s c rfl) .pwr rfl
@[simp] theorem writeFMod_sec (s : State) (c : ChainId) : (writeFMod s c).sec = s.sec :=
  same_of_drop (m := 983040) (writeFMod_drop s c rfl) .sec rfl
@[simp] theorem writeFMod_mnt (s : State) (c : ChainId) : (writeFMod s c).mnt = s.mnt :=
  same_of_drop (m := 983040) (writeFMod_drop s c rfl) .mnt rfl
@[simp] theorem writeFMod_evt (s : State) (c : ChainId) : (writeFMod s c).evt = s.evt :=
  same_of_drop (m := 983040) (writeFMod_drop s c rfl) .evt rfl
@[simp] theorem writeFMod_req (s : State) (c : ChainId) : (writeFMod s c).req = s.req :=
  same_of_drop (m := 983040) (writeFMod_drop s c rfl) .req rfl
@[simp] theorem writeFMod_clock (s : State) (c : ChainId) : (writeFMod s c).clock = s.clock :=
  same_of_drop (m := 983040) (writeFMod_drop s c rfl) .clock rfl
@[simp] theorem writeFMod_free (s : State) (c : ChainId) : (writeFMod s c).free = s.free :=
  same_of_drop (m := 983040) (writeFMod_drop s c rfl) .free rfl
@[simp] theorem writeFMod_outbox (s : State) (c : ChainId) : (writeFMod s c).outbox = s.outbox :=
  same_of_drop (m := 983040) (writeFMod_drop s c rfl) .outbox rfl
@[simp] theorem writeFMod_pending (s : State) (c : ChainId) : (writeFMod s c).pending = s.pending :=
  same_of_drop (m := 983040) (writeFMod_drop s c rfl) .pending rfl
@[simp] theorem endLearnCycle_dev (s : State) (c : ChainId) (completed : Bool) : (endLearnCycle s c completed).dev = s.dev :=
  same_of_drop (m := 8590131200) (endLearnCycle_drop s c completed rfl) .dev rfl
@[simp] theorem endLearnCycle_eng (s : State) (c : ChainId) (completed : Bool) : (endLearnCycle s c completed).eng = s.eng :=
  same_of_drop (m := 8590131200) (endLearnCycle_drop s c completed rfl) .eng rfl
@[simp] theorem endLearnCycle_img (s : State) (c : ChainId) (completed : Bool) : (endLearnCycle s c completed).img = s.img :=
  same_of_drop (m := 8590131200) (endLearnCycle_drop s c completed rfl) .img rfl
@[simp] theorem endLearnCycle_spl (s : State) (c : ChainId) (completed : Bool) : (endLearnCycle s c completed).spl = s.spl :=
  same_of_drop (m := 8590131200) (endLearnCycle_drop s c completed rfl) .spl rfl
@[simp] theorem endLearnCycle_tim (s : State) (c : ChainId) (completed : Bool) : (endLearnCycle s c completed).tim = s.tim :=
  same_of_drop (m := 8590131200) (endLearnCycle_drop s c completed rfl) .tim rfl
@[simp] theorem endLearnCycle_meas (s : State) (c : ChainId) (completed : Bool) : (endLearnCycle s c completed).meas = s.meas :=
  same_of_drop (m := 8590131200) (endLearnCycle_drop s c completed rfl) .meas rfl
@[simp] theorem endLearnCycle_arm (s : State) (c : ChainId) (completed : Bool) : (endLearnCycle s c completed).arm = s.arm :=
  same_of_drop (m := 8590131200) (endLearnCycle_drop s c completed rfl) .arm rfl
@[simp] theorem endLearnCycle_pwm (s : State) (c : ChainId) (completed : Bool) : (endLearnCycle s c completed).pwm = s.pwm :=
  same_of_drop (m := 8590131200) (endLearnCycle_drop s c completed rfl) .pwm rfl
@[simp] theorem endLearnCycle_glk (s : State) (c : ChainId) (completed : Bool) : (endLearnCycle s c completed).glk = s.glk :=
  same_of_drop (m := 8590131200) (endLearnCycle_drop s c completed rfl) .glk rfl
@[simp] theorem endLearnCycle_snA (s : State) (c : ChainId) (completed : Bool) : (endLearnCycle s c completed).snA = s.snA :=
  same_of_drop (m := 8590131200) (endLearnCycle_drop s c completed rfl) .snA rfl
@[simp] theorem endLearnCycle_snB (s : State) (c : ChainId) (completed : Bool) : (endLearnCycle s c completed).snB = s.snB :=
  same_of_drop (m := 8590131200) (endLearnCycle_drop s c completed rfl) .snB rfl
@[simp] theorem endLearnCycle_esA (s : State) (c : ChainId) (completed : Bool) : (endLearnCycle s c completed).esA = s.esA :=
  same_of_drop (m := 8590131200) (endLearnCycle_drop s c completed rfl) .esA rfl
@[simp] theorem endLearnCycle_esB (s : State) (c : ChainId) (completed : Bool) : (endLearnCycle s c completed).esB = s.esB :=
  same_of_drop (m := 8590131200) (endLearnCycle_drop s c completed rfl) .esB rfl
@[simp] theorem endLearnCycle_est (s : State) (c : ChainId) (completed : Bool) : (endLearnCycle s c completed).est = s.est :=
  same_of_drop (m := 8590131200) (endLearnCycle_drop s c completed rfl) .est rfl
@[simp] theorem endLearnCycle_thm (s : State) (c : ChainId) (completed : Bool) : (endLearnCycle s c completed).thm = s.thm :=
  same_of_drop (m := 8590131200) (endLearnCycle_drop s c completed rfl) .thm rfl
@[simp] theorem endLearnCycle_prt (s : State) (c : ChainId) (completed : Bool) : (endLearnCycle s c completed).prt = s.prt :=
  same_of_drop (m := 8590131200) (endLearnCycle_drop s c completed rfl) .prt rfl
@[simp] theorem endLearnCycle_dvt (s : State) (c : ChainId) (completed : Bool) : (endLearnCycle s c completed).dvt = s.dvt :=
  same_of_drop (m := 8590131200) (endLearnCycle_drop s c completed rfl) .dvt rfl
@[simp] theorem endLearnCycle_lsw (s : State) (c : ChainId) (completed : Bool) : (endLearnCycle s c completed).lsw = s.lsw :=
  same_of_drop (m := 8590131200) (endLearnCycle_drop s c completed rfl) .lsw rfl
@[simp] theorem endLearnCycle_lbus (s : State) (c : ChainId) (completed : Bool) : (endLearnCycle s c completed).lbus = s.lbus :=
  same_of_drop (m := 8590131200) (endLearnCycle_drop s c completed rfl) .lbus rfl
@[simp] theorem endLearnCycle_pwr (s : State) (c : ChainId) (completed : Bool) : (endLearnCycle s c completed).pwr = s.pwr :=
  same_of_drop (m := 8590131200) (endLearnCycle_drop s c completed rfl) .pwr rfl
@[simp] theorem endLearnCycle_sec (s : State) (c : ChainId) (completed : Bool) : (endLearnCycle s c completed).sec = s.sec :=
  same_of_drop (m := 8590131200) (endLearnCycle_drop s c completed rfl) .sec rfl
@[simp] theorem endLearnCycle_mnt (s : State) (c : ChainId) (completed : Bool) : (endLearnCycle s c completed).mnt = s.mnt :=
  same_of_drop (m := 8590131200) (endLearnCycle_drop s c completed rfl) .mnt rfl
@[simp] theorem endLearnCycle_req (s : State) (c : ChainId) (completed : Bool) : (endLearnCycle s c completed).req = s.req :=
  same_of_drop (m := 8590131200) (endLearnCycle_drop s c completed rfl) .req rfl
@[simp] theorem endLearnCycle_clock (s : State) (c : ChainId) (completed : Bool) : (endLearnCycle s c completed).clock = s.clock :=
  same_of_drop (m := 8590131200) (endLearnCycle_drop s c completed rfl) .clock rfl
@[simp] theorem endLearnCycle_free (s : State) (c : ChainId) (completed : Bool) : (endLearnCycle s c completed).free = s.free :=
  same_of_drop (m := 8590131200) (endLearnCycle_drop s c completed rfl) .free rfl
@[simp] theorem endLearnCycle_outbox (s : State) (c : ChainId) (completed : Bool) : (endLearnCycle s c completed).outbox = s.outbox :=
  same_of_drop (m := 8590131200) (endLearnCycle_drop s c completed rfl) .outbox rfl
@[simp] theorem endLearnCycle_pending (s : State) (c : ChainId) (completed : Bool) : (endLearnCycle s c completed).pending = s.pending :=
  same_of_drop (m := 8590131200) (endLearnCycle_drop s c completed rfl) .pending rfl
@[simp] theorem endLearnCycle_evt_nvm (s : State) (c : ChainId) (completed : Bool) : (endLearnCycle s c completed).evt.nvm = s.evt.nvm := by
  have h := same_of_drop (m := 8590131200) (endLearnCycle_drop s c completed rfl) .log rfl
  simp only [Block.same] at h; simp only [h]
@[simp] theorem endLearnCycle_evt_nvmPos (s : State) (c : ChainId) (completed : Bool) : (endLearnCycle s c completed).evt.nvmPos = s.evt.nvmPos := by
  have h := same_of_drop (m := 8590131200) (endLearnCycle_drop s c completed rfl) .log rfl
  simp only [Block.same] at h; simp only [h]
@[simp] theorem endLearnCycle_evt_wrapped (s : State) (c : ChainId) (completed : Bool) : (endLearnCycle s c completed).evt.wrapped = s.evt.wrapped := by
  have h := same_of_drop (m := 8590131200) (endLearnCycle_drop s c completed rfl) .log rfl
  simp only [Block.same] at h; simp only [h]
@[simp] theorem endAct_dev (s : State) (cause : Nat) (slot : Fin 4) : (endAct s cause slot).dev = s.dev :=
  same_of_drop (m := 12960628736) (endAct_drop s cause slot rfl) .dev rfl
@[simp] theorem endAct_eng (s : State) (cause : Nat) (slot : Fin 4) : (endAct s cause slot).eng = s.eng :=
  same_of_drop (m := 12960628736) (endAct_drop s cause slot rfl) .eng rfl
@[simp] theorem endAct_img (s : State) (cause : Nat) (slot : Fin 4) : (endAct s cause slot).img = s.img :=
  same_of_drop (m := 12960628736) (endAct_drop s cause slot rfl) .img rfl
@[simp] theorem endAct_spl (s : State) (cause : Nat) (slot : Fin 4) : (endAct s cause slot).spl = s.spl :=
  same_of_drop (m := 12960628736) (endAct_drop s cause slot rfl) .spl rfl
@[simp] theorem endAct_tim (s : State) (cause : Nat) (slot : Fin 4) : (endAct s cause slot).tim = s.tim :=
  same_of_drop (m := 12960628736) (endAct_drop s cause slot rfl) .tim rfl
@[simp] theorem endAct_meas (s : State) (cause : Nat) (slot : Fin 4) : (endAct s cause slot).meas = s.meas :=
  same_of_drop (m := 12960628736) (endAct_drop s cause slot rfl) .meas rfl
@[simp] theorem endAct_arm (s : State) (cause : Nat) (slot : Fin 4) : (endAct s cause slot).arm = s.arm :=
  same_of_drop (m := 12960628736) (endAct_drop s cause slot rfl) .arm rfl
@[simp] theorem endAct_pwm (s : State) (cause : Nat) (slot : Fin 4) : (endAct s cause slot).pwm = s.pwm :=
  same_of_drop (m := 12960628736) (endAct_drop s cause slot rfl) .pwm rfl
@[simp] theorem endAct_snA (s : State) (cause : Nat) (slot : Fin 4) : (endAct s cause slot).snA = s.snA :=
  same_of_drop (m := 12960628736) (endAct_drop s cause slot rfl) .snA rfl
@[simp] theorem endAct_snB (s : State) (cause : Nat) (slot : Fin 4) : (endAct s cause slot).snB = s.snB :=
  same_of_drop (m := 12960628736) (endAct_drop s cause slot rfl) .snB rfl
@[simp] theorem endAct_esA (s : State) (cause : Nat) (slot : Fin 4) : (endAct s cause slot).esA = s.esA :=
  same_of_drop (m := 12960628736) (endAct_drop s cause slot rfl) .esA rfl
@[simp] theorem endAct_esB (s : State) (cause : Nat) (slot : Fin 4) : (endAct s cause slot).esB = s.esB :=
  same_of_drop (m := 12960628736) (endAct_drop s cause slot rfl) .esB rfl
@[simp] theorem endAct_est (s : State) (cause : Nat) (slot : Fin 4) : (endAct s cause slot).est = s.est :=
  same_of_drop (m := 12960628736) (endAct_drop s cause slot rfl) .est rfl
@[simp] theorem endAct_prt (s : State) (cause : Nat) (slot : Fin 4) : (endAct s cause slot).prt = s.prt :=
  same_of_drop (m := 12960628736) (endAct_drop s cause slot rfl) .prt rfl
@[simp] theorem endAct_dvt (s : State) (cause : Nat) (slot : Fin 4) : (endAct s cause slot).dvt = s.dvt :=
  same_of_drop (m := 12960628736) (endAct_drop s cause slot rfl) .dvt rfl
@[simp] theorem endAct_lbus (s : State) (cause : Nat) (slot : Fin 4) : (endAct s cause slot).lbus = s.lbus :=
  same_of_drop (m := 12960628736) (endAct_drop s cause slot rfl) .lbus rfl
@[simp] theorem endAct_pwr (s : State) (cause : Nat) (slot : Fin 4) : (endAct s cause slot).pwr = s.pwr :=
  same_of_drop (m := 12960628736) (endAct_drop s cause slot rfl) .pwr rfl
@[simp] theorem endAct_sec (s : State) (cause : Nat) (slot : Fin 4) : (endAct s cause slot).sec = s.sec :=
  same_of_drop (m := 12960628736) (endAct_drop s cause slot rfl) .sec rfl
@[simp] theorem endAct_req (s : State) (cause : Nat) (slot : Fin 4) : (endAct s cause slot).req = s.req :=
  same_of_drop (m := 12960628736) (endAct_drop s cause slot rfl) .req rfl
@[simp] theorem endAct_clock (s : State) (cause : Nat) (slot : Fin 4) : (endAct s cause slot).clock = s.clock :=
  same_of_drop (m := 12960628736) (endAct_drop s cause slot rfl) .clock rfl
@[simp] theorem endAct_free (s : State) (cause : Nat) (slot : Fin 4) : (endAct s cause slot).free = s.free :=
  same_of_drop (m := 12960628736) (endAct_drop s cause slot rfl) .free rfl
@[simp] theorem endAct_outbox (s : State) (cause : Nat) (slot : Fin 4) : (endAct s cause slot).outbox = s.outbox :=
  same_of_drop (m := 12960628736) (endAct_drop s cause slot rfl) .outbox rfl
@[simp] theorem endAct_pending (s : State) (cause : Nat) (slot : Fin 4) : (endAct s cause slot).pending = s.pending :=
  same_of_drop (m := 12960628736) (endAct_drop s cause slot rfl) .pending rfl
@[simp] theorem endAct_glk_legA (s : State) (cause : Nat) (slot : Fin 4) : (endAct s cause slot).glk.legA = s.glk.legA := by
  have h := same_of_drop (m := 12960628736) (endAct_drop s cause slot rfl) .legs rfl
  simp only [Block.same] at h; simp only [h]
@[simp] theorem endAct_glk_legB (s : State) (cause : Nat) (slot : Fin 4) : (endAct s cause slot).glk.legB = s.glk.legB := by
  have h := same_of_drop (m := 12960628736) (endAct_drop s cause slot rfl) .legs rfl
  simp only [Block.same] at h; simp only [h]
@[simp] theorem endAct_evt_nvm (s : State) (cause : Nat) (slot : Fin 4) : (endAct s cause slot).evt.nvm = s.evt.nvm := by
  have h := same_of_drop (m := 12960628736) (endAct_drop s cause slot rfl) .log rfl
  simp only [Block.same] at h; simp only [h]
@[simp] theorem endAct_evt_nvmPos (s : State) (cause : Nat) (slot : Fin 4) : (endAct s cause slot).evt.nvmPos = s.evt.nvmPos := by
  have h := same_of_drop (m := 12960628736) (endAct_drop s cause slot rfl) .log rfl
  simp only [Block.same] at h; simp only [h]
@[simp] theorem endAct_evt_wrapped (s : State) (cause : Nat) (slot : Fin 4) : (endAct s cause slot).evt.wrapped = s.evt.wrapped := by
  have h := same_of_drop (m := 12960628736) (endAct_drop s cause slot rfl) .log rfl
  simp only [Block.same] at h; simp only [h]
@[simp] theorem endAct_glk_fireHold (s : State) (cause : Nat) (slot : Fin 4) : (endAct s cause slot).glk.fireHold = s.glk.fireHold := by
  have h := same_of_drop (m := 12960628736) (endAct_drop s cause slot rfl) .switch rfl
  simp only [Block.same] at h; simp only [h]
@[simp] theorem endAct_glk_fireAll (s : State) (cause : Nat) (slot : Fin 4) : (endAct s cause slot).glk.fireAll = s.glk.fireAll := by
  have h := same_of_drop (m := 12960628736) (endAct_drop s cause slot rfl) .switch rfl
  simp only [Block.same] at h; simp only [h]
@[simp] theorem endAct_glk_closeAsserted (s : State) (cause : Nat) (slot : Fin 4) : (endAct s cause slot).glk.closeAsserted = s.glk.closeAsserted := by
  have h := same_of_drop (m := 12960628736) (endAct_drop s cause slot rfl) .switch rfl
  simp only [Block.same] at h; simp only [h]
@[simp] theorem endAct_glk_closeDue (s : State) (cause : Nat) (slot : Fin 4) : (endAct s cause slot).glk.closeDue = s.glk.closeDue := by
  have h := same_of_drop (m := 12960628736) (endAct_drop s cause slot rfl) .switch rfl
  simp only [Block.same] at h; simp only [h]
@[simp] theorem endAct_glk_statClosed (s : State) (cause : Nat) (slot : Fin 4) : (endAct s cause slot).glk.statClosed = s.glk.statClosed := by
  have h := same_of_drop (m := 12960628736) (endAct_drop s cause slot rfl) .switch rfl
  simp only [Block.same] at h; simp only [h]
@[simp] theorem endAct_thm_sdHotA (s : State) (cause : Nat) (slot : Fin 4) : (endAct s cause slot).thm.sdHotA = s.thm.sdHotA := by
  have h := same_of_drop (m := 12960628736) (endAct_drop s cause slot rfl) .shutdown rfl
  simp only [Block.same] at h; simp only [h]
@[simp] theorem endAct_thm_sdHotB (s : State) (cause : Nat) (slot : Fin 4) : (endAct s cause slot).thm.sdHotB = s.thm.sdHotB := by
  have h := same_of_drop (m := 12960628736) (endAct_drop s cause slot rfl) .shutdown rfl
  simp only [Block.same] at h; simp only [h]
@[simp] theorem endAct_thm_sdColdA (s : State) (cause : Nat) (slot : Fin 4) : (endAct s cause slot).thm.sdColdA = s.thm.sdColdA := by
  have h := same_of_drop (m := 12960628736) (endAct_drop s cause slot rfl) .shutdown rfl
  simp only [Block.same] at h; simp only [h]
@[simp] theorem endAct_thm_sdColdB (s : State) (cause : Nat) (slot : Fin 4) : (endAct s cause slot).thm.sdColdB = s.thm.sdColdB := by
  have h := same_of_drop (m := 12960628736) (endAct_drop s cause slot rfl) .shutdown rfl
  simp only [Block.same] at h; simp only [h]
@[simp] theorem endLearn_dev (s : State) (c : ChainId) (cause : Nat) : (endLearn s c cause).dev = s.dev :=
  same_of_drop (m := 12960628736) (endLearn_drop s c cause rfl) .dev rfl
@[simp] theorem endLearn_eng (s : State) (c : ChainId) (cause : Nat) : (endLearn s c cause).eng = s.eng :=
  same_of_drop (m := 12960628736) (endLearn_drop s c cause rfl) .eng rfl
@[simp] theorem endLearn_img (s : State) (c : ChainId) (cause : Nat) : (endLearn s c cause).img = s.img :=
  same_of_drop (m := 12960628736) (endLearn_drop s c cause rfl) .img rfl
@[simp] theorem endLearn_spl (s : State) (c : ChainId) (cause : Nat) : (endLearn s c cause).spl = s.spl :=
  same_of_drop (m := 12960628736) (endLearn_drop s c cause rfl) .spl rfl
@[simp] theorem endLearn_tim (s : State) (c : ChainId) (cause : Nat) : (endLearn s c cause).tim = s.tim :=
  same_of_drop (m := 12960628736) (endLearn_drop s c cause rfl) .tim rfl
@[simp] theorem endLearn_meas (s : State) (c : ChainId) (cause : Nat) : (endLearn s c cause).meas = s.meas :=
  same_of_drop (m := 12960628736) (endLearn_drop s c cause rfl) .meas rfl
@[simp] theorem endLearn_arm (s : State) (c : ChainId) (cause : Nat) : (endLearn s c cause).arm = s.arm :=
  same_of_drop (m := 12960628736) (endLearn_drop s c cause rfl) .arm rfl
@[simp] theorem endLearn_pwm (s : State) (c : ChainId) (cause : Nat) : (endLearn s c cause).pwm = s.pwm :=
  same_of_drop (m := 12960628736) (endLearn_drop s c cause rfl) .pwm rfl
@[simp] theorem endLearn_snA (s : State) (c : ChainId) (cause : Nat) : (endLearn s c cause).snA = s.snA :=
  same_of_drop (m := 12960628736) (endLearn_drop s c cause rfl) .snA rfl
@[simp] theorem endLearn_snB (s : State) (c : ChainId) (cause : Nat) : (endLearn s c cause).snB = s.snB :=
  same_of_drop (m := 12960628736) (endLearn_drop s c cause rfl) .snB rfl
@[simp] theorem endLearn_esA (s : State) (c : ChainId) (cause : Nat) : (endLearn s c cause).esA = s.esA :=
  same_of_drop (m := 12960628736) (endLearn_drop s c cause rfl) .esA rfl
@[simp] theorem endLearn_esB (s : State) (c : ChainId) (cause : Nat) : (endLearn s c cause).esB = s.esB :=
  same_of_drop (m := 12960628736) (endLearn_drop s c cause rfl) .esB rfl
@[simp] theorem endLearn_est (s : State) (c : ChainId) (cause : Nat) : (endLearn s c cause).est = s.est :=
  same_of_drop (m := 12960628736) (endLearn_drop s c cause rfl) .est rfl
@[simp] theorem endLearn_prt (s : State) (c : ChainId) (cause : Nat) : (endLearn s c cause).prt = s.prt :=
  same_of_drop (m := 12960628736) (endLearn_drop s c cause rfl) .prt rfl
@[simp] theorem endLearn_dvt (s : State) (c : ChainId) (cause : Nat) : (endLearn s c cause).dvt = s.dvt :=
  same_of_drop (m := 12960628736) (endLearn_drop s c cause rfl) .dvt rfl
@[simp] theorem endLearn_lbus (s : State) (c : ChainId) (cause : Nat) : (endLearn s c cause).lbus = s.lbus :=
  same_of_drop (m := 12960628736) (endLearn_drop s c cause rfl) .lbus rfl
@[simp] theorem endLearn_pwr (s : State) (c : ChainId) (cause : Nat) : (endLearn s c cause).pwr = s.pwr :=
  same_of_drop (m := 12960628736) (endLearn_drop s c cause rfl) .pwr rfl
@[simp] theorem endLearn_sec (s : State) (c : ChainId) (cause : Nat) : (endLearn s c cause).sec = s.sec :=
  same_of_drop (m := 12960628736) (endLearn_drop s c cause rfl) .sec rfl
@[simp] theorem endLearn_req (s : State) (c : ChainId) (cause : Nat) : (endLearn s c cause).req = s.req :=
  same_of_drop (m := 12960628736) (endLearn_drop s c cause rfl) .req rfl
@[simp] theorem endLearn_clock (s : State) (c : ChainId) (cause : Nat) : (endLearn s c cause).clock = s.clock :=
  same_of_drop (m := 12960628736) (endLearn_drop s c cause rfl) .clock rfl
@[simp] theorem endLearn_free (s : State) (c : ChainId) (cause : Nat) : (endLearn s c cause).free = s.free :=
  same_of_drop (m := 12960628736) (endLearn_drop s c cause rfl) .free rfl
@[simp] theorem endLearn_outbox (s : State) (c : ChainId) (cause : Nat) : (endLearn s c cause).outbox = s.outbox :=
  same_of_drop (m := 12960628736) (endLearn_drop s c cause rfl) .outbox rfl
@[simp] theorem endLearn_pending (s : State) (c : ChainId) (cause : Nat) : (endLearn s c cause).pending = s.pending :=
  same_of_drop (m := 12960628736) (endLearn_drop s c cause rfl) .pending rfl
@[simp] theorem endLearn_glk_legA (s : State) (c : ChainId) (cause : Nat) : (endLearn s c cause).glk.legA = s.glk.legA := by
  have h := same_of_drop (m := 12960628736) (endLearn_drop s c cause rfl) .legs rfl
  simp only [Block.same] at h; simp only [h]
@[simp] theorem endLearn_glk_legB (s : State) (c : ChainId) (cause : Nat) : (endLearn s c cause).glk.legB = s.glk.legB := by
  have h := same_of_drop (m := 12960628736) (endLearn_drop s c cause rfl) .legs rfl
  simp only [Block.same] at h; simp only [h]
@[simp] theorem endLearn_evt_nvm (s : State) (c : ChainId) (cause : Nat) : (endLearn s c cause).evt.nvm = s.evt.nvm := by
  have h := same_of_drop (m := 12960628736) (endLearn_drop s c cause rfl) .log rfl
  simp only [Block.same] at h; simp only [h]
@[simp] theorem endLearn_evt_nvmPos (s : State) (c : ChainId) (cause : Nat) : (endLearn s c cause).evt.nvmPos = s.evt.nvmPos := by
  have h := same_of_drop (m := 12960628736) (endLearn_drop s c cause rfl) .log rfl
  simp only [Block.same] at h; simp only [h]
@[simp] theorem endLearn_evt_wrapped (s : State) (c : ChainId) (cause : Nat) : (endLearn s c cause).evt.wrapped = s.evt.wrapped := by
  have h := same_of_drop (m := 12960628736) (endLearn_drop s c cause rfl) .log rfl
  simp only [Block.same] at h; simp only [h]
@[simp] theorem endLearn_glk_fireHold (s : State) (c : ChainId) (cause : Nat) : (endLearn s c cause).glk.fireHold = s.glk.fireHold := by
  have h := same_of_drop (m := 12960628736) (endLearn_drop s c cause rfl) .switch rfl
  simp only [Block.same] at h; simp only [h]
@[simp] theorem endLearn_glk_fireAll (s : State) (c : ChainId) (cause : Nat) : (endLearn s c cause).glk.fireAll = s.glk.fireAll := by
  have h := same_of_drop (m := 12960628736) (endLearn_drop s c cause rfl) .switch rfl
  simp only [Block.same] at h; simp only [h]
@[simp] theorem endLearn_glk_closeAsserted (s : State) (c : ChainId) (cause : Nat) : (endLearn s c cause).glk.closeAsserted = s.glk.closeAsserted := by
  have h := same_of_drop (m := 12960628736) (endLearn_drop s c cause rfl) .switch rfl
  simp only [Block.same] at h; simp only [h]
@[simp] theorem endLearn_glk_closeDue (s : State) (c : ChainId) (cause : Nat) : (endLearn s c cause).glk.closeDue = s.glk.closeDue := by
  have h := same_of_drop (m := 12960628736) (endLearn_drop s c cause rfl) .switch rfl
  simp only [Block.same] at h; simp only [h]
@[simp] theorem endLearn_glk_statClosed (s : State) (c : ChainId) (cause : Nat) : (endLearn s c cause).glk.statClosed = s.glk.statClosed := by
  have h := same_of_drop (m := 12960628736) (endLearn_drop s c cause rfl) .switch rfl
  simp only [Block.same] at h; simp only [h]
@[simp] theorem endLearn_thm_sdHotA (s : State) (c : ChainId) (cause : Nat) : (endLearn s c cause).thm.sdHotA = s.thm.sdHotA := by
  have h := same_of_drop (m := 12960628736) (endLearn_drop s c cause rfl) .shutdown rfl
  simp only [Block.same] at h; simp only [h]
@[simp] theorem endLearn_thm_sdHotB (s : State) (c : ChainId) (cause : Nat) : (endLearn s c cause).thm.sdHotB = s.thm.sdHotB := by
  have h := same_of_drop (m := 12960628736) (endLearn_drop s c cause rfl) .shutdown rfl
  simp only [Block.same] at h; simp only [h]
@[simp] theorem endLearn_thm_sdColdA (s : State) (c : ChainId) (cause : Nat) : (endLearn s c cause).thm.sdColdA = s.thm.sdColdA := by
  have h := same_of_drop (m := 12960628736) (endLearn_drop s c cause rfl) .shutdown rfl
  simp only [Block.same] at h; simp only [h]
@[simp] theorem endLearn_thm_sdColdB (s : State) (c : ChainId) (cause : Nat) : (endLearn s c cause).thm.sdColdB = s.thm.sdColdB := by
  have h := same_of_drop (m := 12960628736) (endLearn_drop s c cause rfl) .shutdown rfl
  simp only [Block.same] at h; simp only [h]
@[simp] theorem watchActs_dev (s : State) : (watchActs s).dev = s.dev :=
  same_of_drop (m := 12960628736) (watchActs_drop s rfl) .dev rfl
@[simp] theorem watchActs_eng (s : State) : (watchActs s).eng = s.eng :=
  same_of_drop (m := 12960628736) (watchActs_drop s rfl) .eng rfl
@[simp] theorem watchActs_img (s : State) : (watchActs s).img = s.img :=
  same_of_drop (m := 12960628736) (watchActs_drop s rfl) .img rfl
@[simp] theorem watchActs_spl (s : State) : (watchActs s).spl = s.spl :=
  same_of_drop (m := 12960628736) (watchActs_drop s rfl) .spl rfl
@[simp] theorem watchActs_tim (s : State) : (watchActs s).tim = s.tim :=
  same_of_drop (m := 12960628736) (watchActs_drop s rfl) .tim rfl
@[simp] theorem watchActs_meas (s : State) : (watchActs s).meas = s.meas :=
  same_of_drop (m := 12960628736) (watchActs_drop s rfl) .meas rfl
@[simp] theorem watchActs_arm (s : State) : (watchActs s).arm = s.arm :=
  same_of_drop (m := 12960628736) (watchActs_drop s rfl) .arm rfl
@[simp] theorem watchActs_pwm (s : State) : (watchActs s).pwm = s.pwm :=
  same_of_drop (m := 12960628736) (watchActs_drop s rfl) .pwm rfl
@[simp] theorem watchActs_snA (s : State) : (watchActs s).snA = s.snA :=
  same_of_drop (m := 12960628736) (watchActs_drop s rfl) .snA rfl
@[simp] theorem watchActs_snB (s : State) : (watchActs s).snB = s.snB :=
  same_of_drop (m := 12960628736) (watchActs_drop s rfl) .snB rfl
@[simp] theorem watchActs_esA (s : State) : (watchActs s).esA = s.esA :=
  same_of_drop (m := 12960628736) (watchActs_drop s rfl) .esA rfl
@[simp] theorem watchActs_esB (s : State) : (watchActs s).esB = s.esB :=
  same_of_drop (m := 12960628736) (watchActs_drop s rfl) .esB rfl
@[simp] theorem watchActs_est (s : State) : (watchActs s).est = s.est :=
  same_of_drop (m := 12960628736) (watchActs_drop s rfl) .est rfl
@[simp] theorem watchActs_prt (s : State) : (watchActs s).prt = s.prt :=
  same_of_drop (m := 12960628736) (watchActs_drop s rfl) .prt rfl
@[simp] theorem watchActs_dvt (s : State) : (watchActs s).dvt = s.dvt :=
  same_of_drop (m := 12960628736) (watchActs_drop s rfl) .dvt rfl
@[simp] theorem watchActs_lbus (s : State) : (watchActs s).lbus = s.lbus :=
  same_of_drop (m := 12960628736) (watchActs_drop s rfl) .lbus rfl
@[simp] theorem watchActs_pwr (s : State) : (watchActs s).pwr = s.pwr :=
  same_of_drop (m := 12960628736) (watchActs_drop s rfl) .pwr rfl
@[simp] theorem watchActs_sec (s : State) : (watchActs s).sec = s.sec :=
  same_of_drop (m := 12960628736) (watchActs_drop s rfl) .sec rfl
@[simp] theorem watchActs_req (s : State) : (watchActs s).req = s.req :=
  same_of_drop (m := 12960628736) (watchActs_drop s rfl) .req rfl
@[simp] theorem watchActs_clock (s : State) : (watchActs s).clock = s.clock :=
  same_of_drop (m := 12960628736) (watchActs_drop s rfl) .clock rfl
@[simp] theorem watchActs_free (s : State) : (watchActs s).free = s.free :=
  same_of_drop (m := 12960628736) (watchActs_drop s rfl) .free rfl
@[simp] theorem watchActs_outbox (s : State) : (watchActs s).outbox = s.outbox :=
  same_of_drop (m := 12960628736) (watchActs_drop s rfl) .outbox rfl
@[simp] theorem watchActs_pending (s : State) : (watchActs s).pending = s.pending :=
  same_of_drop (m := 12960628736) (watchActs_drop s rfl) .pending rfl
@[simp] theorem watchActs_glk_legA (s : State) : (watchActs s).glk.legA = s.glk.legA := by
  have h := same_of_drop (m := 12960628736) (watchActs_drop s rfl) .legs rfl
  simp only [Block.same] at h; simp only [h]
@[simp] theorem watchActs_glk_legB (s : State) : (watchActs s).glk.legB = s.glk.legB := by
  have h := same_of_drop (m := 12960628736) (watchActs_drop s rfl) .legs rfl
  simp only [Block.same] at h; simp only [h]
@[simp] theorem watchActs_evt_nvm (s : State) : (watchActs s).evt.nvm = s.evt.nvm := by
  have h := same_of_drop (m := 12960628736) (watchActs_drop s rfl) .log rfl
  simp only [Block.same] at h; simp only [h]
@[simp] theorem watchActs_evt_nvmPos (s : State) : (watchActs s).evt.nvmPos = s.evt.nvmPos := by
  have h := same_of_drop (m := 12960628736) (watchActs_drop s rfl) .log rfl
  simp only [Block.same] at h; simp only [h]
@[simp] theorem watchActs_evt_wrapped (s : State) : (watchActs s).evt.wrapped = s.evt.wrapped := by
  have h := same_of_drop (m := 12960628736) (watchActs_drop s rfl) .log rfl
  simp only [Block.same] at h; simp only [h]
@[simp] theorem watchActs_glk_fireHold (s : State) : (watchActs s).glk.fireHold = s.glk.fireHold := by
  have h := same_of_drop (m := 12960628736) (watchActs_drop s rfl) .switch rfl
  simp only [Block.same] at h; simp only [h]
@[simp] theorem watchActs_glk_fireAll (s : State) : (watchActs s).glk.fireAll = s.glk.fireAll := by
  have h := same_of_drop (m := 12960628736) (watchActs_drop s rfl) .switch rfl
  simp only [Block.same] at h; simp only [h]
@[simp] theorem watchActs_glk_closeAsserted (s : State) : (watchActs s).glk.closeAsserted = s.glk.closeAsserted := by
  have h := same_of_drop (m := 12960628736) (watchActs_drop s rfl) .switch rfl
  simp only [Block.same] at h; simp only [h]
@[simp] theorem watchActs_glk_closeDue (s : State) : (watchActs s).glk.closeDue = s.glk.closeDue := by
  have h := same_of_drop (m := 12960628736) (watchActs_drop s rfl) .switch rfl
  simp only [Block.same] at h; simp only [h]
@[simp] theorem watchActs_glk_statClosed (s : State) : (watchActs s).glk.statClosed = s.glk.statClosed := by
  have h := same_of_drop (m := 12960628736) (watchActs_drop s rfl) .switch rfl
  simp only [Block.same] at h; simp only [h]
@[simp] theorem watchActs_thm_sdHotA (s : State) : (watchActs s).thm.sdHotA = s.thm.sdHotA := by
  have h := same_of_drop (m := 12960628736) (watchActs_drop s rfl) .shutdown rfl
  simp only [Block.same] at h; simp only [h]
@[simp] theorem watchActs_thm_sdHotB (s : State) : (watchActs s).thm.sdHotB = s.thm.sdHotB := by
  have h := same_of_drop (m := 12960628736) (watchActs_drop s rfl) .shutdown rfl
  simp only [Block.same] at h; simp only [h]
@[simp] theorem watchActs_thm_sdColdA (s : State) : (watchActs s).thm.sdColdA = s.thm.sdColdA := by
  have h := same_of_drop (m := 12960628736) (watchActs_drop s rfl) .shutdown rfl
  simp only [Block.same] at h; simp only [h]
@[simp] theorem watchActs_thm_sdColdB (s : State) : (watchActs s).thm.sdColdB = s.thm.sdColdB := by
  have h := same_of_drop (m := 12960628736) (watchActs_drop s rfl) .shutdown rfl
  simp only [Block.same] at h; simp only [h]
@[simp] theorem enterBlock_dev (s : State) (c : ChainId) : (enterBlock s c).dev = s.dev :=
  same_of_drop (m := 12961415168) (enterBlock_drop s c rfl) .dev rfl
@[simp] theorem enterBlock_eng (s : State) (c : ChainId) : (enterBlock s c).eng = s.eng :=
  same_of_drop (m := 12961415168) (enterBlock_drop s c rfl) .eng rfl
@[simp] theorem enterBlock_img (s : State) (c : ChainId) : (enterBlock s c).img = s.img :=
  same_of_drop (m := 12961415168) (enterBlock_drop s c rfl) .img rfl
@[simp] theorem enterBlock_spl (s : State) (c : ChainId) : (enterBlock s c).spl = s.spl :=
  same_of_drop (m := 12961415168) (enterBlock_drop s c rfl) .spl rfl
@[simp] theorem enterBlock_tim (s : State) (c : ChainId) : (enterBlock s c).tim = s.tim :=
  same_of_drop (m := 12961415168) (enterBlock_drop s c rfl) .tim rfl
@[simp] theorem enterBlock_meas (s : State) (c : ChainId) : (enterBlock s c).meas = s.meas :=
  same_of_drop (m := 12961415168) (enterBlock_drop s c rfl) .meas rfl
@[simp] theorem enterBlock_arm (s : State) (c : ChainId) : (enterBlock s c).arm = s.arm :=
  same_of_drop (m := 12961415168) (enterBlock_drop s c rfl) .arm rfl
@[simp] theorem enterBlock_pwm (s : State) (c : ChainId) : (enterBlock s c).pwm = s.pwm :=
  same_of_drop (m := 12961415168) (enterBlock_drop s c rfl) .pwm rfl
@[simp] theorem enterBlock_esA (s : State) (c : ChainId) : (enterBlock s c).esA = s.esA :=
  same_of_drop (m := 12961415168) (enterBlock_drop s c rfl) .esA rfl
@[simp] theorem enterBlock_esB (s : State) (c : ChainId) : (enterBlock s c).esB = s.esB :=
  same_of_drop (m := 12961415168) (enterBlock_drop s c rfl) .esB rfl
@[simp] theorem enterBlock_est (s : State) (c : ChainId) : (enterBlock s c).est = s.est :=
  same_of_drop (m := 12961415168) (enterBlock_drop s c rfl) .est rfl
@[simp] theorem enterBlock_prt (s : State) (c : ChainId) : (enterBlock s c).prt = s.prt :=
  same_of_drop (m := 12961415168) (enterBlock_drop s c rfl) .prt rfl
@[simp] theorem enterBlock_dvt (s : State) (c : ChainId) : (enterBlock s c).dvt = s.dvt :=
  same_of_drop (m := 12961415168) (enterBlock_drop s c rfl) .dvt rfl
@[simp] theorem enterBlock_lbus (s : State) (c : ChainId) : (enterBlock s c).lbus = s.lbus :=
  same_of_drop (m := 12961415168) (enterBlock_drop s c rfl) .lbus rfl
@[simp] theorem enterBlock_pwr (s : State) (c : ChainId) : (enterBlock s c).pwr = s.pwr :=
  same_of_drop (m := 12961415168) (enterBlock_drop s c rfl) .pwr rfl
@[simp] theorem enterBlock_sec (s : State) (c : ChainId) : (enterBlock s c).sec = s.sec :=
  same_of_drop (m := 12961415168) (enterBlock_drop s c rfl) .sec rfl
@[simp] theorem enterBlock_req (s : State) (c : ChainId) : (enterBlock s c).req = s.req :=
  same_of_drop (m := 12961415168) (enterBlock_drop s c rfl) .req rfl
@[simp] theorem enterBlock_clock (s : State) (c : ChainId) : (enterBlock s c).clock = s.clock :=
  same_of_drop (m := 12961415168) (enterBlock_drop s c rfl) .clock rfl
@[simp] theorem enterBlock_free (s : State) (c : ChainId) : (enterBlock s c).free = s.free :=
  same_of_drop (m := 12961415168) (enterBlock_drop s c rfl) .free rfl
@[simp] theorem enterBlock_outbox (s : State) (c : ChainId) : (enterBlock s c).outbox = s.outbox :=
  same_of_drop (m := 12961415168) (enterBlock_drop s c rfl) .outbox rfl
@[simp] theorem enterBlock_pending (s : State) (c : ChainId) : (enterBlock s c).pending = s.pending :=
  same_of_drop (m := 12961415168) (enterBlock_drop s c rfl) .pending rfl
@[simp] theorem enterBlock_glk_legA (s : State) (c : ChainId) : (enterBlock s c).glk.legA = s.glk.legA := by
  have h := same_of_drop (m := 12961415168) (enterBlock_drop s c rfl) .legs rfl
  simp only [Block.same] at h; simp only [h]
@[simp] theorem enterBlock_glk_legB (s : State) (c : ChainId) : (enterBlock s c).glk.legB = s.glk.legB := by
  have h := same_of_drop (m := 12961415168) (enterBlock_drop s c rfl) .legs rfl
  simp only [Block.same] at h; simp only [h]
@[simp] theorem enterBlock_evt_nvm (s : State) (c : ChainId) : (enterBlock s c).evt.nvm = s.evt.nvm := by
  have h := same_of_drop (m := 12961415168) (enterBlock_drop s c rfl) .log rfl
  simp only [Block.same] at h; simp only [h]
@[simp] theorem enterBlock_evt_nvmPos (s : State) (c : ChainId) : (enterBlock s c).evt.nvmPos = s.evt.nvmPos := by
  have h := same_of_drop (m := 12961415168) (enterBlock_drop s c rfl) .log rfl
  simp only [Block.same] at h; simp only [h]
@[simp] theorem enterBlock_evt_wrapped (s : State) (c : ChainId) : (enterBlock s c).evt.wrapped = s.evt.wrapped := by
  have h := same_of_drop (m := 12961415168) (enterBlock_drop s c rfl) .log rfl
  simp only [Block.same] at h; simp only [h]
@[simp] theorem enterBlock_glk_fireHold (s : State) (c : ChainId) : (enterBlock s c).glk.fireHold = s.glk.fireHold := by
  have h := same_of_drop (m := 12961415168) (enterBlock_drop s c rfl) .switch rfl
  simp only [Block.same] at h; simp only [h]
@[simp] theorem enterBlock_glk_fireAll (s : State) (c : ChainId) : (enterBlock s c).glk.fireAll = s.glk.fireAll := by
  have h := same_of_drop (m := 12961415168) (enterBlock_drop s c rfl) .switch rfl
  simp only [Block.same] at h; simp only [h]
@[simp] theorem enterBlock_glk_closeAsserted (s : State) (c : ChainId) : (enterBlock s c).glk.closeAsserted = s.glk.closeAsserted := by
  have h := same_of_drop (m := 12961415168) (enterBlock_drop s c rfl) .switch rfl
  simp only [Block.same] at h; simp only [h]
@[simp] theorem enterBlock_glk_closeDue (s : State) (c : ChainId) : (enterBlock s c).glk.closeDue = s.glk.closeDue := by
  have h := same_of_drop (m := 12961415168) (enterBlock_drop s c rfl) .switch rfl
  simp only [Block.same] at h; simp only [h]
@[simp] theorem enterBlock_glk_statClosed (s : State) (c : ChainId) : (enterBlock s c).glk.statClosed = s.glk.statClosed := by
  have h := same_of_drop (m := 12961415168) (enterBlock_drop s c rfl) .switch rfl
  simp only [Block.same] at h; simp only [h]
@[simp] theorem enterBlock_thm_sdHotA (s : State) (c : ChainId) : (enterBlock s c).thm.sdHotA = s.thm.sdHotA := by
  have h := same_of_drop (m := 12961415168) (enterBlock_drop s c rfl) .shutdown rfl
  simp only [Block.same] at h; simp only [h]
@[simp] theorem enterBlock_thm_sdHotB (s : State) (c : ChainId) : (enterBlock s c).thm.sdHotB = s.thm.sdHotB := by
  have h := same_of_drop (m := 12961415168) (enterBlock_drop s c rfl) .shutdown rfl
  simp only [Block.same] at h; simp only [h]
@[simp] theorem enterBlock_thm_sdColdA (s : State) (c : ChainId) : (enterBlock s c).thm.sdColdA = s.thm.sdColdA := by
  have h := same_of_drop (m := 12961415168) (enterBlock_drop s c rfl) .shutdown rfl
  simp only [Block.same] at h; simp only [h]
@[simp] theorem enterBlock_thm_sdColdB (s : State) (c : ChainId) : (enterBlock s c).thm.sdColdB = s.thm.sdColdB := by
  have h := same_of_drop (m := 12961415168) (enterBlock_drop s c rfl) .shutdown rfl
  simp only [Block.same] at h; simp only [h]
@[simp] theorem startOpening_dev (s : State) (c : ChainId) : (startOpening s c).dev = s.dev :=
  same_of_drop (m := 12961415168) (startOpening_drop s c rfl) .dev rfl
@[simp] theorem startOpening_eng (s : State) (c : ChainId) : (startOpening s c).eng = s.eng :=
  same_of_drop (m := 12961415168) (startOpening_drop s c rfl) .eng rfl
@[simp] theorem startOpening_img (s : State) (c : ChainId) : (startOpening s c).img = s.img :=
  same_of_drop (m := 12961415168) (startOpening_drop s c rfl) .img rfl
@[simp] theorem startOpening_spl (s : State) (c : ChainId) : (startOpening s c).spl = s.spl :=
  same_of_drop (m := 12961415168) (startOpening_drop s c rfl) .spl rfl
@[simp] theorem startOpening_tim (s : State) (c : ChainId) : (startOpening s c).tim = s.tim :=
  same_of_drop (m := 12961415168) (startOpening_drop s c rfl) .tim rfl
@[simp] theorem startOpening_meas (s : State) (c : ChainId) : (startOpening s c).meas = s.meas :=
  same_of_drop (m := 12961415168) (startOpening_drop s c rfl) .meas rfl
@[simp] theorem startOpening_arm (s : State) (c : ChainId) : (startOpening s c).arm = s.arm :=
  same_of_drop (m := 12961415168) (startOpening_drop s c rfl) .arm rfl
@[simp] theorem startOpening_pwm (s : State) (c : ChainId) : (startOpening s c).pwm = s.pwm :=
  same_of_drop (m := 12961415168) (startOpening_drop s c rfl) .pwm rfl
@[simp] theorem startOpening_esA (s : State) (c : ChainId) : (startOpening s c).esA = s.esA :=
  same_of_drop (m := 12961415168) (startOpening_drop s c rfl) .esA rfl
@[simp] theorem startOpening_esB (s : State) (c : ChainId) : (startOpening s c).esB = s.esB :=
  same_of_drop (m := 12961415168) (startOpening_drop s c rfl) .esB rfl
@[simp] theorem startOpening_est (s : State) (c : ChainId) : (startOpening s c).est = s.est :=
  same_of_drop (m := 12961415168) (startOpening_drop s c rfl) .est rfl
@[simp] theorem startOpening_prt (s : State) (c : ChainId) : (startOpening s c).prt = s.prt :=
  same_of_drop (m := 12961415168) (startOpening_drop s c rfl) .prt rfl
@[simp] theorem startOpening_dvt (s : State) (c : ChainId) : (startOpening s c).dvt = s.dvt :=
  same_of_drop (m := 12961415168) (startOpening_drop s c rfl) .dvt rfl
@[simp] theorem startOpening_lbus (s : State) (c : ChainId) : (startOpening s c).lbus = s.lbus :=
  same_of_drop (m := 12961415168) (startOpening_drop s c rfl) .lbus rfl
@[simp] theorem startOpening_pwr (s : State) (c : ChainId) : (startOpening s c).pwr = s.pwr :=
  same_of_drop (m := 12961415168) (startOpening_drop s c rfl) .pwr rfl
@[simp] theorem startOpening_sec (s : State) (c : ChainId) : (startOpening s c).sec = s.sec :=
  same_of_drop (m := 12961415168) (startOpening_drop s c rfl) .sec rfl
@[simp] theorem startOpening_req (s : State) (c : ChainId) : (startOpening s c).req = s.req :=
  same_of_drop (m := 12961415168) (startOpening_drop s c rfl) .req rfl
@[simp] theorem startOpening_clock (s : State) (c : ChainId) : (startOpening s c).clock = s.clock :=
  same_of_drop (m := 12961415168) (startOpening_drop s c rfl) .clock rfl
@[simp] theorem startOpening_free (s : State) (c : ChainId) : (startOpening s c).free = s.free :=
  same_of_drop (m := 12961415168) (startOpening_drop s c rfl) .free rfl
@[simp] theorem startOpening_outbox (s : State) (c : ChainId) : (startOpening s c).outbox = s.outbox :=
  same_of_drop (m := 12961415168) (startOpening_drop s c rfl) .outbox rfl
@[simp] theorem startOpening_pending (s : State) (c : ChainId) : (startOpening s c).pending = s.pending :=
  same_of_drop (m := 12961415168) (startOpening_drop s c rfl) .pending rfl
@[simp] theorem startOpening_glk_legA (s : State) (c : ChainId) : (startOpening s c).glk.legA = s.glk.legA := by
  have h := same_of_drop (m := 12961415168) (startOpening_drop s c rfl) .legs rfl
  simp only [Block.same] at h; simp only [h]
@[simp] theorem startOpening_glk_legB (s : State) (c : ChainId) : (startOpening s c).glk.legB = s.glk.legB := by
  have h := same_of_drop (m := 12961415168) (startOpening_drop s c rfl) .legs rfl
  simp only [Block.same] at h; simp only [h]
@[simp] theorem startOpening_evt_nvm (s : State) (c : ChainId) : (startOpening s c).evt.nvm = s.evt.nvm := by
  have h := same_of_drop (m := 12961415168) (startOpening_drop s c rfl) .log rfl
  simp only [Block.same] at h; simp only [h]
@[simp] theorem startOpening_evt_nvmPos (s : State) (c : ChainId) : (startOpening s c).evt.nvmPos = s.evt.nvmPos := by
  have h := same_of_drop (m := 12961415168) (startOpening_drop s c rfl) .log rfl
  simp only [Block.same] at h; simp only [h]
@[simp] theorem startOpening_evt_wrapped (s : State) (c : ChainId) : (startOpening s c).evt.wrapped = s.evt.wrapped := by
  have h := same_of_drop (m := 12961415168) (startOpening_drop s c rfl) .log rfl
  simp only [Block.same] at h; simp only [h]
@[simp] theorem startOpening_glk_fireHold (s : State) (c : ChainId) : (startOpening s c).glk.fireHold = s.glk.fireHold := by
  have h := same_of_drop (m := 12961415168) (startOpening_drop s c rfl) .switch rfl
  simp only [Block.same] at h; simp only [h]
@[simp] theorem startOpening_glk_fireAll (s : State) (c : ChainId) : (startOpening s c).glk.fireAll = s.glk.fireAll := by
  have h := same_of_drop (m := 12961415168) (startOpening_drop s c rfl) .switch rfl
  simp only [Block.same] at h; simp only [h]
@[simp] theorem startOpening_glk_closeAsserted (s : State) (c : ChainId) : (startOpening s c).glk.closeAsserted = s.glk.closeAsserted := by
  have h := same_of_drop (m := 12961415168) (startOpening_drop s c rfl) .switch rfl
  simp only [Block.same] at h; simp only [h]
@[simp] theorem startOpening_glk_closeDue (s : State) (c : ChainId) : (startOpening s c).glk.closeDue = s.glk.closeDue := by
  have h := same_of_drop (m := 12961415168) (startOpening_drop s c rfl) .switch rfl
  simp only [Block.same] at h; simp only [h]
@[simp] theorem startOpening_glk_statClosed (s : State) (c : ChainId) : (startOpening s c).glk.statClosed = s.glk.statClosed := by
  have h := same_of_drop (m := 12961415168) (startOpening_drop s c rfl) .switch rfl
  simp only [Block.same] at h; simp only [h]
@[simp] theorem startOpening_thm_sdHotA (s : State) (c : ChainId) : (startOpening s c).thm.sdHotA = s.thm.sdHotA := by
  have h := same_of_drop (m := 12961415168) (startOpening_drop s c rfl) .shutdown rfl
  simp only [Block.same] at h; simp only [h]
@[simp] theorem startOpening_thm_sdHotB (s : State) (c : ChainId) : (startOpening s c).thm.sdHotB = s.thm.sdHotB := by
  have h := same_of_drop (m := 12961415168) (startOpening_drop s c rfl) .shutdown rfl
  simp only [Block.same] at h; simp only [h]
@[simp] theorem startOpening_thm_sdColdA (s : State) (c : ChainId) : (startOpening s c).thm.sdColdA = s.thm.sdColdA := by
  have h := same_of_drop (m := 12961415168) (startOpening_drop s c rfl) .shutdown rfl
  simp only [Block.same] at h; simp only [h]
@[simp] theorem startOpening_thm_sdColdB (s : State) (c : ChainId) : (startOpening s c).thm.sdColdB = s.thm.sdColdB := by
  have h := same_of_drop (m := 12961415168) (startOpening_drop s c rfl) .shutdown rfl
  simp only [Block.same] at h; simp only [h]
@[simp] theorem commandFrom_dev (s : State) (tail : Bool) : (commandFrom s tail).dev = s.dev :=
  same_of_drop (m := 786432) (commandFrom_drop s tail rfl) .dev rfl
@[simp] theorem commandFrom_eng (s : State) (tail : Bool) : (commandFrom s tail).eng = s.eng :=
  same_of_drop (m := 786432) (commandFrom_drop s tail rfl) .eng rfl
@[simp] theorem commandFrom_img (s : State) (tail : Bool) : (commandFrom s tail).img = s.img :=
  same_of_drop (m := 786432) (commandFrom_drop s tail rfl) .img rfl
@[simp] theorem commandFrom_spl (s : State) (tail : Bool) : (commandFrom s tail).spl = s.spl :=
  same_of_drop (m := 786432) (commandFrom_drop s tail rfl) .spl rfl
@[simp] theorem commandFrom_tim (s : State) (tail : Bool) : (commandFrom s tail).tim = s.tim :=
  same_of_drop (m := 786432) (commandFrom_drop s tail rfl) .tim rfl
@[simp] theorem commandFrom_meas (s : State) (tail : Bool) : (commandFrom s tail).meas = s.meas :=
  same_of_drop (m := 786432) (commandFrom_drop s tail rfl) .meas rfl
@[simp] theorem commandFrom_arm (s : State) (tail : Bool) : (commandFrom s tail).arm = s.arm :=
  same_of_drop (m := 786432) (commandFrom_drop s tail rfl) .arm rfl
@[simp] theorem commandFrom_pwm (s : State) (tail : Bool) : (commandFrom s tail).pwm = s.pwm :=
  same_of_drop (m := 786432) (commandFrom_drop s tail rfl) .pwm rfl
@[simp] theorem commandFrom_glk (s : State) (tail : Bool) : (commandFrom s tail).glk = s.glk :=
  same_of_drop (m := 786432) (commandFrom_drop s tail rfl) .glk rfl
@[simp] theorem commandFrom_chA (s : State) (tail : Bool) : (commandFrom s tail).chA = s.chA :=
  same_of_drop (m := 786432) (commandFrom_drop s tail rfl) .chA rfl
@[simp] theorem commandFrom_chB (s : State) (tail : Bool) : (commandFrom s tail).chB = s.chB :=
  same_of_drop (m := 786432) (commandFrom_drop s tail rfl) .chB rfl
@[simp] theorem commandFrom_esA (s : State) (tail : Bool) : (commandFrom s tail).esA = s.esA :=
  same_of_drop (m := 786432) (commandFrom_drop s tail rfl) .esA rfl
@[simp] theorem commandFrom_esB (s : State) (tail : Bool) : (commandFrom s tail).esB = s.esB :=
  same_of_drop (m := 786432) (commandFrom_drop s tail rfl) .esB rfl
@[simp] theorem commandFrom_est (s : State) (tail : Bool) : (commandFrom s tail).est = s.est :=
  same_of_drop (m := 786432) (commandFrom_drop s tail rfl) .est rfl
@[simp] theorem commandFrom_thm (s : State) (tail : Bool) : (commandFrom s tail).thm = s.thm :=
  same_of_drop (m := 786432) (commandFrom_drop s tail rfl) .thm rfl
@[simp] theorem commandFrom_prt (s : State) (tail : Bool) : (commandFrom s tail).prt = s.prt :=
  same_of_drop (m := 786432) (commandFrom_drop s tail rfl) .prt rfl
@[simp] theorem commandFrom_dvt (s : State) (tail : Bool) : (commandFrom s tail).dvt = s.dvt :=
  same_of_drop (m := 786432) (commandFrom_drop s tail rfl) .dvt rfl
@[simp] theorem commandFrom_lsw (s : State) (tail : Bool) : (commandFrom s tail).lsw = s.lsw :=
  same_of_drop (m := 786432) (commandFrom_drop s tail rfl) .lsw rfl
@[simp] theorem commandFrom_lbus (s : State) (tail : Bool) : (commandFrom s tail).lbus = s.lbus :=
  same_of_drop (m := 786432) (commandFrom_drop s tail rfl) .lbus rfl
@[simp] theorem commandFrom_pwr (s : State) (tail : Bool) : (commandFrom s tail).pwr = s.pwr :=
  same_of_drop (m := 786432) (commandFrom_drop s tail rfl) .pwr rfl
@[simp] theorem commandFrom_sec (s : State) (tail : Bool) : (commandFrom s tail).sec = s.sec :=
  same_of_drop (m := 786432) (commandFrom_drop s tail rfl) .sec rfl
@[simp] theorem commandFrom_mnt (s : State) (tail : Bool) : (commandFrom s tail).mnt = s.mnt :=
  same_of_drop (m := 786432) (commandFrom_drop s tail rfl) .mnt rfl
@[simp] theorem commandFrom_evt (s : State) (tail : Bool) : (commandFrom s tail).evt = s.evt :=
  same_of_drop (m := 786432) (commandFrom_drop s tail rfl) .evt rfl
@[simp] theorem commandFrom_req (s : State) (tail : Bool) : (commandFrom s tail).req = s.req :=
  same_of_drop (m := 786432) (commandFrom_drop s tail rfl) .req rfl
@[simp] theorem commandFrom_clock (s : State) (tail : Bool) : (commandFrom s tail).clock = s.clock :=
  same_of_drop (m := 786432) (commandFrom_drop s tail rfl) .clock rfl
@[simp] theorem commandFrom_free (s : State) (tail : Bool) : (commandFrom s tail).free = s.free :=
  same_of_drop (m := 786432) (commandFrom_drop s tail rfl) .free rfl
@[simp] theorem commandFrom_outbox (s : State) (tail : Bool) : (commandFrom s tail).outbox = s.outbox :=
  same_of_drop (m := 786432) (commandFrom_drop s tail rfl) .outbox rfl
@[simp] theorem commandFrom_pending (s : State) (tail : Bool) : (commandFrom s tail).pending = s.pending :=
  same_of_drop (m := 786432) (commandFrom_drop s tail rfl) .pending rfl
@[simp] theorem dropRequests_dev (s : State) : (dropRequests s).dev = s.dev :=
  same_of_drop (m := 786432) (dropRequests_drop s rfl) .dev rfl
@[simp] theorem dropRequests_eng (s : State) : (dropRequests s).eng = s.eng :=
  same_of_drop (m := 786432) (dropRequests_drop s rfl) .eng rfl
@[simp] theorem dropRequests_img (s : State) : (dropRequests s).img = s.img :=
  same_of_drop (m := 786432) (dropRequests_drop s rfl) .img rfl
@[simp] theorem dropRequests_spl (s : State) : (dropRequests s).spl = s.spl :=
  same_of_drop (m := 786432) (dropRequests_drop s rfl) .spl rfl
@[simp] theorem dropRequests_tim (s : State) : (dropRequests s).tim = s.tim :=
  same_of_drop (m := 786432) (dropRequests_drop s rfl) .tim rfl
@[simp] theorem dropRequests_meas (s : State) : (dropRequests s).meas = s.meas :=
  same_of_drop (m := 786432) (dropRequests_drop s rfl) .meas rfl
@[simp] theorem dropRequests_arm (s : State) : (dropRequests s).arm = s.arm :=
  same_of_drop (m := 786432) (dropRequests_drop s rfl) .arm rfl
@[simp] theorem dropRequests_pwm (s : State) : (dropRequests s).pwm = s.pwm :=
  same_of_drop (m := 786432) (dropRequests_drop s rfl) .pwm rfl
@[simp] theorem dropRequests_glk (s : State) : (dropRequests s).glk = s.glk :=
  same_of_drop (m := 786432) (dropRequests_drop s rfl) .glk rfl
@[simp] theorem dropRequests_chA (s : State) : (dropRequests s).chA = s.chA :=
  same_of_drop (m := 786432) (dropRequests_drop s rfl) .chA rfl
@[simp] theorem dropRequests_chB (s : State) : (dropRequests s).chB = s.chB :=
  same_of_drop (m := 786432) (dropRequests_drop s rfl) .chB rfl
@[simp] theorem dropRequests_esA (s : State) : (dropRequests s).esA = s.esA :=
  same_of_drop (m := 786432) (dropRequests_drop s rfl) .esA rfl
@[simp] theorem dropRequests_esB (s : State) : (dropRequests s).esB = s.esB :=
  same_of_drop (m := 786432) (dropRequests_drop s rfl) .esB rfl
@[simp] theorem dropRequests_est (s : State) : (dropRequests s).est = s.est :=
  same_of_drop (m := 786432) (dropRequests_drop s rfl) .est rfl
@[simp] theorem dropRequests_thm (s : State) : (dropRequests s).thm = s.thm :=
  same_of_drop (m := 786432) (dropRequests_drop s rfl) .thm rfl
@[simp] theorem dropRequests_prt (s : State) : (dropRequests s).prt = s.prt :=
  same_of_drop (m := 786432) (dropRequests_drop s rfl) .prt rfl
@[simp] theorem dropRequests_dvt (s : State) : (dropRequests s).dvt = s.dvt :=
  same_of_drop (m := 786432) (dropRequests_drop s rfl) .dvt rfl
@[simp] theorem dropRequests_lsw (s : State) : (dropRequests s).lsw = s.lsw :=
  same_of_drop (m := 786432) (dropRequests_drop s rfl) .lsw rfl
@[simp] theorem dropRequests_lbus (s : State) : (dropRequests s).lbus = s.lbus :=
  same_of_drop (m := 786432) (dropRequests_drop s rfl) .lbus rfl
@[simp] theorem dropRequests_pwr (s : State) : (dropRequests s).pwr = s.pwr :=
  same_of_drop (m := 786432) (dropRequests_drop s rfl) .pwr rfl
@[simp] theorem dropRequests_sec (s : State) : (dropRequests s).sec = s.sec :=
  same_of_drop (m := 786432) (dropRequests_drop s rfl) .sec rfl
@[simp] theorem dropRequests_mnt (s : State) : (dropRequests s).mnt = s.mnt :=
  same_of_drop (m := 786432) (dropRequests_drop s rfl) .mnt rfl
@[simp] theorem dropRequests_evt (s : State) : (dropRequests s).evt = s.evt :=
  same_of_drop (m := 786432) (dropRequests_drop s rfl) .evt rfl
@[simp] theorem dropRequests_req (s : State) : (dropRequests s).req = s.req :=
  same_of_drop (m := 786432) (dropRequests_drop s rfl) .req rfl
@[simp] theorem dropRequests_clock (s : State) : (dropRequests s).clock = s.clock :=
  same_of_drop (m := 786432) (dropRequests_drop s rfl) .clock rfl
@[simp] theorem dropRequests_free (s : State) : (dropRequests s).free = s.free :=
  same_of_drop (m := 786432) (dropRequests_drop s rfl) .free rfl
@[simp] theorem dropRequests_outbox (s : State) : (dropRequests s).outbox = s.outbox :=
  same_of_drop (m := 786432) (dropRequests_drop s rfl) .outbox rfl
@[simp] theorem dropRequests_pending (s : State) : (dropRequests s).pending = s.pending :=
  same_of_drop (m := 786432) (dropRequests_drop s rfl) .pending rfl
@[simp] theorem cancelTest_dev (s : State) : (cancelTest s).dev = s.dev :=
  same_of_drop (m := 32768) (cancelTest_drop s rfl) .dev rfl
@[simp] theorem cancelTest_eng (s : State) : (cancelTest s).eng = s.eng :=
  same_of_drop (m := 32768) (cancelTest_drop s rfl) .eng rfl
@[simp] theorem cancelTest_img (s : State) : (cancelTest s).img = s.img :=
  same_of_drop (m := 32768) (cancelTest_drop s rfl) .img rfl
@[simp] theorem cancelTest_spl (s : State) : (cancelTest s).spl = s.spl :=
  same_of_drop (m := 32768) (cancelTest_drop s rfl) .spl rfl
@[simp] theorem cancelTest_tim (s : State) : (cancelTest s).tim = s.tim :=
  same_of_drop (m := 32768) (cancelTest_drop s rfl) .tim rfl
@[simp] theorem cancelTest_meas (s : State) : (cancelTest s).meas = s.meas :=
  same_of_drop (m := 32768) (cancelTest_drop s rfl) .meas rfl
@[simp] theorem cancelTest_arm (s : State) : (cancelTest s).arm = s.arm :=
  same_of_drop (m := 32768) (cancelTest_drop s rfl) .arm rfl
@[simp] theorem cancelTest_pwm (s : State) : (cancelTest s).pwm = s.pwm :=
  same_of_drop (m := 32768) (cancelTest_drop s rfl) .pwm rfl
@[simp] theorem cancelTest_chA (s : State) : (cancelTest s).chA = s.chA :=
  same_of_drop (m := 32768) (cancelTest_drop s rfl) .chA rfl
@[simp] theorem cancelTest_chB (s : State) : (cancelTest s).chB = s.chB :=
  same_of_drop (m := 32768) (cancelTest_drop s rfl) .chB rfl
@[simp] theorem cancelTest_snA (s : State) : (cancelTest s).snA = s.snA :=
  same_of_drop (m := 32768) (cancelTest_drop s rfl) .snA rfl
@[simp] theorem cancelTest_snB (s : State) : (cancelTest s).snB = s.snB :=
  same_of_drop (m := 32768) (cancelTest_drop s rfl) .snB rfl
@[simp] theorem cancelTest_esA (s : State) : (cancelTest s).esA = s.esA :=
  same_of_drop (m := 32768) (cancelTest_drop s rfl) .esA rfl
@[simp] theorem cancelTest_esB (s : State) : (cancelTest s).esB = s.esB :=
  same_of_drop (m := 32768) (cancelTest_drop s rfl) .esB rfl
@[simp] theorem cancelTest_est (s : State) : (cancelTest s).est = s.est :=
  same_of_drop (m := 32768) (cancelTest_drop s rfl) .est rfl
@[simp] theorem cancelTest_thm (s : State) : (cancelTest s).thm = s.thm :=
  same_of_drop (m := 32768) (cancelTest_drop s rfl) .thm rfl
@[simp] theorem cancelTest_prt (s : State) : (cancelTest s).prt = s.prt :=
  same_of_drop (m := 32768) (cancelTest_drop s rfl) .prt rfl
@[simp] theorem cancelTest_dvt (s : State) : (cancelTest s).dvt = s.dvt :=
  same_of_drop (m := 32768) (cancelTest_drop s rfl) .dvt rfl
@[simp] theorem cancelTest_lsw (s : State) : (cancelTest s).lsw = s.lsw :=
  same_of_drop (m := 32768) (cancelTest_drop s rfl) .lsw rfl
@[simp] theorem cancelTest_lbus (s : State) : (cancelTest s).lbus = s.lbus :=
  same_of_drop (m := 32768) (cancelTest_drop s rfl) .lbus rfl
@[simp] theorem cancelTest_pwr (s : State) : (cancelTest s).pwr = s.pwr :=
  same_of_drop (m := 32768) (cancelTest_drop s rfl) .pwr rfl
@[simp] theorem cancelTest_sec (s : State) : (cancelTest s).sec = s.sec :=
  same_of_drop (m := 32768) (cancelTest_drop s rfl) .sec rfl
@[simp] theorem cancelTest_mnt (s : State) : (cancelTest s).mnt = s.mnt :=
  same_of_drop (m := 32768) (cancelTest_drop s rfl) .mnt rfl
@[simp] theorem cancelTest_evt (s : State) : (cancelTest s).evt = s.evt :=
  same_of_drop (m := 32768) (cancelTest_drop s rfl) .evt rfl
@[simp] theorem cancelTest_req (s : State) : (cancelTest s).req = s.req :=
  same_of_drop (m := 32768) (cancelTest_drop s rfl) .req rfl
@[simp] theorem cancelTest_clock (s : State) : (cancelTest s).clock = s.clock :=
  same_of_drop (m := 32768) (cancelTest_drop s rfl) .clock rfl
@[simp] theorem cancelTest_free (s : State) : (cancelTest s).free = s.free :=
  same_of_drop (m := 32768) (cancelTest_drop s rfl) .free rfl
@[simp] theorem cancelTest_outbox (s : State) : (cancelTest s).outbox = s.outbox :=
  same_of_drop (m := 32768) (cancelTest_drop s rfl) .outbox rfl
@[simp] theorem cancelTest_pending (s : State) : (cancelTest s).pending = s.pending :=
  same_of_drop (m := 32768) (cancelTest_drop s rfl) .pending rfl
@[simp] theorem cancelTest_glk_legA (s : State) : (cancelTest s).glk.legA = s.glk.legA := by
  have h := same_of_drop (m := 32768) (cancelTest_drop s rfl) .legs rfl
  simp only [Block.same] at h; simp only [h]
@[simp] theorem cancelTest_glk_legB (s : State) : (cancelTest s).glk.legB = s.glk.legB := by
  have h := same_of_drop (m := 32768) (cancelTest_drop s rfl) .legs rfl
  simp only [Block.same] at h; simp only [h]
@[simp] theorem cancelTest_glk_fireHold (s : State) : (cancelTest s).glk.fireHold = s.glk.fireHold := by
  have h := same_of_drop (m := 32768) (cancelTest_drop s rfl) .switch rfl
  simp only [Block.same] at h; simp only [h]
@[simp] theorem cancelTest_glk_fireAll (s : State) : (cancelTest s).glk.fireAll = s.glk.fireAll := by
  have h := same_of_drop (m := 32768) (cancelTest_drop s rfl) .switch rfl
  simp only [Block.same] at h; simp only [h]
@[simp] theorem cancelTest_glk_closeAsserted (s : State) : (cancelTest s).glk.closeAsserted = s.glk.closeAsserted := by
  have h := same_of_drop (m := 32768) (cancelTest_drop s rfl) .switch rfl
  simp only [Block.same] at h; simp only [h]
@[simp] theorem cancelTest_glk_closeDue (s : State) : (cancelTest s).glk.closeDue = s.glk.closeDue := by
  have h := same_of_drop (m := 32768) (cancelTest_drop s rfl) .switch rfl
  simp only [Block.same] at h; simp only [h]
@[simp] theorem cancelTest_glk_statClosed (s : State) : (cancelTest s).glk.statClosed = s.glk.statClosed := by
  have h := same_of_drop (m := 32768) (cancelTest_drop s rfl) .switch rfl
  simp only [Block.same] at h; simp only [h]
@[simp] theorem beginHold_dev (s : State) : (beginHold s).dev = s.dev :=
  same_of_drop (m := 32768) (beginHold_drop s rfl) .dev rfl
@[simp] theorem beginHold_eng (s : State) : (beginHold s).eng = s.eng :=
  same_of_drop (m := 32768) (beginHold_drop s rfl) .eng rfl
@[simp] theorem beginHold_img (s : State) : (beginHold s).img = s.img :=
  same_of_drop (m := 32768) (beginHold_drop s rfl) .img rfl
@[simp] theorem beginHold_spl (s : State) : (beginHold s).spl = s.spl :=
  same_of_drop (m := 32768) (beginHold_drop s rfl) .spl rfl
@[simp] theorem beginHold_tim (s : State) : (beginHold s).tim = s.tim :=
  same_of_drop (m := 32768) (beginHold_drop s rfl) .tim rfl
@[simp] theorem beginHold_meas (s : State) : (beginHold s).meas = s.meas :=
  same_of_drop (m := 32768) (beginHold_drop s rfl) .meas rfl
@[simp] theorem beginHold_arm (s : State) : (beginHold s).arm = s.arm :=
  same_of_drop (m := 32768) (beginHold_drop s rfl) .arm rfl
@[simp] theorem beginHold_pwm (s : State) : (beginHold s).pwm = s.pwm :=
  same_of_drop (m := 32768) (beginHold_drop s rfl) .pwm rfl
@[simp] theorem beginHold_chA (s : State) : (beginHold s).chA = s.chA :=
  same_of_drop (m := 32768) (beginHold_drop s rfl) .chA rfl
@[simp] theorem beginHold_chB (s : State) : (beginHold s).chB = s.chB :=
  same_of_drop (m := 32768) (beginHold_drop s rfl) .chB rfl
@[simp] theorem beginHold_snA (s : State) : (beginHold s).snA = s.snA :=
  same_of_drop (m := 32768) (beginHold_drop s rfl) .snA rfl
@[simp] theorem beginHold_snB (s : State) : (beginHold s).snB = s.snB :=
  same_of_drop (m := 32768) (beginHold_drop s rfl) .snB rfl
@[simp] theorem beginHold_esA (s : State) : (beginHold s).esA = s.esA :=
  same_of_drop (m := 32768) (beginHold_drop s rfl) .esA rfl
@[simp] theorem beginHold_esB (s : State) : (beginHold s).esB = s.esB :=
  same_of_drop (m := 32768) (beginHold_drop s rfl) .esB rfl
@[simp] theorem beginHold_est (s : State) : (beginHold s).est = s.est :=
  same_of_drop (m := 32768) (beginHold_drop s rfl) .est rfl
@[simp] theorem beginHold_thm (s : State) : (beginHold s).thm = s.thm :=
  same_of_drop (m := 32768) (beginHold_drop s rfl) .thm rfl
@[simp] theorem beginHold_prt (s : State) : (beginHold s).prt = s.prt :=
  same_of_drop (m := 32768) (beginHold_drop s rfl) .prt rfl
@[simp] theorem beginHold_dvt (s : State) : (beginHold s).dvt = s.dvt :=
  same_of_drop (m := 32768) (beginHold_drop s rfl) .dvt rfl
@[simp] theorem beginHold_lsw (s : State) : (beginHold s).lsw = s.lsw :=
  same_of_drop (m := 32768) (beginHold_drop s rfl) .lsw rfl
@[simp] theorem beginHold_lbus (s : State) : (beginHold s).lbus = s.lbus :=
  same_of_drop (m := 32768) (beginHold_drop s rfl) .lbus rfl
@[simp] theorem beginHold_pwr (s : State) : (beginHold s).pwr = s.pwr :=
  same_of_drop (m := 32768) (beginHold_drop s rfl) .pwr rfl
@[simp] theorem beginHold_sec (s : State) : (beginHold s).sec = s.sec :=
  same_of_drop (m := 32768) (beginHold_drop s rfl) .sec rfl
@[simp] theorem beginHold_mnt (s : State) : (beginHold s).mnt = s.mnt :=
  same_of_drop (m := 32768) (beginHold_drop s rfl) .mnt rfl
@[simp] theorem beginHold_evt (s : State) : (beginHold s).evt = s.evt :=
  same_of_drop (m := 32768) (beginHold_drop s rfl) .evt rfl
@[simp] theorem beginHold_req (s : State) : (beginHold s).req = s.req :=
  same_of_drop (m := 32768) (beginHold_drop s rfl) .req rfl
@[simp] theorem beginHold_clock (s : State) : (beginHold s).clock = s.clock :=
  same_of_drop (m := 32768) (beginHold_drop s rfl) .clock rfl
@[simp] theorem beginHold_free (s : State) : (beginHold s).free = s.free :=
  same_of_drop (m := 32768) (beginHold_drop s rfl) .free rfl
@[simp] theorem beginHold_outbox (s : State) : (beginHold s).outbox = s.outbox :=
  same_of_drop (m := 32768) (beginHold_drop s rfl) .outbox rfl
@[simp] theorem beginHold_pending (s : State) : (beginHold s).pending = s.pending :=
  same_of_drop (m := 32768) (beginHold_drop s rfl) .pending rfl
@[simp] theorem beginHold_glk_legA (s : State) : (beginHold s).glk.legA = s.glk.legA := by
  have h := same_of_drop (m := 32768) (beginHold_drop s rfl) .legs rfl
  simp only [Block.same] at h; simp only [h]
@[simp] theorem beginHold_glk_legB (s : State) : (beginHold s).glk.legB = s.glk.legB := by
  have h := same_of_drop (m := 32768) (beginHold_drop s rfl) .legs rfl
  simp only [Block.same] at h; simp only [h]
@[simp] theorem beginHold_glk_fireHold (s : State) : (beginHold s).glk.fireHold = s.glk.fireHold := by
  have h := same_of_drop (m := 32768) (beginHold_drop s rfl) .switch rfl
  simp only [Block.same] at h; simp only [h]
@[simp] theorem beginHold_glk_fireAll (s : State) : (beginHold s).glk.fireAll = s.glk.fireAll := by
  have h := same_of_drop (m := 32768) (beginHold_drop s rfl) .switch rfl
  simp only [Block.same] at h; simp only [h]
@[simp] theorem beginHold_glk_closeAsserted (s : State) : (beginHold s).glk.closeAsserted = s.glk.closeAsserted := by
  have h := same_of_drop (m := 32768) (beginHold_drop s rfl) .switch rfl
  simp only [Block.same] at h; simp only [h]
@[simp] theorem beginHold_glk_closeDue (s : State) : (beginHold s).glk.closeDue = s.glk.closeDue := by
  have h := same_of_drop (m := 32768) (beginHold_drop s rfl) .switch rfl
  simp only [Block.same] at h; simp only [h]
@[simp] theorem beginHold_glk_statClosed (s : State) : (beginHold s).glk.statClosed = s.glk.statClosed := by
  have h := same_of_drop (m := 32768) (beginHold_drop s rfl) .switch rfl
  simp only [Block.same] at h; simp only [h]
@[simp] theorem legsFromMirror_dev (s : State) (m : Mirror) : (legsFromMirror s m).dev = s.dev :=
  same_of_drop (m := 549755846656) (legsFromMirror_drop s m rfl) .dev rfl
@[simp] theorem legsFromMirror_eng (s : State) (m : Mirror) : (legsFromMirror s m).eng = s.eng :=
  same_of_drop (m := 549755846656) (legsFromMirror_drop s m rfl) .eng rfl
@[simp] theorem legsFromMirror_img (s : State) (m : Mirror) : (legsFromMirror s m).img = s.img :=
  same_of_drop (m := 549755846656) (legsFromMirror_drop s m rfl) .img rfl
@[simp] theorem legsFromMirror_spl (s : State) (m : Mirror) : (legsFromMirror s m).spl = s.spl :=
  same_of_drop (m := 549755846656) (legsFromMirror_drop s m rfl) .spl rfl
@[simp] theorem legsFromMirror_tim (s : State) (m : Mirror) : (legsFromMirror s m).tim = s.tim :=
  same_of_drop (m := 549755846656) (legsFromMirror_drop s m rfl) .tim rfl
@[simp] theorem legsFromMirror_meas (s : State) (m : Mirror) : (legsFromMirror s m).meas = s.meas :=
  same_of_drop (m := 549755846656) (legsFromMirror_drop s m rfl) .meas rfl
@[simp] theorem legsFromMirror_arm (s : State) (m : Mirror) : (legsFromMirror s m).arm = s.arm :=
  same_of_drop (m := 549755846656) (legsFromMirror_drop s m rfl) .arm rfl
@[simp] theorem legsFromMirror_pwm (s : State) (m : Mirror) : (legsFromMirror s m).pwm = s.pwm :=
  same_of_drop (m := 549755846656) (legsFromMirror_drop s m rfl) .pwm rfl
@[simp] theorem legsFromMirror_chA (s : State) (m : Mirror) : (legsFromMirror s m).chA = s.chA :=
  same_of_drop (m := 549755846656) (legsFromMirror_drop s m rfl) .chA rfl
@[simp] theorem legsFromMirror_chB (s : State) (m : Mirror) : (legsFromMirror s m).chB = s.chB :=
  same_of_drop (m := 549755846656) (legsFromMirror_drop s m rfl) .chB rfl
@[simp] theorem legsFromMirror_snA (s : State) (m : Mirror) : (legsFromMirror s m).snA = s.snA :=
  same_of_drop (m := 549755846656) (legsFromMirror_drop s m rfl) .snA rfl
@[simp] theorem legsFromMirror_snB (s : State) (m : Mirror) : (legsFromMirror s m).snB = s.snB :=
  same_of_drop (m := 549755846656) (legsFromMirror_drop s m rfl) .snB rfl
@[simp] theorem legsFromMirror_esA (s : State) (m : Mirror) : (legsFromMirror s m).esA = s.esA :=
  same_of_drop (m := 549755846656) (legsFromMirror_drop s m rfl) .esA rfl
@[simp] theorem legsFromMirror_esB (s : State) (m : Mirror) : (legsFromMirror s m).esB = s.esB :=
  same_of_drop (m := 549755846656) (legsFromMirror_drop s m rfl) .esB rfl
@[simp] theorem legsFromMirror_est (s : State) (m : Mirror) : (legsFromMirror s m).est = s.est :=
  same_of_drop (m := 549755846656) (legsFromMirror_drop s m rfl) .est rfl
@[simp] theorem legsFromMirror_thm (s : State) (m : Mirror) : (legsFromMirror s m).thm = s.thm :=
  same_of_drop (m := 549755846656) (legsFromMirror_drop s m rfl) .thm rfl
@[simp] theorem legsFromMirror_prt (s : State) (m : Mirror) : (legsFromMirror s m).prt = s.prt :=
  same_of_drop (m := 549755846656) (legsFromMirror_drop s m rfl) .prt rfl
@[simp] theorem legsFromMirror_dvt (s : State) (m : Mirror) : (legsFromMirror s m).dvt = s.dvt :=
  same_of_drop (m := 549755846656) (legsFromMirror_drop s m rfl) .dvt rfl
@[simp] theorem legsFromMirror_lsw (s : State) (m : Mirror) : (legsFromMirror s m).lsw = s.lsw :=
  same_of_drop (m := 549755846656) (legsFromMirror_drop s m rfl) .lsw rfl
@[simp] theorem legsFromMirror_lbus (s : State) (m : Mirror) : (legsFromMirror s m).lbus = s.lbus :=
  same_of_drop (m := 549755846656) (legsFromMirror_drop s m rfl) .lbus rfl
@[simp] theorem legsFromMirror_pwr (s : State) (m : Mirror) : (legsFromMirror s m).pwr = s.pwr :=
  same_of_drop (m := 549755846656) (legsFromMirror_drop s m rfl) .pwr rfl
@[simp] theorem legsFromMirror_sec (s : State) (m : Mirror) : (legsFromMirror s m).sec = s.sec :=
  same_of_drop (m := 549755846656) (legsFromMirror_drop s m rfl) .sec rfl
@[simp] theorem legsFromMirror_mnt (s : State) (m : Mirror) : (legsFromMirror s m).mnt = s.mnt :=
  same_of_drop (m := 549755846656) (legsFromMirror_drop s m rfl) .mnt rfl
@[simp] theorem legsFromMirror_evt (s : State) (m : Mirror) : (legsFromMirror s m).evt = s.evt :=
  same_of_drop (m := 549755846656) (legsFromMirror_drop s m rfl) .evt rfl
@[simp] theorem legsFromMirror_req (s : State) (m : Mirror) : (legsFromMirror s m).req = s.req :=
  same_of_drop (m := 549755846656) (legsFromMirror_drop s m rfl) .req rfl
@[simp] theorem legsFromMirror_clock (s : State) (m : Mirror) : (legsFromMirror s m).clock = s.clock :=
  same_of_drop (m := 549755846656) (legsFromMirror_drop s m rfl) .clock rfl
@[simp] theorem legsFromMirror_free (s : State) (m : Mirror) : (legsFromMirror s m).free = s.free :=
  same_of_drop (m := 549755846656) (legsFromMirror_drop s m rfl) .free rfl
@[simp] theorem legsFromMirror_outbox (s : State) (m : Mirror) : (legsFromMirror s m).outbox = s.outbox :=
  same_of_drop (m := 549755846656) (legsFromMirror_drop s m rfl) .outbox rfl
@[simp] theorem legsFromMirror_pending (s : State) (m : Mirror) : (legsFromMirror s m).pending = s.pending :=
  same_of_drop (m := 549755846656) (legsFromMirror_drop s m rfl) .pending rfl
@[simp] theorem legsFromMirror_glk_fireHold (s : State) (m : Mirror) : (legsFromMirror s m).glk.fireHold = s.glk.fireHold := by
  have h := same_of_drop (m := 549755846656) (legsFromMirror_drop s m rfl) .switch rfl
  simp only [Block.same] at h; simp only [h]
@[simp] theorem legsFromMirror_glk_fireAll (s : State) (m : Mirror) : (legsFromMirror s m).glk.fireAll = s.glk.fireAll := by
  have h := same_of_drop (m := 549755846656) (legsFromMirror_drop s m rfl) .switch rfl
  simp only [Block.same] at h; simp only [h]
@[simp] theorem legsFromMirror_glk_closeAsserted (s : State) (m : Mirror) : (legsFromMirror s m).glk.closeAsserted = s.glk.closeAsserted := by
  have h := same_of_drop (m := 549755846656) (legsFromMirror_drop s m rfl) .switch rfl
  simp only [Block.same] at h; simp only [h]
@[simp] theorem legsFromMirror_glk_closeDue (s : State) (m : Mirror) : (legsFromMirror s m).glk.closeDue = s.glk.closeDue := by
  have h := same_of_drop (m := 549755846656) (legsFromMirror_drop s m rfl) .switch rfl
  simp only [Block.same] at h; simp only [h]
@[simp] theorem legsFromMirror_glk_statClosed (s : State) (m : Mirror) : (legsFromMirror s m).glk.statClosed = s.glk.statClosed := by
  have h := same_of_drop (m := 549755846656) (legsFromMirror_drop s m rfl) .switch rfl
  simp only [Block.same] at h; simp only [h]
@[simp] theorem loadsFromMirror_dev (s : State) (m : Mirror) : (loadsFromMirror s m).dev = s.dev :=
  same_of_drop (m := 67108864) (loadsFromMirror_drop s m rfl) .dev rfl
@[simp] theorem loadsFromMirror_eng (s : State) (m : Mirror) : (loadsFromMirror s m).eng = s.eng :=
  same_of_drop (m := 67108864) (loadsFromMirror_drop s m rfl) .eng rfl
@[simp] theorem loadsFromMirror_img (s : State) (m : Mirror) : (loadsFromMirror s m).img = s.img :=
  same_of_drop (m := 67108864) (loadsFromMirror_drop s m rfl) .img rfl
@[simp] theorem loadsFromMirror_spl (s : State) (m : Mirror) : (loadsFromMirror s m).spl = s.spl :=
  same_of_drop (m := 67108864) (loadsFromMirror_drop s m rfl) .spl rfl
@[simp] theorem loadsFromMirror_tim (s : State) (m : Mirror) : (loadsFromMirror s m).tim = s.tim :=
  same_of_drop (m := 67108864) (loadsFromMirror_drop s m rfl) .tim rfl
@[simp] theorem loadsFromMirror_meas (s : State) (m : Mirror) : (loadsFromMirror s m).meas = s.meas :=
  same_of_drop (m := 67108864) (loadsFromMirror_drop s m rfl) .meas rfl
@[simp] theorem loadsFromMirror_arm (s : State) (m : Mirror) : (loadsFromMirror s m).arm = s.arm :=
  same_of_drop (m := 67108864) (loadsFromMirror_drop s m rfl) .arm rfl
@[simp] theorem loadsFromMirror_pwm (s : State) (m : Mirror) : (loadsFromMirror s m).pwm = s.pwm :=
  same_of_drop (m := 67108864) (loadsFromMirror_drop s m rfl) .pwm rfl
@[simp] theorem loadsFromMirror_glk (s : State) (m : Mirror) : (loadsFromMirror s m).glk = s.glk :=
  same_of_drop (m := 67108864) (loadsFromMirror_drop s m rfl) .glk rfl
@[simp] theorem loadsFromMirror_chA (s : State) (m : Mirror) : (loadsFromMirror s m).chA = s.chA :=
  same_of_drop (m := 67108864) (loadsFromMirror_drop s m rfl) .chA rfl
@[simp] theorem loadsFromMirror_chB (s : State) (m : Mirror) : (loadsFromMirror s m).chB = s.chB :=
  same_of_drop (m := 67108864) (loadsFromMirror_drop s m rfl) .chB rfl
@[simp] theorem loadsFromMirror_snA (s : State) (m : Mirror) : (loadsFromMirror s m).snA = s.snA :=
  same_of_drop (m := 67108864) (loadsFromMirror_drop s m rfl) .snA rfl
@[simp] theorem loadsFromMirror_snB (s : State) (m : Mirror) : (loadsFromMirror s m).snB = s.snB :=
  same_of_drop (m := 67108864) (loadsFromMirror_drop s m rfl) .snB rfl
@[simp] theorem loadsFromMirror_esA (s : State) (m : Mirror) : (loadsFromMirror s m).esA = s.esA :=
  same_of_drop (m := 67108864) (loadsFromMirror_drop s m rfl) .esA rfl
@[simp] theorem loadsFromMirror_esB (s : State) (m : Mirror) : (loadsFromMirror s m).esB = s.esB :=
  same_of_drop (m := 67108864) (loadsFromMirror_drop s m rfl) .esB rfl
@[simp] theorem loadsFromMirror_est (s : State) (m : Mirror) : (loadsFromMirror s m).est = s.est :=
  same_of_drop (m := 67108864) (loadsFromMirror_drop s m rfl) .est rfl
@[simp] theorem loadsFromMirror_thm (s : State) (m : Mirror) : (loadsFromMirror s m).thm = s.thm :=
  same_of_drop (m := 67108864) (loadsFromMirror_drop s m rfl) .thm rfl
@[simp] theorem loadsFromMirror_prt (s : State) (m : Mirror) : (loadsFromMirror s m).prt = s.prt :=
  same_of_drop (m := 67108864) (loadsFromMirror_drop s m rfl) .prt rfl
@[simp] theorem loadsFromMirror_dvt (s : State) (m : Mirror) : (loadsFromMirror s m).dvt = s.dvt :=
  same_of_drop (m := 67108864) (loadsFromMirror_drop s m rfl) .dvt rfl
@[simp] theorem loadsFromMirror_lbus (s : State) (m : Mirror) : (loadsFromMirror s m).lbus = s.lbus :=
  same_of_drop (m := 67108864) (loadsFromMirror_drop s m rfl) .lbus rfl
@[simp] theorem loadsFromMirror_pwr (s : State) (m : Mirror) : (loadsFromMirror s m).pwr = s.pwr :=
  same_of_drop (m := 67108864) (loadsFromMirror_drop s m rfl) .pwr rfl
@[simp] theorem loadsFromMirror_sec (s : State) (m : Mirror) : (loadsFromMirror s m).sec = s.sec :=
  same_of_drop (m := 67108864) (loadsFromMirror_drop s m rfl) .sec rfl
@[simp] theorem loadsFromMirror_mnt (s : State) (m : Mirror) : (loadsFromMirror s m).mnt = s.mnt :=
  same_of_drop (m := 67108864) (loadsFromMirror_drop s m rfl) .mnt rfl
@[simp] theorem loadsFromMirror_evt (s : State) (m : Mirror) : (loadsFromMirror s m).evt = s.evt :=
  same_of_drop (m := 67108864) (loadsFromMirror_drop s m rfl) .evt rfl
@[simp] theorem loadsFromMirror_req (s : State) (m : Mirror) : (loadsFromMirror s m).req = s.req :=
  same_of_drop (m := 67108864) (loadsFromMirror_drop s m rfl) .req rfl
@[simp] theorem loadsFromMirror_clock (s : State) (m : Mirror) : (loadsFromMirror s m).clock = s.clock :=
  same_of_drop (m := 67108864) (loadsFromMirror_drop s m rfl) .clock rfl
@[simp] theorem loadsFromMirror_free (s : State) (m : Mirror) : (loadsFromMirror s m).free = s.free :=
  same_of_drop (m := 67108864) (loadsFromMirror_drop s m rfl) .free rfl
@[simp] theorem loadsFromMirror_outbox (s : State) (m : Mirror) : (loadsFromMirror s m).outbox = s.outbox :=
  same_of_drop (m := 67108864) (loadsFromMirror_drop s m rfl) .outbox rfl
@[simp] theorem loadsFromMirror_pending (s : State) (m : Mirror) : (loadsFromMirror s m).pending = s.pending :=
  same_of_drop (m := 67108864) (loadsFromMirror_drop s m rfl) .pending rfl
@[simp] theorem abortConnect_dev (s : State) (c : ChainId) : (abortConnect s c).dev = s.dev :=
  same_of_drop (m := 12961415168) (abortConnect_drop s c rfl) .dev rfl
@[simp] theorem abortConnect_eng (s : State) (c : ChainId) : (abortConnect s c).eng = s.eng :=
  same_of_drop (m := 12961415168) (abortConnect_drop s c rfl) .eng rfl
@[simp] theorem abortConnect_img (s : State) (c : ChainId) : (abortConnect s c).img = s.img :=
  same_of_drop (m := 12961415168) (abortConnect_drop s c rfl) .img rfl
@[simp] theorem abortConnect_spl (s : State) (c : ChainId) : (abortConnect s c).spl = s.spl :=
  same_of_drop (m := 12961415168) (abortConnect_drop s c rfl) .spl rfl
@[simp] theorem abortConnect_tim (s : State) (c : ChainId) : (abortConnect s c).tim = s.tim :=
  same_of_drop (m := 12961415168) (abortConnect_drop s c rfl) .tim rfl
@[simp] theorem abortConnect_meas (s : State) (c : ChainId) : (abortConnect s c).meas = s.meas :=
  same_of_drop (m := 12961415168) (abortConnect_drop s c rfl) .meas rfl
@[simp] theorem abortConnect_arm (s : State) (c : ChainId) : (abortConnect s c).arm = s.arm :=
  same_of_drop (m := 12961415168) (abortConnect_drop s c rfl) .arm rfl
@[simp] theorem abortConnect_pwm (s : State) (c : ChainId) : (abortConnect s c).pwm = s.pwm :=
  same_of_drop (m := 12961415168) (abortConnect_drop s c rfl) .pwm rfl
@[simp] theorem abortConnect_esA (s : State) (c : ChainId) : (abortConnect s c).esA = s.esA :=
  same_of_drop (m := 12961415168) (abortConnect_drop s c rfl) .esA rfl
@[simp] theorem abortConnect_esB (s : State) (c : ChainId) : (abortConnect s c).esB = s.esB :=
  same_of_drop (m := 12961415168) (abortConnect_drop s c rfl) .esB rfl
@[simp] theorem abortConnect_est (s : State) (c : ChainId) : (abortConnect s c).est = s.est :=
  same_of_drop (m := 12961415168) (abortConnect_drop s c rfl) .est rfl
@[simp] theorem abortConnect_prt (s : State) (c : ChainId) : (abortConnect s c).prt = s.prt :=
  same_of_drop (m := 12961415168) (abortConnect_drop s c rfl) .prt rfl
@[simp] theorem abortConnect_dvt (s : State) (c : ChainId) : (abortConnect s c).dvt = s.dvt :=
  same_of_drop (m := 12961415168) (abortConnect_drop s c rfl) .dvt rfl
@[simp] theorem abortConnect_lbus (s : State) (c : ChainId) : (abortConnect s c).lbus = s.lbus :=
  same_of_drop (m := 12961415168) (abortConnect_drop s c rfl) .lbus rfl
@[simp] theorem abortConnect_pwr (s : State) (c : ChainId) : (abortConnect s c).pwr = s.pwr :=
  same_of_drop (m := 12961415168) (abortConnect_drop s c rfl) .pwr rfl
@[simp] theorem abortConnect_sec (s : State) (c : ChainId) : (abortConnect s c).sec = s.sec :=
  same_of_drop (m := 12961415168) (abortConnect_drop s c rfl) .sec rfl
@[simp] theorem abortConnect_req (s : State) (c : ChainId) : (abortConnect s c).req = s.req :=
  same_of_drop (m := 12961415168) (abortConnect_drop s c rfl) .req rfl
@[simp] theorem abortConnect_clock (s : State) (c : ChainId) : (abortConnect s c).clock = s.clock :=
  same_of_drop (m := 12961415168) (abortConnect_drop s c rfl) .clock rfl
@[simp] theorem abortConnect_free (s : State) (c : ChainId) : (abortConnect s c).free = s.free :=
  same_of_drop (m := 12961415168) (abortConnect_drop s c rfl) .free rfl
@[simp] theorem abortConnect_outbox (s : State) (c : ChainId) : (abortConnect s c).outbox = s.outbox :=
  same_of_drop (m := 12961415168) (abortConnect_drop s c rfl) .outbox rfl
@[simp] theorem abortConnect_pending (s : State) (c : ChainId) : (abortConnect s c).pending = s.pending :=
  same_of_drop (m := 12961415168) (abortConnect_drop s c rfl) .pending rfl
@[simp] theorem abortConnect_glk_legA (s : State) (c : ChainId) : (abortConnect s c).glk.legA = s.glk.legA := by
  have h := same_of_drop (m := 12961415168) (abortConnect_drop s c rfl) .legs rfl
  simp only [Block.same] at h; simp only [h]
@[simp] theorem abortConnect_glk_legB (s : State) (c : ChainId) : (abortConnect s c).glk.legB = s.glk.legB := by
  have h := same_of_drop (m := 12961415168) (abortConnect_drop s c rfl) .legs rfl
  simp only [Block.same] at h; simp only [h]
@[simp] theorem abortConnect_evt_nvm (s : State) (c : ChainId) : (abortConnect s c).evt.nvm = s.evt.nvm := by
  have h := same_of_drop (m := 12961415168) (abortConnect_drop s c rfl) .log rfl
  simp only [Block.same] at h; simp only [h]
@[simp] theorem abortConnect_evt_nvmPos (s : State) (c : ChainId) : (abortConnect s c).evt.nvmPos = s.evt.nvmPos := by
  have h := same_of_drop (m := 12961415168) (abortConnect_drop s c rfl) .log rfl
  simp only [Block.same] at h; simp only [h]
@[simp] theorem abortConnect_evt_wrapped (s : State) (c : ChainId) : (abortConnect s c).evt.wrapped = s.evt.wrapped := by
  have h := same_of_drop (m := 12961415168) (abortConnect_drop s c rfl) .log rfl
  simp only [Block.same] at h; simp only [h]
@[simp] theorem abortConnect_glk_fireHold (s : State) (c : ChainId) : (abortConnect s c).glk.fireHold = s.glk.fireHold := by
  have h := same_of_drop (m := 12961415168) (abortConnect_drop s c rfl) .switch rfl
  simp only [Block.same] at h; simp only [h]
@[simp] theorem abortConnect_glk_fireAll (s : State) (c : ChainId) : (abortConnect s c).glk.fireAll = s.glk.fireAll := by
  have h := same_of_drop (m := 12961415168) (abortConnect_drop s c rfl) .switch rfl
  simp only [Block.same] at h; simp only [h]
@[simp] theorem abortConnect_glk_closeAsserted (s : State) (c : ChainId) : (abortConnect s c).glk.closeAsserted = s.glk.closeAsserted := by
  have h := same_of_drop (m := 12961415168) (abortConnect_drop s c rfl) .switch rfl
  simp only [Block.same] at h; simp only [h]
@[simp] theorem abortConnect_glk_closeDue (s : State) (c : ChainId) : (abortConnect s c).glk.closeDue = s.glk.closeDue := by
  have h := same_of_drop (m := 12961415168) (abortConnect_drop s c rfl) .switch rfl
  simp only [Block.same] at h; simp only [h]
@[simp] theorem abortConnect_glk_statClosed (s : State) (c : ChainId) : (abortConnect s c).glk.statClosed = s.glk.statClosed := by
  have h := same_of_drop (m := 12961415168) (abortConnect_drop s c rfl) .switch rfl
  simp only [Block.same] at h; simp only [h]
@[simp] theorem abortConnect_thm_sdHotA (s : State) (c : ChainId) : (abortConnect s c).thm.sdHotA = s.thm.sdHotA := by
  have h := same_of_drop (m := 12961415168) (abortConnect_drop s c rfl) .shutdown rfl
  simp only [Block.same] at h; simp only [h]
@[simp] theorem abortConnect_thm_sdHotB (s : State) (c : ChainId) : (abortConnect s c).thm.sdHotB = s.thm.sdHotB := by
  have h := same_of_drop (m := 12961415168) (abortConnect_drop s c rfl) .shutdown rfl
  simp only [Block.same] at h; simp only [h]
@[simp] theorem abortConnect_thm_sdColdA (s : State) (c : ChainId) : (abortConnect s c).thm.sdColdA = s.thm.sdColdA := by
  have h := same_of_drop (m := 12961415168) (abortConnect_drop s c rfl) .shutdown rfl
  simp only [Block.same] at h; simp only [h]
@[simp] theorem abortConnect_thm_sdColdB (s : State) (c : ChainId) : (abortConnect s c).thm.sdColdB = s.thm.sdColdB := by
  have h := same_of_drop (m := 12961415168) (abortConnect_drop s c rfl) .shutdown rfl
  simp only [Block.same] at h; simp only [h]
@[simp] theorem protectiveZero_dev (s : State) (c : ChainId) (opens : Bool) : (protectiveZero s c opens).dev = s.dev :=
  same_of_drop (m := 12960628736) (protectiveZero_drop s c opens rfl) .dev rfl
@[simp] theorem protectiveZero_eng (s : State) (c : ChainId) (opens : Bool) : (protectiveZero s c opens).eng = s.eng :=
  same_of_drop (m := 12960628736) (protectiveZero_drop s c opens rfl) .eng rfl
@[simp] theorem protectiveZero_img (s : State) (c : ChainId) (opens : Bool) : (protectiveZero s c opens).img = s.img :=
  same_of_drop (m := 12960628736) (protectiveZero_drop s c opens rfl) .img rfl
@[simp] theorem protectiveZero_spl (s : State) (c : ChainId) (opens : Bool) : (protectiveZero s c opens).spl = s.spl :=
  same_of_drop (m := 12960628736) (protectiveZero_drop s c opens rfl) .spl rfl
@[simp] theorem protectiveZero_tim (s : State) (c : ChainId) (opens : Bool) : (protectiveZero s c opens).tim = s.tim :=
  same_of_drop (m := 12960628736) (protectiveZero_drop s c opens rfl) .tim rfl
@[simp] theorem protectiveZero_meas (s : State) (c : ChainId) (opens : Bool) : (protectiveZero s c opens).meas = s.meas :=
  same_of_drop (m := 12960628736) (protectiveZero_drop s c opens rfl) .meas rfl
@[simp] theorem protectiveZero_arm (s : State) (c : ChainId) (opens : Bool) : (protectiveZero s c opens).arm = s.arm :=
  same_of_drop (m := 12960628736) (protectiveZero_drop s c opens rfl) .arm rfl
@[simp] theorem protectiveZero_pwm (s : State) (c : ChainId) (opens : Bool) : (protectiveZero s c opens).pwm = s.pwm :=
  same_of_drop (m := 12960628736) (protectiveZero_drop s c opens rfl) .pwm rfl
@[simp] theorem protectiveZero_snA (s : State) (c : ChainId) (opens : Bool) : (protectiveZero s c opens).snA = s.snA :=
  same_of_drop (m := 12960628736) (protectiveZero_drop s c opens rfl) .snA rfl
@[simp] theorem protectiveZero_snB (s : State) (c : ChainId) (opens : Bool) : (protectiveZero s c opens).snB = s.snB :=
  same_of_drop (m := 12960628736) (protectiveZero_drop s c opens rfl) .snB rfl
@[simp] theorem protectiveZero_esA (s : State) (c : ChainId) (opens : Bool) : (protectiveZero s c opens).esA = s.esA :=
  same_of_drop (m := 12960628736) (protectiveZero_drop s c opens rfl) .esA rfl
@[simp] theorem protectiveZero_esB (s : State) (c : ChainId) (opens : Bool) : (protectiveZero s c opens).esB = s.esB :=
  same_of_drop (m := 12960628736) (protectiveZero_drop s c opens rfl) .esB rfl
@[simp] theorem protectiveZero_est (s : State) (c : ChainId) (opens : Bool) : (protectiveZero s c opens).est = s.est :=
  same_of_drop (m := 12960628736) (protectiveZero_drop s c opens rfl) .est rfl
@[simp] theorem protectiveZero_prt (s : State) (c : ChainId) (opens : Bool) : (protectiveZero s c opens).prt = s.prt :=
  same_of_drop (m := 12960628736) (protectiveZero_drop s c opens rfl) .prt rfl
@[simp] theorem protectiveZero_dvt (s : State) (c : ChainId) (opens : Bool) : (protectiveZero s c opens).dvt = s.dvt :=
  same_of_drop (m := 12960628736) (protectiveZero_drop s c opens rfl) .dvt rfl
@[simp] theorem protectiveZero_lbus (s : State) (c : ChainId) (opens : Bool) : (protectiveZero s c opens).lbus = s.lbus :=
  same_of_drop (m := 12960628736) (protectiveZero_drop s c opens rfl) .lbus rfl
@[simp] theorem protectiveZero_pwr (s : State) (c : ChainId) (opens : Bool) : (protectiveZero s c opens).pwr = s.pwr :=
  same_of_drop (m := 12960628736) (protectiveZero_drop s c opens rfl) .pwr rfl
@[simp] theorem protectiveZero_sec (s : State) (c : ChainId) (opens : Bool) : (protectiveZero s c opens).sec = s.sec :=
  same_of_drop (m := 12960628736) (protectiveZero_drop s c opens rfl) .sec rfl
@[simp] theorem protectiveZero_req (s : State) (c : ChainId) (opens : Bool) : (protectiveZero s c opens).req = s.req :=
  same_of_drop (m := 12960628736) (protectiveZero_drop s c opens rfl) .req rfl
@[simp] theorem protectiveZero_clock (s : State) (c : ChainId) (opens : Bool) : (protectiveZero s c opens).clock = s.clock :=
  same_of_drop (m := 12960628736) (protectiveZero_drop s c opens rfl) .clock rfl
@[simp] theorem protectiveZero_free (s : State) (c : ChainId) (opens : Bool) : (protectiveZero s c opens).free = s.free :=
  same_of_drop (m := 12960628736) (protectiveZero_drop s c opens rfl) .free rfl
@[simp] theorem protectiveZero_outbox (s : State) (c : ChainId) (opens : Bool) : (protectiveZero s c opens).outbox = s.outbox :=
  same_of_drop (m := 12960628736) (protectiveZero_drop s c opens rfl) .outbox rfl
@[simp] theorem protectiveZero_pending (s : State) (c : ChainId) (opens : Bool) : (protectiveZero s c opens).pending = s.pending :=
  same_of_drop (m := 12960628736) (protectiveZero_drop s c opens rfl) .pending rfl
@[simp] theorem protectiveZero_glk_legA (s : State) (c : ChainId) (opens : Bool) : (protectiveZero s c opens).glk.legA = s.glk.legA := by
  have h := same_of_drop (m := 12960628736) (protectiveZero_drop s c opens rfl) .legs rfl
  simp only [Block.same] at h; simp only [h]
@[simp] theorem protectiveZero_glk_legB (s : State) (c : ChainId) (opens : Bool) : (protectiveZero s c opens).glk.legB = s.glk.legB := by
  have h := same_of_drop (m := 12960628736) (protectiveZero_drop s c opens rfl) .legs rfl
  simp only [Block.same] at h; simp only [h]
@[simp] theorem protectiveZero_evt_nvm (s : State) (c : ChainId) (opens : Bool) : (protectiveZero s c opens).evt.nvm = s.evt.nvm := by
  have h := same_of_drop (m := 12960628736) (protectiveZero_drop s c opens rfl) .log rfl
  simp only [Block.same] at h; simp only [h]
@[simp] theorem protectiveZero_evt_nvmPos (s : State) (c : ChainId) (opens : Bool) : (protectiveZero s c opens).evt.nvmPos = s.evt.nvmPos := by
  have h := same_of_drop (m := 12960628736) (protectiveZero_drop s c opens rfl) .log rfl
  simp only [Block.same] at h; simp only [h]
@[simp] theorem protectiveZero_evt_wrapped (s : State) (c : ChainId) (opens : Bool) : (protectiveZero s c opens).evt.wrapped = s.evt.wrapped := by
  have h := same_of_drop (m := 12960628736) (protectiveZero_drop s c opens rfl) .log rfl
  simp only [Block.same] at h; simp only [h]
@[simp] theorem protectiveZero_glk_fireHold (s : State) (c : ChainId) (opens : Bool) : (protectiveZero s c opens).glk.fireHold = s.glk.fireHold := by
  have h := same_of_drop (m := 12960628736) (protectiveZero_drop s c opens rfl) .switch rfl
  simp only [Block.same] at h; simp only [h]
@[simp] theorem protectiveZero_glk_fireAll (s : State) (c : ChainId) (opens : Bool) : (protectiveZero s c opens).glk.fireAll = s.glk.fireAll := by
  have h := same_of_drop (m := 12960628736) (protectiveZero_drop s c opens rfl) .switch rfl
  simp only [Block.same] at h; simp only [h]
@[simp] theorem protectiveZero_glk_closeAsserted (s : State) (c : ChainId) (opens : Bool) : (protectiveZero s c opens).glk.closeAsserted = s.glk.closeAsserted := by
  have h := same_of_drop (m := 12960628736) (protectiveZero_drop s c opens rfl) .switch rfl
  simp only [Block.same] at h; simp only [h]
@[simp] theorem protectiveZero_glk_closeDue (s : State) (c : ChainId) (opens : Bool) : (protectiveZero s c opens).glk.closeDue = s.glk.closeDue := by
  have h := same_of_drop (m := 12960628736) (protectiveZero_drop s c opens rfl) .switch rfl
  simp only [Block.same] at h; simp only [h]
@[simp] theorem protectiveZero_glk_statClosed (s : State) (c : ChainId) (opens : Bool) : (protectiveZero s c opens).glk.statClosed = s.glk.statClosed := by
  have h := same_of_drop (m := 12960628736) (protectiveZero_drop s c opens rfl) .switch rfl
  simp only [Block.same] at h; simp only [h]
@[simp] theorem protectiveZero_thm_sdHotA (s : State) (c : ChainId) (opens : Bool) : (protectiveZero s c opens).thm.sdHotA = s.thm.sdHotA := by
  have h := same_of_drop (m := 12960628736) (protectiveZero_drop s c opens rfl) .shutdown rfl
  simp only [Block.same] at h; simp only [h]
@[simp] theorem protectiveZero_thm_sdHotB (s : State) (c : ChainId) (opens : Bool) : (protectiveZero s c opens).thm.sdHotB = s.thm.sdHotB := by
  have h := same_of_drop (m := 12960628736) (protectiveZero_drop s c opens rfl) .shutdown rfl
  simp only [Block.same] at h; simp only [h]
@[simp] theorem protectiveZero_thm_sdColdA (s : State) (c : ChainId) (opens : Bool) : (protectiveZero s c opens).thm.sdColdA = s.thm.sdColdA := by
  have h := same_of_drop (m := 12960628736) (protectiveZero_drop s c opens rfl) .shutdown rfl
  simp only [Block.same] at h; simp only [h]
@[simp] theorem protectiveZero_thm_sdColdB (s : State) (c : ChainId) (opens : Bool) : (protectiveZero s c opens).thm.sdColdB = s.thm.sdColdB := by
  have h := same_of_drop (m := 12960628736) (protectiveZero_drop s c opens rfl) .shutdown rfl
  simp only [Block.same] at h; simp only [h]
@[simp] theorem requestOpen_dev (s : State) (c : ChainId) : (requestOpen s c).dev = s.dev :=
  same_of_drop (m := 12961415168) (requestOpen_drop s c rfl) .dev rfl
@[simp] theorem requestOpen_eng (s : State) (c : ChainId) : (requestOpen s c).eng = s.eng :=
  same_of_drop (m := 12961415168) (requestOpen_drop s c rfl) .eng rfl
@[simp] theorem requestOpen_img (s : State) (c : ChainId) : (requestOpen s c).img = s.img :=
  same_of_drop (m := 12961415168) (requestOpen_drop s c rfl) .img rfl
@[simp] theorem requestOpen_spl (s : State) (c : ChainId) : (requestOpen s c).spl = s.spl :=
  same_of_drop (m := 12961415168) (requestOpen_drop s c rfl) .spl rfl
@[simp] theorem requestOpen_tim (s : State) (c : ChainId) : (requestOpen s c).tim = s.tim :=
  same_of_drop (m := 12961415168) (requestOpen_drop s c rfl) .tim rfl
@[simp] theorem requestOpen_meas (s : State) (c : ChainId) : (requestOpen s c).meas = s.meas :=
  same_of_drop (m := 12961415168) (requestOpen_drop s c rfl) .meas rfl
@[simp] theorem requestOpen_arm (s : State) (c : ChainId) : (requestOpen s c).arm = s.arm :=
  same_of_drop (m := 12961415168) (requestOpen_drop s c rfl) .arm rfl
@[simp] theorem requestOpen_pwm (s : State) (c : ChainId) : (requestOpen s c).pwm = s.pwm :=
  same_of_drop (m := 12961415168) (requestOpen_drop s c rfl) .pwm rfl
@[simp] theorem requestOpen_esA (s : State) (c : ChainId) : (requestOpen s c).esA = s.esA :=
  same_of_drop (m := 12961415168) (requestOpen_drop s c rfl) .esA rfl
@[simp] theorem requestOpen_esB (s : State) (c : ChainId) : (requestOpen s c).esB = s.esB :=
  same_of_drop (m := 12961415168) (requestOpen_drop s c rfl) .esB rfl
@[simp] theorem requestOpen_est (s : State) (c : ChainId) : (requestOpen s c).est = s.est :=
  same_of_drop (m := 12961415168) (requestOpen_drop s c rfl) .est rfl
@[simp] theorem requestOpen_prt (s : State) (c : ChainId) : (requestOpen s c).prt = s.prt :=
  same_of_drop (m := 12961415168) (requestOpen_drop s c rfl) .prt rfl
@[simp] theorem requestOpen_dvt (s : State) (c : ChainId) : (requestOpen s c).dvt = s.dvt :=
  same_of_drop (m := 12961415168) (requestOpen_drop s c rfl) .dvt rfl
@[simp] theorem requestOpen_lbus (s : State) (c : ChainId) : (requestOpen s c).lbus = s.lbus :=
  same_of_drop (m := 12961415168) (requestOpen_drop s c rfl) .lbus rfl
@[simp] theorem requestOpen_pwr (s : State) (c : ChainId) : (requestOpen s c).pwr = s.pwr :=
  same_of_drop (m := 12961415168) (requestOpen_drop s c rfl) .pwr rfl
@[simp] theorem requestOpen_sec (s : State) (c : ChainId) : (requestOpen s c).sec = s.sec :=
  same_of_drop (m := 12961415168) (requestOpen_drop s c rfl) .sec rfl
@[simp] theorem requestOpen_req (s : State) (c : ChainId) : (requestOpen s c).req = s.req :=
  same_of_drop (m := 12961415168) (requestOpen_drop s c rfl) .req rfl
@[simp] theorem requestOpen_clock (s : State) (c : ChainId) : (requestOpen s c).clock = s.clock :=
  same_of_drop (m := 12961415168) (requestOpen_drop s c rfl) .clock rfl
@[simp] theorem requestOpen_free (s : State) (c : ChainId) : (requestOpen s c).free = s.free :=
  same_of_drop (m := 12961415168) (requestOpen_drop s c rfl) .free rfl
@[simp] theorem requestOpen_outbox (s : State) (c : ChainId) : (requestOpen s c).outbox = s.outbox :=
  same_of_drop (m := 12961415168) (requestOpen_drop s c rfl) .outbox rfl
@[simp] theorem requestOpen_pending (s : State) (c : ChainId) : (requestOpen s c).pending = s.pending :=
  same_of_drop (m := 12961415168) (requestOpen_drop s c rfl) .pending rfl
@[simp] theorem requestOpen_glk_legA (s : State) (c : ChainId) : (requestOpen s c).glk.legA = s.glk.legA := by
  have h := same_of_drop (m := 12961415168) (requestOpen_drop s c rfl) .legs rfl
  simp only [Block.same] at h; simp only [h]
@[simp] theorem requestOpen_glk_legB (s : State) (c : ChainId) : (requestOpen s c).glk.legB = s.glk.legB := by
  have h := same_of_drop (m := 12961415168) (requestOpen_drop s c rfl) .legs rfl
  simp only [Block.same] at h; simp only [h]
@[simp] theorem requestOpen_evt_nvm (s : State) (c : ChainId) : (requestOpen s c).evt.nvm = s.evt.nvm := by
  have h := same_of_drop (m := 12961415168) (requestOpen_drop s c rfl) .log rfl
  simp only [Block.same] at h; simp only [h]
@[simp] theorem requestOpen_evt_nvmPos (s : State) (c : ChainId) : (requestOpen s c).evt.nvmPos = s.evt.nvmPos := by
  have h := same_of_drop (m := 12961415168) (requestOpen_drop s c rfl) .log rfl
  simp only [Block.same] at h; simp only [h]
@[simp] theorem requestOpen_evt_wrapped (s : State) (c : ChainId) : (requestOpen s c).evt.wrapped = s.evt.wrapped := by
  have h := same_of_drop (m := 12961415168) (requestOpen_drop s c rfl) .log rfl
  simp only [Block.same] at h; simp only [h]
@[simp] theorem requestOpen_glk_fireHold (s : State) (c : ChainId) : (requestOpen s c).glk.fireHold = s.glk.fireHold := by
  have h := same_of_drop (m := 12961415168) (requestOpen_drop s c rfl) .switch rfl
  simp only [Block.same] at h; simp only [h]
@[simp] theorem requestOpen_glk_fireAll (s : State) (c : ChainId) : (requestOpen s c).glk.fireAll = s.glk.fireAll := by
  have h := same_of_drop (m := 12961415168) (requestOpen_drop s c rfl) .switch rfl
  simp only [Block.same] at h; simp only [h]
@[simp] theorem requestOpen_glk_closeAsserted (s : State) (c : ChainId) : (requestOpen s c).glk.closeAsserted = s.glk.closeAsserted := by
  have h := same_of_drop (m := 12961415168) (requestOpen_drop s c rfl) .switch rfl
  simp only [Block.same] at h; simp only [h]
@[simp] theorem requestOpen_glk_closeDue (s : State) (c : ChainId) : (requestOpen s c).glk.closeDue = s.glk.closeDue := by
  have h := same_of_drop (m := 12961415168) (requestOpen_drop s c rfl) .switch rfl
  simp only [Block.same] at h; simp only [h]
@[simp] theorem requestOpen_glk_statClosed (s : State) (c : ChainId) : (requestOpen s c).glk.statClosed = s.glk.statClosed := by
  have h := same_of_drop (m := 12961415168) (requestOpen_drop s c rfl) .switch rfl
  simp only [Block.same] at h; simp only [h]
@[simp] theorem requestOpen_thm_sdHotA (s : State) (c : ChainId) : (requestOpen s c).thm.sdHotA = s.thm.sdHotA := by
  have h := same_of_drop (m := 12961415168) (requestOpen_drop s c rfl) .shutdown rfl
  simp only [Block.same] at h; simp only [h]
@[simp] theorem requestOpen_thm_sdHotB (s : State) (c : ChainId) : (requestOpen s c).thm.sdHotB = s.thm.sdHotB := by
  have h := same_of_drop (m := 12961415168) (requestOpen_drop s c rfl) .shutdown rfl
  simp only [Block.same] at h; simp only [h]
@[simp] theorem requestOpen_thm_sdColdA (s : State) (c : ChainId) : (requestOpen s c).thm.sdColdA = s.thm.sdColdA := by
  have h := same_of_drop (m := 12961415168) (requestOpen_drop s c rfl) .shutdown rfl
  simp only [Block.same] at h; simp only [h]
@[simp] theorem requestOpen_thm_sdColdB (s : State) (c : ChainId) : (requestOpen s c).thm.sdColdB = s.thm.sdColdB := by
  have h := same_of_drop (m := 12961415168) (requestOpen_drop s c rfl) .shutdown rfl
  simp only [Block.same] at h; simp only [h]
@[simp] theorem requestBlock_dev (s : State) (c : ChainId) : (requestBlock s c).dev = s.dev :=
  same_of_drop (m := 12961415168) (requestBlock_drop s c rfl) .dev rfl
@[simp] theorem requestBlock_eng (s : State) (c : ChainId) : (requestBlock s c).eng = s.eng :=
  same_of_drop (m := 12961415168) (requestBlock_drop s c rfl) .eng rfl
@[simp] theorem requestBlock_img (s : State) (c : ChainId) : (requestBlock s c).img = s.img :=
  same_of_drop (m := 12961415168) (requestBlock_drop s c rfl) .img rfl
@[simp] theorem requestBlock_spl (s : State) (c : ChainId) : (requestBlock s c).spl = s.spl :=
  same_of_drop (m := 12961415168) (requestBlock_drop s c rfl) .spl rfl
@[simp] theorem requestBlock_tim (s : State) (c : ChainId) : (requestBlock s c).tim = s.tim :=
  same_of_drop (m := 12961415168) (requestBlock_drop s c rfl) .tim rfl
@[simp] theorem requestBlock_meas (s : State) (c : ChainId) : (requestBlock s c).meas = s.meas :=
  same_of_drop (m := 12961415168) (requestBlock_drop s c rfl) .meas rfl
@[simp] theorem requestBlock_arm (s : State) (c : ChainId) : (requestBlock s c).arm = s.arm :=
  same_of_drop (m := 12961415168) (requestBlock_drop s c rfl) .arm rfl
@[simp] theorem requestBlock_pwm (s : State) (c : ChainId) : (requestBlock s c).pwm = s.pwm :=
  same_of_drop (m := 12961415168) (requestBlock_drop s c rfl) .pwm rfl
@[simp] theorem requestBlock_esA (s : State) (c : ChainId) : (requestBlock s c).esA = s.esA :=
  same_of_drop (m := 12961415168) (requestBlock_drop s c rfl) .esA rfl
@[simp] theorem requestBlock_esB (s : State) (c : ChainId) : (requestBlock s c).esB = s.esB :=
  same_of_drop (m := 12961415168) (requestBlock_drop s c rfl) .esB rfl
@[simp] theorem requestBlock_est (s : State) (c : ChainId) : (requestBlock s c).est = s.est :=
  same_of_drop (m := 12961415168) (requestBlock_drop s c rfl) .est rfl
@[simp] theorem requestBlock_prt (s : State) (c : ChainId) : (requestBlock s c).prt = s.prt :=
  same_of_drop (m := 12961415168) (requestBlock_drop s c rfl) .prt rfl
@[simp] theorem requestBlock_dvt (s : State) (c : ChainId) : (requestBlock s c).dvt = s.dvt :=
  same_of_drop (m := 12961415168) (requestBlock_drop s c rfl) .dvt rfl
@[simp] theorem requestBlock_lbus (s : State) (c : ChainId) : (requestBlock s c).lbus = s.lbus :=
  same_of_drop (m := 12961415168) (requestBlock_drop s c rfl) .lbus rfl
@[simp] theorem requestBlock_pwr (s : State) (c : ChainId) : (requestBlock s c).pwr = s.pwr :=
  same_of_drop (m := 12961415168) (requestBlock_drop s c rfl) .pwr rfl
@[simp] theorem requestBlock_sec (s : State) (c : ChainId) : (requestBlock s c).sec = s.sec :=
  same_of_drop (m := 12961415168) (requestBlock_drop s c rfl) .sec rfl
@[simp] theorem requestBlock_req (s : State) (c : ChainId) : (requestBlock s c).req = s.req :=
  same_of_drop (m := 12961415168) (requestBlock_drop s c rfl) .req rfl
@[simp] theorem requestBlock_clock (s : State) (c : ChainId) : (requestBlock s c).clock = s.clock :=
  same_of_drop (m := 12961415168) (requestBlock_drop s c rfl) .clock rfl
@[simp] theorem requestBlock_free (s : State) (c : ChainId) : (requestBlock s c).free = s.free :=
  same_of_drop (m := 12961415168) (requestBlock_drop s c rfl) .free rfl
@[simp] theorem requestBlock_outbox (s : State) (c : ChainId) : (requestBlock s c).outbox = s.outbox :=
  same_of_drop (m := 12961415168) (requestBlock_drop s c rfl) .outbox rfl
@[simp] theorem requestBlock_pending (s : State) (c : ChainId) : (requestBlock s c).pending = s.pending :=
  same_of_drop (m := 12961415168) (requestBlock_drop s c rfl) .pending rfl
@[simp] theorem requestBlock_glk_legA (s : State) (c : ChainId) : (requestBlock s c).glk.legA = s.glk.legA := by
  have h := same_of_drop (m := 12961415168) (requestBlock_drop s c rfl) .legs rfl
  simp only [Block.same] at h; simp only [h]
@[simp] theorem requestBlock_glk_legB (s : State) (c : ChainId) : (requestBlock s c).glk.legB = s.glk.legB := by
  have h := same_of_drop (m := 12961415168) (requestBlock_drop s c rfl) .legs rfl
  simp only [Block.same] at h; simp only [h]
@[simp] theorem requestBlock_evt_nvm (s : State) (c : ChainId) : (requestBlock s c).evt.nvm = s.evt.nvm := by
  have h := same_of_drop (m := 12961415168) (requestBlock_drop s c rfl) .log rfl
  simp only [Block.same] at h; simp only [h]
@[simp] theorem requestBlock_evt_nvmPos (s : State) (c : ChainId) : (requestBlock s c).evt.nvmPos = s.evt.nvmPos := by
  have h := same_of_drop (m := 12961415168) (requestBlock_drop s c rfl) .log rfl
  simp only [Block.same] at h; simp only [h]
@[simp] theorem requestBlock_evt_wrapped (s : State) (c : ChainId) : (requestBlock s c).evt.wrapped = s.evt.wrapped := by
  have h := same_of_drop (m := 12961415168) (requestBlock_drop s c rfl) .log rfl
  simp only [Block.same] at h; simp only [h]
@[simp] theorem requestBlock_glk_fireHold (s : State) (c : ChainId) : (requestBlock s c).glk.fireHold = s.glk.fireHold := by
  have h := same_of_drop (m := 12961415168) (requestBlock_drop s c rfl) .switch rfl
  simp only [Block.same] at h; simp only [h]
@[simp] theorem requestBlock_glk_fireAll (s : State) (c : ChainId) : (requestBlock s c).glk.fireAll = s.glk.fireAll := by
  have h := same_of_drop (m := 12961415168) (requestBlock_drop s c rfl) .switch rfl
  simp only [Block.same] at h; simp only [h]
@[simp] theorem requestBlock_glk_closeAsserted (s : State) (c : ChainId) : (requestBlock s c).glk.closeAsserted = s.glk.closeAsserted := by
  have h := same_of_drop (m := 12961415168) (requestBlock_drop s c rfl) .switch rfl
  simp only [Block.same] at h; simp only [h]
@[simp] theorem requestBlock_glk_closeDue (s : State) (c : ChainId) : (requestBlock s c).glk.closeDue = s.glk.closeDue := by
  have h := same_of_drop (m := 12961415168) (requestBlock_drop s c rfl) .switch rfl
  simp only [Block.same] at h; simp only [h]
@[simp] theorem requestBlock_glk_statClosed (s : State) (c : ChainId) : (requestBlock s c).glk.statClosed = s.glk.statClosed := by
  have h := same_of_drop (m := 12961415168) (requestBlock_drop s c rfl) .switch rfl
  simp only [Block.same] at h; simp only [h]
@[simp] theorem requestBlock_thm_sdHotA (s : State) (c : ChainId) : (requestBlock s c).thm.sdHotA = s.thm.sdHotA := by
  have h := same_of_drop (m := 12961415168) (requestBlock_drop s c rfl) .shutdown rfl
  simp only [Block.same] at h; simp only [h]
@[simp] theorem requestBlock_thm_sdHotB (s : State) (c : ChainId) : (requestBlock s c).thm.sdHotB = s.thm.sdHotB := by
  have h := same_of_drop (m := 12961415168) (requestBlock_drop s c rfl) .shutdown rfl
  simp only [Block.same] at h; simp only [h]
@[simp] theorem requestBlock_thm_sdColdA (s : State) (c : ChainId) : (requestBlock s c).thm.sdColdA = s.thm.sdColdA := by
  have h := same_of_drop (m := 12961415168) (requestBlock_drop s c rfl) .shutdown rfl
  simp only [Block.same] at h; simp only [h]
@[simp] theorem requestBlock_thm_sdColdB (s : State) (c : ChainId) : (requestBlock s c).thm.sdColdB = s.thm.sdColdB := by
  have h := same_of_drop (m := 12961415168) (requestBlock_drop s c rfl) .shutdown rfl
  simp only [Block.same] at h; simp only [h]
@[simp] theorem blockCell_dev (s : State) (cause : Nat) : (blockCell s cause).dev = s.dev :=
  same_of_drop (m := 558345789440) (blockCell_drop s cause rfl) .dev rfl
@[simp] theorem blockCell_eng (s : State) (cause : Nat) : (blockCell s cause).eng = s.eng :=
  same_of_drop (m := 558345789440) (blockCell_drop s cause rfl) .eng rfl
@[simp] theorem blockCell_img (s : State) (cause : Nat) : (blockCell s cause).img = s.img :=
  same_of_drop (m := 558345789440) (blockCell_drop s cause rfl) .img rfl
@[simp] theorem blockCell_spl (s : State) (cause : Nat) : (blockCell s cause).spl = s.spl :=
  same_of_drop (m := 558345789440) (blockCell_drop s cause rfl) .spl rfl
@[simp] theorem blockCell_tim (s : State) (cause : Nat) : (blockCell s cause).tim = s.tim :=
  same_of_drop (m := 558345789440) (blockCell_drop s cause rfl) .tim rfl
@[simp] theorem blockCell_meas (s : State) (cause : Nat) : (blockCell s cause).meas = s.meas :=
  same_of_drop (m := 558345789440) (blockCell_drop s cause rfl) .meas rfl
@[simp] theorem blockCell_arm_cell (s : State) (cause : Nat) : (blockCell s cause).arm.cell = s.arm.cell := by
  have h := same_of_drop (m := 558345789440) (blockCell_drop s cause rfl) .cell rfl
  simp only [Block.same] at h; simp only [h]
@[simp] theorem blockCell_arm_changes (s : State) (cause : Nat) : (blockCell s cause).arm.changes = s.arm.changes := by
  have h := same_of_drop (m := 558345789440) (blockCell_drop s cause rfl) .cell rfl
  simp only [Block.same] at h; simp only [h]
@[simp] theorem blockCell_arm_owner (s : State) (cause : Nat) : (blockCell s cause).arm.owner = s.arm.owner := by
  have h := same_of_drop (m := 558345789440) (blockCell_drop s cause rfl) .token rfl
  exact h
@[simp] theorem blockCell_arm_bypassed (s : State) (cause : Nat) : (blockCell s cause).arm.bypassed = s.arm.bypassed := by
  have h := same_of_drop (m := 558345789440) (blockCell_drop s cause rfl) .bypass rfl
  exact h
@[simp] theorem blockCell_pwm (s : State) (cause : Nat) : (blockCell s cause).pwm = s.pwm :=
  same_of_drop (m := 558345789440) (blockCell_drop s cause rfl) .pwm rfl
@[simp] theorem blockCell_chA (s : State) (cause : Nat) : (blockCell s cause).chA = s.chA :=
  same_of_drop (m := 558345789440) (blockCell_drop s cause rfl) .chA rfl
@[simp] theorem blockCell_chB (s : State) (cause : Nat) : (blockCell s cause).chB = s.chB :=
  same_of_drop (m := 558345789440) (blockCell_drop s cause rfl) .chB rfl
@[simp] theorem blockCell_snA (s : State) (cause : Nat) : (blockCell s cause).snA = s.snA :=
  same_of_drop (m := 558345789440) (blockCell_drop s cause rfl) .snA rfl
@[simp] theorem blockCell_snB (s : State) (cause : Nat) : (blockCell s cause).snB = s.snB :=
  same_of_drop (m := 558345789440) (blockCell_drop s cause rfl) .snB rfl
@[simp] theorem blockCell_esA (s : State) (cause : Nat) : (blockCell s cause).esA = s.esA :=
  same_of_drop (m := 558345789440) (blockCell_drop s cause rfl) .esA rfl
@[simp] theorem blockCell_esB (s : State) (cause : Nat) : (blockCell s cause).esB = s.esB :=
  same_of_drop (m := 558345789440) (blockCell_drop s cause rfl) .esB rfl
@[simp] theorem blockCell_est (s : State) (cause : Nat) : (blockCell s cause).est = s.est :=
  same_of_drop (m := 558345789440) (blockCell_drop s cause rfl) .est rfl
@[simp] theorem blockCell_thm (s : State) (cause : Nat) : (blockCell s cause).thm = s.thm :=
  same_of_drop (m := 558345789440) (blockCell_drop s cause rfl) .thm rfl
@[simp] theorem blockCell_prt (s : State) (cause : Nat) : (blockCell s cause).prt = s.prt :=
  same_of_drop (m := 558345789440) (blockCell_drop s cause rfl) .prt rfl
@[simp] theorem blockCell_dvt (s : State) (cause : Nat) : (blockCell s cause).dvt = s.dvt :=
  same_of_drop (m := 558345789440) (blockCell_drop s cause rfl) .dvt rfl
@[simp] theorem blockCell_lsw (s : State) (cause : Nat) : (blockCell s cause).lsw = s.lsw :=
  same_of_drop (m := 558345789440) (blockCell_drop s cause rfl) .lsw rfl
@[simp] theorem blockCell_lbus (s : State) (cause : Nat) : (blockCell s cause).lbus = s.lbus :=
  same_of_drop (m := 558345789440) (blockCell_drop s cause rfl) .lbus rfl
@[simp] theorem blockCell_pwr (s : State) (cause : Nat) : (blockCell s cause).pwr = s.pwr :=
  same_of_drop (m := 558345789440) (blockCell_drop s cause rfl) .pwr rfl
@[simp] theorem blockCell_sec (s : State) (cause : Nat) : (blockCell s cause).sec = s.sec :=
  same_of_drop (m := 558345789440) (blockCell_drop s cause rfl) .sec rfl
@[simp] theorem blockCell_mnt (s : State) (cause : Nat) : (blockCell s cause).mnt = s.mnt :=
  same_of_drop (m := 558345789440) (blockCell_drop s cause rfl) .mnt rfl
@[simp] theorem blockCell_req (s : State) (cause : Nat) : (blockCell s cause).req = s.req :=
  same_of_drop (m := 558345789440) (blockCell_drop s cause rfl) .req rfl
@[simp] theorem blockCell_clock (s : State) (cause : Nat) : (blockCell s cause).clock = s.clock :=
  same_of_drop (m := 558345789440) (blockCell_drop s cause rfl) .clock rfl
@[simp] theorem blockCell_free (s : State) (cause : Nat) : (blockCell s cause).free = s.free :=
  same_of_drop (m := 558345789440) (blockCell_drop s cause rfl) .free rfl
@[simp] theorem blockCell_outbox (s : State) (cause : Nat) : (blockCell s cause).outbox = s.outbox :=
  same_of_drop (m := 558345789440) (blockCell_drop s cause rfl) .outbox rfl
@[simp] theorem blockCell_pending (s : State) (cause : Nat) : (blockCell s cause).pending = s.pending :=
  same_of_drop (m := 558345789440) (blockCell_drop s cause rfl) .pending rfl
@[simp] theorem blockCell_evt_nvm (s : State) (cause : Nat) : (blockCell s cause).evt.nvm = s.evt.nvm := by
  have h := same_of_drop (m := 558345789440) (blockCell_drop s cause rfl) .log rfl
  simp only [Block.same] at h; simp only [h]
@[simp] theorem blockCell_evt_nvmPos (s : State) (cause : Nat) : (blockCell s cause).evt.nvmPos = s.evt.nvmPos := by
  have h := same_of_drop (m := 558345789440) (blockCell_drop s cause rfl) .log rfl
  simp only [Block.same] at h; simp only [h]
@[simp] theorem blockCell_evt_wrapped (s : State) (cause : Nat) : (blockCell s cause).evt.wrapped = s.evt.wrapped := by
  have h := same_of_drop (m := 558345789440) (blockCell_drop s cause rfl) .log rfl
  simp only [Block.same] at h; simp only [h]
@[simp] theorem blockCell_glk_fireHold (s : State) (cause : Nat) : (blockCell s cause).glk.fireHold = s.glk.fireHold := by
  have h := same_of_drop (m := 558345789440) (blockCell_drop s cause rfl) .switch rfl
  simp only [Block.same] at h; simp only [h]
@[simp] theorem blockCell_glk_fireAll (s : State) (cause : Nat) : (blockCell s cause).glk.fireAll = s.glk.fireAll := by
  have h := same_of_drop (m := 558345789440) (blockCell_drop s cause rfl) .switch rfl
  simp only [Block.same] at h; simp only [h]
@[simp] theorem blockCell_glk_closeAsserted (s : State) (cause : Nat) : (blockCell s cause).glk.closeAsserted = s.glk.closeAsserted := by
  have h := same_of_drop (m := 558345789440) (blockCell_drop s cause rfl) .switch rfl
  simp only [Block.same] at h; simp only [h]
@[simp] theorem blockCell_glk_closeDue (s : State) (cause : Nat) : (blockCell s cause).glk.closeDue = s.glk.closeDue := by
  have h := same_of_drop (m := 558345789440) (blockCell_drop s cause rfl) .switch rfl
  simp only [Block.same] at h; simp only [h]
@[simp] theorem blockCell_glk_statClosed (s : State) (cause : Nat) : (blockCell s cause).glk.statClosed = s.glk.statClosed := by
  have h := same_of_drop (m := 558345789440) (blockCell_drop s cause rfl) .switch rfl
  simp only [Block.same] at h; simp only [h]
@[simp] theorem decideBypass_dev (s : State) (source : Nat) (entry : Option Nat) : (decideBypass s source entry).dev = s.dev :=
  same_of_drop (m := 4960780529664) (decideBypass_drop s source entry rfl) .dev rfl
@[simp] theorem decideBypass_eng (s : State) (source : Nat) (entry : Option Nat) : (decideBypass s source entry).eng = s.eng :=
  same_of_drop (m := 4960780529664) (decideBypass_drop s source entry rfl) .eng rfl
@[simp] theorem decideBypass_img (s : State) (source : Nat) (entry : Option Nat) : (decideBypass s source entry).img = s.img :=
  same_of_drop (m := 4960780529664) (decideBypass_drop s source entry rfl) .img rfl
@[simp] theorem decideBypass_spl (s : State) (source : Nat) (entry : Option Nat) : (decideBypass s source entry).spl = s.spl :=
  same_of_drop (m := 4960780529664) (decideBypass_drop s source entry rfl) .spl rfl
@[simp] theorem decideBypass_tim (s : State) (source : Nat) (entry : Option Nat) : (decideBypass s source entry).tim = s.tim :=
  same_of_drop (m := 4960780529664) (decideBypass_drop s source entry rfl) .tim rfl
@[simp] theorem decideBypass_meas (s : State) (source : Nat) (entry : Option Nat) : (decideBypass s source entry).meas = s.meas :=
  same_of_drop (m := 4960780529664) (decideBypass_drop s source entry rfl) .meas rfl
@[simp] theorem decideBypass_arm_cell (s : State) (source : Nat) (entry : Option Nat) : (decideBypass s source entry).arm.cell = s.arm.cell := by
  have h := same_of_drop (m := 4960780529664) (decideBypass_drop s source entry rfl) .cell rfl
  simp only [Block.same] at h; simp only [h]
@[simp] theorem decideBypass_arm_changes (s : State) (source : Nat) (entry : Option Nat) : (decideBypass s source entry).arm.changes = s.arm.changes := by
  have h := same_of_drop (m := 4960780529664) (decideBypass_drop s source entry rfl) .cell rfl
  simp only [Block.same] at h; simp only [h]
@[simp] theorem decideBypass_arm_owner (s : State) (source : Nat) (entry : Option Nat) : (decideBypass s source entry).arm.owner = s.arm.owner := by
  have h := same_of_drop (m := 4960780529664) (decideBypass_drop s source entry rfl) .token rfl
  exact h
@[simp] theorem decideBypass_pwm (s : State) (source : Nat) (entry : Option Nat) : (decideBypass s source entry).pwm = s.pwm :=
  same_of_drop (m := 4960780529664) (decideBypass_drop s source entry rfl) .pwm rfl
@[simp] theorem decideBypass_esA (s : State) (source : Nat) (entry : Option Nat) : (decideBypass s source entry).esA = s.esA :=
  same_of_drop (m := 4960780529664) (decideBypass_drop s source entry rfl) .esA rfl
@[simp] theorem decideBypass_esB (s : State) (source : Nat) (entry : Option Nat) : (decideBypass s source entry).esB = s.esB :=
  same_of_drop (m := 4960780529664) (decideBypass_drop s source entry rfl) .esB rfl
@[simp] theorem decideBypass_est (s : State) (source : Nat) (entry : Option Nat) : (decideBypass s source entry).est = s.est :=
  same_of_drop (m := 4960780529664) (decideBypass_drop s source entry rfl) .est rfl
@[simp] theorem decideBypass_dvt (s : State) (source : Nat) (entry : Option Nat) : (decideBypass s source entry).dvt = s.dvt :=
  same_of_drop (m := 4960780529664) (decideBypass_drop s source entry rfl) .dvt rfl
@[simp] theorem decideBypass_lbus (s : State) (source : Nat) (entry : Option Nat) : (decideBypass s source entry).lbus = s.lbus :=
  same_of_drop (m := 4960780529664) (decideBypass_drop s source entry rfl) .lbus rfl
@[simp] theorem decideBypass_pwr (s : State) (source : Nat) (entry : Option Nat) : (decideBypass s source entry).pwr = s.pwr :=
  same_of_drop (m := 4960780529664) (decideBypass_drop s source entry rfl) .pwr rfl
@[simp] theorem decideBypass_sec (s : State) (source : Nat) (entry : Option Nat) : (decideBypass s source entry).sec = s.sec :=
  same_of_drop (m := 4960780529664) (decideBypass_drop s source entry rfl) .sec rfl
@[simp] theorem decideBypass_req (s : State) (source : Nat) (entry : Option Nat) : (decideBypass s source entry).req = s.req :=
  same_of_drop (m := 4960780529664) (decideBypass_drop s source entry rfl) .req rfl
@[simp] theorem decideBypass_clock (s : State) (source : Nat) (entry : Option Nat) : (decideBypass s source entry).clock = s.clock :=
  same_of_drop (m := 4960780529664) (decideBypass_drop s source entry rfl) .clock rfl
@[simp] theorem decideBypass_free (s : State) (source : Nat) (entry : Option Nat) : (decideBypass s source entry).free = s.free :=
  same_of_drop (m := 4960780529664) (decideBypass_drop s source entry rfl) .free rfl
@[simp] theorem decideBypass_outbox (s : State) (source : Nat) (entry : Option Nat) : (decideBypass s source entry).outbox = s.outbox :=
  same_of_drop (m := 4960780529664) (decideBypass_drop s source entry rfl) .outbox rfl
@[simp] theorem decideBypass_pending (s : State) (source : Nat) (entry : Option Nat) : (decideBypass s source entry).pending = s.pending :=
  same_of_drop (m := 4960780529664) (decideBypass_drop s source entry rfl) .pending rfl
@[simp] theorem decideBypass_prt_active (s : State) (source : Nat) (entry : Option Nat) : (decideBypass s source entry).prt.active = s.prt.active := by
  have h := same_of_drop (m := 4960780529664) (decideBypass_drop s source entry rfl) .raised rfl
  simp only [Block.same] at h; simp only [h]
@[simp] theorem decideBypass_prt_pulsed (s : State) (source : Nat) (entry : Option Nat) : (decideBypass s source entry).prt.pulsed = s.prt.pulsed := by
  have h := same_of_drop (m := 4960780529664) (decideBypass_drop s source entry rfl) .raised rfl
  simp only [Block.same] at h; simp only [h]
@[simp] theorem decideBypass_evt_nvm (s : State) (source : Nat) (entry : Option Nat) : (decideBypass s source entry).evt.nvm = s.evt.nvm := by
  have h := same_of_drop (m := 4960780529664) (decideBypass_drop s source entry rfl) .log rfl
  simp only [Block.same] at h; simp only [h]
@[simp] theorem decideBypass_evt_nvmPos (s : State) (source : Nat) (entry : Option Nat) : (decideBypass s source entry).evt.nvmPos = s.evt.nvmPos := by
  have h := same_of_drop (m := 4960780529664) (decideBypass_drop s source entry rfl) .log rfl
  simp only [Block.same] at h; simp only [h]
@[simp] theorem decideBypass_evt_wrapped (s : State) (source : Nat) (entry : Option Nat) : (decideBypass s source entry).evt.wrapped = s.evt.wrapped := by
  have h := same_of_drop (m := 4960780529664) (decideBypass_drop s source entry rfl) .log rfl
  simp only [Block.same] at h; simp only [h]
@[simp] theorem decideBypass_thm_sdHotA (s : State) (source : Nat) (entry : Option Nat) : (decideBypass s source entry).thm.sdHotA = s.thm.sdHotA := by
  have h := same_of_drop (m := 4960780529664) (decideBypass_drop s source entry rfl) .shutdown rfl
  simp only [Block.same] at h; simp only [h]
@[simp] theorem decideBypass_thm_sdHotB (s : State) (source : Nat) (entry : Option Nat) : (decideBypass s source entry).thm.sdHotB = s.thm.sdHotB := by
  have h := same_of_drop (m := 4960780529664) (decideBypass_drop s source entry rfl) .shutdown rfl
  simp only [Block.same] at h; simp only [h]
@[simp] theorem decideBypass_thm_sdColdA (s : State) (source : Nat) (entry : Option Nat) : (decideBypass s source entry).thm.sdColdA = s.thm.sdColdA := by
  have h := same_of_drop (m := 4960780529664) (decideBypass_drop s source entry rfl) .shutdown rfl
  simp only [Block.same] at h; simp only [h]
@[simp] theorem decideBypass_thm_sdColdB (s : State) (source : Nat) (entry : Option Nat) : (decideBypass s source entry).thm.sdColdB = s.thm.sdColdB := by
  have h := same_of_drop (m := 4960780529664) (decideBypass_drop s source entry rfl) .shutdown rfl
  simp only [Block.same] at h; simp only [h]
@[simp] theorem freePending_dev (s : State) : (freePending s).dev = s.dev :=
  same_of_drop (m := 134217728) (freePending_drop s rfl) .dev rfl
@[simp] theorem freePending_eng (s : State) : (freePending s).eng = s.eng :=
  same_of_drop (m := 134217728) (freePending_drop s rfl) .eng rfl
@[simp] theorem freePending_img (s : State) : (freePending s).img = s.img :=
  same_of_drop (m := 134217728) (freePending_drop s rfl) .img rfl
@[simp] theorem freePending_spl (s : State) : (freePending s).spl = s.spl :=
  same_of_drop (m := 134217728) (freePending_drop s rfl) .spl rfl
@[simp] theorem freePending_tim (s : State) : (freePending s).tim = s.tim :=
  same_of_drop (m := 134217728) (freePending_drop s rfl) .tim rfl
@[simp] theorem freePending_meas (s : State) : (freePending s).meas = s.meas :=
  same_of_drop (m := 134217728) (freePending_drop s rfl) .meas rfl
@[simp] theorem freePending_arm (s : State) : (freePending s).arm = s.arm :=
  same_of_drop (m := 134217728) (freePending_drop s rfl) .arm rfl
@[simp] theorem freePending_pwm (s : State) : (freePending s).pwm = s.pwm :=
  same_of_drop (m := 134217728) (freePending_drop s rfl) .pwm rfl
@[simp] theorem freePending_glk (s : State) : (freePending s).glk = s.glk :=
  same_of_drop (m := 134217728) (freePending_drop s rfl) .glk rfl
@[simp] theorem freePending_chA (s : State) : (freePending s).chA = s.chA :=
  same_of_drop (m := 134217728) (freePending_drop s rfl) .chA rfl
@[simp] theorem freePending_chB (s : State) : (freePending s).chB = s.chB :=
  same_of_drop (m := 134217728) (freePending_drop s rfl) .chB rfl
@[simp] theorem freePending_snA (s : State) : (freePending s).snA = s.snA :=
  same_of_drop (m := 134217728) (freePending_drop s rfl) .snA rfl
@[simp] theorem freePending_snB (s : State) : (freePending s).snB = s.snB :=
  same_of_drop (m := 134217728) (freePending_drop s rfl) .snB rfl
@[simp] theorem freePending_esA (s : State) : (freePending s).esA = s.esA :=
  same_of_drop (m := 134217728) (freePending_drop s rfl) .esA rfl
@[simp] theorem freePending_esB (s : State) : (freePending s).esB = s.esB :=
  same_of_drop (m := 134217728) (freePending_drop s rfl) .esB rfl
@[simp] theorem freePending_est (s : State) : (freePending s).est = s.est :=
  same_of_drop (m := 134217728) (freePending_drop s rfl) .est rfl
@[simp] theorem freePending_thm (s : State) : (freePending s).thm = s.thm :=
  same_of_drop (m := 134217728) (freePending_drop s rfl) .thm rfl
@[simp] theorem freePending_prt (s : State) : (freePending s).prt = s.prt :=
  same_of_drop (m := 134217728) (freePending_drop s rfl) .prt rfl
@[simp] theorem freePending_dvt (s : State) : (freePending s).dvt = s.dvt :=
  same_of_drop (m := 134217728) (freePending_drop s rfl) .dvt rfl
@[simp] theorem freePending_lsw (s : State) : (freePending s).lsw = s.lsw :=
  same_of_drop (m := 134217728) (freePending_drop s rfl) .lsw rfl
@[simp] theorem freePending_pwr (s : State) : (freePending s).pwr = s.pwr :=
  same_of_drop (m := 134217728) (freePending_drop s rfl) .pwr rfl
@[simp] theorem freePending_sec (s : State) : (freePending s).sec = s.sec :=
  same_of_drop (m := 134217728) (freePending_drop s rfl) .sec rfl
@[simp] theorem freePending_mnt (s : State) : (freePending s).mnt = s.mnt :=
  same_of_drop (m := 134217728) (freePending_drop s rfl) .mnt rfl
@[simp] theorem freePending_evt (s : State) : (freePending s).evt = s.evt :=
  same_of_drop (m := 134217728) (freePending_drop s rfl) .evt rfl
@[simp] theorem freePending_req (s : State) : (freePending s).req = s.req :=
  same_of_drop (m := 134217728) (freePending_drop s rfl) .req rfl
@[simp] theorem freePending_clock (s : State) : (freePending s).clock = s.clock :=
  same_of_drop (m := 134217728) (freePending_drop s rfl) .clock rfl
@[simp] theorem freePending_free (s : State) : (freePending s).free = s.free :=
  same_of_drop (m := 134217728) (freePending_drop s rfl) .free rfl
@[simp] theorem freePending_outbox (s : State) : (freePending s).outbox = s.outbox :=
  same_of_drop (m := 134217728) (freePending_drop s rfl) .outbox rfl
@[simp] theorem freePending_pending (s : State) : (freePending s).pending = s.pending :=
  same_of_drop (m := 134217728) (freePending_drop s rfl) .pending rfl
@[simp] theorem startBus_dev (s : State) : (startBus s).dev = s.dev :=
  same_of_drop (m := 134217728) (startBus_drop s rfl) .dev rfl
@[simp] theorem startBus_eng (s : State) : (startBus s).eng = s.eng :=
  same_of_drop (m := 134217728) (startBus_drop s rfl) .eng rfl
@[simp] theorem startBus_img (s : State) : (startBus s).img = s.img :=
  same_of_drop (m := 134217728) (startBus_drop s rfl) .img rfl
@[simp] theorem startBus_spl (s : State) : (startBus s).spl = s.spl :=
  same_of_drop (m := 134217728) (startBus_drop s rfl) .spl rfl
@[simp] theorem startBus_tim (s : State) : (startBus s).tim = s.tim :=
  same_of_drop (m := 134217728) (startBus_drop s rfl) .tim rfl
@[simp] theorem startBus_meas (s : State) : (startBus s).meas = s.meas :=
  same_of_drop (m := 134217728) (startBus_drop s rfl) .meas rfl
@[simp] theorem startBus_arm (s : State) : (startBus s).arm = s.arm :=
  same_of_drop (m := 134217728) (startBus_drop s rfl) .arm rfl
@[simp] theorem startBus_pwm (s : State) : (startBus s).pwm = s.pwm :=
  same_of_drop (m := 134217728) (startBus_drop s rfl) .pwm rfl
@[simp] theorem startBus_glk (s : State) : (startBus s).glk = s.glk :=
  same_of_drop (m := 134217728) (startBus_drop s rfl) .glk rfl
@[simp] theorem startBus_chA (s : State) : (startBus s).chA = s.chA :=
  same_of_drop (m := 134217728) (startBus_drop s rfl) .chA rfl
@[simp] theorem startBus_chB (s : State) : (startBus s).chB = s.chB :=
  same_of_drop (m := 134217728) (startBus_drop s rfl) .chB rfl
@[simp] theorem startBus_snA (s : State) : (startBus s).snA = s.snA :=
  same_of_drop (m := 134217728) (startBus_drop s rfl) .snA rfl
@[simp] theorem startBus_snB (s : State) : (startBus s).snB = s.snB :=
  same_of_drop (m := 134217728) (startBus_drop s rfl) .snB rfl
@[simp] theorem startBus_esA (s : State) : (startBus s).esA = s.esA :=
  same_of_drop (m := 134217728) (startBus_drop s rfl) .esA rfl
@[simp] theorem startBus_esB (s : State) : (startBus s).esB = s.esB :=
  same_of_drop (m := 134217728) (startBus_drop s rfl) .esB rfl
@[simp] theorem startBus_est (s : State) : (startBus s).est = s.est :=
  same_of_drop (m := 134217728) (startBus_drop s rfl) .est rfl
@[simp] theorem startBus_thm (s : State) : (startBus s).thm = s.thm :=
  same_of_drop (m := 134217728) (startBus_drop s rfl) .thm rfl
@[simp] theorem startBus_prt (s : State) : (startBus s).prt = s.prt :=
  same_of_drop (m := 134217728) (startBus_drop s rfl) .prt rfl
@[simp] theorem startBus_dvt (s : State) : (startBus s).dvt = s.dvt :=
  same_of_drop (m := 134217728) (startBus_drop s rfl) .dvt rfl
@[simp] theorem startBus_lsw (s : State) : (startBus s).lsw = s.lsw :=
  same_of_drop (m := 134217728) (startBus_drop s rfl) .lsw rfl
@[simp] theorem startBus_pwr (s : State) : (startBus s).pwr = s.pwr :=
  same_of_drop (m := 134217728) (startBus_drop s rfl) .pwr rfl
@[simp] theorem startBus_sec (s : State) : (startBus s).sec = s.sec :=
  same_of_drop (m := 134217728) (startBus_drop s rfl) .sec rfl
@[simp] theorem startBus_mnt (s : State) : (startBus s).mnt = s.mnt :=
  same_of_drop (m := 134217728) (startBus_drop s rfl) .mnt rfl
@[simp] theorem startBus_evt (s : State) : (startBus s).evt = s.evt :=
  same_of_drop (m := 134217728) (startBus_drop s rfl) .evt rfl
@[simp] theorem startBus_req (s : State) : (startBus s).req = s.req :=
  same_of_drop (m := 134217728) (startBus_drop s rfl) .req rfl
@[simp] theorem startBus_clock (s : State) : (startBus s).clock = s.clock :=
  same_of_drop (m := 134217728) (startBus_drop s rfl) .clock rfl
@[simp] theorem startBus_free (s : State) : (startBus s).free = s.free :=
  same_of_drop (m := 134217728) (startBus_drop s rfl) .free rfl
@[simp] theorem startBus_outbox (s : State) : (startBus s).outbox = s.outbox :=
  same_of_drop (m := 134217728) (startBus_drop s rfl) .outbox rfl
@[simp] theorem startBus_pending (s : State) : (startBus s).pending = s.pending :=
  same_of_drop (m := 134217728) (startBus_drop s rfl) .pending rfl
@[simp] theorem busToMonitor_dev (s : State) : (busToMonitor s).dev = s.dev :=
  same_of_drop (m := 8724152320) (busToMonitor_drop s rfl) .dev rfl
@[simp] theorem busToMonitor_eng (s : State) : (busToMonitor s).eng = s.eng :=
  same_of_drop (m := 8724152320) (busToMonitor_drop s rfl) .eng rfl
@[simp] theorem busToMonitor_img (s : State) : (busToMonitor s).img = s.img :=
  same_of_drop (m := 8724152320) (busToMonitor_drop s rfl) .img rfl
@[simp] theorem busToMonitor_spl (s : State) : (busToMonitor s).spl = s.spl :=
  same_of_drop (m := 8724152320) (busToMonitor_drop s rfl) .spl rfl
@[simp] theorem busToMonitor_tim (s : State) : (busToMonitor s).tim = s.tim :=
  same_of_drop (m := 8724152320) (busToMonitor_drop s rfl) .tim rfl
@[simp] theorem busToMonitor_meas (s : State) : (busToMonitor s).meas = s.meas :=
  same_of_drop (m := 8724152320) (busToMonitor_drop s rfl) .meas rfl
@[simp] theorem busToMonitor_arm (s : State) : (busToMonitor s).arm = s.arm :=
  same_of_drop (m := 8724152320) (busToMonitor_drop s rfl) .arm rfl
@[simp] theorem busToMonitor_pwm (s : State) : (busToMonitor s).pwm = s.pwm :=
  same_of_drop (m := 8724152320) (busToMonitor_drop s rfl) .pwm rfl
@[simp] theorem busToMonitor_glk (s : State) : (busToMonitor s).glk = s.glk :=
  same_of_drop (m := 8724152320) (busToMonitor_drop s rfl) .glk rfl
@[simp] theorem busToMonitor_chA (s : State) : (busToMonitor s).chA = s.chA :=
  same_of_drop (m := 8724152320) (busToMonitor_drop s rfl) .chA rfl
@[simp] theorem busToMonitor_chB (s : State) : (busToMonitor s).chB = s.chB :=
  same_of_drop (m := 8724152320) (busToMonitor_drop s rfl) .chB rfl
@[simp] theorem busToMonitor_snA (s : State) : (busToMonitor s).snA = s.snA :=
  same_of_drop (m := 8724152320) (busToMonitor_drop s rfl) .snA rfl
@[simp] theorem busToMonitor_snB (s : State) : (busToMonitor s).snB = s.snB :=
  same_of_drop (m := 8724152320) (busToMonitor_drop s rfl) .snB rfl
@[simp] theorem busToMonitor_esA (s : State) : (busToMonitor s).esA = s.esA :=
  same_of_drop (m := 8724152320) (busToMonitor_drop s rfl) .esA rfl
@[simp] theorem busToMonitor_esB (s : State) : (busToMonitor s).esB = s.esB :=
  same_of_drop (m := 8724152320) (busToMonitor_drop s rfl) .esB rfl
@[simp] theorem busToMonitor_est (s : State) : (busToMonitor s).est = s.est :=
  same_of_drop (m := 8724152320) (busToMonitor_drop s rfl) .est rfl
@[simp] theorem busToMonitor_thm (s : State) : (busToMonitor s).thm = s.thm :=
  same_of_drop (m := 8724152320) (busToMonitor_drop s rfl) .thm rfl
@[simp] theorem busToMonitor_prt (s : State) : (busToMonitor s).prt = s.prt :=
  same_of_drop (m := 8724152320) (busToMonitor_drop s rfl) .prt rfl
@[simp] theorem busToMonitor_dvt (s : State) : (busToMonitor s).dvt = s.dvt :=
  same_of_drop (m := 8724152320) (busToMonitor_drop s rfl) .dvt rfl
@[simp] theorem busToMonitor_lsw (s : State) : (busToMonitor s).lsw = s.lsw :=
  same_of_drop (m := 8724152320) (busToMonitor_drop s rfl) .lsw rfl
@[simp] theorem busToMonitor_pwr (s : State) : (busToMonitor s).pwr = s.pwr :=
  same_of_drop (m := 8724152320) (busToMonitor_drop s rfl) .pwr rfl
@[simp] theorem busToMonitor_sec (s : State) : (busToMonitor s).sec = s.sec :=
  same_of_drop (m := 8724152320) (busToMonitor_drop s rfl) .sec rfl
@[simp] theorem busToMonitor_mnt (s : State) : (busToMonitor s).mnt = s.mnt :=
  same_of_drop (m := 8724152320) (busToMonitor_drop s rfl) .mnt rfl
@[simp] theorem busToMonitor_req (s : State) : (busToMonitor s).req = s.req :=
  same_of_drop (m := 8724152320) (busToMonitor_drop s rfl) .req rfl
@[simp] theorem busToMonitor_clock (s : State) : (busToMonitor s).clock = s.clock :=
  same_of_drop (m := 8724152320) (busToMonitor_drop s rfl) .clock rfl
@[simp] theorem busToMonitor_free (s : State) : (busToMonitor s).free = s.free :=
  same_of_drop (m := 8724152320) (busToMonitor_drop s rfl) .free rfl
@[simp] theorem busToMonitor_outbox (s : State) : (busToMonitor s).outbox = s.outbox :=
  same_of_drop (m := 8724152320) (busToMonitor_drop s rfl) .outbox rfl
@[simp] theorem busToMonitor_pending (s : State) : (busToMonitor s).pending = s.pending :=
  same_of_drop (m := 8724152320) (busToMonitor_drop s rfl) .pending rfl
@[simp] theorem busToMonitor_evt_nvm (s : State) : (busToMonitor s).evt.nvm = s.evt.nvm := by
  have h := same_of_drop (m := 8724152320) (busToMonitor_drop s rfl) .log rfl
  simp only [Block.same] at h; simp only [h]
@[simp] theorem busToMonitor_evt_nvmPos (s : State) : (busToMonitor s).evt.nvmPos = s.evt.nvmPos := by
  have h := same_of_drop (m := 8724152320) (busToMonitor_drop s rfl) .log rfl
  simp only [Block.same] at h; simp only [h]
@[simp] theorem busToMonitor_evt_wrapped (s : State) : (busToMonitor s).evt.wrapped = s.evt.wrapped := by
  have h := same_of_drop (m := 8724152320) (busToMonitor_drop s rfl) .log rfl
  simp only [Block.same] at h; simp only [h]
@[simp] theorem endAllActs_dev (s : State) (cause : Nat) : (endAllActs s cause).dev = s.dev :=
  same_of_drop (m := 12960628736) (endAllActs_drop s cause rfl) .dev rfl
@[simp] theorem endAllActs_eng (s : State) (cause : Nat) : (endAllActs s cause).eng = s.eng :=
  same_of_drop (m := 12960628736) (endAllActs_drop s cause rfl) .eng rfl
@[simp] theorem endAllActs_img (s : State) (cause : Nat) : (endAllActs s cause).img = s.img :=
  same_of_drop (m := 12960628736) (endAllActs_drop s cause rfl) .img rfl
@[simp] theorem endAllActs_spl (s : State) (cause : Nat) : (endAllActs s cause).spl = s.spl :=
  same_of_drop (m := 12960628736) (endAllActs_drop s cause rfl) .spl rfl
@[simp] theorem endAllActs_tim (s : State) (cause : Nat) : (endAllActs s cause).tim = s.tim :=
  same_of_drop (m := 12960628736) (endAllActs_drop s cause rfl) .tim rfl
@[simp] theorem endAllActs_meas (s : State) (cause : Nat) : (endAllActs s cause).meas = s.meas :=
  same_of_drop (m := 12960628736) (endAllActs_drop s cause rfl) .meas rfl
@[simp] theorem endAllActs_arm (s : State) (cause : Nat) : (endAllActs s cause).arm = s.arm :=
  same_of_drop (m := 12960628736) (endAllActs_drop s cause rfl) .arm rfl
@[simp] theorem endAllActs_pwm (s : State) (cause : Nat) : (endAllActs s cause).pwm = s.pwm :=
  same_of_drop (m := 12960628736) (endAllActs_drop s cause rfl) .pwm rfl
@[simp] theorem endAllActs_snA (s : State) (cause : Nat) : (endAllActs s cause).snA = s.snA :=
  same_of_drop (m := 12960628736) (endAllActs_drop s cause rfl) .snA rfl
@[simp] theorem endAllActs_snB (s : State) (cause : Nat) : (endAllActs s cause).snB = s.snB :=
  same_of_drop (m := 12960628736) (endAllActs_drop s cause rfl) .snB rfl
@[simp] theorem endAllActs_esA (s : State) (cause : Nat) : (endAllActs s cause).esA = s.esA :=
  same_of_drop (m := 12960628736) (endAllActs_drop s cause rfl) .esA rfl
@[simp] theorem endAllActs_esB (s : State) (cause : Nat) : (endAllActs s cause).esB = s.esB :=
  same_of_drop (m := 12960628736) (endAllActs_drop s cause rfl) .esB rfl
@[simp] theorem endAllActs_est (s : State) (cause : Nat) : (endAllActs s cause).est = s.est :=
  same_of_drop (m := 12960628736) (endAllActs_drop s cause rfl) .est rfl
@[simp] theorem endAllActs_prt (s : State) (cause : Nat) : (endAllActs s cause).prt = s.prt :=
  same_of_drop (m := 12960628736) (endAllActs_drop s cause rfl) .prt rfl
@[simp] theorem endAllActs_dvt (s : State) (cause : Nat) : (endAllActs s cause).dvt = s.dvt :=
  same_of_drop (m := 12960628736) (endAllActs_drop s cause rfl) .dvt rfl
@[simp] theorem endAllActs_lbus (s : State) (cause : Nat) : (endAllActs s cause).lbus = s.lbus :=
  same_of_drop (m := 12960628736) (endAllActs_drop s cause rfl) .lbus rfl
@[simp] theorem endAllActs_pwr (s : State) (cause : Nat) : (endAllActs s cause).pwr = s.pwr :=
  same_of_drop (m := 12960628736) (endAllActs_drop s cause rfl) .pwr rfl
@[simp] theorem endAllActs_sec (s : State) (cause : Nat) : (endAllActs s cause).sec = s.sec :=
  same_of_drop (m := 12960628736) (endAllActs_drop s cause rfl) .sec rfl
@[simp] theorem endAllActs_req (s : State) (cause : Nat) : (endAllActs s cause).req = s.req :=
  same_of_drop (m := 12960628736) (endAllActs_drop s cause rfl) .req rfl
@[simp] theorem endAllActs_clock (s : State) (cause : Nat) : (endAllActs s cause).clock = s.clock :=
  same_of_drop (m := 12960628736) (endAllActs_drop s cause rfl) .clock rfl
@[simp] theorem endAllActs_free (s : State) (cause : Nat) : (endAllActs s cause).free = s.free :=
  same_of_drop (m := 12960628736) (endAllActs_drop s cause rfl) .free rfl
@[simp] theorem endAllActs_outbox (s : State) (cause : Nat) : (endAllActs s cause).outbox = s.outbox :=
  same_of_drop (m := 12960628736) (endAllActs_drop s cause rfl) .outbox rfl
@[simp] theorem endAllActs_pending (s : State) (cause : Nat) : (endAllActs s cause).pending = s.pending :=
  same_of_drop (m := 12960628736) (endAllActs_drop s cause rfl) .pending rfl
@[simp] theorem endAllActs_glk_legA (s : State) (cause : Nat) : (endAllActs s cause).glk.legA = s.glk.legA := by
  have h := same_of_drop (m := 12960628736) (endAllActs_drop s cause rfl) .legs rfl
  simp only [Block.same] at h; simp only [h]
@[simp] theorem endAllActs_glk_legB (s : State) (cause : Nat) : (endAllActs s cause).glk.legB = s.glk.legB := by
  have h := same_of_drop (m := 12960628736) (endAllActs_drop s cause rfl) .legs rfl
  simp only [Block.same] at h; simp only [h]
@[simp] theorem endAllActs_evt_nvm (s : State) (cause : Nat) : (endAllActs s cause).evt.nvm = s.evt.nvm := by
  have h := same_of_drop (m := 12960628736) (endAllActs_drop s cause rfl) .log rfl
  simp only [Block.same] at h; simp only [h]
@[simp] theorem endAllActs_evt_nvmPos (s : State) (cause : Nat) : (endAllActs s cause).evt.nvmPos = s.evt.nvmPos := by
  have h := same_of_drop (m := 12960628736) (endAllActs_drop s cause rfl) .log rfl
  simp only [Block.same] at h; simp only [h]
@[simp] theorem endAllActs_evt_wrapped (s : State) (cause : Nat) : (endAllActs s cause).evt.wrapped = s.evt.wrapped := by
  have h := same_of_drop (m := 12960628736) (endAllActs_drop s cause rfl) .log rfl
  simp only [Block.same] at h; simp only [h]
@[simp] theorem endAllActs_glk_fireHold (s : State) (cause : Nat) : (endAllActs s cause).glk.fireHold = s.glk.fireHold := by
  have h := same_of_drop (m := 12960628736) (endAllActs_drop s cause rfl) .switch rfl
  simp only [Block.same] at h; simp only [h]
@[simp] theorem endAllActs_glk_fireAll (s : State) (cause : Nat) : (endAllActs s cause).glk.fireAll = s.glk.fireAll := by
  have h := same_of_drop (m := 12960628736) (endAllActs_drop s cause rfl) .switch rfl
  simp only [Block.same] at h; simp only [h]
@[simp] theorem endAllActs_glk_closeAsserted (s : State) (cause : Nat) : (endAllActs s cause).glk.closeAsserted = s.glk.closeAsserted := by
  have h := same_of_drop (m := 12960628736) (endAllActs_drop s cause rfl) .switch rfl
  simp only [Block.same] at h; simp only [h]
@[simp] theorem endAllActs_glk_closeDue (s : State) (cause : Nat) : (endAllActs s cause).glk.closeDue = s.glk.closeDue := by
  have h := same_of_drop (m := 12960628736) (endAllActs_drop s cause rfl) .switch rfl
  simp only [Block.same] at h; simp only [h]
@[simp] theorem endAllActs_glk_statClosed (s : State) (cause : Nat) : (endAllActs s cause).glk.statClosed = s.glk.statClosed := by
  have h := same_of_drop (m := 12960628736) (endAllActs_drop s cause rfl) .switch rfl
  simp only [Block.same] at h; simp only [h]
@[simp] theorem endAllActs_thm_sdHotA (s : State) (cause : Nat) : (endAllActs s cause).thm.sdHotA = s.thm.sdHotA := by
  have h := same_of_drop (m := 12960628736) (endAllActs_drop s cause rfl) .shutdown rfl
  simp only [Block.same] at h; simp only [h]
@[simp] theorem endAllActs_thm_sdHotB (s : State) (cause : Nat) : (endAllActs s cause).thm.sdHotB = s.thm.sdHotB := by
  have h := same_of_drop (m := 12960628736) (endAllActs_drop s cause rfl) .shutdown rfl
  simp only [Block.same] at h; simp only [h]
@[simp] theorem endAllActs_thm_sdColdA (s : State) (cause : Nat) : (endAllActs s cause).thm.sdColdA = s.thm.sdColdA := by
  have h := same_of_drop (m := 12960628736) (endAllActs_drop s cause rfl) .shutdown rfl
  simp only [Block.same] at h; simp only [h]
@[simp] theorem endAllActs_thm_sdColdB (s : State) (cause : Nat) : (endAllActs s cause).thm.sdColdB = s.thm.sdColdB := by
  have h := same_of_drop (m := 12960628736) (endAllActs_drop s cause rfl) .shutdown rfl
  simp only [Block.same] at h; simp only [h]
@[simp] theorem takeFirst_dev (s0 : State) : (takeFirst s0).dev = s0.dev :=
  same_of_drop (m := 8691427328) (takeFirst_drop s0 rfl) .dev rfl
@[simp] theorem takeFirst_eng (s0 : State) : (takeFirst s0).eng = s0.eng :=
  same_of_drop (m := 8691427328) (takeFirst_drop s0 rfl) .eng rfl
@[simp] theorem takeFirst_img (s0 : State) : (takeFirst s0).img = s0.img :=
  same_of_drop (m := 8691427328) (takeFirst_drop s0 rfl) .img rfl
@[simp] theorem takeFirst_spl (s0 : State) : (takeFirst s0).spl = s0.spl :=
  same_of_drop (m := 8691427328) (takeFirst_drop s0 rfl) .spl rfl
@[simp] theorem takeFirst_tim (s0 : State) : (takeFirst s0).tim = s0.tim :=
  same_of_drop (m := 8691427328) (takeFirst_drop s0 rfl) .tim rfl
@[simp] theorem takeFirst_meas (s0 : State) : (takeFirst s0).meas = s0.meas :=
  same_of_drop (m := 8691427328) (takeFirst_drop s0 rfl) .meas rfl
@[simp] theorem takeFirst_arm_cell (s0 : State) : (takeFirst s0).arm.cell = s0.arm.cell := by
  have h := same_of_drop (m := 8691427328) (takeFirst_drop s0 rfl) .cell rfl
  simp only [Block.same] at h; simp only [h]
@[simp] theorem takeFirst_arm_changes (s0 : State) : (takeFirst s0).arm.changes = s0.arm.changes := by
  have h := same_of_drop (m := 8691427328) (takeFirst_drop s0 rfl) .cell rfl
  simp only [Block.same] at h; simp only [h]
@[simp] theorem takeFirst_arm_bypassed (s0 : State) : (takeFirst s0).arm.bypassed = s0.arm.bypassed := by
  have h := same_of_drop (m := 8691427328) (takeFirst_drop s0 rfl) .bypass rfl
  exact h
@[simp] theorem takeFirst_pwm (s0 : State) : (takeFirst s0).pwm = s0.pwm :=
  same_of_drop (m := 8691427328) (takeFirst_drop s0 rfl) .pwm rfl
@[simp] theorem takeFirst_chA (s0 : State) : (takeFirst s0).chA = s0.chA :=
  same_of_drop (m := 8691427328) (takeFirst_drop s0 rfl) .chA rfl
@[simp] theorem takeFirst_chB (s0 : State) : (takeFirst s0).chB = s0.chB :=
  same_of_drop (m := 8691427328) (takeFirst_drop s0 rfl) .chB rfl
@[simp] theorem takeFirst_esA (s0 : State) : (takeFirst s0).esA = s0.esA :=
  same_of_drop (m := 8691427328) (takeFirst_drop s0 rfl) .esA rfl
@[simp] theorem takeFirst_esB (s0 : State) : (takeFirst s0).esB = s0.esB :=
  same_of_drop (m := 8691427328) (takeFirst_drop s0 rfl) .esB rfl
@[simp] theorem takeFirst_est (s0 : State) : (takeFirst s0).est = s0.est :=
  same_of_drop (m := 8691427328) (takeFirst_drop s0 rfl) .est rfl
@[simp] theorem takeFirst_thm (s0 : State) : (takeFirst s0).thm = s0.thm :=
  same_of_drop (m := 8691427328) (takeFirst_drop s0 rfl) .thm rfl
@[simp] theorem takeFirst_prt (s0 : State) : (takeFirst s0).prt = s0.prt :=
  same_of_drop (m := 8691427328) (takeFirst_drop s0 rfl) .prt rfl
@[simp] theorem takeFirst_lbus (s0 : State) : (takeFirst s0).lbus = s0.lbus :=
  same_of_drop (m := 8691427328) (takeFirst_drop s0 rfl) .lbus rfl
@[simp] theorem takeFirst_pwr (s0 : State) : (takeFirst s0).pwr = s0.pwr :=
  same_of_drop (m := 8691427328) (takeFirst_drop s0 rfl) .pwr rfl
@[simp] theorem takeFirst_sec (s0 : State) : (takeFirst s0).sec = s0.sec :=
  same_of_drop (m := 8691427328) (takeFirst_drop s0 rfl) .sec rfl
@[simp] theorem takeFirst_mnt (s0 : State) : (takeFirst s0).mnt = s0.mnt :=
  same_of_drop (m := 8691427328) (takeFirst_drop s0 rfl) .mnt rfl
@[simp] theorem takeFirst_req (s0 : State) : (takeFirst s0).req = s0.req :=
  same_of_drop (m := 8691427328) (takeFirst_drop s0 rfl) .req rfl
@[simp] theorem takeFirst_clock (s0 : State) : (takeFirst s0).clock = s0.clock :=
  same_of_drop (m := 8691427328) (takeFirst_drop s0 rfl) .clock rfl
@[simp] theorem takeFirst_free (s0 : State) : (takeFirst s0).free = s0.free :=
  same_of_drop (m := 8691427328) (takeFirst_drop s0 rfl) .free rfl
@[simp] theorem takeFirst_outbox (s0 : State) : (takeFirst s0).outbox = s0.outbox :=
  same_of_drop (m := 8691427328) (takeFirst_drop s0 rfl) .outbox rfl
@[simp] theorem takeFirst_pending (s0 : State) : (takeFirst s0).pending = s0.pending :=
  same_of_drop (m := 8691427328) (takeFirst_drop s0 rfl) .pending rfl
@[simp] theorem takeFirst_glk_legA (s0 : State) : (takeFirst s0).glk.legA = s0.glk.legA := by
  have h := same_of_drop (m := 8691427328) (takeFirst_drop s0 rfl) .legs rfl
  simp only [Block.same] at h; simp only [h]
@[simp] theorem takeFirst_glk_legB (s0 : State) : (takeFirst s0).glk.legB = s0.glk.legB := by
  have h := same_of_drop (m := 8691427328) (takeFirst_drop s0 rfl) .legs rfl
  simp only [Block.same] at h; simp only [h]
@[simp] theorem takeFirst_evt_nvm (s0 : State) : (takeFirst s0).evt.nvm = s0.evt.nvm := by
  have h := same_of_drop (m := 8691427328) (takeFirst_drop s0 rfl) .log rfl
  simp only [Block.same] at h; simp only [h]
@[simp] theorem takeFirst_evt_nvmPos (s0 : State) : (takeFirst s0).evt.nvmPos = s0.evt.nvmPos := by
  have h := same_of_drop (m := 8691427328) (takeFirst_drop s0 rfl) .log rfl
  simp only [Block.same] at h; simp only [h]
@[simp] theorem takeFirst_evt_wrapped (s0 : State) : (takeFirst s0).evt.wrapped = s0.evt.wrapped := by
  have h := same_of_drop (m := 8691427328) (takeFirst_drop s0 rfl) .log rfl
  simp only [Block.same] at h; simp only [h]
@[simp] theorem takeFirst_glk_fireHold (s0 : State) : (takeFirst s0).glk.fireHold = s0.glk.fireHold := by
  have h := same_of_drop (m := 8691427328) (takeFirst_drop s0 rfl) .switch rfl
  simp only [Block.same] at h; simp only [h]
@[simp] theorem takeFirst_glk_fireAll (s0 : State) : (takeFirst s0).glk.fireAll = s0.glk.fireAll := by
  have h := same_of_drop (m := 8691427328) (takeFirst_drop s0 rfl) .switch rfl
  simp only [Block.same] at h; simp only [h]
@[simp] theorem takeFirst_glk_closeAsserted (s0 : State) : (takeFirst s0).glk.closeAsserted = s0.glk.closeAsserted := by
  have h := same_of_drop (m := 8691427328) (takeFirst_drop s0 rfl) .switch rfl
  simp only [Block.same] at h; simp only [h]
@[simp] theorem takeFirst_glk_closeDue (s0 : State) : (takeFirst s0).glk.closeDue = s0.glk.closeDue := by
  have h := same_of_drop (m := 8691427328) (takeFirst_drop s0 rfl) .switch rfl
  simp only [Block.same] at h; simp only [h]
@[simp] theorem takeFirst_glk_statClosed (s0 : State) : (takeFirst s0).glk.statClosed = s0.glk.statClosed := by
  have h := same_of_drop (m := 8691427328) (takeFirst_drop s0 rfl) .switch rfl
  simp only [Block.same] at h; simp only [h]
@[simp] theorem assumeToken_dev (s : State) (gen : Nat) : (assumeToken s gen).dev = s.dev :=
  same_of_drop (m := 562885011456) (assumeToken_drop s gen rfl) .dev rfl
@[simp] theorem assumeToken_eng (s : State) (gen : Nat) : (assumeToken s gen).eng = s.eng :=
  same_of_drop (m := 562885011456) (assumeToken_drop s gen rfl) .eng rfl
@[simp] theorem assumeToken_img (s : State) (gen : Nat) : (assumeToken s gen).img = s.img :=
  same_of_drop (m := 562885011456) (assumeToken_drop s gen rfl) .img rfl
@[simp] theorem assumeToken_spl (s : State) (gen : Nat) : (assumeToken s gen).spl = s.spl :=
  same_of_drop (m := 562885011456) (assumeToken_drop s gen rfl) .spl rfl
@[simp] theorem assumeToken_tim (s : State) (gen : Nat) : (assumeToken s gen).tim = s.tim :=
  same_of_drop (m := 562885011456) (assumeToken_drop s gen rfl) .tim rfl
@[simp] theorem assumeToken_meas (s : State) (gen : Nat) : (assumeToken s gen).meas = s.meas :=
  same_of_drop (m := 562885011456) (assumeToken_drop s gen rfl) .meas rfl
@[simp] theorem assumeToken_arm_cell (s : State) (gen : Nat) : (assumeToken s gen).arm.cell = s.arm.cell := by
  have h := same_of_drop (m := 562885011456) (assumeToken_drop s gen rfl) .cell rfl
  simp only [Block.same] at h; simp only [h]
@[simp] theorem assumeToken_arm_changes (s : State) (gen : Nat) : (assumeToken s gen).arm.changes = s.arm.changes := by
  have h := same_of_drop (m := 562885011456) (assumeToken_drop s gen rfl) .cell rfl
  simp only [Block.same] at h; simp only [h]
@[simp] theorem assumeToken_arm_bypassed (s : State) (gen : Nat) : (assumeToken s gen).arm.bypassed = s.arm.bypassed := by
  have h := same_of_drop (m := 562885011456) (assumeToken_drop s gen rfl) .bypass rfl
  exact h
@[simp] theorem assumeToken_pwm (s : State) (gen : Nat) : (assumeToken s gen).pwm = s.pwm :=
  same_of_drop (m := 562885011456) (assumeToken_drop s gen rfl) .pwm rfl
@[simp] theorem assumeToken_esA (s : State) (gen : Nat) : (assumeToken s gen).esA = s.esA :=
  same_of_drop (m := 562885011456) (assumeToken_drop s gen rfl) .esA rfl
@[simp] theorem assumeToken_esB (s : State) (gen : Nat) : (assumeToken s gen).esB = s.esB :=
  same_of_drop (m := 562885011456) (assumeToken_drop s gen rfl) .esB rfl
@[simp] theorem assumeToken_est (s : State) (gen : Nat) : (assumeToken s gen).est = s.est :=
  same_of_drop (m := 562885011456) (assumeToken_drop s gen rfl) .est rfl
@[simp] theorem assumeToken_prt (s : State) (gen : Nat) : (assumeToken s gen).prt = s.prt :=
  same_of_drop (m := 562885011456) (assumeToken_drop s gen rfl) .prt rfl
@[simp] theorem assumeToken_pwr (s : State) (gen : Nat) : (assumeToken s gen).pwr = s.pwr :=
  same_of_drop (m := 562885011456) (assumeToken_drop s gen rfl) .pwr rfl
@[simp] theorem assumeToken_sec (s : State) (gen : Nat) : (assumeToken s gen).sec = s.sec :=
  same_of_drop (m := 562885011456) (assumeToken_drop s gen rfl) .sec rfl
@[simp] theorem assumeToken_req (s : State) (gen : Nat) : (assumeToken s gen).req = s.req :=
  same_of_drop (m := 562885011456) (assumeToken_drop s gen rfl) .req rfl
@[simp] theorem assumeToken_clock (s : State) (gen : Nat) : (assumeToken s gen).clock = s.clock :=
  same_of_drop (m := 562885011456) (assumeToken_drop s gen rfl) .clock rfl
@[simp] theorem assumeToken_free (s : State) (gen : Nat) : (assumeToken s gen).free = s.free :=
  same_of_drop (m := 562885011456) (assumeToken_drop s gen rfl) .free rfl
@[simp] theorem assumeToken_outbox (s : State) (gen : Nat) : (assumeToken s gen).outbox = s.outbox :=
  same_of_drop (m := 562885011456) (assumeToken_drop s gen rfl) .outbox rfl
@[simp] theorem assumeToken_pending (s : State) (gen : Nat) : (assumeToken s gen).pending = s.pending :=
  same_of_drop (m := 562885011456) (assumeToken_drop s gen rfl) .pending rfl
@[simp] theorem assumeToken_evt_nvm (s : State) (gen : Nat) : (assumeToken s gen).evt.nvm = s.evt.nvm := by
  have h := same_of_drop (m := 562885011456) (assumeToken_drop s gen rfl) .log rfl
  simp only [Block.same] at h; simp only [h]
@[simp] theorem assumeToken_evt_nvmPos (s : State) (gen : Nat) : (assumeToken s gen).evt.nvmPos = s.evt.nvmPos := by
  have h := same_of_drop (m := 562885011456) (assumeToken_drop s gen rfl) .log rfl
  simp only [Block.same] at h; simp only [h]
@[simp] theorem assumeToken_evt_wrapped (s : State) (gen : Nat) : (assumeToken s gen).evt.wrapped = s.evt.wrapped := by
  have h := same_of_drop (m := 562885011456) (assumeToken_drop s gen rfl) .log rfl
  simp only [Block.same] at h; simp only [h]
@[simp] theorem assumeToken_glk_fireHold (s : State) (gen : Nat) : (assumeToken s gen).glk.fireHold = s.glk.fireHold := by
  have h := same_of_drop (m := 562885011456) (assumeToken_drop s gen rfl) .switch rfl
  simp only [Block.same] at h; simp only [h]
@[simp] theorem assumeToken_glk_fireAll (s : State) (gen : Nat) : (assumeToken s gen).glk.fireAll = s.glk.fireAll := by
  have h := same_of_drop (m := 562885011456) (assumeToken_drop s gen rfl) .switch rfl
  simp only [Block.same] at h; simp only [h]
@[simp] theorem assumeToken_glk_closeAsserted (s : State) (gen : Nat) : (assumeToken s gen).glk.closeAsserted = s.glk.closeAsserted := by
  have h := same_of_drop (m := 562885011456) (assumeToken_drop s gen rfl) .switch rfl
  simp only [Block.same] at h; simp only [h]
@[simp] theorem assumeToken_glk_closeDue (s : State) (gen : Nat) : (assumeToken s gen).glk.closeDue = s.glk.closeDue := by
  have h := same_of_drop (m := 562885011456) (assumeToken_drop s gen rfl) .switch rfl
  simp only [Block.same] at h; simp only [h]
@[simp] theorem assumeToken_glk_statClosed (s : State) (gen : Nat) : (assumeToken s gen).glk.statClosed = s.glk.statClosed := by
  have h := same_of_drop (m := 562885011456) (assumeToken_drop s gen rfl) .switch rfl
  simp only [Block.same] at h; simp only [h]
@[simp] theorem assumeToken_thm_sdHotA (s : State) (gen : Nat) : (assumeToken s gen).thm.sdHotA = s.thm.sdHotA := by
  have h := same_of_drop (m := 562885011456) (assumeToken_drop s gen rfl) .shutdown rfl
  simp only [Block.same] at h; simp only [h]
@[simp] theorem assumeToken_thm_sdHotB (s : State) (gen : Nat) : (assumeToken s gen).thm.sdHotB = s.thm.sdHotB := by
  have h := same_of_drop (m := 562885011456) (assumeToken_drop s gen rfl) .shutdown rfl
  simp only [Block.same] at h; simp only [h]
@[simp] theorem assumeToken_thm_sdColdA (s : State) (gen : Nat) : (assumeToken s gen).thm.sdColdA = s.thm.sdColdA := by
  have h := same_of_drop (m := 562885011456) (assumeToken_drop s gen rfl) .shutdown rfl
  simp only [Block.same] at h; simp only [h]
@[simp] theorem assumeToken_thm_sdColdB (s : State) (gen : Nat) : (assumeToken s gen).thm.sdColdB = s.thm.sdColdB := by
  have h := same_of_drop (m := 562885011456) (assumeToken_drop s gen rfl) .shutdown rfl
  simp only [Block.same] at h; simp only [h]
@[simp] theorem takeOver_dev (s : State) (cause : Nat) : (takeOver s cause).dev = s.dev :=
  same_of_drop (m := 562885011456) (takeOver_drop s cause rfl) .dev rfl
@[simp] theorem takeOver_eng (s : State) (cause : Nat) : (takeOver s cause).eng = s.eng :=
  same_of_drop (m := 562885011456) (takeOver_drop s cause rfl) .eng rfl
@[simp] theorem takeOver_img (s : State) (cause : Nat) : (takeOver s cause).img = s.img :=
  same_of_drop (m := 562885011456) (takeOver_drop s cause rfl) .img rfl
@[simp] theorem takeOver_spl (s : State) (cause : Nat) : (takeOver s cause).spl = s.spl :=
  same_of_drop (m := 562885011456) (takeOver_drop s cause rfl) .spl rfl
@[simp] theorem takeOver_tim (s : State) (cause : Nat) : (takeOver s cause).tim = s.tim :=
  same_of_drop (m := 562885011456) (takeOver_drop s cause rfl) .tim rfl
@[simp] theorem takeOver_meas (s : State) (cause : Nat) : (takeOver s cause).meas = s.meas :=
  same_of_drop (m := 562885011456) (takeOver_drop s cause rfl) .meas rfl
@[simp] theorem takeOver_arm_cell (s : State) (cause : Nat) : (takeOver s cause).arm.cell = s.arm.cell := by
  have h := same_of_drop (m := 562885011456) (takeOver_drop s cause rfl) .cell rfl
  simp only [Block.same] at h; simp only [h]
@[simp] theorem takeOver_arm_changes (s : State) (cause : Nat) : (takeOver s cause).arm.changes = s.arm.changes := by
  have h := same_of_drop (m := 562885011456) (takeOver_drop s cause rfl) .cell rfl
  simp only [Block.same] at h; simp only [h]
@[simp] theorem takeOver_arm_bypassed (s : State) (cause : Nat) : (takeOver s cause).arm.bypassed = s.arm.bypassed := by
  have h := same_of_drop (m := 562885011456) (takeOver_drop s cause rfl) .bypass rfl
  exact h
@[simp] theorem takeOver_pwm (s : State) (cause : Nat) : (takeOver s cause).pwm = s.pwm :=
  same_of_drop (m := 562885011456) (takeOver_drop s cause rfl) .pwm rfl
@[simp] theorem takeOver_esA (s : State) (cause : Nat) : (takeOver s cause).esA = s.esA :=
  same_of_drop (m := 562885011456) (takeOver_drop s cause rfl) .esA rfl
@[simp] theorem takeOver_esB (s : State) (cause : Nat) : (takeOver s cause).esB = s.esB :=
  same_of_drop (m := 562885011456) (takeOver_drop s cause rfl) .esB rfl
@[simp] theorem takeOver_est (s : State) (cause : Nat) : (takeOver s cause).est = s.est :=
  same_of_drop (m := 562885011456) (takeOver_drop s cause rfl) .est rfl
@[simp] theorem takeOver_prt (s : State) (cause : Nat) : (takeOver s cause).prt = s.prt :=
  same_of_drop (m := 562885011456) (takeOver_drop s cause rfl) .prt rfl
@[simp] theorem takeOver_pwr (s : State) (cause : Nat) : (takeOver s cause).pwr = s.pwr :=
  same_of_drop (m := 562885011456) (takeOver_drop s cause rfl) .pwr rfl
@[simp] theorem takeOver_sec (s : State) (cause : Nat) : (takeOver s cause).sec = s.sec :=
  same_of_drop (m := 562885011456) (takeOver_drop s cause rfl) .sec rfl
@[simp] theorem takeOver_req (s : State) (cause : Nat) : (takeOver s cause).req = s.req :=
  same_of_drop (m := 562885011456) (takeOver_drop s cause rfl) .req rfl
@[simp] theorem takeOver_clock (s : State) (cause : Nat) : (takeOver s cause).clock = s.clock :=
  same_of_drop (m := 562885011456) (takeOver_drop s cause rfl) .clock rfl
@[simp] theorem takeOver_free (s : State) (cause : Nat) : (takeOver s cause).free = s.free :=
  same_of_drop (m := 562885011456) (takeOver_drop s cause rfl) .free rfl
@[simp] theorem takeOver_outbox (s : State) (cause : Nat) : (takeOver s cause).outbox = s.outbox :=
  same_of_drop (m := 562885011456) (takeOver_drop s cause rfl) .outbox rfl
@[simp] theorem takeOver_pending (s : State) (cause : Nat) : (takeOver s cause).pending = s.pending :=
  same_of_drop (m := 562885011456) (takeOver_drop s cause rfl) .pending rfl
@[simp] theorem takeOver_evt_nvm (s : State) (cause : Nat) : (takeOver s cause).evt.nvm = s.evt.nvm := by
  have h := same_of_drop (m := 562885011456) (takeOver_drop s cause rfl) .log rfl
  simp only [Block.same] at h; simp only [h]
@[simp] theorem takeOver_evt_nvmPos (s : State) (cause : Nat) : (takeOver s cause).evt.nvmPos = s.evt.nvmPos := by
  have h := same_of_drop (m := 562885011456) (takeOver_drop s cause rfl) .log rfl
  simp only [Block.same] at h; simp only [h]
@[simp] theorem takeOver_evt_wrapped (s : State) (cause : Nat) : (takeOver s cause).evt.wrapped = s.evt.wrapped := by
  have h := same_of_drop (m := 562885011456) (takeOver_drop s cause rfl) .log rfl
  simp only [Block.same] at h; simp only [h]
@[simp] theorem takeOver_glk_fireHold (s : State) (cause : Nat) : (takeOver s cause).glk.fireHold = s.glk.fireHold := by
  have h := same_of_drop (m := 562885011456) (takeOver_drop s cause rfl) .switch rfl
  simp only [Block.same] at h; simp only [h]
@[simp] theorem takeOver_glk_fireAll (s : State) (cause : Nat) : (takeOver s cause).glk.fireAll = s.glk.fireAll := by
  have h := same_of_drop (m := 562885011456) (takeOver_drop s cause rfl) .switch rfl
  simp only [Block.same] at h; simp only [h]
@[simp] theorem takeOver_glk_closeAsserted (s : State) (cause : Nat) : (takeOver s cause).glk.closeAsserted = s.glk.closeAsserted := by
  have h := same_of_drop (m := 562885011456) (takeOver_drop s cause rfl) .switch rfl
  simp only [Block.same] at h; simp only [h]
@[simp] theorem takeOver_glk_closeDue (s : State) (cause : Nat) : (takeOver s cause).glk.closeDue = s.glk.closeDue := by
  have h := same_of_drop (m := 562885011456) (takeOver_drop s cause rfl) .switch rfl
  simp only [Block.same] at h; simp only [h]
@[simp] theorem takeOver_glk_statClosed (s : State) (cause : Nat) : (takeOver s cause).glk.statClosed = s.glk.statClosed := by
  have h := same_of_drop (m := 562885011456) (takeOver_drop s cause rfl) .switch rfl
  simp only [Block.same] at h; simp only [h]
@[simp] theorem takeOver_thm_sdHotA (s : State) (cause : Nat) : (takeOver s cause).thm.sdHotA = s.thm.sdHotA := by
  have h := same_of_drop (m := 562885011456) (takeOver_drop s cause rfl) .shutdown rfl
  simp only [Block.same] at h; simp only [h]
@[simp] theorem takeOver_thm_sdHotB (s : State) (cause : Nat) : (takeOver s cause).thm.sdHotB = s.thm.sdHotB := by
  have h := same_of_drop (m := 562885011456) (takeOver_drop s cause rfl) .shutdown rfl
  simp only [Block.same] at h; simp only [h]
@[simp] theorem takeOver_thm_sdColdA (s : State) (cause : Nat) : (takeOver s cause).thm.sdColdA = s.thm.sdColdA := by
  have h := same_of_drop (m := 562885011456) (takeOver_drop s cause rfl) .shutdown rfl
  simp only [Block.same] at h; simp only [h]
@[simp] theorem takeOver_thm_sdColdB (s : State) (cause : Nat) : (takeOver s cause).thm.sdColdB = s.thm.sdColdB := by
  have h := same_of_drop (m := 562885011456) (takeOver_drop s cause rfl) .shutdown rfl
  simp only [Block.same] at h; simp only [h]
@[simp] theorem dropToken_dev (s0 : State) (st : DvtSt) : (dropToken s0 st).dev = s0.dev :=
  same_of_drop (m := 13129197568) (dropToken_drop s0 st rfl) .dev rfl
@[simp] theorem dropToken_eng (s0 : State) (st : DvtSt) : (dropToken s0 st).eng = s0.eng :=
  same_of_drop (m := 13129197568) (dropToken_drop s0 st rfl) .eng rfl
@[simp] theorem dropToken_img (s0 : State) (st : DvtSt) : (dropToken s0 st).img = s0.img :=
  same_of_drop (m := 13129197568) (dropToken_drop s0 st rfl) .img rfl
@[simp] theorem dropToken_spl (s0 : State) (st : DvtSt) : (dropToken s0 st).spl = s0.spl :=
  same_of_drop (m := 13129197568) (dropToken_drop s0 st rfl) .spl rfl
@[simp] theorem dropToken_tim (s0 : State) (st : DvtSt) : (dropToken s0 st).tim = s0.tim :=
  same_of_drop (m := 13129197568) (dropToken_drop s0 st rfl) .tim rfl
@[simp] theorem dropToken_meas (s0 : State) (st : DvtSt) : (dropToken s0 st).meas = s0.meas :=
  same_of_drop (m := 13129197568) (dropToken_drop s0 st rfl) .meas rfl
@[simp] theorem dropToken_arm_cell (s0 : State) (st : DvtSt) : (dropToken s0 st).arm.cell = s0.arm.cell := by
  have h := same_of_drop (m := 13129197568) (dropToken_drop s0 st rfl) .cell rfl
  simp only [Block.same] at h; simp only [h]
@[simp] theorem dropToken_arm_changes (s0 : State) (st : DvtSt) : (dropToken s0 st).arm.changes = s0.arm.changes := by
  have h := same_of_drop (m := 13129197568) (dropToken_drop s0 st rfl) .cell rfl
  simp only [Block.same] at h; simp only [h]
@[simp] theorem dropToken_arm_bypassed (s0 : State) (st : DvtSt) : (dropToken s0 st).arm.bypassed = s0.arm.bypassed := by
  have h := same_of_drop (m := 13129197568) (dropToken_drop s0 st rfl) .bypass rfl
  exact h
@[simp] theorem dropToken_pwm (s0 : State) (st : DvtSt) : (dropToken s0 st).pwm = s0.pwm :=
  same_of_drop (m := 13129197568) (dropToken_drop s0 st rfl) .pwm rfl
@[simp] theorem dropToken_esA (s0 : State) (st : DvtSt) : (dropToken s0 st).esA = s0.esA :=
  same_of_drop (m := 13129197568) (dropToken_drop s0 st rfl) .esA rfl
@[simp] theorem dropToken_esB (s0 : State) (st : DvtSt) : (dropToken s0 st).esB = s0.esB :=
  same_of_drop (m := 13129197568) (dropToken_drop s0 st rfl) .esB rfl
@[simp] theorem dropToken_est (s0 : State) (st : DvtSt) : (dropToken s0 st).est = s0.est :=
  same_of_drop (m := 13129197568) (dropToken_drop s0 st rfl) .est rfl
@[simp] theorem dropToken_prt (s0 : State) (st : DvtSt) : (dropToken s0 st).prt = s0.prt :=
  same_of_drop (m := 13129197568) (dropToken_drop s0 st rfl) .prt rfl
@[simp] theorem dropToken_pwr (s0 : State) (st : DvtSt) : (dropToken s0 st).pwr = s0.pwr :=
  same_of_drop (m := 13129197568) (dropToken_drop s0 st rfl) .pwr rfl
@[simp] theorem dropToken_sec (s0 : State) (st : DvtSt) : (dropToken s0 st).sec = s0.sec :=
  same_of_drop (m := 13129197568) (dropToken_drop s0 st rfl) .sec rfl
@[simp] theorem dropToken_req (s0 : State) (st : DvtSt) : (dropToken s0 st).req = s0.req :=
  same_of_drop (m := 13129197568) (dropToken_drop s0 st rfl) .req rfl
@[simp] theorem dropToken_clock (s0 : State) (st : DvtSt) : (dropToken s0 st).clock = s0.clock :=
  same_of_drop (m := 13129197568) (dropToken_drop s0 st rfl) .clock rfl
@[simp] theorem dropToken_free (s0 : State) (st : DvtSt) : (dropToken s0 st).free = s0.free :=
  same_of_drop (m := 13129197568) (dropToken_drop s0 st rfl) .free rfl
@[simp] theorem dropToken_outbox (s0 : State) (st : DvtSt) : (dropToken s0 st).outbox = s0.outbox :=
  same_of_drop (m := 13129197568) (dropToken_drop s0 st rfl) .outbox rfl
@[simp] theorem dropToken_pending (s0 : State) (st : DvtSt) : (dropToken s0 st).pending = s0.pending :=
  same_of_drop (m := 13129197568) (dropToken_drop s0 st rfl) .pending rfl
@[simp] theorem dropToken_glk_legA (s0 : State) (st : DvtSt) : (dropToken s0 st).glk.legA = s0.glk.legA := by
  have h := same_of_drop (m := 13129197568) (dropToken_drop s0 st rfl) .legs rfl
  simp only [Block.same] at h; simp only [h]
@[simp] theorem dropToken_glk_legB (s0 : State) (st : DvtSt) : (dropToken s0 st).glk.legB = s0.glk.legB := by
  have h := same_of_drop (m := 13129197568) (dropToken_drop s0 st rfl) .legs rfl
  simp only [Block.same] at h; simp only [h]
@[simp] theorem dropToken_evt_nvm (s0 : State) (st : DvtSt) : (dropToken s0 st).evt.nvm = s0.evt.nvm := by
  have h := same_of_drop (m := 13129197568) (dropToken_drop s0 st rfl) .log rfl
  simp only [Block.same] at h; simp only [h]
@[simp] theorem dropToken_evt_nvmPos (s0 : State) (st : DvtSt) : (dropToken s0 st).evt.nvmPos = s0.evt.nvmPos := by
  have h := same_of_drop (m := 13129197568) (dropToken_drop s0 st rfl) .log rfl
  simp only [Block.same] at h; simp only [h]
@[simp] theorem dropToken_evt_wrapped (s0 : State) (st : DvtSt) : (dropToken s0 st).evt.wrapped = s0.evt.wrapped := by
  have h := same_of_drop (m := 13129197568) (dropToken_drop s0 st rfl) .log rfl
  simp only [Block.same] at h; simp only [h]
@[simp] theorem dropToken_glk_fireHold (s0 : State) (st : DvtSt) : (dropToken s0 st).glk.fireHold = s0.glk.fireHold := by
  have h := same_of_drop (m := 13129197568) (dropToken_drop s0 st rfl) .switch rfl
  simp only [Block.same] at h; simp only [h]
@[simp] theorem dropToken_glk_fireAll (s0 : State) (st : DvtSt) : (dropToken s0 st).glk.fireAll = s0.glk.fireAll := by
  have h := same_of_drop (m := 13129197568) (dropToken_drop s0 st rfl) .switch rfl
  simp only [Block.same] at h; simp only [h]
@[simp] theorem dropToken_glk_closeAsserted (s0 : State) (st : DvtSt) : (dropToken s0 st).glk.closeAsserted = s0.glk.closeAsserted := by
  have h := same_of_drop (m := 13129197568) (dropToken_drop s0 st rfl) .switch rfl
  simp only [Block.same] at h; simp only [h]
@[simp] theorem dropToken_glk_closeDue (s0 : State) (st : DvtSt) : (dropToken s0 st).glk.closeDue = s0.glk.closeDue := by
  have h := same_of_drop (m := 13129197568) (dropToken_drop s0 st rfl) .switch rfl
  simp only [Block.same] at h; simp only [h]
@[simp] theorem dropToken_glk_statClosed (s0 : State) (st : DvtSt) : (dropToken s0 st).glk.statClosed = s0.glk.statClosed := by
  have h := same_of_drop (m := 13129197568) (dropToken_drop s0 st rfl) .switch rfl
  simp only [Block.same] at h; simp only [h]
@[simp] theorem dropToken_thm_sdHotA (s0 : State) (st : DvtSt) : (dropToken s0 st).thm.sdHotA = s0.thm.sdHotA := by
  have h := same_of_drop (m := 13129197568) (dropToken_drop s0 st rfl) .shutdown rfl
  simp only [Block.same] at h; simp only [h]
@[simp] theorem dropToken_thm_sdHotB (s0 : State) (st : DvtSt) : (dropToken s0 st).thm.sdHotB = s0.thm.sdHotB := by
  have h := same_of_drop (m := 13129197568) (dropToken_drop s0 st rfl) .shutdown rfl
  simp only [Block.same] at h; simp only [h]
@[simp] theorem dropToken_thm_sdColdA (s0 : State) (st : DvtSt) : (dropToken s0 st).thm.sdColdA = s0.thm.sdColdA := by
  have h := same_of_drop (m := 13129197568) (dropToken_drop s0 st rfl) .shutdown rfl
  simp only [Block.same] at h; simp only [h]
@[simp] theorem dropToken_thm_sdColdB (s0 : State) (st : DvtSt) : (dropToken s0 st).thm.sdColdB = s0.thm.sdColdB := by
  have h := same_of_drop (m := 13129197568) (dropToken_drop s0 st rfl) .shutdown rfl
  simp only [Block.same] at h; simp only [h]
@[simp] theorem countFiring_dev (s : State) (e : Fin 64) : (countFiring s e).dev = s.dev :=
  same_of_drop (m := 16777216) (countFiring_drop s e rfl) .dev rfl
@[simp] theorem countFiring_eng (s : State) (e : Fin 64) : (countFiring s e).eng = s.eng :=
  same_of_drop (m := 16777216) (countFiring_drop s e rfl) .eng rfl
@[simp] theorem countFiring_img (s : State) (e : Fin 64) : (countFiring s e).img = s.img :=
  same_of_drop (m := 16777216) (countFiring_drop s e rfl) .img rfl
@[simp] theorem countFiring_spl (s : State) (e : Fin 64) : (countFiring s e).spl = s.spl :=
  same_of_drop (m := 16777216) (countFiring_drop s e rfl) .spl rfl
@[simp] theorem countFiring_tim (s : State) (e : Fin 64) : (countFiring s e).tim = s.tim :=
  same_of_drop (m := 16777216) (countFiring_drop s e rfl) .tim rfl
@[simp] theorem countFiring_meas (s : State) (e : Fin 64) : (countFiring s e).meas = s.meas :=
  same_of_drop (m := 16777216) (countFiring_drop s e rfl) .meas rfl
@[simp] theorem countFiring_arm (s : State) (e : Fin 64) : (countFiring s e).arm = s.arm :=
  same_of_drop (m := 16777216) (countFiring_drop s e rfl) .arm rfl
@[simp] theorem countFiring_pwm (s : State) (e : Fin 64) : (countFiring s e).pwm = s.pwm :=
  same_of_drop (m := 16777216) (countFiring_drop s e rfl) .pwm rfl
@[simp] theorem countFiring_glk (s : State) (e : Fin 64) : (countFiring s e).glk = s.glk :=
  same_of_drop (m := 16777216) (countFiring_drop s e rfl) .glk rfl
@[simp] theorem countFiring_chA (s : State) (e : Fin 64) : (countFiring s e).chA = s.chA :=
  same_of_drop (m := 16777216) (countFiring_drop s e rfl) .chA rfl
@[simp] theorem countFiring_chB (s : State) (e : Fin 64) : (countFiring s e).chB = s.chB :=
  same_of_drop (m := 16777216) (countFiring_drop s e rfl) .chB rfl
@[simp] theorem countFiring_snA (s : State) (e : Fin 64) : (countFiring s e).snA = s.snA :=
  same_of_drop (m := 16777216) (countFiring_drop s e rfl) .snA rfl
@[simp] theorem countFiring_snB (s : State) (e : Fin 64) : (countFiring s e).snB = s.snB :=
  same_of_drop (m := 16777216) (countFiring_drop s e rfl) .snB rfl
@[simp] theorem countFiring_esA (s : State) (e : Fin 64) : (countFiring s e).esA = s.esA :=
  same_of_drop (m := 16777216) (countFiring_drop s e rfl) .esA rfl
@[simp] theorem countFiring_esB (s : State) (e : Fin 64) : (countFiring s e).esB = s.esB :=
  same_of_drop (m := 16777216) (countFiring_drop s e rfl) .esB rfl
@[simp] theorem countFiring_est (s : State) (e : Fin 64) : (countFiring s e).est = s.est :=
  same_of_drop (m := 16777216) (countFiring_drop s e rfl) .est rfl
@[simp] theorem countFiring_thm (s : State) (e : Fin 64) : (countFiring s e).thm = s.thm :=
  same_of_drop (m := 16777216) (countFiring_drop s e rfl) .thm rfl
@[simp] theorem countFiring_dvt (s : State) (e : Fin 64) : (countFiring s e).dvt = s.dvt :=
  same_of_drop (m := 16777216) (countFiring_drop s e rfl) .dvt rfl
@[simp] theorem countFiring_lsw (s : State) (e : Fin 64) : (countFiring s e).lsw = s.lsw :=
  same_of_drop (m := 16777216) (countFiring_drop s e rfl) .lsw rfl
@[simp] theorem countFiring_lbus (s : State) (e : Fin 64) : (countFiring s e).lbus = s.lbus :=
  same_of_drop (m := 16777216) (countFiring_drop s e rfl) .lbus rfl
@[simp] theorem countFiring_pwr (s : State) (e : Fin 64) : (countFiring s e).pwr = s.pwr :=
  same_of_drop (m := 16777216) (countFiring_drop s e rfl) .pwr rfl
@[simp] theorem countFiring_sec (s : State) (e : Fin 64) : (countFiring s e).sec = s.sec :=
  same_of_drop (m := 16777216) (countFiring_drop s e rfl) .sec rfl
@[simp] theorem countFiring_mnt (s : State) (e : Fin 64) : (countFiring s e).mnt = s.mnt :=
  same_of_drop (m := 16777216) (countFiring_drop s e rfl) .mnt rfl
@[simp] theorem countFiring_evt (s : State) (e : Fin 64) : (countFiring s e).evt = s.evt :=
  same_of_drop (m := 16777216) (countFiring_drop s e rfl) .evt rfl
@[simp] theorem countFiring_req (s : State) (e : Fin 64) : (countFiring s e).req = s.req :=
  same_of_drop (m := 16777216) (countFiring_drop s e rfl) .req rfl
@[simp] theorem countFiring_clock (s : State) (e : Fin 64) : (countFiring s e).clock = s.clock :=
  same_of_drop (m := 16777216) (countFiring_drop s e rfl) .clock rfl
@[simp] theorem countFiring_free (s : State) (e : Fin 64) : (countFiring s e).free = s.free :=
  same_of_drop (m := 16777216) (countFiring_drop s e rfl) .free rfl
@[simp] theorem countFiring_outbox (s : State) (e : Fin 64) : (countFiring s e).outbox = s.outbox :=
  same_of_drop (m := 16777216) (countFiring_drop s e rfl) .outbox rfl
@[simp] theorem countFiring_pending (s : State) (e : Fin 64) : (countFiring s e).pending = s.pending :=
  same_of_drop (m := 16777216) (countFiring_drop s e rfl) .pending rfl
@[simp] theorem countFiring_prt_active (s : State) (e : Fin 64) : (countFiring s e).prt.active = s.prt.active := by
  have h := same_of_drop (m := 16777216) (countFiring_drop s e rfl) .raised rfl
  simp only [Block.same] at h; simp only [h]
@[simp] theorem countFiring_prt_pulsed (s : State) (e : Fin 64) : (countFiring s e).prt.pulsed = s.prt.pulsed := by
  have h := same_of_drop (m := 16777216) (countFiring_drop s e rfl) .raised rfl
  simp only [Block.same] at h; simp only [h]
@[simp] theorem fireEntry_dev (counted : Bool) (s : State) (e : Fin 64) : (fireEntry counted s e).dev = s.dev :=
  same_of_drop (m := 700172967936) (fireEntry_drop counted s e rfl) .dev rfl
@[simp] theorem fireEntry_eng (counted : Bool) (s : State) (e : Fin 64) : (fireEntry counted s e).eng = s.eng :=
  same_of_drop (m := 700172967936) (fireEntry_drop counted s e rfl) .eng rfl
@[simp] theorem fireEntry_img (counted : Bool) (s : State) (e : Fin 64) : (fireEntry counted s e).img = s.img :=
  same_of_drop (m := 700172967936) (fireEntry_drop counted s e rfl) .img rfl
@[simp] theorem fireEntry_spl (counted : Bool) (s : State) (e : Fin 64) : (fireEntry counted s e).spl = s.spl :=
  same_of_drop (m := 700172967936) (fireEntry_drop counted s e rfl) .spl rfl
@[simp] theorem fireEntry_tim (counted : Bool) (s : State) (e : Fin 64) : (fireEntry counted s e).tim = s.tim :=
  same_of_drop (m := 700172967936) (fireEntry_drop counted s e rfl) .tim rfl
@[simp] theorem fireEntry_meas (counted : Bool) (s : State) (e : Fin 64) : (fireEntry counted s e).meas = s.meas :=
  same_of_drop (m := 700172967936) (fireEntry_drop counted s e rfl) .meas rfl
@[simp] theorem fireEntry_arm_cell (counted : Bool) (s : State) (e : Fin 64) : (fireEntry counted s e).arm.cell = s.arm.cell := by
  have h := same_of_drop (m := 700172967936) (fireEntry_drop counted s e rfl) .cell rfl
  simp only [Block.same] at h; simp only [h]
@[simp] theorem fireEntry_arm_changes (counted : Bool) (s : State) (e : Fin 64) : (fireEntry counted s e).arm.changes = s.arm.changes := by
  have h := same_of_drop (m := 700172967936) (fireEntry_drop counted s e rfl) .cell rfl
  simp only [Block.same] at h; simp only [h]
@[simp] theorem fireEntry_arm_owner (counted : Bool) (s : State) (e : Fin 64) : (fireEntry counted s e).arm.owner = s.arm.owner := by
  have h := same_of_drop (m := 700172967936) (fireEntry_drop counted s e rfl) .token rfl
  exact h
@[simp] theorem fireEntry_arm_bypassed (counted : Bool) (s : State) (e : Fin 64) : (fireEntry counted s e).arm.bypassed = s.arm.bypassed := by
  have h := same_of_drop (m := 700172967936) (fireEntry_drop counted s e rfl) .bypass rfl
  exact h
@[simp] theorem fireEntry_pwm (counted : Bool) (s : State) (e : Fin 64) : (fireEntry counted s e).pwm = s.pwm :=
  same_of_drop (m := 700172967936) (fireEntry_drop counted s e rfl) .pwm rfl
@[simp] theorem fireEntry_esA (counted : Bool) (s : State) (e : Fin 64) : (fireEntry counted s e).esA = s.esA :=
  same_of_drop (m := 700172967936) (fireEntry_drop counted s e rfl) .esA rfl
@[simp] theorem fireEntry_esB (counted : Bool) (s : State) (e : Fin 64) : (fireEntry counted s e).esB = s.esB :=
  same_of_drop (m := 700172967936) (fireEntry_drop counted s e rfl) .esB rfl
@[simp] theorem fireEntry_est (counted : Bool) (s : State) (e : Fin 64) : (fireEntry counted s e).est = s.est :=
  same_of_drop (m := 700172967936) (fireEntry_drop counted s e rfl) .est rfl
@[simp] theorem fireEntry_dvt (counted : Bool) (s : State) (e : Fin 64) : (fireEntry counted s e).dvt = s.dvt :=
  same_of_drop (m := 700172967936) (fireEntry_drop counted s e rfl) .dvt rfl
@[simp] theorem fireEntry_lbus (counted : Bool) (s : State) (e : Fin 64) : (fireEntry counted s e).lbus = s.lbus :=
  same_of_drop (m := 700172967936) (fireEntry_drop counted s e rfl) .lbus rfl
@[simp] theorem fireEntry_pwr (counted : Bool) (s : State) (e : Fin 64) : (fireEntry counted s e).pwr = s.pwr :=
  same_of_drop (m := 700172967936) (fireEntry_drop counted s e rfl) .pwr rfl
@[simp] theorem fireEntry_sec (counted : Bool) (s : State) (e : Fin 64) : (fireEntry counted s e).sec = s.sec :=
  same_of_drop (m := 700172967936) (fireEntry_drop counted s e rfl) .sec rfl
@[simp] theorem fireEntry_req (counted : Bool) (s : State) (e : Fin 64) : (fireEntry counted s e).req = s.req :=
  same_of_drop (m := 700172967936) (fireEntry_drop counted s e rfl) .req rfl
@[simp] theorem fireEntry_clock (counted : Bool) (s : State) (e : Fin 64) : (fireEntry counted s e).clock = s.clock :=
  same_of_drop (m := 700172967936) (fireEntry_drop counted s e rfl) .clock rfl
@[simp] theorem fireEntry_free (counted : Bool) (s : State) (e : Fin 64) : (fireEntry counted s e).free = s.free :=
  same_of_drop (m := 700172967936) (fireEntry_drop counted s e rfl) .free rfl
@[simp] theorem fireEntry_pending (counted : Bool) (s : State) (e : Fin 64) : (fireEntry counted s e).pending = s.pending :=
  same_of_drop (m := 700172967936) (fireEntry_drop counted s e rfl) .pending rfl
@[simp] theorem fireEntry_prt_active (counted : Bool) (s : State) (e : Fin 64) : (fireEntry counted s e).prt.active = s.prt.active := by
  have h := same_of_drop (m := 700172967936) (fireEntry_drop counted s e rfl) .raised rfl
  simp only [Block.same] at h; simp only [h]
@[simp] theorem fireEntry_prt_pulsed (counted : Bool) (s : State) (e : Fin 64) : (fireEntry counted s e).prt.pulsed = s.prt.pulsed := by
  have h := same_of_drop (m := 700172967936) (fireEntry_drop counted s e rfl) .raised rfl
  simp only [Block.same] at h; simp only [h]
@[simp] theorem fireEntry_evt_nvm (counted : Bool) (s : State) (e : Fin 64) : (fireEntry counted s e).evt.nvm = s.evt.nvm := by
  have h := same_of_drop (m := 700172967936) (fireEntry_drop counted s e rfl) .log rfl
  simp only [Block.same] at h; simp only [h]
@[simp] theorem fireEntry_evt_nvmPos (counted : Bool) (s : State) (e : Fin 64) : (fireEntry counted s e).evt.nvmPos = s.evt.nvmPos := by
  have h := same_of_drop (m := 700172967936) (fireEntry_drop counted s e rfl) .log rfl
  simp only [Block.same] at h; simp only [h]
@[simp] theorem fireEntry_evt_wrapped (counted : Bool) (s : State) (e : Fin 64) : (fireEntry counted s e).evt.wrapped = s.evt.wrapped := by
  have h := same_of_drop (m := 700172967936) (fireEntry_drop counted s e rfl) .log rfl
  simp only [Block.same] at h; simp only [h]
@[simp] theorem fireEntry_glk_fireHold (counted : Bool) (s : State) (e : Fin 64) : (fireEntry counted s e).glk.fireHold = s.glk.fireHold := by
  have h := same_of_drop (m := 700172967936) (fireEntry_drop counted s e rfl) .switch rfl
  simp only [Block.same] at h; simp only [h]
@[simp] theorem fireEntry_glk_fireAll (counted : Bool) (s : State) (e : Fin 64) : (fireEntry counted s e).glk.fireAll = s.glk.fireAll := by
  have h := same_of_drop (m := 700172967936) (fireEntry_drop counted s e rfl) .switch rfl
  simp only [Block.same] at h; simp only [h]
@[simp] theorem fireEntry_glk_closeAsserted (counted : Bool) (s : State) (e : Fin 64) : (fireEntry counted s e).glk.closeAsserted = s.glk.closeAsserted := by
  have h := same_of_drop (m := 700172967936) (fireEntry_drop counted s e rfl) .switch rfl
  simp only [Block.same] at h; simp only [h]
@[simp] theorem fireEntry_glk_closeDue (counted : Bool) (s : State) (e : Fin 64) : (fireEntry counted s e).glk.closeDue = s.glk.closeDue := by
  have h := same_of_drop (m := 700172967936) (fireEntry_drop counted s e rfl) .switch rfl
  simp only [Block.same] at h; simp only [h]
@[simp] theorem fireEntry_glk_statClosed (counted : Bool) (s : State) (e : Fin 64) : (fireEntry counted s e).glk.statClosed = s.glk.statClosed := by
  have h := same_of_drop (m := 700172967936) (fireEntry_drop counted s e rfl) .switch rfl
  simp only [Block.same] at h; simp only [h]
@[simp] theorem fireEntry_thm_sdHotA (counted : Bool) (s : State) (e : Fin 64) : (fireEntry counted s e).thm.sdHotA = s.thm.sdHotA := by
  have h := same_of_drop (m := 700172967936) (fireEntry_drop counted s e rfl) .shutdown rfl
  simp only [Block.same] at h; simp only [h]
@[simp] theorem fireEntry_thm_sdHotB (counted : Bool) (s : State) (e : Fin 64) : (fireEntry counted s e).thm.sdHotB = s.thm.sdHotB := by
  have h := same_of_drop (m := 700172967936) (fireEntry_drop counted s e rfl) .shutdown rfl
  simp only [Block.same] at h; simp only [h]
@[simp] theorem fireEntry_thm_sdColdA (counted : Bool) (s : State) (e : Fin 64) : (fireEntry counted s e).thm.sdColdA = s.thm.sdColdA := by
  have h := same_of_drop (m := 700172967936) (fireEntry_drop counted s e rfl) .shutdown rfl
  simp only [Block.same] at h; simp only [h]
@[simp] theorem fireEntry_thm_sdColdB (counted : Bool) (s : State) (e : Fin 64) : (fireEntry counted s e).thm.sdColdB = s.thm.sdColdB := by
  have h := same_of_drop (m := 700172967936) (fireEntry_drop counted s e rfl) .shutdown rfl
  simp only [Block.same] at h; simp only [h]
@[simp] theorem sourceUp_dev (s : State) (src : Nat) (counted : Bool) : (sourceUp s src counted).dev = s.dev :=
  same_of_drop (m := 700172967936) (sourceUp_drop s src counted rfl) .dev rfl
@[simp] theorem sourceUp_eng (s : State) (src : Nat) (counted : Bool) : (sourceUp s src counted).eng = s.eng :=
  same_of_drop (m := 700172967936) (sourceUp_drop s src counted rfl) .eng rfl
@[simp] theorem sourceUp_img (s : State) (src : Nat) (counted : Bool) : (sourceUp s src counted).img = s.img :=
  same_of_drop (m := 700172967936) (sourceUp_drop s src counted rfl) .img rfl
@[simp] theorem sourceUp_spl (s : State) (src : Nat) (counted : Bool) : (sourceUp s src counted).spl = s.spl :=
  same_of_drop (m := 700172967936) (sourceUp_drop s src counted rfl) .spl rfl
@[simp] theorem sourceUp_tim (s : State) (src : Nat) (counted : Bool) : (sourceUp s src counted).tim = s.tim :=
  same_of_drop (m := 700172967936) (sourceUp_drop s src counted rfl) .tim rfl
@[simp] theorem sourceUp_meas (s : State) (src : Nat) (counted : Bool) : (sourceUp s src counted).meas = s.meas :=
  same_of_drop (m := 700172967936) (sourceUp_drop s src counted rfl) .meas rfl
@[simp] theorem sourceUp_arm_cell (s : State) (src : Nat) (counted : Bool) : (sourceUp s src counted).arm.cell = s.arm.cell := by
  have h := same_of_drop (m := 700172967936) (sourceUp_drop s src counted rfl) .cell rfl
  simp only [Block.same] at h; simp only [h]
@[simp] theorem sourceUp_arm_changes (s : State) (src : Nat) (counted : Bool) : (sourceUp s src counted).arm.changes = s.arm.changes := by
  have h := same_of_drop (m := 700172967936) (sourceUp_drop s src counted rfl) .cell rfl
  simp only [Block.same] at h; simp only [h]
@[simp] theorem sourceUp_arm_owner (s : State) (src : Nat) (counted : Bool) : (sourceUp s src counted).arm.owner = s.arm.owner := by
  have h := same_of_drop (m := 700172967936) (sourceUp_drop s src counted rfl) .token rfl
  exact h
@[simp] theorem sourceUp_arm_bypassed (s : State) (src : Nat) (counted : Bool) : (sourceUp s src counted).arm.bypassed = s.arm.bypassed := by
  have h := same_of_drop (m := 700172967936) (sourceUp_drop s src counted rfl) .bypass rfl
  exact h
@[simp] theorem sourceUp_pwm (s : State) (src : Nat) (counted : Bool) : (sourceUp s src counted).pwm = s.pwm :=
  same_of_drop (m := 700172967936) (sourceUp_drop s src counted rfl) .pwm rfl
@[simp] theorem sourceUp_esA (s : State) (src : Nat) (counted : Bool) : (sourceUp s src counted).esA = s.esA :=
  same_of_drop (m := 700172967936) (sourceUp_drop s src counted rfl) .esA rfl
@[simp] theorem sourceUp_esB (s : State) (src : Nat) (counted : Bool) : (sourceUp s src counted).esB = s.esB :=
  same_of_drop (m := 700172967936) (sourceUp_drop s src counted rfl) .esB rfl
@[simp] theorem sourceUp_est (s : State) (src : Nat) (counted : Bool) : (sourceUp s src counted).est = s.est :=
  same_of_drop (m := 700172967936) (sourceUp_drop s src counted rfl) .est rfl
@[simp] theorem sourceUp_dvt (s : State) (src : Nat) (counted : Bool) : (sourceUp s src counted).dvt = s.dvt :=
  same_of_drop (m := 700172967936) (sourceUp_drop s src counted rfl) .dvt rfl
@[simp] theorem sourceUp_lbus (s : State) (src : Nat) (counted : Bool) : (sourceUp s src counted).lbus = s.lbus :=
  same_of_drop (m := 700172967936) (sourceUp_drop s src counted rfl) .lbus rfl
@[simp] theorem sourceUp_pwr (s : State) (src : Nat) (counted : Bool) : (sourceUp s src counted).pwr = s.pwr :=
  same_of_drop (m := 700172967936) (sourceUp_drop s src counted rfl) .pwr rfl
@[simp] theorem sourceUp_sec (s : State) (src : Nat) (counted : Bool) : (sourceUp s src counted).sec = s.sec :=
  same_of_drop (m := 700172967936) (sourceUp_drop s src counted rfl) .sec rfl
@[simp] theorem sourceUp_req (s : State) (src : Nat) (counted : Bool) : (sourceUp s src counted).req = s.req :=
  same_of_drop (m := 700172967936) (sourceUp_drop s src counted rfl) .req rfl
@[simp] theorem sourceUp_clock (s : State) (src : Nat) (counted : Bool) : (sourceUp s src counted).clock = s.clock :=
  same_of_drop (m := 700172967936) (sourceUp_drop s src counted rfl) .clock rfl
@[simp] theorem sourceUp_free (s : State) (src : Nat) (counted : Bool) : (sourceUp s src counted).free = s.free :=
  same_of_drop (m := 700172967936) (sourceUp_drop s src counted rfl) .free rfl
@[simp] theorem sourceUp_pending (s : State) (src : Nat) (counted : Bool) : (sourceUp s src counted).pending = s.pending :=
  same_of_drop (m := 700172967936) (sourceUp_drop s src counted rfl) .pending rfl
@[simp] theorem sourceUp_prt_active (s : State) (src : Nat) (counted : Bool) : (sourceUp s src counted).prt.active = s.prt.active := by
  have h := same_of_drop (m := 700172967936) (sourceUp_drop s src counted rfl) .raised rfl
  simp only [Block.same] at h; simp only [h]
@[simp] theorem sourceUp_prt_pulsed (s : State) (src : Nat) (counted : Bool) : (sourceUp s src counted).prt.pulsed = s.prt.pulsed := by
  have h := same_of_drop (m := 700172967936) (sourceUp_drop s src counted rfl) .raised rfl
  simp only [Block.same] at h; simp only [h]
@[simp] theorem sourceUp_evt_nvm (s : State) (src : Nat) (counted : Bool) : (sourceUp s src counted).evt.nvm = s.evt.nvm := by
  have h := same_of_drop (m := 700172967936) (sourceUp_drop s src counted rfl) .log rfl
  simp only [Block.same] at h; simp only [h]
@[simp] theorem sourceUp_evt_nvmPos (s : State) (src : Nat) (counted : Bool) : (sourceUp s src counted).evt.nvmPos = s.evt.nvmPos := by
  have h := same_of_drop (m := 700172967936) (sourceUp_drop s src counted rfl) .log rfl
  simp only [Block.same] at h; simp only [h]
@[simp] theorem sourceUp_evt_wrapped (s : State) (src : Nat) (counted : Bool) : (sourceUp s src counted).evt.wrapped = s.evt.wrapped := by
  have h := same_of_drop (m := 700172967936) (sourceUp_drop s src counted rfl) .log rfl
  simp only [Block.same] at h; simp only [h]
@[simp] theorem sourceUp_glk_fireHold (s : State) (src : Nat) (counted : Bool) : (sourceUp s src counted).glk.fireHold = s.glk.fireHold := by
  have h := same_of_drop (m := 700172967936) (sourceUp_drop s src counted rfl) .switch rfl
  simp only [Block.same] at h; simp only [h]
@[simp] theorem sourceUp_glk_fireAll (s : State) (src : Nat) (counted : Bool) : (sourceUp s src counted).glk.fireAll = s.glk.fireAll := by
  have h := same_of_drop (m := 700172967936) (sourceUp_drop s src counted rfl) .switch rfl
  simp only [Block.same] at h; simp only [h]
@[simp] theorem sourceUp_glk_closeAsserted (s : State) (src : Nat) (counted : Bool) : (sourceUp s src counted).glk.closeAsserted = s.glk.closeAsserted := by
  have h := same_of_drop (m := 700172967936) (sourceUp_drop s src counted rfl) .switch rfl
  simp only [Block.same] at h; simp only [h]
@[simp] theorem sourceUp_glk_closeDue (s : State) (src : Nat) (counted : Bool) : (sourceUp s src counted).glk.closeDue = s.glk.closeDue := by
  have h := same_of_drop (m := 700172967936) (sourceUp_drop s src counted rfl) .switch rfl
  simp only [Block.same] at h; simp only [h]
@[simp] theorem sourceUp_glk_statClosed (s : State) (src : Nat) (counted : Bool) : (sourceUp s src counted).glk.statClosed = s.glk.statClosed := by
  have h := same_of_drop (m := 700172967936) (sourceUp_drop s src counted rfl) .switch rfl
  simp only [Block.same] at h; simp only [h]
@[simp] theorem sourceUp_thm_sdHotA (s : State) (src : Nat) (counted : Bool) : (sourceUp s src counted).thm.sdHotA = s.thm.sdHotA := by
  have h := same_of_drop (m := 700172967936) (sourceUp_drop s src counted rfl) .shutdown rfl
  simp only [Block.same] at h; simp only [h]
@[simp] theorem sourceUp_thm_sdHotB (s : State) (src : Nat) (counted : Bool) : (sourceUp s src counted).thm.sdHotB = s.thm.sdHotB := by
  have h := same_of_drop (m := 700172967936) (sourceUp_drop s src counted rfl) .shutdown rfl
  simp only [Block.same] at h; simp only [h]
@[simp] theorem sourceUp_thm_sdColdA (s : State) (src : Nat) (counted : Bool) : (sourceUp s src counted).thm.sdColdA = s.thm.sdColdA := by
  have h := same_of_drop (m := 700172967936) (sourceUp_drop s src counted rfl) .shutdown rfl
  simp only [Block.same] at h; simp only [h]
@[simp] theorem sourceUp_thm_sdColdB (s : State) (src : Nat) (counted : Bool) : (sourceUp s src counted).thm.sdColdB = s.thm.sdColdB := by
  have h := same_of_drop (m := 700172967936) (sourceUp_drop s src counted rfl) .shutdown rfl
  simp only [Block.same] at h; simp only [h]
@[simp] theorem sourceDown_dev (s : State) (src : Nat) : (sourceDown s src).dev = s.dev :=
  same_of_drop (m := 16777216) (sourceDown_drop s src rfl) .dev rfl
@[simp] theorem sourceDown_eng (s : State) (src : Nat) : (sourceDown s src).eng = s.eng :=
  same_of_drop (m := 16777216) (sourceDown_drop s src rfl) .eng rfl
@[simp] theorem sourceDown_img (s : State) (src : Nat) : (sourceDown s src).img = s.img :=
  same_of_drop (m := 16777216) (sourceDown_drop s src rfl) .img rfl
@[simp] theorem sourceDown_spl (s : State) (src : Nat) : (sourceDown s src).spl = s.spl :=
  same_of_drop (m := 16777216) (sourceDown_drop s src rfl) .spl rfl
@[simp] theorem sourceDown_tim (s : State) (src : Nat) : (sourceDown s src).tim = s.tim :=
  same_of_drop (m := 16777216) (sourceDown_drop s src rfl) .tim rfl
@[simp] theorem sourceDown_meas (s : State) (src : Nat) : (sourceDown s src).meas = s.meas :=
  same_of_drop (m := 16777216) (sourceDown_drop s src rfl) .meas rfl
@[simp] theorem sourceDown_arm (s : State) (src : Nat) : (sourceDown s src).arm = s.arm :=
  same_of_drop (m := 16777216) (sourceDown_drop s src rfl) .arm rfl
@[simp] theorem sourceDown_pwm (s : State) (src : Nat) : (sourceDown s src).pwm = s.pwm :=
  same_of_drop (m := 16777216) (sourceDown_drop s src rfl) .pwm rfl
@[simp] theorem sourceDown_glk (s : State) (src : Nat) : (sourceDown s src).glk = s.glk :=
  same_of_drop (m := 16777216) (sourceDown_drop s src rfl) .glk rfl
@[simp] theorem sourceDown_chA (s : State) (src : Nat) : (sourceDown s src).chA = s.chA :=
  same_of_drop (m := 16777216) (sourceDown_drop s src rfl) .chA rfl
@[simp] theorem sourceDown_chB (s : State) (src : Nat) : (sourceDown s src).chB = s.chB :=
  same_of_drop (m := 16777216) (sourceDown_drop s src rfl) .chB rfl
@[simp] theorem sourceDown_snA (s : State) (src : Nat) : (sourceDown s src).snA = s.snA :=
  same_of_drop (m := 16777216) (sourceDown_drop s src rfl) .snA rfl
@[simp] theorem sourceDown_snB (s : State) (src : Nat) : (sourceDown s src).snB = s.snB :=
  same_of_drop (m := 16777216) (sourceDown_drop s src rfl) .snB rfl
@[simp] theorem sourceDown_esA (s : State) (src : Nat) : (sourceDown s src).esA = s.esA :=
  same_of_drop (m := 16777216) (sourceDown_drop s src rfl) .esA rfl
@[simp] theorem sourceDown_esB (s : State) (src : Nat) : (sourceDown s src).esB = s.esB :=
  same_of_drop (m := 16777216) (sourceDown_drop s src rfl) .esB rfl
@[simp] theorem sourceDown_est (s : State) (src : Nat) : (sourceDown s src).est = s.est :=
  same_of_drop (m := 16777216) (sourceDown_drop s src rfl) .est rfl
@[simp] theorem sourceDown_thm (s : State) (src : Nat) : (sourceDown s src).thm = s.thm :=
  same_of_drop (m := 16777216) (sourceDown_drop s src rfl) .thm rfl
@[simp] theorem sourceDown_dvt (s : State) (src : Nat) : (sourceDown s src).dvt = s.dvt :=
  same_of_drop (m := 16777216) (sourceDown_drop s src rfl) .dvt rfl
@[simp] theorem sourceDown_lsw (s : State) (src : Nat) : (sourceDown s src).lsw = s.lsw :=
  same_of_drop (m := 16777216) (sourceDown_drop s src rfl) .lsw rfl
@[simp] theorem sourceDown_lbus (s : State) (src : Nat) : (sourceDown s src).lbus = s.lbus :=
  same_of_drop (m := 16777216) (sourceDown_drop s src rfl) .lbus rfl
@[simp] theorem sourceDown_pwr (s : State) (src : Nat) : (sourceDown s src).pwr = s.pwr :=
  same_of_drop (m := 16777216) (sourceDown_drop s src rfl) .pwr rfl
@[simp] theorem sourceDown_sec (s : State) (src : Nat) : (sourceDown s src).sec = s.sec :=
  same_of_drop (m := 16777216) (sourceDown_drop s src rfl) .sec rfl
@[simp] theorem sourceDown_mnt (s : State) (src : Nat) : (sourceDown s src).mnt = s.mnt :=
  same_of_drop (m := 16777216) (sourceDown_drop s src rfl) .mnt rfl
@[simp] theorem sourceDown_evt (s : State) (src : Nat) : (sourceDown s src).evt = s.evt :=
  same_of_drop (m := 16777216) (sourceDown_drop s src rfl) .evt rfl
@[simp] theorem sourceDown_req (s : State) (src : Nat) : (sourceDown s src).req = s.req :=
  same_of_drop (m := 16777216) (sourceDown_drop s src rfl) .req rfl
@[simp] theorem sourceDown_clock (s : State) (src : Nat) : (sourceDown s src).clock = s.clock :=
  same_of_drop (m := 16777216) (sourceDown_drop s src rfl) .clock rfl
@[simp] theorem sourceDown_free (s : State) (src : Nat) : (sourceDown s src).free = s.free :=
  same_of_drop (m := 16777216) (sourceDown_drop s src rfl) .free rfl
@[simp] theorem sourceDown_outbox (s : State) (src : Nat) : (sourceDown s src).outbox = s.outbox :=
  same_of_drop (m := 16777216) (sourceDown_drop s src rfl) .outbox rfl
@[simp] theorem sourceDown_pending (s : State) (src : Nat) : (sourceDown s src).pending = s.pending :=
  same_of_drop (m := 16777216) (sourceDown_drop s src rfl) .pending rfl
@[simp] theorem sourceDown_prt_active (s : State) (src : Nat) : (sourceDown s src).prt.active = s.prt.active := by
  have h := same_of_drop (m := 16777216) (sourceDown_drop s src rfl) .raised rfl
  simp only [Block.same] at h; simp only [h]
@[simp] theorem sourceDown_prt_pulsed (s : State) (src : Nat) : (sourceDown s src).prt.pulsed = s.prt.pulsed := by
  have h := same_of_drop (m := 16777216) (sourceDown_drop s src rfl) .raised rfl
  simp only [Block.same] at h; simp only [h]
@[simp] theorem raiseHeld_dev (s : State) (src : Nat) : (raiseHeld s src).dev = s.dev :=
  same_of_drop (m := 1799684595712) (raiseHeld_drop s src rfl) .dev rfl
@[simp] theorem raiseHeld_eng (s : State) (src : Nat) : (raiseHeld s src).eng = s.eng :=
  same_of_drop (m := 1799684595712) (raiseHeld_drop s src rfl) .eng rfl
@[simp] theorem raiseHeld_img (s : State) (src : Nat) : (raiseHeld s src).img = s.img :=
  same_of_drop (m := 1799684595712) (raiseHeld_drop s src rfl) .img rfl
@[simp] theorem raiseHeld_spl (s : State) (src : Nat) : (raiseHeld s src).spl = s.spl :=
  same_of_drop (m := 1799684595712) (raiseHeld_drop s src rfl) .spl rfl
@[simp] theorem raiseHeld_tim (s : State) (src : Nat) : (raiseHeld s src).tim = s.tim :=
  same_of_drop (m := 1799684595712) (raiseHeld_drop s src rfl) .tim rfl
@[simp] theorem raiseHeld_meas (s : State) (src : Nat) : (raiseHeld s src).meas = s.meas :=
  same_of_drop (m := 1799684595712) (raiseHeld_drop s src rfl) .meas rfl
@[simp] theorem raiseHeld_arm_cell (s : State) (src : Nat) : (raiseHeld s src).arm.cell = s.arm.cell := by
  have h := same_of_drop (m := 1799684595712) (raiseHeld_drop s src rfl) .cell rfl
  simp only [Block.same] at h; simp only [h]
@[simp] theorem raiseHeld_arm_changes (s : State) (src : Nat) : (raiseHeld s src).arm.changes = s.arm.changes := by
  have h := same_of_drop (m := 1799684595712) (raiseHeld_drop s src rfl) .cell rfl
  simp only [Block.same] at h; simp only [h]
@[simp] theorem raiseHeld_arm_owner (s : State) (src : Nat) : (raiseHeld s src).arm.owner = s.arm.owner := by
  have h := same_of_drop (m := 1799684595712) (raiseHeld_drop s src rfl) .token rfl
  exact h
@[simp] theorem raiseHeld_arm_bypassed (s : State) (src : Nat) : (raiseHeld s src).arm.bypassed = s.arm.bypassed := by
  have h := same_of_drop (m := 1799684595712) (raiseHeld_drop s src rfl) .bypass rfl
  exact h
@[simp] theorem raiseHeld_pwm (s : State) (src : Nat) : (raiseHeld s src).pwm = s.pwm :=
  same_of_drop (m := 1799684595712) (raiseHeld_drop s src rfl) .pwm rfl
@[simp] theorem raiseHeld_esA (s : State) (src : Nat) : (raiseHeld s src).esA = s.esA :=
  same_of_drop (m := 1799684595712) (raiseHeld_drop s src rfl) .esA rfl
@[simp] theorem raiseHeld_esB (s : State) (src : Nat) : (raiseHeld s src).esB = s.esB :=
  same_of_drop (m := 1799684595712) (raiseHeld_drop s src rfl) .esB rfl
@[simp] theorem raiseHeld_est (s : State) (src : Nat) : (raiseHeld s src).est = s.est :=
  same_of_drop (m := 1799684595712) (raiseHeld_drop s src rfl) .est rfl
@[simp] theorem raiseHeld_dvt (s : State) (src : Nat) : (raiseHeld s src).dvt = s.dvt :=
  same_of_drop (m := 1799684595712) (raiseHeld_drop s src rfl) .dvt rfl
@[simp] theorem raiseHeld_lbus (s : State) (src : Nat) : (raiseHeld s src).lbus = s.lbus :=
  same_of_drop (m := 1799684595712) (raiseHeld_drop s src rfl) .lbus rfl
@[simp] theorem raiseHeld_pwr (s : State) (src : Nat) : (raiseHeld s src).pwr = s.pwr :=
  same_of_drop (m := 1799684595712) (raiseHeld_drop s src rfl) .pwr rfl
@[simp] theorem raiseHeld_sec (s : State) (src : Nat) : (raiseHeld s src).sec = s.sec :=
  same_of_drop (m := 1799684595712) (raiseHeld_drop s src rfl) .sec rfl
@[simp] theorem raiseHeld_req (s : State) (src : Nat) : (raiseHeld s src).req = s.req :=
  same_of_drop (m := 1799684595712) (raiseHeld_drop s src rfl) .req rfl
@[simp] theorem raiseHeld_clock (s : State) (src : Nat) : (raiseHeld s src).clock = s.clock :=
  same_of_drop (m := 1799684595712) (raiseHeld_drop s src rfl) .clock rfl
@[simp] theorem raiseHeld_free (s : State) (src : Nat) : (raiseHeld s src).free = s.free :=
  same_of_drop (m := 1799684595712) (raiseHeld_drop s src rfl) .free rfl
@[simp] theorem raiseHeld_pending (s : State) (src : Nat) : (raiseHeld s src).pending = s.pending :=
  same_of_drop (m := 1799684595712) (raiseHeld_drop s src rfl) .pending rfl
@[simp] theorem raiseHeld_evt_nvm (s : State) (src : Nat) : (raiseHeld s src).evt.nvm = s.evt.nvm := by
  have h := same_of_drop (m := 1799684595712) (raiseHeld_drop s src rfl) .log rfl
  simp only [Block.same] at h; simp only [h]
@[simp] theorem raiseHeld_evt_nvmPos (s : State) (src : Nat) : (raiseHeld s src).evt.nvmPos = s.evt.nvmPos := by
  have h := same_of_drop (m := 1799684595712) (raiseHeld_drop s src rfl) .log rfl
  simp only [Block.same] at h; simp only [h]
@[simp] theorem raiseHeld_evt_wrapped (s : State) (src : Nat) : (raiseHeld s src).evt.wrapped = s.evt.wrapped := by
  have h := same_of_drop (m := 1799684595712) (raiseHeld_drop s src rfl) .log rfl
  simp only [Block.same] at h; simp only [h]
@[simp] theorem raiseHeld_glk_fireHold (s : State) (src : Nat) : (raiseHeld s src).glk.fireHold = s.glk.fireHold := by
  have h := same_of_drop (m := 1799684595712) (raiseHeld_drop s src rfl) .switch rfl
  simp only [Block.same] at h; simp only [h]
@[simp] theorem raiseHeld_glk_fireAll (s : State) (src : Nat) : (raiseHeld s src).glk.fireAll = s.glk.fireAll := by
  have h := same_of_drop (m := 1799684595712) (raiseHeld_drop s src rfl) .switch rfl
  simp only [Block.same] at h; simp only [h]
@[simp] theorem raiseHeld_glk_closeAsserted (s : State) (src : Nat) : (raiseHeld s src).glk.closeAsserted = s.glk.closeAsserted := by
  have h := same_of_drop (m := 1799684595712) (raiseHeld_drop s src rfl) .switch rfl
  simp only [Block.same] at h; simp only [h]
@[simp] theorem raiseHeld_glk_closeDue (s : State) (src : Nat) : (raiseHeld s src).glk.closeDue = s.glk.closeDue := by
  have h := same_of_drop (m := 1799684595712) (raiseHeld_drop s src rfl) .switch rfl
  simp only [Block.same] at h; simp only [h]
@[simp] theorem raiseHeld_glk_statClosed (s : State) (src : Nat) : (raiseHeld s src).glk.statClosed = s.glk.statClosed := by
  have h := same_of_drop (m := 1799684595712) (raiseHeld_drop s src rfl) .switch rfl
  simp only [Block.same] at h; simp only [h]
@[simp] theorem raiseHeld_thm_sdHotA (s : State) (src : Nat) : (raiseHeld s src).thm.sdHotA = s.thm.sdHotA := by
  have h := same_of_drop (m := 1799684595712) (raiseHeld_drop s src rfl) .shutdown rfl
  simp only [Block.same] at h; simp only [h]
@[simp] theorem raiseHeld_thm_sdHotB (s : State) (src : Nat) : (raiseHeld s src).thm.sdHotB = s.thm.sdHotB := by
  have h := same_of_drop (m := 1799684595712) (raiseHeld_drop s src rfl) .shutdown rfl
  simp only [Block.same] at h; simp only [h]
@[simp] theorem raiseHeld_thm_sdColdA (s : State) (src : Nat) : (raiseHeld s src).thm.sdColdA = s.thm.sdColdA := by
  have h := same_of_drop (m := 1799684595712) (raiseHeld_drop s src rfl) .shutdown rfl
  simp only [Block.same] at h; simp only [h]
@[simp] theorem raiseHeld_thm_sdColdB (s : State) (src : Nat) : (raiseHeld s src).thm.sdColdB = s.thm.sdColdB := by
  have h := same_of_drop (m := 1799684595712) (raiseHeld_drop s src rfl) .shutdown rfl
  simp only [Block.same] at h; simp only [h]
@[simp] theorem endHeld_dev (s : State) (src : Nat) : (endHeld s src).dev = s.dev :=
  same_of_drop (m := 1099528404992) (endHeld_drop s src rfl) .dev rfl
@[simp] theorem endHeld_eng (s : State) (src : Nat) : (endHeld s src).eng = s.eng :=
  same_of_drop (m := 1099528404992) (endHeld_drop s src rfl) .eng rfl
@[simp] theorem endHeld_img (s : State) (src : Nat) : (endHeld s src).img = s.img :=
  same_of_drop (m := 1099528404992) (endHeld_drop s src rfl) .img rfl
@[simp] theorem endHeld_spl (s : State) (src : Nat) : (endHeld s src).spl = s.spl :=
  same_of_drop (m := 1099528404992) (endHeld_drop s src rfl) .spl rfl
@[simp] theorem endHeld_tim (s : State) (src : Nat) : (endHeld s src).tim = s.tim :=
  same_of_drop (m := 1099528404992) (endHeld_drop s src rfl) .tim rfl
@[simp] theorem endHeld_meas (s : State) (src : Nat) : (endHeld s src).meas = s.meas :=
  same_of_drop (m := 1099528404992) (endHeld_drop s src rfl) .meas rfl
@[simp] theorem endHeld_arm (s : State) (src : Nat) : (endHeld s src).arm = s.arm :=
  same_of_drop (m := 1099528404992) (endHeld_drop s src rfl) .arm rfl
@[simp] theorem endHeld_pwm (s : State) (src : Nat) : (endHeld s src).pwm = s.pwm :=
  same_of_drop (m := 1099528404992) (endHeld_drop s src rfl) .pwm rfl
@[simp] theorem endHeld_glk (s : State) (src : Nat) : (endHeld s src).glk = s.glk :=
  same_of_drop (m := 1099528404992) (endHeld_drop s src rfl) .glk rfl
@[simp] theorem endHeld_chA (s : State) (src : Nat) : (endHeld s src).chA = s.chA :=
  same_of_drop (m := 1099528404992) (endHeld_drop s src rfl) .chA rfl
@[simp] theorem endHeld_chB (s : State) (src : Nat) : (endHeld s src).chB = s.chB :=
  same_of_drop (m := 1099528404992) (endHeld_drop s src rfl) .chB rfl
@[simp] theorem endHeld_snA (s : State) (src : Nat) : (endHeld s src).snA = s.snA :=
  same_of_drop (m := 1099528404992) (endHeld_drop s src rfl) .snA rfl
@[simp] theorem endHeld_snB (s : State) (src : Nat) : (endHeld s src).snB = s.snB :=
  same_of_drop (m := 1099528404992) (endHeld_drop s src rfl) .snB rfl
@[simp] theorem endHeld_esA (s : State) (src : Nat) : (endHeld s src).esA = s.esA :=
  same_of_drop (m := 1099528404992) (endHeld_drop s src rfl) .esA rfl
@[simp] theorem endHeld_esB (s : State) (src : Nat) : (endHeld s src).esB = s.esB :=
  same_of_drop (m := 1099528404992) (endHeld_drop s src rfl) .esB rfl
@[simp] theorem endHeld_est (s : State) (src : Nat) : (endHeld s src).est = s.est :=
  same_of_drop (m := 1099528404992) (endHeld_drop s src rfl) .est rfl
@[simp] theorem endHeld_thm (s : State) (src : Nat) : (endHeld s src).thm = s.thm :=
  same_of_drop (m := 1099528404992) (endHeld_drop s src rfl) .thm rfl
@[simp] theorem endHeld_dvt (s : State) (src : Nat) : (endHeld s src).dvt = s.dvt :=
  same_of_drop (m := 1099528404992) (endHeld_drop s src rfl) .dvt rfl
@[simp] theorem endHeld_lsw (s : State) (src : Nat) : (endHeld s src).lsw = s.lsw :=
  same_of_drop (m := 1099528404992) (endHeld_drop s src rfl) .lsw rfl
@[simp] theorem endHeld_lbus (s : State) (src : Nat) : (endHeld s src).lbus = s.lbus :=
  same_of_drop (m := 1099528404992) (endHeld_drop s src rfl) .lbus rfl
@[simp] theorem endHeld_pwr (s : State) (src : Nat) : (endHeld s src).pwr = s.pwr :=
  same_of_drop (m := 1099528404992) (endHeld_drop s src rfl) .pwr rfl
@[simp] theorem endHeld_sec (s : State) (src : Nat) : (endHeld s src).sec = s.sec :=
  same_of_drop (m := 1099528404992) (endHeld_drop s src rfl) .sec rfl
@[simp] theorem endHeld_mnt (s : State) (src : Nat) : (endHeld s src).mnt = s.mnt :=
  same_of_drop (m := 1099528404992) (endHeld_drop s src rfl) .mnt rfl
@[simp] theorem endHeld_evt (s : State) (src : Nat) : (endHeld s src).evt = s.evt :=
  same_of_drop (m := 1099528404992) (endHeld_drop s src rfl) .evt rfl
@[simp] theorem endHeld_req (s : State) (src : Nat) : (endHeld s src).req = s.req :=
  same_of_drop (m := 1099528404992) (endHeld_drop s src rfl) .req rfl
@[simp] theorem endHeld_clock (s : State) (src : Nat) : (endHeld s src).clock = s.clock :=
  same_of_drop (m := 1099528404992) (endHeld_drop s src rfl) .clock rfl
@[simp] theorem endHeld_free (s : State) (src : Nat) : (endHeld s src).free = s.free :=
  same_of_drop (m := 1099528404992) (endHeld_drop s src rfl) .free rfl
@[simp] theorem endHeld_outbox (s : State) (src : Nat) : (endHeld s src).outbox = s.outbox :=
  same_of_drop (m := 1099528404992) (endHeld_drop s src rfl) .outbox rfl
@[simp] theorem endHeld_pending (s : State) (src : Nat) : (endHeld s src).pending = s.pending :=
  same_of_drop (m := 1099528404992) (endHeld_drop s src rfl) .pending rfl
@[simp] theorem raiseEvent_dev (s : State) (src : Nat) : (raiseEvent s src).dev = s.dev :=
  same_of_drop (m := 1799684595712) (raiseEvent_drop s src rfl) .dev rfl
@[simp] theorem raiseEvent_eng (s : State) (src : Nat) : (raiseEvent s src).eng = s.eng :=
  same_of_drop (m := 1799684595712) (raiseEvent_drop s src rfl) .eng rfl
@[simp] theorem raiseEvent_img (s : State) (src : Nat) : (raiseEvent s src).img = s.img :=
  same_of_drop (m := 1799684595712) (raiseEvent_drop s src rfl) .img rfl
@[simp] theorem raiseEvent_spl (s : State) (src : Nat) : (raiseEvent s src).spl = s.spl :=
  same_of_drop (m := 1799684595712) (raiseEvent_drop s src rfl) .spl rfl
@[simp] theorem raiseEvent_tim (s : State) (src : Nat) : (raiseEvent s src).tim = s.tim :=
  same_of_drop (m := 1799684595712) (raiseEvent_drop s src rfl) .tim rfl
@[simp] theorem raiseEvent_meas (s : State) (src : Nat) : (raiseEvent s src).meas = s.meas :=
  same_of_drop (m := 1799684595712) (raiseEvent_drop s src rfl) .meas rfl
@[simp] theorem raiseEvent_arm_cell (s : State) (src : Nat) : (raiseEvent s src).arm.cell = s.arm.cell := by
  have h := same_of_drop (m := 1799684595712) (raiseEvent_drop s src rfl) .cell rfl
  simp only [Block.same] at h; simp only [h]
@[simp] theorem raiseEvent_arm_changes (s : State) (src : Nat) : (raiseEvent s src).arm.changes = s.arm.changes := by
  have h := same_of_drop (m := 1799684595712) (raiseEvent_drop s src rfl) .cell rfl
  simp only [Block.same] at h; simp only [h]
@[simp] theorem raiseEvent_arm_owner (s : State) (src : Nat) : (raiseEvent s src).arm.owner = s.arm.owner := by
  have h := same_of_drop (m := 1799684595712) (raiseEvent_drop s src rfl) .token rfl
  exact h
@[simp] theorem raiseEvent_arm_bypassed (s : State) (src : Nat) : (raiseEvent s src).arm.bypassed = s.arm.bypassed := by
  have h := same_of_drop (m := 1799684595712) (raiseEvent_drop s src rfl) .bypass rfl
  exact h
@[simp] theorem raiseEvent_pwm (s : State) (src : Nat) : (raiseEvent s src).pwm = s.pwm :=
  same_of_drop (m := 1799684595712) (raiseEvent_drop s src rfl) .pwm rfl
@[simp] theorem raiseEvent_esA (s : State) (src : Nat) : (raiseEvent s src).esA = s.esA :=
  same_of_drop (m := 1799684595712) (raiseEvent_drop s src rfl) .esA rfl
@[simp] theorem raiseEvent_esB (s : State) (src : Nat) : (raiseEvent s src).esB = s.esB :=
  same_of_drop (m := 1799684595712) (raiseEvent_drop s src rfl) .esB rfl
@[simp] theorem raiseEvent_est (s : State) (src : Nat) : (raiseEvent s src).est = s.est :=
  same_of_drop (m := 1799684595712) (raiseEvent_drop s src rfl) .est rfl
@[simp] theorem raiseEvent_dvt (s : State) (src : Nat) : (raiseEvent s src).dvt = s.dvt :=
  same_of_drop (m := 1799684595712) (raiseEvent_drop s src rfl) .dvt rfl
@[simp] theorem raiseEvent_lbus (s : State) (src : Nat) : (raiseEvent s src).lbus = s.lbus :=
  same_of_drop (m := 1799684595712) (raiseEvent_drop s src rfl) .lbus rfl
@[simp] theorem raiseEvent_pwr (s : State) (src : Nat) : (raiseEvent s src).pwr = s.pwr :=
  same_of_drop (m := 1799684595712) (raiseEvent_drop s src rfl) .pwr rfl
@[simp] theorem raiseEvent_sec (s : State) (src : Nat) : (raiseEvent s src).sec = s.sec :=
  same_of_drop (m := 1799684595712) (raiseEvent_drop s src rfl) .sec rfl
@[simp] theorem raiseEvent_req (s : State) (src : Nat) : (raiseEvent s src).req = s.req :=
  same_of_drop (m := 1799684595712) (raiseEvent_drop s src rfl) .req rfl
@[simp] theorem raiseEvent_clock (s : State) (src : Nat) : (raiseEvent s src).clock = s.clock :=
  same_of_drop (m := 1799684595712) (raiseEvent_drop s src rfl) .clock rfl
@[simp] theorem raiseEvent_free (s : State) (src : Nat) : (raiseEvent s src).free = s.free :=
  same_of_drop (m := 1799684595712) (raiseEvent_drop s src rfl) .free rfl
@[simp] theorem raiseEvent_pending (s : State) (src : Nat) : (raiseEvent s src).pending = s.pending :=
  same_of_drop (m := 1799684595712) (raiseEvent_drop s src rfl) .pending rfl
@[simp] theorem raiseEvent_evt_nvm (s : State) (src : Nat) : (raiseEvent s src).evt.nvm = s.evt.nvm := by
  have h := same_of_drop (m := 1799684595712) (raiseEvent_drop s src rfl) .log rfl
  simp only [Block.same] at h; simp only [h]
@[simp] theorem raiseEvent_evt_nvmPos (s : State) (src : Nat) : (raiseEvent s src).evt.nvmPos = s.evt.nvmPos := by
  have h := same_of_drop (m := 1799684595712) (raiseEvent_drop s src rfl) .log rfl
  simp only [Block.same] at h; simp only [h]
@[simp] theorem raiseEvent_evt_wrapped (s : State) (src : Nat) : (raiseEvent s src).evt.wrapped = s.evt.wrapped := by
  have h := same_of_drop (m := 1799684595712) (raiseEvent_drop s src rfl) .log rfl
  simp only [Block.same] at h; simp only [h]
@[simp] theorem raiseEvent_glk_fireHold (s : State) (src : Nat) : (raiseEvent s src).glk.fireHold = s.glk.fireHold := by
  have h := same_of_drop (m := 1799684595712) (raiseEvent_drop s src rfl) .switch rfl
  simp only [Block.same] at h; simp only [h]
@[simp] theorem raiseEvent_glk_fireAll (s : State) (src : Nat) : (raiseEvent s src).glk.fireAll = s.glk.fireAll := by
  have h := same_of_drop (m := 1799684595712) (raiseEvent_drop s src rfl) .switch rfl
  simp only [Block.same] at h; simp only [h]
@[simp] theorem raiseEvent_glk_closeAsserted (s : State) (src : Nat) : (raiseEvent s src).glk.closeAsserted = s.glk.closeAsserted := by
  have h := same_of_drop (m := 1799684595712) (raiseEvent_drop s src rfl) .switch rfl
  simp only [Block.same] at h; simp only [h]
@[simp] theorem raiseEvent_glk_closeDue (s : State) (src : Nat) : (raiseEvent s src).glk.closeDue = s.glk.closeDue := by
  have h := same_of_drop (m := 1799684595712) (raiseEvent_drop s src rfl) .switch rfl
  simp only [Block.same] at h; simp only [h]
@[simp] theorem raiseEvent_glk_statClosed (s : State) (src : Nat) : (raiseEvent s src).glk.statClosed = s.glk.statClosed := by
  have h := same_of_drop (m := 1799684595712) (raiseEvent_drop s src rfl) .switch rfl
  simp only [Block.same] at h; simp only [h]
@[simp] theorem raiseEvent_thm_sdHotA (s : State) (src : Nat) : (raiseEvent s src).thm.sdHotA = s.thm.sdHotA := by
  have h := same_of_drop (m := 1799684595712) (raiseEvent_drop s src rfl) .shutdown rfl
  simp only [Block.same] at h; simp only [h]
@[simp] theorem raiseEvent_thm_sdHotB (s : State) (src : Nat) : (raiseEvent s src).thm.sdHotB = s.thm.sdHotB := by
  have h := same_of_drop (m := 1799684595712) (raiseEvent_drop s src rfl) .shutdown rfl
  simp only [Block.same] at h; simp only [h]
@[simp] theorem raiseEvent_thm_sdColdA (s : State) (src : Nat) : (raiseEvent s src).thm.sdColdA = s.thm.sdColdA := by
  have h := same_of_drop (m := 1799684595712) (raiseEvent_drop s src rfl) .shutdown rfl
  simp only [Block.same] at h; simp only [h]
@[simp] theorem raiseEvent_thm_sdColdB (s : State) (src : Nat) : (raiseEvent s src).thm.sdColdB = s.thm.sdColdB := by
  have h := same_of_drop (m := 1799684595712) (raiseEvent_drop s src rfl) .shutdown rfl
  simp only [Block.same] at h; simp only [h]
@[simp] theorem beginClamp_dev (s : State) : (beginClamp s).dev = s.dev :=
  same_of_drop (m := 8657043456) (beginClamp_drop s rfl) .dev rfl
@[simp] theorem beginClamp_eng (s : State) : (beginClamp s).eng = s.eng :=
  same_of_drop (m := 8657043456) (beginClamp_drop s rfl) .eng rfl
@[simp] theorem beginClamp_img (s : State) : (beginClamp s).img = s.img :=
  same_of_drop (m := 8657043456) (beginClamp_drop s rfl) .img rfl
@[simp] theorem beginClamp_spl (s : State) : (beginClamp s).spl = s.spl :=
  same_of_drop (m := 8657043456) (beginClamp_drop s rfl) .spl rfl
@[simp] theorem beginClamp_tim (s : State) : (beginClamp s).tim = s.tim :=
  same_of_drop (m := 8657043456) (beginClamp_drop s rfl) .tim rfl
@[simp] theorem beginClamp_meas (s : State) : (beginClamp s).meas = s.meas :=
  same_of_drop (m := 8657043456) (beginClamp_drop s rfl) .meas rfl
@[simp] theorem beginClamp_arm (s : State) : (beginClamp s).arm = s.arm :=
  same_of_drop (m := 8657043456) (beginClamp_drop s rfl) .arm rfl
@[simp] theorem beginClamp_pwm (s : State) : (beginClamp s).pwm = s.pwm :=
  same_of_drop (m := 8657043456) (beginClamp_drop s rfl) .pwm rfl
@[simp] theorem beginClamp_glk (s : State) : (beginClamp s).glk = s.glk :=
  same_of_drop (m := 8657043456) (beginClamp_drop s rfl) .glk rfl
@[simp] theorem beginClamp_chA (s : State) : (beginClamp s).chA = s.chA :=
  same_of_drop (m := 8657043456) (beginClamp_drop s rfl) .chA rfl
@[simp] theorem beginClamp_chB (s : State) : (beginClamp s).chB = s.chB :=
  same_of_drop (m := 8657043456) (beginClamp_drop s rfl) .chB rfl
@[simp] theorem beginClamp_snA (s : State) : (beginClamp s).snA = s.snA :=
  same_of_drop (m := 8657043456) (beginClamp_drop s rfl) .snA rfl
@[simp] theorem beginClamp_snB (s : State) : (beginClamp s).snB = s.snB :=
  same_of_drop (m := 8657043456) (beginClamp_drop s rfl) .snB rfl
@[simp] theorem beginClamp_esA (s : State) : (beginClamp s).esA = s.esA :=
  same_of_drop (m := 8657043456) (beginClamp_drop s rfl) .esA rfl
@[simp] theorem beginClamp_esB (s : State) : (beginClamp s).esB = s.esB :=
  same_of_drop (m := 8657043456) (beginClamp_drop s rfl) .esB rfl
@[simp] theorem beginClamp_est (s : State) : (beginClamp s).est = s.est :=
  same_of_drop (m := 8657043456) (beginClamp_drop s rfl) .est rfl
@[simp] theorem beginClamp_thm (s : State) : (beginClamp s).thm = s.thm :=
  same_of_drop (m := 8657043456) (beginClamp_drop s rfl) .thm rfl
@[simp] theorem beginClamp_prt (s : State) : (beginClamp s).prt = s.prt :=
  same_of_drop (m := 8657043456) (beginClamp_drop s rfl) .prt rfl
@[simp] theorem beginClamp_dvt (s : State) : (beginClamp s).dvt = s.dvt :=
  same_of_drop (m := 8657043456) (beginClamp_drop s rfl) .dvt rfl
@[simp] theorem beginClamp_lbus (s : State) : (beginClamp s).lbus = s.lbus :=
  same_of_drop (m := 8657043456) (beginClamp_drop s rfl) .lbus rfl
@[simp] theorem beginClamp_pwr (s : State) : (beginClamp s).pwr = s.pwr :=
  same_of_drop (m := 8657043456) (beginClamp_drop s rfl) .pwr rfl
@[simp] theorem beginClamp_sec (s : State) : (beginClamp s).sec = s.sec :=
  same_of_drop (m := 8657043456) (beginClamp_drop s rfl) .sec rfl
@[simp] theorem beginClamp_mnt (s : State) : (beginClamp s).mnt = s.mnt :=
  same_of_drop (m := 8657043456) (beginClamp_drop s rfl) .mnt rfl
@[simp] theorem beginClamp_req (s : State) : (beginClamp s).req = s.req :=
  same_of_drop (m := 8657043456) (beginClamp_drop s rfl) .req rfl
@[simp] theorem beginClamp_clock (s : State) : (beginClamp s).clock = s.clock :=
  same_of_drop (m := 8657043456) (beginClamp_drop s rfl) .clock rfl
@[simp] theorem beginClamp_free (s : State) : (beginClamp s).free = s.free :=
  same_of_drop (m := 8657043456) (beginClamp_drop s rfl) .free rfl
@[simp] theorem beginClamp_outbox (s : State) : (beginClamp s).outbox = s.outbox :=
  same_of_drop (m := 8657043456) (beginClamp_drop s rfl) .outbox rfl
@[simp] theorem beginClamp_pending (s : State) : (beginClamp s).pending = s.pending :=
  same_of_drop (m := 8657043456) (beginClamp_drop s rfl) .pending rfl
@[simp] theorem beginClamp_evt_nvm (s : State) : (beginClamp s).evt.nvm = s.evt.nvm := by
  have h := same_of_drop (m := 8657043456) (beginClamp_drop s rfl) .log rfl
  simp only [Block.same] at h; simp only [h]
@[simp] theorem beginClamp_evt_nvmPos (s : State) : (beginClamp s).evt.nvmPos = s.evt.nvmPos := by
  have h := same_of_drop (m := 8657043456) (beginClamp_drop s rfl) .log rfl
  simp only [Block.same] at h; simp only [h]
@[simp] theorem beginClamp_evt_wrapped (s : State) : (beginClamp s).evt.wrapped = s.evt.wrapped := by
  have h := same_of_drop (m := 8657043456) (beginClamp_drop s rfl) .log rfl
  simp only [Block.same] at h; simp only [h]
@[simp] theorem setEngines_dev (s : State) (r : EngRun) : (setEngines s r).dev = s.dev :=
  same_of_drop (m := 8) (setEngines_drop s r rfl) .dev rfl
@[simp] theorem setEngines_img (s : State) (r : EngRun) : (setEngines s r).img = s.img :=
  same_of_drop (m := 8) (setEngines_drop s r rfl) .img rfl
@[simp] theorem setEngines_spl (s : State) (r : EngRun) : (setEngines s r).spl = s.spl :=
  same_of_drop (m := 8) (setEngines_drop s r rfl) .spl rfl
@[simp] theorem setEngines_tim (s : State) (r : EngRun) : (setEngines s r).tim = s.tim :=
  same_of_drop (m := 8) (setEngines_drop s r rfl) .tim rfl
@[simp] theorem setEngines_meas (s : State) (r : EngRun) : (setEngines s r).meas = s.meas :=
  same_of_drop (m := 8) (setEngines_drop s r rfl) .meas rfl
@[simp] theorem setEngines_arm (s : State) (r : EngRun) : (setEngines s r).arm = s.arm :=
  same_of_drop (m := 8) (setEngines_drop s r rfl) .arm rfl
@[simp] theorem setEngines_pwm (s : State) (r : EngRun) : (setEngines s r).pwm = s.pwm :=
  same_of_drop (m := 8) (setEngines_drop s r rfl) .pwm rfl
@[simp] theorem setEngines_glk (s : State) (r : EngRun) : (setEngines s r).glk = s.glk :=
  same_of_drop (m := 8) (setEngines_drop s r rfl) .glk rfl
@[simp] theorem setEngines_chA (s : State) (r : EngRun) : (setEngines s r).chA = s.chA :=
  same_of_drop (m := 8) (setEngines_drop s r rfl) .chA rfl
@[simp] theorem setEngines_chB (s : State) (r : EngRun) : (setEngines s r).chB = s.chB :=
  same_of_drop (m := 8) (setEngines_drop s r rfl) .chB rfl
@[simp] theorem setEngines_snA (s : State) (r : EngRun) : (setEngines s r).snA = s.snA :=
  same_of_drop (m := 8) (setEngines_drop s r rfl) .snA rfl
@[simp] theorem setEngines_snB (s : State) (r : EngRun) : (setEngines s r).snB = s.snB :=
  same_of_drop (m := 8) (setEngines_drop s r rfl) .snB rfl
@[simp] theorem setEngines_esA (s : State) (r : EngRun) : (setEngines s r).esA = s.esA :=
  same_of_drop (m := 8) (setEngines_drop s r rfl) .esA rfl
@[simp] theorem setEngines_esB (s : State) (r : EngRun) : (setEngines s r).esB = s.esB :=
  same_of_drop (m := 8) (setEngines_drop s r rfl) .esB rfl
@[simp] theorem setEngines_est (s : State) (r : EngRun) : (setEngines s r).est = s.est :=
  same_of_drop (m := 8) (setEngines_drop s r rfl) .est rfl
@[simp] theorem setEngines_thm (s : State) (r : EngRun) : (setEngines s r).thm = s.thm :=
  same_of_drop (m := 8) (setEngines_drop s r rfl) .thm rfl
@[simp] theorem setEngines_prt (s : State) (r : EngRun) : (setEngines s r).prt = s.prt :=
  same_of_drop (m := 8) (setEngines_drop s r rfl) .prt rfl
@[simp] theorem setEngines_dvt (s : State) (r : EngRun) : (setEngines s r).dvt = s.dvt :=
  same_of_drop (m := 8) (setEngines_drop s r rfl) .dvt rfl
@[simp] theorem setEngines_lsw (s : State) (r : EngRun) : (setEngines s r).lsw = s.lsw :=
  same_of_drop (m := 8) (setEngines_drop s r rfl) .lsw rfl
@[simp] theorem setEngines_lbus (s : State) (r : EngRun) : (setEngines s r).lbus = s.lbus :=
  same_of_drop (m := 8) (setEngines_drop s r rfl) .lbus rfl
@[simp] theorem setEngines_pwr (s : State) (r : EngRun) : (setEngines s r).pwr = s.pwr :=
  same_of_drop (m := 8) (setEngines_drop s r rfl) .pwr rfl
@[simp] theorem setEngines_sec (s : State) (r : EngRun) : (setEngines s r).sec = s.sec :=
  same_of_drop (m := 8) (setEngines_drop s r rfl) .sec rfl
@[simp] theorem setEngines_mnt (s : State) (r : EngRun) : (setEngines s r).mnt = s.mnt :=
  same_of_drop (m := 8) (setEngines_drop s r rfl) .mnt rfl
@[simp] theorem setEngines_evt (s : State) (r : EngRun) : (setEngines s r).evt = s.evt :=
  same_of_drop (m := 8) (setEngines_drop s r rfl) .evt rfl
@[simp] theorem setEngines_req (s : State) (r : EngRun) : (setEngines s r).req = s.req :=
  same_of_drop (m := 8) (setEngines_drop s r rfl) .req rfl
@[simp] theorem setEngines_clock (s : State) (r : EngRun) : (setEngines s r).clock = s.clock :=
  same_of_drop (m := 8) (setEngines_drop s r rfl) .clock rfl
@[simp] theorem setEngines_free (s : State) (r : EngRun) : (setEngines s r).free = s.free :=
  same_of_drop (m := 8) (setEngines_drop s r rfl) .free rfl
@[simp] theorem setEngines_outbox (s : State) (r : EngRun) : (setEngines s r).outbox = s.outbox :=
  same_of_drop (m := 8) (setEngines_drop s r rfl) .outbox rfl
@[simp] theorem setEngines_pending (s : State) (r : EngRun) : (setEngines s r).pending = s.pending :=
  same_of_drop (m := 8) (setEngines_drop s r rfl) .pending rfl
@[simp] theorem deny_dev (s : State) (p : Requester) (c : OpClass) (addr : Word) : (deny s p c addr).dev = s.dev :=
  same_of_drop (m := 10737418240) (deny_drop s p c addr rfl) .dev rfl
@[simp] theorem deny_eng (s : State) (p : Requester) (c : OpClass) (addr : Word) : (deny s p c addr).eng = s.eng :=
  same_of_drop (m := 10737418240) (deny_drop s p c addr rfl) .eng rfl
@[simp] theorem deny_img (s : State) (p : Requester) (c : OpClass) (addr : Word) : (deny s p c addr).img = s.img :=
  same_of_drop (m := 10737418240) (deny_drop s p c addr rfl) .img rfl
@[simp] theorem deny_spl (s : State) (p : Requester) (c : OpClass) (addr : Word) : (deny s p c addr).spl = s.spl :=
  same_of_drop (m := 10737418240) (deny_drop s p c addr rfl) .spl rfl
@[simp] theorem deny_tim (s : State) (p : Requester) (c : OpClass) (addr : Word) : (deny s p c addr).tim = s.tim :=
  same_of_drop (m := 10737418240) (deny_drop s p c addr rfl) .tim rfl
@[simp] theorem deny_meas (s : State) (p : Requester) (c : OpClass) (addr : Word) : (deny s p c addr).meas = s.meas :=
  same_of_drop (m := 10737418240) (deny_drop s p c addr rfl) .meas rfl
@[simp] theorem deny_arm (s : State) (p : Requester) (c : OpClass) (addr : Word) : (deny s p c addr).arm = s.arm :=
  same_of_drop (m := 10737418240) (deny_drop s p c addr rfl) .arm rfl
@[simp] theorem deny_pwm (s : State) (p : Requester) (c : OpClass) (addr : Word) : (deny s p c addr).pwm = s.pwm :=
  same_of_drop (m := 10737418240) (deny_drop s p c addr rfl) .pwm rfl
@[simp] theorem deny_glk (s : State) (p : Requester) (c : OpClass) (addr : Word) : (deny s p c addr).glk = s.glk :=
  same_of_drop (m := 10737418240) (deny_drop s p c addr rfl) .glk rfl
@[simp] theorem deny_chA (s : State) (p : Requester) (c : OpClass) (addr : Word) : (deny s p c addr).chA = s.chA :=
  same_of_drop (m := 10737418240) (deny_drop s p c addr rfl) .chA rfl
@[simp] theorem deny_chB (s : State) (p : Requester) (c : OpClass) (addr : Word) : (deny s p c addr).chB = s.chB :=
  same_of_drop (m := 10737418240) (deny_drop s p c addr rfl) .chB rfl
@[simp] theorem deny_snA (s : State) (p : Requester) (c : OpClass) (addr : Word) : (deny s p c addr).snA = s.snA :=
  same_of_drop (m := 10737418240) (deny_drop s p c addr rfl) .snA rfl
@[simp] theorem deny_snB (s : State) (p : Requester) (c : OpClass) (addr : Word) : (deny s p c addr).snB = s.snB :=
  same_of_drop (m := 10737418240) (deny_drop s p c addr rfl) .snB rfl
@[simp] theorem deny_esA (s : State) (p : Requester) (c : OpClass) (addr : Word) : (deny s p c addr).esA = s.esA :=
  same_of_drop (m := 10737418240) (deny_drop s p c addr rfl) .esA rfl
@[simp] theorem deny_esB (s : State) (p : Requester) (c : OpClass) (addr : Word) : (deny s p c addr).esB = s.esB :=
  same_of_drop (m := 10737418240) (deny_drop s p c addr rfl) .esB rfl
@[simp] theorem deny_est (s : State) (p : Requester) (c : OpClass) (addr : Word) : (deny s p c addr).est = s.est :=
  same_of_drop (m := 10737418240) (deny_drop s p c addr rfl) .est rfl
@[simp] theorem deny_thm (s : State) (p : Requester) (c : OpClass) (addr : Word) : (deny s p c addr).thm = s.thm :=
  same_of_drop (m := 10737418240) (deny_drop s p c addr rfl) .thm rfl
@[simp] theorem deny_prt (s : State) (p : Requester) (c : OpClass) (addr : Word) : (deny s p c addr).prt = s.prt :=
  same_of_drop (m := 10737418240) (deny_drop s p c addr rfl) .prt rfl
@[simp] theorem deny_dvt (s : State) (p : Requester) (c : OpClass) (addr : Word) : (deny s p c addr).dvt = s.dvt :=
  same_of_drop (m := 10737418240) (deny_drop s p c addr rfl) .dvt rfl
@[simp] theorem deny_lsw (s : State) (p : Requester) (c : OpClass) (addr : Word) : (deny s p c addr).lsw = s.lsw :=
  same_of_drop (m := 10737418240) (deny_drop s p c addr rfl) .lsw rfl
@[simp] theorem deny_lbus (s : State) (p : Requester) (c : OpClass) (addr : Word) : (deny s p c addr).lbus = s.lbus :=
  same_of_drop (m := 10737418240) (deny_drop s p c addr rfl) .lbus rfl
@[simp] theorem deny_pwr (s : State) (p : Requester) (c : OpClass) (addr : Word) : (deny s p c addr).pwr = s.pwr :=
  same_of_drop (m := 10737418240) (deny_drop s p c addr rfl) .pwr rfl
@[simp] theorem deny_sec_life (s : State) (p : Requester) (c : OpClass) (addr : Word) : (deny s p c addr).sec.life = s.sec.life := by
  have h := same_of_drop (m := 10737418240) (deny_drop s p c addr rfl) .life rfl
  exact h
@[simp] theorem deny_mnt (s : State) (p : Requester) (c : OpClass) (addr : Word) : (deny s p c addr).mnt = s.mnt :=
  same_of_drop (m := 10737418240) (deny_drop s p c addr rfl) .mnt rfl
@[simp] theorem deny_req (s : State) (p : Requester) (c : OpClass) (addr : Word) : (deny s p c addr).req = s.req :=
  same_of_drop (m := 10737418240) (deny_drop s p c addr rfl) .req rfl
@[simp] theorem deny_clock (s : State) (p : Requester) (c : OpClass) (addr : Word) : (deny s p c addr).clock = s.clock :=
  same_of_drop (m := 10737418240) (deny_drop s p c addr rfl) .clock rfl
@[simp] theorem deny_free (s : State) (p : Requester) (c : OpClass) (addr : Word) : (deny s p c addr).free = s.free :=
  same_of_drop (m := 10737418240) (deny_drop s p c addr rfl) .free rfl
@[simp] theorem deny_outbox (s : State) (p : Requester) (c : OpClass) (addr : Word) : (deny s p c addr).outbox = s.outbox :=
  same_of_drop (m := 10737418240) (deny_drop s p c addr rfl) .outbox rfl
@[simp] theorem deny_pending (s : State) (p : Requester) (c : OpClass) (addr : Word) : (deny s p c addr).pending = s.pending :=
  same_of_drop (m := 10737418240) (deny_drop s p c addr rfl) .pending rfl
@[simp] theorem deny_evt_nvm (s : State) (p : Requester) (c : OpClass) (addr : Word) : (deny s p c addr).evt.nvm = s.evt.nvm := by
  have h := same_of_drop (m := 10737418240) (deny_drop s p c addr rfl) .log rfl
  simp only [Block.same] at h; simp only [h]
@[simp] theorem deny_evt_nvmPos (s : State) (p : Requester) (c : OpClass) (addr : Word) : (deny s p c addr).evt.nvmPos = s.evt.nvmPos := by
  have h := same_of_drop (m := 10737418240) (deny_drop s p c addr rfl) .log rfl
  simp only [Block.same] at h; simp only [h]
@[simp] theorem deny_evt_wrapped (s : State) (p : Requester) (c : OpClass) (addr : Word) : (deny s p c addr).evt.wrapped = s.evt.wrapped := by
  have h := same_of_drop (m := 10737418240) (deny_drop s p c addr rfl) .log rfl
  simp only [Block.same] at h; simp only [h]
@[simp] theorem keptAcross_dev_part (s : State) (bypassHold : Bool) (closeKept : Bool) : (keptAcross s bypassHold closeKept).dev.part = s.dev.part := by
  have h := same_of_drop (m := 17075447791596) (keptAcross_drop s bypassHold closeKept rfl) .part rfl
  exact h
@[simp] theorem keptAcross_dev_phase (s : State) (bypassHold : Bool) (closeKept : Bool) : (keptAcross s bypassHold closeKept).dev.phase = s.dev.phase := by
  have h := same_of_drop (m := 17075447791596) (keptAcross_drop s bypassHold closeKept rfl) .phase rfl
  exact h
@[simp] theorem keptAcross_img_slotA (s : State) (bypassHold : Bool) (closeKept : Bool) : (keptAcross s bypassHold closeKept).img.slotA = s.img.slotA := by
  have h := same_of_drop (m := 17075447791596) (keptAcross_drop s bypassHold closeKept rfl) .slots rfl
  simp only [Block.same] at h; simp only [h]
@[simp] theorem keptAcross_img_slotB (s : State) (bypassHold : Bool) (closeKept : Bool) : (keptAcross s bypassHold closeKept).img.slotB = s.img.slotB := by
  have h := same_of_drop (m := 17075447791596) (keptAcross_drop s bypassHold closeKept rfl) .slots rfl
  simp only [Block.same] at h; simp only [h]
@[simp] theorem keptAcross_pwr_s1 (s : State) (bypassHold : Bool) (closeKept : Bool) : (keptAcross s bypassHold closeKept).pwr.s1 = s.pwr.s1 := by
  have h := same_of_drop (m := 17075447791596) (keptAcross_drop s bypassHold closeKept rfl) .stages rfl
  simp only [Block.same] at h; simp only [h]
@[simp] theorem keptAcross_pwr_s2 (s : State) (bypassHold : Bool) (closeKept : Bool) : (keptAcross s bypassHold closeKept).pwr.s2 = s.pwr.s2 := by
  have h := same_of_drop (m := 17075447791596) (keptAcross_drop s bypassHold closeKept rfl) .stages rfl
  simp only [Block.same] at h; simp only [h]
@[simp] theorem keptAcross_pwr_s3 (s : State) (bypassHold : Bool) (closeKept : Bool) : (keptAcross s bypassHold closeKept).pwr.s3 = s.pwr.s3 := by
  have h := same_of_drop (m := 17075447791596) (keptAcross_drop s bypassHold closeKept rfl) .stages rfl
  simp only [Block.same] at h; simp only [h]
@[simp] theorem keptAcross_pwr_s4 (s : State) (bypassHold : Bool) (closeKept : Bool) : (keptAcross s bypassHold closeKept).pwr.s4 = s.pwr.s4 := by
  have h := same_of_drop (m := 17075447791596) (keptAcross_drop s bypassHold closeKept rfl) .stages rfl
  simp only [Block.same] at h; simp only [h]
@[simp] theorem keptAcross_sec_life (s : State) (bypassHold : Bool) (closeKept : Bool) : (keptAcross s bypassHold closeKept).sec.life = s.sec.life := by
  have h := same_of_drop (m := 17075447791596) (keptAcross_drop s bypassHold closeKept rfl) .life rfl
  exact h
@[simp] theorem keptAcross_clock (s : State) (bypassHold : Bool) (closeKept : Bool) : (keptAcross s bypassHold closeKept).clock = s.clock :=
  same_of_drop (m := 17075447791596) (keptAcross_drop s bypassHold closeKept rfl) .clock rfl
@[simp] theorem keptAcross_free (s : State) (bypassHold : Bool) (closeKept : Bool) : (keptAcross s bypassHold closeKept).free = s.free :=
  same_of_drop (m := 17075447791596) (keptAcross_drop s bypassHold closeKept rfl) .free rfl
@[simp] theorem keptAcross_outbox (s : State) (bypassHold : Bool) (closeKept : Bool) : (keptAcross s bypassHold closeKept).outbox = s.outbox :=
  same_of_drop (m := 17075447791596) (keptAcross_drop s bypassHold closeKept rfl) .outbox rfl
@[simp] theorem keptAcross_pending (s : State) (bypassHold : Bool) (closeKept : Bool) : (keptAcross s bypassHold closeKept).pending = s.pending :=
  same_of_drop (m := 17075447791596) (keptAcross_drop s bypassHold closeKept rfl) .pending rfl
@[simp] theorem coldReset_dev_part (s : State) (cause : Nat) (fire : Bool) : (coldReset s cause fire).dev.part = s.dev.part := by
  have h := same_of_drop (m := 17212886745070) (coldReset_drop s cause fire rfl) .part rfl
  exact h
@[simp] theorem coldReset_img_slotA (s : State) (cause : Nat) (fire : Bool) : (coldReset s cause fire).img.slotA = s.img.slotA := by
  have h := same_of_drop (m := 17212886745070) (coldReset_drop s cause fire rfl) .slots rfl
  simp only [Block.same] at h; simp only [h]
@[simp] theorem coldReset_img_slotB (s : State) (cause : Nat) (fire : Bool) : (coldReset s cause fire).img.slotB = s.img.slotB := by
  have h := same_of_drop (m := 17212886745070) (coldReset_drop s cause fire rfl) .slots rfl
  simp only [Block.same] at h; simp only [h]
@[simp] theorem coldReset_pwr_s1 (s : State) (cause : Nat) (fire : Bool) : (coldReset s cause fire).pwr.s1 = s.pwr.s1 := by
  have h := same_of_drop (m := 17212886745070) (coldReset_drop s cause fire rfl) .stages rfl
  simp only [Block.same] at h; simp only [h]
@[simp] theorem coldReset_pwr_s2 (s : State) (cause : Nat) (fire : Bool) : (coldReset s cause fire).pwr.s2 = s.pwr.s2 := by
  have h := same_of_drop (m := 17212886745070) (coldReset_drop s cause fire rfl) .stages rfl
  simp only [Block.same] at h; simp only [h]
@[simp] theorem coldReset_pwr_s3 (s : State) (cause : Nat) (fire : Bool) : (coldReset s cause fire).pwr.s3 = s.pwr.s3 := by
  have h := same_of_drop (m := 17212886745070) (coldReset_drop s cause fire rfl) .stages rfl
  simp only [Block.same] at h; simp only [h]
@[simp] theorem coldReset_pwr_s4 (s : State) (cause : Nat) (fire : Bool) : (coldReset s cause fire).pwr.s4 = s.pwr.s4 := by
  have h := same_of_drop (m := 17212886745070) (coldReset_drop s cause fire rfl) .stages rfl
  simp only [Block.same] at h; simp only [h]
@[simp] theorem coldReset_sec_life (s : State) (cause : Nat) (fire : Bool) : (coldReset s cause fire).sec.life = s.sec.life := by
  have h := same_of_drop (m := 17212886745070) (coldReset_drop s cause fire rfl) .life rfl
  exact h
@[simp] theorem coldReset_clock (s : State) (cause : Nat) (fire : Bool) : (coldReset s cause fire).clock = s.clock :=
  same_of_drop (m := 17212886745070) (coldReset_drop s cause fire rfl) .clock rfl
@[simp] theorem coldReset_free (s : State) (cause : Nat) (fire : Bool) : (coldReset s cause fire).free = s.free :=
  same_of_drop (m := 17212886745070) (coldReset_drop s cause fire rfl) .free rfl
@[simp] theorem coldReset_pending (s : State) (cause : Nat) (fire : Bool) : (coldReset s cause fire).pending = s.pending :=
  same_of_drop (m := 17212886745070) (coldReset_drop s cause fire rfl) .pending rfl
@[simp] theorem powerReset_dev_part (s : State) (cause : Nat) : (powerReset s cause).dev.part = s.dev.part := by
  have h := same_of_drop (m := 17213155180526) (powerReset_drop s cause rfl) .part rfl
  exact h
@[simp] theorem powerReset_img_slotA (s : State) (cause : Nat) : (powerReset s cause).img.slotA = s.img.slotA := by
  have h := same_of_drop (m := 17213155180526) (powerReset_drop s cause rfl) .slots rfl
  simp only [Block.same] at h; simp only [h]
@[simp] theorem powerReset_img_slotB (s : State) (cause : Nat) : (powerReset s cause).img.slotB = s.img.slotB := by
  have h := same_of_drop (m := 17213155180526) (powerReset_drop s cause rfl) .slots rfl
  simp only [Block.same] at h; simp only [h]
@[simp] theorem powerReset_sec_life (s : State) (cause : Nat) : (powerReset s cause).sec.life = s.sec.life := by
  have h := same_of_drop (m := 17213155180526) (powerReset_drop s cause rfl) .life rfl
  exact h
@[simp] theorem powerReset_clock (s : State) (cause : Nat) : (powerReset s cause).clock = s.clock :=
  same_of_drop (m := 17213155180526) (powerReset_drop s cause rfl) .clock rfl
@[simp] theorem powerReset_free (s : State) (cause : Nat) : (powerReset s cause).free = s.free :=
  same_of_drop (m := 17213155180526) (powerReset_drop s cause rfl) .free rfl
@[simp] theorem powerReset_pending (s : State) (cause : Nat) : (powerReset s cause).pending = s.pending :=
  same_of_drop (m := 17213155180526) (powerReset_drop s cause rfl) .pending rfl
@[simp] theorem warmReset_dev_part (s : State) (cause : Nat) : (warmReset s cause).dev.part = s.dev.part := by
  have h := same_of_drop (m := 4980798909134) (warmReset_drop s cause rfl) .part rfl
  exact h
@[simp] theorem warmReset_img_slotA (s : State) (cause : Nat) : (warmReset s cause).img.slotA = s.img.slotA := by
  have h := same_of_drop (m := 4980798909134) (warmReset_drop s cause rfl) .slots rfl
  simp only [Block.same] at h; simp only [h]
@[simp] theorem warmReset_img_slotB (s : State) (cause : Nat) : (warmReset s cause).img.slotB = s.img.slotB := by
  have h := same_of_drop (m := 4980798909134) (warmReset_drop s cause rfl) .slots rfl
  simp only [Block.same] at h; simp only [h]
@[simp] theorem warmReset_img_active (s : State) (cause : Nat) : (warmReset s cause).img.active = s.img.active := by
  have h := same_of_drop (m := 4980798909134) (warmReset_drop s cause rfl) .image rfl
  exact h
@[simp] theorem warmReset_tim (s : State) (cause : Nat) : (warmReset s cause).tim = s.tim :=
  same_of_drop (m := 4980798909134) (warmReset_drop s cause rfl) .tim rfl
@[simp] theorem warmReset_arm_cell (s : State) (cause : Nat) : (warmReset s cause).arm.cell = s.arm.cell := by
  have h := same_of_drop (m := 4980798909134) (warmReset_drop s cause rfl) .cell rfl
  simp only [Block.same] at h; simp only [h]
@[simp] theorem warmReset_arm_changes (s : State) (cause : Nat) : (warmReset s cause).arm.changes = s.arm.changes := by
  have h := same_of_drop (m := 4980798909134) (warmReset_drop s cause rfl) .cell rfl
  simp only [Block.same] at h; simp only [h]
@[simp] theorem warmReset_arm_bypassed (s : State) (cause : Nat) : (warmReset s cause).arm.bypassed = s.arm.bypassed := by
  have h := same_of_drop (m := 4980798909134) (warmReset_drop s cause rfl) .bypass rfl
  exact h
@[simp] theorem warmReset_est (s : State) (cause : Nat) : (warmReset s cause).est = s.est :=
  same_of_drop (m := 4980798909134) (warmReset_drop s cause rfl) .est rfl
@[simp] theorem warmReset_prt (s : State) (cause : Nat) : (warmReset s cause).prt = s.prt :=
  same_of_drop (m := 4980798909134) (warmReset_drop s cause rfl) .prt rfl
@[simp] theorem warmReset_pwr_s1 (s : State) (cause : Nat) : (warmReset s cause).pwr.s1 = s.pwr.s1 := by
  have h := same_of_drop (m := 4980798909134) (warmReset_drop s cause rfl) .stages rfl
  simp only [Block.same] at h; simp only [h]
@[simp] theorem warmReset_pwr_s2 (s : State) (cause : Nat) : (warmReset s cause).pwr.s2 = s.pwr.s2 := by
  have h := same_of_drop (m := 4980798909134) (warmReset_drop s cause rfl) .stages rfl
  simp only [Block.same] at h; simp only [h]
@[simp] theorem warmReset_pwr_s3 (s : State) (cause : Nat) : (warmReset s cause).pwr.s3 = s.pwr.s3 := by
  have h := same_of_drop (m := 4980798909134) (warmReset_drop s cause rfl) .stages rfl
  simp only [Block.same] at h; simp only [h]
@[simp] theorem warmReset_pwr_s4 (s : State) (cause : Nat) : (warmReset s cause).pwr.s4 = s.pwr.s4 := by
  have h := same_of_drop (m := 4980798909134) (warmReset_drop s cause rfl) .stages rfl
  simp only [Block.same] at h; simp only [h]
@[simp] theorem warmReset_sec_life (s : State) (cause : Nat) : (warmReset s cause).sec.life = s.sec.life := by
  have h := same_of_drop (m := 4980798909134) (warmReset_drop s cause rfl) .life rfl
  exact h
@[simp] theorem warmReset_clock (s : State) (cause : Nat) : (warmReset s cause).clock = s.clock :=
  same_of_drop (m := 4980798909134) (warmReset_drop s cause rfl) .clock rfl
@[simp] theorem warmReset_free (s : State) (cause : Nat) : (warmReset s cause).free = s.free :=
  same_of_drop (m := 4980798909134) (warmReset_drop s cause rfl) .free rfl
@[simp] theorem warmReset_outbox (s : State) (cause : Nat) : (warmReset s cause).outbox = s.outbox :=
  same_of_drop (m := 4980798909134) (warmReset_drop s cause rfl) .outbox rfl
@[simp] theorem warmReset_pending (s : State) (cause : Nat) : (warmReset s cause).pending = s.pending :=
  same_of_drop (m := 4980798909134) (warmReset_drop s cause rfl) .pending rfl
@[simp] theorem warmReset_evt_nvm (s : State) (cause : Nat) : (warmReset s cause).evt.nvm = s.evt.nvm := by
  have h := same_of_drop (m := 4980798909134) (warmReset_drop s cause rfl) .log rfl
  simp only [Block.same] at h; simp only [h]
@[simp] theorem warmReset_evt_nvmPos (s : State) (cause : Nat) : (warmReset s cause).evt.nvmPos = s.evt.nvmPos := by
  have h := same_of_drop (m := 4980798909134) (warmReset_drop s cause rfl) .log rfl
  simp only [Block.same] at h; simp only [h]
@[simp] theorem warmReset_evt_wrapped (s : State) (cause : Nat) : (warmReset s cause).evt.wrapped = s.evt.wrapped := by
  have h := same_of_drop (m := 4980798909134) (warmReset_drop s cause rfl) .log rfl
  simp only [Block.same] at h; simp only [h]
@[simp] theorem warmReset_thm_sdHotA (s : State) (cause : Nat) : (warmReset s cause).thm.sdHotA = s.thm.sdHotA := by
  have h := same_of_drop (m := 4980798909134) (warmReset_drop s cause rfl) .shutdown rfl
  simp only [Block.same] at h; simp only [h]
@[simp] theorem warmReset_thm_sdHotB (s : State) (cause : Nat) : (warmReset s cause).thm.sdHotB = s.thm.sdHotB := by
  have h := same_of_drop (m := 4980798909134) (warmReset_drop s cause rfl) .shutdown rfl
  simp only [Block.same] at h; simp only [h]
@[simp] theorem warmReset_thm_sdColdA (s : State) (cause : Nat) : (warmReset s cause).thm.sdColdA = s.thm.sdColdA := by
  have h := same_of_drop (m := 4980798909134) (warmReset_drop s cause rfl) .shutdown rfl
  simp only [Block.same] at h; simp only [h]
@[simp] theorem warmReset_thm_sdColdB (s : State) (cause : Nat) : (warmReset s cause).thm.sdColdB = s.thm.sdColdB := by
  have h := same_of_drop (m := 4980798909134) (warmReset_drop s cause rfl) .shutdown rfl
  simp only [Block.same] at h; simp only [h]

end Sys2Proof.Machine
end

