-- ==== Sys2Proof/Laws/FramePower.lean ====
section
/-! SUPPORT. What the operations and commands of power, bridge and chain leave unchanged. -/

set_option Elab.async false

set_option linter.unusedSimpArgs false

namespace Sys2Proof.Machine

theorem shedLoads_drop {fm : Nat} (s : State) (hfm : fm &&& 67108864 = 67108864) :
    (shedLoads s).drop fm = s.drop fm := by
  refine drop_sub hfm ?_
  unfold shedLoads
  repeat' (first | simp only [↓refreshLoads_drop, ↓State.onLsw_drop, id_eq, Nat.reduceAnd, Nat.reduceEqDiff, ↓drop_ite, ↓drop_fst_ite, ↓drop_cond, ↓resState_ite, ↓resState_next, ite_self, cond_self, true_or, or_true, false_or, or_false, implies_true, ↓foldl_drop, ↓foldl_fst_drop] | split)

theorem enterWarn_drop {fm : Nat} (s : State) (hfm : fm &&& 9126805504 = 9126805504) :
    (enterWarn s).drop fm = s.drop fm := by
  refine drop_sub hfm ?_
  unfold enterWarn
  repeat' (first | simp only [↓logEvent_drop, ↓State.onPwr_drop, id_eq, Nat.reduceAnd, Nat.reduceEqDiff, ↓drop_ite, ↓drop_fst_ite, ↓drop_cond, ↓resState_ite, ↓resState_next, ite_self, cond_self, true_or, or_true, false_or, or_false, implies_true, ↓foldl_drop, ↓foldl_fst_drop] | (refine (State.onPwr_drop (by decide) ?_ ?_ ?_ ?_ ).trans ?_) | with_reducible rfl | exact Or.inl (by decide) | refine Or.inr fun _ => ?_ | (intro _; split <;> with_reducible rfl) | split)

theorem enterStage1_drop {fm : Nat} (s : State) (hfm : fm &&& 13770129408 = 13770129408) :
    (enterStage1 s).drop fm = s.drop fm := by
  refine drop_sub hfm ?_
  unfold enterStage1
  repeat' (first | simp only [↓logEvent_drop, ↓shedLoads_drop, ↓watchActs_drop, ↓State.onPwr_drop, ↓State.onEst_drop, ↓State.onEvt_drop, id_eq, Nat.reduceAnd, Nat.reduceEqDiff, ↓drop_ite, ↓drop_fst_ite, ↓drop_cond, ↓resState_ite, ↓resState_next, ite_self, cond_self, true_or, or_true, false_or, or_false, implies_true, ↓foldl_drop, ↓foldl_fst_drop] | (refine (State.onPwr_drop (by decide) ?_ ?_ ?_ ?_ ).trans ?_) | (refine (State.onEvt_drop (by decide) ?_ ?_ ?_ ).trans ?_) | with_reducible rfl | exact Or.inl (by decide) | refine Or.inr fun _ => ?_ | (intro _; split <;> with_reducible rfl) | split)

theorem enterStage2_drop {fm : Nat} (s : State) (hfm : fm &&& 9537847296 = 9537847296) :
    (enterStage2 s).drop fm = s.drop fm := by
  refine drop_sub hfm ?_
  unfold enterStage2
  repeat' (first | simp only [↓shedBus_drop, ↓logEvent_drop, ↓State.onPwr_drop, ↓State.onThm_drop, id_eq, Nat.reduceAnd, Nat.reduceEqDiff, ↓drop_ite, ↓drop_fst_ite, ↓drop_cond, ↓resState_ite, ↓resState_next, ite_self, cond_self, true_or, or_true, false_or, or_false, implies_true, ↓foldl_drop, ↓foldl_fst_drop] | (refine (State.onPwr_drop (by decide) ?_ ?_ ?_ ?_ ).trans ?_) | (refine (State.onThm_drop (by decide) ?_ ?_ ?_ ?_ ).trans ?_) | with_reducible rfl | exact Or.inl (by decide) | refine Or.inr fun _ => ?_ | (intro _; split <;> with_reducible rfl) | split)

theorem enterStage3_drop {fm : Nat} (s : State) (hfm : fm &&& 13766721536 = 13766721536) :
    (enterStage3 s).drop fm = s.drop fm := by
  refine drop_sub hfm ?_
  unfold enterStage3
  repeat' (first | simp only [↓logEvent_drop, ↓requestOpen_drop, ↓State.onPwr_drop, ↓State.forChains_drop, id_eq, Nat.reduceAnd, Nat.reduceEqDiff, ↓drop_ite, ↓drop_fst_ite, ↓drop_cond, ↓resState_ite, ↓resState_next, ite_self, cond_self, true_or, or_true, false_or, or_false, implies_true, ↓foldl_drop, ↓foldl_fst_drop] | (refine (State.forChains_drop (fun _ _ => ?_) _).trans ?_) | (refine (State.onPwr_drop (by decide) ?_ ?_ ?_ ?_ ).trans ?_) | with_reducible rfl | exact Or.inl (by decide) | refine Or.inr fun _ => ?_ | (intro _; split <;> with_reducible rfl) | split)

theorem enterStage4_drop {fm : Nat} (s : State) (hfm : fm &&& 6198569971712 = 6198569971712) :
    (enterStage4 s).drop fm = s.drop fm := by
  refine drop_sub hfm ?_
  unfold enterStage4
  repeat' (first | simp only [↓logEvent_drop, ↓raiseHeld_drop, ↓refreshBridge_drop, ↓decideBypass_drop, ↓State.onPwr_drop, ↓State.onDvt_drop, id_eq, Nat.reduceAnd, Nat.reduceEqDiff, ↓drop_ite, ↓drop_fst_ite, ↓drop_cond, ↓resState_ite, ↓resState_next, ite_self, cond_self, true_or, or_true, false_or, or_false, implies_true, ↓foldl_drop, ↓foldl_fst_drop] | (refine (State.onPwr_drop (by decide) ?_ ?_ ?_ ?_ ).trans ?_) | with_reducible rfl | exact Or.inl (by decide) | refine Or.inr fun _ => ?_ | (intro _; split <;> with_reducible rfl) | split)

theorem restoreNext_drop {fm : Nat} (s : State) (hfm : fm &&& 67108864 = 67108864) :
    (restoreNext s).drop fm = s.drop fm := by
  refine drop_sub hfm ?_
  unfold restoreNext
  repeat' (first | simp only [↓refreshCh_drop, ↓State.onLsw_drop, ↓State.onCh_drop, id_eq, Nat.reduceAnd, Nat.reduceEqDiff, ↓drop_ite, ↓drop_fst_ite, ↓drop_cond, ↓resState_ite, ↓resState_next, ite_self, cond_self, true_or, or_true, false_or, or_false, implies_true, ↓foldl_drop, ↓foldl_fst_drop] | split)

theorem restoreStage1_drop {fm : Nat} (s : State) (hfm : fm &&& 9462349824 = 9462349824) :
    (restoreStage1 s).drop fm = s.drop fm := by
  refine drop_sub hfm ?_
  unfold restoreStage1
  repeat' (first | simp only [↓logEvent_drop, ↓restoreNext_drop, ↓State.onPwr_drop, ↓State.onLsw_drop, id_eq, Nat.reduceAnd, Nat.reduceEqDiff, ↓drop_ite, ↓drop_fst_ite, ↓drop_cond, ↓resState_ite, ↓resState_next, ite_self, cond_self, true_or, or_true, false_or, or_false, implies_true, ↓foldl_drop, ↓foldl_fst_drop] | (refine (State.onPwr_drop (by decide) ?_ ?_ ?_ ?_ ).trans ?_) | with_reducible rfl | exact Or.inl (by decide) | refine Or.inr fun _ => ?_ | (intro _; split <;> with_reducible rfl) | split)

theorem restoreStage2_drop {fm : Nat} (s : State) (hfm : fm &&& 9537847304 = 9537847304) :
    (restoreStage2 s).drop fm = s.drop fm := by
  refine drop_sub hfm ?_
  unfold restoreStage2
  repeat' (first | simp only [↓logEvent_drop, ↓startBus_drop, ↓State.onPwr_drop, ↓State.onEng_drop, ↓State.onThm_drop, id_eq, Nat.reduceAnd, Nat.reduceEqDiff, ↓drop_ite, ↓drop_fst_ite, ↓drop_cond, ↓resState_ite, ↓resState_next, ite_self, cond_self, true_or, or_true, false_or, or_false, implies_true, ↓foldl_drop, ↓foldl_fst_drop] | (refine (State.onPwr_drop (by decide) ?_ ?_ ?_ ?_ ).trans ?_) | (refine (State.onThm_drop (by decide) ?_ ?_ ?_ ?_ ).trans ?_) | with_reducible rfl | exact Or.inl (by decide) | refine Or.inr fun _ => ?_ | (intro _; split <;> with_reducible rfl) | split)

theorem releaseClamp_drop {fm : Nat} (s : State) (report : Bool) (hfm : fm &&& 67305472 = 67305472) :
    (releaseClamp s report).drop fm = s.drop fm := by
  refine drop_sub hfm ?_
  unfold releaseClamp
  repeat' (first | simp only [↓State.onLsw_drop, ↓State.onChA_drop, ↓State.onChB_drop, id_eq, Nat.reduceAnd, Nat.reduceEqDiff, ↓drop_ite, ↓drop_fst_ite, ↓drop_cond, ↓resState_ite, ↓resState_next, ite_self, cond_self, true_or, or_true, false_or, or_false, implies_true, ↓foldl_drop, ↓foldl_fst_drop] | (refine (foldl_drop (fun _ _ => ?_) _ _).trans ?_) | split)

theorem resumeClamp_drop {fm : Nat} (s : State) (hfm : fm &&& 8657043456 = 8657043456) :
    (resumeClamp s).drop fm = s.drop fm := by
  refine drop_sub hfm ?_
  unfold resumeClamp
  repeat' (first | simp only [↓logEvent_drop, ↓State.onLsw_drop, id_eq, Nat.reduceAnd, Nat.reduceEqDiff, ↓drop_ite, ↓drop_fst_ite, ↓drop_cond, ↓resState_ite, ↓resState_next, ite_self, cond_self, true_or, or_true, false_or, or_false, implies_true, ↓foldl_drop, ↓foldl_fst_drop] | split)

theorem claimToken_drop {fm : Nat} (s : State) (hfm : fm &&& 8691427328 = 8691427328) :
    (claimToken s).drop fm = s.drop fm := by
  refine drop_sub hfm ?_
  unfold claimToken
  repeat' (first | simp only [↓takeFirst_drop, ↓refreshLoads_drop, ↓refreshBridge_drop, ↓State.onDvt_drop, id_eq, Nat.reduceAnd, Nat.reduceEqDiff, ↓drop_ite, ↓drop_fst_ite, ↓drop_cond, ↓resState_ite, ↓resState_next, ite_self, cond_self, true_or, or_true, false_or, or_false, implies_true, ↓foldl_drop, ↓foldl_fst_drop] | split)

theorem wakeUp_drop {fm : Nat} (s : State) (bit : Nat) (hfm : fm &&& 17213155180526 = 17213155180526) :
    (wakeUp s bit).drop fm = s.drop fm := by
  refine drop_sub hfm ?_
  unfold wakeUp
  repeat' (first | simp only [↓powerReset_drop, ↓logEvent_drop, ↓State.onPwr_drop, ↓State.onDev_drop, ↓State.onGlk_drop, id_eq, Nat.reduceAnd, Nat.reduceEqDiff, ↓drop_ite, ↓drop_fst_ite, ↓drop_cond, ↓resState_ite, ↓resState_next, ite_self, cond_self, true_or, or_true, false_or, or_false, implies_true, ↓foldl_drop, ↓foldl_fst_drop] | (refine (State.onDev_drop (by decide) ?_ ?_ ).trans ?_) | (refine (State.onPwr_drop (by decide) ?_ ?_ ?_ ?_ ).trans ?_) | (refine (State.onGlk_drop (by decide) ?_ ?_ ?_ ?_ ?_ ?_ ?_ ).trans ?_) | with_reducible rfl | exact Or.inl (by decide) | refine Or.inr fun _ => ?_ | (intro _; split <;> with_reducible rfl) | split)

theorem lockstepPe_drop {fm : Nat} (s : State) (hfm : fm &&& 17212886745070 = 17212886745070) :
    (lockstepPe s).drop fm = s.drop fm := by
  refine drop_sub hfm ?_
  unfold lockstepPe
  repeat' (first | simp only [↓logEvent_drop, ↓raiseEvent_drop, ↓coldReset_drop, ↓bothHiZ_drop, ↓assertClose_drop, ↓refreshBridge_drop, ↓dropCoils_drop, ↓blockAll_drop, ↓State.onDvt_drop, ↓State.onGlk_drop, ↓State.forChains_drop, ↓State.onEng_drop, id_eq, Nat.reduceAnd, Nat.reduceEqDiff, ↓drop_ite, ↓drop_fst_ite, ↓drop_cond, ↓resState_ite, ↓resState_next, ite_self, cond_self, true_or, or_true, false_or, or_false, implies_true, ↓foldl_drop, ↓foldl_fst_drop] | (refine (State.forChains_drop (fun _ _ => ?_) _).trans ?_) | (refine (State.onGlk_drop (by decide) ?_ ?_ ?_ ?_ ?_ ?_ ?_ ).trans ?_) | with_reducible rfl | exact Or.inl (by decide) | refine Or.inr fun _ => ?_ | (intro _; split <;> with_reducible rfl) | split)

theorem lockstepSe_drop {fm : Nat} (s : State) (hfm : fm &&& 1799684595720 = 1799684595720) :
    (lockstepSe s).drop fm = s.drop fm := by
  refine drop_sub hfm ?_
  unfold lockstepSe
  repeat' (first | simp only [↓logEvent_drop, ↓raiseEvent_drop, ↓State.onEng_drop, id_eq, Nat.reduceAnd, Nat.reduceEqDiff, ↓drop_ite, ↓drop_fst_ite, ↓drop_cond, ↓resState_ite, ↓resState_next, ite_self, cond_self, true_or, or_true, false_or, or_false, implies_true, ↓foldl_drop, ↓foldl_fst_drop] | split)

theorem watchdogResponse_drop {fm : Nat} (s : State) (e : EngineId) (hfm : fm &&& 17212886745070 = 17212886745070) :
    (watchdogResponse s e).drop fm = s.drop fm := by
  refine drop_sub hfm ?_
  unfold watchdogResponse
  repeat' (first | simp only [↓warmOrCold_drop, ↓logEvent_drop, ↓lockstepPe_drop, ↓lockstepSe_drop, ↓State.onEng_drop, id_eq, Nat.reduceAnd, Nat.reduceEqDiff, ↓drop_ite, ↓drop_fst_ite, ↓drop_cond, ↓resState_ite, ↓resState_next, ite_self, cond_self, true_or, or_true, false_or, or_false, implies_true, ↓foldl_drop, ↓foldl_fst_drop] | split)

theorem watchdogExpiry_drop {fm : Nat} (s : State) (e : EngineId) (hfm : fm &&& 17212886745070 = 17212886745070) :
    (watchdogExpiry s e).drop fm = s.drop fm := by
  refine drop_sub hfm ?_
  unfold watchdogExpiry
  repeat' (first | simp only [↓logEvent_drop, ↓watchdogResponse_drop, ↓refreshBridge_drop, ↓State.onEng_drop, ↓State.onDvt_drop, id_eq, Nat.reduceAnd, Nat.reduceEqDiff, ↓drop_ite, ↓drop_fst_ite, ↓drop_cond, ↓resState_ite, ↓resState_next, ite_self, cond_self, true_or, or_true, false_or, or_false, implies_true, ↓foldl_drop, ↓foldl_fst_drop] | split)

theorem execPowerOnResetRelease_drop {fm : Nat} (vsys : Nat) (vbak : Nat) (roleSel : Bool) (senseSrc : Bool) (bypClosed : Bool) (s : State) (hfm : fm &&& 17213155180526 = 17213155180526) :
    (resState (execPowerOnResetRelease vsys vbak roleSel senseSrc bypClosed s) s).drop fm = s.drop fm := by
  refine drop_sub hfm ?_
  unfold execPowerOnResetRelease
  repeat' (first | simp only [↓wakeUp_drop, ↓State.onDev_drop, ↓State.onGlk_drop, ↓State.onPwr_drop, id_eq, Nat.reduceAnd, Nat.reduceEqDiff, ↓drop_ite, ↓drop_fst_ite, ↓drop_cond, ↓resState_ite, ↓resState_next, ite_self, cond_self, true_or, or_true, false_or, or_false, implies_true, ↓foldl_drop, ↓foldl_fst_drop] | (refine (State.onDev_drop (by decide) ?_ ?_ ).trans ?_) | (refine (State.onPwr_drop (by decide) ?_ ?_ ?_ ?_ ).trans ?_) | (refine (State.onGlk_drop (by decide) ?_ ?_ ?_ ?_ ?_ ?_ ?_ ).trans ?_) | with_reducible rfl | exact Or.inl (by decide) | refine Or.inr fun _ => ?_ | (intro _; split <;> with_reducible rfl) | split)

theorem execVsysPlinthSample_drop {fm : Nat} (vsys : Nat) (s : State) (hfm : fm &&& 6198708383744 = 6198708383744) :
    (resState (execVsysPlinthSample vsys s) s).drop fm = s.drop fm := by
  refine drop_sub hfm ?_
  unfold execVsysPlinthSample
  repeat' (first | simp only [↓enterWarn_drop, ↓enterStage1_drop, ↓enterStage2_drop, ↓enterStage3_drop, ↓enterStage4_drop, ↓State.onPwr_drop, id_eq, Nat.reduceAnd, Nat.reduceEqDiff, ↓drop_ite, ↓drop_fst_ite, ↓drop_cond, ↓resState_ite, ↓resState_next, ite_self, cond_self, true_or, or_true, false_or, or_false, implies_true, ↓foldl_drop, ↓foldl_fst_drop] | (refine (State.onPwr_drop (by decide) ?_ ?_ ?_ ?_ ).trans ?_) | with_reducible rfl | exact Or.inl (by decide) | refine Or.inr fun _ => ?_ | (intro _; split <;> with_reducible rfl) | split)

theorem execStage4HandoffTimeout_drop {fm : Nat} (s : State) (hfm : fm &&& 4960814084096 = 4960814084096) :
    (resState (execStage4HandoffTimeout s) s).drop fm = s.drop fm := by
  refine drop_sub hfm ?_
  unfold execStage4HandoffTimeout
  repeat' (first | simp only [↓decideBypass_drop, ↓State.onDvt_drop, id_eq, Nat.reduceAnd, Nat.reduceEqDiff, ↓drop_ite, ↓drop_fst_ite, ↓drop_cond, ↓resState_ite, ↓resState_next, ite_self, cond_self, true_or, or_true, false_or, or_false, implies_true, ↓foldl_drop, ↓foldl_fst_drop] | split)

theorem execStageRestore_drop {fm : Nat} (s : State) (hfm : fm &&& 9604956168 = 9604956168) :
    (resState (execStageRestore s) s).drop fm = s.drop fm := by
  refine drop_sub hfm ?_
  unfold execStageRestore
  repeat' (first | simp only [↓logEvent_drop, ↓restoreStage2_drop, ↓restoreStage1_drop, ↓State.onPwr_drop, id_eq, Nat.reduceAnd, Nat.reduceEqDiff, ↓drop_ite, ↓drop_fst_ite, ↓drop_cond, ↓resState_ite, ↓resState_next, ite_self, cond_self, true_or, or_true, false_or, or_false, implies_true, ↓foldl_drop, ↓foldl_fst_drop] | (refine (State.onPwr_drop (by decide) ?_ ?_ ?_ ?_ ).trans ?_) | with_reducible rfl | exact Or.inl (by decide) | refine Or.inr fun _ => ?_ | (intro _; split <;> with_reducible rfl) | split)

theorem execStage1ChannelRestore_drop {fm : Nat} (s : State) (hfm : fm &&& 67108864 = 67108864) :
    (resState (execStage1ChannelRestore s) s).drop fm = s.drop fm := by
  refine drop_sub hfm ?_
  unfold execStage1ChannelRestore
  repeat' (first | simp only [↓restoreNext_drop, id_eq, Nat.reduceAnd, Nat.reduceEqDiff, ↓drop_ite, ↓drop_fst_ite, ↓drop_cond, ↓resState_ite, ↓resState_next, ite_self, cond_self, true_or, or_true, false_or, or_false, implies_true, ↓foldl_drop, ↓foldl_fst_drop] | split)

theorem execResetComparatorTrip_drop {fm : Nat} (s : State) (hfm : fm &&& 17213155180526 = 17213155180526) :
    (resState (execResetComparatorTrip s) s).drop fm = s.drop fm := by
  refine drop_sub hfm ?_
  unfold execResetComparatorTrip
  repeat' (first | simp only [↓powerReset_drop, ↓State.onPwr_drop, id_eq, Nat.reduceAnd, Nat.reduceEqDiff, ↓drop_ite, ↓drop_fst_ite, ↓drop_cond, ↓resState_ite, ↓resState_next, ite_self, cond_self, true_or, or_true, false_or, or_false, implies_true, ↓foldl_drop, ↓foldl_fst_drop] | (refine (State.onPwr_drop (by decide) ?_ ?_ ?_ ?_ ).trans ?_) | with_reducible rfl | exact Or.inl (by decide) | refine Or.inr fun _ => ?_ | (intro _; split <;> with_reducible rfl) | split)

theorem execVbakOutOfRange_drop {fm : Nat} (vbak : Nat) (s : State) (hfm : fm &&& 17213155180526 = 17213155180526) :
    (resState (execVbakOutOfRange vbak s) s).drop fm = s.drop fm := by
  refine drop_sub hfm ?_
  unfold execVbakOutOfRange
  repeat' (first | simp only [↓powerReset_drop, ↓State.onPwr_drop, ↓State.onEsA_drop, ↓State.onEsB_drop, ↓State.onThm_drop, id_eq, Nat.reduceAnd, Nat.reduceEqDiff, ↓drop_ite, ↓drop_fst_ite, ↓drop_cond, ↓resState_ite, ↓resState_next, ite_self, cond_self, true_or, or_true, false_or, or_false, implies_true, ↓foldl_drop, ↓foldl_fst_drop] | (refine (State.onPwr_drop (by decide) ?_ ?_ ?_ ?_ ).trans ?_) | (refine (State.onThm_drop (by decide) ?_ ?_ ?_ ?_ ).trans ?_) | with_reducible rfl | exact Or.inl (by decide) | refine Or.inr fun _ => ?_ | (intro _; split <;> with_reducible rfl) | split)

theorem execVauxLowDetect_drop {fm : Nat} (vaux : Nat) (s : State) (hfm : fm &&& 13498286080 = 13498286080) :
    (resState (execVauxLowDetect vaux s) s).drop fm = s.drop fm := by
  refine drop_sub hfm ?_
  unfold execVauxLowDetect
  repeat' (first | simp only [↓logEvent_drop, ↓requestBlock_drop, ↓State.onPwr_drop, ↓State.forChains_drop, id_eq, Nat.reduceAnd, Nat.reduceEqDiff, ↓drop_ite, ↓drop_fst_ite, ↓drop_cond, ↓resState_ite, ↓resState_next, ite_self, cond_self, true_or, or_true, false_or, or_false, implies_true, ↓foldl_drop, ↓foldl_fst_drop] | (refine (State.forChains_drop (fun _ _ => ?_) _).trans ?_) | (refine (State.onPwr_drop (by decide) ?_ ?_ ?_ ?_ ).trans ?_) | with_reducible rfl | exact Or.inl (by decide) | refine Or.inr fun _ => ?_ | (intro _; split <;> with_reducible rfl) | split)

theorem execVauxLowClear_drop {fm : Nat} (vaux : Nat) (s : State) (hfm : fm &&& 9193914368 = 9193914368) :
    (resState (execVauxLowClear vaux s) s).drop fm = s.drop fm := by
  refine drop_sub hfm ?_
  unfold execVauxLowClear
  repeat' (first | simp only [↓refreshLoads_drop, ↓logEvent_drop, ↓State.onPwr_drop, id_eq, Nat.reduceAnd, Nat.reduceEqDiff, ↓drop_ite, ↓drop_fst_ite, ↓drop_cond, ↓resState_ite, ↓resState_next, ite_self, cond_self, true_or, or_true, false_or, or_false, implies_true, ↓foldl_drop, ↓foldl_fst_drop] | (refine (State.onPwr_drop (by decide) ?_ ?_ ?_ ?_ ).trans ?_) | with_reducible rfl | exact Or.inl (by decide) | refine Or.inr fun _ => ?_ | (intro _; split <;> with_reducible rfl) | split)

theorem execResetNLow_drop {fm : Nat} (s : State) (hfm : fm &&& 17213155180526 = 17213155180526) :
    (resState (execResetNLow s) s).drop fm = s.drop fm := by
  refine drop_sub hfm ?_
  unfold execResetNLow
  repeat' (first | simp only [↓wakeUp_drop, ↓coldReset_drop, id_eq, Nat.reduceAnd, Nat.reduceEqDiff, ↓drop_ite, ↓drop_fst_ite, ↓drop_cond, ↓resState_ite, ↓resState_next, ite_self, cond_self, true_or, or_true, false_or, or_false, implies_true, ↓foldl_drop, ↓foldl_fst_drop] | split)

theorem opPwrRun_drop {fm : Nat} (s : State) (hfm : fm &&& 1108957233152 = 1108957233152) :
    (opPwrRun s).1.drop fm = s.drop fm := by
  refine drop_sub hfm ?_
  unfold opPwrRun
  repeat' (first | simp only [↓logEvent_drop, ↓endHeld_drop, ↓refreshBridge_drop, ↓State.onPwr_drop, ↓State.onDvt_drop, id_eq, Nat.reduceAnd, Nat.reduceEqDiff, ↓drop_ite, ↓drop_fst_ite, ↓drop_cond, ↓resState_ite, ↓resState_next, ite_self, cond_self, true_or, or_true, false_or, or_false, implies_true, ↓foldl_drop, ↓foldl_fst_drop] | (refine (State.onPwr_drop (by decide) ?_ ?_ ?_ ?_ ).trans ?_) | with_reducible rfl | exact Or.inl (by decide) | refine Or.inr fun _ => ?_ | (intro _; split <;> with_reducible rfl) | split)

theorem opPwrWarm_drop {fm : Nat} (s : State) (hfm : fm &&& 4980798909134 = 4980798909134) :
    (opPwrWarm s).1.drop fm = s.drop fm := by
  refine drop_sub hfm ?_
  unfold opPwrWarm
  repeat' (first | simp only [↓warmReset_drop, id_eq, Nat.reduceAnd, Nat.reduceEqDiff, ↓drop_ite, ↓drop_fst_ite, ↓drop_cond, ↓resState_ite, ↓resState_next, ite_self, cond_self, true_or, or_true, false_or, or_false, implies_true, ↓foldl_drop, ↓foldl_fst_drop] | split)

theorem opPwrCold_drop {fm : Nat} (s : State) (hfm : fm &&& 17212886745070 = 17212886745070) :
    (opPwrCold s).1.drop fm = s.drop fm := by
  refine drop_sub hfm ?_
  unfold opPwrCold
  repeat' (first | simp only [↓coldReset_drop, id_eq, Nat.reduceAnd, Nat.reduceEqDiff, ↓drop_ite, ↓drop_fst_ite, ↓drop_cond, ↓resState_ite, ↓resState_next, ite_self, cond_self, true_or, or_true, false_or, or_false, implies_true, ↓foldl_drop, ↓foldl_fst_drop] | split)

theorem opPwrHibernate_drop {fm : Nat} (s : State) (hfm : fm &&& 9130999808 = 9130999808) :
    (opPwrHibernate s).1.drop fm = s.drop fm := by
  refine drop_sub hfm ?_
  unfold opPwrHibernate
  repeat' (first | simp only [↓logEvent_drop, ↓State.onPwr_drop, ↓State.onEst_drop, ↓State.onEvt_drop, id_eq, Nat.reduceAnd, Nat.reduceEqDiff, ↓drop_ite, ↓drop_fst_ite, ↓drop_cond, ↓resState_ite, ↓resState_next, ite_self, cond_self, true_or, or_true, false_or, or_false, implies_true, ↓foldl_drop, ↓foldl_fst_drop] | (refine (State.onPwr_drop (by decide) ?_ ?_ ?_ ?_ ).trans ?_) | (refine (State.onEvt_drop (by decide) ?_ ?_ ?_ ).trans ?_) | with_reducible rfl | exact Or.inl (by decide) | refine Or.inr fun _ => ?_ | (intro _; split <;> with_reducible rfl) | split)

theorem opPwrClearVbak_drop {fm : Nat} (s : State) (hfm : fm &&& 536870912 = 536870912) :
    (opPwrClearVbak s).1.drop fm = s.drop fm := by
  refine drop_sub hfm ?_
  unfold opPwrClearVbak
  repeat' (first | simp only [↓State.onPwr_drop, id_eq, Nat.reduceAnd, Nat.reduceEqDiff, ↓drop_ite, ↓drop_fst_ite, ↓drop_cond, ↓resState_ite, ↓resState_next, ite_self, cond_self, true_or, or_true, false_or, or_false, implies_true, ↓foldl_drop, ↓foldl_fst_drop] | (refine (State.onPwr_drop (by decide) ?_ ?_ ?_ ?_ ).trans ?_) | with_reducible rfl | exact Or.inl (by decide) | refine Or.inr fun _ => ?_ | (intro _; split <;> with_reducible rfl) | split)

theorem execPwrCmdRun_drop {fm : Nat} (p : Requester) (s : State) (hfm : fm &&& 1248543670272 = 1248543670272) :
    (resState (execPwrCmdRun p s) s).drop fm = s.drop fm := by
  refine drop_sub hfm ?_
  unfold execPwrCmdRun
  repeat' (first | simp only [↓opPwrRun_drop, id_eq, Nat.reduceAnd, Nat.reduceEqDiff, ↓drop_ite, ↓drop_fst_ite, ↓drop_cond, ↓resState_ite, ↓resState_next, ite_self, cond_self, true_or, or_true, false_or, or_false, implies_true, ↓foldl_drop, ↓foldl_fst_drop] | (refine (regCmd_drop (by decide) (fun _ => ?_)).trans ?_) | (refine (withRight_drop (by decide) (fun _ => ?_)).trans ?_) | split)

theorem execPwrCmdWarm_drop {fm : Nat} (p : Requester) (s : State) (hfm : fm &&& 5118237862606 = 5118237862606) :
    (resState (execPwrCmdWarm p s) s).drop fm = s.drop fm := by
  refine drop_sub hfm ?_
  unfold execPwrCmdWarm
  repeat' (first | simp only [↓opPwrWarm_drop, id_eq, Nat.reduceAnd, Nat.reduceEqDiff, ↓drop_ite, ↓drop_fst_ite, ↓drop_cond, ↓resState_ite, ↓resState_next, ite_self, cond_self, true_or, or_true, false_or, or_false, implies_true, ↓foldl_drop, ↓foldl_fst_drop] | (refine (regCmd_drop (by decide) (fun _ => ?_)).trans ?_) | (refine (withRight_drop (by decide) (fun _ => ?_)).trans ?_) | split)

theorem execPwrCmdCold_drop {fm : Nat} (p : Requester) (s : State) (hfm : fm &&& 17212886745070 = 17212886745070) :
    (resState (execPwrCmdCold p s) s).drop fm = s.drop fm := by
  refine drop_sub hfm ?_
  unfold execPwrCmdCold
  repeat' (first | simp only [↓opPwrCold_drop, id_eq, Nat.reduceAnd, Nat.reduceEqDiff, ↓drop_ite, ↓drop_fst_ite, ↓drop_cond, ↓resState_ite, ↓resState_next, ite_self, cond_self, true_or, or_true, false_or, or_false, implies_true, ↓foldl_drop, ↓foldl_fst_drop] | (refine (regCmd_drop (by decide) (fun _ => ?_)).trans ?_) | (refine (withRight_drop (by decide) (fun _ => ?_)).trans ?_) | split)

theorem execPwrCmdHibernate_drop {fm : Nat} (p : Requester) (s : State) (hfm : fm &&& 148717436928 = 148717436928) :
    (resState (execPwrCmdHibernate p s) s).drop fm = s.drop fm := by
  refine drop_sub hfm ?_
  unfold execPwrCmdHibernate
  repeat' (first | simp only [↓opPwrHibernate_drop, id_eq, Nat.reduceAnd, Nat.reduceEqDiff, ↓drop_ite, ↓drop_fst_ite, ↓drop_cond, ↓resState_ite, ↓resState_next, ite_self, cond_self, true_or, or_true, false_or, or_false, implies_true, ↓foldl_drop, ↓foldl_fst_drop] | (refine (regCmd_drop (by decide) (fun _ => ?_)).trans ?_) | (refine (withRight_drop (by decide) (fun _ => ?_)).trans ?_) | split)

theorem idleOutputs_drop {fm : Nat} (s : State) (hfm : fm &&& 4398063321088 = 4398063321088) :
    (idleOutputs s).drop fm = s.drop fm := by
  refine drop_sub hfm ?_
  unfold idleOutputs
  repeat' (first | simp only [↓State.onGlk_drop, ↓State.onPrt_drop, id_eq, Nat.reduceAnd, Nat.reduceEqDiff, ↓drop_ite, ↓drop_fst_ite, ↓drop_cond, ↓resState_ite, ↓resState_next, ite_self, cond_self, true_or, or_true, false_or, or_false, implies_true, ↓foldl_drop, ↓foldl_fst_drop] | (refine (State.onGlk_drop (by decide) ?_ ?_ ?_ ?_ ?_ ?_ ?_ ).trans ?_) | (refine (State.onPrt_drop (by decide) ?_ ?_ ).trans ?_) | with_reducible rfl | exact Or.inl (by decide) | refine Or.inr fun _ => ?_ | (intro _; split <;> with_reducible rfl) | split)

theorem execHibernateEnter_drop {fm : Nat} (s : State) (hfm : fm &&& 4544864944142 = 4544864944142) :
    (resState (execHibernateEnter s) s).drop fm = s.drop fm := by
  refine drop_sub hfm ?_
  unfold execHibernateEnter
  repeat' (first | simp only [↓sendChain_drop, ↓logEvent_drop, ↓setEngines_drop, ↓refreshLoads_drop, ↓refreshBridge_drop, ↓idleOutputs_drop, ↓State.forChains_drop, ↓State.onSen_drop, ↓State.onChain_drop, ↓State.onPwr_drop, ↓State.onDev_drop, ↓State.onDvt_drop, ↓State.onLbus_drop, id_eq, Nat.reduceAnd, Nat.reduceEqDiff, ↓drop_ite, ↓drop_fst_ite, ↓drop_cond, ↓resState_ite, ↓resState_next, ite_self, cond_self, true_or, or_true, false_or, or_false, implies_true, ↓foldl_drop, ↓foldl_fst_drop] | (refine (State.forChains_drop (fun _ _ => ?_) _).trans ?_) | (refine (State.onDev_drop (by decide) ?_ ?_ ).trans ?_) | (refine (State.onPwr_drop (by decide) ?_ ?_ ?_ ?_ ).trans ?_) | with_reducible rfl | exact Or.inl (by decide) | refine Or.inr fun _ => ?_ | (intro _; split <;> with_reducible rfl) | split)

theorem execPwrCmdClearVbak_drop {fm : Nat} (p : Requester) (s : State) (hfm : fm &&& 148713242624 = 148713242624) :
    (resState (execPwrCmdClearVbak p s) s).drop fm = s.drop fm := by
  refine drop_sub hfm ?_
  unfold execPwrCmdClearVbak
  repeat' (first | simp only [↓opPwrClearVbak_drop, id_eq, Nat.reduceAnd, Nat.reduceEqDiff, ↓drop_ite, ↓drop_fst_ite, ↓drop_cond, ↓resState_ite, ↓resState_next, ite_self, cond_self, true_or, or_true, false_or, or_false, implies_true, ↓foldl_drop, ↓foldl_fst_drop] | (refine (regCmd_drop (by decide) (fun _ => ?_)).trans ?_) | (refine (withRight_drop (by decide) (fun _ => ?_)).trans ?_) | split)

theorem execHibWakeTimerExpiry_drop {fm : Nat} (s : State) (hfm : fm &&& 17213155180526 = 17213155180526) :
    (resState (execHibWakeTimerExpiry s) s).drop fm = s.drop fm := by
  refine drop_sub hfm ?_
  unfold execHibWakeTimerExpiry
  repeat' (first | simp only [↓wakeUp_drop, id_eq, Nat.reduceAnd, Nat.reduceEqDiff, ↓drop_ite, ↓drop_fst_ite, ↓drop_cond, ↓resState_ite, ↓resState_next, ite_self, cond_self, true_or, or_true, false_or, or_false, implies_true, ↓foldl_drop, ↓foldl_fst_drop] | split)

theorem execHibCciWake_drop {fm : Nat} (c : ChainId) (s : State) (hfm : fm &&& 17213155180526 = 17213155180526) :
    (resState (execHibCciWake c s) s).drop fm = s.drop fm := by
  refine drop_sub hfm ?_
  unfold execHibCciWake
  repeat' (first | simp only [↓wakeUp_drop, id_eq, Nat.reduceAnd, Nat.reduceEqDiff, ↓drop_ite, ↓drop_fst_ite, ↓drop_cond, ↓resState_ite, ↓resState_next, ite_self, cond_self, true_or, or_true, false_or, or_false, implies_true, ↓foldl_drop, ↓foldl_fst_drop] | split)

theorem execLbusWake_drop {fm : Nat} (frame : Option CanFrame) (s : State) (hfm : fm &&& 17213155180526 = 17213155180526) :
    (resState (execLbusWake frame s) s).drop fm = s.drop fm := by
  refine drop_sub hfm ?_
  unfold execLbusWake
  repeat' (first | simp only [↓logEvent_drop, ↓wakeUp_drop, ↓State.onLbus_drop, id_eq, Nat.reduceAnd, Nat.reduceEqDiff, ↓drop_ite, ↓drop_fst_ite, ↓drop_cond, ↓resState_ite, ↓resState_next, ite_self, cond_self, true_or, or_true, false_or, or_false, implies_true, ↓foldl_drop, ↓foldl_fst_drop] | split)

theorem execEngineWatchdogExpiry_drop {fm : Nat} (e : EngineId) (stray : Option Word) (s : State) (hfm : fm &&& 17212886745070 = 17212886745070) :
    (resState (execEngineWatchdogExpiry e stray s) s).drop fm = s.drop fm := by
  refine drop_sub hfm ?_
  unfold execEngineWatchdogExpiry
  repeat' (first | simp only [↓watchdogExpiry_drop, id_eq, Nat.reduceAnd, Nat.reduceEqDiff, ↓drop_ite, ↓drop_fst_ite, ↓drop_cond, ↓resState_ite, ↓resState_next, ite_self, cond_self, true_or, or_true, false_or, or_false, implies_true, ↓foldl_drop, ↓foldl_fst_drop] | split)

theorem execEngineRestartComplete_drop {fm : Nat} (e : EngineId) (s : State) (hfm : fm &&& 8690630664 = 8690630664) :
    (resState (execEngineRestartComplete e s) s).drop fm = s.drop fm := by
  refine drop_sub hfm ?_
  unfold execEngineRestartComplete
  repeat' (first | simp only [↓logEvent_drop, ↓takeHwEvents_drop, ↓refreshBridge_drop, ↓resumeLoads_drop, ↓State.onEng_drop, ↓State.onDvt_drop, id_eq, Nat.reduceAnd, Nat.reduceEqDiff, ↓drop_ite, ↓drop_fst_ite, ↓drop_cond, ↓resState_ite, ↓resState_next, ite_self, cond_self, true_or, or_true, false_or, or_false, implies_true, ↓foldl_drop, ↓foldl_fst_drop] | split)

theorem execWarmResetResume_drop {fm : Nat} (s : State) (hfm : fm &&& 9362712590 = 9362712590) :
    (resState (execWarmResetResume s) s).drop fm = s.drop fm := by
  refine drop_sub hfm ?_
  unfold execWarmResetResume
  repeat' (first | simp only [↓setEngines_drop, ↓logEvent_drop, ↓claimToken_drop, ↓resumeClamp_drop, ↓releaseClamp_drop, ↓startBus_drop, ↓refreshLoads_drop, ↓refreshBridge_drop, ↓State.onDev_drop, ↓State.onPwr_drop, ↓State.onDvt_drop, ↓State.onLsw_drop, id_eq, Nat.reduceAnd, Nat.reduceEqDiff, ↓drop_ite, ↓drop_fst_ite, ↓drop_cond, ↓resState_ite, ↓resState_next, ite_self, cond_self, true_or, or_true, false_or, or_false, implies_true, ↓foldl_drop, ↓foldl_fst_drop] | (refine (State.onDev_drop (by decide) ?_ ?_ ).trans ?_) | (refine (State.onPwr_drop (by decide) ?_ ?_ ?_ ?_ ).trans ?_) | with_reducible rfl | exact Or.inl (by decide) | refine Or.inr fun _ => ?_ | (intro _; split <;> with_reducible rfl) | split)

theorem execClampHoldTimeout_drop {fm : Nat} (s : State) (hfm : fm &&& 67305472 = 67305472) :
    (resState (execClampHoldTimeout s) s).drop fm = s.drop fm := by
  refine drop_sub hfm ?_
  unfold execClampHoldTimeout
  repeat' (first | simp only [↓releaseClamp_drop, id_eq, Nat.reduceAnd, Nat.reduceEqDiff, ↓drop_ite, ↓drop_fst_ite, ↓drop_cond, ↓resState_ite, ↓resState_next, ite_self, cond_self, true_or, or_true, false_or, or_false, implies_true, ↓foldl_drop, ↓foldl_fst_drop] | split)

theorem execClampHoldStage3End_drop {fm : Nat} (s : State) (hfm : fm &&& 67305472 = 67305472) :
    (resState (execClampHoldStage3End s) s).drop fm = s.drop fm := by
  refine drop_sub hfm ?_
  unfold execClampHoldStage3End
  repeat' (first | simp only [↓releaseClamp_drop, id_eq, Nat.reduceAnd, Nat.reduceEqDiff, ↓drop_ite, ↓drop_fst_ite, ↓drop_cond, ↓resState_ite, ↓resState_next, ite_self, cond_self, true_or, or_true, false_or, or_false, implies_true, ↓foldl_drop, ↓foldl_fst_drop] | split)

theorem execLockstepMismatch_drop {fm : Nat} (se : Bool) (s : State) (hfm : fm &&& 17212886745070 = 17212886745070) :
    (resState (execLockstepMismatch se s) s).drop fm = s.drop fm := by
  refine drop_sub hfm ?_
  unfold execLockstepMismatch
  repeat' (first | simp only [↓lockstepSe_drop, ↓refreshBridge_drop, ↓lockstepPe_drop, ↓State.onDvt_drop, id_eq, Nat.reduceAnd, Nat.reduceEqDiff, ↓drop_ite, ↓drop_fst_ite, ↓drop_cond, ↓resState_ite, ↓resState_next, ite_self, cond_self, true_or, or_true, false_or, or_false, implies_true, ↓foldl_drop, ↓foldl_fst_drop] | split)

theorem spoilRecord_drop {fm : Nat} (s : State) (addr : Word) (hfm : fm &&& 12582912 = 12582912) :
    (spoilRecord s addr).drop fm = s.drop fm := by
  refine drop_sub hfm ?_
  unfold spoilRecord
  repeat' (first | simp only [↓State.onThm_drop, ↓State.onEst_drop, id_eq, Nat.reduceAnd, Nat.reduceEqDiff, ↓drop_ite, ↓drop_fst_ite, ↓drop_cond, ↓resState_ite, ↓resState_next, ite_self, cond_self, true_or, or_true, false_or, or_false, implies_true, ↓foldl_drop, ↓foldl_fst_drop] | (refine (State.onThm_drop (by decide) ?_ ?_ ?_ ?_ ).trans ?_) | with_reducible rfl | exact Or.inl (by decide) | refine Or.inr fun _ => ?_ | (intro _; split <;> with_reducible rfl) | split)

theorem setUe_drop {fm : Nat} (s : State) (mem : EccMem) (hfm : fm &&& 8 = 8) :
    (setUe s mem).drop fm = s.drop fm := by
  refine drop_sub hfm ?_
  unfold setUe
  repeat' (first | simp only [↓State.onEng_drop, id_eq, Nat.reduceAnd, Nat.reduceEqDiff, ↓drop_ite, ↓drop_fst_ite, ↓drop_cond, ↓resState_ite, ↓resState_next, ite_self, cond_self, true_or, or_true, false_or, or_false, implies_true, ↓foldl_drop, ↓foldl_fst_drop] | split)

theorem correctRead_drop {fm : Nat} (s : State) (mem : EccMem) (addr : Word) (n : Nat) (hfm : fm &&& 8 = 8) :
    (correctRead s mem addr n).drop fm = s.drop fm := by
  refine drop_sub hfm ?_
  unfold correctRead
  repeat' (first | simp only [↓State.onEng_drop, id_eq, Nat.reduceAnd, Nat.reduceEqDiff, ↓drop_ite, ↓drop_fst_ite, ↓drop_cond, ↓resState_ite, ↓resState_next, ite_self, cond_self, true_or, or_true, false_or, or_false, implies_true, ↓foldl_drop, ↓foldl_fst_drop] | split)

theorem execEccUncorrectable_drop {fm : Nat} (mem : EccMem) (addr : Word) (reader : EngineId) (corrected : Nat) (s : State) (hfm : fm &&& 17212886745070 = 17212886745070) :
    (resState (execEccUncorrectable mem addr reader corrected s) s).drop fm = s.drop fm := by
  refine drop_sub hfm ?_
  unfold execEccUncorrectable
  repeat' (first | simp only [↓correctRead_drop, ↓setUe_drop, ↓watchdogExpiry_drop, ↓logEvent_drop, ↓spoilRecord_drop, ↓State.onEng_drop, ↓State.onImg_drop, id_eq, Nat.reduceAnd, Nat.reduceEqDiff, ↓drop_ite, ↓drop_fst_ite, ↓drop_cond, ↓resState_ite, ↓resState_next, ite_self, cond_self, true_or, or_true, false_or, or_false, implies_true, ↓foldl_drop, ↓foldl_fst_drop] | (refine (State.onImg_drop (by decide) ?_ ?_ ?_ ).trans ?_) | with_reducible rfl | exact Or.inl (by decide) | refine Or.inr fun _ => ?_ | (intro _; split <;> with_reducible rfl) | split)

theorem execSramScrubStep_drop {fm : Nat} (r : EccRead) (s : State) (hfm : fm &&& 8 = 8) :
    (resState (execSramScrubStep r s) s).drop fm = s.drop fm := by
  refine drop_sub hfm ?_
  unfold execSramScrubStep
  repeat' (first | simp only [↓correctRead_drop, ↓setUe_drop, ↓State.onEng_drop, id_eq, Nat.reduceAnd, Nat.reduceEqDiff, ↓drop_ite, ↓drop_fst_ite, ↓drop_cond, ↓resState_ite, ↓resState_next, ite_self, cond_self, true_or, or_true, false_or, or_false, implies_true, ↓foldl_drop, ↓foldl_fst_drop] | split)

theorem execPlinthFreqMeasure_drop {fm : Nat} (hz : Nat) (s : State) (hfm : fm &&& 8 = 8) :
    (resState (execPlinthFreqMeasure hz s) s).drop fm = s.drop fm := by
  refine drop_sub hfm ?_
  unfold execPlinthFreqMeasure
  repeat' (first | simp only [↓State.onEng_drop, id_eq, Nat.reduceAnd, Nat.reduceEqDiff, ↓drop_ite, ↓drop_fst_ite, ↓drop_cond, ↓resState_ite, ↓resState_next, ite_self, cond_self, true_or, or_true, false_or, or_false, implies_true, ↓foldl_drop, ↓foldl_fst_drop] | split)

theorem rejectSet_drop {fm : Nat} (s : State) (l : Leg) (cause : Nat) (hfm : fm &&& 8589950976 = 8589950976) :
    (rejectSet s l cause).drop fm = s.drop fm := by
  refine drop_sub hfm ?_
  unfold rejectSet
  repeat' (first | simp only [↓logEvent_drop, ↓State.onUnit_drop, ↓State.onPwm_drop, id_eq, Nat.reduceAnd, Nat.reduceEqDiff, ↓drop_ite, ↓drop_fst_ite, ↓drop_cond, ↓resState_ite, ↓resState_next, ite_self, cond_self, true_or, or_true, false_or, or_false, implies_true, ↓foldl_drop, ↓foldl_fst_drop] | split)

theorem commitSet_drop {fm : Nat} (s : State) (l : Leg) (hfm : fm &&& 8589950984 = 8589950984) :
    (commitSet s l).drop fm = s.drop fm := by
  refine drop_sub hfm ?_
  unfold commitSet
  repeat' (first | simp only [↓rejectSet_drop, ↓dcqFull_drop, ↓State.onUnit_drop, id_eq, Nat.reduceAnd, Nat.reduceEqDiff, ↓drop_ite, ↓drop_fst_ite, ↓drop_cond, ↓resState_ite, ↓resState_next, ite_self, cond_self, true_or, or_true, false_or, or_false, implies_true, ↓foldl_drop, ↓foldl_fst_drop] | split)

theorem noteReload_drop {fm : Nat} (s : State) (l : Leg) (hfm : fm &&& 16384 = 16384) :
    (noteReload s l).drop fm = s.drop fm := by
  refine drop_sub hfm ?_
  unfold noteReload
  repeat' (first | simp only [↓State.onUnit_drop, id_eq, Nat.reduceAnd, Nat.reduceEqDiff, ↓drop_ite, ↓drop_fst_ite, ↓drop_cond, ↓resState_ite, ↓resState_next, ite_self, cond_self, true_or, or_true, false_or, or_false, implies_true, ↓foldl_drop, ↓foldl_fst_drop] | split)

theorem replaceSet_drop {fm : Nat} (s : State) (l : Leg) (hfm : fm &&& 8589950976 = 8589950976) :
    (replaceSet s l).drop fm = s.drop fm := by
  refine drop_sub hfm ?_
  unfold replaceSet
  repeat' (first | simp only [↓rejectSet_drop, ↓State.onUnit_drop, id_eq, Nat.reduceAnd, Nat.reduceEqDiff, ↓drop_ite, ↓drop_fst_ite, ↓drop_cond, ↓resState_ite, ↓resState_next, ite_self, cond_self, true_or, or_true, false_or, or_false, implies_true, ↓foldl_drop, ↓foldl_fst_drop] | split)

theorem legLeaves_drop {fm : Nat} (s : State) (l : Leg) (hfm : fm &&& 549755863040 = 549755863040) :
    (legLeaves s l).drop fm = s.drop fm := by
  refine drop_sub hfm ?_
  unfold legLeaves
  repeat' (first | simp only [↓State.onLeg_drop, ↓State.onUnit_drop, id_eq, Nat.reduceAnd, Nat.reduceEqDiff, ↓drop_ite, ↓drop_fst_ite, ↓drop_cond, ↓resState_ite, ↓resState_next, ite_self, cond_self, true_or, or_true, false_or, or_false, implies_true, ↓foldl_drop, ↓foldl_fst_drop] | split)

theorem takeSet_drop {fm : Nat} (s : State) (l : Leg) (t : Nat) (p : PwmSet) (rest : List PwmSet) (hfm : fm &&& 16384 = 16384) :
    (takeSet s l t p rest).drop fm = s.drop fm := by
  refine drop_sub hfm ?_
  unfold takeSet
  repeat' (first | simp only [↓State.onUnit_drop, id_eq, Nat.reduceAnd, Nat.reduceEqDiff, ↓drop_ite, ↓drop_fst_ite, ↓drop_cond, ↓resState_ite, ↓resState_next, ite_self, cond_self, true_or, or_true, false_or, or_false, implies_true, ↓foldl_drop, ↓foldl_fst_drop] | split)

theorem execPwmCommit_drop {fm : Nat} (leg : Leg) (s : State) (hfm : fm &&& 8589950984 = 8589950984) :
    (resState (execPwmCommit leg s) s).drop fm = s.drop fm := by
  refine drop_sub hfm ?_
  unfold execPwmCommit
  repeat' (first | simp only [↓commitSet_drop, id_eq, Nat.reduceAnd, Nat.reduceEqDiff, ↓drop_ite, ↓drop_fst_ite, ↓drop_cond, ↓resState_ite, ↓resState_next, ite_self, cond_self, true_or, or_true, false_or, or_false, implies_true, ↓foldl_drop, ↓foldl_fst_drop] | split)

theorem execPwmReplaceCommit_drop {fm : Nat} (leg : Leg) (s : State) (hfm : fm &&& 8589983744 = 8589983744) :
    (resState (execPwmReplaceCommit leg s) s).drop fm = s.drop fm := by
  refine drop_sub hfm ?_
  unfold execPwmReplaceCommit
  repeat' (first | simp only [↓refreshBridge_drop, ↓replaceSet_drop, id_eq, Nat.reduceAnd, Nat.reduceEqDiff, ↓drop_ite, ↓drop_fst_ite, ↓drop_cond, ↓resState_ite, ↓resState_next, ite_self, cond_self, true_or, or_true, false_or, or_false, implies_true, ↓foldl_drop, ↓foldl_fst_drop] | split)

theorem execPulseUnitStart_drop {fm : Nat} (leg : Leg) (s : State) (hfm : fm &&& 558345797632 = 558345797632) :
    (resState (execPulseUnitStart leg s) s).drop fm = s.drop fm := by
  refine drop_sub hfm ?_
  unfold execPulseUnitStart
  repeat' (first | simp only [↓noteReload_drop, ↓logEvent_drop, ↓takeSet_drop, ↓refreshBridge_drop, ↓legLeaves_drop, ↓State.onUnit_drop, id_eq, Nat.reduceAnd, Nat.reduceEqDiff, ↓drop_ite, ↓drop_fst_ite, ↓drop_cond, ↓resState_ite, ↓resState_next, ite_self, cond_self, true_or, or_true, false_or, or_false, implies_true, ↓foldl_drop, ↓foldl_fst_drop] | split)

theorem execPulseReload_drop {fm : Nat} (leg : Leg) (s : State) (hfm : fm &&& 558345797632 = 558345797632) :
    (resState (execPulseReload leg s) s).drop fm = s.drop fm := by
  refine drop_sub hfm ?_
  unfold execPulseReload
  repeat' (first | simp only [↓noteReload_drop, ↓takeSet_drop, ↓refreshBridge_drop, ↓legLeaves_drop, ↓State.onUnit_drop, ↓State.onPwm_drop, id_eq, Nat.reduceAnd, Nat.reduceEqDiff, ↓drop_ite, ↓drop_fst_ite, ↓drop_cond, ↓resState_ite, ↓resState_next, ite_self, cond_self, true_or, or_true, false_or, or_false, implies_true, ↓foldl_drop, ↓foldl_fst_drop] | split)

theorem execPulseCompareEdge_drop {fm : Nat} (leg : Leg) (s : State) (hfm : fm &&& 49152 = 49152) :
    (resState (execPulseCompareEdge leg s) s).drop fm = s.drop fm := by
  refine drop_sub hfm ?_
  unfold execPulseCompareEdge
  repeat' (first | simp only [↓refreshWords_drop, ↓State.onUnit_drop, id_eq, Nat.reduceAnd, Nat.reduceEqDiff, ↓drop_ite, ↓drop_fst_ite, ↓drop_cond, ↓resState_ite, ↓resState_next, ite_self, cond_self, true_or, or_true, false_or, or_false, implies_true, ↓foldl_drop, ↓foldl_fst_drop] | split)

theorem execKerfTurnOn_drop {fm : Nat} (leg : Leg) (s : State) (hfm : fm &&& 49152 = 49152) :
    (resState (execKerfTurnOn leg s) s).drop fm = s.drop fm := by
  refine drop_sub hfm ?_
  unfold execKerfTurnOn
  repeat' (first | simp only [↓refreshWords_drop, ↓State.onUnit_drop, id_eq, Nat.reduceAnd, Nat.reduceEqDiff, ↓drop_ite, ↓drop_fst_ite, ↓drop_cond, ↓resState_ite, ↓resState_next, ite_self, cond_self, true_or, or_true, false_or, or_false, implies_true, ↓foldl_drop, ↓foldl_fst_drop] | split)

theorem writeShadow_drop {fm : Nat} (s : State) (l : Leg) (period : Nat) (rise : Nat) (fall : Nat) (apply : Nat) (hfm : fm &&& 16384 = 16384) :
    (writeShadow s l period rise fall apply).drop fm = s.drop fm := by
  refine drop_sub hfm ?_
  unfold writeShadow
  repeat' (first | simp only [↓State.onUnit_drop, id_eq, Nat.reduceAnd, Nat.reduceEqDiff, ↓drop_ite, ↓drop_fst_ite, ↓drop_cond, ↓resState_ite, ↓resState_next, ite_self, cond_self, true_or, or_true, false_or, or_false, implies_true, ↓foldl_drop, ↓foldl_fst_drop] | split)

theorem kerfAfter_drop {fm : Nat} (s0 : State) (s : State) (l : Leg) (hfm : fm &&& 16384 = 16384) :
    (kerfAfter s0 s l).drop fm = s.drop fm := by
  refine drop_sub hfm ?_
  unfold kerfAfter
  repeat' (first | simp only [↓State.onUnit_drop, id_eq, Nat.reduceAnd, Nat.reduceEqDiff, ↓drop_ite, ↓drop_fst_ite, ↓drop_cond, ↓resState_ite, ↓resState_next, ite_self, cond_self, true_or, or_true, false_or, or_false, implies_true, ↓foldl_drop, ↓foldl_fst_drop] | split)

theorem parkLeg_drop {fm : Nat} (s : State) (l : Leg) (hfm : fm &&& 558345797632 = 558345797632) :
    (parkLeg s l).drop fm = s.drop fm := by
  refine drop_sub hfm ?_
  unfold parkLeg
  repeat' (first | simp only [↓logEvent_drop, ↓kerfAfter_drop, ↓replaceSet_drop, ↓writeShadow_drop, ↓State.onLeg_drop, ↓State.onGlk_drop, id_eq, Nat.reduceAnd, Nat.reduceEqDiff, ↓drop_ite, ↓drop_fst_ite, ↓drop_cond, ↓resState_ite, ↓resState_next, ite_self, cond_self, true_or, or_true, false_or, or_false, implies_true, ↓foldl_drop, ↓foldl_fst_drop] | (refine (State.onGlk_drop (by decide) ?_ ?_ ?_ ?_ ?_ ?_ ?_ ).trans ?_) | with_reducible rfl | exact Or.inl (by decide) | refine Or.inr fun _ => ?_ | (intro _; split <;> with_reducible rfl) | split)

theorem setParkDue_drop {fm : Nat} (s : State) (l : Leg) (t : Option Nat) (hfm : fm &&& 16777216 = 16777216) :
    (setParkDue s l t).drop fm = s.drop fm := by
  refine drop_sub hfm ?_
  unfold setParkDue
  repeat' (first | simp only [↓State.onPrt_drop, id_eq, Nat.reduceAnd, Nat.reduceEqDiff, ↓drop_ite, ↓drop_fst_ite, ↓drop_cond, ↓resState_ite, ↓resState_next, ite_self, cond_self, true_or, or_true, false_or, or_false, implies_true, ↓foldl_drop, ↓foldl_fst_drop] | (refine (State.onPrt_drop (by decide) ?_ ?_ ).trans ?_) | with_reducible rfl | exact Or.inl (by decide) | refine Or.inr fun _ => ?_ | (intro _; split <;> with_reducible rfl) | split)

theorem parkOrBypass_drop {fm : Nat} (s : State) (l : Leg) (since : Nat) (src : Nat) (entry : Option Nat) (hfm : fm &&& 4960780546048 = 4960780546048) :
    (parkOrBypass s l since src entry).drop fm = s.drop fm := by
  refine drop_sub hfm ?_
  unfold parkOrBypass
  repeat' (first | simp only [↓setParkDue_drop, ↓refreshBridge_drop, ↓parkLeg_drop, ↓decideBypass_drop, id_eq, Nat.reduceAnd, Nat.reduceEqDiff, ↓drop_ite, ↓drop_fst_ite, ↓drop_cond, ↓resState_ite, ↓resState_next, ite_self, cond_self, true_or, or_true, false_or, or_false, implies_true, ↓foldl_drop, ↓foldl_fst_drop] | split)

theorem legFault_drop {fm : Nat} (s : State) (i : Fin 4) (cause : Nat) (hfm : fm &&& 1799684595712 = 1799684595712) :
    (legFault s i cause).drop fm = s.drop fm := by
  refine drop_sub hfm ?_
  unfold legFault
  repeat' (first | simp only [↓setHiZ_drop, ↓refreshBridge_drop, ↓raiseHeld_drop, ↓logEvent_drop, ↓setParkDue_drop, ↓State.onLeg_drop, id_eq, Nat.reduceAnd, Nat.reduceEqDiff, ↓drop_ite, ↓drop_fst_ite, ↓drop_cond, ↓resState_ite, ↓resState_next, ite_self, cond_self, true_or, or_true, false_or, or_false, implies_true, ↓foldl_drop, ↓foldl_fst_drop] | split)

theorem recordFrame_drop {fm : Nat} (s : State) (i : Fin 4) (bits : BitVec 16) (hfm : fm &&& 32768 = 32768) :
    (recordFrame s i bits).drop fm = s.drop fm := by
  refine drop_sub hfm ?_
  unfold recordFrame
  repeat' (first | simp only [↓State.onLink_drop, id_eq, Nat.reduceAnd, Nat.reduceEqDiff, ↓drop_ite, ↓drop_fst_ite, ↓drop_cond, ↓resState_ite, ↓resState_next, ite_self, cond_self, true_or, or_true, false_or, or_false, implies_true, ↓foldl_drop, ↓foldl_fst_drop] | split)

theorem endHold_drop {fm : Nat} (s : State) (l : Leg) (reason : Nat) (hfm : fm &&& 8589983744 = 8589983744) :
    (endHold s l reason).drop fm = s.drop fm := by
  refine drop_sub hfm ?_
  unfold endHold
  repeat' (first | simp only [↓logEvent_drop, ↓State.onGlk_drop, ↓State.onUnit_drop, id_eq, Nat.reduceAnd, Nat.reduceEqDiff, ↓drop_ite, ↓drop_fst_ite, ↓drop_cond, ↓resState_ite, ↓resState_next, ite_self, cond_self, true_or, or_true, false_or, or_false, implies_true, ↓foldl_drop, ↓foldl_fst_drop] | (refine (State.onGlk_drop (by decide) ?_ ?_ ?_ ?_ ?_ ?_ ?_ ).trans ?_) | with_reducible rfl | exact Or.inl (by decide) | refine Or.inr fun _ => ?_ | (intro _; split <;> with_reducible rfl) | split)

theorem watchLinks_drop {fm : Nat} (s : State) (hfm : fm &&& 562885011456 = 562885011456) :
    (watchLinks s).drop fm = s.drop fm := by
  refine drop_sub hfm ?_
  unfold watchLinks
  repeat' (first | simp only [↓logEvent_drop, ↓dropToken_drop, ↓bothHiZ_drop, ↓takeOver_drop, ↓State.onDvt_drop, ↓State.onArm_drop, id_eq, Nat.reduceAnd, Nat.reduceEqDiff, ↓drop_ite, ↓drop_fst_ite, ↓drop_cond, ↓resState_ite, ↓resState_next, ite_self, cond_self, true_or, or_true, false_or, or_false, implies_true, ↓foldl_drop, ↓foldl_fst_drop] | (refine (State.onArm_drop (by decide) ?_ ?_ ?_ ?_ ).trans ?_) | with_reducible rfl | exact Or.inl (by decide) | refine Or.inr fun _ => ?_ | (intro _; split <;> with_reducible rfl) | split)

theorem logCauses_drop {fm : Nat} (s : State) (cs : List (Nat × Nat × Nat × Nat)) (hfm : fm &&& 8589934592 = 8589934592) :
    (logCauses s cs).drop fm = s.drop fm := by
  refine drop_sub hfm ?_
  unfold logCauses
  repeat' (first | simp only [↓logEvent_drop, id_eq, Nat.reduceAnd, Nat.reduceEqDiff, ↓drop_ite, ↓drop_fst_ite, ↓drop_cond, ↓resState_ite, ↓resState_next, ite_self, cond_self, true_or, or_true, false_or, or_false, implies_true, ↓foldl_drop, ↓foldl_fst_drop] | (refine (foldl_drop (fun _ _ => ?_) _ _).trans ?_) | split)

theorem faultAtRest_drop {fm : Nat} (s : State) (i : Fin 4) (cs : List (Nat × Nat × Nat × Nat)) (hfm : fm &&& 562716442624 = 562716442624) :
    (faultAtRest s i cs).drop fm = s.drop fm := by
  refine drop_sub hfm ?_
  unfold faultAtRest
  repeat' (first | simp only [↓logCauses_drop, ↓endJig_drop, ↓State.onLeg_drop, id_eq, Nat.reduceAnd, Nat.reduceEqDiff, ↓drop_ite, ↓drop_fst_ite, ↓drop_cond, ↓resState_ite, ↓resState_next, ite_self, cond_self, true_or, or_true, false_or, or_false, implies_true, ↓foldl_drop, ↓foldl_fst_drop] | split)

theorem execGlStatusFrameRx_drop {fm : Nat} (link : Fin 4) (bits : BitVec 16) (check : BitVec 4) (s : State) (hfm : fm &&& 1799852386304 = 1799852386304) :
    (resState (execGlStatusFrameRx link bits check s) s).drop fm = s.drop fm := by
  refine drop_sub hfm ?_
  unfold execGlStatusFrameRx
  repeat' (first | simp only [↓recordFrame_drop, ↓legFault_drop, ↓logCauses_drop, ↓faultAtRest_drop, ↓endHold_drop, ↓refreshBridge_drop, ↓watchLinks_drop, ↓State.onLink_drop, id_eq, Nat.reduceAnd, Nat.reduceEqDiff, ↓drop_ite, ↓drop_fst_ite, ↓drop_cond, ↓resState_ite, ↓resState_next, ite_self, cond_self, true_or, or_true, false_or, or_false, implies_true, ↓foldl_drop, ↓foldl_fst_drop] | split)

theorem execGlStatusLost_drop {fm : Nat} (link : Fin 4) (s : State) (hfm : fm &&& 1799684595712 = 1799684595712) :
    (resState (execGlStatusLost link s) s).drop fm = s.drop fm := by
  refine drop_sub hfm ?_
  unfold execGlStatusLost
  repeat' (first | simp only [↓logEvent_drop, ↓legFault_drop, ↓refreshBridge_drop, ↓faultAtRest_drop, ↓State.onLink_drop, id_eq, Nat.reduceAnd, Nat.reduceEqDiff, ↓drop_ite, ↓drop_fst_ite, ↓drop_cond, ↓resState_ite, ↓resState_next, ite_self, cond_self, true_or, or_true, false_or, or_false, implies_true, ↓foldl_drop, ↓foldl_fst_drop] | split)

theorem execFireDelayExpiry_drop {fm : Nat} (s : State) (hfm : fm &&& 8589967360 = 8589967360) :
    (resState (execFireDelayExpiry s) s).drop fm = s.drop fm := by
  refine drop_sub hfm ?_
  unfold execFireDelayExpiry
  repeat' (first | simp only [↓logEvent_drop, ↓State.onGlk_drop, id_eq, Nat.reduceAnd, Nat.reduceEqDiff, ↓drop_ite, ↓drop_fst_ite, ↓drop_cond, ↓resState_ite, ↓resState_next, ite_self, cond_self, true_or, or_true, false_or, or_false, implies_true, ↓foldl_drop, ↓foldl_fst_drop] | (refine (State.onGlk_drop (by decide) ?_ ?_ ?_ ?_ ?_ ?_ ?_ ).trans ?_) | with_reducible rfl | exact Or.inl (by decide) | refine Or.inr fun _ => ?_ | (intro _; split <;> with_reducible rfl) | split)

theorem execBypStatClosed_drop {fm : Nat} (s : State) (hfm : fm &&& 4406636478468 = 4406636478468) :
    (resState (execBypStatClosed s) s).drop fm = s.drop fm := by
  refine drop_sub hfm ?_
  unfold execBypStatClosed
  repeat' (first | simp only [↓refreshBridge_drop, ↓State.onDev_drop, ↓State.onGlk_drop, id_eq, Nat.reduceAnd, Nat.reduceEqDiff, ↓drop_ite, ↓drop_fst_ite, ↓drop_cond, ↓resState_ite, ↓resState_next, ite_self, cond_self, true_or, or_true, false_or, or_false, implies_true, ↓foldl_drop, ↓foldl_fst_drop] | (refine (State.onDev_drop (by decide) ?_ ?_ ).trans ?_) | (refine (State.onGlk_drop (by decide) ?_ ?_ ?_ ?_ ?_ ?_ ?_ ).trans ?_) | with_reducible rfl | exact Or.inl (by decide) | refine Or.inr fun _ => ?_ | (intro _; split <;> with_reducible rfl) | split)

theorem execBypCloseTimeout_drop {fm : Nat} (s : State) (hfm : fm &&& 6197731106816 = 6197731106816) :
    (resState (execBypCloseTimeout s) s).drop fm = s.drop fm := by
  refine drop_sub hfm ?_
  unfold execBypCloseTimeout
  repeat' (first | simp only [↓refreshBridge_drop, ↓raiseEvent_drop, ↓logEvent_drop, ↓State.onGlk_drop, id_eq, Nat.reduceAnd, Nat.reduceEqDiff, ↓drop_ite, ↓drop_fst_ite, ↓drop_cond, ↓resState_ite, ↓resState_next, ite_self, cond_self, true_or, or_true, false_or, or_false, implies_true, ↓foldl_drop, ↓foldl_fst_drop] | (refine (State.onGlk_drop (by decide) ?_ ?_ ?_ ?_ ?_ ?_ ?_ ).trans ?_) | with_reducible rfl | exact Or.inl (by decide) | refine Or.inr fun _ => ?_ | (intro _; split <;> with_reducible rfl) | split)

theorem execOffStateDiagStart_drop {fm : Nat} (s : State) (hfm : fm &&& 8589975552 = 8589975552) :
    (resState (execOffStateDiagStart s) s).drop fm = s.drop fm := by
  refine drop_sub hfm ?_
  unfold execOffStateDiagStart
  repeat' (first | simp only [↓refreshBridge_drop, ↓State.onArm_drop, ↓State.onGlk_drop, id_eq, Nat.reduceAnd, Nat.reduceEqDiff, ↓drop_ite, ↓drop_fst_ite, ↓drop_cond, ↓resState_ite, ↓resState_next, ite_self, cond_self, true_or, or_true, false_or, or_false, implies_true, ↓foldl_drop, ↓foldl_fst_drop] | (refine (State.onArm_drop (by decide) ?_ ?_ ?_ ?_ ).trans ?_) | (refine (State.onGlk_drop (by decide) ?_ ?_ ?_ ?_ ?_ ?_ ?_ ).trans ?_) | with_reducible rfl | exact Or.inl (by decide) | refine Or.inr fun _ => ?_ | (intro _; split <;> with_reducible rfl) | split)

theorem execTestWindowExpiry_drop {fm : Nat} (s : State) (hfm : fm &&& 8589967360 = 8589967360) :
    (resState (execTestWindowExpiry s) s).drop fm = s.drop fm := by
  refine drop_sub hfm ?_
  unfold execTestWindowExpiry
  repeat' (first | simp only [↓refreshBridge_drop, ↓State.onGlk_drop, id_eq, Nat.reduceAnd, Nat.reduceEqDiff, ↓drop_ite, ↓drop_fst_ite, ↓drop_cond, ↓resState_ite, ↓resState_next, ite_self, cond_self, true_or, or_true, false_or, or_false, implies_true, ↓foldl_drop, ↓foldl_fst_drop] | (refine (State.onGlk_drop (by decide) ?_ ?_ ?_ ?_ ?_ ?_ ?_ ).trans ?_) | with_reducible rfl | exact Or.inl (by decide) | refine Or.inr fun _ => ?_ | (intro _; split <;> with_reducible rfl) | split)

theorem logLegFail_drop {fm : Nat} (s : State) (l : Leg) (hfm : fm &&& 8589934592 = 8589934592) :
    (logLegFail s l).drop fm = s.drop fm := by
  refine drop_sub hfm ?_
  unfold logLegFail
  repeat' (first | simp only [↓logEvent_drop, id_eq, Nat.reduceAnd, Nat.reduceEqDiff, ↓drop_ite, ↓drop_fst_ite, ↓drop_cond, ↓resState_ite, ↓resState_next, ite_self, cond_self, true_or, or_true, false_or, or_false, implies_true, ↓foldl_drop, ↓foldl_fst_drop] | split)

theorem markTest_drop {fm : Nat} (s : State) (l : Leg) (pass : Bool) (hfm : fm &&& 32768 = 32768) :
    (markTest s l pass).drop fm = s.drop fm := by
  refine drop_sub hfm ?_
  unfold markTest
  repeat' (first | simp only [↓State.onLink_drop, id_eq, Nat.reduceAnd, Nat.reduceEqDiff, ↓drop_ite, ↓drop_fst_ite, ↓drop_cond, ↓resState_ite, ↓resState_next, ite_self, cond_self, true_or, or_true, false_or, or_false, implies_true, ↓foldl_drop, ↓foldl_fst_drop] | split)

theorem floorBypass_drop {fm : Nat} (s : State) (src : Nat) (hfm : fm &&& 4960780529664 = 4960780529664) :
    (floorBypass s src).drop fm = s.drop fm := by
  refine drop_sub hfm ?_
  unfold floorBypass
  repeat' (first | simp only [↓decideBypass_drop, id_eq, Nat.reduceAnd, Nat.reduceEqDiff, ↓drop_ite, ↓drop_fst_ite, ↓drop_cond, ↓resState_ite, ↓resState_next, ite_self, cond_self, true_or, or_true, false_or, or_false, implies_true, ↓foldl_drop, ↓foldl_fst_drop] | split)

theorem answerGateTest_drop {fm : Nat} (s : State) (hfm : fm &&& 4294967296 = 4294967296) :
    (answerGateTest s).drop fm = s.drop fm := by
  refine drop_sub hfm ?_
  unfold answerGateTest
  repeat' (first | simp only [↓State.onMnt_drop, id_eq, Nat.reduceAnd, Nat.reduceEqDiff, ↓drop_ite, ↓drop_fst_ite, ↓drop_cond, ↓resState_ite, ↓resState_next, ite_self, cond_self, true_or, or_true, false_or, or_false, implies_true, ↓foldl_drop, ↓foldl_fst_drop] | split)

theorem execOffStateDiagComplete_drop {fm : Nat} (s : State) (hfm : fm &&& 6197731110912 = 6197731110912) :
    (resState (execOffStateDiagComplete s) s).drop fm = s.drop fm := by
  refine drop_sub hfm ?_
  unfold execOffStateDiagComplete
  repeat' (first | simp only [↓answerGateTest_drop, ↓markTest_drop, ↓logLegFail_drop, ↓refreshBridge_drop, ↓raiseEvent_drop, ↓floorBypass_drop, ↓State.onGlk_drop, ↓State.onArm_drop, ↓State.onLeg_drop, id_eq, Nat.reduceAnd, Nat.reduceEqDiff, ↓drop_ite, ↓drop_fst_ite, ↓drop_cond, ↓resState_ite, ↓resState_next, ite_self, cond_self, true_or, or_true, false_or, or_false, implies_true, ↓foldl_drop, ↓foldl_fst_drop] | (refine (State.onArm_drop (by decide) ?_ ?_ ?_ ?_ ).trans ?_) | (refine (State.onGlk_drop (by decide) ?_ ?_ ?_ ?_ ?_ ?_ ?_ ).trans ?_) | with_reducible rfl | exact Or.inl (by decide) | refine Or.inr fun _ => ?_ | (intro _; split <;> with_reducible rfl) | split)

theorem startRetest_drop {fm : Nat} (s : State) (l : Leg) (hfm : fm &&& 8589967360 = 8589967360) :
    (startRetest s l).drop fm = s.drop fm := by
  refine drop_sub hfm ?_
  unfold startRetest
  repeat' (first | simp only [↓refreshBridge_drop, ↓State.onLink_drop, ↓State.onGlk_drop, id_eq, Nat.reduceAnd, Nat.reduceEqDiff, ↓drop_ite, ↓drop_fst_ite, ↓drop_cond, ↓resState_ite, ↓resState_next, ite_self, cond_self, true_or, or_true, false_or, or_false, implies_true, ↓foldl_drop, ↓foldl_fst_drop] | (refine (State.onGlk_drop (by decide) ?_ ?_ ?_ ?_ ?_ ?_ ?_ ).trans ?_) | with_reducible rfl | exact Or.inl (by decide) | refine Or.inr fun _ => ?_ | (intro _; split <;> with_reducible rfl) | split)

theorem execLegRetestComplete_drop {fm : Nat} (s : State) (hfm : fm &&& 4960780546048 = 4960780546048) :
    (resState (execLegRetestComplete s) s).drop fm = s.drop fm := by
  refine drop_sub hfm ?_
  unfold execLegRetestComplete
  repeat' (first | simp only [↓markTest_drop, ↓refreshBridge_drop, ↓logLegFail_drop, ↓parkOrBypass_drop, ↓State.onGlk_drop, ↓State.onLeg_drop, id_eq, Nat.reduceAnd, Nat.reduceEqDiff, ↓drop_ite, ↓drop_fst_ite, ↓drop_cond, ↓resState_ite, ↓resState_next, ite_self, cond_self, true_or, or_true, false_or, or_false, implies_true, ↓foldl_drop, ↓foldl_fst_drop] | (refine (State.onGlk_drop (by decide) ?_ ?_ ?_ ?_ ?_ ?_ ?_ ).trans ?_) | with_reducible rfl | exact Or.inl (by decide) | refine Or.inr fun _ => ?_ | (intro _; split <;> with_reducible rfl) | split)

theorem diagAfterRelease_drop {fm : Nat} (s : State) (hfm : fm &&& 8192 = 8192) :
    (diagAfterRelease s).drop fm = s.drop fm := by
  refine drop_sub hfm ?_
  unfold diagAfterRelease
  repeat' (first | simp only [↓State.onArm_drop, id_eq, Nat.reduceAnd, Nat.reduceEqDiff, ↓drop_ite, ↓drop_fst_ite, ↓drop_cond, ↓resState_ite, ↓resState_next, ite_self, cond_self, true_or, or_true, false_or, or_false, implies_true, ↓foldl_drop, ↓foldl_fst_drop] | (refine (State.onArm_drop (by decide) ?_ ?_ ?_ ?_ ).trans ?_) | with_reducible rfl | exact Or.inl (by decide) | refine Or.inr fun _ => ?_ | (intro _; split <;> with_reducible rfl) | split)

theorem releaseLeg_drop {fm : Nat} (s : State) (l : Leg) (hfm : fm &&& 8589975552 = 8589975552) :
    (releaseLeg s l).drop fm = s.drop fm := by
  refine drop_sub hfm ?_
  unfold releaseLeg
  repeat' (first | simp only [↓startRetest_drop, ↓diagAfterRelease_drop, id_eq, Nat.reduceAnd, Nat.reduceEqDiff, ↓drop_ite, ↓drop_fst_ite, ↓drop_cond, ↓resState_ite, ↓resState_next, ite_self, cond_self, true_or, or_true, false_or, or_false, implies_true, ↓foldl_drop, ↓foldl_fst_drop] | split)

theorem releaseEntry_drop {fm : Nat} (s : State) (e : Fin 64) (hfm : fm &&& 8606752768 = 8606752768) :
    (releaseEntry s e).drop fm = s.drop fm := by
  refine drop_sub hfm ?_
  unfold releaseEntry
  repeat' (first | simp only [↓logEvent_drop, ↓refreshBridge_drop, ↓diagAfterRelease_drop, ↓releaseLeg_drop, ↓State.onPrt_drop, id_eq, Nat.reduceAnd, Nat.reduceEqDiff, ↓drop_ite, ↓drop_fst_ite, ↓drop_cond, ↓resState_ite, ↓resState_next, ite_self, cond_self, true_or, or_true, false_or, or_false, implies_true, ↓foldl_drop, ↓foldl_fst_drop] | (refine (State.onPrt_drop (by decide) ?_ ?_ ).trans ?_) | with_reducible rfl | exact Or.inl (by decide) | refine Or.inr fun _ => ?_ | (intro _; split <;> with_reducible rfl) | split)

theorem releaseAtRun_drop {fm : Nat} (s : State) (hfm : fm &&& 8606752768 = 8606752768) :
    (releaseAtRun s).drop fm = s.drop fm := by
  refine drop_sub hfm ?_
  unfold releaseAtRun
  repeat' (first | simp only [↓releaseEntry_drop, id_eq, Nat.reduceAnd, Nat.reduceEqDiff, ↓drop_ite, ↓drop_fst_ite, ↓drop_cond, ↓resState_ite, ↓resState_next, ite_self, cond_self, true_or, or_true, false_or, or_false, implies_true, ↓foldl_drop, ↓foldl_fst_drop] | (refine (foldl_drop (fun _ _ => ?_) _ _).trans ?_) | split)

theorem execTakeHoldTimeout_drop {fm : Nat} (s : State) (hfm : fm &&& 8589983744 = 8589983744) :
    (resState (execTakeHoldTimeout s) s).drop fm = s.drop fm := by
  refine drop_sub hfm ?_
  unfold execTakeHoldTimeout
  repeat' (first | simp only [↓refreshBridge_drop, ↓endHold_drop, ↓State.onGlk_drop, id_eq, Nat.reduceAnd, Nat.reduceEqDiff, ↓drop_ite, ↓drop_fst_ite, ↓drop_cond, ↓resState_ite, ↓resState_next, ite_self, cond_self, true_or, or_true, false_or, or_false, implies_true, ↓foldl_drop, ↓foldl_fst_drop] | (refine (State.onGlk_drop (by decide) ?_ ?_ ?_ ?_ ?_ ?_ ?_ ).trans ?_) | with_reducible rfl | exact Or.inl (by decide) | refine Or.inr fun _ => ?_ | (intro _; split <;> with_reducible rfl) | split)

theorem opJigGo_drop {fm : Nat} (sw : Nat) (s : State) (hfm : fm &&& 8589967360 = 8589967360) :
    (opJigGo sw s).1.drop fm = s.drop fm := by
  refine drop_sub hfm ?_
  unfold opJigGo
  repeat' (first | simp only [↓refreshWords_drop, ↓logEvent_drop, ↓State.onGlk_drop, id_eq, Nat.reduceAnd, Nat.reduceEqDiff, ↓drop_ite, ↓drop_fst_ite, ↓drop_cond, ↓resState_ite, ↓resState_next, ite_self, cond_self, true_or, or_true, false_or, or_false, implies_true, ↓foldl_drop, ↓foldl_fst_drop] | (refine (State.onGlk_drop (by decide) ?_ ?_ ?_ ?_ ?_ ?_ ?_ ).trans ?_) | with_reducible rfl | exact Or.inl (by decide) | refine Or.inr fun _ => ?_ | (intro _; split <;> with_reducible rfl) | split)

theorem execGlkJigGo_drop {fm : Nat} (p : Requester) (sw : Nat) (s : State) (hfm : fm &&& 148176404480 = 148176404480) :
    (resState (execGlkJigGo p sw s) s).drop fm = s.drop fm := by
  refine drop_sub hfm ?_
  unfold execGlkJigGo
  repeat' (first | simp only [↓opJigGo_drop, id_eq, Nat.reduceAnd, Nat.reduceEqDiff, ↓drop_ite, ↓drop_fst_ite, ↓drop_cond, ↓resState_ite, ↓resState_next, ite_self, cond_self, true_or, or_true, false_or, or_false, implies_true, ↓foldl_drop, ↓foldl_fst_drop] | (refine (regCmd_drop (by decide) (fun _ => ?_)).trans ?_) | (refine (withRight_drop (by decide) (fun _ => ?_)).trans ?_) | split)

theorem execJigPulseEnd_drop {fm : Nat} (s : State) (hfm : fm &&& 32768 = 32768) :
    (resState (execJigPulseEnd s) s).drop fm = s.drop fm := by
  refine drop_sub hfm ?_
  unfold execJigPulseEnd
  repeat' (first | simp only [↓refreshWords_drop, ↓State.onGlk_drop, id_eq, Nat.reduceAnd, Nat.reduceEqDiff, ↓drop_ite, ↓drop_fst_ite, ↓drop_cond, ↓resState_ite, ↓resState_next, ite_self, cond_self, true_or, or_true, false_or, or_false, implies_true, ↓foldl_drop, ↓foldl_fst_drop] | (refine (State.onGlk_drop (by decide) ?_ ?_ ?_ ?_ ?_ ?_ ?_ ).trans ?_) | with_reducible rfl | exact Or.inl (by decide) | refine Or.inr fun _ => ?_ | (intro _; split <;> with_reducible rfl) | split)

theorem setVCh_drop {fm : Nat} (s : State) (c : ChainId) (v : Option Nat) (hfm : fm &&& 512 = 512) :
    (setVCh s c v).drop fm = s.drop fm := by
  refine drop_sub hfm ?_
  unfold setVCh
  repeat' (first | simp only [↓State.onMeas_drop, id_eq, Nat.reduceAnd, Nat.reduceEqDiff, ↓drop_ite, ↓drop_fst_ite, ↓drop_cond, ↓resState_ite, ↓resState_next, ite_self, cond_self, true_or, or_true, false_or, or_false, implies_true, ↓foldl_drop, ↓foldl_fst_drop] | split)

theorem refreshSpan_drop {fm : Nat} (s : State) (c : ChainId) (hfm : fm &&& 8590131200 = 8590131200) :
    (refreshSpan s c).drop fm = s.drop fm := by
  refine drop_sub hfm ?_
  unfold refreshSpan
  repeat' (first | simp only [↓logEvent_drop, ↓State.onChain_drop, id_eq, Nat.reduceAnd, Nat.reduceEqDiff, ↓drop_ite, ↓drop_fst_ite, ↓drop_cond, ↓resState_ite, ↓resState_next, ite_self, cond_self, true_or, or_true, false_or, or_false, implies_true, ↓foldl_drop, ↓foldl_fst_drop] | split)

theorem sendEntry_drop {fm : Nat} (c : ChainId) (t : Stair) (b : Nat) (s : State) (m : Fin 32) (hfm : fm &&& 983040 = 983040) :
    (sendEntry c t b s m).drop fm = s.drop fm := by
  refine drop_sub hfm ?_
  unfold sendEntry
  repeat' (first | simp only [↓State.onRec_drop, ↓State.onSen_drop, ↓State.onMod_drop, id_eq, Nat.reduceAnd, Nat.reduceEqDiff, ↓drop_ite, ↓drop_fst_ite, ↓drop_cond, ↓resState_ite, ↓resState_next, ite_self, cond_self, true_or, or_true, false_or, or_false, implies_true, ↓foldl_drop, ↓foldl_fst_drop] | split)

theorem sendMsfFrom_drop {fm : Nat} (c : ChainId) (t : Stair) (b : Nat) (s : State) (tail : Bool) (hfm : fm &&& 137439936512 = 137439936512) :
    (sendMsfFrom c t b s tail).drop fm = s.drop fm := by
  refine drop_sub hfm ?_
  unfold sendMsfFrom
  repeat' (first | simp only [↓sendEntry_drop, ↓send_drop, id_eq, Nat.reduceAnd, Nat.reduceEqDiff, ↓drop_ite, ↓drop_fst_ite, ↓drop_cond, ↓resState_ite, ↓resState_next, ite_self, cond_self, true_or, or_true, false_or, or_false, implies_true, ↓foldl_drop, ↓foldl_fst_drop] | (refine (foldl_drop (fun _ _ => ?_) _ _).trans ?_) | split)

theorem sendMsf_drop {fm : Nat} (s : State) (c : ChainId) (hfm : fm &&& 137439936512 = 137439936512) :
    (sendMsf s c).drop fm = s.drop fm := by
  refine drop_sub hfm ?_
  unfold sendMsf
  repeat' (first | simp only [↓sendMsfFrom_drop, ↓State.onSen_drop, id_eq, Nat.reduceAnd, Nat.reduceEqDiff, ↓drop_ite, ↓drop_fst_ite, ↓drop_cond, ↓resState_ite, ↓resState_next, ite_self, cond_self, true_or, or_true, false_or, or_false, implies_true, ↓foldl_drop, ↓foldl_fst_drop] | (refine (foldl_drop (fun _ _ => ?_) _ _).trans ?_) | split)

theorem sendWaiting_drop {fm : Nat} (s : State) (c : ChainId) (entries : Nat) (hfm : fm &&& 137439739904 = 137439739904) :
    (sendWaiting s c entries).drop fm = s.drop fm := by
  refine drop_sub hfm ?_
  unfold sendWaiting
  repeat' (first | simp only [↓sendEnds_drop, ↓State.onSen_drop, ↓State.onRec_drop, id_eq, Nat.reduceAnd, Nat.reduceEqDiff, ↓drop_ite, ↓drop_fst_ite, ↓drop_cond, ↓resState_ite, ↓resState_next, ite_self, cond_self, true_or, or_true, false_or, or_false, implies_true, ↓foldl_drop, ↓foldl_fst_drop] | split)

theorem commandWindow_drop {fm : Nat} (s : State) (c : ChainId) (hfm : fm &&& 137439936512 = 137439936512) :
    (commandWindow s c).drop fm = s.drop fm := by
  refine drop_sub hfm ?_
  unfold commandWindow
  repeat' (first | simp only [↓sendWaiting_drop, ↓sendMsf_drop, id_eq, Nat.reduceAnd, Nat.reduceEqDiff, ↓drop_ite, ↓drop_fst_ite, ↓drop_cond, ↓resState_ite, ↓resState_next, ite_self, cond_self, true_or, or_true, false_or, or_false, implies_true, ↓foldl_drop, ↓foldl_fst_drop] | split)

theorem refreshBleed_drop {fm : Nat} (s : State) (c : ChainId) (hfm : fm &&& 786432 = 786432) :
    (refreshBleed s c).drop fm = s.drop fm := by
  refine drop_sub hfm ?_
  unfold refreshBleed
  repeat' (first | simp only [↓sendSrq_drop, ↓State.onRec_drop, id_eq, Nat.reduceAnd, Nat.reduceEqDiff, ↓drop_ite, ↓drop_fst_ite, ↓drop_cond, ↓resState_ite, ↓resState_next, ite_self, cond_self, true_or, or_true, false_or, or_false, implies_true, ↓foldl_drop, ↓foldl_fst_drop] | (refine (foldl_drop (fun _ _ => ?_) _ _).trans ?_) | split)

theorem execCurrentLoopTick_drop {fm : Nat} (c : ChainId) (i : Option Int) (vCap : Option Nat) (vCh : Option Nat) (s : State) (hfm : fm &&& 219119845888 = 219119845888) :
    (resState (execCurrentLoopTick c i vCap vCh s) s).drop fm = s.drop fm := by
  refine drop_sub hfm ?_
  unfold execCurrentLoopTick
  repeat' (first | simp only [↓setVCh_drop, ↓nextFree_drop, ↓commandWindow_drop, ↓refreshBleed_drop, ↓startOpening_drop, ↓State.onMeas_drop, ↓State.onChain_drop, id_eq, Nat.reduceAnd, Nat.reduceEqDiff, ↓drop_ite, ↓drop_fst_ite, ↓drop_cond, ↓resState_ite, ↓resState_next, ite_self, cond_self, true_or, or_true, false_or, or_false, implies_true, ↓foldl_drop, ↓foldl_fst_drop] | split)

theorem execTrimPeriodStaircase_drop {fm : Nat} (c : ChainId) (s : State) (hfm : fm &&& 68719673344 = 68719673344) :
    (resState (execTrimPeriodStaircase c s) s).drop fm = s.drop fm := by
  refine drop_sub hfm ?_
  unfold execTrimPeriodStaircase
  repeat' (first | simp only [↓nextFree_drop, ↓State.onChain_drop, id_eq, Nat.reduceAnd, Nat.reduceEqDiff, ↓drop_ite, ↓drop_fst_ite, ↓drop_cond, ↓resState_ite, ↓resState_next, ite_self, cond_self, true_or, or_true, false_or, or_false, implies_true, ↓foldl_drop, ↓foldl_fst_drop] | split)

theorem resortChain_drop {fm : Nat} (s : State) (c : ChainId) (hfm : fm &&& 68719673344 = 68719673344) :
    (resortChain s c).drop fm = s.drop fm := by
  refine drop_sub hfm ?_
  unfold resortChain
  repeat' (first | simp only [↓nextFree_drop, ↓State.onChain_drop, id_eq, Nat.reduceAnd, Nat.reduceEqDiff, ↓drop_ite, ↓drop_fst_ite, ↓drop_cond, ↓resState_ite, ↓resState_next, ite_self, cond_self, true_or, or_true, false_or, or_false, implies_true, ↓foldl_drop, ↓foldl_fst_drop] | split)

theorem refreshVeneer_drop {fm : Nat} (s : State) (c : ChainId) (hfm : fm &&& 3145728 = 3145728) :
    (refreshVeneer s c).drop fm = s.drop fm := by
  refine drop_sub hfm ?_
  unfold refreshVeneer
  repeat' (first | simp only [↓State.onEs_drop, id_eq, Nat.reduceAnd, Nat.reduceEqDiff, ↓drop_ite, ↓drop_fst_ite, ↓drop_cond, ↓resState_ite, ↓resState_next, ite_self, cond_self, true_or, or_true, false_or, or_false, implies_true, ↓foldl_drop, ↓foldl_fst_drop] | split)

theorem countMissing_drop {fm : Nat} (s : State) (c : ChainId) (hfm : fm &&& 786432 = 786432) :
    (countMissing s c).drop fm = s.drop fm := by
  refine drop_sub hfm ?_
  unfold countMissing
  repeat' (first | simp only [↓State.onSen_drop, id_eq, Nat.reduceAnd, Nat.reduceEqDiff, ↓drop_ite, ↓drop_fst_ite, ↓drop_cond, ↓resState_ite, ↓resState_next, ite_self, cond_self, true_or, or_true, false_or, or_false, implies_true, ↓foldl_drop, ↓foldl_fst_drop] | split)

theorem pushSnapshot_drop {fm : Nat} (s : State) (c : ChainId) (x : Snapshot) (hfm : fm &&& 3145736 = 3145736) :
    (pushSnapshot s c x).drop fm = s.drop fm := by
  refine drop_sub hfm ?_
  unfold pushSnapshot
  repeat' (first | simp only [↓dcqFull_drop, ↓State.onEs_drop, id_eq, Nat.reduceAnd, Nat.reduceEqDiff, ↓drop_ite, ↓drop_fst_ite, ↓drop_cond, ↓resState_ite, ↓resState_next, ite_self, cond_self, true_or, or_true, false_or, or_false, implies_true, ↓foldl_drop, ↓foldl_fst_drop] | split)

theorem integrate_drop {fm : Nat} (s : State) (c : ChainId) (ts : Nat) (run : Int) (hib : Int) (shunt : List (Nat × Int)) (hfm : fm &&& 3145736 = 3145736) :
    (integrate s c ts run hib shunt).drop fm = s.drop fm := by
  refine drop_sub hfm ?_
  unfold integrate
  repeat' (first | simp only [↓pushSnapshot_drop, ↓State.onEs_drop, id_eq, Nat.reduceAnd, Nat.reduceEqDiff, ↓drop_ite, ↓drop_fst_ite, ↓drop_cond, ↓resState_ite, ↓resState_next, ite_self, cond_self, true_or, or_true, false_or, or_false, implies_true, ↓foldl_drop, ↓foldl_fst_drop] | (refine (foldl_drop (fun _ _ => ?_) _ _).trans ?_) | split)

theorem latchSets_drop {fm : Nat} (s : State) (c : ChainId) (hfm : fm &&& 786432 = 786432) :
    (latchSets s c).drop fm = s.drop fm := by
  refine drop_sub hfm ?_
  unfold latchSets
  repeat' (first | simp only [↓State.onSen_drop, id_eq, Nat.reduceAnd, Nat.reduceEqDiff, ↓drop_ite, ↓drop_fst_ite, ↓drop_cond, ↓resState_ite, ↓resState_next, ite_self, cond_self, true_or, or_true, false_or, or_false, implies_true, ↓foldl_drop, ↓foldl_fst_drop] | split)

theorem filterStrobe_drop {fm : Nat} (s : State) (c : ChainId) (i : Option Int) (hfm : fm &&& 8590721024 = 8590721024) :
    (filterStrobe s c i).drop fm = s.drop fm := by
  refine drop_sub hfm ?_
  unfold filterStrobe
  repeat' (first | simp only [↓logEvent_drop, ↓State.onSen_drop, id_eq, Nat.reduceAnd, Nat.reduceEqDiff, ↓drop_ite, ↓drop_fst_ite, ↓drop_cond, ↓resState_ite, ↓resState_next, ite_self, cond_self, true_or, or_true, false_or, or_false, implies_true, ↓foldl_drop, ↓foldl_fst_drop] | split)

theorem execSampleStrobe_drop {fm : Nat} (c : ChainId) (i : Option Int) (vCap : Option Nat) (vCh : Option Nat) (run : Int) (hib : Int) (shunt : List (Nat × Int)) (s : State) (hfm : fm &&& 77313540616 = 77313540616) :
    (resState (execSampleStrobe c i vCap vCh run hib shunt s) s).drop fm = s.drop fm := by
  refine drop_sub hfm ?_
  unfold execSampleStrobe
  repeat' (first | simp only [↓setVCh_drop, ↓countMissing_drop, ↓latchSets_drop, ↓filterStrobe_drop, ↓integrate_drop, ↓resortChain_drop, ↓refreshSpan_drop, ↓refreshVeneer_drop, ↓State.onMeas_drop, ↓State.onChain_drop, ↓State.onSen_drop, id_eq, Nat.reduceAnd, Nat.reduceEqDiff, ↓drop_ite, ↓drop_fst_ite, ↓drop_cond, ↓resState_ite, ↓resState_next, ite_self, cond_self, true_or, or_true, false_or, or_false, implies_true, ↓foldl_drop, ↓foldl_fst_drop] | split)

theorem execOverBudgetTick_drop {fm : Nat} (c : ChainId) (mean : Int) (s : State) (hfm : fm &&& 8590131200 = 8590131200) :
    (resState (execOverBudgetTick c mean s) s).drop fm = s.drop fm := by
  refine drop_sub hfm ?_
  unfold execOverBudgetTick
  repeat' (first | simp only [↓logEvent_drop, ↓State.onChain_drop, id_eq, Nat.reduceAnd, Nat.reduceEqDiff, ↓drop_ite, ↓drop_fst_ite, ↓drop_cond, ↓resState_ite, ↓resState_next, ite_self, cond_self, true_or, or_true, false_or, or_false, implies_true, ↓foldl_drop, ↓foldl_fst_drop] | split)

theorem refuseChain_drop {fm : Nat} (s : State) (c : ChainId) (code : Nat) (status : Nat) (hfm : fm &&& 8590131200 = 8590131200) :
    (refuseChain s c code status).1.drop fm = s.drop fm := by
  refine drop_sub hfm ?_
  unfold refuseChain
  repeat' (first | simp only [↓logEvent_drop, ↓State.onChain_drop, id_eq, Nat.reduceAnd, Nat.reduceEqDiff, ↓drop_ite, ↓drop_fst_ite, ↓drop_cond, ↓resState_ite, ↓resState_next, ite_self, cond_self, true_or, or_true, false_or, or_false, implies_true, ↓foldl_drop, ↓foldl_fst_drop] | split)

theorem requestDiags_drop {fm : Nat} (s : State) (c : ChainId) (hfm : fm &&& 786432 = 786432) :
    (requestDiags s c).drop fm = s.drop fm := by
  refine drop_sub hfm ?_
  unfold requestDiags
  repeat' (first | simp only [↓sendSrq_drop, id_eq, Nat.reduceAnd, Nat.reduceEqDiff, ↓drop_ite, ↓drop_fst_ite, ↓drop_cond, ↓resState_ite, ↓resState_next, ite_self, cond_self, true_or, or_true, false_or, or_false, implies_true, ↓foldl_drop, ↓foldl_fst_drop] | (refine (foldl_drop (fun _ _ => ?_) _ _).trans ?_) | split)

theorem startConnect_drop {fm : Nat} (s : State) (c : ChainId) (preOnly : Bool) (hfm : fm &&& 983040 = 983040) :
    (startConnect s c preOnly).drop fm = s.drop fm := by
  refine drop_sub hfm ?_
  unfold startConnect
  repeat' (first | simp only [↓requestDiags_drop, ↓State.onChain_drop, ↓State.onRec_drop, id_eq, Nat.reduceAnd, Nat.reduceEqDiff, ↓drop_ite, ↓drop_fst_ite, ↓drop_cond, ↓resState_ite, ↓resState_next, ite_self, cond_self, true_or, or_true, false_or, or_false, implies_true, ↓foldl_drop, ↓foldl_fst_drop] | (refine (foldl_drop (fun _ _ => ?_) _ _).trans ?_) | split)

theorem beginConnect_drop {fm : Nat} (s : State) (c : ChainId) (hfm : fm &&& 12961415168 = 12961415168) :
    (beginConnect s c).drop fm = s.drop fm := by
  refine drop_sub hfm ?_
  unfold beginConnect
  repeat' (first | simp only [↓abortConnect_drop, ↓logEvent_drop, ↓setCoil_drop, ↓State.onChain_drop, id_eq, Nat.reduceAnd, Nat.reduceEqDiff, ↓drop_ite, ↓drop_fst_ite, ↓drop_cond, ↓resState_ite, ↓resState_next, ite_self, cond_self, true_or, or_true, false_or, or_false, implies_true, ↓foldl_drop, ↓foldl_fst_drop] | split)

theorem opChaConnect_drop {fm : Nat} (c : ChainId) (s : State) (hfm : fm &&& 8590917632 = 8590917632) :
    (opChaConnect c s).1.drop fm = s.drop fm := by
  refine drop_sub hfm ?_
  unfold opChaConnect
  repeat' (first | simp only [↓refuseChain_drop, ↓startConnect_drop, id_eq, Nat.reduceAnd, Nat.reduceEqDiff, ↓drop_ite, ↓drop_fst_ite, ↓drop_cond, ↓resState_ite, ↓resState_next, ite_self, cond_self, true_or, or_true, false_or, or_false, implies_true, ↓foldl_drop, ↓foldl_fst_drop] | split)

theorem enterRun_drop {fm : Nat} (s : State) (c : ChainId) (hfm : fm &&& 196608 = 196608) :
    (enterRun s c).drop fm = s.drop fm := by
  refine drop_sub hfm ?_
  unfold enterRun
  repeat' (first | simp only [↓State.onChain_drop, id_eq, Nat.reduceAnd, Nat.reduceEqDiff, ↓drop_ite, ↓drop_fst_ite, ↓drop_cond, ↓resState_ite, ↓resState_next, ite_self, cond_self, true_or, or_true, false_or, or_false, implies_true, ↓foldl_drop, ↓foldl_fst_drop] | split)

theorem opChaRun_drop {fm : Nat} (c : ChainId) (s : State) (hfm : fm &&& 8590131200 = 8590131200) :
    (opChaRun c s).1.drop fm = s.drop fm := by
  refine drop_sub hfm ?_
  unfold opChaRun
  repeat' (first | simp only [↓refuseChain_drop, ↓enterRun_drop, id_eq, Nat.reduceAnd, Nat.reduceEqDiff, ↓drop_ite, ↓drop_fst_ite, ↓drop_cond, ↓resState_ite, ↓resState_next, ite_self, cond_self, true_or, or_true, false_or, or_false, implies_true, ↓foldl_drop, ↓foldl_fst_drop] | split)

theorem stationZero_drop {fm : Nat} (s : State) (c : ChainId) (opens : Bool) (hfm : fm &&& 12960628736 = 12960628736) :
    (stationZero s c opens).drop fm = s.drop fm := by
  refine drop_sub hfm ?_
  unfold stationZero
  repeat' (first | simp only [↓endLearn_drop, ↓State.onChain_drop, id_eq, Nat.reduceAnd, Nat.reduceEqDiff, ↓drop_ite, ↓drop_fst_ite, ↓drop_cond, ↓resState_ite, ↓resState_next, ite_self, cond_self, true_or, or_true, false_or, or_false, implies_true, ↓foldl_drop, ↓foldl_fst_drop] | split)

theorem opChaBlock_drop {fm : Nat} (c : ChainId) (s : State) (hfm : fm &&& 12961415168 = 12961415168) :
    (opChaBlock c s).1.drop fm = s.drop fm := by
  refine drop_sub hfm ?_
  unfold opChaBlock
  repeat' (first | simp only [↓refuseChain_drop, ↓stationZero_drop, ↓abortConnect_drop, id_eq, Nat.reduceAnd, Nat.reduceEqDiff, ↓drop_ite, ↓drop_fst_ite, ↓drop_cond, ↓resState_ite, ↓resState_next, ite_self, cond_self, true_or, or_true, false_or, or_false, implies_true, ↓foldl_drop, ↓foldl_fst_drop] | split)

theorem opChaDisconnect_drop {fm : Nat} (c : ChainId) (s : State) (hfm : fm &&& 12961415168 = 12961415168) :
    (opChaDisconnect c s).1.drop fm = s.drop fm := by
  refine drop_sub hfm ?_
  unfold opChaDisconnect
  repeat' (first | simp only [↓refuseChain_drop, ↓startOpening_drop, ↓stationZero_drop, ↓abortConnect_drop, ↓State.onChain_drop, id_eq, Nat.reduceAnd, Nat.reduceEqDiff, ↓drop_ite, ↓drop_fst_ite, ↓drop_cond, ↓resState_ite, ↓resState_next, ite_self, cond_self, true_or, or_true, false_or, or_false, implies_true, ↓foldl_drop, ↓foldl_fst_drop] | split)

theorem execChaCmdConnect_drop {fm : Nat} (p : Requester) (c : ChainId) (s : State) (hfm : fm &&& 148177354752 = 148177354752) :
    (resState (execChaCmdConnect p c s) s).drop fm = s.drop fm := by
  refine drop_sub hfm ?_
  unfold execChaCmdConnect
  repeat' (first | simp only [↓opChaConnect_drop, id_eq, Nat.reduceAnd, Nat.reduceEqDiff, ↓drop_ite, ↓drop_fst_ite, ↓drop_cond, ↓resState_ite, ↓resState_next, ite_self, cond_self, true_or, or_true, false_or, or_false, implies_true, ↓foldl_drop, ↓foldl_fst_drop] | (refine (regCmd_drop (by decide) (fun _ => ?_)).trans ?_) | (refine (withRight_drop (by decide) (fun _ => ?_)).trans ?_) | split)

theorem execChaCmdRun_drop {fm : Nat} (p : Requester) (c : ChainId) (s : State) (hfm : fm &&& 148176568320 = 148176568320) :
    (resState (execChaCmdRun p c s) s).drop fm = s.drop fm := by
  refine drop_sub hfm ?_
  unfold execChaCmdRun
  repeat' (first | simp only [↓opChaRun_drop, id_eq, Nat.reduceAnd, Nat.reduceEqDiff, ↓drop_ite, ↓drop_fst_ite, ↓drop_cond, ↓resState_ite, ↓resState_next, ite_self, cond_self, true_or, or_true, false_or, or_false, implies_true, ↓foldl_drop, ↓foldl_fst_drop] | (refine (regCmd_drop (by decide) (fun _ => ?_)).trans ?_) | (refine (withRight_drop (by decide) (fun _ => ?_)).trans ?_) | split)

theorem execChaCmdBlock_drop {fm : Nat} (p : Requester) (c : ChainId) (s : State) (hfm : fm &&& 152547852288 = 152547852288) :
    (resState (execChaCmdBlock p c s) s).drop fm = s.drop fm := by
  refine drop_sub hfm ?_
  unfold execChaCmdBlock
  repeat' (first | simp only [↓opChaBlock_drop, id_eq, Nat.reduceAnd, Nat.reduceEqDiff, ↓drop_ite, ↓drop_fst_ite, ↓drop_cond, ↓resState_ite, ↓resState_next, ite_self, cond_self, true_or, or_true, false_or, or_false, implies_true, ↓foldl_drop, ↓foldl_fst_drop] | (refine (regCmd_drop (by decide) (fun _ => ?_)).trans ?_) | (refine (withRight_drop (by decide) (fun _ => ?_)).trans ?_) | split)

theorem execChaCmdDisconnect_drop {fm : Nat} (p : Requester) (c : ChainId) (s : State) (hfm : fm &&& 152547852288 = 152547852288) :
    (resState (execChaCmdDisconnect p c s) s).drop fm = s.drop fm := by
  refine drop_sub hfm ?_
  unfold execChaCmdDisconnect
  repeat' (first | simp only [↓opChaDisconnect_drop, id_eq, Nat.reduceAnd, Nat.reduceEqDiff, ↓drop_ite, ↓drop_fst_ite, ↓drop_cond, ↓resState_ite, ↓resState_next, ite_self, cond_self, true_or, or_true, false_or, or_false, implies_true, ↓foldl_drop, ↓foldl_fst_drop] | (refine (regCmd_drop (by decide) (fun _ => ?_)).trans ?_) | (refine (withRight_drop (by decide) (fun _ => ?_)).trans ?_) | split)

theorem connected_drop {fm : Nat} (s : State) (c : ChainId) (hfm : fm &&& 12961415168 = 12961415168) :
    (connected s c).drop fm = s.drop fm := by
  refine drop_sub hfm ?_
  unfold connected
  repeat' (first | simp only [↓enterRun_drop, ↓logWide_drop, ↓startOpening_drop, ↓State.onChain_drop, id_eq, Nat.reduceAnd, Nat.reduceEqDiff, ↓drop_ite, ↓drop_fst_ite, ↓drop_cond, ↓resState_ite, ↓resState_next, ite_self, cond_self, true_or, or_true, false_or, or_false, implies_true, ↓foldl_drop, ↓foldl_fst_drop] | split)

theorem execConnectStepTimer_drop {fm : Nat} (c : ChainId) (s : State) (hfm : fm &&& 81680891904 = 81680891904) :
    (resState (execConnectStepTimer c s) s).drop fm = s.drop fm := by
  refine drop_sub hfm ?_
  unfold execConnectStepTimer
  repeat' (first | simp only [↓beginConnect_drop, ↓requestDiags_drop, ↓setCoil_drop, ↓nextFree_drop, ↓connected_drop, ↓State.onChain_drop, id_eq, Nat.reduceAnd, Nat.reduceEqDiff, ↓drop_ite, ↓drop_fst_ite, ↓drop_cond, ↓resState_ite, ↓resState_next, ite_self, cond_self, true_or, or_true, false_or, or_false, implies_true, ↓foldl_drop, ↓foldl_fst_drop] | split)

theorem execPrechargeTargetReached_drop {fm : Nat} (c : ChainId) (s : State) (hfm : fm &&& 67305472 = 67305472) :
    (resState (execPrechargeTargetReached c s) s).drop fm = s.drop fm := by
  refine drop_sub hfm ?_
  unfold execPrechargeTargetReached
  repeat' (first | simp only [↓setCoil_drop, ↓State.onChain_drop, id_eq, Nat.reduceAnd, Nat.reduceEqDiff, ↓drop_ite, ↓drop_fst_ite, ↓drop_cond, ↓resState_ite, ↓resState_next, ite_self, cond_self, true_or, or_true, false_or, or_false, implies_true, ↓foldl_drop, ↓foldl_fst_drop] | split)

theorem execPrechargeTimeout_drop {fm : Nat} (c : ChainId) (s : State) (hfm : fm &&& 12961415168 = 12961415168) :
    (resState (execPrechargeTimeout c s) s).drop fm = s.drop fm := by
  refine drop_sub hfm ?_
  unfold execPrechargeTimeout
  repeat' (first | simp only [↓logEvent_drop, ↓abortConnect_drop, ↓State.onChain_drop, id_eq, Nat.reduceAnd, Nat.reduceEqDiff, ↓drop_ite, ↓drop_fst_ite, ↓drop_cond, ↓resState_ite, ↓resState_next, ite_self, cond_self, true_or, or_true, false_or, or_false, implies_true, ↓foldl_drop, ↓foldl_fst_drop] | split)

theorem execPrechargeCooldownEnd_drop {fm : Nat} (c : ChainId) (s : State) (hfm : fm &&& 983040 = 983040) :
    (resState (execPrechargeCooldownEnd c s) s).drop fm = s.drop fm := by
  refine drop_sub hfm ?_
  unfold execPrechargeCooldownEnd
  repeat' (first | simp only [↓startConnect_drop, ↓State.onChain_drop, id_eq, Nat.reduceAnd, Nat.reduceEqDiff, ↓drop_ite, ↓drop_fst_ite, ↓drop_cond, ↓resState_ite, ↓resState_next, ite_self, cond_self, true_or, or_true, false_or, or_false, implies_true, ↓foldl_drop, ↓foldl_fst_drop] | split)

theorem execZeroingComplete_drop {fm : Nat} (c : ChainId) (s : State) (hfm : fm &&& 12961415168 = 12961415168) :
    (resState (execZeroingComplete c s) s).drop fm = s.drop fm := by
  refine drop_sub hfm ?_
  unfold execZeroingComplete
  repeat' (first | simp only [↓startOpening_drop, ↓enterBlock_drop, id_eq, Nat.reduceAnd, Nat.reduceEqDiff, ↓drop_ite, ↓drop_fst_ite, ↓drop_cond, ↓resState_ite, ↓resState_next, ite_self, cond_self, true_or, or_true, false_or, or_false, implies_true, ↓foldl_drop, ↓foldl_fst_drop] | split)

theorem execProtectiveZeroBlock_drop {fm : Nat} (c : ChainId) (s : State) (hfm : fm &&& 150400368640 = 150400368640) :
    (resState (execProtectiveZeroBlock c s) s).drop fm = s.drop fm := by
  refine drop_sub hfm ?_
  unfold execProtectiveZeroBlock
  repeat' (first | simp only [↓blockAll_drop, ↓startOpening_drop, ↓enterBlock_drop, ↓State.onChain_drop, id_eq, Nat.reduceAnd, Nat.reduceEqDiff, ↓drop_ite, ↓drop_fst_ite, ↓drop_cond, ↓resState_ite, ↓resState_next, ite_self, cond_self, true_or, or_true, false_or, or_false, implies_true, ↓foldl_drop, ↓foldl_fst_drop] | split)

theorem finishOpen_drop {fm : Nat} (s : State) (c : ChainId) (forced : Bool) (hfm : fm &&& 8590131200 = 8590131200) :
    (finishOpen s c forced).drop fm = s.drop fm := by
  refine drop_sub hfm ?_
  unfold finishOpen
  repeat' (first | simp only [↓logEvent_drop, ↓State.onChain_drop, id_eq, Nat.reduceAnd, Nat.reduceEqDiff, ↓drop_ite, ↓drop_fst_ite, ↓drop_cond, ↓resState_ite, ↓resState_next, ite_self, cond_self, true_or, or_true, false_or, or_false, implies_true, ↓foldl_drop, ↓foldl_fst_drop] | split)

theorem weldFound_drop {fm : Nat} (s : State) (c : ChainId) (k : Nat) (hfm : fm &&& 6197731110912 = 6197731110912) :
    (weldFound s c k).drop fm = s.drop fm := by
  refine drop_sub hfm ?_
  unfold weldFound
  repeat' (first | simp only [↓logEvent_drop, ↓floorBypass_drop, ↓raiseEvent_drop, ↓State.onChain_drop, id_eq, Nat.reduceAnd, Nat.reduceEqDiff, ↓drop_ite, ↓drop_fst_ite, ↓drop_cond, ↓resState_ite, ↓resState_next, ite_self, cond_self, true_or, or_true, false_or, or_false, implies_true, ↓foldl_drop, ↓foldl_fst_drop] | split)

theorem judgeTest1_drop {fm : Nat} (s : State) (c : ChainId) (hfm : fm &&& 6197731110912 = 6197731110912) :
    (judgeTest1 s c).drop fm = s.drop fm := by
  refine drop_sub hfm ?_
  unfold judgeTest1
  repeat' (first | simp only [↓weldFound_drop, id_eq, Nat.reduceAnd, Nat.reduceEqDiff, ↓drop_ite, ↓drop_fst_ite, ↓drop_cond, ↓resState_ite, ↓resState_next, ite_self, cond_self, true_or, or_true, false_or, or_false, implies_true, ↓foldl_drop, ↓foldl_fst_drop] | split)

theorem judgeTest2_drop {fm : Nat} (s : State) (c : ChainId) (hfm : fm &&& 6197731110912 = 6197731110912) :
    (judgeTest2 s c).drop fm = s.drop fm := by
  refine drop_sub hfm ?_
  unfold judgeTest2
  repeat' (first | simp only [↓weldFound_drop, id_eq, Nat.reduceAnd, Nat.reduceEqDiff, ↓drop_ite, ↓drop_fst_ite, ↓drop_cond, ↓resState_ite, ↓resState_next, ite_self, cond_self, true_or, or_true, false_or, or_false, implies_true, ↓foldl_drop, ↓foldl_fst_drop] | split)

theorem execOpeningStepTimer_drop {fm : Nat} (c : ChainId) (s : State) (hfm : fm &&& 6197731110912 = 6197731110912) :
    (resState (execOpeningStepTimer c s) s).drop fm = s.drop fm := by
  refine drop_sub hfm ?_
  unfold execOpeningStepTimer
  repeat' (first | simp only [↓setCoil_drop, ↓judgeTest1_drop, ↓judgeTest2_drop, ↓finishOpen_drop, ↓State.onChain_drop, id_eq, Nat.reduceAnd, Nat.reduceEqDiff, ↓drop_ite, ↓drop_fst_ite, ↓drop_cond, ↓resState_ite, ↓resState_next, ite_self, cond_self, true_or, or_true, false_or, or_false, implies_true, ↓foldl_drop, ↓foldl_fst_drop] | split)

theorem execForcedOpen_drop {fm : Nat} (c : ChainId) (s : State) (hfm : fm &&& 8657240064 = 8657240064) :
    (resState (execForcedOpen c s) s).drop fm = s.drop fm := by
  refine drop_sub hfm ?_
  unfold execForcedOpen
  repeat' (first | simp only [↓logEvent_drop, ↓setCoil_drop, ↓State.onChain_drop, id_eq, Nat.reduceAnd, Nat.reduceEqDiff, ↓drop_ite, ↓drop_fst_ite, ↓drop_cond, ↓resState_ite, ↓resState_next, ite_self, cond_self, true_or, or_true, false_or, or_false, implies_true, ↓foldl_drop, ↓foldl_fst_drop] | split)

theorem keepPark_drop {fm : Nat} (s : State) (c : ChainId) (m : Fin 32) (hfm : fm &&& 4194304 = 4194304) :
    (keepPark s c m).drop fm = s.drop fm := by
  refine drop_sub hfm ?_
  unfold keepPark
  repeat' (first | simp only [↓State.onEst_drop, id_eq, Nat.reduceAnd, Nat.reduceEqDiff, ↓drop_ite, ↓drop_fst_ite, ↓drop_cond, ↓resState_ite, ↓resState_next, ite_self, cond_self, true_or, or_true, false_or, or_false, implies_true, ↓foldl_drop, ↓foldl_fst_drop] | split)

theorem settleDerate_drop {fm : Nat} (s : State) (c : ChainId) (hfm : fm &&& 196608 = 196608) :
    (settleDerate s c).drop fm = s.drop fm := by
  refine drop_sub hfm ?_
  unfold settleDerate
  repeat' (first | simp only [↓State.onChain_drop, id_eq, Nat.reduceAnd, Nat.reduceEqDiff, ↓drop_ite, ↓drop_fst_ite, ↓drop_cond, ↓resState_ite, ↓resState_next, ite_self, cond_self, true_or, or_true, false_or, or_false, implies_true, ↓foldl_drop, ↓foldl_fst_drop] | split)

theorem barPark_drop {fm : Nat} (s : State) (c : ChainId) (m : Fin 32) (hfm : fm &&& 8590131200 = 8590131200) :
    (barPark s c m).drop fm = s.drop fm := by
  refine drop_sub hfm ?_
  unfold barPark
  repeat' (first | simp only [↓logEvent_drop, ↓State.onChain_drop, ↓State.onMod_drop, id_eq, Nat.reduceAnd, Nat.reduceEqDiff, ↓drop_ite, ↓drop_fst_ite, ↓drop_cond, ↓resState_ite, ↓resState_next, ite_self, cond_self, true_or, or_true, false_or, or_false, implies_true, ↓foldl_drop, ↓foldl_fst_drop] | split)

theorem requestPark_drop {fm : Nat} (s : State) (c : ChainId) (m : Fin 32) (cause : Nat) (hfm : fm &&& 8594325504 = 8594325504) :
    (requestPark s c m cause).drop fm = s.drop fm := by
  refine drop_sub hfm ?_
  unfold requestPark
  repeat' (first | simp only [↓keepPark_drop, ↓barPark_drop, ↓State.onMod_drop, id_eq, Nat.reduceAnd, Nat.reduceEqDiff, ↓drop_ite, ↓drop_fst_ite, ↓drop_cond, ↓resState_ite, ↓resState_next, ite_self, cond_self, true_or, or_true, false_or, or_false, implies_true, ↓foldl_drop, ↓foldl_fst_drop] | split)

theorem dropPend_drop {fm : Nat} (s : State) (c : ChainId) (m : Fin 32) (hfm : fm &&& 4390912 = 4390912) :
    (dropPend s c m).drop fm = s.drop fm := by
  refine drop_sub hfm ?_
  unfold dropPend
  repeat' (first | simp only [↓settleDerate_drop, ↓keepPark_drop, ↓State.onMod_drop, id_eq, Nat.reduceAnd, Nat.reduceEqDiff, ↓drop_ite, ↓drop_fst_ite, ↓drop_cond, ↓resState_ite, ↓resState_next, ite_self, cond_self, true_or, or_true, false_or, or_false, implies_true, ↓foldl_drop, ↓foldl_fst_drop] | split)

theorem opChaPark_drop {fm : Nat} (c : ChainId) (m : Fin 32) (s : State) (hfm : fm &&& 8594325504 = 8594325504) :
    (opChaPark c m s).1.drop fm = s.drop fm := by
  refine drop_sub hfm ?_
  unfold opChaPark
  repeat' (first | simp only [↓requestPark_drop, id_eq, Nat.reduceAnd, Nat.reduceEqDiff, ↓drop_ite, ↓drop_fst_ite, ↓drop_cond, ↓resState_ite, ↓resState_next, ite_self, cond_self, true_or, or_true, false_or, or_false, implies_true, ↓foldl_drop, ↓foldl_fst_drop] | split)

theorem execChaParkGo_drop {fm : Nat} (p : Requester) (c : ChainId) (m : Fin 32) (s : State) (hfm : fm &&& 148180762624 = 148180762624) :
    (resState (execChaParkGo p c m s) s).drop fm = s.drop fm := by
  refine drop_sub hfm ?_
  unfold execChaParkGo
  repeat' (first | simp only [↓opChaPark_drop, id_eq, Nat.reduceAnd, Nat.reduceEqDiff, ↓drop_ite, ↓drop_fst_ite, ↓drop_cond, ↓resState_ite, ↓resState_next, ite_self, cond_self, true_or, or_true, false_or, or_false, implies_true, ↓foldl_drop, ↓foldl_fst_drop] | (refine (regCmd_drop (by decide) (fun _ => ?_)).trans ?_) | (refine (withRight_drop (by decide) (fun _ => ?_)).trans ?_) | split)

theorem execParkExecute_drop {fm : Nat} (c : ChainId) (m : Fin 32) (s : State) (hfm : fm &&& 12964823040 = 12964823040) :
    (resState (execParkExecute c m s) s).drop fm = s.drop fm := by
  refine drop_sub hfm ?_
  unfold execParkExecute
  repeat' (first | simp only [↓watchActs_drop, ↓logEvent_drop, ↓settleDerate_drop, ↓keepPark_drop, ↓barPark_drop, ↓State.onMod_drop, ↓State.onChain_drop, id_eq, Nat.reduceAnd, Nat.reduceEqDiff, ↓drop_ite, ↓drop_fst_ite, ↓drop_cond, ↓resState_ite, ↓resState_next, ite_self, cond_self, true_or, or_true, false_or, or_false, implies_true, ↓foldl_drop, ↓foldl_fst_drop] | split)

theorem opUnpark_drop {fm : Nat} (c : ChainId) (m : Fin 32) (s : State) (hfm : fm &&& 8594325504 = 8594325504) :
    (opUnpark c m s).1.drop fm = s.drop fm := by
  refine drop_sub hfm ?_
  unfold opUnpark
  repeat' (first | simp only [↓logEvent_drop, ↓settleDerate_drop, ↓keepPark_drop, ↓dropPend_drop, ↓State.onMod_drop, id_eq, Nat.reduceAnd, Nat.reduceEqDiff, ↓drop_ite, ↓drop_fst_ite, ↓drop_cond, ↓resState_ite, ↓resState_next, ite_self, cond_self, true_or, or_true, false_or, or_false, implies_true, ↓foldl_drop, ↓foldl_fst_drop] | split)

theorem execChaClearUnpark_drop {fm : Nat} (p : Requester) (c : ChainId) (m : Fin 32) (s : State) (hfm : fm &&& 148180762624 = 148180762624) :
    (resState (execChaClearUnpark p c m s) s).drop fm = s.drop fm := by
  refine drop_sub hfm ?_
  unfold execChaClearUnpark
  repeat' (first | simp only [↓opUnpark_drop, id_eq, Nat.reduceAnd, Nat.reduceEqDiff, ↓drop_ite, ↓drop_fst_ite, ↓drop_cond, ↓resState_ite, ↓resState_next, ite_self, cond_self, true_or, or_true, false_or, or_false, implies_true, ↓foldl_drop, ↓foldl_fst_drop] | (refine (regCmd_drop (by decide) (fun _ => ?_)).trans ?_) | (refine (withRight_drop (by decide) (fun _ => ?_)).trans ?_) | split)

theorem opClearWeld_drop {fm : Nat} (c : ChainId) (s : State) (hfm : fm &&& 196608 = 196608) :
    (opClearWeld c s).1.drop fm = s.drop fm := by
  refine drop_sub hfm ?_
  unfold opClearWeld
  repeat' (first | simp only [↓State.onChain_drop, id_eq, Nat.reduceAnd, Nat.reduceEqDiff, ↓drop_ite, ↓drop_fst_ite, ↓drop_cond, ↓resState_ite, ↓resState_next, ite_self, cond_self, true_or, or_true, false_or, or_false, implies_true, ↓foldl_drop, ↓foldl_fst_drop] | split)

theorem execChaClearWeld_drop {fm : Nat} (p : Requester) (c : ChainId) (s : State) (hfm : fm &&& 148176568320 = 148176568320) :
    (resState (execChaClearWeld p c s) s).drop fm = s.drop fm := by
  refine drop_sub hfm ?_
  unfold execChaClearWeld
  repeat' (first | simp only [↓opClearWeld_drop, id_eq, Nat.reduceAnd, Nat.reduceEqDiff, ↓drop_ite, ↓drop_fst_ite, ↓drop_cond, ↓resState_ite, ↓resState_next, ite_self, cond_self, true_or, or_true, false_or, or_false, implies_true, ↓foldl_drop, ↓foldl_fst_drop] | (refine (regCmd_drop (by decide) (fun _ => ?_)).trans ?_) | (refine (withRight_drop (by decide) (fun _ => ?_)).trans ?_) | split)

theorem learnPhase_drop {fm : Nat} (s : State) (c : ChainId) (phase : Nat) (hfm : fm &&& 8590131200 = 8590131200) :
    (learnPhase s c phase).drop fm = s.drop fm := by
  refine drop_sub hfm ?_
  unfold learnPhase
  repeat' (first | simp only [↓logEvent_drop, ↓State.onChain_drop, id_eq, Nat.reduceAnd, Nat.reduceEqDiff, ↓drop_ite, ↓drop_fst_ite, ↓drop_cond, ↓resState_ite, ↓resState_next, ite_self, cond_self, true_or, or_true, false_or, or_false, implies_true, ↓foldl_drop, ↓foldl_fst_drop] | split)

theorem completeLearn_drop {fm : Nat} (s : State) (c : ChainId) (hfm : fm &&& 12960628736 = 12960628736) :
    (completeLearn s c).drop fm = s.drop fm := by
  refine drop_sub hfm ?_
  unfold completeLearn
  repeat' (first | simp only [↓endAct_drop, ↓endLearnCycle_drop, id_eq, Nat.reduceAnd, Nat.reduceEqDiff, ↓drop_ite, ↓drop_fst_ite, ↓drop_cond, ↓resState_ite, ↓resState_next, ite_self, cond_self, true_or, or_true, false_or, or_false, implies_true, ↓foldl_drop, ↓foldl_fst_drop] | (refine (foldl_drop (fun _ _ => ?_) _ _).trans ?_) | split)

theorem execLearnHalfPeriod_drop {fm : Nat} (c : ChainId) (s : State) (hfm : fm &&& 12960628736 = 12960628736) :
    (resState (execLearnHalfPeriod c s) s).drop fm = s.drop fm := by
  refine drop_sub hfm ?_
  unfold execLearnHalfPeriod
  repeat' (first | simp only [↓endLearn_drop, ↓completeLearn_drop, ↓State.onChain_drop, id_eq, Nat.reduceAnd, Nat.reduceEqDiff, ↓drop_ite, ↓drop_fst_ite, ↓drop_cond, ↓resState_ite, ↓resState_next, ite_self, cond_self, true_or, or_true, false_or, or_false, implies_true, ↓foldl_drop, ↓foldl_fst_drop] | split)

end Sys2Proof.Machine
end

