-- ==== Sys2Proof/Laws/FrameSense.lean ====
section
/-! SUPPORT. What the operations and commands of sentinels, accounts, temperatures, local bus and load channels leave unchanged. -/

set_option Elab.async false

set_option linter.unusedSimpArgs false

namespace Sys2Proof.Machine

theorem stateWriteDue_drop {fm : Nat} (s : State) (hfm : fm &&& 4194304 = 4194304) :
    (stateWriteDue s).drop fm = s.drop fm := by
  refine drop_sub hfm ?_
  unfold stateWriteDue
  repeat' (first | simp only [↓State.onEst_drop, id_eq, Nat.reduceAnd, Nat.reduceEqDiff, ↓drop_ite, ↓drop_fst_ite, ↓drop_cond, ↓resState_ite, ↓resState_next, ite_self, cond_self, true_or, or_true, false_or, or_false, implies_true, ↓foldl_drop, ↓foldl_fst_drop] | split)

theorem disqualify_drop {fm : Nat} (s : State) (c : ChainId) (m : Fin 32) (k : Fin 32) (cause : Nat) (hfm : fm &&& 12967968768 = 12967968768) :
    (disqualify s c m k cause).drop fm = s.drop fm := by
  refine drop_sub hfm ?_
  unfold disqualify
  repeat' (first | simp only [↓logEvent_drop, ↓endLearn_drop, ↓State.onAcc_drop, ↓State.onEst_drop, id_eq, Nat.reduceAnd, Nat.reduceEqDiff, ↓drop_ite, ↓drop_fst_ite, ↓drop_cond, ↓resState_ite, ↓resState_next, ite_self, cond_self, true_or, or_true, false_or, or_false, implies_true, ↓foldl_drop, ↓foldl_fst_drop] | split)

theorem closeDisqualified_drop {fm : Nat} (s : State) (c : ChainId) (m : Fin 32) (k : Fin 32) (cause : Nat) (hfm : fm &&& 12967968768 = 12967968768) :
    (closeDisqualified s c m k cause).drop fm = s.drop fm := by
  refine drop_sub hfm ?_
  unfold closeDisqualified
  repeat' (first | simp only [↓disqualify_drop, ↓State.onCell_drop, id_eq, Nat.reduceAnd, Nat.reduceEqDiff, ↓drop_ite, ↓drop_fst_ite, ↓drop_cond, ↓resState_ite, ↓resState_next, ite_self, cond_self, true_or, or_true, false_or, or_false, implies_true, ↓foldl_drop, ↓foldl_fst_drop] | split)

theorem closeModule_drop {fm : Nat} (s : State) (c : ChainId) (cause : Nat) (m : Fin 32) (hfm : fm &&& 12967968768 = 12967968768) :
    (closeModule s c cause m).drop fm = s.drop fm := by
  refine drop_sub hfm ?_
  unfold closeModule
  repeat' (first | simp only [↓closeDisqualified_drop, id_eq, Nat.reduceAnd, Nat.reduceEqDiff, ↓drop_ite, ↓drop_fst_ite, ↓drop_cond, ↓resState_ite, ↓resState_next, ite_self, cond_self, true_or, or_true, false_or, or_false, implies_true, ↓foldl_drop, ↓foldl_fst_drop] | (refine (foldl_drop (fun _ _ => ?_) _ _).trans ?_) | split)

theorem closeAll_drop {fm : Nat} (s : State) (cause : Nat) (hfm : fm &&& 12967968768 = 12967968768) :
    (closeAll s cause).drop fm = s.drop fm := by
  refine drop_sub hfm ?_
  unfold closeAll
  repeat' (first | simp only [↓closeModule_drop, ↓State.forChains_drop, id_eq, Nat.reduceAnd, Nat.reduceEqDiff, ↓drop_ite, ↓drop_fst_ite, ↓drop_cond, ↓resState_ite, ↓resState_next, ite_self, cond_self, true_or, or_true, false_or, or_false, implies_true, ↓foldl_drop, ↓foldl_fst_drop] | (refine (foldl_drop (fun _ _ => ?_) _ _).trans ?_) | (refine (State.forChains_drop (fun _ _ => ?_) _).trans ?_) | split)

theorem learnUpdate_drop {fm : Nat} (s : State) (c : ChainId) (m : Fin 32) (k : Fin 32) (v : Nat) (hfm : fm &&& 8597274624 = 8597274624) :
    (learnUpdate s c m k v).drop fm = s.drop fm := by
  refine drop_sub hfm ?_
  unfold learnUpdate
  repeat' (first | simp only [↓logEvent_drop, ↓stateWriteDue_drop, ↓State.onAcc_drop, ↓State.onEst_drop, ↓State.onCell_drop, id_eq, Nat.reduceAnd, Nat.reduceEqDiff, ↓drop_ite, ↓drop_fst_ite, ↓drop_cond, ↓resState_ite, ↓resState_next, ite_self, cond_self, true_or, or_true, false_or, or_false, implies_true, ↓foldl_drop, ↓foldl_fst_drop] | split)

theorem closeCycle_drop {fm : Nat} (s : State) (c : ChainId) (m : Fin 32) (k : Fin 32) (full : Bool) (conflict : Bool) (hfm : fm &&& 12967968768 = 12967968768) :
    (closeCycle s c m k full conflict).1.drop fm = s.drop fm := by
  refine drop_sub hfm ?_
  unfold closeCycle
  repeat' (first | simp only [↓learnUpdate_drop, ↓disqualify_drop, id_eq, Nat.reduceAnd, Nat.reduceEqDiff, ↓drop_ite, ↓drop_fst_ite, ↓drop_cond, ↓resState_ite, ↓resState_next, ite_self, cond_self, true_or, or_true, false_or, or_false, implies_true, ↓foldl_drop, ↓foldl_fst_drop] | split)

theorem anchorCell_drop {fm : Nat} (s : State) (c : ChainId) (m : Fin 32) (k : Fin 32) (full : Bool) (hfm : fm &&& 12967968768 = 12967968768) :
    (anchorCell s c m k full).1.drop fm = s.drop fm := by
  refine drop_sub hfm ?_
  unfold anchorCell
  repeat' (first | simp only [↓closeCycle_drop, ↓logEvent_drop, ↓stateWriteDue_drop, ↓State.onCell_drop, ↓State.onAcc_drop, id_eq, Nat.reduceAnd, Nat.reduceEqDiff, ↓drop_ite, ↓drop_fst_ite, ↓drop_cond, ↓resState_ite, ↓resState_next, ite_self, cond_self, true_or, or_true, false_or, or_false, implies_true, ↓foldl_drop, ↓foldl_fst_drop] | split)

theorem reanchor_drop {fm : Nat} (s : State) (c : ChainId) (m : Fin 32) (k : Fin 32) (full : Bool) (hfm : fm &&& 12967968768 = 12967968768) :
    (reanchor s c m k full).drop fm = s.drop fm := by
  refine drop_sub hfm ?_
  unfold reanchor
  repeat' (first | simp only [↓closeDisqualified_drop, ↓logEvent_drop, ↓stateWriteDue_drop, ↓State.onCell_drop, ↓State.onAcc_drop, id_eq, Nat.reduceAnd, Nat.reduceEqDiff, ↓drop_ite, ↓drop_fst_ite, ↓drop_cond, ↓resState_ite, ↓resState_next, ite_self, cond_self, true_or, or_true, false_or, or_false, implies_true, ↓foldl_drop, ↓foldl_fst_drop] | split)

theorem resetModule_drop {fm : Nat} (s : State) (c : ChainId) (m : Fin 32) (why : Nat) (hfm : fm &&& 12967968768 = 12967968768) :
    (resetModule s c m why).drop fm = s.drop fm := by
  refine drop_sub hfm ?_
  unfold resetModule
  repeat' (first | simp only [↓closeModule_drop, ↓logEvent_drop, ↓stateWriteDue_drop, ↓State.onAcc_drop, id_eq, Nat.reduceAnd, Nat.reduceEqDiff, ↓drop_ite, ↓drop_fst_ite, ↓drop_cond, ↓resState_ite, ↓resState_next, ite_self, cond_self, true_or, or_true, false_or, or_false, implies_true, ↓foldl_drop, ↓foldl_fst_drop] | split)

theorem checkIdentity_drop {fm : Nat} (s : State) (c : ChainId) (m : Fin 32) (hfm : fm &&& 12967968768 = 12967968768) :
    (checkIdentity s c m).drop fm = s.drop fm := by
  refine drop_sub hfm ?_
  unfold checkIdentity
  repeat' (first | simp only [↓resetModule_drop, ↓logEvent_drop, ↓requestPark_drop, id_eq, Nat.reduceAnd, Nat.reduceEqDiff, ↓drop_ite, ↓drop_fst_ite, ↓drop_cond, ↓resState_ite, ↓resState_next, ite_self, cond_self, true_or, or_true, false_or, or_false, implies_true, ↓foldl_drop, ↓foldl_fst_drop] | split)

theorem drainModule_drop {fm : Nat} (s : State) (c : ChainId) (ms : Nat) (part : Nat) (m : Fin 32) (hfm : fm &&& 3145728 = 3145728) :
    (drainModule s c ms part m).drop fm = s.drop fm := by
  refine drop_sub hfm ?_
  unfold drainModule
  repeat' (first | simp only [↓State.onAcc_drop, id_eq, Nat.reduceAnd, Nat.reduceEqDiff, ↓drop_ite, ↓drop_fst_ite, ↓drop_cond, ↓resState_ite, ↓resState_next, ite_self, cond_self, true_or, or_true, false_or, or_false, implies_true, ↓foldl_drop, ↓foldl_fst_drop] | split)

theorem drainChain_drop {fm : Nat} (s : State) (c : ChainId) (ms : Nat) (hfm : fm &&& 3145728 = 3145728) :
    (drainChain s c ms).drop fm = s.drop fm := by
  refine drop_sub hfm ?_
  unfold drainChain
  repeat' (first | simp only [↓drainModule_drop, id_eq, Nat.reduceAnd, Nat.reduceEqDiff, ↓drop_ite, ↓drop_fst_ite, ↓drop_cond, ↓resState_ite, ↓resState_next, ite_self, cond_self, true_or, or_true, false_or, or_false, implies_true, ↓foldl_drop, ↓foldl_fst_drop] | (refine (foldl_drop (fun _ _ => ?_) _ _).trans ?_) | split)

theorem endAbsence_drop {fm : Nat} (s : State) (c : ChainId) (m : Fin 32) (hfm : fm &&& 3145728 = 3145728) :
    (endAbsence s c m).drop fm = s.drop fm := by
  refine drop_sub hfm ?_
  unfold endAbsence
  repeat' (first | simp only [↓drainModule_drop, ↓State.onAcc_drop, id_eq, Nat.reduceAnd, Nat.reduceEqDiff, ↓drop_ite, ↓drop_fst_ite, ↓drop_cond, ↓resState_ite, ↓resState_next, ite_self, cond_self, true_or, or_true, false_or, or_false, implies_true, ↓foldl_drop, ↓foldl_fst_drop] | split)

theorem gapModule_drop {fm : Nat} (s : State) (c : ChainId) (share : Int) (qGap : Int) (m : Fin 32) (hfm : fm &&& 3145728 = 3145728) :
    (gapModule s c share qGap m).drop fm = s.drop fm := by
  refine drop_sub hfm ?_
  unfold gapModule
  repeat' (first | simp only [↓State.onAcc_drop, id_eq, Nat.reduceAnd, Nat.reduceEqDiff, ↓drop_ite, ↓drop_fst_ite, ↓drop_cond, ↓resState_ite, ↓resState_next, ite_self, cond_self, true_or, or_true, false_or, or_false, implies_true, ↓foldl_drop, ↓foldl_fst_drop] | split)

theorem chargeGap_drop {fm : Nat} (s : State) (c : ChainId) (qGap : Int) (share : Fin 32 → Int) (hfm : fm &&& 3145728 = 3145728) :
    (chargeGap s c qGap share).drop fm = s.drop fm := by
  refine drop_sub hfm ?_
  unfold chargeGap
  repeat' (first | simp only [↓gapModule_drop, id_eq, Nat.reduceAnd, Nat.reduceEqDiff, ↓drop_ite, ↓drop_fst_ite, ↓drop_cond, ↓resState_ite, ↓resState_next, ite_self, cond_self, true_or, or_true, false_or, or_false, implies_true, ↓foldl_drop, ↓foldl_fst_drop] | (refine (foldl_drop (fun _ _ => ?_) _ _).trans ?_) | split)

theorem opSnaWake_drop {fm : Nat} (c : ChainId) (s : State) (hfm : fm &&& 150400368640 = 150400368640) :
    (opSnaWake c s).1.drop fm = s.drop fm := by
  refine drop_sub hfm ?_
  unfold opSnaWake
  repeat' (first | simp only [↓logEvent_drop, ↓watchActs_drop, ↓sendEnds_drop, ↓State.onSen_drop, id_eq, Nat.reduceAnd, Nat.reduceEqDiff, ↓drop_ite, ↓drop_fst_ite, ↓drop_cond, ↓resState_ite, ↓resState_next, ite_self, cond_self, true_or, or_true, false_or, or_false, implies_true, ↓foldl_drop, ↓foldl_fst_drop] | split)

theorem putToSleep_drop {fm : Nat} (s : State) (c : ChainId) (hfm : fm &&& 983040 = 983040) :
    (putToSleep s c).drop fm = s.drop fm := by
  refine drop_sub hfm ?_
  unfold putToSleep
  repeat' (first | simp only [↓State.onSen_drop, ↓State.onChain_drop, id_eq, Nat.reduceAnd, Nat.reduceEqDiff, ↓drop_ite, ↓drop_fst_ite, ↓drop_cond, ↓resState_ite, ↓resState_next, ite_self, cond_self, true_or, or_true, false_or, or_false, implies_true, ↓foldl_drop, ↓foldl_fst_drop] | split)

theorem opSnaSleep_drop {fm : Nat} (c : ChainId) (s : State) (hfm : fm &&& 150400368640 = 150400368640) :
    (opSnaSleep c s).1.drop fm = s.drop fm := by
  refine drop_sub hfm ?_
  unfold opSnaSleep
  repeat' (first | simp only [↓logEvent_drop, ↓watchActs_drop, ↓putToSleep_drop, ↓sendChain_drop, id_eq, Nat.reduceAnd, Nat.reduceEqDiff, ↓drop_ite, ↓drop_fst_ite, ↓drop_cond, ↓resState_ite, ↓resState_next, ite_self, cond_self, true_or, or_true, false_or, or_false, implies_true, ↓foldl_drop, ↓foldl_fst_drop] | split)

theorem execSnaCmdWake_drop {fm : Nat} (p : Requester) (c : ChainId) (s : State) (hfm : fm &&& 152547852288 = 152547852288) :
    (resState (execSnaCmdWake p c s) s).drop fm = s.drop fm := by
  refine drop_sub hfm ?_
  unfold execSnaCmdWake
  repeat' (first | simp only [↓opSnaWake_drop, id_eq, Nat.reduceAnd, Nat.reduceEqDiff, ↓drop_ite, ↓drop_fst_ite, ↓drop_cond, ↓resState_ite, ↓resState_next, ite_self, cond_self, true_or, or_true, false_or, or_false, implies_true, ↓foldl_drop, ↓foldl_fst_drop] | (refine (regCmd_drop (by decide) (fun _ => ?_)).trans ?_) | (refine (withRight_drop (by decide) (fun _ => ?_)).trans ?_) | split)

theorem execSnaCmdSleep_drop {fm : Nat} (p : Requester) (c : ChainId) (s : State) (hfm : fm &&& 152547852288 = 152547852288) :
    (resState (execSnaCmdSleep p c s) s).drop fm = s.drop fm := by
  refine drop_sub hfm ?_
  unfold execSnaCmdSleep
  repeat' (first | simp only [↓opSnaSleep_drop, id_eq, Nat.reduceAnd, Nat.reduceEqDiff, ↓drop_ite, ↓drop_fst_ite, ↓drop_cond, ↓resState_ite, ↓resState_next, ite_self, cond_self, true_or, or_true, false_or, or_false, implies_true, ↓foldl_drop, ↓foldl_fst_drop] | (refine (regCmd_drop (by decide) (fun _ => ?_)).trans ?_) | (refine (withRight_drop (by decide) (fun _ => ?_)).trans ?_) | split)

theorem execEnumStart_drop {fm : Nat} (c : ChainId) (s : State) (hfm : fm &&& 137439739904 = 137439739904) :
    (resState (execEnumStart c s) s).drop fm = s.drop fm := by
  refine drop_sub hfm ?_
  unfold execEnumStart
  repeat' (first | simp only [↓sendSrq_drop, ↓sendEnds_drop, ↓State.onSen_drop, id_eq, Nat.reduceAnd, Nat.reduceEqDiff, ↓drop_ite, ↓drop_fst_ite, ↓drop_cond, ↓resState_ite, ↓resState_next, ite_self, cond_self, true_or, or_true, false_or, or_false, implies_true, ↓foldl_drop, ↓foldl_fst_drop] | (refine (foldl_drop (fun _ _ => ?_) _ _).trans ?_) | split)

theorem badFrame_drop {fm : Nat} (s : State) (c : ChainId) (hfm : fm &&& 786432 = 786432) :
    (badFrame s c).drop fm = s.drop fm := by
  refine drop_sub hfm ?_
  unfold badFrame
  repeat' (first | simp only [↓State.onSen_drop, id_eq, Nat.reduceAnd, Nat.reduceEqDiff, ↓drop_ite, ↓drop_fst_ite, ↓drop_cond, ↓resState_ite, ↓resState_next, ite_self, cond_self, true_or, or_true, false_or, or_false, implies_true, ↓foldl_drop, ↓foldl_fst_drop] | split)

theorem execEnumReturn_drop {fm : Nat} (c : ChainId) (b : List Byte) (s : State) (hfm : fm &&& 786432 = 786432) :
    (resState (execEnumReturn c b s) s).drop fm = s.drop fm := by
  refine drop_sub hfm ?_
  unfold execEnumReturn
  repeat' (first | simp only [↓badFrame_drop, ↓State.onSen_drop, id_eq, Nat.reduceAnd, Nat.reduceEqDiff, ↓drop_ite, ↓drop_fst_ite, ↓drop_cond, ↓resState_ite, ↓resState_next, ite_self, cond_self, true_or, or_true, false_or, or_false, implies_true, ↓foldl_drop, ↓foldl_fst_drop] | split)

theorem configure_drop {fm : Nat} (s : State) (c : ChainId) (m : Fin 32) (hfm : fm &&& 786432 = 786432) :
    (configure s c m).drop fm = s.drop fm := by
  refine drop_sub hfm ?_
  unfold configure
  repeat' (first | simp only [↓sendSrq_drop, id_eq, Nat.reduceAnd, Nat.reduceEqDiff, ↓drop_ite, ↓drop_fst_ite, ↓drop_cond, ↓resState_ite, ↓resState_next, ite_self, cond_self, true_or, or_true, false_or, or_false, implies_true, ↓foldl_drop, ↓foldl_fst_drop] | split)

theorem declareLost_drop {fm : Nat} (s : State) (c : ChainId) (m : Fin 32) (hfm : fm &&& 12961415168 = 12961415168) :
    (declareLost s c m).drop fm = s.drop fm := by
  refine drop_sub hfm ?_
  unfold declareLost
  repeat' (first | simp only [↓watchActs_drop, ↓logEvent_drop, ↓State.onRec_drop, ↓State.onMod_drop, ↓State.onChain_drop, id_eq, Nat.reduceAnd, Nat.reduceEqDiff, ↓drop_ite, ↓drop_fst_ite, ↓drop_cond, ↓resState_ite, ↓resState_next, ite_self, cond_self, true_or, or_true, false_or, or_false, implies_true, ↓foldl_drop, ↓foldl_fst_drop] | split)

theorem unlose_drop {fm : Nat} (s : State) (c : ChainId) (m : Fin 32) (hfm : fm &&& 983040 = 983040) :
    (unlose s c m).drop fm = s.drop fm := by
  refine drop_sub hfm ?_
  unfold unlose
  repeat' (first | simp only [↓State.onRec_drop, ↓State.onMod_drop, id_eq, Nat.reduceAnd, Nat.reduceEqDiff, ↓drop_ite, ↓drop_fst_ite, ↓drop_cond, ↓resState_ite, ↓resState_next, ite_self, cond_self, true_or, or_true, false_or, or_false, implies_true, ↓foldl_drop, ↓foldl_fst_drop] | split)

theorem settleModules_drop {fm : Nat} (s : State) (c : ChainId) (hfm : fm &&& 12968755200 = 12968755200) :
    (settleModules s c).drop fm = s.drop fm := by
  refine drop_sub hfm ?_
  unfold settleModules
  repeat' (first | simp only [↓checkIdentity_drop, ↓unlose_drop, ↓declareLost_drop, id_eq, Nat.reduceAnd, Nat.reduceEqDiff, ↓drop_ite, ↓drop_fst_ite, ↓drop_cond, ↓resState_ite, ↓resState_next, ite_self, cond_self, true_or, or_true, false_or, or_false, implies_true, ↓foldl_drop, ↓foldl_fst_drop] | (refine (foldl_drop (fun _ _ => ?_) _ _).trans ?_) | split)

theorem execEnumerationComplete_drop {fm : Nat} (c : ChainId) (s : State) (hfm : fm &&& 12968755200 = 12968755200) :
    (resState (execEnumerationComplete c s) s).drop fm = s.drop fm := by
  refine drop_sub hfm ?_
  unfold execEnumerationComplete
  repeat' (first | simp only [↓logEvent_drop, ↓settleModules_drop, ↓State.onSen_drop, ↓State.onChain_drop, id_eq, Nat.reduceAnd, Nat.reduceEqDiff, ↓drop_ite, ↓drop_fst_ite, ↓drop_cond, ↓resState_ite, ↓resState_next, ite_self, cond_self, true_or, or_true, false_or, or_false, implies_true, ↓foldl_drop, ↓foldl_fst_drop] | split)

theorem markStrobe_drop {fm : Nat} (s : State) (c : ChainId) (res : Nat) (hfm : fm &&& 786432 = 786432) :
    (markStrobe s c res).drop fm = s.drop fm := by
  refine drop_sub hfm ?_
  unfold markStrobe
  repeat' (first | simp only [↓State.onSen_drop, id_eq, Nat.reduceAnd, Nat.reduceEqDiff, ↓drop_ite, ↓drop_fst_ite, ↓drop_cond, ↓resState_ite, ↓resState_next, ite_self, cond_self, true_or, or_true, false_or, or_false, implies_true, ↓foldl_drop, ↓foldl_fst_drop] | split)

theorem execStrobeLaunch_drop {fm : Nat} (c : ChainId) (seen : Nat) (s : State) (hfm : fm &&& 137439739904 = 137439739904) :
    (resState (execStrobeLaunch c seen s) s).drop fm = s.drop fm := by
  refine drop_sub hfm ?_
  unfold execStrobeLaunch
  repeat' (first | simp only [↓sendChain_drop, ↓markStrobe_drop, id_eq, Nat.reduceAnd, Nat.reduceEqDiff, ↓drop_ite, ↓drop_fst_ite, ↓drop_cond, ↓resState_ite, ↓resState_next, ite_self, cond_self, true_or, or_true, false_or, or_false, implies_true, ↓foldl_drop, ↓foldl_fst_drop] | split)

theorem pingFrom_drop {fm : Nat} (c : ChainId) (s : State) (tail : Bool) (hfm : fm &&& 137439739904 = 137439739904) :
    (pingFrom c s tail).drop fm = s.drop fm := by
  refine drop_sub hfm ?_
  unfold pingFrom
  repeat' (first | simp only [↓send_drop, ↓State.onSen_drop, ↓State.onRec_drop, id_eq, Nat.reduceAnd, Nat.reduceEqDiff, ↓drop_ite, ↓drop_fst_ite, ↓drop_cond, ↓resState_ite, ↓resState_next, ite_self, cond_self, true_or, or_true, false_or, or_false, implies_true, ↓foldl_drop, ↓foldl_fst_drop] | split)

theorem execPingTimer_drop {fm : Nat} (c : ChainId) (s : State) (hfm : fm &&& 137439739904 = 137439739904) :
    (resState (execPingTimer c s) s).drop fm = s.drop fm := by
  refine drop_sub hfm ?_
  unfold execPingTimer
  repeat' (first | simp only [↓pingFrom_drop, id_eq, Nat.reduceAnd, Nat.reduceEqDiff, ↓drop_ite, ↓drop_fst_ite, ↓drop_cond, ↓resState_ite, ↓resState_next, ite_self, cond_self, true_or, or_true, false_or, or_false, implies_true, ↓foldl_drop, ↓foldl_fst_drop] | (refine (foldl_drop (fun _ _ => ?_) _ _).trans ?_) | split)

theorem writeDelay_drop {fm : Nat} (s : State) (c : ChainId) (m : Fin 32) (tail : Bool) (hfm : fm &&& 8590721024 = 8590721024) :
    (writeDelay s c m tail).drop fm = s.drop fm := by
  refine drop_sub hfm ?_
  unfold writeDelay
  repeat' (first | simp only [↓sendSrq_drop, ↓logEvent_drop, ↓State.onRec_drop, id_eq, Nat.reduceAnd, Nat.reduceEqDiff, ↓drop_ite, ↓drop_fst_ite, ↓drop_cond, ↓resState_ite, ↓resState_next, ite_self, cond_self, true_or, or_true, false_or, or_false, implies_true, ↓foldl_drop, ↓foldl_fst_drop] | split)

theorem execPongRx_drop {fm : Nat} (c : ChainId) (b : List Byte) (roundTrip : Nat) (s : State) (hfm : fm &&& 8590721024 = 8590721024) :
    (resState (execPongRx c b roundTrip s) s).drop fm = s.drop fm := by
  refine drop_sub hfm ?_
  unfold execPongRx
  repeat' (first | simp only [↓badFrame_drop, ↓writeDelay_drop, ↓State.onRec_drop, id_eq, Nat.reduceAnd, Nat.reduceEqDiff, ↓drop_ite, ↓drop_fst_ite, ↓drop_cond, ↓resState_ite, ↓resState_next, ite_self, cond_self, true_or, or_true, false_or, or_false, implies_true, ↓foldl_drop, ↓foldl_fst_drop] | split)

theorem takeId_drop {fm : Nat} (s : State) (c : ChainId) (m : Fin 32) (tail : Bool) (data : BitVec 96) (hfm : fm &&& 786432 = 786432) :
    (takeId s c m tail data).drop fm = s.drop fm := by
  refine drop_sub hfm ?_
  unfold takeId
  repeat' (first | simp only [↓sendSrq_drop, ↓configure_drop, ↓State.onSen_drop, ↓State.onRec_drop, id_eq, Nat.reduceAnd, Nat.reduceEqDiff, ↓drop_ite, ↓drop_fst_ite, ↓drop_cond, ↓resState_ite, ↓resState_next, ite_self, cond_self, true_or, or_true, false_or, or_false, implies_true, ↓foldl_drop, ↓foldl_fst_drop] | split)

theorem endBsw_drop {fm : Nat} (s : State) (c : ChainId) (m : Fin 32) (cell : Nat) (mask : BitVec 32) (hfm : fm &&& 77317734400 = 77317734400) :
    (endBsw s c m cell mask).drop fm = s.drop fm := by
  refine drop_sub hfm ?_
  unfold endBsw
  repeat' (first | simp only [↓nextFree_drop, ↓logEvent_drop, ↓requestPark_drop, ↓State.onRec_drop, ↓State.onAcc_drop, id_eq, Nat.reduceAnd, Nat.reduceEqDiff, ↓drop_ite, ↓drop_fst_ite, ↓drop_cond, ↓resState_ite, ↓resState_next, ite_self, cond_self, true_or, or_true, false_or, or_false, implies_true, ↓foldl_drop, ↓foldl_fst_drop] | (refine (foldl_drop (fun _ _ => ?_) _ _).trans ?_) | split)

theorem takeTest_drop {fm : Nat} (s : State) (c : ChainId) (m : Fin 32) (data : BitVec 96) (hfm : fm &&& 77317734400 = 77317734400) :
    (takeTest s c m data).drop fm = s.drop fm := by
  refine drop_sub hfm ?_
  unfold takeTest
  repeat' (first | simp only [↓endBsw_drop, ↓requestPark_drop, ↓logEvent_drop, ↓State.onRec_drop, id_eq, Nat.reduceAnd, Nat.reduceEqDiff, ↓drop_ite, ↓drop_fst_ite, ↓drop_cond, ↓resState_ite, ↓resState_next, ite_self, cond_self, true_or, or_true, false_or, or_false, implies_true, ↓foldl_drop, ↓foldl_fst_drop] | split)

theorem takeConfig_drop {fm : Nat} (s : State) (c : ChainId) (m : Fin 32) (hfm : fm &&& 4294967296 = 4294967296) :
    (takeConfig s c m).drop fm = s.drop fm := by
  refine drop_sub hfm ?_
  unfold takeConfig
  repeat' (first | simp only [↓State.onMnt_drop, id_eq, Nat.reduceAnd, Nat.reduceEqDiff, ↓drop_ite, ↓drop_fst_ite, ↓drop_cond, ↓resState_ite, ↓resState_next, ite_self, cond_self, true_or, or_true, false_or, or_false, implies_true, ↓foldl_drop, ↓foldl_fst_drop] | split)

theorem takeAnswer_drop {fm : Nat} (s : State) (c : ChainId) (x : SrsFrame) (hfm : fm &&& 81612701696 = 81612701696) :
    (takeAnswer s c x).drop fm = s.drop fm := by
  refine drop_sub hfm ?_
  unfold takeAnswer
  repeat' (first | simp only [↓takeId_drop, ↓takeConfig_drop, ↓sendSrq_drop, ↓takeTest_drop, ↓State.onRec_drop, id_eq, Nat.reduceAnd, Nat.reduceEqDiff, ↓drop_ite, ↓drop_fst_ite, ↓drop_cond, ↓resState_ite, ↓resState_next, ite_self, cond_self, true_or, or_true, false_or, or_false, implies_true, ↓foldl_drop, ↓foldl_fst_drop] | split)

theorem execSrsRx_drop {fm : Nat} (c : ChainId) (b : List Byte) (s : State) (hfm : fm &&& 81612701696 = 81612701696) :
    (resState (execSrsRx c b s) s).drop fm = s.drop fm := by
  refine drop_sub hfm ?_
  unfold execSrsRx
  repeat' (first | simp only [↓badFrame_drop, ↓takeAnswer_drop, id_eq, Nat.reduceAnd, Nat.reduceEqDiff, ↓drop_ite, ↓drop_fst_ite, ↓drop_cond, ↓resState_ite, ↓resState_next, ite_self, cond_self, true_or, or_true, false_or, or_false, implies_true, ↓foldl_drop, ↓foldl_fst_drop] | split)

theorem checkEcho_drop {fm : Nat} (s : State) (c : ChainId) (m : Fin 32) (hfm : fm &&& 8590721024 = 8590721024) :
    (checkEcho s c m).drop fm = s.drop fm := by
  refine drop_sub hfm ?_
  unfold checkEcho
  repeat' (first | simp only [↓logEvent_drop, ↓State.onRec_drop, ↓State.onSen_drop, id_eq, Nat.reduceAnd, Nat.reduceEqDiff, ↓drop_ite, ↓drop_fst_ite, ↓drop_cond, ↓resState_ite, ↓resState_next, ite_self, cond_self, true_or, or_true, false_or, or_false, implies_true, ↓foldl_drop, ↓foldl_fst_drop] | split)

theorem takeStatus_drop {fm : Nat} (s : State) (c : ChainId) (m : Fin 32) (old : BitVec 16) (hfm : fm &&& 8595111936 = 8595111936) :
    (takeStatus s c m old).drop fm = s.drop fm := by
  refine drop_sub hfm ?_
  unfold takeStatus
  repeat' (first | simp only [↓logEvent_drop, ↓requestPark_drop, ↓sendSrq_drop, ↓State.onSen_drop, ↓State.onChain_drop, id_eq, Nat.reduceAnd, Nat.reduceEqDiff, ↓drop_ite, ↓drop_fst_ite, ↓drop_cond, ↓resState_ite, ↓resState_next, ite_self, cond_self, true_or, or_true, false_or, or_false, implies_true, ↓foldl_drop, ↓foldl_fst_drop] | split)

theorem takeOpenWire_drop {fm : Nat} (s : State) (c : ChainId) (m : Fin 32) (ow : BitVec 33) (hfm : fm &&& 8595111936 = 8595111936) :
    (takeOpenWire s c m ow).drop fm = s.drop fm := by
  refine drop_sub hfm ?_
  unfold takeOpenWire
  repeat' (first | simp only [↓requestPark_drop, ↓logEvent_drop, ↓dropPend_drop, ↓State.onRec_drop, id_eq, Nat.reduceAnd, Nat.reduceEqDiff, ↓drop_ite, ↓drop_fst_ite, ↓drop_cond, ↓resState_ite, ↓resState_next, ite_self, cond_self, true_or, or_true, false_or, or_false, implies_true, ↓foldl_drop, ↓foldl_fst_drop] | split)

theorem takeAbsence_drop {fm : Nat} (s : State) (c : ChainId) (m : Fin 32) (hfm : fm &&& 12968755200 = 12968755200) :
    (takeAbsence s c m).drop fm = s.drop fm := by
  refine drop_sub hfm ?_
  unfold takeAbsence
  repeat' (first | simp only [↓declareLost_drop, ↓closeModule_drop, ↓logEvent_drop, ↓State.onRec_drop, ↓State.onAcc_drop, id_eq, Nat.reduceAnd, Nat.reduceEqDiff, ↓drop_ite, ↓drop_fst_ite, ↓drop_cond, ↓resState_ite, ↓resState_next, ite_self, cond_self, true_or, or_true, false_or, or_false, implies_true, ↓foldl_drop, ↓foldl_fst_drop] | split)

theorem takeReturn_drop {fm : Nat} (s : State) (c : ChainId) (m : Fin 32) (hfm : fm &&& 4128768 = 4128768) :
    (takeReturn s c m).drop fm = s.drop fm := by
  refine drop_sub hfm ?_
  unfold takeReturn
  repeat' (first | simp only [↓endAbsence_drop, ↓unlose_drop, ↓State.onRec_drop, id_eq, Nat.reduceAnd, Nat.reduceEqDiff, ↓drop_ite, ↓drop_fst_ite, ↓drop_cond, ↓resState_ite, ↓resState_next, ite_self, cond_self, true_or, or_true, false_or, or_false, implies_true, ↓foldl_drop, ↓foldl_fst_drop] | split)

theorem takePresence_drop {fm : Nat} (s : State) (c : ChainId) (m : Fin 32) (hfm : fm &&& 3145728 = 3145728) :
    (takePresence s c m).drop fm = s.drop fm := by
  refine drop_sub hfm ?_
  unfold takePresence
  repeat' (first | simp only [↓endAbsence_drop, id_eq, Nat.reduceAnd, Nat.reduceEqDiff, ↓drop_ite, ↓drop_fst_ite, ↓drop_cond, ↓resState_ite, ↓resState_next, ite_self, cond_self, true_or, or_true, false_or, or_false, implies_true, ↓foldl_drop, ↓foldl_fst_drop] | split)

theorem dropGone_drop {fm : Nat} (s : State) (c : ChainId) (m : Fin 32) (hfm : fm &&& 4390912 = 4390912) :
    (dropGone s c m).drop fm = s.drop fm := by
  refine drop_sub hfm ?_
  unfold dropGone
  repeat' (first | simp only [↓dropPend_drop, id_eq, Nat.reduceAnd, Nat.reduceEqDiff, ↓drop_ite, ↓drop_fst_ite, ↓drop_cond, ↓resState_ite, ↓resState_next, ite_self, cond_self, true_or, or_true, false_or, or_false, implies_true, ↓foldl_drop, ↓foldl_fst_drop] | split)

theorem takeSample_drop {fm : Nat} (s : State) (c : ChainId) (m : Fin 32) (f : SampleFrame) (hfm : fm &&& 12968755200 = 12968755200) :
    (takeSample s c m f).drop fm = s.drop fm := by
  refine drop_sub hfm ?_
  unfold takeSample
  repeat' (first | simp only [↓takeStatus_drop, ↓checkEcho_drop, ↓takeOpenWire_drop, ↓dropGone_drop, ↓takePresence_drop, ↓takeReturn_drop, ↓takeAbsence_drop, ↓State.onRec_drop, id_eq, Nat.reduceAnd, Nat.reduceEqDiff, ↓drop_ite, ↓drop_fst_ite, ↓drop_cond, ↓resState_ite, ↓resState_next, ite_self, cond_self, true_or, or_true, false_or, or_false, implies_true, ↓foldl_drop, ↓foldl_fst_drop] | split)

theorem execSampleRx_drop {fm : Nat} (c : ChainId) (b : List Byte) (s : State) (hfm : fm &&& 12968755200 = 12968755200) :
    (resState (execSampleRx c b s) s).drop fm = s.drop fm := by
  refine drop_sub hfm ?_
  unfold execSampleRx
  repeat' (first | simp only [↓badFrame_drop, ↓takeSample_drop, id_eq, Nat.reduceAnd, Nat.reduceEqDiff, ↓drop_ite, ↓drop_fst_ite, ↓drop_cond, ↓resState_ite, ↓resState_next, ite_self, cond_self, true_or, or_true, false_or, or_false, implies_true, ↓foldl_drop, ↓foldl_fst_drop] | split)

theorem suspectWire_drop {fm : Nat} (c : ChainId) (m : Fin 32) (s : State) (w : Nat) (hfm : fm &&& 8590721024 = 8590721024) :
    (suspectWire c m s w).drop fm = s.drop fm := by
  refine drop_sub hfm ?_
  unfold suspectWire
  repeat' (first | simp only [↓sendSrq_drop, ↓logEvent_drop, ↓State.onRec_drop, id_eq, Nat.reduceAnd, Nat.reduceEqDiff, ↓drop_ite, ↓drop_fst_ite, ↓drop_cond, ↓resState_ite, ↓resState_next, ite_self, cond_self, true_or, or_true, false_or, or_false, implies_true, ↓foldl_drop, ↓foldl_fst_drop] | split)

theorem suspectCell_drop {fm : Nat} (s : State) (c : ChainId) (m : Fin 32) (k : Nat) (hfm : fm &&& 1799688790016 = 1799688790016) :
    (suspectCell s c m k).drop fm = s.drop fm := by
  refine drop_sub hfm ?_
  unfold suspectCell
  repeat' (first | simp only [↓requestPark_drop, ↓raiseEvent_drop, ↓logEvent_drop, id_eq, Nat.reduceAnd, Nat.reduceEqDiff, ↓drop_ite, ↓drop_fst_ite, ↓drop_cond, ↓resState_ite, ↓resState_next, ite_self, cond_self, true_or, or_true, false_or, or_false, implies_true, ↓foldl_drop, ↓foldl_fst_drop] | split)

theorem judgeModule_drop {fm : Nat} (c : ChainId) (s : State) (m : Fin 32) (hfm : fm &&& 1799688790016 = 1799688790016) :
    (judgeModule c s m).drop fm = s.drop fm := by
  refine drop_sub hfm ?_
  unfold judgeModule
  extract_lets r run pairs lone hard s1 s2
  clear_value pairs lone hard
  split
  · rfl
  · refine (foldl_drop (fun t k => suspectCell_drop t c m _ (by decide)) _ _).trans ?_
    have e : s1.drop 1799688790016 = s.drop 1799688790016 := State.onRec_drop s c m _ (by decide)
    exact (foldl_drop (fun t w => suspectWire_drop c m t w (by decide)) _ _).trans e

theorem execSampleSetComplete_drop {fm : Nat} (c : ChainId) (s : State) (hfm : fm &&& 1799688790016 = 1799688790016) :
    (resState (execSampleSetComplete c s) s).drop fm = s.drop fm := by
  refine drop_sub hfm ?_
  unfold execSampleSetComplete
  repeat' (first | simp only [↓judgeModule_drop, id_eq, Nat.reduceAnd, Nat.reduceEqDiff, ↓drop_ite, ↓drop_fst_ite, ↓drop_cond, ↓resState_ite, ↓resState_next, ite_self, cond_self, true_or, or_true, false_or, or_false, implies_true, ↓foldl_drop, ↓foldl_fst_drop] | (refine (foldl_drop (fun _ _ => ?_) _ _).trans ?_) | split)

theorem execOwTestTimer_drop {fm : Nat} (c : ChainId) (s : State) (hfm : fm &&& 786432 = 786432) :
    (resState (execOwTestTimer c s) s).drop fm = s.drop fm := by
  refine drop_sub hfm ?_
  unfold execOwTestTimer
  repeat' (first | simp only [↓sendSrq_drop, ↓State.onSen_drop, id_eq, Nat.reduceAnd, Nat.reduceEqDiff, ↓drop_ite, ↓drop_fst_ite, ↓drop_cond, ↓resState_ite, ↓resState_next, ite_self, cond_self, true_or, or_true, false_or, or_false, implies_true, ↓foldl_drop, ↓foldl_fst_drop] | (refine (foldl_drop (fun _ _ => ?_) _ _).trans ?_) | split)

theorem execSentinelSilent_drop {fm : Nat} (c : ChainId) (m : Fin 32) (s : State) (hfm : fm &&& 12961415168 = 12961415168) :
    (resState (execSentinelSilent c m s) s).drop fm = s.drop fm := by
  refine drop_sub hfm ?_
  unfold execSentinelSilent
  repeat' (first | simp only [↓declareLost_drop, ↓logEvent_drop, id_eq, Nat.reduceAnd, Nat.reduceEqDiff, ↓drop_ite, ↓drop_fst_ite, ↓drop_cond, ↓resState_ite, ↓resState_next, ite_self, cond_self, true_or, or_true, false_or, or_false, implies_true, ↓foldl_drop, ↓foldl_fst_drop] | split)

theorem execLostModulePoll_drop {fm : Nat} (c : ChainId) (m : Fin 32) (s : State) (hfm : fm &&& 786432 = 786432) :
    (resState (execLostModulePoll c m s) s).drop fm = s.drop fm := by
  refine drop_sub hfm ?_
  unfold execLostModulePoll
  repeat' (first | simp only [↓sendSrq_drop, ↓State.onRec_drop, id_eq, Nat.reduceAnd, Nat.reduceEqDiff, ↓drop_ite, ↓drop_fst_ite, ↓drop_cond, ↓resState_ite, ↓resState_next, ite_self, cond_self, true_or, or_true, false_or, or_false, implies_true, ↓foldl_drop, ↓foldl_fst_drop] | split)

theorem execBswTestIssue_drop {fm : Nat} (c : ChainId) (m : Fin 32) (cell : Option (Fin 32)) (s : State) (hfm : fm &&& 786432 = 786432) :
    (resState (execBswTestIssue c m cell s) s).drop fm = s.drop fm := by
  refine drop_sub hfm ?_
  unfold execBswTestIssue
  repeat' (first | simp only [↓sendSrq_drop, ↓State.onRec_drop, id_eq, Nat.reduceAnd, Nat.reduceEqDiff, ↓drop_ite, ↓drop_fst_ite, ↓drop_cond, ↓resState_ite, ↓resState_next, ite_self, cond_self, true_or, or_true, false_or, or_false, implies_true, ↓foldl_drop, ↓foldl_fst_drop] | split)

theorem countModule_drop {fm : Nat} (c : ChainId) (x : Snapshot) (total : Int) (drain : Int) (s : State) (m : Fin 32) (hfm : fm &&& 3145728 = 3145728) :
    (countModule c x total drain s m).drop fm = s.drop fm := by
  refine drop_sub hfm ?_
  unfold countModule
  repeat' (first | simp only [↓State.onAcc_drop, id_eq, Nat.reduceAnd, Nat.reduceEqDiff, ↓drop_ite, ↓drop_fst_ite, ↓drop_cond, ↓resState_ite, ↓resState_next, ite_self, cond_self, true_or, or_true, false_or, or_false, implies_true, ↓foldl_drop, ↓foldl_fst_drop] | split)

theorem conflictCell_drop {fm : Nat} (c : ChainId) (m : Fin 32) (s : State) (k : Fin 32) (hfm : fm &&& 8593080320 = 8593080320) :
    (conflictCell c m s k).drop fm = s.drop fm := by
  refine drop_sub hfm ?_
  unfold conflictCell
  repeat' (first | simp only [↓logEvent_drop, ↓State.onCell_drop, id_eq, Nat.reduceAnd, Nat.reduceEqDiff, ↓drop_ite, ↓drop_fst_ite, ↓drop_cond, ↓resState_ite, ↓resState_next, ite_self, cond_self, true_or, or_true, false_or, or_false, implies_true, ↓foldl_drop, ↓foldl_fst_drop] | split)

theorem limitCell_drop {fm : Nat} (c : ChainId) (m : Fin 32) (s : State) (k : Fin 32) (hfm : fm &&& 12967968768 = 12967968768) :
    (limitCell c m s k).drop fm = s.drop fm := by
  refine drop_sub hfm ?_
  unfold limitCell
  repeat' (first | simp only [↓reanchor_drop, id_eq, Nat.reduceAnd, Nat.reduceEqDiff, ↓drop_ite, ↓drop_fst_ite, ↓drop_cond, ↓resState_ite, ↓resState_next, ite_self, cond_self, true_or, or_true, false_or, or_false, implies_true, ↓foldl_drop, ↓foldl_fst_drop] | split)

theorem releaseHold_drop {fm : Nat} (s : State) (c : ChainId) (m : Fin 32) (hfm : fm &&& 3145728 = 3145728) :
    (releaseHold s c m).drop fm = s.drop fm := by
  refine drop_sub hfm ?_
  unfold releaseHold
  repeat' (first | simp only [↓State.onAcc_drop, id_eq, Nat.reduceAnd, Nat.reduceEqDiff, ↓drop_ite, ↓drop_fst_ite, ↓drop_cond, ↓resState_ite, ↓resState_next, ite_self, cond_self, true_or, or_true, false_or, or_false, implies_true, ↓foldl_drop, ↓foldl_fst_drop] | split)

theorem judgeAccount_drop {fm : Nat} (c : ChainId) (ts : Nat) (s : State) (m : Fin 32) (hfm : fm &&& 12967968768 = 12967968768) :
    (judgeAccount c ts s m).drop fm = s.drop fm := by
  refine drop_sub hfm ?_
  unfold judgeAccount
  repeat' (first | simp only [↓releaseHold_drop, ↓limitCell_drop, ↓conflictCell_drop, id_eq, Nat.reduceAnd, Nat.reduceEqDiff, ↓drop_ite, ↓drop_fst_ite, ↓drop_cond, ↓resState_ite, ↓resState_next, ite_self, cond_self, true_or, or_true, false_or, or_false, implies_true, ↓foldl_drop, ↓foldl_fst_drop] | (refine (foldl_drop (fun _ _ => ?_) _ _).trans ?_) | split)

theorem refreshSoc_drop {fm : Nat} (s : State) (c : ChainId) (hfm : fm &&& 3145728 = 3145728) :
    (refreshSoc s c).drop fm = s.drop fm := by
  refine drop_sub hfm ?_
  unfold refreshSoc
  repeat' (first | simp only [↓State.onEs_drop, id_eq, Nat.reduceAnd, Nat.reduceEqDiff, ↓drop_ite, ↓drop_fst_ite, ↓drop_cond, ↓resState_ite, ↓resState_next, ite_self, cond_self, true_or, or_true, false_or, or_false, implies_true, ↓foldl_drop, ↓foldl_fst_drop] | split)

theorem settleGap_drop {fm : Nat} (s : State) (c : ChainId) (x : Snapshot) (hfm : fm &&& 8597274624 = 8597274624) :
    (settleGap s c x).drop fm = s.drop fm := by
  refine drop_sub hfm ?_
  unfold settleGap
  repeat' (first | simp only [↓chargeGap_drop, ↓logEvent_drop, ↓State.onEst_drop, ↓State.onAcc_drop, ↓State.onEs_drop, id_eq, Nat.reduceAnd, Nat.reduceEqDiff, ↓drop_ite, ↓drop_fst_ite, ↓drop_cond, ↓resState_ite, ↓resState_next, ite_self, cond_self, true_or, or_true, false_or, or_false, implies_true, ↓foldl_drop, ↓foldl_fst_drop] | (refine (foldl_drop (fun _ _ => ?_) _ _).trans ?_) | split)

theorem lostModule_drop {fm : Nat} (c : ChainId) (x : Snapshot) (n : Nat) (dA : Int) (s : State) (m : Fin 32) (hfm : fm &&& 3145728 = 3145728) :
    (lostModule c x n dA s m).drop fm = s.drop fm := by
  refine drop_sub hfm ?_
  unfold lostModule
  repeat' (first | simp only [↓State.onAcc_drop, id_eq, Nat.reduceAnd, Nat.reduceEqDiff, ↓drop_ite, ↓drop_fst_ite, ↓drop_cond, ↓resState_ite, ↓resState_next, ite_self, cond_self, true_or, or_true, false_or, or_false, implies_true, ↓foldl_drop, ↓foldl_fst_drop] | split)

theorem countLost_drop {fm : Nat} (s : State) (c : ChainId) (x : Snapshot) (hfm : fm &&& 7340032 = 7340032) :
    (countLost s c x).drop fm = s.drop fm := by
  refine drop_sub hfm ?_
  unfold countLost
  repeat' (first | simp only [↓lostModule_drop, ↓State.onEst_drop, id_eq, Nat.reduceAnd, Nat.reduceEqDiff, ↓drop_ite, ↓drop_fst_ite, ↓drop_cond, ↓resState_ite, ↓resState_next, ite_self, cond_self, true_or, or_true, false_or, or_false, implies_true, ↓foldl_drop, ↓foldl_fst_drop] | (refine (foldl_drop (fun _ _ => ?_) _ _).trans ?_) | split)

theorem countSnapshot_drop {fm : Nat} (s0 : State) (c : ChainId) (x : Snapshot) (hfm : fm &&& 12967968768 = 12967968768) :
    (countSnapshot s0 c x).drop fm = s0.drop fm := by
  refine drop_sub hfm ?_
  unfold countSnapshot
  repeat' (first | simp only [↓countLost_drop, ↓settleGap_drop, ↓countModule_drop, ↓refreshVeneer_drop, ↓refreshSoc_drop, ↓judgeAccount_drop, ↓State.onEs_drop, ↓State.onEst_drop, id_eq, Nat.reduceAnd, Nat.reduceEqDiff, ↓drop_ite, ↓drop_fst_ite, ↓drop_cond, ↓resState_ite, ↓resState_next, ite_self, cond_self, true_or, or_true, false_or, or_false, implies_true, ↓foldl_drop, ↓foldl_fst_drop] | (refine (foldl_drop (fun _ _ => ?_) _ _).trans ?_) | split)

theorem execEeMillisecondCount_drop {fm : Nat} (c : ChainId) (s : State) (hfm : fm &&& 12967968768 = 12967968768) :
    (resState (execEeMillisecondCount c s) s).drop fm = s.drop fm := by
  refine drop_sub hfm ?_
  unfold execEeMillisecondCount
  repeat' (first | simp only [↓countSnapshot_drop, ↓State.onEs_drop, id_eq, Nat.reduceAnd, Nat.reduceEqDiff, ↓drop_ite, ↓drop_fst_ite, ↓drop_cond, ↓resState_ite, ↓resState_next, ite_self, cond_self, true_or, or_true, false_or, or_false, implies_true, ↓foldl_drop, ↓foldl_fst_drop] | split)

theorem followAnchor_drop {fm : Nat} (s : State) (c : ChainId) (m : Fin 32) (full : Bool) (hfm : fm &&& 8590131200 = 8590131200) :
    (followAnchor s c m full).drop fm = s.drop fm := by
  refine drop_sub hfm ?_
  unfold followAnchor
  repeat' (first | simp only [↓learnPhase_drop, id_eq, Nat.reduceAnd, Nat.reduceEqDiff, ↓drop_ite, ↓drop_fst_ite, ↓drop_cond, ↓resState_ite, ↓resState_next, ite_self, cond_self, true_or, or_true, false_or, or_false, implies_true, ↓foldl_drop, ↓foldl_fst_drop] | split)

theorem execAnchorTimerExpiry_drop {fm : Nat} (c : ChainId) (m : Fin 32) (k : Fin 32) (full : Bool) (s : State) (hfm : fm &&& 12967968768 = 12967968768) :
    (resState (execAnchorTimerExpiry c m k full s) s).drop fm = s.drop fm := by
  refine drop_sub hfm ?_
  unfold execAnchorTimerExpiry
  repeat' (first | simp only [↓followAnchor_drop, ↓anchorCell_drop, id_eq, Nat.reduceAnd, Nat.reduceEqDiff, ↓drop_ite, ↓drop_fst_ite, ↓drop_cond, ↓resState_ite, ↓resState_next, ite_self, cond_self, true_or, or_true, false_or, or_false, implies_true, ↓foldl_drop, ↓foldl_fst_drop] | split)

theorem execOcvRestExpiry_drop {fm : Nat} (c : ChainId) (m : Fin 32) (k : Fin 32) (s : State) (hfm : fm &&& 8593080320 = 8593080320) :
    (resState (execOcvRestExpiry c m k s) s).drop fm = s.drop fm := by
  refine drop_sub hfm ?_
  unfold execOcvRestExpiry
  repeat' (first | simp only [↓logEvent_drop, ↓State.onCell_drop, id_eq, Nat.reduceAnd, Nat.reduceEqDiff, ↓drop_ite, ↓drop_fst_ite, ↓drop_cond, ↓resState_ite, ↓resState_next, ite_self, cond_self, true_or, or_true, false_or, or_false, implies_true, ↓foldl_drop, ↓foldl_fst_drop] | split)

theorem publishChain_drop {fm : Nat} (s : State) (c : ChainId) (hfm : fm &&& 77312753664 = 77312753664) :
    (publishChain s c).drop fm = s.drop fm := by
  refine drop_sub hfm ?_
  unfold publishChain
  repeat' (first | simp only [↓nextFree_drop, ↓refreshSpan_drop, ↓State.onEs_drop, ↓State.onChain_drop, id_eq, Nat.reduceAnd, Nat.reduceEqDiff, ↓drop_ite, ↓drop_fst_ite, ↓drop_cond, ↓resState_ite, ↓resState_next, ite_self, cond_self, true_or, or_true, false_or, or_false, implies_true, ↓foldl_drop, ↓foldl_fst_drop] | split)

theorem execLimitsPublish_drop {fm : Nat} (s : State) (hfm : fm &&& 77316947968 = 77316947968) :
    (resState (execLimitsPublish s) s).drop fm = s.drop fm := by
  refine drop_sub hfm ?_
  unfold execLimitsPublish
  repeat' (first | simp only [↓publishChain_drop, ↓State.forChains_drop, ↓State.onEst_drop, id_eq, Nat.reduceAnd, Nat.reduceEqDiff, ↓drop_ite, ↓drop_fst_ite, ↓drop_cond, ↓resState_ite, ↓resState_next, ite_self, cond_self, true_or, or_true, false_or, or_false, implies_true, ↓foldl_drop, ↓foldl_fst_drop] | (refine (State.forChains_drop (fun _ _ => ?_) _).trans ?_) | split)

theorem execLimitsStale_drop {fm : Nat} (c : ChainId) (s : State) (hfm : fm &&& 8594325504 = 8594325504) :
    (resState (execLimitsStale c s) s).drop fm = s.drop fm := by
  refine drop_sub hfm ?_
  unfold execLimitsStale
  repeat' (first | simp only [↓logEvent_drop, ↓State.onChain_drop, ↓State.onEst_drop, id_eq, Nat.reduceAnd, Nat.reduceEqDiff, ↓drop_ite, ↓drop_fst_ite, ↓drop_cond, ↓resState_ite, ↓resState_next, ite_self, cond_self, true_or, or_true, false_or, or_false, implies_true, ↓foldl_drop, ↓foldl_fst_drop] | split)

theorem balanceModule_drop {fm : Nat} (c : ChainId) (s : State) (m : Fin 32) (hfm : fm &&& 3932160 = 3932160) :
    (balanceModule c s m).drop fm = s.drop fm := by
  refine drop_sub hfm ?_
  unfold balanceModule
  repeat' (first | simp only [↓sendSrq_drop, ↓State.onAcc_drop, ↓State.onRec_drop, id_eq, Nat.reduceAnd, Nat.reduceEqDiff, ↓drop_ite, ↓drop_fst_ite, ↓drop_cond, ↓resState_ite, ↓resState_next, ite_self, cond_self, true_or, or_true, false_or, or_false, implies_true, ↓foldl_drop, ↓foldl_fst_drop] | (refine (foldl_drop (fun _ _ => ?_) _ _).trans ?_) | split)

theorem execBalanceTick_drop {fm : Nat} (c : ChainId) (s : State) (hfm : fm &&& 3932160 = 3932160) :
    (resState (execBalanceTick c s) s).drop fm = s.drop fm := by
  refine drop_sub hfm ?_
  unfold execBalanceTick
  repeat' (first | simp only [↓balanceModule_drop, id_eq, Nat.reduceAnd, Nat.reduceEqDiff, ↓drop_ite, ↓drop_fst_ite, ↓drop_cond, ↓resState_ite, ↓resState_next, ite_self, cond_self, true_or, or_true, false_or, or_false, implies_true, ↓foldl_drop, ↓foldl_fst_drop] | (refine (foldl_drop (fun _ _ => ?_) _ _).trans ?_) | split)

theorem execCheckpointTimer_drop {fm : Nat} (s : State) (hfm : fm &&& 4194304 = 4194304) :
    (resState (execCheckpointTimer s) s).drop fm = s.drop fm := by
  refine drop_sub hfm ?_
  unfold execCheckpointTimer
  repeat' (first | simp only [↓stateWriteDue_drop, ↓State.onEst_drop, id_eq, Nat.reduceAnd, Nat.reduceEqDiff, ↓drop_ite, ↓drop_fst_ite, ↓drop_cond, ↓resState_ite, ↓resState_next, ite_self, cond_self, true_or, or_true, false_or, or_false, implies_true, ↓foldl_drop, ↓foldl_fst_drop] | split)

theorem execCountPeriodTimer_drop {fm : Nat} (s : State) (hfm : fm &&& 4194304 = 4194304) :
    (resState (execCountPeriodTimer s) s).drop fm = s.drop fm := by
  refine drop_sub hfm ?_
  unfold execCountPeriodTimer
  repeat' (first | simp only [↓State.onEst_drop, id_eq, Nat.reduceAnd, Nat.reduceEqDiff, ↓drop_ite, ↓drop_fst_ite, ↓drop_cond, ↓resState_ite, ↓resState_next, ite_self, cond_self, true_or, or_true, false_or, or_false, implies_true, ↓foldl_drop, ↓foldl_fst_drop] | split)

theorem startState_drop {fm : Nat} (s : State) (hfm : fm &&& 4194304 = 4194304) :
    (startState s).drop fm = s.drop fm := by
  refine drop_sub hfm ?_
  unfold startState
  repeat' (first | simp only [↓State.onEst_drop, id_eq, Nat.reduceAnd, Nat.reduceEqDiff, ↓drop_ite, ↓drop_fst_ite, ↓drop_cond, ↓resState_ite, ↓resState_next, ite_self, cond_self, true_or, or_true, false_or, or_false, implies_true, ↓foldl_drop, ↓foldl_fst_drop] | split)

theorem startCount_drop {fm : Nat} (s : State) (hfm : fm &&& 4194304 = 4194304) :
    (startCount s).drop fm = s.drop fm := by
  refine drop_sub hfm ?_
  unfold startCount
  repeat' (first | simp only [↓State.onEst_drop, id_eq, Nat.reduceAnd, Nat.reduceEqDiff, ↓drop_ite, ↓drop_fst_ite, ↓drop_cond, ↓resState_ite, ↓resState_next, ite_self, cond_self, true_or, or_true, false_or, or_false, implies_true, ↓foldl_drop, ↓foldl_fst_drop] | split)

theorem execRecordWriteStart_drop {fm : Nat} (kind : RecKind) (s : State) (hfm : fm &&& 4194304 = 4194304) :
    (resState (execRecordWriteStart kind s) s).drop fm = s.drop fm := by
  refine drop_sub hfm ?_
  unfold execRecordWriteStart
  repeat' (first | simp only [↓startState_drop, ↓startCount_drop, id_eq, Nat.reduceAnd, Nat.reduceEqDiff, ↓drop_ite, ↓drop_fst_ite, ↓drop_cond, ↓resState_ite, ↓resState_next, ite_self, cond_self, true_or, or_true, false_or, or_false, implies_true, ↓foldl_drop, ↓foldl_fst_drop] | split)

theorem opEstCheckpoint_drop {fm : Nat} (s : State) (hfm : fm &&& 4194304 = 4194304) :
    (opEstCheckpoint s).1.drop fm = s.drop fm := by
  refine drop_sub hfm ?_
  unfold opEstCheckpoint
  repeat' (first | simp only [↓stateWriteDue_drop, id_eq, Nat.reduceAnd, Nat.reduceEqDiff, ↓drop_ite, ↓drop_fst_ite, ↓drop_cond, ↓resState_ite, ↓resState_next, ite_self, cond_self, true_or, or_true, false_or, or_false, implies_true, ↓foldl_drop, ↓foldl_fst_drop] | split)

theorem execEstCmdCheckpoint_drop {fm : Nat} (p : Requester) (s : State) (hfm : fm &&& 148180566016 = 148180566016) :
    (resState (execEstCmdCheckpoint p s) s).drop fm = s.drop fm := by
  refine drop_sub hfm ?_
  unfold execEstCmdCheckpoint
  repeat' (first | simp only [↓opEstCheckpoint_drop, id_eq, Nat.reduceAnd, Nat.reduceEqDiff, ↓drop_ite, ↓drop_fst_ite, ↓drop_cond, ↓resState_ite, ↓resState_next, ite_self, cond_self, true_or, or_true, false_or, or_false, implies_true, ↓foldl_drop, ↓foldl_fst_drop] | (refine (regCmd_drop (by decide) (fun _ => ?_)).trans ?_) | (refine (withRight_drop (by decide) (fun _ => ?_)).trans ?_) | split)

theorem opEstReset_drop {fm : Nat} (c : ChainId) (m : Fin 32) (s : State) (hfm : fm &&& 12967968768 = 12967968768) :
    (opEstReset c m s).1.drop fm = s.drop fm := by
  refine drop_sub hfm ?_
  unfold opEstReset
  repeat' (first | simp only [↓resetModule_drop, id_eq, Nat.reduceAnd, Nat.reduceEqDiff, ↓drop_ite, ↓drop_fst_ite, ↓drop_cond, ↓resState_ite, ↓resState_next, ite_self, cond_self, true_or, or_true, false_or, or_false, implies_true, ↓foldl_drop, ↓foldl_fst_drop] | split)

theorem execEstCmdResetModule_drop {fm : Nat} (p : Requester) (c : ChainId) (m : Fin 32) (s : State) (hfm : fm &&& 152554405888 = 152554405888) :
    (resState (execEstCmdResetModule p c m s) s).drop fm = s.drop fm := by
  refine drop_sub hfm ?_
  unfold execEstCmdResetModule
  repeat' (first | simp only [↓opEstReset_drop, id_eq, Nat.reduceAnd, Nat.reduceEqDiff, ↓drop_ite, ↓drop_fst_ite, ↓drop_cond, ↓resState_ite, ↓resState_next, ite_self, cond_self, true_or, or_true, false_or, or_false, implies_true, ↓foldl_drop, ↓foldl_fst_drop] | (refine (regCmd_drop (by decide) (fun _ => ?_)).trans ?_) | (refine (withRight_drop (by decide) (fun _ => ?_)).trans ?_) | split)

theorem opVnrPreset_drop {fm : Nat} (c : ChainId) (s : State) (hfm : fm &&& 8593080320 = 8593080320) :
    (opVnrPreset c s).1.drop fm = s.drop fm := by
  refine drop_sub hfm ?_
  unfold opVnrPreset
  repeat' (first | simp only [↓logEvent_drop, ↓State.onEs_drop, id_eq, Nat.reduceAnd, Nat.reduceEqDiff, ↓drop_ite, ↓drop_fst_ite, ↓drop_cond, ↓resState_ite, ↓resState_next, ite_self, cond_self, true_or, or_true, false_or, or_false, implies_true, ↓foldl_drop, ↓foldl_fst_drop] | split)

theorem execVnrCtrlPreset_drop {fm : Nat} (p : Requester) (c : ChainId) (s : State) (hfm : fm &&& 148179517440 = 148179517440) :
    (resState (execVnrCtrlPreset p c s) s).drop fm = s.drop fm := by
  refine drop_sub hfm ?_
  unfold execVnrCtrlPreset
  repeat' (first | simp only [↓opVnrPreset_drop, id_eq, Nat.reduceAnd, Nat.reduceEqDiff, ↓drop_ite, ↓drop_fst_ite, ↓drop_cond, ↓resState_ite, ↓resState_next, ite_self, cond_self, true_or, or_true, false_or, or_false, implies_true, ↓foldl_drop, ↓foldl_fst_drop] | (refine (regCmd_drop (by decide) (fun _ => ?_)).trans ?_) | (refine (withRight_drop (by decide) (fun _ => ?_)).trans ?_) | split)

theorem onTm_drop {fm : Nat} (s : State) (c : ChainId) (m : Fin 32) (f : ThmMod → ThmMod) (hfm : fm &&& 8388608 = 8388608) :
    (onTm s c m f).drop fm = s.drop fm := by
  refine drop_sub hfm ?_
  unfold onTm
  repeat' (first | simp only [↓State.onThm_drop, id_eq, Nat.reduceAnd, Nat.reduceEqDiff, ↓drop_ite, ↓drop_fst_ite, ↓drop_cond, ↓resState_ite, ↓resState_next, ite_self, cond_self, true_or, or_true, false_or, or_false, implies_true, ↓foldl_drop, ↓foldl_fst_drop] | (refine (State.onThm_drop (by decide) ?_ ?_ ?_ ?_ ).trans ?_) | with_reducible rfl | exact Or.inl (by decide) | refine Or.inr fun _ => ?_ | (intro _; split <;> with_reducible rfl) | split)

theorem excludeSensor_drop {fm : Nat} (c : ChainId) (m : Fin 32) (implaus : Bool) (s : State) (t : Fin 8) (hfm : fm &&& 8598323200 = 8598323200) :
    (excludeSensor c m implaus s t).drop fm = s.drop fm := by
  refine drop_sub hfm ?_
  unfold excludeSensor
  repeat' (first | simp only [↓onTm_drop, ↓logEvent_drop, ↓State.onThm_drop, id_eq, Nat.reduceAnd, Nat.reduceEqDiff, ↓drop_ite, ↓drop_fst_ite, ↓drop_cond, ↓resState_ite, ↓resState_next, ite_self, cond_self, true_or, or_true, false_or, or_false, implies_true, ↓foldl_drop, ↓foldl_fst_drop] | (refine (State.onThm_drop (by decide) ?_ ?_ ?_ ?_ ).trans ?_) | with_reducible rfl | exact Or.inl (by decide) | refine Or.inr fun _ => ?_ | (intro _; split <;> with_reducible rfl) | split)

theorem judgeSensors_drop {fm : Nat} (c : ChainId) (s : State) (m : Fin 32) (hfm : fm &&& 8598323200 = 8598323200) :
    (judgeSensors c s m).drop fm = s.drop fm := by
  refine drop_sub hfm ?_
  unfold judgeSensors
  repeat' (first | simp only [↓excludeSensor_drop, ↓onTm_drop, id_eq, Nat.reduceAnd, Nat.reduceEqDiff, ↓drop_ite, ↓drop_fst_ite, ↓drop_cond, ↓resState_ite, ↓resState_next, ite_self, cond_self, true_or, or_true, false_or, or_false, implies_true, ↓foldl_drop, ↓foldl_fst_drop] | (refine (foldl_drop (fun _ _ => ?_) _ _).trans ?_) | split)

theorem execSensorReturn_drop {fm : Nat} (c : ChainId) (m : Fin 32) (t : Fin 8) (s : State) (hfm : fm &&& 8598323200 = 8598323200) :
    (resState (execSensorReturn c m t s) s).drop fm = s.drop fm := by
  refine drop_sub hfm ?_
  unfold execSensorReturn
  repeat' (first | simp only [↓logEvent_drop, ↓onTm_drop, id_eq, Nat.reduceAnd, Nat.reduceEqDiff, ↓drop_ite, ↓drop_fst_ite, ↓drop_cond, ↓resState_ite, ↓resState_next, ite_self, cond_self, true_or, or_true, false_or, or_false, implies_true, ↓foldl_drop, ↓foldl_fst_drop] | split)

theorem substitute_drop {fm : Nat} (c : ChainId) (before : State) (s : State) (m : Fin 32) (hfm : fm &&& 8598323200 = 8598323200) :
    (substitute c before s m).drop fm = s.drop fm := by
  refine drop_sub hfm ?_
  unfold substitute
  repeat' (first | simp only [↓onTm_drop, ↓logEvent_drop, ↓State.onThm_drop, id_eq, Nat.reduceAnd, Nat.reduceEqDiff, ↓drop_ite, ↓drop_fst_ite, ↓drop_cond, ↓resState_ite, ↓resState_next, ite_self, cond_self, true_or, or_true, false_or, or_false, implies_true, ↓foldl_drop, ↓foldl_fst_drop] | (refine (State.onThm_drop (by decide) ?_ ?_ ?_ ?_ ).trans ?_) | with_reducible rfl | exact Or.inl (by decide) | refine Or.inr fun _ => ?_ | (intro _; split <;> with_reducible rfl) | split)

theorem setFactors_drop {fm : Nat} (c : ChainId) (s : State) (m : Fin 32) (hfm : fm &&& 8388608 = 8388608) :
    (setFactors c s m).drop fm = s.drop fm := by
  refine drop_sub hfm ?_
  unfold setFactors
  repeat' (first | simp only [↓onTm_drop, id_eq, Nat.reduceAnd, Nat.reduceEqDiff, ↓drop_ite, ↓drop_fst_ite, ↓drop_cond, ↓resState_ite, ↓resState_next, ite_self, cond_self, true_or, or_true, false_or, or_false, implies_true, ↓foldl_drop, ↓foldl_fst_drop] | split)

theorem setInductor_drop {fm : Nat} (s : State) (c : ChainId) (hfm : fm &&& 8598323200 = 8598323200) :
    (setInductor s c).drop fm = s.drop fm := by
  refine drop_sub hfm ?_
  unfold setInductor
  repeat' (first | simp only [↓logEvent_drop, ↓State.onThm_drop, id_eq, Nat.reduceAnd, Nat.reduceEqDiff, ↓drop_ite, ↓drop_fst_ite, ↓drop_cond, ↓resState_ite, ↓resState_next, ite_self, cond_self, true_or, or_true, false_or, or_false, implies_true, ↓foldl_drop, ↓foldl_fst_drop] | (refine (State.onThm_drop (by decide) ?_ ?_ ?_ ?_ ).trans ?_) | with_reducible rfl | exact Or.inl (by decide) | refine Or.inr fun _ => ?_ | (intro _; split <;> with_reducible rfl) | split)

theorem tillRecord_drop {fm : Nat} (s : State) (c : ChainId) (kind : Nat) (cause : Nat) (m : Nat) (sensor : Nat) (temp : Int) (ref : Nat) (hfm : fm &&& 8598323200 = 8598323200) :
    (tillRecord s c kind cause m sensor temp ref).drop fm = s.drop fm := by
  refine drop_sub hfm ?_
  unfold tillRecord
  repeat' (first | simp only [↓logEvent_drop, ↓State.onThm_drop, id_eq, Nat.reduceAnd, Nat.reduceEqDiff, ↓drop_ite, ↓drop_fst_ite, ↓drop_cond, ↓resState_ite, ↓resState_next, ite_self, cond_self, true_or, or_true, false_or, or_false, implies_true, ↓foldl_drop, ↓foldl_fst_drop] | (refine (State.onThm_drop (by decide) ?_ ?_ ?_ ?_ ).trans ?_) | with_reducible rfl | exact Or.inl (by decide) | refine Or.inr fun _ => ?_ | (intro _; split <;> with_reducible rfl) | split)

theorem shutChain_drop {fm : Nat} (s : State) (c : ChainId) (hfm : fm &&& 1799684595712 = 1799684595712) :
    (shutChain s c).drop fm = s.drop fm := by
  refine drop_sub hfm ?_
  unfold shutChain
  repeat' (first | simp only [↓refreshLoads_drop, ↓setFactors_drop, ↓requestOpen_drop, ↓raiseHeld_drop, id_eq, Nat.reduceAnd, Nat.reduceEqDiff, ↓drop_ite, ↓drop_fst_ite, ↓drop_cond, ↓resState_ite, ↓resState_next, ite_self, cond_self, true_or, or_true, false_or, or_false, implies_true, ↓foldl_drop, ↓foldl_fst_drop] | (refine (foldl_drop (fun _ _ => ?_) _ _).trans ?_) | split)

theorem beginHot_drop {fm : Nat} (s : State) (c : ChainId) (cause : Nat) (hfm : fm &&& 10595777617920 = 10595777617920) :
    (beginHot s c cause).drop fm = s.drop fm := by
  refine drop_sub hfm ?_
  unfold beginHot
  repeat' (first | simp only [↓watchActs_drop, ↓logEvent_drop, ↓tillRecord_drop, ↓shutChain_drop, ↓State.onThm_drop, id_eq, Nat.reduceAnd, Nat.reduceEqDiff, ↓drop_ite, ↓drop_fst_ite, ↓drop_cond, ↓resState_ite, ↓resState_next, ite_self, cond_self, true_or, or_true, false_or, or_false, implies_true, ↓foldl_drop, ↓foldl_fst_drop] | (refine (State.onThm_drop (by decide) ?_ ?_ ?_ ?_ ).trans ?_) | with_reducible rfl | exact Or.inl (by decide) | refine Or.inr fun _ => ?_ | (intro _; split <;> with_reducible rfl) | split)

theorem beginCold_drop {fm : Nat} (s : State) (c : ChainId) (hfm : fm &&& 10595777617920 = 10595777617920) :
    (beginCold s c).drop fm = s.drop fm := by
  refine drop_sub hfm ?_
  unfold beginCold
  repeat' (first | simp only [↓watchActs_drop, ↓logEvent_drop, ↓tillRecord_drop, ↓shutChain_drop, ↓State.onThm_drop, id_eq, Nat.reduceAnd, Nat.reduceEqDiff, ↓drop_ite, ↓drop_fst_ite, ↓drop_cond, ↓resState_ite, ↓resState_next, ite_self, cond_self, true_or, or_true, false_or, or_false, implies_true, ↓foldl_drop, ↓foldl_fst_drop] | (refine (State.onThm_drop (by decide) ?_ ?_ ?_ ?_ ).trans ?_) | with_reducible rfl | exact Or.inl (by decide) | refine Or.inr fun _ => ?_ | (intro _; split <;> with_reducible rfl) | split)

theorem countRuns_drop {fm : Nat} (s : State) (c : ChainId) (hfm : fm &&& 8388608 = 8388608) :
    (countRuns s c).drop fm = s.drop fm := by
  refine drop_sub hfm ?_
  unfold countRuns
  repeat' (first | simp only [↓State.onThm_drop, id_eq, Nat.reduceAnd, Nat.reduceEqDiff, ↓drop_ite, ↓drop_fst_ite, ↓drop_cond, ↓resState_ite, ↓resState_next, ite_self, cond_self, true_or, or_true, false_or, or_false, implies_true, ↓foldl_drop, ↓foldl_fst_drop] | (refine (State.onThm_drop (by decide) ?_ ?_ ?_ ?_ ).trans ?_) | with_reducible rfl | exact Or.inl (by decide) | refine Or.inr fun _ => ?_ | (intro _; split <;> with_reducible rfl) | split)

theorem releaseTimes_drop {fm : Nat} (s : State) (c : ChainId) (hfm : fm &&& 8388608 = 8388608) :
    (releaseTimes s c).drop fm = s.drop fm := by
  refine drop_sub hfm ?_
  unfold releaseTimes
  repeat' (first | simp only [↓State.onThm_drop, id_eq, Nat.reduceAnd, Nat.reduceEqDiff, ↓drop_ite, ↓drop_fst_ite, ↓drop_cond, ↓resState_ite, ↓resState_next, ite_self, cond_self, true_or, or_true, false_or, or_false, implies_true, ↓foldl_drop, ↓foldl_fst_drop] | (refine (State.onThm_drop (by decide) ?_ ?_ ?_ ?_ ).trans ?_) | with_reducible rfl | exact Or.inl (by decide) | refine Or.inr fun _ => ?_ | (intro _; split <;> with_reducible rfl) | split)

theorem checkShutdown_drop {fm : Nat} (s : State) (c : ChainId) (hfm : fm &&& 10595777617920 = 10595777617920) :
    (checkShutdown s c).drop fm = s.drop fm := by
  refine drop_sub hfm ?_
  unfold checkShutdown
  repeat' (first | simp only [↓countRuns_drop, ↓beginHot_drop, ↓beginCold_drop, ↓releaseTimes_drop, id_eq, Nat.reduceAnd, Nat.reduceEqDiff, ↓drop_ite, ↓drop_fst_ite, ↓drop_cond, ↓resState_ite, ↓resState_next, ite_self, cond_self, true_or, or_true, false_or, or_false, implies_true, ↓foldl_drop, ↓foldl_fst_drop] | split)

theorem endShutdown_drop {fm : Nat} (s : State) (c : ChainId) (hot : Bool) (hfm : fm &&& 9904286859264 = 9904286859264) :
    (endShutdown s c hot).drop fm = s.drop fm := by
  refine drop_sub hfm ?_
  unfold endShutdown
  repeat' (first | simp only [↓tillRecord_drop, ↓endHeld_drop, ↓refreshLoads_drop, ↓logEvent_drop, ↓State.onThm_drop, id_eq, Nat.reduceAnd, Nat.reduceEqDiff, ↓drop_ite, ↓drop_fst_ite, ↓drop_cond, ↓resState_ite, ↓resState_next, ite_self, cond_self, true_or, or_true, false_or, or_false, implies_true, ↓foldl_drop, ↓foldl_fst_drop] | (refine (State.onThm_drop (by decide) ?_ ?_ ?_ ?_ ).trans ?_) | with_reducible rfl | exact Or.inl (by decide) | refine Or.inr fun _ => ?_ | (intro _; split <;> with_reducible rfl) | split)

theorem execColdShutdownEnd_drop {fm : Nat} (c : ChainId) (s : State) (hfm : fm &&& 9904286859264 = 9904286859264) :
    (resState (execColdShutdownEnd c s) s).drop fm = s.drop fm := by
  refine drop_sub hfm ?_
  unfold execColdShutdownEnd
  repeat' (first | simp only [↓endShutdown_drop, id_eq, Nat.reduceAnd, Nat.reduceEqDiff, ↓drop_ite, ↓drop_fst_ite, ↓drop_cond, ↓resState_ite, ↓resState_next, ite_self, cond_self, true_or, or_true, false_or, or_false, implies_true, ↓foldl_drop, ↓foldl_fst_drop] | split)

theorem execHotReleaseReady_drop {fm : Nat} (c : ChainId) (s : State) (hfm : fm &&& 8388608 = 8388608) :
    (resState (execHotReleaseReady c s) s).drop fm = s.drop fm := by
  refine drop_sub hfm ?_
  unfold execHotReleaseReady
  repeat' (first | simp only [↓State.onThm_drop, id_eq, Nat.reduceAnd, Nat.reduceEqDiff, ↓drop_ite, ↓drop_fst_ite, ↓drop_cond, ↓resState_ite, ↓resState_next, ite_self, cond_self, true_or, or_true, false_or, or_false, implies_true, ↓foldl_drop, ↓foldl_fst_drop] | (refine (State.onThm_drop (by decide) ?_ ?_ ?_ ?_ ).trans ?_) | with_reducible rfl | exact Or.inl (by decide) | refine Or.inr fun _ => ?_ | (intro _; split <;> with_reducible rfl) | split)

theorem staggerHeater_drop {fm : Nat} (s : State) (hfm : fm &&& 8665432064 = 8665432064) :
    (staggerHeater s).drop fm = s.drop fm := by
  refine drop_sub hfm ?_
  unfold staggerHeater
  repeat' (first | simp only [↓setHeater_drop, ↓State.onThm_drop, id_eq, Nat.reduceAnd, Nat.reduceEqDiff, ↓drop_ite, ↓drop_fst_ite, ↓drop_cond, ↓resState_ite, ↓resState_next, ite_self, cond_self, true_or, or_true, false_or, or_false, implies_true, ↓foldl_drop, ↓foldl_fst_drop] | (refine (State.onThm_drop (by decide) ?_ ?_ ?_ ?_ ).trans ?_) | with_reducible rfl | exact Or.inl (by decide) | refine Or.inr fun _ => ?_ | (intro _; split <;> with_reducible rfl) | split)

theorem settleHeater_drop {fm : Nat} (s : State) (n : Fin 12) (hfm : fm &&& 8665432064 = 8665432064) :
    (settleHeater s n).drop fm = s.drop fm := by
  refine drop_sub hfm ?_
  unfold settleHeater
  repeat' (first | simp only [↓setHeater_drop, id_eq, Nat.reduceAnd, Nat.reduceEqDiff, ↓drop_ite, ↓drop_fst_ite, ↓drop_cond, ↓resState_ite, ↓resState_next, ite_self, cond_self, true_or, or_true, false_or, or_false, implies_true, ↓foldl_drop, ↓foldl_fst_drop] | split)

theorem controlHeaters_drop {fm : Nat} (s : State) (hfm : fm &&& 8665432064 = 8665432064) :
    (controlHeaters s).drop fm = s.drop fm := by
  refine drop_sub hfm ?_
  unfold controlHeaters
  repeat' (first | simp only [↓staggerHeater_drop, ↓settleHeater_drop, ↓State.onThm_drop, id_eq, Nat.reduceAnd, Nat.reduceEqDiff, ↓drop_ite, ↓drop_fst_ite, ↓drop_cond, ↓resState_ite, ↓resState_next, ite_self, cond_self, true_or, or_true, false_or, or_false, implies_true, ↓foldl_drop, ↓foldl_fst_drop] | (refine (foldl_drop (fun _ _ => ?_) _ _).trans ?_) | (refine (State.onThm_drop (by decide) ?_ ?_ ?_ ?_ ).trans ?_) | with_reducible rfl | exact Or.inl (by decide) | refine Or.inr fun _ => ?_ | (intro _; split <;> with_reducible rfl) | split)

theorem execHeaterStagger_drop {fm : Nat} (s : State) (hfm : fm &&& 8665432064 = 8665432064) :
    (resState (execHeaterStagger s) s).drop fm = s.drop fm := by
  refine drop_sub hfm ?_
  unfold execHeaterStagger
  repeat' (first | simp only [↓staggerHeater_drop, id_eq, Nat.reduceAnd, Nat.reduceEqDiff, ↓drop_ite, ↓drop_fst_ite, ↓drop_cond, ↓resState_ite, ↓resState_next, ite_self, cond_self, true_or, or_true, false_or, or_false, implies_true, ↓foldl_drop, ↓foldl_fst_drop] | split)

theorem opThmHeat_drop {fm : Nat} (ch : Nat) (action : Nat) (s : State) (hfm : fm &&& 8665432064 = 8665432064) :
    (opThmHeat ch action s).1.drop fm = s.drop fm := by
  refine drop_sub hfm ?_
  unfold opThmHeat
  repeat' (first | simp only [↓staggerHeater_drop, ↓settleHeater_drop, ↓State.onThm_drop, id_eq, Nat.reduceAnd, Nat.reduceEqDiff, ↓drop_ite, ↓drop_fst_ite, ↓drop_cond, ↓resState_ite, ↓resState_next, ite_self, cond_self, true_or, or_true, false_or, or_false, implies_true, ↓foldl_drop, ↓foldl_fst_drop] | (refine (State.onThm_drop (by decide) ?_ ?_ ?_ ?_ ).trans ?_) | with_reducible rfl | exact Or.inl (by decide) | refine Or.inr fun _ => ?_ | (intro _; split <;> with_reducible rfl) | split)

theorem execThmHeatCmd_drop {fm : Nat} (p : Requester) (ch : Nat) (action : Nat) (s : State) (hfm : fm &&& 148251869184 = 148251869184) :
    (resState (execThmHeatCmd p ch action s) s).drop fm = s.drop fm := by
  refine drop_sub hfm ?_
  unfold execThmHeatCmd
  repeat' (first | simp only [↓opThmHeat_drop, id_eq, Nat.reduceAnd, Nat.reduceEqDiff, ↓drop_ite, ↓drop_fst_ite, ↓drop_cond, ↓resState_ite, ↓resState_next, ite_self, cond_self, true_or, or_true, false_or, or_false, implies_true, ↓foldl_drop, ↓foldl_fst_drop] | (refine (regCmd_drop (by decide) (fun _ => ?_)).trans ?_) | (refine (withRight_drop (by decide) (fun _ => ?_)).trans ?_) | split)

theorem execHeatOverrideExpiry_drop {fm : Nat} (ch : Fin 12) (s : State) (hfm : fm &&& 8665432064 = 8665432064) :
    (resState (execHeatOverrideExpiry ch s) s).drop fm = s.drop fm := by
  refine drop_sub hfm ?_
  unfold execHeatOverrideExpiry
  repeat' (first | simp only [↓staggerHeater_drop, ↓settleHeater_drop, ↓State.onThm_drop, id_eq, Nat.reduceAnd, Nat.reduceEqDiff, ↓drop_ite, ↓drop_fst_ite, ↓drop_cond, ↓resState_ite, ↓resState_next, ite_self, cond_self, true_or, or_true, false_or, or_false, implies_true, ↓foldl_drop, ↓foldl_fst_drop] | (refine (State.onThm_drop (by decide) ?_ ?_ ?_ ?_ ).trans ?_) | with_reducible rfl | exact Or.inl (by decide) | refine Or.inr fun _ => ?_ | (intro _; split <;> with_reducible rfl) | split)

theorem takeInputs_drop {fm : Nat} (s : State) (x : ScanInputs) (hfm : fm &&& 8388608 = 8388608) :
    (takeInputs s x).drop fm = s.drop fm := by
  refine drop_sub hfm ?_
  unfold takeInputs
  repeat' (first | simp only [↓State.onThm_drop, id_eq, Nat.reduceAnd, Nat.reduceEqDiff, ↓drop_ite, ↓drop_fst_ite, ↓drop_cond, ↓resState_ite, ↓resState_next, ite_self, cond_self, true_or, or_true, false_or, or_false, implies_true, ↓foldl_drop, ↓foldl_fst_drop] | (refine (State.onThm_drop (by decide) ?_ ?_ ?_ ?_ ).trans ?_) | with_reducible rfl | exact Or.inl (by decide) | refine Or.inr fun _ => ?_ | (intro _; split <;> with_reducible rfl) | split)

theorem dieWarnings_drop {fm : Nat} (s : State) (hfm : fm &&& 8598323200 = 8598323200) :
    (dieWarnings s).drop fm = s.drop fm := by
  refine drop_sub hfm ?_
  unfold dieWarnings
  repeat' (first | simp only [↓logEvent_drop, ↓State.onThm_drop, id_eq, Nat.reduceAnd, Nat.reduceEqDiff, ↓drop_ite, ↓drop_fst_ite, ↓drop_cond, ↓resState_ite, ↓resState_next, ite_self, cond_self, true_or, or_true, false_or, or_false, implies_true, ↓foldl_drop, ↓foldl_fst_drop] | (refine (foldl_drop (fun _ _ => ?_) _ _).trans ?_) | (refine (State.onThm_drop (by decide) ?_ ?_ ?_ ?_ ).trans ?_) | with_reducible rfl | exact Or.inl (by decide) | refine Or.inr fun _ => ?_ | (intro _; split <;> with_reducible rfl) | split)

theorem scanSensors_drop {fm : Nat} (s : State) (c : ChainId) (hfm : fm &&& 8598323200 = 8598323200) :
    (scanSensors s c).drop fm = s.drop fm := by
  refine drop_sub hfm ?_
  unfold scanSensors
  repeat' (first | simp only [↓substitute_drop, ↓judgeSensors_drop, id_eq, Nat.reduceAnd, Nat.reduceEqDiff, ↓drop_ite, ↓drop_fst_ite, ↓drop_cond, ↓resState_ite, ↓resState_next, ite_self, cond_self, true_or, or_true, false_or, or_false, implies_true, ↓foldl_drop, ↓foldl_fst_drop] | (refine (foldl_drop (fun _ _ => ?_) _ _).trans ?_) | split)

theorem scanFactors_drop {fm : Nat} (s : State) (c : ChainId) (hfm : fm &&& 8598323200 = 8598323200) :
    (scanFactors s c).drop fm = s.drop fm := by
  refine drop_sub hfm ?_
  unfold scanFactors
  repeat' (first | simp only [↓setInductor_drop, ↓setFactors_drop, id_eq, Nat.reduceAnd, Nat.reduceEqDiff, ↓drop_ite, ↓drop_fst_ite, ↓drop_cond, ↓resState_ite, ↓resState_next, ite_self, cond_self, true_or, or_true, false_or, or_false, implies_true, ↓foldl_drop, ↓foldl_fst_drop] | (refine (foldl_drop (fun _ _ => ?_) _ _).trans ?_) | split)

theorem execScanStep_drop {fm : Nat} (x : ScanInputs) (s : State) (hfm : fm &&& 10595777617920 = 10595777617920) :
    (resState (execScanStep x s) s).drop fm = s.drop fm := by
  refine drop_sub hfm ?_
  unfold execScanStep
  repeat' (first | simp only [↓dieWarnings_drop, ↓takeInputs_drop, ↓scanSensors_drop, ↓checkShutdown_drop, ↓scanFactors_drop, ↓controlHeaters_drop, ↓logEvent_drop, ↓State.forChains_drop, ↓State.onThm_drop, id_eq, Nat.reduceAnd, Nat.reduceEqDiff, ↓drop_ite, ↓drop_fst_ite, ↓drop_cond, ↓resState_ite, ↓resState_next, ite_self, cond_self, true_or, or_true, false_or, or_false, implies_true, ↓foldl_drop, ↓foldl_fst_drop] | (refine (State.forChains_drop (fun _ _ => ?_) _).trans ?_) | (refine (State.onThm_drop (by decide) ?_ ?_ ?_ ?_ ).trans ?_) | with_reducible rfl | exact Or.inl (by decide) | refine Or.inr fun _ => ?_ | (intro _; split <;> with_reducible rfl) | split)

theorem opThmRelease_drop {fm : Nat} (c : ChainId) (s : State) (hfm : fm &&& 9904286859264 = 9904286859264) :
    (opThmRelease c s).1.drop fm = s.drop fm := by
  refine drop_sub hfm ?_
  unfold opThmRelease
  repeat' (first | simp only [↓endShutdown_drop, ↓logEvent_drop, id_eq, Nat.reduceAnd, Nat.reduceEqDiff, ↓drop_ite, ↓drop_fst_ite, ↓drop_cond, ↓resState_ite, ↓resState_next, ite_self, cond_self, true_or, or_true, false_or, or_false, implies_true, ↓foldl_drop, ↓foldl_fst_drop] | split)

theorem opThmErase_drop {fm : Nat} (s : State) (hfm : fm &&& 8598323200 = 8598323200) :
    (opThmErase s).1.drop fm = s.drop fm := by
  refine drop_sub hfm ?_
  unfold opThmErase
  repeat' (first | simp only [↓logEvent_drop, ↓State.onThm_drop, id_eq, Nat.reduceAnd, Nat.reduceEqDiff, ↓drop_ite, ↓drop_fst_ite, ↓drop_cond, ↓resState_ite, ↓resState_next, ite_self, cond_self, true_or, or_true, false_or, or_false, implies_true, ↓foldl_drop, ↓foldl_fst_drop] | (refine (State.onThm_drop (by decide) ?_ ?_ ?_ ?_ ).trans ?_) | with_reducible rfl | exact Or.inl (by decide) | refine Or.inr fun _ => ?_ | (intro _; split <;> with_reducible rfl) | split)

theorem serviceOnly_drop {fm : Nat} {s : State} {p : Requester} {addr : Word} {op : State → RegRes}
    (h : fm &&& 10737418240 = 10737418240) (g : ∀ t, (op t).1.drop fm = t.drop fm) :
    (serviceOnly s p addr op).1.drop fm = s.drop fm := by
  unfold serviceOnly
  split
  · exact withRight_drop h g
  · exact deny_drop s p .clear addr h

theorem execThmClearRelease_drop {fm : Nat} (p : Requester) (c : ChainId) (s : State) (hfm : fm &&& 10043873296384 = 10043873296384) :
    (resState (execThmClearRelease p c s) s).drop fm = s.drop fm := by
  refine drop_sub hfm ?_
  unfold execThmClearRelease
  repeat' (first | simp only [↓opThmRelease_drop, id_eq, Nat.reduceAnd, Nat.reduceEqDiff, ↓drop_ite, ↓drop_fst_ite, ↓drop_cond, ↓resState_ite, ↓resState_next, ite_self, cond_self, true_or, or_true, false_or, or_false, implies_true, ↓foldl_drop, ↓foldl_fst_drop] | (refine (regCmd_drop (by decide) (fun _ => ?_)).trans ?_) | (refine (serviceOnly_drop (by decide) (fun _ => ?_)).trans ?_) | split)

theorem execThmClearErase_drop {fm : Nat} (p : Requester) (s : State) (hfm : fm &&& 148184760320 = 148184760320) :
    (resState (execThmClearErase p s) s).drop fm = s.drop fm := by
  refine drop_sub hfm ?_
  unfold execThmClearErase
  repeat' (first | simp only [↓opThmErase_drop, id_eq, Nat.reduceAnd, Nat.reduceEqDiff, ↓drop_ite, ↓drop_fst_ite, ↓drop_cond, ↓resState_ite, ↓resState_next, ite_self, cond_self, true_or, or_true, false_or, or_false, implies_true, ↓foldl_drop, ↓foldl_fst_drop] | (refine (regCmd_drop (by decide) (fun _ => ?_)).trans ?_) | (refine (serviceOnly_drop (by decide) (fun _ => ?_)).trans ?_) | split)

theorem execTillRecordWrite_drop {fm : Nat} (s : State) (hfm : fm &&& 4194304 = 4194304) :
    (resState (execTillRecordWrite s) s).drop fm = s.drop fm := by
  refine drop_sub hfm ?_
  unfold execTillRecordWrite
  repeat' (first | simp only [↓State.onEst_drop, id_eq, Nat.reduceAnd, Nat.reduceEqDiff, ↓drop_ite, ↓drop_fst_ite, ↓drop_cond, ↓resState_ite, ↓resState_next, ite_self, cond_self, true_or, or_true, false_or, or_false, implies_true, ↓foldl_drop, ↓foldl_fst_drop] | split)

theorem onBuf_drop {fm : Nat} (s : State) (b : Fin 16) (f : TxBuf → TxBuf) (hfm : fm &&& 134217728 = 134217728) :
    (onBuf s b f).drop fm = s.drop fm := by
  refine drop_sub hfm ?_
  unfold onBuf
  repeat' (first | simp only [↓State.onLbus_drop, id_eq, Nat.reduceAnd, Nat.reduceEqDiff, ↓drop_ite, ↓drop_fst_ite, ↓drop_cond, ↓resState_ite, ↓resState_next, ite_self, cond_self, true_or, or_true, false_or, or_false, implies_true, ↓foldl_drop, ↓foldl_fst_drop] | split)

theorem endBuf_drop {fm : Nat} (s : State) (b : Fin 16) (hfm : fm &&& 134217728 = 134217728) :
    (endBuf s b).drop fm = s.drop fm := by
  refine drop_sub hfm ?_
  unfold endBuf
  repeat' (first | simp only [↓State.onLbus_drop, id_eq, Nat.reduceAnd, Nat.reduceEqDiff, ↓drop_ite, ↓drop_fst_ite, ↓drop_cond, ↓resState_ite, ↓resState_next, ite_self, cond_self, true_or, or_true, false_or, or_false, implies_true, ↓foldl_drop, ↓foldl_fst_drop] | split)

theorem loadBuf_drop {fm : Nat} (s : State) (b : Fin 16) (f : CanFrame) (hfm : fm &&& 134217728 = 134217728) :
    (loadBuf s b f).drop fm = s.drop fm := by
  refine drop_sub hfm ?_
  unfold loadBuf
  repeat' (first | simp only [↓onBuf_drop, id_eq, Nat.reduceAnd, Nat.reduceEqDiff, ↓drop_ite, ↓drop_fst_ite, ↓drop_cond, ↓resState_ite, ↓resState_next, ite_self, cond_self, true_or, or_true, false_or, or_false, implies_true, ↓foldl_drop, ↓foldl_fst_drop] | (refine (foldl_drop (fun _ _ => ?_) _ _).trans ?_) | split)

theorem opLbusGo_drop {fm : Nat} (p : Requester) (b : Fin 16) (s : State) (hfm : fm &&& 134217736 = 134217736) :
    (opLbusGo p b s).1.drop fm = s.drop fm := by
  refine drop_sub hfm ?_
  unfold opLbusGo
  repeat' (first | simp only [↓dcqFull_drop, ↓loadBuf_drop, id_eq, Nat.reduceAnd, Nat.reduceEqDiff, ↓drop_ite, ↓drop_fst_ite, ↓drop_cond, ↓resState_ite, ↓resState_next, ite_self, cond_self, true_or, or_true, false_or, or_false, implies_true, ↓foldl_drop, ↓foldl_fst_drop] | split)

theorem execLbusTxGo_drop {fm : Nat} (p : Requester) (b : Fin 16) (s : State) (hfm : fm &&& 148310589448 = 148310589448) :
    (resState (execLbusTxGo p b s) s).drop fm = s.drop fm := by
  refine drop_sub hfm ?_
  unfold execLbusTxGo
  repeat' (first | simp only [↓opLbusGo_drop, id_eq, Nat.reduceAnd, Nat.reduceEqDiff, ↓drop_ite, ↓drop_fst_ite, ↓drop_cond, ↓resState_ite, ↓resState_next, ite_self, cond_self, true_or, or_true, false_or, or_false, implies_true, ↓foldl_drop, ↓foldl_fst_drop] | (refine (regCmd_drop (by decide) (fun _ => ?_)).trans ?_) | (refine (withRight_drop (by decide) (fun _ => ?_)).trans ?_) | split)

theorem cancelBuf_drop {fm : Nat} (s : State) (b : Fin 16) (hfm : fm &&& 134217728 = 134217728) :
    (cancelBuf s b).drop fm = s.drop fm := by
  refine drop_sub hfm ?_
  unfold cancelBuf
  repeat' (first | simp only [↓endBuf_drop, ↓onBuf_drop, id_eq, Nat.reduceAnd, Nat.reduceEqDiff, ↓drop_ite, ↓drop_fst_ite, ↓drop_cond, ↓resState_ite, ↓resState_next, ite_self, cond_self, true_or, or_true, false_or, or_false, implies_true, ↓foldl_drop, ↓foldl_fst_drop] | split)

theorem opLbusCancel_drop {fm : Nat} (mask : BitVec 16) (s : State) (hfm : fm &&& 134217728 = 134217728) :
    (opLbusCancel mask s).1.drop fm = s.drop fm := by
  refine drop_sub hfm ?_
  unfold opLbusCancel
  repeat' (first | simp only [↓cancelBuf_drop, id_eq, Nat.reduceAnd, Nat.reduceEqDiff, ↓drop_ite, ↓drop_fst_ite, ↓drop_cond, ↓resState_ite, ↓resState_next, ite_self, cond_self, true_or, or_true, false_or, or_false, implies_true, ↓foldl_drop, ↓foldl_fst_drop] | (refine (foldl_drop (fun _ _ => ?_) _ _).trans ?_) | split)

theorem execLbusTxCancel_drop {fm : Nat} (p : Requester) (mask : BitVec 16) (s : State) (hfm : fm &&& 148310589440 = 148310589440) :
    (resState (execLbusTxCancel p mask s) s).drop fm = s.drop fm := by
  refine drop_sub hfm ?_
  unfold execLbusTxCancel
  repeat' (first | simp only [↓opLbusCancel_drop, id_eq, Nat.reduceAnd, Nat.reduceEqDiff, ↓drop_ite, ↓drop_fst_ite, ↓drop_cond, ↓resState_ite, ↓resState_next, ite_self, cond_self, true_or, or_true, false_or, or_false, implies_true, ↓foldl_drop, ↓foldl_fst_drop] | (refine (regCmd_drop (by decide) (fun _ => ?_)).trans ?_) | (refine (withRight_drop (by decide) (fun _ => ?_)).trans ?_) | split)

theorem opLbusAck_drop {fm : Nat} (e : Fin 64) (s : State) (hfm : fm &&& 134217728 = 134217728) :
    (opLbusAck e s).1.drop fm = s.drop fm := by
  refine drop_sub hfm ?_
  unfold opLbusAck
  repeat' (first | simp only [↓State.onLbus_drop, id_eq, Nat.reduceAnd, Nat.reduceEqDiff, ↓drop_ite, ↓drop_fst_ite, ↓drop_cond, ↓resState_ite, ↓resState_next, ite_self, cond_self, true_or, or_true, false_or, or_false, implies_true, ↓foldl_drop, ↓foldl_fst_drop] | split)

theorem execLbusRxAck_drop {fm : Nat} (p : Requester) (e : Fin 64) (s : State) (hfm : fm &&& 148310589440 = 148310589440) :
    (resState (execLbusRxAck p e s) s).drop fm = s.drop fm := by
  refine drop_sub hfm ?_
  unfold execLbusRxAck
  repeat' (first | simp only [↓opLbusAck_drop, id_eq, Nat.reduceAnd, Nat.reduceEqDiff, ↓drop_ite, ↓drop_fst_ite, ↓drop_cond, ↓resState_ite, ↓resState_next, ite_self, cond_self, true_or, or_true, false_or, or_false, implies_true, ↓foldl_drop, ↓foldl_fst_drop] | (refine (regCmd_drop (by decide) (fun _ => ?_)).trans ?_) | (refine (withRight_drop (by decide) (fun _ => ?_)).trans ?_) | split)

theorem opLbusRecover_drop {fm : Nat} (s : State) (hfm : fm &&& 134217728 = 134217728) :
    (opLbusRecover s).1.drop fm = s.drop fm := by
  refine drop_sub hfm ?_
  unfold opLbusRecover
  repeat' (first | simp only [↓State.onLbus_drop, id_eq, Nat.reduceAnd, Nat.reduceEqDiff, ↓drop_ite, ↓drop_fst_ite, ↓drop_cond, ↓resState_ite, ↓resState_next, ite_self, cond_self, true_or, or_true, false_or, or_false, implies_true, ↓foldl_drop, ↓foldl_fst_drop] | split)

theorem execLbusCmdRecover_drop {fm : Nat} (p : Requester) (s : State) (hfm : fm &&& 148310589440 = 148310589440) :
    (resState (execLbusCmdRecover p s) s).drop fm = s.drop fm := by
  refine drop_sub hfm ?_
  unfold execLbusCmdRecover
  repeat' (first | simp only [↓opLbusRecover_drop, id_eq, Nat.reduceAnd, Nat.reduceEqDiff, ↓drop_ite, ↓drop_fst_ite, ↓drop_cond, ↓resState_ite, ↓resState_next, ite_self, cond_self, true_or, or_true, false_or, or_false, implies_true, ↓foldl_drop, ↓foldl_fst_drop] | (refine (regCmd_drop (by decide) (fun _ => ?_)).trans ?_) | (refine (withRight_drop (by decide) (fun _ => ?_)).trans ?_) | split)

theorem settleErr_drop {fm : Nat} (s : State) (hfm : fm &&& 8724152320 = 8724152320) :
    (settleErr s).drop fm = s.drop fm := by
  refine drop_sub hfm ?_
  unfold settleErr
  repeat' (first | simp only [↓logEvent_drop, ↓State.onLbus_drop, id_eq, Nat.reduceAnd, Nat.reduceEqDiff, ↓drop_ite, ↓drop_fst_ite, ↓drop_cond, ↓resState_ite, ↓resState_next, ite_self, cond_self, true_or, or_true, false_or, or_false, implies_true, ↓foldl_drop, ↓foldl_fst_drop] | split)

theorem loopDelayBad_drop {fm : Nat} (s : State) (ns : Nat) (hfm : fm &&& 8724152320 = 8724152320) :
    (loopDelayBad s ns).drop fm = s.drop fm := by
  refine drop_sub hfm ?_
  unfold loopDelayBad
  repeat' (first | simp only [↓endBuf_drop, ↓logWide_drop, ↓State.onLbus_drop, id_eq, Nat.reduceAnd, Nat.reduceEqDiff, ↓drop_ite, ↓drop_fst_ite, ↓drop_cond, ↓resState_ite, ↓resState_next, ite_self, cond_self, true_or, or_true, false_or, or_false, implies_true, ↓foldl_drop, ↓foldl_fst_drop] | (refine (foldl_drop (fun _ _ => ?_) _ _).trans ?_) | split)

theorem execCanTxComplete_drop {fm : Nat} (b : Fin 16) (delay : Nat) (s : State) (hfm : fm &&& 146163105792 = 146163105792) :
    (resState (execCanTxComplete b delay s) s).drop fm = s.drop fm := by
  refine drop_sub hfm ?_
  unfold execCanTxComplete
  repeat' (first | simp only [↓loopDelayBad_drop, ↓endBuf_drop, ↓send_drop, ↓settleErr_drop, ↓State.onLbus_drop, id_eq, Nat.reduceAnd, Nat.reduceEqDiff, ↓drop_ite, ↓drop_fst_ite, ↓drop_cond, ↓resState_ite, ↓resState_next, ite_self, cond_self, true_or, or_true, false_or, or_false, implies_true, ↓foldl_drop, ↓foldl_fst_drop] | split)

theorem retryBuf_drop {fm : Nat} (s : State) (b : Fin 16) (hfm : fm &&& 134217728 = 134217728) :
    (retryBuf s b).drop fm = s.drop fm := by
  refine drop_sub hfm ?_
  unfold retryBuf
  repeat' (first | simp only [↓endBuf_drop, ↓onBuf_drop, id_eq, Nat.reduceAnd, Nat.reduceEqDiff, ↓drop_ite, ↓drop_fst_ite, ↓drop_cond, ↓resState_ite, ↓resState_next, ite_self, cond_self, true_or, or_true, false_or, or_false, implies_true, ↓foldl_drop, ↓foldl_fst_drop] | split)

theorem execCanTxAttemptFail_drop {fm : Nat} (b : Fin 16) (why : TxFail) (s : State) (hfm : fm &&& 146163105792 = 146163105792) :
    (resState (execCanTxAttemptFail b why s) s).drop fm = s.drop fm := by
  refine drop_sub hfm ?_
  unfold execCanTxAttemptFail
  repeat' (first | simp only [↓retryBuf_drop, ↓settleErr_drop, ↓send_drop, ↓loopDelayBad_drop, ↓endBuf_drop, ↓State.onLbus_drop, id_eq, Nat.reduceAnd, Nat.reduceEqDiff, ↓drop_ite, ↓drop_fst_ite, ↓drop_cond, ↓resState_ite, ↓resState_next, ite_self, cond_self, true_or, or_true, false_or, or_false, implies_true, ↓foldl_drop, ↓foldl_fst_drop] | split)

theorem execLbusRxError_drop {fm : Nat} (dominant : Bool) (s : State) (hfm : fm &&& 146163105792 = 146163105792) :
    (resState (execLbusRxError dominant s) s).drop fm = s.drop fm := by
  refine drop_sub hfm ?_
  unfold execLbusRxError
  repeat' (first | simp only [↓settleErr_drop, ↓send_drop, ↓State.onLbus_drop, id_eq, Nat.reduceAnd, Nat.reduceEqDiff, ↓drop_ite, ↓drop_fst_ite, ↓drop_cond, ↓resState_ite, ↓resState_next, ite_self, cond_self, true_or, or_true, false_or, or_false, implies_true, ↓foldl_drop, ↓foldl_fst_drop] | split)

theorem execLbusBusOff_drop {fm : Nat} (s : State) (hfm : fm &&& 8724152320 = 8724152320) :
    (resState (execLbusBusOff s) s).drop fm = s.drop fm := by
  refine drop_sub hfm ?_
  unfold execLbusBusOff
  repeat' (first | simp only [↓logEvent_drop, ↓State.onLbus_drop, id_eq, Nat.reduceAnd, Nat.reduceEqDiff, ↓drop_ite, ↓drop_fst_ite, ↓drop_cond, ↓resState_ite, ↓resState_next, ite_self, cond_self, true_or, or_true, false_or, or_false, implies_true, ↓foldl_drop, ↓foldl_fst_drop] | split)

theorem execBusoffHoldExpiry_drop {fm : Nat} (s : State) (hfm : fm &&& 134217728 = 134217728) :
    (resState (execBusoffHoldExpiry s) s).drop fm = s.drop fm := by
  refine drop_sub hfm ?_
  unfold execBusoffHoldExpiry
  repeat' (first | simp only [↓State.onLbus_drop, id_eq, Nat.reduceAnd, Nat.reduceEqDiff, ↓drop_ite, ↓drop_fst_ite, ↓drop_cond, ↓resState_ite, ↓resState_next, ite_self, cond_self, true_or, or_true, false_or, or_false, implies_true, ↓foldl_drop, ↓foldl_fst_drop] | split)

theorem execBusOffRecovered_drop {fm : Nat} (s : State) (hfm : fm &&& 8724152320 = 8724152320) :
    (resState (execBusOffRecovered s) s).drop fm = s.drop fm := by
  refine drop_sub hfm ?_
  unfold execBusOffRecovered
  repeat' (first | simp only [↓logEvent_drop, ↓State.onLbus_drop, id_eq, Nat.reduceAnd, Nat.reduceEqDiff, ↓drop_ite, ↓drop_fst_ite, ↓drop_cond, ↓resState_ite, ↓resState_next, ite_self, cond_self, true_or, or_true, false_or, or_false, implies_true, ↓foldl_drop, ↓foldl_fst_drop] | split)

theorem deliver_drop {fm : Nat} (s : State) (f : CanFrame) (filter : Nat) (wake : Bool) (hfm : fm &&& 8724152328 = 8724152328) :
    (deliver s f filter wake).drop fm = s.drop fm := by
  refine drop_sub hfm ?_
  unfold deliver
  repeat' (first | simp only [↓dcqFull_drop, ↓logWide_drop, ↓State.onLbus_drop, id_eq, Nat.reduceAnd, Nat.reduceEqDiff, ↓drop_ite, ↓drop_fst_ite, ↓drop_cond, ↓resState_ite, ↓resState_next, ite_self, cond_self, true_or, or_true, false_or, or_false, implies_true, ↓foldl_drop, ↓foldl_fst_drop] | split)

theorem takeReserved_drop {fm : Nat} (s : State) (f : CanFrame) (hfm : fm &&& 8724152320 = 8724152320) :
    (takeReserved s f).drop fm = s.drop fm := by
  refine drop_sub hfm ?_
  unfold takeReserved
  repeat' (first | simp only [↓logWide_drop, ↓State.onLbus_drop, id_eq, Nat.reduceAnd, Nat.reduceEqDiff, ↓drop_ite, ↓drop_fst_ite, ↓drop_cond, ↓resState_ite, ↓resState_next, ite_self, cond_self, true_or, or_true, false_or, or_false, implies_true, ↓foldl_drop, ↓foldl_fst_drop] | split)

theorem execCanFrameRx_drop {fm : Nat} (f : CanFrame) (s : State) (hfm : fm &&& 214882582536 = 214882582536) :
    (resState (execCanFrameRx f s) s).drop fm = s.drop fm := by
  refine drop_sub hfm ?_
  unfold execCanFrameRx
  repeat' (first | simp only [↓settleErr_drop, ↓nextFree_drop, ↓send_drop, ↓takeReserved_drop, ↓deliver_drop, ↓State.onLbus_drop, id_eq, Nat.reduceAnd, Nat.reduceEqDiff, ↓drop_ite, ↓drop_fst_ite, ↓drop_cond, ↓resState_ite, ↓resState_next, ite_self, cond_self, true_or, or_true, false_or, or_false, implies_true, ↓foldl_drop, ↓foldl_fst_drop] | split)

theorem execLbusBusIdle_drop {fm : Nat} (s : State) (hfm : fm &&& 8724152328 = 8724152328) :
    (resState (execLbusBusIdle s) s).drop fm = s.drop fm := by
  refine drop_sub hfm ?_
  unfold execLbusBusIdle
  repeat' (first | simp only [↓deliver_drop, ↓onBuf_drop, ↓State.onLbus_drop, id_eq, Nat.reduceAnd, Nat.reduceEqDiff, ↓drop_ite, ↓drop_fst_ite, ↓drop_cond, ↓resState_ite, ↓resState_next, ite_self, cond_self, true_or, or_true, false_or, or_false, implies_true, ↓foldl_drop, ↓foldl_fst_drop] | split)

theorem execLbusStatusPeriod_drop {fm : Nat} (s : State) (hfm : fm &&& 134217728 = 134217728) :
    (resState (execLbusStatusPeriod s) s).drop fm = s.drop fm := by
  refine drop_sub hfm ?_
  unfold execLbusStatusPeriod
  repeat' (first | simp only [↓loadBuf_drop, id_eq, Nat.reduceAnd, Nat.reduceEqDiff, ↓drop_ite, ↓drop_fst_ite, ↓drop_cond, ↓resState_ite, ↓resState_next, ite_self, cond_self, true_or, or_true, false_or, or_false, implies_true, ↓foldl_drop, ↓foldl_fst_drop] | split)

theorem refuseCh_drop {fm : Nat} (s : State) (ch : Nat) (status : Nat) (hfm : fm &&& 8589934592 = 8589934592) :
    (refuseCh s ch status).1.drop fm = s.drop fm := by
  refine drop_sub hfm ?_
  unfold refuseCh
  repeat' (first | simp only [↓logEvent_drop, id_eq, Nat.reduceAnd, Nat.reduceEqDiff, ↓drop_ite, ↓drop_fst_ite, ↓drop_cond, ↓resState_ite, ↓resState_next, ite_self, cond_self, true_or, or_true, false_or, or_false, implies_true, ↓foldl_drop, ↓foldl_fst_drop] | split)

theorem opLswCmd_drop {fm : Nat} (ch : Nat) (action : Nat) (s : State) (hfm : fm &&& 8657043456 = 8657043456) :
    (opLswCmd ch action s).1.drop fm = s.drop fm := by
  refine drop_sub hfm ?_
  unfold opLswCmd
  repeat' (first | simp only [↓refuseCh_drop, ↓commandCh_drop, id_eq, Nat.reduceAnd, Nat.reduceEqDiff, ↓drop_ite, ↓drop_fst_ite, ↓drop_cond, ↓resState_ite, ↓resState_next, ite_self, cond_self, true_or, or_true, false_or, or_false, implies_true, ↓foldl_drop, ↓foldl_fst_drop] | split)

theorem execLswCmd_drop {fm : Nat} (p : Requester) (ch : Nat) (action : Nat) (s : State) (hfm : fm &&& 148243480576 = 148243480576) :
    (resState (execLswCmd p ch action s) s).drop fm = s.drop fm := by
  refine drop_sub hfm ?_
  unfold execLswCmd
  repeat' (first | simp only [↓opLswCmd_drop, id_eq, Nat.reduceAnd, Nat.reduceEqDiff, ↓drop_ite, ↓drop_fst_ite, ↓drop_cond, ↓resState_ite, ↓resState_next, ite_self, cond_self, true_or, or_true, false_or, or_false, implies_true, ↓foldl_drop, ↓foldl_fst_drop] | (refine (regCmd_drop (by decide) (fun _ => ?_)).trans ?_) | (refine (withRight_drop (by decide) (fun _ => ?_)).trans ?_) | split)

theorem clearLatch_drop {fm : Nat} (s : State) (n : Fin 12) (hfm : fm &&& 67108864 = 67108864) :
    (clearLatch s n).drop fm = s.drop fm := by
  refine drop_sub hfm ?_
  unfold clearLatch
  repeat' (first | simp only [↓refreshCh_drop, ↓State.onCh_drop, id_eq, Nat.reduceAnd, Nat.reduceEqDiff, ↓drop_ite, ↓drop_fst_ite, ↓drop_cond, ↓resState_ite, ↓resState_next, ite_self, cond_self, true_or, or_true, false_or, or_false, implies_true, ↓foldl_drop, ↓foldl_fst_drop] | split)

theorem opLswClear_drop {fm : Nat} (mask : BitVec 12) (s : State) (hfm : fm &&& 8657043456 = 8657043456) :
    (opLswClear mask s).1.drop fm = s.drop fm := by
  refine drop_sub hfm ?_
  unfold opLswClear
  repeat' (first | simp only [↓clearLatch_drop, ↓logEvent_drop, id_eq, Nat.reduceAnd, Nat.reduceEqDiff, ↓drop_ite, ↓drop_fst_ite, ↓drop_cond, ↓resState_ite, ↓resState_next, ite_self, cond_self, true_or, or_true, false_or, or_false, implies_true, ↓foldl_drop, ↓foldl_fst_drop] | (refine (foldl_drop (fun _ _ => ?_) _ _).trans ?_) | split)

theorem execLswClear_drop {fm : Nat} (p : Requester) (mask : BitVec 12) (s : State) (hfm : fm &&& 148243480576 = 148243480576) :
    (resState (execLswClear p mask s) s).drop fm = s.drop fm := by
  refine drop_sub hfm ?_
  unfold execLswClear
  repeat' (first | simp only [↓opLswClear_drop, id_eq, Nat.reduceAnd, Nat.reduceEqDiff, ↓drop_ite, ↓drop_fst_ite, ↓drop_cond, ↓resState_ite, ↓resState_next, ite_self, cond_self, true_or, or_true, false_or, or_false, implies_true, ↓foldl_drop, ↓foldl_fst_drop] | (refine (regCmd_drop (by decide) (fun _ => ?_)).trans ?_) | (refine (withRight_drop (by decide) (fun _ => ?_)).trans ?_) | split)

theorem opLswSense_drop {fm : Nat} (code : BitVec 4) (s : State) (hfm : fm &&& 67108864 = 67108864) :
    (opLswSense code s).1.drop fm = s.drop fm := by
  refine drop_sub hfm ?_
  unfold opLswSense
  repeat' (first | simp only [↓State.onLsw_drop, id_eq, Nat.reduceAnd, Nat.reduceEqDiff, ↓drop_ite, ↓drop_fst_ite, ↓drop_cond, ↓resState_ite, ↓resState_next, ite_self, cond_self, true_or, or_true, false_or, or_false, implies_true, ↓foldl_drop, ↓foldl_fst_drop] | split)

theorem execLswSenseSelect_drop {fm : Nat} (p : Requester) (code : BitVec 4) (s : State) (hfm : fm &&& 148243480576 = 148243480576) :
    (resState (execLswSenseSelect p code s) s).drop fm = s.drop fm := by
  refine drop_sub hfm ?_
  unfold execLswSenseSelect
  repeat' (first | simp only [↓opLswSense_drop, id_eq, Nat.reduceAnd, Nat.reduceEqDiff, ↓drop_ite, ↓drop_fst_ite, ↓drop_cond, ↓resState_ite, ↓resState_next, ite_self, cond_self, true_or, or_true, false_or, or_false, implies_true, ↓foldl_drop, ↓foldl_fst_drop] | (refine (regCmd_drop (by decide) (fun _ => ?_)).trans ?_) | (refine (withRight_drop (by decide) (fun _ => ?_)).trans ?_) | split)

theorem execSenseSelPinChange_drop {fm : Nat} (code : BitVec 4) (s : State) (hfm : fm &&& 67108864 = 67108864) :
    (resState (execSenseSelPinChange code s) s).drop fm = s.drop fm := by
  refine drop_sub hfm ?_
  unfold execSenseSelPinChange
  repeat' (first | simp only [↓State.onLsw_drop, id_eq, Nat.reduceAnd, Nat.reduceEqDiff, ↓drop_ite, ↓drop_fst_ite, ↓drop_cond, ↓resState_ite, ↓resState_next, ite_self, cond_self, true_or, or_true, false_or, or_false, implies_true, ↓foldl_drop, ↓foldl_fst_drop] | split)

theorem execCurrentLimitReached_drop {fm : Nat} (ch : Fin 12) (i : Int) (s : State) (hfm : fm &&& 67108864 = 67108864) :
    (resState (execCurrentLimitReached ch i s) s).drop fm = s.drop fm := by
  refine drop_sub hfm ?_
  unfold execCurrentLimitReached
  repeat' (first | simp only [↓State.onCh_drop, id_eq, Nat.reduceAnd, Nat.reduceEqDiff, ↓drop_ite, ↓drop_fst_ite, ↓drop_cond, ↓resState_ite, ↓resState_next, ite_self, cond_self, true_or, or_true, false_or, or_false, implies_true, ↓foldl_drop, ↓foldl_fst_drop] | split)

theorem failedAttempt_drop {fm : Nat} (s : State) (n : Fin 12) (hfm : fm &&& 12961415168 = 12961415168) :
    (failedAttempt s n).drop fm = s.drop fm := by
  refine drop_sub hfm ?_
  unfold failedAttempt
  repeat' (first | simp only [↓chOff_drop, ↓logEvent_drop, ↓requestOpen_drop, ↓State.onLsw_drop, ↓State.onCh_drop, id_eq, Nat.reduceAnd, Nat.reduceEqDiff, ↓drop_ite, ↓drop_fst_ite, ↓drop_cond, ↓resState_ite, ↓resState_next, ite_self, cond_self, true_or, or_true, false_or, or_false, implies_true, ↓foldl_drop, ↓foldl_fst_drop] | split)

theorem execLimitTimeExpiry_drop {fm : Nat} (ch : Fin 12) (s : State) (hfm : fm &&& 12961415168 = 12961415168) :
    (resState (execLimitTimeExpiry ch s) s).drop fm = s.drop fm := by
  refine drop_sub hfm ?_
  unfold execLimitTimeExpiry
  repeat' (first | simp only [↓failedAttempt_drop, id_eq, Nat.reduceAnd, Nat.reduceEqDiff, ↓drop_ite, ↓drop_fst_ite, ↓drop_cond, ↓resState_ite, ↓resState_next, ite_self, cond_self, true_or, or_true, false_or, or_false, implies_true, ↓foldl_drop, ↓foldl_fst_drop] | split)

theorem execJunctionOvertemp_drop {fm : Nat} (ch : Fin 12) (tj : Int) (s : State) (hfm : fm &&& 12961415168 = 12961415168) :
    (resState (execJunctionOvertemp ch tj s) s).drop fm = s.drop fm := by
  refine drop_sub hfm ?_
  unfold execJunctionOvertemp
  repeat' (first | simp only [↓failedAttempt_drop, ↓logEvent_drop, id_eq, Nat.reduceAnd, Nat.reduceEqDiff, ↓drop_ite, ↓drop_fst_ite, ↓drop_cond, ↓resState_ite, ↓resState_next, ite_self, cond_self, true_or, or_true, false_or, or_false, implies_true, ↓foldl_drop, ↓foldl_fst_drop] | split)

theorem execInrushWindowEnd_drop {fm : Nat} (ch : Fin 12) (s : State) (hfm : fm &&& 67108864 = 67108864) :
    (resState (execInrushWindowEnd ch s) s).drop fm = s.drop fm := by
  refine drop_sub hfm ?_
  unfold execInrushWindowEnd
  repeat' (first | simp only [↓State.onCh_drop, id_eq, Nat.reduceAnd, Nat.reduceEqDiff, ↓drop_ite, ↓drop_fst_ite, ↓drop_cond, ↓resState_ite, ↓resState_next, ite_self, cond_self, true_or, or_true, false_or, or_false, implies_true, ↓foldl_drop, ↓foldl_fst_drop] | split)

theorem execRetryPauseEnd_drop {fm : Nat} (ch : Fin 12) (s : State) (hfm : fm &&& 67108864 = 67108864) :
    (resState (execRetryPauseEnd ch s) s).drop fm = s.drop fm := by
  refine drop_sub hfm ?_
  unfold execRetryPauseEnd
  repeat' (first | simp only [↓refreshCh_drop, ↓State.onCh_drop, id_eq, Nat.reduceAnd, Nat.reduceEqDiff, ↓drop_ite, ↓drop_fst_ite, ↓drop_cond, ↓resState_ite, ↓resState_next, ite_self, cond_self, true_or, or_true, false_or, or_false, implies_true, ↓foldl_drop, ↓foldl_fst_drop] | split)

theorem execRetryCountReset_drop {fm : Nat} (ch : Fin 12) (s : State) (hfm : fm &&& 67108864 = 67108864) :
    (resState (execRetryCountReset ch s) s).drop fm = s.drop fm := by
  refine drop_sub hfm ?_
  unfold execRetryCountReset
  repeat' (first | simp only [↓State.onCh_drop, id_eq, Nat.reduceAnd, Nat.reduceEqDiff, ↓drop_ite, ↓drop_fst_ite, ↓drop_cond, ↓resState_ite, ↓resState_next, ite_self, cond_self, true_or, or_true, false_or, or_false, implies_true, ↓foldl_drop, ↓foldl_fst_drop] | split)

theorem shedChannel_drop {fm : Nat} (s : State) (cl : Fin 3) (n : Fin 12) (hfm : fm &&& 8657043456 = 8657043456) :
    (shedChannel s cl n).drop fm = s.drop fm := by
  refine drop_sub hfm ?_
  unfold shedChannel
  repeat' (first | simp only [↓chOff_drop, ↓logEvent_drop, ↓State.onCh_drop, ↓State.onCluster_drop, ↓State.onLsw_drop, id_eq, Nat.reduceAnd, Nat.reduceEqDiff, ↓drop_ite, ↓drop_fst_ite, ↓drop_cond, ↓resState_ite, ↓resState_next, ite_self, cond_self, true_or, or_true, false_or, or_false, implies_true, ↓foldl_drop, ↓foldl_fst_drop] | split)

theorem shedNext_drop {fm : Nat} (s : State) (cl : Fin 3) (hfm : fm &&& 12961415168 = 12961415168) :
    (shedNext s cl).drop fm = s.drop fm := by
  refine drop_sub hfm ?_
  unfold shedNext
  repeat' (first | simp only [↓shedChannel_drop, ↓requestBlock_drop, ↓State.onCh_drop, id_eq, Nat.reduceAnd, Nat.reduceEqDiff, ↓drop_ite, ↓drop_fst_ite, ↓drop_cond, ↓resState_ite, ↓resState_next, ite_self, cond_self, true_or, or_true, false_or, or_false, implies_true, ↓foldl_drop, ↓foldl_fst_drop] | split)

theorem restoreShed_drop {fm : Nat} (s : State) (cl : Fin 3) (hfm : fm &&& 8657043456 = 8657043456) :
    (restoreShed s cl).drop fm = s.drop fm := by
  refine drop_sub hfm ?_
  unfold restoreShed
  repeat' (first | simp only [↓logEvent_drop, ↓refreshCh_drop, ↓State.onCluster_drop, ↓State.onCh_drop, id_eq, Nat.reduceAnd, Nat.reduceEqDiff, ↓drop_ite, ↓drop_fst_ite, ↓drop_cond, ↓resState_ite, ↓resState_next, ite_self, cond_self, true_or, or_true, false_or, or_false, implies_true, ↓foldl_drop, ↓foldl_fst_drop] | split)

theorem takeCh_drop {fm : Nat} (tj : Int) (i : Int) (s : State) (n : Fin 12) (hfm : fm &&& 67108864 = 67108864) :
    (takeCh tj i s n).drop fm = s.drop fm := by
  refine drop_sub hfm ?_
  unfold takeCh
  repeat' (first | simp only [↓State.onCh_drop, id_eq, Nat.reduceAnd, Nat.reduceEqDiff, ↓drop_ite, ↓drop_fst_ite, ↓drop_cond, ↓resState_ite, ↓resState_next, ite_self, cond_self, true_or, or_true, false_or, or_false, implies_true, ↓foldl_drop, ↓foldl_fst_drop] | split)

theorem execClusterSensorSample_drop {fm : Nat} (cl : Fin 3) (temp : Int) (tjs : List Int) (is : List Int) (s : State) (hfm : fm &&& 81680891904 = 81680891904) :
    (resState (execClusterSensorSample cl temp tjs is s) s).drop fm = s.drop fm := by
  refine drop_sub hfm ?_
  unfold execClusterSensorSample
  repeat' (first | simp only [↓takeCh_drop, ↓nextFree_drop, ↓shedNext_drop, ↓restoreShed_drop, ↓State.onThm_drop, ↓State.onCluster_drop, ↓State.onLsw_drop, id_eq, Nat.reduceAnd, Nat.reduceEqDiff, ↓drop_ite, ↓drop_fst_ite, ↓drop_cond, ↓resState_ite, ↓resState_next, ite_self, cond_self, true_or, or_true, false_or, or_false, implies_true, ↓foldl_drop, ↓foldl_fst_drop] | (refine (foldl_drop (fun _ _ => ?_) _ _).trans ?_) | (refine (State.onThm_drop (by decide) ?_ ?_ ?_ ?_ ).trans ?_) | with_reducible rfl | exact Or.inl (by decide) | refine Or.inr fun _ => ?_ | (intro _; split <;> with_reducible rfl) | split)

theorem execCoilShedDelayExpiry_drop {fm : Nat} (ch : Fin 12) (s : State) (hfm : fm &&& 12961415168 = 12961415168) :
    (resState (execCoilShedDelayExpiry ch s) s).drop fm = s.drop fm := by
  refine drop_sub hfm ?_
  unfold execCoilShedDelayExpiry
  repeat' (first | simp only [↓requestOpen_drop, ↓shedChannel_drop, id_eq, Nat.reduceAnd, Nat.reduceEqDiff, ↓drop_ite, ↓drop_fst_ite, ↓drop_cond, ↓resState_ite, ↓resState_next, ite_self, cond_self, true_or, or_true, false_or, or_false, implies_true, ↓foldl_drop, ↓foldl_fst_drop] | split)

theorem execClusterRestoreStagger_drop {fm : Nat} (cl : Fin 3) (s : State) (hfm : fm &&& 8657043456 = 8657043456) :
    (resState (execClusterRestoreStagger cl s) s).drop fm = s.drop fm := by
  refine drop_sub hfm ?_
  unfold execClusterRestoreStagger
  repeat' (first | simp only [↓restoreShed_drop, id_eq, Nat.reduceAnd, Nat.reduceEqDiff, ↓drop_ite, ↓drop_fst_ite, ↓drop_cond, ↓resState_ite, ↓resState_next, ite_self, cond_self, true_or, or_true, false_or, or_false, implies_true, ↓foldl_drop, ↓foldl_fst_drop] | split)

theorem execEconPullEnd_drop {fm : Nat} (ch : Fin 12) (s : State) (hfm : fm &&& 67108864 = 67108864) :
    (resState (execEconPullEnd ch s) s).drop fm = s.drop fm := by
  refine drop_sub hfm ?_
  unfold execEconPullEnd
  repeat' (first | simp only [↓State.onCh_drop, id_eq, Nat.reduceAnd, Nat.reduceEqDiff, ↓drop_ite, ↓drop_fst_ite, ↓drop_cond, ↓resState_ite, ↓resState_next, ite_self, cond_self, true_or, or_true, false_or, or_false, implies_true, ↓foldl_drop, ↓foldl_fst_drop] | split)

theorem execOpenLoadOnDetect_drop {fm : Nat} (ch : Fin 12) (s : State) (hfm : fm &&& 8657043456 = 8657043456) :
    (resState (execOpenLoadOnDetect ch s) s).drop fm = s.drop fm := by
  refine drop_sub hfm ?_
  unfold execOpenLoadOnDetect
  repeat' (first | simp only [↓logEvent_drop, ↓State.onCh_drop, id_eq, Nat.reduceAnd, Nat.reduceEqDiff, ↓drop_ite, ↓drop_fst_ite, ↓drop_cond, ↓resState_ite, ↓resState_next, ite_self, cond_self, true_or, or_true, false_or, or_false, implies_true, ↓foldl_drop, ↓foldl_fst_drop] | split)

theorem execOffStateLoadTest_drop {fm : Nat} (ch : Fin 12) (vout : Nat) (s : State) (hfm : fm &&& 8657043456 = 8657043456) :
    (resState (execOffStateLoadTest ch vout s) s).drop fm = s.drop fm := by
  refine drop_sub hfm ?_
  unfold execOffStateLoadTest
  repeat' (first | simp only [↓logEvent_drop, ↓refreshCh_drop, ↓State.onCh_drop, id_eq, Nat.reduceAnd, Nat.reduceEqDiff, ↓drop_ite, ↓drop_fst_ite, ↓drop_cond, ↓resState_ite, ↓resState_next, ite_self, cond_self, true_or, or_true, false_or, or_false, implies_true, ↓foldl_drop, ↓foldl_fst_drop] | split)

end Sys2Proof.Machine
end

