-- ==== Sys2Proof/Laws/FrameArm.lean ====
section
/-! SUPPORT. What the operations and commands of the arm, the ring, the dovetail and protection leave unchanged. -/

set_option Elab.async false

set_option linter.unusedSimpArgs false

namespace Sys2Proof.Machine

theorem flushStaging_drop {fm : Nat} (s : State) (hfm : fm &&& 80 = 80) :
    (flushStaging s).drop fm = s.drop fm := by
  refine drop_sub hfm ?_
  unfold flushStaging
  repeat' (first | simp only [↓State.onImg_drop, id_eq, Nat.reduceAnd, Nat.reduceEqDiff, ↓drop_ite, ↓drop_fst_ite, ↓drop_cond, ↓resState_ite, ↓resState_next, ite_self, cond_self, true_or, or_true, false_or, or_false, implies_true, ↓foldl_drop, ↓foldl_fst_drop] | (refine (State.onImg_drop (by decide) ?_ ?_ ?_ ).trans ?_) | with_reducible rfl | exact Or.inl (by decide) | refine Or.inr fun _ => ?_ | (intro _; split <;> with_reducible rfl) | (intro _; unfold clearDryfit; with_reducible rfl) | (intro _; unfold putSlot clearDryfit; split <;> with_reducible rfl) | (intro _; unfold putSlot; split <;> with_reducible rfl) | split)

theorem cancelGlue_drop {fm : Nat} (s : State) (cause : Nat) (hfm : fm &&& 8589934656 = 8589934656) :
    (cancelGlue s cause).drop fm = s.drop fm := by
  refine drop_sub hfm ?_
  unfold cancelGlue
  repeat' (first | simp only [↓logEvent_drop, ↓State.onImg_drop, id_eq, Nat.reduceAnd, Nat.reduceEqDiff, ↓drop_ite, ↓drop_fst_ite, ↓drop_cond, ↓resState_ite, ↓resState_next, ite_self, cond_self, true_or, or_true, false_or, or_false, implies_true, ↓foldl_drop, ↓foldl_fst_drop] | (refine (State.onImg_drop (by decide) ?_ ?_ ?_ ).trans ?_) | with_reducible rfl | exact Or.inl (by decide) | refine Or.inr fun _ => ?_ | (intro _; split <;> with_reducible rfl) | split)

theorem glueAnnounce_drop {fm : Nat} (s : State) (tag : BitVec 64) (tG : Nat) (hfm : fm &&& 8589934656 = 8589934656) :
    (glueAnnounce s tag tG).drop fm = s.drop fm := by
  refine drop_sub hfm ?_
  unfold glueAnnounce
  repeat' (first | simp only [↓cancelGlue_drop, ↓logEvent_drop, ↓State.onImg_drop, id_eq, Nat.reduceAnd, Nat.reduceEqDiff, ↓drop_ite, ↓drop_fst_ite, ↓drop_cond, ↓resState_ite, ↓resState_next, ite_self, cond_self, true_or, or_true, false_or, or_false, implies_true, ↓foldl_drop, ↓foldl_fst_drop] | (refine (State.onImg_drop (by decide) ?_ ?_ ?_ ).trans ?_) | with_reducible rfl | exact Or.inl (by decide) | refine Or.inr fun _ => ?_ | (intro _; split <;> with_reducible rfl) | split)

theorem glueConfirm_drop {fm : Nat} (s : State) (tag : BitVec 64) (tG : Nat) (hfm : fm &&& 12961415232 = 12961415232) :
    (glueConfirm s tag tG).drop fm = s.drop fm := by
  refine drop_sub hfm ?_
  unfold glueConfirm
  repeat' (first | simp only [↓logEvent_drop, ↓cancelGlue_drop, ↓blockChains_drop, ↓State.onImg_drop, id_eq, Nat.reduceAnd, Nat.reduceEqDiff, ↓drop_ite, ↓drop_fst_ite, ↓drop_cond, ↓resState_ite, ↓resState_next, ite_self, cond_self, true_or, or_true, false_or, or_false, implies_true, ↓foldl_drop, ↓foldl_fst_drop] | (refine (State.onImg_drop (by decide) ?_ ?_ ?_ ).trans ?_) | with_reducible rfl | exact Or.inl (by decide) | refine Or.inr fun _ => ?_ | (intro _; split <;> with_reducible rfl) | split)

theorem gluePhase_drop {fm : Nat} (s : State) (phase : Nat) (tag : BitVec 64) (tG : Nat) (hfm : fm &&& 12961415232 = 12961415232) :
    (gluePhase s phase tag tG).drop fm = s.drop fm := by
  refine drop_sub hfm ?_
  unfold gluePhase
  repeat' (first | simp only [↓glueAnnounce_drop, ↓glueConfirm_drop, ↓cancelGlue_drop, id_eq, Nat.reduceAnd, Nat.reduceEqDiff, ↓drop_ite, ↓drop_fst_ite, ↓drop_cond, ↓resState_ite, ↓resState_next, ite_self, cond_self, true_or, or_true, false_or, or_false, implies_true, ↓foldl_drop, ↓foldl_fst_drop] | split)

theorem watchReady_drop {fm : Nat} (s : State) (hfm : fm &&& 8589934656 = 8589934656) :
    (watchReady s).drop fm = s.drop fm := by
  refine drop_sub hfm ?_
  unfold watchReady
  repeat' (first | simp only [↓cancelGlue_drop, id_eq, Nat.reduceAnd, Nat.reduceEqDiff, ↓drop_ite, ↓drop_fst_ite, ↓drop_cond, ↓resState_ite, ↓resState_next, ite_self, cond_self, true_or, or_true, false_or, or_false, implies_true, ↓foldl_drop, ↓foldl_fst_drop] | split)

theorem installStaged_drop {fm : Nat} (s : State) (im : Image) (t : Nat) (hfm : fm &&& 2298487024 = 2298487024) :
    (installStaged s im t).drop fm = s.drop fm := by
  refine drop_sub hfm ?_
  unfold installStaged
  refine (State.onArm_drop (by decide) (.inr fun _ => rfl) (.inr fun _ => rfl) (.inr fun _ => rfl) (.inr fun _ => rfl)).trans ?_
  refine (State.onSec_drop (by decide) (.inr fun _ => rfl)).trans ?_
  refine (State.onSpl_drop (by decide)).trans ?_
  refine (State.onPrt_drop (by decide) (.inr fun _ => rfl) (.inr fun _ => rfl)).trans ?_
  refine (State.onImg_drop (by decide) (.inr fun _ => rfl) (.inr fun _ => rfl) (.inl (by decide))).trans ?_
  exact (flushStaging_drop _ (by decide)).trans (retimeBus_drop s im (by decide))

theorem beginGlueRestart_drop {fm : Nat} (s : State) (hfm : fm &&& 562716458190 = 562716458190) :
    (beginGlueRestart s).drop fm = s.drop fm := by
  refine drop_sub hfm ?_
  unfold beginGlueRestart
  repeat' (first | simp only [↓setEngines_drop, ↓beginClamp_drop, ↓endAllActs_drop, ↓takeHwEvents_drop, ↓bothHiZ_drop, ↓refreshBridge_drop, ↓State.onArm_drop, ↓State.onImg_drop, ↓State.onDev_drop, ↓State.onSpl_drop, ↓State.onGlk_drop, id_eq, Nat.reduceAnd, Nat.reduceEqDiff, ↓drop_ite, ↓drop_fst_ite, ↓drop_cond, ↓resState_ite, ↓resState_next, ite_self, cond_self, true_or, or_true, false_or, or_false, implies_true, ↓foldl_drop, ↓foldl_fst_drop] | (refine (State.onImg_drop (by decide) ?_ ?_ ?_ ).trans ?_) | (refine (State.onArm_drop (by decide) ?_ ?_ ?_ ?_ ).trans ?_) | (refine (State.onDev_drop (by decide) ?_ ?_ ).trans ?_) | (refine (State.onGlk_drop (by decide) ?_ ?_ ?_ ?_ ?_ ?_ ?_ ).trans ?_) | with_reducible rfl | exact Or.inl (by decide) | refine Or.inr fun _ => ?_ | (intro _; split <;> with_reducible rfl) | split)

theorem switchImage_drop {fm : Nat} (s : State) (t : Nat) (adopt : Bool) (hfm : fm &&& 565014936830 = 565014936830) :
    (switchImage s t adopt).drop fm = s.drop fm := by
  refine drop_sub hfm ?_
  unfold switchImage
  repeat' (first | simp only [↓logEvent_drop, ↓installStaged_drop, ↓beginGlueRestart_drop, ↓State.onImg_drop, ↓State.onSpl_drop, id_eq, Nat.reduceAnd, Nat.reduceEqDiff, ↓drop_ite, ↓drop_fst_ite, ↓drop_cond, ↓resState_ite, ↓resState_next, ite_self, cond_self, true_or, or_true, false_or, or_false, implies_true, ↓foldl_drop, ↓foldl_fst_drop] | (refine (State.onImg_drop (by decide) ?_ ?_ ?_ ).trans ?_) | with_reducible rfl | exact Or.inl (by decide) | refine Or.inr fun _ => ?_ | (intro _; split <;> with_reducible rfl) | split)

theorem ringTag_drop {fm : Nat} (s : State) (tag : BitVec 64) (hfm : fm &&& 562717237440 = 562717237440) :
    (ringTag s tag).drop fm = s.drop fm := by
  refine drop_sub hfm ?_
  unfold ringTag
  repeat' (first | simp only [↓logEvent_drop, ↓blockChains_drop, ↓blockCell_drop, ↓State.onImg_drop, ↓State.onSpl_drop, id_eq, Nat.reduceAnd, Nat.reduceEqDiff, ↓drop_ite, ↓drop_fst_ite, ↓drop_cond, ↓resState_ite, ↓resState_next, ite_self, cond_self, true_or, or_true, false_or, or_false, implies_true, ↓foldl_drop, ↓foldl_fst_drop] | (refine (State.onImg_drop (by decide) ?_ ?_ ?_ ).trans ?_) | with_reducible rfl | exact Or.inl (by decide) | refine Or.inr fun _ => ?_ | (intro _; split <;> with_reducible rfl) | split)

theorem takeMode_drop {fm : Nat} (s : State) (b : Nat) (hfm : fm &&& 8589942784 = 8589942784) :
    (takeMode s b).drop fm = s.drop fm := by
  refine drop_sub hfm ?_
  unfold takeMode
  repeat' (first | simp only [↓logEvent_drop, ↓State.onArm_drop, id_eq, Nat.reduceAnd, Nat.reduceEqDiff, ↓drop_ite, ↓drop_fst_ite, ↓drop_cond, ↓resState_ite, ↓resState_next, ite_self, cond_self, true_or, or_true, false_or, or_false, implies_true, ↓foldl_drop, ↓foldl_fst_drop] | (refine (State.onArm_drop (by decide) ?_ ?_ ?_ ?_ ).trans ?_) | with_reducible rfl | exact Or.inl (by decide) | refine Or.inr fun _ => ?_ | (intro _; split <;> with_reducible rfl) | split)

theorem commitLevel_drop {fm : Nat} (s : State) (l : Leg) (len : Nat) (t : Nat) (d : Int) (hfm : fm &&& 8589950984 = 8589950984) :
    (commitLevel s l len t d).drop fm = s.drop fm := by
  refine drop_sub hfm ?_
  unfold commitLevel
  repeat' (first | simp only [↓commitSet_drop, ↓writeShadow_drop, id_eq, Nat.reduceAnd, Nat.reduceEqDiff, ↓drop_ite, ↓drop_fst_ite, ↓drop_cond, ↓resState_ite, ↓resState_next, ite_self, cond_self, true_or, or_true, false_or, or_false, implies_true, ↓foldl_drop, ↓foldl_fst_drop] | split)

theorem computeSets_drop {fm : Nat} (s : State) (r : RefFrame) (o : Nat) (b : Nat) (hfm : fm &&& 8589959176 = 8589959176) :
    (computeSets s r o b).drop fm = s.drop fm := by
  refine drop_sub hfm ?_
  unfold computeSets
  repeat' (first | simp only [↓commitLevel_drop, ↓State.onArm_drop, id_eq, Nat.reduceAnd, Nat.reduceEqDiff, ↓drop_ite, ↓drop_fst_ite, ↓drop_cond, ↓resState_ite, ↓resState_next, ite_self, cond_self, true_or, or_true, false_or, or_false, implies_true, ↓foldl_drop, ↓foldl_fst_drop] | (refine (foldl_drop (fun _ _ => ?_) _ _).trans ?_) | (refine (State.onArm_drop (by decide) ?_ ?_ ?_ ?_ ).trans ?_) | with_reducible rfl | exact Or.inl (by decide) | refine Or.inr fun _ => ?_ | (intro _; split <;> with_reducible rfl) | split)

theorem noteSubst_drop {fm : Nat} (c : Nat) (s : State) (p : Nat) (hfm : fm &&& 8589942784 = 8589942784) :
    (noteSubst c s p).drop fm = s.drop fm := by
  refine drop_sub hfm ?_
  unfold noteSubst
  repeat' (first | simp only [↓logEvent_drop, ↓State.onArm_drop, id_eq, Nat.reduceAnd, Nat.reduceEqDiff, ↓drop_ite, ↓drop_fst_ite, ↓drop_cond, ↓resState_ite, ↓resState_next, ite_self, cond_self, true_or, or_true, false_or, or_false, implies_true, ↓foldl_drop, ↓foldl_fst_drop] | (refine (State.onArm_drop (by decide) ?_ ?_ ?_ ?_ ).trans ?_) | with_reducible rfl | exact Or.inl (by decide) | refine Or.inr fun _ => ?_ | (intro _; split <;> with_reducible rfl) | split)

theorem armStart_drop {fm : Nat} (s : State) (l : Leg) (o : Nat) (b : Nat) (hfm : fm &&& 24576 = 24576) :
    (armStart s l o b).drop fm = s.drop fm := by
  refine drop_sub hfm ?_
  unfold armStart
  repeat' (first | simp only [↓State.onUnit_drop, ↓State.onArm_drop, id_eq, Nat.reduceAnd, Nat.reduceEqDiff, ↓drop_ite, ↓drop_fst_ite, ↓drop_cond, ↓resState_ite, ↓resState_next, ite_self, cond_self, true_or, or_true, false_or, or_false, implies_true, ↓foldl_drop, ↓foldl_fst_drop] | (refine (State.onArm_drop (by decide) ?_ ?_ ?_ ?_ ).trans ?_) | with_reducible rfl | exact Or.inl (by decide) | refine Or.inr fun _ => ?_ | (intro _; split <;> with_reducible rfl) | split)

theorem computeMembership_drop {fm : Nat} (s : State) (b : Nat) (hfm : fm &&& 8589959168 = 8589959168) :
    (computeMembership s b).drop fm = s.drop fm := by
  refine drop_sub hfm ?_
  unfold computeMembership
  repeat' (first | simp only [↓noteSubst_drop, ↓armStart_drop, ↓State.onArm_drop, id_eq, Nat.reduceAnd, Nat.reduceEqDiff, ↓drop_ite, ↓drop_fst_ite, ↓drop_cond, ↓resState_ite, ↓resState_next, ite_self, cond_self, true_or, or_true, false_or, or_false, implies_true, ↓foldl_drop, ↓foldl_fst_drop] | (refine (foldl_drop (fun _ _ => ?_) _ _).trans ?_) | (refine (State.onArm_drop (by decide) ?_ ?_ ?_ ?_ ).trans ?_) | with_reducible rfl | exact Or.inl (by decide) | refine Or.inr fun _ => ?_ | (intro _; split <;> with_reducible rfl) | split)

theorem takeMembership_drop {fm : Nat} (s : State) (hfm : fm &&& 8192 = 8192) :
    (takeMembership s).drop fm = s.drop fm := by
  refine drop_sub hfm ?_
  unfold takeMembership
  repeat' (first | simp only [↓State.onArm_drop, id_eq, Nat.reduceAnd, Nat.reduceEqDiff, ↓drop_ite, ↓drop_fst_ite, ↓drop_cond, ↓resState_ite, ↓resState_next, ite_self, cond_self, true_or, or_true, false_or, or_false, implies_true, ↓foldl_drop, ↓foldl_fst_drop] | (refine (State.onArm_drop (by decide) ?_ ?_ ?_ ?_ ).trans ?_) | with_reducible rfl | exact Or.inl (by decide) | refine Or.inr fun _ => ?_ | (intro _; split <;> with_reducible rfl) | split)

theorem pairingError_drop {fm : Nat} (s : State) (member : Nat) (hfm : fm &&& 8589942784 = 8589942784) :
    (pairingError s member).drop fm = s.drop fm := by
  refine drop_sub hfm ?_
  unfold pairingError
  repeat' (first | simp only [↓logEvent_drop, ↓State.onArm_drop, id_eq, Nat.reduceAnd, Nat.reduceEqDiff, ↓drop_ite, ↓drop_fst_ite, ↓drop_cond, ↓resState_ite, ↓resState_next, ite_self, cond_self, true_or, or_true, false_or, or_false, implies_true, ↓foldl_drop, ↓foldl_fst_drop] | (refine (State.onArm_drop (by decide) ?_ ?_ ?_ ?_ ).trans ?_) | with_reducible rfl | exact Or.inl (by decide) | refine Or.inr fun _ => ?_ | (intro _; split <;> with_reducible rfl) | split)

theorem noteLate_drop {fm : Nat} (s : State) (origin : Nat) (hfm : fm &&& 8589942784 = 8589942784) :
    (noteLate s origin).drop fm = s.drop fm := by
  refine drop_sub hfm ?_
  unfold noteLate
  repeat' (first | simp only [↓logWide_drop, ↓State.onArm_drop, id_eq, Nat.reduceAnd, Nat.reduceEqDiff, ↓drop_ite, ↓drop_fst_ite, ↓drop_cond, ↓resState_ite, ↓resState_next, ite_self, cond_self, true_or, or_true, false_or, or_false, implies_true, ↓foldl_drop, ↓foldl_fst_drop] | (refine (State.onArm_drop (by decide) ?_ ?_ ?_ ?_ ).trans ?_) | with_reducible rfl | exact Or.inl (by decide) | refine Or.inr fun _ => ?_ | (intro _; split <;> with_reducible rfl) | split)

theorem execRefFrameCommit_drop {fm : Nat} (s : State) (hfm : fm &&& 8589959176 = 8589959176) :
    (resState (execRefFrameCommit s) s).drop fm = s.drop fm := by
  refine drop_sub hfm ?_
  have a (t : State) (f : Arm → Arm) (x : ∀ x, (f x).cell = x.cell ∧ (f x).changes = x.changes ∧
      (f x).owner = x.owner ∧ (f x).bypassed = x.bypassed) : (t.onArm f).drop 8589959176 = t.drop 8589959176 :=
    State.onArm_drop (by decide) (.inr fun y => (x y).1) (.inr fun y => (x y).2.1) (.inr fun y => (x y).2.2.1)
      (.inr fun y => (x y).2.2.2)
  have e (o : Nat) (r : RefFrame) : ((noteLate s o).onArm fun a => { a with refQ := (r :: a.refQ).take 3 }).drop
      8589959176 = s.drop 8589959176 :=
    (a _ _ fun _ => ⟨rfl, rfl, rfl, rfl⟩).trans (noteLate_drop s o (by decide))
  have g (o p b : Nat) (r : RefFrame) : (computeSets ((noteLate s o).onArm fun a =>
      { a with refQ := (r :: a.refQ).take 3 }) r p b).drop 8589959176 = s.drop 8589959176 :=
    (computeSets_drop _ r p b (by decide)).trans (e o r)
  unfold execRefFrameCommit
  split
  · rfl
  · split
    · rfl
    · extract_lets r0 s1 b r s2
      split
      · rfl
      · split
        · rw [resState_next, g]
        · rw [resState_next, e]

theorem loseRef_drop {fm : Nat} (s : State) (cause : Nat) (hfm : fm &&& 1799684595712 = 1799684595712) :
    (loseRef s cause).drop fm = s.drop fm := by
  refine drop_sub hfm ?_
  unfold loseRef
  repeat' (first | simp only [↓logEvent_drop, ↓raiseHeld_drop, ↓blockCell_drop, ↓State.onArm_drop, ↓State.onPrt_drop, id_eq, Nat.reduceAnd, Nat.reduceEqDiff, ↓drop_ite, ↓drop_fst_ite, ↓drop_cond, ↓resState_ite, ↓resState_next, ite_self, cond_self, true_or, or_true, false_or, or_false, implies_true, ↓foldl_drop, ↓foldl_fst_drop] | (refine (State.onArm_drop (by decide) ?_ ?_ ?_ ?_ ).trans ?_) | (refine (State.onPrt_drop (by decide) ?_ ?_ ).trans ?_) | with_reducible rfl | exact Or.inl (by decide) | refine Or.inr fun _ => ?_ | (intro _; split <;> with_reducible rfl) | split)

theorem takeReference_drop {fm : Nat} (s : State) (b : Nat) (hfm : fm &&& 1799684612104 = 1799684612104) :
    (takeReference s b).drop fm = s.drop fm := by
  refine drop_sub hfm ?_
  unfold takeReference
  repeat' (first | simp only [↓logEvent_drop, ↓computeSets_drop, ↓loseRef_drop, ↓State.onArm_drop, id_eq, Nat.reduceAnd, Nat.reduceEqDiff, ↓drop_ite, ↓drop_fst_ite, ↓drop_cond, ↓resState_ite, ↓resState_next, ite_self, cond_self, true_or, or_true, false_or, or_false, implies_true, ↓foldl_drop, ↓foldl_fst_drop] | (refine (State.onArm_drop (by decide) ?_ ?_ ?_ ?_ ).trans ?_) | with_reducible rfl | exact Or.inl (by decide) | refine Or.inr fun _ => ?_ | (intro _; split <;> with_reducible rfl) | split)

theorem watchValidMod_drop {fm : Nat} (s : State) (hfm : fm &&& 1799684595712 = 1799684595712) :
    (watchValidMod s).drop fm = s.drop fm := by
  refine drop_sub hfm ?_
  unfold watchValidMod
  repeat' (first | simp only [↓loseRef_drop, ↓State.onArm_drop, id_eq, Nat.reduceAnd, Nat.reduceEqDiff, ↓drop_ite, ↓drop_fst_ite, ↓drop_cond, ↓resState_ite, ↓resState_next, ite_self, cond_self, true_or, or_true, false_or, or_false, implies_true, ↓foldl_drop, ↓foldl_fst_drop] | (refine (State.onArm_drop (by decide) ?_ ?_ ?_ ?_ ).trans ?_) | with_reducible rfl | exact Or.inl (by decide) | refine Or.inr fun _ => ?_ | (intro _; split <;> with_reducible rfl) | split)

theorem startLeg_drop {fm : Nat} (s : State) (l : Leg) (hfm : fm &&& 549755863040 = 549755863040) :
    (startLeg s l).drop fm = s.drop fm := by
  refine drop_sub hfm ?_
  unfold startLeg
  repeat' (first | simp only [↓State.onLeg_drop, ↓State.onGlk_drop, ↓State.onUnit_drop, id_eq, Nat.reduceAnd, Nat.reduceEqDiff, ↓drop_ite, ↓drop_fst_ite, ↓drop_cond, ↓resState_ite, ↓resState_next, ite_self, cond_self, true_or, or_true, false_or, or_false, implies_true, ↓foldl_drop, ↓foldl_fst_drop] | (refine (State.onGlk_drop (by decide) ?_ ?_ ?_ ?_ ?_ ?_ ?_ ).trans ?_) | with_reducible rfl | exact Or.inl (by decide) | refine Or.inr fun _ => ?_ | (intro _; split <;> with_reducible rfl) | split)

theorem stopLegs_drop {fm : Nat} (s : State) (hfm : fm &&& 549755846656 = 549755846656) :
    (stopLegs s).drop fm = s.drop fm := by
  refine drop_sub hfm ?_
  unfold stopLegs
  repeat' (first | simp only [↓State.onGlk_drop, id_eq, Nat.reduceAnd, Nat.reduceEqDiff, ↓drop_ite, ↓drop_fst_ite, ↓drop_cond, ↓resState_ite, ↓resState_next, ite_self, cond_self, true_or, or_true, false_or, or_false, implies_true, ↓foldl_drop, ↓foldl_fst_drop] | (refine (State.onGlk_drop (by decide) ?_ ?_ ?_ ?_ ?_ ?_ ?_ ).trans ?_) | with_reducible rfl | exact Or.inl (by decide) | refine Or.inr fun _ => ?_ | (intro _; split <;> with_reducible rfl) | split)

theorem publishState_drop {fm : Nat} (s : State) (n : CellSt) (hfm : fm &&& 549755872256 = 549755872256) :
    (publishState s n).drop fm = s.drop fm := by
  refine drop_sub hfm ?_
  unfold publishState
  repeat' (first | simp only [↓stopLegs_drop, ↓startLeg_drop, ↓cancelTest_drop, ↓State.onArm_drop, id_eq, Nat.reduceAnd, Nat.reduceEqDiff, ↓drop_ite, ↓drop_fst_ite, ↓drop_cond, ↓resState_ite, ↓resState_next, ite_self, cond_self, true_or, or_true, false_or, or_false, implies_true, ↓foldl_drop, ↓foldl_fst_drop] | (refine (State.onArm_drop (by decide) ?_ ?_ ?_ ?_ ).trans ?_) | with_reducible rfl | exact Or.inl (by decide) | refine Or.inr fun _ => ?_ | (intro _; split <;> with_reducible rfl) | split)

theorem chainAtBoundary_drop {fm : Nat} (s : State) (c : ChainId) (hfm : fm &&& 12961415168 = 12961415168) :
    (chainAtBoundary s c).drop fm = s.drop fm := by
  refine drop_sub hfm ?_
  unfold chainAtBoundary
  repeat' (first | simp only [↓bypassAllZero_drop, ↓enterRun_drop, id_eq, Nat.reduceAnd, Nat.reduceEqDiff, ↓drop_ite, ↓drop_fst_ite, ↓drop_cond, ↓resState_ite, ↓resState_next, ite_self, cond_self, true_or, or_true, false_or, or_false, implies_true, ↓foldl_drop, ↓foldl_fst_drop] | split)

theorem energiseChain_drop {fm : Nat} (s : State) (c : ChainId) (hfm : fm &&& 983040 = 983040) :
    (energiseChain s c).drop fm = s.drop fm := by
  refine drop_sub hfm ?_
  unfold energiseChain
  repeat' (first | simp only [↓startConnect_drop, id_eq, Nat.reduceAnd, Nat.reduceEqDiff, ↓drop_ite, ↓drop_fst_ite, ↓drop_cond, ↓resState_ite, ↓resState_next, ite_self, cond_self, true_or, or_true, false_or, or_false, implies_true, ↓foldl_drop, ↓foldl_fst_drop] | split)

theorem prunePubs_drop {fm : Nat} (s : State) (b : Nat) (hfm : fm &&& 128 = 128) :
    (prunePubs s b).drop fm = s.drop fm := by
  refine drop_sub hfm ?_
  unfold prunePubs
  repeat' (first | simp only [↓State.onSpl_drop, id_eq, Nat.reduceAnd, Nat.reduceEqDiff, ↓drop_ite, ↓drop_fst_ite, ↓drop_cond, ↓resState_ite, ↓resState_next, ite_self, cond_self, true_or, or_true, false_or, or_false, implies_true, ↓foldl_drop, ↓foldl_fst_drop] | split)

theorem countWindow_drop {fm : Nat} (s : State) (hfm : fm &&& 64 = 64) :
    (countWindow s).drop fm = s.drop fm := by
  refine drop_sub hfm ?_
  unfold countWindow
  repeat' (first | simp only [↓State.onImg_drop, id_eq, Nat.reduceAnd, Nat.reduceEqDiff, ↓drop_ite, ↓drop_fst_ite, ↓drop_cond, ↓resState_ite, ↓resState_next, ite_self, cond_self, true_or, or_true, false_or, or_false, implies_true, ↓foldl_drop, ↓foldl_fst_drop] | (refine (State.onImg_drop (by decide) ?_ ?_ ?_ ).trans ?_) | with_reducible rfl | exact Or.inl (by decide) | refine Or.inr fun _ => ?_ | (intro _; split <;> with_reducible rfl) | split)

theorem boundaryWork_drop {fm : Nat} (s : State) (b : Nat) (hfm : fm &&& 6197731124680 = 6197731124680) :
    (boundaryWork s b).drop fm = s.drop fm := by
  refine drop_sub hfm ?_
  have a (t : State) (f : Arm → Arm) (x : ∀ x, (f x).cell = x.cell ∧ (f x).changes = x.changes ∧
      (f x).owner = x.owner ∧ (f x).bypassed = x.bypassed) : (t.onArm f).drop 6197731124680 = t.drop 6197731124680 :=
    State.onArm_drop (by decide) (.inr fun y => (x y).1) (.inr fun y => (x y).2.1) (.inr fun y => (x y).2.2.1)
      (.inr fun y => (x y).2.2.2)
  unfold boundaryWork
  extract_lets s0 s1 s2 s2' s3 s4 p s5 s5' s6 s7 s8 s9 s10
  have e0 : s0.drop 6197731124680 = s.drop 6197731124680 := by
    simp only [s0, ↓State.onTim_drop, ↓countWindow_drop, ↓prunePubs_drop, Nat.reduceAnd]
  have e1 : s1.drop 6197731124680 = s.drop 6197731124680 := (a s0 _ fun _ => ⟨rfl, rfl, rfl, rfl⟩).trans e0
  clear_value s0 s1
  have e2 : s2.drop 6197731124680 = s.drop 6197731124680 := (takeMode_drop s1 b (by decide)).trans e1
  clear_value s2
  have e2' : s2'.drop 6197731124680 = s.drop 6197731124680 := by
    simp only [s2', ↓drop_ite, ↓releaseAtRun_drop, Nat.reduceAnd, e2, ite_self]
  clear_value s2'
  have e3 : s3.drop 6197731124680 = s.drop 6197731124680 := by
    simp only [s3, ↓watchValidMod_drop, ↓takeReference_drop, Nat.reduceAnd, e2']
  clear_value s3
  have e4 : s4.drop 6197731124680 = s.drop 6197731124680 := (takeMembership_drop s3 (by decide)).trans e3
  clear_value s4 p
  have e5 : s5.drop 6197731124680 = s.drop 6197731124680 := (a s4 _ fun _ => ⟨rfl, rfl, rfl, rfl⟩).trans e4
  clear_value s5
  have e5' : s5'.drop 6197731124680 = s.drop 6197731124680 := by
    simp only [s5', ↓drop_ite, ↓pairingError_drop, Nat.reduceAnd, e5, ite_self]
  clear_value s5'
  have e6 : s6.drop 6197731124680 = s.drop 6197731124680 := (publishState_drop s5' _ (by decide)).trans e5'
  have e7 : s7.drop 6197731124680 = s.drop 6197731124680 := (State.onGlk_drop (by decide) (.inl (by decide)) (.inl (by decide)) (.inr fun _ => rfl) (.inl (by decide)) (.inr fun _ => rfl) (.inr fun _ => rfl) (.inr fun _ => rfl)).trans e6
  clear_value s6 s7
  have e8 : s8.drop 6197731124680 = s.drop 6197731124680 := by
    simp only [s8, ↓State.forChains_drop, ↓chainAtBoundary_drop, ↓energiseChain_drop, Nat.reduceAnd, implies_true, e7]
  clear_value s8
  have e9 : s9.drop 6197731124680 = s.drop 6197731124680 := (computeMembership_drop s8 _ (by decide)).trans e8
  clear_value s9
  have e10 : s10.drop 6197731124680 = s.drop 6197731124680 := by
    simp only [s10]
    split
    · exact e9
    · exact (computeSets_drop s9 _ _ _ (by decide)).trans e9
  simp only [↓watchActs_drop, ↓refreshBridge_drop, ↓watchReady_drop, Nat.reduceAnd, e10]

theorem execCycleBoundary_drop {fm : Nat} (s : State) (hfm : fm &&& 6200012832254 = 6200012832254) :
    (resState (execCycleBoundary s) s).drop fm = s.drop fm := by
  refine drop_sub hfm ?_
  unfold execCycleBoundary
  repeat' (first | simp only [↓boundaryWork_drop, ↓switchImage_drop, ↓State.onArm_drop, id_eq, Nat.reduceAnd, Nat.reduceEqDiff, ↓drop_ite, ↓drop_fst_ite, ↓drop_cond, ↓resState_ite, ↓resState_next, ite_self, cond_self, true_or, or_true, false_or, or_false, implies_true, ↓foldl_drop, ↓foldl_fst_drop] | (refine (State.onArm_drop (by decide) ?_ ?_ ?_ ?_ ).trans ?_) | with_reducible rfl | exact Or.inl (by decide) | refine Or.inr fun _ => ?_ | (intro _; split <;> with_reducible rfl) | split)

theorem portDown_drop {fm : Nat} (s : State) (p : RPort) (cause : PortCause) (hfm : fm &&& 8589934720 = 8589934720) :
    (portDown s p cause).drop fm = s.drop fm := by
  refine drop_sub hfm ?_
  unfold portDown
  repeat' (first | simp only [↓logEvent_drop, ↓State.onPort_drop, id_eq, Nat.reduceAnd, Nat.reduceEqDiff, ↓drop_ite, ↓drop_fst_ite, ↓drop_cond, ↓resState_ite, ↓resState_next, ite_self, cond_self, true_or, or_true, false_or, or_false, implies_true, ↓foldl_drop, ↓foldl_fst_drop] | split)

theorem execSplBlockLock_drop {fm : Nat} (port : RPort) (locked : Bool) (s : State) (hfm : fm &&& 146028888192 = 146028888192) :
    (resState (execSplBlockLock port locked s) s).drop fm = s.drop fm := by
  refine drop_sub hfm ?_
  unfold execSplBlockLock
  repeat' (first | simp only [↓send_drop, ↓portDown_drop, ↓State.onPort_drop, id_eq, Nat.reduceAnd, Nat.reduceEqDiff, ↓drop_ite, ↓drop_fst_ite, ↓drop_cond, ↓resState_ite, ↓resState_next, ite_self, cond_self, true_or, or_true, false_or, or_false, implies_true, ↓foldl_drop, ↓foldl_fst_drop] | split)

theorem execSplPortUp_drop {fm : Nat} (port : RPort) (s : State) (hfm : fm &&& 8589934720 = 8589934720) :
    (resState (execSplPortUp port s) s).drop fm = s.drop fm := by
  refine drop_sub hfm ?_
  unfold execSplPortUp
  repeat' (first | simp only [↓logEvent_drop, ↓State.onPort_drop, id_eq, Nat.reduceAnd, Nat.reduceEqDiff, ↓drop_ite, ↓drop_fst_ite, ↓drop_cond, ↓resState_ite, ↓resState_next, ite_self, cond_self, true_or, or_true, false_or, or_false, implies_true, ↓foldl_drop, ↓foldl_fst_drop] | split)

theorem execSplPortDown_drop {fm : Nat} (port : RPort) (cause : PortCause) (s : State) (hfm : fm &&& 8589934728 = 8589934728) :
    (resState (execSplPortDown port cause s) s).drop fm = s.drop fm := by
  refine drop_sub hfm ?_
  unfold execSplPortDown
  repeat' (first | simp only [↓logEvent_drop, ↓dcqFull_drop, ↓portDown_drop, ↓State.onPort_drop, id_eq, Nat.reduceAnd, Nat.reduceEqDiff, ↓drop_ite, ↓drop_fst_ite, ↓drop_cond, ↓resState_ite, ↓resState_next, ite_self, cond_self, true_or, or_true, false_or, or_false, implies_true, ↓foldl_drop, ↓foldl_fst_drop] | split)

theorem badSet_drop {fm : Nat} (s : State) (hfm : fm &&& 128 = 128) :
    (badSet s).drop fm = s.drop fm := by
  refine drop_sub hfm ?_
  unfold badSet
  repeat' (first | simp only [↓State.onSpl_drop, id_eq, Nat.reduceAnd, Nat.reduceEqDiff, ↓drop_ite, ↓drop_fst_ite, ↓drop_cond, ↓resState_ite, ↓resState_next, ite_self, cond_self, true_or, or_true, false_or, or_false, implies_true, ↓foldl_drop, ↓foldl_fst_drop] | split)

theorem takeOrdered_drop {fm : Nat} {s : State} {port : RPort} {x : OrdSet} {f : State → State} (h : fm &&& 128 = 128)
    (hf : ∀ t, (f t).drop fm = t.drop fm) : (takeOrdered s port x f).drop fm = s.drop fm := by
  unfold takeOrdered
  split
  · rfl
  · split
    · exact hf s
    · exact badSet_drop s h

theorem execHelloRx_drop {fm : Nat} (port : RPort) (x : OrdSet) (s : State) (hfm : fm &&& 128 = 128) :
    (resState (execHelloRx port x s) s).drop fm = s.drop fm := by
  refine drop_sub hfm ?_
  unfold execHelloRx
  repeat' (first | simp only [↓State.onPort_drop, id_eq, Nat.reduceAnd, Nat.reduceEqDiff, ↓drop_ite, ↓drop_fst_ite, ↓drop_cond, ↓resState_ite, ↓resState_next, ite_self, cond_self, true_or, or_true, false_or, or_false, implies_true, ↓foldl_drop, ↓foldl_fst_drop] | (refine (takeOrdered_drop (by decide) (fun _ => ?_)).trans ?_) | split)

theorem sendPing_drop {fm : Nat} (s : State) (p : RPort) (hfm : fm &&& 137438953600 = 137438953600) :
    (sendPing s p).drop fm = s.drop fm := by
  refine drop_sub hfm ?_
  unfold sendPing
  repeat' (first | simp only [↓send_drop, ↓State.onPort_drop, id_eq, Nat.reduceAnd, Nat.reduceEqDiff, ↓drop_ite, ↓drop_fst_ite, ↓drop_cond, ↓resState_ite, ↓resState_next, ite_self, cond_self, true_or, or_true, false_or, or_false, implies_true, ↓foldl_drop, ↓foldl_fst_drop] | split)

theorem execShimPingTimer_drop {fm : Nat} (s : State) (hfm : fm &&& 137438953600 = 137438953600) :
    (resState (execShimPingTimer s) s).drop fm = s.drop fm := by
  refine drop_sub hfm ?_
  unfold execShimPingTimer
  repeat' (first | simp only [↓sendPing_drop, id_eq, Nat.reduceAnd, Nat.reduceEqDiff, ↓drop_ite, ↓drop_fst_ite, ↓drop_cond, ↓resState_ite, ↓resState_next, ite_self, cond_self, true_or, or_true, false_or, or_false, implies_true, ↓foldl_drop, ↓foldl_fst_drop] | split)

theorem execShimPingRx_drop {fm : Nat} (port : RPort) (x : OrdSet) (turnaround : Nat) (s : State) (hfm : fm &&& 137438953600 = 137438953600) :
    (resState (execShimPingRx port x turnaround s) s).drop fm = s.drop fm := by
  refine drop_sub hfm ?_
  unfold execShimPingRx
  repeat' (first | simp only [↓send_drop, id_eq, Nat.reduceAnd, Nat.reduceEqDiff, ↓drop_ite, ↓drop_fst_ite, ↓drop_cond, ↓resState_ite, ↓resState_next, ite_self, cond_self, true_or, or_true, false_or, or_false, implies_true, ↓foldl_drop, ↓foldl_fst_drop] | (refine (takeOrdered_drop (by decide) (fun _ => ?_)).trans ?_) | split)

theorem takeEcho_drop {fm : Nat} (s : State) (port : RPort) (x : OrdSet) (roundTrip : Nat) (hfm : fm &&& 8589934720 = 8589934720) :
    (takeEcho s port x roundTrip).drop fm = s.drop fm := by
  refine drop_sub hfm ?_
  unfold takeEcho
  repeat' (first | simp only [↓portDown_drop, ↓logEvent_drop, ↓State.onPort_drop, id_eq, Nat.reduceAnd, Nat.reduceEqDiff, ↓drop_ite, ↓drop_fst_ite, ↓drop_cond, ↓resState_ite, ↓resState_next, ite_self, cond_self, true_or, or_true, false_or, or_false, implies_true, ↓foldl_drop, ↓foldl_fst_drop] | split)

theorem execShimEchoRx_drop {fm : Nat} (port : RPort) (x : OrdSet) (roundTrip : Nat) (s : State) (hfm : fm &&& 8589934720 = 8589934720) :
    (resState (execShimEchoRx port x roundTrip s) s).drop fm = s.drop fm := by
  refine drop_sub hfm ?_
  unfold execShimEchoRx
  repeat' (first | simp only [↓takeEcho_drop, id_eq, Nat.reduceAnd, Nat.reduceEqDiff, ↓drop_ite, ↓drop_fst_ite, ↓drop_cond, ↓resState_ite, ↓resState_next, ite_self, cond_self, true_or, or_true, false_or, or_false, implies_true, ↓foldl_drop, ↓foldl_fst_drop] | (refine (takeOrdered_drop (by decide) (fun _ => ?_)).trans ?_) | split)

theorem urgBlock_drop {fm : Nat} (s : State) (hfm : fm &&& 558345789440 = 558345789440) :
    (urgBlock s).drop fm = s.drop fm := by
  refine drop_sub hfm ?_
  unfold urgBlock
  repeat' (first | simp only [↓refreshBridge_drop, ↓blockCell_drop, id_eq, Nat.reduceAnd, Nat.reduceEqDiff, ↓drop_ite, ↓drop_fst_ite, ↓drop_cond, ↓resState_ite, ↓resState_next, ite_self, cond_self, true_or, or_true, false_or, or_false, implies_true, ↓foldl_drop, ↓foldl_fst_drop] | split)

theorem urgBypass_drop {fm : Nat} (s : State) (hfm : fm &&& 4960763748352 = 4960763748352) :
    (urgBypass s).drop fm = s.drop fm := by
  refine drop_sub hfm ?_
  unfold urgBypass
  repeat' (first | simp only [↓refreshBridge_drop, ↓blockCell_drop, ↓bypassAllZero_drop, ↓State.onGlk_drop, ↓State.forChains_drop, id_eq, Nat.reduceAnd, Nat.reduceEqDiff, ↓drop_ite, ↓drop_fst_ite, ↓drop_cond, ↓resState_ite, ↓resState_next, ite_self, cond_self, true_or, or_true, false_or, or_false, implies_true, ↓foldl_drop, ↓foldl_fst_drop] | (refine (State.forChains_drop (fun _ _ => ?_) _).trans ?_) | (refine (State.onGlk_drop (by decide) ?_ ?_ ?_ ?_ ?_ ?_ ?_ ).trans ?_) | with_reducible rfl | exact Or.inl (by decide) | refine Or.inr fun _ => ?_ | (intro _; split <;> with_reducible rfl) | split)

theorem urgResume_drop {fm : Nat} (s : State) (hfm : fm &&& 4406636478464 = 4406636478464) :
    (urgResume s).drop fm = s.drop fm := by
  refine drop_sub hfm ?_
  unfold urgResume
  repeat' (first | simp only [↓refreshBridge_drop, ↓State.onGlk_drop, id_eq, Nat.reduceAnd, Nat.reduceEqDiff, ↓drop_ite, ↓drop_fst_ite, ↓drop_cond, ↓resState_ite, ↓resState_next, ite_self, cond_self, true_or, or_true, false_or, or_false, implies_true, ↓foldl_drop, ↓foldl_fst_drop] | (refine (State.onGlk_drop (by decide) ?_ ?_ ?_ ?_ ?_ ?_ ?_ ).trans ?_) | with_reducible rfl | exact Or.inl (by decide) | refine Or.inr fun _ => ?_ | (intro _; split <;> with_reducible rfl) | split)

theorem actUrgent_drop {fm : Nat} (s : State) (code : Nat) (seq : Nat) (hfm : fm &&& 4960763748480 = 4960763748480) :
    (actUrgent s code seq).drop fm = s.drop fm := by
  refine drop_sub hfm ?_
  unfold actUrgent
  repeat' (first | simp only [↓logEvent_drop, ↓watchActs_drop, ↓urgBlock_drop, ↓urgBypass_drop, ↓urgResume_drop, ↓State.onSpl_drop, id_eq, Nat.reduceAnd, Nat.reduceEqDiff, ↓drop_ite, ↓drop_fst_ite, ↓drop_cond, ↓resState_ite, ↓resState_next, ite_self, cond_self, true_or, or_true, false_or, or_false, implies_true, ↓foldl_drop, ↓foldl_fst_drop] | split)

theorem forwardUrgent_drop {fm : Nat} (s : State) (port : RPort) (x : OrdSet) (hfm : fm &&& 137438953600 = 137438953600) :
    (forwardUrgent s port x).drop fm = s.drop fm := by
  refine drop_sub hfm ?_
  unfold forwardUrgent
  repeat' (first | simp only [↓send_drop, ↓State.onSpl_drop, id_eq, Nat.reduceAnd, Nat.reduceEqDiff, ↓drop_ite, ↓drop_fst_ite, ↓drop_cond, ↓resState_ite, ↓resState_next, ite_self, cond_self, true_or, or_true, false_or, or_false, implies_true, ↓foldl_drop, ↓foldl_fst_drop] | split)

theorem urgentRx_drop {fm : Nat} (s : State) (port : RPort) (x : OrdSet) (hfm : fm &&& 5098202701952 = 5098202701952) :
    (urgentRx s port x).drop fm = s.drop fm := by
  refine drop_sub hfm ?_
  unfold urgentRx
  repeat' (first | simp only [↓actUrgent_drop, ↓forwardUrgent_drop, id_eq, Nat.reduceAnd, Nat.reduceEqDiff, ↓drop_ite, ↓drop_fst_ite, ↓drop_cond, ↓resState_ite, ↓resState_next, ite_self, cond_self, true_or, or_true, false_or, or_false, implies_true, ↓foldl_drop, ↓foldl_fst_drop] | (refine (takeOrdered_drop (by decide) (fun _ => ?_)).trans ?_) | split)

theorem execUrgentArmBlock_drop {fm : Nat} (port : RPort) (x : OrdSet) (s : State) (hfm : fm &&& 5098202701952 = 5098202701952) :
    (resState (execUrgentArmBlock port x s) s).drop fm = s.drop fm := by
  refine drop_sub hfm ?_
  unfold execUrgentArmBlock
  repeat' (first | simp only [↓urgentRx_drop, id_eq, Nat.reduceAnd, Nat.reduceEqDiff, ↓drop_ite, ↓drop_fst_ite, ↓drop_cond, ↓resState_ite, ↓resState_next, ite_self, cond_self, true_or, or_true, false_or, or_false, implies_true, ↓foldl_drop, ↓foldl_fst_drop] | split)

theorem execUrgentBypassAll_drop {fm : Nat} (port : RPort) (x : OrdSet) (s : State) (hfm : fm &&& 5098202701952 = 5098202701952) :
    (resState (execUrgentBypassAll port x s) s).drop fm = s.drop fm := by
  refine drop_sub hfm ?_
  unfold execUrgentBypassAll
  repeat' (first | simp only [↓urgentRx_drop, id_eq, Nat.reduceAnd, Nat.reduceEqDiff, ↓drop_ite, ↓drop_fst_ite, ↓drop_cond, ↓resState_ite, ↓resState_next, ite_self, cond_self, true_or, or_true, false_or, or_false, implies_true, ↓foldl_drop, ↓foldl_fst_drop] | split)

theorem execUrgentResume_drop {fm : Nat} (port : RPort) (x : OrdSet) (s : State) (hfm : fm &&& 5098202701952 = 5098202701952) :
    (resState (execUrgentResume port x s) s).drop fm = s.drop fm := by
  refine drop_sub hfm ?_
  unfold execUrgentResume
  repeat' (first | simp only [↓urgentRx_drop, id_eq, Nat.reduceAnd, Nat.reduceEqDiff, ↓drop_ite, ↓drop_fst_ite, ↓drop_cond, ↓resState_ite, ↓resState_next, ite_self, cond_self, true_or, or_true, false_or, or_false, implies_true, ↓foldl_drop, ↓foldl_fst_drop] | split)

theorem violation_drop {fm : Nat} (s : State) (p : RPort) (slot : Nat) (hfm : fm &&& 8589934720 = 8589934720) :
    (violation s p slot).drop fm = s.drop fm := by
  refine drop_sub hfm ?_
  unfold violation
  repeat' (first | simp only [↓logEvent_drop, ↓State.onPort_drop, id_eq, Nat.reduceAnd, Nat.reduceEqDiff, ↓drop_ite, ↓drop_fst_ite, ↓drop_cond, ↓resState_ite, ↓resState_next, ite_self, cond_self, true_or, or_true, false_or, or_false, implies_true, ↓foldl_drop, ↓foldl_fst_drop] | split)

theorem noteResidence_drop {fm : Nat} (s : State) (p : RPort) (n : Nat) (hfm : fm &&& 128 = 128) :
    (noteResidence s p n).drop fm = s.drop fm := by
  refine drop_sub hfm ?_
  unfold noteResidence
  repeat' (first | simp only [↓State.onSpl_drop, id_eq, Nat.reduceAnd, Nat.reduceEqDiff, ↓drop_ite, ↓drop_fst_ite, ↓drop_cond, ↓resState_ite, ↓resState_next, ite_self, cond_self, true_or, or_true, false_or, or_false, implies_true, ↓foldl_drop, ↓foldl_fst_drop] | split)

theorem passOn_drop {fm : Nat} (s : State) (port : RPort) (b : List Byte) (out : List Byte) (hfm : fm &&& 137438953472 = 137438953472) :
    (passOn s port b out).drop fm = s.drop fm := by
  refine drop_sub hfm ?_
  unfold passOn
  repeat' (first | simp only [↓send_drop, id_eq, Nat.reduceAnd, Nat.reduceEqDiff, ↓drop_ite, ↓drop_fst_ite, ↓drop_cond, ↓resState_ite, ↓resState_next, ite_self, cond_self, true_or, or_true, false_or, or_false, implies_true, ↓foldl_drop, ↓foldl_fst_drop] | split)

theorem execFrameForward_drop {fm : Nat} (port : RPort) (b : List Byte) (residence : Nat) (cut : Option Nat) (s : State) (hfm : fm &&& 146028888200 = 146028888200) :
    (resState (execFrameForward port b residence cut s) s).drop fm = s.drop fm := by
  refine drop_sub hfm ?_
  unfold execFrameForward
  repeat' (first | simp only [↓portDown_drop, ↓logEvent_drop, ↓dcqFull_drop, ↓passOn_drop, ↓violation_drop, ↓noteResidence_drop, ↓State.onSpl_drop, id_eq, Nat.reduceAnd, Nat.reduceEqDiff, ↓drop_ite, ↓drop_fst_ite, ↓drop_cond, ↓resState_ite, ↓resState_next, ite_self, cond_self, true_or, or_true, false_or, or_false, implies_true, ↓foldl_drop, ↓foldl_fst_drop] | split)

theorem execPortReadmit_drop {fm : Nat} (port : RPort) (s : State) (hfm : fm &&& 8589934720 = 8589934720) :
    (resState (execPortReadmit port s) s).drop fm = s.drop fm := by
  refine drop_sub hfm ?_
  unfold execPortReadmit
  repeat' (first | simp only [↓logEvent_drop, ↓State.onPort_drop, id_eq, Nat.reduceAnd, Nat.reduceEqDiff, ↓drop_ite, ↓drop_fst_ite, ↓drop_cond, ↓resState_ite, ↓resState_next, ite_self, cond_self, true_or, or_true, false_or, or_false, implies_true, ↓foldl_drop, ↓foldl_fst_drop] | split)

theorem enterConflict_drop {fm : Nat} (s : State) (p : Nat) (hfm : fm &&& 8589934720 = 8589934720) :
    (enterConflict s p).drop fm = s.drop fm := by
  refine drop_sub hfm ?_
  unfold enterConflict
  repeat' (first | simp only [↓logEvent_drop, ↓State.onSpl_drop, id_eq, Nat.reduceAnd, Nat.reduceEqDiff, ↓drop_ite, ↓drop_fst_ite, ↓drop_cond, ↓resState_ite, ↓resState_next, ite_self, cond_self, true_or, or_true, false_or, or_false, implies_true, ↓foldl_drop, ↓foldl_fst_drop] | split)

theorem countAgreement_drop {fm : Nat} (s : State) (v : Option (Nat × Nat × Nat)) (hfm : fm &&& 128 = 128) :
    (countAgreement s v).drop fm = s.drop fm := by
  refine drop_sub hfm ?_
  unfold countAgreement
  repeat' (first | simp only [↓State.onSpl_drop, id_eq, Nat.reduceAnd, Nat.reduceEqDiff, ↓drop_ite, ↓drop_fst_ite, ↓drop_cond, ↓resState_ite, ↓resState_next, ite_self, cond_self, true_or, or_true, false_or, or_false, implies_true, ↓foldl_drop, ↓foldl_fst_drop] | split)

theorem judgePosition_drop {fm : Nat} (s : State) (f : ArmCycle) (hfm : fm &&& 8589934720 = 8589934720) :
    (judgePosition s f).drop fm = s.drop fm := by
  refine drop_sub hfm ?_
  unfold judgePosition
  repeat' (first | simp only [↓countAgreement_drop, ↓enterConflict_drop, ↓State.onSpl_drop, id_eq, Nat.reduceAnd, Nat.reduceEqDiff, ↓drop_ite, ↓drop_fst_ite, ↓drop_cond, ↓resState_ite, ↓resState_next, ite_self, cond_self, true_or, or_true, false_or, or_false, implies_true, ↓foldl_drop, ↓foldl_fst_drop] | split)

theorem countGood_drop {fm : Nat} (s : State) (e : Int) (hfm : fm &&& 8589934848 = 8589934848) :
    (countGood s e).drop fm = s.drop fm := by
  refine drop_sub hfm ?_
  unfold countGood
  repeat' (first | simp only [↓logEvent_drop, ↓State.onTim_drop, id_eq, Nat.reduceAnd, Nat.reduceEqDiff, ↓drop_ite, ↓drop_fst_ite, ↓drop_cond, ↓resState_ite, ↓resState_next, ite_self, cond_self, true_or, or_true, false_or, or_false, implies_true, ↓foldl_drop, ↓foldl_fst_drop] | split)

theorem anchorBoundary_drop {fm : Nat} (s : State) (cycle : Nat) (hfm : fm &&& 8192 = 8192) :
    (anchorBoundary s cycle).drop fm = s.drop fm := by
  refine drop_sub hfm ?_
  unfold anchorBoundary
  repeat' (first | simp only [↓State.onArm_drop, id_eq, Nat.reduceAnd, Nat.reduceEqDiff, ↓drop_ite, ↓drop_fst_ite, ↓drop_cond, ↓resState_ite, ↓resState_next, ite_self, cond_self, true_or, or_true, false_or, or_false, implies_true, ↓foldl_drop, ↓foldl_fst_drop] | (refine (State.onArm_drop (by decide) ?_ ?_ ?_ ?_ ).trans ?_) | with_reducible rfl | exact Or.inl (by decide) | refine Or.inr fun _ => ?_ | (intro _; split <;> with_reducible rfl) | split)

theorem stepTime_drop {fm : Nat} (s : State) (e : Int) (cycle : Nat) (hfm : fm &&& 8589943040 = 8589943040) :
    (stepTime s e cycle).drop fm = s.drop fm := by
  refine drop_sub hfm ?_
  unfold stepTime
  repeat' (first | simp only [↓anchorBoundary_drop, ↓logWideS_drop, ↓State.onTim_drop, id_eq, Nat.reduceAnd, Nat.reduceEqDiff, ↓drop_ite, ↓drop_fst_ite, ↓drop_cond, ↓resState_ite, ↓resState_next, ite_self, cond_self, true_or, or_true, false_or, or_false, implies_true, ↓foldl_drop, ↓foldl_fst_drop] | split)

theorem slewTime_drop {fm : Nat} (s : State) (e : Int) (hfm : fm &&& 256 = 256) :
    (slewTime s e).drop fm = s.drop fm := by
  refine drop_sub hfm ?_
  unfold slewTime
  repeat' (first | simp only [↓State.onTim_drop, id_eq, Nat.reduceAnd, Nat.reduceEqDiff, ↓drop_ite, ↓drop_fst_ite, ↓drop_cond, ↓resState_ite, ↓resState_next, ite_self, cond_self, true_or, or_true, false_or, or_false, implies_true, ↓foldl_drop, ↓foldl_fst_drop] | split)

theorem discipline_drop {fm : Nat} (s : State) (west : Bool) (e : Int) (cycle : Nat) (hfm : fm &&& 8589943040 = 8589943040) :
    (discipline s west e cycle).drop fm = s.drop fm := by
  refine drop_sub hfm ?_
  unfold discipline
  repeat' (first | simp only [↓slewTime_drop, ↓stepTime_drop, ↓countGood_drop, ↓State.onTim_drop, id_eq, Nat.reduceAnd, Nat.reduceEqDiff, ↓drop_ite, ↓drop_fst_ite, ↓drop_cond, ↓resState_ite, ↓resState_next, ite_self, cond_self, true_or, or_true, false_or, or_false, implies_true, ↓foldl_drop, ↓foldl_fst_drop] | split)

theorem newCopyCycle_drop {fm : Nat} (s : State) (cycle : Nat) (hfm : fm &&& 8589943040 = 8589943040) :
    (newCopyCycle s cycle).drop fm = s.drop fm := by
  refine drop_sub hfm ?_
  unfold newCopyCycle
  repeat' (first | simp only [↓discipline_drop, ↓State.onTim_drop, id_eq, Nat.reduceAnd, Nat.reduceEqDiff, ↓drop_ite, ↓drop_fst_ite, ↓drop_cond, ↓resState_ite, ↓resState_next, ite_self, cond_self, true_or, or_true, false_or, or_false, implies_true, ↓foldl_drop, ↓foldl_fst_drop] | split)

theorem noteSkew_drop {fm : Nat} (s : State) (hfm : fm &&& 8589934848 = 8589934848) :
    (noteSkew s).drop fm = s.drop fm := by
  refine drop_sub hfm ?_
  unfold noteSkew
  repeat' (first | simp only [↓logEvent_drop, ↓State.onTim_drop, id_eq, Nat.reduceAnd, Nat.reduceEqDiff, ↓drop_ite, ↓drop_fst_ite, ↓drop_cond, ↓resState_ite, ↓resState_next, ite_self, cond_self, true_or, or_true, false_or, or_false, implies_true, ↓foldl_drop, ↓foldl_fst_drop] | split)

theorem timeCopy_drop {fm : Nat} (s0 : State) (port : RPort) (f : ArmCycle) (hfm : fm &&& 8589943040 = 8589943040) :
    (timeCopy s0 port f).drop fm = s0.drop fm := by
  refine drop_sub hfm ?_
  unfold timeCopy
  repeat' (first | simp only [↓newCopyCycle_drop, ↓noteSkew_drop, ↓discipline_drop, ↓State.onTim_drop, id_eq, Nat.reduceAnd, Nat.reduceEqDiff, ↓drop_ite, ↓drop_fst_ite, ↓drop_cond, ↓resState_ite, ↓resState_next, ite_self, cond_self, true_or, or_true, false_or, or_false, implies_true, ↓foldl_drop, ↓foldl_fst_drop] | split)

theorem execHoldoverEntry_drop {fm : Nat} (cause : HoldCause) (s : State) (hfm : fm &&& 8589934848 = 8589934848) :
    (resState (execHoldoverEntry cause s) s).drop fm = s.drop fm := by
  refine drop_sub hfm ?_
  unfold execHoldoverEntry
  repeat' (first | simp only [↓logEvent_drop, ↓State.onTim_drop, id_eq, Nat.reduceAnd, Nat.reduceEqDiff, ↓drop_ite, ↓drop_fst_ite, ↓drop_cond, ↓resState_ite, ↓resState_next, ite_self, cond_self, true_or, or_true, false_or, or_false, implies_true, ↓foldl_drop, ↓foldl_fst_drop] | split)

theorem execHoldoverExpiry_drop {fm : Nat} (s : State) (hfm : fm &&& 8589943040 = 8589943040) :
    (resState (execHoldoverExpiry s) s).drop fm = s.drop fm := by
  refine drop_sub hfm ?_
  unfold execHoldoverExpiry
  repeat' (first | simp only [↓logEvent_drop, ↓State.onTim_drop, ↓State.onArm_drop, id_eq, Nat.reduceAnd, Nat.reduceEqDiff, ↓drop_ite, ↓drop_fst_ite, ↓drop_cond, ↓resState_ite, ↓resState_next, ite_self, cond_self, true_or, or_true, false_or, or_false, implies_true, ↓foldl_drop, ↓foldl_fst_drop] | (refine (State.onArm_drop (by decide) ?_ ?_ ?_ ?_ ).trans ?_) | with_reducible rfl | exact Or.inl (by decide) | refine Or.inr fun _ => ?_ | (intro _; split <;> with_reducible rfl) | split)

theorem takeModeFrame_drop {fm : Nat} (s : State) (f : ArmCycle) (hfm : fm &&& 8192 = 8192) :
    (takeModeFrame s f).drop fm = s.drop fm := by
  refine drop_sub hfm ?_
  unfold takeModeFrame
  repeat' (first | simp only [↓State.onArm_drop, id_eq, Nat.reduceAnd, Nat.reduceEqDiff, ↓drop_ite, ↓drop_fst_ite, ↓drop_cond, ↓resState_ite, ↓resState_next, ite_self, cond_self, true_or, or_true, false_or, or_false, implies_true, ↓foldl_drop, ↓foldl_fst_drop] | (refine (State.onArm_drop (by decide) ?_ ?_ ?_ ?_ ).trans ?_) | with_reducible rfl | exact Or.inl (by decide) | refine Or.inr fun _ => ?_ | (intro _; split <;> with_reducible rfl) | split)

theorem regainRef_drop {fm : Nat} (s : State) (f : ArmCycle) (hfm : fm &&& 1099528413184 = 1099528413184) :
    (regainRef s f).drop fm = s.drop fm := by
  refine drop_sub hfm ?_
  unfold regainRef
  repeat' (first | simp only [↓endHeld_drop, ↓State.onArm_drop, id_eq, Nat.reduceAnd, Nat.reduceEqDiff, ↓drop_ite, ↓drop_fst_ite, ↓drop_cond, ↓resState_ite, ↓resState_next, ite_self, cond_self, true_or, or_true, false_or, or_false, implies_true, ↓foldl_drop, ↓foldl_fst_drop] | (refine (State.onArm_drop (by decide) ?_ ?_ ?_ ?_ ).trans ?_) | with_reducible rfl | exact Or.inl (by decide) | refine Or.inr fun _ => ?_ | (intro _; split <;> with_reducible rfl) | split)

theorem deliverArm_drop {fm : Nat} (s : State) (f : ArmCycle) (b : List Byte) (hfm : fm &&& 6060292153536 = 6060292153536) :
    (deliverArm s f b).drop fm = s.drop fm := by
  refine drop_sub hfm ?_
  unfold deliverArm
  repeat' (first | simp only [↓ringTag_drop, ↓gluePhase_drop, ↓regainRef_drop, ↓takeModeFrame_drop, ↓actUrgent_drop, ↓State.onSpl_drop, ↓State.onImg_drop, id_eq, Nat.reduceAnd, Nat.reduceEqDiff, ↓drop_ite, ↓drop_fst_ite, ↓drop_cond, ↓resState_ite, ↓resState_next, ite_self, cond_self, true_or, or_true, false_or, or_false, implies_true, ↓foldl_drop, ↓foldl_fst_drop] | (refine (State.onImg_drop (by decide) ?_ ?_ ?_ ).trans ?_) | with_reducible rfl | exact Or.inl (by decide) | refine Or.inr fun _ => ?_ | (intro _; split <;> with_reducible rfl) | split)

theorem execArmCycleRx_drop {fm : Nat} (port : RPort) (b : List Byte) (s : State) (hfm : fm &&& 6060292153792 = 6060292153792) :
    (resState (execArmCycleRx port b s) s).drop fm = s.drop fm := by
  refine drop_sub hfm ?_
  unfold execArmCycleRx
  repeat' (first | simp only [↓timeCopy_drop, ↓judgePosition_drop, ↓deliverArm_drop, ↓logEvent_drop, id_eq, Nat.reduceAnd, Nat.reduceEqDiff, ↓drop_ite, ↓drop_fst_ite, ↓drop_cond, ↓resState_ite, ↓resState_next, ite_self, cond_self, true_or, or_true, false_or, or_false, implies_true, ↓foldl_drop, ↓foldl_fst_drop] | split)

theorem windowPub_drop {fm : Nat} (s : State) (p : Nat) (b : CellStatus) (hfm : fm &&& 64 = 64) :
    (windowPub s p b).drop fm = s.drop fm := by
  refine drop_sub hfm ?_
  unfold windowPub
  repeat' (first | simp only [↓State.onImg_drop, id_eq, Nat.reduceAnd, Nat.reduceEqDiff, ↓drop_ite, ↓drop_fst_ite, ↓drop_cond, ↓resState_ite, ↓resState_next, ite_self, cond_self, true_or, or_true, false_or, or_false, implies_true, ↓foldl_drop, ↓foldl_fst_drop] | (refine (State.onImg_drop (by decide) ?_ ?_ ?_ ).trans ?_) | with_reducible rfl | exact Or.inl (by decide) | refine Or.inr fun _ => ?_ | (intro _; split <;> with_reducible rfl) | split)

theorem compareMask_drop {fm : Nat} (s : State) (p : Nat) (c : Nat) (b : CellStatus) (hfm : fm &&& 8589942784 = 8589942784) :
    (compareMask s p c b).drop fm = s.drop fm := by
  refine drop_sub hfm ?_
  unfold compareMask
  repeat' (first | simp only [↓logEvent_drop, ↓State.onArm_drop, id_eq, Nat.reduceAnd, Nat.reduceEqDiff, ↓drop_ite, ↓drop_fst_ite, ↓drop_cond, ↓resState_ite, ↓resState_next, ite_self, cond_self, true_or, or_true, false_or, or_false, implies_true, ↓foldl_drop, ↓foldl_fst_drop] | (refine (State.onArm_drop (by decide) ?_ ?_ ?_ ?_ ).trans ?_) | with_reducible rfl | exact Or.inl (by decide) | refine Or.inr fun _ => ?_ | (intro _; split <;> with_reducible rfl) | split)

theorem recordPub_drop {fm : Nat} (s : State) (p : Nat) (c : Nat) (b : CellStatus) (hfm : fm &&& 128 = 128) :
    (recordPub s p c b).drop fm = s.drop fm := by
  refine drop_sub hfm ?_
  unfold recordPub
  repeat' (first | simp only [↓State.onSpl_drop, id_eq, Nat.reduceAnd, Nat.reduceEqDiff, ↓drop_ite, ↓drop_fst_ite, ↓drop_cond, ↓resState_ite, ↓resState_next, ite_self, cond_self, true_or, or_true, false_or, or_false, implies_true, ↓foldl_drop, ↓foldl_fst_drop] | split)

theorem execCellStatusRx_drop {fm : Nat} (port : RPort) (b : List Byte) (s : State) (hfm : fm &&& 8589942976 = 8589942976) :
    (resState (execCellStatusRx port b s) s).drop fm = s.drop fm := by
  refine drop_sub hfm ?_
  unfold execCellStatusRx
  repeat' (first | simp only [↓pairingError_drop, ↓compareMask_drop, ↓windowPub_drop, ↓recordPub_drop, id_eq, Nat.reduceAnd, Nat.reduceEqDiff, ↓drop_ite, ↓drop_fst_ite, ↓drop_cond, ↓resState_ite, ↓resState_next, ite_self, cond_self, true_or, or_true, false_or, or_false, implies_true, ↓foldl_drop, ↓foldl_fst_drop] | split)

theorem noteCopy_drop {fm : Nat} (s : State) (k : CopyKey) (hfm : fm &&& 128 = 128) :
    (noteCopy s k).drop fm = s.drop fm := by
  refine drop_sub hfm ?_
  unfold noteCopy
  repeat' (first | simp only [↓State.onSpl_drop, id_eq, Nat.reduceAnd, Nat.reduceEqDiff, ↓drop_ite, ↓drop_fst_ite, ↓drop_cond, ↓resState_ite, ↓resState_next, ite_self, cond_self, true_or, or_true, false_or, or_false, implies_true, ↓foldl_drop, ↓foldl_fst_drop] | split)

theorem execArmSummaryRx_drop {fm : Nat} (port : RPort) (b : List Byte) (s : State) (hfm : fm &&& 128 = 128) :
    (resState (execArmSummaryRx port b s) s).drop fm = s.drop fm := by
  refine drop_sub hfm ?_
  unfold execArmSummaryRx
  repeat' (first | simp only [↓noteCopy_drop, ↓State.onSpl_drop, id_eq, Nat.reduceAnd, Nat.reduceEqDiff, ↓drop_ite, ↓drop_fst_ite, ↓drop_cond, ↓resState_ite, ↓resState_next, ite_self, cond_self, true_or, or_true, false_or, or_false, implies_true, ↓foldl_drop, ↓foldl_fst_drop] | split)

theorem takeRegOp_drop {fm : Nat} (cycle : Nat) (s : State) (o : RegOp) (hfm : fm &&& 128 = 128) :
    (takeRegOp cycle s o).drop fm = s.drop fm := by
  refine drop_sub hfm ?_
  unfold takeRegOp
  repeat' (first | simp only [↓State.onSpl_drop, id_eq, Nat.reduceAnd, Nat.reduceEqDiff, ↓drop_ite, ↓drop_fst_ite, ↓drop_cond, ↓resState_ite, ↓resState_next, ite_self, cond_self, true_or, or_true, false_or, or_false, implies_true, ↓foldl_drop, ↓foldl_fst_drop] | split)

theorem regReqOp_drop {fm : Nat} (cycle : Nat) (gw : Bool) (s : State) (o : RegOp) (hfm : fm &&& 128 = 128) :
    (regReqOp cycle gw s o).drop fm = s.drop fm := by
  refine drop_sub hfm ?_
  unfold regReqOp
  repeat' (first | simp only [↓takeRegOp_drop, ↓State.onSpl_drop, id_eq, Nat.reduceAnd, Nat.reduceEqDiff, ↓drop_ite, ↓drop_fst_ite, ↓drop_cond, ↓resState_ite, ↓resState_next, ite_self, cond_self, true_or, or_true, false_or, or_false, implies_true, ↓foldl_drop, ↓foldl_fst_drop] | split)

theorem execRegReqRx_drop {fm : Nat} (port : RPort) (b : List Byte) (s : State) (hfm : fm &&& 128 = 128) :
    (resState (execRegReqRx port b s) s).drop fm = s.drop fm := by
  refine drop_sub hfm ?_
  unfold execRegReqRx
  repeat' (first | simp only [↓regReqOp_drop, ↓noteCopy_drop, id_eq, Nat.reduceAnd, Nat.reduceEqDiff, ↓drop_ite, ↓drop_fst_ite, ↓drop_cond, ↓resState_ite, ↓resState_next, ite_self, cond_self, true_or, or_true, false_or, or_false, implies_true, ↓foldl_drop, ↓foldl_fst_drop] | (refine (foldl_drop (fun _ _ => ?_) _ _).trans ?_) | split)

theorem takeAnswers_drop {fm : Nat} (s : State) (len : Nat) (hfm : fm &&& 128 = 128) :
    (takeAnswers s len).2.drop fm = s.drop fm := by
  refine drop_sub hfm ?_
  unfold takeAnswers
  repeat' (first | simp only [↓State.onSpl_drop, id_eq, Nat.reduceAnd, Nat.reduceEqDiff, ↓drop_ite, ↓drop_fst_ite, ↓drop_cond, ↓resState_ite, ↓resState_next, ite_self, cond_self, true_or, or_true, false_or, or_false, implies_true, ↓foldl_drop, ↓foldl_fst_drop] | split)

theorem refuseFrame_drop {fm : Nat} (s : State) (hfm : fm &&& 128 = 128) :
    (refuseFrame s).drop fm = s.drop fm := by
  refine drop_sub hfm ?_
  unfold refuseFrame
  repeat' (first | simp only [↓State.onSpl_drop, id_eq, Nat.reduceAnd, Nat.reduceEqDiff, ↓drop_ite, ↓drop_fst_ite, ↓drop_cond, ↓resState_ite, ↓resState_next, ite_self, cond_self, true_or, or_true, false_or, or_false, implies_true, ↓foldl_drop, ↓foldl_fst_drop] | split)

theorem pushFrozen_drop {fm : Nat} (s : State) (f : OwnFrame) (hfm : fm &&& 128 = 128) :
    (pushFrozen s f).drop fm = s.drop fm := by
  refine drop_sub hfm ?_
  unfold pushFrozen
  repeat' (first | simp only [↓State.onSpl_drop, id_eq, Nat.reduceAnd, Nat.reduceEqDiff, ↓drop_ite, ↓drop_fst_ite, ↓drop_cond, ↓resState_ite, ↓resState_next, ite_self, cond_self, true_or, or_true, false_or, or_false, implies_true, ↓foldl_drop, ↓foldl_fst_drop] | split)

theorem takeInstance_drop {fm : Nat} (s : State) (slot : Nat) (b : Nat) (hfm : fm &&& 128 = 128) :
    (takeInstance s slot b).drop fm = s.drop fm := by
  refine drop_sub hfm ?_
  unfold takeInstance
  repeat' (first | simp only [↓State.onSpl_drop, id_eq, Nat.reduceAnd, Nat.reduceEqDiff, ↓drop_ite, ↓drop_fst_ite, ↓drop_cond, ↓resState_ite, ↓resState_next, ite_self, cond_self, true_or, or_true, false_or, or_false, implies_true, ↓foldl_drop, ↓foldl_fst_drop] | split)

theorem freezeFrame_drop {fm : Nat} (s : State) (f : OwnFrame) (b : Nat) (hfm : fm &&& 4294967424 = 4294967424) :
    (freezeFrame s f b).drop fm = s.drop fm := by
  refine drop_sub hfm ?_
  unfold freezeFrame
  repeat' (first | simp only [↓pushFrozen_drop, ↓takeAnswers_drop, ↓State.onMnt_drop, id_eq, Nat.reduceAnd, Nat.reduceEqDiff, ↓drop_ite, ↓drop_fst_ite, ↓drop_cond, ↓resState_ite, ↓resState_next, ite_self, cond_self, true_or, or_true, false_or, or_false, implies_true, ↓foldl_drop, ↓foldl_fst_drop] | split)

theorem execOwnFrameFreeze_drop {fm : Nat} (slot : Nat) (cycle : Nat) (complete : Bool) (s : State) (hfm : fm &&& 12884902016 = 12884902016) :
    (resState (execOwnFrameFreeze slot cycle complete s) s).drop fm = s.drop fm := by
  refine drop_sub hfm ?_
  unfold execOwnFrameFreeze
  repeat' (first | simp only [↓refuseFrame_drop, ↓logEvent_drop, ↓takeInstance_drop, ↓freezeFrame_drop, ↓State.onSpl_drop, id_eq, Nat.reduceAnd, Nat.reduceEqDiff, ↓drop_ite, ↓drop_fst_ite, ↓drop_cond, ↓resState_ite, ↓resState_next, ite_self, cond_self, true_or, or_true, false_or, or_false, implies_true, ↓foldl_drop, ↓foldl_fst_drop] | split)

theorem guardHit_drop {fm : Nat} (s : State) (port : RPort) (hfm : fm &&& 8589934720 = 8589934720) :
    (guardHit s port).drop fm = s.drop fm := by
  refine drop_sub hfm ?_
  unfold guardHit
  dsimp only
  split <;> simp only [↓logEvent_drop, ↓State.onSpl_drop, Nat.reduceAnd]

theorem recordOwn_drop {fm : Nat} (s : State) (f : OwnFrame) (hfm : fm &&& 128 = 128) :
    (recordOwn s f).drop fm = s.drop fm := by
  refine drop_sub hfm ?_
  unfold recordOwn
  repeat' (first | simp only [↓recordPub_drop, id_eq, Nat.reduceAnd, Nat.reduceEqDiff, ↓drop_ite, ↓drop_fst_ite, ↓drop_cond, ↓resState_ite, ↓resState_next, ite_self, cond_self, true_or, or_true, false_or, or_false, implies_true, ↓foldl_drop, ↓foldl_fst_drop] | split)

theorem replaceBlocks_drop {fm : Nat} (s : State) (port : RPort) (x0 : Nat) (hfm : fm &&& 8589934720 = 8589934720) :
    (replaceBlocks s port x0).drop fm = s.drop fm := by
  refine drop_sub hfm ?_
  induction x0 with
  | zero => rfl
  | succ n ih =>
    unfold replaceBlocks
    dsimp only
    split
    · exact ih
    · exact (guardHit_drop _ port (by decide)).trans ih

theorem execOwnFrameLaunch_drop {fm : Nat} (port : RPort) (s : State) (hfm : fm &&& 146028888192 = 146028888192) :
    (resState (execOwnFrameLaunch port s) s).drop fm = s.drop fm := by
  refine drop_sub hfm ?_
  unfold execOwnFrameLaunch
  repeat' (first | simp only [↓recordOwn_drop, ↓send_drop, ↓replaceBlocks_drop, ↓State.onSpl_drop, id_eq, Nat.reduceAnd, Nat.reduceEqDiff, ↓drop_ite, ↓drop_fst_ite, ↓drop_cond, ↓resState_ite, ↓resState_next, ite_self, cond_self, true_or, or_true, false_or, or_false, implies_true, ↓foldl_drop, ↓foldl_fst_drop] | split)

theorem execHeartbeatSend_drop {fm : Nat} (s : State) (hfm : fm &&& 137438953472 = 137438953472) :
    (resState (execHeartbeatSend s) s).drop fm = s.drop fm := by
  refine drop_sub hfm ?_
  unfold execHeartbeatSend
  repeat' (first | simp only [↓send_drop, id_eq, Nat.reduceAnd, Nat.reduceEqDiff, ↓drop_ite, ↓drop_fst_ite, ↓drop_cond, ↓resState_ite, ↓resState_next, ite_self, cond_self, true_or, or_true, false_or, or_false, implies_true, ↓foldl_drop, ↓foldl_fst_drop] | split)

theorem enterClash_drop {fm : Nat} (s : State) (hfm : fm &&& 562885011456 = 562885011456) :
    (enterClash s).drop fm = s.drop fm := by
  refine drop_sub hfm ?_
  unfold enterClash
  repeat' (first | simp only [↓dropToken_drop, ↓bothHiZ_drop, ↓cancelTest_drop, ↓logEvent_drop, ↓refreshLoads_drop, ↓refreshBridge_drop, ↓State.onArm_drop, ↓State.onDvt_drop, id_eq, Nat.reduceAnd, Nat.reduceEqDiff, ↓drop_ite, ↓drop_fst_ite, ↓drop_cond, ↓resState_ite, ↓resState_next, ite_self, cond_self, true_or, or_true, false_or, or_false, implies_true, ↓foldl_drop, ↓foldl_fst_drop] | (refine (State.onArm_drop (by decide) ?_ ?_ ?_ ?_ ).trans ?_) | with_reducible rfl | exact Or.inl (by decide) | refine Or.inr fun _ => ?_ | (intro _; split <;> with_reducible rfl) | split)

theorem recordBeat_drop {fm : Nat} (s : State) (h : Heartbeat) (hfm : fm &&& 34340864 = 34340864) :
    (recordBeat s h).drop fm = s.drop fm := by
  refine drop_sub hfm ?_
  unfold recordBeat
  repeat' (first | simp only [↓commandFrom_drop, ↓State.onDvt_drop, id_eq, Nat.reduceAnd, Nat.reduceEqDiff, ↓drop_ite, ↓drop_fst_ite, ↓drop_cond, ↓resState_ite, ↓resState_next, ite_self, cond_self, true_or, or_true, false_or, or_false, implies_true, ↓foldl_drop, ↓foldl_fst_drop] | split)

theorem takeBeat_drop {fm : Nat} (s : State) (h : Heartbeat) (hfm : fm &&& 562885011456 = 562885011456) :
    (takeBeat s h).drop fm = s.drop fm := by
  refine drop_sub hfm ?_
  unfold takeBeat
  repeat' (first | simp only [↓recordBeat_drop, ↓enterClash_drop, ↓logEvent_drop, ↓dropToken_drop, ↓takeOver_drop, ↓State.onDvt_drop, id_eq, Nat.reduceAnd, Nat.reduceEqDiff, ↓drop_ite, ↓drop_fst_ite, ↓drop_cond, ↓resState_ite, ↓resState_next, ite_self, cond_self, true_or, or_true, false_or, or_false, implies_true, ↓foldl_drop, ↓foldl_fst_drop] | split)

theorem execHeartbeatRx_drop {fm : Nat} (x : OrdSet) (s : State) (hfm : fm &&& 562885011456 = 562885011456) :
    (resState (execHeartbeatRx x s) s).drop fm = s.drop fm := by
  refine drop_sub hfm ?_
  unfold execHeartbeatRx
  repeat' (first | simp only [↓takeBeat_drop, id_eq, Nat.reduceAnd, Nat.reduceEqDiff, ↓drop_ite, ↓drop_fst_ite, ↓drop_cond, ↓resState_ite, ↓resState_next, ite_self, cond_self, true_or, or_true, false_or, or_false, implies_true, ↓foldl_drop, ↓foldl_fst_drop] | split)

theorem execHeartbeatTimeout_drop {fm : Nat} (s : State) (hfm : fm &&& 562885011456 = 562885011456) :
    (resState (execHeartbeatTimeout s) s).drop fm = s.drop fm := by
  refine drop_sub hfm ?_
  unfold execHeartbeatTimeout
  repeat' (first | simp only [↓takeOver_drop, ↓State.onDvt_drop, id_eq, Nat.reduceAnd, Nat.reduceEqDiff, ↓drop_ite, ↓drop_fst_ite, ↓drop_cond, ↓resState_ite, ↓resState_next, ite_self, cond_self, true_or, or_true, false_or, or_false, implies_true, ↓foldl_drop, ↓foldl_fst_drop] | split)

theorem execStateMirrorSend_drop {fm : Nat} (s : State) (hfm : fm &&& 137456517120 = 137456517120) :
    (resState (execStateMirrorSend s) s).drop fm = s.drop fm := by
  refine drop_sub hfm ?_
  unfold execStateMirrorSend
  repeat' (first | simp only [↓send_drop, ↓State.forChains_drop, ↓State.onSen_drop, ↓State.onPrt_drop, id_eq, Nat.reduceAnd, Nat.reduceEqDiff, ↓drop_ite, ↓drop_fst_ite, ↓drop_cond, ↓resState_ite, ↓resState_next, ite_self, cond_self, true_or, or_true, false_or, or_false, implies_true, ↓foldl_drop, ↓foldl_fst_drop] | (refine (State.forChains_drop (fun _ _ => ?_) _).trans ?_) | (refine (State.onPrt_drop (by decide) ?_ ?_ ).trans ?_) | with_reducible rfl | exact Or.inl (by decide) | refine Or.inr fun _ => ?_ | (intro _; split <;> with_reducible rfl) | split)

theorem seenSet_drop {fm : Nat} (c : ChainId) (s : State) (x : Fin 32 × SentSet) (hfm : fm &&& 983040 = 983040) :
    (seenSet c s x).drop fm = s.drop fm := by
  refine drop_sub hfm ?_
  unfold seenSet
  repeat' (first | simp only [↓State.onRec_drop, ↓State.onMod_drop, id_eq, Nat.reduceAnd, Nat.reduceEqDiff, ↓drop_ite, ↓drop_fst_ite, ↓drop_cond, ↓resState_ite, ↓resState_next, ite_self, cond_self, true_or, or_true, false_or, or_false, implies_true, ↓foldl_drop, ↓foldl_fst_drop] | split)

theorem chainFromMirror_drop {fm : Nat} (s : State) (c : ChainId) (m : Mirror) (hfm : fm &&& 983040 = 983040) :
    (chainFromMirror s c m).drop fm = s.drop fm := by
  refine drop_sub hfm ?_
  unfold chainFromMirror
  repeat' (first | simp only [↓seenSet_drop, ↓State.onChain_drop, ↓State.onSen_drop, id_eq, Nat.reduceAnd, Nat.reduceEqDiff, ↓drop_ite, ↓drop_fst_ite, ↓drop_cond, ↓resState_ite, ↓resState_next, ite_self, cond_self, true_or, or_true, false_or, or_false, implies_true, ↓foldl_drop, ↓foldl_fst_drop] | (refine (foldl_drop (fun _ _ => ?_) _ _).trans ?_) | split)

theorem countPartner_drop {fm : Nat} (s : State) (e : Nat) (hfm : fm &&& 16777216 = 16777216) :
    (countPartner s e).drop fm = s.drop fm := by
  refine drop_sub hfm ?_
  unfold countPartner
  repeat' (first | simp only [↓countFiring_drop, id_eq, Nat.reduceAnd, Nat.reduceEqDiff, ↓drop_ite, ↓drop_fst_ite, ↓drop_cond, ↓resState_ite, ↓resState_next, ite_self, cond_self, true_or, or_true, false_or, or_false, implies_true, ↓foldl_drop, ↓foldl_fst_drop] | split)

theorem countPartners_drop {fm : Nat} (s : State) (fired : List Nat) (hfm : fm &&& 16777216 = 16777216) :
    (countPartners s fired).drop fm = s.drop fm := by
  refine drop_sub hfm ?_
  unfold countPartners
  repeat' (first | simp only [↓countPartner_drop, ↓State.onPrt_drop, id_eq, Nat.reduceAnd, Nat.reduceEqDiff, ↓drop_ite, ↓drop_fst_ite, ↓drop_cond, ↓resState_ite, ↓resState_next, ite_self, cond_self, true_or, or_true, false_or, or_false, implies_true, ↓foldl_drop, ↓foldl_fst_drop] | (refine (foldl_drop (fun _ _ => ?_) _ _).trans ?_) | (refine (State.onPrt_drop (by decide) ?_ ?_ ).trans ?_) | with_reducible rfl | exact Or.inl (by decide) | refine Or.inr fun _ => ?_ | (intro _; split <;> with_reducible rfl) | split)

theorem tryAck_drop {fm : Nat} (s : State) (hfm : fm &&& 137472507904 = 137472507904) :
    (tryAck s).drop fm = s.drop fm := by
  refine drop_sub hfm ?_
  unfold tryAck
  repeat' (first | simp only [↓send_drop, ↓State.onDvt_drop, id_eq, Nat.reduceAnd, Nat.reduceEqDiff, ↓drop_ite, ↓drop_fst_ite, ↓drop_cond, ↓resState_ite, ↓resState_next, ite_self, cond_self, true_or, or_true, false_or, or_false, implies_true, ↓foldl_drop, ↓foldl_fst_drop] | split)

theorem followBypass_drop {fm : Nat} (s : State) (m : Mirror) (hfm : fm &&& 45056 = 45056) :
    (followBypass s m).drop fm = s.drop fm := by
  refine drop_sub hfm ?_
  unfold followBypass
  repeat' (first | simp only [↓cancelTest_drop, ↓State.onArm_drop, id_eq, Nat.reduceAnd, Nat.reduceEqDiff, ↓drop_ite, ↓drop_fst_ite, ↓drop_cond, ↓resState_ite, ↓resState_next, ite_self, cond_self, true_or, or_true, false_or, or_false, implies_true, ↓foldl_drop, ↓foldl_fst_drop] | (refine (State.onArm_drop (by decide) ?_ ?_ ?_ ?_ ).trans ?_) | with_reducible rfl | exact Or.inl (by decide) | refine Or.inr fun _ => ?_ | (intro _; split <;> with_reducible rfl) | split)

theorem execStateMirrorRx_drop {fm : Nat} (m : Option Mirror) (s : State) (hfm : fm &&& 6197764665344 = 6197764665344) :
    (resState (execStateMirrorRx m s) s).drop fm = s.drop fm := by
  refine drop_sub hfm ?_
  unfold execStateMirrorRx
  repeat' (first | simp only [↓countPartners_drop, ↓decideBypass_drop, ↓raiseEvent_drop, ↓followBypass_drop, ↓legsFromMirror_drop, ↓tryAck_drop, ↓refreshBridge_drop, ↓chainFromMirror_drop, ↓State.onDvt_drop, ↓State.onMnt_drop, id_eq, Nat.reduceAnd, Nat.reduceEqDiff, ↓drop_ite, ↓drop_fst_ite, ↓drop_cond, ↓resState_ite, ↓resState_next, ite_self, cond_self, true_or, or_true, false_or, or_false, implies_true, ↓foldl_drop, ↓foldl_fst_drop] | split)

theorem startHandover_drop {fm : Nat} (s : State) (hfm : fm &&& 137472507904 = 137472507904) :
    (startHandover s).drop fm = s.drop fm := by
  refine drop_sub hfm ?_
  unfold startHandover
  repeat' (first | simp only [↓send_drop, ↓State.onDvt_drop, id_eq, Nat.reduceAnd, Nat.reduceEqDiff, ↓drop_ite, ↓drop_fst_ite, ↓drop_cond, ↓resState_ite, ↓resState_next, ite_self, cond_self, true_or, or_true, false_or, or_false, implies_true, ↓foldl_drop, ↓foldl_fst_drop] | split)

theorem opHandover_drop {fm : Nat} (s : State) (hfm : fm &&& 137472507904 = 137472507904) :
    (opHandover s).1.drop fm = s.drop fm := by
  refine drop_sub hfm ?_
  unfold opHandover
  repeat' (first | simp only [↓startHandover_drop, id_eq, Nat.reduceAnd, Nat.reduceEqDiff, ↓drop_ite, ↓drop_fst_ite, ↓drop_cond, ↓resState_ite, ↓resState_next, ite_self, cond_self, true_or, or_true, false_or, or_false, implies_true, ↓foldl_drop, ↓foldl_fst_drop] | split)

theorem execDvtCmdHandover_drop {fm : Nat} (p : Requester) (s : State) (hfm : fm &&& 148209926144 = 148209926144) :
    (resState (execDvtCmdHandover p s) s).drop fm = s.drop fm := by
  refine drop_sub hfm ?_
  unfold execDvtCmdHandover
  repeat' (first | simp only [↓opHandover_drop, id_eq, Nat.reduceAnd, Nat.reduceEqDiff, ↓drop_ite, ↓drop_fst_ite, ↓drop_cond, ↓resState_ite, ↓resState_next, ite_self, cond_self, true_or, or_true, false_or, or_false, implies_true, ↓foldl_drop, ↓foldl_fst_drop] | (refine (regCmd_drop (by decide) (fun _ => ?_)).trans ?_) | (refine (withRight_drop (by decide) (fun _ => ?_)).trans ?_) | split)

theorem execTokenGiveRx_drop {fm : Nat} (gen : Nat) (tH : Nat) (s : State) (hfm : fm &&& 137472507904 = 137472507904) :
    (resState (execTokenGiveRx gen tH s) s).drop fm = s.drop fm := by
  refine drop_sub hfm ?_
  unfold execTokenGiveRx
  repeat' (first | simp only [↓tryAck_drop, ↓State.onDvt_drop, id_eq, Nat.reduceAnd, Nat.reduceEqDiff, ↓drop_ite, ↓drop_fst_ite, ↓drop_cond, ↓resState_ite, ↓resState_next, ite_self, cond_self, true_or, or_true, false_or, or_false, implies_true, ↓foldl_drop, ↓foldl_fst_drop] | split)

theorem execTokenAckRx_drop {fm : Nat} (gen : Nat) (s : State) (hfm : fm &&& 33554432 = 33554432) :
    (resState (execTokenAckRx gen s) s).drop fm = s.drop fm := by
  refine drop_sub hfm ?_
  unfold execTokenAckRx
  repeat' (first | simp only [↓State.onDvt_drop, id_eq, Nat.reduceAnd, Nat.reduceEqDiff, ↓drop_ite, ↓drop_fst_ite, ↓drop_cond, ↓resState_ite, ↓resState_next, ite_self, cond_self, true_or, or_true, false_or, or_false, implies_true, ↓foldl_drop, ↓foldl_fst_drop] | split)

theorem cancelHandover_drop {fm : Nat} (s : State) (hfm : fm &&& 8623489024 = 8623489024) :
    (cancelHandover s).drop fm = s.drop fm := by
  refine drop_sub hfm ?_
  unfold cancelHandover
  repeat' (first | simp only [↓logEvent_drop, ↓State.onDvt_drop, id_eq, Nat.reduceAnd, Nat.reduceEqDiff, ↓drop_ite, ↓drop_fst_ite, ↓drop_cond, ↓resState_ite, ↓resState_next, ite_self, cond_self, true_or, or_true, false_or, or_false, implies_true, ↓foldl_drop, ↓foldl_fst_drop] | split)

theorem execHandoverSwitch_drop {fm : Nat} (s : State) (hfm : fm &&& 562885011456 = 562885011456) :
    (resState (execHandoverSwitch s) s).drop fm = s.drop fm := by
  refine drop_sub hfm ?_
  unfold execHandoverSwitch
  repeat' (first | simp only [↓logEvent_drop, ↓dropToken_drop, ↓cancelHandover_drop, ↓assumeToken_drop, ↓State.onDvt_drop, id_eq, Nat.reduceAnd, Nat.reduceEqDiff, ↓drop_ite, ↓drop_fst_ite, ↓drop_cond, ↓resState_ite, ↓resState_next, ite_self, cond_self, true_or, or_true, false_or, or_false, implies_true, ↓foldl_drop, ↓foldl_fst_drop] | split)

theorem execHandoverAckTimeout_drop {fm : Nat} (s : State) (hfm : fm &&& 8623489024 = 8623489024) :
    (resState (execHandoverAckTimeout s) s).drop fm = s.drop fm := by
  refine drop_sub hfm ?_
  unfold execHandoverAckTimeout
  repeat' (first | simp only [↓cancelHandover_drop, id_eq, Nat.reduceAnd, Nat.reduceEqDiff, ↓drop_ite, ↓drop_fst_ite, ↓drop_cond, ↓resState_ite, ↓resState_next, ite_self, cond_self, true_or, or_true, false_or, or_false, implies_true, ↓foldl_drop, ↓foldl_fst_drop] | split)

theorem execDvtLinkDown_drop {fm : Nat} (s : State) (hfm : fm &&& 8623489024 = 8623489024) :
    (resState (execDvtLinkDown s) s).drop fm = s.drop fm := by
  refine drop_sub hfm ?_
  unfold execDvtLinkDown
  repeat' (first | simp only [↓logEvent_drop, ↓State.onDvt_drop, id_eq, Nat.reduceAnd, Nat.reduceEqDiff, ↓drop_ite, ↓drop_fst_ite, ↓drop_cond, ↓resState_ite, ↓resState_next, ite_self, cond_self, true_or, or_true, false_or, or_false, implies_true, ↓foldl_drop, ↓foldl_fst_drop] | split)

theorem execDvtLinkUp_drop {fm : Nat} (s : State) (hfm : fm &&& 8623489024 = 8623489024) :
    (resState (execDvtLinkUp s) s).drop fm = s.drop fm := by
  refine drop_sub hfm ?_
  unfold execDvtLinkUp
  repeat' (first | simp only [↓logEvent_drop, ↓State.onDvt_drop, id_eq, Nat.reduceAnd, Nat.reduceEqDiff, ↓drop_ite, ↓drop_fst_ite, ↓drop_cond, ↓resState_ite, ↓resState_next, ite_self, cond_self, true_or, or_true, false_or, or_false, implies_true, ↓foldl_drop, ↓foldl_fst_drop] | split)

theorem followChain_drop {fm : Nat} (src : Nat) (s : State) (c : ChainId) (cond : Bool) (hfm : fm &&& 1799684595712 = 1799684595712) :
    (followChain src s c cond).drop fm = s.drop fm := by
  refine drop_sub hfm ?_
  unfold followChain
  repeat' (first | simp only [↓raiseHeld_drop, ↓endHeld_drop, ↓State.onPrt_drop, id_eq, Nat.reduceAnd, Nat.reduceEqDiff, ↓drop_ite, ↓drop_fst_ite, ↓drop_cond, ↓resState_ite, ↓resState_next, ite_self, cond_self, true_or, or_true, false_or, or_false, implies_true, ↓foldl_drop, ↓foldl_fst_drop] | (refine (State.onPrt_drop (by decide) ?_ ?_ ).trans ?_) | with_reducible rfl | exact Or.inl (by decide) | refine Or.inr fun _ => ?_ | (intro _; split <;> with_reducible rfl) | split)

theorem floorOpen_drop {fm : Nat} (s : State) (c : ChainId) (hfm : fm &&& 12961415168 = 12961415168) :
    (floorOpen s c).drop fm = s.drop fm := by
  refine drop_sub hfm ?_
  unfold floorOpen
  repeat' (first | simp only [↓requestOpen_drop, id_eq, Nat.reduceAnd, Nat.reduceEqDiff, ↓drop_ite, ↓drop_fst_ite, ↓drop_cond, ↓resState_ite, ↓resState_next, ite_self, cond_self, true_or, or_true, false_or, or_false, implies_true, ↓foldl_drop, ↓foldl_fst_drop] | split)

theorem floorMeasLost_drop {fm : Nat} (s : State) (c : ChainId) (hfm : fm &&& 12978192384 = 12978192384) :
    (floorMeasLost s c).drop fm = s.drop fm := by
  refine drop_sub hfm ?_
  unfold floorMeasLost
  repeat' (first | simp only [↓requestBlock_drop, ↓State.onPrt_drop, id_eq, Nat.reduceAnd, Nat.reduceEqDiff, ↓drop_ite, ↓drop_fst_ite, ↓drop_cond, ↓resState_ite, ↓resState_next, ite_self, cond_self, true_or, or_true, false_or, or_false, implies_true, ↓foldl_drop, ↓foldl_fst_drop] | (refine (State.onPrt_drop (by decide) ?_ ?_ ).trans ?_) | with_reducible rfl | exact Or.inl (by decide) | refine Or.inr fun _ => ?_ | (intro _; split <;> with_reducible rfl) | split)

theorem assessChain_drop {fm : Nat} (s : State) (c : ChainId) (hfm : fm &&& 1799684595712 = 1799684595712) :
    (assessChain s c).drop fm = s.drop fm := by
  refine drop_sub hfm ?_
  unfold assessChain
  repeat' (first | simp only [↓followChain_drop, ↓floorMeasLost_drop, ↓floorOpen_drop, ↓State.onChain_drop, id_eq, Nat.reduceAnd, Nat.reduceEqDiff, ↓drop_ite, ↓drop_fst_ite, ↓drop_cond, ↓resState_ite, ↓resState_next, ite_self, cond_self, true_or, or_true, false_or, or_false, implies_true, ↓foldl_drop, ↓foldl_fst_drop] | split)

theorem followSource_drop {fm : Nat} (src : Nat) (s : State) (cond : Bool) (hfm : fm &&& 1799684595712 = 1799684595712) :
    (followSource src s cond).drop fm = s.drop fm := by
  refine drop_sub hfm ?_
  unfold followSource
  repeat' (first | simp only [↓raiseHeld_drop, ↓endHeld_drop, id_eq, Nat.reduceAnd, Nat.reduceEqDiff, ↓drop_ite, ↓drop_fst_ite, ↓drop_cond, ↓resState_ite, ↓resState_next, ite_self, cond_self, true_or, or_true, false_or, or_false, implies_true, ↓foldl_drop, ↓foldl_fst_drop] | split)

theorem assessCap_drop {fm : Nat} (s : State) (hfm : fm &&& 6197731110912 = 6197731110912) :
    (assessCap s).drop fm = s.drop fm := by
  refine drop_sub hfm ?_
  unfold assessCap
  repeat' (first | simp only [↓blockCell_drop, ↓followSource_drop, ↓floorBypass_drop, ↓State.onPrt_drop, ↓State.onArm_drop, id_eq, Nat.reduceAnd, Nat.reduceEqDiff, ↓drop_ite, ↓drop_fst_ite, ↓drop_cond, ↓resState_ite, ↓resState_next, ite_self, cond_self, true_or, or_true, false_or, or_false, implies_true, ↓foldl_drop, ↓foldl_fst_drop] | (refine (State.onArm_drop (by decide) ?_ ?_ ?_ ?_ ).trans ?_) | (refine (State.onPrt_drop (by decide) ?_ ?_ ).trans ?_) | with_reducible rfl | exact Or.inl (by decide) | refine Or.inr fun _ => ?_ | (intro _; split <;> with_reducible rfl) | split)

theorem assessRef_drop {fm : Nat} (s : State) (hfm : fm &&& 5098253037568 = 5098253037568) :
    (assessRef s).drop fm = s.drop fm := by
  refine drop_sub hfm ?_
  unfold assessRef
  repeat' (first | simp only [↓startHandover_drop, ↓blockCell_drop, ↓floorBypass_drop, ↓State.onPrt_drop, id_eq, Nat.reduceAnd, Nat.reduceEqDiff, ↓drop_ite, ↓drop_fst_ite, ↓drop_cond, ↓resState_ite, ↓resState_next, ite_self, cond_self, true_or, or_true, false_or, or_false, implies_true, ↓foldl_drop, ↓foldl_fst_drop] | (refine (State.onPrt_drop (by decide) ?_ ?_ ).trans ?_) | with_reducible rfl | exact Or.inl (by decide) | refine Or.inr fun _ => ?_ | (intro _; split <;> with_reducible rfl) | split)

theorem assessLegs_drop {fm : Nat} (s : State) (hfm : fm &&& 4960780546048 = 4960780546048) :
    (assessLegs s).drop fm = s.drop fm := by
  refine drop_sub hfm ?_
  unfold assessLegs
  repeat' (first | simp only [↓parkOrBypass_drop, id_eq, Nat.reduceAnd, Nat.reduceEqDiff, ↓drop_ite, ↓drop_fst_ite, ↓drop_cond, ↓resState_ite, ↓resState_next, ite_self, cond_self, true_or, or_true, false_or, or_false, implies_true, ↓foldl_drop, ↓foldl_fst_drop] | split)

theorem escalate_drop {fm : Nat} (s : State) (e : Fin 64) (hfm : fm &&& 4960780546048 = 4960780546048) :
    (escalate s e).drop fm = s.drop fm := by
  refine drop_sub hfm ?_
  unfold escalate
  repeat' (first | simp only [↓logEvent_drop, ↓parkOrBypass_drop, ↓decideBypass_drop, ↓requestOpen_drop, ↓State.onPrt_drop, ↓State.forChains_drop, id_eq, Nat.reduceAnd, Nat.reduceEqDiff, ↓drop_ite, ↓drop_fst_ite, ↓drop_cond, ↓resState_ite, ↓resState_next, ite_self, cond_self, true_or, or_true, false_or, or_false, implies_true, ↓foldl_drop, ↓foldl_fst_drop] | (refine (State.forChains_drop (fun _ _ => ?_) _).trans ?_) | (refine (State.onPrt_drop (by decide) ?_ ?_ ).trans ?_) | with_reducible rfl | exact Or.inl (by decide) | refine Or.inr fun _ => ?_ | (intro _; split <;> with_reducible rfl) | split)

theorem carryOut_drop {fm : Nat} (s : State) (hfm : fm &&& 4960780546048 = 4960780546048) :
    (carryOut s).drop fm = s.drop fm := by
  refine drop_sub hfm ?_
  unfold carryOut
  repeat' (first | simp only [↓escalate_drop, ↓State.onPrt_drop, id_eq, Nat.reduceAnd, Nat.reduceEqDiff, ↓drop_ite, ↓drop_fst_ite, ↓drop_cond, ↓resState_ite, ↓resState_next, ite_self, cond_self, true_or, or_true, false_or, or_false, implies_true, ↓foldl_drop, ↓foldl_fst_drop] | (refine (foldl_drop (fun _ _ => ?_) _ _).trans ?_) | (refine (State.onPrt_drop (by decide) ?_ ?_ ).trans ?_) | with_reducible rfl | exact Or.inl (by decide) | refine Or.inr fun _ => ?_ | (intro _; split <;> with_reducible rfl) | split)

theorem endPulses_drop {fm : Nat} (s : State) (hfm : fm &&& 1099528404992 = 1099528404992) :
    (endPulses s).drop fm = s.drop fm := by
  refine drop_sub hfm ?_
  unfold endPulses
  repeat' (first | simp only [↓sourceDown_drop, ↓State.onPrt_drop, id_eq, Nat.reduceAnd, Nat.reduceEqDiff, ↓drop_ite, ↓drop_fst_ite, ↓drop_cond, ↓resState_ite, ↓resState_next, ite_self, cond_self, true_or, or_true, false_or, or_false, implies_true, ↓foldl_drop, ↓foldl_fst_drop] | (refine (foldl_drop (fun _ _ => ?_) _ _).trans ?_) | (refine (State.onPrt_drop (by decide) ?_ ?_ ).trans ?_) | with_reducible rfl | exact Or.inl (by decide) | refine Or.inr fun _ => ?_ | (intro _; split <;> with_reducible rfl) | split)

theorem execPeAssessment_drop {fm : Nat} (vCap : Option Nat) (iTerm : Option Int) (s : State) (hfm : fm &&& 6197764682240 = 6197764682240) :
    (resState (execPeAssessment vCap iTerm s) s).drop fm = s.drop fm := by
  refine drop_sub hfm ?_
  unfold execPeAssessment
  repeat' (first | simp only [↓endPulses_drop, ↓endHeld_drop, ↓carryOut_drop, ↓assessRef_drop, ↓assessCap_drop, ↓assessChain_drop, ↓refreshBridge_drop, ↓assessLegs_drop, ↓State.onMeas_drop, ↓State.forChains_drop, id_eq, Nat.reduceAnd, Nat.reduceEqDiff, ↓drop_ite, ↓drop_fst_ite, ↓drop_cond, ↓resState_ite, ↓resState_next, ite_self, cond_self, true_or, or_true, false_or, or_false, implies_true, ↓foldl_drop, ↓foldl_fst_drop] | (refine (State.forChains_drop (fun _ _ => ?_) _).trans ?_) | split)

theorem execComparatorCrossing_drop {fm : Nat} (n : Fin 8) (input : BitVec 16) (lasted : Nat) (s : State) (hfm : fm &&& 700172967936 = 700172967936) :
    (resState (execComparatorCrossing n input lasted s) s).drop fm = s.drop fm := by
  refine drop_sub hfm ?_
  unfold execComparatorCrossing
  repeat' (first | simp only [↓sourceUp_drop, ↓State.onPrt_drop, id_eq, Nat.reduceAnd, Nat.reduceEqDiff, ↓drop_ite, ↓drop_fst_ite, ↓drop_cond, ↓resState_ite, ↓resState_next, ite_self, cond_self, true_or, or_true, false_or, or_false, implies_true, ↓foldl_drop, ↓foldl_fst_drop] | (refine (State.onPrt_drop (by decide) ?_ ?_ ).trans ?_) | with_reducible rfl | exact Or.inl (by decide) | refine Or.inr fun _ => ?_ | (intro _; split <;> with_reducible rfl) | split)

theorem execComparatorReturn_drop {fm : Nat} (n : Fin 8) (input : BitVec 16) (s : State) (hfm : fm &&& 16777216 = 16777216) :
    (resState (execComparatorReturn n input s) s).drop fm = s.drop fm := by
  refine drop_sub hfm ?_
  unfold execComparatorReturn
  repeat' (first | simp only [↓sourceDown_drop, ↓State.onPrt_drop, id_eq, Nat.reduceAnd, Nat.reduceEqDiff, ↓drop_ite, ↓drop_fst_ite, ↓drop_cond, ↓resState_ite, ↓resState_next, ite_self, cond_self, true_or, or_true, false_or, or_false, implies_true, ↓foldl_drop, ↓foldl_fst_drop] | (refine (State.onPrt_drop (by decide) ?_ ?_ ).trans ?_) | with_reducible rfl | exact Or.inl (by decide) | refine Or.inr fun _ => ?_ | (intro _; split <;> with_reducible rfl) | split)

theorem execTripInAssert_drop {fm : Nat} (s : State) (hfm : fm &&& 700172967940 = 700172967940) :
    (resState (execTripInAssert s) s).drop fm = s.drop fm := by
  refine drop_sub hfm ?_
  unfold execTripInAssert
  repeat' (first | simp only [↓sourceUp_drop, ↓State.onDev_drop, ↓State.onPrt_drop, id_eq, Nat.reduceAnd, Nat.reduceEqDiff, ↓drop_ite, ↓drop_fst_ite, ↓drop_cond, ↓resState_ite, ↓resState_next, ite_self, cond_self, true_or, or_true, false_or, or_false, implies_true, ↓foldl_drop, ↓foldl_fst_drop] | (refine (State.onDev_drop (by decide) ?_ ?_ ).trans ?_) | (refine (State.onPrt_drop (by decide) ?_ ?_ ).trans ?_) | with_reducible rfl | exact Or.inl (by decide) | refine Or.inr fun _ => ?_ | (intro _; split <;> with_reducible rfl) | split)

theorem execTripInRelease_drop {fm : Nat} (s : State) (hfm : fm &&& 16777220 = 16777220) :
    (resState (execTripInRelease s) s).drop fm = s.drop fm := by
  refine drop_sub hfm ?_
  unfold execTripInRelease
  repeat' (first | simp only [↓sourceDown_drop, ↓State.onDev_drop, id_eq, Nat.reduceAnd, Nat.reduceEqDiff, ↓drop_ite, ↓drop_fst_ite, ↓drop_cond, ↓resState_ite, ↓resState_next, ite_self, cond_self, true_or, or_true, false_or, or_false, implies_true, ↓foldl_drop, ↓foldl_fst_drop] | (refine (State.onDev_drop (by decide) ?_ ?_ ).trans ?_) | with_reducible rfl | exact Or.inl (by decide) | refine Or.inr fun _ => ?_ | (intro _; split <;> with_reducible rfl) | split)

theorem execTripInCountWaitExpiry_drop {fm : Nat} (s : State) (hfm : fm &&& 8606711808 = 8606711808) :
    (resState (execTripInCountWaitExpiry s) s).drop fm = s.drop fm := by
  refine drop_sub hfm ?_
  unfold execTripInCountWaitExpiry
  repeat' (first | simp only [↓countFiring_drop, ↓logEvent_drop, ↓State.onPrt_drop, id_eq, Nat.reduceAnd, Nat.reduceEqDiff, ↓drop_ite, ↓drop_fst_ite, ↓drop_cond, ↓resState_ite, ↓resState_next, ite_self, cond_self, true_or, or_true, false_or, or_false, implies_true, ↓foldl_drop, ↓foldl_fst_drop] | (refine (foldl_drop (fun _ _ => ?_) _ _).trans ?_) | (refine (State.onPrt_drop (by decide) ?_ ?_ ).trans ?_) | with_reducible rfl | exact Or.inl (by decide) | refine Or.inr fun _ => ?_ | (intro _; split <;> with_reducible rfl) | split)

theorem execTripOutRelease_drop {fm : Nat} (s : State) (hfm : fm &&& 16777216 = 16777216) :
    (resState (execTripOutRelease s) s).drop fm = s.drop fm := by
  refine drop_sub hfm ?_
  unfold execTripOutRelease
  repeat' (first | simp only [↓State.onPrt_drop, id_eq, Nat.reduceAnd, Nat.reduceEqDiff, ↓drop_ite, ↓drop_fst_ite, ↓drop_cond, ↓resState_ite, ↓resState_next, ite_self, cond_self, true_or, or_true, false_or, or_false, implies_true, ↓foldl_drop, ↓foldl_fst_drop] | (refine (State.onPrt_drop (by decide) ?_ ?_ ).trans ?_) | with_reducible rfl | exact Or.inl (by decide) | refine Or.inr fun _ => ?_ | (intro _; split <;> with_reducible rfl) | split)

theorem execReactionAutoRelease_drop {fm : Nat} (e : Fin 64) (s : State) (hfm : fm &&& 8606752768 = 8606752768) :
    (resState (execReactionAutoRelease e s) s).drop fm = s.drop fm := by
  refine drop_sub hfm ?_
  unfold execReactionAutoRelease
  repeat' (first | simp only [↓releaseEntry_drop, id_eq, Nat.reduceAnd, Nat.reduceEqDiff, ↓drop_ite, ↓drop_fst_ite, ↓drop_cond, ↓resState_ite, ↓resState_next, ite_self, cond_self, true_or, or_true, false_or, or_false, implies_true, ↓foldl_drop, ↓foldl_fst_drop] | split)

theorem execMeasLostOpenExpiry_drop {fm : Nat} (c : ChainId) (s : State) (hfm : fm &&& 12961415168 = 12961415168) :
    (resState (execMeasLostOpenExpiry c s) s).drop fm = s.drop fm := by
  refine drop_sub hfm ?_
  unfold execMeasLostOpenExpiry
  repeat' (first | simp only [↓requestOpen_drop, id_eq, Nat.reduceAnd, Nat.reduceEqDiff, ↓drop_ite, ↓drop_fst_ite, ↓drop_cond, ↓resState_ite, ↓resState_next, ite_self, cond_self, true_or, or_true, false_or, or_false, implies_true, ↓foldl_drop, ↓foldl_fst_drop] | split)

theorem clearEntry_drop {fm : Nat} (s : State) (e : Fin 64) (hfm : fm &&& 8606752768 = 8606752768) :
    (clearEntry s e).drop fm = s.drop fm := by
  refine drop_sub hfm ?_
  unfold clearEntry
  repeat' (first | simp only [↓releaseEntry_drop, ↓State.onPrt_drop, id_eq, Nat.reduceAnd, Nat.reduceEqDiff, ↓drop_ite, ↓drop_fst_ite, ↓drop_cond, ↓resState_ite, ↓resState_next, ite_self, cond_self, true_or, or_true, false_or, or_false, implies_true, ↓foldl_drop, ↓foldl_fst_drop] | (refine (State.onPrt_drop (by decide) ?_ ?_ ).trans ?_) | with_reducible rfl | exact Or.inl (by decide) | refine Or.inr fun _ => ?_ | (intro _; split <;> with_reducible rfl) | split)

theorem opPrtClearEntry_drop {fm : Nat} (e : Fin 64) (s : State) (hfm : fm &&& 8606752768 = 8606752768) :
    (opPrtClearEntry e s).1.drop fm = s.drop fm := by
  refine drop_sub hfm ?_
  unfold opPrtClearEntry
  repeat' (first | simp only [↓logEvent_drop, ↓clearEntry_drop, id_eq, Nat.reduceAnd, Nat.reduceEqDiff, ↓drop_ite, ↓drop_fst_ite, ↓drop_cond, ↓resState_ite, ↓resState_next, ite_self, cond_self, true_or, or_true, false_or, or_false, implies_true, ↓foldl_drop, ↓foldl_fst_drop] | split)

theorem opPrtClearAll_drop {fm : Nat} (s : State) (hfm : fm &&& 8606752768 = 8606752768) :
    (opPrtClearAll s).1.drop fm = s.drop fm := by
  refine drop_sub hfm ?_
  unfold opPrtClearAll
  repeat' (first | simp only [↓logEvent_drop, ↓clearEntry_drop, id_eq, Nat.reduceAnd, Nat.reduceEqDiff, ↓drop_ite, ↓drop_fst_ite, ↓drop_cond, ↓resState_ite, ↓resState_next, ite_self, cond_self, true_or, or_true, false_or, or_false, implies_true, ↓foldl_drop, ↓foldl_fst_drop] | (refine (foldl_drop (fun _ _ => ?_) _ _).trans ?_) | split)

theorem execPrtClearEntry_drop {fm : Nat} (p : Requester) (e : Fin 64) (s : State) (hfm : fm &&& 148193189888 = 148193189888) :
    (resState (execPrtClearEntry p e s) s).drop fm = s.drop fm := by
  refine drop_sub hfm ?_
  unfold execPrtClearEntry
  repeat' (first | simp only [↓opPrtClearEntry_drop, id_eq, Nat.reduceAnd, Nat.reduceEqDiff, ↓drop_ite, ↓drop_fst_ite, ↓drop_cond, ↓resState_ite, ↓resState_next, ite_self, cond_self, true_or, or_true, false_or, or_false, implies_true, ↓foldl_drop, ↓foldl_fst_drop] | (refine (regCmd_drop (by decide) (fun _ => ?_)).trans ?_) | (refine (withRight_drop (by decide) (fun _ => ?_)).trans ?_) | split)

theorem execPrtClearAll_drop {fm : Nat} (p : Requester) (s : State) (hfm : fm &&& 148193189888 = 148193189888) :
    (resState (execPrtClearAll p s) s).drop fm = s.drop fm := by
  refine drop_sub hfm ?_
  unfold execPrtClearAll
  repeat' (first | simp only [↓opPrtClearAll_drop, id_eq, Nat.reduceAnd, Nat.reduceEqDiff, ↓drop_ite, ↓drop_fst_ite, ↓drop_cond, ↓resState_ite, ↓resState_next, ite_self, cond_self, true_or, or_true, false_or, or_false, implies_true, ↓foldl_drop, ↓foldl_fst_drop] | (refine (regCmd_drop (by decide) (fun _ => ?_)).trans ?_) | (refine (withRight_drop (by decide) (fun _ => ?_)).trans ?_) | split)

theorem opBypassReq_drop {fm : Nat} (p : Requester) (value : Word) (s : State) (hfm : fm &&& 6197731110912 = 6197731110912) :
    (opBypassReq p value s).1.drop fm = s.drop fm := by
  refine drop_sub hfm ?_
  unfold opBypassReq
  repeat' (first | simp only [↓raiseEvent_drop, ↓logEvent_drop, ↓decideBypass_drop, ↓State.onPrt_drop, id_eq, Nat.reduceAnd, Nat.reduceEqDiff, ↓drop_ite, ↓drop_fst_ite, ↓drop_cond, ↓resState_ite, ↓resState_next, ite_self, cond_self, true_or, or_true, false_or, or_false, implies_true, ↓foldl_drop, ↓foldl_fst_drop] | (refine (State.onPrt_drop (by decide) ?_ ?_ ).trans ?_) | with_reducible rfl | exact Or.inl (by decide) | refine Or.inr fun _ => ?_ | (intro _; split <;> with_reducible rfl) | split)

theorem execPrtBypassReq_drop {fm : Nat} (p : Requester) (value : Word) (s : State) (hfm : fm &&& 6199878594560 = 6199878594560) :
    (resState (execPrtBypassReq p value s) s).drop fm = s.drop fm := by
  refine drop_sub hfm ?_
  unfold execPrtBypassReq
  repeat' (first | simp only [↓opBypassReq_drop, id_eq, Nat.reduceAnd, Nat.reduceEqDiff, ↓drop_ite, ↓drop_fst_ite, ↓drop_cond, ↓resState_ite, ↓resState_next, ite_self, cond_self, true_or, or_true, false_or, or_false, implies_true, ↓foldl_drop, ↓foldl_fst_drop] | (refine (regCmd_drop (by decide) (fun _ => ?_)).trans ?_) | (refine (withRight_drop (by decide) (fun _ => ?_)).trans ?_) | split)

end Sys2Proof.Machine
end

