-- ==== Sys2Proof/Laws/FrameStore.lean ====
section
/-! SUPPORT. What the operations and commands of image, records and start-up leave unchanged. -/

set_option Elab.async false

set_option linter.unusedSimpArgs false

namespace Sys2Proof.Machine

theorem opStageBegin_drop {fm : Nat} (p : Requester) (len : Nat) (s : State) (hfm : fm &&& 8589934672 = 8589934672) :
    (opStageBegin p len s).1.drop fm = s.drop fm := by
  refine drop_sub hfm ?_
  unfold opStageBegin
  repeat' (first | simp only [↓logEvent_drop, ↓State.onImg_drop, id_eq, Nat.reduceAnd, Nat.reduceEqDiff, ↓drop_ite, ↓drop_fst_ite, ↓drop_cond, ↓resState_ite, ↓resState_next, ite_self, cond_self, true_or, or_true, false_or, or_false, implies_true, ↓foldl_drop, ↓foldl_fst_drop] | (refine (State.onImg_drop (by decide) ?_ ?_ ?_ ).trans ?_) | with_reducible rfl | exact Or.inl (by decide) | refine Or.inr fun _ => ?_ | (intro _; split <;> with_reducible rfl) | (intro _; unfold clearDryfit; with_reducible rfl) | (intro _; unfold putSlot clearDryfit; split <;> with_reducible rfl) | (intro _; unfold putSlot; split <;> with_reducible rfl) | split)

theorem execImgCmdStageBegin_drop {fm : Nat} (p : Requester) (len : Nat) (s : State) (hfm : fm &&& 148176371792 = 148176371792) :
    (resState (execImgCmdStageBegin p len s) s).drop fm = s.drop fm := by
  refine drop_sub hfm ?_
  unfold execImgCmdStageBegin
  repeat' (first | simp only [↓opStageBegin_drop, id_eq, Nat.reduceAnd, Nat.reduceEqDiff, ↓drop_ite, ↓drop_fst_ite, ↓drop_cond, ↓resState_ite, ↓resState_next, ite_self, cond_self, true_or, or_true, false_or, or_false, implies_true, ↓foldl_drop, ↓foldl_fst_drop] | (refine (regCmd_drop (by decide) (fun _ => ?_)).trans ?_) | (refine (withRight_drop (by decide) (fun _ => ?_)).trans ?_) | split)

theorem execStageEraseComplete_drop {fm : Nat} (s : State) (hfm : fm &&& 64 = 64) :
    (resState (execStageEraseComplete s) s).drop fm = s.drop fm := by
  refine drop_sub hfm ?_
  unfold execStageEraseComplete
  repeat' (first | simp only [↓State.onImg_drop, id_eq, Nat.reduceAnd, Nat.reduceEqDiff, ↓drop_ite, ↓drop_fst_ite, ↓drop_cond, ↓resState_ite, ↓resState_next, ite_self, cond_self, true_or, or_true, false_or, or_false, implies_true, ↓foldl_drop, ↓foldl_fst_drop] | (refine (State.onImg_drop (by decide) ?_ ?_ ?_ ).trans ?_) | with_reducible rfl | exact Or.inl (by decide) | refine Or.inr fun _ => ?_ | (intro _; split <;> with_reducible rfl) | split)

theorem opStageEnd_drop {fm : Nat} (s : State) (hfm : fm &&& 8589934656 = 8589934656) :
    (opStageEnd s).1.drop fm = s.drop fm := by
  refine drop_sub hfm ?_
  unfold opStageEnd
  repeat' (first | simp only [↓logWide_drop, ↓State.onImg_drop, id_eq, Nat.reduceAnd, Nat.reduceEqDiff, ↓drop_ite, ↓drop_fst_ite, ↓drop_cond, ↓resState_ite, ↓resState_next, ite_self, cond_self, true_or, or_true, false_or, or_false, implies_true, ↓foldl_drop, ↓foldl_fst_drop] | (refine (State.onImg_drop (by decide) ?_ ?_ ?_ ).trans ?_) | with_reducible rfl | exact Or.inl (by decide) | refine Or.inr fun _ => ?_ | (intro _; split <;> with_reducible rfl) | split)

theorem execImgCmdStageEnd_drop {fm : Nat} (p : Requester) (s : State) (hfm : fm &&& 148176371776 = 148176371776) :
    (resState (execImgCmdStageEnd p s) s).drop fm = s.drop fm := by
  refine drop_sub hfm ?_
  unfold execImgCmdStageEnd
  repeat' (first | simp only [↓opStageEnd_drop, id_eq, Nat.reduceAnd, Nat.reduceEqDiff, ↓drop_ite, ↓drop_fst_ite, ↓drop_cond, ↓resState_ite, ↓resState_next, ite_self, cond_self, true_or, or_true, false_or, or_false, implies_true, ↓foldl_drop, ↓foldl_fst_drop] | (refine (regCmd_drop (by decide) (fun _ => ?_)).trans ?_) | (refine (withRight_drop (by decide) (fun _ => ?_)).trans ?_) | split)

theorem opDryfit_drop {fm : Nat} (s : State) (hfm : fm &&& 64 = 64) :
    (opDryfit s).1.drop fm = s.drop fm := by
  refine drop_sub hfm ?_
  unfold opDryfit
  repeat' (first | simp only [↓State.onImg_drop, id_eq, Nat.reduceAnd, Nat.reduceEqDiff, ↓drop_ite, ↓drop_fst_ite, ↓drop_cond, ↓resState_ite, ↓resState_next, ite_self, cond_self, true_or, or_true, false_or, or_false, implies_true, ↓foldl_drop, ↓foldl_fst_drop] | (refine (State.onImg_drop (by decide) ?_ ?_ ?_ ).trans ?_) | with_reducible rfl | exact Or.inl (by decide) | refine Or.inr fun _ => ?_ | (intro _; split <;> with_reducible rfl) | (intro _; unfold clearDryfit; with_reducible rfl) | (intro _; unfold putSlot clearDryfit; split <;> with_reducible rfl) | (intro _; unfold putSlot; split <;> with_reducible rfl) | split)

theorem execImgCmdDryfit_drop {fm : Nat} (p : Requester) (s : State) (hfm : fm &&& 148176371776 = 148176371776) :
    (resState (execImgCmdDryfit p s) s).drop fm = s.drop fm := by
  refine drop_sub hfm ?_
  unfold execImgCmdDryfit
  repeat' (first | simp only [↓opDryfit_drop, id_eq, Nat.reduceAnd, Nat.reduceEqDiff, ↓drop_ite, ↓drop_fst_ite, ↓drop_cond, ↓resState_ite, ↓resState_next, ite_self, cond_self, true_or, or_true, false_or, or_false, implies_true, ↓foldl_drop, ↓foldl_fst_drop] | (refine (regCmd_drop (by decide) (fun _ => ?_)).trans ?_) | (refine (withRight_drop (by decide) (fun _ => ?_)).trans ?_) | split)

theorem execImgCmdAbort_drop {fm : Nat} (p : Requester) (s : State) (hfm : fm &&& 148176371776 = 148176371776) :
    (resState (execImgCmdAbort p s) s).drop fm = s.drop fm := by
  refine drop_sub hfm ?_
  unfold execImgCmdAbort
  repeat' (first | simp only [↓cancelGlue_drop, id_eq, Nat.reduceAnd, Nat.reduceEqDiff, ↓drop_ite, ↓drop_fst_ite, ↓drop_cond, ↓resState_ite, ↓resState_next, ite_self, cond_self, true_or, or_true, false_or, or_false, implies_true, ↓foldl_drop, ↓foldl_fst_drop] | (refine (regCmd_drop (by decide) (fun _ => ?_)).trans ?_) | (refine (withRight_drop (by decide) (fun _ => ?_)).trans ?_) | split)

theorem opChunk_drop {fm : Nat} (p : Requester) (off : Nat) (data : List Byte) (s : State) (hfm : fm &&& 10737418320 = 10737418320) :
    (opChunk p off data s).1.drop fm = s.drop fm := by
  refine drop_sub hfm ?_
  unfold opChunk
  repeat' (first | simp only [↓deny_drop, ↓State.onImg_drop, id_eq, Nat.reduceAnd, Nat.reduceEqDiff, ↓drop_ite, ↓drop_fst_ite, ↓drop_cond, ↓resState_ite, ↓resState_next, ite_self, cond_self, true_or, or_true, false_or, or_false, implies_true, ↓foldl_drop, ↓foldl_fst_drop] | (refine (State.onImg_drop (by decide) ?_ ?_ ?_ ).trans ?_) | with_reducible rfl | exact Or.inl (by decide) | refine Or.inr fun _ => ?_ | (intro _; split <;> with_reducible rfl) | (intro _; unfold clearDryfit; with_reducible rfl) | (intro _; unfold putSlot clearDryfit; split <;> with_reducible rfl) | (intro _; unfold putSlot; split <;> with_reducible rfl) | split)

theorem serviceChunk_drop {fm : Nat} (off : Nat) (data : List Byte) (s : State) (hfm : fm &&& 10737418320 = 10737418320) :
    (serviceChunk off data s).1.drop fm = s.drop fm := by
  refine drop_sub hfm ?_
  unfold serviceChunk
  repeat' (first | simp only [↓opChunk_drop, id_eq, Nat.reduceAnd, Nat.reduceEqDiff, ↓drop_ite, ↓drop_fst_ite, ↓drop_cond, ↓resState_ite, ↓resState_next, ite_self, cond_self, true_or, or_true, false_or, or_false, implies_true, ↓foldl_drop, ↓foldl_fst_drop] | split)

theorem execStagingChunk_drop {fm : Nat} (port : RPort) (b : List Byte) (s : State) (hfm : fm &&& 10737418448 = 10737418448) :
    (resState (execStagingChunk port b s) s).drop fm = s.drop fm := by
  refine drop_sub hfm ?_
  unfold execStagingChunk
  repeat' (first | simp only [↓noteCopy_drop, ↓opChunk_drop, ↓State.onSpl_drop, id_eq, Nat.reduceAnd, Nat.reduceEqDiff, ↓drop_ite, ↓drop_fst_ite, ↓drop_cond, ↓resState_ite, ↓resState_next, ite_self, cond_self, true_or, or_true, false_or, or_false, implies_true, ↓foldl_drop, ↓foldl_fst_drop] | split)

theorem dryfitPass_drop {fm : Nat} (s : State) (im : Image) (hfm : fm &&& 8589934784 = 8589934784) :
    (dryfitPass s im).drop fm = s.drop fm := by
  refine drop_sub hfm ?_
  unfold dryfitPass
  repeat' (first | simp only [↓logEvent_drop, ↓State.onImg_drop, ↓State.onSpl_drop, id_eq, Nat.reduceAnd, Nat.reduceEqDiff, ↓drop_ite, ↓drop_fst_ite, ↓drop_cond, ↓resState_ite, ↓resState_next, ite_self, cond_self, true_or, or_true, false_or, or_false, implies_true, ↓foldl_drop, ↓foldl_fst_drop] | (refine (State.onImg_drop (by decide) ?_ ?_ ?_ ).trans ?_) | with_reducible rfl | exact Or.inl (by decide) | refine Or.inr fun _ => ?_ | (intro _; split <;> with_reducible rfl) | split)

theorem dryfitFail_drop {fm : Nat} (s : State) (im : Image) (v : Verdict) (hfm : fm &&& 8589934656 = 8589934656) :
    (dryfitFail s im v).drop fm = s.drop fm := by
  refine drop_sub hfm ?_
  unfold dryfitFail
  repeat' (first | simp only [↓logEvent_drop, ↓State.onImg_drop, id_eq, Nat.reduceAnd, Nat.reduceEqDiff, ↓drop_ite, ↓drop_fst_ite, ↓drop_cond, ↓resState_ite, ↓resState_next, ite_self, cond_self, true_or, or_true, false_or, or_false, implies_true, ↓foldl_drop, ↓foldl_fst_drop] | (refine (State.onImg_drop (by decide) ?_ ?_ ?_ ).trans ?_) | with_reducible rfl | exact Or.inl (by decide) | refine Or.inr fun _ => ?_ | (intro _; split <;> with_reducible rfl) | split)

theorem execDryfitComplete_drop {fm : Nat} (s : State) (hfm : fm &&& 8589934784 = 8589934784) :
    (resState (execDryfitComplete s) s).drop fm = s.drop fm := by
  refine drop_sub hfm ?_
  unfold execDryfitComplete
  repeat' (first | simp only [↓dryfitFail_drop, ↓dryfitPass_drop, id_eq, Nat.reduceAnd, Nat.reduceEqDiff, ↓drop_ite, ↓drop_fst_ite, ↓drop_cond, ↓resState_ite, ↓resState_next, ite_self, cond_self, true_or, or_true, false_or, or_false, implies_true, ↓foldl_drop, ↓foldl_fst_drop] | split)

theorem execGlueUpSwitch_drop {fm : Nat} (s : State) (hfm : fm &&& 565014936830 = 565014936830) :
    (resState (execGlueUpSwitch s) s).drop fm = s.drop fm := by
  refine drop_sub hfm ?_
  unfold execGlueUpSwitch
  repeat' (first | simp only [↓switchImage_drop, id_eq, Nat.reduceAnd, Nat.reduceEqDiff, ↓drop_ite, ↓drop_fst_ite, ↓drop_cond, ↓resState_ite, ↓resState_next, ite_self, cond_self, true_or, or_true, false_or, or_false, implies_true, ↓foldl_drop, ↓foldl_fst_drop] | split)

theorem execGlueRestartComplete_drop {fm : Nat} (s : State) (hfm : fm &&& 8657076302 = 8657076302) :
    (resState (execGlueRestartComplete s) s).drop fm = s.drop fm := by
  refine drop_sub hfm ?_
  unfold execGlueRestartComplete
  repeat' (first | simp only [↓setEngines_drop, ↓refreshLoads_drop, ↓refreshBridge_drop, ↓logWide_drop, ↓resumeClamp_drop, ↓State.onDev_drop, ↓State.onImg_drop, id_eq, Nat.reduceAnd, Nat.reduceEqDiff, ↓drop_ite, ↓drop_fst_ite, ↓drop_cond, ↓resState_ite, ↓resState_next, ite_self, cond_self, true_or, or_true, false_or, or_false, implies_true, ↓foldl_drop, ↓foldl_fst_drop] | (refine (State.onImg_drop (by decide) ?_ ?_ ?_ ).trans ?_) | (refine (State.onDev_drop (by decide) ?_ ?_ ).trans ?_) | with_reducible rfl | exact Or.inl (by decide) | refine Or.inr fun _ => ?_ | (intro _; split <;> with_reducible rfl) | split)

theorem execEventLogCopy_drop {fm : Nat} (s : State) (hfm : fm &&& 4194304 = 4194304) :
    (resState (execEventLogCopy s) s).drop fm = s.drop fm := by
  refine drop_sub hfm ?_
  unfold execEventLogCopy
  repeat' (first | simp only [↓State.onEst_drop, id_eq, Nat.reduceAnd, Nat.reduceEqDiff, ↓drop_ite, ↓drop_fst_ite, ↓drop_cond, ↓resState_ite, ↓resState_next, ite_self, cond_self, true_or, or_true, false_or, or_false, implies_true, ↓foldl_drop, ↓foldl_fst_drop] | split)

theorem opEvtSel_drop {fm : Nat} (p : Requester) (seq : Nat) (s : State) (hfm : fm &&& 8589934592 = 8589934592) :
    (opEvtSel p seq s).1.drop fm = s.drop fm := by
  refine drop_sub hfm ?_
  unfold opEvtSel
  repeat' (first | simp only [↓State.onEvt_drop, id_eq, Nat.reduceAnd, Nat.reduceEqDiff, ↓drop_ite, ↓drop_fst_ite, ↓drop_cond, ↓resState_ite, ↓resState_next, ite_self, cond_self, true_or, or_true, false_or, or_false, implies_true, ↓foldl_drop, ↓foldl_fst_drop] | (refine (State.onEvt_drop (by decide) ?_ ?_ ?_ ).trans ?_) | with_reducible rfl | exact Or.inl (by decide) | refine Or.inr fun _ => ?_ | (intro _; split <;> with_reducible rfl) | split)

theorem execEvtSelWrite_drop {fm : Nat} (p : Requester) (seq : BitVec 24) (s : State) (hfm : fm &&& 148176371712 = 148176371712) :
    (resState (execEvtSelWrite p seq s) s).drop fm = s.drop fm := by
  refine drop_sub hfm ?_
  unfold execEvtSelWrite
  repeat' (first | simp only [↓opEvtSel_drop, id_eq, Nat.reduceAnd, Nat.reduceEqDiff, ↓drop_ite, ↓drop_fst_ite, ↓drop_cond, ↓resState_ite, ↓resState_next, ite_self, cond_self, true_or, or_true, false_or, or_false, implies_true, ↓foldl_drop, ↓foldl_fst_drop] | (refine (regCmd_drop (by decide) (fun _ => ?_)).trans ?_) | (refine (withRight_drop (by decide) (fun _ => ?_)).trans ?_) | split)

theorem tillWritten_drop {fm : Nat} (s : State) (r : TillRec) (hfm : fm &&& 8598323200 = 8598323200) :
    (tillWritten s r).drop fm = s.drop fm := by
  refine drop_sub hfm ?_
  unfold tillWritten
  repeat' (first | simp only [↓logWide_drop, ↓State.onThm_drop, id_eq, Nat.reduceAnd, Nat.reduceEqDiff, ↓drop_ite, ↓drop_fst_ite, ↓drop_cond, ↓resState_ite, ↓resState_next, ite_self, cond_self, true_or, or_true, false_or, or_false, implies_true, ↓foldl_drop, ↓foldl_fst_drop] | (refine (State.onThm_drop (by decide) ?_ ?_ ?_ ?_ ).trans ?_) | with_reducible rfl | exact Or.inl (by decide) | refine Or.inr fun _ => ?_ | (intro _; split <;> with_reducible rfl) | split)

theorem finishWrite_drop {fm : Nat} (s : State) (hfm : fm &&& 2207625773136 = 2207625773136) :
    (finishWrite s).drop fm = s.drop fm := by
  refine drop_sub hfm ?_
  unfold finishWrite
  repeat' (first | simp only [↓flushStaging_drop, ↓tillWritten_drop, ↓State.onEst_drop, ↓State.onEvt_drop, id_eq, Nat.reduceAnd, Nat.reduceEqDiff, ↓drop_ite, ↓drop_fst_ite, ↓drop_cond, ↓resState_ite, ↓resState_next, ite_self, cond_self, true_or, or_true, false_or, or_false, implies_true, ↓foldl_drop, ↓foldl_fst_drop] | (refine (State.onEvt_drop (by decide) ?_ ?_ ?_ ).trans ?_) | with_reducible rfl | exact Or.inl (by decide) | refine Or.inr fun _ => ?_ | (intro _; split <;> with_reducible rfl) | split)

theorem execNvmWriteComplete_drop {fm : Nat} (s : State) (hfm : fm &&& 2207625773136 = 2207625773136) :
    (resState (execNvmWriteComplete s) s).drop fm = s.drop fm := by
  refine drop_sub hfm ?_
  unfold execNvmWriteComplete
  repeat' (first | simp only [↓finishWrite_drop, id_eq, Nat.reduceAnd, Nat.reduceEqDiff, ↓drop_ite, ↓drop_fst_ite, ↓drop_cond, ↓resState_ite, ↓resState_next, ite_self, cond_self, true_or, or_true, false_or, or_false, implies_true, ↓foldl_drop, ↓foldl_fst_drop] | split)

theorem chainFrom_drop {fm : Nat} (s : State) (c : ChainId) (ms : Vector EstMod 32) (h : ChainHead) (hfm : fm &&& 3145728 = 3145728) :
    (chainFrom s c ms h).drop fm = s.drop fm := by
  refine drop_sub hfm ?_
  unfold chainFrom
  repeat' (first | simp only [↓State.onEs_drop, id_eq, Nat.reduceAnd, Nat.reduceEqDiff, ↓drop_ite, ↓drop_fst_ite, ↓drop_cond, ↓resState_ite, ↓resState_next, ite_self, cond_self, true_or, or_true, false_or, or_false, implies_true, ↓foldl_drop, ↓foldl_fst_drop] | split)

theorem countOver_drop {fm : Nat} (s : State) (c : ChainId) (qs : Vector Int 32) (ms : Nat) (hfm : fm &&& 3145728 = 3145728) :
    (countOver s c qs ms).drop fm = s.drop fm := by
  refine drop_sub hfm ?_
  unfold countOver
  repeat' (first | simp only [↓State.onEs_drop, id_eq, Nat.reduceAnd, Nat.reduceEqDiff, ↓drop_ite, ↓drop_fst_ite, ↓drop_cond, ↓resState_ite, ↓resState_next, ite_self, cond_self, true_or, or_true, false_or, or_false, implies_true, ↓foldl_drop, ↓foldl_fst_drop] | split)

theorem noSlot_drop {fm : Nat} (s : State) (kind : Nat) (hfm : fm &&& 8594128896 = 8594128896) :
    (noSlot s kind).drop fm = s.drop fm := by
  refine drop_sub hfm ?_
  unfold noSlot
  repeat' (first | simp only [↓logEvent_drop, ↓State.onEst_drop, id_eq, Nat.reduceAnd, Nat.reduceEqDiff, ↓drop_ite, ↓drop_fst_ite, ↓drop_cond, ↓resState_ite, ↓resState_next, ite_self, cond_self, true_or, or_true, false_or, or_false, implies_true, ↓foldl_drop, ↓foldl_fst_drop] | split)

theorem sinceRecord_drop {fm : Nat} (s : State) (c : ChainId) (hfm : fm &&& 8597274624 = 8597274624) :
    (sinceRecord s c).drop fm = s.drop fm := by
  refine drop_sub hfm ?_
  unfold sinceRecord
  repeat' (first | simp only [↓chargeGap_drop, ↓logEvent_drop, ↓State.onEs_drop, ↓State.onEst_drop, id_eq, Nat.reduceAnd, Nat.reduceEqDiff, ↓drop_ite, ↓drop_fst_ite, ↓drop_cond, ↓resState_ite, ↓resState_next, ite_self, cond_self, true_or, or_true, false_or, or_false, implies_true, ↓foldl_drop, ↓foldl_fst_drop] | split)

theorem restoreParks_drop {fm : Nat} (s : State) (c : ChainId) (hfm : fm &&& 196608 = 196608) :
    (restoreParks s c).drop fm = s.drop fm := by
  refine drop_sub hfm ?_
  unfold restoreParks
  repeat' (first | simp only [↓State.onChain_drop, id_eq, Nat.reduceAnd, Nat.reduceEqDiff, ↓drop_ite, ↓drop_fst_ite, ↓drop_cond, ↓resState_ite, ↓resState_next, ite_self, cond_self, true_or, or_true, false_or, or_false, implies_true, ↓foldl_drop, ↓foldl_fst_drop] | split)

theorem restoreRecords_drop {fm : Nat} (s : State) (hfm : fm &&& 12967968768 = 12967968768) :
    (restoreRecords s).drop fm = s.drop fm := by
  refine drop_sub hfm ?_
  unfold restoreRecords
  repeat' (first | simp only [↓logEvent_drop, ↓resetModule_drop, ↓chainFrom_drop, ↓noSlot_drop, ↓countOver_drop, ↓restoreParks_drop, ↓closeAll_drop, ↓sinceRecord_drop, ↓drainChain_drop, ↓refreshVeneer_drop, ↓refreshSoc_drop, ↓State.onEst_drop, ↓State.forChains_drop, id_eq, Nat.reduceAnd, Nat.reduceEqDiff, ↓drop_ite, ↓drop_fst_ite, ↓drop_cond, ↓resState_ite, ↓resState_next, ite_self, cond_self, true_or, or_true, false_or, or_false, implies_true, ↓foldl_drop, ↓foldl_fst_drop] | (refine (foldl_drop (fun _ _ => ?_) _ _).trans ?_) | (refine (State.forChains_drop (fun _ _ => ?_) _).trans ?_) | split)

theorem lateDrain_drop {fm : Nat} (s : State) (c : ChainId) (hfm : fm &&& 3145728 = 3145728) :
    (lateDrain s c).drop fm = s.drop fm := by
  refine drop_sub hfm ?_
  unfold lateDrain
  repeat' (first | simp only [↓refreshSoc_drop, ↓drainChain_drop, ↓State.onEs_drop, id_eq, Nat.reduceAnd, Nat.reduceEqDiff, ↓drop_ite, ↓drop_fst_ite, ↓drop_cond, ↓resState_ite, ↓resState_next, ite_self, cond_self, true_or, or_true, false_or, or_false, implies_true, ↓foldl_drop, ↓foldl_fst_drop] | split)

theorem badCopies_drop {fm : Nat} (s : State) (hfm : fm &&& 8589934592 = 8589934592) :
    (badCopies s).drop fm = s.drop fm := by
  refine drop_sub hfm ?_
  unfold badCopies
  repeat' (first | simp only [↓logEvent_drop, id_eq, Nat.reduceAnd, Nat.reduceEqDiff, ↓drop_ite, ↓drop_fst_ite, ↓drop_cond, ↓resState_ite, ↓resState_next, ite_self, cond_self, true_or, or_true, false_or, or_false, implies_true, ↓foldl_drop, ↓foldl_fst_drop] | (refine (foldl_drop (fun _ _ => ?_) _ _).trans ?_) | split)

theorem restoreShutdown_drop {fm : Nat} (s : State) (c : ChainId) (hfm : fm &&& 10595777617920 = 10595777617920) :
    (restoreShutdown s c).drop fm = s.drop fm := by
  refine drop_sub hfm ?_
  unfold restoreShutdown
  repeat' (first | simp only [↓shutChain_drop, ↓State.onThm_drop, id_eq, Nat.reduceAnd, Nat.reduceEqDiff, ↓drop_ite, ↓drop_fst_ite, ↓drop_cond, ↓resState_ite, ↓resState_next, ite_self, cond_self, true_or, or_true, false_or, or_false, implies_true, ↓foldl_drop, ↓foldl_fst_drop] | (refine (State.onThm_drop (by decide) ?_ ?_ ?_ ?_ ).trans ?_) | with_reducible rfl | exact Or.inl (by decide) | refine Or.inr fun _ => ?_ | (intro _; split <;> with_reducible rfl) | split)

theorem applyStages_drop {fm : Nat} (s : State) (hfm : fm &&& 209715200 = 209715200) :
    (applyStages s).drop fm = s.drop fm := by
  refine drop_sub hfm ?_
  unfold applyStages
  repeat' (first | simp only [↓shedLoads_drop, ↓startBus_drop, ↓State.onThm_drop, id_eq, Nat.reduceAnd, Nat.reduceEqDiff, ↓drop_ite, ↓drop_fst_ite, ↓drop_cond, ↓resState_ite, ↓resState_next, ite_self, cond_self, true_or, or_true, false_or, or_false, implies_true, ↓foldl_drop, ↓foldl_fst_drop] | (refine (State.onThm_drop (by decide) ?_ ?_ ?_ ?_ ).trans ?_) | with_reducible rfl | exact Or.inl (by decide) | refine Or.inr fun _ => ?_ | (intro _; split <;> with_reducible rfl) | split)

theorem measureBoot_drop {fm : Nat} (s : State) (slot : Option Bool) (hfm : fm &&& 2147483648 = 2147483648) :
    (measureBoot s slot).drop fm = s.drop fm := by
  refine drop_sub hfm ?_
  unfold measureBoot
  repeat' (first | simp only [↓State.onSec_drop, id_eq, Nat.reduceAnd, Nat.reduceEqDiff, ↓drop_ite, ↓drop_fst_ite, ↓drop_cond, ↓resState_ite, ↓resState_next, ite_self, cond_self, true_or, or_true, false_or, or_false, implies_true, ↓foldl_drop, ↓foldl_fst_drop] | (refine (State.onSec_drop (by decide) ?_ ).trans ?_) | with_reducible rfl | exact Or.inl (by decide) | refine Or.inr fun _ => ?_ | (intro _; split <;> with_reducible rfl) | split)

theorem logStart_drop {fm : Nat} (s : State) (hfm : fm &&& 9126805504 = 9126805504) :
    (logStart s).drop fm = s.drop fm := by
  refine drop_sub hfm ?_
  unfold logStart
  repeat' (first | simp only [↓logEvent_drop, ↓State.onPwr_drop, id_eq, Nat.reduceAnd, Nat.reduceEqDiff, ↓drop_ite, ↓drop_fst_ite, ↓drop_cond, ↓resState_ite, ↓resState_next, ite_self, cond_self, true_or, or_true, false_or, or_false, implies_true, ↓foldl_drop, ↓foldl_fst_drop] | (refine (State.onPwr_drop (by decide) ?_ ?_ ?_ ?_ ).trans ?_) | with_reducible rfl | exact Or.inl (by decide) | refine Or.inr fun _ => ?_ | (intro _; split <;> with_reducible rfl) | split)

theorem restoreClash_drop {fm : Nat} (s : State) (hfm : fm &&& 549789409280 = 549789409280) :
    (restoreClash s).drop fm = s.drop fm := by
  refine drop_sub hfm ?_
  unfold restoreClash
  repeat' (first | simp only [↓State.onArm_drop, ↓State.onDvt_drop, ↓State.onGlk_drop, id_eq, Nat.reduceAnd, Nat.reduceEqDiff, ↓drop_ite, ↓drop_fst_ite, ↓drop_cond, ↓resState_ite, ↓resState_next, ite_self, cond_self, true_or, or_true, false_or, or_false, implies_true, ↓foldl_drop, ↓foldl_fst_drop] | (refine (State.onArm_drop (by decide) ?_ ?_ ?_ ?_ ).trans ?_) | (refine (State.onGlk_drop (by decide) ?_ ?_ ?_ ?_ ?_ ?_ ?_ ).trans ?_) | with_reducible rfl | exact Or.inl (by decide) | refine Or.inr fun _ => ?_ | (intro _; split <;> with_reducible rfl) | split)

theorem bootSlot_drop {fm : Nat} (s : State) (b : Bool) (hfm : fm &&& 10598637084910 = 10598637084910) :
    (bootSlot s b).drop fm = s.drop fm := by
  refine drop_sub hfm ?_
  unfold bootSlot
  repeat' (first | simp only [↓setEngines_drop, ↓logStart_drop, ↓measureBoot_drop, ↓send_drop, ↓applyStages_drop, ↓badCopies_drop, ↓restoreRecords_drop, ↓restoreClash_drop, ↓restoreShutdown_drop, ↓State.onImg_drop, ↓State.onDev_drop, ↓State.onSpl_drop, ↓State.onDvt_drop, ↓State.forChains_drop, id_eq, Nat.reduceAnd, Nat.reduceEqDiff, ↓drop_ite, ↓drop_fst_ite, ↓drop_cond, ↓resState_ite, ↓resState_next, ite_self, cond_self, true_or, or_true, false_or, or_false, implies_true, ↓foldl_drop, ↓foldl_fst_drop] | (refine (State.forChains_drop (fun _ _ => ?_) _).trans ?_) | (refine (State.onImg_drop (by decide) ?_ ?_ ?_ ).trans ?_) | (refine (State.onDev_drop (by decide) ?_ ?_ ).trans ?_) | with_reducible rfl | exact Or.inl (by decide) | refine Or.inr fun _ => ?_ | (intro _; split <;> with_reducible rfl) | split)

theorem bootNone_drop {fm : Nat} (s : State) (hfm : fm &&& 11274289158 = 11274289158) :
    (bootNone s).drop fm = s.drop fm := by
  refine drop_sub hfm ?_
  unfold bootNone
  repeat' (first | simp only [↓logEvent_drop, ↓logStart_drop, ↓measureBoot_drop, ↓State.onDev_drop, id_eq, Nat.reduceAnd, Nat.reduceEqDiff, ↓drop_ite, ↓drop_fst_ite, ↓drop_cond, ↓resState_ite, ↓resState_next, ite_self, cond_self, true_or, or_true, false_or, or_false, implies_true, ↓foldl_drop, ↓foldl_fst_drop] | (refine (State.onDev_drop (by decide) ?_ ?_ ).trans ?_) | with_reducible rfl | exact Or.inl (by decide) | refine Or.inr fun _ => ?_ | (intro _; split <;> with_reducible rfl) | split)

theorem execBootSlotVerifyComplete_drop {fm : Nat} (s0 : State) (hfm : fm &&& 12797660340478 = 12797660340478) :
    (resState (execBootSlotVerifyComplete s0) s0).drop fm = s0.drop fm := by
  refine drop_sub hfm ?_
  unfold execBootSlotVerifyComplete
  repeat' (first | simp only [↓finishWrite_drop, ↓bootSlot_drop, ↓logEvent_drop, ↓bootNone_drop, id_eq, Nat.reduceAnd, Nat.reduceEqDiff, ↓drop_ite, ↓drop_fst_ite, ↓drop_cond, ↓resState_ite, ↓resState_next, ite_self, cond_self, true_or, or_true, false_or, or_false, implies_true, ↓foldl_drop, ↓foldl_fst_drop] | split)

theorem readBypass_drop {fm : Nat} (s : State) (hfm : fm &&& 4947802387456 = 4947802387456) :
    (readBypass s).drop fm = s.drop fm := by
  refine drop_sub hfm ?_
  unfold readBypass
  repeat' (first | simp only [↓publishState_drop, ↓State.onGlk_drop, ↓State.onArm_drop, id_eq, Nat.reduceAnd, Nat.reduceEqDiff, ↓drop_ite, ↓drop_fst_ite, ↓drop_cond, ↓resState_ite, ↓resState_next, ite_self, cond_self, true_or, or_true, false_or, or_false, implies_true, ↓foldl_drop, ↓foldl_fst_drop] | (refine (State.onArm_drop (by decide) ?_ ?_ ?_ ?_ ).trans ?_) | (refine (State.onGlk_drop (by decide) ?_ ?_ ?_ ?_ ?_ ?_ ?_ ).trans ?_) | with_reducible rfl | exact Or.inl (by decide) | refine Or.inr fun _ => ?_ | (intro _; split <;> with_reducible rfl) | split)

theorem wakeChains_drop {fm : Nat} (s : State) (hfm : fm &&& 150400368640 = 150400368640) :
    (wakeChains s).drop fm = s.drop fm := by
  refine drop_sub hfm ?_
  unfold wakeChains
  repeat' (first | simp only [↓opSnaWake_drop, ↓State.forChains_drop, id_eq, Nat.reduceAnd, Nat.reduceEqDiff, ↓drop_ite, ↓drop_fst_ite, ↓drop_cond, ↓resState_ite, ↓resState_next, ite_self, cond_self, true_or, or_true, false_or, or_false, implies_true, ↓foldl_drop, ↓foldl_fst_drop] | (refine (State.forChains_drop (fun _ _ => ?_) _).trans ?_) | split)

theorem execRingReady_drop {fm : Nat} (s : State) (hfm : fm &&& 5098239425670 = 5098239425670) :
    (resState (execRingReady s) s).drop fm = s.drop fm := by
  refine drop_sub hfm ?_
  unfold execRingReady
  repeat' (first | simp only [↓claimToken_drop, ↓readBypass_drop, ↓lateDrain_drop, ↓setWant_drop, ↓logWide_drop, ↓refreshLoads_drop, ↓refreshBridge_drop, ↓wakeChains_drop, ↓State.onDev_drop, ↓State.onSpl_drop, ↓State.forChains_drop, id_eq, Nat.reduceAnd, Nat.reduceEqDiff, ↓drop_ite, ↓drop_fst_ite, ↓drop_cond, ↓resState_ite, ↓resState_next, ite_self, cond_self, true_or, or_true, false_or, or_false, implies_true, ↓foldl_drop, ↓foldl_fst_drop] | (refine (foldl_drop (fun _ _ => ?_) _ _).trans ?_) | (refine (State.forChains_drop (fun _ _ => ?_) _).trans ?_) | (refine (State.onDev_drop (by decide) ?_ ?_ ).trans ?_) | with_reducible rfl | exact Or.inl (by decide) | refine Or.inr fun _ => ?_ | (intro _; split <;> with_reducible rfl) | split)

theorem execMemberBTokenWaitExpiry_drop {fm : Nat} (s : State) (hfm : fm &&& 150433933312 = 150433933312) :
    (resState (execMemberBTokenWaitExpiry s) s).drop fm = s.drop fm := by
  refine drop_sub hfm ?_
  unfold execMemberBTokenWaitExpiry
  repeat' (first | simp only [↓wakeChains_drop, ↓takeFirst_drop, id_eq, Nat.reduceAnd, Nat.reduceEqDiff, ↓drop_ite, ↓drop_fst_ite, ↓drop_cond, ↓resState_ite, ↓resState_next, ite_self, cond_self, true_or, or_true, false_or, or_false, implies_true, ↓foldl_drop, ↓foldl_fst_drop] | split)

end Sys2Proof.Machine
end

