-- ==== Sys2Proof/Laws/FrameAccess.lean ====
section
/-! SUPPORT. What the operations and commands of security, maintenance and registers leave unchanged. -/

set_option Elab.async false

set_option linter.unusedSimpArgs false

namespace Sys2Proof.Machine

theorem opAttest_drop {fm : Nat} (s : State) (hfm : fm &&& 2147483648 = 2147483648) :
    (opAttest s).1.drop fm = s.drop fm := by
  refine drop_sub hfm ?_
  unfold opAttest
  repeat' (first | simp only [↓State.onSec_drop, id_eq, Nat.reduceAnd, Nat.reduceEqDiff, ↓drop_ite, ↓drop_fst_ite, ↓drop_cond, ↓resState_ite, ↓resState_next, ite_self, cond_self, true_or, or_true, false_or, or_false, implies_true, ↓foldl_drop, ↓foldl_fst_drop] | (refine (State.onSec_drop (by decide) ?_ ).trans ?_) | with_reducible rfl | exact Or.inl (by decide) | refine Or.inr fun _ => ?_ | (intro _; split <;> with_reducible rfl) | split)

theorem execSecCmdAttest_drop {fm : Nat} (p : Requester) (s : State) (hfm : fm &&& 148176371712 = 148176371712) :
    (resState (execSecCmdAttest p s) s).drop fm = s.drop fm := by
  refine drop_sub hfm ?_
  unfold execSecCmdAttest
  repeat' (first | simp only [↓opAttest_drop, id_eq, Nat.reduceAnd, Nat.reduceEqDiff, ↓drop_ite, ↓drop_fst_ite, ↓drop_cond, ↓resState_ite, ↓resState_next, ite_self, cond_self, true_or, or_true, false_or, or_false, implies_true, ↓foldl_drop, ↓foldl_fst_drop] | (refine (regCmd_drop (by decide) (fun _ => ?_)).trans ?_) | (refine (withRight_drop (by decide) (fun _ => ?_)).trans ?_) | split)

theorem execAttestSigned_drop {fm : Nat} (s : State) (hfm : fm &&& 10737418240 = 10737418240) :
    (resState (execAttestSigned s) s).drop fm = s.drop fm := by
  refine drop_sub hfm ?_
  unfold execAttestSigned
  repeat' (first | simp only [↓logEvent_drop, ↓State.onSec_drop, id_eq, Nat.reduceAnd, Nat.reduceEqDiff, ↓drop_ite, ↓drop_fst_ite, ↓drop_cond, ↓resState_ite, ↓resState_next, ite_self, cond_self, true_or, or_true, false_or, or_false, implies_true, ↓foldl_drop, ↓foldl_fst_drop] | (refine (State.onSec_drop (by decide) ?_ ).trans ?_) | with_reducible rfl | exact Or.inl (by decide) | refine Or.inr fun _ => ?_ | (intro _; split <;> with_reducible rfl) | split)

theorem execSecCounterWrite_drop {fm : Nat} (s : State) (hfm : fm &&& 2147483648 = 2147483648) :
    (resState (execSecCounterWrite s) s).drop fm = s.drop fm := by
  refine drop_sub hfm ?_
  unfold execSecCounterWrite
  repeat' (first | simp only [↓State.onSec_drop, id_eq, Nat.reduceAnd, Nat.reduceEqDiff, ↓drop_ite, ↓drop_fst_ite, ↓drop_cond, ↓resState_ite, ↓resState_next, ite_self, cond_self, true_or, or_true, false_or, or_false, implies_true, ↓foldl_drop, ↓foldl_fst_drop] | (refine (State.onSec_drop (by decide) ?_ ).trans ?_) | with_reducible rfl | exact Or.inl (by decide) | refine Or.inr fun _ => ?_ | (intro _; split <;> with_reducible rfl) | split)

theorem opStepField_drop {fm : Nat} (s : State) (hfm : fm &&& 11811160064 = 11811160064) :
    (opStepField s).1.drop fm = s.drop fm := by
  refine drop_sub hfm ?_
  unfold opStepField
  repeat' (first | simp only [↓logEvent_drop, ↓State.onSec_drop, id_eq, Nat.reduceAnd, Nat.reduceEqDiff, ↓drop_ite, ↓drop_fst_ite, ↓drop_cond, ↓resState_ite, ↓resState_next, ite_self, cond_self, true_or, or_true, false_or, or_false, implies_true, ↓foldl_drop, ↓foldl_fst_drop] | (refine (State.onSec_drop (by decide) ?_ ).trans ?_) | with_reducible rfl | exact Or.inl (by decide) | refine Or.inr fun _ => ?_ | (intro _; split <;> with_reducible rfl) | split)

theorem execSecCmdStepField_drop {fm : Nat} (p : Requester) (s : State) (hfm : fm &&& 149250113536 = 149250113536) :
    (resState (execSecCmdStepField p s) s).drop fm = s.drop fm := by
  refine drop_sub hfm ?_
  unfold execSecCmdStepField
  repeat' (first | simp only [↓opStepField_drop, ↓deny_drop, id_eq, Nat.reduceAnd, Nat.reduceEqDiff, ↓drop_ite, ↓drop_fst_ite, ↓drop_cond, ↓resState_ite, ↓resState_next, ite_self, cond_self, true_or, or_true, false_or, or_false, implies_true, ↓foldl_drop, ↓foldl_fst_drop] | (refine (regCmd_drop (by decide) (fun _ => ?_)).trans ?_) | (refine (withRight_drop (by decide) (fun _ => ?_)).trans ?_) | split)

theorem enrol_drop {fm : Nat} (s : State) (o : List Byte) (hfm : fm &&& 11811160144 = 11811160144) :
    (enrol s o).drop fm = s.drop fm := by
  refine drop_sub hfm ?_
  unfold enrol
  repeat' (first | simp only [↓logEvent_drop, ↓State.onSec_drop, ↓State.onImg_drop, id_eq, Nat.reduceAnd, Nat.reduceEqDiff, ↓drop_ite, ↓drop_fst_ite, ↓drop_cond, ↓resState_ite, ↓resState_next, ite_self, cond_self, true_or, or_true, false_or, or_false, implies_true, ↓foldl_drop, ↓foldl_fst_drop] | (refine (State.onImg_drop (by decide) ?_ ?_ ?_ ).trans ?_) | (refine (State.onSec_drop (by decide) ?_ ).trans ?_) | with_reducible rfl | exact Or.inl (by decide) | refine Or.inr fun _ => ?_ | (intro _; split <;> with_reducible rfl) | split)

theorem ack_drop {fm : Nat} (s : State) (status : Nat) (hfm : fm &&& 137438953472 = 137438953472) :
    (ack s status).drop fm = s.drop fm := by
  refine drop_sub hfm ?_
  unfold ack
  repeat' (first | simp only [↓send_drop, id_eq, Nat.reduceAnd, Nat.reduceEqDiff, ↓drop_ite, ↓drop_fst_ite, ↓drop_cond, ↓resState_ite, ↓resState_next, ite_self, cond_self, true_or, or_true, false_or, or_false, implies_true, ↓foldl_drop, ↓foldl_fst_drop] | split)

theorem execEnrolmentObject_drop {fm : Nat} (object : List Byte) (s : State) (hfm : fm &&& 17213960486910 = 17213960486910) :
    (resState (execEnrolmentObject object s) s).drop fm = s.drop fm := by
  refine drop_sub hfm ?_
  unfold execEnrolmentObject
  repeat' (first | simp only [↓ack_drop, ↓deny_drop, ↓enrol_drop, ↓coldReset_drop, ↓logEvent_drop, ↓State.onSec_drop, id_eq, Nat.reduceAnd, Nat.reduceEqDiff, ↓drop_ite, ↓drop_fst_ite, ↓drop_cond, ↓resState_ite, ↓resState_next, ite_self, cond_self, true_or, or_true, false_or, or_false, implies_true, ↓foldl_drop, ↓foldl_fst_drop] | (refine (State.onSec_drop (by decide) ?_ ).trans ?_) | with_reducible rfl | exact Or.inl (by decide) | refine Or.inr fun _ => ?_ | (intro _; split <;> with_reducible rfl) | split)

theorem serviceRequest_drop {fm : Nat} {s : State} {seq : Nat} {content : List Byte} {run : State → State × SvcFrame}
    (h : fm &&& 139586437120 = 139586437120) (g : ∀ t, (run t).1.drop fm = t.drop fm) :
    (serviceRequest s seq content run).drop fm = s.drop fm := by
  have a : fm &&& 137438953472 = 137438953472 := and_part h rfl
  have b : fm &&& 2147483648 = 2147483648 := and_part h rfl
  unfold serviceRequest
  split
  · rfl
  · extract_lets r fresh
    have e : fresh.drop fm = s.drop fm := by
      unfold fresh
      split
      · exact (send_drop _ _ a).trans (Eq.trans (by refine State.onSec_drop b (Or.inr fun _ => ?_); rfl) (g s))
      · exact g s
    split
    · split
      · exact send_drop s _ a
      · exact e
    · exact e

theorem execSvcBulk_drop {fm : Nat} (seq : Nat) (stream : Nat) (off : Nat) (data : List Byte) (s : State) (hfm : fm &&& 148176371792 = 148176371792) :
    (resState (execSvcBulk seq stream off data s) s).drop fm = s.drop fm := by
  refine drop_sub hfm ?_
  unfold execSvcBulk
  repeat' (first | simp only [↓serviceChunk_drop, id_eq, Nat.reduceAnd, Nat.reduceEqDiff, ↓drop_ite, ↓drop_fst_ite, ↓drop_cond, ↓resState_ite, ↓resState_next, ite_self, cond_self, true_or, or_true, false_or, or_false, implies_true, ↓foldl_drop, ↓foldl_fst_drop] | (refine (serviceRequest_drop (by decide) (fun _ => ?_)).trans ?_) | split)

theorem execSvcFrameGapTimeout_drop {fm : Nat} (s : State) (hfm : fm &&& 8589934592 = 8589934592) :
    (resState (execSvcFrameGapTimeout s) s).drop fm = s.drop fm := by
  refine drop_sub hfm ?_
  unfold execSvcFrameGapTimeout
  repeat' (first | simp only [↓logEvent_drop, id_eq, Nat.reduceAnd, Nat.reduceEqDiff, ↓drop_ite, ↓drop_fst_ite, ↓drop_cond, ↓resState_ite, ↓resState_next, ite_self, cond_self, true_or, or_true, false_or, or_false, implies_true, ↓foldl_drop, ↓foldl_fst_drop] | split)

theorem execSvcFrameCrcFail_drop {fm : Nat} (seq : Nat) (s : State) (hfm : fm &&& 148176371712 = 148176371712) :
    (resState (execSvcFrameCrcFail seq s) s).drop fm = s.drop fm := by
  refine drop_sub hfm ?_
  unfold execSvcFrameCrcFail
  repeat' (first | simp only [↓logEvent_drop, ↓send_drop, ↓State.onSec_drop, id_eq, Nat.reduceAnd, Nat.reduceEqDiff, ↓drop_ite, ↓drop_fst_ite, ↓drop_cond, ↓resState_ite, ↓resState_next, ite_self, cond_self, true_or, or_true, false_or, or_false, implies_true, ↓foldl_drop, ↓foldl_fst_drop] | (refine (State.onSec_drop (by decide) ?_ ).trans ?_) | with_reducible rfl | exact Or.inl (by decide) | refine Or.inr fun _ => ?_ | (intro _; split <;> with_reducible rfl) | split)

theorem execJtagTapReset_drop {fm : Nat} (s : State) (hfm : fm &&& 2147483648 = 2147483648) :
    (resState (execJtagTapReset s) s).drop fm = s.drop fm := by
  refine drop_sub hfm ?_
  unfold execJtagTapReset
  repeat' (first | simp only [↓State.onSec_drop, id_eq, Nat.reduceAnd, Nat.reduceEqDiff, ↓drop_ite, ↓drop_fst_ite, ↓drop_cond, ↓resState_ite, ↓resState_next, ite_self, cond_self, true_or, or_true, false_or, or_false, implies_true, ↓foldl_drop, ↓foldl_fst_drop] | (refine (State.onSec_drop (by decide) ?_ ).trans ?_) | with_reducible rfl | exact Or.inl (by decide) | refine Or.inr fun _ => ?_ | (intro _; split <;> with_reducible rfl) | split)

theorem execJtagInstruction_drop {fm : Nat} (i : JtagInstr) (s : State) (hfm : fm &&& 10737418240 = 10737418240) :
    (resState (execJtagInstruction i s) s).drop fm = s.drop fm := by
  refine drop_sub hfm ?_
  unfold execJtagInstruction
  repeat' (first | simp only [↓logEvent_drop, ↓State.onSec_drop, id_eq, Nat.reduceAnd, Nat.reduceEqDiff, ↓drop_ite, ↓drop_fst_ite, ↓drop_cond, ↓resState_ite, ↓resState_next, ite_self, cond_self, true_or, or_true, false_or, or_false, implies_true, ↓foldl_drop, ↓foldl_fst_drop] | (refine (State.onSec_drop (by decide) ?_ ).trans ?_) | with_reducible rfl | exact Or.inl (by decide) | refine Or.inr fun _ => ?_ | (intro _; split <;> with_reducible rfl) | split)

theorem refuseLocked_drop {fm : Nat} (s : State) (p : Requester) (code : ActCode) (h : Nat × Fin 4 × Activity) (hfm : fm &&& 12884901888 = 12884901888) :
    (refuseLocked s p code h).1.drop fm = s.drop fm := by
  refine drop_sub hfm ?_
  unfold refuseLocked
  repeat' (first | simp only [↓logEvent_drop, ↓State.onMnt_drop, id_eq, Nat.reduceAnd, Nat.reduceEqDiff, ↓drop_ite, ↓drop_fst_ite, ↓drop_cond, ↓resState_ite, ↓resState_next, ite_self, cond_self, true_or, or_true, false_or, or_false, implies_true, ↓foldl_drop, ↓foldl_fst_drop] | split)

theorem admitAct_drop {fm : Nat} {s : State} {p : Requester} {code : ActCode} {c : ChainId} {m : Fin 32} {pre : Bool}
    {begins : State → State} (h : fm &&& 12884901952 = 12884901952) (g : ∀ t, (begins t).drop fm = t.drop fm) :
    (admitAct s p code c m pre begins).1.drop fm = s.drop fm := by
  have a : fm &&& 8589934592 = 8589934592 := and_part h rfl
  have b : fm &&& 4294967296 = 4294967296 := and_part h rfl
  have w : fm &&& 8589934656 = 8589934656 := and_part h rfl
  unfold admitAct
  repeat' (first
    | simp only [↓drop_fst_ite, g, ↓watchReady_drop _ w, ↓logEvent_drop _ _ _ _ _ a, ↓State.onMnt_drop b, ite_self]
    | exact refuseLocked_drop s p code _ (and_part h rfl)
    | split)

theorem opMntLearn_drop {fm : Nat} (p : Requester) (c : ChainId) (m : Fin 32) (s : State) (hfm : fm &&& 12885098560 = 12885098560) :
    (opMntLearn p c m s).1.drop fm = s.drop fm := by
  refine drop_sub hfm ?_
  unfold opMntLearn
  repeat' (first | simp only [↓learnPhase_drop, ↓State.onChain_drop, id_eq, Nat.reduceAnd, Nat.reduceEqDiff, ↓drop_ite, ↓drop_fst_ite, ↓drop_cond, ↓resState_ite, ↓resState_next, ite_self, cond_self, true_or, or_true, false_or, or_false, implies_true, ↓foldl_drop, ↓foldl_fst_drop] | (refine (admitAct_drop (by decide) (fun _ => ?_)).trans ?_) | split)

theorem execMntStartLearn_drop {fm : Nat} (p : Requester) (c : ChainId) (m : Fin 32) (s : State) (hfm : fm &&& 152471535680 = 152471535680) :
    (resState (execMntStartLearn p c m s) s).drop fm = s.drop fm := by
  refine drop_sub hfm ?_
  unfold execMntStartLearn
  repeat' (first | simp only [↓opMntLearn_drop, id_eq, Nat.reduceAnd, Nat.reduceEqDiff, ↓drop_ite, ↓drop_fst_ite, ↓drop_cond, ↓resState_ite, ↓resState_next, ite_self, cond_self, true_or, or_true, false_or, or_false, implies_true, ↓foldl_drop, ↓foldl_fst_drop] | (refine (regCmd_drop (by decide) (fun _ => ?_)).trans ?_) | (refine (withRight_drop (by decide) (fun _ => ?_)).trans ?_) | split)

theorem opMntSentUpdate_drop {fm : Nat} (p : Requester) (c : ChainId) (m : Fin 32) (s : State) (hfm : fm &&& 12885884992 = 12885884992) :
    (opMntSentUpdate p c m s).1.drop fm = s.drop fm := by
  refine drop_sub hfm ?_
  unfold opMntSentUpdate
  repeat' (first | simp only [↓sendSrq_drop, ↓State.onChain_drop, ↓State.onSen_drop, id_eq, Nat.reduceAnd, Nat.reduceEqDiff, ↓drop_ite, ↓drop_fst_ite, ↓drop_cond, ↓resState_ite, ↓resState_next, ite_self, cond_self, true_or, or_true, false_or, or_false, implies_true, ↓foldl_drop, ↓foldl_fst_drop] | (refine (admitAct_drop (by decide) (fun _ => ?_)).trans ?_) | (refine (foldl_drop (fun _ _ => ?_) _ _).trans ?_) | split)

theorem execMntStartSentUpdate_drop {fm : Nat} (p : Requester) (c : ChainId) (m : Fin 32) (s : State) (hfm : fm &&& 152472322112 = 152472322112) :
    (resState (execMntStartSentUpdate p c m s) s).drop fm = s.drop fm := by
  refine drop_sub hfm ?_
  unfold execMntStartSentUpdate
  repeat' (first | simp only [↓opMntSentUpdate_drop, id_eq, Nat.reduceAnd, Nat.reduceEqDiff, ↓drop_ite, ↓drop_fst_ite, ↓drop_cond, ↓resState_ite, ↓resState_next, ite_self, cond_self, true_or, or_true, false_or, or_false, implies_true, ↓foldl_drop, ↓foldl_fst_drop] | (refine (regCmd_drop (by decide) (fun _ => ?_)).trans ?_) | (refine (withRight_drop (by decide) (fun _ => ?_)).trans ?_) | split)

theorem opMntGateTest_drop {fm : Nat} (p : Requester) (c : ChainId) (m : Fin 32) (s : State) (hfm : fm &&& 12884901952 = 12884901952) :
    (opMntGateTest p c m s).1.drop fm = s.drop fm := by
  refine drop_sub hfm ?_
  unfold opMntGateTest
  repeat' (first | simp only [id_eq, Nat.reduceAnd, Nat.reduceEqDiff, ↓drop_ite, ↓drop_fst_ite, ↓drop_cond, ↓resState_ite, ↓resState_next, ite_self, cond_self, true_or, or_true, false_or, or_false, implies_true, ↓foldl_drop, ↓foldl_fst_drop] | (refine (admitAct_drop (by decide) (fun _ => ?_)).trans ?_) | split)

theorem execMntStartGateTest_drop {fm : Nat} (p : Requester) (c : ChainId) (m : Fin 32) (s : State) (hfm : fm &&& 152471339072 = 152471339072) :
    (resState (execMntStartGateTest p c m s) s).drop fm = s.drop fm := by
  refine drop_sub hfm ?_
  unfold execMntStartGateTest
  repeat' (first | simp only [↓opMntGateTest_drop, id_eq, Nat.reduceAnd, Nat.reduceEqDiff, ↓drop_ite, ↓drop_fst_ite, ↓drop_cond, ↓resState_ite, ↓resState_next, ite_self, cond_self, true_or, or_true, false_or, or_false, implies_true, ↓foldl_drop, ↓foldl_fst_drop] | (refine (regCmd_drop (by decide) (fun _ => ?_)).trans ?_) | (refine (withRight_drop (by decide) (fun _ => ?_)).trans ?_) | split)

theorem opMntJig_drop {fm : Nat} (p : Requester) (c : ChainId) (m : Fin 32) (s : State) (hfm : fm &&& 12884901952 = 12884901952) :
    (opMntJig p c m s).1.drop fm = s.drop fm := by
  refine drop_sub hfm ?_
  unfold opMntJig
  repeat' (first | simp only [id_eq, Nat.reduceAnd, Nat.reduceEqDiff, ↓drop_ite, ↓drop_fst_ite, ↓drop_cond, ↓resState_ite, ↓resState_next, ite_self, cond_self, true_or, or_true, false_or, or_false, implies_true, ↓foldl_drop, ↓foldl_fst_drop] | (refine (admitAct_drop (by decide) (fun _ => ?_)).trans ?_) | split)

theorem execMntStartJig_drop {fm : Nat} (p : Requester) (c : ChainId) (m : Fin 32) (s : State) (hfm : fm &&& 152471339072 = 152471339072) :
    (resState (execMntStartJig p c m s) s).drop fm = s.drop fm := by
  refine drop_sub hfm ?_
  unfold execMntStartJig
  repeat' (first | simp only [↓opMntJig_drop, id_eq, Nat.reduceAnd, Nat.reduceEqDiff, ↓drop_ite, ↓drop_fst_ite, ↓drop_cond, ↓resState_ite, ↓resState_next, ite_self, cond_self, true_or, or_true, false_or, or_false, implies_true, ↓foldl_drop, ↓foldl_fst_drop] | (refine (regCmd_drop (by decide) (fun _ => ?_)).trans ?_) | (refine (withRight_drop (by decide) (fun _ => ?_)).trans ?_) | split)

theorem opMntPrecharge_drop {fm : Nat} (p : Requester) (c : ChainId) (m : Fin 32) (s : State) (hfm : fm &&& 12885884992 = 12885884992) :
    (opMntPrecharge p c m s).1.drop fm = s.drop fm := by
  refine drop_sub hfm ?_
  unfold opMntPrecharge
  repeat' (first | simp only [↓startConnect_drop, id_eq, Nat.reduceAnd, Nat.reduceEqDiff, ↓drop_ite, ↓drop_fst_ite, ↓drop_cond, ↓resState_ite, ↓resState_next, ite_self, cond_self, true_or, or_true, false_or, or_false, implies_true, ↓foldl_drop, ↓foldl_fst_drop] | (refine (admitAct_drop (by decide) (fun _ => ?_)).trans ?_) | split)

theorem execMntStartPrecharge_drop {fm : Nat} (p : Requester) (c : ChainId) (m : Fin 32) (s : State) (hfm : fm &&& 152472322112 = 152472322112) :
    (resState (execMntStartPrecharge p c m s) s).drop fm = s.drop fm := by
  refine drop_sub hfm ?_
  unfold execMntStartPrecharge
  repeat' (first | simp only [↓opMntPrecharge_drop, id_eq, Nat.reduceAnd, Nat.reduceEqDiff, ↓drop_ite, ↓drop_fst_ite, ↓drop_cond, ↓resState_ite, ↓resState_next, ite_self, cond_self, true_or, or_true, false_or, or_false, implies_true, ↓foldl_drop, ↓foldl_fst_drop] | (refine (regCmd_drop (by decide) (fun _ => ?_)).trans ?_) | (refine (withRight_drop (by decide) (fun _ => ?_)).trans ?_) | split)

theorem opMntContTest_drop {fm : Nat} (p : Requester) (c : ChainId) (m : Fin 32) (s : State) (hfm : fm &&& 12961415232 = 12961415232) :
    (opMntContTest p c m s).1.drop fm = s.drop fm := by
  refine drop_sub hfm ?_
  unfold opMntContTest
  repeat' (first | simp only [↓startOpening_drop, id_eq, Nat.reduceAnd, Nat.reduceEqDiff, ↓drop_ite, ↓drop_fst_ite, ↓drop_cond, ↓resState_ite, ↓resState_next, ite_self, cond_self, true_or, or_true, false_or, or_false, implies_true, ↓foldl_drop, ↓foldl_fst_drop] | (refine (admitAct_drop (by decide) (fun _ => ?_)).trans ?_) | split)

theorem execMntStartContTest_drop {fm : Nat} (p : Requester) (c : ChainId) (m : Fin 32) (s : State) (hfm : fm &&& 152547852352 = 152547852352) :
    (resState (execMntStartContTest p c m s) s).drop fm = s.drop fm := by
  refine drop_sub hfm ?_
  unfold execMntStartContTest
  repeat' (first | simp only [↓opMntContTest_drop, id_eq, Nat.reduceAnd, Nat.reduceEqDiff, ↓drop_ite, ↓drop_fst_ite, ↓drop_cond, ↓resState_ite, ↓resState_next, ite_self, cond_self, true_or, or_true, false_or, or_false, implies_true, ↓foldl_drop, ↓foldl_fst_drop] | (refine (regCmd_drop (by decide) (fun _ => ?_)).trans ?_) | (refine (withRight_drop (by decide) (fun _ => ?_)).trans ?_) | split)

theorem testHeater_drop {fm : Nat} (s : State) (x0 : List (Fin 12)) (hfm : fm &&& 12960399360 = 12960399360) :
    (testHeater s x0).drop fm = s.drop fm := by
  refine drop_sub hfm ?_
  unfold testHeater
  repeat' (first | simp only [↓setHeater_drop, ↓State.onMnt_drop, id_eq, Nat.reduceAnd, Nat.reduceEqDiff, ↓drop_ite, ↓drop_fst_ite, ↓drop_cond, ↓resState_ite, ↓resState_next, ite_self, cond_self, true_or, or_true, false_or, or_false, implies_true, ↓foldl_drop, ↓foldl_fst_drop] | split)

theorem opMntHeaterTest_drop {fm : Nat} (p : Requester) (c : ChainId) (m : Fin 32) (s : State) (hfm : fm &&& 12960399424 = 12960399424) :
    (opMntHeaterTest p c m s).1.drop fm = s.drop fm := by
  refine drop_sub hfm ?_
  unfold opMntHeaterTest
  repeat' (first | simp only [↓setHeater_drop, ↓testHeater_drop, ↓State.onThm_drop, id_eq, Nat.reduceAnd, Nat.reduceEqDiff, ↓drop_ite, ↓drop_fst_ite, ↓drop_cond, ↓resState_ite, ↓resState_next, ite_self, cond_self, true_or, or_true, false_or, or_false, implies_true, ↓foldl_drop, ↓foldl_fst_drop] | (refine (admitAct_drop (by decide) (fun _ => ?_)).trans ?_) | (refine (foldl_drop (fun _ _ => ?_) _ _).trans ?_) | (refine (State.onThm_drop (by decide) ?_ ?_ ?_ ?_ ).trans ?_) | with_reducible rfl | exact Or.inl (by decide) | refine Or.inr fun _ => ?_ | (intro _; split <;> with_reducible rfl) | split)

theorem execMntStartHeaterTest_drop {fm : Nat} (p : Requester) (c : ChainId) (m : Fin 32) (s : State) (hfm : fm &&& 152546836544 = 152546836544) :
    (resState (execMntStartHeaterTest p c m s) s).drop fm = s.drop fm := by
  refine drop_sub hfm ?_
  unfold execMntStartHeaterTest
  repeat' (first | simp only [↓opMntHeaterTest_drop, id_eq, Nat.reduceAnd, Nat.reduceEqDiff, ↓drop_ite, ↓drop_fst_ite, ↓drop_cond, ↓resState_ite, ↓resState_next, ite_self, cond_self, true_or, or_true, false_or, or_false, implies_true, ↓foldl_drop, ↓foldl_fst_drop] | (refine (regCmd_drop (by decide) (fun _ => ?_)).trans ?_) | (refine (withRight_drop (by decide) (fun _ => ?_)).trans ?_) | split)

theorem sendRuns_drop {fm : Nat} (n : Nat) (fuel : Nat) (q : List (Nat × Nat × List Byte)) (s : State) (hfm : fm &&& 137438953472 = 137438953472) :
    (sendRuns n fuel q s).drop fm = s.drop fm := by
  refine drop_sub hfm ?_
  induction fuel generalizing q s with
  | zero => rfl
  | succ k ih =>
    unfold sendRuns
    split
    · rfl
    · exact (ih _ _).trans (send_drop _ _ (by decide))

theorem opMntRecordExport_drop {fm : Nat} (p : Requester) (c : ChainId) (m : Fin 32) (s : State) (hfm : fm &&& 219043332160 = 219043332160) :
    (opMntRecordExport p c m s).1.drop fm = s.drop fm := by
  refine drop_sub hfm ?_
  unfold opMntRecordExport
  repeat' (first | simp only [↓nextFree_drop, ↓sendRuns_drop, ↓State.onMnt_drop, id_eq, Nat.reduceAnd, Nat.reduceEqDiff, ↓drop_ite, ↓drop_fst_ite, ↓drop_cond, ↓resState_ite, ↓resState_next, ite_self, cond_self, true_or, or_true, false_or, or_false, implies_true, ↓foldl_drop, ↓foldl_fst_drop] | (refine (admitAct_drop (by decide) (fun _ => ?_)).trans ?_) | (refine (foldl_drop (fun _ _ => ?_) _ _).trans ?_) | split)

theorem execMntStartRecordExport_drop {fm : Nat} (p : Requester) (c : ChainId) (m : Fin 32) (s : State) (hfm : fm &&& 221190815808 = 221190815808) :
    (resState (execMntStartRecordExport p c m s) s).drop fm = s.drop fm := by
  refine drop_sub hfm ?_
  unfold execMntStartRecordExport
  repeat' (first | simp only [↓opMntRecordExport_drop, id_eq, Nat.reduceAnd, Nat.reduceEqDiff, ↓drop_ite, ↓drop_fst_ite, ↓drop_cond, ↓resState_ite, ↓resState_next, ite_self, cond_self, true_or, or_true, false_or, or_false, implies_true, ↓foldl_drop, ↓foldl_fst_drop] | (refine (regCmd_drop (by decide) (fun _ => ?_)).trans ?_) | (refine (withRight_drop (by decide) (fun _ => ?_)).trans ?_) | split)

theorem opMntStop_drop {fm : Nat} (p : Requester) (slot : Fin 4) (s : State) (hfm : fm &&& 15108112384 = 15108112384) :
    (opMntStop p slot s).1.drop fm = s.drop fm := by
  refine drop_sub hfm ?_
  unfold opMntStop
  repeat' (first | simp only [↓endAct_drop, ↓deny_drop, id_eq, Nat.reduceAnd, Nat.reduceEqDiff, ↓drop_ite, ↓drop_fst_ite, ↓drop_cond, ↓resState_ite, ↓resState_next, ite_self, cond_self, true_or, or_true, false_or, or_false, implies_true, ↓foldl_drop, ↓foldl_fst_drop] | (refine (withRight_drop (by decide) (fun _ => ?_)).trans ?_) | split)

theorem execMntStop_drop {fm : Nat} (p : Requester) (slot : Fin 4) (s : State) (hfm : fm &&& 152547065856 = 152547065856) :
    (resState (execMntStop p slot s) s).drop fm = s.drop fm := by
  refine drop_sub hfm ?_
  unfold execMntStop
  repeat' (first | simp only [↓opMntStop_drop, id_eq, Nat.reduceAnd, Nat.reduceEqDiff, ↓drop_ite, ↓drop_fst_ite, ↓drop_cond, ↓resState_ite, ↓resState_next, ite_self, cond_self, true_or, or_true, false_or, or_false, implies_true, ↓foldl_drop, ↓foldl_fst_drop] | (refine (regCmd_drop (by decide) (fun _ => ?_)).trans ?_) | split)

theorem execActTimeoutExpiry_drop {fm : Nat} (slot : Fin 4) (s : State) (hfm : fm &&& 12960628736 = 12960628736) :
    (resState (execActTimeoutExpiry slot s) s).drop fm = s.drop fm := by
  refine drop_sub hfm ?_
  unfold execActTimeoutExpiry
  repeat' (first | simp only [↓endAct_drop, id_eq, Nat.reduceAnd, Nat.reduceEqDiff, ↓drop_ite, ↓drop_fst_ite, ↓drop_cond, ↓resState_ite, ↓resState_next, ite_self, cond_self, true_or, or_true, false_or, or_false, implies_true, ↓foldl_drop, ↓foldl_fst_drop] | split)

theorem execActivityComplete_drop {fm : Nat} (slot : Fin 4) (s : State) (hfm : fm &&& 12960628736 = 12960628736) :
    (resState (execActivityComplete slot s) s).drop fm = s.drop fm := by
  refine drop_sub hfm ?_
  unfold execActivityComplete
  repeat' (first | simp only [↓endAct_drop, id_eq, Nat.reduceAnd, Nat.reduceEqDiff, ↓drop_ite, ↓drop_fst_ite, ↓drop_cond, ↓resState_ite, ↓resState_next, ite_self, cond_self, true_or, or_true, false_or, or_false, implies_true, ↓foldl_drop, ↓foldl_fst_drop] | split)

theorem execHeaterTestChannelEnd_drop {fm : Nat} (s : State) (hfm : fm &&& 12960399360 = 12960399360) :
    (resState (execHeaterTestChannelEnd s) s).drop fm = s.drop fm := by
  refine drop_sub hfm ?_
  unfold execHeaterTestChannelEnd
  repeat' (first | simp only [↓testHeater_drop, ↓setHeater_drop, id_eq, Nat.reduceAnd, Nat.reduceEqDiff, ↓drop_ite, ↓drop_fst_ite, ↓drop_cond, ↓resState_ite, ↓resState_next, ite_self, cond_self, true_or, or_true, false_or, or_false, implies_true, ↓foldl_drop, ↓foldl_fst_drop] | split)

theorem clearCha_drop {fm : Nat} (s : State) (c : ChainId) (o : Nat) (hfm : fm &&& 196608 = 196608) :
    (clearCha s c o).drop fm = s.drop fm := by
  refine drop_sub hfm ?_
  unfold clearCha
  repeat' (first | simp only [↓State.onChain_drop, id_eq, Nat.reduceAnd, Nat.reduceEqDiff, ↓drop_ite, ↓drop_fst_ite, ↓drop_cond, ↓resState_ite, ↓resState_next, ite_self, cond_self, true_or, or_true, false_or, or_false, implies_true, ↓foldl_drop, ↓foldl_fst_drop] | split)

theorem clearSna_drop {fm : Nat} (s : State) (c : ChainId) (o : Nat) (hfm : fm &&& 786432 = 786432) :
    (clearSna s c o).drop fm = s.drop fm := by
  refine drop_sub hfm ?_
  unfold clearSna
  repeat' (first | simp only [↓State.onSen_drop, id_eq, Nat.reduceAnd, Nat.reduceEqDiff, ↓drop_ite, ↓drop_fst_ite, ↓drop_cond, ↓resState_ite, ↓resState_next, ite_self, cond_self, true_or, or_true, false_or, or_false, implies_true, ↓foldl_drop, ↓foldl_fst_drop] | split)

theorem clearRead_drop {fm : Nat} (s : State) (addr : Word) (hfm : fm &&& 11539570824 = 11539570824) :
    (clearRead s addr).drop fm = s.drop fm := by
  refine drop_sub hfm ?_
  unfold clearRead
  repeat' (first | simp only [↓clearCha_drop, ↓clearSna_drop, ↓State.onSpl_drop, ↓State.onArm_drop, ↓State.onPwm_drop, ↓State.onGlk_drop, ↓State.onEst_drop, ↓State.onThm_drop, ↓State.onPrt_drop, ↓State.onLsw_drop, ↓State.onLbus_drop, ↓State.onPwr_drop, ↓State.onEng_drop, ↓State.onEvt_drop, ↓State.onSec_drop, ↓State.onDvt_drop, id_eq, Nat.reduceAnd, Nat.reduceEqDiff, ↓drop_ite, ↓drop_fst_ite, ↓drop_cond, ↓resState_ite, ↓resState_next, ite_self, cond_self, true_or, or_true, false_or, or_false, implies_true, ↓foldl_drop, ↓foldl_fst_drop] | (refine (State.onArm_drop (by decide) ?_ ?_ ?_ ?_ ).trans ?_) | (refine (State.onPwr_drop (by decide) ?_ ?_ ?_ ?_ ).trans ?_) | (refine (State.onSec_drop (by decide) ?_ ).trans ?_) | (refine (State.onGlk_drop (by decide) ?_ ?_ ?_ ?_ ?_ ?_ ?_ ).trans ?_) | (refine (State.onThm_drop (by decide) ?_ ?_ ?_ ?_ ).trans ?_) | (refine (State.onPrt_drop (by decide) ?_ ?_ ).trans ?_) | (refine (State.onEvt_drop (by decide) ?_ ?_ ?_ ).trans ?_) | with_reducible rfl | exact Or.inl (by decide) | refine Or.inr fun _ => ?_ | (intro _; split <;> with_reducible rfl) | split)

theorem setShadow_drop {fm : Nat} (s : State) (p : Requester) (addr : Word) (v : Option Word) (hfm : fm &&& 17179869184 = 17179869184) :
    (setShadow s p addr v).drop fm = s.drop fm := by
  refine drop_sub hfm ?_
  unfold setShadow
  repeat' (first | simp only [↓State.onReq_drop, id_eq, Nat.reduceAnd, Nat.reduceEqDiff, ↓drop_ite, ↓drop_fst_ite, ↓drop_cond, ↓resState_ite, ↓resState_next, ite_self, cond_self, true_or, or_true, false_or, or_false, implies_true, ↓foldl_drop, ↓foldl_fst_drop] | split)

theorem readValue_drop {fm : Nat} (s : State) (p : Requester) (addr : Word) (v : Word) (hfm : fm &&& 28719440008 = 28719440008) :
    (readValue s p addr v).1.drop fm = s.drop fm := by
  refine drop_sub hfm ?_
  unfold readValue
  repeat' (first | simp only [↓setShadow_drop, ↓clearRead_drop, id_eq, Nat.reduceAnd, Nat.reduceEqDiff, ↓drop_ite, ↓drop_fst_ite, ↓drop_cond, ↓resState_ite, ↓resState_next, ite_self, cond_self, true_or, or_true, false_or, or_false, implies_true, ↓foldl_drop, ↓foldl_fst_drop] | split)

theorem regRead_drop {fm : Nat} (s : State) (p : Requester) (addr : Word) (hfm : fm &&& 28719440008 = 28719440008) :
    (regRead s p addr).1.drop fm = s.drop fm := by
  refine drop_sub hfm ?_
  unfold regRead
  repeat' (first | simp only [↓readValue_drop, ↓deny_drop, id_eq, Nat.reduceAnd, Nat.reduceEqDiff, ↓drop_ite, ↓drop_fst_ite, ↓drop_cond, ↓resState_ite, ↓resState_next, ite_self, cond_self, true_or, or_true, false_or, or_false, implies_true, ↓foldl_drop, ↓foldl_fst_drop] | split)

theorem conf_drop {fm : Nat} {s : State} {p : Requester} {addr : Word} {op : State → RegRes}
    (h : fm &&& 10737418240 = 10737418240) (g : ∀ t, (op t).1.drop fm = t.drop fm) : (conf s p addr op).1.drop fm = s.drop fm :=
  withRight_drop h g

theorem noField_drop {fm : Nat} (s : State) (p : Requester) (addr : Word) (hfm : fm &&& 10737418240 = 10737418240) :
    (noField s p addr).1.drop fm = s.drop fm := by
  refine drop_sub hfm ?_
  unfold noField
  repeat' (first | simp only [id_eq, Nat.reduceAnd, Nat.reduceEqDiff, ↓drop_ite, ↓drop_fst_ite, ↓drop_cond, ↓resState_ite, ↓resState_next, ite_self, cond_self, true_or, or_true, false_or, or_false, implies_true, ↓foldl_drop, ↓foldl_fst_drop] | (refine (conf_drop (by decide) (fun _ => ?_)).trans ?_) | split)

theorem plain_drop {fm : Nat} {s : State} {p : Requester} {addr : Word} {f : State → State}
    (h : fm &&& 10737418240 = 10737418240) (g : ∀ t, (f t).drop fm = t.drop fm) : (plain s p addr f).1.drop fm = s.drop fm :=
  conf_drop h g

theorem badCode_drop {fm : Nat} (s : State) (p : Requester) (c : OpClass) (addr : Word) (hfm : fm &&& 10737418240 = 10737418240) :
    (badCode s p c addr).1.drop fm = s.drop fm := by
  refine drop_sub hfm ?_
  unfold badCode
  repeat' (first | simp only [id_eq, Nat.reduceAnd, Nat.reduceEqDiff, ↓drop_ite, ↓drop_fst_ite, ↓drop_cond, ↓resState_ite, ↓resState_next, ite_self, cond_self, true_or, or_true, false_or, or_false, implies_true, ↓foldl_drop, ↓foldl_fst_drop] | (refine (withRight_drop (by decide) (fun _ => ?_)).trans ?_) | split)

theorem both_drop {fm : Nat} {s : State} {f g : State → RegRes} (hf : ∀ t, (f t).1.drop fm = t.drop fm)
    (hg : ∀ t, (g t).1.drop fm = t.drop fm) : (both f g s).1.drop fm = s.drop fm := by
  unfold both
  simp only [drop_fst_ite, hg, hf, ite_self]

theorem asked_drop {fm : Nat} {s : State} {b : Bool} {f : State → RegRes} (hf : ∀ t, (f t).1.drop fm = t.drop fm) :
    (asked b f s).1.drop fm = s.drop fm := by
  unfold asked
  simp only [drop_fst_ite, hf, ite_self]

theorem writeImg_drop {fm : Nat} (s : State) (p : Requester) (addr : Word) (v : Word) (hfm : fm &&& 10737418320 = 10737418320) :
    (writeImg s p addr v).1.drop fm = s.drop fm := by
  refine drop_sub hfm ?_
  unfold writeImg
  repeat' (first | simp only [↓noField_drop, ↓opStageBegin_drop, ↓opStageEnd_drop, ↓opDryfit_drop, ↓cancelGlue_drop, id_eq, Nat.reduceAnd, Nat.reduceEqDiff, ↓drop_ite, ↓drop_fst_ite, ↓drop_cond, ↓resState_ite, ↓resState_next, ite_self, cond_self, true_or, or_true, false_or, or_false, implies_true, ↓foldl_drop, ↓foldl_fst_drop] | (refine (withRight_drop (by decide) (fun _ => ?_)).trans ?_) | split)

theorem writeSpl_drop {fm : Nat} (s : State) (p : Requester) (addr : Word) (v : Word) (hfm : fm &&& 10737418368 = 10737418368) :
    (writeSpl s p addr v).1.drop fm = s.drop fm := by
  refine drop_sub hfm ?_
  unfold writeSpl
  repeat' (first | simp only [↓noField_drop, ↓State.onSpl_drop, id_eq, Nat.reduceAnd, Nat.reduceEqDiff, ↓drop_ite, ↓drop_fst_ite, ↓drop_cond, ↓resState_ite, ↓resState_next, ite_self, cond_self, true_or, or_true, false_or, or_false, implies_true, ↓foldl_drop, ↓foldl_fst_drop] | (refine (plain_drop (by decide) (fun _ => ?_)).trans ?_) | split)

theorem writeDvt_drop {fm : Nat} (s : State) (p : Requester) (addr : Word) (v : Word) (hfm : fm &&& 148209926144 = 148209926144) :
    (writeDvt s p addr v).1.drop fm = s.drop fm := by
  refine drop_sub hfm ?_
  unfold writeDvt
  repeat' (first | simp only [↓noField_drop, ↓opHandover_drop, ↓badCode_drop, id_eq, Nat.reduceAnd, Nat.reduceEqDiff, ↓drop_ite, ↓drop_fst_ite, ↓drop_cond, ↓resState_ite, ↓resState_next, ite_self, cond_self, true_or, or_true, false_or, or_false, implies_true, ↓foldl_drop, ↓foldl_fst_drop] | (refine (withRight_drop (by decide) (fun _ => ?_)).trans ?_) | split)

theorem writePwm_drop {fm : Nat} (s : State) (p : Requester) (addr : Word) (v : Word) (hfm : fm &&& 10737434624 = 10737434624) :
    (writePwm s p addr v).1.drop fm = s.drop fm := by
  refine drop_sub hfm ?_
  unfold writePwm
  repeat' (first | simp only [↓noField_drop, ↓State.onPwm_drop, id_eq, Nat.reduceAnd, Nat.reduceEqDiff, ↓drop_ite, ↓drop_fst_ite, ↓drop_cond, ↓resState_ite, ↓resState_next, ite_self, cond_self, true_or, or_true, false_or, or_false, implies_true, ↓foldl_drop, ↓foldl_fst_drop] | (refine (conf_drop (by decide) (fun _ => ?_)).trans ?_) | (refine (plain_drop (by decide) (fun _ => ?_)).trans ?_) | split)

theorem writeGlk_drop {fm : Nat} (s : State) (p : Requester) (addr : Word) (v : Word) (hfm : fm &&& 10737451008 = 10737451008) :
    (writeGlk s p addr v).1.drop fm = s.drop fm := by
  refine drop_sub hfm ?_
  unfold writeGlk
  repeat' (first | simp only [↓opJigGo_drop, ↓noField_drop, ↓State.onGlk_drop, id_eq, Nat.reduceAnd, Nat.reduceEqDiff, ↓drop_ite, ↓drop_fst_ite, ↓drop_cond, ↓resState_ite, ↓resState_next, ite_self, cond_self, true_or, or_true, false_or, or_false, implies_true, ↓foldl_drop, ↓foldl_fst_drop] | (refine (conf_drop (by decide) (fun _ => ?_)).trans ?_) | (refine (plain_drop (by decide) (fun _ => ?_)).trans ?_) | (refine (asked_drop (fun _ => ?_)).trans ?_) | (refine (State.onGlk_drop (by decide) ?_ ?_ ?_ ?_ ?_ ?_ ?_ ).trans ?_) | with_reducible rfl | exact Or.inl (by decide) | refine Or.inr fun _ => ?_ | (intro _; split <;> with_reducible rfl) | split)

theorem clearFired_drop {fm : Nat} (s : State) (base : Nat) (v : Word) (hfm : fm &&& 16777216 = 16777216) :
    (clearFired s base v).drop fm = s.drop fm := by
  refine drop_sub hfm ?_
  unfold clearFired
  repeat' (first | simp only [↓State.onPrt_drop, id_eq, Nat.reduceAnd, Nat.reduceEqDiff, ↓drop_ite, ↓drop_fst_ite, ↓drop_cond, ↓resState_ite, ↓resState_next, ite_self, cond_self, true_or, or_true, false_or, or_false, implies_true, ↓foldl_drop, ↓foldl_fst_drop] | (refine (State.onPrt_drop (by decide) ?_ ?_ ).trans ?_) | with_reducible rfl | exact Or.inl (by decide) | refine Or.inr fun _ => ?_ | (intro _; split <;> with_reducible rfl) | split)

theorem writePrt_drop {fm : Nat} (s : State) (p : Requester) (addr : Word) (v : Word) (hfm : fm &&& 6199878594560 = 6199878594560) :
    (writePrt s p addr v).1.drop fm = s.drop fm := by
  refine drop_sub hfm ?_
  unfold writePrt
  repeat' (first | simp only [↓clearFired_drop, ↓opPrtClearAll_drop, ↓opPrtClearEntry_drop, ↓opBypassReq_drop, ↓noField_drop, id_eq, Nat.reduceAnd, Nat.reduceEqDiff, ↓drop_ite, ↓drop_fst_ite, ↓drop_cond, ↓resState_ite, ↓resState_next, ite_self, cond_self, true_or, or_true, false_or, or_false, implies_true, ↓foldl_drop, ↓foldl_fst_drop] | (refine (withRight_drop (by decide) (fun _ => ?_)).trans ?_) | (refine (plain_drop (by decide) (fun _ => ?_)).trans ?_) | (refine (asked_drop (fun _ => ?_)).trans ?_) | split)

theorem writeCha_drop {fm : Nat} (s : State) (p : Requester) (c : ChainId) (addr : Word) (v : Word) (hfm : fm &&& 15113093120 = 15113093120) :
    (writeCha s p c addr v).1.drop fm = s.drop fm := by
  refine drop_sub hfm ?_
  unfold writeCha
  repeat' (first | simp only [↓opChaConnect_drop, ↓opChaRun_drop, ↓opChaBlock_drop, ↓opChaDisconnect_drop, ↓opChaPark_drop, ↓opClearWeld_drop, ↓opUnpark_drop, ↓noField_drop, id_eq, Nat.reduceAnd, Nat.reduceEqDiff, ↓drop_ite, ↓drop_fst_ite, ↓drop_cond, ↓resState_ite, ↓resState_next, ite_self, cond_self, true_or, or_true, false_or, or_false, implies_true, ↓foldl_drop, ↓foldl_fst_drop] | (refine (withRight_drop (by decide) (fun _ => ?_)).trans ?_) | (refine (conf_drop (by decide) (fun _ => ?_)).trans ?_) | (refine (both_drop (fun _ => ?_) (fun _ => ?_)).trans ?_) | (refine (asked_drop (fun _ => ?_)).trans ?_) | split)

theorem writeSna_drop {fm : Nat} (s : State) (p : Requester) (c : ChainId) (addr : Word) (v : Word) (hfm : fm &&& 152547852288 = 152547852288) :
    (writeSna s p c addr v).1.drop fm = s.drop fm := by
  refine drop_sub hfm ?_
  unfold writeSna
  repeat' (first | simp only [↓noField_drop, ↓opSnaWake_drop, ↓opSnaSleep_drop, id_eq, Nat.reduceAnd, Nat.reduceEqDiff, ↓drop_ite, ↓drop_fst_ite, ↓drop_cond, ↓resState_ite, ↓resState_next, ite_self, cond_self, true_or, or_true, false_or, or_false, implies_true, ↓foldl_drop, ↓foldl_fst_drop] | (refine (withRight_drop (by decide) (fun _ => ?_)).trans ?_) | split)

theorem writeVnr_drop {fm : Nat} (s : State) (p : Requester) (c : ChainId) (addr : Word) (v : Word) (o : Nat) (hfm : fm &&& 10740563968 = 10740563968) :
    (writeVnr s p c addr v o).1.drop fm = s.drop fm := by
  refine drop_sub hfm ?_
  unfold writeVnr
  repeat' (first | simp only [↓opVnrPreset_drop, ↓noField_drop, ↓State.onEs_drop, id_eq, Nat.reduceAnd, Nat.reduceEqDiff, ↓drop_ite, ↓drop_fst_ite, ↓drop_cond, ↓resState_ite, ↓resState_next, ite_self, cond_self, true_or, or_true, false_or, or_false, implies_true, ↓foldl_drop, ↓foldl_fst_drop] | (refine (conf_drop (by decide) (fun _ => ?_)).trans ?_) | (refine (plain_drop (by decide) (fun _ => ?_)).trans ?_) | (refine (asked_drop (fun _ => ?_)).trans ?_) | split)

theorem writeEst_drop {fm : Nat} (s : State) (p : Requester) (addr : Word) (v : Word) (hfm : fm &&& 15115452416 = 15115452416) :
    (writeEst s p addr v).1.drop fm = s.drop fm := by
  refine drop_sub hfm ?_
  unfold writeEst
  repeat' (first | simp only [↓opEstCheckpoint_drop, ↓opEstReset_drop, ↓badCode_drop, ↓writeVnr_drop, ↓noField_drop, id_eq, Nat.reduceAnd, Nat.reduceEqDiff, ↓drop_ite, ↓drop_fst_ite, ↓drop_cond, ↓resState_ite, ↓resState_next, ite_self, cond_self, true_or, or_true, false_or, or_false, implies_true, ↓foldl_drop, ↓foldl_fst_drop] | (refine (withRight_drop (by decide) (fun _ => ?_)).trans ?_) | split)

theorem writeThm_drop {fm : Nat} (s : State) (p : Requester) (addr : Word) (v : Word) (hfm : fm &&& 9906434342912 = 9906434342912) :
    (writeThm s p addr v).1.drop fm = s.drop fm := by
  refine drop_sub hfm ?_
  unfold writeThm
  repeat' (first | simp only [↓opThmHeat_drop, ↓opThmRelease_drop, ↓opThmErase_drop, ↓noField_drop, id_eq, Nat.reduceAnd, Nat.reduceEqDiff, ↓drop_ite, ↓drop_fst_ite, ↓drop_cond, ↓resState_ite, ↓resState_next, ite_self, cond_self, true_or, or_true, false_or, or_false, implies_true, ↓foldl_drop, ↓foldl_fst_drop] | (refine (withRight_drop (by decide) (fun _ => ?_)).trans ?_) | (refine (serviceOnly_drop (by decide) (fun _ => ?_)).trans ?_) | (refine (both_drop (fun _ => ?_) (fun _ => ?_)).trans ?_) | (refine (asked_drop (fun _ => ?_)).trans ?_) | split)

theorem writeLsw_drop {fm : Nat} (s : State) (p : Requester) (addr : Word) (v : Word) (hfm : fm &&& 10804527104 = 10804527104) :
    (writeLsw s p addr v).1.drop fm = s.drop fm := by
  refine drop_sub hfm ?_
  unfold writeLsw
  repeat' (first | simp only [↓opLswCmd_drop, ↓opLswClear_drop, ↓opLswSense_drop, ↓noField_drop, id_eq, Nat.reduceAnd, Nat.reduceEqDiff, ↓drop_ite, ↓drop_fst_ite, ↓drop_cond, ↓resState_ite, ↓resState_next, ite_self, cond_self, true_or, or_true, false_or, or_false, implies_true, ↓foldl_drop, ↓foldl_fst_drop] | (refine (withRight_drop (by decide) (fun _ => ?_)).trans ?_) | (refine (conf_drop (by decide) (fun _ => ?_)).trans ?_) | split)

theorem onWin_drop {fm : Nat} {s : State} {p : Requester} {f : TxWin → TxWin} (h : fm &&& 134217728 = 134217728) :
    (onWin s p f).drop fm = s.drop fm := State.onLbus_drop h

theorem writeLbus_drop {fm : Nat} (s : State) (p : Requester) (addr : Word) (v : Word) (hfm : fm &&& 10871635976 = 10871635976) :
    (writeLbus s p addr v).1.drop fm = s.drop fm := by
  refine drop_sub hfm ?_
  unfold writeLbus
  repeat' (first | simp only [↓opLbusRecover_drop, ↓badCode_drop, ↓onWin_drop, ↓opLbusGo_drop, ↓opLbusCancel_drop, ↓opLbusAck_drop, ↓noField_drop, ↓State.onLbus_drop, id_eq, Nat.reduceAnd, Nat.reduceEqDiff, ↓drop_ite, ↓drop_fst_ite, ↓drop_cond, ↓resState_ite, ↓resState_next, ite_self, cond_self, true_or, or_true, false_or, or_false, implies_true, ↓foldl_drop, ↓foldl_fst_drop] | (refine (withRight_drop (by decide) (fun _ => ?_)).trans ?_) | (refine (plain_drop (by decide) (fun _ => ?_)).trans ?_) | split)

theorem writePwr_drop {fm : Nat} (s : State) (p : Requester) (addr : Word) (v : Word) (hfm : fm &&& 17213155180526 = 17213155180526) :
    (writePwr s p addr v).1.drop fm = s.drop fm := by
  refine drop_sub hfm ?_
  unfold writePwr
  repeat' (first | simp only [↓opPwrRun_drop, ↓opPwrWarm_drop, ↓opPwrCold_drop, ↓opPwrHibernate_drop, ↓opPwrClearVbak_drop, ↓badCode_drop, ↓noField_drop, ↓State.onEng_drop, ↓State.onEvt_drop, id_eq, Nat.reduceAnd, Nat.reduceEqDiff, ↓drop_ite, ↓drop_fst_ite, ↓drop_cond, ↓resState_ite, ↓resState_next, ite_self, cond_self, true_or, or_true, false_or, or_false, implies_true, ↓foldl_drop, ↓foldl_fst_drop] | (refine (withRight_drop (by decide) (fun _ => ?_)).trans ?_) | (refine (plain_drop (by decide) (fun _ => ?_)).trans ?_) | (refine (State.onEvt_drop (by decide) ?_ ?_ ?_ ).trans ?_) | with_reducible rfl | exact Or.inl (by decide) | refine Or.inr fun _ => ?_ | (intro _; split <;> with_reducible rfl) | split)

theorem writeSec_drop {fm : Nat} (s : State) (p : Requester) (addr : Word) (v : Word) (hfm : fm &&& 11811160064 = 11811160064) :
    (writeSec s p addr v).1.drop fm = s.drop fm := by
  refine drop_sub hfm ?_
  unfold writeSec
  repeat' (first | simp only [↓opAttest_drop, ↓opStepField_drop, ↓deny_drop, ↓badCode_drop, ↓noField_drop, ↓State.onSec_drop, id_eq, Nat.reduceAnd, Nat.reduceEqDiff, ↓drop_ite, ↓drop_fst_ite, ↓drop_cond, ↓resState_ite, ↓resState_next, ite_self, cond_self, true_or, or_true, false_or, or_false, implies_true, ↓foldl_drop, ↓foldl_fst_drop] | (refine (withRight_drop (by decide) (fun _ => ?_)).trans ?_) | (refine (plain_drop (by decide) (fun _ => ?_)).trans ?_) | (refine (State.onSec_drop (by decide) ?_ ).trans ?_) | with_reducible rfl | exact Or.inl (by decide) | refine Or.inr fun _ => ?_ | (intro _; split <;> with_reducible rfl) | split)

theorem startCode_drop {fm : Nat} (s : State) (p : Requester) (addr : Word) (v : Word) (hfm : fm &&& 221267329088 = 221267329088) :
    (startCode s p addr v).1.drop fm = s.drop fm := by
  refine drop_sub hfm ?_
  unfold startCode
  repeat' (first | simp only [↓opMntLearn_drop, ↓opMntSentUpdate_drop, ↓opMntGateTest_drop, ↓opMntJig_drop, ↓opMntPrecharge_drop, ↓opMntContTest_drop, ↓opMntHeaterTest_drop, ↓opMntRecordExport_drop, ↓badCode_drop, id_eq, Nat.reduceAnd, Nat.reduceEqDiff, ↓drop_ite, ↓drop_fst_ite, ↓drop_cond, ↓resState_ite, ↓resState_next, ite_self, cond_self, true_or, or_true, false_or, or_false, implies_true, ↓foldl_drop, ↓foldl_fst_drop] | (refine (withRight_drop (by decide) (fun _ => ?_)).trans ?_) | split)

theorem writeMnt_drop {fm : Nat} (s : State) (p : Requester) (addr : Word) (v : Word) (hfm : fm &&& 221267329088 = 221267329088) :
    (writeMnt s p addr v).1.drop fm = s.drop fm := by
  refine drop_sub hfm ?_
  unfold writeMnt
  repeat' (first | simp only [↓startCode_drop, ↓opMntStop_drop, ↓noField_drop, ↓State.onMnt_drop, id_eq, Nat.reduceAnd, Nat.reduceEqDiff, ↓drop_ite, ↓drop_fst_ite, ↓drop_cond, ↓resState_ite, ↓resState_next, ite_self, cond_self, true_or, or_true, false_or, or_false, implies_true, ↓foldl_drop, ↓foldl_fst_drop] | (refine (plain_drop (by decide) (fun _ => ?_)).trans ?_) | split)

theorem writeEvt_drop {fm : Nat} (s : State) (p : Requester) (addr : Word) (v : Word) (hfm : fm &&& 10737418240 = 10737418240) :
    (writeEvt s p addr v).1.drop fm = s.drop fm := by
  refine drop_sub hfm ?_
  unfold writeEvt
  repeat' (first | simp only [↓opEvtSel_drop, ↓noField_drop, id_eq, Nat.reduceAnd, Nat.reduceEqDiff, ↓drop_ite, ↓drop_fst_ite, ↓drop_cond, ↓resState_ite, ↓resState_next, ite_self, cond_self, true_or, or_true, false_or, or_false, implies_true, ↓foldl_drop, ↓foldl_fst_drop] | (refine (conf_drop (by decide) (fun _ => ?_)).trans ?_) | split)

theorem regWrite_drop {fm : Nat} (s : State) (p : Requester) (addr : Word) (v : Word) (hfm : fm &&& 17282948399102 = 17282948399102) :
    (regWrite s p addr v).1.drop fm = s.drop fm := by
  refine drop_sub hfm ?_
  unfold regWrite
  repeat' (first | simp only [↓writeImg_drop, ↓writeSpl_drop, ↓writePwm_drop, ↓writeGlk_drop, ↓writeCha_drop, ↓writeSna_drop, ↓writeEst_drop, ↓writeThm_drop, ↓writePrt_drop, ↓writeLsw_drop, ↓writeLbus_drop, ↓writePwr_drop, ↓writeSec_drop, ↓writeMnt_drop, ↓writeEvt_drop, ↓writeDvt_drop, ↓noField_drop, id_eq, Nat.reduceAnd, Nat.reduceEqDiff, ↓drop_ite, ↓drop_fst_ite, ↓drop_cond, ↓resState_ite, ↓resState_next, ite_self, cond_self, true_or, or_true, false_or, or_false, implies_true, ↓foldl_drop, ↓foldl_fst_drop] | split)

theorem regOperate_drop {fm : Nat} (s : State) (p : Requester) (op : Nat) (addr : Word) (v : Word) (hfm : fm &&& 17282948399102 = 17282948399102) :
    (regOperate s p op addr v).1.drop fm = s.drop fm := by
  refine drop_sub hfm ?_
  unfold regOperate
  repeat' (first | simp only [↓regRead_drop, ↓regWrite_drop, id_eq, Nat.reduceAnd, Nat.reduceEqDiff, ↓drop_ite, ↓drop_fst_ite, ↓drop_cond, ↓resState_ite, ↓resState_next, ite_self, cond_self, true_or, or_true, false_or, or_false, implies_true, ↓foldl_drop, ↓foldl_fst_drop] | split)

theorem readCmd_drop {fm : Nat} (s : State) (p : Requester) (addr : Word) (hfm : fm &&& 166158393480 = 166158393480) :
    (readCmd s p addr).drop fm = s.drop fm := by
  refine drop_sub hfm ?_
  unfold readCmd
  repeat' (first | simp only [↓regRead_drop, ↓send_drop, id_eq, Nat.reduceAnd, Nat.reduceEqDiff, ↓drop_ite, ↓drop_fst_ite, ↓drop_cond, ↓resState_ite, ↓resState_next, ite_self, cond_self, true_or, or_true, false_or, or_false, implies_true, ↓foldl_drop, ↓foldl_fst_drop] | split)

theorem execReadLowWordLatch_drop {fm : Nat} (p : Requester) (addr : Word) (s : State) (hfm : fm &&& 166158393480 = 166158393480) :
    (resState (execReadLowWordLatch p addr s) s).drop fm = s.drop fm := by
  refine drop_sub hfm ?_
  unfold execReadLowWordLatch
  repeat' (first | simp only [↓readCmd_drop, id_eq, Nat.reduceAnd, Nat.reduceEqDiff, ↓drop_ite, ↓drop_fst_ite, ↓drop_cond, ↓resState_ite, ↓resState_next, ite_self, cond_self, true_or, or_true, false_or, or_false, implies_true, ↓foldl_drop, ↓foldl_fst_drop] | split)

theorem execRcRead_drop {fm : Nat} (p : Requester) (addr : Word) (s : State) (hfm : fm &&& 166158393480 = 166158393480) :
    (resState (execRcRead p addr s) s).drop fm = s.drop fm := by
  refine drop_sub hfm ?_
  unfold execRcRead
  repeat' (first | simp only [↓readCmd_drop, id_eq, Nat.reduceAnd, Nat.reduceEqDiff, ↓drop_ite, ↓drop_fst_ite, ↓drop_cond, ↓resState_ite, ↓resState_next, ite_self, cond_self, true_or, or_true, false_or, or_false, implies_true, ↓foldl_drop, ↓foldl_fst_drop] | split)

theorem execRegisterWrite_drop {fm : Nat} (p : Requester) (addr : Word) (value : Word) (s : State) (hfm : fm &&& 17282948399102 = 17282948399102) :
    (resState (execRegisterWrite p addr value s) s).drop fm = s.drop fm := by
  refine drop_sub hfm ?_
  unfold execRegisterWrite
  repeat' (first | simp only [↓regWrite_drop, id_eq, Nat.reduceAnd, Nat.reduceEqDiff, ↓drop_ite, ↓drop_fst_ite, ↓drop_cond, ↓resState_ite, ↓resState_next, ite_self, cond_self, true_or, or_true, false_or, or_false, implies_true, ↓foldl_drop, ↓foldl_fst_drop] | (refine (regCmd_drop (by decide) (fun _ => ?_)).trans ?_) | split)

theorem execRegOpExecute_drop {fm : Nat} (s : State) (hfm : fm &&& 17282948399102 = 17282948399102) :
    (resState (execRegOpExecute s) s).drop fm = s.drop fm := by
  refine drop_sub hfm ?_
  unfold execRegOpExecute
  repeat' (first | simp only [↓regOperate_drop, ↓State.onSpl_drop, id_eq, Nat.reduceAnd, Nat.reduceEqDiff, ↓drop_ite, ↓drop_fst_ite, ↓drop_cond, ↓resState_ite, ↓resState_next, ite_self, cond_self, true_or, or_true, false_or, or_false, implies_true, ↓foldl_drop, ↓foldl_fst_drop] | split)

theorem runOps_drop {fm : Nat} (s : State) (x0 : List RegOp) (hfm : fm &&& 17282948399102 = 17282948399102) :
    (runOps s x0).1.drop fm = s.drop fm := by
  refine drop_sub hfm ?_
  induction x0 generalizing s with
  | nil => rfl
  | cons o os ih =>
    unfold runOps
    dsimp only
    split
    · exact (ih _).trans (regOperate_drop s _ _ _ _ (by decide))
    · exact regOperate_drop s _ _ _ _ (by decide)

theorem execSvcRegReq_drop {fm : Nat} (seq : Nat) (ops : List RegOp) (s : State) (hfm : fm &&& 17282948399102 = 17282948399102) :
    (resState (execSvcRegReq seq ops s) s).drop fm = s.drop fm := by
  refine drop_sub hfm ?_
  unfold execSvcRegReq
  repeat' (first | simp only [↓runOps_drop, id_eq, Nat.reduceAnd, Nat.reduceEqDiff, ↓drop_ite, ↓drop_fst_ite, ↓drop_cond, ↓resState_ite, ↓resState_next, ite_self, cond_self, true_or, or_true, false_or, or_false, implies_true, ↓foldl_drop, ↓foldl_fst_drop] | (refine (serviceRequest_drop (by decide) (fun _ => ?_)).trans ?_) | split)

theorem execLbusServiceRequest_drop {fm : Nat} (s : State) (hfm : fm &&& 17282948399102 = 17282948399102) :
    (resState (execLbusServiceRequest s) s).drop fm = s.drop fm := by
  refine drop_sub hfm ?_
  unfold execLbusServiceRequest
  repeat' (first | simp only [↓regOperate_drop, ↓loadBuf_drop, ↓State.onLbus_drop, id_eq, Nat.reduceAnd, Nat.reduceEqDiff, ↓drop_ite, ↓drop_fst_ite, ↓drop_cond, ↓resState_ite, ↓resState_next, ite_self, cond_self, true_or, or_true, false_or, or_false, implies_true, ↓foldl_drop, ↓foldl_fst_drop] | split)

end Sys2Proof.Machine
end

