-- ==== Sys2Proof/Laws/Commands.lean ====
section
/-! SUPPORT. What each command may change, as one mask for every constructor, and the frame equation of `exec` with it:
the blocks outside the mask of a command are the same before and after it. Then, command by command, that it answers a
next state. -/

set_option Elab.async false

set_option linter.unreachableTactic false
set_option linter.unusedTactic false
set_option linter.unusedVariables false

namespace Sys2Proof.Machine

/-- The blocks that a command may change. -/
def execMask : Instr → Nat
  | .powerOnResetRelease _ _ _ _ _ => 17213155180526
  | .bootSlotVerifyComplete => 12797660340478
  | .ringReady => 5098239425670
  | .memberBTokenWaitExpiry => 150433933312
  | .vsysPlinthSample _ => 6198708383744
  | .stage4HandoffTimeout => 4960814084096
  | .stageRestore => 9604956168
  | .stage1ChannelRestore => 67108864
  | .resetComparatorTrip => 17213155180526
  | .vbakOutOfRange _ => 17213155180526
  | .vauxLowDetect _ => 13498286080
  | .vauxLowClear _ => 9193914368
  | .resetNLow => 17213155180526
  | .pwrCmdRun _ => 1248543670272
  | .pwrCmdWarm _ => 5118237862606
  | .pwrCmdCold _ => 17212886745070
  | .pwrCmdHibernate _ => 148717436928
  | .hibernateEnter => 4544864944142
  | .pwrCmdClearVbak _ => 148713242624
  | .hibWakeTimerExpiry => 17213155180526
  | .hibCciWake _ => 17213155180526
  | .lbusWake _ => 17213155180526
  | .engineWatchdogExpiry _ _ => 17212886745070
  | .engineRestartComplete _ => 8690630664
  | .warmResetResume => 9362712590
  | .clampHoldTimeout => 67305472
  | .clampHoldStage3End => 67305472
  | .lockstepMismatch _ => 17212886745070
  | .eccUncorrectable _ _ _ _ => 17212886745070
  | .sramScrubStep _ => 8
  | .plinthFreqMeasure _ => 8
  | .imgCmdStageBegin _ _ => 148176371792
  | .imgCmdStageEnd _ => 148176371776
  | .imgCmdDryfit _ => 148176371776
  | .imgCmdAbort _ => 148176371776
  | .stagingChunk _ _ => 10737418448
  | .dryfitComplete => 8589934784
  | .glueUpSwitch => 565014936830
  | .glueRestartComplete => 8657076302
  | .splBlockLock _ _ => 146028888192
  | .splPortUp _ => 8589934720
  | .splPortDown _ _ => 8589934728
  | .helloRx _ _ => 128
  | .shimPingTimer => 137438953600
  | .shimPingRx _ _ _ => 137438953600
  | .shimEchoRx _ _ _ => 8589934720
  | .urgentArmBlock _ _ => 5098202701952
  | .urgentBypassAll _ _ => 5098202701952
  | .urgentResume _ _ => 5098202701952
  | .frameForward _ _ _ _ => 146028888200
  | .portReadmit _ => 8589934720
  | .armCycleRx _ _ => 6060292153792
  | .cellStatusRx _ _ => 8589942976
  | .armSummaryRx _ _ => 128
  | .regReqRx _ _ => 128
  | .regOpExecute => 17282948399102
  | .ownFrameFreeze _ _ _ => 12884902016
  | .ownFrameLaunch _ => 146028888192
  | .holdoverEntry _ => 8589934848
  | .holdoverExpiry => 8589943040
  | .refFrameCommit => 8589959176
  | .cycleBoundary => 6200012832254
  | .pwmCommit _ => 8589950984
  | .pwmReplaceCommit _ => 8589983744
  | .pulseUnitStart _ => 558345797632
  | .pulseReload _ => 558345797632
  | .glStatusFrameRx _ _ _ => 1799852386304
  | .glStatusLost _ => 1799684595712
  | .peAssessment _ _ => 6197764682240
  | .fireDelayExpiry => 8589967360
  | .bypStatClosed => 4406636478468
  | .bypCloseTimeout => 6197731106816
  | .offStateDiagStart => 8589975552
  | .offStateDiagComplete => 6197731110912
  | .legRetestComplete => 4960780546048
  | .takeHoldTimeout => 8589983744
  | .glkJigGo _ _ => 148176404480
  | .jigPulseEnd => 32768
  | .comparatorCrossing _ _ _ => 700172967936
  | .comparatorReturn _ _ => 16777216
  | .tripInAssert => 700172967940
  | .tripInCountWaitExpiry => 8606711808
  | .tripOutRelease => 16777216
  | .reactionAutoRelease _ => 8606752768
  | .measLostOpenExpiry _ => 12961415168
  | .prtClearEntry _ _ => 148193189888
  | .prtClearAll _ => 148193189888
  | .prtBypassReq _ _ => 6199878594560
  | .heartbeatSend => 137438953472
  | .heartbeatRx _ => 562885011456
  | .heartbeatTimeout => 562885011456
  | .stateMirrorSend => 137456517120
  | .stateMirrorRx _ => 6197764665344
  | .dvtCmdHandover _ => 148209926144
  | .tokenGiveRx _ _ => 137472507904
  | .tokenAckRx _ => 33554432
  | .handoverSwitch => 562885011456
  | .handoverAckTimeout => 8623489024
  | .dvtLinkDown => 8623489024
  | .dvtLinkUp => 8623489024
  | .currentLoopTick _ _ _ _ => 219119845888
  | .trimPeriodStaircase _ => 68719673344
  | .sampleStrobe _ _ _ _ _ _ _ => 77313540616
  | .overBudgetTick _ _ => 8590131200
  | .chaCmdConnect _ _ => 148177354752
  | .chaCmdRun _ _ => 148176568320
  | .chaCmdBlock _ _ => 152547852288
  | .chaCmdDisconnect _ _ => 152547852288
  | .connectStepTimer _ => 81680891904
  | .prechargeTargetReached _ => 67305472
  | .prechargeTimeout _ => 12961415168
  | .prechargeCooldownEnd _ => 983040
  | .zeroingComplete _ => 12961415168
  | .protectiveZeroBlock _ => 150400368640
  | .openingStepTimer _ => 6197731110912
  | .forcedOpen _ => 8657240064
  | .chaParkGo _ _ _ => 148180762624
  | .parkExecute _ _ => 12964823040
  | .chaClearUnpark _ _ _ => 148180762624
  | .chaClearWeld _ _ => 148176568320
  | .learnHalfPeriod _ => 12960628736
  | .snaCmdWake _ _ => 152547852288
  | .snaCmdSleep _ _ => 152547852288
  | .enumStart _ => 137439739904
  | .enumReturn _ _ => 786432
  | .enumerationComplete _ => 12968755200
  | .strobeLaunch _ _ => 137439739904
  | .sampleRx _ _ => 12968755200
  | .srsRx _ _ => 81612701696
  | .pongRx _ _ _ => 8590721024
  | .pingTimer _ => 137439739904
  | .sampleSetComplete _ => 1799688790016
  | .owTestTimer _ => 786432
  | .sentinelSilent _ _ => 12961415168
  | .lostModulePoll _ _ => 786432
  | .bswTestIssue _ _ _ => 786432
  | .eeMillisecondCount _ => 12967968768
  | .anchorTimerExpiry _ _ _ _ => 12967968768
  | .limitsPublish => 77316947968
  | .limitsStale _ => 8594325504
  | .balanceTick _ => 3932160
  | .ocvRestExpiry _ _ _ => 8593080320
  | .checkpointTimer => 4194304
  | .countPeriodTimer => 4194304
  | .recordWriteStart _ => 4194304
  | .estCmdCheckpoint _ => 148180566016
  | .estCmdResetModule _ _ _ => 152554405888
  | .vnrCtrlPreset _ _ => 148179517440
  | .scanStep _ => 10595777617920
  | .sensorReturn _ _ _ => 8598323200
  | .coldShutdownEnd _ => 9904286859264
  | .hotReleaseReady _ => 8388608
  | .heaterStagger => 8665432064
  | .thmHeatCmd _ _ _ => 148251869184
  | .heatOverrideExpiry _ => 8665432064
  | .thmClearRelease _ _ => 10043873296384
  | .thmClearErase _ => 148184760320
  | .tillRecordWrite => 4194304
  | .lswCmd _ _ _ => 148243480576
  | .lswClear _ _ => 148243480576
  | .lswSenseSelect _ _ => 148243480576
  | .currentLimitReached _ _ => 67108864
  | .limitTimeExpiry _ => 12961415168
  | .junctionOvertemp _ _ => 12961415168
  | .inrushWindowEnd _ => 67108864
  | .retryPauseEnd _ => 67108864
  | .retryCountReset _ => 67108864
  | .clusterSensorSample _ _ _ _ => 81680891904
  | .coilShedDelayExpiry _ => 12961415168
  | .clusterRestoreStagger _ => 8657043456
  | .econPullEnd _ => 67108864
  | .openLoadOnDetect _ => 8657043456
  | .offStateLoadTest _ _ => 8657043456
  | .lbusTxGo _ _ => 148310589448
  | .lbusTxCancel _ _ => 148310589440
  | .canTxComplete _ _ => 146163105792
  | .canTxAttemptFail _ _ => 146163105792
  | .canFrameRx _ => 214882582536
  | .lbusServiceRequest => 17282948399102
  | .lbusRxAck _ _ => 148310589440
  | .lbusStatusPeriod => 134217728
  | .lbusBusOff => 8724152320
  | .busoffHoldExpiry => 134217728
  | .busOffRecovered => 8724152320
  | .lbusCmdRecover _ => 148310589440
  | .secCmdAttest _ => 148176371712
  | .attestSigned => 10737418240
  | .secCmdStepField _ => 149250113536
  | .secCounterWrite => 2147483648
  | .enrolmentObject _ => 17213960486910
  | .svcRegReq _ _ => 17282948399102
  | .svcBulk _ _ _ _ => 148176371792
  | .svcFrameGapTimeout => 8589934592
  | .svcFrameCrcFail _ => 148176371712
  | .jtagTapReset => 2147483648
  | .jtagInstruction _ => 10737418240
  | .mntStartLearn _ _ _ => 152471535680
  | .mntStartSentUpdate _ _ _ => 152472322112
  | .mntStartGateTest _ _ _ => 152471339072
  | .mntStartJig _ _ _ => 152471339072
  | .mntStartPrecharge _ _ _ => 152472322112
  | .mntStartContTest _ _ _ => 152547852352
  | .mntStartHeaterTest _ _ _ => 152546836544
  | .mntStartRecordExport _ _ _ => 221190815808
  | .mntStop _ _ => 152547065856
  | .actTimeoutExpiry _ => 12960628736
  | .activityComplete _ => 12960628736
  | .eventLogCopy => 4194304
  | .evtSelWrite _ _ => 148176371712
  | .readLowWordLatch _ _ => 166158393480
  | .rcRead _ _ => 166158393480
  | .registerWrite _ _ _ => 17282948399102
  | .tripInRelease => 16777220
  | .pulseCompareEdge _ => 49152
  | .kerfTurnOn _ => 49152
  | .testWindowExpiry => 8589967360
  | .nvmWriteComplete => 2207625773136
  | .stageEraseComplete => 64
  | .lbusRxError _ => 146163105792
  | .lbusBusIdle => 8724152328
  | .heaterTestChannelEnd => 12960399360
  | .senseSelPinChange _ => 67108864

/-- The frame equation of every command. -/
theorem exec_drop (c : Instr) (s : State) : (resState (exec c s) s).drop (execMask c) = s.drop (execMask c) := by
  cases c with
  | powerOnResetRelease vsys vbak roleSel senseSrc bypClosed => exact execPowerOnResetRelease_drop (fm := 17213155180526) vsys vbak roleSel senseSrc bypClosed s rfl
  | bootSlotVerifyComplete => exact execBootSlotVerifyComplete_drop (fm := 12797660340478) s rfl
  | ringReady => exact execRingReady_drop (fm := 5098239425670) s rfl
  | memberBTokenWaitExpiry => exact execMemberBTokenWaitExpiry_drop (fm := 150433933312) s rfl
  | vsysPlinthSample vsys => exact execVsysPlinthSample_drop (fm := 6198708383744) vsys s rfl
  | stage4HandoffTimeout => exact execStage4HandoffTimeout_drop (fm := 4960814084096) s rfl
  | stageRestore => exact execStageRestore_drop (fm := 9604956168) s rfl
  | stage1ChannelRestore => exact execStage1ChannelRestore_drop (fm := 67108864) s rfl
  | resetComparatorTrip => exact execResetComparatorTrip_drop (fm := 17213155180526) s rfl
  | vbakOutOfRange vbak => exact execVbakOutOfRange_drop (fm := 17213155180526) vbak s rfl
  | vauxLowDetect vaux => exact execVauxLowDetect_drop (fm := 13498286080) vaux s rfl
  | vauxLowClear vaux => exact execVauxLowClear_drop (fm := 9193914368) vaux s rfl
  | resetNLow => exact execResetNLow_drop (fm := 17213155180526) s rfl
  | pwrCmdRun p => exact execPwrCmdRun_drop (fm := 1248543670272) p s rfl
  | pwrCmdWarm p => exact execPwrCmdWarm_drop (fm := 5118237862606) p s rfl
  | pwrCmdCold p => exact execPwrCmdCold_drop (fm := 17212886745070) p s rfl
  | pwrCmdHibernate p => exact execPwrCmdHibernate_drop (fm := 148717436928) p s rfl
  | hibernateEnter => exact execHibernateEnter_drop (fm := 4544864944142) s rfl
  | pwrCmdClearVbak p => exact execPwrCmdClearVbak_drop (fm := 148713242624) p s rfl
  | hibWakeTimerExpiry => exact execHibWakeTimerExpiry_drop (fm := 17213155180526) s rfl
  | hibCciWake c => exact execHibCciWake_drop (fm := 17213155180526) c s rfl
  | lbusWake frame => exact execLbusWake_drop (fm := 17213155180526) frame s rfl
  | engineWatchdogExpiry e stray => exact execEngineWatchdogExpiry_drop (fm := 17212886745070) e stray s rfl
  | engineRestartComplete e => exact execEngineRestartComplete_drop (fm := 8690630664) e s rfl
  | warmResetResume => exact execWarmResetResume_drop (fm := 9362712590) s rfl
  | clampHoldTimeout => exact execClampHoldTimeout_drop (fm := 67305472) s rfl
  | clampHoldStage3End => exact execClampHoldStage3End_drop (fm := 67305472) s rfl
  | lockstepMismatch se => exact execLockstepMismatch_drop (fm := 17212886745070) se s rfl
  | eccUncorrectable mem addr reader n => exact execEccUncorrectable_drop (fm := 17212886745070) mem addr reader n s rfl
  | sramScrubStep r => exact execSramScrubStep_drop (fm := 8) r s rfl
  | plinthFreqMeasure hz => exact execPlinthFreqMeasure_drop (fm := 8) hz s rfl
  | imgCmdStageBegin p len => exact execImgCmdStageBegin_drop (fm := 148176371792) p len s rfl
  | imgCmdStageEnd p => exact execImgCmdStageEnd_drop (fm := 148176371776) p s rfl
  | imgCmdDryfit p => exact execImgCmdDryfit_drop (fm := 148176371776) p s rfl
  | imgCmdAbort p => exact execImgCmdAbort_drop (fm := 148176371776) p s rfl
  | stagingChunk port b => exact execStagingChunk_drop (fm := 10737418448) port b s rfl
  | dryfitComplete => exact execDryfitComplete_drop (fm := 8589934784) s rfl
  | glueUpSwitch => exact execGlueUpSwitch_drop (fm := 565014936830) s rfl
  | glueRestartComplete => exact execGlueRestartComplete_drop (fm := 8657076302) s rfl
  | splBlockLock port locked => exact execSplBlockLock_drop (fm := 146028888192) port locked s rfl
  | splPortUp port => exact execSplPortUp_drop (fm := 8589934720) port s rfl
  | splPortDown port cause => exact execSplPortDown_drop (fm := 8589934728) port cause s rfl
  | helloRx port x => exact execHelloRx_drop (fm := 128) port x s rfl
  | shimPingTimer => exact execShimPingTimer_drop (fm := 137438953600) s rfl
  | shimPingRx port x turnaround => exact execShimPingRx_drop (fm := 137438953600) port x turnaround s rfl
  | shimEchoRx port x roundTrip => exact execShimEchoRx_drop (fm := 8589934720) port x roundTrip s rfl
  | urgentArmBlock port x => exact execUrgentArmBlock_drop (fm := 5098202701952) port x s rfl
  | urgentBypassAll port x => exact execUrgentBypassAll_drop (fm := 5098202701952) port x s rfl
  | urgentResume port x => exact execUrgentResume_drop (fm := 5098202701952) port x s rfl
  | frameForward port b residence cut => exact execFrameForward_drop (fm := 146028888200) port b residence cut s rfl
  | portReadmit port => exact execPortReadmit_drop (fm := 8589934720) port s rfl
  | armCycleRx port b => exact execArmCycleRx_drop (fm := 6060292153792) port b s rfl
  | cellStatusRx port b => exact execCellStatusRx_drop (fm := 8589942976) port b s rfl
  | armSummaryRx port b => exact execArmSummaryRx_drop (fm := 128) port b s rfl
  | regReqRx port b => exact execRegReqRx_drop (fm := 128) port b s rfl
  | regOpExecute => exact execRegOpExecute_drop (fm := 17282948399102) s rfl
  | ownFrameFreeze slot cycle complete => exact execOwnFrameFreeze_drop (fm := 12884902016) slot cycle complete s rfl
  | ownFrameLaunch port => exact execOwnFrameLaunch_drop (fm := 146028888192) port s rfl
  | holdoverEntry cause => exact execHoldoverEntry_drop (fm := 8589934848) cause s rfl
  | holdoverExpiry => exact execHoldoverExpiry_drop (fm := 8589943040) s rfl
  | refFrameCommit => exact execRefFrameCommit_drop (fm := 8589959176) s rfl
  | cycleBoundary => exact execCycleBoundary_drop (fm := 6200012832254) s rfl
  | pwmCommit leg => exact execPwmCommit_drop (fm := 8589950984) leg s rfl
  | pwmReplaceCommit leg => exact execPwmReplaceCommit_drop (fm := 8589983744) leg s rfl
  | pulseUnitStart leg => exact execPulseUnitStart_drop (fm := 558345797632) leg s rfl
  | pulseReload leg => exact execPulseReload_drop (fm := 558345797632) leg s rfl
  | glStatusFrameRx link bits check => exact execGlStatusFrameRx_drop (fm := 1799852386304) link bits check s rfl
  | glStatusLost link => exact execGlStatusLost_drop (fm := 1799684595712) link s rfl
  | peAssessment vCap iTerm => exact execPeAssessment_drop (fm := 6197764682240) vCap iTerm s rfl
  | fireDelayExpiry => exact execFireDelayExpiry_drop (fm := 8589967360) s rfl
  | bypStatClosed => exact execBypStatClosed_drop (fm := 4406636478468) s rfl
  | bypCloseTimeout => exact execBypCloseTimeout_drop (fm := 6197731106816) s rfl
  | offStateDiagStart => exact execOffStateDiagStart_drop (fm := 8589975552) s rfl
  | offStateDiagComplete => exact execOffStateDiagComplete_drop (fm := 6197731110912) s rfl
  | legRetestComplete => exact execLegRetestComplete_drop (fm := 4960780546048) s rfl
  | takeHoldTimeout => exact execTakeHoldTimeout_drop (fm := 8589983744) s rfl
  | glkJigGo p sw => exact execGlkJigGo_drop (fm := 148176404480) p sw s rfl
  | jigPulseEnd => exact execJigPulseEnd_drop (fm := 32768) s rfl
  | comparatorCrossing n input lasted => exact execComparatorCrossing_drop (fm := 700172967936) n input lasted s rfl
  | comparatorReturn n input => exact execComparatorReturn_drop (fm := 16777216) n input s rfl
  | tripInAssert => exact execTripInAssert_drop (fm := 700172967940) s rfl
  | tripInCountWaitExpiry => exact execTripInCountWaitExpiry_drop (fm := 8606711808) s rfl
  | tripOutRelease => exact execTripOutRelease_drop (fm := 16777216) s rfl
  | reactionAutoRelease e => exact execReactionAutoRelease_drop (fm := 8606752768) e s rfl
  | measLostOpenExpiry c => exact execMeasLostOpenExpiry_drop (fm := 12961415168) c s rfl
  | prtClearEntry p e => exact execPrtClearEntry_drop (fm := 148193189888) p e s rfl
  | prtClearAll p => exact execPrtClearAll_drop (fm := 148193189888) p s rfl
  | prtBypassReq p value => exact execPrtBypassReq_drop (fm := 6199878594560) p value s rfl
  | heartbeatSend => exact execHeartbeatSend_drop (fm := 137438953472) s rfl
  | heartbeatRx x => exact execHeartbeatRx_drop (fm := 562885011456) x s rfl
  | heartbeatTimeout => exact execHeartbeatTimeout_drop (fm := 562885011456) s rfl
  | stateMirrorSend => exact execStateMirrorSend_drop (fm := 137456517120) s rfl
  | stateMirrorRx m => exact execStateMirrorRx_drop (fm := 6197764665344) m s rfl
  | dvtCmdHandover p => exact execDvtCmdHandover_drop (fm := 148209926144) p s rfl
  | tokenGiveRx gen tH => exact execTokenGiveRx_drop (fm := 137472507904) gen tH s rfl
  | tokenAckRx gen => exact execTokenAckRx_drop (fm := 33554432) gen s rfl
  | handoverSwitch => exact execHandoverSwitch_drop (fm := 562885011456) s rfl
  | handoverAckTimeout => exact execHandoverAckTimeout_drop (fm := 8623489024) s rfl
  | dvtLinkDown => exact execDvtLinkDown_drop (fm := 8623489024) s rfl
  | dvtLinkUp => exact execDvtLinkUp_drop (fm := 8623489024) s rfl
  | currentLoopTick c iv vCap vCh => exact execCurrentLoopTick_drop (fm := 219119845888) c iv vCap vCh s rfl
  | trimPeriodStaircase c => exact execTrimPeriodStaircase_drop (fm := 68719673344) c s rfl
  | sampleStrobe c iv vCap vCh run hib shunt => exact execSampleStrobe_drop (fm := 77313540616) c iv vCap vCh run hib shunt s rfl
  | overBudgetTick c mean => exact execOverBudgetTick_drop (fm := 8590131200) c mean s rfl
  | chaCmdConnect p c => exact execChaCmdConnect_drop (fm := 148177354752) p c s rfl
  | chaCmdRun p c => exact execChaCmdRun_drop (fm := 148176568320) p c s rfl
  | chaCmdBlock p c => exact execChaCmdBlock_drop (fm := 152547852288) p c s rfl
  | chaCmdDisconnect p c => exact execChaCmdDisconnect_drop (fm := 152547852288) p c s rfl
  | connectStepTimer c => exact execConnectStepTimer_drop (fm := 81680891904) c s rfl
  | prechargeTargetReached c => exact execPrechargeTargetReached_drop (fm := 67305472) c s rfl
  | prechargeTimeout c => exact execPrechargeTimeout_drop (fm := 12961415168) c s rfl
  | prechargeCooldownEnd c => exact execPrechargeCooldownEnd_drop (fm := 983040) c s rfl
  | zeroingComplete c => exact execZeroingComplete_drop (fm := 12961415168) c s rfl
  | protectiveZeroBlock c => exact execProtectiveZeroBlock_drop (fm := 150400368640) c s rfl
  | openingStepTimer c => exact execOpeningStepTimer_drop (fm := 6197731110912) c s rfl
  | forcedOpen c => exact execForcedOpen_drop (fm := 8657240064) c s rfl
  | chaParkGo p c m => exact execChaParkGo_drop (fm := 148180762624) p c m s rfl
  | parkExecute c m => exact execParkExecute_drop (fm := 12964823040) c m s rfl
  | chaClearUnpark p c m => exact execChaClearUnpark_drop (fm := 148180762624) p c m s rfl
  | chaClearWeld p c => exact execChaClearWeld_drop (fm := 148176568320) p c s rfl
  | learnHalfPeriod c => exact execLearnHalfPeriod_drop (fm := 12960628736) c s rfl
  | snaCmdWake p c => exact execSnaCmdWake_drop (fm := 152547852288) p c s rfl
  | snaCmdSleep p c => exact execSnaCmdSleep_drop (fm := 152547852288) p c s rfl
  | enumStart c => exact execEnumStart_drop (fm := 137439739904) c s rfl
  | enumReturn c b => exact execEnumReturn_drop (fm := 786432) c b s rfl
  | enumerationComplete c => exact execEnumerationComplete_drop (fm := 12968755200) c s rfl
  | strobeLaunch c res => exact execStrobeLaunch_drop (fm := 137439739904) c res s rfl
  | sampleRx c b => exact execSampleRx_drop (fm := 12968755200) c b s rfl
  | srsRx c b => exact execSrsRx_drop (fm := 81612701696) c b s rfl
  | pongRx c b roundTrip => exact execPongRx_drop (fm := 8590721024) c b roundTrip s rfl
  | pingTimer c => exact execPingTimer_drop (fm := 137439739904) c s rfl
  | sampleSetComplete c => exact execSampleSetComplete_drop (fm := 1799688790016) c s rfl
  | owTestTimer c => exact execOwTestTimer_drop (fm := 786432) c s rfl
  | sentinelSilent c m => exact execSentinelSilent_drop (fm := 12961415168) c m s rfl
  | lostModulePoll c m => exact execLostModulePoll_drop (fm := 786432) c m s rfl
  | bswTestIssue c m cell => exact execBswTestIssue_drop (fm := 786432) c m cell s rfl
  | eeMillisecondCount c => exact execEeMillisecondCount_drop (fm := 12967968768) c s rfl
  | anchorTimerExpiry c m k full => exact execAnchorTimerExpiry_drop (fm := 12967968768) c m k full s rfl
  | limitsPublish => exact execLimitsPublish_drop (fm := 77316947968) s rfl
  | limitsStale c => exact execLimitsStale_drop (fm := 8594325504) c s rfl
  | balanceTick c => exact execBalanceTick_drop (fm := 3932160) c s rfl
  | ocvRestExpiry c m k => exact execOcvRestExpiry_drop (fm := 8593080320) c m k s rfl
  | checkpointTimer => exact execCheckpointTimer_drop (fm := 4194304) s rfl
  | countPeriodTimer => exact execCountPeriodTimer_drop (fm := 4194304) s rfl
  | recordWriteStart kind => exact execRecordWriteStart_drop (fm := 4194304) kind s rfl
  | estCmdCheckpoint p => exact execEstCmdCheckpoint_drop (fm := 148180566016) p s rfl
  | estCmdResetModule p c m => exact execEstCmdResetModule_drop (fm := 152554405888) p c m s rfl
  | vnrCtrlPreset p c => exact execVnrCtrlPreset_drop (fm := 148179517440) p c s rfl
  | scanStep inputs => exact execScanStep_drop (fm := 10595777617920) inputs s rfl
  | sensorReturn c m t => exact execSensorReturn_drop (fm := 8598323200) c m t s rfl
  | coldShutdownEnd c => exact execColdShutdownEnd_drop (fm := 9904286859264) c s rfl
  | hotReleaseReady c => exact execHotReleaseReady_drop (fm := 8388608) c s rfl
  | heaterStagger => exact execHeaterStagger_drop (fm := 8665432064) s rfl
  | thmHeatCmd p ch action => exact execThmHeatCmd_drop (fm := 148251869184) p ch action s rfl
  | heatOverrideExpiry ch => exact execHeatOverrideExpiry_drop (fm := 8665432064) ch s rfl
  | thmClearRelease p c => exact execThmClearRelease_drop (fm := 10043873296384) p c s rfl
  | thmClearErase p => exact execThmClearErase_drop (fm := 148184760320) p s rfl
  | tillRecordWrite => exact execTillRecordWrite_drop (fm := 4194304) s rfl
  | lswCmd p ch action => exact execLswCmd_drop (fm := 148243480576) p ch action s rfl
  | lswClear p mask => exact execLswClear_drop (fm := 148243480576) p mask s rfl
  | lswSenseSelect p code => exact execLswSenseSelect_drop (fm := 148243480576) p code s rfl
  | currentLimitReached ch current => exact execCurrentLimitReached_drop (fm := 67108864) ch current s rfl
  | limitTimeExpiry ch => exact execLimitTimeExpiry_drop (fm := 12961415168) ch s rfl
  | junctionOvertemp ch tj => exact execJunctionOvertemp_drop (fm := 12961415168) ch tj s rfl
  | inrushWindowEnd ch => exact execInrushWindowEnd_drop (fm := 67108864) ch s rfl
  | retryPauseEnd ch => exact execRetryPauseEnd_drop (fm := 67108864) ch s rfl
  | retryCountReset ch => exact execRetryCountReset_drop (fm := 67108864) ch s rfl
  | clusterSensorSample cl temp tjs is => exact execClusterSensorSample_drop (fm := 81680891904) cl temp tjs is s rfl
  | coilShedDelayExpiry ch => exact execCoilShedDelayExpiry_drop (fm := 12961415168) ch s rfl
  | clusterRestoreStagger cl => exact execClusterRestoreStagger_drop (fm := 8657043456) cl s rfl
  | econPullEnd ch => exact execEconPullEnd_drop (fm := 67108864) ch s rfl
  | openLoadOnDetect ch => exact execOpenLoadOnDetect_drop (fm := 8657043456) ch s rfl
  | offStateLoadTest ch vout => exact execOffStateLoadTest_drop (fm := 8657043456) ch vout s rfl
  | lbusTxGo p b => exact execLbusTxGo_drop (fm := 148310589448) p b s rfl
  | lbusTxCancel p mask => exact execLbusTxCancel_drop (fm := 148310589440) p mask s rfl
  | canTxComplete b delay => exact execCanTxComplete_drop (fm := 146163105792) b delay s rfl
  | canTxAttemptFail b why => exact execCanTxAttemptFail_drop (fm := 146163105792) b why s rfl
  | canFrameRx f => exact execCanFrameRx_drop (fm := 214882582536) f s rfl
  | lbusServiceRequest => exact execLbusServiceRequest_drop (fm := 17282948399102) s rfl
  | lbusRxAck p e => exact execLbusRxAck_drop (fm := 148310589440) p e s rfl
  | lbusStatusPeriod => exact execLbusStatusPeriod_drop (fm := 134217728) s rfl
  | lbusBusOff => exact execLbusBusOff_drop (fm := 8724152320) s rfl
  | busoffHoldExpiry => exact execBusoffHoldExpiry_drop (fm := 134217728) s rfl
  | busOffRecovered => exact execBusOffRecovered_drop (fm := 8724152320) s rfl
  | lbusCmdRecover p => exact execLbusCmdRecover_drop (fm := 148310589440) p s rfl
  | secCmdAttest p => exact execSecCmdAttest_drop (fm := 148176371712) p s rfl
  | attestSigned => exact execAttestSigned_drop (fm := 10737418240) s rfl
  | secCmdStepField p => exact execSecCmdStepField_drop (fm := 149250113536) p s rfl
  | secCounterWrite => exact execSecCounterWrite_drop (fm := 2147483648) s rfl
  | enrolmentObject object => exact execEnrolmentObject_drop (fm := 17213960486910) object s rfl
  | svcRegReq seq ops => exact execSvcRegReq_drop (fm := 17282948399102) seq ops s rfl
  | svcBulk seq stream off data => exact execSvcBulk_drop (fm := 148176371792) seq stream off data s rfl
  | svcFrameGapTimeout => exact execSvcFrameGapTimeout_drop (fm := 8589934592) s rfl
  | svcFrameCrcFail seq => exact execSvcFrameCrcFail_drop (fm := 148176371712) seq s rfl
  | jtagTapReset => exact execJtagTapReset_drop (fm := 2147483648) s rfl
  | jtagInstruction iv => exact execJtagInstruction_drop (fm := 10737418240) iv s rfl
  | mntStartLearn p c m => exact execMntStartLearn_drop (fm := 152471535680) p c m s rfl
  | mntStartSentUpdate p c m => exact execMntStartSentUpdate_drop (fm := 152472322112) p c m s rfl
  | mntStartGateTest p c m => exact execMntStartGateTest_drop (fm := 152471339072) p c m s rfl
  | mntStartJig p c m => exact execMntStartJig_drop (fm := 152471339072) p c m s rfl
  | mntStartPrecharge p c m => exact execMntStartPrecharge_drop (fm := 152472322112) p c m s rfl
  | mntStartContTest p c m => exact execMntStartContTest_drop (fm := 152547852352) p c m s rfl
  | mntStartHeaterTest p c m => exact execMntStartHeaterTest_drop (fm := 152546836544) p c m s rfl
  | mntStartRecordExport p c m => exact execMntStartRecordExport_drop (fm := 221190815808) p c m s rfl
  | mntStop p slot => exact execMntStop_drop (fm := 152547065856) p slot s rfl
  | actTimeoutExpiry slot => exact execActTimeoutExpiry_drop (fm := 12960628736) slot s rfl
  | activityComplete slot => exact execActivityComplete_drop (fm := 12960628736) slot s rfl
  | eventLogCopy => exact execEventLogCopy_drop (fm := 4194304) s rfl
  | evtSelWrite p seq => exact execEvtSelWrite_drop (fm := 148176371712) p seq s rfl
  | readLowWordLatch p addr => exact execReadLowWordLatch_drop (fm := 166158393480) p addr s rfl
  | rcRead p addr => exact execRcRead_drop (fm := 166158393480) p addr s rfl
  | registerWrite p addr value => exact execRegisterWrite_drop (fm := 17282948399102) p addr value s rfl
  | tripInRelease => exact execTripInRelease_drop (fm := 16777220) s rfl
  | pulseCompareEdge leg => exact execPulseCompareEdge_drop (fm := 49152) leg s rfl
  | kerfTurnOn leg => exact execKerfTurnOn_drop (fm := 49152) leg s rfl
  | testWindowExpiry => exact execTestWindowExpiry_drop (fm := 8589967360) s rfl
  | nvmWriteComplete => exact execNvmWriteComplete_drop (fm := 2207625773136) s rfl
  | stageEraseComplete => exact execStageEraseComplete_drop (fm := 64) s rfl
  | lbusRxError dominant => exact execLbusRxError_drop (fm := 146163105792) dominant s rfl
  | lbusBusIdle => exact execLbusBusIdle_drop (fm := 8724152328) s rfl
  | heaterTestChannelEnd => exact execHeaterTestChannelEnd_drop (fm := 12960399360) s rfl
  | senseSelPinChange code => exact execSenseSelPinChange_drop (fm := 67108864) code s rfl

/-! ### No command stops: each answers a next state -/

theorem execPowerOnResetRelease_next (vsys vbak : Nat) (roleSel senseSrc bypClosed : Bool) (s : State) :
    ∃ next, execPowerOnResetRelease vsys vbak roleSel senseSrc bypClosed s = .next next := by
  unfold execPowerOnResetRelease
  repeat' (first | with_reducible exact ⟨_, rfl⟩ | split | dsimp only)

theorem execBootSlotVerifyComplete_next (s0 : State) :
    ∃ next, execBootSlotVerifyComplete s0 = .next next := by
  unfold execBootSlotVerifyComplete
  generalize finishWrite s0 = u
  split
  · extract_lets t b
    generalize bootCheck t b = x
    cases x with
    | none => exact ⟨_, rfl⟩
    | some v =>
      dsimp only
      generalize (bootCheck t (!b)).isNone = y
      cases y <;> exact ⟨_, rfl⟩
  all_goals exact ⟨_, rfl⟩

theorem execRingReady_next (s : State) :
    ∃ next, execRingReady s = .next next := by
  unfold execRingReady
  repeat' (first | with_reducible exact ⟨_, rfl⟩ | split | dsimp only)

theorem execMemberBTokenWaitExpiry_next (s : State) :
    ∃ next, execMemberBTokenWaitExpiry s = .next next := by
  unfold execMemberBTokenWaitExpiry
  repeat' (first | with_reducible exact ⟨_, rfl⟩ | split | dsimp only)

theorem execVsysPlinthSample_next (vsys : Nat) (s : State) :
    ∃ next, execVsysPlinthSample vsys s = .next next := by
  unfold execVsysPlinthSample
  repeat' (first | with_reducible exact ⟨_, rfl⟩ | split | dsimp only)

theorem execStage4HandoffTimeout_next (s : State) :
    ∃ next, execStage4HandoffTimeout s = .next next := by
  unfold execStage4HandoffTimeout
  repeat' (first | with_reducible exact ⟨_, rfl⟩ | split | dsimp only)

theorem execStageRestore_next (s : State) :
    ∃ next, execStageRestore s = .next next := by
  unfold execStageRestore
  repeat' (first | with_reducible exact ⟨_, rfl⟩ | split | dsimp only)

theorem execStage1ChannelRestore_next (s : State) :
    ∃ next, execStage1ChannelRestore s = .next next := by
  unfold execStage1ChannelRestore
  repeat' (first | with_reducible exact ⟨_, rfl⟩ | split | dsimp only)

theorem execResetComparatorTrip_next (s : State) :
    ∃ next, execResetComparatorTrip s = .next next := by
  unfold execResetComparatorTrip
  repeat' (first | with_reducible exact ⟨_, rfl⟩ | split | dsimp only)

theorem execVbakOutOfRange_next (vbak : Nat) (s : State) :
    ∃ next, execVbakOutOfRange vbak s = .next next := by
  unfold execVbakOutOfRange
  repeat' (first | with_reducible exact ⟨_, rfl⟩ | split | dsimp only)

theorem execVauxLowDetect_next (vaux : Nat) (s : State) :
    ∃ next, execVauxLowDetect vaux s = .next next := by
  unfold execVauxLowDetect
  repeat' (first | with_reducible exact ⟨_, rfl⟩ | split | dsimp only)

theorem execVauxLowClear_next (vaux : Nat) (s : State) :
    ∃ next, execVauxLowClear vaux s = .next next := by
  unfold execVauxLowClear
  repeat' (first | with_reducible exact ⟨_, rfl⟩ | split | dsimp only)

theorem execResetNLow_next (s : State) :
    ∃ next, execResetNLow s = .next next := by
  unfold execResetNLow
  repeat' (first | with_reducible exact ⟨_, rfl⟩ | split | dsimp only)

theorem execPwrCmdRun_next (p : Requester) (s : State) :
    ∃ next, execPwrCmdRun p s = .next next := by
  unfold execPwrCmdRun
  repeat' (first | with_reducible exact ⟨_, rfl⟩ | split | dsimp only)

theorem execPwrCmdWarm_next (p : Requester) (s : State) :
    ∃ next, execPwrCmdWarm p s = .next next := by
  unfold execPwrCmdWarm
  repeat' (first | with_reducible exact ⟨_, rfl⟩ | split | dsimp only)

theorem execPwrCmdCold_next (p : Requester) (s : State) :
    ∃ next, execPwrCmdCold p s = .next next := by
  unfold execPwrCmdCold
  repeat' (first | with_reducible exact ⟨_, rfl⟩ | split | dsimp only)

theorem execPwrCmdHibernate_next (p : Requester) (s : State) :
    ∃ next, execPwrCmdHibernate p s = .next next := by
  unfold execPwrCmdHibernate
  repeat' (first | with_reducible exact ⟨_, rfl⟩ | split | dsimp only)

theorem execHibernateEnter_next (s : State) :
    ∃ next, execHibernateEnter s = .next next := by
  unfold execHibernateEnter
  repeat' (first | with_reducible exact ⟨_, rfl⟩ | split | dsimp only)

theorem execPwrCmdClearVbak_next (p : Requester) (s : State) :
    ∃ next, execPwrCmdClearVbak p s = .next next := by
  unfold execPwrCmdClearVbak
  repeat' (first | with_reducible exact ⟨_, rfl⟩ | split | dsimp only)

theorem execHibWakeTimerExpiry_next (s : State) :
    ∃ next, execHibWakeTimerExpiry s = .next next := by
  unfold execHibWakeTimerExpiry
  repeat' (first | with_reducible exact ⟨_, rfl⟩ | split | dsimp only)

theorem execHibCciWake_next (c : ChainId) (s : State) :
    ∃ next, execHibCciWake c s = .next next := by
  unfold execHibCciWake
  repeat' (first | with_reducible exact ⟨_, rfl⟩ | split | dsimp only)

theorem execLbusWake_next (frame : Option CanFrame) (s : State) :
    ∃ next, execLbusWake frame s = .next next := by
  unfold execLbusWake
  repeat' (first | with_reducible exact ⟨_, rfl⟩ | split | dsimp only)

theorem execEngineWatchdogExpiry_next (e : EngineId) (stray : Option Word) (s : State) :
    ∃ next, execEngineWatchdogExpiry e stray s = .next next := by
  unfold execEngineWatchdogExpiry
  repeat' (first | with_reducible exact ⟨_, rfl⟩ | split | dsimp only)

theorem execEngineRestartComplete_next (e : EngineId) (s : State) :
    ∃ next, execEngineRestartComplete e s = .next next := by
  unfold execEngineRestartComplete
  repeat' (first | with_reducible exact ⟨_, rfl⟩ | split | dsimp only)

theorem execWarmResetResume_next (s : State) :
    ∃ next, execWarmResetResume s = .next next := by
  unfold execWarmResetResume
  repeat' (first | with_reducible exact ⟨_, rfl⟩ | split | dsimp only)

theorem execClampHoldTimeout_next (s : State) :
    ∃ next, execClampHoldTimeout s = .next next := by
  unfold execClampHoldTimeout
  repeat' (first | with_reducible exact ⟨_, rfl⟩ | split | dsimp only)

theorem execClampHoldStage3End_next (s : State) :
    ∃ next, execClampHoldStage3End s = .next next := by
  unfold execClampHoldStage3End
  repeat' (first | with_reducible exact ⟨_, rfl⟩ | split | dsimp only)

theorem execLockstepMismatch_next (se : Bool) (s : State) :
    ∃ next, execLockstepMismatch se s = .next next := by
  unfold execLockstepMismatch
  repeat' (first | with_reducible exact ⟨_, rfl⟩ | split | dsimp only)

theorem execEccUncorrectable_next (mem : EccMem) (addr : Word) (reader : EngineId) (corrected : Nat) (s : State) :
    ∃ next, execEccUncorrectable mem addr reader corrected s = .next next := by
  unfold execEccUncorrectable
  repeat' (first | with_reducible exact ⟨_, rfl⟩ | split | dsimp only)

theorem execSramScrubStep_next (r : EccRead) (s : State) :
    ∃ next, execSramScrubStep r s = .next next := by
  unfold execSramScrubStep
  repeat' (first | with_reducible exact ⟨_, rfl⟩ | split | dsimp only)

theorem execPlinthFreqMeasure_next (hz : Nat) (s : State) :
    ∃ next, execPlinthFreqMeasure hz s = .next next := by
  unfold execPlinthFreqMeasure
  repeat' (first | with_reducible exact ⟨_, rfl⟩ | split | dsimp only)

theorem execImgCmdStageBegin_next (p : Requester) (len : Nat) (s : State) :
    ∃ next, execImgCmdStageBegin p len s = .next next := by
  unfold execImgCmdStageBegin
  repeat' (first | with_reducible exact ⟨_, rfl⟩ | split | dsimp only)

theorem execImgCmdStageEnd_next (p : Requester) (s : State) :
    ∃ next, execImgCmdStageEnd p s = .next next := by
  unfold execImgCmdStageEnd
  repeat' (first | with_reducible exact ⟨_, rfl⟩ | split | dsimp only)

theorem execImgCmdDryfit_next (p : Requester) (s : State) :
    ∃ next, execImgCmdDryfit p s = .next next := by
  unfold execImgCmdDryfit
  repeat' (first | with_reducible exact ⟨_, rfl⟩ | split | dsimp only)

theorem execImgCmdAbort_next (p : Requester) (s : State) :
    ∃ next, execImgCmdAbort p s = .next next := by
  unfold execImgCmdAbort
  repeat' (first | with_reducible exact ⟨_, rfl⟩ | split | dsimp only)

theorem execStagingChunk_next (port : RPort) (b : List Byte) (s : State) :
    ∃ next, execStagingChunk port b s = .next next := by
  unfold execStagingChunk
  repeat' (first | with_reducible exact ⟨_, rfl⟩ | split | dsimp only)

theorem execDryfitComplete_next (s : State) :
    ∃ next, execDryfitComplete s = .next next := by
  unfold execDryfitComplete
  repeat' (first | with_reducible exact ⟨_, rfl⟩ | split | dsimp only)

theorem execGlueUpSwitch_next (s : State) :
    ∃ next, execGlueUpSwitch s = .next next := by
  unfold execGlueUpSwitch
  repeat' (first | with_reducible exact ⟨_, rfl⟩ | split | dsimp only)

theorem execGlueRestartComplete_next (s : State) :
    ∃ next, execGlueRestartComplete s = .next next := by
  unfold execGlueRestartComplete
  repeat' (first | with_reducible exact ⟨_, rfl⟩ | split | dsimp only)

theorem execSplBlockLock_next (port : RPort) (locked : Bool) (s : State) :
    ∃ next, execSplBlockLock port locked s = .next next := by
  unfold execSplBlockLock
  repeat' (first | with_reducible exact ⟨_, rfl⟩ | split | dsimp only)

theorem execSplPortUp_next (port : RPort) (s : State) :
    ∃ next, execSplPortUp port s = .next next := by
  unfold execSplPortUp
  repeat' (first | with_reducible exact ⟨_, rfl⟩ | split | dsimp only)

theorem execSplPortDown_next (port : RPort) (cause : PortCause) (s : State) :
    ∃ next, execSplPortDown port cause s = .next next := by
  unfold execSplPortDown
  repeat' (first | with_reducible exact ⟨_, rfl⟩ | split | dsimp only)

theorem execHelloRx_next (port : RPort) (x : OrdSet) (s : State) :
    ∃ next, execHelloRx port x s = .next next := by
  unfold execHelloRx
  repeat' (first | with_reducible exact ⟨_, rfl⟩ | split | dsimp only)

theorem execShimPingTimer_next (s : State) :
    ∃ next, execShimPingTimer s = .next next := by
  unfold execShimPingTimer
  repeat' (first | with_reducible exact ⟨_, rfl⟩ | split | dsimp only)

theorem execShimPingRx_next (port : RPort) (x : OrdSet) (turnaround : Nat) (s : State) :
    ∃ next, execShimPingRx port x turnaround s = .next next := by
  unfold execShimPingRx
  repeat' (first | with_reducible exact ⟨_, rfl⟩ | split | dsimp only)

theorem execShimEchoRx_next (port : RPort) (x : OrdSet) (roundTrip : Nat) (s : State) :
    ∃ next, execShimEchoRx port x roundTrip s = .next next := by
  unfold execShimEchoRx
  repeat' (first | with_reducible exact ⟨_, rfl⟩ | split | dsimp only)

theorem execUrgentArmBlock_next (port : RPort) (x : OrdSet) (s : State) :
    ∃ next, execUrgentArmBlock port x s = .next next := by
  unfold execUrgentArmBlock
  repeat' (first | with_reducible exact ⟨_, rfl⟩ | split | dsimp only)

theorem execUrgentBypassAll_next (port : RPort) (x : OrdSet) (s : State) :
    ∃ next, execUrgentBypassAll port x s = .next next := by
  unfold execUrgentBypassAll
  repeat' (first | with_reducible exact ⟨_, rfl⟩ | split | dsimp only)

theorem execUrgentResume_next (port : RPort) (x : OrdSet) (s : State) :
    ∃ next, execUrgentResume port x s = .next next := by
  unfold execUrgentResume
  repeat' (first | with_reducible exact ⟨_, rfl⟩ | split | dsimp only)

theorem execFrameForward_next (port : RPort) (b : List Byte) (residence : Nat) (cut : Option Nat) (s : State) :
    ∃ next, execFrameForward port b residence cut s = .next next := by
  unfold execFrameForward
  repeat' (first | with_reducible exact ⟨_, rfl⟩ | split | dsimp only)

theorem execPortReadmit_next (port : RPort) (s : State) :
    ∃ next, execPortReadmit port s = .next next := by
  unfold execPortReadmit
  repeat' (first | with_reducible exact ⟨_, rfl⟩ | split | dsimp only)

theorem execArmCycleRx_next (port : RPort) (b : List Byte) (s : State) :
    ∃ next, execArmCycleRx port b s = .next next := by
  unfold execArmCycleRx
  repeat' (first | with_reducible exact ⟨_, rfl⟩ | split | dsimp only)

theorem execCellStatusRx_next (port : RPort) (b : List Byte) (s : State) :
    ∃ next, execCellStatusRx port b s = .next next := by
  unfold execCellStatusRx
  repeat' (first | with_reducible exact ⟨_, rfl⟩ | split | dsimp only)

theorem execArmSummaryRx_next (port : RPort) (b : List Byte) (s : State) :
    ∃ next, execArmSummaryRx port b s = .next next := by
  unfold execArmSummaryRx
  repeat' (first | with_reducible exact ⟨_, rfl⟩ | split | dsimp only)

theorem execRegReqRx_next (port : RPort) (b : List Byte) (s : State) :
    ∃ next, execRegReqRx port b s = .next next := by
  unfold execRegReqRx
  repeat' (first | with_reducible exact ⟨_, rfl⟩ | split | dsimp only)

theorem execRegOpExecute_next (s : State) :
    ∃ next, execRegOpExecute s = .next next := by
  unfold execRegOpExecute
  repeat' (first | with_reducible exact ⟨_, rfl⟩ | split | dsimp only)

theorem execOwnFrameFreeze_next (slot cycle : Nat) (complete : Bool) (s : State) :
    ∃ next, execOwnFrameFreeze slot cycle complete s = .next next := by
  unfold execOwnFrameFreeze
  repeat' (first | with_reducible exact ⟨_, rfl⟩ | split | dsimp only)

theorem execOwnFrameLaunch_next (port : RPort) (s : State) :
    ∃ next, execOwnFrameLaunch port s = .next next := by
  unfold execOwnFrameLaunch
  repeat' (first | with_reducible exact ⟨_, rfl⟩ | split | dsimp only)

theorem execHoldoverEntry_next (cause : HoldCause) (s : State) :
    ∃ next, execHoldoverEntry cause s = .next next := by
  unfold execHoldoverEntry
  repeat' (first | with_reducible exact ⟨_, rfl⟩ | split | dsimp only)

theorem execHoldoverExpiry_next (s : State) :
    ∃ next, execHoldoverExpiry s = .next next := by
  unfold execHoldoverExpiry
  repeat' (first | with_reducible exact ⟨_, rfl⟩ | split | dsimp only)

theorem execRefFrameCommit_next (s : State) :
    ∃ next, execRefFrameCommit s = .next next := by
  unfold execRefFrameCommit
  repeat' (first | with_reducible exact ⟨_, rfl⟩ | split | dsimp only)

theorem execCycleBoundary_next (s : State) :
    ∃ next, execCycleBoundary s = .next next := by
  unfold execCycleBoundary
  repeat' (first | with_reducible exact ⟨_, rfl⟩ | split | dsimp only)

theorem execPwmCommit_next (leg : Leg) (s : State) :
    ∃ next, execPwmCommit leg s = .next next := by
  unfold execPwmCommit
  repeat' (first | with_reducible exact ⟨_, rfl⟩ | split | dsimp only)

theorem execPwmReplaceCommit_next (leg : Leg) (s : State) :
    ∃ next, execPwmReplaceCommit leg s = .next next := by
  unfold execPwmReplaceCommit
  repeat' (first | with_reducible exact ⟨_, rfl⟩ | split | dsimp only)

theorem execPulseUnitStart_next (leg : Leg) (s : State) :
    ∃ next, execPulseUnitStart leg s = .next next := by
  unfold execPulseUnitStart
  repeat' (first | with_reducible exact ⟨_, rfl⟩ | split | dsimp only)

theorem execPulseReload_next (leg : Leg) (s : State) :
    ∃ next, execPulseReload leg s = .next next := by
  unfold execPulseReload
  repeat' (first | with_reducible exact ⟨_, rfl⟩ | split | dsimp only)

theorem execGlStatusFrameRx_next (link : Fin 4) (bits : BitVec 16) (check : BitVec 4) (s : State) :
    ∃ next, execGlStatusFrameRx link bits check s = .next next := by
  unfold execGlStatusFrameRx
  repeat' (first | with_reducible exact ⟨_, rfl⟩ | split | dsimp only)

theorem execGlStatusLost_next (link : Fin 4) (s : State) :
    ∃ next, execGlStatusLost link s = .next next := by
  unfold execGlStatusLost
  repeat' (first | with_reducible exact ⟨_, rfl⟩ | split | dsimp only)

theorem execPeAssessment_next (vCap : Option Nat) (iTerm : Option Int) (s : State) :
    ∃ next, execPeAssessment vCap iTerm s = .next next := by
  unfold execPeAssessment
  repeat' (first | with_reducible exact ⟨_, rfl⟩ | split | dsimp only)

theorem execFireDelayExpiry_next (s : State) :
    ∃ next, execFireDelayExpiry s = .next next := by
  unfold execFireDelayExpiry
  repeat' (first | with_reducible exact ⟨_, rfl⟩ | split | dsimp only)

theorem execBypStatClosed_next (s : State) :
    ∃ next, execBypStatClosed s = .next next := by
  unfold execBypStatClosed
  repeat' (first | with_reducible exact ⟨_, rfl⟩ | split | dsimp only)

theorem execBypCloseTimeout_next (s : State) :
    ∃ next, execBypCloseTimeout s = .next next := by
  unfold execBypCloseTimeout
  repeat' (first | with_reducible exact ⟨_, rfl⟩ | split | dsimp only)

theorem execOffStateDiagStart_next (s : State) :
    ∃ next, execOffStateDiagStart s = .next next := by
  unfold execOffStateDiagStart
  repeat' (first | with_reducible exact ⟨_, rfl⟩ | split | dsimp only)

theorem execOffStateDiagComplete_next (s : State) :
    ∃ next, execOffStateDiagComplete s = .next next := by
  unfold execOffStateDiagComplete
  repeat' (first | with_reducible exact ⟨_, rfl⟩ | split | dsimp only)

theorem execLegRetestComplete_next (s : State) :
    ∃ next, execLegRetestComplete s = .next next := by
  unfold execLegRetestComplete
  repeat' (first | with_reducible exact ⟨_, rfl⟩ | split | dsimp only)

theorem execTakeHoldTimeout_next (s : State) :
    ∃ next, execTakeHoldTimeout s = .next next := by
  unfold execTakeHoldTimeout
  repeat' (first | with_reducible exact ⟨_, rfl⟩ | split | dsimp only)

theorem execGlkJigGo_next (p : Requester) (sw : Nat) (s : State) :
    ∃ next, execGlkJigGo p sw s = .next next := by
  unfold execGlkJigGo
  repeat' (first | with_reducible exact ⟨_, rfl⟩ | split | dsimp only)

theorem execJigPulseEnd_next (s : State) :
    ∃ next, execJigPulseEnd s = .next next := by
  unfold execJigPulseEnd
  repeat' (first | with_reducible exact ⟨_, rfl⟩ | split | dsimp only)

theorem execComparatorCrossing_next (n : Fin 8) (input : BitVec 16) (lasted : Nat) (s : State) :
    ∃ next, execComparatorCrossing n input lasted s = .next next := by
  unfold execComparatorCrossing
  repeat' (first | with_reducible exact ⟨_, rfl⟩ | split | dsimp only)

theorem execComparatorReturn_next (n : Fin 8) (input : BitVec 16) (s : State) :
    ∃ next, execComparatorReturn n input s = .next next := by
  unfold execComparatorReturn
  repeat' (first | with_reducible exact ⟨_, rfl⟩ | split | dsimp only)

theorem execTripInAssert_next (s : State) :
    ∃ next, execTripInAssert s = .next next := by
  unfold execTripInAssert
  repeat' (first | with_reducible exact ⟨_, rfl⟩ | split | dsimp only)

theorem execTripInCountWaitExpiry_next (s : State) :
    ∃ next, execTripInCountWaitExpiry s = .next next := by
  unfold execTripInCountWaitExpiry
  repeat' (first | with_reducible exact ⟨_, rfl⟩ | split | dsimp only)

theorem execTripOutRelease_next (s : State) :
    ∃ next, execTripOutRelease s = .next next := by
  unfold execTripOutRelease
  repeat' (first | with_reducible exact ⟨_, rfl⟩ | split | dsimp only)

theorem execReactionAutoRelease_next (e : Fin 64) (s : State) :
    ∃ next, execReactionAutoRelease e s = .next next := by
  unfold execReactionAutoRelease
  repeat' (first | with_reducible exact ⟨_, rfl⟩ | split | dsimp only)

theorem execMeasLostOpenExpiry_next (c : ChainId) (s : State) :
    ∃ next, execMeasLostOpenExpiry c s = .next next := by
  unfold execMeasLostOpenExpiry
  repeat' (first | with_reducible exact ⟨_, rfl⟩ | split | dsimp only)

theorem execPrtClearEntry_next (p : Requester) (e : Fin 64) (s : State) :
    ∃ next, execPrtClearEntry p e s = .next next := by
  unfold execPrtClearEntry
  repeat' (first | with_reducible exact ⟨_, rfl⟩ | split | dsimp only)

theorem execPrtClearAll_next (p : Requester) (s : State) :
    ∃ next, execPrtClearAll p s = .next next := by
  unfold execPrtClearAll
  repeat' (first | with_reducible exact ⟨_, rfl⟩ | split | dsimp only)

theorem execPrtBypassReq_next (p : Requester) (value : Word) (s : State) :
    ∃ next, execPrtBypassReq p value s = .next next := by
  unfold execPrtBypassReq
  repeat' (first | with_reducible exact ⟨_, rfl⟩ | split | dsimp only)

theorem execHeartbeatSend_next (s : State) :
    ∃ next, execHeartbeatSend s = .next next := by
  unfold execHeartbeatSend
  repeat' (first | with_reducible exact ⟨_, rfl⟩ | split | dsimp only)

theorem execHeartbeatRx_next (x : OrdSet) (s : State) :
    ∃ next, execHeartbeatRx x s = .next next := by
  unfold execHeartbeatRx
  repeat' (first | with_reducible exact ⟨_, rfl⟩ | split | dsimp only)

theorem execHeartbeatTimeout_next (s : State) :
    ∃ next, execHeartbeatTimeout s = .next next := by
  unfold execHeartbeatTimeout
  repeat' (first | with_reducible exact ⟨_, rfl⟩ | split | dsimp only)

theorem execStateMirrorSend_next (s : State) :
    ∃ next, execStateMirrorSend s = .next next := by
  unfold execStateMirrorSend
  repeat' (first | with_reducible exact ⟨_, rfl⟩ | split | dsimp only)

theorem execStateMirrorRx_next (m : Option Mirror) (s : State) :
    ∃ next, execStateMirrorRx m s = .next next := by
  unfold execStateMirrorRx
  repeat' (first | with_reducible exact ⟨_, rfl⟩ | split | dsimp only)

theorem execDvtCmdHandover_next (p : Requester) (s : State) :
    ∃ next, execDvtCmdHandover p s = .next next := by
  unfold execDvtCmdHandover
  repeat' (first | with_reducible exact ⟨_, rfl⟩ | split | dsimp only)

theorem execTokenGiveRx_next (gen tH : Nat) (s : State) :
    ∃ next, execTokenGiveRx gen tH s = .next next := by
  unfold execTokenGiveRx
  repeat' (first | with_reducible exact ⟨_, rfl⟩ | split | dsimp only)

theorem execTokenAckRx_next (gen : Nat) (s : State) :
    ∃ next, execTokenAckRx gen s = .next next := by
  unfold execTokenAckRx
  repeat' (first | with_reducible exact ⟨_, rfl⟩ | split | dsimp only)

theorem execHandoverSwitch_next (s : State) :
    ∃ next, execHandoverSwitch s = .next next := by
  unfold execHandoverSwitch
  repeat' (first | with_reducible exact ⟨_, rfl⟩ | split | dsimp only)

theorem execHandoverAckTimeout_next (s : State) :
    ∃ next, execHandoverAckTimeout s = .next next := by
  unfold execHandoverAckTimeout
  repeat' (first | with_reducible exact ⟨_, rfl⟩ | split | dsimp only)

theorem execDvtLinkDown_next (s : State) :
    ∃ next, execDvtLinkDown s = .next next := by
  unfold execDvtLinkDown
  repeat' (first | with_reducible exact ⟨_, rfl⟩ | split | dsimp only)

theorem execDvtLinkUp_next (s : State) :
    ∃ next, execDvtLinkUp s = .next next := by
  unfold execDvtLinkUp
  repeat' (first | with_reducible exact ⟨_, rfl⟩ | split | dsimp only)

theorem execCurrentLoopTick_next (c : ChainId) (i : Option Int) (vCap vCh : Option Nat) (s : State) :
    ∃ next, execCurrentLoopTick c i vCap vCh s = .next next := by
  unfold execCurrentLoopTick
  split
  · exact ⟨_, rfl⟩
  · extract_lets
    split <;> exact ⟨_, rfl⟩

theorem execTrimPeriodStaircase_next (c : ChainId) (s : State) :
    ∃ next, execTrimPeriodStaircase c s = .next next := by
  unfold execTrimPeriodStaircase
  repeat' (first | with_reducible exact ⟨_, rfl⟩ | split | dsimp only)

theorem execSampleStrobe_next (c : ChainId) (i : Option Int) (vCap vCh : Option Nat) (run hib : Int) (shunt : List (Nat × Int)) (s : State) :
    ∃ next, execSampleStrobe c i vCap vCh run hib shunt s = .next next := by
  unfold execSampleStrobe
  repeat' (first | with_reducible exact ⟨_, rfl⟩ | split | dsimp only)

theorem execOverBudgetTick_next (c : ChainId) (mean : Int) (s : State) :
    ∃ next, execOverBudgetTick c mean s = .next next := by
  unfold execOverBudgetTick
  repeat' (first | with_reducible exact ⟨_, rfl⟩ | split | dsimp only)

theorem execChaCmdConnect_next (p : Requester) (c : ChainId) (s : State) :
    ∃ next, execChaCmdConnect p c s = .next next := by
  unfold execChaCmdConnect
  repeat' (first | with_reducible exact ⟨_, rfl⟩ | split | dsimp only)

theorem execChaCmdRun_next (p : Requester) (c : ChainId) (s : State) :
    ∃ next, execChaCmdRun p c s = .next next := by
  unfold execChaCmdRun
  repeat' (first | with_reducible exact ⟨_, rfl⟩ | split | dsimp only)

theorem execChaCmdBlock_next (p : Requester) (c : ChainId) (s : State) :
    ∃ next, execChaCmdBlock p c s = .next next := by
  unfold execChaCmdBlock
  repeat' (first | with_reducible exact ⟨_, rfl⟩ | split | dsimp only)

theorem execChaCmdDisconnect_next (p : Requester) (c : ChainId) (s : State) :
    ∃ next, execChaCmdDisconnect p c s = .next next := by
  unfold execChaCmdDisconnect
  repeat' (first | with_reducible exact ⟨_, rfl⟩ | split | dsimp only)

theorem execConnectStepTimer_next (c : ChainId) (s : State) :
    ∃ next, execConnectStepTimer c s = .next next := by
  unfold execConnectStepTimer
  repeat' (first | with_reducible exact ⟨_, rfl⟩ | split | dsimp only)

theorem execPrechargeTargetReached_next (c : ChainId) (s : State) :
    ∃ next, execPrechargeTargetReached c s = .next next := by
  unfold execPrechargeTargetReached
  repeat' (first | with_reducible exact ⟨_, rfl⟩ | split | dsimp only)

theorem execPrechargeTimeout_next (c : ChainId) (s : State) :
    ∃ next, execPrechargeTimeout c s = .next next := by
  unfold execPrechargeTimeout
  repeat' (first | with_reducible exact ⟨_, rfl⟩ | split | dsimp only)

theorem execPrechargeCooldownEnd_next (c : ChainId) (s : State) :
    ∃ next, execPrechargeCooldownEnd c s = .next next := by
  unfold execPrechargeCooldownEnd
  repeat' (first | with_reducible exact ⟨_, rfl⟩ | split | dsimp only)

theorem execZeroingComplete_next (c : ChainId) (s : State) :
    ∃ next, execZeroingComplete c s = .next next := by
  unfold execZeroingComplete
  repeat' (first | with_reducible exact ⟨_, rfl⟩ | split | dsimp only)

theorem execProtectiveZeroBlock_next (c : ChainId) (s : State) :
    ∃ next, execProtectiveZeroBlock c s = .next next := by
  unfold execProtectiveZeroBlock
  repeat' (first | with_reducible exact ⟨_, rfl⟩ | split | dsimp only)

theorem execOpeningStepTimer_next (c : ChainId) (s : State) :
    ∃ next, execOpeningStepTimer c s = .next next := by
  unfold execOpeningStepTimer
  repeat' (first | with_reducible exact ⟨_, rfl⟩ | split | dsimp only)

theorem execForcedOpen_next (c : ChainId) (s : State) :
    ∃ next, execForcedOpen c s = .next next := by
  unfold execForcedOpen
  repeat' (first | with_reducible exact ⟨_, rfl⟩ | split | dsimp only)

theorem execChaParkGo_next (p : Requester) (c : ChainId) (m : Fin 32) (s : State) :
    ∃ next, execChaParkGo p c m s = .next next := by
  unfold execChaParkGo
  repeat' (first | with_reducible exact ⟨_, rfl⟩ | split | dsimp only)

theorem execParkExecute_next (c : ChainId) (m : Fin 32) (s : State) :
    ∃ next, execParkExecute c m s = .next next := by
  unfold execParkExecute
  repeat' (first | with_reducible exact ⟨_, rfl⟩ | split | dsimp only)

theorem execChaClearUnpark_next (p : Requester) (c : ChainId) (m : Fin 32) (s : State) :
    ∃ next, execChaClearUnpark p c m s = .next next := by
  unfold execChaClearUnpark
  repeat' (first | with_reducible exact ⟨_, rfl⟩ | split | dsimp only)

theorem execChaClearWeld_next (p : Requester) (c : ChainId) (s : State) :
    ∃ next, execChaClearWeld p c s = .next next := by
  unfold execChaClearWeld
  repeat' (first | with_reducible exact ⟨_, rfl⟩ | split | dsimp only)

theorem execLearnHalfPeriod_next (c : ChainId) (s : State) :
    ∃ next, execLearnHalfPeriod c s = .next next := by
  unfold execLearnHalfPeriod
  repeat' (first | with_reducible exact ⟨_, rfl⟩ | split | dsimp only)

theorem execSnaCmdWake_next (p : Requester) (c : ChainId) (s : State) :
    ∃ next, execSnaCmdWake p c s = .next next := by
  unfold execSnaCmdWake
  repeat' (first | with_reducible exact ⟨_, rfl⟩ | split | dsimp only)

theorem execSnaCmdSleep_next (p : Requester) (c : ChainId) (s : State) :
    ∃ next, execSnaCmdSleep p c s = .next next := by
  unfold execSnaCmdSleep
  repeat' (first | with_reducible exact ⟨_, rfl⟩ | split | dsimp only)

theorem execEnumStart_next (c : ChainId) (s : State) :
    ∃ next, execEnumStart c s = .next next := by
  unfold execEnumStart
  repeat' (first | with_reducible exact ⟨_, rfl⟩ | split | dsimp only)

theorem execEnumReturn_next (c : ChainId) (b : List Byte) (s : State) :
    ∃ next, execEnumReturn c b s = .next next := by
  unfold execEnumReturn
  repeat' (first | with_reducible exact ⟨_, rfl⟩ | split | dsimp only)

theorem execEnumerationComplete_next (c : ChainId) (s : State) :
    ∃ next, execEnumerationComplete c s = .next next := by
  unfold execEnumerationComplete
  repeat' (first | with_reducible exact ⟨_, rfl⟩ | split | dsimp only)

theorem execStrobeLaunch_next (c : ChainId) (seen : Nat) (s : State) :
    ∃ next, execStrobeLaunch c seen s = .next next := by
  unfold execStrobeLaunch
  repeat' (first | with_reducible exact ⟨_, rfl⟩ | split | dsimp only)

theorem execSampleRx_next (c : ChainId) (b : List Byte) (s : State) :
    ∃ next, execSampleRx c b s = .next next := by
  unfold execSampleRx
  repeat' (first | with_reducible exact ⟨_, rfl⟩ | split | dsimp only)

theorem execSrsRx_next (c : ChainId) (b : List Byte) (s : State) :
    ∃ next, execSrsRx c b s = .next next := by
  unfold execSrsRx
  repeat' (first | with_reducible exact ⟨_, rfl⟩ | split | dsimp only)

theorem execPongRx_next (c : ChainId) (b : List Byte) (roundTrip : Nat) (s : State) :
    ∃ next, execPongRx c b roundTrip s = .next next := by
  unfold execPongRx
  repeat' (first | with_reducible exact ⟨_, rfl⟩ | split | dsimp only)

theorem execPingTimer_next (c : ChainId) (s : State) :
    ∃ next, execPingTimer c s = .next next := by
  unfold execPingTimer
  repeat' (first | with_reducible exact ⟨_, rfl⟩ | split | dsimp only)

theorem execSampleSetComplete_next (c : ChainId) (s : State) :
    ∃ next, execSampleSetComplete c s = .next next := by
  unfold execSampleSetComplete
  repeat' (first | with_reducible exact ⟨_, rfl⟩ | split | dsimp only)

theorem execOwTestTimer_next (c : ChainId) (s : State) :
    ∃ next, execOwTestTimer c s = .next next := by
  unfold execOwTestTimer
  repeat' (first | with_reducible exact ⟨_, rfl⟩ | split | dsimp only)

theorem execSentinelSilent_next (c : ChainId) (m : Fin 32) (s : State) :
    ∃ next, execSentinelSilent c m s = .next next := by
  unfold execSentinelSilent
  repeat' (first | with_reducible exact ⟨_, rfl⟩ | split | dsimp only)

theorem execLostModulePoll_next (c : ChainId) (m : Fin 32) (s : State) :
    ∃ next, execLostModulePoll c m s = .next next := by
  unfold execLostModulePoll
  repeat' (first | with_reducible exact ⟨_, rfl⟩ | split | dsimp only)

theorem execBswTestIssue_next (c : ChainId) (m : Fin 32) (cell : Option (Fin 32)) (s : State) :
    ∃ next, execBswTestIssue c m cell s = .next next := by
  unfold execBswTestIssue
  repeat' (first | with_reducible exact ⟨_, rfl⟩ | split | dsimp only)

theorem execEeMillisecondCount_next (c : ChainId) (s : State) :
    ∃ next, execEeMillisecondCount c s = .next next := by
  unfold execEeMillisecondCount
  repeat' (first | with_reducible exact ⟨_, rfl⟩ | split | dsimp only)

theorem execAnchorTimerExpiry_next (c : ChainId) (m k : Fin 32) (full : Bool) (s : State) :
    ∃ next, execAnchorTimerExpiry c m k full s = .next next := by
  unfold execAnchorTimerExpiry
  repeat' (first | with_reducible exact ⟨_, rfl⟩ | split | dsimp only)

theorem execLimitsPublish_next (s : State) :
    ∃ next, execLimitsPublish s = .next next := by
  unfold execLimitsPublish
  repeat' (first | with_reducible exact ⟨_, rfl⟩ | split | dsimp only)

theorem execLimitsStale_next (c : ChainId) (s : State) :
    ∃ next, execLimitsStale c s = .next next := by
  unfold execLimitsStale
  repeat' (first | with_reducible exact ⟨_, rfl⟩ | split | dsimp only)

theorem execBalanceTick_next (c : ChainId) (s : State) :
    ∃ next, execBalanceTick c s = .next next := by
  unfold execBalanceTick
  repeat' (first | with_reducible exact ⟨_, rfl⟩ | split | dsimp only)

theorem execOcvRestExpiry_next (c : ChainId) (m k : Fin 32) (s : State) :
    ∃ next, execOcvRestExpiry c m k s = .next next := by
  unfold execOcvRestExpiry
  repeat' (first | with_reducible exact ⟨_, rfl⟩ | split | dsimp only)

theorem execCheckpointTimer_next (s : State) :
    ∃ next, execCheckpointTimer s = .next next := by
  unfold execCheckpointTimer
  repeat' (first | with_reducible exact ⟨_, rfl⟩ | split | dsimp only)

theorem execCountPeriodTimer_next (s : State) :
    ∃ next, execCountPeriodTimer s = .next next := by
  unfold execCountPeriodTimer
  repeat' (first | with_reducible exact ⟨_, rfl⟩ | split | dsimp only)

theorem execRecordWriteStart_next (kind : RecKind) (s : State) :
    ∃ next, execRecordWriteStart kind s = .next next := by
  unfold execRecordWriteStart
  repeat' (first | with_reducible exact ⟨_, rfl⟩ | split | dsimp only)

theorem execEstCmdCheckpoint_next (p : Requester) (s : State) :
    ∃ next, execEstCmdCheckpoint p s = .next next := by
  unfold execEstCmdCheckpoint
  repeat' (first | with_reducible exact ⟨_, rfl⟩ | split | dsimp only)

theorem execEstCmdResetModule_next (p : Requester) (c : ChainId) (m : Fin 32) (s : State) :
    ∃ next, execEstCmdResetModule p c m s = .next next := by
  unfold execEstCmdResetModule
  repeat' (first | with_reducible exact ⟨_, rfl⟩ | split | dsimp only)

theorem execVnrCtrlPreset_next (p : Requester) (c : ChainId) (s : State) :
    ∃ next, execVnrCtrlPreset p c s = .next next := by
  unfold execVnrCtrlPreset
  repeat' (first | with_reducible exact ⟨_, rfl⟩ | split | dsimp only)

theorem execScanStep_next (x : ScanInputs) (s : State) :
    ∃ next, execScanStep x s = .next next := by
  unfold execScanStep
  repeat' (first | with_reducible exact ⟨_, rfl⟩ | split | dsimp only)

theorem execSensorReturn_next (c : ChainId) (m : Fin 32) (t : Fin 8) (s : State) :
    ∃ next, execSensorReturn c m t s = .next next := by
  unfold execSensorReturn
  repeat' (first | with_reducible exact ⟨_, rfl⟩ | split | dsimp only)

theorem execColdShutdownEnd_next (c : ChainId) (s : State) :
    ∃ next, execColdShutdownEnd c s = .next next := by
  unfold execColdShutdownEnd
  repeat' (first | with_reducible exact ⟨_, rfl⟩ | split | dsimp only)

theorem execHotReleaseReady_next (c : ChainId) (s : State) :
    ∃ next, execHotReleaseReady c s = .next next := by
  unfold execHotReleaseReady
  repeat' (first | with_reducible exact ⟨_, rfl⟩ | split | dsimp only)

theorem execHeaterStagger_next (s : State) :
    ∃ next, execHeaterStagger s = .next next := by
  unfold execHeaterStagger
  repeat' (first | with_reducible exact ⟨_, rfl⟩ | split | dsimp only)

theorem execThmHeatCmd_next (p : Requester) (ch action : Nat) (s : State) :
    ∃ next, execThmHeatCmd p ch action s = .next next := by
  unfold execThmHeatCmd
  repeat' (first | with_reducible exact ⟨_, rfl⟩ | split | dsimp only)

theorem execHeatOverrideExpiry_next (ch : Fin 12) (s : State) :
    ∃ next, execHeatOverrideExpiry ch s = .next next := by
  unfold execHeatOverrideExpiry
  repeat' (first | with_reducible exact ⟨_, rfl⟩ | split | dsimp only)

theorem execThmClearRelease_next (p : Requester) (c : ChainId) (s : State) :
    ∃ next, execThmClearRelease p c s = .next next := by
  unfold execThmClearRelease
  repeat' (first | with_reducible exact ⟨_, rfl⟩ | split | dsimp only)

theorem execThmClearErase_next (p : Requester) (s : State) :
    ∃ next, execThmClearErase p s = .next next := by
  unfold execThmClearErase
  repeat' (first | with_reducible exact ⟨_, rfl⟩ | split | dsimp only)

theorem execTillRecordWrite_next (s : State) :
    ∃ next, execTillRecordWrite s = .next next := by
  unfold execTillRecordWrite
  repeat' (first | with_reducible exact ⟨_, rfl⟩ | split | dsimp only)

theorem execLswCmd_next (p : Requester) (ch action : Nat) (s : State) :
    ∃ next, execLswCmd p ch action s = .next next := by
  unfold execLswCmd
  repeat' (first | with_reducible exact ⟨_, rfl⟩ | split | dsimp only)

theorem execLswClear_next (p : Requester) (mask : BitVec 12) (s : State) :
    ∃ next, execLswClear p mask s = .next next := by
  unfold execLswClear
  repeat' (first | with_reducible exact ⟨_, rfl⟩ | split | dsimp only)

theorem execLswSenseSelect_next (p : Requester) (code : BitVec 4) (s : State) :
    ∃ next, execLswSenseSelect p code s = .next next := by
  unfold execLswSenseSelect
  repeat' (first | with_reducible exact ⟨_, rfl⟩ | split | dsimp only)

theorem execCurrentLimitReached_next (ch : Fin 12) (i : Int) (s : State) :
    ∃ next, execCurrentLimitReached ch i s = .next next := by
  unfold execCurrentLimitReached
  repeat' (first | with_reducible exact ⟨_, rfl⟩ | split | dsimp only)

theorem execLimitTimeExpiry_next (ch : Fin 12) (s : State) :
    ∃ next, execLimitTimeExpiry ch s = .next next := by
  unfold execLimitTimeExpiry
  repeat' (first | with_reducible exact ⟨_, rfl⟩ | split | dsimp only)

theorem execJunctionOvertemp_next (ch : Fin 12) (tj : Int) (s : State) :
    ∃ next, execJunctionOvertemp ch tj s = .next next := by
  unfold execJunctionOvertemp
  repeat' (first | with_reducible exact ⟨_, rfl⟩ | split | dsimp only)

theorem execInrushWindowEnd_next (ch : Fin 12) (s : State) :
    ∃ next, execInrushWindowEnd ch s = .next next := by
  unfold execInrushWindowEnd
  repeat' (first | with_reducible exact ⟨_, rfl⟩ | split | dsimp only)

theorem execRetryPauseEnd_next (ch : Fin 12) (s : State) :
    ∃ next, execRetryPauseEnd ch s = .next next := by
  unfold execRetryPauseEnd
  repeat' (first | with_reducible exact ⟨_, rfl⟩ | split | dsimp only)

theorem execRetryCountReset_next (ch : Fin 12) (s : State) :
    ∃ next, execRetryCountReset ch s = .next next := by
  unfold execRetryCountReset
  repeat' (first | with_reducible exact ⟨_, rfl⟩ | split | dsimp only)

theorem execClusterSensorSample_next (cl : Fin 3) (temp : Int) (tjs is : List Int) (s : State) :
    ∃ next, execClusterSensorSample cl temp tjs is s = .next next := by
  unfold execClusterSensorSample
  repeat' (first | with_reducible exact ⟨_, rfl⟩ | split | dsimp only)

theorem execCoilShedDelayExpiry_next (ch : Fin 12) (s : State) :
    ∃ next, execCoilShedDelayExpiry ch s = .next next := by
  unfold execCoilShedDelayExpiry
  repeat' (first | with_reducible exact ⟨_, rfl⟩ | split | dsimp only)

theorem execClusterRestoreStagger_next (cl : Fin 3) (s : State) :
    ∃ next, execClusterRestoreStagger cl s = .next next := by
  unfold execClusterRestoreStagger
  repeat' (first | with_reducible exact ⟨_, rfl⟩ | split | dsimp only)

theorem execEconPullEnd_next (ch : Fin 12) (s : State) :
    ∃ next, execEconPullEnd ch s = .next next := by
  unfold execEconPullEnd
  repeat' (first | with_reducible exact ⟨_, rfl⟩ | split | dsimp only)

theorem execOpenLoadOnDetect_next (ch : Fin 12) (s : State) :
    ∃ next, execOpenLoadOnDetect ch s = .next next := by
  unfold execOpenLoadOnDetect
  repeat' (first | with_reducible exact ⟨_, rfl⟩ | split | dsimp only)

theorem execOffStateLoadTest_next (ch : Fin 12) (vout : Nat) (s : State) :
    ∃ next, execOffStateLoadTest ch vout s = .next next := by
  unfold execOffStateLoadTest
  repeat' (first | with_reducible exact ⟨_, rfl⟩ | split | dsimp only)

theorem execLbusTxGo_next (p : Requester) (b : Fin 16) (s : State) :
    ∃ next, execLbusTxGo p b s = .next next := by
  unfold execLbusTxGo
  repeat' (first | with_reducible exact ⟨_, rfl⟩ | split | dsimp only)

theorem execLbusTxCancel_next (p : Requester) (mask : BitVec 16) (s : State) :
    ∃ next, execLbusTxCancel p mask s = .next next := by
  unfold execLbusTxCancel
  repeat' (first | with_reducible exact ⟨_, rfl⟩ | split | dsimp only)

theorem execCanTxComplete_next (b : Fin 16) (delay : Nat) (s : State) :
    ∃ next, execCanTxComplete b delay s = .next next := by
  unfold execCanTxComplete
  repeat' (first | with_reducible exact ⟨_, rfl⟩ | split | dsimp only)

theorem execCanTxAttemptFail_next (b : Fin 16) (why : TxFail) (s : State) :
    ∃ next, execCanTxAttemptFail b why s = .next next := by
  unfold execCanTxAttemptFail
  repeat' (first | with_reducible exact ⟨_, rfl⟩ | split | dsimp only)

theorem execCanFrameRx_next (f : CanFrame) (s : State) :
    ∃ next, execCanFrameRx f s = .next next := by
  unfold execCanFrameRx
  repeat' (first | with_reducible exact ⟨_, rfl⟩ | split | dsimp only)

theorem execLbusServiceRequest_next (s : State) :
    ∃ next, execLbusServiceRequest s = .next next := by
  unfold execLbusServiceRequest
  repeat' (first | with_reducible exact ⟨_, rfl⟩ | split | dsimp only)

theorem execLbusRxAck_next (p : Requester) (e : Fin 64) (s : State) :
    ∃ next, execLbusRxAck p e s = .next next := by
  unfold execLbusRxAck
  repeat' (first | with_reducible exact ⟨_, rfl⟩ | split | dsimp only)

theorem execLbusStatusPeriod_next (s : State) :
    ∃ next, execLbusStatusPeriod s = .next next := by
  unfold execLbusStatusPeriod
  repeat' (first | with_reducible exact ⟨_, rfl⟩ | split | dsimp only)

theorem execLbusBusOff_next (s : State) :
    ∃ next, execLbusBusOff s = .next next := by
  unfold execLbusBusOff
  repeat' (first | with_reducible exact ⟨_, rfl⟩ | split | dsimp only)

theorem execBusoffHoldExpiry_next (s : State) :
    ∃ next, execBusoffHoldExpiry s = .next next := by
  unfold execBusoffHoldExpiry
  repeat' (first | with_reducible exact ⟨_, rfl⟩ | split | dsimp only)

theorem execBusOffRecovered_next (s : State) :
    ∃ next, execBusOffRecovered s = .next next := by
  unfold execBusOffRecovered
  repeat' (first | with_reducible exact ⟨_, rfl⟩ | split | dsimp only)

theorem execLbusCmdRecover_next (p : Requester) (s : State) :
    ∃ next, execLbusCmdRecover p s = .next next := by
  unfold execLbusCmdRecover
  repeat' (first | with_reducible exact ⟨_, rfl⟩ | split | dsimp only)

theorem execSecCmdAttest_next (p : Requester) (s : State) :
    ∃ next, execSecCmdAttest p s = .next next := by
  unfold execSecCmdAttest
  repeat' (first | with_reducible exact ⟨_, rfl⟩ | split | dsimp only)

theorem execAttestSigned_next (s : State) :
    ∃ next, execAttestSigned s = .next next := by
  unfold execAttestSigned
  repeat' (first | with_reducible exact ⟨_, rfl⟩ | split | dsimp only)

theorem execSecCmdStepField_next (p : Requester) (s : State) :
    ∃ next, execSecCmdStepField p s = .next next := by
  unfold execSecCmdStepField
  repeat' (first | with_reducible exact ⟨_, rfl⟩ | split | dsimp only)

theorem execSecCounterWrite_next (s : State) :
    ∃ next, execSecCounterWrite s = .next next := by
  unfold execSecCounterWrite
  repeat' (first | with_reducible exact ⟨_, rfl⟩ | split | dsimp only)

theorem execEnrolmentObject_next (object : List Byte) (s : State) :
    ∃ next, execEnrolmentObject object s = .next next := by
  unfold execEnrolmentObject
  repeat' (first | with_reducible exact ⟨_, rfl⟩ | split | dsimp only)

theorem execSvcRegReq_next (seq : Nat) (ops : List RegOp) (s : State) :
    ∃ next, execSvcRegReq seq ops s = .next next := by
  unfold execSvcRegReq
  repeat' (first | with_reducible exact ⟨_, rfl⟩ | split | dsimp only)

theorem execSvcBulk_next (seq stream off : Nat) (data : List Byte) (s : State) :
    ∃ next, execSvcBulk seq stream off data s = .next next := by
  unfold execSvcBulk
  repeat' (first | with_reducible exact ⟨_, rfl⟩ | split | dsimp only)

theorem execSvcFrameGapTimeout_next (s : State) :
    ∃ next, execSvcFrameGapTimeout s = .next next := by
  unfold execSvcFrameGapTimeout
  repeat' (first | with_reducible exact ⟨_, rfl⟩ | split | dsimp only)

theorem execSvcFrameCrcFail_next (seq : Nat) (s : State) :
    ∃ next, execSvcFrameCrcFail seq s = .next next := by
  unfold execSvcFrameCrcFail
  repeat' (first | with_reducible exact ⟨_, rfl⟩ | split | dsimp only)

theorem execJtagTapReset_next (s : State) :
    ∃ next, execJtagTapReset s = .next next := by
  unfold execJtagTapReset
  repeat' (first | with_reducible exact ⟨_, rfl⟩ | split | dsimp only)

theorem execJtagInstruction_next (i : JtagInstr) (s : State) :
    ∃ next, execJtagInstruction i s = .next next := by
  unfold execJtagInstruction
  repeat' (first | with_reducible exact ⟨_, rfl⟩ | split | dsimp only)

theorem execMntStartLearn_next (p : Requester) (c : ChainId) (m : Fin 32) (s : State) :
    ∃ next, execMntStartLearn p c m s = .next next := by
  unfold execMntStartLearn
  repeat' (first | with_reducible exact ⟨_, rfl⟩ | split | dsimp only)

theorem execMntStartSentUpdate_next (p : Requester) (c : ChainId) (m : Fin 32) (s : State) :
    ∃ next, execMntStartSentUpdate p c m s = .next next := by
  unfold execMntStartSentUpdate
  repeat' (first | with_reducible exact ⟨_, rfl⟩ | split | dsimp only)

theorem execMntStartGateTest_next (p : Requester) (c : ChainId) (m : Fin 32) (s : State) :
    ∃ next, execMntStartGateTest p c m s = .next next := by
  unfold execMntStartGateTest
  repeat' (first | with_reducible exact ⟨_, rfl⟩ | split | dsimp only)

theorem execMntStartJig_next (p : Requester) (c : ChainId) (m : Fin 32) (s : State) :
    ∃ next, execMntStartJig p c m s = .next next := by
  unfold execMntStartJig
  repeat' (first | with_reducible exact ⟨_, rfl⟩ | split | dsimp only)

theorem execMntStartPrecharge_next (p : Requester) (c : ChainId) (m : Fin 32) (s : State) :
    ∃ next, execMntStartPrecharge p c m s = .next next := by
  unfold execMntStartPrecharge
  repeat' (first | with_reducible exact ⟨_, rfl⟩ | split | dsimp only)

theorem execMntStartContTest_next (p : Requester) (c : ChainId) (m : Fin 32) (s : State) :
    ∃ next, execMntStartContTest p c m s = .next next := by
  unfold execMntStartContTest
  repeat' (first | with_reducible exact ⟨_, rfl⟩ | split | dsimp only)

theorem execMntStartHeaterTest_next (p : Requester) (c : ChainId) (m : Fin 32) (s : State) :
    ∃ next, execMntStartHeaterTest p c m s = .next next := by
  unfold execMntStartHeaterTest
  repeat' (first | with_reducible exact ⟨_, rfl⟩ | split | dsimp only)

theorem execMntStartRecordExport_next (p : Requester) (c : ChainId) (m : Fin 32) (s : State) :
    ∃ next, execMntStartRecordExport p c m s = .next next := by
  unfold execMntStartRecordExport
  repeat' (first | with_reducible exact ⟨_, rfl⟩ | split | dsimp only)

theorem execMntStop_next (p : Requester) (slot : Fin 4) (s : State) :
    ∃ next, execMntStop p slot s = .next next := by
  unfold execMntStop
  repeat' (first | with_reducible exact ⟨_, rfl⟩ | split | dsimp only)

theorem execActTimeoutExpiry_next (slot : Fin 4) (s : State) :
    ∃ next, execActTimeoutExpiry slot s = .next next := by
  unfold execActTimeoutExpiry
  repeat' (first | with_reducible exact ⟨_, rfl⟩ | split | dsimp only)

theorem execActivityComplete_next (slot : Fin 4) (s : State) :
    ∃ next, execActivityComplete slot s = .next next := by
  unfold execActivityComplete
  repeat' (first | with_reducible exact ⟨_, rfl⟩ | split | dsimp only)

theorem execEventLogCopy_next (s : State) :
    ∃ next, execEventLogCopy s = .next next := by
  unfold execEventLogCopy
  repeat' (first | with_reducible exact ⟨_, rfl⟩ | split | dsimp only)

theorem execEvtSelWrite_next (p : Requester) (seq : BitVec 24) (s : State) :
    ∃ next, execEvtSelWrite p seq s = .next next := by
  unfold execEvtSelWrite
  repeat' (first | with_reducible exact ⟨_, rfl⟩ | split | dsimp only)

theorem execReadLowWordLatch_next (p : Requester) (addr : Word) (s : State) :
    ∃ next, execReadLowWordLatch p addr s = .next next := by
  unfold execReadLowWordLatch
  repeat' (first | with_reducible exact ⟨_, rfl⟩ | split | dsimp only)

theorem execRcRead_next (p : Requester) (addr : Word) (s : State) :
    ∃ next, execRcRead p addr s = .next next := by
  unfold execRcRead
  repeat' (first | with_reducible exact ⟨_, rfl⟩ | split | dsimp only)

theorem execRegisterWrite_next (p : Requester) (addr value : Word) (s : State) :
    ∃ next, execRegisterWrite p addr value s = .next next := by
  unfold execRegisterWrite
  repeat' (first | with_reducible exact ⟨_, rfl⟩ | split | dsimp only)

theorem execTripInRelease_next (s : State) :
    ∃ next, execTripInRelease s = .next next := by
  unfold execTripInRelease
  repeat' (first | with_reducible exact ⟨_, rfl⟩ | split | dsimp only)

theorem execPulseCompareEdge_next (leg : Leg) (s : State) :
    ∃ next, execPulseCompareEdge leg s = .next next := by
  unfold execPulseCompareEdge
  repeat' (first | with_reducible exact ⟨_, rfl⟩ | split | dsimp only)

theorem execKerfTurnOn_next (leg : Leg) (s : State) :
    ∃ next, execKerfTurnOn leg s = .next next := by
  unfold execKerfTurnOn
  repeat' (first | with_reducible exact ⟨_, rfl⟩ | split | dsimp only)

theorem execTestWindowExpiry_next (s : State) :
    ∃ next, execTestWindowExpiry s = .next next := by
  unfold execTestWindowExpiry
  repeat' (first | with_reducible exact ⟨_, rfl⟩ | split | dsimp only)

theorem execNvmWriteComplete_next (s : State) :
    ∃ next, execNvmWriteComplete s = .next next := by
  unfold execNvmWriteComplete
  repeat' (first | with_reducible exact ⟨_, rfl⟩ | split | dsimp only)

theorem execStageEraseComplete_next (s : State) :
    ∃ next, execStageEraseComplete s = .next next := by
  unfold execStageEraseComplete
  repeat' (first | with_reducible exact ⟨_, rfl⟩ | split | dsimp only)

theorem execLbusRxError_next (dominant : Bool) (s : State) :
    ∃ next, execLbusRxError dominant s = .next next := by
  unfold execLbusRxError
  repeat' (first | with_reducible exact ⟨_, rfl⟩ | split | dsimp only)

theorem execLbusBusIdle_next (s : State) :
    ∃ next, execLbusBusIdle s = .next next := by
  unfold execLbusBusIdle
  repeat' (first | with_reducible exact ⟨_, rfl⟩ | split | dsimp only)

theorem execHeaterTestChannelEnd_next (s : State) :
    ∃ next, execHeaterTestChannelEnd s = .next next := by
  unfold execHeaterTestChannelEnd
  repeat' (first | with_reducible exact ⟨_, rfl⟩ | split | dsimp only)

theorem execSenseSelPinChange_next (code : BitVec 4) (s : State) :
    ∃ next, execSenseSelPinChange code s = .next next := by
  unfold execSenseSelPinChange
  repeat' (first | with_reducible exact ⟨_, rfl⟩ | split | dsimp only)

end Sys2Proof.Machine
end

