-- ==== Sys2Proof/Laws/Completes.lean ====
section
/-! SUPPORT. How a completion is shown: the next state, its effect, and its frame from a mask. -/

set_option Elab.async false

namespace Sys2Proof.Machine

/-- A completion from the next state and a frame equation of it. -/
theorem completes_of {c : Instr} {s t : State} {bs : List Block} {post : State → Prop} {m : Nat}
    (h : exec c s = .next t) (hp : post t) (hd : t.drop m = s.drop m) (hb : m &&& blockMask bs = m) :
    Completes c s bs post := ⟨t, h, hp, frame_of_mask hd hb⟩

/-- A completion whose frame is that of the command. -/
theorem completes_by {c : Instr} {s t : State} {bs : List Block} {post : State → Prop} {m : Nat}
    (h : exec c s = .next t) (hp : post t) (hd : (resState (exec c s) s).drop m = s.drop m)
    (hb : m &&& blockMask bs = m) : Completes c s bs post := by
  rw [h, resState_next] at hd
  exact completes_of h hp hd hb

/-- A granted operation of a port that leaves the phase as it is: its effect, then the answer. -/
theorem regCmd_granted {s : State} {p : Requester} {cls : OpClass} {addr : Word} {op : State → RegRes} {lamp : Bool}
    (g : Granted s p cls addr lamp) (hph : (op s).1.dev.phase = s.dev.phase) :
    regCmd s p (fun s => withRight s p cls addr op lamp) = answer (op s).1 p (op s).2 := by
  unfold regCmd withRight
  simp only [g.1, g.2, if_true, hph, beq_self_eq_true]

/-- A granted operation of a port that changes the phase: its effect, and no answer. -/
theorem regCmd_resets {s : State} {p : Requester} {cls : OpClass} {addr : Word} {op : State → RegRes} {lamp : Bool}
    (g : Granted s p cls addr lamp) (hph : ((op s).1.dev.phase == s.dev.phase) = false) :
    regCmd s p (fun s => withRight s p cls addr op lamp) = (op s).1 := by
  unfold regCmd withRight
  simp [g.1, g.2, hph]

end Sys2Proof.Machine
end

