-- ==== Sys2Proof/Laws/Fields2.lean ====
section
/-! SUPPORT. What the operations of the families leave unchanged, block by block, for rewriting. -/

set_option Elab.async false

namespace Sys2Proof.Machine

@[simp] theorem shedLoads_dev (s : State) : (shedLoads s).dev = s.dev :=
  same_of_drop (m := 67108864) (shedLoads_drop s rfl) .dev rfl
@[simp] theorem shedLoads_eng (s : State) : (shedLoads s).eng = s.eng :=
  same_of_drop (m := 67108864) (shedLoads_drop s rfl) .eng rfl
@[simp] theorem shedLoads_img (s : State) : (shedLoads s).img = s.img :=
  same_of_drop (m := 67108864) (shedLoads_drop s rfl) .img rfl
@[simp] theorem shedLoads_spl (s : State) : (shedLoads s).spl = s.spl :=
  same_of_drop (m := 67108864) (shedLoads_drop s rfl) .spl rfl
@[simp] theorem shedLoads_tim (s : State) : (shedLoads s).tim = s.tim :=
  same_of_drop (m := 67108864) (shedLoads_drop s rfl) .tim rfl
@[simp] theorem shedLoads_arm (s : State) : (shedLoads s).arm = s.arm :=
  same_of_drop (m := 67108864) (shedLoads_drop s rfl) .arm rfl
@[simp] theorem shedLoads_pwm (s : State) : (shedLoads s).pwm = s.pwm :=
  same_of_drop (m := 67108864) (shedLoads_drop s rfl) .pwm rfl
@[simp] theorem shedLoads_glk (s : State) : (shedLoads s).glk = s.glk :=
  same_of_drop (m := 67108864) (shedLoads_drop s rfl) .glk rfl
@[simp] theorem shedLoads_chA (s : State) : (shedLoads s).chA = s.chA :=
  same_of_drop (m := 67108864) (shedLoads_drop s rfl) .chA rfl
@[simp] theorem shedLoads_chB (s : State) : (shedLoads s).chB = s.chB :=
  same_of_drop (m := 67108864) (shedLoads_drop s rfl) .chB rfl
@[simp] theorem shedLoads_snA (s : State) : (shedLoads s).snA = s.snA :=
  same_of_drop (m := 67108864) (shedLoads_drop s rfl) .snA rfl
@[simp] theorem shedLoads_snB (s : State) : (shedLoads s).snB = s.snB :=
  same_of_drop (m := 67108864) (shedLoads_drop s rfl) .snB rfl
@[simp] theorem shedLoads_esA (s : State) : (shedLoads s).esA = s.esA :=
  same_of_drop (m := 67108864) (shedLoads_drop s rfl) .esA rfl
@[simp] theorem shedLoads_esB (s : State) : (shedLoads s).esB = s.esB :=
  same_of_drop (m := 67108864) (shedLoads_drop s rfl) .esB rfl
@[simp] theorem shedLoads_est (s : State) : (shedLoads s).est = s.est :=
  same_of_drop (m := 67108864) (shedLoads_drop s rfl) .est rfl
@[simp] theorem shedLoads_thm (s : State) : (shedLoads s).thm = s.thm :=
  same_of_drop (m := 67108864) (shedLoads_drop s rfl) .thm rfl
@[simp] theorem shedLoads_prt (s : State) : (shedLoads s).prt = s.prt :=
  same_of_drop (m := 67108864) (shedLoads_drop s rfl) .prt rfl
@[simp] theorem shedLoads_dvt (s : State) : (shedLoads s).dvt = s.dvt :=
  same_of_drop (m := 67108864) (shedLoads_drop s rfl) .dvt rfl
@[simp] theorem shedLoads_lbus (s : State) : (shedLoads s).lbus = s.lbus :=
  same_of_drop (m := 67108864) (shedLoads_drop s rfl) .lbus rfl
@[simp] theorem shedLoads_pwr (s : State) : (shedLoads s).pwr = s.pwr :=
  same_of_drop (m := 67108864) (shedLoads_drop s rfl) .pwr rfl
@[simp] theorem shedLoads_sec (s : State) : (shedLoads s).sec = s.sec :=
  same_of_drop (m := 67108864) (shedLoads_drop s rfl) .sec rfl
@[simp] theorem shedLoads_mnt (s : State) : (shedLoads s).mnt = s.mnt :=
  same_of_drop (m := 67108864) (shedLoads_drop s rfl) .mnt rfl
@[simp] theorem shedLoads_evt (s : State) : (shedLoads s).evt = s.evt :=
  same_of_drop (m := 67108864) (shedLoads_drop s rfl) .evt rfl
@[simp] theorem shedLoads_outbox (s : State) : (shedLoads s).outbox = s.outbox :=
  same_of_drop (m := 67108864) (shedLoads_drop s rfl) .outbox rfl
@[simp] theorem resumeClamp_dev (s : State) : (resumeClamp s).dev = s.dev :=
  same_of_drop (m := 8657043456) (resumeClamp_drop s rfl) .dev rfl
@[simp] theorem resumeClamp_eng (s : State) : (resumeClamp s).eng = s.eng :=
  same_of_drop (m := 8657043456) (resumeClamp_drop s rfl) .eng rfl
@[simp] theorem resumeClamp_img (s : State) : (resumeClamp s).img = s.img :=
  same_of_drop (m := 8657043456) (resumeClamp_drop s rfl) .img rfl
@[simp] theorem resumeClamp_spl (s : State) : (resumeClamp s).spl = s.spl :=
  same_of_drop (m := 8657043456) (resumeClamp_drop s rfl) .spl rfl
@[simp] theorem resumeClamp_tim (s : State) : (resumeClamp s).tim = s.tim :=
  same_of_drop (m := 8657043456) (resumeClamp_drop s rfl) .tim rfl
@[simp] theorem resumeClamp_arm (s : State) : (resumeClamp s).arm = s.arm :=
  same_of_drop (m := 8657043456) (resumeClamp_drop s rfl) .arm rfl
@[simp] theorem resumeClamp_pwm (s : State) : (resumeClamp s).pwm = s.pwm :=
  same_of_drop (m := 8657043456) (resumeClamp_drop s rfl) .pwm rfl
@[simp] theorem resumeClamp_glk (s : State) : (resumeClamp s).glk = s.glk :=
  same_of_drop (m := 8657043456) (resumeClamp_drop s rfl) .glk rfl
@[simp] theorem resumeClamp_chA (s : State) : (resumeClamp s).chA = s.chA :=
  same_of_drop (m := 8657043456) (resumeClamp_drop s rfl) .chA rfl
@[simp] theorem resumeClamp_chB (s : State) : (resumeClamp s).chB = s.chB :=
  same_of_drop (m := 8657043456) (resumeClamp_drop s rfl) .chB rfl
@[simp] theorem resumeClamp_snA (s : State) : (resumeClamp s).snA = s.snA :=
  same_of_drop (m := 8657043456) (resumeClamp_drop s rfl) .snA rfl
@[simp] theorem resumeClamp_snB (s : State) : (resumeClamp s).snB = s.snB :=
  same_of_drop (m := 8657043456) (resumeClamp_drop s rfl) .snB rfl
@[simp] theorem resumeClamp_esA (s : State) : (resumeClamp s).esA = s.esA :=
  same_of_drop (m := 8657043456) (resumeClamp_drop s rfl) .esA rfl
@[simp] theorem resumeClamp_esB (s : State) : (resumeClamp s).esB = s.esB :=
  same_of_drop (m := 8657043456) (resumeClamp_drop s rfl) .esB rfl
@[simp] theorem resumeClamp_est (s : State) : (resumeClamp s).est = s.est :=
  same_of_drop (m := 8657043456) (resumeClamp_drop s rfl) .est rfl
@[simp] theorem resumeClamp_thm (s : State) : (resumeClamp s).thm = s.thm :=
  same_of_drop (m := 8657043456) (resumeClamp_drop s rfl) .thm rfl
@[simp] theorem resumeClamp_prt (s : State) : (resumeClamp s).prt = s.prt :=
  same_of_drop (m := 8657043456) (resumeClamp_drop s rfl) .prt rfl
@[simp] theorem resumeClamp_dvt (s : State) : (resumeClamp s).dvt = s.dvt :=
  same_of_drop (m := 8657043456) (resumeClamp_drop s rfl) .dvt rfl
@[simp] theorem resumeClamp_lbus (s : State) : (resumeClamp s).lbus = s.lbus :=
  same_of_drop (m := 8657043456) (resumeClamp_drop s rfl) .lbus rfl
@[simp] theorem resumeClamp_pwr (s : State) : (resumeClamp s).pwr = s.pwr :=
  same_of_drop (m := 8657043456) (resumeClamp_drop s rfl) .pwr rfl
@[simp] theorem resumeClamp_sec (s : State) : (resumeClamp s).sec = s.sec :=
  same_of_drop (m := 8657043456) (resumeClamp_drop s rfl) .sec rfl
@[simp] theorem resumeClamp_mnt (s : State) : (resumeClamp s).mnt = s.mnt :=
  same_of_drop (m := 8657043456) (resumeClamp_drop s rfl) .mnt rfl
@[simp] theorem resumeClamp_outbox (s : State) : (resumeClamp s).outbox = s.outbox :=
  same_of_drop (m := 8657043456) (resumeClamp_drop s rfl) .outbox rfl
@[simp] theorem releaseClamp_dev (s : State) (report : Bool) : (releaseClamp s report).dev = s.dev :=
  same_of_drop (m := 67305472) (releaseClamp_drop s report rfl) .dev rfl
@[simp] theorem releaseClamp_eng (s : State) (report : Bool) : (releaseClamp s report).eng = s.eng :=
  same_of_drop (m := 67305472) (releaseClamp_drop s report rfl) .eng rfl
@[simp] theorem releaseClamp_img (s : State) (report : Bool) : (releaseClamp s report).img = s.img :=
  same_of_drop (m := 67305472) (releaseClamp_drop s report rfl) .img rfl
@[simp] theorem releaseClamp_spl (s : State) (report : Bool) : (releaseClamp s report).spl = s.spl :=
  same_of_drop (m := 67305472) (releaseClamp_drop s report rfl) .spl rfl
@[simp] theorem releaseClamp_tim (s : State) (report : Bool) : (releaseClamp s report).tim = s.tim :=
  same_of_drop (m := 67305472) (releaseClamp_drop s report rfl) .tim rfl
@[simp] theorem releaseClamp_arm (s : State) (report : Bool) : (releaseClamp s report).arm = s.arm :=
  same_of_drop (m := 67305472) (releaseClamp_drop s report rfl) .arm rfl
@[simp] theorem releaseClamp_pwm (s : State) (report : Bool) : (releaseClamp s report).pwm = s.pwm :=
  same_of_drop (m := 67305472) (releaseClamp_drop s report rfl) .pwm rfl
@[simp] theorem releaseClamp_glk (s : State) (report : Bool) : (releaseClamp s report).glk = s.glk :=
  same_of_drop (m := 67305472) (releaseClamp_drop s report rfl) .glk rfl
@[simp] theorem releaseClamp_snA (s : State) (report : Bool) : (releaseClamp s report).snA = s.snA :=
  same_of_drop (m := 67305472) (releaseClamp_drop s report rfl) .snA rfl
@[simp] theorem releaseClamp_snB (s : State) (report : Bool) : (releaseClamp s report).snB = s.snB :=
  same_of_drop (m := 67305472) (releaseClamp_drop s report rfl) .snB rfl
@[simp] theorem releaseClamp_esA (s : State) (report : Bool) : (releaseClamp s report).esA = s.esA :=
  same_of_drop (m := 67305472) (releaseClamp_drop s report rfl) .esA rfl
@[simp] theorem releaseClamp_esB (s : State) (report : Bool) : (releaseClamp s report).esB = s.esB :=
  same_of_drop (m := 67305472) (releaseClamp_drop s report rfl) .esB rfl
@[simp] theorem releaseClamp_est (s : State) (report : Bool) : (releaseClamp s report).est = s.est :=
  same_of_drop (m := 67305472) (releaseClamp_drop s report rfl) .est rfl
@[simp] theorem releaseClamp_thm (s : State) (report : Bool) : (releaseClamp s report).thm = s.thm :=
  same_of_drop (m := 67305472) (releaseClamp_drop s report rfl) .thm rfl
@[simp] theorem releaseClamp_prt (s : State) (report : Bool) : (releaseClamp s report).prt = s.prt :=
  same_of_drop (m := 67305472) (releaseClamp_drop s report rfl) .prt rfl
@[simp] theorem releaseClamp_dvt (s : State) (report : Bool) : (releaseClamp s report).dvt = s.dvt :=
  same_of_drop (m := 67305472) (releaseClamp_drop s report rfl) .dvt rfl
@[simp] theorem releaseClamp_lbus (s : State) (report : Bool) : (releaseClamp s report).lbus = s.lbus :=
  same_of_drop (m := 67305472) (releaseClamp_drop s report rfl) .lbus rfl
@[simp] theorem releaseClamp_pwr (s : State) (report : Bool) : (releaseClamp s report).pwr = s.pwr :=
  same_of_drop (m := 67305472) (releaseClamp_drop s report rfl) .pwr rfl
@[simp] theorem releaseClamp_sec (s : State) (report : Bool) : (releaseClamp s report).sec = s.sec :=
  same_of_drop (m := 67305472) (releaseClamp_drop s report rfl) .sec rfl
@[simp] theorem releaseClamp_mnt (s : State) (report : Bool) : (releaseClamp s report).mnt = s.mnt :=
  same_of_drop (m := 67305472) (releaseClamp_drop s report rfl) .mnt rfl
@[simp] theorem releaseClamp_evt (s : State) (report : Bool) : (releaseClamp s report).evt = s.evt :=
  same_of_drop (m := 67305472) (releaseClamp_drop s report rfl) .evt rfl
@[simp] theorem releaseClamp_outbox (s : State) (report : Bool) : (releaseClamp s report).outbox = s.outbox :=
  same_of_drop (m := 67305472) (releaseClamp_drop s report rfl) .outbox rfl
@[simp] theorem claimToken_dev (s : State) : (claimToken s).dev = s.dev :=
  same_of_drop (m := 8691427328) (claimToken_drop s rfl) .dev rfl
@[simp] theorem claimToken_eng (s : State) : (claimToken s).eng = s.eng :=
  same_of_drop (m := 8691427328) (claimToken_drop s rfl) .eng rfl
@[simp] theorem claimToken_img (s : State) : (claimToken s).img = s.img :=
  same_of_drop (m := 8691427328) (claimToken_drop s rfl) .img rfl
@[simp] theorem claimToken_spl (s : State) : (claimToken s).spl = s.spl :=
  same_of_drop (m := 8691427328) (claimToken_drop s rfl) .spl rfl
@[simp] theorem claimToken_tim (s : State) : (claimToken s).tim = s.tim :=
  same_of_drop (m := 8691427328) (claimToken_drop s rfl) .tim rfl
@[simp] theorem claimToken_arm_cell (s : State) : (claimToken s).arm.cell = s.arm.cell := by
  have h := same_of_drop (m := 8691427328) (claimToken_drop s rfl) .cell rfl
  simp only [Block.same] at h; simp only [h]
@[simp] theorem claimToken_arm_changes (s : State) : (claimToken s).arm.changes = s.arm.changes := by
  have h := same_of_drop (m := 8691427328) (claimToken_drop s rfl) .cell rfl
  simp only [Block.same] at h; simp only [h]
@[simp] theorem claimToken_arm_bypassed (s : State) : (claimToken s).arm.bypassed = s.arm.bypassed := by
  have h := same_of_drop (m := 8691427328) (claimToken_drop s rfl) .bypass rfl
  exact h
@[simp] theorem claimToken_pwm (s : State) : (claimToken s).pwm = s.pwm :=
  same_of_drop (m := 8691427328) (claimToken_drop s rfl) .pwm rfl
@[simp] theorem claimToken_chA (s : State) : (claimToken s).chA = s.chA :=
  same_of_drop (m := 8691427328) (claimToken_drop s rfl) .chA rfl
@[simp] theorem claimToken_chB (s : State) : (claimToken s).chB = s.chB :=
  same_of_drop (m := 8691427328) (claimToken_drop s rfl) .chB rfl
@[simp] theorem claimToken_esA (s : State) : (claimToken s).esA = s.esA :=
  same_of_drop (m := 8691427328) (claimToken_drop s rfl) .esA rfl
@[simp] theorem claimToken_esB (s : State) : (claimToken s).esB = s.esB :=
  same_of_drop (m := 8691427328) (claimToken_drop s rfl) .esB rfl
@[simp] theorem claimToken_est (s : State) : (claimToken s).est = s.est :=
  same_of_drop (m := 8691427328) (claimToken_drop s rfl) .est rfl
@[simp] theorem claimToken_thm (s : State) : (claimToken s).thm = s.thm :=
  same_of_drop (m := 8691427328) (claimToken_drop s rfl) .thm rfl
@[simp] theorem claimToken_prt (s : State) : (claimToken s).prt = s.prt :=
  same_of_drop (m := 8691427328) (claimToken_drop s rfl) .prt rfl
@[simp] theorem claimToken_lbus (s : State) : (claimToken s).lbus = s.lbus :=
  same_of_drop (m := 8691427328) (claimToken_drop s rfl) .lbus rfl
@[simp] theorem claimToken_pwr (s : State) : (claimToken s).pwr = s.pwr :=
  same_of_drop (m := 8691427328) (claimToken_drop s rfl) .pwr rfl
@[simp] theorem claimToken_sec (s : State) : (claimToken s).sec = s.sec :=
  same_of_drop (m := 8691427328) (claimToken_drop s rfl) .sec rfl
@[simp] theorem claimToken_mnt (s : State) : (claimToken s).mnt = s.mnt :=
  same_of_drop (m := 8691427328) (claimToken_drop s rfl) .mnt rfl
@[simp] theorem claimToken_outbox (s : State) : (claimToken s).outbox = s.outbox :=
  same_of_drop (m := 8691427328) (claimToken_drop s rfl) .outbox rfl
@[simp] theorem claimToken_glk_legA (s : State) : (claimToken s).glk.legA = s.glk.legA := by
  have h := same_of_drop (m := 8691427328) (claimToken_drop s rfl) .legs rfl
  simp only [Block.same] at h; simp only [h]
@[simp] theorem claimToken_glk_legB (s : State) : (claimToken s).glk.legB = s.glk.legB := by
  have h := same_of_drop (m := 8691427328) (claimToken_drop s rfl) .legs rfl
  simp only [Block.same] at h; simp only [h]
@[simp] theorem claimToken_glk_fireHold (s : State) : (claimToken s).glk.fireHold = s.glk.fireHold := by
  have h := same_of_drop (m := 8691427328) (claimToken_drop s rfl) .switch rfl
  simp only [Block.same] at h; simp only [h]
@[simp] theorem claimToken_glk_fireAll (s : State) : (claimToken s).glk.fireAll = s.glk.fireAll := by
  have h := same_of_drop (m := 8691427328) (claimToken_drop s rfl) .switch rfl
  simp only [Block.same] at h; simp only [h]
@[simp] theorem claimToken_glk_closeAsserted (s : State) : (claimToken s).glk.closeAsserted = s.glk.closeAsserted := by
  have h := same_of_drop (m := 8691427328) (claimToken_drop s rfl) .switch rfl
  simp only [Block.same] at h; simp only [h]
@[simp] theorem claimToken_glk_closeDue (s : State) : (claimToken s).glk.closeDue = s.glk.closeDue := by
  have h := same_of_drop (m := 8691427328) (claimToken_drop s rfl) .switch rfl
  simp only [Block.same] at h; simp only [h]
@[simp] theorem claimToken_glk_statClosed (s : State) : (claimToken s).glk.statClosed = s.glk.statClosed := by
  have h := same_of_drop (m := 8691427328) (claimToken_drop s rfl) .switch rfl
  simp only [Block.same] at h; simp only [h]
@[simp] theorem lockstepSe_dev (s : State) : (lockstepSe s).dev = s.dev :=
  same_of_drop (m := 1799684595720) (lockstepSe_drop s rfl) .dev rfl
@[simp] theorem lockstepSe_img (s : State) : (lockstepSe s).img = s.img :=
  same_of_drop (m := 1799684595720) (lockstepSe_drop s rfl) .img rfl
@[simp] theorem lockstepSe_spl (s : State) : (lockstepSe s).spl = s.spl :=
  same_of_drop (m := 1799684595720) (lockstepSe_drop s rfl) .spl rfl
@[simp] theorem lockstepSe_tim (s : State) : (lockstepSe s).tim = s.tim :=
  same_of_drop (m := 1799684595720) (lockstepSe_drop s rfl) .tim rfl
@[simp] theorem lockstepSe_arm_cell (s : State) : (lockstepSe s).arm.cell = s.arm.cell := by
  have h := same_of_drop (m := 1799684595720) (lockstepSe_drop s rfl) .cell rfl
  simp only [Block.same] at h; simp only [h]
@[simp] theorem lockstepSe_arm_changes (s : State) : (lockstepSe s).arm.changes = s.arm.changes := by
  have h := same_of_drop (m := 1799684595720) (lockstepSe_drop s rfl) .cell rfl
  simp only [Block.same] at h; simp only [h]
@[simp] theorem lockstepSe_arm_owner (s : State) : (lockstepSe s).arm.owner = s.arm.owner := by
  have h := same_of_drop (m := 1799684595720) (lockstepSe_drop s rfl) .token rfl
  exact h
@[simp] theorem lockstepSe_arm_bypassed (s : State) : (lockstepSe s).arm.bypassed = s.arm.bypassed := by
  have h := same_of_drop (m := 1799684595720) (lockstepSe_drop s rfl) .bypass rfl
  exact h
@[simp] theorem lockstepSe_pwm (s : State) : (lockstepSe s).pwm = s.pwm :=
  same_of_drop (m := 1799684595720) (lockstepSe_drop s rfl) .pwm rfl
@[simp] theorem lockstepSe_esA (s : State) : (lockstepSe s).esA = s.esA :=
  same_of_drop (m := 1799684595720) (lockstepSe_drop s rfl) .esA rfl
@[simp] theorem lockstepSe_esB (s : State) : (lockstepSe s).esB = s.esB :=
  same_of_drop (m := 1799684595720) (lockstepSe_drop s rfl) .esB rfl
@[simp] theorem lockstepSe_est (s : State) : (lockstepSe s).est = s.est :=
  same_of_drop (m := 1799684595720) (lockstepSe_drop s rfl) .est rfl
@[simp] theorem lockstepSe_dvt (s : State) : (lockstepSe s).dvt = s.dvt :=
  same_of_drop (m := 1799684595720) (lockstepSe_drop s rfl) .dvt rfl
@[simp] theorem lockstepSe_lbus (s : State) : (lockstepSe s).lbus = s.lbus :=
  same_of_drop (m := 1799684595720) (lockstepSe_drop s rfl) .lbus rfl
@[simp] theorem lockstepSe_pwr (s : State) : (lockstepSe s).pwr = s.pwr :=
  same_of_drop (m := 1799684595720) (lockstepSe_drop s rfl) .pwr rfl
@[simp] theorem lockstepSe_sec (s : State) : (lockstepSe s).sec = s.sec :=
  same_of_drop (m := 1799684595720) (lockstepSe_drop s rfl) .sec rfl
@[simp] theorem lockstepSe_glk_fireHold (s : State) : (lockstepSe s).glk.fireHold = s.glk.fireHold := by
  have h := same_of_drop (m := 1799684595720) (lockstepSe_drop s rfl) .switch rfl
  simp only [Block.same] at h; simp only [h]
@[simp] theorem lockstepSe_glk_fireAll (s : State) : (lockstepSe s).glk.fireAll = s.glk.fireAll := by
  have h := same_of_drop (m := 1799684595720) (lockstepSe_drop s rfl) .switch rfl
  simp only [Block.same] at h; simp only [h]
@[simp] theorem lockstepSe_glk_closeAsserted (s : State) : (lockstepSe s).glk.closeAsserted = s.glk.closeAsserted := by
  have h := same_of_drop (m := 1799684595720) (lockstepSe_drop s rfl) .switch rfl
  simp only [Block.same] at h; simp only [h]
@[simp] theorem lockstepSe_glk_closeDue (s : State) : (lockstepSe s).glk.closeDue = s.glk.closeDue := by
  have h := same_of_drop (m := 1799684595720) (lockstepSe_drop s rfl) .switch rfl
  simp only [Block.same] at h; simp only [h]
@[simp] theorem lockstepSe_glk_statClosed (s : State) : (lockstepSe s).glk.statClosed = s.glk.statClosed := by
  have h := same_of_drop (m := 1799684595720) (lockstepSe_drop s rfl) .switch rfl
  simp only [Block.same] at h; simp only [h]
@[simp] theorem lockstepSe_thm_sdHotA (s : State) : (lockstepSe s).thm.sdHotA = s.thm.sdHotA := by
  have h := same_of_drop (m := 1799684595720) (lockstepSe_drop s rfl) .shutdown rfl
  simp only [Block.same] at h; simp only [h]
@[simp] theorem lockstepSe_thm_sdHotB (s : State) : (lockstepSe s).thm.sdHotB = s.thm.sdHotB := by
  have h := same_of_drop (m := 1799684595720) (lockstepSe_drop s rfl) .shutdown rfl
  simp only [Block.same] at h; simp only [h]
@[simp] theorem lockstepSe_thm_sdColdA (s : State) : (lockstepSe s).thm.sdColdA = s.thm.sdColdA := by
  have h := same_of_drop (m := 1799684595720) (lockstepSe_drop s rfl) .shutdown rfl
  simp only [Block.same] at h; simp only [h]
@[simp] theorem lockstepSe_thm_sdColdB (s : State) : (lockstepSe s).thm.sdColdB = s.thm.sdColdB := by
  have h := same_of_drop (m := 1799684595720) (lockstepSe_drop s rfl) .shutdown rfl
  simp only [Block.same] at h; simp only [h]
@[simp] theorem setVCh_dev (s : State) (c : ChainId) (v : Option Nat) : (setVCh s c v).dev = s.dev :=
  same_of_drop (m := 512) (setVCh_drop s c v rfl) .dev rfl
@[simp] theorem setVCh_eng (s : State) (c : ChainId) (v : Option Nat) : (setVCh s c v).eng = s.eng :=
  same_of_drop (m := 512) (setVCh_drop s c v rfl) .eng rfl
@[simp] theorem setVCh_img (s : State) (c : ChainId) (v : Option Nat) : (setVCh s c v).img = s.img :=
  same_of_drop (m := 512) (setVCh_drop s c v rfl) .img rfl
@[simp] theorem setVCh_spl (s : State) (c : ChainId) (v : Option Nat) : (setVCh s c v).spl = s.spl :=
  same_of_drop (m := 512) (setVCh_drop s c v rfl) .spl rfl
@[simp] theorem setVCh_tim (s : State) (c : ChainId) (v : Option Nat) : (setVCh s c v).tim = s.tim :=
  same_of_drop (m := 512) (setVCh_drop s c v rfl) .tim rfl
@[simp] theorem setVCh_arm (s : State) (c : ChainId) (v : Option Nat) : (setVCh s c v).arm = s.arm :=
  same_of_drop (m := 512) (setVCh_drop s c v rfl) .arm rfl
@[simp] theorem setVCh_pwm (s : State) (c : ChainId) (v : Option Nat) : (setVCh s c v).pwm = s.pwm :=
  same_of_drop (m := 512) (setVCh_drop s c v rfl) .pwm rfl
@[simp] theorem setVCh_glk (s : State) (c : ChainId) (v : Option Nat) : (setVCh s c v).glk = s.glk :=
  same_of_drop (m := 512) (setVCh_drop s c v rfl) .glk rfl
@[simp] theorem setVCh_chA (s : State) (c : ChainId) (v : Option Nat) : (setVCh s c v).chA = s.chA :=
  same_of_drop (m := 512) (setVCh_drop s c v rfl) .chA rfl
@[simp] theorem setVCh_chB (s : State) (c : ChainId) (v : Option Nat) : (setVCh s c v).chB = s.chB :=
  same_of_drop (m := 512) (setVCh_drop s c v rfl) .chB rfl
@[simp] theorem setVCh_snA (s : State) (c : ChainId) (v : Option Nat) : (setVCh s c v).snA = s.snA :=
  same_of_drop (m := 512) (setVCh_drop s c v rfl) .snA rfl
@[simp] theorem setVCh_snB (s : State) (c : ChainId) (v : Option Nat) : (setVCh s c v).snB = s.snB :=
  same_of_drop (m := 512) (setVCh_drop s c v rfl) .snB rfl
@[simp] theorem setVCh_esA (s : State) (c : ChainId) (v : Option Nat) : (setVCh s c v).esA = s.esA :=
  same_of_drop (m := 512) (setVCh_drop s c v rfl) .esA rfl
@[simp] theorem setVCh_esB (s : State) (c : ChainId) (v : Option Nat) : (setVCh s c v).esB = s.esB :=
  same_of_drop (m := 512) (setVCh_drop s c v rfl) .esB rfl
@[simp] theorem setVCh_est (s : State) (c : ChainId) (v : Option Nat) : (setVCh s c v).est = s.est :=
  same_of_drop (m := 512) (setVCh_drop s c v rfl) .est rfl
@[simp] theorem setVCh_thm (s : State) (c : ChainId) (v : Option Nat) : (setVCh s c v).thm = s.thm :=
  same_of_drop (m := 512) (setVCh_drop s c v rfl) .thm rfl
@[simp] theorem setVCh_prt (s : State) (c : ChainId) (v : Option Nat) : (setVCh s c v).prt = s.prt :=
  same_of_drop (m := 512) (setVCh_drop s c v rfl) .prt rfl
@[simp] theorem setVCh_dvt (s : State) (c : ChainId) (v : Option Nat) : (setVCh s c v).dvt = s.dvt :=
  same_of_drop (m := 512) (setVCh_drop s c v rfl) .dvt rfl
@[simp] theorem setVCh_lsw (s : State) (c : ChainId) (v : Option Nat) : (setVCh s c v).lsw = s.lsw :=
  same_of_drop (m := 512) (setVCh_drop s c v rfl) .lsw rfl
@[simp] theorem setVCh_lbus (s : State) (c : ChainId) (v : Option Nat) : (setVCh s c v).lbus = s.lbus :=
  same_of_drop (m := 512) (setVCh_drop s c v rfl) .lbus rfl
@[simp] theorem setVCh_pwr (s : State) (c : ChainId) (v : Option Nat) : (setVCh s c v).pwr = s.pwr :=
  same_of_drop (m := 512) (setVCh_drop s c v rfl) .pwr rfl
@[simp] theorem setVCh_sec (s : State) (c : ChainId) (v : Option Nat) : (setVCh s c v).sec = s.sec :=
  same_of_drop (m := 512) (setVCh_drop s c v rfl) .sec rfl
@[simp] theorem setVCh_mnt (s : State) (c : ChainId) (v : Option Nat) : (setVCh s c v).mnt = s.mnt :=
  same_of_drop (m := 512) (setVCh_drop s c v rfl) .mnt rfl
@[simp] theorem setVCh_evt (s : State) (c : ChainId) (v : Option Nat) : (setVCh s c v).evt = s.evt :=
  same_of_drop (m := 512) (setVCh_drop s c v rfl) .evt rfl
@[simp] theorem setVCh_outbox (s : State) (c : ChainId) (v : Option Nat) : (setVCh s c v).outbox = s.outbox :=
  same_of_drop (m := 512) (setVCh_drop s c v rfl) .outbox rfl
@[simp] theorem refreshSpan_dev (s : State) (c : ChainId) : (refreshSpan s c).dev = s.dev :=
  same_of_drop (m := 8590131200) (refreshSpan_drop s c rfl) .dev rfl
@[simp] theorem refreshSpan_eng (s : State) (c : ChainId) : (refreshSpan s c).eng = s.eng :=
  same_of_drop (m := 8590131200) (refreshSpan_drop s c rfl) .eng rfl
@[simp] theorem refreshSpan_img (s : State) (c : ChainId) : (refreshSpan s c).img = s.img :=
  same_of_drop (m := 8590131200) (refreshSpan_drop s c rfl) .img rfl
@[simp] theorem refreshSpan_spl (s : State) (c : ChainId) : (refreshSpan s c).spl = s.spl :=
  same_of_drop (m := 8590131200) (refreshSpan_drop s c rfl) .spl rfl
@[simp] theorem refreshSpan_tim (s : State) (c : ChainId) : (refreshSpan s c).tim = s.tim :=
  same_of_drop (m := 8590131200) (refreshSpan_drop s c rfl) .tim rfl
@[simp] theorem refreshSpan_arm (s : State) (c : ChainId) : (refreshSpan s c).arm = s.arm :=
  same_of_drop (m := 8590131200) (refreshSpan_drop s c rfl) .arm rfl
@[simp] theorem refreshSpan_pwm (s : State) (c : ChainId) : (refreshSpan s c).pwm = s.pwm :=
  same_of_drop (m := 8590131200) (refreshSpan_drop s c rfl) .pwm rfl
@[simp] theorem refreshSpan_glk (s : State) (c : ChainId) : (refreshSpan s c).glk = s.glk :=
  same_of_drop (m := 8590131200) (refreshSpan_drop s c rfl) .glk rfl
@[simp] theorem refreshSpan_snA (s : State) (c : ChainId) : (refreshSpan s c).snA = s.snA :=
  same_of_drop (m := 8590131200) (refreshSpan_drop s c rfl) .snA rfl
@[simp] theorem refreshSpan_snB (s : State) (c : ChainId) : (refreshSpan s c).snB = s.snB :=
  same_of_drop (m := 8590131200) (refreshSpan_drop s c rfl) .snB rfl
@[simp] theorem refreshSpan_esA (s : State) (c : ChainId) : (refreshSpan s c).esA = s.esA :=
  same_of_drop (m := 8590131200) (refreshSpan_drop s c rfl) .esA rfl
@[simp] theorem refreshSpan_esB (s : State) (c : ChainId) : (refreshSpan s c).esB = s.esB :=
  same_of_drop (m := 8590131200) (refreshSpan_drop s c rfl) .esB rfl
@[simp] theorem refreshSpan_est (s : State) (c : ChainId) : (refreshSpan s c).est = s.est :=
  same_of_drop (m := 8590131200) (refreshSpan_drop s c rfl) .est rfl
@[simp] theorem refreshSpan_thm (s : State) (c : ChainId) : (refreshSpan s c).thm = s.thm :=
  same_of_drop (m := 8590131200) (refreshSpan_drop s c rfl) .thm rfl
@[simp] theorem refreshSpan_prt (s : State) (c : ChainId) : (refreshSpan s c).prt = s.prt :=
  same_of_drop (m := 8590131200) (refreshSpan_drop s c rfl) .prt rfl
@[simp] theorem refreshSpan_dvt (s : State) (c : ChainId) : (refreshSpan s c).dvt = s.dvt :=
  same_of_drop (m := 8590131200) (refreshSpan_drop s c rfl) .dvt rfl
@[simp] theorem refreshSpan_lsw (s : State) (c : ChainId) : (refreshSpan s c).lsw = s.lsw :=
  same_of_drop (m := 8590131200) (refreshSpan_drop s c rfl) .lsw rfl
@[simp] theorem refreshSpan_lbus (s : State) (c : ChainId) : (refreshSpan s c).lbus = s.lbus :=
  same_of_drop (m := 8590131200) (refreshSpan_drop s c rfl) .lbus rfl
@[simp] theorem refreshSpan_pwr (s : State) (c : ChainId) : (refreshSpan s c).pwr = s.pwr :=
  same_of_drop (m := 8590131200) (refreshSpan_drop s c rfl) .pwr rfl
@[simp] theorem refreshSpan_sec (s : State) (c : ChainId) : (refreshSpan s c).sec = s.sec :=
  same_of_drop (m := 8590131200) (refreshSpan_drop s c rfl) .sec rfl
@[simp] theorem refreshSpan_mnt (s : State) (c : ChainId) : (refreshSpan s c).mnt = s.mnt :=
  same_of_drop (m := 8590131200) (refreshSpan_drop s c rfl) .mnt rfl
@[simp] theorem refreshSpan_outbox (s : State) (c : ChainId) : (refreshSpan s c).outbox = s.outbox :=
  same_of_drop (m := 8590131200) (refreshSpan_drop s c rfl) .outbox rfl
@[simp] theorem sendEntry_dev (c : ChainId) (t : Stair) (b : Nat) (s : State) (m : Fin 32) : (sendEntry c t b s m).dev = s.dev :=
  same_of_drop (m := 983040) (sendEntry_drop c t b s m rfl) .dev rfl
@[simp] theorem sendEntry_eng (c : ChainId) (t : Stair) (b : Nat) (s : State) (m : Fin 32) : (sendEntry c t b s m).eng = s.eng :=
  same_of_drop (m := 983040) (sendEntry_drop c t b s m rfl) .eng rfl
@[simp] theorem sendEntry_img (c : ChainId) (t : Stair) (b : Nat) (s : State) (m : Fin 32) : (sendEntry c t b s m).img = s.img :=
  same_of_drop (m := 983040) (sendEntry_drop c t b s m rfl) .img rfl
@[simp] theorem sendEntry_spl (c : ChainId) (t : Stair) (b : Nat) (s : State) (m : Fin 32) : (sendEntry c t b s m).spl = s.spl :=
  same_of_drop (m := 983040) (sendEntry_drop c t b s m rfl) .spl rfl
@[simp] theorem sendEntry_tim (c : ChainId) (t : Stair) (b : Nat) (s : State) (m : Fin 32) : (sendEntry c t b s m).tim = s.tim :=
  same_of_drop (m := 983040) (sendEntry_drop c t b s m rfl) .tim rfl
@[simp] theorem sendEntry_arm (c : ChainId) (t : Stair) (b : Nat) (s : State) (m : Fin 32) : (sendEntry c t b s m).arm = s.arm :=
  same_of_drop (m := 983040) (sendEntry_drop c t b s m rfl) .arm rfl
@[simp] theorem sendEntry_pwm (c : ChainId) (t : Stair) (b : Nat) (s : State) (m : Fin 32) : (sendEntry c t b s m).pwm = s.pwm :=
  same_of_drop (m := 983040) (sendEntry_drop c t b s m rfl) .pwm rfl
@[simp] theorem sendEntry_glk (c : ChainId) (t : Stair) (b : Nat) (s : State) (m : Fin 32) : (sendEntry c t b s m).glk = s.glk :=
  same_of_drop (m := 983040) (sendEntry_drop c t b s m rfl) .glk rfl
@[simp] theorem sendEntry_esA (c : ChainId) (t : Stair) (b : Nat) (s : State) (m : Fin 32) : (sendEntry c t b s m).esA = s.esA :=
  same_of_drop (m := 983040) (sendEntry_drop c t b s m rfl) .esA rfl
@[simp] theorem sendEntry_esB (c : ChainId) (t : Stair) (b : Nat) (s : State) (m : Fin 32) : (sendEntry c t b s m).esB = s.esB :=
  same_of_drop (m := 983040) (sendEntry_drop c t b s m rfl) .esB rfl
@[simp] theorem sendEntry_est (c : ChainId) (t : Stair) (b : Nat) (s : State) (m : Fin 32) : (sendEntry c t b s m).est = s.est :=
  same_of_drop (m := 983040) (sendEntry_drop c t b s m rfl) .est rfl
@[simp] theorem sendEntry_thm (c : ChainId) (t : Stair) (b : Nat) (s : State) (m : Fin 32) : (sendEntry c t b s m).thm = s.thm :=
  same_of_drop (m := 983040) (sendEntry_drop c t b s m rfl) .thm rfl
@[simp] theorem sendEntry_prt (c : ChainId) (t : Stair) (b : Nat) (s : State) (m : Fin 32) : (sendEntry c t b s m).prt = s.prt :=
  same_of_drop (m := 983040) (sendEntry_drop c t b s m rfl) .prt rfl
@[simp] theorem sendEntry_dvt (c : ChainId) (t : Stair) (b : Nat) (s : State) (m : Fin 32) : (sendEntry c t b s m).dvt = s.dvt :=
  same_of_drop (m := 983040) (sendEntry_drop c t b s m rfl) .dvt rfl
@[simp] theorem sendEntry_lsw (c : ChainId) (t : Stair) (b : Nat) (s : State) (m : Fin 32) : (sendEntry c t b s m).lsw = s.lsw :=
  same_of_drop (m := 983040) (sendEntry_drop c t b s m rfl) .lsw rfl
@[simp] theorem sendEntry_lbus (c : ChainId) (t : Stair) (b : Nat) (s : State) (m : Fin 32) : (sendEntry c t b s m).lbus = s.lbus :=
  same_of_drop (m := 983040) (sendEntry_drop c t b s m rfl) .lbus rfl
@[simp] theorem sendEntry_pwr (c : ChainId) (t : Stair) (b : Nat) (s : State) (m : Fin 32) : (sendEntry c t b s m).pwr = s.pwr :=
  same_of_drop (m := 983040) (sendEntry_drop c t b s m rfl) .pwr rfl
@[simp] theorem sendEntry_sec (c : ChainId) (t : Stair) (b : Nat) (s : State) (m : Fin 32) : (sendEntry c t b s m).sec = s.sec :=
  same_of_drop (m := 983040) (sendEntry_drop c t b s m rfl) .sec rfl
@[simp] theorem sendEntry_mnt (c : ChainId) (t : Stair) (b : Nat) (s : State) (m : Fin 32) : (sendEntry c t b s m).mnt = s.mnt :=
  same_of_drop (m := 983040) (sendEntry_drop c t b s m rfl) .mnt rfl
@[simp] theorem sendEntry_evt (c : ChainId) (t : Stair) (b : Nat) (s : State) (m : Fin 32) : (sendEntry c t b s m).evt = s.evt :=
  same_of_drop (m := 983040) (sendEntry_drop c t b s m rfl) .evt rfl
@[simp] theorem sendEntry_outbox (c : ChainId) (t : Stair) (b : Nat) (s : State) (m : Fin 32) : (sendEntry c t b s m).outbox = s.outbox :=
  same_of_drop (m := 983040) (sendEntry_drop c t b s m rfl) .outbox rfl
@[simp] theorem sendMsf_dev (s : State) (c : ChainId) : (sendMsf s c).dev = s.dev :=
  same_of_drop (m := 137439936512) (sendMsf_drop s c rfl) .dev rfl
@[simp] theorem sendMsf_eng (s : State) (c : ChainId) : (sendMsf s c).eng = s.eng :=
  same_of_drop (m := 137439936512) (sendMsf_drop s c rfl) .eng rfl
@[simp] theorem sendMsf_img (s : State) (c : ChainId) : (sendMsf s c).img = s.img :=
  same_of_drop (m := 137439936512) (sendMsf_drop s c rfl) .img rfl
@[simp] theorem sendMsf_spl (s : State) (c : ChainId) : (sendMsf s c).spl = s.spl :=
  same_of_drop (m := 137439936512) (sendMsf_drop s c rfl) .spl rfl
@[simp] theorem sendMsf_tim (s : State) (c : ChainId) : (sendMsf s c).tim = s.tim :=
  same_of_drop (m := 137439936512) (sendMsf_drop s c rfl) .tim rfl
@[simp] theorem sendMsf_arm (s : State) (c : ChainId) : (sendMsf s c).arm = s.arm :=
  same_of_drop (m := 137439936512) (sendMsf_drop s c rfl) .arm rfl
@[simp] theorem sendMsf_pwm (s : State) (c : ChainId) : (sendMsf s c).pwm = s.pwm :=
  same_of_drop (m := 137439936512) (sendMsf_drop s c rfl) .pwm rfl
@[simp] theorem sendMsf_glk (s : State) (c : ChainId) : (sendMsf s c).glk = s.glk :=
  same_of_drop (m := 137439936512) (sendMsf_drop s c rfl) .glk rfl
@[simp] theorem sendMsf_esA (s : State) (c : ChainId) : (sendMsf s c).esA = s.esA :=
  same_of_drop (m := 137439936512) (sendMsf_drop s c rfl) .esA rfl
@[simp] theorem sendMsf_esB (s : State) (c : ChainId) : (sendMsf s c).esB = s.esB :=
  same_of_drop (m := 137439936512) (sendMsf_drop s c rfl) .esB rfl
@[simp] theorem sendMsf_est (s : State) (c : ChainId) : (sendMsf s c).est = s.est :=
  same_of_drop (m := 137439936512) (sendMsf_drop s c rfl) .est rfl
@[simp] theorem sendMsf_thm (s : State) (c : ChainId) : (sendMsf s c).thm = s.thm :=
  same_of_drop (m := 137439936512) (sendMsf_drop s c rfl) .thm rfl
@[simp] theorem sendMsf_prt (s : State) (c : ChainId) : (sendMsf s c).prt = s.prt :=
  same_of_drop (m := 137439936512) (sendMsf_drop s c rfl) .prt rfl
@[simp] theorem sendMsf_dvt (s : State) (c : ChainId) : (sendMsf s c).dvt = s.dvt :=
  same_of_drop (m := 137439936512) (sendMsf_drop s c rfl) .dvt rfl
@[simp] theorem sendMsf_lsw (s : State) (c : ChainId) : (sendMsf s c).lsw = s.lsw :=
  same_of_drop (m := 137439936512) (sendMsf_drop s c rfl) .lsw rfl
@[simp] theorem sendMsf_lbus (s : State) (c : ChainId) : (sendMsf s c).lbus = s.lbus :=
  same_of_drop (m := 137439936512) (sendMsf_drop s c rfl) .lbus rfl
@[simp] theorem sendMsf_pwr (s : State) (c : ChainId) : (sendMsf s c).pwr = s.pwr :=
  same_of_drop (m := 137439936512) (sendMsf_drop s c rfl) .pwr rfl
@[simp] theorem sendMsf_sec (s : State) (c : ChainId) : (sendMsf s c).sec = s.sec :=
  same_of_drop (m := 137439936512) (sendMsf_drop s c rfl) .sec rfl
@[simp] theorem sendMsf_mnt (s : State) (c : ChainId) : (sendMsf s c).mnt = s.mnt :=
  same_of_drop (m := 137439936512) (sendMsf_drop s c rfl) .mnt rfl
@[simp] theorem sendMsf_evt (s : State) (c : ChainId) : (sendMsf s c).evt = s.evt :=
  same_of_drop (m := 137439936512) (sendMsf_drop s c rfl) .evt rfl
@[simp] theorem resortChain_dev (s : State) (c : ChainId) : (resortChain s c).dev = s.dev :=
  same_of_drop (m := 68719673344) (resortChain_drop s c rfl) .dev rfl
@[simp] theorem resortChain_eng (s : State) (c : ChainId) : (resortChain s c).eng = s.eng :=
  same_of_drop (m := 68719673344) (resortChain_drop s c rfl) .eng rfl
@[simp] theorem resortChain_img (s : State) (c : ChainId) : (resortChain s c).img = s.img :=
  same_of_drop (m := 68719673344) (resortChain_drop s c rfl) .img rfl
@[simp] theorem resortChain_spl (s : State) (c : ChainId) : (resortChain s c).spl = s.spl :=
  same_of_drop (m := 68719673344) (resortChain_drop s c rfl) .spl rfl
@[simp] theorem resortChain_tim (s : State) (c : ChainId) : (resortChain s c).tim = s.tim :=
  same_of_drop (m := 68719673344) (resortChain_drop s c rfl) .tim rfl
@[simp] theorem resortChain_arm (s : State) (c : ChainId) : (resortChain s c).arm = s.arm :=
  same_of_drop (m := 68719673344) (resortChain_drop s c rfl) .arm rfl
@[simp] theorem resortChain_pwm (s : State) (c : ChainId) : (resortChain s c).pwm = s.pwm :=
  same_of_drop (m := 68719673344) (resortChain_drop s c rfl) .pwm rfl
@[simp] theorem resortChain_glk (s : State) (c : ChainId) : (resortChain s c).glk = s.glk :=
  same_of_drop (m := 68719673344) (resortChain_drop s c rfl) .glk rfl
@[simp] theorem resortChain_snA (s : State) (c : ChainId) : (resortChain s c).snA = s.snA :=
  same_of_drop (m := 68719673344) (resortChain_drop s c rfl) .snA rfl
@[simp] theorem resortChain_snB (s : State) (c : ChainId) : (resortChain s c).snB = s.snB :=
  same_of_drop (m := 68719673344) (resortChain_drop s c rfl) .snB rfl
@[simp] theorem resortChain_esA (s : State) (c : ChainId) : (resortChain s c).esA = s.esA :=
  same_of_drop (m := 68719673344) (resortChain_drop s c rfl) .esA rfl
@[simp] theorem resortChain_esB (s : State) (c : ChainId) : (resortChain s c).esB = s.esB :=
  same_of_drop (m := 68719673344) (resortChain_drop s c rfl) .esB rfl
@[simp] theorem resortChain_est (s : State) (c : ChainId) : (resortChain s c).est = s.est :=
  same_of_drop (m := 68719673344) (resortChain_drop s c rfl) .est rfl
@[simp] theorem resortChain_thm (s : State) (c : ChainId) : (resortChain s c).thm = s.thm :=
  same_of_drop (m := 68719673344) (resortChain_drop s c rfl) .thm rfl
@[simp] theorem resortChain_prt (s : State) (c : ChainId) : (resortChain s c).prt = s.prt :=
  same_of_drop (m := 68719673344) (resortChain_drop s c rfl) .prt rfl
@[simp] theorem resortChain_dvt (s : State) (c : ChainId) : (resortChain s c).dvt = s.dvt :=
  same_of_drop (m := 68719673344) (resortChain_drop s c rfl) .dvt rfl
@[simp] theorem resortChain_lsw (s : State) (c : ChainId) : (resortChain s c).lsw = s.lsw :=
  same_of_drop (m := 68719673344) (resortChain_drop s c rfl) .lsw rfl
@[simp] theorem resortChain_lbus (s : State) (c : ChainId) : (resortChain s c).lbus = s.lbus :=
  same_of_drop (m := 68719673344) (resortChain_drop s c rfl) .lbus rfl
@[simp] theorem resortChain_pwr (s : State) (c : ChainId) : (resortChain s c).pwr = s.pwr :=
  same_of_drop (m := 68719673344) (resortChain_drop s c rfl) .pwr rfl
@[simp] theorem resortChain_sec (s : State) (c : ChainId) : (resortChain s c).sec = s.sec :=
  same_of_drop (m := 68719673344) (resortChain_drop s c rfl) .sec rfl
@[simp] theorem resortChain_mnt (s : State) (c : ChainId) : (resortChain s c).mnt = s.mnt :=
  same_of_drop (m := 68719673344) (resortChain_drop s c rfl) .mnt rfl
@[simp] theorem resortChain_evt (s : State) (c : ChainId) : (resortChain s c).evt = s.evt :=
  same_of_drop (m := 68719673344) (resortChain_drop s c rfl) .evt rfl
@[simp] theorem resortChain_outbox (s : State) (c : ChainId) : (resortChain s c).outbox = s.outbox :=
  same_of_drop (m := 68719673344) (resortChain_drop s c rfl) .outbox rfl
@[simp] theorem refreshVeneer_dev (s : State) (c : ChainId) : (refreshVeneer s c).dev = s.dev :=
  same_of_drop (m := 3145728) (refreshVeneer_drop s c rfl) .dev rfl
@[simp] theorem refreshVeneer_eng (s : State) (c : ChainId) : (refreshVeneer s c).eng = s.eng :=
  same_of_drop (m := 3145728) (refreshVeneer_drop s c rfl) .eng rfl
@[simp] theorem refreshVeneer_img (s : State) (c : ChainId) : (refreshVeneer s c).img = s.img :=
  same_of_drop (m := 3145728) (refreshVeneer_drop s c rfl) .img rfl
@[simp] theorem refreshVeneer_spl (s : State) (c : ChainId) : (refreshVeneer s c).spl = s.spl :=
  same_of_drop (m := 3145728) (refreshVeneer_drop s c rfl) .spl rfl
@[simp] theorem refreshVeneer_tim (s : State) (c : ChainId) : (refreshVeneer s c).tim = s.tim :=
  same_of_drop (m := 3145728) (refreshVeneer_drop s c rfl) .tim rfl
@[simp] theorem refreshVeneer_arm (s : State) (c : ChainId) : (refreshVeneer s c).arm = s.arm :=
  same_of_drop (m := 3145728) (refreshVeneer_drop s c rfl) .arm rfl
@[simp] theorem refreshVeneer_pwm (s : State) (c : ChainId) : (refreshVeneer s c).pwm = s.pwm :=
  same_of_drop (m := 3145728) (refreshVeneer_drop s c rfl) .pwm rfl
@[simp] theorem refreshVeneer_glk (s : State) (c : ChainId) : (refreshVeneer s c).glk = s.glk :=
  same_of_drop (m := 3145728) (refreshVeneer_drop s c rfl) .glk rfl
@[simp] theorem refreshVeneer_chA (s : State) (c : ChainId) : (refreshVeneer s c).chA = s.chA :=
  same_of_drop (m := 3145728) (refreshVeneer_drop s c rfl) .chA rfl
@[simp] theorem refreshVeneer_chB (s : State) (c : ChainId) : (refreshVeneer s c).chB = s.chB :=
  same_of_drop (m := 3145728) (refreshVeneer_drop s c rfl) .chB rfl
@[simp] theorem refreshVeneer_snA (s : State) (c : ChainId) : (refreshVeneer s c).snA = s.snA :=
  same_of_drop (m := 3145728) (refreshVeneer_drop s c rfl) .snA rfl
@[simp] theorem refreshVeneer_snB (s : State) (c : ChainId) : (refreshVeneer s c).snB = s.snB :=
  same_of_drop (m := 3145728) (refreshVeneer_drop s c rfl) .snB rfl
@[simp] theorem refreshVeneer_est (s : State) (c : ChainId) : (refreshVeneer s c).est = s.est :=
  same_of_drop (m := 3145728) (refreshVeneer_drop s c rfl) .est rfl
@[simp] theorem refreshVeneer_thm (s : State) (c : ChainId) : (refreshVeneer s c).thm = s.thm :=
  same_of_drop (m := 3145728) (refreshVeneer_drop s c rfl) .thm rfl
@[simp] theorem refreshVeneer_prt (s : State) (c : ChainId) : (refreshVeneer s c).prt = s.prt :=
  same_of_drop (m := 3145728) (refreshVeneer_drop s c rfl) .prt rfl
@[simp] theorem refreshVeneer_dvt (s : State) (c : ChainId) : (refreshVeneer s c).dvt = s.dvt :=
  same_of_drop (m := 3145728) (refreshVeneer_drop s c rfl) .dvt rfl
@[simp] theorem refreshVeneer_lsw (s : State) (c : ChainId) : (refreshVeneer s c).lsw = s.lsw :=
  same_of_drop (m := 3145728) (refreshVeneer_drop s c rfl) .lsw rfl
@[simp] theorem refreshVeneer_lbus (s : State) (c : ChainId) : (refreshVeneer s c).lbus = s.lbus :=
  same_of_drop (m := 3145728) (refreshVeneer_drop s c rfl) .lbus rfl
@[simp] theorem refreshVeneer_pwr (s : State) (c : ChainId) : (refreshVeneer s c).pwr = s.pwr :=
  same_of_drop (m := 3145728) (refreshVeneer_drop s c rfl) .pwr rfl
@[simp] theorem refreshVeneer_sec (s : State) (c : ChainId) : (refreshVeneer s c).sec = s.sec :=
  same_of_drop (m := 3145728) (refreshVeneer_drop s c rfl) .sec rfl
@[simp] theorem refreshVeneer_mnt (s : State) (c : ChainId) : (refreshVeneer s c).mnt = s.mnt :=
  same_of_drop (m := 3145728) (refreshVeneer_drop s c rfl) .mnt rfl
@[simp] theorem refreshVeneer_evt (s : State) (c : ChainId) : (refreshVeneer s c).evt = s.evt :=
  same_of_drop (m := 3145728) (refreshVeneer_drop s c rfl) .evt rfl
@[simp] theorem refreshVeneer_outbox (s : State) (c : ChainId) : (refreshVeneer s c).outbox = s.outbox :=
  same_of_drop (m := 3145728) (refreshVeneer_drop s c rfl) .outbox rfl
@[simp] theorem countMissing_dev (s : State) (c : ChainId) : (countMissing s c).dev = s.dev :=
  same_of_drop (m := 786432) (countMissing_drop s c rfl) .dev rfl
@[simp] theorem countMissing_eng (s : State) (c : ChainId) : (countMissing s c).eng = s.eng :=
  same_of_drop (m := 786432) (countMissing_drop s c rfl) .eng rfl
@[simp] theorem countMissing_img (s : State) (c : ChainId) : (countMissing s c).img = s.img :=
  same_of_drop (m := 786432) (countMissing_drop s c rfl) .img rfl
@[simp] theorem countMissing_spl (s : State) (c : ChainId) : (countMissing s c).spl = s.spl :=
  same_of_drop (m := 786432) (countMissing_drop s c rfl) .spl rfl
@[simp] theorem countMissing_tim (s : State) (c : ChainId) : (countMissing s c).tim = s.tim :=
  same_of_drop (m := 786432) (countMissing_drop s c rfl) .tim rfl
@[simp] theorem countMissing_arm (s : State) (c : ChainId) : (countMissing s c).arm = s.arm :=
  same_of_drop (m := 786432) (countMissing_drop s c rfl) .arm rfl
@[simp] theorem countMissing_pwm (s : State) (c : ChainId) : (countMissing s c).pwm = s.pwm :=
  same_of_drop (m := 786432) (countMissing_drop s c rfl) .pwm rfl
@[simp] theorem countMissing_glk (s : State) (c : ChainId) : (countMissing s c).glk = s.glk :=
  same_of_drop (m := 786432) (countMissing_drop s c rfl) .glk rfl
@[simp] theorem countMissing_chA (s : State) (c : ChainId) : (countMissing s c).chA = s.chA :=
  same_of_drop (m := 786432) (countMissing_drop s c rfl) .chA rfl
@[simp] theorem countMissing_chB (s : State) (c : ChainId) : (countMissing s c).chB = s.chB :=
  same_of_drop (m := 786432) (countMissing_drop s c rfl) .chB rfl
@[simp] theorem countMissing_esA (s : State) (c : ChainId) : (countMissing s c).esA = s.esA :=
  same_of_drop (m := 786432) (countMissing_drop s c rfl) .esA rfl
@[simp] theorem countMissing_esB (s : State) (c : ChainId) : (countMissing s c).esB = s.esB :=
  same_of_drop (m := 786432) (countMissing_drop s c rfl) .esB rfl
@[simp] theorem countMissing_est (s : State) (c : ChainId) : (countMissing s c).est = s.est :=
  same_of_drop (m := 786432) (countMissing_drop s c rfl) .est rfl
@[simp] theorem countMissing_thm (s : State) (c : ChainId) : (countMissing s c).thm = s.thm :=
  same_of_drop (m := 786432) (countMissing_drop s c rfl) .thm rfl
@[simp] theorem countMissing_prt (s : State) (c : ChainId) : (countMissing s c).prt = s.prt :=
  same_of_drop (m := 786432) (countMissing_drop s c rfl) .prt rfl
@[simp] theorem countMissing_dvt (s : State) (c : ChainId) : (countMissing s c).dvt = s.dvt :=
  same_of_drop (m := 786432) (countMissing_drop s c rfl) .dvt rfl
@[simp] theorem countMissing_lsw (s : State) (c : ChainId) : (countMissing s c).lsw = s.lsw :=
  same_of_drop (m := 786432) (countMissing_drop s c rfl) .lsw rfl
@[simp] theorem countMissing_lbus (s : State) (c : ChainId) : (countMissing s c).lbus = s.lbus :=
  same_of_drop (m := 786432) (countMissing_drop s c rfl) .lbus rfl
@[simp] theorem countMissing_pwr (s : State) (c : ChainId) : (countMissing s c).pwr = s.pwr :=
  same_of_drop (m := 786432) (countMissing_drop s c rfl) .pwr rfl
@[simp] theorem countMissing_sec (s : State) (c : ChainId) : (countMissing s c).sec = s.sec :=
  same_of_drop (m := 786432) (countMissing_drop s c rfl) .sec rfl
@[simp] theorem countMissing_mnt (s : State) (c : ChainId) : (countMissing s c).mnt = s.mnt :=
  same_of_drop (m := 786432) (countMissing_drop s c rfl) .mnt rfl
@[simp] theorem countMissing_evt (s : State) (c : ChainId) : (countMissing s c).evt = s.evt :=
  same_of_drop (m := 786432) (countMissing_drop s c rfl) .evt rfl
@[simp] theorem countMissing_outbox (s : State) (c : ChainId) : (countMissing s c).outbox = s.outbox :=
  same_of_drop (m := 786432) (countMissing_drop s c rfl) .outbox rfl
@[simp] theorem enterRun_dev (s : State) (c : ChainId) : (enterRun s c).dev = s.dev :=
  same_of_drop (m := 196608) (enterRun_drop s c rfl) .dev rfl
@[simp] theorem enterRun_eng (s : State) (c : ChainId) : (enterRun s c).eng = s.eng :=
  same_of_drop (m := 196608) (enterRun_drop s c rfl) .eng rfl
@[simp] theorem enterRun_img (s : State) (c : ChainId) : (enterRun s c).img = s.img :=
  same_of_drop (m := 196608) (enterRun_drop s c rfl) .img rfl
@[simp] theorem enterRun_spl (s : State) (c : ChainId) : (enterRun s c).spl = s.spl :=
  same_of_drop (m := 196608) (enterRun_drop s c rfl) .spl rfl
@[simp] theorem enterRun_tim (s : State) (c : ChainId) : (enterRun s c).tim = s.tim :=
  same_of_drop (m := 196608) (enterRun_drop s c rfl) .tim rfl
@[simp] theorem enterRun_arm (s : State) (c : ChainId) : (enterRun s c).arm = s.arm :=
  same_of_drop (m := 196608) (enterRun_drop s c rfl) .arm rfl
@[simp] theorem enterRun_pwm (s : State) (c : ChainId) : (enterRun s c).pwm = s.pwm :=
  same_of_drop (m := 196608) (enterRun_drop s c rfl) .pwm rfl
@[simp] theorem enterRun_glk (s : State) (c : ChainId) : (enterRun s c).glk = s.glk :=
  same_of_drop (m := 196608) (enterRun_drop s c rfl) .glk rfl
@[simp] theorem enterRun_snA (s : State) (c : ChainId) : (enterRun s c).snA = s.snA :=
  same_of_drop (m := 196608) (enterRun_drop s c rfl) .snA rfl
@[simp] theorem enterRun_snB (s : State) (c : ChainId) : (enterRun s c).snB = s.snB :=
  same_of_drop (m := 196608) (enterRun_drop s c rfl) .snB rfl
@[simp] theorem enterRun_esA (s : State) (c : ChainId) : (enterRun s c).esA = s.esA :=
  same_of_drop (m := 196608) (enterRun_drop s c rfl) .esA rfl
@[simp] theorem enterRun_esB (s : State) (c : ChainId) : (enterRun s c).esB = s.esB :=
  same_of_drop (m := 196608) (enterRun_drop s c rfl) .esB rfl
@[simp] theorem enterRun_est (s : State) (c : ChainId) : (enterRun s c).est = s.est :=
  same_of_drop (m := 196608) (enterRun_drop s c rfl) .est rfl
@[simp] theorem enterRun_thm (s : State) (c : ChainId) : (enterRun s c).thm = s.thm :=
  same_of_drop (m := 196608) (enterRun_drop s c rfl) .thm rfl
@[simp] theorem enterRun_prt (s : State) (c : ChainId) : (enterRun s c).prt = s.prt :=
  same_of_drop (m := 196608) (enterRun_drop s c rfl) .prt rfl
@[simp] theorem enterRun_dvt (s : State) (c : ChainId) : (enterRun s c).dvt = s.dvt :=
  same_of_drop (m := 196608) (enterRun_drop s c rfl) .dvt rfl
@[simp] theorem enterRun_lsw (s : State) (c : ChainId) : (enterRun s c).lsw = s.lsw :=
  same_of_drop (m := 196608) (enterRun_drop s c rfl) .lsw rfl
@[simp] theorem enterRun_lbus (s : State) (c : ChainId) : (enterRun s c).lbus = s.lbus :=
  same_of_drop (m := 196608) (enterRun_drop s c rfl) .lbus rfl
@[simp] theorem enterRun_pwr (s : State) (c : ChainId) : (enterRun s c).pwr = s.pwr :=
  same_of_drop (m := 196608) (enterRun_drop s c rfl) .pwr rfl
@[simp] theorem enterRun_sec (s : State) (c : ChainId) : (enterRun s c).sec = s.sec :=
  same_of_drop (m := 196608) (enterRun_drop s c rfl) .sec rfl
@[simp] theorem enterRun_mnt (s : State) (c : ChainId) : (enterRun s c).mnt = s.mnt :=
  same_of_drop (m := 196608) (enterRun_drop s c rfl) .mnt rfl
@[simp] theorem enterRun_evt (s : State) (c : ChainId) : (enterRun s c).evt = s.evt :=
  same_of_drop (m := 196608) (enterRun_drop s c rfl) .evt rfl
@[simp] theorem enterRun_outbox (s : State) (c : ChainId) : (enterRun s c).outbox = s.outbox :=
  same_of_drop (m := 196608) (enterRun_drop s c rfl) .outbox rfl
@[simp] theorem stationZero_dev (s : State) (c : ChainId) (opens : Bool) : (stationZero s c opens).dev = s.dev :=
  same_of_drop (m := 12960628736) (stationZero_drop s c opens rfl) .dev rfl
@[simp] theorem stationZero_eng (s : State) (c : ChainId) (opens : Bool) : (stationZero s c opens).eng = s.eng :=
  same_of_drop (m := 12960628736) (stationZero_drop s c opens rfl) .eng rfl
@[simp] theorem stationZero_img (s : State) (c : ChainId) (opens : Bool) : (stationZero s c opens).img = s.img :=
  same_of_drop (m := 12960628736) (stationZero_drop s c opens rfl) .img rfl
@[simp] theorem stationZero_spl (s : State) (c : ChainId) (opens : Bool) : (stationZero s c opens).spl = s.spl :=
  same_of_drop (m := 12960628736) (stationZero_drop s c opens rfl) .spl rfl
@[simp] theorem stationZero_tim (s : State) (c : ChainId) (opens : Bool) : (stationZero s c opens).tim = s.tim :=
  same_of_drop (m := 12960628736) (stationZero_drop s c opens rfl) .tim rfl
@[simp] theorem stationZero_arm (s : State) (c : ChainId) (opens : Bool) : (stationZero s c opens).arm = s.arm :=
  same_of_drop (m := 12960628736) (stationZero_drop s c opens rfl) .arm rfl
@[simp] theorem stationZero_pwm (s : State) (c : ChainId) (opens : Bool) : (stationZero s c opens).pwm = s.pwm :=
  same_of_drop (m := 12960628736) (stationZero_drop s c opens rfl) .pwm rfl
@[simp] theorem stationZero_snA (s : State) (c : ChainId) (opens : Bool) : (stationZero s c opens).snA = s.snA :=
  same_of_drop (m := 12960628736) (stationZero_drop s c opens rfl) .snA rfl
@[simp] theorem stationZero_snB (s : State) (c : ChainId) (opens : Bool) : (stationZero s c opens).snB = s.snB :=
  same_of_drop (m := 12960628736) (stationZero_drop s c opens rfl) .snB rfl
@[simp] theorem stationZero_esA (s : State) (c : ChainId) (opens : Bool) : (stationZero s c opens).esA = s.esA :=
  same_of_drop (m := 12960628736) (stationZero_drop s c opens rfl) .esA rfl
@[simp] theorem stationZero_esB (s : State) (c : ChainId) (opens : Bool) : (stationZero s c opens).esB = s.esB :=
  same_of_drop (m := 12960628736) (stationZero_drop s c opens rfl) .esB rfl
@[simp] theorem stationZero_est (s : State) (c : ChainId) (opens : Bool) : (stationZero s c opens).est = s.est :=
  same_of_drop (m := 12960628736) (stationZero_drop s c opens rfl) .est rfl
@[simp] theorem stationZero_prt (s : State) (c : ChainId) (opens : Bool) : (stationZero s c opens).prt = s.prt :=
  same_of_drop (m := 12960628736) (stationZero_drop s c opens rfl) .prt rfl
@[simp] theorem stationZero_dvt (s : State) (c : ChainId) (opens : Bool) : (stationZero s c opens).dvt = s.dvt :=
  same_of_drop (m := 12960628736) (stationZero_drop s c opens rfl) .dvt rfl
@[simp] theorem stationZero_lbus (s : State) (c : ChainId) (opens : Bool) : (stationZero s c opens).lbus = s.lbus :=
  same_of_drop (m := 12960628736) (stationZero_drop s c opens rfl) .lbus rfl
@[simp] theorem stationZero_pwr (s : State) (c : ChainId) (opens : Bool) : (stationZero s c opens).pwr = s.pwr :=
  same_of_drop (m := 12960628736) (stationZero_drop s c opens rfl) .pwr rfl
@[simp] theorem stationZero_sec (s : State) (c : ChainId) (opens : Bool) : (stationZero s c opens).sec = s.sec :=
  same_of_drop (m := 12960628736) (stationZero_drop s c opens rfl) .sec rfl
@[simp] theorem stationZero_outbox (s : State) (c : ChainId) (opens : Bool) : (stationZero s c opens).outbox = s.outbox :=
  same_of_drop (m := 12960628736) (stationZero_drop s c opens rfl) .outbox rfl
@[simp] theorem stationZero_glk_legA (s : State) (c : ChainId) (opens : Bool) : (stationZero s c opens).glk.legA = s.glk.legA := by
  have h := same_of_drop (m := 12960628736) (stationZero_drop s c opens rfl) .legs rfl
  simp only [Block.same] at h; simp only [h]
@[simp] theorem stationZero_glk_legB (s : State) (c : ChainId) (opens : Bool) : (stationZero s c opens).glk.legB = s.glk.legB := by
  have h := same_of_drop (m := 12960628736) (stationZero_drop s c opens rfl) .legs rfl
  simp only [Block.same] at h; simp only [h]
@[simp] theorem stationZero_glk_fireHold (s : State) (c : ChainId) (opens : Bool) : (stationZero s c opens).glk.fireHold = s.glk.fireHold := by
  have h := same_of_drop (m := 12960628736) (stationZero_drop s c opens rfl) .switch rfl
  simp only [Block.same] at h; simp only [h]
@[simp] theorem stationZero_glk_fireAll (s : State) (c : ChainId) (opens : Bool) : (stationZero s c opens).glk.fireAll = s.glk.fireAll := by
  have h := same_of_drop (m := 12960628736) (stationZero_drop s c opens rfl) .switch rfl
  simp only [Block.same] at h; simp only [h]
@[simp] theorem stationZero_glk_closeAsserted (s : State) (c : ChainId) (opens : Bool) : (stationZero s c opens).glk.closeAsserted = s.glk.closeAsserted := by
  have h := same_of_drop (m := 12960628736) (stationZero_drop s c opens rfl) .switch rfl
  simp only [Block.same] at h; simp only [h]
@[simp] theorem stationZero_glk_closeDue (s : State) (c : ChainId) (opens : Bool) : (stationZero s c opens).glk.closeDue = s.glk.closeDue := by
  have h := same_of_drop (m := 12960628736) (stationZero_drop s c opens rfl) .switch rfl
  simp only [Block.same] at h; simp only [h]
@[simp] theorem stationZero_glk_statClosed (s : State) (c : ChainId) (opens : Bool) : (stationZero s c opens).glk.statClosed = s.glk.statClosed := by
  have h := same_of_drop (m := 12960628736) (stationZero_drop s c opens rfl) .switch rfl
  simp only [Block.same] at h; simp only [h]
@[simp] theorem stationZero_thm_sdHotA (s : State) (c : ChainId) (opens : Bool) : (stationZero s c opens).thm.sdHotA = s.thm.sdHotA := by
  have h := same_of_drop (m := 12960628736) (stationZero_drop s c opens rfl) .shutdown rfl
  simp only [Block.same] at h; simp only [h]
@[simp] theorem stationZero_thm_sdHotB (s : State) (c : ChainId) (opens : Bool) : (stationZero s c opens).thm.sdHotB = s.thm.sdHotB := by
  have h := same_of_drop (m := 12960628736) (stationZero_drop s c opens rfl) .shutdown rfl
  simp only [Block.same] at h; simp only [h]
@[simp] theorem stationZero_thm_sdColdA (s : State) (c : ChainId) (opens : Bool) : (stationZero s c opens).thm.sdColdA = s.thm.sdColdA := by
  have h := same_of_drop (m := 12960628736) (stationZero_drop s c opens rfl) .shutdown rfl
  simp only [Block.same] at h; simp only [h]
@[simp] theorem stationZero_thm_sdColdB (s : State) (c : ChainId) (opens : Bool) : (stationZero s c opens).thm.sdColdB = s.thm.sdColdB := by
  have h := same_of_drop (m := 12960628736) (stationZero_drop s c opens rfl) .shutdown rfl
  simp only [Block.same] at h; simp only [h]
@[simp] theorem connected_dev (s : State) (c : ChainId) : (connected s c).dev = s.dev :=
  same_of_drop (m := 12961415168) (connected_drop s c rfl) .dev rfl
@[simp] theorem connected_eng (s : State) (c : ChainId) : (connected s c).eng = s.eng :=
  same_of_drop (m := 12961415168) (connected_drop s c rfl) .eng rfl
@[simp] theorem connected_img (s : State) (c : ChainId) : (connected s c).img = s.img :=
  same_of_drop (m := 12961415168) (connected_drop s c rfl) .img rfl
@[simp] theorem connected_spl (s : State) (c : ChainId) : (connected s c).spl = s.spl :=
  same_of_drop (m := 12961415168) (connected_drop s c rfl) .spl rfl
@[simp] theorem connected_tim (s : State) (c : ChainId) : (connected s c).tim = s.tim :=
  same_of_drop (m := 12961415168) (connected_drop s c rfl) .tim rfl
@[simp] theorem connected_arm (s : State) (c : ChainId) : (connected s c).arm = s.arm :=
  same_of_drop (m := 12961415168) (connected_drop s c rfl) .arm rfl
@[simp] theorem connected_pwm (s : State) (c : ChainId) : (connected s c).pwm = s.pwm :=
  same_of_drop (m := 12961415168) (connected_drop s c rfl) .pwm rfl
@[simp] theorem connected_esA (s : State) (c : ChainId) : (connected s c).esA = s.esA :=
  same_of_drop (m := 12961415168) (connected_drop s c rfl) .esA rfl
@[simp] theorem connected_esB (s : State) (c : ChainId) : (connected s c).esB = s.esB :=
  same_of_drop (m := 12961415168) (connected_drop s c rfl) .esB rfl
@[simp] theorem connected_est (s : State) (c : ChainId) : (connected s c).est = s.est :=
  same_of_drop (m := 12961415168) (connected_drop s c rfl) .est rfl
@[simp] theorem connected_prt (s : State) (c : ChainId) : (connected s c).prt = s.prt :=
  same_of_drop (m := 12961415168) (connected_drop s c rfl) .prt rfl
@[simp] theorem connected_dvt (s : State) (c : ChainId) : (connected s c).dvt = s.dvt :=
  same_of_drop (m := 12961415168) (connected_drop s c rfl) .dvt rfl
@[simp] theorem connected_lbus (s : State) (c : ChainId) : (connected s c).lbus = s.lbus :=
  same_of_drop (m := 12961415168) (connected_drop s c rfl) .lbus rfl
@[simp] theorem connected_pwr (s : State) (c : ChainId) : (connected s c).pwr = s.pwr :=
  same_of_drop (m := 12961415168) (connected_drop s c rfl) .pwr rfl
@[simp] theorem connected_sec (s : State) (c : ChainId) : (connected s c).sec = s.sec :=
  same_of_drop (m := 12961415168) (connected_drop s c rfl) .sec rfl
@[simp] theorem connected_outbox (s : State) (c : ChainId) : (connected s c).outbox = s.outbox :=
  same_of_drop (m := 12961415168) (connected_drop s c rfl) .outbox rfl
@[simp] theorem connected_glk_legA (s : State) (c : ChainId) : (connected s c).glk.legA = s.glk.legA := by
  have h := same_of_drop (m := 12961415168) (connected_drop s c rfl) .legs rfl
  simp only [Block.same] at h; simp only [h]
@[simp] theorem connected_glk_legB (s : State) (c : ChainId) : (connected s c).glk.legB = s.glk.legB := by
  have h := same_of_drop (m := 12961415168) (connected_drop s c rfl) .legs rfl
  simp only [Block.same] at h; simp only [h]
@[simp] theorem connected_glk_fireHold (s : State) (c : ChainId) : (connected s c).glk.fireHold = s.glk.fireHold := by
  have h := same_of_drop (m := 12961415168) (connected_drop s c rfl) .switch rfl
  simp only [Block.same] at h; simp only [h]
@[simp] theorem connected_glk_fireAll (s : State) (c : ChainId) : (connected s c).glk.fireAll = s.glk.fireAll := by
  have h := same_of_drop (m := 12961415168) (connected_drop s c rfl) .switch rfl
  simp only [Block.same] at h; simp only [h]
@[simp] theorem connected_glk_closeAsserted (s : State) (c : ChainId) : (connected s c).glk.closeAsserted = s.glk.closeAsserted := by
  have h := same_of_drop (m := 12961415168) (connected_drop s c rfl) .switch rfl
  simp only [Block.same] at h; simp only [h]
@[simp] theorem connected_glk_closeDue (s : State) (c : ChainId) : (connected s c).glk.closeDue = s.glk.closeDue := by
  have h := same_of_drop (m := 12961415168) (connected_drop s c rfl) .switch rfl
  simp only [Block.same] at h; simp only [h]
@[simp] theorem connected_glk_statClosed (s : State) (c : ChainId) : (connected s c).glk.statClosed = s.glk.statClosed := by
  have h := same_of_drop (m := 12961415168) (connected_drop s c rfl) .switch rfl
  simp only [Block.same] at h; simp only [h]
@[simp] theorem connected_thm_sdHotA (s : State) (c : ChainId) : (connected s c).thm.sdHotA = s.thm.sdHotA := by
  have h := same_of_drop (m := 12961415168) (connected_drop s c rfl) .shutdown rfl
  simp only [Block.same] at h; simp only [h]
@[simp] theorem connected_thm_sdHotB (s : State) (c : ChainId) : (connected s c).thm.sdHotB = s.thm.sdHotB := by
  have h := same_of_drop (m := 12961415168) (connected_drop s c rfl) .shutdown rfl
  simp only [Block.same] at h; simp only [h]
@[simp] theorem connected_thm_sdColdA (s : State) (c : ChainId) : (connected s c).thm.sdColdA = s.thm.sdColdA := by
  have h := same_of_drop (m := 12961415168) (connected_drop s c rfl) .shutdown rfl
  simp only [Block.same] at h; simp only [h]
@[simp] theorem connected_thm_sdColdB (s : State) (c : ChainId) : (connected s c).thm.sdColdB = s.thm.sdColdB := by
  have h := same_of_drop (m := 12961415168) (connected_drop s c rfl) .shutdown rfl
  simp only [Block.same] at h; simp only [h]
@[simp] theorem finishOpen_dev (s : State) (c : ChainId) (forced : Bool) : (finishOpen s c forced).dev = s.dev :=
  same_of_drop (m := 8590131200) (finishOpen_drop s c forced rfl) .dev rfl
@[simp] theorem finishOpen_eng (s : State) (c : ChainId) (forced : Bool) : (finishOpen s c forced).eng = s.eng :=
  same_of_drop (m := 8590131200) (finishOpen_drop s c forced rfl) .eng rfl
@[simp] theorem finishOpen_img (s : State) (c : ChainId) (forced : Bool) : (finishOpen s c forced).img = s.img :=
  same_of_drop (m := 8590131200) (finishOpen_drop s c forced rfl) .img rfl
@[simp] theorem finishOpen_spl (s : State) (c : ChainId) (forced : Bool) : (finishOpen s c forced).spl = s.spl :=
  same_of_drop (m := 8590131200) (finishOpen_drop s c forced rfl) .spl rfl
@[simp] theorem finishOpen_tim (s : State) (c : ChainId) (forced : Bool) : (finishOpen s c forced).tim = s.tim :=
  same_of_drop (m := 8590131200) (finishOpen_drop s c forced rfl) .tim rfl
@[simp] theorem finishOpen_arm (s : State) (c : ChainId) (forced : Bool) : (finishOpen s c forced).arm = s.arm :=
  same_of_drop (m := 8590131200) (finishOpen_drop s c forced rfl) .arm rfl
@[simp] theorem finishOpen_pwm (s : State) (c : ChainId) (forced : Bool) : (finishOpen s c forced).pwm = s.pwm :=
  same_of_drop (m := 8590131200) (finishOpen_drop s c forced rfl) .pwm rfl
@[simp] theorem finishOpen_glk (s : State) (c : ChainId) (forced : Bool) : (finishOpen s c forced).glk = s.glk :=
  same_of_drop (m := 8590131200) (finishOpen_drop s c forced rfl) .glk rfl
@[simp] theorem finishOpen_snA (s : State) (c : ChainId) (forced : Bool) : (finishOpen s c forced).snA = s.snA :=
  same_of_drop (m := 8590131200) (finishOpen_drop s c forced rfl) .snA rfl
@[simp] theorem finishOpen_snB (s : State) (c : ChainId) (forced : Bool) : (finishOpen s c forced).snB = s.snB :=
  same_of_drop (m := 8590131200) (finishOpen_drop s c forced rfl) .snB rfl
@[simp] theorem finishOpen_esA (s : State) (c : ChainId) (forced : Bool) : (finishOpen s c forced).esA = s.esA :=
  same_of_drop (m := 8590131200) (finishOpen_drop s c forced rfl) .esA rfl
@[simp] theorem finishOpen_esB (s : State) (c : ChainId) (forced : Bool) : (finishOpen s c forced).esB = s.esB :=
  same_of_drop (m := 8590131200) (finishOpen_drop s c forced rfl) .esB rfl
@[simp] theorem finishOpen_est (s : State) (c : ChainId) (forced : Bool) : (finishOpen s c forced).est = s.est :=
  same_of_drop (m := 8590131200) (finishOpen_drop s c forced rfl) .est rfl
@[simp] theorem finishOpen_thm (s : State) (c : ChainId) (forced : Bool) : (finishOpen s c forced).thm = s.thm :=
  same_of_drop (m := 8590131200) (finishOpen_drop s c forced rfl) .thm rfl
@[simp] theorem finishOpen_prt (s : State) (c : ChainId) (forced : Bool) : (finishOpen s c forced).prt = s.prt :=
  same_of_drop (m := 8590131200) (finishOpen_drop s c forced rfl) .prt rfl
@[simp] theorem finishOpen_dvt (s : State) (c : ChainId) (forced : Bool) : (finishOpen s c forced).dvt = s.dvt :=
  same_of_drop (m := 8590131200) (finishOpen_drop s c forced rfl) .dvt rfl
@[simp] theorem finishOpen_lsw (s : State) (c : ChainId) (forced : Bool) : (finishOpen s c forced).lsw = s.lsw :=
  same_of_drop (m := 8590131200) (finishOpen_drop s c forced rfl) .lsw rfl
@[simp] theorem finishOpen_lbus (s : State) (c : ChainId) (forced : Bool) : (finishOpen s c forced).lbus = s.lbus :=
  same_of_drop (m := 8590131200) (finishOpen_drop s c forced rfl) .lbus rfl
@[simp] theorem finishOpen_pwr (s : State) (c : ChainId) (forced : Bool) : (finishOpen s c forced).pwr = s.pwr :=
  same_of_drop (m := 8590131200) (finishOpen_drop s c forced rfl) .pwr rfl
@[simp] theorem finishOpen_sec (s : State) (c : ChainId) (forced : Bool) : (finishOpen s c forced).sec = s.sec :=
  same_of_drop (m := 8590131200) (finishOpen_drop s c forced rfl) .sec rfl
@[simp] theorem finishOpen_mnt (s : State) (c : ChainId) (forced : Bool) : (finishOpen s c forced).mnt = s.mnt :=
  same_of_drop (m := 8590131200) (finishOpen_drop s c forced rfl) .mnt rfl
@[simp] theorem finishOpen_outbox (s : State) (c : ChainId) (forced : Bool) : (finishOpen s c forced).outbox = s.outbox :=
  same_of_drop (m := 8590131200) (finishOpen_drop s c forced rfl) .outbox rfl
@[simp] theorem weldFound_dev (s : State) (c : ChainId) (k : Nat) : (weldFound s c k).dev = s.dev :=
  same_of_drop (m := 6197731110912) (weldFound_drop s c k rfl) .dev rfl
@[simp] theorem weldFound_eng (s : State) (c : ChainId) (k : Nat) : (weldFound s c k).eng = s.eng :=
  same_of_drop (m := 6197731110912) (weldFound_drop s c k rfl) .eng rfl
@[simp] theorem weldFound_img (s : State) (c : ChainId) (k : Nat) : (weldFound s c k).img = s.img :=
  same_of_drop (m := 6197731110912) (weldFound_drop s c k rfl) .img rfl
@[simp] theorem weldFound_spl (s : State) (c : ChainId) (k : Nat) : (weldFound s c k).spl = s.spl :=
  same_of_drop (m := 6197731110912) (weldFound_drop s c k rfl) .spl rfl
@[simp] theorem weldFound_tim (s : State) (c : ChainId) (k : Nat) : (weldFound s c k).tim = s.tim :=
  same_of_drop (m := 6197731110912) (weldFound_drop s c k rfl) .tim rfl
@[simp] theorem weldFound_arm_cell (s : State) (c : ChainId) (k : Nat) : (weldFound s c k).arm.cell = s.arm.cell := by
  have h := same_of_drop (m := 6197731110912) (weldFound_drop s c k rfl) .cell rfl
  simp only [Block.same] at h; simp only [h]
@[simp] theorem weldFound_arm_changes (s : State) (c : ChainId) (k : Nat) : (weldFound s c k).arm.changes = s.arm.changes := by
  have h := same_of_drop (m := 6197731110912) (weldFound_drop s c k rfl) .cell rfl
  simp only [Block.same] at h; simp only [h]
@[simp] theorem weldFound_arm_owner (s : State) (c : ChainId) (k : Nat) : (weldFound s c k).arm.owner = s.arm.owner := by
  have h := same_of_drop (m := 6197731110912) (weldFound_drop s c k rfl) .token rfl
  exact h
@[simp] theorem weldFound_pwm (s : State) (c : ChainId) (k : Nat) : (weldFound s c k).pwm = s.pwm :=
  same_of_drop (m := 6197731110912) (weldFound_drop s c k rfl) .pwm rfl
@[simp] theorem weldFound_esA (s : State) (c : ChainId) (k : Nat) : (weldFound s c k).esA = s.esA :=
  same_of_drop (m := 6197731110912) (weldFound_drop s c k rfl) .esA rfl
@[simp] theorem weldFound_esB (s : State) (c : ChainId) (k : Nat) : (weldFound s c k).esB = s.esB :=
  same_of_drop (m := 6197731110912) (weldFound_drop s c k rfl) .esB rfl
@[simp] theorem weldFound_est (s : State) (c : ChainId) (k : Nat) : (weldFound s c k).est = s.est :=
  same_of_drop (m := 6197731110912) (weldFound_drop s c k rfl) .est rfl
@[simp] theorem weldFound_dvt (s : State) (c : ChainId) (k : Nat) : (weldFound s c k).dvt = s.dvt :=
  same_of_drop (m := 6197731110912) (weldFound_drop s c k rfl) .dvt rfl
@[simp] theorem weldFound_lbus (s : State) (c : ChainId) (k : Nat) : (weldFound s c k).lbus = s.lbus :=
  same_of_drop (m := 6197731110912) (weldFound_drop s c k rfl) .lbus rfl
@[simp] theorem weldFound_pwr (s : State) (c : ChainId) (k : Nat) : (weldFound s c k).pwr = s.pwr :=
  same_of_drop (m := 6197731110912) (weldFound_drop s c k rfl) .pwr rfl
@[simp] theorem weldFound_sec (s : State) (c : ChainId) (k : Nat) : (weldFound s c k).sec = s.sec :=
  same_of_drop (m := 6197731110912) (weldFound_drop s c k rfl) .sec rfl
@[simp] theorem weldFound_thm_sdHotA (s : State) (c : ChainId) (k : Nat) : (weldFound s c k).thm.sdHotA = s.thm.sdHotA := by
  have h := same_of_drop (m := 6197731110912) (weldFound_drop s c k rfl) .shutdown rfl
  simp only [Block.same] at h; simp only [h]
@[simp] theorem weldFound_thm_sdHotB (s : State) (c : ChainId) (k : Nat) : (weldFound s c k).thm.sdHotB = s.thm.sdHotB := by
  have h := same_of_drop (m := 6197731110912) (weldFound_drop s c k rfl) .shutdown rfl
  simp only [Block.same] at h; simp only [h]
@[simp] theorem weldFound_thm_sdColdA (s : State) (c : ChainId) (k : Nat) : (weldFound s c k).thm.sdColdA = s.thm.sdColdA := by
  have h := same_of_drop (m := 6197731110912) (weldFound_drop s c k rfl) .shutdown rfl
  simp only [Block.same] at h; simp only [h]
@[simp] theorem weldFound_thm_sdColdB (s : State) (c : ChainId) (k : Nat) : (weldFound s c k).thm.sdColdB = s.thm.sdColdB := by
  have h := same_of_drop (m := 6197731110912) (weldFound_drop s c k rfl) .shutdown rfl
  simp only [Block.same] at h; simp only [h]
@[simp] theorem keepPark_dev (s : State) (c : ChainId) (m : Fin 32) : (keepPark s c m).dev = s.dev :=
  same_of_drop (m := 4194304) (keepPark_drop s c m rfl) .dev rfl
@[simp] theorem keepPark_eng (s : State) (c : ChainId) (m : Fin 32) : (keepPark s c m).eng = s.eng :=
  same_of_drop (m := 4194304) (keepPark_drop s c m rfl) .eng rfl
@[simp] theorem keepPark_img (s : State) (c : ChainId) (m : Fin 32) : (keepPark s c m).img = s.img :=
  same_of_drop (m := 4194304) (keepPark_drop s c m rfl) .img rfl
@[simp] theorem keepPark_spl (s : State) (c : ChainId) (m : Fin 32) : (keepPark s c m).spl = s.spl :=
  same_of_drop (m := 4194304) (keepPark_drop s c m rfl) .spl rfl
@[simp] theorem keepPark_tim (s : State) (c : ChainId) (m : Fin 32) : (keepPark s c m).tim = s.tim :=
  same_of_drop (m := 4194304) (keepPark_drop s c m rfl) .tim rfl
@[simp] theorem keepPark_arm (s : State) (c : ChainId) (m : Fin 32) : (keepPark s c m).arm = s.arm :=
  same_of_drop (m := 4194304) (keepPark_drop s c m rfl) .arm rfl
@[simp] theorem keepPark_pwm (s : State) (c : ChainId) (m : Fin 32) : (keepPark s c m).pwm = s.pwm :=
  same_of_drop (m := 4194304) (keepPark_drop s c m rfl) .pwm rfl
@[simp] theorem keepPark_glk (s : State) (c : ChainId) (m : Fin 32) : (keepPark s c m).glk = s.glk :=
  same_of_drop (m := 4194304) (keepPark_drop s c m rfl) .glk rfl
@[simp] theorem keepPark_chA (s : State) (c : ChainId) (m : Fin 32) : (keepPark s c m).chA = s.chA :=
  same_of_drop (m := 4194304) (keepPark_drop s c m rfl) .chA rfl
@[simp] theorem keepPark_chB (s : State) (c : ChainId) (m : Fin 32) : (keepPark s c m).chB = s.chB :=
  same_of_drop (m := 4194304) (keepPark_drop s c m rfl) .chB rfl
@[simp] theorem keepPark_snA (s : State) (c : ChainId) (m : Fin 32) : (keepPark s c m).snA = s.snA :=
  same_of_drop (m := 4194304) (keepPark_drop s c m rfl) .snA rfl
@[simp] theorem keepPark_snB (s : State) (c : ChainId) (m : Fin 32) : (keepPark s c m).snB = s.snB :=
  same_of_drop (m := 4194304) (keepPark_drop s c m rfl) .snB rfl
@[simp] theorem keepPark_esA (s : State) (c : ChainId) (m : Fin 32) : (keepPark s c m).esA = s.esA :=
  same_of_drop (m := 4194304) (keepPark_drop s c m rfl) .esA rfl
@[simp] theorem keepPark_esB (s : State) (c : ChainId) (m : Fin 32) : (keepPark s c m).esB = s.esB :=
  same_of_drop (m := 4194304) (keepPark_drop s c m rfl) .esB rfl
@[simp] theorem keepPark_thm (s : State) (c : ChainId) (m : Fin 32) : (keepPark s c m).thm = s.thm :=
  same_of_drop (m := 4194304) (keepPark_drop s c m rfl) .thm rfl
@[simp] theorem keepPark_prt (s : State) (c : ChainId) (m : Fin 32) : (keepPark s c m).prt = s.prt :=
  same_of_drop (m := 4194304) (keepPark_drop s c m rfl) .prt rfl
@[simp] theorem keepPark_dvt (s : State) (c : ChainId) (m : Fin 32) : (keepPark s c m).dvt = s.dvt :=
  same_of_drop (m := 4194304) (keepPark_drop s c m rfl) .dvt rfl
@[simp] theorem keepPark_lsw (s : State) (c : ChainId) (m : Fin 32) : (keepPark s c m).lsw = s.lsw :=
  same_of_drop (m := 4194304) (keepPark_drop s c m rfl) .lsw rfl
@[simp] theorem keepPark_lbus (s : State) (c : ChainId) (m : Fin 32) : (keepPark s c m).lbus = s.lbus :=
  same_of_drop (m := 4194304) (keepPark_drop s c m rfl) .lbus rfl
@[simp] theorem keepPark_pwr (s : State) (c : ChainId) (m : Fin 32) : (keepPark s c m).pwr = s.pwr :=
  same_of_drop (m := 4194304) (keepPark_drop s c m rfl) .pwr rfl
@[simp] theorem keepPark_sec (s : State) (c : ChainId) (m : Fin 32) : (keepPark s c m).sec = s.sec :=
  same_of_drop (m := 4194304) (keepPark_drop s c m rfl) .sec rfl
@[simp] theorem keepPark_mnt (s : State) (c : ChainId) (m : Fin 32) : (keepPark s c m).mnt = s.mnt :=
  same_of_drop (m := 4194304) (keepPark_drop s c m rfl) .mnt rfl
@[simp] theorem keepPark_evt (s : State) (c : ChainId) (m : Fin 32) : (keepPark s c m).evt = s.evt :=
  same_of_drop (m := 4194304) (keepPark_drop s c m rfl) .evt rfl
@[simp] theorem keepPark_outbox (s : State) (c : ChainId) (m : Fin 32) : (keepPark s c m).outbox = s.outbox :=
  same_of_drop (m := 4194304) (keepPark_drop s c m rfl) .outbox rfl
@[simp] theorem settleDerate_dev (s : State) (c : ChainId) : (settleDerate s c).dev = s.dev :=
  same_of_drop (m := 196608) (settleDerate_drop s c rfl) .dev rfl
@[simp] theorem settleDerate_eng (s : State) (c : ChainId) : (settleDerate s c).eng = s.eng :=
  same_of_drop (m := 196608) (settleDerate_drop s c rfl) .eng rfl
@[simp] theorem settleDerate_img (s : State) (c : ChainId) : (settleDerate s c).img = s.img :=
  same_of_drop (m := 196608) (settleDerate_drop s c rfl) .img rfl
@[simp] theorem settleDerate_spl (s : State) (c : ChainId) : (settleDerate s c).spl = s.spl :=
  same_of_drop (m := 196608) (settleDerate_drop s c rfl) .spl rfl
@[simp] theorem settleDerate_tim (s : State) (c : ChainId) : (settleDerate s c).tim = s.tim :=
  same_of_drop (m := 196608) (settleDerate_drop s c rfl) .tim rfl
@[simp] theorem settleDerate_arm (s : State) (c : ChainId) : (settleDerate s c).arm = s.arm :=
  same_of_drop (m := 196608) (settleDerate_drop s c rfl) .arm rfl
@[simp] theorem settleDerate_pwm (s : State) (c : ChainId) : (settleDerate s c).pwm = s.pwm :=
  same_of_drop (m := 196608) (settleDerate_drop s c rfl) .pwm rfl
@[simp] theorem settleDerate_glk (s : State) (c : ChainId) : (settleDerate s c).glk = s.glk :=
  same_of_drop (m := 196608) (settleDerate_drop s c rfl) .glk rfl
@[simp] theorem settleDerate_snA (s : State) (c : ChainId) : (settleDerate s c).snA = s.snA :=
  same_of_drop (m := 196608) (settleDerate_drop s c rfl) .snA rfl
@[simp] theorem settleDerate_snB (s : State) (c : ChainId) : (settleDerate s c).snB = s.snB :=
  same_of_drop (m := 196608) (settleDerate_drop s c rfl) .snB rfl
@[simp] theorem settleDerate_esA (s : State) (c : ChainId) : (settleDerate s c).esA = s.esA :=
  same_of_drop (m := 196608) (settleDerate_drop s c rfl) .esA rfl
@[simp] theorem settleDerate_esB (s : State) (c : ChainId) : (settleDerate s c).esB = s.esB :=
  same_of_drop (m := 196608) (settleDerate_drop s c rfl) .esB rfl
@[simp] theorem settleDerate_est (s : State) (c : ChainId) : (settleDerate s c).est = s.est :=
  same_of_drop (m := 196608) (settleDerate_drop s c rfl) .est rfl
@[simp] theorem settleDerate_thm (s : State) (c : ChainId) : (settleDerate s c).thm = s.thm :=
  same_of_drop (m := 196608) (settleDerate_drop s c rfl) .thm rfl
@[simp] theorem settleDerate_prt (s : State) (c : ChainId) : (settleDerate s c).prt = s.prt :=
  same_of_drop (m := 196608) (settleDerate_drop s c rfl) .prt rfl
@[simp] theorem settleDerate_dvt (s : State) (c : ChainId) : (settleDerate s c).dvt = s.dvt :=
  same_of_drop (m := 196608) (settleDerate_drop s c rfl) .dvt rfl
@[simp] theorem settleDerate_lsw (s : State) (c : ChainId) : (settleDerate s c).lsw = s.lsw :=
  same_of_drop (m := 196608) (settleDerate_drop s c rfl) .lsw rfl
@[simp] theorem settleDerate_lbus (s : State) (c : ChainId) : (settleDerate s c).lbus = s.lbus :=
  same_of_drop (m := 196608) (settleDerate_drop s c rfl) .lbus rfl
@[simp] theorem settleDerate_pwr (s : State) (c : ChainId) : (settleDerate s c).pwr = s.pwr :=
  same_of_drop (m := 196608) (settleDerate_drop s c rfl) .pwr rfl
@[simp] theorem settleDerate_sec (s : State) (c : ChainId) : (settleDerate s c).sec = s.sec :=
  same_of_drop (m := 196608) (settleDerate_drop s c rfl) .sec rfl
@[simp] theorem settleDerate_mnt (s : State) (c : ChainId) : (settleDerate s c).mnt = s.mnt :=
  same_of_drop (m := 196608) (settleDerate_drop s c rfl) .mnt rfl
@[simp] theorem settleDerate_evt (s : State) (c : ChainId) : (settleDerate s c).evt = s.evt :=
  same_of_drop (m := 196608) (settleDerate_drop s c rfl) .evt rfl
@[simp] theorem settleDerate_outbox (s : State) (c : ChainId) : (settleDerate s c).outbox = s.outbox :=
  same_of_drop (m := 196608) (settleDerate_drop s c rfl) .outbox rfl
@[simp] theorem requestPark_dev (s : State) (c : ChainId) (m : Fin 32) (cause : Nat) : (requestPark s c m cause).dev = s.dev :=
  same_of_drop (m := 8594325504) (requestPark_drop s c m cause rfl) .dev rfl
@[simp] theorem requestPark_eng (s : State) (c : ChainId) (m : Fin 32) (cause : Nat) : (requestPark s c m cause).eng = s.eng :=
  same_of_drop (m := 8594325504) (requestPark_drop s c m cause rfl) .eng rfl
@[simp] theorem requestPark_img (s : State) (c : ChainId) (m : Fin 32) (cause : Nat) : (requestPark s c m cause).img = s.img :=
  same_of_drop (m := 8594325504) (requestPark_drop s c m cause rfl) .img rfl
@[simp] theorem requestPark_spl (s : State) (c : ChainId) (m : Fin 32) (cause : Nat) : (requestPark s c m cause).spl = s.spl :=
  same_of_drop (m := 8594325504) (requestPark_drop s c m cause rfl) .spl rfl
@[simp] theorem requestPark_tim (s : State) (c : ChainId) (m : Fin 32) (cause : Nat) : (requestPark s c m cause).tim = s.tim :=
  same_of_drop (m := 8594325504) (requestPark_drop s c m cause rfl) .tim rfl
@[simp] theorem requestPark_arm (s : State) (c : ChainId) (m : Fin 32) (cause : Nat) : (requestPark s c m cause).arm = s.arm :=
  same_of_drop (m := 8594325504) (requestPark_drop s c m cause rfl) .arm rfl
@[simp] theorem requestPark_pwm (s : State) (c : ChainId) (m : Fin 32) (cause : Nat) : (requestPark s c m cause).pwm = s.pwm :=
  same_of_drop (m := 8594325504) (requestPark_drop s c m cause rfl) .pwm rfl
@[simp] theorem requestPark_glk (s : State) (c : ChainId) (m : Fin 32) (cause : Nat) : (requestPark s c m cause).glk = s.glk :=
  same_of_drop (m := 8594325504) (requestPark_drop s c m cause rfl) .glk rfl
@[simp] theorem requestPark_snA (s : State) (c : ChainId) (m : Fin 32) (cause : Nat) : (requestPark s c m cause).snA = s.snA :=
  same_of_drop (m := 8594325504) (requestPark_drop s c m cause rfl) .snA rfl
@[simp] theorem requestPark_snB (s : State) (c : ChainId) (m : Fin 32) (cause : Nat) : (requestPark s c m cause).snB = s.snB :=
  same_of_drop (m := 8594325504) (requestPark_drop s c m cause rfl) .snB rfl
@[simp] theorem requestPark_esA (s : State) (c : ChainId) (m : Fin 32) (cause : Nat) : (requestPark s c m cause).esA = s.esA :=
  same_of_drop (m := 8594325504) (requestPark_drop s c m cause rfl) .esA rfl
@[simp] theorem requestPark_esB (s : State) (c : ChainId) (m : Fin 32) (cause : Nat) : (requestPark s c m cause).esB = s.esB :=
  same_of_drop (m := 8594325504) (requestPark_drop s c m cause rfl) .esB rfl
@[simp] theorem requestPark_thm (s : State) (c : ChainId) (m : Fin 32) (cause : Nat) : (requestPark s c m cause).thm = s.thm :=
  same_of_drop (m := 8594325504) (requestPark_drop s c m cause rfl) .thm rfl
@[simp] theorem requestPark_prt (s : State) (c : ChainId) (m : Fin 32) (cause : Nat) : (requestPark s c m cause).prt = s.prt :=
  same_of_drop (m := 8594325504) (requestPark_drop s c m cause rfl) .prt rfl
@[simp] theorem requestPark_dvt (s : State) (c : ChainId) (m : Fin 32) (cause : Nat) : (requestPark s c m cause).dvt = s.dvt :=
  same_of_drop (m := 8594325504) (requestPark_drop s c m cause rfl) .dvt rfl
@[simp] theorem requestPark_lsw (s : State) (c : ChainId) (m : Fin 32) (cause : Nat) : (requestPark s c m cause).lsw = s.lsw :=
  same_of_drop (m := 8594325504) (requestPark_drop s c m cause rfl) .lsw rfl
@[simp] theorem requestPark_lbus (s : State) (c : ChainId) (m : Fin 32) (cause : Nat) : (requestPark s c m cause).lbus = s.lbus :=
  same_of_drop (m := 8594325504) (requestPark_drop s c m cause rfl) .lbus rfl
@[simp] theorem requestPark_pwr (s : State) (c : ChainId) (m : Fin 32) (cause : Nat) : (requestPark s c m cause).pwr = s.pwr :=
  same_of_drop (m := 8594325504) (requestPark_drop s c m cause rfl) .pwr rfl
@[simp] theorem requestPark_sec (s : State) (c : ChainId) (m : Fin 32) (cause : Nat) : (requestPark s c m cause).sec = s.sec :=
  same_of_drop (m := 8594325504) (requestPark_drop s c m cause rfl) .sec rfl
@[simp] theorem requestPark_mnt (s : State) (c : ChainId) (m : Fin 32) (cause : Nat) : (requestPark s c m cause).mnt = s.mnt :=
  same_of_drop (m := 8594325504) (requestPark_drop s c m cause rfl) .mnt rfl
@[simp] theorem requestPark_outbox (s : State) (c : ChainId) (m : Fin 32) (cause : Nat) : (requestPark s c m cause).outbox = s.outbox :=
  same_of_drop (m := 8594325504) (requestPark_drop s c m cause rfl) .outbox rfl
@[simp] theorem dropPend_dev (s : State) (c : ChainId) (m : Fin 32) : (dropPend s c m).dev = s.dev :=
  same_of_drop (m := 4390912) (dropPend_drop s c m rfl) .dev rfl
@[simp] theorem dropPend_eng (s : State) (c : ChainId) (m : Fin 32) : (dropPend s c m).eng = s.eng :=
  same_of_drop (m := 4390912) (dropPend_drop s c m rfl) .eng rfl
@[simp] theorem dropPend_img (s : State) (c : ChainId) (m : Fin 32) : (dropPend s c m).img = s.img :=
  same_of_drop (m := 4390912) (dropPend_drop s c m rfl) .img rfl
@[simp] theorem dropPend_spl (s : State) (c : ChainId) (m : Fin 32) : (dropPend s c m).spl = s.spl :=
  same_of_drop (m := 4390912) (dropPend_drop s c m rfl) .spl rfl
@[simp] theorem dropPend_tim (s : State) (c : ChainId) (m : Fin 32) : (dropPend s c m).tim = s.tim :=
  same_of_drop (m := 4390912) (dropPend_drop s c m rfl) .tim rfl
@[simp] theorem dropPend_arm (s : State) (c : ChainId) (m : Fin 32) : (dropPend s c m).arm = s.arm :=
  same_of_drop (m := 4390912) (dropPend_drop s c m rfl) .arm rfl
@[simp] theorem dropPend_pwm (s : State) (c : ChainId) (m : Fin 32) : (dropPend s c m).pwm = s.pwm :=
  same_of_drop (m := 4390912) (dropPend_drop s c m rfl) .pwm rfl
@[simp] theorem dropPend_glk (s : State) (c : ChainId) (m : Fin 32) : (dropPend s c m).glk = s.glk :=
  same_of_drop (m := 4390912) (dropPend_drop s c m rfl) .glk rfl
@[simp] theorem dropPend_snA (s : State) (c : ChainId) (m : Fin 32) : (dropPend s c m).snA = s.snA :=
  same_of_drop (m := 4390912) (dropPend_drop s c m rfl) .snA rfl
@[simp] theorem dropPend_snB (s : State) (c : ChainId) (m : Fin 32) : (dropPend s c m).snB = s.snB :=
  same_of_drop (m := 4390912) (dropPend_drop s c m rfl) .snB rfl
@[simp] theorem dropPend_esA (s : State) (c : ChainId) (m : Fin 32) : (dropPend s c m).esA = s.esA :=
  same_of_drop (m := 4390912) (dropPend_drop s c m rfl) .esA rfl
@[simp] theorem dropPend_esB (s : State) (c : ChainId) (m : Fin 32) : (dropPend s c m).esB = s.esB :=
  same_of_drop (m := 4390912) (dropPend_drop s c m rfl) .esB rfl
@[simp] theorem dropPend_thm (s : State) (c : ChainId) (m : Fin 32) : (dropPend s c m).thm = s.thm :=
  same_of_drop (m := 4390912) (dropPend_drop s c m rfl) .thm rfl
@[simp] theorem dropPend_prt (s : State) (c : ChainId) (m : Fin 32) : (dropPend s c m).prt = s.prt :=
  same_of_drop (m := 4390912) (dropPend_drop s c m rfl) .prt rfl
@[simp] theorem dropPend_dvt (s : State) (c : ChainId) (m : Fin 32) : (dropPend s c m).dvt = s.dvt :=
  same_of_drop (m := 4390912) (dropPend_drop s c m rfl) .dvt rfl
@[simp] theorem dropPend_lsw (s : State) (c : ChainId) (m : Fin 32) : (dropPend s c m).lsw = s.lsw :=
  same_of_drop (m := 4390912) (dropPend_drop s c m rfl) .lsw rfl
@[simp] theorem dropPend_lbus (s : State) (c : ChainId) (m : Fin 32) : (dropPend s c m).lbus = s.lbus :=
  same_of_drop (m := 4390912) (dropPend_drop s c m rfl) .lbus rfl
@[simp] theorem dropPend_pwr (s : State) (c : ChainId) (m : Fin 32) : (dropPend s c m).pwr = s.pwr :=
  same_of_drop (m := 4390912) (dropPend_drop s c m rfl) .pwr rfl
@[simp] theorem dropPend_sec (s : State) (c : ChainId) (m : Fin 32) : (dropPend s c m).sec = s.sec :=
  same_of_drop (m := 4390912) (dropPend_drop s c m rfl) .sec rfl
@[simp] theorem dropPend_mnt (s : State) (c : ChainId) (m : Fin 32) : (dropPend s c m).mnt = s.mnt :=
  same_of_drop (m := 4390912) (dropPend_drop s c m rfl) .mnt rfl
@[simp] theorem dropPend_evt (s : State) (c : ChainId) (m : Fin 32) : (dropPend s c m).evt = s.evt :=
  same_of_drop (m := 4390912) (dropPend_drop s c m rfl) .evt rfl
@[simp] theorem dropPend_outbox (s : State) (c : ChainId) (m : Fin 32) : (dropPend s c m).outbox = s.outbox :=
  same_of_drop (m := 4390912) (dropPend_drop s c m rfl) .outbox rfl
@[simp] theorem completeLearn_dev (s : State) (c : ChainId) : (completeLearn s c).dev = s.dev :=
  same_of_drop (m := 12960628736) (completeLearn_drop s c rfl) .dev rfl
@[simp] theorem completeLearn_eng (s : State) (c : ChainId) : (completeLearn s c).eng = s.eng :=
  same_of_drop (m := 12960628736) (completeLearn_drop s c rfl) .eng rfl
@[simp] theorem completeLearn_img (s : State) (c : ChainId) : (completeLearn s c).img = s.img :=
  same_of_drop (m := 12960628736) (completeLearn_drop s c rfl) .img rfl
@[simp] theorem completeLearn_spl (s : State) (c : ChainId) : (completeLearn s c).spl = s.spl :=
  same_of_drop (m := 12960628736) (completeLearn_drop s c rfl) .spl rfl
@[simp] theorem completeLearn_tim (s : State) (c : ChainId) : (completeLearn s c).tim = s.tim :=
  same_of_drop (m := 12960628736) (completeLearn_drop s c rfl) .tim rfl
@[simp] theorem completeLearn_arm (s : State) (c : ChainId) : (completeLearn s c).arm = s.arm :=
  same_of_drop (m := 12960628736) (completeLearn_drop s c rfl) .arm rfl
@[simp] theorem completeLearn_pwm (s : State) (c : ChainId) : (completeLearn s c).pwm = s.pwm :=
  same_of_drop (m := 12960628736) (completeLearn_drop s c rfl) .pwm rfl
@[simp] theorem completeLearn_snA (s : State) (c : ChainId) : (completeLearn s c).snA = s.snA :=
  same_of_drop (m := 12960628736) (completeLearn_drop s c rfl) .snA rfl
@[simp] theorem completeLearn_snB (s : State) (c : ChainId) : (completeLearn s c).snB = s.snB :=
  same_of_drop (m := 12960628736) (completeLearn_drop s c rfl) .snB rfl
@[simp] theorem completeLearn_esA (s : State) (c : ChainId) : (completeLearn s c).esA = s.esA :=
  same_of_drop (m := 12960628736) (completeLearn_drop s c rfl) .esA rfl
@[simp] theorem completeLearn_esB (s : State) (c : ChainId) : (completeLearn s c).esB = s.esB :=
  same_of_drop (m := 12960628736) (completeLearn_drop s c rfl) .esB rfl
@[simp] theorem completeLearn_est (s : State) (c : ChainId) : (completeLearn s c).est = s.est :=
  same_of_drop (m := 12960628736) (completeLearn_drop s c rfl) .est rfl
@[simp] theorem completeLearn_prt (s : State) (c : ChainId) : (completeLearn s c).prt = s.prt :=
  same_of_drop (m := 12960628736) (completeLearn_drop s c rfl) .prt rfl
@[simp] theorem completeLearn_dvt (s : State) (c : ChainId) : (completeLearn s c).dvt = s.dvt :=
  same_of_drop (m := 12960628736) (completeLearn_drop s c rfl) .dvt rfl
@[simp] theorem completeLearn_lbus (s : State) (c : ChainId) : (completeLearn s c).lbus = s.lbus :=
  same_of_drop (m := 12960628736) (completeLearn_drop s c rfl) .lbus rfl
@[simp] theorem completeLearn_pwr (s : State) (c : ChainId) : (completeLearn s c).pwr = s.pwr :=
  same_of_drop (m := 12960628736) (completeLearn_drop s c rfl) .pwr rfl
@[simp] theorem completeLearn_sec (s : State) (c : ChainId) : (completeLearn s c).sec = s.sec :=
  same_of_drop (m := 12960628736) (completeLearn_drop s c rfl) .sec rfl
@[simp] theorem completeLearn_outbox (s : State) (c : ChainId) : (completeLearn s c).outbox = s.outbox :=
  same_of_drop (m := 12960628736) (completeLearn_drop s c rfl) .outbox rfl
@[simp] theorem completeLearn_glk_legA (s : State) (c : ChainId) : (completeLearn s c).glk.legA = s.glk.legA := by
  have h := same_of_drop (m := 12960628736) (completeLearn_drop s c rfl) .legs rfl
  simp only [Block.same] at h; simp only [h]
@[simp] theorem completeLearn_glk_legB (s : State) (c : ChainId) : (completeLearn s c).glk.legB = s.glk.legB := by
  have h := same_of_drop (m := 12960628736) (completeLearn_drop s c rfl) .legs rfl
  simp only [Block.same] at h; simp only [h]
@[simp] theorem completeLearn_glk_fireHold (s : State) (c : ChainId) : (completeLearn s c).glk.fireHold = s.glk.fireHold := by
  have h := same_of_drop (m := 12960628736) (completeLearn_drop s c rfl) .switch rfl
  simp only [Block.same] at h; simp only [h]
@[simp] theorem completeLearn_glk_fireAll (s : State) (c : ChainId) : (completeLearn s c).glk.fireAll = s.glk.fireAll := by
  have h := same_of_drop (m := 12960628736) (completeLearn_drop s c rfl) .switch rfl
  simp only [Block.same] at h; simp only [h]
@[simp] theorem completeLearn_glk_closeAsserted (s : State) (c : ChainId) : (completeLearn s c).glk.closeAsserted = s.glk.closeAsserted := by
  have h := same_of_drop (m := 12960628736) (completeLearn_drop s c rfl) .switch rfl
  simp only [Block.same] at h; simp only [h]
@[simp] theorem completeLearn_glk_closeDue (s : State) (c : ChainId) : (completeLearn s c).glk.closeDue = s.glk.closeDue := by
  have h := same_of_drop (m := 12960628736) (completeLearn_drop s c rfl) .switch rfl
  simp only [Block.same] at h; simp only [h]
@[simp] theorem completeLearn_glk_statClosed (s : State) (c : ChainId) : (completeLearn s c).glk.statClosed = s.glk.statClosed := by
  have h := same_of_drop (m := 12960628736) (completeLearn_drop s c rfl) .switch rfl
  simp only [Block.same] at h; simp only [h]
@[simp] theorem completeLearn_thm_sdHotA (s : State) (c : ChainId) : (completeLearn s c).thm.sdHotA = s.thm.sdHotA := by
  have h := same_of_drop (m := 12960628736) (completeLearn_drop s c rfl) .shutdown rfl
  simp only [Block.same] at h; simp only [h]
@[simp] theorem completeLearn_thm_sdHotB (s : State) (c : ChainId) : (completeLearn s c).thm.sdHotB = s.thm.sdHotB := by
  have h := same_of_drop (m := 12960628736) (completeLearn_drop s c rfl) .shutdown rfl
  simp only [Block.same] at h; simp only [h]
@[simp] theorem completeLearn_thm_sdColdA (s : State) (c : ChainId) : (completeLearn s c).thm.sdColdA = s.thm.sdColdA := by
  have h := same_of_drop (m := 12960628736) (completeLearn_drop s c rfl) .shutdown rfl
  simp only [Block.same] at h; simp only [h]
@[simp] theorem completeLearn_thm_sdColdB (s : State) (c : ChainId) : (completeLearn s c).thm.sdColdB = s.thm.sdColdB := by
  have h := same_of_drop (m := 12960628736) (completeLearn_drop s c rfl) .shutdown rfl
  simp only [Block.same] at h; simp only [h]
@[simp] theorem parkLeg_dev (s : State) (l : Leg) : (parkLeg s l).dev = s.dev :=
  same_of_drop (m := 558345797632) (parkLeg_drop s l rfl) .dev rfl
@[simp] theorem parkLeg_eng (s : State) (l : Leg) : (parkLeg s l).eng = s.eng :=
  same_of_drop (m := 558345797632) (parkLeg_drop s l rfl) .eng rfl
@[simp] theorem parkLeg_img (s : State) (l : Leg) : (parkLeg s l).img = s.img :=
  same_of_drop (m := 558345797632) (parkLeg_drop s l rfl) .img rfl
@[simp] theorem parkLeg_spl (s : State) (l : Leg) : (parkLeg s l).spl = s.spl :=
  same_of_drop (m := 558345797632) (parkLeg_drop s l rfl) .spl rfl
@[simp] theorem parkLeg_tim (s : State) (l : Leg) : (parkLeg s l).tim = s.tim :=
  same_of_drop (m := 558345797632) (parkLeg_drop s l rfl) .tim rfl
@[simp] theorem parkLeg_arm (s : State) (l : Leg) : (parkLeg s l).arm = s.arm :=
  same_of_drop (m := 558345797632) (parkLeg_drop s l rfl) .arm rfl
@[simp] theorem parkLeg_chA (s : State) (l : Leg) : (parkLeg s l).chA = s.chA :=
  same_of_drop (m := 558345797632) (parkLeg_drop s l rfl) .chA rfl
@[simp] theorem parkLeg_chB (s : State) (l : Leg) : (parkLeg s l).chB = s.chB :=
  same_of_drop (m := 558345797632) (parkLeg_drop s l rfl) .chB rfl
@[simp] theorem parkLeg_snA (s : State) (l : Leg) : (parkLeg s l).snA = s.snA :=
  same_of_drop (m := 558345797632) (parkLeg_drop s l rfl) .snA rfl
@[simp] theorem parkLeg_snB (s : State) (l : Leg) : (parkLeg s l).snB = s.snB :=
  same_of_drop (m := 558345797632) (parkLeg_drop s l rfl) .snB rfl
@[simp] theorem parkLeg_esA (s : State) (l : Leg) : (parkLeg s l).esA = s.esA :=
  same_of_drop (m := 558345797632) (parkLeg_drop s l rfl) .esA rfl
@[simp] theorem parkLeg_esB (s : State) (l : Leg) : (parkLeg s l).esB = s.esB :=
  same_of_drop (m := 558345797632) (parkLeg_drop s l rfl) .esB rfl
@[simp] theorem parkLeg_est (s : State) (l : Leg) : (parkLeg s l).est = s.est :=
  same_of_drop (m := 558345797632) (parkLeg_drop s l rfl) .est rfl
@[simp] theorem parkLeg_thm (s : State) (l : Leg) : (parkLeg s l).thm = s.thm :=
  same_of_drop (m := 558345797632) (parkLeg_drop s l rfl) .thm rfl
@[simp] theorem parkLeg_prt (s : State) (l : Leg) : (parkLeg s l).prt = s.prt :=
  same_of_drop (m := 558345797632) (parkLeg_drop s l rfl) .prt rfl
@[simp] theorem parkLeg_dvt (s : State) (l : Leg) : (parkLeg s l).dvt = s.dvt :=
  same_of_drop (m := 558345797632) (parkLeg_drop s l rfl) .dvt rfl
@[simp] theorem parkLeg_lsw (s : State) (l : Leg) : (parkLeg s l).lsw = s.lsw :=
  same_of_drop (m := 558345797632) (parkLeg_drop s l rfl) .lsw rfl
@[simp] theorem parkLeg_lbus (s : State) (l : Leg) : (parkLeg s l).lbus = s.lbus :=
  same_of_drop (m := 558345797632) (parkLeg_drop s l rfl) .lbus rfl
@[simp] theorem parkLeg_pwr (s : State) (l : Leg) : (parkLeg s l).pwr = s.pwr :=
  same_of_drop (m := 558345797632) (parkLeg_drop s l rfl) .pwr rfl
@[simp] theorem parkLeg_sec (s : State) (l : Leg) : (parkLeg s l).sec = s.sec :=
  same_of_drop (m := 558345797632) (parkLeg_drop s l rfl) .sec rfl
@[simp] theorem parkLeg_mnt (s : State) (l : Leg) : (parkLeg s l).mnt = s.mnt :=
  same_of_drop (m := 558345797632) (parkLeg_drop s l rfl) .mnt rfl
@[simp] theorem parkLeg_outbox (s : State) (l : Leg) : (parkLeg s l).outbox = s.outbox :=
  same_of_drop (m := 558345797632) (parkLeg_drop s l rfl) .outbox rfl
@[simp] theorem parkLeg_glk_fireHold (s : State) (l : Leg) : (parkLeg s l).glk.fireHold = s.glk.fireHold := by
  have h := same_of_drop (m := 558345797632) (parkLeg_drop s l rfl) .switch rfl
  simp only [Block.same] at h; simp only [h]
@[simp] theorem parkLeg_glk_fireAll (s : State) (l : Leg) : (parkLeg s l).glk.fireAll = s.glk.fireAll := by
  have h := same_of_drop (m := 558345797632) (parkLeg_drop s l rfl) .switch rfl
  simp only [Block.same] at h; simp only [h]
@[simp] theorem parkLeg_glk_closeAsserted (s : State) (l : Leg) : (parkLeg s l).glk.closeAsserted = s.glk.closeAsserted := by
  have h := same_of_drop (m := 558345797632) (parkLeg_drop s l rfl) .switch rfl
  simp only [Block.same] at h; simp only [h]
@[simp] theorem parkLeg_glk_closeDue (s : State) (l : Leg) : (parkLeg s l).glk.closeDue = s.glk.closeDue := by
  have h := same_of_drop (m := 558345797632) (parkLeg_drop s l rfl) .switch rfl
  simp only [Block.same] at h; simp only [h]
@[simp] theorem parkLeg_glk_statClosed (s : State) (l : Leg) : (parkLeg s l).glk.statClosed = s.glk.statClosed := by
  have h := same_of_drop (m := 558345797632) (parkLeg_drop s l rfl) .switch rfl
  simp only [Block.same] at h; simp only [h]
@[simp] theorem legFault_dev (s : State) (i : Fin 4) (cause : Nat) : (legFault s i cause).dev = s.dev :=
  same_of_drop (m := 1799684595712) (legFault_drop s i cause rfl) .dev rfl
@[simp] theorem legFault_eng (s : State) (i : Fin 4) (cause : Nat) : (legFault s i cause).eng = s.eng :=
  same_of_drop (m := 1799684595712) (legFault_drop s i cause rfl) .eng rfl
@[simp] theorem legFault_img (s : State) (i : Fin 4) (cause : Nat) : (legFault s i cause).img = s.img :=
  same_of_drop (m := 1799684595712) (legFault_drop s i cause rfl) .img rfl
@[simp] theorem legFault_spl (s : State) (i : Fin 4) (cause : Nat) : (legFault s i cause).spl = s.spl :=
  same_of_drop (m := 1799684595712) (legFault_drop s i cause rfl) .spl rfl
@[simp] theorem legFault_tim (s : State) (i : Fin 4) (cause : Nat) : (legFault s i cause).tim = s.tim :=
  same_of_drop (m := 1799684595712) (legFault_drop s i cause rfl) .tim rfl
@[simp] theorem legFault_arm_cell (s : State) (i : Fin 4) (cause : Nat) : (legFault s i cause).arm.cell = s.arm.cell := by
  have h := same_of_drop (m := 1799684595712) (legFault_drop s i cause rfl) .cell rfl
  simp only [Block.same] at h; simp only [h]
@[simp] theorem legFault_arm_changes (s : State) (i : Fin 4) (cause : Nat) : (legFault s i cause).arm.changes = s.arm.changes := by
  have h := same_of_drop (m := 1799684595712) (legFault_drop s i cause rfl) .cell rfl
  simp only [Block.same] at h; simp only [h]
@[simp] theorem legFault_arm_owner (s : State) (i : Fin 4) (cause : Nat) : (legFault s i cause).arm.owner = s.arm.owner := by
  have h := same_of_drop (m := 1799684595712) (legFault_drop s i cause rfl) .token rfl
  exact h
@[simp] theorem legFault_arm_bypassed (s : State) (i : Fin 4) (cause : Nat) : (legFault s i cause).arm.bypassed = s.arm.bypassed := by
  have h := same_of_drop (m := 1799684595712) (legFault_drop s i cause rfl) .bypass rfl
  exact h
@[simp] theorem legFault_pwm (s : State) (i : Fin 4) (cause : Nat) : (legFault s i cause).pwm = s.pwm :=
  same_of_drop (m := 1799684595712) (legFault_drop s i cause rfl) .pwm rfl
@[simp] theorem legFault_esA (s : State) (i : Fin 4) (cause : Nat) : (legFault s i cause).esA = s.esA :=
  same_of_drop (m := 1799684595712) (legFault_drop s i cause rfl) .esA rfl
@[simp] theorem legFault_esB (s : State) (i : Fin 4) (cause : Nat) : (legFault s i cause).esB = s.esB :=
  same_of_drop (m := 1799684595712) (legFault_drop s i cause rfl) .esB rfl
@[simp] theorem legFault_est (s : State) (i : Fin 4) (cause : Nat) : (legFault s i cause).est = s.est :=
  same_of_drop (m := 1799684595712) (legFault_drop s i cause rfl) .est rfl
@[simp] theorem legFault_dvt (s : State) (i : Fin 4) (cause : Nat) : (legFault s i cause).dvt = s.dvt :=
  same_of_drop (m := 1799684595712) (legFault_drop s i cause rfl) .dvt rfl
@[simp] theorem legFault_lbus (s : State) (i : Fin 4) (cause : Nat) : (legFault s i cause).lbus = s.lbus :=
  same_of_drop (m := 1799684595712) (legFault_drop s i cause rfl) .lbus rfl
@[simp] theorem legFault_pwr (s : State) (i : Fin 4) (cause : Nat) : (legFault s i cause).pwr = s.pwr :=
  same_of_drop (m := 1799684595712) (legFault_drop s i cause rfl) .pwr rfl
@[simp] theorem legFault_sec (s : State) (i : Fin 4) (cause : Nat) : (legFault s i cause).sec = s.sec :=
  same_of_drop (m := 1799684595712) (legFault_drop s i cause rfl) .sec rfl
@[simp] theorem legFault_glk_fireHold (s : State) (i : Fin 4) (cause : Nat) : (legFault s i cause).glk.fireHold = s.glk.fireHold := by
  have h := same_of_drop (m := 1799684595712) (legFault_drop s i cause rfl) .switch rfl
  simp only [Block.same] at h; simp only [h]
@[simp] theorem legFault_glk_fireAll (s : State) (i : Fin 4) (cause : Nat) : (legFault s i cause).glk.fireAll = s.glk.fireAll := by
  have h := same_of_drop (m := 1799684595712) (legFault_drop s i cause rfl) .switch rfl
  simp only [Block.same] at h; simp only [h]
@[simp] theorem legFault_glk_closeAsserted (s : State) (i : Fin 4) (cause : Nat) : (legFault s i cause).glk.closeAsserted = s.glk.closeAsserted := by
  have h := same_of_drop (m := 1799684595712) (legFault_drop s i cause rfl) .switch rfl
  simp only [Block.same] at h; simp only [h]
@[simp] theorem legFault_glk_closeDue (s : State) (i : Fin 4) (cause : Nat) : (legFault s i cause).glk.closeDue = s.glk.closeDue := by
  have h := same_of_drop (m := 1799684595712) (legFault_drop s i cause rfl) .switch rfl
  simp only [Block.same] at h; simp only [h]
@[simp] theorem legFault_glk_statClosed (s : State) (i : Fin 4) (cause : Nat) : (legFault s i cause).glk.statClosed = s.glk.statClosed := by
  have h := same_of_drop (m := 1799684595712) (legFault_drop s i cause rfl) .switch rfl
  simp only [Block.same] at h; simp only [h]
@[simp] theorem legFault_thm_sdHotA (s : State) (i : Fin 4) (cause : Nat) : (legFault s i cause).thm.sdHotA = s.thm.sdHotA := by
  have h := same_of_drop (m := 1799684595712) (legFault_drop s i cause rfl) .shutdown rfl
  simp only [Block.same] at h; simp only [h]
@[simp] theorem legFault_thm_sdHotB (s : State) (i : Fin 4) (cause : Nat) : (legFault s i cause).thm.sdHotB = s.thm.sdHotB := by
  have h := same_of_drop (m := 1799684595712) (legFault_drop s i cause rfl) .shutdown rfl
  simp only [Block.same] at h; simp only [h]
@[simp] theorem legFault_thm_sdColdA (s : State) (i : Fin 4) (cause : Nat) : (legFault s i cause).thm.sdColdA = s.thm.sdColdA := by
  have h := same_of_drop (m := 1799684595712) (legFault_drop s i cause rfl) .shutdown rfl
  simp only [Block.same] at h; simp only [h]
@[simp] theorem legFault_thm_sdColdB (s : State) (i : Fin 4) (cause : Nat) : (legFault s i cause).thm.sdColdB = s.thm.sdColdB := by
  have h := same_of_drop (m := 1799684595712) (legFault_drop s i cause rfl) .shutdown rfl
  simp only [Block.same] at h; simp only [h]
@[simp] theorem recordFrame_dev (s : State) (i : Fin 4) (bits : BitVec 16) : (recordFrame s i bits).dev = s.dev :=
  same_of_drop (m := 32768) (recordFrame_drop s i bits rfl) .dev rfl
@[simp] theorem recordFrame_eng (s : State) (i : Fin 4) (bits : BitVec 16) : (recordFrame s i bits).eng = s.eng :=
  same_of_drop (m := 32768) (recordFrame_drop s i bits rfl) .eng rfl
@[simp] theorem recordFrame_img (s : State) (i : Fin 4) (bits : BitVec 16) : (recordFrame s i bits).img = s.img :=
  same_of_drop (m := 32768) (recordFrame_drop s i bits rfl) .img rfl
@[simp] theorem recordFrame_spl (s : State) (i : Fin 4) (bits : BitVec 16) : (recordFrame s i bits).spl = s.spl :=
  same_of_drop (m := 32768) (recordFrame_drop s i bits rfl) .spl rfl
@[simp] theorem recordFrame_tim (s : State) (i : Fin 4) (bits : BitVec 16) : (recordFrame s i bits).tim = s.tim :=
  same_of_drop (m := 32768) (recordFrame_drop s i bits rfl) .tim rfl
@[simp] theorem recordFrame_arm (s : State) (i : Fin 4) (bits : BitVec 16) : (recordFrame s i bits).arm = s.arm :=
  same_of_drop (m := 32768) (recordFrame_drop s i bits rfl) .arm rfl
@[simp] theorem recordFrame_pwm (s : State) (i : Fin 4) (bits : BitVec 16) : (recordFrame s i bits).pwm = s.pwm :=
  same_of_drop (m := 32768) (recordFrame_drop s i bits rfl) .pwm rfl
@[simp] theorem recordFrame_chA (s : State) (i : Fin 4) (bits : BitVec 16) : (recordFrame s i bits).chA = s.chA :=
  same_of_drop (m := 32768) (recordFrame_drop s i bits rfl) .chA rfl
@[simp] theorem recordFrame_chB (s : State) (i : Fin 4) (bits : BitVec 16) : (recordFrame s i bits).chB = s.chB :=
  same_of_drop (m := 32768) (recordFrame_drop s i bits rfl) .chB rfl
@[simp] theorem recordFrame_snA (s : State) (i : Fin 4) (bits : BitVec 16) : (recordFrame s i bits).snA = s.snA :=
  same_of_drop (m := 32768) (recordFrame_drop s i bits rfl) .snA rfl
@[simp] theorem recordFrame_snB (s : State) (i : Fin 4) (bits : BitVec 16) : (recordFrame s i bits).snB = s.snB :=
  same_of_drop (m := 32768) (recordFrame_drop s i bits rfl) .snB rfl
@[simp] theorem recordFrame_esA (s : State) (i : Fin 4) (bits : BitVec 16) : (recordFrame s i bits).esA = s.esA :=
  same_of_drop (m := 32768) (recordFrame_drop s i bits rfl) .esA rfl
@[simp] theorem recordFrame_esB (s : State) (i : Fin 4) (bits : BitVec 16) : (recordFrame s i bits).esB = s.esB :=
  same_of_drop (m := 32768) (recordFrame_drop s i bits rfl) .esB rfl
@[simp] theorem recordFrame_est (s : State) (i : Fin 4) (bits : BitVec 16) : (recordFrame s i bits).est = s.est :=
  same_of_drop (m := 32768) (recordFrame_drop s i bits rfl) .est rfl
@[simp] theorem recordFrame_thm (s : State) (i : Fin 4) (bits : BitVec 16) : (recordFrame s i bits).thm = s.thm :=
  same_of_drop (m := 32768) (recordFrame_drop s i bits rfl) .thm rfl
@[simp] theorem recordFrame_prt (s : State) (i : Fin 4) (bits : BitVec 16) : (recordFrame s i bits).prt = s.prt :=
  same_of_drop (m := 32768) (recordFrame_drop s i bits rfl) .prt rfl
@[simp] theorem recordFrame_dvt (s : State) (i : Fin 4) (bits : BitVec 16) : (recordFrame s i bits).dvt = s.dvt :=
  same_of_drop (m := 32768) (recordFrame_drop s i bits rfl) .dvt rfl
@[simp] theorem recordFrame_lsw (s : State) (i : Fin 4) (bits : BitVec 16) : (recordFrame s i bits).lsw = s.lsw :=
  same_of_drop (m := 32768) (recordFrame_drop s i bits rfl) .lsw rfl
@[simp] theorem recordFrame_lbus (s : State) (i : Fin 4) (bits : BitVec 16) : (recordFrame s i bits).lbus = s.lbus :=
  same_of_drop (m := 32768) (recordFrame_drop s i bits rfl) .lbus rfl
@[simp] theorem recordFrame_pwr (s : State) (i : Fin 4) (bits : BitVec 16) : (recordFrame s i bits).pwr = s.pwr :=
  same_of_drop (m := 32768) (recordFrame_drop s i bits rfl) .pwr rfl
@[simp] theorem recordFrame_sec (s : State) (i : Fin 4) (bits : BitVec 16) : (recordFrame s i bits).sec = s.sec :=
  same_of_drop (m := 32768) (recordFrame_drop s i bits rfl) .sec rfl
@[simp] theorem recordFrame_mnt (s : State) (i : Fin 4) (bits : BitVec 16) : (recordFrame s i bits).mnt = s.mnt :=
  same_of_drop (m := 32768) (recordFrame_drop s i bits rfl) .mnt rfl
@[simp] theorem recordFrame_evt (s : State) (i : Fin 4) (bits : BitVec 16) : (recordFrame s i bits).evt = s.evt :=
  same_of_drop (m := 32768) (recordFrame_drop s i bits rfl) .evt rfl
@[simp] theorem recordFrame_outbox (s : State) (i : Fin 4) (bits : BitVec 16) : (recordFrame s i bits).outbox = s.outbox :=
  same_of_drop (m := 32768) (recordFrame_drop s i bits rfl) .outbox rfl
@[simp] theorem recordFrame_glk_legA (s : State) (i : Fin 4) (bits : BitVec 16) : (recordFrame s i bits).glk.legA = s.glk.legA := by
  have h := same_of_drop (m := 32768) (recordFrame_drop s i bits rfl) .legs rfl
  simp only [Block.same] at h; simp only [h]
@[simp] theorem recordFrame_glk_legB (s : State) (i : Fin 4) (bits : BitVec 16) : (recordFrame s i bits).glk.legB = s.glk.legB := by
  have h := same_of_drop (m := 32768) (recordFrame_drop s i bits rfl) .legs rfl
  simp only [Block.same] at h; simp only [h]
@[simp] theorem recordFrame_glk_fireHold (s : State) (i : Fin 4) (bits : BitVec 16) : (recordFrame s i bits).glk.fireHold = s.glk.fireHold := by
  have h := same_of_drop (m := 32768) (recordFrame_drop s i bits rfl) .switch rfl
  simp only [Block.same] at h; simp only [h]
@[simp] theorem recordFrame_glk_fireAll (s : State) (i : Fin 4) (bits : BitVec 16) : (recordFrame s i bits).glk.fireAll = s.glk.fireAll := by
  have h := same_of_drop (m := 32768) (recordFrame_drop s i bits rfl) .switch rfl
  simp only [Block.same] at h; simp only [h]
@[simp] theorem recordFrame_glk_closeAsserted (s : State) (i : Fin 4) (bits : BitVec 16) : (recordFrame s i bits).glk.closeAsserted = s.glk.closeAsserted := by
  have h := same_of_drop (m := 32768) (recordFrame_drop s i bits rfl) .switch rfl
  simp only [Block.same] at h; simp only [h]
@[simp] theorem recordFrame_glk_closeDue (s : State) (i : Fin 4) (bits : BitVec 16) : (recordFrame s i bits).glk.closeDue = s.glk.closeDue := by
  have h := same_of_drop (m := 32768) (recordFrame_drop s i bits rfl) .switch rfl
  simp only [Block.same] at h; simp only [h]
@[simp] theorem recordFrame_glk_statClosed (s : State) (i : Fin 4) (bits : BitVec 16) : (recordFrame s i bits).glk.statClosed = s.glk.statClosed := by
  have h := same_of_drop (m := 32768) (recordFrame_drop s i bits rfl) .switch rfl
  simp only [Block.same] at h; simp only [h]
@[simp] theorem endHold_dev (s : State) (l : Leg) (reason : Nat) : (endHold s l reason).dev = s.dev :=
  same_of_drop (m := 8589983744) (endHold_drop s l reason rfl) .dev rfl
@[simp] theorem endHold_eng (s : State) (l : Leg) (reason : Nat) : (endHold s l reason).eng = s.eng :=
  same_of_drop (m := 8589983744) (endHold_drop s l reason rfl) .eng rfl
@[simp] theorem endHold_img (s : State) (l : Leg) (reason : Nat) : (endHold s l reason).img = s.img :=
  same_of_drop (m := 8589983744) (endHold_drop s l reason rfl) .img rfl
@[simp] theorem endHold_spl (s : State) (l : Leg) (reason : Nat) : (endHold s l reason).spl = s.spl :=
  same_of_drop (m := 8589983744) (endHold_drop s l reason rfl) .spl rfl
@[simp] theorem endHold_tim (s : State) (l : Leg) (reason : Nat) : (endHold s l reason).tim = s.tim :=
  same_of_drop (m := 8589983744) (endHold_drop s l reason rfl) .tim rfl
@[simp] theorem endHold_arm (s : State) (l : Leg) (reason : Nat) : (endHold s l reason).arm = s.arm :=
  same_of_drop (m := 8589983744) (endHold_drop s l reason rfl) .arm rfl
@[simp] theorem endHold_chA (s : State) (l : Leg) (reason : Nat) : (endHold s l reason).chA = s.chA :=
  same_of_drop (m := 8589983744) (endHold_drop s l reason rfl) .chA rfl
@[simp] theorem endHold_chB (s : State) (l : Leg) (reason : Nat) : (endHold s l reason).chB = s.chB :=
  same_of_drop (m := 8589983744) (endHold_drop s l reason rfl) .chB rfl
@[simp] theorem endHold_snA (s : State) (l : Leg) (reason : Nat) : (endHold s l reason).snA = s.snA :=
  same_of_drop (m := 8589983744) (endHold_drop s l reason rfl) .snA rfl
@[simp] theorem endHold_snB (s : State) (l : Leg) (reason : Nat) : (endHold s l reason).snB = s.snB :=
  same_of_drop (m := 8589983744) (endHold_drop s l reason rfl) .snB rfl
@[simp] theorem endHold_esA (s : State) (l : Leg) (reason : Nat) : (endHold s l reason).esA = s.esA :=
  same_of_drop (m := 8589983744) (endHold_drop s l reason rfl) .esA rfl
@[simp] theorem endHold_esB (s : State) (l : Leg) (reason : Nat) : (endHold s l reason).esB = s.esB :=
  same_of_drop (m := 8589983744) (endHold_drop s l reason rfl) .esB rfl
@[simp] theorem endHold_est (s : State) (l : Leg) (reason : Nat) : (endHold s l reason).est = s.est :=
  same_of_drop (m := 8589983744) (endHold_drop s l reason rfl) .est rfl
@[simp] theorem endHold_thm (s : State) (l : Leg) (reason : Nat) : (endHold s l reason).thm = s.thm :=
  same_of_drop (m := 8589983744) (endHold_drop s l reason rfl) .thm rfl
@[simp] theorem endHold_prt (s : State) (l : Leg) (reason : Nat) : (endHold s l reason).prt = s.prt :=
  same_of_drop (m := 8589983744) (endHold_drop s l reason rfl) .prt rfl
@[simp] theorem endHold_dvt (s : State) (l : Leg) (reason : Nat) : (endHold s l reason).dvt = s.dvt :=
  same_of_drop (m := 8589983744) (endHold_drop s l reason rfl) .dvt rfl
@[simp] theorem endHold_lsw (s : State) (l : Leg) (reason : Nat) : (endHold s l reason).lsw = s.lsw :=
  same_of_drop (m := 8589983744) (endHold_drop s l reason rfl) .lsw rfl
@[simp] theorem endHold_lbus (s : State) (l : Leg) (reason : Nat) : (endHold s l reason).lbus = s.lbus :=
  same_of_drop (m := 8589983744) (endHold_drop s l reason rfl) .lbus rfl
@[simp] theorem endHold_pwr (s : State) (l : Leg) (reason : Nat) : (endHold s l reason).pwr = s.pwr :=
  same_of_drop (m := 8589983744) (endHold_drop s l reason rfl) .pwr rfl
@[simp] theorem endHold_sec (s : State) (l : Leg) (reason : Nat) : (endHold s l reason).sec = s.sec :=
  same_of_drop (m := 8589983744) (endHold_drop s l reason rfl) .sec rfl
@[simp] theorem endHold_mnt (s : State) (l : Leg) (reason : Nat) : (endHold s l reason).mnt = s.mnt :=
  same_of_drop (m := 8589983744) (endHold_drop s l reason rfl) .mnt rfl
@[simp] theorem endHold_outbox (s : State) (l : Leg) (reason : Nat) : (endHold s l reason).outbox = s.outbox :=
  same_of_drop (m := 8589983744) (endHold_drop s l reason rfl) .outbox rfl
@[simp] theorem endHold_glk_legA (s : State) (l : Leg) (reason : Nat) : (endHold s l reason).glk.legA = s.glk.legA := by
  have h := same_of_drop (m := 8589983744) (endHold_drop s l reason rfl) .legs rfl
  simp only [Block.same] at h; simp only [h]
@[simp] theorem endHold_glk_legB (s : State) (l : Leg) (reason : Nat) : (endHold s l reason).glk.legB = s.glk.legB := by
  have h := same_of_drop (m := 8589983744) (endHold_drop s l reason rfl) .legs rfl
  simp only [Block.same] at h; simp only [h]
@[simp] theorem endHold_glk_fireHold (s : State) (l : Leg) (reason : Nat) : (endHold s l reason).glk.fireHold = s.glk.fireHold := by
  have h := same_of_drop (m := 8589983744) (endHold_drop s l reason rfl) .switch rfl
  simp only [Block.same] at h; simp only [h]
@[simp] theorem endHold_glk_fireAll (s : State) (l : Leg) (reason : Nat) : (endHold s l reason).glk.fireAll = s.glk.fireAll := by
  have h := same_of_drop (m := 8589983744) (endHold_drop s l reason rfl) .switch rfl
  simp only [Block.same] at h; simp only [h]
@[simp] theorem endHold_glk_closeAsserted (s : State) (l : Leg) (reason : Nat) : (endHold s l reason).glk.closeAsserted = s.glk.closeAsserted := by
  have h := same_of_drop (m := 8589983744) (endHold_drop s l reason rfl) .switch rfl
  simp only [Block.same] at h; simp only [h]
@[simp] theorem endHold_glk_closeDue (s : State) (l : Leg) (reason : Nat) : (endHold s l reason).glk.closeDue = s.glk.closeDue := by
  have h := same_of_drop (m := 8589983744) (endHold_drop s l reason rfl) .switch rfl
  simp only [Block.same] at h; simp only [h]
@[simp] theorem endHold_glk_statClosed (s : State) (l : Leg) (reason : Nat) : (endHold s l reason).glk.statClosed = s.glk.statClosed := by
  have h := same_of_drop (m := 8589983744) (endHold_drop s l reason rfl) .switch rfl
  simp only [Block.same] at h; simp only [h]
@[simp] theorem logLegFail_dev (s : State) (l : Leg) : (logLegFail s l).dev = s.dev :=
  same_of_drop (m := 8589934592) (logLegFail_drop s l rfl) .dev rfl
@[simp] theorem logLegFail_eng (s : State) (l : Leg) : (logLegFail s l).eng = s.eng :=
  same_of_drop (m := 8589934592) (logLegFail_drop s l rfl) .eng rfl
@[simp] theorem logLegFail_img (s : State) (l : Leg) : (logLegFail s l).img = s.img :=
  same_of_drop (m := 8589934592) (logLegFail_drop s l rfl) .img rfl
@[simp] theorem logLegFail_spl (s : State) (l : Leg) : (logLegFail s l).spl = s.spl :=
  same_of_drop (m := 8589934592) (logLegFail_drop s l rfl) .spl rfl
@[simp] theorem logLegFail_tim (s : State) (l : Leg) : (logLegFail s l).tim = s.tim :=
  same_of_drop (m := 8589934592) (logLegFail_drop s l rfl) .tim rfl
@[simp] theorem logLegFail_arm (s : State) (l : Leg) : (logLegFail s l).arm = s.arm :=
  same_of_drop (m := 8589934592) (logLegFail_drop s l rfl) .arm rfl
@[simp] theorem logLegFail_pwm (s : State) (l : Leg) : (logLegFail s l).pwm = s.pwm :=
  same_of_drop (m := 8589934592) (logLegFail_drop s l rfl) .pwm rfl
@[simp] theorem logLegFail_glk (s : State) (l : Leg) : (logLegFail s l).glk = s.glk :=
  same_of_drop (m := 8589934592) (logLegFail_drop s l rfl) .glk rfl
@[simp] theorem logLegFail_chA (s : State) (l : Leg) : (logLegFail s l).chA = s.chA :=
  same_of_drop (m := 8589934592) (logLegFail_drop s l rfl) .chA rfl
@[simp] theorem logLegFail_chB (s : State) (l : Leg) : (logLegFail s l).chB = s.chB :=
  same_of_drop (m := 8589934592) (logLegFail_drop s l rfl) .chB rfl
@[simp] theorem logLegFail_snA (s : State) (l : Leg) : (logLegFail s l).snA = s.snA :=
  same_of_drop (m := 8589934592) (logLegFail_drop s l rfl) .snA rfl
@[simp] theorem logLegFail_snB (s : State) (l : Leg) : (logLegFail s l).snB = s.snB :=
  same_of_drop (m := 8589934592) (logLegFail_drop s l rfl) .snB rfl
@[simp] theorem logLegFail_esA (s : State) (l : Leg) : (logLegFail s l).esA = s.esA :=
  same_of_drop (m := 8589934592) (logLegFail_drop s l rfl) .esA rfl
@[simp] theorem logLegFail_esB (s : State) (l : Leg) : (logLegFail s l).esB = s.esB :=
  same_of_drop (m := 8589934592) (logLegFail_drop s l rfl) .esB rfl
@[simp] theorem logLegFail_est (s : State) (l : Leg) : (logLegFail s l).est = s.est :=
  same_of_drop (m := 8589934592) (logLegFail_drop s l rfl) .est rfl
@[simp] theorem logLegFail_thm (s : State) (l : Leg) : (logLegFail s l).thm = s.thm :=
  same_of_drop (m := 8589934592) (logLegFail_drop s l rfl) .thm rfl
@[simp] theorem logLegFail_prt (s : State) (l : Leg) : (logLegFail s l).prt = s.prt :=
  same_of_drop (m := 8589934592) (logLegFail_drop s l rfl) .prt rfl
@[simp] theorem logLegFail_dvt (s : State) (l : Leg) : (logLegFail s l).dvt = s.dvt :=
  same_of_drop (m := 8589934592) (logLegFail_drop s l rfl) .dvt rfl
@[simp] theorem logLegFail_lsw (s : State) (l : Leg) : (logLegFail s l).lsw = s.lsw :=
  same_of_drop (m := 8589934592) (logLegFail_drop s l rfl) .lsw rfl
@[simp] theorem logLegFail_lbus (s : State) (l : Leg) : (logLegFail s l).lbus = s.lbus :=
  same_of_drop (m := 8589934592) (logLegFail_drop s l rfl) .lbus rfl
@[simp] theorem logLegFail_pwr (s : State) (l : Leg) : (logLegFail s l).pwr = s.pwr :=
  same_of_drop (m := 8589934592) (logLegFail_drop s l rfl) .pwr rfl
@[simp] theorem logLegFail_sec (s : State) (l : Leg) : (logLegFail s l).sec = s.sec :=
  same_of_drop (m := 8589934592) (logLegFail_drop s l rfl) .sec rfl
@[simp] theorem logLegFail_mnt (s : State) (l : Leg) : (logLegFail s l).mnt = s.mnt :=
  same_of_drop (m := 8589934592) (logLegFail_drop s l rfl) .mnt rfl
@[simp] theorem logLegFail_outbox (s : State) (l : Leg) : (logLegFail s l).outbox = s.outbox :=
  same_of_drop (m := 8589934592) (logLegFail_drop s l rfl) .outbox rfl
@[simp] theorem markTest_dev (s : State) (l : Leg) (pass : Bool) : (markTest s l pass).dev = s.dev :=
  same_of_drop (m := 32768) (markTest_drop s l pass rfl) .dev rfl
@[simp] theorem markTest_eng (s : State) (l : Leg) (pass : Bool) : (markTest s l pass).eng = s.eng :=
  same_of_drop (m := 32768) (markTest_drop s l pass rfl) .eng rfl
@[simp] theorem markTest_img (s : State) (l : Leg) (pass : Bool) : (markTest s l pass).img = s.img :=
  same_of_drop (m := 32768) (markTest_drop s l pass rfl) .img rfl
@[simp] theorem markTest_spl (s : State) (l : Leg) (pass : Bool) : (markTest s l pass).spl = s.spl :=
  same_of_drop (m := 32768) (markTest_drop s l pass rfl) .spl rfl
@[simp] theorem markTest_tim (s : State) (l : Leg) (pass : Bool) : (markTest s l pass).tim = s.tim :=
  same_of_drop (m := 32768) (markTest_drop s l pass rfl) .tim rfl
@[simp] theorem markTest_arm (s : State) (l : Leg) (pass : Bool) : (markTest s l pass).arm = s.arm :=
  same_of_drop (m := 32768) (markTest_drop s l pass rfl) .arm rfl
@[simp] theorem markTest_pwm (s : State) (l : Leg) (pass : Bool) : (markTest s l pass).pwm = s.pwm :=
  same_of_drop (m := 32768) (markTest_drop s l pass rfl) .pwm rfl
@[simp] theorem markTest_chA (s : State) (l : Leg) (pass : Bool) : (markTest s l pass).chA = s.chA :=
  same_of_drop (m := 32768) (markTest_drop s l pass rfl) .chA rfl
@[simp] theorem markTest_chB (s : State) (l : Leg) (pass : Bool) : (markTest s l pass).chB = s.chB :=
  same_of_drop (m := 32768) (markTest_drop s l pass rfl) .chB rfl
@[simp] theorem markTest_snA (s : State) (l : Leg) (pass : Bool) : (markTest s l pass).snA = s.snA :=
  same_of_drop (m := 32768) (markTest_drop s l pass rfl) .snA rfl
@[simp] theorem markTest_snB (s : State) (l : Leg) (pass : Bool) : (markTest s l pass).snB = s.snB :=
  same_of_drop (m := 32768) (markTest_drop s l pass rfl) .snB rfl
@[simp] theorem markTest_esA (s : State) (l : Leg) (pass : Bool) : (markTest s l pass).esA = s.esA :=
  same_of_drop (m := 32768) (markTest_drop s l pass rfl) .esA rfl
@[simp] theorem markTest_esB (s : State) (l : Leg) (pass : Bool) : (markTest s l pass).esB = s.esB :=
  same_of_drop (m := 32768) (markTest_drop s l pass rfl) .esB rfl
@[simp] theorem markTest_est (s : State) (l : Leg) (pass : Bool) : (markTest s l pass).est = s.est :=
  same_of_drop (m := 32768) (markTest_drop s l pass rfl) .est rfl
@[simp] theorem markTest_thm (s : State) (l : Leg) (pass : Bool) : (markTest s l pass).thm = s.thm :=
  same_of_drop (m := 32768) (markTest_drop s l pass rfl) .thm rfl
@[simp] theorem markTest_prt (s : State) (l : Leg) (pass : Bool) : (markTest s l pass).prt = s.prt :=
  same_of_drop (m := 32768) (markTest_drop s l pass rfl) .prt rfl
@[simp] theorem markTest_dvt (s : State) (l : Leg) (pass : Bool) : (markTest s l pass).dvt = s.dvt :=
  same_of_drop (m := 32768) (markTest_drop s l pass rfl) .dvt rfl
@[simp] theorem markTest_lsw (s : State) (l : Leg) (pass : Bool) : (markTest s l pass).lsw = s.lsw :=
  same_of_drop (m := 32768) (markTest_drop s l pass rfl) .lsw rfl
@[simp] theorem markTest_lbus (s : State) (l : Leg) (pass : Bool) : (markTest s l pass).lbus = s.lbus :=
  same_of_drop (m := 32768) (markTest_drop s l pass rfl) .lbus rfl
@[simp] theorem markTest_pwr (s : State) (l : Leg) (pass : Bool) : (markTest s l pass).pwr = s.pwr :=
  same_of_drop (m := 32768) (markTest_drop s l pass rfl) .pwr rfl
@[simp] theorem markTest_sec (s : State) (l : Leg) (pass : Bool) : (markTest s l pass).sec = s.sec :=
  same_of_drop (m := 32768) (markTest_drop s l pass rfl) .sec rfl
@[simp] theorem markTest_mnt (s : State) (l : Leg) (pass : Bool) : (markTest s l pass).mnt = s.mnt :=
  same_of_drop (m := 32768) (markTest_drop s l pass rfl) .mnt rfl
@[simp] theorem markTest_evt (s : State) (l : Leg) (pass : Bool) : (markTest s l pass).evt = s.evt :=
  same_of_drop (m := 32768) (markTest_drop s l pass rfl) .evt rfl
@[simp] theorem markTest_outbox (s : State) (l : Leg) (pass : Bool) : (markTest s l pass).outbox = s.outbox :=
  same_of_drop (m := 32768) (markTest_drop s l pass rfl) .outbox rfl
@[simp] theorem markTest_glk_legA (s : State) (l : Leg) (pass : Bool) : (markTest s l pass).glk.legA = s.glk.legA := by
  have h := same_of_drop (m := 32768) (markTest_drop s l pass rfl) .legs rfl
  simp only [Block.same] at h; simp only [h]
@[simp] theorem markTest_glk_legB (s : State) (l : Leg) (pass : Bool) : (markTest s l pass).glk.legB = s.glk.legB := by
  have h := same_of_drop (m := 32768) (markTest_drop s l pass rfl) .legs rfl
  simp only [Block.same] at h; simp only [h]
@[simp] theorem markTest_glk_fireHold (s : State) (l : Leg) (pass : Bool) : (markTest s l pass).glk.fireHold = s.glk.fireHold := by
  have h := same_of_drop (m := 32768) (markTest_drop s l pass rfl) .switch rfl
  simp only [Block.same] at h; simp only [h]
@[simp] theorem markTest_glk_fireAll (s : State) (l : Leg) (pass : Bool) : (markTest s l pass).glk.fireAll = s.glk.fireAll := by
  have h := same_of_drop (m := 32768) (markTest_drop s l pass rfl) .switch rfl
  simp only [Block.same] at h; simp only [h]
@[simp] theorem markTest_glk_closeAsserted (s : State) (l : Leg) (pass : Bool) : (markTest s l pass).glk.closeAsserted = s.glk.closeAsserted := by
  have h := same_of_drop (m := 32768) (markTest_drop s l pass rfl) .switch rfl
  simp only [Block.same] at h; simp only [h]
@[simp] theorem markTest_glk_closeDue (s : State) (l : Leg) (pass : Bool) : (markTest s l pass).glk.closeDue = s.glk.closeDue := by
  have h := same_of_drop (m := 32768) (markTest_drop s l pass rfl) .switch rfl
  simp only [Block.same] at h; simp only [h]
@[simp] theorem markTest_glk_statClosed (s : State) (l : Leg) (pass : Bool) : (markTest s l pass).glk.statClosed = s.glk.statClosed := by
  have h := same_of_drop (m := 32768) (markTest_drop s l pass rfl) .switch rfl
  simp only [Block.same] at h; simp only [h]
@[simp] theorem startRetest_dev (s : State) (l : Leg) : (startRetest s l).dev = s.dev :=
  same_of_drop (m := 8589967360) (startRetest_drop s l rfl) .dev rfl
@[simp] theorem startRetest_eng (s : State) (l : Leg) : (startRetest s l).eng = s.eng :=
  same_of_drop (m := 8589967360) (startRetest_drop s l rfl) .eng rfl
@[simp] theorem startRetest_img (s : State) (l : Leg) : (startRetest s l).img = s.img :=
  same_of_drop (m := 8589967360) (startRetest_drop s l rfl) .img rfl
@[simp] theorem startRetest_spl (s : State) (l : Leg) : (startRetest s l).spl = s.spl :=
  same_of_drop (m := 8589967360) (startRetest_drop s l rfl) .spl rfl
@[simp] theorem startRetest_tim (s : State) (l : Leg) : (startRetest s l).tim = s.tim :=
  same_of_drop (m := 8589967360) (startRetest_drop s l rfl) .tim rfl
@[simp] theorem startRetest_arm (s : State) (l : Leg) : (startRetest s l).arm = s.arm :=
  same_of_drop (m := 8589967360) (startRetest_drop s l rfl) .arm rfl
@[simp] theorem startRetest_pwm (s : State) (l : Leg) : (startRetest s l).pwm = s.pwm :=
  same_of_drop (m := 8589967360) (startRetest_drop s l rfl) .pwm rfl
@[simp] theorem startRetest_chA (s : State) (l : Leg) : (startRetest s l).chA = s.chA :=
  same_of_drop (m := 8589967360) (startRetest_drop s l rfl) .chA rfl
@[simp] theorem startRetest_chB (s : State) (l : Leg) : (startRetest s l).chB = s.chB :=
  same_of_drop (m := 8589967360) (startRetest_drop s l rfl) .chB rfl
@[simp] theorem startRetest_snA (s : State) (l : Leg) : (startRetest s l).snA = s.snA :=
  same_of_drop (m := 8589967360) (startRetest_drop s l rfl) .snA rfl
@[simp] theorem startRetest_snB (s : State) (l : Leg) : (startRetest s l).snB = s.snB :=
  same_of_drop (m := 8589967360) (startRetest_drop s l rfl) .snB rfl
@[simp] theorem startRetest_esA (s : State) (l : Leg) : (startRetest s l).esA = s.esA :=
  same_of_drop (m := 8589967360) (startRetest_drop s l rfl) .esA rfl
@[simp] theorem startRetest_esB (s : State) (l : Leg) : (startRetest s l).esB = s.esB :=
  same_of_drop (m := 8589967360) (startRetest_drop s l rfl) .esB rfl
@[simp] theorem startRetest_est (s : State) (l : Leg) : (startRetest s l).est = s.est :=
  same_of_drop (m := 8589967360) (startRetest_drop s l rfl) .est rfl
@[simp] theorem startRetest_thm (s : State) (l : Leg) : (startRetest s l).thm = s.thm :=
  same_of_drop (m := 8589967360) (startRetest_drop s l rfl) .thm rfl
@[simp] theorem startRetest_prt (s : State) (l : Leg) : (startRetest s l).prt = s.prt :=
  same_of_drop (m := 8589967360) (startRetest_drop s l rfl) .prt rfl
@[simp] theorem startRetest_dvt (s : State) (l : Leg) : (startRetest s l).dvt = s.dvt :=
  same_of_drop (m := 8589967360) (startRetest_drop s l rfl) .dvt rfl
@[simp] theorem startRetest_lsw (s : State) (l : Leg) : (startRetest s l).lsw = s.lsw :=
  same_of_drop (m := 8589967360) (startRetest_drop s l rfl) .lsw rfl
@[simp] theorem startRetest_lbus (s : State) (l : Leg) : (startRetest s l).lbus = s.lbus :=
  same_of_drop (m := 8589967360) (startRetest_drop s l rfl) .lbus rfl
@[simp] theorem startRetest_pwr (s : State) (l : Leg) : (startRetest s l).pwr = s.pwr :=
  same_of_drop (m := 8589967360) (startRetest_drop s l rfl) .pwr rfl
@[simp] theorem startRetest_sec (s : State) (l : Leg) : (startRetest s l).sec = s.sec :=
  same_of_drop (m := 8589967360) (startRetest_drop s l rfl) .sec rfl
@[simp] theorem startRetest_mnt (s : State) (l : Leg) : (startRetest s l).mnt = s.mnt :=
  same_of_drop (m := 8589967360) (startRetest_drop s l rfl) .mnt rfl
@[simp] theorem startRetest_outbox (s : State) (l : Leg) : (startRetest s l).outbox = s.outbox :=
  same_of_drop (m := 8589967360) (startRetest_drop s l rfl) .outbox rfl
@[simp] theorem startRetest_glk_legA (s : State) (l : Leg) : (startRetest s l).glk.legA = s.glk.legA := by
  have h := same_of_drop (m := 8589967360) (startRetest_drop s l rfl) .legs rfl
  simp only [Block.same] at h; simp only [h]
@[simp] theorem startRetest_glk_legB (s : State) (l : Leg) : (startRetest s l).glk.legB = s.glk.legB := by
  have h := same_of_drop (m := 8589967360) (startRetest_drop s l rfl) .legs rfl
  simp only [Block.same] at h; simp only [h]
@[simp] theorem startRetest_glk_fireHold (s : State) (l : Leg) : (startRetest s l).glk.fireHold = s.glk.fireHold := by
  have h := same_of_drop (m := 8589967360) (startRetest_drop s l rfl) .switch rfl
  simp only [Block.same] at h; simp only [h]
@[simp] theorem startRetest_glk_fireAll (s : State) (l : Leg) : (startRetest s l).glk.fireAll = s.glk.fireAll := by
  have h := same_of_drop (m := 8589967360) (startRetest_drop s l rfl) .switch rfl
  simp only [Block.same] at h; simp only [h]
@[simp] theorem startRetest_glk_closeAsserted (s : State) (l : Leg) : (startRetest s l).glk.closeAsserted = s.glk.closeAsserted := by
  have h := same_of_drop (m := 8589967360) (startRetest_drop s l rfl) .switch rfl
  simp only [Block.same] at h; simp only [h]
@[simp] theorem startRetest_glk_closeDue (s : State) (l : Leg) : (startRetest s l).glk.closeDue = s.glk.closeDue := by
  have h := same_of_drop (m := 8589967360) (startRetest_drop s l rfl) .switch rfl
  simp only [Block.same] at h; simp only [h]
@[simp] theorem startRetest_glk_statClosed (s : State) (l : Leg) : (startRetest s l).glk.statClosed = s.glk.statClosed := by
  have h := same_of_drop (m := 8589967360) (startRetest_drop s l rfl) .switch rfl
  simp only [Block.same] at h; simp only [h]
@[simp] theorem releaseLeg_dev (s : State) (l : Leg) : (releaseLeg s l).dev = s.dev :=
  same_of_drop (m := 8589975552) (releaseLeg_drop s l rfl) .dev rfl
@[simp] theorem releaseLeg_eng (s : State) (l : Leg) : (releaseLeg s l).eng = s.eng :=
  same_of_drop (m := 8589975552) (releaseLeg_drop s l rfl) .eng rfl
@[simp] theorem releaseLeg_img (s : State) (l : Leg) : (releaseLeg s l).img = s.img :=
  same_of_drop (m := 8589975552) (releaseLeg_drop s l rfl) .img rfl
@[simp] theorem releaseLeg_spl (s : State) (l : Leg) : (releaseLeg s l).spl = s.spl :=
  same_of_drop (m := 8589975552) (releaseLeg_drop s l rfl) .spl rfl
@[simp] theorem releaseLeg_tim (s : State) (l : Leg) : (releaseLeg s l).tim = s.tim :=
  same_of_drop (m := 8589975552) (releaseLeg_drop s l rfl) .tim rfl
@[simp] theorem releaseLeg_arm_cell (s : State) (l : Leg) : (releaseLeg s l).arm.cell = s.arm.cell := by
  have h := same_of_drop (m := 8589975552) (releaseLeg_drop s l rfl) .cell rfl
  simp only [Block.same] at h; simp only [h]
@[simp] theorem releaseLeg_arm_changes (s : State) (l : Leg) : (releaseLeg s l).arm.changes = s.arm.changes := by
  have h := same_of_drop (m := 8589975552) (releaseLeg_drop s l rfl) .cell rfl
  simp only [Block.same] at h; simp only [h]
@[simp] theorem releaseLeg_arm_owner (s : State) (l : Leg) : (releaseLeg s l).arm.owner = s.arm.owner := by
  have h := same_of_drop (m := 8589975552) (releaseLeg_drop s l rfl) .token rfl
  exact h
@[simp] theorem releaseLeg_arm_bypassed (s : State) (l : Leg) : (releaseLeg s l).arm.bypassed = s.arm.bypassed := by
  have h := same_of_drop (m := 8589975552) (releaseLeg_drop s l rfl) .bypass rfl
  exact h
@[simp] theorem releaseLeg_pwm (s : State) (l : Leg) : (releaseLeg s l).pwm = s.pwm :=
  same_of_drop (m := 8589975552) (releaseLeg_drop s l rfl) .pwm rfl
@[simp] theorem releaseLeg_chA (s : State) (l : Leg) : (releaseLeg s l).chA = s.chA :=
  same_of_drop (m := 8589975552) (releaseLeg_drop s l rfl) .chA rfl
@[simp] theorem releaseLeg_chB (s : State) (l : Leg) : (releaseLeg s l).chB = s.chB :=
  same_of_drop (m := 8589975552) (releaseLeg_drop s l rfl) .chB rfl
@[simp] theorem releaseLeg_snA (s : State) (l : Leg) : (releaseLeg s l).snA = s.snA :=
  same_of_drop (m := 8589975552) (releaseLeg_drop s l rfl) .snA rfl
@[simp] theorem releaseLeg_snB (s : State) (l : Leg) : (releaseLeg s l).snB = s.snB :=
  same_of_drop (m := 8589975552) (releaseLeg_drop s l rfl) .snB rfl
@[simp] theorem releaseLeg_esA (s : State) (l : Leg) : (releaseLeg s l).esA = s.esA :=
  same_of_drop (m := 8589975552) (releaseLeg_drop s l rfl) .esA rfl
@[simp] theorem releaseLeg_esB (s : State) (l : Leg) : (releaseLeg s l).esB = s.esB :=
  same_of_drop (m := 8589975552) (releaseLeg_drop s l rfl) .esB rfl
@[simp] theorem releaseLeg_est (s : State) (l : Leg) : (releaseLeg s l).est = s.est :=
  same_of_drop (m := 8589975552) (releaseLeg_drop s l rfl) .est rfl
@[simp] theorem releaseLeg_thm (s : State) (l : Leg) : (releaseLeg s l).thm = s.thm :=
  same_of_drop (m := 8589975552) (releaseLeg_drop s l rfl) .thm rfl
@[simp] theorem releaseLeg_prt (s : State) (l : Leg) : (releaseLeg s l).prt = s.prt :=
  same_of_drop (m := 8589975552) (releaseLeg_drop s l rfl) .prt rfl
@[simp] theorem releaseLeg_dvt (s : State) (l : Leg) : (releaseLeg s l).dvt = s.dvt :=
  same_of_drop (m := 8589975552) (releaseLeg_drop s l rfl) .dvt rfl
@[simp] theorem releaseLeg_lsw (s : State) (l : Leg) : (releaseLeg s l).lsw = s.lsw :=
  same_of_drop (m := 8589975552) (releaseLeg_drop s l rfl) .lsw rfl
@[simp] theorem releaseLeg_lbus (s : State) (l : Leg) : (releaseLeg s l).lbus = s.lbus :=
  same_of_drop (m := 8589975552) (releaseLeg_drop s l rfl) .lbus rfl
@[simp] theorem releaseLeg_pwr (s : State) (l : Leg) : (releaseLeg s l).pwr = s.pwr :=
  same_of_drop (m := 8589975552) (releaseLeg_drop s l rfl) .pwr rfl
@[simp] theorem releaseLeg_sec (s : State) (l : Leg) : (releaseLeg s l).sec = s.sec :=
  same_of_drop (m := 8589975552) (releaseLeg_drop s l rfl) .sec rfl
@[simp] theorem releaseLeg_mnt (s : State) (l : Leg) : (releaseLeg s l).mnt = s.mnt :=
  same_of_drop (m := 8589975552) (releaseLeg_drop s l rfl) .mnt rfl
@[simp] theorem releaseLeg_outbox (s : State) (l : Leg) : (releaseLeg s l).outbox = s.outbox :=
  same_of_drop (m := 8589975552) (releaseLeg_drop s l rfl) .outbox rfl
@[simp] theorem releaseLeg_glk_legA (s : State) (l : Leg) : (releaseLeg s l).glk.legA = s.glk.legA := by
  have h := same_of_drop (m := 8589975552) (releaseLeg_drop s l rfl) .legs rfl
  simp only [Block.same] at h; simp only [h]
@[simp] theorem releaseLeg_glk_legB (s : State) (l : Leg) : (releaseLeg s l).glk.legB = s.glk.legB := by
  have h := same_of_drop (m := 8589975552) (releaseLeg_drop s l rfl) .legs rfl
  simp only [Block.same] at h; simp only [h]
@[simp] theorem releaseLeg_glk_fireHold (s : State) (l : Leg) : (releaseLeg s l).glk.fireHold = s.glk.fireHold := by
  have h := same_of_drop (m := 8589975552) (releaseLeg_drop s l rfl) .switch rfl
  simp only [Block.same] at h; simp only [h]
@[simp] theorem releaseLeg_glk_fireAll (s : State) (l : Leg) : (releaseLeg s l).glk.fireAll = s.glk.fireAll := by
  have h := same_of_drop (m := 8589975552) (releaseLeg_drop s l rfl) .switch rfl
  simp only [Block.same] at h; simp only [h]
@[simp] theorem releaseLeg_glk_closeAsserted (s : State) (l : Leg) : (releaseLeg s l).glk.closeAsserted = s.glk.closeAsserted := by
  have h := same_of_drop (m := 8589975552) (releaseLeg_drop s l rfl) .switch rfl
  simp only [Block.same] at h; simp only [h]
@[simp] theorem releaseLeg_glk_closeDue (s : State) (l : Leg) : (releaseLeg s l).glk.closeDue = s.glk.closeDue := by
  have h := same_of_drop (m := 8589975552) (releaseLeg_drop s l rfl) .switch rfl
  simp only [Block.same] at h; simp only [h]
@[simp] theorem releaseLeg_glk_statClosed (s : State) (l : Leg) : (releaseLeg s l).glk.statClosed = s.glk.statClosed := by
  have h := same_of_drop (m := 8589975552) (releaseLeg_drop s l rfl) .switch rfl
  simp only [Block.same] at h; simp only [h]
@[simp] theorem releaseEntry_dev (s : State) (e : Fin 64) : (releaseEntry s e).dev = s.dev :=
  same_of_drop (m := 8606752768) (releaseEntry_drop s e rfl) .dev rfl
@[simp] theorem releaseEntry_eng (s : State) (e : Fin 64) : (releaseEntry s e).eng = s.eng :=
  same_of_drop (m := 8606752768) (releaseEntry_drop s e rfl) .eng rfl
@[simp] theorem releaseEntry_img (s : State) (e : Fin 64) : (releaseEntry s e).img = s.img :=
  same_of_drop (m := 8606752768) (releaseEntry_drop s e rfl) .img rfl
@[simp] theorem releaseEntry_spl (s : State) (e : Fin 64) : (releaseEntry s e).spl = s.spl :=
  same_of_drop (m := 8606752768) (releaseEntry_drop s e rfl) .spl rfl
@[simp] theorem releaseEntry_tim (s : State) (e : Fin 64) : (releaseEntry s e).tim = s.tim :=
  same_of_drop (m := 8606752768) (releaseEntry_drop s e rfl) .tim rfl
@[simp] theorem releaseEntry_arm_cell (s : State) (e : Fin 64) : (releaseEntry s e).arm.cell = s.arm.cell := by
  have h := same_of_drop (m := 8606752768) (releaseEntry_drop s e rfl) .cell rfl
  simp only [Block.same] at h; simp only [h]
@[simp] theorem releaseEntry_arm_changes (s : State) (e : Fin 64) : (releaseEntry s e).arm.changes = s.arm.changes := by
  have h := same_of_drop (m := 8606752768) (releaseEntry_drop s e rfl) .cell rfl
  simp only [Block.same] at h; simp only [h]
@[simp] theorem releaseEntry_arm_owner (s : State) (e : Fin 64) : (releaseEntry s e).arm.owner = s.arm.owner := by
  have h := same_of_drop (m := 8606752768) (releaseEntry_drop s e rfl) .token rfl
  exact h
@[simp] theorem releaseEntry_arm_bypassed (s : State) (e : Fin 64) : (releaseEntry s e).arm.bypassed = s.arm.bypassed := by
  have h := same_of_drop (m := 8606752768) (releaseEntry_drop s e rfl) .bypass rfl
  exact h
@[simp] theorem releaseEntry_pwm (s : State) (e : Fin 64) : (releaseEntry s e).pwm = s.pwm :=
  same_of_drop (m := 8606752768) (releaseEntry_drop s e rfl) .pwm rfl
@[simp] theorem releaseEntry_chA (s : State) (e : Fin 64) : (releaseEntry s e).chA = s.chA :=
  same_of_drop (m := 8606752768) (releaseEntry_drop s e rfl) .chA rfl
@[simp] theorem releaseEntry_chB (s : State) (e : Fin 64) : (releaseEntry s e).chB = s.chB :=
  same_of_drop (m := 8606752768) (releaseEntry_drop s e rfl) .chB rfl
@[simp] theorem releaseEntry_snA (s : State) (e : Fin 64) : (releaseEntry s e).snA = s.snA :=
  same_of_drop (m := 8606752768) (releaseEntry_drop s e rfl) .snA rfl
@[simp] theorem releaseEntry_snB (s : State) (e : Fin 64) : (releaseEntry s e).snB = s.snB :=
  same_of_drop (m := 8606752768) (releaseEntry_drop s e rfl) .snB rfl
@[simp] theorem releaseEntry_esA (s : State) (e : Fin 64) : (releaseEntry s e).esA = s.esA :=
  same_of_drop (m := 8606752768) (releaseEntry_drop s e rfl) .esA rfl
@[simp] theorem releaseEntry_esB (s : State) (e : Fin 64) : (releaseEntry s e).esB = s.esB :=
  same_of_drop (m := 8606752768) (releaseEntry_drop s e rfl) .esB rfl
@[simp] theorem releaseEntry_est (s : State) (e : Fin 64) : (releaseEntry s e).est = s.est :=
  same_of_drop (m := 8606752768) (releaseEntry_drop s e rfl) .est rfl
@[simp] theorem releaseEntry_thm (s : State) (e : Fin 64) : (releaseEntry s e).thm = s.thm :=
  same_of_drop (m := 8606752768) (releaseEntry_drop s e rfl) .thm rfl
@[simp] theorem releaseEntry_dvt (s : State) (e : Fin 64) : (releaseEntry s e).dvt = s.dvt :=
  same_of_drop (m := 8606752768) (releaseEntry_drop s e rfl) .dvt rfl
@[simp] theorem releaseEntry_lsw (s : State) (e : Fin 64) : (releaseEntry s e).lsw = s.lsw :=
  same_of_drop (m := 8606752768) (releaseEntry_drop s e rfl) .lsw rfl
@[simp] theorem releaseEntry_lbus (s : State) (e : Fin 64) : (releaseEntry s e).lbus = s.lbus :=
  same_of_drop (m := 8606752768) (releaseEntry_drop s e rfl) .lbus rfl
@[simp] theorem releaseEntry_pwr (s : State) (e : Fin 64) : (releaseEntry s e).pwr = s.pwr :=
  same_of_drop (m := 8606752768) (releaseEntry_drop s e rfl) .pwr rfl
@[simp] theorem releaseEntry_sec (s : State) (e : Fin 64) : (releaseEntry s e).sec = s.sec :=
  same_of_drop (m := 8606752768) (releaseEntry_drop s e rfl) .sec rfl
@[simp] theorem releaseEntry_mnt (s : State) (e : Fin 64) : (releaseEntry s e).mnt = s.mnt :=
  same_of_drop (m := 8606752768) (releaseEntry_drop s e rfl) .mnt rfl
@[simp] theorem releaseEntry_outbox (s : State) (e : Fin 64) : (releaseEntry s e).outbox = s.outbox :=
  same_of_drop (m := 8606752768) (releaseEntry_drop s e rfl) .outbox rfl
@[simp] theorem releaseEntry_glk_legA (s : State) (e : Fin 64) : (releaseEntry s e).glk.legA = s.glk.legA := by
  have h := same_of_drop (m := 8606752768) (releaseEntry_drop s e rfl) .legs rfl
  simp only [Block.same] at h; simp only [h]
@[simp] theorem releaseEntry_glk_legB (s : State) (e : Fin 64) : (releaseEntry s e).glk.legB = s.glk.legB := by
  have h := same_of_drop (m := 8606752768) (releaseEntry_drop s e rfl) .legs rfl
  simp only [Block.same] at h; simp only [h]
@[simp] theorem releaseEntry_prt_active (s : State) (e : Fin 64) : (releaseEntry s e).prt.active = s.prt.active := by
  have h := same_of_drop (m := 8606752768) (releaseEntry_drop s e rfl) .raised rfl
  simp only [Block.same] at h; simp only [h]
@[simp] theorem releaseEntry_prt_pulsed (s : State) (e : Fin 64) : (releaseEntry s e).prt.pulsed = s.prt.pulsed := by
  have h := same_of_drop (m := 8606752768) (releaseEntry_drop s e rfl) .raised rfl
  simp only [Block.same] at h; simp only [h]
@[simp] theorem releaseEntry_glk_fireHold (s : State) (e : Fin 64) : (releaseEntry s e).glk.fireHold = s.glk.fireHold := by
  have h := same_of_drop (m := 8606752768) (releaseEntry_drop s e rfl) .switch rfl
  simp only [Block.same] at h; simp only [h]
@[simp] theorem releaseEntry_glk_fireAll (s : State) (e : Fin 64) : (releaseEntry s e).glk.fireAll = s.glk.fireAll := by
  have h := same_of_drop (m := 8606752768) (releaseEntry_drop s e rfl) .switch rfl
  simp only [Block.same] at h; simp only [h]
@[simp] theorem releaseEntry_glk_closeAsserted (s : State) (e : Fin 64) : (releaseEntry s e).glk.closeAsserted = s.glk.closeAsserted := by
  have h := same_of_drop (m := 8606752768) (releaseEntry_drop s e rfl) .switch rfl
  simp only [Block.same] at h; simp only [h]
@[simp] theorem releaseEntry_glk_closeDue (s : State) (e : Fin 64) : (releaseEntry s e).glk.closeDue = s.glk.closeDue := by
  have h := same_of_drop (m := 8606752768) (releaseEntry_drop s e rfl) .switch rfl
  simp only [Block.same] at h; simp only [h]
@[simp] theorem releaseEntry_glk_statClosed (s : State) (e : Fin 64) : (releaseEntry s e).glk.statClosed = s.glk.statClosed := by
  have h := same_of_drop (m := 8606752768) (releaseEntry_drop s e rfl) .switch rfl
  simp only [Block.same] at h; simp only [h]
@[simp] theorem commitSet_dev (s : State) (l : Leg) : (commitSet s l).dev = s.dev :=
  same_of_drop (m := 8589950984) (commitSet_drop s l rfl) .dev rfl
@[simp] theorem commitSet_img (s : State) (l : Leg) : (commitSet s l).img = s.img :=
  same_of_drop (m := 8589950984) (commitSet_drop s l rfl) .img rfl
@[simp] theorem commitSet_spl (s : State) (l : Leg) : (commitSet s l).spl = s.spl :=
  same_of_drop (m := 8589950984) (commitSet_drop s l rfl) .spl rfl
@[simp] theorem commitSet_tim (s : State) (l : Leg) : (commitSet s l).tim = s.tim :=
  same_of_drop (m := 8589950984) (commitSet_drop s l rfl) .tim rfl
@[simp] theorem commitSet_arm (s : State) (l : Leg) : (commitSet s l).arm = s.arm :=
  same_of_drop (m := 8589950984) (commitSet_drop s l rfl) .arm rfl
@[simp] theorem commitSet_glk (s : State) (l : Leg) : (commitSet s l).glk = s.glk :=
  same_of_drop (m := 8589950984) (commitSet_drop s l rfl) .glk rfl
@[simp] theorem commitSet_chA (s : State) (l : Leg) : (commitSet s l).chA = s.chA :=
  same_of_drop (m := 8589950984) (commitSet_drop s l rfl) .chA rfl
@[simp] theorem commitSet_chB (s : State) (l : Leg) : (commitSet s l).chB = s.chB :=
  same_of_drop (m := 8589950984) (commitSet_drop s l rfl) .chB rfl
@[simp] theorem commitSet_snA (s : State) (l : Leg) : (commitSet s l).snA = s.snA :=
  same_of_drop (m := 8589950984) (commitSet_drop s l rfl) .snA rfl
@[simp] theorem commitSet_snB (s : State) (l : Leg) : (commitSet s l).snB = s.snB :=
  same_of_drop (m := 8589950984) (commitSet_drop s l rfl) .snB rfl
@[simp] theorem commitSet_esA (s : State) (l : Leg) : (commitSet s l).esA = s.esA :=
  same_of_drop (m := 8589950984) (commitSet_drop s l rfl) .esA rfl
@[simp] theorem commitSet_esB (s : State) (l : Leg) : (commitSet s l).esB = s.esB :=
  same_of_drop (m := 8589950984) (commitSet_drop s l rfl) .esB rfl
@[simp] theorem commitSet_est (s : State) (l : Leg) : (commitSet s l).est = s.est :=
  same_of_drop (m := 8589950984) (commitSet_drop s l rfl) .est rfl
@[simp] theorem commitSet_thm (s : State) (l : Leg) : (commitSet s l).thm = s.thm :=
  same_of_drop (m := 8589950984) (commitSet_drop s l rfl) .thm rfl
@[simp] theorem commitSet_prt (s : State) (l : Leg) : (commitSet s l).prt = s.prt :=
  same_of_drop (m := 8589950984) (commitSet_drop s l rfl) .prt rfl
@[simp] theorem commitSet_dvt (s : State) (l : Leg) : (commitSet s l).dvt = s.dvt :=
  same_of_drop (m := 8589950984) (commitSet_drop s l rfl) .dvt rfl
@[simp] theorem commitSet_lsw (s : State) (l : Leg) : (commitSet s l).lsw = s.lsw :=
  same_of_drop (m := 8589950984) (commitSet_drop s l rfl) .lsw rfl
@[simp] theorem commitSet_lbus (s : State) (l : Leg) : (commitSet s l).lbus = s.lbus :=
  same_of_drop (m := 8589950984) (commitSet_drop s l rfl) .lbus rfl
@[simp] theorem commitSet_pwr (s : State) (l : Leg) : (commitSet s l).pwr = s.pwr :=
  same_of_drop (m := 8589950984) (commitSet_drop s l rfl) .pwr rfl
@[simp] theorem commitSet_sec (s : State) (l : Leg) : (commitSet s l).sec = s.sec :=
  same_of_drop (m := 8589950984) (commitSet_drop s l rfl) .sec rfl
@[simp] theorem commitSet_mnt (s : State) (l : Leg) : (commitSet s l).mnt = s.mnt :=
  same_of_drop (m := 8589950984) (commitSet_drop s l rfl) .mnt rfl
@[simp] theorem commitSet_outbox (s : State) (l : Leg) : (commitSet s l).outbox = s.outbox :=
  same_of_drop (m := 8589950984) (commitSet_drop s l rfl) .outbox rfl
@[simp] theorem configure_dev (s : State) (c : ChainId) (m : Fin 32) : (configure s c m).dev = s.dev :=
  same_of_drop (m := 786432) (configure_drop s c m rfl) .dev rfl
@[simp] theorem configure_eng (s : State) (c : ChainId) (m : Fin 32) : (configure s c m).eng = s.eng :=
  same_of_drop (m := 786432) (configure_drop s c m rfl) .eng rfl
@[simp] theorem configure_img (s : State) (c : ChainId) (m : Fin 32) : (configure s c m).img = s.img :=
  same_of_drop (m := 786432) (configure_drop s c m rfl) .img rfl
@[simp] theorem configure_spl (s : State) (c : ChainId) (m : Fin 32) : (configure s c m).spl = s.spl :=
  same_of_drop (m := 786432) (configure_drop s c m rfl) .spl rfl
@[simp] theorem configure_tim (s : State) (c : ChainId) (m : Fin 32) : (configure s c m).tim = s.tim :=
  same_of_drop (m := 786432) (configure_drop s c m rfl) .tim rfl
@[simp] theorem configure_arm (s : State) (c : ChainId) (m : Fin 32) : (configure s c m).arm = s.arm :=
  same_of_drop (m := 786432) (configure_drop s c m rfl) .arm rfl
@[simp] theorem configure_pwm (s : State) (c : ChainId) (m : Fin 32) : (configure s c m).pwm = s.pwm :=
  same_of_drop (m := 786432) (configure_drop s c m rfl) .pwm rfl
@[simp] theorem configure_glk (s : State) (c : ChainId) (m : Fin 32) : (configure s c m).glk = s.glk :=
  same_of_drop (m := 786432) (configure_drop s c m rfl) .glk rfl
@[simp] theorem configure_chA (s : State) (c : ChainId) (m : Fin 32) : (configure s c m).chA = s.chA :=
  same_of_drop (m := 786432) (configure_drop s c m rfl) .chA rfl
@[simp] theorem configure_chB (s : State) (c : ChainId) (m : Fin 32) : (configure s c m).chB = s.chB :=
  same_of_drop (m := 786432) (configure_drop s c m rfl) .chB rfl
@[simp] theorem configure_esA (s : State) (c : ChainId) (m : Fin 32) : (configure s c m).esA = s.esA :=
  same_of_drop (m := 786432) (configure_drop s c m rfl) .esA rfl
@[simp] theorem configure_esB (s : State) (c : ChainId) (m : Fin 32) : (configure s c m).esB = s.esB :=
  same_of_drop (m := 786432) (configure_drop s c m rfl) .esB rfl
@[simp] theorem configure_est (s : State) (c : ChainId) (m : Fin 32) : (configure s c m).est = s.est :=
  same_of_drop (m := 786432) (configure_drop s c m rfl) .est rfl
@[simp] theorem configure_thm (s : State) (c : ChainId) (m : Fin 32) : (configure s c m).thm = s.thm :=
  same_of_drop (m := 786432) (configure_drop s c m rfl) .thm rfl
@[simp] theorem configure_prt (s : State) (c : ChainId) (m : Fin 32) : (configure s c m).prt = s.prt :=
  same_of_drop (m := 786432) (configure_drop s c m rfl) .prt rfl
@[simp] theorem configure_dvt (s : State) (c : ChainId) (m : Fin 32) : (configure s c m).dvt = s.dvt :=
  same_of_drop (m := 786432) (configure_drop s c m rfl) .dvt rfl
@[simp] theorem configure_lsw (s : State) (c : ChainId) (m : Fin 32) : (configure s c m).lsw = s.lsw :=
  same_of_drop (m := 786432) (configure_drop s c m rfl) .lsw rfl
@[simp] theorem configure_lbus (s : State) (c : ChainId) (m : Fin 32) : (configure s c m).lbus = s.lbus :=
  same_of_drop (m := 786432) (configure_drop s c m rfl) .lbus rfl
@[simp] theorem configure_pwr (s : State) (c : ChainId) (m : Fin 32) : (configure s c m).pwr = s.pwr :=
  same_of_drop (m := 786432) (configure_drop s c m rfl) .pwr rfl
@[simp] theorem configure_sec (s : State) (c : ChainId) (m : Fin 32) : (configure s c m).sec = s.sec :=
  same_of_drop (m := 786432) (configure_drop s c m rfl) .sec rfl
@[simp] theorem configure_mnt (s : State) (c : ChainId) (m : Fin 32) : (configure s c m).mnt = s.mnt :=
  same_of_drop (m := 786432) (configure_drop s c m rfl) .mnt rfl
@[simp] theorem configure_evt (s : State) (c : ChainId) (m : Fin 32) : (configure s c m).evt = s.evt :=
  same_of_drop (m := 786432) (configure_drop s c m rfl) .evt rfl
@[simp] theorem configure_outbox (s : State) (c : ChainId) (m : Fin 32) : (configure s c m).outbox = s.outbox :=
  same_of_drop (m := 786432) (configure_drop s c m rfl) .outbox rfl
@[simp] theorem declareLost_dev (s : State) (c : ChainId) (m : Fin 32) : (declareLost s c m).dev = s.dev :=
  same_of_drop (m := 12961415168) (declareLost_drop s c m rfl) .dev rfl
@[simp] theorem declareLost_eng (s : State) (c : ChainId) (m : Fin 32) : (declareLost s c m).eng = s.eng :=
  same_of_drop (m := 12961415168) (declareLost_drop s c m rfl) .eng rfl
@[simp] theorem declareLost_img (s : State) (c : ChainId) (m : Fin 32) : (declareLost s c m).img = s.img :=
  same_of_drop (m := 12961415168) (declareLost_drop s c m rfl) .img rfl
@[simp] theorem declareLost_spl (s : State) (c : ChainId) (m : Fin 32) : (declareLost s c m).spl = s.spl :=
  same_of_drop (m := 12961415168) (declareLost_drop s c m rfl) .spl rfl
@[simp] theorem declareLost_tim (s : State) (c : ChainId) (m : Fin 32) : (declareLost s c m).tim = s.tim :=
  same_of_drop (m := 12961415168) (declareLost_drop s c m rfl) .tim rfl
@[simp] theorem declareLost_arm (s : State) (c : ChainId) (m : Fin 32) : (declareLost s c m).arm = s.arm :=
  same_of_drop (m := 12961415168) (declareLost_drop s c m rfl) .arm rfl
@[simp] theorem declareLost_pwm (s : State) (c : ChainId) (m : Fin 32) : (declareLost s c m).pwm = s.pwm :=
  same_of_drop (m := 12961415168) (declareLost_drop s c m rfl) .pwm rfl
@[simp] theorem declareLost_esA (s : State) (c : ChainId) (m : Fin 32) : (declareLost s c m).esA = s.esA :=
  same_of_drop (m := 12961415168) (declareLost_drop s c m rfl) .esA rfl
@[simp] theorem declareLost_esB (s : State) (c : ChainId) (m : Fin 32) : (declareLost s c m).esB = s.esB :=
  same_of_drop (m := 12961415168) (declareLost_drop s c m rfl) .esB rfl
@[simp] theorem declareLost_est (s : State) (c : ChainId) (m : Fin 32) : (declareLost s c m).est = s.est :=
  same_of_drop (m := 12961415168) (declareLost_drop s c m rfl) .est rfl
@[simp] theorem declareLost_prt (s : State) (c : ChainId) (m : Fin 32) : (declareLost s c m).prt = s.prt :=
  same_of_drop (m := 12961415168) (declareLost_drop s c m rfl) .prt rfl
@[simp] theorem declareLost_dvt (s : State) (c : ChainId) (m : Fin 32) : (declareLost s c m).dvt = s.dvt :=
  same_of_drop (m := 12961415168) (declareLost_drop s c m rfl) .dvt rfl
@[simp] theorem declareLost_lbus (s : State) (c : ChainId) (m : Fin 32) : (declareLost s c m).lbus = s.lbus :=
  same_of_drop (m := 12961415168) (declareLost_drop s c m rfl) .lbus rfl
@[simp] theorem declareLost_pwr (s : State) (c : ChainId) (m : Fin 32) : (declareLost s c m).pwr = s.pwr :=
  same_of_drop (m := 12961415168) (declareLost_drop s c m rfl) .pwr rfl
@[simp] theorem declareLost_sec (s : State) (c : ChainId) (m : Fin 32) : (declareLost s c m).sec = s.sec :=
  same_of_drop (m := 12961415168) (declareLost_drop s c m rfl) .sec rfl
@[simp] theorem declareLost_outbox (s : State) (c : ChainId) (m : Fin 32) : (declareLost s c m).outbox = s.outbox :=
  same_of_drop (m := 12961415168) (declareLost_drop s c m rfl) .outbox rfl
@[simp] theorem declareLost_glk_legA (s : State) (c : ChainId) (m : Fin 32) : (declareLost s c m).glk.legA = s.glk.legA := by
  have h := same_of_drop (m := 12961415168) (declareLost_drop s c m rfl) .legs rfl
  simp only [Block.same] at h; simp only [h]
@[simp] theorem declareLost_glk_legB (s : State) (c : ChainId) (m : Fin 32) : (declareLost s c m).glk.legB = s.glk.legB := by
  have h := same_of_drop (m := 12961415168) (declareLost_drop s c m rfl) .legs rfl
  simp only [Block.same] at h; simp only [h]
@[simp] theorem declareLost_glk_fireHold (s : State) (c : ChainId) (m : Fin 32) : (declareLost s c m).glk.fireHold = s.glk.fireHold := by
  have h := same_of_drop (m := 12961415168) (declareLost_drop s c m rfl) .switch rfl
  simp only [Block.same] at h; simp only [h]
@[simp] theorem declareLost_glk_fireAll (s : State) (c : ChainId) (m : Fin 32) : (declareLost s c m).glk.fireAll = s.glk.fireAll := by
  have h := same_of_drop (m := 12961415168) (declareLost_drop s c m rfl) .switch rfl
  simp only [Block.same] at h; simp only [h]
@[simp] theorem declareLost_glk_closeAsserted (s : State) (c : ChainId) (m : Fin 32) : (declareLost s c m).glk.closeAsserted = s.glk.closeAsserted := by
  have h := same_of_drop (m := 12961415168) (declareLost_drop s c m rfl) .switch rfl
  simp only [Block.same] at h; simp only [h]
@[simp] theorem declareLost_glk_closeDue (s : State) (c : ChainId) (m : Fin 32) : (declareLost s c m).glk.closeDue = s.glk.closeDue := by
  have h := same_of_drop (m := 12961415168) (declareLost_drop s c m rfl) .switch rfl
  simp only [Block.same] at h; simp only [h]
@[simp] theorem declareLost_glk_statClosed (s : State) (c : ChainId) (m : Fin 32) : (declareLost s c m).glk.statClosed = s.glk.statClosed := by
  have h := same_of_drop (m := 12961415168) (declareLost_drop s c m rfl) .switch rfl
  simp only [Block.same] at h; simp only [h]
@[simp] theorem declareLost_thm_sdHotA (s : State) (c : ChainId) (m : Fin 32) : (declareLost s c m).thm.sdHotA = s.thm.sdHotA := by
  have h := same_of_drop (m := 12961415168) (declareLost_drop s c m rfl) .shutdown rfl
  simp only [Block.same] at h; simp only [h]
@[simp] theorem declareLost_thm_sdHotB (s : State) (c : ChainId) (m : Fin 32) : (declareLost s c m).thm.sdHotB = s.thm.sdHotB := by
  have h := same_of_drop (m := 12961415168) (declareLost_drop s c m rfl) .shutdown rfl
  simp only [Block.same] at h; simp only [h]
@[simp] theorem declareLost_thm_sdColdA (s : State) (c : ChainId) (m : Fin 32) : (declareLost s c m).thm.sdColdA = s.thm.sdColdA := by
  have h := same_of_drop (m := 12961415168) (declareLost_drop s c m rfl) .shutdown rfl
  simp only [Block.same] at h; simp only [h]
@[simp] theorem declareLost_thm_sdColdB (s : State) (c : ChainId) (m : Fin 32) : (declareLost s c m).thm.sdColdB = s.thm.sdColdB := by
  have h := same_of_drop (m := 12961415168) (declareLost_drop s c m rfl) .shutdown rfl
  simp only [Block.same] at h; simp only [h]
@[simp] theorem unlose_dev (s : State) (c : ChainId) (m : Fin 32) : (unlose s c m).dev = s.dev :=
  same_of_drop (m := 983040) (unlose_drop s c m rfl) .dev rfl
@[simp] theorem unlose_eng (s : State) (c : ChainId) (m : Fin 32) : (unlose s c m).eng = s.eng :=
  same_of_drop (m := 983040) (unlose_drop s c m rfl) .eng rfl
@[simp] theorem unlose_img (s : State) (c : ChainId) (m : Fin 32) : (unlose s c m).img = s.img :=
  same_of_drop (m := 983040) (unlose_drop s c m rfl) .img rfl
@[simp] theorem unlose_spl (s : State) (c : ChainId) (m : Fin 32) : (unlose s c m).spl = s.spl :=
  same_of_drop (m := 983040) (unlose_drop s c m rfl) .spl rfl
@[simp] theorem unlose_tim (s : State) (c : ChainId) (m : Fin 32) : (unlose s c m).tim = s.tim :=
  same_of_drop (m := 983040) (unlose_drop s c m rfl) .tim rfl
@[simp] theorem unlose_arm (s : State) (c : ChainId) (m : Fin 32) : (unlose s c m).arm = s.arm :=
  same_of_drop (m := 983040) (unlose_drop s c m rfl) .arm rfl
@[simp] theorem unlose_pwm (s : State) (c : ChainId) (m : Fin 32) : (unlose s c m).pwm = s.pwm :=
  same_of_drop (m := 983040) (unlose_drop s c m rfl) .pwm rfl
@[simp] theorem unlose_glk (s : State) (c : ChainId) (m : Fin 32) : (unlose s c m).glk = s.glk :=
  same_of_drop (m := 983040) (unlose_drop s c m rfl) .glk rfl
@[simp] theorem unlose_esA (s : State) (c : ChainId) (m : Fin 32) : (unlose s c m).esA = s.esA :=
  same_of_drop (m := 983040) (unlose_drop s c m rfl) .esA rfl
@[simp] theorem unlose_esB (s : State) (c : ChainId) (m : Fin 32) : (unlose s c m).esB = s.esB :=
  same_of_drop (m := 983040) (unlose_drop s c m rfl) .esB rfl
@[simp] theorem unlose_est (s : State) (c : ChainId) (m : Fin 32) : (unlose s c m).est = s.est :=
  same_of_drop (m := 983040) (unlose_drop s c m rfl) .est rfl
@[simp] theorem unlose_thm (s : State) (c : ChainId) (m : Fin 32) : (unlose s c m).thm = s.thm :=
  same_of_drop (m := 983040) (unlose_drop s c m rfl) .thm rfl
@[simp] theorem unlose_prt (s : State) (c : ChainId) (m : Fin 32) : (unlose s c m).prt = s.prt :=
  same_of_drop (m := 983040) (unlose_drop s c m rfl) .prt rfl
@[simp] theorem unlose_dvt (s : State) (c : ChainId) (m : Fin 32) : (unlose s c m).dvt = s.dvt :=
  same_of_drop (m := 983040) (unlose_drop s c m rfl) .dvt rfl
@[simp] theorem unlose_lsw (s : State) (c : ChainId) (m : Fin 32) : (unlose s c m).lsw = s.lsw :=
  same_of_drop (m := 983040) (unlose_drop s c m rfl) .lsw rfl
@[simp] theorem unlose_lbus (s : State) (c : ChainId) (m : Fin 32) : (unlose s c m).lbus = s.lbus :=
  same_of_drop (m := 983040) (unlose_drop s c m rfl) .lbus rfl
@[simp] theorem unlose_pwr (s : State) (c : ChainId) (m : Fin 32) : (unlose s c m).pwr = s.pwr :=
  same_of_drop (m := 983040) (unlose_drop s c m rfl) .pwr rfl
@[simp] theorem unlose_sec (s : State) (c : ChainId) (m : Fin 32) : (unlose s c m).sec = s.sec :=
  same_of_drop (m := 983040) (unlose_drop s c m rfl) .sec rfl
@[simp] theorem unlose_mnt (s : State) (c : ChainId) (m : Fin 32) : (unlose s c m).mnt = s.mnt :=
  same_of_drop (m := 983040) (unlose_drop s c m rfl) .mnt rfl
@[simp] theorem unlose_evt (s : State) (c : ChainId) (m : Fin 32) : (unlose s c m).evt = s.evt :=
  same_of_drop (m := 983040) (unlose_drop s c m rfl) .evt rfl
@[simp] theorem unlose_outbox (s : State) (c : ChainId) (m : Fin 32) : (unlose s c m).outbox = s.outbox :=
  same_of_drop (m := 983040) (unlose_drop s c m rfl) .outbox rfl
@[simp] theorem badFrame_dev (s : State) (c : ChainId) : (badFrame s c).dev = s.dev :=
  same_of_drop (m := 786432) (badFrame_drop s c rfl) .dev rfl
@[simp] theorem badFrame_eng (s : State) (c : ChainId) : (badFrame s c).eng = s.eng :=
  same_of_drop (m := 786432) (badFrame_drop s c rfl) .eng rfl
@[simp] theorem badFrame_img (s : State) (c : ChainId) : (badFrame s c).img = s.img :=
  same_of_drop (m := 786432) (badFrame_drop s c rfl) .img rfl
@[simp] theorem badFrame_spl (s : State) (c : ChainId) : (badFrame s c).spl = s.spl :=
  same_of_drop (m := 786432) (badFrame_drop s c rfl) .spl rfl
@[simp] theorem badFrame_tim (s : State) (c : ChainId) : (badFrame s c).tim = s.tim :=
  same_of_drop (m := 786432) (badFrame_drop s c rfl) .tim rfl
@[simp] theorem badFrame_arm (s : State) (c : ChainId) : (badFrame s c).arm = s.arm :=
  same_of_drop (m := 786432) (badFrame_drop s c rfl) .arm rfl
@[simp] theorem badFrame_pwm (s : State) (c : ChainId) : (badFrame s c).pwm = s.pwm :=
  same_of_drop (m := 786432) (badFrame_drop s c rfl) .pwm rfl
@[simp] theorem badFrame_glk (s : State) (c : ChainId) : (badFrame s c).glk = s.glk :=
  same_of_drop (m := 786432) (badFrame_drop s c rfl) .glk rfl
@[simp] theorem badFrame_chA (s : State) (c : ChainId) : (badFrame s c).chA = s.chA :=
  same_of_drop (m := 786432) (badFrame_drop s c rfl) .chA rfl
@[simp] theorem badFrame_chB (s : State) (c : ChainId) : (badFrame s c).chB = s.chB :=
  same_of_drop (m := 786432) (badFrame_drop s c rfl) .chB rfl
@[simp] theorem badFrame_esA (s : State) (c : ChainId) : (badFrame s c).esA = s.esA :=
  same_of_drop (m := 786432) (badFrame_drop s c rfl) .esA rfl
@[simp] theorem badFrame_esB (s : State) (c : ChainId) : (badFrame s c).esB = s.esB :=
  same_of_drop (m := 786432) (badFrame_drop s c rfl) .esB rfl
@[simp] theorem badFrame_est (s : State) (c : ChainId) : (badFrame s c).est = s.est :=
  same_of_drop (m := 786432) (badFrame_drop s c rfl) .est rfl
@[simp] theorem badFrame_thm (s : State) (c : ChainId) : (badFrame s c).thm = s.thm :=
  same_of_drop (m := 786432) (badFrame_drop s c rfl) .thm rfl
@[simp] theorem badFrame_prt (s : State) (c : ChainId) : (badFrame s c).prt = s.prt :=
  same_of_drop (m := 786432) (badFrame_drop s c rfl) .prt rfl
@[simp] theorem badFrame_dvt (s : State) (c : ChainId) : (badFrame s c).dvt = s.dvt :=
  same_of_drop (m := 786432) (badFrame_drop s c rfl) .dvt rfl
@[simp] theorem badFrame_lsw (s : State) (c : ChainId) : (badFrame s c).lsw = s.lsw :=
  same_of_drop (m := 786432) (badFrame_drop s c rfl) .lsw rfl
@[simp] theorem badFrame_lbus (s : State) (c : ChainId) : (badFrame s c).lbus = s.lbus :=
  same_of_drop (m := 786432) (badFrame_drop s c rfl) .lbus rfl
@[simp] theorem badFrame_pwr (s : State) (c : ChainId) : (badFrame s c).pwr = s.pwr :=
  same_of_drop (m := 786432) (badFrame_drop s c rfl) .pwr rfl
@[simp] theorem badFrame_sec (s : State) (c : ChainId) : (badFrame s c).sec = s.sec :=
  same_of_drop (m := 786432) (badFrame_drop s c rfl) .sec rfl
@[simp] theorem badFrame_mnt (s : State) (c : ChainId) : (badFrame s c).mnt = s.mnt :=
  same_of_drop (m := 786432) (badFrame_drop s c rfl) .mnt rfl
@[simp] theorem badFrame_evt (s : State) (c : ChainId) : (badFrame s c).evt = s.evt :=
  same_of_drop (m := 786432) (badFrame_drop s c rfl) .evt rfl
@[simp] theorem badFrame_outbox (s : State) (c : ChainId) : (badFrame s c).outbox = s.outbox :=
  same_of_drop (m := 786432) (badFrame_drop s c rfl) .outbox rfl
@[simp] theorem writeDelay_dev (s : State) (c : ChainId) (m : Fin 32) (tail : Bool) : (writeDelay s c m tail).dev = s.dev :=
  same_of_drop (m := 8590721024) (writeDelay_drop s c m tail rfl) .dev rfl
@[simp] theorem writeDelay_eng (s : State) (c : ChainId) (m : Fin 32) (tail : Bool) : (writeDelay s c m tail).eng = s.eng :=
  same_of_drop (m := 8590721024) (writeDelay_drop s c m tail rfl) .eng rfl
@[simp] theorem writeDelay_img (s : State) (c : ChainId) (m : Fin 32) (tail : Bool) : (writeDelay s c m tail).img = s.img :=
  same_of_drop (m := 8590721024) (writeDelay_drop s c m tail rfl) .img rfl
@[simp] theorem writeDelay_spl (s : State) (c : ChainId) (m : Fin 32) (tail : Bool) : (writeDelay s c m tail).spl = s.spl :=
  same_of_drop (m := 8590721024) (writeDelay_drop s c m tail rfl) .spl rfl
@[simp] theorem writeDelay_tim (s : State) (c : ChainId) (m : Fin 32) (tail : Bool) : (writeDelay s c m tail).tim = s.tim :=
  same_of_drop (m := 8590721024) (writeDelay_drop s c m tail rfl) .tim rfl
@[simp] theorem writeDelay_arm (s : State) (c : ChainId) (m : Fin 32) (tail : Bool) : (writeDelay s c m tail).arm = s.arm :=
  same_of_drop (m := 8590721024) (writeDelay_drop s c m tail rfl) .arm rfl
@[simp] theorem writeDelay_pwm (s : State) (c : ChainId) (m : Fin 32) (tail : Bool) : (writeDelay s c m tail).pwm = s.pwm :=
  same_of_drop (m := 8590721024) (writeDelay_drop s c m tail rfl) .pwm rfl
@[simp] theorem writeDelay_glk (s : State) (c : ChainId) (m : Fin 32) (tail : Bool) : (writeDelay s c m tail).glk = s.glk :=
  same_of_drop (m := 8590721024) (writeDelay_drop s c m tail rfl) .glk rfl
@[simp] theorem writeDelay_chA (s : State) (c : ChainId) (m : Fin 32) (tail : Bool) : (writeDelay s c m tail).chA = s.chA :=
  same_of_drop (m := 8590721024) (writeDelay_drop s c m tail rfl) .chA rfl
@[simp] theorem writeDelay_chB (s : State) (c : ChainId) (m : Fin 32) (tail : Bool) : (writeDelay s c m tail).chB = s.chB :=
  same_of_drop (m := 8590721024) (writeDelay_drop s c m tail rfl) .chB rfl
@[simp] theorem writeDelay_esA (s : State) (c : ChainId) (m : Fin 32) (tail : Bool) : (writeDelay s c m tail).esA = s.esA :=
  same_of_drop (m := 8590721024) (writeDelay_drop s c m tail rfl) .esA rfl
@[simp] theorem writeDelay_esB (s : State) (c : ChainId) (m : Fin 32) (tail : Bool) : (writeDelay s c m tail).esB = s.esB :=
  same_of_drop (m := 8590721024) (writeDelay_drop s c m tail rfl) .esB rfl
@[simp] theorem writeDelay_est (s : State) (c : ChainId) (m : Fin 32) (tail : Bool) : (writeDelay s c m tail).est = s.est :=
  same_of_drop (m := 8590721024) (writeDelay_drop s c m tail rfl) .est rfl
@[simp] theorem writeDelay_thm (s : State) (c : ChainId) (m : Fin 32) (tail : Bool) : (writeDelay s c m tail).thm = s.thm :=
  same_of_drop (m := 8590721024) (writeDelay_drop s c m tail rfl) .thm rfl
@[simp] theorem writeDelay_prt (s : State) (c : ChainId) (m : Fin 32) (tail : Bool) : (writeDelay s c m tail).prt = s.prt :=
  same_of_drop (m := 8590721024) (writeDelay_drop s c m tail rfl) .prt rfl
@[simp] theorem writeDelay_dvt (s : State) (c : ChainId) (m : Fin 32) (tail : Bool) : (writeDelay s c m tail).dvt = s.dvt :=
  same_of_drop (m := 8590721024) (writeDelay_drop s c m tail rfl) .dvt rfl
@[simp] theorem writeDelay_lsw (s : State) (c : ChainId) (m : Fin 32) (tail : Bool) : (writeDelay s c m tail).lsw = s.lsw :=
  same_of_drop (m := 8590721024) (writeDelay_drop s c m tail rfl) .lsw rfl
@[simp] theorem writeDelay_lbus (s : State) (c : ChainId) (m : Fin 32) (tail : Bool) : (writeDelay s c m tail).lbus = s.lbus :=
  same_of_drop (m := 8590721024) (writeDelay_drop s c m tail rfl) .lbus rfl
@[simp] theorem writeDelay_pwr (s : State) (c : ChainId) (m : Fin 32) (tail : Bool) : (writeDelay s c m tail).pwr = s.pwr :=
  same_of_drop (m := 8590721024) (writeDelay_drop s c m tail rfl) .pwr rfl
@[simp] theorem writeDelay_sec (s : State) (c : ChainId) (m : Fin 32) (tail : Bool) : (writeDelay s c m tail).sec = s.sec :=
  same_of_drop (m := 8590721024) (writeDelay_drop s c m tail rfl) .sec rfl
@[simp] theorem writeDelay_mnt (s : State) (c : ChainId) (m : Fin 32) (tail : Bool) : (writeDelay s c m tail).mnt = s.mnt :=
  same_of_drop (m := 8590721024) (writeDelay_drop s c m tail rfl) .mnt rfl
@[simp] theorem writeDelay_outbox (s : State) (c : ChainId) (m : Fin 32) (tail : Bool) : (writeDelay s c m tail).outbox = s.outbox :=
  same_of_drop (m := 8590721024) (writeDelay_drop s c m tail rfl) .outbox rfl
@[simp] theorem takeId_dev (s : State) (c : ChainId) (m : Fin 32) (tail : Bool) (data : BitVec 96) : (takeId s c m tail data).dev = s.dev :=
  same_of_drop (m := 786432) (takeId_drop s c m tail data rfl) .dev rfl
@[simp] theorem takeId_eng (s : State) (c : ChainId) (m : Fin 32) (tail : Bool) (data : BitVec 96) : (takeId s c m tail data).eng = s.eng :=
  same_of_drop (m := 786432) (takeId_drop s c m tail data rfl) .eng rfl
@[simp] theorem takeId_img (s : State) (c : ChainId) (m : Fin 32) (tail : Bool) (data : BitVec 96) : (takeId s c m tail data).img = s.img :=
  same_of_drop (m := 786432) (takeId_drop s c m tail data rfl) .img rfl
@[simp] theorem takeId_spl (s : State) (c : ChainId) (m : Fin 32) (tail : Bool) (data : BitVec 96) : (takeId s c m tail data).spl = s.spl :=
  same_of_drop (m := 786432) (takeId_drop s c m tail data rfl) .spl rfl
@[simp] theorem takeId_tim (s : State) (c : ChainId) (m : Fin 32) (tail : Bool) (data : BitVec 96) : (takeId s c m tail data).tim = s.tim :=
  same_of_drop (m := 786432) (takeId_drop s c m tail data rfl) .tim rfl
@[simp] theorem takeId_arm (s : State) (c : ChainId) (m : Fin 32) (tail : Bool) (data : BitVec 96) : (takeId s c m tail data).arm = s.arm :=
  same_of_drop (m := 786432) (takeId_drop s c m tail data rfl) .arm rfl
@[simp] theorem takeId_pwm (s : State) (c : ChainId) (m : Fin 32) (tail : Bool) (data : BitVec 96) : (takeId s c m tail data).pwm = s.pwm :=
  same_of_drop (m := 786432) (takeId_drop s c m tail data rfl) .pwm rfl
@[simp] theorem takeId_glk (s : State) (c : ChainId) (m : Fin 32) (tail : Bool) (data : BitVec 96) : (takeId s c m tail data).glk = s.glk :=
  same_of_drop (m := 786432) (takeId_drop s c m tail data rfl) .glk rfl
@[simp] theorem takeId_chA (s : State) (c : ChainId) (m : Fin 32) (tail : Bool) (data : BitVec 96) : (takeId s c m tail data).chA = s.chA :=
  same_of_drop (m := 786432) (takeId_drop s c m tail data rfl) .chA rfl
@[simp] theorem takeId_chB (s : State) (c : ChainId) (m : Fin 32) (tail : Bool) (data : BitVec 96) : (takeId s c m tail data).chB = s.chB :=
  same_of_drop (m := 786432) (takeId_drop s c m tail data rfl) .chB rfl
@[simp] theorem takeId_esA (s : State) (c : ChainId) (m : Fin 32) (tail : Bool) (data : BitVec 96) : (takeId s c m tail data).esA = s.esA :=
  same_of_drop (m := 786432) (takeId_drop s c m tail data rfl) .esA rfl
@[simp] theorem takeId_esB (s : State) (c : ChainId) (m : Fin 32) (tail : Bool) (data : BitVec 96) : (takeId s c m tail data).esB = s.esB :=
  same_of_drop (m := 786432) (takeId_drop s c m tail data rfl) .esB rfl
@[simp] theorem takeId_est (s : State) (c : ChainId) (m : Fin 32) (tail : Bool) (data : BitVec 96) : (takeId s c m tail data).est = s.est :=
  same_of_drop (m := 786432) (takeId_drop s c m tail data rfl) .est rfl
@[simp] theorem takeId_thm (s : State) (c : ChainId) (m : Fin 32) (tail : Bool) (data : BitVec 96) : (takeId s c m tail data).thm = s.thm :=
  same_of_drop (m := 786432) (takeId_drop s c m tail data rfl) .thm rfl
@[simp] theorem takeId_prt (s : State) (c : ChainId) (m : Fin 32) (tail : Bool) (data : BitVec 96) : (takeId s c m tail data).prt = s.prt :=
  same_of_drop (m := 786432) (takeId_drop s c m tail data rfl) .prt rfl
@[simp] theorem takeId_dvt (s : State) (c : ChainId) (m : Fin 32) (tail : Bool) (data : BitVec 96) : (takeId s c m tail data).dvt = s.dvt :=
  same_of_drop (m := 786432) (takeId_drop s c m tail data rfl) .dvt rfl
@[simp] theorem takeId_lsw (s : State) (c : ChainId) (m : Fin 32) (tail : Bool) (data : BitVec 96) : (takeId s c m tail data).lsw = s.lsw :=
  same_of_drop (m := 786432) (takeId_drop s c m tail data rfl) .lsw rfl
@[simp] theorem takeId_lbus (s : State) (c : ChainId) (m : Fin 32) (tail : Bool) (data : BitVec 96) : (takeId s c m tail data).lbus = s.lbus :=
  same_of_drop (m := 786432) (takeId_drop s c m tail data rfl) .lbus rfl
@[simp] theorem takeId_pwr (s : State) (c : ChainId) (m : Fin 32) (tail : Bool) (data : BitVec 96) : (takeId s c m tail data).pwr = s.pwr :=
  same_of_drop (m := 786432) (takeId_drop s c m tail data rfl) .pwr rfl
@[simp] theorem takeId_sec (s : State) (c : ChainId) (m : Fin 32) (tail : Bool) (data : BitVec 96) : (takeId s c m tail data).sec = s.sec :=
  same_of_drop (m := 786432) (takeId_drop s c m tail data rfl) .sec rfl
@[simp] theorem takeId_mnt (s : State) (c : ChainId) (m : Fin 32) (tail : Bool) (data : BitVec 96) : (takeId s c m tail data).mnt = s.mnt :=
  same_of_drop (m := 786432) (takeId_drop s c m tail data rfl) .mnt rfl
@[simp] theorem takeId_evt (s : State) (c : ChainId) (m : Fin 32) (tail : Bool) (data : BitVec 96) : (takeId s c m tail data).evt = s.evt :=
  same_of_drop (m := 786432) (takeId_drop s c m tail data rfl) .evt rfl
@[simp] theorem takeId_outbox (s : State) (c : ChainId) (m : Fin 32) (tail : Bool) (data : BitVec 96) : (takeId s c m tail data).outbox = s.outbox :=
  same_of_drop (m := 786432) (takeId_drop s c m tail data rfl) .outbox rfl
@[simp] theorem takeTest_dev (s : State) (c : ChainId) (m : Fin 32) (data : BitVec 96) : (takeTest s c m data).dev = s.dev :=
  same_of_drop (m := 77317734400) (takeTest_drop s c m data rfl) .dev rfl
@[simp] theorem takeTest_eng (s : State) (c : ChainId) (m : Fin 32) (data : BitVec 96) : (takeTest s c m data).eng = s.eng :=
  same_of_drop (m := 77317734400) (takeTest_drop s c m data rfl) .eng rfl
@[simp] theorem takeTest_img (s : State) (c : ChainId) (m : Fin 32) (data : BitVec 96) : (takeTest s c m data).img = s.img :=
  same_of_drop (m := 77317734400) (takeTest_drop s c m data rfl) .img rfl
@[simp] theorem takeTest_spl (s : State) (c : ChainId) (m : Fin 32) (data : BitVec 96) : (takeTest s c m data).spl = s.spl :=
  same_of_drop (m := 77317734400) (takeTest_drop s c m data rfl) .spl rfl
@[simp] theorem takeTest_tim (s : State) (c : ChainId) (m : Fin 32) (data : BitVec 96) : (takeTest s c m data).tim = s.tim :=
  same_of_drop (m := 77317734400) (takeTest_drop s c m data rfl) .tim rfl
@[simp] theorem takeTest_arm (s : State) (c : ChainId) (m : Fin 32) (data : BitVec 96) : (takeTest s c m data).arm = s.arm :=
  same_of_drop (m := 77317734400) (takeTest_drop s c m data rfl) .arm rfl
@[simp] theorem takeTest_pwm (s : State) (c : ChainId) (m : Fin 32) (data : BitVec 96) : (takeTest s c m data).pwm = s.pwm :=
  same_of_drop (m := 77317734400) (takeTest_drop s c m data rfl) .pwm rfl
@[simp] theorem takeTest_glk (s : State) (c : ChainId) (m : Fin 32) (data : BitVec 96) : (takeTest s c m data).glk = s.glk :=
  same_of_drop (m := 77317734400) (takeTest_drop s c m data rfl) .glk rfl
@[simp] theorem takeTest_thm (s : State) (c : ChainId) (m : Fin 32) (data : BitVec 96) : (takeTest s c m data).thm = s.thm :=
  same_of_drop (m := 77317734400) (takeTest_drop s c m data rfl) .thm rfl
@[simp] theorem takeTest_prt (s : State) (c : ChainId) (m : Fin 32) (data : BitVec 96) : (takeTest s c m data).prt = s.prt :=
  same_of_drop (m := 77317734400) (takeTest_drop s c m data rfl) .prt rfl
@[simp] theorem takeTest_dvt (s : State) (c : ChainId) (m : Fin 32) (data : BitVec 96) : (takeTest s c m data).dvt = s.dvt :=
  same_of_drop (m := 77317734400) (takeTest_drop s c m data rfl) .dvt rfl
@[simp] theorem takeTest_lsw (s : State) (c : ChainId) (m : Fin 32) (data : BitVec 96) : (takeTest s c m data).lsw = s.lsw :=
  same_of_drop (m := 77317734400) (takeTest_drop s c m data rfl) .lsw rfl
@[simp] theorem takeTest_lbus (s : State) (c : ChainId) (m : Fin 32) (data : BitVec 96) : (takeTest s c m data).lbus = s.lbus :=
  same_of_drop (m := 77317734400) (takeTest_drop s c m data rfl) .lbus rfl
@[simp] theorem takeTest_pwr (s : State) (c : ChainId) (m : Fin 32) (data : BitVec 96) : (takeTest s c m data).pwr = s.pwr :=
  same_of_drop (m := 77317734400) (takeTest_drop s c m data rfl) .pwr rfl
@[simp] theorem takeTest_sec (s : State) (c : ChainId) (m : Fin 32) (data : BitVec 96) : (takeTest s c m data).sec = s.sec :=
  same_of_drop (m := 77317734400) (takeTest_drop s c m data rfl) .sec rfl
@[simp] theorem takeTest_mnt (s : State) (c : ChainId) (m : Fin 32) (data : BitVec 96) : (takeTest s c m data).mnt = s.mnt :=
  same_of_drop (m := 77317734400) (takeTest_drop s c m data rfl) .mnt rfl
@[simp] theorem takeTest_outbox (s : State) (c : ChainId) (m : Fin 32) (data : BitVec 96) : (takeTest s c m data).outbox = s.outbox :=
  same_of_drop (m := 77317734400) (takeTest_drop s c m data rfl) .outbox rfl
@[simp] theorem takeConfig_dev (s : State) (c : ChainId) (m : Fin 32) : (takeConfig s c m).dev = s.dev :=
  same_of_drop (m := 4294967296) (takeConfig_drop s c m rfl) .dev rfl
@[simp] theorem takeConfig_eng (s : State) (c : ChainId) (m : Fin 32) : (takeConfig s c m).eng = s.eng :=
  same_of_drop (m := 4294967296) (takeConfig_drop s c m rfl) .eng rfl
@[simp] theorem takeConfig_img (s : State) (c : ChainId) (m : Fin 32) : (takeConfig s c m).img = s.img :=
  same_of_drop (m := 4294967296) (takeConfig_drop s c m rfl) .img rfl
@[simp] theorem takeConfig_spl (s : State) (c : ChainId) (m : Fin 32) : (takeConfig s c m).spl = s.spl :=
  same_of_drop (m := 4294967296) (takeConfig_drop s c m rfl) .spl rfl
@[simp] theorem takeConfig_tim (s : State) (c : ChainId) (m : Fin 32) : (takeConfig s c m).tim = s.tim :=
  same_of_drop (m := 4294967296) (takeConfig_drop s c m rfl) .tim rfl
@[simp] theorem takeConfig_arm (s : State) (c : ChainId) (m : Fin 32) : (takeConfig s c m).arm = s.arm :=
  same_of_drop (m := 4294967296) (takeConfig_drop s c m rfl) .arm rfl
@[simp] theorem takeConfig_pwm (s : State) (c : ChainId) (m : Fin 32) : (takeConfig s c m).pwm = s.pwm :=
  same_of_drop (m := 4294967296) (takeConfig_drop s c m rfl) .pwm rfl
@[simp] theorem takeConfig_glk (s : State) (c : ChainId) (m : Fin 32) : (takeConfig s c m).glk = s.glk :=
  same_of_drop (m := 4294967296) (takeConfig_drop s c m rfl) .glk rfl
@[simp] theorem takeConfig_chA (s : State) (c : ChainId) (m : Fin 32) : (takeConfig s c m).chA = s.chA :=
  same_of_drop (m := 4294967296) (takeConfig_drop s c m rfl) .chA rfl
@[simp] theorem takeConfig_chB (s : State) (c : ChainId) (m : Fin 32) : (takeConfig s c m).chB = s.chB :=
  same_of_drop (m := 4294967296) (takeConfig_drop s c m rfl) .chB rfl
@[simp] theorem takeConfig_snA (s : State) (c : ChainId) (m : Fin 32) : (takeConfig s c m).snA = s.snA :=
  same_of_drop (m := 4294967296) (takeConfig_drop s c m rfl) .snA rfl
@[simp] theorem takeConfig_snB (s : State) (c : ChainId) (m : Fin 32) : (takeConfig s c m).snB = s.snB :=
  same_of_drop (m := 4294967296) (takeConfig_drop s c m rfl) .snB rfl
@[simp] theorem takeConfig_esA (s : State) (c : ChainId) (m : Fin 32) : (takeConfig s c m).esA = s.esA :=
  same_of_drop (m := 4294967296) (takeConfig_drop s c m rfl) .esA rfl
@[simp] theorem takeConfig_esB (s : State) (c : ChainId) (m : Fin 32) : (takeConfig s c m).esB = s.esB :=
  same_of_drop (m := 4294967296) (takeConfig_drop s c m rfl) .esB rfl
@[simp] theorem takeConfig_est (s : State) (c : ChainId) (m : Fin 32) : (takeConfig s c m).est = s.est :=
  same_of_drop (m := 4294967296) (takeConfig_drop s c m rfl) .est rfl
@[simp] theorem takeConfig_thm (s : State) (c : ChainId) (m : Fin 32) : (takeConfig s c m).thm = s.thm :=
  same_of_drop (m := 4294967296) (takeConfig_drop s c m rfl) .thm rfl
@[simp] theorem takeConfig_prt (s : State) (c : ChainId) (m : Fin 32) : (takeConfig s c m).prt = s.prt :=
  same_of_drop (m := 4294967296) (takeConfig_drop s c m rfl) .prt rfl
@[simp] theorem takeConfig_dvt (s : State) (c : ChainId) (m : Fin 32) : (takeConfig s c m).dvt = s.dvt :=
  same_of_drop (m := 4294967296) (takeConfig_drop s c m rfl) .dvt rfl
@[simp] theorem takeConfig_lsw (s : State) (c : ChainId) (m : Fin 32) : (takeConfig s c m).lsw = s.lsw :=
  same_of_drop (m := 4294967296) (takeConfig_drop s c m rfl) .lsw rfl
@[simp] theorem takeConfig_lbus (s : State) (c : ChainId) (m : Fin 32) : (takeConfig s c m).lbus = s.lbus :=
  same_of_drop (m := 4294967296) (takeConfig_drop s c m rfl) .lbus rfl
@[simp] theorem takeConfig_pwr (s : State) (c : ChainId) (m : Fin 32) : (takeConfig s c m).pwr = s.pwr :=
  same_of_drop (m := 4294967296) (takeConfig_drop s c m rfl) .pwr rfl
@[simp] theorem takeConfig_sec (s : State) (c : ChainId) (m : Fin 32) : (takeConfig s c m).sec = s.sec :=
  same_of_drop (m := 4294967296) (takeConfig_drop s c m rfl) .sec rfl
@[simp] theorem takeConfig_evt (s : State) (c : ChainId) (m : Fin 32) : (takeConfig s c m).evt = s.evt :=
  same_of_drop (m := 4294967296) (takeConfig_drop s c m rfl) .evt rfl
@[simp] theorem takeConfig_outbox (s : State) (c : ChainId) (m : Fin 32) : (takeConfig s c m).outbox = s.outbox :=
  same_of_drop (m := 4294967296) (takeConfig_drop s c m rfl) .outbox rfl
@[simp] theorem takeStatus_dev (s : State) (c : ChainId) (m : Fin 32) (old : BitVec 16) : (takeStatus s c m old).dev = s.dev :=
  same_of_drop (m := 8595111936) (takeStatus_drop s c m old rfl) .dev rfl
@[simp] theorem takeStatus_eng (s : State) (c : ChainId) (m : Fin 32) (old : BitVec 16) : (takeStatus s c m old).eng = s.eng :=
  same_of_drop (m := 8595111936) (takeStatus_drop s c m old rfl) .eng rfl
@[simp] theorem takeStatus_img (s : State) (c : ChainId) (m : Fin 32) (old : BitVec 16) : (takeStatus s c m old).img = s.img :=
  same_of_drop (m := 8595111936) (takeStatus_drop s c m old rfl) .img rfl
@[simp] theorem takeStatus_spl (s : State) (c : ChainId) (m : Fin 32) (old : BitVec 16) : (takeStatus s c m old).spl = s.spl :=
  same_of_drop (m := 8595111936) (takeStatus_drop s c m old rfl) .spl rfl
@[simp] theorem takeStatus_tim (s : State) (c : ChainId) (m : Fin 32) (old : BitVec 16) : (takeStatus s c m old).tim = s.tim :=
  same_of_drop (m := 8595111936) (takeStatus_drop s c m old rfl) .tim rfl
@[simp] theorem takeStatus_arm (s : State) (c : ChainId) (m : Fin 32) (old : BitVec 16) : (takeStatus s c m old).arm = s.arm :=
  same_of_drop (m := 8595111936) (takeStatus_drop s c m old rfl) .arm rfl
@[simp] theorem takeStatus_pwm (s : State) (c : ChainId) (m : Fin 32) (old : BitVec 16) : (takeStatus s c m old).pwm = s.pwm :=
  same_of_drop (m := 8595111936) (takeStatus_drop s c m old rfl) .pwm rfl
@[simp] theorem takeStatus_glk (s : State) (c : ChainId) (m : Fin 32) (old : BitVec 16) : (takeStatus s c m old).glk = s.glk :=
  same_of_drop (m := 8595111936) (takeStatus_drop s c m old rfl) .glk rfl
@[simp] theorem takeStatus_esA (s : State) (c : ChainId) (m : Fin 32) (old : BitVec 16) : (takeStatus s c m old).esA = s.esA :=
  same_of_drop (m := 8595111936) (takeStatus_drop s c m old rfl) .esA rfl
@[simp] theorem takeStatus_esB (s : State) (c : ChainId) (m : Fin 32) (old : BitVec 16) : (takeStatus s c m old).esB = s.esB :=
  same_of_drop (m := 8595111936) (takeStatus_drop s c m old rfl) .esB rfl
@[simp] theorem takeStatus_thm (s : State) (c : ChainId) (m : Fin 32) (old : BitVec 16) : (takeStatus s c m old).thm = s.thm :=
  same_of_drop (m := 8595111936) (takeStatus_drop s c m old rfl) .thm rfl
@[simp] theorem takeStatus_prt (s : State) (c : ChainId) (m : Fin 32) (old : BitVec 16) : (takeStatus s c m old).prt = s.prt :=
  same_of_drop (m := 8595111936) (takeStatus_drop s c m old rfl) .prt rfl
@[simp] theorem takeStatus_dvt (s : State) (c : ChainId) (m : Fin 32) (old : BitVec 16) : (takeStatus s c m old).dvt = s.dvt :=
  same_of_drop (m := 8595111936) (takeStatus_drop s c m old rfl) .dvt rfl
@[simp] theorem takeStatus_lsw (s : State) (c : ChainId) (m : Fin 32) (old : BitVec 16) : (takeStatus s c m old).lsw = s.lsw :=
  same_of_drop (m := 8595111936) (takeStatus_drop s c m old rfl) .lsw rfl
@[simp] theorem takeStatus_lbus (s : State) (c : ChainId) (m : Fin 32) (old : BitVec 16) : (takeStatus s c m old).lbus = s.lbus :=
  same_of_drop (m := 8595111936) (takeStatus_drop s c m old rfl) .lbus rfl
@[simp] theorem takeStatus_pwr (s : State) (c : ChainId) (m : Fin 32) (old : BitVec 16) : (takeStatus s c m old).pwr = s.pwr :=
  same_of_drop (m := 8595111936) (takeStatus_drop s c m old rfl) .pwr rfl
@[simp] theorem takeStatus_sec (s : State) (c : ChainId) (m : Fin 32) (old : BitVec 16) : (takeStatus s c m old).sec = s.sec :=
  same_of_drop (m := 8595111936) (takeStatus_drop s c m old rfl) .sec rfl
@[simp] theorem takeStatus_mnt (s : State) (c : ChainId) (m : Fin 32) (old : BitVec 16) : (takeStatus s c m old).mnt = s.mnt :=
  same_of_drop (m := 8595111936) (takeStatus_drop s c m old rfl) .mnt rfl
@[simp] theorem takeStatus_outbox (s : State) (c : ChainId) (m : Fin 32) (old : BitVec 16) : (takeStatus s c m old).outbox = s.outbox :=
  same_of_drop (m := 8595111936) (takeStatus_drop s c m old rfl) .outbox rfl
@[simp] theorem takeOpenWire_dev (s : State) (c : ChainId) (m : Fin 32) (ow : BitVec 33) : (takeOpenWire s c m ow).dev = s.dev :=
  same_of_drop (m := 8595111936) (takeOpenWire_drop s c m ow rfl) .dev rfl
@[simp] theorem takeOpenWire_eng (s : State) (c : ChainId) (m : Fin 32) (ow : BitVec 33) : (takeOpenWire s c m ow).eng = s.eng :=
  same_of_drop (m := 8595111936) (takeOpenWire_drop s c m ow rfl) .eng rfl
@[simp] theorem takeOpenWire_img (s : State) (c : ChainId) (m : Fin 32) (ow : BitVec 33) : (takeOpenWire s c m ow).img = s.img :=
  same_of_drop (m := 8595111936) (takeOpenWire_drop s c m ow rfl) .img rfl
@[simp] theorem takeOpenWire_spl (s : State) (c : ChainId) (m : Fin 32) (ow : BitVec 33) : (takeOpenWire s c m ow).spl = s.spl :=
  same_of_drop (m := 8595111936) (takeOpenWire_drop s c m ow rfl) .spl rfl
@[simp] theorem takeOpenWire_tim (s : State) (c : ChainId) (m : Fin 32) (ow : BitVec 33) : (takeOpenWire s c m ow).tim = s.tim :=
  same_of_drop (m := 8595111936) (takeOpenWire_drop s c m ow rfl) .tim rfl
@[simp] theorem takeOpenWire_arm (s : State) (c : ChainId) (m : Fin 32) (ow : BitVec 33) : (takeOpenWire s c m ow).arm = s.arm :=
  same_of_drop (m := 8595111936) (takeOpenWire_drop s c m ow rfl) .arm rfl
@[simp] theorem takeOpenWire_pwm (s : State) (c : ChainId) (m : Fin 32) (ow : BitVec 33) : (takeOpenWire s c m ow).pwm = s.pwm :=
  same_of_drop (m := 8595111936) (takeOpenWire_drop s c m ow rfl) .pwm rfl
@[simp] theorem takeOpenWire_glk (s : State) (c : ChainId) (m : Fin 32) (ow : BitVec 33) : (takeOpenWire s c m ow).glk = s.glk :=
  same_of_drop (m := 8595111936) (takeOpenWire_drop s c m ow rfl) .glk rfl
@[simp] theorem takeOpenWire_esA (s : State) (c : ChainId) (m : Fin 32) (ow : BitVec 33) : (takeOpenWire s c m ow).esA = s.esA :=
  same_of_drop (m := 8595111936) (takeOpenWire_drop s c m ow rfl) .esA rfl
@[simp] theorem takeOpenWire_esB (s : State) (c : ChainId) (m : Fin 32) (ow : BitVec 33) : (takeOpenWire s c m ow).esB = s.esB :=
  same_of_drop (m := 8595111936) (takeOpenWire_drop s c m ow rfl) .esB rfl
@[simp] theorem takeOpenWire_thm (s : State) (c : ChainId) (m : Fin 32) (ow : BitVec 33) : (takeOpenWire s c m ow).thm = s.thm :=
  same_of_drop (m := 8595111936) (takeOpenWire_drop s c m ow rfl) .thm rfl
@[simp] theorem takeOpenWire_prt (s : State) (c : ChainId) (m : Fin 32) (ow : BitVec 33) : (takeOpenWire s c m ow).prt = s.prt :=
  same_of_drop (m := 8595111936) (takeOpenWire_drop s c m ow rfl) .prt rfl
@[simp] theorem takeOpenWire_dvt (s : State) (c : ChainId) (m : Fin 32) (ow : BitVec 33) : (takeOpenWire s c m ow).dvt = s.dvt :=
  same_of_drop (m := 8595111936) (takeOpenWire_drop s c m ow rfl) .dvt rfl
@[simp] theorem takeOpenWire_lsw (s : State) (c : ChainId) (m : Fin 32) (ow : BitVec 33) : (takeOpenWire s c m ow).lsw = s.lsw :=
  same_of_drop (m := 8595111936) (takeOpenWire_drop s c m ow rfl) .lsw rfl
@[simp] theorem takeOpenWire_lbus (s : State) (c : ChainId) (m : Fin 32) (ow : BitVec 33) : (takeOpenWire s c m ow).lbus = s.lbus :=
  same_of_drop (m := 8595111936) (takeOpenWire_drop s c m ow rfl) .lbus rfl
@[simp] theorem takeOpenWire_pwr (s : State) (c : ChainId) (m : Fin 32) (ow : BitVec 33) : (takeOpenWire s c m ow).pwr = s.pwr :=
  same_of_drop (m := 8595111936) (takeOpenWire_drop s c m ow rfl) .pwr rfl
@[simp] theorem takeOpenWire_sec (s : State) (c : ChainId) (m : Fin 32) (ow : BitVec 33) : (takeOpenWire s c m ow).sec = s.sec :=
  same_of_drop (m := 8595111936) (takeOpenWire_drop s c m ow rfl) .sec rfl
@[simp] theorem takeOpenWire_mnt (s : State) (c : ChainId) (m : Fin 32) (ow : BitVec 33) : (takeOpenWire s c m ow).mnt = s.mnt :=
  same_of_drop (m := 8595111936) (takeOpenWire_drop s c m ow rfl) .mnt rfl
@[simp] theorem takeOpenWire_outbox (s : State) (c : ChainId) (m : Fin 32) (ow : BitVec 33) : (takeOpenWire s c m ow).outbox = s.outbox :=
  same_of_drop (m := 8595111936) (takeOpenWire_drop s c m ow rfl) .outbox rfl
@[simp] theorem takeAbsence_dev (s : State) (c : ChainId) (m : Fin 32) : (takeAbsence s c m).dev = s.dev :=
  same_of_drop (m := 12968755200) (takeAbsence_drop s c m rfl) .dev rfl
@[simp] theorem takeAbsence_eng (s : State) (c : ChainId) (m : Fin 32) : (takeAbsence s c m).eng = s.eng :=
  same_of_drop (m := 12968755200) (takeAbsence_drop s c m rfl) .eng rfl
@[simp] theorem takeAbsence_img (s : State) (c : ChainId) (m : Fin 32) : (takeAbsence s c m).img = s.img :=
  same_of_drop (m := 12968755200) (takeAbsence_drop s c m rfl) .img rfl
@[simp] theorem takeAbsence_spl (s : State) (c : ChainId) (m : Fin 32) : (takeAbsence s c m).spl = s.spl :=
  same_of_drop (m := 12968755200) (takeAbsence_drop s c m rfl) .spl rfl
@[simp] theorem takeAbsence_tim (s : State) (c : ChainId) (m : Fin 32) : (takeAbsence s c m).tim = s.tim :=
  same_of_drop (m := 12968755200) (takeAbsence_drop s c m rfl) .tim rfl
@[simp] theorem takeAbsence_arm (s : State) (c : ChainId) (m : Fin 32) : (takeAbsence s c m).arm = s.arm :=
  same_of_drop (m := 12968755200) (takeAbsence_drop s c m rfl) .arm rfl
@[simp] theorem takeAbsence_pwm (s : State) (c : ChainId) (m : Fin 32) : (takeAbsence s c m).pwm = s.pwm :=
  same_of_drop (m := 12968755200) (takeAbsence_drop s c m rfl) .pwm rfl
@[simp] theorem takeAbsence_prt (s : State) (c : ChainId) (m : Fin 32) : (takeAbsence s c m).prt = s.prt :=
  same_of_drop (m := 12968755200) (takeAbsence_drop s c m rfl) .prt rfl
@[simp] theorem takeAbsence_dvt (s : State) (c : ChainId) (m : Fin 32) : (takeAbsence s c m).dvt = s.dvt :=
  same_of_drop (m := 12968755200) (takeAbsence_drop s c m rfl) .dvt rfl
@[simp] theorem takeAbsence_lbus (s : State) (c : ChainId) (m : Fin 32) : (takeAbsence s c m).lbus = s.lbus :=
  same_of_drop (m := 12968755200) (takeAbsence_drop s c m rfl) .lbus rfl
@[simp] theorem takeAbsence_pwr (s : State) (c : ChainId) (m : Fin 32) : (takeAbsence s c m).pwr = s.pwr :=
  same_of_drop (m := 12968755200) (takeAbsence_drop s c m rfl) .pwr rfl
@[simp] theorem takeAbsence_sec (s : State) (c : ChainId) (m : Fin 32) : (takeAbsence s c m).sec = s.sec :=
  same_of_drop (m := 12968755200) (takeAbsence_drop s c m rfl) .sec rfl
@[simp] theorem takeAbsence_outbox (s : State) (c : ChainId) (m : Fin 32) : (takeAbsence s c m).outbox = s.outbox :=
  same_of_drop (m := 12968755200) (takeAbsence_drop s c m rfl) .outbox rfl
@[simp] theorem takeAbsence_glk_legA (s : State) (c : ChainId) (m : Fin 32) : (takeAbsence s c m).glk.legA = s.glk.legA := by
  have h := same_of_drop (m := 12968755200) (takeAbsence_drop s c m rfl) .legs rfl
  simp only [Block.same] at h; simp only [h]
@[simp] theorem takeAbsence_glk_legB (s : State) (c : ChainId) (m : Fin 32) : (takeAbsence s c m).glk.legB = s.glk.legB := by
  have h := same_of_drop (m := 12968755200) (takeAbsence_drop s c m rfl) .legs rfl
  simp only [Block.same] at h; simp only [h]
@[simp] theorem takeAbsence_glk_fireHold (s : State) (c : ChainId) (m : Fin 32) : (takeAbsence s c m).glk.fireHold = s.glk.fireHold := by
  have h := same_of_drop (m := 12968755200) (takeAbsence_drop s c m rfl) .switch rfl
  simp only [Block.same] at h; simp only [h]
@[simp] theorem takeAbsence_glk_fireAll (s : State) (c : ChainId) (m : Fin 32) : (takeAbsence s c m).glk.fireAll = s.glk.fireAll := by
  have h := same_of_drop (m := 12968755200) (takeAbsence_drop s c m rfl) .switch rfl
  simp only [Block.same] at h; simp only [h]
@[simp] theorem takeAbsence_glk_closeAsserted (s : State) (c : ChainId) (m : Fin 32) : (takeAbsence s c m).glk.closeAsserted = s.glk.closeAsserted := by
  have h := same_of_drop (m := 12968755200) (takeAbsence_drop s c m rfl) .switch rfl
  simp only [Block.same] at h; simp only [h]
@[simp] theorem takeAbsence_glk_closeDue (s : State) (c : ChainId) (m : Fin 32) : (takeAbsence s c m).glk.closeDue = s.glk.closeDue := by
  have h := same_of_drop (m := 12968755200) (takeAbsence_drop s c m rfl) .switch rfl
  simp only [Block.same] at h; simp only [h]
@[simp] theorem takeAbsence_glk_statClosed (s : State) (c : ChainId) (m : Fin 32) : (takeAbsence s c m).glk.statClosed = s.glk.statClosed := by
  have h := same_of_drop (m := 12968755200) (takeAbsence_drop s c m rfl) .switch rfl
  simp only [Block.same] at h; simp only [h]
@[simp] theorem takeAbsence_thm_sdHotA (s : State) (c : ChainId) (m : Fin 32) : (takeAbsence s c m).thm.sdHotA = s.thm.sdHotA := by
  have h := same_of_drop (m := 12968755200) (takeAbsence_drop s c m rfl) .shutdown rfl
  simp only [Block.same] at h; simp only [h]
@[simp] theorem takeAbsence_thm_sdHotB (s : State) (c : ChainId) (m : Fin 32) : (takeAbsence s c m).thm.sdHotB = s.thm.sdHotB := by
  have h := same_of_drop (m := 12968755200) (takeAbsence_drop s c m rfl) .shutdown rfl
  simp only [Block.same] at h; simp only [h]
@[simp] theorem takeAbsence_thm_sdColdA (s : State) (c : ChainId) (m : Fin 32) : (takeAbsence s c m).thm.sdColdA = s.thm.sdColdA := by
  have h := same_of_drop (m := 12968755200) (takeAbsence_drop s c m rfl) .shutdown rfl
  simp only [Block.same] at h; simp only [h]
@[simp] theorem takeAbsence_thm_sdColdB (s : State) (c : ChainId) (m : Fin 32) : (takeAbsence s c m).thm.sdColdB = s.thm.sdColdB := by
  have h := same_of_drop (m := 12968755200) (takeAbsence_drop s c m rfl) .shutdown rfl
  simp only [Block.same] at h; simp only [h]
@[simp] theorem judgeModule_dev (c : ChainId) (s : State) (m : Fin 32) : (judgeModule c s m).dev = s.dev :=
  same_of_drop (m := 1799688790016) (judgeModule_drop c s m rfl) .dev rfl
@[simp] theorem judgeModule_eng (c : ChainId) (s : State) (m : Fin 32) : (judgeModule c s m).eng = s.eng :=
  same_of_drop (m := 1799688790016) (judgeModule_drop c s m rfl) .eng rfl
@[simp] theorem judgeModule_img (c : ChainId) (s : State) (m : Fin 32) : (judgeModule c s m).img = s.img :=
  same_of_drop (m := 1799688790016) (judgeModule_drop c s m rfl) .img rfl
@[simp] theorem judgeModule_spl (c : ChainId) (s : State) (m : Fin 32) : (judgeModule c s m).spl = s.spl :=
  same_of_drop (m := 1799688790016) (judgeModule_drop c s m rfl) .spl rfl
@[simp] theorem judgeModule_tim (c : ChainId) (s : State) (m : Fin 32) : (judgeModule c s m).tim = s.tim :=
  same_of_drop (m := 1799688790016) (judgeModule_drop c s m rfl) .tim rfl
@[simp] theorem judgeModule_arm_cell (c : ChainId) (s : State) (m : Fin 32) : (judgeModule c s m).arm.cell = s.arm.cell := by
  have h := same_of_drop (m := 1799688790016) (judgeModule_drop c s m rfl) .cell rfl
  simp only [Block.same] at h; simp only [h]
@[simp] theorem judgeModule_arm_changes (c : ChainId) (s : State) (m : Fin 32) : (judgeModule c s m).arm.changes = s.arm.changes := by
  have h := same_of_drop (m := 1799688790016) (judgeModule_drop c s m rfl) .cell rfl
  simp only [Block.same] at h; simp only [h]
@[simp] theorem judgeModule_arm_owner (c : ChainId) (s : State) (m : Fin 32) : (judgeModule c s m).arm.owner = s.arm.owner := by
  have h := same_of_drop (m := 1799688790016) (judgeModule_drop c s m rfl) .token rfl
  exact h
@[simp] theorem judgeModule_arm_bypassed (c : ChainId) (s : State) (m : Fin 32) : (judgeModule c s m).arm.bypassed = s.arm.bypassed := by
  have h := same_of_drop (m := 1799688790016) (judgeModule_drop c s m rfl) .bypass rfl
  exact h
@[simp] theorem judgeModule_pwm (c : ChainId) (s : State) (m : Fin 32) : (judgeModule c s m).pwm = s.pwm :=
  same_of_drop (m := 1799688790016) (judgeModule_drop c s m rfl) .pwm rfl
@[simp] theorem judgeModule_esA (c : ChainId) (s : State) (m : Fin 32) : (judgeModule c s m).esA = s.esA :=
  same_of_drop (m := 1799688790016) (judgeModule_drop c s m rfl) .esA rfl
@[simp] theorem judgeModule_esB (c : ChainId) (s : State) (m : Fin 32) : (judgeModule c s m).esB = s.esB :=
  same_of_drop (m := 1799688790016) (judgeModule_drop c s m rfl) .esB rfl
@[simp] theorem judgeModule_dvt (c : ChainId) (s : State) (m : Fin 32) : (judgeModule c s m).dvt = s.dvt :=
  same_of_drop (m := 1799688790016) (judgeModule_drop c s m rfl) .dvt rfl
@[simp] theorem judgeModule_lbus (c : ChainId) (s : State) (m : Fin 32) : (judgeModule c s m).lbus = s.lbus :=
  same_of_drop (m := 1799688790016) (judgeModule_drop c s m rfl) .lbus rfl
@[simp] theorem judgeModule_pwr (c : ChainId) (s : State) (m : Fin 32) : (judgeModule c s m).pwr = s.pwr :=
  same_of_drop (m := 1799688790016) (judgeModule_drop c s m rfl) .pwr rfl
@[simp] theorem judgeModule_sec (c : ChainId) (s : State) (m : Fin 32) : (judgeModule c s m).sec = s.sec :=
  same_of_drop (m := 1799688790016) (judgeModule_drop c s m rfl) .sec rfl
@[simp] theorem judgeModule_glk_fireHold (c : ChainId) (s : State) (m : Fin 32) : (judgeModule c s m).glk.fireHold = s.glk.fireHold := by
  have h := same_of_drop (m := 1799688790016) (judgeModule_drop c s m rfl) .switch rfl
  simp only [Block.same] at h; simp only [h]
@[simp] theorem judgeModule_glk_fireAll (c : ChainId) (s : State) (m : Fin 32) : (judgeModule c s m).glk.fireAll = s.glk.fireAll := by
  have h := same_of_drop (m := 1799688790016) (judgeModule_drop c s m rfl) .switch rfl
  simp only [Block.same] at h; simp only [h]
@[simp] theorem judgeModule_glk_closeAsserted (c : ChainId) (s : State) (m : Fin 32) : (judgeModule c s m).glk.closeAsserted = s.glk.closeAsserted := by
  have h := same_of_drop (m := 1799688790016) (judgeModule_drop c s m rfl) .switch rfl
  simp only [Block.same] at h; simp only [h]
@[simp] theorem judgeModule_glk_closeDue (c : ChainId) (s : State) (m : Fin 32) : (judgeModule c s m).glk.closeDue = s.glk.closeDue := by
  have h := same_of_drop (m := 1799688790016) (judgeModule_drop c s m rfl) .switch rfl
  simp only [Block.same] at h; simp only [h]
@[simp] theorem judgeModule_glk_statClosed (c : ChainId) (s : State) (m : Fin 32) : (judgeModule c s m).glk.statClosed = s.glk.statClosed := by
  have h := same_of_drop (m := 1799688790016) (judgeModule_drop c s m rfl) .switch rfl
  simp only [Block.same] at h; simp only [h]
@[simp] theorem judgeModule_thm_sdHotA (c : ChainId) (s : State) (m : Fin 32) : (judgeModule c s m).thm.sdHotA = s.thm.sdHotA := by
  have h := same_of_drop (m := 1799688790016) (judgeModule_drop c s m rfl) .shutdown rfl
  simp only [Block.same] at h; simp only [h]
@[simp] theorem judgeModule_thm_sdHotB (c : ChainId) (s : State) (m : Fin 32) : (judgeModule c s m).thm.sdHotB = s.thm.sdHotB := by
  have h := same_of_drop (m := 1799688790016) (judgeModule_drop c s m rfl) .shutdown rfl
  simp only [Block.same] at h; simp only [h]
@[simp] theorem judgeModule_thm_sdColdA (c : ChainId) (s : State) (m : Fin 32) : (judgeModule c s m).thm.sdColdA = s.thm.sdColdA := by
  have h := same_of_drop (m := 1799688790016) (judgeModule_drop c s m rfl) .shutdown rfl
  simp only [Block.same] at h; simp only [h]
@[simp] theorem judgeModule_thm_sdColdB (c : ChainId) (s : State) (m : Fin 32) : (judgeModule c s m).thm.sdColdB = s.thm.sdColdB := by
  have h := same_of_drop (m := 1799688790016) (judgeModule_drop c s m rfl) .shutdown rfl
  simp only [Block.same] at h; simp only [h]
@[simp] theorem dropGone_dev (s : State) (c : ChainId) (m : Fin 32) : (dropGone s c m).dev = s.dev :=
  same_of_drop (m := 4390912) (dropGone_drop s c m rfl) .dev rfl
@[simp] theorem dropGone_eng (s : State) (c : ChainId) (m : Fin 32) : (dropGone s c m).eng = s.eng :=
  same_of_drop (m := 4390912) (dropGone_drop s c m rfl) .eng rfl
@[simp] theorem dropGone_img (s : State) (c : ChainId) (m : Fin 32) : (dropGone s c m).img = s.img :=
  same_of_drop (m := 4390912) (dropGone_drop s c m rfl) .img rfl
@[simp] theorem dropGone_spl (s : State) (c : ChainId) (m : Fin 32) : (dropGone s c m).spl = s.spl :=
  same_of_drop (m := 4390912) (dropGone_drop s c m rfl) .spl rfl
@[simp] theorem dropGone_tim (s : State) (c : ChainId) (m : Fin 32) : (dropGone s c m).tim = s.tim :=
  same_of_drop (m := 4390912) (dropGone_drop s c m rfl) .tim rfl
@[simp] theorem dropGone_arm (s : State) (c : ChainId) (m : Fin 32) : (dropGone s c m).arm = s.arm :=
  same_of_drop (m := 4390912) (dropGone_drop s c m rfl) .arm rfl
@[simp] theorem dropGone_pwm (s : State) (c : ChainId) (m : Fin 32) : (dropGone s c m).pwm = s.pwm :=
  same_of_drop (m := 4390912) (dropGone_drop s c m rfl) .pwm rfl
@[simp] theorem dropGone_glk (s : State) (c : ChainId) (m : Fin 32) : (dropGone s c m).glk = s.glk :=
  same_of_drop (m := 4390912) (dropGone_drop s c m rfl) .glk rfl
@[simp] theorem dropGone_snA (s : State) (c : ChainId) (m : Fin 32) : (dropGone s c m).snA = s.snA :=
  same_of_drop (m := 4390912) (dropGone_drop s c m rfl) .snA rfl
@[simp] theorem dropGone_snB (s : State) (c : ChainId) (m : Fin 32) : (dropGone s c m).snB = s.snB :=
  same_of_drop (m := 4390912) (dropGone_drop s c m rfl) .snB rfl
@[simp] theorem dropGone_esA (s : State) (c : ChainId) (m : Fin 32) : (dropGone s c m).esA = s.esA :=
  same_of_drop (m := 4390912) (dropGone_drop s c m rfl) .esA rfl
@[simp] theorem dropGone_esB (s : State) (c : ChainId) (m : Fin 32) : (dropGone s c m).esB = s.esB :=
  same_of_drop (m := 4390912) (dropGone_drop s c m rfl) .esB rfl
@[simp] theorem dropGone_thm (s : State) (c : ChainId) (m : Fin 32) : (dropGone s c m).thm = s.thm :=
  same_of_drop (m := 4390912) (dropGone_drop s c m rfl) .thm rfl
@[simp] theorem dropGone_prt (s : State) (c : ChainId) (m : Fin 32) : (dropGone s c m).prt = s.prt :=
  same_of_drop (m := 4390912) (dropGone_drop s c m rfl) .prt rfl
@[simp] theorem dropGone_dvt (s : State) (c : ChainId) (m : Fin 32) : (dropGone s c m).dvt = s.dvt :=
  same_of_drop (m := 4390912) (dropGone_drop s c m rfl) .dvt rfl
@[simp] theorem dropGone_lsw (s : State) (c : ChainId) (m : Fin 32) : (dropGone s c m).lsw = s.lsw :=
  same_of_drop (m := 4390912) (dropGone_drop s c m rfl) .lsw rfl
@[simp] theorem dropGone_lbus (s : State) (c : ChainId) (m : Fin 32) : (dropGone s c m).lbus = s.lbus :=
  same_of_drop (m := 4390912) (dropGone_drop s c m rfl) .lbus rfl
@[simp] theorem dropGone_pwr (s : State) (c : ChainId) (m : Fin 32) : (dropGone s c m).pwr = s.pwr :=
  same_of_drop (m := 4390912) (dropGone_drop s c m rfl) .pwr rfl
@[simp] theorem dropGone_sec (s : State) (c : ChainId) (m : Fin 32) : (dropGone s c m).sec = s.sec :=
  same_of_drop (m := 4390912) (dropGone_drop s c m rfl) .sec rfl
@[simp] theorem dropGone_mnt (s : State) (c : ChainId) (m : Fin 32) : (dropGone s c m).mnt = s.mnt :=
  same_of_drop (m := 4390912) (dropGone_drop s c m rfl) .mnt rfl
@[simp] theorem dropGone_evt (s : State) (c : ChainId) (m : Fin 32) : (dropGone s c m).evt = s.evt :=
  same_of_drop (m := 4390912) (dropGone_drop s c m rfl) .evt rfl
@[simp] theorem dropGone_outbox (s : State) (c : ChainId) (m : Fin 32) : (dropGone s c m).outbox = s.outbox :=
  same_of_drop (m := 4390912) (dropGone_drop s c m rfl) .outbox rfl
@[simp] theorem countModule_dev (c : ChainId) (x : Snapshot) (total : Int) (drain : Int) (s : State) (m : Fin 32) : (countModule c x total drain s m).dev = s.dev :=
  same_of_drop (m := 3145728) (countModule_drop c x total drain s m rfl) .dev rfl
@[simp] theorem countModule_eng (c : ChainId) (x : Snapshot) (total : Int) (drain : Int) (s : State) (m : Fin 32) : (countModule c x total drain s m).eng = s.eng :=
  same_of_drop (m := 3145728) (countModule_drop c x total drain s m rfl) .eng rfl
@[simp] theorem countModule_img (c : ChainId) (x : Snapshot) (total : Int) (drain : Int) (s : State) (m : Fin 32) : (countModule c x total drain s m).img = s.img :=
  same_of_drop (m := 3145728) (countModule_drop c x total drain s m rfl) .img rfl
@[simp] theorem countModule_spl (c : ChainId) (x : Snapshot) (total : Int) (drain : Int) (s : State) (m : Fin 32) : (countModule c x total drain s m).spl = s.spl :=
  same_of_drop (m := 3145728) (countModule_drop c x total drain s m rfl) .spl rfl
@[simp] theorem countModule_tim (c : ChainId) (x : Snapshot) (total : Int) (drain : Int) (s : State) (m : Fin 32) : (countModule c x total drain s m).tim = s.tim :=
  same_of_drop (m := 3145728) (countModule_drop c x total drain s m rfl) .tim rfl
@[simp] theorem countModule_arm (c : ChainId) (x : Snapshot) (total : Int) (drain : Int) (s : State) (m : Fin 32) : (countModule c x total drain s m).arm = s.arm :=
  same_of_drop (m := 3145728) (countModule_drop c x total drain s m rfl) .arm rfl
@[simp] theorem countModule_pwm (c : ChainId) (x : Snapshot) (total : Int) (drain : Int) (s : State) (m : Fin 32) : (countModule c x total drain s m).pwm = s.pwm :=
  same_of_drop (m := 3145728) (countModule_drop c x total drain s m rfl) .pwm rfl
@[simp] theorem countModule_glk (c : ChainId) (x : Snapshot) (total : Int) (drain : Int) (s : State) (m : Fin 32) : (countModule c x total drain s m).glk = s.glk :=
  same_of_drop (m := 3145728) (countModule_drop c x total drain s m rfl) .glk rfl
@[simp] theorem countModule_chA (c : ChainId) (x : Snapshot) (total : Int) (drain : Int) (s : State) (m : Fin 32) : (countModule c x total drain s m).chA = s.chA :=
  same_of_drop (m := 3145728) (countModule_drop c x total drain s m rfl) .chA rfl
@[simp] theorem countModule_chB (c : ChainId) (x : Snapshot) (total : Int) (drain : Int) (s : State) (m : Fin 32) : (countModule c x total drain s m).chB = s.chB :=
  same_of_drop (m := 3145728) (countModule_drop c x total drain s m rfl) .chB rfl
@[simp] theorem countModule_snA (c : ChainId) (x : Snapshot) (total : Int) (drain : Int) (s : State) (m : Fin 32) : (countModule c x total drain s m).snA = s.snA :=
  same_of_drop (m := 3145728) (countModule_drop c x total drain s m rfl) .snA rfl
@[simp] theorem countModule_snB (c : ChainId) (x : Snapshot) (total : Int) (drain : Int) (s : State) (m : Fin 32) : (countModule c x total drain s m).snB = s.snB :=
  same_of_drop (m := 3145728) (countModule_drop c x total drain s m rfl) .snB rfl
@[simp] theorem countModule_est (c : ChainId) (x : Snapshot) (total : Int) (drain : Int) (s : State) (m : Fin 32) : (countModule c x total drain s m).est = s.est :=
  same_of_drop (m := 3145728) (countModule_drop c x total drain s m rfl) .est rfl
@[simp] theorem countModule_thm (c : ChainId) (x : Snapshot) (total : Int) (drain : Int) (s : State) (m : Fin 32) : (countModule c x total drain s m).thm = s.thm :=
  same_of_drop (m := 3145728) (countModule_drop c x total drain s m rfl) .thm rfl
@[simp] theorem countModule_prt (c : ChainId) (x : Snapshot) (total : Int) (drain : Int) (s : State) (m : Fin 32) : (countModule c x total drain s m).prt = s.prt :=
  same_of_drop (m := 3145728) (countModule_drop c x total drain s m rfl) .prt rfl
@[simp] theorem countModule_dvt (c : ChainId) (x : Snapshot) (total : Int) (drain : Int) (s : State) (m : Fin 32) : (countModule c x total drain s m).dvt = s.dvt :=
  same_of_drop (m := 3145728) (countModule_drop c x total drain s m rfl) .dvt rfl
@[simp] theorem countModule_lsw (c : ChainId) (x : Snapshot) (total : Int) (drain : Int) (s : State) (m : Fin 32) : (countModule c x total drain s m).lsw = s.lsw :=
  same_of_drop (m := 3145728) (countModule_drop c x total drain s m rfl) .lsw rfl
@[simp] theorem countModule_lbus (c : ChainId) (x : Snapshot) (total : Int) (drain : Int) (s : State) (m : Fin 32) : (countModule c x total drain s m).lbus = s.lbus :=
  same_of_drop (m := 3145728) (countModule_drop c x total drain s m rfl) .lbus rfl
@[simp] theorem countModule_pwr (c : ChainId) (x : Snapshot) (total : Int) (drain : Int) (s : State) (m : Fin 32) : (countModule c x total drain s m).pwr = s.pwr :=
  same_of_drop (m := 3145728) (countModule_drop c x total drain s m rfl) .pwr rfl
@[simp] theorem countModule_sec (c : ChainId) (x : Snapshot) (total : Int) (drain : Int) (s : State) (m : Fin 32) : (countModule c x total drain s m).sec = s.sec :=
  same_of_drop (m := 3145728) (countModule_drop c x total drain s m rfl) .sec rfl
@[simp] theorem countModule_mnt (c : ChainId) (x : Snapshot) (total : Int) (drain : Int) (s : State) (m : Fin 32) : (countModule c x total drain s m).mnt = s.mnt :=
  same_of_drop (m := 3145728) (countModule_drop c x total drain s m rfl) .mnt rfl
@[simp] theorem countModule_evt (c : ChainId) (x : Snapshot) (total : Int) (drain : Int) (s : State) (m : Fin 32) : (countModule c x total drain s m).evt = s.evt :=
  same_of_drop (m := 3145728) (countModule_drop c x total drain s m rfl) .evt rfl
@[simp] theorem countModule_outbox (c : ChainId) (x : Snapshot) (total : Int) (drain : Int) (s : State) (m : Fin 32) : (countModule c x total drain s m).outbox = s.outbox :=
  same_of_drop (m := 3145728) (countModule_drop c x total drain s m rfl) .outbox rfl
@[simp] theorem refreshSoc_dev (s : State) (c : ChainId) : (refreshSoc s c).dev = s.dev :=
  same_of_drop (m := 3145728) (refreshSoc_drop s c rfl) .dev rfl
@[simp] theorem refreshSoc_eng (s : State) (c : ChainId) : (refreshSoc s c).eng = s.eng :=
  same_of_drop (m := 3145728) (refreshSoc_drop s c rfl) .eng rfl
@[simp] theorem refreshSoc_img (s : State) (c : ChainId) : (refreshSoc s c).img = s.img :=
  same_of_drop (m := 3145728) (refreshSoc_drop s c rfl) .img rfl
@[simp] theorem refreshSoc_spl (s : State) (c : ChainId) : (refreshSoc s c).spl = s.spl :=
  same_of_drop (m := 3145728) (refreshSoc_drop s c rfl) .spl rfl
@[simp] theorem refreshSoc_tim (s : State) (c : ChainId) : (refreshSoc s c).tim = s.tim :=
  same_of_drop (m := 3145728) (refreshSoc_drop s c rfl) .tim rfl
@[simp] theorem refreshSoc_arm (s : State) (c : ChainId) : (refreshSoc s c).arm = s.arm :=
  same_of_drop (m := 3145728) (refreshSoc_drop s c rfl) .arm rfl
@[simp] theorem refreshSoc_pwm (s : State) (c : ChainId) : (refreshSoc s c).pwm = s.pwm :=
  same_of_drop (m := 3145728) (refreshSoc_drop s c rfl) .pwm rfl
@[simp] theorem refreshSoc_glk (s : State) (c : ChainId) : (refreshSoc s c).glk = s.glk :=
  same_of_drop (m := 3145728) (refreshSoc_drop s c rfl) .glk rfl
@[simp] theorem refreshSoc_chA (s : State) (c : ChainId) : (refreshSoc s c).chA = s.chA :=
  same_of_drop (m := 3145728) (refreshSoc_drop s c rfl) .chA rfl
@[simp] theorem refreshSoc_chB (s : State) (c : ChainId) : (refreshSoc s c).chB = s.chB :=
  same_of_drop (m := 3145728) (refreshSoc_drop s c rfl) .chB rfl
@[simp] theorem refreshSoc_snA (s : State) (c : ChainId) : (refreshSoc s c).snA = s.snA :=
  same_of_drop (m := 3145728) (refreshSoc_drop s c rfl) .snA rfl
@[simp] theorem refreshSoc_snB (s : State) (c : ChainId) : (refreshSoc s c).snB = s.snB :=
  same_of_drop (m := 3145728) (refreshSoc_drop s c rfl) .snB rfl
@[simp] theorem refreshSoc_est (s : State) (c : ChainId) : (refreshSoc s c).est = s.est :=
  same_of_drop (m := 3145728) (refreshSoc_drop s c rfl) .est rfl
@[simp] theorem refreshSoc_thm (s : State) (c : ChainId) : (refreshSoc s c).thm = s.thm :=
  same_of_drop (m := 3145728) (refreshSoc_drop s c rfl) .thm rfl
@[simp] theorem refreshSoc_prt (s : State) (c : ChainId) : (refreshSoc s c).prt = s.prt :=
  same_of_drop (m := 3145728) (refreshSoc_drop s c rfl) .prt rfl
@[simp] theorem refreshSoc_dvt (s : State) (c : ChainId) : (refreshSoc s c).dvt = s.dvt :=
  same_of_drop (m := 3145728) (refreshSoc_drop s c rfl) .dvt rfl
@[simp] theorem refreshSoc_lsw (s : State) (c : ChainId) : (refreshSoc s c).lsw = s.lsw :=
  same_of_drop (m := 3145728) (refreshSoc_drop s c rfl) .lsw rfl
@[simp] theorem refreshSoc_lbus (s : State) (c : ChainId) : (refreshSoc s c).lbus = s.lbus :=
  same_of_drop (m := 3145728) (refreshSoc_drop s c rfl) .lbus rfl
@[simp] theorem refreshSoc_pwr (s : State) (c : ChainId) : (refreshSoc s c).pwr = s.pwr :=
  same_of_drop (m := 3145728) (refreshSoc_drop s c rfl) .pwr rfl
@[simp] theorem refreshSoc_sec (s : State) (c : ChainId) : (refreshSoc s c).sec = s.sec :=
  same_of_drop (m := 3145728) (refreshSoc_drop s c rfl) .sec rfl
@[simp] theorem refreshSoc_mnt (s : State) (c : ChainId) : (refreshSoc s c).mnt = s.mnt :=
  same_of_drop (m := 3145728) (refreshSoc_drop s c rfl) .mnt rfl
@[simp] theorem refreshSoc_evt (s : State) (c : ChainId) : (refreshSoc s c).evt = s.evt :=
  same_of_drop (m := 3145728) (refreshSoc_drop s c rfl) .evt rfl
@[simp] theorem refreshSoc_outbox (s : State) (c : ChainId) : (refreshSoc s c).outbox = s.outbox :=
  same_of_drop (m := 3145728) (refreshSoc_drop s c rfl) .outbox rfl
@[simp] theorem settleGap_dev (s : State) (c : ChainId) (x : Snapshot) : (settleGap s c x).dev = s.dev :=
  same_of_drop (m := 8597274624) (settleGap_drop s c x rfl) .dev rfl
@[simp] theorem settleGap_eng (s : State) (c : ChainId) (x : Snapshot) : (settleGap s c x).eng = s.eng :=
  same_of_drop (m := 8597274624) (settleGap_drop s c x rfl) .eng rfl
@[simp] theorem settleGap_img (s : State) (c : ChainId) (x : Snapshot) : (settleGap s c x).img = s.img :=
  same_of_drop (m := 8597274624) (settleGap_drop s c x rfl) .img rfl
@[simp] theorem settleGap_spl (s : State) (c : ChainId) (x : Snapshot) : (settleGap s c x).spl = s.spl :=
  same_of_drop (m := 8597274624) (settleGap_drop s c x rfl) .spl rfl
@[simp] theorem settleGap_tim (s : State) (c : ChainId) (x : Snapshot) : (settleGap s c x).tim = s.tim :=
  same_of_drop (m := 8597274624) (settleGap_drop s c x rfl) .tim rfl
@[simp] theorem settleGap_arm (s : State) (c : ChainId) (x : Snapshot) : (settleGap s c x).arm = s.arm :=
  same_of_drop (m := 8597274624) (settleGap_drop s c x rfl) .arm rfl
@[simp] theorem settleGap_pwm (s : State) (c : ChainId) (x : Snapshot) : (settleGap s c x).pwm = s.pwm :=
  same_of_drop (m := 8597274624) (settleGap_drop s c x rfl) .pwm rfl
@[simp] theorem settleGap_glk (s : State) (c : ChainId) (x : Snapshot) : (settleGap s c x).glk = s.glk :=
  same_of_drop (m := 8597274624) (settleGap_drop s c x rfl) .glk rfl
@[simp] theorem settleGap_chA (s : State) (c : ChainId) (x : Snapshot) : (settleGap s c x).chA = s.chA :=
  same_of_drop (m := 8597274624) (settleGap_drop s c x rfl) .chA rfl
@[simp] theorem settleGap_chB (s : State) (c : ChainId) (x : Snapshot) : (settleGap s c x).chB = s.chB :=
  same_of_drop (m := 8597274624) (settleGap_drop s c x rfl) .chB rfl
@[simp] theorem settleGap_snA (s : State) (c : ChainId) (x : Snapshot) : (settleGap s c x).snA = s.snA :=
  same_of_drop (m := 8597274624) (settleGap_drop s c x rfl) .snA rfl
@[simp] theorem settleGap_snB (s : State) (c : ChainId) (x : Snapshot) : (settleGap s c x).snB = s.snB :=
  same_of_drop (m := 8597274624) (settleGap_drop s c x rfl) .snB rfl
@[simp] theorem settleGap_thm (s : State) (c : ChainId) (x : Snapshot) : (settleGap s c x).thm = s.thm :=
  same_of_drop (m := 8597274624) (settleGap_drop s c x rfl) .thm rfl
@[simp] theorem settleGap_prt (s : State) (c : ChainId) (x : Snapshot) : (settleGap s c x).prt = s.prt :=
  same_of_drop (m := 8597274624) (settleGap_drop s c x rfl) .prt rfl
@[simp] theorem settleGap_dvt (s : State) (c : ChainId) (x : Snapshot) : (settleGap s c x).dvt = s.dvt :=
  same_of_drop (m := 8597274624) (settleGap_drop s c x rfl) .dvt rfl
@[simp] theorem settleGap_lsw (s : State) (c : ChainId) (x : Snapshot) : (settleGap s c x).lsw = s.lsw :=
  same_of_drop (m := 8597274624) (settleGap_drop s c x rfl) .lsw rfl
@[simp] theorem settleGap_lbus (s : State) (c : ChainId) (x : Snapshot) : (settleGap s c x).lbus = s.lbus :=
  same_of_drop (m := 8597274624) (settleGap_drop s c x rfl) .lbus rfl
@[simp] theorem settleGap_pwr (s : State) (c : ChainId) (x : Snapshot) : (settleGap s c x).pwr = s.pwr :=
  same_of_drop (m := 8597274624) (settleGap_drop s c x rfl) .pwr rfl
@[simp] theorem settleGap_sec (s : State) (c : ChainId) (x : Snapshot) : (settleGap s c x).sec = s.sec :=
  same_of_drop (m := 8597274624) (settleGap_drop s c x rfl) .sec rfl
@[simp] theorem settleGap_mnt (s : State) (c : ChainId) (x : Snapshot) : (settleGap s c x).mnt = s.mnt :=
  same_of_drop (m := 8597274624) (settleGap_drop s c x rfl) .mnt rfl
@[simp] theorem settleGap_outbox (s : State) (c : ChainId) (x : Snapshot) : (settleGap s c x).outbox = s.outbox :=
  same_of_drop (m := 8597274624) (settleGap_drop s c x rfl) .outbox rfl
@[simp] theorem balanceModule_dev (c : ChainId) (s : State) (m : Fin 32) : (balanceModule c s m).dev = s.dev :=
  same_of_drop (m := 3932160) (balanceModule_drop c s m rfl) .dev rfl
@[simp] theorem balanceModule_eng (c : ChainId) (s : State) (m : Fin 32) : (balanceModule c s m).eng = s.eng :=
  same_of_drop (m := 3932160) (balanceModule_drop c s m rfl) .eng rfl
@[simp] theorem balanceModule_img (c : ChainId) (s : State) (m : Fin 32) : (balanceModule c s m).img = s.img :=
  same_of_drop (m := 3932160) (balanceModule_drop c s m rfl) .img rfl
@[simp] theorem balanceModule_spl (c : ChainId) (s : State) (m : Fin 32) : (balanceModule c s m).spl = s.spl :=
  same_of_drop (m := 3932160) (balanceModule_drop c s m rfl) .spl rfl
@[simp] theorem balanceModule_tim (c : ChainId) (s : State) (m : Fin 32) : (balanceModule c s m).tim = s.tim :=
  same_of_drop (m := 3932160) (balanceModule_drop c s m rfl) .tim rfl
@[simp] theorem balanceModule_arm (c : ChainId) (s : State) (m : Fin 32) : (balanceModule c s m).arm = s.arm :=
  same_of_drop (m := 3932160) (balanceModule_drop c s m rfl) .arm rfl
@[simp] theorem balanceModule_pwm (c : ChainId) (s : State) (m : Fin 32) : (balanceModule c s m).pwm = s.pwm :=
  same_of_drop (m := 3932160) (balanceModule_drop c s m rfl) .pwm rfl
@[simp] theorem balanceModule_glk (c : ChainId) (s : State) (m : Fin 32) : (balanceModule c s m).glk = s.glk :=
  same_of_drop (m := 3932160) (balanceModule_drop c s m rfl) .glk rfl
@[simp] theorem balanceModule_chA (c : ChainId) (s : State) (m : Fin 32) : (balanceModule c s m).chA = s.chA :=
  same_of_drop (m := 3932160) (balanceModule_drop c s m rfl) .chA rfl
@[simp] theorem balanceModule_chB (c : ChainId) (s : State) (m : Fin 32) : (balanceModule c s m).chB = s.chB :=
  same_of_drop (m := 3932160) (balanceModule_drop c s m rfl) .chB rfl
@[simp] theorem balanceModule_est (c : ChainId) (s : State) (m : Fin 32) : (balanceModule c s m).est = s.est :=
  same_of_drop (m := 3932160) (balanceModule_drop c s m rfl) .est rfl
@[simp] theorem balanceModule_thm (c : ChainId) (s : State) (m : Fin 32) : (balanceModule c s m).thm = s.thm :=
  same_of_drop (m := 3932160) (balanceModule_drop c s m rfl) .thm rfl
@[simp] theorem balanceModule_prt (c : ChainId) (s : State) (m : Fin 32) : (balanceModule c s m).prt = s.prt :=
  same_of_drop (m := 3932160) (balanceModule_drop c s m rfl) .prt rfl
@[simp] theorem balanceModule_dvt (c : ChainId) (s : State) (m : Fin 32) : (balanceModule c s m).dvt = s.dvt :=
  same_of_drop (m := 3932160) (balanceModule_drop c s m rfl) .dvt rfl
@[simp] theorem balanceModule_lsw (c : ChainId) (s : State) (m : Fin 32) : (balanceModule c s m).lsw = s.lsw :=
  same_of_drop (m := 3932160) (balanceModule_drop c s m rfl) .lsw rfl
@[simp] theorem balanceModule_lbus (c : ChainId) (s : State) (m : Fin 32) : (balanceModule c s m).lbus = s.lbus :=
  same_of_drop (m := 3932160) (balanceModule_drop c s m rfl) .lbus rfl
@[simp] theorem balanceModule_pwr (c : ChainId) (s : State) (m : Fin 32) : (balanceModule c s m).pwr = s.pwr :=
  same_of_drop (m := 3932160) (balanceModule_drop c s m rfl) .pwr rfl
@[simp] theorem balanceModule_sec (c : ChainId) (s : State) (m : Fin 32) : (balanceModule c s m).sec = s.sec :=
  same_of_drop (m := 3932160) (balanceModule_drop c s m rfl) .sec rfl
@[simp] theorem balanceModule_mnt (c : ChainId) (s : State) (m : Fin 32) : (balanceModule c s m).mnt = s.mnt :=
  same_of_drop (m := 3932160) (balanceModule_drop c s m rfl) .mnt rfl
@[simp] theorem balanceModule_evt (c : ChainId) (s : State) (m : Fin 32) : (balanceModule c s m).evt = s.evt :=
  same_of_drop (m := 3932160) (balanceModule_drop c s m rfl) .evt rfl
@[simp] theorem balanceModule_outbox (c : ChainId) (s : State) (m : Fin 32) : (balanceModule c s m).outbox = s.outbox :=
  same_of_drop (m := 3932160) (balanceModule_drop c s m rfl) .outbox rfl
@[simp] theorem startState_dev (s : State) : (startState s).dev = s.dev :=
  same_of_drop (m := 4194304) (startState_drop s rfl) .dev rfl
@[simp] theorem startState_eng (s : State) : (startState s).eng = s.eng :=
  same_of_drop (m := 4194304) (startState_drop s rfl) .eng rfl
@[simp] theorem startState_img (s : State) : (startState s).img = s.img :=
  same_of_drop (m := 4194304) (startState_drop s rfl) .img rfl
@[simp] theorem startState_spl (s : State) : (startState s).spl = s.spl :=
  same_of_drop (m := 4194304) (startState_drop s rfl) .spl rfl
@[simp] theorem startState_tim (s : State) : (startState s).tim = s.tim :=
  same_of_drop (m := 4194304) (startState_drop s rfl) .tim rfl
@[simp] theorem startState_arm (s : State) : (startState s).arm = s.arm :=
  same_of_drop (m := 4194304) (startState_drop s rfl) .arm rfl
@[simp] theorem startState_pwm (s : State) : (startState s).pwm = s.pwm :=
  same_of_drop (m := 4194304) (startState_drop s rfl) .pwm rfl
@[simp] theorem startState_glk (s : State) : (startState s).glk = s.glk :=
  same_of_drop (m := 4194304) (startState_drop s rfl) .glk rfl
@[simp] theorem startState_chA (s : State) : (startState s).chA = s.chA :=
  same_of_drop (m := 4194304) (startState_drop s rfl) .chA rfl
@[simp] theorem startState_chB (s : State) : (startState s).chB = s.chB :=
  same_of_drop (m := 4194304) (startState_drop s rfl) .chB rfl
@[simp] theorem startState_snA (s : State) : (startState s).snA = s.snA :=
  same_of_drop (m := 4194304) (startState_drop s rfl) .snA rfl
@[simp] theorem startState_snB (s : State) : (startState s).snB = s.snB :=
  same_of_drop (m := 4194304) (startState_drop s rfl) .snB rfl
@[simp] theorem startState_esA (s : State) : (startState s).esA = s.esA :=
  same_of_drop (m := 4194304) (startState_drop s rfl) .esA rfl
@[simp] theorem startState_esB (s : State) : (startState s).esB = s.esB :=
  same_of_drop (m := 4194304) (startState_drop s rfl) .esB rfl
@[simp] theorem startState_thm (s : State) : (startState s).thm = s.thm :=
  same_of_drop (m := 4194304) (startState_drop s rfl) .thm rfl
@[simp] theorem startState_prt (s : State) : (startState s).prt = s.prt :=
  same_of_drop (m := 4194304) (startState_drop s rfl) .prt rfl
@[simp] theorem startState_dvt (s : State) : (startState s).dvt = s.dvt :=
  same_of_drop (m := 4194304) (startState_drop s rfl) .dvt rfl
@[simp] theorem startState_lsw (s : State) : (startState s).lsw = s.lsw :=
  same_of_drop (m := 4194304) (startState_drop s rfl) .lsw rfl
@[simp] theorem startState_lbus (s : State) : (startState s).lbus = s.lbus :=
  same_of_drop (m := 4194304) (startState_drop s rfl) .lbus rfl
@[simp] theorem startState_pwr (s : State) : (startState s).pwr = s.pwr :=
  same_of_drop (m := 4194304) (startState_drop s rfl) .pwr rfl
@[simp] theorem startState_sec (s : State) : (startState s).sec = s.sec :=
  same_of_drop (m := 4194304) (startState_drop s rfl) .sec rfl
@[simp] theorem startState_mnt (s : State) : (startState s).mnt = s.mnt :=
  same_of_drop (m := 4194304) (startState_drop s rfl) .mnt rfl
@[simp] theorem startState_evt (s : State) : (startState s).evt = s.evt :=
  same_of_drop (m := 4194304) (startState_drop s rfl) .evt rfl
@[simp] theorem startState_outbox (s : State) : (startState s).outbox = s.outbox :=
  same_of_drop (m := 4194304) (startState_drop s rfl) .outbox rfl
@[simp] theorem startCount_dev (s : State) : (startCount s).dev = s.dev :=
  same_of_drop (m := 4194304) (startCount_drop s rfl) .dev rfl
@[simp] theorem startCount_eng (s : State) : (startCount s).eng = s.eng :=
  same_of_drop (m := 4194304) (startCount_drop s rfl) .eng rfl
@[simp] theorem startCount_img (s : State) : (startCount s).img = s.img :=
  same_of_drop (m := 4194304) (startCount_drop s rfl) .img rfl
@[simp] theorem startCount_spl (s : State) : (startCount s).spl = s.spl :=
  same_of_drop (m := 4194304) (startCount_drop s rfl) .spl rfl
@[simp] theorem startCount_tim (s : State) : (startCount s).tim = s.tim :=
  same_of_drop (m := 4194304) (startCount_drop s rfl) .tim rfl
@[simp] theorem startCount_arm (s : State) : (startCount s).arm = s.arm :=
  same_of_drop (m := 4194304) (startCount_drop s rfl) .arm rfl
@[simp] theorem startCount_pwm (s : State) : (startCount s).pwm = s.pwm :=
  same_of_drop (m := 4194304) (startCount_drop s rfl) .pwm rfl
@[simp] theorem startCount_glk (s : State) : (startCount s).glk = s.glk :=
  same_of_drop (m := 4194304) (startCount_drop s rfl) .glk rfl
@[simp] theorem startCount_chA (s : State) : (startCount s).chA = s.chA :=
  same_of_drop (m := 4194304) (startCount_drop s rfl) .chA rfl
@[simp] theorem startCount_chB (s : State) : (startCount s).chB = s.chB :=
  same_of_drop (m := 4194304) (startCount_drop s rfl) .chB rfl
@[simp] theorem startCount_snA (s : State) : (startCount s).snA = s.snA :=
  same_of_drop (m := 4194304) (startCount_drop s rfl) .snA rfl
@[simp] theorem startCount_snB (s : State) : (startCount s).snB = s.snB :=
  same_of_drop (m := 4194304) (startCount_drop s rfl) .snB rfl
@[simp] theorem startCount_esA (s : State) : (startCount s).esA = s.esA :=
  same_of_drop (m := 4194304) (startCount_drop s rfl) .esA rfl
@[simp] theorem startCount_esB (s : State) : (startCount s).esB = s.esB :=
  same_of_drop (m := 4194304) (startCount_drop s rfl) .esB rfl
@[simp] theorem startCount_thm (s : State) : (startCount s).thm = s.thm :=
  same_of_drop (m := 4194304) (startCount_drop s rfl) .thm rfl
@[simp] theorem startCount_prt (s : State) : (startCount s).prt = s.prt :=
  same_of_drop (m := 4194304) (startCount_drop s rfl) .prt rfl
@[simp] theorem startCount_dvt (s : State) : (startCount s).dvt = s.dvt :=
  same_of_drop (m := 4194304) (startCount_drop s rfl) .dvt rfl
@[simp] theorem startCount_lsw (s : State) : (startCount s).lsw = s.lsw :=
  same_of_drop (m := 4194304) (startCount_drop s rfl) .lsw rfl
@[simp] theorem startCount_lbus (s : State) : (startCount s).lbus = s.lbus :=
  same_of_drop (m := 4194304) (startCount_drop s rfl) .lbus rfl
@[simp] theorem startCount_pwr (s : State) : (startCount s).pwr = s.pwr :=
  same_of_drop (m := 4194304) (startCount_drop s rfl) .pwr rfl
@[simp] theorem startCount_sec (s : State) : (startCount s).sec = s.sec :=
  same_of_drop (m := 4194304) (startCount_drop s rfl) .sec rfl
@[simp] theorem startCount_mnt (s : State) : (startCount s).mnt = s.mnt :=
  same_of_drop (m := 4194304) (startCount_drop s rfl) .mnt rfl
@[simp] theorem startCount_evt (s : State) : (startCount s).evt = s.evt :=
  same_of_drop (m := 4194304) (startCount_drop s rfl) .evt rfl
@[simp] theorem startCount_outbox (s : State) : (startCount s).outbox = s.outbox :=
  same_of_drop (m := 4194304) (startCount_drop s rfl) .outbox rfl
@[simp] theorem closeModule_dev (s : State) (c : ChainId) (cause : Nat) (m : Fin 32) : (closeModule s c cause m).dev = s.dev :=
  same_of_drop (m := 12967968768) (closeModule_drop s c cause m rfl) .dev rfl
@[simp] theorem closeModule_eng (s : State) (c : ChainId) (cause : Nat) (m : Fin 32) : (closeModule s c cause m).eng = s.eng :=
  same_of_drop (m := 12967968768) (closeModule_drop s c cause m rfl) .eng rfl
@[simp] theorem closeModule_img (s : State) (c : ChainId) (cause : Nat) (m : Fin 32) : (closeModule s c cause m).img = s.img :=
  same_of_drop (m := 12967968768) (closeModule_drop s c cause m rfl) .img rfl
@[simp] theorem closeModule_spl (s : State) (c : ChainId) (cause : Nat) (m : Fin 32) : (closeModule s c cause m).spl = s.spl :=
  same_of_drop (m := 12967968768) (closeModule_drop s c cause m rfl) .spl rfl
@[simp] theorem closeModule_tim (s : State) (c : ChainId) (cause : Nat) (m : Fin 32) : (closeModule s c cause m).tim = s.tim :=
  same_of_drop (m := 12967968768) (closeModule_drop s c cause m rfl) .tim rfl
@[simp] theorem closeModule_arm (s : State) (c : ChainId) (cause : Nat) (m : Fin 32) : (closeModule s c cause m).arm = s.arm :=
  same_of_drop (m := 12967968768) (closeModule_drop s c cause m rfl) .arm rfl
@[simp] theorem closeModule_pwm (s : State) (c : ChainId) (cause : Nat) (m : Fin 32) : (closeModule s c cause m).pwm = s.pwm :=
  same_of_drop (m := 12967968768) (closeModule_drop s c cause m rfl) .pwm rfl
@[simp] theorem closeModule_snA (s : State) (c : ChainId) (cause : Nat) (m : Fin 32) : (closeModule s c cause m).snA = s.snA :=
  same_of_drop (m := 12967968768) (closeModule_drop s c cause m rfl) .snA rfl
@[simp] theorem closeModule_snB (s : State) (c : ChainId) (cause : Nat) (m : Fin 32) : (closeModule s c cause m).snB = s.snB :=
  same_of_drop (m := 12967968768) (closeModule_drop s c cause m rfl) .snB rfl
@[simp] theorem closeModule_prt (s : State) (c : ChainId) (cause : Nat) (m : Fin 32) : (closeModule s c cause m).prt = s.prt :=
  same_of_drop (m := 12967968768) (closeModule_drop s c cause m rfl) .prt rfl
@[simp] theorem closeModule_dvt (s : State) (c : ChainId) (cause : Nat) (m : Fin 32) : (closeModule s c cause m).dvt = s.dvt :=
  same_of_drop (m := 12967968768) (closeModule_drop s c cause m rfl) .dvt rfl
@[simp] theorem closeModule_lbus (s : State) (c : ChainId) (cause : Nat) (m : Fin 32) : (closeModule s c cause m).lbus = s.lbus :=
  same_of_drop (m := 12967968768) (closeModule_drop s c cause m rfl) .lbus rfl
@[simp] theorem closeModule_pwr (s : State) (c : ChainId) (cause : Nat) (m : Fin 32) : (closeModule s c cause m).pwr = s.pwr :=
  same_of_drop (m := 12967968768) (closeModule_drop s c cause m rfl) .pwr rfl
@[simp] theorem closeModule_sec (s : State) (c : ChainId) (cause : Nat) (m : Fin 32) : (closeModule s c cause m).sec = s.sec :=
  same_of_drop (m := 12967968768) (closeModule_drop s c cause m rfl) .sec rfl
@[simp] theorem closeModule_outbox (s : State) (c : ChainId) (cause : Nat) (m : Fin 32) : (closeModule s c cause m).outbox = s.outbox :=
  same_of_drop (m := 12967968768) (closeModule_drop s c cause m rfl) .outbox rfl
@[simp] theorem closeModule_glk_legA (s : State) (c : ChainId) (cause : Nat) (m : Fin 32) : (closeModule s c cause m).glk.legA = s.glk.legA := by
  have h := same_of_drop (m := 12967968768) (closeModule_drop s c cause m rfl) .legs rfl
  simp only [Block.same] at h; simp only [h]
@[simp] theorem closeModule_glk_legB (s : State) (c : ChainId) (cause : Nat) (m : Fin 32) : (closeModule s c cause m).glk.legB = s.glk.legB := by
  have h := same_of_drop (m := 12967968768) (closeModule_drop s c cause m rfl) .legs rfl
  simp only [Block.same] at h; simp only [h]
@[simp] theorem closeModule_glk_fireHold (s : State) (c : ChainId) (cause : Nat) (m : Fin 32) : (closeModule s c cause m).glk.fireHold = s.glk.fireHold := by
  have h := same_of_drop (m := 12967968768) (closeModule_drop s c cause m rfl) .switch rfl
  simp only [Block.same] at h; simp only [h]
@[simp] theorem closeModule_glk_fireAll (s : State) (c : ChainId) (cause : Nat) (m : Fin 32) : (closeModule s c cause m).glk.fireAll = s.glk.fireAll := by
  have h := same_of_drop (m := 12967968768) (closeModule_drop s c cause m rfl) .switch rfl
  simp only [Block.same] at h; simp only [h]
@[simp] theorem closeModule_glk_closeAsserted (s : State) (c : ChainId) (cause : Nat) (m : Fin 32) : (closeModule s c cause m).glk.closeAsserted = s.glk.closeAsserted := by
  have h := same_of_drop (m := 12967968768) (closeModule_drop s c cause m rfl) .switch rfl
  simp only [Block.same] at h; simp only [h]
@[simp] theorem closeModule_glk_closeDue (s : State) (c : ChainId) (cause : Nat) (m : Fin 32) : (closeModule s c cause m).glk.closeDue = s.glk.closeDue := by
  have h := same_of_drop (m := 12967968768) (closeModule_drop s c cause m rfl) .switch rfl
  simp only [Block.same] at h; simp only [h]
@[simp] theorem closeModule_glk_statClosed (s : State) (c : ChainId) (cause : Nat) (m : Fin 32) : (closeModule s c cause m).glk.statClosed = s.glk.statClosed := by
  have h := same_of_drop (m := 12967968768) (closeModule_drop s c cause m rfl) .switch rfl
  simp only [Block.same] at h; simp only [h]
@[simp] theorem closeModule_thm_sdHotA (s : State) (c : ChainId) (cause : Nat) (m : Fin 32) : (closeModule s c cause m).thm.sdHotA = s.thm.sdHotA := by
  have h := same_of_drop (m := 12967968768) (closeModule_drop s c cause m rfl) .shutdown rfl
  simp only [Block.same] at h; simp only [h]
@[simp] theorem closeModule_thm_sdHotB (s : State) (c : ChainId) (cause : Nat) (m : Fin 32) : (closeModule s c cause m).thm.sdHotB = s.thm.sdHotB := by
  have h := same_of_drop (m := 12967968768) (closeModule_drop s c cause m rfl) .shutdown rfl
  simp only [Block.same] at h; simp only [h]
@[simp] theorem closeModule_thm_sdColdA (s : State) (c : ChainId) (cause : Nat) (m : Fin 32) : (closeModule s c cause m).thm.sdColdA = s.thm.sdColdA := by
  have h := same_of_drop (m := 12967968768) (closeModule_drop s c cause m rfl) .shutdown rfl
  simp only [Block.same] at h; simp only [h]
@[simp] theorem closeModule_thm_sdColdB (s : State) (c : ChainId) (cause : Nat) (m : Fin 32) : (closeModule s c cause m).thm.sdColdB = s.thm.sdColdB := by
  have h := same_of_drop (m := 12967968768) (closeModule_drop s c cause m rfl) .shutdown rfl
  simp only [Block.same] at h; simp only [h]
@[simp] theorem closeAll_dev (s : State) (cause : Nat) : (closeAll s cause).dev = s.dev :=
  same_of_drop (m := 12967968768) (closeAll_drop s cause rfl) .dev rfl
@[simp] theorem closeAll_eng (s : State) (cause : Nat) : (closeAll s cause).eng = s.eng :=
  same_of_drop (m := 12967968768) (closeAll_drop s cause rfl) .eng rfl
@[simp] theorem closeAll_img (s : State) (cause : Nat) : (closeAll s cause).img = s.img :=
  same_of_drop (m := 12967968768) (closeAll_drop s cause rfl) .img rfl
@[simp] theorem closeAll_spl (s : State) (cause : Nat) : (closeAll s cause).spl = s.spl :=
  same_of_drop (m := 12967968768) (closeAll_drop s cause rfl) .spl rfl
@[simp] theorem closeAll_tim (s : State) (cause : Nat) : (closeAll s cause).tim = s.tim :=
  same_of_drop (m := 12967968768) (closeAll_drop s cause rfl) .tim rfl
@[simp] theorem closeAll_arm (s : State) (cause : Nat) : (closeAll s cause).arm = s.arm :=
  same_of_drop (m := 12967968768) (closeAll_drop s cause rfl) .arm rfl
@[simp] theorem closeAll_pwm (s : State) (cause : Nat) : (closeAll s cause).pwm = s.pwm :=
  same_of_drop (m := 12967968768) (closeAll_drop s cause rfl) .pwm rfl
@[simp] theorem closeAll_snA (s : State) (cause : Nat) : (closeAll s cause).snA = s.snA :=
  same_of_drop (m := 12967968768) (closeAll_drop s cause rfl) .snA rfl
@[simp] theorem closeAll_snB (s : State) (cause : Nat) : (closeAll s cause).snB = s.snB :=
  same_of_drop (m := 12967968768) (closeAll_drop s cause rfl) .snB rfl
@[simp] theorem closeAll_prt (s : State) (cause : Nat) : (closeAll s cause).prt = s.prt :=
  same_of_drop (m := 12967968768) (closeAll_drop s cause rfl) .prt rfl
@[simp] theorem closeAll_dvt (s : State) (cause : Nat) : (closeAll s cause).dvt = s.dvt :=
  same_of_drop (m := 12967968768) (closeAll_drop s cause rfl) .dvt rfl
@[simp] theorem closeAll_lbus (s : State) (cause : Nat) : (closeAll s cause).lbus = s.lbus :=
  same_of_drop (m := 12967968768) (closeAll_drop s cause rfl) .lbus rfl
@[simp] theorem closeAll_pwr (s : State) (cause : Nat) : (closeAll s cause).pwr = s.pwr :=
  same_of_drop (m := 12967968768) (closeAll_drop s cause rfl) .pwr rfl
@[simp] theorem closeAll_sec (s : State) (cause : Nat) : (closeAll s cause).sec = s.sec :=
  same_of_drop (m := 12967968768) (closeAll_drop s cause rfl) .sec rfl
@[simp] theorem closeAll_outbox (s : State) (cause : Nat) : (closeAll s cause).outbox = s.outbox :=
  same_of_drop (m := 12967968768) (closeAll_drop s cause rfl) .outbox rfl
@[simp] theorem closeAll_glk_legA (s : State) (cause : Nat) : (closeAll s cause).glk.legA = s.glk.legA := by
  have h := same_of_drop (m := 12967968768) (closeAll_drop s cause rfl) .legs rfl
  simp only [Block.same] at h; simp only [h]
@[simp] theorem closeAll_glk_legB (s : State) (cause : Nat) : (closeAll s cause).glk.legB = s.glk.legB := by
  have h := same_of_drop (m := 12967968768) (closeAll_drop s cause rfl) .legs rfl
  simp only [Block.same] at h; simp only [h]
@[simp] theorem closeAll_glk_fireHold (s : State) (cause : Nat) : (closeAll s cause).glk.fireHold = s.glk.fireHold := by
  have h := same_of_drop (m := 12967968768) (closeAll_drop s cause rfl) .switch rfl
  simp only [Block.same] at h; simp only [h]
@[simp] theorem closeAll_glk_fireAll (s : State) (cause : Nat) : (closeAll s cause).glk.fireAll = s.glk.fireAll := by
  have h := same_of_drop (m := 12967968768) (closeAll_drop s cause rfl) .switch rfl
  simp only [Block.same] at h; simp only [h]
@[simp] theorem closeAll_glk_closeAsserted (s : State) (cause : Nat) : (closeAll s cause).glk.closeAsserted = s.glk.closeAsserted := by
  have h := same_of_drop (m := 12967968768) (closeAll_drop s cause rfl) .switch rfl
  simp only [Block.same] at h; simp only [h]
@[simp] theorem closeAll_glk_closeDue (s : State) (cause : Nat) : (closeAll s cause).glk.closeDue = s.glk.closeDue := by
  have h := same_of_drop (m := 12967968768) (closeAll_drop s cause rfl) .switch rfl
  simp only [Block.same] at h; simp only [h]
@[simp] theorem closeAll_glk_statClosed (s : State) (cause : Nat) : (closeAll s cause).glk.statClosed = s.glk.statClosed := by
  have h := same_of_drop (m := 12967968768) (closeAll_drop s cause rfl) .switch rfl
  simp only [Block.same] at h; simp only [h]
@[simp] theorem closeAll_thm_sdHotA (s : State) (cause : Nat) : (closeAll s cause).thm.sdHotA = s.thm.sdHotA := by
  have h := same_of_drop (m := 12967968768) (closeAll_drop s cause rfl) .shutdown rfl
  simp only [Block.same] at h; simp only [h]
@[simp] theorem closeAll_thm_sdHotB (s : State) (cause : Nat) : (closeAll s cause).thm.sdHotB = s.thm.sdHotB := by
  have h := same_of_drop (m := 12967968768) (closeAll_drop s cause rfl) .shutdown rfl
  simp only [Block.same] at h; simp only [h]
@[simp] theorem closeAll_thm_sdColdA (s : State) (cause : Nat) : (closeAll s cause).thm.sdColdA = s.thm.sdColdA := by
  have h := same_of_drop (m := 12967968768) (closeAll_drop s cause rfl) .shutdown rfl
  simp only [Block.same] at h; simp only [h]
@[simp] theorem closeAll_thm_sdColdB (s : State) (cause : Nat) : (closeAll s cause).thm.sdColdB = s.thm.sdColdB := by
  have h := same_of_drop (m := 12967968768) (closeAll_drop s cause rfl) .shutdown rfl
  simp only [Block.same] at h; simp only [h]
@[simp] theorem resetModule_dev (s : State) (c : ChainId) (m : Fin 32) (why : Nat) : (resetModule s c m why).dev = s.dev :=
  same_of_drop (m := 12967968768) (resetModule_drop s c m why rfl) .dev rfl
@[simp] theorem resetModule_eng (s : State) (c : ChainId) (m : Fin 32) (why : Nat) : (resetModule s c m why).eng = s.eng :=
  same_of_drop (m := 12967968768) (resetModule_drop s c m why rfl) .eng rfl
@[simp] theorem resetModule_img (s : State) (c : ChainId) (m : Fin 32) (why : Nat) : (resetModule s c m why).img = s.img :=
  same_of_drop (m := 12967968768) (resetModule_drop s c m why rfl) .img rfl
@[simp] theorem resetModule_spl (s : State) (c : ChainId) (m : Fin 32) (why : Nat) : (resetModule s c m why).spl = s.spl :=
  same_of_drop (m := 12967968768) (resetModule_drop s c m why rfl) .spl rfl
@[simp] theorem resetModule_tim (s : State) (c : ChainId) (m : Fin 32) (why : Nat) : (resetModule s c m why).tim = s.tim :=
  same_of_drop (m := 12967968768) (resetModule_drop s c m why rfl) .tim rfl
@[simp] theorem resetModule_arm (s : State) (c : ChainId) (m : Fin 32) (why : Nat) : (resetModule s c m why).arm = s.arm :=
  same_of_drop (m := 12967968768) (resetModule_drop s c m why rfl) .arm rfl
@[simp] theorem resetModule_pwm (s : State) (c : ChainId) (m : Fin 32) (why : Nat) : (resetModule s c m why).pwm = s.pwm :=
  same_of_drop (m := 12967968768) (resetModule_drop s c m why rfl) .pwm rfl
@[simp] theorem resetModule_snA (s : State) (c : ChainId) (m : Fin 32) (why : Nat) : (resetModule s c m why).snA = s.snA :=
  same_of_drop (m := 12967968768) (resetModule_drop s c m why rfl) .snA rfl
@[simp] theorem resetModule_snB (s : State) (c : ChainId) (m : Fin 32) (why : Nat) : (resetModule s c m why).snB = s.snB :=
  same_of_drop (m := 12967968768) (resetModule_drop s c m why rfl) .snB rfl
@[simp] theorem resetModule_prt (s : State) (c : ChainId) (m : Fin 32) (why : Nat) : (resetModule s c m why).prt = s.prt :=
  same_of_drop (m := 12967968768) (resetModule_drop s c m why rfl) .prt rfl
@[simp] theorem resetModule_dvt (s : State) (c : ChainId) (m : Fin 32) (why : Nat) : (resetModule s c m why).dvt = s.dvt :=
  same_of_drop (m := 12967968768) (resetModule_drop s c m why rfl) .dvt rfl
@[simp] theorem resetModule_lbus (s : State) (c : ChainId) (m : Fin 32) (why : Nat) : (resetModule s c m why).lbus = s.lbus :=
  same_of_drop (m := 12967968768) (resetModule_drop s c m why rfl) .lbus rfl
@[simp] theorem resetModule_pwr (s : State) (c : ChainId) (m : Fin 32) (why : Nat) : (resetModule s c m why).pwr = s.pwr :=
  same_of_drop (m := 12967968768) (resetModule_drop s c m why rfl) .pwr rfl
@[simp] theorem resetModule_sec (s : State) (c : ChainId) (m : Fin 32) (why : Nat) : (resetModule s c m why).sec = s.sec :=
  same_of_drop (m := 12967968768) (resetModule_drop s c m why rfl) .sec rfl
@[simp] theorem resetModule_outbox (s : State) (c : ChainId) (m : Fin 32) (why : Nat) : (resetModule s c m why).outbox = s.outbox :=
  same_of_drop (m := 12967968768) (resetModule_drop s c m why rfl) .outbox rfl
@[simp] theorem resetModule_glk_legA (s : State) (c : ChainId) (m : Fin 32) (why : Nat) : (resetModule s c m why).glk.legA = s.glk.legA := by
  have h := same_of_drop (m := 12967968768) (resetModule_drop s c m why rfl) .legs rfl
  simp only [Block.same] at h; simp only [h]
@[simp] theorem resetModule_glk_legB (s : State) (c : ChainId) (m : Fin 32) (why : Nat) : (resetModule s c m why).glk.legB = s.glk.legB := by
  have h := same_of_drop (m := 12967968768) (resetModule_drop s c m why rfl) .legs rfl
  simp only [Block.same] at h; simp only [h]
@[simp] theorem resetModule_glk_fireHold (s : State) (c : ChainId) (m : Fin 32) (why : Nat) : (resetModule s c m why).glk.fireHold = s.glk.fireHold := by
  have h := same_of_drop (m := 12967968768) (resetModule_drop s c m why rfl) .switch rfl
  simp only [Block.same] at h; simp only [h]
@[simp] theorem resetModule_glk_fireAll (s : State) (c : ChainId) (m : Fin 32) (why : Nat) : (resetModule s c m why).glk.fireAll = s.glk.fireAll := by
  have h := same_of_drop (m := 12967968768) (resetModule_drop s c m why rfl) .switch rfl
  simp only [Block.same] at h; simp only [h]
@[simp] theorem resetModule_glk_closeAsserted (s : State) (c : ChainId) (m : Fin 32) (why : Nat) : (resetModule s c m why).glk.closeAsserted = s.glk.closeAsserted := by
  have h := same_of_drop (m := 12967968768) (resetModule_drop s c m why rfl) .switch rfl
  simp only [Block.same] at h; simp only [h]
@[simp] theorem resetModule_glk_closeDue (s : State) (c : ChainId) (m : Fin 32) (why : Nat) : (resetModule s c m why).glk.closeDue = s.glk.closeDue := by
  have h := same_of_drop (m := 12967968768) (resetModule_drop s c m why rfl) .switch rfl
  simp only [Block.same] at h; simp only [h]
@[simp] theorem resetModule_glk_statClosed (s : State) (c : ChainId) (m : Fin 32) (why : Nat) : (resetModule s c m why).glk.statClosed = s.glk.statClosed := by
  have h := same_of_drop (m := 12967968768) (resetModule_drop s c m why rfl) .switch rfl
  simp only [Block.same] at h; simp only [h]
@[simp] theorem resetModule_thm_sdHotA (s : State) (c : ChainId) (m : Fin 32) (why : Nat) : (resetModule s c m why).thm.sdHotA = s.thm.sdHotA := by
  have h := same_of_drop (m := 12967968768) (resetModule_drop s c m why rfl) .shutdown rfl
  simp only [Block.same] at h; simp only [h]
@[simp] theorem resetModule_thm_sdHotB (s : State) (c : ChainId) (m : Fin 32) (why : Nat) : (resetModule s c m why).thm.sdHotB = s.thm.sdHotB := by
  have h := same_of_drop (m := 12967968768) (resetModule_drop s c m why rfl) .shutdown rfl
  simp only [Block.same] at h; simp only [h]
@[simp] theorem resetModule_thm_sdColdA (s : State) (c : ChainId) (m : Fin 32) (why : Nat) : (resetModule s c m why).thm.sdColdA = s.thm.sdColdA := by
  have h := same_of_drop (m := 12967968768) (resetModule_drop s c m why rfl) .shutdown rfl
  simp only [Block.same] at h; simp only [h]
@[simp] theorem resetModule_thm_sdColdB (s : State) (c : ChainId) (m : Fin 32) (why : Nat) : (resetModule s c m why).thm.sdColdB = s.thm.sdColdB := by
  have h := same_of_drop (m := 12967968768) (resetModule_drop s c m why rfl) .shutdown rfl
  simp only [Block.same] at h; simp only [h]
@[simp] theorem drainModule_dev (s : State) (c : ChainId) (ms : Nat) (part : Nat) (m : Fin 32) : (drainModule s c ms part m).dev = s.dev :=
  same_of_drop (m := 3145728) (drainModule_drop s c ms part m rfl) .dev rfl
@[simp] theorem drainModule_eng (s : State) (c : ChainId) (ms : Nat) (part : Nat) (m : Fin 32) : (drainModule s c ms part m).eng = s.eng :=
  same_of_drop (m := 3145728) (drainModule_drop s c ms part m rfl) .eng rfl
@[simp] theorem drainModule_img (s : State) (c : ChainId) (ms : Nat) (part : Nat) (m : Fin 32) : (drainModule s c ms part m).img = s.img :=
  same_of_drop (m := 3145728) (drainModule_drop s c ms part m rfl) .img rfl
@[simp] theorem drainModule_spl (s : State) (c : ChainId) (ms : Nat) (part : Nat) (m : Fin 32) : (drainModule s c ms part m).spl = s.spl :=
  same_of_drop (m := 3145728) (drainModule_drop s c ms part m rfl) .spl rfl
@[simp] theorem drainModule_tim (s : State) (c : ChainId) (ms : Nat) (part : Nat) (m : Fin 32) : (drainModule s c ms part m).tim = s.tim :=
  same_of_drop (m := 3145728) (drainModule_drop s c ms part m rfl) .tim rfl
@[simp] theorem drainModule_arm (s : State) (c : ChainId) (ms : Nat) (part : Nat) (m : Fin 32) : (drainModule s c ms part m).arm = s.arm :=
  same_of_drop (m := 3145728) (drainModule_drop s c ms part m rfl) .arm rfl
@[simp] theorem drainModule_pwm (s : State) (c : ChainId) (ms : Nat) (part : Nat) (m : Fin 32) : (drainModule s c ms part m).pwm = s.pwm :=
  same_of_drop (m := 3145728) (drainModule_drop s c ms part m rfl) .pwm rfl
@[simp] theorem drainModule_glk (s : State) (c : ChainId) (ms : Nat) (part : Nat) (m : Fin 32) : (drainModule s c ms part m).glk = s.glk :=
  same_of_drop (m := 3145728) (drainModule_drop s c ms part m rfl) .glk rfl
@[simp] theorem drainModule_chA (s : State) (c : ChainId) (ms : Nat) (part : Nat) (m : Fin 32) : (drainModule s c ms part m).chA = s.chA :=
  same_of_drop (m := 3145728) (drainModule_drop s c ms part m rfl) .chA rfl
@[simp] theorem drainModule_chB (s : State) (c : ChainId) (ms : Nat) (part : Nat) (m : Fin 32) : (drainModule s c ms part m).chB = s.chB :=
  same_of_drop (m := 3145728) (drainModule_drop s c ms part m rfl) .chB rfl
@[simp] theorem drainModule_snA (s : State) (c : ChainId) (ms : Nat) (part : Nat) (m : Fin 32) : (drainModule s c ms part m).snA = s.snA :=
  same_of_drop (m := 3145728) (drainModule_drop s c ms part m rfl) .snA rfl
@[simp] theorem drainModule_snB (s : State) (c : ChainId) (ms : Nat) (part : Nat) (m : Fin 32) : (drainModule s c ms part m).snB = s.snB :=
  same_of_drop (m := 3145728) (drainModule_drop s c ms part m rfl) .snB rfl
@[simp] theorem drainModule_est (s : State) (c : ChainId) (ms : Nat) (part : Nat) (m : Fin 32) : (drainModule s c ms part m).est = s.est :=
  same_of_drop (m := 3145728) (drainModule_drop s c ms part m rfl) .est rfl
@[simp] theorem drainModule_thm (s : State) (c : ChainId) (ms : Nat) (part : Nat) (m : Fin 32) : (drainModule s c ms part m).thm = s.thm :=
  same_of_drop (m := 3145728) (drainModule_drop s c ms part m rfl) .thm rfl
@[simp] theorem drainModule_prt (s : State) (c : ChainId) (ms : Nat) (part : Nat) (m : Fin 32) : (drainModule s c ms part m).prt = s.prt :=
  same_of_drop (m := 3145728) (drainModule_drop s c ms part m rfl) .prt rfl
@[simp] theorem drainModule_dvt (s : State) (c : ChainId) (ms : Nat) (part : Nat) (m : Fin 32) : (drainModule s c ms part m).dvt = s.dvt :=
  same_of_drop (m := 3145728) (drainModule_drop s c ms part m rfl) .dvt rfl
@[simp] theorem drainModule_lsw (s : State) (c : ChainId) (ms : Nat) (part : Nat) (m : Fin 32) : (drainModule s c ms part m).lsw = s.lsw :=
  same_of_drop (m := 3145728) (drainModule_drop s c ms part m rfl) .lsw rfl
@[simp] theorem drainModule_lbus (s : State) (c : ChainId) (ms : Nat) (part : Nat) (m : Fin 32) : (drainModule s c ms part m).lbus = s.lbus :=
  same_of_drop (m := 3145728) (drainModule_drop s c ms part m rfl) .lbus rfl
@[simp] theorem drainModule_pwr (s : State) (c : ChainId) (ms : Nat) (part : Nat) (m : Fin 32) : (drainModule s c ms part m).pwr = s.pwr :=
  same_of_drop (m := 3145728) (drainModule_drop s c ms part m rfl) .pwr rfl
@[simp] theorem drainModule_sec (s : State) (c : ChainId) (ms : Nat) (part : Nat) (m : Fin 32) : (drainModule s c ms part m).sec = s.sec :=
  same_of_drop (m := 3145728) (drainModule_drop s c ms part m rfl) .sec rfl
@[simp] theorem drainModule_mnt (s : State) (c : ChainId) (ms : Nat) (part : Nat) (m : Fin 32) : (drainModule s c ms part m).mnt = s.mnt :=
  same_of_drop (m := 3145728) (drainModule_drop s c ms part m rfl) .mnt rfl
@[simp] theorem drainModule_evt (s : State) (c : ChainId) (ms : Nat) (part : Nat) (m : Fin 32) : (drainModule s c ms part m).evt = s.evt :=
  same_of_drop (m := 3145728) (drainModule_drop s c ms part m rfl) .evt rfl
@[simp] theorem drainModule_outbox (s : State) (c : ChainId) (ms : Nat) (part : Nat) (m : Fin 32) : (drainModule s c ms part m).outbox = s.outbox :=
  same_of_drop (m := 3145728) (drainModule_drop s c ms part m rfl) .outbox rfl
@[simp] theorem excludeSensor_dev (c : ChainId) (m : Fin 32) (implaus : Bool) (s : State) (t : Fin 8) : (excludeSensor c m implaus s t).dev = s.dev :=
  same_of_drop (m := 8598323200) (excludeSensor_drop c m implaus s t rfl) .dev rfl
@[simp] theorem excludeSensor_eng (c : ChainId) (m : Fin 32) (implaus : Bool) (s : State) (t : Fin 8) : (excludeSensor c m implaus s t).eng = s.eng :=
  same_of_drop (m := 8598323200) (excludeSensor_drop c m implaus s t rfl) .eng rfl
@[simp] theorem excludeSensor_img (c : ChainId) (m : Fin 32) (implaus : Bool) (s : State) (t : Fin 8) : (excludeSensor c m implaus s t).img = s.img :=
  same_of_drop (m := 8598323200) (excludeSensor_drop c m implaus s t rfl) .img rfl
@[simp] theorem excludeSensor_spl (c : ChainId) (m : Fin 32) (implaus : Bool) (s : State) (t : Fin 8) : (excludeSensor c m implaus s t).spl = s.spl :=
  same_of_drop (m := 8598323200) (excludeSensor_drop c m implaus s t rfl) .spl rfl
@[simp] theorem excludeSensor_tim (c : ChainId) (m : Fin 32) (implaus : Bool) (s : State) (t : Fin 8) : (excludeSensor c m implaus s t).tim = s.tim :=
  same_of_drop (m := 8598323200) (excludeSensor_drop c m implaus s t rfl) .tim rfl
@[simp] theorem excludeSensor_arm (c : ChainId) (m : Fin 32) (implaus : Bool) (s : State) (t : Fin 8) : (excludeSensor c m implaus s t).arm = s.arm :=
  same_of_drop (m := 8598323200) (excludeSensor_drop c m implaus s t rfl) .arm rfl
@[simp] theorem excludeSensor_pwm (c : ChainId) (m : Fin 32) (implaus : Bool) (s : State) (t : Fin 8) : (excludeSensor c m implaus s t).pwm = s.pwm :=
  same_of_drop (m := 8598323200) (excludeSensor_drop c m implaus s t rfl) .pwm rfl
@[simp] theorem excludeSensor_glk (c : ChainId) (m : Fin 32) (implaus : Bool) (s : State) (t : Fin 8) : (excludeSensor c m implaus s t).glk = s.glk :=
  same_of_drop (m := 8598323200) (excludeSensor_drop c m implaus s t rfl) .glk rfl
@[simp] theorem excludeSensor_chA (c : ChainId) (m : Fin 32) (implaus : Bool) (s : State) (t : Fin 8) : (excludeSensor c m implaus s t).chA = s.chA :=
  same_of_drop (m := 8598323200) (excludeSensor_drop c m implaus s t rfl) .chA rfl
@[simp] theorem excludeSensor_chB (c : ChainId) (m : Fin 32) (implaus : Bool) (s : State) (t : Fin 8) : (excludeSensor c m implaus s t).chB = s.chB :=
  same_of_drop (m := 8598323200) (excludeSensor_drop c m implaus s t rfl) .chB rfl
@[simp] theorem excludeSensor_snA (c : ChainId) (m : Fin 32) (implaus : Bool) (s : State) (t : Fin 8) : (excludeSensor c m implaus s t).snA = s.snA :=
  same_of_drop (m := 8598323200) (excludeSensor_drop c m implaus s t rfl) .snA rfl
@[simp] theorem excludeSensor_snB (c : ChainId) (m : Fin 32) (implaus : Bool) (s : State) (t : Fin 8) : (excludeSensor c m implaus s t).snB = s.snB :=
  same_of_drop (m := 8598323200) (excludeSensor_drop c m implaus s t rfl) .snB rfl
@[simp] theorem excludeSensor_esA (c : ChainId) (m : Fin 32) (implaus : Bool) (s : State) (t : Fin 8) : (excludeSensor c m implaus s t).esA = s.esA :=
  same_of_drop (m := 8598323200) (excludeSensor_drop c m implaus s t rfl) .esA rfl
@[simp] theorem excludeSensor_esB (c : ChainId) (m : Fin 32) (implaus : Bool) (s : State) (t : Fin 8) : (excludeSensor c m implaus s t).esB = s.esB :=
  same_of_drop (m := 8598323200) (excludeSensor_drop c m implaus s t rfl) .esB rfl
@[simp] theorem excludeSensor_est (c : ChainId) (m : Fin 32) (implaus : Bool) (s : State) (t : Fin 8) : (excludeSensor c m implaus s t).est = s.est :=
  same_of_drop (m := 8598323200) (excludeSensor_drop c m implaus s t rfl) .est rfl
@[simp] theorem excludeSensor_prt (c : ChainId) (m : Fin 32) (implaus : Bool) (s : State) (t : Fin 8) : (excludeSensor c m implaus s t).prt = s.prt :=
  same_of_drop (m := 8598323200) (excludeSensor_drop c m implaus s t rfl) .prt rfl
@[simp] theorem excludeSensor_dvt (c : ChainId) (m : Fin 32) (implaus : Bool) (s : State) (t : Fin 8) : (excludeSensor c m implaus s t).dvt = s.dvt :=
  same_of_drop (m := 8598323200) (excludeSensor_drop c m implaus s t rfl) .dvt rfl
@[simp] theorem excludeSensor_lsw (c : ChainId) (m : Fin 32) (implaus : Bool) (s : State) (t : Fin 8) : (excludeSensor c m implaus s t).lsw = s.lsw :=
  same_of_drop (m := 8598323200) (excludeSensor_drop c m implaus s t rfl) .lsw rfl
@[simp] theorem excludeSensor_lbus (c : ChainId) (m : Fin 32) (implaus : Bool) (s : State) (t : Fin 8) : (excludeSensor c m implaus s t).lbus = s.lbus :=
  same_of_drop (m := 8598323200) (excludeSensor_drop c m implaus s t rfl) .lbus rfl
@[simp] theorem excludeSensor_pwr (c : ChainId) (m : Fin 32) (implaus : Bool) (s : State) (t : Fin 8) : (excludeSensor c m implaus s t).pwr = s.pwr :=
  same_of_drop (m := 8598323200) (excludeSensor_drop c m implaus s t rfl) .pwr rfl
@[simp] theorem excludeSensor_sec (c : ChainId) (m : Fin 32) (implaus : Bool) (s : State) (t : Fin 8) : (excludeSensor c m implaus s t).sec = s.sec :=
  same_of_drop (m := 8598323200) (excludeSensor_drop c m implaus s t rfl) .sec rfl
@[simp] theorem excludeSensor_mnt (c : ChainId) (m : Fin 32) (implaus : Bool) (s : State) (t : Fin 8) : (excludeSensor c m implaus s t).mnt = s.mnt :=
  same_of_drop (m := 8598323200) (excludeSensor_drop c m implaus s t rfl) .mnt rfl
@[simp] theorem excludeSensor_outbox (c : ChainId) (m : Fin 32) (implaus : Bool) (s : State) (t : Fin 8) : (excludeSensor c m implaus s t).outbox = s.outbox :=
  same_of_drop (m := 8598323200) (excludeSensor_drop c m implaus s t rfl) .outbox rfl
@[simp] theorem excludeSensor_thm_sdHotA (c : ChainId) (m : Fin 32) (implaus : Bool) (s : State) (t : Fin 8) : (excludeSensor c m implaus s t).thm.sdHotA = s.thm.sdHotA := by
  have h := same_of_drop (m := 8598323200) (excludeSensor_drop c m implaus s t rfl) .shutdown rfl
  simp only [Block.same] at h; simp only [h]
@[simp] theorem excludeSensor_thm_sdHotB (c : ChainId) (m : Fin 32) (implaus : Bool) (s : State) (t : Fin 8) : (excludeSensor c m implaus s t).thm.sdHotB = s.thm.sdHotB := by
  have h := same_of_drop (m := 8598323200) (excludeSensor_drop c m implaus s t rfl) .shutdown rfl
  simp only [Block.same] at h; simp only [h]
@[simp] theorem excludeSensor_thm_sdColdA (c : ChainId) (m : Fin 32) (implaus : Bool) (s : State) (t : Fin 8) : (excludeSensor c m implaus s t).thm.sdColdA = s.thm.sdColdA := by
  have h := same_of_drop (m := 8598323200) (excludeSensor_drop c m implaus s t rfl) .shutdown rfl
  simp only [Block.same] at h; simp only [h]
@[simp] theorem excludeSensor_thm_sdColdB (c : ChainId) (m : Fin 32) (implaus : Bool) (s : State) (t : Fin 8) : (excludeSensor c m implaus s t).thm.sdColdB = s.thm.sdColdB := by
  have h := same_of_drop (m := 8598323200) (excludeSensor_drop c m implaus s t rfl) .shutdown rfl
  simp only [Block.same] at h; simp only [h]
@[simp] theorem substitute_dev (c : ChainId) (before : State) (s : State) (m : Fin 32) : (substitute c before s m).dev = s.dev :=
  same_of_drop (m := 8598323200) (substitute_drop c before s m rfl) .dev rfl
@[simp] theorem substitute_eng (c : ChainId) (before : State) (s : State) (m : Fin 32) : (substitute c before s m).eng = s.eng :=
  same_of_drop (m := 8598323200) (substitute_drop c before s m rfl) .eng rfl
@[simp] theorem substitute_img (c : ChainId) (before : State) (s : State) (m : Fin 32) : (substitute c before s m).img = s.img :=
  same_of_drop (m := 8598323200) (substitute_drop c before s m rfl) .img rfl
@[simp] theorem substitute_spl (c : ChainId) (before : State) (s : State) (m : Fin 32) : (substitute c before s m).spl = s.spl :=
  same_of_drop (m := 8598323200) (substitute_drop c before s m rfl) .spl rfl
@[simp] theorem substitute_tim (c : ChainId) (before : State) (s : State) (m : Fin 32) : (substitute c before s m).tim = s.tim :=
  same_of_drop (m := 8598323200) (substitute_drop c before s m rfl) .tim rfl
@[simp] theorem substitute_arm (c : ChainId) (before : State) (s : State) (m : Fin 32) : (substitute c before s m).arm = s.arm :=
  same_of_drop (m := 8598323200) (substitute_drop c before s m rfl) .arm rfl
@[simp] theorem substitute_pwm (c : ChainId) (before : State) (s : State) (m : Fin 32) : (substitute c before s m).pwm = s.pwm :=
  same_of_drop (m := 8598323200) (substitute_drop c before s m rfl) .pwm rfl
@[simp] theorem substitute_glk (c : ChainId) (before : State) (s : State) (m : Fin 32) : (substitute c before s m).glk = s.glk :=
  same_of_drop (m := 8598323200) (substitute_drop c before s m rfl) .glk rfl
@[simp] theorem substitute_chA (c : ChainId) (before : State) (s : State) (m : Fin 32) : (substitute c before s m).chA = s.chA :=
  same_of_drop (m := 8598323200) (substitute_drop c before s m rfl) .chA rfl
@[simp] theorem substitute_chB (c : ChainId) (before : State) (s : State) (m : Fin 32) : (substitute c before s m).chB = s.chB :=
  same_of_drop (m := 8598323200) (substitute_drop c before s m rfl) .chB rfl
@[simp] theorem substitute_snA (c : ChainId) (before : State) (s : State) (m : Fin 32) : (substitute c before s m).snA = s.snA :=
  same_of_drop (m := 8598323200) (substitute_drop c before s m rfl) .snA rfl
@[simp] theorem substitute_snB (c : ChainId) (before : State) (s : State) (m : Fin 32) : (substitute c before s m).snB = s.snB :=
  same_of_drop (m := 8598323200) (substitute_drop c before s m rfl) .snB rfl
@[simp] theorem substitute_esA (c : ChainId) (before : State) (s : State) (m : Fin 32) : (substitute c before s m).esA = s.esA :=
  same_of_drop (m := 8598323200) (substitute_drop c before s m rfl) .esA rfl
@[simp] theorem substitute_esB (c : ChainId) (before : State) (s : State) (m : Fin 32) : (substitute c before s m).esB = s.esB :=
  same_of_drop (m := 8598323200) (substitute_drop c before s m rfl) .esB rfl
@[simp] theorem substitute_est (c : ChainId) (before : State) (s : State) (m : Fin 32) : (substitute c before s m).est = s.est :=
  same_of_drop (m := 8598323200) (substitute_drop c before s m rfl) .est rfl
@[simp] theorem substitute_prt (c : ChainId) (before : State) (s : State) (m : Fin 32) : (substitute c before s m).prt = s.prt :=
  same_of_drop (m := 8598323200) (substitute_drop c before s m rfl) .prt rfl
@[simp] theorem substitute_dvt (c : ChainId) (before : State) (s : State) (m : Fin 32) : (substitute c before s m).dvt = s.dvt :=
  same_of_drop (m := 8598323200) (substitute_drop c before s m rfl) .dvt rfl
@[simp] theorem substitute_lsw (c : ChainId) (before : State) (s : State) (m : Fin 32) : (substitute c before s m).lsw = s.lsw :=
  same_of_drop (m := 8598323200) (substitute_drop c before s m rfl) .lsw rfl
@[simp] theorem substitute_lbus (c : ChainId) (before : State) (s : State) (m : Fin 32) : (substitute c before s m).lbus = s.lbus :=
  same_of_drop (m := 8598323200) (substitute_drop c before s m rfl) .lbus rfl
@[simp] theorem substitute_pwr (c : ChainId) (before : State) (s : State) (m : Fin 32) : (substitute c before s m).pwr = s.pwr :=
  same_of_drop (m := 8598323200) (substitute_drop c before s m rfl) .pwr rfl
@[simp] theorem substitute_sec (c : ChainId) (before : State) (s : State) (m : Fin 32) : (substitute c before s m).sec = s.sec :=
  same_of_drop (m := 8598323200) (substitute_drop c before s m rfl) .sec rfl
@[simp] theorem substitute_mnt (c : ChainId) (before : State) (s : State) (m : Fin 32) : (substitute c before s m).mnt = s.mnt :=
  same_of_drop (m := 8598323200) (substitute_drop c before s m rfl) .mnt rfl
@[simp] theorem substitute_outbox (c : ChainId) (before : State) (s : State) (m : Fin 32) : (substitute c before s m).outbox = s.outbox :=
  same_of_drop (m := 8598323200) (substitute_drop c before s m rfl) .outbox rfl
@[simp] theorem substitute_thm_sdHotA (c : ChainId) (before : State) (s : State) (m : Fin 32) : (substitute c before s m).thm.sdHotA = s.thm.sdHotA := by
  have h := same_of_drop (m := 8598323200) (substitute_drop c before s m rfl) .shutdown rfl
  simp only [Block.same] at h; simp only [h]
@[simp] theorem substitute_thm_sdHotB (c : ChainId) (before : State) (s : State) (m : Fin 32) : (substitute c before s m).thm.sdHotB = s.thm.sdHotB := by
  have h := same_of_drop (m := 8598323200) (substitute_drop c before s m rfl) .shutdown rfl
  simp only [Block.same] at h; simp only [h]
@[simp] theorem substitute_thm_sdColdA (c : ChainId) (before : State) (s : State) (m : Fin 32) : (substitute c before s m).thm.sdColdA = s.thm.sdColdA := by
  have h := same_of_drop (m := 8598323200) (substitute_drop c before s m rfl) .shutdown rfl
  simp only [Block.same] at h; simp only [h]
@[simp] theorem substitute_thm_sdColdB (c : ChainId) (before : State) (s : State) (m : Fin 32) : (substitute c before s m).thm.sdColdB = s.thm.sdColdB := by
  have h := same_of_drop (m := 8598323200) (substitute_drop c before s m rfl) .shutdown rfl
  simp only [Block.same] at h; simp only [h]
@[simp] theorem tillRecord_dev (s : State) (c : ChainId) (kind : Nat) (cause : Nat) (m : Nat) (sensor : Nat) (temp : Int) (ref : Nat) : (tillRecord s c kind cause m sensor temp ref).dev = s.dev :=
  same_of_drop (m := 8598323200) (tillRecord_drop s c kind cause m sensor temp ref rfl) .dev rfl
@[simp] theorem tillRecord_eng (s : State) (c : ChainId) (kind : Nat) (cause : Nat) (m : Nat) (sensor : Nat) (temp : Int) (ref : Nat) : (tillRecord s c kind cause m sensor temp ref).eng = s.eng :=
  same_of_drop (m := 8598323200) (tillRecord_drop s c kind cause m sensor temp ref rfl) .eng rfl
@[simp] theorem tillRecord_img (s : State) (c : ChainId) (kind : Nat) (cause : Nat) (m : Nat) (sensor : Nat) (temp : Int) (ref : Nat) : (tillRecord s c kind cause m sensor temp ref).img = s.img :=
  same_of_drop (m := 8598323200) (tillRecord_drop s c kind cause m sensor temp ref rfl) .img rfl
@[simp] theorem tillRecord_spl (s : State) (c : ChainId) (kind : Nat) (cause : Nat) (m : Nat) (sensor : Nat) (temp : Int) (ref : Nat) : (tillRecord s c kind cause m sensor temp ref).spl = s.spl :=
  same_of_drop (m := 8598323200) (tillRecord_drop s c kind cause m sensor temp ref rfl) .spl rfl
@[simp] theorem tillRecord_tim (s : State) (c : ChainId) (kind : Nat) (cause : Nat) (m : Nat) (sensor : Nat) (temp : Int) (ref : Nat) : (tillRecord s c kind cause m sensor temp ref).tim = s.tim :=
  same_of_drop (m := 8598323200) (tillRecord_drop s c kind cause m sensor temp ref rfl) .tim rfl
@[simp] theorem tillRecord_arm (s : State) (c : ChainId) (kind : Nat) (cause : Nat) (m : Nat) (sensor : Nat) (temp : Int) (ref : Nat) : (tillRecord s c kind cause m sensor temp ref).arm = s.arm :=
  same_of_drop (m := 8598323200) (tillRecord_drop s c kind cause m sensor temp ref rfl) .arm rfl
@[simp] theorem tillRecord_pwm (s : State) (c : ChainId) (kind : Nat) (cause : Nat) (m : Nat) (sensor : Nat) (temp : Int) (ref : Nat) : (tillRecord s c kind cause m sensor temp ref).pwm = s.pwm :=
  same_of_drop (m := 8598323200) (tillRecord_drop s c kind cause m sensor temp ref rfl) .pwm rfl
@[simp] theorem tillRecord_glk (s : State) (c : ChainId) (kind : Nat) (cause : Nat) (m : Nat) (sensor : Nat) (temp : Int) (ref : Nat) : (tillRecord s c kind cause m sensor temp ref).glk = s.glk :=
  same_of_drop (m := 8598323200) (tillRecord_drop s c kind cause m sensor temp ref rfl) .glk rfl
@[simp] theorem tillRecord_chA (s : State) (c : ChainId) (kind : Nat) (cause : Nat) (m : Nat) (sensor : Nat) (temp : Int) (ref : Nat) : (tillRecord s c kind cause m sensor temp ref).chA = s.chA :=
  same_of_drop (m := 8598323200) (tillRecord_drop s c kind cause m sensor temp ref rfl) .chA rfl
@[simp] theorem tillRecord_chB (s : State) (c : ChainId) (kind : Nat) (cause : Nat) (m : Nat) (sensor : Nat) (temp : Int) (ref : Nat) : (tillRecord s c kind cause m sensor temp ref).chB = s.chB :=
  same_of_drop (m := 8598323200) (tillRecord_drop s c kind cause m sensor temp ref rfl) .chB rfl
@[simp] theorem tillRecord_snA (s : State) (c : ChainId) (kind : Nat) (cause : Nat) (m : Nat) (sensor : Nat) (temp : Int) (ref : Nat) : (tillRecord s c kind cause m sensor temp ref).snA = s.snA :=
  same_of_drop (m := 8598323200) (tillRecord_drop s c kind cause m sensor temp ref rfl) .snA rfl
@[simp] theorem tillRecord_snB (s : State) (c : ChainId) (kind : Nat) (cause : Nat) (m : Nat) (sensor : Nat) (temp : Int) (ref : Nat) : (tillRecord s c kind cause m sensor temp ref).snB = s.snB :=
  same_of_drop (m := 8598323200) (tillRecord_drop s c kind cause m sensor temp ref rfl) .snB rfl
@[simp] theorem tillRecord_esA (s : State) (c : ChainId) (kind : Nat) (cause : Nat) (m : Nat) (sensor : Nat) (temp : Int) (ref : Nat) : (tillRecord s c kind cause m sensor temp ref).esA = s.esA :=
  same_of_drop (m := 8598323200) (tillRecord_drop s c kind cause m sensor temp ref rfl) .esA rfl
@[simp] theorem tillRecord_esB (s : State) (c : ChainId) (kind : Nat) (cause : Nat) (m : Nat) (sensor : Nat) (temp : Int) (ref : Nat) : (tillRecord s c kind cause m sensor temp ref).esB = s.esB :=
  same_of_drop (m := 8598323200) (tillRecord_drop s c kind cause m sensor temp ref rfl) .esB rfl
@[simp] theorem tillRecord_est (s : State) (c : ChainId) (kind : Nat) (cause : Nat) (m : Nat) (sensor : Nat) (temp : Int) (ref : Nat) : (tillRecord s c kind cause m sensor temp ref).est = s.est :=
  same_of_drop (m := 8598323200) (tillRecord_drop s c kind cause m sensor temp ref rfl) .est rfl
@[simp] theorem tillRecord_prt (s : State) (c : ChainId) (kind : Nat) (cause : Nat) (m : Nat) (sensor : Nat) (temp : Int) (ref : Nat) : (tillRecord s c kind cause m sensor temp ref).prt = s.prt :=
  same_of_drop (m := 8598323200) (tillRecord_drop s c kind cause m sensor temp ref rfl) .prt rfl
@[simp] theorem tillRecord_dvt (s : State) (c : ChainId) (kind : Nat) (cause : Nat) (m : Nat) (sensor : Nat) (temp : Int) (ref : Nat) : (tillRecord s c kind cause m sensor temp ref).dvt = s.dvt :=
  same_of_drop (m := 8598323200) (tillRecord_drop s c kind cause m sensor temp ref rfl) .dvt rfl
@[simp] theorem tillRecord_lsw (s : State) (c : ChainId) (kind : Nat) (cause : Nat) (m : Nat) (sensor : Nat) (temp : Int) (ref : Nat) : (tillRecord s c kind cause m sensor temp ref).lsw = s.lsw :=
  same_of_drop (m := 8598323200) (tillRecord_drop s c kind cause m sensor temp ref rfl) .lsw rfl
@[simp] theorem tillRecord_lbus (s : State) (c : ChainId) (kind : Nat) (cause : Nat) (m : Nat) (sensor : Nat) (temp : Int) (ref : Nat) : (tillRecord s c kind cause m sensor temp ref).lbus = s.lbus :=
  same_of_drop (m := 8598323200) (tillRecord_drop s c kind cause m sensor temp ref rfl) .lbus rfl
@[simp] theorem tillRecord_pwr (s : State) (c : ChainId) (kind : Nat) (cause : Nat) (m : Nat) (sensor : Nat) (temp : Int) (ref : Nat) : (tillRecord s c kind cause m sensor temp ref).pwr = s.pwr :=
  same_of_drop (m := 8598323200) (tillRecord_drop s c kind cause m sensor temp ref rfl) .pwr rfl
@[simp] theorem tillRecord_sec (s : State) (c : ChainId) (kind : Nat) (cause : Nat) (m : Nat) (sensor : Nat) (temp : Int) (ref : Nat) : (tillRecord s c kind cause m sensor temp ref).sec = s.sec :=
  same_of_drop (m := 8598323200) (tillRecord_drop s c kind cause m sensor temp ref rfl) .sec rfl
@[simp] theorem tillRecord_mnt (s : State) (c : ChainId) (kind : Nat) (cause : Nat) (m : Nat) (sensor : Nat) (temp : Int) (ref : Nat) : (tillRecord s c kind cause m sensor temp ref).mnt = s.mnt :=
  same_of_drop (m := 8598323200) (tillRecord_drop s c kind cause m sensor temp ref rfl) .mnt rfl
@[simp] theorem tillRecord_outbox (s : State) (c : ChainId) (kind : Nat) (cause : Nat) (m : Nat) (sensor : Nat) (temp : Int) (ref : Nat) : (tillRecord s c kind cause m sensor temp ref).outbox = s.outbox :=
  same_of_drop (m := 8598323200) (tillRecord_drop s c kind cause m sensor temp ref rfl) .outbox rfl
@[simp] theorem tillRecord_thm_sdHotA (s : State) (c : ChainId) (kind : Nat) (cause : Nat) (m : Nat) (sensor : Nat) (temp : Int) (ref : Nat) : (tillRecord s c kind cause m sensor temp ref).thm.sdHotA = s.thm.sdHotA := by
  have h := same_of_drop (m := 8598323200) (tillRecord_drop s c kind cause m sensor temp ref rfl) .shutdown rfl
  simp only [Block.same] at h; simp only [h]
@[simp] theorem tillRecord_thm_sdHotB (s : State) (c : ChainId) (kind : Nat) (cause : Nat) (m : Nat) (sensor : Nat) (temp : Int) (ref : Nat) : (tillRecord s c kind cause m sensor temp ref).thm.sdHotB = s.thm.sdHotB := by
  have h := same_of_drop (m := 8598323200) (tillRecord_drop s c kind cause m sensor temp ref rfl) .shutdown rfl
  simp only [Block.same] at h; simp only [h]
@[simp] theorem tillRecord_thm_sdColdA (s : State) (c : ChainId) (kind : Nat) (cause : Nat) (m : Nat) (sensor : Nat) (temp : Int) (ref : Nat) : (tillRecord s c kind cause m sensor temp ref).thm.sdColdA = s.thm.sdColdA := by
  have h := same_of_drop (m := 8598323200) (tillRecord_drop s c kind cause m sensor temp ref rfl) .shutdown rfl
  simp only [Block.same] at h; simp only [h]
@[simp] theorem tillRecord_thm_sdColdB (s : State) (c : ChainId) (kind : Nat) (cause : Nat) (m : Nat) (sensor : Nat) (temp : Int) (ref : Nat) : (tillRecord s c kind cause m sensor temp ref).thm.sdColdB = s.thm.sdColdB := by
  have h := same_of_drop (m := 8598323200) (tillRecord_drop s c kind cause m sensor temp ref rfl) .shutdown rfl
  simp only [Block.same] at h; simp only [h]
@[simp] theorem shutChain_dev (s : State) (c : ChainId) : (shutChain s c).dev = s.dev :=
  same_of_drop (m := 1799684595712) (shutChain_drop s c rfl) .dev rfl
@[simp] theorem shutChain_eng (s : State) (c : ChainId) : (shutChain s c).eng = s.eng :=
  same_of_drop (m := 1799684595712) (shutChain_drop s c rfl) .eng rfl
@[simp] theorem shutChain_img (s : State) (c : ChainId) : (shutChain s c).img = s.img :=
  same_of_drop (m := 1799684595712) (shutChain_drop s c rfl) .img rfl
@[simp] theorem shutChain_spl (s : State) (c : ChainId) : (shutChain s c).spl = s.spl :=
  same_of_drop (m := 1799684595712) (shutChain_drop s c rfl) .spl rfl
@[simp] theorem shutChain_tim (s : State) (c : ChainId) : (shutChain s c).tim = s.tim :=
  same_of_drop (m := 1799684595712) (shutChain_drop s c rfl) .tim rfl
@[simp] theorem shutChain_arm_cell (s : State) (c : ChainId) : (shutChain s c).arm.cell = s.arm.cell := by
  have h := same_of_drop (m := 1799684595712) (shutChain_drop s c rfl) .cell rfl
  simp only [Block.same] at h; simp only [h]
@[simp] theorem shutChain_arm_changes (s : State) (c : ChainId) : (shutChain s c).arm.changes = s.arm.changes := by
  have h := same_of_drop (m := 1799684595712) (shutChain_drop s c rfl) .cell rfl
  simp only [Block.same] at h; simp only [h]
@[simp] theorem shutChain_arm_owner (s : State) (c : ChainId) : (shutChain s c).arm.owner = s.arm.owner := by
  have h := same_of_drop (m := 1799684595712) (shutChain_drop s c rfl) .token rfl
  exact h
@[simp] theorem shutChain_arm_bypassed (s : State) (c : ChainId) : (shutChain s c).arm.bypassed = s.arm.bypassed := by
  have h := same_of_drop (m := 1799684595712) (shutChain_drop s c rfl) .bypass rfl
  exact h
@[simp] theorem shutChain_pwm (s : State) (c : ChainId) : (shutChain s c).pwm = s.pwm :=
  same_of_drop (m := 1799684595712) (shutChain_drop s c rfl) .pwm rfl
@[simp] theorem shutChain_esA (s : State) (c : ChainId) : (shutChain s c).esA = s.esA :=
  same_of_drop (m := 1799684595712) (shutChain_drop s c rfl) .esA rfl
@[simp] theorem shutChain_esB (s : State) (c : ChainId) : (shutChain s c).esB = s.esB :=
  same_of_drop (m := 1799684595712) (shutChain_drop s c rfl) .esB rfl
@[simp] theorem shutChain_est (s : State) (c : ChainId) : (shutChain s c).est = s.est :=
  same_of_drop (m := 1799684595712) (shutChain_drop s c rfl) .est rfl
@[simp] theorem shutChain_dvt (s : State) (c : ChainId) : (shutChain s c).dvt = s.dvt :=
  same_of_drop (m := 1799684595712) (shutChain_drop s c rfl) .dvt rfl
@[simp] theorem shutChain_lbus (s : State) (c : ChainId) : (shutChain s c).lbus = s.lbus :=
  same_of_drop (m := 1799684595712) (shutChain_drop s c rfl) .lbus rfl
@[simp] theorem shutChain_pwr (s : State) (c : ChainId) : (shutChain s c).pwr = s.pwr :=
  same_of_drop (m := 1799684595712) (shutChain_drop s c rfl) .pwr rfl
@[simp] theorem shutChain_sec (s : State) (c : ChainId) : (shutChain s c).sec = s.sec :=
  same_of_drop (m := 1799684595712) (shutChain_drop s c rfl) .sec rfl
@[simp] theorem shutChain_glk_fireHold (s : State) (c : ChainId) : (shutChain s c).glk.fireHold = s.glk.fireHold := by
  have h := same_of_drop (m := 1799684595712) (shutChain_drop s c rfl) .switch rfl
  simp only [Block.same] at h; simp only [h]
@[simp] theorem shutChain_glk_fireAll (s : State) (c : ChainId) : (shutChain s c).glk.fireAll = s.glk.fireAll := by
  have h := same_of_drop (m := 1799684595712) (shutChain_drop s c rfl) .switch rfl
  simp only [Block.same] at h; simp only [h]
@[simp] theorem shutChain_glk_closeAsserted (s : State) (c : ChainId) : (shutChain s c).glk.closeAsserted = s.glk.closeAsserted := by
  have h := same_of_drop (m := 1799684595712) (shutChain_drop s c rfl) .switch rfl
  simp only [Block.same] at h; simp only [h]
@[simp] theorem shutChain_glk_closeDue (s : State) (c : ChainId) : (shutChain s c).glk.closeDue = s.glk.closeDue := by
  have h := same_of_drop (m := 1799684595712) (shutChain_drop s c rfl) .switch rfl
  simp only [Block.same] at h; simp only [h]
@[simp] theorem shutChain_glk_statClosed (s : State) (c : ChainId) : (shutChain s c).glk.statClosed = s.glk.statClosed := by
  have h := same_of_drop (m := 1799684595712) (shutChain_drop s c rfl) .switch rfl
  simp only [Block.same] at h; simp only [h]
@[simp] theorem shutChain_thm_sdHotA (s : State) (c : ChainId) : (shutChain s c).thm.sdHotA = s.thm.sdHotA := by
  have h := same_of_drop (m := 1799684595712) (shutChain_drop s c rfl) .shutdown rfl
  simp only [Block.same] at h; simp only [h]
@[simp] theorem shutChain_thm_sdHotB (s : State) (c : ChainId) : (shutChain s c).thm.sdHotB = s.thm.sdHotB := by
  have h := same_of_drop (m := 1799684595712) (shutChain_drop s c rfl) .shutdown rfl
  simp only [Block.same] at h; simp only [h]
@[simp] theorem shutChain_thm_sdColdA (s : State) (c : ChainId) : (shutChain s c).thm.sdColdA = s.thm.sdColdA := by
  have h := same_of_drop (m := 1799684595712) (shutChain_drop s c rfl) .shutdown rfl
  simp only [Block.same] at h; simp only [h]
@[simp] theorem shutChain_thm_sdColdB (s : State) (c : ChainId) : (shutChain s c).thm.sdColdB = s.thm.sdColdB := by
  have h := same_of_drop (m := 1799684595712) (shutChain_drop s c rfl) .shutdown rfl
  simp only [Block.same] at h; simp only [h]
@[simp] theorem beginHot_dev (s : State) (c : ChainId) (cause : Nat) : (beginHot s c cause).dev = s.dev :=
  same_of_drop (m := 10595777617920) (beginHot_drop s c cause rfl) .dev rfl
@[simp] theorem beginHot_eng (s : State) (c : ChainId) (cause : Nat) : (beginHot s c cause).eng = s.eng :=
  same_of_drop (m := 10595777617920) (beginHot_drop s c cause rfl) .eng rfl
@[simp] theorem beginHot_img (s : State) (c : ChainId) (cause : Nat) : (beginHot s c cause).img = s.img :=
  same_of_drop (m := 10595777617920) (beginHot_drop s c cause rfl) .img rfl
@[simp] theorem beginHot_spl (s : State) (c : ChainId) (cause : Nat) : (beginHot s c cause).spl = s.spl :=
  same_of_drop (m := 10595777617920) (beginHot_drop s c cause rfl) .spl rfl
@[simp] theorem beginHot_tim (s : State) (c : ChainId) (cause : Nat) : (beginHot s c cause).tim = s.tim :=
  same_of_drop (m := 10595777617920) (beginHot_drop s c cause rfl) .tim rfl
@[simp] theorem beginHot_arm_cell (s : State) (c : ChainId) (cause : Nat) : (beginHot s c cause).arm.cell = s.arm.cell := by
  have h := same_of_drop (m := 10595777617920) (beginHot_drop s c cause rfl) .cell rfl
  simp only [Block.same] at h; simp only [h]
@[simp] theorem beginHot_arm_changes (s : State) (c : ChainId) (cause : Nat) : (beginHot s c cause).arm.changes = s.arm.changes := by
  have h := same_of_drop (m := 10595777617920) (beginHot_drop s c cause rfl) .cell rfl
  simp only [Block.same] at h; simp only [h]
@[simp] theorem beginHot_arm_owner (s : State) (c : ChainId) (cause : Nat) : (beginHot s c cause).arm.owner = s.arm.owner := by
  have h := same_of_drop (m := 10595777617920) (beginHot_drop s c cause rfl) .token rfl
  exact h
@[simp] theorem beginHot_arm_bypassed (s : State) (c : ChainId) (cause : Nat) : (beginHot s c cause).arm.bypassed = s.arm.bypassed := by
  have h := same_of_drop (m := 10595777617920) (beginHot_drop s c cause rfl) .bypass rfl
  exact h
@[simp] theorem beginHot_pwm (s : State) (c : ChainId) (cause : Nat) : (beginHot s c cause).pwm = s.pwm :=
  same_of_drop (m := 10595777617920) (beginHot_drop s c cause rfl) .pwm rfl
@[simp] theorem beginHot_esA (s : State) (c : ChainId) (cause : Nat) : (beginHot s c cause).esA = s.esA :=
  same_of_drop (m := 10595777617920) (beginHot_drop s c cause rfl) .esA rfl
@[simp] theorem beginHot_esB (s : State) (c : ChainId) (cause : Nat) : (beginHot s c cause).esB = s.esB :=
  same_of_drop (m := 10595777617920) (beginHot_drop s c cause rfl) .esB rfl
@[simp] theorem beginHot_est (s : State) (c : ChainId) (cause : Nat) : (beginHot s c cause).est = s.est :=
  same_of_drop (m := 10595777617920) (beginHot_drop s c cause rfl) .est rfl
@[simp] theorem beginHot_dvt (s : State) (c : ChainId) (cause : Nat) : (beginHot s c cause).dvt = s.dvt :=
  same_of_drop (m := 10595777617920) (beginHot_drop s c cause rfl) .dvt rfl
@[simp] theorem beginHot_lbus (s : State) (c : ChainId) (cause : Nat) : (beginHot s c cause).lbus = s.lbus :=
  same_of_drop (m := 10595777617920) (beginHot_drop s c cause rfl) .lbus rfl
@[simp] theorem beginHot_pwr (s : State) (c : ChainId) (cause : Nat) : (beginHot s c cause).pwr = s.pwr :=
  same_of_drop (m := 10595777617920) (beginHot_drop s c cause rfl) .pwr rfl
@[simp] theorem beginHot_sec (s : State) (c : ChainId) (cause : Nat) : (beginHot s c cause).sec = s.sec :=
  same_of_drop (m := 10595777617920) (beginHot_drop s c cause rfl) .sec rfl
@[simp] theorem beginHot_glk_fireHold (s : State) (c : ChainId) (cause : Nat) : (beginHot s c cause).glk.fireHold = s.glk.fireHold := by
  have h := same_of_drop (m := 10595777617920) (beginHot_drop s c cause rfl) .switch rfl
  simp only [Block.same] at h; simp only [h]
@[simp] theorem beginHot_glk_fireAll (s : State) (c : ChainId) (cause : Nat) : (beginHot s c cause).glk.fireAll = s.glk.fireAll := by
  have h := same_of_drop (m := 10595777617920) (beginHot_drop s c cause rfl) .switch rfl
  simp only [Block.same] at h; simp only [h]
@[simp] theorem beginHot_glk_closeAsserted (s : State) (c : ChainId) (cause : Nat) : (beginHot s c cause).glk.closeAsserted = s.glk.closeAsserted := by
  have h := same_of_drop (m := 10595777617920) (beginHot_drop s c cause rfl) .switch rfl
  simp only [Block.same] at h; simp only [h]
@[simp] theorem beginHot_glk_closeDue (s : State) (c : ChainId) (cause : Nat) : (beginHot s c cause).glk.closeDue = s.glk.closeDue := by
  have h := same_of_drop (m := 10595777617920) (beginHot_drop s c cause rfl) .switch rfl
  simp only [Block.same] at h; simp only [h]
@[simp] theorem beginHot_glk_statClosed (s : State) (c : ChainId) (cause : Nat) : (beginHot s c cause).glk.statClosed = s.glk.statClosed := by
  have h := same_of_drop (m := 10595777617920) (beginHot_drop s c cause rfl) .switch rfl
  simp only [Block.same] at h; simp only [h]
@[simp] theorem beginCold_dev (s : State) (c : ChainId) : (beginCold s c).dev = s.dev :=
  same_of_drop (m := 10595777617920) (beginCold_drop s c rfl) .dev rfl
@[simp] theorem beginCold_eng (s : State) (c : ChainId) : (beginCold s c).eng = s.eng :=
  same_of_drop (m := 10595777617920) (beginCold_drop s c rfl) .eng rfl
@[simp] theorem beginCold_img (s : State) (c : ChainId) : (beginCold s c).img = s.img :=
  same_of_drop (m := 10595777617920) (beginCold_drop s c rfl) .img rfl
@[simp] theorem beginCold_spl (s : State) (c : ChainId) : (beginCold s c).spl = s.spl :=
  same_of_drop (m := 10595777617920) (beginCold_drop s c rfl) .spl rfl
@[simp] theorem beginCold_tim (s : State) (c : ChainId) : (beginCold s c).tim = s.tim :=
  same_of_drop (m := 10595777617920) (beginCold_drop s c rfl) .tim rfl
@[simp] theorem beginCold_arm_cell (s : State) (c : ChainId) : (beginCold s c).arm.cell = s.arm.cell := by
  have h := same_of_drop (m := 10595777617920) (beginCold_drop s c rfl) .cell rfl
  simp only [Block.same] at h; simp only [h]
@[simp] theorem beginCold_arm_changes (s : State) (c : ChainId) : (beginCold s c).arm.changes = s.arm.changes := by
  have h := same_of_drop (m := 10595777617920) (beginCold_drop s c rfl) .cell rfl
  simp only [Block.same] at h; simp only [h]
@[simp] theorem beginCold_arm_owner (s : State) (c : ChainId) : (beginCold s c).arm.owner = s.arm.owner := by
  have h := same_of_drop (m := 10595777617920) (beginCold_drop s c rfl) .token rfl
  exact h
@[simp] theorem beginCold_arm_bypassed (s : State) (c : ChainId) : (beginCold s c).arm.bypassed = s.arm.bypassed := by
  have h := same_of_drop (m := 10595777617920) (beginCold_drop s c rfl) .bypass rfl
  exact h
@[simp] theorem beginCold_pwm (s : State) (c : ChainId) : (beginCold s c).pwm = s.pwm :=
  same_of_drop (m := 10595777617920) (beginCold_drop s c rfl) .pwm rfl
@[simp] theorem beginCold_esA (s : State) (c : ChainId) : (beginCold s c).esA = s.esA :=
  same_of_drop (m := 10595777617920) (beginCold_drop s c rfl) .esA rfl
@[simp] theorem beginCold_esB (s : State) (c : ChainId) : (beginCold s c).esB = s.esB :=
  same_of_drop (m := 10595777617920) (beginCold_drop s c rfl) .esB rfl
@[simp] theorem beginCold_est (s : State) (c : ChainId) : (beginCold s c).est = s.est :=
  same_of_drop (m := 10595777617920) (beginCold_drop s c rfl) .est rfl
@[simp] theorem beginCold_dvt (s : State) (c : ChainId) : (beginCold s c).dvt = s.dvt :=
  same_of_drop (m := 10595777617920) (beginCold_drop s c rfl) .dvt rfl
@[simp] theorem beginCold_lbus (s : State) (c : ChainId) : (beginCold s c).lbus = s.lbus :=
  same_of_drop (m := 10595777617920) (beginCold_drop s c rfl) .lbus rfl
@[simp] theorem beginCold_pwr (s : State) (c : ChainId) : (beginCold s c).pwr = s.pwr :=
  same_of_drop (m := 10595777617920) (beginCold_drop s c rfl) .pwr rfl
@[simp] theorem beginCold_sec (s : State) (c : ChainId) : (beginCold s c).sec = s.sec :=
  same_of_drop (m := 10595777617920) (beginCold_drop s c rfl) .sec rfl
@[simp] theorem beginCold_glk_fireHold (s : State) (c : ChainId) : (beginCold s c).glk.fireHold = s.glk.fireHold := by
  have h := same_of_drop (m := 10595777617920) (beginCold_drop s c rfl) .switch rfl
  simp only [Block.same] at h; simp only [h]
@[simp] theorem beginCold_glk_fireAll (s : State) (c : ChainId) : (beginCold s c).glk.fireAll = s.glk.fireAll := by
  have h := same_of_drop (m := 10595777617920) (beginCold_drop s c rfl) .switch rfl
  simp only [Block.same] at h; simp only [h]
@[simp] theorem beginCold_glk_closeAsserted (s : State) (c : ChainId) : (beginCold s c).glk.closeAsserted = s.glk.closeAsserted := by
  have h := same_of_drop (m := 10595777617920) (beginCold_drop s c rfl) .switch rfl
  simp only [Block.same] at h; simp only [h]
@[simp] theorem beginCold_glk_closeDue (s : State) (c : ChainId) : (beginCold s c).glk.closeDue = s.glk.closeDue := by
  have h := same_of_drop (m := 10595777617920) (beginCold_drop s c rfl) .switch rfl
  simp only [Block.same] at h; simp only [h]
@[simp] theorem beginCold_glk_statClosed (s : State) (c : ChainId) : (beginCold s c).glk.statClosed = s.glk.statClosed := by
  have h := same_of_drop (m := 10595777617920) (beginCold_drop s c rfl) .switch rfl
  simp only [Block.same] at h; simp only [h]
@[simp] theorem endShutdown_dev (s : State) (c : ChainId) (hot : Bool) : (endShutdown s c hot).dev = s.dev :=
  same_of_drop (m := 9904286859264) (endShutdown_drop s c hot rfl) .dev rfl
@[simp] theorem endShutdown_eng (s : State) (c : ChainId) (hot : Bool) : (endShutdown s c hot).eng = s.eng :=
  same_of_drop (m := 9904286859264) (endShutdown_drop s c hot rfl) .eng rfl
@[simp] theorem endShutdown_img (s : State) (c : ChainId) (hot : Bool) : (endShutdown s c hot).img = s.img :=
  same_of_drop (m := 9904286859264) (endShutdown_drop s c hot rfl) .img rfl
@[simp] theorem endShutdown_spl (s : State) (c : ChainId) (hot : Bool) : (endShutdown s c hot).spl = s.spl :=
  same_of_drop (m := 9904286859264) (endShutdown_drop s c hot rfl) .spl rfl
@[simp] theorem endShutdown_tim (s : State) (c : ChainId) (hot : Bool) : (endShutdown s c hot).tim = s.tim :=
  same_of_drop (m := 9904286859264) (endShutdown_drop s c hot rfl) .tim rfl
@[simp] theorem endShutdown_arm (s : State) (c : ChainId) (hot : Bool) : (endShutdown s c hot).arm = s.arm :=
  same_of_drop (m := 9904286859264) (endShutdown_drop s c hot rfl) .arm rfl
@[simp] theorem endShutdown_pwm (s : State) (c : ChainId) (hot : Bool) : (endShutdown s c hot).pwm = s.pwm :=
  same_of_drop (m := 9904286859264) (endShutdown_drop s c hot rfl) .pwm rfl
@[simp] theorem endShutdown_glk (s : State) (c : ChainId) (hot : Bool) : (endShutdown s c hot).glk = s.glk :=
  same_of_drop (m := 9904286859264) (endShutdown_drop s c hot rfl) .glk rfl
@[simp] theorem endShutdown_chA (s : State) (c : ChainId) (hot : Bool) : (endShutdown s c hot).chA = s.chA :=
  same_of_drop (m := 9904286859264) (endShutdown_drop s c hot rfl) .chA rfl
@[simp] theorem endShutdown_chB (s : State) (c : ChainId) (hot : Bool) : (endShutdown s c hot).chB = s.chB :=
  same_of_drop (m := 9904286859264) (endShutdown_drop s c hot rfl) .chB rfl
@[simp] theorem endShutdown_snA (s : State) (c : ChainId) (hot : Bool) : (endShutdown s c hot).snA = s.snA :=
  same_of_drop (m := 9904286859264) (endShutdown_drop s c hot rfl) .snA rfl
@[simp] theorem endShutdown_snB (s : State) (c : ChainId) (hot : Bool) : (endShutdown s c hot).snB = s.snB :=
  same_of_drop (m := 9904286859264) (endShutdown_drop s c hot rfl) .snB rfl
@[simp] theorem endShutdown_esA (s : State) (c : ChainId) (hot : Bool) : (endShutdown s c hot).esA = s.esA :=
  same_of_drop (m := 9904286859264) (endShutdown_drop s c hot rfl) .esA rfl
@[simp] theorem endShutdown_esB (s : State) (c : ChainId) (hot : Bool) : (endShutdown s c hot).esB = s.esB :=
  same_of_drop (m := 9904286859264) (endShutdown_drop s c hot rfl) .esB rfl
@[simp] theorem endShutdown_est (s : State) (c : ChainId) (hot : Bool) : (endShutdown s c hot).est = s.est :=
  same_of_drop (m := 9904286859264) (endShutdown_drop s c hot rfl) .est rfl
@[simp] theorem endShutdown_dvt (s : State) (c : ChainId) (hot : Bool) : (endShutdown s c hot).dvt = s.dvt :=
  same_of_drop (m := 9904286859264) (endShutdown_drop s c hot rfl) .dvt rfl
@[simp] theorem endShutdown_lbus (s : State) (c : ChainId) (hot : Bool) : (endShutdown s c hot).lbus = s.lbus :=
  same_of_drop (m := 9904286859264) (endShutdown_drop s c hot rfl) .lbus rfl
@[simp] theorem endShutdown_pwr (s : State) (c : ChainId) (hot : Bool) : (endShutdown s c hot).pwr = s.pwr :=
  same_of_drop (m := 9904286859264) (endShutdown_drop s c hot rfl) .pwr rfl
@[simp] theorem endShutdown_sec (s : State) (c : ChainId) (hot : Bool) : (endShutdown s c hot).sec = s.sec :=
  same_of_drop (m := 9904286859264) (endShutdown_drop s c hot rfl) .sec rfl
@[simp] theorem endShutdown_mnt (s : State) (c : ChainId) (hot : Bool) : (endShutdown s c hot).mnt = s.mnt :=
  same_of_drop (m := 9904286859264) (endShutdown_drop s c hot rfl) .mnt rfl
@[simp] theorem endShutdown_outbox (s : State) (c : ChainId) (hot : Bool) : (endShutdown s c hot).outbox = s.outbox :=
  same_of_drop (m := 9904286859264) (endShutdown_drop s c hot rfl) .outbox rfl
@[simp] theorem staggerHeater_dev (s : State) : (staggerHeater s).dev = s.dev :=
  same_of_drop (m := 8665432064) (staggerHeater_drop s rfl) .dev rfl
@[simp] theorem staggerHeater_eng (s : State) : (staggerHeater s).eng = s.eng :=
  same_of_drop (m := 8665432064) (staggerHeater_drop s rfl) .eng rfl
@[simp] theorem staggerHeater_img (s : State) : (staggerHeater s).img = s.img :=
  same_of_drop (m := 8665432064) (staggerHeater_drop s rfl) .img rfl
@[simp] theorem staggerHeater_spl (s : State) : (staggerHeater s).spl = s.spl :=
  same_of_drop (m := 8665432064) (staggerHeater_drop s rfl) .spl rfl
@[simp] theorem staggerHeater_tim (s : State) : (staggerHeater s).tim = s.tim :=
  same_of_drop (m := 8665432064) (staggerHeater_drop s rfl) .tim rfl
@[simp] theorem staggerHeater_arm (s : State) : (staggerHeater s).arm = s.arm :=
  same_of_drop (m := 8665432064) (staggerHeater_drop s rfl) .arm rfl
@[simp] theorem staggerHeater_pwm (s : State) : (staggerHeater s).pwm = s.pwm :=
  same_of_drop (m := 8665432064) (staggerHeater_drop s rfl) .pwm rfl
@[simp] theorem staggerHeater_glk (s : State) : (staggerHeater s).glk = s.glk :=
  same_of_drop (m := 8665432064) (staggerHeater_drop s rfl) .glk rfl
@[simp] theorem staggerHeater_chA (s : State) : (staggerHeater s).chA = s.chA :=
  same_of_drop (m := 8665432064) (staggerHeater_drop s rfl) .chA rfl
@[simp] theorem staggerHeater_chB (s : State) : (staggerHeater s).chB = s.chB :=
  same_of_drop (m := 8665432064) (staggerHeater_drop s rfl) .chB rfl
@[simp] theorem staggerHeater_snA (s : State) : (staggerHeater s).snA = s.snA :=
  same_of_drop (m := 8665432064) (staggerHeater_drop s rfl) .snA rfl
@[simp] theorem staggerHeater_snB (s : State) : (staggerHeater s).snB = s.snB :=
  same_of_drop (m := 8665432064) (staggerHeater_drop s rfl) .snB rfl
@[simp] theorem staggerHeater_esA (s : State) : (staggerHeater s).esA = s.esA :=
  same_of_drop (m := 8665432064) (staggerHeater_drop s rfl) .esA rfl
@[simp] theorem staggerHeater_esB (s : State) : (staggerHeater s).esB = s.esB :=
  same_of_drop (m := 8665432064) (staggerHeater_drop s rfl) .esB rfl
@[simp] theorem staggerHeater_est (s : State) : (staggerHeater s).est = s.est :=
  same_of_drop (m := 8665432064) (staggerHeater_drop s rfl) .est rfl
@[simp] theorem staggerHeater_prt (s : State) : (staggerHeater s).prt = s.prt :=
  same_of_drop (m := 8665432064) (staggerHeater_drop s rfl) .prt rfl
@[simp] theorem staggerHeater_dvt (s : State) : (staggerHeater s).dvt = s.dvt :=
  same_of_drop (m := 8665432064) (staggerHeater_drop s rfl) .dvt rfl
@[simp] theorem staggerHeater_lbus (s : State) : (staggerHeater s).lbus = s.lbus :=
  same_of_drop (m := 8665432064) (staggerHeater_drop s rfl) .lbus rfl
@[simp] theorem staggerHeater_pwr (s : State) : (staggerHeater s).pwr = s.pwr :=
  same_of_drop (m := 8665432064) (staggerHeater_drop s rfl) .pwr rfl
@[simp] theorem staggerHeater_sec (s : State) : (staggerHeater s).sec = s.sec :=
  same_of_drop (m := 8665432064) (staggerHeater_drop s rfl) .sec rfl
@[simp] theorem staggerHeater_mnt (s : State) : (staggerHeater s).mnt = s.mnt :=
  same_of_drop (m := 8665432064) (staggerHeater_drop s rfl) .mnt rfl
@[simp] theorem staggerHeater_outbox (s : State) : (staggerHeater s).outbox = s.outbox :=
  same_of_drop (m := 8665432064) (staggerHeater_drop s rfl) .outbox rfl
@[simp] theorem staggerHeater_thm_sdHotA (s : State) : (staggerHeater s).thm.sdHotA = s.thm.sdHotA := by
  have h := same_of_drop (m := 8665432064) (staggerHeater_drop s rfl) .shutdown rfl
  simp only [Block.same] at h; simp only [h]
@[simp] theorem staggerHeater_thm_sdHotB (s : State) : (staggerHeater s).thm.sdHotB = s.thm.sdHotB := by
  have h := same_of_drop (m := 8665432064) (staggerHeater_drop s rfl) .shutdown rfl
  simp only [Block.same] at h; simp only [h]
@[simp] theorem staggerHeater_thm_sdColdA (s : State) : (staggerHeater s).thm.sdColdA = s.thm.sdColdA := by
  have h := same_of_drop (m := 8665432064) (staggerHeater_drop s rfl) .shutdown rfl
  simp only [Block.same] at h; simp only [h]
@[simp] theorem staggerHeater_thm_sdColdB (s : State) : (staggerHeater s).thm.sdColdB = s.thm.sdColdB := by
  have h := same_of_drop (m := 8665432064) (staggerHeater_drop s rfl) .shutdown rfl
  simp only [Block.same] at h; simp only [h]
@[simp] theorem settleHeater_dev (s : State) (n : Fin 12) : (settleHeater s n).dev = s.dev :=
  same_of_drop (m := 8665432064) (settleHeater_drop s n rfl) .dev rfl
@[simp] theorem settleHeater_eng (s : State) (n : Fin 12) : (settleHeater s n).eng = s.eng :=
  same_of_drop (m := 8665432064) (settleHeater_drop s n rfl) .eng rfl
@[simp] theorem settleHeater_img (s : State) (n : Fin 12) : (settleHeater s n).img = s.img :=
  same_of_drop (m := 8665432064) (settleHeater_drop s n rfl) .img rfl
@[simp] theorem settleHeater_spl (s : State) (n : Fin 12) : (settleHeater s n).spl = s.spl :=
  same_of_drop (m := 8665432064) (settleHeater_drop s n rfl) .spl rfl
@[simp] theorem settleHeater_tim (s : State) (n : Fin 12) : (settleHeater s n).tim = s.tim :=
  same_of_drop (m := 8665432064) (settleHeater_drop s n rfl) .tim rfl
@[simp] theorem settleHeater_arm (s : State) (n : Fin 12) : (settleHeater s n).arm = s.arm :=
  same_of_drop (m := 8665432064) (settleHeater_drop s n rfl) .arm rfl
@[simp] theorem settleHeater_pwm (s : State) (n : Fin 12) : (settleHeater s n).pwm = s.pwm :=
  same_of_drop (m := 8665432064) (settleHeater_drop s n rfl) .pwm rfl
@[simp] theorem settleHeater_glk (s : State) (n : Fin 12) : (settleHeater s n).glk = s.glk :=
  same_of_drop (m := 8665432064) (settleHeater_drop s n rfl) .glk rfl
@[simp] theorem settleHeater_chA (s : State) (n : Fin 12) : (settleHeater s n).chA = s.chA :=
  same_of_drop (m := 8665432064) (settleHeater_drop s n rfl) .chA rfl
@[simp] theorem settleHeater_chB (s : State) (n : Fin 12) : (settleHeater s n).chB = s.chB :=
  same_of_drop (m := 8665432064) (settleHeater_drop s n rfl) .chB rfl
@[simp] theorem settleHeater_snA (s : State) (n : Fin 12) : (settleHeater s n).snA = s.snA :=
  same_of_drop (m := 8665432064) (settleHeater_drop s n rfl) .snA rfl
@[simp] theorem settleHeater_snB (s : State) (n : Fin 12) : (settleHeater s n).snB = s.snB :=
  same_of_drop (m := 8665432064) (settleHeater_drop s n rfl) .snB rfl
@[simp] theorem settleHeater_esA (s : State) (n : Fin 12) : (settleHeater s n).esA = s.esA :=
  same_of_drop (m := 8665432064) (settleHeater_drop s n rfl) .esA rfl
@[simp] theorem settleHeater_esB (s : State) (n : Fin 12) : (settleHeater s n).esB = s.esB :=
  same_of_drop (m := 8665432064) (settleHeater_drop s n rfl) .esB rfl
@[simp] theorem settleHeater_est (s : State) (n : Fin 12) : (settleHeater s n).est = s.est :=
  same_of_drop (m := 8665432064) (settleHeater_drop s n rfl) .est rfl
@[simp] theorem settleHeater_prt (s : State) (n : Fin 12) : (settleHeater s n).prt = s.prt :=
  same_of_drop (m := 8665432064) (settleHeater_drop s n rfl) .prt rfl
@[simp] theorem settleHeater_dvt (s : State) (n : Fin 12) : (settleHeater s n).dvt = s.dvt :=
  same_of_drop (m := 8665432064) (settleHeater_drop s n rfl) .dvt rfl
@[simp] theorem settleHeater_lbus (s : State) (n : Fin 12) : (settleHeater s n).lbus = s.lbus :=
  same_of_drop (m := 8665432064) (settleHeater_drop s n rfl) .lbus rfl
@[simp] theorem settleHeater_pwr (s : State) (n : Fin 12) : (settleHeater s n).pwr = s.pwr :=
  same_of_drop (m := 8665432064) (settleHeater_drop s n rfl) .pwr rfl
@[simp] theorem settleHeater_sec (s : State) (n : Fin 12) : (settleHeater s n).sec = s.sec :=
  same_of_drop (m := 8665432064) (settleHeater_drop s n rfl) .sec rfl
@[simp] theorem settleHeater_mnt (s : State) (n : Fin 12) : (settleHeater s n).mnt = s.mnt :=
  same_of_drop (m := 8665432064) (settleHeater_drop s n rfl) .mnt rfl
@[simp] theorem settleHeater_outbox (s : State) (n : Fin 12) : (settleHeater s n).outbox = s.outbox :=
  same_of_drop (m := 8665432064) (settleHeater_drop s n rfl) .outbox rfl
@[simp] theorem settleHeater_thm_sdHotA (s : State) (n : Fin 12) : (settleHeater s n).thm.sdHotA = s.thm.sdHotA := by
  have h := same_of_drop (m := 8665432064) (settleHeater_drop s n rfl) .shutdown rfl
  simp only [Block.same] at h; simp only [h]
@[simp] theorem settleHeater_thm_sdHotB (s : State) (n : Fin 12) : (settleHeater s n).thm.sdHotB = s.thm.sdHotB := by
  have h := same_of_drop (m := 8665432064) (settleHeater_drop s n rfl) .shutdown rfl
  simp only [Block.same] at h; simp only [h]
@[simp] theorem settleHeater_thm_sdColdA (s : State) (n : Fin 12) : (settleHeater s n).thm.sdColdA = s.thm.sdColdA := by
  have h := same_of_drop (m := 8665432064) (settleHeater_drop s n rfl) .shutdown rfl
  simp only [Block.same] at h; simp only [h]
@[simp] theorem settleHeater_thm_sdColdB (s : State) (n : Fin 12) : (settleHeater s n).thm.sdColdB = s.thm.sdColdB := by
  have h := same_of_drop (m := 8665432064) (settleHeater_drop s n rfl) .shutdown rfl
  simp only [Block.same] at h; simp only [h]
@[simp] theorem controlHeaters_dev (s : State) : (controlHeaters s).dev = s.dev :=
  same_of_drop (m := 8665432064) (controlHeaters_drop s rfl) .dev rfl
@[simp] theorem controlHeaters_eng (s : State) : (controlHeaters s).eng = s.eng :=
  same_of_drop (m := 8665432064) (controlHeaters_drop s rfl) .eng rfl
@[simp] theorem controlHeaters_img (s : State) : (controlHeaters s).img = s.img :=
  same_of_drop (m := 8665432064) (controlHeaters_drop s rfl) .img rfl
@[simp] theorem controlHeaters_spl (s : State) : (controlHeaters s).spl = s.spl :=
  same_of_drop (m := 8665432064) (controlHeaters_drop s rfl) .spl rfl
@[simp] theorem controlHeaters_tim (s : State) : (controlHeaters s).tim = s.tim :=
  same_of_drop (m := 8665432064) (controlHeaters_drop s rfl) .tim rfl
@[simp] theorem controlHeaters_arm (s : State) : (controlHeaters s).arm = s.arm :=
  same_of_drop (m := 8665432064) (controlHeaters_drop s rfl) .arm rfl
@[simp] theorem controlHeaters_pwm (s : State) : (controlHeaters s).pwm = s.pwm :=
  same_of_drop (m := 8665432064) (controlHeaters_drop s rfl) .pwm rfl
@[simp] theorem controlHeaters_glk (s : State) : (controlHeaters s).glk = s.glk :=
  same_of_drop (m := 8665432064) (controlHeaters_drop s rfl) .glk rfl
@[simp] theorem controlHeaters_chA (s : State) : (controlHeaters s).chA = s.chA :=
  same_of_drop (m := 8665432064) (controlHeaters_drop s rfl) .chA rfl
@[simp] theorem controlHeaters_chB (s : State) : (controlHeaters s).chB = s.chB :=
  same_of_drop (m := 8665432064) (controlHeaters_drop s rfl) .chB rfl
@[simp] theorem controlHeaters_snA (s : State) : (controlHeaters s).snA = s.snA :=
  same_of_drop (m := 8665432064) (controlHeaters_drop s rfl) .snA rfl
@[simp] theorem controlHeaters_snB (s : State) : (controlHeaters s).snB = s.snB :=
  same_of_drop (m := 8665432064) (controlHeaters_drop s rfl) .snB rfl
@[simp] theorem controlHeaters_esA (s : State) : (controlHeaters s).esA = s.esA :=
  same_of_drop (m := 8665432064) (controlHeaters_drop s rfl) .esA rfl
@[simp] theorem controlHeaters_esB (s : State) : (controlHeaters s).esB = s.esB :=
  same_of_drop (m := 8665432064) (controlHeaters_drop s rfl) .esB rfl
@[simp] theorem controlHeaters_est (s : State) : (controlHeaters s).est = s.est :=
  same_of_drop (m := 8665432064) (controlHeaters_drop s rfl) .est rfl
@[simp] theorem controlHeaters_prt (s : State) : (controlHeaters s).prt = s.prt :=
  same_of_drop (m := 8665432064) (controlHeaters_drop s rfl) .prt rfl
@[simp] theorem controlHeaters_dvt (s : State) : (controlHeaters s).dvt = s.dvt :=
  same_of_drop (m := 8665432064) (controlHeaters_drop s rfl) .dvt rfl
@[simp] theorem controlHeaters_lbus (s : State) : (controlHeaters s).lbus = s.lbus :=
  same_of_drop (m := 8665432064) (controlHeaters_drop s rfl) .lbus rfl
@[simp] theorem controlHeaters_pwr (s : State) : (controlHeaters s).pwr = s.pwr :=
  same_of_drop (m := 8665432064) (controlHeaters_drop s rfl) .pwr rfl
@[simp] theorem controlHeaters_sec (s : State) : (controlHeaters s).sec = s.sec :=
  same_of_drop (m := 8665432064) (controlHeaters_drop s rfl) .sec rfl
@[simp] theorem controlHeaters_mnt (s : State) : (controlHeaters s).mnt = s.mnt :=
  same_of_drop (m := 8665432064) (controlHeaters_drop s rfl) .mnt rfl
@[simp] theorem controlHeaters_outbox (s : State) : (controlHeaters s).outbox = s.outbox :=
  same_of_drop (m := 8665432064) (controlHeaters_drop s rfl) .outbox rfl
@[simp] theorem controlHeaters_thm_sdHotA (s : State) : (controlHeaters s).thm.sdHotA = s.thm.sdHotA := by
  have h := same_of_drop (m := 8665432064) (controlHeaters_drop s rfl) .shutdown rfl
  simp only [Block.same] at h; simp only [h]
@[simp] theorem controlHeaters_thm_sdHotB (s : State) : (controlHeaters s).thm.sdHotB = s.thm.sdHotB := by
  have h := same_of_drop (m := 8665432064) (controlHeaters_drop s rfl) .shutdown rfl
  simp only [Block.same] at h; simp only [h]
@[simp] theorem controlHeaters_thm_sdColdA (s : State) : (controlHeaters s).thm.sdColdA = s.thm.sdColdA := by
  have h := same_of_drop (m := 8665432064) (controlHeaters_drop s rfl) .shutdown rfl
  simp only [Block.same] at h; simp only [h]
@[simp] theorem controlHeaters_thm_sdColdB (s : State) : (controlHeaters s).thm.sdColdB = s.thm.sdColdB := by
  have h := same_of_drop (m := 8665432064) (controlHeaters_drop s rfl) .shutdown rfl
  simp only [Block.same] at h; simp only [h]
@[simp] theorem scanSensors_dev (s : State) (c : ChainId) : (scanSensors s c).dev = s.dev :=
  same_of_drop (m := 8598323200) (scanSensors_drop s c rfl) .dev rfl
@[simp] theorem scanSensors_eng (s : State) (c : ChainId) : (scanSensors s c).eng = s.eng :=
  same_of_drop (m := 8598323200) (scanSensors_drop s c rfl) .eng rfl
@[simp] theorem scanSensors_img (s : State) (c : ChainId) : (scanSensors s c).img = s.img :=
  same_of_drop (m := 8598323200) (scanSensors_drop s c rfl) .img rfl
@[simp] theorem scanSensors_spl (s : State) (c : ChainId) : (scanSensors s c).spl = s.spl :=
  same_of_drop (m := 8598323200) (scanSensors_drop s c rfl) .spl rfl
@[simp] theorem scanSensors_tim (s : State) (c : ChainId) : (scanSensors s c).tim = s.tim :=
  same_of_drop (m := 8598323200) (scanSensors_drop s c rfl) .tim rfl
@[simp] theorem scanSensors_arm (s : State) (c : ChainId) : (scanSensors s c).arm = s.arm :=
  same_of_drop (m := 8598323200) (scanSensors_drop s c rfl) .arm rfl
@[simp] theorem scanSensors_pwm (s : State) (c : ChainId) : (scanSensors s c).pwm = s.pwm :=
  same_of_drop (m := 8598323200) (scanSensors_drop s c rfl) .pwm rfl
@[simp] theorem scanSensors_glk (s : State) (c : ChainId) : (scanSensors s c).glk = s.glk :=
  same_of_drop (m := 8598323200) (scanSensors_drop s c rfl) .glk rfl
@[simp] theorem scanSensors_chA (s : State) (c : ChainId) : (scanSensors s c).chA = s.chA :=
  same_of_drop (m := 8598323200) (scanSensors_drop s c rfl) .chA rfl
@[simp] theorem scanSensors_chB (s : State) (c : ChainId) : (scanSensors s c).chB = s.chB :=
  same_of_drop (m := 8598323200) (scanSensors_drop s c rfl) .chB rfl
@[simp] theorem scanSensors_snA (s : State) (c : ChainId) : (scanSensors s c).snA = s.snA :=
  same_of_drop (m := 8598323200) (scanSensors_drop s c rfl) .snA rfl
@[simp] theorem scanSensors_snB (s : State) (c : ChainId) : (scanSensors s c).snB = s.snB :=
  same_of_drop (m := 8598323200) (scanSensors_drop s c rfl) .snB rfl
@[simp] theorem scanSensors_esA (s : State) (c : ChainId) : (scanSensors s c).esA = s.esA :=
  same_of_drop (m := 8598323200) (scanSensors_drop s c rfl) .esA rfl
@[simp] theorem scanSensors_esB (s : State) (c : ChainId) : (scanSensors s c).esB = s.esB :=
  same_of_drop (m := 8598323200) (scanSensors_drop s c rfl) .esB rfl
@[simp] theorem scanSensors_est (s : State) (c : ChainId) : (scanSensors s c).est = s.est :=
  same_of_drop (m := 8598323200) (scanSensors_drop s c rfl) .est rfl
@[simp] theorem scanSensors_prt (s : State) (c : ChainId) : (scanSensors s c).prt = s.prt :=
  same_of_drop (m := 8598323200) (scanSensors_drop s c rfl) .prt rfl
@[simp] theorem scanSensors_dvt (s : State) (c : ChainId) : (scanSensors s c).dvt = s.dvt :=
  same_of_drop (m := 8598323200) (scanSensors_drop s c rfl) .dvt rfl
@[simp] theorem scanSensors_lsw (s : State) (c : ChainId) : (scanSensors s c).lsw = s.lsw :=
  same_of_drop (m := 8598323200) (scanSensors_drop s c rfl) .lsw rfl
@[simp] theorem scanSensors_lbus (s : State) (c : ChainId) : (scanSensors s c).lbus = s.lbus :=
  same_of_drop (m := 8598323200) (scanSensors_drop s c rfl) .lbus rfl
@[simp] theorem scanSensors_pwr (s : State) (c : ChainId) : (scanSensors s c).pwr = s.pwr :=
  same_of_drop (m := 8598323200) (scanSensors_drop s c rfl) .pwr rfl
@[simp] theorem scanSensors_sec (s : State) (c : ChainId) : (scanSensors s c).sec = s.sec :=
  same_of_drop (m := 8598323200) (scanSensors_drop s c rfl) .sec rfl
@[simp] theorem scanSensors_mnt (s : State) (c : ChainId) : (scanSensors s c).mnt = s.mnt :=
  same_of_drop (m := 8598323200) (scanSensors_drop s c rfl) .mnt rfl
@[simp] theorem scanSensors_outbox (s : State) (c : ChainId) : (scanSensors s c).outbox = s.outbox :=
  same_of_drop (m := 8598323200) (scanSensors_drop s c rfl) .outbox rfl
@[simp] theorem scanSensors_thm_sdHotA (s : State) (c : ChainId) : (scanSensors s c).thm.sdHotA = s.thm.sdHotA := by
  have h := same_of_drop (m := 8598323200) (scanSensors_drop s c rfl) .shutdown rfl
  simp only [Block.same] at h; simp only [h]
@[simp] theorem scanSensors_thm_sdHotB (s : State) (c : ChainId) : (scanSensors s c).thm.sdHotB = s.thm.sdHotB := by
  have h := same_of_drop (m := 8598323200) (scanSensors_drop s c rfl) .shutdown rfl
  simp only [Block.same] at h; simp only [h]
@[simp] theorem scanSensors_thm_sdColdA (s : State) (c : ChainId) : (scanSensors s c).thm.sdColdA = s.thm.sdColdA := by
  have h := same_of_drop (m := 8598323200) (scanSensors_drop s c rfl) .shutdown rfl
  simp only [Block.same] at h; simp only [h]
@[simp] theorem scanSensors_thm_sdColdB (s : State) (c : ChainId) : (scanSensors s c).thm.sdColdB = s.thm.sdColdB := by
  have h := same_of_drop (m := 8598323200) (scanSensors_drop s c rfl) .shutdown rfl
  simp only [Block.same] at h; simp only [h]
@[simp] theorem dieWarnings_dev (s : State) : (dieWarnings s).dev = s.dev :=
  same_of_drop (m := 8598323200) (dieWarnings_drop s rfl) .dev rfl
@[simp] theorem dieWarnings_eng (s : State) : (dieWarnings s).eng = s.eng :=
  same_of_drop (m := 8598323200) (dieWarnings_drop s rfl) .eng rfl
@[simp] theorem dieWarnings_img (s : State) : (dieWarnings s).img = s.img :=
  same_of_drop (m := 8598323200) (dieWarnings_drop s rfl) .img rfl
@[simp] theorem dieWarnings_spl (s : State) : (dieWarnings s).spl = s.spl :=
  same_of_drop (m := 8598323200) (dieWarnings_drop s rfl) .spl rfl
@[simp] theorem dieWarnings_tim (s : State) : (dieWarnings s).tim = s.tim :=
  same_of_drop (m := 8598323200) (dieWarnings_drop s rfl) .tim rfl
@[simp] theorem dieWarnings_arm (s : State) : (dieWarnings s).arm = s.arm :=
  same_of_drop (m := 8598323200) (dieWarnings_drop s rfl) .arm rfl
@[simp] theorem dieWarnings_pwm (s : State) : (dieWarnings s).pwm = s.pwm :=
  same_of_drop (m := 8598323200) (dieWarnings_drop s rfl) .pwm rfl
@[simp] theorem dieWarnings_glk (s : State) : (dieWarnings s).glk = s.glk :=
  same_of_drop (m := 8598323200) (dieWarnings_drop s rfl) .glk rfl
@[simp] theorem dieWarnings_chA (s : State) : (dieWarnings s).chA = s.chA :=
  same_of_drop (m := 8598323200) (dieWarnings_drop s rfl) .chA rfl
@[simp] theorem dieWarnings_chB (s : State) : (dieWarnings s).chB = s.chB :=
  same_of_drop (m := 8598323200) (dieWarnings_drop s rfl) .chB rfl
@[simp] theorem dieWarnings_snA (s : State) : (dieWarnings s).snA = s.snA :=
  same_of_drop (m := 8598323200) (dieWarnings_drop s rfl) .snA rfl
@[simp] theorem dieWarnings_snB (s : State) : (dieWarnings s).snB = s.snB :=
  same_of_drop (m := 8598323200) (dieWarnings_drop s rfl) .snB rfl
@[simp] theorem dieWarnings_esA (s : State) : (dieWarnings s).esA = s.esA :=
  same_of_drop (m := 8598323200) (dieWarnings_drop s rfl) .esA rfl
@[simp] theorem dieWarnings_esB (s : State) : (dieWarnings s).esB = s.esB :=
  same_of_drop (m := 8598323200) (dieWarnings_drop s rfl) .esB rfl
@[simp] theorem dieWarnings_est (s : State) : (dieWarnings s).est = s.est :=
  same_of_drop (m := 8598323200) (dieWarnings_drop s rfl) .est rfl
@[simp] theorem dieWarnings_prt (s : State) : (dieWarnings s).prt = s.prt :=
  same_of_drop (m := 8598323200) (dieWarnings_drop s rfl) .prt rfl
@[simp] theorem dieWarnings_dvt (s : State) : (dieWarnings s).dvt = s.dvt :=
  same_of_drop (m := 8598323200) (dieWarnings_drop s rfl) .dvt rfl
@[simp] theorem dieWarnings_lsw (s : State) : (dieWarnings s).lsw = s.lsw :=
  same_of_drop (m := 8598323200) (dieWarnings_drop s rfl) .lsw rfl
@[simp] theorem dieWarnings_lbus (s : State) : (dieWarnings s).lbus = s.lbus :=
  same_of_drop (m := 8598323200) (dieWarnings_drop s rfl) .lbus rfl
@[simp] theorem dieWarnings_pwr (s : State) : (dieWarnings s).pwr = s.pwr :=
  same_of_drop (m := 8598323200) (dieWarnings_drop s rfl) .pwr rfl
@[simp] theorem dieWarnings_sec (s : State) : (dieWarnings s).sec = s.sec :=
  same_of_drop (m := 8598323200) (dieWarnings_drop s rfl) .sec rfl
@[simp] theorem dieWarnings_mnt (s : State) : (dieWarnings s).mnt = s.mnt :=
  same_of_drop (m := 8598323200) (dieWarnings_drop s rfl) .mnt rfl
@[simp] theorem dieWarnings_outbox (s : State) : (dieWarnings s).outbox = s.outbox :=
  same_of_drop (m := 8598323200) (dieWarnings_drop s rfl) .outbox rfl
@[simp] theorem dieWarnings_thm_sdHotA (s : State) : (dieWarnings s).thm.sdHotA = s.thm.sdHotA := by
  have h := same_of_drop (m := 8598323200) (dieWarnings_drop s rfl) .shutdown rfl
  simp only [Block.same] at h; simp only [h]
@[simp] theorem dieWarnings_thm_sdHotB (s : State) : (dieWarnings s).thm.sdHotB = s.thm.sdHotB := by
  have h := same_of_drop (m := 8598323200) (dieWarnings_drop s rfl) .shutdown rfl
  simp only [Block.same] at h; simp only [h]
@[simp] theorem dieWarnings_thm_sdColdA (s : State) : (dieWarnings s).thm.sdColdA = s.thm.sdColdA := by
  have h := same_of_drop (m := 8598323200) (dieWarnings_drop s rfl) .shutdown rfl
  simp only [Block.same] at h; simp only [h]
@[simp] theorem dieWarnings_thm_sdColdB (s : State) : (dieWarnings s).thm.sdColdB = s.thm.sdColdB := by
  have h := same_of_drop (m := 8598323200) (dieWarnings_drop s rfl) .shutdown rfl
  simp only [Block.same] at h; simp only [h]
@[simp] theorem endBuf_dev (s : State) (b : Fin 16) : (endBuf s b).dev = s.dev :=
  same_of_drop (m := 134217728) (endBuf_drop s b rfl) .dev rfl
@[simp] theorem endBuf_eng (s : State) (b : Fin 16) : (endBuf s b).eng = s.eng :=
  same_of_drop (m := 134217728) (endBuf_drop s b rfl) .eng rfl
@[simp] theorem endBuf_img (s : State) (b : Fin 16) : (endBuf s b).img = s.img :=
  same_of_drop (m := 134217728) (endBuf_drop s b rfl) .img rfl
@[simp] theorem endBuf_spl (s : State) (b : Fin 16) : (endBuf s b).spl = s.spl :=
  same_of_drop (m := 134217728) (endBuf_drop s b rfl) .spl rfl
@[simp] theorem endBuf_tim (s : State) (b : Fin 16) : (endBuf s b).tim = s.tim :=
  same_of_drop (m := 134217728) (endBuf_drop s b rfl) .tim rfl
@[simp] theorem endBuf_arm (s : State) (b : Fin 16) : (endBuf s b).arm = s.arm :=
  same_of_drop (m := 134217728) (endBuf_drop s b rfl) .arm rfl
@[simp] theorem endBuf_pwm (s : State) (b : Fin 16) : (endBuf s b).pwm = s.pwm :=
  same_of_drop (m := 134217728) (endBuf_drop s b rfl) .pwm rfl
@[simp] theorem endBuf_glk (s : State) (b : Fin 16) : (endBuf s b).glk = s.glk :=
  same_of_drop (m := 134217728) (endBuf_drop s b rfl) .glk rfl
@[simp] theorem endBuf_chA (s : State) (b : Fin 16) : (endBuf s b).chA = s.chA :=
  same_of_drop (m := 134217728) (endBuf_drop s b rfl) .chA rfl
@[simp] theorem endBuf_chB (s : State) (b : Fin 16) : (endBuf s b).chB = s.chB :=
  same_of_drop (m := 134217728) (endBuf_drop s b rfl) .chB rfl
@[simp] theorem endBuf_snA (s : State) (b : Fin 16) : (endBuf s b).snA = s.snA :=
  same_of_drop (m := 134217728) (endBuf_drop s b rfl) .snA rfl
@[simp] theorem endBuf_snB (s : State) (b : Fin 16) : (endBuf s b).snB = s.snB :=
  same_of_drop (m := 134217728) (endBuf_drop s b rfl) .snB rfl
@[simp] theorem endBuf_esA (s : State) (b : Fin 16) : (endBuf s b).esA = s.esA :=
  same_of_drop (m := 134217728) (endBuf_drop s b rfl) .esA rfl
@[simp] theorem endBuf_esB (s : State) (b : Fin 16) : (endBuf s b).esB = s.esB :=
  same_of_drop (m := 134217728) (endBuf_drop s b rfl) .esB rfl
@[simp] theorem endBuf_est (s : State) (b : Fin 16) : (endBuf s b).est = s.est :=
  same_of_drop (m := 134217728) (endBuf_drop s b rfl) .est rfl
@[simp] theorem endBuf_thm (s : State) (b : Fin 16) : (endBuf s b).thm = s.thm :=
  same_of_drop (m := 134217728) (endBuf_drop s b rfl) .thm rfl
@[simp] theorem endBuf_prt (s : State) (b : Fin 16) : (endBuf s b).prt = s.prt :=
  same_of_drop (m := 134217728) (endBuf_drop s b rfl) .prt rfl
@[simp] theorem endBuf_dvt (s : State) (b : Fin 16) : (endBuf s b).dvt = s.dvt :=
  same_of_drop (m := 134217728) (endBuf_drop s b rfl) .dvt rfl
@[simp] theorem endBuf_lsw (s : State) (b : Fin 16) : (endBuf s b).lsw = s.lsw :=
  same_of_drop (m := 134217728) (endBuf_drop s b rfl) .lsw rfl
@[simp] theorem endBuf_pwr (s : State) (b : Fin 16) : (endBuf s b).pwr = s.pwr :=
  same_of_drop (m := 134217728) (endBuf_drop s b rfl) .pwr rfl
@[simp] theorem endBuf_sec (s : State) (b : Fin 16) : (endBuf s b).sec = s.sec :=
  same_of_drop (m := 134217728) (endBuf_drop s b rfl) .sec rfl
@[simp] theorem endBuf_mnt (s : State) (b : Fin 16) : (endBuf s b).mnt = s.mnt :=
  same_of_drop (m := 134217728) (endBuf_drop s b rfl) .mnt rfl
@[simp] theorem endBuf_evt (s : State) (b : Fin 16) : (endBuf s b).evt = s.evt :=
  same_of_drop (m := 134217728) (endBuf_drop s b rfl) .evt rfl
@[simp] theorem endBuf_outbox (s : State) (b : Fin 16) : (endBuf s b).outbox = s.outbox :=
  same_of_drop (m := 134217728) (endBuf_drop s b rfl) .outbox rfl
@[simp] theorem loadBuf_dev (s : State) (b : Fin 16) (f : CanFrame) : (loadBuf s b f).dev = s.dev :=
  same_of_drop (m := 134217728) (loadBuf_drop s b f rfl) .dev rfl
@[simp] theorem loadBuf_eng (s : State) (b : Fin 16) (f : CanFrame) : (loadBuf s b f).eng = s.eng :=
  same_of_drop (m := 134217728) (loadBuf_drop s b f rfl) .eng rfl
@[simp] theorem loadBuf_img (s : State) (b : Fin 16) (f : CanFrame) : (loadBuf s b f).img = s.img :=
  same_of_drop (m := 134217728) (loadBuf_drop s b f rfl) .img rfl
@[simp] theorem loadBuf_spl (s : State) (b : Fin 16) (f : CanFrame) : (loadBuf s b f).spl = s.spl :=
  same_of_drop (m := 134217728) (loadBuf_drop s b f rfl) .spl rfl
@[simp] theorem loadBuf_tim (s : State) (b : Fin 16) (f : CanFrame) : (loadBuf s b f).tim = s.tim :=
  same_of_drop (m := 134217728) (loadBuf_drop s b f rfl) .tim rfl
@[simp] theorem loadBuf_arm (s : State) (b : Fin 16) (f : CanFrame) : (loadBuf s b f).arm = s.arm :=
  same_of_drop (m := 134217728) (loadBuf_drop s b f rfl) .arm rfl
@[simp] theorem loadBuf_pwm (s : State) (b : Fin 16) (f : CanFrame) : (loadBuf s b f).pwm = s.pwm :=
  same_of_drop (m := 134217728) (loadBuf_drop s b f rfl) .pwm rfl
@[simp] theorem loadBuf_glk (s : State) (b : Fin 16) (f : CanFrame) : (loadBuf s b f).glk = s.glk :=
  same_of_drop (m := 134217728) (loadBuf_drop s b f rfl) .glk rfl
@[simp] theorem loadBuf_chA (s : State) (b : Fin 16) (f : CanFrame) : (loadBuf s b f).chA = s.chA :=
  same_of_drop (m := 134217728) (loadBuf_drop s b f rfl) .chA rfl
@[simp] theorem loadBuf_chB (s : State) (b : Fin 16) (f : CanFrame) : (loadBuf s b f).chB = s.chB :=
  same_of_drop (m := 134217728) (loadBuf_drop s b f rfl) .chB rfl
@[simp] theorem loadBuf_snA (s : State) (b : Fin 16) (f : CanFrame) : (loadBuf s b f).snA = s.snA :=
  same_of_drop (m := 134217728) (loadBuf_drop s b f rfl) .snA rfl
@[simp] theorem loadBuf_snB (s : State) (b : Fin 16) (f : CanFrame) : (loadBuf s b f).snB = s.snB :=
  same_of_drop (m := 134217728) (loadBuf_drop s b f rfl) .snB rfl
@[simp] theorem loadBuf_esA (s : State) (b : Fin 16) (f : CanFrame) : (loadBuf s b f).esA = s.esA :=
  same_of_drop (m := 134217728) (loadBuf_drop s b f rfl) .esA rfl
@[simp] theorem loadBuf_esB (s : State) (b : Fin 16) (f : CanFrame) : (loadBuf s b f).esB = s.esB :=
  same_of_drop (m := 134217728) (loadBuf_drop s b f rfl) .esB rfl
@[simp] theorem loadBuf_est (s : State) (b : Fin 16) (f : CanFrame) : (loadBuf s b f).est = s.est :=
  same_of_drop (m := 134217728) (loadBuf_drop s b f rfl) .est rfl
@[simp] theorem loadBuf_thm (s : State) (b : Fin 16) (f : CanFrame) : (loadBuf s b f).thm = s.thm :=
  same_of_drop (m := 134217728) (loadBuf_drop s b f rfl) .thm rfl
@[simp] theorem loadBuf_prt (s : State) (b : Fin 16) (f : CanFrame) : (loadBuf s b f).prt = s.prt :=
  same_of_drop (m := 134217728) (loadBuf_drop s b f rfl) .prt rfl
@[simp] theorem loadBuf_dvt (s : State) (b : Fin 16) (f : CanFrame) : (loadBuf s b f).dvt = s.dvt :=
  same_of_drop (m := 134217728) (loadBuf_drop s b f rfl) .dvt rfl
@[simp] theorem loadBuf_lsw (s : State) (b : Fin 16) (f : CanFrame) : (loadBuf s b f).lsw = s.lsw :=
  same_of_drop (m := 134217728) (loadBuf_drop s b f rfl) .lsw rfl
@[simp] theorem loadBuf_pwr (s : State) (b : Fin 16) (f : CanFrame) : (loadBuf s b f).pwr = s.pwr :=
  same_of_drop (m := 134217728) (loadBuf_drop s b f rfl) .pwr rfl
@[simp] theorem loadBuf_sec (s : State) (b : Fin 16) (f : CanFrame) : (loadBuf s b f).sec = s.sec :=
  same_of_drop (m := 134217728) (loadBuf_drop s b f rfl) .sec rfl
@[simp] theorem loadBuf_mnt (s : State) (b : Fin 16) (f : CanFrame) : (loadBuf s b f).mnt = s.mnt :=
  same_of_drop (m := 134217728) (loadBuf_drop s b f rfl) .mnt rfl
@[simp] theorem loadBuf_evt (s : State) (b : Fin 16) (f : CanFrame) : (loadBuf s b f).evt = s.evt :=
  same_of_drop (m := 134217728) (loadBuf_drop s b f rfl) .evt rfl
@[simp] theorem loadBuf_outbox (s : State) (b : Fin 16) (f : CanFrame) : (loadBuf s b f).outbox = s.outbox :=
  same_of_drop (m := 134217728) (loadBuf_drop s b f rfl) .outbox rfl
@[simp] theorem cancelBuf_dev (s : State) (b : Fin 16) : (cancelBuf s b).dev = s.dev :=
  same_of_drop (m := 134217728) (cancelBuf_drop s b rfl) .dev rfl
@[simp] theorem cancelBuf_eng (s : State) (b : Fin 16) : (cancelBuf s b).eng = s.eng :=
  same_of_drop (m := 134217728) (cancelBuf_drop s b rfl) .eng rfl
@[simp] theorem cancelBuf_img (s : State) (b : Fin 16) : (cancelBuf s b).img = s.img :=
  same_of_drop (m := 134217728) (cancelBuf_drop s b rfl) .img rfl
@[simp] theorem cancelBuf_spl (s : State) (b : Fin 16) : (cancelBuf s b).spl = s.spl :=
  same_of_drop (m := 134217728) (cancelBuf_drop s b rfl) .spl rfl
@[simp] theorem cancelBuf_tim (s : State) (b : Fin 16) : (cancelBuf s b).tim = s.tim :=
  same_of_drop (m := 134217728) (cancelBuf_drop s b rfl) .tim rfl
@[simp] theorem cancelBuf_arm (s : State) (b : Fin 16) : (cancelBuf s b).arm = s.arm :=
  same_of_drop (m := 134217728) (cancelBuf_drop s b rfl) .arm rfl
@[simp] theorem cancelBuf_pwm (s : State) (b : Fin 16) : (cancelBuf s b).pwm = s.pwm :=
  same_of_drop (m := 134217728) (cancelBuf_drop s b rfl) .pwm rfl
@[simp] theorem cancelBuf_glk (s : State) (b : Fin 16) : (cancelBuf s b).glk = s.glk :=
  same_of_drop (m := 134217728) (cancelBuf_drop s b rfl) .glk rfl
@[simp] theorem cancelBuf_chA (s : State) (b : Fin 16) : (cancelBuf s b).chA = s.chA :=
  same_of_drop (m := 134217728) (cancelBuf_drop s b rfl) .chA rfl
@[simp] theorem cancelBuf_chB (s : State) (b : Fin 16) : (cancelBuf s b).chB = s.chB :=
  same_of_drop (m := 134217728) (cancelBuf_drop s b rfl) .chB rfl
@[simp] theorem cancelBuf_snA (s : State) (b : Fin 16) : (cancelBuf s b).snA = s.snA :=
  same_of_drop (m := 134217728) (cancelBuf_drop s b rfl) .snA rfl
@[simp] theorem cancelBuf_snB (s : State) (b : Fin 16) : (cancelBuf s b).snB = s.snB :=
  same_of_drop (m := 134217728) (cancelBuf_drop s b rfl) .snB rfl
@[simp] theorem cancelBuf_esA (s : State) (b : Fin 16) : (cancelBuf s b).esA = s.esA :=
  same_of_drop (m := 134217728) (cancelBuf_drop s b rfl) .esA rfl
@[simp] theorem cancelBuf_esB (s : State) (b : Fin 16) : (cancelBuf s b).esB = s.esB :=
  same_of_drop (m := 134217728) (cancelBuf_drop s b rfl) .esB rfl
@[simp] theorem cancelBuf_est (s : State) (b : Fin 16) : (cancelBuf s b).est = s.est :=
  same_of_drop (m := 134217728) (cancelBuf_drop s b rfl) .est rfl
@[simp] theorem cancelBuf_thm (s : State) (b : Fin 16) : (cancelBuf s b).thm = s.thm :=
  same_of_drop (m := 134217728) (cancelBuf_drop s b rfl) .thm rfl
@[simp] theorem cancelBuf_prt (s : State) (b : Fin 16) : (cancelBuf s b).prt = s.prt :=
  same_of_drop (m := 134217728) (cancelBuf_drop s b rfl) .prt rfl
@[simp] theorem cancelBuf_dvt (s : State) (b : Fin 16) : (cancelBuf s b).dvt = s.dvt :=
  same_of_drop (m := 134217728) (cancelBuf_drop s b rfl) .dvt rfl
@[simp] theorem cancelBuf_lsw (s : State) (b : Fin 16) : (cancelBuf s b).lsw = s.lsw :=
  same_of_drop (m := 134217728) (cancelBuf_drop s b rfl) .lsw rfl
@[simp] theorem cancelBuf_pwr (s : State) (b : Fin 16) : (cancelBuf s b).pwr = s.pwr :=
  same_of_drop (m := 134217728) (cancelBuf_drop s b rfl) .pwr rfl
@[simp] theorem cancelBuf_sec (s : State) (b : Fin 16) : (cancelBuf s b).sec = s.sec :=
  same_of_drop (m := 134217728) (cancelBuf_drop s b rfl) .sec rfl
@[simp] theorem cancelBuf_mnt (s : State) (b : Fin 16) : (cancelBuf s b).mnt = s.mnt :=
  same_of_drop (m := 134217728) (cancelBuf_drop s b rfl) .mnt rfl
@[simp] theorem cancelBuf_evt (s : State) (b : Fin 16) : (cancelBuf s b).evt = s.evt :=
  same_of_drop (m := 134217728) (cancelBuf_drop s b rfl) .evt rfl
@[simp] theorem cancelBuf_outbox (s : State) (b : Fin 16) : (cancelBuf s b).outbox = s.outbox :=
  same_of_drop (m := 134217728) (cancelBuf_drop s b rfl) .outbox rfl
@[simp] theorem settleErr_dev (s : State) : (settleErr s).dev = s.dev :=
  same_of_drop (m := 8724152320) (settleErr_drop s rfl) .dev rfl
@[simp] theorem settleErr_eng (s : State) : (settleErr s).eng = s.eng :=
  same_of_drop (m := 8724152320) (settleErr_drop s rfl) .eng rfl
@[simp] theorem settleErr_img (s : State) : (settleErr s).img = s.img :=
  same_of_drop (m := 8724152320) (settleErr_drop s rfl) .img rfl
@[simp] theorem settleErr_spl (s : State) : (settleErr s).spl = s.spl :=
  same_of_drop (m := 8724152320) (settleErr_drop s rfl) .spl rfl
@[simp] theorem settleErr_tim (s : State) : (settleErr s).tim = s.tim :=
  same_of_drop (m := 8724152320) (settleErr_drop s rfl) .tim rfl
@[simp] theorem settleErr_arm (s : State) : (settleErr s).arm = s.arm :=
  same_of_drop (m := 8724152320) (settleErr_drop s rfl) .arm rfl
@[simp] theorem settleErr_pwm (s : State) : (settleErr s).pwm = s.pwm :=
  same_of_drop (m := 8724152320) (settleErr_drop s rfl) .pwm rfl
@[simp] theorem settleErr_glk (s : State) : (settleErr s).glk = s.glk :=
  same_of_drop (m := 8724152320) (settleErr_drop s rfl) .glk rfl
@[simp] theorem settleErr_chA (s : State) : (settleErr s).chA = s.chA :=
  same_of_drop (m := 8724152320) (settleErr_drop s rfl) .chA rfl
@[simp] theorem settleErr_chB (s : State) : (settleErr s).chB = s.chB :=
  same_of_drop (m := 8724152320) (settleErr_drop s rfl) .chB rfl
@[simp] theorem settleErr_snA (s : State) : (settleErr s).snA = s.snA :=
  same_of_drop (m := 8724152320) (settleErr_drop s rfl) .snA rfl
@[simp] theorem settleErr_snB (s : State) : (settleErr s).snB = s.snB :=
  same_of_drop (m := 8724152320) (settleErr_drop s rfl) .snB rfl
@[simp] theorem settleErr_esA (s : State) : (settleErr s).esA = s.esA :=
  same_of_drop (m := 8724152320) (settleErr_drop s rfl) .esA rfl
@[simp] theorem settleErr_esB (s : State) : (settleErr s).esB = s.esB :=
  same_of_drop (m := 8724152320) (settleErr_drop s rfl) .esB rfl
@[simp] theorem settleErr_est (s : State) : (settleErr s).est = s.est :=
  same_of_drop (m := 8724152320) (settleErr_drop s rfl) .est rfl
@[simp] theorem settleErr_thm (s : State) : (settleErr s).thm = s.thm :=
  same_of_drop (m := 8724152320) (settleErr_drop s rfl) .thm rfl
@[simp] theorem settleErr_prt (s : State) : (settleErr s).prt = s.prt :=
  same_of_drop (m := 8724152320) (settleErr_drop s rfl) .prt rfl
@[simp] theorem settleErr_dvt (s : State) : (settleErr s).dvt = s.dvt :=
  same_of_drop (m := 8724152320) (settleErr_drop s rfl) .dvt rfl
@[simp] theorem settleErr_lsw (s : State) : (settleErr s).lsw = s.lsw :=
  same_of_drop (m := 8724152320) (settleErr_drop s rfl) .lsw rfl
@[simp] theorem settleErr_pwr (s : State) : (settleErr s).pwr = s.pwr :=
  same_of_drop (m := 8724152320) (settleErr_drop s rfl) .pwr rfl
@[simp] theorem settleErr_sec (s : State) : (settleErr s).sec = s.sec :=
  same_of_drop (m := 8724152320) (settleErr_drop s rfl) .sec rfl
@[simp] theorem settleErr_mnt (s : State) : (settleErr s).mnt = s.mnt :=
  same_of_drop (m := 8724152320) (settleErr_drop s rfl) .mnt rfl
@[simp] theorem settleErr_outbox (s : State) : (settleErr s).outbox = s.outbox :=
  same_of_drop (m := 8724152320) (settleErr_drop s rfl) .outbox rfl
@[simp] theorem deliver_dev (s : State) (f : CanFrame) (filter : Nat) (wake : Bool) : (deliver s f filter wake).dev = s.dev :=
  same_of_drop (m := 8724152328) (deliver_drop s f filter wake rfl) .dev rfl
@[simp] theorem deliver_img (s : State) (f : CanFrame) (filter : Nat) (wake : Bool) : (deliver s f filter wake).img = s.img :=
  same_of_drop (m := 8724152328) (deliver_drop s f filter wake rfl) .img rfl
@[simp] theorem deliver_spl (s : State) (f : CanFrame) (filter : Nat) (wake : Bool) : (deliver s f filter wake).spl = s.spl :=
  same_of_drop (m := 8724152328) (deliver_drop s f filter wake rfl) .spl rfl
@[simp] theorem deliver_tim (s : State) (f : CanFrame) (filter : Nat) (wake : Bool) : (deliver s f filter wake).tim = s.tim :=
  same_of_drop (m := 8724152328) (deliver_drop s f filter wake rfl) .tim rfl
@[simp] theorem deliver_arm (s : State) (f : CanFrame) (filter : Nat) (wake : Bool) : (deliver s f filter wake).arm = s.arm :=
  same_of_drop (m := 8724152328) (deliver_drop s f filter wake rfl) .arm rfl
@[simp] theorem deliver_pwm (s : State) (f : CanFrame) (filter : Nat) (wake : Bool) : (deliver s f filter wake).pwm = s.pwm :=
  same_of_drop (m := 8724152328) (deliver_drop s f filter wake rfl) .pwm rfl
@[simp] theorem deliver_glk (s : State) (f : CanFrame) (filter : Nat) (wake : Bool) : (deliver s f filter wake).glk = s.glk :=
  same_of_drop (m := 8724152328) (deliver_drop s f filter wake rfl) .glk rfl
@[simp] theorem deliver_chA (s : State) (f : CanFrame) (filter : Nat) (wake : Bool) : (deliver s f filter wake).chA = s.chA :=
  same_of_drop (m := 8724152328) (deliver_drop s f filter wake rfl) .chA rfl
@[simp] theorem deliver_chB (s : State) (f : CanFrame) (filter : Nat) (wake : Bool) : (deliver s f filter wake).chB = s.chB :=
  same_of_drop (m := 8724152328) (deliver_drop s f filter wake rfl) .chB rfl
@[simp] theorem deliver_snA (s : State) (f : CanFrame) (filter : Nat) (wake : Bool) : (deliver s f filter wake).snA = s.snA :=
  same_of_drop (m := 8724152328) (deliver_drop s f filter wake rfl) .snA rfl
@[simp] theorem deliver_snB (s : State) (f : CanFrame) (filter : Nat) (wake : Bool) : (deliver s f filter wake).snB = s.snB :=
  same_of_drop (m := 8724152328) (deliver_drop s f filter wake rfl) .snB rfl
@[simp] theorem deliver_esA (s : State) (f : CanFrame) (filter : Nat) (wake : Bool) : (deliver s f filter wake).esA = s.esA :=
  same_of_drop (m := 8724152328) (deliver_drop s f filter wake rfl) .esA rfl
@[simp] theorem deliver_esB (s : State) (f : CanFrame) (filter : Nat) (wake : Bool) : (deliver s f filter wake).esB = s.esB :=
  same_of_drop (m := 8724152328) (deliver_drop s f filter wake rfl) .esB rfl
@[simp] theorem deliver_est (s : State) (f : CanFrame) (filter : Nat) (wake : Bool) : (deliver s f filter wake).est = s.est :=
  same_of_drop (m := 8724152328) (deliver_drop s f filter wake rfl) .est rfl
@[simp] theorem deliver_thm (s : State) (f : CanFrame) (filter : Nat) (wake : Bool) : (deliver s f filter wake).thm = s.thm :=
  same_of_drop (m := 8724152328) (deliver_drop s f filter wake rfl) .thm rfl
@[simp] theorem deliver_prt (s : State) (f : CanFrame) (filter : Nat) (wake : Bool) : (deliver s f filter wake).prt = s.prt :=
  same_of_drop (m := 8724152328) (deliver_drop s f filter wake rfl) .prt rfl
@[simp] theorem deliver_dvt (s : State) (f : CanFrame) (filter : Nat) (wake : Bool) : (deliver s f filter wake).dvt = s.dvt :=
  same_of_drop (m := 8724152328) (deliver_drop s f filter wake rfl) .dvt rfl
@[simp] theorem deliver_lsw (s : State) (f : CanFrame) (filter : Nat) (wake : Bool) : (deliver s f filter wake).lsw = s.lsw :=
  same_of_drop (m := 8724152328) (deliver_drop s f filter wake rfl) .lsw rfl
@[simp] theorem deliver_pwr (s : State) (f : CanFrame) (filter : Nat) (wake : Bool) : (deliver s f filter wake).pwr = s.pwr :=
  same_of_drop (m := 8724152328) (deliver_drop s f filter wake rfl) .pwr rfl
@[simp] theorem deliver_sec (s : State) (f : CanFrame) (filter : Nat) (wake : Bool) : (deliver s f filter wake).sec = s.sec :=
  same_of_drop (m := 8724152328) (deliver_drop s f filter wake rfl) .sec rfl
@[simp] theorem deliver_mnt (s : State) (f : CanFrame) (filter : Nat) (wake : Bool) : (deliver s f filter wake).mnt = s.mnt :=
  same_of_drop (m := 8724152328) (deliver_drop s f filter wake rfl) .mnt rfl
@[simp] theorem deliver_outbox (s : State) (f : CanFrame) (filter : Nat) (wake : Bool) : (deliver s f filter wake).outbox = s.outbox :=
  same_of_drop (m := 8724152328) (deliver_drop s f filter wake rfl) .outbox rfl
@[simp] theorem retryBuf_dev (s : State) (b : Fin 16) : (retryBuf s b).dev = s.dev :=
  same_of_drop (m := 134217728) (retryBuf_drop s b rfl) .dev rfl
@[simp] theorem retryBuf_eng (s : State) (b : Fin 16) : (retryBuf s b).eng = s.eng :=
  same_of_drop (m := 134217728) (retryBuf_drop s b rfl) .eng rfl
@[simp] theorem retryBuf_img (s : State) (b : Fin 16) : (retryBuf s b).img = s.img :=
  same_of_drop (m := 134217728) (retryBuf_drop s b rfl) .img rfl
@[simp] theorem retryBuf_spl (s : State) (b : Fin 16) : (retryBuf s b).spl = s.spl :=
  same_of_drop (m := 134217728) (retryBuf_drop s b rfl) .spl rfl
@[simp] theorem retryBuf_tim (s : State) (b : Fin 16) : (retryBuf s b).tim = s.tim :=
  same_of_drop (m := 134217728) (retryBuf_drop s b rfl) .tim rfl
@[simp] theorem retryBuf_arm (s : State) (b : Fin 16) : (retryBuf s b).arm = s.arm :=
  same_of_drop (m := 134217728) (retryBuf_drop s b rfl) .arm rfl
@[simp] theorem retryBuf_pwm (s : State) (b : Fin 16) : (retryBuf s b).pwm = s.pwm :=
  same_of_drop (m := 134217728) (retryBuf_drop s b rfl) .pwm rfl
@[simp] theorem retryBuf_glk (s : State) (b : Fin 16) : (retryBuf s b).glk = s.glk :=
  same_of_drop (m := 134217728) (retryBuf_drop s b rfl) .glk rfl
@[simp] theorem retryBuf_chA (s : State) (b : Fin 16) : (retryBuf s b).chA = s.chA :=
  same_of_drop (m := 134217728) (retryBuf_drop s b rfl) .chA rfl
@[simp] theorem retryBuf_chB (s : State) (b : Fin 16) : (retryBuf s b).chB = s.chB :=
  same_of_drop (m := 134217728) (retryBuf_drop s b rfl) .chB rfl
@[simp] theorem retryBuf_snA (s : State) (b : Fin 16) : (retryBuf s b).snA = s.snA :=
  same_of_drop (m := 134217728) (retryBuf_drop s b rfl) .snA rfl
@[simp] theorem retryBuf_snB (s : State) (b : Fin 16) : (retryBuf s b).snB = s.snB :=
  same_of_drop (m := 134217728) (retryBuf_drop s b rfl) .snB rfl
@[simp] theorem retryBuf_esA (s : State) (b : Fin 16) : (retryBuf s b).esA = s.esA :=
  same_of_drop (m := 134217728) (retryBuf_drop s b rfl) .esA rfl
@[simp] theorem retryBuf_esB (s : State) (b : Fin 16) : (retryBuf s b).esB = s.esB :=
  same_of_drop (m := 134217728) (retryBuf_drop s b rfl) .esB rfl
@[simp] theorem retryBuf_est (s : State) (b : Fin 16) : (retryBuf s b).est = s.est :=
  same_of_drop (m := 134217728) (retryBuf_drop s b rfl) .est rfl
@[simp] theorem retryBuf_thm (s : State) (b : Fin 16) : (retryBuf s b).thm = s.thm :=
  same_of_drop (m := 134217728) (retryBuf_drop s b rfl) .thm rfl
@[simp] theorem retryBuf_prt (s : State) (b : Fin 16) : (retryBuf s b).prt = s.prt :=
  same_of_drop (m := 134217728) (retryBuf_drop s b rfl) .prt rfl
@[simp] theorem retryBuf_dvt (s : State) (b : Fin 16) : (retryBuf s b).dvt = s.dvt :=
  same_of_drop (m := 134217728) (retryBuf_drop s b rfl) .dvt rfl
@[simp] theorem retryBuf_lsw (s : State) (b : Fin 16) : (retryBuf s b).lsw = s.lsw :=
  same_of_drop (m := 134217728) (retryBuf_drop s b rfl) .lsw rfl
@[simp] theorem retryBuf_pwr (s : State) (b : Fin 16) : (retryBuf s b).pwr = s.pwr :=
  same_of_drop (m := 134217728) (retryBuf_drop s b rfl) .pwr rfl
@[simp] theorem retryBuf_sec (s : State) (b : Fin 16) : (retryBuf s b).sec = s.sec :=
  same_of_drop (m := 134217728) (retryBuf_drop s b rfl) .sec rfl
@[simp] theorem retryBuf_mnt (s : State) (b : Fin 16) : (retryBuf s b).mnt = s.mnt :=
  same_of_drop (m := 134217728) (retryBuf_drop s b rfl) .mnt rfl
@[simp] theorem retryBuf_evt (s : State) (b : Fin 16) : (retryBuf s b).evt = s.evt :=
  same_of_drop (m := 134217728) (retryBuf_drop s b rfl) .evt rfl
@[simp] theorem retryBuf_outbox (s : State) (b : Fin 16) : (retryBuf s b).outbox = s.outbox :=
  same_of_drop (m := 134217728) (retryBuf_drop s b rfl) .outbox rfl
@[simp] theorem onBuf_dev (s : State) (b : Fin 16) (f : TxBuf → TxBuf) : (onBuf s b f).dev = s.dev :=
  same_of_drop (m := 134217728) (onBuf_drop s b f rfl) .dev rfl
@[simp] theorem onBuf_eng (s : State) (b : Fin 16) (f : TxBuf → TxBuf) : (onBuf s b f).eng = s.eng :=
  same_of_drop (m := 134217728) (onBuf_drop s b f rfl) .eng rfl
@[simp] theorem onBuf_img (s : State) (b : Fin 16) (f : TxBuf → TxBuf) : (onBuf s b f).img = s.img :=
  same_of_drop (m := 134217728) (onBuf_drop s b f rfl) .img rfl
@[simp] theorem onBuf_spl (s : State) (b : Fin 16) (f : TxBuf → TxBuf) : (onBuf s b f).spl = s.spl :=
  same_of_drop (m := 134217728) (onBuf_drop s b f rfl) .spl rfl
@[simp] theorem onBuf_tim (s : State) (b : Fin 16) (f : TxBuf → TxBuf) : (onBuf s b f).tim = s.tim :=
  same_of_drop (m := 134217728) (onBuf_drop s b f rfl) .tim rfl
@[simp] theorem onBuf_arm (s : State) (b : Fin 16) (f : TxBuf → TxBuf) : (onBuf s b f).arm = s.arm :=
  same_of_drop (m := 134217728) (onBuf_drop s b f rfl) .arm rfl
@[simp] theorem onBuf_pwm (s : State) (b : Fin 16) (f : TxBuf → TxBuf) : (onBuf s b f).pwm = s.pwm :=
  same_of_drop (m := 134217728) (onBuf_drop s b f rfl) .pwm rfl
@[simp] theorem onBuf_glk (s : State) (b : Fin 16) (f : TxBuf → TxBuf) : (onBuf s b f).glk = s.glk :=
  same_of_drop (m := 134217728) (onBuf_drop s b f rfl) .glk rfl
@[simp] theorem onBuf_chA (s : State) (b : Fin 16) (f : TxBuf → TxBuf) : (onBuf s b f).chA = s.chA :=
  same_of_drop (m := 134217728) (onBuf_drop s b f rfl) .chA rfl
@[simp] theorem onBuf_chB (s : State) (b : Fin 16) (f : TxBuf → TxBuf) : (onBuf s b f).chB = s.chB :=
  same_of_drop (m := 134217728) (onBuf_drop s b f rfl) .chB rfl
@[simp] theorem onBuf_snA (s : State) (b : Fin 16) (f : TxBuf → TxBuf) : (onBuf s b f).snA = s.snA :=
  same_of_drop (m := 134217728) (onBuf_drop s b f rfl) .snA rfl
@[simp] theorem onBuf_snB (s : State) (b : Fin 16) (f : TxBuf → TxBuf) : (onBuf s b f).snB = s.snB :=
  same_of_drop (m := 134217728) (onBuf_drop s b f rfl) .snB rfl
@[simp] theorem onBuf_esA (s : State) (b : Fin 16) (f : TxBuf → TxBuf) : (onBuf s b f).esA = s.esA :=
  same_of_drop (m := 134217728) (onBuf_drop s b f rfl) .esA rfl
@[simp] theorem onBuf_esB (s : State) (b : Fin 16) (f : TxBuf → TxBuf) : (onBuf s b f).esB = s.esB :=
  same_of_drop (m := 134217728) (onBuf_drop s b f rfl) .esB rfl
@[simp] theorem onBuf_est (s : State) (b : Fin 16) (f : TxBuf → TxBuf) : (onBuf s b f).est = s.est :=
  same_of_drop (m := 134217728) (onBuf_drop s b f rfl) .est rfl
@[simp] theorem onBuf_thm (s : State) (b : Fin 16) (f : TxBuf → TxBuf) : (onBuf s b f).thm = s.thm :=
  same_of_drop (m := 134217728) (onBuf_drop s b f rfl) .thm rfl
@[simp] theorem onBuf_prt (s : State) (b : Fin 16) (f : TxBuf → TxBuf) : (onBuf s b f).prt = s.prt :=
  same_of_drop (m := 134217728) (onBuf_drop s b f rfl) .prt rfl
@[simp] theorem onBuf_dvt (s : State) (b : Fin 16) (f : TxBuf → TxBuf) : (onBuf s b f).dvt = s.dvt :=
  same_of_drop (m := 134217728) (onBuf_drop s b f rfl) .dvt rfl
@[simp] theorem onBuf_lsw (s : State) (b : Fin 16) (f : TxBuf → TxBuf) : (onBuf s b f).lsw = s.lsw :=
  same_of_drop (m := 134217728) (onBuf_drop s b f rfl) .lsw rfl
@[simp] theorem onBuf_pwr (s : State) (b : Fin 16) (f : TxBuf → TxBuf) : (onBuf s b f).pwr = s.pwr :=
  same_of_drop (m := 134217728) (onBuf_drop s b f rfl) .pwr rfl
@[simp] theorem onBuf_sec (s : State) (b : Fin 16) (f : TxBuf → TxBuf) : (onBuf s b f).sec = s.sec :=
  same_of_drop (m := 134217728) (onBuf_drop s b f rfl) .sec rfl
@[simp] theorem onBuf_mnt (s : State) (b : Fin 16) (f : TxBuf → TxBuf) : (onBuf s b f).mnt = s.mnt :=
  same_of_drop (m := 134217728) (onBuf_drop s b f rfl) .mnt rfl
@[simp] theorem onBuf_evt (s : State) (b : Fin 16) (f : TxBuf → TxBuf) : (onBuf s b f).evt = s.evt :=
  same_of_drop (m := 134217728) (onBuf_drop s b f rfl) .evt rfl
@[simp] theorem onBuf_outbox (s : State) (b : Fin 16) (f : TxBuf → TxBuf) : (onBuf s b f).outbox = s.outbox :=
  same_of_drop (m := 134217728) (onBuf_drop s b f rfl) .outbox rfl
@[simp] theorem failedAttempt_dev (s : State) (n : Fin 12) : (failedAttempt s n).dev = s.dev :=
  same_of_drop (m := 12961415168) (failedAttempt_drop s n rfl) .dev rfl
@[simp] theorem failedAttempt_eng (s : State) (n : Fin 12) : (failedAttempt s n).eng = s.eng :=
  same_of_drop (m := 12961415168) (failedAttempt_drop s n rfl) .eng rfl
@[simp] theorem failedAttempt_img (s : State) (n : Fin 12) : (failedAttempt s n).img = s.img :=
  same_of_drop (m := 12961415168) (failedAttempt_drop s n rfl) .img rfl
@[simp] theorem failedAttempt_spl (s : State) (n : Fin 12) : (failedAttempt s n).spl = s.spl :=
  same_of_drop (m := 12961415168) (failedAttempt_drop s n rfl) .spl rfl
@[simp] theorem failedAttempt_tim (s : State) (n : Fin 12) : (failedAttempt s n).tim = s.tim :=
  same_of_drop (m := 12961415168) (failedAttempt_drop s n rfl) .tim rfl
@[simp] theorem failedAttempt_arm (s : State) (n : Fin 12) : (failedAttempt s n).arm = s.arm :=
  same_of_drop (m := 12961415168) (failedAttempt_drop s n rfl) .arm rfl
@[simp] theorem failedAttempt_pwm (s : State) (n : Fin 12) : (failedAttempt s n).pwm = s.pwm :=
  same_of_drop (m := 12961415168) (failedAttempt_drop s n rfl) .pwm rfl
@[simp] theorem failedAttempt_esA (s : State) (n : Fin 12) : (failedAttempt s n).esA = s.esA :=
  same_of_drop (m := 12961415168) (failedAttempt_drop s n rfl) .esA rfl
@[simp] theorem failedAttempt_esB (s : State) (n : Fin 12) : (failedAttempt s n).esB = s.esB :=
  same_of_drop (m := 12961415168) (failedAttempt_drop s n rfl) .esB rfl
@[simp] theorem failedAttempt_est (s : State) (n : Fin 12) : (failedAttempt s n).est = s.est :=
  same_of_drop (m := 12961415168) (failedAttempt_drop s n rfl) .est rfl
@[simp] theorem failedAttempt_prt (s : State) (n : Fin 12) : (failedAttempt s n).prt = s.prt :=
  same_of_drop (m := 12961415168) (failedAttempt_drop s n rfl) .prt rfl
@[simp] theorem failedAttempt_dvt (s : State) (n : Fin 12) : (failedAttempt s n).dvt = s.dvt :=
  same_of_drop (m := 12961415168) (failedAttempt_drop s n rfl) .dvt rfl
@[simp] theorem failedAttempt_lbus (s : State) (n : Fin 12) : (failedAttempt s n).lbus = s.lbus :=
  same_of_drop (m := 12961415168) (failedAttempt_drop s n rfl) .lbus rfl
@[simp] theorem failedAttempt_pwr (s : State) (n : Fin 12) : (failedAttempt s n).pwr = s.pwr :=
  same_of_drop (m := 12961415168) (failedAttempt_drop s n rfl) .pwr rfl
@[simp] theorem failedAttempt_sec (s : State) (n : Fin 12) : (failedAttempt s n).sec = s.sec :=
  same_of_drop (m := 12961415168) (failedAttempt_drop s n rfl) .sec rfl
@[simp] theorem failedAttempt_outbox (s : State) (n : Fin 12) : (failedAttempt s n).outbox = s.outbox :=
  same_of_drop (m := 12961415168) (failedAttempt_drop s n rfl) .outbox rfl
@[simp] theorem failedAttempt_glk_legA (s : State) (n : Fin 12) : (failedAttempt s n).glk.legA = s.glk.legA := by
  have h := same_of_drop (m := 12961415168) (failedAttempt_drop s n rfl) .legs rfl
  simp only [Block.same] at h; simp only [h]
@[simp] theorem failedAttempt_glk_legB (s : State) (n : Fin 12) : (failedAttempt s n).glk.legB = s.glk.legB := by
  have h := same_of_drop (m := 12961415168) (failedAttempt_drop s n rfl) .legs rfl
  simp only [Block.same] at h; simp only [h]
@[simp] theorem failedAttempt_glk_fireHold (s : State) (n : Fin 12) : (failedAttempt s n).glk.fireHold = s.glk.fireHold := by
  have h := same_of_drop (m := 12961415168) (failedAttempt_drop s n rfl) .switch rfl
  simp only [Block.same] at h; simp only [h]
@[simp] theorem failedAttempt_glk_fireAll (s : State) (n : Fin 12) : (failedAttempt s n).glk.fireAll = s.glk.fireAll := by
  have h := same_of_drop (m := 12961415168) (failedAttempt_drop s n rfl) .switch rfl
  simp only [Block.same] at h; simp only [h]
@[simp] theorem failedAttempt_glk_closeAsserted (s : State) (n : Fin 12) : (failedAttempt s n).glk.closeAsserted = s.glk.closeAsserted := by
  have h := same_of_drop (m := 12961415168) (failedAttempt_drop s n rfl) .switch rfl
  simp only [Block.same] at h; simp only [h]
@[simp] theorem failedAttempt_glk_closeDue (s : State) (n : Fin 12) : (failedAttempt s n).glk.closeDue = s.glk.closeDue := by
  have h := same_of_drop (m := 12961415168) (failedAttempt_drop s n rfl) .switch rfl
  simp only [Block.same] at h; simp only [h]
@[simp] theorem failedAttempt_glk_statClosed (s : State) (n : Fin 12) : (failedAttempt s n).glk.statClosed = s.glk.statClosed := by
  have h := same_of_drop (m := 12961415168) (failedAttempt_drop s n rfl) .switch rfl
  simp only [Block.same] at h; simp only [h]
@[simp] theorem failedAttempt_thm_sdHotA (s : State) (n : Fin 12) : (failedAttempt s n).thm.sdHotA = s.thm.sdHotA := by
  have h := same_of_drop (m := 12961415168) (failedAttempt_drop s n rfl) .shutdown rfl
  simp only [Block.same] at h; simp only [h]
@[simp] theorem failedAttempt_thm_sdHotB (s : State) (n : Fin 12) : (failedAttempt s n).thm.sdHotB = s.thm.sdHotB := by
  have h := same_of_drop (m := 12961415168) (failedAttempt_drop s n rfl) .shutdown rfl
  simp only [Block.same] at h; simp only [h]
@[simp] theorem failedAttempt_thm_sdColdA (s : State) (n : Fin 12) : (failedAttempt s n).thm.sdColdA = s.thm.sdColdA := by
  have h := same_of_drop (m := 12961415168) (failedAttempt_drop s n rfl) .shutdown rfl
  simp only [Block.same] at h; simp only [h]
@[simp] theorem failedAttempt_thm_sdColdB (s : State) (n : Fin 12) : (failedAttempt s n).thm.sdColdB = s.thm.sdColdB := by
  have h := same_of_drop (m := 12961415168) (failedAttempt_drop s n rfl) .shutdown rfl
  simp only [Block.same] at h; simp only [h]
@[simp] theorem shedChannel_dev (s : State) (cl : Fin 3) (n : Fin 12) : (shedChannel s cl n).dev = s.dev :=
  same_of_drop (m := 8657043456) (shedChannel_drop s cl n rfl) .dev rfl
@[simp] theorem shedChannel_eng (s : State) (cl : Fin 3) (n : Fin 12) : (shedChannel s cl n).eng = s.eng :=
  same_of_drop (m := 8657043456) (shedChannel_drop s cl n rfl) .eng rfl
@[simp] theorem shedChannel_img (s : State) (cl : Fin 3) (n : Fin 12) : (shedChannel s cl n).img = s.img :=
  same_of_drop (m := 8657043456) (shedChannel_drop s cl n rfl) .img rfl
@[simp] theorem shedChannel_spl (s : State) (cl : Fin 3) (n : Fin 12) : (shedChannel s cl n).spl = s.spl :=
  same_of_drop (m := 8657043456) (shedChannel_drop s cl n rfl) .spl rfl
@[simp] theorem shedChannel_tim (s : State) (cl : Fin 3) (n : Fin 12) : (shedChannel s cl n).tim = s.tim :=
  same_of_drop (m := 8657043456) (shedChannel_drop s cl n rfl) .tim rfl
@[simp] theorem shedChannel_arm (s : State) (cl : Fin 3) (n : Fin 12) : (shedChannel s cl n).arm = s.arm :=
  same_of_drop (m := 8657043456) (shedChannel_drop s cl n rfl) .arm rfl
@[simp] theorem shedChannel_pwm (s : State) (cl : Fin 3) (n : Fin 12) : (shedChannel s cl n).pwm = s.pwm :=
  same_of_drop (m := 8657043456) (shedChannel_drop s cl n rfl) .pwm rfl
@[simp] theorem shedChannel_glk (s : State) (cl : Fin 3) (n : Fin 12) : (shedChannel s cl n).glk = s.glk :=
  same_of_drop (m := 8657043456) (shedChannel_drop s cl n rfl) .glk rfl
@[simp] theorem shedChannel_chA (s : State) (cl : Fin 3) (n : Fin 12) : (shedChannel s cl n).chA = s.chA :=
  same_of_drop (m := 8657043456) (shedChannel_drop s cl n rfl) .chA rfl
@[simp] theorem shedChannel_chB (s : State) (cl : Fin 3) (n : Fin 12) : (shedChannel s cl n).chB = s.chB :=
  same_of_drop (m := 8657043456) (shedChannel_drop s cl n rfl) .chB rfl
@[simp] theorem shedChannel_snA (s : State) (cl : Fin 3) (n : Fin 12) : (shedChannel s cl n).snA = s.snA :=
  same_of_drop (m := 8657043456) (shedChannel_drop s cl n rfl) .snA rfl
@[simp] theorem shedChannel_snB (s : State) (cl : Fin 3) (n : Fin 12) : (shedChannel s cl n).snB = s.snB :=
  same_of_drop (m := 8657043456) (shedChannel_drop s cl n rfl) .snB rfl
@[simp] theorem shedChannel_esA (s : State) (cl : Fin 3) (n : Fin 12) : (shedChannel s cl n).esA = s.esA :=
  same_of_drop (m := 8657043456) (shedChannel_drop s cl n rfl) .esA rfl
@[simp] theorem shedChannel_esB (s : State) (cl : Fin 3) (n : Fin 12) : (shedChannel s cl n).esB = s.esB :=
  same_of_drop (m := 8657043456) (shedChannel_drop s cl n rfl) .esB rfl
@[simp] theorem shedChannel_est (s : State) (cl : Fin 3) (n : Fin 12) : (shedChannel s cl n).est = s.est :=
  same_of_drop (m := 8657043456) (shedChannel_drop s cl n rfl) .est rfl
@[simp] theorem shedChannel_thm (s : State) (cl : Fin 3) (n : Fin 12) : (shedChannel s cl n).thm = s.thm :=
  same_of_drop (m := 8657043456) (shedChannel_drop s cl n rfl) .thm rfl
@[simp] theorem shedChannel_prt (s : State) (cl : Fin 3) (n : Fin 12) : (shedChannel s cl n).prt = s.prt :=
  same_of_drop (m := 8657043456) (shedChannel_drop s cl n rfl) .prt rfl
@[simp] theorem shedChannel_dvt (s : State) (cl : Fin 3) (n : Fin 12) : (shedChannel s cl n).dvt = s.dvt :=
  same_of_drop (m := 8657043456) (shedChannel_drop s cl n rfl) .dvt rfl
@[simp] theorem shedChannel_lbus (s : State) (cl : Fin 3) (n : Fin 12) : (shedChannel s cl n).lbus = s.lbus :=
  same_of_drop (m := 8657043456) (shedChannel_drop s cl n rfl) .lbus rfl
@[simp] theorem shedChannel_pwr (s : State) (cl : Fin 3) (n : Fin 12) : (shedChannel s cl n).pwr = s.pwr :=
  same_of_drop (m := 8657043456) (shedChannel_drop s cl n rfl) .pwr rfl
@[simp] theorem shedChannel_sec (s : State) (cl : Fin 3) (n : Fin 12) : (shedChannel s cl n).sec = s.sec :=
  same_of_drop (m := 8657043456) (shedChannel_drop s cl n rfl) .sec rfl
@[simp] theorem shedChannel_mnt (s : State) (cl : Fin 3) (n : Fin 12) : (shedChannel s cl n).mnt = s.mnt :=
  same_of_drop (m := 8657043456) (shedChannel_drop s cl n rfl) .mnt rfl
@[simp] theorem shedChannel_outbox (s : State) (cl : Fin 3) (n : Fin 12) : (shedChannel s cl n).outbox = s.outbox :=
  same_of_drop (m := 8657043456) (shedChannel_drop s cl n rfl) .outbox rfl
@[simp] theorem shedNext_dev (s : State) (cl : Fin 3) : (shedNext s cl).dev = s.dev :=
  same_of_drop (m := 12961415168) (shedNext_drop s cl rfl) .dev rfl
@[simp] theorem shedNext_eng (s : State) (cl : Fin 3) : (shedNext s cl).eng = s.eng :=
  same_of_drop (m := 12961415168) (shedNext_drop s cl rfl) .eng rfl
@[simp] theorem shedNext_img (s : State) (cl : Fin 3) : (shedNext s cl).img = s.img :=
  same_of_drop (m := 12961415168) (shedNext_drop s cl rfl) .img rfl
@[simp] theorem shedNext_spl (s : State) (cl : Fin 3) : (shedNext s cl).spl = s.spl :=
  same_of_drop (m := 12961415168) (shedNext_drop s cl rfl) .spl rfl
@[simp] theorem shedNext_tim (s : State) (cl : Fin 3) : (shedNext s cl).tim = s.tim :=
  same_of_drop (m := 12961415168) (shedNext_drop s cl rfl) .tim rfl
@[simp] theorem shedNext_arm (s : State) (cl : Fin 3) : (shedNext s cl).arm = s.arm :=
  same_of_drop (m := 12961415168) (shedNext_drop s cl rfl) .arm rfl
@[simp] theorem shedNext_pwm (s : State) (cl : Fin 3) : (shedNext s cl).pwm = s.pwm :=
  same_of_drop (m := 12961415168) (shedNext_drop s cl rfl) .pwm rfl
@[simp] theorem shedNext_esA (s : State) (cl : Fin 3) : (shedNext s cl).esA = s.esA :=
  same_of_drop (m := 12961415168) (shedNext_drop s cl rfl) .esA rfl
@[simp] theorem shedNext_esB (s : State) (cl : Fin 3) : (shedNext s cl).esB = s.esB :=
  same_of_drop (m := 12961415168) (shedNext_drop s cl rfl) .esB rfl
@[simp] theorem shedNext_est (s : State) (cl : Fin 3) : (shedNext s cl).est = s.est :=
  same_of_drop (m := 12961415168) (shedNext_drop s cl rfl) .est rfl
@[simp] theorem shedNext_prt (s : State) (cl : Fin 3) : (shedNext s cl).prt = s.prt :=
  same_of_drop (m := 12961415168) (shedNext_drop s cl rfl) .prt rfl
@[simp] theorem shedNext_dvt (s : State) (cl : Fin 3) : (shedNext s cl).dvt = s.dvt :=
  same_of_drop (m := 12961415168) (shedNext_drop s cl rfl) .dvt rfl
@[simp] theorem shedNext_lbus (s : State) (cl : Fin 3) : (shedNext s cl).lbus = s.lbus :=
  same_of_drop (m := 12961415168) (shedNext_drop s cl rfl) .lbus rfl
@[simp] theorem shedNext_pwr (s : State) (cl : Fin 3) : (shedNext s cl).pwr = s.pwr :=
  same_of_drop (m := 12961415168) (shedNext_drop s cl rfl) .pwr rfl
@[simp] theorem shedNext_sec (s : State) (cl : Fin 3) : (shedNext s cl).sec = s.sec :=
  same_of_drop (m := 12961415168) (shedNext_drop s cl rfl) .sec rfl
@[simp] theorem shedNext_outbox (s : State) (cl : Fin 3) : (shedNext s cl).outbox = s.outbox :=
  same_of_drop (m := 12961415168) (shedNext_drop s cl rfl) .outbox rfl
@[simp] theorem shedNext_glk_legA (s : State) (cl : Fin 3) : (shedNext s cl).glk.legA = s.glk.legA := by
  have h := same_of_drop (m := 12961415168) (shedNext_drop s cl rfl) .legs rfl
  simp only [Block.same] at h; simp only [h]
@[simp] theorem shedNext_glk_legB (s : State) (cl : Fin 3) : (shedNext s cl).glk.legB = s.glk.legB := by
  have h := same_of_drop (m := 12961415168) (shedNext_drop s cl rfl) .legs rfl
  simp only [Block.same] at h; simp only [h]
@[simp] theorem shedNext_glk_fireHold (s : State) (cl : Fin 3) : (shedNext s cl).glk.fireHold = s.glk.fireHold := by
  have h := same_of_drop (m := 12961415168) (shedNext_drop s cl rfl) .switch rfl
  simp only [Block.same] at h; simp only [h]
@[simp] theorem shedNext_glk_fireAll (s : State) (cl : Fin 3) : (shedNext s cl).glk.fireAll = s.glk.fireAll := by
  have h := same_of_drop (m := 12961415168) (shedNext_drop s cl rfl) .switch rfl
  simp only [Block.same] at h; simp only [h]
@[simp] theorem shedNext_glk_closeAsserted (s : State) (cl : Fin 3) : (shedNext s cl).glk.closeAsserted = s.glk.closeAsserted := by
  have h := same_of_drop (m := 12961415168) (shedNext_drop s cl rfl) .switch rfl
  simp only [Block.same] at h; simp only [h]
@[simp] theorem shedNext_glk_closeDue (s : State) (cl : Fin 3) : (shedNext s cl).glk.closeDue = s.glk.closeDue := by
  have h := same_of_drop (m := 12961415168) (shedNext_drop s cl rfl) .switch rfl
  simp only [Block.same] at h; simp only [h]
@[simp] theorem shedNext_glk_statClosed (s : State) (cl : Fin 3) : (shedNext s cl).glk.statClosed = s.glk.statClosed := by
  have h := same_of_drop (m := 12961415168) (shedNext_drop s cl rfl) .switch rfl
  simp only [Block.same] at h; simp only [h]
@[simp] theorem shedNext_thm_sdHotA (s : State) (cl : Fin 3) : (shedNext s cl).thm.sdHotA = s.thm.sdHotA := by
  have h := same_of_drop (m := 12961415168) (shedNext_drop s cl rfl) .shutdown rfl
  simp only [Block.same] at h; simp only [h]
@[simp] theorem shedNext_thm_sdHotB (s : State) (cl : Fin 3) : (shedNext s cl).thm.sdHotB = s.thm.sdHotB := by
  have h := same_of_drop (m := 12961415168) (shedNext_drop s cl rfl) .shutdown rfl
  simp only [Block.same] at h; simp only [h]
@[simp] theorem shedNext_thm_sdColdA (s : State) (cl : Fin 3) : (shedNext s cl).thm.sdColdA = s.thm.sdColdA := by
  have h := same_of_drop (m := 12961415168) (shedNext_drop s cl rfl) .shutdown rfl
  simp only [Block.same] at h; simp only [h]
@[simp] theorem shedNext_thm_sdColdB (s : State) (cl : Fin 3) : (shedNext s cl).thm.sdColdB = s.thm.sdColdB := by
  have h := same_of_drop (m := 12961415168) (shedNext_drop s cl rfl) .shutdown rfl
  simp only [Block.same] at h; simp only [h]
@[simp] theorem restoreShed_dev (s : State) (cl : Fin 3) : (restoreShed s cl).dev = s.dev :=
  same_of_drop (m := 8657043456) (restoreShed_drop s cl rfl) .dev rfl
@[simp] theorem restoreShed_eng (s : State) (cl : Fin 3) : (restoreShed s cl).eng = s.eng :=
  same_of_drop (m := 8657043456) (restoreShed_drop s cl rfl) .eng rfl
@[simp] theorem restoreShed_img (s : State) (cl : Fin 3) : (restoreShed s cl).img = s.img :=
  same_of_drop (m := 8657043456) (restoreShed_drop s cl rfl) .img rfl
@[simp] theorem restoreShed_spl (s : State) (cl : Fin 3) : (restoreShed s cl).spl = s.spl :=
  same_of_drop (m := 8657043456) (restoreShed_drop s cl rfl) .spl rfl
@[simp] theorem restoreShed_tim (s : State) (cl : Fin 3) : (restoreShed s cl).tim = s.tim :=
  same_of_drop (m := 8657043456) (restoreShed_drop s cl rfl) .tim rfl
@[simp] theorem restoreShed_arm (s : State) (cl : Fin 3) : (restoreShed s cl).arm = s.arm :=
  same_of_drop (m := 8657043456) (restoreShed_drop s cl rfl) .arm rfl
@[simp] theorem restoreShed_pwm (s : State) (cl : Fin 3) : (restoreShed s cl).pwm = s.pwm :=
  same_of_drop (m := 8657043456) (restoreShed_drop s cl rfl) .pwm rfl
@[simp] theorem restoreShed_glk (s : State) (cl : Fin 3) : (restoreShed s cl).glk = s.glk :=
  same_of_drop (m := 8657043456) (restoreShed_drop s cl rfl) .glk rfl
@[simp] theorem restoreShed_chA (s : State) (cl : Fin 3) : (restoreShed s cl).chA = s.chA :=
  same_of_drop (m := 8657043456) (restoreShed_drop s cl rfl) .chA rfl
@[simp] theorem restoreShed_chB (s : State) (cl : Fin 3) : (restoreShed s cl).chB = s.chB :=
  same_of_drop (m := 8657043456) (restoreShed_drop s cl rfl) .chB rfl
@[simp] theorem restoreShed_snA (s : State) (cl : Fin 3) : (restoreShed s cl).snA = s.snA :=
  same_of_drop (m := 8657043456) (restoreShed_drop s cl rfl) .snA rfl
@[simp] theorem restoreShed_snB (s : State) (cl : Fin 3) : (restoreShed s cl).snB = s.snB :=
  same_of_drop (m := 8657043456) (restoreShed_drop s cl rfl) .snB rfl
@[simp] theorem restoreShed_esA (s : State) (cl : Fin 3) : (restoreShed s cl).esA = s.esA :=
  same_of_drop (m := 8657043456) (restoreShed_drop s cl rfl) .esA rfl
@[simp] theorem restoreShed_esB (s : State) (cl : Fin 3) : (restoreShed s cl).esB = s.esB :=
  same_of_drop (m := 8657043456) (restoreShed_drop s cl rfl) .esB rfl
@[simp] theorem restoreShed_est (s : State) (cl : Fin 3) : (restoreShed s cl).est = s.est :=
  same_of_drop (m := 8657043456) (restoreShed_drop s cl rfl) .est rfl
@[simp] theorem restoreShed_thm (s : State) (cl : Fin 3) : (restoreShed s cl).thm = s.thm :=
  same_of_drop (m := 8657043456) (restoreShed_drop s cl rfl) .thm rfl
@[simp] theorem restoreShed_prt (s : State) (cl : Fin 3) : (restoreShed s cl).prt = s.prt :=
  same_of_drop (m := 8657043456) (restoreShed_drop s cl rfl) .prt rfl
@[simp] theorem restoreShed_dvt (s : State) (cl : Fin 3) : (restoreShed s cl).dvt = s.dvt :=
  same_of_drop (m := 8657043456) (restoreShed_drop s cl rfl) .dvt rfl
@[simp] theorem restoreShed_lbus (s : State) (cl : Fin 3) : (restoreShed s cl).lbus = s.lbus :=
  same_of_drop (m := 8657043456) (restoreShed_drop s cl rfl) .lbus rfl
@[simp] theorem restoreShed_pwr (s : State) (cl : Fin 3) : (restoreShed s cl).pwr = s.pwr :=
  same_of_drop (m := 8657043456) (restoreShed_drop s cl rfl) .pwr rfl
@[simp] theorem restoreShed_sec (s : State) (cl : Fin 3) : (restoreShed s cl).sec = s.sec :=
  same_of_drop (m := 8657043456) (restoreShed_drop s cl rfl) .sec rfl
@[simp] theorem restoreShed_mnt (s : State) (cl : Fin 3) : (restoreShed s cl).mnt = s.mnt :=
  same_of_drop (m := 8657043456) (restoreShed_drop s cl rfl) .mnt rfl
@[simp] theorem restoreShed_outbox (s : State) (cl : Fin 3) : (restoreShed s cl).outbox = s.outbox :=
  same_of_drop (m := 8657043456) (restoreShed_drop s cl rfl) .outbox rfl
@[simp] theorem takeCh_dev (tj : Int) (i : Int) (s : State) (n : Fin 12) : (takeCh tj i s n).dev = s.dev :=
  same_of_drop (m := 67108864) (takeCh_drop tj i s n rfl) .dev rfl
@[simp] theorem takeCh_eng (tj : Int) (i : Int) (s : State) (n : Fin 12) : (takeCh tj i s n).eng = s.eng :=
  same_of_drop (m := 67108864) (takeCh_drop tj i s n rfl) .eng rfl
@[simp] theorem takeCh_img (tj : Int) (i : Int) (s : State) (n : Fin 12) : (takeCh tj i s n).img = s.img :=
  same_of_drop (m := 67108864) (takeCh_drop tj i s n rfl) .img rfl
@[simp] theorem takeCh_spl (tj : Int) (i : Int) (s : State) (n : Fin 12) : (takeCh tj i s n).spl = s.spl :=
  same_of_drop (m := 67108864) (takeCh_drop tj i s n rfl) .spl rfl
@[simp] theorem takeCh_tim (tj : Int) (i : Int) (s : State) (n : Fin 12) : (takeCh tj i s n).tim = s.tim :=
  same_of_drop (m := 67108864) (takeCh_drop tj i s n rfl) .tim rfl
@[simp] theorem takeCh_arm (tj : Int) (i : Int) (s : State) (n : Fin 12) : (takeCh tj i s n).arm = s.arm :=
  same_of_drop (m := 67108864) (takeCh_drop tj i s n rfl) .arm rfl
@[simp] theorem takeCh_pwm (tj : Int) (i : Int) (s : State) (n : Fin 12) : (takeCh tj i s n).pwm = s.pwm :=
  same_of_drop (m := 67108864) (takeCh_drop tj i s n rfl) .pwm rfl
@[simp] theorem takeCh_glk (tj : Int) (i : Int) (s : State) (n : Fin 12) : (takeCh tj i s n).glk = s.glk :=
  same_of_drop (m := 67108864) (takeCh_drop tj i s n rfl) .glk rfl
@[simp] theorem takeCh_chA (tj : Int) (i : Int) (s : State) (n : Fin 12) : (takeCh tj i s n).chA = s.chA :=
  same_of_drop (m := 67108864) (takeCh_drop tj i s n rfl) .chA rfl
@[simp] theorem takeCh_chB (tj : Int) (i : Int) (s : State) (n : Fin 12) : (takeCh tj i s n).chB = s.chB :=
  same_of_drop (m := 67108864) (takeCh_drop tj i s n rfl) .chB rfl
@[simp] theorem takeCh_snA (tj : Int) (i : Int) (s : State) (n : Fin 12) : (takeCh tj i s n).snA = s.snA :=
  same_of_drop (m := 67108864) (takeCh_drop tj i s n rfl) .snA rfl
@[simp] theorem takeCh_snB (tj : Int) (i : Int) (s : State) (n : Fin 12) : (takeCh tj i s n).snB = s.snB :=
  same_of_drop (m := 67108864) (takeCh_drop tj i s n rfl) .snB rfl
@[simp] theorem takeCh_esA (tj : Int) (i : Int) (s : State) (n : Fin 12) : (takeCh tj i s n).esA = s.esA :=
  same_of_drop (m := 67108864) (takeCh_drop tj i s n rfl) .esA rfl
@[simp] theorem takeCh_esB (tj : Int) (i : Int) (s : State) (n : Fin 12) : (takeCh tj i s n).esB = s.esB :=
  same_of_drop (m := 67108864) (takeCh_drop tj i s n rfl) .esB rfl
@[simp] theorem takeCh_est (tj : Int) (i : Int) (s : State) (n : Fin 12) : (takeCh tj i s n).est = s.est :=
  same_of_drop (m := 67108864) (takeCh_drop tj i s n rfl) .est rfl
@[simp] theorem takeCh_thm (tj : Int) (i : Int) (s : State) (n : Fin 12) : (takeCh tj i s n).thm = s.thm :=
  same_of_drop (m := 67108864) (takeCh_drop tj i s n rfl) .thm rfl
@[simp] theorem takeCh_prt (tj : Int) (i : Int) (s : State) (n : Fin 12) : (takeCh tj i s n).prt = s.prt :=
  same_of_drop (m := 67108864) (takeCh_drop tj i s n rfl) .prt rfl
@[simp] theorem takeCh_dvt (tj : Int) (i : Int) (s : State) (n : Fin 12) : (takeCh tj i s n).dvt = s.dvt :=
  same_of_drop (m := 67108864) (takeCh_drop tj i s n rfl) .dvt rfl
@[simp] theorem takeCh_lbus (tj : Int) (i : Int) (s : State) (n : Fin 12) : (takeCh tj i s n).lbus = s.lbus :=
  same_of_drop (m := 67108864) (takeCh_drop tj i s n rfl) .lbus rfl
@[simp] theorem takeCh_pwr (tj : Int) (i : Int) (s : State) (n : Fin 12) : (takeCh tj i s n).pwr = s.pwr :=
  same_of_drop (m := 67108864) (takeCh_drop tj i s n rfl) .pwr rfl
@[simp] theorem takeCh_sec (tj : Int) (i : Int) (s : State) (n : Fin 12) : (takeCh tj i s n).sec = s.sec :=
  same_of_drop (m := 67108864) (takeCh_drop tj i s n rfl) .sec rfl
@[simp] theorem takeCh_mnt (tj : Int) (i : Int) (s : State) (n : Fin 12) : (takeCh tj i s n).mnt = s.mnt :=
  same_of_drop (m := 67108864) (takeCh_drop tj i s n rfl) .mnt rfl
@[simp] theorem takeCh_evt (tj : Int) (i : Int) (s : State) (n : Fin 12) : (takeCh tj i s n).evt = s.evt :=
  same_of_drop (m := 67108864) (takeCh_drop tj i s n rfl) .evt rfl
@[simp] theorem takeCh_outbox (tj : Int) (i : Int) (s : State) (n : Fin 12) : (takeCh tj i s n).outbox = s.outbox :=
  same_of_drop (m := 67108864) (takeCh_drop tj i s n rfl) .outbox rfl
@[simp] theorem clearLatch_dev (s : State) (n : Fin 12) : (clearLatch s n).dev = s.dev :=
  same_of_drop (m := 67108864) (clearLatch_drop s n rfl) .dev rfl
@[simp] theorem clearLatch_eng (s : State) (n : Fin 12) : (clearLatch s n).eng = s.eng :=
  same_of_drop (m := 67108864) (clearLatch_drop s n rfl) .eng rfl
@[simp] theorem clearLatch_img (s : State) (n : Fin 12) : (clearLatch s n).img = s.img :=
  same_of_drop (m := 67108864) (clearLatch_drop s n rfl) .img rfl
@[simp] theorem clearLatch_spl (s : State) (n : Fin 12) : (clearLatch s n).spl = s.spl :=
  same_of_drop (m := 67108864) (clearLatch_drop s n rfl) .spl rfl
@[simp] theorem clearLatch_tim (s : State) (n : Fin 12) : (clearLatch s n).tim = s.tim :=
  same_of_drop (m := 67108864) (clearLatch_drop s n rfl) .tim rfl
@[simp] theorem clearLatch_arm (s : State) (n : Fin 12) : (clearLatch s n).arm = s.arm :=
  same_of_drop (m := 67108864) (clearLatch_drop s n rfl) .arm rfl
@[simp] theorem clearLatch_pwm (s : State) (n : Fin 12) : (clearLatch s n).pwm = s.pwm :=
  same_of_drop (m := 67108864) (clearLatch_drop s n rfl) .pwm rfl
@[simp] theorem clearLatch_glk (s : State) (n : Fin 12) : (clearLatch s n).glk = s.glk :=
  same_of_drop (m := 67108864) (clearLatch_drop s n rfl) .glk rfl
@[simp] theorem clearLatch_chA (s : State) (n : Fin 12) : (clearLatch s n).chA = s.chA :=
  same_of_drop (m := 67108864) (clearLatch_drop s n rfl) .chA rfl
@[simp] theorem clearLatch_chB (s : State) (n : Fin 12) : (clearLatch s n).chB = s.chB :=
  same_of_drop (m := 67108864) (clearLatch_drop s n rfl) .chB rfl
@[simp] theorem clearLatch_snA (s : State) (n : Fin 12) : (clearLatch s n).snA = s.snA :=
  same_of_drop (m := 67108864) (clearLatch_drop s n rfl) .snA rfl
@[simp] theorem clearLatch_snB (s : State) (n : Fin 12) : (clearLatch s n).snB = s.snB :=
  same_of_drop (m := 67108864) (clearLatch_drop s n rfl) .snB rfl
@[simp] theorem clearLatch_esA (s : State) (n : Fin 12) : (clearLatch s n).esA = s.esA :=
  same_of_drop (m := 67108864) (clearLatch_drop s n rfl) .esA rfl
@[simp] theorem clearLatch_esB (s : State) (n : Fin 12) : (clearLatch s n).esB = s.esB :=
  same_of_drop (m := 67108864) (clearLatch_drop s n rfl) .esB rfl
@[simp] theorem clearLatch_est (s : State) (n : Fin 12) : (clearLatch s n).est = s.est :=
  same_of_drop (m := 67108864) (clearLatch_drop s n rfl) .est rfl
@[simp] theorem clearLatch_thm (s : State) (n : Fin 12) : (clearLatch s n).thm = s.thm :=
  same_of_drop (m := 67108864) (clearLatch_drop s n rfl) .thm rfl
@[simp] theorem clearLatch_prt (s : State) (n : Fin 12) : (clearLatch s n).prt = s.prt :=
  same_of_drop (m := 67108864) (clearLatch_drop s n rfl) .prt rfl
@[simp] theorem clearLatch_dvt (s : State) (n : Fin 12) : (clearLatch s n).dvt = s.dvt :=
  same_of_drop (m := 67108864) (clearLatch_drop s n rfl) .dvt rfl
@[simp] theorem clearLatch_lbus (s : State) (n : Fin 12) : (clearLatch s n).lbus = s.lbus :=
  same_of_drop (m := 67108864) (clearLatch_drop s n rfl) .lbus rfl
@[simp] theorem clearLatch_pwr (s : State) (n : Fin 12) : (clearLatch s n).pwr = s.pwr :=
  same_of_drop (m := 67108864) (clearLatch_drop s n rfl) .pwr rfl
@[simp] theorem clearLatch_sec (s : State) (n : Fin 12) : (clearLatch s n).sec = s.sec :=
  same_of_drop (m := 67108864) (clearLatch_drop s n rfl) .sec rfl
@[simp] theorem clearLatch_mnt (s : State) (n : Fin 12) : (clearLatch s n).mnt = s.mnt :=
  same_of_drop (m := 67108864) (clearLatch_drop s n rfl) .mnt rfl
@[simp] theorem clearLatch_evt (s : State) (n : Fin 12) : (clearLatch s n).evt = s.evt :=
  same_of_drop (m := 67108864) (clearLatch_drop s n rfl) .evt rfl
@[simp] theorem clearLatch_outbox (s : State) (n : Fin 12) : (clearLatch s n).outbox = s.outbox :=
  same_of_drop (m := 67108864) (clearLatch_drop s n rfl) .outbox rfl
@[simp] theorem followChain_dev (src : Nat) (s : State) (c : ChainId) (cond : Bool) : (followChain src s c cond).dev = s.dev :=
  same_of_drop (m := 1799684595712) (followChain_drop src s c cond rfl) .dev rfl
@[simp] theorem followChain_eng (src : Nat) (s : State) (c : ChainId) (cond : Bool) : (followChain src s c cond).eng = s.eng :=
  same_of_drop (m := 1799684595712) (followChain_drop src s c cond rfl) .eng rfl
@[simp] theorem followChain_img (src : Nat) (s : State) (c : ChainId) (cond : Bool) : (followChain src s c cond).img = s.img :=
  same_of_drop (m := 1799684595712) (followChain_drop src s c cond rfl) .img rfl
@[simp] theorem followChain_spl (src : Nat) (s : State) (c : ChainId) (cond : Bool) : (followChain src s c cond).spl = s.spl :=
  same_of_drop (m := 1799684595712) (followChain_drop src s c cond rfl) .spl rfl
@[simp] theorem followChain_tim (src : Nat) (s : State) (c : ChainId) (cond : Bool) : (followChain src s c cond).tim = s.tim :=
  same_of_drop (m := 1799684595712) (followChain_drop src s c cond rfl) .tim rfl
@[simp] theorem followChain_arm_cell (src : Nat) (s : State) (c : ChainId) (cond : Bool) : (followChain src s c cond).arm.cell = s.arm.cell := by
  have h := same_of_drop (m := 1799684595712) (followChain_drop src s c cond rfl) .cell rfl
  simp only [Block.same] at h; simp only [h]
@[simp] theorem followChain_arm_changes (src : Nat) (s : State) (c : ChainId) (cond : Bool) : (followChain src s c cond).arm.changes = s.arm.changes := by
  have h := same_of_drop (m := 1799684595712) (followChain_drop src s c cond rfl) .cell rfl
  simp only [Block.same] at h; simp only [h]
@[simp] theorem followChain_arm_owner (src : Nat) (s : State) (c : ChainId) (cond : Bool) : (followChain src s c cond).arm.owner = s.arm.owner := by
  have h := same_of_drop (m := 1799684595712) (followChain_drop src s c cond rfl) .token rfl
  exact h
@[simp] theorem followChain_arm_bypassed (src : Nat) (s : State) (c : ChainId) (cond : Bool) : (followChain src s c cond).arm.bypassed = s.arm.bypassed := by
  have h := same_of_drop (m := 1799684595712) (followChain_drop src s c cond rfl) .bypass rfl
  exact h
@[simp] theorem followChain_pwm (src : Nat) (s : State) (c : ChainId) (cond : Bool) : (followChain src s c cond).pwm = s.pwm :=
  same_of_drop (m := 1799684595712) (followChain_drop src s c cond rfl) .pwm rfl
@[simp] theorem followChain_esA (src : Nat) (s : State) (c : ChainId) (cond : Bool) : (followChain src s c cond).esA = s.esA :=
  same_of_drop (m := 1799684595712) (followChain_drop src s c cond rfl) .esA rfl
@[simp] theorem followChain_esB (src : Nat) (s : State) (c : ChainId) (cond : Bool) : (followChain src s c cond).esB = s.esB :=
  same_of_drop (m := 1799684595712) (followChain_drop src s c cond rfl) .esB rfl
@[simp] theorem followChain_est (src : Nat) (s : State) (c : ChainId) (cond : Bool) : (followChain src s c cond).est = s.est :=
  same_of_drop (m := 1799684595712) (followChain_drop src s c cond rfl) .est rfl
@[simp] theorem followChain_dvt (src : Nat) (s : State) (c : ChainId) (cond : Bool) : (followChain src s c cond).dvt = s.dvt :=
  same_of_drop (m := 1799684595712) (followChain_drop src s c cond rfl) .dvt rfl
@[simp] theorem followChain_lbus (src : Nat) (s : State) (c : ChainId) (cond : Bool) : (followChain src s c cond).lbus = s.lbus :=
  same_of_drop (m := 1799684595712) (followChain_drop src s c cond rfl) .lbus rfl
@[simp] theorem followChain_pwr (src : Nat) (s : State) (c : ChainId) (cond : Bool) : (followChain src s c cond).pwr = s.pwr :=
  same_of_drop (m := 1799684595712) (followChain_drop src s c cond rfl) .pwr rfl
@[simp] theorem followChain_sec (src : Nat) (s : State) (c : ChainId) (cond : Bool) : (followChain src s c cond).sec = s.sec :=
  same_of_drop (m := 1799684595712) (followChain_drop src s c cond rfl) .sec rfl
@[simp] theorem followChain_glk_fireHold (src : Nat) (s : State) (c : ChainId) (cond : Bool) : (followChain src s c cond).glk.fireHold = s.glk.fireHold := by
  have h := same_of_drop (m := 1799684595712) (followChain_drop src s c cond rfl) .switch rfl
  simp only [Block.same] at h; simp only [h]
@[simp] theorem followChain_glk_fireAll (src : Nat) (s : State) (c : ChainId) (cond : Bool) : (followChain src s c cond).glk.fireAll = s.glk.fireAll := by
  have h := same_of_drop (m := 1799684595712) (followChain_drop src s c cond rfl) .switch rfl
  simp only [Block.same] at h; simp only [h]
@[simp] theorem followChain_glk_closeAsserted (src : Nat) (s : State) (c : ChainId) (cond : Bool) : (followChain src s c cond).glk.closeAsserted = s.glk.closeAsserted := by
  have h := same_of_drop (m := 1799684595712) (followChain_drop src s c cond rfl) .switch rfl
  simp only [Block.same] at h; simp only [h]
@[simp] theorem followChain_glk_closeDue (src : Nat) (s : State) (c : ChainId) (cond : Bool) : (followChain src s c cond).glk.closeDue = s.glk.closeDue := by
  have h := same_of_drop (m := 1799684595712) (followChain_drop src s c cond rfl) .switch rfl
  simp only [Block.same] at h; simp only [h]
@[simp] theorem followChain_glk_statClosed (src : Nat) (s : State) (c : ChainId) (cond : Bool) : (followChain src s c cond).glk.statClosed = s.glk.statClosed := by
  have h := same_of_drop (m := 1799684595712) (followChain_drop src s c cond rfl) .switch rfl
  simp only [Block.same] at h; simp only [h]
@[simp] theorem followChain_thm_sdHotA (src : Nat) (s : State) (c : ChainId) (cond : Bool) : (followChain src s c cond).thm.sdHotA = s.thm.sdHotA := by
  have h := same_of_drop (m := 1799684595712) (followChain_drop src s c cond rfl) .shutdown rfl
  simp only [Block.same] at h; simp only [h]
@[simp] theorem followChain_thm_sdHotB (src : Nat) (s : State) (c : ChainId) (cond : Bool) : (followChain src s c cond).thm.sdHotB = s.thm.sdHotB := by
  have h := same_of_drop (m := 1799684595712) (followChain_drop src s c cond rfl) .shutdown rfl
  simp only [Block.same] at h; simp only [h]
@[simp] theorem followChain_thm_sdColdA (src : Nat) (s : State) (c : ChainId) (cond : Bool) : (followChain src s c cond).thm.sdColdA = s.thm.sdColdA := by
  have h := same_of_drop (m := 1799684595712) (followChain_drop src s c cond rfl) .shutdown rfl
  simp only [Block.same] at h; simp only [h]
@[simp] theorem followChain_thm_sdColdB (src : Nat) (s : State) (c : ChainId) (cond : Bool) : (followChain src s c cond).thm.sdColdB = s.thm.sdColdB := by
  have h := same_of_drop (m := 1799684595712) (followChain_drop src s c cond rfl) .shutdown rfl
  simp only [Block.same] at h; simp only [h]
@[simp] theorem floorOpen_dev (s : State) (c : ChainId) : (floorOpen s c).dev = s.dev :=
  same_of_drop (m := 12961415168) (floorOpen_drop s c rfl) .dev rfl
@[simp] theorem floorOpen_eng (s : State) (c : ChainId) : (floorOpen s c).eng = s.eng :=
  same_of_drop (m := 12961415168) (floorOpen_drop s c rfl) .eng rfl
@[simp] theorem floorOpen_img (s : State) (c : ChainId) : (floorOpen s c).img = s.img :=
  same_of_drop (m := 12961415168) (floorOpen_drop s c rfl) .img rfl
@[simp] theorem floorOpen_spl (s : State) (c : ChainId) : (floorOpen s c).spl = s.spl :=
  same_of_drop (m := 12961415168) (floorOpen_drop s c rfl) .spl rfl
@[simp] theorem floorOpen_tim (s : State) (c : ChainId) : (floorOpen s c).tim = s.tim :=
  same_of_drop (m := 12961415168) (floorOpen_drop s c rfl) .tim rfl
@[simp] theorem floorOpen_arm (s : State) (c : ChainId) : (floorOpen s c).arm = s.arm :=
  same_of_drop (m := 12961415168) (floorOpen_drop s c rfl) .arm rfl
@[simp] theorem floorOpen_pwm (s : State) (c : ChainId) : (floorOpen s c).pwm = s.pwm :=
  same_of_drop (m := 12961415168) (floorOpen_drop s c rfl) .pwm rfl
@[simp] theorem floorOpen_esA (s : State) (c : ChainId) : (floorOpen s c).esA = s.esA :=
  same_of_drop (m := 12961415168) (floorOpen_drop s c rfl) .esA rfl
@[simp] theorem floorOpen_esB (s : State) (c : ChainId) : (floorOpen s c).esB = s.esB :=
  same_of_drop (m := 12961415168) (floorOpen_drop s c rfl) .esB rfl
@[simp] theorem floorOpen_est (s : State) (c : ChainId) : (floorOpen s c).est = s.est :=
  same_of_drop (m := 12961415168) (floorOpen_drop s c rfl) .est rfl
@[simp] theorem floorOpen_prt (s : State) (c : ChainId) : (floorOpen s c).prt = s.prt :=
  same_of_drop (m := 12961415168) (floorOpen_drop s c rfl) .prt rfl
@[simp] theorem floorOpen_dvt (s : State) (c : ChainId) : (floorOpen s c).dvt = s.dvt :=
  same_of_drop (m := 12961415168) (floorOpen_drop s c rfl) .dvt rfl
@[simp] theorem floorOpen_lbus (s : State) (c : ChainId) : (floorOpen s c).lbus = s.lbus :=
  same_of_drop (m := 12961415168) (floorOpen_drop s c rfl) .lbus rfl
@[simp] theorem floorOpen_pwr (s : State) (c : ChainId) : (floorOpen s c).pwr = s.pwr :=
  same_of_drop (m := 12961415168) (floorOpen_drop s c rfl) .pwr rfl
@[simp] theorem floorOpen_sec (s : State) (c : ChainId) : (floorOpen s c).sec = s.sec :=
  same_of_drop (m := 12961415168) (floorOpen_drop s c rfl) .sec rfl
@[simp] theorem floorOpen_outbox (s : State) (c : ChainId) : (floorOpen s c).outbox = s.outbox :=
  same_of_drop (m := 12961415168) (floorOpen_drop s c rfl) .outbox rfl
@[simp] theorem floorOpen_glk_legA (s : State) (c : ChainId) : (floorOpen s c).glk.legA = s.glk.legA := by
  have h := same_of_drop (m := 12961415168) (floorOpen_drop s c rfl) .legs rfl
  simp only [Block.same] at h; simp only [h]
@[simp] theorem floorOpen_glk_legB (s : State) (c : ChainId) : (floorOpen s c).glk.legB = s.glk.legB := by
  have h := same_of_drop (m := 12961415168) (floorOpen_drop s c rfl) .legs rfl
  simp only [Block.same] at h; simp only [h]
@[simp] theorem floorOpen_glk_fireHold (s : State) (c : ChainId) : (floorOpen s c).glk.fireHold = s.glk.fireHold := by
  have h := same_of_drop (m := 12961415168) (floorOpen_drop s c rfl) .switch rfl
  simp only [Block.same] at h; simp only [h]
@[simp] theorem floorOpen_glk_fireAll (s : State) (c : ChainId) : (floorOpen s c).glk.fireAll = s.glk.fireAll := by
  have h := same_of_drop (m := 12961415168) (floorOpen_drop s c rfl) .switch rfl
  simp only [Block.same] at h; simp only [h]
@[simp] theorem floorOpen_glk_closeAsserted (s : State) (c : ChainId) : (floorOpen s c).glk.closeAsserted = s.glk.closeAsserted := by
  have h := same_of_drop (m := 12961415168) (floorOpen_drop s c rfl) .switch rfl
  simp only [Block.same] at h; simp only [h]
@[simp] theorem floorOpen_glk_closeDue (s : State) (c : ChainId) : (floorOpen s c).glk.closeDue = s.glk.closeDue := by
  have h := same_of_drop (m := 12961415168) (floorOpen_drop s c rfl) .switch rfl
  simp only [Block.same] at h; simp only [h]
@[simp] theorem floorOpen_glk_statClosed (s : State) (c : ChainId) : (floorOpen s c).glk.statClosed = s.glk.statClosed := by
  have h := same_of_drop (m := 12961415168) (floorOpen_drop s c rfl) .switch rfl
  simp only [Block.same] at h; simp only [h]
@[simp] theorem floorOpen_thm_sdHotA (s : State) (c : ChainId) : (floorOpen s c).thm.sdHotA = s.thm.sdHotA := by
  have h := same_of_drop (m := 12961415168) (floorOpen_drop s c rfl) .shutdown rfl
  simp only [Block.same] at h; simp only [h]
@[simp] theorem floorOpen_thm_sdHotB (s : State) (c : ChainId) : (floorOpen s c).thm.sdHotB = s.thm.sdHotB := by
  have h := same_of_drop (m := 12961415168) (floorOpen_drop s c rfl) .shutdown rfl
  simp only [Block.same] at h; simp only [h]
@[simp] theorem floorOpen_thm_sdColdA (s : State) (c : ChainId) : (floorOpen s c).thm.sdColdA = s.thm.sdColdA := by
  have h := same_of_drop (m := 12961415168) (floorOpen_drop s c rfl) .shutdown rfl
  simp only [Block.same] at h; simp only [h]
@[simp] theorem floorOpen_thm_sdColdB (s : State) (c : ChainId) : (floorOpen s c).thm.sdColdB = s.thm.sdColdB := by
  have h := same_of_drop (m := 12961415168) (floorOpen_drop s c rfl) .shutdown rfl
  simp only [Block.same] at h; simp only [h]
@[simp] theorem carryOut_dev (s : State) : (carryOut s).dev = s.dev :=
  same_of_drop (m := 4960780546048) (carryOut_drop s rfl) .dev rfl
@[simp] theorem carryOut_eng (s : State) : (carryOut s).eng = s.eng :=
  same_of_drop (m := 4960780546048) (carryOut_drop s rfl) .eng rfl
@[simp] theorem carryOut_img (s : State) : (carryOut s).img = s.img :=
  same_of_drop (m := 4960780546048) (carryOut_drop s rfl) .img rfl
@[simp] theorem carryOut_spl (s : State) : (carryOut s).spl = s.spl :=
  same_of_drop (m := 4960780546048) (carryOut_drop s rfl) .spl rfl
@[simp] theorem carryOut_tim (s : State) : (carryOut s).tim = s.tim :=
  same_of_drop (m := 4960780546048) (carryOut_drop s rfl) .tim rfl
@[simp] theorem carryOut_arm_cell (s : State) : (carryOut s).arm.cell = s.arm.cell := by
  have h := same_of_drop (m := 4960780546048) (carryOut_drop s rfl) .cell rfl
  simp only [Block.same] at h; simp only [h]
@[simp] theorem carryOut_arm_changes (s : State) : (carryOut s).arm.changes = s.arm.changes := by
  have h := same_of_drop (m := 4960780546048) (carryOut_drop s rfl) .cell rfl
  simp only [Block.same] at h; simp only [h]
@[simp] theorem carryOut_arm_owner (s : State) : (carryOut s).arm.owner = s.arm.owner := by
  have h := same_of_drop (m := 4960780546048) (carryOut_drop s rfl) .token rfl
  exact h
@[simp] theorem carryOut_esA (s : State) : (carryOut s).esA = s.esA :=
  same_of_drop (m := 4960780546048) (carryOut_drop s rfl) .esA rfl
@[simp] theorem carryOut_esB (s : State) : (carryOut s).esB = s.esB :=
  same_of_drop (m := 4960780546048) (carryOut_drop s rfl) .esB rfl
@[simp] theorem carryOut_est (s : State) : (carryOut s).est = s.est :=
  same_of_drop (m := 4960780546048) (carryOut_drop s rfl) .est rfl
@[simp] theorem carryOut_dvt (s : State) : (carryOut s).dvt = s.dvt :=
  same_of_drop (m := 4960780546048) (carryOut_drop s rfl) .dvt rfl
@[simp] theorem carryOut_lbus (s : State) : (carryOut s).lbus = s.lbus :=
  same_of_drop (m := 4960780546048) (carryOut_drop s rfl) .lbus rfl
@[simp] theorem carryOut_pwr (s : State) : (carryOut s).pwr = s.pwr :=
  same_of_drop (m := 4960780546048) (carryOut_drop s rfl) .pwr rfl
@[simp] theorem carryOut_sec (s : State) : (carryOut s).sec = s.sec :=
  same_of_drop (m := 4960780546048) (carryOut_drop s rfl) .sec rfl
@[simp] theorem carryOut_outbox (s : State) : (carryOut s).outbox = s.outbox :=
  same_of_drop (m := 4960780546048) (carryOut_drop s rfl) .outbox rfl
@[simp] theorem carryOut_prt_active (s : State) : (carryOut s).prt.active = s.prt.active := by
  have h := same_of_drop (m := 4960780546048) (carryOut_drop s rfl) .raised rfl
  simp only [Block.same] at h; simp only [h]
@[simp] theorem carryOut_prt_pulsed (s : State) : (carryOut s).prt.pulsed = s.prt.pulsed := by
  have h := same_of_drop (m := 4960780546048) (carryOut_drop s rfl) .raised rfl
  simp only [Block.same] at h; simp only [h]
@[simp] theorem carryOut_thm_sdHotA (s : State) : (carryOut s).thm.sdHotA = s.thm.sdHotA := by
  have h := same_of_drop (m := 4960780546048) (carryOut_drop s rfl) .shutdown rfl
  simp only [Block.same] at h; simp only [h]
@[simp] theorem carryOut_thm_sdHotB (s : State) : (carryOut s).thm.sdHotB = s.thm.sdHotB := by
  have h := same_of_drop (m := 4960780546048) (carryOut_drop s rfl) .shutdown rfl
  simp only [Block.same] at h; simp only [h]
@[simp] theorem carryOut_thm_sdColdA (s : State) : (carryOut s).thm.sdColdA = s.thm.sdColdA := by
  have h := same_of_drop (m := 4960780546048) (carryOut_drop s rfl) .shutdown rfl
  simp only [Block.same] at h; simp only [h]
@[simp] theorem carryOut_thm_sdColdB (s : State) : (carryOut s).thm.sdColdB = s.thm.sdColdB := by
  have h := same_of_drop (m := 4960780546048) (carryOut_drop s rfl) .shutdown rfl
  simp only [Block.same] at h; simp only [h]
@[simp] theorem clearEntry_dev (s : State) (e : Fin 64) : (clearEntry s e).dev = s.dev :=
  same_of_drop (m := 8606752768) (clearEntry_drop s e rfl) .dev rfl
@[simp] theorem clearEntry_eng (s : State) (e : Fin 64) : (clearEntry s e).eng = s.eng :=
  same_of_drop (m := 8606752768) (clearEntry_drop s e rfl) .eng rfl
@[simp] theorem clearEntry_img (s : State) (e : Fin 64) : (clearEntry s e).img = s.img :=
  same_of_drop (m := 8606752768) (clearEntry_drop s e rfl) .img rfl
@[simp] theorem clearEntry_spl (s : State) (e : Fin 64) : (clearEntry s e).spl = s.spl :=
  same_of_drop (m := 8606752768) (clearEntry_drop s e rfl) .spl rfl
@[simp] theorem clearEntry_tim (s : State) (e : Fin 64) : (clearEntry s e).tim = s.tim :=
  same_of_drop (m := 8606752768) (clearEntry_drop s e rfl) .tim rfl
@[simp] theorem clearEntry_arm_cell (s : State) (e : Fin 64) : (clearEntry s e).arm.cell = s.arm.cell := by
  have h := same_of_drop (m := 8606752768) (clearEntry_drop s e rfl) .cell rfl
  simp only [Block.same] at h; simp only [h]
@[simp] theorem clearEntry_arm_changes (s : State) (e : Fin 64) : (clearEntry s e).arm.changes = s.arm.changes := by
  have h := same_of_drop (m := 8606752768) (clearEntry_drop s e rfl) .cell rfl
  simp only [Block.same] at h; simp only [h]
@[simp] theorem clearEntry_arm_owner (s : State) (e : Fin 64) : (clearEntry s e).arm.owner = s.arm.owner := by
  have h := same_of_drop (m := 8606752768) (clearEntry_drop s e rfl) .token rfl
  exact h
@[simp] theorem clearEntry_arm_bypassed (s : State) (e : Fin 64) : (clearEntry s e).arm.bypassed = s.arm.bypassed := by
  have h := same_of_drop (m := 8606752768) (clearEntry_drop s e rfl) .bypass rfl
  exact h
@[simp] theorem clearEntry_pwm (s : State) (e : Fin 64) : (clearEntry s e).pwm = s.pwm :=
  same_of_drop (m := 8606752768) (clearEntry_drop s e rfl) .pwm rfl
@[simp] theorem clearEntry_chA (s : State) (e : Fin 64) : (clearEntry s e).chA = s.chA :=
  same_of_drop (m := 8606752768) (clearEntry_drop s e rfl) .chA rfl
@[simp] theorem clearEntry_chB (s : State) (e : Fin 64) : (clearEntry s e).chB = s.chB :=
  same_of_drop (m := 8606752768) (clearEntry_drop s e rfl) .chB rfl
@[simp] theorem clearEntry_snA (s : State) (e : Fin 64) : (clearEntry s e).snA = s.snA :=
  same_of_drop (m := 8606752768) (clearEntry_drop s e rfl) .snA rfl
@[simp] theorem clearEntry_snB (s : State) (e : Fin 64) : (clearEntry s e).snB = s.snB :=
  same_of_drop (m := 8606752768) (clearEntry_drop s e rfl) .snB rfl
@[simp] theorem clearEntry_esA (s : State) (e : Fin 64) : (clearEntry s e).esA = s.esA :=
  same_of_drop (m := 8606752768) (clearEntry_drop s e rfl) .esA rfl
@[simp] theorem clearEntry_esB (s : State) (e : Fin 64) : (clearEntry s e).esB = s.esB :=
  same_of_drop (m := 8606752768) (clearEntry_drop s e rfl) .esB rfl
@[simp] theorem clearEntry_est (s : State) (e : Fin 64) : (clearEntry s e).est = s.est :=
  same_of_drop (m := 8606752768) (clearEntry_drop s e rfl) .est rfl
@[simp] theorem clearEntry_thm (s : State) (e : Fin 64) : (clearEntry s e).thm = s.thm :=
  same_of_drop (m := 8606752768) (clearEntry_drop s e rfl) .thm rfl
@[simp] theorem clearEntry_dvt (s : State) (e : Fin 64) : (clearEntry s e).dvt = s.dvt :=
  same_of_drop (m := 8606752768) (clearEntry_drop s e rfl) .dvt rfl
@[simp] theorem clearEntry_lsw (s : State) (e : Fin 64) : (clearEntry s e).lsw = s.lsw :=
  same_of_drop (m := 8606752768) (clearEntry_drop s e rfl) .lsw rfl
@[simp] theorem clearEntry_lbus (s : State) (e : Fin 64) : (clearEntry s e).lbus = s.lbus :=
  same_of_drop (m := 8606752768) (clearEntry_drop s e rfl) .lbus rfl
@[simp] theorem clearEntry_pwr (s : State) (e : Fin 64) : (clearEntry s e).pwr = s.pwr :=
  same_of_drop (m := 8606752768) (clearEntry_drop s e rfl) .pwr rfl
@[simp] theorem clearEntry_sec (s : State) (e : Fin 64) : (clearEntry s e).sec = s.sec :=
  same_of_drop (m := 8606752768) (clearEntry_drop s e rfl) .sec rfl
@[simp] theorem clearEntry_mnt (s : State) (e : Fin 64) : (clearEntry s e).mnt = s.mnt :=
  same_of_drop (m := 8606752768) (clearEntry_drop s e rfl) .mnt rfl
@[simp] theorem clearEntry_outbox (s : State) (e : Fin 64) : (clearEntry s e).outbox = s.outbox :=
  same_of_drop (m := 8606752768) (clearEntry_drop s e rfl) .outbox rfl
@[simp] theorem clearEntry_glk_legA (s : State) (e : Fin 64) : (clearEntry s e).glk.legA = s.glk.legA := by
  have h := same_of_drop (m := 8606752768) (clearEntry_drop s e rfl) .legs rfl
  simp only [Block.same] at h; simp only [h]
@[simp] theorem clearEntry_glk_legB (s : State) (e : Fin 64) : (clearEntry s e).glk.legB = s.glk.legB := by
  have h := same_of_drop (m := 8606752768) (clearEntry_drop s e rfl) .legs rfl
  simp only [Block.same] at h; simp only [h]
@[simp] theorem clearEntry_prt_active (s : State) (e : Fin 64) : (clearEntry s e).prt.active = s.prt.active := by
  have h := same_of_drop (m := 8606752768) (clearEntry_drop s e rfl) .raised rfl
  simp only [Block.same] at h; simp only [h]
@[simp] theorem clearEntry_prt_pulsed (s : State) (e : Fin 64) : (clearEntry s e).prt.pulsed = s.prt.pulsed := by
  have h := same_of_drop (m := 8606752768) (clearEntry_drop s e rfl) .raised rfl
  simp only [Block.same] at h; simp only [h]
@[simp] theorem clearEntry_glk_fireHold (s : State) (e : Fin 64) : (clearEntry s e).glk.fireHold = s.glk.fireHold := by
  have h := same_of_drop (m := 8606752768) (clearEntry_drop s e rfl) .switch rfl
  simp only [Block.same] at h; simp only [h]
@[simp] theorem clearEntry_glk_fireAll (s : State) (e : Fin 64) : (clearEntry s e).glk.fireAll = s.glk.fireAll := by
  have h := same_of_drop (m := 8606752768) (clearEntry_drop s e rfl) .switch rfl
  simp only [Block.same] at h; simp only [h]
@[simp] theorem clearEntry_glk_closeAsserted (s : State) (e : Fin 64) : (clearEntry s e).glk.closeAsserted = s.glk.closeAsserted := by
  have h := same_of_drop (m := 8606752768) (clearEntry_drop s e rfl) .switch rfl
  simp only [Block.same] at h; simp only [h]
@[simp] theorem clearEntry_glk_closeDue (s : State) (e : Fin 64) : (clearEntry s e).glk.closeDue = s.glk.closeDue := by
  have h := same_of_drop (m := 8606752768) (clearEntry_drop s e rfl) .switch rfl
  simp only [Block.same] at h; simp only [h]
@[simp] theorem clearEntry_glk_statClosed (s : State) (e : Fin 64) : (clearEntry s e).glk.statClosed = s.glk.statClosed := by
  have h := same_of_drop (m := 8606752768) (clearEntry_drop s e rfl) .switch rfl
  simp only [Block.same] at h; simp only [h]
@[simp] theorem followSource_dev (src : Nat) (s : State) (cond : Bool) : (followSource src s cond).dev = s.dev :=
  same_of_drop (m := 1799684595712) (followSource_drop src s cond rfl) .dev rfl
@[simp] theorem followSource_eng (src : Nat) (s : State) (cond : Bool) : (followSource src s cond).eng = s.eng :=
  same_of_drop (m := 1799684595712) (followSource_drop src s cond rfl) .eng rfl
@[simp] theorem followSource_img (src : Nat) (s : State) (cond : Bool) : (followSource src s cond).img = s.img :=
  same_of_drop (m := 1799684595712) (followSource_drop src s cond rfl) .img rfl
@[simp] theorem followSource_spl (src : Nat) (s : State) (cond : Bool) : (followSource src s cond).spl = s.spl :=
  same_of_drop (m := 1799684595712) (followSource_drop src s cond rfl) .spl rfl
@[simp] theorem followSource_tim (src : Nat) (s : State) (cond : Bool) : (followSource src s cond).tim = s.tim :=
  same_of_drop (m := 1799684595712) (followSource_drop src s cond rfl) .tim rfl
@[simp] theorem followSource_arm_cell (src : Nat) (s : State) (cond : Bool) : (followSource src s cond).arm.cell = s.arm.cell := by
  have h := same_of_drop (m := 1799684595712) (followSource_drop src s cond rfl) .cell rfl
  simp only [Block.same] at h; simp only [h]
@[simp] theorem followSource_arm_changes (src : Nat) (s : State) (cond : Bool) : (followSource src s cond).arm.changes = s.arm.changes := by
  have h := same_of_drop (m := 1799684595712) (followSource_drop src s cond rfl) .cell rfl
  simp only [Block.same] at h; simp only [h]
@[simp] theorem followSource_arm_owner (src : Nat) (s : State) (cond : Bool) : (followSource src s cond).arm.owner = s.arm.owner := by
  have h := same_of_drop (m := 1799684595712) (followSource_drop src s cond rfl) .token rfl
  exact h
@[simp] theorem followSource_arm_bypassed (src : Nat) (s : State) (cond : Bool) : (followSource src s cond).arm.bypassed = s.arm.bypassed := by
  have h := same_of_drop (m := 1799684595712) (followSource_drop src s cond rfl) .bypass rfl
  exact h
@[simp] theorem followSource_pwm (src : Nat) (s : State) (cond : Bool) : (followSource src s cond).pwm = s.pwm :=
  same_of_drop (m := 1799684595712) (followSource_drop src s cond rfl) .pwm rfl
@[simp] theorem followSource_esA (src : Nat) (s : State) (cond : Bool) : (followSource src s cond).esA = s.esA :=
  same_of_drop (m := 1799684595712) (followSource_drop src s cond rfl) .esA rfl
@[simp] theorem followSource_esB (src : Nat) (s : State) (cond : Bool) : (followSource src s cond).esB = s.esB :=
  same_of_drop (m := 1799684595712) (followSource_drop src s cond rfl) .esB rfl
@[simp] theorem followSource_est (src : Nat) (s : State) (cond : Bool) : (followSource src s cond).est = s.est :=
  same_of_drop (m := 1799684595712) (followSource_drop src s cond rfl) .est rfl
@[simp] theorem followSource_dvt (src : Nat) (s : State) (cond : Bool) : (followSource src s cond).dvt = s.dvt :=
  same_of_drop (m := 1799684595712) (followSource_drop src s cond rfl) .dvt rfl
@[simp] theorem followSource_lbus (src : Nat) (s : State) (cond : Bool) : (followSource src s cond).lbus = s.lbus :=
  same_of_drop (m := 1799684595712) (followSource_drop src s cond rfl) .lbus rfl
@[simp] theorem followSource_pwr (src : Nat) (s : State) (cond : Bool) : (followSource src s cond).pwr = s.pwr :=
  same_of_drop (m := 1799684595712) (followSource_drop src s cond rfl) .pwr rfl
@[simp] theorem followSource_sec (src : Nat) (s : State) (cond : Bool) : (followSource src s cond).sec = s.sec :=
  same_of_drop (m := 1799684595712) (followSource_drop src s cond rfl) .sec rfl
@[simp] theorem followSource_glk_fireHold (src : Nat) (s : State) (cond : Bool) : (followSource src s cond).glk.fireHold = s.glk.fireHold := by
  have h := same_of_drop (m := 1799684595712) (followSource_drop src s cond rfl) .switch rfl
  simp only [Block.same] at h; simp only [h]
@[simp] theorem followSource_glk_fireAll (src : Nat) (s : State) (cond : Bool) : (followSource src s cond).glk.fireAll = s.glk.fireAll := by
  have h := same_of_drop (m := 1799684595712) (followSource_drop src s cond rfl) .switch rfl
  simp only [Block.same] at h; simp only [h]
@[simp] theorem followSource_glk_closeAsserted (src : Nat) (s : State) (cond : Bool) : (followSource src s cond).glk.closeAsserted = s.glk.closeAsserted := by
  have h := same_of_drop (m := 1799684595712) (followSource_drop src s cond rfl) .switch rfl
  simp only [Block.same] at h; simp only [h]
@[simp] theorem followSource_glk_closeDue (src : Nat) (s : State) (cond : Bool) : (followSource src s cond).glk.closeDue = s.glk.closeDue := by
  have h := same_of_drop (m := 1799684595712) (followSource_drop src s cond rfl) .switch rfl
  simp only [Block.same] at h; simp only [h]
@[simp] theorem followSource_glk_statClosed (src : Nat) (s : State) (cond : Bool) : (followSource src s cond).glk.statClosed = s.glk.statClosed := by
  have h := same_of_drop (m := 1799684595712) (followSource_drop src s cond rfl) .switch rfl
  simp only [Block.same] at h; simp only [h]
@[simp] theorem followSource_thm_sdHotA (src : Nat) (s : State) (cond : Bool) : (followSource src s cond).thm.sdHotA = s.thm.sdHotA := by
  have h := same_of_drop (m := 1799684595712) (followSource_drop src s cond rfl) .shutdown rfl
  simp only [Block.same] at h; simp only [h]
@[simp] theorem followSource_thm_sdHotB (src : Nat) (s : State) (cond : Bool) : (followSource src s cond).thm.sdHotB = s.thm.sdHotB := by
  have h := same_of_drop (m := 1799684595712) (followSource_drop src s cond rfl) .shutdown rfl
  simp only [Block.same] at h; simp only [h]
@[simp] theorem followSource_thm_sdColdA (src : Nat) (s : State) (cond : Bool) : (followSource src s cond).thm.sdColdA = s.thm.sdColdA := by
  have h := same_of_drop (m := 1799684595712) (followSource_drop src s cond rfl) .shutdown rfl
  simp only [Block.same] at h; simp only [h]
@[simp] theorem followSource_thm_sdColdB (src : Nat) (s : State) (cond : Bool) : (followSource src s cond).thm.sdColdB = s.thm.sdColdB := by
  have h := same_of_drop (m := 1799684595712) (followSource_drop src s cond rfl) .shutdown rfl
  simp only [Block.same] at h; simp only [h]
@[simp] theorem escalate_dev (s : State) (e : Fin 64) : (escalate s e).dev = s.dev :=
  same_of_drop (m := 4960780546048) (escalate_drop s e rfl) .dev rfl
@[simp] theorem escalate_eng (s : State) (e : Fin 64) : (escalate s e).eng = s.eng :=
  same_of_drop (m := 4960780546048) (escalate_drop s e rfl) .eng rfl
@[simp] theorem escalate_img (s : State) (e : Fin 64) : (escalate s e).img = s.img :=
  same_of_drop (m := 4960780546048) (escalate_drop s e rfl) .img rfl
@[simp] theorem escalate_spl (s : State) (e : Fin 64) : (escalate s e).spl = s.spl :=
  same_of_drop (m := 4960780546048) (escalate_drop s e rfl) .spl rfl
@[simp] theorem escalate_tim (s : State) (e : Fin 64) : (escalate s e).tim = s.tim :=
  same_of_drop (m := 4960780546048) (escalate_drop s e rfl) .tim rfl
@[simp] theorem escalate_arm_cell (s : State) (e : Fin 64) : (escalate s e).arm.cell = s.arm.cell := by
  have h := same_of_drop (m := 4960780546048) (escalate_drop s e rfl) .cell rfl
  simp only [Block.same] at h; simp only [h]
@[simp] theorem escalate_arm_changes (s : State) (e : Fin 64) : (escalate s e).arm.changes = s.arm.changes := by
  have h := same_of_drop (m := 4960780546048) (escalate_drop s e rfl) .cell rfl
  simp only [Block.same] at h; simp only [h]
@[simp] theorem escalate_arm_owner (s : State) (e : Fin 64) : (escalate s e).arm.owner = s.arm.owner := by
  have h := same_of_drop (m := 4960780546048) (escalate_drop s e rfl) .token rfl
  exact h
@[simp] theorem escalate_esA (s : State) (e : Fin 64) : (escalate s e).esA = s.esA :=
  same_of_drop (m := 4960780546048) (escalate_drop s e rfl) .esA rfl
@[simp] theorem escalate_esB (s : State) (e : Fin 64) : (escalate s e).esB = s.esB :=
  same_of_drop (m := 4960780546048) (escalate_drop s e rfl) .esB rfl
@[simp] theorem escalate_est (s : State) (e : Fin 64) : (escalate s e).est = s.est :=
  same_of_drop (m := 4960780546048) (escalate_drop s e rfl) .est rfl
@[simp] theorem escalate_dvt (s : State) (e : Fin 64) : (escalate s e).dvt = s.dvt :=
  same_of_drop (m := 4960780546048) (escalate_drop s e rfl) .dvt rfl
@[simp] theorem escalate_lbus (s : State) (e : Fin 64) : (escalate s e).lbus = s.lbus :=
  same_of_drop (m := 4960780546048) (escalate_drop s e rfl) .lbus rfl
@[simp] theorem escalate_pwr (s : State) (e : Fin 64) : (escalate s e).pwr = s.pwr :=
  same_of_drop (m := 4960780546048) (escalate_drop s e rfl) .pwr rfl
@[simp] theorem escalate_sec (s : State) (e : Fin 64) : (escalate s e).sec = s.sec :=
  same_of_drop (m := 4960780546048) (escalate_drop s e rfl) .sec rfl
@[simp] theorem escalate_outbox (s : State) (e : Fin 64) : (escalate s e).outbox = s.outbox :=
  same_of_drop (m := 4960780546048) (escalate_drop s e rfl) .outbox rfl
@[simp] theorem escalate_prt_active (s : State) (e : Fin 64) : (escalate s e).prt.active = s.prt.active := by
  have h := same_of_drop (m := 4960780546048) (escalate_drop s e rfl) .raised rfl
  simp only [Block.same] at h; simp only [h]
@[simp] theorem escalate_prt_pulsed (s : State) (e : Fin 64) : (escalate s e).prt.pulsed = s.prt.pulsed := by
  have h := same_of_drop (m := 4960780546048) (escalate_drop s e rfl) .raised rfl
  simp only [Block.same] at h; simp only [h]
@[simp] theorem escalate_thm_sdHotA (s : State) (e : Fin 64) : (escalate s e).thm.sdHotA = s.thm.sdHotA := by
  have h := same_of_drop (m := 4960780546048) (escalate_drop s e rfl) .shutdown rfl
  simp only [Block.same] at h; simp only [h]
@[simp] theorem escalate_thm_sdHotB (s : State) (e : Fin 64) : (escalate s e).thm.sdHotB = s.thm.sdHotB := by
  have h := same_of_drop (m := 4960780546048) (escalate_drop s e rfl) .shutdown rfl
  simp only [Block.same] at h; simp only [h]
@[simp] theorem escalate_thm_sdColdA (s : State) (e : Fin 64) : (escalate s e).thm.sdColdA = s.thm.sdColdA := by
  have h := same_of_drop (m := 4960780546048) (escalate_drop s e rfl) .shutdown rfl
  simp only [Block.same] at h; simp only [h]
@[simp] theorem escalate_thm_sdColdB (s : State) (e : Fin 64) : (escalate s e).thm.sdColdB = s.thm.sdColdB := by
  have h := same_of_drop (m := 4960780546048) (escalate_drop s e rfl) .shutdown rfl
  simp only [Block.same] at h; simp only [h]
@[simp] theorem enterClash_dev (s : State) : (enterClash s).dev = s.dev :=
  same_of_drop (m := 562885011456) (enterClash_drop s rfl) .dev rfl
@[simp] theorem enterClash_eng (s : State) : (enterClash s).eng = s.eng :=
  same_of_drop (m := 562885011456) (enterClash_drop s rfl) .eng rfl
@[simp] theorem enterClash_img (s : State) : (enterClash s).img = s.img :=
  same_of_drop (m := 562885011456) (enterClash_drop s rfl) .img rfl
@[simp] theorem enterClash_spl (s : State) : (enterClash s).spl = s.spl :=
  same_of_drop (m := 562885011456) (enterClash_drop s rfl) .spl rfl
@[simp] theorem enterClash_tim (s : State) : (enterClash s).tim = s.tim :=
  same_of_drop (m := 562885011456) (enterClash_drop s rfl) .tim rfl
@[simp] theorem enterClash_arm_cell (s : State) : (enterClash s).arm.cell = s.arm.cell := by
  have h := same_of_drop (m := 562885011456) (enterClash_drop s rfl) .cell rfl
  simp only [Block.same] at h; simp only [h]
@[simp] theorem enterClash_arm_changes (s : State) : (enterClash s).arm.changes = s.arm.changes := by
  have h := same_of_drop (m := 562885011456) (enterClash_drop s rfl) .cell rfl
  simp only [Block.same] at h; simp only [h]
@[simp] theorem enterClash_arm_bypassed (s : State) : (enterClash s).arm.bypassed = s.arm.bypassed := by
  have h := same_of_drop (m := 562885011456) (enterClash_drop s rfl) .bypass rfl
  exact h
@[simp] theorem enterClash_pwm (s : State) : (enterClash s).pwm = s.pwm :=
  same_of_drop (m := 562885011456) (enterClash_drop s rfl) .pwm rfl
@[simp] theorem enterClash_esA (s : State) : (enterClash s).esA = s.esA :=
  same_of_drop (m := 562885011456) (enterClash_drop s rfl) .esA rfl
@[simp] theorem enterClash_esB (s : State) : (enterClash s).esB = s.esB :=
  same_of_drop (m := 562885011456) (enterClash_drop s rfl) .esB rfl
@[simp] theorem enterClash_est (s : State) : (enterClash s).est = s.est :=
  same_of_drop (m := 562885011456) (enterClash_drop s rfl) .est rfl
@[simp] theorem enterClash_prt (s : State) : (enterClash s).prt = s.prt :=
  same_of_drop (m := 562885011456) (enterClash_drop s rfl) .prt rfl
@[simp] theorem enterClash_pwr (s : State) : (enterClash s).pwr = s.pwr :=
  same_of_drop (m := 562885011456) (enterClash_drop s rfl) .pwr rfl
@[simp] theorem enterClash_sec (s : State) : (enterClash s).sec = s.sec :=
  same_of_drop (m := 562885011456) (enterClash_drop s rfl) .sec rfl
@[simp] theorem enterClash_outbox (s : State) : (enterClash s).outbox = s.outbox :=
  same_of_drop (m := 562885011456) (enterClash_drop s rfl) .outbox rfl
@[simp] theorem enterClash_glk_fireHold (s : State) : (enterClash s).glk.fireHold = s.glk.fireHold := by
  have h := same_of_drop (m := 562885011456) (enterClash_drop s rfl) .switch rfl
  simp only [Block.same] at h; simp only [h]
@[simp] theorem enterClash_glk_fireAll (s : State) : (enterClash s).glk.fireAll = s.glk.fireAll := by
  have h := same_of_drop (m := 562885011456) (enterClash_drop s rfl) .switch rfl
  simp only [Block.same] at h; simp only [h]
@[simp] theorem enterClash_glk_closeAsserted (s : State) : (enterClash s).glk.closeAsserted = s.glk.closeAsserted := by
  have h := same_of_drop (m := 562885011456) (enterClash_drop s rfl) .switch rfl
  simp only [Block.same] at h; simp only [h]
@[simp] theorem enterClash_glk_closeDue (s : State) : (enterClash s).glk.closeDue = s.glk.closeDue := by
  have h := same_of_drop (m := 562885011456) (enterClash_drop s rfl) .switch rfl
  simp only [Block.same] at h; simp only [h]
@[simp] theorem enterClash_glk_statClosed (s : State) : (enterClash s).glk.statClosed = s.glk.statClosed := by
  have h := same_of_drop (m := 562885011456) (enterClash_drop s rfl) .switch rfl
  simp only [Block.same] at h; simp only [h]
@[simp] theorem enterClash_thm_sdHotA (s : State) : (enterClash s).thm.sdHotA = s.thm.sdHotA := by
  have h := same_of_drop (m := 562885011456) (enterClash_drop s rfl) .shutdown rfl
  simp only [Block.same] at h; simp only [h]
@[simp] theorem enterClash_thm_sdHotB (s : State) : (enterClash s).thm.sdHotB = s.thm.sdHotB := by
  have h := same_of_drop (m := 562885011456) (enterClash_drop s rfl) .shutdown rfl
  simp only [Block.same] at h; simp only [h]
@[simp] theorem enterClash_thm_sdColdA (s : State) : (enterClash s).thm.sdColdA = s.thm.sdColdA := by
  have h := same_of_drop (m := 562885011456) (enterClash_drop s rfl) .shutdown rfl
  simp only [Block.same] at h; simp only [h]
@[simp] theorem enterClash_thm_sdColdB (s : State) : (enterClash s).thm.sdColdB = s.thm.sdColdB := by
  have h := same_of_drop (m := 562885011456) (enterClash_drop s rfl) .shutdown rfl
  simp only [Block.same] at h; simp only [h]
@[simp] theorem recordBeat_dev (s : State) (h : Heartbeat) : (recordBeat s h).dev = s.dev :=
  same_of_drop (m := 34340864) (recordBeat_drop s h rfl) .dev rfl
@[simp] theorem recordBeat_eng (s : State) (h : Heartbeat) : (recordBeat s h).eng = s.eng :=
  same_of_drop (m := 34340864) (recordBeat_drop s h rfl) .eng rfl
@[simp] theorem recordBeat_img (s : State) (h : Heartbeat) : (recordBeat s h).img = s.img :=
  same_of_drop (m := 34340864) (recordBeat_drop s h rfl) .img rfl
@[simp] theorem recordBeat_spl (s : State) (h : Heartbeat) : (recordBeat s h).spl = s.spl :=
  same_of_drop (m := 34340864) (recordBeat_drop s h rfl) .spl rfl
@[simp] theorem recordBeat_tim (s : State) (h : Heartbeat) : (recordBeat s h).tim = s.tim :=
  same_of_drop (m := 34340864) (recordBeat_drop s h rfl) .tim rfl
@[simp] theorem recordBeat_arm (s : State) (h : Heartbeat) : (recordBeat s h).arm = s.arm :=
  same_of_drop (m := 34340864) (recordBeat_drop s h rfl) .arm rfl
@[simp] theorem recordBeat_pwm (s : State) (h : Heartbeat) : (recordBeat s h).pwm = s.pwm :=
  same_of_drop (m := 34340864) (recordBeat_drop s h rfl) .pwm rfl
@[simp] theorem recordBeat_glk (s : State) (h : Heartbeat) : (recordBeat s h).glk = s.glk :=
  same_of_drop (m := 34340864) (recordBeat_drop s h rfl) .glk rfl
@[simp] theorem recordBeat_chA (s : State) (h : Heartbeat) : (recordBeat s h).chA = s.chA :=
  same_of_drop (m := 34340864) (recordBeat_drop s h rfl) .chA rfl
@[simp] theorem recordBeat_chB (s : State) (h : Heartbeat) : (recordBeat s h).chB = s.chB :=
  same_of_drop (m := 34340864) (recordBeat_drop s h rfl) .chB rfl
@[simp] theorem recordBeat_esA (s : State) (h : Heartbeat) : (recordBeat s h).esA = s.esA :=
  same_of_drop (m := 34340864) (recordBeat_drop s h rfl) .esA rfl
@[simp] theorem recordBeat_esB (s : State) (h : Heartbeat) : (recordBeat s h).esB = s.esB :=
  same_of_drop (m := 34340864) (recordBeat_drop s h rfl) .esB rfl
@[simp] theorem recordBeat_est (s : State) (h : Heartbeat) : (recordBeat s h).est = s.est :=
  same_of_drop (m := 34340864) (recordBeat_drop s h rfl) .est rfl
@[simp] theorem recordBeat_thm (s : State) (h : Heartbeat) : (recordBeat s h).thm = s.thm :=
  same_of_drop (m := 34340864) (recordBeat_drop s h rfl) .thm rfl
@[simp] theorem recordBeat_prt (s : State) (h : Heartbeat) : (recordBeat s h).prt = s.prt :=
  same_of_drop (m := 34340864) (recordBeat_drop s h rfl) .prt rfl
@[simp] theorem recordBeat_lsw (s : State) (h : Heartbeat) : (recordBeat s h).lsw = s.lsw :=
  same_of_drop (m := 34340864) (recordBeat_drop s h rfl) .lsw rfl
@[simp] theorem recordBeat_lbus (s : State) (h : Heartbeat) : (recordBeat s h).lbus = s.lbus :=
  same_of_drop (m := 34340864) (recordBeat_drop s h rfl) .lbus rfl
@[simp] theorem recordBeat_pwr (s : State) (h : Heartbeat) : (recordBeat s h).pwr = s.pwr :=
  same_of_drop (m := 34340864) (recordBeat_drop s h rfl) .pwr rfl
@[simp] theorem recordBeat_sec (s : State) (h : Heartbeat) : (recordBeat s h).sec = s.sec :=
  same_of_drop (m := 34340864) (recordBeat_drop s h rfl) .sec rfl
@[simp] theorem recordBeat_mnt (s : State) (h : Heartbeat) : (recordBeat s h).mnt = s.mnt :=
  same_of_drop (m := 34340864) (recordBeat_drop s h rfl) .mnt rfl
@[simp] theorem recordBeat_evt (s : State) (h : Heartbeat) : (recordBeat s h).evt = s.evt :=
  same_of_drop (m := 34340864) (recordBeat_drop s h rfl) .evt rfl
@[simp] theorem recordBeat_outbox (s : State) (h : Heartbeat) : (recordBeat s h).outbox = s.outbox :=
  same_of_drop (m := 34340864) (recordBeat_drop s h rfl) .outbox rfl
@[simp] theorem startHandover_dev (s : State) : (startHandover s).dev = s.dev :=
  same_of_drop (m := 137472507904) (startHandover_drop s rfl) .dev rfl
@[simp] theorem startHandover_eng (s : State) : (startHandover s).eng = s.eng :=
  same_of_drop (m := 137472507904) (startHandover_drop s rfl) .eng rfl
@[simp] theorem startHandover_img (s : State) : (startHandover s).img = s.img :=
  same_of_drop (m := 137472507904) (startHandover_drop s rfl) .img rfl
@[simp] theorem startHandover_spl (s : State) : (startHandover s).spl = s.spl :=
  same_of_drop (m := 137472507904) (startHandover_drop s rfl) .spl rfl
@[simp] theorem startHandover_tim (s : State) : (startHandover s).tim = s.tim :=
  same_of_drop (m := 137472507904) (startHandover_drop s rfl) .tim rfl
@[simp] theorem startHandover_arm (s : State) : (startHandover s).arm = s.arm :=
  same_of_drop (m := 137472507904) (startHandover_drop s rfl) .arm rfl
@[simp] theorem startHandover_pwm (s : State) : (startHandover s).pwm = s.pwm :=
  same_of_drop (m := 137472507904) (startHandover_drop s rfl) .pwm rfl
@[simp] theorem startHandover_glk (s : State) : (startHandover s).glk = s.glk :=
  same_of_drop (m := 137472507904) (startHandover_drop s rfl) .glk rfl
@[simp] theorem startHandover_chA (s : State) : (startHandover s).chA = s.chA :=
  same_of_drop (m := 137472507904) (startHandover_drop s rfl) .chA rfl
@[simp] theorem startHandover_chB (s : State) : (startHandover s).chB = s.chB :=
  same_of_drop (m := 137472507904) (startHandover_drop s rfl) .chB rfl
@[simp] theorem startHandover_snA (s : State) : (startHandover s).snA = s.snA :=
  same_of_drop (m := 137472507904) (startHandover_drop s rfl) .snA rfl
@[simp] theorem startHandover_snB (s : State) : (startHandover s).snB = s.snB :=
  same_of_drop (m := 137472507904) (startHandover_drop s rfl) .snB rfl
@[simp] theorem startHandover_esA (s : State) : (startHandover s).esA = s.esA :=
  same_of_drop (m := 137472507904) (startHandover_drop s rfl) .esA rfl
@[simp] theorem startHandover_esB (s : State) : (startHandover s).esB = s.esB :=
  same_of_drop (m := 137472507904) (startHandover_drop s rfl) .esB rfl
@[simp] theorem startHandover_est (s : State) : (startHandover s).est = s.est :=
  same_of_drop (m := 137472507904) (startHandover_drop s rfl) .est rfl
@[simp] theorem startHandover_thm (s : State) : (startHandover s).thm = s.thm :=
  same_of_drop (m := 137472507904) (startHandover_drop s rfl) .thm rfl
@[simp] theorem startHandover_prt (s : State) : (startHandover s).prt = s.prt :=
  same_of_drop (m := 137472507904) (startHandover_drop s rfl) .prt rfl
@[simp] theorem startHandover_lsw (s : State) : (startHandover s).lsw = s.lsw :=
  same_of_drop (m := 137472507904) (startHandover_drop s rfl) .lsw rfl
@[simp] theorem startHandover_lbus (s : State) : (startHandover s).lbus = s.lbus :=
  same_of_drop (m := 137472507904) (startHandover_drop s rfl) .lbus rfl
@[simp] theorem startHandover_pwr (s : State) : (startHandover s).pwr = s.pwr :=
  same_of_drop (m := 137472507904) (startHandover_drop s rfl) .pwr rfl
@[simp] theorem startHandover_sec (s : State) : (startHandover s).sec = s.sec :=
  same_of_drop (m := 137472507904) (startHandover_drop s rfl) .sec rfl
@[simp] theorem startHandover_mnt (s : State) : (startHandover s).mnt = s.mnt :=
  same_of_drop (m := 137472507904) (startHandover_drop s rfl) .mnt rfl
@[simp] theorem startHandover_evt (s : State) : (startHandover s).evt = s.evt :=
  same_of_drop (m := 137472507904) (startHandover_drop s rfl) .evt rfl
@[simp] theorem cancelHandover_dev (s : State) : (cancelHandover s).dev = s.dev :=
  same_of_drop (m := 8623489024) (cancelHandover_drop s rfl) .dev rfl
@[simp] theorem cancelHandover_eng (s : State) : (cancelHandover s).eng = s.eng :=
  same_of_drop (m := 8623489024) (cancelHandover_drop s rfl) .eng rfl
@[simp] theorem cancelHandover_img (s : State) : (cancelHandover s).img = s.img :=
  same_of_drop (m := 8623489024) (cancelHandover_drop s rfl) .img rfl
@[simp] theorem cancelHandover_spl (s : State) : (cancelHandover s).spl = s.spl :=
  same_of_drop (m := 8623489024) (cancelHandover_drop s rfl) .spl rfl
@[simp] theorem cancelHandover_tim (s : State) : (cancelHandover s).tim = s.tim :=
  same_of_drop (m := 8623489024) (cancelHandover_drop s rfl) .tim rfl
@[simp] theorem cancelHandover_arm (s : State) : (cancelHandover s).arm = s.arm :=
  same_of_drop (m := 8623489024) (cancelHandover_drop s rfl) .arm rfl
@[simp] theorem cancelHandover_pwm (s : State) : (cancelHandover s).pwm = s.pwm :=
  same_of_drop (m := 8623489024) (cancelHandover_drop s rfl) .pwm rfl
@[simp] theorem cancelHandover_glk (s : State) : (cancelHandover s).glk = s.glk :=
  same_of_drop (m := 8623489024) (cancelHandover_drop s rfl) .glk rfl
@[simp] theorem cancelHandover_chA (s : State) : (cancelHandover s).chA = s.chA :=
  same_of_drop (m := 8623489024) (cancelHandover_drop s rfl) .chA rfl
@[simp] theorem cancelHandover_chB (s : State) : (cancelHandover s).chB = s.chB :=
  same_of_drop (m := 8623489024) (cancelHandover_drop s rfl) .chB rfl
@[simp] theorem cancelHandover_snA (s : State) : (cancelHandover s).snA = s.snA :=
  same_of_drop (m := 8623489024) (cancelHandover_drop s rfl) .snA rfl
@[simp] theorem cancelHandover_snB (s : State) : (cancelHandover s).snB = s.snB :=
  same_of_drop (m := 8623489024) (cancelHandover_drop s rfl) .snB rfl
@[simp] theorem cancelHandover_esA (s : State) : (cancelHandover s).esA = s.esA :=
  same_of_drop (m := 8623489024) (cancelHandover_drop s rfl) .esA rfl
@[simp] theorem cancelHandover_esB (s : State) : (cancelHandover s).esB = s.esB :=
  same_of_drop (m := 8623489024) (cancelHandover_drop s rfl) .esB rfl
@[simp] theorem cancelHandover_est (s : State) : (cancelHandover s).est = s.est :=
  same_of_drop (m := 8623489024) (cancelHandover_drop s rfl) .est rfl
@[simp] theorem cancelHandover_thm (s : State) : (cancelHandover s).thm = s.thm :=
  same_of_drop (m := 8623489024) (cancelHandover_drop s rfl) .thm rfl
@[simp] theorem cancelHandover_prt (s : State) : (cancelHandover s).prt = s.prt :=
  same_of_drop (m := 8623489024) (cancelHandover_drop s rfl) .prt rfl
@[simp] theorem cancelHandover_lsw (s : State) : (cancelHandover s).lsw = s.lsw :=
  same_of_drop (m := 8623489024) (cancelHandover_drop s rfl) .lsw rfl
@[simp] theorem cancelHandover_lbus (s : State) : (cancelHandover s).lbus = s.lbus :=
  same_of_drop (m := 8623489024) (cancelHandover_drop s rfl) .lbus rfl
@[simp] theorem cancelHandover_pwr (s : State) : (cancelHandover s).pwr = s.pwr :=
  same_of_drop (m := 8623489024) (cancelHandover_drop s rfl) .pwr rfl
@[simp] theorem cancelHandover_sec (s : State) : (cancelHandover s).sec = s.sec :=
  same_of_drop (m := 8623489024) (cancelHandover_drop s rfl) .sec rfl
@[simp] theorem cancelHandover_mnt (s : State) : (cancelHandover s).mnt = s.mnt :=
  same_of_drop (m := 8623489024) (cancelHandover_drop s rfl) .mnt rfl
@[simp] theorem cancelHandover_outbox (s : State) : (cancelHandover s).outbox = s.outbox :=
  same_of_drop (m := 8623489024) (cancelHandover_drop s rfl) .outbox rfl
@[simp] theorem tryAck_dev (s : State) : (tryAck s).dev = s.dev :=
  same_of_drop (m := 137472507904) (tryAck_drop s rfl) .dev rfl
@[simp] theorem tryAck_eng (s : State) : (tryAck s).eng = s.eng :=
  same_of_drop (m := 137472507904) (tryAck_drop s rfl) .eng rfl
@[simp] theorem tryAck_img (s : State) : (tryAck s).img = s.img :=
  same_of_drop (m := 137472507904) (tryAck_drop s rfl) .img rfl
@[simp] theorem tryAck_spl (s : State) : (tryAck s).spl = s.spl :=
  same_of_drop (m := 137472507904) (tryAck_drop s rfl) .spl rfl
@[simp] theorem tryAck_tim (s : State) : (tryAck s).tim = s.tim :=
  same_of_drop (m := 137472507904) (tryAck_drop s rfl) .tim rfl
@[simp] theorem tryAck_arm (s : State) : (tryAck s).arm = s.arm :=
  same_of_drop (m := 137472507904) (tryAck_drop s rfl) .arm rfl
@[simp] theorem tryAck_pwm (s : State) : (tryAck s).pwm = s.pwm :=
  same_of_drop (m := 137472507904) (tryAck_drop s rfl) .pwm rfl
@[simp] theorem tryAck_glk (s : State) : (tryAck s).glk = s.glk :=
  same_of_drop (m := 137472507904) (tryAck_drop s rfl) .glk rfl
@[simp] theorem tryAck_chA (s : State) : (tryAck s).chA = s.chA :=
  same_of_drop (m := 137472507904) (tryAck_drop s rfl) .chA rfl
@[simp] theorem tryAck_chB (s : State) : (tryAck s).chB = s.chB :=
  same_of_drop (m := 137472507904) (tryAck_drop s rfl) .chB rfl
@[simp] theorem tryAck_snA (s : State) : (tryAck s).snA = s.snA :=
  same_of_drop (m := 137472507904) (tryAck_drop s rfl) .snA rfl
@[simp] theorem tryAck_snB (s : State) : (tryAck s).snB = s.snB :=
  same_of_drop (m := 137472507904) (tryAck_drop s rfl) .snB rfl
@[simp] theorem tryAck_esA (s : State) : (tryAck s).esA = s.esA :=
  same_of_drop (m := 137472507904) (tryAck_drop s rfl) .esA rfl
@[simp] theorem tryAck_esB (s : State) : (tryAck s).esB = s.esB :=
  same_of_drop (m := 137472507904) (tryAck_drop s rfl) .esB rfl
@[simp] theorem tryAck_est (s : State) : (tryAck s).est = s.est :=
  same_of_drop (m := 137472507904) (tryAck_drop s rfl) .est rfl
@[simp] theorem tryAck_thm (s : State) : (tryAck s).thm = s.thm :=
  same_of_drop (m := 137472507904) (tryAck_drop s rfl) .thm rfl
@[simp] theorem tryAck_prt (s : State) : (tryAck s).prt = s.prt :=
  same_of_drop (m := 137472507904) (tryAck_drop s rfl) .prt rfl
@[simp] theorem tryAck_lsw (s : State) : (tryAck s).lsw = s.lsw :=
  same_of_drop (m := 137472507904) (tryAck_drop s rfl) .lsw rfl
@[simp] theorem tryAck_lbus (s : State) : (tryAck s).lbus = s.lbus :=
  same_of_drop (m := 137472507904) (tryAck_drop s rfl) .lbus rfl
@[simp] theorem tryAck_pwr (s : State) : (tryAck s).pwr = s.pwr :=
  same_of_drop (m := 137472507904) (tryAck_drop s rfl) .pwr rfl
@[simp] theorem tryAck_sec (s : State) : (tryAck s).sec = s.sec :=
  same_of_drop (m := 137472507904) (tryAck_drop s rfl) .sec rfl
@[simp] theorem tryAck_mnt (s : State) : (tryAck s).mnt = s.mnt :=
  same_of_drop (m := 137472507904) (tryAck_drop s rfl) .mnt rfl
@[simp] theorem tryAck_evt (s : State) : (tryAck s).evt = s.evt :=
  same_of_drop (m := 137472507904) (tryAck_drop s rfl) .evt rfl
@[simp] theorem portDown_dev (s : State) (p : RPort) (cause : PortCause) : (portDown s p cause).dev = s.dev :=
  same_of_drop (m := 8589934720) (portDown_drop s p cause rfl) .dev rfl
@[simp] theorem portDown_eng (s : State) (p : RPort) (cause : PortCause) : (portDown s p cause).eng = s.eng :=
  same_of_drop (m := 8589934720) (portDown_drop s p cause rfl) .eng rfl
@[simp] theorem portDown_img (s : State) (p : RPort) (cause : PortCause) : (portDown s p cause).img = s.img :=
  same_of_drop (m := 8589934720) (portDown_drop s p cause rfl) .img rfl
@[simp] theorem portDown_tim (s : State) (p : RPort) (cause : PortCause) : (portDown s p cause).tim = s.tim :=
  same_of_drop (m := 8589934720) (portDown_drop s p cause rfl) .tim rfl
@[simp] theorem portDown_arm (s : State) (p : RPort) (cause : PortCause) : (portDown s p cause).arm = s.arm :=
  same_of_drop (m := 8589934720) (portDown_drop s p cause rfl) .arm rfl
@[simp] theorem portDown_pwm (s : State) (p : RPort) (cause : PortCause) : (portDown s p cause).pwm = s.pwm :=
  same_of_drop (m := 8589934720) (portDown_drop s p cause rfl) .pwm rfl
@[simp] theorem portDown_glk (s : State) (p : RPort) (cause : PortCause) : (portDown s p cause).glk = s.glk :=
  same_of_drop (m := 8589934720) (portDown_drop s p cause rfl) .glk rfl
@[simp] theorem portDown_chA (s : State) (p : RPort) (cause : PortCause) : (portDown s p cause).chA = s.chA :=
  same_of_drop (m := 8589934720) (portDown_drop s p cause rfl) .chA rfl
@[simp] theorem portDown_chB (s : State) (p : RPort) (cause : PortCause) : (portDown s p cause).chB = s.chB :=
  same_of_drop (m := 8589934720) (portDown_drop s p cause rfl) .chB rfl
@[simp] theorem portDown_snA (s : State) (p : RPort) (cause : PortCause) : (portDown s p cause).snA = s.snA :=
  same_of_drop (m := 8589934720) (portDown_drop s p cause rfl) .snA rfl
@[simp] theorem portDown_snB (s : State) (p : RPort) (cause : PortCause) : (portDown s p cause).snB = s.snB :=
  same_of_drop (m := 8589934720) (portDown_drop s p cause rfl) .snB rfl
@[simp] theorem portDown_esA (s : State) (p : RPort) (cause : PortCause) : (portDown s p cause).esA = s.esA :=
  same_of_drop (m := 8589934720) (portDown_drop s p cause rfl) .esA rfl
@[simp] theorem portDown_esB (s : State) (p : RPort) (cause : PortCause) : (portDown s p cause).esB = s.esB :=
  same_of_drop (m := 8589934720) (portDown_drop s p cause rfl) .esB rfl
@[simp] theorem portDown_est (s : State) (p : RPort) (cause : PortCause) : (portDown s p cause).est = s.est :=
  same_of_drop (m := 8589934720) (portDown_drop s p cause rfl) .est rfl
@[simp] theorem portDown_thm (s : State) (p : RPort) (cause : PortCause) : (portDown s p cause).thm = s.thm :=
  same_of_drop (m := 8589934720) (portDown_drop s p cause rfl) .thm rfl
@[simp] theorem portDown_prt (s : State) (p : RPort) (cause : PortCause) : (portDown s p cause).prt = s.prt :=
  same_of_drop (m := 8589934720) (portDown_drop s p cause rfl) .prt rfl
@[simp] theorem portDown_dvt (s : State) (p : RPort) (cause : PortCause) : (portDown s p cause).dvt = s.dvt :=
  same_of_drop (m := 8589934720) (portDown_drop s p cause rfl) .dvt rfl
@[simp] theorem portDown_lsw (s : State) (p : RPort) (cause : PortCause) : (portDown s p cause).lsw = s.lsw :=
  same_of_drop (m := 8589934720) (portDown_drop s p cause rfl) .lsw rfl
@[simp] theorem portDown_lbus (s : State) (p : RPort) (cause : PortCause) : (portDown s p cause).lbus = s.lbus :=
  same_of_drop (m := 8589934720) (portDown_drop s p cause rfl) .lbus rfl
@[simp] theorem portDown_pwr (s : State) (p : RPort) (cause : PortCause) : (portDown s p cause).pwr = s.pwr :=
  same_of_drop (m := 8589934720) (portDown_drop s p cause rfl) .pwr rfl
@[simp] theorem portDown_sec (s : State) (p : RPort) (cause : PortCause) : (portDown s p cause).sec = s.sec :=
  same_of_drop (m := 8589934720) (portDown_drop s p cause rfl) .sec rfl
@[simp] theorem portDown_mnt (s : State) (p : RPort) (cause : PortCause) : (portDown s p cause).mnt = s.mnt :=
  same_of_drop (m := 8589934720) (portDown_drop s p cause rfl) .mnt rfl
@[simp] theorem portDown_outbox (s : State) (p : RPort) (cause : PortCause) : (portDown s p cause).outbox = s.outbox :=
  same_of_drop (m := 8589934720) (portDown_drop s p cause rfl) .outbox rfl
@[simp] theorem violation_dev (s : State) (p : RPort) (slot : Nat) : (violation s p slot).dev = s.dev :=
  same_of_drop (m := 8589934720) (violation_drop s p slot rfl) .dev rfl
@[simp] theorem violation_eng (s : State) (p : RPort) (slot : Nat) : (violation s p slot).eng = s.eng :=
  same_of_drop (m := 8589934720) (violation_drop s p slot rfl) .eng rfl
@[simp] theorem violation_img (s : State) (p : RPort) (slot : Nat) : (violation s p slot).img = s.img :=
  same_of_drop (m := 8589934720) (violation_drop s p slot rfl) .img rfl
@[simp] theorem violation_tim (s : State) (p : RPort) (slot : Nat) : (violation s p slot).tim = s.tim :=
  same_of_drop (m := 8589934720) (violation_drop s p slot rfl) .tim rfl
@[simp] theorem violation_arm (s : State) (p : RPort) (slot : Nat) : (violation s p slot).arm = s.arm :=
  same_of_drop (m := 8589934720) (violation_drop s p slot rfl) .arm rfl
@[simp] theorem violation_pwm (s : State) (p : RPort) (slot : Nat) : (violation s p slot).pwm = s.pwm :=
  same_of_drop (m := 8589934720) (violation_drop s p slot rfl) .pwm rfl
@[simp] theorem violation_glk (s : State) (p : RPort) (slot : Nat) : (violation s p slot).glk = s.glk :=
  same_of_drop (m := 8589934720) (violation_drop s p slot rfl) .glk rfl
@[simp] theorem violation_chA (s : State) (p : RPort) (slot : Nat) : (violation s p slot).chA = s.chA :=
  same_of_drop (m := 8589934720) (violation_drop s p slot rfl) .chA rfl
@[simp] theorem violation_chB (s : State) (p : RPort) (slot : Nat) : (violation s p slot).chB = s.chB :=
  same_of_drop (m := 8589934720) (violation_drop s p slot rfl) .chB rfl
@[simp] theorem violation_snA (s : State) (p : RPort) (slot : Nat) : (violation s p slot).snA = s.snA :=
  same_of_drop (m := 8589934720) (violation_drop s p slot rfl) .snA rfl
@[simp] theorem violation_snB (s : State) (p : RPort) (slot : Nat) : (violation s p slot).snB = s.snB :=
  same_of_drop (m := 8589934720) (violation_drop s p slot rfl) .snB rfl
@[simp] theorem violation_esA (s : State) (p : RPort) (slot : Nat) : (violation s p slot).esA = s.esA :=
  same_of_drop (m := 8589934720) (violation_drop s p slot rfl) .esA rfl
@[simp] theorem violation_esB (s : State) (p : RPort) (slot : Nat) : (violation s p slot).esB = s.esB :=
  same_of_drop (m := 8589934720) (violation_drop s p slot rfl) .esB rfl
@[simp] theorem violation_est (s : State) (p : RPort) (slot : Nat) : (violation s p slot).est = s.est :=
  same_of_drop (m := 8589934720) (violation_drop s p slot rfl) .est rfl
@[simp] theorem violation_thm (s : State) (p : RPort) (slot : Nat) : (violation s p slot).thm = s.thm :=
  same_of_drop (m := 8589934720) (violation_drop s p slot rfl) .thm rfl
@[simp] theorem violation_prt (s : State) (p : RPort) (slot : Nat) : (violation s p slot).prt = s.prt :=
  same_of_drop (m := 8589934720) (violation_drop s p slot rfl) .prt rfl
@[simp] theorem violation_dvt (s : State) (p : RPort) (slot : Nat) : (violation s p slot).dvt = s.dvt :=
  same_of_drop (m := 8589934720) (violation_drop s p slot rfl) .dvt rfl
@[simp] theorem violation_lsw (s : State) (p : RPort) (slot : Nat) : (violation s p slot).lsw = s.lsw :=
  same_of_drop (m := 8589934720) (violation_drop s p slot rfl) .lsw rfl
@[simp] theorem violation_lbus (s : State) (p : RPort) (slot : Nat) : (violation s p slot).lbus = s.lbus :=
  same_of_drop (m := 8589934720) (violation_drop s p slot rfl) .lbus rfl
@[simp] theorem violation_pwr (s : State) (p : RPort) (slot : Nat) : (violation s p slot).pwr = s.pwr :=
  same_of_drop (m := 8589934720) (violation_drop s p slot rfl) .pwr rfl
@[simp] theorem violation_sec (s : State) (p : RPort) (slot : Nat) : (violation s p slot).sec = s.sec :=
  same_of_drop (m := 8589934720) (violation_drop s p slot rfl) .sec rfl
@[simp] theorem violation_mnt (s : State) (p : RPort) (slot : Nat) : (violation s p slot).mnt = s.mnt :=
  same_of_drop (m := 8589934720) (violation_drop s p slot rfl) .mnt rfl
@[simp] theorem violation_outbox (s : State) (p : RPort) (slot : Nat) : (violation s p slot).outbox = s.outbox :=
  same_of_drop (m := 8589934720) (violation_drop s p slot rfl) .outbox rfl
@[simp] theorem noteResidence_dev (s : State) (p : RPort) (n : Nat) : (noteResidence s p n).dev = s.dev :=
  same_of_drop (m := 128) (noteResidence_drop s p n rfl) .dev rfl
@[simp] theorem noteResidence_eng (s : State) (p : RPort) (n : Nat) : (noteResidence s p n).eng = s.eng :=
  same_of_drop (m := 128) (noteResidence_drop s p n rfl) .eng rfl
@[simp] theorem noteResidence_img (s : State) (p : RPort) (n : Nat) : (noteResidence s p n).img = s.img :=
  same_of_drop (m := 128) (noteResidence_drop s p n rfl) .img rfl
@[simp] theorem noteResidence_tim (s : State) (p : RPort) (n : Nat) : (noteResidence s p n).tim = s.tim :=
  same_of_drop (m := 128) (noteResidence_drop s p n rfl) .tim rfl
@[simp] theorem noteResidence_arm (s : State) (p : RPort) (n : Nat) : (noteResidence s p n).arm = s.arm :=
  same_of_drop (m := 128) (noteResidence_drop s p n rfl) .arm rfl
@[simp] theorem noteResidence_pwm (s : State) (p : RPort) (n : Nat) : (noteResidence s p n).pwm = s.pwm :=
  same_of_drop (m := 128) (noteResidence_drop s p n rfl) .pwm rfl
@[simp] theorem noteResidence_glk (s : State) (p : RPort) (n : Nat) : (noteResidence s p n).glk = s.glk :=
  same_of_drop (m := 128) (noteResidence_drop s p n rfl) .glk rfl
@[simp] theorem noteResidence_chA (s : State) (p : RPort) (n : Nat) : (noteResidence s p n).chA = s.chA :=
  same_of_drop (m := 128) (noteResidence_drop s p n rfl) .chA rfl
@[simp] theorem noteResidence_chB (s : State) (p : RPort) (n : Nat) : (noteResidence s p n).chB = s.chB :=
  same_of_drop (m := 128) (noteResidence_drop s p n rfl) .chB rfl
@[simp] theorem noteResidence_snA (s : State) (p : RPort) (n : Nat) : (noteResidence s p n).snA = s.snA :=
  same_of_drop (m := 128) (noteResidence_drop s p n rfl) .snA rfl
@[simp] theorem noteResidence_snB (s : State) (p : RPort) (n : Nat) : (noteResidence s p n).snB = s.snB :=
  same_of_drop (m := 128) (noteResidence_drop s p n rfl) .snB rfl
@[simp] theorem noteResidence_esA (s : State) (p : RPort) (n : Nat) : (noteResidence s p n).esA = s.esA :=
  same_of_drop (m := 128) (noteResidence_drop s p n rfl) .esA rfl
@[simp] theorem noteResidence_esB (s : State) (p : RPort) (n : Nat) : (noteResidence s p n).esB = s.esB :=
  same_of_drop (m := 128) (noteResidence_drop s p n rfl) .esB rfl
@[simp] theorem noteResidence_est (s : State) (p : RPort) (n : Nat) : (noteResidence s p n).est = s.est :=
  same_of_drop (m := 128) (noteResidence_drop s p n rfl) .est rfl
@[simp] theorem noteResidence_thm (s : State) (p : RPort) (n : Nat) : (noteResidence s p n).thm = s.thm :=
  same_of_drop (m := 128) (noteResidence_drop s p n rfl) .thm rfl
@[simp] theorem noteResidence_prt (s : State) (p : RPort) (n : Nat) : (noteResidence s p n).prt = s.prt :=
  same_of_drop (m := 128) (noteResidence_drop s p n rfl) .prt rfl
@[simp] theorem noteResidence_dvt (s : State) (p : RPort) (n : Nat) : (noteResidence s p n).dvt = s.dvt :=
  same_of_drop (m := 128) (noteResidence_drop s p n rfl) .dvt rfl
@[simp] theorem noteResidence_lsw (s : State) (p : RPort) (n : Nat) : (noteResidence s p n).lsw = s.lsw :=
  same_of_drop (m := 128) (noteResidence_drop s p n rfl) .lsw rfl
@[simp] theorem noteResidence_lbus (s : State) (p : RPort) (n : Nat) : (noteResidence s p n).lbus = s.lbus :=
  same_of_drop (m := 128) (noteResidence_drop s p n rfl) .lbus rfl
@[simp] theorem noteResidence_pwr (s : State) (p : RPort) (n : Nat) : (noteResidence s p n).pwr = s.pwr :=
  same_of_drop (m := 128) (noteResidence_drop s p n rfl) .pwr rfl
@[simp] theorem noteResidence_sec (s : State) (p : RPort) (n : Nat) : (noteResidence s p n).sec = s.sec :=
  same_of_drop (m := 128) (noteResidence_drop s p n rfl) .sec rfl
@[simp] theorem noteResidence_mnt (s : State) (p : RPort) (n : Nat) : (noteResidence s p n).mnt = s.mnt :=
  same_of_drop (m := 128) (noteResidence_drop s p n rfl) .mnt rfl
@[simp] theorem noteResidence_evt (s : State) (p : RPort) (n : Nat) : (noteResidence s p n).evt = s.evt :=
  same_of_drop (m := 128) (noteResidence_drop s p n rfl) .evt rfl
@[simp] theorem noteResidence_outbox (s : State) (p : RPort) (n : Nat) : (noteResidence s p n).outbox = s.outbox :=
  same_of_drop (m := 128) (noteResidence_drop s p n rfl) .outbox rfl
@[simp] theorem judgePosition_dev (s : State) (f : ArmCycle) : (judgePosition s f).dev = s.dev :=
  same_of_drop (m := 8589934720) (judgePosition_drop s f rfl) .dev rfl
@[simp] theorem judgePosition_eng (s : State) (f : ArmCycle) : (judgePosition s f).eng = s.eng :=
  same_of_drop (m := 8589934720) (judgePosition_drop s f rfl) .eng rfl
@[simp] theorem judgePosition_img (s : State) (f : ArmCycle) : (judgePosition s f).img = s.img :=
  same_of_drop (m := 8589934720) (judgePosition_drop s f rfl) .img rfl
@[simp] theorem judgePosition_tim (s : State) (f : ArmCycle) : (judgePosition s f).tim = s.tim :=
  same_of_drop (m := 8589934720) (judgePosition_drop s f rfl) .tim rfl
@[simp] theorem judgePosition_arm (s : State) (f : ArmCycle) : (judgePosition s f).arm = s.arm :=
  same_of_drop (m := 8589934720) (judgePosition_drop s f rfl) .arm rfl
@[simp] theorem judgePosition_pwm (s : State) (f : ArmCycle) : (judgePosition s f).pwm = s.pwm :=
  same_of_drop (m := 8589934720) (judgePosition_drop s f rfl) .pwm rfl
@[simp] theorem judgePosition_glk (s : State) (f : ArmCycle) : (judgePosition s f).glk = s.glk :=
  same_of_drop (m := 8589934720) (judgePosition_drop s f rfl) .glk rfl
@[simp] theorem judgePosition_chA (s : State) (f : ArmCycle) : (judgePosition s f).chA = s.chA :=
  same_of_drop (m := 8589934720) (judgePosition_drop s f rfl) .chA rfl
@[simp] theorem judgePosition_chB (s : State) (f : ArmCycle) : (judgePosition s f).chB = s.chB :=
  same_of_drop (m := 8589934720) (judgePosition_drop s f rfl) .chB rfl
@[simp] theorem judgePosition_snA (s : State) (f : ArmCycle) : (judgePosition s f).snA = s.snA :=
  same_of_drop (m := 8589934720) (judgePosition_drop s f rfl) .snA rfl
@[simp] theorem judgePosition_snB (s : State) (f : ArmCycle) : (judgePosition s f).snB = s.snB :=
  same_of_drop (m := 8589934720) (judgePosition_drop s f rfl) .snB rfl
@[simp] theorem judgePosition_esA (s : State) (f : ArmCycle) : (judgePosition s f).esA = s.esA :=
  same_of_drop (m := 8589934720) (judgePosition_drop s f rfl) .esA rfl
@[simp] theorem judgePosition_esB (s : State) (f : ArmCycle) : (judgePosition s f).esB = s.esB :=
  same_of_drop (m := 8589934720) (judgePosition_drop s f rfl) .esB rfl
@[simp] theorem judgePosition_est (s : State) (f : ArmCycle) : (judgePosition s f).est = s.est :=
  same_of_drop (m := 8589934720) (judgePosition_drop s f rfl) .est rfl
@[simp] theorem judgePosition_thm (s : State) (f : ArmCycle) : (judgePosition s f).thm = s.thm :=
  same_of_drop (m := 8589934720) (judgePosition_drop s f rfl) .thm rfl
@[simp] theorem judgePosition_prt (s : State) (f : ArmCycle) : (judgePosition s f).prt = s.prt :=
  same_of_drop (m := 8589934720) (judgePosition_drop s f rfl) .prt rfl
@[simp] theorem judgePosition_dvt (s : State) (f : ArmCycle) : (judgePosition s f).dvt = s.dvt :=
  same_of_drop (m := 8589934720) (judgePosition_drop s f rfl) .dvt rfl
@[simp] theorem judgePosition_lsw (s : State) (f : ArmCycle) : (judgePosition s f).lsw = s.lsw :=
  same_of_drop (m := 8589934720) (judgePosition_drop s f rfl) .lsw rfl
@[simp] theorem judgePosition_lbus (s : State) (f : ArmCycle) : (judgePosition s f).lbus = s.lbus :=
  same_of_drop (m := 8589934720) (judgePosition_drop s f rfl) .lbus rfl
@[simp] theorem judgePosition_pwr (s : State) (f : ArmCycle) : (judgePosition s f).pwr = s.pwr :=
  same_of_drop (m := 8589934720) (judgePosition_drop s f rfl) .pwr rfl
@[simp] theorem judgePosition_sec (s : State) (f : ArmCycle) : (judgePosition s f).sec = s.sec :=
  same_of_drop (m := 8589934720) (judgePosition_drop s f rfl) .sec rfl
@[simp] theorem judgePosition_mnt (s : State) (f : ArmCycle) : (judgePosition s f).mnt = s.mnt :=
  same_of_drop (m := 8589934720) (judgePosition_drop s f rfl) .mnt rfl
@[simp] theorem judgePosition_outbox (s : State) (f : ArmCycle) : (judgePosition s f).outbox = s.outbox :=
  same_of_drop (m := 8589934720) (judgePosition_drop s f rfl) .outbox rfl
@[simp] theorem actUrgent_dev (s : State) (code : Nat) (seq : Nat) : (actUrgent s code seq).dev = s.dev :=
  same_of_drop (m := 4960763748480) (actUrgent_drop s code seq rfl) .dev rfl
@[simp] theorem actUrgent_eng (s : State) (code : Nat) (seq : Nat) : (actUrgent s code seq).eng = s.eng :=
  same_of_drop (m := 4960763748480) (actUrgent_drop s code seq rfl) .eng rfl
@[simp] theorem actUrgent_img (s : State) (code : Nat) (seq : Nat) : (actUrgent s code seq).img = s.img :=
  same_of_drop (m := 4960763748480) (actUrgent_drop s code seq rfl) .img rfl
@[simp] theorem actUrgent_tim (s : State) (code : Nat) (seq : Nat) : (actUrgent s code seq).tim = s.tim :=
  same_of_drop (m := 4960763748480) (actUrgent_drop s code seq rfl) .tim rfl
@[simp] theorem actUrgent_arm_cell (s : State) (code : Nat) (seq : Nat) : (actUrgent s code seq).arm.cell = s.arm.cell := by
  have h := same_of_drop (m := 4960763748480) (actUrgent_drop s code seq rfl) .cell rfl
  simp only [Block.same] at h; simp only [h]
@[simp] theorem actUrgent_arm_changes (s : State) (code : Nat) (seq : Nat) : (actUrgent s code seq).arm.changes = s.arm.changes := by
  have h := same_of_drop (m := 4960763748480) (actUrgent_drop s code seq rfl) .cell rfl
  simp only [Block.same] at h; simp only [h]
@[simp] theorem actUrgent_arm_owner (s : State) (code : Nat) (seq : Nat) : (actUrgent s code seq).arm.owner = s.arm.owner := by
  have h := same_of_drop (m := 4960763748480) (actUrgent_drop s code seq rfl) .token rfl
  exact h
@[simp] theorem actUrgent_arm_bypassed (s : State) (code : Nat) (seq : Nat) : (actUrgent s code seq).arm.bypassed = s.arm.bypassed := by
  have h := same_of_drop (m := 4960763748480) (actUrgent_drop s code seq rfl) .bypass rfl
  exact h
@[simp] theorem actUrgent_pwm (s : State) (code : Nat) (seq : Nat) : (actUrgent s code seq).pwm = s.pwm :=
  same_of_drop (m := 4960763748480) (actUrgent_drop s code seq rfl) .pwm rfl
@[simp] theorem actUrgent_esA (s : State) (code : Nat) (seq : Nat) : (actUrgent s code seq).esA = s.esA :=
  same_of_drop (m := 4960763748480) (actUrgent_drop s code seq rfl) .esA rfl
@[simp] theorem actUrgent_esB (s : State) (code : Nat) (seq : Nat) : (actUrgent s code seq).esB = s.esB :=
  same_of_drop (m := 4960763748480) (actUrgent_drop s code seq rfl) .esB rfl
@[simp] theorem actUrgent_est (s : State) (code : Nat) (seq : Nat) : (actUrgent s code seq).est = s.est :=
  same_of_drop (m := 4960763748480) (actUrgent_drop s code seq rfl) .est rfl
@[simp] theorem actUrgent_prt (s : State) (code : Nat) (seq : Nat) : (actUrgent s code seq).prt = s.prt :=
  same_of_drop (m := 4960763748480) (actUrgent_drop s code seq rfl) .prt rfl
@[simp] theorem actUrgent_dvt (s : State) (code : Nat) (seq : Nat) : (actUrgent s code seq).dvt = s.dvt :=
  same_of_drop (m := 4960763748480) (actUrgent_drop s code seq rfl) .dvt rfl
@[simp] theorem actUrgent_lbus (s : State) (code : Nat) (seq : Nat) : (actUrgent s code seq).lbus = s.lbus :=
  same_of_drop (m := 4960763748480) (actUrgent_drop s code seq rfl) .lbus rfl
@[simp] theorem actUrgent_pwr (s : State) (code : Nat) (seq : Nat) : (actUrgent s code seq).pwr = s.pwr :=
  same_of_drop (m := 4960763748480) (actUrgent_drop s code seq rfl) .pwr rfl
@[simp] theorem actUrgent_sec (s : State) (code : Nat) (seq : Nat) : (actUrgent s code seq).sec = s.sec :=
  same_of_drop (m := 4960763748480) (actUrgent_drop s code seq rfl) .sec rfl
@[simp] theorem actUrgent_outbox (s : State) (code : Nat) (seq : Nat) : (actUrgent s code seq).outbox = s.outbox :=
  same_of_drop (m := 4960763748480) (actUrgent_drop s code seq rfl) .outbox rfl
@[simp] theorem actUrgent_thm_sdHotA (s : State) (code : Nat) (seq : Nat) : (actUrgent s code seq).thm.sdHotA = s.thm.sdHotA := by
  have h := same_of_drop (m := 4960763748480) (actUrgent_drop s code seq rfl) .shutdown rfl
  simp only [Block.same] at h; simp only [h]
@[simp] theorem actUrgent_thm_sdHotB (s : State) (code : Nat) (seq : Nat) : (actUrgent s code seq).thm.sdHotB = s.thm.sdHotB := by
  have h := same_of_drop (m := 4960763748480) (actUrgent_drop s code seq rfl) .shutdown rfl
  simp only [Block.same] at h; simp only [h]
@[simp] theorem actUrgent_thm_sdColdA (s : State) (code : Nat) (seq : Nat) : (actUrgent s code seq).thm.sdColdA = s.thm.sdColdA := by
  have h := same_of_drop (m := 4960763748480) (actUrgent_drop s code seq rfl) .shutdown rfl
  simp only [Block.same] at h; simp only [h]
@[simp] theorem actUrgent_thm_sdColdB (s : State) (code : Nat) (seq : Nat) : (actUrgent s code seq).thm.sdColdB = s.thm.sdColdB := by
  have h := same_of_drop (m := 4960763748480) (actUrgent_drop s code seq rfl) .shutdown rfl
  simp only [Block.same] at h; simp only [h]
@[simp] theorem forwardUrgent_dev (s : State) (port : RPort) (x : OrdSet) : (forwardUrgent s port x).dev = s.dev :=
  same_of_drop (m := 137438953600) (forwardUrgent_drop s port x rfl) .dev rfl
@[simp] theorem forwardUrgent_eng (s : State) (port : RPort) (x : OrdSet) : (forwardUrgent s port x).eng = s.eng :=
  same_of_drop (m := 137438953600) (forwardUrgent_drop s port x rfl) .eng rfl
@[simp] theorem forwardUrgent_img (s : State) (port : RPort) (x : OrdSet) : (forwardUrgent s port x).img = s.img :=
  same_of_drop (m := 137438953600) (forwardUrgent_drop s port x rfl) .img rfl
@[simp] theorem forwardUrgent_tim (s : State) (port : RPort) (x : OrdSet) : (forwardUrgent s port x).tim = s.tim :=
  same_of_drop (m := 137438953600) (forwardUrgent_drop s port x rfl) .tim rfl
@[simp] theorem forwardUrgent_arm (s : State) (port : RPort) (x : OrdSet) : (forwardUrgent s port x).arm = s.arm :=
  same_of_drop (m := 137438953600) (forwardUrgent_drop s port x rfl) .arm rfl
@[simp] theorem forwardUrgent_pwm (s : State) (port : RPort) (x : OrdSet) : (forwardUrgent s port x).pwm = s.pwm :=
  same_of_drop (m := 137438953600) (forwardUrgent_drop s port x rfl) .pwm rfl
@[simp] theorem forwardUrgent_glk (s : State) (port : RPort) (x : OrdSet) : (forwardUrgent s port x).glk = s.glk :=
  same_of_drop (m := 137438953600) (forwardUrgent_drop s port x rfl) .glk rfl
@[simp] theorem forwardUrgent_chA (s : State) (port : RPort) (x : OrdSet) : (forwardUrgent s port x).chA = s.chA :=
  same_of_drop (m := 137438953600) (forwardUrgent_drop s port x rfl) .chA rfl
@[simp] theorem forwardUrgent_chB (s : State) (port : RPort) (x : OrdSet) : (forwardUrgent s port x).chB = s.chB :=
  same_of_drop (m := 137438953600) (forwardUrgent_drop s port x rfl) .chB rfl
@[simp] theorem forwardUrgent_snA (s : State) (port : RPort) (x : OrdSet) : (forwardUrgent s port x).snA = s.snA :=
  same_of_drop (m := 137438953600) (forwardUrgent_drop s port x rfl) .snA rfl
@[simp] theorem forwardUrgent_snB (s : State) (port : RPort) (x : OrdSet) : (forwardUrgent s port x).snB = s.snB :=
  same_of_drop (m := 137438953600) (forwardUrgent_drop s port x rfl) .snB rfl
@[simp] theorem forwardUrgent_esA (s : State) (port : RPort) (x : OrdSet) : (forwardUrgent s port x).esA = s.esA :=
  same_of_drop (m := 137438953600) (forwardUrgent_drop s port x rfl) .esA rfl
@[simp] theorem forwardUrgent_esB (s : State) (port : RPort) (x : OrdSet) : (forwardUrgent s port x).esB = s.esB :=
  same_of_drop (m := 137438953600) (forwardUrgent_drop s port x rfl) .esB rfl
@[simp] theorem forwardUrgent_est (s : State) (port : RPort) (x : OrdSet) : (forwardUrgent s port x).est = s.est :=
  same_of_drop (m := 137438953600) (forwardUrgent_drop s port x rfl) .est rfl
@[simp] theorem forwardUrgent_thm (s : State) (port : RPort) (x : OrdSet) : (forwardUrgent s port x).thm = s.thm :=
  same_of_drop (m := 137438953600) (forwardUrgent_drop s port x rfl) .thm rfl
@[simp] theorem forwardUrgent_prt (s : State) (port : RPort) (x : OrdSet) : (forwardUrgent s port x).prt = s.prt :=
  same_of_drop (m := 137438953600) (forwardUrgent_drop s port x rfl) .prt rfl
@[simp] theorem forwardUrgent_dvt (s : State) (port : RPort) (x : OrdSet) : (forwardUrgent s port x).dvt = s.dvt :=
  same_of_drop (m := 137438953600) (forwardUrgent_drop s port x rfl) .dvt rfl
@[simp] theorem forwardUrgent_lsw (s : State) (port : RPort) (x : OrdSet) : (forwardUrgent s port x).lsw = s.lsw :=
  same_of_drop (m := 137438953600) (forwardUrgent_drop s port x rfl) .lsw rfl
@[simp] theorem forwardUrgent_lbus (s : State) (port : RPort) (x : OrdSet) : (forwardUrgent s port x).lbus = s.lbus :=
  same_of_drop (m := 137438953600) (forwardUrgent_drop s port x rfl) .lbus rfl
@[simp] theorem forwardUrgent_pwr (s : State) (port : RPort) (x : OrdSet) : (forwardUrgent s port x).pwr = s.pwr :=
  same_of_drop (m := 137438953600) (forwardUrgent_drop s port x rfl) .pwr rfl
@[simp] theorem forwardUrgent_sec (s : State) (port : RPort) (x : OrdSet) : (forwardUrgent s port x).sec = s.sec :=
  same_of_drop (m := 137438953600) (forwardUrgent_drop s port x rfl) .sec rfl
@[simp] theorem forwardUrgent_mnt (s : State) (port : RPort) (x : OrdSet) : (forwardUrgent s port x).mnt = s.mnt :=
  same_of_drop (m := 137438953600) (forwardUrgent_drop s port x rfl) .mnt rfl
@[simp] theorem forwardUrgent_evt (s : State) (port : RPort) (x : OrdSet) : (forwardUrgent s port x).evt = s.evt :=
  same_of_drop (m := 137438953600) (forwardUrgent_drop s port x rfl) .evt rfl
@[simp] theorem recordPub_dev (s : State) (p : Nat) (c : Nat) (b : CellStatus) : (recordPub s p c b).dev = s.dev :=
  same_of_drop (m := 128) (recordPub_drop s p c b rfl) .dev rfl
@[simp] theorem recordPub_eng (s : State) (p : Nat) (c : Nat) (b : CellStatus) : (recordPub s p c b).eng = s.eng :=
  same_of_drop (m := 128) (recordPub_drop s p c b rfl) .eng rfl
@[simp] theorem recordPub_img (s : State) (p : Nat) (c : Nat) (b : CellStatus) : (recordPub s p c b).img = s.img :=
  same_of_drop (m := 128) (recordPub_drop s p c b rfl) .img rfl
@[simp] theorem recordPub_tim (s : State) (p : Nat) (c : Nat) (b : CellStatus) : (recordPub s p c b).tim = s.tim :=
  same_of_drop (m := 128) (recordPub_drop s p c b rfl) .tim rfl
@[simp] theorem recordPub_arm (s : State) (p : Nat) (c : Nat) (b : CellStatus) : (recordPub s p c b).arm = s.arm :=
  same_of_drop (m := 128) (recordPub_drop s p c b rfl) .arm rfl
@[simp] theorem recordPub_pwm (s : State) (p : Nat) (c : Nat) (b : CellStatus) : (recordPub s p c b).pwm = s.pwm :=
  same_of_drop (m := 128) (recordPub_drop s p c b rfl) .pwm rfl
@[simp] theorem recordPub_glk (s : State) (p : Nat) (c : Nat) (b : CellStatus) : (recordPub s p c b).glk = s.glk :=
  same_of_drop (m := 128) (recordPub_drop s p c b rfl) .glk rfl
@[simp] theorem recordPub_chA (s : State) (p : Nat) (c : Nat) (b : CellStatus) : (recordPub s p c b).chA = s.chA :=
  same_of_drop (m := 128) (recordPub_drop s p c b rfl) .chA rfl
@[simp] theorem recordPub_chB (s : State) (p : Nat) (c : Nat) (b : CellStatus) : (recordPub s p c b).chB = s.chB :=
  same_of_drop (m := 128) (recordPub_drop s p c b rfl) .chB rfl
@[simp] theorem recordPub_snA (s : State) (p : Nat) (c : Nat) (b : CellStatus) : (recordPub s p c b).snA = s.snA :=
  same_of_drop (m := 128) (recordPub_drop s p c b rfl) .snA rfl
@[simp] theorem recordPub_snB (s : State) (p : Nat) (c : Nat) (b : CellStatus) : (recordPub s p c b).snB = s.snB :=
  same_of_drop (m := 128) (recordPub_drop s p c b rfl) .snB rfl
@[simp] theorem recordPub_esA (s : State) (p : Nat) (c : Nat) (b : CellStatus) : (recordPub s p c b).esA = s.esA :=
  same_of_drop (m := 128) (recordPub_drop s p c b rfl) .esA rfl
@[simp] theorem recordPub_esB (s : State) (p : Nat) (c : Nat) (b : CellStatus) : (recordPub s p c b).esB = s.esB :=
  same_of_drop (m := 128) (recordPub_drop s p c b rfl) .esB rfl
@[simp] theorem recordPub_est (s : State) (p : Nat) (c : Nat) (b : CellStatus) : (recordPub s p c b).est = s.est :=
  same_of_drop (m := 128) (recordPub_drop s p c b rfl) .est rfl
@[simp] theorem recordPub_thm (s : State) (p : Nat) (c : Nat) (b : CellStatus) : (recordPub s p c b).thm = s.thm :=
  same_of_drop (m := 128) (recordPub_drop s p c b rfl) .thm rfl
@[simp] theorem recordPub_prt (s : State) (p : Nat) (c : Nat) (b : CellStatus) : (recordPub s p c b).prt = s.prt :=
  same_of_drop (m := 128) (recordPub_drop s p c b rfl) .prt rfl
@[simp] theorem recordPub_dvt (s : State) (p : Nat) (c : Nat) (b : CellStatus) : (recordPub s p c b).dvt = s.dvt :=
  same_of_drop (m := 128) (recordPub_drop s p c b rfl) .dvt rfl
@[simp] theorem recordPub_lsw (s : State) (p : Nat) (c : Nat) (b : CellStatus) : (recordPub s p c b).lsw = s.lsw :=
  same_of_drop (m := 128) (recordPub_drop s p c b rfl) .lsw rfl
@[simp] theorem recordPub_lbus (s : State) (p : Nat) (c : Nat) (b : CellStatus) : (recordPub s p c b).lbus = s.lbus :=
  same_of_drop (m := 128) (recordPub_drop s p c b rfl) .lbus rfl
@[simp] theorem recordPub_pwr (s : State) (p : Nat) (c : Nat) (b : CellStatus) : (recordPub s p c b).pwr = s.pwr :=
  same_of_drop (m := 128) (recordPub_drop s p c b rfl) .pwr rfl
@[simp] theorem recordPub_sec (s : State) (p : Nat) (c : Nat) (b : CellStatus) : (recordPub s p c b).sec = s.sec :=
  same_of_drop (m := 128) (recordPub_drop s p c b rfl) .sec rfl
@[simp] theorem recordPub_mnt (s : State) (p : Nat) (c : Nat) (b : CellStatus) : (recordPub s p c b).mnt = s.mnt :=
  same_of_drop (m := 128) (recordPub_drop s p c b rfl) .mnt rfl
@[simp] theorem recordPub_evt (s : State) (p : Nat) (c : Nat) (b : CellStatus) : (recordPub s p c b).evt = s.evt :=
  same_of_drop (m := 128) (recordPub_drop s p c b rfl) .evt rfl
@[simp] theorem recordPub_outbox (s : State) (p : Nat) (c : Nat) (b : CellStatus) : (recordPub s p c b).outbox = s.outbox :=
  same_of_drop (m := 128) (recordPub_drop s p c b rfl) .outbox rfl
@[simp] theorem takeRegOp_dev (cycle : Nat) (s : State) (o : RegOp) : (takeRegOp cycle s o).dev = s.dev :=
  same_of_drop (m := 128) (takeRegOp_drop cycle s o rfl) .dev rfl
@[simp] theorem takeRegOp_eng (cycle : Nat) (s : State) (o : RegOp) : (takeRegOp cycle s o).eng = s.eng :=
  same_of_drop (m := 128) (takeRegOp_drop cycle s o rfl) .eng rfl
@[simp] theorem takeRegOp_img (cycle : Nat) (s : State) (o : RegOp) : (takeRegOp cycle s o).img = s.img :=
  same_of_drop (m := 128) (takeRegOp_drop cycle s o rfl) .img rfl
@[simp] theorem takeRegOp_tim (cycle : Nat) (s : State) (o : RegOp) : (takeRegOp cycle s o).tim = s.tim :=
  same_of_drop (m := 128) (takeRegOp_drop cycle s o rfl) .tim rfl
@[simp] theorem takeRegOp_arm (cycle : Nat) (s : State) (o : RegOp) : (takeRegOp cycle s o).arm = s.arm :=
  same_of_drop (m := 128) (takeRegOp_drop cycle s o rfl) .arm rfl
@[simp] theorem takeRegOp_pwm (cycle : Nat) (s : State) (o : RegOp) : (takeRegOp cycle s o).pwm = s.pwm :=
  same_of_drop (m := 128) (takeRegOp_drop cycle s o rfl) .pwm rfl
@[simp] theorem takeRegOp_glk (cycle : Nat) (s : State) (o : RegOp) : (takeRegOp cycle s o).glk = s.glk :=
  same_of_drop (m := 128) (takeRegOp_drop cycle s o rfl) .glk rfl
@[simp] theorem takeRegOp_chA (cycle : Nat) (s : State) (o : RegOp) : (takeRegOp cycle s o).chA = s.chA :=
  same_of_drop (m := 128) (takeRegOp_drop cycle s o rfl) .chA rfl
@[simp] theorem takeRegOp_chB (cycle : Nat) (s : State) (o : RegOp) : (takeRegOp cycle s o).chB = s.chB :=
  same_of_drop (m := 128) (takeRegOp_drop cycle s o rfl) .chB rfl
@[simp] theorem takeRegOp_snA (cycle : Nat) (s : State) (o : RegOp) : (takeRegOp cycle s o).snA = s.snA :=
  same_of_drop (m := 128) (takeRegOp_drop cycle s o rfl) .snA rfl
@[simp] theorem takeRegOp_snB (cycle : Nat) (s : State) (o : RegOp) : (takeRegOp cycle s o).snB = s.snB :=
  same_of_drop (m := 128) (takeRegOp_drop cycle s o rfl) .snB rfl
@[simp] theorem takeRegOp_esA (cycle : Nat) (s : State) (o : RegOp) : (takeRegOp cycle s o).esA = s.esA :=
  same_of_drop (m := 128) (takeRegOp_drop cycle s o rfl) .esA rfl
@[simp] theorem takeRegOp_esB (cycle : Nat) (s : State) (o : RegOp) : (takeRegOp cycle s o).esB = s.esB :=
  same_of_drop (m := 128) (takeRegOp_drop cycle s o rfl) .esB rfl
@[simp] theorem takeRegOp_est (cycle : Nat) (s : State) (o : RegOp) : (takeRegOp cycle s o).est = s.est :=
  same_of_drop (m := 128) (takeRegOp_drop cycle s o rfl) .est rfl
@[simp] theorem takeRegOp_thm (cycle : Nat) (s : State) (o : RegOp) : (takeRegOp cycle s o).thm = s.thm :=
  same_of_drop (m := 128) (takeRegOp_drop cycle s o rfl) .thm rfl
@[simp] theorem takeRegOp_prt (cycle : Nat) (s : State) (o : RegOp) : (takeRegOp cycle s o).prt = s.prt :=
  same_of_drop (m := 128) (takeRegOp_drop cycle s o rfl) .prt rfl
@[simp] theorem takeRegOp_dvt (cycle : Nat) (s : State) (o : RegOp) : (takeRegOp cycle s o).dvt = s.dvt :=
  same_of_drop (m := 128) (takeRegOp_drop cycle s o rfl) .dvt rfl
@[simp] theorem takeRegOp_lsw (cycle : Nat) (s : State) (o : RegOp) : (takeRegOp cycle s o).lsw = s.lsw :=
  same_of_drop (m := 128) (takeRegOp_drop cycle s o rfl) .lsw rfl
@[simp] theorem takeRegOp_lbus (cycle : Nat) (s : State) (o : RegOp) : (takeRegOp cycle s o).lbus = s.lbus :=
  same_of_drop (m := 128) (takeRegOp_drop cycle s o rfl) .lbus rfl
@[simp] theorem takeRegOp_pwr (cycle : Nat) (s : State) (o : RegOp) : (takeRegOp cycle s o).pwr = s.pwr :=
  same_of_drop (m := 128) (takeRegOp_drop cycle s o rfl) .pwr rfl
@[simp] theorem takeRegOp_sec (cycle : Nat) (s : State) (o : RegOp) : (takeRegOp cycle s o).sec = s.sec :=
  same_of_drop (m := 128) (takeRegOp_drop cycle s o rfl) .sec rfl
@[simp] theorem takeRegOp_mnt (cycle : Nat) (s : State) (o : RegOp) : (takeRegOp cycle s o).mnt = s.mnt :=
  same_of_drop (m := 128) (takeRegOp_drop cycle s o rfl) .mnt rfl
@[simp] theorem takeRegOp_evt (cycle : Nat) (s : State) (o : RegOp) : (takeRegOp cycle s o).evt = s.evt :=
  same_of_drop (m := 128) (takeRegOp_drop cycle s o rfl) .evt rfl
@[simp] theorem takeRegOp_outbox (cycle : Nat) (s : State) (o : RegOp) : (takeRegOp cycle s o).outbox = s.outbox :=
  same_of_drop (m := 128) (takeRegOp_drop cycle s o rfl) .outbox rfl
@[simp] theorem pushFrozen_dev (s : State) (f : OwnFrame) : (pushFrozen s f).dev = s.dev :=
  same_of_drop (m := 128) (pushFrozen_drop s f rfl) .dev rfl
@[simp] theorem pushFrozen_eng (s : State) (f : OwnFrame) : (pushFrozen s f).eng = s.eng :=
  same_of_drop (m := 128) (pushFrozen_drop s f rfl) .eng rfl
@[simp] theorem pushFrozen_img (s : State) (f : OwnFrame) : (pushFrozen s f).img = s.img :=
  same_of_drop (m := 128) (pushFrozen_drop s f rfl) .img rfl
@[simp] theorem pushFrozen_tim (s : State) (f : OwnFrame) : (pushFrozen s f).tim = s.tim :=
  same_of_drop (m := 128) (pushFrozen_drop s f rfl) .tim rfl
@[simp] theorem pushFrozen_arm (s : State) (f : OwnFrame) : (pushFrozen s f).arm = s.arm :=
  same_of_drop (m := 128) (pushFrozen_drop s f rfl) .arm rfl
@[simp] theorem pushFrozen_pwm (s : State) (f : OwnFrame) : (pushFrozen s f).pwm = s.pwm :=
  same_of_drop (m := 128) (pushFrozen_drop s f rfl) .pwm rfl
@[simp] theorem pushFrozen_glk (s : State) (f : OwnFrame) : (pushFrozen s f).glk = s.glk :=
  same_of_drop (m := 128) (pushFrozen_drop s f rfl) .glk rfl
@[simp] theorem pushFrozen_chA (s : State) (f : OwnFrame) : (pushFrozen s f).chA = s.chA :=
  same_of_drop (m := 128) (pushFrozen_drop s f rfl) .chA rfl
@[simp] theorem pushFrozen_chB (s : State) (f : OwnFrame) : (pushFrozen s f).chB = s.chB :=
  same_of_drop (m := 128) (pushFrozen_drop s f rfl) .chB rfl
@[simp] theorem pushFrozen_snA (s : State) (f : OwnFrame) : (pushFrozen s f).snA = s.snA :=
  same_of_drop (m := 128) (pushFrozen_drop s f rfl) .snA rfl
@[simp] theorem pushFrozen_snB (s : State) (f : OwnFrame) : (pushFrozen s f).snB = s.snB :=
  same_of_drop (m := 128) (pushFrozen_drop s f rfl) .snB rfl
@[simp] theorem pushFrozen_esA (s : State) (f : OwnFrame) : (pushFrozen s f).esA = s.esA :=
  same_of_drop (m := 128) (pushFrozen_drop s f rfl) .esA rfl
@[simp] theorem pushFrozen_esB (s : State) (f : OwnFrame) : (pushFrozen s f).esB = s.esB :=
  same_of_drop (m := 128) (pushFrozen_drop s f rfl) .esB rfl
@[simp] theorem pushFrozen_est (s : State) (f : OwnFrame) : (pushFrozen s f).est = s.est :=
  same_of_drop (m := 128) (pushFrozen_drop s f rfl) .est rfl
@[simp] theorem pushFrozen_thm (s : State) (f : OwnFrame) : (pushFrozen s f).thm = s.thm :=
  same_of_drop (m := 128) (pushFrozen_drop s f rfl) .thm rfl
@[simp] theorem pushFrozen_prt (s : State) (f : OwnFrame) : (pushFrozen s f).prt = s.prt :=
  same_of_drop (m := 128) (pushFrozen_drop s f rfl) .prt rfl
@[simp] theorem pushFrozen_dvt (s : State) (f : OwnFrame) : (pushFrozen s f).dvt = s.dvt :=
  same_of_drop (m := 128) (pushFrozen_drop s f rfl) .dvt rfl
@[simp] theorem pushFrozen_lsw (s : State) (f : OwnFrame) : (pushFrozen s f).lsw = s.lsw :=
  same_of_drop (m := 128) (pushFrozen_drop s f rfl) .lsw rfl
@[simp] theorem pushFrozen_lbus (s : State) (f : OwnFrame) : (pushFrozen s f).lbus = s.lbus :=
  same_of_drop (m := 128) (pushFrozen_drop s f rfl) .lbus rfl
@[simp] theorem pushFrozen_pwr (s : State) (f : OwnFrame) : (pushFrozen s f).pwr = s.pwr :=
  same_of_drop (m := 128) (pushFrozen_drop s f rfl) .pwr rfl
@[simp] theorem pushFrozen_sec (s : State) (f : OwnFrame) : (pushFrozen s f).sec = s.sec :=
  same_of_drop (m := 128) (pushFrozen_drop s f rfl) .sec rfl
@[simp] theorem pushFrozen_mnt (s : State) (f : OwnFrame) : (pushFrozen s f).mnt = s.mnt :=
  same_of_drop (m := 128) (pushFrozen_drop s f rfl) .mnt rfl
@[simp] theorem pushFrozen_evt (s : State) (f : OwnFrame) : (pushFrozen s f).evt = s.evt :=
  same_of_drop (m := 128) (pushFrozen_drop s f rfl) .evt rfl
@[simp] theorem pushFrozen_outbox (s : State) (f : OwnFrame) : (pushFrozen s f).outbox = s.outbox :=
  same_of_drop (m := 128) (pushFrozen_drop s f rfl) .outbox rfl
@[simp] theorem guardHit_dev (s : State) (port : RPort) : (guardHit s port).dev = s.dev :=
  same_of_drop (m := 8589934720) (guardHit_drop s port rfl) .dev rfl
@[simp] theorem guardHit_eng (s : State) (port : RPort) : (guardHit s port).eng = s.eng :=
  same_of_drop (m := 8589934720) (guardHit_drop s port rfl) .eng rfl
@[simp] theorem guardHit_img (s : State) (port : RPort) : (guardHit s port).img = s.img :=
  same_of_drop (m := 8589934720) (guardHit_drop s port rfl) .img rfl
@[simp] theorem guardHit_tim (s : State) (port : RPort) : (guardHit s port).tim = s.tim :=
  same_of_drop (m := 8589934720) (guardHit_drop s port rfl) .tim rfl
@[simp] theorem guardHit_arm (s : State) (port : RPort) : (guardHit s port).arm = s.arm :=
  same_of_drop (m := 8589934720) (guardHit_drop s port rfl) .arm rfl
@[simp] theorem guardHit_pwm (s : State) (port : RPort) : (guardHit s port).pwm = s.pwm :=
  same_of_drop (m := 8589934720) (guardHit_drop s port rfl) .pwm rfl
@[simp] theorem guardHit_glk (s : State) (port : RPort) : (guardHit s port).glk = s.glk :=
  same_of_drop (m := 8589934720) (guardHit_drop s port rfl) .glk rfl
@[simp] theorem guardHit_chA (s : State) (port : RPort) : (guardHit s port).chA = s.chA :=
  same_of_drop (m := 8589934720) (guardHit_drop s port rfl) .chA rfl
@[simp] theorem guardHit_chB (s : State) (port : RPort) : (guardHit s port).chB = s.chB :=
  same_of_drop (m := 8589934720) (guardHit_drop s port rfl) .chB rfl
@[simp] theorem guardHit_snA (s : State) (port : RPort) : (guardHit s port).snA = s.snA :=
  same_of_drop (m := 8589934720) (guardHit_drop s port rfl) .snA rfl
@[simp] theorem guardHit_snB (s : State) (port : RPort) : (guardHit s port).snB = s.snB :=
  same_of_drop (m := 8589934720) (guardHit_drop s port rfl) .snB rfl
@[simp] theorem guardHit_esA (s : State) (port : RPort) : (guardHit s port).esA = s.esA :=
  same_of_drop (m := 8589934720) (guardHit_drop s port rfl) .esA rfl
@[simp] theorem guardHit_esB (s : State) (port : RPort) : (guardHit s port).esB = s.esB :=
  same_of_drop (m := 8589934720) (guardHit_drop s port rfl) .esB rfl
@[simp] theorem guardHit_est (s : State) (port : RPort) : (guardHit s port).est = s.est :=
  same_of_drop (m := 8589934720) (guardHit_drop s port rfl) .est rfl
@[simp] theorem guardHit_thm (s : State) (port : RPort) : (guardHit s port).thm = s.thm :=
  same_of_drop (m := 8589934720) (guardHit_drop s port rfl) .thm rfl
@[simp] theorem guardHit_prt (s : State) (port : RPort) : (guardHit s port).prt = s.prt :=
  same_of_drop (m := 8589934720) (guardHit_drop s port rfl) .prt rfl
@[simp] theorem guardHit_dvt (s : State) (port : RPort) : (guardHit s port).dvt = s.dvt :=
  same_of_drop (m := 8589934720) (guardHit_drop s port rfl) .dvt rfl
@[simp] theorem guardHit_lsw (s : State) (port : RPort) : (guardHit s port).lsw = s.lsw :=
  same_of_drop (m := 8589934720) (guardHit_drop s port rfl) .lsw rfl
@[simp] theorem guardHit_lbus (s : State) (port : RPort) : (guardHit s port).lbus = s.lbus :=
  same_of_drop (m := 8589934720) (guardHit_drop s port rfl) .lbus rfl
@[simp] theorem guardHit_pwr (s : State) (port : RPort) : (guardHit s port).pwr = s.pwr :=
  same_of_drop (m := 8589934720) (guardHit_drop s port rfl) .pwr rfl
@[simp] theorem guardHit_sec (s : State) (port : RPort) : (guardHit s port).sec = s.sec :=
  same_of_drop (m := 8589934720) (guardHit_drop s port rfl) .sec rfl
@[simp] theorem guardHit_mnt (s : State) (port : RPort) : (guardHit s port).mnt = s.mnt :=
  same_of_drop (m := 8589934720) (guardHit_drop s port rfl) .mnt rfl
@[simp] theorem guardHit_outbox (s : State) (port : RPort) : (guardHit s port).outbox = s.outbox :=
  same_of_drop (m := 8589934720) (guardHit_drop s port rfl) .outbox rfl
@[simp] theorem recordOwn_dev (s : State) (f : OwnFrame) : (recordOwn s f).dev = s.dev :=
  same_of_drop (m := 128) (recordOwn_drop s f rfl) .dev rfl
@[simp] theorem recordOwn_eng (s : State) (f : OwnFrame) : (recordOwn s f).eng = s.eng :=
  same_of_drop (m := 128) (recordOwn_drop s f rfl) .eng rfl
@[simp] theorem recordOwn_img (s : State) (f : OwnFrame) : (recordOwn s f).img = s.img :=
  same_of_drop (m := 128) (recordOwn_drop s f rfl) .img rfl
@[simp] theorem recordOwn_tim (s : State) (f : OwnFrame) : (recordOwn s f).tim = s.tim :=
  same_of_drop (m := 128) (recordOwn_drop s f rfl) .tim rfl
@[simp] theorem recordOwn_arm (s : State) (f : OwnFrame) : (recordOwn s f).arm = s.arm :=
  same_of_drop (m := 128) (recordOwn_drop s f rfl) .arm rfl
@[simp] theorem recordOwn_pwm (s : State) (f : OwnFrame) : (recordOwn s f).pwm = s.pwm :=
  same_of_drop (m := 128) (recordOwn_drop s f rfl) .pwm rfl
@[simp] theorem recordOwn_glk (s : State) (f : OwnFrame) : (recordOwn s f).glk = s.glk :=
  same_of_drop (m := 128) (recordOwn_drop s f rfl) .glk rfl
@[simp] theorem recordOwn_chA (s : State) (f : OwnFrame) : (recordOwn s f).chA = s.chA :=
  same_of_drop (m := 128) (recordOwn_drop s f rfl) .chA rfl
@[simp] theorem recordOwn_chB (s : State) (f : OwnFrame) : (recordOwn s f).chB = s.chB :=
  same_of_drop (m := 128) (recordOwn_drop s f rfl) .chB rfl
@[simp] theorem recordOwn_snA (s : State) (f : OwnFrame) : (recordOwn s f).snA = s.snA :=
  same_of_drop (m := 128) (recordOwn_drop s f rfl) .snA rfl
@[simp] theorem recordOwn_snB (s : State) (f : OwnFrame) : (recordOwn s f).snB = s.snB :=
  same_of_drop (m := 128) (recordOwn_drop s f rfl) .snB rfl
@[simp] theorem recordOwn_esA (s : State) (f : OwnFrame) : (recordOwn s f).esA = s.esA :=
  same_of_drop (m := 128) (recordOwn_drop s f rfl) .esA rfl
@[simp] theorem recordOwn_esB (s : State) (f : OwnFrame) : (recordOwn s f).esB = s.esB :=
  same_of_drop (m := 128) (recordOwn_drop s f rfl) .esB rfl
@[simp] theorem recordOwn_est (s : State) (f : OwnFrame) : (recordOwn s f).est = s.est :=
  same_of_drop (m := 128) (recordOwn_drop s f rfl) .est rfl
@[simp] theorem recordOwn_thm (s : State) (f : OwnFrame) : (recordOwn s f).thm = s.thm :=
  same_of_drop (m := 128) (recordOwn_drop s f rfl) .thm rfl
@[simp] theorem recordOwn_prt (s : State) (f : OwnFrame) : (recordOwn s f).prt = s.prt :=
  same_of_drop (m := 128) (recordOwn_drop s f rfl) .prt rfl
@[simp] theorem recordOwn_dvt (s : State) (f : OwnFrame) : (recordOwn s f).dvt = s.dvt :=
  same_of_drop (m := 128) (recordOwn_drop s f rfl) .dvt rfl
@[simp] theorem recordOwn_lsw (s : State) (f : OwnFrame) : (recordOwn s f).lsw = s.lsw :=
  same_of_drop (m := 128) (recordOwn_drop s f rfl) .lsw rfl
@[simp] theorem recordOwn_lbus (s : State) (f : OwnFrame) : (recordOwn s f).lbus = s.lbus :=
  same_of_drop (m := 128) (recordOwn_drop s f rfl) .lbus rfl
@[simp] theorem recordOwn_pwr (s : State) (f : OwnFrame) : (recordOwn s f).pwr = s.pwr :=
  same_of_drop (m := 128) (recordOwn_drop s f rfl) .pwr rfl
@[simp] theorem recordOwn_sec (s : State) (f : OwnFrame) : (recordOwn s f).sec = s.sec :=
  same_of_drop (m := 128) (recordOwn_drop s f rfl) .sec rfl
@[simp] theorem recordOwn_mnt (s : State) (f : OwnFrame) : (recordOwn s f).mnt = s.mnt :=
  same_of_drop (m := 128) (recordOwn_drop s f rfl) .mnt rfl
@[simp] theorem recordOwn_evt (s : State) (f : OwnFrame) : (recordOwn s f).evt = s.evt :=
  same_of_drop (m := 128) (recordOwn_drop s f rfl) .evt rfl
@[simp] theorem recordOwn_outbox (s : State) (f : OwnFrame) : (recordOwn s f).outbox = s.outbox :=
  same_of_drop (m := 128) (recordOwn_drop s f rfl) .outbox rfl
@[simp] theorem deliverArm_dev (s : State) (f : ArmCycle) (b : List Byte) : (deliverArm s f b).dev = s.dev :=
  same_of_drop (m := 6060292153536) (deliverArm_drop s f b rfl) .dev rfl
@[simp] theorem deliverArm_eng (s : State) (f : ArmCycle) (b : List Byte) : (deliverArm s f b).eng = s.eng :=
  same_of_drop (m := 6060292153536) (deliverArm_drop s f b rfl) .eng rfl
@[simp] theorem deliverArm_img_slotA (s : State) (f : ArmCycle) (b : List Byte) : (deliverArm s f b).img.slotA = s.img.slotA := by
  have h := same_of_drop (m := 6060292153536) (deliverArm_drop s f b rfl) .slots rfl
  simp only [Block.same] at h; simp only [h]
@[simp] theorem deliverArm_img_slotB (s : State) (f : ArmCycle) (b : List Byte) : (deliverArm s f b).img.slotB = s.img.slotB := by
  have h := same_of_drop (m := 6060292153536) (deliverArm_drop s f b rfl) .slots rfl
  simp only [Block.same] at h; simp only [h]
@[simp] theorem deliverArm_img_active (s : State) (f : ArmCycle) (b : List Byte) : (deliverArm s f b).img.active = s.img.active := by
  have h := same_of_drop (m := 6060292153536) (deliverArm_drop s f b rfl) .image rfl
  exact h
@[simp] theorem deliverArm_tim (s : State) (f : ArmCycle) (b : List Byte) : (deliverArm s f b).tim = s.tim :=
  same_of_drop (m := 6060292153536) (deliverArm_drop s f b rfl) .tim rfl
@[simp] theorem deliverArm_arm_cell (s : State) (f : ArmCycle) (b : List Byte) : (deliverArm s f b).arm.cell = s.arm.cell := by
  have h := same_of_drop (m := 6060292153536) (deliverArm_drop s f b rfl) .cell rfl
  simp only [Block.same] at h; simp only [h]
@[simp] theorem deliverArm_arm_changes (s : State) (f : ArmCycle) (b : List Byte) : (deliverArm s f b).arm.changes = s.arm.changes := by
  have h := same_of_drop (m := 6060292153536) (deliverArm_drop s f b rfl) .cell rfl
  simp only [Block.same] at h; simp only [h]
@[simp] theorem deliverArm_arm_owner (s : State) (f : ArmCycle) (b : List Byte) : (deliverArm s f b).arm.owner = s.arm.owner := by
  have h := same_of_drop (m := 6060292153536) (deliverArm_drop s f b rfl) .token rfl
  exact h
@[simp] theorem deliverArm_arm_bypassed (s : State) (f : ArmCycle) (b : List Byte) : (deliverArm s f b).arm.bypassed = s.arm.bypassed := by
  have h := same_of_drop (m := 6060292153536) (deliverArm_drop s f b rfl) .bypass rfl
  exact h
@[simp] theorem deliverArm_pwm (s : State) (f : ArmCycle) (b : List Byte) : (deliverArm s f b).pwm = s.pwm :=
  same_of_drop (m := 6060292153536) (deliverArm_drop s f b rfl) .pwm rfl
@[simp] theorem deliverArm_esA (s : State) (f : ArmCycle) (b : List Byte) : (deliverArm s f b).esA = s.esA :=
  same_of_drop (m := 6060292153536) (deliverArm_drop s f b rfl) .esA rfl
@[simp] theorem deliverArm_esB (s : State) (f : ArmCycle) (b : List Byte) : (deliverArm s f b).esB = s.esB :=
  same_of_drop (m := 6060292153536) (deliverArm_drop s f b rfl) .esB rfl
@[simp] theorem deliverArm_est (s : State) (f : ArmCycle) (b : List Byte) : (deliverArm s f b).est = s.est :=
  same_of_drop (m := 6060292153536) (deliverArm_drop s f b rfl) .est rfl
@[simp] theorem deliverArm_dvt (s : State) (f : ArmCycle) (b : List Byte) : (deliverArm s f b).dvt = s.dvt :=
  same_of_drop (m := 6060292153536) (deliverArm_drop s f b rfl) .dvt rfl
@[simp] theorem deliverArm_lbus (s : State) (f : ArmCycle) (b : List Byte) : (deliverArm s f b).lbus = s.lbus :=
  same_of_drop (m := 6060292153536) (deliverArm_drop s f b rfl) .lbus rfl
@[simp] theorem deliverArm_pwr (s : State) (f : ArmCycle) (b : List Byte) : (deliverArm s f b).pwr = s.pwr :=
  same_of_drop (m := 6060292153536) (deliverArm_drop s f b rfl) .pwr rfl
@[simp] theorem deliverArm_sec (s : State) (f : ArmCycle) (b : List Byte) : (deliverArm s f b).sec = s.sec :=
  same_of_drop (m := 6060292153536) (deliverArm_drop s f b rfl) .sec rfl
@[simp] theorem deliverArm_outbox (s : State) (f : ArmCycle) (b : List Byte) : (deliverArm s f b).outbox = s.outbox :=
  same_of_drop (m := 6060292153536) (deliverArm_drop s f b rfl) .outbox rfl
@[simp] theorem deliverArm_thm_sdHotA (s : State) (f : ArmCycle) (b : List Byte) : (deliverArm s f b).thm.sdHotA = s.thm.sdHotA := by
  have h := same_of_drop (m := 6060292153536) (deliverArm_drop s f b rfl) .shutdown rfl
  simp only [Block.same] at h; simp only [h]
@[simp] theorem deliverArm_thm_sdHotB (s : State) (f : ArmCycle) (b : List Byte) : (deliverArm s f b).thm.sdHotB = s.thm.sdHotB := by
  have h := same_of_drop (m := 6060292153536) (deliverArm_drop s f b rfl) .shutdown rfl
  simp only [Block.same] at h; simp only [h]
@[simp] theorem deliverArm_thm_sdColdA (s : State) (f : ArmCycle) (b : List Byte) : (deliverArm s f b).thm.sdColdA = s.thm.sdColdA := by
  have h := same_of_drop (m := 6060292153536) (deliverArm_drop s f b rfl) .shutdown rfl
  simp only [Block.same] at h; simp only [h]
@[simp] theorem deliverArm_thm_sdColdB (s : State) (f : ArmCycle) (b : List Byte) : (deliverArm s f b).thm.sdColdB = s.thm.sdColdB := by
  have h := same_of_drop (m := 6060292153536) (deliverArm_drop s f b rfl) .shutdown rfl
  simp only [Block.same] at h; simp only [h]
@[simp] theorem windowPub_dev (s : State) (p : Nat) (b : CellStatus) : (windowPub s p b).dev = s.dev :=
  same_of_drop (m := 64) (windowPub_drop s p b rfl) .dev rfl
@[simp] theorem windowPub_eng (s : State) (p : Nat) (b : CellStatus) : (windowPub s p b).eng = s.eng :=
  same_of_drop (m := 64) (windowPub_drop s p b rfl) .eng rfl
@[simp] theorem windowPub_img_slotA (s : State) (p : Nat) (b : CellStatus) : (windowPub s p b).img.slotA = s.img.slotA := by
  have h := same_of_drop (m := 64) (windowPub_drop s p b rfl) .slots rfl
  simp only [Block.same] at h; simp only [h]
@[simp] theorem windowPub_img_slotB (s : State) (p : Nat) (b : CellStatus) : (windowPub s p b).img.slotB = s.img.slotB := by
  have h := same_of_drop (m := 64) (windowPub_drop s p b rfl) .slots rfl
  simp only [Block.same] at h; simp only [h]
@[simp] theorem windowPub_img_active (s : State) (p : Nat) (b : CellStatus) : (windowPub s p b).img.active = s.img.active := by
  have h := same_of_drop (m := 64) (windowPub_drop s p b rfl) .image rfl
  exact h
@[simp] theorem windowPub_spl (s : State) (p : Nat) (b : CellStatus) : (windowPub s p b).spl = s.spl :=
  same_of_drop (m := 64) (windowPub_drop s p b rfl) .spl rfl
@[simp] theorem windowPub_tim (s : State) (p : Nat) (b : CellStatus) : (windowPub s p b).tim = s.tim :=
  same_of_drop (m := 64) (windowPub_drop s p b rfl) .tim rfl
@[simp] theorem windowPub_arm (s : State) (p : Nat) (b : CellStatus) : (windowPub s p b).arm = s.arm :=
  same_of_drop (m := 64) (windowPub_drop s p b rfl) .arm rfl
@[simp] theorem windowPub_pwm (s : State) (p : Nat) (b : CellStatus) : (windowPub s p b).pwm = s.pwm :=
  same_of_drop (m := 64) (windowPub_drop s p b rfl) .pwm rfl
@[simp] theorem windowPub_glk (s : State) (p : Nat) (b : CellStatus) : (windowPub s p b).glk = s.glk :=
  same_of_drop (m := 64) (windowPub_drop s p b rfl) .glk rfl
@[simp] theorem windowPub_chA (s : State) (p : Nat) (b : CellStatus) : (windowPub s p b).chA = s.chA :=
  same_of_drop (m := 64) (windowPub_drop s p b rfl) .chA rfl
@[simp] theorem windowPub_chB (s : State) (p : Nat) (b : CellStatus) : (windowPub s p b).chB = s.chB :=
  same_of_drop (m := 64) (windowPub_drop s p b rfl) .chB rfl
@[simp] theorem windowPub_snA (s : State) (p : Nat) (b : CellStatus) : (windowPub s p b).snA = s.snA :=
  same_of_drop (m := 64) (windowPub_drop s p b rfl) .snA rfl
@[simp] theorem windowPub_snB (s : State) (p : Nat) (b : CellStatus) : (windowPub s p b).snB = s.snB :=
  same_of_drop (m := 64) (windowPub_drop s p b rfl) .snB rfl
@[simp] theorem windowPub_esA (s : State) (p : Nat) (b : CellStatus) : (windowPub s p b).esA = s.esA :=
  same_of_drop (m := 64) (windowPub_drop s p b rfl) .esA rfl
@[simp] theorem windowPub_esB (s : State) (p : Nat) (b : CellStatus) : (windowPub s p b).esB = s.esB :=
  same_of_drop (m := 64) (windowPub_drop s p b rfl) .esB rfl
@[simp] theorem windowPub_est (s : State) (p : Nat) (b : CellStatus) : (windowPub s p b).est = s.est :=
  same_of_drop (m := 64) (windowPub_drop s p b rfl) .est rfl
@[simp] theorem windowPub_thm (s : State) (p : Nat) (b : CellStatus) : (windowPub s p b).thm = s.thm :=
  same_of_drop (m := 64) (windowPub_drop s p b rfl) .thm rfl
@[simp] theorem windowPub_prt (s : State) (p : Nat) (b : CellStatus) : (windowPub s p b).prt = s.prt :=
  same_of_drop (m := 64) (windowPub_drop s p b rfl) .prt rfl
@[simp] theorem windowPub_dvt (s : State) (p : Nat) (b : CellStatus) : (windowPub s p b).dvt = s.dvt :=
  same_of_drop (m := 64) (windowPub_drop s p b rfl) .dvt rfl
@[simp] theorem windowPub_lsw (s : State) (p : Nat) (b : CellStatus) : (windowPub s p b).lsw = s.lsw :=
  same_of_drop (m := 64) (windowPub_drop s p b rfl) .lsw rfl
@[simp] theorem windowPub_lbus (s : State) (p : Nat) (b : CellStatus) : (windowPub s p b).lbus = s.lbus :=
  same_of_drop (m := 64) (windowPub_drop s p b rfl) .lbus rfl
@[simp] theorem windowPub_pwr (s : State) (p : Nat) (b : CellStatus) : (windowPub s p b).pwr = s.pwr :=
  same_of_drop (m := 64) (windowPub_drop s p b rfl) .pwr rfl
@[simp] theorem windowPub_sec (s : State) (p : Nat) (b : CellStatus) : (windowPub s p b).sec = s.sec :=
  same_of_drop (m := 64) (windowPub_drop s p b rfl) .sec rfl
@[simp] theorem windowPub_mnt (s : State) (p : Nat) (b : CellStatus) : (windowPub s p b).mnt = s.mnt :=
  same_of_drop (m := 64) (windowPub_drop s p b rfl) .mnt rfl
@[simp] theorem windowPub_evt (s : State) (p : Nat) (b : CellStatus) : (windowPub s p b).evt = s.evt :=
  same_of_drop (m := 64) (windowPub_drop s p b rfl) .evt rfl
@[simp] theorem windowPub_outbox (s : State) (p : Nat) (b : CellStatus) : (windowPub s p b).outbox = s.outbox :=
  same_of_drop (m := 64) (windowPub_drop s p b rfl) .outbox rfl
@[simp] theorem newCopyCycle_dev (s : State) (cycle : Nat) : (newCopyCycle s cycle).dev = s.dev :=
  same_of_drop (m := 8589943040) (newCopyCycle_drop s cycle rfl) .dev rfl
@[simp] theorem newCopyCycle_eng (s : State) (cycle : Nat) : (newCopyCycle s cycle).eng = s.eng :=
  same_of_drop (m := 8589943040) (newCopyCycle_drop s cycle rfl) .eng rfl
@[simp] theorem newCopyCycle_img (s : State) (cycle : Nat) : (newCopyCycle s cycle).img = s.img :=
  same_of_drop (m := 8589943040) (newCopyCycle_drop s cycle rfl) .img rfl
@[simp] theorem newCopyCycle_spl (s : State) (cycle : Nat) : (newCopyCycle s cycle).spl = s.spl :=
  same_of_drop (m := 8589943040) (newCopyCycle_drop s cycle rfl) .spl rfl
@[simp] theorem newCopyCycle_arm_cell (s : State) (cycle : Nat) : (newCopyCycle s cycle).arm.cell = s.arm.cell := by
  have h := same_of_drop (m := 8589943040) (newCopyCycle_drop s cycle rfl) .cell rfl
  simp only [Block.same] at h; simp only [h]
@[simp] theorem newCopyCycle_arm_changes (s : State) (cycle : Nat) : (newCopyCycle s cycle).arm.changes = s.arm.changes := by
  have h := same_of_drop (m := 8589943040) (newCopyCycle_drop s cycle rfl) .cell rfl
  simp only [Block.same] at h; simp only [h]
@[simp] theorem newCopyCycle_arm_owner (s : State) (cycle : Nat) : (newCopyCycle s cycle).arm.owner = s.arm.owner := by
  have h := same_of_drop (m := 8589943040) (newCopyCycle_drop s cycle rfl) .token rfl
  exact h
@[simp] theorem newCopyCycle_arm_bypassed (s : State) (cycle : Nat) : (newCopyCycle s cycle).arm.bypassed = s.arm.bypassed := by
  have h := same_of_drop (m := 8589943040) (newCopyCycle_drop s cycle rfl) .bypass rfl
  exact h
@[simp] theorem newCopyCycle_pwm (s : State) (cycle : Nat) : (newCopyCycle s cycle).pwm = s.pwm :=
  same_of_drop (m := 8589943040) (newCopyCycle_drop s cycle rfl) .pwm rfl
@[simp] theorem newCopyCycle_glk (s : State) (cycle : Nat) : (newCopyCycle s cycle).glk = s.glk :=
  same_of_drop (m := 8589943040) (newCopyCycle_drop s cycle rfl) .glk rfl
@[simp] theorem newCopyCycle_chA (s : State) (cycle : Nat) : (newCopyCycle s cycle).chA = s.chA :=
  same_of_drop (m := 8589943040) (newCopyCycle_drop s cycle rfl) .chA rfl
@[simp] theorem newCopyCycle_chB (s : State) (cycle : Nat) : (newCopyCycle s cycle).chB = s.chB :=
  same_of_drop (m := 8589943040) (newCopyCycle_drop s cycle rfl) .chB rfl
@[simp] theorem newCopyCycle_snA (s : State) (cycle : Nat) : (newCopyCycle s cycle).snA = s.snA :=
  same_of_drop (m := 8589943040) (newCopyCycle_drop s cycle rfl) .snA rfl
@[simp] theorem newCopyCycle_snB (s : State) (cycle : Nat) : (newCopyCycle s cycle).snB = s.snB :=
  same_of_drop (m := 8589943040) (newCopyCycle_drop s cycle rfl) .snB rfl
@[simp] theorem newCopyCycle_esA (s : State) (cycle : Nat) : (newCopyCycle s cycle).esA = s.esA :=
  same_of_drop (m := 8589943040) (newCopyCycle_drop s cycle rfl) .esA rfl
@[simp] theorem newCopyCycle_esB (s : State) (cycle : Nat) : (newCopyCycle s cycle).esB = s.esB :=
  same_of_drop (m := 8589943040) (newCopyCycle_drop s cycle rfl) .esB rfl
@[simp] theorem newCopyCycle_est (s : State) (cycle : Nat) : (newCopyCycle s cycle).est = s.est :=
  same_of_drop (m := 8589943040) (newCopyCycle_drop s cycle rfl) .est rfl
@[simp] theorem newCopyCycle_thm (s : State) (cycle : Nat) : (newCopyCycle s cycle).thm = s.thm :=
  same_of_drop (m := 8589943040) (newCopyCycle_drop s cycle rfl) .thm rfl
@[simp] theorem newCopyCycle_prt (s : State) (cycle : Nat) : (newCopyCycle s cycle).prt = s.prt :=
  same_of_drop (m := 8589943040) (newCopyCycle_drop s cycle rfl) .prt rfl
@[simp] theorem newCopyCycle_dvt (s : State) (cycle : Nat) : (newCopyCycle s cycle).dvt = s.dvt :=
  same_of_drop (m := 8589943040) (newCopyCycle_drop s cycle rfl) .dvt rfl
@[simp] theorem newCopyCycle_lsw (s : State) (cycle : Nat) : (newCopyCycle s cycle).lsw = s.lsw :=
  same_of_drop (m := 8589943040) (newCopyCycle_drop s cycle rfl) .lsw rfl
@[simp] theorem newCopyCycle_lbus (s : State) (cycle : Nat) : (newCopyCycle s cycle).lbus = s.lbus :=
  same_of_drop (m := 8589943040) (newCopyCycle_drop s cycle rfl) .lbus rfl
@[simp] theorem newCopyCycle_pwr (s : State) (cycle : Nat) : (newCopyCycle s cycle).pwr = s.pwr :=
  same_of_drop (m := 8589943040) (newCopyCycle_drop s cycle rfl) .pwr rfl
@[simp] theorem newCopyCycle_sec (s : State) (cycle : Nat) : (newCopyCycle s cycle).sec = s.sec :=
  same_of_drop (m := 8589943040) (newCopyCycle_drop s cycle rfl) .sec rfl
@[simp] theorem newCopyCycle_mnt (s : State) (cycle : Nat) : (newCopyCycle s cycle).mnt = s.mnt :=
  same_of_drop (m := 8589943040) (newCopyCycle_drop s cycle rfl) .mnt rfl
@[simp] theorem newCopyCycle_outbox (s : State) (cycle : Nat) : (newCopyCycle s cycle).outbox = s.outbox :=
  same_of_drop (m := 8589943040) (newCopyCycle_drop s cycle rfl) .outbox rfl
@[simp] theorem takeMode_dev (s : State) (b : Nat) : (takeMode s b).dev = s.dev :=
  same_of_drop (m := 8589942784) (takeMode_drop s b rfl) .dev rfl
@[simp] theorem takeMode_eng (s : State) (b : Nat) : (takeMode s b).eng = s.eng :=
  same_of_drop (m := 8589942784) (takeMode_drop s b rfl) .eng rfl
@[simp] theorem takeMode_img (s : State) (b : Nat) : (takeMode s b).img = s.img :=
  same_of_drop (m := 8589942784) (takeMode_drop s b rfl) .img rfl
@[simp] theorem takeMode_spl (s : State) (b : Nat) : (takeMode s b).spl = s.spl :=
  same_of_drop (m := 8589942784) (takeMode_drop s b rfl) .spl rfl
@[simp] theorem takeMode_tim (s : State) (b : Nat) : (takeMode s b).tim = s.tim :=
  same_of_drop (m := 8589942784) (takeMode_drop s b rfl) .tim rfl
@[simp] theorem takeMode_arm_cell (s : State) (b : Nat) : (takeMode s b).arm.cell = s.arm.cell := by
  have h := same_of_drop (m := 8589942784) (takeMode_drop s b rfl) .cell rfl
  simp only [Block.same] at h; simp only [h]
@[simp] theorem takeMode_arm_changes (s : State) (b : Nat) : (takeMode s b).arm.changes = s.arm.changes := by
  have h := same_of_drop (m := 8589942784) (takeMode_drop s b rfl) .cell rfl
  simp only [Block.same] at h; simp only [h]
@[simp] theorem takeMode_arm_owner (s : State) (b : Nat) : (takeMode s b).arm.owner = s.arm.owner := by
  have h := same_of_drop (m := 8589942784) (takeMode_drop s b rfl) .token rfl
  exact h
@[simp] theorem takeMode_arm_bypassed (s : State) (b : Nat) : (takeMode s b).arm.bypassed = s.arm.bypassed := by
  have h := same_of_drop (m := 8589942784) (takeMode_drop s b rfl) .bypass rfl
  exact h
@[simp] theorem takeMode_pwm (s : State) (b : Nat) : (takeMode s b).pwm = s.pwm :=
  same_of_drop (m := 8589942784) (takeMode_drop s b rfl) .pwm rfl
@[simp] theorem takeMode_glk (s : State) (b : Nat) : (takeMode s b).glk = s.glk :=
  same_of_drop (m := 8589942784) (takeMode_drop s b rfl) .glk rfl
@[simp] theorem takeMode_chA (s : State) (b : Nat) : (takeMode s b).chA = s.chA :=
  same_of_drop (m := 8589942784) (takeMode_drop s b rfl) .chA rfl
@[simp] theorem takeMode_chB (s : State) (b : Nat) : (takeMode s b).chB = s.chB :=
  same_of_drop (m := 8589942784) (takeMode_drop s b rfl) .chB rfl
@[simp] theorem takeMode_snA (s : State) (b : Nat) : (takeMode s b).snA = s.snA :=
  same_of_drop (m := 8589942784) (takeMode_drop s b rfl) .snA rfl
@[simp] theorem takeMode_snB (s : State) (b : Nat) : (takeMode s b).snB = s.snB :=
  same_of_drop (m := 8589942784) (takeMode_drop s b rfl) .snB rfl
@[simp] theorem takeMode_esA (s : State) (b : Nat) : (takeMode s b).esA = s.esA :=
  same_of_drop (m := 8589942784) (takeMode_drop s b rfl) .esA rfl
@[simp] theorem takeMode_esB (s : State) (b : Nat) : (takeMode s b).esB = s.esB :=
  same_of_drop (m := 8589942784) (takeMode_drop s b rfl) .esB rfl
@[simp] theorem takeMode_est (s : State) (b : Nat) : (takeMode s b).est = s.est :=
  same_of_drop (m := 8589942784) (takeMode_drop s b rfl) .est rfl
@[simp] theorem takeMode_thm (s : State) (b : Nat) : (takeMode s b).thm = s.thm :=
  same_of_drop (m := 8589942784) (takeMode_drop s b rfl) .thm rfl
@[simp] theorem takeMode_prt (s : State) (b : Nat) : (takeMode s b).prt = s.prt :=
  same_of_drop (m := 8589942784) (takeMode_drop s b rfl) .prt rfl
@[simp] theorem takeMode_dvt (s : State) (b : Nat) : (takeMode s b).dvt = s.dvt :=
  same_of_drop (m := 8589942784) (takeMode_drop s b rfl) .dvt rfl
@[simp] theorem takeMode_lsw (s : State) (b : Nat) : (takeMode s b).lsw = s.lsw :=
  same_of_drop (m := 8589942784) (takeMode_drop s b rfl) .lsw rfl
@[simp] theorem takeMode_lbus (s : State) (b : Nat) : (takeMode s b).lbus = s.lbus :=
  same_of_drop (m := 8589942784) (takeMode_drop s b rfl) .lbus rfl
@[simp] theorem takeMode_pwr (s : State) (b : Nat) : (takeMode s b).pwr = s.pwr :=
  same_of_drop (m := 8589942784) (takeMode_drop s b rfl) .pwr rfl
@[simp] theorem takeMode_sec (s : State) (b : Nat) : (takeMode s b).sec = s.sec :=
  same_of_drop (m := 8589942784) (takeMode_drop s b rfl) .sec rfl
@[simp] theorem takeMode_mnt (s : State) (b : Nat) : (takeMode s b).mnt = s.mnt :=
  same_of_drop (m := 8589942784) (takeMode_drop s b rfl) .mnt rfl
@[simp] theorem takeMode_outbox (s : State) (b : Nat) : (takeMode s b).outbox = s.outbox :=
  same_of_drop (m := 8589942784) (takeMode_drop s b rfl) .outbox rfl
@[simp] theorem publishState_dev (s : State) (n : CellSt) : (publishState s n).dev = s.dev :=
  same_of_drop (m := 549755872256) (publishState_drop s n rfl) .dev rfl
@[simp] theorem publishState_eng (s : State) (n : CellSt) : (publishState s n).eng = s.eng :=
  same_of_drop (m := 549755872256) (publishState_drop s n rfl) .eng rfl
@[simp] theorem publishState_img (s : State) (n : CellSt) : (publishState s n).img = s.img :=
  same_of_drop (m := 549755872256) (publishState_drop s n rfl) .img rfl
@[simp] theorem publishState_spl (s : State) (n : CellSt) : (publishState s n).spl = s.spl :=
  same_of_drop (m := 549755872256) (publishState_drop s n rfl) .spl rfl
@[simp] theorem publishState_tim (s : State) (n : CellSt) : (publishState s n).tim = s.tim :=
  same_of_drop (m := 549755872256) (publishState_drop s n rfl) .tim rfl
@[simp] theorem publishState_arm_owner (s : State) (n : CellSt) : (publishState s n).arm.owner = s.arm.owner := by
  have h := same_of_drop (m := 549755872256) (publishState_drop s n rfl) .token rfl
  exact h
@[simp] theorem publishState_arm_bypassed (s : State) (n : CellSt) : (publishState s n).arm.bypassed = s.arm.bypassed := by
  have h := same_of_drop (m := 549755872256) (publishState_drop s n rfl) .bypass rfl
  exact h
@[simp] theorem publishState_chA (s : State) (n : CellSt) : (publishState s n).chA = s.chA :=
  same_of_drop (m := 549755872256) (publishState_drop s n rfl) .chA rfl
@[simp] theorem publishState_chB (s : State) (n : CellSt) : (publishState s n).chB = s.chB :=
  same_of_drop (m := 549755872256) (publishState_drop s n rfl) .chB rfl
@[simp] theorem publishState_snA (s : State) (n : CellSt) : (publishState s n).snA = s.snA :=
  same_of_drop (m := 549755872256) (publishState_drop s n rfl) .snA rfl
@[simp] theorem publishState_snB (s : State) (n : CellSt) : (publishState s n).snB = s.snB :=
  same_of_drop (m := 549755872256) (publishState_drop s n rfl) .snB rfl
@[simp] theorem publishState_esA (s : State) (n : CellSt) : (publishState s n).esA = s.esA :=
  same_of_drop (m := 549755872256) (publishState_drop s n rfl) .esA rfl
@[simp] theorem publishState_esB (s : State) (n : CellSt) : (publishState s n).esB = s.esB :=
  same_of_drop (m := 549755872256) (publishState_drop s n rfl) .esB rfl
@[simp] theorem publishState_est (s : State) (n : CellSt) : (publishState s n).est = s.est :=
  same_of_drop (m := 549755872256) (publishState_drop s n rfl) .est rfl
@[simp] theorem publishState_thm (s : State) (n : CellSt) : (publishState s n).thm = s.thm :=
  same_of_drop (m := 549755872256) (publishState_drop s n rfl) .thm rfl
@[simp] theorem publishState_prt (s : State) (n : CellSt) : (publishState s n).prt = s.prt :=
  same_of_drop (m := 549755872256) (publishState_drop s n rfl) .prt rfl
@[simp] theorem publishState_dvt (s : State) (n : CellSt) : (publishState s n).dvt = s.dvt :=
  same_of_drop (m := 549755872256) (publishState_drop s n rfl) .dvt rfl
@[simp] theorem publishState_lsw (s : State) (n : CellSt) : (publishState s n).lsw = s.lsw :=
  same_of_drop (m := 549755872256) (publishState_drop s n rfl) .lsw rfl
@[simp] theorem publishState_lbus (s : State) (n : CellSt) : (publishState s n).lbus = s.lbus :=
  same_of_drop (m := 549755872256) (publishState_drop s n rfl) .lbus rfl
@[simp] theorem publishState_pwr (s : State) (n : CellSt) : (publishState s n).pwr = s.pwr :=
  same_of_drop (m := 549755872256) (publishState_drop s n rfl) .pwr rfl
@[simp] theorem publishState_sec (s : State) (n : CellSt) : (publishState s n).sec = s.sec :=
  same_of_drop (m := 549755872256) (publishState_drop s n rfl) .sec rfl
@[simp] theorem publishState_mnt (s : State) (n : CellSt) : (publishState s n).mnt = s.mnt :=
  same_of_drop (m := 549755872256) (publishState_drop s n rfl) .mnt rfl
@[simp] theorem publishState_evt (s : State) (n : CellSt) : (publishState s n).evt = s.evt :=
  same_of_drop (m := 549755872256) (publishState_drop s n rfl) .evt rfl
@[simp] theorem publishState_outbox (s : State) (n : CellSt) : (publishState s n).outbox = s.outbox :=
  same_of_drop (m := 549755872256) (publishState_drop s n rfl) .outbox rfl
@[simp] theorem publishState_glk_fireHold (s : State) (n : CellSt) : (publishState s n).glk.fireHold = s.glk.fireHold := by
  have h := same_of_drop (m := 549755872256) (publishState_drop s n rfl) .switch rfl
  simp only [Block.same] at h; simp only [h]
@[simp] theorem publishState_glk_fireAll (s : State) (n : CellSt) : (publishState s n).glk.fireAll = s.glk.fireAll := by
  have h := same_of_drop (m := 549755872256) (publishState_drop s n rfl) .switch rfl
  simp only [Block.same] at h; simp only [h]
@[simp] theorem publishState_glk_closeAsserted (s : State) (n : CellSt) : (publishState s n).glk.closeAsserted = s.glk.closeAsserted := by
  have h := same_of_drop (m := 549755872256) (publishState_drop s n rfl) .switch rfl
  simp only [Block.same] at h; simp only [h]
@[simp] theorem publishState_glk_closeDue (s : State) (n : CellSt) : (publishState s n).glk.closeDue = s.glk.closeDue := by
  have h := same_of_drop (m := 549755872256) (publishState_drop s n rfl) .switch rfl
  simp only [Block.same] at h; simp only [h]
@[simp] theorem publishState_glk_statClosed (s : State) (n : CellSt) : (publishState s n).glk.statClosed = s.glk.statClosed := by
  have h := same_of_drop (m := 549755872256) (publishState_drop s n rfl) .switch rfl
  simp only [Block.same] at h; simp only [h]
@[simp] theorem takeMembership_dev (s : State) : (takeMembership s).dev = s.dev :=
  same_of_drop (m := 8192) (takeMembership_drop s rfl) .dev rfl
@[simp] theorem takeMembership_eng (s : State) : (takeMembership s).eng = s.eng :=
  same_of_drop (m := 8192) (takeMembership_drop s rfl) .eng rfl
@[simp] theorem takeMembership_img (s : State) : (takeMembership s).img = s.img :=
  same_of_drop (m := 8192) (takeMembership_drop s rfl) .img rfl
@[simp] theorem takeMembership_spl (s : State) : (takeMembership s).spl = s.spl :=
  same_of_drop (m := 8192) (takeMembership_drop s rfl) .spl rfl
@[simp] theorem takeMembership_tim (s : State) : (takeMembership s).tim = s.tim :=
  same_of_drop (m := 8192) (takeMembership_drop s rfl) .tim rfl
@[simp] theorem takeMembership_arm_cell (s : State) : (takeMembership s).arm.cell = s.arm.cell := by
  have h := same_of_drop (m := 8192) (takeMembership_drop s rfl) .cell rfl
  simp only [Block.same] at h; simp only [h]
@[simp] theorem takeMembership_arm_changes (s : State) : (takeMembership s).arm.changes = s.arm.changes := by
  have h := same_of_drop (m := 8192) (takeMembership_drop s rfl) .cell rfl
  simp only [Block.same] at h; simp only [h]
@[simp] theorem takeMembership_arm_owner (s : State) : (takeMembership s).arm.owner = s.arm.owner := by
  have h := same_of_drop (m := 8192) (takeMembership_drop s rfl) .token rfl
  exact h
@[simp] theorem takeMembership_arm_bypassed (s : State) : (takeMembership s).arm.bypassed = s.arm.bypassed := by
  have h := same_of_drop (m := 8192) (takeMembership_drop s rfl) .bypass rfl
  exact h
@[simp] theorem takeMembership_pwm (s : State) : (takeMembership s).pwm = s.pwm :=
  same_of_drop (m := 8192) (takeMembership_drop s rfl) .pwm rfl
@[simp] theorem takeMembership_glk (s : State) : (takeMembership s).glk = s.glk :=
  same_of_drop (m := 8192) (takeMembership_drop s rfl) .glk rfl
@[simp] theorem takeMembership_chA (s : State) : (takeMembership s).chA = s.chA :=
  same_of_drop (m := 8192) (takeMembership_drop s rfl) .chA rfl
@[simp] theorem takeMembership_chB (s : State) : (takeMembership s).chB = s.chB :=
  same_of_drop (m := 8192) (takeMembership_drop s rfl) .chB rfl
@[simp] theorem takeMembership_snA (s : State) : (takeMembership s).snA = s.snA :=
  same_of_drop (m := 8192) (takeMembership_drop s rfl) .snA rfl
@[simp] theorem takeMembership_snB (s : State) : (takeMembership s).snB = s.snB :=
  same_of_drop (m := 8192) (takeMembership_drop s rfl) .snB rfl
@[simp] theorem takeMembership_esA (s : State) : (takeMembership s).esA = s.esA :=
  same_of_drop (m := 8192) (takeMembership_drop s rfl) .esA rfl
@[simp] theorem takeMembership_esB (s : State) : (takeMembership s).esB = s.esB :=
  same_of_drop (m := 8192) (takeMembership_drop s rfl) .esB rfl
@[simp] theorem takeMembership_est (s : State) : (takeMembership s).est = s.est :=
  same_of_drop (m := 8192) (takeMembership_drop s rfl) .est rfl
@[simp] theorem takeMembership_thm (s : State) : (takeMembership s).thm = s.thm :=
  same_of_drop (m := 8192) (takeMembership_drop s rfl) .thm rfl
@[simp] theorem takeMembership_prt (s : State) : (takeMembership s).prt = s.prt :=
  same_of_drop (m := 8192) (takeMembership_drop s rfl) .prt rfl
@[simp] theorem takeMembership_dvt (s : State) : (takeMembership s).dvt = s.dvt :=
  same_of_drop (m := 8192) (takeMembership_drop s rfl) .dvt rfl
@[simp] theorem takeMembership_lsw (s : State) : (takeMembership s).lsw = s.lsw :=
  same_of_drop (m := 8192) (takeMembership_drop s rfl) .lsw rfl
@[simp] theorem takeMembership_lbus (s : State) : (takeMembership s).lbus = s.lbus :=
  same_of_drop (m := 8192) (takeMembership_drop s rfl) .lbus rfl
@[simp] theorem takeMembership_pwr (s : State) : (takeMembership s).pwr = s.pwr :=
  same_of_drop (m := 8192) (takeMembership_drop s rfl) .pwr rfl
@[simp] theorem takeMembership_sec (s : State) : (takeMembership s).sec = s.sec :=
  same_of_drop (m := 8192) (takeMembership_drop s rfl) .sec rfl
@[simp] theorem takeMembership_mnt (s : State) : (takeMembership s).mnt = s.mnt :=
  same_of_drop (m := 8192) (takeMembership_drop s rfl) .mnt rfl
@[simp] theorem takeMembership_evt (s : State) : (takeMembership s).evt = s.evt :=
  same_of_drop (m := 8192) (takeMembership_drop s rfl) .evt rfl
@[simp] theorem takeMembership_outbox (s : State) : (takeMembership s).outbox = s.outbox :=
  same_of_drop (m := 8192) (takeMembership_drop s rfl) .outbox rfl
@[simp] theorem prunePubs_dev (s : State) (b : Nat) : (prunePubs s b).dev = s.dev :=
  same_of_drop (m := 128) (prunePubs_drop s b rfl) .dev rfl
@[simp] theorem prunePubs_eng (s : State) (b : Nat) : (prunePubs s b).eng = s.eng :=
  same_of_drop (m := 128) (prunePubs_drop s b rfl) .eng rfl
@[simp] theorem prunePubs_img (s : State) (b : Nat) : (prunePubs s b).img = s.img :=
  same_of_drop (m := 128) (prunePubs_drop s b rfl) .img rfl
@[simp] theorem prunePubs_tim (s : State) (b : Nat) : (prunePubs s b).tim = s.tim :=
  same_of_drop (m := 128) (prunePubs_drop s b rfl) .tim rfl
@[simp] theorem prunePubs_arm (s : State) (b : Nat) : (prunePubs s b).arm = s.arm :=
  same_of_drop (m := 128) (prunePubs_drop s b rfl) .arm rfl
@[simp] theorem prunePubs_pwm (s : State) (b : Nat) : (prunePubs s b).pwm = s.pwm :=
  same_of_drop (m := 128) (prunePubs_drop s b rfl) .pwm rfl
@[simp] theorem prunePubs_glk (s : State) (b : Nat) : (prunePubs s b).glk = s.glk :=
  same_of_drop (m := 128) (prunePubs_drop s b rfl) .glk rfl
@[simp] theorem prunePubs_chA (s : State) (b : Nat) : (prunePubs s b).chA = s.chA :=
  same_of_drop (m := 128) (prunePubs_drop s b rfl) .chA rfl
@[simp] theorem prunePubs_chB (s : State) (b : Nat) : (prunePubs s b).chB = s.chB :=
  same_of_drop (m := 128) (prunePubs_drop s b rfl) .chB rfl
@[simp] theorem prunePubs_snA (s : State) (b : Nat) : (prunePubs s b).snA = s.snA :=
  same_of_drop (m := 128) (prunePubs_drop s b rfl) .snA rfl
@[simp] theorem prunePubs_snB (s : State) (b : Nat) : (prunePubs s b).snB = s.snB :=
  same_of_drop (m := 128) (prunePubs_drop s b rfl) .snB rfl
@[simp] theorem prunePubs_esA (s : State) (b : Nat) : (prunePubs s b).esA = s.esA :=
  same_of_drop (m := 128) (prunePubs_drop s b rfl) .esA rfl
@[simp] theorem prunePubs_esB (s : State) (b : Nat) : (prunePubs s b).esB = s.esB :=
  same_of_drop (m := 128) (prunePubs_drop s b rfl) .esB rfl
@[simp] theorem prunePubs_est (s : State) (b : Nat) : (prunePubs s b).est = s.est :=
  same_of_drop (m := 128) (prunePubs_drop s b rfl) .est rfl
@[simp] theorem prunePubs_thm (s : State) (b : Nat) : (prunePubs s b).thm = s.thm :=
  same_of_drop (m := 128) (prunePubs_drop s b rfl) .thm rfl
@[simp] theorem prunePubs_prt (s : State) (b : Nat) : (prunePubs s b).prt = s.prt :=
  same_of_drop (m := 128) (prunePubs_drop s b rfl) .prt rfl
@[simp] theorem prunePubs_dvt (s : State) (b : Nat) : (prunePubs s b).dvt = s.dvt :=
  same_of_drop (m := 128) (prunePubs_drop s b rfl) .dvt rfl
@[simp] theorem prunePubs_lsw (s : State) (b : Nat) : (prunePubs s b).lsw = s.lsw :=
  same_of_drop (m := 128) (prunePubs_drop s b rfl) .lsw rfl
@[simp] theorem prunePubs_lbus (s : State) (b : Nat) : (prunePubs s b).lbus = s.lbus :=
  same_of_drop (m := 128) (prunePubs_drop s b rfl) .lbus rfl
@[simp] theorem prunePubs_pwr (s : State) (b : Nat) : (prunePubs s b).pwr = s.pwr :=
  same_of_drop (m := 128) (prunePubs_drop s b rfl) .pwr rfl
@[simp] theorem prunePubs_sec (s : State) (b : Nat) : (prunePubs s b).sec = s.sec :=
  same_of_drop (m := 128) (prunePubs_drop s b rfl) .sec rfl
@[simp] theorem prunePubs_mnt (s : State) (b : Nat) : (prunePubs s b).mnt = s.mnt :=
  same_of_drop (m := 128) (prunePubs_drop s b rfl) .mnt rfl
@[simp] theorem prunePubs_evt (s : State) (b : Nat) : (prunePubs s b).evt = s.evt :=
  same_of_drop (m := 128) (prunePubs_drop s b rfl) .evt rfl
@[simp] theorem prunePubs_outbox (s : State) (b : Nat) : (prunePubs s b).outbox = s.outbox :=
  same_of_drop (m := 128) (prunePubs_drop s b rfl) .outbox rfl
@[simp] theorem countWindow_dev (s : State) : (countWindow s).dev = s.dev :=
  same_of_drop (m := 64) (countWindow_drop s rfl) .dev rfl
@[simp] theorem countWindow_eng (s : State) : (countWindow s).eng = s.eng :=
  same_of_drop (m := 64) (countWindow_drop s rfl) .eng rfl
@[simp] theorem countWindow_img_slotA (s : State) : (countWindow s).img.slotA = s.img.slotA := by
  have h := same_of_drop (m := 64) (countWindow_drop s rfl) .slots rfl
  simp only [Block.same] at h; simp only [h]
@[simp] theorem countWindow_img_slotB (s : State) : (countWindow s).img.slotB = s.img.slotB := by
  have h := same_of_drop (m := 64) (countWindow_drop s rfl) .slots rfl
  simp only [Block.same] at h; simp only [h]
@[simp] theorem countWindow_img_active (s : State) : (countWindow s).img.active = s.img.active := by
  have h := same_of_drop (m := 64) (countWindow_drop s rfl) .image rfl
  exact h
@[simp] theorem countWindow_spl (s : State) : (countWindow s).spl = s.spl :=
  same_of_drop (m := 64) (countWindow_drop s rfl) .spl rfl
@[simp] theorem countWindow_tim (s : State) : (countWindow s).tim = s.tim :=
  same_of_drop (m := 64) (countWindow_drop s rfl) .tim rfl
@[simp] theorem countWindow_arm (s : State) : (countWindow s).arm = s.arm :=
  same_of_drop (m := 64) (countWindow_drop s rfl) .arm rfl
@[simp] theorem countWindow_pwm (s : State) : (countWindow s).pwm = s.pwm :=
  same_of_drop (m := 64) (countWindow_drop s rfl) .pwm rfl
@[simp] theorem countWindow_glk (s : State) : (countWindow s).glk = s.glk :=
  same_of_drop (m := 64) (countWindow_drop s rfl) .glk rfl
@[simp] theorem countWindow_chA (s : State) : (countWindow s).chA = s.chA :=
  same_of_drop (m := 64) (countWindow_drop s rfl) .chA rfl
@[simp] theorem countWindow_chB (s : State) : (countWindow s).chB = s.chB :=
  same_of_drop (m := 64) (countWindow_drop s rfl) .chB rfl
@[simp] theorem countWindow_snA (s : State) : (countWindow s).snA = s.snA :=
  same_of_drop (m := 64) (countWindow_drop s rfl) .snA rfl
@[simp] theorem countWindow_snB (s : State) : (countWindow s).snB = s.snB :=
  same_of_drop (m := 64) (countWindow_drop s rfl) .snB rfl
@[simp] theorem countWindow_esA (s : State) : (countWindow s).esA = s.esA :=
  same_of_drop (m := 64) (countWindow_drop s rfl) .esA rfl
@[simp] theorem countWindow_esB (s : State) : (countWindow s).esB = s.esB :=
  same_of_drop (m := 64) (countWindow_drop s rfl) .esB rfl
@[simp] theorem countWindow_est (s : State) : (countWindow s).est = s.est :=
  same_of_drop (m := 64) (countWindow_drop s rfl) .est rfl
@[simp] theorem countWindow_thm (s : State) : (countWindow s).thm = s.thm :=
  same_of_drop (m := 64) (countWindow_drop s rfl) .thm rfl
@[simp] theorem countWindow_prt (s : State) : (countWindow s).prt = s.prt :=
  same_of_drop (m := 64) (countWindow_drop s rfl) .prt rfl
@[simp] theorem countWindow_dvt (s : State) : (countWindow s).dvt = s.dvt :=
  same_of_drop (m := 64) (countWindow_drop s rfl) .dvt rfl
@[simp] theorem countWindow_lsw (s : State) : (countWindow s).lsw = s.lsw :=
  same_of_drop (m := 64) (countWindow_drop s rfl) .lsw rfl
@[simp] theorem countWindow_lbus (s : State) : (countWindow s).lbus = s.lbus :=
  same_of_drop (m := 64) (countWindow_drop s rfl) .lbus rfl
@[simp] theorem countWindow_pwr (s : State) : (countWindow s).pwr = s.pwr :=
  same_of_drop (m := 64) (countWindow_drop s rfl) .pwr rfl
@[simp] theorem countWindow_sec (s : State) : (countWindow s).sec = s.sec :=
  same_of_drop (m := 64) (countWindow_drop s rfl) .sec rfl
@[simp] theorem countWindow_mnt (s : State) : (countWindow s).mnt = s.mnt :=
  same_of_drop (m := 64) (countWindow_drop s rfl) .mnt rfl
@[simp] theorem countWindow_evt (s : State) : (countWindow s).evt = s.evt :=
  same_of_drop (m := 64) (countWindow_drop s rfl) .evt rfl
@[simp] theorem countWindow_outbox (s : State) : (countWindow s).outbox = s.outbox :=
  same_of_drop (m := 64) (countWindow_drop s rfl) .outbox rfl
@[simp] theorem chainAtBoundary_dev (s : State) (c : ChainId) : (chainAtBoundary s c).dev = s.dev :=
  same_of_drop (m := 12961415168) (chainAtBoundary_drop s c rfl) .dev rfl
@[simp] theorem chainAtBoundary_eng (s : State) (c : ChainId) : (chainAtBoundary s c).eng = s.eng :=
  same_of_drop (m := 12961415168) (chainAtBoundary_drop s c rfl) .eng rfl
@[simp] theorem chainAtBoundary_img (s : State) (c : ChainId) : (chainAtBoundary s c).img = s.img :=
  same_of_drop (m := 12961415168) (chainAtBoundary_drop s c rfl) .img rfl
@[simp] theorem chainAtBoundary_spl (s : State) (c : ChainId) : (chainAtBoundary s c).spl = s.spl :=
  same_of_drop (m := 12961415168) (chainAtBoundary_drop s c rfl) .spl rfl
@[simp] theorem chainAtBoundary_tim (s : State) (c : ChainId) : (chainAtBoundary s c).tim = s.tim :=
  same_of_drop (m := 12961415168) (chainAtBoundary_drop s c rfl) .tim rfl
@[simp] theorem chainAtBoundary_arm (s : State) (c : ChainId) : (chainAtBoundary s c).arm = s.arm :=
  same_of_drop (m := 12961415168) (chainAtBoundary_drop s c rfl) .arm rfl
@[simp] theorem chainAtBoundary_pwm (s : State) (c : ChainId) : (chainAtBoundary s c).pwm = s.pwm :=
  same_of_drop (m := 12961415168) (chainAtBoundary_drop s c rfl) .pwm rfl
@[simp] theorem chainAtBoundary_esA (s : State) (c : ChainId) : (chainAtBoundary s c).esA = s.esA :=
  same_of_drop (m := 12961415168) (chainAtBoundary_drop s c rfl) .esA rfl
@[simp] theorem chainAtBoundary_esB (s : State) (c : ChainId) : (chainAtBoundary s c).esB = s.esB :=
  same_of_drop (m := 12961415168) (chainAtBoundary_drop s c rfl) .esB rfl
@[simp] theorem chainAtBoundary_est (s : State) (c : ChainId) : (chainAtBoundary s c).est = s.est :=
  same_of_drop (m := 12961415168) (chainAtBoundary_drop s c rfl) .est rfl
@[simp] theorem chainAtBoundary_prt (s : State) (c : ChainId) : (chainAtBoundary s c).prt = s.prt :=
  same_of_drop (m := 12961415168) (chainAtBoundary_drop s c rfl) .prt rfl
@[simp] theorem chainAtBoundary_dvt (s : State) (c : ChainId) : (chainAtBoundary s c).dvt = s.dvt :=
  same_of_drop (m := 12961415168) (chainAtBoundary_drop s c rfl) .dvt rfl
@[simp] theorem chainAtBoundary_lbus (s : State) (c : ChainId) : (chainAtBoundary s c).lbus = s.lbus :=
  same_of_drop (m := 12961415168) (chainAtBoundary_drop s c rfl) .lbus rfl
@[simp] theorem chainAtBoundary_pwr (s : State) (c : ChainId) : (chainAtBoundary s c).pwr = s.pwr :=
  same_of_drop (m := 12961415168) (chainAtBoundary_drop s c rfl) .pwr rfl
@[simp] theorem chainAtBoundary_sec (s : State) (c : ChainId) : (chainAtBoundary s c).sec = s.sec :=
  same_of_drop (m := 12961415168) (chainAtBoundary_drop s c rfl) .sec rfl
@[simp] theorem chainAtBoundary_outbox (s : State) (c : ChainId) : (chainAtBoundary s c).outbox = s.outbox :=
  same_of_drop (m := 12961415168) (chainAtBoundary_drop s c rfl) .outbox rfl
@[simp] theorem chainAtBoundary_glk_legA (s : State) (c : ChainId) : (chainAtBoundary s c).glk.legA = s.glk.legA := by
  have h := same_of_drop (m := 12961415168) (chainAtBoundary_drop s c rfl) .legs rfl
  simp only [Block.same] at h; simp only [h]
@[simp] theorem chainAtBoundary_glk_legB (s : State) (c : ChainId) : (chainAtBoundary s c).glk.legB = s.glk.legB := by
  have h := same_of_drop (m := 12961415168) (chainAtBoundary_drop s c rfl) .legs rfl
  simp only [Block.same] at h; simp only [h]
@[simp] theorem chainAtBoundary_glk_fireHold (s : State) (c : ChainId) : (chainAtBoundary s c).glk.fireHold = s.glk.fireHold := by
  have h := same_of_drop (m := 12961415168) (chainAtBoundary_drop s c rfl) .switch rfl
  simp only [Block.same] at h; simp only [h]
@[simp] theorem chainAtBoundary_glk_fireAll (s : State) (c : ChainId) : (chainAtBoundary s c).glk.fireAll = s.glk.fireAll := by
  have h := same_of_drop (m := 12961415168) (chainAtBoundary_drop s c rfl) .switch rfl
  simp only [Block.same] at h; simp only [h]
@[simp] theorem chainAtBoundary_glk_closeAsserted (s : State) (c : ChainId) : (chainAtBoundary s c).glk.closeAsserted = s.glk.closeAsserted := by
  have h := same_of_drop (m := 12961415168) (chainAtBoundary_drop s c rfl) .switch rfl
  simp only [Block.same] at h; simp only [h]
@[simp] theorem chainAtBoundary_glk_closeDue (s : State) (c : ChainId) : (chainAtBoundary s c).glk.closeDue = s.glk.closeDue := by
  have h := same_of_drop (m := 12961415168) (chainAtBoundary_drop s c rfl) .switch rfl
  simp only [Block.same] at h; simp only [h]
@[simp] theorem chainAtBoundary_glk_statClosed (s : State) (c : ChainId) : (chainAtBoundary s c).glk.statClosed = s.glk.statClosed := by
  have h := same_of_drop (m := 12961415168) (chainAtBoundary_drop s c rfl) .switch rfl
  simp only [Block.same] at h; simp only [h]
@[simp] theorem chainAtBoundary_thm_sdHotA (s : State) (c : ChainId) : (chainAtBoundary s c).thm.sdHotA = s.thm.sdHotA := by
  have h := same_of_drop (m := 12961415168) (chainAtBoundary_drop s c rfl) .shutdown rfl
  simp only [Block.same] at h; simp only [h]
@[simp] theorem chainAtBoundary_thm_sdHotB (s : State) (c : ChainId) : (chainAtBoundary s c).thm.sdHotB = s.thm.sdHotB := by
  have h := same_of_drop (m := 12961415168) (chainAtBoundary_drop s c rfl) .shutdown rfl
  simp only [Block.same] at h; simp only [h]
@[simp] theorem chainAtBoundary_thm_sdColdA (s : State) (c : ChainId) : (chainAtBoundary s c).thm.sdColdA = s.thm.sdColdA := by
  have h := same_of_drop (m := 12961415168) (chainAtBoundary_drop s c rfl) .shutdown rfl
  simp only [Block.same] at h; simp only [h]
@[simp] theorem chainAtBoundary_thm_sdColdB (s : State) (c : ChainId) : (chainAtBoundary s c).thm.sdColdB = s.thm.sdColdB := by
  have h := same_of_drop (m := 12961415168) (chainAtBoundary_drop s c rfl) .shutdown rfl
  simp only [Block.same] at h; simp only [h]
@[simp] theorem cancelGlue_dev (s : State) (cause : Nat) : (cancelGlue s cause).dev = s.dev :=
  same_of_drop (m := 8589934656) (cancelGlue_drop s cause rfl) .dev rfl
@[simp] theorem cancelGlue_eng (s : State) (cause : Nat) : (cancelGlue s cause).eng = s.eng :=
  same_of_drop (m := 8589934656) (cancelGlue_drop s cause rfl) .eng rfl
@[simp] theorem cancelGlue_img_slotA (s : State) (cause : Nat) : (cancelGlue s cause).img.slotA = s.img.slotA := by
  have h := same_of_drop (m := 8589934656) (cancelGlue_drop s cause rfl) .slots rfl
  simp only [Block.same] at h; simp only [h]
@[simp] theorem cancelGlue_img_slotB (s : State) (cause : Nat) : (cancelGlue s cause).img.slotB = s.img.slotB := by
  have h := same_of_drop (m := 8589934656) (cancelGlue_drop s cause rfl) .slots rfl
  simp only [Block.same] at h; simp only [h]
@[simp] theorem cancelGlue_img_active (s : State) (cause : Nat) : (cancelGlue s cause).img.active = s.img.active := by
  have h := same_of_drop (m := 8589934656) (cancelGlue_drop s cause rfl) .image rfl
  exact h
@[simp] theorem cancelGlue_spl (s : State) (cause : Nat) : (cancelGlue s cause).spl = s.spl :=
  same_of_drop (m := 8589934656) (cancelGlue_drop s cause rfl) .spl rfl
@[simp] theorem cancelGlue_tim (s : State) (cause : Nat) : (cancelGlue s cause).tim = s.tim :=
  same_of_drop (m := 8589934656) (cancelGlue_drop s cause rfl) .tim rfl
@[simp] theorem cancelGlue_arm (s : State) (cause : Nat) : (cancelGlue s cause).arm = s.arm :=
  same_of_drop (m := 8589934656) (cancelGlue_drop s cause rfl) .arm rfl
@[simp] theorem cancelGlue_pwm (s : State) (cause : Nat) : (cancelGlue s cause).pwm = s.pwm :=
  same_of_drop (m := 8589934656) (cancelGlue_drop s cause rfl) .pwm rfl
@[simp] theorem cancelGlue_glk (s : State) (cause : Nat) : (cancelGlue s cause).glk = s.glk :=
  same_of_drop (m := 8589934656) (cancelGlue_drop s cause rfl) .glk rfl
@[simp] theorem cancelGlue_chA (s : State) (cause : Nat) : (cancelGlue s cause).chA = s.chA :=
  same_of_drop (m := 8589934656) (cancelGlue_drop s cause rfl) .chA rfl
@[simp] theorem cancelGlue_chB (s : State) (cause : Nat) : (cancelGlue s cause).chB = s.chB :=
  same_of_drop (m := 8589934656) (cancelGlue_drop s cause rfl) .chB rfl
@[simp] theorem cancelGlue_snA (s : State) (cause : Nat) : (cancelGlue s cause).snA = s.snA :=
  same_of_drop (m := 8589934656) (cancelGlue_drop s cause rfl) .snA rfl
@[simp] theorem cancelGlue_snB (s : State) (cause : Nat) : (cancelGlue s cause).snB = s.snB :=
  same_of_drop (m := 8589934656) (cancelGlue_drop s cause rfl) .snB rfl
@[simp] theorem cancelGlue_esA (s : State) (cause : Nat) : (cancelGlue s cause).esA = s.esA :=
  same_of_drop (m := 8589934656) (cancelGlue_drop s cause rfl) .esA rfl
@[simp] theorem cancelGlue_esB (s : State) (cause : Nat) : (cancelGlue s cause).esB = s.esB :=
  same_of_drop (m := 8589934656) (cancelGlue_drop s cause rfl) .esB rfl
@[simp] theorem cancelGlue_est (s : State) (cause : Nat) : (cancelGlue s cause).est = s.est :=
  same_of_drop (m := 8589934656) (cancelGlue_drop s cause rfl) .est rfl
@[simp] theorem cancelGlue_thm (s : State) (cause : Nat) : (cancelGlue s cause).thm = s.thm :=
  same_of_drop (m := 8589934656) (cancelGlue_drop s cause rfl) .thm rfl
@[simp] theorem cancelGlue_prt (s : State) (cause : Nat) : (cancelGlue s cause).prt = s.prt :=
  same_of_drop (m := 8589934656) (cancelGlue_drop s cause rfl) .prt rfl
@[simp] theorem cancelGlue_dvt (s : State) (cause : Nat) : (cancelGlue s cause).dvt = s.dvt :=
  same_of_drop (m := 8589934656) (cancelGlue_drop s cause rfl) .dvt rfl
@[simp] theorem cancelGlue_lsw (s : State) (cause : Nat) : (cancelGlue s cause).lsw = s.lsw :=
  same_of_drop (m := 8589934656) (cancelGlue_drop s cause rfl) .lsw rfl
@[simp] theorem cancelGlue_lbus (s : State) (cause : Nat) : (cancelGlue s cause).lbus = s.lbus :=
  same_of_drop (m := 8589934656) (cancelGlue_drop s cause rfl) .lbus rfl
@[simp] theorem cancelGlue_pwr (s : State) (cause : Nat) : (cancelGlue s cause).pwr = s.pwr :=
  same_of_drop (m := 8589934656) (cancelGlue_drop s cause rfl) .pwr rfl
@[simp] theorem cancelGlue_sec (s : State) (cause : Nat) : (cancelGlue s cause).sec = s.sec :=
  same_of_drop (m := 8589934656) (cancelGlue_drop s cause rfl) .sec rfl
@[simp] theorem cancelGlue_mnt (s : State) (cause : Nat) : (cancelGlue s cause).mnt = s.mnt :=
  same_of_drop (m := 8589934656) (cancelGlue_drop s cause rfl) .mnt rfl
@[simp] theorem cancelGlue_outbox (s : State) (cause : Nat) : (cancelGlue s cause).outbox = s.outbox :=
  same_of_drop (m := 8589934656) (cancelGlue_drop s cause rfl) .outbox rfl
@[simp] theorem ringTag_dev (s : State) (tag : BitVec 64) : (ringTag s tag).dev = s.dev :=
  same_of_drop (m := 562717237440) (ringTag_drop s tag rfl) .dev rfl
@[simp] theorem ringTag_eng (s : State) (tag : BitVec 64) : (ringTag s tag).eng = s.eng :=
  same_of_drop (m := 562717237440) (ringTag_drop s tag rfl) .eng rfl
@[simp] theorem ringTag_img_slotA (s : State) (tag : BitVec 64) : (ringTag s tag).img.slotA = s.img.slotA := by
  have h := same_of_drop (m := 562717237440) (ringTag_drop s tag rfl) .slots rfl
  simp only [Block.same] at h; simp only [h]
@[simp] theorem ringTag_img_slotB (s : State) (tag : BitVec 64) : (ringTag s tag).img.slotB = s.img.slotB := by
  have h := same_of_drop (m := 562717237440) (ringTag_drop s tag rfl) .slots rfl
  simp only [Block.same] at h; simp only [h]
@[simp] theorem ringTag_img_active (s : State) (tag : BitVec 64) : (ringTag s tag).img.active = s.img.active := by
  have h := same_of_drop (m := 562717237440) (ringTag_drop s tag rfl) .image rfl
  exact h
@[simp] theorem ringTag_tim (s : State) (tag : BitVec 64) : (ringTag s tag).tim = s.tim :=
  same_of_drop (m := 562717237440) (ringTag_drop s tag rfl) .tim rfl
@[simp] theorem ringTag_arm_cell (s : State) (tag : BitVec 64) : (ringTag s tag).arm.cell = s.arm.cell := by
  have h := same_of_drop (m := 562717237440) (ringTag_drop s tag rfl) .cell rfl
  simp only [Block.same] at h; simp only [h]
@[simp] theorem ringTag_arm_changes (s : State) (tag : BitVec 64) : (ringTag s tag).arm.changes = s.arm.changes := by
  have h := same_of_drop (m := 562717237440) (ringTag_drop s tag rfl) .cell rfl
  simp only [Block.same] at h; simp only [h]
@[simp] theorem ringTag_arm_owner (s : State) (tag : BitVec 64) : (ringTag s tag).arm.owner = s.arm.owner := by
  have h := same_of_drop (m := 562717237440) (ringTag_drop s tag rfl) .token rfl
  exact h
@[simp] theorem ringTag_arm_bypassed (s : State) (tag : BitVec 64) : (ringTag s tag).arm.bypassed = s.arm.bypassed := by
  have h := same_of_drop (m := 562717237440) (ringTag_drop s tag rfl) .bypass rfl
  exact h
@[simp] theorem ringTag_pwm (s : State) (tag : BitVec 64) : (ringTag s tag).pwm = s.pwm :=
  same_of_drop (m := 562717237440) (ringTag_drop s tag rfl) .pwm rfl
@[simp] theorem ringTag_esA (s : State) (tag : BitVec 64) : (ringTag s tag).esA = s.esA :=
  same_of_drop (m := 562717237440) (ringTag_drop s tag rfl) .esA rfl
@[simp] theorem ringTag_esB (s : State) (tag : BitVec 64) : (ringTag s tag).esB = s.esB :=
  same_of_drop (m := 562717237440) (ringTag_drop s tag rfl) .esB rfl
@[simp] theorem ringTag_est (s : State) (tag : BitVec 64) : (ringTag s tag).est = s.est :=
  same_of_drop (m := 562717237440) (ringTag_drop s tag rfl) .est rfl
@[simp] theorem ringTag_prt (s : State) (tag : BitVec 64) : (ringTag s tag).prt = s.prt :=
  same_of_drop (m := 562717237440) (ringTag_drop s tag rfl) .prt rfl
@[simp] theorem ringTag_dvt (s : State) (tag : BitVec 64) : (ringTag s tag).dvt = s.dvt :=
  same_of_drop (m := 562717237440) (ringTag_drop s tag rfl) .dvt rfl
@[simp] theorem ringTag_lbus (s : State) (tag : BitVec 64) : (ringTag s tag).lbus = s.lbus :=
  same_of_drop (m := 562717237440) (ringTag_drop s tag rfl) .lbus rfl
@[simp] theorem ringTag_pwr (s : State) (tag : BitVec 64) : (ringTag s tag).pwr = s.pwr :=
  same_of_drop (m := 562717237440) (ringTag_drop s tag rfl) .pwr rfl
@[simp] theorem ringTag_sec (s : State) (tag : BitVec 64) : (ringTag s tag).sec = s.sec :=
  same_of_drop (m := 562717237440) (ringTag_drop s tag rfl) .sec rfl
@[simp] theorem ringTag_outbox (s : State) (tag : BitVec 64) : (ringTag s tag).outbox = s.outbox :=
  same_of_drop (m := 562717237440) (ringTag_drop s tag rfl) .outbox rfl
@[simp] theorem ringTag_glk_fireHold (s : State) (tag : BitVec 64) : (ringTag s tag).glk.fireHold = s.glk.fireHold := by
  have h := same_of_drop (m := 562717237440) (ringTag_drop s tag rfl) .switch rfl
  simp only [Block.same] at h; simp only [h]
@[simp] theorem ringTag_glk_fireAll (s : State) (tag : BitVec 64) : (ringTag s tag).glk.fireAll = s.glk.fireAll := by
  have h := same_of_drop (m := 562717237440) (ringTag_drop s tag rfl) .switch rfl
  simp only [Block.same] at h; simp only [h]
@[simp] theorem ringTag_glk_closeAsserted (s : State) (tag : BitVec 64) : (ringTag s tag).glk.closeAsserted = s.glk.closeAsserted := by
  have h := same_of_drop (m := 562717237440) (ringTag_drop s tag rfl) .switch rfl
  simp only [Block.same] at h; simp only [h]
@[simp] theorem ringTag_glk_closeDue (s : State) (tag : BitVec 64) : (ringTag s tag).glk.closeDue = s.glk.closeDue := by
  have h := same_of_drop (m := 562717237440) (ringTag_drop s tag rfl) .switch rfl
  simp only [Block.same] at h; simp only [h]
@[simp] theorem ringTag_glk_statClosed (s : State) (tag : BitVec 64) : (ringTag s tag).glk.statClosed = s.glk.statClosed := by
  have h := same_of_drop (m := 562717237440) (ringTag_drop s tag rfl) .switch rfl
  simp only [Block.same] at h; simp only [h]
@[simp] theorem ringTag_thm_sdHotA (s : State) (tag : BitVec 64) : (ringTag s tag).thm.sdHotA = s.thm.sdHotA := by
  have h := same_of_drop (m := 562717237440) (ringTag_drop s tag rfl) .shutdown rfl
  simp only [Block.same] at h; simp only [h]
@[simp] theorem ringTag_thm_sdHotB (s : State) (tag : BitVec 64) : (ringTag s tag).thm.sdHotB = s.thm.sdHotB := by
  have h := same_of_drop (m := 562717237440) (ringTag_drop s tag rfl) .shutdown rfl
  simp only [Block.same] at h; simp only [h]
@[simp] theorem ringTag_thm_sdColdA (s : State) (tag : BitVec 64) : (ringTag s tag).thm.sdColdA = s.thm.sdColdA := by
  have h := same_of_drop (m := 562717237440) (ringTag_drop s tag rfl) .shutdown rfl
  simp only [Block.same] at h; simp only [h]
@[simp] theorem ringTag_thm_sdColdB (s : State) (tag : BitVec 64) : (ringTag s tag).thm.sdColdB = s.thm.sdColdB := by
  have h := same_of_drop (m := 562717237440) (ringTag_drop s tag rfl) .shutdown rfl
  simp only [Block.same] at h; simp only [h]
@[simp] theorem watchReady_dev (s : State) : (watchReady s).dev = s.dev :=
  same_of_drop (m := 8589934656) (watchReady_drop s rfl) .dev rfl
@[simp] theorem watchReady_eng (s : State) : (watchReady s).eng = s.eng :=
  same_of_drop (m := 8589934656) (watchReady_drop s rfl) .eng rfl
@[simp] theorem watchReady_img_slotA (s : State) : (watchReady s).img.slotA = s.img.slotA := by
  have h := same_of_drop (m := 8589934656) (watchReady_drop s rfl) .slots rfl
  simp only [Block.same] at h; simp only [h]
@[simp] theorem watchReady_img_slotB (s : State) : (watchReady s).img.slotB = s.img.slotB := by
  have h := same_of_drop (m := 8589934656) (watchReady_drop s rfl) .slots rfl
  simp only [Block.same] at h; simp only [h]
@[simp] theorem watchReady_img_active (s : State) : (watchReady s).img.active = s.img.active := by
  have h := same_of_drop (m := 8589934656) (watchReady_drop s rfl) .image rfl
  exact h
@[simp] theorem watchReady_spl (s : State) : (watchReady s).spl = s.spl :=
  same_of_drop (m := 8589934656) (watchReady_drop s rfl) .spl rfl
@[simp] theorem watchReady_tim (s : State) : (watchReady s).tim = s.tim :=
  same_of_drop (m := 8589934656) (watchReady_drop s rfl) .tim rfl
@[simp] theorem watchReady_arm (s : State) : (watchReady s).arm = s.arm :=
  same_of_drop (m := 8589934656) (watchReady_drop s rfl) .arm rfl
@[simp] theorem watchReady_pwm (s : State) : (watchReady s).pwm = s.pwm :=
  same_of_drop (m := 8589934656) (watchReady_drop s rfl) .pwm rfl
@[simp] theorem watchReady_glk (s : State) : (watchReady s).glk = s.glk :=
  same_of_drop (m := 8589934656) (watchReady_drop s rfl) .glk rfl
@[simp] theorem watchReady_chA (s : State) : (watchReady s).chA = s.chA :=
  same_of_drop (m := 8589934656) (watchReady_drop s rfl) .chA rfl
@[simp] theorem watchReady_chB (s : State) : (watchReady s).chB = s.chB :=
  same_of_drop (m := 8589934656) (watchReady_drop s rfl) .chB rfl
@[simp] theorem watchReady_snA (s : State) : (watchReady s).snA = s.snA :=
  same_of_drop (m := 8589934656) (watchReady_drop s rfl) .snA rfl
@[simp] theorem watchReady_snB (s : State) : (watchReady s).snB = s.snB :=
  same_of_drop (m := 8589934656) (watchReady_drop s rfl) .snB rfl
@[simp] theorem watchReady_esA (s : State) : (watchReady s).esA = s.esA :=
  same_of_drop (m := 8589934656) (watchReady_drop s rfl) .esA rfl
@[simp] theorem watchReady_esB (s : State) : (watchReady s).esB = s.esB :=
  same_of_drop (m := 8589934656) (watchReady_drop s rfl) .esB rfl
@[simp] theorem watchReady_est (s : State) : (watchReady s).est = s.est :=
  same_of_drop (m := 8589934656) (watchReady_drop s rfl) .est rfl
@[simp] theorem watchReady_thm (s : State) : (watchReady s).thm = s.thm :=
  same_of_drop (m := 8589934656) (watchReady_drop s rfl) .thm rfl
@[simp] theorem watchReady_prt (s : State) : (watchReady s).prt = s.prt :=
  same_of_drop (m := 8589934656) (watchReady_drop s rfl) .prt rfl
@[simp] theorem watchReady_dvt (s : State) : (watchReady s).dvt = s.dvt :=
  same_of_drop (m := 8589934656) (watchReady_drop s rfl) .dvt rfl
@[simp] theorem watchReady_lsw (s : State) : (watchReady s).lsw = s.lsw :=
  same_of_drop (m := 8589934656) (watchReady_drop s rfl) .lsw rfl
@[simp] theorem watchReady_lbus (s : State) : (watchReady s).lbus = s.lbus :=
  same_of_drop (m := 8589934656) (watchReady_drop s rfl) .lbus rfl
@[simp] theorem watchReady_pwr (s : State) : (watchReady s).pwr = s.pwr :=
  same_of_drop (m := 8589934656) (watchReady_drop s rfl) .pwr rfl
@[simp] theorem watchReady_sec (s : State) : (watchReady s).sec = s.sec :=
  same_of_drop (m := 8589934656) (watchReady_drop s rfl) .sec rfl
@[simp] theorem watchReady_mnt (s : State) : (watchReady s).mnt = s.mnt :=
  same_of_drop (m := 8589934656) (watchReady_drop s rfl) .mnt rfl
@[simp] theorem watchReady_outbox (s : State) : (watchReady s).outbox = s.outbox :=
  same_of_drop (m := 8589934656) (watchReady_drop s rfl) .outbox rfl
@[simp] theorem gluePhase_dev (s : State) (phase : Nat) (tag : BitVec 64) (tG : Nat) : (gluePhase s phase tag tG).dev = s.dev :=
  same_of_drop (m := 12961415232) (gluePhase_drop s phase tag tG rfl) .dev rfl
@[simp] theorem gluePhase_eng (s : State) (phase : Nat) (tag : BitVec 64) (tG : Nat) : (gluePhase s phase tag tG).eng = s.eng :=
  same_of_drop (m := 12961415232) (gluePhase_drop s phase tag tG rfl) .eng rfl
@[simp] theorem gluePhase_img_slotA (s : State) (phase : Nat) (tag : BitVec 64) (tG : Nat) : (gluePhase s phase tag tG).img.slotA = s.img.slotA := by
  have h := same_of_drop (m := 12961415232) (gluePhase_drop s phase tag tG rfl) .slots rfl
  simp only [Block.same] at h; simp only [h]
@[simp] theorem gluePhase_img_slotB (s : State) (phase : Nat) (tag : BitVec 64) (tG : Nat) : (gluePhase s phase tag tG).img.slotB = s.img.slotB := by
  have h := same_of_drop (m := 12961415232) (gluePhase_drop s phase tag tG rfl) .slots rfl
  simp only [Block.same] at h; simp only [h]
@[simp] theorem gluePhase_img_active (s : State) (phase : Nat) (tag : BitVec 64) (tG : Nat) : (gluePhase s phase tag tG).img.active = s.img.active := by
  have h := same_of_drop (m := 12961415232) (gluePhase_drop s phase tag tG rfl) .image rfl
  exact h
@[simp] theorem gluePhase_spl (s : State) (phase : Nat) (tag : BitVec 64) (tG : Nat) : (gluePhase s phase tag tG).spl = s.spl :=
  same_of_drop (m := 12961415232) (gluePhase_drop s phase tag tG rfl) .spl rfl
@[simp] theorem gluePhase_tim (s : State) (phase : Nat) (tag : BitVec 64) (tG : Nat) : (gluePhase s phase tag tG).tim = s.tim :=
  same_of_drop (m := 12961415232) (gluePhase_drop s phase tag tG rfl) .tim rfl
@[simp] theorem gluePhase_arm (s : State) (phase : Nat) (tag : BitVec 64) (tG : Nat) : (gluePhase s phase tag tG).arm = s.arm :=
  same_of_drop (m := 12961415232) (gluePhase_drop s phase tag tG rfl) .arm rfl
@[simp] theorem gluePhase_pwm (s : State) (phase : Nat) (tag : BitVec 64) (tG : Nat) : (gluePhase s phase tag tG).pwm = s.pwm :=
  same_of_drop (m := 12961415232) (gluePhase_drop s phase tag tG rfl) .pwm rfl
@[simp] theorem gluePhase_esA (s : State) (phase : Nat) (tag : BitVec 64) (tG : Nat) : (gluePhase s phase tag tG).esA = s.esA :=
  same_of_drop (m := 12961415232) (gluePhase_drop s phase tag tG rfl) .esA rfl
@[simp] theorem gluePhase_esB (s : State) (phase : Nat) (tag : BitVec 64) (tG : Nat) : (gluePhase s phase tag tG).esB = s.esB :=
  same_of_drop (m := 12961415232) (gluePhase_drop s phase tag tG rfl) .esB rfl
@[simp] theorem gluePhase_est (s : State) (phase : Nat) (tag : BitVec 64) (tG : Nat) : (gluePhase s phase tag tG).est = s.est :=
  same_of_drop (m := 12961415232) (gluePhase_drop s phase tag tG rfl) .est rfl
@[simp] theorem gluePhase_prt (s : State) (phase : Nat) (tag : BitVec 64) (tG : Nat) : (gluePhase s phase tag tG).prt = s.prt :=
  same_of_drop (m := 12961415232) (gluePhase_drop s phase tag tG rfl) .prt rfl
@[simp] theorem gluePhase_dvt (s : State) (phase : Nat) (tag : BitVec 64) (tG : Nat) : (gluePhase s phase tag tG).dvt = s.dvt :=
  same_of_drop (m := 12961415232) (gluePhase_drop s phase tag tG rfl) .dvt rfl
@[simp] theorem gluePhase_lbus (s : State) (phase : Nat) (tag : BitVec 64) (tG : Nat) : (gluePhase s phase tag tG).lbus = s.lbus :=
  same_of_drop (m := 12961415232) (gluePhase_drop s phase tag tG rfl) .lbus rfl
@[simp] theorem gluePhase_pwr (s : State) (phase : Nat) (tag : BitVec 64) (tG : Nat) : (gluePhase s phase tag tG).pwr = s.pwr :=
  same_of_drop (m := 12961415232) (gluePhase_drop s phase tag tG rfl) .pwr rfl
@[simp] theorem gluePhase_sec (s : State) (phase : Nat) (tag : BitVec 64) (tG : Nat) : (gluePhase s phase tag tG).sec = s.sec :=
  same_of_drop (m := 12961415232) (gluePhase_drop s phase tag tG rfl) .sec rfl
@[simp] theorem gluePhase_outbox (s : State) (phase : Nat) (tag : BitVec 64) (tG : Nat) : (gluePhase s phase tag tG).outbox = s.outbox :=
  same_of_drop (m := 12961415232) (gluePhase_drop s phase tag tG rfl) .outbox rfl
@[simp] theorem gluePhase_glk_legA (s : State) (phase : Nat) (tag : BitVec 64) (tG : Nat) : (gluePhase s phase tag tG).glk.legA = s.glk.legA := by
  have h := same_of_drop (m := 12961415232) (gluePhase_drop s phase tag tG rfl) .legs rfl
  simp only [Block.same] at h; simp only [h]
@[simp] theorem gluePhase_glk_legB (s : State) (phase : Nat) (tag : BitVec 64) (tG : Nat) : (gluePhase s phase tag tG).glk.legB = s.glk.legB := by
  have h := same_of_drop (m := 12961415232) (gluePhase_drop s phase tag tG rfl) .legs rfl
  simp only [Block.same] at h; simp only [h]
@[simp] theorem gluePhase_glk_fireHold (s : State) (phase : Nat) (tag : BitVec 64) (tG : Nat) : (gluePhase s phase tag tG).glk.fireHold = s.glk.fireHold := by
  have h := same_of_drop (m := 12961415232) (gluePhase_drop s phase tag tG rfl) .switch rfl
  simp only [Block.same] at h; simp only [h]
@[simp] theorem gluePhase_glk_fireAll (s : State) (phase : Nat) (tag : BitVec 64) (tG : Nat) : (gluePhase s phase tag tG).glk.fireAll = s.glk.fireAll := by
  have h := same_of_drop (m := 12961415232) (gluePhase_drop s phase tag tG rfl) .switch rfl
  simp only [Block.same] at h; simp only [h]
@[simp] theorem gluePhase_glk_closeAsserted (s : State) (phase : Nat) (tag : BitVec 64) (tG : Nat) : (gluePhase s phase tag tG).glk.closeAsserted = s.glk.closeAsserted := by
  have h := same_of_drop (m := 12961415232) (gluePhase_drop s phase tag tG rfl) .switch rfl
  simp only [Block.same] at h; simp only [h]
@[simp] theorem gluePhase_glk_closeDue (s : State) (phase : Nat) (tag : BitVec 64) (tG : Nat) : (gluePhase s phase tag tG).glk.closeDue = s.glk.closeDue := by
  have h := same_of_drop (m := 12961415232) (gluePhase_drop s phase tag tG rfl) .switch rfl
  simp only [Block.same] at h; simp only [h]
@[simp] theorem gluePhase_glk_statClosed (s : State) (phase : Nat) (tag : BitVec 64) (tG : Nat) : (gluePhase s phase tag tG).glk.statClosed = s.glk.statClosed := by
  have h := same_of_drop (m := 12961415232) (gluePhase_drop s phase tag tG rfl) .switch rfl
  simp only [Block.same] at h; simp only [h]
@[simp] theorem gluePhase_thm_sdHotA (s : State) (phase : Nat) (tag : BitVec 64) (tG : Nat) : (gluePhase s phase tag tG).thm.sdHotA = s.thm.sdHotA := by
  have h := same_of_drop (m := 12961415232) (gluePhase_drop s phase tag tG rfl) .shutdown rfl
  simp only [Block.same] at h; simp only [h]
@[simp] theorem gluePhase_thm_sdHotB (s : State) (phase : Nat) (tag : BitVec 64) (tG : Nat) : (gluePhase s phase tag tG).thm.sdHotB = s.thm.sdHotB := by
  have h := same_of_drop (m := 12961415232) (gluePhase_drop s phase tag tG rfl) .shutdown rfl
  simp only [Block.same] at h; simp only [h]
@[simp] theorem gluePhase_thm_sdColdA (s : State) (phase : Nat) (tag : BitVec 64) (tG : Nat) : (gluePhase s phase tag tG).thm.sdColdA = s.thm.sdColdA := by
  have h := same_of_drop (m := 12961415232) (gluePhase_drop s phase tag tG rfl) .shutdown rfl
  simp only [Block.same] at h; simp only [h]
@[simp] theorem gluePhase_thm_sdColdB (s : State) (phase : Nat) (tag : BitVec 64) (tG : Nat) : (gluePhase s phase tag tG).thm.sdColdB = s.thm.sdColdB := by
  have h := same_of_drop (m := 12961415232) (gluePhase_drop s phase tag tG rfl) .shutdown rfl
  simp only [Block.same] at h; simp only [h]
@[simp] theorem installStaged_dev (s : State) (im : Image) (t : Nat) : (installStaged s im t).dev = s.dev :=
  same_of_drop (m := 2298487024) (installStaged_drop s im t rfl) .dev rfl
@[simp] theorem installStaged_eng (s : State) (im : Image) (t : Nat) : (installStaged s im t).eng = s.eng :=
  same_of_drop (m := 2298487024) (installStaged_drop s im t rfl) .eng rfl
@[simp] theorem installStaged_tim (s : State) (im : Image) (t : Nat) : (installStaged s im t).tim = s.tim :=
  same_of_drop (m := 2298487024) (installStaged_drop s im t rfl) .tim rfl
@[simp] theorem installStaged_arm_cell (s : State) (im : Image) (t : Nat) : (installStaged s im t).arm.cell = s.arm.cell := by
  have h := same_of_drop (m := 2298487024) (installStaged_drop s im t rfl) .cell rfl
  simp only [Block.same] at h; simp only [h]
@[simp] theorem installStaged_arm_changes (s : State) (im : Image) (t : Nat) : (installStaged s im t).arm.changes = s.arm.changes := by
  have h := same_of_drop (m := 2298487024) (installStaged_drop s im t rfl) .cell rfl
  simp only [Block.same] at h; simp only [h]
@[simp] theorem installStaged_arm_owner (s : State) (im : Image) (t : Nat) : (installStaged s im t).arm.owner = s.arm.owner := by
  have h := same_of_drop (m := 2298487024) (installStaged_drop s im t rfl) .token rfl
  exact h
@[simp] theorem installStaged_arm_bypassed (s : State) (im : Image) (t : Nat) : (installStaged s im t).arm.bypassed = s.arm.bypassed := by
  have h := same_of_drop (m := 2298487024) (installStaged_drop s im t rfl) .bypass rfl
  exact h
@[simp] theorem installStaged_pwm (s : State) (im : Image) (t : Nat) : (installStaged s im t).pwm = s.pwm :=
  same_of_drop (m := 2298487024) (installStaged_drop s im t rfl) .pwm rfl
@[simp] theorem installStaged_glk (s : State) (im : Image) (t : Nat) : (installStaged s im t).glk = s.glk :=
  same_of_drop (m := 2298487024) (installStaged_drop s im t rfl) .glk rfl
@[simp] theorem installStaged_chA (s : State) (im : Image) (t : Nat) : (installStaged s im t).chA = s.chA :=
  same_of_drop (m := 2298487024) (installStaged_drop s im t rfl) .chA rfl
@[simp] theorem installStaged_chB (s : State) (im : Image) (t : Nat) : (installStaged s im t).chB = s.chB :=
  same_of_drop (m := 2298487024) (installStaged_drop s im t rfl) .chB rfl
@[simp] theorem installStaged_snA (s : State) (im : Image) (t : Nat) : (installStaged s im t).snA = s.snA :=
  same_of_drop (m := 2298487024) (installStaged_drop s im t rfl) .snA rfl
@[simp] theorem installStaged_snB (s : State) (im : Image) (t : Nat) : (installStaged s im t).snB = s.snB :=
  same_of_drop (m := 2298487024) (installStaged_drop s im t rfl) .snB rfl
@[simp] theorem installStaged_esA (s : State) (im : Image) (t : Nat) : (installStaged s im t).esA = s.esA :=
  same_of_drop (m := 2298487024) (installStaged_drop s im t rfl) .esA rfl
@[simp] theorem installStaged_esB (s : State) (im : Image) (t : Nat) : (installStaged s im t).esB = s.esB :=
  same_of_drop (m := 2298487024) (installStaged_drop s im t rfl) .esB rfl
@[simp] theorem installStaged_est (s : State) (im : Image) (t : Nat) : (installStaged s im t).est = s.est :=
  same_of_drop (m := 2298487024) (installStaged_drop s im t rfl) .est rfl
@[simp] theorem installStaged_thm (s : State) (im : Image) (t : Nat) : (installStaged s im t).thm = s.thm :=
  same_of_drop (m := 2298487024) (installStaged_drop s im t rfl) .thm rfl
@[simp] theorem installStaged_dvt (s : State) (im : Image) (t : Nat) : (installStaged s im t).dvt = s.dvt :=
  same_of_drop (m := 2298487024) (installStaged_drop s im t rfl) .dvt rfl
@[simp] theorem installStaged_lsw (s : State) (im : Image) (t : Nat) : (installStaged s im t).lsw = s.lsw :=
  same_of_drop (m := 2298487024) (installStaged_drop s im t rfl) .lsw rfl
@[simp] theorem installStaged_pwr (s : State) (im : Image) (t : Nat) : (installStaged s im t).pwr = s.pwr :=
  same_of_drop (m := 2298487024) (installStaged_drop s im t rfl) .pwr rfl
@[simp] theorem installStaged_mnt (s : State) (im : Image) (t : Nat) : (installStaged s im t).mnt = s.mnt :=
  same_of_drop (m := 2298487024) (installStaged_drop s im t rfl) .mnt rfl
@[simp] theorem installStaged_evt (s : State) (im : Image) (t : Nat) : (installStaged s im t).evt = s.evt :=
  same_of_drop (m := 2298487024) (installStaged_drop s im t rfl) .evt rfl
@[simp] theorem installStaged_outbox (s : State) (im : Image) (t : Nat) : (installStaged s im t).outbox = s.outbox :=
  same_of_drop (m := 2298487024) (installStaged_drop s im t rfl) .outbox rfl
@[simp] theorem installStaged_prt_active (s : State) (im : Image) (t : Nat) : (installStaged s im t).prt.active = s.prt.active := by
  have h := same_of_drop (m := 2298487024) (installStaged_drop s im t rfl) .raised rfl
  simp only [Block.same] at h; simp only [h]
@[simp] theorem installStaged_prt_pulsed (s : State) (im : Image) (t : Nat) : (installStaged s im t).prt.pulsed = s.prt.pulsed := by
  have h := same_of_drop (m := 2298487024) (installStaged_drop s im t rfl) .raised rfl
  simp only [Block.same] at h; simp only [h]
@[simp] theorem beginGlueRestart_img_slotA (s : State) : (beginGlueRestart s).img.slotA = s.img.slotA := by
  have h := same_of_drop (m := 562716458190) (beginGlueRestart_drop s rfl) .slots rfl
  simp only [Block.same] at h; simp only [h]
@[simp] theorem beginGlueRestart_img_slotB (s : State) : (beginGlueRestart s).img.slotB = s.img.slotB := by
  have h := same_of_drop (m := 562716458190) (beginGlueRestart_drop s rfl) .slots rfl
  simp only [Block.same] at h; simp only [h]
@[simp] theorem beginGlueRestart_img_active (s : State) : (beginGlueRestart s).img.active = s.img.active := by
  have h := same_of_drop (m := 562716458190) (beginGlueRestart_drop s rfl) .image rfl
  exact h
@[simp] theorem beginGlueRestart_tim (s : State) : (beginGlueRestart s).tim = s.tim :=
  same_of_drop (m := 562716458190) (beginGlueRestart_drop s rfl) .tim rfl
@[simp] theorem beginGlueRestart_pwm (s : State) : (beginGlueRestart s).pwm = s.pwm :=
  same_of_drop (m := 562716458190) (beginGlueRestart_drop s rfl) .pwm rfl
@[simp] theorem beginGlueRestart_snA (s : State) : (beginGlueRestart s).snA = s.snA :=
  same_of_drop (m := 562716458190) (beginGlueRestart_drop s rfl) .snA rfl
@[simp] theorem beginGlueRestart_snB (s : State) : (beginGlueRestart s).snB = s.snB :=
  same_of_drop (m := 562716458190) (beginGlueRestart_drop s rfl) .snB rfl
@[simp] theorem beginGlueRestart_esA (s : State) : (beginGlueRestart s).esA = s.esA :=
  same_of_drop (m := 562716458190) (beginGlueRestart_drop s rfl) .esA rfl
@[simp] theorem beginGlueRestart_esB (s : State) : (beginGlueRestart s).esB = s.esB :=
  same_of_drop (m := 562716458190) (beginGlueRestart_drop s rfl) .esB rfl
@[simp] theorem beginGlueRestart_est (s : State) : (beginGlueRestart s).est = s.est :=
  same_of_drop (m := 562716458190) (beginGlueRestart_drop s rfl) .est rfl
@[simp] theorem beginGlueRestart_prt (s : State) : (beginGlueRestart s).prt = s.prt :=
  same_of_drop (m := 562716458190) (beginGlueRestart_drop s rfl) .prt rfl
@[simp] theorem beginGlueRestart_dvt (s : State) : (beginGlueRestart s).dvt = s.dvt :=
  same_of_drop (m := 562716458190) (beginGlueRestart_drop s rfl) .dvt rfl
@[simp] theorem beginGlueRestart_lbus (s : State) : (beginGlueRestart s).lbus = s.lbus :=
  same_of_drop (m := 562716458190) (beginGlueRestart_drop s rfl) .lbus rfl
@[simp] theorem beginGlueRestart_pwr (s : State) : (beginGlueRestart s).pwr = s.pwr :=
  same_of_drop (m := 562716458190) (beginGlueRestart_drop s rfl) .pwr rfl
@[simp] theorem beginGlueRestart_sec (s : State) : (beginGlueRestart s).sec = s.sec :=
  same_of_drop (m := 562716458190) (beginGlueRestart_drop s rfl) .sec rfl
@[simp] theorem beginGlueRestart_outbox (s : State) : (beginGlueRestart s).outbox = s.outbox :=
  same_of_drop (m := 562716458190) (beginGlueRestart_drop s rfl) .outbox rfl
@[simp] theorem beginGlueRestart_glk_fireHold (s : State) : (beginGlueRestart s).glk.fireHold = s.glk.fireHold := by
  have h := same_of_drop (m := 562716458190) (beginGlueRestart_drop s rfl) .switch rfl
  simp only [Block.same] at h; simp only [h]
@[simp] theorem beginGlueRestart_glk_fireAll (s : State) : (beginGlueRestart s).glk.fireAll = s.glk.fireAll := by
  have h := same_of_drop (m := 562716458190) (beginGlueRestart_drop s rfl) .switch rfl
  simp only [Block.same] at h; simp only [h]
@[simp] theorem beginGlueRestart_glk_closeAsserted (s : State) : (beginGlueRestart s).glk.closeAsserted = s.glk.closeAsserted := by
  have h := same_of_drop (m := 562716458190) (beginGlueRestart_drop s rfl) .switch rfl
  simp only [Block.same] at h; simp only [h]
@[simp] theorem beginGlueRestart_glk_closeDue (s : State) : (beginGlueRestart s).glk.closeDue = s.glk.closeDue := by
  have h := same_of_drop (m := 562716458190) (beginGlueRestart_drop s rfl) .switch rfl
  simp only [Block.same] at h; simp only [h]
@[simp] theorem beginGlueRestart_glk_statClosed (s : State) : (beginGlueRestart s).glk.statClosed = s.glk.statClosed := by
  have h := same_of_drop (m := 562716458190) (beginGlueRestart_drop s rfl) .switch rfl
  simp only [Block.same] at h; simp only [h]
@[simp] theorem beginGlueRestart_thm_sdHotA (s : State) : (beginGlueRestart s).thm.sdHotA = s.thm.sdHotA := by
  have h := same_of_drop (m := 562716458190) (beginGlueRestart_drop s rfl) .shutdown rfl
  simp only [Block.same] at h; simp only [h]
@[simp] theorem beginGlueRestart_thm_sdHotB (s : State) : (beginGlueRestart s).thm.sdHotB = s.thm.sdHotB := by
  have h := same_of_drop (m := 562716458190) (beginGlueRestart_drop s rfl) .shutdown rfl
  simp only [Block.same] at h; simp only [h]
@[simp] theorem beginGlueRestart_thm_sdColdA (s : State) : (beginGlueRestart s).thm.sdColdA = s.thm.sdColdA := by
  have h := same_of_drop (m := 562716458190) (beginGlueRestart_drop s rfl) .shutdown rfl
  simp only [Block.same] at h; simp only [h]
@[simp] theorem beginGlueRestart_thm_sdColdB (s : State) : (beginGlueRestart s).thm.sdColdB = s.thm.sdColdB := by
  have h := same_of_drop (m := 562716458190) (beginGlueRestart_drop s rfl) .shutdown rfl
  simp only [Block.same] at h; simp only [h]
@[simp] theorem noSlot_dev (s : State) (kind : Nat) : (noSlot s kind).dev = s.dev :=
  same_of_drop (m := 8594128896) (noSlot_drop s kind rfl) .dev rfl
@[simp] theorem noSlot_eng (s : State) (kind : Nat) : (noSlot s kind).eng = s.eng :=
  same_of_drop (m := 8594128896) (noSlot_drop s kind rfl) .eng rfl
@[simp] theorem noSlot_img (s : State) (kind : Nat) : (noSlot s kind).img = s.img :=
  same_of_drop (m := 8594128896) (noSlot_drop s kind rfl) .img rfl
@[simp] theorem noSlot_spl (s : State) (kind : Nat) : (noSlot s kind).spl = s.spl :=
  same_of_drop (m := 8594128896) (noSlot_drop s kind rfl) .spl rfl
@[simp] theorem noSlot_tim (s : State) (kind : Nat) : (noSlot s kind).tim = s.tim :=
  same_of_drop (m := 8594128896) (noSlot_drop s kind rfl) .tim rfl
@[simp] theorem noSlot_arm (s : State) (kind : Nat) : (noSlot s kind).arm = s.arm :=
  same_of_drop (m := 8594128896) (noSlot_drop s kind rfl) .arm rfl
@[simp] theorem noSlot_pwm (s : State) (kind : Nat) : (noSlot s kind).pwm = s.pwm :=
  same_of_drop (m := 8594128896) (noSlot_drop s kind rfl) .pwm rfl
@[simp] theorem noSlot_glk (s : State) (kind : Nat) : (noSlot s kind).glk = s.glk :=
  same_of_drop (m := 8594128896) (noSlot_drop s kind rfl) .glk rfl
@[simp] theorem noSlot_chA (s : State) (kind : Nat) : (noSlot s kind).chA = s.chA :=
  same_of_drop (m := 8594128896) (noSlot_drop s kind rfl) .chA rfl
@[simp] theorem noSlot_chB (s : State) (kind : Nat) : (noSlot s kind).chB = s.chB :=
  same_of_drop (m := 8594128896) (noSlot_drop s kind rfl) .chB rfl
@[simp] theorem noSlot_snA (s : State) (kind : Nat) : (noSlot s kind).snA = s.snA :=
  same_of_drop (m := 8594128896) (noSlot_drop s kind rfl) .snA rfl
@[simp] theorem noSlot_snB (s : State) (kind : Nat) : (noSlot s kind).snB = s.snB :=
  same_of_drop (m := 8594128896) (noSlot_drop s kind rfl) .snB rfl
@[simp] theorem noSlot_esA (s : State) (kind : Nat) : (noSlot s kind).esA = s.esA :=
  same_of_drop (m := 8594128896) (noSlot_drop s kind rfl) .esA rfl
@[simp] theorem noSlot_esB (s : State) (kind : Nat) : (noSlot s kind).esB = s.esB :=
  same_of_drop (m := 8594128896) (noSlot_drop s kind rfl) .esB rfl
@[simp] theorem noSlot_thm (s : State) (kind : Nat) : (noSlot s kind).thm = s.thm :=
  same_of_drop (m := 8594128896) (noSlot_drop s kind rfl) .thm rfl
@[simp] theorem noSlot_prt (s : State) (kind : Nat) : (noSlot s kind).prt = s.prt :=
  same_of_drop (m := 8594128896) (noSlot_drop s kind rfl) .prt rfl
@[simp] theorem noSlot_dvt (s : State) (kind : Nat) : (noSlot s kind).dvt = s.dvt :=
  same_of_drop (m := 8594128896) (noSlot_drop s kind rfl) .dvt rfl
@[simp] theorem noSlot_lsw (s : State) (kind : Nat) : (noSlot s kind).lsw = s.lsw :=
  same_of_drop (m := 8594128896) (noSlot_drop s kind rfl) .lsw rfl
@[simp] theorem noSlot_lbus (s : State) (kind : Nat) : (noSlot s kind).lbus = s.lbus :=
  same_of_drop (m := 8594128896) (noSlot_drop s kind rfl) .lbus rfl
@[simp] theorem noSlot_pwr (s : State) (kind : Nat) : (noSlot s kind).pwr = s.pwr :=
  same_of_drop (m := 8594128896) (noSlot_drop s kind rfl) .pwr rfl
@[simp] theorem noSlot_sec (s : State) (kind : Nat) : (noSlot s kind).sec = s.sec :=
  same_of_drop (m := 8594128896) (noSlot_drop s kind rfl) .sec rfl
@[simp] theorem noSlot_mnt (s : State) (kind : Nat) : (noSlot s kind).mnt = s.mnt :=
  same_of_drop (m := 8594128896) (noSlot_drop s kind rfl) .mnt rfl
@[simp] theorem noSlot_outbox (s : State) (kind : Nat) : (noSlot s kind).outbox = s.outbox :=
  same_of_drop (m := 8594128896) (noSlot_drop s kind rfl) .outbox rfl
@[simp] theorem lateDrain_dev (s : State) (c : ChainId) : (lateDrain s c).dev = s.dev :=
  same_of_drop (m := 3145728) (lateDrain_drop s c rfl) .dev rfl
@[simp] theorem lateDrain_eng (s : State) (c : ChainId) : (lateDrain s c).eng = s.eng :=
  same_of_drop (m := 3145728) (lateDrain_drop s c rfl) .eng rfl
@[simp] theorem lateDrain_img (s : State) (c : ChainId) : (lateDrain s c).img = s.img :=
  same_of_drop (m := 3145728) (lateDrain_drop s c rfl) .img rfl
@[simp] theorem lateDrain_spl (s : State) (c : ChainId) : (lateDrain s c).spl = s.spl :=
  same_of_drop (m := 3145728) (lateDrain_drop s c rfl) .spl rfl
@[simp] theorem lateDrain_tim (s : State) (c : ChainId) : (lateDrain s c).tim = s.tim :=
  same_of_drop (m := 3145728) (lateDrain_drop s c rfl) .tim rfl
@[simp] theorem lateDrain_arm (s : State) (c : ChainId) : (lateDrain s c).arm = s.arm :=
  same_of_drop (m := 3145728) (lateDrain_drop s c rfl) .arm rfl
@[simp] theorem lateDrain_pwm (s : State) (c : ChainId) : (lateDrain s c).pwm = s.pwm :=
  same_of_drop (m := 3145728) (lateDrain_drop s c rfl) .pwm rfl
@[simp] theorem lateDrain_glk (s : State) (c : ChainId) : (lateDrain s c).glk = s.glk :=
  same_of_drop (m := 3145728) (lateDrain_drop s c rfl) .glk rfl
@[simp] theorem lateDrain_chA (s : State) (c : ChainId) : (lateDrain s c).chA = s.chA :=
  same_of_drop (m := 3145728) (lateDrain_drop s c rfl) .chA rfl
@[simp] theorem lateDrain_chB (s : State) (c : ChainId) : (lateDrain s c).chB = s.chB :=
  same_of_drop (m := 3145728) (lateDrain_drop s c rfl) .chB rfl
@[simp] theorem lateDrain_snA (s : State) (c : ChainId) : (lateDrain s c).snA = s.snA :=
  same_of_drop (m := 3145728) (lateDrain_drop s c rfl) .snA rfl
@[simp] theorem lateDrain_snB (s : State) (c : ChainId) : (lateDrain s c).snB = s.snB :=
  same_of_drop (m := 3145728) (lateDrain_drop s c rfl) .snB rfl
@[simp] theorem lateDrain_est (s : State) (c : ChainId) : (lateDrain s c).est = s.est :=
  same_of_drop (m := 3145728) (lateDrain_drop s c rfl) .est rfl
@[simp] theorem lateDrain_thm (s : State) (c : ChainId) : (lateDrain s c).thm = s.thm :=
  same_of_drop (m := 3145728) (lateDrain_drop s c rfl) .thm rfl
@[simp] theorem lateDrain_prt (s : State) (c : ChainId) : (lateDrain s c).prt = s.prt :=
  same_of_drop (m := 3145728) (lateDrain_drop s c rfl) .prt rfl
@[simp] theorem lateDrain_dvt (s : State) (c : ChainId) : (lateDrain s c).dvt = s.dvt :=
  same_of_drop (m := 3145728) (lateDrain_drop s c rfl) .dvt rfl
@[simp] theorem lateDrain_lsw (s : State) (c : ChainId) : (lateDrain s c).lsw = s.lsw :=
  same_of_drop (m := 3145728) (lateDrain_drop s c rfl) .lsw rfl
@[simp] theorem lateDrain_lbus (s : State) (c : ChainId) : (lateDrain s c).lbus = s.lbus :=
  same_of_drop (m := 3145728) (lateDrain_drop s c rfl) .lbus rfl
@[simp] theorem lateDrain_pwr (s : State) (c : ChainId) : (lateDrain s c).pwr = s.pwr :=
  same_of_drop (m := 3145728) (lateDrain_drop s c rfl) .pwr rfl
@[simp] theorem lateDrain_sec (s : State) (c : ChainId) : (lateDrain s c).sec = s.sec :=
  same_of_drop (m := 3145728) (lateDrain_drop s c rfl) .sec rfl
@[simp] theorem lateDrain_mnt (s : State) (c : ChainId) : (lateDrain s c).mnt = s.mnt :=
  same_of_drop (m := 3145728) (lateDrain_drop s c rfl) .mnt rfl
@[simp] theorem lateDrain_evt (s : State) (c : ChainId) : (lateDrain s c).evt = s.evt :=
  same_of_drop (m := 3145728) (lateDrain_drop s c rfl) .evt rfl
@[simp] theorem lateDrain_outbox (s : State) (c : ChainId) : (lateDrain s c).outbox = s.outbox :=
  same_of_drop (m := 3145728) (lateDrain_drop s c rfl) .outbox rfl
@[simp] theorem badCopies_dev (s : State) : (badCopies s).dev = s.dev :=
  same_of_drop (m := 8589934592) (badCopies_drop s rfl) .dev rfl
@[simp] theorem badCopies_eng (s : State) : (badCopies s).eng = s.eng :=
  same_of_drop (m := 8589934592) (badCopies_drop s rfl) .eng rfl
@[simp] theorem badCopies_img (s : State) : (badCopies s).img = s.img :=
  same_of_drop (m := 8589934592) (badCopies_drop s rfl) .img rfl
@[simp] theorem badCopies_spl (s : State) : (badCopies s).spl = s.spl :=
  same_of_drop (m := 8589934592) (badCopies_drop s rfl) .spl rfl
@[simp] theorem badCopies_tim (s : State) : (badCopies s).tim = s.tim :=
  same_of_drop (m := 8589934592) (badCopies_drop s rfl) .tim rfl
@[simp] theorem badCopies_arm (s : State) : (badCopies s).arm = s.arm :=
  same_of_drop (m := 8589934592) (badCopies_drop s rfl) .arm rfl
@[simp] theorem badCopies_pwm (s : State) : (badCopies s).pwm = s.pwm :=
  same_of_drop (m := 8589934592) (badCopies_drop s rfl) .pwm rfl
@[simp] theorem badCopies_glk (s : State) : (badCopies s).glk = s.glk :=
  same_of_drop (m := 8589934592) (badCopies_drop s rfl) .glk rfl
@[simp] theorem badCopies_chA (s : State) : (badCopies s).chA = s.chA :=
  same_of_drop (m := 8589934592) (badCopies_drop s rfl) .chA rfl
@[simp] theorem badCopies_chB (s : State) : (badCopies s).chB = s.chB :=
  same_of_drop (m := 8589934592) (badCopies_drop s rfl) .chB rfl
@[simp] theorem badCopies_snA (s : State) : (badCopies s).snA = s.snA :=
  same_of_drop (m := 8589934592) (badCopies_drop s rfl) .snA rfl
@[simp] theorem badCopies_snB (s : State) : (badCopies s).snB = s.snB :=
  same_of_drop (m := 8589934592) (badCopies_drop s rfl) .snB rfl
@[simp] theorem badCopies_esA (s : State) : (badCopies s).esA = s.esA :=
  same_of_drop (m := 8589934592) (badCopies_drop s rfl) .esA rfl
@[simp] theorem badCopies_esB (s : State) : (badCopies s).esB = s.esB :=
  same_of_drop (m := 8589934592) (badCopies_drop s rfl) .esB rfl
@[simp] theorem badCopies_est (s : State) : (badCopies s).est = s.est :=
  same_of_drop (m := 8589934592) (badCopies_drop s rfl) .est rfl
@[simp] theorem badCopies_thm (s : State) : (badCopies s).thm = s.thm :=
  same_of_drop (m := 8589934592) (badCopies_drop s rfl) .thm rfl
@[simp] theorem badCopies_prt (s : State) : (badCopies s).prt = s.prt :=
  same_of_drop (m := 8589934592) (badCopies_drop s rfl) .prt rfl
@[simp] theorem badCopies_dvt (s : State) : (badCopies s).dvt = s.dvt :=
  same_of_drop (m := 8589934592) (badCopies_drop s rfl) .dvt rfl
@[simp] theorem badCopies_lsw (s : State) : (badCopies s).lsw = s.lsw :=
  same_of_drop (m := 8589934592) (badCopies_drop s rfl) .lsw rfl
@[simp] theorem badCopies_lbus (s : State) : (badCopies s).lbus = s.lbus :=
  same_of_drop (m := 8589934592) (badCopies_drop s rfl) .lbus rfl
@[simp] theorem badCopies_pwr (s : State) : (badCopies s).pwr = s.pwr :=
  same_of_drop (m := 8589934592) (badCopies_drop s rfl) .pwr rfl
@[simp] theorem badCopies_sec (s : State) : (badCopies s).sec = s.sec :=
  same_of_drop (m := 8589934592) (badCopies_drop s rfl) .sec rfl
@[simp] theorem badCopies_mnt (s : State) : (badCopies s).mnt = s.mnt :=
  same_of_drop (m := 8589934592) (badCopies_drop s rfl) .mnt rfl
@[simp] theorem badCopies_outbox (s : State) : (badCopies s).outbox = s.outbox :=
  same_of_drop (m := 8589934592) (badCopies_drop s rfl) .outbox rfl
@[simp] theorem restoreShutdown_dev (s : State) (c : ChainId) : (restoreShutdown s c).dev = s.dev :=
  same_of_drop (m := 10595777617920) (restoreShutdown_drop s c rfl) .dev rfl
@[simp] theorem restoreShutdown_eng (s : State) (c : ChainId) : (restoreShutdown s c).eng = s.eng :=
  same_of_drop (m := 10595777617920) (restoreShutdown_drop s c rfl) .eng rfl
@[simp] theorem restoreShutdown_img (s : State) (c : ChainId) : (restoreShutdown s c).img = s.img :=
  same_of_drop (m := 10595777617920) (restoreShutdown_drop s c rfl) .img rfl
@[simp] theorem restoreShutdown_spl (s : State) (c : ChainId) : (restoreShutdown s c).spl = s.spl :=
  same_of_drop (m := 10595777617920) (restoreShutdown_drop s c rfl) .spl rfl
@[simp] theorem restoreShutdown_tim (s : State) (c : ChainId) : (restoreShutdown s c).tim = s.tim :=
  same_of_drop (m := 10595777617920) (restoreShutdown_drop s c rfl) .tim rfl
@[simp] theorem restoreShutdown_arm_cell (s : State) (c : ChainId) : (restoreShutdown s c).arm.cell = s.arm.cell := by
  have h := same_of_drop (m := 10595777617920) (restoreShutdown_drop s c rfl) .cell rfl
  simp only [Block.same] at h; simp only [h]
@[simp] theorem restoreShutdown_arm_changes (s : State) (c : ChainId) : (restoreShutdown s c).arm.changes = s.arm.changes := by
  have h := same_of_drop (m := 10595777617920) (restoreShutdown_drop s c rfl) .cell rfl
  simp only [Block.same] at h; simp only [h]
@[simp] theorem restoreShutdown_arm_owner (s : State) (c : ChainId) : (restoreShutdown s c).arm.owner = s.arm.owner := by
  have h := same_of_drop (m := 10595777617920) (restoreShutdown_drop s c rfl) .token rfl
  exact h
@[simp] theorem restoreShutdown_arm_bypassed (s : State) (c : ChainId) : (restoreShutdown s c).arm.bypassed = s.arm.bypassed := by
  have h := same_of_drop (m := 10595777617920) (restoreShutdown_drop s c rfl) .bypass rfl
  exact h
@[simp] theorem restoreShutdown_pwm (s : State) (c : ChainId) : (restoreShutdown s c).pwm = s.pwm :=
  same_of_drop (m := 10595777617920) (restoreShutdown_drop s c rfl) .pwm rfl
@[simp] theorem restoreShutdown_esA (s : State) (c : ChainId) : (restoreShutdown s c).esA = s.esA :=
  same_of_drop (m := 10595777617920) (restoreShutdown_drop s c rfl) .esA rfl
@[simp] theorem restoreShutdown_esB (s : State) (c : ChainId) : (restoreShutdown s c).esB = s.esB :=
  same_of_drop (m := 10595777617920) (restoreShutdown_drop s c rfl) .esB rfl
@[simp] theorem restoreShutdown_est (s : State) (c : ChainId) : (restoreShutdown s c).est = s.est :=
  same_of_drop (m := 10595777617920) (restoreShutdown_drop s c rfl) .est rfl
@[simp] theorem restoreShutdown_dvt (s : State) (c : ChainId) : (restoreShutdown s c).dvt = s.dvt :=
  same_of_drop (m := 10595777617920) (restoreShutdown_drop s c rfl) .dvt rfl
@[simp] theorem restoreShutdown_lbus (s : State) (c : ChainId) : (restoreShutdown s c).lbus = s.lbus :=
  same_of_drop (m := 10595777617920) (restoreShutdown_drop s c rfl) .lbus rfl
@[simp] theorem restoreShutdown_pwr (s : State) (c : ChainId) : (restoreShutdown s c).pwr = s.pwr :=
  same_of_drop (m := 10595777617920) (restoreShutdown_drop s c rfl) .pwr rfl
@[simp] theorem restoreShutdown_sec (s : State) (c : ChainId) : (restoreShutdown s c).sec = s.sec :=
  same_of_drop (m := 10595777617920) (restoreShutdown_drop s c rfl) .sec rfl
@[simp] theorem restoreShutdown_glk_fireHold (s : State) (c : ChainId) : (restoreShutdown s c).glk.fireHold = s.glk.fireHold := by
  have h := same_of_drop (m := 10595777617920) (restoreShutdown_drop s c rfl) .switch rfl
  simp only [Block.same] at h; simp only [h]
@[simp] theorem restoreShutdown_glk_fireAll (s : State) (c : ChainId) : (restoreShutdown s c).glk.fireAll = s.glk.fireAll := by
  have h := same_of_drop (m := 10595777617920) (restoreShutdown_drop s c rfl) .switch rfl
  simp only [Block.same] at h; simp only [h]
@[simp] theorem restoreShutdown_glk_closeAsserted (s : State) (c : ChainId) : (restoreShutdown s c).glk.closeAsserted = s.glk.closeAsserted := by
  have h := same_of_drop (m := 10595777617920) (restoreShutdown_drop s c rfl) .switch rfl
  simp only [Block.same] at h; simp only [h]
@[simp] theorem restoreShutdown_glk_closeDue (s : State) (c : ChainId) : (restoreShutdown s c).glk.closeDue = s.glk.closeDue := by
  have h := same_of_drop (m := 10595777617920) (restoreShutdown_drop s c rfl) .switch rfl
  simp only [Block.same] at h; simp only [h]
@[simp] theorem restoreShutdown_glk_statClosed (s : State) (c : ChainId) : (restoreShutdown s c).glk.statClosed = s.glk.statClosed := by
  have h := same_of_drop (m := 10595777617920) (restoreShutdown_drop s c rfl) .switch rfl
  simp only [Block.same] at h; simp only [h]
@[simp] theorem applyStages_dev (s : State) : (applyStages s).dev = s.dev :=
  same_of_drop (m := 209715200) (applyStages_drop s rfl) .dev rfl
@[simp] theorem applyStages_eng (s : State) : (applyStages s).eng = s.eng :=
  same_of_drop (m := 209715200) (applyStages_drop s rfl) .eng rfl
@[simp] theorem applyStages_img (s : State) : (applyStages s).img = s.img :=
  same_of_drop (m := 209715200) (applyStages_drop s rfl) .img rfl
@[simp] theorem applyStages_spl (s : State) : (applyStages s).spl = s.spl :=
  same_of_drop (m := 209715200) (applyStages_drop s rfl) .spl rfl
@[simp] theorem applyStages_tim (s : State) : (applyStages s).tim = s.tim :=
  same_of_drop (m := 209715200) (applyStages_drop s rfl) .tim rfl
@[simp] theorem applyStages_arm (s : State) : (applyStages s).arm = s.arm :=
  same_of_drop (m := 209715200) (applyStages_drop s rfl) .arm rfl
@[simp] theorem applyStages_pwm (s : State) : (applyStages s).pwm = s.pwm :=
  same_of_drop (m := 209715200) (applyStages_drop s rfl) .pwm rfl
@[simp] theorem applyStages_glk (s : State) : (applyStages s).glk = s.glk :=
  same_of_drop (m := 209715200) (applyStages_drop s rfl) .glk rfl
@[simp] theorem applyStages_chA (s : State) : (applyStages s).chA = s.chA :=
  same_of_drop (m := 209715200) (applyStages_drop s rfl) .chA rfl
@[simp] theorem applyStages_chB (s : State) : (applyStages s).chB = s.chB :=
  same_of_drop (m := 209715200) (applyStages_drop s rfl) .chB rfl
@[simp] theorem applyStages_snA (s : State) : (applyStages s).snA = s.snA :=
  same_of_drop (m := 209715200) (applyStages_drop s rfl) .snA rfl
@[simp] theorem applyStages_snB (s : State) : (applyStages s).snB = s.snB :=
  same_of_drop (m := 209715200) (applyStages_drop s rfl) .snB rfl
@[simp] theorem applyStages_esA (s : State) : (applyStages s).esA = s.esA :=
  same_of_drop (m := 209715200) (applyStages_drop s rfl) .esA rfl
@[simp] theorem applyStages_esB (s : State) : (applyStages s).esB = s.esB :=
  same_of_drop (m := 209715200) (applyStages_drop s rfl) .esB rfl
@[simp] theorem applyStages_est (s : State) : (applyStages s).est = s.est :=
  same_of_drop (m := 209715200) (applyStages_drop s rfl) .est rfl
@[simp] theorem applyStages_prt (s : State) : (applyStages s).prt = s.prt :=
  same_of_drop (m := 209715200) (applyStages_drop s rfl) .prt rfl
@[simp] theorem applyStages_dvt (s : State) : (applyStages s).dvt = s.dvt :=
  same_of_drop (m := 209715200) (applyStages_drop s rfl) .dvt rfl
@[simp] theorem applyStages_pwr (s : State) : (applyStages s).pwr = s.pwr :=
  same_of_drop (m := 209715200) (applyStages_drop s rfl) .pwr rfl
@[simp] theorem applyStages_sec (s : State) : (applyStages s).sec = s.sec :=
  same_of_drop (m := 209715200) (applyStages_drop s rfl) .sec rfl
@[simp] theorem applyStages_mnt (s : State) : (applyStages s).mnt = s.mnt :=
  same_of_drop (m := 209715200) (applyStages_drop s rfl) .mnt rfl
@[simp] theorem applyStages_evt (s : State) : (applyStages s).evt = s.evt :=
  same_of_drop (m := 209715200) (applyStages_drop s rfl) .evt rfl
@[simp] theorem applyStages_outbox (s : State) : (applyStages s).outbox = s.outbox :=
  same_of_drop (m := 209715200) (applyStages_drop s rfl) .outbox rfl
@[simp] theorem applyStages_thm_sdHotA (s : State) : (applyStages s).thm.sdHotA = s.thm.sdHotA := by
  have h := same_of_drop (m := 209715200) (applyStages_drop s rfl) .shutdown rfl
  simp only [Block.same] at h; simp only [h]
@[simp] theorem applyStages_thm_sdHotB (s : State) : (applyStages s).thm.sdHotB = s.thm.sdHotB := by
  have h := same_of_drop (m := 209715200) (applyStages_drop s rfl) .shutdown rfl
  simp only [Block.same] at h; simp only [h]
@[simp] theorem applyStages_thm_sdColdA (s : State) : (applyStages s).thm.sdColdA = s.thm.sdColdA := by
  have h := same_of_drop (m := 209715200) (applyStages_drop s rfl) .shutdown rfl
  simp only [Block.same] at h; simp only [h]
@[simp] theorem applyStages_thm_sdColdB (s : State) : (applyStages s).thm.sdColdB = s.thm.sdColdB := by
  have h := same_of_drop (m := 209715200) (applyStages_drop s rfl) .shutdown rfl
  simp only [Block.same] at h; simp only [h]
@[simp] theorem measureBoot_dev (s : State) (slot : Option Bool) : (measureBoot s slot).dev = s.dev :=
  same_of_drop (m := 2147483648) (measureBoot_drop s slot rfl) .dev rfl
@[simp] theorem measureBoot_eng (s : State) (slot : Option Bool) : (measureBoot s slot).eng = s.eng :=
  same_of_drop (m := 2147483648) (measureBoot_drop s slot rfl) .eng rfl
@[simp] theorem measureBoot_img (s : State) (slot : Option Bool) : (measureBoot s slot).img = s.img :=
  same_of_drop (m := 2147483648) (measureBoot_drop s slot rfl) .img rfl
@[simp] theorem measureBoot_spl (s : State) (slot : Option Bool) : (measureBoot s slot).spl = s.spl :=
  same_of_drop (m := 2147483648) (measureBoot_drop s slot rfl) .spl rfl
@[simp] theorem measureBoot_tim (s : State) (slot : Option Bool) : (measureBoot s slot).tim = s.tim :=
  same_of_drop (m := 2147483648) (measureBoot_drop s slot rfl) .tim rfl
@[simp] theorem measureBoot_arm (s : State) (slot : Option Bool) : (measureBoot s slot).arm = s.arm :=
  same_of_drop (m := 2147483648) (measureBoot_drop s slot rfl) .arm rfl
@[simp] theorem measureBoot_pwm (s : State) (slot : Option Bool) : (measureBoot s slot).pwm = s.pwm :=
  same_of_drop (m := 2147483648) (measureBoot_drop s slot rfl) .pwm rfl
@[simp] theorem measureBoot_glk (s : State) (slot : Option Bool) : (measureBoot s slot).glk = s.glk :=
  same_of_drop (m := 2147483648) (measureBoot_drop s slot rfl) .glk rfl
@[simp] theorem measureBoot_chA (s : State) (slot : Option Bool) : (measureBoot s slot).chA = s.chA :=
  same_of_drop (m := 2147483648) (measureBoot_drop s slot rfl) .chA rfl
@[simp] theorem measureBoot_chB (s : State) (slot : Option Bool) : (measureBoot s slot).chB = s.chB :=
  same_of_drop (m := 2147483648) (measureBoot_drop s slot rfl) .chB rfl
@[simp] theorem measureBoot_snA (s : State) (slot : Option Bool) : (measureBoot s slot).snA = s.snA :=
  same_of_drop (m := 2147483648) (measureBoot_drop s slot rfl) .snA rfl
@[simp] theorem measureBoot_snB (s : State) (slot : Option Bool) : (measureBoot s slot).snB = s.snB :=
  same_of_drop (m := 2147483648) (measureBoot_drop s slot rfl) .snB rfl
@[simp] theorem measureBoot_esA (s : State) (slot : Option Bool) : (measureBoot s slot).esA = s.esA :=
  same_of_drop (m := 2147483648) (measureBoot_drop s slot rfl) .esA rfl
@[simp] theorem measureBoot_esB (s : State) (slot : Option Bool) : (measureBoot s slot).esB = s.esB :=
  same_of_drop (m := 2147483648) (measureBoot_drop s slot rfl) .esB rfl
@[simp] theorem measureBoot_est (s : State) (slot : Option Bool) : (measureBoot s slot).est = s.est :=
  same_of_drop (m := 2147483648) (measureBoot_drop s slot rfl) .est rfl
@[simp] theorem measureBoot_thm (s : State) (slot : Option Bool) : (measureBoot s slot).thm = s.thm :=
  same_of_drop (m := 2147483648) (measureBoot_drop s slot rfl) .thm rfl
@[simp] theorem measureBoot_prt (s : State) (slot : Option Bool) : (measureBoot s slot).prt = s.prt :=
  same_of_drop (m := 2147483648) (measureBoot_drop s slot rfl) .prt rfl
@[simp] theorem measureBoot_dvt (s : State) (slot : Option Bool) : (measureBoot s slot).dvt = s.dvt :=
  same_of_drop (m := 2147483648) (measureBoot_drop s slot rfl) .dvt rfl
@[simp] theorem measureBoot_lsw (s : State) (slot : Option Bool) : (measureBoot s slot).lsw = s.lsw :=
  same_of_drop (m := 2147483648) (measureBoot_drop s slot rfl) .lsw rfl
@[simp] theorem measureBoot_lbus (s : State) (slot : Option Bool) : (measureBoot s slot).lbus = s.lbus :=
  same_of_drop (m := 2147483648) (measureBoot_drop s slot rfl) .lbus rfl
@[simp] theorem measureBoot_pwr (s : State) (slot : Option Bool) : (measureBoot s slot).pwr = s.pwr :=
  same_of_drop (m := 2147483648) (measureBoot_drop s slot rfl) .pwr rfl
@[simp] theorem measureBoot_mnt (s : State) (slot : Option Bool) : (measureBoot s slot).mnt = s.mnt :=
  same_of_drop (m := 2147483648) (measureBoot_drop s slot rfl) .mnt rfl
@[simp] theorem measureBoot_evt (s : State) (slot : Option Bool) : (measureBoot s slot).evt = s.evt :=
  same_of_drop (m := 2147483648) (measureBoot_drop s slot rfl) .evt rfl
@[simp] theorem measureBoot_outbox (s : State) (slot : Option Bool) : (measureBoot s slot).outbox = s.outbox :=
  same_of_drop (m := 2147483648) (measureBoot_drop s slot rfl) .outbox rfl
@[simp] theorem logStart_dev (s : State) : (logStart s).dev = s.dev :=
  same_of_drop (m := 9126805504) (logStart_drop s rfl) .dev rfl
@[simp] theorem logStart_eng (s : State) : (logStart s).eng = s.eng :=
  same_of_drop (m := 9126805504) (logStart_drop s rfl) .eng rfl
@[simp] theorem logStart_img (s : State) : (logStart s).img = s.img :=
  same_of_drop (m := 9126805504) (logStart_drop s rfl) .img rfl
@[simp] theorem logStart_spl (s : State) : (logStart s).spl = s.spl :=
  same_of_drop (m := 9126805504) (logStart_drop s rfl) .spl rfl
@[simp] theorem logStart_tim (s : State) : (logStart s).tim = s.tim :=
  same_of_drop (m := 9126805504) (logStart_drop s rfl) .tim rfl
@[simp] theorem logStart_arm (s : State) : (logStart s).arm = s.arm :=
  same_of_drop (m := 9126805504) (logStart_drop s rfl) .arm rfl
@[simp] theorem logStart_pwm (s : State) : (logStart s).pwm = s.pwm :=
  same_of_drop (m := 9126805504) (logStart_drop s rfl) .pwm rfl
@[simp] theorem logStart_glk (s : State) : (logStart s).glk = s.glk :=
  same_of_drop (m := 9126805504) (logStart_drop s rfl) .glk rfl
@[simp] theorem logStart_chA (s : State) : (logStart s).chA = s.chA :=
  same_of_drop (m := 9126805504) (logStart_drop s rfl) .chA rfl
@[simp] theorem logStart_chB (s : State) : (logStart s).chB = s.chB :=
  same_of_drop (m := 9126805504) (logStart_drop s rfl) .chB rfl
@[simp] theorem logStart_snA (s : State) : (logStart s).snA = s.snA :=
  same_of_drop (m := 9126805504) (logStart_drop s rfl) .snA rfl
@[simp] theorem logStart_snB (s : State) : (logStart s).snB = s.snB :=
  same_of_drop (m := 9126805504) (logStart_drop s rfl) .snB rfl
@[simp] theorem logStart_esA (s : State) : (logStart s).esA = s.esA :=
  same_of_drop (m := 9126805504) (logStart_drop s rfl) .esA rfl
@[simp] theorem logStart_esB (s : State) : (logStart s).esB = s.esB :=
  same_of_drop (m := 9126805504) (logStart_drop s rfl) .esB rfl
@[simp] theorem logStart_est (s : State) : (logStart s).est = s.est :=
  same_of_drop (m := 9126805504) (logStart_drop s rfl) .est rfl
@[simp] theorem logStart_thm (s : State) : (logStart s).thm = s.thm :=
  same_of_drop (m := 9126805504) (logStart_drop s rfl) .thm rfl
@[simp] theorem logStart_prt (s : State) : (logStart s).prt = s.prt :=
  same_of_drop (m := 9126805504) (logStart_drop s rfl) .prt rfl
@[simp] theorem logStart_dvt (s : State) : (logStart s).dvt = s.dvt :=
  same_of_drop (m := 9126805504) (logStart_drop s rfl) .dvt rfl
@[simp] theorem logStart_lsw (s : State) : (logStart s).lsw = s.lsw :=
  same_of_drop (m := 9126805504) (logStart_drop s rfl) .lsw rfl
@[simp] theorem logStart_lbus (s : State) : (logStart s).lbus = s.lbus :=
  same_of_drop (m := 9126805504) (logStart_drop s rfl) .lbus rfl
@[simp] theorem logStart_pwr_s1 (s : State) : (logStart s).pwr.s1 = s.pwr.s1 := by
  have h := same_of_drop (m := 9126805504) (logStart_drop s rfl) .stages rfl
  simp only [Block.same] at h; simp only [h]
@[simp] theorem logStart_pwr_s2 (s : State) : (logStart s).pwr.s2 = s.pwr.s2 := by
  have h := same_of_drop (m := 9126805504) (logStart_drop s rfl) .stages rfl
  simp only [Block.same] at h; simp only [h]
@[simp] theorem logStart_pwr_s3 (s : State) : (logStart s).pwr.s3 = s.pwr.s3 := by
  have h := same_of_drop (m := 9126805504) (logStart_drop s rfl) .stages rfl
  simp only [Block.same] at h; simp only [h]
@[simp] theorem logStart_pwr_s4 (s : State) : (logStart s).pwr.s4 = s.pwr.s4 := by
  have h := same_of_drop (m := 9126805504) (logStart_drop s rfl) .stages rfl
  simp only [Block.same] at h; simp only [h]
@[simp] theorem logStart_sec (s : State) : (logStart s).sec = s.sec :=
  same_of_drop (m := 9126805504) (logStart_drop s rfl) .sec rfl
@[simp] theorem logStart_mnt (s : State) : (logStart s).mnt = s.mnt :=
  same_of_drop (m := 9126805504) (logStart_drop s rfl) .mnt rfl
@[simp] theorem logStart_outbox (s : State) : (logStart s).outbox = s.outbox :=
  same_of_drop (m := 9126805504) (logStart_drop s rfl) .outbox rfl
@[simp] theorem readBypass_dev (s : State) : (readBypass s).dev = s.dev :=
  same_of_drop (m := 4947802387456) (readBypass_drop s rfl) .dev rfl
@[simp] theorem readBypass_eng (s : State) : (readBypass s).eng = s.eng :=
  same_of_drop (m := 4947802387456) (readBypass_drop s rfl) .eng rfl
@[simp] theorem readBypass_img (s : State) : (readBypass s).img = s.img :=
  same_of_drop (m := 4947802387456) (readBypass_drop s rfl) .img rfl
@[simp] theorem readBypass_spl (s : State) : (readBypass s).spl = s.spl :=
  same_of_drop (m := 4947802387456) (readBypass_drop s rfl) .spl rfl
@[simp] theorem readBypass_tim (s : State) : (readBypass s).tim = s.tim :=
  same_of_drop (m := 4947802387456) (readBypass_drop s rfl) .tim rfl
@[simp] theorem readBypass_arm_owner (s : State) : (readBypass s).arm.owner = s.arm.owner := by
  have h := same_of_drop (m := 4947802387456) (readBypass_drop s rfl) .token rfl
  exact h
@[simp] theorem readBypass_chA (s : State) : (readBypass s).chA = s.chA :=
  same_of_drop (m := 4947802387456) (readBypass_drop s rfl) .chA rfl
@[simp] theorem readBypass_chB (s : State) : (readBypass s).chB = s.chB :=
  same_of_drop (m := 4947802387456) (readBypass_drop s rfl) .chB rfl
@[simp] theorem readBypass_snA (s : State) : (readBypass s).snA = s.snA :=
  same_of_drop (m := 4947802387456) (readBypass_drop s rfl) .snA rfl
@[simp] theorem readBypass_snB (s : State) : (readBypass s).snB = s.snB :=
  same_of_drop (m := 4947802387456) (readBypass_drop s rfl) .snB rfl
@[simp] theorem readBypass_esA (s : State) : (readBypass s).esA = s.esA :=
  same_of_drop (m := 4947802387456) (readBypass_drop s rfl) .esA rfl
@[simp] theorem readBypass_esB (s : State) : (readBypass s).esB = s.esB :=
  same_of_drop (m := 4947802387456) (readBypass_drop s rfl) .esB rfl
@[simp] theorem readBypass_est (s : State) : (readBypass s).est = s.est :=
  same_of_drop (m := 4947802387456) (readBypass_drop s rfl) .est rfl
@[simp] theorem readBypass_thm (s : State) : (readBypass s).thm = s.thm :=
  same_of_drop (m := 4947802387456) (readBypass_drop s rfl) .thm rfl
@[simp] theorem readBypass_prt (s : State) : (readBypass s).prt = s.prt :=
  same_of_drop (m := 4947802387456) (readBypass_drop s rfl) .prt rfl
@[simp] theorem readBypass_dvt (s : State) : (readBypass s).dvt = s.dvt :=
  same_of_drop (m := 4947802387456) (readBypass_drop s rfl) .dvt rfl
@[simp] theorem readBypass_lsw (s : State) : (readBypass s).lsw = s.lsw :=
  same_of_drop (m := 4947802387456) (readBypass_drop s rfl) .lsw rfl
@[simp] theorem readBypass_lbus (s : State) : (readBypass s).lbus = s.lbus :=
  same_of_drop (m := 4947802387456) (readBypass_drop s rfl) .lbus rfl
@[simp] theorem readBypass_pwr (s : State) : (readBypass s).pwr = s.pwr :=
  same_of_drop (m := 4947802387456) (readBypass_drop s rfl) .pwr rfl
@[simp] theorem readBypass_sec (s : State) : (readBypass s).sec = s.sec :=
  same_of_drop (m := 4947802387456) (readBypass_drop s rfl) .sec rfl
@[simp] theorem readBypass_mnt (s : State) : (readBypass s).mnt = s.mnt :=
  same_of_drop (m := 4947802387456) (readBypass_drop s rfl) .mnt rfl
@[simp] theorem readBypass_evt (s : State) : (readBypass s).evt = s.evt :=
  same_of_drop (m := 4947802387456) (readBypass_drop s rfl) .evt rfl
@[simp] theorem readBypass_outbox (s : State) : (readBypass s).outbox = s.outbox :=
  same_of_drop (m := 4947802387456) (readBypass_drop s rfl) .outbox rfl
@[simp] theorem wakeChains_dev (s : State) : (wakeChains s).dev = s.dev :=
  same_of_drop (m := 150400368640) (wakeChains_drop s rfl) .dev rfl
@[simp] theorem wakeChains_eng (s : State) : (wakeChains s).eng = s.eng :=
  same_of_drop (m := 150400368640) (wakeChains_drop s rfl) .eng rfl
@[simp] theorem wakeChains_img (s : State) : (wakeChains s).img = s.img :=
  same_of_drop (m := 150400368640) (wakeChains_drop s rfl) .img rfl
@[simp] theorem wakeChains_spl (s : State) : (wakeChains s).spl = s.spl :=
  same_of_drop (m := 150400368640) (wakeChains_drop s rfl) .spl rfl
@[simp] theorem wakeChains_tim (s : State) : (wakeChains s).tim = s.tim :=
  same_of_drop (m := 150400368640) (wakeChains_drop s rfl) .tim rfl
@[simp] theorem wakeChains_arm (s : State) : (wakeChains s).arm = s.arm :=
  same_of_drop (m := 150400368640) (wakeChains_drop s rfl) .arm rfl
@[simp] theorem wakeChains_pwm (s : State) : (wakeChains s).pwm = s.pwm :=
  same_of_drop (m := 150400368640) (wakeChains_drop s rfl) .pwm rfl
@[simp] theorem wakeChains_esA (s : State) : (wakeChains s).esA = s.esA :=
  same_of_drop (m := 150400368640) (wakeChains_drop s rfl) .esA rfl
@[simp] theorem wakeChains_esB (s : State) : (wakeChains s).esB = s.esB :=
  same_of_drop (m := 150400368640) (wakeChains_drop s rfl) .esB rfl
@[simp] theorem wakeChains_est (s : State) : (wakeChains s).est = s.est :=
  same_of_drop (m := 150400368640) (wakeChains_drop s rfl) .est rfl
@[simp] theorem wakeChains_prt (s : State) : (wakeChains s).prt = s.prt :=
  same_of_drop (m := 150400368640) (wakeChains_drop s rfl) .prt rfl
@[simp] theorem wakeChains_dvt (s : State) : (wakeChains s).dvt = s.dvt :=
  same_of_drop (m := 150400368640) (wakeChains_drop s rfl) .dvt rfl
@[simp] theorem wakeChains_lbus (s : State) : (wakeChains s).lbus = s.lbus :=
  same_of_drop (m := 150400368640) (wakeChains_drop s rfl) .lbus rfl
@[simp] theorem wakeChains_pwr (s : State) : (wakeChains s).pwr = s.pwr :=
  same_of_drop (m := 150400368640) (wakeChains_drop s rfl) .pwr rfl
@[simp] theorem wakeChains_sec (s : State) : (wakeChains s).sec = s.sec :=
  same_of_drop (m := 150400368640) (wakeChains_drop s rfl) .sec rfl
@[simp] theorem wakeChains_glk_legA (s : State) : (wakeChains s).glk.legA = s.glk.legA := by
  have h := same_of_drop (m := 150400368640) (wakeChains_drop s rfl) .legs rfl
  simp only [Block.same] at h; simp only [h]
@[simp] theorem wakeChains_glk_legB (s : State) : (wakeChains s).glk.legB = s.glk.legB := by
  have h := same_of_drop (m := 150400368640) (wakeChains_drop s rfl) .legs rfl
  simp only [Block.same] at h; simp only [h]
@[simp] theorem wakeChains_glk_fireHold (s : State) : (wakeChains s).glk.fireHold = s.glk.fireHold := by
  have h := same_of_drop (m := 150400368640) (wakeChains_drop s rfl) .switch rfl
  simp only [Block.same] at h; simp only [h]
@[simp] theorem wakeChains_glk_fireAll (s : State) : (wakeChains s).glk.fireAll = s.glk.fireAll := by
  have h := same_of_drop (m := 150400368640) (wakeChains_drop s rfl) .switch rfl
  simp only [Block.same] at h; simp only [h]
@[simp] theorem wakeChains_glk_closeAsserted (s : State) : (wakeChains s).glk.closeAsserted = s.glk.closeAsserted := by
  have h := same_of_drop (m := 150400368640) (wakeChains_drop s rfl) .switch rfl
  simp only [Block.same] at h; simp only [h]
@[simp] theorem wakeChains_glk_closeDue (s : State) : (wakeChains s).glk.closeDue = s.glk.closeDue := by
  have h := same_of_drop (m := 150400368640) (wakeChains_drop s rfl) .switch rfl
  simp only [Block.same] at h; simp only [h]
@[simp] theorem wakeChains_glk_statClosed (s : State) : (wakeChains s).glk.statClosed = s.glk.statClosed := by
  have h := same_of_drop (m := 150400368640) (wakeChains_drop s rfl) .switch rfl
  simp only [Block.same] at h; simp only [h]
@[simp] theorem wakeChains_thm_sdHotA (s : State) : (wakeChains s).thm.sdHotA = s.thm.sdHotA := by
  have h := same_of_drop (m := 150400368640) (wakeChains_drop s rfl) .shutdown rfl
  simp only [Block.same] at h; simp only [h]
@[simp] theorem wakeChains_thm_sdHotB (s : State) : (wakeChains s).thm.sdHotB = s.thm.sdHotB := by
  have h := same_of_drop (m := 150400368640) (wakeChains_drop s rfl) .shutdown rfl
  simp only [Block.same] at h; simp only [h]
@[simp] theorem wakeChains_thm_sdColdA (s : State) : (wakeChains s).thm.sdColdA = s.thm.sdColdA := by
  have h := same_of_drop (m := 150400368640) (wakeChains_drop s rfl) .shutdown rfl
  simp only [Block.same] at h; simp only [h]
@[simp] theorem wakeChains_thm_sdColdB (s : State) : (wakeChains s).thm.sdColdB = s.thm.sdColdB := by
  have h := same_of_drop (m := 150400368640) (wakeChains_drop s rfl) .shutdown rfl
  simp only [Block.same] at h; simp only [h]
@[simp] theorem finishWrite_dev (s : State) : (finishWrite s).dev = s.dev :=
  same_of_drop (m := 2207625773136) (finishWrite_drop s rfl) .dev rfl
@[simp] theorem finishWrite_eng (s : State) : (finishWrite s).eng = s.eng :=
  same_of_drop (m := 2207625773136) (finishWrite_drop s rfl) .eng rfl
@[simp] theorem finishWrite_img_active (s : State) : (finishWrite s).img.active = s.img.active := by
  have h := same_of_drop (m := 2207625773136) (finishWrite_drop s rfl) .image rfl
  exact h
@[simp] theorem finishWrite_spl (s : State) : (finishWrite s).spl = s.spl :=
  same_of_drop (m := 2207625773136) (finishWrite_drop s rfl) .spl rfl
@[simp] theorem finishWrite_tim (s : State) : (finishWrite s).tim = s.tim :=
  same_of_drop (m := 2207625773136) (finishWrite_drop s rfl) .tim rfl
@[simp] theorem finishWrite_arm (s : State) : (finishWrite s).arm = s.arm :=
  same_of_drop (m := 2207625773136) (finishWrite_drop s rfl) .arm rfl
@[simp] theorem finishWrite_pwm (s : State) : (finishWrite s).pwm = s.pwm :=
  same_of_drop (m := 2207625773136) (finishWrite_drop s rfl) .pwm rfl
@[simp] theorem finishWrite_glk (s : State) : (finishWrite s).glk = s.glk :=
  same_of_drop (m := 2207625773136) (finishWrite_drop s rfl) .glk rfl
@[simp] theorem finishWrite_chA (s : State) : (finishWrite s).chA = s.chA :=
  same_of_drop (m := 2207625773136) (finishWrite_drop s rfl) .chA rfl
@[simp] theorem finishWrite_chB (s : State) : (finishWrite s).chB = s.chB :=
  same_of_drop (m := 2207625773136) (finishWrite_drop s rfl) .chB rfl
@[simp] theorem finishWrite_snA (s : State) : (finishWrite s).snA = s.snA :=
  same_of_drop (m := 2207625773136) (finishWrite_drop s rfl) .snA rfl
@[simp] theorem finishWrite_snB (s : State) : (finishWrite s).snB = s.snB :=
  same_of_drop (m := 2207625773136) (finishWrite_drop s rfl) .snB rfl
@[simp] theorem finishWrite_esA (s : State) : (finishWrite s).esA = s.esA :=
  same_of_drop (m := 2207625773136) (finishWrite_drop s rfl) .esA rfl
@[simp] theorem finishWrite_esB (s : State) : (finishWrite s).esB = s.esB :=
  same_of_drop (m := 2207625773136) (finishWrite_drop s rfl) .esB rfl
@[simp] theorem finishWrite_prt (s : State) : (finishWrite s).prt = s.prt :=
  same_of_drop (m := 2207625773136) (finishWrite_drop s rfl) .prt rfl
@[simp] theorem finishWrite_dvt (s : State) : (finishWrite s).dvt = s.dvt :=
  same_of_drop (m := 2207625773136) (finishWrite_drop s rfl) .dvt rfl
@[simp] theorem finishWrite_lsw (s : State) : (finishWrite s).lsw = s.lsw :=
  same_of_drop (m := 2207625773136) (finishWrite_drop s rfl) .lsw rfl
@[simp] theorem finishWrite_lbus (s : State) : (finishWrite s).lbus = s.lbus :=
  same_of_drop (m := 2207625773136) (finishWrite_drop s rfl) .lbus rfl
@[simp] theorem finishWrite_pwr (s : State) : (finishWrite s).pwr = s.pwr :=
  same_of_drop (m := 2207625773136) (finishWrite_drop s rfl) .pwr rfl
@[simp] theorem finishWrite_sec (s : State) : (finishWrite s).sec = s.sec :=
  same_of_drop (m := 2207625773136) (finishWrite_drop s rfl) .sec rfl
@[simp] theorem finishWrite_mnt (s : State) : (finishWrite s).mnt = s.mnt :=
  same_of_drop (m := 2207625773136) (finishWrite_drop s rfl) .mnt rfl
@[simp] theorem finishWrite_outbox (s : State) : (finishWrite s).outbox = s.outbox :=
  same_of_drop (m := 2207625773136) (finishWrite_drop s rfl) .outbox rfl
@[simp] theorem finishWrite_thm_sdHotA (s : State) : (finishWrite s).thm.sdHotA = s.thm.sdHotA := by
  have h := same_of_drop (m := 2207625773136) (finishWrite_drop s rfl) .shutdown rfl
  simp only [Block.same] at h; simp only [h]
@[simp] theorem finishWrite_thm_sdHotB (s : State) : (finishWrite s).thm.sdHotB = s.thm.sdHotB := by
  have h := same_of_drop (m := 2207625773136) (finishWrite_drop s rfl) .shutdown rfl
  simp only [Block.same] at h; simp only [h]
@[simp] theorem finishWrite_thm_sdColdA (s : State) : (finishWrite s).thm.sdColdA = s.thm.sdColdA := by
  have h := same_of_drop (m := 2207625773136) (finishWrite_drop s rfl) .shutdown rfl
  simp only [Block.same] at h; simp only [h]
@[simp] theorem finishWrite_thm_sdColdB (s : State) : (finishWrite s).thm.sdColdB = s.thm.sdColdB := by
  have h := same_of_drop (m := 2207625773136) (finishWrite_drop s rfl) .shutdown rfl
  simp only [Block.same] at h; simp only [h]
@[simp] theorem restoreRecords_dev (s : State) : (restoreRecords s).dev = s.dev :=
  same_of_drop (m := 12967968768) (restoreRecords_drop s rfl) .dev rfl
@[simp] theorem restoreRecords_eng (s : State) : (restoreRecords s).eng = s.eng :=
  same_of_drop (m := 12967968768) (restoreRecords_drop s rfl) .eng rfl
@[simp] theorem restoreRecords_img (s : State) : (restoreRecords s).img = s.img :=
  same_of_drop (m := 12967968768) (restoreRecords_drop s rfl) .img rfl
@[simp] theorem restoreRecords_spl (s : State) : (restoreRecords s).spl = s.spl :=
  same_of_drop (m := 12967968768) (restoreRecords_drop s rfl) .spl rfl
@[simp] theorem restoreRecords_tim (s : State) : (restoreRecords s).tim = s.tim :=
  same_of_drop (m := 12967968768) (restoreRecords_drop s rfl) .tim rfl
@[simp] theorem restoreRecords_arm (s : State) : (restoreRecords s).arm = s.arm :=
  same_of_drop (m := 12967968768) (restoreRecords_drop s rfl) .arm rfl
@[simp] theorem restoreRecords_pwm (s : State) : (restoreRecords s).pwm = s.pwm :=
  same_of_drop (m := 12967968768) (restoreRecords_drop s rfl) .pwm rfl
@[simp] theorem restoreRecords_snA (s : State) : (restoreRecords s).snA = s.snA :=
  same_of_drop (m := 12967968768) (restoreRecords_drop s rfl) .snA rfl
@[simp] theorem restoreRecords_snB (s : State) : (restoreRecords s).snB = s.snB :=
  same_of_drop (m := 12967968768) (restoreRecords_drop s rfl) .snB rfl
@[simp] theorem restoreRecords_prt (s : State) : (restoreRecords s).prt = s.prt :=
  same_of_drop (m := 12967968768) (restoreRecords_drop s rfl) .prt rfl
@[simp] theorem restoreRecords_dvt (s : State) : (restoreRecords s).dvt = s.dvt :=
  same_of_drop (m := 12967968768) (restoreRecords_drop s rfl) .dvt rfl
@[simp] theorem restoreRecords_lbus (s : State) : (restoreRecords s).lbus = s.lbus :=
  same_of_drop (m := 12967968768) (restoreRecords_drop s rfl) .lbus rfl
@[simp] theorem restoreRecords_pwr (s : State) : (restoreRecords s).pwr = s.pwr :=
  same_of_drop (m := 12967968768) (restoreRecords_drop s rfl) .pwr rfl
@[simp] theorem restoreRecords_sec (s : State) : (restoreRecords s).sec = s.sec :=
  same_of_drop (m := 12967968768) (restoreRecords_drop s rfl) .sec rfl
@[simp] theorem restoreRecords_outbox (s : State) : (restoreRecords s).outbox = s.outbox :=
  same_of_drop (m := 12967968768) (restoreRecords_drop s rfl) .outbox rfl
@[simp] theorem restoreRecords_glk_legA (s : State) : (restoreRecords s).glk.legA = s.glk.legA := by
  have h := same_of_drop (m := 12967968768) (restoreRecords_drop s rfl) .legs rfl
  simp only [Block.same] at h; simp only [h]
@[simp] theorem restoreRecords_glk_legB (s : State) : (restoreRecords s).glk.legB = s.glk.legB := by
  have h := same_of_drop (m := 12967968768) (restoreRecords_drop s rfl) .legs rfl
  simp only [Block.same] at h; simp only [h]
@[simp] theorem restoreRecords_glk_fireHold (s : State) : (restoreRecords s).glk.fireHold = s.glk.fireHold := by
  have h := same_of_drop (m := 12967968768) (restoreRecords_drop s rfl) .switch rfl
  simp only [Block.same] at h; simp only [h]
@[simp] theorem restoreRecords_glk_fireAll (s : State) : (restoreRecords s).glk.fireAll = s.glk.fireAll := by
  have h := same_of_drop (m := 12967968768) (restoreRecords_drop s rfl) .switch rfl
  simp only [Block.same] at h; simp only [h]
@[simp] theorem restoreRecords_glk_closeAsserted (s : State) : (restoreRecords s).glk.closeAsserted = s.glk.closeAsserted := by
  have h := same_of_drop (m := 12967968768) (restoreRecords_drop s rfl) .switch rfl
  simp only [Block.same] at h; simp only [h]
@[simp] theorem restoreRecords_glk_closeDue (s : State) : (restoreRecords s).glk.closeDue = s.glk.closeDue := by
  have h := same_of_drop (m := 12967968768) (restoreRecords_drop s rfl) .switch rfl
  simp only [Block.same] at h; simp only [h]
@[simp] theorem restoreRecords_glk_statClosed (s : State) : (restoreRecords s).glk.statClosed = s.glk.statClosed := by
  have h := same_of_drop (m := 12967968768) (restoreRecords_drop s rfl) .switch rfl
  simp only [Block.same] at h; simp only [h]
@[simp] theorem restoreRecords_thm_sdHotA (s : State) : (restoreRecords s).thm.sdHotA = s.thm.sdHotA := by
  have h := same_of_drop (m := 12967968768) (restoreRecords_drop s rfl) .shutdown rfl
  simp only [Block.same] at h; simp only [h]
@[simp] theorem restoreRecords_thm_sdHotB (s : State) : (restoreRecords s).thm.sdHotB = s.thm.sdHotB := by
  have h := same_of_drop (m := 12967968768) (restoreRecords_drop s rfl) .shutdown rfl
  simp only [Block.same] at h; simp only [h]
@[simp] theorem restoreRecords_thm_sdColdA (s : State) : (restoreRecords s).thm.sdColdA = s.thm.sdColdA := by
  have h := same_of_drop (m := 12967968768) (restoreRecords_drop s rfl) .shutdown rfl
  simp only [Block.same] at h; simp only [h]
@[simp] theorem restoreRecords_thm_sdColdB (s : State) : (restoreRecords s).thm.sdColdB = s.thm.sdColdB := by
  have h := same_of_drop (m := 12967968768) (restoreRecords_drop s rfl) .shutdown rfl
  simp only [Block.same] at h; simp only [h]
@[simp] theorem testHeater_dev (s : State) (x0 : List (Fin 12)) : (testHeater s x0).dev = s.dev :=
  same_of_drop (m := 12960399360) (testHeater_drop s x0 rfl) .dev rfl
@[simp] theorem testHeater_eng (s : State) (x0 : List (Fin 12)) : (testHeater s x0).eng = s.eng :=
  same_of_drop (m := 12960399360) (testHeater_drop s x0 rfl) .eng rfl
@[simp] theorem testHeater_img (s : State) (x0 : List (Fin 12)) : (testHeater s x0).img = s.img :=
  same_of_drop (m := 12960399360) (testHeater_drop s x0 rfl) .img rfl
@[simp] theorem testHeater_spl (s : State) (x0 : List (Fin 12)) : (testHeater s x0).spl = s.spl :=
  same_of_drop (m := 12960399360) (testHeater_drop s x0 rfl) .spl rfl
@[simp] theorem testHeater_tim (s : State) (x0 : List (Fin 12)) : (testHeater s x0).tim = s.tim :=
  same_of_drop (m := 12960399360) (testHeater_drop s x0 rfl) .tim rfl
@[simp] theorem testHeater_arm (s : State) (x0 : List (Fin 12)) : (testHeater s x0).arm = s.arm :=
  same_of_drop (m := 12960399360) (testHeater_drop s x0 rfl) .arm rfl
@[simp] theorem testHeater_pwm (s : State) (x0 : List (Fin 12)) : (testHeater s x0).pwm = s.pwm :=
  same_of_drop (m := 12960399360) (testHeater_drop s x0 rfl) .pwm rfl
@[simp] theorem testHeater_glk (s : State) (x0 : List (Fin 12)) : (testHeater s x0).glk = s.glk :=
  same_of_drop (m := 12960399360) (testHeater_drop s x0 rfl) .glk rfl
@[simp] theorem testHeater_chA (s : State) (x0 : List (Fin 12)) : (testHeater s x0).chA = s.chA :=
  same_of_drop (m := 12960399360) (testHeater_drop s x0 rfl) .chA rfl
@[simp] theorem testHeater_chB (s : State) (x0 : List (Fin 12)) : (testHeater s x0).chB = s.chB :=
  same_of_drop (m := 12960399360) (testHeater_drop s x0 rfl) .chB rfl
@[simp] theorem testHeater_snA (s : State) (x0 : List (Fin 12)) : (testHeater s x0).snA = s.snA :=
  same_of_drop (m := 12960399360) (testHeater_drop s x0 rfl) .snA rfl
@[simp] theorem testHeater_snB (s : State) (x0 : List (Fin 12)) : (testHeater s x0).snB = s.snB :=
  same_of_drop (m := 12960399360) (testHeater_drop s x0 rfl) .snB rfl
@[simp] theorem testHeater_esA (s : State) (x0 : List (Fin 12)) : (testHeater s x0).esA = s.esA :=
  same_of_drop (m := 12960399360) (testHeater_drop s x0 rfl) .esA rfl
@[simp] theorem testHeater_esB (s : State) (x0 : List (Fin 12)) : (testHeater s x0).esB = s.esB :=
  same_of_drop (m := 12960399360) (testHeater_drop s x0 rfl) .esB rfl
@[simp] theorem testHeater_est (s : State) (x0 : List (Fin 12)) : (testHeater s x0).est = s.est :=
  same_of_drop (m := 12960399360) (testHeater_drop s x0 rfl) .est rfl
@[simp] theorem testHeater_prt (s : State) (x0 : List (Fin 12)) : (testHeater s x0).prt = s.prt :=
  same_of_drop (m := 12960399360) (testHeater_drop s x0 rfl) .prt rfl
@[simp] theorem testHeater_dvt (s : State) (x0 : List (Fin 12)) : (testHeater s x0).dvt = s.dvt :=
  same_of_drop (m := 12960399360) (testHeater_drop s x0 rfl) .dvt rfl
@[simp] theorem testHeater_lbus (s : State) (x0 : List (Fin 12)) : (testHeater s x0).lbus = s.lbus :=
  same_of_drop (m := 12960399360) (testHeater_drop s x0 rfl) .lbus rfl
@[simp] theorem testHeater_pwr (s : State) (x0 : List (Fin 12)) : (testHeater s x0).pwr = s.pwr :=
  same_of_drop (m := 12960399360) (testHeater_drop s x0 rfl) .pwr rfl
@[simp] theorem testHeater_sec (s : State) (x0 : List (Fin 12)) : (testHeater s x0).sec = s.sec :=
  same_of_drop (m := 12960399360) (testHeater_drop s x0 rfl) .sec rfl
@[simp] theorem testHeater_outbox (s : State) (x0 : List (Fin 12)) : (testHeater s x0).outbox = s.outbox :=
  same_of_drop (m := 12960399360) (testHeater_drop s x0 rfl) .outbox rfl
@[simp] theorem testHeater_thm_sdHotA (s : State) (x0 : List (Fin 12)) : (testHeater s x0).thm.sdHotA = s.thm.sdHotA := by
  have h := same_of_drop (m := 12960399360) (testHeater_drop s x0 rfl) .shutdown rfl
  simp only [Block.same] at h; simp only [h]
@[simp] theorem testHeater_thm_sdHotB (s : State) (x0 : List (Fin 12)) : (testHeater s x0).thm.sdHotB = s.thm.sdHotB := by
  have h := same_of_drop (m := 12960399360) (testHeater_drop s x0 rfl) .shutdown rfl
  simp only [Block.same] at h; simp only [h]
@[simp] theorem testHeater_thm_sdColdA (s : State) (x0 : List (Fin 12)) : (testHeater s x0).thm.sdColdA = s.thm.sdColdA := by
  have h := same_of_drop (m := 12960399360) (testHeater_drop s x0 rfl) .shutdown rfl
  simp only [Block.same] at h; simp only [h]
@[simp] theorem testHeater_thm_sdColdB (s : State) (x0 : List (Fin 12)) : (testHeater s x0).thm.sdColdB = s.thm.sdColdB := by
  have h := same_of_drop (m := 12960399360) (testHeater_drop s x0 rfl) .shutdown rfl
  simp only [Block.same] at h; simp only [h]

end Sys2Proof.Machine
end

