-- ==== Sys2Proof/Laws/Nvm.lean ====
section
/-! SUPPORT. The bytes of an image slot: every write keeps the canonical form, a byte written reads back, and every
other byte reads as before. -/

set_option Elab.async false

namespace Sys2Proof.Machine

theorem nvmWfFrom_mono {lo lo' : Nat} (h : lo' ≤ lo) : ∀ {m : List Host.Cell}, nvmWfFrom lo m = true → nvmWfFrom lo' m = true
  | [], _ => rfl
  | (k, v) :: r, w => by
    simp only [nvmWfFrom, Bool.and_eq_true, decide_eq_true_eq] at w ⊢
    exact ⟨⟨by omega, w.1.2⟩, w.2⟩

theorem nvmRead_below : ∀ {m : List Host.Cell} {lo a : Nat}, nvmWfFrom lo m = true → a < lo → nvmRead m a = erasedByte
  | [], _, _, _, _ => rfl
  | (k, v) :: r, lo, a, w, h => by
    simp only [nvmWfFrom, Bool.and_eq_true, decide_eq_true_eq] at w
    have hk : ¬ k = a := by omega
    simp only [nvmRead, hk, if_false]
    exact nvmRead_below w.2 (by omega)

/-- One byte written reads back, and every other byte reads as before. -/
theorem nvmRead_put : ∀ {m : List Host.Cell} {lo : Nat} (a : Nat) (b : Byte) (x : Nat), nvmWfFrom lo m = true →
    nvmRead (nvmPut m a b) x = if x = a then b else nvmRead m x
  | [], _, a, b, x, _ => by
    unfold nvmPut
    by_cases hb : b = erasedByte
    · simp [hb, nvmRead]
    · by_cases hx : x = a
      · simp [hb, hx, nvmRead]
      · simp [hb, hx, Ne.symm hx, nvmRead]
  | (k, v) :: r, lo, a, b, x, w => by
    simp only [nvmWfFrom, Bool.and_eq_true, decide_eq_true_eq] at w
    unfold nvmPut
    by_cases h1 : a < k
    · by_cases hb : b = erasedByte
      · by_cases hx : x = a
        · have hk : ¬ k = x := by omega
          simp only [h1, hb, hx, if_true, nvmRead]
          rw [if_neg (by omega)]
          exact nvmRead_below w.2 (by omega)
        · simp [h1, hb, hx]
      · by_cases hx : x = a
        · simp [h1, hb, hx, nvmRead]
        · simp [h1, hb, hx, Ne.symm hx, nvmRead]
    · by_cases h2 : a = k
      · subst h2
        by_cases hb : b = erasedByte
        · by_cases hx : x = a
          · subst hx; simp only [Nat.lt_irrefl, hb, if_true, if_false]
            exact nvmRead_below w.2 (by omega)
          · simp [hb, hx, Ne.symm hx, nvmRead]
        · by_cases hx : x = a
          · simp [hb, hx, nvmRead]
          · simp [hb, hx, Ne.symm hx, nvmRead]
      · simp only [h1, h2, if_false, nvmRead]
        by_cases hk : k = x
        · have : ¬ x = a := by omega
          simp [hk, this]
        · simp only [hk, if_false]
          exact nvmRead_put a b x w.2

theorem nvmWf_put : ∀ {m : List Host.Cell} {lo : Nat} (a : Nat) (b : Byte), lo ≤ a → nvmWfFrom lo m = true →
    nvmWfFrom lo (nvmPut m a b) = true
  | [], lo, a, b, h, _ => by
    unfold nvmPut
    by_cases hb : b = erasedByte
    · simp [hb, nvmWfFrom]
    · simp [hb, nvmWfFrom, h]
  | (k, v) :: r, lo, a, b, h, w => by
    have w' := w
    simp only [nvmWfFrom, Bool.and_eq_true, decide_eq_true_eq] at w'
    unfold nvmPut
    by_cases h1 : a < k
    · by_cases hb : b = erasedByte
      · simp only [h1, hb, if_true]; exact w
      · simp only [h1, hb, if_true, if_false, nvmWfFrom, Bool.and_eq_true, decide_eq_true_eq]
        exact ⟨⟨h, by simp [hb]⟩, ⟨by omega, w'.1.2⟩, w'.2⟩
    · by_cases h2 : a = k
      · subst h2
        by_cases hb : b = erasedByte
        · simp only [Nat.lt_irrefl, hb, if_true, if_false]; exact nvmWfFrom_mono (by omega) w'.2
        · simp only [Nat.lt_irrefl, hb, if_true, if_false, nvmWfFrom, Bool.and_eq_true, decide_eq_true_eq]
          exact ⟨⟨h, by simp [hb]⟩, w'.2⟩
      · simp only [h1, h2, if_false, nvmWfFrom, Bool.and_eq_true, decide_eq_true_eq]
        exact ⟨w'.1, nvmWf_put a b (by omega) w'.2⟩

/-- A write keeps the canonical form. -/
theorem nvmWrite_wf {m : List Host.Cell} (a : Nat) (bs : List Byte) (w : Memory.wf m = true) :
    Memory.wf (nvmWrite m a bs) = true := by
  induction bs generalizing m a with
  | nil => exact w
  | cons b bs ih => exact ih (a + 1) (nvmWf_put a b (Nat.zero_le _) w)

/-- A run of bytes written reads back, and every byte outside it reads as before. -/
theorem nvmRead_write {m : List Host.Cell} (a : Nat) (bs : List Byte) (x : Nat) (w : Memory.wf m = true) :
    nvmRead (nvmWrite m a bs) x = if h : a ≤ x ∧ x < a + bs.length then bs[x - a]'(by omega) else nvmRead m x := by
  induction bs generalizing m a with
  | nil => simp [nvmWrite]
  | cons b bs ih =>
    have e := ih (a + 1) (m := nvmPut m a b) (nvmWf_put a b (Nat.zero_le _) w)
    show nvmRead (nvmWrite (nvmPut m a b) (a + 1) bs) x = _
    rw [e]
    by_cases h1 : a + 1 ≤ x ∧ x < a + 1 + bs.length
    · have h2 : a ≤ x ∧ x < a + (b :: bs).length := by simp only [List.length_cons]; omega
      simp only [h1, h2, and_self, dif_pos]
      have h3 : x - a = (x - (a + 1)) + 1 := by omega
      simp only [h3, List.getElem_cons_succ]
    · rw [dif_neg h1, nvmRead_put a b x w]
      by_cases h2 : x = a
      · subst h2; simp
      · rw [if_neg h2, dif_neg (by simp only [List.length_cons]; omega)]

/-- An erased slot is in canonical form, and reads as erased. -/
theorem nvm_erased : Memory.wf [] = true ∧ ∀ a, nvmRead [] a = erasedByte := ⟨rfl, fun _ => rfl⟩

end Sys2Proof.Machine
end

