-- ==== Sys2Proof/Laws/Effects.lean ====
section
/-! SUPPORT. What the shared operations leave behind: one lemma an operation, which the proofs cite instead of unfolding it. -/

set_option Elab.async false

set_option linter.unusedSimpArgs false

namespace Sys2Proof.Machine

theorem decideBypass_bypassed (s : State) (src : Nat) (e : Option Nat) : (decideBypass s src e).arm.bypassed = true := by
  unfold decideBypass
  split
  · assumption
  · rw [State.read_arm_bypassed]
    simp only [↓refreshBridge_drop, ↓State.forChains_drop, ↓requestOpen_drop, ↓assertClose_drop, ↓logEvent_drop,
      ↓State.onPrt_drop, ↓State.onGlk_drop, implies_true, true_or, Nat.reduceAnd]
    rfl
theorem refreshCh_lsw (s : State) (n : Fin 12) : (refreshCh s n).lsw.restoreQ = s.lsw.restoreQ ∧
    (refreshCh s n).lsw.restoreDue = s.lsw.restoreDue ∧ (refreshCh s n).lsw.clamp = s.lsw.clamp := by
  unfold refreshCh
  dsimp only
  split
  · exact ⟨rfl, rfl, rfl⟩
  · split
    · split <;> exact ⟨rfl, rfl, rfl⟩
    · exact ⟨rfl, rfl, rfl⟩
theorem refreshCh_shed (s : State) (n k : Fin 12) : (refreshCh s n).lsw.ch[k].shed = s.lsw.ch[k].shed := by
  by_cases h : n = k
  · subst h
    unfold refreshCh
    dsimp only
    split
    · simp [State.onCh]
    · split
      · split <;> simp [State.onCh, chOn]
      · simp [State.onCh, chOff]
  · have g : n.val ≠ k.val := fun e => h (Fin.ext e)
    unfold refreshCh
    dsimp only
    split
    · simp [State.onCh, g]
    · split
      · split <;> simp [State.onCh, chOn, g]
      · simp [State.onCh, chOff, g]
theorem warmReset_phase (s : State) (c : Nat) : (warmReset s c).dev.phase = .warm := by
  unfold warmReset
  rw [State.read_dev_phase]
  simp only [↓refreshBridge_drop, ↓setEngines_drop, Nat.reduceAnd]
  rfl
theorem setEngines_at (s : State) (r : EngRun) (i : Fin 8) : (setEngines s r).eng.state[i] =
    if s.im.str.engineMask.getLsbD i.val && (i.val != 2 || s.declared .b) then
      (if r == .running && s.eng.seLs && i == EngineId.se.idx then .halted else r) else .off := by
  unfold setEngines
  simp [State.onEng]
theorem setEngines_off (s : State) (i : Fin 8) : (setEngines s .off).eng.state[i] = .off := by
  unfold setEngines
  simp [State.onEng]
theorem warmReset_pwr (s : State) (c : Nat) : (warmReset s c).pwr.rstCause = c ∧ (warmReset s c).pwr.rstKind = 2 ∧
    (warmReset s c).pwr.rstCount = bump 16 s.pwr.rstCount ∧ (warmReset s c).arm.owner = false ∧
    (warmReset s c).arm.bypassed = s.arm.bypassed ∧ (warmReset s c).mnt = {} ∧ (warmReset s c).pwm = {} ∧
    (∀ i : Fin 8, (warmReset s c).eng.state[i] = .off) := by
  have p2 : (endAllActs (beginClamp (takeHwEvents s)) 4).pwr = s.pwr := by simp
  have a2 : (endAllActs (beginClamp (takeHwEvents s)) 4).arm.bypassed = s.arm.bypassed := by simp
  unfold warmReset
  simp only [refreshBridge_pwr, refreshBridge_arm, refreshBridge_mnt, refreshBridge_pwm, refreshBridge_eng,
    setEngines_pwr, setEngines_arm, setEngines_mnt, setEngines_pwm, State.onDev_pwr, State.onDev_arm, State.onDev_mnt,
    State.onDev_pwm, State.onPwr_pwr, State.onPwr_arm, State.onPwr_mnt, State.onPwr_pwm, p2, a2, true_and]
  exact fun i => setEngines_off _ i
theorem warmReset_regs (s : State) (c : Nat) : (warmReset s c).meas = {} ∧ (warmReset s c).sec.attest = 0 ∧
    (warmReset s c).sec.report = [] ∧ (warmReset s c).sec.denied = 0 := by
  unfold warmReset
  simp only [refreshBridge_meas, refreshBridge_sec, setEngines_meas, setEngines_sec, State.onDev_meas, State.onDev_sec,
    State.onPwr_meas, State.onPwr_sec, true_and]
  exact ⟨rfl, rfl, rfl⟩
theorem answered_of {s x : State} {p : Requester} {c : Nat} (h : x.outbox = s.outbox) : Answered s (answer x p c) p c := by
  unfold Answered answer send
  simp [h]
theorem coldReset_effect (s : State) (c : Nat) (f : Bool) :
    (coldReset s c f).dev.phase = .booting ∧ (coldReset s c f).pwr.rstCause = c ∧ (coldReset s c f).pwr.rstKind = 1 ∧
    (coldReset s c f).pwr.rstCount = bump 16 s.pwr.rstCount ∧ (coldReset s c f).pwr.resetAt = s.clock ∧
    (coldReset s c f).arm = {} ∧ (coldReset s c f).spl = {} ∧ (coldReset s c f).mnt = {} ∧
    (coldReset s c f).lsw = {} ∧ (coldReset s c f).prt = {} ∧ (coldReset s c f).evt.sram = [] ∧
    (coldReset s c f).evt.nvm = s.evt.nvm := by
  unfold coldReset
  dsimp only
  split <;> exact ⟨rfl, rfl, rfl, rfl, rfl, rfl, rfl, rfl, rfl, rfl, rfl, rfl⟩
theorem powerReset_effect (s : State) (c : Nat) :
    (powerReset s c).dev.phase = .held ∧ (powerReset s c).pwr.rstCause = c ∧ (powerReset s c).pwr.rstKind = 0 ∧
    (powerReset s c).pwr.rstCount = bump 16 s.pwr.rstCount ∧ (powerReset s c).pwr.resetAt = s.clock ∧
    ((powerReset s c).pwr.s1 = false ∧ (powerReset s c).pwr.s2 = false ∧ (powerReset s c).pwr.s3 = false ∧
      (powerReset s c).pwr.s4 = false) ∧
    (powerReset s c).arm = {} ∧ (powerReset s c).spl = {} ∧ (powerReset s c).mnt = {} ∧
    (powerReset s c).lsw = {} ∧ (powerReset s c).prt = {} ∧ (powerReset s c).evt.sram = [] ∧
    (powerReset s c).evt.nvm = s.evt.nvm := by
  unfold powerReset
  dsimp only
  split <;> exact ⟨rfl, rfl, rfl, rfl, rfl, ⟨rfl, rfl, rfl, rfl⟩, rfl, rfl, rfl, rfl, rfl, rfl, rfl⟩
theorem wakeUp_effect (s : State) (b : Nat) : (wakeUp s b).dev.phase = .booting ∧ (wakeUp s b).pwr.rstCause = 7 ∧
    (wakeUp s b).pwr.wake = BitVec.ofNat 5 (2 ^ b) ∧ (wakeUp s b).pwr.hibAt = none ∧
    (wakeUp s b).dev.vsysValidAt = s.clock := by
  unfold wakeUp powerReset
  dsimp only
  simp only [logEvent_dev, logEvent_pwr]
  split <;> exact ⟨rfl, rfl, rfl, rfl, rfl⟩
theorem portOpen_out {s : State} {p : Requester} (h : s.portOpen p = true) : s.outOfReset = true := by
  unfold State.portOpen at h
  cases p <;> simp only [Bool.and_eq_true] at h
  · exact h.1
  · exact h.1
  · exact h.1.1
  · exact h.1

theorem retimeBus_eq (s : State) (im : Image) :
    retimeBus s im = s.onLbus fun _ => (retimeBus s im).lbus := by
  unfold retimeBus; dsimp only; split <;> rfl

/-- A load channel without what Table 12.3 makes it follow. -/
def LswCh.rest (c : LswCh) : LswCh :=
  { c with isOn := false, forced := false, limiting := false, inrushDue := none, econ := false, econDue := none,
           onSince := 0, lowSince := none, coilDue := none }
/-- The load switches without their channels. -/
def Lsw.rest (l : Lsw) : Lsw := { l with ch := Vector.replicate 12 {} }
theorem onCh_rest (s : State) (n k : Fin 12) (f : LswCh → LswCh) (h : ∀ c, (f c).rest = c.rest) :
    (s.onCh n f).lsw.ch[k].rest = s.lsw.ch[k].rest ∧ (s.onCh n f).lsw.rest = s.lsw.rest := by
  refine ⟨?_, rfl⟩
  by_cases e : n = k
  · subst e; simp [State.onCh, h]
  · have g : n.val ≠ k.val := fun e' => e (Fin.ext e')
    simp [State.onCh, g]
theorem refreshCh_rest (s : State) (n k : Fin 12) :
    (refreshCh s n).lsw.ch[k].rest = s.lsw.ch[k].rest ∧ (refreshCh s n).lsw.rest = s.lsw.rest := by
  have a := onCh_rest s n k
    (fun c => { c with forced := s.anyHot && (s.lswClass n == 2 || s.lswClass n == 4) && s.chState n }) (fun _ => rfl)
  unfold refreshCh
  dsimp only
  split
  · exact a
  · split
    · split
      · exact a
      · unfold chOn
        exact ⟨(onCh_rest _ n k _ (by exact fun _ => rfl)).1.trans a.1, a.2⟩
    · unfold chOff
      exact ⟨(onCh_rest _ n k _ (by exact fun _ => rfl)).1.trans a.1, a.2⟩
theorem refreshLoads_rest (s : State) (k : Fin 12) :
    (refreshLoads s).lsw.ch[k].rest = s.lsw.ch[k].rest ∧ (refreshLoads s).lsw.rest = s.lsw.rest := by
  have q : ∀ (l : List (Fin 12)) (x : State), (l.foldl refreshCh x).lsw.ch[k].rest = x.lsw.ch[k].rest ∧
      (l.foldl refreshCh x).lsw.rest = x.lsw.rest := by
    intro l
    induction l with
    | nil => exact fun _ => ⟨rfl, rfl⟩
    | cons n r ih => exact fun x => ⟨(ih _).1.trans (refreshCh_rest x n k).1, (ih _).2.trans (refreshCh_rest x n k).2⟩
  unfold refreshLoads
  exact q (List.finRange 12) s
theorem refreshLoads_ch (s : State) (k : Fin 12) : (refreshLoads s).lsw.ch[k].clamp = s.lsw.ch[k].clamp ∧
    (refreshLoads s).lsw.ch[k].want = s.lsw.ch[k].want ∧ (refreshLoads s).lsw.ch[k].shed = s.lsw.ch[k].shed ∧
    (refreshLoads s).lsw.ch[k].latched = s.lsw.ch[k].latched ∧
    (refreshLoads s).lsw.ch[k].thermalOff = s.lsw.ch[k].thermalOff ∧ (refreshLoads s).lsw.clamp = s.lsw.clamp := by
  have h := (refreshLoads_rest s k).1
  have h' := (refreshLoads_rest s k).2
  generalize refreshLoads s = t at *
  refine ⟨?_, ?_, ?_, ?_, ?_, ?_⟩
  · have q := congrArg LswCh.clamp h; exact q
  · have q := congrArg LswCh.want h; exact q
  · have q := congrArg LswCh.shed h; exact q
  · have q := congrArg LswCh.latched h; exact q
  · have q := congrArg LswCh.thermalOff h; exact q
  · have q := congrArg Lsw.clamp h'; exact q
theorem bootSlot_effect (s : State) (b : Bool) : (bootSlot s b).dev.phase = .starting ∧
    (bootSlot s b).img = { s.img with active := some (imageOf (s.slotBytes b)), fallback := b != s.img.activeSlot } ∧
    (bootSlot s b).sec.cntBoot = (s.sec.stored.1 + 1) % 2 ^ 32 ∧
    ∀ i : Fin 8, (bootSlot s b).eng.state[i] = if (bootSlot s b).im.str.engineMask.getLsbD i.val &&
      (i.val != 2 || (bootSlot s b).declared .b) then (if s.eng.seLs && i == EngineId.se.idx then .halted else .running) else .off := by
  have d : (bootSlot s b).img = { s.img with active := some (imageOf (s.slotBytes b)), fallback := b != s.img.activeSlot } := by
    unfold bootSlot; rw [State.read_img]
    simp only [↓applyStages_drop, ↓State.forChains_drop, ↓restoreShutdown_drop, ↓badCopies_drop, ↓restoreRecords_drop, ↓restoreClash_drop, ↓send_drop,
      ↓State.onDvt_drop, ↓logStart_drop, ↓measureBoot_drop, implies_true, true_or, Nat.reduceAnd]
    rfl
  refine ⟨?_, d, ?_, ?_⟩
  · unfold bootSlot; rw [State.read_dev_phase]
    simp only [↓applyStages_drop, ↓State.forChains_drop, ↓restoreShutdown_drop, ↓badCopies_drop, ↓restoreRecords_drop, ↓restoreClash_drop, ↓send_drop,
      ↓State.onDvt_drop, ↓logStart_drop, ↓measureBoot_drop, implies_true, true_or, Nat.reduceAnd]
    rfl
  · unfold bootSlot; rw [State.read_sec]
    simp only [↓applyStages_drop, ↓State.forChains_drop, ↓restoreShutdown_drop, ↓badCopies_drop, ↓restoreRecords_drop, ↓restoreClash_drop, ↓send_drop,
      ↓State.onDvt_drop, ↓logStart_drop, implies_true, true_or, Nat.reduceAnd]
    rfl
  · intro i
    have e : (bootSlot s b).eng = (setEngines ((s.onImg fun i =>
        { i with active := some (imageOf (s.slotBytes b)), fallback := b != i.activeSlot }).onDev fun d =>
        { d with phase := .starting, serialLoaded := true }) .running).eng := by
      unfold bootSlot; rw [State.read_eng]
      simp only [↓applyStages_drop, ↓State.forChains_drop, ↓restoreShutdown_drop, ↓badCopies_drop, ↓restoreRecords_drop, ↓restoreClash_drop, ↓send_drop,
        ↓State.onDvt_drop, ↓logStart_drop, ↓measureBoot_drop, implies_true, true_or, Nat.reduceAnd]
      rfl
    have k : ∀ (r : EngRun) (x y : State), x.img = y.img → x.dev.part = y.dev.part →
        (if x.im.str.engineMask.getLsbD i.val && (i.val != 2 || x.declared .b) then r else .off) =
        if y.im.str.engineMask.getLsbD i.val && (i.val != 2 || y.declared .b) then r else .off := by
      intro r x y h h'
      unfold State.declared State.im
      rw [h, h']
    rw [e, setEngines_at]
    refine k _ _ _ ?_ ?_
    · rw [d]
      simp only [State.onDev_img, State.onImg]
    · have h := same_of_drop (m := 10598637084910) (bootSlot_drop s b (by decide)) .part (by decide)
      exact h.symm
/-- A fold keeps what each of its steps keeps. -/
theorem foldl_keep {α β : Type} (g : State → β) {f : State → α → State} (h : ∀ t a, g (f t a) = g t) :
    ∀ (l : List α) (x : State), g (l.foldl f x) = g x
  | [], _ => rfl
  | a :: l, x => (foldl_keep g h l (f x a)).trans (h x a)
/-- An operation over both chains keeps what it keeps over each. -/
theorem forChains_keep {β : Type} (g : State → β) {f : State → ChainId → State} (h : ∀ t c, g (f t c) = g t) (s : State) :
    g (s.forChains f) = g s := by
  unfold State.forChains
  exact foldl_keep g h _ s
theorem claimToken_simplex {s : State} (h : s.arm.roleClash = false) (h' : s.simplex = true) :
    (claimToken s).arm.owner = true := by
  unfold claimToken
  simp only [h, h', Bool.false_eq_true, if_false, if_true]
  unfold takeFirst
  simp
@[simp] theorem publishState_cell (s : State) (n : CellSt) : (publishState s n).arm.cell = n := by
  unfold publishState
  rfl
theorem readBypass_closed {s : State} (h : s.dev.bypStatLow = true) (h' : s.chainPair = false) :
    (readBypass s).arm.bypassed = true ∧ (readBypass s).arm.cell = .bypassed := by
  unfold readBypass
  simp only [h, h', Bool.not_false, Bool.and_self, if_true]
  exact ⟨by simp, publishState_cell _ _⟩
/-! The bridge outputs follow the rest of the state. -/
@[simp] theorem refreshWords_glk_bInvert (s : State) : (refreshWords s).glk.bInvert = s.glk.bInvert := rfl
@[simp] theorem refreshFire_glk_bInvert (s : State) : (refreshFire s).glk.bInvert = s.glk.bInvert := by
  unfold refreshFire; dsimp only; repeat' (first | split | simp)
@[simp] theorem refreshBridge_glk_bInvert (s : State) : (refreshBridge s).glk.bInvert = s.glk.bInvert := by
  unfold refreshBridge; simp
@[simp] theorem refreshWords_glk_testUntil (s : State) : (refreshWords s).glk.testUntil = s.glk.testUntil := rfl
@[simp] theorem refreshFire_glk_testUntil (s : State) : (refreshFire s).glk.testUntil = s.glk.testUntil := by
  unfold refreshFire; dsimp only; repeat' (first | split | simp)
@[simp] theorem refreshBridge_glk_testUntil (s : State) : (refreshBridge s).glk.testUntil = s.glk.testUntil := by
  unfold refreshBridge; simp
@[simp] theorem refreshWords_glk_testLegs (s : State) : (refreshWords s).glk.testLegs = s.glk.testLegs := rfl
@[simp] theorem refreshFire_glk_testLegs (s : State) : (refreshFire s).glk.testLegs = s.glk.testLegs := by
  unfold refreshFire; dsimp only; repeat' (first | split | simp)
@[simp] theorem refreshBridge_glk_testLegs (s : State) : (refreshBridge s).glk.testLegs = s.glk.testLegs := by
  unfold refreshBridge; simp
@[simp] theorem refreshWords_glk_testRetest (s : State) : (refreshWords s).glk.testRetest = s.glk.testRetest := rfl
@[simp] theorem refreshFire_glk_testRetest (s : State) : (refreshFire s).glk.testRetest = s.glk.testRetest := by
  unfold refreshFire; dsimp only; repeat' (first | split | simp)
@[simp] theorem refreshBridge_glk_testRetest (s : State) : (refreshBridge s).glk.testRetest = s.glk.testRetest := by
  unfold refreshBridge; simp
@[simp] theorem refreshWords_glk_testB2R (s : State) : (refreshWords s).glk.testB2R = s.glk.testB2R := rfl
@[simp] theorem refreshFire_glk_testB2R (s : State) : (refreshFire s).glk.testB2R = s.glk.testB2R := by
  unfold refreshFire; dsimp only; repeat' (first | split | simp)
@[simp] theorem refreshBridge_glk_testB2R (s : State) : (refreshBridge s).glk.testB2R = s.glk.testB2R := by
  unfold refreshBridge; simp
@[simp] theorem refreshWords_glk_testOver (s : State) : (refreshWords s).glk.testOver = s.glk.testOver := rfl
@[simp] theorem refreshFire_glk_testOver (s : State) : (refreshFire s).glk.testOver = s.glk.testOver := by
  unfold refreshFire; dsimp only; repeat' (first | split | simp)
@[simp] theorem refreshBridge_glk_testOver (s : State) : (refreshBridge s).glk.testOver = s.glk.testOver := by
  unfold refreshBridge; simp
@[simp] theorem refreshWords_glk_jig (s : State) : (refreshWords s).glk.jig = s.glk.jig := rfl
@[simp] theorem refreshFire_glk_jig (s : State) : (refreshFire s).glk.jig = s.glk.jig := by
  unfold refreshFire; dsimp only; repeat' (first | split | simp)
@[simp] theorem refreshBridge_glk_jig (s : State) : (refreshBridge s).glk.jig = s.glk.jig := by
  unfold refreshBridge; simp
@[simp] theorem refreshWords_glk_jigTime (s : State) : (refreshWords s).glk.jigTime = s.glk.jigTime := rfl
@[simp] theorem refreshFire_glk_jigTime (s : State) : (refreshFire s).glk.jigTime = s.glk.jigTime := by
  unfold refreshFire; dsimp only; repeat' (first | split | simp)
@[simp] theorem refreshBridge_glk_jigTime (s : State) : (refreshBridge s).glk.jigTime = s.glk.jigTime := by
  unfold refreshBridge; simp
@[simp] theorem refreshWords_glk_takeUntil (s : State) : (refreshWords s).glk.takeUntil = s.glk.takeUntil := rfl
@[simp] theorem refreshFire_glk_takeUntil (s : State) : (refreshFire s).glk.takeUntil = s.glk.takeUntil := by
  unfold refreshFire; dsimp only; repeat' (first | split | simp)
@[simp] theorem refreshBridge_glk_takeUntil (s : State) : (refreshBridge s).glk.takeUntil = s.glk.takeUntil := by
  unfold refreshBridge; simp
@[simp] theorem refreshWords_glk_holdA (s : State) : (refreshWords s).glk.holdA = s.glk.holdA := rfl
@[simp] theorem refreshFire_glk_holdA (s : State) : (refreshFire s).glk.holdA = s.glk.holdA := by
  unfold refreshFire; dsimp only; repeat' (first | split | simp)
@[simp] theorem refreshBridge_glk_holdA (s : State) : (refreshBridge s).glk.holdA = s.glk.holdA := by
  unfold refreshBridge; simp
@[simp] theorem refreshWords_glk_holdB (s : State) : (refreshWords s).glk.holdB = s.glk.holdB := rfl
@[simp] theorem refreshFire_glk_holdB (s : State) : (refreshFire s).glk.holdB = s.glk.holdB := by
  unfold refreshFire; dsimp only; repeat' (first | split | simp)
@[simp] theorem refreshBridge_glk_holdB (s : State) : (refreshBridge s).glk.holdB = s.glk.holdB := by
  unfold refreshBridge; simp
theorem refreshFire_links (s : State) : (refreshFire s).glk.links = s.glk.links := by
  unfold refreshFire; dsimp only; repeat' (first | split | simp)
/-- What a link record keeps: the frame, flags, loop result and counter. -/
theorem refreshBridge_link (s : State) (i : Fin 4) : (refreshBridge s).glk.links[i].word = s.word i ∧
    (refreshBridge s).glk.links[i].frame = s.glk.links[i].frame ∧ (refreshBridge s).glk.links[i].age = s.glk.links[i].age ∧
    (refreshBridge s).glk.links[i].flags = s.glk.links[i].flags ∧ (refreshBridge s).glk.links[i].test = s.glk.links[i].test ∧
    (refreshBridge s).glk.links[i].cnt = s.glk.links[i].cnt ∧ (refreshBridge s).glk.links[i].lost = s.glk.links[i].lost := by
  unfold refreshBridge
  rw [refreshFire_links]
  unfold refreshWords
  simp only [State.onGlk, Fin.getElem_fin, Vector.getElem_ofFn]
  split
  · next h => exact ⟨(by simpa using h : s.word i = _).symm, rfl, rfl, rfl, rfl, rfl, rfl⟩
  · exact ⟨rfl, rfl, rfl, rfl, rfl, rfl, rfl⟩
theorem word_of {s t : State} (h1 : t.dev = s.dev) (h2 : t.img = s.img) (h3 : t.arm = s.arm) (h4 : t.dvt.healthy = s.dvt.healthy)
    (h5 : t.spl = s.spl) (h6 : t.pwm = s.pwm) (h7 : t.prt = s.prt) (h8 : t.clock = s.clock) (h10 : t.tim = s.tim)
    (h9 : t.glk.legA = s.glk.legA ∧ t.glk.legB = s.glk.legB ∧ t.glk.fireHold = s.glk.fireHold ∧
      t.glk.fireAll = s.glk.fireAll ∧ t.glk.testUntil = s.glk.testUntil ∧ t.glk.testLegs = s.glk.testLegs ∧
      t.glk.holdA = s.glk.holdA ∧ t.glk.holdB = s.glk.holdB ∧ t.glk.bInvert = s.glk.bInvert ∧ t.glk.jig = s.glk.jig)
    (i : Fin 4) : t.word i = s.word i := by
  have k (l : Leg) : t.leg l = s.leg l ∧ t.unit l = s.unit l := by
    cases l <;> simp [State.leg, State.unit, h9, h6]
  have l (l : Leg) : t.lowerOn l = s.lowerOn l := by unfold State.lowerOn; simp [k, h9]
  have j : t.jigOn i = s.jigOn i := by unfold State.jigOn; simp [h9, h8]
  have r (l : Leg) : t.offReason l = s.offReason l := by
    have c (e : Fin 64) : t.reaction e = s.reaction e := by
      unfold State.reaction State.tableEntry State.table State.im; rw [h2, h7, h10]
    have m : t.immediate = s.immediate := by unfold State.immediate; simp only [h7, c]
    unfold State.offReason State.hardOff
    simp [h3, h5, h9, k, m]
  have rh (l : Leg) : t.hardOff l = s.hardOff l := by
    have c (e : Fin 64) : t.reaction e = s.reaction e := by
      unfold State.reaction State.tableEntry State.table State.im; rw [h2, h7, h10]
    have m : t.immediate = s.immediate := by unfold State.immediate; simp only [h7, c]
    unfold State.hardOff
    simp [h3, h9, k, m]
  unfold State.word gateWord State.wantWord State.glActive State.mayDrive State.legWord State.simplex State.chainPair State.im
  simp [h1, h2, h3, h4, h5, h6, h9, k, l, j, r, rh, State.testOn]
/-- Every link carries the word that Table 06.6 gives it for the new state. -/
theorem refreshBridge_word (s : State) (i : Fin 4) : (refreshBridge s).glk.links[i].word = (refreshBridge s).word i := by
  rw [(refreshBridge_link s i).1]
  exact (word_of (by simp) (by simp) (by simp) (by simp) (by simp) (by simp) (by simp) (by simp) (by simp) (by simp) i).symm
@[simp] theorem refreshBridge_leg (s : State) (l : Leg) : (refreshBridge s).leg l = s.leg l := by
  cases l <;> simp [State.leg]
@[simp] theorem refreshBridge_unit (s : State) (l : Leg) : (refreshBridge s).unit l = s.unit l := by
  cases l <;> simp [State.unit]
@[simp] theorem onUnit_unit (s : State) (l : Leg) (f : PulseUnit → PulseUnit) : (s.onUnit l f).unit l = f (s.unit l) := by
  cases l <;> rfl
@[simp] theorem onUnit_unit_other (s : State) (l : Leg) (f : PulseUnit → PulseUnit) :
    (s.onUnit l f).unit l.other = s.unit l.other := by
  cases l <;> rfl
@[simp] theorem onLeg_leg (s : State) (l : Leg) (f : LegRec → LegRec) : (s.onLeg l f).leg l = f (s.leg l) := by
  cases l <;> rfl
@[simp] theorem onLeg_leg_other (s : State) (l : Leg) (f : LegRec → LegRec) : (s.onLeg l f).leg l.other = s.leg l.other := by
  cases l <;> rfl
@[simp] theorem onLeg_unit (s : State) (l k : Leg) (f : LegRec → LegRec) : (s.onLeg l f).unit k = s.unit k := by
  cases l <;> cases k <;> rfl
@[simp] theorem onUnit_leg (s : State) (l k : Leg) (f : PulseUnit → PulseUnit) : (s.onUnit l f).leg k = s.leg k := by
  cases l <;> cases k <;> rfl
@[simp] theorem logEvent_unit (s : State) (c a b d : Nat) (l : Leg) : (logEvent s c a b d).unit l = s.unit l := by
  cases l <;> rfl
@[simp] theorem logEvent_leg (s : State) (c a b d : Nat) (l : Leg) : (logEvent s c a b d).leg l = s.leg l := by
  cases l <;> rfl
@[simp] theorem moveOutput_active (k t : Nat) (a : Bool) (u : PulseUnit) : (moveOutput k t a u).active = a := by
  unfold moveOutput
  split
  · next h => exact (by simpa using h : a = u.active).symm
  · rfl
@[simp] theorem moveOutput_cur (k t : Nat) (a : Bool) (u : PulseUnit) : (moveOutput k t a u).cur = u.cur := by
  unfold moveOutput; split <;> rfl
@[simp] theorem moveOutput_queue (k t : Nat) (a : Bool) (u : PulseUnit) : (moveOutput k t a u).queue = u.queue := by
  unfold moveOutput; split <;> rfl
@[simp] theorem moveOutput_t0 (k t : Nat) (a : Bool) (u : PulseUnit) : (moveOutput k t a u).t0 = u.t0 := by
  unfold moveOutput; split <;> rfl
@[simp] theorem moveOutput_armed (k t : Nat) (a : Bool) (u : PulseUnit) : (moveOutput k t a u).startArmed = u.startArmed := by
  unfold moveOutput; split <;> rfl
theorem legLeaves_unit (s : State) (l : Leg) : (legLeaves s l).unit l =
    (if (s.leg l).wait then { s.unit l with kerfUntil := none } else s.unit l) ∧
    (legLeaves s l).unit l.other = s.unit l.other := by
  unfold legLeaves
  split
  · exact ⟨by simp, by simp⟩
  · exact ⟨rfl, rfl⟩
theorem legLeaves_leg (s : State) (l : Leg) : (legLeaves s l).leg l =
    (if (s.leg l).wait then { s.leg l with wait := false, st := .running, cause := 0, faultSw := 0 } else s.leg l) ∧
    (legLeaves s l).leg l.other = s.leg l.other := by
  unfold legLeaves
  split
  · exact ⟨by simp, by simp⟩
  · exact ⟨rfl, rfl⟩
/-- A set in force from a period start on (R121, R122, R124). -/
theorem takeSet_unit (s : State) (l : Leg) (t : Nat) (p : PwmSet) (r : List PwmSet) :
    ((takeSet s l t p r).unit l).cur = some (minPulseSet s.im.minPulse p) ∧ ((takeSet s l t p r).unit l).queue = r ∧
    ((takeSet s l t p r).unit l).t0 = t ∧ ((takeSet s l t p r).unit l).running = true ∧
    ((takeSet s l t p r).unit l).active = setActive (minPulseSet s.im.minPulse p) 0 ∧
    ((takeSet s l t p r).unit l).startArmed = (s.unit l).startArmed ∧
    (takeSet s l t p r).unit l.other = s.unit l.other ∧ ∀ k, (takeSet s l t p r).leg k = s.leg k := by
  unfold takeSet
  simp
@[simp] theorem legLeaves_keep (s : State) (l : Leg) : ((legLeaves s l).unit l).cur = (s.unit l).cur ∧
    ((legLeaves s l).unit l).queue = (s.unit l).queue ∧ ((legLeaves s l).unit l).t0 = (s.unit l).t0 ∧
    (legLeaves s l).pwm.cntRepeat = s.pwm.cntRepeat := by
  unfold legLeaves
  split
  · cases l <;> exact ⟨rfl, rfl, rfl, rfl⟩
  · exact ⟨rfl, rfl, rfl, rfl⟩
/-! A reaction never takes a leg out of HIGH_Z. -/
theorem leg_eq {s t : State} (h : t.glk.legA = s.glk.legA) (h' : t.glk.legB = s.glk.legB) (l : Leg) : t.leg l = s.leg l := by
  cases l <;> assumption
theorem setHiZ_leg (s : State) (l k : Leg) (c : Nat) : (setHiZ s l c).leg k =
    if k = l then { s.leg l with st := .hiZ, cause := c } else s.leg k := by
  cases l <;> cases k <;> rfl
theorem bothHiZ_st (s : State) (c : Nat) (b : Bool) (l : Leg) : ((bothHiZ s c b).leg l).st = .hiZ := by
  cases l <;> rfl
theorem setHiZ_hiZ {s : State} {k : Leg} (l : Leg) (c : Nat) (h : (s.leg k).st = .hiZ) : ((setHiZ s l c).leg k).st = .hiZ := by
  rw [setHiZ_leg]
  split
  · rfl
  · exact h
theorem blockCell_hiZ {s : State} {k : Leg} (c : Nat) (h : (s.leg k).st = .hiZ) : ((blockCell s c).leg k).st = .hiZ := by
  unfold blockCell
  split
  · exact h
  · rw [refreshBridge_leg]
    split <;> cases k <;> rfl
theorem immediateActions_hiZ {s : State} {k : Leg} (m : BitVec 8) (e : Fin 64) (h : (s.leg k).st = .hiZ) :
    ((immediateActions s m e).leg k).st = .hiZ := by
  have i {p : Prop} [Decidable p] {a b : State} (ha : (a.leg k).st = .hiZ) (hb : (b.leg k).st = .hiZ) :
      ((if p then a else b).leg k).st = .hiZ := by split <;> assumption
  unfold immediateActions
  rw [refreshBridge_leg]
  have h1 := i (p := m.getLsbD 0 = true) (blockCell_hiZ 6 h) h
  generalize (if m.getLsbD 0 = true then blockCell s 6 else s) = s1 at *
  have h2 := i (p := (m.getLsbD 1 && (s1.leg .a).st != .hiZ) = true) (setHiZ_hiZ .a 6 h1) h1
  generalize (if (m.getLsbD 1 && (s1.leg .a).st != .hiZ) = true then setHiZ s1 .a 6 else s1) = s2 at *
  have h3 := i (p := (m.getLsbD 2 && (s2.leg .b).st != .hiZ) = true) (setHiZ_hiZ .b 6 h2) h2
  generalize (if (m.getLsbD 2 && (s2.leg .b).st != .hiZ) = true then setHiZ s2 .b 6 else s2) = s3 at *
  have q (x : State) (c : ChainId) : (blockAll (requestBlock x c) c).leg k = x.leg k := leg_eq (by simp) (by simp) k
  have h4 := i (p := (m.getLsbD 3 && s3.declared .a) = true) (by rw [q s3 .a]; exact h3) h3
  generalize (if (m.getLsbD 3 && s3.declared .a) = true then blockAll (requestBlock s3 .a) .a else s3) = s4 at *
  have h5 := i (p := (m.getLsbD 4 && s4.declared .b) = true) (by rw [q s4 .b]; exact h4) h4
  generalize (if (m.getLsbD 4 && s4.declared .b) = true then blockAll (requestBlock s4 .b) .b else s4) = s5 at *
  refine i ?_ h5
  cases k <;> exact h5
theorem fireEntry_hiZ {s : State} {k : Leg} (b : Bool) (e : Fin 64) (h : (s.leg k).st = .hiZ) :
    ((fireEntry b s e).leg k).st = .hiZ := by
  have j (x : State) : (endJig x).leg k = x.leg k :=
    leg_eq (same_of_drop (endJig_drop x (by decide) : (endJig x).drop 12960628736 = _) .legs (by decide)).1
      (same_of_drop (endJig_drop x (by decide) : (endJig x).drop 12960628736 = _) .legs (by decide)).2 k
  have c (x : State) (b : Bool) : (if b = true then countFiring x e else x).leg k = x.leg k := by
    split
    · exact leg_eq (by simp) (by simp) k
    · rfl
  unfold fireEntry
  dsimp only
  rw [c, logEvent_leg, j]
  exact immediateActions_hiZ _ _ (by cases k <;> exact h)
theorem sourceUp_hiZ {s : State} {k : Leg} (src : Nat) (b : Bool) (h : (s.leg k).st = .hiZ) :
    ((sourceUp s src b).leg k).st = .hiZ := by
  unfold sourceUp
  have q : ∀ (l : List (Fin 64)) (x : State), (x.leg k).st = .hiZ → ((l.foldl (fireEntry b) x).leg k).st = .hiZ := by
    intro l
    induction l with
    | nil => exact fun _ h => h
    | cons e r ih => exact fun x h => ih _ (fireEntry_hiZ b e h)
  exact q _ _ (by rw [logEvent_leg]; exact h)
theorem raiseHeld_hiZ {s : State} {k : Leg} (src : Nat) (h : (s.leg k).st = .hiZ) : ((raiseHeld s src).leg k).st = .hiZ := by
  unfold raiseHeld
  split
  · exact h
  · exact sourceUp_hiZ _ _ (by cases k <;> exact h)
theorem raiseEvent_hiZ {s : State} {k : Leg} (src : Nat) (h : (s.leg k).st = .hiZ) : ((raiseEvent s src).leg k).st = .hiZ := by
  unfold raiseEvent
  exact sourceUp_hiZ _ _ (by cases k <;> exact h)
/-- A source that is raised is active from then on, or for one assessment (R396). -/
theorem raiseHeld_active (s : State) (src : Nat) : (raiseHeld s src).prt.active.contains src = true := by
  unfold raiseHeld
  split
  · assumption
  · simp
theorem raiseEvent_pulsed (s : State) (src : Nat) : (raiseEvent s src).prt.pulsed = src :: s.prt.pulsed ∧
    (raiseEvent s src).prt.active = s.prt.active := by
  unfold raiseEvent
  exact ⟨by simp, by simp⟩
/-- R137: the leg of the faulty switch is in HIGH_Z, source 0x10 is active, and PE has its instant. -/
theorem legFault_effect (s : State) (i : Fin 4) (c : Nat) : ((legFault s i c).leg (linkLeg i)).st = .hiZ ∧
    (legFault s i c).prt.active.contains 0x10 = true := by
  unfold legFault
  dsimp only
  rw [refreshBridge_leg, refreshBridge_prt]
  refine ⟨raiseHeld_hiZ _ ?_, raiseHeld_active _ _⟩
  rw [logEvent_leg]
  cases h : linkLeg i <;> rfl
/-- An update of every declared chain's sentinel unit reaches each of them. -/
theorem forChains_sen (s : State) (f : Sen → Sen) (c : ChainId) (h : c ∈ s.chains) :
    (s.forChains fun t k => t.onSen k f).sen c = f (s.sen c) := by
  unfold State.forChains
  unfold State.chains at *
  cases ha : s.declared .a <;> cases hb : s.declared .b <;> cases c <;> simp [ha, hb] at h <;>
    simp [ha, hb] <;> rfl
/-- The tracking member that learns a bypass keeps its legs. -/
theorem followBypass_keep (s : State) (m : Mirror) : (∀ l, (followBypass s m).leg l = s.leg l) ∧
    (followBypass s m).glk.bInvert = s.glk.bInvert ∧ (followBypass s m).mnt = s.mnt ∧ (followBypass s m).dvt = s.dvt := by
  unfold followBypass
  split
  · exact ⟨fun l => by cases l <;> rfl, rfl, rfl, rfl⟩
  · exact ⟨fun l => rfl, rfl, rfl, rfl⟩
/-- The words follow a change that touches neither the links nor what Table 06.6 reads. -/
theorem follow_of {s t : State} (h : ∀ i : Fin 4, s.glk.links[i].word = s.word i) (g : t.glk = s.glk) (h1 : t.dev = s.dev)
    (h2 : t.img = s.img) (h3 : t.arm = s.arm) (h4 : t.dvt.healthy = s.dvt.healthy) (h5 : t.spl = s.spl) (h6 : t.pwm = s.pwm)
    (h7 : t.prt = s.prt) (h8 : t.clock = s.clock) (h9 : t.tim = s.tim) (i : Fin 4) : t.glk.links[i].word = t.word i := by
  rw [word_of h1 h2 h3 h4 h5 h6 h7 h8 h9 (by simp [g]) i, g]
  exact h i
theorem refreshLoads_follow {s : State} (h : ∀ i : Fin 4, s.glk.links[i].word = s.word i) (i : Fin 4) :
    (refreshLoads s).glk.links[i].word = (refreshLoads s).word i :=
  follow_of h (by simp) (by simp) (by simp) (by simp) (by simp) (by simp) (by simp) (by simp) (by simp) (by simp) i
theorem logEvent_follow {s : State} (c a b d : Nat) (h : ∀ i : Fin 4, s.glk.links[i].word = s.word i) (i : Fin 4) :
    (logEvent s c a b d).glk.links[i].word = (logEvent s c a b d).word i :=
  follow_of h (by simp) (by simp) (by simp) (by simp) (by simp) (by simp) (by simp) (by simp) (by simp) (by simp) i
theorem onLbus_follow {s : State} (f : Lbus → Lbus) (h : ∀ i : Fin 4, s.glk.links[i].word = s.word i) (i : Fin 4) :
    (s.onLbus f).glk.links[i].word = (s.onLbus f).word i :=
  follow_of h (by simp) (by simp) (by simp) (by simp) (by simp) (by simp) (by simp) (by simp) (by simp) (by simp) i
theorem dropToken_effect (s : State) (st : DvtSt) : (dropToken s st).arm = { s.arm with owner := false } ∧
    (dropToken s st).dvt = { s.dvt with st := st, moveTime := s.tim.time, giveAt := none, acked := false } ∧
    ∀ i : Fin 4, (dropToken s st).glk.links[i].word = (dropToken s st).word i := by
  unfold dropToken
  dsimp only
  refine ⟨by simp, by simp, ?_⟩
  have w (x : State) (i : Fin 4) := refreshLoads_follow (s := refreshBridge x) (refreshBridge_word x) i
  generalize dropRequests _ = x
  exact w _
theorem assumeToken_effect (s : State) (g : Nat) : (assumeToken s g).arm = { s.arm with owner := true } ∧
    (assumeToken s g).dvt = { s.dvt with st := .owning, gen := g % 65536, moveTime := s.tim.time, yielded := false, waitTake := none, giveAt := none, acked := false, ackOwed := false } ∧
    ∀ i : Fin 4, (assumeToken s g).glk.links[i].word = (assumeToken s g).word i := by
  unfold assumeToken busToNormal
  dsimp only
  have w (x : State) (f : Lbus → Lbus) (i : Fin 4) := onLbus_follow (s := refreshBridge x) f (refreshBridge_word x) i
  refine ⟨?_, ?_, w _ _⟩
  · simp only [State.onLbus_arm, refreshBridge_arm]
    split <;> simp
  · simp only [State.onLbus_dvt, refreshBridge_dvt]
    split <;> simp
theorem takeOver_effect (s : State) (c : Nat) : (takeOver s c).arm = { s.arm with owner := true } ∧
    (takeOver s c).dvt = { s.dvt with st := .owning, gen := (s.dvt.gen + 1) % 65536, moveTime := s.tim.time, yielded := false, waitTake := none, giveAt := none, acked := false, ackOwed := false, cntTake := bump 8 s.dvt.cntTake } := by
  unfold takeOver
  have k := assumeToken_effect s (s.dvt.gen + 1)
  refine ⟨by simp [k.1], ?_⟩
  simp only [logEvent_dvt, State.onDvt_dvt, k.2.1]
/-! What a reaction leaves (R270, R273). -/
theorem immediateActions_effect (s : State) (m : BitVec 8) (e : Fin 64) :
    (immediateActions s m e).prt.entries = s.prt.entries ∧ (immediateActions s m e).prt.cmp = s.prt.cmp ∧
    (m.getLsbD 5 = true → (immediateActions s m e).prt.tripOut = true) ∧
    (s.prt.tripOut = true → (immediateActions s m e).prt.tripOut = true) ∧
    (m.getLsbD 1 = true → ((immediateActions s m e).leg .a).st = .hiZ) ∧
    (m.getLsbD 2 = true → ((immediateActions s m e).leg .b).st = .hiZ) ∧
    (m.getLsbD 0 = true → s.arm.bypassed = false → ∀ l, ((immediateActions s m e).leg l).st = .hiZ) := by
  have i {p : Prop} [Decidable p] {a b : State} {k : Leg} (ha : (a.leg k).st = .hiZ) (hb : (b.leg k).st = .hiZ) :
      ((if p then a else b).leg k).st = .hiZ := by split <;> assumption
  have up {x : State} {k : Leg} (h : (x.leg k).st = .hiZ) (c : ChainId) {p : Prop} [Decidable p] :
      ((if p then blockAll (requestBlock x c) c else x).leg k).st = .hiZ :=
    i (by rw [leg_eq (s := x) (by simp) (by simp)]; exact h) h
  unfold immediateActions
  refine ⟨?_, ?_, ?_, ?_, ?_, ?_, ?_⟩
  · simp only [refreshBridge_prt]
    split <;> simp [apply_ite State.prt]
  · simp only [refreshBridge_prt]
    split <;> simp [apply_ite State.prt]
  · intro h; simp [h]
  · intro h; simp only [refreshBridge_prt]; split <;> simp [apply_ite State.prt, h]
  · intro h
    rw [refreshBridge_leg]
    have h2 (x : State) : ((if (m.getLsbD 1 && (x.leg .a).st != .hiZ) = true then setHiZ x .a 6 else x).leg .a).st = .hiZ := by
      by_cases q : (x.leg .a).st = .hiZ
      · simp [q]
      · simp [h, q, setHiZ_leg]
    have h3 (x : State) {p : Prop} [Decidable p] (h : (x.leg .a).st = .hiZ) : ((if p then setHiZ x .b 6 else x).leg .a).st = .hiZ :=
      i (setHiZ_hiZ _ _ h) h
    have o (x : State) (f : Prt → Prt) {p : Prop} [Decidable p] (h : (x.leg .a).st = .hiZ) : ((if p then x.onPrt f else x).leg .a).st = .hiZ := by
      split <;> exact h
    exact o _ _ (up (up (h3 _ (h2 _)) .a) .b)
  · intro h
    rw [refreshBridge_leg]
    have h3 (x : State) : ((if (m.getLsbD 2 && (x.leg .b).st != .hiZ) = true then setHiZ x .b 6 else x).leg .b).st = .hiZ := by
      by_cases q : (x.leg .b).st = .hiZ
      · simp [q]
      · simp [h, q, setHiZ_leg]
    have o (x : State) (f : Prt → Prt) {p : Prop} [Decidable p] (h : (x.leg .b).st = .hiZ) : ((if p then x.onPrt f else x).leg .b).st = .hiZ := by
      split <;> exact h
    exact o _ _ (up (up (h3 _) .a) .b)
  · intro h hb l
    rw [refreshBridge_leg]
    have h1 : ((if m.getLsbD 0 = true then blockCell s 6 else s).leg l).st = .hiZ := by
      simp only [h, if_true]
      unfold blockCell
      simp only [hb, Bool.false_eq_true, if_false]
      rw [refreshBridge_leg]
      split <;> cases l <;> rfl
    have h2 (x : State) (k : Leg) {p : Prop} [Decidable p] (h : (x.leg l).st = .hiZ) : ((if p then setHiZ x k 6 else x).leg l).st = .hiZ :=
      i (setHiZ_hiZ _ _ h) h
    have o (x : State) (f : Prt → Prt) {p : Prop} [Decidable p] (h : (x.leg l).st = .hiZ) : ((if p then x.onPrt f else x).leg l).st = .hiZ := by
      split <;> cases l <;> exact h
    exact o _ _ (up (up (h2 _ .b (h2 _ .a h1)) .a) .b)
theorem countFiring_entry (s : State) (e k : Fin 64) : (countFiring s e).prt.entries[k].fired = s.prt.entries[k].fired ∧
    (countFiring s e).prt.entries[k].latched = s.prt.entries[k].latched ∧
    (countFiring s e).prt.entries[k].firedAt = s.prt.entries[k].firedAt ∧ (countFiring s e).prt.cmp = s.prt.cmp ∧
    (countFiring s e).prt.tripOut = s.prt.tripOut := by
  unfold countFiring
  by_cases h : e = k
  · subst h; simp [State.onPrt]
  · have g : e.val ≠ k.val := fun q => h (Fin.ext q)
    simp [State.onPrt, g]
theorem immediateActions_oldTable (s : State) (m : BitVec 8) (e : Fin 64) :
    (immediateActions s m e).prt.oldTable = s.prt.oldTable := by
  unfold immediateActions
  simp only [refreshBridge_prt]
  split <;> simp [apply_ite State.prt]
theorem countFiring_oldTable (s : State) (e : Fin 64) : (countFiring s e).prt.oldTable = s.prt.oldTable := rfl
theorem fireEntry_keep (b : Bool) (s : State) (e : Fin 64) : (fireEntry b s e).img = s.img ∧ (fireEntry b s e).clock = s.clock ∧
    (fireEntry b s e).prt.cmp = s.prt.cmp ∧ (fireEntry b s e).prt.oldTable = s.prt.oldTable ∧ (fireEntry b s e).tim = s.tim := by
  have j (x : State) : (endJig x).prt = x.prt := same_of_drop (m := 12960628736) (endJig_drop x (by decide)) .prt (by decide)
  refine ⟨by simp, by simp, ?_, ?_, by simp⟩
  · unfold fireEntry
    dsimp only
    split
    · rw [(countFiring_entry _ _ e).2.2.2.1, logEvent_prt, j, (immediateActions_effect _ _ _).2.1] <;> rfl
    · rw [logEvent_prt, j, (immediateActions_effect _ _ _).2.1] <;> rfl
  · unfold fireEntry
    dsimp only
    split
    · rw [countFiring_oldTable, logEvent_prt, j, immediateActions_oldTable] <;> rfl
    · rw [logEvent_prt, j, immediateActions_oldTable] <;> rfl
theorem fireEntry_entry (b : Bool) (s : State) (e k : Fin 64) :
    (fireEntry b s e).prt.entries[k].fired = (if k = e then true else s.prt.entries[k].fired) ∧
    (fireEntry b s e).prt.entries[k].latched = (if k = e then s.prt.entries[k].latched || (s.tableEntry e).immediate != 0 else s.prt.entries[k].latched) ∧
    (fireEntry b s e).prt.entries[k].firedAt = (if k = e then some s.clock else s.prt.entries[k].firedAt) := by
  have j (x : State) : (endJig x).prt = x.prt := same_of_drop (m := 12960628736) (endJig_drop x (by decide)) .prt (by decide)
  have c (x : State) : (if b = true then countFiring x e else x).prt.entries[k].fired = x.prt.entries[k].fired ∧
      (if b = true then countFiring x e else x).prt.entries[k].latched = x.prt.entries[k].latched ∧
      (if b = true then countFiring x e else x).prt.entries[k].firedAt = x.prt.entries[k].firedAt := by
    have q := countFiring_entry x e k
    split
    · exact ⟨q.1, q.2.1, q.2.2.1⟩
    · exact ⟨rfl, rfl, rfl⟩
  unfold fireEntry
  dsimp only
  rw [(c _).1, (c _).2.1, (c _).2.2, logEvent_prt, j, (immediateActions_effect _ _ _).1]
  by_cases h : k = e
  · subst h; simp [State.onPrt]
  · have g : e.val ≠ k.val := fun q => h (Fin.ext q.symm)
    simp [State.onPrt, g, h]
theorem fireEntry_tripOut (b : Bool) (s : State) (e : Fin 64) (h : s.prt.tripOut = true ∨ (s.tableEntry e).immediate.getLsbD 5 = true) :
    (fireEntry b s e).prt.tripOut = true := by
  have j (x : State) : (endJig x).prt = x.prt := same_of_drop (m := 12960628736) (endJig_drop x (by decide)) .prt (by decide)
  have c (x : State) : (if b = true then countFiring x e else x).prt.tripOut = x.prt.tripOut := by
    split
    · exact (countFiring_entry x e e).2.2.2.2
    · rfl
  unfold fireEntry
  dsimp only
  rw [c, logEvent_prt, j]
  rcases h with h | h
  · exact (immediateActions_effect _ _ _).2.2.2.1 h
  · exact (immediateActions_effect _ _ _).2.2.1 h
theorem fireEntry_legs (b : Bool) (s : State) (e : Fin 64) :
    ((s.tableEntry e).immediate.getLsbD 1 = true → ((fireEntry b s e).leg .a).st = .hiZ) ∧
    ((s.tableEntry e).immediate.getLsbD 2 = true → ((fireEntry b s e).leg .b).st = .hiZ) := by
  have j (x : State) (k : Leg) : (endJig x).leg k = x.leg k :=
    leg_eq (same_of_drop (m := 12960628736) (endJig_drop x (by decide)) .legs (by decide)).1
      (same_of_drop (m := 12960628736) (endJig_drop x (by decide)) .legs (by decide)).2 k
  have c (x : State) (k : Leg) : (if b = true then countFiring x e else x).leg k = x.leg k := by
    split
    · exact leg_eq (by simp) (by simp) k
    · rfl
  unfold fireEntry
  dsimp only
  rw [c, c, logEvent_leg, logEvent_leg, j, j]
  exact ⟨(immediateActions_effect _ _ _).2.2.2.2.1, (immediateActions_effect _ _ _).2.2.2.2.2.1⟩
theorem tableEntry_of {s t : State} (h : t.img = s.img) (h' : t.prt.oldTable = s.prt.oldTable) (h'' : t.tim = s.tim)
    (e : Fin 64) : t.tableEntry e = s.tableEntry e := by
  unfold State.tableEntry State.table State.im; rw [h, h', h'']
/-- All entries of a source that apply fire together (R270, R273). -/
theorem sourceUp_fires (s : State) (src : Nat) (b : Bool) :
    (∀ e ∈ s.entriesOf src, Fired (s.tableEntry e) s.clock e (sourceUp s src b)) ∧ (sourceUp s src b).prt.cmp = s.prt.cmp := by
  have eo : (logEvent s 0x1012 src).entriesOf src = s.entriesOf src := by
    have r := tableEntry_of (s := s) (t := logEvent s 0x1012 src) (by simp) (by simp) (by simp)
    have l : (logEvent s 0x1012 src).table = s.table := by unfold State.table State.im; simp
    unfold State.entriesOf State.entryApplies
    simp [r, l]
  have q : ∀ (l : List (Fin 64)) (x : State), x.img = s.img → x.clock = s.clock → x.prt.oldTable = s.prt.oldTable → x.tim = s.tim →
      (∀ e, (e ∈ l ∨ Fired (s.tableEntry e) s.clock e x) → Fired (s.tableEntry e) s.clock e (l.foldl (fireEntry b) x)) ∧
      (l.foldl (fireEntry b) x).prt.cmp = x.prt.cmp := by
    intro l
    induction l with
    | nil => exact fun x _ _ _ _ => ⟨fun e h => h.elim (fun h => absurd h (by simp)) id, rfl⟩
    | cons a r ih =>
      intro x hi hc ho ht
      have k := fireEntry_keep b x a
      have i := ih (fireEntry b x a) (k.1.trans hi) (k.2.1.trans hc) (k.2.2.2.1.trans ho) (k.2.2.2.2.trans ht)
      refine ⟨fun e h => i.1 e ?_, i.2.trans k.2.2.1⟩
      have en := fireEntry_entry b x a
      have hr := tableEntry_of (s := s) (t := x) hi ho ht
      by_cases ea : e = a
      · subst ea
        right
        refine ⟨?_, ?_, ?_, ?_, ?_, ?_⟩
        · rw [(en e).1]; simp
        · intro h'
          rw [(en e).2.1, if_pos rfl, hr]
          simp only [Bool.or_eq_true, bne_iff_ne]
          exact .inr h'
        · rw [(en e).2.2, hc]; simp
        · rw [← hr]; exact (fireEntry_legs b x e).1
        · rw [← hr]; exact (fireEntry_legs b x e).2
        · rw [← hr]; exact fun h' => fireEntry_tripOut b x e (.inr h')
      · rcases h with h | h
        · exact .inl ((List.mem_cons.1 h).resolve_left ea)
        · right
          refine ⟨?_, ?_, ?_, ?_, ?_, ?_⟩
          · rw [(en e).1, if_neg ea]; exact h.1
          · intro h'; rw [(en e).2.1, if_neg ea]; exact h.2.1 h'
          · rw [(en e).2.2, if_neg ea]; exact h.2.2.1
          · exact fun h' => fireEntry_hiZ b a (h.2.2.2.1 h')
          · exact fun h' => fireEntry_hiZ b a (h.2.2.2.2.1 h')
          · exact fun h' => fireEntry_tripOut b x a (.inl (h.2.2.2.2.2 h'))
  unfold sourceUp
  dsimp only
  rw [eo]
  have z := q (s.entriesOf src) (logEvent s 0x1012 src) (by simp) (by simp) (by simp) (by simp)
  exact ⟨fun e he => z.1 e (.inl he), z.2.trans (by simp)⟩
theorem raiseHeld_pulsed (s : State) (src : Nat) : (raiseHeld s src).prt.pulsed = s.prt.pulsed := by
  unfold raiseHeld
  split
  · rfl
  · simp
theorem endHeld_pulsed (s : State) (src : Nat) : (endHeld s src).prt.pulsed = s.prt.pulsed := by
  unfold endHeld
  split
  · simp
  · rfl
theorem followChain_pulsed (n : Nat) (s : State) (c : ChainId) (b : Bool) : (followChain n s c b).prt.pulsed = s.prt.pulsed := by
  unfold followChain
  dsimp only
  split
  · split
    · exact raiseHeld_pulsed _ _
    · simp only [State.onPrt_prt]; exact raiseHeld_pulsed _ _
  · split
    · split
      · simp only [State.onPrt_prt]
      · rw [endHeld_pulsed]; simp only [State.onPrt_prt]
    · rfl
theorem foldl_sourceDown_raised (l : List Nat) (s : State) : (l.foldl sourceDown s).prt.pulsed = s.prt.pulsed ∧
    (l.foldl sourceDown s).prt.active = s.prt.active := by
  induction l generalizing s with
  | nil => exact ⟨rfl, rfl⟩
  | cons a r ih =>
    have k := ih (sourceDown s a)
    simp only [List.foldl_cons]
    exact ⟨k.1.trans (by simp), k.2.trans (by simp)⟩
theorem assess_pulsed (s : State) : (∀ c, (assessChain s c).prt.pulsed = s.prt.pulsed) ∧ (assessCap s).prt.pulsed = s.prt.pulsed := by
  have fs (n : Nat) (x : State) (b : Bool) : (followSource n x b).prt.pulsed = x.prt.pulsed := by
    unfold followSource; split
    · exact raiseHeld_pulsed _ _
    · exact endHeld_pulsed _ _
  have fb (x : State) (n : Nat) : (floorBypass x n).prt.pulsed = x.prt.pulsed := by unfold floorBypass; split <;> simp
  have fm (x : State) (c : ChainId) : (floorMeasLost x c).prt.pulsed = x.prt.pulsed :=
    (same_of_drop (m := 150417145856) (floorMeasLost_drop x c (by decide)) .raised (by decide)).2
  have ii {p : Prop} [Decidable p] {a b s : State} (ha : a.prt.pulsed = s.prt.pulsed) (hb : b.prt.pulsed = s.prt.pulsed) :
      (if p then a else b).prt.pulsed = s.prt.pulsed := by split <;> assumption
  refine ⟨fun c => ?_, ?_⟩
  · unfold assessChain
    extract_lets now ov s0 s1 s2 s3 s4 a
    have e0 : s0.prt.pulsed = s.prt.pulsed := by unfold s0; cases c <;> rfl
    have e1 : s1.prt.pulsed = s.prt.pulsed := (followChain_pulsed _ _ _ _).trans e0
    have e2 : s2.prt.pulsed = s.prt.pulsed := (fm _ _).trans ((followChain_pulsed _ _ _ _).trans e1)
    have e3 : s3.prt.pulsed = s.prt.pulsed := (followChain_pulsed _ _ _ _).trans e2
    have e4 : s4.prt.pulsed = s.prt.pulsed := (followChain_pulsed _ _ _ _).trans e3
    refine ii ?_ e4
    rw [floorOpen_prt]
    exact e4
  · unfold assessCap
    extract_lets v high s1 bad rise was s2 s3 s4 s5
    have e1 : s1.prt.pulsed = s.prt.pulsed := rfl
    have e2 : s2.prt.pulsed = s.prt.pulsed := by
      refine ii ?_ e1
      rw [blockCell_prt]
      exact e1
    have e3 : s3.prt.pulsed = s.prt.pulsed := (fs _ _ _).trans e2
    have e4 : s4.prt.pulsed = s.prt.pulsed := ii ((fb _ _).trans e3) e3
    have e5 : s5.prt.pulsed = s.prt.pulsed := (fs _ _ _).trans e4
    exact ii ((fb _ _).trans e5) e5
theorem releaseEntry_entries (s : State) (e : Fin 64) (h : s.prt.entries[e].latched = true) :
    (releaseEntry s e).prt = { s.prt with entries := s.prt.entries.set e { s.prt.entries[e] with latched := false, inactSince := none } } := by
  have d (x : State) : (diagAfterRelease x).prt = x.prt := by unfold diagAfterRelease; split <;> rfl
  have t (x : State) (l : Leg) : (startRetest x l).prt = x.prt := by unfold startRetest; rw [refreshBridge_prt] <;> rfl
  have r (x : State) (l : Leg) : (releaseLeg x l).prt = x.prt := by
    unfold releaseLeg; split
    · rfl
    · split
      · exact t _ _
      · exact d _
  have ii {p : Bool} {a b : State} {q : Prt} (ha : a.prt = q) (hb : b.prt = q) :
      (if p = true then a else b).prt = q := by split <;> assumption
  unfold releaseEntry
  extract_lets old s1 ended s2 s3 s4
  have e1 : s1.prt = { s.prt with entries := s.prt.entries.set e { s.prt.entries[e] with latched := false, inactSince := none } } := rfl
  have e2 : s2.prt = s1.prt := refreshBridge_prt _
  have e3 : s3.prt = s1.prt := ii ((d _).trans e2) e2
  have e4 : s4.prt = s1.prt := ii ((r _ _).trans e3) e3
  have h' : ¬ (!s.prt.entries[e].latched) = true := by rw [h]; decide
  rw [if_neg h', refreshBridge_prt]
  exact ii ((r _ _).trans e4) e4
theorem clearEntry_at (s : State) (e k : Fin 64) :
    (clearEntry s e).prt.entries[k] = if e = k then { s.prt.entries[k] with latched := false, inactSince := if s.prt.entries[k].latched then none else s.prt.entries[k].inactSince, times := [] } else s.prt.entries[k] := by
  unfold clearEntry
  simp only [State.onPrt_prt]
  have q : (releaseEntry s e).prt.entries = s.prt.entries.set e { s.prt.entries[e] with latched := false, inactSince := if s.prt.entries[e].latched then none else s.prt.entries[e].inactSince } := by
    cases h : s.prt.entries[e].latched
    · have q : releaseEntry s e = s := by
        have h' : (!s.prt.entries[e].latched) = true := by rw [h] <;> rfl
        unfold releaseEntry
        rw [if_pos h']
      rw [q]
      have z : ({ s.prt.entries[e] with latched := false, inactSince := if false = true then none else s.prt.entries[e].inactSince } : EntryRec) = s.prt.entries[e] := by
        generalize s.prt.entries[e] = x at h ⊢
        cases x; simp_all
      rw [z]
      simp
    · rw [releaseEntry_entries s e h] <;> rfl
  have gen (v : Vector EntryRec 64) (q : v = s.prt.entries.set e { s.prt.entries[e] with latched := false, inactSince := if s.prt.entries[e].latched then none else s.prt.entries[e].inactSince }) :
      (v.set e { v[e] with times := [] })[k] = if e = k then { s.prt.entries[k] with latched := false, inactSince := if s.prt.entries[k].latched then none else s.prt.entries[k].inactSince, times := [] } else s.prt.entries[k] := by
    subst q
    simp only [Fin.getElem_fin, Vector.getElem_set, Fin.val_inj]
    split
    · next g => subst g; simp
    · rfl
  exact gen _ q
theorem clearAll_effect (l : List (Fin 64)) (s : State) (k : Fin 64) (h : k ∈ l) :
    (l.foldl clearEntry s).prt.entries[k].latched = false ∧ (l.foldl clearEntry s).prt.entries[k].times = [] := by
  have stay (r : List (Fin 64)) (x : State) (hx : x.prt.entries[k].latched = false ∧ x.prt.entries[k].times = []) :
      (r.foldl clearEntry x).prt.entries[k].latched = false ∧ (r.foldl clearEntry x).prt.entries[k].times = [] := by
    induction r generalizing x with
    | nil => exact hx
    | cons a r ih =>
      simp only [List.foldl_cons]
      refine ih _ ?_
      rw [clearEntry_at]
      split
      · exact ⟨rfl, rfl⟩
      · exact hx
  induction l generalizing s with
  | nil => cases h
  | cons a r ih =>
    simp only [List.foldl_cons]
    rcases List.mem_cons.mp h with rfl | h'
    · refine stay r _ ?_
      rw [clearEntry_at, if_pos rfl]
      exact ⟨rfl, rfl⟩
    · exact ih _ h'
theorem decideBypass_source (s : State) (src : Nat) (e : Option Nat) (h : s.arm.bypassed = false) :
    (decideBypass s src e).prt.bypSource = src := by
  unfold decideBypass
  rw [if_neg (by simp [h])]
  dsimp only
  rw [refreshBridge_prt]
  have k (x : State) : (x.forChains requestOpen).prt = x.prt := forChains_keep (·.prt) (fun t c => requestOpen_prt t c) x
  rw [k]
  simp only [assertClose_prt, logEvent_prt, State.onPrt_prt]
theorem onChain_at (s : State) (c k : ChainId) (f : Chain → Chain) :
    (s.onChain c f).chain k = if k = c then f (s.chain c) else s.chain k := by cases c <;> cases k <;> rfl
@[simp] theorem onChain_self (s : State) (c : ChainId) (f : Chain → Chain) : (s.onChain c f).chain c = f (s.chain c) := by
  cases c <;> rfl
@[simp] theorem onSen_self (s : State) (c : ChainId) (f : Sen → Sen) : (s.onSen c f).sen c = f (s.sen c) := by
  cases c <;> rfl
@[simp] theorem onChain_sen (s : State) (c k : ChainId) (f : Chain → Chain) : (s.onChain c f).sen k = s.sen k := by
  cases c <;> cases k <;> rfl
@[simp] theorem onSen_chain (s : State) (c k : ChainId) (f : Sen → Sen) : (s.onSen c f).chain k = s.chain k := by
  cases c <;> cases k <;> rfl
theorem chain_of {s t : State} (h : t.chA = s.chA) (h' : t.chB = s.chB) (c : ChainId) : t.chain c = s.chain c := by
  cases c <;> simpa [State.chain]
theorem sen_of {s t : State} (h : t.snA = s.snA) (h' : t.snB = s.snB) (c : ChainId) : t.sen c = s.sen c := by
  cases c <;> simpa [State.sen]
@[simp] theorem logEvent_chain (s : State) (n a b d : Nat) (c : ChainId) : (logEvent s n a b d).chain c = s.chain c := by cases c <;> rfl
@[simp] theorem logEvent_sen (s : State) (n a b d : Nat) (c : ChainId) : (logEvent s n a b d).sen c = s.sen c := by cases c <;> rfl
theorem protectiveZero_chain (s : State) (c : ChainId) (o : Bool) : ((protectiveZero s c o).chain c).st = .zeroing ∧
    ((protectiveZero s c o).chain c).iRef = some 0 ∧ (o = true → ((protectiveZero s c o).chain c).openAfter = true) ∧
    ((protectiveZero s c o).chain c).protReq.isSome = true := by
  unfold protectiveZero
  dsimp only
  rw [onChain_self]
  exact ⟨rfl, rfl, fun h => by simp [h], rfl⟩
theorem onCh_at (s : State) (n k : Fin 12) (f : LswCh → LswCh) :
    (s.onCh n f).lsw.ch[k] = if n = k then f s.lsw.ch[n] else s.lsw.ch[k] := by
  unfold State.onCh
  simp only [State.onLsw_lsw, Fin.getElem_fin, Vector.getElem_set, Fin.val_inj]
@[simp] theorem onCh_self (s : State) (n : Fin 12) (f : LswCh → LswCh) : (s.onCh n f).lsw.ch[n] = f s.lsw.ch[n] := by
  rw [onCh_at, if_pos rfl]
@[simp] theorem onCh_val (s : State) (n : Fin 12) (f : LswCh → LswCh) : (s.onCh n f).lsw.ch[n.val] = f s.lsw.ch[n.val] :=
  onCh_self s n f
theorem onCh_other (s : State) {n k : Fin 12} (f : LswCh → LswCh) (h : k ≠ n) : (s.onCh n f).lsw.ch[k] = s.lsw.ch[k] := by
  rw [onCh_at, if_neg (Ne.symm h)]
@[simp] theorem onCluster_self (s : State) (n : Fin 3) (f : ClusterRec → ClusterRec) :
    (s.onCluster n f).lsw.clusters[n] = f s.lsw.clusters[n] := by
  unfold State.onCluster; simp
@[simp] theorem onCluster_val (s : State) (n : Fin 3) (f : ClusterRec → ClusterRec) :
    (s.onCluster n f).lsw.clusters[n.val] = f s.lsw.clusters[n.val] := onCluster_self s n f
@[simp] theorem onCluster_ch (s : State) (n : Fin 3) (f : ClusterRec → ClusterRec) : (s.onCluster n f).lsw.ch = s.lsw.ch := rfl
@[simp] theorem onCh_clusters (s : State) (n : Fin 12) (f : LswCh → LswCh) : (s.onCh n f).lsw.clusters = s.lsw.clusters := rfl
theorem refreshCh_at (s : State) (n : Fin 12) :
    ((refreshCh s n).lsw.ch[n].isOn = true → s.lsw.ch[n].isOn = true ∨ s.chState n = true) ∧
    (s.chState n = false → (refreshCh s n).lsw.ch[n].isOn = false) ∧
    (s.chState n = true → s.pwr.vauxLow = false → s.lsw.ch[n].diag ≠ 2 → (refreshCh s n).lsw.ch[n].isOn = true) ∧
    (∀ k : Fin 12, k ≠ n → (refreshCh s n).lsw.ch[k] = s.lsw.ch[k]) ∧ (refreshCh s n).lsw.ch[n].rest = s.lsw.ch[n].rest ∧
    (refreshCh s n).lsw.rest = s.lsw.rest := by
  have r := refreshCh_rest s n n
  refine ⟨?_, ?_, ?_, ?_, r.1, r.2⟩
  · unfold refreshCh
    dsimp only
    cases h : s.chState n
    · split
      · rw [onCh_self]; exact Or.inl
      · rw [if_neg (by decide)]; unfold chOff; rw [onCh_self]; exact fun g => by cases g
    · exact fun _ => Or.inr rfl
  · intro h
    unfold refreshCh
    dsimp only
    rw [h]
    split
    · next g => rw [onCh_self]; simpa using g.symm
    · rw [if_neg (by decide)]; unfold chOff; rw [onCh_self]
  · intro h a b
    unfold refreshCh
    dsimp only
    rw [h]
    split
    · next g => rw [onCh_self]; simpa using g.symm
    · rw [if_pos rfl, if_neg (by rw [a]; simpa using b)]; unfold chOn; rw [onCh_self]
  · intro k hk
    unfold refreshCh
    dsimp only
    split
    · exact onCh_other _ _ hk
    · split
      · split
        · exact onCh_other _ _ hk
        · unfold chOn; exact (onCh_other _ _ hk).trans (onCh_other _ _ hk)
      · unfold chOff; exact (onCh_other _ _ hk).trans (onCh_other _ _ hk)
theorem chState_of {s t : State} (h1 : t.dev = s.dev) (h2 : t.img = s.img) (h3 : t.arm.owner = s.arm.owner) (h4 : t.arm.roleClash = s.arm.roleClash)
    (h5 : t.thm = s.thm) (n : Fin 12) (h6 : t.lsw.ch[n].rest = s.lsw.ch[n].rest) (h7 : t.lsw.clamp = s.lsw.clamp) :
    t.chState n = s.chState n := by
  have k (c : LswCh) : c.clamp = c.rest.clamp ∧ c.latched = c.rest.latched ∧ c.thermalOff = c.rest.thermalOff ∧
    c.pauseDue = c.rest.pauseDue ∧ c.shed = c.rest.shed ∧ c.want = c.rest.want := ⟨rfl, rfl, rfl, rfl, rfl, rfl⟩
  unfold State.chState State.anyHot State.hotHeater State.lswClass State.im
  dsimp only
  rw [(k t.lsw.ch[n]).1, (k t.lsw.ch[n]).2.1, (k t.lsw.ch[n]).2.2.1, (k t.lsw.ch[n]).2.2.2.1, (k t.lsw.ch[n]).2.2.2.2.1, (k t.lsw.ch[n]).2.2.2.2.2]
  rw [(k s.lsw.ch[n]).1, (k s.lsw.ch[n]).2.1, (k s.lsw.ch[n]).2.2.1, (k s.lsw.ch[n]).2.2.2.1, (k s.lsw.ch[n]).2.2.2.2.1, (k s.lsw.ch[n]).2.2.2.2.2]
  rw [h1, h2, h3, h4, h5, h6, h7]
/-- A channel that has been refreshed is on only where Table 12.3 has it on, and is on there unless VAUX is low or its load is shorted. -/
theorem refreshCh_follow (s : State) (n : Fin 12) :
    ((refreshCh s n).chState n = false → (refreshCh s n).lsw.ch[n].isOn = false) ∧
    ((refreshCh s n).chState n = true → (refreshCh s n).pwr.vauxLow = false → (refreshCh s n).lsw.ch[n].diag ≠ 2 →
      (refreshCh s n).lsw.ch[n].isOn = true) := by
  have k := refreshCh_at s n
  have e : (refreshCh s n).chState n = s.chState n :=
    chState_of (by simp) (by simp) (by simp) (by simp) (by simp) n k.2.2.2.2.1 (congrArg Lsw.clamp k.2.2.2.2.2 : _)
  have d : (refreshCh s n).lsw.ch[n].diag = s.lsw.ch[n].diag := (congrArg LswCh.diag k.2.2.2.2.1 : _)
  rw [e, d, show (refreshCh s n).pwr = s.pwr by simp]
  exact ⟨k.2.1, k.2.2.1⟩
theorem clearLatch_at (s : State) (a : Fin 12) : (∀ n : Fin 12, n ≠ a → (clearLatch s a).lsw.ch[n] = s.lsw.ch[n]) ∧
    (clearLatch s a).lsw.ch[a].latched = false ∧ (s.lsw.ch[a].latched = true → (clearLatch s a).lsw.ch[a].attempts = 0 ∧
      (clearLatch s a).lsw.ch[a].pause = 10 ∧ (clearLatch s a).lsw.ch[a].pauseDue = none) ∧
    (s.lsw.ch[a].latched = false → clearLatch s a = s) := by
  unfold clearLatch
  cases h : s.lsw.ch[a].latched
  · rw [if_neg (by decide)]
    exact ⟨fun _ _ => rfl, h, fun g => (by cases g), fun _ => rfl⟩
  · rw [if_pos rfl]
    have k := refreshCh_at (s.onCh a fun c => { c with latched := false, attempts := 0, pause := 10, pauseDue := none }) a
    have r := k.2.2.2.2.1
    rw [onCh_self] at r
    refine ⟨fun n hn => (k.2.2.2.1 n hn).trans (onCh_other _ _ hn), (congrArg LswCh.latched r : _), fun _ =>
      ⟨(congrArg LswCh.attempts r : _), (congrArg LswCh.pause r : _), (congrArg LswCh.pauseDue r : _)⟩, fun g => ?_⟩
    cases g
theorem clearLatches_at (l : List (Fin 12)) (s : State) (n : Fin 12) :
    (n ∉ l → (l.foldl clearLatch s).lsw.ch[n] = s.lsw.ch[n]) ∧
    (n ∈ l → (l.foldl clearLatch s).lsw.ch[n].latched = false ∧ (s.lsw.ch[n].latched = true →
      (l.foldl clearLatch s).lsw.ch[n].attempts = 0 ∧ (l.foldl clearLatch s).lsw.ch[n].pause = 10 ∧
      (l.foldl clearLatch s).lsw.ch[n].pauseDue = none)) ∧
    (s.lsw.ch[n].latched = false → (l.foldl clearLatch s).lsw.ch[n] = s.lsw.ch[n]) := by
  induction l generalizing s with
  | nil => exact ⟨fun _ => rfl, fun h => by (cases h), fun _ => rfl⟩
  | cons a r ih =>
    simp only [List.foldl_cons]
    have k := clearLatch_at s a
    have i := ih (clearLatch s a)
    refine ⟨fun h => ?_, fun h => ?_, fun h => ?_⟩
    · have h' : n ≠ a ∧ n ∉ r := by simpa using h
      exact (i.1 h'.2).trans (k.1 n h'.1)
    · by_cases e : n = a
      · subst e
        rw [i.2.2 k.2.1]
        exact k.2.1 |> fun q => ⟨q, k.2.2.1⟩
      · have m := i.2.1 ((List.mem_cons.mp h).resolve_left e)
        rw [k.1 n e] at m
        exact m
    · by_cases e : n = a
      · subst e
        have q := k.2.2.2 h
        rw [q] at i
        simp only [q]
        exact i.2.2 h
      · have q := k.1 n e
        exact (i.2.2 (by rw [q]; exact h)).trans q
theorem due_of {now t : Nat} {d : Option Nat} (h : d = some t) (h' : t ≤ now) : due now d = true := by
  subst h; simpa [due] using h'
theorem logEvent_cong {s x : State} (h1 : x.evt = s.evt) (h2 : eventTime x = eventTime s) (h3 : x.clock = s.clock) (a b c d : Nat)
    (h4 : hwEvent a = false ∨ x.evtWaits = s.evtWaits := by first | exact Or.inl rfl | exact Or.inr rfl | assumption) :
    (logEvent x a b c d).evt = (logEvent s a b c d).evt := by
  have h : (hwEvent a && x.evtWaits) = (hwEvent a && s.evtWaits) := by
    rcases h4 with h | h <;> rw [h]
    rw [Bool.false_and, Bool.false_and]
  unfold logEvent
  simp only [State.onEvt_evt, h1, h2, h3, h]
/-- A granted operation whose right depends on the lamp that it names. -/
theorem regCmd_grantedL {s : State} {p : Requester} {cls : OpClass} {addr : Word} {op : State → RegRes} {lamp : State → Bool}
    (g : Granted s p cls addr (lamp s)) (hph : (op s).1.dev.phase = s.dev.phase) :
    regCmd s p (fun s => withRight s p cls addr op (lamp s)) = answer (op s).1 p (op s).2 := by
  unfold regCmd withRight
  simp only [g.1, g.2, if_true, hph, beq_self_eq_true]
theorem shedChannel_effect (s : State) (cl : Fin 3) (n : Fin 12) : (shedChannel s cl n).lsw.ch[n].isOn = false ∧
    (shedChannel s cl n).lsw.ch[n].thermalOff = true ∧ (shedChannel s cl n).lsw.ch[n].coilDue = none ∧
    (shedChannel s cl n).lsw.clusters[cl] = { s.lsw.clusters[cl] with shedList := n :: s.lsw.clusters[cl].shedList, last := n.val + 1, lastShedAt := s.clock, restoring := false, nextDue := none } ∧
    (shedChannel s cl n).lsw.cntSheds = bump 8 s.lsw.cntSheds ∧ Logged s (shedChannel s cl n) 0x6007 (cl.val + 1) (n.val + 1) ∧
    ∀ k : Fin 12, k ≠ n → (shedChannel s cl n).lsw.ch[k] = s.lsw.ch[k] := by
  unfold shedChannel
  extract_lets now s1 s2
  have c1 : s1.lsw.ch[n] = { s.lsw.ch[n] with isOn := false, limiting := false, inrushDue := none, econ := false, econDue := none, lowSince := none, coilDue := none, thermalOff := true } := by
    unfold s1 chOff; rw [onCh_self, onCh_self]
  have c2 (k : Fin 12) : s2.lsw.ch[k] = s1.lsw.ch[k] := rfl
  have c3 : s2.lsw.clusters[cl] = { s.lsw.clusters[cl] with shedList := n :: s.lsw.clusters[cl].shedList, last := n.val + 1, lastShedAt := s.clock, restoring := false, nextDue := none } := by
    unfold s2; rw [onCluster_self] <;> rfl
  have c4 (k : Fin 12) (hk : k ≠ n) : s1.lsw.ch[k] = s.lsw.ch[k] := by
    unfold s1 chOff; exact (onCh_other _ _ hk).trans (onCh_other _ _ hk)
  have c5 : s2.lsw.cntSheds = s.lsw.cntSheds := rfl
  have c6 : s2.evt = s.evt ∧ s2.tim = s.tim ∧ s2.clock = s.clock ∧ s2.pwr = s.pwr := ⟨rfl, rfl, rfl, rfl⟩
  have c7 : eventTime s2 = eventTime s := by unfold eventTime; simp only [c6]
  clear_value s1 s2
  refine ⟨?_, ?_, ?_, c3, congrArg (bump 8) c5, ?_, fun k hk => ?_⟩
  · show s2.lsw.ch[n].isOn = false
    rw [c2, c1]
  · show s2.lsw.ch[n].thermalOff = true
    rw [c2, c1]
  · show s2.lsw.ch[n].coilDue = none
    rw [c2, c1]
  · exact logEvent_cong c6.1 c7 c6.2.2.1 _ _ _ _
  · show s2.lsw.ch[k] = s.lsw.ch[k]
    rw [c2]; exact c4 k hk
theorem restoreShed_effect (s : State) (cl : Fin 3) (n : Fin 12) (h4 : clusterOf n = cl) (h5 : s.lsw.clusters[cl].shedList = [n]) :
    (restoreShed s cl).lsw.ch[n].thermalOff = false ∧
    (((restoreShed s cl).chState n = false → (restoreShed s cl).lsw.ch[n].isOn = false) ∧
      ((restoreShed s cl).chState n = true → (restoreShed s cl).pwr.vauxLow = false → (restoreShed s cl).lsw.ch[n].diag ≠ 2 →
        (restoreShed s cl).lsw.ch[n].isOn = true)) ∧
    (∀ k : Fin 12, k ≠ n → (restoreShed s cl).lsw.ch[k] = s.lsw.ch[k]) ∧
    (restoreShed s cl).lsw.clusters[cl] = { s.lsw.clusters[cl] with shedList := [], restoring := false, nextDue := none } ∧
    Logged s (restoreShed s cl) 0x6008 (cl.val + 1) (n.val + 1) := by
  have u : ∀ n : Fin 12, (clusterChs (clusterOf n)).find? [n].contains = some n := by decide
  have f : (clusterChs cl).find? s.lsw.clusters[cl].shedList.contains = some n := by rw [h5, ← h4]; exact u n
  have g : [n].filter (· != n) = [] := by simp
  unfold restoreShed
  dsimp only
  split
  · next w => rw [f] at w; cases w
  · next m w =>
    rw [f] at w
    cases w
    simp only [h5, g, List.isEmpty_nil, Bool.not_true, if_true]
    have key (x : State) (c1 : x.lsw.ch[n] = { s.lsw.ch[n] with thermalOff := false }) (c2 : ∀ k : Fin 12, k ≠ n → x.lsw.ch[k] = s.lsw.ch[k])
        (c3 : x.lsw.clusters[cl] = { s.lsw.clusters[cl] with shedList := [], restoring := false, nextDue := none })
        (c6 : x.evt = s.evt ∧ x.tim = s.tim ∧ x.clock = s.clock ∧ x.pwr = s.pwr) (y : State)
        (hy : y = logEvent (refreshCh x n) 0x6008 (cl.val + 1) (n.val + 1)) :
        y.lsw.ch[n].thermalOff = false ∧ ((y.chState n = false → y.lsw.ch[n].isOn = false) ∧
          (y.chState n = true → y.pwr.vauxLow = false → y.lsw.ch[n].diag ≠ 2 → y.lsw.ch[n].isOn = true)) ∧
        (∀ k : Fin 12, k ≠ n → y.lsw.ch[k] = s.lsw.ch[k]) ∧
        y.lsw.clusters[cl] = { s.lsw.clusters[cl] with shedList := [], restoring := false, nextDue := none } ∧
        Logged s y 0x6008 (cl.val + 1) (n.val + 1) := by
      subst hy
      have c7 : eventTime (refreshCh x n) = eventTime s := by
        unfold eventTime; simp only [refreshCh_tim, refreshCh_clock, refreshCh_pwr, c6]
      have k := refreshCh_at x n
      have r := k.2.2.2.2.1
      rw [c1] at r
      refine ⟨(congrArg LswCh.thermalOff r : _), refreshCh_follow x n, fun i hi => (k.2.2.2.1 i hi).trans (c2 i hi), ?_, ?_⟩
      · refine Eq.trans ?_ c3
        have q := congrArg (fun l : Lsw => l.clusters) k.2.2.2.2.2
        have q' : (refreshCh x n).lsw.clusters = x.lsw.clusters := q
        exact congrArg (fun v : Vector ClusterRec 3 => v[cl]) q'
      · exact logEvent_cong (by rw [refreshCh_evt]; exact c6.1) c7 (by rw [refreshCh_clock]; exact c6.2.2.1) _ _ _ _
    refine key ((s.onCh n fun c => { c with thermalOff := false }).onCluster cl fun k => { k with shedList := [], restoring := false, nextDue := none })
      ?_ (fun k hk => ?_) ?_ ⟨rfl, rfl, rfl, rfl⟩ _ rfl
    · rw [onCluster_ch, onCh_self]
    · rw [onCluster_ch]; exact onCh_other _ _ hk
    · rw [onCluster_self, onCh_clusters]
theorem takes_at (tj i : Nat → Int) (l : List (Fin 12)) (s : State) (n : Fin 12) :
    (l.foldl (fun t n => takeCh (tj n.val) (i n.val) t n) s).lsw.ch[n].isOn = s.lsw.ch[n].isOn ∧
    (l.foldl (fun t n => takeCh (tj n.val) (i n.val) t n) s).lsw.clusters = s.lsw.clusters ∧
    (l.foldl (fun t n => takeCh (tj n.val) (i n.val) t n) s).lsw.cntSheds = s.lsw.cntSheds ∧
    ((n ∈ l ∨ (s.lsw.ch[n].tj = some (tj n.val) ∧ s.lsw.ch[n].i = some (i n.val))) →
      (l.foldl (fun t n => takeCh (tj n.val) (i n.val) t n) s).lsw.ch[n].tj = some (tj n.val) ∧
      (l.foldl (fun t n => takeCh (tj n.val) (i n.val) t n) s).lsw.ch[n].i = some (i n.val)) := by
  induction l generalizing s with
  | nil => exact ⟨rfl, rfl, rfl, fun h => h.resolve_left (by simp)⟩
  | cons a r ih =>
    simp only [List.foldl_cons]
    have k := ih (takeCh (tj a.val) (i a.val) s a)
    have f : (takeCh (tj a.val) (i a.val) s a).lsw.ch[n].isOn = s.lsw.ch[n].isOn := by
      unfold takeCh; dsimp only; rw [onCh_at]; split
      · next e => subst e; rfl
      · rfl
    refine ⟨k.1.trans f, k.2.1, k.2.2.1, fun h => k.2.2.2 ?_⟩
    by_cases e : a = n
    · subst e
      refine Or.inr ?_
      unfold takeCh; dsimp only; rw [onCh_self]; exact ⟨rfl, rfl⟩
    · rcases h with h | h
      · exact Or.inl ((List.mem_cons.mp h).resolve_left (Ne.symm e))
      · refine Or.inr ?_
        unfold takeCh; dsimp only; rw [onCh_other _ _ (Ne.symm e)]; exact h
/-- The samples of one cluster taken (R296), before anything is shed or restored. -/
def sampledCluster (s : State) (cl : Fin 3) (temp : Int) (tjs is : List Int) (shed : Bool) : State :=
  nextFree ((((clusterChs cl).foldl (fun t n => takeCh (tjs.getD (n.val % 4) 0) (is.getD (n.val % 4) 0) t n)
    (s.onThm fun t => { t with cluster := t.cluster.set cl (some temp) })).onCluster cl fun k =>
      { k with i := some ((clusterChs cl).foldl (fun (a : Int) n => a + is.getD (n.val % 4) 0) 0), shedding := shed }).onLsw fun l =>
    { l with pDiss := s.freeN 65 % 65536 })
theorem sampledCluster_step (s : State) (cl : Fin 3) (temp : Int) (tjs is : List Int) {shed : Bool}
    (h : (decide ((s.im.clusterShed : Int) ≤ temp) || (s.lsw.clusters[cl].shedding && decide ((s.im.clusterShed : Int) - 50 ≤ temp))) = shed) :
    execClusterSensorSample cl temp tjs is s = (if shed then .next (shedNext (sampledCluster s cl temp tjs is shed) cl)
      else if decide (temp < (s.im.clusterRestart : Int)) && !(sampledCluster s cl temp tjs is shed).lsw.clusters[cl].shedList.isEmpty &&
        !(sampledCluster s cl temp tjs is shed).lsw.clusters[cl].restoring then .next (restoreShed (sampledCluster s cl temp tjs is shed) cl)
      else .next (sampledCluster s cl temp tjs is shed)) := by
  unfold execClusterSensorSample
  dsimp only
  rw [h]
  rfl
theorem sampledCluster_effect (s : State) (cl : Fin 3) (temp : Int) (tjs is : List Int) (shed : Bool) (t : State)
    (ht : t = sampledCluster s cl temp tjs is shed) :
    t.thm = { s.thm with cluster := s.thm.cluster.set cl (some temp) } ∧
    t.lsw.clusters[cl] = { s.lsw.clusters[cl] with i := some ((clusterChs cl).foldl (fun (a : Int) n => a + is.getD (n.val % 4) 0) 0), shedding := shed } ∧
    (∀ n : Fin 12, t.lsw.ch[n].isOn = s.lsw.ch[n].isOn ∧ (clusterOf n = cl →
      t.lsw.ch[n].tj = some (tjs.getD (n.val % 4) 0) ∧ t.lsw.ch[n].i = some (is.getD (n.val % 4) 0))) ∧
    t.free = s.free + 1 ∧ t.lsw.cntSheds = s.lsw.cntSheds ∧ t.clock = s.clock ∧ t.img = s.img ∧ t.evt = s.evt ∧
    eventTime t = eventTime s ∧ t.drop 68794974208 = s.drop 68794974208 := by
  have sm (n : Fin 12) := takes_at (fun n => tjs.getD (n % 4) 0) (fun n => is.getD (n % 4) 0) (clusterChs cl)
    (s.onThm fun t => { t with cluster := t.cluster.set cl (some temp) }) n
  have kp {β : Type} (f : State → β) (h : ∀ x (a : Fin 12), f (takeCh (tjs.getD (a.val % 4) 0) (is.getD (a.val % 4) 0) x a) = f x) :=
    foldl_keep f h (clusterChs cl) (s.onThm fun t => { t with cluster := t.cluster.set cl (some temp) })
  have tk (x : State) (a : Fin 12) (j : Int) (k : Int) : (takeCh j k x a).drop 67108864 = x.drop 67108864 := takeCh_drop j k x a (by decide)
  have d := kp (·.drop 67108864) (fun x a => tk x a _ _)
  have e1 : (_ : State).thm = (_ : State).thm := same_of_drop (m := 67108864) d .thm (by decide)
  have e2 : (_ : State).free = (_ : State).free := same_of_drop (m := 67108864) d .free (by decide)
  have e3 : (_ : State).clock = (_ : State).clock := same_of_drop (m := 67108864) d .clock (by decide)
  have e4 : (_ : State).img = (_ : State).img := same_of_drop (m := 67108864) d .img (by decide)
  have e5 : (_ : State).evt = (_ : State).evt := same_of_drop (m := 67108864) d .evt (by decide)
  have e6 : (_ : State).tim = (_ : State).tim := same_of_drop (m := 67108864) d .tim (by decide)
  have e7 : (_ : State).pwr = (_ : State).pwr := same_of_drop (m := 67108864) d .pwr (by decide)
  have n0 : Fin 12 := 0
  have e8 := (sm n0).2.1
  have e9 := (sm n0).2.2.1
  unfold sampledCluster at ht
  have m (n : Fin 12) (h : clusterOf n = cl) : n ∈ clusterChs cl := by unfold clusterChs; simpa using h
  have f : t.drop 68794974208 = s.drop 68794974208 := by
    rw [ht]
    have k0 (x : State) : (State.onThm s fun t => { t with cluster := t.cluster.set cl (some temp) }).drop 68794974208 = s.drop 68794974208 := by
      simp only [↓State.onThm_drop, Nat.reduceAnd, implies_true, or_true, true_or]
    have d' := foldl_keep (·.drop 68794974208) (fun x (a : Fin 12) => takeCh_drop (tjs.getD (a.val % 4) 0) (is.getD (a.val % 4) 0) x a (by decide)) (clusterChs cl) (s.onThm fun t => { t with cluster := t.cluster.set cl (some temp) })
    refine Eq.trans ?_ (d'.trans (k0 s))
    simp only [↓nextFree_drop, ↓State.onLsw_drop, ↓State.onCluster_drop, Nat.reduceAnd, implies_true, or_true, true_or]
  have cx (x : State) (g : ClusterRec → ClusterRec) : (x.onCluster cl g).thm = x.thm ∧ (x.onCluster cl g).free = x.free ∧
    (x.onCluster cl g).clock = x.clock ∧ (x.onCluster cl g).img = x.img ∧ (x.onCluster cl g).evt = x.evt ∧ (x.onCluster cl g).tim = x.tim ∧
    (x.onCluster cl g).pwr = x.pwr ∧ (x.onCluster cl g).lsw.cntSheds = x.lsw.cntSheds := ⟨rfl, rfl, rfl, rfl, rfl, rfl, rfl, rfl⟩
  subst ht
  refine ⟨?_, ?_, fun n => ⟨?_, fun h => ?_⟩, ?_, ?_, ?_, ?_, ?_, ?_, f⟩
  · rw [nextFree_thm, State.onLsw_thm, (cx _ _).1, e1] <;> rfl
  · rw [nextFree_lsw, State.onLsw_lsw]
    dsimp only
    rw [onCluster_self, e8]
    rfl
  · rw [nextFree_lsw, State.onLsw_lsw]; exact (sm n).1
  · rw [nextFree_lsw, State.onLsw_lsw]; exact (sm n).2.2.2 (Or.inl (m n h))
  · show State.free _ + 1 = _
    rw [State.onLsw_free, (cx _ _).2.1, e2] <;> rfl
  · rw [nextFree_lsw, State.onLsw_lsw]; exact e9
  · rw [nextFree_clock, State.onLsw_clock, (cx _ _).2.2.1, e3] <;> rfl
  · rw [nextFree_img, State.onLsw_img, (cx _ _).2.2.2.1, e4] <;> rfl
  · rw [nextFree_evt, State.onLsw_evt, (cx _ _).2.2.2.2.1, e5] <;> rfl
  · unfold eventTime
    simp only [nextFree_tim, nextFree_clock, nextFree_pwr, State.onLsw_tim, State.onLsw_clock, State.onLsw_pwr, cx, e3, e6, e7]
    rfl
theorem settle_quiet {s : State} (h : s.lbus.st = .active) (h1 : s.lbus.txErr ≤ 127) (h2 : s.lbus.rxErr ≤ 127) : settleErr s = s := by
  have d : decide (127 < s.lbus.txErr ∨ 127 < s.lbus.rxErr) = false := by simp; omega
  unfold settleErr
  dsimp only
  rw [d, h, if_neg (by decide), if_neg (by decide)]
theorem settle_passive {s : State} (h : s.lbus.st = .active) (h1 : 127 < s.lbus.txErr ∨ 127 < s.lbus.rxErr) :
    settleErr s = logEvent (s.onLbus fun b => { b with st := .passive, cntPassive := bump 8 b.cntPassive }) 0x7001
      (min s.lbus.txErr 255) (min s.lbus.rxErr 255) := by
  unfold settleErr
  dsimp only
  rw [decide_eq_true h1, h, if_pos (by decide)]
theorem onBuf_at (s : State) (b k : Fin 16) (f : TxBuf → TxBuf) :
    (onBuf s b f).lbus.bufs[k] = if b = k then f s.lbus.bufs[b] else s.lbus.bufs[k] := by
  unfold onBuf
  simp only [State.onLbus_lbus, Fin.getElem_fin, Vector.getElem_set, Fin.val_inj]
theorem endBuf_at (s : State) (b k : Fin 16) :
    (endBuf s b).lbus.bufs[k] = if b = k then {} else s.lbus.bufs[k] := by
  unfold endBuf
  simp only [State.onLbus_lbus, Fin.getElem_fin, Vector.getElem_set, Fin.val_inj]
theorem endBufs_at (bs : List (Fin 16)) (s : State) (b : Fin 16) (h : b ∉ bs) :
    (bs.foldl endBuf s).lbus.bufs[b] = s.lbus.bufs[b] ∧ (bs.foldl endBuf s).lbus.tdcRange = s.lbus.tdcRange ∧
    (bs.foldl endBuf s).lbus.sent = s.lbus.sent := by
  induction bs generalizing s with
  | nil => exact ⟨rfl, rfl, rfl⟩
  | cons c cs ih =>
    simp only [List.mem_cons, not_or] at h
    have k := ih (endBuf s c) h.2
    exact ⟨k.1.trans ((endBuf_at s c b).trans (if_neg fun e => h.1 e.symm)), k.2⟩
/-- The loop delay out of range: TDC_RANGE sets, and a free buffer stays free. -/
theorem loopDelayBad_effect (s : State) (ns : Nat) (b : Fin 16) (h : s.lbus.bufs[b].st = 0) :
    (loopDelayBad s ns).lbus.tdcRange = true ∧ (loopDelayBad s ns).lbus.bufs[b] = s.lbus.bufs[b] ∧
    (loopDelayBad s ns).lbus.sent = s.lbus.sent := by
  unfold loopDelayBad
  extract_lets brs s1
  have n : b ∉ (List.finRange 16).filter brs := by
    rw [List.mem_filter]
    intro q
    have q := q.2
    unfold brs at q
    split at q
    · rw [decide_eq_false (by omega), Bool.false_and] at q; cases q
    · cases q
  have k := endBufs_at _ (s.onLbus fun b => { b with tdcRange := true }) b n
  have w : (logWide s1 0x700A ns).lbus = s1.lbus := by simp
  rw [w]
  exact ⟨k.2.1, k.1, k.2.2⟩
theorem cancelBuf_at (s : State) (b k : Fin 16) : (cancelBuf s b).lbus.bufs[k] =
    if b = k then (if s.lbus.bufs[k].st = 1 then {} else if s.lbus.bufs[k].st = 2 then { s.lbus.bufs[k] with cancel := true } else s.lbus.bufs[k])
    else s.lbus.bufs[k] := by
  unfold cancelBuf
  split
  · next h => rw [endBuf_at]; split
              · next e => subst e; rw [if_pos h]
              · rfl
  · next h => rw [onBuf_at]; split
              · next e => subst e; rw [if_neg (by rw [h]; decide), if_pos h]
              · rfl
  · next h1 h2 =>
    split
    · next e => subst e; rw [if_neg h1, if_neg h2]
    · rfl
theorem cancelBufs_at (l : List (Fin 16)) (s : State) (k : Fin 16) :
    (k ∉ l → (l.foldl cancelBuf s).lbus.bufs[k] = s.lbus.bufs[k]) ∧
    (k ∈ l → (l.foldl cancelBuf s).lbus.bufs[k] = if s.lbus.bufs[k].st = 1 then {} else if s.lbus.bufs[k].st = 2 then
      { s.lbus.bufs[k] with cancel := true } else s.lbus.bufs[k]) := by
  induction l generalizing s with
  | nil => exact ⟨fun _ => rfl, fun h => (by cases h)⟩
  | cons a r ih =>
    simp only [List.foldl_cons]
    have i := ih (cancelBuf s a)
    have c := cancelBuf_at s a k
    refine ⟨fun h => ?_, fun h => ?_⟩
    · have h' : k ≠ a ∧ k ∉ r := by simpa using h
      rw [i.1 h'.2, c, if_neg (Ne.symm h'.1)]
    · by_cases m : k ∈ r
      · rw [i.2 m, c]
        by_cases e : a = k
        · rw [if_pos e]
          generalize s.lbus.bufs[k] = x
          by_cases h1 : x.st = 1
          · simp only [h1, if_true]; rfl
          · by_cases h2 : x.st = 2
            · simp only [h1, h2, if_true, if_false]; rfl
            · simp only [h1, h2, if_false]
        · rw [if_neg e]
      · rw [i.1 m, c, if_pos]
        exact ((List.mem_cons.mp h).resolve_right m).symm
theorem onTm_self (s : State) (c : ChainId) (m : Fin 32) (f : ThmMod → ThmMod) : (onTm s c m f).tm c m = f (s.tm c m) := by
  cases c <;> simp [onTm, State.tm]
theorem onTm_other (s : State) {c k : ChainId} {m j : Fin 32} (f : ThmMod → ThmMod) (h : (k, j) ≠ (c, m)) :
    (onTm s c m f).tm k j = s.tm k j := by
  cases c <;> cases k <;> simp [onTm, State.tm]
  · have e : m.val ≠ j.val := fun e => h (by rw [Fin.ext e])
    simp [e]
  · have e : m.val ≠ j.val := fun e => h (by rw [Fin.ext e])
    simp [e]
theorem setWant_want (s : State) (n : Fin 12) (on : Bool) : (setWant s n on).lsw.ch[n].want = on := by
  unfold setWant
  have k := (refreshCh_at (s.onCh n fun c => if on = true then { c with want := true } else { c with want := false, attempts := 0, pause := 10, pauseDue := none }) n).2.2.2.2.1
  have q := congrArg LswCh.want k
  refine (q : _).trans ?_
  show (State.onCh s n _).lsw.ch[n].want = on
  rw [onCh_self]
  cases on <;> rfl
theorem setHeater_effect (s : State) (n : Fin 12) (st : HeatSt) : (setHeater s n st).thm.heat = s.thm.heat.set n st ∧
    (setHeater s n st).thm.heatForce = s.thm.heatForce ∧ (setHeater s n st).thm.heatDue = s.thm.heatDue ∧
    (setHeater s n st).thm.heatLast = s.thm.heatLast ∧ (setHeater s n st).lsw.ch[n].want = heatOnSt st := by
  unfold setHeater
  dsimp only
  have w := setWant_want (s.onThm fun t => { t with heat := t.heat.set n st }) n (heatOnSt st)
  have q : (setWant (s.onThm fun t => { t with heat := t.heat.set n st }) n (heatOnSt st)).thm = { s.thm with heat := s.thm.heat.set n st } := by
    simp
  generalize setWant (s.onThm fun t => { t with heat := t.heat.set n st }) n (heatOnSt st) = x at w q
  split
  · rw [q]; exact ⟨rfl, rfl, rfl, rfl, w⟩
  · simp only [logEvent_thm, State.onThm_thm, logEvent_lsw, State.onThm_lsw, q]; exact ⟨trivial, trivial, trivial, trivial, w⟩
theorem settleHeater_force (s : State) (n : Fin 12) : (settleHeater s n).thm.heatForce = s.thm.heatForce := by
  unfold settleHeater
  dsimp only
  split
  · rfl
  · exact (setHeater_effect s n _).2.1
theorem staggerHeater_force (s : State) : (staggerHeater s).thm.heatForce = s.thm.heatForce := by
  have ii {p : Prop} [Decidable p] {a b : State} (ha : a.thm.heatForce = s.thm.heatForce) (hb : b.thm.heatForce = s.thm.heatForce) :
      (if p then a else b).thm.heatForce = s.thm.heatForce := by split <;> assumption
  unfold staggerHeater
  dsimp only
  generalize s.heatersDue = l
  cases l with
  | nil => rfl
  | cons n ns => exact ii (setHeater_effect s n _).2.1 rfl
/-- The shutdowns in force. -/
def State.shutdowns (s : State) : Bool × Bool × Bool × Bool := (s.thm.sdHotA, s.thm.sdHotB, s.thm.sdColdA, s.thm.sdColdB)
theorem shutdowns_of {s t : State} (h : Block.shutdown.same s t) : t.shutdowns = s.shutdowns := by
  unfold State.shutdowns
  rw [h.1, h.2.1, h.2.2.1, h.2.2.2]
theorem hot_of {s t : State} (h : t.shutdowns = s.shutdowns) (k : ChainId) : t.hot k = s.hot k ∧ t.cold k = s.cold k := by
  unfold State.shutdowns at h
  simp only [Prod.mk.injEq] at h
  cases k <;> simp [State.hot, State.cold, h]
theorem endShutdown_shutdown (s : State) (c k : ChainId) (h : Bool) :
    (endShutdown s c h).hot k = (s.hot k && !(h && k == c)) ∧ (endShutdown s c h).cold k = (s.cold k && !(!h && k == c)) := by
  unfold endShutdown
  extract_lets s1 mine s2 s3
  have e1 : s1.hot k = (s.hot k && !(h && k == c)) ∧ s1.cold k = (s.cold k && !(!h && k == c)) := by
    unfold s1
    cases c <;> cases k <;> cases h <;> simp [State.hot, State.cold]
  have e2 : s2.shutdowns = s1.shutdowns := by
    unfold s2
    split <;>
      exact shutdowns_of (same_of_drop (m := 8598323200) (tillRecord_drop _ _ _ _ _ _ _ _ (by decide)) .shutdown (by decide))
  have e3 : s3.shutdowns = s2.shutdowns := by
    unfold s3
    split
    · rfl
    · unfold State.shutdowns; rw [endHeld_thm]
  have e4 : (refreshLoads (logEvent s3 0x5009 c.num (if h then 1 else 2))).shutdowns = s3.shutdowns := by
    unfold State.shutdowns; rw [refreshLoads_thm, logEvent_thm]
  have e := hot_of (e4.trans (e3.trans e2)) k
  exact ⟨e.1.trans e1.1, e.2.trans e1.2⟩
theorem logEvent_tm (s : State) (n a b d : Nat) (c : ChainId) (m : Fin 32) : (logEvent s n a b d).tm c m = s.tm c m := by cases c <;> rfl
theorem answer_hot (s : State) (p : Requester) (c : Nat) (k : ChainId) : (answer s p c).hot k = s.hot k ∧ (answer s p c).cold k = s.cold k := by
  cases k <;> exact ⟨rfl, rfl⟩
@[simp] theorem onEs_self (s : State) (c : ChainId) (f : EstCh → EstCh) : (s.onEs c f).es c = f (s.es c) := by cases c <;> rfl
theorem onEs_at (s : State) (c k : ChainId) (f : EstCh → EstCh) : (s.onEs c f).es k = if k = c then f (s.es c) else s.es k := by
  cases c <;> cases k <;> rfl
@[simp] theorem onEs_chain (s : State) (c k : ChainId) (f : EstCh → EstCh) : (s.onEs c f).chain k = s.chain k := by cases c <;> cases k <;> rfl
@[simp] theorem onEs_sen (s : State) (c k : ChainId) (f : EstCh → EstCh) : (s.onEs c f).sen k = s.sen k := by cases c <;> cases k <;> rfl
@[simp] theorem onChain_es (s : State) (c k : ChainId) (f : Chain → Chain) : (s.onChain c f).es k = s.es k := by cases c <;> cases k <;> rfl
@[simp] theorem onSen_es (s : State) (c k : ChainId) (f : Sen → Sen) : (s.onSen c f).es k = s.es k := by cases c <;> cases k <;> rfl
@[simp] theorem onEst_es (s : State) (k : ChainId) (f : Est → Est) : (s.onEst f).es k = s.es k := by cases k <;> rfl
@[simp] theorem onEst_chain (s : State) (k : ChainId) (f : Est → Est) : (s.onEst f).chain k = s.chain k := by cases k <;> rfl
@[simp] theorem onEst_sen (s : State) (k : ChainId) (f : Est → Est) : (s.onEst f).sen k = s.sen k := by cases k <;> rfl
@[simp] theorem logEvent_es (s : State) (n a b d : Nat) (k : ChainId) : (logEvent s n a b d).es k = s.es k := by cases k <;> rfl
theorem es_of {s t : State} (h : t.esA = s.esA) (h' : t.esB = s.esB) (c : ChainId) : t.es c = s.es c := by
  cases c <;> simpa [State.es]
@[simp] theorem send_es (s : State) (o : Out) (k : ChainId) : (send s o).es k = s.es k := by cases k <;> rfl
@[simp] theorem send_sen (s : State) (o : Out) (k : ChainId) : (send s o).sen k = s.sen k := by cases k <;> rfl
@[simp] theorem send_chain (s : State) (o : Out) (k : ChainId) : (send s o).chain k = s.chain k := by cases k <;> rfl
theorem onAcc_at (s : State) (c k : ChainId) (m j : Fin 32) (f : EstMod → EstMod) :
    ((s.onAcc c m f).es k).mods[j] = if k = c ∧ m = j then f (s.es c).mods[m] else (s.es k).mods[j] := by
  unfold State.onAcc
  rw [onEs_at]
  by_cases h : k = c
  · subst h
    simp only [if_true, true_and, Fin.getElem_fin, Vector.getElem_set, Fin.val_inj]
  · rw [if_neg h, if_neg (fun q => h q.1)]
@[simp] theorem onAcc_self (s : State) (c : ChainId) (m : Fin 32) (f : EstMod → EstMod) :
    ((s.onAcc c m f).es c).mods[m] = f (s.es c).mods[m] := by rw [onAcc_at, if_pos ⟨rfl, rfl⟩]
theorem onAcc_other (s : State) (c : ChainId) {m j : Fin 32} (f : EstMod → EstMod) (h : j ≠ m) :
    ((s.onAcc c m f).es c).mods[j] = (s.es c).mods[j] := by rw [onAcc_at, if_neg (fun q => h q.2.symm)]
theorem onAcc_q (s : State) (c k : ChainId) (m j : Fin 32) (f : EstMod → EstMod) (h : ∀ a, (f a).q = a.q) :
    ((s.onAcc c m f).es k).mods[j].q = (s.es k).mods[j].q := by
  rw [onAcc_at]
  split
  · next e => obtain ⟨rfl, rfl⟩ := e; exact h _
  · rfl
theorem onCell_q (s : State) (c k : ChainId) (m n j : Fin 32) (f : CellAcc → CellAcc) :
    ((s.onCell c m n f).es k).mods[j].q = (s.es k).mods[j].q := onAcc_q s c k m j _ (fun _ => rfl)
@[simp] theorem onCell_self (s : State) (c : ChainId) (m k : Fin 32) (f : CellAcc → CellAcc) :
    ((s.onCell c m k f).es c).mods[m].cells[k] = f (s.es c).mods[m].cells[k] := by
  have h := onAcc_self s c m (fun a => { a with cells := a.cells.set k (f a.cells[k]) })
  have q := congrArg (fun x : EstMod => x.cells[k]) h
  refine (q : _).trans ?_
  simp
/-- A reading of the accounts of a chain that no change of one module moves, unless it moves the charge of the module. -/
def KeepsQ {β : Type} (g : EstCh → β) : Prop :=
  ∀ (e : EstCh) (m : Fin 32) (f : EstMod → EstMod), (∀ a, (f a).q = a.q) → g { e with mods := e.mods.set m (f e.mods[m]) } = g e
theorem keepsQ_q (j : Fin 32) : KeepsQ fun e => e.mods[j].q := by
  intro e m f h
  by_cases k : m = j
  · subst k; simpa using h _
  · have n : m.val ≠ j.val := fun q => k (Fin.ext q)
    simp [n]
theorem keepsQ_head : KeepsQ fun e => (e.accSeen, e.seenAt, e.sleepMs, e.vnrCurrent, e.cci) := fun _ _ _ _ => rfl
section
variable {β : Type} {g : EstCh → β} (H : KeepsQ g)
include H
theorem onAcc_g (s : State) (c i : ChainId) (m : Fin 32) (f : EstMod → EstMod) (h : ∀ a, (f a).q = a.q) :
    g ((s.onAcc c m f).es i) = g (s.es i) := by
  unfold State.onAcc
  rw [onEs_at]
  split
  · next e => subst e; exact H _ _ _ h
  · rfl
theorem onCell_g (s : State) (c i : ChainId) (m n : Fin 32) (f : CellAcc → CellAcc) :
    g ((s.onCell c m n f).es i) = g (s.es i) := onAcc_g H s c i m _ (fun _ => rfl)
theorem disqualify_g (s : State) (c : ChainId) (m k : Fin 32) (w : Nat) (i : ChainId) :
    g ((disqualify s c m k w).es i) = g (s.es i) := by
  unfold disqualify
  extract_lets s1 s2 s3
  have e : g (s3.es i) = g (s.es i) :=
    (congrArg g ((logEvent_es _ _ _ _ _ i).trans (onEst_es _ i _))).trans (onAcc_g H s c i m _ (fun _ => rfl))
  split
  · exact (congrArg g (es_of (by simp) (by simp) i)).trans e
  · exact e
theorem closeDisqualified_g (s : State) (c : ChainId) (m k : Fin 32) (w : Nat) (i : ChainId) :
    g ((closeDisqualified s c m k w).es i) = g (s.es i) := by
  unfold closeDisqualified
  split
  · exact (disqualify_g H _ _ _ _ _ _).trans (onCell_g H s c i m k _)
  · exact onCell_g H s c i m k _
theorem reanchor_g (s : State) (c : ChainId) (m k : Fin 32) (f : Bool) (i : ChainId) :
    g ((reanchor s c m k f).es i) = g (s.es i) := by
  unfold reanchor
  extract_lets s1 s2 s3
  have e1 : g (s1.es i) = g (s.es i) := closeDisqualified_g H _ _ _ _ _ _
  have e2 : g (s2.es i) = g (s1.es i) := onCell_g H s1 c i m k _
  have e3 : g (s3.es i) = g (s2.es i) := onAcc_g H s2 c i m _ (fun a => by split <;> rfl)
  exact (congrArg g ((logEvent_es _ _ _ _ _ i).trans (onEst_es _ i _))).trans (e3.trans (e2.trans e1))
theorem conflictCell_g (c : ChainId) (m : Fin 32) (s : State) (k : Fin 32) (i : ChainId) :
    g ((conflictCell c m s k).es i) = g (s.es i) := by
  have lg (t : State) (f : CellAcc → CellAcc) (n a b d : Nat) : g ((logEvent (t.onCell c m k f) n a b d).es i) = g (t.es i) :=
    (congrArg g (logEvent_es _ _ _ _ _ i)).trans (onCell_g H t c i m k f)
  unfold conflictCell
  dsimp only
  split
  · rfl
  · have e := onCell_g H s c i m k fun x => { x with crossed := 0 }
    split
    · split
      · exact (lg _ _ _ _ _ _).trans e
      · exact e
    · split
      · split
        · exact (lg _ _ _ _ _ _).trans e
        · exact e
      · rfl
theorem limitCell_g (c : ChainId) (m : Fin 32) (s : State) (k : Fin 32) (i : ChainId) :
    g ((limitCell c m s k).es i) = g (s.es i) := by
  unfold limitCell
  dsimp only
  have ii {p : Prop} [Decidable p] {a b : State} {x : β} (ha : g (a.es i) = x) (hb : g (b.es i) = x) : g ((if p then a else b).es i) = x := by
    split <;> assumption
  exact ii ((reanchor_g H _ _ _ _ _ _).trans (ii (reanchor_g H _ _ _ _ _ _) rfl)) (ii (reanchor_g H _ _ _ _ _ _) rfl)
theorem judgeAccount_g (c : ChainId) (ts : Nat) (s : State) (m : Fin 32) (i : ChainId) :
    g ((judgeAccount c ts s m).es i) = g (s.es i) := by
  unfold judgeAccount
  dsimp only
  split
  · rfl
  · have rh (t : State) : g ((releaseHold t c m).es i) = g (t.es i) := by
      unfold releaseHold; exact onAcc_g H t c i m _ (fun _ => rfl)
    refine (rh _).trans ?_
    exact (foldl_keep (fun t => g (t.es i)) (fun t a => limitCell_g H c m t a i) _ _).trans
      (foldl_keep (fun t => g (t.es i)) (fun t a => conflictCell_g H c m t a i) _ _)
end
/-- The charge of one module. -/
def State.qOf (s : State) (c : ChainId) (m : Fin 32) : Int := (s.es c).mods[m].q
theorem foldl_at {β : Type} (g : State → Fin 32 → β) {f : State → Fin 32 → State} {m : Fin 32} {x : State → β}
    (h : ∀ t a, a ≠ m → g (f t a) m = g t m ∧ x (f t a) = x t) (h' : ∀ t, g (f t m) m = x t)
    (l : List (Fin 32)) (nd : l.Nodup) (s : State) :
    (m ∈ l → g (l.foldl f s) m = x s) ∧ (m ∉ l → g (l.foldl f s) m = g s m) := by
  induction l generalizing s with
  | nil => exact ⟨fun q => (by cases q), fun _ => rfl⟩
  | cons a r ih =>
    have nr := List.nodup_cons.mp nd
    simp only [List.foldl_cons]
    have i := ih nr.2 (f s a)
    refine ⟨fun q => ?_, fun q => ?_⟩
    · by_cases e : a = m
      · rw [e] at nr i ⊢
        rw [i.2 nr.1]; exact h' s
      · rw [i.1 ((List.mem_cons.mp q).resolve_left (Ne.symm e))]; exact (h s a e).2
    · have q' : m ≠ a ∧ m ∉ r := by simpa using q
      rw [i.2 q'.2]; exact (h s a (Ne.symm q'.1)).1
theorem modIdx_nodup (s : State) : s.modIdx.Nodup := by
  unfold State.modIdx
  exact (List.nodup_finRange 32).filter _
theorem mem_modIdx {s : State} {m : Fin 32} : m ∈ s.modIdx ↔ m.val < s.nMods := by unfold State.modIdx; simp
theorem moduleCharge_of {s t : State} {c : ChainId} (h1 : t.sen c = s.sen c) (h2 : t.chain c = s.chain c) (h3 : t.img = s.img)
    (x : Snapshot) (m : Fin 32) : t.moduleCharge c x m = s.moduleCharge c x m := by
  unfold State.moduleCharge State.appliedSets State.gatedSets State.gatedSet State.sampledAt State.tM State.im
  rw [h1, h2, h3]
theorem mem_present {s : State} {c : ChainId} {m : Fin 32} :
    m ∈ s.present c ↔ m.val < s.nMods ∧ (s.es c).mods[m].absentAt.isNone = true := by
  unfold State.present
  rw [List.mem_filter, mem_modIdx]
theorem countModule_fold (c : ChainId) (x : Snapshot) (total drain : Int) (s : State) (m : Fin 32) (hm : m.val < s.nMods) :
    ((s.present c).foldl (countModule c x total drain) s).qOf c m =
      if (s.es c).mods[m].absentAt.isSome then s.qOf c m else s.qOf c m + s.moduleCharge c x m := by
  have nd : (s.present c).Nodup := (modIdx_nodup s).filter _
  have k := foldl_at (fun (t : State) j => t.qOf c j) (f := countModule c x total drain) (m := m)
    (x := fun t => t.qOf c m + t.moduleCharge c x m) ?_ ?_ (s.present c) nd s
  · cases h : (s.es c).mods[m].absentAt with
    | none => exact k.1 (mem_present.mpr ⟨hm, by rw [h] <;> rfl⟩)
    | some _ => exact k.2 fun q => by have q := (mem_present.mp q).2; rw [h] at q; cases q
  · intro t a ha
    have mods : ((countModule c x total drain t a).es c).mods[m] = (t.es c).mods[m] := onAcc_other t c _ (Ne.symm ha)
    have fr : (countModule c x total drain t a).sen c = t.sen c ∧ (countModule c x total drain t a).chain c = t.chain c ∧
        (countModule c x total drain t a).img = t.img := by
      unfold countModule
      cases c <;> exact ⟨rfl, rfl, rfl⟩
    have q : (countModule c x total drain t a).qOf c m = t.qOf c m := congrArg EstMod.q mods
    refine ⟨q, ?_⟩
    rw [q, moduleCharge_of fr.1 fr.2.1 fr.2.2]
  · intro t
    exact congrArg EstMod.q (onAcc_self t c m _)
theorem anchorCell_effect (s : State) (c : ChainId) (m k : Fin 32) (full : Bool) (t : State) (ht : t = (anchorCell s c m k full).1) :
    (let x := (t.es c).mods[m].cells[k]
     x.cRef = (if full then x.cap * 1000 else 0) ∧ x.qRef = x.q ∧ x.unc = some (x.uncOf 5) ∧ x.openQ = some x.q ∧ x.openFull = full ∧
     x.fullSince = none ∧ x.emptySince = none ∧ (full = false → x.hold = true)) ∧
    (t.es c).mods[m].lastAnchor = (if full then 1 else 2) ∧ (full = false → (t.es c).mods[m].emptyHold = true) ∧
    t.est.stateDue = true := by
  unfold anchorCell at ht
  extract_lets a cf r s1 s2 s3 at ht
  have e1 : (s1.es c).mods[m].cells[k] = { (((r.1.es c).mods[m].cells[k].anchor full).openCycle full).settle with hold := !full || (r.1.es c).mods[m].cells[k].hold, anchored := true } :=
    onCell_self r.1 c m k _
  have e2 : (s2.es c).mods[m] = { (s1.es c).mods[m] with lastAnchor := if full then 1 else 2, emptyHold := (s1.es c).mods[m].emptyHold || !full, overmax := false, floor := false } :=
    onAcc_self s1 c m _
  have e3 : (s3.es c).mods[m].cells = (s2.es c).mods[m].cells ∧ (s3.es c).mods[m].lastAnchor = (s2.es c).mods[m].lastAnchor ∧
      (s3.es c).mods[m].emptyHold = (s2.es c).mods[m].emptyHold := by
    unfold s3; split
    · rw [onAcc_self]; exact ⟨rfl, rfl, rfl⟩
    · exact ⟨rfl, rfl, rfl⟩
  have e4 : (t.es c) = s3.es c := by rw [ht]; exact (logEvent_es _ _ _ _ _ c).trans (onEst_es _ c _)
  have e5 : (t.es c).mods[m].cells[k] = (s1.es c).mods[m].cells[k] := by
    rw [e4]
    have q : (s3.es c).mods[m].cells = (s1.es c).mods[m].cells := by rw [e3.1, e2]
    exact congrArg (fun v : Vector CellAcc 32 => v[k]) q
  have e6 : t.est.stateDue = true := by rw [ht] <;> rfl
  dsimp only
  rw [e5, e1, e4, e3.2.1, e3.2.2, e2]
  refine ⟨⟨?_, rfl, ?_, rfl, rfl, rfl, rfl, fun h => ?_⟩, rfl, fun h => ?_, e6⟩
  · cases full <;> rfl
  · rfl
  · rw [h] <;> rfl
  · rw [h]; simp
theorem followAnchor_es (s : State) (c k : ChainId) (m : Fin 32) (full : Bool) : (followAnchor s c m full).es k = s.es k ∧
    (followAnchor s c m full).est = s.est := by
  have lp (n : Nat) : (learnPhase s c n).es k = s.es k ∧ (learnPhase s c n).est = s.est := by
    unfold learnPhase
    exact ⟨(logEvent_es _ _ _ _ _ _).trans (onChain_es _ _ _ _), by cases c <;> rfl⟩
  unfold followAnchor
  dsimp only
  split
  · exact lp 2
  · split
    · exact lp 3
    · exact ⟨rfl, rfl⟩
theorem resetModule_effect (s : State) (c : ChainId) (m : Fin 32) (w : Nat) (t : State) (ht : t = resetModule s c m w) :
    (t.es c).mods[m].swapped = true ∧ (t.es c).mods[m].accepted = 0 ∧ (t.es c).mods[m].lastAnchor = 0 ∧
    (t.es c).mods[m].absentAt = none ∧ (∀ k : Fin 32, k.val < t.nCells →
      (t.es c).mods[m].cells[k].cap = t.plateOf c m 0 ∧ (t.es c).mods[m].cells[k].content = t.plateOf c m 0 * 500 ∧
      (t.es c).mods[m].cells[k].openQ = none ∧ (t.es c).mods[m].cells[k].unc = some (t.plateOf c m 0 * 100000)) ∧
    t.est.stateDue = true := by
  unfold resetModule at ht
  extract_lets s1 r s2 cap n s3 at ht
  have e3 : (s3.es c).mods[m] = { (s2.es c).mods[m] with swapped := true, accepted := 0, lastAnchor := 0, emptyHold := false, overmax := false, floor := false, absentHeld := false, absentAt := none, cells := Vector.ofFn fun (k : Fin 32) => if k.val < n then (s2.es c).mods[m].cells[k].reset cap else (s2.es c).mods[m].cells[k] } :=
    onAcc_self s2 c m _
  have e4 : (t.es c) = s3.es c := by rw [ht]; exact (logEvent_es _ _ _ _ _ c).trans (onEst_es _ c _)
  have e6 : t.est.stateDue = true := by rw [ht] <;> rfl
  have i3 : s3.img = s2.img := by unfold s3; cases c <;> rfl
  have i2 : s2.img = s1.img := by unfold s2; cases c <;> rfl
  have i1 : s1.img = s.img := (same_of_drop (m := 12967968768) (closeModule_drop s c 10 m (by decide)) .img (by decide))
  have it : t.img = s2.img := by rw [ht, ← i3] <;> rfl
  have p : t.plateOf c m 0 = cap := by
    unfold cap State.plateOf State.im
    rw [it, e4, e3]
  have nn : t.nCells = n := by unfold n State.nCells State.im; rw [it, i2, i1]
  rw [p, nn]
  refine ⟨?_, ?_, ?_, ?_, fun k hk => ?_, e6⟩
  · rw [e4, e3]
  · rw [e4, e3]
  · rw [e4, e3]
  · rw [e4, e3]
  · have z : (t.es c).mods[m].cells[k] = (s2.es c).mods[m].cells[k].reset cap := by
      rw [e4, e3]
      show (Vector.ofFn fun (k : Fin 32) => if k.val < n then (s2.es c).mods[m].cells[k].reset cap else (s2.es c).mods[m].cells[k])[k] = _
      simp only [Fin.getElem_fin, Vector.getElem_ofFn, Fin.eta]
      exact if_pos hk
    rw [z]
    generalize (s2.es c).mods[m].cells[k] = y
    unfold CellAcc.reset CellAcc.settle CellAcc.content CellAcc.uncOf
    refine ⟨rfl, ?_, rfl, ?_⟩
    · simp
    · simp; omega
theorem refresh_es (s : State) (c : ChainId) (t : State) (ht : t = refreshVeneer (refreshSoc s c) c) :
    (t.es c).mods = (s.es c).mods ∧ (t.es c).accSeen = (s.es c).accSeen ∧ (t.es c).seenAt = (s.es c).seenAt ∧
    (t.es c).sleepMs = (s.es c).sleepMs ∧ (t.es c).vnrCurrent = (s.es c).vnrCurrent ∧ (t.es c).cci = (s.es c).cci := by
  subst ht
  unfold refreshVeneer
  split
  · rw [onEs_self]; unfold refreshSoc; rw [onEs_self]; exact ⟨rfl, rfl, rfl, rfl, rfl, rfl⟩
  · unfold refreshSoc; rw [onEs_self]; exact ⟨rfl, rfl, rfl, rfl, rfl, rfl⟩
theorem onRec_at (s : State) (c k : ChainId) (m j : Fin 32) (f : SenRec → SenRec) :
    ((s.onRec c m f).sen k).recs[j] = if k = c ∧ m = j then f (s.sen c).recs[m] else (s.sen k).recs[j] := by
  have at' (x : State) (g : Sen → Sen) : (x.onSen c g).sen k = if k = c then g (x.sen c) else x.sen k := by
    cases c <;> cases k <;> rfl
  unfold State.onRec
  rw [at']
  by_cases h : k = c
  · subst h
    simp only [if_true, true_and, Fin.getElem_fin, Vector.getElem_set, Fin.val_inj]
  · rw [if_neg h, if_neg (fun q => h q.1)]
@[simp] theorem onRec_self (s : State) (c : ChainId) (m : Fin 32) (f : SenRec → SenRec) :
    ((s.onRec c m f).sen c).recs[m] = f (s.sen c).recs[m] := by rw [onRec_at, if_pos ⟨rfl, rfl⟩]
theorem onRec_other (s : State) (c : ChainId) {m j : Fin 32} (f : SenRec → SenRec) (h : j ≠ m) :
    ((s.onRec c m f).sen c).recs[j] = (s.sen c).recs[j] := by rw [onRec_at, if_neg (fun q => h q.2.symm)]
@[simp] theorem onRec_es (s : State) (c k : ChainId) (m : Fin 32) (f : SenRec → SenRec) : (s.onRec c m f).es k = s.es k := onSen_es _ _ _ _
@[simp] theorem onRec_chain (s : State) (c k : ChainId) (m : Fin 32) (f : SenRec → SenRec) : (s.onRec c m f).chain k = s.chain k :=
  onSen_chain _ _ _ _
theorem sendSrq_effect (s : State) (c : ChainId) (m : Fin 32) (op : Nat) (arg : List Byte) :
    (∀ k, (sendSrq s c m op arg).es k = s.es k) ∧ (∀ k, (sendSrq s c m op arg).chain k = s.chain k) ∧
    (sendSrq s c m op arg).sen c = { s.sen c with srqQ := if s.arm.owner then (s.sen c).srqQ ++ [(m, op, arg)] else (s.sen c).srqQ } := by
  unfold sendSrq
  cases h : s.arm.owner
  · exact ⟨fun _ => rfl, fun _ => rfl, rfl⟩
  · exact ⟨fun k => onSen_es _ _ _ _, fun k => onSen_chain _ _ _ _, onSen_self _ _ _⟩
theorem sendSrq_recs (s : State) (c : ChainId) (m : Fin 32) (op : Nat) (arg : List Byte) :
    ((sendSrq s c m op arg).sen c).recs = (s.sen c).recs := by
  rw [(sendSrq_effect s c m op arg).2.2]
theorem balanceModule_effect (c : ChainId) (s : State) (m : Fin 32) (t : State) (ht : t = balanceModule c s m) :
    (t.sen c).recs[m].bleedAt = s.clock ∧ (t.sen c).recs[m].bleed = (List.finRange 32).foldl
      (fun a k => if s.wantsBleed c m k then a ||| BitVec.ofNat 32 (2 ^ k.val) else a) 0 ∧
    (∀ k : Fin 32, (t.es c).mods[m].cells[k].bleedReq = (t.sen c).recs[m].bleed.getLsbD k.val) ∧
    (∀ j, j ≠ m → (t.sen c).recs[j] = (s.sen c).recs[j] ∧ (t.es c).mods[j] = (s.es c).mods[j]) ∧
    t.chain c = s.chain c ∧ t.img = s.img ∧ t.clock = s.clock := by
  unfold balanceModule at ht
  extract_lets mask old now s1 s2 at ht
  have c1 : (s1.es c).mods[m] = { (s.es c).mods[m] with cells := Vector.ofFn fun (k : Fin 32) => { (s.es c).mods[m].cells[k] with bleedReq := mask.getLsbD k.val } } :=
    onAcc_self s c m _
  have c2 : s2.es c = s1.es c := onSen_es _ _ _ _
  have c3 : (s2.sen c).recs[m] = { (s.sen c).recs[m] with bleed := mask, bleedAt := now } := by
    unfold s2 s1 State.onRec State.onAcc
    rw [onSen_self, onEs_sen]
    simp
  have c4 (j : Fin 32) (h : j ≠ m) : (s2.sen c).recs[j] = (s.sen c).recs[j] := by
    have n : m.val ≠ j.val := fun q => h (Fin.ext q.symm)
    unfold s2 s1 State.onRec State.onAcc
    rw [onSen_self, onEs_sen]
    simp [n]
  have c5 (j : Fin 32) (h : j ≠ m) : (s2.es c).mods[j] = (s.es c).mods[j] := by rw [c2]; exact onAcc_other s c _ h
  have c6 : s2.chain c = s.chain c := by unfold s2 s1 State.onRec State.onAcc; rw [onSen_chain, onEs_chain]
  have c7 : s2.img = s.img ∧ s2.clock = s.clock := by unfold s2 s1; cases c <;> exact ⟨rfl, rfl⟩
  have fin (u : State) (h1 : u.es c = s2.es c) (h2 : (u.sen c).recs[m].bleed = (s2.sen c).recs[m].bleed ∧
      (u.sen c).recs[m].bleedAt = (s2.sen c).recs[m].bleedAt) (h3 : ∀ j, j ≠ m → (u.sen c).recs[j] = (s2.sen c).recs[j])
      (h4 : u.chain c = s2.chain c) (h5 : u.img = s2.img ∧ u.clock = s2.clock) :
      (u.sen c).recs[m].bleedAt = s.clock ∧ (u.sen c).recs[m].bleed = mask ∧
      (∀ k : Fin 32, (u.es c).mods[m].cells[k].bleedReq = (u.sen c).recs[m].bleed.getLsbD k.val) ∧
      (∀ j, j ≠ m → (u.sen c).recs[j] = (s.sen c).recs[j] ∧ (u.es c).mods[j] = (s.es c).mods[j]) ∧
      u.chain c = s.chain c ∧ u.img = s.img ∧ u.clock = s.clock := by
    refine ⟨by rw [h2.2, c3], by rw [h2.1, c3], fun k => ?_, fun j hj => ⟨(h3 j hj).trans (c4 j hj), by rw [h1]; exact c5 j hj⟩, h4.trans c6, h5.1.trans c7.1, h5.2.trans c7.2⟩
    rw [h2.1, c3, h1, c2]
    have z := congrArg (fun v : EstMod => v.cells[k].bleedReq) c1
    refine (z : _).trans ?_
    simp
  have sq := sendSrq_effect s2 c m 3 [mask.truncate 8, (mask >>> 8).truncate 8, (mask >>> 16).truncate 8, (mask >>> 24).truncate 8]
  rw [ht]
  split
  · exact fin s2 rfl ⟨rfl, rfl⟩ (fun _ _ => rfl) rfl ⟨rfl, rfl⟩
  · have e := sendSrq_recs s2 c m 3 [mask.truncate 8, (mask >>> 8).truncate 8, (mask >>> 16).truncate 8, (mask >>> 24).truncate 8]
    exact fin _ (sq.1 c) ⟨by rw [e], by rw [e]⟩ (fun j _ => by rw [e]) (sq.2.1 c) ⟨by simp, by simp⟩
theorem wantsBleed_of {s t : State} {c : ChainId} {m : Fin 32} (h1 : (t.sen c).recs[m] = (s.sen c).recs[m]) (h2 : (t.es c).mods[m] = (s.es c).mods[m])
    (h3 : t.chain c = s.chain c) (h4 : t.img = s.img) (k : Fin 32) : t.wantsBleed c m k = s.wantsBleed c m k := by
  have e : t.measured c m = s.measured c m := by unfold State.measured State.nCells State.im; rw [h1, h4]
  have r : t.roomiest c m = s.roomiest c m := by unfold State.roomiest; rw [e, h2]
  unfold State.wantsBleed
  dsimp only
  rw [e, r, h1, h2, h3]
  unfold State.im
  rw [h4]
theorem bitMask_at (p : Fin 32 → Bool) (k : Fin 32) :
    ((List.finRange 32).foldl (fun (a : BitVec 32) k => if p k then a ||| BitVec.ofNat 32 (2 ^ k.val) else a) 0).getLsbD k.val = p k := by
  have bit (a k : Fin 32) : (BitVec.ofNat 32 (2 ^ a.val)).getLsbD k.val = decide (a = k) := by revert a k; decide
  have q (l : List (Fin 32)) (x : BitVec 32) : (l.foldl (fun (a : BitVec 32) k => if p k then a ||| BitVec.ofNat 32 (2 ^ k.val) else a) x).getLsbD k.val =
      (x.getLsbD k.val || (l.contains k && p k)) := by
    induction l generalizing x with
    | nil => simp
    | cons a r ih =>
      simp only [List.foldl_cons]
      rw [ih]
      by_cases e : a = k
      · subst e
        cases hp : p a
        · simp
        · rw [if_pos rfl, BitVec.getLsbD_or, bit]; simp
      · have n : (k == a) = false := by simpa using Ne.symm e
        rw [List.contains_cons, n, Bool.false_or]
        split
        · rw [BitVec.getLsbD_or, bit, decide_eq_false e, Bool.or_false]
        · rfl
  rw [q]
  simp
theorem balanceAll_effect (c : ChainId) (s : State) (m : Fin 32) (hm : m.val < s.nMods) :
    ((s.modIdx.foldl (balanceModule c) s).sen c).recs[m].bleedAt = s.clock ∧ ∀ k : Fin 32,
      ((s.modIdx.foldl (balanceModule c) s).sen c).recs[m].bleed.getLsbD k.val = s.wantsBleed c m k ∧
      ((s.modIdx.foldl (balanceModule c) s).es c).mods[m].cells[k].bleedReq = s.wantsBleed c m k := by
  have k := foldl_at (fun (t : State) j => ((t.sen c).recs[j].bleedAt, (t.sen c).recs[j].bleed, fun k : Fin 32 => (t.es c).mods[j].cells[k].bleedReq))
    (f := balanceModule c) (m := m) (x := fun t => (t.clock, (List.finRange 32).foldl
      (fun a k => if t.wantsBleed c m k then a ||| BitVec.ofNat 32 (2 ^ k.val) else a) 0, fun k => t.wantsBleed c m k)) ?_ ?_ s.modIdx (modIdx_nodup s) s
  · have q := k.1 (mem_modIdx.mpr hm)
    simp only [Prod.mk.injEq] at q
    refine ⟨q.1, fun k => ⟨?_, congrFun q.2.2 k⟩⟩
    rw [q.2.1]
    exact bitMask_at (fun k => s.wantsBleed c m k) k
  · intro t a ha
    have b := balanceModule_effect c t a _ rfl
    have r := b.2.2.2.1 m (Ne.symm ha)
    refine ⟨by rw [r.1, r.2], ?_⟩
    have w := wantsBleed_of (s := t) r.1 r.2 b.2.2.2.2.1 b.2.2.2.2.2.1
    simp only [w, b.2.2.2.2.2.2]
  · intro t
    have b := balanceModule_effect c t m _ rfl
    rw [b.1]
    have z : (fun k : Fin 32 => ((balanceModule c t m).es c).mods[m].cells[k].bleedReq) = fun k => t.wantsBleed c m k := by
      funext k
      rw [b.2.2.1 k, b.2.1]
      exact bitMask_at (fun k => t.wantsBleed c m k) k
    rw [z, b.2.1]
theorem publishChain_limAt (s : State) (c k : ChainId) : ((publishChain s c).chain k).limAt = (if k = c then some s.clock else (s.chain k).limAt) ∧
    (publishChain s c).clock = s.clock := by
  have rs (x : State) (j : ChainId) : ((refreshSpan x c).chain j).limAt = (x.chain j).limAt := by
    unfold refreshSpan
    extract_lets sd sc fd fc s1 s2
    have e1 : (s1.chain j).limAt = (x.chain j).limAt := by
      unfold s1; rw [onChain_at]; split
      · next e => subst e; rfl
      · rfl
    have e2 : (s2.chain j).limAt = (x.chain j).limAt := by
      unfold s2; split
      · exact e1
      · rw [logEvent_chain]; exact e1
    split
    · exact e2
    · rw [logEvent_chain]; exact e2
  have rc (x : State) : (refreshSpan x c).clock = x.clock := (same_of_drop (m := 8590131200) (refreshSpan_drop x c (by decide)) .clock (by decide))
  refine ⟨?_, ?_⟩
  rotate_left
  · unfold publishChain; rw [nextFree_clock, rc]; cases c <;> rfl
  unfold publishChain
  extract_lets now lim r code n s1
  have nf (x : State) : (nextFree x).chain k = x.chain k := by cases k <;> rfl
  rw [nf, rs, onChain_at]
  split
  · rfl
  · unfold s1; rw [onEs_chain]
theorem publishAll_limAt (s : State) (c : ChainId) (h : c ∈ s.chains) : ((s.forChains publishChain).chain c).limAt = some s.clock := by
  have q (l : List ChainId) (x : State) : (c ∈ l ∨ (x.chain c).limAt = some x.clock) → ((l.foldl publishChain x).chain c).limAt = some x.clock := by
    induction l generalizing x with
    | nil => exact fun h => h.resolve_left (by simp)
    | cons a r ih =>
      intro h
      simp only [List.foldl_cons]
      have p := publishChain_limAt x a c
      refine (ih (publishChain x a) ?_).trans (congrArg some p.2)
      by_cases e : c = a
      · right; rw [p.1, p.2, if_pos e]
      · rcases h with h | h
        · exact Or.inl ((List.mem_cons.mp h).resolve_left e)
        · right; rw [p.1, p.2, if_neg e]; exact h
  exact q s.chains s (Or.inl h)
/-- A reading of a chain that an end of its learning cycle does not move. -/
def KeepsLearn {β : Type} (g : Chain → β) : Prop := ∀ (x : Chain) (a : Bool) (b : LearnRec), g { x with learnOn := a, learn := b } = g x
section
variable {β : Type} {g : Chain → β} (H : KeepsLearn g)
include H
theorem endLearnCycle_l (s : State) (c k : ChainId) (b : Bool) : g ((endLearnCycle s c b).chain k) = g (s.chain k) := by
  unfold endLearnCycle
  split
  · rw [logEvent_chain, onChain_at]
    split
    · next e => subst e; exact H _ _ _
    · rfl
  · rfl
theorem endAct_l (s : State) (cause : Nat) (i : Fin 4) (k : ChainId) : g ((endAct s cause i).chain k) = g (s.chain k) := by
  unfold endAct
  split
  · rfl
  · next v _ =>
    extract_lets s1
    have e1 : s1.chain k = s.chain k := (logEvent_chain _ _ _ _ _ _).trans (by cases k <;> rfl)
    have e2 (x : State) (f : Mnt → Mnt) : (x.onMnt f).chain k = x.chain k := by cases k <;> rfl
    have e3 (x : State) (f : Glk → Glk) : (x.onGlk f).chain k = x.chain k := by cases k <;> rfl
    split
    · exact (endLearnCycle_l H _ _ _ _).trans (congrArg g e1)
    · exact congrArg g ((e3 _ _).trans e1)
    · split
      · exact congrArg g e1
      · exact congrArg g ((chain_of (by simp) (by simp) k).trans e1)
    · exact congrArg g ((e2 _ _).trans e1)
    all_goals exact congrArg g e1
theorem watchActs_l (s : State) (k : ChainId) : g ((watchActs s).chain k) = g (s.chain k) := by
  unfold watchActs
  refine foldl_keep (fun t => g (t.chain k)) (fun t i => ?_) _ s
  split
  · rfl
  · split
    · rfl
    · exact endAct_l H _ _ _ _
theorem endLearn_l (s : State) (c k : ChainId) (n : Nat) : g ((endLearn s c n).chain k) = g (s.chain k) := by
  unfold endLearn
  refine (foldl_keep (fun t => g (t.chain k)) (fun t i => ?_) _ _).trans (endLearnCycle_l H _ _ _ _)
  split
  · exact endAct_l H _ _ _ _
  · rfl
end
/-- A reading of a sentinel chain that neither waiting requests nor BLOCK_ALL move. -/
def KeepsCnt {β : Type} (g : Sen → β) : Prop :=
  (∀ (x : Sen) (q : List (Fin 32 × Nat × List Byte)), g { x with srqQ := q } = g x) ∧
  ∀ (x : Sen) (f : SenRec → List SentSet) (n : List (Fin 32 × SentSet)), g { x with recs := x.recs.map fun r => { r with sent := f r }, newSets := n } = g x
theorem sendEnds_chain (s : State) (l : List Bool) (f : Bool → Out) (k : ChainId) : (sendEnds s l f).chain k = s.chain k :=
  foldl_keep (fun t => t.chain k) (fun t a => send_chain _ _ _) l s
theorem sendEnds_sen (s : State) (l : List Bool) (f : Bool → Out) (k : ChainId) : (sendEnds s l f).sen k = s.sen k :=
  foldl_keep (fun t => t.sen k) (fun t a => send_sen _ _ _) l s
theorem sendEnds_es (s : State) (l : List Bool) (f : Bool → Out) (k : ChainId) : (sendEnds s l f).es k = s.es k :=
  foldl_keep (fun t => t.es k) (fun t a => send_es _ _ _) l s
theorem sendChain_chain (s : State) (c : ChainId) (f : Bool → Out) (k : ChainId) : (sendChain s c f).chain k = s.chain k := by
  unfold sendChain; split
  · exact sendEnds_chain _ _ _ _
  · rfl
theorem sendChain_sen (s : State) (c : ChainId) (f : Bool → Out) (k : ChainId) : (sendChain s c f).sen k = s.sen k := by
  unfold sendChain; split
  · exact sendEnds_sen _ _ _ _
  · rfl
theorem countFiring_sen (s : State) (e : Fin 64) (k : ChainId) : (countFiring s e).sen k = s.sen k := sen_of (same_of_drop (m := 16777216) (countFiring_drop s e (by decide)) .snA (by decide)) (same_of_drop (m := 16777216) (countFiring_drop s e (by decide)) .snB (by decide)) k
theorem endLearn_sen (s : State) (c : ChainId) (n : Nat) (k : ChainId) : (endLearn s c n).sen k = s.sen k := sen_of (by simp) (by simp) k
theorem setCoil_sen (s : State) (c : ChainId) (r : Nat) (b : Bool) (k : ChainId) : (setCoil s c r b).sen k = s.sen k := sen_of (by simp) (by simp) k
theorem refreshBridge_sen (s : State) (k : ChainId) : (refreshBridge s).sen k = s.sen k := sen_of (by simp) (by simp) k
theorem endJig_sen (s : State) (k : ChainId) : (endJig s).sen k = s.sen k := sen_of (same_of_drop (m := 12960628736) (endJig_drop s (by decide)) .snA (by decide)) (same_of_drop (m := 12960628736) (endJig_drop s (by decide)) .snB (by decide)) k
theorem blockCell_sen (s : State) (n : Nat) (k : ChainId) : (blockCell s n).sen k = s.sen k := sen_of (by simp) (by simp) k
theorem protectiveZero_sen (s : State) (c : ChainId) (b : Bool) (k : ChainId) : (protectiveZero s c b).sen k = s.sen k := sen_of (by simp) (by simp) k
section
variable {β : Type} {g : Sen → β} (H : KeepsCnt g)
include H
theorem sendSrq_k (s : State) (c k : ChainId) (m : Fin 32) (op : Nat) (arg : List Byte) :
    g ((sendSrq s c m op arg).sen k) = g (s.sen k) := by
  unfold sendSrq
  split
  · cases c <;> cases k <;> first | rfl | exact H.1 _ _
  · rfl
theorem blockAll_k (s : State) (c k : ChainId) : g ((blockAll s c).sen k) = g (s.sen k) := by
  unfold blockAll
  dsimp only
  rw [sendChain_sen]
  cases c <;> cases k <;> first | rfl | exact H.2 _ _ _
theorem writeFMod_k (s : State) (c k : ChainId) : g ((writeFMod s c).sen k) = g (s.sen k) := by
  unfold writeFMod
  dsimp only
  split
  · rfl
  · exact (foldl_keep (fun t => g (t.sen k)) (fun t a => sendSrq_k H _ _ _ _ _ _) _ _).trans (congrArg g (onChain_sen _ _ _ _))
theorem enterBlock_k (s : State) (c k : ChainId) : g ((enterBlock s c).sen k) = g (s.sen k) := by
  unfold enterBlock
  refine (writeFMod_k H _ _ _).trans (congrArg g ?_)
  exact (onChain_sen _ _ _ _).trans (endLearn_sen _ _ _ _)
theorem abortConnect_k (s : State) (c k : ChainId) : g ((abortConnect s c).sen k) = g (s.sen k) := by
  unfold abortConnect
  dsimp only
  refine Eq.trans (congrArg g ?_) (enterBlock_k H s c k)
  exact (setCoil_sen _ _ _ _ _).trans ((setCoil_sen _ _ _ _ _).trans (onChain_sen _ _ _ _))
theorem startOpening_k (s : State) (c k : ChainId) : g ((startOpening s c).sen k) = g (s.sen k) := by
  unfold startOpening
  dsimp only
  refine Eq.trans (congrArg g ?_) (enterBlock_k H s c k)
  exact (setCoil_sen _ _ _ _ _).trans (onChain_sen _ _ _ _)
theorem requestBlock_k (s : State) (c k : ChainId) : g ((requestBlock s c).sen k) = g (s.sen k) := by
  unfold requestBlock
  split
  · rfl
  · have pz (x : State) (o : Bool) : (protectiveZero x c o).sen k = x.sen k := protectiveZero_sen _ _ _ _
    dsimp only
    split
    · rfl
    · rfl
    · rfl
    · exact (abortConnect_k H _ _ _).trans (congrArg g (onChain_sen _ _ _ _))
    · exact congrArg g ((pz _ _).trans (onChain_sen _ _ _ _))
    · exact congrArg g ((pz _ _).trans (onChain_sen _ _ _ _))
theorem immediateActions_k (s : State) (i : BitVec 8) (e : Fin 64) (k : ChainId) : g ((immediateActions s i e).sen k) = g (s.sen k) := by
  unfold immediateActions
  extract_lets s1 s2 s3 s4 s5 now s6
  have ii {p : Prop} [Decidable p] {a b : State} {x : β} (ha : g (a.sen k) = x) (hb : g (b.sen k) = x) : g ((if p then a else b).sen k) = x := by
    split <;> assumption
  have e1 : g (s1.sen k) = g (s.sen k) := ii (congrArg g (blockCell_sen _ _ _)) rfl
  have sh (x : State) (l : Leg) : (setHiZ x l 6).sen k = x.sen k := by cases l <;> cases k <;> rfl
  have e2 : g (s2.sen k) = g (s.sen k) := ii ((congrArg g (sh _ _)).trans e1) e1
  have e3 : g (s3.sen k) = g (s.sen k) := ii ((congrArg g (sh _ _)).trans e2) e2
  have bl (x : State) (c : ChainId) : g ((blockAll (requestBlock x c) c).sen k) = g (x.sen k) :=
    (blockAll_k H _ _ _).trans (requestBlock_k H _ _ _)
  have e4 : g (s4.sen k) = g (s.sen k) := ii ((bl _ _).trans e3) e3
  have e5 : g (s5.sen k) = g (s.sen k) := ii ((bl _ _).trans e4) e4
  have e6 : g (s6.sen k) = g (s.sen k) := by
    refine ii ((congrArg g ?_).trans e5) e5
    cases k <;> rfl
  exact (congrArg g (refreshBridge_sen _ _)).trans e6
theorem fireEntry_k (b : Bool) (s : State) (e : Fin 64) (k : ChainId) : g ((fireEntry b s e).sen k) = g (s.sen k) := by
  unfold fireEntry
  extract_lets r now s1 s2 s3
  have e1 : s1.sen k = s.sen k := by cases k <;> rfl
  have e2 : g (s2.sen k) = g (s.sen k) := (congrArg g (endJig_sen _ _)).trans ((immediateActions_k H _ _ _ _).trans (congrArg g e1))
  have e3 : g (s3.sen k) = g (s.sen k) := (congrArg g (logEvent_sen _ _ _ _ _ _)).trans e2
  split
  · exact (congrArg g (countFiring_sen _ _ _)).trans e3
  · exact e3
theorem raiseEvent_k (s : State) (src : Nat) (k : ChainId) : g ((raiseEvent s src).sen k) = g (s.sen k) := by
  unfold raiseEvent sourceUp
  dsimp only
  refine (foldl_keep (fun t => g (t.sen k)) (fun t a => fireEntry_k H _ _ _ _) _ _).trans (congrArg g ?_)
  exact (logEvent_sen _ _ _ _ _ _).trans (by cases k <;> rfl)
end
/-- A sentinel record without the sets sent to it. -/
def SenRec.body (r : SenRec) : SenRec := { r with sent := [] }
theorem keepsCnt_body (m : Fin 32) : KeepsCnt fun x => x.recs[m].body := by
  refine ⟨fun _ _ => rfl, fun x f n => ?_⟩
  simp [SenRec.body]
theorem keepsCnt_stage : KeepsCnt fun x => x.stage := ⟨fun _ _ => rfl, fun _ _ _ => rfl⟩
/-- What the judgement of a sample set makes of the runs of one module. -/
def State.runsOf (t : State) (c : ChainId) (m : Fin 32) : Vector Nat 33 × Vector Nat 32 × Vector Nat 32 :=
  let r := (t.sen c).recs[m]
  let run (old : Nat) (hit : Bool) : Nat := if hit then min 3 (old + 1) else 0
  if r.got then (Vector.ofFn fun w => run r.pairRuns[w] (t.wirePattern c m w.val), Vector.ofFn fun k => run r.cellRuns[k] (t.lonePattern c m k.val),
    Vector.ofFn fun k => run r.hardRuns[k] (t.hardPattern c m k)) else (r.pairRuns, r.cellRuns, r.hardRuns)
theorem runsOf_of {s t : State} {c : ChainId} {m : Fin 32} (h : (t.sen c).recs[m].body = (s.sen c).recs[m].body) (h2 : t.es c = s.es c)
    (h3 : t.img = s.img) : t.runsOf c m = s.runsOf c m := by
  have f1 : (t.sen c).recs[m].cells = (s.sen c).recs[m].cells := (congrArg SenRec.cells h : _)
  have f2 : (t.sen c).recs[m].unmeasured = (s.sen c).recs[m].unmeasured := (congrArg SenRec.unmeasured h : _)
  have f3 : (t.sen c).recs[m].dsum = (s.sen c).recs[m].dsum := (congrArg SenRec.dsum h : _)
  have f4 : (t.sen c).recs[m].vmod = (s.sen c).recs[m].vmod := (congrArg SenRec.vmod h : _)
  have f5 : (t.sen c).recs[m].got = (s.sen c).recs[m].got := (congrArg SenRec.got h : _)
  have f6 : (t.sen c).recs[m].pairRuns = (s.sen c).recs[m].pairRuns := (congrArg SenRec.pairRuns h : _)
  have f7 : (t.sen c).recs[m].cellRuns = (s.sen c).recs[m].cellRuns := (congrArg SenRec.cellRuns h : _)
  have f8 : (t.sen c).recs[m].hardRuns = (s.sen c).recs[m].hardRuns := (congrArg SenRec.hardRuns h : _)
  have i : t.im = s.im := by unfold State.im; rw [h3]
  have n : t.nCells = s.nCells := by unfold State.nCells; rw [i]
  have me : t.measured c m = s.measured c m := by unfold State.measured; rw [n, f2]
  have p (k : Nat) : t.plateOf c m k = s.plateOf c m k := by unfold State.plateOf; rw [i, h2]
  have cd (k : Nat) : t.cellDev c m k = s.cellDev c m k := by unfold State.cellDev; dsimp only; rw [me, n, f1, f2]
  have db (k : Nat) : t.devBig c m k = s.devBig c m k := by unfold State.devBig; rw [cd, i]
  have so : t.sumOk c m = s.sumOk c m := by unfold State.sumOk; rw [f3, i]
  have pp (k : Nat) : t.pairPattern c m k = s.pairPattern c m k := by unfold State.pairPattern; rw [cd, cd, so, i]
  have wp (k : Nat) : t.wirePattern c m k = s.wirePattern c m k := by unfold State.wirePattern; simp only [n, so, db, pp]
  have lp (k : Nat) : t.lonePattern c m k = s.lonePattern c m k := by unfold State.lonePattern; simp only [so, db, pp]
  have uc : t.unmeasuredCount c m = s.unmeasuredCount c m := by unfold State.unmeasuredCount; rw [n, me]
  have ms : t.measuredSum c m = s.measuredSum c m := by unfold State.measuredSum; rw [me, f1]
  have cv (k : Fin 32) : t.cellV c m k = s.cellV c m k := by unfold State.cellV; dsimp only; rw [f2, f4, uc, ms, f1]
  have hp (k : Fin 32) : t.hardPattern c m k = s.hardPattern c m k := by unfold State.hardPattern; rw [cv, n, p, p, i]
  unfold State.runsOf
  simp only [wp, lp, hp, f5, f6, f7, f8]
theorem suspectCell_k {β : Type} {g : Sen → β} (H : KeepsCnt g) (s : State) (c : ChainId) (m : Fin 32) (j : Nat) (k : ChainId) :
    g ((suspectCell s c m j).sen k) = g (s.sen k) := by
  unfold suspectCell
  have rp (x : State) : (requestPark x c m 3).sen k = x.sen k := sen_of (same_of_drop (m := 8594325504) (requestPark_drop x c m 3 (by decide)) .snA (by decide)) (same_of_drop (m := 8594325504) (requestPark_drop x c m 3 (by decide)) .snB (by decide)) k
  rw [rp]
  exact (raiseEvent_k H _ _ _).trans (congrArg g (logEvent_sen _ _ _ _ _ _))
/-- The three run counters of a sentinel record. -/
def SenRec.runs (x : SenRec) : Vector Nat 33 × Vector Nat 32 × Vector Nat 32 := (x.pairRuns, x.cellRuns, x.hardRuns)
theorem keepsCnt_runs (m : Fin 32) : KeepsCnt fun x => x.recs[m].runs := by
  refine ⟨fun _ _ => rfl, fun x f n => ?_⟩
  simp [SenRec.runs]
theorem suspectWire_body (x : State) (c : ChainId) (m : Fin 32) (w : Nat) {j : Fin 32} (h : j ≠ m) :
    ((suspectWire c m x w).sen c).recs[j].body = (x.sen c).recs[j].body := by
  unfold suspectWire
  refine (sendSrq_k (keepsCnt_body j) _ c c m 4 []).trans ?_
  rw [logEvent_sen, onRec_other _ _ _ h]
theorem suspectWire_runs (x : State) (c : ChainId) (m : Fin 32) (w : Nat) :
    ((suspectWire c m x w).sen c).recs[m].runs = (x.sen c).recs[m].runs := by
  unfold suspectWire
  refine (sendSrq_k (keepsCnt_runs m) _ c c m 4 []).trans ?_
  rw [logEvent_sen, onRec_self]
  rfl
theorem suspectCells_k {β : Type} {g : Sen → β} (H : KeepsCnt g) (c : ChainId) (m : Fin 32) (l : List (Fin 32)) (s : State) :
    g ((l.foldl (fun t k => suspectCell t c m k.val) s).sen c) = g (s.sen c) :=
  foldl_keep (fun u => g (u.sen c)) (fun u k => suspectCell_k H _ _ _ _ _) _ _
theorem judgeModule_body (c : ChainId) (s : State) (m : Fin 32) {j : Fin 32} (hj : j ≠ m) :
    ((judgeModule c s m).sen c).recs[j].body = (s.sen c).recs[j].body := by
  unfold judgeModule
  dsimp only
  split
  · rfl
  · refine (suspectCells_k (keepsCnt_body j) c m _ _).trans ?_
    refine (foldl_keep (fun u : State => (u.sen c).recs[j].body) (fun u w => suspectWire_body u c m w hj) _ _).trans ?_
    rw [onRec_other _ _ _ hj]
theorem judgeModule_run (c : ChainId) (s : State) (m : Fin 32) :
    ((judgeModule c s m).sen c).recs[m].runs = s.runsOf c m := by
  unfold judgeModule
  dsimp only
  split
  · next h =>
    have q : (s.sen c).recs[m].got = false := by revert h; cases (s.sen c).recs[m].got <;> simp
    exact (if_neg (by rw [q]; exact Bool.false_ne_true)).symm
  · next h =>
    have q : (s.sen c).recs[m].got = true := by revert h; cases (s.sen c).recs[m].got <;> simp
    refine (suspectCells_k (keepsCnt_runs m) c m _ _).trans ?_
    refine (foldl_keep (fun u : State => (u.sen c).recs[m].runs) (fun u w => suspectWire_runs u c m w) _ _).trans ?_
    have fin (f : SenRec → SenRec) (hf : (f (s.sen c).recs[m]).runs = s.runsOf c m) : ((s.onRec c m f).sen c).recs[m].runs = s.runsOf c m := by rw [onRec_self, hf]
    refine fin _ ?_
    unfold State.runsOf SenRec.runs; dsimp only; rw [q] <;> rfl
theorem judgeAll_runs (c : ChainId) (s : State) (m : Fin 32) (hm : m.val < s.nMods) :
    ((s.modIdx.foldl (judgeModule c) s).sen c).recs[m].runs = s.runsOf c m := by
  have k := foldl_at (fun (t : State) j => (t.sen c).recs[j].runs)
    (f := judgeModule c) (m := m) (x := fun t => t.runsOf c m) ?_ ?_ s.modIdx (modIdx_nodup s) s
  · exact k.1 (mem_modIdx.mpr hm)
  · intro t a ha
    have b := judgeModule_body c t a (Ne.symm ha)
    have d := judgeModule_drop (fm := 1799688790016) c t a (by decide)
    exact ⟨(congrArg SenRec.runs b : _), runsOf_of (m := m) b (es_of (same_of_drop d .esA (by decide)) (same_of_drop d .esB (by decide)) c) (same_of_drop d .img (by decide))⟩
  · intro t
    exact judgeModule_run c t m
theorem onSen_at (s : State) (c k : ChainId) (f : Sen → Sen) : (s.onSen c f).sen k = if k = c then f (s.sen c) else s.sen k := by
  cases c <;> cases k <;> rfl
theorem onMod_self (s : State) (c : ChainId) (m : Fin 32) (f : ModRec → ModRec) : ((s.onMod c m f).chain c).mods[m] = f (s.chain c).mods[m] := by
  unfold State.onMod; rw [onChain_self]; simp
@[simp] theorem onMod_sen (s : State) (c k : ChainId) (m : Fin 32) (f : ModRec → ModRec) : (s.onMod c m f).sen k = s.sen k := onChain_sen _ _ _ _
/-- A service request to each of a list of modules. -/
theorem srqAll_effect (c : ChainId) (op : Nat) (arg : List Byte) : ∀ (l : List (Fin 32)) (s : State), s.arm.owner = true →
    (l.foldl (fun u m => sendSrq u c m op arg) s).sen c = { s.sen c with srqQ := (s.sen c).srqQ ++ l.map fun m => (m, op, arg) } := by
  intro l
  induction l with
  | nil => intro s _; simp
  | cons a r ih =>
    intro s ho
    have e := (sendSrq_effect s c a op arg).2.2
    have o : (sendSrq s c a op arg).arm = s.arm := by simp
    have i := ih (sendSrq s c a op arg) (by rw [o]; exact ho)
    simp only [List.foldl_cons, List.map_cons]
    rw [i, e, ho]
    simp
/-- What is declared of a lost module. -/
theorem declareLost_effect (s : State) (c : ChainId) (m : Fin 32) (h : (s.chain c).mods[m].lost = false) :
    ((declareLost s c m).sen c).recs[m].lost = true ∧ ((declareLost s c m).chain c).mods[m].lost = true ∧
    ((declareLost s c m).chain c).order = (s.chain c).order.filter (· != m) ∧ ((declareLost s c m).chain c).cntLost = bump 8 (s.chain c).cntLost := by
  unfold declareLost
  rw [if_neg (by rw [h]; exact Bool.false_ne_true)]
  extract_lets s1 s2
  have w := watchActs_l (g := fun x => (x.mods, x.order, x.cntLost)) (fun _ _ _ => rfl) (logEvent (s2.onChain c fun ch =>
      { ch with cntLost := bump 8 ch.cntLost, order := ch.order.filter (· != m) }) 0x200A m.val) c
  rw [logEvent_chain, onChain_self] at w
  simp only [Prod.mk.injEq] at w
  refine ⟨?_, ?_, w.2.1.trans ?_, w.2.2.trans ?_⟩
  · have q : (watchActs (logEvent (s2.onChain c fun ch => { ch with cntLost := bump 8 ch.cntLost, order := ch.order.filter (· != m) }) 0x200A m.val)).sen c = s1.sen c :=
      sen_of (same_of_drop (m := 12960628736) (watchActs_drop _ (by decide)) .snA (by decide)) (same_of_drop (m := 12960628736) (watchActs_drop _ (by decide)) .snB (by decide)) c |>.trans
        ((logEvent_sen _ _ _ _ _ _).trans ((onChain_sen _ _ _ _).trans (onMod_sen _ _ _ _ _)))
    rw [q]
    exact congrArg SenRec.lost (onRec_self _ _ _ _)
  · have q := congrArg (fun v : Vector ModRec 32 => v[m].lost) w.1
    refine (q : _).trans ?_
    exact congrArg ModRec.lost (onMod_self s1 c m _)
  · show (s2.chain c).order.filter _ = _
    have q : (s2.chain c).order = (s.chain c).order := by
      refine (congrArg Chain.order (onChain_self s1 c (fun ch => { ch with mods := ch.mods.set m ((fun x : ModRec => { x with lost := true, st := if x.st == .parked then x.st else .block }) ch.mods[m]) }))).trans ?_
      show (s1.chain c).order = _
      rw [show s1.chain c = s.chain c from onRec_chain _ _ _ _ _]
    rw [q]
  · have q : (s2.chain c).cntLost = (s.chain c).cntLost := by
      refine (congrArg Chain.cntLost (onChain_self s1 c (fun ch => { ch with mods := ch.mods.set m ((fun x : ModRec => { x with lost := true, st := if x.st == .parked then x.st else .block }) ch.mods[m]) }))).trans ?_
      show (s1.chain c).cntLost = _
      rw [show s1.chain c = s.chain c from onRec_chain _ _ _ _ _]
    rw [q]
/-! ### Chain sequences -/
theorem setWant_chain (s : State) (n : Fin 12) (on : Bool) (k : ChainId) : (setWant s n on).chain k = s.chain k := chain_of (by simp) (by simp) k
@[simp] theorem withFree_chain (s : State) (k : ChainId) (n : Nat) : (s.withFree n).chain k = s.chain k := by cases k <;> rfl
@[simp] theorem nextFree_chain (s : State) (k : ChainId) : (nextFree s).chain k = s.chain k := by cases k <;> rfl
theorem setCoil_chain (s : State) (c k : ChainId) (role : Nat) (on : Bool) :
    (setCoil s c role on).chain k = if k = c then (s.chain c).coil role on s.clock else s.chain k := by
  unfold setCoil
  exact (foldl_keep (fun t => t.chain k) (fun t n => setWant_chain t n on k) _ _).trans (onChain_at _ _ _ _)
@[simp] theorem setCoil_self (s : State) (c : ChainId) (role : Nat) (on : Bool) : (setCoil s c role on).chain c = (s.chain c).coil role on s.clock := by
  rw [setCoil_chain, if_pos rfl]
theorem sendSrq_chain (s : State) (c k : ChainId) (m : Fin 32) (op : Nat) (arg : List Byte) : (sendSrq s c m op arg).chain k = s.chain k :=
  chain_of (by simp) (by simp) k
theorem srqAll_chain (c k : ChainId) (op : Nat) (arg : List Byte) (l : List (Fin 32)) (s : State) :
    (l.foldl (fun t m => sendSrq t c m op arg) s).chain k = s.chain k :=
  foldl_keep (fun t => t.chain k) (fun t m => sendSrq_chain t c k m op arg) l s
theorem writeFMod_c {β : Type} {g : Chain → β} (H : ∀ x f, g { x with fMod := f } = g x) (s : State) (c k : ChainId) :
    g ((writeFMod s c).chain k) = g (s.chain k) := by
  unfold writeFMod
  dsimp only
  split
  · rfl
  · refine (congrArg g (foldl_keep (fun t => t.chain k) (fun t m => sendSrq_chain t c k m 2 _) _ _)).trans ?_
    rw [onChain_at]
    split
    · next e => subst e; exact H _ _
    · rfl
/-- The fields of a chain that its sequences set. -/
def Chain.head (x : Chain) := (x.st, x.seq, x.seqDue, x.preDue, x.openAfter, x.blockReq, x.protReq, x.iRef, x.integ, x.u)
/-- The fields of a chain that the end of a sequence keeps. -/
def Chain.rest (x : Chain) := (x.kPos, x.kNeg, x.kPre, x.openReq, x.forced, x.weldPos, x.weldNeg, x.weldPre, x.coolDue, x.preOnly, x.target)
theorem enterBlock_head (s : State) (c : ChainId) :
    ((enterBlock s c).chain c).head = (.block, .none, none, none, false, false, none, some 0, 0, 0) := by
  unfold enterBlock
  refine (writeFMod_c (g := Chain.head) (fun _ _ => rfl) _ c c).trans ?_
  rw [onChain_self]
  rfl
theorem enterBlock_rest (s : State) (c : ChainId) : ((enterBlock s c).chain c).rest = (s.chain c).rest := by
  unfold enterBlock
  refine (writeFMod_c (g := Chain.rest) (fun _ _ => rfl) _ c c).trans ?_
  rw [onChain_self]
  exact endLearn_l (g := Chain.rest) (fun _ _ _ => rfl) s c c 3
theorem enterBlock_other (s : State) {c k : ChainId} (h : k ≠ c) : ((enterBlock s c).chain k).head = (s.chain k).head := by
  unfold enterBlock
  refine (writeFMod_c (g := Chain.head) (fun _ _ => rfl) _ c k).trans ?_
  rw [onChain_at, if_neg h]
  exact endLearn_l (g := Chain.head) (fun _ _ _ => rfl) s c k 3
/-- A chain after the start of its opening. -/
theorem startOpening_effect (s : State) (c : ChainId) (t : State) (ht : t = startOpening s c) :
    (t.chain c).st = .opening ∧ (t.chain c).seq = (if s.lowCap c then .openShort1 else .openPos) ∧
    (t.chain c).seqDue = some (s.clock + msNs * s.im.contSettle c) ∧ (t.chain c).seqStart = s.clock ∧
    (t.chain c).kPos = false ∧ (t.chain c).kNeg = (s.chain c).kNeg ∧ (t.chain c).kPre = (s.chain c).kPre ∧
    (t.chain c).iRef = some 0 ∧ (t.chain c).openReq = (s.chain c).openReq := by
  have h := enterBlock_head s c
  have r := enterBlock_rest s c
  simp only [Chain.head, Chain.rest, Prod.mk.injEq] at h r
  unfold startOpening at ht
  rw [ht, setCoil_self, onChain_self]
  exact ⟨rfl, rfl, rfl, rfl, rfl, r.2.1, r.2.2.1, h.2.2.2.2.2.2.2.1, r.2.2.2.1⟩
/-- A chain whose connection ends before its end. -/
theorem abortConnect_effect (s : State) (c : ChainId) (t : State) (ht : t = abortConnect s c) :
    (t.chain c).st = .opening ∧ (t.chain c).seq = .abortPre ∧ (t.chain c).seqDue = some (s.clock + msNs * s.im.contSettle c) ∧
    (t.chain c).kPos = false ∧ (t.chain c).kPre = false ∧ (t.chain c).kNeg = (s.chain c).kNeg ∧ (t.chain c).iRef = some 0 ∧
    (t.chain c).preOnly = false := by
  have h := enterBlock_head s c
  have r := enterBlock_rest s c
  simp only [Chain.head, Chain.rest, Prod.mk.injEq] at h r
  unfold abortConnect at ht
  rw [ht, setCoil_self, setCoil_self, onChain_self]
  exact ⟨rfl, rfl, rfl, rfl, rfl, r.2.1, h.2.2.2.2.2.2.2.1, rfl⟩
/-- A chain whose ramp to zero a station command starts. -/
theorem stationZero_effect (s : State) (c : ChainId) (o : Bool) : ((stationZero s c o).chain c).st = .zeroing ∧
    ((stationZero s c o).chain c).openAfter = o ∧ ((stationZero s c o).chain c).protReq = none ∧ ((stationZero s c o).chain c).zeroSince = none ∧
    ((stationZero s c o).chain c).iRef = (s.chain c).iRef := by
  unfold stationZero
  rw [onChain_self]
  exact ⟨rfl, rfl, rfl, rfl, endLearn_l (g := Chain.iRef) (fun _ _ _ => rfl) s c c 3⟩
/-- A chain once it is open. -/
theorem finishOpen_chain (s : State) (c : ChainId) (f : Bool) : (finishOpen s c f).chain c =
    { s.chain c with st := .block, seq := .none, seqDue := none, openReq := false, openReqAt := none, openAfter := false, preOnly := false, weldBase := none, byAllHeld := false } := by
  unfold finishOpen
  dsimp only
  split
  · rw [onChain_self]
  · rw [logEvent_chain, onChain_self]
theorem keepPark_chain (s : State) (c k : ChainId) (m : Fin 32) : (keepPark s c m).chain k = s.chain k := by cases k <;> rfl
theorem settleDerate_c {β : Type} {g : Chain → β} (H : ∀ x b, g { x with derate := b } = g x) (s : State) (c k : ChainId) :
    g ((settleDerate s c).chain k) = g (s.chain k) := by
  unfold settleDerate
  split
  · rfl
  · rw [onChain_at]
    split
    · next e => subst e; exact H _ _
    · rfl
theorem onMod_other (s : State) (c : ChainId) {m j : Fin 32} (f : ModRec → ModRec) (h : j ≠ m) :
    ((s.onMod c m f).chain c).mods[j] = (s.chain c).mods[j] := by
  unfold State.onMod
  rw [onChain_self]
  have e : m.val ≠ j.val := fun q => h (Fin.ext q.symm)
  simp [Vector.getElem_set, e]
theorem blockAll_rest (s : State) (c : ChainId) : ((blockAll s c).chain c).rest = (s.chain c).rest := by
  unfold blockAll
  dsimp only
  rw [sendChain_chain, onSen_chain, onChain_self]
  rfl
theorem clampI_bounds (x lo hi : Int) (h : lo ≤ hi) : lo ≤ clampI x lo hi ∧ clampI x lo hi ≤ hi := by
  unfold clampI; omega
@[simp] theorem onMeas_chain (s : State) (f : Meas → Meas) (k : ChainId) : (s.onMeas f).chain k = s.chain k := by cases k <;> rfl
@[simp] theorem onMeas_sen (s : State) (f : Meas → Meas) (k : ChainId) : (s.onMeas f).sen k = s.sen k := by cases k <;> rfl
@[simp] theorem setVCh_chain (s : State) (c k : ChainId) (v : Option Nat) : (setVCh s c v).chain k = s.chain k := onMeas_chain _ _ _
@[simp] theorem setVCh_sen (s : State) (c k : ChainId) (v : Option Nat) : (setVCh s c v).sen k = s.sen k := onMeas_sen _ _ _
@[simp] theorem nextFree_sen (s : State) (k : ChainId) : (nextFree s).sen k = s.sen k := by cases k <;> rfl
/-- A command window moves no field of a chain but its modules. -/
theorem sendMsf_c {β : Type} {g : Chain → β} (H : ∀ x f, g { x with mods := f } = g x) (s : State) (c k : ChainId) :
    g ((sendMsf s c).chain k) = g (s.chain k) := by
  unfold sendMsf
  split
  · rfl
  · dsimp only
    rw [onSen_chain]
    refine foldl_keep (fun t => g (t.chain k)) (fun t e => ?_) _ _
    unfold sendMsfFrom
    dsimp only
    rw [send_chain]
    refine foldl_keep (fun t => g (t.chain k)) (fun t m => ?_) _ _
    unfold sendEntry State.onMod
    dsimp only
    rw [onChain_at]
    have q (j : ChainId) (x : State) (f : SenRec → SenRec) (y : Sen → Sen) : (((x.onRec c m f).onSen c y).chain j) = x.chain j :=
      (onSen_chain _ _ _ _).trans (onRec_chain _ _ _ _ _)
    split
    · next e => subst e; exact (H _ _).trans (congrArg g (q _ _ _ _))
    · exact congrArg g (q _ _ _ _)
theorem sendWaiting_chain (s : State) (c k : ChainId) (n : Nat) : (sendWaiting s c n).chain k = s.chain k := by
  unfold sendWaiting
  dsimp only
  split
  · rfl
  · split
    · rw [sendEnds_chain, onRec_chain, onSen_chain]
    · rfl
theorem commandWindow_c {β : Type} {g : Chain → β} (H : ∀ x f, g { x with mods := f } = g x) (s : State) (c k : ChainId) :
    g ((commandWindow s c).chain k) = g (s.chain k) := by
  unfold commandWindow
  rw [sendWaiting_chain]
  exact sendMsf_c H s c k
theorem requestDiags_chain (s : State) (c k : ChainId) : (requestDiags s c).chain k = s.chain k :=
  foldl_keep (fun t => t.chain k) (fun t m => (sendSrq_effect t c m 6 []).2.1 k) _ s
/-- CONNECT accepted: the chain waits for the terminal diagnostics of its sentinels (07 R159, 08 R209). -/
theorem startConnect_chain (s : State) (c : ChainId) (p : Bool) :
    (startConnect s c p).chain c = { s.chain c with st := .connecting, seq := .conDiag, seqDue := some (s.clock + 20 * msNs), preOnly := p, clampLost := false, integ := 0, iRef := some 0, uPend := [] } ∧
    ∀ k, k ≠ c → (startConnect s c p).chain k = s.chain k := by
  unfold startConnect
  have f (x : State) (k : ChainId) : ((s.diagMods c).foldl (fun t m => t.onRec c m fun r => { r with termDone := false }) x).chain k = x.chain k :=
    foldl_keep (fun t => t.chain k) (fun t m => onRec_chain _ _ _ _ _) _ _
  refine ⟨?_, fun k hk => ?_⟩
  · dsimp only
    rw [requestDiags_chain, f, onChain_self]
  · dsimp only
    rw [requestDiags_chain, f, onChain_at, if_neg hk]
theorem refreshBleed_chain (s : State) (c k : ChainId) : (refreshBleed s c).chain k = s.chain k := by
  unfold refreshBleed
  exact foldl_keep (fun t => t.chain k) (fun t m => (sendSrq_chain _ _ _ _ _ _).trans (onRec_chain _ _ _ _ _)) _ _
/-- The fields of a chain that a loop period sets. -/
def Chain.loop (x : Chain) := (x.iMeas, x.iRef, x.limDis, x.limChg, x.u, x.st, x.openReq)
theorem resortChain_es (s : State) (c k : ChainId) : (resortChain s c).es k = s.es k := es_of (by simp) (by simp) k
theorem resortChain_sen (s : State) (c k : ChainId) : (resortChain s c).sen k = s.sen k := sen_of (by simp) (by simp) k
theorem refreshSpan_es (s : State) (c k : ChainId) : (refreshSpan s c).es k = s.es k := es_of (by simp) (by simp) k
theorem refreshSpan_sen (s : State) (c k : ChainId) : (refreshSpan s c).sen k = s.sen k := sen_of (by simp) (by simp) k
theorem refreshVeneer_sen (s : State) (c k : ChainId) : (refreshVeneer s c).sen k = s.sen k := sen_of (by simp) (by simp) k
theorem refreshVeneer_chain (s : State) (c k : ChainId) : (refreshVeneer s c).chain k = s.chain k := chain_of (by simp) (by simp) k
theorem refreshVeneer_es (s : State) (c k : ChainId) : ((refreshVeneer s c).es k).acc = (s.es k).acc ∧ ((refreshVeneer s c).es k).accLive = (s.es k).accLive ∧
    ((refreshVeneer s c).es k).cci = (s.es k).cci := by
  unfold refreshVeneer
  split
  · rw [onEs_at]
    split
    · next e => subst e; exact ⟨rfl, rfl, rfl⟩
    · exact ⟨rfl, rfl, rfl⟩
  · exact ⟨rfl, rfl, rfl⟩
/-- A charge snapshot joins the CCI queue at its end, the oldest of four leaving (09 R216). -/
theorem pushSnapshot_es (s : State) (c : ChainId) (x : Snapshot) : ((pushSnapshot s c x).es c).acc = (s.es c).acc ∧
    ((pushSnapshot s c x).es c).accLive = (s.es c).accLive ∧ ((pushSnapshot s c x).es c).cci.getLast? = some x ∧
    (∀ k, (pushSnapshot s c x).sen k = s.sen k) ∧ (∀ k, (pushSnapshot s c x).chain k = s.chain k) ∧ (pushSnapshot s c x).meas = s.meas := by
  unfold pushSnapshot
  dsimp only
  split
  · rw [onEs_self]
    exact ⟨rfl, rfl, by simp, fun k => by cases c <;> cases k <;> rfl, fun k => by cases c <;> cases k <;> rfl, by cases c <;> rfl⟩
  · next h =>
    have e (y : State) : (dcqFull y 21).es c = y.es c := by cases c <;> rfl
    rw [e, onEs_self]
    refine ⟨rfl, rfl, ?_, fun k => by cases c <;> cases k <;> rfl, fun k => by cases c <;> cases k <;> rfl, by cases c <;> rfl⟩
    dsimp only
    have l : 1 ≤ ((s.es c).cci).length := by simp at h; omega
    rw [List.drop_append_of_le_length l]
    simp
/-- Without shunt samples no period holds charge. -/
theorem msCharges_nil (s : State) (c : ChainId) (ts : Nat) (r : Int) (h0 : 0 ≤ r) (h1 : r < s.shuntUnit c) :
    ((s.msCharges c ts r []).1.map (·.dQ)).foldl (· + ·) 0 = 0 := by
  have f : ∀ (l : List Nat) (ps : List PeriodCharge), (ps.map (·.dQ)).foldl (· + ·) 0 = 0 →
      ((l.foldl (fun x j =>
        let q := s.periodCharge c (ts - 1000000) (j * s.tM c) x.2 []
        (x.1 ++ [q.1], q.2)) (ps, r)).1.map (·.dQ)).foldl (· + ·) 0 = 0 := by
    intro l
    induction l with
    | nil => intro ps h; exact h
    | cons a l ih =>
      intro ps h
      have e : s.periodCharge c (ts - 1000000) (a * s.tM c) r [] = ((s.periodCharge c (ts - 1000000) (a * s.tM c) r []).1, r) ∧
          (s.periodCharge c (ts - 1000000) (a * s.tM c) r []).1.dQ = 0 := by
        unfold State.periodCharge
        simp only [integral, Int.add_zero]
        exact ⟨by rw [Int.emod_eq_of_lt h0 h1], Int.ediv_eq_zero_of_lt h0 h1⟩
      rw [List.foldl_cons]
      dsimp only
      rw [e.1]
      exact ih _ (by rw [List.map_append, List.foldl_append, h]; simp [e.2])
  exact f _ [] rfl
/-- The integrator at a strobe: the accumulator gains the whole units of what it carried and integrated. -/
theorem integrate_es (s : State) (c : ChainId) (ts : Nat) (run hib : Int) (shunt : List (Nat × Int)) (t : State)
    (ht : t = integrate s c ts run hib shunt) (raw : Int)
    (hr : raw = (s.es c).accRem + run + hib * 1000000000 / (max 1 s.pwr.hibHz : Nat)) :
    (t.es c).accLive = (t.es c).acc ∧ (∃ x : Snapshot, (t.es c).cci.getLast? = some x ∧ x.ts = ts ∧ x.acc = (t.es c).acc ∧ x.epoch = (s.es c).epoch ∧
      (t.es c).acc = (s.es c).accLive + raw / s.shuntUnit c + (x.periods.map (·.dQ)).foldl (· + ·) 0) ∧
    (shunt = [] → (t.es c).acc = (s.es c).accLive + raw / s.shuntUnit c) ∧
    (∀ k, t.sen k = s.sen k) ∧ (∀ k, t.chain k = s.chain k) ∧ t.meas = s.meas := by
  subst hr
  unfold integrate at ht
  extract_lets e d raw ms a at ht
  have p := pushSnapshot_es (s.onEs c fun x => { x with acc := a, accLive := a, accRem := ms.2 }) c { ts := ts, acc := a, epoch := e.epoch, periods := ms.1 }
  rw [← ht, onEs_self] at p
  refine ⟨p.2.1.trans p.1.symm, ⟨_, p.2.2.1, rfl, p.1.symm, rfl, p.1⟩, fun hs => ?_, fun k => (p.2.2.2.1 k).trans (by cases c <;> cases k <;> rfl),
    fun k => (p.2.2.2.2.1 k).trans (by cases c <;> cases k <;> rfl), p.2.2.2.2.2.trans (by cases c <;> rfl)⟩
  rw [p.1]
  have z : 0 < s.shuntUnit c := by unfold State.shuntUnit; omega
  have q := msCharges_nil s c ts (raw % d) (Int.emod_nonneg _ (by show s.shuntUnit c ≠ 0; omega)) (Int.emod_lt_of_pos _ z)
  have q' : (ms.1.map (·.dQ)).foldl (· + ·) 0 = 0 := by subst hs; exact q
  show e.accLive + raw / d + (ms.1.map (·.dQ)).foldl (· + ·) 0 = _
  rw [q', Int.add_zero]
/-- The filter step of a strobe touches the chain's sentinel unit alone. -/
theorem filterStrobe_effect (s : State) (c : ChainId) (i : Option Int) :
    ((filterStrobe s c i).sen c).iRaw = i ∧ ((filterStrobe s c i).sen c).strobed = (s.sen c).strobed ∧
    (∀ m : Fin 32, ((filterStrobe s c i).sen c).recs[m].cntMark = ((filterStrobe s c i).sen c).recs[m].cnt) ∧
    (∀ k, (filterStrobe s c i).es k = s.es k) ∧ (filterStrobe s c i).img = s.img ∧ (filterStrobe s c i).pwr = s.pwr ∧
    (∀ k, (filterStrobe s c i).chain k = s.chain k) ∧ (filterStrobe s c i).meas = s.meas := by
  unfold filterStrobe
  extract_lets sn corner f s1
  have g (u : State) (hu : u = s1 ∨ u = logEvent s1 0x3013 corner sn.sseq) : (u.sen c).iRaw = i ∧ (u.sen c).strobed = (s.sen c).strobed ∧
      (∀ m : Fin 32, (u.sen c).recs[m].cntMark = (u.sen c).recs[m].cnt) ∧ (∀ k, u.es k = s.es k) ∧ u.img = s.img ∧ u.pwr = s.pwr ∧
      (∀ k, u.chain k = s.chain k) ∧ u.meas = s.meas := by
    have e : u.sen c = s1.sen c := by rcases hu with h | h <;> rw [h]; exact logEvent_sen _ _ _ _ _ _
    rw [e, show s1.sen c = _ from onSen_self _ _ _]
    refine ⟨rfl, rfl, fun m => by simp, ?_⟩
    rcases hu with h | h <;> rw [h]
    · exact ⟨fun k => onSen_es _ _ _ _, by cases c <;> rfl, by cases c <;> rfl, fun k => onSen_chain _ _ _ _, by cases c <;> rfl⟩
    · exact ⟨fun k => (by cases c <;> cases k <;> rfl), by cases c <;> rfl, by cases c <;> rfl, fun k => (by cases c <;> cases k <;> rfl), by cases c <;> rfl⟩
  split
  · exact g _ (.inr rfl)
  · exact g _ (.inl rfl)
theorem resortChain_iMeas (s : State) (c k : ChainId) : ((resortChain s c).chain k).iMeas = (s.chain k).iMeas := by
  unfold resortChain
  dsimp only
  rw [nextFree_chain, onChain_at]
  split
  · next e => subst e; rfl
  · rfl
theorem refreshSpan_iMeas (s : State) (c k : ChainId) : ((refreshSpan s c).chain k).iMeas = (s.chain k).iMeas := by
  unfold refreshSpan
  extract_lets sd sc fd fc s1 s2
  have e1 : (s1.chain k).iMeas = (s.chain k).iMeas := by
    show ((s.onChain c _).chain k).iMeas = _
    rw [onChain_at]
    split
    · next e => subst e; rfl
    · rfl
  have e2 : s2.chain k = s1.chain k := by
    show (if _ then s1 else _).chain k = _
    split
    · rfl
    · exact logEvent_chain _ _ _ _ _ _
  split
  · exact (congrArg Chain.iMeas e2).trans e1
  · exact (congrArg Chain.iMeas ((logEvent_chain _ _ _ _ _ _).trans e2)).trans e1
@[simp] theorem setVCh_es (s : State) (c k : ChainId) (v : Option Nat) : (setVCh s c v).es k = s.es k := by cases k <;> rfl
theorem countMissing_es (s : State) (c k : ChainId) : (countMissing s c).es k = s.es k := es_of (by simp) (by simp) k
theorem countMissing_chain (s : State) (c k : ChainId) : (countMissing s c).chain k = s.chain k := chain_of (by simp) (by simp) k
theorem limits_sign (s : State) (c : ChainId) : 0 ≤ (s.limits c).1 ∧ (s.limits c).2 ≤ 0 := by
  have pos (a : Int) (b : Nat) (h : 0 ≤ a) : 0 ≤ tdiv a b := Int.tdiv_nonneg h (by omega)
  have neg (a : Int) (b : Nat) (h : a ≤ 0) : tdiv a b ≤ 0 := by unfold tdiv; have q := Int.tdiv_nonneg (a := -a) (b := (b : Int)) (by omega) (by omega); rw [Int.neg_tdiv] at q; omega
  have f : 0 ≤ (s.fullLimits c).1 ∧ (s.fullLimits c).2 ≤ 0 := by
    unfold State.fullLimits
    extract_lets ch base al d0 c0 f d1 c1
    have hd : 0 ≤ d1 := by
      show 0 ≤ (if _ then (0 : Int) else tdiv (d0 * f) 1000)
      split
      · exact Int.le_refl _
      · exact pos _ 1000 (Int.mul_nonneg (by omega) (by omega))
    have hc : c1 ≤ 0 := by
      show (if _ then (0 : Int) else tdiv (c0 * f) 1000) ≤ 0
      split
      · exact Int.le_refl _
      · exact neg _ 1000 (Int.mul_nonpos_of_nonpos_of_nonneg (by omega) (by omega))
    split
    · exact ⟨Int.le_refl _, Int.le_refl _⟩
    · exact ⟨hd, hc⟩
  unfold State.limits
  extract_lets ch l h half
  have hh : 0 ≤ h.1 ∧ h.2 ≤ 0 := by
    show 0 ≤ (if _ then (tdiv l.1 2, tdiv l.2 2) else l).1 ∧ (if _ then (tdiv l.1 2, tdiv l.2 2) else l).2 ≤ 0
    split
    · exact ⟨pos _ 2 f.1, neg _ 2 f.2⟩
    · exact f
  have ha : 0 ≤ half := by show (0 : Int) ≤ (ch.learn.amp : Int) / 2; omega
  split
  · dsimp only; omega
  · exact hh
/-! ### Ring ports -/
@[simp] theorem onPort_self (s : State) (p : RPort) (f : RingPort → RingPort) : (s.onPort p f).port p = f (s.port p) := by cases p <;> rfl
theorem onPort_at (s : State) (p q : RPort) (f : RingPort → RingPort) : (s.onPort p f).port q = if q = p then f (s.port p) else s.port q := by
  cases p <;> cases q <;> rfl
@[simp] theorem logEvent_port (s : State) (n a b d : Nat) (p : RPort) : (logEvent s n a b d).port p = s.port p := by cases p <;> rfl
theorem portDown_effect (s : State) (p : RPort) (c : PortCause) (h : (s.port p).isUp = true) :
    portDown s p c = logEvent (s.onPort p fun r => { r with isUp := false, hello := false, lockAt := s.clock, pingOpen := false }) 0xA102 p.num c.num := by
  unfold portDown
  rw [if_pos h]
theorem logged_of {s x : State} (h1 : x.evt = s.evt) (h2 : x.pwr = s.pwr) (h3 : x.tim = s.tim) (h4 : x.clock = s.clock) (a b c d : Nat)
    (h5 : hwEvent a = false ∨ x.evtWaits = s.evtWaits := by first | exact Or.inl rfl | exact Or.inr rfl | assumption) :
    (logEvent x a b c d).evt = (logEvent s a b c d).evt :=
  logEvent_cong h1 (by unfold eventTime; rw [h2, h3, h4]) h4 a b c d h5
/-- What the ring hands on to the engines from an ARM_CYCLE. -/
theorem urg_spl {s t : State} {code seq : Nat} (h : t = actUrgent s code seq) : t.spl.lastArm = s.spl.lastArm ∧ t.spl.ring = s.spl.ring ∧
    t.spl.size = s.spl.size ∧ t.spl.position = s.spl.position ∧ t.spl.posValid = s.spl.posValid := by
  have wa (x : State) : (watchActs x).spl = x.spl := by simp
  have ub (x : State) : (urgBlock x).spl = x.spl := (same_of_drop (m := 558345789440) (urgBlock_drop x (by decide)) .spl (by decide))
  have uy (x : State) : (urgBypass x).spl = x.spl := (same_of_drop (m := 5098202701824) (urgBypass_drop x (by decide)) .spl (by decide))
  have ur (x : State) : (urgResume x).spl = x.spl := (same_of_drop (m := 4406636478464) (urgResume_drop x (by decide)) .spl (by decide))
  rw [h]
  unfold actUrgent
  split
  · exact ⟨rfl, rfl, rfl, rfl, rfl⟩
  · dsimp only
    split
    · rw [wa, ub]; exact ⟨rfl, rfl, rfl, rfl, rfl⟩
    · rw [wa, uy]; exact ⟨rfl, rfl, rfl, rfl, rfl⟩
    · rw [ur]; exact ⟨rfl, rfl, rfl, rfl, rfl⟩
    · exact ⟨rfl, rfl, rfl, rfl, rfl⟩
theorem ringTag_spl (s : State) (tag : BitVec 64) : (ringTag s tag).spl.lastArm = s.spl.lastArm ∧ (ringTag s tag).spl.ring = s.spl.ring ∧
    (ringTag s tag).spl.size = s.spl.size ∧ (ringTag s tag).spl.position = s.spl.position ∧ (ringTag s tag).spl.posValid = s.spl.posValid := by
  have bc (x : State) : (blockChains x).spl = x.spl := (same_of_drop (m := 150400368640) (blockChains_drop x (by decide)) .spl (by decide))
  have bk (x : State) : (blockCell x 0).spl = x.spl := by simp
  unfold ringTag
  split
  · exact ⟨rfl, rfl, rfl, rfl, rfl⟩
  · split
    · split <;> exact ⟨rfl, rfl, rfl, rfl, rfl⟩
    · extract_lets adopt t0 t1 s1
      have e (f : Img → Img) : (s1.onImg f).spl = s1.spl := rfl
      rw [e]
      show (_ = _) ∧ _
      have q : s1.spl = s.spl ∨ s1.spl = t1.spl := by
        show (if _ then s else blockChains _).spl = _ ∨ (if _ then s else blockChains _).spl = _
        split
        · exact Or.inl rfl
        · right
          rw [bc]
          split
          · exact bk _
          · rfl
      rcases q with q | q <;> rw [q] <;> exact ⟨rfl, rfl, rfl, rfl, rfl⟩
/-- A frame of a new cycle is delivered and the position of the device stays. -/
theorem deliverArm_spl (s : State) (f : ArmCycle) (b : List Byte) : (deliverArm s f b).spl.lastArm = some f ∧ (deliverArm s f b).spl.ring = s.spl.ring ∧
    (deliverArm s f b).spl.size = s.spl.size ∧ (deliverArm s f b).spl.position = s.spl.position ∧ (deliverArm s f b).spl.posValid = s.spl.posValid := by
  unfold deliverArm
  extract_lets s1 s2 s3 s4 s5
  have e3 := ringTag_spl s2 f.ringTag
  have e4 : s4.spl = s3.spl := (same_of_drop (m := 150400368704) (gluePhase_drop s3 f.gluePhase f.glueTag f.tG (by decide)) .spl (by decide))
  have e5 : s5.spl = s4.spl := by
    show (if _ then regainRef (takeModeFrame s4 f) f else s4).spl = _
    split
    · exact (same_of_drop (m := 1099528413184) (regainRef_drop (takeModeFrame s4 f) f (by decide)) .spl (by decide)).trans rfl
    · rfl
  have e : s5.spl.lastArm = some f ∧ s5.spl.ring = s.spl.ring ∧ s5.spl.size = s.spl.size ∧ s5.spl.position = s.spl.position ∧ s5.spl.posValid = s.spl.posValid := by
    have e2 : s2.spl = s1.spl := by
      show (if _ then s1.onImg _ else s1).spl = _
      split <;> rfl
    rw [e5, e4]
    have r := e3.1.trans (congrArg Spl.lastArm e2)
    exact ⟨r.trans rfl, e3.2.1.trans ((congrArg Spl.ring e2).trans rfl), e3.2.2.1.trans ((congrArg Spl.size e2).trans rfl), e3.2.2.2.1.trans ((congrArg Spl.position e2).trans rfl), e3.2.2.2.2.trans ((congrArg Spl.posValid e2).trans rfl)⟩
  split
  · have u := urg_spl (rfl : _ = actUrgent s5 f.urgCode f.urgSeq)
    exact ⟨u.1.trans e.1, u.2.1.trans e.2.1, u.2.2.1.trans e.2.2.1, u.2.2.2.1.trans e.2.2.2.1, u.2.2.2.2.trans e.2.2.2.2⟩
  · exact e
theorem blockCell_legs {s : State} (c : Nat) (h : s.arm.bypassed = false) (l : Leg) : ((blockCell s c).leg l).st = .hiZ := by
  unfold blockCell
  rw [if_neg (by rw [h]; exact Bool.false_ne_true)]
  dsimp only
  rw [refreshBridge_leg]
  split <;> cases l <;> rfl
theorem endLearnCycle_leg (s : State) (c : ChainId) (b : Bool) (l : Leg) : (endLearnCycle s c b).leg l = s.leg l := by
  unfold endLearnCycle
  split
  · cases c <;> cases l <;> rfl
  · rfl
theorem endAct_leg (s : State) (cause : Nat) (i : Fin 4) (l : Leg) : (endAct s cause i).leg l = s.leg l := by
  unfold endAct
  split
  · rfl
  · next v _ =>
    extract_lets s1
    have e1 : s1.leg l = s.leg l := by cases l <;> rfl
    have g {x y : State} (h : x.glk = y.glk) : x.leg l = y.leg l := leg_eq (by rw [h]) (by rw [h]) l
    split
    · exact (endLearnCycle_leg _ _ _ _).trans e1
    · exact (leg_eq (s := s1) rfl rfl l).trans e1
    · split
      · exact e1
      · exact (g (setHeater_glk _ _ _)).trans ((leg_eq (s := s1) rfl rfl l).trans e1)
    · exact (leg_eq (s := s1) rfl rfl l).trans e1
    all_goals exact e1
theorem watchActs_leg (s : State) (l : Leg) : (watchActs s).leg l = s.leg l := by
  unfold watchActs
  refine foldl_keep (fun t => t.leg l) (fun t i => ?_) _ s
  split
  · rfl
  · split
    · rfl
    · exact endAct_leg _ _ _ _
theorem judgePosition_last (s : State) (f : ArmCycle) : (judgePosition s f).spl.lastArm = s.spl.lastArm := by
  have ec (x : State) (p : Nat) : (enterConflict x p).spl.lastArm = x.spl.lastArm := by
    unfold enterConflict; split <;> rfl
  have ca (x : State) (v : Option (Nat × Nat × Nat)) : (countAgreement x v).spl.lastArm = x.spl.lastArm := rfl
  unfold judgePosition
  dsimp only
  split
  · split
    · rfl
    · split <;> rfl
  · split
    · split
      · exact (ca _ _).trans (ec _ _)
      · rfl
    · next w _ =>
      have e0 : (if s.spl.posValid = true then s else s.onSpl fun x => { x with ring := w.1, size := w.2.1, position := w.2.2, posValid := true }).spl.lastArm = s.spl.lastArm := by
        split <;> rfl
      revert e0
      generalize (if s.spl.posValid = true then s else s.onSpl fun x => { x with ring := w.1, size := w.2.1, position := w.2.2, posValid := true }) = s0
      intro e0
      split
      · exact (ca _ _).trans ((ec _ _).trans e0)
      · exact e0
/-! ### Activities -/
theorem endAct_acts (s : State) (cause : Nat) (k i : Fin 4) :
    (endAct s cause k).mnt.acts[i] = if i = k then none else s.mnt.acts[i] := by
  have base (f : Mnt → Mnt) (hf : ∀ m, (f m).acts = m.acts.set k none) (x : State) (hx : x.mnt = f s.mnt) :
      x.mnt.acts[i] = if i = k then none else s.mnt.acts[i] := by
    rw [hx, hf]
    by_cases e : i = k
    · subst e; simp
    · have n : k.val ≠ i.val := fun q => e (Fin.ext q.symm)
      rw [if_neg e]
      simp [Vector.getElem_set, n]
  unfold endAct
  split
  · next h =>
    by_cases e : i = k
    · subst e; rw [if_pos rfl]; exact h
    · rw [if_neg e]
  · next v h =>
    extract_lets s1
    have e1 : s1.mnt = { s.mnt with acts := s.mnt.acts.set k none } := rfl
    split
    · refine base (fun m => { m with acts := m.acts.set k none }) (fun _ => rfl) _ ?_
      rw [← e1]
      unfold endLearnCycle
      split
      · cases v.chain <;> rfl
      · rfl
    · exact base (fun m => { m with acts := m.acts.set k none }) (fun _ => rfl) _ e1
    · split
      · exact base (fun m => { m with acts := m.acts.set k none }) (fun _ => rfl) _ e1
      · refine base (fun m => { m with acts := m.acts.set k none, heatTest := none }) (fun _ => rfl) _ ?_
        rw [setHeater_mnt]
        rfl
    · exact base (fun m => { m with acts := m.acts.set k none, exportQ := [] }) (fun _ => rfl) _ rfl
    all_goals exact base (fun m => { m with acts := m.acts.set k none }) (fun _ => rfl) _ e1
theorem endLearn_acts (s : State) (c : ChainId) (cause : Nat) (i : Fin 4) (v : Activity) (h : s.mnt.acts[i] = some v) (n : isLearn c (some v) = false) :
    (endLearn s c cause).mnt.acts[i] = some v := by
  have q : ∀ (l : List (Fin 4)) (x : State), x.mnt.acts[i] = some v →
      (l.foldl (fun t i => if isLearn c t.mnt.acts[i] then endAct t cause i else t) x).mnt.acts[i] = some v := by
    intro l
    induction l with
    | nil => exact fun x hx => hx
    | cons a r ih =>
      intro x hx
      refine ih _ ?_
      dsimp only
      split
      · next y =>
        have e : i ≠ a := by
          intro e
          subst e
          rw [hx, n] at y
          cases y
        rw [endAct_acts, if_neg e]
        exact hx
      · exact hx
  refine q _ _ ?_
  unfold endLearnCycle
  split
  · cases c <;> exact h
  · exact h
theorem startOpening_acts (s : State) (c : ChainId) (i : Fin 4) (v : Activity) (h : s.mnt.acts[i] = some v) (n : isLearn c (some v) = false) :
    (startOpening s c).mnt.acts[i] = some v := by
  unfold startOpening enterBlock
  have w (x : State) : (writeFMod x c).mnt = x.mnt := by simp
  dsimp only
  rw [setCoil_mnt]
  have o (x : State) (f : Chain → Chain) : (x.onChain c f).mnt = x.mnt := by cases c <;> rfl
  rw [o, w, o]
  exact endLearn_acts s c 3 i v h n
/-- An activity that is admitted. -/
theorem admitAct_effect {s : State} {p : Requester} {code : ActCode} {c : ChainId} {m : Fin 32} {pre : Bool} {begins : State → State} {i : Fin 4}
    (h1 : s.holder (code.res c) (s.actMask p code) = none) (h2 : s.freeSlot = some i) (h3 : s.arm.owner = true) (h4 : pre = true) :
    admitAct s p code c m pre begins = (begins (watchReady (logEvent (s.onMnt fun t => { t with acts := t.acts.set i (some { code := code, port := p, chain := c, mod := m, res := code.res c, startedAt := s.clock, timeout := if code.timed then some (s.clock + secNs * s.im.actTimeout) else none, mask := s.actMask p code, answered := 0, value := s.mnt.argValue[p.idx] }) }) 0xC001 code.num p.num i.val)), 0x00) := by
  unfold admitAct
  dsimp only
  rw [h1]
  dsimp only
  rw [h2]
  dsimp only
  rw [if_neg (by rw [h3, h4]; simp)]
theorem send_mnt' (s : State) (o : Out) : (send s o).mnt = s.mnt := rfl
theorem srqAll_mnt (c : ChainId) (op : Nat) (arg : List Byte) (l : List (Fin 32)) (s : State) :
    (l.foldl (fun t m => sendSrq t c m op arg) s).mnt = s.mnt := foldl_keep State.mnt (fun t m => by simp) l s
theorem heatersOff_mnt (l : List (Fin 12)) (s : State) :
    (l.foldl (fun t n => if heatOnSt t.thm.heat[n] then setHeater t n .off else t) s).mnt = s.mnt := by
  refine foldl_keep State.mnt (fun t n => ?_) l s
  split
  · exact setHeater_mnt _ _ _
  · rfl
/-- The test of the first heater of a list. -/
theorem testHeater_effect (s : State) (n : Fin 12) (l : List (Fin 12)) :
    (testHeater s (n :: l)).mnt = { s.mnt with heatTest := some (n, s.clock + secNs * s.im.heaterTestOn) } ∧
    (testHeater s (n :: l)).thm.heat[n] = .forcedOn ∧ (testHeater s (n :: l)).lsw.ch[n].want = true := by
  have e := setHeater_effect (s.onMnt fun m => { m with heatTest := some (n, s.clock + secNs * s.im.heaterTestOn) }) n .forcedOn
  unfold testHeater
  refine ⟨(setHeater_mnt _ _ _).trans rfl, ?_, e.2.2.2.2⟩
  have q := congrArg (fun v : Vector HeatSt 12 => v[n]) e.1
  exact (q : _).trans (by simp)
theorem opMntStop_acts {s : State} {slot : Fin 4} (x : State) (k : Nat) (h : x = endAct s k slot) :
    x.mnt.acts[slot] = none ∧ ∀ j, j ≠ slot → x.mnt.acts[j] = s.mnt.acts[j] := by
  rw [h]
  exact ⟨by rw [endAct_acts, if_pos rfl], fun j hj => by rw [endAct_acts, if_neg hj]⟩
/-! ### What the arm keeps while its other fields move -/
/-- The newest boundary and the mode in force. -/
def Arm.bm (a : Arm) : Nat × ArmMode := (a.boundary, a.mode)
theorem blockCell_bm (s : State) (n : Nat) : (blockCell s n).arm.bm = s.arm.bm := by
  unfold blockCell
  dsimp only
  split
  · rfl
  · rw [refreshBridge_arm]
    split <;> rfl
theorem immediateActions_bm (s : State) (i : BitVec 8) (e : Fin 64) : (immediateActions s i e).arm.bm = s.arm.bm := by
  unfold immediateActions
  extract_lets s1 s2 s3 s4 s5 now s6
  have ii {p : Prop} [Decidable p] {a b : State} {x : Nat × ArmMode} (ha : a.arm.bm = x) (hb : b.arm.bm = x) : (if p then a else b).arm.bm = x := by
    split <;> assumption
  have e1 : s1.arm.bm = s.arm.bm := ii (blockCell_bm _ _) rfl
  have sh (x : State) (l : Leg) : (setHiZ x l 6).arm = x.arm := by cases l <;> rfl
  have e2 : s2.arm.bm = s.arm.bm := ii ((congrArg Arm.bm (sh _ _)).trans e1) e1
  have e3 : s3.arm.bm = s.arm.bm := ii ((congrArg Arm.bm (sh _ _)).trans e2) e2
  have bl (x : State) (c : ChainId) : (blockAll (requestBlock x c) c).arm = x.arm := ((same_of_drop (m := 137439936512) (blockAll_drop _ c (by decide)) .arm (by decide))).trans ((same_of_drop (m := 150400368640) (requestBlock_drop x c (by decide)) .arm (by decide)))
  have e4 : s4.arm.bm = s.arm.bm := ii ((congrArg Arm.bm (bl _ _)).trans e3) e3
  have e5 : s5.arm.bm = s.arm.bm := ii ((congrArg Arm.bm (bl _ _)).trans e4) e4
  have e6 : s6.arm.bm = s.arm.bm := ii e5 e5
  rw [refreshBridge_arm]
  exact e6
theorem fireEntry_bm (b : Bool) (s : State) (e : Fin 64) : (fireEntry b s e).arm.bm = s.arm.bm := by
  unfold fireEntry
  extract_lets r now s1 s2 s3
  have e1 : s1.arm = s.arm := State.onPrt_arm _ _
  have e2 : s2.arm.bm = s.arm.bm := by
    have q : s2.arm = (immediateActions s1 r.immediate e).arm := same_of_drop (m := 12960628736) (endJig_drop _ (by decide)) .arm (by decide)
    rw [q, immediateActions_bm, e1]
  have e3 : s3.arm = s2.arm := logEvent_arm s2 0x1010 _ _ _
  split
  · have q : (countFiring s3 e).arm = s3.arm := same_of_drop (m := 16777216) (countFiring_drop _ e (by decide)) .arm (by decide)
    rw [q, e3, e2]
  · rw [e3, e2]
theorem raiseHeld_bm (s : State) (src : Nat) : (raiseHeld s src).arm.bm = s.arm.bm := by
  unfold raiseHeld sourceUp
  split
  · rfl
  · exact foldl_keep (fun t => t.arm.bm) (fun t a => fireEntry_bm _ _ _) _ _
theorem releaseLeg_bm (s : State) (l : Leg) : (releaseLeg s l).arm.bm = s.arm.bm := by
  unfold releaseLeg
  split
  · rfl
  · split
    · exact congrArg Arm.bm (same_of_drop (m := 8589967360) (startRetest_drop s l (by decide)) .arm (by decide))
    · unfold diagAfterRelease
      split <;> rfl
theorem releaseEntry_bm (s : State) (e : Fin 64) : (releaseEntry s e).arm.bm = s.arm.bm := by
  unfold releaseEntry
  split
  · rfl
  · extract_lets old s1 ended s2 s3 s4
    have e2 : s2.arm = s.arm := (refreshBridge_arm _).trans rfl
    have e3 : s3.arm.bm = s.arm.bm := by
      show (if _ then diagAfterRelease s2 else s2).arm.bm = _
      split
      · unfold diagAfterRelease
        split
        · exact congrArg Arm.bm e2
        · exact (show _ = s2.arm.bm from rfl).trans (congrArg Arm.bm e2)
      · exact congrArg Arm.bm e2
    have e4 : s4.arm.bm = s.arm.bm := by
      show (if _ then releaseLeg s3 .a else s3).arm.bm = _
      split
      · exact (releaseLeg_bm _ _).trans e3
      · exact e3
    rw [refreshBridge_arm]
    split
    · exact (releaseLeg_bm _ _).trans e4
    · exact e4
theorem releaseAtRun_bm (s : State) : (releaseAtRun s).arm.bm = s.arm.bm := by
  unfold releaseAtRun
  refine foldl_keep (fun t => t.arm.bm) (fun t a => ?_) _ _
  split
  · exact releaseEntry_bm _ _
  · rfl
theorem computeSets_bm (s : State) (r : RefFrame) (o b : Nat) : (computeSets s r o b).arm.bm = s.arm.bm := by
  unfold computeSets
  extract_lets inCycle legs
  cases legs with
  | nil => rfl
  | cons l0 tail =>
    dsimp only
    exact (foldl_keep (fun t => t.arm.bm) (fun u l => congrArg Arm.bm (same_of_drop (m := 8589950984) (commitLevel_drop u l _ _ _ (by decide)) .arm (by decide))) _ _).trans rfl
theorem loseRef_bm (s : State) (n : Nat) : (loseRef s n).arm.bm = s.arm.bm := by
  unfold loseRef
  split
  · rfl
  · extract_lets s1
    split
    · rfl
    · exact (raiseHeld_bm _ _).trans (blockCell_bm s1 0)
theorem takeReference_bm (s : State) (b : Nat) : (takeReference s b).arm.bm = s.arm.bm := by
  unfold takeReference
  split
  · rfl
  · split
    · rfl
    · extract_lets n s1 s2 s3
      have e2 : s2.arm.bm = s.arm.bm := rfl
      have e3 : s3.arm.bm = s.arm.bm := (computeSets_bm s2 _ _ _).trans e2
      split
      · exact (loseRef_bm _ _).trans e3
      · exact e3
theorem computeMembership_bm (s : State) (b : Nat) : (computeMembership s b).arm.bm = s.arm.bm := by
  have ns (c : Nat) (x : State) (p : Nat) : (noteSubst c x p).arm.bm = x.arm.bm := by
    unfold noteSubst
    split
    · dsimp only
      show (if _ then _ else x).arm.bm = _
      split <;> rfl
    · rfl
  have st (x : State) (l : Leg) (o b : Nat) : (armStart x l o b).arm.bm = x.arm.bm := by
    unfold armStart
    dsimp only
    split
    · rfl
    · cases l <;> rfl
  unfold computeMembership
  extract_lets c s1 keys own isIn k n mask o s2
  have e1 : s1.arm.bm = s.arm.bm := by
    show (if _ then _ else s).arm.bm = _
    split
    · exact foldl_keep (fun t => t.arm.bm) (fun t p => ns c t p) _ _
    · rfl
  have e2 : s2.arm.bm = s.arm.bm := (show s2.arm.bm = s1.arm.bm from rfl).trans e1
  split
  · exact (st _ _ _ _).trans ((st _ _ _ _).trans e2)
  · exact e2
theorem publishState_bm (s : State) (n : CellSt) : (publishState s n).arm.bm = s.arm.bm ∧ (publishState s n).arm.cell = n := by
  unfold publishState
  extract_lets old s1 begins
  refine ⟨?_, rfl⟩
  have e1 : s1.arm = s.arm := by
    show (if _ then stopLegs s else if _ then startLeg (startLeg s .a) .b else s).arm = _
    split
    · exact (same_of_drop (m := 549755846656) (stopLegs_drop s (by decide)) .arm (by decide))
    · split
      · exact ((same_of_drop (m := 549755863040) (startLeg_drop _ .b (by decide)) .arm (by decide))).trans ((same_of_drop (m := 549755863040) (startLeg_drop s .a (by decide)) .arm (by decide)))
      · rfl
  have e2 : (if begins then cancelTest s1 else s1).arm = s1.arm := by split <;> rfl
  exact (show _ = (if begins then cancelTest s1 else s1).arm.bm from rfl).trans (congrArg Arm.bm (e2.trans e1))
theorem takeMode_bm (s : State) (b : Nat) : (takeMode s b).arm.bm = (s.arm.boundary, s.modeAt b) := by
  unfold takeMode State.modeAt
  cases effective b s.arm.modes with
  | none => rfl
  | some f =>
    dsimp only
    split
    · rfl
    · split <;> rfl
/-- What a boundary of the arm cycle leaves. -/
theorem boundaryWork_effect (s : State) (b : Nat) : (boundaryWork s b).arm.bm = (b, s.modeAt b) ∧
    (s.arm.bypassed = true → (boundaryWork s b).arm.cell = .bypassed) := by
  unfold boundaryWork
  extract_lets s0 s1 s2 s2' s3 s4 p s5 s5' s6 s7 s8 s9 s10
  have a0 : s0.arm = s.arm := by
    show (countWindow (prunePubs s b)).arm = _
    exact ((same_of_drop (m := 64) (countWindow_drop _ (by decide)) .arm (by decide))).trans ((same_of_drop (m := 128) (prunePubs_drop s b (by decide)) .arm (by decide)))
  have e2 : s2.arm.bm = (b, s.modeAt b) := (takeMode_bm s1 b).trans (by
    have m : s1.modeAt b = s.modeAt b := by
      unfold State.modeAt
      show (match effective b s0.arm.modes with | some f => f.mode | none => s0.arm.mode) = _
      rw [a0] <;> rfl
    rw [m] <;> rfl)
  have e2' : s2'.arm.bm = (b, s.modeAt b) := by
    show (if _ then releaseAtRun s2 else s2).arm.bm = _
    split
    · exact (releaseAtRun_bm _).trans e2
    · exact e2
  have e3 : s3.arm.bm = (b, s.modeAt b) := by
    have w (x : State) : (watchValidMod x).arm.bm = x.arm.bm := by
      unfold watchValidMod
      dsimp only
      split
      · exact loseRef_bm _ _
      · rfl
    exact (w _).trans ((takeReference_bm _ _).trans e2')
  have e5 : s5.arm.bm = (b, s.modeAt b) := e3
  have e5' : s5'.arm.bm = (b, s.modeAt b) := by
    show (if _ then pairingError s5 0 else s5).arm.bm = _
    split
    · refine Eq.trans ?_ e5
      unfold pairingError
      split <;> rfl
    · exact e5
  have p6 := publishState_bm s5' s5'.boundaryState
  have a8 : s8.arm = s6.arm := by
    have f1 (x : State) (c : ChainId) : (chainAtBoundary x c).arm = x.arm := (same_of_drop (m := 150400368640) (chainAtBoundary_drop x c (by decide)) .arm (by decide))
    have f2 (x : State) (c : ChainId) : (energiseChain x c).arm = x.arm := (same_of_drop (m := 146096979968) (energiseChain_drop x c (by decide)) .arm (by decide))
    exact (forChains_keep State.arm f2 _).trans (forChains_keep State.arm f1 s7)
  have e9 : s9.arm.bm = (b, s.modeAt b) := (computeMembership_bm _ _).trans ((congrArg Arm.bm a8).trans (p6.1.trans e5'))
  have c9 : s9.arm.cell = s6.arm.cell := by
    have q : s9.arm.cell = s8.arm.cell := (same_of_drop (m := 8589959168) (computeMembership_drop s8 _ (by decide)) .cell (by decide)).1
    exact q.trans (congrArg Arm.cell a8)
  have e10 : s10.arm.bm = (b, s.modeAt b) ∧ s10.arm.cell = s9.arm.cell := by
    show (match _ with | none => s9 | some r => computeSets s9 r s9.arm.phaseNext (b + s9.cycleNs)).arm.bm = _ ∧ _
    have h : ∀ o : Option RefFrame, (match o with | none => s9 | some r => computeSets s9 r s9.arm.phaseNext (b + s9.cycleNs)).arm.bm = (b, s.modeAt b) ∧
        (match o with | none => s9 | some r => computeSets s9 r s9.arm.phaseNext (b + s9.cycleNs)).arm.cell = s9.arm.cell := by
      intro o
      cases o with
      | none => exact ⟨e9, rfl⟩
      | some r => exact ⟨(computeSets_bm _ _ _ _).trans e9, (same_of_drop (m := 8589959176) (computeSets_drop s9 r _ _ (by decide)) .cell (by decide)).1⟩
    exact h _
  have w (x : State) : (watchActs (refreshBridge (watchReady x))).arm = x.arm := ((same_of_drop (m := 12960628736) (watchActs_drop _ (by decide)) .arm (by decide))).trans ((refreshBridge_arm _).trans ((same_of_drop (m := 8589934656) (watchReady_drop x (by decide)) .arm (by decide))))
  rw [w]
  refine ⟨e10.1, fun h => ?_⟩
  rw [e10.2, c9, p6.2]
  have b5 : s5'.arm.bypassed = s.arm.bypassed := by
    have q3 : s3.arm.bypassed = s.arm.bypassed := by
      have r1 : s3.arm.bypassed = s2'.arm.bypassed :=
        ((same_of_drop (m := 1799684595712) (watchValidMod_drop _ (by decide)) .bypass (by decide))).trans ((same_of_drop (m := 1799684612104) (takeReference_drop s2' b (by decide)) .bypass (by decide)))
      have r2 : s2'.arm.bypassed = s2.arm.bypassed := by
        show (if _ then releaseAtRun s2 else s2).arm.bypassed = _
        split
        · exact (same_of_drop (m := 8606752768) (releaseAtRun_drop s2 (by decide)) .bypass (by decide))
        · rfl
      have r3 : s2.arm.bypassed = s1.arm.bypassed := (same_of_drop (m := 8589942784) (takeMode_drop s1 b (by decide)) .bypass (by decide))
      exact r1.trans (r2.trans (r3.trans (congrArg Arm.bypassed a0 : _)))
    have q5 : s5'.arm.bypassed = s5.arm.bypassed := by
      show (if _ then pairingError s5 0 else s5).arm.bypassed = _
      split
      · exact (same_of_drop (m := 8589942784) (pairingError_drop s5 0 (by decide)) .bypass (by decide))
      · rfl
    exact q5.trans q3
  unfold State.boundaryState
  rw [b5, h]
  rfl
theorem commitLevel_duty (u : State) (l : Leg) (n m : Nat) (d : Int) : (commitLevel u l n m d).arm.duty = u.arm.duty := by
  rw [same_of_drop (m := 8589950984) (commitLevel_drop u l n m d (by decide)) .arm (by decide)]
/-- The insertion that the sets of the next cycle carry, when leg A reloads in it. -/
theorem computeSets_duty (s : State) (r : RefFrame) (o b t : Nat) (h : s.nextReload .a = some t) (h1 : b ≤ t) (h2 : t < b + s.cycleNs) :
    (computeSets s r o b).arm.duty = some (s.insertion r (s.modeAt b) t).2.2.1 := by
  unfold computeSets
  extract_lets inCycle legs
  have hc : inCycle .a = true := by
    show (match s.nextReload .a with | none => false | some t => decide (b ≤ t) && decide (t < b + s.cycleNs)) = true
    rw [h]
    simp [h1, h2]
  have hl : legs = .a :: [Leg.b].filter inCycle := by
    show ([Leg.a, Leg.b].filter inCycle) = _
    rw [List.filter_cons, if_pos hc]
  rw [hl]
  dsimp only
  rw [h]
  exact (foldl_keep (fun t => t.arm.duty) (fun u l => commitLevel_duty u l _ _ _) _ _).trans rfl
theorem logStart_keep (x : State) : (logStart x).dev = x.dev ∧ (logStart x).sec = x.sec ∧ (logStart x).img = x.img := by
  unfold logStart
  dsimp only
  split <;> split <;> simp
/-- What a start without an image leaves. -/
theorem bootNone_effect (s : State) : (bootNone s).dev.phase = .noImage ∧ (bootNone s).img = s.img ∧ (bootNone s).sec.cntBoot = (s.sec.stored.1 + 1) % 2 ^ 32 ∧
    (bootNone s).sec.imgDigest = 0 ∧ (bootNone s).sec.fwDigests = Vector.replicate 8 0 := by
  have l := logStart_keep (measureBoot (s.onDev fun d => { d with phase := .noImage, serialLoaded := true }) none)
  unfold bootNone
  rw [logEvent_dev, logEvent_sec, logEvent_img]
  refine ⟨?_, ?_, ?_, ?_, ?_⟩
  · rw [l.1] <;> rfl
  · rw [l.2.2] <;> rfl
  · rw [l.2.1] <;> rfl
  · rw [l.2.1] <;> rfl
  · rw [l.2.1] <;> rfl
/-- What the shadow of a requester latches (R7). -/
theorem setShadow_latched (s : State) (p : Requester) (addr : Word) (v : Option Word) :
    (setShadow s p addr v).latched p addr = v ∧
    (∀ a, a ≠ addr → (setShadow s p addr v).latched p a = s.latched p a) ∧
    ∀ q : Requester, q ≠ p → ∀ a, (setShadow s p addr v).latched q a = s.latched q a := by
  have h (q : Requester) : (setShadow s p addr v).req.shadow[q.idx] = if q = p then (match v with
      | none => s.req.shadow[p.idx].filter fun x => x.1 != addr
      | some h => (addr, h) :: s.req.shadow[p.idx].filter fun x => x.1 != addr) else s.req.shadow[q.idx] := by
    unfold setShadow
    simp only [State.onReq_req, Fin.getElem_fin, Vector.getElem_set]
    have e : (p.idx.val = q.idx.val) = (q = p) := by cases p <;> cases q <;> simp [Requester.idx]
    simp only [e]
    all_goals
      split
      · next k => subst k; cases v <;> rfl
      · rfl
  have f (l : List (Word × Word)) (a : Word) (ha : a ≠ addr) : (l.filter fun x => x.1 != addr).find? (fun x => x.1 == a) = l.find? fun x => x.1 == a := by
    induction l with
    | nil => rfl
    | cons x r ih =>
      by_cases e : x.1 = addr
      · have n : x.1 ≠ a := fun k => ha (k.symm.trans e)
        rw [List.filter_cons_of_neg (by simp [e]), ih, List.find?_cons_of_neg (by simpa using n)]
      · rw [List.filter_cons_of_pos (by simpa using e)]
        by_cases k : x.1 = a
        · rw [List.find?_cons_of_pos (by simpa using k), List.find?_cons_of_pos (by simpa using k)]
        · rw [List.find?_cons_of_neg (by simpa using k), List.find?_cons_of_neg (by simpa using k), ih]
  refine ⟨?_, fun a ha => ?_, fun q hq a => ?_⟩
  · unfold State.latched
    rw [h, if_pos rfl]
    cases v with
    | none =>
      dsimp only
      have z : (s.req.shadow[p.idx].filter fun x => x.1 != addr).find? (fun x => x.1 == addr) = none := by
        rw [List.find?_eq_none]
        intro x hx
        have q := (List.mem_filter.mp hx).2
        simpa using q
      rw [z]
      rfl
    | some w => simp
  · unfold State.latched
    rw [h, if_pos rfl]
    cases v with
    | none => dsimp only; rw [f _ a ha]
    | some w =>
      dsimp only
      rw [List.find?_cons_of_neg (by simpa using Ne.symm ha), f _ a ha]
  · unfold State.latched
    rw [h, if_neg hq]
/-- What a read clears leaves the requests of the local bus as they were. -/
theorem clearRead_svcQ (s : State) (addr : Word) : (clearRead s addr).lbus.svcQ = s.lbus.svcQ := by
  have o {p : Prop} [Decidable p] {a b : State} {x : List SvcReq} (ha : a.lbus.svcQ = x) (hb : b.lbus.svcQ = x) : (if p then a else b).lbus.svcQ = x := by
    split <;> assumption
  unfold clearRead
  dsimp only
  split <;> try (unfold clearCha) <;> try (unfold clearSna)
  all_goals first | rfl | exact o rfl rfl | exact o rfl (o rfl rfl) | exact o rfl (o rfl (o rfl (o rfl rfl)))
/-- A read that latches a high word, or finds none latched, answers the register's value. -/
theorem regRead_current {s : State} {p : Requester} {addr : Word} {v : Word} (h1 : addr.toNat % 4 = 0) (h2 : readReg s p addr = some v)
    (h3 : s.right p .read addr = true) (h4 : isLowWord addr = true ∨ s.latched p addr = none) :
    ∃ x, regRead s p addr = (x, 0x00, v) ∧ x.dev.phase = s.dev.phase ∧ x.lbus.svcQ = s.lbus.svcQ ∧ x.outbox = s.outbox := by
  unfold regRead
  rw [if_neg (by omega), h2]
  dsimp only
  rw [if_pos h3]
  unfold readValue
  cases q : isLowWord addr with
  | true =>
    rw [if_pos rfl]
    refine ⟨_, rfl, ?_, ?_, ?_⟩ <;> unfold setShadow <;> rfl
  | false =>
    have h : s.latched p addr = none := by
      rcases h4 with h4 | h4
      · rw [q] at h4; cases h4
      · exact h4
    rw [if_neg Bool.false_ne_true, h]
    have d := clearRead_drop (fm := 11539570824) s addr (by decide)
    exact ⟨_, rfl, congrArg Dev.phase (same_of_drop d .dev (by decide)), clearRead_svcQ s addr, same_of_drop d .outbox (by decide)⟩
/-- A staging chunk that is taken, whether it is written at once or waits for a record write to end. -/
theorem opChunk_taken {s : State} {p : Requester} {off : Nat} {data : List Byte} (hm : s.memOk) (h3 : s.img.staging = .receiving)
    (h5 : s.right p .configure noAddr = true) (h6 : s.writePermit = true) (h7 : off = s.img.stageCount)
    (h8 : off + data.length ≤ 64 * s.img.stageLen) (h9 : off + data.length ≤ 0x600000) (h10 : s.est.writing = none → s.img.waiting = []) :
    ∃ x, opChunk p off data s = (x, 0x00) ∧ x.img.stageCount = off + data.length ∧ x.img.staging = .receiving ∧
      x.slotCells (!s.stagingSlot) = s.slotCells (!s.stagingSlot) ∧
      (∀ a, x.slotBytes s.stagingSlot a =
        if h : off ≤ a ∧ a < off + data.length then data[a - off]'(by omega) else s.slotBytes s.stagingSlot a) ∧
      x.dev = s.dev ∧ x.sec = s.sec ∧ x.spl = s.spl ∧ x.outbox = s.outbox ∧ x.drop 80 = s.drop 80 := by
  have held (b : Bool) : Memory.wf (s.slotHeld b) = true := by cases b; exact hm.1; exact hm.2
  have w : Memory.wf (s.slotCells s.stagingSlot) = true := by
    unfold State.slotCells
    rw [if_pos (beq_self_eq_true _)]
    generalize s.img.waiting = l
    induction l with
    | nil => exact held _
    | cons x l ih => exact nvmWrite_wf _ _ ih
  unfold opChunk
  have x : (s.img.staging == Staging.erasing) = false := by rw [h3] <;> rfl
  simp only [h5, h6, x, Bool.not_true, Bool.or_false, Bool.false_eq_true, if_false]
  rw [if_neg (by unfold slotSize; omega)]
  cases hw : s.est.writing with
  | some v =>
    rw [if_pos (by rfl)]
    refine ⟨_, rfl, rfl, h3, ?_, fun a => ?_, rfl, rfl, rfl, rfl, ?_⟩
    · have n : ((!s.stagingSlot) == s.stagingSlot) = false := by cases s.stagingSlot <;> rfl
      show (if (!s.stagingSlot) == s.stagingSlot then _ else _) = (if (!s.stagingSlot) == s.stagingSlot then _ else _)
      rw [n]
      rfl
    · have k := nvmRead_write (m := s.slotCells s.stagingSlot) off data a w
      refine Eq.trans ?_ k
      show nvmRead (if s.stagingSlot == s.stagingSlot then _ else _) a = nvmRead (nvmWrite (if s.stagingSlot == s.stagingSlot then _ else _) off data) a
      rw [beq_self_eq_true]
      rfl
    · simp only [↓State.onImg_drop, Nat.reduceAnd, implies_true, or_true, true_or]
  | none =>
    rw [if_neg (by decide)]
    have e := h10 hw
    have c (b : Bool) : s.slotCells b = s.slotHeld b := by unfold State.slotCells; rw [e]; split <;> rfl
    refine ⟨_, rfl, rfl, ?_, ?_, fun a => ?_, rfl, rfl, rfl, rfl, ?_⟩
    · cases h : s.stagingSlot <;> exact h3
    · rw [c]
      unfold State.slotCells
      have z : (s.onImg fun i => { putSlot i s.stagingSlot (nvmWrite (s.slotHeld s.stagingSlot) off data) with stageCount := off + data.length }).img.waiting = [] := by
        refine Eq.trans ?_ e
        cases s.stagingSlot <;> rfl
      rw [z]
      cases h : s.stagingSlot <;> split <;> rfl
    · have k := nvmRead_write (m := s.slotHeld s.stagingSlot) off data a (held _)
      have z : (s.onImg fun i => { putSlot i s.stagingSlot (nvmWrite (s.slotHeld s.stagingSlot) off data) with stageCount := off + data.length }).img.waiting = [] := by
        refine Eq.trans ?_ e
        cases s.stagingSlot <;> rfl
      unfold State.slotBytes
      rw [c]
      refine Eq.trans ?_ k
      unfold State.slotCells
      rw [z]
      cases h : s.stagingSlot <;> split <;> rfl
    · exact State.onImg_drop (by decide) (.inl (by decide)) (.inl (by decide)) (.inr fun x => by cases s.stagingSlot <;> rfl)
/-- Staging chunks that waited are in their slot; without any nothing changes. -/
theorem flushStaging_eq (s : State) : flushStaging s = s.onImg fun i =>
    { i with slotA := s.slotCells false, slotB := s.slotCells true, waiting := [] } := by
  unfold flushStaging
  cases h : s.img.waiting with
  | nil =>
    have c (b : Bool) : s.slotCells b = s.slotHeld b := by unfold State.slotCells; rw [h]; split <;> rfl
    simp only [c, List.isEmpty_nil, if_true]
    unfold State.slotHeld State.onImg
    simp only [Bool.false_eq_true, if_false, if_true]
    rw [← h]
  | cons x l =>
    rw [if_neg (by simp)]
    dsimp only
    have n : s.slotCells (!s.stagingSlot) = s.slotHeld (!s.stagingSlot) := by
      unfold State.slotCells
      cases s.stagingSlot <;> rfl
    revert n
    cases s.stagingSlot <;> (intro n; simp only [Bool.not_false, Bool.not_true] at n; rw [n] <;> rfl)

/-! ### The end of an enumeration -/
theorem sendEnds_outbox (f : Bool → Out) : ∀ (l : List Bool) (s : State), (sendEnds s l f).outbox = (l.map f).reverse ++ s.outbox
  | [], _ => rfl
  | e :: l, s => by
    refine (sendEnds_outbox f l (send s (f e))).trans ?_
    rw [List.map_cons, List.reverse_cons, List.append_assoc]
    rfl
theorem checkIdentity_sen (s : State) (c : ChainId) (m : Fin 32) (k : ChainId) : (checkIdentity s c m).sen k = s.sen k :=
  sen_of (same_of_drop (m := 12967968768) (checkIdentity_drop s c m (by decide)) .snA (by decide)) (same_of_drop (m := 12967968768) (checkIdentity_drop s c m (by decide)) .snB (by decide)) k
/-- A fold whose steps each leave a reading alone, or set it to a value, those of the listed element. -/
theorem foldl_sets {β γ : Type} [DecidableEq γ] (g : State → β) (v : β) {f : State → γ → State} (m : γ)
    (own : ∀ t, g (f t m) = v) (other : ∀ t j, j ≠ m → g (f t j) = g t) :
    ∀ (l : List γ) (s : State), g (l.foldl f s) = if m ∈ l then v else g s
  | [], s => by simp
  | a :: l, s => by
    refine (foldl_sets g v m own other l (f s a)).trans ?_
    by_cases h : a = m
    · subst h; simp [own]
    · have n : m ≠ a := fun e => h e.symm
      simp [n, other s a h]
/-- The sentinels' own registers, without the records. -/
def Sen.bare (x : Sen) : SenStage × Option Nat × Bool × Nat × Nat × Option Nat :=
  (x.stage, x.brk, x.intact, x.cntHead, x.cntTail, x.owDue)
theorem unlose_bare (s : State) (c : ChainId) (m : Fin 32) (k : ChainId) : ((unlose s c m).sen k).bare = (s.sen k).bare := by
  unfold unlose
  rw [onMod_sen]
  unfold State.onRec
  rw [onSen_at]
  split
  · next h => subst h; rfl
  · rfl
theorem watchActs_sen (s : State) (k : ChainId) : (watchActs s).sen k = s.sen k := sen_of (by simp) (by simp) k
theorem declareLost_bare (s : State) (c : ChainId) (m : Fin 32) (k : ChainId) : ((declareLost s c m).sen k).bare = (s.sen k).bare := by
  unfold declareLost
  split
  · rfl
  · dsimp only
    rw [watchActs_sen, logEvent_sen, onChain_sen, onMod_sen]
    unfold State.onRec
    rw [onSen_at]
    split
    · next h => subst h; rfl
    · rfl
theorem declareLost_rec (s : State) (c : ChainId) (m j : Fin 32) (h : j ≠ m) : ((declareLost s c m).sen c).recs[j] = (s.sen c).recs[j] := by
  unfold declareLost
  split
  · rfl
  · exact (congrArg (fun v : Sen => v.recs[j]) ((watchActs_sen _ _).trans ((logEvent_sen _ _ _ _ _ _).trans
      ((onChain_sen _ _ _ _).trans (onMod_sen _ _ _ _ _)))) : _).trans (onRec_other _ _ _ h)
theorem unlose_rec (s : State) (c : ChainId) (m j : Fin 32) : ((unlose s c m).sen c).recs[j] =
    if j = m then { (s.sen c).recs[m] with lost := false, absent := false, back := 0, backRuns := 0, misses := 0 } else (s.sen c).recs[j] := by
  have q (f : SenRec → SenRec) (g : ModRec → ModRec) : (((s.onRec c m f).onMod c m g).sen c).recs[j] = ((s.onRec c m f).sen c).recs[j] :=
    congrArg (fun v : Sen => v.recs[j]) (onMod_sen _ _ _ _ _)
  refine (q _ _).trans ?_
  split
  · next h => subst h; exact onRec_self _ _ _ _
  · next h => exact onRec_other _ _ _ h
theorem declareLost_lost (s : State) (c : ChainId) (m : Fin 32) : ((declareLost s c m).chain c).mods[m].lost = true := by
  cases h : (s.chain c).mods[m].lost
  · exact (declareLost_effect s c m h).2.1
  · unfold declareLost; rw [if_pos h]; exact h
theorem declareLost_lost_other (s : State) (c : ChainId) (m j : Fin 32) (h : j ≠ m) :
    ((declareLost s c m).chain c).mods[j].lost = (s.chain c).mods[j].lost := by
  unfold declareLost
  split
  · rfl
  · extract_lets s1 s2
    have w := watchActs_l (g := fun x => x.mods) (fun _ _ _ => rfl) (logEvent (s2.onChain c fun ch =>
      { ch with cntLost := bump 8 ch.cntLost, order := ch.order.filter (· != m) }) 0x200A m.val) c
    rw [logEvent_chain, onChain_self] at w
    refine (congrArg (fun v : Vector ModRec 32 => v[j].lost) w : _).trans ?_
    show (s2.chain c).mods[j].lost = _
    have n : m.val ≠ j.val := fun q => h (Fin.ext q.symm)
    unfold s2 State.onMod
    rw [onChain_self]
    show ((s1.chain c).mods.set m _)[j].lost = _
    rw [show s1.chain c = s.chain c from onRec_chain _ _ _ _ _]
    simp [n]
/-- What a settled enumeration leaves of the sentinels. -/
theorem settleModules_effect (s : State) (c : ChainId) :
    ((settleModules s c).sen c).bare = (s.sen c).bare ∧
    (∀ m ∈ s.modIdx, s.reached c m = true → ((settleModules s c).sen c).recs[m].lost = false ∧ ((settleModules s c).sen c).recs[m].misses = 0) ∧
    ∀ m ∈ s.modIdx, s.reached c m = false → ((settleModules s c).chain c).mods[m].lost = true := by
  unfold settleModules
  extract_lets s1
  refine ⟨?_, fun m hm hr => ?_, fun m hm hr => ?_⟩
  · refine (foldl_keep (fun t => (t.sen c).bare) (fun t m => declareLost_bare t c m c) _ _).trans ?_
    exact foldl_keep (fun t => (t.sen c).bare) (fun t m => (congrArg Sen.bare (checkIdentity_sen _ _ _ _)).trans (unlose_bare t c m c)) _ _
  · have k : ∀ (l : List (Fin 32)), m ∉ l → ∀ t, ((l.foldl (fun t m => declareLost t c m) t).sen c).recs[m] = (t.sen c).recs[m] := by
      intro l
      induction l with
      | nil => exact fun _ _ => rfl
      | cons a r ih =>
        intro h t
        refine (ih (fun q => h (List.mem_cons_of_mem _ q)) _).trans (declareLost_rec _ _ _ _ fun q => h (q ▸ List.mem_cons_self ..))
    have k1 := k (s.modIdx.filter fun m => !s.reached c m) (by simp [hr]) s1
    have q := foldl_sets (fun t : State => ((t.sen c).recs[m].lost, (t.sen c).recs[m].misses)) (false, 0)
      (f := fun t m => checkIdentity (unlose t c m) c m) m
      (fun t => by
        have e := (congrArg (fun v : Sen => v.recs[m]) (checkIdentity_sen (unlose t c m) c m c) : _).trans (unlose_rec t c m m)
        rw [if_pos rfl] at e
        exact congrArg (fun r : SenRec => (r.lost, r.misses)) e)
      (fun t j h => by
        have e := (congrArg (fun v : Sen => v.recs[m]) (checkIdentity_sen (unlose t c j) c j c) : _).trans (unlose_rec t c j m)
        rw [if_neg fun x => h x.symm] at e
        exact congrArg (fun r : SenRec => (r.lost, r.misses)) e)
      (s.modIdx.filter (s.reached c)) s
    rw [if_pos (by simp [hm, hr])] at q
    exact ⟨(congrArg SenRec.lost k1 : _).trans (congrArg Prod.fst q), (congrArg SenRec.misses k1 : _).trans (congrArg Prod.snd q)⟩
  · have q := foldl_sets (fun t : State => (t.chain c).mods[m].lost) true (f := fun t m => declareLost t c m) m
      (fun t => declareLost_lost t c m) (fun t j h => declareLost_lost_other t c j m fun x => h x.symm)
      (s.modIdx.filter fun m => !s.reached c m) s1
    exact (q : _).trans (if_pos (by simp [hm, hr]))
theorem anchor_modes (s : State) (c : Nat) : (anchorBoundary s c).arm.modes = s.arm.modes := by
  unfold anchorBoundary
  rw [State.onArm_arm]
theorem timeCopy_modes (s : State) (port : RPort) (f : ArmCycle) : (timeCopy s port f).arm.modes = s.arm.modes := by
  have st (x : State) (e : Int) (c : Nat) : (stepTime x e c).arm.modes = x.arm.modes := by
    unfold stepTime
    rw [anchor_modes, logWideS_arm, State.onTim_arm]
  have cg (x : State) (e : Int) : (countGood x e).arm = x.arm := (same_of_drop (m := 8589934848) (countGood_drop x e (by decide)) .arm (by decide))
  have sl (x : State) (e : Int) : (slewTime x e).arm = x.arm := (same_of_drop (m := 256) (slewTime_drop x e (by decide)) .arm (by decide))
  have d (x : State) (w : Bool) (e : Int) (c : Nat) : (discipline x w e c).arm.modes = x.arm.modes := by
    unfold discipline
    extract_lets y
    have ey : y.arm = x.arm := rfl
    split
    · split
      · exact congrArg Arm.modes ((sl _ _).trans ey)
      · exact congrArg Arm.modes ey
    · split
      · split
        · exact congrArg Arm.modes ey
        · exact (st _ _ _).trans (congrArg Arm.modes ey)
      · exact congrArg Arm.modes ((cg _ _).trans ((sl _ _).trans ey))
  have n (x : State) (c : Nat) : (newCopyCycle x c).arm.modes = x.arm.modes := by
    unfold newCopyCycle
    split
    · rfl
    · dsimp only
      split
      · exact d _ _ _ _
      · exact d _ _ _ _
      · rfl
  have k (x : State) : (noteSkew x).arm = x.arm := (same_of_drop (m := 8589934848) (noteSkew_drop x (by decide)) .arm (by decide))
  have fin (z : State) (hz : z.arm.modes = s.arm.modes) (q w : Bool) (e : Int) (c : Nat) :
      (if z.tim.copyUsed then z else if q then discipline z w e c else z).arm.modes = s.arm.modes := by
    split
    · exact hz
    · split
      · exact (d _ _ _ _).trans hz
      · exact hz
  unfold timeCopy
  extract_lets now s1
  have e1 : s1.arm.modes = s.arm.modes := n s f.cycle
  split
  · exact e1
  · refine fin _ ?_ _ _ _ _
    exact (congrArg Arm.modes (k _)).trans e1
theorem judgePosition_urg (s : State) (f : ArmCycle) : (judgePosition s f).spl.urgLatch = s.spl.urgLatch := by
  have ec (x : State) (p : Nat) : (enterConflict x p).spl.urgLatch = x.spl.urgLatch := by
    unfold enterConflict; split <;> rfl
  have ca (x : State) (v : Option (Nat × Nat × Nat)) : (countAgreement x v).spl.urgLatch = x.spl.urgLatch := rfl
  unfold judgePosition
  dsimp only
  split
  · split
    · rfl
    · split <;> rfl
  · split
    · split
      · exact (ca _ _).trans (ec _ _)
      · rfl
    · next w _ =>
      have e0 : (if s.spl.posValid = true then s else s.onSpl fun x => { x with ring := w.1, size := w.2.1, position := w.2.2, posValid := true }).spl.urgLatch = s.spl.urgLatch := by
        split <;> rfl
      revert e0
      generalize (if s.spl.posValid = true then s else s.onSpl fun x => { x with ring := w.1, size := w.2.1, position := w.2.2, posValid := true }) = s0
      intro e0
      split
      · exact (ca _ _).trans ((ec _ _).trans e0)
      · exact e0
/-- A register operation that finds no room is refused, and answered up to three times in a cycle. -/
theorem takeRegOp_full (s : State) (cycle : Nat) (o : RegOp) (h : ¬ s.heldOps < 6) :
    (takeRegOp cycle s o).spl.regQueue = s.spl.regQueue ∧
    (if (s.spl.refusals.filter fun c => c == cycle).length < 3
      then (takeRegOp cycle s o).spl.ansRefused = s.spl.ansRefused ++ [{ tag := o.tag, status := 6#8, addr := o.addr, data := 0 }] ∧
        (takeRegOp cycle s o).spl.cntRefused = s.spl.cntRefused
      else (takeRegOp cycle s o).spl.ansRefused = s.spl.ansRefused ∧ (takeRegOp cycle s o).spl.cntRefused = bump 8 s.spl.cntRefused) := by
  unfold takeRegOp
  rw [if_neg h]
  dsimp only
  by_cases q : (s.spl.refusals.filter fun c => c == cycle).length < 3
  · simp only [if_pos q]; exact ⟨rfl, rfl, rfl⟩
  · simp only [if_neg q]; exact ⟨rfl, rfl, rfl⟩
/-- Taking the waiting events reads only the event block and the clock. -/
theorem takeHwEvents_cong {s x : State} (h1 : x.evt = s.evt) (h2 : x.clock = s.clock) : (takeHwEvents x).evt = (takeHwEvents s).evt := by
  have key : ∀ (l : List Event) (s x : State), x.evt = s.evt → x.clock = s.clock →
      (l.foldl takeHwEvent x).evt = (l.foldl takeHwEvent s).evt := by
    intro l
    induction l with
    | nil => exact fun _ _ h _ => h
    | cons y r ih =>
      intro s x a b
      refine ih _ _ ?_ b
      unfold takeHwEvent
      simp only [State.onEvt_evt, a, b]
  unfold takeHwEvents
  simp only [State.onEvt_evt, h1, key _ s x h1 h2]
/-- Only events of hardware blocks enter EVT_HW. -/
theorem logEvent_hwQ (s : State) (a b c d : Nat) (h : hwEvent a = false) : (logEvent s a b c d).evt.hwQ = s.evt.hwQ := by
  unfold logEvent
  simp only [State.onEvt_evt, h, Bool.false_and, Evt.raise, cond_false]
  unfold Evt.log
  split <;> rfl
theorem refreshFire_hwQ (s : State) : (refreshFire s).evt.hwQ = s.evt.hwQ := by
  unfold refreshFire
  dsimp only
  repeat' (first | rfl | exact (logEvent_hwQ _ _ _ _ _ rfl).trans rfl | split)
theorem refreshBridge_hwQ (s : State) : (refreshBridge s).evt.hwQ = s.evt.hwQ :=
  (refreshFire_hwQ _).trans (by rw [refreshWords_evt])

end Sys2Proof.Machine
end

