-- ==== Sys2Proof/Laws/Invariants.lean ====
section
/-! SUPPORT. Relations between the state before and after a command that hold across every register operation: those
that hold whenever the image slots and the lifecycle state stay, and that compose. What STAGE_BEGIN, a staging chunk,
STEP_FIELD and an enrolment object do to the slots and to the lifecycle state. -/

set_option Elab.async false

namespace Sys2Proof.Machine

/-- A relation that holds across whatever leaves the image slots and the lifecycle state as they are, and composes. -/
structure Carried (R : State → State → Prop) : Prop where
  keep : ∀ {s t : State} (m : Nat), t.drop m = s.drop m → m.testBit 4 = false → m.testBit 30 = false → R s t
  trans : ∀ {s t u : State}, R s t → R t u → R s u

theorem Carried.refl {R : State → State → Prop} (k : Carried R) (s : State) : R s s := k.keep 0 rfl rfl rfl

theorem Carried.withRight {R : State → State → Prop} (k : Carried R) {op : State → RegRes} (g : ∀ t, R t (op t).1)
    (s : State) (p : Requester) (c : OpClass) (a : Word) (lamp : Bool) : R s (withRight s p c a op lamp).1 := by
  unfold Sys2Proof.Machine.withRight
  split
  · exact g s
  · exact k.keep 10737418240 (deny_drop s p c a (by decide)) (by decide) (by decide)

theorem Carried.regCmd {R : State → State → Prop} (k : Carried R) {op : State → RegRes} (g : ∀ t, R t (op t).1)
    (s : State) (p : Requester) : R s (regCmd s p op) := by
  unfold Sys2Proof.Machine.regCmd
  split
  · dsimp only
    split
    · exact k.trans (g s) (k.keep 137438953472 (answer_drop _ _ _ (by decide)) (by decide) (by decide))
    · exact g s
  · exact k.refl s

theorem Carried.serviceRequest {R : State → State → Prop} (k : Carried R) {run : State → State × SvcFrame}
    (g : ∀ t, R t (run t).1) (s : State) (seq : Nat) (content : List Byte) : R s (serviceRequest s seq content run) := by
  have snd (t : State) (f : SvcFrame) : R t (send t (.service f)) :=
    k.keep 137438953472 (send_drop _ _ (by decide)) (by decide) (by decide)
  unfold Sys2Proof.Machine.serviceRequest
  split
  · exact k.refl s
  · extract_lets r fresh
    have e : R s fresh := by
      unfold fresh
      split
      · refine k.trans (g s) (k.trans (k.keep 2147483648 (State.onSec_drop (by decide) (Or.inr fun _ => ?_)) (by decide) (by decide)) (snd _ _))
        rfl
      · exact g s
    split
    · split
      · exact snd _ _
      · exact e
    · exact e

theorem writeImg_carried {R : State → State → Prop} (k : Carried R) (hb : ∀ p n s, R s (opStageBegin p n s).1)
    (s : State) (p : Requester) (a v : Word) : R s (writeImg s p a v).1 := by
  have nf : R s (noField s p a).1 := k.keep 10737418240 (noField_drop s p a (by decide)) (by decide) (by decide)
  unfold writeImg
  split
  · exact nf
  · split
    · exact k.withRight (fun t => hb _ _ t) _ _ _ _ _
    · exact k.withRight (fun t => k.keep 8589934656 (opStageEnd_drop t (by decide)) (by decide) (by decide)) _ _ _ _ _
    · exact k.withRight (fun t => k.keep 64 (opDryfit_drop t (by decide)) (by decide) (by decide)) _ _ _ _ _
    · exact k.withRight (fun t => k.keep 8589934656 (cancelGlue_drop t _ (by decide)) (by decide) (by decide)) _ _ _ _ _
    · exact nf

theorem writeSec_carried {R : State → State → Prop} (k : Carried R) (hf : ∀ s, R s (opStepField s).1)
    (s : State) (p : Requester) (a v : Word) : R s (writeSec s p a v).1 := by
  have dn : R s (deny s p .identity a) := k.keep 10737418240 (deny_drop s p _ a (by decide)) (by decide) (by decide)
  have bc (c : OpClass) : R s (badCode s p c a).1 := k.withRight (fun t => k.refl t) _ _ _ _ _
  have pl (f : State → State) (h : ∀ t, (f t).drop 2147483648 = t.drop 2147483648) : R s (plain s p a f).1 :=
    k.withRight (fun t => k.keep 2147483648 (h t) (by decide) (by decide)) _ _ _ _ _
  have nf : R s (noField s p a).1 := k.withRight (fun t => k.refl t) _ _ _ _ _
  unfold writeSec
  split
  · split
    · exact k.withRight (fun t => k.keep 2147483648 (opAttest_drop t (by decide)) (by decide) (by decide)) _ _ _ _ _
    · split
      · exact k.withRight hf _ _ _ _ _
      · exact dn
    · exact bc _
  · exact pl _ fun t => State.onSec_drop (by decide) (Or.inr fun _ => rfl)
  · split
    · exact pl _ fun t => State.onSec_drop (by decide) (Or.inr fun _ => rfl)
    · exact nf

theorem regWrite_carried {R : State → State → Prop} (k : Carried R) (hb : ∀ p n s, R s (opStageBegin p n s).1)
    (hf : ∀ s, R s (opStepField s).1) (s : State) (p : Requester) (a v : Word) : R s (regWrite s p a v).1 := by
  unfold regWrite
  split
  · exact k.refl s
  · split
    · exact k.refl s
    · split
      · exact writeImg_carried k hb s p a v
      · exact k.keep 10737418368 (writeSpl_drop s p a v (by decide)) (by decide) (by decide)
      · exact k.keep 10737434624 (writePwm_drop s p a v (by decide)) (by decide) (by decide)
      · exact k.keep 10737451008 (writeGlk_drop s p a v (by decide)) (by decide) (by decide)
      · exact k.keep 152552046592 (writeCha_drop s p .a a v (by decide)) (by decide) (by decide)
      · exact k.keep 152552046592 (writeCha_drop s p .b a v (by decide)) (by decide) (by decide)
      · exact k.keep 152547852288 (writeSna_drop s p .a a v (by decide)) (by decide) (by decide)
      · exact k.keep 152547852288 (writeSna_drop s p .b a v (by decide)) (by decide) (by decide)
      · exact k.keep 15115452416 (writeEst_drop s p a v (by decide)) (by decide) (by decide)
      · exact k.keep 9906434342912 (writeThm_drop s p a v (by decide)) (by decide) (by decide)
      · exact k.keep 6199878594560 (writePrt_drop s p a v (by decide)) (by decide) (by decide)
      · exact k.keep 10804527104 (writeLsw_drop s p a v (by decide)) (by decide) (by decide)
      · exact k.keep 10871635976 (writeLbus_drop s p a v (by decide)) (by decide) (by decide)
      · exact k.keep 17213155180526 (writePwr_drop s p a v (by decide)) (by decide) (by decide)
      · exact writeSec_carried k hf s p a v
      · exact k.keep 221267329088 (writeMnt_drop s p a v (by decide)) (by decide) (by decide)
      · exact k.keep 10737418240 (writeEvt_drop s p a v (by decide)) (by decide) (by decide)
      · exact k.keep 148209926144 (writeDvt_drop s p a v (by decide)) (by decide) (by decide)
      · exact k.withRight (fun t => k.refl t) _ _ _ _ _

theorem regOperate_carried {R : State → State → Prop} (k : Carried R) (hb : ∀ p n s, R s (opStageBegin p n s).1)
    (hf : ∀ s, R s (opStepField s).1) (s : State) (p : Requester) (op : Nat) (a v : Word) : R s (regOperate s p op a v).1 := by
  unfold regOperate
  split
  · exact k.keep 28719440008 (regRead_drop s p a (by decide)) (by decide) (by decide)
  · exact regWrite_carried k hb hf s p a v
  · exact k.refl s

theorem runOps_carried {R : State → State → Prop} (k : Carried R)
    (ho : ∀ s p op a v, R s (regOperate s p op a v).1) : ∀ (os : List RegOp) (s : State), R s (runOps s os).1
  | [], s => k.refl s
  | o :: os, s => by
    unfold runOps
    dsimp only
    split
    · exact k.trans (ho _ _ _ _ _) (runOps_carried k ho os _)
    · exact ho _ _ _ _ _

/-- A relation of this kind holds across a register operation that the Spline carries. -/
theorem execRegOpExecute_carried {R : State → State → Prop} (k : Carried R)
    (ho : ∀ s p op a v, R s (regOperate s p op a v).1) (s : State) : R s (resState (execRegOpExecute s) s) := by
  unfold execRegOpExecute
  split
  · exact k.refl s
  · split
    · exact k.refl s
    · extract_lets r
      have a : R s r.1 := by
        unfold r
        refine k.trans (k.keep 128 (State.onSpl_drop (by decide)) (by decide) (by decide)) (ho _ _ _ _ _)
      split
      · rw [resState_next]
        exact k.trans a (k.keep 128 (State.onSpl_drop (by decide)) (by decide) (by decide))
      · exact a

/-- … across the operations of a service frame. -/
theorem execSvcRegReq_carried {R : State → State → Prop} (k : Carried R)
    (ho : ∀ s p op a v, R s (regOperate s p op a v).1) (seq : Nat) (ops : List RegOp) (s : State) :
    R s (resState (execSvcRegReq seq ops s) s) := by
  unfold execSvcRegReq
  rw [resState_next]
  refine k.serviceRequest (fun t => ?_) s _ _
  split
  · exact k.refl t
  · exact runOps_carried k ho _ _

/-- … and across a request of the local bus. -/
theorem execLbusServiceRequest_carried {R : State → State → Prop} (k : Carried R)
    (ho : ∀ s p op a v, R s (regOperate s p op a v).1) (s : State) : R s (resState (execLbusServiceRequest s) s) := by
  unfold execLbusServiceRequest
  split
  · exact k.refl s
  · split
    · exact k.refl s
    · extract_lets s1 r
      have a0 : R s s1 := by
        exact k.keep 134217728 (State.onLbus_drop (by decide)) (by decide) (by decide)
      have a : R s r.1 := by
        unfold r
        split
        · exact a0
        · exact k.trans a0 (ho _ _ _ _ _)
      split
      · exact k.trans a (k.keep 134217728 (loadBuf_drop _ _ _ (by decide)) (by decide) (by decide))
      · exact a

/-- The slots keep their canonical form wherever they stay. -/
theorem memOk_carried : Carried fun s t => s.memOk → t.memOk where
  keep m h b _ w := by
    have e := same_of_drop h .slots b
    exact ⟨by rw [e.1]; exact w.1, by rw [e.2]; exact w.2⟩
  trans a b w := b (a w)

theorem State.memOk.held {s : State} (w : s.memOk) (b : Bool) : Memory.wf (s.slotHeld b) = true := by
  unfold State.slotHeld
  cases b
  · exact w.1
  · exact w.2

theorem State.memOk.cells {s : State} (w : s.memOk) (b : Bool) : Memory.wf (s.slotCells b) = true := by
  unfold State.slotCells
  split
  · generalize s.img.waiting = l
    induction l with
    | nil => exact w.held b
    | cons x l ih => exact nvmWrite_wf _ _ ih
  · exact w.held b

theorem opStageBegin_memOk (p : Requester) (n : Nat) (s : State) (w : s.memOk) : (opStageBegin p n s).1.memOk := by
  unfold opStageBegin
  split
  · exact w
  · dsimp only
    refine memOk_carried.keep 8589934592 (logEvent_drop _ _ _ _ _ (by decide)) (by decide) (by decide) ?_
    unfold putSlot
    cases s.stagingSlot
    · exact ⟨rfl, w.2⟩
    · exact ⟨w.1, rfl⟩

theorem putSlot_wf {i : Img} {m : List Host.Cell} {b : Bool} (x : Memory.wf m = true) (a : Memory.wf i.slotA = true)
    (c : Memory.wf i.slotB = true) : Memory.wf (putSlot i b m).slotA = true ∧ Memory.wf (putSlot i b m).slotB = true := by
  unfold putSlot
  cases b
  · exact ⟨x, c⟩
  · exact ⟨a, x⟩

theorem flushStaging_memOk (s : State) (w : s.memOk) : (flushStaging s).memOk := by
  unfold flushStaging
  split
  · exact w
  · exact putSlot_wf (w.cells s.stagingSlot) w.1 w.2

theorem opChunk_memOk (p : Requester) (off : Nat) (data : List Byte) (s : State) (w : s.memOk) :
    (opChunk p off data s).1.memOk := by
  unfold opChunk
  split
  · exact memOk_carried.keep 10737418240 (deny_drop s p _ _ (by decide)) (by decide) (by decide) w
  · split
    · exact w
    · split
      · exact w
      · extract_lets b cells
        split
        · exact w
        · exact putSlot_wf (nvmWrite_wf off data (w.held b)) w.1 w.2

theorem enrol_memOk (s : State) (o : List Byte) (w : s.memOk) : (enrol s o).memOk := by
  unfold enrol
  extract_lets kind cert s1 s2
  have h2 : s2.memOk := memOk_carried.keep 8589934592 (logEvent_drop s1 _ _ _ _ (by decide)) (by decide) (by decide) w
  split
  · exact memOk_carried.keep 8589934592 (logEvent_drop _ _ _ _ _ (by decide)) (by decide) (by decide) ⟨rfl, rfl⟩
  · exact h2

/-- The lifecycle state is kept, or is stepped from PROVISIONED to FIELD. -/
def LifeStep (s t : State) : Prop := t.sec.life = s.sec.life ∨ (s.sec.life = 1 ∧ t.sec.life = 2)

theorem lifeStep_carried : Carried LifeStep where
  keep m h _ b := Or.inl (same_of_drop h .life b)
  trans a b := by
    unfold LifeStep at *
    omega

theorem opStepField_life (s : State) : LifeStep s (opStepField s).1 := by
  unfold opStepField
  split
  · exact lifeStep_carried.keep 8589934592 (logEvent_drop _ _ _ _ _ (by decide)) (by decide) (by decide)
  · rename_i h
    split
    · exact lifeStep_carried.keep 8589934592 (logEvent_drop _ _ _ _ _ (by decide)) (by decide) (by decide)
    · have e : s.sec.life = 1 := by
        by_contra q
        exact h (by simp [q])
      refine Or.inr ⟨e, ?_⟩
      exact (same_of_drop (m := 8589934592) (logEvent_drop _ _ _ _ _ (by decide)) .life (by decide)).trans rfl

/-! ### The commands that write a slot or step the lifecycle state -/

theorem memOk_same {s t : State} (e : Block.same .slots s t) (w : s.memOk) : t.memOk :=
  ⟨by rw [e.1]; exact w.1, by rw [e.2]; exact w.2⟩

theorem deny_slots (s : State) (p : Requester) (c : OpClass) (a : Word) : Block.same .slots s (deny s p c a) :=
  same_of_drop (m := 10737418240) (deny_drop s p c a (by decide)) .slots (by decide)

theorem coldReset_slots (s : State) (n : Nat) : Block.same .slots s (coldReset s n) :=
  same_of_drop (m := 17212886745070) (coldReset_drop s n _ (by decide)) .slots (by decide)

theorem opStepField_memOk (s : State) (w : s.memOk) : (opStepField s).1.memOk :=
  memOk_same (same_of_drop (m := 11811160064) (opStepField_drop s (by decide)) .slots (by decide)) w

theorem installStaged_memOk (s : State) (im : Image) (t : Nat) (w : s.memOk) : (installStaged s im t).memOk := by
  have f := flushStaging_memOk (retimeBus s im)
    (memOk_same (same_of_drop (m := 134217728) (retimeBus_drop s im (by decide)) .slots (by decide)) w)
  unfold installStaged
  exact ⟨f.1, f.2⟩

theorem switchImage_memOk (s : State) (t : Nat) (adopt : Bool) (w : s.memOk) : (switchImage s t adopt).memOk := by
  have log {s : State} (a b c d : Nat) (w : s.memOk) : (logEvent s a b c d).memOk :=
    memOk_same (same_of_drop (m := 8589934592) (logEvent_drop s a b c d (by decide)) .slots (by decide)) w
  unfold switchImage
  split
  · exact w
  · rename_i im _
    split
    · exact log _ _ _ _ w
    · extract_lets structural s1 s2
      have w1 : s1.memOk := by
        unfold s1
        split
        · exact log _ _ _ _ w
        · exact w
      have w2 : s2.memOk := installStaged_memOk s1 im t w1
      have w3 : (beginGlueRestart s2).memOk :=
        memOk_same (same_of_drop (m := 562716458190) (beginGlueRestart_drop s2 (by decide)) .slots (by decide)) w2
      have w4 := log 0xB007 0 0 0 w2
      clear_value structural s2
      cases structural
      · cases adopt
        · simp only [cond_false]
          exact w4
        · simp only [cond_false, cond_true]
          exact w2
      · simp only [cond_true]
        exact w3

theorem execGlueUpSwitch_memOk (s : State) (w : s.memOk) : (resState (execGlueUpSwitch s) s).memOk := by
  unfold execGlueUpSwitch
  split
  · exact switchImage_memOk _ _ _ w
  · exact w

theorem execCycleBoundary_memOk (s : State) (w : s.memOk) : (resState (execCycleBoundary s) s).memOk := by
  have work {s : State} (b : Nat) (w : s.memOk) : (boundaryWork s b).memOk :=
    memOk_same (same_of_drop (m := 6197731124680) (boundaryWork_drop s b (by decide)) .slots (by decide)) w
  unfold execCycleBoundary
  split
  · exact w
  · extract_lets b
    have wa : (s.onArm fun a => { a with boundary := b }).memOk := w
    have ws := work b (switchImage_memOk _ b true wa)
    split
    all_goals first
      | (split
         · rw [resState_next]
           exact work b w
         · split
           · rw [resState_next]
             exact switchImage_memOk _ _ _ (work b w)
           · rw [resState_next]
             exact ws)
      | (rw [resState_next]
         exact wa)

theorem finishWrite_memOk (s : State) (w : s.memOk) : (finishWrite s).memOk := by
  unfold finishWrite
  split
  · exact w
  · rename_i x _
    extract_lets s1
    have w1 : s1.memOk := flushStaging_memOk _ w
    split
    · exact w1
    · exact w1
    · split
      · exact w1
      · exact memOk_same (same_of_drop (m := 8598323200) (tillWritten_drop s1 _ (by decide)) .slots (by decide)) w1
    · exact w1

theorem execBootSlotVerifyComplete_memOk (s : State) (w : s.memOk) : (resState (execBootSlotVerifyComplete s) s).memOk := by
  have log {s : State} (a b c d : Nat) (w : s.memOk) : (logEvent s a b c d).memOk :=
    memOk_same (same_of_drop (m := 8589934592) (logEvent_drop s a b c d (by decide)) .slots (by decide)) w
  have boot {s : State} (b : Bool) (w : s.memOk) : (bootSlot s b).memOk :=
    memOk_same (same_of_drop (m := 10598637084910) (bootSlot_drop s b (by decide)) .slots (by decide)) w
  have none {s : State} (w : s.memOk) : (bootNone s).memOk :=
    memOk_same (same_of_drop (m := 11274289158) (bootNone_drop s (by decide)) .slots (by decide)) w
  have f := finishWrite_memOk s w
  unfold execBootSlotVerifyComplete
  generalize finishWrite s = u at f
  split
  · extract_lets t b
    generalize bootCheck t b = x
    cases x with
    | none => exact boot b f
    | some v =>
      dsimp only
      generalize (bootCheck t (!b)).isNone = y
      cases y
      · exact none (log _ _ _ _ f)
      · exact boot _ (log _ _ _ _ f)
  all_goals exact w

theorem execStagingChunk_memOk (port : RPort) (b : List Byte) (s : State) (w : s.memOk) :
    (resState (execStagingChunk port b s) s).memOk := by
  unfold execStagingChunk
  split
  · exact w
  · rename_i x _
    extract_lets k s1 r rsp
    have w1 : s1.memOk := memOk_same (same_of_drop (m := 128) (noteCopy_drop s k (by decide)) .slots (by decide)) w
    have wr : r.1.memOk := opChunk_memOk _ _ _ s1 w1
    split
    · exact w
    · split
      · exact w1
      · split
        · exact wr
        · exact wr

theorem execSvcBulk_memOk (seq stream off : Nat) (data : List Byte) (s : State) (w : s.memOk) :
    (resState (execSvcBulk seq stream off data s) s).memOk := by
  unfold execSvcBulk
  rw [resState_next]
  refine memOk_carried.serviceRequest (fun t wt => ?_) s _ _ w
  split
  · unfold serviceChunk
    dsimp only
    split
    · exact opChunk_memOk _ _ _ _ wt
    · exact wt
  · exact wt

theorem execEnrolmentObject_memOk (o : List Byte) (s : State) (w : s.memOk) :
    (resState (execEnrolmentObject o s) s).memOk := by
  unfold execEnrolmentObject
  extract_lets kind s0 r t
  have w0 : s0.memOk := w
  split
  · exact w
  · split
    · exact w
    · split
      · exact memOk_same (deny_slots s0 _ _ _) w0
      · split
        · have g : t.memOk := enrol_memOk s0 o w0
          rw [resState_next]
          split
          · exact memOk_same (coldReset_slots t 5) g
          · exact g
        · rw [resState_next]
          exact memOk_same (same_of_drop (m := 148176371712) (by
            simp only [↓ack_drop, ↓logEvent_drop, Nat.reduceAnd]
            exact State.onSec_drop (by decide) (Or.inr fun _ => rfl)) .slots (by decide)) w0

theorem execSecCmdStepField_life (p : Requester) (s : State) : LifeStep s (resState (execSecCmdStepField p s) s) := by
  unfold execSecCmdStepField
  rw [resState_next]
  refine lifeStep_carried.regCmd (fun t => ?_) s p
  split
  · exact lifeStep_carried.withRight opStepField_life t _ _ _ _
  · exact Or.inl (same_of_drop (m := 10737418240) (deny_drop t p .identity _ (by decide)) .life (by decide))

theorem enrolResult_kind {s : State} {o : List Byte} (h : s.enrolResult o = 1) :
    1 ≤ leAt (objBytes o) 0 1 ∧ leAt (objBytes o) 0 1 ≤ 5 ∧ (3 ≤ leAt (objBytes o) 0 1 → s.sec.life = 2) := by
  unfold State.enrolResult at h
  dsimp only at h
  split at h
  · omega
  · rename_i hform
    have hl : 1 ≤ leAt (objBytes o) 0 1 ∧ leAt (objBytes o) 0 1 ≤ 5 := by
      simp only [Bool.not_eq_true, Bool.not_eq_false'] at hform
      unfold objForm at hform
      simp only [Bool.and_eq_true, decide_eq_true_eq] at hform
      omega
    refine ⟨hl.1, hl.2, fun h3 => ?_⟩
    split at h
    · omega
    · split at h
      · omega
      · rename_i hx
        by_contra q
        exact hx (by simp [q])

theorem enrol_life (s : State) (o : List Byte) (h1 : 1 ≤ leAt (objBytes o) 0 1) (h5 : leAt (objBytes o) 0 1 ≤ 5) :
    (enrol s o).sec.life = if leAt (objBytes o) 0 1 = 5 then 3 else s.sec.life := by
  unfold enrol
  extract_lets kind cert s1 s2
  have lg : ∀ (t : State) (a b c d : Nat), (logEvent t a b c d).sec.life = t.sec.life := fun t a b c d =>
    same_of_drop (m := 8589934592) (logEvent_drop t a b c d (by decide)) .life (by decide)
  have e : s1.sec.life = if kind = 5 then 3 else s.sec.life := by
    unfold s1
    have hk : kind = 1 ∨ kind = 2 ∨ kind = 3 ∨ kind = 4 ∨ kind = 5 := by
      have : kind = leAt (objBytes o) 0 1 := rfl
      omega
    rcases hk with k | k | k | k | k <;> rw [k] <;> rfl
  by_cases k : kind = 5
  · rw [if_pos k]
    show _ = if kind = 5 then 3 else s.sec.life
    rw [if_pos k, lg]
    show s2.sec.life = _
    unfold s2
    rw [lg, e, if_pos k]
  · rw [if_neg k]
    show _ = if kind = 5 then 3 else s.sec.life
    unfold s2
    rw [lg, e]

/-- An enrolment object keeps the lifecycle state, or decommissions a device in FIELD. -/
theorem execEnrolmentObject_life (o : List Byte) (s : State) :
    (resState (execEnrolmentObject o s) s).sec.life = s.sec.life ∨
    (s.sec.life = 2 ∧ (resState (execEnrolmentObject o s) s).sec.life = 3) := by
  unfold execEnrolmentObject
  extract_lets kind s0 r t
  have kp : ∀ {u v : State} (m : Nat), v.drop m = u.drop m → m.testBit 30 = false → v.sec.life = u.sec.life :=
    fun m d b => same_of_drop (m := m) d .life b
  split
  · exact Or.inl rfl
  · split
    · exact Or.inl rfl
    · split
      · exact Or.inl (kp (u := s0) 148176371712 (by
          rw [resState_next]
          simp only [↓ack_drop, ↓deny_drop, Nat.reduceAnd]) (by decide))
      · split
        · rename_i hr
          obtain ⟨h1, h5, h2⟩ := enrolResult_kind hr
          have g : t.sec.life = if leAt (objBytes o) 0 1 = 5 then 3 else s.sec.life := enrol_life s0 o h1 h5
          rw [resState_next]
          by_cases k : kind = 5
          · have k' : leAt (objBytes o) 0 1 = 5 := k
            rw [if_pos k'] at g
            refine Or.inr ⟨h2 (by omega), ?_⟩
            rw [if_pos k]
            exact (kp 17212886745070 (coldReset_drop t 5 _ (by decide)) (by decide)).trans g
          · have k' : ¬ leAt (objBytes o) 0 1 = 5 := k
            rw [if_neg k'] at g
            rw [if_neg k]
            exact Or.inl g
        · exact Or.inl (kp (u := s0) 148176371712 (by
            rw [resState_next]
            simp only [↓ack_drop, ↓logEvent_drop, Nat.reduceAnd]
            exact State.onSec_drop (by decide) (Or.inr fun _ => rfl)) (by decide))

end Sys2Proof.Machine
end

