-- ==== Sys2Proof/Laws/PerInstr.lean ====
section
/-! SUPPORT. Facts about every command as syntax, one lemma for each constructor. -/

set_option Elab.async false

namespace Sys2Proof.Laws.Row

/-- No word of the table's bits spells the command: spec/opcode_table.json gives its row no bits. -/
def Statement (i : Instr) : Prop := ∀ nbits w : Nat, decodeTableWord nbits w ≠ some i

/-- The decoder answers no command. -/
theorem none_decoded (i : Instr) : Statement i := fun _ _ h => by cases h

theorem powerOnResetRelease (vsys : Nat) (vbak : Nat) (roleSel : Bool) (senseSrc : Bool) (bypClosed : Bool) : Statement (.powerOnResetRelease vsys vbak roleSel senseSrc bypClosed) := none_decoded _
theorem bootSlotVerifyComplete : Statement (.bootSlotVerifyComplete) := none_decoded _
theorem ringReady : Statement (.ringReady) := none_decoded _
theorem memberBTokenWaitExpiry : Statement (.memberBTokenWaitExpiry) := none_decoded _
theorem vsysPlinthSample (vsys : Nat) : Statement (.vsysPlinthSample vsys) := none_decoded _
theorem stage4HandoffTimeout : Statement (.stage4HandoffTimeout) := none_decoded _
theorem stageRestore : Statement (.stageRestore) := none_decoded _
theorem stage1ChannelRestore : Statement (.stage1ChannelRestore) := none_decoded _
theorem resetComparatorTrip : Statement (.resetComparatorTrip) := none_decoded _
theorem vbakOutOfRange (vbak : Nat) : Statement (.vbakOutOfRange vbak) := none_decoded _
theorem vauxLowDetect (vaux : Nat) : Statement (.vauxLowDetect vaux) := none_decoded _
theorem vauxLowClear (vaux : Nat) : Statement (.vauxLowClear vaux) := none_decoded _
theorem resetNLow : Statement (.resetNLow) := none_decoded _
theorem pwrCmdRun (p : Requester) : Statement (.pwrCmdRun p) := none_decoded _
theorem pwrCmdWarm (p : Requester) : Statement (.pwrCmdWarm p) := none_decoded _
theorem pwrCmdCold (p : Requester) : Statement (.pwrCmdCold p) := none_decoded _
theorem pwrCmdHibernate (p : Requester) : Statement (.pwrCmdHibernate p) := none_decoded _
theorem hibernateEnter : Statement (.hibernateEnter) := none_decoded _
theorem pwrCmdClearVbak (p : Requester) : Statement (.pwrCmdClearVbak p) := none_decoded _
theorem hibWakeTimerExpiry : Statement (.hibWakeTimerExpiry) := none_decoded _
theorem hibCciWake (c : ChainId) : Statement (.hibCciWake c) := none_decoded _
theorem lbusWake (frame : Option CanFrame) : Statement (.lbusWake frame) := none_decoded _
theorem engineWatchdogExpiry (e : EngineId) (stray : Option Word) : Statement (.engineWatchdogExpiry e stray) := none_decoded _
theorem engineRestartComplete (e : EngineId) : Statement (.engineRestartComplete e) := none_decoded _
theorem warmResetResume : Statement (.warmResetResume) := none_decoded _
theorem clampHoldTimeout : Statement (.clampHoldTimeout) := none_decoded _
theorem clampHoldStage3End : Statement (.clampHoldStage3End) := none_decoded _
theorem lockstepMismatch (se : Bool) : Statement (.lockstepMismatch se) := none_decoded _
theorem eccUncorrectable (mem : EccMem) (addr : Word) (reader : EngineId) (corrected : Nat) : Statement (.eccUncorrectable mem addr reader corrected) := none_decoded _
theorem sramScrubStep (r : EccRead) : Statement (.sramScrubStep r) := none_decoded _
theorem plinthFreqMeasure (hz : Nat) : Statement (.plinthFreqMeasure hz) := none_decoded _
theorem imgCmdStageBegin (p : Requester) (len : Nat) : Statement (.imgCmdStageBegin p len) := none_decoded _
theorem imgCmdStageEnd (p : Requester) : Statement (.imgCmdStageEnd p) := none_decoded _
theorem imgCmdDryfit (p : Requester) : Statement (.imgCmdDryfit p) := none_decoded _
theorem imgCmdAbort (p : Requester) : Statement (.imgCmdAbort p) := none_decoded _
theorem stagingChunk (port : RPort) (b : List Byte) : Statement (.stagingChunk port b) := none_decoded _
theorem dryfitComplete : Statement (.dryfitComplete) := none_decoded _
theorem glueUpSwitch : Statement (.glueUpSwitch) := none_decoded _
theorem glueRestartComplete : Statement (.glueRestartComplete) := none_decoded _
theorem splBlockLock (port : RPort) (locked : Bool) : Statement (.splBlockLock port locked) := none_decoded _
theorem splPortUp (port : RPort) : Statement (.splPortUp port) := none_decoded _
theorem splPortDown (port : RPort) (cause : PortCause) : Statement (.splPortDown port cause) := none_decoded _
theorem helloRx (port : RPort) (x : OrdSet) : Statement (.helloRx port x) := none_decoded _
theorem shimPingTimer : Statement (.shimPingTimer) := none_decoded _
theorem shimPingRx (port : RPort) (x : OrdSet) (turnaround : Nat) : Statement (.shimPingRx port x turnaround) := none_decoded _
theorem shimEchoRx (port : RPort) (x : OrdSet) (roundTrip : Nat) : Statement (.shimEchoRx port x roundTrip) := none_decoded _
theorem urgentArmBlock (port : RPort) (x : OrdSet) : Statement (.urgentArmBlock port x) := none_decoded _
theorem urgentBypassAll (port : RPort) (x : OrdSet) : Statement (.urgentBypassAll port x) := none_decoded _
theorem urgentResume (port : RPort) (x : OrdSet) : Statement (.urgentResume port x) := none_decoded _
theorem frameForward (port : RPort) (b : List Byte) (residence : Nat) (cut : Option Nat) : Statement (.frameForward port b residence cut) := none_decoded _
theorem portReadmit (port : RPort) : Statement (.portReadmit port) := none_decoded _
theorem armCycleRx (port : RPort) (b : List Byte) : Statement (.armCycleRx port b) := none_decoded _
theorem cellStatusRx (port : RPort) (b : List Byte) : Statement (.cellStatusRx port b) := none_decoded _
theorem armSummaryRx (port : RPort) (b : List Byte) : Statement (.armSummaryRx port b) := none_decoded _
theorem regReqRx (port : RPort) (b : List Byte) : Statement (.regReqRx port b) := none_decoded _
theorem regOpExecute : Statement (.regOpExecute) := none_decoded _
theorem ownFrameFreeze (slot : Nat) (cycle : Nat) (complete : Bool) : Statement (.ownFrameFreeze slot cycle complete) := none_decoded _
theorem ownFrameLaunch (port : RPort) : Statement (.ownFrameLaunch port) := none_decoded _
theorem holdoverEntry (cause : HoldCause) : Statement (.holdoverEntry cause) := none_decoded _
theorem holdoverExpiry : Statement (.holdoverExpiry) := none_decoded _
theorem refFrameCommit : Statement (.refFrameCommit) := none_decoded _
theorem cycleBoundary : Statement (.cycleBoundary) := none_decoded _
theorem pwmCommit (leg : Leg) : Statement (.pwmCommit leg) := none_decoded _
theorem pwmReplaceCommit (leg : Leg) : Statement (.pwmReplaceCommit leg) := none_decoded _
theorem pulseUnitStart (leg : Leg) : Statement (.pulseUnitStart leg) := none_decoded _
theorem pulseReload (leg : Leg) : Statement (.pulseReload leg) := none_decoded _
theorem glStatusFrameRx (link : Fin 4) (bits : BitVec 16) (check : BitVec 4) : Statement (.glStatusFrameRx link bits check) := none_decoded _
theorem glStatusLost (link : Fin 4) : Statement (.glStatusLost link) := none_decoded _
theorem peAssessment (vCap : Option Nat) (iTerm : Option Int) : Statement (.peAssessment vCap iTerm) := none_decoded _
theorem fireDelayExpiry : Statement (.fireDelayExpiry) := none_decoded _
theorem bypStatClosed : Statement (.bypStatClosed) := none_decoded _
theorem bypCloseTimeout : Statement (.bypCloseTimeout) := none_decoded _
theorem offStateDiagStart : Statement (.offStateDiagStart) := none_decoded _
theorem offStateDiagComplete : Statement (.offStateDiagComplete) := none_decoded _
theorem legRetestComplete : Statement (.legRetestComplete) := none_decoded _
theorem takeHoldTimeout : Statement (.takeHoldTimeout) := none_decoded _
theorem glkJigGo (p : Requester) (sw : Nat) : Statement (.glkJigGo p sw) := none_decoded _
theorem jigPulseEnd : Statement (.jigPulseEnd) := none_decoded _
theorem comparatorCrossing (n : Fin 8) (input : BitVec 16) (lasted : Nat) : Statement (.comparatorCrossing n input lasted) := none_decoded _
theorem comparatorReturn (n : Fin 8) (input : BitVec 16) : Statement (.comparatorReturn n input) := none_decoded _
theorem tripInAssert : Statement (.tripInAssert) := none_decoded _
theorem tripInCountWaitExpiry : Statement (.tripInCountWaitExpiry) := none_decoded _
theorem tripOutRelease : Statement (.tripOutRelease) := none_decoded _
theorem reactionAutoRelease (e : Fin 64) : Statement (.reactionAutoRelease e) := none_decoded _
theorem measLostOpenExpiry (c : ChainId) : Statement (.measLostOpenExpiry c) := none_decoded _
theorem prtClearEntry (p : Requester) (e : Fin 64) : Statement (.prtClearEntry p e) := none_decoded _
theorem prtClearAll (p : Requester) : Statement (.prtClearAll p) := none_decoded _
theorem prtBypassReq (p : Requester) (value : Word) : Statement (.prtBypassReq p value) := none_decoded _
theorem heartbeatSend : Statement (.heartbeatSend) := none_decoded _
theorem heartbeatRx (x : OrdSet) : Statement (.heartbeatRx x) := none_decoded _
theorem heartbeatTimeout : Statement (.heartbeatTimeout) := none_decoded _
theorem stateMirrorSend : Statement (.stateMirrorSend) := none_decoded _
theorem stateMirrorRx (m : Option Mirror) : Statement (.stateMirrorRx m) := none_decoded _
theorem dvtCmdHandover (p : Requester) : Statement (.dvtCmdHandover p) := none_decoded _
theorem tokenGiveRx (gen : Nat) (tH : Nat) : Statement (.tokenGiveRx gen tH) := none_decoded _
theorem tokenAckRx (gen : Nat) : Statement (.tokenAckRx gen) := none_decoded _
theorem handoverSwitch : Statement (.handoverSwitch) := none_decoded _
theorem handoverAckTimeout : Statement (.handoverAckTimeout) := none_decoded _
theorem dvtLinkDown : Statement (.dvtLinkDown) := none_decoded _
theorem dvtLinkUp : Statement (.dvtLinkUp) := none_decoded _
theorem currentLoopTick (c : ChainId) (i : Option Int) (vCap : Option Nat) (vCh : Option Nat) : Statement (.currentLoopTick c i vCap vCh) := none_decoded _
theorem trimPeriodStaircase (c : ChainId) : Statement (.trimPeriodStaircase c) := none_decoded _
theorem sampleStrobe (c : ChainId) (i : Option Int) (vCap : Option Nat) (vCh : Option Nat) (run : Int) (hib : Int) (shunt : List (Nat × Int)) : Statement (.sampleStrobe c i vCap vCh run hib shunt) := none_decoded _
theorem overBudgetTick (c : ChainId) (mean : Int) : Statement (.overBudgetTick c mean) := none_decoded _
theorem chaCmdConnect (p : Requester) (c : ChainId) : Statement (.chaCmdConnect p c) := none_decoded _
theorem chaCmdRun (p : Requester) (c : ChainId) : Statement (.chaCmdRun p c) := none_decoded _
theorem chaCmdBlock (p : Requester) (c : ChainId) : Statement (.chaCmdBlock p c) := none_decoded _
theorem chaCmdDisconnect (p : Requester) (c : ChainId) : Statement (.chaCmdDisconnect p c) := none_decoded _
theorem connectStepTimer (c : ChainId) : Statement (.connectStepTimer c) := none_decoded _
theorem prechargeTargetReached (c : ChainId) : Statement (.prechargeTargetReached c) := none_decoded _
theorem prechargeTimeout (c : ChainId) : Statement (.prechargeTimeout c) := none_decoded _
theorem prechargeCooldownEnd (c : ChainId) : Statement (.prechargeCooldownEnd c) := none_decoded _
theorem zeroingComplete (c : ChainId) : Statement (.zeroingComplete c) := none_decoded _
theorem protectiveZeroBlock (c : ChainId) : Statement (.protectiveZeroBlock c) := none_decoded _
theorem openingStepTimer (c : ChainId) : Statement (.openingStepTimer c) := none_decoded _
theorem forcedOpen (c : ChainId) : Statement (.forcedOpen c) := none_decoded _
theorem chaParkGo (p : Requester) (c : ChainId) (m : Fin 32) : Statement (.chaParkGo p c m) := none_decoded _
theorem parkExecute (c : ChainId) (m : Fin 32) : Statement (.parkExecute c m) := none_decoded _
theorem chaClearUnpark (p : Requester) (c : ChainId) (m : Fin 32) : Statement (.chaClearUnpark p c m) := none_decoded _
theorem chaClearWeld (p : Requester) (c : ChainId) : Statement (.chaClearWeld p c) := none_decoded _
theorem learnHalfPeriod (c : ChainId) : Statement (.learnHalfPeriod c) := none_decoded _
theorem snaCmdWake (p : Requester) (c : ChainId) : Statement (.snaCmdWake p c) := none_decoded _
theorem snaCmdSleep (p : Requester) (c : ChainId) : Statement (.snaCmdSleep p c) := none_decoded _
theorem enumStart (c : ChainId) : Statement (.enumStart c) := none_decoded _
theorem enumReturn (c : ChainId) (b : List Byte) : Statement (.enumReturn c b) := none_decoded _
theorem enumerationComplete (c : ChainId) : Statement (.enumerationComplete c) := none_decoded _
theorem strobeLaunch (c : ChainId) (res : Nat) : Statement (.strobeLaunch c res) := none_decoded _
theorem sampleRx (c : ChainId) (b : List Byte) : Statement (.sampleRx c b) := none_decoded _
theorem srsRx (c : ChainId) (b : List Byte) : Statement (.srsRx c b) := none_decoded _
theorem pongRx (c : ChainId) (b : List Byte) (roundTrip : Nat) : Statement (.pongRx c b roundTrip) := none_decoded _
theorem pingTimer (c : ChainId) : Statement (.pingTimer c) := none_decoded _
theorem sampleSetComplete (c : ChainId) : Statement (.sampleSetComplete c) := none_decoded _
theorem owTestTimer (c : ChainId) : Statement (.owTestTimer c) := none_decoded _
theorem sentinelSilent (c : ChainId) (m : Fin 32) : Statement (.sentinelSilent c m) := none_decoded _
theorem lostModulePoll (c : ChainId) (m : Fin 32) : Statement (.lostModulePoll c m) := none_decoded _
theorem bswTestIssue (c : ChainId) (m : Fin 32) (cell : Option (Fin 32)) : Statement (.bswTestIssue c m cell) := none_decoded _
theorem eeMillisecondCount (c : ChainId) : Statement (.eeMillisecondCount c) := none_decoded _
theorem anchorTimerExpiry (c : ChainId) (m : Fin 32) (k : Fin 32) (full : Bool) : Statement (.anchorTimerExpiry c m k full) := none_decoded _
theorem limitsPublish : Statement (.limitsPublish) := none_decoded _
theorem limitsStale (c : ChainId) : Statement (.limitsStale c) := none_decoded _
theorem balanceTick (c : ChainId) : Statement (.balanceTick c) := none_decoded _
theorem ocvRestExpiry (c : ChainId) (m : Fin 32) (k : Fin 32) : Statement (.ocvRestExpiry c m k) := none_decoded _
theorem checkpointTimer : Statement (.checkpointTimer) := none_decoded _
theorem countPeriodTimer : Statement (.countPeriodTimer) := none_decoded _
theorem recordWriteStart (kind : RecKind) : Statement (.recordWriteStart kind) := none_decoded _
theorem estCmdCheckpoint (p : Requester) : Statement (.estCmdCheckpoint p) := none_decoded _
theorem estCmdResetModule (p : Requester) (c : ChainId) (m : Fin 32) : Statement (.estCmdResetModule p c m) := none_decoded _
theorem vnrCtrlPreset (p : Requester) (c : ChainId) : Statement (.vnrCtrlPreset p c) := none_decoded _
theorem scanStep (inputs : ScanInputs) : Statement (.scanStep inputs) := none_decoded _
theorem sensorReturn (c : ChainId) (m : Fin 32) (t : Fin 8) : Statement (.sensorReturn c m t) := none_decoded _
theorem coldShutdownEnd (c : ChainId) : Statement (.coldShutdownEnd c) := none_decoded _
theorem hotReleaseReady (c : ChainId) : Statement (.hotReleaseReady c) := none_decoded _
theorem heaterStagger : Statement (.heaterStagger) := none_decoded _
theorem thmHeatCmd (p : Requester) (ch : Nat) (action : Nat) : Statement (.thmHeatCmd p ch action) := none_decoded _
theorem heatOverrideExpiry (ch : Fin 12) : Statement (.heatOverrideExpiry ch) := none_decoded _
theorem thmClearRelease (p : Requester) (c : ChainId) : Statement (.thmClearRelease p c) := none_decoded _
theorem thmClearErase (p : Requester) : Statement (.thmClearErase p) := none_decoded _
theorem tillRecordWrite : Statement (.tillRecordWrite) := none_decoded _
theorem lswCmd (p : Requester) (ch : Nat) (action : Nat) : Statement (.lswCmd p ch action) := none_decoded _
theorem lswClear (p : Requester) (mask : BitVec 12) : Statement (.lswClear p mask) := none_decoded _
theorem lswSenseSelect (p : Requester) (code : BitVec 4) : Statement (.lswSenseSelect p code) := none_decoded _
theorem currentLimitReached (ch : Fin 12) (current : Int) : Statement (.currentLimitReached ch current) := none_decoded _
theorem limitTimeExpiry (ch : Fin 12) : Statement (.limitTimeExpiry ch) := none_decoded _
theorem junctionOvertemp (ch : Fin 12) (tj : Int) : Statement (.junctionOvertemp ch tj) := none_decoded _
theorem inrushWindowEnd (ch : Fin 12) : Statement (.inrushWindowEnd ch) := none_decoded _
theorem retryPauseEnd (ch : Fin 12) : Statement (.retryPauseEnd ch) := none_decoded _
theorem retryCountReset (ch : Fin 12) : Statement (.retryCountReset ch) := none_decoded _
theorem clusterSensorSample (cl : Fin 3) (temp : Int) (tjs : List Int) (is : List Int) : Statement (.clusterSensorSample cl temp tjs is) := none_decoded _
theorem coilShedDelayExpiry (ch : Fin 12) : Statement (.coilShedDelayExpiry ch) := none_decoded _
theorem clusterRestoreStagger (cl : Fin 3) : Statement (.clusterRestoreStagger cl) := none_decoded _
theorem econPullEnd (ch : Fin 12) : Statement (.econPullEnd ch) := none_decoded _
theorem openLoadOnDetect (ch : Fin 12) : Statement (.openLoadOnDetect ch) := none_decoded _
theorem offStateLoadTest (ch : Fin 12) (vout : Nat) : Statement (.offStateLoadTest ch vout) := none_decoded _
theorem lbusTxGo (p : Requester) (b : Fin 16) : Statement (.lbusTxGo p b) := none_decoded _
theorem lbusTxCancel (p : Requester) (mask : BitVec 16) : Statement (.lbusTxCancel p mask) := none_decoded _
theorem canTxComplete (b : Fin 16) (delay : Nat) : Statement (.canTxComplete b delay) := none_decoded _
theorem canTxAttemptFail (b : Fin 16) (why : TxFail) : Statement (.canTxAttemptFail b why) := none_decoded _
theorem canFrameRx (f : CanFrame) : Statement (.canFrameRx f) := none_decoded _
theorem lbusServiceRequest : Statement (.lbusServiceRequest) := none_decoded _
theorem lbusRxAck (p : Requester) (e : Fin 64) : Statement (.lbusRxAck p e) := none_decoded _
theorem lbusStatusPeriod : Statement (.lbusStatusPeriod) := none_decoded _
theorem lbusBusOff : Statement (.lbusBusOff) := none_decoded _
theorem busoffHoldExpiry : Statement (.busoffHoldExpiry) := none_decoded _
theorem busOffRecovered : Statement (.busOffRecovered) := none_decoded _
theorem lbusCmdRecover (p : Requester) : Statement (.lbusCmdRecover p) := none_decoded _
theorem secCmdAttest (p : Requester) : Statement (.secCmdAttest p) := none_decoded _
theorem attestSigned : Statement (.attestSigned) := none_decoded _
theorem secCmdStepField (p : Requester) : Statement (.secCmdStepField p) := none_decoded _
theorem secCounterWrite : Statement (.secCounterWrite) := none_decoded _
theorem enrolmentObject (object : List Byte) : Statement (.enrolmentObject object) := none_decoded _
theorem svcRegReq (seq : Nat) (ops : List RegOp) : Statement (.svcRegReq seq ops) := none_decoded _
theorem svcBulk (seq : Nat) (stream : Nat) (off : Nat) (data : List Byte) : Statement (.svcBulk seq stream off data) := none_decoded _
theorem svcFrameGapTimeout : Statement (.svcFrameGapTimeout) := none_decoded _
theorem svcFrameCrcFail (seq : Nat) : Statement (.svcFrameCrcFail seq) := none_decoded _
theorem jtagTapReset : Statement (.jtagTapReset) := none_decoded _
theorem jtagInstruction (i : JtagInstr) : Statement (.jtagInstruction i) := none_decoded _
theorem mntStartLearn (p : Requester) (c : ChainId) (m : Fin 32) : Statement (.mntStartLearn p c m) := none_decoded _
theorem mntStartSentUpdate (p : Requester) (c : ChainId) (m : Fin 32) : Statement (.mntStartSentUpdate p c m) := none_decoded _
theorem mntStartGateTest (p : Requester) (c : ChainId) (m : Fin 32) : Statement (.mntStartGateTest p c m) := none_decoded _
theorem mntStartJig (p : Requester) (c : ChainId) (m : Fin 32) : Statement (.mntStartJig p c m) := none_decoded _
theorem mntStartPrecharge (p : Requester) (c : ChainId) (m : Fin 32) : Statement (.mntStartPrecharge p c m) := none_decoded _
theorem mntStartContTest (p : Requester) (c : ChainId) (m : Fin 32) : Statement (.mntStartContTest p c m) := none_decoded _
theorem mntStartHeaterTest (p : Requester) (c : ChainId) (m : Fin 32) : Statement (.mntStartHeaterTest p c m) := none_decoded _
theorem mntStartRecordExport (p : Requester) (c : ChainId) (m : Fin 32) : Statement (.mntStartRecordExport p c m) := none_decoded _
theorem mntStop (p : Requester) (slot : Fin 4) : Statement (.mntStop p slot) := none_decoded _
theorem actTimeoutExpiry (slot : Fin 4) : Statement (.actTimeoutExpiry slot) := none_decoded _
theorem activityComplete (slot : Fin 4) : Statement (.activityComplete slot) := none_decoded _
theorem eventLogCopy : Statement (.eventLogCopy) := none_decoded _
theorem evtSelWrite (p : Requester) (seq : BitVec 24) : Statement (.evtSelWrite p seq) := none_decoded _
theorem readLowWordLatch (p : Requester) (addr : Word) : Statement (.readLowWordLatch p addr) := none_decoded _
theorem rcRead (p : Requester) (addr : Word) : Statement (.rcRead p addr) := none_decoded _
theorem registerWrite (p : Requester) (addr : Word) (value : Word) : Statement (.registerWrite p addr value) := none_decoded _
theorem tripInRelease : Statement (.tripInRelease) := none_decoded _
theorem pulseCompareEdge (leg : Leg) : Statement (.pulseCompareEdge leg) := none_decoded _
theorem kerfTurnOn (leg : Leg) : Statement (.kerfTurnOn leg) := none_decoded _
theorem testWindowExpiry : Statement (.testWindowExpiry) := none_decoded _
theorem nvmWriteComplete : Statement (.nvmWriteComplete) := none_decoded _
theorem stageEraseComplete : Statement (.stageEraseComplete) := none_decoded _
theorem lbusRxError (dominant : Bool) : Statement (.lbusRxError dominant) := none_decoded _
theorem lbusBusIdle : Statement (.lbusBusIdle) := none_decoded _
theorem heaterTestChannelEnd : Statement (.heaterTestChannelEnd) := none_decoded _
theorem senseSelPinChange (code : BitVec 4) : Statement (.senseSelPinChange code) := none_decoded _

end Sys2Proof.Laws.Row
end

