-- ==== Sys2Proof/WellFormed.lean ====
section
/-! DEFINITION. Which commands are well formed: operand values that the fields of the manual's frames and registers
can carry (spec/00 R3, the frame tables of spec/04, spec/08, spec/11, spec/13 and spec/15). The width of an operand
that is a bit vector, a `Fin` or a name is part of its type; the checks are those of the numbers and lists. -/

set_option Elab.async false

namespace Sys2Proof

/-- The number has at most n bits (R3). -/
def fits (n v : Nat) : Bool := decide (v < 2 ^ n)

/-- A value of an unsigned n-bit quantity: the invalid code, all ones, is no value (R3, R4). -/
def valued (n v : Nat) : Bool := decide (v < 2 ^ n - 1)

/-- A value of a signed n-bit quantity: the invalid code, the most negative one, is no value (R3, R4). -/
def valuedInt (n : Nat) (v : Int) : Bool := decide (-(2 ^ (n - 1)) < v) && decide (v < 2 ^ (n - 1))

/-- Data bytes of a CAN frame for its data length code (spec/13 R306). -/
def canLength (fdf rtr : Bool) (dlc : Nat) : Nat :=
  if rtr then 0 else if dlc ≤ 8 then dlc else if fdf then [12, 16, 20, 24, 32, 48, 64].getD (dlc - 9) 64 else 8

/-- A CAN frame: the data fill the length code, and a standard identifier has 11 bits. -/
def CanFrame.wf (f : CanFrame) : Bool :=
  f.data.length == canLength f.fdf f.rtr f.dlc.toNat && (f.xtd || fits 11 f.id.toNat) && !(f.rtr && f.fdf)

/-- A register operation (Table 04.11): DEST has 13 bits. -/
def RegOp.wf (r : RegOp) : Bool := fits 13 r.dest.toNat

/-- Bytes of a Spline frame: whole blocks, at most the longest slot (R67, Table 04.5). -/
def frameWf (b : List Byte) : Bool := b.length % 8 == 0 && b.length ≤ 512

/-- A pulse set (spec/06 R121): 32-bit registers. -/
def PwmSet.wf (x : PwmSet) : Bool := fits 32 x.period && fits 32 x.rise && fits 32 x.fall

/-- The content of a STATE_MIRROR (spec/11 R281). -/
def Mirror.wf (m : Mirror) : Bool :=
  m.setA.all PwmSet.wf && m.setB.all PwmSet.wf && m.fired.all (fits 6) && m.cntA.length ≤ 32 && m.cntB.length ≤ 32
    && m.hopA.all (fits 8) && m.hopB.all (fits 8) && m.load.length == 12 && m.acts.length == 4

/-- Bytes of a sentinel frame between SOF and EOF: a header, at most 255 bytes of payload and the CRC (R183). -/
def senFrameWf (b : List Byte) : Bool := decide (6 ≤ b.length) && b.length ≤ 261

/-- The inputs of a scan step (spec/10 R250): eight general analog inputs at the most. -/
def ScanInputs.wf (x : ScanInputs) : Bool :=
  x.gen.length ≤ 8 && x.gen.all (fun r => r.temp.all (valuedInt 16)) && valuedInt 16 x.dieCtrl && valuedInt 16 x.dieMeas && valuedInt 16 x.diePower

/-- The command is well formed. -/
def Instr.wf (i : Instr) : Bool :=
  match i with
  | .powerOnResetRelease vsys vbak _ _ _ => valued 16 vsys && valued 16 vbak
  | .bootSlotVerifyComplete => true
  | .ringReady => true
  | .memberBTokenWaitExpiry => true
  | .vsysPlinthSample vsys => valued 16 vsys
  | .stage4HandoffTimeout => true
  | .stageRestore => true
  | .stage1ChannelRestore => true
  | .resetComparatorTrip => true
  | .vbakOutOfRange vbak => valued 16 vbak
  | .vauxLowDetect vaux => valued 16 vaux
  | .vauxLowClear vaux => valued 16 vaux
  | .resetNLow => true
  | .pwrCmdRun _ => true
  | .pwrCmdWarm _ => true
  | .pwrCmdCold _ => true
  | .pwrCmdHibernate _ => true
  | .hibernateEnter => true
  | .pwrCmdClearVbak _ => true
  | .hibWakeTimerExpiry => true
  | .hibCciWake _ => true
  | .lbusWake frame => frame.all CanFrame.wf
  | .engineWatchdogExpiry _ stray => stray.all fun a => decide (a.toNat < 0x600000)
  | .engineRestartComplete _ => true
  | .warmResetResume => true
  | .clampHoldTimeout => true
  | .clampHoldStage3End => true
  | .lockstepMismatch _ => true
  | .eccUncorrectable mem _ _ n => decide (n ≤ match mem with
    | .sram | .tcm => 1
    | .nvm => 4)
  | .sramScrubStep _ => true
  | .plinthFreqMeasure hz => fits 32 hz
  | .imgCmdStageBegin _ len => fits 32 len
  | .imgCmdStageEnd _ => true
  | .imgCmdDryfit _ => true
  | .imgCmdAbort _ => true
  | .stagingChunk _ b => frameWf b
  | .dryfitComplete => true
  | .glueUpSwitch => true
  | .glueRestartComplete => true
  | .splBlockLock _ _ => true
  | .splPortUp _ => true
  | .splPortDown _ _ => true
  | .helloRx _ x => x.d1 == 0x20
  | .shimPingTimer => true
  | .shimPingRx _ x turnaround => x.d1 == 0x10 && fits 24 turnaround
  | .shimEchoRx _ x _ => x.d1 == 0x11
  | .urgentArmBlock _ x => x.d1 == 1
  | .urgentBypassAll _ x => x.d1 == 2
  | .urgentResume _ x => x.d1 == 3
  | .frameForward _ b _ cut => frameWf b && cut.all fun k => decide (k ≤ b.length)
  | .portReadmit _ => true
  | .armCycleRx _ b => frameWf b
  | .cellStatusRx _ b => frameWf b
  | .armSummaryRx _ b => frameWf b
  | .regReqRx _ b => frameWf b
  | .regOpExecute => true
  | .ownFrameFreeze slot cycle _ => fits 9 slot && fits 32 cycle
  | .ownFrameLaunch _ => true
  | .holdoverEntry _ => true
  | .holdoverExpiry => true
  | .refFrameCommit => true
  | .cycleBoundary => true
  | .pwmCommit _ => true
  | .pwmReplaceCommit _ => true
  | .pulseUnitStart _ => true
  | .pulseReload _ => true
  | .glStatusFrameRx _ _ _ => true
  | .glStatusLost _ => true
  | .peAssessment vCap iTerm => vCap.all (valued 16) && iTerm.all (valuedInt 16)
  | .fireDelayExpiry => true
  | .bypStatClosed => true
  | .bypCloseTimeout => true
  | .offStateDiagStart => true
  | .offStateDiagComplete => true
  | .legRetestComplete => true
  | .takeHoldTimeout => true
  | .glkJigGo _ sw => fits 3 sw
  | .jigPulseEnd => true
  | .comparatorCrossing _ _ _ => true
  | .comparatorReturn _ _ => true
  | .tripInAssert => true
  | .tripInCountWaitExpiry => true
  | .tripOutRelease => true
  | .reactionAutoRelease _ => true
  | .measLostOpenExpiry _ => true
  | .prtClearEntry _ _ => true
  | .prtClearAll _ => true
  | .prtBypassReq _ _ => true
  | .heartbeatSend => true
  | .heartbeatRx _ => true
  | .heartbeatTimeout => true
  | .stateMirrorSend => true
  | .stateMirrorRx m => m.all Mirror.wf
  | .dvtCmdHandover _ => true
  | .tokenGiveRx gen tH => fits 16 gen && valued 64 tH
  | .tokenAckRx gen => fits 16 gen
  | .handoverSwitch => true
  | .handoverAckTimeout => true
  | .dvtLinkDown => true
  | .dvtLinkUp => true
  | .currentLoopTick _ i vCap vCh => i.all (valuedInt 16) && vCap.all (valued 16) && vCh.all (valued 16)
  | .trimPeriodStaircase _ => true
  | .sampleStrobe _ i vCap vCh _ _ shunt => i.all (valuedInt 16) && vCap.all (valued 16) && vCh.all (valued 16)
      && (shunt.map (·.1)).foldl (· + ·) 0 == 1000000
  | .overBudgetTick _ _ => true
  | .chaCmdConnect _ _ => true
  | .chaCmdRun _ _ => true
  | .chaCmdBlock _ _ => true
  | .chaCmdDisconnect _ _ => true
  | .connectStepTimer _ => true
  | .prechargeTargetReached _ => true
  | .prechargeTimeout _ => true
  | .prechargeCooldownEnd _ => true
  | .zeroingComplete _ => true
  | .protectiveZeroBlock _ => true
  | .openingStepTimer _ => true
  | .forcedOpen _ => true
  | .chaParkGo _ _ _ => true
  | .parkExecute _ _ => true
  | .chaClearUnpark _ _ _ => true
  | .chaClearWeld _ _ => true
  | .learnHalfPeriod _ => true
  | .snaCmdWake _ _ => true
  | .snaCmdSleep _ _ => true
  | .enumStart _ => true
  | .enumReturn _ b => senFrameWf b
  | .enumerationComplete _ => true
  | .strobeLaunch _ _ => true
  | .sampleRx _ b => senFrameWf b
  | .srsRx _ b => senFrameWf b
  | .pongRx _ b _ => senFrameWf b
  | .pingTimer _ => true
  | .sampleSetComplete _ => true
  | .owTestTimer _ => true
  | .sentinelSilent _ _ => true
  | .lostModulePoll _ _ => true
  | .bswTestIssue _ _ _ => true
  | .eeMillisecondCount _ => true
  | .anchorTimerExpiry _ _ _ _ => true
  | .limitsPublish => true
  | .limitsStale _ => true
  | .balanceTick _ => true
  | .ocvRestExpiry _ _ _ => true
  | .checkpointTimer => true
  | .countPeriodTimer => true
  | .recordWriteStart _ => true
  | .estCmdCheckpoint _ => true
  | .estCmdResetModule _ _ _ => true
  | .vnrCtrlPreset _ _ => true
  | .scanStep inputs => inputs.wf
  | .sensorReturn _ _ _ => true
  | .coldShutdownEnd _ => true
  | .hotReleaseReady _ => true
  | .heaterStagger => true
  | .thmHeatCmd _ ch action => fits 4 ch && fits 2 action
  | .heatOverrideExpiry _ => true
  | .thmClearRelease _ _ => true
  | .thmClearErase _ => true
  | .tillRecordWrite => true
  | .lswCmd _ ch action => fits 4 ch && fits 2 action
  | .lswClear _ _ => true
  | .lswSenseSelect _ _ => true
  | .currentLimitReached _ i => valuedInt 16 i
  | .limitTimeExpiry _ => true
  | .junctionOvertemp _ tj => valuedInt 16 tj
  | .inrushWindowEnd _ => true
  | .retryPauseEnd _ => true
  | .retryCountReset _ => true
  | .clusterSensorSample _ temp tjs is => valuedInt 16 temp && tjs.length == 4 && tjs.all (valuedInt 16) && is.length == 4 && is.all (valuedInt 16)
  | .coilShedDelayExpiry _ => true
  | .clusterRestoreStagger _ => true
  | .econPullEnd _ => true
  | .openLoadOnDetect _ => true
  | .offStateLoadTest _ vout => valued 16 vout
  | .lbusTxGo _ _ => true
  | .lbusTxCancel _ _ => true
  | .canTxComplete _ _ => true
  | .canTxAttemptFail _ _ => true
  | .canFrameRx f => f.wf
  | .lbusServiceRequest => true
  | .lbusRxAck _ _ => true
  | .lbusStatusPeriod => true
  | .lbusBusOff => true
  | .busoffHoldExpiry => true
  | .busOffRecovered => true
  | .lbusCmdRecover _ => true
  | .secCmdAttest _ => true
  | .attestSigned => true
  | .secCmdStepField _ => true
  | .secCounterWrite => true
  | .enrolmentObject object => object.length ≤ 4096
  | .svcRegReq seq ops => fits 16 seq && 1 ≤ ops.length && ops.length ≤ 16 && ops.all RegOp.wf
  | .svcBulk seq stream off data => fits 16 seq && fits 8 stream && fits 32 off && data.length ≤ 4088
  | .svcFrameGapTimeout => true
  | .svcFrameCrcFail seq => fits 16 seq
  | .jtagTapReset => true
  | .jtagInstruction _ => true
  | .mntStartLearn _ _ _ => true
  | .mntStartSentUpdate _ _ _ => true
  | .mntStartGateTest _ _ _ => true
  | .mntStartJig _ _ _ => true
  | .mntStartPrecharge _ _ _ => true
  | .mntStartContTest _ _ _ => true
  | .mntStartHeaterTest _ _ _ => true
  | .mntStartRecordExport _ _ _ => true
  | .mntStop _ _ => true
  | .actTimeoutExpiry _ => true
  | .activityComplete _ => true
  | .eventLogCopy => true
  | .evtSelWrite _ _ => true
  | .readLowWordLatch _ _ => true
  | .rcRead _ _ => true
  | .registerWrite _ _ _ => true
  | .tripInRelease => true
  | .pulseCompareEdge _ => true
  | .kerfTurnOn _ => true
  | .testWindowExpiry => true
  | .nvmWriteComplete => true
  | .stageEraseComplete => true
  | .lbusRxError _ => true
  | .lbusBusIdle => true
  | .heaterTestChannelEnd => true
  | .senseSelPinChange _ => true

end Sys2Proof
end

