-- ==== Sys2Proof/Tests/Slice0.lean ====
section
/-! SUPPORT. Checks of this work: terms that the well-formedness checks refuse, and for each statement with
hypotheses a state and operands that meet all hypotheses of each of its clauses together. -/

set_option Elab.async false

namespace Sys2Proof.Tests
open Sys2Proof Sys2Proof.Machine

/-- An image that grants every right, with parameter records `ps`. -/
def image (ps : List ParamRec) : Image :=
  { str := { engineMask := 0xFF#8, nChains := 2, modules := 4, kerfA := 50, kerfB := 50, lsw := #v[1, 2, 3, 4, 5, 0, 0, 0, 0, 0, 0, 0], cmps := Vector.replicate 8 { mode := 1, threshold := 100 } }
    reactions := List.replicate 64 { source := 8, recover := 1 }
    inlay := { cycle := 25000, slots := [{ start := 0, owner := 0, cls := 1, len := 128 }, { start := 1000, owner := 1, cls := 1, len := 128 },
      { start := 2000, owner := 0, cls := 2, len := 128 }, { start := 3000, owner := 0, cls := 3, len := 128 }] }
    esc := List.replicate 40 0xFF#8
    params := ps }
/-- The image of a device with a dovetail partner. -/
def duplex : Image := { image [] with str := { (image []).str with board := 1 } }
/-- A device that runs and holds the token, long after reset. -/
def ready : State :=
  { dev := { phase := .ready }
    img := { active := some (image []) }
    eng := { state := Vector.replicate 8 .running }
    arm := { owner := true }
    spl := { posValid := true, ringReady := true, size := 4, portE := { isUp := true }, portW := { isUp := true } }
    tim := { time := 10000000000000 }
    clock := 10000000000000 }
/-- A pulse set of 20 µs. -/
def pwmSet : PwmSet := { period := 20000, rise := 2000, fall := 15000, apply := 0, committedAt := 0 }
/-- The bytes of an ARM_CYCLE of the cycle at 10,000 s, on a ring of four, in RUN. -/
def armBytes : List Byte :=
  sealFrame 128 (headBytes 1 0x8000 0 1 128 1410065408 ++ List.replicate 12 0 ++ [0, 4, 2])
/-- What they say. -/
def arm : ArmCycle :=
  { fromWest := false, cycle := 1410065408, hops := 0, txTime := 0, corr := 0, ring := 0, ringSize := 4, mode := 2, applyTime := 0, vRef := 0, vSlope := 0,
    iArm := some 0, nActive := 0, eAvg := 0, socAvg := some 0, pReq := some 0, ringTag := 0, gluePhase := 0, glueTag := 0, tG := 0, urgCode := 0, urgSeq := 0 }
/-- A reference frame. -/
def reference : ArmCycle := { arm with nActive := 4, eAvg := 100 }
/-- A frame of a slot that the inlay table does not have. -/
def strayBytes : List Byte := sealFrame 128 (headBytes 1 0x8000 9 1 128 1410065408)
/-- A frame whose CRC is wrong. -/
def badBytes : List Byte := List.replicate 128 0
/-- A classic CAN frame. -/
def can : CanFrame := { id := 0, xtd := false, fdf := false, brs := false, esi := false, rtr := false, dlc := 0, data := [], stamp := 0 }
/-- The bytes of a sentinel's SAMPLE of module 0. -/
def sampleBytes : List Byte := senSeal 2 0x80 0 (List.replicate 111 0)
/-- The bytes of an ENUM that HEAD has sent, back at TAIL after four modules. -/
def enumBytes : List Byte := senSeal 7 0x3F 0 [4, 4]
/-- The answer of module 0 to READ_ID. -/
def idBytes : List Byte := senSeal 4 0xC0 1 (1 :: 0 :: List.replicate 12 0)
/-- Its refusal of a balance-switch test. -/
def refusedBytes : List Byte := senSeal 4 0xC0 1 [5, 1]
/-- Its end of TERM_DIAG. -/
def termBytes : List Byte := senSeal 4 0xC0 1 [6, 0]
/-- The PONG of module 0 at HEAD with PING_ID 7 and a turnaround of 20 ns. -/
def pongBytes : List Byte := senSeal 6 0xC0 0 [7, 2, 0]
/-- A mirror of a device at rest. -/
def mirror : Mirror :=
  { legA := .hiZ, legB := .hiZ, causeA := 0, causeB := 0, bInvert := false, setA := none, setB := none, fired := [], latched := 0,
    chA := { st := .absent, order := [], nIns := 0, trim1 := none, trim2 := none, w1 := 0, w2 := 0, integ := 0 },
    chB := { st := .absent, order := [], nIns := 0, trim1 := none, trim2 := none, w1 := 0, w2 := 0, integ := 0 },
    cntA := [], cntB := [], setsA := [], setsB := [], hopA := none, hopB := none, load := [], refOk := false, bypassReq := false, acts := [] }
/-- The bytes of a CELL_STATUS of position 1. -/
def statusBytes : List Byte := sealFrame 128 (headBytes 2 1 1 1 128 1410065408)
/-- The bytes of an ARM_SUMMARY. -/
def summaryBytes : List Byte := sealFrame 256 (headBytes 3 0x8000 2 1 256 1410065408)
/-- The bytes of a REG_REQ with one read for position 0. -/
def requestBytes : List Byte := sealFrame 40 (headBytes 4 0x8000 3 2 40 1410065408 ++ [0, 0, 0, 0, 1, 0, 0, 0, 8, 0, 0, 0, 0, 0, 0, 0])
/-- The bytes of a BULK with the first 68 bytes of a staging stream. -/
def bulkBytes : List Byte := sealFrame 128 (headBytes 6 0x8000 3 3 128 1410065408 ++ [0, 0x80, 1, 0, 0, 0, 0, 0])
/-- A register operation. -/
def op : RegOp := { dest := 0, tag := 0, op := 1, addr := 8, data := 0 }
/-- The content of the SAMPLE. -/
def sample : SampleFrame :=
  { sseq := 0, echo := 0, status := 0, vmod := some 0, cells := List.replicate 32 (some 0), temps := List.replicate 8 (some 0),
    applied := List.replicate 40 0, thOpen := 0, owOpen := 0, owNew := false }
/-- A held read of the low word of SPL time. -/
def rd : HeldOp := { op := { dest := 0, tag := 0, op := 1, addr := 0x00000008, data := 0 } }
/-- A mirror of 12 channels and 4 activities. -/
def goodMirror : Mirror := { mirror with load := List.replicate 12 ⟨false, false, false, false, 0⟩, acts := [0, 0, 0, 0] }
/-- The inputs of a scan step. -/
def scan : ScanInputs := { gen := [], dieCtrl := 250, dieMeas := 250, diePower := 250 }
/-- A reading of a general input. -/
def reading : GenReading := { temp := none, ohms := 10000 }
/-- A shim ping. -/
def ping : OrdSet := orderedSet 0x10 0 0 0

/-! ### Well-formedness: what each check refuses -/

theorem test_wellformed_frames : ([
    .canFrameRx can, .armCycleRx .e armBytes, .cellStatusRx .e statusBytes, .armSummaryRx .e summaryBytes,
    .regReqRx .e requestBytes, .frameForward .e armBytes 0 (some 64), .helloRx .e (orderedSet 0x20 0 1 0x30000),
    .stateMirrorRx (some goodMirror), .sampleRx .a sampleBytes, .enumReturn .a enumBytes, .srsRx .a idBytes,
    .pongRx .a pongBytes 0, .scanStep scan, .svcRegReq 0 [op], .clusterSensorSample 0 (-400) [0, 0, 0, 0] [0, 0,
    0, -1], .sampleStrobe .a (some 0) (some 0) none 0 0 [(1000000, 0)]] : List Instr).all Instr.wf = true := by
    decide +kernel

theorem test_illformed_1 : ([
    .powerOnResetRelease (2 ^ 16 - 1) 0 false false false, .powerOnResetRelease 0 (2 ^ 16 - 1) false false
    false, .vsysPlinthSample (2 ^ 16 - 1), .vbakOutOfRange (2 ^ 16 - 1), .vauxLowDetect (2 ^ 16 - 1),
    .vauxLowClear (2 ^ 16 - 1), .lbusWake (some { can with dlc := 1 }), .engineWatchdogExpiry .me
    (some 0x600000), .eccUncorrectable .nvm 0 .me 5, .plinthFreqMeasure (2 ^ 32), .imgCmdStageBegin .spline
    (2 ^ 32), .stagingChunk .e [0, 0, 0]] : List Instr).any Instr.wf = false := by decide +kernel

theorem test_illformed_2 : ([
    .helloRx .e (orderedSet 0x55 0 0 0), .shimPingRx .e (orderedSet 0x55 0 0 0) 0, .shimPingRx .e ping (2 ^ 24),
    .shimEchoRx .e (orderedSet 0x55 0 0 0) 0, .urgentArmBlock .e (orderedSet 0x55 0 0 0), .urgentBypassAll .e
    (orderedSet 0x55 0 0 0), .urgentResume .e (orderedSet 0x55 0 0 0), .frameForward .e [0, 0, 0] 0 none,
    .frameForward .e [] 0 (some 1), .armCycleRx .e [0, 0, 0], .cellStatusRx .e [0, 0, 0], .armSummaryRx .e [0,
    0, 0]] : List Instr).any Instr.wf = false := by decide +kernel

theorem test_illformed_3 : ([
    .regReqRx .e [0, 0, 0], .ownFrameFreeze (2 ^ 9) 0 false, .ownFrameFreeze 0 (2 ^ 32) false, .peAssessment
    (some (2 ^ 16 - 1)) none, .peAssessment none (some (-(2 ^ 15))), .glkJigGo .spline (2 ^ 3), .stateMirrorRx
    (some { goodMirror with acts := [] }), .tokenGiveRx (2 ^ 16) 0, .tokenGiveRx 0 (2 ^ 64 - 1), .tokenAckRx
    (2 ^ 16), .currentLoopTick .a (some (-(2 ^ 15))) none none, .currentLoopTick .a none (some (2 ^ 16 - 1))
    none] : List Instr).any Instr.wf = false := by decide +kernel

theorem test_illformed_4 : ([
    .currentLoopTick .a none none (some (2 ^ 16 - 1)), .sampleStrobe .a (some (-(2 ^ 15))) none none 0 0
    [(1000000, 0)], .sampleStrobe .a none (some (2 ^ 16 - 1)) none 0 0 [(1000000, 0)], .sampleStrobe .a none
    none (some (2 ^ 16 - 1)) 0 0 [(1000000, 0)], .sampleStrobe .a none none none 0 0 [(999999, 0)], .enumReturn
    .a [1, 2, 3], .sampleRx .a [1, 2, 3], .srsRx .a [1, 2, 3], .pongRx .a [1, 2, 3] 0, .scanStep
    { scan with dieCtrl := -(2 ^ 15) }, .thmHeatCmd .spline (2 ^ 4) 0, .thmHeatCmd .spline 0 (2 ^ 2)] : List
    Instr).any Instr.wf = false := by decide +kernel

theorem test_illformed_5 : ([
    .lswCmd .spline (2 ^ 4) 0, .lswCmd .spline 0 (2 ^ 2), .currentLimitReached 0 (-(2 ^ 15)), .junctionOvertemp
    0 (-(2 ^ 15)), .clusterSensorSample 0 (-(2 ^ 15)) [0, 0, 0, 0] [0, 0, 0, 0], .clusterSensorSample 0 0 [] [0,
    0, 0, 0], .clusterSensorSample 0 0 [0, 0, 0, -(2 ^ 15)] [0, 0, 0, 0], .clusterSensorSample 0 0 [0, 0, 0, 0]
    [], .clusterSensorSample 0 0 [0, 0, 0, 0] [0, 0, 0, -(2 ^ 15)], .offStateLoadTest 0 (2 ^ 16 - 1),
    .canFrameRx { can with data := [0] }, .svcRegReq (2 ^ 16) [op]] : List Instr).any Instr.wf = false := by
    decide +kernel

theorem test_illformed_6 : ([
    .svcRegReq 0 [], .svcRegReq 0 (List.replicate 17 op), .svcRegReq 0 [{ op with dest := 0x2000 }], .svcBulk
    (2 ^ 16) 0 0 [], .svcBulk 0 (2 ^ 8) 0 [], .svcBulk 0 0 (2 ^ 32) [], .svcFrameCrcFail (2 ^ 16), .canFrameRx
    { can with data := [0] }, .canFrameRx { can with id := 0x800 }, .canFrameRx
    { can with rtr := true, fdf := true }, .canFrameRx { can with rtr := true, dlc := 1, data := [0] },
    .canFrameRx { can with fdf := true, dlc := 9 }] : List Instr).any Instr.wf = false := by decide +kernel

theorem test_illformed_7 : ([
    .eccUncorrectable .sram 0 .me 2, .eccUncorrectable .tcm 0 .me 2, .stateMirrorRx (some
    { goodMirror with setA := some { pwmSet with period := 2 ^ 32 } }), .stateMirrorRx (some
    { goodMirror with setB := some { pwmSet with rise := 2 ^ 32 } }), .stateMirrorRx (some
    { goodMirror with setA := some { pwmSet with fall := 2 ^ 32 } }), .stateMirrorRx
    (some { goodMirror with fired := [64] }), .stateMirrorRx
    (some { goodMirror with cntA := List.replicate 33 0 }), .stateMirrorRx
    (some { goodMirror with cntB := List.replicate 33 0 }), .stateMirrorRx
    (some { goodMirror with hopA := some 256 }), .stateMirrorRx (some { goodMirror with hopB := some 256 }),
    .stateMirrorRx (some { goodMirror with load := [] }), .scanStep
    { scan with gen := List.replicate 9 reading }] : List Instr).any Instr.wf = false := by decide +kernel

theorem test_illformed_8 : ([
    .scanStep { scan with gen := [{ reading with temp := some (-(2 ^ 15)) }] }, .scanStep
    { scan with dieCtrl := 2 ^ 15 }, .scanStep { scan with dieMeas := 2 ^ 15 }, .scanStep
    { scan with diePower := 2 ^ 15 }] : List Instr).any Instr.wf = false := by decide +kernel

theorem test_too_long_1 : Instr.wf (.enrolmentObject (List.replicate 4097 0)) = false := by simp only [Instr.wf, frameWf, senFrameWf, List.length_replicate]; rfl

theorem test_too_long_2 : Instr.wf (.svcBulk 0 0 0 (List.replicate 4089 0)) = false := by simp only [Instr.wf, frameWf, senFrameWf, List.length_replicate]; rfl

theorem test_too_long_3 : Instr.wf (.armCycleRx .e (List.replicate 520 0)) = false := by simp only [Instr.wf, frameWf, senFrameWf, List.length_replicate]; rfl

theorem test_too_long_4 : Instr.wf (.sampleRx .a (List.replicate 262 0)) = false := by simp only [Instr.wf, frameWf, senFrameWf, List.length_replicate]; rfl

/-! ### Bytes on the wires -/

/-- The CRC-16 of the nine characters, as spec/08 R183 gives it. -/
theorem test_sentinel_crc : crc16 [0x31, 0x32, 0x33, 0x34, 0x35, 0x36, 0x37, 0x38, 0x39] = 0x29B1 := by decide +kernel

/-- An ARM_CYCLE whose byte k holds k after the header: each field has the bytes of its offset in Table 04.8. -/
theorem test_arm_cycle_layout :
    (armOf (sealFrame 128 ([0x78, 1, 0x01, 0x80, 0x03, 0x02, 0x80, 0, 8, 9, 10, 11, 12, 0, 0, 0] ++ (List.range 108).map fun k => BitVec.ofNat 8 (k + 16)))).map
      (fun x => [x.cycle, x.hops, x.txTime, x.corr, x.ring, x.ringSize, x.mode])
    = some [0x0B0A0908, 12, 0x1716151413121110, 0x1B1A1918, 28, 29, 6] := by decide +kernel

/-- The modulation fields of the same frame. -/
theorem test_arm_cycle_modulation :
    (armOf (sealFrame 128 ([0x78, 1, 0x01, 0x80, 0x03, 0x02, 0x80, 0, 8, 9, 10, 11, 12, 0, 0, 0] ++ (List.range 108).map fun k => BitVec.ofNat 8 (k + 16)))).map
      (fun x => [(x.applyTime : Int), x.vRef, x.vSlope, x.iArm.getD 0, x.nActive, x.eAvg, x.socAvg.getD 0, x.pReq.getD 0])
    = some [0x2726252423222120, 0x2B2A2928, 0x2F2E2D2C, 0x3130, 0x3332, 0x37363534, 0x3938, 0x3F3E3D3C] := by decide +kernel

/-! ### The queue and the invariants -/

theorem test_front_command : ∃ (s : State) (c : Instr) (rest : List Instr), s.pending = c :: rest :=
  ⟨{ ready with pending := [.ringReady] }, .ringReady, [], rfl⟩

theorem test_empty_queue : ready.pending = [] := rfl

theorem test_commands_that_change_nothing_named : ∃ t, exec .heartbeatSend ready = .next t := ⟨_, rfl⟩

theorem test_canonical_slots : ∃ s t : State, s.memOk ∧ step s = .next t :=
  ⟨{ ready with img := { ready.img with slotA := [(3, 0#8), (7, 1#8)] } }, _, ⟨by decide, by decide⟩, rfl⟩

theorem test_lifecycle_step : ∃ t, step { ready with pending := [.heartbeatSend] } = .next t := ⟨_, rfl⟩

theorem test_status_readable : ∃ s : State, s.outOfReset = true ∧ s.dev.serialLoaded = true ∧ s.sec.life ≤ 3 :=
  ⟨{ ready with dev := { ready.dev with serialLoaded := true }, sec := { ready.sec with life := 3 } }, by decide, by decide, by decide⟩

/-- An event log of n entries, the newest numbered n - 1. -/
def entries : Nat → List Event
  | 0 => []
  | n + 1 => ⟨n, 0, 0, 0, 0, 0, 0⟩ :: entries n

theorem entries_length : ∀ n, (entries n).length = n
  | 0 => rfl
  | n + 1 => congrArg (· + 1) (entries_length n)

theorem entries_seq : ∀ n, n + 1 ≤ 2 ^ 32 → seqFrom n (entries (n + 1))
  | 0, _ => ⟨rfl, trivial⟩
  | n + 1, h => ⟨rfl, by
      have e : (n + 1 + 2 ^ 32 - 1) % 2 ^ 32 = n := by omega
      rw [e]
      exact entries_seq n (by omega)⟩

theorem test_log_with_room : ∃ s : State, s.logOk ∧ (hwEvent 0x8101 && s.evtWaits) = false ∧ s.evt.pending < 1024 :=
  ⟨{ ready with evt := { ready.evt with newest := 3, sram := entries 4, pending := 2 } },
    ⟨by decide, by decide, by decide, entries_seq 3 (by decide)⟩, by decide, by decide⟩

theorem test_log_full : ∃ s : State, s.logOk ∧ (hwEvent 0x8101 && s.evtWaits) = false ∧ 1024 ≤ s.evt.pending :=
  ⟨{ ready with evt := { ready.evt with newest := 1023, sram := entries 1024, pending := 1024 } },
    ⟨by decide, by rw [entries_length], by rw [entries_length], entries_seq 1023 (by decide)⟩, by decide, by decide⟩

theorem test_log_waits : ∃ s : State, s.logOk ∧ (hwEvent 0x1010 && s.evtWaits) = true ∧ s.evt.hwQ.length < 32 ∧
    s.evt.pending + s.evt.hwQ.length ≤ 1024 :=
  ⟨{ ready with
      eng := { ready.eng with state := ready.eng.state.set EngineId.he.idx .restarting }
      evt := { ready.evt with newest := 3, sram := entries 4, pending := 2, hwQ := [{ code := 0x1010 }] } },
    ⟨by decide, by decide, by decide, entries_seq 3 (by decide)⟩, by decide +kernel, by decide, by decide⟩

theorem test_log_drops : ∃ s : State, s.logOk ∧ (hwEvent 0x1010 && s.evtWaits) = true ∧ 32 ≤ s.evt.hwQ.length :=
  ⟨{ ready with
      eng := { ready.eng with state := ready.eng.state.set EngineId.ee.idx .restarting }
      evt := { ready.evt with newest := 3, sram := entries 4, pending := 2, hwQ := List.replicate 32 {} } },
    ⟨by decide, by decide, by decide, entries_seq 3 (by decide)⟩, by decide +kernel, by decide⟩

/-! ### Each statement's hypotheses are met together -/

theorem test_arm_cycle_modulation_hypotheses :
    (∃ (s : State) (f : ArmCycle), s.spl.lastArm = some f ∧ isReference f = true ∧ s.refRuns = true ∧
      (∀ x ∈ s.arm.refQ, x.origin ≠ (s.refOf f).origin) ∧
      (∀ x, s.arm.ref = some x → x.origin ≠ (s.refOf f).origin) ∧ s.tim.time ≤ (s.refOf f).origin ∧ s.nextBound
      < (s.refOf f).origin) ∧
    (∃ (s : State) (f : ArmCycle) (r : Nat), s.spl.lastArm = some f ∧ isReference f = true ∧ s.refRuns = true ∧
      (∀ x ∈ s.arm.refQ, x.origin ≠ (s.refOf f).origin) ∧
      (∀ x, s.arm.ref = some x → x.origin ≠ (s.refOf f).origin) ∧ s.tim.time ≤ (s.refOf f).origin ∧
      (s.refOf f).origin ≤ s.nextBound ∧ s.nextReload .a = some r ∧ s.nextBound ≤ r ∧ r < s.nextBound +
      s.cycleNs) ∧
    (∃ (s : State) (f : ArmCycle), s.spl.lastArm = some f ∧ isReference f = false) ∧
    (∃ (s : State), s.boundDue = true ∧ s.dev.phase = .glueRestart) ∧
    (∃ (s : State), s.boundDue = true ∧ (s.dev.phase = .ready ∨ s.dev.phase = .starting) ∧ s.img.adoptDue =
      false) :=
  ⟨⟨{ ready with
        spl := { ready.spl with lastArm := some reference },
        arm := { ready.arm with boundary := 0 } }, reference, by decide, by decide, by decide, by decide,
      (fun _ q => by cases q), by decide, by decide⟩,
   ⟨{ ready with
        spl := { ready.spl with lastArm := some reference },
        arm := { ready.arm with boundary := 10000000000000 },
        pwm := { ready.pwm with a := { running := true, cur := some pwmSet, t0 := 10000000005000 } } },
      reference, 10000000025000, by decide, by decide, by decide, by decide, (fun _ q => by cases q), by decide,
      by decide, by decide, by decide, by decide⟩,
   ⟨{ ready with spl := { ready.spl with lastArm := some { arm with nActive := 0 } } },
      { arm with nActive := 0 }, by decide, by decide⟩,
   ⟨{ ready with dev := { ready.dev with phase := .glueRestart }, tim := { ready.tim with acquired := true } },
      by decide, by decide⟩,
   ⟨{ ready with tim := { ready.tim with acquired := true } }, by decide, by decide, by decide⟩⟩

theorem test_pulse_sets_and_periods_hypotheses :
    (∃ (s : State) (leg : Leg), s.eng.state[EngineId.me.idx] = .running ∧ setCause (s.unit leg) = 0) ∧
    (∃ (s : State) (leg : Leg), s.eng.state[EngineId.me.idx] = .running ∧ setCause (s.unit leg) ≠ 0) ∧
    (∃ (s : State) (leg : Leg) (c : PwmSet), s.eng.state[EngineId.me.idx] = .running ∧ (s.unit leg).cur = some c
      ∧ setCause (s.unit leg) = 0 ∧ (s.unit leg).shPeriod = c.period) ∧
    (∃ (s : State) (leg : Leg), s.eng.state[EngineId.me.idx] = .running ∧ (∀ c, (s.unit leg).cur = some c →
      (s.unit leg).shPeriod ≠ c.period) ∧ setCause (s.unit leg) = 0) ∧
    (∃ (s : State) (leg : Leg) (p : PwmSet) (rest : List PwmSet), (s.unit leg).running = false ∧
      (s.unit leg).startArmed = true ∧ startTime (s.unit leg) ≤ s.tim.time ∧ pickSet (startTime (s.unit leg))
      s.clock (s.unit leg).queue = some (p, rest)) ∧
    (∃ (s : State) (leg : Leg), (s.unit leg).running = false ∧ (s.unit leg).startArmed = true ∧ startTime
      (s.unit leg) ≤ s.tim.time ∧ pickSet (startTime (s.unit leg)) s.clock (s.unit leg).queue = none) ∧
    (∃ (s : State) (leg : Leg) (c : PwmSet) (p : PwmSet) (rest : List PwmSet), (s.unit leg).running = true ∧
      (s.unit leg).cur = some c ∧ (s.unit leg).t0 + c.period ≤ s.tim.time ∧ pickSet ((s.unit leg).t0 + c.period)
      s.clock (s.unit leg).queue = some (p, rest)) ∧
    (∃ (s : State) (leg : Leg) (c : PwmSet), (s.unit leg).running = true ∧ (s.unit leg).cur = some c ∧
      (s.unit leg).t0 + c.period ≤ s.tim.time ∧ pickSet ((s.unit leg).t0 + c.period) s.clock (s.unit leg).queue
      = none) ∧
    (∃ (s : State) (leg : Leg) (c : PwmSet), (s.unit leg).running = true ∧ (s.unit leg).cur = some c) ∧
    (∃ (s : State) (leg : Leg) (t0 : Nat) (b : Bool), (s.unit leg).kerfUntil = some (t0, b) ∧ t0 ≤ s.tim.time)
      :=
  ⟨⟨{ ready with pwm := { ready.pwm with a := { shPeriod := 20000, shRise := 2000, shFall := 15000 } } }, .a, by
      decide, by decide⟩,
   ⟨{ ready with pwm := { ready.pwm with a := { shPeriod := 9999 } } }, .a, by decide, by decide⟩,
   ⟨{ ready with
        pwm :=
          { ready.pwm with a := { shPeriod := 20000, shRise := 2000, shFall := 15000, cur := some pwmSet } } },
      .a, pwmSet, by decide, by decide, by decide, by decide⟩,
   ⟨{ ready with pwm := { ready.pwm with a := { shPeriod := 20000, shRise := 2000, shFall := 15000 } } }, .a, by
      decide, (fun _ q => by cases q), by decide⟩,
   ⟨{ ready with pwm := { ready.pwm with a := { startArmed := true, queue := [pwmSet] } } }, .a, pwmSet, [], by
      decide, by decide, by decide, by decide⟩,
   ⟨{ ready with pwm := { ready.pwm with a := { startArmed := true } } }, .a, by decide, by decide, by decide,
      by decide⟩,
   ⟨{ ready with pwm := { ready.pwm with a := { running := true, cur := some pwmSet, queue := [pwmSet] } } },
      .a, pwmSet, pwmSet, [], by decide, by decide, by decide, by decide⟩,
   ⟨{ ready with pwm := { ready.pwm with a := { running := true, cur := some pwmSet } } }, .a, pwmSet, by
      decide, by decide, by decide, by decide⟩,
   ⟨{ ready with pwm := { ready.pwm with a := { running := true, cur := some pwmSet } } }, .a, pwmSet, by
      decide, by decide⟩,
   ⟨{ ready with pwm := { ready.pwm with a := { kerfUntil := some (0, true) } } }, .a, 0, true, by decide, by
      decide⟩⟩

theorem test_gate_links_and_bypass_outputs_hypotheses :
    (∃ (s : State) (i : Fin 4) (bits : BitVec 16) (check : BitVec 4), s.outOfReset = true ∧ check ≠ crc4 bits) ∧
    (∃ (s : State) (i : Fin 4) (bits : BitVec 16), s.outOfReset = true ∧ s.arm.owner = false ∧
      (s.simplex = true ∨ s.dvt.up = true) ∧ s.glk.holdA = false ∧ s.glk.holdB = false) ∧
    (∃ (s : State) (i : Fin 4) (bits : BitVec 16), s.outOfReset = true ∧ s.arm.owner = true ∧ s.dvt.up = true ∧
      (s.leg (linkLeg i)).st = .running ∧ (bits.getLsbD 11 = true ∨ bits.getLsbD 10 = true ∨ bits.getLsbD 9 =
      true)) ∧
    (∃ (s : State) (i : Fin 4) (t0 : Nat), s.glActive = true ∧ s.glk.links[i].lost = false ∧ s.glk.links[i].age
      = some t0 ∧ t0 + 3 * usNs ≤ s.clock ∧ s.arm.owner = true ∧ (s.leg (linkLeg i)).st = .running) ∧
    (∃ (s : State) (i : Fin 4) (t0 : Nat), s.glActive = true ∧ s.glk.links[i].lost = false ∧ s.glk.links[i].age
      = some t0 ∧ t0 + 3 * usNs ≤ s.clock ∧ s.arm.owner = false) ∧
    (∃ (s : State) (i : Fin 4) (t0 : Nat), s.glActive = true ∧ s.glk.links[i].lost = false ∧ s.glk.links[i].age
      = some t0 ∧ t0 + 3 * usNs ≤ s.clock ∧ s.arm.owner = true ∧ (s.leg (linkLeg i)).st = .hiZ ∧ s.glk.jig =
      none) ∧
    (∃ (s : State) (t0 : Nat), s.glk.fireDue = some t0 ∧ t0 ≤ s.clock ∧
      (s.glk.fireAll = true ∨ s.glk.fireHold = true)) ∧
    (∃ (s : State) (t0 : Nat), s.glk.closeDue = some t0 ∧ t0 ≤ s.clock ∧ s.glk.statClosed = false) :=
  ⟨⟨ready, 0, 0, crc4 0 + 1, by decide, by decide +kernel⟩,
   ⟨{ ready with arm := { ready.arm with owner := false } }, 0, 0, by decide, by decide, by decide, by decide,
      by decide⟩,
   ⟨{ ready with dvt := { ready.dvt with up := true }, glk := { ready.glk with legA := { st := .running } } },
      0, 0x0800, by decide, by decide, by decide, by decide, by decide⟩,
   ⟨{ ready with
        glk := { ready.glk with legA := { st := .running }, links := ready.glk.links.set 0 { age := some 0 } }
          }, 0, 0, by decide, by decide, by decide, by decide, by decide, by decide⟩,
   ⟨{ ready with
        arm := { ready.arm with owner := false },
        glk := { ready.glk with links := ready.glk.links.set 0 { age := some 0 } } }, 0, 0, by decide, by
      decide, by decide, by decide, by decide⟩,
   ⟨{ ready with glk := { ready.glk with links := ready.glk.links.set 0 { age := some 0 } } }, 0, 0, by decide,
      by decide, by decide, by decide, by decide, by decide, by decide⟩,
   ⟨{ ready with glk := { ready.glk with fireDue := some 0, fireHold := true } }, 0, by decide, by decide, by
      decide⟩,
   ⟨{ ready with glk := { ready.glk with closeDue := some 0 } }, 0, by decide, by decide, by decide⟩⟩

theorem test_bridge_diagnostics_hypotheses :
    (∃ (s : State), s.dev.phase = .ready ∧ s.chainPair = false ∧ s.arm.bypassed = false ∧ s.glk.testUntil = none
      ∧ s.glk.testOver = none ∧ (s.leg .a).st = .hiZ ∧ (s.leg .b).st = .hiZ ∧ s.hardOff .a = false ∧ s.hardOff
      .b = false ∧ s.diagWanted = true ∧ (∀ i : Fin 4,
      (s.glk.links[i].word = .off ∨ s.glk.links[i].word = .track) ∧ s.glk.links[i].wordAt + s.kerfMax ≤
      s.clock)) ∧
    (∃ (s : State) (t0 : Nat), s.glk.testUntil = some t0 ∧ t0 ≤ s.clock) ∧
    (∃ (s : State), s.testRead = true ∧ s.glk.testRetest = false ∧ s.legCounts .a = true ∧ s.legCounts .b =
      true) ∧
    (∃ (s : State), s.testRead = true ∧ s.glk.testRetest = false ∧
      (s.legCounts .a = false ∨ s.legCounts .b = false)) ∧
    (∃ (s : State), s.testRead = true ∧ s.glk.testRetest = true ∧ s.glk.testLegs = 1 ∧ s.legPasses .a = true) ∧
    (∃ (s : State), s.testRead = true ∧ s.glk.testRetest = true ∧ s.glk.testLegs = 2 ∧ s.legPasses .b = false ∧
      s.arm.owner = true ∧ s.arm.bypassed = false ∧ s.im.parkEnable = 0 ∧ (s.leg .b).st = .hiZ) ∧
    (∃ (s : State) (t0 : Nat), s.glk.takeUntil = some t0 ∧ t0 ≤ s.clock) ∧
    (∃ (s : State) (p : Requester) (sw : Nat), Granted s p .configure 0x00050040 ∧ s.jigActive = true ∧
      s.arm.mode = .block ∧ s.spl.urgLatch = .none ∧ s.glk.jig = none ∧ 0 < sw ∧ sw ≤ 4) ∧
    (∃ (s : State) (j : JigRun), s.glk.jig = some j ∧ j.start + usNs *
      (if j.w2 = 0 then j.w1 else j.w1 + j.gap + j.w2) ≤ s.clock) :=
  ⟨⟨{ ready with
        arm := { ready.arm with diag := .pending },
        glk := { ready.glk with links := Vector.replicate 4 { word := .off } } }, by decide, by decide, by
      decide, by decide, by decide, by decide, by decide, by decide, by decide, by decide, by decide⟩,
   ⟨{ ready with glk := { ready.glk with testUntil := some 0 } }, 0, by decide, by decide⟩,
   ⟨{ ready with
        glk := { ready.glk with testOver := some 0, links := Vector.replicate 4 { test := 0x14#8 } } }, by
      decide, by decide, by decide, by decide⟩,
   ⟨{ ready with glk := { ready.glk with testOver := some 0 } }, by decide, by decide, by decide⟩,
   ⟨{ ready with
        glk := { ready.glk with
            testOver := some 0,
            testRetest := true,
            testLegs := 1,
            links := Vector.replicate 4 { test := 0x14#8 } } }, by decide, by decide, by decide, by decide⟩,
   ⟨{ ready with
        glk := { ready.glk with testOver := some 0, testRetest := true, testLegs := 2 },
        img := { ready.img with active := some (image [{ fn := 1, num := 0, value := 0 }]) } }, by decide, by
      decide, by decide, by decide, by decide, by decide, by decide, by decide⟩,
   ⟨{ ready with glk := { ready.glk with takeUntil := some 0 } }, 0, by decide, by decide⟩,
   ⟨{ ready with mnt := { ready.mnt with acts := ready.mnt.acts.set 0 (some { code := .jig }) } }, .spline, 4,
      ⟨by decide, by decide⟩, by decide, by decide, by decide, by decide, by decide, by decide⟩,
   ⟨{ ready with glk := { ready.glk with jig := some {} } }, {}, by decide, by decide⟩⟩

theorem test_local_bus_transmission_hypotheses :
    (∃ (s : State) (p : Requester) (b : Fin 16), Granted s p .operate 0x000E0018 ∧ b.val < 14 ∧
      s.lbus.bufs[b].st = 0 ∧ s.arm.owner = true ∧ s.lbus.shed = false ∧
      ((windowFrame s.lbus.win[p.idx]).brs && s.lbus.tdcRange) = false ∧ s.incoherent
      (windowFrame s.lbus.win[p.idx]) = false) ∧
    (∃ (s : State) (p : Requester) (b : Fin 16), Granted s p .operate 0x000E0018 ∧ 14 ≤ b.val) ∧
    (∃ (s : State) (p : Requester) (b : Fin 16), Granted s p .operate 0x000E0018 ∧ b.val < 14 ∧
      s.lbus.bufs[b].st = 0 ∧ s.arm.owner = true ∧ s.lbus.shed = false ∧
      ((windowFrame s.lbus.win[p.idx]).brs && s.lbus.tdcRange) = false ∧ s.incoherent
      (windowFrame s.lbus.win[p.idx]) = true) ∧
    (∃ (s : State) (p : Requester) (mask : BitVec 16), Granted s p .operate 0x000E001C) ∧
    (∃ (s : State) (b : Fin 16) (f : CanFrame) (delay : Nat), s.lbus.bufs[b].frame = some f ∧ s.lbus.bufs[b].st
      = 2 ∧ delay ≤ 1000 ∧ s.lbus.st = .active ∧ s.lbus.txErr ≤ 128 ∧ s.lbus.rxErr ≤ 127) ∧
    (∃ (s : State) (b : Fin 16) (f : CanFrame) (delay : Nat), s.lbus.bufs[b].frame = some f ∧ s.lbus.bufs[b].st
      = 2 ∧ f.fdf = true ∧ f.brs = true ∧ 1000 < s.im.dataRate ∧ 1000 < delay) ∧
    (∃ (s : State) (b : Fin 16), s.lbus.bufs[b].st = 2 ∧ s.lbus.bufs[b].cancel = false ∧ s.lbus.shed = false) ∧
    (∃ (s : State) (b : Fin 16), s.lbus.bufs[b].st = 2 ∧ (s.lbus.bufs[b].cancel = true ∨ s.lbus.shed = true)) ∧
    (∃ (s : State) (b : Fin 16), s.lbus.bufs[b].st = 2 ∧ s.lbus.bufs[b].cancel = false ∧ s.lbus.shed = false ∧
      s.lbus.st = .active ∧ s.lbus.txErr + 8 ≤ 127 ∧ s.lbus.rxErr ≤ 127) ∧
    (∃ (s : State), s.arm.owner = true ∧ s.im.statusPeriod ≠ 0 ∧ s.img.active.isSome = true ∧ s.lbus.shed =
      false ∧ s.lbus.st ≠ .stopped ∧ s.lbus.bufs[15].st ≠ 2) :=
  ⟨⟨{ ready with lbus := { ready.lbus with st := .active } }, .spline, 13, ⟨by decide, by decide⟩, by decide, by
      decide, by decide, by decide, by decide, by decide⟩,
   ⟨ready, .spline, 14, ⟨by decide, by decide⟩, by decide⟩,
   ⟨{ ready with lbus := { ready.lbus with st := .active, win := ready.lbus.win.set 0 { ctrl := 0x09#7 } } },
      .spline, 13, ⟨by decide, by decide⟩, by decide, by decide, by decide, by decide, by decide, by decide⟩,
   ⟨ready, .spline, 0, ⟨by decide, by decide⟩⟩,
   ⟨{ ready with
        lbus := { ready.lbus with st := .active, bufs := ready.lbus.bufs.set 0 { st := 2, frame := some can } }
          }, 0, can, 1000, by decide, by decide, by decide, by decide, by decide, by decide⟩,
   ⟨{ ready with
        lbus := { ready.lbus with
            bufs := ready.lbus.bufs.set 0 { st := 2, frame := some { can with fdf := true, brs := true } } },
        img := { ready.img with active := some (image [{ fn := 10, num := 1, value := 2000 }]) } }, 0,
      { can with fdf := true, brs := true }, 1001, by decide, by decide, by decide, by decide, by decide, by
      decide⟩,
   ⟨{ ready with lbus := { ready.lbus with bufs := ready.lbus.bufs.set 0 { st := 2, frame := some can } } }, 0,
      by decide, by decide, by decide⟩,
   ⟨{ ready with
        lbus := { ready.lbus with bufs := ready.lbus.bufs.set 0 { st := 2, frame := some can, cancel := true } }
          }, 0, by decide, by decide⟩,
   ⟨{ ready with
        lbus := { ready.lbus with st := .active, bufs := ready.lbus.bufs.set 0 { st := 2, frame := some can } }
          }, 0, by decide, by decide, by decide, by decide, by decide, by decide⟩,
   ⟨{ ready with lbus := { ready.lbus with st := .active } }, by decide, by decide, by decide, by decide, by
      decide, by decide⟩⟩

theorem test_local_bus_reception_and_errors_hypotheses :
    (∃ (s : State) (p : Requester) (e : Fin 64) (x : RxEntry), Granted s p .operate 0x000E0044 ∧ s.lbus.rx[e] =
      some x ∧ x.owned = true) ∧
    (∃ (s : State) (p : Requester) (e : Fin 64), Granted s p .operate 0x000E0044 ∧ s.lbus.rx[e] = none) ∧
    (∃ (s : State) (f : CanFrame) (n : Fin 64) (k : Nat), s.lbus.st = .monitoring ∧ s.reservedId f.xtd
      f.id.toNat = false ∧ s.acceptFilter f = some k ∧ s.freeEntry = some n ∧ s.lbus.discRun = 0) ∧
    (∃ (s : State) (f : CanFrame) (k : Nat), s.lbus.st = .monitoring ∧ s.reservedId f.xtd f.id.toNat = false ∧
      s.acceptFilter f = some k ∧ s.freeEntry = none) ∧
    (∃ (s : State) (f : CanFrame), s.lbus.st = .active ∧ s.reservedId f.xtd f.id.toNat = false ∧ s.acceptFilter
      f = none ∧ s.lbus.txErr ≤ 127 ∧ s.lbus.rxErr ≤ 127) ∧
    (∃ (s : State) (f : CanFrame) (n : Fin 64) (k : Nat) (t0 : Word), s.lbus.st = .stopped ∧ s.lbus.lastRx =
      some (false, t0) ∧ (t0 - f.stamp).toNat < 2 ^ 31 ∧ s.reservedId f.xtd f.id.toNat = false ∧ s.acceptFilter
      f = some k ∧ s.freeEntry = some n ∧ s.lbus.discRun = 0) ∧
    (∃ (s : State) (f : CanFrame), s.lbus.st = .stopped ∧ s.lbus.lastRx = none) ∧
    (∃ (s : State), s.lbus.st = .integrating ∧ s.lbus.wakeFrame = none) ∧
    (∃ (s : State), s.lbus.st = .monitoring ∧ s.lbus.toNormal = true) ∧
    (∃ (s : State) (b : Fin 16), s.lbus.st = .active ∧ s.winner = some b ∧
      (∀ k : Fin 16, s.lbus.bufs[k].st ≠ 2)) ∧
    (∃ (s : State) (d : Bool), s.lbus.st = .active ∧ s.lbus.txErr ≤ 127 ∧ s.lbus.rxErr + (if d then 8 else 1) ≤
      127) ∧
    (∃ (s : State) (d : Bool), s.lbus.st = .active ∧ 127 < s.lbus.rxErr + (if d then 8 else 1)) ∧
    (∃ (s : State), (s.lbus.st = .active ∨ s.lbus.st = .passive) ∧ 256 ≤ s.lbus.txErr ∧ s.im.autoRecover = 1 ∧
      ((s.lbus.offTimes.filter fun u => decide (s.clock < u + 60 * secNs)).length + 1 < s.im.busoffMax)) ∧
    (∃ (s : State) (t0 : Nat), s.lbus.st = .busOff ∧ s.lbus.offDue = some t0 ∧ t0 ≤ s.clock) ∧
    (∃ (s : State), s.lbus.st = .busOff ∧ s.lbus.recovering = true) ∧
    (∃ (s : State) (p : Requester), Granted s p .operate 0x000E0004 ∧ s.lbus.st = .busOff) :=
  ⟨⟨{ ready with lbus := { ready.lbus with rx := ready.lbus.rx.set 0 (some { owned := true }) } }, .spline, 0,
      { owned := true }, ⟨by decide, by decide⟩, by decide, by decide⟩,
   ⟨ready, .spline, 0, ⟨by decide, by decide⟩, by decide⟩,
   ⟨{ ready with
        lbus := { ready.lbus with st := .monitoring },
        img := { ready.img with active := some (image [{ fn := 10, num := 32, value := 0xA0000000 }]) } }, can,
      0, 0, by decide, by decide, by decide, by decide, by decide⟩,
   ⟨{ ready with
        lbus := { ready.lbus with st := .monitoring, rx := Vector.replicate 64 (some {}) },
        img := { ready.img with active := some (image [{ fn := 10, num := 32, value := 0xA0000000 }]) } }, can,
      0, by decide, by decide, by decide, by decide⟩,
   ⟨{ ready with lbus := { ready.lbus with st := .active } }, can, by decide, by decide, by decide, by decide,
      by decide⟩,
   ⟨{ ready with
        lbus := { ready.lbus with st := .stopped, lastRx := some (false, 0) },
        img := { ready.img with active := some (image [{ fn := 10, num := 32, value := 0xA0000000 }]) } }, can,
      0, 0, 0, by decide, by decide, by decide, by decide, by decide, by decide, by decide⟩,
   ⟨{ ready with lbus := { ready.lbus with st := .stopped } }, can, by decide, by decide⟩,
   ⟨{ ready with lbus := { ready.lbus with st := .integrating } }, by decide, by decide⟩,
   ⟨{ ready with lbus := { ready.lbus with st := .monitoring, toNormal := true } }, by decide, by decide⟩,
   ⟨{ ready with
        lbus := { ready.lbus with st := .active, bufs := ready.lbus.bufs.set 0 { st := 1, frame := some can } }
          }, 0, by decide, by decide, by decide⟩,
   ⟨{ ready with lbus := { ready.lbus with st := .active, rxErr := 126 } }, false, by decide, by decide, by
      decide⟩,
   ⟨{ ready with lbus := { ready.lbus with st := .active, rxErr := 127 } }, false, by decide, by decide⟩,
   ⟨{ ready with lbus := { ready.lbus with st := .passive, txErr := 256 } }, by decide, by decide, by decide, by
      decide⟩,
   ⟨{ ready with lbus := { ready.lbus with st := .busOff, offDue := some 0 } }, 0, by decide, by decide, by
      decide⟩,
   ⟨{ ready with lbus := { ready.lbus with st := .busOff, recovering := true } }, by decide, by decide⟩,
   ⟨{ ready with lbus := { ready.lbus with st := .busOff } }, .spline, ⟨by decide, by decide⟩, by decide⟩⟩

theorem test_chain_command_refusals_hypotheses :
    (∃ (s : State) (p : Requester) (c : ChainId), Granted s p .operate (chaAddr c 4) ∧ s.declared c = true ∧
      s.arm.owner = false) ∧
    (∃ (s : State) (p : Requester) (c : ChainId), Granted s p .operate (chaAddr c 4) ∧ s.declared c = true ∧
      s.arm.owner = true ∧ s.chainLocked c = true) :=
  ⟨⟨{ ready with arm := { ready.arm with owner := false } }, .spline, .a, ⟨by decide, by decide⟩, by decide, by
      decide⟩,
   ⟨{ ready with mnt := { ready.mnt with acts := ready.mnt.acts.set 0 (some { res := 1 }) } }, .spline, .a, ⟨by
      decide, by decide⟩, by decide, by decide, by decide⟩⟩

theorem test_chain_commands_act_hypotheses :
    (∃ (s : State) (p : Requester) (c : ChainId), Granted s p .operate (chaAddr c 4) ∧ s.declared c = true ∧
      s.arm.owner = true ∧ s.chainLocked c = false ∧ s.canConnect c = true) ∧
    (∃ (s : State) (p : Requester) (c : ChainId), Granted s p .operate (chaAddr c 4) ∧ s.declared c = true ∧
      s.arm.owner = true ∧ s.chainLocked c = false ∧ (s.chain c).st = .block ∧ (s.chain c).closed = true ∧
      s.ranked c = false ∧ s.arm.mode ≠ .block) ∧
    (∃ (s : State) (p : Requester) (c : ChainId), Granted s p .operate (chaAddr c 4) ∧ s.declared c = true ∧
      s.arm.owner = true ∧ s.chainLocked c = false ∧ s.ranked c = false ∧ (s.chain c).st = .run) ∧
    (∃ (s : State) (p : Requester) (c : ChainId), Granted s p .operate (chaAddr c 4) ∧ s.declared c = true ∧
      s.arm.owner = true ∧ s.chainLocked c = false ∧ s.ranked c = false ∧ (s.chain c).st = .connecting) ∧
    (∃ (s : State) (p : Requester) (c : ChainId), Granted s p .operate (chaAddr c 4) ∧ s.declared c = true ∧
      s.arm.owner = true ∧ s.chainLocked c = false ∧ ((s.chain c).st = .absent ∨ (s.chain c).st = .block ∧
      (s.chain c).opened = true)) ∧
    (∃ (s : State) (p : Requester) (c : ChainId), Granted s p .operate (chaAddr c 4) ∧ s.declared c = true ∧
      s.arm.owner = true ∧ s.chainLocked c = false ∧ s.ranked c = false ∧ (s.chain c).st = .block ∧
      (s.chain c).opened = false) ∧
    (∃ (s : State) (p : Requester) (c : ChainId), Granted s p .operate (chaAddr c 4) ∧ s.declared c = true ∧
      s.arm.owner = true ∧ s.chainLocked c = false ∧ s.ranked c = false ∧ (s.chain c).st = .zeroing) :=
  ⟨⟨{ ready with chA := { ready.chA with st := .block }, snA := { ready.snA with stage := .enumerated } },
      .spline, .a, ⟨by decide, by decide⟩, by decide, by decide, by decide, by decide⟩,
   ⟨{ ready with
        chA := { ready.chA with st := .block, kPos := true, kNeg := true },
        arm := { ready.arm with mode := .run } }, .spline, .a, ⟨by decide, by decide⟩, by decide, by decide, by
      decide, by decide, by decide, by decide, by decide⟩,
   ⟨{ ready with chA := { ready.chA with st := .run } }, .spline, .a, ⟨by decide, by decide⟩, by decide, by
      decide, by decide, by decide, by decide⟩,
   ⟨{ ready with chA := { ready.chA with st := .connecting } }, .spline, .a, ⟨by decide, by decide⟩, by decide,
      by decide, by decide, by decide, by decide⟩,
   ⟨ready, .spline, .a, ⟨by decide, by decide⟩, by decide, by decide, by decide, by decide⟩,
   ⟨{ ready with chA := { ready.chA with st := .block, kPos := true } }, .spline, .a, ⟨by decide, by decide⟩, by
      decide, by decide, by decide, by decide, by decide, by decide⟩,
   ⟨{ ready with chA := { ready.chA with st := .zeroing } }, .spline, .a, ⟨by decide, by decide⟩, by decide, by
      decide, by decide, by decide, by decide⟩⟩

theorem test_chain_connection_sequence_hypotheses :
    (∃ (s : State) (c : ChainId), (s.chain c).st = .connecting ∧ (s.chain c).seq = .conDiag ∧ s.diagsDone c =
      true ∧ s.im.str.minModules ≤ s.avail c) ∧
    (∃ (s : State) (c : ChainId), (s.chain c).st = .connecting ∧ (s.chain c).seq = .conDiag ∧ s.diagsDone c =
      true ∧ s.avail c < s.im.str.minModules) ∧
    (∃ (s : State) (c : ChainId), (s.chain c).st = .connecting ∧ due s.clock (s.chain c).seqDue = true ∧
      (s.chain c).seq = .conDiag ∧ s.diagsDone c = false) ∧
    (∃ (s : State) (c : ChainId), (s.chain c).st = .connecting ∧ due s.clock (s.chain c).seqDue = true ∧
      (s.chain c).seq = .conNeg) ∧
    (∃ (s : State) (c : ChainId), (s.chain c).st = .connecting ∧ due s.clock (s.chain c).seqDue = true ∧
      (s.chain c).seq = .conPre) ∧
    (∃ (s : State) (c : ChainId), (s.chain c).st = .connecting ∧ due s.clock (s.chain c).seqDue = true ∧
      (s.chain c).seq = .conPos) ∧
    (∃ (s : State) (c : ChainId), (s.chain c).st = .connecting ∧ due s.clock (s.chain c).seqDue = true ∧
      (s.chain c).seq = .conPreOff ∧ (s.chain c).preOnly = false) ∧
    (∃ (s : State) (c : ChainId), (s.chain c).st = .connecting ∧ (s.chain c).seq = .conCharge ∧ s.targetMet c =
      true ∧ s.chNear c (s.im.connectDv c) = true) ∧
    (∃ (s : State) (c : ChainId), (s.chain c).st = .connecting ∧ (s.chain c).seq = .conCharge ∧ due s.clock
      (s.chain c).preDue = true ∧ s.targetMet c = false) ∧
    (∃ (s : State) (c : ChainId), due s.clock (s.chain c).coolDue = true ∧ s.arm.mode ≠ .energise) :=
  ⟨⟨{ ready with
        chA := { ready.chA with st := .connecting, seq := .conDiag },
        snA := { ready.snA with recs := Vector.replicate 32 { termDone := true } } }, .a, by decide, by decide,
      by decide, by decide⟩,
   ⟨{ ready with
        chA := { ready.chA with st := .connecting, seq := .conDiag },
        snA := { ready.snA with recs := Vector.replicate 32 { termDone := true } },
        img :=
          { ready.img with active := some { image [] with str := { (image []).str with minModules := 9 } } } },
      .a, by decide, by decide, by decide, by decide⟩,
   ⟨{ ready with chA := { ready.chA with st := .connecting, seq := .conDiag, seqDue := some 0 } }, .a, by
      decide, by decide, by decide, by decide⟩,
   ⟨{ ready with chA := { ready.chA with st := .connecting, seq := .conNeg, seqDue := some 0 } }, .a, by decide,
      by decide, by decide⟩,
   ⟨{ ready with chA := { ready.chA with st := .connecting, seq := .conPre, seqDue := some 0 } }, .a, by decide,
      by decide, by decide⟩,
   ⟨{ ready with chA := { ready.chA with st := .connecting, seq := .conPos, seqDue := some 0 } }, .a, by decide,
      by decide, by decide⟩,
   ⟨{ ready with chA := { ready.chA with st := .connecting, seq := .conPreOff, seqDue := some 0 } }, .a, by
      decide, by decide, by decide, by decide⟩,
   ⟨{ ready with
        chA := { ready.chA with st := .connecting, seq := .conCharge },
        meas := { ready.meas with vCap := some 16000, vChA := some 16000 } }, .a, by decide, by decide, by
      decide, by decide⟩,
   ⟨{ ready with
        chA := { ready.chA with st := .connecting, seq := .conCharge, preDue := some 0, target := 2000000 } },
      .a, by decide, by decide, by decide, by decide⟩,
   ⟨{ ready with chA := { ready.chA with coolDue := some 0 } }, .a, by decide, by decide⟩⟩

theorem test_chain_opening_sequence_hypotheses :
    (∃ (s : State) (c : ChainId), (s.chain c).st = .opening ∧ due s.clock (s.chain c).seqDue = true ∧
      (s.chain c).seq = .openPos) ∧
    (∃ (s : State) (c : ChainId), (s.chain c).st = .opening ∧ due s.clock (s.chain c).seqDue = true ∧
      (s.chain c).seq = .openNeg) ∧
    (∃ (s : State) (c : ChainId), (s.chain c).st = .opening ∧ due s.clock (s.chain c).seqDue = true ∧
      (s.chain c).seq = .openShort1) ∧
    (∃ (s : State) (c : ChainId), (s.chain c).st = .opening ∧ due s.clock (s.chain c).seqDue = true ∧
      (s.chain c).seq = .forcePos) ∧
    (∃ (s : State) (c : ChainId), (s.chain c).st = .opening ∧ due s.clock (s.chain c).seqDue = true ∧
      (s.chain c).seq = .openPreOn) ∧
    (∃ (s : State) (c : ChainId), (s.chain c).st = .opening ∧ due s.clock (s.chain c).seqDue = true ∧
      ((s.chain c).seq = .openPreOff)) ∧
    (∃ (s : State) (c : ChainId), (s.chain c).st = .opening ∧ due s.clock (s.chain c).seqDue = true ∧
      ((s.chain c).seq = .openShort2)) ∧
    (∃ (s : State) (c : ChainId), (s.chain c).st = .opening ∧ due s.clock (s.chain c).seqDue = true ∧
      ((s.chain c).seq = .forceNeg)) ∧
    (∃ (s : State) (c : ChainId), (s.chain c).st = .opening ∧ due s.clock (s.chain c).seqDue = true ∧
      (s.chain c).seq = .abortPre) ∧
    (∃ (s : State) (c : ChainId) (t0 : Nat), (s.chain c).st = .zeroing ∧ (s.chain c).protReq = none ∧
      (s.chain c).zeroSince = some t0 ∧ t0 + msNs ≤ s.clock) ∧
    (∃ (s : State) (c : ChainId) (t0 : Nat), (s.chain c).st = .zeroing ∧ (s.chain c).protReq = some t0 ∧
      (s.chain c).openAfter = false ∧ (s.quiet c = true ∨ t0 + msNs ≤ s.clock)) ∧
    (∃ (s : State) (c : ChainId) (t0 : Nat), (s.chain c).st = .zeroing ∧ (s.chain c).protReq = some t0 ∧
      (s.chain c).openAfter = true ∧ s.quiet c = true) ∧
    (∃ (s : State) (c : ChainId) (t0 : Nat), (s.chain c).openReqAt = some t0 ∧ (s.chain c).st = .block ∧
      (s.chain c).openReq = true ∧ (s.chain c).opened = false ∧ s.quiet c = false ∧ t0 + 20 * msNs ≤ s.clock) :=
  ⟨⟨{ ready with chA := { ready.chA with st := .opening, seq := .openPos, seqDue := some 0 } }, .a, by decide,
      by decide, by decide⟩,
   ⟨{ ready with chA := { ready.chA with st := .opening, seq := .openNeg, seqDue := some 0 } }, .a, by decide,
      by decide, by decide⟩,
   ⟨{ ready with chA := { ready.chA with st := .opening, seq := .openShort1, seqDue := some 0 } }, .a, by
      decide, by decide, by decide⟩,
   ⟨{ ready with chA := { ready.chA with st := .opening, seq := .forcePos, seqDue := some 0 } }, .a, by decide,
      by decide, by decide⟩,
   ⟨{ ready with chA := { ready.chA with st := .opening, seq := .openPreOn, seqDue := some 0 } }, .a, by decide,
      by decide, by decide⟩,
   ⟨{ ready with chA := { ready.chA with st := .opening, seq := .openPreOff, seqDue := some 0 } }, .a, by
      decide, by decide, by decide⟩,
   ⟨{ ready with chA := { ready.chA with st := .opening, seq := .openShort2, seqDue := some 0 } }, .a, by
      decide, by decide, by decide⟩,
   ⟨{ ready with chA := { ready.chA with st := .opening, seq := .forceNeg, seqDue := some 0 } }, .a, by decide,
      by decide, by decide⟩,
   ⟨{ ready with chA := { ready.chA with st := .opening, seq := .abortPre, seqDue := some 0 } }, .a, by decide,
      by decide, by decide⟩,
   ⟨{ ready with chA := { ready.chA with st := .zeroing, zeroSince := some 0 } }, .a, 0, by decide, by decide,
      by decide, by decide⟩,
   ⟨{ ready with chA := { ready.chA with st := .zeroing, protReq := some 0 } }, .a, 0, by decide, by decide, by
      decide, by decide⟩,
   ⟨{ ready with
        chA := { ready.chA with st := .zeroing, protReq := some 0, openAfter := true, iMeas := some 0 } }, .a,
      0, by decide, by decide, by decide, by decide⟩,
   ⟨{ ready with chA := { ready.chA with openReqAt := some 0, st := .block, openReq := true, kPos := true } },
      .a, 0, by decide, by decide, by decide, by decide, by decide, by decide⟩⟩

theorem test_module_parking_hypotheses :
    (∃ (s : State) (p : Requester) (c : ChainId) (m : Fin 32), Granted s p .configure (chaAddr c 0x60) ∧
      s.declared c = true ∧ m.val < s.nMods ∧ s.arm.owner = true ∧ s.chainLocked c = false ∧
      (s.chain c).mods[m].held = false ∧ (s.chain c).mods[m].pend = 0 ∧ s.canPark c m = true) ∧
    (∃ (s : State) (p : Requester) (c : ChainId) (m : Fin 32), Granted s p .configure (chaAddr c 0x60) ∧
      s.declared c = true ∧ s.nMods ≤ m.val) ∧
    (∃ (s : State) (c : ChainId) (m : Fin 32), s.chainRuns c = true ∧ (s.chain c).mods[m].pend ≠ 0 ∧
      (s.chain c).mods[m].st ≠ .parked ∧ (s.chain c).mods[m].trim = false ∧ s.canPark c m = true) ∧
    (∃ (s : State) (p : Requester) (c : ChainId) (m : Fin 32), Granted s p .clear (chaAddr c 0x64) ∧ s.declared
      c = true ∧ m.val < s.nMods ∧ s.arm.owner = true ∧ s.chainLocked c = false ∧ (s.chain c).mods[m].held =
      true ∧ s.parkCauseStands c m (s.chain c).mods[m].cause = false) ∧
    (∃ (s : State) (p : Requester) (c : ChainId) (m : Fin 32), Granted s p .clear (chaAddr c 0x64) ∧ s.declared
      c = true ∧ m.val < s.nMods ∧ s.arm.owner = true ∧ s.chainLocked c = false ∧ (s.chain c).mods[m].held =
      true ∧ s.parkCauseStands c m (s.chain c).mods[m].cause = true) ∧
    (∃ (s : State) (p : Requester) (c : ChainId), Granted s p .clear (chaAddr c 0x64) ∧ s.declared c = true ∧
      s.arm.owner = true) :=
  ⟨⟨ready, .spline, .a, 3, ⟨by decide, by decide⟩, by decide, by decide, by decide, by decide, by decide, by
      decide, by decide⟩,
   ⟨ready, .spline, .a, 4, ⟨by decide, by decide⟩, by decide, by decide⟩,
   ⟨{ ready with chA := { ready.chA with mods := ready.chA.mods.set 0 { pend := 1 } } }, .a, 0, by decide, by
      decide, by decide, by decide, by decide⟩,
   ⟨{ ready with chA := { ready.chA with mods := ready.chA.mods.set 0 { st := .parked } } }, .spline, .a, 0, ⟨by
      decide, by decide⟩, by decide, by decide, by decide, by decide, by decide, by decide⟩,
   ⟨{ ready with chA := { ready.chA with mods := ready.chA.mods.set 0 { st := .parked, cause := 1 } } },
      .spline, .a, 0, ⟨by decide, by decide⟩, by decide, by decide, by decide, by decide, by decide, by decide⟩,
   ⟨ready, .spline, .a, ⟨by decide, by decide⟩, by decide, by decide⟩⟩

theorem test_chain_control_ticks_hypotheses :
    (∃ (s : State) (c : ChainId) (i : Option Int) (vCap : Option Nat) (vCh : Option Nat), s.chainRuns c = true ∧
      (s.chain c).st = .run ∧ (s.chain c).seq = .none) ∧
    (∃ (s : State) (c : ChainId), s.chainRuns c = true) ∧
    (∃ (s : State) (c : ChainId) (i : Option Int) (vCap : Option Nat) (vCh : Option Nat) (run : Int) (hib : Int)
      (shunt : List (Nat × Int)), s.chainRuns c = true) ∧
    (∃ (s : State) (c : ChainId) (mean : Int), s.chainRuns c = true ∧ 12000 < mean ∧ (s.chain c).overMs < 59999)
      ∧
    (∃ (s : State) (c : ChainId) (mean : Int), s.chainRuns c = true ∧ 12000 < mean ∧ (s.chain c).overMs = 59999)
      ∧
    (∃ (s : State) (c : ChainId) (mean : Int), s.chainRuns c = true ∧ mean ≤ 12000 ∧ (s.chain c).overIdle = 4) ∧
    (∃ (s : State) (c : ChainId) (mean : Int), s.chainRuns c = true ∧ mean ≤ 12000 ∧ (s.chain c).overIdle ≠ 4) ∧
    (∃ (s : State) (c : ChainId), (s.chain c).learnOn = true ∧ due s.clock (s.chain c).learn.halfDue = true ∧
      s.learnPaused c = false ∧ (s.chain c).st = .run ∧ (s.chain c).learn.phase ≠ 3) :=
  ⟨⟨{ ready with chA := { ready.chA with st := .run } }, .a, none, none, none, by decide, by decide, by decide⟩,
   ⟨ready, .a, by decide⟩,
   ⟨ready, .a, none, none, none, 0, 0, [], by decide⟩,
   ⟨ready, .a, 12001, by decide, by decide, by decide⟩,
   ⟨{ ready with chA := { ready.chA with overMs := 59999 } }, .a, 12001, by decide, by decide, by decide⟩,
   ⟨{ ready with chA := { ready.chA with overIdle := 4 } }, .a, 12000, by decide, by decide, by decide⟩,
   ⟨ready, .a, 12000, by decide, by decide, by decide⟩,
   ⟨{ ready with
        chA := { ready.chA with learnOn := true, learn := { phase := 1, halfDue := some 0 }, st := .run },
        arm := { ready.arm with mode := .run } }, .a, by decide, by decide, by decide, by decide, by decide⟩⟩

theorem test_heartbeats_and_mirror_hypotheses :
    (∃ (s : State), s.dvt.beating = true ∧ s.simplex = false) ∧
    (∃ (s : State) (x : OrdSet) (h : Heartbeat), beatOf x = some h ∧ s.simplex = false ∧ s.dvt.up = true ∧
      s.arm.roleClash = false ∧ s.img.active.isSome = true ∧ h.member ≠ s.dev.member ∧ s.arm.owner = false ∧
      (h.healthy = true ∨ h.owner = false)) ∧
    (∃ (s : State) (x : OrdSet) (h : Heartbeat), beatOf x = some h ∧ s.simplex = false ∧ s.dvt.up = true ∧
      s.arm.roleClash = false ∧ s.img.active.isSome = true ∧ h.member = s.dev.member) ∧
    (∃ (s : State) (x : OrdSet) (h : Heartbeat), beatOf x = some h ∧ s.simplex = false ∧ s.dvt.up = true ∧
      s.arm.roleClash = false ∧ s.img.active.isSome = true ∧ h.member ≠ s.dev.member ∧ s.arm.owner = true ∧
      h.owner = true ∧ (s.dvt.gen < h.gen ∨ (h.gen = s.dvt.gen ∧ s.dev.member = true))) ∧
    (∃ (s : State) (x : OrdSet) (h : Heartbeat), beatOf x = some h ∧ s.simplex = false ∧ s.dvt.up = true ∧
      s.arm.roleClash = false ∧ s.img.active.isSome = true ∧ h.member ≠ s.dev.member ∧ s.arm.owner = true ∧
      h.owner = true ∧ s.dvt.partnerOwner = false ∧ (h.gen < s.dvt.gen ∨
      (h.gen = s.dvt.gen ∧ s.dev.member = false))) ∧
    (∃ (s : State) (h : Heartbeat), h.gen < 65536) ∧
    (∃ (s : State) (x : OrdSet), beatOf x = none) ∧
    (∃ (s : State) (t0 : Nat), s.simplex = false ∧ s.arm.owner = false ∧ s.dvt.lastBeat = some t0 ∧ t0 + 5 *
      usNs < s.clock ∧ s.restartSilence = false ∧ s.dvt.st = .tracking ∧ s.dvt.healthy = true ∧ s.arm.roleClash
      = false ∧ s.dev.phase = .ready ∧ s.dvt.waitTake = none) ∧
    (∃ (s : State), s.simplex = false ∧ s.dvt.up = true) ∧
    (∃ (s : State), s.simplex = false ∧ s.dvt.up = false ∧ s.ringRuns = true ∧ s.img.active.isSome = true) ∧
    (∃ (s : State), s.dvt.beating = true ∧ s.simplex = false ∧ s.dvt.up = true) ∧
    (∃ (s : State), s.simplex = false ∧ s.dvt.up = true ∧ s.feRuns = true) ∧
    (∃ (s : State) (m : Mirror), s.simplex = false ∧ s.dvt.up = true ∧ s.feRuns = true ∧ s.arm.owner = false ∧
      s.arm.roleClash = false ∧ s.arm.bypassed = false) ∧
    (∃ (s : State) (m : Mirror), s.simplex = false ∧ s.dvt.up = true ∧ s.feRuns = true ∧ s.arm.owner = true ∧
      m.bypassReq = true) :=
  ⟨⟨{ ready with img := { ready.img with active := some duplex }, dvt := { ready.dvt with beating := true } },
      by decide, by decide⟩,
   ⟨{ ready with
        img := { ready.img with active := some duplex },
        dvt := { ready.dvt with up := true },
        arm := { ready.arm with owner := false } }, (beatSet ⟨true, true, false, 0, true⟩), ⟨true, true, false,
      0, true⟩, by decide, by decide, by decide, by decide, by decide, by decide, by decide, by decide⟩,
   ⟨{ ready with img := { ready.img with active := some duplex }, dvt := { ready.dvt with up := true } },
      (beatSet ⟨true, true, false, 0, false⟩), ⟨true, true, false, 0, false⟩, by decide, by decide, by decide,
      by decide, by decide, by decide⟩,
   ⟨{ ready with img := { ready.img with active := some duplex }, dvt := { ready.dvt with up := true } },
      (beatSet ⟨true, true, false, 1, true⟩), ⟨true, true, false, 1, true⟩, by decide, by decide, by decide, by
      decide, by decide, by decide, by decide, by decide, by decide⟩,
   ⟨{ ready with img := { ready.img with active := some duplex }, dvt := { ready.dvt with up := true } },
      (beatSet ⟨true, true, false, 0, true⟩), ⟨true, true, false, 0, true⟩, by decide, by decide, by decide, by
      decide, by decide, by decide, by decide, by decide, by decide, by decide⟩,
   ⟨ready, ⟨true, true, false, 0, true⟩, by decide⟩,
   ⟨ready, { orderedSet 0x10 0 0 0 with d1 := 0x11 }, by decide⟩,
   ⟨{ ready with
        img := { ready.img with active := some duplex },
        arm := { ready.arm with owner := false },
        dvt := { ready.dvt with lastBeat := some 0, st := .tracking, healthy := true } }, 0, by decide, by
      decide, by decide, by decide, by decide, by decide, by decide, by decide, by decide, by decide⟩,
   ⟨{ ready with img := { ready.img with active := some duplex }, dvt := { ready.dvt with up := true } }, by
      decide, by decide⟩,
   ⟨{ ready with img := { ready.img with active := some duplex } }, by decide, by decide, by decide, by decide⟩,
   ⟨{ ready with
        img := { ready.img with active := some duplex },
        dvt := { ready.dvt with up := true, beating := true } }, by decide, by decide, by decide⟩,
   ⟨{ ready with img := { ready.img with active := some duplex }, dvt := { ready.dvt with up := true } }, by
      decide, by decide, by decide⟩,
   ⟨{ ready with
        img := { ready.img with active := some duplex },
        dvt := { ready.dvt with up := true },
        arm := { ready.arm with owner := false } }, mirror, by decide, by decide, by decide, by decide, by
      decide, by decide⟩,
   ⟨{ ready with img := { ready.img with active := some duplex }, dvt := { ready.dvt with up := true } },
      { mirror with bypassReq := true }, by decide, by decide, by decide, by decide, by decide⟩⟩

theorem test_token_hand_over_hypotheses :
    (∃ (s : State) (p : Requester), Granted s p .operate 0x00130004 ∧ s.canHandOver = true) ∧
    (∃ (s : State) (p : Requester), Granted s p .operate 0x00130004 ∧ s.canHandOver = false) ∧
    (∃ (s : State) (g : Nat) (tH : Nat), s.simplex = false ∧ s.dvt.up = true ∧ s.arm.owner = false ∧
      s.arm.roleClash = false ∧ s.dev.phase = .ready ∧ s.dvt.mirror = none) ∧
    (∃ (s : State) (g : Nat) (tH : Nat) (m : Mirror), s.simplex = false ∧ s.dvt.up = true ∧ s.arm.owner = false
      ∧ s.arm.roleClash = false ∧ s.dev.phase = .ready ∧ s.dvt.mirror = some m ∧ s.dvt.healthy = true ∧ s.agrees
      m = true) ∧
    (∃ (s : State) (g : Nat) (t0 : Nat), s.arm.owner = true ∧ s.dvt.giveAt = some t0 ∧ s.dvt.up = true ∧ g =
      s.dvt.giveGen) ∧
    (∃ (s : State) (t0 : Nat), s.dvt.giveAt = some t0 ∧ t0 ≤ s.tim.time ∧ s.arm.owner = true ∧ s.dvt.acked =
      true) ∧
    (∃ (s : State) (t0 : Nat), s.dvt.giveAt = some t0 ∧ t0 ≤ s.tim.time ∧ s.arm.owner = false ∧ s.dvt.ackOwed =
      false) ∧
    (∃ (s : State) (t0 : Nat), s.dvt.giveAt = some t0 ∧ s.arm.owner = true ∧ s.dvt.acked = false ∧ t0 ≤
      s.tim.time + 20 * usNs) :=
  ⟨⟨{ ready with
        img := { ready.img with active := some duplex },
        dvt := { ready.dvt with up := true, lastBeat := some 10000000000000, partnerHealthy := true } },
      .spline, ⟨by decide, by decide⟩, by decide⟩,
   ⟨ready, .spline, ⟨by decide, by decide⟩, by decide⟩,
   ⟨{ ready with
        img := { ready.img with active := some duplex },
        dvt := { ready.dvt with up := true },
        arm := { ready.arm with owner := false } }, 0, 0, by decide, by decide, by decide, by decide, by decide,
      by decide⟩,
   ⟨{ ready with
        img := { ready.img with active := some duplex },
        dvt := { ready.dvt with up := true, mirror := some mirror, healthy := true },
        arm := { ready.arm with owner := false } }, 0, 0, mirror, by decide, by decide, by decide, by decide, by
      decide, by decide, by decide, by decide⟩,
   ⟨{ ready with dvt := { ready.dvt with giveAt := some 0, up := true } }, 0, 0, by decide, by decide, by
      decide, by decide⟩,
   ⟨{ ready with dvt := { ready.dvt with giveAt := some 0, acked := true } }, 0, by decide, by decide, by
      decide, by decide⟩,
   ⟨{ ready with dvt := { ready.dvt with giveAt := some 0 }, arm := { ready.arm with owner := false } }, 0, by
      decide, by decide, by decide, by decide⟩,
   ⟨{ ready with dvt := { ready.dvt with giveAt := some 0 } }, 0, by decide, by decide, by decide, by decide⟩⟩

theorem test_engines_memories_and_vaux_hypotheses :
    (∃ (s : State) (v : Nat), s.pwr.vauxLow = false ∧ s.outOfReset = true ∧ v < s.im.vauxMin) ∧
    (∃ (s : State) (v : Nat), s.pwr.vauxLow = true ∧ s.im.vauxMin + 1000 ≤ v) ∧
    (∃ (s : State) (v : Nat), s.pwr.vauxLow = true ∨ s.im.vauxMin ≤ v) ∧
    (∃ (s : State) (e : EngineId) (stray : Option Word), (∀ a, stray = some a → s.mayWrite e a.toNat = false) ∧
      (e = .ee ∨ e = .he) ∧ s.eng.state[e.idx] = .running ∧ s.eng.lastRestart[e.idx] = none) ∧
    (∃ (s : State) (e : EngineId) (stray : Option Word), (∀ a, stray = some a → s.mayWrite e a.toNat = false) ∧
      (e = .me ∨ e = .cea ∨ e = .ceb ∨ e = .fe) ∧ s.eng.state[e.idx] = .running ∧ s.eng.lastWarmWd = none) ∧
    (∃ (s : State) (e : EngineId) (stray : Option Word) (t0 : Nat),
      (∀ a, stray = some a → s.mayWrite e a.toNat = false) ∧ (e = .me ∨ e = .cea ∨ e = .ceb ∨ e = .fe) ∧
      s.eng.state[e.idx] = .running ∧ s.eng.lastWarmWd = some t0 ∧ s.clock < t0 + 60 * secNs) ∧
    (∃ (s : State) (e : EngineId) (a : Word), s.mayWrite e a.toNat = true) ∧
    (∃ (s : State) (e : EngineId), s.eng.state[e.idx] = .restarting) ∧
    (∃ (s : State), s.outOfReset = true ∧ s.eng.seLs = false) ∧
    (∃ (s : State), s.outOfReset = true) ∧
    (∃ (s : State) (a : Word) (e : EngineId), s.outOfReset = true ∧ a.toNat < 0xC00000) ∧
    (∃ (s : State) (a : Word) (e : EngineId), s.outOfReset = true) ∧
    (∃ (s : State) (a : Word) (e : EngineId) (n : Nat), s.outOfReset = true ∧ n ≠ 0) ∧
    (∃ (s : State) (hz : Nat), s.eng.state[6] = .running) :=
  ⟨⟨ready, 16999, by decide, by decide, by decide⟩,
   ⟨{ ready with pwr := { ready.pwr with vauxLow := true } }, 18000, by decide, by decide⟩,
   ⟨ready, 17000, by decide⟩,
   ⟨ready, .ee, none, (fun _ q => by cases q), by decide, by decide, by decide⟩,
   ⟨ready, .fe, none, (fun _ q => by cases q), by decide, by decide, by decide⟩,
   ⟨{ ready with eng := { ready.eng with lastWarmWd := some 9999999999999 } }, .fe, none, 9999999999999,
      (fun _ q => by cases q), by decide, by decide, by decide, by decide⟩,
   ⟨{ ready with
        img :=
          { ready.img with active := some { image [] with str := { (image []).str with sram := [(0, 4096)] } } }
          }, .me, 16, by decide⟩,
   ⟨{ ready with eng := { ready.eng with state := ready.eng.state.set 0 .restarting } }, .me, by decide⟩,
   ⟨ready, by decide, by decide⟩,
   ⟨ready, by decide⟩,
   ⟨ready, 0xBFFFFF, .me, by decide, by decide⟩,
   ⟨ready, 0, .me, by decide⟩,
   ⟨ready, 0, .me, 1, by decide, by decide⟩,
   ⟨ready, 0, by decide⟩⟩

theorem test_estimation_of_modules_hypotheses :
    (∃ (s : State) (c : ChainId) (x : Snapshot) (r : List Snapshot), s.eeRuns = true ∧ s.declared c = true ∧
      (s.es c).gapAt = none ∧ (s.es c).cci = x :: r ∧ s.lostMs c x = 0) ∧
    (∃ (s : State) (c : ChainId) (m : Fin 32) (k : Fin 32) (full : Bool) (t0 : Nat), s.eeRuns = true ∧
      s.declared c = true ∧ m.val < s.nMods ∧ (s.measured c m).contains k = true ∧ (if full then
      (s.es c).mods[m].cells[k].fullSince else (s.es c).mods[m].cells[k].emptySince) = some t0 ∧ t0 + secNs *
      (if full then s.im.tFull else s.im.tEmpty) ≤ s.clock) ∧
    (∃ (s : State) (c : ChainId) (m : Fin 32) (k : Fin 32) (v : Nat) (q : Nat) (t0 : Nat), s.eeRuns = true ∧
      s.declared c = true ∧ m.val < s.nMods ∧ (s.es c).mods[m].cells[k].restSince = some t0 ∧ t0 + 60 * secNs *
      s.im.ocvRest ≤ s.clock ∧ s.plateOf c m 7 = 1 ∧ s.ocvTemps c m = true ∧ (s.measured c m).contains k = true
      ∧ (s.sen c).recs[m].cells[k] = some v ∧ ocvContent (s.es c).mods[m].cells[k].cap v = some q ∧
      (s.es c).mods[m].cells[k].uncertain 5 = true) ∧
    (∃ (s : State) (p : Requester) (c : ChainId) (m : Fin 32), Granted s p .clear 0x000A0038 ∧ s.declared c =
      true ∧ m.val < s.nMods) ∧
    (∃ (s : State) (p : Requester) (c : ChainId) (m : Fin 32), Granted s p .clear 0x000A0038 ∧ s.declared c =
      true ∧ s.nMods ≤ m.val) ∧
    (∃ (s : State), s.eeRuns = true) ∧
    (∃ (s : State) (c : ChainId) (t0 : Nat), (s.chain c).limAt = some t0 ∧ t0 + 15 * msNs < s.clock) ∧
    (∃ (s : State) (c : ChainId), s.eeRuns = true ∧ s.declared c = true ∧ (s.sen c).stage = .enumerated) :=
  ⟨⟨{ ready with esA := { ready.esA with cci := [{ ts := 0, acc := 0, epoch := 0, periods := [] }] } }, .a,
      { ts := 0, acc := 0, epoch := 0, periods := [] }, [], by decide, by decide, by decide, by decide, by
      decide⟩,
   ⟨{ ready with
        esA := { ready.esA with
            mods := ready.esA.mods.set 0 { cls := 1, cells := Vector.replicate 32 { fullSince := some 0 } } } },
      .a, 0, 0, true, 0, by decide, by decide, by decide, by decide, by decide, by decide⟩,
   ⟨{ ready with
        esA := { ready.esA with
            mods := ready.esA.mods.set 0 {
                cls := 1,
                cells := Vector.replicate 32 { restSince := some 0, cap := 28000, unc := some 1000000000000 } }
              },
        img := { ready.img with active := some (image [{ fn := 6, num := 71, value := 1 }]) },
        snA := { ready.snA with recs := ready.snA.recs.set 0 { cells := Vector.replicate 32 (some 30000) } } },
      .a, 0, 0, 30000, 0, 0, by decide, by decide, by decide, by decide, by decide, by decide, by decide, by
      decide, by decide, by decide, by decide⟩,
   ⟨ready, .spline, .a, 3, ⟨by decide, by decide⟩, by decide, by decide⟩,
   ⟨ready, .spline, .a, 4, ⟨by decide, by decide⟩, by decide, by decide⟩,
   ⟨ready, by decide⟩,
   ⟨{ ready with chA := { ready.chA with limAt := some 0 } }, .a, 0, by decide, by decide⟩,
   ⟨{ ready with snA := { ready.snA with stage := .enumerated } }, .a, by decide, by decide, by decide⟩⟩

theorem test_records_and_veneer_hypotheses :
    (∃ (s : State), s.eeRuns = true ∧ s.est.checkAt + 60 * secNs * s.im.checkpoint ≤ s.clock) ∧
    (∃ (s : State), s.eeRuns = true ∧ s.est.countAt + secNs * s.im.countPeriod ≤ s.clock) ∧
    (∃ (s : State), s.eeRuns = true ∧ s.nvmFree = true ∧ s.est.erased = true ∧ s.est.stateDue = true ∧
      s.stateSpaced = true) ∧
    (∃ (s : State), s.eeRuns = true ∧ s.nvmFree = true ∧ s.est.erased = true ∧ s.est.countDue = true ∧
      (s.est.stateDue && s.stateSpaced) = false) ∧
    (∃ (s : State) (p : Requester), Granted s p .operate 0x000A0038) ∧
    (∃ (s : State) (p : Requester) (c : ChainId), Granted s p .configure
      (BitVec.ofNat 32 (0xAC008 + 0x100 * c.num)) ∧ (c == .b && s.noB) = false) :=
  ⟨⟨ready, by decide, by decide⟩,
   ⟨ready, by decide, by decide⟩,
   ⟨{ ready with est := { ready.est with stateDue := true } }, by decide, by decide, by decide, by decide, by
      decide⟩,
   ⟨{ ready with est := { ready.est with countDue := true } }, by decide, by decide, by decide, by decide, by
      decide⟩,
   ⟨ready, .spline, ⟨by decide, by decide⟩⟩,
   ⟨ready, .spline, .a, ⟨by decide, by decide⟩, by decide⟩⟩

theorem test_image_staging_hypotheses :
    (∃ (s : State) (p : Requester) (len : Nat), Granted s p .configure 0x00010004 ∧ s.img.locked = false) ∧
    (∃ (s : State) (p : Requester) (len : Nat), Granted s p .configure 0x00010004 ∧ s.img.locked = true) ∧
    (∃ (s : State), s.img.staging = .erasing ∧ s.writePermit = true) ∧
    (∃ (s : State) (port : RPort) (b : List Byte) (x : BulkFrame), s.memOk ∧ bulkOf b = some x ∧ s.delivers port
      b = true ∧ s.seenCopy (copyKey x.head) = false ∧ x.stream = 1 ∧ s.addressed x.dest = true ∧ s.img.staging
      = .receiving ∧ s.img.stagePort = some .spline ∧ s.right .spline .configure 0xFFFFFFFF = true ∧
      s.writePermit = true ∧ x.off = s.img.stageCount ∧ x.off + (s.chunkData x).length ≤ 64 * s.img.stageLen ∧
      x.off + (s.chunkData x).length ≤ 0x600000 ∧ (s.est.writing = none → s.img.waiting = [])) ∧
    (∃ (s : State) (seq : Nat) (off : Nat) (data : List Byte), s.memOk ∧ s.portOpen .service = true ∧
      (s.sec.svcAns = none ∨ s.sec.svcSeq ≠ some (seq, 3#8 :: natBytes 1 1 ++ natBytes 4 off ++ data)) ∧
      s.img.staging = .receiving ∧ s.img.stagePort = some .service ∧ s.right .service .configure 0xFFFFFFFF =
      true ∧ s.writePermit = true ∧ off = s.img.stageCount ∧ off + data.length ≤ 64 * s.img.stageLen ∧ off +
      data.length ≤ 0x600000 ∧ (s.est.writing = none → s.img.waiting = [])) ∧
    (∃ (s : State) (port : RPort) (b : List Byte) (x : BulkFrame), bulkOf b = some x ∧ s.delivers port b = true
      ∧ s.seenCopy (copyKey x.head) = false ∧ x.stream = 1 ∧ s.addressed x.dest = true ∧ s.img.staging =
      .receiving ∧ s.img.stagePort = some .spline ∧ s.right .spline .configure 0xFFFFFFFF = true ∧ s.writePermit
      = true ∧ x.off ≠ s.img.stageCount) ∧
    (∃ (s : State) (port : RPort) (b : List Byte) (x : BulkFrame), bulkOf b = some x ∧ s.seenCopy
      (copyKey x.head) = true) ∧
    (∃ (s : State) (p : Requester), Granted s p .configure 0x00010004 ∧ s.img.staging = .receiving ∧ 64 *
      s.img.stageLen < s.img.stageCount + 64 ∧ s.img.stageCount ≤ 64 * s.img.stageLen) ∧
    (∃ (s : State) (p : Requester), Granted s p .configure 0x00010004 ∧ (s.img.staging ≠ .receiving ∨
      s.img.stageCount + 64 ≤ 64 * s.img.stageLen)) :=
  ⟨⟨ready, .spline, 0, ⟨by decide, by decide⟩, by decide⟩,
   ⟨{ ready with img := { ready.img with locked := true } }, .spline, 0, ⟨by decide, by decide⟩, by decide⟩,
   ⟨{ ready with img := { ready.img with staging := .erasing } }, by decide, by decide⟩,
   ⟨{ ready with img := { ready.img with staging := .receiving, stagePort := some .spline, stageLen := 2 } },
      .e, bulkBytes, (bulkOf bulkBytes).get (by decide +kernel), ⟨by decide +kernel, by decide +kernel⟩, by
      decide +kernel, by decide +kernel, by decide +kernel, by decide +kernel, by decide +kernel, by
      decide +kernel, by decide +kernel, by decide +kernel, by decide +kernel, by decide +kernel, by
      decide +kernel, by decide +kernel, by decide +kernel⟩,
   ⟨{ ready with img := { ready.img with staging := .receiving, stagePort := some .service, stageLen := 1 } },
      0, 0, [0xAB#8], ⟨by decide, by decide⟩, by decide, by decide, by decide, by decide, by decide, by decide,
      by decide, by decide, by decide, by decide⟩,
   ⟨{ ready with
        img :=
          { ready.img with staging := .receiving, stagePort := some .spline, stageLen := 2, stageCount := 1 } },
      .e, bulkBytes, (bulkOf bulkBytes).get (by decide +kernel), by decide +kernel, by decide +kernel, by
      decide +kernel, by decide +kernel, by decide +kernel, by decide +kernel, by decide +kernel, by
      decide +kernel, by decide +kernel, by decide +kernel⟩,
   ⟨{ ready with spl := { ready.spl with copies := [copyKey (headOf bulkBytes)] } }, .e, bulkBytes,
      (bulkOf bulkBytes).get (by decide +kernel), by decide +kernel, by decide +kernel⟩,
   ⟨{ ready with img := { ready.img with staging := .receiving, stageLen := 1, stageCount := 1 } }, .spline, ⟨by
      decide, by decide⟩, by decide, by decide, by decide⟩,
   ⟨ready, .spline, ⟨by decide, by decide⟩, by decide⟩⟩

theorem test_dry_fit_and_glue_up_hypotheses :
    (∃ (s : State) (p : Requester), Granted s p .configure 0x00010004 ∧ s.img.locked = false ∧ s.img.staging =
      .complete) ∧
    (∃ (s : State) (p : Requester), Granted s p .configure 0x00010004 ∧ s.img.locked = false ∧ s.img.staging ≠
      .complete) ∧
    (∃ (s : State) (im : Image) (a : Image), s.img.staging = .dryfit ∧ s.img.staged = some im ∧ s.img.active =
      some a ∧ s.windowOver = true) ∧
    (∃ (s : State) (im : Image) (v : Verdict), s.img.staging = .dryfit ∧ s.img.staged = some im ∧ localChecks s
      = some v) ∧
    (∃ (s : State) (p : Requester), Granted s p .commit 0x00010004 ∧
      (s.img.glue = .announced ∨ s.img.glue = .ready)) ∧
    (∃ (s : State) (p : Requester), Granted s p .commit 0x00010004 ∧ s.img.glue ≠ .announced ∧ s.img.glue ≠
      .ready ∧ (s.img.locked = false ∨ s.img.glue = .confirmed ∨ s.img.glue = .restarting)) ∧
    (∃ (s : State) (p : Requester), Granted s p .commit 0x00010004 ∧ (s.img.glue = .idle ∨ s.img.glue = .silent)
      ∧ s.img.locked = true) ∧
    (∃ (s : State) (im : Image), s.feRuns = true ∧ s.img.glue = .confirmed ∧ s.img.glueTime ≤ s.tim.time ∧
      s.img.staged = some im ∧ s.stagedSlotErr = false ∧ s.img.structural = false) ∧
    (∃ (s : State) (im : Image), s.feRuns = true ∧ s.img.glue = .confirmed ∧ s.img.glueTime ≤ s.tim.time ∧
      s.img.staged = some im ∧ s.stagedSlotErr = false ∧ s.img.structural = true) ∧
    (∃ (s : State), s.dev.phase = .glueRestart) :=
  ⟨⟨{ ready with img := { ready.img with staging := .complete } }, .spline, ⟨by decide, by decide⟩, by decide,
      by decide⟩,
   ⟨ready, .spline, ⟨by decide, by decide⟩, by decide, by decide⟩,
   ⟨{ ready with img := { ready.img with staging := .dryfit, staged := some (image []), winCycles := 9 } },
      image [], image [], by decide, by decide, by decide, by decide⟩,
   ⟨{ ready with img := { ready.img with staging := .dryfit, staged := some (image []) } }, image [],
      ((localChecks { ready with img := { ready.img with staging := .dryfit, staged := some (image []) } }).getD
      ⟨0, 0, 0⟩), by decide, by decide, by decide⟩,
   ⟨{ ready with img := { ready.img with glue := .ready } }, .spline, ⟨by decide, by decide⟩, by decide⟩,
   ⟨ready, .spline, ⟨by decide, by decide⟩, by decide, by decide, by decide⟩,
   ⟨{ ready with img := { ready.img with locked := true } }, .spline, ⟨by decide, by decide⟩, by decide, by
      decide⟩,
   ⟨{ ready with img := { ready.img with glue := .confirmed, staged := some (image []) } }, image [], by decide,
      by decide, by decide, by decide, by decide, by decide⟩,
   ⟨{ ready with img := { ready.img with glue := .confirmed, staged := some (image []), structural := true } },
      image [], by decide, by decide, by decide, by decide, by decide, by decide⟩,
   ⟨{ ready with dev := { ready.dev with phase := .glueRestart } }, by decide⟩⟩

theorem test_channel_commands_and_diagnostics_hypotheses :
    (∃ (s : State) (p : Requester) (ch : Nat) (action : Nat) (cls : Nat) (n : Fin 12), Granted s p .operate
      0x000D0008 (s.namesLamp ch) ∧ s.namedCh ch = some (n, cls) ∧ (cls = 1 ∨ cls = 3) = False ∧ cls ≠ 0 ∧
      action < 2 ∧ s.eng.state[EngineId.he.idx] ≠ .restarting) ∧
    (∃ (s : State) (p : Requester) (ch : Nat) (action : Nat) (cls : Nat) (n : Fin 12), Granted s p .operate
      0x000D0008 (s.namesLamp ch) ∧ s.namedCh ch = some (n, cls) ∧ (cls = 1 ∨ cls = 3) = False ∧ cls ≠ 0 ∧
      action < 2 ∧ s.eng.state[EngineId.he.idx] = .restarting) ∧
    (∃ (s : State) (p : Requester) (ch : Nat) (action : Nat) (cls : Nat) (n : Fin 12), Granted s p .operate
      0x000D0008 (s.namesLamp ch) ∧ s.namedCh ch = some (n, cls) ∧ (cls = 1 ∨ cls = 3)) ∧
    (∃ (s : State) (p : Requester) (ch : Nat) (action : Nat) (n : Fin 12), Granted s p .operate 0x000D0008
      (s.namesLamp ch) ∧ s.namedCh ch = some (n, 0)) ∧
    (∃ (s : State) (p : Requester) (ch : Nat) (action : Nat), Granted s p .operate 0x000D0008 (s.namesLamp ch) ∧
      s.namedCh ch = none) ∧
    (∃ (s : State) (p : Requester) (mask : BitVec 12), Granted s p .clear 0x000D000C) ∧
    (∃ (s : State) (p : Requester) (code : BitVec 4), Granted s p .configure 0x000D0010) ∧
    (∃ (s : State) (code : BitVec 4), s.dev.senseSrcPin = true) ∧
    (∃ (s : State) (n : Fin 12) (t0 : Nat), s.lsw.ch[n].isOn = true ∧ s.lsw.ch[n].econDue = some t0 ∧ t0 ≤
      s.clock) ∧
    (∃ (s : State) (n : Fin 12) (t0 : Nat), s.lsw.ch[n].isOn = true ∧ s.lsw.ch[n].econ = false ∧
      s.lsw.ch[n].lowSince = some t0 ∧ t0 + 100 * msNs ≤ s.clock ∧ s.lsw.ch[n].diag ≠ 3) ∧
    (∃ (s : State) (n : Fin 12) (vout : Nat) (v : Nat), s.pwr.vaux = some v ∧ s.offTestable n = true) :=
  ⟨⟨ready, .spline, 2, 1, 2, 1, ⟨by decide, by decide⟩, by decide, by decide, by decide, by decide, by decide⟩,
   ⟨{ ready with eng := { ready.eng with state := ready.eng.state.set 6 .restarting } }, .spline, 2, 1, 2, 1,
      ⟨by decide, by decide⟩, by decide, by decide, by decide, by decide, by decide⟩,
   ⟨ready, .spline, 3, 0, 3, 2, ⟨by decide, by decide⟩, by decide, by decide⟩,
   ⟨ready, .spline, 12, 0, 11, ⟨by decide, by decide⟩, by decide⟩,
   ⟨ready, .spline, 13, 0, ⟨by decide, by decide⟩, by decide⟩,
   ⟨ready, .spline, 0, ⟨by decide, by decide⟩⟩,
   ⟨ready, .spline, 0, ⟨by decide, by decide⟩⟩,
   ⟨{ ready with dev := { ready.dev with senseSrcPin := true } }, 0, by decide⟩,
   ⟨{ ready with lsw := { ready.lsw with ch := ready.lsw.ch.set 1 { isOn := true, econDue := some 0 } } }, 1, 0,
      by decide, by decide, by decide⟩,
   ⟨{ ready with lsw := { ready.lsw with ch := ready.lsw.ch.set 1 { isOn := true, lowSince := some 0 } } }, 1,
      0, by decide, by decide, by decide, by decide, by decide⟩,
   ⟨{ ready with pwr := { ready.pwr with vaux := some 24000 } }, 1, 23000, 24000, by decide, by decide⟩⟩

theorem test_channel_limits_and_retries_hypotheses :
    (∃ (s : State) (n : Fin 12) (i : Int), s.lsw.ch[n].isOn = true ∧ s.lsw.ch[n].limiting = false ∧
      (s.chLimit n : Int) ≤ 10 * i) ∧
    (∃ (s : State) (n : Fin 12), s.lsw.ch[n].isOn = true ∧ s.lsw.ch[n].limiting = true ∧ s.lsw.ch[n].inrushDue =
      none ∧ s.lsw.ch[n].limAt + usNs * s.im.limitTime ≤ s.clock ∧ s.im.lswRetryN n.val ≤ s.lsw.ch[n].attempts +
      1 ∧ s.lswClass n ≠ 1) ∧
    (∃ (s : State) (n : Fin 12) (tj : Int), s.lsw.ch[n].isOn = true ∧ 1750 ≤ tj ∧ s.im.lswRetryN n.val ≤
      s.lsw.ch[n].attempts + 1 ∧ s.lswClass n ≠ 1) ∧
    (∃ (s : State) (n : Fin 12), s.lsw.ch[n].isOn = true ∧ s.lsw.ch[n].limiting = true ∧ s.lsw.ch[n].inrushDue =
      none ∧ s.lsw.ch[n].limAt + usNs * s.im.limitTime ≤ s.clock ∧ s.lsw.ch[n].attempts + 1 < s.im.lswRetryN
      n.val) ∧
    (∃ (s : State) (n : Fin 12) (tj : Int), s.lsw.ch[n].isOn = true ∧ 1750 ≤ tj ∧ s.lsw.ch[n].attempts + 1 <
      s.im.lswRetryN n.val) ∧
    (∃ (s : State) (n : Fin 12) (t0 : Nat), s.lsw.ch[n].inrushDue = some t0 ∧ t0 ≤ s.clock) ∧
    (∃ (s : State) (n : Fin 12) (t0 : Nat), s.lsw.ch[n].pauseDue = some t0 ∧ t0 ≤ s.clock) ∧
    (∃ (s : State) (n : Fin 12), s.lsw.ch[n].isOn = true ∧ s.lsw.ch[n].onSince + 2560 * msNs ≤ s.clock) :=
  ⟨⟨{ ready with lsw := { ready.lsw with ch := ready.lsw.ch.set 1 { isOn := true } } }, 1, 20000, by decide, by
      decide, by decide⟩,
   ⟨{ ready with
        lsw := { ready.lsw with ch := ready.lsw.ch.set 1 { isOn := true, limiting := true, attempts := 4 } } },
      1, by decide, by decide, by decide, by decide, by decide, by decide⟩,
   ⟨{ ready with lsw := { ready.lsw with ch := ready.lsw.ch.set 1 { isOn := true, attempts := 4 } } }, 1, 1750,
      by decide, by decide, by decide, by decide⟩,
   ⟨{ ready with
        lsw := { ready.lsw with ch := ready.lsw.ch.set 1 { isOn := true, limiting := true, attempts := 3 } } },
      1, by decide, by decide, by decide, by decide, by decide⟩,
   ⟨{ ready with lsw := { ready.lsw with ch := ready.lsw.ch.set 1 { isOn := true, attempts := 3 } } }, 1, 1750,
      by decide, by decide, by decide⟩,
   ⟨{ ready with lsw := { ready.lsw with ch := ready.lsw.ch.set 1 { inrushDue := some 0 } } }, 1, 0, by decide,
      by decide⟩,
   ⟨{ ready with lsw := { ready.lsw with ch := ready.lsw.ch.set 1 { pauseDue := some 0 } } }, 1, 0, by decide,
      by decide⟩,
   ⟨{ ready with lsw := { ready.lsw with ch := ready.lsw.ch.set 1 { isOn := true } } }, 1, by decide, by
      decide⟩⟩

theorem test_cluster_temperature_hypotheses :
    (∃ (s : State) (cl : Fin 3) (temp : Int) (tjs : List Int) (is : List Int), temp < (s.im.clusterShed : Int) ∧
      s.lsw.clusters[cl].shedding = false ∧ s.lsw.clusters[cl].shedList = []) ∧
    (∃ (s : State) (cl : Fin 3) (temp : Int) (tjs : List Int) (is : List Int) (n : Fin 12),
      (s.im.clusterShed : Int) ≤ temp ∧ clusterOf n = cl ∧ s.lswClass n ≠ 1 ∧ (∀ k : Fin 12, clusterOf k = cl →
      (s.lsw.ch[k].isOn = true ↔ k = n))) ∧
    (∃ (s : State) (n : Fin 12) (t0 : Nat), s.lsw.ch[n].coilDue = some t0 ∧ t0 ≤ s.clock ∧ s.lsw.ch[n].isOn =
      true) ∧
    (∃ (s : State) (cl : Fin 3) (n : Fin 12) (t0 : Nat), s.lsw.clusters[cl].restoring = true ∧
      s.lsw.clusters[cl].nextDue = some t0 ∧ t0 ≤ s.clock ∧ clusterOf n = cl ∧ s.lsw.clusters[cl].shedList =
      [n]) :=
  ⟨⟨ready, 0, 1449, [], [], by decide, by decide, by decide⟩,
   ⟨{ ready with lsw := { ready.lsw with ch := ready.lsw.ch.set 1 { isOn := true } } }, 0, 1450, [], [], 1, by
      decide, by decide, by decide, by decide⟩,
   ⟨{ ready with lsw := { ready.lsw with ch := ready.lsw.ch.set 1 { isOn := true, coilDue := some 0 } } }, 1, 0,
      by decide, by decide, by decide⟩,
   ⟨{ ready with
        lsw := { ready.lsw with
            clusters := ready.lsw.clusters.set 0 { restoring := true, nextDue := some 0, shedList := [1] } } },
      0, 1, 0, by decide, by decide, by decide, by decide, by decide⟩⟩

theorem test_activities_start_hypotheses :
    (∃ (s : State) (p : Requester) (c : ChainId) (m : Fin 32) (i : Fin 4), Granted s p .test mntStartAddr ∧
      s.holder (ActCode.res .gateTest c) (s.actMask p .gateTest) = none ∧ s.freeSlot = some i ∧ s.arm.owner =
      true ∧ s.gateTestMay = true) ∧
    (∃ (s : State) (p : Requester) (c : ChainId) (m : Fin 32) (i : Fin 4), Granted s p .test mntStartAddr ∧
      s.holder (ActCode.res .jig c) (s.actMask p .jig) = none ∧ s.freeSlot = some i ∧ s.arm.owner = true ∧
      s.arm.mode = .block ∧ s.spl.urgLatch = .none) ∧
    (∃ (s : State) (p : Requester) (c : ChainId) (m : Fin 32) (i : Fin 4), Granted s p .operate mntStartAddr ∧
      s.holder (ActCode.res .learn c) (s.actMask p .learn) = none ∧ s.freeSlot = some i ∧ s.arm.owner = true ∧
      s.declared c = true ∧ m.val < s.nMods ∧ (s.chain c).st = .run ∧ (s.chain c).mods[m].st ≠ .parked ∧
      (s.chain c).mods[m].lost = false) ∧
    (∃ (s : State) (p : Requester) (c : ChainId) (m : Fin 32) (i : Fin 4), Granted s p .test mntStartAddr ∧
      s.holder (ActCode.res .precharge c) (s.actMask p .precharge) = none ∧ s.freeSlot = some i ∧ s.arm.owner =
      true ∧ s.declared c = true ∧ s.canConnect c = true ∧ s.arm.mode = .block) ∧
    (∃ (s : State) (p : Requester) (c : ChainId) (m : Fin 32) (i : Fin 4), Granted s p .test mntStartAddr ∧
      s.holder (ActCode.res .contTest c) (s.actMask p .contTest) = none ∧ s.freeSlot = some i ∧ s.arm.owner =
      true ∧ s.declared c = true ∧ (s.chain c).st = .block ∧ s.quiet c = true ∧ (s.chain c).closed = true ∧
      s.lowCap c = false) ∧
    (∃ (s : State) (p : Requester) (c : ChainId) (m : Fin 32) (i : Fin 4), Granted s p .configure mntStartAddr ∧
      s.holder (ActCode.res .sentUpdate c) (s.actMask p .sentUpdate) = none ∧ s.freeSlot = some i ∧ s.arm.owner
      = true ∧ s.declared c = true ∧ (s.sen c).stage = .enumerated ∧ s.mnt.argValue[p.idx].toNat / 65536 % 256 =
      6) ∧
    (∃ (s : State) (p : Requester) (c : ChainId) (m : Fin 32) (i : Fin 4) (n : Fin 12) (ns : List (Fin 12)),
      Granted s p .operate mntStartAddr ∧ s.holder (ActCode.res .heaterTest c) (s.actMask p .heaterTest) = none
      ∧ s.freeSlot = some i ∧ s.arm.owner = true ∧ (!(s.thm.sdHotA || s.thm.sdHotB || s.thm.sdColdA ||
      s.thm.sdColdB)) = true ∧ s.pwr.s1 = false ∧ s.heaters = n :: ns) ∧
    (∃ (s : State) (p : Requester) (c : ChainId) (m : Fin 32) (i : Fin 4), Granted s p .read mntStartAddr ∧
      s.holder (ActCode.res .recordExport c) (s.actMask p .recordExport) = none ∧ s.freeSlot = some i ∧
      s.arm.owner = true ∧ p = .spline) :=
  ⟨⟨ready, .spline, .a, 0, 0, ⟨by decide, by decide⟩, by decide, by decide, by decide, by decide⟩,
   ⟨ready, .spline, .a, 0, 0, ⟨by decide, by decide⟩, by decide, by decide, by decide, by decide, by decide⟩,
   ⟨{ ready with chA := { ready.chA with st := .run } }, .spline, .a, 3, 0, ⟨by decide, by decide⟩, by decide,
      by decide, by decide, by decide, by decide, by decide, by decide, by decide⟩,
   ⟨{ ready with chA := { ready.chA with st := .block }, snA := { ready.snA with stage := .enumerated } },
      .spline, .a, 0, 0, ⟨by decide, by decide⟩, by decide, by decide, by decide, by decide, by decide, by
      decide⟩,
   ⟨{ ready with
        chA := { ready.chA with st := .block, kPos := true, kNeg := true, iMeas := some 0 },
        meas := { ready.meas with vCap := some 16000 } }, .spline, .a, 0, 0, ⟨by decide, by decide⟩, by decide,
      by decide, by decide, by decide, by decide, by decide, by decide, by decide⟩,
   ⟨{ ready with
        snA := { ready.snA with stage := .enumerated },
        mnt := { ready.mnt with argValue := Vector.replicate 4 0x00060000#32 } }, .spline, .a, 0, 0, ⟨by decide,
      by decide⟩, by decide, by decide, by decide, by decide, by decide, by decide⟩,
   ⟨ready, .spline, .a, 0, 0, 2, [], ⟨by decide, by decide⟩, by decide, by decide, by decide, by decide, by
      decide, by decide⟩,
   ⟨ready, .spline, .a, 0, 0, ⟨by decide, by decide⟩, by decide, by decide, by decide, by decide⟩⟩

theorem test_activities_are_refused_hypotheses :
    (∃ (s : State) (p : Requester) (c : ChainId) (m : Fin 32) (r : Nat) (j : Fin 4) (v : Activity), Granted s p
      .operate mntStartAddr ∧ m.val < s.nMods ∧ s.holder (ActCode.res .learn c) (s.actMask p .learn) = some
      (r, j, v)) ∧
    (∃ (s : State) (p : Requester) (c : ChainId) (m : Fin 32), Granted s p .operate mntStartAddr ∧ m.val <
      s.nMods ∧ s.holder (ActCode.res .learn c) (s.actMask p .learn) = none ∧
      (s.freeSlot = none ∨ s.arm.owner = false)) ∧
    (∃ (s : State) (p : Requester) (c : ChainId) (m : Fin 32) (r : Nat) (j : Fin 4) (v : Activity), Granted s p
      .configure mntStartAddr ∧ s.holder (ActCode.res .sentUpdate c) (s.actMask p .sentUpdate) = some (r, j, v))
      ∧
    (∃ (s : State) (p : Requester) (c : ChainId) (m : Fin 32), Granted s p .configure mntStartAddr ∧ s.holder
      (ActCode.res .sentUpdate c) (s.actMask p .sentUpdate) = none ∧ (s.freeSlot = none ∨ s.arm.owner = false))
      ∧
    (∃ (s : State) (p : Requester) (c : ChainId) (m : Fin 32) (r : Nat) (j : Fin 4) (v : Activity), Granted s p
      .test mntStartAddr ∧ s.holder (ActCode.res .gateTest c) (s.actMask p .gateTest) = some (r, j, v)) ∧
    (∃ (s : State) (p : Requester) (c : ChainId) (m : Fin 32), Granted s p .test mntStartAddr ∧ s.holder
      (ActCode.res .gateTest c) (s.actMask p .gateTest) = none ∧ (s.freeSlot = none ∨ s.arm.owner = false)) ∧
    (∃ (s : State) (p : Requester) (c : ChainId) (m : Fin 32) (r : Nat) (j : Fin 4) (v : Activity), Granted s p
      .test mntStartAddr ∧ s.holder (ActCode.res .jig c) (s.actMask p .jig) = some (r, j, v)) ∧
    (∃ (s : State) (p : Requester) (c : ChainId) (m : Fin 32), Granted s p .test mntStartAddr ∧ s.holder
      (ActCode.res .jig c) (s.actMask p .jig) = none ∧ (s.freeSlot = none ∨ s.arm.owner = false)) ∧
    (∃ (s : State) (p : Requester) (c : ChainId) (m : Fin 32) (r : Nat) (j : Fin 4) (v : Activity), Granted s p
      .test mntStartAddr ∧ s.holder (ActCode.res .precharge c) (s.actMask p .precharge) = some (r, j, v)) ∧
    (∃ (s : State) (p : Requester) (c : ChainId) (m : Fin 32), Granted s p .test mntStartAddr ∧ s.holder
      (ActCode.res .precharge c) (s.actMask p .precharge) = none ∧ (s.freeSlot = none ∨ s.arm.owner = false)) ∧
    (∃ (s : State) (p : Requester) (c : ChainId) (m : Fin 32) (r : Nat) (j : Fin 4) (v : Activity), Granted s p
      .test mntStartAddr ∧ s.holder (ActCode.res .contTest c) (s.actMask p .contTest) = some (r, j, v)) ∧
    (∃ (s : State) (p : Requester) (c : ChainId) (m : Fin 32), Granted s p .test mntStartAddr ∧ s.holder
      (ActCode.res .contTest c) (s.actMask p .contTest) = none ∧ (s.freeSlot = none ∨ s.arm.owner = false)) ∧
    (∃ (s : State) (p : Requester) (c : ChainId) (m : Fin 32) (r : Nat) (j : Fin 4) (v : Activity), Granted s p
      .operate mntStartAddr ∧ s.holder (ActCode.res .heaterTest c) (s.actMask p .heaterTest) = some (r, j, v)) ∧
    (∃ (s : State) (p : Requester) (c : ChainId) (m : Fin 32), Granted s p .operate mntStartAddr ∧ s.holder
      (ActCode.res .heaterTest c) (s.actMask p .heaterTest) = none ∧ (s.freeSlot = none ∨ s.arm.owner = false))
      ∧
    (∃ (s : State) (p : Requester) (c : ChainId) (m : Fin 32) (r : Nat) (j : Fin 4) (v : Activity), Granted s p
      .read mntStartAddr ∧ s.holder (ActCode.res .recordExport c) (s.actMask p .recordExport) = some (r, j, v))
      ∧
    (∃ (s : State) (p : Requester) (c : ChainId) (m : Fin 32), Granted s p .read mntStartAddr ∧ s.holder
      (ActCode.res .recordExport c) (s.actMask p .recordExport) = none ∧
      (s.freeSlot = none ∨ s.arm.owner = false)) :=
  ⟨⟨{ ready with
        mnt := { ready.mnt with
            argMask := Vector.replicate 4 1,
            acts := Vector.replicate 4 (some { res := 0x3FF, mask := 0xFFFFFFFF }) } }, .spline, .a, 0, 8, 0,
      { res := 0x3FF, mask := 0xFFFFFFFF }, ⟨by decide, by decide⟩, by decide, by decide⟩,
   ⟨{ ready with arm := { ready.arm with owner := false } }, .spline, .a, 0, ⟨by decide, by decide⟩, by decide,
      by decide, by decide⟩,
   ⟨{ ready with
        mnt := { ready.mnt with
            argMask := Vector.replicate 4 1,
            acts := Vector.replicate 4 (some { res := 0x3FF, mask := 0xFFFFFFFF }) } }, .spline, .a, 0, 8, 0,
      { res := 0x3FF, mask := 0xFFFFFFFF }, ⟨by decide, by decide⟩, by decide⟩,
   ⟨{ ready with arm := { ready.arm with owner := false } }, .spline, .a, 0, ⟨by decide, by decide⟩, by decide,
      by decide⟩,
   ⟨{ ready with
        mnt := { ready.mnt with
            argMask := Vector.replicate 4 1,
            acts := Vector.replicate 4 (some { res := 0x3FF, mask := 0xFFFFFFFF }) } }, .spline, .a, 0, 4, 0,
      { res := 0x3FF, mask := 0xFFFFFFFF }, ⟨by decide, by decide⟩, by decide⟩,
   ⟨{ ready with arm := { ready.arm with owner := false } }, .spline, .a, 0, ⟨by decide, by decide⟩, by decide,
      by decide⟩,
   ⟨{ ready with
        mnt := { ready.mnt with
            argMask := Vector.replicate 4 1,
            acts := Vector.replicate 4 (some { res := 0x3FF, mask := 0xFFFFFFFF }) } }, .spline, .a, 0, 4, 0,
      { res := 0x3FF, mask := 0xFFFFFFFF }, ⟨by decide, by decide⟩, by decide⟩,
   ⟨{ ready with arm := { ready.arm with owner := false } }, .spline, .a, 0, ⟨by decide, by decide⟩, by decide,
      by decide⟩,
   ⟨{ ready with
        mnt := { ready.mnt with
            argMask := Vector.replicate 4 1,
            acts := Vector.replicate 4 (some { res := 0x3FF, mask := 0xFFFFFFFF }) } }, .spline, .a, 0, 0, 0,
      { res := 0x3FF, mask := 0xFFFFFFFF }, ⟨by decide, by decide⟩, by decide⟩,
   ⟨{ ready with arm := { ready.arm with owner := false } }, .spline, .a, 0, ⟨by decide, by decide⟩, by decide,
      by decide⟩,
   ⟨{ ready with
        mnt := { ready.mnt with
            argMask := Vector.replicate 4 1,
            acts := Vector.replicate 4 (some { res := 0x3FF, mask := 0xFFFFFFFF }) } }, .spline, .a, 0, 0, 0,
      { res := 0x3FF, mask := 0xFFFFFFFF }, ⟨by decide, by decide⟩, by decide⟩,
   ⟨{ ready with arm := { ready.arm with owner := false } }, .spline, .a, 0, ⟨by decide, by decide⟩, by decide,
      by decide⟩,
   ⟨{ ready with
        mnt := { ready.mnt with
            argMask := Vector.replicate 4 1,
            acts := Vector.replicate 4 (some { res := 0x3FF, mask := 0xFFFFFFFF }) } }, .spline, .a, 0, 6, 0,
      { res := 0x3FF, mask := 0xFFFFFFFF }, ⟨by decide, by decide⟩, by decide⟩,
   ⟨{ ready with arm := { ready.arm with owner := false } }, .spline, .a, 0, ⟨by decide, by decide⟩, by decide,
      by decide⟩,
   ⟨{ ready with
        mnt := { ready.mnt with
            argMask := Vector.replicate 4 1,
            acts := Vector.replicate 4 (some { res := 0x3FF, mask := 0xFFFFFFFF }) } }, .spline, .a, 0, 7, 0,
      { res := 0x3FF, mask := 0xFFFFFFFF }, ⟨by decide, by decide⟩, by decide⟩,
   ⟨{ ready with arm := { ready.arm with owner := false } }, .spline, .a, 0, ⟨by decide, by decide⟩, by decide,
      by decide⟩⟩

theorem test_activities_end_hypotheses :
    (∃ (s : State) (p : Requester) (slot : Fin 4) (v : Activity), s.portOpen p = true ∧ s.mnt.acts[slot] = some
      v ∧ v.port = p ∧ s.right p v.code.right mntStopAddr = true) ∧
    (∃ (s : State) (p : Requester) (slot : Fin 4), s.portOpen p = true ∧ s.mnt.acts[slot] = none) ∧
    (∃ (s : State) (p : Requester) (slot : Fin 4) (v : Activity), s.portOpen p = true ∧ s.mnt.acts[slot] = some
      v ∧ v.port ≠ p ∧ p ≠ .service) ∧
    (∃ (s : State) (slot : Fin 4) (v : Activity), s.mnt.acts[slot] = some v ∧ due s.clock v.timeout = true) ∧
    (∃ (s : State) (slot : Fin 4) (v : Activity), s.mnt.acts[slot] = some v ∧ s.actDone v = true) ∧
    (∃ (s : State) (n : Fin 12) (t0 : Nat), s.mnt.heatTest = some (n, t0) ∧ t0 ≤ s.clock) :=
  ⟨⟨{ ready with mnt := { ready.mnt with acts := ready.mnt.acts.set 0 (some { code := .jig }) } }, .spline, 0,
      { code := .jig }, by decide, by decide, by decide, by decide⟩,
   ⟨ready, .spline, 0, by decide, by decide⟩,
   ⟨{ ready with mnt := { ready.mnt with acts := ready.mnt.acts.set 0 (some { port := .service }) } }, .spline,
      0, { port := .service }, by decide, by decide, by decide, by decide⟩,
   ⟨{ ready with mnt := { ready.mnt with acts := ready.mnt.acts.set 0 (some { timeout := some 0 }) } }, 0,
      { timeout := some 0 }, by decide, by decide⟩,
   ⟨{ ready with mnt := { ready.mnt with acts := ready.mnt.acts.set 0 (some {  }) } }, 0, {  }, by decide, by
      decide⟩,
   ⟨{ ready with mnt := { ready.mnt with heatTest := some (2, 0) } }, 2, 0, by decide, by decide⟩⟩

theorem test_protection_sources_hypotheses :
    (∃ (s : State) (n : Fin 8) (input : BitVec 16) (lasted : Nat), s.planeRuns = true ∧ cmpCrossed
      s.im.str.cmps[n] input = true ∧ 10 * s.im.str.cmps[n].deglitch ≤ lasted ∧ s.prt.cmp.getLsbD n.val = false)
      ∧
    (∃ (s : State), s.dev.tripInLow = false ∧ s.planeRuns = true) ∧
    (∃ (s : State) (p : Requester), Granted s p .operate 0x000C0020 ∧ s.arm.bypassed = false ∧ s.arm.owner =
      true) ∧
    (∃ (s : State) (p : Requester), Granted s p .operate 0x000C0020 ∧ s.arm.bypassed = false ∧ s.arm.owner =
      false) ∧
    (∃ (s : State) (p : Requester) (v : Word), Granted s p .operate 0x000C0020 ∧ v.getLsbD 0 = false) ∧
    (∃ (s : State) (n : Fin 8) (input : BitVec 16), s.prt.cmp.getLsbD n.val = true ∧ cmpReturned
      s.im.str.cmps[n] input = true) ∧
    (∃ (s : State), s.dev.tripInLow = true) ∧
    (∃ (s : State) (t0 : Nat), s.prt.tripCountDue = some t0 ∧ t0 ≤ s.clock ∧ s.arm.owner = false) ∧
    (∃ (s : State) (t0 : Nat) (e : Fin 64), s.prt.tripCountDue = some t0 ∧ t0 ≤ s.clock ∧ s.arm.owner = true ∧
      s.hasEntry e = true ∧ (s.reaction e).source = 8 ∧ s.prt.entries[e].firedAt = some (t0 - 20 * usNs) ∧ 20 *
      usNs ≤ t0 ∧ (∀ k : Fin 64, k ≠ e → s.prt.entries[k].firedAt = none)) ∧
    (∃ (s : State), s.prt.tripOut = true ∧ s.prt.tripOutAt + 10 * usNs ≤ s.clock ∧ s.tripHeld = false) :=
  ⟨⟨ready, 0, 101, 0, by decide, by decide, by decide, by decide⟩,
   ⟨ready, by decide, by decide⟩,
   ⟨ready, .spline, ⟨by decide, by decide⟩, by decide, by decide⟩,
   ⟨{ ready with arm := { ready.arm with owner := false } }, .spline, ⟨by decide, by decide⟩, by decide, by
      decide⟩,
   ⟨ready, .spline, 0x0000B500, ⟨by decide, by decide⟩, by decide⟩,
   ⟨{ ready with prt := { ready.prt with cmp := 1 } }, 0, 99, by decide, by decide⟩,
   ⟨{ ready with dev := { ready.dev with tripInLow := true } }, by decide⟩,
   ⟨{ ready with prt := { ready.prt with tripCountDue := some 0 }, arm := { ready.arm with owner := false } },
      0, by decide, by decide, by decide⟩,
   ⟨{ ready with
        prt := { ready.prt with
            tripCountDue := some 20000,
            entries := ready.prt.entries.set 0 { firedAt := some 0 } } }, 20000, 0, by decide, by decide, by
      decide, by decide, by decide, by decide, by decide, by decide⟩,
   ⟨{ ready with prt := { ready.prt with tripOut := true } }, by decide, by decide, by decide⟩⟩

theorem test_reactions_and_measurements_hypotheses :
    (∃ (s : State) (e : Fin 64) (t0 : Nat), s.prt.entries[e].inactSince = some t0 ∧ s.hasEntry e = true ∧
      (s.reaction e).recover = 1 ∧ s.prt.entries[e].latched = true ∧ s.sourceActive (s.reaction e).source =
      false ∧ t0 + msNs * (s.reaction e).release ≤ s.clock) ∧
    (∃ (s : State) (p : Requester) (n : Fin 64), Granted s p .clear 0x000C0014 ∧ s.hasEntry n = true ∧
      s.sourceActive (s.reaction n).source = true) ∧
    (∃ (s : State) (p : Requester) (n : Fin 64), Granted s p .clear 0x000C0014 ∧
      (s.hasEntry n && s.sourceActive (s.reaction n).source) = false) ∧
    (∃ (s : State) (p : Requester), Granted s p .clear 0x000C0014 ∧ (∀ n : Fin 64,
      (s.hasEntry n && s.sourceActive (s.reaction n).source) = false)) ∧
    (∃ (s : State) (p : Requester), Granted s p .clear 0x000C0014 ∧ (∀ n : Fin 64,
      (s.hasEntry n && s.sourceActive (s.reaction n).source) = true)) ∧
    (∃ (s : State) (v : Option Nat) (i : Option Int), s.peRuns = true ∧ s.outOfReset = true) ∧
    (∃ (s : State) (t0 : Nat), s.prt.measLostA = some t0 ∧ s.arm.owner = true ∧ s.prt.active.contains 0x123 =
      true ∧ t0 + msNs * s.im.measLostOpen ≤ s.clock ∧ (s.chain .a).openReq = false ∧ s.declared .a = true ∧
      (s.chain .a).st = .run) ∧
    (∃ (s : State) (t0 : Nat), s.prt.measLostB = some t0 ∧ s.arm.owner = true ∧ s.prt.active.contains 0x223 =
      true ∧ t0 + msNs * s.im.measLostOpen ≤ s.clock ∧ (s.chain .b).openReq = false ∧ s.declared .b = true ∧
      (s.chain .b).st = .run) :=
  ⟨⟨{ ready with
        prt := { ready.prt with
            entries := ready.prt.entries.set 0
              { inactSince := some 0, latched := true, act := { source := 8, recover := 1 } } } }, 0, 0, by
      decide, by decide, by decide, by decide, by decide, by decide⟩,
   ⟨{ ready with dev := { ready.dev with tripInLow := true } }, .spline, 63, ⟨by decide, by decide⟩, by decide,
      by decide⟩,
   ⟨ready, .spline, 0, ⟨by decide, by decide⟩, by decide⟩,
   ⟨ready, .spline, ⟨by decide, by decide⟩, by decide⟩,
   ⟨{ ready with dev := { ready.dev with tripInLow := true } }, .spline, ⟨by decide, by decide⟩, by decide⟩,
   ⟨ready, none, none, by decide, by decide⟩,
   ⟨{ ready with
        prt := { ready.prt with measLostA := some 0, active := [0x123] },
        chA := { ready.chA with st := .run } }, 0, by decide, by decide, by decide, by decide, by decide, by
      decide, by decide⟩,
   ⟨{ ready with
        prt := { ready.prt with measLostB := some 0, active := [0x223] },
        chB := { ready.chB with st := .run } }, 0, by decide, by decide, by decide, by decide, by decide, by
      decide, by decide⟩⟩

theorem test_power_supplies_and_stages_hypotheses :
    (∃ (s : State) (vsys : Nat) (vbak : Nat) (r : Bool) (se : Bool) (b : Bool), s.dev.phase = .held ∧ 3000 ≤
      vbak ∧ vbak ≤ 3600 ∧ 10400 ≤ vsys) ∧
    (∃ (s : State) (vsys : Nat), s.outOfReset = true ∧ 10800 < vsys) ∧
    (∃ (s : State) (vsys : Nat), s.outOfReset = true) ∧
    (∃ (s : State) (t0 : Nat), s.dvt.unhealthyAt = some t0 ∧ t0 + 10 * usNs ≤ s.clock ∧ s.arm.owner = true) ∧
    (∃ (s : State) (t0 : Nat), s.dvt.unhealthyAt = some t0 ∧ t0 + 10 * usNs ≤ s.clock ∧ s.arm.owner = false) ∧
    (∃ (s : State), s.pwr.warn = true ∧ s.restored 0 = true ∧ s.pwr.s1 = false ∧ s.pwr.s2 = false) ∧
    (∃ (s : State), s.pwr.warn = false ∧ s.pwr.s2 = true ∧ s.restored 2 = true) ∧
    (∃ (s : State), s.pwr.warn = false ∧ s.pwr.s2 = false ∧ s.pwr.s1 = true ∧ s.restored 1 = true) ∧
    (∃ (s : State) (n : Fin 12) (rest : List (Fin 12)), due s.clock s.lsw.restoreDue = true ∧ s.pwr.s1 = false ∧
      s.lsw.restoreQ = n :: rest) ∧
    (∃ (s : State) (p : Requester), Granted s p .operate 0x000F0010 ∧ s.pwr.s4 = true ∧ s.restored 4 = true ∧
      s.pwr.s3 = false) ∧
    (∃ (s : State) (p : Requester), Granted s p .operate 0x000F0010 ∧ s.pwr.s4 = false ∧ s.pwr.s3 = true ∧
      s.restored 3 = true) :=
  ⟨⟨{ ready with dev := { ready.dev with phase := .held } }, 10400, 3000, false, false, false, by decide, by
      decide, by decide, by decide⟩,
   ⟨ready, 10801, by decide, by decide⟩,
   ⟨ready, 10600, by decide⟩,
   ⟨{ ready with dvt := { ready.dvt with unhealthyAt := some 0 } }, 0, by decide, by decide, by decide⟩,
   ⟨{ ready with dvt := { ready.dvt with unhealthyAt := some 0 }, arm := { ready.arm with owner := false } }, 0,
      by decide, by decide, by decide⟩,
   ⟨{ ready with pwr := { ready.pwr with warn := true, above := Vector.replicate 5 (some 0) } }, by decide, by
      decide, by decide, by decide⟩,
   ⟨{ ready with pwr := { ready.pwr with s2 := true, above := Vector.replicate 5 (some 0) } }, by decide, by
      decide, by decide⟩,
   ⟨{ ready with pwr := { ready.pwr with s1 := true, above := Vector.replicate 5 (some 0) } }, by decide, by
      decide, by decide, by decide⟩,
   ⟨{ ready with lsw := { ready.lsw with restoreDue := some 0, restoreQ := [1] } }, 1, [], by decide, by decide,
      by decide⟩,
   ⟨{ ready with pwr := { ready.pwr with s4 := true, above := Vector.replicate 5 (some 0) } }, .spline, ⟨by
      decide, by decide⟩, by decide, by decide, by decide⟩,
   ⟨{ ready with pwr := { ready.pwr with s3 := true, above := Vector.replicate 5 (some 0) } }, .spline, ⟨by
      decide, by decide⟩, by decide, by decide, by decide⟩⟩

theorem test_reset_sources_hypotheses :
    (∃ (s : State), (s.dev.phase = .booting ∨ s.dev.phase = .starting ∨ s.dev.phase = .ready ∨ s.dev.phase =
      .noImage ∨ s.dev.phase = .warm ∨ s.dev.phase = .glueRestart)) ∧
    (∃ (s : State), s.dev.phase = .hibernating) ∧
    (∃ (s : State) (v : Nat), v < 3000 ∨ 3600 < v) ∧
    (∃ (s : State) (v : Nat), 3000 ≤ v ∧ v ≤ 3600) :=
  ⟨⟨ready, by decide⟩,
   ⟨{ ready with dev := { ready.dev with phase := .hibernating } }, by decide⟩,
   ⟨ready, 2999, by decide⟩,
   ⟨ready, 3000, by decide, by decide⟩⟩

theorem test_hibernation_and_clamp_hold_hypotheses :
    (∃ (s : State) (p : Requester), Granted s p .operate 0x000F0010 ∧ s.hibBlock = 0) ∧
    (∃ (s : State) (p : Requester), Granted s p .operate 0x000F0010 ∧ s.hibBlock ≠ 0) ∧
    (∃ (s : State), s.pwr.hibPending = true ∧ s.est.stateDue = false ∧ s.est.countDue = false ∧ s.thm.tillDue =
      [] ∧ s.est.writing = none) ∧
    (∃ (s : State) (p : Requester), Granted s p .clear 0x000F0010) ∧
    (∃ (s : State) (t0 : Nat), s.dev.phase = .hibernating ∧ s.pwr.hibAt = some t0 ∧ s.im.hibWakeInterval ≠ 0 ∧
      t0 + secNs * s.im.hibWakeInterval ≤ s.clock) ∧
    (∃ (s : State) (c : ChainId), s.dev.phase = .hibernating ∧ s.im.hibCciWake ≠ 0 ∧ s.declared c = true) ∧
    (∃ (s : State), s.dev.phase = .hibernating ∧ s.im.wakeMode = 1) ∧
    (∃ (s : State) (f : CanFrame), s.dev.phase = .hibernating ∧ s.im.wakeMode = 2 ∧ s.wakeFilter f = true) ∧
    (∃ (s : State), s.lsw.clamp = true ∧ s.lsw.clampAt + 50 * msNs ≤ s.clock) ∧
    (∃ (s : State), s.lsw.clamp = true ∧ s.pwr.s3 = true ∧ s.lsw.clampAt + 3 * msNs ≤ s.clock) ∧
    (∃ (s : State), s.dev.phase = .warm) :=
  ⟨⟨ready, .spline, ⟨by decide, by decide⟩, by decide⟩,
   ⟨{ ready with arm := { ready.arm with cell := .ready } }, .spline, ⟨by decide, by decide⟩, by decide⟩,
   ⟨{ ready with pwr := { ready.pwr with hibPending := true } }, by decide, by decide, by decide, by decide, by
      decide⟩,
   ⟨ready, .spline, ⟨by decide, by decide⟩⟩,
   ⟨{ ready with
        dev := { ready.dev with phase := .hibernating },
        pwr := { ready.pwr with hibAt := some 0 },
        clock := 86400000000000 }, 0, by decide, by decide, by decide, by decide⟩,
   ⟨{ ready with dev := { ready.dev with phase := .hibernating } }, .a, by decide, by decide, by decide⟩,
   ⟨{ ready with
        dev := { ready.dev with phase := .hibernating },
        img := { ready.img with active := some (image [{ fn := 10, num := 4, value := 1 }]) } }, by decide, by
      decide⟩,
   ⟨{ ready with
        dev := { ready.dev with phase := .hibernating },
        img := { ready.img with
            active := some (image [{ fn := 10, num := 4, value := 2 },
              { fn := 10, num := 32, value := 0xA0000000 }, { fn := 10, num := 33, value := 0x80000000 }]) } },
      can, by decide, by decide, by decide⟩,
   ⟨{ ready with lsw := { ready.lsw with clamp := true } }, by decide, by decide⟩,
   ⟨{ ready with lsw := { ready.lsw with clamp := true }, pwr := { ready.pwr with s3 := true } }, by decide, by
      decide, by decide⟩,
   ⟨{ ready with dev := { ready.dev with phase := .warm } }, by decide⟩⟩

theorem test_power_reset_rights_hypotheses :
    (∃ (s : State) (p : Requester), s.portOpen p = true ∧ s.right p .operate 0x000F0010 = false) ∧
    (∃ (s : State) (p : Requester), Granted s p .operate 0x000F0010 ∧ s.arm.owner = true ∧
      (s.arm.cell = .running ∨ s.arm.cell = .degradedHb)) ∧
    (∃ (s : State) (p : Requester), Granted s p .operate 0x000F0010 ∧ (s.arm.owner = false ∨ s.arm.cell ≠
      .running ∧ s.arm.cell ≠ .degradedHb)) :=
  ⟨⟨{ ready with sec := { ready.sec with life := 3 } }, .spline, by decide, by decide⟩,
   ⟨{ ready with arm := { ready.arm with cell := .running } }, .spline, ⟨by decide, by decide⟩, by decide, by
      decide⟩,
   ⟨{ ready with arm := { ready.arm with owner := false } }, .spline, ⟨by decide, by decide⟩, by decide⟩⟩

theorem test_register_reads_and_clears_hypotheses :
    (∃ (s : State) (p : Requester) (addr : Word), s.portOpen p = true ∧ addr.toNat % 4 ≠ 0) ∧
    (∃ (s : State) (p : Requester) (addr : Word), s.portOpen p = true ∧ addr.toNat % 4 = 0 ∧ readReg s p addr =
      none) ∧
    (∃ (s : State) (p : Requester) (addr : Word) (v : Word), s.portOpen p = true ∧ addr.toNat % 4 = 0 ∧ readReg
      s p addr = some v ∧ s.right p .read addr = false) ∧
    (∃ (s : State) (p : Requester) (v : Word), s.portOpen p = true ∧ s.right p .read 0x00030030 = true ∧ readReg
      s p 0x00030030 = some v ∧ s.latched p 0x00030030 = none) ∧
    (∃ (s : State) (p : Requester) (v : Word), s.portOpen p = true ∧ s.right p .read 0x00060080 = true ∧ readReg
      s p 0x00060080 = some v ∧ s.latched p 0x00060080 = none) ∧
    (∃ (s : State) (p : Requester) (v : Word), s.portOpen p = true ∧ s.right p .read 0x00090008 = true ∧ readReg
      s p 0x00090008 = some v ∧ s.latched p 0x00090008 = none) ∧
    (∃ (s : State) (p : Requester) (v : Word), s.portOpen p = true ∧ s.right p .read 0x000C001C = true ∧ readReg
      s p 0x000C001C = some v ∧ s.latched p 0x000C001C = none) ∧
    (∃ (s : State) (p : Requester) (v : Word), s.portOpen p = true ∧ s.right p .read 0x000D0030 = true ∧ readReg
      s p 0x000D0030 = some v ∧ s.latched p 0x000D0030 = none) :=
  ⟨⟨ready, .spline, 1, by decide, by decide⟩,
   ⟨ready, .spline, 0x00FF0000, by decide, by decide, by decide⟩,
   ⟨{ ready with img := { ready.img with active := some { image [] with esc := [] } } }, .spline, 0, ((readReg
      { ready with img := { ready.img with active := some { image [] with esc := [] } } } .spline 0).getD 0), by
      decide, by decide, by decide, by decide⟩,
   ⟨ready, .spline, ((readReg ready .spline 0x00030030).getD 0), by decide, by decide, by decide, by decide⟩,
   ⟨ready, .spline, ((readReg ready .spline 0x00060080).getD 0), by decide, by decide, by decide, by decide⟩,
   ⟨ready, .spline, ((readReg ready .spline 0x00090008).getD 0), by decide, by decide, by decide, by decide⟩,
   ⟨ready, .spline, ((readReg ready .spline 0x000C001C).getD 0), by decide, by decide, by decide, by decide⟩,
   ⟨ready, .spline, ((readReg ready .spline 0x000D0030).getD 0), by decide, by decide, by decide, by decide⟩⟩

theorem test_sixty_four_bit_reads_hypotheses :
    (∃ (s : State) (p : Requester) (addr : Word) (v : Word), s.portOpen p = true ∧ s.right p .read addr = true ∧
      addr.toNat % 4 = 0 ∧ readReg s p addr = some v ∧ isLowWord addr = true) ∧
    (∃ (s : State) (p : Requester) (addr : Word) (v : Word) (h : Word), s.portOpen p = true ∧ s.right p .read
      addr = true ∧ addr.toNat % 4 = 0 ∧ readReg s p addr = some v ∧ isLowWord addr = false ∧ s.latched p addr =
      some h) ∧
    (∃ (s : State) (p : Requester) (addr : Word) (v : Word), s.portOpen p = true ∧ s.right p .read addr = true ∧
      addr.toNat % 4 = 0 ∧ readReg s p addr = some v ∧ isLowWord addr = false ∧ s.latched p addr = none) :=
  ⟨⟨ready, .spline, 0x00000008, ((readReg ready .spline 0x00000008).getD 0), by decide, by decide, by decide, by
      decide, by decide⟩,
   ⟨{ ready with req := { ready.req with shadow := Vector.replicate 4 [(12, 5)] } }, .spline, 0x0000000C,
      ((readReg { ready with req := { ready.req with shadow := Vector.replicate 4 [(12, 5)] } } .spline
      0x0000000C).getD 0), 5, by decide, by decide, by decide, by decide, by decide, by decide⟩,
   ⟨ready, .spline, 0x00030030, ((readReg ready .spline 0x00030030).getD 0), by decide, by decide, by decide, by
      decide, by decide, by decide⟩⟩

theorem test_register_writes_and_ports_hypotheses :
    (∃ (s : State) (p : Requester) (addr : Word) (v : Word), s.portOpen p = true ∧ addr.toNat % 4 ≠ 0) ∧
    (∃ (s : State) (p : Requester) (addr : Word) (v : Word), s.portOpen p = true ∧ addr.toNat % 4 = 0 ∧ readReg
      s p addr = none) ∧
    (∃ (s : State) (p : Requester) (v : Word), s.portOpen p = true ∧ s.right p .configure 0x00110000 = true ∧
      (readReg s p 0x00110000).isSome = true) ∧
    (∃ (s : State) (p : Requester) (v : Word), s.portOpen p = true ∧ s.right p .configure 0x000E0034 = true ∧
      (readReg s p 0x000E0034).isSome = true) ∧
    (∃ (s : State) (p : Requester) (v : Word), s.portOpen p = true ∧ s.right p .configure 0x000F0120 = true ∧
      (readReg s p 0x000F0120).isSome = true) ∧
    (∃ (s : State) (p : Requester) (v : Word), s.portOpen p = true ∧ s.right p .configure 0x000E0030 = true ∧
      (readReg s p 0x000E0030).isSome = true) ∧
    (∃ (s : State) (p : Requester) (v : Word), s.portOpen p = true ∧ s.right p .configure 0x00030030 = true ∧
      (readReg s p 0x00030030).isSome = true) ∧
    (∃ (s : State) (h : HeldOp) (rest : List HeldOp), s.spl.regQueue = h :: rest ∧ s.portOpen .spline = true ∧
      h.op.op ≠ 1#8 ∧ h.op.op ≠ 2#8) ∧
    (∃ (s : State) (h : HeldOp) (rest : List HeldOp) (v : Word), s.spl.regQueue = h :: rest ∧ s.portOpen .spline
      = true ∧ h.op.op = 1#8 ∧ h.op.addr.toNat % 4 = 0 ∧ readReg (s.onSpl fun x => { x with regQueue := rest })
      .spline h.op.addr = some v ∧ s.right .spline .read h.op.addr = true ∧ isLowWord h.op.addr = true) ∧
    (∃ (s : State) (seq : Nat), s.portOpen .service = true ∧ s.sec.svcAns = none) ∧
    (∃ (s : State) (seq : Nat) (o : RegOp), s.portOpen .service = true ∧ s.sec.svcAns = none ∧ o.op ≠ 1#8 ∧ o.op
      ≠ 2#8) ∧
    (∃ (s : State) (q : SvcReq) (rest : List SvcReq), s.lbus.svcQ = q :: rest ∧ s.portOpen .lbus = true ∧
      s.lbus.bufs[(14 : Fin 16)].st = 0 ∧ q.refused = true) ∧
    (∃ (s : State) (q : SvcReq) (rest : List SvcReq) (v : Word), s.lbus.svcQ = q :: rest ∧ s.portOpen .lbus =
      true ∧ s.lbus.bufs[(14 : Fin 16)].st = 0 ∧ q.refused = false ∧ q.op = 1#8 ∧ q.addr.toNat % 4 = 0 ∧ readReg
      (s.onLbus fun b => { b with svcQ := rest }) .lbus q.addr = some v ∧ s.right .lbus .read q.addr = true ∧
      (isLowWord q.addr = true ∨ s.latched .lbus q.addr = none)) ∧
    (∃ (s : State) (q : SvcReq) (rest : List SvcReq) (n : Fin 12) (action : Nat), s.lbus.svcQ = q :: rest ∧
      s.portOpen .lbus = true ∧ s.lbus.bufs[(14 : Fin 16)].st = 0 ∧ q.refused = false ∧ q.op = 2#8 ∧ q.addr =
      0x000B0074 ∧ q.data.toNat / 256 % 16 = n.val + 1 ∧ q.data.toNat % 4 = action ∧ action < 3 ∧
      (readReg s .lbus 0x000B0074).isSome = true ∧ s.right .lbus .operate 0x000B0074 = true ∧ s.lswClass n = 3 ∧
      s.locks.getLsbD 6 = false) ∧
    (∃ (s : State) (seq : Nat) (ops : List RegOp), s.portOpen .service = true ∧ 1 ≤ ops.length ∧ ops.length ≤ 16
      ∧ (s.sec.svcAns = none ∨ s.sec.svcSeq ≠ some (seq, 1#8 :: ops.flatMap opBytes)) ∧
      (runOps s ops).1.dev.phase = s.dev.phase) ∧
    (∃ (s : State) (seq : Nat) (o : RegOp) (v : Word), s.portOpen .service = true ∧ s.sec.svcAns = none ∧ o.op =
      1#8 ∧ o.addr.toNat % 4 = 0 ∧ readReg s .service o.addr = some v ∧ s.right .service .read o.addr = true ∧
      (isLowWord o.addr = true ∨ s.latched .service o.addr = none)) ∧
    (∃ (s : State) (seq : Nat) (o : RegOp), s.portOpen .service = true ∧ s.sec.svcAns = none ∧ o.op = 2#8 ∧
      o.addr = 0x00110000 ∧ (readReg s .service 0x00110000).isSome = true ∧ s.right .service .configure
      0x00110000 = true) :=
  ⟨⟨ready, .spline, 3, 0, by decide, by decide⟩,
   ⟨ready, .spline, 0x00FF0000, 0, by decide, by decide, by decide⟩,
   ⟨ready, .spline, 0, by decide, by decide, by decide⟩,
   ⟨ready, .spline, 0, by decide, by decide, by decide⟩,
   ⟨ready, .spline, 0, by decide, by decide, by decide⟩,
   ⟨ready, .spline, 0, by decide, by decide, by decide⟩,
   ⟨ready, .spline, 0, by decide, by decide, by decide⟩,
   ⟨{ ready with spl := { ready.spl with regQueue := [{}] } }, {}, [], by decide, by decide, by decide, by
      decide⟩,
   ⟨{ ready with spl := { ready.spl with regQueue := [rd] } }, rd, [], ((readReg
      { ready with spl := { ready.spl with regQueue := [rd] } } .spline rd.op.addr).getD 0), by decide, by
      decide, by decide, by decide, by decide, by decide, by decide⟩,
   ⟨ready, 0, by decide, by decide⟩,
   ⟨ready, 0, { dest := 0, tag := 0, op := 3, addr := 0, data := 0 }, by decide, by decide, by decide, by
      decide⟩,
   ⟨{ ready with lbus := { ready.lbus with svcQ := [{ refused := true }] } }, { refused := true }, [], by
      decide, by decide, by decide, by decide⟩,
   ⟨{ ready with lbus := { ready.lbus with svcQ := [{ op := 1, addr := 8 }] } }, { op := 1, addr := 8 }, [],
      ((readReg ready .lbus 8).getD 0), by decide, by decide, by decide, by decide, by decide, by decide, by
      decide, by decide, by decide⟩,
   ⟨{ ready with lbus := { ready.lbus with svcQ := [{ op := 2, addr := 0x000B0074, data := 0x302 }] } },
      { op := 2, addr := 0x000B0074, data := 0x302 }, [], 2, 2, by decide, by decide, by decide, by decide, by
      decide, by decide, by decide, by decide, by decide, by decide, by decide, by decide, by decide⟩,
   ⟨ready, 0, [op], by decide, by decide, by decide, by decide, by decide⟩,
   ⟨ready, 0, op, ((readReg ready .service 8).getD 0), by decide, by decide, by decide, by decide, by decide, by
      decide, by decide⟩,
   ⟨ready, 0, { op with op := 2, addr := 0x00110000 }, by decide, by decide, by decide, by decide, by decide, by
      decide⟩⟩

theorem test_pwm_registers_of_me_hypotheses :
    (∃ (s : State) (p : Requester) (addr : Word) (v : Word), s.portOpen p = true ∧ addr.toNat % 4 = 0 ∧ 0x40010
      ≤ addr.toNat ∧ addr.toNat < 0x40050 ∧ addr ≠ 0x0004002C ∧ addr ≠ 0x0004004C ∧ s.right p .configure addr =
      true) ∧
    (∃ (s : State) (p : Requester) (addr : Word) (v : Word), s.portOpen p = true ∧ addr.toNat % 4 = 0 ∧ 0x40010
      ≤ addr.toNat ∧ addr.toNat < 0x40050 ∧ addr ≠ 0x0004002C ∧ addr ≠ 0x0004004C ∧ s.right p .configure addr =
      false) :=
  ⟨⟨ready, .spline, 0x00040010, 0, by decide, by decide, by decide, by decide, by decide, by decide, by decide⟩,
   ⟨ready, .lbus, 0x00040048, 0, by decide, by decide, by decide, by decide, by decide, by decide, by decide⟩⟩

theorem test_attestation_and_lifecycle_hypotheses :
    (∃ (s : State) (p : Requester), Granted s p .read secCmdAddr ∧ s.sec.attest ≠ 1 ∧ s.sec.cntDue = false ∧
      s.writePermit = true ∧ s.sec.life ≠ 0 ∧ s.sec.life ≠ 3 ∧ s.seHalted = false) ∧
    (∃ (s : State) (p : Requester), Granted s p .read secCmdAddr ∧ (s.sec.attest = 1 ∨ s.sec.cntDue = true ∨
      s.writePermit = false ∨ s.sec.life = 0 ∨ s.sec.life = 3 ∨ s.seHalted = true)) ∧
    (∃ (s : State), s.sec.attest = 1 ∧ s.sec.cntDue = false ∧ s.seHalted = false) ∧
    (∃ (s : State), s.sec.cntDue = true ∧ s.writePermit = true ∧ s.seHalted = false) ∧
    (∃ (s : State), Granted s .service .identity secCmdAddr ∧ s.sec.life = 1 ∧ s.sec.opCert ≠ [] ∧ s.sec.root ≠
      [] ∧ s.writePermit = true) ∧
    (∃ (s : State), Granted s .service .identity secCmdAddr ∧
      (s.sec.life ≠ 1 ∨ s.sec.opCert = [] ∨ s.sec.root = [])) ∧
    (∃ (s : State) (p : Requester), s.portOpen p = true ∧ p ≠ .service) ∧
    (∃ (s : State) (o : List Byte), s.portOpen .service = true ∧ s.seHalted = false ∧ 3 ≤ leAt (objBytes o) 0 1
      ∧ s.enrolResult o ≠ 1) ∧
    (∃ (s : State) (o : List Byte), s.portOpen .service = true ∧ s.seHalted = false ∧ leAt (objBytes o) 0 1 = 3)
      :=
  ⟨⟨ready, .spline, ⟨by decide, by decide⟩, by decide, by decide, by decide, by decide, by decide, by decide⟩,
   ⟨{ ready with sec := { ready.sec with life := 3 } }, .spline, ⟨by decide, by decide⟩, by decide⟩,
   ⟨{ ready with sec := { ready.sec with attest := 1 } }, by decide, by decide, by decide⟩,
   ⟨{ ready with sec := { ready.sec with cntDue := true } }, by decide, by decide, by decide⟩,
   ⟨{ ready with sec := { ready.sec with opCert := [1], root := [1] } }, ⟨by decide, by decide⟩, by decide, by
      decide, by decide, by decide⟩,
   ⟨ready, ⟨by decide, by decide⟩, by decide⟩,
   ⟨ready, .spline, by decide, by decide⟩,
   ⟨ready, [5], by decide, by decide, by decide, by decide⟩,
   ⟨ready, [3], by decide, by decide, by decide⟩⟩

theorem test_service_frames_and_jtag_hypotheses :
    (∃ (s : State) (seq : Nat) (stream : Nat) (off : Nat) (data : List Byte), s.portOpen .service = true ∧
      stream ≠ 1 ∧ s.sec.svcAns = none) ∧
    (∃ (s : State) (seq : Nat) (stream : Nat) (off : Nat) (data : List Byte) (a : SvcFrame), s.portOpen .service
      = true ∧ s.sec.svcAns = some a ∧ s.sec.svcSeq = some
      (seq, 3#8 :: natBytes 1 stream ++ natBytes 4 off ++ data)) ∧
    (∃ (s : State) (seq : Nat) (ops : List RegOp) (a : SvcFrame), s.portOpen .service = true ∧ s.sec.svcAns =
      some a ∧ s.sec.svcSeq = some (seq, 1#8 :: ops.flatMap opBytes)) ∧
    (∃ (s : State), s.portOpen .service = true) ∧
    (∃ (s : State) (seq : Nat), s.portOpen .service = true) ∧
    (∃ (s : State), s.tapRuns = true) ∧
    (∃ (s : State) (i : JtagInstr), s.tapRuns = true ∧ (i = .idcode ∨ i = .sample ∨ i = .bypass ∨ s.sec.jtagLife
      = 0 ∨ i = .extest ∧ s.sec.jtagLife = 1 ∧ s.dev.extestSeen = false)) ∧
    (∃ (s : State) (i : JtagInstr), s.tapRuns = true ∧ (i = .regacc ∨ i = .debug) ∧ s.sec.jtagLife ≠ 0) :=
  ⟨⟨ready, 0, 0, 0, [], by decide, by decide, by decide⟩,
   ⟨{ ready with
        sec := { ready.sec with
            svcAns := some (.nak 0),
            svcSeq := some (0, 3#8 :: natBytes 1 0 ++ natBytes 4 0 ++ []) } }, 0, 0, 0, [], .nak 0, by decide,
      by decide, by decide⟩,
   ⟨{ ready with sec := { ready.sec with svcAns := some (.nak 0), svcSeq := some (0, [1#8]) } }, 0, [], .nak 0,
      by decide, by decide, by decide⟩,
   ⟨ready, by decide⟩,
   ⟨ready, 0, by decide⟩,
   ⟨ready, by decide⟩,
   ⟨ready, .extest, by decide, by decide⟩,
   ⟨ready, .debug, by decide, by decide, by decide⟩⟩

theorem test_sentinel_wake_and_enumeration_hypotheses :
    (∃ (s : State) (p : Requester) (c : ChainId), Granted s p .operate (snaAddr c 4) ∧ s.declared c = true ∧
      s.arm.owner = true ∧ s.maySleep c = true) ∧
    (∃ (s : State) (p : Requester) (c : ChainId), Granted s p .operate (snaAddr c 4) ∧ s.declared c = true ∧
      (s.arm.owner = false ∨ s.maySleep c = false)) ∧
    (∃ (s : State) (c : ChainId), s.declared c = true ∧ s.arm.owner = true ∧ (s.sen c).stage = .waking) ∧
    (∃ (s : State) (c : ChainId) (b : List Byte), s.declared c = true ∧ senCrcOk b = false) ∧
    (∃ (s : State) (c : ChainId) (b : List Byte) (tail : Bool) (hop : Nat) (n : Nat), s.declared c = true ∧
      senCrcOk b = true ∧ enumOf b = some (tail, hop, n) ∧ (s.sen c).stage = .enumerating) ∧
    (∃ (s : State) (c : ChainId) (b : List Byte) (tail : Bool) (hop : Nat) (n : Nat), s.declared c = true ∧
      senCrcOk b = true ∧ enumOf b = some (tail, hop, n) ∧ (s.sen c).stage ≠ .enumerating ∧ s.arm.owner = false)
      ∧
    (∃ (s : State) (c : ChainId), s.declared c = true ∧ (s.sen c).stage = .enumerating ∧ ((s.sen c).extra = true
      ∨ (s.sen c).conflict = true ∨ ∃ h, s.loopHop c = some h ∧ h ≠ s.nMods)) ∧
    (∃ (s : State) (c : ChainId), s.declared c = true ∧ (s.sen c).stage = .enumerating ∧ (s.sen c).extra = false
      ∧ (s.sen c).conflict = false ∧ (∀ h, s.loopHop c = some h → h = s.nMods)) :=
  ⟨⟨ready, .spline, .a, ⟨by decide, by decide⟩, by decide, by decide, by decide⟩,
   ⟨{ ready with arm := { ready.arm with owner := false } }, .spline, .a, ⟨by decide, by decide⟩, by decide, by
      decide⟩,
   ⟨{ ready with snA := { ready.snA with stage := .waking } }, .a, by decide, by decide, by decide⟩,
   ⟨ready, .a, badBytes, by decide +kernel, by decide +kernel⟩,
   ⟨{ ready with snA := { ready.snA with stage := .enumerating } }, .a, enumBytes, false, 4, 4, by
      decide +kernel, by decide +kernel, by decide +kernel, by decide +kernel⟩,
   ⟨{ ready with arm := { ready.arm with owner := false } }, .a, enumBytes, false, 4, 4, by decide +kernel, by
      decide +kernel, by decide +kernel, by decide +kernel, by decide +kernel⟩,
   ⟨{ ready with snA := { ready.snA with stage := .enumerating, extra := true } }, .a, by decide, by decide,
      .inl rfl⟩,
   ⟨{ ready with snA := { ready.snA with stage := .enumerating } }, .a, by decide, by decide, by decide, by
      decide, (fun h q => nomatch (show (none : Option Nat) = some h from q))⟩⟩

theorem test_sentinel_timing_and_samples_hypotheses :
    (∃ (s : State) (c : ChainId) (seen : Nat), s.declared c = true ∧ (s.sen c).stage = .enumerated ∧ s.arm.owner
      = true ∧ s.tim.time ≤ s.launchTime c ∧ s.launchTime c < s.tim.time + 100) ∧
    (∃ (s : State) (c : ChainId) (seen : Nat), s.declared c = true ∧ (s.sen c).stage = .enumerated ∧ s.arm.owner
      = false ∧ seen < 100) ∧
    (∃ (s : State) (c : ChainId) (tail : Bool) (m : Fin 32), s.declared c = true ∧ (s.sen c).stage = .enumerated
      ∧ s.ownEnds.filter (fun e => !(s.sen c).struck || e == s.pingTail c) = [tail] ∧ s.pingNext c tail = some
      m) ∧
    (∃ (s : State) (c : ChainId) (b : List Byte) (rt : Nat), s.declared c = true ∧ senCrcOk b = false) ∧
    (∃ (s : State) (c : ChainId) (b : List Byte) (m : Fin 32) (id : Nat) (rt : Nat) (ta : Nat) (v : Int),
      s.declared c = true ∧ senCrcOk b = true ∧ pongOf b = some (m, false, id, ta) ∧ (s.sen c).recs[m].idHead =
      some id ∧ s.arm.owner = true ∧ (s.sen c).recs[m].dlyHead = none ∧ median
      ((((rt - 10 * ta) / 2) :: (s.sen c).recs[m].rtHead).take 8 |>.map Int.ofNat) = some v) ∧
    (∃ (s : State) (c : ChainId) (b : List Byte), s.declared c = true ∧ senCrcOk b = false) ∧
    (∃ (s : State) (c : ChainId) (b : List Byte) (m : Fin 32) (f : SampleFrame), s.declared c = true ∧ senCrcOk
      b = true ∧ sampleOf b = some (m, f) ∧ m.val < s.nMods ∧ (s.sen c).stage = .enumerated ∧ f.sseq =
      (s.sen c).sseq ∧ (s.sen c).recs[m].got = false ∧ f.echo = (s.sen c).recs[m].cntMark ∧ f.status = 0 ∧
      f.owNew = false ∧ f.thOpen ≠ 0xFF#8 ∧ (s.sen c).recs[m].lost = false ∧ (s.sen c).recs[m].bswCell = none ∧
      (s.chain c).mods[m].pend ≠ 3 ∧ (s.es c).mods[m].absentAt = none) ∧
    (∃ (s : State) (c : ChainId), s.declared c = true ∧ (s.sen c).stage = .enumerated) :=
  ⟨⟨{ ready with
        snA := { ready.snA with stage := .enumerated },
        tim := { ready.tim with time := 10000000994950 } }, .a, 0, by decide, by decide, by decide, by decide,
      by decide⟩,
   ⟨{ ready with snA := { ready.snA with stage := .enumerated }, arm := { ready.arm with owner := false } }, .a,
      0, by decide, by decide, by decide, by decide⟩,
   ⟨{ ready with
        snA := { ready.snA with
            stage := .enumerated,
            struck := true,
            recs := ready.snA.recs.set 0 { reachHead := true } } }, .a, false, 0, by decide, by decide, by
      decide, by decide⟩,
   ⟨ready, .a, badBytes, 0, by decide +kernel, by decide +kernel⟩,
   ⟨{ ready with snA := { ready.snA with recs := ready.snA.recs.set 0 { idHead := some 7 } } }, .a, pongBytes,
      0, 7, 100, 2, 40, by decide +kernel, by decide +kernel, by decide +kernel, by decide +kernel, by
      decide +kernel, by decide +kernel, by decide +kernel⟩,
   ⟨ready, .a, badBytes, by decide +kernel, by decide +kernel⟩,
   ⟨{ ready with snA := { ready.snA with stage := .enumerated } }, .a, sampleBytes, 0, sample, by
      decide +kernel, by decide +kernel, by decide +kernel, by decide +kernel, by decide +kernel, by
      decide +kernel, by decide +kernel, by decide +kernel, by decide +kernel, by decide +kernel, by
      decide +kernel, by decide +kernel, by decide +kernel, by decide +kernel, by decide +kernel⟩,
   ⟨{ ready with snA := { ready.snA with stage := .enumerated } }, .a, by decide, by decide⟩⟩

theorem test_sentinel_service_frames_hypotheses :
    (∃ (s : State) (c : ChainId) (b : List Byte), s.declared c = true ∧ senCrcOk b = false) ∧
    (∃ (s : State) (c : ChainId) (b : List Byte) (x : SrsFrame), s.declared c = true ∧ senCrcOk b = true ∧ srsOf
      b = some x ∧ x.op = 1 ∧ x.result = 0 ∧ x.mod.val < s.nMods ∧ (s.sen c).stage = .enumerating ∧
      (s.sen c).recs[x.mod].idRead = false) ∧
    (∃ (s : State) (c : ChainId) (b : List Byte) (x : SrsFrame), s.declared c = true ∧ senCrcOk b = true ∧ srsOf
      b = some x ∧ x.op = 5 ∧ x.result ≠ 0) ∧
    (∃ (s : State) (c : ChainId) (b : List Byte) (x : SrsFrame), s.declared c = true ∧ senCrcOk b = true ∧ srsOf
      b = some x ∧ x.op = 6 ∧ x.result = 0 ∧ s.arm.owner = true) ∧
    (∃ (s : State) (c : ChainId), s.declared c = true ∧ s.arm.owner = true ∧ (s.sen c).stage = .enumerated ∧ due
      s.clock (s.sen c).owDue = true) ∧
    (∃ (s : State) (c : ChainId) (m : Fin 32), s.declared c = true ∧ m.val < s.nMods ∧ (s.sen c).recs[m].lost =
      false ∧ s.im.silentSamples c ≤ (s.sen c).recs[m].misses ∧ (s.chain c).mods[m].lost = false) ∧
    (∃ (s : State) (c : ChainId) (m : Fin 32), s.declared c = true ∧ s.arm.owner = true ∧ (s.sen c).recs[m].lost
      = true ∧ (s.sen c).recs[m].pollAt + 100 * msNs ≤ s.clock) ∧
    (∃ (s : State) (c : ChainId) (m : Fin 32) (cell : Option (Fin 32)), s.declared c = true ∧ s.arm.owner = true
      ∧ m.val < s.nMods ∧ s.bswAllowed c m cell = true) :=
  ⟨⟨ready, .a, badBytes, by decide +kernel, by decide +kernel⟩,
   ⟨{ ready with snA := { ready.snA with stage := .enumerating } }, .a, idBytes,
      { mod := 0, tail := false, op := 1, result := 0, data := 0 }, by decide +kernel, by decide +kernel, by
      decide +kernel, by decide +kernel, by decide +kernel, by decide +kernel, by decide +kernel, by
      decide +kernel⟩,
   ⟨ready, .a, refusedBytes, { mod := 0, tail := false, op := 5, result := 1, data := 0 }, by decide +kernel, by
      decide +kernel, by decide +kernel, by decide +kernel, by decide +kernel⟩,
   ⟨ready, .a, termBytes, { mod := 0, tail := false, op := 6, result := 0, data := 0 }, by decide +kernel, by
      decide +kernel, by decide +kernel, by decide +kernel, by decide +kernel, by decide +kernel⟩,
   ⟨{ ready with snA := { ready.snA with stage := .enumerated, owDue := some 0 } }, .a, by decide, by decide, by
      decide, by decide⟩,
   ⟨{ ready with snA := { ready.snA with recs := ready.snA.recs.set 0 { misses := 3 } } }, .a, 0, by decide, by
      decide, by decide, by decide, by decide⟩,
   ⟨{ ready with snA := { ready.snA with recs := ready.snA.recs.set 0 { lost := true } } }, .a, 0, by decide, by
      decide, by decide, by decide⟩,
   ⟨{ ready with
        chA := { ready.chA with
            mods := ready.chA.mods.set 0 { cmd := { st := .bypass, phase := 0, w := 0 } },
            quietSince := some 0 } }, .a, 0, none, by decide, by decide, by decide, by decide⟩⟩

theorem test_ring_ports_and_pings_hypotheses :
    (∃ (s : State) (port : RPort), s.ringRuns = true ∧ (s.port port).lock = true) ∧
    (∃ (s : State) (port : RPort), s.ringRuns = true ∧ (s.port port).lock = false) ∧
    (∃ (s : State) (port : RPort), s.ringRuns = true ∧ (s.port port).isUp = true) ∧
    (∃ (s : State) (port : RPort), s.ringRuns = true ∧ (s.port port).lock = true ∧ (s.port port).hello = true ∧
      (s.port port).isUp = false ∧ (s.port port).lockAt + msNs ≤ s.clock) ∧
    (∃ (s : State) (port : RPort) (cause : PortCause), s.ringRuns = true ∧ (s.port port).isUp = true ∧ cause ≠
      .lockLoss ∧ cause ≠ .queueBand) ∧
    (∃ (s : State) (port : RPort), s.ringRuns = true ∧ (s.port port).isUp = false) ∧
    (∃ (s : State) (port : RPort) (x : OrdSet), s.ringRuns = true ∧ (s.port port).lock = true ∧ setOk x = true)
      ∧
    (∃ (s : State) (port : RPort) (x : OrdSet) (turn : Nat), s.ringRuns = true ∧ (s.port port).lock = true ∧
      setOk x = false) ∧
    (∃ (s : State) (port : RPort), (s.port port).isolated = true ∧ (s.port port).isolatedAt + 100 * msNs ≤
      s.clock) ∧
    (∃ (s : State), s.ringRuns = true) ∧
    (∃ (s : State) (port : RPort) (x : OrdSet) (ta : Nat), s.ringRuns = true ∧ (s.port port).lock = true ∧ setOk
      x = true ∧ (s.port port).isUp = true) ∧
    (∃ (s : State) (port : RPort) (x : OrdSet) (rt : Nat), s.ringRuns = true ∧ (s.port port).lock = true ∧ setOk
      x = true ∧ (s.port port).isUp = true ∧ (s.port port).pingOpen = true ∧ (s.port port).pingSeq = x.d3.toNat
      ∧ (s.port port).shims.length < 15) ∧
    (∃ (s : State) (port : RPort) (x : OrdSet) (rt : Nat) (m : Int), s.ringRuns = true ∧ (s.port port).lock =
      true ∧ setOk x = true ∧ (s.port port).isUp = true ∧ (s.port port).pingOpen = true ∧ (s.port port).pingSeq
      = x.d3.toNat ∧ 15 ≤ (s.port port).shims.length ∧ median
      ((tdiv ((rt : Int) - x.ext.toNat) 2 :: (s.port port).shims).take 16) = some m ∧ (m < 0 ∨ 24000 < m)) :=
  ⟨⟨{ ready with spl := { ready.spl with portE := { lock := true } } }, .e, by decide, by decide⟩,
   ⟨ready, .e, by decide, by decide⟩,
   ⟨ready, .e, by decide, by decide⟩,
   ⟨{ ready with spl := { ready.spl with portE := { lock := true, hello := true } } }, .e, by decide, by decide,
      by decide, by decide, by decide⟩,
   ⟨ready, .e, .syncErrors, by decide, by decide, by decide, by decide⟩,
   ⟨{ ready with spl := { ready.spl with portE := {} } }, .e, by decide, by decide⟩,
   ⟨{ ready with spl := { ready.spl with portE := { lock := true } } }, .e, orderedSet 0x20 0 1 0x30000, by
      decide, by decide, by decide⟩,
   ⟨{ ready with spl := { ready.spl with portE := { lock := true } } }, .e,
      { orderedSet 0x20 0 0 0 with check := setCheck 0x20 0 0 0 + 1 }, 0, by decide, by decide, by decide⟩,
   ⟨{ ready with spl := { ready.spl with portE := { isolated := true } } }, .e, by decide, by decide⟩,
   ⟨ready, by decide⟩,
   ⟨{ ready with spl := { ready.spl with portE := { lock := true, isUp := true } } }, .e, orderedSet 0x10 0 5 0,
      0, by decide, by decide, by decide, by decide⟩,
   ⟨{ ready with spl := { ready.spl with portE := { lock := true, isUp := true, pingOpen := true } } }, .e,
      orderedSet 0x11 0 0 0, 0, by decide, by decide, by decide, by decide, by decide, by decide, by decide⟩,
   ⟨{ ready with
        spl := { ready.spl with
            portE := { lock := true, isUp := true, pingOpen := true, shims := List.replicate 15 (-100) } } },
      .e, orderedSet 0x11 0 0 0, 0, -100, by decide, by decide, by decide, by decide, by decide, by decide, by
      decide, by decide, by decide⟩⟩

theorem test_ring_frames_sent_hypotheses :
    (∃ (s : State) (port : RPort) (x : OrdSet), s.ringRuns = true ∧ (s.port port).lock = true ∧ setOk x = true ∧
      (s.port port).isUp = true ∧ s.spl.posValid = true ∧ x.d2.toNat = s.spl.ring ∧ x.d1.toNat = 1 ∧
      s.spl.ringReady = true ∧ s.urgNewer x.ext.toNat = true ∧ s.arm.bypassed = false) ∧
    (∃ (s : State) (port : RPort) (x : OrdSet), s.ringRuns = true ∧ (s.port port).lock = true ∧ setOk x = true ∧
      (s.port port).isUp = true ∧ s.spl.posValid = true ∧ x.d2.toNat = s.spl.ring ∧
      (s.spl.ringReady = false ∨ s.urgNewer x.ext.toNat = false) ∧ (∀ u ∈ s.spl.urgFwd, u.toWest =
      (port.other == .w) → u.code = x.d1.toNat → u.seq = x.ext.toNat → u.when + 100 * usNs ≤ s.clock)) ∧
    (∃ (s : State) (port : RPort) (x : OrdSet), s.ringRuns = true ∧ (s.port port).lock = true ∧ setOk x = true ∧
      (s.port port).isUp = true ∧ s.spl.posValid = true ∧ x.d2.toNat = s.spl.ring ∧ x.d1.toNat = 2 ∧
      s.spl.ringReady = true ∧ s.urgNewer x.ext.toNat = true ∧ s.arm.bypassed = false) ∧
    (∃ (s : State) (port : RPort) (x : OrdSet), s.ringRuns = true ∧ (s.port port).lock = true ∧ setOk x = true ∧
      (s.port port).isUp = true ∧ s.spl.posValid = true ∧ x.d2.toNat = s.spl.ring ∧ x.d1.toNat = 3 ∧
      s.spl.ringReady = true ∧ s.urgNewer x.ext.toNat = true) ∧
    (∃ (s : State) (port : RPort) (b : List Byte) (res : Nat), s.ringRuns = true ∧ (s.port port).isUp = true ∧
      crcOk b = true ∧ (s.tim.timeValid = true → s.policed port b = true) ∧ s.passes port b = true) ∧
    (∃ (s : State) (port : RPort) (b : List Byte) (res : Nat), s.ringRuns = true ∧ (s.port port).isUp = true ∧
      crcOk b = false ∧ (s.tim.timeValid = true → s.policed port b = true) ∧ s.passes port b = true) ∧
    (∃ (s : State) (port : RPort) (b : List Byte) (res : Nat), s.ringRuns = true ∧ (s.port port).isUp = true ∧
      s.passes port b = false ∧ (s.tim.timeValid = true → s.policed port b = true)) ∧
    (∃ (s : State) (port : RPort) (b : List Byte) (res : Nat), s.ringRuns = true ∧ (s.port port).isUp = true ∧
      s.tim.timeValid = true ∧ s.policed port b = false) ∧
    (∃ (s : State) (port : RPort) (b : List Byte) (res : Nat) (k : Nat), s.ringRuns = true ∧ (s.port port).isUp
      = true) ∧
    (∃ (s : State) (slot : Nat) (cycle : Nat) (sl : InlaySlot), s.transmits = true ∧
      (s.inlayFor (s.boundOf cycle)).slots[slot]? = some sl ∧ sl.owner = s.spl.position ∧ s.isBound
      (s.boundOf cycle) = true ∧ s.spl.taken.contains (slot, s.boundOf cycle) = false ∧ s.freezeAt
      (s.boundOf cycle) sl.start ≤ 16 * (s.tim.time : Int) ∧ 16 * (s.tim.time : Int) < s.freezeAt
      (s.boundOf cycle) sl.start + 16 ∧ sl.cls = 1) ∧
    (∃ (s : State) (slot : Nat) (cycle : Nat) (sl : InlaySlot), s.transmits = true ∧
      (s.inlayFor (s.boundOf cycle)).slots[slot]? = some sl ∧ sl.owner = s.spl.position ∧ s.isBound
      (s.boundOf cycle) = true ∧ s.spl.taken.contains (slot, s.boundOf cycle) = false ∧ s.freezeAt
      (s.boundOf cycle) sl.start ≤ 16 * (s.tim.time : Int) ∧ 16 * (s.tim.time : Int) < s.freezeAt
      (s.boundOf cycle) sl.start + 16 ∧ sl.cls = 2) ∧
    (∃ (s : State) (slot : Nat) (cycle : Nat) (sl : InlaySlot) (st : Nat) (off : Nat) (bytes : List Byte)
      (rest : List (Nat × Nat × List Byte)), s.transmits = true ∧ (s.inlayFor (s.boundOf cycle)).slots[slot]? =
      some sl ∧ sl.owner = s.spl.position ∧ s.isBound (s.boundOf cycle) = true ∧ s.spl.taken.contains
      (slot, s.boundOf cycle) = false ∧ s.freezeAt (s.boundOf cycle) sl.start ≤ 16 * (s.tim.time : Int) ∧ 16 *
      (s.tim.time : Int) < s.freezeAt (s.boundOf cycle) sl.start + 16 ∧ sl.cls = 3 ∧ s.mnt.exportQ =
      (st, off, bytes) :: rest ∧ chunkLen sl.len < bytes.length) ∧
    (∃ (s : State) (slot : Nat) (cycle : Nat) (sl : InlaySlot), s.transmits = true ∧
      (s.inlayFor (s.boundOf cycle)).slots[slot]? = some sl ∧ sl.owner = s.spl.position ∧ s.isBound
      (s.boundOf cycle) = true ∧ s.spl.taken.contains (slot, s.boundOf cycle) = false ∧ s.freezeAt
      (s.boundOf cycle) sl.start ≤ 16 * (s.tim.time : Int) ∧ 16 * (s.tim.time : Int) < s.freezeAt
      (s.boundOf cycle) sl.start + 16) ∧
    (∃ (s : State) (slot : Nat) (cycle : Nat) (complete : Bool) (sl : InlaySlot), s.transmits = true ∧
      (s.inlayFor (s.boundOf cycle)).slots[slot]? = some sl ∧ (sl.owner ≠ s.spl.position ∨ s.isBound
      (s.boundOf cycle) = false ∨ s.spl.taken.contains (slot, s.boundOf cycle) = true ∨ s.freezeAt
      (s.boundOf cycle) sl.start + 16 ≤ 16 * (s.tim.time : Int))) ∧
    (∃ (s : State) (port : RPort) (f : OwnFrame), (s.spl.frozen.find? fun x => x.awaits port) = some f ∧
      s.transmits = true ∧ s.spl.guardCut = false ∧ s.blocksOut port f = 0) ∧
    (∃ (s : State) (port : RPort) (f : OwnFrame), (s.spl.frozen.find? fun x => x.awaits port) = some f ∧
      s.transmits = true ∧ s.spl.guardCut = false ∧ s.blocksOut port f = 1 ∧ 0 ≤ s.lateness port f) ∧
    (∃ (s : State) (port : RPort) (f : OwnFrame), (s.spl.frozen.find? fun x => x.awaits port) = some f ∧
      (s.transmits = false ∨ s.spl.guardCut = true)) :=
  ⟨⟨{ ready with spl := { ready.spl with portE := { lock := true, isUp := true } } }, .e, orderedSet 1 0 0
      8388607, by decide, by decide, by decide, by decide, by decide, by decide, by decide, by decide, by
      decide, by decide⟩,
   ⟨{ ready with spl := { ready.spl with portE := { lock := true, isUp := true }, ringReady := false } }, .e,
      orderedSet 1 0 0 1, by decide, by decide, by decide, by decide, by decide, by decide, by decide, by
      decide⟩,
   ⟨{ ready with spl := { ready.spl with portE := { lock := true, isUp := true } } }, .e, orderedSet 2 0 0
      8388607, by decide, by decide, by decide, by decide, by decide, by decide, by decide, by decide, by
      decide, by decide⟩,
   ⟨{ ready with spl := { ready.spl with portE := { lock := true, isUp := true } } }, .e, orderedSet 3 0 0
      8388607, by decide, by decide, by decide, by decide, by decide, by decide, by decide, by decide, by
      decide⟩,
   ⟨ready, .e, armBytes, 0, by decide +kernel, by decide +kernel, by decide +kernel, by decide +kernel, by
      decide +kernel⟩,
   ⟨ready, .e, badBytes, 0, by decide +kernel, by decide +kernel, by decide +kernel, by decide +kernel, by
      decide +kernel⟩,
   ⟨{ ready with spl := { ready.spl with portW := {} } }, .e, armBytes, 0, by decide +kernel, by decide +kernel,
      by decide +kernel, by decide +kernel⟩,
   ⟨{ ready with tim := { ready.tim with timeValid := true } }, .e, strayBytes, 0, by decide +kernel, by
      decide +kernel, by decide +kernel, by decide +kernel⟩,
   ⟨ready, .e, [], 0, 0, by decide, by decide⟩,
   ⟨{ ready with
        spl := { ready.spl with
            size := 1,
            portE := { isUp := true, shims := List.replicate 16 160 },
            portW := { isUp := true, shims := List.replicate 16 160 } },
        arm := { ready.arm with boundary := 10000000000000 },
        tim := { ready.tim with time := 9999999998990 } }, 0, 1410065408,
      { start := 0, owner := 0, cls := 1, len := 128 }, by decide, by decide, by decide, by decide, by decide,
      by decide, by decide, by decide⟩,
   ⟨{ ready with
        spl := { ready.spl with
            size := 1,
            portE := { isUp := true, shims := List.replicate 16 160 },
            portW := { isUp := true, shims := List.replicate 16 160 } },
        arm := { ready.arm with boundary := 10000000000000 },
        tim := { ready.tim with time := 10000000000990 } }, 2, 1410065408,
      { start := 2000, owner := 0, cls := 2, len := 128 }, by decide, by decide, by decide, by decide, by
      decide, by decide, by decide, by decide⟩,
   ⟨{ ready with
        spl := { ready.spl with
            size := 1,
            portE := { isUp := true, shims := List.replicate 16 160 },
            portW := { isUp := true, shims := List.replicate 16 160 } },
        arm := { ready.arm with boundary := 10000000000000 },
        tim := { ready.tim with time := 10000000001990 },
        mnt := { ready.mnt with exportQ := [(1, 0, List.replicate 97 0)] } }, 3, 1410065408,
      { start := 3000, owner := 0, cls := 3, len := 128 }, 1, 0, List.replicate 97 0, [], by decide, by decide,
      by decide, by decide, by decide, by decide, by decide, by decide, by decide, by decide⟩,
   ⟨{ ready with
        spl := { ready.spl with
            size := 1,
            portE := { isUp := true, shims := List.replicate 16 160 },
            portW := { isUp := true, shims := List.replicate 16 160 } },
        arm := { ready.arm with boundary := 10000000000000 },
        tim := { ready.tim with time := 9999999998990 } }, 0, 1410065408,
      { start := 0, owner := 0, cls := 1, len := 128 }, by decide, by decide, by decide, by decide, by decide,
      by decide, by decide⟩,
   ⟨ready, 1, 1410065408, false, { start := 1000, owner := 1, cls := 1, len := 128 }, by decide, by decide, by
      decide⟩,
   ⟨{ ready with
        spl := { ready.spl with
            size := 1,
            portE := { isUp := true, shims := List.replicate 16 160 },
            portW := { isUp := true, shims := List.replicate 16 160 },
            frozen := [{ slot := 0, cls := 1, len := 128, start := 0, cycle := 1410065408 }] },
        arm := { ready.arm with boundary := 10000000000000 },
        tim := { ready.tim with time := 9999999999990 } }, .e,
      { slot := 0, cls := 1, len := 128, start := 0, cycle := 1410065408 }, by decide, by decide, by decide, by
      decide⟩,
   ⟨{ ready with
        spl := { ready.spl with
            size := 1,
            portE := { isUp := true, shims := List.replicate 16 160 },
            portW := { isUp := true, shims := List.replicate 16 160 },
            frozen := [{ slot := 0, cls := 1, len := 128, start := 0, cycle := 1410065408 }] },
        arm := { ready.arm with boundary := 10000000000000 },
        tim := { ready.tim with time := 9999999999999 } }, .e,
      { slot := 0, cls := 1, len := 128, start := 0, cycle := 1410065408 }, by decide, by decide, by decide, by
      decide, by decide⟩,
   ⟨{ ready with spl := { ready.spl with frozen := [{}] }, dev := { ready.dev with phase := .warm } }, .e, {},
      by decide, by decide⟩⟩

theorem test_ring_frames_received_hypotheses :
    (∃ (s : State) (port : RPort) (b : List Byte) (f : ArmCycle), armOf b = some f ∧ s.ringRuns = true ∧
      (s.port port).isUp = true ∧ s.delivers port b = true ∧ s.spl.armSeen.find? (fun x => x.1 = f.cycle) =
      none) ∧
    (∃ (s : State) (port : RPort) (b : List Byte) (f : ArmCycle), armOf b = some f ∧ s.ringRuns = true ∧
      (s.port port).isUp = true ∧ (s.delivers port b = false ∨ ∃ g, s.spl.armSeen.find? (fun x => x.1 = f.cycle)
      = some g ∧ g.2 = armCommon b)) ∧
    (∃ (s : State) (port : RPort) (b : List Byte) (f : ArmCycle), armOf b = some f ∧ s.ringRuns = true ∧
      (s.port port).isUp = true ∧ s.delivers port b = true ∧ s.spl.armSeen.find? (fun x => x.1 = f.cycle) = none
      ∧ s.spl.posValid = false ∧ s.spl.posConflict = false ∧ f.ringSize ≠ 0 ∧ f.ringSize ≤ 32 ∧ f.hops <
      f.ringSize ∧ ownsClass1 s.im.inlay (if f.fromWest then f.ringSize - 1 - f.hops else f.hops) = true) ∧
    (∃ (s : State) (port : RPort) (b : List Byte) (h : FrameHead) (x : CellStatus), statusOf b = some (h, x) ∧
      s.delivers port b = true ∧ s.spl.posValid = true ∧ h.src.getLsbD 15 = false ∧ s.srcOwner h.src = some
      (h.src.toNat % 32) ∧ h.src.toNat % 32 < s.spl.size ∧ s.pubOf (h.src.toNat % 32) (s.boundOf h.cycle) = none
      ∧ (s.dev.member = false ∨ h.src.toNat % 32 + 1 ≠ s.spl.position ∨ x.member = false)) ∧
    (∃ (s : State) (port : RPort) (b : List Byte) (f : ArmSummary), summaryOf b = some f ∧ s.delivers port b =
      true ∧ s.seenCopy { type := 3, cycle := f.cycle } = false) ∧
    (∃ (s : State) (port : RPort) (b : List Byte), s.delivers port b = false) ∧
    (∃ (s : State) (port : RPort) (b : List Byte) (h : FrameHead) (o : RegOp), regReqOf b = some (h, [o]) ∧
      s.delivers port b = true ∧ s.spl.posValid = true ∧ s.seenCopy (copyKey h) = false ∧
      (∀ e ∈ s.spl.reqSeen, e.1 ≠ h.cycle) ∧ o.op ≠ 0#8 ∧ o.dest.toNat % 8192 = s.deviceId ∧ s.heldOps < 6) ∧
    (∃ (s : State) (port : RPort) (b : List Byte) (h : FrameHead) (o : RegOp), regReqOf b = some (h, [o]) ∧
      s.delivers port b = true ∧ s.spl.posValid = true ∧ s.seenCopy (copyKey h) = false ∧
      (∀ e ∈ s.spl.reqSeen, e.1 ≠ h.cycle) ∧ o.op ≠ 0#8 ∧ o.dest.toNat % 8192 = s.deviceId ∧ 6 ≤ s.heldOps) ∧
    (∃ (s : State) (cause : HoldCause), s.ringRuns = true ∧ s.tim.acquired = true ∧ s.tim.holdover = false ∧
      (cause = .missingFrame → s.tim.lastCopy + s.cycleNs + 2000 ≤ s.clock) ∧ (cause = .offset → 3 ≤ s.tim.bad))
      ∧
    (∃ (s : State), s.tim.holdover = true ∧ s.tim.validMod = true ∧ s.tim.lastApplied + 200 * usNs ≤ s.clock) :=
  ⟨⟨ready, .e, armBytes, arm, by decide +kernel, by decide +kernel, by decide +kernel, by decide +kernel, by
      decide +kernel⟩,
   ⟨{ ready with dev := { ready.dev with phase := .warm } }, .e, armBytes, arm, by decide +kernel, by
      decide +kernel, by decide +kernel, .inl (by decide +kernel)⟩,
   ⟨{ ready with spl := { ready.spl with posValid := false } }, .e, armBytes, arm, by decide +kernel, by
      decide +kernel, by decide +kernel, by decide +kernel, by decide +kernel, by decide +kernel, by
      decide +kernel, by decide +kernel, by decide +kernel, by decide +kernel, by decide +kernel⟩,
   ⟨ready, .e, statusBytes, headOf statusBytes, ((statusOf statusBytes).get (by decide +kernel)).2, by
      decide +kernel, by decide +kernel, by decide +kernel, by decide +kernel, by decide +kernel, by
      decide +kernel, by decide +kernel, by decide +kernel⟩,
   ⟨ready, .e, summaryBytes, (summaryOf summaryBytes).get (by decide +kernel), by decide +kernel, by
      decide +kernel, by decide +kernel⟩,
   ⟨{ ready with dev := { ready.dev with phase := .warm } }, .e, [], by decide⟩,
   ⟨ready, .e, requestBytes, headOf requestBytes, op, by decide +kernel, by decide +kernel, by decide +kernel,
      by decide +kernel, by decide +kernel, by decide +kernel, by decide +kernel, by decide +kernel⟩,
   ⟨{ ready with spl := { ready.spl with regQueue := List.replicate 6 {} } }, .e, requestBytes, headOf
      requestBytes, op, by decide +kernel, by decide +kernel, by decide +kernel, by decide +kernel, by
      decide +kernel, by decide +kernel, by decide +kernel, by decide +kernel⟩,
   ⟨{ ready with tim := { ready.tim with acquired := true } }, .missingFrame, by decide, by decide, by decide,
      by decide, by decide⟩,
   ⟨{ ready with tim := { ready.tim with holdover := true, validMod := true } }, by decide, by decide, by
      decide⟩⟩

theorem test_start_up_and_token_hypotheses :
    (∃ (s : State), s.dev.phase = .booting ∧ s.est.writing = none) ∧
    (∃ (s : State), s.ringStarted = true ∧ s.dev.bypStatLow = false ∧ s.arm.roleClash = false ∧ s.simplex =
      true) ∧
    (∃ (s : State), s.ringStarted = true ∧ s.dev.bypStatLow = true ∧ s.chainPair = false) ∧
    (∃ (s : State) (t0 : Nat), s.dvt.waitTake = some t0 ∧ t0 ≤ s.clock ∧ s.dev.member = true ∧ s.dev.phase =
      .ready ∧ s.arm.owner = false) :=
  ⟨⟨{ ready with dev := { ready.dev with phase := .booting } }, by decide, by decide⟩,
   ⟨{ ready with
        dev := { ready.dev with phase := .starting },
        tim := { ready.tim with timeValid := true },
        spl := { ready.spl with lastArm := some arm } }, by decide, by decide, by decide, by decide⟩,
   ⟨{ ready with
        dev := { ready.dev with phase := .starting, bypStatLow := true },
        tim := { ready.tim with timeValid := true },
        spl := { ready.spl with lastArm := some arm } }, by decide, by decide, by decide⟩,
   ⟨{ ready with
        dvt := { ready.dvt with waitTake := some 0 },
        dev := { ready.dev with member := true },
        arm := { ready.arm with owner := false } }, 0, by decide, by decide, by decide, by decide, by decide⟩⟩

theorem test_event_log_and_record_writes_hypotheses :
    (∃ (s : State), s.heRuns = true ∧ s.nvmFree = true ∧ s.copyDue = true ∧ s.est.stateDue = false) ∧
    (∃ (s : State) (w : NvmWrite), s.est.writing = some w ∧ w.kind = .event ∧ w.entries.length ≤ 64) ∧
    (∃ (s : State) (w : NvmWrite) (r : StateRec) (rs : List StateRec), s.est.writing = some w ∧ w.kind = .state
      ∧ s.est.recState = r :: rs) ∧
    (∃ (s : State) (w : NvmWrite) (r : CountRec) (rs : List CountRec), s.est.writing = some w ∧ w.kind = .count
      ∧ s.est.recCount = r :: rs) ∧
    (∃ (s : State) (w : NvmWrite) (r : TillRec), s.est.writing = some w ∧ w.kind = .till ∧ w.till = some r) ∧
    (∃ (s : State) (p : Requester) (seq : BitVec 24), Granted s p .configure 0x00120010) :=
  ⟨⟨{ ready with evt := { ready.evt with pending := 64 } }, by decide, by decide, by decide, by decide⟩,
   ⟨{ ready with est := { ready.est with writing := some {} } }, {}, by decide, by decide, by decide⟩,
   ⟨{ ready with est := { ready.est with writing := some { kind := .state }, recState := [{}] } },
      { kind := .state }, {}, [], by decide, by decide, by decide⟩,
   ⟨{ ready with est := { ready.est with writing := some { kind := .count }, recCount := [{}] } },
      { kind := .count }, {}, [], by decide, by decide, by decide⟩,
   ⟨{ ready with est := { ready.est with writing := some { kind := .till, till := some {} } } },
      { kind := .till, till := some {} }, {}, by decide, by decide, by decide⟩,
   ⟨ready, .spline, 0, ⟨by decide, by decide⟩⟩⟩

theorem test_thermal_scan_and_shutdowns_hypotheses :
    (∃ (s : State) (x : ScanInputs), s.heRuns = true) ∧
    (∃ (s : State) (c : ChainId) (m : Fin 32) (n : Fin 8) (t0 : Nat), s.heRuns = true ∧ s.declared c = true ∧
      (s.tm c m).excl.getLsbD n.val = true ∧ (s.tm c m).retAt[n] = some t0 ∧ t0 + (if (s.tm c m).implaus.getLsbD
      n.val then secNs * s.im.plausTime else 10 * secNs) ≤ s.clock) ∧
    (∃ (s : State) (c : ChainId) (t0 : Nat), s.heRuns = true ∧ s.cold c = true ∧
      (c = .a → s.thm.relColdA = some t0) ∧ (c = .b → s.thm.relColdB = some t0) ∧ t0 + 60 * secNs *
      s.im.releaseTime ≤ s.clock) ∧
    (∃ (s : State) (c : ChainId) (t0 : Nat), s.heRuns = true ∧ s.hot c = true ∧
      (c = .a → s.thm.relHotA = some t0) ∧ (c = .b → s.thm.relHotB = some t0) ∧ t0 + 60 * secNs *
      s.im.releaseTime ≤ s.clock) ∧
    (∃ (s : State) (c : ChainId), Granted s .service .clear 0x000B0078 ∧ s.hot c = true ∧
      (c = .a → s.thm.readyA = true) ∧ (c = .b → s.thm.readyB = true)) ∧
    (∃ (s : State) (c : ChainId), Granted s .service .clear 0x000B0078 ∧ s.hot c = false) ∧
    (∃ (s : State) (p : Requester) (c : ChainId), s.portOpen p = true ∧ p ≠ .service) ∧
    (∃ (s : State), Granted s .service .clear 0x000B0078) ∧
    (∃ (s : State) (r : TillRec) (rs : List TillRec), s.thm.tillDue = r :: rs ∧ s.nvmFree = true) :=
  ⟨⟨ready, { gen := [], dieCtrl := 250, dieMeas := 250, diePower := 250 }, by decide⟩,
   ⟨{ ready with
        thm :=
          { ready.thm with modsA := ready.thm.modsA.set 0 { excl := 1, retAt := Vector.replicate 8 (some 0) } }
          }, .a, 0, 0, 0, by decide, by decide, by decide, by decide, by decide⟩,
   ⟨{ ready with thm := { ready.thm with sdColdA := true, relColdA := some 0 } }, .a, 0, by decide, by decide,
      by decide, by decide, by decide⟩,
   ⟨{ ready with thm := { ready.thm with sdHotA := true, relHotA := some 0 } }, .a, 0, by decide, by decide, by
      decide, by decide, by decide⟩,
   ⟨{ ready with thm := { ready.thm with sdHotA := true, readyA := true } }, .a, ⟨by decide, by decide⟩, by
      decide, by decide, by decide⟩,
   ⟨ready, .a, ⟨by decide, by decide⟩, by decide⟩,
   ⟨ready, .spline, .a, by decide, by decide⟩,
   ⟨ready, ⟨by decide, by decide⟩⟩,
   ⟨{ ready with thm := { ready.thm with tillDue := [{}] } }, {}, [], by decide, by decide⟩⟩

theorem test_heater_control_hypotheses :
    (∃ (s : State) (n : Fin 12) (ns : List (Fin 12)), s.heRuns = true ∧ s.thm.heatDue ≠ [] ∧ s.mnt.heatTest =
      none ∧ s.heatersDue = n :: ns ∧ (∀ t0, s.thm.heatLast = some t0 → t0 + 100 * msNs ≤ s.clock)) ∧
    (∃ (s : State) (n : Fin 12) (ns : List (Fin 12)) (t0 : Nat), s.heRuns = true ∧ s.thm.heatDue ≠ [] ∧
      s.mnt.heatTest = none ∧ s.heatersDue = n :: ns ∧ s.thm.heatLast = some t0 ∧ s.clock < t0 + 100 * msNs) ∧
    (∃ (s : State) (p : Requester) (n : Fin 12) (action : Nat), Granted s p .operate 0x000B0074 ∧ s.lswClass n =
      3 ∧ action < 3 ∧ s.locks.getLsbD 6 = false) ∧
    (∃ (s : State) (p : Requester) (n : Fin 12) (action : Nat), Granted s p .operate 0x000B0074 ∧ s.lswClass n =
      3 ∧ action < 3 ∧ s.locks.getLsbD 6 = false ∧ s.heRuns = false) ∧
    (∃ (s : State) (p : Requester) (ch : Nat) (action : Nat), Granted s p .operate 0x000B0074 ∧
      (ch = 0 ∨ 12 < ch)) ∧
    (∃ (s : State) (n : Fin 12) (f : Bool) (t0 : Nat), s.heRuns = true ∧ s.thm.heatForce[n] = some (f, t0) ∧ t0
      ≤ s.clock) :=
  ⟨⟨{ ready with thm := { ready.thm with heatDue := [2], heatAuto := ready.thm.heatAuto.set 2 true } }, 2, [],
      by decide, by decide, by decide, by decide, (fun _ q => by cases q)⟩,
   ⟨{ ready with
        thm := { ready.thm with
            heatDue := [2],
            heatAuto := ready.thm.heatAuto.set 2 true,
            heatLast := some 9999999999999 } }, 2, [], 9999999999999, by decide, by decide, by decide, by
      decide, by decide, by decide⟩,
   ⟨ready, .spline, 2, 2, ⟨by decide, by decide⟩, by decide, by decide, by decide⟩,
   ⟨{ ready with eng := { ready.eng with state := ready.eng.state.set 6 .restarting } }, .spline, 2, 2, ⟨by
      decide, by decide⟩, by decide, by decide, by decide, by decide⟩,
   ⟨ready, .spline, 13, 0, ⟨by decide, by decide⟩, by decide⟩,
   ⟨{ ready with thm := { ready.thm with heatForce := ready.thm.heatForce.set 2 (some (true, 0)) } }, 2, true,
      0, by decide, by decide, by decide⟩⟩

end Sys2Proof.Tests
end

section
/-! SUPPORT. The statements about the scope of the model: every command answers a next state (O6), and what a register
read answers, latches and clears (O44, O45). -/

namespace Sys2Proof.Machine

/-! ### Every command answers a next state -/

/-- No command stops, whatever the state. -/
theorem exec_next (c : Instr) (s : State) : ∃ t, exec c s = .next t := by
  cases c with
  | powerOnResetRelease vsys vbak roleSel senseSrc bypClosed =>
    exact execPowerOnResetRelease_next vsys vbak roleSel senseSrc bypClosed s
  | bootSlotVerifyComplete => exact execBootSlotVerifyComplete_next s
  | ringReady => exact execRingReady_next s
  | memberBTokenWaitExpiry => exact execMemberBTokenWaitExpiry_next s
  | vsysPlinthSample vsys => exact execVsysPlinthSample_next vsys s
  | stage4HandoffTimeout => exact execStage4HandoffTimeout_next s
  | stageRestore => exact execStageRestore_next s
  | stage1ChannelRestore => exact execStage1ChannelRestore_next s
  | resetComparatorTrip => exact execResetComparatorTrip_next s
  | vbakOutOfRange vbak => exact execVbakOutOfRange_next vbak s
  | vauxLowDetect vaux => exact execVauxLowDetect_next vaux s
  | vauxLowClear vaux => exact execVauxLowClear_next vaux s
  | resetNLow => exact execResetNLow_next s
  | pwrCmdRun p => exact execPwrCmdRun_next p s
  | pwrCmdWarm p => exact execPwrCmdWarm_next p s
  | pwrCmdCold p => exact execPwrCmdCold_next p s
  | pwrCmdHibernate p => exact execPwrCmdHibernate_next p s
  | hibernateEnter => exact execHibernateEnter_next s
  | pwrCmdClearVbak p => exact execPwrCmdClearVbak_next p s
  | hibWakeTimerExpiry => exact execHibWakeTimerExpiry_next s
  | hibCciWake c => exact execHibCciWake_next c s
  | lbusWake frame => exact execLbusWake_next frame s
  | engineWatchdogExpiry e stray => exact execEngineWatchdogExpiry_next e stray s
  | engineRestartComplete e => exact execEngineRestartComplete_next e s
  | warmResetResume => exact execWarmResetResume_next s
  | clampHoldTimeout => exact execClampHoldTimeout_next s
  | clampHoldStage3End => exact execClampHoldStage3End_next s
  | lockstepMismatch se => exact execLockstepMismatch_next se s
  | eccUncorrectable mem addr reader n => exact execEccUncorrectable_next mem addr reader n s
  | sramScrubStep r => exact execSramScrubStep_next r s
  | plinthFreqMeasure hz => exact execPlinthFreqMeasure_next hz s
  | imgCmdStageBegin p len => exact execImgCmdStageBegin_next p len s
  | imgCmdStageEnd p => exact execImgCmdStageEnd_next p s
  | imgCmdDryfit p => exact execImgCmdDryfit_next p s
  | imgCmdAbort p => exact execImgCmdAbort_next p s
  | stagingChunk port b => exact execStagingChunk_next port b s
  | dryfitComplete => exact execDryfitComplete_next s
  | glueUpSwitch => exact execGlueUpSwitch_next s
  | glueRestartComplete => exact execGlueRestartComplete_next s
  | splBlockLock port locked => exact execSplBlockLock_next port locked s
  | splPortUp port => exact execSplPortUp_next port s
  | splPortDown port cause => exact execSplPortDown_next port cause s
  | helloRx port x => exact execHelloRx_next port x s
  | shimPingTimer => exact execShimPingTimer_next s
  | shimPingRx port x turnaround => exact execShimPingRx_next port x turnaround s
  | shimEchoRx port x roundTrip => exact execShimEchoRx_next port x roundTrip s
  | urgentArmBlock port x => exact execUrgentArmBlock_next port x s
  | urgentBypassAll port x => exact execUrgentBypassAll_next port x s
  | urgentResume port x => exact execUrgentResume_next port x s
  | frameForward port b residence cut => exact execFrameForward_next port b residence cut s
  | portReadmit port => exact execPortReadmit_next port s
  | armCycleRx port b => exact execArmCycleRx_next port b s
  | cellStatusRx port b => exact execCellStatusRx_next port b s
  | armSummaryRx port b => exact execArmSummaryRx_next port b s
  | regReqRx port b => exact execRegReqRx_next port b s
  | regOpExecute => exact execRegOpExecute_next s
  | ownFrameFreeze slot cycle complete => exact execOwnFrameFreeze_next slot cycle complete s
  | ownFrameLaunch port => exact execOwnFrameLaunch_next port s
  | holdoverEntry cause => exact execHoldoverEntry_next cause s
  | holdoverExpiry => exact execHoldoverExpiry_next s
  | refFrameCommit => exact execRefFrameCommit_next s
  | cycleBoundary => exact execCycleBoundary_next s
  | pwmCommit leg => exact execPwmCommit_next leg s
  | pwmReplaceCommit leg => exact execPwmReplaceCommit_next leg s
  | pulseUnitStart leg => exact execPulseUnitStart_next leg s
  | pulseReload leg => exact execPulseReload_next leg s
  | glStatusFrameRx link bits check => exact execGlStatusFrameRx_next link bits check s
  | glStatusLost link => exact execGlStatusLost_next link s
  | peAssessment vCap iTerm => exact execPeAssessment_next vCap iTerm s
  | fireDelayExpiry => exact execFireDelayExpiry_next s
  | bypStatClosed => exact execBypStatClosed_next s
  | bypCloseTimeout => exact execBypCloseTimeout_next s
  | offStateDiagStart => exact execOffStateDiagStart_next s
  | offStateDiagComplete => exact execOffStateDiagComplete_next s
  | legRetestComplete => exact execLegRetestComplete_next s
  | takeHoldTimeout => exact execTakeHoldTimeout_next s
  | glkJigGo p sw => exact execGlkJigGo_next p sw s
  | jigPulseEnd => exact execJigPulseEnd_next s
  | comparatorCrossing n input lasted => exact execComparatorCrossing_next n input lasted s
  | comparatorReturn n input => exact execComparatorReturn_next n input s
  | tripInAssert => exact execTripInAssert_next s
  | tripInCountWaitExpiry => exact execTripInCountWaitExpiry_next s
  | tripOutRelease => exact execTripOutRelease_next s
  | reactionAutoRelease e => exact execReactionAutoRelease_next e s
  | measLostOpenExpiry c => exact execMeasLostOpenExpiry_next c s
  | prtClearEntry p e => exact execPrtClearEntry_next p e s
  | prtClearAll p => exact execPrtClearAll_next p s
  | prtBypassReq p value => exact execPrtBypassReq_next p value s
  | heartbeatSend => exact execHeartbeatSend_next s
  | heartbeatRx x => exact execHeartbeatRx_next x s
  | heartbeatTimeout => exact execHeartbeatTimeout_next s
  | stateMirrorSend => exact execStateMirrorSend_next s
  | stateMirrorRx m => exact execStateMirrorRx_next m s
  | dvtCmdHandover p => exact execDvtCmdHandover_next p s
  | tokenGiveRx gen tH => exact execTokenGiveRx_next gen tH s
  | tokenAckRx gen => exact execTokenAckRx_next gen s
  | handoverSwitch => exact execHandoverSwitch_next s
  | handoverAckTimeout => exact execHandoverAckTimeout_next s
  | dvtLinkDown => exact execDvtLinkDown_next s
  | dvtLinkUp => exact execDvtLinkUp_next s
  | currentLoopTick c iv vCap vCh => exact execCurrentLoopTick_next c iv vCap vCh s
  | trimPeriodStaircase c => exact execTrimPeriodStaircase_next c s
  | sampleStrobe c iv vCap vCh run hib shunt => exact execSampleStrobe_next c iv vCap vCh run hib shunt s
  | overBudgetTick c mean => exact execOverBudgetTick_next c mean s
  | chaCmdConnect p c => exact execChaCmdConnect_next p c s
  | chaCmdRun p c => exact execChaCmdRun_next p c s
  | chaCmdBlock p c => exact execChaCmdBlock_next p c s
  | chaCmdDisconnect p c => exact execChaCmdDisconnect_next p c s
  | connectStepTimer c => exact execConnectStepTimer_next c s
  | prechargeTargetReached c => exact execPrechargeTargetReached_next c s
  | prechargeTimeout c => exact execPrechargeTimeout_next c s
  | prechargeCooldownEnd c => exact execPrechargeCooldownEnd_next c s
  | zeroingComplete c => exact execZeroingComplete_next c s
  | protectiveZeroBlock c => exact execProtectiveZeroBlock_next c s
  | openingStepTimer c => exact execOpeningStepTimer_next c s
  | forcedOpen c => exact execForcedOpen_next c s
  | chaParkGo p c m => exact execChaParkGo_next p c m s
  | parkExecute c m => exact execParkExecute_next c m s
  | chaClearUnpark p c m => exact execChaClearUnpark_next p c m s
  | chaClearWeld p c => exact execChaClearWeld_next p c s
  | learnHalfPeriod c => exact execLearnHalfPeriod_next c s
  | snaCmdWake p c => exact execSnaCmdWake_next p c s
  | snaCmdSleep p c => exact execSnaCmdSleep_next p c s
  | enumStart c => exact execEnumStart_next c s
  | enumReturn c b => exact execEnumReturn_next c b s
  | enumerationComplete c => exact execEnumerationComplete_next c s
  | strobeLaunch c res => exact execStrobeLaunch_next c res s
  | sampleRx c b => exact execSampleRx_next c b s
  | srsRx c b => exact execSrsRx_next c b s
  | pongRx c b roundTrip => exact execPongRx_next c b roundTrip s
  | pingTimer c => exact execPingTimer_next c s
  | sampleSetComplete c => exact execSampleSetComplete_next c s
  | owTestTimer c => exact execOwTestTimer_next c s
  | sentinelSilent c m => exact execSentinelSilent_next c m s
  | lostModulePoll c m => exact execLostModulePoll_next c m s
  | bswTestIssue c m cell => exact execBswTestIssue_next c m cell s
  | eeMillisecondCount c => exact execEeMillisecondCount_next c s
  | anchorTimerExpiry c m k full => exact execAnchorTimerExpiry_next c m k full s
  | limitsPublish => exact execLimitsPublish_next s
  | limitsStale c => exact execLimitsStale_next c s
  | balanceTick c => exact execBalanceTick_next c s
  | ocvRestExpiry c m k => exact execOcvRestExpiry_next c m k s
  | checkpointTimer => exact execCheckpointTimer_next s
  | countPeriodTimer => exact execCountPeriodTimer_next s
  | recordWriteStart kind => exact execRecordWriteStart_next kind s
  | estCmdCheckpoint p => exact execEstCmdCheckpoint_next p s
  | estCmdResetModule p c m => exact execEstCmdResetModule_next p c m s
  | vnrCtrlPreset p c => exact execVnrCtrlPreset_next p c s
  | scanStep inputs => exact execScanStep_next inputs s
  | sensorReturn c m t => exact execSensorReturn_next c m t s
  | coldShutdownEnd c => exact execColdShutdownEnd_next c s
  | hotReleaseReady c => exact execHotReleaseReady_next c s
  | heaterStagger => exact execHeaterStagger_next s
  | thmHeatCmd p ch action => exact execThmHeatCmd_next p ch action s
  | heatOverrideExpiry ch => exact execHeatOverrideExpiry_next ch s
  | thmClearRelease p c => exact execThmClearRelease_next p c s
  | thmClearErase p => exact execThmClearErase_next p s
  | tillRecordWrite => exact execTillRecordWrite_next s
  | lswCmd p ch action => exact execLswCmd_next p ch action s
  | lswClear p mask => exact execLswClear_next p mask s
  | lswSenseSelect p code => exact execLswSenseSelect_next p code s
  | currentLimitReached ch current => exact execCurrentLimitReached_next ch current s
  | limitTimeExpiry ch => exact execLimitTimeExpiry_next ch s
  | junctionOvertemp ch tj => exact execJunctionOvertemp_next ch tj s
  | inrushWindowEnd ch => exact execInrushWindowEnd_next ch s
  | retryPauseEnd ch => exact execRetryPauseEnd_next ch s
  | retryCountReset ch => exact execRetryCountReset_next ch s
  | clusterSensorSample cl temp tjs is => exact execClusterSensorSample_next cl temp tjs is s
  | coilShedDelayExpiry ch => exact execCoilShedDelayExpiry_next ch s
  | clusterRestoreStagger cl => exact execClusterRestoreStagger_next cl s
  | econPullEnd ch => exact execEconPullEnd_next ch s
  | openLoadOnDetect ch => exact execOpenLoadOnDetect_next ch s
  | offStateLoadTest ch vout => exact execOffStateLoadTest_next ch vout s
  | lbusTxGo p b => exact execLbusTxGo_next p b s
  | lbusTxCancel p mask => exact execLbusTxCancel_next p mask s
  | canTxComplete b delay => exact execCanTxComplete_next b delay s
  | canTxAttemptFail b why => exact execCanTxAttemptFail_next b why s
  | canFrameRx f => exact execCanFrameRx_next f s
  | lbusServiceRequest => exact execLbusServiceRequest_next s
  | lbusRxAck p e => exact execLbusRxAck_next p e s
  | lbusStatusPeriod => exact execLbusStatusPeriod_next s
  | lbusBusOff => exact execLbusBusOff_next s
  | busoffHoldExpiry => exact execBusoffHoldExpiry_next s
  | busOffRecovered => exact execBusOffRecovered_next s
  | lbusCmdRecover p => exact execLbusCmdRecover_next p s
  | secCmdAttest p => exact execSecCmdAttest_next p s
  | attestSigned => exact execAttestSigned_next s
  | secCmdStepField p => exact execSecCmdStepField_next p s
  | secCounterWrite => exact execSecCounterWrite_next s
  | enrolmentObject object => exact execEnrolmentObject_next object s
  | svcRegReq seq ops => exact execSvcRegReq_next seq ops s
  | svcBulk seq stream off data => exact execSvcBulk_next seq stream off data s
  | svcFrameGapTimeout => exact execSvcFrameGapTimeout_next s
  | svcFrameCrcFail seq => exact execSvcFrameCrcFail_next seq s
  | jtagTapReset => exact execJtagTapReset_next s
  | jtagInstruction iv => exact execJtagInstruction_next iv s
  | mntStartLearn p c m => exact execMntStartLearn_next p c m s
  | mntStartSentUpdate p c m => exact execMntStartSentUpdate_next p c m s
  | mntStartGateTest p c m => exact execMntStartGateTest_next p c m s
  | mntStartJig p c m => exact execMntStartJig_next p c m s
  | mntStartPrecharge p c m => exact execMntStartPrecharge_next p c m s
  | mntStartContTest p c m => exact execMntStartContTest_next p c m s
  | mntStartHeaterTest p c m => exact execMntStartHeaterTest_next p c m s
  | mntStartRecordExport p c m => exact execMntStartRecordExport_next p c m s
  | mntStop p slot => exact execMntStop_next p slot s
  | actTimeoutExpiry slot => exact execActTimeoutExpiry_next slot s
  | activityComplete slot => exact execActivityComplete_next slot s
  | eventLogCopy => exact execEventLogCopy_next s
  | evtSelWrite p seq => exact execEvtSelWrite_next p seq s
  | readLowWordLatch p addr => exact execReadLowWordLatch_next p addr s
  | rcRead p addr => exact execRcRead_next p addr s
  | registerWrite p addr value => exact execRegisterWrite_next p addr value s
  | tripInRelease => exact execTripInRelease_next s
  | pulseCompareEdge leg => exact execPulseCompareEdge_next leg s
  | kerfTurnOn leg => exact execKerfTurnOn_next leg s
  | testWindowExpiry => exact execTestWindowExpiry_next s
  | nvmWriteComplete => exact execNvmWriteComplete_next s
  | stageEraseComplete => exact execStageEraseComplete_next s
  | lbusRxError dominant => exact execLbusRxError_next dominant s
  | lbusBusIdle => exact execLbusBusIdle_next s
  | heaterTestChannelEnd => exact execHeaterTestChannelEnd_next s
  | senseSelPinChange code => exact execSenseSelPinChange_next code s

/-- No command may change the part number, the clock or the queue. -/
theorem execMask_spares (c : Instr) : (execMask c).testBit Block.part.idx = false ∧
    (execMask c).testBit Block.clock.idx = false ∧ (execMask c).testBit Block.pending.idx = false := by
  cases c <;> rw [execMask] <;> decide

/-- A block that the mask of a command does not name is the same after the command. -/
theorem same_of_exec {c : Instr} {s t : State} (h : exec c s = .next t) {b : Block}
    (hb : (execMask c).testBit b.idx = false) : b.same s t := by
  have hd := exec_drop c s
  rw [h, resState_next] at hd
  exact same_of_drop hd b hb

/-- Settles O6: each command has its next state, and no mask names the three parts that stay. -/
theorem everyCommandCompletes : Obligations.EveryCommandCompletes := by
  intro c s
  obtain ⟨t, ht⟩ := exec_next c s
  obtain ⟨hpart, hclock, hpending⟩ := execMask_spares c
  exact ⟨t, ht, same_of_exec ht hpart, same_of_exec ht hclock, same_of_exec ht hpending⟩

/-! ### The checks of a read (R362) -/

section
variable {s : State} {p : Requester} {addr v : Word}

theorem regRead_misaligned (ha : addr.toNat % 4 ≠ 0) : regRead s p addr = (s, 7, 0) := by
  simp only [regRead, ne_eq, ha, not_false_eq_true, if_true]

theorem regRead_absent (ha : addr.toNat % 4 = 0) (hv : readReg s p addr = none) : regRead s p addr = (s, 3, 0) := by
  simp only [regRead, ne_eq, ha, not_true_eq_false, if_false, hv]

theorem regRead_denied (ha : addr.toNat % 4 = 0) (hv : readReg s p addr = some v)
    (hr : s.right p .read addr = false) : regRead s p addr = (deny s p .read addr, 2, 0) := by
  simp only [regRead, ne_eq, ha, not_true_eq_false, if_false, hv, hr, Bool.false_eq_true]

/-- A read that passes all checks. -/
theorem regRead_passed (ha : addr.toNat % 4 = 0) (hv : readReg s p addr = some v)
    (hr : s.right p .read addr = true) :
    regRead s p addr = ((readValue s p addr v).1, 0, (readValue s p addr v).2) := by
  simp only [regRead, ne_eq, ha, not_true_eq_false, if_false, hv, hr, if_true]

theorem readValue_low (hl : isLowWord addr = true) :
    readValue s p addr v = (setShadow s p (addr + 4) (readReg s p (addr + 4)), v) := by
  simp only [readValue, hl, if_true]

theorem readValue_high {h : Word} (hl : isLowWord addr = false) (hh : s.latched p addr = some h) :
    readValue s p addr v = (setShadow s p addr none, h) := by
  simp only [readValue, hl, Bool.false_eq_true, if_false, hh]

theorem readValue_plain (hl : isLowWord addr = false) (hn : s.latched p addr = none) :
    readValue s p addr v = (clearRead s addr, v) := by
  simp only [readValue, hl, Bool.false_eq_true, if_false, hn]

/-- What a denial counts (R350). -/
theorem deny_counted (c : OpClass) :
    (deny s p c addr).sec.denied = bump 16 s.sec.denied ∧ (deny s p c addr).sec.deniedAddr = addr := by
  unfold deny
  extract_lets now quiet counted
  have hc : counted.sec.denied = bump 16 s.sec.denied ∧ counted.sec.deniedAddr = addr := ⟨rfl, rfl⟩
  clear_value counted quiet
  cases quiet with
  | true => exact hc
  | false => rwa [cond_false, logEvent_sec]

/-- Clearing leaves what every requester has latched. -/
theorem clearRead_req : (clearRead s addr).req = s.req :=
  same_of_drop (clearRead_drop (fm := 11539570824) s addr rfl) .req rfl

theorem clearRead_outbox : (clearRead s addr).outbox = s.outbox :=
  same_of_drop (clearRead_drop (fm := 11539570824) s addr rfl) .outbox rfl

/-! ### Completions of a read, for both commands that read -/

variable {c : Instr} {bs : List Block} {post : State → Prop} {x : State}

/-- A read of an open port completes with the state and the answer that `regRead` gives. -/
theorem completes_read {code : Nat} {w : Word} (hc : exec c s = .next (readCmd s p addr))
    (hp : s.portOpen p = true) (hr : regRead s p addr = (x, code, w)) (hpost : post (send x (.value p code w)))
    (hd : x.drop (blockMask bs) = s.drop (blockMask bs)) (ho : blockMask bs &&& 137438953472 = 137438953472) :
    Completes c s bs post := by
  refine completes_of (hc.trans ?_) hpost ((send_drop x _ ho).trans hd) (Nat.and_self _)
  simp only [readCmd, hp, if_true, hr]

theorem completes_read_misaligned (hc : exec c s = .next (readCmd s p addr)) (hp : s.portOpen p = true)
    (ha : addr.toNat % 4 ≠ 0) : Completes c s [.outbox] fun t => t.outbox = .value p 7 0 :: s.outbox :=
  completes_read hc hp (regRead_misaligned ha) rfl rfl rfl

theorem completes_read_absent (hc : exec c s = .next (readCmd s p addr)) (hp : s.portOpen p = true)
    (ha : addr.toNat % 4 = 0) (hv : readReg s p addr = none) :
    Completes c s [.outbox] fun t => t.outbox = .value p 3 0 :: s.outbox :=
  completes_read hc hp (regRead_absent ha hv) rfl rfl rfl

theorem completes_read_denied (hc : exec c s = .next (readCmd s p addr)) (hp : s.portOpen p = true)
    (ha : addr.toNat % 4 = 0) (hv : readReg s p addr = some v) (hr : s.right p .read addr = false) :
    Completes c s [.sec, .evt, .outbox] fun t =>
      t.sec.denied = bump 16 s.sec.denied ∧ t.sec.deniedAddr = addr ∧ t.outbox.head? = some (.value p 2 0) := by
  obtain ⟨hcount, haddr⟩ := deny_counted (s := s) (p := p) (addr := addr) .read
  exact completes_read hc hp (regRead_denied ha hv hr) ⟨hcount, haddr, rfl⟩ (deny_drop s p .read addr rfl) rfl

/-- A read with the right completes with what `readValue` leaves and answers. -/
theorem completes_read_passed {w : Word} (hc : exec c s = .next (readCmd s p addr)) (hp : s.portOpen p = true)
    (ha : addr.toNat % 4 = 0) (hv : readReg s p addr = some v) (hr : s.right p .read addr = true)
    (hx : readValue s p addr v = (x, w)) (hpost : post (send x (.value p 0 w)))
    (hd : x.drop (blockMask bs) = s.drop (blockMask bs)) (ho : blockMask bs &&& 137438953472 = 137438953472) :
    Completes c s bs post :=
  completes_read hc hp ((regRead_passed ha hv hr).trans (by rw [hx])) hpost hd ho

end

/-! ### Registers with RC fields (R8) -/

theorem clearRead_armCnt (s : State) : clearRead s 0x00030030 =
    s.onArm fun a => { a with cntMissed := 0, cntLate := 0, cntSubst := 0, cntMismatch := 0 } := rfl

theorem clearRead_chaCnt (s : State) : clearRead s 0x00060080 =
    s.onChA fun h => { h with cntLate := 0, cntReject := 0, cntLost := 0, cntRefused := 0 } := rfl

theorem clearRead_snbCnt (s : State) : clearRead s 0x00090008 =
    s.onSnB fun x => { x with cntCrc := 0, cntLostCmd := 0, cntDup := 0, cntMissed := 0 } := rfl

theorem clearRead_prtCnt (s : State) : clearRead s 0x000C001C =
    s.onPrt fun x => { x with cntHw := 0, cntPe := 0, cntEsc := 0, cntTripIn := 0 } := rfl

theorem clearRead_lswCnt (s : State) : clearRead s 0x000D0030 =
    s.onLsw fun l => { l with cntFailed := 0, cntLatches := 0, cntSheds := 0, cntClamps := 0 } := rfl

/-- An RC_READ with the right, of a register that is no low word and has no latch: its value, and the cleared state. -/
theorem rcRead_clears {s x : State} {p : Requester} {addr v : Word} {bs : List Block} {post : State → Prop}
    (hp : s.portOpen p = true) (hr : s.right p .read addr = true) (hv : readReg s p addr = some v)
    (hn : s.latched p addr = none) (ha : addr.toNat % 4 = 0) (hl : isLowWord addr = false)
    (hx : clearRead s addr = x) (hpost : post (send x (.value p 0 v)))
    (hd : x.drop (blockMask bs) = s.drop (blockMask bs)) (ho : blockMask bs &&& 137438953472 = 137438953472) :
    Completes (.rcRead p addr) s bs post :=
  completes_read_passed rfl hp ha hv hr ((readValue_plain hl hn).trans (by rw [hx])) hpost hd ho

/-- Settles O44: the checks in their order for both commands, then the five registers with RC fields. -/
theorem registerReadsAndClears : Obligations.RegisterReadsAndClears := by
  refine ⟨fun s p addr hp ha => completes_read_misaligned rfl hp ha,
    fun s p addr hp ha hv => completes_read_absent rfl hp ha hv,
    fun s p addr v hp ha hv hr => completes_read_denied rfl hp ha hv hr,
    fun s p addr hp ha => completes_read_misaligned rfl hp ha,
    fun s p addr hp ha hv => completes_read_absent rfl hp ha hv,
    fun s p addr v hp ha hv hr => completes_read_denied rfl hp ha hv hr, ?_, ?_, ?_, ?_, ?_⟩
  all_goals intro s p v hp hr hv hn
  · exact rcRead_clears hp hr hv hn rfl rfl (clearRead_armCnt s) ⟨rfl, rfl⟩
      (State.onArm_drop rfl (.inr fun _ => rfl) (.inr fun _ => rfl) (.inr fun _ => rfl) (.inr fun _ => rfl)) rfl
  · exact rcRead_clears hp hr hv hn rfl rfl (clearRead_chaCnt s) ⟨rfl, rfl⟩ (State.onChA_drop rfl) rfl
  · exact rcRead_clears hp hr hv hn rfl rfl (clearRead_snbCnt s) ⟨rfl, rfl⟩ (State.onSnB_drop rfl) rfl
  · exact rcRead_clears hp hr hv hn rfl rfl (clearRead_prtCnt s) ⟨rfl, rfl⟩
      (State.onPrt_drop rfl (.inr fun _ => rfl) (.inr fun _ => rfl)) rfl
  · exact rcRead_clears hp hr hv hn rfl rfl (clearRead_lswCnt s) ⟨rfl, rfl⟩ (State.onLsw_drop rfl) rfl

/-- Settles O45: the three outcomes of `readValue`, and what `setShadow` and `clearRead` leave latched. -/
theorem sixtyFourBitReads : Obligations.SixtyFourBitReads := by
  refine ⟨?_, ?_, ?_⟩
  · intro s p addr v hp hr ha hv hl
    exact completes_read_passed rfl hp ha hv hr (readValue_low hl) ⟨rfl, setShadow_latched s p (addr + 4) _⟩
      (setShadow_drop s p _ _ rfl) rfl
  · intro s p addr v hp hr ha hv hl h hh
    exact completes_read_passed rfl hp ha hv hr (readValue_high hl hh) ⟨rfl, setShadow_latched s p addr none⟩
      (setShadow_drop s p _ _ rfl) rfl
  · intro s p addr v hp hr ha hv hl hn
    exact completes_read_passed rfl hp ha hv hr (readValue_plain hl hn)
      ⟨congrArg (List.cons _) clearRead_outbox, congrArg Req.shadow clearRead_req⟩
      (clearRead_drop s addr rfl) rfl

end Sys2Proof.Machine
end

section
/-! SUPPORT. The converter cell: which commands may change its state, its bypass mark and the token (O7), the heartbeats,
the link and the mirror of a pair (O25), and start-up with the first claim of the token (O56). -/

namespace Sys2Proof.Machine

/-! ### Who changes the cell (R15, R17, R21, R284) -/

/-- Settles O7: a command outside a list has a mask that does not name the part. -/
theorem whoChangesTheCell : Obligations.WhoChangesTheCell := by
  refine ⟨fun c s t h => ?_, fun c s t h => ?_, fun c s t h => ?_⟩
  · cases c with
    | powerOnResetRelease | ringReady | resetComparatorTrip | vbakOutOfRange | resetNLow | pwrCmdCold
    | hibWakeTimerExpiry | hibCciWake | lbusWake | engineWatchdogExpiry | lockstepMismatch | eccUncorrectable
    | glueUpSwitch | regOpExecute | cycleBoundary | lbusServiceRequest | enrolmentObject | svcRegReq
    | registerWrite => trivial
    | _ => exact same_of_exec h (by dsimp only [execMask]; rfl)
  · cases c with
    | powerOnResetRelease | ringReady | vsysPlinthSample | stage4HandoffTimeout | resetComparatorTrip
    | vbakOutOfRange | resetNLow | pwrCmdCold | hibWakeTimerExpiry | hibCciWake | lbusWake
    | engineWatchdogExpiry | lockstepMismatch | eccUncorrectable | glueUpSwitch | regOpExecute | cycleBoundary
    | peAssessment | offStateDiagComplete | legRetestComplete | prtBypassReq | stateMirrorRx | openingStepTimer
    | lbusServiceRequest | enrolmentObject | svcRegReq | registerWrite => trivial
    | _ => exact same_of_exec h (by dsimp only [execMask]; rfl)
  · cases c with
    | powerOnResetRelease | ringReady | memberBTokenWaitExpiry | resetComparatorTrip | vbakOutOfRange
    | resetNLow | pwrCmdWarm | pwrCmdCold | hibWakeTimerExpiry | hibCciWake | lbusWake | engineWatchdogExpiry
    | warmResetResume | lockstepMismatch | eccUncorrectable | glueUpSwitch | regOpExecute | cycleBoundary
    | glStatusFrameRx | heartbeatRx | heartbeatTimeout | handoverSwitch | lbusServiceRequest | enrolmentObject
    | svcRegReq | registerWrite => trivial
    | _ => exact same_of_exec h (by dsimp only [execMask]; rfl)

/-! ### Completions -/

/-- A completion whose frame is the mask of the command. -/
theorem completes_exec {c : Instr} {s t : State} {bs : List Block} {post : State → Prop} (h : exec c s = .next t)
    (hpost : post t) (hb : execMask c &&& blockMask bs = execMask c) : Completes c s bs post :=
  completes_by h hpost (exec_drop c s) hb

/-- A completion whose frame is narrower than the mask of the command. -/
theorem completes_within {c : Instr} {s t : State} {bs : List Block} {post : State → Prop} (h : exec c s = .next t)
    (hpost : post t) (hd : t.drop (blockMask bs) = s.drop (blockMask bs)) : Completes c s bs post :=
  completes_of h hpost hd (Nat.and_self _)

/-! ### The heartbeat as an ordered set (R281) -/

/-- The four flags of D1 read back. -/
theorem beatFlags_read (a b c d : Bool) :
    (BitVec.ofNat 8 (a.toNat + 2 * b.toNat + 4 * c.toNat + 8 * d.toNat)).getLsbD 0 = a ∧
    (BitVec.ofNat 8 (a.toNat + 2 * b.toNat + 4 * c.toNat + 8 * d.toNat)).getLsbD 1 = b ∧
    (BitVec.ofNat 8 (a.toNat + 2 * b.toNat + 4 * c.toNat + 8 * d.toNat)).getLsbD 2 = c ∧
    (BitVec.ofNat 8 (a.toNat + 2 * b.toNat + 4 * c.toNat + 8 * d.toNat)).getLsbD 3 = d := by
  revert a b c d
  decide

/-- A heartbeat whose generation fits its 16 bits is received as it was sent. -/
theorem beatOf_beatSet {h : Heartbeat} (hg : h.gen < 65536) : beatOf (beatSet h) = some h := by
  obtain ⟨healthy, owner, give, gen, member⟩ := h
  have hok : setOk (beatSet ⟨healthy, owner, give, gen, member⟩) = true := beq_self_eq_true _
  obtain ⟨h0, h1, h2, h3⟩ := beatFlags_read healthy owner give member
  have hgen : (BitVec.ofNat 8 gen).toNat + 256 * (BitVec.ofNat 8 (gen / 256)).toNat = gen := by
    simp only [BitVec.toNat_ofNat]
    dsimp only at hg
    omega
  rw [beatOf, if_pos hok]
  simp only [beatSet, orderedSet, h0, h1, h2, h3, hgen]

/-! ### Heartbeats sent and received (R16, R281, R283, R285) -/

section
variable {s : State} {x : OrdSet} {h : Heartbeat}

theorem exec_heartbeatSend_beating (hb : s.dvt.beating = true) (hs : s.simplex = false) :
    exec .heartbeatSend s = .next (send s (.heartbeat
      (beatSet ⟨s.dvt.healthy, s.arm.owner, s.giving, s.dvt.gen, s.dev.member⟩))) := by
  simp only [exec, execHeartbeatSend, hb, hs, Bool.not_false, Bool.and_self, if_true]

theorem exec_heartbeatRx_bad (hx : beatOf x = none) : exec (.heartbeatRx x) s = .next s := by
  simp only [exec, execHeartbeatRx, hx, ite_self]

theorem exec_heartbeatRx_valid (hx : beatOf x = some h) (hs : s.simplex = false) (hu : s.dvt.up = true)
    (hc : s.arm.roleClash = false) (hi : s.img.active.isSome = true) :
    exec (.heartbeatRx x) s = .next (takeBeat s h) := by
  have hn : s.img.active.isNone = false := by rw [← Option.not_isSome, hi]; rfl
  simp only [exec, execHeartbeatRx, hx, hs, hu, hc, hn, Bool.not_true, Bool.or_self, Bool.false_eq_true, if_false]

/-- More than 2 µs have passed since the last heartbeat (R281). -/
def State.beatLate (s : State) : Bool :=
  match s.dvt.lastBeat with
  | none => false
  | some t0 => decide (t0 + 2 * usNs < s.clock)

/-- What a heartbeat leaves in the dovetail registers, whichever end commands then. -/
theorem recordBeat_dvt (s : State) (h : Heartbeat) : (recordBeat s h).dvt = { s.dvt with
    lastBeat := some s.clock
    cntGaps := if s.beatLate then bump 8 s.dvt.cntGaps else s.dvt.cntGaps
    partnerHealthy := h.healthy
    partnerOwner := h.owner
    partnerGen := h.gen
    partnerGive := h.give
    waitTake := if s.dev.member && !h.member then none else s.dvt.waitTake
    gen := if h.owner && !s.arm.owner then h.gen else s.dvt.gen } := by
  unfold recordBeat
  dsimp only
  rw [State.onDvt_dvt, apply_ite State.dvt, commandFrom_dvt, ite_self]
  rfl

theorem recordBeat_clock (s : State) (h : Heartbeat) : (recordBeat s h).clock = s.clock :=
  same_of_drop (recordBeat_drop (fm := 34340864) s h rfl) .clock rfl

theorem onDvt_sen (s : State) (f : Dvt → Dvt) (c : ChainId) : (s.onDvt f).sen c = s.sen c := sen_of rfl rfl c

/-- A member without the token that hears the owner has its chains commanded from the other end (R180). -/
theorem recordBeat_sen_owner (ho : s.arm.owner = false) (hh : h.owner = true) {c : ChainId} (hc : c ∈ s.chains) :
    ((recordBeat s h).sen c).cmdTail = !s.ownEnd := by
  unfold recordBeat
  dsimp only
  rw [onDvt_sen, if_pos (by rw [hh, ho]; rfl), commandFrom, forChains_sen _ _ _ hc]

theorem recordBeat_sen_tracking (hh : h.owner = false) (c : ChainId) : (recordBeat s h).sen c = s.sen c := by
  unfold recordBeat
  dsimp only
  rw [onDvt_sen, if_neg (by rw [hh]; exact Bool.false_ne_true)]

/-! The outcomes of a valid heartbeat. -/

theorem takeBeat_tracking (hm : h.member ≠ s.dev.member) (ho : s.arm.owner = false)
    (hh : h.healthy = true ∨ h.owner = false) : takeBeat s h = recordBeat s h := by
  have hsound : (!h.healthy && h.owner) = false := by
    rcases hh with hh | hh <;> rw [hh]
    · rfl
    · exact Bool.and_false _
  simp only [takeBeat, beq_eq_false_iff_ne.2 hm, ho, hsound, Bool.false_and, Bool.false_eq_true, if_false]

theorem takeBeat_clash (hm : h.member = s.dev.member) : takeBeat s h = enterClash (recordBeat s h) := by
  simp only [takeBeat, hm, beq_self_eq_true, if_true]

theorem takeBeat_yields (hm : h.member ≠ s.dev.member) (ho : s.arm.owner = true) (hh : h.owner = true)
    (hg : s.dvt.gen < h.gen ∨ (h.gen = s.dvt.gen ∧ s.dev.member = true)) : takeBeat s h =
    logEvent ((dropToken (recordBeat s h) .tracking).onDvt fun d => { d with gen := h.gen, unhealthyAt := none }) 0xD007
      s.dvt.gen h.gen := by
  have hk : s.keepsToken h = false := by
    rcases hg with hg | ⟨hg, hmem⟩
    · simp [State.keepsToken, hg.ne', hg.le]
    · simp [State.keepsToken, hg, hmem]
  simp only [takeBeat, beq_eq_false_iff_ne.2 hm, ho, hh, hk, Bool.and_self, Bool.false_eq_true, if_false, if_true]

theorem takeBeat_keeps (hm : h.member ≠ s.dev.member) (ho : s.arm.owner = true) (hh : h.owner = true)
    (hp : s.dvt.partnerOwner = false) (hg : h.gen < s.dvt.gen ∨ (h.gen = s.dvt.gen ∧ s.dev.member = false)) :
    takeBeat s h = logEvent (recordBeat s h) 0xD007 s.dvt.gen h.gen := by
  have hk : s.keepsToken h = true := by
    rcases hg with hg | ⟨hg, hmem⟩
    · simp [State.keepsToken, hg]
    · simp [State.keepsToken, hg, hmem]
  simp only [takeBeat, beq_eq_false_iff_ne.2 hm, ho, hh, hk, hp, Bool.and_self, Bool.false_eq_true, if_false, if_true]

/-! What these outcomes leave. -/

/-- Every link carries the word of the state (Table 06.6). -/
def State.wordsFollow (s : State) : Prop := ∀ i : Fin 4, s.glk.links[i].word = s.word i

/-- A change of dovetail registers other than HEALTHY moves no word. -/
theorem onDvt_wordsFollow {f : Dvt → Dvt} (hs : s.wordsFollow) (hf : ∀ d, (f d).healthy = d.healthy) :
    (s.onDvt f).wordsFollow :=
  follow_of hs rfl rfl rfl rfl (hf _) rfl rfl rfl rfl rfl

theorem logEvent_wordsFollow (hs : s.wordsFollow) (a b c d : Nat) : (logEvent s a b c d).wordsFollow :=
  logEvent_follow a b c d hs

/-- Both legs of a member in a role clash are in HIGH_Z with cause 8, and it has no token (R16). -/
theorem enterClash_effect (s : State) : (enterClash s).arm.roleClash = true ∧ (enterClash s).arm.owner = false ∧
    (enterClash s).dvt.st = .clash ∧ (∀ l : Leg, ((enterClash s).leg l).st = .hiZ ∧ ((enterClash s).leg l).cause = 8) ∧
    (enterClash s).wordsFollow := by
  unfold enterClash
  dsimp only
  generalize cancelTest _ = u
  refine ⟨?_, ?_, ?_, fun l => ?_, ?_⟩
  · rw [logEvent_arm, refreshLoads_arm, refreshBridge_arm]; rfl
  · rw [logEvent_arm, refreshLoads_arm, refreshBridge_arm]; rfl
  · rw [logEvent_dvt, refreshLoads_dvt, refreshBridge_dvt]; rfl
  · rw [logEvent_leg, leg_eq (congrArg Glk.legA (refreshLoads_glk _)) (congrArg Glk.legB (refreshLoads_glk _)),
      refreshBridge_leg]
    cases l <;> exact ⟨rfl, rfl⟩
  · exact logEvent_wordsFollow (refreshLoads_follow (refreshBridge_word _)) _ _ _ _

/-- A takeover ends with the words of the new owner on the links. -/
theorem takeOver_wordsFollow (s : State) (cause : Nat) : (takeOver s cause).wordsFollow := by
  obtain ⟨-, -, hwords⟩ := assumeToken_effect s (s.dvt.gen + 1)
  unfold takeOver
  refine logEvent_wordsFollow (onDvt_wordsFollow hwords ?_) _ _ _ _
  exact fun _ => rfl

/-! ### Silence of the partner (R283) -/

theorem exec_heartbeatTimeout_takes {t0 : Nat} (hs : s.simplex = false) (ho : s.arm.owner = false)
    (hb : s.dvt.lastBeat = some t0) (ht : t0 + 5 * usNs < s.clock) (hr : s.restartSilence = false)
    (hst : s.dvt.st = .tracking) (hh : s.dvt.healthy = true) (hc : s.arm.roleClash = false)
    (hp : s.dev.phase = .ready) (hw : s.dvt.waitTake = none) :
    exec .heartbeatTimeout s = .next (takeOver s 0) := by
  have hmay : s.mayTake = true := by simp [State.mayTake, hs, ho, hh, hc, hp, hst, hw]
  simp [exec, execHeartbeatTimeout, hs, ho, hb, ht, hr, hst, hmay]

/-! ### The dovetail link (R281, R285) -/

theorem exec_dvtLinkDown_up (hs : s.simplex = false) (hu : s.dvt.up = true) : exec .dvtLinkDown s =
    .next (logEvent (s.onDvt fun d => { d with up := false, partnerOwner := false }) 0xD005 0) := by
  simp only [exec, execDvtLinkDown, hs, hu, Bool.not_true, Bool.or_self, Bool.false_eq_true, if_false]

theorem exec_dvtLinkUp_down (hs : s.simplex = false) (hu : s.dvt.up = false) (hr : s.ringRuns = true)
    (hi : s.img.active.isSome = true) : exec .dvtLinkUp s = .next (logEvent (s.onDvt fun d =>
      { d with up := true, st := if d.st == .linkDown then .tracking else d.st }) 0xD005 1) := by
  have hn : s.img.active.isNone = false := by rw [← Option.not_isSome, hi]; rfl
  simp only [exec, execDvtLinkUp, hs, hu, hr, hn, Bool.not_true, Bool.or_self, Bool.false_eq_true, if_false]

/-! ### The state mirror (R175, R280, R281) -/

/-- A member that beats empties what its mirror has carried. -/
def mirrorSent (s : State) : State :=
  (s.forChains fun t c => t.onSen c fun x => { x with newSets := [] }).onPrt fun p =>
    { p with firedOut := [], bypReqFwd := false }

theorem exec_stateMirrorSend_up (hb : s.dvt.beating = true) (hs : s.simplex = false) (hu : s.dvt.up = true) :
    exec .stateMirrorSend s = .next (send (mirrorSent s) (.mirror s.mirrorNow)) := by
  simp only [exec, execStateMirrorSend, hb, hs, hu, Bool.not_false, Bool.and_self, if_true]
  rfl

theorem mirrorSent_effect (s : State) : (mirrorSent s).prt = { s.prt with firedOut := [], bypReqFwd := false } ∧
    (mirrorSent s).outbox = s.outbox ∧ ∀ c ∈ s.chains, ((mirrorSent s).sen c).newSets = [] := by
  refine ⟨?_, ?_, fun c hc => ?_⟩
  · rw [mirrorSent, State.onPrt_prt, forChains_keep State.prt fun t c => by cases c <;> rfl]
  · rw [mirrorSent, State.onPrt_outbox, forChains_keep State.outbox fun t c => by cases c <;> rfl]
  · rw [mirrorSent, sen_of (State.onPrt_snA _ _) (State.onPrt_snB _ _), forChains_sen _ _ _ hc]

/-- The tracking member as it stands before it asks whether it may acknowledge a hand-over. -/
def mirrorFollowed (s : State) (m : Mirror) : State :=
  chainFromMirror (chainFromMirror ((followBypass (legsFromMirror (s.onDvt fun d => { d with mirror := some m }) m) m).onMnt
    fun t => { t with mirrored := m.acts }) .a m) .b m

theorem exec_stateMirrorRx_failed (hs : s.simplex = false) (hu : s.dvt.up = true) (hf : s.feRuns = true) :
    exec (.stateMirrorRx none) s = .next (s.onDvt fun d => { d with cntCrc := bump 8 d.cntCrc }) := by
  simp only [exec, execStateMirrorRx, hs, hu, hf, Bool.not_true, Bool.or_self, Bool.false_eq_true, if_false]

theorem exec_stateMirrorRx_tracking {m : Mirror} (hs : s.simplex = false) (hu : s.dvt.up = true) (hf : s.feRuns = true)
    (ho : s.arm.owner = false) (hc : s.arm.roleClash = false) (hb : s.arm.bypassed = false) :
    exec (.stateMirrorRx (some m)) s = .next (tryAck (refreshBridge (mirrorFollowed s m))) := by
  simp only [exec, execStateMirrorRx, hs, hu, hf, ho, hc, hb, Bool.not_true, Bool.or_self, Bool.false_eq_true, if_false]
  rfl

theorem exec_stateMirrorRx_bypass {m : Mirror} (hs : s.simplex = false) (hu : s.dvt.up = true) (hf : s.feRuns = true)
    (ho : s.arm.owner = true) (hm : m.bypassReq = true) : exec (.stateMirrorRx (some m)) s =
    .next (decideBypass (raiseEvent (countPartners (s.onDvt fun d => { d with mirror := some m }) m.fired) 0x28) 0x28
      none) := by
  simp only [exec, execStateMirrorRx, hs, hu, hf, ho, hm, Bool.not_true, Bool.or_self, Bool.false_eq_true, if_false, if_true]

/-- A chain that follows the mirror moves nothing of the bridge, the dovetail and the activities. -/
theorem chainFromMirror_keep (s : State) (c : ChainId) (m : Mirror) : (chainFromMirror s c m).glk = s.glk ∧
    (chainFromMirror s c m).dvt = s.dvt ∧ (chainFromMirror s c m).mnt = s.mnt := by
  have hd := chainFromMirror_drop (fm := 983040) s c m rfl
  exact ⟨same_of_drop hd .glk rfl, same_of_drop hd .dvt rfl, same_of_drop hd .mnt rfl⟩

theorem mirrorFollowed_effect (s : State) (m : Mirror) :
    (mirrorFollowed s m).leg .a = { s.leg .a with st := m.legA, cause := m.causeA } ∧
    (mirrorFollowed s m).leg .b = { s.leg .b with st := m.legB, cause := m.causeB } ∧
    (mirrorFollowed s m).glk.bInvert = m.bInvert ∧ (mirrorFollowed s m).mnt = { s.mnt with mirrored := m.acts } ∧
    (mirrorFollowed s m).dvt.mirror = some m := by
  unfold mirrorFollowed
  obtain ⟨hleg, hinv, hmnt, hdvt⟩ := followBypass_keep (legsFromMirror (s.onDvt fun d => { d with mirror := some m }) m) m
  generalize followBypass _ m = u at *
  obtain ⟨hglkA, hdvtA, hmntA⟩ := chainFromMirror_keep (u.onMnt fun t => { t with mirrored := m.acts }) .a m
  generalize chainFromMirror _ .a m = v at *
  obtain ⟨hglkB, hdvtB, hmntB⟩ := chainFromMirror_keep v .b m
  have hglk := hglkB.trans hglkA
  refine ⟨?_, ?_, ?_, ?_, ?_⟩
  · exact (leg_eq (congrArg Glk.legA hglk) (congrArg Glk.legB hglk) .a).trans (hleg .a)
  · exact (leg_eq (congrArg Glk.legA hglk) (congrArg Glk.legB hglk) .b).trans (hleg .b)
  · exact (congrArg Glk.bInvert hglk).trans hinv
  · rw [hmntB, hmntA, State.onMnt_mnt, hmnt, legsFromMirror_mnt, State.onDvt_mnt]
  · rw [hdvtB, hdvtA, State.onMnt_dvt, hdvt, legsFromMirror_dvt, State.onDvt_dvt]

theorem tryAck_mirror (s : State) : (tryAck s).dvt.mirror = s.dvt.mirror := by
  unfold tryAck
  split
  · rfl
  · split <;> rfl

end

/-- Settles O25: the outcomes of a heartbeat by who holds the token, the takeover, the link, and the mirror on both
members. -/
theorem heartbeatsAndMirror : Obligations.HeartbeatsAndMirror := by
  refine ⟨?_, ?_, ?_, ?_, ?_, fun h hg => beatOf_beatSet hg, ?_, ?_, ?_, ?_, ?_, ?_, ?_, ?_⟩
  · -- HEARTBEAT_SEND
    intro s hb hs
    exact completes_exec (exec_heartbeatSend_beating hb hs) rfl rfl
  · -- HEARTBEAT_RX on a tracking member
    intro s x h hx hs hu hc hi hm ho hh
    have ht := exec_heartbeatRx_valid hx hs hu hc hi
    rw [takeBeat_tracking hm ho hh] at ht
    exact completes_within ht ⟨recordBeat_dvt s h, fun hown c hc => recordBeat_sen_owner ho hown hc,
      recordBeat_sen_tracking⟩ (recordBeat_drop s h rfl)
  · -- HEARTBEAT_RX of the own role
    intro s x h hx hs hu hc hi hm
    have ht := exec_heartbeatRx_valid hx hs hu hc hi
    rw [takeBeat_clash hm] at ht
    exact completes_exec ht (enterClash_effect _) (by dsimp only [execMask]; rfl)
  · -- HEARTBEAT_RX at the owner that yields
    intro s x h hx hs hu hc hi hm ho hh hg
    have ht := exec_heartbeatRx_valid hx hs hu hc hi
    rw [takeBeat_yields hm ho hh hg] at ht
    obtain ⟨harm, hdvt, hwords⟩ := dropToken_effect (recordBeat s h) .tracking
    refine completes_exec ht ⟨?_, ?_, ?_, ?_, ?_⟩ (by dsimp only [execMask]; rfl)
    · rw [logEvent_arm, State.onDvt_arm, harm, recordBeat_arm]
    · rw [logEvent_dvt, State.onDvt_dvt, hdvt]
    · rw [logEvent_dvt, State.onDvt_dvt]
    · rw [logEvent_dvt, State.onDvt_dvt, hdvt]
    · refine logEvent_wordsFollow (onDvt_wordsFollow hwords ?_) _ _ _ _
      exact fun _ => rfl
  · -- HEARTBEAT_RX at the owner that keeps the token
    intro s x h hx hs hu hc hi hm ho hh hp hg
    have ht := exec_heartbeatRx_valid hx hs hu hc hi
    rw [takeBeat_keeps hm ho hh hp hg] at ht
    have hgen : (recordBeat s h).dvt.gen = s.dvt.gen := by
      rw [recordBeat_dvt, hh, ho]
      rfl
    refine completes_within ht ⟨?_, ?_, ?_, ?_⟩ ((logEvent_drop _ _ _ _ _ rfl).trans (recordBeat_drop s h rfl))
    · rw [logEvent_dvt, recordBeat_dvt]
    · rw [logEvent_dvt, hgen]
    · rw [logEvent_dvt, recordBeat_dvt]
    · exact logged_of (recordBeat_evt s h) (recordBeat_pwr s h) (recordBeat_tim s h) (recordBeat_clock s h) _ _ _ _
  · -- HEARTBEAT_RX of a failing set
    intro s x hx
    exact completes_within (exec_heartbeatRx_bad hx) rfl rfl
  · -- HEARTBEAT_TIMEOUT
    intro s t0 hs ho hb ht hr hst hh hc hp hw
    obtain ⟨harm, hdvt⟩ := takeOver_effect s 0
    refine completes_exec (exec_heartbeatTimeout_takes hs ho hb ht hr hst hh hc hp hw)
      ⟨harm, ?_, ?_, ?_, takeOver_wordsFollow s 0⟩ rfl
    all_goals rw [hdvt]
  · -- DVT_LINK_DOWN
    intro s hs hu
    exact completes_exec (exec_dvtLinkDown_up hs hu) ⟨logEvent_dvt _ _ _ _ _, logged_of rfl rfl rfl rfl _ _ _ _⟩ rfl
  · -- DVT_LINK_UP
    intro s hs hu hr hi
    refine completes_exec (exec_dvtLinkUp_down hs hu hr hi) ⟨?_, logged_of rfl rfl rfl rfl _ _ _ _⟩ rfl
    rw [logEvent_dvt, State.onDvt_dvt]
    simp only [beq_iff_eq]
  · -- STATE_MIRROR_SEND
    intro s hb hs hu
    obtain ⟨hprt, hout, hsen⟩ := mirrorSent_effect s
    exact completes_exec (exec_stateMirrorSend_up hb hs hu)
      ⟨hprt, congrArg (List.cons _) hout, fun c hc => (congrArg Sen.newSets (send_sen _ _ c)).trans (hsen c hc)⟩ rfl
  · -- STATE_MIRROR_RX of a failing mirror
    intro s hs hu hf
    exact completes_within (exec_stateMirrorRx_failed hs hu hf) rfl (State.onDvt_drop rfl)
  · -- STATE_MIRROR_RX on the tracking member
    intro s m hs hu hf ho hc hb
    obtain ⟨hlegA, hlegB, hinv, hmnt, hmir⟩ := mirrorFollowed_effect s m
    have hglk := tryAck_glk (refreshBridge (mirrorFollowed s m))
    have hleg (l : Leg) : (tryAck (refreshBridge (mirrorFollowed s m))).leg l = (mirrorFollowed s m).leg l :=
      (leg_eq (congrArg Glk.legA hglk) (congrArg Glk.legB hglk) l).trans (refreshBridge_leg _ l)
    refine completes_exec (exec_stateMirrorRx_tracking hs hu hf ho hc hb) ⟨?_, ?_, ?_, ?_, ?_⟩
      (by dsimp only [execMask]; rfl)
    · rw [hleg, hlegA]
    · rw [hleg, hlegB]
    · rw [hglk, refreshBridge_glk_bInvert, hinv]
    · rw [tryAck_mnt, refreshBridge_mnt, hmnt]
    · rw [tryAck_mirror, refreshBridge_dvt, hmir]
  · -- STATE_MIRROR_RX of a bypass request
    intro s m hs hu hf ho hm
    exact completes_exec (exec_stateMirrorRx_bypass hs hu hf ho hm) (decideBypass_bypassed _ _ _)
      (by dsimp only [execMask]; rfl)

/-! ### Start-up (R15, R21, R60, R61) -/

section
variable {s : State}

/-- Without a record write that a reset has found in progress there is nothing to finish. -/
theorem finishWrite_of_idle (h : s.est.writing = none) : finishWrite s = s := by
  simp only [finishWrite, h]

theorem exec_boot_active (hp : s.dev.phase = .booting) (hw : s.est.writing = none)
    (hc : bootCheck s s.img.activeSlot = none) :
    exec .bootSlotVerifyComplete s = .next (bootSlot s s.img.activeSlot) := by
  simp only [exec, execBootSlotVerifyComplete, hp, finishWrite_of_idle hw, hc]

theorem exec_boot_other {v : Verdict} (hp : s.dev.phase = .booting) (hw : s.est.writing = none)
    (hc : bootCheck s s.img.activeSlot = some v) (ho : bootCheck s (!s.img.activeSlot) = none) :
    exec .bootSlotVerifyComplete s = .next (bootSlot (logEvent s 0xB00B v.code) (!s.img.activeSlot)) := by
  simp only [exec, execBootSlotVerifyComplete, hp, finishWrite_of_idle hw, hc, ho, Option.isNone_none, if_true]

theorem exec_boot_none {v w : Verdict} (hp : s.dev.phase = .booting) (hw : s.est.writing = none)
    (hc : bootCheck s s.img.activeSlot = some v) (ho : bootCheck s (!s.img.activeSlot) = some w) :
    exec .bootSlotVerifyComplete s = .next (bootNone (logEvent s 0xB00B v.code)) := by
  simp only [exec, execBootSlotVerifyComplete, hp, finishWrite_of_idle hw, hc, ho, Option.isNone_some,
    Bool.false_eq_true, if_false]

/-- The device at ring-ready, before the bypass is read and the token claimed. -/
def ringEntered (s : State) : State :=
  (s.onDev fun d => { d with phase := .ready, extestSeen := true }).onSpl fun x => { x with ringReady := true }

/-- The device at ring-ready once the token is claimed (R15). -/
def ringClaimed (s : State) : State := claimToken ((readBypass (ringEntered s)).forChains lateDrain)

/-- What follows the claim of the token moves loads, words and sentinels alone. -/
theorem exec_ringReady_started (h : s.ringStarted = true) : ∃ t, exec .ringReady s = .next t ∧
    t.dev = (ringClaimed s).dev ∧ t.spl = (ringClaimed s).spl ∧ t.arm = (ringClaimed s).arm := by
  have keep {β : Type} (g : State → β) (hg : ∀ t n, g (setWant t n true) = g t) (l : List (Fin 12)) (x : State) :
      g (l.foldl (fun t n => setWant t n true) x) = g x := foldl_keep g hg l x
  simp only [exec, execRingReady, h, if_true]
  refine ⟨_, rfl, ?_, ?_, ?_⟩
  · simp only [refreshLoads_dev, refreshBridge_dev, wakeChains_dev, logWide_dev]
    exact keep State.dev (fun t n => setWant_dev t n true) _ _
  · simp only [refreshLoads_spl, refreshBridge_spl, wakeChains_spl, logWide_spl]
    exact keep State.spl (fun t n => setWant_spl t n true) _ _
  · simp only [refreshLoads_arm, refreshBridge_arm, wakeChains_arm, logWide_arm]
    exact keep State.arm (fun t n => setWant_arm t n true) _ _

/-- The charges that an epoch change has left to the Spline time leave the arm and the image as they were. -/
theorem forChains_lateDrain_arm (x : State) : (x.forChains lateDrain).arm = x.arm :=
  forChains_keep State.arm lateDrain_arm x

theorem forChains_lateDrain_img (x : State) : (x.forChains lateDrain).img = x.img :=
  forChains_keep State.img lateDrain_img x

theorem ringClaimed_dev (s : State) : (ringClaimed s).dev = (ringEntered s).dev := by
  rw [ringClaimed, claimToken_dev, forChains_keep State.dev lateDrain_dev, readBypass_dev]

theorem ringClaimed_spl (s : State) : (ringClaimed s).spl = (ringEntered s).spl := by
  rw [ringClaimed, claimToken_spl, forChains_keep State.spl lateDrain_spl, readBypass_spl]

theorem readBypass_open_arm {x : State} (h : x.dev.bypStatLow = false) : (readBypass x).arm = x.arm := by
  simp only [readBypass, h, Bool.false_and, Bool.false_eq_true, if_false, State.onGlk_arm]

/-- Found open, the bypass stays as it was, and a simplex device takes the token at once. -/
theorem ringClaimed_simplex (hb : s.dev.bypStatLow = false) (hr : s.arm.roleClash = false) (hs : s.simplex = true) :
    (ringClaimed s).arm.owner = true ∧ (ringClaimed s).arm.bypassed = s.arm.bypassed := by
  have harm : ((readBypass (ringEntered s)).forChains lateDrain).arm = s.arm := by
    exact (forChains_lateDrain_arm _).trans (readBypass_open_arm hb)
  have himg : ((readBypass (ringEntered s)).forChains lateDrain).img = s.img := by
    rw [forChains_lateDrain_img, readBypass_img]
    rfl
  have hsimplex : ((readBypass (ringEntered s)).forChains lateDrain).simplex = true := by
    unfold State.simplex State.im
    rw [himg]
    exact hs
  refine ⟨claimToken_simplex (by rw [harm]; exact hr) hsimplex, ?_⟩
  rw [ringClaimed, claimToken_arm_bypassed, harm]

/-- Found closed, the bypass keeps the cell BYPASSED (R21). -/
theorem ringClaimed_closed (hb : s.dev.bypStatLow = true) (hc : s.chainPair = false) :
    (ringClaimed s).arm.bypassed = true ∧ (ringClaimed s).arm.cell = .bypassed := by
  rw [ringClaimed, claimToken_arm_bypassed, claimToken_arm_cell, forChains_lateDrain_arm]
  exact readBypass_closed hb hc

theorem takeFirst_effect (s : State) : (takeFirst s).arm.owner = true ∧ (takeFirst s).dvt =
    { s.dvt with st := (if s.simplex then .simplex else .owning), waitTake := none, moveTime := s.tim.time, yielded := false } := by
  unfold takeFirst State.simplex State.im
  simp

theorem exec_memberBTokenWaitExpiry_due {t0 : Nat} (hw : s.dvt.waitTake = some t0) (ht : t0 ≤ s.clock)
    (hm : s.dev.member = true) (hp : s.dev.phase = .ready) (ho : s.arm.owner = false) :
    exec .memberBTokenWaitExpiry s = .next (wakeChains (takeFirst s)) := by
  simp [exec, execMemberBTokenWaitExpiry, due, hw, ht, hm, hp, ho]

end

/-- Settles O56: the slot that boots by the two checks, the claim of the token at ring-ready, and member B's wait. -/
theorem startUpAndToken : Obligations.StartUpAndToken := by
  refine ⟨?_, ?_, ?_, ?_⟩
  · -- BOOT_SLOT_VERIFY_COMPLETE
    intro s hp hw
    cases hc : bootCheck s s.img.activeSlot with
    | none =>
      obtain ⟨hphase, himg, hboot, heng⟩ := bootSlot_effect s s.img.activeSlot
      rw [bne_self_eq_false] at himg
      exact completes_exec (exec_boot_active hp hw hc)
        ⟨hboot, fun _ => ⟨hphase, himg, heng⟩, fun h => absurd rfl h, fun h => absurd rfl h⟩ rfl
    | some v =>
      cases ho : bootCheck s (!s.img.activeSlot) with
      | none =>
        obtain ⟨hphase, himg, hboot, heng⟩ := bootSlot_effect (logEvent s 0xB00B v.code) (!s.img.activeSlot)
        rw [logEvent_img, Bool.not_bne_self] at himg
        exact completes_exec (exec_boot_other hp hw hc ho)
          ⟨hboot, nofun, fun _ _ => ⟨hphase, himg, heng⟩, fun _ h => absurd rfl h⟩ rfl
      | some w =>
        obtain ⟨hphase, himg, hboot, hdigest, hfw⟩ := bootNone_effect (logEvent s 0xB00B v.code)
        exact completes_exec (exec_boot_none hp hw hc ho)
          ⟨hboot, nofun, fun _ => nofun, fun _ _ => ⟨hphase, himg, hdigest, hfw⟩⟩ rfl
  · -- RING_READY, simplex
    intro s hr hb hclash hs
    obtain ⟨t, ht, hdev, hspl, harm⟩ := exec_ringReady_started hr
    obtain ⟨howner, hbyp⟩ := ringClaimed_simplex hb hclash hs
    exact completes_exec ht ⟨congrArg Dev.phase (hdev.trans (ringClaimed_dev s)),
      congrArg Spl.ringReady (hspl.trans (ringClaimed_spl s)), (congrArg Arm.owner harm).trans howner,
      (congrArg Arm.bypassed harm).trans hbyp⟩ rfl
  · -- RING_READY, bypass found closed
    intro s hr hb hc
    obtain ⟨t, ht, hdev, -, harm⟩ := exec_ringReady_started hr
    obtain ⟨hbyp, hcell⟩ := ringClaimed_closed hb hc
    exact completes_exec ht ⟨congrArg Dev.phase (hdev.trans (ringClaimed_dev s)),
      (congrArg Arm.bypassed harm).trans hbyp, (congrArg Arm.cell harm).trans hcell⟩ rfl
  · -- MEMBER_B_TOKEN_WAIT_EXPIRY
    intro s t0 hw ht hm hp ho
    obtain ⟨howner, hdvt⟩ := takeFirst_effect s
    refine completes_exec (exec_memberBTokenWaitExpiry_due hw ht hm hp ho) ⟨?_, ?_⟩ rfl
    · rw [wakeChains_arm, howner]
    · rw [wakeChains_dvt, hdvt]

end Sys2Proof.Machine
end

section
/-! SUPPORT. Inside the device: the image slots stay canonical (O10), the auxiliary supply, the engines and their
memories (O27), and the ports of the ring with their shims (O53). -/

namespace Sys2Proof.Machine

/-! ### The image slots stay canonical (R34, R48, R89, R343) -/

/-- A register operation of whatever kind, at whatever address, keeps the canonical form. -/
theorem regOperate_memOk (s : State) (p : Requester) (op : Nat) (addr v : Word) (w : s.memOk) :
    (regOperate s p op addr v).1.memOk :=
  regOperate_carried memOk_carried (fun p n t => opStageBegin_memOk p n t) opStepField_memOk s p op addr v w

theorem execImgCmdStageBegin_memOk (p : Requester) (len : Nat) (s : State) (w : s.memOk) :
    (resState (execImgCmdStageBegin p len s) s).memOk :=
  memOk_carried.regCmd (fun t => memOk_carried.withRight (opStageBegin_memOk p len) t p _ _ _) s p w

theorem execRegisterWrite_memOk (p : Requester) (addr v : Word) (s : State) (w : s.memOk) :
    (resState (execRegisterWrite p addr v s) s).memOk :=
  memOk_carried.regCmd
    (fun t => regWrite_carried memOk_carried (fun p n t => opStageBegin_memOk p n t) opStepField_memOk t p addr v) s p w

/-- Every command keeps the canonical form: one that may write a slot has its own lemma, and the mask of any other does
not name the slots. -/
theorem exec_memOk (c : Instr) (s : State) (w : s.memOk) : (resState (exec c s) s).memOk := by
  cases c with
  | bootSlotVerifyComplete => exact execBootSlotVerifyComplete_memOk s w
  | imgCmdStageBegin p len => exact execImgCmdStageBegin_memOk p len s w
  | stagingChunk port b => exact execStagingChunk_memOk port b s w
  | glueUpSwitch => exact execGlueUpSwitch_memOk s w
  | cycleBoundary => exact execCycleBoundary_memOk s w
  | regOpExecute => exact execRegOpExecute_carried memOk_carried regOperate_memOk s w
  | svcRegReq seq ops => exact execSvcRegReq_carried memOk_carried regOperate_memOk seq ops s w
  | lbusServiceRequest => exact execLbusServiceRequest_carried memOk_carried regOperate_memOk s w
  | svcBulk seq stream off data => exact execSvcBulk_memOk seq stream off data s w
  | enrolmentObject o => exact execEnrolmentObject_memOk o s w
  | registerWrite p addr v => exact execRegisterWrite_memOk p addr v s w
  | nvmWriteComplete => exact finishWrite_memOk s w
  | _ => exact memOk_same (same_of_drop (exec_drop _ s) .slots (by dsimp only [execMask]; rfl)) w

/-- Settles O10: an idle step leaves the slots, and a command keeps them canonical. -/
theorem imageSlotsStayCanonical : Obligations.ImageSlotsStayCanonical := by
  intro s t w h
  unfold step at h
  split at h
  next =>
    cases h
    exact w
  next c rest _ =>
    have ht : (resState (exec c (s.withPending rest)) (s.withPending rest)).memOk := exec_memOk c _ w
    rwa [h, resState_next] at ht

/-! ### The auxiliary supply (R326) -/

section
variable {s : State}

theorem exec_vauxLowDetect_low {v : Nat} (hl : s.pwr.vauxLow = false) (ho : s.outOfReset = true)
    (hv : v < s.im.vauxMin) : exec (.vauxLowDetect v) s = .next ((logEvent
      ((s.onPwr fun p => { p with vaux := some v }).onPwr fun p => { p with vauxLow := true }) 0x800A
        (v / 100)).forChains requestBlock) := by
  simp only [exec, execVauxLowDetect, hl, ho, Bool.not_true, Bool.or_self, Bool.false_or, decide_eq_true_eq,
    not_le.2 hv, if_false]

theorem exec_vauxLowDetect_noted {v : Nat} (h : s.pwr.vauxLow = true ∨ s.im.vauxMin ≤ v) :
    exec (.vauxLowDetect v) s = .next (s.onPwr fun p => { p with vaux := some v }) := by
  have hc : (s.pwr.vauxLow || !s.outOfReset || decide (s.im.vauxMin ≤ v)) = true := by
    rcases h with h | h <;> simp [h]
  simp only [exec, execVauxLowDetect, hc, if_true]

theorem exec_vauxLowClear_back {v : Nat} (hl : s.pwr.vauxLow = true) (hv : s.im.vauxMin + 1000 ≤ v) :
    exec (.vauxLowClear v) s = .next (refreshLoads (logEvent
      ((s.onPwr fun p => { p with vaux := some v }).onPwr fun p => { p with vauxLow := false }) 0x800A (v / 100))) := by
  simp only [exec, execVauxLowClear, hl, hv, decide_true, Bool.and_self, if_true]

/-! ### Watchdogs (R26, R28, R29) -/

/-- What an expiry does before its response: the count, the event, and HEALTHY cleared. -/
def expiryNoted (s : State) (e : EngineId) : State :=
  refreshBridge ((logEvent (s.onEng fun x => { x with restarts := x.restarts.set e.idx (bump 4 x.restarts[e.idx]) })
    0x8101 e.idx.val).onDvt fun d => { d with healthy := false })

theorem watchdogExpiry_eq (s : State) (e : EngineId) : watchdogExpiry s e = watchdogResponse (expiryNoted s e) e := rfl

theorem expiryNoted_eng (s : State) (e : EngineId) : (expiryNoted s e).eng =
    { s.eng with restarts := s.eng.restarts.set e.idx (bump 4 s.eng.restarts[e.idx]) } := by
  rw [expiryNoted, refreshBridge_eng, State.onDvt_eng, logEvent_eng, State.onEng_eng]

theorem expiryNoted_lastWarmWd (s : State) (e : EngineId) : (expiryNoted s e).eng.lastWarmWd = s.eng.lastWarmWd := by
  rw [expiryNoted_eng]

theorem expiryNoted_dvt (s : State) (e : EngineId) : (expiryNoted s e).dvt = { s.dvt with healthy := false } := by
  rw [expiryNoted, refreshBridge_dvt, State.onDvt_dvt, logEvent_dvt, State.onEng_dvt]

theorem expiryNoted_clock (s : State) (e : EngineId) : (expiryNoted s e).clock = s.clock := by
  rw [expiryNoted, refreshBridge_clock, State.onDvt_clock, logEvent_clock, State.onEng_clock]

theorem expiryNoted_drop (s : State) (e : EngineId) {m : Nat} (hglk : m &&& 8589967360 = 8589967360)
    (hdvt : m &&& 33554432 = 33554432) (hevt : m &&& 8589934592 = 8589934592) (heng : m &&& 8 = 8) :
    (expiryNoted s e).drop m = s.drop m :=
  calc (expiryNoted s e).drop m
      = (State.onDvt _ _).drop m := refreshBridge_drop _ hglk
    _ = (logEvent _ _ _ _ _).drop m := State.onDvt_drop hdvt
    _ = (State.onEng _ _).drop m := logEvent_drop _ _ _ _ _ hevt
    _ = s.drop m := State.onEng_drop heng

/-- A running engine expires, by its watchdog or by a write outside what it may write (R26). -/
theorem exec_engineWatchdogExpiry_runs {e : EngineId} {stray : Option Word}
    (hw : ∀ a, stray = some a → s.mayWrite e a.toNat = false) (hr : s.eng.state[e.idx] = .running) :
    exec (.engineWatchdogExpiry e stray) s = .next (watchdogExpiry s e) := by
  cases stray with
  | none => simp [exec, execEngineWatchdogExpiry, hr]
  | some a => simp [exec, execEngineWatchdogExpiry, hr, hw a rfl]

theorem exec_engineWatchdogExpiry_allowed {e : EngineId} {a : Word} (hw : s.mayWrite e a.toNat = true) :
    exec (.engineWatchdogExpiry e (some a)) s = .next s := by
  simp only [exec, execEngineWatchdogExpiry, hw, Bool.not_true, Bool.and_false, Bool.false_eq_true, if_false]

/-- EE or HE restarts alone, unless it has restarted in the last 60 s (Table 02.2). -/
theorem watchdogExpiry_alone {e : EngineId} (he : e = .ee ∨ e = .he) (hl : s.eng.lastRestart[e.idx] = none) :
    watchdogExpiry s e = (expiryNoted s e).onEng fun x => { x with
      state := x.state.set e.idx .restarting
      lastRestart := x.lastRestart.set e.idx (some s.clock)
      restartDue := x.restartDue.set e.idx (some s.clock) } := by
  have hn : (expiryNoted s e).eng.lastRestart[e.idx] = none := by rw [expiryNoted_eng]; exact hl
  rw [watchdogExpiry_eq]
  rcases he with rfl | rfl <;> simp only [watchdogResponse, hn, cond_false, expiryNoted_clock]

/-- The other engines of the list reset the device (Table 02.2). -/
theorem watchdogExpiry_resets {e : EngineId} (he : e = .me ∨ e = .cea ∨ e = .ceb ∨ e = .fe) :
    watchdogExpiry s e = warmOrCold (expiryNoted s e) 6 := by
  rcases he with rfl | rfl | rfl | rfl <;> rfl

theorem warmOrCold_first (h : s.eng.lastWarmWd = none) (cause : Nat) :
    warmOrCold s cause = (warmReset s cause).onEng fun e => { e with lastWarmWd := some s.clock } := by
  simp only [warmOrCold, h]

theorem warmOrCold_again {t0 : Nat} (h : s.eng.lastWarmWd = some t0) (ht : s.clock < t0 + 60 * secNs) (cause : Nat) :
    warmOrCold s cause = coldReset s 3 := by
  simp only [warmOrCold, h, ht, if_true]

/-! ### The end of a restart (R30) -/

/-- The engine runs again. -/
def engineRunning (s : State) (e : EngineId) : State :=
  s.onEng fun x => { x with state := x.state.set e.idx .running, restartDue := x.restartDue.set e.idx none }

/-- The last of EE and HE to resume has the waiting events taken; then the restart is logged. -/
def restartLogged (s : State) (e : EngineId) (us : Nat) : State :=
  logEvent (if (engineRunning s e).evtWaits then engineRunning s e else takeHwEvents (engineRunning s e)) 0x8102
    e.idx.val us

/-- HEALTHY returns with the engine. -/
def engineResumed (s : State) (e : EngineId) (us : Nat) : State :=
  refreshBridge ((restartLogged s e us).onDvt fun d => { d with healthy := d.beating && !s.pwr.s4 })

theorem exec_engineRestartComplete_restarting {e : EngineId} (hr : s.eng.state[e.idx] = .restarting) :
    ∃ us, exec (.engineRestartComplete e) s =
      .next (if e == .he then resumeLoads (engineResumed s e us) else engineResumed s e us) := by
  simp only [exec, execEngineRestartComplete, hr, beq_self_eq_true, if_true]
  exact ⟨_, rfl⟩

/-- Taking the waiting events moves the event block alone. -/
theorem restartLogged_keep (s : State) (e : EngineId) (us : Nat) :
    (restartLogged s e us).eng = (engineRunning s e).eng ∧ (restartLogged s e us).dvt = s.dvt ∧
    (restartLogged s e us).lsw = s.lsw := by
  rw [restartLogged, logEvent_eng, logEvent_dvt, logEvent_lsw]
  split
  · exact ⟨rfl, rfl, rfl⟩
  · exact ⟨takeHwEvents_eng _, takeHwEvents_dvt _, takeHwEvents_lsw _⟩

theorem engineResumed_effect (s : State) (e : EngineId) (us : Nat) :
    (engineResumed s e us).eng = (engineRunning s e).eng ∧
    (engineResumed s e us).dvt = { s.dvt with healthy := s.dvt.beating && !s.pwr.s4 } ∧
    (engineResumed s e us).lsw = s.lsw := by
  obtain ⟨heng, hdvt, hlsw⟩ := restartLogged_keep s e us
  rw [engineResumed, refreshBridge_eng, refreshBridge_dvt, refreshBridge_lsw, State.onDvt_eng, State.onDvt_dvt,
    State.onDvt_lsw, heng, hdvt, hlsw]
  exact ⟨rfl, rfl, rfl⟩

theorem resumeLoads_keep (s : State) : (resumeLoads s).eng = s.eng ∧ (resumeLoads s).dvt = s.dvt :=
  have hd := resumeLoads_drop (fm := 67108864) s rfl
  ⟨same_of_drop hd .eng rfl, same_of_drop hd .dvt rfl⟩

/-- With neither EE nor HE restarting any more, no event waits. -/
theorem engineResumed_hwQ {e : EngineId} (us : Nat) (hee : (s.eng.state.set e.idx .running)[3] ≠ .restarting)
    (hhe : (s.eng.state.set e.idx .running)[6] ≠ .restarting) : (engineResumed s e us).evt.hwQ = [] := by
  have hw : (engineRunning s e).evtWaits = false :=
    Bool.or_eq_false_iff.2 ⟨beq_eq_false_iff_ne.2 hee, beq_eq_false_iff_ne.2 hhe⟩
  rw [engineResumed, refreshBridge_hwQ, State.onDvt_evt, restartLogged, hw, logEvent_hwQ _ _ _ _ _ rfl]
  rfl

/-! ### Lock-step (R31) -/

theorem exec_lockstepMismatch_se (ho : s.outOfReset = true) (hs : s.eng.seLs = false) :
    exec (.lockstepMismatch true) s = .next (lockstepSe s) := by
  simp only [exec, execLockstepMismatch, ho, hs, Bool.not_true, Bool.false_eq_true, if_false, if_true]

theorem exec_lockstepMismatch_pe (ho : s.outOfReset = true) : exec (.lockstepMismatch false) s =
    .next (refreshBridge (lockstepPe (s.onDvt fun d => { d with healthy := false }))) := by
  simp only [exec, execLockstepMismatch, ho, Bool.not_true, Bool.false_eq_true, if_false]

theorem lockstepSe_eng (s : State) :
    (lockstepSe s).eng = { s.eng with seLs := true, state := s.eng.state.set EngineId.se.idx .halted } := by
  rw [lockstepSe, logEvent_eng, State.onEng_eng, raiseEvent_eng]

/-- Whichever way the bypass takes, a mismatch of PE ends in a cold reset of cause 4. -/
theorem lockstepPe_effect (s : State) : (lockstepPe s).eng.peLs = true ∧ (lockstepPe s).dev.phase = .booting ∧
    (lockstepPe s).pwr.rstCause = 4 := by
  refine ⟨rfl, ?_⟩
  unfold lockstepPe
  dsimp only
  rw [State.onEng_dev, State.onEng_pwr]
  split
  all_goals
    obtain ⟨hphase, hcause, -⟩ := coldReset_effect _ 4 _
    exact ⟨hphase, hcause⟩

/-! ### Memories (R32 to R35) -/

theorem nvmArea_slot {a : Word} (h : a.toNat < 0xC00000) : nvmArea a = if a.toNat < 0x600000 then 0 else 1 := by
  simp only [nvmArea, h, if_true]

/-- The slot of the address is marked (R35). -/
theorem exec_eccUncorrectable_slot {a : Word} {e : EngineId} (ho : s.outOfReset = true) (ha : a.toNat < 0xC00000) :
    exec (.eccUncorrectable .nvm a e 0) s = .next ((logEvent (setUe (s.onEng fun x => { x with eccAddr := a }) .nvm)
      0x8104 (if a.toNat < 0x600000 then 0 else 1)).onImg fun i =>
        if a.toNat < 0x600000 then { i with slotAErr := true } else { i with slotBErr := true }) := by
  simp only [exec, execEccUncorrectable, ho, nvmArea_slot ha, Bool.not_true, Bool.false_eq_true, if_false, ne_eq,
    not_true_eq_false]
  by_cases h : a.toNat < 0x600000
  · simp only [h, if_true]
  · simp only [h, if_false]

theorem exec_eccUncorrectable_corrected {mem : EccMem} {a : Word} {e : EngineId} {n : Nat} (ho : s.outOfReset = true)
    (hn : n ≠ 0) : exec (.eccUncorrectable mem a e n) s = .next (correctRead s mem a n) := by
  simp only [exec, execEccUncorrectable, ho, hn, Bool.not_true, Bool.false_eq_true, if_false, ne_eq,
    not_false_eq_true, if_true]

theorem exec_eccUncorrectable_reader {mem : EccMem} {a : Word} {e : EngineId} (ho : s.outOfReset = true)
    (hm : mem = .sram ∨ mem = .tcm) : exec (.eccUncorrectable mem a e 0) s = .next (watchdogExpiry
      (logEvent (setUe (s.onEng fun x => { x with eccAddr := a }) mem) 0x8103 e.idx.val) e) := by
  rcases hm with rfl | rfl <;>
    simp only [exec, execEccUncorrectable, ho, Bool.not_true, Bool.false_eq_true, if_false, ne_eq, not_true_eq_false]

/-- What the scrubber finds in its word (R33). -/
def scrubbed (s : State) : EccRead → State
  | .clean => s
  | .single => correctRead s .sram (BitVec.ofNat 32 (8 * s.eng.scrubPtr)) 1
  | .double => setUe (s.onEng fun e => { e with eccAddr := BitVec.ofNat 32 (8 * s.eng.scrubPtr) }) .sram

theorem exec_sramScrubStep_runs (ho : s.outOfReset = true) (r : EccRead) : exec (.sramScrubStep r) s =
    .next ((scrubbed s r).onEng fun e => { e with scrubPtr := (e.scrubPtr + 1) % 786432 }) := by
  cases r <;>
    simp only [exec, execSramScrubStep, scrubbed, ho, Bool.not_true, Bool.false_eq_true, if_false]

theorem exec_plinthFreqMeasure_runs {hz : Nat} (hr : s.eng.state[6] = .running) :
    exec (.plinthFreqMeasure hz) s = .next (s.onEng fun e => { e with plinthHz := some hz }) := by
  have hb : (s.eng.state[EngineId.he.idx] == EngRun.running) = true := beq_iff_eq.2 hr
  simp only [exec, execPlinthFreqMeasure, hb, if_true]

end

/-- Settles O27: the supply with its hysteresis, an expiry by what its engine makes of it, the end of a restart, the two
lock-step reactions, and the memories. -/
theorem enginesMemoriesAndVaux : Obligations.EnginesMemoriesAndVaux := by
  refine ⟨?_, ?_, ?_, ?_, ?_, ?_, ?_, ?_, ?_, ?_, ?_, ?_, ?_, ?_, ?_⟩
  · -- VAUX_LOW_DETECT
    intro s v hl ho hv
    refine completes_exec (exec_vauxLowDetect_low hl ho hv) ?_ (by dsimp only [execMask]; rfl)
    rw [forChains_keep State.pwr requestBlock_pwr, logEvent_pwr]
    rfl
  · -- VAUX_LOW_CLEAR
    intro s v hl hv
    refine completes_exec (exec_vauxLowClear_back hl hv) ⟨?_, ?_⟩ (by dsimp only [execMask]; rfl)
    · rw [refreshLoads_pwr, logEvent_pwr]
      rfl
    · rw [Logged, refreshLoads_evt]
      refine logEvent_cong rfl ?_ rfl _ _ _ _
      unfold eventTime
      rfl
  · -- VAUX_LOW_DETECT without effect on the flag
    intro s v h
    exact completes_within (exec_vauxLowDetect_noted h) rfl
      (State.onPwr_drop rfl (.inr fun _ => rfl) (.inr fun _ => rfl) (.inr fun _ => rfl) (.inr fun _ => rfl))
  · -- ENGINE_WATCHDOG_EXPIRY of EE or HE
    intro s e stray hw he hr hl
    have ht := exec_engineWatchdogExpiry_runs hw hr
    rw [watchdogExpiry_alone he hl] at ht
    refine completes_within ht ⟨?_, ?_, ?_, ?_, expiryNoted_dvt s e⟩
      ((State.onEng_drop rfl).trans (expiryNoted_drop s e rfl rfl rfl rfl))
    all_goals
      rw [State.onEng_eng, expiryNoted_eng]
      exact Vector.getElem_set_self _
  · -- ENGINE_WATCHDOG_EXPIRY that resets warm
    intro s e stray hw he hr hl
    have ht := exec_engineWatchdogExpiry_runs hw hr
    rw [watchdogExpiry_resets he, warmOrCold_first ((expiryNoted_lastWarmWd s e).trans hl), expiryNoted_clock] at ht
    obtain ⟨hcause, -⟩ := warmReset_pwr (expiryNoted s e) 6
    refine completes_exec ht ⟨?_, ?_, ?_⟩ (by dsimp only [execMask]; rfl)
    · rw [State.onEng_dev, warmReset_phase]
    · rw [State.onEng_pwr, hcause]
    · rw [State.onEng_eng]
  · -- ENGINE_WATCHDOG_EXPIRY that resets cold
    intro s e stray t0 hw he hr hl hc
    have ht := exec_engineWatchdogExpiry_runs hw hr
    rw [watchdogExpiry_resets he, warmOrCold_again ((expiryNoted_lastWarmWd s e).trans hl)
      ((expiryNoted_clock s e).trans_lt hc)] at ht
    obtain ⟨hphase, hcause, hkind, -⟩ := coldReset_effect (expiryNoted s e) 3 false
    exact completes_exec ht ⟨hphase, hcause, hkind⟩ (by dsimp only [execMask]; rfl)
  · -- ENGINE_WATCHDOG_EXPIRY for an allowed write
    intro s e a hw
    exact completes_within (exec_engineWatchdogExpiry_allowed hw) rfl rfl
  · -- ENGINE_RESTART_COMPLETE
    intro s e hr
    obtain ⟨us, ht⟩ := exec_engineRestartComplete_restarting hr
    obtain ⟨heng, hdvt, hlsw⟩ := engineResumed_effect s e us
    by_cases he : e = .he
    · rw [if_pos (beq_iff_eq.2 he)] at ht
      obtain ⟨heng', hdvt'⟩ := resumeLoads_keep (engineResumed s e us)
      exact completes_exec ht ⟨heng'.trans heng, hdvt'.trans hdvt, absurd he, absurd he⟩
        (by dsimp only [execMask]; rfl)
    · rw [if_neg (mt beq_iff_eq.1 he)] at ht
      exact completes_exec ht ⟨heng, hdvt, fun _ => hlsw, fun _ => engineResumed_hwQ us⟩ (by dsimp only [execMask]; rfl)
  · -- LOCKSTEP_MISMATCH of SE
    intro s ho hs
    refine completes_within (exec_lockstepMismatch_se ho hs) ?_ (lockstepSe_drop s rfl)
    rw [lockstepSe_eng]
    exact ⟨rfl, Vector.getElem_set_self _⟩
  · -- LOCKSTEP_MISMATCH of PE
    intro s ho
    refine completes_exec (exec_lockstepMismatch_pe ho) ?_ rfl
    rw [refreshBridge_eng, refreshBridge_dev, refreshBridge_pwr]
    exact lockstepPe_effect _
  · -- ECC_UNCORRECTABLE in an image slot
    intro s a e ho ha
    have hlog : (logEvent (setUe (s.onEng fun x => { x with eccAddr := a }) .nvm) 0x8104
        (if a.toNat < 0x600000 then 0 else 1)).evt = (logEvent s 0x8104 (if a.toNat < 0x600000 then 0 else 1)).evt :=
      logged_of rfl rfl rfl rfl _ _ _ _
    refine completes_within (exec_eccUncorrectable_slot ho ha) ⟨rfl, rfl, hlog⟩ ?_
    refine (State.onImg_drop rfl (.inr fun _ => ?_) (.inr fun _ => ?_) (.inr fun _ => ?_)).trans
      ((logEvent_drop _ _ _ _ _ rfl).trans ((setUe_drop _ _ rfl).trans (State.onEng_drop rfl)))
    all_goals split <;> rfl
  · -- ECC_UNCORRECTABLE in SRAM and TCM
    intro s a e ho
    exact ⟨completes_exec (exec_eccUncorrectable_reader ho (.inl rfl)) rfl (by dsimp only [execMask]; rfl),
      completes_exec (exec_eccUncorrectable_reader ho (.inr rfl)) rfl (by dsimp only [execMask]; rfl)⟩
  · -- SRAM_SCRUB_STEP
    intro s ho
    exact ⟨completes_exec (exec_sramScrubStep_runs ho .clean) rfl rfl,
      completes_exec (exec_sramScrubStep_runs ho .single) rfl rfl,
      completes_exec (exec_sramScrubStep_runs ho .double) rfl rfl⟩
  · -- ECC_UNCORRECTABLE of a corrected error
    intro s a e n ho hn
    exact ⟨completes_within (exec_eccUncorrectable_corrected ho hn) rfl (correctRead_drop _ _ _ _ rfl),
      completes_within (exec_eccUncorrectable_corrected ho hn) rfl (correctRead_drop _ _ _ _ rfl),
      completes_within (exec_eccUncorrectable_corrected ho hn) rfl (correctRead_drop _ _ _ _ rfl)⟩
  · -- PLINTH_FREQ_MEASURE
    intro s hz hr
    exact completes_within (exec_plinthFreqMeasure_runs hr) rfl (State.onEng_drop rfl)

/-! ### The ports of the ring (R63, R66, R91) -/

section
variable {s : State} {port : RPort}

/-- The record of one port changes, and the other port stays. -/
theorem onPort_ports (s : State) (p : RPort) (f : RingPort → RingPort) :
    (s.onPort p f).port p = f (s.port p) ∧ ∀ q, q ≠ p → (s.onPort p f).port q = s.port q :=
  ⟨onPort_self s p f, fun q hq => (onPort_at s p q f).trans (if_neg hq)⟩

theorem onPort_evt (s : State) (p : RPort) (f : RingPort → RingPort) : (s.onPort p f).evt = s.evt := by
  cases p <;> rfl

theorem onPort_logged (s : State) (p : RPort) (f : RingPort → RingPort) {code : Nat} (hc : hwEvent code = false)
    (d1 d2 : Nat) : (logEvent (s.onPort p f) code d1 d2).evt = (logEvent s code d1 d2).evt := by
  cases p <;> exact logged_of rfl rfl rfl rfl _ _ _ _ (.inl hc)

/-- A completion that only updates the record of a port. -/
theorem completes_onPort {c : Instr} {f : RingPort → RingPort} {r : RingPort}
    (h : exec c s = .next (s.onPort port f)) (hf : f (s.port port) = r) :
    Completes c s [.spl] fun t => t.port port = r ∧ ∀ q, q ≠ port → t.port q = s.port q := by
  obtain ⟨hself, hother⟩ := onPort_ports s port f
  exact completes_within h ⟨hself.trans hf, hother⟩ (State.onPort_drop _ _ _ rfl)

/-- The record of one port changes, and an event names why. -/
theorem onPort_logEvent (s : State) (p : RPort) (f : RingPort → RingPort) {code : Nat} (hc : hwEvent code = false)
    (d1 d2 : Nat) : (logEvent (s.onPort p f) code d1 d2).port p = f (s.port p) ∧
      (∀ q, q ≠ p → (logEvent (s.onPort p f) code d1 d2).port q = s.port q) ∧
      Logged s (logEvent (s.onPort p f) code d1 d2) code d1 d2 := by
  obtain ⟨hself, hother⟩ := onPort_ports s p f
  exact ⟨(logEvent_port _ _ _ _ _ _).trans hself, fun q hq => (logEvent_port _ _ _ _ _ _).trans (hother q hq),
    onPort_logged s p f hc d1 d2⟩

/-- A completion that updates the record of a port and logs it. -/
theorem completes_onPort_logged {c : Instr} {f : RingPort → RingPort} {code d1 d2 : Nat}
    (h : exec c s = .next (logEvent (s.onPort port f) code d1 d2)) (hc : hwEvent code = false) :
    Completes c s [.spl, .evt] fun t => t.port port = f (s.port port) ∧ (∀ q, q ≠ port → t.port q = s.port q) ∧
      Logged s t code d1 d2 :=
  completes_within h (onPort_logEvent s port f hc d1 d2)
    ((logEvent_drop _ _ _ _ _ rfl).trans (State.onPort_drop _ _ _ rfl))

/-- A port that was up is down, waits for a HELLO and its millisecond again, and says why (R63). -/
theorem portDown_up (cause : PortCause) (hu : (s.port port).isUp = true) :
    (portDown s port cause).port port =
      { s.port port with isUp := false, hello := false, lockAt := s.clock, pingOpen := false } ∧
    (∀ q, q ≠ port → (portDown s port cause).port q = s.port q) ∧
    Logged s (portDown s port cause) 0xA102 port.num cause.num := by
  rw [portDown_effect s port cause hu]
  exact onPort_logEvent s port _ rfl _ _

/-! #### Lock (R63) -/

theorem exec_splBlockLock_held (hr : s.ringRuns = true) (hl : (s.port port).lock = true) :
    exec (.splBlockLock port true) s = .next (s.onPort port fun r =>
      { r with lock := true, lockAt := if r.lock then r.lockAt else s.clock }) := by
  simp only [exec, execSplBlockLock, hr, hl, Bool.not_true, Bool.false_eq_true, if_false, if_true]

theorem exec_splBlockLock_gained (hr : s.ringRuns = true) (hl : (s.port port).lock = false) :
    exec (.splBlockLock port true) s = .next (send (s.onPort port fun r =>
      { r with lock := true, lockAt := if r.lock then r.lockAt else s.clock }) (.ordered port s.hello)) := by
  simp only [exec, execSplBlockLock, hr, hl, Bool.not_true, Bool.false_eq_true, if_false, if_true]

theorem exec_splBlockLock_lost (hr : s.ringRuns = true) : exec (.splBlockLock port false) s =
    .next ((portDown s port .lockLoss).onPort port fun r => { r with lock := false, hello := false }) := by
  simp only [exec, execSplBlockLock, hr, Bool.not_true, Bool.false_eq_true, if_false]

/-! #### Up and down (R63, R91) -/

theorem exec_splPortUp_ready (hr : s.ringRuns = true) (hl : (s.port port).lock = true)
    (hh : (s.port port).hello = true) (hu : (s.port port).isUp = false) (ht : (s.port port).lockAt + msNs ≤ s.clock) :
    exec (.splPortUp port) s = .next (logEvent (s.onPort port fun r => { r with isUp := true }) 0xA103 port.num) := by
  simp only [exec, execSplPortUp, hr, hl, hh, hu, ht, Bool.not_false, decide_true, Bool.and_self, if_true]

theorem exec_portReadmit_due (hi : (s.port port).isolated = true)
    (ht : (s.port port).isolatedAt + 100 * msNs ≤ s.clock) : exec (.portReadmit port) s =
    .next (logEvent (s.onPort port fun r => { r with isolated := false, viols := [] }) 0xA10D port.num) := by
  simp only [exec, execPortReadmit, hi, ht, decide_true, Bool.and_self, if_true]

theorem exec_splPortDown_up {cause : PortCause} (hr : s.ringRuns = true) (hu : (s.port port).isUp = true)
    (hl : cause ≠ .lockLoss) (hq : cause ≠ .queueBand) :
    exec (.splPortDown port cause) s = .next (portDown s port cause) := by
  simp only [exec, execSplPortDown, hr, hu, beq_eq_false_iff_ne.2 hl, beq_eq_false_iff_ne.2 hq, Bool.not_true,
    Bool.false_eq_true, if_false]

/-- A forward queue outside its band also sets its flag (R38). -/
theorem exec_splPortDown_queue (hr : s.ringRuns = true) (hu : (s.port port).isUp = true) :
    exec (.splPortDown port .queueBand) s =
      .next (portDown (logEvent (dcqFull s port.num) 0xA101 port.num) port .queueBand) := by
  simp only [exec, execSplPortDown, hr, hu, Bool.not_true, Bool.false_eq_true, if_false]
  rfl

theorem exec_splPortDown_early (hr : s.ringRuns = true) (hu : (s.port port).isUp = false) :
    exec (.splPortDown port .syncErrors) s = .next (s.onPort port fun r => { r with lockAt := s.clock }) := by
  simp only [exec, execSplPortDown, hr, hu, Bool.not_true, Bool.not_false, Bool.false_eq_true, if_false, if_true]
  rfl

/-! #### Ordered sets (R66) -/

theorem takeOrdered_ok {x : OrdSet} (hr : s.ringRuns = true) (hl : (s.port port).lock = true) (hx : setOk x = true)
    (f : State → State) : takeOrdered s port x f = f s := by
  simp only [takeOrdered, hr, hl, hx, Bool.not_true, Bool.or_self, Bool.false_eq_true, if_false, if_true]

theorem takeOrdered_bad {x : OrdSet} (hr : s.ringRuns = true) (hl : (s.port port).lock = true) (hx : setOk x = false)
    (f : State → State) : takeOrdered s port x f = badSet s := by
  simp only [takeOrdered, hr, hl, hx, Bool.not_true, Bool.or_self, Bool.false_eq_true, if_false]

/-- A set whose check fails is only counted, whichever of the six it would have been. -/
theorem exec_badSet {x : OrdSet} {turn : Nat} (hr : s.ringRuns = true) (hl : (s.port port).lock = true)
    (hx : setOk x = false) {i : Instr} (hi : i ∈ [.helloRx port x, .shimPingRx port x turn, .shimEchoRx port x turn,
      .urgentArmBlock port x, .urgentBypassAll port x, .urgentResume port x]) : exec i s = .next (badSet s) := by
  simp only [List.mem_cons, List.not_mem_nil, or_false] at hi
  rcases hi with rfl | rfl | rfl | rfl | rfl | rfl
  all_goals exact congrArg _ (takeOrdered_bad hr hl hx _)

theorem exec_helloRx_ok {x : OrdSet} (hr : s.ringRuns = true) (hl : (s.port port).lock = true)
    (hx : setOk x = true) : exec (.helloRx port x) s = .next (s.onPort port fun r =>
      { r with hello := true, gw := x.d2 == 1, nbRing := x.ext.toNat / 65536, nbPos := x.d3.toNat }) :=
  congrArg _ (takeOrdered_ok hr hl hx _)

/-! ### Shims (R79) -/

theorem exec_shimPingTimer_runs (hr : s.ringRuns = true) :
    exec .shimPingTimer s = .next (sendPing (sendPing s .e) .w) := by
  simp only [exec, execShimPingTimer, hr, if_true]

theorem exec_shimPingRx_up {x : OrdSet} {ta : Nat} (hr : s.ringRuns = true) (hl : (s.port port).lock = true)
    (hx : setOk x = true) (hu : (s.port port).isUp = true) : exec (.shimPingRx port x ta) s =
    .next (send s (.ordered port (orderedSet 0x11 0 x.d3 (BitVec.ofNat 24 ta)))) :=
  congrArg _ ((takeOrdered_ok hr hl hx _).trans (if_pos hu))

/-- Half of what a round trip leaves beside the turnaround, in 1/16 ns. -/
def shimOf (x : OrdSet) (rt : Nat) : Int := tdiv ((rt : Int) - x.ext.toNat) 2

/-- The echo of the open ping closes it and gives one more result. -/
def echoTaken (s : State) (port : RPort) (y : Int) : State :=
  s.onPort port fun r => { r with pingOpen := false, shims := (y :: r.shims).take 16 }

theorem echoTaken_shims (s : State) (port : RPort) (y : Int) :
    ((echoTaken s port y).port port).shims = (y :: (s.port port).shims).take 16 := by
  rw [echoTaken, onPort_self]

/-- Fewer than 16 results give no shim yet. -/
theorem echoTaken_shim_few {y : Int} (hn : (s.port port).shims.length < 15) : (echoTaken s port y).shim port = none := by
  refine if_neg ?_
  rw [echoTaken_shims, List.length_take, List.length_cons]
  omega

/-- From 16 results on the shim is their median. -/
theorem echoTaken_shim_full {y : Int} (hn : 15 ≤ (s.port port).shims.length) :
    (echoTaken s port y).shim port = median ((y :: (s.port port).shims).take 16) := by
  refine (if_pos ?_).trans (congrArg median (echoTaken_shims s port y))
  rw [echoTaken_shims, List.length_take, List.length_cons]
  omega

/-- The echo of the open ping with fewer than 16 results. -/
theorem exec_shimEchoRx_few {x : OrdSet} {rt : Nat} (hr : s.ringRuns = true) (hl : (s.port port).lock = true)
    (hx : setOk x = true) (hu : (s.port port).isUp = true) (hp : (s.port port).pingOpen = true)
    (hq : (s.port port).pingSeq = x.d3.toNat) (hn : (s.port port).shims.length < 15) :
    exec (.shimEchoRx port x rt) s = .next (echoTaken s port (shimOf x rt)) := by
  have hs := echoTaken_shim_few (y := shimOf x rt) hn
  refine congrArg _ ((takeOrdered_ok hr hl hx _).trans ?_)
  rw [echoTaken, shimOf] at hs ⊢
  simp only [takeEcho, hu, hp, hq, hs, Bool.not_true, Bool.or_self, ne_eq, not_true_eq_false, decide_false,
    Bool.false_eq_true, if_false]

/-- The echo of the open ping whose median is out of range takes the port down. -/
theorem exec_shimEchoRx_range {x : OrdSet} {rt : Nat} {m : Int} (hr : s.ringRuns = true)
    (hl : (s.port port).lock = true) (hx : setOk x = true) (hu : (s.port port).isUp = true)
    (hp : (s.port port).pingOpen = true) (hq : (s.port port).pingSeq = x.d3.toNat)
    (hn : 15 ≤ (s.port port).shims.length) (hm : median ((shimOf x rt :: (s.port port).shims).take 16) = some m)
    (hout : m < 0 ∨ 24000 < m) : exec (.shimEchoRx port x rt) s = .next (portDown
      (logEvent (echoTaken s port (shimOf x rt)) 0xA111 port.num (lo16 (tdiv m 16))) port .shimRange) := by
  have hs := (echoTaken_shim_full hn).trans hm
  refine congrArg _ ((takeOrdered_ok hr hl hx _).trans ?_)
  rw [echoTaken, shimOf] at hs ⊢
  simp only [takeEcho, hu, hp, hq, hs, hout, Bool.not_true, Bool.or_self, ne_eq, not_true_eq_false, decide_false,
    Bool.false_eq_true, if_false, if_true]

end

/-- Settles O53: lock, up and down, ordered sets, and the pings with the results they give. -/
theorem ringPortsAndPings : Obligations.RingPortsAndPings := by
  refine ⟨?_, ?_, ?_, ?_, ?_, ?_, ?_, ?_, ?_, ?_, ?_, ?_, ?_, ?_⟩
  · -- SPL_BLOCK_LOCK on a port that has lock
    intro s port hr hl
    refine completes_onPort (exec_splBlockLock_held hr hl) ?_
    rw [if_pos hl, ← hl]
  · -- SPL_BLOCK_LOCK that gains lock
    intro s port hr hl
    obtain ⟨hself, hother⟩ := onPort_ports s port fun r =>
      { r with lock := true, lockAt := if r.lock then r.lockAt else s.clock }
    refine completes_within (exec_splBlockLock_gained hr hl) ⟨?_, ?_, ?_⟩
      ((send_drop _ _ rfl).trans (State.onPort_drop _ _ _ rfl))
    · refine hself.trans ?_
      rw [hl]
      rfl
    · exact hother
    · cases port <;> rfl
  · -- SPL_BLOCK_LOCK that loses lock
    intro s port hr hu
    obtain ⟨hself, hother, hlog⟩ := portDown_up .lockLoss hu
    refine completes_within (exec_splBlockLock_lost hr) ⟨?_, ?_, ?_⟩
      ((State.onPort_drop _ _ _ rfl).trans (portDown_drop s port _ rfl))
    · rw [onPort_self, hself]
    · exact fun q hq => ((onPort_at _ _ _ _).trans (if_neg hq)).trans (hother q hq)
    · exact (onPort_evt _ _ _).trans hlog
  · -- SPL_PORT_UP
    intro s port hr hl hh hu ht
    exact completes_onPort_logged (exec_splPortUp_ready hr hl hh hu ht) rfl
  · -- SPL_PORT_DOWN
    intro s port cause hr hu hl hq
    exact completes_within (exec_splPortDown_up hr hu hl hq) (portDown_up cause hu) (portDown_drop s port cause rfl)
  · -- SPL_PORT_DOWN of a forward queue
    intro s port hr hu
    have hport (q : RPort) : (logEvent (dcqFull s port.num) 0xA101 port.num).port q = s.port q := by cases q <;> rfl
    obtain ⟨hself, hother, -⟩ := portDown_up .queueBand ((congrArg RingPort.isUp (hport port)).trans hu)
    refine completes_within (exec_splPortDown_queue hr hu) ⟨?_, ?_, ?_⟩ ((portDown_drop _ _ _ rfl).trans
      ((logEvent_drop _ _ _ _ _ rfl).trans (dcqFull_drop _ _ rfl)))
    · rw [portDown_eng]
      rfl
    · rw [hself, hport]
      rfl
    · exact fun q hq => (hother q hq).trans (hport q)
  · -- SPL_PORT_DOWN of a port that is not yet up
    intro s port hr hu
    exact completes_onPort (exec_splPortDown_early hr hu) rfl
  · -- HELLO_RX
    intro s port x hr hl hx
    exact completes_onPort (exec_helloRx_ok hr hl hx) rfl
  · -- a set whose check fails
    intro s port x turn hr hl hx i hi
    exact completes_within (exec_badSet hr hl hx hi) rfl (badSet_drop s rfl)
  · -- PORT_READMIT
    intro s port hi ht
    exact completes_onPort_logged (exec_portReadmit_due hi ht) rfl
  · -- SHIM_PING_TIMER
    intro s hr
    refine completes_exec (exec_shimPingTimer_runs hr) ⟨fun p => ?_, rfl⟩ rfl
    cases p <;> rfl
  · -- SHIM_PING_RX
    intro s port x ta hr hl hx hu
    exact completes_within (exec_shimPingRx_up hr hl hx hu) rfl (send_drop _ _ rfl)
  · -- SHIM_ECHO_RX before the sixteenth result
    intro s port x rt hr hl hx hu hp hq hn
    refine completes_onPort (exec_shimEchoRx_few hr hl hx hu hp hq hn) ?_
    rw [List.take_of_length_le (by rw [List.length_cons]; omega)]
    rfl
  · -- SHIM_ECHO_RX of a shim out of range
    intro s port x rt m hr hl hx hu hp hq hn hm hout
    have hport (q : RPort) : (logEvent (echoTaken s port (shimOf x rt)) 0xA111 port.num (lo16 (tdiv m 16))).port q =
        (echoTaken s port (shimOf x rt)).port q := logEvent_port _ _ _ _ _ q
    obtain ⟨hecho, hrest⟩ := onPort_ports s port fun r =>
      { r with pingOpen := false, shims := (shimOf x rt :: r.shims).take 16 }
    have hup : ((echoTaken s port (shimOf x rt)).port port).isUp = true := (congrArg RingPort.isUp hecho).trans hu
    obtain ⟨hself, hother, hlog⟩ := portDown_up .shimRange ((congrArg RingPort.isUp (hport port)).trans hup)
    refine completes_within (exec_shimEchoRx_range hr hl hx hu hp hq hn hm hout) ⟨?_, ?_, ?_, ?_, ?_⟩
      ((portDown_drop _ _ _ rfl).trans ((logEvent_drop _ _ _ _ _ rfl).trans (State.onPort_drop _ _ _ rfl)))
    · rw [hself]
    · rw [hself]
    · rw [hself, hport, echoTaken_shims, shimOf]
    · exact fun q hq => ((hother q hq).trans (hport q)).trans (hrest q hq)
    · refine hlog.trans (logged_of (onPort_logged s port _ rfl _ _) ?_ ?_ ?_ _ _ _ _)
      all_goals cases port <;> rfl

end Sys2Proof.Machine
end

section
/-! SUPPORT. The image: which commands may change its slots, the image in force and the lifecycle state (O8), staging
(O30), and the dry-fit with the glue-up (O31). -/

namespace Sys2Proof.Machine

/-! ### Who changes the image (R48, R55, R341, R345) -/

/-- Settles O8: a command outside a list has a mask that does not name the part. -/
theorem whoChangesTheImage : Obligations.WhoChangesTheImage := by
  refine ⟨fun c s t h => ?_, fun c s t h => ?_, fun c s t h => ?_⟩
  · cases c with
    | bootSlotVerifyComplete | imgCmdStageBegin | stagingChunk | glueUpSwitch | regOpExecute | cycleBoundary
    | lbusServiceRequest | enrolmentObject | svcRegReq | svcBulk | registerWrite | nvmWriteComplete => trivial
    | _ => exact same_of_exec h (by dsimp only [execMask]; rfl)
  · cases c with
    | powerOnResetRelease | bootSlotVerifyComplete | resetComparatorTrip | vbakOutOfRange | resetNLow | pwrCmdCold
    | hibWakeTimerExpiry | hibCciWake | lbusWake | engineWatchdogExpiry | lockstepMismatch | eccUncorrectable
    | glueUpSwitch | regOpExecute | cycleBoundary | lbusServiceRequest | enrolmentObject | svcRegReq
    | registerWrite => trivial
    | _ => exact same_of_exec h (by dsimp only [execMask]; rfl)
  · cases c with
    | regOpExecute | lbusServiceRequest | secCmdStepField | enrolmentObject | svcRegReq | registerWrite => trivial
    | _ => exact same_of_exec h (by dsimp only [execMask]; rfl)

/-! ### Granted register operations -/

section
variable {c : Instr} {s x : State} {p : Requester} {cls : OpClass} {addr : Word} {op : State → RegRes} {code : Nat}

/-- A command that is a granted register operation answers with the status of the operation. -/
theorem exec_granted (hc : exec c s = .next (regCmd s p fun s => withRight s p cls addr op)) (hg : Granted s p cls addr)
    (ho : op s = (x, code)) (hph : x.dev.phase = s.dev.phase) : exec c s = .next (answer x p code) := by
  rw [hc, regCmd_granted hg (by rw [ho]; exact hph), ho]

/-- A granted register operation with its effect, its answer, and the frame of the operation. -/
theorem completes_granted {bs : List Block} {post : State → Prop}
    (hc : exec c s = .next (regCmd s p fun s => withRight s p cls addr op)) (hg : Granted s p cls addr)
    (ho : op s = (x, code)) (hpost : post (answer x p code))
    (hd : (op s).1.drop (blockMask bs) = s.drop (blockMask bs)) (hph : (blockMask bs).testBit Block.phase.idx = false)
    (hout : blockMask bs &&& 137438953472 = 137438953472) : Completes c s bs post := by
  rw [ho] at hd
  exact completes_within (exec_granted hc hg ho (same_of_drop hd .phase hph)) hpost ((answer_drop x p code hout).trans hd)

/-- A granted register operation that leaves the state as it is only answers. -/
theorem completes_unchanged (hc : exec c s = .next (regCmd s p fun s => withRight s p cls addr op))
    (hg : Granted s p cls addr) (ho : op s = (s, code)) : Completes c s [.outbox] fun t => Answered s t p code :=
  completes_granted hc hg ho (answered_of rfl) (by rw [ho]) rfl rfl

end

/-! ### The slots (R48) -/

/-- Without chunks that wait for a record write, a slot's cells are those it holds. -/
theorem slotCells_of_none_waiting {s : State} (h : s.img.waiting = []) (b : Bool) : s.slotCells b = s.slotHeld b := by
  unfold State.slotCells
  rw [h]
  exact ite_self _

/-- Chunks wait for the staging slot alone. -/
theorem slotCells_other (s : State) : s.slotCells (!s.stagingSlot) = s.slotHeld (!s.stagingSlot) :=
  if_neg (by simp)

/-! ### STAGE_BEGIN (R48, R49) -/

section
variable {s : State} {p : Requester} {len : Nat}

/-- The staging slot erased for a transfer of `len` units over port p. -/
def stageErased (s : State) (p : Requester) (len : Nat) : State :=
  s.onImg fun i => { clearDryfit i with
    slotA := if s.stagingSlot then i.slotA else []
    slotB := if s.stagingSlot then [] else i.slotB
    slotAErr := i.slotAErr && s.stagingSlot
    slotBErr := i.slotBErr && !s.stagingSlot
    staging := .erasing
    stagePort := some p
    stageLen := len
    stageCount := 0
    waiting := []
    tagStaged := 0
    stagedVersion := 0 }

theorem opStageBegin_unlocked (hl : s.img.locked = false) :
    opStageBegin p len s = (logEvent (stageErased s p len) 0xB001 p.num, 0x00) := by
  unfold opStageBegin stageErased
  rw [hl]
  cases s.stagingSlot <;> rfl

theorem opStageBegin_locked (hl : s.img.locked = true) : opStageBegin p len s = (s, 0x05) := by
  unfold opStageBegin
  rw [if_pos hl]

theorem stageErased_slotHeld : (stageErased s p len).slotHeld s.stagingSlot = [] ∧
    (stageErased s p len).slotHeld (!s.stagingSlot) = s.slotHeld (!s.stagingSlot) := by
  unfold stageErased State.slotHeld State.onImg
  cases s.stagingSlot <;> exact ⟨rfl, rfl⟩

/-- Every byte of the staging slot reads as erased, and the other slot is as before. -/
theorem stageErased_slots : (∀ a, (stageErased s p len).slotBytes s.stagingSlot a = 0xFF#8) ∧
    (stageErased s p len).slotCells (!s.stagingSlot) = s.slotCells (!s.stagingSlot) := by
  obtain ⟨hstaging, hother⟩ := stageErased_slotHeld (s := s) (p := p) (len := len)
  have hcells (b : Bool) : (stageErased s p len).slotCells b = (stageErased s p len).slotHeld b :=
    slotCells_of_none_waiting rfl b
  refine ⟨fun a => ?_, ?_⟩
  · rw [State.slotBytes, hcells, hstaging]
    rfl
  · rw [hcells, hother, slotCells_other]

end

/-! ### STAGE_ERASE_COMPLETE and STAGE_END (R48, R330) -/

section
variable {s : State}

theorem exec_stageEraseComplete_erasing (hs : s.img.staging = .erasing) (hw : s.writePermit = true) :
    exec .stageEraseComplete s = .next (s.onImg fun i => { i with staging := .receiving }) := by
  simp only [exec, execStageEraseComplete, hs, hw, if_true]

/-- A transfer whose count lies in its last unit is complete, and its tag and version are shown. -/
theorem opStageEnd_full (hs : s.img.staging = .receiving) (hlo : 64 * s.img.stageLen < s.img.stageCount + 64)
    (hhi : s.img.stageCount ≤ 64 * s.img.stageLen) :
    opStageEnd s = (logWide (s.onImg fun i => { i with
      staging := .complete
      tagStaged := (imageOf (s.slotBytes s.stagingSlot)).tag
      stagedVersion := (imageOf (s.slotBytes s.stagingSlot)).version }) 0xB002 s.img.stageCount, 0x00) := by
  simp only [opStageEnd, hs, hlo, hhi, and_self, if_true]

theorem opStageEnd_short (h : s.img.staging ≠ .receiving ∨ s.img.stageCount + 64 ≤ 64 * s.img.stageLen) :
    opStageEnd s = (s, 0x04) := by
  unfold opStageEnd
  cases hs : s.img.staging with
  | receiving =>
    have hlen : s.img.stageCount + 64 ≤ 64 * s.img.stageLen := h.resolve_left (absurd hs)
    exact if_neg (by omega)
  | empty | erasing | complete | dryfit => rfl

end

/-! ### Chunks (R48, R89, R353) -/

/-- A chunk at another offset than the count is refused with 0x07. -/
theorem opChunk_displaced {s : State} {p : Requester} {off : Nat} {data : List Byte} (hs : s.img.staging = .receiving)
    (hr : s.right p .configure noAddr = true) (hw : s.writePermit = true) (ho : off ≠ s.img.stageCount) :
    opChunk p off data s = (s, 0x07) := by
  have he : (s.img.staging == Staging.erasing) = false := by
    rw [hs]
    rfl
  simp only [opChunk, hr, hw, he, ho, Bool.not_true, Bool.or_self, Bool.false_eq_true, if_false, ne_eq, not_false_eq_true,
    true_or, if_true]

theorem stagingOn_receiving {s : State} {p : Requester} (hs : s.img.staging = .receiving) (hp : s.img.stagePort = some p) :
    s.stagingOn p = true := by
  rw [State.stagingOn, hs, hp]
  exact beq_self_eq_true _

section
variable {s y : State} {port : RPort} {b : List Byte} {x : BulkFrame}

/-- A second copy of a frame changes nothing. -/
theorem exec_stagingChunk_copy (hx : bulkOf b = some x) (hc : s.seenCopy (copyKey x.head) = true) :
    exec (.stagingChunk port b) s = .next s := by
  simp only [exec, execStagingChunk, hx, hc, Bool.or_true, if_true]

/-- What the device does with the first copy of a chunk that staging is open for is what the chunk operation does. -/
theorem exec_stagingChunk_taken (hx : bulkOf b = some x) (hd : s.delivers port b = true)
    (hc : s.seenCopy (copyKey x.head) = false) (hs : x.stream = 1) (ha : s.addressed x.dest = true)
    (ho : s.stagingOn .spline = true)
    (hy : opChunk .spline x.off (s.chunkData x) (noteCopy s (copyKey x.head)) = (y, 0x00)) :
    exec (.stagingChunk port b) s = .next y := by
  simp [exec, execStagingChunk, hx, hd, hc, hs, ha, ho, hy]

/-- A refused chunk leaves a BULK report with its status and the count. -/
theorem exec_stagingChunk_refused {code : Nat} (hx : bulkOf b = some x) (hd : s.delivers port b = true)
    (hc : s.seenCopy (copyKey x.head) = false) (hs : x.stream = 1) (ha : s.addressed x.dest = true)
    (ho : s.stagingOn .spline = true)
    (hy : opChunk .spline x.off (s.chunkData x) (noteCopy s (copyKey x.head)) = (y, code)) (hcode : code ≠ 0) :
    exec (.stagingChunk port b) s = .next (y.onSpl fun z => { z with
      ansBulk := some
        { tag := 0xFFFF#16, status := BitVec.ofNat 8 code, addr := BitVec.ofNat 32 y.img.stageCount, data := 0 } }) := by
  simp [exec, execStagingChunk, hx, hd, hc, hs, ha, ho, hy, hcode]

end

/-- A request of the service port that does not repeat the previous one is executed, answered and remembered. -/
theorem serviceRequest_fresh {s x : State} {seq : Nat} {content : List Byte} {run : State → State × SvcFrame}
    {f : SvcFrame} (hp : s.portOpen .service = true) (hn : s.sec.svcAns = none ∨ s.sec.svcSeq ≠ some (seq, content))
    (hr : run s = (x, f)) (hph : x.dev.phase = s.dev.phase) :
    serviceRequest s seq content run =
      send (x.onSec fun z => { z with svcSeq := some (seq, content), svcAns := some f }) (.service f) := by
  unfold serviceRequest
  rw [hp, hr]
  simp only [Bool.not_true, Bool.false_eq_true, if_false, hph, beq_self_eq_true, if_true]
  cases ha : s.sec.svcAns with
  | none => rfl
  | some a =>
    have hseq : (s.sec.svcSeq == some (seq, content)) = false := beq_false_of_ne (hn.resolve_left (by simp [ha]))
    simp only [hseq, Bool.false_eq_true, if_false]

/-- A fresh SVC_BULK of stream 1 is answered as its chunk is. -/
theorem exec_svcBulk_fresh {s x : State} {seq off : Nat} {data : List Byte} {f : SvcFrame}
    (hp : s.portOpen .service = true)
    (hn : s.sec.svcAns = none ∨ s.sec.svcSeq ≠ some (seq, 3#8 :: natBytes 1 1 ++ natBytes 4 off ++ data))
    (hr : serviceChunk off data s = (x, f)) (hph : x.dev.phase = s.dev.phase) :
    exec (.svcBulk seq 1 off data) s = .next (send (x.onSec fun z => { z with
      svcSeq := some (seq, 3#8 :: natBytes 1 1 ++ natBytes 4 off ++ data), svcAns := some f }) (.service f)) :=
  congrArg Host.Outcome.next (serviceRequest_fresh hp hn hr hph)

theorem serviceChunk_taken {s x : State} {off : Nat} {data : List Byte} (ho : s.stagingOn .service = true)
    (hx : opChunk .service off data s = (x, 0x00)) :
    serviceChunk off data s = (x, .ack 0 (BitVec.ofNat 32 x.img.stageCount)) := by
  simp only [serviceChunk, ho, if_true, hx, BitVec.ofNat_eq_ofNat]

/-- Settles O30: what each image command and each chunk does by its own equation; a chunk that is taken reads back byte
for byte by `opChunk_taken`. -/
theorem imageStaging : Obligations.ImageStaging := by
  refine ⟨?_, ?_, ?_, ?_, ?_, ?_, ?_, ?_, ?_⟩
  · -- IMG_CMD_STAGE_BEGIN
    intro s p len hg hl
    obtain ⟨herased, hother⟩ := stageErased_slots (s := s) (p := p) (len := len)
    have hlog : Logged s (logEvent (stageErased s p len) 0xB001 p.num) 0xB001 p.num := logged_of rfl rfl rfl rfl _ _ _ _
    exact completes_granted rfl hg (opStageBegin_unlocked hl)
      ⟨rfl, rfl, rfl, rfl, rfl, rfl, rfl, rfl, rfl, herased, hother, hlog, answered_of rfl⟩
      (opStageBegin_drop p len s rfl) rfl rfl
  · -- IMG_CMD_STAGE_BEGIN while locked
    intro s p len hg hl
    exact completes_unchanged rfl hg (opStageBegin_locked hl)
  · -- STAGE_ERASE_COMPLETE
    intro s hs hw
    exact completes_exec (exec_stageEraseComplete_erasing hs hw) rfl rfl
  · -- STAGING_CHUNK
    intro s port b x hm hx hd hc hs ha hrec hport hr hw ho hlen hsize hwait
    obtain ⟨y, hy, hcount, hstaging, hother, hbytes, -, -, hspl, -, hdrop⟩ :=
      opChunk_taken (s := noteCopy s (copyKey x.head)) (p := .spline) hm hrec hr hw ho hlen hsize hwait
    exact completes_within
      (exec_stagingChunk_taken hx hd hc hs ha (stagingOn_receiving hrec hport) hy)
      ⟨hspl, hcount, hstaging, hother, hbytes⟩ ((drop_sub rfl hdrop).trans (noteCopy_drop s _ rfl))
  · -- SVC_BULK
    intro s seq off data hm hp hn hrec hport hr hw ho hlen hsize hwait
    obtain ⟨y, hy, hcount, hstaging, hother, hbytes, hdev, hsec, -, hout, hdrop⟩ :=
      opChunk_taken (p := .service) hm hrec hr hw ho hlen hsize hwait
    have hrun := serviceChunk_taken (stagingOn_receiving hrec hport) hy
    rw [hcount] at hrun
    refine completes_within (exec_svcBulk_fresh hp hn hrun (congrArg Dev.phase hdev))
      ⟨congrArg (List.cons _) hout, ?_, hcount, hstaging, hother, hbytes⟩
      ((send_drop _ _ rfl).trans ((State.onSec_drop rfl (.inr fun _ => rfl)).trans (drop_sub rfl hdrop)))
    rw [← hsec]
    rfl
  · -- STAGING_CHUNK at another offset
    intro s port b x hx hd hc hs ha hrec hport hr hw ho
    exact completes_within (exec_stagingChunk_refused hx hd hc hs ha (stagingOn_receiving hrec hport)
      (opChunk_displaced hrec hr hw ho) (by decide)) rfl
      ((State.onSpl_drop rfl).trans (noteCopy_drop s _ rfl))
  · -- STAGING_CHUNK, a second copy
    intro s port b x hx hc
    exact completes_within (exec_stagingChunk_copy hx hc) rfl rfl
  · -- IMG_CMD_STAGE_END
    intro s p hg hs hlo hhi
    exact completes_granted rfl hg (opStageEnd_full hs hlo hhi) ⟨rfl, answered_of rfl⟩ (opStageEnd_drop s rfl) rfl rfl
  · -- IMG_CMD_STAGE_END of a transfer that is not complete
    intro s p hg h
    exact completes_unchanged rfl hg (opStageEnd_short h)

/-! ### DRYFIT (R50, R51) -/

section
variable {s : State}

theorem opDryfit_complete (hl : s.img.locked = false) (hs : s.img.staging = .complete) :
    opDryfit s = (s.onImg fun i => { clearDryfit i with
      staging := .dryfit, staged := some (imageOf (s.slotBytes s.stagingSlot)), dfAt := s.clock }, 0x00) := by
  simp only [opDryfit, hl, hs, Bool.false_eq_true, if_false]

theorem opDryfit_incomplete (hl : s.img.locked = false) (hs : s.img.staging ≠ .complete) : opDryfit s = (s, 0x04) := by
  unfold opDryfit
  rw [if_neg (by rw [hl]; decide)]
  cases hstaging : s.img.staging with
  | complete => exact absurd hstaging hs
  | empty | erasing | receiving | dryfit => rfl

end

section
variable {s : State} {im a : Image} {v : Verdict}

/-- A failed local check ends the dry-fit at once. -/
theorem exec_dryfitComplete_local (hs : s.img.staging = .dryfit) (him : s.img.staged = some im)
    (hv : localChecks s = some v) : exec .dryfitComplete s = .next (dryfitFail s im v) := by
  simp only [exec, execDryfitComplete, hs, him, hv]

/-- Once the window is over, the verdict is that of the local checks or else that of the ring. -/
theorem exec_dryfitComplete_over (hs : s.img.staging = .dryfit) (him : s.img.staged = some im)
    (ha : s.img.active = some a) (hw : s.windowOver = true) : exec .dryfitComplete s = .next
      (((localChecks s).or (ringCheck s im)).elim (dryfitPass s im) (dryfitFail s im)) := by
  simp only [exec, execDryfitComplete, hs, him, ha, hw, Option.isNone_some, Bool.not_true, Bool.false_eq_true, if_false]
  cases localChecks s with
  | some v => rfl
  | none => cases ringCheck s im <;> rfl

theorem dryfitFail_effect (s : State) (im : Image) (v : Verdict) : (dryfitFail s im v).img.staging = .complete ∧
    (dryfitFail s im v).img.staged = none ∧ (dryfitFail s im v).img.dfCode = BitVec.ofNat 8 v.code ∧
    (dryfitFail s im v).img.dfSection = BitVec.ofNat 8 v.sec ∧
    (dryfitFail s im v).img.dfRecord = BitVec.ofNat 12 v.record ∧
    Logged s (dryfitFail s im v) 0xB004 v.code (v.sec % 256) :=
  ⟨rfl, rfl, rfl, rfl, rfl, logged_of rfl rfl rfl rfl _ _ _ _⟩

theorem dryfitPass_effect (im : Image) (ha : s.img.active = some a) : (dryfitPass s im).img.staging = .complete ∧
    (dryfitPass s im).img.staged = s.img.staged ∧ (dryfitPass s im).img.dfCode = 1 ∧
    (dryfitPass s im).img.structural =
      (im.structDigest != a.structDigest || im.schedDigest != a.schedDigest || im.expert != a.expert) ∧
    (dryfitPass s im).spl.stagedBound = im.inlay.cycle + 14 ∧
    Logged s (dryfitPass s im) 0xB003 (im.tag.toNat % 65536) := by
  unfold dryfitPass
  rw [ha]
  exact ⟨rfl, rfl, rfl, rfl, rfl, logged_of rfl rfl rfl rfl _ _ _ _⟩

end

/-! ### ABORT (R55) -/

section
variable {s : State} {cause : Nat}

theorem cancelGlue_pending (h : s.img.glue = .announced ∨ s.img.glue = .ready) : cancelGlue s cause =
    logEvent (s.onImg fun i => { i with glue := .idle, locked := false, glueBlock := 0 }) 0xB009 cause := by
  unfold cancelGlue
  rcases h with h | h <;> rw [h]

theorem cancelGlue_lock (h : s.img.glue = .idle ∨ s.img.glue = .silent) (hl : s.img.locked = true) : cancelGlue s cause =
    logEvent (s.onImg fun i => { i with locked := false, glueBlock := 0 }) 0xB009 cause := by
  unfold cancelGlue
  rcases h with h | h <;> rw [h] <;> exact if_pos hl

/-- With no glue-up to cancel and no lock left standing nothing changes. -/
theorem cancelGlue_none (ha : s.img.glue ≠ .announced) (hr : s.img.glue ≠ .ready)
    (h : s.img.locked = false ∨ s.img.glue = .confirmed ∨ s.img.glue = .restarting) : cancelGlue s cause = s := by
  unfold cancelGlue
  cases hg : s.img.glue with
  | announced => exact absurd hg ha
  | ready => exact absurd hg hr
  | confirmed | restarting => rfl
  | idle | silent =>
    have hl : s.img.locked = false := by simpa [hg] using h
    exact if_neg (by simp [hl])

end

/-! ### The switch at T_G (R47, R55, R56) -/

section
variable {s : State} {im : Image} {t : Nat}

theorem exec_glueUpSwitch_due (hf : s.feRuns = true) (hg : s.img.glue = .confirmed) (ht : s.img.glueTime ≤ s.tim.time) :
    exec .glueUpSwitch s = .next (switchImage s s.img.glueTime false) := by
  simp only [exec, execGlueUpSwitch, hf, hg, ht, beq_self_eq_true, decide_true, Bool.and_self, if_true]

/-- The switch installs the staged image; a structural one restarts the engines then. -/
theorem switchImage_staged (him : s.img.staged = some im) (he : s.stagedSlotErr = false) : switchImage s t false =
    bif s.img.structural then beginGlueRestart (installStaged s im t) else logEvent (installStaged s im t) 0xB007 := by
  simp only [switchImage, him, he, Bool.false_eq_true, if_false, cond_false]

/-- The image block with the staged image in force: the chunks that waited are in their slot. -/
theorem installStaged_img (s : State) (im : Image) (t : Nat) : (installStaged s im t).img = { s.img with
    slotA := s.slotCells false
    slotB := s.slotCells true
    waiting := []
    activeSlot := !s.runSlot
    fallback := false
    active := some im
    staged := none
    staging := .empty
    tagStaged := 0
    stagedVersion := 0
    structural := false
    dfCode := 0
    dfSection := 0
    dfRecord := 0
    dfWarn := false
    floor := max s.img.floor im.secVersion
    locked := s.img.locked && s.img.structural
    glue := .idle
    glueBlock := 0
    adoptDue := false
    loadFail := false } := by
  unfold installStaged
  rw [retimeBus_eq, flushStaging_eq]
  rfl

/-- The old reaction table is kept for what came before T_G, and the glue-up is counted. -/
theorem installStaged_keeps (s : State) (im : Image) (t : Nat) :
    (installStaged s im t).prt = { s.prt with oldTable := some (t, s.im.reactions) } ∧
    (installStaged s im t).spl.oldInlay = some (t, s.im.inlay) ∧
    (installStaged s im t).sec = { s.sec with cntGlue := (s.sec.cntGlue + 1) % 2 ^ 32, cntDue := true } ∧
    (installStaged s im t).clock = s.clock := by
  unfold installStaged
  rw [retimeBus_eq, flushStaging_eq]
  exact ⟨rfl, rfl, rfl, rfl⟩

theorem installStaged_lbus (s : State) (im : Image) (t : Nat) :
    (installStaged s im t).lbus = (retimeBus s im).lbus := by
  simp only [installStaged, State.onArm_lbus, State.onSec_lbus, State.onSpl_lbus, State.onPrt_lbus, State.onImg_lbus,
    flushStaging_eq]

theorem installStaged_slotHeld (b : Bool) : (installStaged s im t).slotHeld b = s.slotCells b := by
  rw [State.slotHeld, installStaged_img]
  cases b <;> rfl

/-- Outside a structural glue-up, the local bus integrates again where its timing changes (R305). -/
theorem retimeBus_lbus (im : Image) (hs : s.img.structural = false) : (retimeBus s im).lbus =
    if busTiming im != busTiming s.im && s.rxTail.isSome then { s.lbus with st := .integrating, lastRx := s.rxTail }
    else s.lbus := by
  simp only [retimeBus, hs, Bool.not_false, Bool.and_true]
  split <;> rfl

end

/-! ### The restart of a structural glue-up (Table 03.9) -/

/-- The restart stops every engine and keeps what the cell has published. -/
theorem beginGlueRestart_effect (s : State) :
    (beginGlueRestart s).dev.phase = .glueRestart ∧
    (beginGlueRestart s).img = { s.img with glue := .restarting, restartAt := s.clock } ∧
    (beginGlueRestart s).arm.cell = s.arm.cell ∧ (beginGlueRestart s).arm.changes = s.arm.changes ∧
    (beginGlueRestart s).arm.owner = s.arm.owner ∧ ∀ i : Fin 8, (beginGlueRestart s).eng.state[i] = .off := by
  have hstop (i : Fin 8) : (setEngines (beginClamp (endAllActs (takeHwEvents s) 4)) .off).eng.state[i.val] = .off :=
    setEngines_off _ i
  simp [beginGlueRestart, hstop]

/-- The engines of the image run, and the image is free again, before the loads are taken back. -/
def glueRestarted (s : State) : State :=
  ((setEngines s .running).onDev fun d => { d with phase := if s.spl.ringReady then .ready else .starting }).onImg
    fun i => { i with glue := .idle, locked := false }

theorem exec_glueRestartComplete_restarting {s : State} (h : s.dev.phase = .glueRestart) :
    exec .glueRestartComplete s = .next (refreshLoads (refreshBridge (logWide (resumeClamp (glueRestarted s)) 0xB008
      ((s.clock - s.img.restartAt) / usNs)))) := by
  simp only [exec, execGlueRestartComplete, h, glueRestarted]

/-- The coils held at the clamp are taken back (R15, Table 03.9). -/
theorem resumeClamp_released (s : State) : (resumeClamp s).lsw.clamp = false ∧
    ∀ n : Fin 12, (resumeClamp s).lsw.ch[n].clamp = false := by
  have hch (n : Fin 12) : (s.lsw.ch.map fun c : LswCh => if c.clamp then
      { c with clamp := false, econ := true, econDue := none, want := true } else c)[n].clamp = false := by
    simp only [Fin.getElem_fin, Vector.getElem_map]
    split
    · rfl
    · next h => exact Bool.eq_false_of_not_eq_true h
  unfold resumeClamp
  split <;> exact ⟨rfl, hch⟩

theorem refreshLoads_released {s : State} (hc : s.lsw.clamp = false) (hn : ∀ n : Fin 12, s.lsw.ch[n].clamp = false) :
    (refreshLoads s).lsw.clamp = false ∧ ∀ n : Fin 12, (refreshLoads s).lsw.ch[n].clamp = false := by
  obtain ⟨-, -, -, -, -, hclamp⟩ := refreshLoads_ch s 0
  refine ⟨hclamp.trans hc, fun n => ?_⟩
  obtain ⟨hch, -⟩ := refreshLoads_ch s n
  exact hch.trans (hn n)

/-- Settles O31: the verdict of a dry-fit, the three cases of `cancelGlue`, and the switch by what `installStaged` and
`beginGlueRestart` leave. -/
theorem dryFitAndGlueUp : Obligations.DryFitAndGlueUp := by
  refine ⟨?_, ?_, ?_, ?_, ?_, ?_, ?_, ?_, ?_, ?_⟩
  · -- IMG_CMD_DRYFIT
    intro s p hg hl hs
    exact completes_granted rfl hg (opDryfit_complete hl hs) ⟨rfl, rfl, rfl, rfl, rfl, rfl, answered_of rfl⟩
      (opDryfit_drop s rfl) rfl rfl
  · -- IMG_CMD_DRYFIT without a complete image
    intro s p hg hl hs
    exact completes_unchanged rfl hg (opDryfit_incomplete hl hs)
  · -- DRYFIT_COMPLETE
    intro s im a hs him ha hw
    have hexec := exec_dryfitComplete_over hs him ha hw
    simp only [← Option.or_eq_some_iff]
    cases hv : (localChecks s).or (ringCheck s im) with
    | some v =>
      rw [hv] at hexec
      obtain ⟨hstaging, hfail⟩ := dryfitFail_effect s im v
      refine completes_exec hexec ⟨hstaging, fun w hw => ?_, fun hl hr => ?_⟩ rfl
      · cases hw
        exact hfail
      · rw [hl, hr] at hv
        cases hv
    | none =>
      rw [hv] at hexec
      obtain ⟨hstaging, hstaged, hpass⟩ := dryfitPass_effect im ha
      exact completes_exec hexec ⟨hstaging, nofun, fun _ _ => ⟨hstaged.trans him, hpass⟩⟩ rfl
  · -- DRYFIT_COMPLETE of a failed local check
    intro s im v hs him hv
    obtain ⟨hstaging, hstaged, hcode, -⟩ := dryfitFail_effect s im v
    exact completes_within (exec_dryfitComplete_local hs him hv) ⟨hstaging, hstaged, hcode⟩ (dryfitFail_drop s im v rfl)
  · -- IMG_CMD_ABORT of an announced or ready glue-up
    intro s p hg h
    have hop : (cancelGlue s 2, 0x00) = (_, 0x00) := congrArg (·, 0x00) (cancelGlue_pending h)
    have hlog : Logged s (logEvent (s.onImg fun i => { i with glue := .idle, locked := false, glueBlock := 0 }) 0xB009 2) 0xB009 2 :=
      logged_of rfl rfl rfl rfl _ _ _ _
    exact completes_granted rfl hg hop ⟨rfl, hlog, answered_of rfl⟩
      (cancelGlue_drop s 2 rfl) rfl rfl
  · -- IMG_CMD_ABORT with nothing to cancel
    intro s p hg ha hr h
    exact completes_unchanged rfl hg (congrArg (·, 0x00) (cancelGlue_none ha hr h))
  · -- IMG_CMD_ABORT of a lock left standing
    intro s p hg h hl
    have hop : (cancelGlue s 2, 0x00) = (_, 0x00) := congrArg (·, 0x00) (cancelGlue_lock h hl)
    have hlog : Logged s (logEvent (s.onImg fun i => { i with locked := false, glueBlock := 0 }) 0xB009 2) 0xB009 2 :=
      logged_of rfl rfl rfl rfl _ _ _ _
    exact completes_granted rfl hg hop ⟨rfl, hlog, answered_of rfl⟩
      (cancelGlue_drop s 2 rfl) rfl rfl
  · -- GLUE_UP_SWITCH, parameter-only
    intro s im hf hg ht him he hs
    have hexec := exec_glueUpSwitch_due hf hg ht
    rw [switchImage_staged him he, hs, cond_false] at hexec
    have himg := installStaged_img s im s.img.glueTime
    have hlocked := congrArg Img.locked himg
    rw [hs, Bool.and_false] at hlocked
    obtain ⟨hprt, hspl, hsec, hclock⟩ := installStaged_keeps s im s.img.glueTime
    have hlbus := (installStaged_lbus s im s.img.glueTime).trans (retimeBus_lbus im hs)
    have hslots (b : Bool) := installStaged_slotHeld (s := s) (im := im) (t := s.img.glueTime) b
    have hlog : Logged s (logEvent (installStaged s im s.img.glueTime) 0xB007) 0xB007 :=
      logged_of (installStaged_evt s im _) (installStaged_pwr s im _) (installStaged_tim s im _) hclock _ _ _ _
    refine completes_within hexec ?_ ((logEvent_drop _ _ _ _ _ rfl).trans (installStaged_drop s im _ rfl))
    generalize installStaged s im s.img.glueTime = x at *
    exact ⟨hlbus, congrArg Img.active himg, congrArg Img.activeSlot himg, congrArg Img.glue himg,
      congrArg Img.staging himg, congrArg Img.floor himg, hlocked, hslots, hprt, hspl, hsec, hlog⟩
  · -- GLUE_UP_SWITCH, structural
    intro s im hf hg ht him he hs
    have hexec := exec_glueUpSwitch_due hf hg ht
    rw [switchImage_staged him he, hs, cond_true] at hexec
    obtain ⟨-, -, -, hclock⟩ := installStaged_keeps s im s.img.glueTime
    obtain ⟨hphase, himg, hcell, hchanges, howner, heng⟩ := beginGlueRestart_effect (installStaged s im s.img.glueTime)
    refine completes_exec hexec ⟨?_, congrArg Img.glue himg, hphase, ?_, ?_, ?_, ?_, heng⟩ rfl
    · exact (congrArg Img.active himg).trans (congrArg Img.active (installStaged_img s im s.img.glueTime))
    · rw [hcell, installStaged_arm_cell]
    · rw [hchanges, installStaged_arm_changes]
    · rw [howner, installStaged_arm_owner]
    · exact (congrArg Img.restartAt himg).trans hclock
  · -- GLUE_RESTART_COMPLETE
    intro s h
    have hexec := exec_glueRestartComplete_restarting h
    obtain ⟨hclamp, hch⟩ := resumeClamp_released (glueRestarted s)
    rw [← logWide_lsw _ 0xB008 ((s.clock - s.img.restartAt) / usNs), ← refreshBridge_lsw] at hclamp hch
    refine completes_exec hexec ⟨?_, ?_, fun i => ?_, refreshLoads_released hclamp hch⟩ rfl
    · rw [refreshLoads_dev, refreshBridge_dev, logWide_dev, resumeClamp_dev]
      rfl
    · rw [refreshLoads_img, refreshBridge_img, logWide_img, resumeClamp_img]
      rfl
    · rw [refreshLoads_eng, refreshBridge_eng, logWide_eng, resumeClamp_eng]
      exact setEngines_at s .running i

end Sys2Proof.Machine
end

section
/-! SUPPORT. The Spline ring: the idle step (O2), what the device takes from received frames and the holdover of its
time (O55), and urgent sets, forwarding and the device's own frames (O54). -/

namespace Sys2Proof.Machine

/-! ### The idle step (R80) -/

theorem step_idle {s : State} (h : s.pending = []) : step s = .next (tick s) := by
  simp only [step, h]

/-- Settles O2: the idle step is one tick, which moves Spline time and the clock alone. -/
theorem idleStepPassesOneNanosecond : Obligations.IdleStepPassesOneNanosecond := fun s h =>
  ⟨tick s, step_idle h, rfl, rfl, frame_of_mask (tick_drop (fm := 34359738624) s rfl) rfl⟩

/-! ### ARM_CYCLE received (R64, R69, R80) -/

section
variable {s : State} {port : RPort} {b : List Byte} {f : ArmCycle}

/-- What a valid copy on a port that is up does in hardware, whatever becomes of the frame: position and time. -/
def copyTaken (s : State) (port : RPort) (f : ArmCycle) : State := timeCopy (judgePosition s f) port f

theorem exec_armCycleRx_first (ha : armOf b = some f) (hr : s.ringRuns = true) (hu : (s.port port).isUp = true)
    (hd : s.delivers port b = true) (hn : s.spl.armSeen.find? (fun x => x.1 = f.cycle) = none) :
    exec (.armCycleRx port b) s = .next (deliverArm (copyTaken s port f) f b) := by
  simp only [exec, execArmCycleRx, ha, hr, hu, hd, hn, Bool.not_true, Bool.or_self, Bool.false_eq_true, if_false,
    copyTaken]

/-- A frame that fails its slot, or repeats one that has been taken, is only a copy. -/
theorem exec_armCycleRx_copy (ha : armOf b = some f) (hr : s.ringRuns = true) (hu : (s.port port).isUp = true)
    (h : s.delivers port b = false ∨
      ∃ g, s.spl.armSeen.find? (fun x => x.1 = f.cycle) = some g ∧ g.2 = armCommon b) :
    exec (.armCycleRx port b) s = .next (copyTaken s port f) := by
  cases hd : s.delivers port b with
  | false =>
    simp only [exec, execArmCycleRx, ha, hr, hu, hd, Bool.not_true, Bool.not_false, Bool.or_self, Bool.false_eq_true,
      if_false, if_true, copyTaken]
  | true =>
    obtain ⟨g, hg, hc⟩ := h.resolve_left (by simp [hd])
    simp only [exec, execArmCycleRx, ha, hr, hu, hd, hg, hc, beq_self_eq_true, Bool.not_true, Bool.or_self,
      Bool.false_eq_true, if_false, if_true, copyTaken]

theorem copyTaken_spl (s : State) (port : RPort) (f : ArmCycle) :
    (copyTaken s port f).spl = (judgePosition s f).spl :=
  same_of_drop (timeCopy_drop (fm := 8589943040) _ port f rfl) .spl rfl

/-- A copy that is not delivered tells the engines nothing. -/
theorem copyTaken_keeps (s : State) (port : RPort) (f : ArmCycle) :
    (copyTaken s port f).spl.lastArm = s.spl.lastArm ∧ (copyTaken s port f).img = s.img ∧
    (copyTaken s port f).arm.modes = s.arm.modes ∧ (copyTaken s port f).spl.urgLatch = s.spl.urgLatch := by
  rw [copyTaken_spl]
  refine ⟨judgePosition_last s f, ?_, ?_, judgePosition_urg s f⟩
  · exact (same_of_drop (timeCopy_drop (fm := 8589943040) _ port f rfl) .img rfl).trans (judgePosition_img s f)
  · exact (timeCopy_modes _ port f).trans (congrArg Arm.modes (judgePosition_arm s f))

/-- The position that the hops of a copy imply (R64). -/
def hopPlace (f : ArmCycle) : Nat := if f.fromWest then f.ringSize - 1 - f.hops else f.hops

theorem implied_fits (h32 : f.ringSize ≤ 32) (hh : f.hops < f.ringSize) :
    implied f = some (f.ring, f.ringSize, hopPlace f) := by
  unfold implied
  rw [if_neg (by omega)]
  rfl

/-- The first copy that fits an own slot sets the position. -/
theorem judgePosition_first (hv : s.spl.posValid = false) (hc : s.spl.posConflict = false)
    (hi : implied f = some (f.ring, f.ringSize, hopPlace f)) (ho : ownsClass1 s.im.inlay (hopPlace f) = true) :
    judgePosition s f = s.onSpl fun x =>
      { x with ring := f.ring, size := f.ringSize, position := hopPlace f, posValid := true } := by
  simp [judgePosition, hv, hc, hi, ho]

/-- Delivery keeps what the copies have told of the position. -/
theorem deliverArm_copyTaken_spl (s : State) (port : RPort) (f : ArmCycle) (b : List Byte) :
    (deliverArm (copyTaken s port f) f b).spl.lastArm = some f ∧
    (deliverArm (copyTaken s port f) f b).spl.ring = (judgePosition s f).spl.ring ∧
    (deliverArm (copyTaken s port f) f b).spl.size = (judgePosition s f).spl.size ∧
    (deliverArm (copyTaken s port f) f b).spl.position = (judgePosition s f).spl.position ∧
    (deliverArm (copyTaken s port f) f b).spl.posValid = (judgePosition s f).spl.posValid := by
  rw [← copyTaken_spl s port f]
  exact deliverArm_spl _ f b

end

/-! ### CELL_STATUS and ARM_SUMMARY received (R69, R84, R85, R106) -/

section
variable {s : State} {port : RPort} {b : List Byte}

/-- A frame that is not delivered changes nothing. -/
theorem exec_undelivered (hd : s.delivers port b = false) {i : Instr}
    (hi : i ∈ [.cellStatusRx port b, .armSummaryRx port b, .regReqRx port b]) : exec i s = .next s := by
  simp only [List.mem_cons, List.not_mem_nil, or_false] at hi
  rcases hi with rfl | rfl | rfl
  · simp only [exec, execCellStatusRx, hd, Bool.not_false, Bool.true_or, if_true]
    split <;> rfl
  · simp only [exec, execArmSummaryRx, hd, Bool.not_false, Bool.true_or, if_true]
    split <;> rfl
  · simp only [exec, execRegReqRx, hd, Bool.not_false, Bool.true_or, if_true]
    split <;> rfl

/-- The first copy of a publication of a position of the ring, without a pairing error. -/
theorem exec_cellStatusRx_first {h : FrameHead} {x : CellStatus} (hx : statusOf b = some (h, x))
    (hd : s.delivers port b = true) (hv : s.spl.posValid = true) (hg : h.src.getLsbD 15 = false)
    (ho : s.srcOwner h.src = some (h.src.toNat % 32)) (hs : h.src.toNat % 32 < s.spl.size)
    (hn : s.pubOf (h.src.toNat % 32) (s.boundOf h.cycle) = none)
    (hp : s.dev.member = false ∨ h.src.toNat % 32 + 1 ≠ s.spl.position ∨ x.member = false) :
    exec (.cellStatusRx port b) s = .next (compareMask (windowPub
      (recordPub s (h.src.toNat % 32) (s.boundOf h.cycle) x) (h.src.toNat % 32) x) (h.src.toNat % 32)
      (s.boundOf h.cycle) x) := by
  have hpair : (s.dev.member && decide (h.src.toNat % 32 + 1 = s.spl.position) && x.member) = false := by
    rcases hp with hp | hp | hp <;> simp [hp]
  simp only [exec, execCellStatusRx, hx, hd, hv, hg, ho, hn, hpair, not_le.2 hs, bne_self_eq_false, decide_false,
    Option.isSome_none, Bool.not_true, Bool.or_self, Bool.false_eq_true, if_false]

theorem compareMask_spl (s : State) (p c : Nat) (x : CellStatus) : (compareMask s p c x).spl = s.spl :=
  same_of_drop (compareMask_drop (fm := 8589942784) s p c x rfl) .spl rfl

theorem exec_armSummaryRx_first {f : ArmSummary} (hx : summaryOf b = some f) (hd : s.delivers port b = true)
    (hc : s.seenCopy { type := 3, cycle := f.cycle } = false) : exec (.armSummaryRx port b) s =
    .next ((noteCopy s { type := 3, cycle := f.cycle }).onSpl fun x => { x with summary := some f }) := by
  simp only [exec, execArmSummaryRx, hx, hd, hc, Bool.not_true, Bool.or_self, Bool.false_eq_true, if_false]

/-! ### REG_REQ received (R86, R87) -/

/-- The frame and its operation are remembered against the copies to come. -/
def reqNoted (s : State) (h : FrameHead) (o : RegOp) : State :=
  (noteCopy s (copyKey h)).onSpl fun x =>
    { x with reqSeen := (h.cycle, h.src.getLsbD 0, o) :: x.reqSeen.filter fun y => s.recent y.1 }

/-- An operation for this device in a frame of a cycle from which no other has come. -/
theorem exec_regReqRx_first {h : FrameHead} {o : RegOp} (hx : regReqOf b = some (h, [o]))
    (hd : s.delivers port b = true) (hv : s.spl.posValid = true) (hc : s.seenCopy (copyKey h) = false)
    (hn : ∀ e ∈ s.spl.reqSeen, e.1 ≠ h.cycle) (ho : o.op ≠ 0#8) (hdest : o.dest.toNat % 8192 = s.deviceId) :
    exec (.regReqRx port b) s = .next (takeRegOp h.cycle (reqNoted s h o) o) := by
  have hnone (g : Bool) : s.spl.reqSeen.filter (fun x => x == (h.cycle, g, o)) = [] :=
    List.filter_eq_nil_iff.2 fun e he heq => hn e he (congrArg Prod.fst (beq_iff_eq.1 heq))
  have hid : (noteCopy s (copyKey h)).deviceId = s.deviceId := rfl
  have hseen : (noteCopy s (copyKey h)).spl.reqSeen = s.spl.reqSeen := rfl
  have hop : (o.op == 0#8) = false := beq_eq_false_iff_ne.2 ho
  simp only [exec, execRegReqRx, hx, hd, hv, hc, List.foldl_cons, List.foldl_nil, regReqOp, hid, hseen, hdest, hop,
    hnone, List.length_nil, ne_eq, not_true_eq_false, decide_false, Bool.not_true, Bool.or_self, Bool.false_eq_true,
    if_false, Nat.zero_add]
  rfl

theorem reqNoted_heldOps (s : State) (h : FrameHead) (o : RegOp) : (reqNoted s h o).heldOps = s.heldOps := rfl

theorem takeRegOp_free {x : State} {cycle : Nat} {o : RegOp} (h : x.heldOps < 6) : takeRegOp cycle x o =
    x.onSpl fun y => { y with regQueue := y.regQueue ++ [{ op := o }] } := if_pos h

theorem takeRegOp_reqNoted_drop (s : State) (h : FrameHead) (o : RegOp) :
    (takeRegOp h.cycle (reqNoted s h o) o).drop 128 = s.drop 128 :=
  (takeRegOp_drop _ _ _ rfl).trans ((State.onSpl_drop rfl).trans (noteCopy_drop s _ rfl))

/-! ### Holdover of Spline time (R82) -/

/-- The condition of R82 for a cause of holdover. -/
def State.holdoverDue (s : State) : HoldCause → Bool
  | .missingFrame => decide (s.tim.lastCopy + s.cycleNs + 2000 ≤ s.clock)
  | .offset => decide (3 ≤ s.tim.bad)

theorem exec_holdoverEntry_due {cause : HoldCause} (hr : s.ringRuns = true) (ha : s.tim.acquired = true)
    (hh : s.tim.holdover = false) (hd : s.holdoverDue cause = true) : exec (.holdoverEntry cause) s =
    .next (logEvent (s.onTim fun t => { t with holdover := true, bad := 0 }) 0xA106
      (if cause = .missingFrame then 0 else 1)) := by
  cases cause
  all_goals
    rw [State.holdoverDue] at hd
    simp only [exec, execHoldoverEntry, hr, ha, hh, hd, Bool.not_false, Bool.and_self, if_true, reduceCtorEq, if_false]

theorem exec_holdoverExpiry_due (hh : s.tim.holdover = true) (hv : s.tim.validMod = true)
    (ht : s.tim.lastApplied + 200 * usNs ≤ s.clock) : exec .holdoverExpiry s = .next (logEvent ((s.onTim fun t =>
      { t with validMod := false, timeValid := false, needStep := true, good := 0 }).onArm fun a =>
      { a with modFell := true }) 0xA107) := by
  simp only [exec, execHoldoverExpiry, hh, hv, ht, decide_true, Bool.and_self, if_true]

end

/-- Settles O55: an ARM_CYCLE as a copy and as a delivery, the first copy of each other frame, the room for a register
operation, and the two ends of the holdover. -/
theorem ringFramesReceived : Obligations.RingFramesReceived := by
  refine ⟨?_, ?_, ?_, ?_, ?_, ?_, ?_, ?_, ?_, ?_⟩
  · -- ARM_CYCLE_RX of a new cycle
    intro s port b f ha hr hu hd hn
    obtain ⟨hlast, -⟩ := deliverArm_copyTaken_spl s port f b
    exact completes_exec (exec_armCycleRx_first ha hr hu hd hn) hlast (by dsimp only [execMask]; rfl)
  · -- ARM_CYCLE_RX that is not delivered
    intro s port b f ha hr hu h
    exact completes_exec (exec_armCycleRx_copy ha hr hu h) (copyTaken_keeps s port f)
      (by dsimp only [execMask]; rfl)
  · -- ARM_CYCLE_RX that sets the position
    intro s port b f ha hr hu hd hn hv hc h0 h32 hh ho
    obtain ⟨hlast, hring, hsize, hpos, hvalid⟩ := deliverArm_copyTaken_spl s port f b
    rw [judgePosition_first hv hc (implied_fits h32 hh) ho] at hring hsize hpos hvalid
    exact completes_exec (exec_armCycleRx_first ha hr hu hd hn) ⟨hvalid, hring, hsize, hpos, hlast⟩
      (by dsimp only [execMask]; rfl)
  · -- CELL_STATUS_RX
    intro s port b h x hx hd hv hg ho hs hn hp
    refine completes_exec (exec_cellStatusRx_first hx hd hv hg ho hs hn hp) ?_ (by dsimp only [execMask]; rfl)
    rw [compareMask_spl, windowPub_spl]
    rfl
  · -- ARM_SUMMARY_RX
    intro s port b f hx hd hc
    exact completes_exec (exec_armSummaryRx_first hx hd hc) ⟨rfl, rfl⟩ (by dsimp only [execMask]; rfl)
  · -- a frame that is not delivered
    intro s port b hd i hi
    exact completes_within (exec_undelivered hd hi) rfl rfl
  · -- REG_REQ_RX with room
    intro s port b h o hx hd hv hc hn ho hdest hroom
    refine completes_within (exec_regReqRx_first hx hd hv hc hn ho hdest) ?_ (takeRegOp_reqNoted_drop s h o)
    rw [takeRegOp_free (by rwa [reqNoted_heldOps])]
    exact ⟨rfl, rfl⟩
  · -- REG_REQ_RX without room
    intro s port b h o hx hd hv hc hn ho hdest hfull
    exact completes_within (exec_regReqRx_first hx hd hv hc hn ho hdest)
      (takeRegOp_full (reqNoted s h o) h.cycle o (by rw [reqNoted_heldOps]; omega)) (takeRegOp_reqNoted_drop s h o)
  · -- HOLDOVER_ENTRY
    intro s cause hr ha hh hframe hoff
    have hd : s.holdoverDue cause = true := by
      cases cause with
      | missingFrame => exact decide_eq_true (hframe rfl)
      | offset => exact decide_eq_true (hoff rfl)
    exact completes_exec (exec_holdoverEntry_due hr ha hh hd) ⟨rfl, logEvent_cong rfl rfl rfl _ _ _ _⟩
      (by dsimp only [execMask]; rfl)
  · -- HOLDOVER_EXPIRY
    intro s hh hv ht
    exact completes_exec (exec_holdoverExpiry_due hh hv ht) ⟨rfl, rfl, logEvent_cong rfl rfl rfl _ _ _ _⟩ rfl

/-! ### Urgent sets (R77, R78) -/

section
variable {s : State} {port : RPort} {x : OrdSet} {c : Instr} {code seq : Nat}

/-- An urgent set of the own ring is passed on, and acted on where it is newer. -/
theorem urgentRx_own (hr : s.ringRuns = true) (hl : (s.port port).lock = true) (hx : setOk x = true)
    (hu : (s.port port).isUp = true) (hv : s.spl.posValid = true) (hring : x.d2.toNat = s.spl.ring) :
    urgentRx s port x = actUrgent (forwardUrgent s port x) x.d1.toNat x.ext.toNat := by
  rw [urgentRx, takeOrdered_ok hr hl hx]
  simp only [hu, hv, hring, ne_eq, not_true_eq_false, decide_false, Bool.not_true, Bool.or_self, Bool.false_eq_true,
    if_false]

/-- Passing a set on touches no other ring register than the sets sent. -/
theorem forwardUrgent_spl (s : State) (port : RPort) (x : OrdSet) :
    ∃ l, (forwardUrgent s port x).spl = { s.spl with urgFwd := l } := by
  unfold forwardUrgent
  dsimp only
  split <;> exact ⟨_, rfl⟩

theorem forwardUrgent_urgNewer (s : State) (port : RPort) (x : OrdSet) (seq : Nat) :
    (forwardUrgent s port x).urgNewer seq = s.urgNewer seq := by
  obtain ⟨l, hspl⟩ := forwardUrgent_spl s port x
  simp only [State.urgNewer, hspl]

theorem forwardUrgent_ringReady (s : State) (port : RPort) (x : OrdSet) :
    (forwardUrgent s port x).spl.ringReady = s.spl.ringReady := by
  obtain ⟨l, hspl⟩ := forwardUrgent_spl s port x
  rw [hspl]

/-- A set that has not left in the last 100 µs leaves by the opposite port. -/
theorem forwardUrgent_sends (h : ∀ u ∈ s.spl.urgFwd, u.toWest = (port.other == .w) → u.code = x.d1.toNat →
    u.seq = x.ext.toNat → u.when + 100 * usNs ≤ s.clock) :
    (forwardUrgent s port x).outbox = .ordered port.other x :: s.outbox := by
  have hdone : ((s.spl.urgFwd.filter fun u => decide (s.clock < u.when + 100 * usNs)).any fun u =>
      u.toWest == (port.other == .w) && u.code == x.d1.toNat && u.seq == x.ext.toNat) = false := by
    refine List.any_eq_false.2 fun u hu heq => ?_
    obtain ⟨hmem, hrecent⟩ := List.mem_filter.1 hu
    simp only [Bool.and_eq_true, beq_iff_eq] at heq
    obtain ⟨⟨hwest, hcode⟩, hseq⟩ := heq
    exact absurd (h u hmem hwest hcode hseq) (not_le.2 (of_decide_eq_true hrecent))
  unfold forwardUrgent
  rw [if_neg (by rw [hdone]; exact Bool.false_ne_true)]
  rfl

/-- Before ring-ready, or by an older sequence, an urgent set does nothing. -/
theorem actUrgent_stale (h : s.spl.ringReady = false ∨ s.urgNewer seq = false) : actUrgent s code seq = s := by
  refine if_pos ?_
  rcases h with h | h <;> simp [h]

/-- The registers of a newer urgent set. -/
def urgNoted (s : State) (l : UrgLatch) (code seq : Nat) : State :=
  logEvent (s.onSpl fun x => { x with urgLatch := l, urgCode := code, urgSeq := seq % 2 ^ 24 }) 0xA10F code (seq % 256)

theorem actUrgent_newer (hr : s.spl.ringReady = true) (hn : s.urgNewer seq = true) :
    actUrgent s 1 seq = watchActs (urgBlock (urgNoted s .armBlock 1 seq)) ∧
    actUrgent s 2 seq = watchActs (urgBypass (urgNoted s .bypassAll 2 seq)) ∧
    actUrgent s 3 seq = urgResume (urgNoted s .none 3 seq) := by
  simp only [actUrgent, hr, hn, Bool.not_true, Bool.or_self, Bool.false_eq_true, if_false]
  exact ⟨rfl, rfl, rfl⟩

/-- A newer set is still newer once it is passed on. -/
theorem actUrgent_forwarded (hr : s.spl.ringReady = true) (hn : s.urgNewer x.ext.toNat = true) :
    let y := forwardUrgent s port x
    actUrgent y 1 x.ext.toNat = watchActs (urgBlock (urgNoted y .armBlock 1 x.ext.toNat)) ∧
    actUrgent y 2 x.ext.toNat = watchActs (urgBypass (urgNoted y .bypassAll 2 x.ext.toNat)) ∧
    actUrgent y 3 x.ext.toNat = urgResume (urgNoted y .none 3 x.ext.toNat) :=
  actUrgent_newer ((forwardUrgent_ringReady s port x).trans hr) ((forwardUrgent_urgNewer s port x _).trans hn)

/-- What the three sets do to the bridge leaves the ring registers. -/
theorem urgActs_spl (s : State) : (watchActs (urgBlock s)).spl = s.spl ∧ (watchActs (urgBypass s)).spl = s.spl ∧
    (urgResume s).spl = s.spl := by
  rw [watchActs_spl, watchActs_spl]
  exact ⟨same_of_drop (urgBlock_drop (fm := 558345789440) s rfl) .spl rfl,
    same_of_drop (urgBypass_drop (fm := 4960763748352) s rfl) .spl rfl,
    same_of_drop (urgResume_drop (fm := 4406636478464) s rfl) .spl rfl⟩

theorem urgBlock_legs (h : s.arm.bypassed = false) (l : Leg) : ((watchActs (urgBlock s)).leg l).st = .hiZ := by
  rw [watchActs_leg, urgBlock, refreshBridge_leg]
  exact blockCell_legs 0 h l

/-- A set of the own ring that is newer, as it is acted on. -/
theorem exec_urgent_newer {n : Nat} (hc : exec c s = .next (urgentRx s port x)) (hr : s.ringRuns = true)
    (hl : (s.port port).lock = true) (hx : setOk x = true) (hu : (s.port port).isUp = true)
    (hv : s.spl.posValid = true) (hring : x.d2.toNat = s.spl.ring) (hcode : x.d1.toNat = n) :
    exec c s = .next (actUrgent (forwardUrgent s port x) n x.ext.toNat) := by
  rw [hc, urgentRx_own hr hl hx hu hv hring, hcode]

/-- A set that is not acted on, whichever of the three it is, is only passed on. -/
theorem completes_urgent_stale (hc : exec c s = .next (urgentRx s port x)) (hr : s.ringRuns = true)
    (hl : (s.port port).lock = true) (hx : setOk x = true) (hu : (s.port port).isUp = true)
    (hv : s.spl.posValid = true) (hring : x.d2.toNat = s.spl.ring)
    (hold : s.spl.ringReady = false ∨ s.urgNewer x.ext.toNat = false)
    (hfwd : ∀ u ∈ s.spl.urgFwd, u.toWest = (port.other == .w) → u.code = x.d1.toNat → u.seq = x.ext.toNat →
      u.when + 100 * usNs ≤ s.clock) :
    Completes c s [.spl, .outbox] fun t => t.outbox = .ordered port.other x :: s.outbox ∧
      t.spl.urgLatch = s.spl.urgLatch ∧ t.spl.urgCode = s.spl.urgCode ∧ t.spl.urgSeq = s.spl.urgSeq := by
  rw [urgentRx_own hr hl hx hu hv hring, actUrgent_stale
    (by rwa [forwardUrgent_ringReady, forwardUrgent_urgNewer])] at hc
  obtain ⟨l, hspl⟩ := forwardUrgent_spl s port x
  refine completes_within hc ⟨forwardUrgent_sends hfwd, ?_⟩ (forwardUrgent_drop s port x rfl)
  rw [hspl]
  exact ⟨rfl, rfl, rfl⟩

end

/-! ### Forwarding and policing (R68, R91) -/

section
variable {s : State} {port : RPort} {b out : List Byte} {res : Nat}

/-- A frame whose CRC fails is counted. -/
def crcCounted (s : State) (b : List Byte) : State :=
  if crcOk b then s else s.onSpl fun x => { x with cntLost := bump 8 x.cntLost }

theorem crcCounted_cntLost (s : State) (b : List Byte) :
    (crcCounted s b).spl.cntLost = if crcOk b then s.spl.cntLost else bump 8 s.spl.cntLost := by
  unfold crcCounted
  split <;> rfl

/-- The count changes neither the ports nor what passes. -/
theorem crcCounted_keep (s : State) (b : List Byte) : (∀ p, (crcCounted s b).port p = s.port p) ∧
    (∀ p d, (crcCounted s b).passes p d = s.passes p d) ∧ (crcCounted s b).outbox = s.outbox ∧
    (crcCounted s b).clock = s.clock := by
  unfold crcCounted
  split
  · exact ⟨fun _ => rfl, fun _ _ => rfl, rfl, rfl⟩
  · exact ⟨fun p => by cases p <;> rfl, fun p d => by cases p <;> rfl, rfl, rfl⟩

theorem crcCounted_drop (s : State) (b : List Byte) {m : Nat} (h : m &&& 128 = 128) :
    (crcCounted s b).drop m = s.drop m := by
  unfold crcCounted
  split
  · rfl
  · exact State.onSpl_drop h

theorem noteResidence_passes (s : State) (p q : RPort) (n : Nat) (d : List Byte) :
    (noteResidence s p n).passes q d = s.passes q d := by
  cases p <;> cases q <;> rfl

theorem noteResidence_spl (s : State) (p : RPort) (n : Nat) : (noteResidence s p n).spl.cntLost = s.spl.cntLost ∧
    (match p with
      | .e => (noteResidence s p n).spl.resE2W = (s.spl.resE2W.1 + n, s.spl.resE2W.2 + 1)
      | .w => (noteResidence s p n).spl.resW2E = (s.spl.resW2E.1 + n, s.spl.resW2E.2 + 1)) := by
  cases p <;> exact ⟨rfl, rfl⟩

theorem passOn_passes (h : s.passes port b = true) : passOn s port b out = send s (.forwarded port.other out) :=
  if_pos h

theorem passOn_stops (h : s.passes port b = false) : passOn s port b out = s :=
  if_neg (by rw [h]; exact Bool.false_ne_true)

/-- Bytes that leave touch the outbox alone. -/
theorem passOn_keep (s : State) (port : RPort) (b out : List Byte) :
    (∀ p, (passOn s port b out).port p = s.port p) ∧ (passOn s port b out).eng = s.eng ∧
    (passOn s port b out).clock = s.clock ∧
    (passOn s port b out).outbox = if s.passes port b then .forwarded port.other out :: s.outbox else s.outbox := by
  unfold passOn
  split
  · exact ⟨fun p => by cases p <;> rfl, rfl, rfl, rfl⟩
  · exact ⟨fun _ => rfl, rfl, rfl, rfl⟩

/-- Before time is valid, and on time, no frame violates (R91). -/
theorem policing_clear (hp : s.tim.timeValid = true → s.policed port b = true) :
    (s.tim.timeValid && !s.policed port b) = false := by
  cases ht : s.tim.timeValid with
  | false => rfl
  | true => rw [hp ht]; rfl

theorem exec_frameForward_passing (hr : s.ringRuns = true) (hu : (s.port port).isUp = true)
    (hp : s.tim.timeValid = true → s.policed port b = true) (hpass : s.passes port b = true) :
    exec (.frameForward port b res none) s = .next (send (noteResidence (crcCounted s b) port res)
      (.forwarded port.other (forwardBytes (crcOk b) (res + (s.shimCode port).getD 0) b))) := by
  obtain ⟨-, hkeep, -⟩ := crcCounted_keep s b
  simp only [exec, execFrameForward, hr, hu, policing_clear hp, hpass, Bool.not_true, Bool.or_self,
    Bool.false_eq_true, if_false, if_true]
  exact congrArg _ (passOn_passes (by rw [noteResidence_passes]; exact (hkeep port b).trans hpass))

theorem exec_frameForward_stopped (hr : s.ringRuns = true) (hu : (s.port port).isUp = true)
    (hp : s.tim.timeValid = true → s.policed port b = true) (hpass : s.passes port b = false) :
    exec (.frameForward port b res none) s = .next (crcCounted s b) := by
  obtain ⟨-, hkeep, -⟩ := crcCounted_keep s b
  simp only [exec, execFrameForward, hr, hu, policing_clear hp, hpass, Bool.not_true, Bool.or_self,
    Bool.false_eq_true, if_false]
  exact congrArg _ (passOn_stops ((hkeep port b).trans hpass))

theorem exec_frameForward_violates (hr : s.ringRuns = true) (hu : (s.port port).isUp = true)
    (ht : s.tim.timeValid = true) (hp : s.policed port b = false) : exec (.frameForward port b res none) s =
    .next (violation (passOn (crcCounted s b) port b (failedPart b)) port (headOf b).slot) := by
  simp only [exec, execFrameForward, hr, hu, ht, hp, Bool.not_true, Bool.not_false, Bool.or_self, Bool.and_self,
    Bool.false_eq_true, if_false, if_true]
  rfl

/-- A violation is counted, the third within 1 ms isolates the port, and the other port stays. -/
theorem violation_ports (s : State) (p : RPort) (slot : Nat) :
    ((violation s p slot).port p).violSeen = true ∧
    ((violation s p slot).port p).violCount = bump 8 (s.port p).violCount ∧
    ((violation s p slot).port p).isolated = ((s.port p).isolated ||
      decide (3 ≤ (s.clock :: (s.port p).viols.filter fun v => decide (s.clock < v + msNs)).length)) ∧
    ∀ q, q ≠ p → (violation s p slot).port q = s.port q := by
  unfold violation
  extract_lets now vs s1 s2
  have hself : s2.port p = _ := (logEvent_port _ _ _ _ _ _).trans (onPort_self s p _)
  have hother (q : RPort) (hq : q ≠ p) : s2.port q = s.port q :=
    (logEvent_port _ _ _ _ _ _).trans ((onPort_ports s p _).2 q hq)
  clear_value s2
  split
  · next h =>
    obtain ⟨hself', hother', -⟩ := onPort_logEvent s2 p (fun r => { r with isolated := true, isolatedAt := now })
      (code := 0xA10C) rfl p.num 0
    refine ⟨?_, ?_, ?_, fun q hq => (hother' q hq).trans (hother q hq)⟩
    · rw [hself', hself]
    · rw [hself', hself]
    · rw [hself']
      simp only [Bool.and_eq_true, decide_eq_true_eq, Bool.not_eq_true'] at h
      exact (Bool.or_eq_true_iff.2 (.inr (decide_eq_true h.1))).symm
  · next h =>
    refine ⟨?_, ?_, ?_, hother⟩
    · rw [hself]
    · rw [hself]
    · rw [hself]
      cases hi : (s.port p).isolated with
      | true => rfl
      | false => exact (decide_eq_false fun hvs => h (by rw [hi, decide_eq_true hvs]; rfl)).symm

theorem dcqFull_port (s : State) (n : Nat) (p : RPort) : (dcqFull s n).port p = s.port p := by cases p <;> rfl

theorem dcqFull_flags (s : State) (n : Nat) :
    (dcqFull s n).eng.dcqFlags = s.eng.dcqFlags ||| BitVec.ofNat 26 (2 ^ n) := rfl

/-- A queue that leaves its band cuts the frame short and takes the port down. -/
theorem exec_frameForward_cut {k : Nat} (hr : s.ringRuns = true) (hu : (s.port port).isUp = true) :
    exec (.frameForward port b res (some k)) s = .next (portDown (logEvent (dcqFull (passOn s port b
      ((forwardBytes (crcOk b) (res + (s.shimCode port).getD 0) b).take k)) port.num) 0xA101 port.num) port
        .queueBand) := by
  simp only [exec, execFrameForward, hr, hu, Bool.not_true, Bool.or_self, Bool.false_eq_true, if_false]
  rfl

end

/-! ### The device's own frames: freeze (R71, R74, R84, R88) -/

/-- An instance that is taken is among those taken. -/
theorem takeInstance_taken (s : State) (slot b : Nat) : (takeInstance s slot b).spl.taken.contains (slot, b) = true := by
  simp [takeInstance]

theorem takeInstance_exportQ {s : State} {slot b : Nat} : (takeInstance s slot b).mnt.exportQ = s.mnt.exportQ := rfl

theorem takeInstance_ownStatus (s : State) (slot b c : Nat) : (takeInstance s slot b).ownStatus c = s.ownStatus c := rfl

section
variable {s : State} {f : OwnFrame} {b : Nat}

theorem freezeFrame_status (h : f.cls = 1) :
    freezeFrame s f b = pushFrozen s { f with type := 2, status := some (s.ownStatus b) } := by
  simp only [freezeFrame, h]

theorem freezeFrame_answers (h : f.cls = 2) :
    freezeFrame s f b = pushFrozen (takeAnswers s f.len).2 { f with type := 5, results := (takeAnswers s f.len).1 } := by
  simp only [freezeFrame, h]

/-- An export whose first run is longer than a chunk gives a part of it. -/
theorem freezeFrame_chunk {st off : Nat} {bytes : List Byte} {rest : List (Nat × Nat × List Byte)} (h : f.cls = 3)
    (hq : s.mnt.exportQ = (st, off, bytes) :: rest) (hl : chunkLen f.len < bytes.length) :
    freezeFrame s f b = pushFrozen
      (s.onMnt fun m => { m with exportQ := (st, off + chunkLen f.len, bytes.drop (chunkLen f.len)) :: rest })
      { f with type := 6, bulk := some (st, off, false, bytes.take (chunkLen f.len)) } := by
  simp only [freezeFrame, h, hq, takeChunk, not_le.2 hl, if_false]

/-- The refused answers that fit leave the queue. -/
theorem takeAnswers_refused (s : State) (len : Nat) :
    (takeAnswers s len).2.spl.ansRefused = s.spl.ansRefused.drop ((len - 20) / 12) ∧
    (takeAnswers s len).2.spl.frozen = s.spl.frozen := by
  refine ⟨?_, rfl⟩
  show s.spl.ansRefused.drop (s.spl.ansRefused.take ((len - 20) / 12)).length = _
  rw [List.length_take]
  rcases Nat.le_total ((len - 20) / 12) s.spl.ansRefused.length with h | h
  · rw [Nat.min_eq_left h]
  · rw [Nat.min_eq_right h, List.drop_length, List.drop_of_length_le h]

end

/-- The frame of an instance before its content is taken. -/
def emptyFrame (slot cycle : Nat) (sl : InlaySlot) : OwnFrame :=
  { slot := slot, cls := sl.cls, len := sl.len, start := sl.start, cycle := cycle }

section
variable {s : State} {slot cycle : Nat} {sl : InlaySlot} (ht : s.transmits = true)
    (hsl : (s.inlayFor (s.boundOf cycle)).slots[slot]? = some sl)
include ht hsl

section
variable (ho : sl.owner = s.spl.position) (hb : s.isBound (s.boundOf cycle) = true)
    (hk : s.spl.taken.contains (slot, s.boundOf cycle) = false)
    (hfrom : s.freezeAt (s.boundOf cycle) sl.start ≤ 16 * (s.tim.time : Int))
    (hto : 16 * (s.tim.time : Int) < s.freezeAt (s.boundOf cycle) sl.start + 16)
include ho hb hk hfrom hto

/-- A complete frame at its freeze. -/
theorem exec_ownFrameFreeze_complete : exec (.ownFrameFreeze slot cycle true) s =
    .next (freezeFrame (takeInstance s slot (s.boundOf cycle)) (emptyFrame slot cycle sl) (s.boundOf cycle)) := by
  simp only [exec, execOwnFrameFreeze, ht, hsl, ho, hb, hk, not_le.2 hto, not_lt.2 hfrom, ne_eq, not_true_eq_false,
    decide_false, Bool.not_true, Bool.or_self, Bool.false_eq_true, if_false]
  rfl

/-- A frame that is not complete at its freeze. -/
theorem exec_ownFrameFreeze_withdrawn : exec (.ownFrameFreeze slot cycle false) s =
    .next (logEvent ((takeInstance s slot (s.boundOf cycle)).onSpl fun x =>
      { x with cntWithdrawn := bump 8 x.cntWithdrawn }) 0xA112 slot) := by
  simp only [exec, execOwnFrameFreeze, ht, hsl, ho, hb, hk, not_le.2 hto, not_lt.2 hfrom, ne_eq, not_true_eq_false,
    decide_false, Bool.not_true, Bool.not_false, Bool.or_self, Bool.false_eq_true, if_false, if_true]

end

/-- A foreign instance, one out of its cycle, a taken one and a late one are refused. -/
theorem exec_ownFrameFreeze_refused {complete : Bool} (h : sl.owner ≠ s.spl.position ∨
    s.isBound (s.boundOf cycle) = false ∨ s.spl.taken.contains (slot, s.boundOf cycle) = true ∨
    s.freezeAt (s.boundOf cycle) sl.start + 16 ≤ 16 * (s.tim.time : Int)) :
    exec (.ownFrameFreeze slot cycle complete) s = .next (refuseFrame s) := by
  have hc : (decide (sl.owner ≠ s.spl.position) || !s.isBound (s.boundOf cycle) ||
      s.spl.taken.contains (slot, s.boundOf cycle) ||
      decide (s.freezeAt (s.boundOf cycle) sl.start + 16 ≤ 16 * (s.tim.time : Int))) = true := by
    simp only [Bool.or_eq_true, decide_eq_true_eq, Bool.not_eq_true']
    tauto
  simp only [exec, execOwnFrameFreeze, ht, hsl, hc, Bool.not_true, Bool.false_eq_true, if_false, if_true]

end

/-! ### The device's own frames: launch (R70, R90) -/

section
variable {s : State} {port : RPort} {f : OwnFrame}

/-- The oldest frame that awaits a port counts as launched there. -/
def frameOut (s : State) (port : RPort) : State := s.onSpl fun x => { x with frozen := markOut port x.frozen }

theorem exec_ownFrameLaunch_muted (hf : (s.spl.frozen.find? fun x => x.awaits port) = some f)
    (h : s.transmits = false ∨ s.spl.guardCut = true) : exec (.ownFrameLaunch port) s = .next (frameOut s port) := by
  have hc : (!s.transmits || s.spl.guardCut) = true := by rcases h with h | h <;> simp [h]
  simp only [exec, execOwnFrameLaunch, hf, hc, if_true, frameOut]

theorem exec_ownFrameLaunch_clean (hf : (s.spl.frozen.find? fun x => x.awaits port) = some f)
    (ht : s.transmits = true) (hg : s.spl.guardCut = false) (hb : s.blocksOut port f = 0) :
    exec (.ownFrameLaunch port) s =
      .next (recordOwn (send (frameOut s port) (.ownFrame port (f.bytes s.deviceId))) f) := by
  simp only [exec, execOwnFrameLaunch, hf, ht, hg, hb, Bool.not_true, Bool.or_self, Bool.false_eq_true, if_false,
    frameOut]

theorem exec_ownFrameLaunch_late (hf : (s.spl.frozen.find? fun x => x.awaits port) = some f)
    (ht : s.transmits = true) (hg : s.spl.guardCut = false) (hb : s.blocksOut port f = 1)
    (hl : 0 ≤ s.lateness port f) : exec (.ownFrameLaunch port) s =
    .next (send (guardHit (frameOut s port) port) (.ownFrame port (s.blocksSent port f))) := by
  have hcut : (frameOut s port).spl.guardCut = false := hg
  rw [frameOut] at hcut
  simp only [exec, execOwnFrameLaunch, hf, ht, hg, hb, replaceBlocks, hcut, not_lt.2 hl, decide_false, Bool.not_true,
    Bool.false_and, Bool.or_self, Bool.false_eq_true, if_false, frameOut]

theorem recordOwn_frozen (s : State) (f : OwnFrame) : (recordOwn s f).spl.frozen = s.spl.frozen := by
  unfold recordOwn
  split
  · rfl
  · dsimp only
    split <;> rfl

/-- A replaced block is counted, and the third within 1 s cuts the path. -/
theorem guardHit_spl (hg : s.spl.guardCut = false) : (guardHit s port).spl.frozen = s.spl.frozen ∧
    (guardHit s port).spl.cntGuard = bump 8 s.spl.cntGuard ∧ (guardHit s port).spl.guardCut =
      decide (3 ≤ (s.clock :: s.spl.guardHits.filter fun x => decide (s.clock < x + secNs)).length) := by
  unfold guardHit
  extract_lets now hs s1
  have hs1 : s1.spl.frozen = s.spl.frozen ∧ s1.spl.cntGuard = bump 8 s.spl.cntGuard ∧ s1.spl.guardCut = false :=
    ⟨rfl, rfl, hg⟩
  clear_value s1
  obtain ⟨hfrozen, hcnt, hcut⟩ := hs1
  by_cases h : 3 ≤ hs.length
  · rw [if_pos (by simp [h, hg])]
    exact ⟨hfrozen, hcnt, (decide_eq_true h).symm⟩
  · rw [if_neg (by simp [h])]
    exact ⟨hfrozen, hcnt, hcut.trans (decide_eq_false h).symm⟩

end


/-- Settles O54: an urgent set that is acted on or only passed on, a frame by what becomes of it at the forwarder, and
the instances of own frames at their freeze and their launch. -/
theorem ringFramesSent : Obligations.RingFramesSent := by
  refine ⟨?_, ?_, ?_, ?_, ?_, ?_, ?_, ?_, ?_, ?_, ?_, ?_, ?_, ?_, ?_, ?_, ?_, ?_, ?_⟩
  · -- URGENT_ARM_BLOCK
    intro s port x hr hl hx hu hv hring hcode hready hnew hbyp
    obtain ⟨hact, -, -⟩ := actUrgent_forwarded (port := port) hready hnew
    obtain ⟨hspl, -, -⟩ := urgActs_spl (urgNoted (forwardUrgent s port x) .armBlock 1 x.ext.toNat)
    have ht := exec_urgent_newer (c := .urgentArmBlock port x) rfl hr hl hx hu hv hring hcode
    rw [hact] at ht
    refine completes_exec ht ?_ (by dsimp only [execMask]; rfl)
    rw [hspl]
    refine ⟨rfl, rfl, rfl, urgBlock_legs ?_⟩
    rw [urgNoted, logEvent_arm, State.onSpl_arm, forwardUrgent_arm, hbyp]
  · -- URGENT_ARM_BLOCK that is not newer
    intro s port x hr hl hx hu hv hring hold hfwd
    exact completes_urgent_stale rfl hr hl hx hu hv hring hold hfwd
  · -- URGENT_BYPASS_ALL
    intro s port x hr hl hx hu hv hring hcode hready hnew hbyp
    obtain ⟨-, hact, -⟩ := actUrgent_forwarded (port := port) hready hnew
    obtain ⟨-, hspl, -⟩ := urgActs_spl (urgNoted (forwardUrgent s port x) .bypassAll 2 x.ext.toNat)
    have ht := exec_urgent_newer (c := .urgentBypassAll port x) rfl hr hl hx hu hv hring hcode
    rw [hact] at ht
    refine completes_exec ht ?_ (by dsimp only [execMask]; rfl)
    rw [hspl]
    exact ⟨rfl, rfl, rfl⟩
  · -- URGENT_BYPASS_ALL that is not newer
    intro s port x hr hl hx hu hv hring hold hfwd
    exact completes_urgent_stale rfl hr hl hx hu hv hring hold hfwd
  · -- URGENT_RESUME
    intro s port x hr hl hx hu hv hring hcode hready hnew
    obtain ⟨-, -, hact⟩ := actUrgent_forwarded (port := port) hready hnew
    obtain ⟨-, -, hspl⟩ := urgActs_spl (urgNoted (forwardUrgent s port x) .none 3 x.ext.toNat)
    have ht := exec_urgent_newer (c := .urgentResume port x) rfl hr hl hx hu hv hring hcode
    rw [hact] at ht
    refine completes_exec ht ?_ (by dsimp only [execMask]; rfl)
    rw [hspl]
    exact ⟨rfl, rfl, rfl⟩
  · -- URGENT_RESUME that is not newer
    intro s port x hr hl hx hu hv hring hold hfwd
    exact completes_urgent_stale rfl hr hl hx hu hv hring hold hfwd
  · -- FRAME_FORWARD of a valid frame
    intro s port b res hr hu hcrc hp hpass
    have ht := exec_frameForward_passing (res := res) hr hu hp hpass
    rw [crcCounted, if_pos hcrc, hcrc] at ht
    obtain ⟨hcnt, hres⟩ := noteResidence_spl s port res
    exact completes_within ht ⟨congrArg (List.cons _) (noteResidence_outbox s port res), hcnt, hres⟩
      ((send_drop _ _ rfl).trans (noteResidence_drop s port res rfl))
  · -- FRAME_FORWARD of a frame whose CRC fails
    intro s port b res hr hu hcrc hp hpass
    have ht := exec_frameForward_passing (res := res) hr hu hp hpass
    rw [hcrc] at ht
    obtain ⟨hcnt, -⟩ := noteResidence_spl (crcCounted s b) port res
    obtain ⟨-, -, hout, -⟩ := crcCounted_keep s b
    refine completes_within ht ⟨congrArg (List.cons _) ((noteResidence_outbox _ port res).trans hout), ?_⟩
      ((send_drop _ _ rfl).trans ((noteResidence_drop _ port res rfl).trans (crcCounted_drop s b rfl)))
    rw [send_spl, hcnt, crcCounted_cntLost, hcrc]
    rfl
  · -- FRAME_FORWARD where nothing passes
    intro s port b res hr hu hpass hp
    exact completes_within (exec_frameForward_stopped hr hu hp hpass) (crcCounted_cntLost s b) (crcCounted_drop s b rfl)
  · -- FRAME_FORWARD that policing refuses
    intro s port b res hr hu ht hp
    obtain ⟨hport, hpass, hout, hclock⟩ := crcCounted_keep s b
    obtain ⟨hport', -, hclock', hout'⟩ := passOn_keep (crcCounted s b) port b (failedPart b)
    obtain ⟨hseen, hcount, hiso, hother⟩ := violation_ports (passOn (crcCounted s b) port b (failedPart b)) port
      (headOf b).slot
    simp only [hport', hport, hclock', hclock] at hcount hiso hother
    refine completes_within (exec_frameForward_violates hr hu ht hp) ⟨hseen, hcount, hiso, hother, ?_⟩
      ((violation_drop _ _ _ rfl).trans ((passOn_drop _ _ _ _ rfl).trans (crcCounted_drop s b rfl)))
    rw [violation_outbox, hout', hpass, hout]
  · -- FRAME_FORWARD with the queue outside its band
    intro s port b res k hr hu
    obtain ⟨hport, heng, hclock, hout⟩ := passOn_keep s port b
      ((forwardBytes (crcOk b) (res + (s.shimCode port).getD 0) b).take k)
    have ht := exec_frameForward_cut (b := b) (res := res) (k := k) hr hu
    generalize passOn s port b _ = x at *
    have hport' (q : RPort) : (logEvent (dcqFull x port.num) 0xA101 port.num).port q = s.port q :=
      (logEvent_port _ _ _ _ _ _).trans ((dcqFull_port x _ q).trans (hport q))
    obtain ⟨hself, hother, -⟩ := portDown_up .queueBand ((congrArg RingPort.isUp (hport' port)).trans hu)
    refine completes_exec ht ⟨?_, ?_, fun q hq => (hother q hq).trans (hport' q), ?_⟩ (by dsimp only [execMask]; rfl)
    · rw [portDown_eng, logEvent_eng, dcqFull_flags, heng]
    · rw [hself, hport', logEvent_clock, dcqFull_clock, hclock]
    · rw [portDown_outbox, logEvent_outbox, dcqFull_outbox, hout]
  · -- OWN_FRAME_FREEZE of the status
    intro s slot cycle sl ht hsl ho hb hk hfrom hto hcls
    have hexec := exec_ownFrameFreeze_complete ht hsl ho hb hk hfrom hto
    rw [freezeFrame_status (f := emptyFrame slot cycle sl) hcls, takeInstance_ownStatus] at hexec
    refine completes_within hexec ⟨?_, takeInstance_taken s slot _⟩ (State.onSpl_drop rfl)
    rw [pushFrozen, State.onSpl_spl, emptyFrame, hcls]
    rfl
  · -- OWN_FRAME_FREEZE of the answers
    intro s slot cycle sl ht hsl ho hb hk hfrom hto hcls
    have hexec := exec_ownFrameFreeze_complete ht hsl ho hb hk hfrom hto
    rw [freezeFrame_answers (f := emptyFrame slot cycle sl) hcls] at hexec
    obtain ⟨href, hfrozen⟩ := takeAnswers_refused (takeInstance s slot (s.boundOf cycle)) sl.len
    refine completes_within hexec ⟨?_, href⟩ (State.onSpl_drop rfl)
    rw [pushFrozen, State.onSpl_spl, emptyFrame, hcls]
    rfl
  · -- OWN_FRAME_FREEZE of a chunk
    intro s slot cycle sl st off bytes rest ht hsl ho hb hk hfrom hto hcls hq hlen
    have hexec := exec_ownFrameFreeze_complete ht hsl ho hb hk hfrom hto
    rw [freezeFrame_chunk (f := emptyFrame slot cycle sl) hcls (takeInstance_exportQ.trans hq) hlen] at hexec
    refine completes_within hexec ⟨rfl, ?_⟩ ((State.onSpl_drop rfl).trans ((State.onMnt_drop rfl).trans (State.onSpl_drop rfl)))
    rw [pushFrozen, State.onSpl_spl, emptyFrame, hcls]
    rfl
  · -- OWN_FRAME_FREEZE of a frame that is not complete
    intro s slot cycle sl ht hsl ho hb hk hfrom hto
    exact completes_within (exec_ownFrameFreeze_withdrawn ht hsl ho hb hk hfrom hto)
      ⟨rfl, rfl, takeInstance_taken s slot _, logged_of rfl rfl rfl rfl _ _ _ _⟩
      ((logEvent_drop _ _ _ _ _ rfl).trans ((State.onSpl_drop rfl).trans (takeInstance_drop s slot _ rfl)))
  · -- OWN_FRAME_FREEZE that is refused
    intro s slot cycle complete sl ht hsl h
    exact completes_within (exec_ownFrameFreeze_refused ht hsl h) rfl (State.onSpl_drop rfl)
  · -- OWN_FRAME_LAUNCH in the window
    intro s port f hf ht hg hb
    refine completes_within (exec_ownFrameLaunch_clean hf ht hg hb) ⟨?_, ?_⟩
      ((recordOwn_drop _ f rfl).trans ((send_drop _ _ rfl).trans (State.onSpl_drop rfl)))
    · rw [recordOwn_outbox]
      rfl
    · rw [recordOwn_frozen]
      rfl
  · -- OWN_FRAME_LAUNCH with one block outside the window
    intro s port f hf ht hg hb hl
    obtain ⟨hfrozen, hcnt, hcut⟩ := guardHit_spl (s := frameOut s port) (port := port) hg
    exact completes_exec (exec_ownFrameLaunch_late hf ht hg hb hl)
      ⟨hfrozen, hcnt, hcut, congrArg (List.cons _) (guardHit_outbox _ port)⟩ (by dsimp only [execMask]; rfl)
  · -- OWN_FRAME_LAUNCH of a device that does not transmit
    intro s port f hf h
    exact completes_within (exec_ownFrameLaunch_muted hf h) rfl (State.onSpl_drop rfl)

end Sys2Proof.Machine
end

section
/-! SUPPORT. Register operations of every requester: REGISTER_WRITE, the operations that the Spline holds, the frames of
the service port and the requests of the local bus (O46). -/

namespace Sys2Proof.Machine

/-! ### The checks of a write, and what the register then does with it (R362, R363) -/

section
variable {s x : State} {p : Requester} {addr v : Word} {op : State → RegRes} {code : Nat}

/-- A register operation of an open port that leaves the phase as it is gets its answer. -/
theorem regCmd_open (hp : s.portOpen p = true) (ho : op s = (x, code)) (hph : x.dev.phase = s.dev.phase) :
    regCmd s p op = answer x p code := by
  simp only [regCmd, hp, ho, hph, beq_self_eq_true, if_true]

theorem regWrite_misaligned (ha : addr.toNat % 4 ≠ 0) : regWrite s p addr v = (s, 7) := if_pos ha

theorem regWrite_absent (ha : addr.toNat % 4 = 0) (hv : readReg s p addr = none) : regWrite s p addr v = (s, 3) := by
  simp only [regWrite, ha, ne_eq, not_true_eq_false, if_false, hv, Option.isNone_none, if_true]

section
/-! A write to a register of the map goes to its block. -/

variable (ha : addr.toNat % 4 = 0) (hv : (readReg s p addr).isSome = true)
include ha hv

theorem regWrite_thm (hb : addr.toNat / 65536 = 0x0B) : regWrite s p addr v = writeThm s p addr v := by
  simp only [regWrite, ha, hb, ne_eq, not_true_eq_false, if_false, Option.isNone_eq_false_iff.mpr hv,
    Bool.false_eq_true]

theorem regWrite_lbus (hb : addr.toNat / 65536 = 0x0E) : regWrite s p addr v = writeLbus s p addr v := by
  simp only [regWrite, ha, hb, ne_eq, not_true_eq_false, if_false, Option.isNone_eq_false_iff.mpr hv,
    Bool.false_eq_true]

theorem regWrite_pwr (hb : addr.toNat / 65536 = 0x0F) : regWrite s p addr v = writePwr s p addr v := by
  simp only [regWrite, ha, hb, ne_eq, not_true_eq_false, if_false, Option.isNone_eq_false_iff.mpr hv,
    Bool.false_eq_true]

theorem regWrite_mnt (hb : addr.toNat / 65536 = 0x11) : regWrite s p addr v = writeMnt s p addr v := by
  simp only [regWrite, ha, hb, ne_eq, not_true_eq_false, if_false, Option.isNone_eq_false_iff.mpr hv,
    Bool.false_eq_true]

/-- The ARM_ block has no writable field. -/
theorem regWrite_arm (hb : addr.toNat / 65536 = 0x03) : regWrite s p addr v = noField s p addr := by
  simp only [regWrite, ha, hb, ne_eq, not_true_eq_false, if_false, Option.isNone_eq_false_iff.mpr hv,
    Bool.false_eq_true]

end

theorem plain_granted {f : State → State} (hr : s.right p .configure addr = true) : plain s p addr f = (f s, 0) :=
  if_pos hr

/-- MNT_ARG_MASK is held per requester. -/
theorem regWrite_argMask (hr : s.right p .configure 0x00110000 = true) (hv : (readReg s p 0x00110000).isSome = true) :
    regWrite s p 0x00110000 v = (s.onMnt fun x => { x with argMask := x.argMask.set p.idx v }, 0) :=
  (regWrite_mnt rfl hv rfl).trans (plain_granted hr)

/-- A write on an open port completes with the state and the status that `regWrite` gives. -/
theorem completes_write {bs : List Block} {post : State → Prop} (hp : s.portOpen p = true)
    (hw : regWrite s p addr v = (x, code)) (hpost : post (answer x p code))
    (hd : x.drop (blockMask bs) = s.drop (blockMask bs)) (hph : (blockMask bs).testBit Block.phase.idx = false)
    (hout : blockMask bs &&& 137438953472 = 137438953472) : Completes (.registerWrite p addr v) s bs post :=
  have hcmd : regCmd s p (fun s => regWrite s p addr v) = answer x p code :=
    regCmd_open hp hw (same_of_drop hd .phase hph)
  completes_within (congrArg Host.Outcome.next hcmd) hpost ((answer_drop x p code hout).trans hd)

/-- A write that leaves the state as it is only answers. -/
theorem completes_write_unchanged (hp : s.portOpen p = true) (hw : regWrite s p addr v = (s, code)) :
    Completes (.registerWrite p addr v) s [.outbox] fun t => Answered s t p code :=
  completes_write hp hw (answered_of rfl) rfl rfl rfl

end

/-! ### An operation of Table 04.11 -/

section
variable {s x : State} {p : Requester} {op : BitVec 8} {addr v : Word}

theorem regOperate_malformed (h1 : op ≠ 1#8) (h2 : op ≠ 2#8) : regOperate s p op.toNat addr v = (s, 7, 0) := by
  unfold regOperate
  split
  · next h => exact absurd (BitVec.eq_of_toNat_eq h) h1
  · next h => exact absurd (BitVec.eq_of_toNat_eq h) h2
  · rfl

theorem regOperate_read (h : op = 1#8) : regOperate s p op.toNat addr v = regRead s p addr := by
  rw [h]
  rfl

theorem regOperate_write {code : Nat} (h : op = 2#8) (hw : regWrite s p addr v = (x, code)) :
    regOperate s p op.toNat addr v = (x, code, 0) := by
  subst h
  change ((regWrite s p addr v).1, (regWrite s p addr v).2, (0 : Word)) = _
  rw [hw]

end

/-! ### The operations that the Spline holds (R87) -/

section
variable {s x : State} {h : HeldOp} {rest : List HeldOp} {code : Nat} {w : Word}

/-- The oldest operation held is carried out, and its result waits for the answer frame. -/
theorem exec_regOpExecute_head (hq : s.spl.regQueue = h :: rest) (hp : s.portOpen .spline = true)
    (ho : regOperate (s.onSpl fun x => { x with regQueue := rest }) .spline h.op.op.toNat h.op.addr h.op.data =
      (x, code, w)) (hph : x.dev.phase = s.dev.phase) :
    exec .regOpExecute s =
      .next (x.onSpl fun y => { y with ansResults := y.ansResults ++ [resultOf h.op (x, code, w)] }) := by
  simp only [exec, execRegOpExecute, hq, hp, ho, hph, Bool.not_true, Bool.false_eq_true, if_false, beq_self_eq_true,
    if_true]

end

/-! ### The frames of the service port (R353) -/

section
variable {s x : State} {seq : Nat} {o : RegOp} {ops : List RegOp} {code : Nat} {w : Word}

/-- The service port sends an answer and remembers it with its request. -/
def serviceSent (x : State) (seq : Nat) (content : List Byte) (f : SvcFrame) : State :=
  send (x.onSec fun z => { z with svcSeq := some (seq, content), svcAns := some f }) (.service f)

theorem serviceSent_drop {fm : Nat} (x : State) (seq : Nat) (content : List Byte) (f : SvcFrame)
    (ho : fm &&& 137438953472 = 137438953472) (hs : fm &&& 2147483648 = 2147483648) :
    (serviceSent x seq content f).drop fm = x.drop fm :=
  (send_drop _ _ ho).trans (State.onSec_drop hs (.inr fun _ => rfl))

/-- A request without operations. -/
theorem exec_svcRegReq_empty (hp : s.portOpen .service = true) (hn : s.sec.svcAns = none) :
    exec (.svcRegReq seq []) s = .next (serviceSent s seq [1#8] (.ack 7#8 0)) :=
  congrArg _ (serviceRequest_fresh hp (.inl hn) rfl rfl)

/-- A request of 1 to 16 operations that does not repeat the previous one. -/
theorem exec_svcRegReq_run (hp : s.portOpen .service = true) (h1 : 1 ≤ ops.length) (h16 : ops.length ≤ 16)
    (hn : s.sec.svcAns = none ∨ s.sec.svcSeq ≠ some (seq, 1#8 :: ops.flatMap opBytes))
    (hph : (runOps s ops).1.dev.phase = s.dev.phase) :
    exec (.svcRegReq seq ops) s =
      .next (serviceSent (runOps s ops).1 seq (1#8 :: ops.flatMap opBytes) (.regRsp (runOps s ops).2)) := by
  refine congrArg _ (serviceRequest_fresh hp hn (if_neg ?_) hph)
  simp only [Bool.or_eq_true, decide_eq_true_eq]
  omega

theorem runOps_single (ho : regOperate s .service o.op.toNat o.addr o.data = (x, code, w))
    (hph : x.dev.phase = s.dev.phase) : runOps s [o] = (x, [resultOf o (x, code, w)]) := by
  simp only [runOps, ho, hph, beq_self_eq_true, if_true]

/-- A request of one operation. -/
theorem exec_svcRegReq_single (hp : s.portOpen .service = true) (hn : s.sec.svcAns = none)
    (ho : regOperate s .service o.op.toNat o.addr o.data = (x, code, w)) (hph : x.dev.phase = s.dev.phase) :
    exec (.svcRegReq seq [o]) s =
      .next (serviceSent x seq (1#8 :: [o].flatMap opBytes) (.regRsp [resultOf o (x, code, w)])) := by
  have hrun := runOps_single ho hph
  have h := exec_svcRegReq_run (seq := seq) (ops := [o]) hp (Nat.le_refl 1) (by simp) (.inl hn)
    (by rw [hrun]; exact hph)
  rwa [hrun] at h

end

/-! ### The requests of the local bus (R315) -/

/-- A loaded buffer is pending with its frame; the others stay. -/
theorem loadBuf_loaded (s : State) (b : Fin 16) (f : CanFrame) :
    (loadBuf s b f).lbus.bufs[b].st = 1 ∧ (loadBuf s b f).lbus.bufs[b].frame = some f ∧
    ∀ k, k ≠ b → (loadBuf s b f).lbus.bufs[k] = s.lbus.bufs[k] := by
  unfold loadBuf
  extract_lets n
  refine ⟨?_, ?_, fun k hk => (onBuf_at ..).trans (if_neg (Ne.symm hk))⟩ <;> rw [onBuf_at, if_pos rfl]

theorem loadBuf_svcQ (s : State) (b : Fin 16) (f : CanFrame) : (loadBuf s b f).lbus.svcQ = s.lbus.svcQ := rfl

section
variable {s x : State} {q : SvcReq} {rest : List SvcReq} {code : Nat} {w : Word}

/-- The oldest request leaves the queue. -/
def requestTaken (s : State) (rest : List SvcReq) : State := s.onLbus fun b => { b with svcQ := rest }

/-- The result of a request: one that found the queue full is refused, the others are carried out. -/
theorem exec_lbusServiceRequest_answered (hq : s.lbus.svcQ = q :: rest) (hp : s.portOpen .lbus = true)
    (hb : s.lbus.bufs[(14 : Fin 16)].st = 0)
    (ho : (if q.refused = true then (requestTaken s rest, 0x06, 0)
      else regOperate (requestTaken s rest) .lbus q.op.toNat q.addr q.data) = (x, code, w))
    (hph : x.dev.phase = s.dev.phase) :
    exec .lbusServiceRequest s = .next (loadBuf x 14 (answerFrame s q (x, code, w))) := by
  have hfree : s.lbus.bufs[14].st = 0 := hb
  have hgo : ¬(!s.portOpen .lbus || decide (s.lbus.bufs[14].st ≠ 0)) = true := by simp [hp, hfree]
  unfold requestTaken at ho
  simp only [exec, execLbusServiceRequest, hq, if_neg hgo, ho, hph, beq_self_eq_true, if_true]

theorem exec_lbusServiceRequest_refused (hq : s.lbus.svcQ = q :: rest) (hp : s.portOpen .lbus = true)
    (hb : s.lbus.bufs[(14 : Fin 16)].st = 0) (hr : q.refused = true) :
    exec .lbusServiceRequest s =
      .next (loadBuf (requestTaken s rest) 14 (answerFrame s q (requestTaken s rest, 0x06, 0))) :=
  exec_lbusServiceRequest_answered hq hp hb (if_pos hr) rfl

theorem exec_lbusServiceRequest_operated (hq : s.lbus.svcQ = q :: rest) (hp : s.portOpen .lbus = true)
    (hb : s.lbus.bufs[(14 : Fin 16)].st = 0) (hr : q.refused = false)
    (ho : regOperate (requestTaken s rest) .lbus q.op.toNat q.addr q.data = (x, code, w))
    (hph : x.dev.phase = s.dev.phase) :
    exec .lbusServiceRequest s = .next (loadBuf x 14 (answerFrame s q (x, code, w))) :=
  exec_lbusServiceRequest_answered hq hp hb ((if_neg (by rw [hr]; exact Bool.false_ne_true)).trans ho) hph

end

/-! ### THM_HEAT_CMD (R260) -/

section
variable {s : State} {n : Fin 12} {action : Nat}

/-- What an action asks of a heater: automatic, on or off for the override time. -/
def heatAsked (s : State) (action : Nat) : Option (Bool × Nat) :=
  if action = 0 then none else some (action == 1, s.clock + secNs * s.im.heatOverride)

/-- The state with a heater forced, or left to the control again. -/
def heatForced (s : State) (n : Fin 12) (f : Option (Bool × Nat)) : State :=
  s.onThm fun x => { x with heatForce := x.heatForce.set n f }

/-- A heater command that is taken sets what is forced; where HE runs, the heater follows. -/
theorem opThmHeat_taken (hc : s.lswClass n = 3) (ha : action < 3) (hl : s.locks.getLsbD 6 = false) :
    opThmHeat (n.val + 1) action s =
      (if s.heRuns then staggerHeater (settleHeater (heatForced s n (heatAsked s action)) n)
        else heatForced s n (heatAsked s action), 0) := by
  have hn : 1 ≤ n.val + 1 ∧ n.val + 1 ≤ 12 := ⟨Nat.le_add_left .., n.isLt⟩
  have hok : ¬(s.lswClass n != 3 || decide (3 ≤ action)) = true := by simp [hc, ha]
  unfold opThmHeat
  rw [dif_pos hn]
  simp only [Nat.add_sub_cancel, Fin.eta, if_neg hok, hl, Bool.false_eq_true, if_false]
  match action, ha with
  | 0, _ | 1, _ | 2, _ => rfl

/-- Nothing but the heaters and their switches answers a heater command. -/
theorem opThmHeat_effect (hc : s.lswClass n = 3) (ha : action < 3) (hl : s.locks.getLsbD 6 = false) :
    ∃ x, opThmHeat (n.val + 1) action s = (x, 0) ∧
      x.thm.heatForce = s.thm.heatForce.set n (heatAsked s action) ∧ x.drop 8665432064 = s.drop 8665432064 := by
  have hd := opThmHeat_drop (fm := 8665432064) (n.val + 1) action s rfl
  rw [opThmHeat_taken hc ha hl] at hd ⊢
  refine ⟨_, rfl, ?_, hd⟩
  split
  · rw [staggerHeater_force, settleHeater_force]
    rfl
  · rfl

end

/-- THM_HEAT_CMD written with the right. -/
theorem regWrite_heatCmd {s : State} {p : Requester} {v : Word} {n : Fin 12}
    (hv : (readReg s p 0x000B0074).isSome = true) (hr : s.right p .operate 0x000B0074 = true)
    (hn : v.toNat / 256 % 16 = n.val + 1) :
    regWrite s p 0x000B0074 v = opThmHeat (n.val + 1) (v.toNat % 4) s := by
  rw [regWrite_thm rfl hv rfl, ← hn]
  exact if_pos hr

/-- Settles O46: each write and each operation carried is brought to `regWrite` or `regRead` of its register. -/
theorem registerWritesAndPorts : Obligations.RegisterWritesAndPorts := by
  unfold Obligations.RegisterWritesAndPorts
  refine ⟨?_, ?_, ?_, ?_, ?_, ?_, ?_, ?_, ?_, ?_, ?_, ?_, ?_, ?_, ?_, ?_, ?_⟩
  · -- an unaligned address
    intro s p addr v hp ha
    exact completes_write_unchanged hp (regWrite_misaligned ha)
  · -- no register there
    intro s p addr v hp ha hv
    exact completes_write_unchanged hp (regWrite_absent ha hv)
  · -- MNT_ARG_MASK
    intro s p v hp hr hv
    exact completes_write hp (regWrite_argMask hr hv) ⟨rfl, rfl⟩ (State.onMnt_drop rfl) rfl rfl
  · -- LBUS_RX_SEL
    intro s p v hp hr hv
    exact completes_write hp ((regWrite_lbus rfl hv rfl).trans (plain_granted hr)) ⟨rfl, rfl⟩
      (State.onLbus_drop rfl) rfl rfl
  · -- PWR_DCQ_FLAGS
    intro s p v hp hr hv
    exact completes_write hp ((regWrite_pwr rfl hv rfl).trans (plain_granted hr))
      ⟨rfl, rfl, rfl, rfl, rfl, rfl, rfl, rfl⟩
      ((State.onEvt_drop rfl (.inr fun _ => rfl) (.inr fun _ => rfl) (.inr fun _ => rfl)).trans (State.onEng_drop rfl))
      rfl rfl
  · -- LBUS_RX
    intro s p v hp hr hv
    exact completes_write hp ((regWrite_lbus rfl hv rfl).trans (plain_granted hr)) ⟨rfl, rfl⟩
      (State.onLbus_drop rfl) rfl rfl
  · -- a register without a writable field
    intro s p v hp hr hv
    exact completes_write_unchanged hp ((regWrite_arm rfl hv rfl).trans (if_pos hr))
  · -- REG_OP_EXECUTE of a malformed operation
    intro s h rest hq hp h1 h2
    exact completes_within (exec_regOpExecute_head hq hp (regOperate_malformed h1 h2) rfl) rfl
      ((State.onSpl_drop rfl).trans (State.onSpl_drop rfl))
  · -- REG_OP_EXECUTE of a read
    intro s h rest v hq hp ho ha hv hr hl
    have hread := (regOperate_read (v := h.op.data) ho).trans (regRead_passed ha hv hr)
    rw [readValue_low hl] at hread
    exact completes_within (exec_regOpExecute_head hq hp hread rfl) ⟨rfl, (setShadow_latched _ _ _ _).1⟩
      ((State.onSpl_drop rfl).trans ((setShadow_drop _ _ _ _ rfl).trans (State.onSpl_drop rfl)))
  · -- SVC_REG_REQ without operations
    intro s seq hp hn
    exact completes_within (exec_svcRegReq_empty hp hn) ⟨rfl, rfl⟩ (serviceSent_drop _ _ _ _ rfl rfl)
  · -- SVC_REG_REQ of a malformed operation
    intro s seq o hp hn h1 h2
    exact completes_within (exec_svcRegReq_single hp hn (regOperate_malformed h1 h2) rfl) ⟨rfl, rfl, rfl⟩
      (serviceSent_drop _ _ _ _ rfl rfl)
  · -- LBUS_SERVICE_REQUEST refused for the queue
    intro s q rest hq hp hb hr
    obtain ⟨hst, hframe, hother⟩ := loadBuf_loaded (requestTaken s rest) 14
      (answerFrame s q (requestTaken s rest, 0x06, 0))
    exact completes_within (exec_lbusServiceRequest_refused hq hp hb hr)
      ⟨rfl, hst, by rw [hframe]; rfl, by rw [hframe]; rfl, hother⟩
      ((loadBuf_drop _ _ _ rfl).trans (State.onLbus_drop rfl))
  · -- LBUS_SERVICE_REQUEST of a read
    intro s q rest v hq hp hb hr ho ha hv hright hl
    obtain ⟨x, hread, hph, hrest, -⟩ := regRead_current (s := requestTaken s rest) ha hv hright hl
    obtain ⟨hst, hframe, -⟩ := loadBuf_loaded x 14 (answerFrame s q (x, 0x00, v))
    exact completes_exec
      (exec_lbusServiceRequest_operated hq hp hb hr ((regOperate_read (v := q.data) ho).trans hread) hph)
      ⟨hrest, hst, by rw [hframe]; rfl, by rw [hframe]; rfl⟩ (by dsimp only [execMask]; rfl)
  · -- LBUS_SERVICE_REQUEST of a write to THM_HEAT_CMD
    intro s q rest n action hq hp hb hr ho haddr hn haction ha hv hright hc hl
    obtain ⟨x, hx, hforce, hd⟩ := opThmHeat_effect (s := requestTaken s rest) hc ha hl
    have hwrite : regWrite (requestTaken s rest) .lbus q.addr q.data = (x, 0) := by
      rw [haddr, regWrite_heatCmd (s := requestTaken s rest) hv hright hn, haction, hx]
    have hlbus : x.lbus = (requestTaken s rest).lbus := same_of_drop hd .lbus rfl
    obtain ⟨hst, hframe, hother⟩ := loadBuf_loaded x 14 (answerFrame s q (x, 0, 0))
    refine completes_within
      (exec_lbusServiceRequest_operated hq hp hb hr (regOperate_write ho hwrite) (same_of_drop hd .phase rfl))
      ⟨?_, hst, hforce, by rw [hframe]; rfl, fun b hne => ?_⟩
      ((loadBuf_drop _ _ _ rfl).trans ((drop_sub rfl hd).trans (State.onLbus_drop rfl)))
    · rw [loadBuf_svcQ, hlbus]
      rfl
    · rw [hother b hne, hlbus]
      rfl
  · -- SVC_REG_REQ of several operations
    intro s seq ops hp h1 h16 hn hph
    exact completes_exec (exec_svcRegReq_run hp h1 h16 hn hph) ⟨rfl, rfl⟩ (by dsimp only [execMask]; rfl)
  · -- SVC_REG_REQ of a read
    intro s seq o v hp hn ho ha hv hr hl
    obtain ⟨x, hread, hph, -, hout⟩ := regRead_current ha hv hr hl
    exact completes_exec (exec_svcRegReq_single hp hn ((regOperate_read (v := o.data) ho).trans hread) hph)
      (congrArg (List.cons _) hout) (by dsimp only [execMask]; rfl)
  · -- SVC_REG_REQ of a write to MNT_ARG_MASK
    intro s seq o hp hn ho haddr hv hr
    have hwrite : regWrite s .service o.addr o.data = _ := haddr ▸ regWrite_argMask hr hv
    exact completes_within (exec_svcRegReq_single hp hn (regOperate_write ho hwrite) rfl) ⟨rfl, rfl⟩
      ((serviceSent_drop _ _ _ _ rfl rfl).trans (State.onMnt_drop rfl))

end Sys2Proof.Machine
end

section
/-! SUPPORT. Arm modulation: what becomes of a committed reference frame, and the boundary of the arm cycle (O13). -/

namespace Sys2Proof.Machine

/-! ### A committed reference frame (R93, R101, R113) -/

section
variable {s : State} {f : ArmCycle}

/-- Reference r joins the frames kept, with the share that it gives the cycle from b on. -/
def refKept (s : State) (r : RefFrame) (b : Nat) : State :=
  s.onArm fun a => { a with refQ := ({ r with share := s.shareOf r b } :: a.refQ).take 3 }

theorem refKept_drop {fm : Nat} (s : State) (r : RefFrame) (b : Nat) (hfm : fm &&& 8192 = 8192) :
    (refKept s r b).drop fm = s.drop fm :=
  State.onArm_drop hfm (.inr fun _ => rfl) (.inr fun _ => rfl) (.inr fun _ => rfl) (.inr fun _ => rfl)

/-- A commit before the frame's instant is not late. -/
theorem noteLate_punctual {origin : Nat} (h : s.tim.time ≤ origin) : noteLate s origin = s := if_neg (not_lt.2 h)

/-- No kept frame, and not the one in force, has the instant. -/
theorem ref_unknown {origin : Nat} (hq : ∀ x ∈ s.arm.refQ, x.origin ≠ origin)
    (hr : ∀ x, s.arm.ref = some x → x.origin ≠ origin) :
    (s.arm.refQ.any (fun x => x.origin = origin) || s.arm.ref.map (·.origin) == some origin) = false := by
  rw [Bool.or_eq_false_iff, List.any_eq_false, beq_eq_false_iff_ne]
  refine ⟨fun x hx => by simpa using hq x hx, fun h => ?_⟩
  obtain ⟨x, hx, heq⟩ := Option.map_eq_some_iff.1 h
  exact hr x hx heq

/-- A frame that is no reference frame changes nothing. -/
theorem exec_refFrameCommit_other (hf : s.spl.lastArm = some f) (hn : isReference f = false) :
    exec .refFrameCommit s = .next s := by
  simp only [exec, execRefFrameCommit, hf, hn, Bool.not_false, Bool.true_or, if_true]

section
variable (hf : s.spl.lastArm = some f) (hi : isReference f = true) (hrun : s.refRuns = true)
  (hq : ∀ x ∈ s.arm.refQ, x.origin ≠ (s.refOf f).origin)
  (hr : ∀ x, s.arm.ref = some x → x.origin ≠ (s.refOf f).origin) (ht : s.tim.time ≤ (s.refOf f).origin)
include hf hi hrun hq hr ht

/-- A new frame in time is kept; one for a later boundary waits for it. -/
theorem exec_refFrameCommit_later (hb : s.nextBound < (s.refOf f).origin) :
    exec .refFrameCommit s = .next (refKept s (s.refOf f) (s.refOf f).origin) := by
  simp only [exec, execRefFrameCommit, hf, hi, hrun, ref_unknown hq hr, noteLate_punctual ht, Nat.max_eq_left hb.le,
    hb.ne', Bool.not_true, Bool.or_self, Bool.false_eq_true, if_false]
  rfl

/-- A new frame due at the next boundary also forms the sets of its cycle. -/
theorem exec_refFrameCommit_due (hb : (s.refOf f).origin ≤ s.nextBound) :
    exec .refFrameCommit s =
      .next (computeSets (refKept s (s.refOf f) s.nextBound)
        { s.refOf f with share := s.shareOf (s.refOf f) s.nextBound } s.arm.phaseNext s.nextBound) := by
  simp only [exec, execRefFrameCommit, hf, hi, hrun, ref_unknown hq hr, noteLate_punctual ht, Nat.max_eq_right hb,
    Bool.not_true, Bool.or_self, Bool.false_eq_true, if_false, if_true]
  rfl

end

/-- The lower bound of the duty lies within the limit of the image. -/
theorem dutyLow_bounds (s : State) (mode : ArmMode) :
    -(s.im.dMax : Int) ≤ s.dutyLow mode ∧ s.dutyLow mode ≤ s.im.dMax := by
  unfold State.dutyLow
  split <;> constructor <;> omega

/-- The duty that R101 gives: the clamped sum, which the limit of the image bounds in magnitude. -/
theorem insertion_duty (s : State) (r : RefFrame) (mode : ArmMode) (t : Nat) :
    (s.insertion r mode t).2.2.1 = clampI (s.duty0 r t + s.dutyBal r) (s.dutyLow mode) s.im.dMax ∧
    -(s.im.dMax : Int) ≤ (s.insertion r mode t).2.2.1 ∧ (s.insertion r mode t).2.2.1 ≤ s.im.dMax := by
  obtain ⟨hlow, hlimit⟩ := dutyLow_bounds s mode
  obtain ⟨hmin, hmax⟩ := clampI_bounds (s.duty0 r t + s.dutyBal r) _ _ hlimit
  exact ⟨rfl, hlow.trans hmin, hmax⟩

/-- Keeping a frame changes neither the next reload nor the arithmetic of R101. -/
theorem computeSets_refKept_duty {r : RefFrame} {b o t : Nat} (h : s.nextReload .a = some t) (h1 : b ≤ t)
    (h2 : t < b + s.cycleNs) :
    (computeSets (refKept s r b) { r with share := s.shareOf r b } o b).arm.duty =
      some (s.insertion r (s.modeAt b) t).2.2.1 :=
  computeSets_duty (refKept s r b) _ o b t h h1 h2

end

/-! ### The boundary of the arm cycle (R17, R18, R96) -/

section
variable {s : State}

/-- During a structural glue-up restart only the boundary moves. -/
theorem exec_cycleBoundary_restart (hd : s.boundDue = true) (hp : s.dev.phase = .glueRestart) :
    exec .cycleBoundary s = .next (s.onArm fun a => { a with boundary := s.newestBound }) := by
  simp only [exec, execCycleBoundary, State.outOfReset, hd, hp, Bool.not_true, Bool.or_self, Bool.false_eq_true,
    if_false]

/-- A device that runs does the boundary's work, where no adoption is due. -/
theorem exec_cycleBoundary_work (hd : s.boundDue = true) (hp : s.dev.phase = .ready ∨ s.dev.phase = .starting)
    (ha : s.img.adoptDue = false) : exec .cycleBoundary s = .next (boundaryWork s s.newestBound) := by
  rcases hp with hp | hp <;>
    simp only [exec, execCycleBoundary, State.outOfReset, hd, hp, ha, Bool.not_true, Bool.not_false, Bool.or_self,
      Bool.false_eq_true, if_false, if_true]

end

/-- Settles O13: a frame for a later boundary, one that is due, and one that is no reference frame; then the boundary of
a restart and of a device that runs. -/
theorem armCycleModulation : Obligations.ArmCycleModulation := by
  refine ⟨?_, ?_, ?_, ?_, ?_⟩
  · -- REF_FRAME_COMMIT for a later boundary
    intro s f hf hi hrun hq hr ht hb
    exact completes_within (exec_refFrameCommit_later hf hi hrun hq hr ht hb) rfl (refKept_drop s _ _ rfl)
  · -- REF_FRAME_COMMIT due at the next boundary
    intro s f r hf hi hrun hq hr ht hb hreload h1 h2
    obtain ⟨hd, hmin, hmax⟩ := insertion_duty s (s.refOf f) (s.modeAt s.nextBound) r
    exact completes_exec (exec_refFrameCommit_due hf hi hrun hq hr ht hb)
      ⟨_, computeSets_refKept_duty hreload h1 h2, hd, hmin, hmax⟩ (by dsimp only [execMask]; rfl)
  · -- REF_FRAME_COMMIT of a frame that is no reference frame
    intro s f hf hn
    exact completes_within (exec_refFrameCommit_other hf hn) rfl rfl
  · -- CYCLE_BOUNDARY during a structural glue-up restart
    intro s hd hp
    exact completes_within (exec_cycleBoundary_restart hd hp) rfl
      (State.onArm_drop rfl (.inr fun _ => rfl) (.inr fun _ => rfl) (.inr fun _ => rfl) (.inr fun _ => rfl))
  · -- CYCLE_BOUNDARY of a device that runs
    intro s hd hp ha
    obtain ⟨hbm, hcell⟩ := boundaryWork_effect s s.newestBound
    obtain ⟨hbound, hmode⟩ := Prod.mk.inj hbm
    exact completes_exec (exec_cycleBoundary_work hd hp ha) ⟨hbound, hmode, hcell⟩ (by dsimp only [execMask]; rfl)

end Sys2Proof.Machine
end

section
/-! SUPPORT. The pulse units: committed and replaced sets, starts, reloads, compares and kerfs (O14). -/

namespace Sys2Proof.Machine

section
variable {s : State} {leg : Leg}

/-! ### Committed sets (R122, R123) -/

theorem dcqFull_unit (s : State) (n : Nat) (leg : Leg) : (dcqFull s n).unit leg = s.unit leg := by cases leg <;> rfl

/-- A pulse unit with its shadow set in front of at most one other. -/
def queuedUnit (u : PulseUnit) (now : Nat) : PulseUnit :=
  { u with
    stale := false
    queue := shadowSet u now :: u.queue.take 1
    lateCommit := if u.reloadClk == some now then bump 16 u.lateCommit else u.lateCommit }

/-- A coherent set joins the queue of its leg; a full queue shows in the engine's flags alone. -/
theorem commitSet_coherent (h : setCause (s.unit leg) = 0) :
    (commitSet s leg).unit leg = queuedUnit (s.unit leg) s.clock ∧
    (commitSet s leg).unit leg.other = s.unit leg.other ∧ (commitSet s leg).drop 16392 = s.drop 16392 := by
  unfold commitSet
  extract_lets u now base
  rw [if_neg (not_not.2 h)]
  have hunit (k : Leg) : base.unit k = s.unit k := by
    unfold base
    split
    · exact dcqFull_unit s _ k
    · rfl
  have hdrop : base.drop 16392 = s.drop 16392 := by
    unfold base
    split
    · exact dcqFull_drop s _ rfl
    · rfl
  refine ⟨?_, ?_, (State.onUnit_drop base leg _ rfl).trans hdrop⟩
  · rw [onUnit_unit, hunit]
    rfl
  · rw [onUnit_unit_other, hunit]

theorem commitSet_incoherent (h : setCause (s.unit leg) ≠ 0) : commitSet s leg = rejectSet s leg (setCause (s.unit leg)) :=
  if_pos h

/-- What a rejection leaves: its flag and cause on the leg, the count and the event (R123, R126). -/
theorem rejectSet_effect (s : State) (leg : Leg) (cause : Nat) :
    (rejectSet s leg cause).unit leg =
      { s.unit leg with reject := true, cause := cause, stale := false, rejectAt := some s.clock } ∧
    (rejectSet s leg cause).unit leg.other = s.unit leg.other ∧
    (rejectSet s leg cause).pwm.cntReject = bump 8 s.pwm.cntReject ∧
    Logged s (rejectSet s leg cause) 0x1301 leg.num cause := by
  cases leg <;> exact ⟨rfl, rfl, rfl, rfl⟩

/-- While ME runs it commits. -/
theorem exec_pwmCommit_running (h : s.eng.state[EngineId.me.idx] = .running) :
    exec (.pwmCommit leg) s = .next (commitSet s leg) := by
  simp only [exec, execPwmCommit, h, beq_self_eq_true, if_true]

/-! ### Replaced sets (R126) -/

theorem exec_pwmReplaceCommit_running (h : s.eng.state[EngineId.me.idx] = .running) :
    exec (.pwmReplaceCommit leg) s = .next (refreshBridge (replaceSet s leg)) := by
  simp only [exec, execPwmReplaceCommit, h, beq_self_eq_true, if_true]

/-- A set of the period in force takes its place at once, and the queue stays. -/
theorem replaceSet_accepted {c : PwmSet} (hc : (s.unit leg).cur = some c) (h : setCause (s.unit leg) = 0)
    (hp : (s.unit leg).shPeriod = c.period) :
    ((replaceSet s leg).unit leg).cur = some (minPulseSet s.im.minPulse (shadowSet (s.unit leg) s.clock)) ∧
    ((replaceSet s leg).unit leg).queue = (s.unit leg).queue ∧ ((replaceSet s leg).unit leg).t0 = (s.unit leg).t0 ∧
    ((replaceSet s leg).unit leg).active =
      setActive (minPulseSet s.im.minPulse (shadowSet (s.unit leg) s.clock)) (s.tim.time - (s.unit leg).t0) ∧
    (replaceSet s leg).unit leg.other = s.unit leg.other := by
  simp only [replaceSet, hc, h, hp, ne_eq, not_true_eq_false, if_false, onUnit_unit, onUnit_unit_other,
    moveOutput_queue, moveOutput_t0, moveOutput_active, and_self]

/-- Without a set in force, or with one of another period, cause 6 (log entry 17). -/
theorem replaceSet_refused (hc : ∀ c, (s.unit leg).cur = some c → (s.unit leg).shPeriod ≠ c.period)
    (h : setCause (s.unit leg) = 0) : replaceSet s leg = rejectSet s leg 6 := by
  cases hcur : (s.unit leg).cur with
  | none => simp only [replaceSet, hcur]
  | some c => simp only [replaceSet, hcur, h, hc c hcur, ne_eq, not_true_eq_false, not_false_eq_true, if_false, if_true]

/-! ### Starts (R125) -/

/-- A reload of the present clock changes the count of late commits of its own leg alone. -/
theorem noteReload_unit (s : State) (leg : Leg) :
    (noteReload s leg).unit leg = { s.unit leg with
      reloadClk := some s.clock
      lateCommit := if (s.unit leg).queue.any fun p => p.committedAt == s.clock then bump 16 (s.unit leg).lateCommit
        else (s.unit leg).lateCommit } ∧
    (noteReload s leg).unit leg.other = s.unit leg.other ∧ ∀ k, (noteReload s leg).leg k = s.leg k :=
  ⟨onUnit_unit .., onUnit_unit_other .., fun _ => onUnit_leg ..⟩

theorem noteReload_im (s : State) (leg : Leg) : (noteReload s leg).im = s.im := by cases leg <;> rfl

/-- The unit of a leg at rest begins its first period with a set. -/
def startedWith (s : State) (leg : Leg) (p : PwmSet) (rest : List PwmSet) : State :=
  (takeSet ((noteReload s leg).onUnit leg fun u => { u with startArmed := false, active := false, kerfUntil := none }) leg
    (startTime (s.unit leg)) p rest).onUnit leg fun u => { u with kerfUntil := none }

/-- The unit of a leg finds no set at its start. -/
def startMissed (s : State) (leg : Leg) : State :=
  logEvent ((noteReload s leg).onUnit leg fun u =>
    { u with nostart := true, startArmed := false, nostartAt := some s.clock }) 0x1302 leg.num

section
variable (hr : (s.unit leg).running = false) (ha : (s.unit leg).startArmed = true)
  (ht : startTime (s.unit leg) ≤ s.tim.time)
include hr ha ht

theorem exec_pulseUnitStart_set {p : PwmSet} {rest : List PwmSet}
    (hp : pickSet (startTime (s.unit leg)) s.clock (s.unit leg).queue = some (p, rest)) :
    exec (.pulseUnitStart leg) s = .next (refreshBridge (legLeaves (startedWith s leg p rest) leg)) := by
  simp only [exec, execPulseUnitStart, hr, ha, hp, Nat.not_lt.2 ht, Bool.not_true, Bool.or_self, decide_false,
    Bool.false_eq_true, if_false]
  rfl

theorem exec_pulseUnitStart_none (hp : pickSet (startTime (s.unit leg)) s.clock (s.unit leg).queue = none) :
    exec (.pulseUnitStart leg) s = .next (startMissed s leg) := by
  simp only [exec, execPulseUnitStart, hr, ha, hp, Nat.not_lt.2 ht, Bool.not_true, Bool.or_self, decide_false,
    Bool.false_eq_true, if_false]
  rfl

end

/-- The unit has begun its first period with the set. -/
theorem startedWith_unit (s : State) (leg : Leg) (p : PwmSet) (rest : List PwmSet) :
    ((startedWith s leg p rest).unit leg).running = true ∧ ((startedWith s leg p rest).unit leg).startArmed = false ∧
    ((startedWith s leg p rest).unit leg).cur = some (minPulseSet s.im.minPulse p) ∧
    ((startedWith s leg p rest).unit leg).queue = rest ∧
    ((startedWith s leg p rest).unit leg).t0 = startTime (s.unit leg) ∧
    ((startedWith s leg p rest).unit leg).kerfUntil = none ∧
    ((startedWith s leg p rest).unit leg).active = setActive (minPulseSet s.im.minPulse p) 0 ∧
    (startedWith s leg p rest).unit leg.other = s.unit leg.other := by
  obtain ⟨-, hother, -⟩ := noteReload_unit s leg
  unfold startedWith
  generalize hx : (noteReload s leg).onUnit leg _ = x
  obtain ⟨hcur, hqueue, ht0, hrun, hact, harm, hkept, -⟩ := takeSet_unit x leg (startTime (s.unit leg)) p rest
  have him : x.im = s.im := by subst hx; cases leg <;> rfl
  have hdis : (x.unit leg).startArmed = false := by subst hx; rw [onUnit_unit]
  have hx' : x.unit leg.other = s.unit leg.other := by subst hx; rw [onUnit_unit_other, hother]
  rw [onUnit_unit, onUnit_unit_other]
  rw [him] at hcur hact
  exact ⟨hrun, harm.trans hdis, hcur, hqueue, ht0, rfl, hact, hkept.trans hx'⟩

/-- A leg that leaves HIGH_Z, or does not, keeps its unit but for a kerf that ends. -/
theorem legLeaves_unit_kerf (s : State) (leg : Leg) : ∃ k,
    (legLeaves s leg).unit leg = { s.unit leg with kerfUntil := k } ∧ ((s.unit leg).kerfUntil = none → k = none) := by
  obtain ⟨hunit, -⟩ := legLeaves_unit s leg
  rw [hunit]
  split
  · exact ⟨none, rfl, fun _ => rfl⟩
  · exact ⟨(s.unit leg).kerfUntil, rfl, id⟩

/-- A leg that waited for its reload runs again. -/
theorem legLeaves_waiting (h : (s.leg leg).wait = true) :
    ((legLeaves s leg).leg leg).st = .running ∧ ((legLeaves s leg).leg leg).wait = false := by
  rw [(legLeaves_leg s leg).1, if_pos h]
  exact ⟨rfl, rfl⟩

theorem startMissed_effect (s : State) (leg : Leg) :
    (startMissed s leg).unit leg = { s.unit leg with
      nostart := true
      startArmed := false
      nostartAt := some s.clock
      reloadClk := some s.clock
      lateCommit := if (s.unit leg).queue.any fun p => p.committedAt == s.clock then bump 16 (s.unit leg).lateCommit
        else (s.unit leg).lateCommit } ∧
    (startMissed s leg).unit leg.other = s.unit leg.other ∧ Logged s (startMissed s leg) 0x1302 leg.num := by
  cases leg <;> exact ⟨rfl, rfl, rfl⟩

theorem startMissed_drop {fm : Nat} (s : State) (leg : Leg) (h : fm &&& 8589950976 = 8589950976) :
    (startMissed s leg).drop fm = s.drop fm := by
  refine drop_sub h ?_
  exact (logEvent_drop _ _ _ _ _ rfl).trans ((State.onUnit_drop _ leg _ rfl).trans (noteReload_drop s leg rfl))

/-! ### Reloads (R122, R125) -/

/-- The unit of a leg repeats its set. -/
def repeated (s : State) (leg : Leg) (c : PwmSet) : State :=
  ((noteReload s leg).onUnit leg fun u =>
    { moveOutput (s.kerf leg) ((s.unit leg).t0 + c.period) (setActive c 0) u with
      t0 := (s.unit leg).t0 + c.period }).onPwm fun p => { p with cntRepeat := bump 8 p.cntRepeat }

section
variable {c : PwmSet} (hr : (s.unit leg).running = true) (hc : (s.unit leg).cur = some c)
  (ht : (s.unit leg).t0 + c.period ≤ s.tim.time)
include hr hc ht

theorem exec_pulseReload_set {p : PwmSet} {rest : List PwmSet}
    (hp : pickSet ((s.unit leg).t0 + c.period) s.clock (s.unit leg).queue = some (p, rest)) :
    exec (.pulseReload leg) s = .next (refreshBridge (legLeaves
      (takeSet (noteReload s leg) leg ((s.unit leg).t0 + c.period) p rest) leg)) := by
  simp only [exec, execPulseReload, hr, hc, hp, Nat.not_lt.2 ht, Bool.not_true, Bool.or_self, decide_false,
    Bool.false_eq_true, if_false]

theorem exec_pulseReload_repeat
    (hp : pickSet ((s.unit leg).t0 + c.period) s.clock (s.unit leg).queue = none) :
    exec (.pulseReload leg) s = .next (refreshBridge (legLeaves (repeated s leg c) leg)) := by
  simp only [exec, execPulseReload, hr, hc, hp, Nat.not_lt.2 ht, Bool.not_true, Bool.or_self, decide_false,
    Bool.false_eq_true, if_false, repeated]

end

/-- The count of repeated sets stands apart from both units. -/
theorem onPwm_cntRepeat_unit (s : State) (f : Nat → Nat) (k : Leg) :
    (s.onPwm fun p => { p with cntRepeat := f p.cntRepeat }).unit k = s.unit k := by
  cases k <;> rfl

theorem repeated_unit (s : State) (leg : Leg) (c : PwmSet) :
    ((repeated s leg c).unit leg).cur = (s.unit leg).cur ∧
    ((repeated s leg c).unit leg).t0 = (s.unit leg).t0 + c.period ∧
    ((repeated s leg c).unit leg).queue = (s.unit leg).queue ∧
    (repeated s leg c).pwm.cntRepeat = bump 8 s.pwm.cntRepeat ∧
    (repeated s leg c).unit leg.other = s.unit leg.other := by
  obtain ⟨hunit, hother, -⟩ := noteReload_unit s leg
  unfold repeated
  rw [onPwm_cntRepeat_unit, onPwm_cntRepeat_unit, onUnit_unit, onUnit_unit_other, hunit]
  refine ⟨moveOutput_cur .., rfl, moveOutput_queue .., ?_, hother⟩
  cases leg <;> rfl

/-! ### Compares and kerfs (R121, R127) -/

theorem exec_pulseCompareEdge_running {c : PwmSet} (hr : (s.unit leg).running = true) (hc : (s.unit leg).cur = some c) :
    exec (.pulseCompareEdge leg) s = .next (refreshWords (s.onUnit leg fun u =>
      moveOutput (s.kerf leg) s.tim.time (setActive c (s.tim.time - u.t0)) u)) := by
  simp only [exec, execPulseCompareEdge, hr, hc, Bool.not_true, Bool.false_eq_true, if_false]

theorem exec_kerfTurnOn_due {t0 : Nat} {b : Bool} (hk : (s.unit leg).kerfUntil = some (t0, b)) (ht : t0 ≤ s.tim.time) :
    exec (.kerfTurnOn leg) s = .next (refreshWords (s.onUnit leg fun u => { u with kerfUntil := none })) := by
  simp only [exec, execKerfTurnOn, hk, ht, if_true]

theorem refreshWords_unit (s : State) (leg : Leg) : (refreshWords s).unit leg = s.unit leg := by
  cases leg <;> rfl

end

/-- Settles O14: each command by its equation, and the unit that the shared operation of its outcome leaves. -/
theorem pulseSetsAndPeriods : Obligations.PulseSetsAndPeriods := by
  refine ⟨?_, ?_, ?_, ?_, ?_, ?_, ?_, ?_, ?_, ?_⟩
  · -- PWM_COMMIT of a coherent set
    intro s leg hrun hc
    obtain ⟨hunit, hother, hdrop⟩ := commitSet_coherent hc
    exact completes_within (exec_pwmCommit_running hrun) ⟨hunit, hother⟩ hdrop
  · -- PWM_COMMIT of an incoherent set
    intro s leg hrun hc
    exact completes_within ((exec_pwmCommit_running hrun).trans (congrArg _ (commitSet_incoherent hc)))
      (rejectSet_effect s leg _) (rejectSet_drop s leg _ rfl)
  · -- PWM_REPLACE_COMMIT of a set of the period in force
    intro s leg c hrun hcur hc hp
    have hset := replaceSet_accepted hcur hc hp
    rw [← refreshBridge_unit (replaceSet s leg) leg, ← refreshBridge_unit (replaceSet s leg) leg.other] at hset
    obtain ⟨hset, hqueue, ht0, hact, hother⟩ := hset
    exact completes_exec (exec_pwmReplaceCommit_running hrun) ⟨hset, hqueue, ht0, hact, hother, refreshBridge_word _⟩
      (by dsimp only [execMask]; rfl)
  · -- PWM_REPLACE_COMMIT without such a set
    intro s leg hrun hcur hc
    obtain ⟨hunit, hother, hcount, -⟩ := rejectSet_effect s leg 6
    refine completes_exec ((exec_pwmReplaceCommit_running hrun).trans
      (congrArg (fun x => Host.Outcome.next (refreshBridge x)) (replaceSet_refused hcur hc))) ⟨?_, ?_, ?_⟩
      (by dsimp only [execMask]; rfl)
    · rw [refreshBridge_unit, hunit]
    · rw [refreshBridge_unit, hother]
    · rw [refreshBridge_pwm, hcount]
  · -- PULSE_UNIT_START with an eligible set
    intro s leg p rest hr ha ht hp
    obtain ⟨hrun, harm, hcur, hqueue, ht0, hkerf, hact, hother⟩ := startedWith_unit s leg p rest
    obtain ⟨k, hunit, hk⟩ := legLeaves_unit_kerf (startedWith s leg p rest) leg
    obtain ⟨-, hkept⟩ := legLeaves_unit (startedWith s leg p rest) leg
    refine completes_exec (exec_pulseUnitStart_set hr ha ht hp) ?_ (by dsimp only [execMask]; rfl)
    rw [refreshBridge_unit, refreshBridge_unit, hunit, hkept]
    exact ⟨hrun, harm, hcur, hqueue, ht0, hk hkerf, hact, hother, refreshBridge_word _⟩
  · -- PULSE_UNIT_START without one
    intro s leg hr ha ht hp
    exact completes_within (exec_pulseUnitStart_none hr ha ht hp) (startMissed_effect s leg) (startMissed_drop s leg rfl)
  · -- PULSE_RELOAD with an eligible set
    intro s leg c p rest hr hc ht hp
    obtain ⟨-, hothers, hlegs⟩ := noteReload_unit s leg
    obtain ⟨hcur, hqueue, ht0, hrun, hact, -, hother, hleg⟩ :=
      takeSet_unit (noteReload s leg) leg ((s.unit leg).t0 + c.period) p rest
    rw [noteReload_im] at hcur hact
    refine completes_exec (exec_pulseReload_set hr hc ht hp) ?_ (by dsimp only [execMask]; rfl)
    generalize takeSet (noteReload s leg) leg _ p rest = x at *
    obtain ⟨k, hunit, -⟩ := legLeaves_unit_kerf x leg
    obtain ⟨-, hkept⟩ := legLeaves_unit x leg
    rw [refreshBridge_unit, refreshBridge_unit, refreshBridge_leg, hunit, hkept]
    refine ⟨hcur, hqueue, ht0, hrun, hact, fun hwait => ?_, hother.trans hothers, refreshBridge_word _⟩
    exact legLeaves_waiting (by rw [hleg, hlegs, hwait])
  · -- PULSE_RELOAD without one
    intro s leg c hr hc ht hp
    obtain ⟨hcur, ht0, hqueue, hcount, hother⟩ := repeated_unit s leg c
    obtain ⟨k, hunit, -⟩ := legLeaves_unit_kerf (repeated s leg c) leg
    obtain ⟨-, hkept⟩ := legLeaves_unit (repeated s leg c) leg
    obtain ⟨-, -, -, hcount'⟩ := legLeaves_keep (repeated s leg c) leg
    refine completes_exec (exec_pulseReload_repeat hr hc ht hp) ?_ (by dsimp only [execMask]; rfl)
    rw [refreshBridge_unit, refreshBridge_unit, refreshBridge_pwm, hunit, hkept]
    exact ⟨hcur.trans hc, ht0, hqueue, hcount'.trans hcount, hother⟩
  · -- PULSE_COMPARE_EDGE
    intro s leg c hr hc
    refine completes_exec (exec_pulseCompareEdge_running hr hc) ⟨?_, ?_⟩ (by dsimp only [execMask]; rfl)
    · rw [refreshWords_unit, onUnit_unit]
      simp only [moveOutput, beq_iff_eq]
    · rw [refreshWords_unit, onUnit_unit_other]
  · -- KERF_TURN_ON
    intro s leg t0 b hk ht
    refine completes_exec (exec_kerfTurnOn_due hk ht) ⟨?_, ?_⟩ (by dsimp only [execMask]; rfl)
    · rw [refreshWords_unit, onUnit_unit]
    · rw [refreshWords_unit, onUnit_unit_other]

end Sys2Proof.Machine
end

section
/-! SUPPORT. The gate links and the bypass outputs: status frames, lost links, firing and closing (O15). -/

namespace Sys2Proof.Machine

section
variable {s : State} {i : Fin 4} {bits : BitVec 16}

/-! ### Link records -/

theorem onLink_link (s : State) (i j : Fin 4) (f : LinkRec → LinkRec) :
    (s.onLink i f).glk.links[j] = if j = i then f s.glk.links[i] else s.glk.links[j] := by
  by_cases h : j = i
  · subst h
    simp [State.onLink]
  · have hv : i.val ≠ j.val := fun e => h (Fin.ext e.symm)
    simp [State.onLink, h, hv]

theorem onLink_leg (s : State) (i : Fin 4) (f : LinkRec → LinkRec) (l : Leg) : (s.onLink i f).leg l = s.leg l := by
  cases l <;> rfl

theorem onLeg_links (s : State) (l : Leg) (f : LegRec → LegRec) : (s.onLeg l f).glk.links = s.glk.links := by
  cases l <;> rfl

/-- A frame that is recorded: its bits and its age, on its own link alone (R134). -/
theorem recordFrame_link (s : State) (i : Fin 4) (bits : BitVec 16) :
    (recordFrame s i bits).glk.links[i].frame = bits ∧ (recordFrame s i bits).glk.links[i].age = some s.clock ∧
    (recordFrame s i bits).glk.links[i].lost = false ∧
    ∀ j : Fin 4, j ≠ i → (recordFrame s i bits).glk.links[j] = s.glk.links[j] := by
  unfold recordFrame
  simp only [onLink_link, if_true, true_and]
  exact fun j hj => if_neg hj

/-! ### What the owner acts on (R137, R140) -/

theorem actsOn_tracking {b : Bool} (h : s.arm.owner = false) : s.actsOn i b = false := by
  simp only [State.actsOn, h, Bool.false_and]

theorem actsOn_running {b : Bool} (h : s.arm.owner = true) (hl : (s.leg (linkLeg i)).st = .running) :
    s.actsOn i b = true := by
  simp only [State.actsOn, h, hl, Bool.and_self]

theorem actsOn_hiZ {b : Bool} (hl : (s.leg (linkLeg i)).st = .hiZ) : s.actsOn i b = false := by
  simp only [State.actsOn, hl, Bool.and_false]

/-! ### Status frames (R134, R135, R137) -/

theorem exec_glStatusFrameRx_discarded {check : BitVec 4} (ho : s.outOfReset = true) (hc : check ≠ crc4 bits) :
    exec (.glStatusFrameRx i bits check) s =
      .next (s.onLink i fun r => { setFlags s.clock 0x20 r with cnt := bump 8 r.cnt }) := by
  have hne : (check != crc4 bits) = true := bne_iff_ne.2 hc
  simp only [exec, execGlStatusFrameRx, ho, hne, Bool.not_true, Bool.false_eq_true, if_false, if_true]

/-- With the partner on the dovetail link, or none at all, the links give no hint on the token (R285). -/
theorem watchLinks_linked (h : s.simplex = true ∨ s.dvt.up = true) : watchLinks s = s :=
  if_pos (by rcases h with h | h <;> simp [h])

/-- The hold of a leg ends where its frames show what its own unit gives (R142). -/
def holdChecked (s : State) (l : Leg) : State := if s.holdMatches l then endHold s l 0 else s

theorem holdChecked_free {l : Leg} (ha : s.glk.holdA = false) (hb : s.glk.holdB = false) : holdChecked s l = s := by
  unfold holdChecked
  split
  · cases l
    · simp only [endHold, ha, Bool.not_false, if_true]
    · simp only [endHold, hb, Bool.not_false, if_true]
  · rfl

theorem holdChecked_keep (s : State) (l : Leg) : (∀ k, (holdChecked s l).leg k = s.leg k) ∧
    (holdChecked s l).prt = s.prt ∧ (holdChecked s l).dvt = s.dvt := by
  unfold holdChecked
  split
  · exact ⟨leg_eq (endHold_glk_legA ..) (endHold_glk_legB ..), endHold_prt .., endHold_dvt ..⟩
  · exact ⟨fun _ => rfl, rfl, rfl⟩

/-- A member without the token only records a good frame. -/
theorem exec_glStatusFrameRx_tracking (ho : s.outOfReset = true) (hw : s.arm.owner = false)
    (hu : s.simplex = true ∨ s.dvt.up = true) (ha : s.glk.holdA = false) (hb : s.glk.holdB = false) :
    exec (.glStatusFrameRx i bits (crc4 bits)) s = .next (refreshBridge (recordFrame s i bits)) := by
  have hhold := holdChecked_free (s := recordFrame s i bits) (l := linkLeg i) ha hb
  unfold holdChecked at hhold
  simp only [exec, execGlStatusFrameRx, ho, hw, actsOn_tracking hw, bne_self_eq_false, Bool.not_true, Bool.false_and,
    Bool.false_eq_true, if_false, hhold]
  exact congrArg _ (congrArg refreshBridge (watchLinks_linked (s := recordFrame s i bits) hu))

/-- Undervoltage and desaturation are causes of R137, whatever else a frame shows. -/
theorem frameCauses_ne_nil {m : Bool} (h : bits.getLsbD 11 = true ∨ bits.getLsbD 10 = true ∨ bits.getLsbD 9 = true) :
    frameCauses bits 0 m i ≠ [] := by
  unfold frameCauses
  rcases h with h | h | h <;> simp [h]

/-- Such a frame of a running leg of the owner puts the leg to its fault. -/
theorem exec_glStatusFrameRx_fault (ho : s.outOfReset = true) (hw : s.arm.owner = true)
    (hl : (s.leg (linkLeg i)).st = .running)
    (hb : bits.getLsbD 11 = true ∨ bits.getLsbD 10 = true ∨ bits.getLsbD 9 = true) :
    ∃ u cause, exec (.glStatusFrameRx i bits (crc4 bits)) s =
      .next (refreshBridge (watchLinks (holdChecked (legFault u i cause) (linkLeg i)))) ∧ u.dvt = s.dvt := by
  have hgood : ¬(crc4 bits != crc4 bits) = true := by simp
  unfold exec execGlStatusFrameRx
  dsimp -zeta only
  rw [if_neg (by simp [ho]), if_neg hgood]
  extract_lets r echo recorded compared mism now flagged l was isNew all cs acted checked
  have hall : cs = all := if_neg (by simp [l, hl])
  have hwas : was = 0 := if_neg (by simp [l, hl])
  obtain ⟨c, rest, hcs⟩ : ∃ c rest, cs = c :: rest := by
    refine List.exists_cons_of_ne_nil ?_
    rw [hall]
    unfold all
    rw [hwas]
    exact frameCauses_ne_nil hb
  have hacted : acted = legFault (logCauses flagged cs) i c.1 := by
    unfold acted
    rw [if_pos (actsOn_running hw hl), hcs]
  refine ⟨logCauses flagged cs, c.1, ?_, ?_⟩
  · rw [← hacted]
    rfl
  · have hflagged : flagged.dvt = s.dvt := by
      unfold flagged
      split <;> rfl
    exact (same_of_drop (m := 8589934592) (logCauses_drop flagged cs rfl) .dvt rfl).trans hflagged

/-! ### Lost links (R136) -/

/-- A link is lost. -/
def linkLost (s : State) (i : Fin 4) : State :=
  logEvent (s.onLink i fun r => { setFlags s.clock 0x10 r with lost := true }) 0x1202 (i.val + 1)

section
variable {t0 : Nat} (hg : s.glActive = true) (hl : s.glk.links[i].lost = false) (ha : s.glk.links[i].age = some t0)
  (ht : t0 + 3 * usNs ≤ s.clock)
include hg hl ha ht

/-- On a leg that the owner runs, the loss is a fault. -/
theorem exec_glStatusLost_fault (hw : s.arm.owner = true) (hr : (s.leg (linkLeg i)).st = .running) :
    exec (.glStatusLost i) s = .next (legFault (linkLost s i) i 3) := by
  simp only [exec, execGlStatusLost, hg, hl, ha, ht, actsOn_running hw hr, decide_true, Bool.not_true, Bool.or_self,
    Bool.false_eq_true, if_false, if_true]
  rfl

/-- On a leg in HIGH_Z the owner records its switch. -/
theorem exec_glStatusLost_atRest (hw : s.arm.owner = true) (hz : (s.leg (linkLeg i)).st = .hiZ) :
    exec (.glStatusLost i) s =
      .next (refreshBridge (faultAtRest (linkLost s i) i [(3, 0x1202, i.val + 1, 0)])) := by
  simp only [exec, execGlStatusLost, hg, hl, ha, ht, actsOn_hiZ hz, hw, hz, decide_true, beq_self_eq_true, Bool.not_true,
    Bool.or_self, Bool.and_self, Bool.false_eq_true, if_false, if_true]
  rfl

/-- A member without the token only flags it. -/
theorem exec_glStatusLost_tracking (hw : s.arm.owner = false) :
    exec (.glStatusLost i) s = .next (refreshBridge (linkLost s i)) := by
  simp only [exec, execGlStatusLost, hg, hl, ha, ht, actsOn_tracking hw, hw, decide_true, Bool.not_true, Bool.or_self,
    Bool.false_and, Bool.false_eq_true, if_false]
  rfl

end

theorem linkLost_link (s : State) (i : Fin 4) : (linkLost s i).glk.links[i].lost = true ∧
    (linkLost s i).glk.links[i].flags = s.glk.links[i].flags ||| 0x10#8 := by
  simp only [linkLost, logEvent_glk, onLink_link, if_true, true_and]
  rfl

theorem linkLost_drop {fm : Nat} (s : State) (i : Fin 4) (h : fm &&& 8589967360 = 8589967360) :
    (linkLost s i).drop fm = s.drop fm := by
  refine drop_sub h ?_
  exact (logEvent_drop _ _ _ _ _ rfl).trans (State.onLink_drop s i _ rfl)

/-- A cause on a leg in HIGH_Z: its event, its switch, and the cause where there is none yet (R137). -/
def causeAtRest (s : State) (i : Fin 4) (c : Nat × Nat × Nat × Nat) : State :=
  (logEvent s c.2.1 c.2.2.1 c.2.2.2).onLeg (linkLeg i) fun r =>
    { r with
      cause := if r.cause = 0 then c.1 else r.cause
      faultSw := (BitVec.ofNat 2 r.faultSw ||| (if linkUpper i then 1#2 else 2#2)).toNat }

theorem faultAtRest_single (h : s.glk.jig = none) (c : Nat × Nat × Nat × Nat) :
    faultAtRest s i [c] = causeAtRest s i c := by
  simp only [faultAtRest, h]
  rfl

theorem causeAtRest_drop {fm : Nat} (s : State) (i : Fin 4) (c : Nat × Nat × Nat × Nat)
    (h : fm &&& 558345781248 = 558345781248) : (causeAtRest s i c).drop fm = s.drop fm := by
  refine drop_sub h ?_
  exact (State.onLeg_drop _ _ _ rfl).trans (logEvent_drop _ _ _ _ _ rfl)

/-! ### Firing (R143, R275) -/

theorem exec_fireDelayExpiry_due {t0 : Nat} (hd : s.glk.fireDue = some t0) (ht : t0 ≤ s.clock)
    (hf : s.glk.fireAll = true ∨ s.glk.fireHold = true) : exec .fireDelayExpiry s =
    .next (logEvent (s.onGlk fun g => { g with firing := true, fireDue := none }) 0x1208 s.prt.bypSource) := by
  have hreq : (s.glk.fireAll || s.glk.fireHold) = true := (Bool.or_eq_true _ _).mpr hf
  simp only [exec, execFireDelayExpiry, due, hd, ht, hreq, decide_true, Bool.and_self, if_true]

/-- BYP_FIRE stops with its last request. -/
theorem refreshBridge_unrequested (ha : s.glk.fireAll = false) (hh : s.glk.fireHold = false) :
    (refreshBridge s).glk.firing = false := by
  unfold refreshBridge refreshFire
  simp only [refreshWords_glk_fireAll, refreshWords_glk_fireHold, ha, hh, Bool.or_self, Bool.not_false, Bool.true_or,
    if_true]
  rfl

/-! ### Closing (R144) -/

/-- The bypass switch has not closed in time: the firing is held. -/
def closeMissed (s : State) : State :=
  logEvent (s.onGlk fun g => { g with closeDue := none, fireHold := true }) 0x1209 s.im.bypCloseTimeout

theorem exec_bypCloseTimeout_due {t0 : Nat} (hd : s.glk.closeDue = some t0) (ht : t0 ≤ s.clock)
    (hs : s.glk.statClosed = false) :
    exec .bypCloseTimeout s = .next (refreshBridge (raiseEvent (closeMissed s) 0x12)) := by
  simp only [exec, execBypCloseTimeout, due, hd, ht, hs, decide_true, Bool.not_false, Bool.and_self, if_true]
  rfl

end

/-- Settles O15: what a frame, a loss and a bypass output do, by whether this member holds the token and how its leg stands. -/
theorem gateLinksAndBypassOutputs : Obligations.GateLinksAndBypassOutputs := by
  refine ⟨?_, ?_, ?_, ?_, ?_, ?_, ?_, ?_, ?_⟩
  · -- GL_STATUS_FRAME_RX that fails its check
    intro s i bits check ho hc
    exact completes_within (exec_glStatusFrameRx_discarded ho hc) rfl (State.onLink_drop s i _ rfl)
  · -- GL_STATUS_FRAME_RX on a member without the token
    intro s i bits ho hw hu ha hb
    obtain ⟨hframe, hage, hlost, hother⟩ := recordFrame_link s i bits
    obtain ⟨-, hframe', hage', -, -, -, hlost'⟩ := refreshBridge_link (recordFrame s i bits) i
    refine completes_within (exec_glStatusFrameRx_tracking ho hw hu ha hb)
      ⟨hframe'.trans hframe, hage'.trans hage, hlost'.trans hlost, fun j hj => ?_, refreshBridge_word _⟩
      ((refreshBridge_drop _ rfl).trans (recordFrame_drop s i bits rfl))
    obtain ⟨-, hframe, -, hflags, -⟩ := refreshBridge_link (recordFrame s i bits) j
    rw [hother j hj] at hframe hflags
    exact ⟨hframe, hflags⟩
  · -- GL_STATUS_FRAME_RX with a lockout on a running leg of the owner
    intro s i bits ho hw hu hl hb
    obtain ⟨u, cause, hexec, hdvt⟩ := exec_glStatusFrameRx_fault ho hw hl hb
    obtain ⟨hleg, hprt, hdvt'⟩ := holdChecked_keep (legFault u i cause) (linkLeg i)
    obtain ⟨hhiZ, hactive⟩ := legFault_effect u i cause
    rw [watchLinks_linked (.inr (by rw [hdvt', legFault_dvt, hdvt, hu]))] at hexec
    refine completes_exec hexec ⟨?_, ?_, refreshBridge_word _⟩ (by dsimp only [execMask]; rfl)
    · rw [refreshBridge_leg, hleg, hhiZ]
    · rw [refreshBridge_prt, hprt, hactive]
  · -- GL_STATUS_LOST on a running leg of the owner
    intro s i t0 hg hl ha ht hw hr
    exact completes_exec (exec_glStatusLost_fault hg hl ha ht hw hr) (legFault_effect _ i 3)
      (by dsimp only [execMask]; rfl)
  · -- GL_STATUS_LOST on a member without the token
    intro s i t0 hg hl ha ht hw
    obtain ⟨hlost, hflags⟩ := linkLost_link s i
    obtain ⟨-, -, -, hflags', -, -, hlost'⟩ := refreshBridge_link (linkLost s i) i
    exact completes_within (exec_glStatusLost_tracking hg hl ha ht hw)
      ⟨hlost'.trans hlost, hflags'.trans hflags, refreshBridge_word _⟩
      ((refreshBridge_drop _ rfl).trans (linkLost_drop s i rfl))
  · -- GL_STATUS_LOST on a leg of the owner in HIGH_Z
    intro s i t0 hg hl ha ht hw hz hj
    have hrest := faultAtRest_single (s := linkLost s i) (i := i) hj (3, 0x1202, i.val + 1, 0)
    obtain ⟨hlost, -⟩ := linkLost_link s i
    refine completes_within ((exec_glStatusLost_atRest hg hl ha ht hw hz).trans
      (congrArg (fun x => Host.Outcome.next (refreshBridge x)) hrest)) ⟨?_, ?_, refreshBridge_word _⟩
      ((refreshBridge_drop _ rfl).trans ((causeAtRest_drop _ i _ rfl).trans (linkLost_drop s i rfl)))
    · rw [refreshBridge_leg, causeAtRest, onLeg_leg, logEvent_leg, linkLost, logEvent_leg, onLink_leg]
    · obtain ⟨-, -, -, -, -, -, hlost'⟩ := refreshBridge_link (causeAtRest (linkLost s i) i (3, 0x1202, i.val + 1, 0)) i
      rw [hlost', causeAtRest, onLeg_links, logEvent_glk, hlost]
  · -- FIRE_DELAY_EXPIRY
    intro s t0 hd ht hf
    exact completes_exec (exec_fireDelayExpiry_due hd ht hf) ⟨rfl, rfl⟩ (by dsimp only [execMask]; rfl)
  · -- BYP_STAT_CLOSED
    intro s
    refine completes_exec rfl ⟨?_, ?_, ?_, ?_, fun hf => ?_, refreshBridge_word _⟩ (by dsimp only [execMask]; rfl)
    · rw [refreshBridge_dev]; rfl
    · rw [refreshBridge_glk_statClosed]; rfl
    · rw [refreshBridge_glk_fireHold]; rfl
    · rw [refreshBridge_glk_closeDue]; rfl
    · exact refreshBridge_unrequested hf rfl
  · -- BYP_CLOSE_TIMEOUT
    intro s t0 hd ht hs
    obtain ⟨hpulsed, -⟩ := raiseEvent_pulsed (closeMissed s) 0x12
    refine completes_exec (exec_bypCloseTimeout_due hd ht hs) ⟨?_, ?_, ?_, refreshBridge_word _⟩
      (by dsimp only [execMask]; rfl)
    · rw [refreshBridge_glk_closeDue, raiseEvent_glk_closeDue]; rfl
    · rw [refreshBridge_glk_fireHold, raiseEvent_glk_fireHold]; rfl
    · rw [refreshBridge_prt, hpulsed]; rfl

end Sys2Proof.Machine
end

section
/-! SUPPORT. Diagnostics of the main bridge, single-leg tests, takeover holds and the production jig (O16). -/

namespace Sys2Proof.Machine

section
variable {s : State}

/-! ### The test window (R141) -/

/-- The window of a run opens on both legs, with the results of the last one gone. -/
def testOpened (s : State) : State :=
  (s.onArm fun a => { a with diag := if a.diag == .passed then .passed else .running }).onGlk fun g =>
    { g with
      testUntil := some (s.clock + usNs * s.im.testWindow)
      testLegs := 3
      testRetest := false
      testB2R := s.diagDue && (s.arm.blk || s.arm.cell == .blocked)
      links := g.links.map fun r => { r with test := 0 } }

/-- Every word has stood at OFF, or TRACK, for one kerf. -/
def State.linksQuiet (s : State) : Prop :=
  ∀ i : Fin 4, (s.glk.links[i].word = .off ∨ s.glk.links[i].word = .track) ∧ s.glk.links[i].wordAt + s.kerfMax ≤ s.clock

theorem exec_offStateDiagStart_quiet (hp : s.dev.phase = .ready) (hc : s.chainPair = false)
    (hb : s.arm.bypassed = false) (hu : s.glk.testUntil = none) (ho : s.glk.testOver = none)
    (hla : (s.leg .a).st = .hiZ) (hlb : (s.leg .b).st = .hiZ) (hha : s.hardOff .a = false) (hhb : s.hardOff .b = false)
    (hw : s.diagWanted = true) (hq : s.linksQuiet) :
    exec .offStateDiagStart s = .next (refreshBridge (testOpened s)) := by
  have hquiet : ((List.finRange 4).all fun i => (s.glk.links[i].word == .off || s.glk.links[i].word == .track) &&
      decide (s.glk.links[i].wordAt + s.kerfMax ≤ s.clock)) = true := by
    rw [List.all_eq_true]
    intro i _
    obtain ⟨hword, hat⟩ := hq i
    simp only [Bool.and_eq_true, Bool.or_eq_true, beq_iff_eq, decide_eq_true_eq]
    exact ⟨hword, hat⟩
  simp only [exec, execOffStateDiagStart, hp, hc, hb, hu, ho, hla, hlb, hha, hhb, hw, hquiet, beq_self_eq_true,
    Option.isNone_none, Bool.not_false, Bool.and_self, if_true]
  rfl

theorem exec_testWindowExpiry_due {t0 : Nat} (hu : s.glk.testUntil = some t0) (ht : t0 ≤ s.clock) :
    exec .testWindowExpiry s =
      .next (refreshBridge (s.onGlk fun g => { g with testUntil := none, testOver := some s.clock })) := by
  simp only [exec, execTestWindowExpiry, due, hu, ht, decide_true, if_true]

/-! ### The verdict on both legs (R141, R19) -/

theorem onLeg_arm (s : State) (l : Leg) (f : LegRec → LegRec) : (s.onLeg l f).arm = s.arm := by cases l <;> rfl
theorem onLeg_img (s : State) (l : Leg) (f : LegRec → LegRec) : (s.onLeg l f).img = s.img := by cases l <;> rfl
theorem onLeg_prt (s : State) (l : Leg) (f : LegRec → LegRec) : (s.onLeg l f).prt = s.prt := by cases l <;> rfl

/-- The results of a run are read: GLK_TEST shows them, and an activity that waits for them is answered. -/
def resultsRead (s : State) (pa pb : Bool) : State :=
  (markTest (markTest (answerGateTest (s.onGlk fun g => { g with testOver := none, testLegs := 0 })) .a pa) .b pb).onArm
    fun a => { a with diagA := pa, diagB := pb }

theorem resultsRead_drop {fm : Nat} (s : State) (pa pb : Bool) (h : fm &&& 4295008256 = 4295008256) :
    (resultsRead s pa pb).drop fm = s.drop fm := by
  refine drop_sub h ?_
  unfold resultsRead
  refine (State.onArm_drop rfl (.inr fun _ => rfl) (.inr fun _ => rfl) (.inr fun _ => rfl) (.inr fun _ => rfl)).trans ?_
  refine (markTest_drop _ _ _ rfl).trans ((markTest_drop _ _ _ rfl).trans ((answerGateTest_drop _ rfl).trans ?_))
  exact State.onGlk_drop rfl (.inr fun _ => rfl) (.inr fun _ => rfl) (.inr fun _ => rfl) (.inr fun _ => rfl)
    (.inr fun _ => rfl) (.inr fun _ => rfl) (.inr fun _ => rfl)

/-- A leg that passes loses its cause; its park mark goes in a run from BLOCK alone. -/
def clearedLeg (b2r : Bool) (r : LegRec) : LegRec :=
  if b2r || !r.parkMark then { r with parkMark := false, cause := 0, faultSw := 0 } else r

/-- Both legs have passed. -/
def diagPassed (s : State) : State :=
  (((resultsRead s true true).onLeg .a (clearedLeg s.glk.testB2R)).onLeg .b (clearedLeg s.glk.testB2R)).onArm fun a =>
    { a with diag := .passed, diagFails := 0, resetBlock := false, blk := false }

theorem diagPassed_drop {fm : Nat} (s : State) (h : fm &&& 554050822144 = 554050822144) :
    (diagPassed s).drop fm = s.drop fm := by
  refine drop_sub h ?_
  refine (State.onArm_drop rfl (.inr fun _ => rfl) (.inr fun _ => rfl) (.inr fun _ => rfl) (.inr fun _ => rfl)).trans ?_
  exact (State.onLeg_drop _ _ _ rfl).trans ((State.onLeg_drop _ _ _ rfl).trans (resultsRead_drop s true true rfl))

theorem exec_offStateDiagComplete_passed (hr : s.testRead = true) (ht : s.glk.testRetest = false)
    (ha : s.legCounts .a = true) (hb : s.legCounts .b = true) :
    exec .offStateDiagComplete s = .next (refreshBridge (diagPassed s)) := by
  simp only [exec, execOffStateDiagComplete, hr, ht, ha, hb, Bool.not_true, Bool.or_self, Bool.and_self,
    Bool.false_eq_true, if_false, if_true]
  rfl

theorem floorBypass_pulsed (s : State) (src : Nat) : (floorBypass s src).prt.pulsed = s.prt.pulsed :=
  (same_of_drop (m := 4960780529664) (floorBypass_drop s src rfl) .raised rfl).2

/-- The event of a leg that fails leaves the protection plane alone. -/
theorem failureLogged_prt (s : State) (l : Leg) (pass : Bool) : (if pass then s else logLegFail s l).prt = s.prt := by
  split
  · rfl
  · exact logLegFail_prt s l

/-- A leg that does not count raises source 0x11, whatever follows for the cell. -/
theorem exec_offStateDiagComplete_failed (hr : s.testRead = true) (ht : s.glk.testRetest = false)
    (h : s.legCounts .a = false ∨ s.legCounts .b = false) :
    ∃ x, exec .offStateDiagComplete s = .next (refreshBridge x) ∧ x.prt.pulsed = 0x11 :: s.prt.pulsed := by
  have hraised {x : State} (hx : x.prt = s.prt) : (raiseEvent x 0x11).prt.pulsed = 0x11 :: s.prt.pulsed := by
    rw [(raiseEvent_pulsed x 0x11).1, hx]
  unfold exec execOffStateDiagComplete
  dsimp -zeta only
  rw [if_neg (by simp [hr, ht])]
  extract_lets pa pb read marked loggedA loggedB judged clear good l raisedOne raisedBoth failed
  have hjudged : judged.prt = s.prt :=
    (failureLogged_prt ..).trans ((failureLogged_prt ..).trans ((markTest_prt ..).trans (markTest_prt ..)))
  rw [if_neg (show ¬(pa && pb) = true by rcases h with h | h <;> simp [pa, pb, h])]
  split
  · -- one leg failed
    have hpulsed : raisedOne.prt.pulsed = 0x11 :: s.prt.pulsed := hraised (by rw [onLeg_prt, onLeg_prt, hjudged])
    split
    · refine ⟨_, rfl, ?_⟩
      change (raisedOne.onLeg l _).prt.pulsed = _
      rw [onLeg_prt, hpulsed]
    · refine ⟨_, rfl, ?_⟩
      rw [floorBypass_pulsed]
      exact hpulsed
  · -- both legs failed
    have hpulsed : failed.prt.pulsed = 0x11 :: s.prt.pulsed := hraised (by rw [onLeg_prt, onLeg_prt, hjudged])
    refine ⟨_, rfl, ?_⟩
    split
    · rw [floorBypass_pulsed, hpulsed]
    · exact hpulsed

/-! ### A single leg (R271) -/

/-- The result of a single-leg test is read. -/
def retestRead (s : State) (l : Leg) (pass : Bool) : State :=
  markTest (s.onGlk fun g => { g with testOver := none, testLegs := 0, testRetest := false }) l pass

theorem retestRead_drop {fm : Nat} (s : State) (l : Leg) (pass : Bool) (h : fm &&& 32768 = 32768) :
    (retestRead s l pass).drop fm = s.drop fm :=
  (markTest_drop _ l pass h).trans (State.onGlk_drop h (.inr fun _ => rfl) (.inr fun _ => rfl) (.inr fun _ => rfl)
    (.inr fun _ => rfl) (.inr fun _ => rfl) (.inr fun _ => rfl) (.inr fun _ => rfl))

/-- GLK_TEST stands apart from the legs. -/
theorem retestRead_leg (s : State) (l : Leg) (pass : Bool) (k : Leg) : (retestRead s l pass).leg k = s.leg k :=
  leg_eq (markTest_glk_legA ..) (markTest_glk_legB ..) k

theorem exec_legRetestComplete_passed (hr : s.testRead = true) (ht : s.glk.testRetest = true) {l : Leg}
    (hl : (if s.glk.testLegs == 1 then Leg.a else .b) = l) (hp : s.legPasses l = true) :
    exec .legRetestComplete s =
      .next (refreshBridge ((retestRead s l true).onLeg l fun r => { r with wait := true, cause := 0, faultSw := 0 })) := by
  simp only [exec, execLegRetestComplete, hr, ht, hl, hp, Bool.not_true, Bool.or_self, Bool.false_eq_true, if_false,
    if_true, retestRead]

/-- The leg failed its test. -/
def retestFailed (s : State) (l : Leg) : State :=
  logLegFail ((retestRead s l false).onLeg l fun r => { r with cause := 5 }) l

theorem exec_legRetestComplete_failed (hr : s.testRead = true) (ht : s.glk.testRetest = true) {l : Leg}
    (hl : (if s.glk.testLegs == 1 then Leg.a else .b) = l) (hp : s.legPasses l = false) :
    exec .legRetestComplete s = .next (refreshBridge (parkOrBypass (retestFailed s l) l 0)) := by
  simp only [exec, execLegRetestComplete, hr, ht, hl, hp, Bool.not_true, Bool.or_self, Bool.false_eq_true, if_false,
    retestFailed, retestRead]

/-- Without parking, PE's decision of the token holder on a leg in HIGH_Z is a bypass (R139). -/
theorem parkOrBypass_bypassed {l : Leg} {since src : Nat} {entry : Option Nat} (ho : s.arm.owner = true)
    (hb : s.arm.bypassed = false) (hp : s.im.parkEnable = 0) (hl : (s.leg l).st = .hiZ) :
    (parkOrBypass s l since src entry).arm.bypassed = true := by
  have hpark : parkAllowed s l = false := by simp [parkAllowed, hp]
  simp only [parkOrBypass, ho, hb, hl, hpark, bne_self_eq_false, Bool.not_true, Bool.or_self, Bool.false_eq_true, if_false]
  exact decideBypass_bypassed _ _ _

theorem retestFailed_keep (s : State) (l : Leg) : (retestFailed s l).arm = s.arm ∧ (retestFailed s l).im = s.im ∧
    ((retestFailed s l).leg l).st = (s.leg l).st := by
  unfold retestFailed
  refine ⟨?_, ?_, ?_⟩
  · rw [logLegFail_arm, onLeg_arm]
    rfl
  · unfold State.im
    rw [logLegFail_img, onLeg_img]
    rfl
  · rw [leg_eq (congrArg Glk.legA (logLegFail_glk ..)) (congrArg Glk.legB (logLegFail_glk ..)), onLeg_leg,
      retestRead_leg]

/-! ### Takeover holds (R142) -/

/-- The hold of a leg is over. -/
def Glk.released (g : Glk) : Leg → Glk
  | .a => { g with holdA := false }
  | .b => { g with holdB := false }

/-- Whether the leg was held or not, its hold is over, and nothing else of the links moves. -/
theorem endHold_glk (s : State) (l : Leg) (reason : Nat) : (endHold s l reason).glk = Glk.released s.glk l := by
  unfold endHold
  extract_lets held t differs ended moved
  have hmoved : moved.glk = ended.glk := by
    unfold moved
    split
    · cases l <;> rfl
    · rfl
  split
  · next hfree =>
    have hheld : held = false := by simpa using hfree
    cases l with
    | a => exact congrArg (fun b => { s.glk with holdA := b }) hheld
    | b => exact congrArg (fun b => { s.glk with holdB := b }) hheld
  · rw [logEvent_glk, hmoved]
    cases l <;> rfl

theorem exec_takeHoldTimeout_due {t0 : Nat} (hu : s.glk.takeUntil = some t0) (ht : t0 ≤ s.clock) :
    exec .takeHoldTimeout s =
      .next (refreshBridge ((endHold (endHold s .a 1) .b 1).onGlk fun g => { g with takeUntil := none })) := by
  simp only [exec, execTakeHoldTimeout, due, hu, ht, decide_true, if_true]

/-! ### The production jig (R145) -/

/-- The pulse pattern that GLK_JIG_TIME gives a switch. -/
def jigPattern (s : State) (sw : Nat) : JigRun where
  sw := sw
  start := s.clock + s.kerf (if sw ≤ 2 then .a else .b)
  w1 := (s.glk.jigTime >>> 22).toNat
  gap := ((s.glk.jigTime >>> 12) &&& 0x3FF).toNat
  w2 := ((s.glk.jigTime >>> 2) &&& 0x3FF).toNat

/-- The pattern of a switch begins. -/
def jigStarted (s : State) (sw : Nat) : State :=
  refreshWords (logEvent (s.onGlk fun g => { g with jig := some (jigPattern s sw) }) 0x120B sw (s.glk.jigTime >>> 22).toNat)

theorem opJigGo_started {sw : Nat} (ha : s.jigActive = true) (hm : s.arm.mode = .block) (hu : s.spl.urgLatch = .none)
    (hj : s.glk.jig = none) (h0 : 0 < sw) (h4 : sw ≤ 4) : opJigGo sw s = (jigStarted s sw, 0) := by
  simp only [opJigGo, ha, hm, hu, hj, Nat.not_lt.2 h4, h0.ne', Bool.not_true, bne_self_eq_false, Option.isSome_none,
    Bool.or_self, decide_false, Bool.false_eq_true, if_false]
  rfl

theorem jigStarted_drop {fm : Nat} (s : State) (sw : Nat) (h : fm &&& 8589967360 = 8589967360) :
    (jigStarted s sw).drop fm = s.drop fm := by
  refine drop_sub h ?_
  exact (refreshWords_drop _ rfl).trans ((logEvent_drop _ _ _ _ _ rfl).trans (State.onGlk_drop rfl (.inr fun _ => rfl)
    (.inr fun _ => rfl) (.inr fun _ => rfl) (.inr fun _ => rfl) (.inr fun _ => rfl) (.inr fun _ => rfl) (.inr fun _ => rfl)))

theorem exec_jigPulseEnd_over {j : JigRun} (hj : s.glk.jig = some j)
    (ht : j.start + usNs * (if j.w2 = 0 then j.w1 else j.w1 + j.gap + j.w2) ≤ s.clock) :
    exec .jigPulseEnd s = .next (refreshWords (s.onGlk fun g => { g with jig := none })) := by
  simp only [exec, execJigPulseEnd, hj, if_pos ht]

end

/-- Settles O16: each command by its equation; a failed run by the source that every one of its ends raises, a failed leg by
the bypass that PE decides. -/
theorem bridgeDiagnostics : Obligations.BridgeDiagnostics := by
  refine ⟨?_, ?_, ?_, ?_, ?_, ?_, ?_, ?_, ?_⟩
  · -- OFF_STATE_DIAG_START
    intro s hp hc hb hu ho hla hlb hha hhb hw hq
    refine completes_exec (exec_offStateDiagStart_quiet hp hc hb hu ho hla hlb hha hhb hw hq) ?_
      (by dsimp only [execMask]; rfl)
    refine ⟨?_, ?_, ?_, ?_, ?_, fun i => ?_, refreshBridge_word _⟩
    · rw [refreshBridge_glk_testUntil]; rfl
    · rw [refreshBridge_glk_testLegs]; rfl
    · rw [refreshBridge_glk_testRetest]; rfl
    · rw [refreshBridge_glk_testB2R]; rfl
    · rw [refreshBridge_arm]
      simp only [testOpened, State.onGlk_arm, State.onArm_arm, beq_iff_eq]
    · obtain ⟨-, -, -, -, htest, -⟩ := refreshBridge_link (testOpened s) i
      rw [htest]
      simp [testOpened, State.onGlk]
  · -- TEST_WINDOW_EXPIRY
    intro s t0 hu ht
    exact completes_exec (exec_testWindowExpiry_due hu ht)
      ⟨refreshBridge_glk_testUntil _, refreshBridge_glk_testOver _, refreshBridge_word _⟩ (by dsimp only [execMask]; rfl)
  · -- OFF_STATE_DIAG_COMPLETE, both legs passed
    intro s hr ht ha hb
    refine completes_within (exec_offStateDiagComplete_passed hr ht ha hb) ⟨?_, ?_, fun l => ?_, refreshBridge_word _⟩
      ((refreshBridge_drop _ rfl).trans (diagPassed_drop s rfl))
    · rw [refreshBridge_glk_testOver]; rfl
    · rw [refreshBridge_arm]; rfl
    · rw [refreshBridge_leg]
      cases l <;> rfl
  · -- OFF_STATE_DIAG_COMPLETE, a leg failed
    intro s hr ht h
    obtain ⟨x, hexec, hpulsed⟩ := exec_offStateDiagComplete_failed hr ht h
    exact completes_exec hexec ⟨(congrArg Prt.pulsed (refreshBridge_prt x)).trans hpulsed, refreshBridge_word x⟩
      (by dsimp only [execMask]; rfl)
  · -- LEG_RETEST_COMPLETE, leg A passed
    intro s hr ht hl hp
    refine completes_within (exec_legRetestComplete_passed hr ht (by rw [hl]; rfl) hp)
      ⟨?_, ?_, ?_, ?_, ?_, refreshBridge_word _⟩
      ((refreshBridge_drop _ rfl).trans ((State.onLeg_drop _ _ _ rfl).trans (retestRead_drop s .a true rfl)))
    · rw [refreshBridge_glk_testOver]; rfl
    · rw [refreshBridge_glk_testLegs]; rfl
    · rw [refreshBridge_glk_testRetest]; rfl
    · rw [refreshBridge_leg]; rfl
    · rw [refreshBridge_leg]; rfl
  · -- LEG_RETEST_COMPLETE, leg B failed without parking
    intro s hr ht hl hp ho hb hpark hst
    obtain ⟨harm, him, hleg⟩ := retestFailed_keep s .b
    have hbyp := parkOrBypass_bypassed (s := retestFailed s .b) (since := 0) (src := 0x10) (entry := none) (by rw [harm, ho])
      (by rw [harm, hb]) (by rw [him, hpark]) (hleg.trans hst)
    exact completes_exec (exec_legRetestComplete_failed hr ht (by rw [hl]; rfl) hp)
      ⟨(congrArg Arm.bypassed (refreshBridge_arm _)).trans hbyp, refreshBridge_word _⟩ (by dsimp only [execMask]; rfl)
  · -- TAKE_HOLD_TIMEOUT
    intro s t0 hu ht
    have hglk : (endHold (endHold s .a 1) .b 1).glk = Glk.released (Glk.released s.glk .a) .b := by
      rw [endHold_glk, endHold_glk]
    refine completes_exec (exec_takeHoldTimeout_due hu ht) ⟨?_, ?_, ?_, refreshBridge_word _⟩ (by dsimp only [execMask]; rfl)
    · rw [refreshBridge_glk_takeUntil]; rfl
    · rw [refreshBridge_glk_holdA]; exact congrArg Glk.holdA hglk
    · rw [refreshBridge_glk_holdB]; exact congrArg Glk.holdB hglk
  · -- GLK_JIG_GO
    intro s p sw hg ha hm hu hj h0 h4
    have hop := opJigGo_started ha hm hu hj h0 h4
    have hcmd := regCmd_granted (op := opJigGo sw) hg (by rw [hop]; rfl)
    rw [hop] at hcmd
    exact completes_within (congrArg Host.Outcome.next hcmd) ⟨rfl, rfl, answered_of rfl⟩
      ((answer_drop _ p 0 rfl).trans (jigStarted_drop s sw rfl))
  · -- JIG_PULSE_END
    intro s j hj ht
    exact completes_exec (exec_jigPulseEnd_over hj ht) rfl (by dsimp only [execMask]; rfl)

end Sys2Proof.Machine
end

section
/-! SUPPORT. The registers of the pulse units that ME alone writes (O47). -/

namespace Sys2Proof.Machine

section
variable {s : State} {p : Requester} {addr v : Word}

/-- An address from the first shadow register to the last start register lies in the PWM_ block. -/
theorem pwmAddr_split (h1 : 0x40010 ≤ addr.toNat) (h2 : addr.toNat < 0x40050) :
    addr.toNat / 65536 = 4 ∧ 0x10 ≤ addr.toNat % 65536 ∧ addr.toNat % 65536 < 0x50 := by
  omega

/-- The shadow, apply, start and commit registers are ME's alone (R147). -/
theorem isMeOnly_pwmAddr (h1 : 0x40010 ≤ addr.toNat) (h2 : addr.toNat < 0x40050) (ha : addr ≠ 0x0004002C)
    (hb : addr ≠ 0x0004004C) : isMeOnly (addr.toNat % 65536) = true := by
  have hA : addr.toNat ≠ 0x4002C := fun h => ha (BitVec.eq_of_toNat_eq h)
  have hB : addr.toNat ≠ 0x4004C := fun h => hb (BitVec.eq_of_toNat_eq h)
  simp only [isMeOnly, Bool.and_eq_true, decide_eq_true_eq, bne_iff_ne]
  omega

/-- The eight registers of a pulse unit stand at every fourth offset of its window. -/
theorem readUnit_isSome (s : State) (u : PulseUnit) (k : Nat) (hk : k < 8) : (readUnit s u (4 * k)).isSome = true := by
  match k, hk with
  | 0, _ | 1, _ | 2, _ | 3, _ | 4, _ | 5, _ | 6, _ | 7, _ => rfl

theorem readPwm_units {o : Nat} (h1 : 0x10 ≤ o) (h2 : o < 0x50) :
    readPwm s o = if o < 0x30 then readUnit s s.pwm.a (o - 0x10) else readUnit s s.pwm.b (o - 0x30) := by
  unfold readPwm
  split
  case h_6 => rw [if_neg (Nat.not_lt.2 h1)]
  all_goals omega

/-- Each of them is a register of the map. -/
theorem readReg_pwmUnits (h4 : addr.toNat % 4 = 0) (h1 : 0x40010 ≤ addr.toNat) (h2 : addr.toNat < 0x40050) :
    (readReg s p addr).isSome = true := by
  obtain ⟨hblock, hlow, hhigh⟩ := pwmAddr_split h1 h2
  have hsome : (readPwm s (addr.toNat % 65536)).isSome = true := by
    rw [readPwm_units hlow hhigh]
    split
    · obtain ⟨k, hk⟩ : ∃ k, addr.toNat % 65536 - 0x10 = 4 * k := ⟨(addr.toNat % 65536 - 0x10) / 4, by omega⟩
      rw [hk]
      exact readUnit_isSome s _ k (by omega)
    · obtain ⟨k, hk⟩ : ∃ k, addr.toNat % 65536 - 0x30 = 4 * k := ⟨(addr.toNat % 65536 - 0x30) / 4, by omega⟩
      rw [hk]
      exact readUnit_isSome s _ k (by omega)
  simpa only [readReg, hblock, Option.isSome_map] using hsome

/-- A write to one of them goes to the check of the right, and then meets "not owner". -/
theorem regWrite_meOnly (h4 : addr.toNat % 4 = 0) (h1 : 0x40010 ≤ addr.toNat) (h2 : addr.toNat < 0x40050)
    (ha : addr ≠ 0x0004002C) (hb : addr ≠ 0x0004004C) :
    regWrite s p addr v = conf s p addr fun s => (s, 0x01) := by
  obtain ⟨hblock, -, -⟩ := pwmAddr_split h1 h2
  have hmap := Option.isNone_eq_false_iff.mpr (readReg_pwmUnits (s := s) (p := p) h4 h1 h2)
  simp only [regWrite, h4, hblock, hmap, ne_eq, not_true_eq_false, if_false, Bool.false_eq_true, writePwm,
    isMeOnly_pwmAddr h1 h2 ha hb, if_true]

theorem conf_granted {op : State → RegRes} (hr : s.right p .configure addr = true) : conf s p addr op = op s := if_pos hr

theorem conf_denied {op : State → RegRes} (hr : s.right p .configure addr = false) :
    conf s p addr op = (deny s p .configure addr, 2) := if_neg (by rw [hr]; exact Bool.false_ne_true)

end

/-- Settles O47: behind the right every such write meets "not owner"; without it, it is denied first. -/
theorem pwmRegistersOfMe : Obligations.PwmRegistersOfMe := by
  refine ⟨?_, ?_⟩ <;> intro s p addr v hp h4 h1 h2 ha hb hr
  · exact completes_write_unchanged hp ((regWrite_meOnly h4 h1 h2 ha hb).trans (conf_granted hr))
  · obtain ⟨hcount, haddr⟩ := deny_counted (s := s) (p := p) (addr := addr) .configure
    exact completes_write hp ((regWrite_meOnly h4 h1 h2 ha hb).trans (conf_denied hr)) ⟨hcount, haddr, rfl⟩
      (deny_drop s p .configure addr rfl) rfl rfl

end Sys2Proof.Machine
end

section
/-! SUPPORT. The commands of a battery chain: what refuses them (O19), and what they do in the states that accept them
(O20). -/

namespace Sys2Proof.Machine

section
variable {s : State} {p : Requester} {c : ChainId} {cmd : Instr} {op : State → RegRes} {code status : Nat}

/-! ### Commands that change one chain -/

/-- A change of a chain leaves the other chain as it is. -/
theorem onChain_chain (s : State) (c : ChainId) (f : Chain → Chain) :
    (s.onChain c f).chain c = f (s.chain c) ∧ ∀ k, k ≠ c → (s.onChain c f).chain k = s.chain k :=
  ⟨onChain_self s c f, fun k hk => (onChain_at s c k f).trans (if_neg hk)⟩

theorem answer_chain (s : State) (p : Requester) (code : Nat) (k : ChainId) :
    (answer s p code).chain k = s.chain k := send_chain ..

/-- A granted register operation that changes the fields of one chain, and answers with 0x00. -/
theorem completes_granted_onChain {cls : OpClass} {addr : Word} {f : Chain → Chain}
    (hc : exec cmd s = .next (regCmd s p fun s => withRight s p cls addr op)) (hg : Granted s p cls addr)
    (ho : op s = (s.onChain c f, 0)) : Completes cmd s [.chA, .chB, .outbox] fun t =>
      t.chain c = f (s.chain c) ∧ (∀ k, k ≠ c → t.chain k = s.chain k) ∧ Answered s t p 0 := by
  obtain ⟨hself, hother⟩ := onChain_chain s c f
  refine completes_granted hc hg ho ⟨?_, fun k hk => ?_, answered_of (by cases c <;> rfl)⟩
    (by rw [ho]; exact State.onChain_drop s c f rfl) rfl rfl
  · rw [answer_chain, hself]
  · rw [answer_chain, hother k hk]

/-! ### The checks of a chain command (R165, R166, R359) -/

/-- The checks that every CHA_CMD begins with, then what the command does behind them. -/
def chainChecked (s : State) (c : ChainId) (code : Nat) (act : RegRes) : RegRes :=
  if !s.declared c then (s, 0x00)
  else if !s.arm.owner then refuseChain s c code 0x04
  else if s.chainLocked c then refuseChain s c code 0x05
  else act

theorem chainChecked_noToken {act : RegRes} (hd : s.declared c = true) (ho : s.arm.owner = false) :
    chainChecked s c code act = refuseChain s c code 4 := by
  simp only [chainChecked, hd, ho, Bool.not_true, Bool.not_false, Bool.false_eq_true, if_false, if_true]

theorem chainChecked_locked {act : RegRes} (hd : s.declared c = true) (ho : s.arm.owner = true)
    (hl : s.chainLocked c = true) : chainChecked s c code act = refuseChain s c code 5 := by
  simp only [chainChecked, hd, ho, hl, Bool.not_true, Bool.false_eq_true, if_false, if_true]

theorem chainChecked_passed {act : RegRes} (hd : s.declared c = true) (ho : s.arm.owner = true)
    (hl : s.chainLocked c = false) : chainChecked s c code act = act := by
  simp only [chainChecked, hd, ho, hl, Bool.not_true, Bool.false_eq_true, if_false]

/-- What CONNECT does behind the checks. -/
def connectAct (s : State) (c : ChainId) : RegRes :=
  if s.canConnect c then (startConnect s c false, 0x00) else refuseChain s c 1 0x04

/-- What RUN does behind the checks. -/
def runAct (s : State) (c : ChainId) : RegRes :=
  if (s.chain c).st == .block && (s.chain c).closed && !s.ranked c && s.arm.mode != .block then (enterRun s c, 0x00)
  else refuseChain s c 2 0x04

/-- What BLOCK does behind the checks. -/
def blockAct (s : State) (c : ChainId) : RegRes :=
  if s.ranked c then refuseChain s c 3 0x04
  else match (s.chain c).st with
    | .run => (stationZero s c false, 0x00)
    | .connecting => (abortConnect s c, 0x00)
    | .absent | .block | .zeroing | .opening => refuseChain s c 3 0x04

/-- What DISCONNECT does behind the checks. -/
def disconnectAct (s : State) (c : ChainId) : RegRes :=
  if (s.chain c).st == .absent || ((s.chain c).st == .block && (s.chain c).opened) then (s, 0x00)
  else if s.ranked c then refuseChain s c 4 0x04
  else match (s.chain c).st with
    | .block => (startOpening s c, 0x00)
    | .run => (stationZero s c true, 0x00)
    | .zeroing => (s.onChain c fun ch => { ch with openAfter := true }, 0x00)
    | .connecting => (abortConnect s c, 0x00)
    | .absent | .opening => refuseChain s c 4 0x04

theorem opChaConnect_checked (s : State) (c : ChainId) : opChaConnect c s = chainChecked s c 1 (connectAct s c) := rfl

theorem opChaRun_checked (s : State) (c : ChainId) : opChaRun c s = chainChecked s c 2 (runAct s c) := rfl

theorem opChaBlock_checked (s : State) (c : ChainId) : opChaBlock c s = chainChecked s c 3 (blockAct s c) := rfl

theorem opChaDisconnect_checked (s : State) (c : ChainId) :
    opChaDisconnect c s = chainChecked s c 4 (disconnectAct s c) := rfl

/-! ### Refusals (R166) -/

/-- A refusal counts in REFUSED and changes nothing else of the chain. -/
theorem refuseChain_chain (s : State) (c : ChainId) (code status : Nat) :
    (refuseChain s c code status).1.chain c = { s.chain c with cntRefused := bump 8 (s.chain c).cntRefused } :=
  (logEvent_chain ..).trans (onChain_self ..)

theorem refuseChain_logged (s : State) (c : ChainId) (code status : Nat) :
    Logged s (refuseChain s c code status).1 0x2011 code status :=
  logEvent_cong (by cases c <;> rfl) (by cases c <;> rfl) (by cases c <;> rfl) ..

theorem refuseChain_outbox (s : State) (c : ChainId) (code status : Nat) :
    (refuseChain s c code status).1.outbox = s.outbox := by
  cases c <;> rfl

/-- A refused chain command: counted, logged and answered with its status. -/
theorem completes_refused
    (hc : exec cmd s = .next (regCmd s p fun s => withRight s p .operate (chaAddr c 4) op))
    (hg : Granted s p .operate (chaAddr c 4)) (ho : op s = refuseChain s c code status) :
    Completes cmd s [.chA, .chB, .evt, .outbox] fun t =>
      t.chain c = { s.chain c with cntRefused := bump 8 (s.chain c).cntRefused } ∧
      Logged s t 0x2011 code status ∧ Answered s t p status := by
  refine completes_granted hc hg (x := (refuseChain s c code status).1) (code := status) ho ⟨?_, ?_, ?_⟩
    (by rw [ho]; exact refuseChain_drop s c code status rfl) rfl rfl
  · exact (answer_chain ..).trans (refuseChain_chain s c code status)
  · exact refuseChain_logged s c code status
  · exact answered_of (refuseChain_outbox s c code status)

end

/-- Settles O19: the checks come first in each of the four commands, and a refusal is the same in all of them. -/
theorem chainCommandRefusals : Obligations.ChainCommandRefusals := by
  refine ⟨?_, ?_, ?_, ?_, ?_, ?_, ?_, ?_⟩
  · -- CHA_CMD_CONNECT
    intro s p c hg hd ho
    exact completes_refused rfl hg ((opChaConnect_checked s c).trans (chainChecked_noToken hd ho))
  · intro s p c hg hd ho hl
    exact completes_refused rfl hg ((opChaConnect_checked s c).trans (chainChecked_locked hd ho hl))
  · -- CHA_CMD_RUN
    intro s p c hg hd ho
    exact completes_refused rfl hg ((opChaRun_checked s c).trans (chainChecked_noToken hd ho))
  · intro s p c hg hd ho hl
    exact completes_refused rfl hg ((opChaRun_checked s c).trans (chainChecked_locked hd ho hl))
  · -- CHA_CMD_BLOCK
    intro s p c hg hd ho
    exact completes_refused rfl hg ((opChaBlock_checked s c).trans (chainChecked_noToken hd ho))
  · intro s p c hg hd ho hl
    exact completes_refused rfl hg ((opChaBlock_checked s c).trans (chainChecked_locked hd ho hl))
  · -- CHA_CMD_DISCONNECT
    intro s p c hg hd ho
    exact completes_refused rfl hg ((opChaDisconnect_checked s c).trans (chainChecked_noToken hd ho))
  · intro s p c hg hd ho hl
    exact completes_refused rfl hg ((opChaDisconnect_checked s c).trans (chainChecked_locked hd ho hl))

section
variable {s : State} {c : ChainId}

/-! ### The commands behind the checks (Table 07.3) -/

theorem blockAct_of_run (hr : s.ranked c = false) (hst : (s.chain c).st = .run) :
    blockAct s c = (stationZero s c false, 0) := by
  simp only [blockAct, hr, hst, Bool.false_eq_true, if_false]

theorem blockAct_of_connecting (hr : s.ranked c = false) (hst : (s.chain c).st = .connecting) :
    blockAct s c = (abortConnect s c, 0) := by
  simp only [blockAct, hr, hst, Bool.false_eq_true, if_false]

theorem runAct_of_closed (hst : (s.chain c).st = .block) (hk : (s.chain c).closed = true) (hr : s.ranked c = false)
    (hm : s.arm.mode ≠ .block) : runAct s c = (enterRun s c, 0) := by
  simp only [runAct, hst, hk, hr, bne_iff_ne.2 hm, beq_self_eq_true, Bool.not_false, Bool.and_self, if_true]

/-- An absent chain, and one in BLOCK with open contactors, has nothing to disconnect. -/
theorem disconnectAct_of_open (h : (s.chain c).st = .absent ∨ (s.chain c).st = .block ∧ (s.chain c).opened = true) :
    disconnectAct s c = (s, 0) := by
  refine if_pos ?_
  obtain hst | ⟨hst, hk⟩ := h
  · rw [hst]; rfl
  · rw [hst, hk]; rfl

theorem disconnectAct_of_closed (hr : s.ranked c = false) (hst : (s.chain c).st = .block)
    (hk : (s.chain c).opened = false) : disconnectAct s c = (startOpening s c, 0) := by
  simp only [disconnectAct, hr, hst, hk, reduceCtorEq, beq_iff_eq, Bool.and_false, Bool.or_false, Bool.false_eq_true,
    if_false]

theorem disconnectAct_of_run (hr : s.ranked c = false) (hst : (s.chain c).st = .run) :
    disconnectAct s c = (stationZero s c true, 0) := by
  simp [disconnectAct, hr, hst]

theorem disconnectAct_of_zeroing (hr : s.ranked c = false) (hst : (s.chain c).st = .zeroing) :
    disconnectAct s c = (s.onChain c fun ch => { ch with openAfter := true }, 0) := by
  simp [disconnectAct, hr, hst]

end

/-- Settles O20: behind the checks each command is one shared operation, whose effect on the chain has a lemma. -/
theorem chainCommandsAct : Obligations.ChainCommandsAct := by
  refine ⟨?_, ?_, ?_, ?_, ?_, ?_, ?_, ?_⟩
  · -- CHA_CMD_CONNECT
    intro s p c hg hd ho hl hcan
    obtain ⟨hself, hother⟩ := startConnect_chain s c false
    have hop : opChaConnect c s = (startConnect s c false, 0) :=
      (opChaConnect_checked s c).trans ((chainChecked_passed hd ho hl).trans (if_pos hcan))
    exact completes_granted rfl hg hop
      ⟨(answer_chain ..).trans hself, fun k hk => (answer_chain ..).trans (hother k hk), rfl⟩
      (by rw [hop]; exact startConnect_drop s c false rfl) rfl rfl
  · -- CHA_CMD_RUN
    intro s p c hg hd ho hl hst hk hr hm
    have hop : opChaRun c s = (enterRun s c, 0) :=
      (opChaRun_checked s c).trans ((chainChecked_passed hd ho hl).trans (runAct_of_closed hst hk hr hm))
    exact completes_granted_onChain rfl hg hop
  · -- CHA_CMD_BLOCK from RUN
    intro s p c hg hd ho hl hr hst
    have hop : opChaBlock c s = (stationZero s c false, 0) :=
      (opChaBlock_checked s c).trans ((chainChecked_passed hd ho hl).trans (blockAct_of_run hr hst))
    obtain ⟨hzero, hafter, hprot, hsince, href⟩ := stationZero_effect s c false
    refine completes_granted rfl hg hop ?_ (by rw [hop]; exact stationZero_drop s c false rfl) rfl rfl
    rw [answer_chain]
    exact ⟨hzero, hafter, hprot, hsince, href, rfl⟩
  · -- CHA_CMD_BLOCK while connecting
    intro s p c hg hd ho hl hr hst
    have hop : opChaBlock c s = (abortConnect s c, 0) :=
      (opChaBlock_checked s c).trans ((chainChecked_passed hd ho hl).trans (blockAct_of_connecting hr hst))
    obtain ⟨hopen, hseq, hdue, hpos, hpre, hneg, -, -⟩ := abortConnect_effect s c _ rfl
    refine completes_granted rfl hg hop ?_ (by rw [hop]; exact abortConnect_drop s c rfl) rfl rfl
    rw [answer_chain]
    exact ⟨hopen, hseq, hdue, hpos, hpre, hneg, rfl⟩
  · -- CHA_CMD_DISCONNECT of an absent or open chain
    intro s p c hg hd ho hl hst
    exact completes_unchanged rfl hg
      ((opChaDisconnect_checked s c).trans ((chainChecked_passed hd ho hl).trans (disconnectAct_of_open hst)))
  · -- CHA_CMD_DISCONNECT from BLOCK
    intro s p c hg hd ho hl hr hst hk
    have hop : opChaDisconnect c s = (startOpening s c, 0) :=
      (opChaDisconnect_checked s c).trans ((chainChecked_passed hd ho hl).trans (disconnectAct_of_closed hr hst hk))
    obtain ⟨hopen, hseq, hdue, -, hpos, hneg, hpre, -, -⟩ := startOpening_effect s c _ rfl
    refine completes_granted rfl hg hop ?_ (by rw [hop]; exact startOpening_drop s c rfl) rfl rfl
    rw [answer_chain]
    exact ⟨hopen, hseq, hdue, hpos, hneg, hpre, rfl⟩
  · -- CHA_CMD_DISCONNECT from RUN
    intro s p c hg hd ho hl hr hst
    have hop : opChaDisconnect c s = (stationZero s c true, 0) :=
      (opChaDisconnect_checked s c).trans ((chainChecked_passed hd ho hl).trans (disconnectAct_of_run hr hst))
    obtain ⟨hzero, hafter, hprot, hsince, href⟩ := stationZero_effect s c true
    refine completes_granted rfl hg hop ?_ (by rw [hop]; exact stationZero_drop s c true rfl) rfl rfl
    rw [answer_chain]
    exact ⟨hzero, hafter, hprot, hsince, href, rfl⟩
  · -- CHA_CMD_DISCONNECT while the current is driven to zero
    intro s p c hg hd ho hl hr hst
    have hop : opChaDisconnect c s = (s.onChain c fun ch => { ch with openAfter := true }, 0) :=
      (opChaDisconnect_checked s c).trans ((chainChecked_passed hd ho hl).trans (disconnectAct_of_zeroing hr hst))
    exact completes_granted_onChain rfl hg hop

end Sys2Proof.Machine
end

section
/-! SUPPORT. The contactor sequences of a battery chain: connection (O21), opening, the drive to zero current and the
forced opening (O22). -/

namespace Sys2Proof.Machine

section
variable {s : State} {c : ChainId}

/-! ### Steps of a sequence (Tables 07.5, 07.6) -/

@[simp] theorem onChain_clock (s : State) (c : ChainId) (f : Chain → Chain) : (s.onChain c f).clock = s.clock := by
  cases c <;> rfl

/-- A change of a chain together with a command to one of its coils. -/
theorem onChain_coil_chain (s : State) (c : ChainId) (f : Chain → Chain) (role : Nat) (on : Bool) :
    (setCoil (s.onChain c f) c role on).chain c = (f (s.chain c)).coil role on s.clock ∧
    ∀ k, k ≠ c → (setCoil (s.onChain c f) c role on).chain k = s.chain k := by
  obtain ⟨hself, hother⟩ := onChain_chain s c f
  refine ⟨?_, fun k hk => ?_⟩
  · rw [setCoil_self, hself, onChain_clock]
  · rw [setCoil_chain, if_neg hk, hother k hk]

theorem onChain_coil_drop {fm : Nat} (s : State) (c : ChainId) (f : Chain → Chain) (role : Nat) (on : Bool)
    (h : fm &&& 67305472 = 67305472) : (setCoil (s.onChain c f) c role on).drop fm = s.drop fm :=
  drop_sub h ((setCoil_drop _ c role on rfl).trans (State.onChain_drop s c f rfl))

/-- The sequence of the chain goes on to step `q`, whose time ends at `d`. -/
def Chain.goOn (x : Chain) (q : SeqStep) (d : Nat) : Chain := { x with seq := q, seqDue := some d }

/-! ### Connection (Table 07.5, R168, R209) -/

theorem exec_connectStepTimer_diagsDone (hst : (s.chain c).st = .connecting) (hq : (s.chain c).seq = .conDiag)
    (hd : s.diagsDone c = true) : exec (.connectStepTimer c) s = .next (beginConnect s c) := by
  simp only [exec, execConnectStepTimer, hst, hq, hd, beq_self_eq_true, Bool.and_self, if_true]

/-- t1 of Table 07.5 with modules enough: K_NEG. -/
theorem beginConnect_enough (h : s.im.str.minModules ≤ s.avail c) : beginConnect s c =
    logEvent (setCoil (s.onChain c fun x =>
      { x.goOn .conNeg (s.clock + msNs * s.im.contSettle c) with seqStart := s.clock }) c 1 true) 0x2001
      (s.preTarget / 1000) :=
  if_neg (Nat.not_lt.2 h)

section
variable (hst : (s.chain c).st = .connecting) (hd : due s.clock (s.chain c).seqDue = true)
include hst hd

theorem exec_connectStepTimer_conDiag (hq : (s.chain c).seq = .conDiag) (hn : s.diagsDone c = false) :
    exec (.connectStepTimer c) s =
      .next (requestDiags (s.onChain c fun x => { x with seqDue := some (s.clock + 20 * msNs) }) c) := by
  simp [exec, execConnectStepTimer, hst, hq, hd, hn]

theorem exec_connectStepTimer_conNeg (hq : (s.chain c).seq = .conNeg) : exec (.connectStepTimer c) s =
    .next (setCoil (s.onChain c (·.goOn .conPre (s.clock + msNs * s.im.contSettle c))) c 2 true) := by
  simp [exec, execConnectStepTimer, hst, hq, hd, Chain.goOn]

/-- What charging takes with it: the target and the time that it may take. -/
theorem exec_connectStepTimer_conPre (hq : (s.chain c).seq = .conPre) : exec (.connectStepTimer c) s =
    .next (nextFree (s.onChain c fun x => { x with
      seq := .conCharge
      seqDue := none
      target := s.preTarget
      preDue := some (s.clock + secNs * s.im.preTimeout c) })) := by
  simp [exec, execConnectStepTimer, hst, hq, hd]

theorem exec_connectStepTimer_conPos (hq : (s.chain c).seq = .conPos) : exec (.connectStepTimer c) s =
    .next (setCoil (s.onChain c (·.goOn .conPreOff (s.clock + msNs * s.im.contSettle c))) c 2 false) := by
  simp [exec, execConnectStepTimer, hst, hq, hd, Chain.goOn]

theorem exec_connectStepTimer_conPreOff (hq : (s.chain c).seq = .conPreOff) :
    exec (.connectStepTimer c) s = .next (connected s c) := by
  simp [exec, execConnectStepTimer, hst, hq, hd]

end

/-- RUN with one contactor cycle more. -/
def runCounted (s : State) (c : ChainId) : State :=
  (enterRun s c).onChain c fun x => { x with opsCycles := sat 16 (x.opsCycles + 1) }

/-- Without a PRECHARGE activity the connection ends in RUN. -/
theorem connected_of_command (h : (s.chain c).preOnly = false) :
    connected s c = logWide (runCounted s c) 0x2002 (s.chain c).preMs := by
  simp only [connected, h, Bool.false_eq_true, if_false, runCounted]

theorem logWide_chain (s : State) (code v : Nat) (k : ChainId) : (logWide s code v).chain k = s.chain k :=
  logEvent_chain ..

theorem runCounted_chain (s : State) (c : ChainId) :
    (runCounted s c).chain c = { s.chain c with
      st := .run, seq := .none, seqDue := none, preDue := none, preOnly := false, byAllHeld := false,
      openAfter := false, protReq := none, integ := 0, iRef := some 0,
      opsCycles := sat 16 ((s.chain c).opsCycles + 1) } ∧
    ∀ k, k ≠ c → (runCounted s c).chain k = s.chain k := by
  obtain ⟨hself, hother⟩ := onChain_chain (enterRun s c) c fun x => { x with opsCycles := sat 16 (x.opsCycles + 1) }
  refine ⟨hself.trans ?_, fun k hk => (hother k hk).trans ((onChain_chain s c _).2 k hk)⟩
  rw [show (enterRun s c).chain c = _ from onChain_self ..]

/-- The pre-charge has taken `preMs`, and K_POS closes. -/
theorem exec_prechargeTargetReached_met (hst : (s.chain c).st = .connecting) (hq : (s.chain c).seq = .conCharge)
    (ht : s.targetMet c = true) (hn : s.chNear c (s.im.connectDv c) = true) :
    ∃ ms, exec (.prechargeTargetReached c) s = .next (setCoil (s.onChain c fun x =>
      { x.goOn .conPos (s.clock + msNs * s.im.contSettle c) with preDue := none, preMs := ms }) c 0 true) :=
  ⟨_, by
    simp only [exec, execPrechargeTargetReached, hst, hq, ht, hn, beq_self_eq_true, Bool.and_self, if_true]
    rfl⟩

theorem exec_prechargeTimeout_due (hst : (s.chain c).st = .connecting) (hq : (s.chain c).seq = .conCharge)
    (hd : due s.clock (s.chain c).preDue = true) (ht : s.targetMet c = false) :
    ∃ v, exec (.prechargeTimeout c) s = .next (logEvent ((abortConnect s c).onChain c fun x =>
      { x with coolDue := some (s.clock + secNs * s.im.preTimeout c) }) 0x2003 v) :=
  ⟨_, by
    simp only [exec, execPrechargeTimeout, hst, hq, hd, ht, beq_self_eq_true, Bool.not_false, Bool.and_self, if_true]
    rfl⟩

theorem exec_prechargeCooldownEnd_due (hd : due s.clock (s.chain c).coolDue = true) (hm : s.arm.mode ≠ .energise) :
    exec (.prechargeCooldownEnd c) s = .next (s.onChain c fun x => { x with coolDue := none }) := by
  simp [exec, execPrechargeCooldownEnd, hd, hm]

end

/-- Settles O21: each step by its equation, each abort by what `abortConnect` leaves. -/
theorem chainConnectionSequence : Obligations.ChainConnectionSequence := by
  refine ⟨?_, ?_, ?_, ?_, ?_, ?_, ?_, ?_, ?_, ?_⟩
  · -- CONNECT_STEP_TIMER, every diagnostic answered
    intro s c hst hq hd hmin
    obtain ⟨hself, hother⟩ := onChain_coil_chain s c (fun x =>
      { x.goOn .conNeg (s.clock + msNs * s.im.contSettle c) with seqStart := s.clock }) 1 true
    have hself' := (logEvent_chain _ 0x2001 (s.preTarget / 1000) 0 0 c).trans hself
    exact completes_within ((exec_connectStepTimer_diagsDone hst hq hd).trans (congrArg _ (beginConnect_enough hmin)))
      ⟨hself', congrArg Chain.kNeg hself', fun k hk => (logEvent_chain ..).trans (hother k hk)⟩
      ((logEvent_drop _ _ _ _ _ rfl).trans (onChain_coil_drop s c _ 1 true rfl))
  · -- CONNECT_STEP_TIMER, too few modules left
    intro s c hst hq hd hmin
    obtain ⟨hopen, hseq, hdue, hpos, hpre, -⟩ := abortConnect_effect s c _ rfl
    exact completes_within ((exec_connectStepTimer_diagsDone hst hq hd).trans (congrArg _ (if_pos hmin)))
      ⟨hopen, hseq, hdue, hpos, hpre⟩ (abortConnect_drop s c rfl)
  · -- CONNECT_STEP_TIMER, diagnostics asked again
    intro s c hst hd hq hn
    obtain ⟨hself, hother⟩ := onChain_chain s c fun x => { x with seqDue := some (s.clock + 20 * msNs) }
    exact completes_within (exec_connectStepTimer_conDiag hst hd hq hn)
      ⟨(requestDiags_chain ..).trans hself, fun k hk => (requestDiags_chain ..).trans (hother k hk)⟩
      ((requestDiags_drop _ c rfl).trans (State.onChain_drop s c _ rfl))
  · -- CONNECT_STEP_TIMER, K_PRE closes
    intro s c hst hd hq
    exact completes_within (exec_connectStepTimer_conNeg hst hd hq) (onChain_coil_chain s c _ 2 true)
      (onChain_coil_drop s c _ 2 true rfl)
  · -- CONNECT_STEP_TIMER, charging begins
    intro s c hst hd hq
    refine completes_within (exec_connectStepTimer_conPre hst hd hq) ?_
      ((nextFree_drop _ rfl).trans (State.onChain_drop s c _ rfl))
    simp only [nextFree_chain]
    exact onChain_chain s c _
  · -- CONNECT_STEP_TIMER, K_PRE opens
    intro s c hst hd hq
    exact completes_within (exec_connectStepTimer_conPos hst hd hq) (onChain_coil_chain s c _ 2 false)
      (onChain_coil_drop s c _ 2 false rfl)
  · -- CONNECT_STEP_TIMER, RUN
    intro s c hst hd hq hp
    refine completes_within
      ((exec_connectStepTimer_conPreOff hst hd hq).trans (congrArg _ (connected_of_command hp))) ?_
      ((logWide_drop _ _ _ rfl).trans ((State.onChain_drop _ c _ rfl).trans (enterRun_drop s c rfl)))
    simp only [logWide_chain]
    exact runCounted_chain s c
  · -- PRECHARGE_TARGET_REACHED
    intro s c hst hq ht hn
    obtain ⟨ms, hexec⟩ := exec_prechargeTargetReached_met hst hq ht hn
    obtain ⟨hself, hother⟩ := onChain_coil_chain s c (fun x =>
      { x.goOn .conPos (s.clock + msNs * s.im.contSettle c) with preDue := none, preMs := ms }) 0 true
    refine completes_within hexec ?_ (onChain_coil_drop s c _ 0 true rfl)
    rw [hself]
    exact ⟨rfl, rfl, rfl, rfl, rfl, rfl, hst, hother⟩
  · -- PRECHARGE_TIMEOUT
    intro s c hst hq hd ht
    obtain ⟨v, hexec⟩ := exec_prechargeTimeout_due hst hq hd ht
    obtain ⟨hopen, hseq, hdue, hpos, hpre, -⟩ := abortConnect_effect s c _ rfl
    refine completes_exec hexec ?_ (by dsimp only [execMask]; rfl)
    rw [logEvent_chain, onChain_self]
    exact ⟨hopen, hseq, hdue, hpos, hpre, rfl⟩
  · -- PRECHARGE_COOLDOWN_END
    intro s c hd hm
    exact completes_within (exec_prechargeCooldownEnd_due hd hm) (onChain_chain s c _) (State.onChain_drop s c _ rfl)

section
variable {s : State} {c : ChainId}

/-! ### Opening (Table 07.6, R168, R171, R172) -/

section
variable (hst : (s.chain c).st = .opening) (hd : due s.clock (s.chain c).seqDue = true)
include hst hd

theorem exec_openingStepTimer_openPos (hq : (s.chain c).seq = .openPos) :
    exec (.openingStepTimer c) s = .next (s.onChain c (·.goOn .openTest1 (s.clock + 10 * msNs))) := by
  simp [exec, execOpeningStepTimer, hst, hq, hd, Chain.goOn]

theorem exec_openingStepTimer_openNeg (hq : (s.chain c).seq = .openNeg) : exec (.openingStepTimer c) s =
    .next (setCoil (s.onChain c (·.goOn .openPreOn (s.clock + msNs * s.im.contSettle c))) c 2 true) := by
  simp [exec, execOpeningStepTimer, hst, hq, hd, Chain.goOn]

theorem exec_openingStepTimer_openShort1 (hq : (s.chain c).seq = .openShort1) : exec (.openingStepTimer c) s =
    .next (setCoil (s.onChain c (·.goOn .openShort2 (s.clock + msNs * s.im.contSettle c))) c 1 false) := by
  simp [exec, execOpeningStepTimer, hst, hq, hd, Chain.goOn]

theorem exec_openingStepTimer_forcePos (hq : (s.chain c).seq = .forcePos) : exec (.openingStepTimer c) s =
    .next (setCoil (s.onChain c (·.goOn .forceNeg (s.clock + msNs * s.im.contSettle c))) c 1 false) := by
  simp [exec, execOpeningStepTimer, hst, hq, hd, Chain.goOn]

/-- Test 2 begins from the chain voltage of now. -/
theorem exec_openingStepTimer_openPreOn (hq : (s.chain c).seq = .openPreOn) : exec (.openingStepTimer c) s =
    .next ((s.onChain c (·.goOn .openTest2 (s.clock + 10 * msNs))).onChain c fun x =>
      { x with weldBase := s.vCh c }) := by
  simp [exec, execOpeningStepTimer, hst, hq, hd, Chain.goOn]

theorem exec_openingStepTimer_abortPre (hq : (s.chain c).seq = .abortPre) : exec (.openingStepTimer c) s =
    .next (finishOpen (setCoil s c 1 false) c (s.chain c).coolDue.isSome) := by
  simp [exec, execOpeningStepTimer, hst, hq, hd]

/-- The last step of each sequence but the aborted one. -/
theorem exec_openingStepTimer_last
    (hq : (s.chain c).seq = .openPreOff ∨ (s.chain c).seq = .openShort2 ∨ (s.chain c).seq = .forceNeg) :
    ∃ forced, exec (.openingStepTimer c) s = .next (finishOpen s c forced) := by
  obtain hq | hq | hq := hq
  · exact ⟨false, by simp [exec, execOpeningStepTimer, hst, hq, hd]⟩
  · exact ⟨false, by simp [exec, execOpeningStepTimer, hst, hq, hd]⟩
  · exact ⟨true, by simp [exec, execOpeningStepTimer, hst, hq, hd]⟩

/-- After its last step the chain is in BLOCK, with no request left. -/
theorem completes_opened
    (hq : (s.chain c).seq = .openPreOff ∨ (s.chain c).seq = .openShort2 ∨ (s.chain c).seq = .forceNeg) :
    Completes (.openingStepTimer c) s [.chA, .chB, .evt] fun t => t.chain c = { s.chain c with
      st := .block, seq := .none, seqDue := none, openReq := false, openReqAt := none, openAfter := false,
      preOnly := false, weldBase := none, byAllHeld := false } := by
  obtain ⟨forced, hexec⟩ := exec_openingStepTimer_last hst hd hq
  exact completes_within hexec (finishOpen_chain s c forced) (finishOpen_drop s c forced rfl)

end

/-! ### The drive to zero current (R170) -/

theorem exec_zeroingComplete_quiet {t0 : Nat} (hst : (s.chain c).st = .zeroing) (hp : (s.chain c).protReq = none)
    (hz : (s.chain c).zeroSince = some t0) (ht : t0 + msNs ≤ s.clock) : exec (.zeroingComplete c) s =
    .next (if (s.chain c).openAfter then startOpening s c else enterBlock s c) := by
  simp [exec, execZeroingComplete, hst, hp, hz, ht]

section
variable {t0 : Nat} (hst : (s.chain c).st = .zeroing) (hp : (s.chain c).protReq = some t0)
include hst hp

theorem exec_protectiveZeroBlock_block (ha : (s.chain c).openAfter = false)
    (hz : s.quiet c = true ∨ t0 + msNs ≤ s.clock) : exec (.protectiveZeroBlock c) s =
    .next ((enterBlock (blockAll s c) c).onChain c fun x =>
      { x with openReq := (s.chain c).openReq, openReqAt := none }) := by
  simp [exec, execProtectiveZeroBlock, hst, hp, ha, hz]

theorem exec_protectiveZeroBlock_open (ha : (s.chain c).openAfter = true) (hz : s.quiet c = true) :
    exec (.protectiveZeroBlock c) s = .next (startOpening (blockAll s c) c) := by
  simp [exec, execProtectiveZeroBlock, hst, hp, ha, hz]

end

/-- Where BLOCK leaves a chain: the fields of its sequence and of its loop. -/
theorem enterBlock_chain (s : State) (c : ChainId) : ((enterBlock s c).chain c).st = .block ∧
    ((enterBlock s c).chain c).seq = .none ∧ ((enterBlock s c).chain c).protReq = none ∧
    ((enterBlock s c).chain c).iRef = some 0 ∧ ((enterBlock s c).chain c).kPos = (s.chain c).kPos ∧
    ((enterBlock s c).chain c).kNeg = (s.chain c).kNeg ∧ ((enterBlock s c).chain c).kPre = (s.chain c).kPre := by
  have hhead := enterBlock_head s c
  have hrest := enterBlock_rest s c
  simp only [Chain.head, Chain.rest, Prod.mk.injEq] at hhead hrest
  obtain ⟨hst, hseq, -, -, -, -, hprot, href, -⟩ := hhead
  obtain ⟨hpos, hneg, hpre, -⟩ := hrest
  exact ⟨hst, hseq, hprot, href, hpos, hneg, hpre⟩

/-- BLOCK_ALL leaves the contactors of a chain as they are. -/
theorem blockAll_contactors (s : State) (c : ChainId) : ((blockAll s c).chain c).kPos = (s.chain c).kPos ∧
    ((blockAll s c).chain c).kNeg = (s.chain c).kNeg ∧ ((blockAll s c).chain c).kPre = (s.chain c).kPre := by
  have hrest := blockAll_rest s c
  simp only [Chain.rest, Prod.mk.injEq] at hrest
  obtain ⟨hpos, hneg, hpre, -⟩ := hrest
  exact ⟨hpos, hneg, hpre⟩

/-! ### The forced opening (R172) -/

/-- The chain opens under current, and the opening counts. -/
def forcedOpening (d : Nat) (x : Chain) : Chain :=
  { x.goOn .forcePos d with st := .opening, forced := true, openReqAt := none, opsForced := sat 16 (x.opsForced + 1) }

theorem exec_forcedOpen_due {t0 : Nat} (ha : (s.chain c).openReqAt = some t0) (hst : (s.chain c).st = .block)
    (hr : (s.chain c).openReq = true) (ho : (s.chain c).opened = false) (hz : s.quiet c = false)
    (ht : t0 + 20 * msNs ≤ s.clock) : ∃ i, exec (.forcedOpen c) s =
    .next (logEvent (setCoil (s.onChain c (forcedOpening (s.clock + msNs * s.im.contSettle c))) c 0 false) 0x2005 i) :=
  ⟨_, by
    simp only [exec, execForcedOpen, ha, hst, hr, ho, hz, ht, beq_self_eq_true, Bool.not_false, Bool.and_self,
      decide_true, if_true]
    rfl⟩

end

/-- Settles O22: each step by its equation; the drives to zero end by what `enterBlock` and `startOpening` leave. -/
theorem chainOpeningSequence : Obligations.ChainOpeningSequence := by
  refine ⟨?_, ?_, ?_, ?_, ?_, ?_, ?_, ?_, ?_, ?_, ?_, ?_, ?_⟩
  · -- OPENING_STEP_TIMER, test 1 begins
    intro s c hst hd hq
    exact completes_within (exec_openingStepTimer_openPos hst hd hq) (onChain_chain s c _)
      (State.onChain_drop s c _ rfl)
  · -- OPENING_STEP_TIMER, K_PRE closes
    intro s c hst hd hq
    exact completes_within (exec_openingStepTimer_openNeg hst hd hq) (onChain_coil_chain s c _ 2 true)
      (onChain_coil_drop s c _ 2 true rfl)
  · -- OPENING_STEP_TIMER, K_NEG opens in the short sequence
    intro s c hst hd hq
    exact completes_within (exec_openingStepTimer_openShort1 hst hd hq) (onChain_coil_chain s c _ 1 false)
      (onChain_coil_drop s c _ 1 false rfl)
  · -- OPENING_STEP_TIMER, K_NEG opens in the forced sequence
    intro s c hst hd hq
    exact completes_within (exec_openingStepTimer_forcePos hst hd hq) (onChain_coil_chain s c _ 1 false)
      (onChain_coil_drop s c _ 1 false rfl)
  · -- OPENING_STEP_TIMER, test 2 begins
    intro s c hst hd hq
    obtain ⟨hself, hother⟩ := onChain_chain s c (·.goOn .openTest2 (s.clock + 10 * msNs))
    obtain ⟨hself', hother'⟩ := onChain_chain (s.onChain c (·.goOn .openTest2 (s.clock + 10 * msNs))) c
      fun x => { x with weldBase := s.vCh c }
    rw [hself] at hself'
    exact completes_within (exec_openingStepTimer_openPreOn hst hd hq)
      ⟨hself', fun k hk => (hother' k hk).trans (hother k hk)⟩
      ((State.onChain_drop _ c _ rfl).trans (State.onChain_drop s c _ rfl))
  · -- OPENING_STEP_TIMER, the end of each sequence
    exact fun s c hst hd hq => completes_opened hst hd (.inl hq)
  · exact fun s c hst hd hq => completes_opened hst hd (.inr (.inl hq))
  · exact fun s c hst hd hq => completes_opened hst hd (.inr (.inr hq))
  · -- OPENING_STEP_TIMER, the end of an aborted connection
    intro s c hst hd hq
    refine completes_within (exec_openingStepTimer_abortPre hst hd hq) ?_
      ((finishOpen_drop _ c _ rfl).trans (setCoil_drop s c 1 false rfl))
    rw [finishOpen_chain, setCoil_self]
    exact ⟨rfl, rfl, rfl, rfl, rfl, rfl⟩
  · -- ZEROING_COMPLETE
    intro s c t0 hst hp hz ht
    refine completes_exec (exec_zeroingComplete_quiet hst hp hz ht) ?_ (by dsimp only [execMask]; rfl)
    cases ha : (s.chain c).openAfter with
    | false =>
      obtain ⟨hblock, -, -, href, hpos, hneg, hpre⟩ := enterBlock_chain s c
      exact ⟨hblock, href, nofun, fun _ => ⟨hpos, hneg, hpre⟩⟩
    | true =>
      obtain ⟨hopen, -, hdue, -, hpos, -, -, href, -⟩ := startOpening_effect s c _ rfl
      exact ⟨hopen, href, fun _ => ⟨hpos, hdue⟩, nofun⟩
  · -- PROTECTIVE_ZERO_BLOCK without an opening
    intro s c t0 hst hp ha hz
    obtain ⟨hblock, hseq, hprot, href, hpos, hneg, hpre⟩ := enterBlock_chain (blockAll s c) c
    obtain ⟨hpos', hneg', hpre'⟩ := blockAll_contactors s c
    refine completes_exec (exec_protectiveZeroBlock_block hst hp ha hz) ?_ (by dsimp only [execMask]; rfl)
    rw [onChain_self]
    exact ⟨hblock, hseq, hprot, href, rfl, rfl, hpos.trans hpos', hneg.trans hneg', hpre.trans hpre'⟩
  · -- PROTECTIVE_ZERO_BLOCK that opens
    intro s c t0 hst hp ha hz
    obtain ⟨hopen, -, -, -, hpos, hneg, hpre, href, -⟩ := startOpening_effect (blockAll s c) c _ rfl
    obtain ⟨-, hneg', hpre'⟩ := blockAll_contactors s c
    exact completes_exec (exec_protectiveZeroBlock_open hst hp ha hz)
      ⟨hopen, hpos, hneg.trans hneg', hpre.trans hpre', href⟩ (by dsimp only [execMask]; rfl)
  · -- FORCED_OPEN
    intro s c t0 ha hst hr ho hz ht
    obtain ⟨i, hexec⟩ := exec_forcedOpen_due ha hst hr ho hz ht
    obtain ⟨hself, hother⟩ := onChain_coil_chain s c (forcedOpening (s.clock + msNs * s.im.contSettle c)) 0 false
    exact completes_within hexec
      ⟨(logEvent_chain ..).trans hself, fun k hk => (logEvent_chain ..).trans (hother k hk)⟩
      ((logEvent_drop _ _ _ _ _ rfl).trans (onChain_coil_drop s c _ 0 false rfl))

end Sys2Proof.Machine
end

section
/-! SUPPORT. Parking, unparking and the weld clear (O23). -/

namespace Sys2Proof.Machine

section
variable {s : State} {c : ChainId} {m : Fin 32}

/-! ### The checks of a command to one module (R163, R359) -/

/-- The checks that a command to one module begins with, then what the command does behind them. -/
def moduleChecked (s : State) (c : ChainId) (m : Fin 32) (act : RegRes) : RegRes :=
  if !s.declared c then (s, 0x00)
  else if s.nMods ≤ m.val then (s, 0x07)
  else if !s.arm.owner then (s, 0x04)
  else if s.chainLocked c then (s, 0x05)
  else act

theorem moduleChecked_range {act : RegRes} (hd : s.declared c = true) (hm : s.nMods ≤ m.val) :
    moduleChecked s c m act = (s, 7) := by
  simp only [moduleChecked, hd, hm, Bool.not_true, Bool.false_eq_true, if_false, if_true]

theorem moduleChecked_passed {act : RegRes} (hd : s.declared c = true) (hm : m.val < s.nMods) (ho : s.arm.owner = true)
    (hl : s.chainLocked c = false) : moduleChecked s c m act = act := by
  simp only [moduleChecked, hd, Nat.not_le.2 hm, ho, hl, Bool.not_true, Bool.false_eq_true, if_false]

theorem opChaPark_checked (s : State) (c : ChainId) (m : Fin 32) :
    opChaPark c m s = moduleChecked s c m (requestPark s c m 2, 0) := rfl

/-! ### One module of a chain -/

/-- A change of one module's record leaves the others as they are. -/
theorem onMod_mods (s : State) (c : ChainId) (m : Fin 32) (f : ModRec → ModRec) :
    ((s.onMod c m f).chain c).mods[m] = f (s.chain c).mods[m] ∧
    ∀ j : Fin 32, j ≠ m → ((s.onMod c m f).chain c).mods[j] = (s.chain c).mods[j] :=
  ⟨onMod_self s c m f, fun _ hj => onMod_other s c f hj⟩

/-! ### Parking (R163) -/

/-- A new request that the count of modules allows only stands with the module. -/
theorem requestPark_allowed (hh : (s.chain c).mods[m].held = false) (hp : (s.chain c).mods[m].pend = 0)
    (ha : s.canPark c m = true) :
    requestPark s c m 2 = keepPark (s.onMod c m fun x => { x with pend := if x.pend = 0 then 2 else x.pend }) c m := by
  have hnew : ((s.chain c).mods[m].pend == 2) = false := by rw [hp]; rfl
  simp only [requestPark, hh, hnew, ha, Bool.or_self, Bool.false_eq_true, if_false, if_true]

/-- Module m is parked, with the cause of its request, and leaves the selection order. -/
def parkedChain (s : State) (c : ChainId) (m : Fin 32) : State :=
  (s.onMod c m fun x =>
    { x with st := .parked, cause := (s.chain c).mods[m].pend, pend := 0, barred := false, trim := false }).onChain c
    fun ch => { ch with order := ch.order.filter (· != m) }

theorem parkedChain_mods (s : State) (c : ChainId) (m : Fin 32) :
    ((parkedChain s c m).chain c).mods[m] = { (s.chain c).mods[m] with
      st := .parked, cause := (s.chain c).mods[m].pend, pend := 0, barred := false, trim := false } ∧
    ∀ j : Fin 32, j ≠ m → ((parkedChain s c m).chain c).mods[j] = (s.chain c).mods[j] := by
  unfold parkedChain
  rw [onChain_self]
  exact onMod_mods s c m _

theorem parkedChain_order (s : State) (c : ChainId) (m : Fin 32) :
    ((parkedChain s c m).chain c).order = (s.chain c).order.filter (· != m) := by
  unfold parkedChain State.onMod
  rw [onChain_self, onChain_self]

/-- The selection of a chain: its modules and their order. -/
def Chain.selection (x : Chain) : Vector ModRec 32 × List (Fin 32) := (x.mods, x.order)

/-- A change of module m is recorded: its park and pending causes, DERATE, and the event. -/
def parkRecorded (s : State) (c : ChainId) (m : Fin 32) (code d : Nat) : State :=
  logEvent (settleDerate (keepPark s c m) c) code m.val d

theorem parkRecorded_selection (s : State) (c : ChainId) (m : Fin 32) (code d : Nat) :
    ((parkRecorded s c m code d).chain c).selection = (s.chain c).selection := by
  unfold parkRecorded
  rw [logEvent_chain]
  exact (settleDerate_c (g := Chain.selection) (fun _ _ => rfl) _ c c).trans (congrArg _ (keepPark_chain s c c m))

/-- The activities that end with it leave the selection alone. -/
theorem watchActs_selection (s : State) (c : ChainId) : ((watchActs s).chain c).selection = (s.chain c).selection :=
  watchActs_l (g := Chain.selection) (fun _ _ _ => rfl) s c

/-- What UNPARK does with a module that is held in PARKED. -/
theorem opUnpark_checked (hh : (s.chain c).mods[m].held = true) :
    opUnpark c m s = moduleChecked s c m
      (if s.parkCauseStands c m (s.chain c).mods[m].cause then (s, 4)
      else (parkRecorded (s.onMod c m fun x => { x with leave := true, cause := 0 }) c m 0x2009 0, 0)) := by
  simp only [opUnpark, moduleChecked, hh, if_true]
  rfl

theorem exec_parkExecute_allowed (hr : s.chainRuns c = true) (hp : (s.chain c).mods[m].pend ≠ 0)
    (hst : (s.chain c).mods[m].st ≠ .parked) (ht : (s.chain c).mods[m].trim = false) (ha : s.canPark c m = true) :
    exec (.parkExecute c m) s =
      .next (watchActs (parkRecorded (parkedChain s c m) c m 0x2007 (s.chain c).mods[m].pend)) := by
  simp only [exec, execParkExecute, hr, bne_iff_ne.2 hp, bne_iff_ne.2 hst, ht, ha, Bool.not_false, Bool.and_self,
    if_true]
  rfl

end

/-- Settles O23: each command is a change of one module's record, around which everything else leaves the modules
alone. -/
theorem moduleParking : Obligations.ModuleParking := by
  refine ⟨?_, ?_, ?_, ?_, ?_, ?_⟩
  · -- CHA_PARK_GO
    intro s p c m hg hd hm ho hl hh hp ha
    have hop : opChaPark c m s = (keepPark (s.onMod c m _) c m, 0) :=
      (opChaPark_checked s c m).trans ((moduleChecked_passed hd hm ho hl).trans
        (congrArg (·, 0) (requestPark_allowed hh hp ha)))
    obtain ⟨hself, hother⟩ := onMod_mods s c m fun x => { x with pend := if x.pend = 0 then 2 else x.pend }
    refine completes_granted rfl hg hop ?_
      (by rw [hop]; exact (keepPark_drop _ c m rfl).trans (State.onMod_drop s c m _ rfl)) rfl rfl
    rw [answer_chain, keepPark_chain]
    exact ⟨hself.trans (by simp only [hp, if_true]), hother, answered_of (by cases c <;> rfl)⟩
  · -- CHA_PARK_GO, no such module
    intro s p c m hg hd hm
    exact completes_unchanged rfl hg ((opChaPark_checked s c m).trans (moduleChecked_range hd hm))
  · -- PARK_EXECUTE
    intro s c m hr hp hst ht ha
    have hsel := (watchActs_selection (parkRecorded (parkedChain s c m) c m 0x2007 (s.chain c).mods[m].pend) c).trans
      (parkRecorded_selection ..)
    obtain ⟨hmods, horder⟩ := Prod.mk.inj hsel
    obtain ⟨hself, hother⟩ := parkedChain_mods s c m
    refine completes_exec (exec_parkExecute_allowed hr hp hst ht ha) ?_ (by dsimp only [execMask]; rfl)
    rw [hmods, horder]
    exact ⟨hself, hother, parkedChain_order s c m⟩
  · -- CHA_CLEAR_UNPARK
    intro s p c m hg hd hm ho hl hh hc
    have hop := (opUnpark_checked hh).trans ((moduleChecked_passed hd hm ho hl).trans
      (if_neg (by rw [hc]; exact Bool.false_ne_true)))
    obtain ⟨hself, hother⟩ := onMod_mods s c m fun x => { x with leave := true, cause := 0 }
    obtain ⟨hmods, -⟩ := Prod.mk.inj
      (parkRecorded_selection (s.onMod c m fun x => { x with leave := true, cause := 0 }) c m 0x2009 0)
    refine completes_granted rfl hg hop ?_ (opUnpark_drop c m s rfl) rfl rfl
    rw [answer_chain, hmods]
    exact ⟨hself, hother, rfl⟩
  · -- CHA_CLEAR_UNPARK, the cause stands
    intro s p c m hg hd hm ho hl hh hc
    exact completes_unchanged rfl hg
      ((opUnpark_checked hh).trans ((moduleChecked_passed hd hm ho hl).trans (if_pos hc)))
  · -- CHA_CLEAR_WELD
    intro s p c hg hd ho
    have hop : opClearWeld c s =
        (s.onChain c fun ch => { ch with weldPos := false, weldNeg := false, weldPre := false }, 0) := by
      simp only [opClearWeld, hd, ho, Bool.not_true, Bool.false_eq_true, if_false]
    exact completes_granted_onChain rfl hg hop

end Sys2Proof.Machine
end

section
/-! SUPPORT. The periodic commands of a battery chain: the current loop, the staircase, the strobe, the over-budget
count and the learning wave (O24). -/

namespace Sys2Proof.Machine

section
variable {s : State} {c : ChainId}

/-! ### The current loop (R155, R157) -/

theorem onChain_im (s : State) (c : ChainId) (f : Chain → Chain) : (s.onChain c f).im = s.im := by cases c <;> rfl

/-- The samples of a loop period are taken. -/
def loopSampled (s : State) (c : ChainId) (i : Option Int) (vCap vCh : Option Nat) : State :=
  (setVCh (s.onMeas fun x => { x with vCap := vCap }) c vCh).onChain c fun ch => { ch with iMeas := i }

/-- The limits of the period, and since when the current is within I_ZERO. -/
def loopLimited (s : State) (c : ChainId) (now : Nat) : State :=
  s.onChain c fun ch =>
    { ch with
      quietSince := if s.quiet c then some (ch.quietSince.getD now) else none
      zeroSince := if s.quiet c then some (ch.zeroSince.getD now) else none
      limDis := (s.limits c).1
      limChg := (s.limits c).2 }

/-- The reference of the period. -/
def loopReferenced (s : State) (c : ChainId) : State :=
  nextFree (s.onChain c fun ch => { ch with iRef := some (s.nextRef c) })

/-- What samples, limits and reference set of a chain, and its state. -/
def Chain.loopInputs (x : Chain) := (x.st, x.iMeas, x.limDis, x.limChg, x.iRef)

theorem loopSampled_chain (s : State) (c : ChainId) (i : Option Int) (vCap vCh : Option Nat) :
    (loopSampled s c i vCap vCh).chain c = { s.chain c with iMeas := i } := by
  unfold loopSampled
  rw [onChain_self, setVCh_chain, onMeas_chain]

theorem loopSampled_im (s : State) (c : ChainId) (i : Option Int) (vCap vCh : Option Nat) :
    (loopSampled s c i vCap vCh).im = s.im := onChain_im ..

theorem loopReferenced_inputs (s : State) (c : ChainId) (now : Nat) :
    ((loopReferenced (loopLimited s c now) c).chain c).loopInputs =
      ((s.chain c).st, (s.chain c).iMeas, (s.limits c).1, (s.limits c).2, some ((loopLimited s c now).nextRef c)) := by
  unfold loopReferenced
  rw [nextFree_chain, onChain_self, show (loopLimited s c now).chain c = _ from onChain_self ..]
  rfl

/-- A loop period of a chain in RUN: behind samples, limits and reference, the output and the command window leave what
these set. -/
theorem exec_currentLoopTick_run {i : Option Int} {vCap vCh : Option Nat} (hr : s.chainRuns c = true)
    (hst : (s.chain c).st = .run) : ∃ t, exec (.currentLoopTick c i vCap vCh) s = .next t ∧
      (t.chain c).loopInputs =
        ((loopReferenced (loopLimited (loopSampled s c i vCap vCh) c s.clock) c).chain c).loopInputs := by
  unfold exec execCurrentLoopTick
  dsimp -zeta only
  rw [if_neg (by rw [hr]; exact Bool.false_ne_true)]
  extract_lets now sampled0 sampled q limited ref referenced meas out b driven t ch
  have hdriven : (driven.chain c).loopInputs = (referenced.chain c).loopInputs := by
    unfold driven
    rw [nextFree_chain]
    split <;> rw [onChain_self] <;> rfl
  have ht : (t.chain c).loopInputs = (referenced.chain c).loopInputs := by
    unfold t
    rw [commandWindow_c (g := Chain.loopInputs) (fun _ _ => rfl), refreshBleed_chain, hdriven]
  have hrun : ch.st = .run := by
    have hinputs := ht.trans (loopReferenced_inputs (loopSampled s c i vCap vCh) c s.clock)
    rw [loopSampled_chain] at hinputs
    exact (congrArg Prod.fst hinputs).trans hst
  refine ⟨t, if_neg ?_, ht⟩
  rw [hrun]
  exact Bool.false_ne_true

/-- In RUN the reference moves towards the target by the slew (R155). -/
theorem nextRef_run (hst : (s.chain c).st = .run) (hq : (s.chain c).seq = .none) :
    s.nextRef c = slewTo ((s.chain c).iRef.getD 0) (20000 * s.target c) (100 * (s.im.iSlew c : Int)) := by
  simp only [State.nextRef, State.driveLimit, hst, hq]

theorem slewTo_bounds (cur goal : Int) (n : Nat) :
    cur - 100 * n ≤ slewTo cur goal (100 * n) ∧ slewTo cur goal (100 * n) ≤ cur + 100 * n :=
  clampI_bounds _ _ _ (by omega)

/-- The reference of the period is that of the samples and limits of before it, within a slew of the last one. -/
theorem loopLimited_nextRef_bounds (now : Nat) (hst : (s.chain c).st = .run) (hq : (s.chain c).seq = .none) :
    (s.chain c).iRef.getD 0 - 100 * s.im.iSlew c ≤ (loopLimited s c now).nextRef c ∧
    (loopLimited s c now).nextRef c ≤ (s.chain c).iRef.getD 0 + 100 * s.im.iSlew c := by
  have hchain : (loopLimited s c now).chain c = _ := onChain_self ..
  have him : (loopLimited s c now).im = s.im := onChain_im ..
  rw [nextRef_run (by rw [hchain]; exact hst) (by rw [hchain]; exact hq), him, hchain]
  exact slewTo_bounds _ _ _

/-! ### The staircase (R153, R154) -/

/-- The chain of the trim period that begins, by its staircase. -/
def stairChain (s : State) (c : ChainId) (z : Stair) (ch : Chain) : Chain :=
  { ch with
    nIns := z.nIns
    sat := z.sat
    trim1 := z.trim1
    trim2 := z.trim2
    w1 := if z.trim1.isSome then z.w / 10 else 0
    w2 := if z.trim2.isSome then z.w / 10 else 0
    mods := Vector.ofFn fun m =>
      { ch.mods[m] with
        st := if m.val < s.nMods then s.modState c z m else ch.mods[m].st
        trim := z.trim1 == some m || z.trim2 == some m
        leave := false } }

theorem exec_trimPeriodStaircase_running (hr : s.chainRuns c = true) : exec (.trimPeriodStaircase c) s =
    .next ((nextFree s).onChain c (stairChain s c (s.stairAt c s.tim.time))) := by
  simp only [exec, execTrimPeriodStaircase, hr, Bool.not_true, Bool.false_eq_true, if_false]
  rfl

section
variable {z : Stair} {ch : Chain} {m : Fin 32}

theorem stairChain_leave (s : State) (c : ChainId) (z : Stair) (ch : Chain) (m : Fin 32) :
    (stairChain s c z ch).mods[m].leave = false := by
  simp [stairChain]

theorem stairChain_st (hm : m.val < s.nMods) : (stairChain s c z ch).mods[m].st = s.modState c z m := by
  simp [stairChain, hm]

/-- A module that stays PARKED. -/
theorem modState_of_held (hh : (s.chain c).mods[m].held = true) : s.modState c z m = .parked := if_pos hh

/-- A module that leaves PARKED, or was never there, follows the rest of the staircase's rules. -/
theorem modState_of_free (hh : (s.chain c).mods[m].held = false) : s.modState c z m =
    if !s.stringOn c || (s.chain c).mods[m].lost then .block
    else if (s.chain c).isTarget m then
      (if !s.learnPaused c && (s.chain c).learn.inserts then .insert else .bypass)
    else if z.inserted.contains m then .insert else .bypass :=
  if_neg (by rw [show (_ && _) = _ from hh]; exact Bool.false_ne_true)

theorem modState_of_blocked (hh : (s.chain c).mods[m].held = false)
    (hb : s.stringOn c = false ∨ (s.chain c).mods[m].lost = true) : s.modState c z m = .block :=
  (modState_of_free hh).trans (if_pos (by obtain hb | hb := hb <;> rw [hb] <;> simp))

/-- A module of a string that works. -/
theorem modState_of_working (hh : (s.chain c).mods[m].held = false) (hs : s.stringOn c = true)
    (hl : (s.chain c).mods[m].lost = false) : s.modState c z m =
    if (s.chain c).isTarget m then
      (if !s.learnPaused c && (s.chain c).learn.inserts then .insert else .bypass)
    else if z.inserted.contains m then .insert else .bypass :=
  (modState_of_free hh).trans (if_neg (by rw [hs, hl]; exact Bool.false_ne_true))

end

/-! ### The strobe (R197, R202, R216) -/

/-- The converters have sampled, and the samples that are missing are counted. -/
def strobeSampled (s : State) (c : ChainId) (vCap vCh : Option Nat) : State :=
  setVCh ((countMissing (latchSets s c) c).onMeas fun x => { x with vCap := vCap, vCapSet := vCap }) c vCh

/-- The device's own filter has taken its update, where the strobe was sent or seen. -/
def strobeFiltered (s : State) (c : ChainId) (i : Option Int) (vCap vCh : Option Nat) : State :=
  if ((strobeSampled s c vCap vCh).sen c).strobed then filterStrobe (strobeSampled s c vCap vCh) c i
  else strobeSampled s c vCap vCh

/-- The strobe at `ts` is taken into the chain: its sample, and what the records of the sentinels await. -/
def strobeTaken (s : State) (c : ChainId) (i : Option Int) (ts : Nat) : State :=
  (s.onChain c fun ch => { ch with iMeas := i }).onSen c fun x =>
    { x with awaited := x.strobed, strobed := false, strobeAt := ts }

/-- Veneer, spans and order follow a strobe. -/
def strobeFollowed (s : State) (c : ChainId) : State := resortChain (refreshSpan (refreshVeneer s c) c) c

theorem exec_sampleStrobe_running {i : Option Int} {vCap vCh : Option Nat} {run hib : Int} {shunt : List (Nat × Int)}
    (hr : s.chainRuns c = true) : exec (.sampleStrobe c i vCap vCh run hib shunt) s =
    .next (strobeFollowed (strobeTaken (integrate (strobeFiltered s c i vCap vCh) c (s.tim.time / 1000000 * 1000000)
      run hib shunt) c i (s.tim.time / 1000000 * 1000000)) c) := by
  simp only [exec, execSampleStrobe, hr, Bool.not_true, Bool.false_eq_true, if_false]
  rfl

theorem countMissing_strobed (s : State) (c : ChainId) : ((countMissing s c).sen c).strobed = (s.sen c).strobed := by
  unfold countMissing
  split
  · rfl
  · dsimp only
    rw [onSen_self]

theorem strobeSampled_keep (s : State) (c : ChainId) (vCap vCh : Option Nat) :
    ((strobeSampled s c vCap vCh).sen c).strobed = (s.sen c).strobed ∧ (strobeSampled s c vCap vCh).es c = s.es c ∧
    (strobeSampled s c vCap vCh).img = s.img ∧ (strobeSampled s c vCap vCh).pwr = s.pwr := by
  have hd := (setVCh_drop (fm := blockMask [.meas, .snA, .snB]) _ c vCh rfl).trans
    ((State.onMeas_drop (s := countMissing (latchSets s c) c)
      (f := fun x => { x with vCap := vCap, vCapSet := vCap }) rfl).trans
    ((countMissing_drop _ c rfl).trans (latchSets_drop s c rfl)))
  refine ⟨?_, es_of (same_of_drop hd .esA rfl) (same_of_drop hd .esB rfl) c, same_of_drop hd .img rfl,
    same_of_drop hd .pwr rfl⟩
  unfold strobeSampled
  rw [setVCh_sen, onMeas_sen, countMissing_strobed]
  unfold latchSets
  rw [onSen_self]

theorem strobeFiltered_keep (s : State) (c : ChainId) (i : Option Int) (vCap vCh : Option Nat) :
    ((strobeFiltered s c i vCap vCh).sen c).strobed = (s.sen c).strobed ∧
    (strobeFiltered s c i vCap vCh).es c = s.es c ∧ (strobeFiltered s c i vCap vCh).img = s.img ∧
    (strobeFiltered s c i vCap vCh).pwr = s.pwr := by
  obtain ⟨hstrobed, hes, himg, hpwr⟩ := strobeSampled_keep s c vCap vCh
  unfold strobeFiltered
  split
  · obtain ⟨-, hstrobed', -, hes', himg', hpwr', -⟩ := filterStrobe_effect (strobeSampled s c vCap vCh) c i
    exact ⟨hstrobed'.trans hstrobed, (hes' c).trans hes, himg'.trans himg, hpwr'.trans hpwr⟩
  · exact ⟨hstrobed, hes, himg, hpwr⟩

/-- A strobe that was sent marks the commands that the records await. -/
theorem strobeFiltered_sent {i : Option Int} {vCap vCh : Option Nat} (h : (s.sen c).strobed = true) :
    ((strobeFiltered s c i vCap vCh).sen c).iRaw = i ∧ ∀ m : Fin 32,
      ((strobeFiltered s c i vCap vCh).sen c).recs[m].cntMark =
        ((strobeFiltered s c i vCap vCh).sen c).recs[m].cnt := by
  obtain ⟨hstrobed, -⟩ := strobeSampled_keep s c vCap vCh
  obtain ⟨hraw, -, hmark, -⟩ := filterStrobe_effect (strobeSampled s c vCap vCh) c i
  unfold strobeFiltered
  rw [if_pos (hstrobed.trans h)]
  exact ⟨hraw, hmark⟩

theorem strobeTaken_keep (s : State) (c : ChainId) (i : Option Int) (ts : Nat) :
    (strobeTaken s c i ts).es c = s.es c ∧ ((strobeTaken s c i ts).chain c).iMeas = i ∧
    (strobeTaken s c i ts).sen c =
      { s.sen c with awaited := (s.sen c).strobed, strobed := false, strobeAt := ts } := by
  unfold strobeTaken
  refine ⟨?_, ?_, ?_⟩
  · rw [onSen_es, onChain_es]
  · rw [onSen_chain, onChain_self]
  · rw [onSen_self, onChain_sen]

theorem strobeFollowed_keep (s : State) (c : ChainId) :
    ((strobeFollowed s c).es c).acc = (s.es c).acc ∧ ((strobeFollowed s c).es c).accLive = (s.es c).accLive ∧
    ((strobeFollowed s c).es c).cci = (s.es c).cci ∧ ((strobeFollowed s c).chain c).iMeas = (s.chain c).iMeas ∧
    (strobeFollowed s c).sen c = s.sen c := by
  unfold strobeFollowed
  rw [resortChain_es, refreshSpan_es, resortChain_iMeas, refreshSpan_iMeas, refreshVeneer_chain, resortChain_sen,
    refreshSpan_sen, refreshVeneer_sen]
  obtain ⟨hacc, hlive, hcci⟩ := refreshVeneer_es s c c
  exact ⟨hacc, hlive, hcci, rfl, rfl⟩

theorem shuntUnit_of {s t : State} (h : t.img = s.img) (c : ChainId) : t.shuntUnit c = s.shuntUnit c := by
  unfold State.shuntUnit State.im
  rw [h]

/-! ### The over-budget count (R156) -/

theorem exec_overBudgetTick_below {mean : Int} (hr : s.chainRuns c = true) (hm : 12000 < mean)
    (ho : (s.chain c).overMs < 59999) : exec (.overBudgetTick c mean) s =
    .next (s.onChain c fun x => { x with overMs := (s.chain c).overMs + 1, overIdle := 0 }) := by
  have hmin : min 60000 ((s.chain c).overMs + 1) = (s.chain c).overMs + 1 := by omega
  have hne : (s.chain c).overMs + 1 ≠ 60000 := by omega
  simp only [exec, execOverBudgetTick, hr, hm, hmin, hne, Bool.not_true, Bool.false_eq_true, decide_false,
    Bool.false_and, if_false, if_true]

/-- The minute over budget is full. -/
theorem exec_overBudgetTick_full {mean : Int} (hr : s.chainRuns c = true) (hm : 12000 < mean)
    (ho : (s.chain c).overMs = 59999) : exec (.overBudgetTick c mean) s =
    .next (logEvent (s.onChain c fun x => { x with overMs := 60000, overIdle := 0 }) 0x2010) := by
  simp [exec, execOverBudgetTick, hr, hm, ho]

theorem exec_overBudgetTick_fifth {mean : Int} (hr : s.chainRuns c = true) (hm : mean ≤ 12000)
    (ho : (s.chain c).overIdle = 4) : exec (.overBudgetTick c mean) s =
    .next (s.onChain c fun x => { x with overMs := x.overMs - 1, overIdle := 0 }) := by
  simp only [exec, execOverBudgetTick, hr, Int.not_lt.2 hm, ho, Bool.not_true, Bool.false_eq_true, if_false, if_true]

theorem exec_overBudgetTick_idle {mean : Int} (hr : s.chainRuns c = true) (hm : mean ≤ 12000)
    (ho : (s.chain c).overIdle ≠ 4) : exec (.overBudgetTick c mean) s =
    .next (s.onChain c fun x => { x with overIdle := x.overIdle + 1 }) := by
  simp only [exec, execOverBudgetTick, hr, Int.not_lt.2 hm, ho, Bool.not_true, Bool.false_eq_true, if_false]

/-! ### The learning wave (R176) -/

/-- The wave of a learning cycle after a half period. -/
def learnTurned (s : State) (c : ChainId) : LearnRec :=
  let l := (s.chain c).learn
  { l with
    pos := !l.pos
    halfDue := some (s.clock + msNs * s.im.learnPeriod c / 2)
    taper := l.taper || s.taperDue c l
    amp := s.learnAmp c l (l.taper || s.taperDue c l) }

theorem exec_learnHalfPeriod_turns (ho : (s.chain c).learnOn = true)
    (hd : due s.clock (s.chain c).learn.halfDue = true) (hp : s.learnPaused c = false) (hst : (s.chain c).st = .run)
    (h3 : (s.chain c).learn.phase ≠ 3) : exec (.learnHalfPeriod c) s =
    .next (s.onChain c fun x => { x with learn := learnTurned s c }) := by
  simp only [exec, execLearnHalfPeriod, ho, hd, hp, hst, h3, Bool.not_true, Bool.or_self, bne_self_eq_false,
    decide_false, Bool.false_and, Bool.false_eq_true, if_false]
  rfl

end

/-- Settles O24: the loop by the reference that the slew bounds, the staircase by the rules for one module, the strobe
by the integrator and the filter; the counts and the wave by their equations. -/
theorem chainControlTicks : Obligations.ChainControlTicks := by
  refine ⟨?_, ?_, ?_, ?_, ?_, ?_, ?_, ?_⟩
  · -- CURRENT_LOOP_TICK
    intro s c i vCap vCh hr hst hq
    obtain ⟨t, hexec, hinputs⟩ := exec_currentLoopTick_run (i := i) (vCap := vCap) (vCh := vCh) hr hst
    have hsampled := loopSampled_chain s c i vCap vCh
    obtain ⟨hlow, hhigh⟩ := loopLimited_nextRef_bounds (s := loopSampled s c i vCap vCh) (c := c) s.clock
      (by rw [hsampled]; exact hst) (by rw [hsampled]; exact hq)
    obtain ⟨hdis, hchg⟩ := limits_sign (loopSampled s c i vCap vCh) c
    rw [loopReferenced_inputs, hsampled] at hinputs
    rw [hsampled, loopSampled_im] at hlow hhigh
    simp only [Chain.loopInputs, Prod.mk.injEq] at hinputs
    obtain ⟨hrun, hmeas, hlimDis, hlimChg, href⟩ := hinputs
    exact completes_exec hexec ⟨hrun.trans hst, hmeas, hlimDis ▸ hdis, hlimChg ▸ hchg, _, href, hlow, hhigh⟩
      (by dsimp only [execMask]; rfl)
  · -- TRIM_PERIOD_STAIRCASE
    intro s c hr
    refine completes_exec (exec_trimPeriodStaircase_running hr) ?_ (by dsimp only [execMask]; rfl)
    rw [onChain_self]
    refine ⟨rfl, rfl, rfl, rfl, stairChain_leave s c _ _, fun m hm hh => ?_, fun m hm hh hb => ?_,
      fun m hm hh hs hl ht => ?_, fun m hm hh hs hl ht => ?_⟩
    · exact (stairChain_st hm).trans (modState_of_held hh)
    · exact (stairChain_st hm).trans (modState_of_blocked hh hb)
    · exact (stairChain_st hm).trans ((modState_of_working hh hs hl).trans
        (if_neg (by rw [ht]; exact Bool.false_ne_true)))
    · exact (stairChain_st hm).trans ((modState_of_working hh hs hl).trans (if_pos ht))
  · -- SAMPLE_STROBE
    intro s c i vCap vCh run hib shunt hr
    obtain ⟨hstrobed, hes, himg, hpwr⟩ := strobeFiltered_keep s c i vCap vCh
    obtain ⟨hlive, ⟨x, hx, hts, hxacc, hepoch, hacc⟩, hnil, hsen, -⟩ := integrate_es
      (strobeFiltered s c i vCap vCh) c (s.tim.time / 1000000 * 1000000) run hib shunt _ rfl
      ((s.es c).accRem + run + hib * 1000000000 / (max 1 s.pwr.hibHz : Nat)) (by rw [hes, hpwr])
    rw [hes, shuntUnit_of himg] at hacc hnil
    rw [hes] at hepoch
    refine completes_exec (exec_sampleStrobe_running hr) ?_ (by dsimp only [execMask]; rfl)
    generalize integrate (strobeFiltered s c i vCap vCh) c _ run hib shunt = y at *
    obtain ⟨hes', hmeas, hsen'⟩ := strobeTaken_keep y c i (s.tim.time / 1000000 * 1000000)
    obtain ⟨hacc', hlive', hcci', hmeas', hsen''⟩ :=
      strobeFollowed_keep (strobeTaken y c i (s.tim.time / 1000000 * 1000000)) c
    rw [hes'] at hacc' hlive' hcci'
    dsimp only
    rw [hacc', hlive', hcci', hmeas', hmeas, hsen'', hsen', hsen c]
    refine ⟨hlive, ⟨x, hx, hts, hxacc, hepoch, hacc⟩, hnil, rfl, rfl, rfl, fun hsent => ?_⟩
    obtain ⟨hraw, hmark⟩ := strobeFiltered_sent (i := i) (vCap := vCap) (vCh := vCh) hsent
    exact ⟨hraw, hstrobed.trans hsent, hmark⟩
  · -- OVER_BUDGET_TICK
    intro s c mean hr hm ho
    exact completes_within (exec_overBudgetTick_below hr hm ho) (onChain_chain s c _) (State.onChain_drop s c _ rfl)
  · intro s c mean hr hm ho
    obtain ⟨hself, hother⟩ := onChain_chain s c fun x => { x with overMs := 60000, overIdle := 0 }
    exact completes_within (exec_overBudgetTick_full hr hm ho)
      ⟨(logEvent_chain ..).trans hself, fun k hk => (logEvent_chain ..).trans (hother k hk)⟩
      ((logEvent_drop _ _ _ _ _ rfl).trans (State.onChain_drop s c _ rfl))
  · intro s c mean hr hm ho
    exact completes_within (exec_overBudgetTick_fifth hr hm ho) (onChain_chain s c _) (State.onChain_drop s c _ rfl)
  · intro s c mean hr hm ho
    exact completes_within (exec_overBudgetTick_idle hr hm ho) (onChain_chain s c _) (State.onChain_drop s c _ rfl)
  · -- LEARN_HALF_PERIOD
    intro s c ho hd hp hst h3
    exact completes_within (exec_learnHalfPeriod_turns ho hd hp hst h3) (onChain_chain s c _)
      (State.onChain_drop s c _ rfl)

end Sys2Proof.Machine
end

section
/-! SUPPORT. The chain of module sentinels: wake, sleep and enumeration (O50). -/

namespace Sys2Proof.Machine

section
variable {s : State} {c : ChainId}

/-! ### Commands that change the sentinels of one chain -/

/-- A change of the sentinels of a chain leaves those of the other as they are. -/
theorem onSen_sen (s : State) (c : ChainId) (f : Sen → Sen) :
    (s.onSen c f).sen c = f (s.sen c) ∧ ∀ k, k ≠ c → (s.onSen c f).sen k = s.sen k :=
  ⟨onSen_self s c f, fun k hk => (onSen_at s c k f).trans (if_neg hk)⟩

@[simp] theorem onSen_arm (s : State) (c : ChainId) (f : Sen → Sen) : (s.onSen c f).arm = s.arm := by
  cases c <;> rfl

@[simp] theorem onSen_clock (s : State) (c : ChainId) (f : Sen → Sen) : (s.onSen c f).clock = s.clock := by
  cases c <;> rfl

@[simp] theorem onSen_outbox (s : State) (c : ChainId) (f : Sen → Sen) : (s.onSen c f).outbox = s.outbox := by
  cases c <;> rfl

theorem onSen_onSen (s : State) (c : ChainId) (f g : Sen → Sen) :
    (s.onSen c f).onSen c g = s.onSen c fun x => g (f x) := by
  cases c <;> rfl

/-- A command that changes the sentinels of one chain, and nothing else. -/
theorem completes_onSen {cmd : Instr} {f : Sen → Sen} (h : exec cmd s = .next (s.onSen c f)) :
    Completes cmd s [.snA, .snB] fun t => t.sen c = f (s.sen c) ∧ ∀ k, k ≠ c → t.sen k = s.sen k :=
  completes_within h (onSen_sen s c f) (State.onSen_drop s c f rfl)

theorem answer_sen (s : State) (p : Requester) (code : Nat) (k : ChainId) : (answer s p code).sen k = s.sen k :=
  send_sen ..

theorem sendSrq_other (s : State) (c : ChainId) (m : Fin 32) (op : Nat) (arg : List Byte) {k : ChainId} (hk : k ≠ c) :
    (sendSrq s c m op arg).sen k = s.sen k := by
  unfold sendSrq
  split
  · exact (onSen_sen s c _).2 k hk
  · rfl

/-- A request to each of a list of modules leaves the other chain, and what has been sent, as they are. -/
theorem srqAll_keep (c : ChainId) (op : Nat) (arg : List Byte) (l : List (Fin 32)) (s : State) :
    (∀ k, k ≠ c → (l.foldl (fun t m => sendSrq t c m op arg) s).sen k = s.sen k) ∧
    (l.foldl (fun t m => sendSrq t c m op arg) s).outbox = s.outbox :=
  ⟨fun k hk => foldl_keep (fun t => t.sen k) (fun t m => sendSrq_other t c m op arg hk) l s,
    foldl_keep State.outbox (fun t m => sendSrq_outbox t c m op arg) l s⟩

/-! ### Wake and sleep (R192, R193, R211) -/

/-- The sentinels of a chain in a stage in which no strobe, sample or request waits. -/
def Sen.quieted (x : Sen) (stage : SenStage) (wakeDue : Option Nat) : Sen :=
  { x with stage := stage, wakeDue := wakeDue, strobed := false, awaited := false, srqQ := [] }

/-- A change of stage is logged, and the activities that it ends end: the sentinels and the outbox stay. -/
theorem stageLogged_keep (s : State) (d : Nat) :
    (∀ k, (watchActs (logEvent s 0x3011 d)).sen k = s.sen k) ∧
    (watchActs (logEvent s 0x3011 d)).outbox = s.outbox :=
  ⟨fun k => (watchActs_sen _ k).trans (logEvent_sen ..), by rw [watchActs_outbox, logEvent_outbox]⟩

/-- The tone has left the ends of the device. -/
def toneSent (s : State) (c : ChainId) : State :=
  sendEnds (s.onSen c fun x => x.quieted .waking (some (s.clock + 9 * msNs))) s.ownEnds (.wakeTone c)

theorem opSnaWake_allowed (hd : s.declared c = true) (ho : s.arm.owner = true) (hm : s.maySleep c = true) :
    opSnaWake c s = (watchActs (logEvent (toneSent s c) 0x3011 1), 0) := by
  simp only [opSnaWake, hd, ho, hm, Bool.not_true, Bool.or_self, Bool.false_eq_true, if_false]
  rfl

theorem toneSent_effect (s : State) (c : ChainId) :
    (toneSent s c).sen c = (s.sen c).quieted .waking (some (s.clock + 9 * msNs)) ∧
    (∀ k, k ≠ c → (toneSent s c).sen k = s.sen k) ∧
    (toneSent s c).outbox = (s.ownEnds.map (Out.wakeTone c)).reverse ++ s.outbox := by
  obtain ⟨hself, hother⟩ := onSen_sen s c fun x => x.quieted .waking (some (s.clock + 9 * msNs))
  exact ⟨(sendEnds_sen ..).trans hself, fun k hk => (sendEnds_sen ..).trans (hother k hk),
    (sendEnds_outbox ..).trans (by rw [onSen_outbox])⟩

/-- SLEEP has left the commanding ends, and the sentinels sleep. -/
def sleepSent (s : State) (c : ChainId) : State :=
  putToSleep (sendEnds s (s.cmdEnds c) fun e => .senFrame c e (sleepFrame e)) c

theorem opSnaSleep_allowed (hd : s.declared c = true) (ho : s.arm.owner = true) (hm : s.maySleep c = true) :
    opSnaSleep c s = (watchActs (logEvent (sleepSent s c) 0x3011 0), 0) := by
  simp only [opSnaSleep, hd, ho, hm, sendChain, Bool.not_true, Bool.or_self, Bool.false_eq_true, if_false, if_true]
  rfl

theorem putToSleep_effect (s : State) (c : ChainId) :
    (putToSleep s c).sen c = (s.sen c).quieted .asleep none ∧ (∀ k, k ≠ c → (putToSleep s c).sen k = s.sen k) ∧
    (putToSleep s c).chain c = { s.chain c with st := .absent, fMod := 0 } ∧ (putToSleep s c).outbox = s.outbox := by
  obtain ⟨hself, hother⟩ := onSen_sen s c fun x => x.quieted .asleep none
  exact ⟨(onChain_sen ..).trans hself, fun k hk => (onChain_sen ..).trans (hother k hk),
    (onChain_self ..).trans (by rw [onSen_chain]), by cases c <;> rfl⟩

theorem sleepSent_effect (s : State) (c : ChainId) :
    (sleepSent s c).sen c = (s.sen c).quieted .asleep none ∧ (∀ k, k ≠ c → (sleepSent s c).sen k = s.sen k) ∧
    (sleepSent s c).chain c = { s.chain c with st := .absent, fMod := 0 } ∧
    (sleepSent s c).outbox = ((s.cmdEnds c).map fun e => Out.senFrame c e (sleepFrame e)).reverse ++ s.outbox := by
  obtain ⟨hself, hother, hchain, hout⟩ :=
    putToSleep_effect (sendEnds s (s.cmdEnds c) fun e => .senFrame c e (sleepFrame e)) c
  rw [sendEnds_sen] at hself
  rw [sendEnds_chain] at hchain
  rw [sendEnds_outbox] at hout
  exact ⟨hself, fun k hk => (hother k hk).trans (sendEnds_sen ..), hchain, hout⟩

/-- Without the token, or on a chain in another state, both operations are refused. -/
theorem op_sna_refused (hd : s.declared c = true) (h : s.arm.owner = false ∨ s.maySleep c = false) :
    opSnaWake c s = (logEvent s 0x3011 2, 4) ∧ opSnaSleep c s = (logEvent s 0x3011 2, 4) := by
  have hr : (!s.arm.owner || !s.maySleep c) = true := by
    obtain h | h := h <;> simp [h]
  simp only [opSnaWake, opSnaSleep, hd, hr, Bool.not_true, Bool.false_eq_true, if_false, if_true, and_self]

/-- A refused operation of a port is logged and answered. -/
theorem completes_sna_refused {cmd : Instr} {p : Requester} {cls : OpClass} {addr : Word} {op : State → RegRes}
    (hc : exec cmd s = .next (regCmd s p fun s => withRight s p cls addr op)) (hg : Granted s p cls addr)
    (ho : op s = (logEvent s 0x3011 2, 4)) : Completes cmd s [.evt, .outbox] fun t =>
      Logged s t 0x3011 2 ∧ Answered s t p 4 :=
  completes_granted hc hg ho ⟨rfl, answered_of (logEvent_outbox ..)⟩ (by rw [ho]; exact logEvent_drop _ _ _ _ _ rfl)
    rfl rfl

/-! ### The start of an enumeration (R193, R194) -/

/-- The ENUM frames have left the ends of the device. -/
def enumSent (s : State) (c : ChainId) : State :=
  sendEnds (s.onSen c beginEnum) s.ownEnds fun e => .senFrame c e (enumFrame e s.nMods)

theorem exec_enumStart_waking (hd : s.declared c = true) (ho : s.arm.owner = true)
    (hst : (s.sen c).stage = .waking) : exec (.enumStart c) s =
      .next ((List.finRange 32).foldl (fun t m => sendSrq t c m 1 []) (enumSent s c)) := by
  simp only [exec, execEnumStart, hd, ho, hst, beq_self_eq_true, Bool.and_self, if_true]
  rfl

theorem enumSent_effect (s : State) (c : ChainId) :
    (enumSent s c).sen c = beginEnum (s.sen c) ∧ (∀ k, k ≠ c → (enumSent s c).sen k = s.sen k) ∧
    (enumSent s c).outbox = (s.ownEnds.map fun e => Out.senFrame c e (enumFrame e s.nMods)).reverse ++ s.outbox ∧
    (enumSent s c).arm = s.arm := by
  obtain ⟨hself, hother⟩ := onSen_sen s c beginEnum
  exact ⟨(sendEnds_sen ..).trans hself, fun k hk => (sendEnds_sen ..).trans (hother k hk),
    (sendEnds_outbox ..).trans (by rw [onSen_outbox]),
    (foldl_keep State.arm (fun t e => send_arm t _) _ _).trans (onSen_arm ..)⟩

/-! ### ENUM frames that return (R183, R195) -/

/-- The sentinels of a chain that learn the HOP of an ENUM, which came from TAIL or from HEAD. -/
def Sen.hopTaken (x : Sen) (n : Nat) (tail : Bool) (hop : Nat) : Sen :=
  { x with
    hopDown := if tail then some hop else x.hopDown
    hopUp := if tail then x.hopUp else some hop
    conflict := x.conflict || decide (32 < hop)
    extra := x.extra || decide (n < hop) }

theorem exec_enumReturn_bad {b : List Byte} (hd : s.declared c = true) (hb : senCrcOk b = false) :
    exec (.enumReturn c b) s = .next (badFrame s c) := by
  simp only [exec, execEnumReturn, hd, hb, Bool.not_true, Bool.not_false, Bool.false_eq_true, if_false, if_true]

theorem exec_enumReturn_enumerating {b : List Byte} {tail : Bool} {hop n : Nat} (hd : s.declared c = true)
    (hb : senCrcOk b = true) (he : enumOf b = some (tail, hop, n)) (hst : (s.sen c).stage = .enumerating) :
    exec (.enumReturn c b) s = .next (s.onSen c fun x => x.hopTaken s.nMods tail hop) := by
  simp only [exec, execEnumReturn, hd, hb, he, hst, bne_self_eq_false, beq_self_eq_true, Bool.not_true, Bool.and_false,
    Bool.false_eq_true, if_false, if_true]
  cases tail <;> rfl

/-- A member that tracks takes an ENUM outside an enumeration as the beginning of one. -/
theorem exec_enumReturn_tracking {b : List Byte} {tail : Bool} {hop n : Nat} (hd : s.declared c = true)
    (hb : senCrcOk b = true) (he : enumOf b = some (tail, hop, n)) (hst : (s.sen c).stage ≠ .enumerating)
    (ho : s.arm.owner = false) :
    exec (.enumReturn c b) s = .next (s.onSen c fun x => (beginEnum x).hopTaken s.nMods tail hop) := by
  simp only [exec, execEnumReturn, hd, hb, he, ho, beq_false_of_ne hst, Bool.not_true, Bool.false_and,
    Bool.false_eq_true, if_false, onSen_onSen]
  cases tail <;> rfl

/-! ### The end of an enumeration (R195) -/

theorem enumBad_iff : s.enumBad c = true ↔
    (s.sen c).extra = true ∨ (s.sen c).conflict = true ∨ ∃ h, s.loopHop c = some h ∧ h ≠ s.nMods := by
  simp [State.enumBad, Option.any_eq_true, or_assoc]

/-- An enumeration that shows other modules than the image declares. -/
theorem exec_enumerationComplete_bad (hd : s.declared c = true) (hst : (s.sen c).stage = .enumerating)
    (h : s.enumBad c = true) : exec (.enumerationComplete c) s =
      .next (logEvent (s.onSen c fun x =>
        { x with
          cntHead := (s.reachedFrom c false).length
          cntTail := (s.reachedFrom c true).length
          stage := .mismatch }) 0x3002 (s.reachedFrom c false).length (s.reachedFrom c true).length) := by
  simp only [exec, execEnumerationComplete, hd, hst, h, bne_self_eq_false, Bool.not_true, Bool.or_self,
    Bool.false_eq_true, if_false, if_true]

/-- What an enumeration that fits the image sets of the sentinels. -/
def State.enumTaken (s : State) (c : ChainId) (x : Sen) : Sen :=
  { x with
    cntHead := (s.reachedFrom c false).length
    cntTail := (s.reachedFrom c true).length
    stage := .enumerated
    brk := s.brokenLink c
    intact := (s.loopHop c).isSome
    filterNext := some (s.im.filter c, s.sseqAfter 0)
    owDue := some s.clock }

/-- The enumeration is taken over: the modules are settled, and the chain is there. -/
def enumSettled (s : State) (c : ChainId) : State :=
  (settleModules (s.onSen c (s.enumTaken c)) c).onChain c fun ch =>
    { ch with st := if ch.st == .absent then .block else ch.st, fMod := s.im.fMod c }

/-- An enumeration that fits the image: what is settled, and events behind it. -/
theorem exec_enumerationComplete_good (hd : s.declared c = true) (hst : (s.sen c).stage = .enumerating)
    (h : s.enumBad c = false) : ∃ t, exec (.enumerationComplete c) s = .next t ∧
      t.sen c = (enumSettled s c).sen c ∧ t.chain c = (enumSettled s c).chain c := by
  simp only [exec, execEnumerationComplete, hd, hst, h, bne_self_eq_false, Bool.not_true, Bool.or_self,
    Bool.false_eq_true, if_false]
  refine ⟨_, rfl, (logEvent_sen ..).trans ?_, (logEvent_chain ..).trans ?_⟩
  · split
    · exact logEvent_sen ..
    · rfl
  · split
    · exact logEvent_chain ..
    · rfl

/-- The link of a broken loop, in the words of R195. -/
theorem brokenLink_eq (s : State) (c : ChainId) [Decidable (s.simplex = true ∧ s.loopHop c = none ∧
    ∃ m ∈ s.modIdx, (s.sen c).recs[m].reachHead ≠ (s.sen c).recs[m].reachTail)] :
    s.brokenLink c = if s.simplex = true ∧ s.loopHop c = none ∧
      ∃ m ∈ s.modIdx, (s.sen c).recs[m].reachHead ≠ (s.sen c).recs[m].reachTail
    then some ((s.reachedFrom c false).foldl (fun a m => max a (m.val + 1)) 0) else none := by
  unfold State.brokenLink
  refine if_congr ?_ rfl rfl
  simp [and_assoc]

theorem enumSettled_sen (s : State) (c : ChainId) :
    ((enumSettled s c).sen c).bare = (s.enumTaken c (s.sen c)).bare ∧
    ∀ m ∈ s.modIdx, s.reached c m = true →
      ((enumSettled s c).sen c).recs[m].lost = false ∧ ((enumSettled s c).sen c).recs[m].misses = 0 := by
  obtain ⟨hbare, hpresent, -⟩ := settleModules_effect (s.onSen c (s.enumTaken c)) c
  unfold enumSettled
  rw [onChain_sen]
  exact ⟨hbare.trans (by rw [onSen_self]),
    fun m hm hr => hpresent m (by cases c <;> exact hm) (by cases c <;> exact hr)⟩

theorem enumSettled_chain (s : State) (c : ChainId) :
    (∀ m ∈ s.modIdx, s.reached c m = false → ((enumSettled s c).chain c).mods[m].lost = true) ∧
    ((enumSettled s c).chain c).st ≠ .absent ∧ ((enumSettled s c).chain c).fMod = s.im.fMod c := by
  obtain ⟨-, -, hlost⟩ := settleModules_effect (s.onSen c (s.enumTaken c)) c
  unfold enumSettled
  rw [onChain_self]
  refine ⟨fun m hm hr => hlost m (by cases c <;> exact hm) (by cases c <;> exact hr), ?_, rfl⟩
  dsimp only
  split
  · decide
  · next h => exact fun e => h (beq_iff_eq.2 e)

end

/-- Settles O50: wake and sleep as operations of a port, ENUM frames as changes of the sentinels of one chain, and the
end of the enumeration by what settling the modules leaves. -/
theorem sentinelWakeAndEnumeration : Obligations.SentinelWakeAndEnumeration := by
  refine ⟨?_, ?_, ?_, ?_, ?_, ?_, ?_, ?_, ?_, ?_⟩
  · -- SNA_CMD_WAKE
    intro s p c hg hd ho hm
    have hop := opSnaWake_allowed hd ho hm
    obtain ⟨hself, hother, hout⟩ := toneSent_effect s c
    obtain ⟨hsen, houtbox⟩ := stageLogged_keep (toneSent s c) 1
    refine completes_granted rfl hg hop ⟨?_, fun k hk => ?_, ?_⟩ (opSnaWake_drop c s rfl) rfl rfl
    · exact (answer_sen ..).trans ((hsen c).trans hself)
    · exact (answer_sen ..).trans ((hsen k).trans (hother k hk))
    · exact congrArg (_ :: ·) (houtbox.trans hout)
  · -- SNA_CMD_SLEEP
    intro s p c hg hd ho hm
    have hop := opSnaSleep_allowed hd ho hm
    obtain ⟨hself, hother, hchain, hout⟩ := sleepSent_effect s c
    obtain ⟨hsen, houtbox⟩ := stageLogged_keep (sleepSent s c) 0
    obtain ⟨hst, hfMod⟩ := Prod.mk.inj
      (watchActs_l (g := fun x => (x.st, x.fMod)) (fun _ _ _ => rfl) (logEvent (sleepSent s c) 0x3011 0) c)
    rw [logEvent_chain, hchain] at hst hfMod
    refine completes_granted rfl hg hop ⟨?_, fun k hk => ?_, ?_, ?_, ?_⟩ (opSnaSleep_drop c s rfl) rfl rfl
    · exact (answer_sen ..).trans ((hsen c).trans hself)
    · exact (answer_sen ..).trans ((hsen k).trans (hother k hk))
    · rw [answer_chain]; exact hst
    · rw [answer_chain]; exact hfMod
    · exact congrArg (_ :: ·) (houtbox.trans hout)
  · -- SNA_CMD_WAKE, refused
    intro s p c hg hd h
    exact completes_sna_refused rfl hg (op_sna_refused hd h).1
  · -- SNA_CMD_SLEEP, refused
    intro s p c hg hd h
    exact completes_sna_refused rfl hg (op_sna_refused hd h).2
  · -- ENUM_START
    intro s c hd ho hst
    obtain ⟨hself, hother, hout, harm⟩ := enumSent_effect s c
    obtain ⟨hothers, houtbox⟩ := srqAll_keep c 1 [] (List.finRange 32) (enumSent s c)
    refine completes_exec (exec_enumStart_waking hd ho hst) ⟨?_, fun k hk => (hothers k hk).trans (hother k hk),
      houtbox.trans hout⟩ (by dsimp only [execMask]; rfl)
    rw [srqAll_effect c 1 [] _ _ (by rw [harm]; exact ho), hself]
    rfl
  · -- ENUM_RETURN, a wrong CRC
    intro s c b hd hb
    exact completes_onSen (exec_enumReturn_bad hd hb)
  · -- ENUM_RETURN, of the enumeration that runs
    intro s c b tail hop n hd hb he hst
    obtain ⟨hself, hother⟩ := onSen_sen s c fun x => x.hopTaken s.nMods tail hop
    refine completes_exec (exec_enumReturn_enumerating hd hb he hst) ?_ (by dsimp only [execMask]; rfl)
    rw [hself]
    exact ⟨rfl, rfl, rfl, rfl, rfl, hother⟩
  · -- ENUM_RETURN, of the partner's enumeration
    intro s c b tail hop n hd hb he hst ho
    exact completes_onSen (exec_enumReturn_tracking hd hb he hst ho)
  · -- ENUMERATION_COMPLETE, mismatch
    intro s c hd hst h
    obtain ⟨hself, hother⟩ := onSen_sen s c fun x =>
      { x with cntHead := (s.reachedFrom c false).length, cntTail := (s.reachedFrom c true).length, stage := .mismatch }
    refine completes_within (exec_enumerationComplete_bad hd hst (enumBad_iff.2 h)) ⟨?_, fun k hk => ?_, ?_, ?_⟩
      ((logEvent_drop _ _ _ _ _ rfl).trans (State.onSen_drop s c _ rfl))
    · rw [logEvent_sen, hself]
    · rw [logEvent_sen, hother k hk]
    · rw [logEvent_sen, hself]
    · exact logEvent_cong (by cases c <;> rfl) (by cases c <;> rfl) (by cases c <;> rfl) ..
  · -- ENUMERATION_COMPLETE
    intro s c hd hst hx hc hh
    have hbad : s.enumBad c = false := by
      refine Bool.eq_false_iff.2 fun h => ?_
      obtain h | h | ⟨n, hn, h⟩ := enumBad_iff.1 h
      · exact absurd h (by rw [hx]; exact Bool.false_ne_true)
      · exact absurd h (by rw [hc]; exact Bool.false_ne_true)
      · exact h (hh n hn)
    obtain ⟨t, hexec, hsen, hchain⟩ := exec_enumerationComplete_good hd hst hbad
    obtain ⟨hbare, hpresent⟩ := enumSettled_sen s c
    simp only [Sen.bare, Prod.mk.injEq] at hbare
    obtain ⟨hstage, hbrk, hintact, hhead, htail, -⟩ := hbare
    refine completes_exec hexec ?_ (by dsimp only [execMask]; rfl)
    rw [hsen, hchain]
    exact ⟨hstage, hintact, hhead, htail, hbrk.trans (brokenLink_eq s c), hpresent, enumSettled_chain s c⟩

end Sys2Proof.Machine
end

section
/-! SUPPORT. The chain of module sentinels: strobes, delays, samples and the judging of a sample set (O51). -/

namespace Sys2Proof.Machine

section
variable {s : State} {c : ChainId} {m : Fin 32}

/-! ### One record of a sentinel -/

/-- A change of one module's record leaves the rest of the chain's sentinels as it is. -/
theorem onRec_sen (s : State) (c : ChainId) (m : Fin 32) (f : SenRec → SenRec) :
    (s.onRec c m f).sen c = { s.sen c with recs := (s.sen c).recs.set m (f (s.sen c).recs[m]) } := onSen_self ..

theorem onRec_recs (s : State) (c : ChainId) (m : Fin 32) (f : SenRec → SenRec) :
    ((s.onRec c m f).sen c).recs[m] = f (s.sen c).recs[m] ∧
    ∀ j : Fin 32, j ≠ m → ((s.onRec c m f).sen c).recs[j] = (s.sen c).recs[j] :=
  ⟨onRec_self s c m f, fun _ hj => onRec_other s c f hj⟩

theorem onRec_sen_other (s : State) (c : ChainId) (m : Fin 32) (f : SenRec → SenRec) {k : ChainId} (hk : k ≠ c) :
    (s.onRec c m f).sen k = s.sen k := (onSen_sen s c _).2 k hk

theorem onRec_onRec (s : State) (c : ChainId) (m : Fin 32) (f g : SenRec → SenRec) :
    (s.onRec c m f).onRec c m g = s.onRec c m fun r => g (f r) := by
  unfold State.onRec
  rw [onSen_onSen]
  simp

/-- The owner's change of a module's record with a request to the module. -/
theorem completes_onRec_srq {cmd : Instr} {f : SenRec → SenRec} {op : Nat} {arg : List Byte}
    (h : exec cmd s = .next (sendSrq (s.onRec c m f) c m op arg)) (ho : s.arm.owner = true) :
    Completes cmd s [.snA, .snB] fun t =>
      (t.sen c).recs[m] = f (s.sen c).recs[m] ∧ (t.sen c).srqQ = (s.sen c).srqQ ++ [(m, op, arg)] ∧
      ∀ j : Fin 32, j ≠ m → (t.sen c).recs[j] = (s.sen c).recs[j] := by
  obtain ⟨-, -, hsrq⟩ := sendSrq_effect (s.onRec c m f) c m op arg
  obtain ⟨hself, hother⟩ := onRec_recs s c m f
  refine completes_within h ?_ ((sendSrq_drop _ c m op arg rfl).trans (State.onRec_drop s c m f rfl))
  rw [hsrq]
  refine ⟨hself, ?_, hother⟩
  rw [if_pos (show (s.onRec c m f).arm.owner = true by rw [State.onRec, onSen_arm]; exact ho), onRec_sen]

/-! ### Strobes (R198, R202) -/

/-- A strobe at the next t_s has been sent or seen. -/
theorem markStrobe_sen (s : State) (c : ChainId) (res : Nat) :
    (markStrobe s c res).sen c =
      { s.sen c with sseq := (s.tim.time / 1000000 + 1) % 256, res := res, strobed := true, struck := true } ∧
    ∀ k, k ≠ c → (markStrobe s c res).sen k = s.sen k := onSen_sen ..

theorem markStrobe_cmdEnds (s : State) (c : ChainId) (res : Nat) : (markStrobe s c res).cmdEnds c = s.cmdEnds c := by
  cases c <;> rfl

/-- In the clock before t_L the owner sends the strobe. -/
theorem exec_strobeLaunch_owner {seen : Nat} (hd : s.declared c = true) (hst : (s.sen c).stage = .enumerated)
    (ho : s.arm.owner = true) (hlow : s.tim.time ≤ s.launchTime c) (hhigh : s.launchTime c < s.tim.time + 100) :
    exec (.strobeLaunch c seen) s = .next (sendEnds (markStrobe s c (s.launchTime c - s.tim.time)) (s.cmdEnds c)
      fun e => .strobe c e (s.launchTime c - s.tim.time)) := by
  simp only [exec, execStrobeLaunch, hd, hst, ho, hlow, hhigh, sendChain, markStrobe_cmdEnds,
    show (markStrobe s c (s.launchTime c - s.tim.time)).arm = s.arm from onSen_arm .., bne_self_eq_false, Bool.not_true,
    Bool.or_self, Bool.false_eq_true, and_self, if_false, if_true]

theorem exec_strobeLaunch_tracking {seen : Nat} (hd : s.declared c = true) (hst : (s.sen c).stage = .enumerated)
    (ho : s.arm.owner = false) (hseen : seen < 100) :
    exec (.strobeLaunch c seen) s = .next (markStrobe s c seen) := by
  simp only [exec, execStrobeLaunch, hd, hst, ho, hseen, bne_self_eq_false, Bool.not_true, Bool.or_self,
    Bool.false_eq_true, if_false, if_true]

/-! ### Pings and pongs (R199) -/

/-- The record of a module that is pinged from an end. -/
def SenRec.pinged (r : SenRec) (tail : Bool) (now id : Nat) : SenRec :=
  if tail then { r with pingTail := now, idTail := some id } else { r with pingHead := now, idHead := some id }

/-- The number of the next PING of a chain. -/
def Sen.nextPing (x : Sen) : Nat := (x.pingId + 1) % 256

/-- Module m is pinged from an end. -/
def pingSent (s : State) (c : ChainId) (tail : Bool) (m : Fin 32) : State :=
  send ((s.onSen c fun x => { x with pingId := x.nextPing }).onRec c m
    fun r => r.pinged tail s.clock (s.sen c).nextPing)
    (.senFrame c tail (pingFrame tail m (s.sen c).nextPing))

theorem exec_pingTimer_one {tail : Bool} (hd : s.declared c = true) (hst : (s.sen c).stage = .enumerated)
    (he : s.ownEnds.filter (fun e => !(s.sen c).struck || e == s.pingTail c) = [tail])
    (hm : s.pingNext c tail = some m) : exec (.pingTimer c) s = .next (pingSent s c tail m) := by
  simp only [exec, execPingTimer, hd, hst, he, beq_self_eq_true, Bool.true_or, Bool.not_true, Bool.or_self,
    Bool.false_eq_true, if_false, List.foldl_cons, List.foldl_nil, pingFrom, hm]
  cases c <;> rfl

theorem pingSent_effect (s : State) (c : ChainId) (tail : Bool) (m : Fin 32) :
    ((pingSent s c tail m).sen c).pingId = (s.sen c).nextPing ∧
    ((pingSent s c tail m).sen c).recs[m] = (s.sen c).recs[m].pinged tail s.clock (s.sen c).nextPing ∧
    (∀ j : Fin 32, j ≠ m → ((pingSent s c tail m).sen c).recs[j] = (s.sen c).recs[j]) ∧
    ∀ k, k ≠ c → (pingSent s c tail m).sen k = s.sen k := by
  obtain ⟨hself, hother⟩ := onSen_sen s c fun x => { x with pingId := x.nextPing }
  unfold pingSent
  refine ⟨?_, ?_, fun j hj => ?_, fun k hk => ?_⟩
  · rw [send_sen, onRec_sen, hself]
  · rw [send_sen, onRec_self, hself]
  · rw [send_sen, onRec_other _ _ _ hj, hself]
  · rw [send_sen, onRec_sen_other _ _ _ _ hk, hother k hk]

theorem exec_pongRx_bad {b : List Byte} {rt : Nat} (hd : s.declared c = true) (hb : senCrcOk b = false) :
    exec (.pongRx c b rt) s = .next (badFrame s c) := by
  simp only [exec, execPongRx, hd, hb, Bool.not_true, Bool.not_false, Bool.false_eq_true, if_false, if_true]

/-- The delays of a module from HEAD with a new one, which answers the open ping. -/
def SenRec.delayTaken (r : SenRec) (d : Nat) : SenRec := { r with rtHead := (d :: r.rtHead).take 8, idHead := none }

/-- The owner writes the first delay of a module from HEAD as soon as there is a median. -/
theorem writeDelay_first {v : Int} (ho : s.arm.owner = true) (hdly : (s.sen c).recs[m].dlyHead = none)
    (hv : median ((s.sen c).recs[m].rtHead.map Int.ofNat) = some v) : writeDelay s c m false =
      sendSrq (s.onRec c m fun r => { r with dlyHead := some v.toNat }) c m 2 (cfgItem 4 v.toNat) := by
  simp only [writeDelay, hv, hdly, ho, Bool.false_eq_true, if_false, Bool.and_self, if_true, Option.isSome_none,
    Bool.false_and]

/-- A PONG that answers the open ping from HEAD of a module without a written delay. -/
theorem exec_pongRx_first {b : List Byte} {id rt ta : Nat} {v : Int} (hd : s.declared c = true)
    (hb : senCrcOk b = true) (hp : pongOf b = some (m, false, id, ta)) (hid : (s.sen c).recs[m].idHead = some id)
    (ho : s.arm.owner = true) (hdly : (s.sen c).recs[m].dlyHead = none)
    (hv : median (((s.sen c).recs[m].delayTaken ((rt - 10 * ta) / 2)).rtHead.map Int.ofNat) = some v) :
    exec (.pongRx c b rt) s = .next (sendSrq
      (s.onRec c m fun r => { r.delayTaken ((rt - 10 * ta) / 2) with dlyHead := some v.toNat }) c m 2
      (cfgItem 4 v.toNat)) := by
  have hrec := onRec_self s c m fun r => r.delayTaken ((rt - 10 * ta) / 2)
  have hwrite := writeDelay_first (s := s.onRec c m fun r => r.delayTaken ((rt - 10 * ta) / 2)) (c := c) (m := m)
    (v := v) (by rw [State.onRec, onSen_arm]; exact ho) (by rw [hrec]; exact hdly) (by rw [hrec]; exact hv)
  rw [onRec_onRec] at hwrite
  simp only [exec, execPongRx, hd, hb, hp, hid, bne_self_eq_false, Bool.not_true, Bool.false_eq_true, if_false]
  exact congrArg _ hwrite

/-! ### Samples (R188 to R190, R207, R210) -/

theorem exec_sampleRx_bad {b : List Byte} (hd : s.declared c = true) (hb : senCrcOk b = false) :
    exec (.sampleRx c b) s = .next (badFrame s c) := by
  simp only [exec, execSampleRx, hd, hb, Bool.not_true, Bool.not_false, Bool.false_eq_true, if_false, if_true]

/-- The first good copy of a SAMPLE of the present strobe is taken. -/
theorem exec_sampleRx_first {b : List Byte} {f : SampleFrame} (hd : s.declared c = true) (hb : senCrcOk b = true)
    (hf : sampleOf b = some (m, f)) (hm : m.val < s.nMods) (hst : (s.sen c).stage = .enumerated)
    (hseq : f.sseq = (s.sen c).sseq) (hgot : (s.sen c).recs[m].got = false) :
    exec (.sampleRx c b) s = .next (takeSample s c m f) := by
  simp only [exec, execSampleRx, hd, hb, hf, Nat.not_le.2 hm, hst, hseq, hgot, bne_self_eq_false, decide_false,
    Bool.not_true, Bool.or_self, Bool.false_eq_true, if_false]

/-! What a SAMPLE without news leaves alone. -/

theorem checkEcho_current (h : (s.sen c).recs[m].echo = (s.sen c).recs[m].cntMark) : checkEcho s c m = s :=
  if_pos (by rw [h, BitVec.sub_self]; rfl)

theorem takeStatus_zero {old : BitVec 16} (h : (s.sen c).recs[m].status = 0) (hb : (s.sen c).recs[m].bswCell = none) :
    takeStatus s c m old = s := by
  simp only [takeStatus, h, hb, BitVec.ofNat_eq_ofNat, BitVec.getLsbD_zero, Bool.or_self, Bool.false_eq_true, if_false,
    Option.isSome_none, Bool.and_false]

theorem takeAbsence_present (h : (s.sen c).recs[m].thOpen ≠ 0xFF#8) : takeAbsence s c m = s := by
  simp only [takeAbsence, beq_false_of_ne h, Bool.false_and, Bool.false_eq_true, if_false]

theorem takeReturn_held (h : (s.sen c).recs[m].lost = false) : takeReturn s c m = s := by
  simp only [takeReturn, h, Bool.false_and, Bool.false_eq_true, if_false]

theorem takePresence_counted (h : (s.es c).mods[m].absentAt = none) : takePresence s c m = s := by
  simp only [takePresence, endAbsence, h, ite_self]

theorem dropGone_other (h : (s.chain c).mods[m].pend ≠ 3) : dropGone s c m = s := by
  simp only [dropGone, h, decide_false, Bool.false_and, Bool.false_eq_true, if_false]

/-- A SAMPLE without news of a module that is present is stored, and does nothing else. -/
theorem takeSample_stored {f : SampleFrame} (hecho : f.echo = (s.sen c).recs[m].cntMark) (hstatus : f.status = 0)
    (how : f.owNew = false) (hth : f.thOpen ≠ 0xFF#8) (hlost : (s.sen c).recs[m].lost = false)
    (hbsw : (s.sen c).recs[m].bswCell = none) (hpend : (s.chain c).mods[m].pend ≠ 3)
    (habs : (s.es c).mods[m].absentAt = none) :
    takeSample s c m f = s.onRec c m (storeSample s.nCells (s.sen c).strobeAt f) := by
  have hrec := onRec_self s c m (storeSample s.nCells (s.sen c).strobeAt f)
  unfold takeSample
  dsimp only
  rw [checkEcho_current (by rw [hrec]; exact hecho),
    takeStatus_zero (by rw [hrec]; exact hstatus) (by rw [hrec]; exact hbsw),
    if_neg (by rw [how]; exact Bool.false_ne_true), takeAbsence_present (by rw [hrec]; exact hth),
    takeReturn_held (by rw [hrec]; exact hlost),
    takePresence_counted (by rw [onRec_es]; exact habs), dropGone_other (by rw [onRec_chain]; exact hpend)]

/-! ### A complete sample set (R206) -/

theorem exec_sampleSetComplete_enumerated (hd : s.declared c = true) (hst : (s.sen c).stage = .enumerated) :
    exec (.sampleSetComplete c) s = .next (s.modIdx.foldl (judgeModule c) s) := by
  simp only [exec, execSampleSetComplete, hd, hst, beq_self_eq_true, Bool.and_self, if_true]

/-- The runs of a module whose sample has arrived. -/
theorem runsOf_got (h : (s.sen c).recs[m].got = true) :
    (∀ w : Fin 33, (s.runsOf c m).1[w] =
      if s.wirePattern c m w.val then min 3 ((s.sen c).recs[m].pairRuns[w] + 1) else 0) ∧
    (∀ k : Fin 32, (s.runsOf c m).2.1[k] =
      if s.lonePattern c m k.val then min 3 ((s.sen c).recs[m].cellRuns[k] + 1) else 0) ∧
    ∀ k : Fin 32, (s.runsOf c m).2.2[k] =
      if s.hardPattern c m k then min 3 ((s.sen c).recs[m].hardRuns[k] + 1) else 0 := by
  unfold State.runsOf
  dsimp only
  rw [if_pos h]
  simp

end

/-- Settles O51: strobes, pings and pongs by their equations, a sample by what it leaves alone, and a set by the runs
of each module. -/
theorem sentinelTimingAndSamples : Obligations.SentinelTimingAndSamples := by
  refine ⟨?_, ?_, ?_, ?_, ?_, ?_, ?_, ?_⟩
  · -- STROBE_LAUNCH
    intro s c seen hd hst ho hlow hhigh
    obtain ⟨hself, hother⟩ := markStrobe_sen s c (s.launchTime c - s.tim.time)
    refine completes_exec (exec_strobeLaunch_owner hd hst ho hlow hhigh) ⟨?_, fun k hk => ?_, ?_⟩
      (by dsimp only [execMask]; rfl)
    · rw [sendEnds_sen, hself]
    · rw [sendEnds_sen, hother k hk]
    · rw [sendEnds_outbox, markStrobe, onSen_outbox]
  · -- STROBE_LAUNCH, a member that tracks
    intro s c seen hd hst ho hseen
    exact completes_onSen (exec_strobeLaunch_tracking hd hst ho hseen)
  · -- PING_TIMER
    intro s c tail m hd hst he hm
    obtain ⟨hid, hself, hother, hchains⟩ := pingSent_effect s c tail m
    exact completes_exec (exec_pingTimer_one hd hst he hm)
      ⟨hid, hself, hother, hchains, by cases c <;> rfl⟩ (by dsimp only [execMask]; rfl)
  · -- PONG_RX, a wrong CRC
    intro s c b rt hd hb
    exact completes_onSen (exec_pongRx_bad hd hb)
  · -- PONG_RX
    intro s c b m id rt ta v hd hb hp hid ho hdly hv
    exact completes_onRec_srq (exec_pongRx_first hd hb hp hid ho hdly hv) ho
  · -- SAMPLE_RX, a wrong CRC
    intro s c b hd hb
    exact completes_onSen (exec_sampleRx_bad hd hb)
  · -- SAMPLE_RX
    intro s c b m f hd hb hf hm hst hseq hgot hecho hstatus how hth hlost hbsw hpend habs
    have hexec := exec_sampleRx_first hd hb hf hm hst hseq hgot
    rw [takeSample_stored hecho hstatus how hth hlost hbsw hpend habs] at hexec
    obtain ⟨hself, hother⟩ := onRec_recs s c m (storeSample s.nCells (s.sen c).strobeAt f)
    refine completes_within hexec ?_ (State.onRec_drop s c m _ rfl)
    rw [hself]
    exact ⟨fun k => by simp [storeSample], fun n => by simp [storeSample], rfl, rfl, rfl, rfl, rfl, rfl, rfl, rfl, rfl,
      hother, fun k hk => onRec_sen_other s c m _ hk⟩
  · -- SAMPLE_SET_COMPLETE
    intro s c hd hst
    refine completes_exec (exec_sampleSetComplete_enumerated hd hst) (fun m hm hgot => ?_)
      (by dsimp only [execMask]; rfl)
    have hruns := judgeAll_runs c s m hm
    have hnew := runsOf_got hgot
    rw [← hruns] at hnew
    exact hnew

end Sys2Proof.Machine
end

section
/-! SUPPORT. The chain of module sentinels: service answers, open-wire tests, silence, polls and balance-switch tests
(O52). -/

namespace Sys2Proof.Machine

section
variable {s : State} {c : ChainId} {m : Fin 32}

/-! ### Service answers (R191, R194, R208, R209) -/

/-- What a completion establishes may be weakened. -/
theorem Completes.imp {cmd : Instr} {bs : List Block} {post post' : State → Prop} (h : Completes cmd s bs post)
    (hp : ∀ t, post t → post' t) : Completes cmd s bs post' := by
  obtain ⟨t, hexec, hpost, hframe⟩ := h
  exact ⟨t, hexec, hp t hpost, hframe⟩

theorem exec_srsRx_bad {b : List Byte} (hd : s.declared c = true) (hb : senCrcOk b = false) :
    exec (.srsRx c b) s = .next (badFrame s c) := by
  simp only [exec, execSrsRx, hd, hb, Bool.not_true, Bool.not_false, Bool.false_eq_true, if_false, if_true]

theorem exec_srsRx_good {b : List Byte} {x : SrsFrame} (hd : s.declared c = true) (hb : senCrcOk b = true)
    (hx : srsOf b = some x) : exec (.srsRx c b) s = .next (takeAnswer s c x) := by
  simp only [exec, execSrsRx, hd, hb, hx, Bool.not_true, Bool.false_eq_true, if_false]

/-! What an answer does, by the operation that it names (Table 08.6). -/

theorem takeAnswer_readId {x : SrsFrame} (hop : x.op = 1) (hres : x.result = 0) :
    takeAnswer s c x = takeId s c x.mod x.tail x.data := by
  simp only [takeAnswer, hop, hres, if_true]

theorem takeAnswer_bswRefused {x : SrsFrame} (hop : x.op = 5) (hres : x.result ≠ 0) :
    takeAnswer s c x = s.onRec c x.mod fun r => { r with bswCell := none } := by
  simp only [takeAnswer, hop, hres, if_false]

theorem takeAnswer_termDiag {x : SrsFrame} (hop : x.op = 6) (hres : x.result = 0) :
    takeAnswer s c x = sendSrq s c x.mod 8 [] := by
  simp only [takeAnswer, hop, hres, if_true]

/-- The record of a module whose identity is read during an enumeration, by an answer that arrived at an end. -/
def SenRec.identified (r : SenRec) (tail : Bool) (data : BitVec 96) : SenRec :=
  { r with
    serial := data.truncate 64
    cls := ((data >>> 64).truncate 8 : BitVec 8).toNat % 16
    nCells := ((data >>> 72).truncate 8 : BitVec 8).toNat
    hwRev := ((data >>> 80).truncate 8 : BitVec 8).toNat
    idRead := true
    reachHead := r.reachHead || !tail
    reachTail := r.reachTail || tail }

/-- A module whose identity is read for the first time in an enumeration is configured and tested. -/
theorem takeId_first {tail : Bool} {data : BitVec 96} (hm : m.val < s.nMods) (hst : (s.sen c).stage = .enumerating)
    (hid : (s.sen c).recs[m].idRead = false) : takeId s c m tail data =
      sendSrq (configure (s.onRec c m fun r => r.identified tail data) c m) c m 6 [] := by
  simp only [takeId, Nat.not_le.2 hm, hst, hid, beq_self_eq_true, Bool.and_false, Bool.false_and, Bool.true_and,
    Bool.false_eq_true, if_false, if_true]
  rfl

theorem sendSrq_owned (ho : s.arm.owner = true) (op : Nat) (arg : List Byte) :
    sendSrq s c m op arg = s.onSen c fun x => { x with srqQ := x.srqQ ++ [(m, op, arg)] } := if_pos ho

theorem sendSrq_sen (s : State) (c : ChainId) (m : Fin 32) (op : Nat) (arg : List Byte) :
    (sendSrq s c m op arg).sen c =
      { s.sen c with srqQ := if s.arm.owner then (s.sen c).srqQ ++ [(m, op, arg)] else (s.sen c).srqQ } := by
  obtain ⟨-, -, h⟩ := sendSrq_effect s c m op arg
  exact h

/-- The configuration of a module is two requests. -/
theorem configure_requests (s : State) (c : ChainId) (m : Fin 32) :
    ∃ first second, configure s c m = sendSrq (sendSrq s c m 2 first) c m 2 second := ⟨_, _, rfl⟩

/-- Configuration and diagnostics of a module: three requests, which only the owner queues. -/
theorem configure_srq_effect (s : State) (c : ChainId) (m : Fin 32) :
    ((sendSrq (configure s c m) c m 6 []).sen c).recs = (s.sen c).recs ∧
    ∃ first second, ((sendSrq (configure s c m) c m 6 []).sen c).srqQ =
      if s.arm.owner then (s.sen c).srqQ ++ [(m, 2, first), (m, 2, second), (m, 6, [])] else (s.sen c).srqQ := by
  obtain ⟨first, second, hcfg⟩ := configure_requests s c m
  rw [hcfg, sendSrq_sen, sendSrq_sen, sendSrq_sen, sendSrq_arm, sendSrq_arm]
  refine ⟨rfl, first, second, ?_⟩
  cases ho : s.arm.owner <;> simp [ho]

/-! ### Open-wire tests, silence and polls (R205, R210) -/

theorem exec_owTestTimer_due (hd : s.declared c = true) (hst : (s.sen c).stage = .enumerated)
    (hdue : due s.clock (s.sen c).owDue = true) : exec (.owTestTimer c) s =
      .next (s.modIdx.foldl (fun t m => sendSrq t c m 4 [])
        (s.onSen c fun x => { x with owDue := some (s.clock + secNs) })) := by
  simp only [exec, execOwTestTimer, hd, hst, hdue, beq_self_eq_true, Bool.and_self, if_true]

theorem exec_sentinelSilent_misses (hd : s.declared c = true) (hm : m.val < s.nMods)
    (hl : (s.sen c).recs[m].lost = false) (hn : s.im.silentSamples c ≤ (s.sen c).recs[m].misses) :
    exec (.sentinelSilent c m) s = .next (declareLost (logEvent s 0x3007 m.val) c m) := by
  simp only [exec, execSentinelSilent, hd, hm, hl, hn, Bool.not_false, decide_true, Bool.and_self, if_true]

theorem exec_lostModulePoll_due (hd : s.declared c = true) (ho : s.arm.owner = true)
    (hl : (s.sen c).recs[m].lost = true) (hp : (s.sen c).recs[m].pollAt + 100 * msNs ≤ s.clock) :
    exec (.lostModulePoll c m) s = .next (sendSrq (s.onRec c m fun r => { r with pollAt := s.clock }) c m 1 []) := by
  simp only [exec, execLostModulePoll, hd, ho, hl, hp, decide_true, Bool.and_self, if_true]

/-! ### Balance-switch tests (R208) -/

theorem exec_bswTestIssue_allowed {cell : Option (Fin 32)} (hd : s.declared c = true) (ho : s.arm.owner = true)
    (hm : m.val < s.nMods) (ha : s.bswAllowed c m cell = true) : exec (.bswTestIssue c m cell) s =
      .next (sendSrq (s.onRec c m fun r =>
        { r with bswCell := some ((cell.map Fin.val).getD 0xFF), bswAt := some s.clock }) c m 5
        [BitVec.ofNat 8 ((cell.map Fin.val).getD 0xFF)]) := by
  simp only [exec, execBswTestIssue, hd, ho, hm, ha, decide_true, Bool.and_self, if_true]
  cases cell <;> rfl

end

/-- Settles O52: an answer by the operation that it names, the others as requests to one module or to all. -/
theorem sentinelServiceFrames : Obligations.SentinelServiceFrames := by
  refine ⟨?_, ?_, ?_, ?_, ?_, ?_, ?_, ?_⟩
  · -- SRS_RX, a wrong CRC
    intro s c b hd hb
    exact completes_onSen (exec_srsRx_bad hd hb)
  · -- SRS_RX, READ_ID of an enumeration
    intro s c b x hd hb hx hop hres hm hst hid
    have hexec := exec_srsRx_good hd hb hx
    rw [takeAnswer_readId hop hres, takeId_first hm hst hid] at hexec
    obtain ⟨hself, hother⟩ := onRec_recs s c x.mod fun r => r.identified x.tail x.data
    obtain ⟨hrecs, first, second, hq⟩ :=
      configure_srq_effect (s.onRec c x.mod fun r => r.identified x.tail x.data) c x.mod
    rw [onRec_sen, State.onRec, onSen_arm] at hq
    refine completes_within hexec ?_ ((sendSrq_drop _ c _ 6 [] rfl).trans
      ((configure_drop _ c _ rfl).trans (State.onRec_drop s c x.mod _ rfl)))
    rw [hrecs]
    exact ⟨hself, hother, first, second, hq⟩
  · -- SRS_RX, a refused balance-switch test
    intro s c b x hd hb hx hop hres
    have hexec := exec_srsRx_good hd hb hx
    rw [takeAnswer_bswRefused hop hres] at hexec
    exact completes_within hexec (onRec_recs s c x.mod _) (State.onRec_drop s c x.mod _ rfl)
  · -- SRS_RX, terminal diagnostics have ended
    intro s c b x hd hb hx hop hres ho
    have hexec := exec_srsRx_good hd hb hx
    rw [takeAnswer_termDiag hop hres, sendSrq_owned ho] at hexec
    exact completes_onSen hexec
  · -- OW_TEST_TIMER
    intro s c hd ho hst hdue
    refine completes_exec (exec_owTestTimer_due hd hst hdue) ?_ (by dsimp only [execMask]; rfl)
    rw [srqAll_effect c 4 [] _ _ (by rw [onSen_arm]; exact ho), onSen_self]
  · -- SENTINEL_SILENT
    intro s c m hd hm hl hn hc
    obtain ⟨hlost, hmod, horder, hcnt⟩ :=
      declareLost_effect (logEvent s 0x3007 m.val) c m (by rw [logEvent_chain]; exact hc)
    rw [logEvent_chain] at horder hcnt
    exact completes_exec (exec_sentinelSilent_misses hd hm hl hn) ⟨hlost, hmod, horder, hcnt⟩
      (by dsimp only [execMask]; rfl)
  · -- LOST_MODULE_POLL
    intro s c m hd ho hl hp
    exact (completes_onRec_srq (exec_lostModulePoll_due hd ho hl hp) ho).imp fun t ⟨hrec, hq, _⟩ => ⟨hrec, hq⟩
  · -- BSW_TEST_ISSUE
    intro s c m cell hd ho hm ha
    exact (completes_onRec_srq (exec_bswTestIssue_allowed hd ho hm ha) ho).imp fun t ⟨hrec, hq, _⟩ => ⟨hrec, hq⟩

end Sys2Proof.Machine
end

section
/-! SUPPORT. The estimation engine: the count of a millisecond, the anchors, the module resets, the published limits and
the balancing (O28). -/

namespace Sys2Proof.Machine

section
variable {s : State} {c : ChainId}

/-! ### Commands that change the account of one chain -/

/-- A change of the accounts of a chain moves nothing that an event records. -/
theorem onEs_logged (s : State) (c : ChainId) (f : EstCh → EstCh) {code : Nat} (hc : hwEvent code = false)
    (d1 d2 : Nat) : Logged s (logEvent (s.onEs c f) code d1 d2) code d1 d2 := by
  cases c <;> exact logged_of rfl rfl rfl rfl _ _ _ _ (.inl hc)

theorem answer_es (s : State) (p : Requester) (code : Nat) (k : ChainId) : (answer s p code).es k = s.es k :=
  es_of (answer_esA ..) (answer_esB ..) k

/-! ### The count of a millisecond (R214, R217, R222) -/

/-- ΣΔQ of the periods of a snapshot, µAs. -/
def snapshotTotal (x : Snapshot) : Int := (x.periods.map (·.dQ)).foldl (· + ·) 0

/-- The oldest snapshot of a chain has left its queue. -/
def snapshotTaken (s : State) (c : ChainId) (rest : List Snapshot) : State := s.onEs c fun e => { e with cci := rest }

/-- The counters of the modules that are present have run. -/
def modulesCounted (s : State) (c : ChainId) (x : Snapshot) : State :=
  (s.present c).foldl (countModule c x (snapshotTotal x) (s.drainOf c).1) s

/-- The accounts of a chain after the count of a snapshot, before they are judged. -/
def snapshotCounted (s : State) (c : ChainId) (x : Snapshot) : State :=
  (modulesCounted s c x).onEs c fun e =>
    { e with
      accSeen := x.acc
      seenAt := x.ts
      sleepMs := (s.drainOf c).2
      vnrCurrent := some (tdiv (snapshotTotal x) 10) }

theorem exec_eeMillisecondCount_next {x : Snapshot} {rest : List Snapshot} (he : s.eeRuns = true)
    (hd : s.declared c = true) (hq : (s.es c).cci = x :: rest) :
    exec (.eeMillisecondCount c) s = .next (countSnapshot (snapshotTaken s c rest) c x) := by
  simp only [exec, execEeMillisecondCount, he, hd, hq, Bool.not_true, Bool.or_self, Bool.false_eq_true, if_false]
  rfl

/-- Without a gap and without overwritten milliseconds before it, a snapshot is counted alone. -/
theorem countSnapshot_eq {x : Snapshot} (hg : (s.es c).gapAt = none) (hl : s.lostMs c x = 0) :
    ∃ f, countSnapshot s c x = refreshVeneer (refreshSoc ((s.present c).foldl (judgeAccount c x.ts)
      ((snapshotCounted s c x).onEst f)) c) c := by
  have hgap : settleGap s c x = s := by simp only [settleGap, hg]
  have hlost : countLost s c x = s := by simp only [countLost, hl, if_true]
  rw [countSnapshot, hgap, hlost]
  exact ⟨_, rfl⟩

/-- What the judgement of the accounts, the chain SoC and the veneer leave of the count. -/
theorem countSnapshot_keep {x : Snapshot} (hg : (s.es c).gapAt = none) (hl : s.lostMs c x = 0) :
    let e := (countSnapshot s c x).es c
    let k := (snapshotCounted s c x).es c
    (e.accSeen, e.seenAt, e.sleepMs, e.vnrCurrent, e.cci) = (k.accSeen, k.seenAt, k.sleepMs, k.vnrCurrent, k.cci) ∧
    ∀ m : Fin 32, e.mods[m].q = k.mods[m].q := by
  obtain ⟨f, heq⟩ := countSnapshot_eq hg hl
  obtain ⟨hmods, hacc, hseen, hsleep, hvnr, hcci⟩ := refresh_es _ c _ heq
  have judged {β : Type} {g : EstCh → β} (H : KeepsQ g) := (foldl_keep (fun t => g (t.es c))
    (fun t m => judgeAccount_g H c x.ts t m c) (s.present c)
    ((snapshotCounted s c x).onEst f)).trans (congrArg g (onEst_es _ c _))
  dsimp only
  rw [hmods, hacc, hseen, hsleep, hvnr, hcci]
  exact ⟨judged keepsQ_head, fun m => judged (keepsQ_q m)⟩

/-- The count itself leaves the queue, and charges each module that is present. -/
theorem modulesCounted_effect (s : State) (c : ChainId) (x : Snapshot) :
    ((modulesCounted s c x).es c).cci = (s.es c).cci ∧
    ∀ m : Fin 32, m.val < s.nMods → ((modulesCounted s c x).es c).mods[m].q =
      (s.es c).mods[m].q + if (s.es c).mods[m].absentAt.isSome then 0 else s.moduleCharge c x m := by
  refine ⟨foldl_keep (fun t => (t.es c).cci) (fun t m => ?_) _ _, fun m hm => ?_⟩
  · rw [countModule, State.onAcc, onEs_self]
  · refine (countModule_fold c x (snapshotTotal x) (s.drainOf c).1 s m hm).trans ?_
    split
    · exact (Int.add_zero _).symm
    · rfl

theorem countSnapshot_effect {x : Snapshot} (hg : (s.es c).gapAt = none) (hl : s.lostMs c x = 0) :
    let e := (countSnapshot s c x).es c
    e.cci = (s.es c).cci ∧ e.accSeen = x.acc ∧ e.seenAt = x.ts ∧ e.sleepMs = (s.drainOf c).2 ∧
    e.vnrCurrent = some (tdiv (snapshotTotal x) 10) ∧
    ∀ m : Fin 32, m.val < s.nMods → e.mods[m].q =
      (s.es c).mods[m].q + if (s.es c).mods[m].absentAt.isSome then 0 else s.moduleCharge c x m := by
  obtain ⟨hhead, hq⟩ := countSnapshot_keep hg hl
  obtain ⟨hcci, hmods⟩ := modulesCounted_effect s c x
  simp only [snapshotCounted, onEs_self, Prod.mk.injEq] at hhead hq
  obtain ⟨hacc, hseen, hsleep, hvnr, hqueue⟩ := hhead
  exact ⟨hqueue.trans hcci, hacc, hseen, hsleep, hvnr, fun m hm => (hq m).trans (hmods m hm)⟩

/-- The queue is no part of what the count reads. -/
theorem snapshotTaken_keep (s : State) (c : ChainId) (rest : List Snapshot) :
    (snapshotTaken s c rest).drainOf c = s.drainOf c ∧ (snapshotTaken s c rest).nMods = s.nMods ∧
    (∀ x m, (snapshotTaken s c rest).moduleCharge c x m = s.moduleCharge c x m) ∧
    (snapshotTaken s c rest).es c = { s.es c with cci := rest } := by
  have himg : (snapshotTaken s c rest).img = s.img := by cases c <;> rfl
  refine ⟨by cases c <;> rfl, ?_, moduleCharge_of (onEs_sen ..) (onEs_chain ..) himg, onEs_self ..⟩
  rw [State.nMods, State.im, himg]
  rfl

/-! ### Anchors (R226, R227) -/

theorem exec_anchorTimerExpiry_due {m k : Fin 32} {full : Bool} {t0 : Nat} (he : s.eeRuns = true)
    (hd : s.declared c = true) (hm : m.val < s.nMods) (hk : (s.measured c m).contains k = true)
    (hs : (if full then (s.es c).mods[m].cells[k].fullSince else (s.es c).mods[m].cells[k].emptySince) = some t0)
    (ht : t0 + secNs * (if full then s.im.tFull else s.im.tEmpty) ≤ s.clock) :
    exec (.anchorTimerExpiry c m k full) s = .next (followAnchor (anchorCell s c m k full).1 c m full) := by
  simp only [exec, execAnchorTimerExpiry, he, hd, hm, hk, hs, ht, decide_true, Bool.and_self, if_true]

/-- The content of a cell whose account has just been tied is what it was tied to. -/
theorem content_of_tied {a : CellAcc} (h : a.qRef = a.q) : a.content = a.cRef := by
  rw [CellAcc.content, h, Int.sub_self, Int.sub_zero]

/-! ### Rest anchors (R246) -/

theorem exec_ocvRestExpiry_rested {m k : Fin 32} {v q t0 : Nat} (he : s.eeRuns = true) (hd : s.declared c = true)
    (hm : m.val < s.nMods) (hs : (s.es c).mods[m].cells[k].restSince = some t0)
    (ht : t0 + 60 * secNs * s.im.ocvRest ≤ s.clock) (hp : s.plateOf c m 7 = 1) (htemp : s.ocvTemps c m = true)
    (hk : (s.measured c m).contains k = true) (hv : (s.sen c).recs[m].cells[k] = some v)
    (hq : ocvContent (s.es c).mods[m].cells[k].cap v = some q)
    (hu : (s.es c).mods[m].cells[k].uncertain 5 = true) :
    exec (.ocvRestExpiry c m k) s = .next (logEvent (s.onCell c m k fun x =>
      { x with cRef := q, qRef := x.q, unc := some (x.uncOf 50) }.settle) 0x4010 m.val k.val) := by
  simp only [exec, execOcvRestExpiry, he, hd, hm, hs, ht, hp, htemp, hk, hv, hq, hu, Option.bind_some, decide_true,
    Bool.and_self, if_true]

/-! ### Module resets (R245) -/

theorem opEstReset_declared {m : Fin 32} (hd : s.declared c = true) (hm : m.val < s.nMods) :
    opEstReset c m s = (resetModule s c m 2, 0) := by
  simp only [opEstReset, hd, Nat.not_le.2 hm, Bool.not_true, Bool.false_eq_true, if_false]

theorem opEstReset_range {m : Fin 32} (hd : s.declared c = true) (hm : s.nMods ≤ m.val) :
    opEstReset c m s = (s, 7) := by
  simp only [opEstReset, hd, hm, Bool.not_true, Bool.false_eq_true, if_false, if_true]

theorem answer_plateOf (s : State) (p : Requester) (code : Nat) (c : ChainId) (m : Fin 32) (i : Nat) :
    (answer s p code).plateOf c m i = s.plateOf c m i := by
  rw [State.plateOf, answer_es]
  rfl

/-! ### Limits (R231, R233) -/

theorem exec_limitsPublish_runs (he : s.eeRuns = true) : exec .limitsPublish s =
    .next ((s.forChains publishChain).onEst fun e => { e with stale := false }) := by
  simp only [exec, execLimitsPublish, he, if_true]

theorem forChains_publishChain_est (s : State) : (s.forChains publishChain).est = s.est :=
  foldl_keep State.est (fun t k => same_of_drop (m := 77312753664) (publishChain_drop t k rfl) .est rfl) _ _

theorem exec_limitsStale_old {t0 : Nat} (hl : (s.chain c).limAt = some t0) (ht : t0 + 15 * msNs < s.clock) :
    exec (.limitsStale c) s = .next (logEvent
      ((s.onChain c fun ch => { ch with limAt := none, limDis := 0, limChg := 0 }).onEst
        fun e => { e with stale := true }) 0x4012 c.num) := by
  simp only [exec, execLimitsStale, hl, ht, if_true]

/-! ### Balancing (R234, R204) -/

theorem exec_balanceTick_enumerated (he : s.eeRuns = true) (hd : s.declared c = true)
    (hst : (s.sen c).stage = .enumerated) :
    exec (.balanceTick c) s = .next (s.modIdx.foldl (balanceModule c) s) := by
  simp only [exec, execBalanceTick, he, hd, hst, beq_self_eq_true, Bool.and_self, if_true]

end

/-- Settles O28: the count of a snapshot by what its parts leave of the accounts, an anchor and a reset by the account
that they write, the limits and the bleed masks by one step for each chain and each module. -/
theorem estimationOfModules : Obligations.EstimationOfModules := by
  refine ⟨?_, ?_, ?_, ?_, ?_, ?_, ?_, ?_⟩
  · -- EE_MILLISECOND_COUNT
    intro s c x rest he hd hg hq hl
    obtain ⟨hdrain, hn, hcharge, hes⟩ := snapshotTaken_keep s c rest
    have hlost : (snapshotTaken s c rest).lostMs c x = 0 := by rw [State.lostMs, hes]; exact hl
    have hcount := countSnapshot_effect (s := snapshotTaken s c rest) (by rw [hes]; exact hg) hlost
    simp only [hdrain, hn, hcharge, hes] at hcount
    exact completes_exec (exec_eeMillisecondCount_next he hd hq) hcount (by dsimp only [execMask]; rfl)
  · -- ANCHOR_TIMER_EXPIRY
    intro s c m k full t0 he hd hm hk hs ht
    obtain ⟨⟨href, hqref, hunc, hopen, hkind, hfull, hempty, hhold⟩, hlast, hemptyHold, hdue⟩ :=
      anchorCell_effect s c m k full _ rfl
    obtain ⟨hes, hest⟩ := followAnchor_es (anchorCell s c m k full).1 c c m full
    refine completes_exec (exec_anchorTimerExpiry_due he hd hm hk hs ht) ?_ (by dsimp only [execMask]; rfl)
    rw [hes, hest]
    refine ⟨⟨(content_of_tied hqref).trans (href.trans ?_), hunc, hopen, hkind, hfull, hempty, hhold⟩,
      hlast, hemptyHold, hdue⟩
    cases full <;> rfl
  · -- OCV_REST_EXPIRY
    intro s c m k v q t0 he hd hm hs ht hp htemp hk hv hq hu
    refine completes_exec (exec_ocvRestExpiry_rested he hd hm hs ht hp htemp hk hv hq hu) ?_
      (by dsimp only [execMask]; rfl)
    rw [logEvent_es, onCell_self]
    exact ⟨content_of_tied rfl, rfl, onEs_logged s c _ rfl _ _⟩
  · -- EST_CMD_RESET_MODULE
    intro s p c m hg hd hm
    obtain ⟨hswap, hacc, hlast, habsent, hcells, hdue⟩ := resetModule_effect s c m 2 _ rfl
    refine completes_granted rfl hg (opEstReset_declared hd hm) ?_ (opEstReset_drop c m s rfl) rfl rfl
    simp only [answer_es, answer_plateOf, answer_est]
    exact ⟨hswap, hacc, hlast, habsent, hcells, hdue, rfl⟩
  · -- EST_CMD_RESET_MODULE, no such module
    intro s p c m hg hd hm
    exact completes_unchanged rfl hg (opEstReset_range hd hm)
  · -- LIMITS_PUBLISH
    intro s he
    refine completes_exec (exec_limitsPublish_runs he) ⟨?_, fun c hc => ?_⟩ (by dsimp only [execMask]; rfl)
    · rw [State.onEst_est, forChains_publishChain_est]
    · rw [onEst_chain]
      exact publishAll_limAt s c hc
  · -- LIMITS_STALE
    intro s c t0 hl ht
    refine completes_exec (exec_limitsStale_old hl ht) ⟨?_, ?_, ?_⟩ (by dsimp only [execMask]; rfl)
    · rw [logEvent_chain, onEst_chain, onChain_self]
    · cases c <;> rfl
    · cases c <;> exact logged_of rfl rfl rfl rfl _ _ _ _
  · -- BALANCE_TICK
    intro s c he hd hst
    exact completes_exec (exec_balanceTick_enumerated he hd hst) (balanceAll_effect c s) (by dsimp only [execMask]; rfl)

end Sys2Proof.Machine
end

section
/-! SUPPORT. The records of the estimation engine and the preset of the veneer window (O29). -/

namespace Sys2Proof.Machine

section
variable {s : State} {c : ChainId}

/-! ### Writes that fall due (R239) -/

theorem exec_checkpointTimer_due (he : s.eeRuns = true)
    (ht : s.est.checkAt + 60 * secNs * s.im.checkpoint ≤ s.clock) : exec .checkpointTimer s = .next (s.onEst fun e => { e with checkAt := s.clock, stateDue := true }) := by
  simp only [exec, execCheckpointTimer, he, ht, decide_true, Bool.and_self, if_true]
  rfl

theorem exec_countPeriodTimer_due (he : s.eeRuns = true) (ht : s.est.countAt + secNs * s.im.countPeriod ≤ s.clock) :
    exec .countPeriodTimer s = .next (s.onEst fun e => { e with countDue := true, countAt := s.clock }) := by
  simp only [exec, execCountPeriodTimer, he, ht, decide_true, Bool.and_self, if_true]

/-! ### Writes that begin (R238) -/

theorem exec_recordWriteStart_state (he : s.eeRuns = true) (hf : s.nvmFree = true) (hr : s.est.erased = true)
    (hdue : s.est.stateDue = true) (hsp : s.stateSpaced = true) :
    exec (.recordWriteStart .state) s = .next (startState s) := by
  simp only [exec, execRecordWriteStart, he, hf, hr, hdue, hsp, Bool.and_self, if_true]

theorem exec_recordWriteStart_count (he : s.eeRuns = true) (hf : s.nvmFree = true) (hr : s.est.erased = true)
    (hdue : s.est.countDue = true) (hst : (s.est.stateDue && s.stateSpaced) = false) :
    exec (.recordWriteStart .count) s = .next (startCount s) := by
  simp only [exec, execRecordWriteStart, he, hf, hr, hdue, hst, Bool.not_false, Bool.and_self, if_true]

/-- The STATE record of this instant, not yet valid, stands before the others. -/
theorem startState_record (s : State) : ∃ r, (startState s).est.recState.head? = some r ∧ r.valid = false ∧
    r.modsA = s.esA.mods.map EstMod.payload ∧ r.modsB = s.esB.mods.map EstMod.payload ∧ r.time = s.tim.time ∧
    (∀ n, s.est.newState = some n → r.seq = n.seq + 1) :=
  ⟨_, rfl, rfl, rfl, rfl, rfl, fun n hn => by simp only [hn]⟩

/-- The COUNT record of this instant, not yet valid, stands before the others. -/
theorem startCount_record (s : State) : ∃ r, (startCount s).est.recCount.head? = some r ∧ r.valid = false ∧
    r.time = s.tim.time ∧ (∀ m : Fin 32, r.qA[m] = s.esA.mods[m].q ∧ r.qB[m] = s.esB.mods[m].q) ∧
    (∀ n, s.est.newCount = some n → r.seq = n.seq + 1) :=
  ⟨_, rfl, rfl, rfl, fun m => ⟨Vector.getElem_map .., Vector.getElem_map ..⟩, fun n hn => by simp only [hn]⟩

/-! ### The veneer preset (R223) -/

theorem opVnrPreset_window (hb : (c == .b && s.noB) = false) :
    opVnrPreset c s = (logEvent (s.onEs c fun e =>
      { e with
        vnrLoaded := e.vnrPreset
        vnrCount := e.vnrPreset
        vnrA := e.accLive
        vnrGap := false
        vnrAt := s.clock }) 0x4013 c.num, 0) := by
  simp only [opVnrPreset, hb, Bool.false_eq_true, if_false]

/-- The control register of a window, by its address. -/
theorem vnrAddr_ctrl (c : ChainId) : vnrAddr c 8 = BitVec.ofNat 32 (0xAC008 + 0x100 * c.num) := by cases c <;> rfl

end

/-- Settles O29: the timers and the command by the mark that they set, a write by the record that it begins, and the
preset by what the window takes. -/
theorem recordsAndVeneer : Obligations.RecordsAndVeneer := by
  refine ⟨?_, ?_, ?_, ?_, ?_, ?_⟩
  · -- CHECKPOINT_TIMER
    intro s he ht
    exact completes_exec (exec_checkpointTimer_due he ht) rfl (by dsimp only [execMask]; rfl)
  · -- COUNT_PERIOD_TIMER
    intro s he ht
    exact completes_exec (exec_countPeriodTimer_due he ht) rfl (by dsimp only [execMask]; rfl)
  · -- RECORD_WRITE_START, STATE
    intro s he hf hr hdue hsp
    exact completes_exec (exec_recordWriteStart_state he hf hr hdue hsp)
      ⟨rfl, rfl, rfl, rfl, rfl, startState_record s⟩ (by dsimp only [execMask]; rfl)
  · -- RECORD_WRITE_START, COUNT
    intro s he hf hr hdue hst
    exact completes_exec (exec_recordWriteStart_count he hf hr hdue hst) ⟨rfl, rfl, rfl, startCount_record s⟩
      (by dsimp only [execMask]; rfl)
  · -- EST_CMD_CHECKPOINT
    intro s p hg
    exact completes_granted (op := opEstCheckpoint) rfl hg rfl ⟨rfl, answered_of rfl⟩ (opEstCheckpoint_drop s rfl) rfl rfl
  · -- VNR_CTRL_PRESET
    intro s p c hg hb
    rw [← vnrAddr_ctrl] at hg
    refine completes_granted rfl hg (opVnrPreset_window hb)
      ⟨?_, (answer_evt ..).trans (onEs_logged s c _ rfl _ _), answered_of ?_⟩ (opVnrPreset_drop c s rfl) rfl rfl
    · rw [answer_es, logEvent_es, onEs_self]
    · cases c <;> rfl

end Sys2Proof.Machine
end

section
/-! SUPPORT. Heaters: the stagger, the command that forces and the end of the override (O59). -/

namespace Sys2Proof.Machine

section
variable {s : State} {n : Fin 12} {ns : List (Fin 12)} {t0 : Nat}

/-! ### The stagger (R259) -/

theorem heatGoal_on_of_due (hd : s.heatersDue = n :: ns) : heatOnSt (s.heatGoal n) = true := by
  have hn : n ∈ s.heatersDue := hd ▸ List.mem_cons_self
  rw [State.heatersDue, List.mem_filter, Bool.and_eq_true] at hn
  exact hn.2.1

/-- The first heater that is due switches on once 100 ms have passed since the one before. -/
theorem staggerHeater_switches (hd : s.heatersDue = n :: ns)
    (hl : ∀ t0, s.thm.heatLast = some t0 → t0 + 100 * msNs ≤ s.clock) :
    staggerHeater s = (setHeater s n (s.heatGoal n)).onThm fun t =>
      { t with heatDue := ns, heatLast := some s.clock } := by
  unfold staggerHeater
  cases h : s.thm.heatLast with
  | none => simp only [hd, if_true]
  | some t0 => simp only [hd, hl t0 h, decide_true, if_true]

/-- Within 100 ms of the one before, every heater that is due waits. -/
theorem staggerHeater_waits (hd : s.heatersDue = n :: ns) (hl : s.thm.heatLast = some t0)
    (ht : s.clock < t0 + 100 * msNs) : staggerHeater s = s.onThm fun t => { t with heatDue := n :: ns } := by
  unfold staggerHeater
  simp only [hd, hl, Nat.not_le.2 ht, decide_false, Bool.false_eq_true, if_false]

theorem exec_heaterStagger_due (he : s.heRuns = true) (hd : s.thm.heatDue ≠ []) (ht : s.mnt.heatTest = none) :
    exec .heaterStagger s = .next (staggerHeater s) := by
  simp only [exec, execHeaterStagger, he, ht, List.isEmpty_eq_false_iff.2 hd, Bool.not_false, Option.isNone_none,
    Bool.and_self, if_true]

/-! ### Forced and released (R260) -/

/-- While HE does not run, a heater command that is taken only waits. -/
theorem opThmHeat_waits {action : Nat} (hc : s.lswClass n = 3) (ha : action < 3) (hl : s.locks.getLsbD 6 = false)
    (he : s.heRuns = false) : opThmHeat (n.val + 1) action s = (heatForced s n (heatAsked s action), 0) := by
  rw [opThmHeat_taken hc ha hl, he]
  rfl

theorem opThmHeat_absent {ch : Nat} (hch : ch = 0 ∨ 12 < ch) (action : Nat) : opThmHeat ch action s = (s, 7) := by
  unfold opThmHeat
  rw [dif_neg (by omega)]

/-- A heater whose override ends is left to the control, which switches it outside a heater test. -/
def heatReleased (s : State) (n : Fin 12) : State :=
  if s.mnt.heatTest.isSome then heatForced s n none else staggerHeater (settleHeater (heatForced s n none) n)

theorem heatReleased_force (s : State) (n : Fin 12) :
    (heatReleased s n).thm.heatForce = s.thm.heatForce.set n none := by
  unfold heatReleased
  split
  · rfl
  · rw [staggerHeater_force, settleHeater_force]
    rfl

theorem exec_heatOverrideExpiry_due {f : Bool} (he : s.heRuns = true) (hf : s.thm.heatForce[n] = some (f, t0))
    (ht : t0 ≤ s.clock) : exec (.heatOverrideExpiry n) s = .next (heatReleased s n) := by
  simp only [exec, execHeatOverrideExpiry, hf, he, ht, decide_true, Bool.and_self, if_true]
  rfl

end

/-- Settles O59: the stagger by what it does with the first heater due, a command by what `opThmHeat` leaves forced, and
the end of the override by what it leaves forced. -/
theorem heaterControl : Obligations.HeaterControl := by
  unfold Obligations.HeaterControl
  refine ⟨?_, ?_, ?_, ?_, ?_, ?_⟩
  · -- HEATER_STAGGER, the next heater switches on
    intro s n ns he hdue ht hd hl
    obtain ⟨hheat, -, -, -, hwant⟩ := setHeater_effect s n (s.heatGoal n)
    refine completes_exec ((exec_heaterStagger_due he hdue ht).trans (congrArg _ (staggerHeater_switches hd hl)))
      ⟨hheat, rfl, rfl, ?_⟩ (by dsimp only [execMask]; rfl)
    exact hwant.trans (heatGoal_on_of_due hd)
  · -- HEATER_STAGGER, within 100 ms
    intro s n ns t0 he hdue ht hd hl hlate
    exact completes_within
      ((exec_heaterStagger_due he hdue ht).trans (congrArg _ (staggerHeater_waits hd hl hlate))) rfl
      (State.onThm_drop rfl (.inr fun _ => rfl) (.inr fun _ => rfl) (.inr fun _ => rfl) (.inr fun _ => rfl))
  · -- THM_HEAT_CMD
    intro s p n action hg hc ha hl
    obtain ⟨x, hx, hforce, -⟩ := opThmHeat_effect hc ha hl
    exact completes_granted rfl hg hx ⟨hforce, rfl⟩ (opThmHeat_drop _ _ s rfl) rfl rfl
  · -- THM_HEAT_CMD while HE does not run
    intro s p n action hg hc ha hl he
    have hop := opThmHeat_waits hc ha hl he
    refine completes_granted rfl hg hop ⟨answered_of rfl, rfl⟩ ?_ rfl rfl
    rw [hop]
    exact State.onThm_drop rfl (.inr fun _ => rfl) (.inr fun _ => rfl) (.inr fun _ => rfl) (.inr fun _ => rfl)
  · -- THM_HEAT_CMD to a channel that does not exist
    intro s p ch action hg hch
    exact completes_unchanged rfl hg (opThmHeat_absent hch action)
  · -- HEAT_OVERRIDE_EXPIRY
    intro s n f t0 he hf ht
    exact completes_exec (exec_heatOverrideExpiry_due he hf ht) (heatReleased_force s n)
      (by dsimp only [execMask]; rfl)

end Sys2Proof.Machine
end

section
/-! SUPPORT. The thermal scan, returning sensors, the end of shutdowns and the till records (O58). -/

namespace Sys2Proof.Machine

section
variable {s : State} {c : ChainId} {m : Fin 32} {n : Fin 8} {p : Requester} {t0 : Nat}

/-! ### The scan (R251, R252) -/

/-- A scan step up to heater control, in the order of R251. -/
def scanControlled (s : State) (x : ScanInputs) : State :=
  controlHeaters (((dieWarnings ((takeInputs s x).forChains scanSensors)).forChains checkShutdown).forChains scanFactors)

/-- The end of a scan step: the interval to the next one, and whether stage 2 holds it. -/
def scanPublished (s : State) : State := s.onThm fun t => { t with scan := s.nextScan, held := s.pwr.s2 }

theorem exec_scanStep_running (he : s.heRuns = true) (x : ScanInputs) :
    exec (.scanStep x) s = .next (if (scanControlled s x).nextScan = s.thm.scan then scanPublished (scanControlled s x)
      else logEvent (scanPublished (scanControlled s x)) 0x5001 (scanControlled s x).nextScan) := by
  simp only [exec, execScanStep, he, Bool.not_true, Bool.false_eq_true, if_false]
  rfl

/-- The interval rests on the temperatures and stage 2, which neither the interval shown nor the log moves. -/
theorem scanPublished_scan (s : State) (code d : Nat) :
    (scanPublished s).thm.scan = (scanPublished s).nextScan ∧
    (scanPublished s).thm.scan = (logEvent (scanPublished s) code d).nextScan := ⟨rfl, rfl⟩

/-! ### Returning sensors (R256) -/

/-- A sensor of a module is in use again, with its times cleared. -/
def sensorBack (n : Fin 8) (h : ThmMod) : ThmMod :=
  { h with
    excl := h.excl &&& ~~~(BitVec.ofNat 8 (2 ^ n.val))
    implaus := h.implaus &&& ~~~(BitVec.ofNat 8 (2 ^ n.val))
    retAt := h.retAt.set n none
    devAt := h.devAt.set n none }

theorem exec_sensorReturn_due (he : s.heRuns = true) (hd : s.declared c = true)
    (hx : (s.tm c m).excl.getLsbD n.val = true) (hr : (s.tm c m).retAt[n] = some t0)
    (ht : t0 + (if (s.tm c m).implaus.getLsbD n.val then secNs * s.im.plausTime else 10 * secNs) ≤ s.clock) :
    exec (.sensorReturn c m n) s = .next (logEvent (onTm s c m (sensorBack n)) 0x5004 m.val n.val) := by
  simp only [exec, execSensorReturn, he, hd, hx, hr, ht, decide_true, Bool.and_self, if_true]
  rfl

/-! ### The end of a shutdown (R262) -/

theorem releaseDue_some (ht : t0 + 60 * secNs * s.im.releaseTime ≤ s.clock) : s.releaseDue (some t0) = true :=
  decide_eq_true ht

theorem exec_coldShutdownEnd_due (he : s.heRuns = true) (hc : s.cold c = true)
    (ha : c = .a → s.thm.relColdA = some t0) (hb : c = .b → s.thm.relColdB = some t0)
    (ht : t0 + 60 * secNs * s.im.releaseTime ≤ s.clock) :
    exec (.coldShutdownEnd c) s = .next (endShutdown s c false) := by
  cases c with
  | a => simp only [exec, execColdShutdownEnd, he, hc, ha rfl, releaseDue_some ht, Bool.and_self, if_true]
  | b => simp only [exec, execColdShutdownEnd, he, hc, hb rfl, releaseDue_some ht, Bool.and_self, if_true]

theorem exec_hotReleaseReady_due (he : s.heRuns = true) (hc : s.hot c = true)
    (ha : c = .a → s.thm.relHotA = some t0) (hb : c = .b → s.thm.relHotB = some t0)
    (ht : t0 + 60 * secNs * s.im.releaseTime ≤ s.clock) :
    exec (.hotReleaseReady c) s = .next (s.onThm fun t => match c with
      | .a => { t with readyA := true }
      | .b => { t with readyB := true }) := by
  cases c with
  | a => simp only [exec, execHotReleaseReady, he, hc, ha rfl, releaseDue_some ht, Bool.and_self, if_true]
  | b => simp only [exec, execHotReleaseReady, he, hc, hb rfl, releaseDue_some ht, Bool.and_self, if_true]

/-- The end of a cold shutdown is that of its chain alone, and of no hot one. -/
theorem endShutdown_cold (s : State) (c k : ChainId) :
    (endShutdown s c false).cold k = (s.cold k && !(k == c)) ∧ (endShutdown s c false).hot k = s.hot k := by
  obtain ⟨hhot, hcold⟩ := endShutdown_shutdown s c k false
  exact ⟨hcold, hhot.trans (Bool.and_true _)⟩

/-- The end of a hot shutdown is that of its chain alone, and of no cold one. -/
theorem endShutdown_hot (s : State) (c k : ChainId) :
    (endShutdown s c true).hot k = (s.hot k && !(k == c)) ∧ (endShutdown s c true).cold k = s.cold k := by
  obtain ⟨hhot, hcold⟩ := endShutdown_shutdown s c k true
  exact ⟨hhot, hcold.trans (Bool.and_true _)⟩

/-! ### THM_CLEAR (R262, R263) -/

theorem opThmRelease_ready (hh : s.hot c = true) (ha : c = .a → s.thm.readyA = true)
    (hb : c = .b → s.thm.readyB = true) : opThmRelease c s = (endShutdown s c true, 0) := by
  cases c with
  | a => simp only [opThmRelease, hh, ha rfl, Bool.and_self, if_true]
  | b => simp only [opThmRelease, hh, hb rfl, Bool.and_self, if_true]

theorem opThmRelease_none (hh : s.hot c = false) : opThmRelease c s = (logEvent s 0x500A c.num, 4) := by
  simp only [opThmRelease, hh, Bool.false_and, Bool.false_eq_true, if_false]

/-- THM_CLEAR on another port than the service port is denied, whatever its rights. -/
theorem exec_thmClearRelease_denied (hp : s.portOpen p = true) (hs : p ≠ .service) :
    exec (.thmClearRelease p c) s = .next (answer (deny s p .clear 0x000B0078) p 2) := by
  have hop : serviceOnly s p 0x000B0078 (opThmRelease c) = (deny s p .clear 0x000B0078, 2) :=
    if_neg (by rwa [beq_iff_eq])
  exact congrArg _ (regCmd_open hp hop (same_of_drop (deny_drop (fm := 10737418240) s p .clear _ rfl) .phase rfl))

theorem opThmErase_tills (s : State) (r : TillRec) :
    r ∈ (opThmErase s).1.thm.tills ↔ r ∈ s.thm.tills ∧ s.tillInForce r = true := by
  have htills : (opThmErase s).1.thm.tills = s.thm.tills.filter fun r => !!s.tillInForce r := rfl
  rw [htills, List.mem_filter, Bool.not_not]

/-! ### Till records (R263) -/

theorem exec_tillRecordWrite_due {r : TillRec} {rs : List TillRec} (hr : s.thm.tillDue = r :: rs)
    (hf : s.nvmFree = true) : exec .tillRecordWrite s =
      .next (s.onEst fun e => { e with writing := some { kind := .till, began := s.clock, till := some r } }) := by
  simp only [exec, execTillRecordWrite, hr, hf, if_true]

end

/-- Settles O58: a scan step by how it ends, a return by the change of one module's record, the ends of shutdowns by
what `endShutdown` leaves in force, and THM_CLEAR by the two outcomes of `serviceOnly`. -/
theorem thermalScanAndShutdowns : Obligations.ThermalScanAndShutdowns := by
  unfold Obligations.ThermalScanAndShutdowns
  refine ⟨?_, ?_, ?_, ?_, ?_, ?_, ?_, ?_, ?_⟩
  · -- SCAN_STEP
    intro s x he
    refine completes_exec (exec_scanStep_running he x) ?_ (by dsimp only [execMask]; rfl)
    obtain ⟨hplain, hlogged⟩ := scanPublished_scan (scanControlled s x) 0x5001 (scanControlled s x).nextScan
    split
    · exact ⟨hplain, rfl⟩
    · exact ⟨hlogged, rfl⟩
  · -- SENSOR_RETURN
    intro s c m n t0 he hd hx hr ht
    refine completes_exec (exec_sensorReturn_due he hd hx hr ht)
      ⟨?_, fun k j hne => ?_, logged_of rfl rfl rfl rfl _ _ _ _⟩ (by dsimp only [execMask]; rfl)
    · rw [logEvent_tm, onTm_self]
      rfl
    · rw [logEvent_tm, onTm_other s _ hne]
  · -- COLD_SHUTDOWN_END
    intro s c t0 he hc ha hb ht
    exact completes_exec (exec_coldShutdownEnd_due he hc ha hb ht) (endShutdown_cold s c)
      (by dsimp only [execMask]; rfl)
  · -- HOT_RELEASE_READY
    intro s c t0 he hc ha hb ht
    refine completes_exec (exec_hotReleaseReady_due he hc ha hb ht) ?_ (by dsimp only [execMask]; rfl)
    cases c <;> rfl
  · -- THM_CLEAR_RELEASE, ready
    intro s c hg hh ha hb
    refine completes_granted (op := opThmRelease c) rfl hg (opThmRelease_ready hh ha hb)
      ⟨fun k => ?_, rfl⟩ (opThmRelease_drop c s rfl) rfl rfl
    rw [(answer_hot ..).1, (answer_hot ..).2]
    exact endShutdown_hot s c k
  · -- THM_CLEAR_RELEASE without a hot shutdown
    intro s c hg hh
    have hop := opThmRelease_none hh
    refine completes_granted (op := opThmRelease c) rfl hg hop ⟨rfl, answered_of rfl⟩ ?_ rfl rfl
    rw [hop]
    exact logEvent_drop s _ _ _ _ rfl
  · -- THM_CLEAR_RELEASE on another port
    intro s p c hp hs
    obtain ⟨hcount, haddr⟩ := deny_counted (s := s) (p := p) (addr := 0x000B0078) .clear
    exact completes_within (exec_thmClearRelease_denied hp hs) ⟨hcount, haddr, rfl⟩
      ((answer_drop _ _ _ rfl).trans (deny_drop s p .clear _ rfl))
  · -- THM_CLEAR_ERASE
    intro s hg
    exact completes_granted (op := opThmErase) rfl hg rfl
      ⟨answered_of rfl, opThmErase_tills s, (answer_evt ..).trans (logged_of rfl rfl rfl rfl _ _ _ _)⟩
      (opThmErase_drop s rfl) rfl rfl
  · -- TILL_RECORD_WRITE
    intro s r rs hr hf
    exact completes_exec (exec_tillRecordWrite_due hr hf) rfl (by dsimp only [execMask]; rfl)

end Sys2Proof.Machine
end

section
/-! SUPPORT. The scope of the model (O1, O3, O4, O5), what every step keeps of the start-up phase, the stages and the
shutdowns (O9) and of the lifecycle state (O11), and the numbering of logged events (O12). -/

set_option Elab.async false

namespace Sys2Proof.Machine

/-! ### The scope of the model (O1, O3, O4, O5) -/

/-- Settles O1: the definition of a step at a queue that is not empty. -/
theorem stepRunsTheFrontCommand : Obligations.StepRunsTheFrontCommand := by
  intro s c rest h
  rw [step, h]
  rfl

/-- Settles O3: the table spells nothing, so nothing is placed. -/
theorem noWordSpellsACommand : Obligations.NoWordSpellsACommand :=
  fun _ _ => ⟨fun c => (Option.some_ne_none c).symm, fun _ => rfl⟩

/-- Settles O5: what the reset state holds is empty. -/
theorem resetMemoryAndLogAreCanonical : Obligations.ResetMemoryAndLogAreCanonical := by
  refine ⟨⟨rfl, rfl⟩, ⟨by decide, by decide, by decide, trivial⟩, rfl, fun b a => ?_⟩
  cases b <;> rfl

/-- Settles O4: the read of each register at reset evaluates, for each of the four requesters. -/
theorem registersAtReset : Obligations.RegistersAtReset := by
  intro p
  cases p <;> decide +kernel

/-! ### Who changes the phase, the stages and the shutdowns (R262, R328, R331) -/

/-- Settles O9: a command outside a list has a mask that does not name the part. -/
theorem whoChangesTheStages : Obligations.WhoChangesTheStages := by
  refine ⟨fun c s t h => ?_, fun c s t h => ?_, fun c s t h => ?_⟩
  · cases c with
    | powerOnResetRelease | bootSlotVerifyComplete | ringReady | resetComparatorTrip | vbakOutOfRange | resetNLow
    | pwrCmdWarm | pwrCmdCold | hibernateEnter | hibWakeTimerExpiry | hibCciWake | lbusWake | engineWatchdogExpiry
    | warmResetResume | lockstepMismatch | eccUncorrectable | glueUpSwitch | glueRestartComplete | regOpExecute
    | cycleBoundary | lbusServiceRequest | enrolmentObject | svcRegReq | registerWrite => trivial
    | _ => exact same_of_exec h (by dsimp only [execMask]; rfl)
  · cases c with
    | powerOnResetRelease | vsysPlinthSample | stageRestore | resetComparatorTrip | vbakOutOfRange | resetNLow
    | pwrCmdRun | hibWakeTimerExpiry | hibCciWake | lbusWake | regOpExecute | lbusServiceRequest | svcRegReq
    | registerWrite => trivial
    | _ => exact same_of_exec h (by dsimp only [execMask]; rfl)
  · cases c with
    | powerOnResetRelease | bootSlotVerifyComplete | resetComparatorTrip | vbakOutOfRange | resetNLow | pwrCmdCold
    | hibWakeTimerExpiry | hibCciWake | lbusWake | engineWatchdogExpiry | lockstepMismatch | eccUncorrectable
    | regOpExecute | scanStep | coldShutdownEnd | thmClearRelease | lbusServiceRequest | enrolmentObject | svcRegReq
    | registerWrite => trivial
    | _ => exact same_of_exec h (by dsimp only [execMask]; rfl)

/-! ### The lifecycle state (R341) -/

/-- The lifecycle state stays, or is one further in the order of Table 15.1. -/
def LifeForward (s t : State) : Prop :=
  t.sec.life = s.sec.life ∨ (s.sec.life = 1 ∧ t.sec.life = 2) ∨ (s.sec.life = 2 ∧ t.sec.life = 3)

theorem LifeStep.forward {s t : State} (h : LifeStep s t) : LifeForward s t := h.imp_right .inl

theorem opStageBegin_life (p : Requester) (n : Nat) (s : State) : LifeStep s (opStageBegin p n s).1 :=
  .inl (same_of_drop (m := 8589934672) (opStageBegin_drop p n s rfl) .life rfl)

/-- A register operation of whatever kind, at whatever address, steps to FIELD at most. -/
theorem regOperate_life (s : State) (p : Requester) (op : Nat) (addr v : Word) :
    LifeStep s (regOperate s p op addr v).1 :=
  regOperate_carried lifeStep_carried opStageBegin_life opStepField_life s p op addr v

theorem execRegisterWrite_life (p : Requester) (addr v : Word) (s : State) :
    LifeStep s (resState (execRegisterWrite p addr v s) s) :=
  lifeStep_carried.regCmd (fun t => regWrite_carried lifeStep_carried opStageBegin_life opStepField_life t p addr v) s p

/-- Every command keeps the order: one that may step the lifecycle state has its own lemma, and the mask of any other
does not name it. -/
theorem exec_lifeForward (c : Instr) (s : State) : LifeForward s (resState (exec c s) s) := by
  cases c with
  | secCmdStepField p => exact (execSecCmdStepField_life p s).forward
  | enrolmentObject o => exact (execEnrolmentObject_life o s).imp_right .inr
  | regOpExecute => exact (execRegOpExecute_carried lifeStep_carried regOperate_life s).forward
  | svcRegReq seq ops => exact (execSvcRegReq_carried lifeStep_carried regOperate_life seq ops s).forward
  | lbusServiceRequest => exact (execLbusServiceRequest_carried lifeStep_carried regOperate_life s).forward
  | registerWrite p addr v => exact (execRegisterWrite_life p addr v s).forward
  | _ => exact .inl (same_of_drop (exec_drop _ s) .life (by dsimp only [execMask]; rfl))

/-- SEC_STATUS shows the lifecycle state in its lowest bits, below fields that begin at bit 3. -/
theorem readReg_secStatus {s : State} {p : Requester} (ho : s.outOfReset = true) (hl : s.dev.serialLoaded = true)
    (h : s.sec.life ≤ 3) : ∃ v, readReg s p 0x00100000 = some v ∧ v.toNat % 8 = s.sec.life := by
  refine ⟨_, rfl, ?_⟩
  simp only [State.afterHeld, State.loaded, ho, hl, if_true, pk, List.foldl_cons, List.foldl_nil,
    BitVec.toNat_ofNat]
  omega

/-- Settles O11: a tick leaves the lifecycle state, and a command keeps its order. -/
theorem lifecycleIsOneWay : Obligations.LifecycleIsOneWay := by
  refine ⟨fun s t h => ?_, fun s p ho hl h => readReg_secStatus ho hl h⟩
  unfold step at h
  split at h
  next =>
    cases h
    exact .inl rfl
  next c rest _ =>
    have ht : LifeForward (s.withPending rest) (resState (exec c (s.withPending rest)) (s.withPending rest)) :=
      exec_lifeForward c _
    rwa [h, resState_next] at ht

/-! ### The event buffer (R369, R370, R30, R38) -/

/-- The event buffer is in order. -/
def Evt.ok (e : Evt) : Prop :=
  e.newest < 2 ^ 32 ∧ e.sram.length ≤ 1024 ∧ e.pending ≤ e.sram.length ∧ seqFrom e.newest e.sram

theorem seqFrom_take : ∀ (k n : Nat) (l : List Event), seqFrom n l → seqFrom n (l.take k)
  | 0, _, _, _ => trivial
  | _ + 1, _, [], _ => trivial
  | k + 1, _, _ :: l, h => ⟨h.1, seqFrom_take k _ l h.2⟩

theorem Evt.log_room {e : Evt} (h : e.pending < 1024) (x : Event) : e.log x = { e with
    newest := (e.newest + 1) % 2 ^ 32
    sram := ({ x with seq := (e.newest + 1) % 2 ^ 32 } :: e.sram).take 1024
    pending := e.pending + 1
    lastCode := x.code } := if_neg (Nat.not_le.2 h)

theorem Evt.log_full {e : Evt} (h : 1024 ≤ e.pending) (x : Event) : e.log x = { e with lost := bump 16 e.lost } :=
  if_pos h

theorem Evt.log_ok {e : Evt} (h : e.ok) (x : Event) : (e.log x).ok := by
  obtain ⟨hn, hl, hp, hs⟩ := h
  rcases Nat.lt_or_ge e.pending 1024 with hroom | hfull
  · rw [Evt.log_room hroom]
    have hprev : ((e.newest + 1) % 2 ^ 32 + 2 ^ 32 - 1) % 2 ^ 32 = e.newest := by omega
    refine ⟨Nat.mod_lt _ (by decide), List.length_take_le _ _, ?_, seqFrom_take _ _ _ ⟨rfl, ?_⟩⟩
    · simp only [List.length_take, List.length_cons]
      omega
    · rwa [hprev]
  · rw [Evt.log_full hfull]
    exact ⟨hn, hl, hp, hs⟩

/-- No uncopied entry is overwritten. -/
theorem Evt.log_keeps_pending (e : Evt) (x : Event) : ∀ y ∈ e.sram.take e.pending, y ∈ (e.log x).sram := by
  intro y hy
  rcases Nat.lt_or_ge e.pending 1024 with hroom | hfull
  · rw [Evt.log_room hroom, List.take_succ_cons]
    exact List.mem_cons_of_mem _ (List.take_subset_take_left _ (by omega) hy)
  · rw [Evt.log_full hfull]
    exact List.mem_of_mem_take hy

theorem Evt.wait_room {e : Evt} (h : e.hwQ.length < 32) (x : Event) : e.wait x = { e with hwQ := x :: e.hwQ } := if_pos h

theorem Evt.wait_full {e : Evt} (h : 32 ≤ e.hwQ.length) (x : Event) :
    e.wait x = { e with hwFull := true, hwFullAt := some x.at_, hwLost := bump 16 e.hwLost } := if_neg (Nat.not_lt.2 h)

/-- An entry that waits leaves the buffer as it is. -/
theorem Evt.wait_buffer (e : Evt) (x : Event) : (e.wait x).newest = e.newest ∧ (e.wait x).sram = e.sram ∧
    (e.wait x).pending = e.pending := by
  unfold Evt.wait
  split <;> exact ⟨rfl, rfl, rfl⟩

theorem Evt.raise_ok {e : Evt} (h : e.ok) (waits : Bool) (x : Event) : (e.raise waits x).ok := by
  cases waits
  · exact Evt.log_ok h x
  · obtain ⟨hn, hs, hp⟩ := Evt.wait_buffer e x
    show (e.wait x).ok
    unfold Evt.ok
    rwa [hn, hs, hp]

theorem Evt.raise_keeps_pending (e : Evt) (waits : Bool) (x : Event) :
    ∀ y ∈ e.sram.take e.pending, y ∈ (e.raise waits x).sram := by
  cases waits
  · exact Evt.log_keeps_pending e x
  · intro y hy
    show y ∈ (e.wait x).sram
    rw [(Evt.wait_buffer e x).2.1]
    exact List.mem_of_mem_take hy

/-- The entries of a queue are logged at a clock, the oldest, which stands last, first. -/
def Evt.logAll (e : Evt) (now : Nat) (q : List Event) : Evt := q.foldr (fun x e => e.log { x with at_ := now }) e

theorem takeHwEvents_evt (s : State) : (takeHwEvents s).evt = { s.evt.logAll s.clock s.evt.hwQ with hwQ := [] } := by
  have hfold : ∀ q : List Event, (q.reverse.foldl takeHwEvent s).evt = s.evt.logAll s.clock q := by
    intro q
    induction q with
    | nil => rfl
    | cons x q ih =>
      have hclock : (q.reverse.foldl takeHwEvent s).clock = s.clock := foldl_keep State.clock (f := takeHwEvent) (fun _ _ => rfl) _ s
      rw [List.reverse_cons, List.foldl_append]
      show ((q.reverse.foldl takeHwEvent s).evt.log { x with at_ := (q.reverse.foldl takeHwEvent s).clock }) = _
      rw [ih, hclock]
      rfl
  rw [takeHwEvents, State.onEvt_evt, hfold]

theorem Evt.logAll_ok {e : Evt} (h : e.ok) (now : Nat) (q : List Event) : (e.logAll now q).ok := by
  induction q with
  | nil => exact h
  | cons x q ih => exact Evt.log_ok ih _

/-- What an entry says, without its number and the clock at which it was logged. -/
def Event.says (x : Event) : BitVec 64 × Nat × Nat × Nat × Nat := (x.time, x.code, x.d1, x.d2, x.d3)

/-- With room for all of them, the entries stand before those of the buffer in their order. -/
theorem Evt.logAll_room {e : Evt} (hl : e.sram.length ≤ 1024) (now : Nat) (q : List Event)
    (h : e.pending + q.length ≤ 1024) : (e.logAll now q).pending = e.pending + q.length ∧
    (e.logAll now q).sram.map Event.says = ((q ++ e.sram).take 1024).map Event.says := by
  induction q with
  | nil => exact ⟨rfl, by rw [List.nil_append, List.take_of_length_le hl]; rfl⟩
  | cons x q ih =>
    rw [List.length_cons] at h
    obtain ⟨hp, hs⟩ := ih (by omega)
    show ((e.logAll now q).log _).pending = _ ∧ ((e.logAll now q).log _).sram.map _ = _
    rw [Evt.log_room (by omega)]
    refine ⟨congrArg (· + 1) hp, ?_⟩
    show ((_ :: (e.logAll now q).sram).take 1024).map Event.says = _
    rw [List.map_take, List.map_cons, hs, List.map_take, List.cons_append, List.map_take, List.map_cons,
      List.take_succ_cons, List.take_succ_cons, List.take_take]
    rfl

/-- Settles O12: an entry by what `Evt.raise` does with it, the waiting ones by `Evt.logAll`. -/
theorem loggedEventsAreNumbered : Obligations.LoggedEventsAreNumbered := by
  intro s code d1 d2 d3 hok
  have hevt (w : Bool) (hw : (hwEvent code && s.evtWaits) = w) : (logEvent s code d1 d2 d3).evt =
      s.evt.raise w ⟨0, eventTime s, code, d1 % 65536, d2 % 65536, d3 % 65536, s.clock⟩ := by
    rw [← hw]
    rfl
  refine ⟨Evt.raise_ok hok _ _, fun hw => ⟨fun hp => ?_, fun hp => ?_⟩, fun hw => ⟨fun hq => ?_, fun hq => ?_⟩,
    Evt.raise_keeps_pending _ _ _, ?_, ?_, fun hroom => ?_⟩
  · rw [hevt _ hw]
    exact Evt.log_room hp _
  · rw [hevt _ hw]
    exact Evt.log_full hp _
  · rw [hevt _ hw]
    exact Evt.wait_room hq _
  · rw [hevt _ hw]
    exact Evt.wait_full hq _
  · unfold State.logOk
    rw [takeHwEvents_evt]
    exact Evt.logAll_ok hok _ _
  · rw [takeHwEvents_evt]
  · rw [takeHwEvents_evt]
    exact Evt.logAll_room hok.2.1 _ _ hroom

end Sys2Proof.Machine
end

section
/-! SUPPORT. The hand-over of the ownership token between the members of a pair (O26). -/

set_option Elab.async false

namespace Sys2Proof.Machine

section
variable {s : State} {t0 : Nat}

/-! ### The hand-over commanded (R284) -/

theorem opHandover_starts (h : s.canHandOver = true) : opHandover s = (startHandover s, 0) := if_pos h

theorem opHandover_refused (h : s.canHandOver = false) : opHandover s = (s, 4) := if_neg (by rw [h]; decide)

/-! ### The give and the acknowledge (R284) -/

theorem exec_tokenGiveRx_taken (g tH : Nat) (hs : s.simplex = false) (hu : s.dvt.up = true)
    (ho : s.arm.owner = false) (hc : s.arm.roleClash = false) (hp : s.dev.phase = .ready) :
    exec (.tokenGiveRx g tH) s =
      .next (tryAck (s.onDvt fun d => { d with giveAt := some tH, giveGen := g, ackOwed := true, acked := false })) := by
  simp [exec, execTokenGiveRx, hs, hu, ho, hc, hp]

theorem tryAck_waits (h : s.dvt.mirror = none) : tryAck s = s := by rw [tryAck, h]

/-- Agreement with the mirror rests on no field of the hand-over. -/
theorem tryAck_agreed {m : Mirror} (hm : s.dvt.mirror = some m) (ho : s.arm.owner = false)
    (hh : s.dvt.healthy = true) (hu : s.dvt.up = true) (hw : s.dvt.ackOwed = true) (ha : s.agrees m = true) :
    tryAck s = send (s.onDvt fun d => { d with ackOwed := false }) (.tokenAck s.dvt.giveGen) := by
  simp [tryAck, hm, ho, hh, hu, hw, ha]

theorem exec_tokenAckRx_giving {g : Nat} (ho : s.arm.owner = true) (hg : s.dvt.giveAt = some t0) (hu : s.dvt.up = true)
    (he : g = s.dvt.giveGen) : exec (.tokenAckRx g) s = .next (s.onDvt fun d => { d with acked := true }) := by
  simp [exec, execTokenAckRx, State.giving, ho, hg, hu, he]

/-! ### The switch and the time-out (R142, R284) -/

/-- The hand-over counts, with the generation that the new holder has. -/
def handoverCounted (s : State) (g : Nat) : State :=
  logEvent (s.onDvt fun d => { d with gen := g, cntHand := bump 8 d.cntHand }) 0xD003 g

theorem handoverCounted_effect (s : State) (g : Nat) : (handoverCounted s g).arm = s.arm ∧
    (handoverCounted s g).dvt = { s.dvt with gen := g, cntHand := bump 8 s.dvt.cntHand } := ⟨rfl, rfl⟩

theorem exec_handoverSwitch_gives (hg : s.dvt.giveAt = some t0) (ht : t0 ≤ s.tim.time) (ho : s.arm.owner = true)
    (ha : s.dvt.acked = true) :
    exec .handoverSwitch s = .next (handoverCounted (dropToken s .tracking) s.dvt.giveGen) := by
  simp only [exec, execHandoverSwitch, hg, not_lt.2 ht, ho, ha, if_true, if_false]
  rfl

theorem exec_handoverSwitch_takes (hg : s.dvt.giveAt = some t0) (ht : t0 ≤ s.tim.time) (ho : s.arm.owner = false)
    (ha : s.dvt.ackOwed = false) :
    exec .handoverSwitch s = .next (handoverCounted (assumeToken s s.dvt.giveGen) s.dvt.giveGen) := by
  simp only [exec, execHandoverSwitch, hg, not_lt.2 ht, ho, ha, Bool.false_eq_true, if_false]
  rfl

theorem exec_handoverAckTimeout_late (hg : s.dvt.giveAt = some t0) (ho : s.arm.owner = true)
    (ha : s.dvt.acked = false) (ht : t0 ≤ s.tim.time + 20 * usNs) :
    exec .handoverAckTimeout s = .next (cancelHandover s) := by
  simp only [exec, execHandoverAckTimeout, hg, ho, ha, ht, Bool.not_false, decide_true, Bool.and_self, if_true]

end

/-- Settles O26: the command by its two outcomes, a give by whether the state agrees with the mirror, and the switch by
what `dropToken` and `assumeToken` leave. -/
theorem tokenHandOver : Obligations.TokenHandOver := by
  refine ⟨?_, ?_, ?_, ?_, ?_, ?_, ?_, ?_⟩
  · -- DVT_CMD_HANDOVER
    intro s p hg hc
    exact completes_granted rfl hg (opHandover_starts hc) ⟨rfl, rfl⟩
      (by rw [opHandover_starts hc]; exact (send_drop _ _ rfl).trans (State.onDvt_drop rfl)) rfl rfl
  · -- DVT_CMD_HANDOVER, refused
    intro s p hg hc
    exact completes_unchanged rfl hg (opHandover_refused hc)
  · -- TOKEN_GIVE_RX before a mirror has come
    intro s g tH hs hu ho hc hp hm
    have hx := exec_tokenGiveRx_taken g tH hs hu ho hc hp
    rw [tryAck_waits (by exact hm)] at hx
    exact completes_within hx rfl (State.onDvt_drop rfl)
  · -- TOKEN_GIVE_RX in agreement with the mirror
    intro s g tH m hs hu ho hc hp hm hh ha
    have hx := exec_tokenGiveRx_taken g tH hs hu ho hc hp
    rw [tryAck_agreed (m := m) (by exact hm) (by exact ho) (by exact hh) (by exact hu) rfl (by exact ha)] at hx
    exact completes_within hx ⟨rfl, rfl⟩ ((send_drop _ _ rfl).trans ((State.onDvt_drop rfl).trans (State.onDvt_drop rfl)))
  · -- TOKEN_ACK_RX
    intro s g t0 ho hg hu he
    exact completes_within (exec_tokenAckRx_giving ho hg hu he) rfl (State.onDvt_drop rfl)
  · -- HANDOVER_SWITCH at the giver
    intro s t0 hg ht ho ha
    obtain ⟨harm, hdvt, -⟩ := dropToken_effect s .tracking
    obtain ⟨harm', hdvt'⟩ := handoverCounted_effect (dropToken s .tracking) s.dvt.giveGen
    rw [hdvt] at hdvt'
    refine completes_exec (exec_handoverSwitch_gives hg ht ho ha) ⟨harm'.trans harm, ?_, ?_, ?_, ?_⟩
      (by dsimp only [execMask]; rfl)
    all_goals rw [hdvt']
  · -- HANDOVER_SWITCH at the taker
    intro s t0 hg ht ho ha
    obtain ⟨harm, hdvt, -⟩ := assumeToken_effect s s.dvt.giveGen
    obtain ⟨harm', hdvt'⟩ := handoverCounted_effect (assumeToken s s.dvt.giveGen) s.dvt.giveGen
    rw [hdvt] at hdvt'
    refine completes_exec (exec_handoverSwitch_takes hg ht ho ha) ⟨harm'.trans harm, ?_, ?_, ?_, ?_⟩
      (by dsimp only [execMask]; rfl)
    all_goals rw [hdvt']
  · -- HANDOVER_ACK_TIMEOUT
    intro s t0 hg ho ha ht
    exact completes_exec (exec_handoverAckTimeout_late hg ho ha ht) ⟨rfl, logged_of rfl rfl rfl rfl _ _ _ _⟩ rfl

end Sys2Proof.Machine
end

section
/-! SUPPORT. Protection: comparators, trip pins and the station's bypass request (O38), releases, clears, assessments and the
opening after a lost measurement (O39). -/

set_option Elab.async false

namespace Sys2Proof.Machine

section
variable {s : State} {n : Fin 8} {input : BitVec 16} {t0 : Nat}

/-! ### Comparators (R266, R270, R396) -/

theorem exec_comparatorCrossing_counts {lasted : Nat} (hp : s.planeRuns = true)
    (hx : cmpCrossed s.im.str.cmps[n] input = true) (hl : 10 * s.im.str.cmps[n].deglitch ≤ lasted)
    (hc : s.prt.cmp.getLsbD n.val = false) : exec (.comparatorCrossing n input lasted) s =
      .next (sourceUp (s.onPrt fun p => { p with cmp := p.cmp ||| BitVec.ofNat 8 (2 ^ n.val) }) n.val) := by
  simp only [exec, execComparatorCrossing, hp, hx, hc, not_lt.2 hl, Bool.not_true, Bool.or_self,
    decide_false, Bool.false_eq_true, if_false]

theorem exec_comparatorReturn_back (hc : s.prt.cmp.getLsbD n.val = true)
    (hr : cmpReturned s.im.str.cmps[n] input = true) : exec (.comparatorReturn n input) s =
      .next (sourceDown (s.onPrt fun p => { p with cmp := p.cmp &&& ~~~(BitVec.ofNat 8 (2 ^ n.val)) }) n.val) := by
  simp only [exec, execComparatorReturn, hc, hr, Bool.and_self, if_true]

/-- An entry once its source has fallen: its release time begins, where it is latched and has not begun. -/
def State.releasing (s : State) (src : Nat) (e : Fin 64) : EntryRec :=
  if (s.reaction e).source == src && s.prt.entries[e].latched && s.prt.entries[e].inactSince.isNone then
    { s.prt.entries[e] with inactSince := some s.clock }
  else s.prt.entries[e]

theorem sourceDown_entries (s : State) (src : Nat) (e : Fin 64) :
    (sourceDown s src).prt.entries[e] = s.releasing src e := by
  simp only [sourceDown, State.onPrt_prt, Fin.getElem_fin, Vector.getElem_ofFn]
  rfl

/-! ### The trip pins (R278, R280, R396) -/

/-- An external trip asserted: it is counted, and with no trip of the device's own its escalation waits 20 µs. -/
def tripInNoted (s : State) : State :=
  (s.onDev fun d => { d with tripInLow := true }).onPrt fun p => { p with
    cntTripIn := bump 8 p.cntTripIn
    tripCountDue := if s.prt.tripOut then p.tripCountDue else some (s.clock + 20 * usNs) }

theorem exec_tripInAssert_high (h : s.dev.tripInLow = false) (hp : s.planeRuns = true) :
    exec .tripInAssert s = .next (sourceUp (tripInNoted s) 8 false) := by
  simp only [exec, execTripInAssert, h, Bool.false_eq_true, if_false]
  exact if_neg (by rw [hp]; decide)

theorem exec_tripInRelease_low (h : s.dev.tripInLow = true) :
    exec .tripInRelease s = .next (sourceDown (s.onDev fun d => { d with tripInLow := false }) 8) := by
  simp only [exec, execTripInRelease, h, if_true]

theorem exec_tripInCountWaitExpiry_tracking (hd : s.prt.tripCountDue = some t0) (ht : t0 ≤ s.clock)
    (ho : s.arm.owner = false) :
    exec .tripInCountWaitExpiry s = .next (s.onPrt fun p => { p with tripCountDue := none }) := by
  simp only [exec, execTripInCountWaitExpiry, hd, not_lt.2 ht, ho, Bool.not_false, Bool.true_or, if_true, if_false]

/-- Entries of source 0x08 that fired at the trip whose wait ends. -/
def State.tripFired (s : State) (t : Nat) (e : Fin 64) : Bool :=
  s.hasEntry e && (s.reaction e).source == 8 && (match s.prt.entries[e].firedAt with
    | none => false
    | some f => f + 20 * usNs == t)

theorem exec_tripInCountWaitExpiry_owner (hd : s.prt.tripCountDue = some t0) (ht : t0 ≤ s.clock)
    (ho : s.arm.owner = true) {es : List (Fin 64)} (hes : (List.finRange 64).filter (s.tripFired t0) = es)
    (hne : es.isEmpty = false) : exec .tripInCountWaitExpiry s =
      .next (es.foldl countFiring (logEvent (s.onPrt fun p => { p with tripCountDue := none }) 0x1016)) := by
  simp only [exec, execTripInCountWaitExpiry, hd, not_lt.2 ht, ho, Bool.not_true, Bool.false_or, if_false]
  change (if ((List.finRange 64).filter (s.tripFired t0)).isEmpty = true then _ else
    Host.Outcome.next (((List.finRange 64).filter (s.tripFired t0)).foldl _ _)) = _
  rw [hes]
  exact if_neg (by rw [hne]; decide)

/-- A filter that one member of a list without duplicates passes. -/
theorem filter_only {α : Type} [DecidableEq α] {l : List α} {a : α} {p : α → Bool} (hl : l.Nodup) (ha : a ∈ l)
    (hp : p a = true) (ho : ∀ b, b ≠ a → p b = false) : l.filter p = [a] := by
  have hpa : p = fun b => b == a := by
    funext b
    by_cases hb : b = a
    · rw [hb, hp, beq_self_eq_true]
    · rw [ho b hb, beq_eq_false_iff_ne.2 hb]
  rw [hpa, List.filter_beq, List.count_eq_one_of_mem hl ha]
  rfl

/-- The one entry that fired by an external trip is the one that is counted. -/
theorem tripFired_only {e : Fin 64} (hh : s.hasEntry e = true) (hs : (s.reaction e).source = 8)
    (hf : s.prt.entries[e].firedAt = some (t0 - 20 * usNs)) (ht : 20 * usNs ≤ t0)
    (hk : ∀ k : Fin 64, k ≠ e → s.prt.entries[k].firedAt = none) :
    (List.finRange 64).filter (s.tripFired t0) = [e] := by
  refine filter_only (List.nodup_finRange 64) (List.mem_finRange e) ?_ fun k hke => ?_
  · simp only [State.tripFired, hh, hs, hf, Nat.sub_add_cancel ht, beq_self_eq_true, Bool.and_self]
  · simp only [State.tripFired, hk k hke, Bool.and_false]

theorem countFiring_times (s : State) (e : Fin 64) : (countFiring s e).prt.entries[e].times =
    s.clock :: inWindow (s.reaction e) s.clock s.prt.entries[e].times := by
  simp only [countFiring, State.onPrt_prt, Fin.getElem_fin, Vector.getElem_set_self]

theorem exec_tripOutRelease_free (ht : s.prt.tripOut = true) (ha : s.prt.tripOutAt + 10 * usNs ≤ s.clock)
    (hh : s.tripHeld = false) :
    exec .tripOutRelease s = .next (s.onPrt fun p => { p with tripOut := false, tripBy := [] }) := by
  simp only [exec, execTripOutRelease, ht, ha, hh, Bool.not_false, decide_true, Bool.and_self, if_true]

/-! ### The station's bypass request (R288) -/

/-- A bypass request noted: event 0x1017, and source 0x28 for one assessment. -/
def bypassAsked (s : State) (p : Requester) : State := raiseEvent (logEvent s 0x1017 p.num) 0x28

theorem opBypassReq_owner {p : Requester} (hb : s.arm.bypassed = false) (ho : s.arm.owner = true) :
    opBypassReq p 0x0000B501 s = (decideBypass (bypassAsked s p) 0x28 none, 0) := by
  have hok : (!(0x0000B501 : Word).getLsbD 0 || ((0x0000B501 : Word) >>> 8) &&& 0xFF != 0xB5) = false := by decide
  simp only [opBypassReq, hok, hb, ho, Bool.false_eq_true, if_false, if_true]
  rfl

theorem opBypassReq_tracking {p : Requester} (hb : s.arm.bypassed = false) (ho : s.arm.owner = false) :
    opBypassReq p 0x0000B501 s = ((bypassAsked s p).onPrt fun x => { x with bypReqFwd := true }, 0) := by
  have hok : (!(0x0000B501 : Word).getLsbD 0 || ((0x0000B501 : Word) >>> 8) &&& 0xFF != 0xB5) = false := by decide
  simp only [opBypassReq, hok, hb, ho, Bool.false_eq_true, if_false]
  rfl

theorem opBypassReq_unset {p : Requester} {v : Word} (h : v.getLsbD 0 = false) : opBypassReq p v s = (s, 7) := by
  simp only [opBypassReq, h, Bool.not_false, Bool.true_or, if_true]

end

/-- Settles O38: a source that rises by what `sourceUp_fires` gives of its entries, one that falls by
`sourceDown_entries`, the trip pins by their equations, and a bypass request by who holds the token. -/
theorem protectionSources : Obligations.ProtectionSources := by
  refine ⟨?_, ?_, ?_, ?_, ?_, ?_, ?_, ?_, ?_, ?_⟩
  · -- COMPARATOR_CROSSING
    intro s n input lasted hp hx hl hc
    obtain ⟨hfired, hcmp⟩ := sourceUp_fires
      (s.onPrt fun p => { p with cmp := p.cmp ||| BitVec.ofNat 8 (2 ^ n.val) }) n.val true
    exact completes_exec (exec_comparatorCrossing_counts hp hx hl hc) ⟨hcmp, hfired⟩ (by dsimp only [execMask]; rfl)
  · -- TRIP_IN_ASSERT
    intro s h hp
    obtain ⟨hfired, -⟩ := sourceUp_fires (tripInNoted s) 8 false
    exact completes_exec (exec_tripInAssert_high h hp) ⟨sourceUp_dev _ _ _, hfired⟩ (by dsimp only [execMask]; rfl)
  · -- PRT_BYPASS_REQ at the owner
    intro s p hg hb ho
    exact completes_granted rfl hg (opBypassReq_owner hb ho)
      ⟨(congrArg Arm.bypassed (answer_arm ..)).trans (decideBypass_bypassed _ _ _), rfl⟩ (opBypassReq_drop p _ s rfl) rfl rfl
  · -- PRT_BYPASS_REQ at the tracking member
    intro s p hg hb ho
    exact completes_granted rfl hg (opBypassReq_tracking hb ho) ⟨rfl, rfl⟩ (opBypassReq_drop p _ s rfl) rfl rfl
  · -- PRT_BYPASS_REQ without its bit
    intro s p v hg hv
    exact completes_unchanged rfl hg (opBypassReq_unset hv)
  · -- COMPARATOR_RETURN
    intro s n input hc hr
    exact completes_exec (exec_comparatorReturn_back hc hr) ⟨rfl, sourceDown_entries _ _⟩
      (by dsimp only [execMask]; rfl)
  · -- TRIP_IN_RELEASE
    intro s h
    exact completes_exec (exec_tripInRelease_low h) ⟨rfl, sourceDown_entries _ _⟩ rfl
  · -- TRIP_IN_COUNT_WAIT_EXPIRY at the tracking member
    intro s t0 hd ht ho
    exact completes_within (exec_tripInCountWaitExpiry_tracking hd ht ho) rfl
      (State.onPrt_drop rfl (.inr fun _ => rfl) (.inr fun _ => rfl))
  · -- TRIP_IN_COUNT_WAIT_EXPIRY at the owner
    intro s t0 e hd ht ho hh hs hf h20 hk
    refine completes_exec (exec_tripInCountWaitExpiry_owner hd ht ho (tripFired_only hh hs hf h20 hk) rfl)
      ⟨rfl, countFiring_times _ e, ?_⟩ rfl
    exact (countFiring_evt _ e).trans (logged_of (s := s) rfl rfl rfl rfl 0x1016 0 0 0)
  · -- TRIP_OUT_RELEASE
    intro s ht ha hh
    exact completes_exec (exec_tripOutRelease_free ht ha hh) rfl rfl

section
variable {s : State} {e : Fin 64} {t0 : Nat}

theorem answer_head (s : State) (p : Requester) (code : Nat) :
    (answer s p code).outbox.head? = some (.status p code) := rfl

/-! ### Release and clearing (R271, R272) -/

theorem exec_reactionAutoRelease_due (hi : s.prt.entries[e].inactSince = some t0) (hh : s.hasEntry e = true)
    (hr : (s.reaction e).recover = 1) (hl : s.prt.entries[e].latched = true)
    (ha : s.sourceActive (s.reaction e).source = false) (ht : t0 + msNs * (s.reaction e).release ≤ s.clock) :
    exec (.reactionAutoRelease e) s = .next (releaseEntry s e) := by
  simp only [exec, execReactionAutoRelease, hi, hh, hr, hl, ha, ht, beq_self_eq_true, Bool.not_false, decide_true,
    Bool.and_self, if_true]

/-- A latched entry that is released keeps its counts, and every other entry keeps all it has. -/
theorem releaseEntry_at (hl : s.prt.entries[e].latched = true) (k : Fin 64) : (releaseEntry s e).prt.entries[k] =
    if k = e then { s.prt.entries[e] with latched := false, inactSince := none } else s.prt.entries[k] := by
  rw [releaseEntry_entries s e hl]
  simp only [Fin.getElem_fin, Vector.getElem_set, Fin.val_inj, eq_comm (a := e)]

theorem opPrtClearEntry_active (hh : s.hasEntry e = true) (ha : s.sourceActive (s.reaction e).source = true) :
    opPrtClearEntry e s = (logEvent s 0x1015 e.val, 4) := by
  simp only [opPrtClearEntry, hh, ha, Bool.and_self, if_true]

theorem opPrtClearEntry_free (h : (s.hasEntry e && s.sourceActive (s.reaction e).source) = false) :
    opPrtClearEntry e s = (clearEntry s e, 0) := by
  simp only [opPrtClearEntry, h, Bool.false_eq_true, if_false]

theorem opPrtClearAll_free (h : ∀ n : Fin 64, (s.hasEntry n && s.sourceActive (s.reaction n).source) = false) :
    opPrtClearAll s = ((List.finRange 64).foldl clearEntry s, 0) := by
  have hany : ((List.finRange 64).any fun _ => false) = false := by decide
  simp only [opPrtClearAll, h, Bool.false_eq_true, if_false, hany]

/-- Every entry of a table whose sources are all active is kept, each with an event. -/
theorem opPrtClearAll_active (h : ∀ n : Fin 64, (s.hasEntry n && s.sourceActive (s.reaction n).source) = true) :
    opPrtClearAll s = ((List.finRange 64).foldl (fun t n => logEvent t 0x1015 n.val) s, 4) := by
  have hany : ((List.finRange 64).any fun _ => true) = true := by decide
  simp only [opPrtClearAll, h, if_true, hany]

/-! ### An assessment (R270, R273, R396) -/

/-- Source 0x10 ends once no status that raised it stands on a switch. -/
def faultSettled (s : State) : State :=
  if s.prt.active.contains 0x10 && !s.switchFault then endHeld s 0x10 else s

theorem faultSettled_drop {fm : Nat} (s : State) (hfm : fm &&& 1099528404992 = 1099528404992) :
    (faultSettled s).drop fm = s.drop fm := by
  unfold faultSettled
  split
  · exact endHeld_drop s 0x10 hfm
  · rfl

theorem faultSettled_dev (s : State) : (faultSettled s).dev = s.dev :=
  same_of_drop (m := 1099528404992) (faultSettled_drop s rfl) .dev rfl

theorem faultSettled_pulsed (s : State) : (faultSettled s).prt.pulsed = s.prt.pulsed := by
  unfold faultSettled
  split
  · exact endHeld_pulsed s 0x10
  · rfl

/-- What an assessment does once the pulses of the last one have ended. -/
def assessed (s : State) : State :=
  if (faultSettled s).dev.phase != .ready then carryOut (faultSettled s)
  else refreshBridge (carryOut (assessLegs (assessRef (assessCap ((faultSettled s).forChains assessChain)))))

theorem exec_peAssessment_runs {v : Option Nat} {i : Option Int} (hp : s.peRuns = true) (ho : s.outOfReset = true) :
    exec (.peAssessment v i) s =
      .next (assessed (endPulses (s.onMeas fun m => { m with vCap := v, iTerm := i }))) := by
  simp only [exec, execPeAssessment, hp, ho, Bool.not_true, Bool.or_self, Bool.false_eq_true, if_false]
  exact (apply_ite Host.Outcome.next ..).symm

theorem endPulses_keeps (s : State) : (endPulses s).dev = s.dev ∧ (endPulses s).meas = s.meas ∧
    (endPulses s).prt.pulsed = [] := by
  have hdrop := endPulses_drop (fm := 1099528404992) s rfl
  exact ⟨same_of_drop hdrop .dev rfl, same_of_drop hdrop .meas rfl, (foldl_sourceDown_raised _ _).1⟩

theorem assessRef_pulsed (s : State) : (assessRef s).prt.pulsed = s.prt.pulsed :=
  (same_of_drop (m := 5098253037568) (assessRef_drop s rfl) .raised rfl).2

theorem assessLegs_pulsed (s : State) : (assessLegs s).prt.pulsed = s.prt.pulsed :=
  (same_of_drop (m := 4960780546048) (assessLegs_drop s rfl) .raised rfl).2

/-- An assessment raises no source for one assessment only. -/
theorem assessed_pulsed (s : State) : (assessed s).prt.pulsed = s.prt.pulsed := by
  unfold assessed
  split
  · rw [carryOut_prt_pulsed, faultSettled_pulsed]
  · rw [refreshBridge_prt, carryOut_prt_pulsed, assessLegs_pulsed, assessRef_pulsed, (assess_pulsed _).2,
      forChains_keep (fun x => x.prt.pulsed) (fun t c => (assess_pulsed t).1 c), faultSettled_pulsed]

theorem assessed_meas (s : State) : (assessed s).meas = s.meas := by
  refine same_of_drop (m := 6197764681728) ?_ .meas rfl
  unfold assessed
  split
  · rw [carryOut_drop _ rfl, faultSettled_drop s rfl]
  · rw [refreshBridge_drop _ rfl, carryOut_drop _ rfl, assessLegs_drop _ rfl, assessRef_drop _ rfl, assessCap_drop _ rfl,
      State.forChains_drop (fun t c => assessChain_drop t c rfl), faultSettled_drop s rfl]

/-- From ring-ready on every link carries the word that the state asks for. -/
theorem assessed_wordsFollow (hp : s.dev.phase = .ready) : (assessed s).wordsFollow := by
  rw [assessed, if_neg (by rw [faultSettled_dev, hp]; decide)]
  exact refreshBridge_word _

/-! ### The opening after a lost measurement (R273) -/

/-- A chain that runs is driven to zero, to open then. -/
theorem requestOpen_running {c : ChainId} (hd : s.declared c = true) (hr : (s.chain c).st = .run) :
    ((requestOpen s c).chain c).st = .zeroing ∧ ((requestOpen s c).chain c).iRef = some 0 ∧
      ((requestOpen s c).chain c).openAfter = true := by
  obtain ⟨hst, href, hopen, -⟩ := protectiveZero_chain (s.onChain c fun ch => { ch with openReq := true }) c true
  simp only [requestOpen, hd, hr, Bool.not_true, Bool.false_eq_true, if_false]
  exact ⟨hst, href, hopen rfl⟩

/-- The clock since which a chain has lost its measurement. -/
def State.measLost (s : State) : ChainId → Option Nat
  | .a => s.prt.measLostA
  | .b => s.prt.measLostB

theorem exec_measLostOpenExpiry_due {c : ChainId} (hm : s.measLost c = some t0) (ho : s.arm.owner = true)
    (ha : s.prt.active.contains (chainKey 0x23 c) = true) (ht : t0 + msNs * s.im.measLostOpen ≤ s.clock)
    (hq : (s.chain c).openReq = false) : exec (.measLostOpenExpiry c) s = .next (requestOpen s c) := by
  cases c with
  | a => simp only [exec, execMeasLostOpenExpiry, show s.prt.measLostA = some t0 from hm, ho, ha, ht, hq, Bool.not_false,
      decide_true, Bool.and_self, if_true]
  | b => simp only [exec, execMeasLostOpenExpiry, show s.prt.measLostB = some t0 from hm, ho, ha, ht, hq, Bool.not_false,
      decide_true, Bool.and_self, if_true]

/-- The opening that both chains have. -/
theorem completes_measLostOpen {c : ChainId} (hm : s.measLost c = some t0) (ho : s.arm.owner = true)
    (ha : s.prt.active.contains (chainKey 0x23 c) = true) (ht : t0 + msNs * s.im.measLostOpen ≤ s.clock)
    (hq : (s.chain c).openReq = false) (hd : s.declared c = true) (hr : (s.chain c).st = .run) :
    Completes (.measLostOpenExpiry c) s [.glk, .chA, .chB, .snA, .snB, .thm, .lsw, .mnt, .evt] fun t =>
      (t.chain c).st = .zeroing ∧ (t.chain c).iRef = some 0 ∧ (t.chain c).openAfter = true :=
  completes_within (exec_measLostOpenExpiry_due hm ho ha ht hq) (requestOpen_running hd hr) (requestOpen_drop s c rfl)

end

/-- Settles O39: releases and clears by the record of the entry, an assessment by what `assessed` keeps, and the opening
of a chain that runs. -/
theorem reactionsAndMeasurements : Obligations.ReactionsAndMeasurements := by
  refine ⟨?_, ?_, ?_, ?_, ?_, ?_, ?_, ?_⟩
  · -- REACTION_AUTO_RELEASE
    intro s e t0 hi hh hr hl ha ht
    have hat := releaseEntry_at hl
    have hself := (hat e).trans (if_pos rfl)
    exact completes_exec (exec_reactionAutoRelease_due hi hh hr hl ha ht)
      ⟨congrArg EntryRec.latched hself, congrArg EntryRec.inactSince hself, fun k hk => (hat k).trans (if_neg hk)⟩
      (by dsimp only [execMask]; rfl)
  · -- PRT_CLEAR_ENTRY of an active source
    intro s p n hg hh ha
    have hop := opPrtClearEntry_active hh ha
    refine completes_granted rfl hg hop ⟨(answer_evt ..).trans (logged_of rfl rfl rfl rfl _ _ _ _), answered_of rfl⟩ ?_ rfl rfl
    rw [hop]
    exact logEvent_drop s _ _ _ _ rfl
  · -- PRT_CLEAR_ENTRY
    intro s p n hg h
    have hat := clearEntry_at s n
    have hself := (hat n).trans (if_pos rfl)
    exact completes_granted rfl hg (opPrtClearEntry_free h)
      ⟨congrArg EntryRec.latched hself, congrArg EntryRec.times hself, rfl, fun k hk => (hat k).trans (if_neg (Ne.symm hk))⟩
      (opPrtClearEntry_drop n s rfl) rfl rfl
  · -- PRT_CLEAR_ALL
    intro s p hg h
    refine completes_granted rfl hg (opPrtClearAll_free h) ⟨fun n => ?_, answer_head _ p 0⟩ (opPrtClearAll_drop s rfl)
      rfl rfl
    rw [answer_prt]
    exact clearAll_effect _ s n (List.mem_finRange n)
  · -- PRT_CLEAR_ALL of active sources
    intro s p hg h
    have hop := opPrtClearAll_active h
    refine completes_granted (op := opPrtClearAll) rfl hg hop (answer_head _ p 4) ?_ rfl rfl
    rw [hop]
    exact foldl_drop (fun t n => logEvent_drop t _ _ _ _ rfl) _ s
  · -- PE_ASSESSMENT
    intro s v i hp ho
    obtain ⟨hdev, hmeas, hpulsed⟩ := endPulses_keeps (s.onMeas fun m => { m with vCap := v, iTerm := i })
    exact completes_exec (exec_peAssessment_runs hp ho) ⟨(assessed_meas _).trans hmeas, (assessed_pulsed _).trans hpulsed,
      fun hr => assessed_wordsFollow ((congrArg Dev.phase hdev).trans hr)⟩ (by dsimp only [execMask]; rfl)
  · -- MEAS_LOST_OPEN_EXPIRY of chain A
    intro s t0 hm ho ha ht hq hd hr
    exact completes_measLostOpen hm ho ha ht hq hd hr
  · -- MEAS_LOST_OPEN_EXPIRY of chain B
    intro s t0 hm ho ha ht hq hd hr
    exact completes_measLostOpen hm ho ha ht hq hd hr

end Sys2Proof.Machine
end

section
/-! SUPPORT. The protected load channels: commands and diagnostics (O32), limits and retries (O33), and cluster temperature (O34). -/

set_option Elab.async false

namespace Sys2Proof.Machine

section
variable {s : State} {n : Fin 12} {t0 : Nat}

/-! ### Commands that change one channel -/

/-- A command that changes the record of one channel leaves every other channel as it is. -/
theorem completes_onCh {c : Instr} {f : LswCh → LswCh} {v : LswCh} (h : exec c s = .next (s.onCh n f))
    (hv : f s.lsw.ch[n] = v) : Completes c s [.lsw] fun t =>
      t.lsw.ch[n] = v ∧ ∀ k : Fin 12, k ≠ n → t.lsw.ch[k] = s.lsw.ch[k] :=
  completes_within h ⟨(onCh_self s n f).trans hv, fun _ hk => onCh_other s f hk⟩ (State.onCh_drop s n f rfl)

/-- A channel is off where Table 12.3 has it off; where it has it on, only VAUX low or a short keeps it off. -/
def State.chFollows (s : State) (n : Fin 12) : Prop :=
  (s.chState n = false → s.lsw.ch[n].isOn = false) ∧
  (s.chState n = true → s.pwr.vauxLow = false → s.lsw.ch[n].diag ≠ 2 → s.lsw.ch[n].isOn = true)

/-- A change of one channel, followed by Table 12.3: what the table sets aside is as the change left it. -/
theorem refreshCh_onCh (s : State) (n : Fin 12) (f : LswCh → LswCh) :
    (refreshCh (s.onCh n f) n).lsw.ch[n].rest = (f s.lsw.ch[n]).rest ∧ (refreshCh (s.onCh n f) n).chFollows n ∧
    ∀ k : Fin 12, k ≠ n → (refreshCh (s.onCh n f) n).lsw.ch[k] = s.lsw.ch[k] := by
  obtain ⟨-, -, -, hother, hrest, -⟩ := refreshCh_at (s.onCh n f) n
  rw [onCh_self] at hrest
  exact ⟨hrest, refreshCh_follow _ n, fun k hk => (hother k hk).trans (onCh_other s f hk)⟩

/-! ### LSW_CMD (R290, R294) -/

theorem setWant_effect (s : State) (n : Fin 12) (on : Bool) : (setWant s n on).lsw.ch[n].want = on ∧
    (on = false → (setWant s n on).lsw.ch[n].attempts = 0 ∧ (setWant s n on).lsw.ch[n].pause = 10 ∧
      (setWant s n on).lsw.ch[n].pauseDue = none) ∧
    (setWant s n on).chFollows n ∧ ∀ k : Fin 12, k ≠ n → (setWant s n on).lsw.ch[k] = s.lsw.ch[k] := by
  obtain ⟨hrest, hfollow, hother⟩ := refreshCh_onCh s n fun c =>
    if on then { c with want := true } else { c with want := false, attempts := 0, pause := 10, pauseDue := none }
  refine ⟨setWant_want s n on, fun hoff => ?_, hfollow, hother⟩
  subst hoff
  have hattempts := congrArg LswCh.attempts hrest
  have hpause := congrArg LswCh.pause hrest
  have hdue := congrArg LswCh.pauseDue hrest
  exact ⟨hattempts, hpause, hdue⟩

section
variable {ch action cls : Nat} (hn : s.namedCh ch = some (n, cls))
include hn

theorem opLswCmd_follows (h13 : ¬(cls = 1 ∨ cls = 3)) (h0 : cls ≠ 0) (ha : action < 2) :
    opLswCmd ch action s = (commandCh s n (action == 1), 0) := by
  obtain ⟨h1, h3⟩ := not_or.1 h13
  simp only [opLswCmd, hn, h1, h3, h0, not_le.2 ha, decide_false, Bool.or_self, Bool.false_eq_true, if_false]

theorem opLswCmd_contactor (h13 : cls = 1 ∨ cls = 3) : opLswCmd ch action s = (logEvent s 0x600B ch 1, 1) := by
  have hc : (decide (cls = 1) || decide (cls = 3)) = true := by
    rw [Bool.or_eq_true, decide_eq_true_eq, decide_eq_true_eq]
    exact h13
  simp only [opLswCmd, hn, hc, if_true]
  rfl

end

theorem opLswCmd_unused {ch action : Nat} (hn : s.namedCh ch = some (n, 0)) :
    opLswCmd ch action s = (logEvent s 0x600B ch 7, 7) := by
  rw [opLswCmd, hn]
  rfl

theorem opLswCmd_unnamed {ch action : Nat} (hn : s.namedCh ch = none) : opLswCmd ch action s = (s, 7) := by
  rw [opLswCmd, hn]

/-- A granted LSW_CMD: what its operation leaves, and the answer. -/
theorem completes_lswCmd {x : State} {p : Requester} {ch action code : Nat} {bs : List Block} {post : State → Prop}
    (hg : Granted s p .operate 0x000D0008 (s.namesLamp ch)) (ho : opLswCmd ch action s = (x, code))
    (hpost : post (answer x p code)) (hd : x.drop (blockMask bs) = s.drop (blockMask bs))
    (hph : (blockMask bs).testBit Block.phase.idx = false) (hout : blockMask bs &&& 137438953472 = 137438953472) :
    Completes (.lswCmd p ch action) s bs post := by
  have hcmd := regCmd_grantedL (op := opLswCmd ch action) (lamp := fun x => x.namesLamp ch) hg
    (by rw [ho]; exact same_of_drop hd .phase hph)
  rw [ho] at hcmd
  exact completes_within (congrArg Host.Outcome.next hcmd) hpost ((answer_drop x p code hout).trans hd)

theorem commandCh_running {on : Bool} (h : s.eng.state[EngineId.he.idx] ≠ .restarting) :
    commandCh s n on = setWant s n on := if_neg (by rwa [beq_iff_eq])

theorem commandCh_restarting {on : Bool} (h : s.eng.state[EngineId.he.idx] = .restarting) :
    commandCh s n on = s.onCh n fun c => { c with wantDue := some on } := if_pos (by rwa [beq_iff_eq])

/-! ### LSW_CLEAR and the sense select (R294, R301) -/

theorem mem_maskChs {mask : BitVec 12} : n ∈ maskChs mask ↔ mask.getLsbD n.val = true := by
  rw [maskChs, List.mem_filter]
  exact and_iff_right (List.mem_finRange n)

/-- The latches of a mask are cleared, and no other channel changes. -/
theorem opLswClear_at (s : State) (mask : BitVec 12) (n : Fin 12) :
    (mask.getLsbD n.val = false ∨ s.lsw.ch[n].latched = false → (opLswClear mask s).1.lsw.ch[n] = s.lsw.ch[n]) ∧
    (mask.getLsbD n.val = true → (opLswClear mask s).1.lsw.ch[n].latched = false ∧
      (s.lsw.ch[n].latched = true → (opLswClear mask s).1.lsw.ch[n].attempts = 0 ∧
        (opLswClear mask s).1.lsw.ch[n].pause = 10 ∧ (opLswClear mask s).1.lsw.ch[n].pauseDue = none)) := by
  obtain ⟨hout, hin, hfree⟩ := clearLatches_at (maskChs mask) (logEvent s 0x6003 mask.toNat) n
  refine ⟨fun h => ?_, fun h => hin (mem_maskChs.2 h)⟩
  rcases h with h | h
  · exact hout (by rw [mem_maskChs, h]; decide)
  · exact hfree h

theorem opLswClear_evt (s : State) (mask : BitVec 12) :
    (opLswClear mask s).1.evt = (logEvent s 0x6003 mask.toNat).evt := foldl_keep State.evt clearLatch_evt _ _

theorem opLswSense_lsw (s : State) (code : BitVec 4) : opLswSense code s = (s.onLsw fun _ =>
    if s.dev.senseSrcPin then s.lsw else { s.lsw with sel := code.toNat, pins := code.toNat }, 0) := by
  unfold opLswSense
  split <;> rfl

theorem exec_senseSelPinChange_pin {code : BitVec 4} (h : s.dev.senseSrcPin = true) :
    exec (.senseSelPinChange code) s = .next (s.onLsw fun l => { l with pins := code.toNat }) := by
  simp only [exec, execSenseSelPinChange, h, if_true]

/-! ### Economiser and diagnostics (R297, R300) -/

theorem exec_econPullEnd_due (ho : s.lsw.ch[n].isOn = true) (hd : s.lsw.ch[n].econDue = some t0) (ht : t0 ≤ s.clock) :
    exec (.econPullEnd n) s = .next (s.onCh n fun c => { c with econ := true, econDue := none, lowSince := none }) := by
  simp only [exec, execEconPullEnd, ho, due_of hd ht, Bool.and_self, if_true]

theorem exec_openLoadOnDetect_low (ho : s.lsw.ch[n].isOn = true) (he : s.lsw.ch[n].econ = false)
    (hl : s.lsw.ch[n].lowSince = some t0) (ht : t0 + 100 * msNs ≤ s.clock) (hd : s.lsw.ch[n].diag ≠ 3) :
    exec (.openLoadOnDetect n) s = .next (logEvent (s.onCh n fun c => { c with diag := 3 }) 0x6006 (n.val + 1)) := by
  simp only [exec, execOpenLoadOnDetect, ho, he, hl, ht, bne_iff_ne.2 hd, Bool.not_false, decide_true, Bool.and_self,
    if_true]

/-- The result of an off-state test in the record of its channel, and its event. -/
def offTested (s : State) (n : Fin 12) (r : Nat) : State :=
  let s1 := s.onCh n fun c => { c with diag := r }
  if r = 1 then logEvent s1 0x6004 (n.val + 1) else if r = 2 then logEvent s1 0x6005 (n.val + 1) else s1

theorem exec_offStateLoadTest_runs {vout v : Nat} (hv : s.pwr.vaux = some v) (ht : s.offTestable n = true) :
    exec (.offStateLoadTest n vout) s = .next (refreshCh (offTested s n (offTest vout v)) n) := by
  simp only [exec, execOffStateLoadTest, hv, ht, if_true]
  rfl

theorem offTested_lsw (s : State) (n : Fin 12) (r : Nat) :
    (offTested s n r).lsw = (s.onCh n fun c => { c with diag := r }).lsw := by
  unfold offTested
  dsimp only
  split
  · rfl
  · split <;> rfl

theorem offTested_evt (s : State) (n : Fin 12) : Logged s (offTested s n 1) 0x6004 (n.val + 1) ∧
    Logged s (offTested s n 2) 0x6005 (n.val + 1) := ⟨rfl, rfl⟩

/-- The channel that an off-state test has judged, under Table 12.3. -/
theorem refreshCh_offTested (s : State) (n : Fin 12) (r : Nat) :
    (refreshCh (offTested s n r) n).lsw.ch[n].diag = r ∧ (refreshCh (offTested s n r) n).chFollows n ∧
    ∀ k : Fin 12, k ≠ n → (refreshCh (offTested s n r) n).lsw.ch[k] = s.lsw.ch[k] := by
  obtain ⟨-, -, -, hother, hrest, -⟩ := refreshCh_at (offTested s n r) n
  rw [offTested_lsw, onCh_self] at hrest
  have hdiag := congrArg LswCh.diag hrest
  refine ⟨hdiag, refreshCh_follow _ n, fun k hk => ?_⟩
  rw [hother k hk, offTested_lsw, onCh_other s _ hk]

end

/-- Settles O32: LSW_CMD by what the named channel is, LSW_CLEAR by its mask, and the diagnostics by the record of one
channel. -/
theorem channelCommandsAndDiagnostics : Obligations.ChannelCommandsAndDiagnostics := by
  refine ⟨?_, ?_, ?_, ?_, ?_, ?_, ?_, ?_, ?_, ?_, ?_⟩
  · -- LSW_CMD
    intro s p ch action cls n hg hn h13 h0 ha hhe
    have hop := opLswCmd_follows hn (of_eq_false h13) h0 ha
    rw [commandCh_running hhe] at hop
    obtain ⟨hwant, hoff, hfollow, hother⟩ := setWant_effect s n (action == 1)
    refine completes_lswCmd hg hop ⟨hwant, fun h => hoff (by rw [h]; rfl), hfollow, hother, ?_⟩
      (setWant_drop s n _ rfl) rfl rfl
    exact answered_of (setWant_outbox s n _)
  · -- LSW_CMD while HE restarts
    intro s p ch action cls n hg hn h13 h0 ha hhe
    have hop := opLswCmd_follows hn (of_eq_false h13) h0 ha
    rw [commandCh_restarting hhe] at hop
    refine completes_lswCmd hg hop ⟨?_, fun k hk => ?_, answered_of rfl⟩ (State.onCh_drop s n _ rfl) rfl rfl
    · rw [answer_lsw, onCh_self]
    · rw [answer_lsw, onCh_other s _ hk]
  · -- LSW_CMD to a contactor or heater channel
    intro s p ch action cls n hg hn h13
    exact completes_lswCmd hg (opLswCmd_contactor hn h13) ⟨rfl, answered_of rfl⟩ (logEvent_drop s _ _ _ _ rfl) rfl rfl
  · -- LSW_CMD to an unused channel
    intro s p ch action n hg hn
    exact completes_lswCmd hg (opLswCmd_unused hn) ⟨rfl, answered_of rfl⟩ (logEvent_drop s _ _ _ _ rfl) rfl rfl
  · -- LSW_CMD to no channel
    intro s p ch action hg hn
    exact completes_lswCmd hg (opLswCmd_unnamed hn) (answered_of rfl) rfl rfl rfl
  · -- LSW_CLEAR
    intro s p mask hg
    have hout : (opLswClear mask s).1.outbox = s.outbox :=
      same_of_drop (m := 8657043456) (opLswClear_drop mask s rfl) .outbox rfl
    exact completes_granted (op := opLswClear mask) rfl hg rfl ⟨answered_of hout, opLswClear_evt s mask, opLswClear_at s mask⟩
      (opLswClear_drop mask s rfl) rfl rfl
  · -- LSW_SENSE_SELECT
    intro s p code hg
    have hop := opLswSense_lsw s code
    refine completes_granted rfl hg hop ⟨answered_of rfl, rfl⟩ ?_ rfl rfl
    rw [hop]
    exact State.onLsw_drop rfl
  · -- SENSE_SEL_PIN_CHANGE
    intro s code h
    exact completes_within (exec_senseSelPinChange_pin h) rfl (State.onLsw_drop rfl)
  · -- ECON_PULL_END
    intro s n t0 ho hd ht
    exact completes_onCh (exec_econPullEnd_due ho hd ht) rfl
  · -- OPEN_LOAD_ON_DETECT
    intro s n t0 ho he hl ht hd
    refine completes_within (exec_openLoadOnDetect_low ho he hl ht hd) ⟨?_, fun k hk => ?_, rfl⟩
      ((logEvent_drop _ _ _ _ _ rfl).trans (State.onCh_drop s n _ rfl))
    · rw [logEvent_lsw, onCh_self]
    · rw [logEvent_lsw, onCh_other s _ hk]
  · -- OFF_STATE_LOAD_TEST
    intro s n vout v hv ht
    obtain ⟨hdiag, hfollow, hother⟩ := refreshCh_offTested s n (offTest vout v)
    obtain ⟨hopen, hshort⟩ := offTested_evt s n
    refine completes_exec (exec_offStateLoadTest_runs hv ht) ⟨hdiag, hfollow, hother, fun ho hs => ?_, fun hs => ?_⟩
      (by dsimp only [execMask]; rfl)
    · have hr : offTest vout v = 1 := (if_neg (not_le.2 hs)).trans (if_pos ho)
      rw [hr]
      exact (refreshCh_evt _ n).trans hopen
    · have hr : offTest vout v = 2 := if_pos hs
      rw [hr]
      exact (refreshCh_evt _ n).trans hshort

section
variable {s : State} {n : Fin 12} {t0 : Nat}

/-! ### Limits and retries (R292, R293, R294) -/

theorem exec_currentLimitReached_limits {i : Int} (ho : s.lsw.ch[n].isOn = true) (hl : s.lsw.ch[n].limiting = false)
    (hi : (s.chLimit n : Int) ≤ 10 * i) : exec (.currentLimitReached n i) s =
      .next (s.onCh n fun c => { c with limiting := true, limAt := s.clock }) := by
  simp only [exec, execCurrentLimitReached, ho, hl, hi, Bool.not_false, decide_true, Bool.and_self, if_true]

theorem exec_limitTimeExpiry_over (ho : s.lsw.ch[n].isOn = true) (hl : s.lsw.ch[n].limiting = true)
    (hw : s.lsw.ch[n].inrushDue = none) (ht : s.lsw.ch[n].limAt + usNs * s.im.limitTime ≤ s.clock) :
    exec (.limitTimeExpiry n) s = .next (failedAttempt s n) := by
  simp only [exec, execLimitTimeExpiry, ho, hl, hw, ht, Option.isNone_none, decide_true, Bool.and_self, if_true]

theorem exec_junctionOvertemp_hot {tj : Int} (ho : s.lsw.ch[n].isOn = true) (ht : 1750 ≤ tj) :
    exec (.junctionOvertemp n tj) s = .next (failedAttempt (logEvent s 0x600C (n.val + 1)) n) := by
  simp only [exec, execJunctionOvertemp, ho, ht, decide_true, Bool.and_self, if_true]

theorem exec_inrushWindowEnd_due (hd : s.lsw.ch[n].inrushDue = some t0) (ht : t0 ≤ s.clock) :
    exec (.inrushWindowEnd n) s = .next (s.onCh n fun c =>
      { c with inrushDue := none, limAt := if c.limiting then s.clock else c.limAt }) := by
  simp only [exec, execInrushWindowEnd, due_of hd ht, if_true]

theorem exec_retryPauseEnd_due (hd : s.lsw.ch[n].pauseDue = some t0) (ht : t0 ≤ s.clock) :
    exec (.retryPauseEnd n) s = .next (refreshCh (s.onCh n fun c => { c with pauseDue := none }) n) := by
  simp only [exec, execRetryPauseEnd, due_of hd ht, if_true]

theorem exec_retryCountReset_due (ho : s.lsw.ch[n].isOn = true) (ht : s.lsw.ch[n].onSince + 2560 * msNs ≤ s.clock) :
    exec (.retryCountReset n) s = .next (s.onCh n fun c => { c with attempts := 0, pause := 10 }) := by
  simp only [exec, execRetryCountReset, ho, ht, decide_true, Bool.and_self, if_true]

/-- The record of a channel that has switched off. -/
def LswCh.off (c : LswCh) : LswCh := { c with
  isOn := false, limiting := false, inrushDue := none, econ := false, econDue := none, lowSince := none, coilDue := none }

/-- A failed attempt counted, before the retry or the latch. -/
def attemptNoted (s : State) (n : Fin 12) : State :=
  logEvent ((chOff s n).onLsw fun l => { l with cntFailed := bump 8 l.cntFailed }) 0x6001 (n.val + 1)
    (s.lsw.ch[n].attempts + 1)

theorem attemptNoted_ch (s : State) (n k : Fin 12) :
    (attemptNoted s n).lsw.ch[k] = if n = k then s.lsw.ch[n].off else s.lsw.ch[k] := by
  rw [attemptNoted, logEvent_lsw]
  exact onCh_at s n k LswCh.off

/-- A change of one channel after a failed attempt. -/
theorem attemptNoted_onCh (s : State) (n : Fin 12) (f : LswCh → LswCh) :
    ((attemptNoted s n).onCh n f).lsw.ch[n] = f s.lsw.ch[n].off ∧
    ∀ k : Fin 12, k ≠ n → ((attemptNoted s n).onCh n f).lsw.ch[k] = s.lsw.ch[k] := by
  refine ⟨?_, fun k hk => ?_⟩
  · rw [onCh_self, attemptNoted_ch, if_pos rfl]
  · rw [onCh_other _ f hk, attemptNoted_ch, if_neg (Ne.symm hk)]

theorem failedAttempt_last (hr : s.im.lswRetryN n.val ≤ s.lsw.ch[n].attempts + 1) (hc : s.lswClass n ≠ 1) :
    failedAttempt s n = logEvent (((attemptNoted s n).onCh n fun c =>
      { c with attempts := min (s.lsw.ch[n].attempts + 1) 15, latched := true, pauseDue := none }).onLsw fun l =>
        { l with cntLatches := bump 8 l.cntLatches }) 0x6002 (n.val + 1) :=
  (if_pos hr).trans (if_neg hc)

theorem failedAttempt_retries (hr : s.lsw.ch[n].attempts + 1 < s.im.lswRetryN n.val) :
    failedAttempt s n = (attemptNoted s n).onCh n fun c => { c with
      attempts := s.lsw.ch[n].attempts + 1
      pauseDue := some (s.clock + msNs * s.lsw.ch[n].pause)
      pause := min 1280 (2 * c.pause) } :=
  if_neg (Nat.not_le.2 hr)

/-- The last attempt that may fail latches the channel. -/
theorem failedAttempt_last_effect (hr : s.im.lswRetryN n.val ≤ s.lsw.ch[n].attempts + 1) (hc : s.lswClass n ≠ 1) :
    (failedAttempt s n).lsw.ch[n].isOn = false ∧ (failedAttempt s n).lsw.cntFailed = bump 8 s.lsw.cntFailed ∧
    (failedAttempt s n).lsw.ch[n].latched = true ∧
    (failedAttempt s n).lsw.ch[n].attempts = min (s.lsw.ch[n].attempts + 1) 15 ∧
    (failedAttempt s n).lsw.ch[n].pauseDue = none ∧
    (failedAttempt s n).lsw.cntLatches = bump 8 s.lsw.cntLatches ∧
    ∀ k : Fin 12, k ≠ n → (failedAttempt s n).lsw.ch[k] = s.lsw.ch[k] := by
  obtain ⟨hself, hother⟩ := attemptNoted_onCh s n fun c =>
    { c with attempts := min (s.lsw.ch[n].attempts + 1) 15, latched := true, pauseDue := none }
  rw [failedAttempt_last hr hc]
  exact ⟨congrArg LswCh.isOn hself, rfl, congrArg LswCh.latched hself, congrArg LswCh.attempts hself,
    congrArg LswCh.pauseDue hself, rfl, hother⟩

/-- Below the retry number a pause begins, and the next is twice as long, up to 1,280 ms. -/
theorem failedAttempt_retries_effect (hr : s.lsw.ch[n].attempts + 1 < s.im.lswRetryN n.val) :
    (failedAttempt s n).lsw.ch[n].isOn = false ∧ (failedAttempt s n).lsw.cntFailed = bump 8 s.lsw.cntFailed ∧
    (failedAttempt s n).lsw.ch[n].latched = s.lsw.ch[n].latched ∧
    (failedAttempt s n).lsw.ch[n].attempts = s.lsw.ch[n].attempts + 1 ∧
    (failedAttempt s n).lsw.ch[n].pauseDue = some (s.clock + msNs * s.lsw.ch[n].pause) ∧
    (failedAttempt s n).lsw.ch[n].pause = min 1280 (2 * s.lsw.ch[n].pause) ∧
    ∀ k : Fin 12, k ≠ n → (failedAttempt s n).lsw.ch[k] = s.lsw.ch[k] := by
  obtain ⟨hself, hother⟩ := attemptNoted_onCh s n fun c => { c with
    attempts := s.lsw.ch[n].attempts + 1
    pauseDue := some (s.clock + msNs * s.lsw.ch[n].pause)
    pause := min 1280 (2 * c.pause) }
  have hlatched := congrArg LswCh.latched hself
  have hpause := congrArg LswCh.pause hself
  rw [failedAttempt_retries hr]
  exact ⟨congrArg LswCh.isOn hself, rfl, hlatched, congrArg LswCh.attempts hself, congrArg LswCh.pauseDue hself, hpause,
    hother⟩

/-- Away from a contactor's latch, which opens its chain, a failed attempt changes the loads and the log alone. -/
theorem failedAttempt_drop_loads (h : s.lswClass n ≠ 1 ∨ s.lsw.ch[n].attempts + 1 < s.im.lswRetryN n.val) :
    (failedAttempt s n).drop 8657043456 = s.drop 8657043456 := by
  have hnoted : (attemptNoted s n).drop 8657043456 = s.drop 8657043456 :=
    (logEvent_drop _ _ _ _ _ rfl).trans ((State.onLsw_drop rfl).trans (State.onCh_drop s n _ rfl))
  rcases Nat.lt_or_ge (s.lsw.ch[n].attempts + 1) (s.im.lswRetryN n.val) with hr | hr
  · rw [failedAttempt_retries hr]
    exact (State.onCh_drop _ n _ rfl).trans hnoted
  · rw [failedAttempt_last hr (h.resolve_right (Nat.not_lt.2 hr))]
    exact (logEvent_drop _ _ _ _ _ rfl).trans ((State.onLsw_drop rfl).trans ((State.onCh_drop _ n _ rfl).trans hnoted))

/-! ### Cluster temperature (R295, R296) -/

variable {cl : Fin 3} {temp : Int} {tjs is : List Int}

theorem exec_clusterSensorSample_cool (ht : temp < (s.im.clusterShed : Int))
    (hs : s.lsw.clusters[cl].shedding = false) (hl : s.lsw.clusters[cl].shedList = []) :
    exec (.clusterSensorSample cl temp tjs is) s = .next (sampledCluster s cl temp tjs is false) := by
  obtain ⟨-, hcl, -⟩ := sampledCluster_effect s cl temp tjs is false _ rfl
  have hshed : (decide ((s.im.clusterShed : Int) ≤ temp) ||
      (s.lsw.clusters[cl].shedding && decide ((s.im.clusterShed : Int) - 50 ≤ temp))) = false := by
    rw [hs, decide_eq_false (not_le.2 ht)]
    rfl
  refine (sampledCluster_step s cl temp tjs is hshed).trans ((if_neg Bool.false_ne_true).trans (if_neg ?_))
  rw [hcl, hl]
  simp

theorem exec_clusterSensorSample_hot (ht : (s.im.clusterShed : Int) ≤ temp) :
    exec (.clusterSensorSample cl temp tjs is) s = .next (shedNext (sampledCluster s cl temp tjs is true) cl) := by
  have hshed : (decide ((s.im.clusterShed : Int) ≤ temp) ||
      (s.lsw.clusters[cl].shedding && decide ((s.im.clusterShed : Int) - 50 ≤ temp))) = true := by
    rw [decide_eq_true ht]
    rfl
  exact (sampledCluster_step s cl temp tjs is hshed).trans (if_pos rfl)

/-- The only channel of a cluster that is on is the next to be shed, where it is no contactor. -/
theorem shedNext_only (hn : clusterOf n = cl) (hc : s.lswClass n ≠ 1)
    (hon : ∀ k : Fin 12, clusterOf k = cl → (s.lsw.ch[k].isOn = true ↔ k = n)) : shedNext s cl = shedChannel s cl n := by
  have hmem {k : Fin 12} : k ∈ clusterChs cl ↔ clusterOf k = cl := by
    rw [clusterChs, List.mem_filter, decide_eq_true_eq]
    exact and_iff_right (List.mem_finRange k)
  have hnodup : (clusterChs cl).Nodup := (List.nodup_finRange 12).filter _
  have honly : ((clusterChs cl).filter fun k => s.lsw.ch[k].isOn) = [n] := by
    have hp : ∀ k ∈ clusterChs cl, s.lsw.ch[k].isOn = (k == n) := fun k hk => by
      rw [Bool.eq_iff_iff, hon k (hmem.1 hk), beq_iff_eq]
    rw [List.filter_congr hp, List.filter_beq, List.count_eq_one_of_mem hnodup (hmem.2 hn)]
    rfl
  have hfilter : ([n].filter fun k => s.lswClass k != 1) = [n] :=
    List.filter_eq_self.2 fun k hk => by rw [List.mem_singleton.1 hk, bne_iff_ne]; exact hc
  simp only [shedNext, honly, hfilter]
  rfl

theorem exec_coilShedDelayExpiry_due (hd : s.lsw.ch[n].coilDue = some t0) (ht : t0 ≤ s.clock)
    (ho : s.lsw.ch[n].isOn = true) : exec (.coilShedDelayExpiry n) s =
      .next (requestOpen (shedChannel s (clusterOf n) n) (s.lswChain n)) := by
  simp only [exec, execCoilShedDelayExpiry, due_of hd ht, ho, Bool.and_self, if_true]

theorem exec_clusterRestoreStagger_due (hr : s.lsw.clusters[cl].restoring = true)
    (hd : s.lsw.clusters[cl].nextDue = some t0) (ht : t0 ≤ s.clock) :
    exec (.clusterRestoreStagger cl) s = .next (restoreShed s cl) := by
  simp only [exec, execClusterRestoreStagger, hr, due_of hd ht, Bool.and_self, if_true]

end

/-- Settles O33: the limit and the timers by the record of one channel, a failed attempt by whether it is the last. -/
theorem channelLimitsAndRetries : Obligations.ChannelLimitsAndRetries := by
  refine ⟨?_, ?_, ?_, ?_, ?_, ?_, ?_, ?_⟩
  · -- CURRENT_LIMIT_REACHED
    intro s n i ho hl hi
    exact completes_onCh (exec_currentLimitReached_limits ho hl hi) rfl
  · -- LIMIT_TIME_EXPIRY of the last attempt
    intro s n ho hl hw ht hr hc
    exact completes_within (exec_limitTimeExpiry_over ho hl hw ht) (failedAttempt_last_effect hr hc)
      (failedAttempt_drop_loads (.inl hc))
  · -- JUNCTION_OVERTEMP of the last attempt
    intro s n tj ho ht hr hc
    exact completes_within (exec_junctionOvertemp_hot ho ht)
      (failedAttempt_last_effect (s := logEvent s 0x600C (n.val + 1)) hr hc)
      ((failedAttempt_drop_loads (s := logEvent s 0x600C (n.val + 1)) (.inl hc)).trans (logEvent_drop s _ _ _ _ rfl))
  · -- LIMIT_TIME_EXPIRY with a retry
    intro s n ho hl hw ht hr
    exact completes_within (exec_limitTimeExpiry_over ho hl hw ht) (failedAttempt_retries_effect hr)
      (failedAttempt_drop_loads (.inr hr))
  · -- JUNCTION_OVERTEMP with a retry
    intro s n tj ho ht hr
    exact completes_within (exec_junctionOvertemp_hot ho ht)
      (failedAttempt_retries_effect (s := logEvent s 0x600C (n.val + 1)) hr)
      ((failedAttempt_drop_loads (s := logEvent s 0x600C (n.val + 1)) (.inr hr)).trans (logEvent_drop s _ _ _ _ rfl))
  · -- INRUSH_WINDOW_END
    intro s n t0 hd ht
    exact completes_onCh (exec_inrushWindowEnd_due hd ht) rfl
  · -- RETRY_PAUSE_END
    intro s n t0 hd ht
    obtain ⟨hrest, hfollow, hother⟩ := refreshCh_onCh s n fun c => { c with pauseDue := none }
    have hdue := congrArg LswCh.pauseDue hrest
    have hattempts := congrArg LswCh.attempts hrest
    exact completes_exec (exec_retryPauseEnd_due hd ht) ⟨hdue, hattempts, hfollow, hother⟩
      (by dsimp only [execMask]; rfl)
  · -- RETRY_COUNT_RESET
    intro s n ho ht
    exact completes_onCh (exec_retryCountReset_due ho ht) rfl

/-- Settles O34: a sample by what `sampledCluster` records, a shed and a restore by the record of the one channel. -/
theorem clusterTemperature : Obligations.ClusterTemperature := by
  refine ⟨?_, ?_, ?_, ?_⟩
  · -- CLUSTER_SENSOR_SAMPLE below the threshold
    intro s cl temp tjs is ht hs hl
    obtain ⟨hthm, hcl, hch, hfree, -, -, -, -, -, hdrop⟩ := sampledCluster_effect s cl temp tjs is false _ rfl
    exact completes_of (exec_clusterSensorSample_cool ht hs hl) ⟨hthm, hcl, fun n hn => ⟨((hch n).2 hn).1, ((hch n).2 hn).2, (hch n).1⟩, hfree⟩
      hdrop rfl
  · -- CLUSTER_SENSOR_SAMPLE at the threshold
    intro s cl temp tjs is n ht hn hc hon
    obtain ⟨-, hcl, hch, -, hsheds, hclock, himg, hevt, htime, hdrop⟩ := sampledCluster_effect s cl temp tjs is true _ rfl
    have hnext : shedNext (sampledCluster s cl temp tjs is true) cl =
        shedChannel (sampledCluster s cl temp tjs is true) cl n := by
      refine shedNext_only hn ?_ fun k hk => ?_
      · unfold State.lswClass State.im
        rw [himg]
        exact hc
      · rw [(hch k).1]
        exact hon k hk
    have hexec := exec_clusterSensorSample_hot (tjs := tjs) (is := is) (cl := cl) ht
    rw [hnext] at hexec
    obtain ⟨hoff, hthermal, -, hrec, hcnt, hlog, -⟩ := shedChannel_effect (sampledCluster s cl temp tjs is true) cl n
    rw [hcl, hclock] at hrec
    refine completes_of hexec ⟨hoff, hthermal, ?_, ?_, ?_, ?_, ?_, ?_⟩
      ((shedChannel_drop (fm := 77384908800) _ cl n rfl).trans (drop_sub rfl hdrop)) rfl
    · rw [hrec]
    · rw [hrec]
    · rw [hrec]
    · rw [hrec]
    · rw [hcnt, hsheds]
    · exact hlog.trans (logEvent_cong hevt htime hclock _ _ _ _)
  · -- COIL_SHED_DELAY_EXPIRY
    intro s n t0 hd ht ho
    obtain ⟨hoff, hthermal, hcoil, hrec, hcnt, hlog, hother⟩ := shedChannel_effect s (clusterOf n) n
    exact completes_exec (exec_coilShedDelayExpiry_due hd ht ho)
      ⟨_, rfl, hoff, hthermal, hcoil, hrec, hcnt, hlog, hother, shedChannel_chA s _ n, shedChannel_chB s _ n⟩
      (by dsimp only [execMask]; rfl)
  · -- CLUSTER_RESTORE_STAGGER
    intro s cl n t0 hr hd ht hn hl
    exact completes_exec (exec_clusterRestoreStagger_due hr hd ht) (restoreShed_effect s cl n hn hl)
      (by dsimp only [execMask]; rfl)

end Sys2Proof.Machine
end

section
/-! SUPPORT. The sources of a reset, what each leaves, and the resets by command (O41, O43). -/

set_option Elab.async false

namespace Sys2Proof.Machine

section
variable {s x : State} {p : Requester} {addr v : Word} {code t0 b : Nat} {cmd : Instr} {cls : OpClass}
  {op : State → RegRes}

/-! ### A phase of the running device (R331) -/

/-- The phases in which a reset source takes the device down: every one but held and hibernating. -/
theorem exec_resetComparatorTrip_running (h : s.dev.phase = .booting ∨ s.dev.phase = .starting ∨ s.dev.phase = .ready ∨
    s.dev.phase = .noImage ∨ s.dev.phase = .warm ∨ s.dev.phase = .glueRestart) :
    exec .resetComparatorTrip s = .next (powerReset s 1) := by
  simp only [exec, execResetComparatorTrip]
  obtain h | h | h | h | h | h := h <;> rw [h]

theorem exec_resetComparatorTrip_hibernating (h : s.dev.phase = .hibernating) :
    exec .resetComparatorTrip s = .next (s.onPwr fun p => { p with hibVsysLost := true }) := by
  simp only [exec, execResetComparatorTrip, h]

theorem exec_resetNLow_running (h : s.dev.phase = .booting ∨ s.dev.phase = .starting ∨ s.dev.phase = .ready ∨
    s.dev.phase = .noImage ∨ s.dev.phase = .warm ∨ s.dev.phase = .glueRestart) :
    exec .resetNLow s = .next (coldReset s 2) := by
  simp only [exec, execResetNLow]
  obtain h | h | h | h | h | h := h <;> rw [h]

theorem exec_resetNLow_hibernating (h : s.dev.phase = .hibernating) : exec .resetNLow s = .next (wakeUp s 2) := by
  simp only [exec, execResetNLow, h]

/-! ### VBAK out of its range (R325) -/

/-- What the loss of VBAK takes from an integrator: its accumulation, and the epoch with it (R242). -/
def EstCh.lost (e : EstCh) : EstCh := { e with accLive := 0, accRem := 0, epoch := (e.epoch + 1) % 65536 }

/-- The shutdown latches of the plinth domain clear. -/
def Thm.unlatched (t : Thm) : Thm :=
  { t with latHotA := false, latColdA := false, latHotB := false, latColdB := false }

/-- The plinth registers of a device whose VBAK failed. -/
def Pwr.backupLost (w : Pwr) (v : Nat) : Pwr :=
  { w with vbakLost := true, vbakLog := true, vbak := some v, wake := 0, hibAt := none, hibVsysLost := false }

/-- The reset of the plinth domain: a power-on reset of cause 8 that keeps nothing of the domain's memory. -/
def plinthReset (s : State) (v : Nat) : State :=
  ((((powerReset s 8).onEsA EstCh.lost).onEsB EstCh.lost).onThm Thm.unlatched).onPwr fun w => w.backupLost v

theorem exec_vbakOutOfRange_outside {v : Nat} (h : v < 3000 ∨ 3600 < v) :
    exec (.vbakOutOfRange v) s = .next (plinthReset s v) := by
  have hout : ¬ (3000 ≤ v ∧ v ≤ 3600) := by omega
  simp only [exec, execVbakOutOfRange, hout, if_false]
  rfl

theorem exec_vbakOutOfRange_inside {v : Nat} (hlow : 3000 ≤ v) (hhigh : v ≤ 3600) :
    exec (.vbakOutOfRange v) s = .next (s.onPwr fun p => { p with vbak := some v }) :=
  if_pos ⟨hlow, hhigh⟩

/-- A power-on reset leaves the epochs of the integrators to the plinth domain. -/
theorem powerReset_epochs (s : State) (c : Nat) :
    (powerReset s c).esA.epoch = s.esA.epoch ∧ (powerReset s c).esB.epoch = s.esB.epoch := by
  unfold powerReset
  dsimp only
  split <;> exact ⟨rfl, rfl⟩

theorem plinthReset_integrators (s : State) (v : Nat) : (plinthReset s v).esA.accLive = 0 ∧
    (plinthReset s v).esB.accLive = 0 ∧ (plinthReset s v).esA.epoch = (s.esA.epoch + 1) % 65536 ∧
    (plinthReset s v).esB.epoch = (s.esB.epoch + 1) % 65536 := by
  obtain ⟨ha, hb⟩ := powerReset_epochs s 8
  exact ⟨rfl, rfl, by rw [← ha]; rfl, by rw [← hb]; rfl⟩

/-! ### PWR_CMD (R325, R335, R337) -/

/-- A denied operation of an open port counts, shows its address and answers 0x02. -/
theorem completes_denied (hc : exec cmd s = .next (regCmd s p fun s => withRight s p cls addr op))
    (hp : s.portOpen p = true) (hr : s.right p cls addr = false) :
    Completes cmd s [.sec, .evt, .outbox] fun t => t.sec.denied = bump 16 s.sec.denied ∧ t.sec.deniedAddr = addr ∧
      t.outbox.head? = some (.status p 2) := by
  have hop : withRight s p cls addr op = (deny s p cls addr, 2) := by
    simp only [withRight, hr, Bool.false_eq_true, if_false]
  have hdrop := deny_drop (fm := 10737418240) s p cls addr rfl
  rw [regCmd_open hp hop (same_of_drop hdrop .phase rfl)] at hc
  refine completes_within hc ?_ ((answer_drop _ p 2 rfl).trans (deny_drop s p cls addr rfl))
  rw [answer_sec]
  obtain ⟨hcount, haddr⟩ := deny_counted (s := s) (p := p) (addr := addr) cls
  exact ⟨hcount, haddr, rfl⟩

/-- The cell that the token holder inserts keeps the device from a reset by command (R335). -/
theorem resetRefused_of_inserting (ho : s.arm.owner = true) (hc : s.arm.cell = .running ∨ s.arm.cell = .degradedHb) :
    s.resetRefused = true := by
  unfold State.resetRefused
  obtain hc | hc := hc <;> rw [ho, hc] <;> rfl

theorem resetRefused_of_idle (h : s.arm.owner = false ∨ s.arm.cell ≠ .running ∧ s.arm.cell ≠ .degradedHb) :
    s.resetRefused = false := by
  unfold State.resetRefused
  obtain h | ⟨hr, hd⟩ := h
  · rw [h, Bool.false_and]
  · cases hc : s.arm.cell
    case running => exact absurd hc hr
    case degradedHb => exact absurd hc hd
    all_goals exact Bool.and_false _

theorem opPwrWarm_refused (h : s.resetRefused = true) : opPwrWarm s = (s, 4) := if_pos h
theorem opPwrCold_refused (h : s.resetRefused = true) : opPwrCold s = (s, 4) := if_pos h
theorem opPwrWarm_resets (h : s.resetRefused = false) : opPwrWarm s = (warmReset s 10, 0) :=
  if_neg (Bool.not_eq_true _ ▸ h)
theorem opPwrCold_resets (h : s.resetRefused = false) : opPwrCold s = (coldReset s 5, 0) :=
  if_neg (Bool.not_eq_true _ ▸ h)

theorem exec_pwrCmdWarm_resets (hg : Granted s p .operate 0x000F0010) (h : s.resetRefused = false) :
    exec (.pwrCmdWarm p) s = .next (warmReset s 10) := by
  have hphase : ((opPwrWarm s).1.dev.phase == s.dev.phase) = false := by
    rw [opPwrWarm_resets h, warmReset_phase]
    have hout := portOpen_out hg.1
    unfold State.outOfReset at hout
    cases hs : s.dev.phase
    case warm => rw [hs] at hout; contradiction
    all_goals rfl
  simp only [exec, execPwrCmdWarm]
  rw [regCmd_resets hg hphase, opPwrWarm_resets h]

/-- A cold reset by command; a device that was booting gets the answer, for its phase is the same. -/
theorem exec_pwrCmdCold_resets (hg : Granted s p .operate 0x000F0010) (h : s.resetRefused = false) :
    exec (.pwrCmdCold p) s = .next (coldReset s 5) ∨ exec (.pwrCmdCold p) s = .next (answer (coldReset s 5) p 0) := by
  simp only [exec, execPwrCmdCold]
  cases hph : (coldReset s 5).dev.phase == s.dev.phase with
  | false => left; rw [regCmd_resets hg (by rw [opPwrCold_resets h]; exact hph), opPwrCold_resets h]
  | true =>
    right
    rw [regCmd_granted hg (by rw [opPwrCold_resets h]; exact beq_iff_eq.mp hph), opPwrCold_resets h]

theorem opPwrHibernate_accepted (h : s.hibBlock = 0) : opPwrHibernate s =
    (((s.onPwr fun p => { p with hibPending := true }).onEst fun e =>
      { e with stateDue := true, stateUrgent := true, countDue := true }).onEvt fun e =>
        { e with pendDue := decide (e.pending ≠ 0) }, 0) := if_neg (not_not_intro h)

theorem opPwrHibernate_blocked (h : s.hibBlock ≠ 0) : opPwrHibernate s = (logEvent s 0x800B s.hibBlock, 4) := if_pos h

end

/-- Settles O41: each reset source by the phase it finds, with the effects of `powerReset`, `coldReset` and `wakeUp`. -/
theorem resetSources : Obligations.ResetSources := by
  unfold Obligations.ResetSources
  refine ⟨?_, ?_, ?_, ?_, ?_, ?_⟩
  · -- RESET_COMPARATOR_TRIP
    intro s h
    exact completes_exec (exec_resetComparatorTrip_running h) (powerReset_effect s 1) (by dsimp only [execMask]; rfl)
  · -- RESET_COMPARATOR_TRIP in hibernation
    intro s h
    exact completes_within (exec_resetComparatorTrip_hibernating h) rfl rfl
  · -- RESET_N_LOW
    intro s h
    exact completes_exec (exec_resetNLow_running h) (coldReset_effect s 2 false) (by dsimp only [execMask]; rfl)
  · -- RESET_N_LOW in hibernation
    intro s h
    exact completes_exec (exec_resetNLow_hibernating h) (wakeUp_effect s 2) (by dsimp only [execMask]; rfl)
  · -- VBAK_OUT_OF_RANGE
    intro s v h
    refine completes_exec (exec_vbakOutOfRange_outside h) ?_ (by dsimp only [execMask]; rfl)
    obtain ⟨hphase, hcause, -⟩ := powerReset_effect s 8
    obtain ⟨haccA, haccB, hepochA, hepochB⟩ := plinthReset_integrators s v
    exact ⟨hphase, hcause, rfl, rfl, rfl, rfl, haccA, haccB, hepochA, hepochB, rfl, rfl, rfl, rfl⟩
  · -- VBAK_OUT_OF_RANGE in range
    intro s v hlow hhigh
    exact completes_within (exec_vbakOutOfRange_inside hlow hhigh) rfl rfl

/-- Settles O43: the three outcomes of `withRight` and `State.resetRefused`, for each of the two resets. -/
theorem powerResetRights : Obligations.PowerResetRights := by
  unfold Obligations.PowerResetRights
  refine ⟨?_, ?_, ?_, ?_, ?_, ?_⟩
  · -- PWR_CMD_WARM without the right
    intro s p hp hr
    exact completes_denied rfl hp hr
  · -- PWR_CMD_COLD without the right
    intro s p hp hr
    exact completes_denied rfl hp hr
  · -- PWR_CMD_WARM of an inserting owner
    intro s p hg ho hc
    exact completes_unchanged rfl hg (opPwrWarm_refused (resetRefused_of_inserting ho hc))
  · -- PWR_CMD_COLD of an inserting owner
    intro s p hg ho hc
    exact completes_unchanged rfl hg (opPwrCold_refused (resetRefused_of_inserting ho hc))
  · -- PWR_CMD_WARM
    intro s p hg h
    obtain ⟨hcause, hrest⟩ := warmReset_pwr s 10
    exact completes_within (exec_pwrCmdWarm_resets hg (resetRefused_of_idle h))
      ⟨warmReset_phase s 10, hcause, hrest⟩ (warmReset_drop s 10 rfl)
  · -- PWR_CMD_COLD
    intro s p hg h
    have heffect := coldReset_effect s 5 false
    obtain hexec | hexec := exec_pwrCmdCold_resets hg (resetRefused_of_idle h)
    · exact completes_exec hexec heffect (by dsimp only [execMask]; rfl)
    · exact completes_exec hexec heffect (by dsimp only [execMask]; rfl)

end Sys2Proof.Machine
end

section
/-! SUPPORT. Hibernation, its ends, the clamp hold and the resume after a warm reset (O42). -/

set_option Elab.async false

namespace Sys2Proof.Machine

section
variable {s : State} {p : Requester} {c : ChainId} {t0 : Nat}

/-! ### Hibernation and its ends (R321, R337, R339) -/

/-- SLEEP goes out on every chain, and the chains are absent from then on. -/
def sleepChains (s : State) : State :=
  s.forChains fun t c =>
    ((sendChain t c fun e => .senFrame c e (sleepFrame e)).onSen c fun n =>
      { n with stage := .asleep }).onChain c fun ch => { ch with st := .absent }

/-- The plinth registers of a device that hibernates from the time `now` on. -/
def Pwr.hibernated (w : Pwr) (now : Nat) (hz : Option Nat) : Pwr :=
  { w with hibPending := false, hibAt := some now, hibVsysLost := false, hibHz := hz.getD w.hibHz }

/-- The device in hibernation, before its outputs and loads follow. -/
def engineStop (s x : State) : State :=
  ((setEngines ((x.onPwr fun w => w.hibernated s.clock s.eng.plinthHz).onDev fun d =>
    { d with phase := .hibernating }) .off).onDvt fun d => { d with beating := false, healthy := false }).onLbus
      fun b => { b with st := if s.im.wakeMode == 2 then .monitoring else .stopped }

theorem exec_hibernateEnter_written (hp : s.pwr.hibPending = true) (hs : s.est.stateDue = false)
    (hc : s.est.countDue = false) (ht : s.thm.tillDue = []) (hw : s.est.writing = none) : exec .hibernateEnter s =
      .next (refreshLoads (refreshBridge (idleOutputs (engineStop s (logEvent (sleepChains s) 0x8007))))) := by
  simp only [exec, execHibernateEnter, hp, hs, hc, ht, hw, Bool.not_false, List.isEmpty_nil, Option.isNone_none,
    Bool.and_self, if_true]
  rfl

theorem sleepChains_pwr (s : State) : (sleepChains s).pwr = s.pwr :=
  forChains_keep (·.pwr) (fun t c => by cases c <;> exact sendChain_pwr ..) s
theorem sleepChains_dvt (s : State) : (sleepChains s).dvt = s.dvt :=
  forChains_keep (·.dvt) (fun t c => by cases c <;> exact sendChain_dvt ..) s

theorem exec_hibWakeTimerExpiry_due (hp : s.dev.phase = .hibernating) (hh : s.pwr.hibAt = some t0)
    (hi : s.im.hibWakeInterval ≠ 0) (hd : t0 + secNs * s.im.hibWakeInterval ≤ s.clock) :
    exec .hibWakeTimerExpiry s = .next (wakeUp s 0) := by
  simp only [exec, execHibWakeTimerExpiry, hh, hp, bne_iff_ne.mpr hi, hd, beq_self_eq_true, decide_true, Bool.and_self,
    if_true]

theorem exec_hibCciWake_enabled (hp : s.dev.phase = .hibernating) (hw : s.im.hibCciWake ≠ 0)
    (hc : s.declared c = true) : exec (.hibCciWake c) s = .next (wakeUp s 4) := by
  simp only [exec, execHibCciWake, hp, bne_iff_ne.mpr hw, hc, beq_self_eq_true, Bool.and_self, if_true]

theorem exec_lbusWake_pin (hp : s.dev.phase = .hibernating) (hm : s.im.wakeMode = 1) :
    exec (.lbusWake none) s = .next (logEvent (wakeUp s 1) 0x7008 1) := by
  simp only [exec, execLbusWake, hp, hm, bne_self_eq_false, beq_self_eq_true, Bool.false_eq_true, if_false, if_true]

theorem exec_lbusWake_frame {f : CanFrame} (hp : s.dev.phase = .hibernating) (hm : s.im.wakeMode = 2)
    (hf : s.wakeFilter f = true) : exec (.lbusWake (some f)) s =
      .next (logEvent ((wakeUp s 1).onLbus fun b => { b with wakeFrame := some f }) 0x7008 2) := by
  simp only [exec, execLbusWake, hp, hm, hf, bne_self_eq_false, beq_self_eq_true, Bool.and_self, Bool.false_eq_true,
    if_false, if_true]

/-! ### The clamp hold (R298, R333) -/

/-- Released, the hold's channels are off and in no hold. -/
theorem releaseClamp_opens (s : State) (report : Bool) : (releaseClamp s report).lsw.clamp = false ∧
    ∀ n : Fin 12, s.lsw.ch[n].clamp = true →
      (releaseClamp s report).lsw.ch[n].isOn = false ∧ (releaseClamp s report).lsw.ch[n].clamp = false := by
  refine ⟨rfl, fun n hn => ?_⟩
  have hch : (releaseClamp s report).lsw.ch[n] = if s.lsw.ch[n].clamp then
      { s.lsw.ch[n] with clamp := false, isOn := false, want := false, econ := false, econDue := none, inrushDue := none }
      else s.lsw.ch[n] := Vector.getElem_map ..
  rw [hch, hn]
  exact ⟨rfl, rfl⟩

theorem exec_clampHoldTimeout_due (hc : s.lsw.clamp = true) (hd : s.lsw.clampAt + 50 * msNs ≤ s.clock) :
    exec .clampHoldTimeout s = .next (releaseClamp s true) := by
  simp only [exec, execClampHoldTimeout, hc, hd, decide_true, Bool.and_self, if_true]

theorem exec_clampHoldStage3End_due (hc : s.lsw.clamp = true) (h3 : s.pwr.s3 = true)
    (hd : s.lsw.clampAt + 3 * msNs ≤ s.clock) : exec .clampHoldStage3End s = .next (releaseClamp s false) := by
  simp only [exec, execClampHoldStage3End, hc, h3, hd, decide_true, Bool.and_self, if_true]

/-! ### The resume after a warm reset (R334) -/

/-- The engines run again, the reset is logged, and heartbeats and HEALTHY return. -/
def resumeEngines (s : State) : State :=
  (logEvent (((setEngines s .running).onDev fun d =>
    { d with phase := if s.spl.ringReady then .ready else .starting }).onPwr fun p => { p with rstLogged := true })
      0x8005 s.pwr.rstKind s.pwr.rstCause).onDvt fun d => { d with healthy := !s.pwr.s4, beating := true }

/-- The clamp hold ends: the owner takes its channels back, any other member opens them. -/
def endClamp (s : State) : State :=
  if s.arm.owner then resumeClamp s else (releaseClamp s false).onLsw fun l => { l with clampLost := none }

/-- The bus starts again unless stage 2 sheds it. -/
def resumeBus (s : State) (shed : Bool) : State := if shed then s else startBus s

/-- A device that has resumed, before its words and loads follow. -/
def warmResumed (s : State) : State :=
  resumeBus (endClamp (if s.spl.ringReady then claimToken (resumeEngines s) else resumeEngines s)) s.pwr.s2

theorem exec_warmResetResume_warm (h : s.dev.phase = .warm) :
    exec .warmResetResume s = .next (refreshLoads (refreshBridge (warmResumed s))) := by
  simp only [exec, execWarmResetResume, h]
  rfl

/-- The claim of the token leaves the heartbeats and HEALTHY as they are. -/
theorem claimToken_beats (s : State) :
    (claimToken s).dvt.beating = s.dvt.beating ∧ (claimToken s).dvt.healthy = s.dvt.healthy := by
  obtain ⟨-, htaken⟩ := takeFirst_effect s
  have htake : (takeFirst s).dvt.beating = s.dvt.beating ∧ (takeFirst s).dvt.healthy = s.dvt.healthy := by
    rw [htaken]; exact ⟨rfl, rfl⟩
  unfold claimToken
  dsimp only
  split
  · exact ⟨rfl, rfl⟩
  · split
    · exact htake
    · split
      · rw [refreshLoads_dvt, refreshBridge_dvt]
        exact ⟨rfl, rfl⟩
      · split
        · exact htake
        · rw [refreshBridge_dvt]
          exact ⟨rfl, rfl⟩

theorem endClamp_keeps (s : State) :
    (endClamp s).dev = s.dev ∧ (endClamp s).pwr = s.pwr ∧ (endClamp s).dvt = s.dvt := by
  unfold endClamp
  split <;> simp

theorem resumeBus_keeps (s : State) (shed : Bool) :
    (resumeBus s shed).dev = s.dev ∧ (resumeBus s shed).pwr = s.pwr ∧ (resumeBus s shed).dvt = s.dvt := by
  unfold resumeBus
  split <;> simp

theorem resumeEngines_effect (s : State) :
    (resumeEngines s).dev = { s.dev with phase := if s.spl.ringReady then .ready else .starting } ∧
    (resumeEngines s).pwr = { s.pwr with rstLogged := true } ∧ (resumeEngines s).dvt.beating = true ∧
    (resumeEngines s).dvt.healthy = !s.pwr.s4 := by
  simp [resumeEngines]

theorem warmResumed_effect (s : State) :
    (warmResumed s).dev.phase = (if s.spl.ringReady then .ready else .starting) ∧
    (warmResumed s).pwr = { s.pwr with rstLogged := true } ∧ (warmResumed s).dvt.beating = true ∧
    (warmResumed s).dvt.healthy = !s.pwr.s4 := by
  obtain ⟨hdev, hpwr, hbeat, hhealth⟩ := resumeEngines_effect s
  unfold warmResumed
  generalize hx : (if s.spl.ringReady then claimToken (resumeEngines s) else resumeEngines s) = x
  have hclaim : x.dev = (resumeEngines s).dev ∧ x.pwr = (resumeEngines s).pwr ∧
      x.dvt.beating = (resumeEngines s).dvt.beating ∧ x.dvt.healthy = (resumeEngines s).dvt.healthy := by
    rw [← hx]
    split
    · exact ⟨claimToken_dev _, claimToken_pwr _, claimToken_beats _⟩
    · exact ⟨rfl, rfl, rfl, rfl⟩
  obtain ⟨hxdev, hxpwr, hxbeat, hxhealth⟩ := hclaim
  obtain ⟨hedev, hepwr, hedvt⟩ := endClamp_keeps x
  obtain ⟨hbdev, hbpwr, hbdvt⟩ := resumeBus_keeps (endClamp x) s.pwr.s2
  rw [hbdev, hbpwr, hbdvt, hedev, hepwr, hedvt, hxdev, hxpwr, hxbeat, hxhealth, hdev]
  exact ⟨rfl, hpwr, hbeat, hhealth⟩

end

/-- Settles O42: the command by `State.hibBlock`, the entry and the resume by the steps they are cut into, the wakes by
`wakeUp_effect`, and the ends of the clamp hold by `releaseClamp_opens`. -/
theorem hibernationAndClampHold : Obligations.HibernationAndClampHold := by
  unfold Obligations.HibernationAndClampHold
  refine ⟨?_, ?_, ?_, ?_, ?_, ?_, ?_, ?_, ?_, ?_, ?_⟩
  · -- PWR_CMD_HIBERNATE
    intro s p hg hb
    refine completes_granted rfl hg (opPwrHibernate_accepted hb) ⟨rfl, rfl, rfl, answered_of rfl⟩ ?_ rfl rfl
    exact opPwrHibernate_drop s rfl
  · -- PWR_CMD_HIBERNATE with a failing condition
    intro s p hg hb
    refine completes_granted rfl hg (opPwrHibernate_blocked hb) ⟨?_, answered_of (by simp)⟩ ?_ rfl rfl
    · exact answer_evt ..
    · rw [opPwrHibernate_blocked hb]
      exact logEvent_drop s _ _ _ _ rfl
  · -- HIBERNATE_ENTER
    intro s hp hs hc ht hw
    refine completes_exec (exec_hibernateEnter_written hp hs hc ht hw) ?_ (by dsimp only [execMask]; rfl)
    simp only [refreshLoads_dev, refreshLoads_pwr, refreshLoads_dvt, refreshLoads_prt, refreshLoads_eng,
      refreshBridge_dev, refreshBridge_pwr, refreshBridge_dvt, refreshBridge_prt, refreshBridge_eng]
    rw [← sleepChains_pwr s, ← sleepChains_dvt s]
    exact ⟨rfl, rfl, rfl, rfl, fun i => setEngines_off _ i⟩
  · -- PWR_CMD_CLEAR_VBAK
    intro s p hg
    exact completes_granted (op := opPwrClearVbak) rfl hg rfl ⟨rfl, answered_of rfl⟩ rfl rfl rfl
  · -- HIB_WAKE_TIMER_EXPIRY
    intro s t0 hp hh hi hd
    exact completes_exec (exec_hibWakeTimerExpiry_due hp hh hi hd) (wakeUp_effect s 0) (by dsimp only [execMask]; rfl)
  · -- HIB_CCI_WAKE
    intro s c hp hw hc
    exact completes_exec (exec_hibCciWake_enabled hp hw hc) (wakeUp_effect s 4) (by dsimp only [execMask]; rfl)
  · -- LBUS_WAKE by the pin
    intro s hp hm
    exact completes_exec (exec_lbusWake_pin hp hm) (by simpa using wakeUp_effect s 1) (by dsimp only [execMask]; rfl)
  · -- LBUS_WAKE by a frame
    intro s f hp hm hf
    exact completes_exec (exec_lbusWake_frame hp hm hf) (by simpa using wakeUp_effect s 1) (by dsimp only [execMask]; rfl)
  · -- CLAMP_HOLD_TIMEOUT
    intro s hc hd
    exact completes_exec (exec_clampHoldTimeout_due hc hd) (releaseClamp_opens s true) (by dsimp only [execMask]; rfl)
  · -- CLAMP_HOLD_STAGE3_END
    intro s hc h3 hd
    exact completes_exec (exec_clampHoldStage3End_due hc h3 hd) (releaseClamp_opens s false) (by dsimp only [execMask]; rfl)
  · -- WARM_RESET_RESUME
    intro s h
    refine completes_exec (exec_warmResetResume_warm h) ?_ (by dsimp only [execMask]; rfl)
    simpa using warmResumed_effect s

end Sys2Proof.Machine
end

section
/-! SUPPORT. The local bus: transmit buffers, reception, bus idle, errors and bus-off (O17, O18). -/

set_option Elab.async false

namespace Sys2Proof.Machine

section
variable {s : State} {p : Requester} {b : Fin 16} {f : CanFrame} {delay k t0 : Nat} {d : Bool} {n : Fin 64}

/-! ### Loading and cancelling transmit buffers (R308, R310) -/

theorem opLbusGo_own (hb : 14 ≤ b.val) : opLbusGo p b s = (s, 1) := if_pos hb

/-- With a free station buffer, the token and the bus, the frame alone decides whether it is loaded. -/
theorem opLbusGo_station (hb : b.val < 14) (hf : s.lbus.bufs[b].st = 0) (ho : s.arm.owner = true)
    (hs : s.lbus.shed = false) (hd : ((windowFrame s.lbus.win[p.idx]).brs && s.lbus.tdcRange) = false) :
    opLbusGo p b s = if s.incoherent (windowFrame s.lbus.win[p.idx]) then (s, 7)
      else (loadBuf s b (windowFrame s.lbus.win[p.idx]), 0) := by
  have hfull : (s.lbus.bufs.toList.all fun x => x.st != 0) = false := by
    rw [List.all_eq_false]
    exact ⟨s.lbus.bufs[b], Vector.mem_toList_iff.mpr (Vector.getElem_mem b.isLt), by rw [hf]; decide⟩
  simp only [opLbusGo, Nat.not_le.mpr hb, hfull, hf, ho, hs, hd, bne_self_eq_false, Bool.not_true, Bool.or_false,
    Bool.false_eq_true, if_false]

/-- The mask of LBUS_TX_CANCEL names the station buffers alone. -/
theorem mem_cancelled (mask : BitVec 16) (b : Fin 16) :
    b ∈ (List.finRange 16).filter (fun b => decide (b.val < 14) && mask.getLsbD b.val) ↔
      b.val < 14 ∧ mask.getLsbD b.val = true := by
  simp only [List.mem_filter, List.mem_finRange, true_and, Bool.and_eq_true, decide_eq_true_eq]

/-- A cancelled buffer: it is free when it was pending, it is marked while it is sent, and it stays when it was free. -/
theorem opLbusCancel_at (mask : BitVec 16) (b : Fin 16) :
    ((14 ≤ b.val ∨ mask.getLsbD b.val = false ∨ s.lbus.bufs[b].st = 0) →
      (opLbusCancel mask s).1.lbus.bufs[b] = s.lbus.bufs[b]) ∧
    (b.val < 14 → mask.getLsbD b.val = true → s.lbus.bufs[b].st = 1 → (opLbusCancel mask s).1.lbus.bufs[b].st = 0) ∧
    (b.val < 14 → mask.getLsbD b.val = true → s.lbus.bufs[b].st = 2 →
      (opLbusCancel mask s).1.lbus.bufs[b] = { s.lbus.bufs[b] with cancel := true }) := by
  obtain ⟨hother, hnamed⟩ :=
    cancelBufs_at ((List.finRange 16).filter fun b => decide (b.val < 14) && mask.getLsbD b.val) s b
  rw [mem_cancelled] at hother hnamed
  refine ⟨fun h => ?_, fun hb hm hst => ?_, fun hb hm hst => ?_⟩
  · by_cases hin : b.val < 14 ∧ mask.getLsbD b.val = true
    · obtain ⟨hb, hm⟩ := hin
      have hst : s.lbus.bufs[b].st = 0 := by
        rcases h with h | h | h
        · omega
        · rw [hm] at h; contradiction
        · exact h
      refine (hnamed ⟨hb, hm⟩).trans ?_
      rw [hst]
      rfl
    · exact hother hin
  · have hfree := hnamed ⟨hb, hm⟩
    rw [if_pos hst] at hfree
    exact congrArg TxBuf.st hfree
  · have hmark := hnamed ⟨hb, hm⟩
    rwa [if_neg (by rw [hst]; decide), if_pos hst] at hmark

/-! ### A frame under way ends (R307, R309) -/

/-- A buffer in transmission is under way. -/
theorem underWay_of_sending (h : s.lbus.bufs[b].st = 2) : s.underWay b = true := by
  simp only [State.underWay, h, decide_true, Bool.true_or]

/-- What a completed frame leaves of the controller. -/
def Lbus.sentFrame (l : Lbus) (b : Fin 16) (now : Nat) : Lbus :=
  { l with
    bufs := l.bufs.set b {}
    sent := l.sent ||| BitVec.ofNat 16 (2 ^ b.val)
    doneFresh := l.doneFresh.add now (BitVec.ofNat 32 (2 ^ b.val))
    txErr := l.txErr - 1 }

theorem exec_canTxComplete_sent (hf : s.lbus.bufs[b].frame = some f) (hs : s.lbus.bufs[b].st = 2) (hd : delay ≤ 1000) :
    exec (.canTxComplete b delay) s = .next (settleErr ((send s (.can { f with esi := s.lbus.st == .passive })).onLbus
      fun l => l.sentFrame b s.clock)) := by
  have hgood : s.delayBad f delay = false := by
    simp only [State.delayBad, Nat.not_lt.mpr hd, decide_false, Bool.and_false]
  simp only [exec, execCanTxComplete, hf, underWay_of_sending hs, hgood, Bool.false_and, Bool.false_eq_true, if_true,
    if_false]
  rfl

theorem exec_canTxComplete_late (hf : s.lbus.bufs[b].frame = some f) (hs : s.lbus.bufs[b].st = 2) (hfd : f.fdf = true)
    (hbrs : f.brs = true) (hrate : 1000 < s.im.dataRate) (hd : 1000 < delay) :
    exec (.canTxComplete b delay) s = .next (loopDelayBad (endBuf s b) delay) := by
  have hbad : s.delayBad f delay = true := by simp only [State.delayBad, hrate, hfd, hd, decide_true, Bool.and_self]
  simp only [exec, execCanTxComplete, hf, underWay_of_sending hs, hbad, hbrs, Bool.and_self, if_true]

theorem exec_canTxAttemptFail_arbitration (hs : s.lbus.bufs[b].st = 2) :
    exec (.canTxAttemptFail b .arbitration) s = .next (retryBuf s b) := by
  simp only [exec, execCanTxAttemptFail, underWay_of_sending hs, Bool.not_true, Bool.false_eq_true, if_false]

theorem exec_canTxAttemptFail_error (hs : s.lbus.bufs[b].st = 2) : exec (.canTxAttemptFail b .error) s =
    .next (settleErr (retryBuf ((send s .canErrorFrame).onLbus fun x => { x with txErr := x.txErr + 8 }) b)) := by
  simp only [exec, execCanTxAttemptFail, underWay_of_sending hs, Bool.not_true, Bool.false_eq_true, if_false]

theorem retryBuf_again (hc : s.lbus.bufs[b].cancel = false) (hs : s.lbus.shed = false) :
    retryBuf s b = onBuf s b fun x => { x with st := 1 } := by
  simp only [retryBuf, hc, hs, Bool.or_self, Bool.false_eq_true, if_false]

theorem retryBuf_ends (h : s.lbus.bufs[b].cancel = true ∨ s.lbus.shed = true) : retryBuf s b = endBuf s b :=
  if_pos (Bool.or_eq_true _ _ ▸ h)

/-! ### The status frame (R316) -/

theorem exec_lbusStatusPeriod_loads (ho : s.arm.owner = true) (hp : s.im.statusPeriod ≠ 0)
    (hi : s.img.active.isSome = true) (hs : s.lbus.shed = false) (hst : s.lbus.st ≠ .stopped)
    (hb : s.lbus.bufs[15].st ≠ 2) : exec .lbusStatusPeriod s = .next (loadBuf s 15 s.statusFrame) := by
  have hbus : (s.lbus.st != .stopped) = true := bne_iff_ne.mpr hst
  have hbuf : (s.lbus.bufs[15].st != 2) = true := bne_iff_ne.mpr hb
  simp only [exec, execLbusStatusPeriod, ho, bne_iff_ne.mpr hp, hi, hs, hbus, hbuf, Bool.not_false, Bool.and_self,
    if_true]

/-! ### Receive entries (R311 to R313) -/

theorem opLbusAck_owned {e : Fin 64} {x : RxEntry} (hx : s.lbus.rx[e] = some x) (ho : x.owned = true) :
    opLbusAck e s = (s.onLbus fun l =>
      { l with
        rx := l.rx.set e none
        rxFreed := (s.clock, if l.rxFreed.1 = s.clock then e :: l.rxFreed.2 else [e]) }, 0) := by
  simp only [opLbusAck, hx, ho, if_true]

theorem opLbusAck_empty {e : Fin 64} (hx : s.lbus.rx[e] = none) : opLbusAck e s = (s, 7) := by
  simp only [opLbusAck, hx]

/-- The frame in progress is over. -/
def endReception (s : State) : State := s.onLbus fun l => { l with lastRx := none }

/-- A frame received without an acknowledge, accepted by filter k, is delivered. -/
theorem exec_canFrameRx_silent (hr : s.receives f = some false) (hid : s.reservedId f.xtd f.id.toNat = false)
    (ha : s.acceptFilter f = some k) : exec (.canFrameRx f) s = .next (deliver (endReception s) f k false) := by
  simp only [exec, execCanFrameRx, hr, hid, ha, cond_false, Bool.false_eq_true, if_false]
  rfl

/-- A frame that no filter accepts is acknowledged, and counts as a good one. -/
theorem exec_canFrameRx_unfiltered (hr : s.receives f = some true) (hid : s.reservedId f.xtd f.id.toNat = false)
    (ha : s.acceptFilter f = none) : exec (.canFrameRx f) s =
      .next (settleErr (nextFree ((send (endReception s) .canAck).onLbus fun l =>
        { l with rxErr := rxGood s.lbus.rxErr (s.freeN 66) }))) := by
  simp only [exec, execCanFrameRx, hr, hid, ha, cond_true, Bool.false_eq_true, if_false]
  rfl

theorem exec_canFrameRx_unreceived (hr : s.receives f = none) : exec (.canFrameRx f) s = .next s := by
  simp only [exec, execCanFrameRx, hr]

theorem receives_active (h : s.lbus.st = .active) : s.receives f = some true := by
  simp only [State.receives, State.busNormal, h, beq_self_eq_true, Bool.true_or, if_true]

theorem receives_monitoring (h : s.lbus.st = .monitoring) : s.receives f = some false := by
  simp [State.receives, State.busNormal, h]

/-- Off the bus, the frame in progress when it was left is finished (R305, R319). -/
theorem receives_tail {u : Word} (h : s.lbus.st = .stopped) (hl : s.lbus.lastRx = some (false, u))
    (ht : (u - f.stamp).toNat < 2 ^ 31) : s.receives f = some false := by
  simp only [State.receives, State.busNormal, h, hl, if_pos ht]
  rfl

theorem receives_none (h : s.lbus.st = .stopped) (hl : s.lbus.lastRx = none) : s.receives f = none := by
  simp [State.receives, State.busNormal, h, hl]

/-- A delivered frame takes the free entry. -/
theorem deliver_free {wake : Bool} (hn : s.freeEntry = some n) (hd : s.lbus.discRun = 0) :
    deliver s f k wake = s.onLbus fun l =>
      { l with
        rx := l.rx.set n (some
          { frame := f, filter := k, wake := wake, seq := l.rxSeq, order := l.rxN, owned := true })
        rxSeq := (l.rxSeq + 1) % 256
        rxN := l.rxN + 1 } := by
  simp only [deliver, hn, hd, if_true]

theorem deliver_overrun {wake : Bool} (hn : s.freeEntry = none) : deliver s f k wake = (dcqFull s 23).onLbus fun l =>
    { l with rxOverrun := true, overrunAt := some s.clock, cntOverrun := bump 8 l.cntOverrun, discRun := l.discRun + 1 } := by
  simp only [deliver, hn]

/-! ### Bus idle (R309, R319, R320) -/

/-- The state that the controller takes at the end of its integration. -/
def State.integrated (s : State) : LbusSt :=
  if !s.arm.owner then .monitoring else if 127 < s.lbus.txErr ∨ 127 < s.lbus.rxErr then .passive else .active

theorem exec_lbusBusIdle_integrated (h : s.lbus.st = .integrating) (hw : s.lbus.wakeFrame = none) :
    exec .lbusBusIdle s = .next (s.onLbus fun l =>
      { l with st := s.integrated, toNormal := false, wakeFrame := none, lastRx := none }) := by
  simp only [exec, execLbusBusIdle, h, hw]
  rfl

theorem exec_lbusBusIdle_normal (h : s.lbus.st = .monitoring) (hn : s.lbus.toNormal = true) :
    exec .lbusBusIdle s = .next (s.onLbus fun l => { l with st := .active, toNormal := false }) := by
  simp only [exec, execLbusBusIdle, h, hn, if_true]

theorem exec_lbusBusIdle_starts (h : s.lbus.st = .active) (hw : s.winner = some b)
    (hidle : ∀ k : Fin 16, s.lbus.bufs[k].st ≠ 2) :
    exec .lbusBusIdle s = .next (onBuf s b fun x => { x with st := 2 }) := by
  have hall : (s.lbus.bufs.toList.all fun x => x.st != 2) = true := by
    rw [List.all_eq_true]
    intro x hx
    obtain ⟨i, hi, rfl⟩ := List.mem_iff_getElem.mp hx
    have hlen : i < 16 := by simpa using hi
    exact bne_iff_ne.mpr (hidle ⟨i, hlen⟩)
  simp only [exec, execLbusBusIdle, h, hw, hall, if_true]

/-! ### Errors, bus-off and recovery (R318) -/

/-- The receive error counter after an error. -/
def rxBad (m : Nat) (dominant : Bool) : Nat := min 255 (m + if dominant then 8 else 1)

theorem exec_lbusRxError_active (h : s.lbus.st = .active) : exec (.lbusRxError d) s =
    .next (settleErr ((send s .canErrorFrame).onLbus fun l => { l with rxErr := rxBad l.rxErr d })) := by
  simp only [exec, execLbusRxError, State.busNormal, h, beq_self_eq_true, Bool.true_or, if_true]
  rfl

/-- The bus-offs of the last 60 s. -/
def State.recentOffs (s : State) : List Nat := s.lbus.offTimes.filter fun u => decide (s.clock < u + 60 * secNs)

/-- The controller at bus-off: its frame in progress is pending again. -/
def Lbus.offBus (l : Lbus) (times : List Nat) (hold : Option Nat) : Lbus :=
  { l with
    st := .busOff
    cntBusoff := bump 8 l.cntBusoff
    offTimes := times
    held := false
    recovering := false
    offDue := hold
    bufs := l.bufs.map fun y => if y.st = 2 then { y with st := 1 } else y }

theorem exec_lbusBusOff_held (hst : s.lbus.st = .active ∨ s.lbus.st = .passive) (ht : 256 ≤ s.lbus.txErr)
    (ha : s.im.autoRecover = 1) (hm : s.recentOffs.length + 1 < s.im.busoffMax) : exec .lbusBusOff s =
      .next (logEvent (s.onLbus fun l => l.offBus (s.clock :: s.recentOffs) (some (s.clock + msNs * s.im.busoffHold)))
        0x7002 (min s.lbus.txErr 255)) := by
  have hnormal : s.busNormal = true := by
    unfold State.busNormal
    obtain h | h := hst <;> rw [h] <;> rfl
  have hfew : decide (s.im.busoffMax ≤ (s.clock :: s.recentOffs).length) = false :=
    decide_eq_false (Nat.not_le.mpr hm)
  have hif : (if (false || !decide (s.im.autoRecover = 1)) = true then none
      else some (s.clock + msNs * s.im.busoffHold)) = some (s.clock + msNs * s.im.busoffHold) := by
    rw [ha]; rfl
  unfold State.recentOffs at hfew
  simp only [exec, execLbusBusOff, hnormal, ht, hfew, hif, decide_true, Bool.and_self, Bool.false_eq_true, if_true,
    if_false]
  rfl

theorem exec_busoffHoldExpiry_due (h : s.lbus.st = .busOff) (hd : s.lbus.offDue = some t0) (ht : t0 ≤ s.clock) :
    exec .busoffHoldExpiry s = .next (s.onLbus fun l => { l with recovering := true, offDue := none }) := by
  simp only [exec, execBusoffHoldExpiry, h, due_of hd ht, beq_self_eq_true, Bool.and_self, if_true]

theorem exec_busOffRecovered_recovering (h : s.lbus.st = .busOff) (hr : s.lbus.recovering = true) :
    exec .busOffRecovered s = .next (logEvent (s.onLbus fun l =>
      { l with st := .active, rxErr := 0, txErr := 0, recovering := false, held := false }) 0x7003
        s.recentOffs.length) := by
  simp only [exec, execBusOffRecovered, h, hr, beq_self_eq_true, Bool.and_self, if_true]
  rfl

theorem opLbusRecover_busOff (h : s.lbus.st = .busOff) :
    opLbusRecover s = (s.onLbus fun l => { l with recovering := true, held := false, offDue := none }, 0) := by
  simp only [opLbusRecover, h, beq_self_eq_true, if_true]

end

/-- Settles O17: LBUS_TX_GO by the checks of the frame, LBUS_TX_CANCEL by what becomes of each buffer, and the end of a
frame under way by the loop delay and by `retryBuf`. -/
theorem localBusTransmission : Obligations.LocalBusTransmission := by
  unfold Obligations.LocalBusTransmission
  refine ⟨?_, ?_, ?_, ?_, ?_, ?_, ?_, ?_, ?_, ?_⟩
  · -- LBUS_TX_GO
    intro s p b hg hb hf ho hs hd hi
    have hop : opLbusGo p b s = (loadBuf s b (windowFrame s.lbus.win[p.idx]), 0) := by
      rw [opLbusGo_station hb hf ho hs hd, hi]
      rfl
    exact completes_granted rfl hg hop ⟨answered_of rfl, rfl⟩ (by rw [hop]; rfl) rfl rfl
  · -- LBUS_TX_GO of a buffer of the device
    intro s p b hg hb
    exact completes_unchanged rfl hg (opLbusGo_own hb)
  · -- LBUS_TX_GO of an incoherent frame
    intro s p b hg hb hf ho hs hd hi
    exact completes_unchanged rfl hg (by rw [opLbusGo_station hb hf ho hs hd, hi]; rfl)
  · -- LBUS_TX_CANCEL
    intro s p mask hg
    exact completes_granted (op := opLbusCancel mask) rfl hg rfl ⟨rfl, fun b => opLbusCancel_at mask b⟩
      (opLbusCancel_drop mask s rfl) rfl rfl
  · -- CAN_TX_COMPLETE
    intro s b f delay hf hs hd hst htx hrx
    have hexec := exec_canTxComplete_sent hf hs hd
    have htx' : s.lbus.txErr - 1 ≤ 127 := by omega
    rw [settle_quiet (by exact hst) (by exact htx') (by exact hrx), hst] at hexec
    exact completes_within hexec ⟨rfl, rfl⟩ rfl
  · -- CAN_TX_COMPLETE with a loop delay out of range
    intro s b f delay hf hs hfd hbrs hrate hd
    refine completes_within (exec_canTxComplete_late hf hs hfd hbrs hrate hd) ?_ ?_
    · have hended : (endBuf s b).lbus.bufs[b] = {} := by rw [endBuf_at, if_pos rfl]
      obtain ⟨hrange, hbuf, hsent⟩ := loopDelayBad_effect (endBuf s b) delay b (by rw [hended])
      exact ⟨hrange, hbuf.trans hended, hsent,
        same_of_drop (loopDelayBad_drop (fm := 8724152320) (endBuf s b) delay rfl) .outbox rfl⟩
    · exact (loopDelayBad_drop _ delay rfl).trans rfl
  · -- CAN_TX_ATTEMPT_FAIL, a retry
    intro s b hs hc hsh
    have hexec := exec_canTxAttemptFail_arbitration hs
    rw [retryBuf_again hc hsh] at hexec
    exact completes_within hexec rfl rfl
  · -- CAN_TX_ATTEMPT_FAIL of a cancelled buffer, or of a bus that is shed
    intro s b hs h
    have hexec := exec_canTxAttemptFail_arbitration hs
    rw [retryBuf_ends h] at hexec
    exact completes_within hexec rfl rfl
  · -- CAN_TX_ATTEMPT_FAIL by an error
    intro s b hs hc hsh hst htx hrx
    have hexec := exec_canTxAttemptFail_error hs
    rw [retryBuf_again (by exact hc) (by exact hsh),
      settle_quiet (by exact hst) (by exact htx) (by exact hrx)] at hexec
    exact completes_within hexec ⟨rfl, rfl⟩ ((onBuf_drop _ _ _ rfl).trans
      ((State.onLbus_drop rfl).trans (send_drop _ _ rfl)))
  · -- LBUS_STATUS_PERIOD
    intro s ho hp hi hs hst hb
    exact completes_within (exec_lbusStatusPeriod_loads ho hp hi hs hst hb) rfl rfl

/-- Settles O18: a frame by whether the controller receives it and by the free entry, bus idle by the controller's state,
and the errors by `settleErr`. -/
theorem localBusReceptionAndErrors : Obligations.LocalBusReceptionAndErrors := by
  unfold Obligations.LocalBusReceptionAndErrors
  refine ⟨?_, ?_, ?_, ?_, ?_, ?_, ?_, ?_, ?_, ?_, ?_, ?_, ?_, ?_, ?_, ?_⟩
  · -- LBUS_RX_ACK
    intro s p e x hg hx ho
    exact completes_granted rfl hg (opLbusAck_owned hx ho) ⟨answered_of rfl, rfl⟩
      (by rw [opLbusAck_owned hx ho]; rfl) rfl rfl
  · -- LBUS_RX_ACK of an entry that holds no frame
    intro s p e hg hx
    exact completes_unchanged rfl hg (opLbusAck_empty hx)
  · -- CAN_FRAME_RX while monitoring
    intro s f n k hst hid ha hn hd
    have hexec := exec_canFrameRx_silent (receives_monitoring hst) hid ha
    rw [deliver_free (n := n) (by exact hn) (by exact hd)] at hexec
    exact completes_within hexec rfl ((State.onLbus_drop rfl).trans (State.onLbus_drop rfl))
  · -- CAN_FRAME_RX without a free entry
    intro s f k hst hid ha hn
    have hexec := exec_canFrameRx_silent (receives_monitoring hst) hid ha
    rw [deliver_overrun (by exact hn)] at hexec
    exact completes_within hexec rfl
      ((State.onLbus_drop rfl).trans ((dcqFull_drop _ _ rfl).trans (State.onLbus_drop rfl)))
  · -- CAN_FRAME_RX without a filter
    intro s f hst hid ha htx hrx
    have hexec := exec_canFrameRx_unfiltered (receives_active hst) hid ha
    have hgood : rxGood s.lbus.rxErr (s.freeN 66) = s.lbus.rxErr - 1 := if_neg (Nat.not_lt.mpr hrx)
    have hrx' : s.lbus.rxErr - 1 ≤ 127 := by omega
    rw [hgood, settle_quiet (by exact hst) (by exact htx) (by exact hrx')] at hexec
    refine completes_within hexec ⟨?_, ?_⟩ 
      ((nextFree_drop _ rfl).trans ((State.onLbus_drop rfl).trans ((send_drop _ _ rfl).trans (State.onLbus_drop rfl))))
    · rw [nextFree_lbus]; rfl
    · rw [nextFree_outbox]; rfl
  · -- CAN_FRAME_RX of the frame in progress when the bus was stopped
    intro s f n k u hst hl ht hid ha hn hd
    have hexec := exec_canFrameRx_silent (receives_tail hst hl ht) hid ha
    rw [deliver_free (n := n) (by exact hn) (by exact hd)] at hexec
    exact completes_within hexec rfl ((State.onLbus_drop rfl).trans (State.onLbus_drop rfl))
  · -- CAN_FRAME_RX of a later frame
    intro s f hst hl
    exact completes_within (exec_canFrameRx_unreceived (receives_none hst hl)) rfl rfl
  · -- LBUS_BUS_IDLE at the end of the integration
    intro s hst hw
    exact completes_within (exec_lbusBusIdle_integrated hst hw) rfl rfl
  · -- LBUS_BUS_IDLE of a new token holder
    intro s hst hn
    exact completes_within (exec_lbusBusIdle_normal hst hn) rfl rfl
  · -- LBUS_BUS_IDLE with a frame to offer
    intro s b hst hw hidle
    exact completes_within (exec_lbusBusIdle_starts hst hw hidle) rfl rfl
  · -- LBUS_RX_ERROR
    intro s d hst htx hrx
    have hexec := exec_lbusRxError_active (d := d) hst
    have hmin : rxBad s.lbus.rxErr d = s.lbus.rxErr + if d then 8 else 1 := by unfold rxBad; omega
    have hrx' : rxBad s.lbus.rxErr d ≤ 127 := hmin ▸ hrx
    rw [settle_quiet (by exact hst) (by exact htx) (by exact hrx')] at hexec
    exact completes_within hexec ⟨rfl, congrArg (fun m => { s.lbus with rxErr := m }) hmin⟩ rfl
  · -- LBUS_RX_ERROR beyond 127
    intro s d hst hrx
    have hexec := exec_lbusRxError_active (d := d) hst
    have hrx' : 127 < rxBad s.lbus.rxErr d := by unfold rxBad; omega
    rw [settle_passive (by exact hst) (Or.inr (by exact hrx'))] at hexec
    refine completes_within hexec ⟨?_, ?_, ?_⟩ ((logEvent_drop _ _ _ _ _ rfl).trans
      ((State.onLbus_drop rfl).trans ((State.onLbus_drop rfl).trans (send_drop _ _ rfl))))
    · rw [logEvent_outbox]; rfl
    · rw [logEvent_lbus]; rfl
    · exact logged_of rfl rfl rfl rfl _ _ _ _
  · -- LBUS_BUS_OFF
    intro s hst ht ha hm
    refine completes_within (exec_lbusBusOff_held hst ht ha hm) ⟨?_, ?_⟩
      ((logEvent_drop _ _ _ _ _ rfl).trans (State.onLbus_drop rfl))
    · rw [logEvent_lbus]; rfl
    · exact logged_of rfl rfl rfl rfl _ _ _ _
  · -- BUSOFF_HOLD_EXPIRY
    intro s t0 hst hd ht
    exact completes_within (exec_busoffHoldExpiry_due hst hd ht) rfl rfl
  · -- BUS_OFF_RECOVERED
    intro s hst hr
    refine completes_within (exec_busOffRecovered_recovering hst hr) ⟨?_, ?_⟩
      ((logEvent_drop _ _ _ _ _ rfl).trans (State.onLbus_drop rfl))
    · rw [logEvent_lbus]; rfl
    · exact logged_of rfl rfl rfl rfl _ _ _ _
  · -- LBUS_CMD_RECOVER
    intro s p hg hst
    exact completes_granted rfl hg (opLbusRecover_busOff hst) ⟨answered_of rfl, rfl⟩
      (by rw [opLbusRecover_busOff hst]; rfl) rfl rfl

end Sys2Proof.Machine
end

section
/-! SUPPORT. Maintenance activities: starts, refusals and ends (O35, O36, O37). -/

set_option Elab.async false

namespace Sys2Proof.Machine

section
variable {s x : State} {p : Requester} {code : ActCode} {c : ChainId} {m : Fin 32} {i j : Fin 4} {cmd : Instr}
  {op : State → RegRes} {pre : Bool} {begins : State → State} {v : Activity} {r : Nat} {n : Fin 12} {cls : OpClass}

/-! ### A start that is refused (R355, R356) -/

theorem admitAct_locked {h : Nat × Fin 4 × Activity} (hh : s.holder (code.res c) (s.actMask p code) = some h) :
    admitAct s p code c m pre begins = refuseLocked s p code h := by
  simp only [admitAct, hh]

theorem admitAct_unready (hh : s.holder (code.res c) (s.actMask p code) = none)
    (hn : s.freeSlot = none ∨ s.arm.owner = false) : admitAct s p code c m pre begins = (s, 4) := by
  unfold admitAct
  dsimp only
  rw [hh]
  dsimp only
  obtain hslot | howner := hn
  · rw [hslot]
  · rw [howner]
    split
    · rfl
    · exact if_pos rfl

theorem opMntSentUpdate_admits (p : Requester) (c : ChainId) (m : Fin 32) (s : State) :
    ∃ pre begins, opMntSentUpdate p c m s = admitAct s p .sentUpdate c m pre begins := by
  unfold opMntSentUpdate
  exact ⟨_, _, rfl⟩

theorem opMntContTest_admits (p : Requester) (c : ChainId) (m : Fin 32) (s : State) :
    ∃ pre begins, opMntContTest p c m s = admitAct s p .contTest c m pre begins := by
  unfold opMntContTest
  exact ⟨_, _, rfl⟩

theorem opMntHeaterTest_admits (p : Requester) (c : ChainId) (m : Fin 32) (s : State) :
    ∃ pre begins, opMntHeaterTest p c m s = admitAct s p .heaterTest c m pre begins := by
  unfold opMntHeaterTest
  exact ⟨_, _, rfl⟩

/-- A start on a resource that another activity holds shows the holder, is logged and answers 0x05. -/
theorem completes_locked (hc : exec cmd s = .next (regCmd s p fun s => withRight s p cls mntStartAddr op))
    (hg : Granted s p cls mntStartAddr) (hop : ∃ pre begins, op s = admitAct s p code c m pre begins)
    (hh : s.holder (code.res c) (s.actMask p code) = some (r, j, v)) : Completes cmd s [.mnt, .evt, .outbox] fun t =>
      t.mnt = { s.mnt with
        refused := s.mnt.refused.set p.idx (BitVec.ofNat 32 (code.num * 2 ^ 24 + r * 2 ^ 20 + j.val * 2 ^ 16 +
          v.port.num * 2 ^ 8 + v.code.num)) } ∧
      Logged s t 0xC002 code.num j.val (v.code.num + v.port.num * 2 ^ 8) ∧ Answered s t p 5 := by
  obtain ⟨pre, begins, hadmit⟩ := hop
  have hlocked : op s = refuseLocked s p code (r, j, v) := hadmit.trans (admitAct_locked hh)
  refine completes_granted hc hg hlocked ⟨?_, ?_, answered_of ?_⟩ ?_ rfl rfl
  · rw [answer_mnt, logEvent_mnt]
    rfl
  · exact (answer_evt ..).trans (logged_of rfl rfl rfl rfl _ _ _ _)
  · exact logEvent_outbox ..
  · rw [hlocked]
    exact refuseLocked_drop s p code (r, j, v) rfl

/-- A start without a slot or without the token answers 0x04. -/
theorem completes_unready (hc : exec cmd s = .next (regCmd s p fun s => withRight s p cls mntStartAddr op))
    (hg : Granted s p cls mntStartAddr) (hop : ∃ pre begins, op s = admitAct s p code c m pre begins)
    (hh : s.holder (code.res c) (s.actMask p code) = none) (hn : s.freeSlot = none ∨ s.arm.owner = false) :
    Completes cmd s [.outbox] fun t => Answered s t p 4 := by
  obtain ⟨pre, begins, hadmit⟩ := hop
  exact completes_unchanged hc hg (hadmit.trans (admitAct_unready hh hn))

/-! ### A start that is admitted (R356) -/

/-- The activity that a start puts in its slot. -/
def startedAct (s : State) (p : Requester) (code : ActCode) (c : ChainId) (m : Fin 32) : Activity :=
  { code := code
    port := p
    chain := c
    mod := m
    res := code.res c
    startedAt := s.clock
    timeout := if code.timed then some (s.clock + secNs * s.im.actTimeout) else none
    mask := s.actMask p code
    answered := 0
    value := s.mnt.argValue[p.idx] }

/-- The state in which an admitted activity does its first action. -/
def admitted (s : State) (p : Requester) (code : ActCode) (c : ChainId) (m : Fin 32) (i : Fin 4) : State :=
  watchReady (logEvent (s.onMnt fun t => { t with acts := t.acts.set i (some (startedAct s p code c m)) })
    0xC001 code.num p.num i.val)

theorem admitted_drop {fm : Nat} (s : State) (p : Requester) (code : ActCode) (c : ChainId) (m : Fin 32) (i : Fin 4)
    (hfm : fm &&& 12884901952 = 12884901952) : (admitted s p code c m i).drop fm = s.drop fm :=
  drop_sub hfm ((watchReady_drop _ rfl).trans ((logEvent_drop _ _ _ _ _ rfl).trans (State.onMnt_drop rfl)))

theorem admitted_mnt (s : State) (p : Requester) (code : ActCode) (c : ChainId) (m : Fin 32) (i : Fin 4) :
    (admitted s p code c m i).mnt = { s.mnt with acts := s.mnt.acts.set i (some (startedAct s p code c m)) } := by
  rw [admitted, watchReady_mnt, logEvent_mnt]
  rfl

/-- What an admission leaves of the blocks that the first actions read. -/
theorem admitted_keeps (s : State) (p : Requester) (code : ActCode) (c : ChainId) (m : Fin 32) (i : Fin 4) :
    (admitted s p code c m i).img.active = s.img.active ∧ (admitted s p code c m i).clock = s.clock ∧
    (admitted s p code c m i).arm = s.arm ∧ (∀ k, (admitted s p code c m i).chain k = s.chain k) ∧
    (∀ k, (admitted s p code c m i).sen k = s.sen k) := by
  have hdrop := admitted_drop (fm := 12884901952) s p code c m i rfl
  exact ⟨same_of_drop hdrop .image rfl, same_of_drop hdrop .clock rfl, same_of_drop hdrop .arm rfl,
    chain_of (same_of_drop hdrop .chA rfl) (same_of_drop hdrop .chB rfl),
    sen_of (same_of_drop hdrop .snA rfl) (same_of_drop hdrop .snB rfl)⟩

theorem im_eq (h : x.img.active = s.img.active) : x.im = s.im := congrArg (fun a => a.getD Image.empty) h

/-- A granted start with a free resource, a free slot, the token and its preconditions. -/
theorem exec_mntStart_admitted (hc : exec cmd s = .next (regCmd s p fun s => withRight s p cls mntStartAddr op))
    (hg : Granted s p cls mntStartAddr) (hop : op s = admitAct s p code c m pre begins)
    (hh : s.holder (code.res c) (s.actMask p code) = none) (hs : s.freeSlot = some i) (ho : s.arm.owner = true)
    (hp : pre = true) (hb : (begins (admitted s p code c m i)).dev.phase = (admitted s p code c m i).dev.phase) :
    exec cmd s = .next (answer (begins (admitted s p code c m i)) p 0) := by
  have hdrop := admitted_drop (fm := 12884901952) s p code c m i rfl
  rw [admitAct_effect hh hs ho hp] at hop
  exact exec_granted hc hg hop (hb.trans (same_of_drop hdrop .phase rfl))

/-- A first action that leaves the slots as they are leaves the activity in its slot and the other slots alone. -/
theorem slots_of_admitted (h : x.mnt.acts = (admitted s p code c m i).mnt.acts) :
    x.mnt.acts[i] = some (startedAct s p code c m) ∧ ∀ j, j ≠ i → x.mnt.acts[j] = s.mnt.acts[j] := by
  rw [h, admitted_mnt]
  refine ⟨Vector.getElem_set_self .., fun j hj => ?_⟩
  exact Vector.getElem_set_ne i.isLt j.isLt fun e => hj (Fin.ext e.symm)

/-! ### First actions (R176, R355) -/

/-- The record of a wave of module m that begins. -/
def learnBegun (s : State) (c : ChainId) (m : Fin 32) : LearnRec :=
  { ({} : LearnRec) with
    target := m
    pos := true
    halfDue := some (s.clock + msNs * s.im.learnPeriod c / 2)
    startSoc := s.socDis c m }

/-- The wave of module m begins: the module leaves the order, and the first half is positive. -/
def beginLearn (c : ChainId) (m : Fin 32) (s : State) : State :=
  learnPhase (s.onChain c fun ch =>
    { ch with learnOn := true, order := ch.order.filter (· != m), learn := learnBegun s c m }) c 1

theorem opMntLearn_admits (hm : m.val < s.nMods) : opMntLearn p c m s = admitAct s p .learn c m
    (s.declared c && (s.chain c).st == .run && (s.chain c).mods[m].st != .parked && !(s.chain c).mods[m].lost)
      (beginLearn c m) := by
  refine if_neg ?_
  simp only [decide_eq_false (Nat.not_le.mpr hm), Bool.and_false, Bool.false_eq_true, not_false_eq_true]

theorem beginLearn_chain (s : State) (c : ChainId) (m : Fin 32) : (beginLearn c m s).chain c =
    { s.chain c with
      learnOn := true
      order := (s.chain c).order.filter (· != m)
      learn := { learnBegun s c m with phase := 1, taper := false, amp := 100 * s.im.learnAmp c } } := by
  rw [beginLearn, learnPhase, logEvent_chain, onChain_self, onChain_self]
  cases c <;> rfl

/-- SENT_UPDATE as the statements see it, for item 6: a CONFIG request to each named module. -/
theorem opMntSentUpdate_item6 (hi : s.mnt.argValue[p.idx].toNat / 65536 % 256 = 6) :
    opMntSentUpdate p c m s = admitAct s p .sentUpdate c m (s.declared c && (s.sen c).stage == .enumerated)
      fun x => (x.named x.mnt.argMask[p.idx]).foldl
        (fun t k => sendSrq t c k 2 (cfgItem 6 (s.mnt.argValue[p.idx].toNat % 65536))) x := by
  unfold opMntSentUpdate
  dsimp only
  rw [hi]
  simp only [show ((6 : Nat) == 3 || (6 : Nat) == 6 || (6 : Nat) == 2 &&
    ((s.chain c).st == .absent || (s.chain c).st == .block)) = true from rfl, Bool.and_true]

/-- The heaters go off, and the first of a list is driven. -/
def beginHeaterTest (s : State) : State :=
  testHeater ((s.heaters.foldl (fun t n => if heatOnSt t.thm.heat[n] then setHeater t n .off else t) s).onThm
    fun t => { t with heatDue := [] }) s.heaters

/-- What driving heaters leaves alone. -/
theorem heatersOff_drop {fm : Nat} (s : State) (l : List (Fin 12)) (hfm : fm &&& 8665432064 = 8665432064) :
    (l.foldl (fun t n => if heatOnSt t.thm.heat[n] then setHeater t n .off else t) s).drop fm = s.drop fm := by
  refine foldl_drop (fun t n => ?_) l s
  split
  · exact setHeater_drop t n .off hfm
  · rfl

/-- The drive of the first heater of a list leaves no heater waiting. -/
theorem testHeater_heatDue (s : State) (n : Fin 12) (l : List (Fin 12)) :
    (testHeater s (n :: l)).thm.heatDue = s.thm.heatDue := by
  obtain ⟨-, -, hdue, -⟩ :=
    setHeater_effect (s.onMnt fun k => { k with heatTest := some (n, s.clock + secNs * s.im.heaterTestOn) }) n .forcedOn
  exact hdue

/-- The first heater of the image is driven alone, and no heater waits. -/
theorem beginHeaterTest_effect {ns : List (Fin 12)} (hn : s.heaters = n :: ns) :
    (beginHeaterTest s).mnt = { s.mnt with heatTest := some (n, s.clock + secNs * s.im.heaterTestOn) } ∧
    (beginHeaterTest s).thm.heat[n] = .forcedOn ∧ (beginHeaterTest s).lsw.ch[n].want = true ∧
    (beginHeaterTest s).thm.heatDue = [] := by
  have hoff := heatersOff_drop (fm := 8665432064) s s.heaters rfl
  unfold beginHeaterTest
  generalize hx : (s.heaters.foldl (fun t n => if heatOnSt t.thm.heat[n] then setHeater t n .off else t) s) = x at hoff ⊢
  have hmnt : x.mnt = s.mnt := same_of_drop hoff .mnt rfl
  have hclock : x.clock = s.clock := same_of_drop hoff .clock rfl
  have him : x.im = s.im := im_eq (same_of_drop hoff .image rfl)
  rw [hn]
  obtain ⟨htest, hheat, hwant⟩ := testHeater_effect (x.onThm fun t => { t with heatDue := [] }) n ns
  refine ⟨htest.trans ?_, hheat, hwant, testHeater_heatDue _ n ns⟩
  change { x.mnt with heatTest := some (n, x.clock + secNs * x.im.heaterTestOn) } = _
  rw [hmnt, hclock, him]

/-- The runs that RECORD_EXPORT sends: those of the events held, then the records. -/
def exportRuns (s : State) : List (Nat × Nat × List Byte) :=
  eventRuns ((s.evt.held.head?.map (·.seq)).getD 0) s.evt.held ++ [(3, 0, Config.recordStream s.free)]

/-- RECORD_EXPORT towards the Spline fills the queue of its BULK slots. -/
def beginExport (s : State) : State :=
  ((nextFree s).onMnt fun t => { t with exported := (s.evt.held.head?.map (·.seq)).getD 0 }).onMnt fun t =>
    { t with exportQ := exportRuns s }

theorem opMntRecordExport_spline :
    opMntRecordExport .spline c m s = admitAct s .spline .recordExport c m true beginExport := rfl

theorem beginExport_queued (s : State) : (beginExport s).mnt.exportQ ≠ [] :=
  List.append_ne_nil_of_right_ne_nil _ (List.cons_ne_nil _ _)

/-! ### The end of an activity (R357) -/

theorem exec_mntStop_ends (hp : s.portOpen p = true) (hv : s.mnt.acts[i] = some v) (hport : v.port = p)
    (hr : s.right p v.code.right mntStopAddr = true) : exec (.mntStop p i) s = .next (answer (endAct s 1 i) p 0) := by
  have hop : opMntStop p i s = (endAct s 1 i, 0) := by
    simp only [opMntStop, hv, hport, hr, beq_self_eq_true, Bool.and_self, if_true]
  exact congrArg _ (regCmd_open hp hop (same_of_drop (endAct_drop (fm := 12960628736) s 1 i rfl) .phase rfl))

theorem exec_mntStop_free (hp : s.portOpen p = true) (hv : s.mnt.acts[i] = none) :
    exec (.mntStop p i) s = .next (answer s p 0) := by
  have hop : opMntStop p i s = (s, 0) := by simp only [opMntStop, hv]
  exact congrArg _ (regCmd_open hp hop rfl)

theorem exec_mntStop_other (hp : s.portOpen p = true) (hv : s.mnt.acts[i] = some v) (hport : v.port ≠ p)
    (hs : p ≠ .service) : exec (.mntStop p i) s = .next (answer s p 1) := by
  have hop : opMntStop p i s = (s, 1) := by
    have hport' : (v.port == p) = false := beq_eq_false_iff_ne.mpr hport
    have hs' : (p == .service) = false := beq_eq_false_iff_ne.mpr hs
    simp only [opMntStop, hv, hport', hs', Bool.false_and, Bool.false_eq_true, if_false]
  exact congrArg _ (regCmd_open hp hop rfl)

theorem exec_actTimeoutExpiry_due (hv : s.mnt.acts[i] = some v) (hd : due s.clock v.timeout = true) :
    exec (.actTimeoutExpiry i) s = .next (endAct s 2 i) := by
  simp only [exec, execActTimeoutExpiry, hv, hd, if_true]

theorem exec_activityComplete_done (hv : s.mnt.acts[i] = some v) (hd : s.actDone v = true) :
    exec (.activityComplete i) s = .next (endAct s 0 i) := by
  simp only [exec, execActivityComplete, hv, hd, if_true]

theorem exec_heaterTestChannelEnd_due {t0 : Nat} (ht : s.mnt.heatTest = some (n, t0)) (hd : t0 ≤ s.clock) :
    exec .heaterTestChannelEnd s =
      .next (testHeater (setHeater s n .off) (s.heaters.filter fun k => decide (n.val < k.val))) := by
  simp only [exec, execHeaterTestChannelEnd, ht, hd, if_true]

end

/-- Settles O36: each activity's operation is `admitAct`, which refuses for a lock first, and then for want of a slot or
of the token. -/
theorem activitiesAreRefused : Obligations.ActivitiesAreRefused := by
  unfold Obligations.ActivitiesAreRefused
  refine ⟨?_, ?_, ?_, ?_, ?_, ?_, ?_, ?_, ?_, ?_, ?_, ?_, ?_, ?_, ?_, ?_⟩
  · -- MNT_START_LEARN
    intro s p c m r j v hg hm hh
    exact completes_locked (code := .learn) rfl hg ⟨_, _, opMntLearn_admits hm⟩ hh
  · intro s p c m hg hm hh hn
    exact completes_unready rfl hg ⟨_, _, opMntLearn_admits hm⟩ hh hn
  · -- MNT_START_SENT_UPDATE
    intro s p c m r j v hg hh
    exact completes_locked (code := .sentUpdate) rfl hg (opMntSentUpdate_admits p c m s) hh
  · intro s p c m hg hh hn
    exact completes_unready rfl hg (opMntSentUpdate_admits p c m s) hh hn
  · -- MNT_START_GATE_TEST
    intro s p c m r j v hg hh
    exact completes_locked (code := .gateTest) rfl hg ⟨_, _, rfl⟩ hh
  · intro s p c m hg hh hn
    exact completes_unready rfl hg ⟨_, _, rfl⟩ hh hn
  · -- MNT_START_JIG
    intro s p c m r j v hg hh
    exact completes_locked (code := .jig) rfl hg ⟨_, _, rfl⟩ hh
  · intro s p c m hg hh hn
    exact completes_unready rfl hg ⟨_, _, rfl⟩ hh hn
  · -- MNT_START_PRECHARGE
    intro s p c m r j v hg hh
    exact completes_locked (code := .precharge) rfl hg ⟨_, _, rfl⟩ hh
  · intro s p c m hg hh hn
    exact completes_unready rfl hg ⟨_, _, rfl⟩ hh hn
  · -- MNT_START_CONT_TEST
    intro s p c m r j v hg hh
    exact completes_locked (code := .contTest) rfl hg (opMntContTest_admits p c m s) hh
  · intro s p c m hg hh hn
    exact completes_unready rfl hg (opMntContTest_admits p c m s) hh hn
  · -- MNT_START_HEATER_TEST
    intro s p c m r j v hg hh
    exact completes_locked (code := .heaterTest) rfl hg (opMntHeaterTest_admits p c m s) hh
  · intro s p c m hg hh hn
    exact completes_unready rfl hg (opMntHeaterTest_admits p c m s) hh hn
  · -- MNT_START_RECORD_EXPORT
    intro s p c m r j v hg hh
    exact completes_locked (code := .recordExport) rfl hg ⟨_, _, rfl⟩ hh
  · intro s p c m hg hh hn
    exact completes_unready rfl hg ⟨_, _, rfl⟩ hh hn

/-- Settles O37: the ends by `endAct_acts`, and the heater test by the heaters that come after the one that ends. -/
theorem activitiesEnd : Obligations.ActivitiesEnd := by
  unfold Obligations.ActivitiesEnd
  refine ⟨?_, ?_, ?_, ?_, ?_, ?_⟩
  · -- MNT_STOP by the activity's port
    intro s p i v hp hv hport hr
    refine completes_exec (exec_mntStop_ends hp hv hport hr) ?_ (by dsimp only [execMask]; rfl)
    rw [answer_mnt]
    obtain ⟨hfree, hother⟩ := opMntStop_acts (s := s) (slot := i) _ 1 rfl
    exact ⟨hfree, hother, rfl⟩
  · -- MNT_STOP of a free slot
    intro s p i hp hv
    exact completes_within (exec_mntStop_free hp hv) (answered_of rfl) rfl
  · -- MNT_STOP by another port
    intro s p i v hp hv hport hs
    exact completes_within (exec_mntStop_other hp hv hport hs) (answered_of rfl) rfl
  · -- ACT_TIMEOUT_EXPIRY
    intro s i v hv hd
    exact completes_exec (exec_actTimeoutExpiry_due hv hd) (opMntStop_acts _ 2 rfl) (by dsimp only [execMask]; rfl)
  · -- ACTIVITY_COMPLETE
    intro s i v hv hd
    exact completes_exec (exec_activityComplete_done hv hd) (opMntStop_acts _ 0 rfl) (by dsimp only [execMask]; rfl)
  · -- HEATER_TEST_CHANNEL_END
    intro s n t0 ht hd
    refine completes_exec (exec_heaterTestChannelEnd_due ht hd) ⟨fun k ks hk => ?_, fun hk => ?_⟩
      (by dsimp only [execMask]; rfl)
    · rw [hk]
      obtain ⟨htest, hheat, hwant⟩ := testHeater_effect (setHeater s n .off) k ks
      rw [htest, setHeater_clock, im_eq (congrArg Img.active (setHeater_img s n .off))]
      exact ⟨rfl, hheat, hwant⟩
    · rw [hk]
      obtain ⟨hheat, -, -, -, hwant⟩ := setHeater_effect s n .off
      exact ⟨rfl, hheat, hwant⟩

section
variable {s : State} {p : Requester} {c : ChainId} {m : Fin 32} {i : Fin 4} {cmd : Instr} {op : State → RegRes}
  {pre : Bool} {begins : State → State} {code : ActCode} {cls : OpClass} {bs : List Block} {post : State → Prop}

/-- An admitted activity stands in its slot beside the others, is answered, and does its first action. -/
theorem completes_admitted (hc : exec cmd s = .next (regCmd s p fun s => withRight s p cls mntStartAddr op))
    (hg : Granted s p cls mntStartAddr) (hop : op s = admitAct s p code c m pre begins)
    (hh : s.holder (code.res c) (s.actMask p code) = none) (hs : s.freeSlot = some i) (ho : s.arm.owner = true)
    (hp : pre = true) (hb : ∀ x, (begins x).dev.phase = x.dev.phase ∧ (begins x).mnt.acts = x.mnt.acts)
    (hpost : post (answer (begins (admitted s p code c m i)) p 0)) (hm : execMask cmd &&& blockMask bs = execMask cmd) :
    Completes cmd s bs fun t =>
      t.mnt.acts[i] = some (startedAct s p code c m) ∧ (∀ j, j ≠ i → t.mnt.acts[j] = s.mnt.acts[j]) ∧
      t.outbox.head? = some (.status p 0) ∧ post t := by
  obtain ⟨hphase, hacts⟩ := hb (admitted s p code c m i)
  obtain ⟨hslot, hother⟩ := slots_of_admitted hacts
  refine completes_exec (exec_mntStart_admitted hc hg hop hh hs ho hp hphase) ⟨?_, ?_, rfl, hpost⟩ hm
  · rw [answer_mnt]; exact hslot
  · rw [answer_mnt]; exact hother

/-- Drop a part of what a completion says. -/
theorem Completes.mono {post' : State → Prop} (h : Completes cmd s bs post) (hp : ∀ t, post t → post' t) :
    Completes cmd s bs post' := by
  obtain ⟨t, hexec, hpost, hframe⟩ := h
  exact ⟨t, hexec, hp t hpost, hframe⟩

theorem beginLearn_keeps (c : ChainId) (m : Fin 32) (x : State) :
    (beginLearn c m x).dev.phase = x.dev.phase ∧ (beginLearn c m x).mnt.acts = x.mnt.acts := by
  have hdrop := (learnPhase_drop (fm := 8590131200) (x.onChain c fun ch =>
    { ch with learnOn := true, order := ch.order.filter (· != m), learn := learnBegun x c m }) c 1 rfl).trans
      (State.onChain_drop x c _ rfl)
  exact ⟨same_of_drop hdrop .phase rfl, congrArg Mnt.acts (same_of_drop hdrop .mnt rfl)⟩

theorem startConnect_keeps (c : ChainId) (x : State) :
    (startConnect x c true).dev.phase = x.dev.phase ∧ (startConnect x c true).mnt.acts = x.mnt.acts := by
  have hdrop := startConnect_drop (fm := 983040) x c true rfl
  exact ⟨same_of_drop hdrop .phase rfl, congrArg Mnt.acts (same_of_drop hdrop .mnt rfl)⟩

theorem requestAll_keeps (l : List (Fin 32)) (arg : List Byte) (x : State) :
    (l.foldl (fun t k => sendSrq t c k 2 arg) x).dev.phase = x.dev.phase ∧
    (l.foldl (fun t k => sendSrq t c k 2 arg) x).mnt.acts = x.mnt.acts := by
  have hmnt := srqAll_mnt c 2 arg l x
  exact ⟨foldl_keep (fun t => t.dev.phase) (fun t k => by simp) l x, congrArg Mnt.acts hmnt⟩

theorem beginExport_keeps (x : State) :
    (beginExport x).dev.phase = x.dev.phase ∧ (beginExport x).mnt.acts = x.mnt.acts := ⟨rfl, rfl⟩

theorem beginHeaterTest_keeps (x : State) :
    (beginHeaterTest x).dev.phase = x.dev.phase ∧ (beginHeaterTest x).mnt.acts = x.mnt.acts := by
  have hoff := heatersOff_drop (fm := 8665432064) x x.heaters rfl
  unfold beginHeaterTest
  generalize (x.heaters.foldl (fun t n => if heatOnSt t.thm.heat[n] then setHeater t n .off else t) x) = y at hoff ⊢
  have hphase : y.dev.phase = x.dev.phase := same_of_drop hoff .phase rfl
  have hacts : y.mnt.acts = x.mnt.acts := congrArg Mnt.acts (same_of_drop hoff .mnt rfl)
  cases x.heaters with
  | nil => exact ⟨hphase, hacts⟩
  | cons n ns =>
    rw [testHeater]
    simp only [setHeater_dev, setHeater_mnt]
    exact ⟨hphase, hacts⟩

/-- The heaters and the modules of the image in force. -/
theorem heaters_of_im {x : State} (h : x.im = s.im) : x.heaters = s.heaters := by
  unfold State.heaters State.lswClass
  rw [h]

theorem named_of_im {x : State} (h : x.im = s.im) (mask : Word) : x.named mask = s.named mask := by
  unfold State.named State.modIdx State.nMods
  rw [h]

end

/-- Settles O35: each start by `completes_admitted`, with the effect of its first action on the admitted state. -/
theorem activitiesStart : Obligations.ActivitiesStart := by
  unfold Obligations.ActivitiesStart
  refine ⟨?_, ?_, ?_, ?_, ?_, ?_, ?_, ?_⟩
  · -- MNT_START_GATE_TEST
    intro s p c m i hg hh hs ho hp
    exact (completes_admitted (code := .gateTest) (post := fun _ => True) (op := opMntGateTest p c m) rfl hg rfl hh hs ho hp
      (fun _ => ⟨rfl, rfl⟩) trivial (by dsimp only [execMask]; rfl)).mono 
        fun _ ⟨hslot, hother, hanswer, _⟩ => ⟨hslot, hother, hanswer⟩
  · -- MNT_START_JIG
    intro s p c m i hg hh hs ho hm hu
    exact (completes_admitted (code := .jig) (post := fun _ => True) (op := opMntJig p c m) rfl hg rfl hh hs ho
      (by rw [hm, hu]; rfl)
      (fun _ => ⟨rfl, rfl⟩) trivial (by dsimp only [execMask]; rfl)).mono 
        fun _ ⟨hslot, hother, hanswer, _⟩ => ⟨hslot, hother, hanswer⟩
  · -- MNT_START_LEARN
    intro s p c m i hg hh hs ho hd hm hst hpark hlost
    obtain ⟨him, hclock, -, hchain, -⟩ := admitted_keeps s p .learn c m i
    refine completes_admitted (op := opMntLearn p c m) rfl hg (opMntLearn_admits hm) hh hs ho ?_
      (beginLearn_keeps c m) ?_ (by dsimp only [execMask]; rfl)
    · have hpark' : ((s.chain c).mods[m].st != .parked) = true := bne_iff_ne.mpr hpark
      rw [hd, hst, hpark', hlost]
      rfl
    · rw [answer_chain, beginLearn_chain, hchain]
      refine ⟨rfl, rfl, rfl, rfl, ?_, ?_, rfl⟩
      · rw [← hclock, ← im_eq him]; rfl
      · rw [← im_eq him]
  · -- MNT_START_PRECHARGE
    intro s p c m i hg hh hs ho hd hcon hmode
    obtain ⟨-, hclock, -⟩ := admitted_keeps s p .precharge c m i
    refine completes_admitted (op := opMntPrecharge p c m) rfl hg rfl hh hs ho (by rw [hd, hcon, hmode]; rfl)
      (startConnect_keeps c) ?_ (by dsimp only [execMask]; rfl)
    obtain ⟨hchain, -⟩ := startConnect_chain (admitted s p .precharge c m i) c true
    rw [answer_chain, hchain, hclock]
    exact ⟨rfl, rfl, rfl, rfl⟩
  · -- MNT_START_CONT_TEST
    intro s p c m i hg hh hs ho hd hst hq hclosed hcap
    have hpre : (s.declared c && (s.chain c).st == .block && s.quiet c && (s.chain c).closed && !s.lowCap c) = true := by
      rw [hd, hst, hq, hclosed, hcap]; rfl
    have hexec := exec_mntStart_admitted (cmd := .mntStartContTest p c m) (op := opMntContTest p c m) (m := m)
      (begins := fun x => startOpening x c) rfl hg rfl hh hs ho hpre (same_of_drop (startOpening_drop (fm := 12961415168) _ c rfl) .phase rfl)
    refine completes_exec hexec ⟨?_, rfl, ?_⟩ (by dsimp only [execMask]; rfl)
    · rw [answer_mnt]
      obtain ⟨hslot, -⟩ := slots_of_admitted (s := s) (p := p) (code := .contTest) (c := c) (m := m) (i := i) rfl
      exact startOpening_acts _ c i _ hslot rfl
    · rw [answer_chain]
      obtain ⟨hopen, -, -, -, hpos, -⟩ := startOpening_effect (admitted s p .contTest c m i) c _ rfl
      exact ⟨hopen, hpos⟩
  · -- MNT_START_SENT_UPDATE
    intro s p c m i hg hh hs ho hd hst hitem
    obtain ⟨him, -, harm, -, hsen⟩ := admitted_keeps s p .sentUpdate c m i
    refine completes_admitted (op := opMntSentUpdate p c m) rfl hg (opMntSentUpdate_item6 hitem) hh hs ho
      (by rw [hd, hst]; rfl) (fun x => requestAll_keeps _ _ x) ?_ (by dsimp only [execMask]; rfl)
    rw [answer_sen, srqAll_effect _ _ _ _ _ (by rw [harm]; exact ho), hsen, named_of_im (im_eq him), admitted_mnt]
  · -- MNT_START_HEATER_TEST
    intro s p c m i hg hh hs ho hshut hs1 n ns hn
    obtain ⟨him, hclock, -⟩ := admitted_keeps s p .heaterTest c m i
    have hheaters := heaters_of_im (im_eq him)
    refine completes_admitted (op := opMntHeaterTest p c m) (begins := beginHeaterTest)
      (pre := !(s.thm.sdHotA || s.thm.sdHotB || s.thm.sdColdA || s.thm.sdColdB) && !s.pwr.s1) rfl hg rfl hh hs ho
      (by rw [hshut, hs1]; rfl) beginHeaterTest_keeps ?_ (by dsimp only [execMask]; rfl)
    obtain ⟨htest, hheat, hwant, hdue⟩ := beginHeaterTest_effect (hheaters.trans hn)
    rw [answer_mnt, answer_thm, answer_lsw, htest, hclock, im_eq him]
    exact ⟨rfl, hheat, hwant, hdue⟩
  · -- MNT_START_RECORD_EXPORT
    intro s p c m i hg hh hs ho hp
    subst hp
    exact completes_admitted (op := opMntRecordExport .spline c m) rfl hg opMntRecordExport_spline hh hs ho rfl
      beginExport_keeps (beginExport_queued _) (by dsimp only [execMask]; rfl)

end Sys2Proof.Machine
end

section
/-! SUPPORT. Attestation, the lifecycle and enrolment, the frames of the service port, and JTAG (O48, O49). -/

set_option Elab.async false

namespace Sys2Proof.Machine

section
variable {s : State} {p : Requester} {o : List Byte} {seq stream off : Nat} {data content : List Byte}
  {run : State → State × SvcFrame} {a : SvcFrame} {i : JtagInstr}

/-! ### Attestation and the stored counters (R347, R348) -/

theorem opAttest_starts (ha : s.sec.attest ≠ 1) (hc : s.sec.cntDue = false) (hw : s.writePermit = true)
    (hm : s.sec.life ≠ 0) (hd : s.sec.life ≠ 3) (hh : s.seHalted = false) :
    opAttest s = (s.onSec fun x => { x with attest := 1, attestAt := s.clock, report := [] }, 0) := by
  refine if_neg ?_
  simp only [ha, hc, hw, hm, hd, hh, decide_false, Bool.not_true, Bool.or_self, Bool.false_eq_true, not_false_eq_true]

theorem opAttest_refused (h : s.sec.attest = 1 ∨ s.sec.cntDue = true ∨ s.writePermit = false ∨ s.sec.life = 0 ∨
    s.sec.life = 3 ∨ s.seHalted = true) : opAttest s = (s, 4) := by
  refine if_pos ?_
  simp only [Bool.or_eq_true, decide_eq_true_eq, Bool.not_eq_true']
  tauto

/-- The registers of SE with the report that the counter n signs. -/
def Sec.signed (x : Sec) (n us : Nat) (body : List Byte) : Sec :=
  { x with attest := 2, elapsed := us, report := body ++ signature body, cntAttest := n, cntDue := true }

theorem exec_attestSigned_signs (ha : s.sec.attest = 1) (hc : s.sec.cntDue = false) (hh : s.seHalted = false) :
    exec .attestSigned s = .next (logEvent (s.onSec fun x => x.signed ((s.sec.cntAttest + 1) % 2 ^ 32)
      (min ((s.clock - s.sec.attestAt) / usNs) 65535) (s.reportBody ((s.sec.cntAttest + 1) % 2 ^ 32))) 0x9005
        ((s.sec.cntAttest + 1) % 2 ^ 32 % 65536)) := by
  simp only [exec, execAttestSigned, ha, hc, hh, decide_true, Bool.not_false, Bool.and_self, if_true]
  rfl

theorem signature_length (body : List Byte) : (signature body).length = 64 := by
  simp only [signature, List.length_map, List.length_range]

theorem exec_secCounterWrite_due (hc : s.sec.cntDue = true) (hw : s.writePermit = true) (hh : s.seHalted = false) :
    exec .secCounterWrite s = .next (s.onSec fun x =>
      { x with stored := (x.cntBoot, x.cntGlue, x.cntAttest, x.cntRoll), cntDue := false }) := by
  simp only [exec, execSecCounterWrite, hc, hw, hh, Bool.not_false, Bool.and_self, if_true]

/-! ### The step to FIELD (R342) -/

theorem opStepField_steps (hl : s.sec.life = 1) (hc : s.sec.opCert ≠ []) (hr : s.sec.root ≠ [])
    (hw : s.writePermit = true) : opStepField s = (logEvent (s.onSec fun x => { x with life := 2 }) 0x9001 2, 0) := by
  simp only [opStepField, hl, List.isEmpty_eq_false_iff.mpr hc, List.isEmpty_eq_false_iff.mpr hr, hw, ne_eq,
    not_true_eq_false, decide_false, Bool.or_self, Bool.not_true, Bool.false_eq_true, if_false]

theorem opStepField_refused (h : s.sec.life ≠ 1 ∨ s.sec.opCert = [] ∨ s.sec.root = []) :
    opStepField s = (logEvent s 0x9003 0 5, 4) := by
  refine if_pos ?_
  simp only [Bool.or_eq_true, decide_eq_true_eq, List.isEmpty_iff]
  tauto

/-- The step is denied to every other port than the service port, whatever its rights. -/
theorem exec_secCmdStepField_denied (hp : s.portOpen p = true) (hs : p ≠ .service) :
    exec (.secCmdStepField p) s = .next (answer (deny s p .identity secCmdAddr) p 2) := by
  have hop : (if p == .service then withRight s p .identity secCmdAddr opStepField
      else (deny s p .identity secCmdAddr, 2)) = (deny s p .identity secCmdAddr, 2) := if_neg (by rwa [beq_iff_eq])
  exact congrArg _ (regCmd_open hp hop (same_of_drop (deny_drop (fm := 10737418240) s p .identity _ rfl) .phase rfl))

/-! ### Enrolment (R343, R345) -/

/-- The service port forgets the request before the object: R353 repeats no answer of it. -/
def requestForgotten (s : State) : State := s.onSec fun x => { x with svcSeq := none, svcAns := none }

/-- The status that a refused object is answered with. -/
def enrolStatus (r : Nat) : Nat := if r = 2 then 7 else 4

/-- An object of a roll kind needs no right, and the result decides what it writes. -/
theorem exec_enrolmentObject_refused (hp : s.portOpen .service = true) (hh : s.seHalted = false)
    (hk : 3 ≤ leAt (objBytes o) 0 1) (hr : s.enrolResult o ≠ 1) : exec (.enrolmentObject o) s =
      .next (ack (logEvent ((requestForgotten s).onSec fun x => { x with enrol := s.enrolResult o }) 0x9003
        (leAt (objBytes o) 0 1) (s.enrolResult o)) (enrolStatus (s.enrolResult o))) := by
  have h1 : leAt (objBytes o) 0 1 ≠ 1 := by omega
  have h2 : leAt (objBytes o) 0 1 ≠ 2 := by omega
  simp only [exec, execEnrolmentObject, hp, hh, h1, h2, hr, decide_false, Bool.or_self, Bool.false_and, Bool.not_true,
    Bool.false_eq_true, if_false]
  rfl

theorem exec_enrolmentObject_roll (hp : s.portOpen .service = true) (hh : s.seHalted = false)
    (hk : leAt (objBytes o) 0 1 = 3) (hr : s.enrolResult o = 1) : exec (.enrolmentObject o) s =
      .next (ack (enrol (requestForgotten s) o) 0) := by
  simp only [exec, execEnrolmentObject, hp, hh, hk, hr, decide_false, Bool.or_self, Bool.false_and, Bool.not_true,
    Bool.false_eq_true, if_false, if_true, Nat.reduceEqDiff]
  rfl

/-- A certificate roll writes the operator certificate and counts. -/
theorem enrol_roll (hk : leAt (objBytes o) 0 1 = 3) : enrol s o = logEvent (s.onSec fun x =>
    { x with enrol := 1, cntRoll := x.cntRoll + 1, cntDue := true, opCert := objCert o }) 0x9002 3 := by
  simp only [enrol, hk, Nat.reduceEqDiff, if_false]
  rfl

/-- The answer to an object, its event and its write of SE's registers change no other block. -/
theorem objectAnswered_drop {fm : Nat} (s : State) (f : Sec → Sec) (code d1 d2 status : Nat)
    (hf : ∀ x, (f x).life = x.life) (hfm : fm &&& 148176371712 = 148176371712) :
    (ack (logEvent ((requestForgotten s).onSec f) code d1 d2) status).drop fm = s.drop fm :=
  drop_sub hfm ((send_drop _ _ rfl).trans ((logEvent_drop _ _ _ _ _ rfl).trans
    ((State.onSec_drop rfl (.inr hf)).trans (State.onSec_drop rfl (.inr fun _ => rfl)))))

theorem objectAnswered_evt (s : State) (f : Sec → Sec) (code d1 d2 status : Nat) :
    (ack (logEvent ((requestForgotten s).onSec f) code d1 d2) status).evt = (logEvent s code d1 d2).evt :=
  logged_of (s := s) (x := (requestForgotten s).onSec f) rfl rfl rfl rfl code d1 d2 0 (.inr rfl)

theorem objectAnswered_outbox (s : State) (f : Sec → Sec) (code d1 d2 status : Nat) :
    (ack (logEvent ((requestForgotten s).onSec f) code d1 d2) status).outbox =
      .service (.ack (BitVec.ofNat 8 status) 0) :: s.outbox :=
  congrArg _ (logEvent_outbox ..)

/-! ### Frames of the service port (R353) -/

/-- A request that repeats the previous one gets the previous answer, and is not executed. -/
theorem serviceRequest_repeated (hp : s.portOpen .service = true) (ha : s.sec.svcAns = some a)
    (hq : s.sec.svcSeq = some (seq, content)) : serviceRequest s seq content run = send s (.service a) := by
  simp only [serviceRequest, hp, ha, hq, Bool.not_true, Bool.false_eq_true, if_false, beq_self_eq_true, if_true]

theorem exec_svcBulk_outward (hp : s.portOpen .service = true) (hs : stream ≠ 1) (hn : s.sec.svcAns = none) :
    exec (.svcBulk seq stream off data) s =
      .next (serviceSent s seq (3#8 :: natBytes 1 stream ++ natBytes 4 off ++ data) (.ack 7#8 0)) :=
  congrArg _ (serviceRequest_fresh hp (.inl hn) (if_neg hs) rfl)

theorem exec_svcFrameGapTimeout_open (hp : s.portOpen .service = true) :
    exec .svcFrameGapTimeout s = .next (logEvent s 0x9007 1) := if_pos hp

theorem exec_svcFrameCrcFail_open (hp : s.portOpen .service = true) : exec (.svcFrameCrcFail seq) s =
    .next (logEvent (send (s.onSec fun x => { x with svcBad := bump 16 x.svcBad }) (.service (.nak seq))) 0x9007 0) :=
  if_pos hp

/-! ### JTAG (R354) -/

theorem exec_jtagTapReset_runs (h : s.tapRuns = true) : exec .jtagTapReset s =
    .next (s.onSec fun x => { x with jtag := .idcode, jtagLogged := false, jtagLife := x.life }) := if_pos h

/-- The lifecycle states in which Table 15.9 permits an instruction. -/
theorem jtagPermits_of (h : i = .idcode ∨ i = .sample ∨ i = .bypass ∨ s.sec.jtagLife = 0 ∨
    i = .extest ∧ s.sec.jtagLife = 1 ∧ s.dev.extestSeen = false) : s.jtagPermits i = true := by
  rcases h with rfl | rfl | rfl | hlife | ⟨rfl, hlife, hseen⟩
  · rfl
  · rfl
  · rfl
  · cases i <;> simp only [State.jtagPermits, hlife, beq_self_eq_true, Bool.true_or]
  · simp only [State.jtagPermits, hlife, hseen, beq_self_eq_true, Bool.not_false, Bool.and_self, Bool.or_true]

theorem exec_jtagInstruction_permitted (h : s.tapRuns = true) (hi : s.jtagPermits i = true) :
    exec (.jtagInstruction i) s = .next (s.onSec fun x => { x with jtag := i }) := by
  simp only [exec, execJtagInstruction, h, hi, Bool.not_true, Bool.false_eq_true, if_false, if_true]

/-- Beyond manufacture REGACC and DEBUG execute as BYPASS. -/
theorem exec_jtagInstruction_barred (h : s.tapRuns = true) (hi : i = .regacc ∨ i = .debug) (hl : s.sec.jtagLife ≠ 0) :
    exec (.jtagInstruction i) s = .next (if s.sec.jtagLogged then
      s.onSec fun x => { x with jtag := .bypass, jtagLogged := true }
      else logEvent (s.onSec fun x => { x with jtag := .bypass, jtagLogged := true }) 0x9006 i.code) := by
  have hbarred : s.jtagPermits i = false := by
    obtain rfl | rfl := hi <;> exact beq_eq_false_iff_ne.mpr hl
  simp only [exec, execJtagInstruction, h, hbarred, Bool.not_true, Bool.false_eq_true, if_false]

end

/-- Settles O48: the commands by the checks that accept or refuse them, and an object by the result that SE gives it. -/
theorem attestationAndLifecycle : Obligations.AttestationAndLifecycle := by
  unfold Obligations.AttestationAndLifecycle
  refine ⟨?_, ?_, ?_, ?_, ?_, ?_, ?_, ?_, ?_⟩
  · -- SEC_CMD_ATTEST
    intro s p hg ha hc hw hm hd hh
    exact completes_granted rfl hg (opAttest_starts ha hc hw hm hd hh) ⟨rfl, answered_of rfl⟩
      (opAttest_drop s rfl) rfl rfl
  · -- SEC_CMD_ATTEST refused
    intro s p hg h
    exact completes_unchanged rfl hg (opAttest_refused h)
  · -- ATTEST_SIGNED
    intro s ha hc hh
    refine completes_within (exec_attestSigned_signs ha hc hh) ?_
      ((logEvent_drop _ _ _ _ _ rfl).trans (State.onSec_drop rfl (.inr fun _ => rfl)))
    rw [logEvent_sec]
    refine ⟨rfl, rfl, rfl, rfl, rfl, ?_, logged_of rfl rfl rfl rfl _ _ _ _⟩
    exact (List.length_append ..).trans (congrArg _ (signature_length _))
  · -- SEC_COUNTER_WRITE
    intro s hc hw hh
    exact completes_within (exec_secCounterWrite_due hc hw hh) rfl rfl
  · -- SEC_CMD_STEP_FIELD
    intro s hg hl hc hr hw
    have hop := opStepField_steps hl hc hr hw
    refine completes_granted (op := opStepField) rfl hg hop ⟨?_, ?_, answered_of (logEvent_outbox ..)⟩
      (opStepField_drop s rfl) rfl rfl
    · rw [answer_sec, logEvent_sec]
      rfl
    · exact (answer_evt ..).trans (logged_of rfl rfl rfl rfl _ _ _ _)
  · -- SEC_CMD_STEP_FIELD refused
    intro s hg h
    have hop := opStepField_refused h
    refine completes_granted (op := opStepField) rfl hg hop ⟨answer_evt .., answered_of (logEvent_outbox ..)⟩ ?_ rfl rfl
    rw [hop]
    exact logEvent_drop s _ _ _ _ rfl
  · -- SEC_CMD_STEP_FIELD on another port
    intro s p hp hs
    refine completes_within (exec_secCmdStepField_denied hp hs) ?_
      ((answer_drop _ p 2 rfl).trans (deny_drop s p .identity _ rfl))
    obtain ⟨hcount, haddr⟩ := deny_counted (s := s) (p := p) (addr := secCmdAddr) .identity
    rw [answer_sec]
    exact ⟨hcount, haddr, deny_sec_life .., rfl⟩
  · -- ENROLMENT_OBJECT of a roll kind that is refused
    intro s o hp hh hk hr
    exact completes_within (exec_enrolmentObject_refused hp hh hk hr)
      ⟨rfl, rfl, rfl, rfl, objectAnswered_outbox ..⟩ (objectAnswered_drop s _ _ _ _ _ (fun _ => rfl) rfl)
  · -- ENROLMENT_OBJECT of a certificate roll
    intro s o hp hh hk
    by_cases hr : s.enrolResult o = 1
    · have hexec := exec_enrolmentObject_roll hp hh hk hr
      rw [enrol_roll hk] at hexec
      exact completes_within hexec ⟨hr.symm, rfl, rfl, fun _ => ⟨rfl, rfl, rfl,
        objectAnswered_evt .., objectAnswered_outbox ..⟩, fun hne => absurd hr hne⟩
        (objectAnswered_drop s _ _ _ _ _ (fun _ => rfl) rfl)
    · exact completes_within (exec_enrolmentObject_refused hp hh (hk ▸ Nat.le_refl 3) hr)
        ⟨rfl, rfl, rfl, fun he => absurd he hr, fun _ => ⟨rfl, rfl, objectAnswered_outbox ..⟩⟩
        (objectAnswered_drop s _ _ _ _ _ (fun _ => rfl) rfl)

/-- Settles O49: a request by `serviceRequest`, and an instruction by `State.jtagPermits`. -/
theorem serviceFramesAndJtag : Obligations.ServiceFramesAndJtag := by
  unfold Obligations.ServiceFramesAndJtag
  refine ⟨?_, ?_, ?_, ?_, ?_, ?_, ?_, ?_⟩
  · -- SVC_BULK of a stream that flows from the device
    intro s seq stream off data hp hs hn
    exact completes_within (exec_svcBulk_outward hp hs hn) ⟨rfl, rfl⟩ rfl
  · -- SVC_BULK repeated
    intro s seq stream off data a hp ha hq
    exact completes_within (congrArg Host.Outcome.next (serviceRequest_repeated hp ha hq)) rfl rfl
  · -- SVC_REG_REQ repeated
    intro s seq ops a hp ha hq
    exact completes_within (congrArg Host.Outcome.next (serviceRequest_repeated hp ha hq)) rfl rfl
  · -- SVC_FRAME_GAP_TIMEOUT
    intro s hp
    exact completes_within (exec_svcFrameGapTimeout_open hp) rfl (logEvent_drop s _ _ _ _ rfl)
  · -- SVC_FRAME_CRC_FAIL
    intro s seq hp
    refine completes_within (exec_svcFrameCrcFail_open hp) ⟨?_, ?_, logged_of rfl rfl rfl rfl _ _ _ _⟩
      ((logEvent_drop _ _ _ _ _ rfl).trans ((send_drop _ _ rfl).trans (State.onSec_drop rfl (.inr fun _ => rfl))))
    · rw [logEvent_sec]; rfl
    · rw [logEvent_outbox]; rfl
  · -- JTAG_TAP_RESET
    intro s h
    exact completes_within (exec_jtagTapReset_runs h) rfl rfl
  · -- JTAG_INSTRUCTION that the state permits
    intro s i h hi
    exact completes_within (exec_jtagInstruction_permitted h (jtagPermits_of hi)) rfl rfl
  · -- JTAG_INSTRUCTION beyond manufacture
    intro s i h hi hl
    have hexec := exec_jtagInstruction_barred h hi hl
    cases hlog : s.sec.jtagLogged with
    | true =>
      rw [hlog, if_pos rfl] at hexec
      exact completes_within hexec ⟨rfl, fun h => absurd h (by decide), fun _ => rfl⟩ rfl
    | false =>
      rw [hlog, if_neg Bool.false_ne_true] at hexec
      refine completes_within hexec ⟨?_, fun _ => logged_of rfl rfl rfl rfl _ _ _ _, fun h => absurd h (by decide)⟩
        ((logEvent_drop _ _ _ _ _ rfl).trans (State.onSec_drop rfl (.inr fun _ => rfl)))
      rw [logEvent_sec]
      rfl

end Sys2Proof.Machine
end
